-- ==== Sys2Proof/Word.lean ====
section
/-! DEFINITION. Word.lean: the word types of the model and their plainest arithmetic (R6, R8, R17). -/

namespace Sys2Proof

/-- A byte of device memory (R8). -/
abbrev Byte := BitVec 8

/-- A register is 32 bits wide (00, "Registers and access codes"). -/
abbrev W32 := BitVec 32

/-- The 128-bit word of the variable-latency world (R18, R23). -/
abbrev W128 := BitVec 128

/-- Bits `[lo + w - 1 : lo]` of a number (R6). -/
def bitsOf (x lo w : Nat) : Nat := (x / 2 ^ lo) % 2 ^ w

/-- Bit `i` of a number. -/
def bitOf (x i : Nat) : Nat := (x / 2 ^ i) % 2

/-- The number with bits `[lo + w - 1 : lo]` replaced by `v`. -/
def setBits (x lo w v : Nat) : Nat :=
  x - bitsOf x lo w * 2 ^ lo + (v % 2 ^ w) * 2 ^ lo

/-- The number of ones among the low `n` bits. -/
def popCount (n x : Nat) : Nat :=
  match n with
  | 0 => 0
  | n + 1 => popCount n x + bitOf x n

/-- The lowest index below `n` (scanning up from `i`) whose bit of `x` is one. -/
def lowestOne (x : Nat) : Nat → Nat → Option Nat
  | 0, _ => none
  | n + 1, i => if bitOf x i = 1 then some i else lowestOne x n (i + 1)

/-- `1` for true and `0` for false, as register bits are written. -/
def b2n (b : Bool) : Nat := if b then 1 else 0

/-- Two's-complement reading of the low `w` bits. -/
def signedOf (w x : Nat) : Int :=
  let v := x % 2 ^ w
  if v < 2 ^ (w - 1) then (v : Int) else (v : Int) - (2 ^ w : Nat)

/-- The low `w` bits of an integer in two's complement. -/
def ofSigned (w : Nat) (i : Int) : Nat := (i % ((2 ^ w : Nat) : Int)).toNat

end Sys2Proof
end

