-- ==== Sys2Proof/Machine/Store.lean ====
section
/-! DEFINITION. Machine/Store.lean: sparse data by key. A store lists (key, value) pairs with strictly rising keys;
an unlisted key reads as a value that the owner of the store fixes (R16, R542). -/

namespace Sys2Proof.Machine

/-- A sparse store: pairs of a key and a value, the keys strictly rising. -/
abbrev SMap (α : Type) := List (Nat × α)

/-- The value at key `q`; an unlisted key reads as `d`. -/
def SMap.get {α : Type} (d : α) (m : SMap α) (q : Nat) : α :=
  match m with
  | [] => d
  | (k, v) :: r => if q = k then v else SMap.get d r q

/-- List `v` at key `q`. -/
def SMap.put {α : Type} (m : SMap α) (q : Nat) (v : α) : SMap α :=
  match m with
  | [] => [(q, v)]
  | (k, x) :: r =>
    if q = k then (q, v) :: r
    else if q < k then (q, v) :: (k, x) :: r
    else (k, x) :: SMap.put r q v

/-- Unlist key `q`. -/
def SMap.del {α : Type} (m : SMap α) (q : Nat) : SMap α := m.filter (fun e => e.1 != q)

/-- Write `v` at key `q`, keeping the canonical form: a value equal to what an unlisted key reads as is not listed. -/
def SMap.set {α : Type} [DecidableEq α] (d : α) (m : SMap α) (q : Nat) (v : α) : SMap α :=
  if v = d then SMap.del m q else SMap.put m q v

/-- Every key of the store is above `b`, and the keys strictly rise. -/
def SMap.risesFrom {α : Type} (b : Nat) (m : SMap α) : Bool :=
  match m with
  | [] => true
  | (k, _) :: r => decide (b ≤ k) && SMap.risesFrom (k + 1) r

/-- The keys strictly rise. -/
def SMap.sorted {α : Type} (m : SMap α) : Bool := SMap.risesFrom 0 m

/-- The canonical form: strictly rising keys, and no entry equal to what an unlisted key reads as. -/
def SMap.wf {α : Type} [DecidableEq α] (d : α) (m : SMap α) : Bool :=
  SMap.sorted m && m.all (fun e => decide (e.2 ≠ d))

/-- Unlist every key from `lo` up to but not including `hi`. -/
def SMap.delRange {α : Type} (m : SMap α) (lo hi : Nat) : SMap α :=
  m.filter (fun e => decide (e.1 < lo) || decide (hi ≤ e.1))

/-- Keep the entries whose key satisfies `p`. -/
def SMap.keep {α : Type} (m : SMap α) (p : Nat → Bool) : SMap α :=
  m.filter (fun e => p e.1)

end Sys2Proof.Machine
end

