-- ==== Sys2Proof/Machine/RegField.lean ====
section
/-! DEFINITION. Machine/RegField.lean: what a register field is: its page, its place, its access code (R9) and its
reset value (R16), and how a field is keyed in the register store. -/

namespace Sys2Proof.Machine

/-- The pages of the register space (R507). `noc` stands for the 44 NOC_ pages; its channel is the node. -/
inductive Page where
  | dev | pwr | hst | log | dbg | trc | irq | hms | tim | eth | cas | lne | res | cfg | fab | orc | prt | dmb | mdc
  | acq | noc
  deriving DecidableEq, Repr

/-- TYPE of a page (R507). -/
def Page.type : Page → Nat
  | .dev => 0x01 | .pwr => 0x02 | .hst => 0x03 | .log => 0x04 | .dbg => 0x05 | .trc => 0x06 | .irq => 0x07
  | .hms => 0x08 | .tim => 0x09 | .eth => 0x0A | .cas => 0x0B | .lne => 0x0C | .res => 0x0D | .cfg => 0x0E
  | .fab => 0x0F | .orc => 0x10 | .prt => 0x11 | .dmb => 0x12 | .mdc => 0x13 | .acq => 0x14 | .noc => 0x15

/-- The page of a TYPE (R507). -/
def Page.ofType : Nat → Option Page
  | 0x01 => some .dev | 0x02 => some .pwr | 0x03 => some .hst | 0x04 => some .log | 0x05 => some .dbg
  | 0x06 => some .trc | 0x07 => some .irq | 0x08 => some .hms | 0x09 => some .tim | 0x0A => some .eth
  | 0x0B => some .cas | 0x0C => some .lne | 0x0D => some .res | 0x0E => some .cfg | 0x0F => some .fab
  | 0x10 => some .orc | 0x11 => some .prt | 0x12 => some .dmb | 0x13 => some .mdc | 0x14 => some .acq
  | 0x15 => some .noc | _ => none

/-- Channels of a replicated page (R507); 0 for a page that is not replicated. -/
def Page.channels : Page → Nat
  | .lne => 32 | .orc => 64 | .prt => 64 | .dmb => 64 | .mdc => 16 | .acq => 4 | _ => 0

/-- The access codes of R9. -/
inductive Acc where
  | rw | ro | w1c | w1s | wo | rc | rwl
  deriving DecidableEq, Repr

/-- One register field: page, offset of its register, lowest bit, width, access code and reset value. -/
structure Fld where
  page  : Page
  off   : Nat
  lo    : Nat
  width : Nat
  acc   : Acc
  reset : Nat
  deriving DecidableEq, Repr

/-- The registers of one row of a register table: base offset, stride and number of instances, and the fields. -/
structure RegRow where
  base   : Nat
  stride : Nat
  count  : Nat
  flds   : Nat → List Fld

/-- Reset KIND of `IRQ_TARGETi`: sources 144 to 159 are fixed to a model core and source 186 to control core 0; every
other target is none (R384, R385). -/
def fixedTargetKind (i : Nat) : Nat :=
  if 144 ≤ i ∧ i ≤ 159 then 2 else if i = 186 then 1 else 0

/-- Reset INDEX of `IRQ_TARGETi` (R384). -/
def fixedTargetIndex (i : Nat) : Nat := if 144 ≤ i ∧ i ≤ 159 then i - 144 else 0

/-- The key of a field of a channel in the register store: the register space laid out page by page, channel by
channel, offset by offset, bit by bit. A page has at most 256 channels (R507). -/
def Fld.key (f : Fld) (ch : Nat) : Nat := 2 ^ 25 * f.page.type + 2 ^ 17 * (ch % 256) + 32 * (f.off % 4096) + f.lo % 32

end Sys2Proof.Machine
end

