-- ==== Sys2Proof/Syntax.lean ====
section
/-! DEFINITION. Syntax.lean: the commands of the block, one constructor of Instr per row of spec/opcode_table.json,
with the types of their operands. A command that stands for an event of the world around the device carries what the
event brings (a packet, a frame, a sample). -/

namespace Sys2Proof
open Sys2Proof.Machine

/-- Who makes a register access (R15, R120, R121): the host through BAR0, control core k, the JTAG debug front end,
the PCIe debug front end, or model core m. -/
inductive Accessor where
  | host
  | fw (k : Fin 4)
  | jtag
  | pcieDbg
  | core (m : Fin 16)
  deriving DecidableEq, Repr

/-- The address of a register: its page, the node for a NOC_ page (0 otherwise), and the offset in the page. -/
structure RegAddr where
  page : Page
  node : Fin 64
  off  : Fin 4096
  deriving DecidableEq, Repr

/-- A physical upset that reaches a store before the command acts: a store class (R234), a location in it, and what
the location's check then reports: 1 correctable, 2 uncorrectable, 3 seal failure, 4 correctable with a corrected word
whose seal fails. -/
structure Upset where
  cls  : Nat
  idx  : Nat
  kind : Fin 5
  deriving DecidableEq, Repr

/-- The values the last synchroniser stages of inbound fabric ports hold at a release, by logical bunch (R20). -/
abbrev Inbound := List (Fin 64 × BitVec 64)

/-- A request packet at its destination (R400): header fields, data words, the seals that the data flits carry (R18, R23),
and whether the header flit's seal checks. -/
structure Packet where
  dest   : Fin 64
  src    : Fin 64
  tag    : Fin 64
  op     : Fin 16
  byteEn : BitVec 16
  addr   : BitVec 40
  len    : Fin 16
  data   : List W128
  seals  : List (BitVec 16)
  sealOk : Bool
  deriving DecidableEq, Repr

/-- A data flit of a packet: its word and the seal that came with it (R18, R400). -/
structure SealedWord where
  word     : W128
  sealBits : BitVec 16
  deriving DecidableEq, Repr

/-- The sync headers that a lane of a port sees, one after the other (R201). -/
structure LaneHeaders where
  lane    : Fin 8
  headers : List (BitVec 2)
  deriving DecidableEq, Repr

/-- A Benmet frame as received: 16-bit sequence, 24 payload blocks (step j's 192 bits at [192j+191:192j]), slot tags
and the CRC-32C the frame carries (R210). -/
structure FrameIn where
  pay  : BitVec 1536
  tags : BitVec 32
  crc  : BitVec 32
  deriving DecidableEq, Repr

/-- The kinds of cascade orders (R228). -/
inductive OrderKind where
  | start | release | resume | stop | halt | unhalt | stepfreq
  deriving DecidableEq, Repr

/-- The kinds of cascade reports (R228). -/
inductive ReportKind where
  | tagFault | stopReq | haltReq | throttleReq | fault
  deriving DecidableEq, Repr


/-- A PCIe configuration request (R449, R458): a read of a dword, or a write of the Command register (Memory Space Enable,
Bus Master Enable), of MSI-X Message Control (enable, function mask) or of the address of BAR0 or BAR2. -/
inductive CfgRequest where
  | read (dword : Fin 1024)
  | command (mse bme : Bool)
  | msix (en mask : Bool)
  | bar (second : Bool) (addr : BitVec 64)
  deriving DecidableEq, Repr

/-- A host memory request (R450, R451): to BAR0, with its size in bytes, or to BAR2, a list of 128-bit words with their
byte enables, the first at the offset. -/
inductive HostRequest where
  | bar0 (off : BitVec 26) (size : Fin 65) (write : Bool) (v : BitVec 64)
  | bar2 (off : BitVec 28) (write : Bool) (words : List (BitVec 16 × W128))
  deriving DecidableEq, Repr


/-- The commands (spec/opcode_table.json). -/
inductive Instr where
  /-- REGISTER_WRITE (R9): A write to a register that has no row of its own stores or acts on each field according to its access code. -/
  | registerWrite (a : Accessor) (r : RegAddr) (v : W32) (size : Fin 16)
  /-- SELECT_WRITE (R120): A write to SELECT changes only the writer's shadow; a channel beyond the page's last channel is ignored and recorded. -/
  | selectWrite (a : Accessor) (r : RegAddr) (v : W32)
  /-- WIDE_WORD_STAGE (R15): A write of the low word or a middle word of a 128-bit value stores that word in the writer's staging. -/
  | wideWordStage (a : Accessor) (r : RegAddr) (v : W32)
  /-- WIDE_WORD_APPLY (R15): A write of the high word applies the staged words and the high word together in one clock and empties the staging. -/
  | wideWordApply (a : Accessor) (r : RegAddr) (v : W32)
  /-- WIDE_WORD_CAPTURE (R15): A read of the low word of a 128-bit value captures the upper three words for that reader. -/
  | wideWordCapture (a : Accessor) (r : RegAddr)
  /-- PAIR_LO_READ (R107): A read of a _LO word captures the matching _HI word for the reading accessor. -/
  | pairLoRead (a : Accessor) (r : RegAddr)
  /-- CLEARING_READ (R12): A read of an RC field returns its value and clears it, unless it is a quiet debug-path read. -/
  | clearingRead (a : Accessor) (r : RegAddr)
  /-- NOC_REQUEST (R400): A request packet arrives at its destination node and is performed or answered with an error status. -/
  | nocRequest (k : Packet)
  /-- NOC_RESPONSE (R400): A response packet arrives at the requesting quay and completes the access. -/
  | nocResponse (q : Fin 44) (tag : Fin 64) (status : Fin 8) (data : List SealedWord) (sealOk : Bool)
  /-- QUAY_DEAD (R403): An edge router whose quay holds a flit for 65,536 cycles, or leaves a request unanswered for 1,048,576 cycles, declares it dead. -/
  | quayDead (q : Fin 44)
  /-- REVIVE (R403): A write of NOC_CTRL.REVIVE reconnects a dead quay with full credits. -/
  | revive (a : Accessor) (q : Fin 44)
  /-- STEP (R54): On a step tick a partition executes step s in all its bunches: operands read, results written to rows, lanes, channels and destinations. -/
  | step (p : Fin 64) (u : List Upset)
  /-- CYCLE_RELEASE (R86): A release occurs; on time it begins step 0, otherwise it is missed, made pending or lost. -/
  | cycleRelease (p : Fin 64) (b : Inbound)
  /-- TIMER_INSTANT (R90): The time base reaches the partition timer's next grid instant and produces a release. -/
  | timerInstant (p : Fin 64) (b : Inbound)
  /-- RELEASE_LINE_EDGE (R94): The selected edge of a release line reaches the first synchroniser stage and releases two ticks later. -/
  | releaseLineEdge (l : Fin 32) (rising : Bool)
  /-- CYCLE_BOUNDARY (R99): After step D − 1 the boundary flips XPHASE, copies exchange buffers, presents outbound bits and increments PRT_CYCLE. -/
  | cycleBoundary (p : Fin 64) (b : Inbound)
  /-- FAR_TRANSFER_COMPLETE (R65): The NoC transfer of a far command completes and ends the partition's FAR_MEM stall. -/
  | farTransferComplete (p : Fin 64) (n : Fin 64) (status : Fin 8) (w : W128)
  /-- LOAD_BEGIN (R103): Ungates the bunches, engages isolation, clears partition state and goes to Loading. -/
  | loadBegin (a : Accessor) (p : Fin 64)
  /-- LOAD_END (R103): Goes to Loaded if no image word was refused, clearing the exchange window, else sets LOAD_ERROR. -/
  | loadEnd (a : Accessor) (p : Fin 64)
  /-- START (R103): Moves a Loaded or Stopped partition to Armed unless a release, timer or exchange check fails. -/
  | start (a : Accessor) (p : Fin 64)
  /-- STOP (R103): Stops a partition at once when waiting or at the cycle boundary when running. -/
  | stop (a : Accessor) (p : Fin 64)
  /-- SINGLE (R103): Runs exactly one cycle from the next tick and then goes to Stopped. -/
  | single (a : Accessor) (p : Fin 64)
  /-- RESUME (R103): Returns a Frozen partition to its earlier state at the step where it froze. -/
  | resume (a : Accessor) (p : Fin 64)
  /-- UNLOAD (R103): Engages isolation, goes to Unloaded and gates the bunches. -/
  | unload (a : Accessor) (p : Fin 64)
  /-- BUNCHES_WRITE (R78): A write to PRT_BUNCHES is refused if it puts a bunch in a second partition or the partition is not Unloaded. -/
  | bunchesWrite (a : Accessor) (p : Fin 64) (hi : Bool) (v : W32)
  /-- EXCH_WRITE (R101): A write of PRT_EXCH accepted in Loaded clears all four buffers of every register in the new window. -/
  | exchWrite (a : Accessor) (p : Fin 64) (v : W32)
  /-- ISOLATE_WRITE (R117): A write of PRT_ISOLATE takes effect on the next tick, and a field of 11 makes it ignored. -/
  | isolateWrite (a : Accessor) (p : Fin 64) (v : W32)
  /-- BUNCH_UNGATE_DONE (R467): Once every bunch is ungated STATE reads Loading and held loader words and commands proceed. -/
  | bunchUngateDone (p : Fin 64)
  /-- INSTRUCTION_WORD_WRITE (R185): The instruction-store loader stores an image word with ECC after checking its seal. -/
  | instructionWordWrite (p : Fin 64) (n : Fin 64) (b : Fin 16) (st : Fin 1024) (pip : Fin 64) (w : W128) (chk : BitVec 16)
  /-- BERRY_REMAP_WRITE (R75): A write of ORC_BERRY_REMAP sets the spare berry's replacement, subject to the lock and spare-bad rules. -/
  | berryRemapWrite (a : Accessor) (n : Fin 64) (v : W32)
  /-- BUNCH_REMAP_WRITE (R75): A write of ORC_BUNCH_REMAP sets the spare bunch's replacement, subject to the lock and spare-bad rules. -/
  | bunchRemapWrite (a : Accessor) (n : Fin 64) (v : W32)
  /-- SPARE_FAILURE (R76): The GY8640 detects a failure in a spare in use and sets its spare-bad bit. -/
  | spareFailure (n : Fin 64) (ofBunch : Bool)
  /-- BANK_NOC_ACCESS (R131): A bank performs a queued NoC access in its NoC slot after the berth check. -/
  | bankNocAccess (b : Fin 64) (u : List Upset)
  /-- ECC_WRITEBACK (R127): A corrected word is written back in the next NoC slot with no other work. -/
  | eccWriteback (b : Fin 64)
  /-- BERTH_WRITE (R141): A write of DMB_BERTH starts a handover to the new owner, or is refused. -/
  | berthWrite (a : Accessor) (b : Fin 64) (v : W32)
  /-- HANDOVER_COMPLETE (R142): At T1 the old owner's accepted accesses are done, the new owner is served and HANDOVER_DONE is set. -/
  | handoverComplete (b : Fin 64)
  /-- TESTER_OPERATION (R148): The background tester performs one Save, March, Repair or Restore operation in a free NoC slot. -/
  | testerOperation (b : Fin 64) (fails : Bool)
  /-- REPAIR_ENTRY_WRITE (R154): A write to a DMB_REPAIR entry is accepted only while the bank is berthed to None. -/
  | repairEntryWrite (a : Accessor) (b : Fin 64) (k : Fin 16) (v : W32)
  /-- JOURNAL_WRITE (R155): The bank writes a write's pre-image and word index to the journal and increments the count. -/
  | journalWrite (b : Fin 64)
  /-- JOURNAL_RESTORE (R157): The journal writes pre-images back newest first, one per NoC slot, then clears the count. -/
  | journalRestore (b : Fin 64)
  /-- RESTORE_DONE (R254): Once journals, shadow rows and snapshot registers are restored, replay of cycles c_s onward begins. -/
  | restoreDone (p : Fin 64)
  /-- IS_WRITEBACK (R235): A corrected instruction word is written back in the berry's next free service slot. -/
  | isWriteback (n : Fin 64) (b : Fin 16)
  /-- IS_SCRUB_READ (R236): Every 64 steps the scrubber reads one step block of each berry and writes back corrected words. -/
  | isScrubRead (n : Fin 64) (b : Fin 16) (st : Fin 1024) (u : List Upset)
  /-- REFETCH_COMPLETE (R238): The refetched word is stored and the repeated fetch ends the REFETCH stall or leads to a remap. -/
  | refetchComplete (n : Fin 64) (b : Fin 16) (st : Fin 1024) (pip : Fin 64) (w : W128) (chk : BitVec 16) (badAgain : Bool)
  /-- BERRY_REMAP_DONE (R239): The spare holds the instructions and rows, ORC_BERRY_REMAP is written, a repair record is logged and the stall ends. -/
  | berryRemapDone (n : Fin 64) (b : Fin 16)
  /-- SS_SCRUB_READ (R241): Every 1,024 ticks the step-store scrubber reads one row per berry and rewrites single-bit errors. -/
  | ssScrubRead (n : Fin 64) (b : Fin 16) (r : Fin 1024) (u : List Upset)
  /-- JOIN (R249): RES_CMD JOIN starts the rejoin of a failed member. -/
  | join (a : Accessor) (p : Fin 64)
  /-- REJOIN_PHASE_END (R249): A rejoin phase ends and the next begins, up to lockstep with REJOIN_DONE. -/
  | rejoinPhaseEnd (p : Fin 64)
  /-- CHECK (R261): RES_CMD CHECK runs the retention check on demand. -/
  | check (a : Accessor)
  /-- VDD_CORE_WARNING (R258): VDD_CORE falls below 0.705 V and a dip begins. -/
  | vddCoreWarning (tick : BitVec 64)
  /-- VDD_CORE_RECOVERY (R258): VDD_CORE rises above 0.715 V within the window and the retention check begins. -/
  | vddCoreRecovery (us : Fin 65536)
  /-- DIP_WINDOW_EXPIRY (R258): 50 µs after the warning crossing with the supply still low, DIP_STATE becomes 3. -/
  | dipWindowExpiry
  /-- RETENTION_CHECK_DONE (R259): The retention check finishes and reports good or bad retention. -/
  | retentionCheckDone (u : List Upset)
  /-- LOGBOOK_WRITE (R263): The logbook controller writes an entry, words 0 to 2 first and word 3 last. -/
  | logbookWrite
  /-- LOGBOOK_SCAN_DONE (R264): The entry scan completes, finds the head and sets SCAN_DONE. -/
  | logbookScanDone
  /-- LOG_USER_CMD (R270): Appends a CLASS 0 host entry with the given CODE and LOG_USER data. -/
  | logUserCmd (a : Accessor) (v : W32)
  /-- PORT_ENABLE (R199): CAS_Pn_CTRL.EN = 1 starts port bring-up at DETECT. -/
  | portEnable (a : Accessor) (n : Fin 4)
  /-- PORT_DISABLE (R199): CAS_Pn_CTRL.EN = 0 stops the port. -/
  | portDisable (a : Accessor) (n : Fin 4)
  /-- BRINGUP_STAGE_DONE (R199): A bring-up stage's end condition holds and the port moves to the next stage. -/
  | bringupStageDone (n : Fin 4) (lanes : BitVec 8) (trip : Fin 1024) (order : Fin 1024)
  /-- BRINGUP_TIMEOUT (R199): A stage that does not finish within its timeout leaves the port FAILED with the stage's code. -/
  | bringupTimeout (n : Fin 4)
  /-- TRAIN (R202): A received TRAIN ordered set gives the peer's lane number, CAS_ID and MASTER_SEL. -/
  | train (n : Fin 4) (lane : Fin 8) (heard : Fin 8) (id : Fin 64) (master : Bool)
  /-- LANE_MARK (R203): A received LANE_MARK aligns the lanes on one block boundary. -/
  | laneMark (n : Fin 4) (lane : Fin 8) (delay : Fin 256)
  /-- BLOCK_LOCK_LOSS (R205): A READY port that loses block lock enters RETRAIN. -/
  | blockLockLoss (n : Fin 4) (lane : LaneHeaders)
  /-- RETRAIN_DONE (R205): Retraining finishes and the port returns to READY and resumes by replay, or fails. -/
  | retrainDone (n : Fin 4) (trip : Fin 1024) (order : Fin 1024)
  /-- RETRAIN_TIMEOUT (R205): Retraining not finished within 2 ms puts the port in FAILED with code 10. -/
  | retrainTimeout (n : Fin 4)
  /-- LANE_POWER_REQUEST (R207): A write of LS_REQ sends QUIET or COLD, or starts the exit to LS0. -/
  | lanePowerRequest (a : Accessor) (n : Fin 4) (req : Fin 4)
  /-- QUIET (R207): A received QUIET is answered and both ends enter LS1. -/
  | quiet (n : Fin 4)
  /-- COLD (R207): A received COLD is answered and both ends enter LS2. -/
  | cold (n : Fin 4)
  /-- WAKE_BURST (R207): A wake burst from the peer starts the exit from LS1 or LS2. -/
  | wakeBurst (n : Fin 4)
  /-- CASCADE_FRAME_SEND (R210): After step 8g + 7 the sender sends frame g when it holds a credit and replay room. -/
  | cascadeFrameSend (n : Fin 4)
  /-- CASCADE_FRAME_RECEIVE (R220): A received frame is checked and buffered, or discarded with a NAK on CRC failure. -/
  | cascadeFrameReceive (n : Fin 4) (f : FrameIn)
  /-- LINK_STATUS (R219): A received LINK_STATUS acknowledges frames and returns credits. -/
  | linkStatus (n : Fin 4) (ack : BitVec 16) (credits : BitVec 8)
  /-- NAK (R220): A received NAK makes the sender send REPLAY and resend frames from the sequence. -/
  | nak (n : Fin 4) (seq : BitVec 16)
  /-- REPLAY (R220): A received REPLAY makes the receiver accept data again. -/
  | replay (n : Fin 4) (seq : BitVec 16)
  /-- ORDER_ARRIVAL (R227): An ORDER arrives on the up port, is forwarded down the tree and its countdown adjusted. -/
  | orderArrival (kind : OrderKind) (countdown : BitVec 16) (arg : BitVec 24)
  /-- START_ORDER (R230): START lands: cascade tick 0, STARTED set and first releases. -/
  | startOrder (b : Inbound)
  /-- RELEASE_ORDER (R198): A RELEASE order lands and releases the cascade unit. -/
  | releaseOrder (b : Inbound)
  /-- RESUME_ORDER (R223): RESUME lands and the held unit executes its next step in every package. -/
  | resumeOrder
  /-- STOP_ORDER (R229): STOP lands at a cycle boundary and every unit partition goes to Stopped. -/
  | stopOrder
  /-- HALT_ORDER (R494): HALT lands and every package halts emulation on the same tick. -/
  | haltOrder
  /-- UNHALT_ORDER (R494): UNHALT lands and every package releases the emulation halt. -/
  | unhaltOrder
  /-- STEPFREQ_ORDER (R472): STEPFREQ lands and every package changes its step frequency on the same tick. -/
  | stepfreqOrder
  /-- TAG_FAULT_REPORT (R217): The master receives TAG_FAULT and issues no further release to the unit. -/
  | tagFaultReport (origin : Fin 64) (arg : W32)
  /-- STOP_REQ_REPORT (R229): The master receives STOP_REQ and orders STOP at a boundary at least CAS_LEAD ahead. -/
  | stopReqReport (origin : Fin 64) (arg : W32)
  /-- HALT_REQ_REPORT (R494): The master receives HALT_REQ and orders HALT. -/
  | haltReqReport (origin : Fin 64) (arg : W32)
  /-- THROTTLE_REQ_REPORT (R472): The master receives THROTTLE_REQ and orders the lowest requested step frequency. -/
  | throttleReqReport (origin : Fin 64) (arg : W32)
  /-- FAULT_REPORT (R228): The master receives a FAULT report from a package. -/
  | faultReport (origin : Fin 64) (arg : W32)
  /-- HOLD_SLOT_CHECK (R222): At each slot tick a package drives HOLD_N low if needed deliveries are missing, and acts on the sample. -/
  | holdSlotCheck (tick : BitVec 64) (low : Bool) (done : Bool)
  /-- HOLD_BEGIN (R223): Sixteen ticks after a low sample the unit is held in every package and a CASCADE stall begins. -/
  | holdBegin (tick : BitVec 64)
  /-- START_ISSUE (R230): After 8 consecutive high samples of HOLD_N and DONE the master sends START. -/
  | startIssue
  /-- PERIOD_RELEASE (R198): Under REL_MODE 01 each package releases the unit every CAS_REL_PERIOD ticks. -/
  | periodRelease (tick : BitVec 64) (b : Inbound)
  /-- CAS_STOP (R229): CAS_CMD STOP stops the whole unit, or sends STOP_REQ from a non-master. -/
  | casStop (a : Accessor)
  /-- DONE_FALL (R231): DONE falling after START sets PORT_FAILED on the master, which keeps HOLD_N low. -/
  | doneFall
  /-- NETMAP_DATA_WRITE (R215): A write to CAS_NETMAP_DATA stores the entry at INDEX, or is refused, and may advance INDEX. -/
  | netmapDataWrite (a : Accessor) (v : W32)
  /-- NETMAP_DATA_READ (R215): A read of CAS_NETMAP_DATA returns the entry and, with AUTOINC, advances INDEX. -/
  | netmapDataRead (a : Accessor)
  /-- LOAD (R298): CFG_CMD LOAD shuts the fabric down and loads the primary full image. -/
  | load (a : Accessor)
  /-- LOAD_GOLDEN (R298): CFG_CMD LOAD_GOLDEN loads the golden image. -/
  | loadGolden (a : Accessor)
  /-- CLEAR (R298): CFG_CMD CLEAR shuts the fabric down, clears all frames and leaves it Unconfigured. -/
  | clear (a : Accessor)
  /-- STREAM (R309): CFG_CMD STREAM sends a region stream through the inner configuration port. -/
  | stream (a : Accessor)
  /-- STREAM_FETCH (R298): Fetched image bytes arrive from host memory and pass to the configuration engine. -/
  | streamFetch (words : List W32) (ok sealOk : Bool)
  /-- STREAM_MARKER (R291): The stream marker opens a stream; its absence within 64 words fails the stream. -/
  | streamMarker
  /-- NOP_RECORD (R293): A NOP record does nothing. -/
  | nopRecord
  /-- SET_DEVICE (R293): SET DEVICE checks the device word. -/
  | setDevice
  /-- SET_GCLK_A (R281): SET GCLK_A sets the sources of global clocks 0 to 3. -/
  | setGclkA
  /-- SET_GCLK_B (R281): SET GCLK_B sets the sources of global clocks 4 to 7. -/
  | setGclkB
  /-- SET_BANKV (R284): SET BANKV declares the bank voltages. -/
  | setBankv
  /-- SET_REGION (R293): SET REGION selects the whole fabric or a region for the stream. -/
  | setRegion
  /-- SET_FPLL0 (R282): SET FPLL0 sets fabric PLL 0. -/
  | setFpll0
  /-- SET_FPLL1 (R282): SET FPLL1 sets fabric PLL 1. -/
  | setFpll1
  /-- FRAMES (R295): A FRAMES header announces LENGTH frame entries. -/
  | frames
  /-- FRAME_ENTRY (R295): A frame entry is checked and its frame committed. -/
  | frameEntry
  /-- READ_RECORD (R292): A READ record on the inner port returns LENGTH corrected frames. -/
  | readRecord
  /-- CHECK_RECORD (R296): A CHECK record compares the stream check with its expected value. -/
  | checkRecord
  /-- ACTION_NONE (R294): ACTION NONE does nothing. -/
  | actionNone
  /-- CHECK_RESET (R294): ACTION CHECK_RESET clears the stream check. -/
  | checkReset
  /-- LAUNCH (R294): ACTION LAUNCH begins full or region start-up after a matching CHECK. -/
  | launch
  /-- END (R294): ACTION END closes the stream. -/
  | endStream
  /-- QUIESCE (R308): ACTION QUIESCE isolates the region, parks its I/O, holds it and asserts its set/reset. -/
  | quiesce
  /-- FRAME_CLEAR_DONE (R298): After a failed load the frames are cleared, then the engine falls back or enters Failed. -/
  | frameClearDone
  /-- STARTUP_PHASE (R301): Full start-up advances one phase per start-up clock or when its wait condition holds. -/
  | startupPhase (locked : BitVec 2) (done : Bool)
  /-- STARTUP_PLL_TIMEOUT (R301): Fabric PLLs not locked within 100 µs fail the load with error PLL. -/
  | startupPllTimeout
  /-- DONE_TIMEOUT (R302): Phase 3 waiting longer than CFG_DONE_TIMEOUT fails the load. -/
  | doneTimeout
  /-- RELEASE_BLANK_END (R303): Two step periods after start-up release-line edges are accepted again. -/
  | releaseBlankEnd
  /-- CP_WORD (R307): The inner configuration port takes a word from fabric logic. -/
  | cpWord (w : W32)
  /-- REGION_WRITE (R305): A write to CFG_REGIONk defines a region or is refused. -/
  | regionWrite (a : Accessor) (k : Fin 16) (v : W32)
  /-- REGION_STREAM_TIMEOUT (R309): A STREAM region stream not ended within 1 s fails with error LENGTH. -/
  | regionStreamTimeout
  /-- SCRUB_FRAME_READ (R310): The configuration scrubber reads a frame and checks its SECDED code. -/
  | scrubFrameRead (u : List Upset)
  /-- FRAME_REFETCH (R311): An uncorrectable frame is refetched from the full image in host memory and rewritten. -/
  | frameRefetch (words : List W32) (ok : Bool)
  /-- SCRUB_HEARTBEAT_TIMEOUT (R313): No scrubber heartbeat within 16 AON ticks restarts the scrub pass. -/
  | scrubHeartbeatTimeout
  /-- SCRUB_SETTINGS_FAULT (R313): A parity error or copy mismatch makes the supervisor reload the settings and restart. -/
  | scrubSettingsFault (shadowBad : Bool)
  /-- FRAME_WINDOW_READ (R290): A read of the frame window waits for the frame operation in progress and returns the corrected frame. -/
  | frameWindowRead (src tag : Fin 64) (f : Fin 4608) (k : Fin 32)
  /-- GCLK_LOST (R281): A global clock tree loses its PLL or clock pin and is held low. -/
  | gclkLost (t : Fin 8)
  /-- FABRIC_PLL_UNLOCK (R315): A locked fabric PLL loses lock. -/
  | fabricPllUnlock (p : Fin 2)
  /-- BANK_VOLTAGE_CHANGE (R284): A sensed bank voltage changes and BANK_CHANGE is set. -/
  | bankVoltageChange (b : Fin 12) (level : Fin 4)
  /-- NOP (R354): A NOP does nothing. -/
  | nop (m : Fin 16) (k : Fin 4)
  /-- VADD (R354): Adds lanes modulo the lane width. -/
  | vadd (m : Fin 16) (k : Fin 4)
  /-- VSUB (R354): Subtracts lanes modulo the lane width. -/
  | vsub (m : Fin 16) (k : Fin 4)
  /-- VADDS (R354): Adds lanes with saturation. -/
  | vadds (m : Fin 16) (k : Fin 4)
  /-- VSUBS (R354): Subtracts lanes with saturation. -/
  | vsubs (m : Fin 16) (k : Fin 4)
  /-- VAND (R354): Bitwise AND of 128 bits. -/
  | vand (m : Fin 16) (k : Fin 4)
  /-- VOR (R354): Bitwise OR of 128 bits. -/
  | vor (m : Fin 16) (k : Fin 4)
  /-- VXOR (R354): Bitwise XOR of 128 bits. -/
  | vxor (m : Fin 16) (k : Fin 4)
  /-- VSHL (R354): Shifts each lane left. -/
  | vshl (m : Fin 16) (k : Fin 4)
  /-- VSHRA (R354): Shifts each lane right arithmetically. -/
  | vshra (m : Fin 16) (k : Fin 4)
  /-- VSHRL (R354): Shifts each lane right logically. -/
  | vshrl (m : Fin 16) (k : Fin 4)
  /-- VCMP (R353): Sets each lane to all ones where the condition holds. -/
  | vcmp (m : Fin 16) (k : Fin 4)
  /-- VMIN (R354): Signed minimum of each lane. -/
  | vmin (m : Fin 16) (k : Fin 4)
  /-- VMAX (R354): Signed maximum of each lane. -/
  | vmax (m : Fin 16) (k : Fin 4)
  /-- VBCAST (R354): Copies one lane to every lane. -/
  | vbcast (m : Fin 16) (k : Fin 4)
  /-- MOVI (R354): Loads a sign-extended immediate. -/
  | movi (m : Fin 16) (k : Fin 4)
  /-- MAC (R330): Adds exact lane products to the accumulator. -/
  | mac (m : Fin 16) (k : Fin 4)
  /-- MSU (R330): Subtracts exact lane products from the accumulator. -/
  | msu (m : Fin 16) (k : Fin 4)
  /-- MPY (R330): Sets the accumulator to the exact lane products. -/
  | mpy (m : Fin 16) (k : Fin 4)
  /-- MOVA (R331): Moves an accumulator to a D register with shift and saturation. -/
  | mova (m : Fin 16) (k : Fin 4)
  /-- MOVD (R332): Moves a D register into an accumulator with sign extension and shift. -/
  | movd (m : Fin 16) (k : Fin 4)
  /-- ACLR (R354): Clears an accumulator. -/
  | aclr (m : Fin 16) (k : Fin 4)
  /-- LD (R354): Loads SIZE bytes into a D register. -/
  | ld (m : Fin 16) (k : Fin 4)
  /-- ST (R354): Stores the low SIZE bytes of a D register. -/
  | st (m : Fin 16) (k : Fin 4)
  /-- LDP (R354): Loads a pointer or modifier. -/
  | ldp (m : Fin 16) (k : Fin 4)
  /-- STP (R354): Stores a pointer or modifier. -/
  | stp (m : Fin 16) (k : Fin 4)
  /-- STA (R331): Stores an accumulator with shift and saturation. -/
  | sta (m : Fin 16) (k : Fin 4)
  /-- LR (R337): Loads and sets a reservation on the granule. -/
  | lr (m : Fin 16) (k : Fin 4)
  /-- SC (R338): Stores only if the reservation is held and clears it. -/
  | sc (m : Fin 16) (k : Fin 4)
  /-- PADD (R354): Adds an offset or modifier to a pointer. -/
  | padd (m : Fin 16) (k : Fin 4)
  /-- PMOV (R354): Moves between a D register and a pointer or modifier. -/
  | pmov (m : Fin 16) (k : Fin 4)
  /-- PMOVI (R354): Loads a 16-bit immediate into a pointer or modifier half. -/
  | pmovi (m : Fin 16) (k : Fin 4)
  /-- BR (R361): Branches with two delay slots. -/
  | br (m : Fin 16)
  /-- BRCC (R361): Branches if a condition holds, with two delay slots. -/
  | brcc (m : Fin 16)
  /-- CALL (R361): Branches and writes the link pointer. -/
  | call (m : Fin 16)
  /-- JMP (R361): Branches to a pointer. -/
  | jmp (m : Fin 16)
  /-- REP (R362): Runs a repeat block of LEN bundles COUNT times. -/
  | rep (m : Fin 16)
  /-- MVC (R355): Moves between a D register and a control register. -/
  | mvc (m : Fin 16)
  /-- FENCE (R356): Holds later accesses until every earlier access has completed. -/
  | fence (m : Fin 16)
  /-- NAP (R340): Stops the core's clock if no enabled interrupt is pending. -/
  | nap (m : Fin 16)
  /-- RETI (R368): Returns from an interrupt to IRA and clears INIRQ. -/
  | reti (m : Fin 16)
  /-- ERET (R369): Returns from an exception to ELR and clears INEXC. -/
  | eret (m : Fin 16)
  /-- TRAP (R372): Raises exception TRAP with its code. -/
  | trap (m : Fin 16)
  /-- EXCEPTION_ENTRY (R369): A faulting bundle drains the pipeline, fills ELR and ESTAT and enters the handler at EVB. -/
  | exceptionEntry (m : Fin 16)
  /-- INTERRUPT_ENTRY (R366): At an open boundary the core drains, writes IRA, sets INIRQ and jumps to the supplied vector. -/
  | interruptEntry (m : Fin 16)
  /-- NAP_WAKE (R340): An enabled interrupt or halt request wakes a napping core. -/
  | napWake (m : Fin 16)
  /-- FAR_LOAD_RESPONSE (R320): The response to a far load arrives and ends the core's stall, or raises FAR_ERR. -/
  | farLoadResponse (m : Fin 16) (tag : Fin 64) (status : Fin 8) (w : W128)
  /-- FAR_STORE_ERROR (R320): An error response to a posted far store sets STORE_ERR and records the address. -/
  | farStoreError (m : Fin 16) (tag : Fin 64) (status : Fin 8)
  /-- SCRATCHPAD_NOC_ACCESS (R324): A NoC access to a scratchpad is served in a free bank cycle, or forces one after 8 cycles. -/
  | scratchpadNocAccess (m : Fin 16) (forced : Bool) (u : List Upset)
  /-- CORE_RESET (R341): MDC_CTRL.RESET = 1 resets the model core at once. -/
  | coreReset (a : Accessor) (m : Fin 16) (clk : Bool)
  /-- CORE_RESET_RELEASE (R341): MDC_CTRL.RESET = 0 starts the core at MDC_BOOT_ADDR if its clock is enabled. -/
  | coreResetRelease (a : Accessor) (m : Fin 16) (clk : Bool)
  /-- WDT_KICK (R342): A write of 0xA5C3 reloads the model-core watchdog. -/
  | wdtKick (a : Accessor) (m : Fin 16) (v : W32)
  /-- WDT_EXPIRY (R343): The model-core watchdog reaches 0 and warns, or resets the core on a second expiry. -/
  | wdtExpiry (m : Fin 16)
  /-- GET_INFO (R378): Returns firmware version, rollback floor and boot ROM version. -/
  | getInfo (a : Accessor) (seq : Fin 256)
  /-- ECHO (R378): Returns ARG0 in RSP0. -/
  | echo (a : Accessor) (seq : Fin 256)
  /-- LOAD_IMAGE (R184): The firmware loads a staged image into a partition and returns a load report. -/
  | loadImage (a : Accessor) (seq : Fin 256)
  /-- IMAGE_LINE (R184): The firmware reads one image line, checks it and writes its data words. -/
  | imageLine (words : List W128) (chk : W128) (ok : Bool)
  /-- BLOCK_ENABLE (R380): Starts a block's clocks and serves its page. -/
  | blockEnable (a : Accessor) (seq : Fin 256)
  /-- BLOCK_DISABLE (R380): Stops a block's clock unless it is still in use. -/
  | blockDisable (a : Accessor) (seq : Fin 256)
  /-- FW_LOAD (R376): The boot ROM reads and checks a signed firmware image. -/
  | fwLoad (a : Accessor) (seq : Fin 256) (image : List W32) (ok : Bool)
  /-- FW_START (R461): Starts the loaded firmware, which reapplies repairs, zeroes banks and locks routes before FW_STATE 2. -/
  | fwStart (a : Accessor) (seq : Fin 256)
  /-- FW_LOAD_DBG (R485): The boot ROM reads a firmware image from DBG_FW_FIFO and checks it. -/
  | fwLoadDbg (a : Accessor) (seq : Fin 256)
  /-- SET_STEP_FREQ (R468): Sets the programmed step frequency and relocks the step PLL. -/
  | setStepFreq (a : Accessor) (seq : Fin 256)
  /-- MAILBOX_COMPLETION (R377): A mailbox command completes: RSP, RESULT, SEQ and DONE are written and completion is signalled. -/
  | mailboxCompletion
  /-- HEARTBEAT (R381): Every millisecond in FW_STATE 2 the firmware increments HST_MBX_HEARTBEAT. -/
  | heartbeat
  /-- CONTROL_WDT_EXPIRY (R382): A control-core watchdog expires and the complex enters FW_STATE 3. -/
  | controlWdtExpiry (k : Fin 4)
  /-- IRQ_TARGET_WRITE (R385): A write of IRQ_TARGETn changes a source's target, or is refused. -/
  | irqTargetWrite (a : Accessor) (n : Fin 256) (v : W32)
  /-- CONTROL_IRQ_TAKE (R386): A control core takes the offered source, which is pushed and marked in service. -/
  | controlIrqTake (k : Fin 4)
  /-- IRQ_EOI (R387): A control core ends the interrupt at the top of its stack. -/
  | irqEoi (a : Accessor) (v : W32)
  /-- IRQ_SWSET (R384): A write of 1 to IRQ_SWSET sets a software source and is its event. -/
  | irqSwset (a : Accessor) (hi : Bool) (v : W32)
  /-- IRQ_SWCLR (R390): A write to IRQ_SWCLR clears software sources and rearms their messages. -/
  | irqSwclr (a : Accessor) (hi : Bool) (v : W32)
  /-- POST_WORD_WRITE (R392): A write of HMS_POST0 to 14 stages a descriptor word for the initiator. -/
  | postWordWrite (a : Accessor) (k : Fin 15) (v : W32)
  /-- POST_COMMIT (R392): A write of HMS_POST15 commits the post into the pool and queue, or holds it for a free descriptor. -/
  | postCommit (a : Accessor) (v : W32)
  /-- BACKPRESSURE_RELEASE (R392): A held commit completes when a descriptor frees. -/
  | backpressureRelease
  /-- BACKPRESSURE_TIMEOUT (R392): A held commit past HMS_BP_LIMIT is refused and BP_REFUSED is set. -/
  | backpressureTimeout
  /-- DISPATCH_SCAN (R393): Every 16 core cycles the harbourmaster dispatches at most one queue head to an idle or pre-emptable core. -/
  | dispatchScan
  /-- HMS_TAKE (R394): A core's read of HMS_TAKE acknowledges the dispatch and pushes the item. -/
  | hmsTake (a : Accessor)
  /-- TAKE_TIMEOUT (R394): No TAKE within HMS_TAKE_LIMIT withdraws the dispatch and removes the core from the pool. -/
  | takeTimeout (m : Fin 16)
  /-- HMS_DONE (R395): Completes the core's top item as done. -/
  | hmsDone (a : Accessor) (v : W32)
  /-- HMS_FAIL (R395): Completes the core's top item as failed. -/
  | hmsFail (a : Accessor) (v : W32)
  /-- COMPLETION_RECORD_RESPONSE (R395): The completion record write is answered; the notify source is set and the descriptor freed. -/
  | completionRecordResponse (tag : Fin 64) (status : Fin 8)
  /-- HMS_CANCEL (R397): Removes a queued item and frees it as cancelled. -/
  | hmsCancel (a : Accessor) (v : W32)
  /-- ARM (R421): Clears the unit and enters Prefill or Armed. -/
  | arm (a : Accessor) (u : Fin 4)
  /-- ACQ_STOP (R421): Ends capture, closes the block and enters Done when writes complete. -/
  | acqStop (a : Accessor) (u : Fin 4)
  /-- FORCE (R424): Makes a trigger pending at the next taken sample. -/
  | force (a : Accessor) (u : Fin 4)
  /-- ACQ_SAMPLE (R424): A taken sample is queued and evaluated by the trigger sequencer. -/
  | acqSample (u : Fin 4)
  /-- ACQ_BUFFER_WRITE (R419): The unit writes one buffer word from its FIFO in a core cycle. -/
  | acqBufferWrite (u : Fin 4)
  /-- ACQ_WRITE_RESPONSE (R418): A capture write's response arrives, completing a Done entry or putting the unit in Error. -/
  | acqWriteResponse (u : Fin 4) (tag : Fin 64) (status : Fin 8)
  /-- TDC_EDGE (R428): A selected edge at a TDC pin is stamped. -/
  | tdcEdge (r : Fin 32) (rising : Bool) (sub : Fin 128)
  /-- TDC_STAMP_AVAILABLE (R429): 8 ns after its stamp time a stamp goes to ACQ_TDCr_LAST and the pin events. -/
  | tdcStampAvailable (r : Fin 32)
  /-- RD_INDEX_WRITE (R420): A write of ACQ_RD_INDEX selects a buffer word, or is refused at or above C. -/
  | rdIndexWrite (a : Accessor) (u : Fin 4) (v : W32)
  /-- RD_DATA_READ (R420): A read of ACQ_RD_DATA0 returns the buffer word and captures its upper words. -/
  | rdDataRead (a : Accessor) (u : Fin 4) (k : Fin 4) (us : List Upset)
  /-- OFFSET (R436): TIM_CMD OFFSET steps, slews or refuses a correction of the time base. -/
  | offset (a : Accessor)
  /-- UNLOCK (R438): TIM_CMD UNLOCK returns the time base to FREE. -/
  | unlock (a : Accessor)
  /-- SET (R435): TIM_CMD SET loads TIM_SET into the time base in FREE. -/
  | set (a : Accessor)
  /-- RATE_WRITE (R434): A write of TIM_RATE sets the rate, refused in HOLDOVER or out of range. -/
  | rateWrite (a : Accessor) (v : W32)
  /-- SLEW_COMPLETE (R436): The remaining offset reaches 0 and SLEWING clears. -/
  | slewComplete
  /-- HOLDOVER_WATCH_EXPIRY (R437): TIM_WATCH_MS passes without an accepted OFFSET and the time base enters HOLDOVER. -/
  | holdoverWatchExpiry
  /-- ETH_FRAME_RECEIVE (R443): A received frame is stamped and written through the receive ring, or dropped. -/
  | ethFrameReceive (n : Fin 8) (bytes : List Byte) (fcs : Bool) (us : List Upset)
  /-- ETH_TX_KICK (R443): A write of ETH_Pn_TX_KICK starts sending from the transmit ring. -/
  | ethTxKick (a : Accessor) (n : Fin 8) (v : W32)
  /-- ETH_FRAME_TRANSMIT (R443): A transmit descriptor's frame is sent and its descriptor written back. -/
  | ethFrameTransmit (n : Fin 8) (us : List Upset)
  /-- ETH_LINK_CHANGE (R441): A port's link goes up or down. -/
  | ethLinkChange (n : Fin 8) (up : Bool) (an : Bool)
  /-- HOST_ACCESS (R452): A host memory request through BAR0 or BAR2 is served, refused or completed poisoned. -/
  | hostAccess (q : HostRequest)
  /-- MSIX_UNMASK (R454): Unmasking a vector sends a pending message and clears its pending bit. -/
  | msixUnmask (a : Accessor) (v : Fin 64)
  /-- PCIE_LINK_LOSS (R455): A link loss or hot reset resets configuration space and fails in-flight bus-master reads. -/
  | pcieLinkLoss
  /-- PCIE_LINK_UP (R455): The PCIe link returns and LINK_CHANGE is set. -/
  | pcieLinkUp (speed : Fin 8) (width : Fin 16)
  /-- POWER_ON_RESET (R462): PORST_N low, a rail at its reset level or a thermal trip resets everything but the logbook. -/
  | powerOnReset (rail : Option (Fin 5))
  /-- VDD_AON_LOSS (R456): VDD_AON falls below its reset level and the device enters Off. -/
  | vddAonLoss
  /-- PORST_N_RISE (R458): PORST_N rises with supplies in range, straps latch and the boot ROM starts in Service. -/
  | porstNRise (straps : BitVec 8)
  /-- CORE_PLL_LOCK (R458): The core PLL locks, core 0 runs at 1.0 GHz and the time base begins counting. -/
  | corePllLock
  /-- SYSTEM_RESET (R462): PWR_RESET_CMD KIND 1 resets everything outside the always-on domain and the PCIe link. -/
  | systemReset (a : Accessor)
  /-- CONTROL_RESET (R464): PWR_RESET_CMD KIND 2 resets the control cores while emulation keeps running. -/
  | controlReset (a : Accessor)
  /-- TEMP_READING (R470): Every 10 µs the eight sensors are read into PWR_TEMP. -/
  | tempReading (t : List (BitVec 16))
  /-- THROTTLE_RELEASE (R471): After 1 ms at or below TEMP_ON − HYST the throttle releases and is booked. -/
  | throttleRelease
  /-- STEP_FREQ_CHANGE (R469): A step-frequency change takes effect at a step-clock tick within 2 µs. -/
  | stepFreqChange
  /-- THERMAL_TRIP (R470): A junction crossing 115 °C causes a power-on reset. -/
  | thermalTrip
  /-- THERMAL_TRIP_CLEAR (R470): The comparator reads below 95 °C and the device may leave Standby. -/
  | thermalTripClear
  /-- TAP_RESET (R477): TRST_N low or five TMS-high cycles reset the test access port. -/
  | tapReset
  /-- EXTEST (R477): Selects the boundary register for external test at level 2. -/
  | extest
  /-- SAMPLE_PRELOAD (R477): Selects the boundary register for sampling at level 2. -/
  | samplePreload
  /-- IDCODE (R477): Selects the 32-bit identification register. -/
  | idcode
  /-- DBGACC (R478): Selects the 48-bit DBG_ page access register. -/
  | dbgacc
  /-- BYPASS (R477): Selects the 1-bit bypass register. -/
  | bypass
  /-- DBGACC_ACCESS (R478): Update-DR starts a DBG_ page access whose outcome the next capture returns. -/
  | dbgaccAccess (w : BitVec 48)
  /-- GRANT_WRITE (R480): A host write of DBG_GRANT sets the access level or locks it. -/
  | grantWrite (a : Accessor) (v : W32)
  /-- UNLOCK_SUBMIT (R481): DBG_UNLOCK_CMD submits a token for checking. -/
  | unlockSubmit (a : Accessor)
  /-- UNLOCK_CHECK_DONE (R481): The token check ends, raising the level or counting a failure. -/
  | unlockCheckDone
  /-- WINDOW_READ (R482): DBG_XCMD read issues a bus-master read through the debug quay. -/
  | windowRead (a : Accessor) (wide inc : Bool)
  /-- WINDOW_WRITE (R482): DBG_XCMD write issues a bus-master write through the debug quay. -/
  | windowWrite (a : Accessor) (wide inc : Bool)
  /-- STEAL_READ (R483): A read by cycle stealing takes a cycle from the target memory itself. -/
  | stealRead (a : Accessor) (wide inc : Bool) (us : List Upset)
  /-- STEAL_WRITE (R483): A write by cycle stealing takes a cycle from the target memory itself. -/
  | stealWrite (a : Accessor) (wide inc : Bool) (us : List Upset)
  /-- WINDOW_ACCESS_DONE (R482): A window access ends: RESULT set, BUSY cleared and the address advanced with AUTOINC. -/
  | windowAccessDone (jtag : Bool) (status : Fin 8) (w : W128)
  /-- FW_FIFO_WRITE (R485): A write of DBG_FW_FIFO appends image bytes, or is refused while full. -/
  | fwFifoWrite (a : Accessor) (v : W32)
  /-- FW_FIFO_TIMEOUT (R485): The FIFO empty for 100 ms before the image is complete ends FW_LOAD_DBG with FETCH. -/
  | fwFifoTimeout
  /-- CORE_HALT (R486): DBG_Cm_CMD HALT requests a halt of model core m. -/
  | coreHalt (a : Accessor) (m : Fin 16)
  /-- CORE_RESUME (R488): DBG_Cm_CMD RESUME continues a halted core from its PC. -/
  | coreResume (a : Accessor) (m : Fin 16)
  /-- CORE_STEP (R488): DBG_Cm_CMD STEP issues bundles to the next open boundary and halts again. -/
  | coreStep (a : Accessor) (m : Fin 16)
  /-- CORE_HALT_ENTRY (R486): At an open boundary the core drains and halts with STATE 3. -/
  | coreHaltEntry (m : Fin 16)
  /-- CORE_REGISTER_WRITE (R489): A write of DBG_Cm_REGDATA3 writes the selected register of a halted core. -/
  | coreRegisterWrite (a : Accessor) (m : Fin 16) (v : W32)
  /-- EMULATION_HALT (R491): A halt is decided; from tick T the step clock stops, partitions halt and cores receive halt requests. -/
  | emulationHalt (a : Option Accessor)
  /-- EMULATION_RELEASE (R493): RELEASE withdraws a halt before T or restarts the step clock and resumes partitions and cores. -/
  | emulationRelease (a : Option Accessor)
  /-- VT_TX_WRITE (R496): Core m appends a byte to its terminal TX, or sends it as a NOTE or drops it when full. -/
  | vtTxWrite (m : Fin 16) (v : W32)
  /-- VT_TX_READ (R495): A host or debug read of DBG_VTm_TX removes the head byte. -/
  | vtTxRead (a : Accessor) (m : Fin 16)
  /-- VT_RX_WRITE (R495): A host or debug write appends a byte to DBG_VTm_RX, refused when full. -/
  | vtRxWrite (a : Accessor) (m : Fin 16) (v : W32)
  /-- VT_RX_READ (R495): Core m's read of DBG_VTm_RX removes the head byte. -/
  | vtRxRead (m : Fin 16)
  /-- NOTE_WRITE (R497): A write of DBG_NOTEm_c emits a NOTE packet if core m is traced. -/
  | noteWrite (m : Fin 16) (c : Fin 16) (v : W32)
  /-- TRACE_ENABLE (R498): TRC_CTRL.EN = 1 starts the trace timestamp, the sync frame and per-core SYNC. -/
  | traceEnable (a : Accessor) (v : W32)
  /-- TRACE_FRAME (R503): The framer builds and sends a 20-byte frame from a core FIFO, or a sync or idle frame. -/
  | traceFrame
  /-- TRACE_BUFFER_READ (R504): A read of TRC_BUF_DATA returns and removes the next 4 bytes of the oldest frame. -/
  | traceBufferRead (a : Accessor)
  /-- VDD_AON_RISE (R31): VDD_AON rises into range and the device leaves Off for Standby. -/
  | vddAonRise
  /-- PLL_UNLOCK (R474): A running core, step, lane or PCIe PLL loses lock and PWR_INT_STATUS.PLL_UNLOCK is set. -/
  | pllUnlock (b : Fin 17)
  /-- CONFIGURATION_REQUEST (R458): A PCIe configuration request is answered with Retry Status before 100 ms, and is otherwise served, setting for example Memory Space Enable and Bus Master Enable. -/
  | configurationRequest (early : Bool) (q : CfgRequest)
  deriving DecidableEq, Repr

end Sys2Proof
end

