-- ==== Sys2Proof/Machine/Bits.lean ====
section
/-! DEFINITION. Machine/Bits.lean: the checks and field helpers the spec defines on bits: the seal (R18), CRC-32C
(R175), and slicing of words. -/

namespace Sys2Proof.Machine

/-- The offset of an address from a base at or below it; 0 below the base. -/
def offsetIn (base a : Nat) : Nat := ((a : Int) - (base : Int)).toNat

/-- One bit of the seal CRC: polynomial 0x8BB7, no reflection (R18). -/
def sealBit (c bit : Nat) : Nat :=
  let top := bitOf c 15
  let sh := (c * 2) % 65536
  if (top + bit) % 2 = 1 then sh ^^^ 0x8BB7 else sh

/-- The seal over the low `n` bits of `x`, taken from bit n − 1 down to bit 0, from `c`. -/
def sealFrom (x : Nat) : Nat → Nat → Nat
  | 0, c => c
  | n + 1, c => sealFrom x n (sealBit c (bitOf x n))

/-- The seal of a 128-bit word (R18). -/
def sealOf (w : W128) : BitVec 16 := BitVec.ofNat 16 (sealFrom w.toNat 128 0)

/-- One bit of CRC-32C, reflected (R175). -/
def crcBit (c : Nat) : Nat := if c % 2 = 1 then (c / 2) ^^^ 0x82F63B78 else c / 2

/-- One byte of CRC-32C. -/
def crcByte (c b : Nat) : Nat :=
  let x := c ^^^ (b % 256)
  crcBit (crcBit (crcBit (crcBit (crcBit (crcBit (crcBit (crcBit x)))))))

/-- CRC-32C over `n` little-endian bytes of `x`, from state `c`. -/
def crcBytes (c x : Nat) : Nat → Nat
  | 0 => c
  | n + 1 => crcBytes (crcByte c (x % 256)) (x / 256) n

/-- The initial state of CRC-32C (R175). -/
def crcInit : Nat := 0xFFFFFFFF

/-- The final value of CRC-32C (R175). -/
def crcFinal (c : Nat) : Nat := c ^^^ 0xFFFFFFFF

/-- Byte `i` of a word (R8). -/
def byteOf (w : W128) (i : Nat) : Nat := bitsOf w.toNat (8 * i) 8

/-- A word with byte `i` replaced. -/
def setByte (w : W128) (i v : Nat) : W128 := BitVec.ofNat 128 (setBits w.toNat (8 * i) 8 v)

/-- The bytes of `new` named by the byte enables, the others of `old` (R26). -/
def mergeBytes (old new : W128) (be : Nat) : Nat → W128
  | 0 => old
  | n + 1 =>
    let r := mergeBytes old new be n
    if bitOf be n = 1 then setByte r n (byteOf new n) else r

/-- 32-bit word `i` of a 128-bit value, low word first (R15). -/
def wordOf (w : W128) (i : Nat) : Nat := bitsOf w.toNat (32 * i) 32

/-- A 128-bit value from its four words, low word first (R15). -/
def ofWords (a b c d : Nat) : W128 :=
  BitVec.ofNat 128 (a % 2 ^ 32 + 2 ^ 32 * (b % 2 ^ 32) + 2 ^ 64 * (c % 2 ^ 32) + 2 ^ 96 * (d % 2 ^ 32))

/-- The indices below `n` whose bit of `x` is one, ascending. -/
def onesOf (n x : Nat) : List Nat := (List.range n).filter (fun i => bitOf x i == 1)

/-- The number with bit `i` set to `v`. -/
def setBit (x i v : Nat) : Nat := setBits x i 1 v

/-- Saturating sum in `w` bits. -/
def satAdd (w a b : Nat) : Nat := min (a + b) (2 ^ w - 1)

end Sys2Proof.Machine
end

