-- ==== Sys2Proof/Config.lean ====
section
/-! DEFINITION. Config.lean: what one part fixes and the spec leaves open, and the free values. None has a body, so
nothing can be proved of its value (log entries 2 to 9). -/

namespace Sys2Proof.Config

/-- The unique identifier of the part (R475, `DEV_UID`: "per part"). -/
opaque uid : BitVec 64

/-- The random value the n-th fill of `DBG_CHALLENGE` gives (R481). -/
opaque challenge : Nat → W128

/-- The 12-bit logbook CODE of an internal event kind (R262: "Event code of the source"; no numbers are given). -/
opaque eventCode : Nat → BitVec 12

/-- The CLASS of an internal event kind to which no rule gives one (R268). -/
opaque eventClass : Nat → BitVec 2

/-- The DATA_A word of an event of a kind with two details (R262: "Event data"; no layout is given). -/
opaque eventDataA : Nat → Nat → Nat → W128

/-- The DATA_B bits of an event of a kind with two details (R262). -/
opaque eventDataB : Nat → Nat → Nat → BitVec 96

/-- Whether an image's SHA-384 digest and ECDSA signature check with the firmware key (R376). -/
opaque signatureOk : List W32 → Bool

/-- Whether SHA-384 of an image's public key is one of the four key hashes of the boot ROM (R376). -/
opaque keyOk : List Byte → Bool

/-- The boot ROM's version (R378, GET_INFO). -/
opaque bootVersion : BitVec 32

/-- Word n of the boot ROM (R27; its contents are not given). -/
opaque bootRom : Nat → W128

/-- The route from a node to another that the boot ROM and the firmware write (R399, R409; the topology is not given). -/
opaque route : Nat → Nat → BitVec 30

/-- Whether an unlock token checks against the challenge and the debug key (R481); 60 words of `DBG_UNLOCK_BUF`. -/
opaque tokenOk : W128 → List W32 → Bool

/-- A value the spec leaves undefined after the n-th use (stores with no reset contents, R542). -/
opaque freeWord : Nat → W128

/-- What a word whose 153 bits are all 0 (`false`) or all 1 (`true`) reports when it is read: R126 gives no code for the 9 ECC
bits, so whether a March pattern (R148) checks is open. -/
opaque marchCheck : Bool → Fin 5

/-- The fixed turnaround of the far end of a port, in ticks (R204: no value is given): of a test frame, and of an ordered set
(`true`). -/
opaque turnaround : Bool → Nat

/-- Which of the candidates the hardware takes where the spec names no order among them, on the n-th use (R392). -/
opaque freeChoice : Nat → Nat

/-- What a READ record returns for an uncorrectable frame, on the n-th use (R292 gives no value). -/
opaque freeFrame : Nat → BitVec 4096

/-- The level that stands at the ball of a user I/O the package does not drive, at a core-clock count: the pull there is 0 none, 1
up, 2 down, 3 bus-keeper. What drives the ball is outside the package. -/
opaque padLevel : Nat → Nat → Nat → Bool

/-- The value of a multiplexer of the fabric in a combinational loop, at a core-clock count, by cluster and multiplexer (R280: "The
hardware checks no combinational loop"). -/
opaque fabricLoop : Nat → Nat → Nat → Bool

/-- The configuration that a damaged frame puts in force until it is rewritten, by frame and its stored bits (R311: the user
logic "may misbehave"). -/
opaque damagedFrame : Nat → BitVec 4096 → BitVec 4096

/-- VDD_CORE in mV as `PWR_VCORE` shows it, at a core-clock count and after so many outputs (register table of the PWR_ page; no command carries
the reading). -/
opaque coreMillivolts : Nat → Nat → BitVec 12

end Sys2Proof.Config
end

