-- ==== Sys2Proof/Machine/RegTable.lean ====
section
/-! DEFINITION. Machine/RegTable.lean: every register field the spec's register tables give, one constant per
field (R9, R510 to R519 and the register tables of the owning chapters), and per page the list of its registers.
A replicated register takes its index as an argument. Reserved bits have no field and read 0 (R13). -/

namespace Sys2Proof.Machine
namespace R

def ORC_BERRY_REMAP.BERRY : Fld := ⟨.orc, 0x40, 0, 4, .rwl, 0x0⟩
def ORC_BERRY_REMAP.EN : Fld := ⟨.orc, 0x40, 8, 1, .rwl, 0x0⟩

def ORC_BUNCH_REMAP.BUNCH : Fld := ⟨.orc, 0x44, 0, 6, .rwl, 0x0⟩
def ORC_BUNCH_REMAP.EN : Fld := ⟨.orc, 0x44, 8, 1, .rwl, 0x0⟩

def ORC_SPARE_STATUS.BERRY_SPARE_BAD : Fld := ⟨.orc, 0x48, 0, 1, .w1s, 0x0⟩
def ORC_SPARE_STATUS.BERRY_SPARE_USED : Fld := ⟨.orc, 0x48, 1, 1, .ro, 0x0⟩
def ORC_SPARE_STATUS.BUNCH_SPARE_BAD : Fld := ⟨.orc, 0x48, 2, 1, .w1s, 0x0⟩
def ORC_SPARE_STATUS.BUNCH_SPARE_USED : Fld := ⟨.orc, 0x48, 3, 1, .ro, 0x0⟩

def ORC_INT_STATUS.SPARE_BAD : Fld := ⟨.orc, 0xc, 0, 1, .w1c, 0x0⟩
def ORC_INT_STATUS.REMAP : Fld := ⟨.orc, 0xc, 1, 1, .w1c, 0x0⟩

def ORC_INT_ENABLE.SPARE_BAD : Fld := ⟨.orc, 0x10, 0, 1, .rw, 0x0⟩
def ORC_INT_ENABLE.REMAP : Fld := ⟨.orc, 0x10, 1, 1, .rw, 0x0⟩

def PRT_CTRL.DEPTH : Fld := ⟨.prt, 0x4, 0, 7, .rwl, 0x0⟩
def PRT_CTRL.HARD : Fld := ⟨.prt, 0x4, 8, 1, .rwl, 0x0⟩
def PRT_CTRL.REL_SRC : Fld := ⟨.prt, 0x4, 9, 2, .rwl, 0x0⟩
def PRT_CTRL.PTP_LOCK : Fld := ⟨.prt, 0x4, 11, 1, .rwl, 0x0⟩
def PRT_CTRL.EXT_SEL : Fld := ⟨.prt, 0x4, 12, 5, .rwl, 0x0⟩
def PRT_CTRL.EXT_EDGE : Fld := ⟨.prt, 0x4, 17, 1, .rwl, 0x0⟩

def PRT_STATUS.STATE : Fld := ⟨.prt, 0x8, 0, 4, .ro, 0x0⟩
def PRT_STATUS.XPHASE : Fld := ⟨.prt, 0x8, 4, 1, .ro, 0x0⟩
def PRT_STATUS.WAIT_LOCK : Fld := ⟨.prt, 0x8, 5, 1, .ro, 0x0⟩
def PRT_STATUS.STALLED : Fld := ⟨.prt, 0x8, 6, 1, .ro, 0x0⟩
def PRT_STATUS.PENDING : Fld := ⟨.prt, 0x8, 7, 1, .ro, 0x0⟩
def PRT_STATUS.STOP_REQ : Fld := ⟨.prt, 0x8, 8, 1, .ro, 0x0⟩
def PRT_STATUS.STOP_CAUSE : Fld := ⟨.prt, 0x8, 9, 3, .ro, 0x0⟩
def PRT_STATUS.ISOLATED : Fld := ⟨.prt, 0x8, 12, 1, .ro, 0x1⟩

def PRT_INT_STATUS.TIME_BREAK : Fld := ⟨.prt, 0xc, 0, 1, .w1c, 0x0⟩
def PRT_INT_STATUS.RELEASE_MISSED : Fld := ⟨.prt, 0xc, 1, 1, .w1c, 0x0⟩
def PRT_INT_STATUS.STALL : Fld := ⟨.prt, 0xc, 2, 1, .w1c, 0x0⟩
def PRT_INT_STATUS.STOPPED : Fld := ⟨.prt, 0xc, 3, 1, .w1c, 0x0⟩
def PRT_INT_STATUS.BREAKPOINT : Fld := ⟨.prt, 0xc, 4, 1, .w1c, 0x0⟩
def PRT_INT_STATUS.CONTRACT_FAULT : Fld := ⟨.prt, 0xc, 5, 1, .w1c, 0x0⟩
def PRT_INT_STATUS.FROZEN : Fld := ⟨.prt, 0xc, 6, 1, .w1c, 0x0⟩
def PRT_INT_STATUS.LOAD_ERROR : Fld := ⟨.prt, 0xc, 7, 1, .w1c, 0x0⟩
def PRT_INT_STATUS.XLATE : Fld := ⟨.prt, 0xc, 8, 1, .w1c, 0x0⟩
def PRT_INT_STATUS.CYCLE_END : Fld := ⟨.prt, 0xc, 9, 1, .w1c, 0x0⟩
def PRT_INT_STATUS.DATA_FAULT : Fld := ⟨.prt, 0xc, 10, 1, .w1c, 0x0⟩

def PRT_INT_ENABLE.TIME_BREAK : Fld := ⟨.prt, 0x10, 0, 1, .rw, 0x0⟩
def PRT_INT_ENABLE.RELEASE_MISSED : Fld := ⟨.prt, 0x10, 1, 1, .rw, 0x0⟩
def PRT_INT_ENABLE.STALL : Fld := ⟨.prt, 0x10, 2, 1, .rw, 0x0⟩
def PRT_INT_ENABLE.STOPPED : Fld := ⟨.prt, 0x10, 3, 1, .rw, 0x0⟩
def PRT_INT_ENABLE.BREAKPOINT : Fld := ⟨.prt, 0x10, 4, 1, .rw, 0x0⟩
def PRT_INT_ENABLE.CONTRACT_FAULT : Fld := ⟨.prt, 0x10, 5, 1, .rw, 0x0⟩
def PRT_INT_ENABLE.FROZEN : Fld := ⟨.prt, 0x10, 6, 1, .rw, 0x0⟩
def PRT_INT_ENABLE.LOAD_ERROR : Fld := ⟨.prt, 0x10, 7, 1, .rw, 0x0⟩
def PRT_INT_ENABLE.XLATE : Fld := ⟨.prt, 0x10, 8, 1, .rw, 0x0⟩
def PRT_INT_ENABLE.CYCLE_END : Fld := ⟨.prt, 0x10, 9, 1, .rw, 0x0⟩
def PRT_INT_ENABLE.DATA_FAULT : Fld := ⟨.prt, 0x10, 10, 1, .rw, 0x0⟩

def PRT_CMD.CMD : Fld := ⟨.prt, 0x40, 0, 4, .wo, 0x0⟩

def PRT_BUNCHES_LO.MEMBER : Fld := ⟨.prt, 0x44, 0, 32, .rw, 0x0⟩

def PRT_BUNCHES_HI.MEMBER : Fld := ⟨.prt, 0x48, 0, 32, .rw, 0x0⟩

def PRT_EXCH.CORE : Fld := ⟨.prt, 0x4c, 0, 4, .rwl, 0x0⟩
def PRT_EXCH.BASE : Fld := ⟨.prt, 0x4c, 8, 6, .rwl, 0x0⟩
def PRT_EXCH.COUNT : Fld := ⟨.prt, 0x4c, 16, 7, .rwl, 0x0⟩

def PRT_TIMER_PERIOD_NS.NS : Fld := ⟨.prt, 0x50, 0, 32, .rwl, 0x0⟩

def PRT_TIMER_PERIOD_FRAC.FRAC : Fld := ⟨.prt, 0x54, 0, 16, .rwl, 0x0⟩

def PRT_ISOLATE.FABRIC : Fld := ⟨.prt, 0x58, 0, 2, .rw, 0x0⟩
def PRT_ISOLATE.EXCH : Fld := ⟨.prt, 0x58, 2, 2, .rw, 0x0⟩
def PRT_ISOLATE.CASTX : Fld := ⟨.prt, 0x58, 4, 2, .rw, 0x0⟩
def PRT_ISOLATE.PROBE : Fld := ⟨.prt, 0x58, 6, 2, .rw, 0x0⟩

def PRT_CYCLE_LO.COUNT : Fld := ⟨.prt, 0x70, 0, 32, .ro, 0x0⟩

def PRT_CYCLE_HI.COUNT : Fld := ⟨.prt, 0x74, 0, 32, .ro, 0x0⟩

def PRT_RELEASE_MISSED.COUNT : Fld := ⟨.prt, 0x78, 0, 32, .rc, 0x0⟩

def PRT_XLATE.COUNT : Fld := ⟨.prt, 0x7c, 0, 32, .rc, 0x0⟩

def PRT_STALL_COUNT.COUNT : Fld := ⟨.prt, 0x80, 0, 32, .rc, 0x0⟩

def PRT_STALL_MAX.NS : Fld := ⟨.prt, 0x84, 0, 32, .rc, 0x0⟩

def PRT_STALL_TOTAL.NS : Fld := ⟨.prt, 0x88, 0, 32, .rc, 0x0⟩

def PRT_STALL_CAUSE.CAUSE : Fld := ⟨.prt, 0x8c, 0, 6, .w1c, 0x0⟩

def PRT_STALL_LAST.CAUSE : Fld := ⟨.prt, 0x90, 0, 3, .ro, 0x0⟩
def PRT_STALL_LAST.DURATION : Fld := ⟨.prt, 0x90, 8, 24, .ro, 0x0⟩

def PRT_FAULT_INFO.CHECK : Fld := ⟨.prt, 0x94, 0, 3, .ro, 0x0⟩
def PRT_FAULT_INFO.STEP : Fld := ⟨.prt, 0x94, 4, 10, .ro, 0x0⟩
def PRT_FAULT_INFO.PIP : Fld := ⟨.prt, 0x94, 16, 16, .ro, 0x0⟩

def PRT_FAULT_CYCLE_LO.COUNT : Fld := ⟨.prt, 0x98, 0, 32, .ro, 0x0⟩

def PRT_FAULT_CYCLE_HI.COUNT : Fld := ⟨.prt, 0x9c, 0, 32, .ro, 0x0⟩

def PRT_BREAK_CYCLE_LO.COUNT : Fld := ⟨.prt, 0xa0, 0, 32, .ro, 0x0⟩

def PRT_BREAK_CYCLE_HI.COUNT : Fld := ⟨.prt, 0xa4, 0, 32, .ro, 0x0⟩

def PRT_TIMER_EPOCH.FRAC : Fld := ⟨.prt, 0x60, 0, 16, .rwl, 0x0⟩
def PRT_TIMER_EPOCH.NS : Fld := ⟨.prt, 0x64, 0, 32, .rwl, 0x0⟩
def PRT_TIMER_EPOCH.SEC_LO : Fld := ⟨.prt, 0x68, 0, 32, .rwl, 0x0⟩
def PRT_TIMER_EPOCH.SEC_HI : Fld := ⟨.prt, 0x6c, 0, 32, .rwl, 0x0⟩

def DMB_CTRL.TEST_EN : Fld := ⟨.dmb, 0x4, 0, 1, .rw, 0x0⟩
def DMB_CTRL.JOURNAL_EN : Fld := ⟨.dmb, 0x4, 1, 1, .rw, 0x0⟩
def DMB_CTRL.CE_WRITEBACK : Fld := ⟨.dmb, 0x4, 2, 1, .rw, 0x1⟩

def DMB_STATUS.HANDOVER : Fld := ⟨.dmb, 0x8, 0, 1, .ro, 0x0⟩
def DMB_STATUS.TEST_PHASE : Fld := ⟨.dmb, 0x8, 1, 3, .ro, 0x0⟩
def DMB_STATUS.JOURNAL_FULL : Fld := ⟨.dmb, 0x8, 4, 1, .ro, 0x0⟩
def DMB_STATUS.REPAIR_EXHAUSTED : Fld := ⟨.dmb, 0x8, 5, 1, .ro, 0x0⟩
def DMB_STATUS.SPARES_USED : Fld := ⟨.dmb, 0x8, 6, 5, .ro, 0x0⟩
def DMB_STATUS.ARRAY_CLOCK : Fld := ⟨.dmb, 0x8, 11, 1, .ro, 0x1⟩

def DMB_INT_STATUS.HANDOVER_DONE : Fld := ⟨.dmb, 0xc, 0, 1, .w1c, 0x0⟩
def DMB_INT_STATUS.LATE : Fld := ⟨.dmb, 0xc, 1, 1, .w1c, 0x0⟩
def DMB_INT_STATUS.REFUSED : Fld := ⟨.dmb, 0xc, 2, 1, .w1c, 0x0⟩
def DMB_INT_STATUS.CE : Fld := ⟨.dmb, 0xc, 3, 1, .w1c, 0x0⟩
def DMB_INT_STATUS.UE : Fld := ⟨.dmb, 0xc, 4, 1, .w1c, 0x0⟩
def DMB_INT_STATUS.REPAIR : Fld := ⟨.dmb, 0xc, 5, 1, .w1c, 0x0⟩
def DMB_INT_STATUS.REPAIR_EXHAUSTED : Fld := ⟨.dmb, 0xc, 6, 1, .w1c, 0x0⟩
def DMB_INT_STATUS.JOURNAL_FULL : Fld := ⟨.dmb, 0xc, 7, 1, .w1c, 0x0⟩
def DMB_INT_STATUS.PASS_DONE : Fld := ⟨.dmb, 0xc, 8, 1, .w1c, 0x0⟩

def DMB_INT_ENABLE.HANDOVER_DONE : Fld := ⟨.dmb, 0x10, 0, 1, .rw, 0x0⟩
def DMB_INT_ENABLE.LATE : Fld := ⟨.dmb, 0x10, 1, 1, .rw, 0x0⟩
def DMB_INT_ENABLE.REFUSED : Fld := ⟨.dmb, 0x10, 2, 1, .rw, 0x0⟩
def DMB_INT_ENABLE.CE : Fld := ⟨.dmb, 0x10, 3, 1, .rw, 0x0⟩
def DMB_INT_ENABLE.UE : Fld := ⟨.dmb, 0x10, 4, 1, .rw, 0x0⟩
def DMB_INT_ENABLE.REPAIR : Fld := ⟨.dmb, 0x10, 5, 1, .rw, 0x0⟩
def DMB_INT_ENABLE.REPAIR_EXHAUSTED : Fld := ⟨.dmb, 0x10, 6, 1, .rw, 0x0⟩
def DMB_INT_ENABLE.JOURNAL_FULL : Fld := ⟨.dmb, 0x10, 7, 1, .rw, 0x0⟩
def DMB_INT_ENABLE.PASS_DONE : Fld := ⟨.dmb, 0x10, 8, 1, .rw, 0x0⟩

def DMB_BERTH.KIND : Fld := ⟨.dmb, 0x40, 0, 3, .rw, 0x0⟩
def DMB_BERTH.ID : Fld := ⟨.dmb, 0x40, 8, 6, .rw, 0x0⟩

def DMB_BERTH_PREV.KIND : Fld := ⟨.dmb, 0x44, 0, 3, .ro, 0x0⟩
def DMB_BERTH_PREV.ID : Fld := ⟨.dmb, 0x44, 8, 6, .ro, 0x0⟩

def DMB_LATE_COUNT.COUNT : Fld := ⟨.dmb, 0x48, 0, 32, .rc, 0x0⟩

def DMB_REFUSED_SRC.KIND : Fld := ⟨.dmb, 0x4c, 0, 3, .ro, 0x0⟩
def DMB_REFUSED_SRC.ID : Fld := ⟨.dmb, 0x4c, 8, 6, .ro, 0x0⟩
def DMB_REFUSED_SRC.LATE : Fld := ⟨.dmb, 0x4c, 16, 1, .ro, 0x0⟩

def DMB_CE_COUNT.COUNT : Fld := ⟨.dmb, 0x50, 0, 32, .rc, 0x0⟩

def DMB_UE_COUNT.COUNT : Fld := ⟨.dmb, 0x54, 0, 32, .rc, 0x0⟩

def DMB_TEST_POS.REGION : Fld := ⟨.dmb, 0x58, 0, 12, .ro, 0x0⟩

def DMB_TEST_PASSES.COUNT : Fld := ⟨.dmb, 0x5c, 0, 32, .rc, 0x0⟩

def DMB_JOURNAL_BASE.WORD : Fld := ⟨.dmb, 0x60, 0, 18, .rw, 0x0⟩

def DMB_JOURNAL_LIMIT.ENTRIES : Fld := ⟨.dmb, 0x64, 0, 15, .rw, 0x0⟩

def DMB_JOURNAL_COUNT.ENTRIES : Fld := ⟨.dmb, 0x68, 0, 15, .ro, 0x0⟩

def DMB_REPAIR.ROW (i : Nat) : Fld := ⟨.dmb, 0x80 + 0x4 * i, 0, 15, .rw, 0x0⟩
def DMB_REPAIR.VALID (i : Nat) : Fld := ⟨.dmb, 0x80 + 0x4 * i, 16, 1, .rw, 0x0⟩
def DMB_REPAIR.TESTER (i : Nat) : Fld := ⟨.dmb, 0x80 + 0x4 * i, 17, 1, .ro, 0x0⟩
def DMB_REPAIR.WITHDRAWN (i : Nat) : Fld := ⟨.dmb, 0x80 + 0x4 * i, 18, 1, .ro, 0x0⟩

def CAS_CTRL.JOIN : Fld := ⟨.cas, 0x4, 0, 1, .rw, 0x0⟩
def CAS_CTRL.HOLD_FORCE : Fld := ⟨.cas, 0x4, 1, 1, .rw, 0x0⟩
def CAS_CTRL.ROWS : Fld := ⟨.cas, 0x4, 4, 3, .rwl, 0x0⟩
def CAS_CTRL.COLS : Fld := ⟨.cas, 0x4, 8, 3, .rwl, 0x0⟩
def CAS_CTRL.REL_MODE : Fld := ⟨.cas, 0x4, 11, 2, .rwl, 0x0⟩
def CAS_CTRL.REL_EXT_SEL : Fld := ⟨.cas, 0x4, 13, 5, .rwl, 0x0⟩
def CAS_CTRL.REL_EXT_EDGE : Fld := ⟨.cas, 0x4, 18, 1, .rwl, 0x0⟩

def CAS_STATUS.MASTER : Fld := ⟨.cas, 0x8, 0, 1, .ro, 0x0⟩
def CAS_STATUS.ID : Fld := ⟨.cas, 0x8, 1, 6, .ro, 0x0⟩
def CAS_STATUS.HOLD_IN : Fld := ⟨.cas, 0x8, 7, 1, .ro, 0x1⟩
def CAS_STATUS.HOLD_OUT : Fld := ⟨.cas, 0x8, 8, 1, .ro, 0x1⟩
def CAS_STATUS.DONE_IN : Fld := ⟨.cas, 0x8, 9, 1, .ro, 0x0⟩
def CAS_STATUS.UNIT_STATE : Fld := ⟨.cas, 0x8, 10, 3, .ro, 0x0⟩

def CAS_INT_STATUS.TAG_FAULT : Fld := ⟨.cas, 0xc, 0, 1, .w1c, 0x0⟩
def CAS_INT_STATUS.ORDER_LATE : Fld := ⟨.cas, 0xc, 1, 1, .w1c, 0x0⟩
def CAS_INT_STATUS.PORT_FAILED : Fld := ⟨.cas, 0xc, 2, 1, .w1c, 0x0⟩
def CAS_INT_STATUS.RETRAIN : Fld := ⟨.cas, 0xc, 3, 1, .w1c, 0x0⟩
def CAS_INT_STATUS.HOLD_BEGIN : Fld := ⟨.cas, 0xc, 4, 1, .w1c, 0x0⟩
def CAS_INT_STATUS.HOLD_END : Fld := ⟨.cas, 0xc, 5, 1, .w1c, 0x0⟩
def CAS_INT_STATUS.STARTED : Fld := ⟨.cas, 0xc, 6, 1, .w1c, 0x0⟩
def CAS_INT_STATUS.MASTER_CONFLICT : Fld := ⟨.cas, 0xc, 7, 1, .w1c, 0x0⟩
def CAS_INT_STATUS.PEER_MISMATCH : Fld := ⟨.cas, 0xc, 8, 1, .w1c, 0x0⟩

def CAS_INT_ENABLE.TAG_FAULT : Fld := ⟨.cas, 0x10, 0, 1, .rw, 0x0⟩
def CAS_INT_ENABLE.ORDER_LATE : Fld := ⟨.cas, 0x10, 1, 1, .rw, 0x0⟩
def CAS_INT_ENABLE.PORT_FAILED : Fld := ⟨.cas, 0x10, 2, 1, .rw, 0x0⟩
def CAS_INT_ENABLE.RETRAIN : Fld := ⟨.cas, 0x10, 3, 1, .rw, 0x0⟩
def CAS_INT_ENABLE.HOLD_BEGIN : Fld := ⟨.cas, 0x10, 4, 1, .rw, 0x0⟩
def CAS_INT_ENABLE.HOLD_END : Fld := ⟨.cas, 0x10, 5, 1, .rw, 0x0⟩
def CAS_INT_ENABLE.STARTED : Fld := ⟨.cas, 0x10, 6, 1, .rw, 0x0⟩
def CAS_INT_ENABLE.MASTER_CONFLICT : Fld := ⟨.cas, 0x10, 7, 1, .rw, 0x0⟩
def CAS_INT_ENABLE.PEER_MISMATCH : Fld := ⟨.cas, 0x10, 8, 1, .rw, 0x0⟩

def CAS_TREE.UP_PORT : Fld := ⟨.cas, 0x40, 0, 2, .rwl, 0x0⟩
def CAS_TREE.UP_VALID : Fld := ⟨.cas, 0x40, 2, 1, .rwl, 0x0⟩
def CAS_TREE.DOWN : Fld := ⟨.cas, 0x40, 4, 4, .rwl, 0x0⟩

def CAS_LEAD.TICKS : Fld := ⟨.cas, 0x44, 0, 13, .rwl, 0x400⟩

def CAS_REL_PERIOD.TICKS : Fld := ⟨.cas, 0x48, 0, 32, .rwl, 0x0⟩

def CAS_CMD.CMD : Fld := ⟨.cas, 0x4c, 0, 3, .wo, 0x0⟩

def CAS_TICK_LO.COUNT : Fld := ⟨.cas, 0x50, 0, 32, .ro, 0x0⟩

def CAS_TICK_HI.COUNT : Fld := ⟨.cas, 0x54, 0, 32, .ro, 0x0⟩

def CAS_STEP_LO.COUNT : Fld := ⟨.cas, 0x58, 0, 32, .ro, 0x0⟩

def CAS_STEP_HI.COUNT : Fld := ⟨.cas, 0x5c, 0, 32, .ro, 0x0⟩

def CAS_NETMAP_INDEX.INDEX : Fld := ⟨.cas, 0x60, 0, 16, .rw, 0x0⟩
def CAS_NETMAP_INDEX.AUTOINC : Fld := ⟨.cas, 0x60, 16, 1, .rw, 0x0⟩

def CAS_NETMAP_DATA.ENTRY : Fld := ⟨.cas, 0x64, 0, 32, .rw, 0x0⟩

def CAS_TAG_FAULT.PORT : Fld := ⟨.cas, 0x68, 0, 2, .ro, 0x0⟩
def CAS_TAG_FAULT.SLOT : Fld := ⟨.cas, 0x68, 2, 3, .ro, 0x0⟩
def CAS_TAG_FAULT.STEP : Fld := ⟨.cas, 0x68, 5, 10, .ro, 0x0⟩
def CAS_TAG_FAULT.SIDE : Fld := ⟨.cas, 0x68, 15, 1, .ro, 0x0⟩
def CAS_TAG_FAULT.VALID : Fld := ⟨.cas, 0x68, 16, 1, .w1c, 0x0⟩

def CAS_HOLD_COUNT.COUNT : Fld := ⟨.cas, 0x6c, 0, 32, .rc, 0x0⟩

def CAS_P_CTRL.EN (i : Nat) : Fld := ⟨.cas, 0x80 + 0x20 * i, 0, 1, .rw, 0x0⟩
def CAS_P_CTRL.LS_REQ (i : Nat) : Fld := ⟨.cas, 0x80 + 0x20 * i, 1, 2, .rw, 0x0⟩
def CAS_P_CTRL.EXPECT_ID (i : Nat) : Fld := ⟨.cas, 0x80 + 0x20 * i, 3, 6, .rwl, 0x0⟩
def CAS_P_CTRL.EXPECT_EN (i : Nat) : Fld := ⟨.cas, 0x80 + 0x20 * i, 9, 1, .rwl, 0x0⟩

def CAS_P_STATUS.STATE (i : Nat) : Fld := ⟨.cas, 0x84 + 0x20 * i, 0, 4, .ro, 0x0⟩
def CAS_P_STATUS.FAIL (i : Nat) : Fld := ⟨.cas, 0x84 + 0x20 * i, 4, 4, .ro, 0x0⟩
def CAS_P_STATUS.REVERSED (i : Nat) : Fld := ⟨.cas, 0x84 + 0x20 * i, 8, 1, .ro, 0x0⟩
def CAS_P_STATUS.LS (i : Nat) : Fld := ⟨.cas, 0x84 + 0x20 * i, 9, 2, .ro, 0x0⟩
def CAS_P_STATUS.PEER_ID (i : Nat) : Fld := ⟨.cas, 0x84 + 0x20 * i, 11, 6, .ro, 0x0⟩
def CAS_P_STATUS.PEER_MASTER (i : Nat) : Fld := ⟨.cas, 0x84 + 0x20 * i, 17, 1, .ro, 0x0⟩

def CAS_P_LATENCY.RAW (i : Nat) : Fld := ⟨.cas, 0x88 + 0x20 * i, 0, 8, .ro, 0x0⟩
def CAS_P_LATENCY.TOTAL (i : Nat) : Fld := ⟨.cas, 0x88 + 0x20 * i, 8, 8, .ro, 0x0⟩
def CAS_P_LATENCY.ORDER (i : Nat) : Fld := ⟨.cas, 0x88 + 0x20 * i, 16, 8, .ro, 0x0⟩

def CAS_P_CREDITS.HELD (i : Nat) : Fld := ⟨.cas, 0x8c + 0x20 * i, 0, 6, .ro, 0x30⟩
def CAS_P_CREDITS.RX_USED (i : Nat) : Fld := ⟨.cas, 0x8c + 0x20 * i, 8, 6, .ro, 0x0⟩
def CAS_P_CREDITS.REPLAY_USED (i : Nat) : Fld := ⟨.cas, 0x8c + 0x20 * i, 16, 6, .ro, 0x0⟩

def CAS_P_RETRY.COUNT (i : Nat) : Fld := ⟨.cas, 0x90 + 0x20 * i, 0, 32, .rc, 0x0⟩

def CAS_P_CRC_ERR.COUNT (i : Nat) : Fld := ⟨.cas, 0x94 + 0x20 * i, 0, 32, .rc, 0x0⟩

def CAS_P_RETRAIN.COUNT (i : Nat) : Fld := ⟨.cas, 0x98 + 0x20 * i, 0, 32, .rc, 0x0⟩

def LNE_STATUS.SIGNAL : Fld := ⟨.lne, 0x40, 0, 1, .ro, 0x0⟩
def LNE_STATUS.CDR_LOCK : Fld := ⟨.lne, 0x40, 1, 1, .ro, 0x0⟩
def LNE_STATUS.POL_INV : Fld := ⟨.lne, 0x40, 2, 1, .ro, 0x0⟩
def LNE_STATUS.BLOCK_LOCK : Fld := ⟨.lne, 0x40, 3, 1, .ro, 0x0⟩
def LNE_STATUS.RX_LANE : Fld := ⟨.lne, 0x40, 4, 3, .ro, 0x0⟩
def LNE_STATUS.SKEW : Fld := ⟨.lne, 0x40, 7, 5, .ro, 0x0⟩

def LNE_HDR_ERR.COUNT : Fld := ⟨.lne, 0x44, 0, 32, .rc, 0x0⟩

def LNE_CTRL.POL_FORCE_EN : Fld := ⟨.lne, 0x48, 0, 1, .rw, 0x0⟩
def LNE_CTRL.POL_FORCE_VAL : Fld := ⟨.lne, 0x48, 1, 1, .rw, 0x0⟩

def RES_CTRL.IS_SCRUB_EN : Fld := ⟨.res, 0x4, 0, 1, .rw, 0x1⟩
def RES_CTRL.SS_SCRUB_EN : Fld := ⟨.res, 0x4, 1, 1, .rw, 0x1⟩
def RES_CTRL.AUTO_REMAP : Fld := ⟨.res, 0x4, 2, 1, .rw, 0x1⟩
def RES_CTRL.AUTO_RESUME : Fld := ⟨.res, 0x4, 3, 1, .rw, 0x1⟩
def RES_CTRL.AUTO_JOIN : Fld := ⟨.res, 0x4, 4, 1, .rw, 0x1⟩

def RES_STATUS.DIP_STATE : Fld := ⟨.res, 0x8, 0, 2, .ro, 0x0⟩
def RES_STATUS.RETENTION : Fld := ⟨.res, 0x8, 2, 2, .ro, 0x0⟩
def RES_STATUS.SPARE_BERRIES_FREE : Fld := ⟨.res, 0x8, 4, 7, .ro, 0x40⟩
def RES_STATUS.SPARE_BUNCH_FREE : Fld := ⟨.res, 0x8, 11, 1, .ro, 0x1⟩
def RES_STATUS.CMD_BUSY : Fld := ⟨.res, 0x8, 12, 1, .ro, 0x0⟩

def RES_INT_STATUS.ABSORBED : Fld := ⟨.res, 0xc, 0, 1, .w1c, 0x0⟩
def RES_INT_STATUS.DEGRADED : Fld := ⟨.res, 0xc, 1, 1, .w1c, 0x0⟩
def RES_INT_STATUS.SWITCHOVER : Fld := ⟨.res, 0xc, 2, 1, .w1c, 0x0⟩
def RES_INT_STATUS.DIVERGE : Fld := ⟨.res, 0xc, 3, 1, .w1c, 0x0⟩
def RES_INT_STATUS.UNABSORBED : Fld := ⟨.res, 0xc, 4, 1, .w1c, 0x0⟩
def RES_INT_STATUS.DIP : Fld := ⟨.res, 0xc, 5, 1, .w1c, 0x0⟩
def RES_INT_STATUS.RETENTION_BAD : Fld := ⟨.res, 0xc, 6, 1, .w1c, 0x0⟩
def RES_INT_STATUS.PROTECTION_LOST : Fld := ⟨.res, 0xc, 7, 1, .w1c, 0x0⟩
def RES_INT_STATUS.REJOIN_DONE : Fld := ⟨.res, 0xc, 8, 1, .w1c, 0x0⟩
def RES_INT_STATUS.RESUMED : Fld := ⟨.res, 0xc, 9, 1, .w1c, 0x0⟩

def RES_INT_ENABLE.ABSORBED : Fld := ⟨.res, 0x10, 0, 1, .rw, 0x0⟩
def RES_INT_ENABLE.DEGRADED : Fld := ⟨.res, 0x10, 1, 1, .rw, 0x0⟩
def RES_INT_ENABLE.SWITCHOVER : Fld := ⟨.res, 0x10, 2, 1, .rw, 0x0⟩
def RES_INT_ENABLE.DIVERGE : Fld := ⟨.res, 0x10, 3, 1, .rw, 0x0⟩
def RES_INT_ENABLE.UNABSORBED : Fld := ⟨.res, 0x10, 4, 1, .rw, 0x0⟩
def RES_INT_ENABLE.DIP : Fld := ⟨.res, 0x10, 5, 1, .rw, 0x0⟩
def RES_INT_ENABLE.RETENTION_BAD : Fld := ⟨.res, 0x10, 6, 1, .rw, 0x0⟩
def RES_INT_ENABLE.PROTECTION_LOST : Fld := ⟨.res, 0x10, 7, 1, .rw, 0x0⟩
def RES_INT_ENABLE.REJOIN_DONE : Fld := ⟨.res, 0x10, 8, 1, .rw, 0x0⟩
def RES_INT_ENABLE.RESUMED : Fld := ⟨.res, 0x10, 9, 1, .rw, 0x0⟩

def RES_CMD.CMD : Fld := ⟨.res, 0x40, 0, 4, .wo, 0x0⟩
def RES_CMD.PART : Fld := ⟨.res, 0x40, 8, 6, .wo, 0x0⟩

def RES_EVENT.PART : Fld := ⟨.res, 0x44, 0, 6, .ro, 0x0⟩
def RES_EVENT.KIND : Fld := ⟨.res, 0x44, 6, 4, .ro, 0x0⟩
def RES_EVENT.BUNCH : Fld := ⟨.res, 0x44, 10, 6, .ro, 0x0⟩
def RES_EVENT.BERRY : Fld := ⟨.res, 0x44, 16, 4, .ro, 0x0⟩
def RES_EVENT.ACTION : Fld := ⟨.res, 0x44, 20, 3, .ro, 0x0⟩

def RES_EVENT_POS.STEP : Fld := ⟨.res, 0x48, 0, 10, .ro, 0x0⟩
def RES_EVENT_POS.WORD : Fld := ⟨.res, 0x48, 10, 18, .ro, 0x0⟩

def RES_IS_CE_COUNT.COUNT : Fld := ⟨.res, 0x4c, 0, 32, .rc, 0x0⟩

def RES_IS_UE_COUNT.COUNT : Fld := ⟨.res, 0x50, 0, 32, .rc, 0x0⟩

def RES_SS_CE_COUNT.COUNT : Fld := ⟨.res, 0x54, 0, 32, .rc, 0x0⟩

def RES_SS_UE_COUNT.COUNT : Fld := ⟨.res, 0x58, 0, 32, .rc, 0x0⟩

def RES_RECOVERY_NS.NS : Fld := ⟨.res, 0x5c, 0, 32, .ro, 0x0⟩

def RES_DIP_US.US : Fld := ⟨.res, 0x60, 0, 16, .ro, 0x0⟩

def RES_GROUP.ROLE (i : Nat) : Fld := ⟨.res, 0x100 + 0x4 * i, 0, 3, .rwl, 0x0⟩
def RES_GROUP.LEAD (i : Nat) : Fld := ⟨.res, 0x100 + 0x4 * i, 8, 6, .rwl, 0x0⟩
def RES_GROUP.MSTATE (i : Nat) : Fld := ⟨.res, 0x100 + 0x4 * i, 14, 2, .ro, 0x0⟩
def RES_GROUP.SNAP_EN (i : Nat) : Fld := ⟨.res, 0x100 + 0x4 * i, 16, 1, .rwl, 0x0⟩
def RES_GROUP.SNAP_LOG2 (i : Nat) : Fld := ⟨.res, 0x100 + 0x4 * i, 17, 5, .rwl, 0x4⟩

def RES_LOG_BASE.ADDR (i : Nat) : Fld := ⟨.res, 0x200 + 0x8 * i, 0, 24, .rwl, 0x0⟩

def RES_LOG_LIMIT.WORDS (i : Nat) : Fld := ⟨.res, 0x204 + 0x8 * i, 0, 18, .rwl, 0x0⟩

def RES_SNAP.VALID (i : Nat) : Fld := ⟨.res, 0x400 + 0x4 * i, 0, 1, .ro, 0x0⟩
def RES_SNAP.CAPTURING (i : Nat) : Fld := ⟨.res, 0x400 + 0x4 * i, 1, 1, .ro, 0x0⟩
def RES_SNAP.LOST (i : Nat) : Fld := ⟨.res, 0x400 + 0x4 * i, 2, 1, .ro, 0x0⟩
def RES_SNAP.LOST_CAUSE (i : Nat) : Fld := ⟨.res, 0x400 + 0x4 * i, 3, 3, .ro, 0x0⟩
def RES_SNAP.CYCLE (i : Nat) : Fld := ⟨.res, 0x400 + 0x4 * i, 8, 24, .ro, 0x0⟩

def LOG_STATUS.SCAN_DONE : Fld := ⟨.log, 0x8, 0, 1, .ro, 0x0⟩
def LOG_STATUS.WRAPPED : Fld := ⟨.log, 0x8, 1, 1, .ro, 0x0⟩

def LOG_INT_STATUS.HOST_ENTRY : Fld := ⟨.log, 0xc, 0, 1, .w1c, 0x0⟩
def LOG_INT_STATUS.DROPPED : Fld := ⟨.log, 0xc, 1, 1, .w1c, 0x0⟩
def LOG_INT_STATUS.PERM_FULL : Fld := ⟨.log, 0xc, 2, 1, .w1c, 0x0⟩

def LOG_INT_ENABLE.HOST_ENTRY : Fld := ⟨.log, 0x10, 0, 1, .rw, 0x0⟩
def LOG_INT_ENABLE.DROPPED : Fld := ⟨.log, 0x10, 1, 1, .rw, 0x0⟩
def LOG_INT_ENABLE.PERM_FULL : Fld := ⟨.log, 0x10, 2, 1, .rw, 0x0⟩

def LOG_HEAD.INDEX : Fld := ⟨.log, 0x40, 0, 16, .ro, 0x0⟩

def LOG_SEQ.SEQ : Fld := ⟨.log, 0x44, 0, 32, .ro, 0x0⟩

def LOG_OLDEST.INDEX : Fld := ⟨.log, 0x48, 0, 16, .ro, 0x0⟩

def LOG_TORN.COUNT : Fld := ⟨.log, 0x4c, 0, 16, .ro, 0x0⟩

def LOG_DROPPED.COUNT : Fld := ⟨.log, 0x50, 0, 32, .rc, 0x0⟩

def LOG_PERM.COUNT : Fld := ⟨.log, 0x54, 0, 13, .ro, 0x0⟩

def LOG_BOOT.COUNT : Fld := ⟨.log, 0x58, 0, 16, .ro, 0x0⟩

def LOG_USER.DATA0 : Fld := ⟨.log, 0x60, 0, 32, .rw, 0x0⟩
def LOG_USER.DATA1 : Fld := ⟨.log, 0x64, 0, 32, .rw, 0x0⟩
def LOG_USER.DATA2 : Fld := ⟨.log, 0x68, 0, 32, .rw, 0x0⟩
def LOG_USER.DATA3 : Fld := ⟨.log, 0x6c, 0, 32, .rw, 0x0⟩

def LOG_USER_CMD.CODE : Fld := ⟨.log, 0x70, 0, 12, .wo, 0x0⟩

def LOG_WIN_INDEX.INDEX : Fld := ⟨.log, 0x80, 0, 16, .rw, 0x0⟩

def LOG_WIN_DATA.DATA (i : Nat) : Fld := ⟨.log, 0xc0 + 0x4 * i, 0, 32, .ro, 0x0⟩

def CFG_CTRL.FALLBACK_EN : Fld := ⟨.cfg, 0x4, 0, 1, .rw, 0x1⟩
def CFG_CTRL.DONE_WAIT : Fld := ⟨.cfg, 0x4, 1, 1, .rw, 0x1⟩
def CFG_CTRL.CP_OWNER : Fld := ⟨.cfg, 0x4, 2, 1, .rw, 0x0⟩
def CFG_CTRL.SCRUB_EN : Fld := ⟨.cfg, 0x4, 3, 1, .rw, 0x1⟩

def CFG_STATUS.STATE : Fld := ⟨.cfg, 0x8, 0, 3, .ro, 0x0⟩
def CFG_STATUS.IMAGE : Fld := ⟨.cfg, 0x8, 3, 2, .ro, 0x0⟩
def CFG_STATUS.DONE_RELEASED : Fld := ⟨.cfg, 0x8, 5, 1, .ro, 0x0⟩
def CFG_STATUS.DONE_IN : Fld := ⟨.cfg, 0x8, 6, 1, .ro, 0x0⟩
def CFG_STATUS.SU_PHASE : Fld := ⟨.cfg, 0x8, 7, 3, .ro, 0x0⟩
def CFG_STATUS.LOAD_ERR : Fld := ⟨.cfg, 0x8, 10, 4, .ro, 0x0⟩
def CFG_STATUS.STREAM_BUSY : Fld := ⟨.cfg, 0x8, 14, 1, .ro, 0x0⟩

def CFG_INT_STATUS.LOADED : Fld := ⟨.cfg, 0xc, 0, 1, .w1c, 0x0⟩
def CFG_INT_STATUS.LOAD_FAIL : Fld := ⟨.cfg, 0xc, 1, 1, .w1c, 0x0⟩
def CFG_INT_STATUS.FALLBACK : Fld := ⟨.cfg, 0xc, 2, 1, .w1c, 0x0⟩
def CFG_INT_STATUS.FRAME_CE : Fld := ⟨.cfg, 0xc, 3, 1, .w1c, 0x0⟩
def CFG_INT_STATUS.FRAME_UE : Fld := ⟨.cfg, 0xc, 4, 1, .w1c, 0x0⟩
def CFG_INT_STATUS.SCRUB_RESTART : Fld := ⟨.cfg, 0xc, 5, 1, .w1c, 0x0⟩
def CFG_INT_STATUS.REGION_DONE : Fld := ⟨.cfg, 0xc, 6, 1, .w1c, 0x0⟩
def CFG_INT_STATUS.REGION_FAIL : Fld := ⟨.cfg, 0xc, 7, 1, .w1c, 0x0⟩
def CFG_INT_STATUS.CP_REFUSED : Fld := ⟨.cfg, 0xc, 8, 1, .w1c, 0x0⟩

def CFG_INT_ENABLE.LOADED : Fld := ⟨.cfg, 0x10, 0, 1, .rw, 0x0⟩
def CFG_INT_ENABLE.LOAD_FAIL : Fld := ⟨.cfg, 0x10, 1, 1, .rw, 0x0⟩
def CFG_INT_ENABLE.FALLBACK : Fld := ⟨.cfg, 0x10, 2, 1, .rw, 0x0⟩
def CFG_INT_ENABLE.FRAME_CE : Fld := ⟨.cfg, 0x10, 3, 1, .rw, 0x0⟩
def CFG_INT_ENABLE.FRAME_UE : Fld := ⟨.cfg, 0x10, 4, 1, .rw, 0x0⟩
def CFG_INT_ENABLE.SCRUB_RESTART : Fld := ⟨.cfg, 0x10, 5, 1, .rw, 0x0⟩
def CFG_INT_ENABLE.REGION_DONE : Fld := ⟨.cfg, 0x10, 6, 1, .rw, 0x0⟩
def CFG_INT_ENABLE.REGION_FAIL : Fld := ⟨.cfg, 0x10, 7, 1, .rw, 0x0⟩
def CFG_INT_ENABLE.CP_REFUSED : Fld := ⟨.cfg, 0x10, 8, 1, .rw, 0x0⟩

def CFG_CMD.CMD : Fld := ⟨.cfg, 0x40, 0, 3, .wo, 0x0⟩

def CFG_IMAGE_ADDR_LO.ADDR : Fld := ⟨.cfg, 0x44, 0, 32, .rw, 0x0⟩

def CFG_IMAGE_ADDR_HI.ADDR : Fld := ⟨.cfg, 0x48, 0, 32, .rw, 0x0⟩

def CFG_IMAGE_LEN.BYTES : Fld := ⟨.cfg, 0x4c, 0, 32, .rw, 0x0⟩

def CFG_GOLDEN_ADDR_LO.ADDR : Fld := ⟨.cfg, 0x50, 0, 32, .rw, 0x0⟩

def CFG_GOLDEN_ADDR_HI.ADDR : Fld := ⟨.cfg, 0x54, 0, 32, .rw, 0x0⟩

def CFG_GOLDEN_LEN.BYTES : Fld := ⟨.cfg, 0x58, 0, 32, .rw, 0x0⟩

def CFG_STREAM_ADDR_LO.ADDR : Fld := ⟨.cfg, 0x5c, 0, 32, .rw, 0x0⟩

def CFG_STREAM_ADDR_HI.ADDR : Fld := ⟨.cfg, 0x60, 0, 32, .rw, 0x0⟩

def CFG_STREAM_LEN.BYTES : Fld := ⟨.cfg, 0x64, 0, 32, .rw, 0x0⟩

def CFG_ERR_FRAME.FRAME : Fld := ⟨.cfg, 0x68, 0, 13, .ro, 0x0⟩

def CFG_SCRUB_FIRST.FRAME : Fld := ⟨.cfg, 0x6c, 0, 13, .rw, 0x0⟩

def CFG_SCRUB_LAST.FRAME : Fld := ⟨.cfg, 0x70, 0, 13, .rw, 0x11ff⟩

def CFG_SCRUB_INTERVAL.CLOCKS : Fld := ⟨.cfg, 0x74, 0, 16, .rw, 0x200⟩

def CFG_SCRUB_POS.FRAME : Fld := ⟨.cfg, 0x78, 0, 13, .ro, 0x0⟩

def CFG_SCRUB_PASSES.COUNT : Fld := ⟨.cfg, 0x7c, 0, 32, .rc, 0x0⟩

def CFG_FRAME_CE_COUNT.COUNT : Fld := ⟨.cfg, 0x80, 0, 32, .rc, 0x0⟩

def CFG_FRAME_UE_COUNT.COUNT : Fld := ⟨.cfg, 0x84, 0, 32, .rc, 0x0⟩

def CFG_SCRUB_RESTARTS.COUNT : Fld := ⟨.cfg, 0x88, 0, 32, .rc, 0x0⟩

def CFG_DONE_TIMEOUT.US : Fld := ⟨.cfg, 0x8c, 0, 16, .rw, 0x0⟩

def CFG_REGION_STATUS.STATE : Fld := ⟨.cfg, 0x90, 0, 32, .ro, 0x0⟩

def CFG_REGION.COL_FIRST (i : Nat) : Fld := ⟨.cfg, 0x100 + 0x8 * i, 0, 7, .rw, 0x0⟩
def CFG_REGION.COL_LAST (i : Nat) : Fld := ⟨.cfg, 0x100 + 0x8 * i, 8, 7, .rw, 0x0⟩
def CFG_REGION.ROW_FIRST (i : Nat) : Fld := ⟨.cfg, 0x100 + 0x8 * i, 16, 6, .rw, 0x0⟩
def CFG_REGION.ROW_LAST (i : Nat) : Fld := ⟨.cfg, 0x100 + 0x8 * i, 22, 6, .rw, 0x0⟩
def CFG_REGION.FABRIC_OK (i : Nat) : Fld := ⟨.cfg, 0x100 + 0x8 * i, 28, 1, .rw, 0x0⟩
def CFG_REGION.VALID (i : Nat) : Fld := ⟨.cfg, 0x100 + 0x8 * i, 29, 1, .rw, 0x0⟩

def CFG_ISOLATE.WIRES (i : Nat) : Fld := ⟨.cfg, 0x104 + 0x8 * i, 0, 2, .rw, 0x0⟩
def CFG_ISOLATE.PORTS (i : Nat) : Fld := ⟨.cfg, 0x104 + 0x8 * i, 2, 2, .rw, 0x0⟩

def FAB_STATUS.PLL0_LOCK : Fld := ⟨.fab, 0x8, 0, 1, .ro, 0x0⟩
def FAB_STATUS.PLL1_LOCK : Fld := ⟨.fab, 0x8, 1, 1, .ro, 0x0⟩
def FAB_STATUS.GCLK_ON : Fld := ⟨.fab, 0x8, 2, 8, .ro, 0x0⟩

def FAB_INT_STATUS.PLL_UNLOCK : Fld := ⟨.fab, 0xc, 0, 1, .w1c, 0x0⟩
def FAB_INT_STATUS.BANK_CHANGE : Fld := ⟨.fab, 0xc, 1, 1, .w1c, 0x0⟩
def FAB_INT_STATUS.GCLK_LOST : Fld := ⟨.fab, 0xc, 2, 1, .w1c, 0x0⟩

def FAB_INT_ENABLE.PLL_UNLOCK : Fld := ⟨.fab, 0x10, 0, 1, .rw, 0x0⟩
def FAB_INT_ENABLE.BANK_CHANGE : Fld := ⟨.fab, 0x10, 1, 1, .rw, 0x0⟩
def FAB_INT_ENABLE.GCLK_LOST : Fld := ⟨.fab, 0x10, 2, 1, .rw, 0x0⟩

def FAB_BANK_SENSE.LEVEL : Fld := ⟨.fab, 0x40, 0, 24, .ro, 0xffffff⟩

def FAB_BANK_DECL.LEVEL : Fld := ⟨.fab, 0x44, 0, 24, .ro, 0xffffff⟩

def FAB_GCLK_SRC_A.SRC : Fld := ⟨.fab, 0x48, 0, 32, .ro, 0x0⟩

def FAB_GCLK_SRC_B.SRC : Fld := ⟨.fab, 0x4c, 0, 32, .ro, 0x0⟩

def FAB_USER_RESET.ASSERT : Fld := ⟨.fab, 0x50, 0, 1, .rw, 0x0⟩

def MDC_CTRL.CLK_EN : Fld := ⟨.mdc, 0x4, 0, 1, .rw, 0x0⟩
def MDC_CTRL.RESET : Fld := ⟨.mdc, 0x4, 1, 1, .rw, 0x1⟩

def MDC_STATUS.STATE : Fld := ⟨.mdc, 0x8, 0, 3, .ro, 0x0⟩
def MDC_STATUS.RESV : Fld := ⟨.mdc, 0x8, 3, 1, .ro, 0x0⟩
def MDC_STATUS.HOLDOFF : Fld := ⟨.mdc, 0x8, 4, 1, .ro, 0x0⟩
def MDC_STATUS.FAR_BUSY : Fld := ⟨.mdc, 0x8, 5, 1, .ro, 0x0⟩

def MDC_INT_STATUS.WDT_WARN : Fld := ⟨.mdc, 0xc, 0, 1, .w1c, 0x0⟩
def MDC_INT_STATUS.WDT_RESET : Fld := ⟨.mdc, 0xc, 1, 1, .w1c, 0x0⟩
def MDC_INT_STATUS.RELEASED : Fld := ⟨.mdc, 0xc, 2, 1, .w1c, 0x0⟩
def MDC_INT_STATUS.EXCEPTION : Fld := ⟨.mdc, 0xc, 3, 1, .w1c, 0x0⟩
def MDC_INT_STATUS.SEAL : Fld := ⟨.mdc, 0xc, 4, 1, .w1c, 0x0⟩
def MDC_INT_STATUS.STORE_ERR : Fld := ⟨.mdc, 0xc, 5, 1, .w1c, 0x0⟩

def MDC_INT_ENABLE.WDT_WARN : Fld := ⟨.mdc, 0x10, 0, 1, .rw, 0x0⟩
def MDC_INT_ENABLE.WDT_RESET : Fld := ⟨.mdc, 0x10, 1, 1, .rw, 0x0⟩
def MDC_INT_ENABLE.RELEASED : Fld := ⟨.mdc, 0x10, 2, 1, .rw, 0x0⟩
def MDC_INT_ENABLE.EXCEPTION : Fld := ⟨.mdc, 0x10, 3, 1, .rw, 0x0⟩
def MDC_INT_ENABLE.SEAL : Fld := ⟨.mdc, 0x10, 4, 1, .rw, 0x0⟩
def MDC_INT_ENABLE.STORE_ERR : Fld := ⟨.mdc, 0x10, 5, 1, .rw, 0x0⟩

def MDC_BOOT_ADDR.ADDR : Fld := ⟨.mdc, 0x40, 4, 14, .rw, 0x0⟩

def MDC_FAR_BASE.BASE : Fld := ⟨.mdc, 0x44, 0, 9, .rw, 0x0⟩

def MDC_WDT_CTRL.EN : Fld := ⟨.mdc, 0x48, 0, 1, .rw, 0x0⟩

def MDC_WDT_PERIOD.US : Fld := ⟨.mdc, 0x4c, 0, 24, .rw, 0x3e8⟩

def MDC_WDT_KICK.KEY : Fld := ⟨.mdc, 0x50, 0, 16, .wo, 0x0⟩

def MDC_WDT_COUNT.US : Fld := ⟨.mdc, 0x54, 0, 24, .ro, 0x3e8⟩

def MDC_EXC_INFO.CAUSE : Fld := ⟨.mdc, 0x58, 0, 8, .ro, 0x0⟩
def MDC_EXC_INFO.SLOT : Fld := ⟨.mdc, 0x58, 8, 1, .ro, 0x0⟩

def MDC_EXC_ADDR.ADDR : Fld := ⟨.mdc, 0x5c, 0, 32, .ro, 0x0⟩

def MDC_PC.PC : Fld := ⟨.mdc, 0x60, 0, 32, .ro, 0x0⟩

def MDC_SEAL_ERR.COUNT : Fld := ⟨.mdc, 0x64, 0, 32, .rc, 0x0⟩

def MDC_BANK_WAIT.COUNT : Fld := ⟨.mdc, 0x68, 0, 32, .rc, 0x0⟩

def IRQ_CTRL.EN : Fld := ⟨.irq, 0x4, 0, 1, .rw, 0x1⟩

def IRQ_INT_STATUS.STACK_FAULT : Fld := ⟨.irq, 0xc, 0, 4, .w1c, 0x0⟩

def IRQ_INT_ENABLE.STACK_FAULT : Fld := ⟨.irq, 0x10, 0, 4, .rw, 0x0⟩

def IRQ_EOI.SOURCE : Fld := ⟨.irq, 0x60, 0, 8, .wo, 0x0⟩

def IRQ_SWSET_LO.PEND : Fld := ⟨.irq, 0xc0, 0, 32, .w1s, 0x0⟩

def IRQ_SWSET_HI.PEND : Fld := ⟨.irq, 0xc4, 0, 32, .w1s, 0x0⟩

def IRQ_SWCLR_LO.PEND : Fld := ⟨.irq, 0xc8, 0, 32, .w1c, 0x0⟩

def IRQ_SWCLR_HI.PEND : Fld := ⟨.irq, 0xcc, 0, 32, .w1c, 0x0⟩

def IRQ_CVBASE.ADDR (i : Nat) : Fld := ⟨.irq, 0x40 + 0x4 * i, 4, 28, .rw, 0x0⟩

def IRQ_STACK.DEPTH (i : Nat) : Fld := ⟨.irq, 0x50 + 0x4 * i, 0, 5, .ro, 0x0⟩
def IRQ_STACK.RP (i : Nat) : Fld := ⟨.irq, 0x50 + 0x4 * i, 8, 5, .ro, 0x10⟩
def IRQ_STACK.TOP (i : Nat) : Fld := ⟨.irq, 0x50 + 0x4 * i, 16, 8, .ro, 0x0⟩

def IRQ_MVBASE.ADDR (i : Nat) : Fld := ⟨.irq, 0x80 + 0x4 * i, 4, 14, .rw, 0x0⟩

def IRQ_LINE.LINE (i : Nat) : Fld := ⟨.irq, 0x100 + 0x4 * i, 0, 32, .ro, 0x0⟩

def IRQ_PEND.PEND (i : Nat) : Fld := ⟨.irq, 0x120 + 0x4 * i, 0, 32, .ro, 0x0⟩

def IRQ_INSVC.INSVC (i : Nat) : Fld := ⟨.irq, 0x140 + 0x4 * i, 0, 32, .ro, 0x0⟩

def IRQ_TARGET.KIND (i : Nat) : Fld := ⟨.irq, 0x400 + 0x4 * i, 0, 2, .rw, (fixedTargetKind i)⟩
def IRQ_TARGET.INDEX (i : Nat) : Fld := ⟨.irq, 0x400 + 0x4 * i, 2, 6, .rw, (fixedTargetIndex i)⟩
def IRQ_TARGET.PRIO (i : Nat) : Fld := ⟨.irq, 0x400 + 0x4 * i, 8, 4, .rw, 0x0⟩

def HMS_CTRL.EN : Fld := ⟨.hms, 0x4, 0, 1, .rw, 0x0⟩

def HMS_STATUS.BP : Fld := ⟨.hms, 0x8, 0, 1, .ro, 0x0⟩

def HMS_INT_STATUS.ITEM_FAILED : Fld := ⟨.hms, 0xc, 0, 1, .w1c, 0x0⟩
def HMS_INT_STATUS.TAKE_TIMEOUT : Fld := ⟨.hms, 0xc, 1, 1, .w1c, 0x0⟩
def HMS_INT_STATUS.BP_REFUSED : Fld := ⟨.hms, 0xc, 2, 1, .w1c, 0x0⟩
def HMS_INT_STATUS.POOL_ERR : Fld := ⟨.hms, 0xc, 3, 1, .w1c, 0x0⟩

def HMS_INT_ENABLE.ITEM_FAILED : Fld := ⟨.hms, 0x10, 0, 1, .rw, 0x0⟩
def HMS_INT_ENABLE.TAKE_TIMEOUT : Fld := ⟨.hms, 0x10, 1, 1, .rw, 0x0⟩
def HMS_INT_ENABLE.BP_REFUSED : Fld := ⟨.hms, 0x10, 2, 1, .rw, 0x0⟩
def HMS_INT_ENABLE.POOL_ERR : Fld := ⟨.hms, 0x10, 3, 1, .rw, 0x0⟩

def HMS_POOL.BANK : Fld := ⟨.hms, 0x40, 0, 6, .rw, 0x0⟩
def HMS_POOL.FIRST : Fld := ⟨.hms, 0x40, 8, 18, .rw, 0x0⟩

def HMS_POOL_CORES.CORES : Fld := ⟨.hms, 0x44, 0, 16, .rw, 0x0⟩

def HMS_BP_LIMIT.US : Fld := ⟨.hms, 0x48, 0, 16, .rw, 0x3e8⟩

def HMS_TAKE_LIMIT.US : Fld := ⟨.hms, 0x4c, 0, 16, .rw, 0x64⟩

def HMS_COUNT_LO.FREE : Fld := ⟨.hms, 0x50, 0, 13, .ro, 0x1000⟩
def HMS_COUNT_LO.QUEUED : Fld := ⟨.hms, 0x50, 16, 13, .ro, 0x0⟩

def HMS_COUNT_HI.DISPATCHING : Fld := ⟨.hms, 0x54, 0, 5, .ro, 0x0⟩
def HMS_COUNT_HI.RUNNING : Fld := ⟨.hms, 0x54, 8, 8, .ro, 0x0⟩

def HMS_CANCEL.INDEX : Fld := ⟨.hms, 0x58, 0, 12, .wo, 0x0⟩

def HMS_TAKE.INDEX : Fld := ⟨.hms, 0x60, 0, 12, .rc, 0x0⟩
def HMS_TAKE.LEVEL : Fld := ⟨.hms, 0x60, 12, 3, .rc, 0x0⟩
def HMS_TAKE.PREEMPT : Fld := ⟨.hms, 0x60, 15, 1, .rc, 0x0⟩
def HMS_TAKE.VALID : Fld := ⟨.hms, 0x60, 31, 1, .rc, 0x0⟩

def HMS_DONE.RESULT : Fld := ⟨.hms, 0x64, 0, 32, .wo, 0x0⟩

def HMS_FAIL.RESULT : Fld := ⟨.hms, 0x68, 0, 32, .wo, 0x0⟩

def HMS_POST_IDX.INDEX : Fld := ⟨.hms, 0x6c, 0, 12, .ro, 0x0⟩
def HMS_POST_IDX.VALID : Fld := ⟨.hms, 0x6c, 31, 1, .ro, 0x0⟩

def HMS_POST.DATA (i : Nat) : Fld := ⟨.hms, 0x100 + 0x4 * i, 0, 32, .wo, 0x0⟩

def HMS_ITEM.DATA (i : Nat) : Fld := ⟨.hms, 0x140 + 0x4 * i, 0, 32, .ro, 0x0⟩

def HMS_CORE.DEPTH (i : Nat) : Fld := ⟨.hms, 0x200 + 0x4 * i, 0, 4, .ro, 0x0⟩
def HMS_CORE.TOP_LEVEL (i : Nat) : Fld := ⟨.hms, 0x200 + 0x4 * i, 4, 3, .ro, 0x0⟩
def HMS_CORE.DISPATCH (i : Nat) : Fld := ⟨.hms, 0x200 + 0x4 * i, 7, 1, .ro, 0x0⟩
def HMS_CORE.TOP_INDEX (i : Nat) : Fld := ⟨.hms, 0x200 + 0x4 * i, 8, 12, .ro, 0x0⟩

def NOC_CTRL.REVIVE : Fld := ⟨.noc, 0x4, 0, 1, .wo, 0x0⟩

def NOC_STATUS.DEAD : Fld := ⟨.noc, 0x8, 0, 1, .ro, 0x0⟩
def NOC_STATUS.ASLEEP : Fld := ⟨.noc, 0x8, 1, 1, .ro, 0x0⟩
def NOC_STATUS.NODE : Fld := ⟨.noc, 0x8, 2, 6, .ro, 0x0⟩
def NOC_STATUS.OUTSTANDING : Fld := ⟨.noc, 0x8, 8, 7, .ro, 0x0⟩

def NOC_INT_STATUS.DEAD : Fld := ⟨.noc, 0xc, 0, 1, .w1c, 0x0⟩
def NOC_INT_STATUS.DECODE : Fld := ⟨.noc, 0xc, 1, 1, .w1c, 0x0⟩
def NOC_INT_STATUS.ASLEEP_ACCESS : Fld := ⟨.noc, 0xc, 2, 1, .w1c, 0x0⟩
def NOC_INT_STATUS.ERR_RESP : Fld := ⟨.noc, 0xc, 3, 1, .w1c, 0x0⟩

def NOC_INT_ENABLE.DEAD : Fld := ⟨.noc, 0x10, 0, 1, .rw, 0x0⟩
def NOC_INT_ENABLE.DECODE : Fld := ⟨.noc, 0x10, 1, 1, .rw, 0x0⟩
def NOC_INT_ENABLE.ASLEEP_ACCESS : Fld := ⟨.noc, 0x10, 2, 1, .rw, 0x0⟩
def NOC_INT_ENABLE.ERR_RESP : Fld := ⟨.noc, 0x10, 3, 1, .rw, 0x0⟩

def NOC_ROUTE.ROUTE (i : Nat) : Fld := ⟨.noc, 0x40 + 0x4 * i, 0, 30, .rwl, 0x0⟩
def NOC_ROUTE.VALID (i : Nat) : Fld := ⟨.noc, 0x40 + 0x4 * i, 31, 1, .rwl, 0x0⟩

def ACQ_CTRL.CLK_SRC : Fld := ⟨.acq, 0x4, 0, 2, .rw, 0x0⟩
def ACQ_CTRL.PART : Fld := ⟨.acq, 0x4, 2, 6, .rw, 0x0⟩
def ACQ_CTRL.FCLK : Fld := ⟨.acq, 0x4, 8, 3, .rw, 0x0⟩
def ACQ_CTRL.AUTO : Fld := ⟨.acq, 0x4, 11, 1, .rw, 0x0⟩
def ACQ_CTRL.DECIM : Fld := ⟨.acq, 0x4, 12, 8, .rw, 0x0⟩
def ACQ_CTRL.PIN : Fld := ⟨.acq, 0x4, 20, 5, .rw, 0x0⟩

def ACQ_STATUS.STATE : Fld := ⟨.acq, 0x8, 0, 3, .ro, 0x0⟩
def ACQ_STATUS.SEQ_STATE : Fld := ⟨.acq, 0x8, 3, 3, .ro, 0x0⟩
def ACQ_STATUS.WRAPPED : Fld := ⟨.acq, 0x8, 6, 1, .ro, 0x0⟩
def ACQ_STATUS.TRIGGERED : Fld := ⟨.acq, 0x8, 7, 1, .ro, 0x0⟩
def ACQ_STATUS.TRIG_STORED : Fld := ⟨.acq, 0x8, 8, 1, .ro, 0x0⟩
def ACQ_STATUS.TRIG_INTERP : Fld := ⟨.acq, 0x8, 9, 1, .ro, 0x0⟩
def ACQ_STATUS.FORCED : Fld := ⟨.acq, 0x8, 10, 1, .ro, 0x0⟩
def ACQ_STATUS.SHORT : Fld := ⟨.acq, 0x8, 11, 1, .ro, 0x0⟩
def ACQ_STATUS.ERR : Fld := ⟨.acq, 0x8, 12, 2, .ro, 0x0⟩

def ACQ_INT_STATUS.TRIGGERED : Fld := ⟨.acq, 0xc, 0, 1, .w1c, 0x0⟩
def ACQ_INT_STATUS.DONE : Fld := ⟨.acq, 0xc, 1, 1, .w1c, 0x0⟩
def ACQ_INT_STATUS.DROP : Fld := ⟨.acq, 0xc, 2, 1, .w1c, 0x0⟩
def ACQ_INT_STATUS.ERROR : Fld := ⟨.acq, 0xc, 3, 1, .w1c, 0x0⟩
def ACQ_INT_STATUS.FORCED : Fld := ⟨.acq, 0xc, 4, 1, .w1c, 0x0⟩
def ACQ_INT_STATUS.REPLAY : Fld := ⟨.acq, 0xc, 5, 1, .w1c, 0x0⟩

def ACQ_INT_ENABLE.TRIGGERED : Fld := ⟨.acq, 0x10, 0, 1, .rw, 0x0⟩
def ACQ_INT_ENABLE.DONE : Fld := ⟨.acq, 0x10, 1, 1, .rw, 0x0⟩
def ACQ_INT_ENABLE.DROP : Fld := ⟨.acq, 0x10, 2, 1, .rw, 0x0⟩
def ACQ_INT_ENABLE.ERROR : Fld := ⟨.acq, 0x10, 3, 1, .rw, 0x0⟩
def ACQ_INT_ENABLE.FORCED : Fld := ⟨.acq, 0x10, 4, 1, .rw, 0x0⟩
def ACQ_INT_ENABLE.REPLAY : Fld := ⟨.acq, 0x10, 5, 1, .rw, 0x0⟩

def ACQ_CMD.CMD : Fld := ⟨.acq, 0x40, 0, 2, .wo, 0x0⟩

def ACQ_BUF.FIRST_BANK : Fld := ⟨.acq, 0x44, 0, 6, .rw, 0x0⟩
def ACQ_BUF.NBANKS : Fld := ⟨.acq, 0x44, 8, 5, .rw, 0x0⟩

def ACQ_POST.SAMPLES : Fld := ⟨.acq, 0x48, 0, 32, .rw, 0x0⟩

def ACQ_MIN_PRE.SAMPLES : Fld := ⟨.acq, 0x4c, 0, 32, .rw, 0x0⟩

def ACQ_AUTO_US.US : Fld := ⟨.acq, 0x50, 0, 32, .rw, 0x0⟩

def ACQ_WR_POS.BLOCK : Fld := ⟨.acq, 0x54, 0, 18, .ro, 0x0⟩

def ACQ_TRIG_WORD.WORD : Fld := ⟨.acq, 0x58, 0, 22, .ro, 0x0⟩

def ACQ_DROPPED.COUNT : Fld := ⟨.acq, 0x5c, 0, 32, .rc, 0x0⟩

def ACQ_TRIG_TIME.TIME0 : Fld := ⟨.acq, 0x60, 0, 32, .ro, 0x0⟩
def ACQ_TRIG_TIME.TIME1 : Fld := ⟨.acq, 0x64, 0, 32, .ro, 0x0⟩
def ACQ_TRIG_TIME.TIME2 : Fld := ⟨.acq, 0x68, 0, 32, .ro, 0x0⟩
def ACQ_TRIG_TIME.TIME3 : Fld := ⟨.acq, 0x6c, 0, 32, .ro, 0x0⟩

def ACQ_TRIG_SAMPLE_TIME.TIME0 : Fld := ⟨.acq, 0x70, 0, 32, .ro, 0x0⟩
def ACQ_TRIG_SAMPLE_TIME.TIME1 : Fld := ⟨.acq, 0x74, 0, 32, .ro, 0x0⟩
def ACQ_TRIG_SAMPLE_TIME.TIME2 : Fld := ⟨.acq, 0x78, 0, 32, .ro, 0x0⟩
def ACQ_TRIG_SAMPLE_TIME.TIME3 : Fld := ⟨.acq, 0x7c, 0, 32, .ro, 0x0⟩

def ACQ_TRIG_SEQ_LO.SEQ : Fld := ⟨.acq, 0x80, 0, 32, .ro, 0x0⟩

def ACQ_TRIG_SEQ_HI.SEQ : Fld := ⟨.acq, 0x84, 0, 16, .ro, 0x0⟩

def ACQ_RD_INDEX.WORD : Fld := ⟨.acq, 0x2c0, 0, 22, .rw, 0x0⟩

def ACQ_RD_DATA.DATA0 : Fld := ⟨.acq, 0x2d0, 0, 32, .ro, 0x0⟩
def ACQ_RD_DATA.DATA1 : Fld := ⟨.acq, 0x2d4, 0, 32, .ro, 0x0⟩
def ACQ_RD_DATA.DATA2 : Fld := ⟨.acq, 0x2d8, 0, 32, .ro, 0x0⟩
def ACQ_RD_DATA.DATA3 : Fld := ⟨.acq, 0x2dc, 0, 32, .ro, 0x0⟩

def ACQ_CMP_MASK.MASK0 (i : Nat) : Fld := ⟨.acq, 0x100 + 0x40 * i, 0, 32, .rw, 0x0⟩
def ACQ_CMP_MASK.MASK1 (i : Nat) : Fld := ⟨.acq, 0x104 + 0x40 * i, 0, 32, .rw, 0x0⟩
def ACQ_CMP_MASK.MASK2 (i : Nat) : Fld := ⟨.acq, 0x108 + 0x40 * i, 0, 32, .rw, 0x0⟩
def ACQ_CMP_MASK.MASK3 (i : Nat) : Fld := ⟨.acq, 0x10c + 0x40 * i, 0, 32, .rw, 0x0⟩

def ACQ_CMP_VALUE.VALUE0 (i : Nat) : Fld := ⟨.acq, 0x110 + 0x40 * i, 0, 32, .rw, 0x0⟩
def ACQ_CMP_VALUE.VALUE1 (i : Nat) : Fld := ⟨.acq, 0x114 + 0x40 * i, 0, 32, .rw, 0x0⟩
def ACQ_CMP_VALUE.VALUE2 (i : Nat) : Fld := ⟨.acq, 0x118 + 0x40 * i, 0, 32, .rw, 0x0⟩
def ACQ_CMP_VALUE.VALUE3 (i : Nat) : Fld := ⟨.acq, 0x11c + 0x40 * i, 0, 32, .rw, 0x0⟩

def ACQ_CMP_CTRL.MODE (i : Nat) : Fld := ⟨.acq, 0x120 + 0x40 * i, 0, 2, .rw, 0x0⟩

def ACQ_S_A.COND (i : Nat) : Fld := ⟨.acq, 0x200 + 0x8 * i, 0, 5, .rw, 0x0⟩
def ACQ_S_A.INV (i : Nat) : Fld := ⟨.acq, 0x200 + 0x8 * i, 5, 1, .rw, 0x0⟩
def ACQ_S_A.NEXT (i : Nat) : Fld := ⟨.acq, 0x200 + 0x8 * i, 6, 3, .rw, 0x0⟩
def ACQ_S_A.TRIG (i : Nat) : Fld := ⟨.acq, 0x200 + 0x8 * i, 9, 1, .rw, 0x0⟩
def ACQ_S_A.CINC (i : Nat) : Fld := ⟨.acq, 0x200 + 0x8 * i, 10, 4, .rw, 0x0⟩
def ACQ_S_A.CCLR (i : Nat) : Fld := ⟨.acq, 0x200 + 0x8 * i, 14, 4, .rw, 0x0⟩
def ACQ_S_A.TSTART (i : Nat) : Fld := ⟨.acq, 0x200 + 0x8 * i, 18, 2, .rw, 0x0⟩
def ACQ_S_A.TSTOP (i : Nat) : Fld := ⟨.acq, 0x200 + 0x8 * i, 20, 2, .rw, 0x0⟩
def ACQ_S_A.EN (i : Nat) : Fld := ⟨.acq, 0x200 + 0x8 * i, 22, 1, .rw, 0x0⟩

def ACQ_S_B.COND (i : Nat) : Fld := ⟨.acq, 0x204 + 0x8 * i, 0, 5, .rw, 0x0⟩
def ACQ_S_B.INV (i : Nat) : Fld := ⟨.acq, 0x204 + 0x8 * i, 5, 1, .rw, 0x0⟩
def ACQ_S_B.NEXT (i : Nat) : Fld := ⟨.acq, 0x204 + 0x8 * i, 6, 3, .rw, 0x0⟩
def ACQ_S_B.TRIG (i : Nat) : Fld := ⟨.acq, 0x204 + 0x8 * i, 9, 1, .rw, 0x0⟩
def ACQ_S_B.CINC (i : Nat) : Fld := ⟨.acq, 0x204 + 0x8 * i, 10, 4, .rw, 0x0⟩
def ACQ_S_B.CCLR (i : Nat) : Fld := ⟨.acq, 0x204 + 0x8 * i, 14, 4, .rw, 0x0⟩
def ACQ_S_B.TSTART (i : Nat) : Fld := ⟨.acq, 0x204 + 0x8 * i, 18, 2, .rw, 0x0⟩
def ACQ_S_B.TSTOP (i : Nat) : Fld := ⟨.acq, 0x204 + 0x8 * i, 20, 2, .rw, 0x0⟩
def ACQ_S_B.EN (i : Nat) : Fld := ⟨.acq, 0x204 + 0x8 * i, 22, 1, .rw, 0x0⟩

def ACQ_CNT_LIMIT_LO.LIMIT (i : Nat) : Fld := ⟨.acq, 0x240 + 0x10 * i, 0, 32, .rw, 0x0⟩

def ACQ_CNT_LIMIT_HI.LIMIT (i : Nat) : Fld := ⟨.acq, 0x244 + 0x10 * i, 0, 16, .rw, 0x0⟩

def ACQ_CNT_LO.VALUE (i : Nat) : Fld := ⟨.acq, 0x248 + 0x10 * i, 0, 32, .ro, 0x0⟩

def ACQ_CNT_HI.VALUE (i : Nat) : Fld := ⟨.acq, 0x24c + 0x10 * i, 0, 16, .ro, 0x0⟩

def ACQ_TMR_LIMIT_LO.LIMIT (i : Nat) : Fld := ⟨.acq, 0x280 + 0x10 * i, 0, 32, .rw, 0x0⟩

def ACQ_TMR_LIMIT_HI.LIMIT (i : Nat) : Fld := ⟨.acq, 0x284 + 0x10 * i, 0, 16, .rw, 0x0⟩

def ACQ_TMR_LO.VALUE (i : Nat) : Fld := ⟨.acq, 0x288 + 0x10 * i, 0, 32, .ro, 0x0⟩

def ACQ_TMR_HI.VALUE (i : Nat) : Fld := ⟨.acq, 0x28c + 0x10 * i, 0, 16, .ro, 0x0⟩

def ACQ_TDC_CTRL.EN (i : Nat) : Fld := ⟨.acq, 0x400 + 0x20 * i, 0, 1, .rw, 0x0⟩
def ACQ_TDC_CTRL.EDGES (i : Nat) : Fld := ⟨.acq, 0x400 + 0x20 * i, 1, 2, .rw, 0x0⟩
def ACQ_TDC_CTRL.SKEW (i : Nat) : Fld := ⟨.acq, 0x400 + 0x20 * i, 16, 16, .rw, 0x0⟩

def ACQ_TDC_LAST.FRAC (i : Nat) : Fld := ⟨.acq, 0x410 + 0x20 * i, 0, 16, .ro, 0x0⟩
def ACQ_TDC_LAST.RISING (i : Nat) : Fld := ⟨.acq, 0x410 + 0x20 * i, 16, 1, .ro, 0x0⟩
def ACQ_TDC_LAST.VALID (i : Nat) : Fld := ⟨.acq, 0x410 + 0x20 * i, 17, 1, .ro, 0x0⟩
def ACQ_TDC_LAST.OVERRUN (i : Nat) : Fld := ⟨.acq, 0x410 + 0x20 * i, 18, 1, .rc, 0x0⟩
def ACQ_TDC_LAST.NS (i : Nat) : Fld := ⟨.acq, 0x414 + 0x20 * i, 0, 32, .ro, 0x0⟩
def ACQ_TDC_LAST.SEC_LO (i : Nat) : Fld := ⟨.acq, 0x418 + 0x20 * i, 0, 32, .ro, 0x0⟩
def ACQ_TDC_LAST.SEC_HI (i : Nat) : Fld := ⟨.acq, 0x41c + 0x20 * i, 0, 32, .ro, 0x0⟩

def TIM_CTRL.FW_PTP : Fld := ⟨.tim, 0x4, 0, 1, .rw, 0x0⟩

def TIM_STATUS.STATE : Fld := ⟨.tim, 0x8, 0, 2, .ro, 0x0⟩
def TIM_STATUS.LOCKED : Fld := ⟨.tim, 0x8, 2, 1, .ro, 0x0⟩
def TIM_STATUS.SLEWING : Fld := ⟨.tim, 0x8, 3, 1, .ro, 0x0⟩

def TIM_INT_STATUS.LOCK : Fld := ⟨.tim, 0xc, 0, 1, .w1c, 0x0⟩
def TIM_INT_STATUS.STEP_REFUSED : Fld := ⟨.tim, 0xc, 1, 1, .w1c, 0x0⟩
def TIM_INT_STATUS.HOLDOVER : Fld := ⟨.tim, 0xc, 2, 1, .w1c, 0x0⟩
def TIM_INT_STATUS.RELOCK : Fld := ⟨.tim, 0xc, 3, 1, .w1c, 0x0⟩

def TIM_INT_ENABLE.LOCK : Fld := ⟨.tim, 0x10, 0, 1, .rw, 0x0⟩
def TIM_INT_ENABLE.STEP_REFUSED : Fld := ⟨.tim, 0x10, 1, 1, .rw, 0x0⟩
def TIM_INT_ENABLE.HOLDOVER : Fld := ⟨.tim, 0x10, 2, 1, .rw, 0x0⟩
def TIM_INT_ENABLE.RELOCK : Fld := ⟨.tim, 0x10, 3, 1, .rw, 0x0⟩

def TIM_CMD.CMD : Fld := ⟨.tim, 0x40, 0, 2, .wo, 0x0⟩

def TIM_RATE.RATE : Fld := ⟨.tim, 0x44, 0, 32, .rw, 0x0⟩

def TIM_STEP_LIMIT.NS : Fld := ⟨.tim, 0x48, 0, 32, .rw, 0x3e8⟩

def TIM_SLEW.PPM : Fld := ⟨.tim, 0x4c, 0, 10, .rw, 0x1f4⟩

def TIM_WATCH_MS.MS : Fld := ⟨.tim, 0x50, 0, 16, .rw, 0x177⟩

def TIM_REFUSALS.COUNT : Fld := ⟨.tim, 0x54, 0, 32, .rc, 0x0⟩

def TIM_PTP_PRIO.PRIORITY1 : Fld := ⟨.tim, 0x58, 0, 8, .rw, 0xff⟩
def TIM_PTP_PRIO.PRIORITY2 : Fld := ⟨.tim, 0x58, 8, 8, .rw, 0xf8⟩

def TIM_NOW.TIME0 : Fld := ⟨.tim, 0x60, 0, 32, .ro, 0x0⟩
def TIM_NOW.TIME1 : Fld := ⟨.tim, 0x64, 0, 32, .ro, 0x0⟩
def TIM_NOW.TIME2 : Fld := ⟨.tim, 0x68, 0, 32, .ro, 0x0⟩
def TIM_NOW.TIME3 : Fld := ⟨.tim, 0x6c, 0, 32, .ro, 0x0⟩

def TIM_SET.TIME0 : Fld := ⟨.tim, 0x70, 0, 32, .rw, 0x0⟩
def TIM_SET.TIME1 : Fld := ⟨.tim, 0x74, 0, 32, .rw, 0x0⟩
def TIM_SET.TIME2 : Fld := ⟨.tim, 0x78, 0, 32, .rw, 0x0⟩
def TIM_SET.TIME3 : Fld := ⟨.tim, 0x7c, 0, 32, .rw, 0x0⟩

def TIM_LOCK_TIME.TIME0 : Fld := ⟨.tim, 0x80, 0, 32, .ro, 0x0⟩
def TIM_LOCK_TIME.TIME1 : Fld := ⟨.tim, 0x84, 0, 32, .ro, 0x0⟩
def TIM_LOCK_TIME.TIME2 : Fld := ⟨.tim, 0x88, 0, 32, .ro, 0x0⟩
def TIM_LOCK_TIME.TIME3 : Fld := ⟨.tim, 0x8c, 0, 32, .ro, 0x0⟩

def TIM_OFFSET_LO.OFFSET : Fld := ⟨.tim, 0x90, 0, 32, .rw, 0x0⟩

def TIM_OFFSET_HI.OFFSET : Fld := ⟨.tim, 0x94, 0, 32, .rw, 0x0⟩

def TIM_REFUSED_LO.OFFSET : Fld := ⟨.tim, 0x98, 0, 32, .ro, 0x0⟩

def TIM_REFUSED_HI.OFFSET : Fld := ⟨.tim, 0x9c, 0, 32, .ro, 0x0⟩

def TIM_REMAIN_LO.OFFSET : Fld := ⟨.tim, 0xa0, 0, 32, .ro, 0x0⟩

def TIM_REMAIN_HI.OFFSET : Fld := ⟨.tim, 0xa4, 0, 32, .ro, 0x0⟩

def ETH_INT_STATUS.PORTS : Fld := ⟨.eth, 0xc, 0, 8, .ro, 0x0⟩

def ETH_P_CTRL.EN (i : Nat) : Fld := ⟨.eth, 0x100 + 0x80 * i, 0, 1, .rw, 0x0⟩
def ETH_P_CTRL.MODE (i : Nat) : Fld := ⟨.eth, 0x100 + 0x80 * i, 1, 2, .rw, 0x0⟩
def ETH_P_CTRL.AN_EN (i : Nat) : Fld := ⟨.eth, 0x100 + 0x80 * i, 3, 1, .rw, 0x1⟩
def ETH_P_CTRL.PTP_ROLE (i : Nat) : Fld := ⟨.eth, 0x100 + 0x80 * i, 4, 2, .rw, 0x3⟩
def ETH_P_CTRL.MAX_LEN (i : Nat) : Fld := ⟨.eth, 0x100 + 0x80 * i, 16, 14, .rw, 0x5f2⟩

def ETH_P_STATUS.LINK (i : Nat) : Fld := ⟨.eth, 0x104 + 0x80 * i, 0, 1, .ro, 0x0⟩
def ETH_P_STATUS.AN_DONE (i : Nat) : Fld := ⟨.eth, 0x104 + 0x80 * i, 1, 1, .ro, 0x0⟩

def ETH_P_INT_STATUS.LINK_CHANGE (i : Nat) : Fld := ⟨.eth, 0x108 + 0x80 * i, 0, 1, .w1c, 0x0⟩
def ETH_P_INT_STATUS.RX_DONE (i : Nat) : Fld := ⟨.eth, 0x108 + 0x80 * i, 1, 1, .w1c, 0x0⟩
def ETH_P_INT_STATUS.TX_DONE (i : Nat) : Fld := ⟨.eth, 0x108 + 0x80 * i, 2, 1, .w1c, 0x0⟩
def ETH_P_INT_STATUS.RX_DROP (i : Nat) : Fld := ⟨.eth, 0x108 + 0x80 * i, 3, 1, .w1c, 0x0⟩

def ETH_P_INT_ENABLE.LINK_CHANGE (i : Nat) : Fld := ⟨.eth, 0x10c + 0x80 * i, 0, 1, .rw, 0x0⟩
def ETH_P_INT_ENABLE.RX_DONE (i : Nat) : Fld := ⟨.eth, 0x10c + 0x80 * i, 1, 1, .rw, 0x0⟩
def ETH_P_INT_ENABLE.TX_DONE (i : Nat) : Fld := ⟨.eth, 0x10c + 0x80 * i, 2, 1, .rw, 0x0⟩
def ETH_P_INT_ENABLE.RX_DROP (i : Nat) : Fld := ⟨.eth, 0x10c + 0x80 * i, 3, 1, .rw, 0x0⟩

def ETH_P_INGRESS_PS.PS (i : Nat) : Fld := ⟨.eth, 0x110 + 0x80 * i, 0, 32, .rw, 0x0⟩

def ETH_P_EGRESS_PS.PS (i : Nat) : Fld := ⟨.eth, 0x114 + 0x80 * i, 0, 32, .rw, 0x0⟩

def ETH_P_RX_BASE.BASE (i : Nat) : Fld := ⟨.eth, 0x118 + 0x80 * i, 0, 32, .rw, 0x0⟩

def ETH_P_RX_CFG.SIZE_LOG2 (i : Nat) : Fld := ⟨.eth, 0x11c + 0x80 * i, 0, 4, .rw, 0x2⟩
def ETH_P_RX_CFG.POS (i : Nat) : Fld := ⟨.eth, 0x11c + 0x80 * i, 16, 10, .ro, 0x0⟩

def ETH_P_TX_BASE.BASE (i : Nat) : Fld := ⟨.eth, 0x120 + 0x80 * i, 0, 32, .rw, 0x0⟩

def ETH_P_TX_CFG.SIZE_LOG2 (i : Nat) : Fld := ⟨.eth, 0x124 + 0x80 * i, 0, 4, .rw, 0x2⟩
def ETH_P_TX_CFG.POS (i : Nat) : Fld := ⟨.eth, 0x124 + 0x80 * i, 16, 10, .ro, 0x0⟩

def ETH_P_TX_KICK.KICK (i : Nat) : Fld := ⟨.eth, 0x128 + 0x80 * i, 0, 1, .wo, 0x0⟩

def ETH_P_RX_DROPPED.COUNT (i : Nat) : Fld := ⟨.eth, 0x12c + 0x80 * i, 0, 32, .rc, 0x0⟩

def ETH_P_FCS_ERR.COUNT (i : Nat) : Fld := ⟨.eth, 0x130 + 0x80 * i, 0, 32, .rc, 0x0⟩

def ETH_P_TX_BAD.COUNT (i : Nat) : Fld := ⟨.eth, 0x134 + 0x80 * i, 0, 32, .rc, 0x0⟩

def ETH_P_RX_FRAMES.COUNT (i : Nat) : Fld := ⟨.eth, 0x138 + 0x80 * i, 0, 32, .rc, 0x0⟩

def ETH_P_TX_FRAMES.COUNT (i : Nat) : Fld := ⟨.eth, 0x13c + 0x80 * i, 0, 32, .rc, 0x0⟩

def HST_CTRL.UR_ON_REFUSE : Fld := ⟨.hst, 0x4, 0, 1, .rw, 0x0⟩
def HST_CTRL.BAR2_MAP : Fld := ⟨.hst, 0x4, 1, 2, .rw, 0x0⟩

def HST_STATUS.LINK_SPEED : Fld := ⟨.hst, 0x8, 0, 3, .ro, 0x0⟩
def HST_STATUS.LINK_WIDTH : Fld := ⟨.hst, 0x8, 3, 4, .ro, 0x0⟩
def HST_STATUS.BME : Fld := ⟨.hst, 0x8, 7, 1, .ro, 0x0⟩
def HST_STATUS.MSIX_EN : Fld := ⟨.hst, 0x8, 8, 1, .ro, 0x0⟩

def HST_INT_STATUS.MBX_DONE : Fld := ⟨.hst, 0xc, 0, 1, .w1c, 0x0⟩
def HST_INT_STATUS.REFUSED : Fld := ⟨.hst, 0xc, 1, 1, .w1c, 0x0⟩
def HST_INT_STATUS.POISONED : Fld := ⟨.hst, 0xc, 2, 1, .w1c, 0x0⟩
def HST_INT_STATUS.LINK_CHANGE : Fld := ⟨.hst, 0xc, 3, 1, .w1c, 0x0⟩
def HST_INT_STATUS.FETCH_ERR : Fld := ⟨.hst, 0xc, 4, 1, .w1c, 0x0⟩

def HST_INT_ENABLE.MBX_DONE : Fld := ⟨.hst, 0x10, 0, 1, .rw, 0x0⟩
def HST_INT_ENABLE.REFUSED : Fld := ⟨.hst, 0x10, 1, 1, .rw, 0x0⟩
def HST_INT_ENABLE.POISONED : Fld := ⟨.hst, 0x10, 2, 1, .rw, 0x0⟩
def HST_INT_ENABLE.LINK_CHANGE : Fld := ⟨.hst, 0x10, 3, 1, .rw, 0x0⟩
def HST_INT_ENABLE.FETCH_ERR : Fld := ⟨.hst, 0x10, 4, 1, .rw, 0x0⟩

def HST_MBX_DOORBELL.OPCODE : Fld := ⟨.hst, 0x40, 0, 8, .wo, 0x0⟩
def HST_MBX_DOORBELL.SEQ : Fld := ⟨.hst, 0x40, 8, 8, .wo, 0x0⟩

def HST_MBX_STATUS.BUSY : Fld := ⟨.hst, 0x44, 0, 1, .ro, 0x0⟩
def HST_MBX_STATUS.DONE : Fld := ⟨.hst, 0x44, 1, 1, .ro, 0x0⟩
def HST_MBX_STATUS.RESULT : Fld := ⟨.hst, 0x44, 4, 4, .ro, 0x0⟩
def HST_MBX_STATUS.SEQ : Fld := ⟨.hst, 0x44, 8, 8, .ro, 0x0⟩
def HST_MBX_STATUS.FW_STATE : Fld := ⟨.hst, 0x44, 16, 2, .ro, 0x0⟩

def HST_MBX_HEARTBEAT.COUNT : Fld := ⟨.hst, 0x48, 0, 32, .ro, 0x0⟩

def HST_MBX_ARG.ARG (i : Nat) : Fld := ⟨.hst, 0x80 + 0x4 * i, 0, 32, .rw, 0x0⟩

def HST_MBX_RSP.RSP (i : Nat) : Fld := ⟨.hst, 0xc0 + 0x4 * i, 0, 32, .ro, 0x0⟩

def PWR_CTRL.THROTTLE_EN : Fld := ⟨.pwr, 0x4, 0, 1, .rw, 0x1⟩

def PWR_STATUS.DEV_STATE : Fld := ⟨.pwr, 0x8, 0, 3, .ro, 0x2⟩
def PWR_STATUS.THROTTLED : Fld := ⟨.pwr, 0x8, 3, 1, .ro, 0x0⟩

def PWR_INT_STATUS.THROTTLE_ON : Fld := ⟨.pwr, 0xc, 0, 1, .w1c, 0x0⟩
def PWR_INT_STATUS.THROTTLE_OFF : Fld := ⟨.pwr, 0xc, 1, 1, .w1c, 0x0⟩
def PWR_INT_STATUS.PLL_UNLOCK : Fld := ⟨.pwr, 0xc, 2, 1, .w1c, 0x0⟩

def PWR_INT_ENABLE.THROTTLE_ON : Fld := ⟨.pwr, 0x10, 0, 1, .rw, 0x0⟩
def PWR_INT_ENABLE.THROTTLE_OFF : Fld := ⟨.pwr, 0x10, 1, 1, .rw, 0x0⟩
def PWR_INT_ENABLE.PLL_UNLOCK : Fld := ⟨.pwr, 0x10, 2, 1, .rw, 0x0⟩

def PWR_RESET_CMD.KEY : Fld := ⟨.pwr, 0x40, 0, 16, .wo, 0x0⟩
def PWR_RESET_CMD.KIND : Fld := ⟨.pwr, 0x40, 16, 2, .wo, 0x0⟩

def PWR_RESET_CAUSE.CAUSE : Fld := ⟨.pwr, 0x44, 0, 4, .ro, 0x1⟩
def PWR_RESET_CAUSE.RAIL : Fld := ⟨.pwr, 0x44, 4, 4, .ro, 0x0⟩

def PWR_STEP.PROG_MHZ : Fld := ⟨.pwr, 0x48, 0, 12, .ro, 0x4b0⟩
def PWR_STEP.CUR_MHZ : Fld := ⟨.pwr, 0x48, 16, 12, .ro, 0x0⟩

def PWR_THROTTLE.TEMP_ON : Fld := ⟨.pwr, 0x4c, 0, 8, .rw, 0x64⟩
def PWR_THROTTLE.HYST : Fld := ⟨.pwr, 0x4c, 8, 4, .rw, 0x5⟩
def PWR_THROTTLE.FREQ_MHZ : Fld := ⟨.pwr, 0x4c, 16, 12, .rw, 0x3e8⟩

def PWR_TEMP.TJ : Fld := ⟨.pwr, 0x50, 0, 16, .ro, 0x0⟩
def PWR_TEMP.SENSOR : Fld := ⟨.pwr, 0x50, 16, 3, .ro, 0x0⟩

def PWR_TEMP_MAX.TJ : Fld := ⟨.pwr, 0x54, 0, 16, .rc, 0x0⟩

def PWR_VCORE.MV : Fld := ⟨.pwr, 0x58, 0, 12, .ro, 0x0⟩

def PWR_CLOCKS.CORE_PLL : Fld := ⟨.pwr, 0x5c, 0, 1, .ro, 0x0⟩
def PWR_CLOCKS.STEP_PLL : Fld := ⟨.pwr, 0x5c, 1, 1, .ro, 0x0⟩
def PWR_CLOCKS.FABRIC_PLL : Fld := ⟨.pwr, 0x5c, 2, 2, .ro, 0x0⟩
def PWR_CLOCKS.CAS_LANE_PLL : Fld := ⟨.pwr, 0x5c, 4, 4, .ro, 0x0⟩
def PWR_CLOCKS.ETH_PLL : Fld := ⟨.pwr, 0x5c, 8, 8, .ro, 0x0⟩
def PWR_CLOCKS.PCIE_PLL : Fld := ⟨.pwr, 0x5c, 16, 1, .ro, 0x0⟩

def PWR_BUNCH_ON_LO.ON : Fld := ⟨.pwr, 0x60, 0, 32, .ro, 0x0⟩

def PWR_BUNCH_ON_HI.ON : Fld := ⟨.pwr, 0x64, 0, 32, .ro, 0x0⟩

def PWR_THROTTLE_COUNT.COUNT : Fld := ⟨.pwr, 0x68, 0, 32, .rc, 0x0⟩

def DEV_PART.PART : Fld := ⟨.dev, 0x40, 0, 16, .ro, 0x8640⟩
def DEV_PART.VENDOR : Fld := ⟨.dev, 0x40, 16, 16, .ro, 0x1f3c⟩

def DEV_STEPPING.NUMBER : Fld := ⟨.dev, 0x44, 0, 4, .ro, 0x1⟩
def DEV_STEPPING.LETTER : Fld := ⟨.dev, 0x44, 4, 4, .ro, 0x1⟩

def DEV_UID_LO.UID : Fld := ⟨.dev, 0x48, 0, 32, .ro, 0x0⟩

def DEV_UID_HI.UID : Fld := ⟨.dev, 0x4c, 0, 32, .ro, 0x0⟩

def DEV_STRAPS.CAS_ID : Fld := ⟨.dev, 0x50, 0, 6, .ro, 0x0⟩
def DEV_STRAPS.MASTER_SEL : Fld := ⟨.dev, 0x50, 6, 1, .ro, 0x0⟩
def DEV_STRAPS.IO_PARK : Fld := ⟨.dev, 0x50, 7, 1, .ro, 0x0⟩

def DBG_CTRL.ACQ_HALT : Fld := ⟨.dbg, 0x4, 0, 4, .rw, 0x0⟩

def DBG_STATUS.LEVEL : Fld := ⟨.dbg, 0x8, 0, 2, .ro, 0x1⟩
def DBG_STATUS.LOCK : Fld := ⟨.dbg, 0x8, 2, 1, .ro, 0x0⟩
def DBG_STATUS.UNLOCK_BUSY : Fld := ⟨.dbg, 0x8, 3, 1, .ro, 0x0⟩
def DBG_STATUS.BLOCKED : Fld := ⟨.dbg, 0x8, 4, 1, .ro, 0x0⟩
def DBG_STATUS.FAILS : Fld := ⟨.dbg, 0x8, 5, 2, .ro, 0x0⟩
def DBG_STATUS.EMU : Fld := ⟨.dbg, 0x8, 7, 2, .ro, 0x0⟩

def DBG_INT_STATUS.EMU_HALTED : Fld := ⟨.dbg, 0xc, 0, 1, .w1c, 0x0⟩
def DBG_INT_STATUS.EMU_RELEASED : Fld := ⟨.dbg, 0xc, 1, 1, .w1c, 0x0⟩
def DBG_INT_STATUS.CORE_HALTED : Fld := ⟨.dbg, 0xc, 2, 1, .w1c, 0x0⟩
def DBG_INT_STATUS.UNLOCK_DONE : Fld := ⟨.dbg, 0xc, 3, 1, .w1c, 0x0⟩
def DBG_INT_STATUS.UNLOCK_FAIL : Fld := ⟨.dbg, 0xc, 4, 1, .w1c, 0x0⟩
def DBG_INT_STATUS.VT_TX : Fld := ⟨.dbg, 0xc, 5, 1, .w1c, 0x0⟩

def DBG_INT_ENABLE.EMU_HALTED : Fld := ⟨.dbg, 0x10, 0, 1, .rw, 0x0⟩
def DBG_INT_ENABLE.EMU_RELEASED : Fld := ⟨.dbg, 0x10, 1, 1, .rw, 0x0⟩
def DBG_INT_ENABLE.CORE_HALTED : Fld := ⟨.dbg, 0x10, 2, 1, .rw, 0x0⟩
def DBG_INT_ENABLE.UNLOCK_DONE : Fld := ⟨.dbg, 0x10, 3, 1, .rw, 0x0⟩
def DBG_INT_ENABLE.UNLOCK_FAIL : Fld := ⟨.dbg, 0x10, 4, 1, .rw, 0x0⟩
def DBG_INT_ENABLE.VT_TX : Fld := ⟨.dbg, 0x10, 5, 1, .rw, 0x0⟩

def DBG_ACCESS.SIDE_EFFECTS : Fld := ⟨.dbg, 0x40, 0, 1, .rw, 0x0⟩

def DBG_GRANT.LEVEL : Fld := ⟨.dbg, 0x44, 0, 2, .rw, 0x1⟩
def DBG_GRANT.LOCK : Fld := ⟨.dbg, 0x44, 2, 1, .w1s, 0x0⟩

def DBG_CHALLENGE.VALUE0 : Fld := ⟨.dbg, 0x48, 0, 32, .ro, 0x0⟩
def DBG_CHALLENGE.VALUE1 : Fld := ⟨.dbg, 0x4c, 0, 32, .ro, 0x0⟩
def DBG_CHALLENGE.VALUE2 : Fld := ⟨.dbg, 0x50, 0, 32, .ro, 0x0⟩
def DBG_CHALLENGE.VALUE3 : Fld := ⟨.dbg, 0x54, 0, 32, .ro, 0x0⟩

def DBG_RUN.CMD : Fld := ⟨.dbg, 0x58, 0, 2, .wo, 0x0⟩

def DBG_UNLOCK_CMD.SUBMIT : Fld := ⟨.dbg, 0x5c, 0, 1, .wo, 0x0⟩

def DBG_FW_FIFO.DATA : Fld := ⟨.dbg, 0x60, 0, 32, .wo, 0x0⟩

def DBG_XADDR_LO.ADDR : Fld := ⟨.dbg, 0x80, 0, 32, .rw, 0x0⟩

def DBG_XADDR_HI.ADDR : Fld := ⟨.dbg, 0x84, 0, 8, .rw, 0x0⟩

def DBG_XCMD.OP : Fld := ⟨.dbg, 0x88, 0, 2, .wo, 0x0⟩
def DBG_XCMD.SIZE : Fld := ⟨.dbg, 0x88, 2, 1, .wo, 0x0⟩
def DBG_XCMD.STEAL : Fld := ⟨.dbg, 0x88, 3, 1, .wo, 0x0⟩
def DBG_XCMD.AUTOINC : Fld := ⟨.dbg, 0x88, 4, 1, .wo, 0x0⟩

def DBG_XSTATUS.BUSY : Fld := ⟨.dbg, 0x8c, 0, 1, .ro, 0x0⟩
def DBG_XSTATUS.RESULT : Fld := ⟨.dbg, 0x8c, 1, 4, .ro, 0x0⟩

def DBG_XDATA.DATA0 : Fld := ⟨.dbg, 0x90, 0, 32, .rw, 0x0⟩
def DBG_XDATA.DATA1 : Fld := ⟨.dbg, 0x94, 0, 32, .rw, 0x0⟩
def DBG_XDATA.DATA2 : Fld := ⟨.dbg, 0x98, 0, 32, .rw, 0x0⟩
def DBG_XDATA.DATA3 : Fld := ⟨.dbg, 0x9c, 0, 32, .rw, 0x0⟩

def DBG_C_CMD.CMD (i : Nat) : Fld := ⟨.dbg, 0x100 + 0x40 * i, 0, 2, .wo, 0x0⟩

def DBG_C_STATUS.HALTED (i : Nat) : Fld := ⟨.dbg, 0x104 + 0x40 * i, 0, 1, .ro, 0x0⟩
def DBG_C_STATUS.CAUSE (i : Nat) : Fld := ⟨.dbg, 0x104 + 0x40 * i, 1, 3, .ro, 0x0⟩
def DBG_C_STATUS.BP_LATE (i : Nat) : Fld := ⟨.dbg, 0x104 + 0x40 * i, 4, 1, .ro, 0x0⟩
def DBG_C_STATUS.BP (i : Nat) : Fld := ⟨.dbg, 0x104 + 0x40 * i, 5, 2, .ro, 0x0⟩
def DBG_C_STATUS.PENDING (i : Nat) : Fld := ⟨.dbg, 0x104 + 0x40 * i, 7, 1, .ro, 0x0⟩

def DBG_C_REGSEL.REG (i : Nat) : Fld := ⟨.dbg, 0x108 + 0x40 * i, 0, 7, .rw, 0x0⟩
def DBG_C_REGSEL.PART (i : Nat) : Fld := ⟨.dbg, 0x108 + 0x40 * i, 8, 2, .rw, 0x0⟩

def DBG_C_REGDATA.DATA0 (i : Nat) : Fld := ⟨.dbg, 0x110 + 0x40 * i, 0, 32, .rw, 0x0⟩
def DBG_C_REGDATA.DATA1 (i : Nat) : Fld := ⟨.dbg, 0x114 + 0x40 * i, 0, 32, .rw, 0x0⟩
def DBG_C_REGDATA.DATA2 (i : Nat) : Fld := ⟨.dbg, 0x118 + 0x40 * i, 0, 32, .rw, 0x0⟩
def DBG_C_REGDATA.DATA3 (i : Nat) : Fld := ⟨.dbg, 0x11c + 0x40 * i, 0, 32, .rw, 0x0⟩

def DBG_VT_TX.DATA (i : Nat) : Fld := ⟨.dbg, 0x130 + 0x40 * i, 0, 8, .rc, 0x0⟩
def DBG_VT_TX.VALID (i : Nat) : Fld := ⟨.dbg, 0x130 + 0x40 * i, 8, 1, .rc, 0x0⟩

def DBG_VT_RX.DATA (i : Nat) : Fld := ⟨.dbg, 0x134 + 0x40 * i, 0, 8, .rc, 0x0⟩
def DBG_VT_RX.VALID (i : Nat) : Fld := ⟨.dbg, 0x134 + 0x40 * i, 8, 1, .rc, 0x0⟩

def DBG_VT_STATUS.TX_COUNT (i : Nat) : Fld := ⟨.dbg, 0x138 + 0x40 * i, 0, 7, .ro, 0x0⟩
def DBG_VT_STATUS.RX_COUNT (i : Nat) : Fld := ⟨.dbg, 0x138 + 0x40 * i, 8, 7, .ro, 0x0⟩
def DBG_VT_STATUS.FALLBACK (i : Nat) : Fld := ⟨.dbg, 0x138 + 0x40 * i, 15, 1, .rw, 0x0⟩
def DBG_VT_STATUS.DROPPED (i : Nat) : Fld := ⟨.dbg, 0x138 + 0x40 * i, 24, 8, .rc, 0x0⟩

def DBG_C_BP0.EN (i : Nat) : Fld := ⟨.dbg, 0x120 + 0x40 * i, 0, 1, .rw, 0x0⟩
def DBG_C_BP0.HALT_ALL (i : Nat) : Fld := ⟨.dbg, 0x120 + 0x40 * i, 1, 1, .rw, 0x0⟩
def DBG_C_BP0.ADDR (i : Nat) : Fld := ⟨.dbg, 0x120 + 0x40 * i, 4, 14, .rw, 0x0⟩

def DBG_C_BP1.EN (i : Nat) : Fld := ⟨.dbg, 0x124 + 0x40 * i, 0, 1, .rw, 0x0⟩
def DBG_C_BP1.HALT_ALL (i : Nat) : Fld := ⟨.dbg, 0x124 + 0x40 * i, 1, 1, .rw, 0x0⟩
def DBG_C_BP1.ADDR (i : Nat) : Fld := ⟨.dbg, 0x124 + 0x40 * i, 4, 14, .rw, 0x0⟩

def DBG_C_BP2.EN (i : Nat) : Fld := ⟨.dbg, 0x128 + 0x40 * i, 0, 1, .rw, 0x0⟩
def DBG_C_BP2.HALT_ALL (i : Nat) : Fld := ⟨.dbg, 0x128 + 0x40 * i, 1, 1, .rw, 0x0⟩
def DBG_C_BP2.ADDR (i : Nat) : Fld := ⟨.dbg, 0x128 + 0x40 * i, 4, 14, .rw, 0x0⟩

def DBG_C_BP3.EN (i : Nat) : Fld := ⟨.dbg, 0x12c + 0x40 * i, 0, 1, .rw, 0x0⟩
def DBG_C_BP3.HALT_ALL (i : Nat) : Fld := ⟨.dbg, 0x12c + 0x40 * i, 1, 1, .rw, 0x0⟩
def DBG_C_BP3.ADDR (i : Nat) : Fld := ⟨.dbg, 0x12c + 0x40 * i, 4, 14, .rw, 0x0⟩

def DBG_UNLOCK_BUF.DATA (i : Nat) : Fld := ⟨.dbg, 0x500 + 0x4 * i, 0, 32, .rw, 0x0⟩

def DBG_NOTE.DATA (i : Nat) : Fld := ⟨.dbg, 0x800 + 0x4 * i, 0, 32, .wo, 0x0⟩

def TRC_CTRL.EN : Fld := ⟨.trc, 0x4, 0, 1, .rw, 0x0⟩
def TRC_CTRL.SINK : Fld := ⟨.trc, 0x4, 1, 2, .rw, 0x0⟩
def TRC_CTRL.STOP_ON_FULL : Fld := ⟨.trc, 0x4, 3, 1, .rw, 0x0⟩

def TRC_STATUS.ACTIVE : Fld := ⟨.trc, 0x8, 0, 1, .ro, 0x0⟩
def TRC_STATUS.BUF_FULL : Fld := ⟨.trc, 0x8, 1, 1, .ro, 0x0⟩

def TRC_INT_STATUS.OVERFLOW : Fld := ⟨.trc, 0xc, 0, 1, .w1c, 0x0⟩
def TRC_INT_STATUS.BUF_FULL : Fld := ⟨.trc, 0xc, 1, 1, .w1c, 0x0⟩

def TRC_INT_ENABLE.OVERFLOW : Fld := ⟨.trc, 0x10, 0, 1, .rw, 0x0⟩
def TRC_INT_ENABLE.BUF_FULL : Fld := ⟨.trc, 0x10, 1, 1, .rw, 0x0⟩

def TRC_CORES.CORES : Fld := ⟨.trc, 0x40, 0, 16, .rw, 0x0⟩

def TRC_SYNC_PERIOD.BYTES : Fld := ⟨.trc, 0x44, 0, 16, .rw, 0x400⟩

def TRC_PORT.WIDTH : Fld := ⟨.trc, 0x48, 0, 2, .rw, 0x2⟩
def TRC_PORT.DIV : Fld := ⟨.trc, 0x48, 2, 6, .rw, 0x4⟩

def TRC_OVERFLOWS.COUNT : Fld := ⟨.trc, 0x4c, 0, 32, .rc, 0x0⟩

def TRC_TS_LO.TS : Fld := ⟨.trc, 0x50, 0, 32, .ro, 0x0⟩

def TRC_TS_HI.TS : Fld := ⟨.trc, 0x54, 0, 16, .ro, 0x0⟩

def TRC_BUF_POS.FRAME : Fld := ⟨.trc, 0x58, 0, 10, .ro, 0x0⟩

def TRC_BUF_DATA.DATA : Fld := ⟨.trc, 0x5c, 0, 32, .rc, 0x0⟩

end R

/-- The registers of the DEV_ page beyond the common ones (R518). -/
def regRowsDev : List RegRow :=
  [⟨0x40, 0, 1, fun _ => [R.DEV_PART.PART, R.DEV_PART.VENDOR]⟩] ++
  [⟨0x44, 0, 1, fun _ => [R.DEV_STEPPING.NUMBER, R.DEV_STEPPING.LETTER]⟩] ++
  [⟨0x48, 0, 1, fun _ => [R.DEV_UID_LO.UID]⟩] ++
  [⟨0x4c, 0, 1, fun _ => [R.DEV_UID_HI.UID]⟩] ++
  [⟨0x50, 0, 1, fun _ => [R.DEV_STRAPS.CAS_ID, R.DEV_STRAPS.MASTER_SEL, R.DEV_STRAPS.IO_PARK]⟩]

/-- The registers of the PWR_ page beyond the common ones (R518). -/
def regRowsPwr : List RegRow :=
  [⟨0x4, 0, 1, fun _ => [R.PWR_CTRL.THROTTLE_EN]⟩] ++
  [⟨0x8, 0, 1, fun _ => [R.PWR_STATUS.DEV_STATE, R.PWR_STATUS.THROTTLED]⟩] ++
  [⟨0xc, 0, 1, fun _ => [R.PWR_INT_STATUS.THROTTLE_ON, R.PWR_INT_STATUS.THROTTLE_OFF, R.PWR_INT_STATUS.PLL_UNLOCK]⟩] ++
  [⟨0x10, 0, 1, fun _ => [R.PWR_INT_ENABLE.THROTTLE_ON, R.PWR_INT_ENABLE.THROTTLE_OFF, R.PWR_INT_ENABLE.PLL_UNLOCK]⟩] ++
  [⟨0x40, 0, 1, fun _ => [R.PWR_RESET_CMD.KEY, R.PWR_RESET_CMD.KIND]⟩] ++
  [⟨0x44, 0, 1, fun _ => [R.PWR_RESET_CAUSE.CAUSE, R.PWR_RESET_CAUSE.RAIL]⟩] ++
  [⟨0x48, 0, 1, fun _ => [R.PWR_STEP.PROG_MHZ, R.PWR_STEP.CUR_MHZ]⟩] ++
  [⟨0x4c, 0, 1, fun _ => [R.PWR_THROTTLE.TEMP_ON, R.PWR_THROTTLE.HYST, R.PWR_THROTTLE.FREQ_MHZ]⟩] ++
  [⟨0x50, 0, 1, fun _ => [R.PWR_TEMP.TJ, R.PWR_TEMP.SENSOR]⟩] ++
  [⟨0x54, 0, 1, fun _ => [R.PWR_TEMP_MAX.TJ]⟩] ++
  [⟨0x58, 0, 1, fun _ => [R.PWR_VCORE.MV]⟩] ++
  [⟨0x5c, 0, 1, fun _ => [R.PWR_CLOCKS.CORE_PLL, R.PWR_CLOCKS.STEP_PLL, R.PWR_CLOCKS.FABRIC_PLL, R.PWR_CLOCKS.CAS_LANE_PLL, R.PWR_CLOCKS.ETH_PLL, R.PWR_CLOCKS.PCIE_PLL]⟩] ++
  [⟨0x60, 0, 1, fun _ => [R.PWR_BUNCH_ON_LO.ON]⟩] ++
  [⟨0x64, 0, 1, fun _ => [R.PWR_BUNCH_ON_HI.ON]⟩] ++
  [⟨0x68, 0, 1, fun _ => [R.PWR_THROTTLE_COUNT.COUNT]⟩]

/-- The registers of the HST_ page beyond the common ones (R518). -/
def regRowsHst : List RegRow :=
  [⟨0x4, 0, 1, fun _ => [R.HST_CTRL.UR_ON_REFUSE, R.HST_CTRL.BAR2_MAP]⟩] ++
  [⟨0x8, 0, 1, fun _ => [R.HST_STATUS.LINK_SPEED, R.HST_STATUS.LINK_WIDTH, R.HST_STATUS.BME, R.HST_STATUS.MSIX_EN]⟩] ++
  [⟨0xc, 0, 1, fun _ => [R.HST_INT_STATUS.MBX_DONE, R.HST_INT_STATUS.REFUSED, R.HST_INT_STATUS.POISONED, R.HST_INT_STATUS.LINK_CHANGE, R.HST_INT_STATUS.FETCH_ERR]⟩] ++
  [⟨0x10, 0, 1, fun _ => [R.HST_INT_ENABLE.MBX_DONE, R.HST_INT_ENABLE.REFUSED, R.HST_INT_ENABLE.POISONED, R.HST_INT_ENABLE.LINK_CHANGE, R.HST_INT_ENABLE.FETCH_ERR]⟩] ++
  [⟨0x40, 0, 1, fun _ => [R.HST_MBX_DOORBELL.OPCODE, R.HST_MBX_DOORBELL.SEQ]⟩] ++
  [⟨0x44, 0, 1, fun _ => [R.HST_MBX_STATUS.BUSY, R.HST_MBX_STATUS.DONE, R.HST_MBX_STATUS.RESULT, R.HST_MBX_STATUS.SEQ, R.HST_MBX_STATUS.FW_STATE]⟩] ++
  [⟨0x48, 0, 1, fun _ => [R.HST_MBX_HEARTBEAT.COUNT]⟩] ++
  [⟨0x80, 0x4, 16, fun i => [R.HST_MBX_ARG.ARG i]⟩] ++
  [⟨0xc0, 0x4, 16, fun i => [R.HST_MBX_RSP.RSP i]⟩]

/-- The registers of the LOG_ page beyond the common ones (R518). -/
def regRowsLog : List RegRow :=
  [⟨0x8, 0, 1, fun _ => [R.LOG_STATUS.SCAN_DONE, R.LOG_STATUS.WRAPPED]⟩] ++
  [⟨0xc, 0, 1, fun _ => [R.LOG_INT_STATUS.HOST_ENTRY, R.LOG_INT_STATUS.DROPPED, R.LOG_INT_STATUS.PERM_FULL]⟩] ++
  [⟨0x10, 0, 1, fun _ => [R.LOG_INT_ENABLE.HOST_ENTRY, R.LOG_INT_ENABLE.DROPPED, R.LOG_INT_ENABLE.PERM_FULL]⟩] ++
  [⟨0x40, 0, 1, fun _ => [R.LOG_HEAD.INDEX]⟩] ++
  [⟨0x44, 0, 1, fun _ => [R.LOG_SEQ.SEQ]⟩] ++
  [⟨0x48, 0, 1, fun _ => [R.LOG_OLDEST.INDEX]⟩] ++
  [⟨0x4c, 0, 1, fun _ => [R.LOG_TORN.COUNT]⟩] ++
  [⟨0x50, 0, 1, fun _ => [R.LOG_DROPPED.COUNT]⟩] ++
  [⟨0x54, 0, 1, fun _ => [R.LOG_PERM.COUNT]⟩] ++
  [⟨0x58, 0, 1, fun _ => [R.LOG_BOOT.COUNT]⟩] ++
  [⟨0x60, 0, 1, fun _ => [R.LOG_USER.DATA0]⟩] ++
  [⟨0x64, 0, 1, fun _ => [R.LOG_USER.DATA1]⟩] ++
  [⟨0x68, 0, 1, fun _ => [R.LOG_USER.DATA2]⟩] ++
  [⟨0x6c, 0, 1, fun _ => [R.LOG_USER.DATA3]⟩] ++
  [⟨0x70, 0, 1, fun _ => [R.LOG_USER_CMD.CODE]⟩] ++
  [⟨0x80, 0, 1, fun _ => [R.LOG_WIN_INDEX.INDEX]⟩] ++
  [⟨0xc0, 0x4, 16, fun i => [R.LOG_WIN_DATA.DATA i]⟩]

/-- The registers of the DBG_ page beyond the common ones (R518). -/
def regRowsDbg : List RegRow :=
  [⟨0x4, 0, 1, fun _ => [R.DBG_CTRL.ACQ_HALT]⟩] ++
  [⟨0x8, 0, 1, fun _ => [R.DBG_STATUS.LEVEL, R.DBG_STATUS.LOCK, R.DBG_STATUS.UNLOCK_BUSY, R.DBG_STATUS.BLOCKED, R.DBG_STATUS.FAILS, R.DBG_STATUS.EMU]⟩] ++
  [⟨0xc, 0, 1, fun _ => [R.DBG_INT_STATUS.EMU_HALTED, R.DBG_INT_STATUS.EMU_RELEASED, R.DBG_INT_STATUS.CORE_HALTED, R.DBG_INT_STATUS.UNLOCK_DONE, R.DBG_INT_STATUS.UNLOCK_FAIL, R.DBG_INT_STATUS.VT_TX]⟩] ++
  [⟨0x10, 0, 1, fun _ => [R.DBG_INT_ENABLE.EMU_HALTED, R.DBG_INT_ENABLE.EMU_RELEASED, R.DBG_INT_ENABLE.CORE_HALTED, R.DBG_INT_ENABLE.UNLOCK_DONE, R.DBG_INT_ENABLE.UNLOCK_FAIL, R.DBG_INT_ENABLE.VT_TX]⟩] ++
  [⟨0x40, 0, 1, fun _ => [R.DBG_ACCESS.SIDE_EFFECTS]⟩] ++
  [⟨0x44, 0, 1, fun _ => [R.DBG_GRANT.LEVEL, R.DBG_GRANT.LOCK]⟩] ++
  [⟨0x48, 0, 1, fun _ => [R.DBG_CHALLENGE.VALUE0]⟩] ++
  [⟨0x4c, 0, 1, fun _ => [R.DBG_CHALLENGE.VALUE1]⟩] ++
  [⟨0x50, 0, 1, fun _ => [R.DBG_CHALLENGE.VALUE2]⟩] ++
  [⟨0x54, 0, 1, fun _ => [R.DBG_CHALLENGE.VALUE3]⟩] ++
  [⟨0x58, 0, 1, fun _ => [R.DBG_RUN.CMD]⟩] ++
  [⟨0x5c, 0, 1, fun _ => [R.DBG_UNLOCK_CMD.SUBMIT]⟩] ++
  [⟨0x60, 0, 1, fun _ => [R.DBG_FW_FIFO.DATA]⟩] ++
  [⟨0x80, 0, 1, fun _ => [R.DBG_XADDR_LO.ADDR]⟩] ++
  [⟨0x84, 0, 1, fun _ => [R.DBG_XADDR_HI.ADDR]⟩] ++
  [⟨0x88, 0, 1, fun _ => [R.DBG_XCMD.OP, R.DBG_XCMD.SIZE, R.DBG_XCMD.STEAL, R.DBG_XCMD.AUTOINC]⟩] ++
  [⟨0x8c, 0, 1, fun _ => [R.DBG_XSTATUS.BUSY, R.DBG_XSTATUS.RESULT]⟩] ++
  [⟨0x90, 0, 1, fun _ => [R.DBG_XDATA.DATA0]⟩] ++
  [⟨0x94, 0, 1, fun _ => [R.DBG_XDATA.DATA1]⟩] ++
  [⟨0x98, 0, 1, fun _ => [R.DBG_XDATA.DATA2]⟩] ++
  [⟨0x9c, 0, 1, fun _ => [R.DBG_XDATA.DATA3]⟩] ++
  [⟨0x100, 0x40, 16, fun i => [R.DBG_C_CMD.CMD i]⟩] ++
  [⟨0x104, 0x40, 16, fun i => [R.DBG_C_STATUS.HALTED i, R.DBG_C_STATUS.CAUSE i, R.DBG_C_STATUS.BP_LATE i, R.DBG_C_STATUS.BP i, R.DBG_C_STATUS.PENDING i]⟩] ++
  [⟨0x108, 0x40, 16, fun i => [R.DBG_C_REGSEL.REG i, R.DBG_C_REGSEL.PART i]⟩] ++
  [⟨0x110, 0x40, 16, fun i => [R.DBG_C_REGDATA.DATA0 i]⟩] ++
  [⟨0x114, 0x40, 16, fun i => [R.DBG_C_REGDATA.DATA1 i]⟩] ++
  [⟨0x118, 0x40, 16, fun i => [R.DBG_C_REGDATA.DATA2 i]⟩] ++
  [⟨0x11c, 0x40, 16, fun i => [R.DBG_C_REGDATA.DATA3 i]⟩] ++
  [⟨0x130, 0x40, 16, fun i => [R.DBG_VT_TX.DATA i, R.DBG_VT_TX.VALID i]⟩] ++
  [⟨0x134, 0x40, 16, fun i => [R.DBG_VT_RX.DATA i, R.DBG_VT_RX.VALID i]⟩] ++
  [⟨0x138, 0x40, 16, fun i => [R.DBG_VT_STATUS.TX_COUNT i, R.DBG_VT_STATUS.RX_COUNT i, R.DBG_VT_STATUS.FALLBACK i, R.DBG_VT_STATUS.DROPPED i]⟩] ++
  [⟨0x120, 0x40, 16, fun i => [R.DBG_C_BP0.EN i, R.DBG_C_BP0.HALT_ALL i, R.DBG_C_BP0.ADDR i]⟩] ++
  [⟨0x124, 0x40, 16, fun i => [R.DBG_C_BP1.EN i, R.DBG_C_BP1.HALT_ALL i, R.DBG_C_BP1.ADDR i]⟩] ++
  [⟨0x128, 0x40, 16, fun i => [R.DBG_C_BP2.EN i, R.DBG_C_BP2.HALT_ALL i, R.DBG_C_BP2.ADDR i]⟩] ++
  [⟨0x12c, 0x40, 16, fun i => [R.DBG_C_BP3.EN i, R.DBG_C_BP3.HALT_ALL i, R.DBG_C_BP3.ADDR i]⟩] ++
  [⟨0x500, 0x4, 60, fun i => [R.DBG_UNLOCK_BUF.DATA i]⟩] ++
  [⟨0x800, 0x4, 256, fun i => [R.DBG_NOTE.DATA i]⟩]

/-- The registers of the TRC_ page beyond the common ones (R518). -/
def regRowsTrc : List RegRow :=
  [⟨0x4, 0, 1, fun _ => [R.TRC_CTRL.EN, R.TRC_CTRL.SINK, R.TRC_CTRL.STOP_ON_FULL]⟩] ++
  [⟨0x8, 0, 1, fun _ => [R.TRC_STATUS.ACTIVE, R.TRC_STATUS.BUF_FULL]⟩] ++
  [⟨0xc, 0, 1, fun _ => [R.TRC_INT_STATUS.OVERFLOW, R.TRC_INT_STATUS.BUF_FULL]⟩] ++
  [⟨0x10, 0, 1, fun _ => [R.TRC_INT_ENABLE.OVERFLOW, R.TRC_INT_ENABLE.BUF_FULL]⟩] ++
  [⟨0x40, 0, 1, fun _ => [R.TRC_CORES.CORES]⟩] ++
  [⟨0x44, 0, 1, fun _ => [R.TRC_SYNC_PERIOD.BYTES]⟩] ++
  [⟨0x48, 0, 1, fun _ => [R.TRC_PORT.WIDTH, R.TRC_PORT.DIV]⟩] ++
  [⟨0x4c, 0, 1, fun _ => [R.TRC_OVERFLOWS.COUNT]⟩] ++
  [⟨0x50, 0, 1, fun _ => [R.TRC_TS_LO.TS]⟩] ++
  [⟨0x54, 0, 1, fun _ => [R.TRC_TS_HI.TS]⟩] ++
  [⟨0x58, 0, 1, fun _ => [R.TRC_BUF_POS.FRAME]⟩] ++
  [⟨0x5c, 0, 1, fun _ => [R.TRC_BUF_DATA.DATA]⟩]

/-- The registers of the IRQ_ page beyond the common ones (R518). -/
def regRowsIrq : List RegRow :=
  [⟨0x4, 0, 1, fun _ => [R.IRQ_CTRL.EN]⟩] ++
  [⟨0xc, 0, 1, fun _ => [R.IRQ_INT_STATUS.STACK_FAULT]⟩] ++
  [⟨0x10, 0, 1, fun _ => [R.IRQ_INT_ENABLE.STACK_FAULT]⟩] ++
  [⟨0x60, 0, 1, fun _ => [R.IRQ_EOI.SOURCE]⟩] ++
  [⟨0xc0, 0, 1, fun _ => [R.IRQ_SWSET_LO.PEND]⟩] ++
  [⟨0xc4, 0, 1, fun _ => [R.IRQ_SWSET_HI.PEND]⟩] ++
  [⟨0xc8, 0, 1, fun _ => [R.IRQ_SWCLR_LO.PEND]⟩] ++
  [⟨0xcc, 0, 1, fun _ => [R.IRQ_SWCLR_HI.PEND]⟩] ++
  [⟨0x40, 0x4, 4, fun i => [R.IRQ_CVBASE.ADDR i]⟩] ++
  [⟨0x50, 0x4, 4, fun i => [R.IRQ_STACK.DEPTH i, R.IRQ_STACK.RP i, R.IRQ_STACK.TOP i]⟩] ++
  [⟨0x80, 0x4, 16, fun i => [R.IRQ_MVBASE.ADDR i]⟩] ++
  [⟨0x100, 0x4, 8, fun i => [R.IRQ_LINE.LINE i]⟩] ++
  [⟨0x120, 0x4, 8, fun i => [R.IRQ_PEND.PEND i]⟩] ++
  [⟨0x140, 0x4, 8, fun i => [R.IRQ_INSVC.INSVC i]⟩] ++
  [⟨0x400, 0x4, 256, fun i => [R.IRQ_TARGET.KIND i, R.IRQ_TARGET.INDEX i, R.IRQ_TARGET.PRIO i]⟩]

/-- The registers of the HMS_ page beyond the common ones (R518). -/
def regRowsHms : List RegRow :=
  [⟨0x4, 0, 1, fun _ => [R.HMS_CTRL.EN]⟩] ++
  [⟨0x8, 0, 1, fun _ => [R.HMS_STATUS.BP]⟩] ++
  [⟨0xc, 0, 1, fun _ => [R.HMS_INT_STATUS.ITEM_FAILED, R.HMS_INT_STATUS.TAKE_TIMEOUT, R.HMS_INT_STATUS.BP_REFUSED, R.HMS_INT_STATUS.POOL_ERR]⟩] ++
  [⟨0x10, 0, 1, fun _ => [R.HMS_INT_ENABLE.ITEM_FAILED, R.HMS_INT_ENABLE.TAKE_TIMEOUT, R.HMS_INT_ENABLE.BP_REFUSED, R.HMS_INT_ENABLE.POOL_ERR]⟩] ++
  [⟨0x40, 0, 1, fun _ => [R.HMS_POOL.BANK, R.HMS_POOL.FIRST]⟩] ++
  [⟨0x44, 0, 1, fun _ => [R.HMS_POOL_CORES.CORES]⟩] ++
  [⟨0x48, 0, 1, fun _ => [R.HMS_BP_LIMIT.US]⟩] ++
  [⟨0x4c, 0, 1, fun _ => [R.HMS_TAKE_LIMIT.US]⟩] ++
  [⟨0x50, 0, 1, fun _ => [R.HMS_COUNT_LO.FREE, R.HMS_COUNT_LO.QUEUED]⟩] ++
  [⟨0x54, 0, 1, fun _ => [R.HMS_COUNT_HI.DISPATCHING, R.HMS_COUNT_HI.RUNNING]⟩] ++
  [⟨0x58, 0, 1, fun _ => [R.HMS_CANCEL.INDEX]⟩] ++
  [⟨0x60, 0, 1, fun _ => [R.HMS_TAKE.INDEX, R.HMS_TAKE.LEVEL, R.HMS_TAKE.PREEMPT, R.HMS_TAKE.VALID]⟩] ++
  [⟨0x64, 0, 1, fun _ => [R.HMS_DONE.RESULT]⟩] ++
  [⟨0x68, 0, 1, fun _ => [R.HMS_FAIL.RESULT]⟩] ++
  [⟨0x6c, 0, 1, fun _ => [R.HMS_POST_IDX.INDEX, R.HMS_POST_IDX.VALID]⟩] ++
  [⟨0x100, 0x4, 16, fun i => [R.HMS_POST.DATA i]⟩] ++
  [⟨0x140, 0x4, 16, fun i => [R.HMS_ITEM.DATA i]⟩] ++
  [⟨0x200, 0x4, 16, fun i => [R.HMS_CORE.DEPTH i, R.HMS_CORE.TOP_LEVEL i, R.HMS_CORE.DISPATCH i, R.HMS_CORE.TOP_INDEX i]⟩]

/-- The registers of the TIM_ page beyond the common ones (R518). -/
def regRowsTim : List RegRow :=
  [⟨0x4, 0, 1, fun _ => [R.TIM_CTRL.FW_PTP]⟩] ++
  [⟨0x8, 0, 1, fun _ => [R.TIM_STATUS.STATE, R.TIM_STATUS.LOCKED, R.TIM_STATUS.SLEWING]⟩] ++
  [⟨0xc, 0, 1, fun _ => [R.TIM_INT_STATUS.LOCK, R.TIM_INT_STATUS.STEP_REFUSED, R.TIM_INT_STATUS.HOLDOVER, R.TIM_INT_STATUS.RELOCK]⟩] ++
  [⟨0x10, 0, 1, fun _ => [R.TIM_INT_ENABLE.LOCK, R.TIM_INT_ENABLE.STEP_REFUSED, R.TIM_INT_ENABLE.HOLDOVER, R.TIM_INT_ENABLE.RELOCK]⟩] ++
  [⟨0x40, 0, 1, fun _ => [R.TIM_CMD.CMD]⟩] ++
  [⟨0x44, 0, 1, fun _ => [R.TIM_RATE.RATE]⟩] ++
  [⟨0x48, 0, 1, fun _ => [R.TIM_STEP_LIMIT.NS]⟩] ++
  [⟨0x4c, 0, 1, fun _ => [R.TIM_SLEW.PPM]⟩] ++
  [⟨0x50, 0, 1, fun _ => [R.TIM_WATCH_MS.MS]⟩] ++
  [⟨0x54, 0, 1, fun _ => [R.TIM_REFUSALS.COUNT]⟩] ++
  [⟨0x58, 0, 1, fun _ => [R.TIM_PTP_PRIO.PRIORITY1, R.TIM_PTP_PRIO.PRIORITY2]⟩] ++
  [⟨0x60, 0, 1, fun _ => [R.TIM_NOW.TIME0]⟩] ++
  [⟨0x64, 0, 1, fun _ => [R.TIM_NOW.TIME1]⟩] ++
  [⟨0x68, 0, 1, fun _ => [R.TIM_NOW.TIME2]⟩] ++
  [⟨0x6c, 0, 1, fun _ => [R.TIM_NOW.TIME3]⟩] ++
  [⟨0x70, 0, 1, fun _ => [R.TIM_SET.TIME0]⟩] ++
  [⟨0x74, 0, 1, fun _ => [R.TIM_SET.TIME1]⟩] ++
  [⟨0x78, 0, 1, fun _ => [R.TIM_SET.TIME2]⟩] ++
  [⟨0x7c, 0, 1, fun _ => [R.TIM_SET.TIME3]⟩] ++
  [⟨0x80, 0, 1, fun _ => [R.TIM_LOCK_TIME.TIME0]⟩] ++
  [⟨0x84, 0, 1, fun _ => [R.TIM_LOCK_TIME.TIME1]⟩] ++
  [⟨0x88, 0, 1, fun _ => [R.TIM_LOCK_TIME.TIME2]⟩] ++
  [⟨0x8c, 0, 1, fun _ => [R.TIM_LOCK_TIME.TIME3]⟩] ++
  [⟨0x90, 0, 1, fun _ => [R.TIM_OFFSET_LO.OFFSET]⟩] ++
  [⟨0x94, 0, 1, fun _ => [R.TIM_OFFSET_HI.OFFSET]⟩] ++
  [⟨0x98, 0, 1, fun _ => [R.TIM_REFUSED_LO.OFFSET]⟩] ++
  [⟨0x9c, 0, 1, fun _ => [R.TIM_REFUSED_HI.OFFSET]⟩] ++
  [⟨0xa0, 0, 1, fun _ => [R.TIM_REMAIN_LO.OFFSET]⟩] ++
  [⟨0xa4, 0, 1, fun _ => [R.TIM_REMAIN_HI.OFFSET]⟩]

/-- The registers of the ETH_ page beyond the common ones (R518). -/
def regRowsEth : List RegRow :=
  [⟨0xc, 0, 1, fun _ => [R.ETH_INT_STATUS.PORTS]⟩] ++
  [⟨0x100, 0x80, 8, fun i => [R.ETH_P_CTRL.EN i, R.ETH_P_CTRL.MODE i, R.ETH_P_CTRL.AN_EN i, R.ETH_P_CTRL.PTP_ROLE i, R.ETH_P_CTRL.MAX_LEN i]⟩] ++
  [⟨0x104, 0x80, 8, fun i => [R.ETH_P_STATUS.LINK i, R.ETH_P_STATUS.AN_DONE i]⟩] ++
  [⟨0x108, 0x80, 8, fun i => [R.ETH_P_INT_STATUS.LINK_CHANGE i, R.ETH_P_INT_STATUS.RX_DONE i, R.ETH_P_INT_STATUS.TX_DONE i, R.ETH_P_INT_STATUS.RX_DROP i]⟩] ++
  [⟨0x10c, 0x80, 8, fun i => [R.ETH_P_INT_ENABLE.LINK_CHANGE i, R.ETH_P_INT_ENABLE.RX_DONE i, R.ETH_P_INT_ENABLE.TX_DONE i, R.ETH_P_INT_ENABLE.RX_DROP i]⟩] ++
  [⟨0x110, 0x80, 8, fun i => [R.ETH_P_INGRESS_PS.PS i]⟩] ++
  [⟨0x114, 0x80, 8, fun i => [R.ETH_P_EGRESS_PS.PS i]⟩] ++
  [⟨0x118, 0x80, 8, fun i => [R.ETH_P_RX_BASE.BASE i]⟩] ++
  [⟨0x11c, 0x80, 8, fun i => [R.ETH_P_RX_CFG.SIZE_LOG2 i, R.ETH_P_RX_CFG.POS i]⟩] ++
  [⟨0x120, 0x80, 8, fun i => [R.ETH_P_TX_BASE.BASE i]⟩] ++
  [⟨0x124, 0x80, 8, fun i => [R.ETH_P_TX_CFG.SIZE_LOG2 i, R.ETH_P_TX_CFG.POS i]⟩] ++
  [⟨0x128, 0x80, 8, fun i => [R.ETH_P_TX_KICK.KICK i]⟩] ++
  [⟨0x12c, 0x80, 8, fun i => [R.ETH_P_RX_DROPPED.COUNT i]⟩] ++
  [⟨0x130, 0x80, 8, fun i => [R.ETH_P_FCS_ERR.COUNT i]⟩] ++
  [⟨0x134, 0x80, 8, fun i => [R.ETH_P_TX_BAD.COUNT i]⟩] ++
  [⟨0x138, 0x80, 8, fun i => [R.ETH_P_RX_FRAMES.COUNT i]⟩] ++
  [⟨0x13c, 0x80, 8, fun i => [R.ETH_P_TX_FRAMES.COUNT i]⟩]

/-- The registers of the CAS_ page beyond the common ones (R518). -/
def regRowsCas : List RegRow :=
  [⟨0x4, 0, 1, fun _ => [R.CAS_CTRL.JOIN, R.CAS_CTRL.HOLD_FORCE, R.CAS_CTRL.ROWS, R.CAS_CTRL.COLS, R.CAS_CTRL.REL_MODE, R.CAS_CTRL.REL_EXT_SEL, R.CAS_CTRL.REL_EXT_EDGE]⟩] ++
  [⟨0x8, 0, 1, fun _ => [R.CAS_STATUS.MASTER, R.CAS_STATUS.ID, R.CAS_STATUS.HOLD_IN, R.CAS_STATUS.HOLD_OUT, R.CAS_STATUS.DONE_IN, R.CAS_STATUS.UNIT_STATE]⟩] ++
  [⟨0xc, 0, 1, fun _ => [R.CAS_INT_STATUS.TAG_FAULT, R.CAS_INT_STATUS.ORDER_LATE, R.CAS_INT_STATUS.PORT_FAILED, R.CAS_INT_STATUS.RETRAIN, R.CAS_INT_STATUS.HOLD_BEGIN, R.CAS_INT_STATUS.HOLD_END, R.CAS_INT_STATUS.STARTED, R.CAS_INT_STATUS.MASTER_CONFLICT, R.CAS_INT_STATUS.PEER_MISMATCH]⟩] ++
  [⟨0x10, 0, 1, fun _ => [R.CAS_INT_ENABLE.TAG_FAULT, R.CAS_INT_ENABLE.ORDER_LATE, R.CAS_INT_ENABLE.PORT_FAILED, R.CAS_INT_ENABLE.RETRAIN, R.CAS_INT_ENABLE.HOLD_BEGIN, R.CAS_INT_ENABLE.HOLD_END, R.CAS_INT_ENABLE.STARTED, R.CAS_INT_ENABLE.MASTER_CONFLICT, R.CAS_INT_ENABLE.PEER_MISMATCH]⟩] ++
  [⟨0x40, 0, 1, fun _ => [R.CAS_TREE.UP_PORT, R.CAS_TREE.UP_VALID, R.CAS_TREE.DOWN]⟩] ++
  [⟨0x44, 0, 1, fun _ => [R.CAS_LEAD.TICKS]⟩] ++
  [⟨0x48, 0, 1, fun _ => [R.CAS_REL_PERIOD.TICKS]⟩] ++
  [⟨0x4c, 0, 1, fun _ => [R.CAS_CMD.CMD]⟩] ++
  [⟨0x50, 0, 1, fun _ => [R.CAS_TICK_LO.COUNT]⟩] ++
  [⟨0x54, 0, 1, fun _ => [R.CAS_TICK_HI.COUNT]⟩] ++
  [⟨0x58, 0, 1, fun _ => [R.CAS_STEP_LO.COUNT]⟩] ++
  [⟨0x5c, 0, 1, fun _ => [R.CAS_STEP_HI.COUNT]⟩] ++
  [⟨0x60, 0, 1, fun _ => [R.CAS_NETMAP_INDEX.INDEX, R.CAS_NETMAP_INDEX.AUTOINC]⟩] ++
  [⟨0x64, 0, 1, fun _ => [R.CAS_NETMAP_DATA.ENTRY]⟩] ++
  [⟨0x68, 0, 1, fun _ => [R.CAS_TAG_FAULT.PORT, R.CAS_TAG_FAULT.SLOT, R.CAS_TAG_FAULT.STEP, R.CAS_TAG_FAULT.SIDE, R.CAS_TAG_FAULT.VALID]⟩] ++
  [⟨0x6c, 0, 1, fun _ => [R.CAS_HOLD_COUNT.COUNT]⟩] ++
  [⟨0x80, 0x20, 4, fun i => [R.CAS_P_CTRL.EN i, R.CAS_P_CTRL.LS_REQ i, R.CAS_P_CTRL.EXPECT_ID i, R.CAS_P_CTRL.EXPECT_EN i]⟩] ++
  [⟨0x84, 0x20, 4, fun i => [R.CAS_P_STATUS.STATE i, R.CAS_P_STATUS.FAIL i, R.CAS_P_STATUS.REVERSED i, R.CAS_P_STATUS.LS i, R.CAS_P_STATUS.PEER_ID i, R.CAS_P_STATUS.PEER_MASTER i]⟩] ++
  [⟨0x88, 0x20, 4, fun i => [R.CAS_P_LATENCY.RAW i, R.CAS_P_LATENCY.TOTAL i, R.CAS_P_LATENCY.ORDER i]⟩] ++
  [⟨0x8c, 0x20, 4, fun i => [R.CAS_P_CREDITS.HELD i, R.CAS_P_CREDITS.RX_USED i, R.CAS_P_CREDITS.REPLAY_USED i]⟩] ++
  [⟨0x90, 0x20, 4, fun i => [R.CAS_P_RETRY.COUNT i]⟩] ++
  [⟨0x94, 0x20, 4, fun i => [R.CAS_P_CRC_ERR.COUNT i]⟩] ++
  [⟨0x98, 0x20, 4, fun i => [R.CAS_P_RETRAIN.COUNT i]⟩]

/-- The registers of the LNE_ page beyond the common ones (R518). -/
def regRowsLne : List RegRow :=
  [⟨0x40, 0, 1, fun _ => [R.LNE_STATUS.SIGNAL, R.LNE_STATUS.CDR_LOCK, R.LNE_STATUS.POL_INV, R.LNE_STATUS.BLOCK_LOCK, R.LNE_STATUS.RX_LANE, R.LNE_STATUS.SKEW]⟩] ++
  [⟨0x44, 0, 1, fun _ => [R.LNE_HDR_ERR.COUNT]⟩] ++
  [⟨0x48, 0, 1, fun _ => [R.LNE_CTRL.POL_FORCE_EN, R.LNE_CTRL.POL_FORCE_VAL]⟩]

/-- The registers of the RES_ page beyond the common ones (R518). -/
def regRowsRes : List RegRow :=
  [⟨0x4, 0, 1, fun _ => [R.RES_CTRL.IS_SCRUB_EN, R.RES_CTRL.SS_SCRUB_EN, R.RES_CTRL.AUTO_REMAP, R.RES_CTRL.AUTO_RESUME, R.RES_CTRL.AUTO_JOIN]⟩] ++
  [⟨0x8, 0, 1, fun _ => [R.RES_STATUS.DIP_STATE, R.RES_STATUS.RETENTION, R.RES_STATUS.SPARE_BERRIES_FREE, R.RES_STATUS.SPARE_BUNCH_FREE, R.RES_STATUS.CMD_BUSY]⟩] ++
  [⟨0xc, 0, 1, fun _ => [R.RES_INT_STATUS.ABSORBED, R.RES_INT_STATUS.DEGRADED, R.RES_INT_STATUS.SWITCHOVER, R.RES_INT_STATUS.DIVERGE, R.RES_INT_STATUS.UNABSORBED, R.RES_INT_STATUS.DIP, R.RES_INT_STATUS.RETENTION_BAD, R.RES_INT_STATUS.PROTECTION_LOST, R.RES_INT_STATUS.REJOIN_DONE, R.RES_INT_STATUS.RESUMED]⟩] ++
  [⟨0x10, 0, 1, fun _ => [R.RES_INT_ENABLE.ABSORBED, R.RES_INT_ENABLE.DEGRADED, R.RES_INT_ENABLE.SWITCHOVER, R.RES_INT_ENABLE.DIVERGE, R.RES_INT_ENABLE.UNABSORBED, R.RES_INT_ENABLE.DIP, R.RES_INT_ENABLE.RETENTION_BAD, R.RES_INT_ENABLE.PROTECTION_LOST, R.RES_INT_ENABLE.REJOIN_DONE, R.RES_INT_ENABLE.RESUMED]⟩] ++
  [⟨0x40, 0, 1, fun _ => [R.RES_CMD.CMD, R.RES_CMD.PART]⟩] ++
  [⟨0x44, 0, 1, fun _ => [R.RES_EVENT.PART, R.RES_EVENT.KIND, R.RES_EVENT.BUNCH, R.RES_EVENT.BERRY, R.RES_EVENT.ACTION]⟩] ++
  [⟨0x48, 0, 1, fun _ => [R.RES_EVENT_POS.STEP, R.RES_EVENT_POS.WORD]⟩] ++
  [⟨0x4c, 0, 1, fun _ => [R.RES_IS_CE_COUNT.COUNT]⟩] ++
  [⟨0x50, 0, 1, fun _ => [R.RES_IS_UE_COUNT.COUNT]⟩] ++
  [⟨0x54, 0, 1, fun _ => [R.RES_SS_CE_COUNT.COUNT]⟩] ++
  [⟨0x58, 0, 1, fun _ => [R.RES_SS_UE_COUNT.COUNT]⟩] ++
  [⟨0x5c, 0, 1, fun _ => [R.RES_RECOVERY_NS.NS]⟩] ++
  [⟨0x60, 0, 1, fun _ => [R.RES_DIP_US.US]⟩] ++
  [⟨0x100, 0x4, 64, fun i => [R.RES_GROUP.ROLE i, R.RES_GROUP.LEAD i, R.RES_GROUP.MSTATE i, R.RES_GROUP.SNAP_EN i, R.RES_GROUP.SNAP_LOG2 i]⟩] ++
  [⟨0x200, 0x8, 64, fun i => [R.RES_LOG_BASE.ADDR i]⟩] ++
  [⟨0x204, 0x8, 64, fun i => [R.RES_LOG_LIMIT.WORDS i]⟩] ++
  [⟨0x400, 0x4, 64, fun i => [R.RES_SNAP.VALID i, R.RES_SNAP.CAPTURING i, R.RES_SNAP.LOST i, R.RES_SNAP.LOST_CAUSE i, R.RES_SNAP.CYCLE i]⟩]

/-- The registers of the CFG_ page beyond the common ones (R518). -/
def regRowsCfg : List RegRow :=
  [⟨0x4, 0, 1, fun _ => [R.CFG_CTRL.FALLBACK_EN, R.CFG_CTRL.DONE_WAIT, R.CFG_CTRL.CP_OWNER, R.CFG_CTRL.SCRUB_EN]⟩] ++
  [⟨0x8, 0, 1, fun _ => [R.CFG_STATUS.STATE, R.CFG_STATUS.IMAGE, R.CFG_STATUS.DONE_RELEASED, R.CFG_STATUS.DONE_IN, R.CFG_STATUS.SU_PHASE, R.CFG_STATUS.LOAD_ERR, R.CFG_STATUS.STREAM_BUSY]⟩] ++
  [⟨0xc, 0, 1, fun _ => [R.CFG_INT_STATUS.LOADED, R.CFG_INT_STATUS.LOAD_FAIL, R.CFG_INT_STATUS.FALLBACK, R.CFG_INT_STATUS.FRAME_CE, R.CFG_INT_STATUS.FRAME_UE, R.CFG_INT_STATUS.SCRUB_RESTART, R.CFG_INT_STATUS.REGION_DONE, R.CFG_INT_STATUS.REGION_FAIL, R.CFG_INT_STATUS.CP_REFUSED]⟩] ++
  [⟨0x10, 0, 1, fun _ => [R.CFG_INT_ENABLE.LOADED, R.CFG_INT_ENABLE.LOAD_FAIL, R.CFG_INT_ENABLE.FALLBACK, R.CFG_INT_ENABLE.FRAME_CE, R.CFG_INT_ENABLE.FRAME_UE, R.CFG_INT_ENABLE.SCRUB_RESTART, R.CFG_INT_ENABLE.REGION_DONE, R.CFG_INT_ENABLE.REGION_FAIL, R.CFG_INT_ENABLE.CP_REFUSED]⟩] ++
  [⟨0x40, 0, 1, fun _ => [R.CFG_CMD.CMD]⟩] ++
  [⟨0x44, 0, 1, fun _ => [R.CFG_IMAGE_ADDR_LO.ADDR]⟩] ++
  [⟨0x48, 0, 1, fun _ => [R.CFG_IMAGE_ADDR_HI.ADDR]⟩] ++
  [⟨0x4c, 0, 1, fun _ => [R.CFG_IMAGE_LEN.BYTES]⟩] ++
  [⟨0x50, 0, 1, fun _ => [R.CFG_GOLDEN_ADDR_LO.ADDR]⟩] ++
  [⟨0x54, 0, 1, fun _ => [R.CFG_GOLDEN_ADDR_HI.ADDR]⟩] ++
  [⟨0x58, 0, 1, fun _ => [R.CFG_GOLDEN_LEN.BYTES]⟩] ++
  [⟨0x5c, 0, 1, fun _ => [R.CFG_STREAM_ADDR_LO.ADDR]⟩] ++
  [⟨0x60, 0, 1, fun _ => [R.CFG_STREAM_ADDR_HI.ADDR]⟩] ++
  [⟨0x64, 0, 1, fun _ => [R.CFG_STREAM_LEN.BYTES]⟩] ++
  [⟨0x68, 0, 1, fun _ => [R.CFG_ERR_FRAME.FRAME]⟩] ++
  [⟨0x6c, 0, 1, fun _ => [R.CFG_SCRUB_FIRST.FRAME]⟩] ++
  [⟨0x70, 0, 1, fun _ => [R.CFG_SCRUB_LAST.FRAME]⟩] ++
  [⟨0x74, 0, 1, fun _ => [R.CFG_SCRUB_INTERVAL.CLOCKS]⟩] ++
  [⟨0x78, 0, 1, fun _ => [R.CFG_SCRUB_POS.FRAME]⟩] ++
  [⟨0x7c, 0, 1, fun _ => [R.CFG_SCRUB_PASSES.COUNT]⟩] ++
  [⟨0x80, 0, 1, fun _ => [R.CFG_FRAME_CE_COUNT.COUNT]⟩] ++
  [⟨0x84, 0, 1, fun _ => [R.CFG_FRAME_UE_COUNT.COUNT]⟩] ++
  [⟨0x88, 0, 1, fun _ => [R.CFG_SCRUB_RESTARTS.COUNT]⟩] ++
  [⟨0x8c, 0, 1, fun _ => [R.CFG_DONE_TIMEOUT.US]⟩] ++
  [⟨0x90, 0, 1, fun _ => [R.CFG_REGION_STATUS.STATE]⟩] ++
  [⟨0x100, 0x8, 16, fun i => [R.CFG_REGION.COL_FIRST i, R.CFG_REGION.COL_LAST i, R.CFG_REGION.ROW_FIRST i, R.CFG_REGION.ROW_LAST i, R.CFG_REGION.FABRIC_OK i, R.CFG_REGION.VALID i]⟩] ++
  [⟨0x104, 0x8, 16, fun i => [R.CFG_ISOLATE.WIRES i, R.CFG_ISOLATE.PORTS i]⟩]

/-- The registers of the FAB_ page beyond the common ones (R518). -/
def regRowsFab : List RegRow :=
  [⟨0x8, 0, 1, fun _ => [R.FAB_STATUS.PLL0_LOCK, R.FAB_STATUS.PLL1_LOCK, R.FAB_STATUS.GCLK_ON]⟩] ++
  [⟨0xc, 0, 1, fun _ => [R.FAB_INT_STATUS.PLL_UNLOCK, R.FAB_INT_STATUS.BANK_CHANGE, R.FAB_INT_STATUS.GCLK_LOST]⟩] ++
  [⟨0x10, 0, 1, fun _ => [R.FAB_INT_ENABLE.PLL_UNLOCK, R.FAB_INT_ENABLE.BANK_CHANGE, R.FAB_INT_ENABLE.GCLK_LOST]⟩] ++
  [⟨0x40, 0, 1, fun _ => [R.FAB_BANK_SENSE.LEVEL]⟩] ++
  [⟨0x44, 0, 1, fun _ => [R.FAB_BANK_DECL.LEVEL]⟩] ++
  [⟨0x48, 0, 1, fun _ => [R.FAB_GCLK_SRC_A.SRC]⟩] ++
  [⟨0x4c, 0, 1, fun _ => [R.FAB_GCLK_SRC_B.SRC]⟩] ++
  [⟨0x50, 0, 1, fun _ => [R.FAB_USER_RESET.ASSERT]⟩]

/-- The registers of the ORC_ page beyond the common ones (R518). -/
def regRowsOrc : List RegRow :=
  [⟨0x40, 0, 1, fun _ => [R.ORC_BERRY_REMAP.BERRY, R.ORC_BERRY_REMAP.EN]⟩] ++
  [⟨0x44, 0, 1, fun _ => [R.ORC_BUNCH_REMAP.BUNCH, R.ORC_BUNCH_REMAP.EN]⟩] ++
  [⟨0x48, 0, 1, fun _ => [R.ORC_SPARE_STATUS.BERRY_SPARE_BAD, R.ORC_SPARE_STATUS.BERRY_SPARE_USED, R.ORC_SPARE_STATUS.BUNCH_SPARE_BAD, R.ORC_SPARE_STATUS.BUNCH_SPARE_USED]⟩] ++
  [⟨0xc, 0, 1, fun _ => [R.ORC_INT_STATUS.SPARE_BAD, R.ORC_INT_STATUS.REMAP]⟩] ++
  [⟨0x10, 0, 1, fun _ => [R.ORC_INT_ENABLE.SPARE_BAD, R.ORC_INT_ENABLE.REMAP]⟩]

/-- The registers of the PRT_ page beyond the common ones (R518). -/
def regRowsPrt : List RegRow :=
  [⟨0x4, 0, 1, fun _ => [R.PRT_CTRL.DEPTH, R.PRT_CTRL.HARD, R.PRT_CTRL.REL_SRC, R.PRT_CTRL.PTP_LOCK, R.PRT_CTRL.EXT_SEL, R.PRT_CTRL.EXT_EDGE]⟩] ++
  [⟨0x8, 0, 1, fun _ => [R.PRT_STATUS.STATE, R.PRT_STATUS.XPHASE, R.PRT_STATUS.WAIT_LOCK, R.PRT_STATUS.STALLED, R.PRT_STATUS.PENDING, R.PRT_STATUS.STOP_REQ, R.PRT_STATUS.STOP_CAUSE, R.PRT_STATUS.ISOLATED]⟩] ++
  [⟨0xc, 0, 1, fun _ => [R.PRT_INT_STATUS.TIME_BREAK, R.PRT_INT_STATUS.RELEASE_MISSED, R.PRT_INT_STATUS.STALL, R.PRT_INT_STATUS.STOPPED, R.PRT_INT_STATUS.BREAKPOINT, R.PRT_INT_STATUS.CONTRACT_FAULT, R.PRT_INT_STATUS.FROZEN, R.PRT_INT_STATUS.LOAD_ERROR, R.PRT_INT_STATUS.XLATE, R.PRT_INT_STATUS.CYCLE_END, R.PRT_INT_STATUS.DATA_FAULT]⟩] ++
  [⟨0x10, 0, 1, fun _ => [R.PRT_INT_ENABLE.TIME_BREAK, R.PRT_INT_ENABLE.RELEASE_MISSED, R.PRT_INT_ENABLE.STALL, R.PRT_INT_ENABLE.STOPPED, R.PRT_INT_ENABLE.BREAKPOINT, R.PRT_INT_ENABLE.CONTRACT_FAULT, R.PRT_INT_ENABLE.FROZEN, R.PRT_INT_ENABLE.LOAD_ERROR, R.PRT_INT_ENABLE.XLATE, R.PRT_INT_ENABLE.CYCLE_END, R.PRT_INT_ENABLE.DATA_FAULT]⟩] ++
  [⟨0x40, 0, 1, fun _ => [R.PRT_CMD.CMD]⟩] ++
  [⟨0x44, 0, 1, fun _ => [R.PRT_BUNCHES_LO.MEMBER]⟩] ++
  [⟨0x48, 0, 1, fun _ => [R.PRT_BUNCHES_HI.MEMBER]⟩] ++
  [⟨0x4c, 0, 1, fun _ => [R.PRT_EXCH.CORE, R.PRT_EXCH.BASE, R.PRT_EXCH.COUNT]⟩] ++
  [⟨0x50, 0, 1, fun _ => [R.PRT_TIMER_PERIOD_NS.NS]⟩] ++
  [⟨0x54, 0, 1, fun _ => [R.PRT_TIMER_PERIOD_FRAC.FRAC]⟩] ++
  [⟨0x58, 0, 1, fun _ => [R.PRT_ISOLATE.FABRIC, R.PRT_ISOLATE.EXCH, R.PRT_ISOLATE.CASTX, R.PRT_ISOLATE.PROBE]⟩] ++
  [⟨0x70, 0, 1, fun _ => [R.PRT_CYCLE_LO.COUNT]⟩] ++
  [⟨0x74, 0, 1, fun _ => [R.PRT_CYCLE_HI.COUNT]⟩] ++
  [⟨0x78, 0, 1, fun _ => [R.PRT_RELEASE_MISSED.COUNT]⟩] ++
  [⟨0x7c, 0, 1, fun _ => [R.PRT_XLATE.COUNT]⟩] ++
  [⟨0x80, 0, 1, fun _ => [R.PRT_STALL_COUNT.COUNT]⟩] ++
  [⟨0x84, 0, 1, fun _ => [R.PRT_STALL_MAX.NS]⟩] ++
  [⟨0x88, 0, 1, fun _ => [R.PRT_STALL_TOTAL.NS]⟩] ++
  [⟨0x8c, 0, 1, fun _ => [R.PRT_STALL_CAUSE.CAUSE]⟩] ++
  [⟨0x90, 0, 1, fun _ => [R.PRT_STALL_LAST.CAUSE, R.PRT_STALL_LAST.DURATION]⟩] ++
  [⟨0x94, 0, 1, fun _ => [R.PRT_FAULT_INFO.CHECK, R.PRT_FAULT_INFO.STEP, R.PRT_FAULT_INFO.PIP]⟩] ++
  [⟨0x98, 0, 1, fun _ => [R.PRT_FAULT_CYCLE_LO.COUNT]⟩] ++
  [⟨0x9c, 0, 1, fun _ => [R.PRT_FAULT_CYCLE_HI.COUNT]⟩] ++
  [⟨0xa0, 0, 1, fun _ => [R.PRT_BREAK_CYCLE_LO.COUNT]⟩] ++
  [⟨0xa4, 0, 1, fun _ => [R.PRT_BREAK_CYCLE_HI.COUNT]⟩] ++
  [⟨0x60, 0, 1, fun _ => [R.PRT_TIMER_EPOCH.FRAC]⟩] ++
  [⟨0x64, 0, 1, fun _ => [R.PRT_TIMER_EPOCH.NS]⟩] ++
  [⟨0x68, 0, 1, fun _ => [R.PRT_TIMER_EPOCH.SEC_LO]⟩] ++
  [⟨0x6c, 0, 1, fun _ => [R.PRT_TIMER_EPOCH.SEC_HI]⟩]

/-- The registers of the DMB_ page beyond the common ones (R518). -/
def regRowsDmb : List RegRow :=
  [⟨0x4, 0, 1, fun _ => [R.DMB_CTRL.TEST_EN, R.DMB_CTRL.JOURNAL_EN, R.DMB_CTRL.CE_WRITEBACK]⟩] ++
  [⟨0x8, 0, 1, fun _ => [R.DMB_STATUS.HANDOVER, R.DMB_STATUS.TEST_PHASE, R.DMB_STATUS.JOURNAL_FULL, R.DMB_STATUS.REPAIR_EXHAUSTED, R.DMB_STATUS.SPARES_USED, R.DMB_STATUS.ARRAY_CLOCK]⟩] ++
  [⟨0xc, 0, 1, fun _ => [R.DMB_INT_STATUS.HANDOVER_DONE, R.DMB_INT_STATUS.LATE, R.DMB_INT_STATUS.REFUSED, R.DMB_INT_STATUS.CE, R.DMB_INT_STATUS.UE, R.DMB_INT_STATUS.REPAIR, R.DMB_INT_STATUS.REPAIR_EXHAUSTED, R.DMB_INT_STATUS.JOURNAL_FULL, R.DMB_INT_STATUS.PASS_DONE]⟩] ++
  [⟨0x10, 0, 1, fun _ => [R.DMB_INT_ENABLE.HANDOVER_DONE, R.DMB_INT_ENABLE.LATE, R.DMB_INT_ENABLE.REFUSED, R.DMB_INT_ENABLE.CE, R.DMB_INT_ENABLE.UE, R.DMB_INT_ENABLE.REPAIR, R.DMB_INT_ENABLE.REPAIR_EXHAUSTED, R.DMB_INT_ENABLE.JOURNAL_FULL, R.DMB_INT_ENABLE.PASS_DONE]⟩] ++
  [⟨0x40, 0, 1, fun _ => [R.DMB_BERTH.KIND, R.DMB_BERTH.ID]⟩] ++
  [⟨0x44, 0, 1, fun _ => [R.DMB_BERTH_PREV.KIND, R.DMB_BERTH_PREV.ID]⟩] ++
  [⟨0x48, 0, 1, fun _ => [R.DMB_LATE_COUNT.COUNT]⟩] ++
  [⟨0x4c, 0, 1, fun _ => [R.DMB_REFUSED_SRC.KIND, R.DMB_REFUSED_SRC.ID, R.DMB_REFUSED_SRC.LATE]⟩] ++
  [⟨0x50, 0, 1, fun _ => [R.DMB_CE_COUNT.COUNT]⟩] ++
  [⟨0x54, 0, 1, fun _ => [R.DMB_UE_COUNT.COUNT]⟩] ++
  [⟨0x58, 0, 1, fun _ => [R.DMB_TEST_POS.REGION]⟩] ++
  [⟨0x5c, 0, 1, fun _ => [R.DMB_TEST_PASSES.COUNT]⟩] ++
  [⟨0x60, 0, 1, fun _ => [R.DMB_JOURNAL_BASE.WORD]⟩] ++
  [⟨0x64, 0, 1, fun _ => [R.DMB_JOURNAL_LIMIT.ENTRIES]⟩] ++
  [⟨0x68, 0, 1, fun _ => [R.DMB_JOURNAL_COUNT.ENTRIES]⟩] ++
  [⟨0x80, 0x4, 16, fun i => [R.DMB_REPAIR.ROW i, R.DMB_REPAIR.VALID i, R.DMB_REPAIR.TESTER i, R.DMB_REPAIR.WITHDRAWN i]⟩]

/-- The registers of the MDC_ page beyond the common ones (R518). -/
def regRowsMdc : List RegRow :=
  [⟨0x4, 0, 1, fun _ => [R.MDC_CTRL.CLK_EN, R.MDC_CTRL.RESET]⟩] ++
  [⟨0x8, 0, 1, fun _ => [R.MDC_STATUS.STATE, R.MDC_STATUS.RESV, R.MDC_STATUS.HOLDOFF, R.MDC_STATUS.FAR_BUSY]⟩] ++
  [⟨0xc, 0, 1, fun _ => [R.MDC_INT_STATUS.WDT_WARN, R.MDC_INT_STATUS.WDT_RESET, R.MDC_INT_STATUS.RELEASED, R.MDC_INT_STATUS.EXCEPTION, R.MDC_INT_STATUS.SEAL, R.MDC_INT_STATUS.STORE_ERR]⟩] ++
  [⟨0x10, 0, 1, fun _ => [R.MDC_INT_ENABLE.WDT_WARN, R.MDC_INT_ENABLE.WDT_RESET, R.MDC_INT_ENABLE.RELEASED, R.MDC_INT_ENABLE.EXCEPTION, R.MDC_INT_ENABLE.SEAL, R.MDC_INT_ENABLE.STORE_ERR]⟩] ++
  [⟨0x40, 0, 1, fun _ => [R.MDC_BOOT_ADDR.ADDR]⟩] ++
  [⟨0x44, 0, 1, fun _ => [R.MDC_FAR_BASE.BASE]⟩] ++
  [⟨0x48, 0, 1, fun _ => [R.MDC_WDT_CTRL.EN]⟩] ++
  [⟨0x4c, 0, 1, fun _ => [R.MDC_WDT_PERIOD.US]⟩] ++
  [⟨0x50, 0, 1, fun _ => [R.MDC_WDT_KICK.KEY]⟩] ++
  [⟨0x54, 0, 1, fun _ => [R.MDC_WDT_COUNT.US]⟩] ++
  [⟨0x58, 0, 1, fun _ => [R.MDC_EXC_INFO.CAUSE, R.MDC_EXC_INFO.SLOT]⟩] ++
  [⟨0x5c, 0, 1, fun _ => [R.MDC_EXC_ADDR.ADDR]⟩] ++
  [⟨0x60, 0, 1, fun _ => [R.MDC_PC.PC]⟩] ++
  [⟨0x64, 0, 1, fun _ => [R.MDC_SEAL_ERR.COUNT]⟩] ++
  [⟨0x68, 0, 1, fun _ => [R.MDC_BANK_WAIT.COUNT]⟩]

/-- The registers of the ACQ_ page beyond the common ones (R518). -/
def regRowsAcq : List RegRow :=
  [⟨0x4, 0, 1, fun _ => [R.ACQ_CTRL.CLK_SRC, R.ACQ_CTRL.PART, R.ACQ_CTRL.FCLK, R.ACQ_CTRL.AUTO, R.ACQ_CTRL.DECIM, R.ACQ_CTRL.PIN]⟩] ++
  [⟨0x8, 0, 1, fun _ => [R.ACQ_STATUS.STATE, R.ACQ_STATUS.SEQ_STATE, R.ACQ_STATUS.WRAPPED, R.ACQ_STATUS.TRIGGERED, R.ACQ_STATUS.TRIG_STORED, R.ACQ_STATUS.TRIG_INTERP, R.ACQ_STATUS.FORCED, R.ACQ_STATUS.SHORT, R.ACQ_STATUS.ERR]⟩] ++
  [⟨0xc, 0, 1, fun _ => [R.ACQ_INT_STATUS.TRIGGERED, R.ACQ_INT_STATUS.DONE, R.ACQ_INT_STATUS.DROP, R.ACQ_INT_STATUS.ERROR, R.ACQ_INT_STATUS.FORCED, R.ACQ_INT_STATUS.REPLAY]⟩] ++
  [⟨0x10, 0, 1, fun _ => [R.ACQ_INT_ENABLE.TRIGGERED, R.ACQ_INT_ENABLE.DONE, R.ACQ_INT_ENABLE.DROP, R.ACQ_INT_ENABLE.ERROR, R.ACQ_INT_ENABLE.FORCED, R.ACQ_INT_ENABLE.REPLAY]⟩] ++
  [⟨0x40, 0, 1, fun _ => [R.ACQ_CMD.CMD]⟩] ++
  [⟨0x44, 0, 1, fun _ => [R.ACQ_BUF.FIRST_BANK, R.ACQ_BUF.NBANKS]⟩] ++
  [⟨0x48, 0, 1, fun _ => [R.ACQ_POST.SAMPLES]⟩] ++
  [⟨0x4c, 0, 1, fun _ => [R.ACQ_MIN_PRE.SAMPLES]⟩] ++
  [⟨0x50, 0, 1, fun _ => [R.ACQ_AUTO_US.US]⟩] ++
  [⟨0x54, 0, 1, fun _ => [R.ACQ_WR_POS.BLOCK]⟩] ++
  [⟨0x58, 0, 1, fun _ => [R.ACQ_TRIG_WORD.WORD]⟩] ++
  [⟨0x5c, 0, 1, fun _ => [R.ACQ_DROPPED.COUNT]⟩] ++
  [⟨0x60, 0, 1, fun _ => [R.ACQ_TRIG_TIME.TIME0]⟩] ++
  [⟨0x64, 0, 1, fun _ => [R.ACQ_TRIG_TIME.TIME1]⟩] ++
  [⟨0x68, 0, 1, fun _ => [R.ACQ_TRIG_TIME.TIME2]⟩] ++
  [⟨0x6c, 0, 1, fun _ => [R.ACQ_TRIG_TIME.TIME3]⟩] ++
  [⟨0x70, 0, 1, fun _ => [R.ACQ_TRIG_SAMPLE_TIME.TIME0]⟩] ++
  [⟨0x74, 0, 1, fun _ => [R.ACQ_TRIG_SAMPLE_TIME.TIME1]⟩] ++
  [⟨0x78, 0, 1, fun _ => [R.ACQ_TRIG_SAMPLE_TIME.TIME2]⟩] ++
  [⟨0x7c, 0, 1, fun _ => [R.ACQ_TRIG_SAMPLE_TIME.TIME3]⟩] ++
  [⟨0x80, 0, 1, fun _ => [R.ACQ_TRIG_SEQ_LO.SEQ]⟩] ++
  [⟨0x84, 0, 1, fun _ => [R.ACQ_TRIG_SEQ_HI.SEQ]⟩] ++
  [⟨0x2c0, 0, 1, fun _ => [R.ACQ_RD_INDEX.WORD]⟩] ++
  [⟨0x2d0, 0, 1, fun _ => [R.ACQ_RD_DATA.DATA0]⟩] ++
  [⟨0x2d4, 0, 1, fun _ => [R.ACQ_RD_DATA.DATA1]⟩] ++
  [⟨0x2d8, 0, 1, fun _ => [R.ACQ_RD_DATA.DATA2]⟩] ++
  [⟨0x2dc, 0, 1, fun _ => [R.ACQ_RD_DATA.DATA3]⟩] ++
  [⟨0x100, 0x40, 4, fun i => [R.ACQ_CMP_MASK.MASK0 i]⟩] ++
  [⟨0x104, 0x40, 4, fun i => [R.ACQ_CMP_MASK.MASK1 i]⟩] ++
  [⟨0x108, 0x40, 4, fun i => [R.ACQ_CMP_MASK.MASK2 i]⟩] ++
  [⟨0x10c, 0x40, 4, fun i => [R.ACQ_CMP_MASK.MASK3 i]⟩] ++
  [⟨0x110, 0x40, 4, fun i => [R.ACQ_CMP_VALUE.VALUE0 i]⟩] ++
  [⟨0x114, 0x40, 4, fun i => [R.ACQ_CMP_VALUE.VALUE1 i]⟩] ++
  [⟨0x118, 0x40, 4, fun i => [R.ACQ_CMP_VALUE.VALUE2 i]⟩] ++
  [⟨0x11c, 0x40, 4, fun i => [R.ACQ_CMP_VALUE.VALUE3 i]⟩] ++
  [⟨0x120, 0x40, 4, fun i => [R.ACQ_CMP_CTRL.MODE i]⟩] ++
  [⟨0x200, 0x8, 8, fun i => [R.ACQ_S_A.COND i, R.ACQ_S_A.INV i, R.ACQ_S_A.NEXT i, R.ACQ_S_A.TRIG i, R.ACQ_S_A.CINC i, R.ACQ_S_A.CCLR i, R.ACQ_S_A.TSTART i, R.ACQ_S_A.TSTOP i, R.ACQ_S_A.EN i]⟩] ++
  [⟨0x204, 0x8, 8, fun i => [R.ACQ_S_B.COND i, R.ACQ_S_B.INV i, R.ACQ_S_B.NEXT i, R.ACQ_S_B.TRIG i, R.ACQ_S_B.CINC i, R.ACQ_S_B.CCLR i, R.ACQ_S_B.TSTART i, R.ACQ_S_B.TSTOP i, R.ACQ_S_B.EN i]⟩] ++
  [⟨0x240, 0x10, 4, fun i => [R.ACQ_CNT_LIMIT_LO.LIMIT i]⟩] ++
  [⟨0x244, 0x10, 4, fun i => [R.ACQ_CNT_LIMIT_HI.LIMIT i]⟩] ++
  [⟨0x248, 0x10, 4, fun i => [R.ACQ_CNT_LO.VALUE i]⟩] ++
  [⟨0x24c, 0x10, 4, fun i => [R.ACQ_CNT_HI.VALUE i]⟩] ++
  [⟨0x280, 0x10, 2, fun i => [R.ACQ_TMR_LIMIT_LO.LIMIT i]⟩] ++
  [⟨0x284, 0x10, 2, fun i => [R.ACQ_TMR_LIMIT_HI.LIMIT i]⟩] ++
  [⟨0x288, 0x10, 2, fun i => [R.ACQ_TMR_LO.VALUE i]⟩] ++
  [⟨0x28c, 0x10, 2, fun i => [R.ACQ_TMR_HI.VALUE i]⟩] ++
  [⟨0x400, 0x20, 32, fun i => [R.ACQ_TDC_CTRL.EN i, R.ACQ_TDC_CTRL.EDGES i, R.ACQ_TDC_CTRL.SKEW i]⟩] ++
  [⟨0x410, 0x20, 32, fun i => [R.ACQ_TDC_LAST.FRAC i, R.ACQ_TDC_LAST.RISING i, R.ACQ_TDC_LAST.VALID i, R.ACQ_TDC_LAST.OVERRUN i]⟩] ++
  [⟨0x414, 0x20, 32, fun i => [R.ACQ_TDC_LAST.NS i]⟩] ++
  [⟨0x418, 0x20, 32, fun i => [R.ACQ_TDC_LAST.SEC_LO i]⟩] ++
  [⟨0x41c, 0x20, 32, fun i => [R.ACQ_TDC_LAST.SEC_HI i]⟩]

/-- The registers of the NOC_ page beyond the common ones (R518). -/
def regRowsNoc : List RegRow :=
  [⟨0x4, 0, 1, fun _ => [R.NOC_CTRL.REVIVE]⟩] ++
  [⟨0x8, 0, 1, fun _ => [R.NOC_STATUS.DEAD, R.NOC_STATUS.ASLEEP, R.NOC_STATUS.NODE, R.NOC_STATUS.OUTSTANDING]⟩] ++
  [⟨0xc, 0, 1, fun _ => [R.NOC_INT_STATUS.DEAD, R.NOC_INT_STATUS.DECODE, R.NOC_INT_STATUS.ASLEEP_ACCESS, R.NOC_INT_STATUS.ERR_RESP]⟩] ++
  [⟨0x10, 0, 1, fun _ => [R.NOC_INT_ENABLE.DEAD, R.NOC_INT_ENABLE.DECODE, R.NOC_INT_ENABLE.ASLEEP_ACCESS, R.NOC_INT_ENABLE.ERR_RESP]⟩] ++
  [⟨0x40, 0x4, 64, fun i => [R.NOC_ROUTE.ROUTE i, R.NOC_ROUTE.VALID i]⟩]

/-- The registers a page lists (R518). -/
def regRows (p : Page) : List RegRow :=
  match p with
  | .dev => regRowsDev
  | .pwr => regRowsPwr
  | .hst => regRowsHst
  | .log => regRowsLog
  | .dbg => regRowsDbg
  | .trc => regRowsTrc
  | .irq => regRowsIrq
  | .hms => regRowsHms
  | .tim => regRowsTim
  | .eth => regRowsEth
  | .cas => regRowsCas
  | .lne => regRowsLne
  | .res => regRowsRes
  | .cfg => regRowsCfg
  | .fab => regRowsFab
  | .orc => regRowsOrc
  | .prt => regRowsPrt
  | .dmb => regRowsDmb
  | .mdc => regRowsMdc
  | .acq => regRowsAcq
  | .noc => regRowsNoc

end Sys2Proof.Machine
end

