-- ==== Sys2Proof/Machine/State.lean ====
section
/-! DEFINITION. Machine/State.lean: the state of the GY8640 package as plain data: every register, buffer, queue, counter and pin
level the spec gives it, and the queue of the commands that wait. -/

namespace Sys2Proof.Machine
open Sys2Proof

/-- A local or far memory command that waits for its bank or its transfer (R62, R65). `kind`: 0 local read, 1 local
write, 2 far read, 3 far write. -/
structure MemWait where
  bunch : Nat
  kind  : Nat
  addr  : Nat
  data  : W128
  pip   : Nat
  step  : Nat
  deriving DecidableEq, Repr

/-- The stall being measured for a partition (R111 to R113). Times are in 1/65,536 ns; `lost` is in 1/65,536 ns times
the frequency loss in MHz. -/
structure Ledger where
  isOpen    : Bool := false
  causes    : Nat := 0
  first     : Nat := 0
  realFrom  : Option Nat := none
  realAcc   : Nat := 0
  throttled : Bool := false
  lost      : Nat := 0
  deriving DecidableEq, Repr

/-- A detected data error (R242) with what `RES_EVENT` records of it (R243). -/
structure DataError where
  kind  : Nat
  bunch : Nat
  berry : Nat
  pos   : Nat
  word  : Nat
  pip   : Nat
  deriving DecidableEq, Repr

/-- A replay in progress (R254): the snapshot's cycle, the failing cycle and step, whether the restore is still
running, the location of the first error, the errors of this recovery and the time of detection; the step and the location
of the latest error, which the restore that runs is for (R251), and the cascade tick of the detection (R257). `sf` is the first
step of the failing cycle that has not executed in the open (R257). -/
structure Replay where
  cs        : Nat
  cf        : Nat
  sf        : Nat
  restoring : Bool
  err       : DataError
  errors    : Nat
  begun     : Nat
  logPos    : Nat
  deliv     : List Nat
  step      : Nat
  last      : DataError
  tick      : Nat
  deriving DecidableEq, Repr

/-- The registers of a partition that a snapshot copies (R249 "Registers", R250), keyed as in the live state. -/
structure RegCopy where
  lanes  : SMap (BitVec 1024) := []
  chans  : SMap (BitVec 64) := []
  addr   : SMap (BitVec 24) := []
  wdata  : SMap W128 := []
  rdata  : SMap W128 := []
  rpend  : SMap (Option W128) := []
  fabOwn : SMap (BitVec 64) := []
  o2m    : SMap W128 := []
  probes : SMap W128 := []
  deriving DecidableEq, Repr

/-- What a partition keeps beyond its PRT_ and RES_ registers. -/
structure Part where
  /-- A cycle has been released and its boundary has not been made. -/
  inCycle : Bool := false
  /-- Next step to execute; D when step D − 1 has executed and the boundary is due (R99). -/
  step : Nat := 0
  /-- Steps executed since the cascade start order landed (R196). -/
  executed : Nat := 0
  /-- The cycle is run by SINGLE (R103); a breakpoint has been signalled in it (R52); a cascade STOP has landed. -/
  single : Bool := false
  brk : Bool := false
  stopLanded : Bool := false
  /-- The first release since START has been taken (R118); a cycle has completed since LOAD_BEGIN (R88). -/
  started : Bool := false
  completed : Bool := false
  /-- A START has been accepted since LOAD_BEGIN or UNLOAD, so that the next boundary ends isolation (R103, R117). -/
  opened : Bool := false
  /-- The causes of R110 that hold the partition now, one bit each. -/
  waits : Nat := 0
  memWaits : List MemWait := []
  ledger : Ledger := {}
  /-- The states to return to after a freeze and after a halt (R103, R108). -/
  frozenFrom : Nat := 0
  haltedFrom : Nat := 0
  /-- The next instant of the partition timer's grid, in 1/65,536 ns (R90); the grid has been fixed since LOAD_BEGIN (R91). -/
  gridNext : Nat := 0
  gridSet : Bool := false
  /-- Selected edges the first synchroniser stage has taken whose release has not fallen yet (R94). -/
  edges : Nat := 0
  /-- The loader's records: a refused image word (R185), a soft-time resource (R167). -/
  refusedWord : Bool := false
  softSeen : Bool := false
  /-- The bunches are being ungated, with the loader words, rows and commands held meanwhile (R467): bunch, berry, step, pip,
  word, seal; bunch, berry, row, value; accessor and command. -/
  ungating : Bool := false
  heldWords : List (Nat × Nat × Nat × Nat × W128 × BitVec 16) := []
  heldRows : List (Nat × Nat × Nat × BitVec 64) := []
  heldCmds : List (Accessor × Nat) := []
  /-- The RW-L fields are locked (R106). -/
  locked : Bool := false
  /-- A detected data error that the next executed step meets (R241, R242). -/
  pendErr : Option DataError := none
  /-- Pairs and trios: the cycle signature so far (R247), the acting member of a lead (R246) and the rejoin phase
  (R249): 0 none, 1 repair, 2 bank copy, 3 row copy wanted, 4 row copy running. -/
  sig : Nat := 0xFFFFFFFF
  acting : Option Nat := none
  rejoin : Nat := 0
  /-- Probe bits written while the probe group is isolated (R117), keyed by unit × 128 + bit. -/
  probeBuf : SMap Nat := []
  /-- Snapshot and replay: the snapshot registers and cycle (R250), the log position, the inputs and deliveries of
  the record being built (R253), and the replay in progress (R254). -/
  snap : RegCopy := {}
  snapCycle : Nat := 0
  logPos : Nat := 0
  recIn : List (BitVec 64) := []
  recDeliv : List Nat := []
  replay : Option Replay := none
  /-- Steps a frozen package owes the cascade unit (R225). -/
  deficit : Nat := 0
  /-- The stalled fetch has been refetched once (R239). -/
  refetched : Bool := false
  deriving DecidableEq, Repr

/-- Who asks a bank for an access: the berth KIND and ID it counts as (R137), its node (63 for the orchard), and
whether it is exempt from the berth check (R139). -/
structure Requester where
  kind   : Nat
  id     : Nat
  node   : Nat
  exempt : Bool := false
  deriving DecidableEq, Repr

/-- An access in a bank's NoC queue (R132): the operation (0 read, 1 write, 2 load-reserve, 3 store-conditional), the
window (0 plain, 1 bit-set, 2 bit-clear, R134), the word, byte enables, data, tag and address, and whether it was
accepted from the old owner of a handover in progress (R142). For a packet of more words (R133): the words to come,
their data, the words read so far and the first error status. `spoilt`: the word's seal does not check (R23), and the same
of the words to come. -/
structure BankAcc where
  who  : Requester
  op   : Nat
  win  : Nat
  word : Nat
  be   : Nat
  data : W128
  tag  : Nat
  addr : Nat
  old  : Bool := false
  more : Nat := 0
  rest : List W128 := []
  got  : List W128 := []
  bad  : Nat := 0
  spoilt : Bool := false
  restSpoilt : List Bool := []
  deriving DecidableEq, Repr

/-- The background tester of a bank (R148): region, phase as `DMB_STATUS.TEST_PHASE`, operation number in the phase,
the holding buffer, the failing row of the region, and the rows repaired in it. Region 4,096 stands for the spare rows. -/
structure Tester where
  region  : Nat := 0
  phase   : Nat := 0
  pos     : Nat := 0
  held    : SMap W128 := []
  heldEcc : SMap Nat := []
  failRow : Option Nat := none
  fixed   : List Nat := []
  deriving DecidableEq, Repr

/-- What a bank keeps beyond its words and its DMB_ registers. -/
structure Bank where
  queue  : List BankAcc := []
  /-- Words of a packet that goes on from the bank below (R133), while the queue has no room for them. -/
  inflow : List BankAcc := []
  /-- Corrected words that wait to be written back (R127). -/
  writebacks : List Nat := []
  tester : Tester := {}
  /-- Word index of each journal entry (R155). -/
  journal : SMap Nat := []
  /-- A journal write waits for its NoC slot (R131, R155): pre-image, its check state and word index. -/
  jwrites : List (W128 × Nat × Nat) := []
  /-- A restore is running and the entry it writes back next is this one minus one (R157). -/
  restoreAt : Option Nat := none
  deriving DecidableEq, Repr

/-- A frame under construction, sent or received (R210): number, payload, slot tags. -/
structure Frame where
  g    : Nat
  pay  : BitVec 1536
  tags : BitVec 32
  deriving DecidableEq, Repr

/-- What a Benmet Link port keeps beyond its registers. -/
structure CasPort where
  /-- The frame being filled (R210), frames complete and waiting to be sent (R219), the replay buffer (R219) and the
  receive buffer (R218). -/
  filling : Option Frame := none
  ready   : List Frame := []
  replayBuf : List Frame := []
  rx      : List Frame := []
  /-- Next sequence expected, frames freed and not yet returned as credits, and whether data is discarded until a
  REPLAY (R220). -/
  expect  : Nat := 0
  toReturn : Nat := 0
  discarding : Bool := false
  /-- Consecutive NAKs of one sequence (R221). -/
  nakSeq  : Nat := 0
  nakRun  : Nat := 0
  /-- What the running stages belong to: 0 bring-up, 1 the exit from LS1, 2 the exit from LS2 (R206); and the peer's
  CAS_ID when the port last became READY (R205, R207). -/
  exit    : Nat := 0
  peer    : Nat := 0
  deriving DecidableEq, Repr

/-- The search of a lane for its blocks (R201): its bit offset, consecutive valid headers at it, and the last 63 headers of a
locked lane, newest first: whether each was invalid. -/
structure LaneSync where
  offset : Nat := 0
  run    : Nat := 0
  recent : List Bool := []
  deriving DecidableEq, Repr

/-- An order whose countdown runs (R227). -/
structure Order where
  kind : OrderKind
  left : Nat
  arg  : Nat
  deriving DecidableEq, Repr

/-- What the cascade logic keeps beyond its registers. -/
structure Cas where
  orders : List Order := []
  /-- Tick from which a sampled hold acts (R222); the unit is held (R223). -/
  holdAt : Option Nat := none
  held : Bool := false
  /-- START has landed and the unit has not stopped (R230); the master's REL_MODE, which its argument brings (log entry 219);
  before it, HOLD_N has been released (R230). -/
  started : Bool := false
  mode : Nat := 0
  released : Bool := false
  /-- JOIN has been written 1 and START has not landed since (R230); a package of the unit has reported FAULT (R228). -/
  waiting : Bool := false
  failed : Bool := false
  /-- HOLD_N is kept low by a late order (R227) or a fallen DONE (R231). -/
  lateHold : Bool := false
  doneHold : Bool := false
  /-- Master: consecutive high samples of HOLD_N and DONE (R230); no further release after a tag fault (R217). -/
  highRun : Nat := 0
  noRelease : Bool := false
  /-- The cause that reached the master first for a unit stop (R229), and reports received. -/
  stopCause : Nat := 0
  stopOrdered : Bool := false
  /-- Tick of the next release under REL_MODE 01 (R198). -/
  nextRel : Nat := 0
  /-- The RW-L lock of the page (R232). -/
  locked : Bool := false
  deriving DecidableEq, Repr

/-- An event on its way to the logbook (R262, R265). `code` below 4,096 is a CODE given by the host (R270); above,
4,096 plus the internal kind of the event. `permanent` data and two details of the event follow. -/
structure LogEvent where
  source : Nat
  inst   : Nat
  cls    : Nat
  code   : Nat
  d1     : Nat
  d2     : Nat
  deriving DecidableEq, Repr

/-- The logbook controller's record of a key of SOURCE, INSTANCE and CODE (R265): the time of its last entry in
1/65,536 ns and the events merged since. -/
structure LogKey where
  last : Nat := 0
  held : Nat := 0
  seen : Bool := false
  deriving DecidableEq, Repr

/-- What the logbook controller keeps beyond its registers. -/
structure Logbook where
  queue : List LogEvent := []
  keys  : SMap LogKey := []
  /-- Entries written in the current second, and that second (R265). -/
  second : Nat := 0
  inSecond : Nat := 0
  /-- A head is known: the scan has found a valid entry, or one has been written since (R264). -/
  hasHead : Bool := false
  /-- AON ticks since the last power-on reset (R262). -/
  aon : Nat := 0
  /-- Fraction of the next AON tick that has passed, in 1/1,000,000,000 (the model's own; log entry 64). -/
  aonPhase : Nat := 0
  deriving DecidableEq, Repr

/-- The 128-bit staging of one accessor for one value (R15): the lower three words, where written. -/
structure Staged where
  w0 : Option W32 := none
  w1 : Option W32 := none
  w2 : Option W32 := none
  deriving DecidableEq, Repr

/-- The configuration engine and what it has taken of the stream in progress (R291 to R298). -/
structure CfgEngine where
  /-- Whose stream it is: 0 a full load, 1 STREAM, 2 fabric logic (R307). -/
  source  : Nat := 0
  /-- Words that the engine has been given and has not consumed. -/
  input   : List W32 := []
  /-- Words fetched from host memory so far. -/
  fetched : Nat := 0
  /-- Looking for the stream marker, and the words seen in vain (R291). -/
  hunting : Bool := true
  seen    : Nat := 0
  /-- REGION, and the regions that this stream has quiesced and not started (R293, R308). -/
  region  : Nat := 0
  quiesced : List Nat := []
  /-- Entries of the FRAMES record still to come, the next frame of a full image, and whether its order or its single
  record was broken (R297). -/
  framesLeft : Nat := 0
  nextFrame : Nat := 0
  oneFrames : Bool := false
  misordered : Bool := false
  /-- The stream check: running, its state, and whether the record before was a CHECK that matched (R296). -/
  crcOn   : Bool := false
  crc     : Nat := 0
  checkOk : Bool := false
  deriving DecidableEq, Repr

/-- The fabric's configuration beyond its frames (R281 to R284, R297 to R311). -/
structure Fabric where
  engine : CfgEngine := {}
  /-- The configuration registers that SET writes (R293). -/
  gclkA : BitVec 32 := 0
  gclkB : BitVec 32 := 0
  bankv : BitVec 32 := 0
  fpll0 : BitVec 32 := 0
  fpll1 : BitVec 32 := 0
  /-- Frames are being cleared: 1 after a failed load, 2 after CLEAR (R298). -/
  clearing : Nat := 0
  /-- User I/O parked, reset tree 0 asserted, and the fabric hold on with port bits and release lines low (R300,
  R301). -/
  parked : Bool := true
  reset0 : Bool := false
  held   : Bool := false
  /-- Consecutive high samples of DONE in phase 3 (R301). -/
  doneRun : Nat := 0
  /-- FAULT of the inner configuration port (R307). -/
  cpFault : Bool := false
  /-- Rectangles (first and last column, first and last row) of regions that a region stream has written since the last
  full load (R288, R311). -/
  written : List (Nat × Nat × Nat × Nat) := []
  /-- Word of the first frame entry in the full image in force, and the frame whose refetch is under way (R311). -/
  firstEntry : Nat := 0
  refetch : Option Nat := none
  /-- The flip-flops of the clusters by frame number, A of cell k in bit k and B in bit 8 + k (R276). -/
  ff : SMap (BitVec 16) := []
  /-- The registers of the I/O cells by user I/O: input 0, output 1, output enable 2 (R285). -/
  ioReg : SMap (BitVec 3) := []
  /-- The global clock trees: phase and level (R281). -/
  trees : SMap (Nat × Bool) := []
  /-- Active edges since phase 5 of start-up, up to 2, by tree and polarity (R301). -/
  sinceRel : SMap Nat := []
  /-- Values of the multiplexers of the clusters of regions that are not Running, as isolation captured them (R306). -/
  heldMux : SMap (BitVec 384) := []
  /-- Words of a READ record still to be returned on R (R307). -/
  cpRead : List W32 := []
  deriving DecidableEq, Repr


/-- A result of a model core's bundle that has not landed (R357): the first bundle that reads it, its register as R489
numbers it (72 to 79: ACC0 to ACC7 as the MAC units read them), whether it sets bits only, and its value. -/
structure Landing where
  due  : Nat
  reg  : Nat
  bits : Bool
  val  : Nat
  deriving DecidableEq, Repr

/-- A control transfer whose delay slots have not all issued (R361): its target, the delay slots to come, and its opcode. -/
structure Branch where
  target : Nat
  left   : Nat
  op     : Nat
  deriving DecidableEq, Repr

/-- A repeat block in progress (R362): address of its body, its length, iterations still to begin after this one, the
next bundle of the body, whether the first iteration is over, and the loop buffer (R349). -/
structure Rep where
  body   : Nat
  len    : Nat
  left   : Nat
  pos    : Nat
  again  : Bool
  buffer : List W128
  deriving DecidableEq, Repr

/-- A far request of a bundle that waits at M1 (R320): the slot, its tag and address, and its response once it is there:
status and data. -/
structure FarReq where
  slot : Nat
  tag  : Nat
  addr : Nat
  resp : Option (Nat × W128)
  deriving DecidableEq, Repr

/-- A core's trace (R498 to R502): the FIFO, oldest byte first; the outcome bits held, oldest first; the reference
address in bundle units; stream bytes since the last SYNC; whether SYNC is due; whether packets are being dropped. -/
structure CoreTrace where
  fifo     : List Nat := []
  outcomes : List Bool := []
  ref      : Nat := 0
  since    : Nat := 0
  syncDue  : Bool := true
  dropping : Bool := false
  deriving DecidableEq, Repr

/-- What a model core keeps beyond its scratchpad, exchange registers and MDC_ registers. -/
structure Core where
  /-- The registers (R316, R355), numbered as R489 numbers them: 0–31 D, 32–39 ACC as every reader but the MAC units
  reads it, 40–55 P, 56–63 M, 64 PC of the next bundle, 65–71 ARS, ASC, ELR, ESTAT, EADDR, IRA, EVB; and 72–79 ACC as
  the MAC units read it (R357). -/
  regs  : SMap Nat := []
  due   : List Landing := []
  /-- Bundles issued (the model's count, for R357). -/
  count : Nat := 0
  branch : Option Branch := none
  rep    : Option Rep := none
  /-- No bundle has issued since the last RETI or ERET completed (R364). -/
  justReturned : Bool := false
  /-- A FENCE holds the later accesses (R356). -/
  fenced : Bool := false
  /-- The reservation on a granule of the own scratchpad (R337). -/
  resv   : Option Nat := none
  /-- The far requests of the bundle at the PC, while it waits at M1 (R320), and the posted far stores: tag and internal
  address. -/
  wait   : List FarReq := []
  stores : List (Nat × Nat) := []
  /-- The watchdog has expired once without a kick (R343). -/
  warned : Bool := false
  /-- A halt request that waits: its CAUSE, 0 for none (R486); no halt is taken before one bundle has issued (R488). -/
  haltReq : Nat := 0
  noHalt  : Bool := false
  /-- NoC accesses that wait for a bank of the scratchpad (R324). -/
  queue : List BankAcc := []
  trace : CoreTrace := {}
  /-- The virtual terminal's FIFOs, head first (R495). -/
  vtTx : List Nat := []
  vtRx : List Nat := []
  deriving DecidableEq, Repr

/-- An item on a core's stack, or dispatched to one (R393, R394): index, level and the descriptor's four words. -/
structure HmsItem where
  idx   : Nat
  level : Nat
  words : List W128
  deriving DecidableEq, Repr

/-- An outstanding dispatch (R393). -/
structure HmsDispatch where
  item    : HmsItem
  preempt : Bool
  deriving DecidableEq, Repr

/-- A completion whose record has been written and not answered (R395): the tag of the write, the item. -/
structure HmsDone where
  tag  : Nat
  item : HmsItem
  deriving DecidableEq, Repr

/-- An access to the HMS_ page by an initiator that waits behind that initiator's held commit (R392, R400). -/
structure HmsWait where
  who   : Accessor
  off   : Nat
  write : Bool
  val   : W32
  deriving DecidableEq, Repr

/-- What the harbourmaster keeps beyond its registers and its pool. -/
structure Hms where
  /-- Staging buffers by initiator × 16 + word (R392) and the last committed post of each initiator. -/
  staging : SMap W32 := []
  posted  : SMap (Option Nat) := []
  /-- State of each descriptor (R398): 0 free, 1 queued, 2 dispatching, 3 running. -/
  state   : SMap Nat := []
  /-- The queues by level, head first; the outstanding dispatch and the stack, top first, of each core. -/
  queues   : SMap (List Nat) := []
  dispatch : SMap (Option HmsDispatch) := []
  coreStacks   : SMap (List HmsItem) := []
  /-- Completions that wait for their record's response, and held commits with the accesses behind them, oldest first. -/
  completing : List HmsDone := []
  /-- Completion records that the quay has no room for yet, oldest first (R400). -/
  unsent : List (HmsItem × W128) := []
  held    : List Accessor := []
  waiting : List HmsWait := []
  deriving DecidableEq, Repr



/-- A mailbox command in progress (R377, R378): its opcode and SEQ, its RESULT once it is known, and the RSP registers it
writes: index and value. -/
structure MbxCmd where
  op     : Nat
  seq    : Nat
  result : Option Nat
  rsp    : List (Nat × Nat)
  deriving DecidableEq, Repr

/-- What the boot ROM keeps of a firmware image it has accepted (R375, R376): VERSION, SECURITY_VERSION and the ENTRY
of each control core. -/
structure FwImage where
  version  : Nat
  security : Nat
  entries  : List Nat
  deriving DecidableEq, Repr

/-- The section a load image is in (R173): TYPE, BUNCH, LINES, FIRST, COUNT and CRC of its descriptor, the data lines
read, and the CRC state. -/
structure SectLoad where
  typ   : Nat
  bunch : Nat
  lines : Nat
  first : Nat
  count : Nat
  crc   : Nat
  done  : Nat
  state : Nat
  deriving DecidableEq, Repr

/-- A load image being loaded (R184): the partition, ARG3, the lines read, the header's words, the section in hand, the
sections finished, and the (TYPE, BUNCH) of the sections begun. -/
structure ImgLoad where
  p      : Nat
  arg3   : Nat
  line   : Nat := 0
  header : Option (W128 × W128) := none
  sect   : Option SectLoad := none
  count  : Nat := 0
  seen   : List (Nat × Nat) := []
  deriving DecidableEq, Repr

/-- What the control complex keeps beyond the HST_ registers. -/
structure Control where
  cmd   : Option MbxCmd := none
  /-- The image a FW_LOAD or FW_LOAD_DBG has accepted since (R378), and the firmware that runs. -/
  good  : Option FwImage := none
  runs  : Option FwImage := none
  /-- The rollback floor (R376): the highest SECURITY_VERSION of the boot ROM's CLASS 3 entries. -/
  floor : Nat := 0
  /-- LOAD_IMAGE in progress; FW_LOAD_DBG in progress: its length, and the words taken from the FIFO, and the FIFO. -/
  img   : Option ImgLoad := none
  dbgLen : Option Nat := none
  dbgGot : List W32 := []
  fifo  : List W32 := []
  /-- The design memory has not been zeroed since the last power-on or system reset (R461, R542). -/
  zeroDue : Bool := true
  /-- The repairs have been lost by a power-on reset and not reapplied (R267). -/
  lost : Bool := true
  /-- The control cores' memories by core × 32,768 + word (R27); an unlisted word is undefined (R542). -/
  mem   : SMap W128 := []
  deriving DecidableEq, Repr



/-- A taken sample of an acquisition unit (R412, R413): the probe bits, its SEQ, the time of its tick, the stamps its pin
event covers, oldest first (R429), and the units in Triggered or Done on the tick before (R425). -/
structure AcqSample where
  probe  : W128
  seq    : Nat
  time   : Nat
  pins   : List Nat
  others : List Nat
  deriving DecidableEq, Repr

/-- The open block (R417): its number, SEQ and time of its first sample, samples so far, the place of the trigger sample,
FIRST. -/
structure AcqBlock where
  block : Nat
  seq   : Nat
  time  : Nat
  count : Nat
  trig  : Option Nat
  first : Bool
  deriving DecidableEq, Repr

/-- A word that waits for its write to the buffer: the buffer word, its data, and whether it is a sample (R419). -/
structure AcqWord where
  word   : Nat
  data   : W128
  sample : Bool
  deriving DecidableEq, Repr

/-- What an acquisition unit keeps beyond its registers. -/
structure Acq where
  /-- Taken samples that wait to be evaluated; `none` stands for the beginning of a replay (R415). -/
  due    : List (Option AcqSample) := []
  /-- Sample-clock events since ARM (R412), and the previous taken sample (R425). -/
  events : Nat := 0
  prev   : Option W128 := none
  /-- The FIFO with the headers in their places, the open block, the last block opened, and a gap before the next. -/
  fifo   : List AcqWord := []
  blk    : Option AcqBlock := none
  last   : Option Nat := none
  gap    : Bool := true
  /-- Writes without a response: tag, address, and whether they belong to the capture in hand (R418). -/
  out    : List (Nat × Nat × Bool) := []
  /-- Capture has ended and waits for its writes (R421, R422). -/
  ending : Bool := false
  /-- A FORCE is pending (R424); samples taken in Prefill; samples taken after the trigger (R422). -/
  force  : Bool := false
  taken  : Nat := 0
  after  : Nat := 0
  /-- Stamps available since the previous taken sample (R429). -/
  pins   : List Nat := []
  /-- Timers that run, and ns counted since the unit entered Armed (R424, R426); time of entry to Triggered or Done. -/
  timers : List Nat := []
  autoNs : Nat := 0
  since  : Nat := 0
  deriving DecidableEq, Repr

/-- A time-to-digital converter (R428, R429): the last stamped edge at the ball and the stamps that are not available yet,
with the polarity of their edges. Times are in 1/128 ns. -/
structure Tdc where
  lastEdge : Option Nat := none
  waiting  : List (Nat × Bool) := []
  deriving DecidableEq, Repr



/-- The access window of a debug front end (R482, R483): the access in progress, if any, as `DBG_XCMD` gave it, with its
address, and its RESULT and data where they are known before it ends (a refusal, or a stolen cycle). -/
structure WindowAcc where
  write : Bool
  wide  : Bool
  inc   : Bool
  addr  : Nat
  held  : Option (Nat × W128)
  deriving DecidableEq, Repr

/-- The step tick that runs (R410; log entry 232): the partitions that have had their STEP on it, and the global pip number, plus
one, that wrote each probe bit on it, by unit × 128 + bit. -/
structure StepTick where
  parts  : List Nat := []
  probes : SMap Nat := []
  deriving DecidableEq, Repr

/-- The framer and the internal trace buffer (R503, R504): the next FSEQ, the core to look at next, frames since the last
sync frame where one has been sent, whether the framer has stopped at the ring's end; the unread frames of the ring,
oldest first, and the bytes read of the oldest. -/
structure TracePort where
  fseq    : Nat := 0
  turn    : Nat := 0
  since   : Option Nat := none
  stopped : Bool := false
  ring    : List (List Nat) := []
  taken   : Nat := 0
  deriving DecidableEq, Repr

/-- The test access port (R477, R478): the instruction in force, the DBGACC access (WRITE, INDEX, the data and STATUS that the
next capture returns), and what the next Capture-DR of the selected data register returns. -/
structure Tap where
  instr  : Nat := 0x02
  write  : Bool := false
  index  : Nat := 0
  data   : Nat := 0
  status : Nat := 0
  dr     : Nat := 0x18640079
  deriving DecidableEq, Repr

/-- The PCIe endpoint's configuration space (R449): Memory Space Enable, and the addresses of BAR0 and BAR2. Bus Master
Enable and MSI-X Enable stand in `HST_STATUS`. -/
structure PcieCfg where
  mse  : Bool := false
  bar0 : BitVec 64 := 0
  bar2 : BitVec 64 := 0
  deriving DecidableEq, Repr

/-- A host access that the PCIe endpoint has taken (R404, R451): whether it writes, its internal address, byte enables and
data; `reg`: it is a read of a register. -/
structure HostWord where
  write : Bool
  addr  : Nat
  be    : Nat
  data  : W128
  reg   : Bool
  deriving DecidableEq, Repr

/-- What the device sends out: responses, packets, messages, frames and ordered sets, in the order it sends them. A model's
own record of the outputs (log entry 20): a command appends to it, and no command reads what an earlier one sent. -/
inductive Output where
  /-- The response to a register access: its STATUS as R400 numbers it (0 OK, 3 SEAL, 4 REFUSED), and the value read (R14,
  R24, R452). -/
  | regResp (a : Accessor) (status : Nat) (v : W32)
  /-- A NoC response: to node, tag, STATUS and data (R400). -/
  | nocResp (node tag status : Nat) (data : List W128)
  /-- A NoC request a block of the device issues: from node, TAG, OP, address, byte enables, data (R400). -/
  | nocReq (node tag op addr be : Nat) (data : List W128)
  /-- An MSI-X message (R390, R454). -/
  | msix (vector : Nat)
  /-- A Benmet frame sent on a port, with its sequence and CRC (R210). -/
  | frame (port g : Nat) (f : FrameIn)
  /-- A Benmet ordered set sent on a port: code and fields (R211). -/
  | ordered (port code f1 f2 f3 : Nat)
  /-- A configuration frame returned on R of the inner configuration port (R292, R307). -/
  | cpFrame (f : BitVec 4096)
  /-- What a port's transmitters send in the first three stages (R199, R200): in DETECT electrical idle with detect pulses, in
  CDR a 0101 pattern, in POLARITY the polarity pattern. -/
  | pattern (port stage : Nat)
  /-- A test frame sent on a port in LATENCY, or one of the far end returned (R204). -/
  | testFrame (port : Nat) (back : Bool)
  /-- A wake burst sent on a port (R207). -/
  | wake (port : Nat)
  /-- A trace frame sent to the parallel or serial port (R503, R504): its 20 bytes, lowest first. -/
  | trace (sink : Nat) (bytes : List Nat)
  /-- An Ethernet frame sent on a port: its bytes before padding, its length after padding, and whether its FCS is
  valid (R442). -/
  | ethFrame (port : Nat) (bytes : List Byte) (len : Nat) (fcs : Bool)
  /-- A received gPTP frame handed to the control firmware, with its stamp (R445). -/
  | gptpFrame (port : Nat) (bytes : List Byte) (stamp : W128)
  /-- A bus-master read of the configuration engine from host memory: bus address and bytes (R298, R311). -/
  | busRead (addr bytes : Nat)
  /-- A PCIe completion of a configuration request: Configuration Request Retry Status, or the value read (R458). -/
  | cfgResp (retry : Bool) (v : W32)
  /-- A PCIe completion of a memory read: 0 successful, 1 Unsupported Request, 2 poisoned; and its words (R452). -/
  | completion (status : Nat) (data : List W128)
  /-- The vector address the interrupt controller supplies to a control core (R386). -/
  | irqVector (core addr : Nat)
  deriving DecidableEq, Repr

/-- Reasons for which a step stops with a fault. -/
inductive Fault where
  /-- NOC_REQUEST raises it where a request reaches a block that performs requests and its header's OP is one of the reserved
  values 4 to 7 and 9 to 15 (R400: "Other values are reserved"), or 8, a response on the request channel: the spec does not say
  what a block does with such a request. Safe: the model stops where the hardware goes on. -/
  | reservedNocOp
  deriving DecidableEq, Repr

/-- Reasons for which a command has no meaning. -/
inductive Refusal where
  /-- Raised by an arm of Machine/Dispatch.lean for a command that is not modelled. Safe: nothing is claimed of it. -/
  | notModelled (mnemonic : String)
  deriving DecidableEq, Repr

/-- The state of the device. -/
structure State where
  /-- The commands that wait, first in, first out. The model's own field. -/
  pending : List Instr := []
  /-- What the device has sent (the model's own record). -/
  outbox : List Output := []
  /-- Uses of free values so far (the model's own counter). -/
  freeUses : Nat := 0
  /-- Register fields that differ from their reset values, by `Fld.key`. -/
  regs : SMap Nat := []
  /-- SELECT shadows (R120): class × 32 + page type; class 0 host, 1 firmware, 2 debug. -/
  selects : SMap Nat := []
  /-- 128-bit write staging and read captures of each accessor (R15), and captured _HI words (R107). -/
  staging : SMap Staged := []
  captures : SMap (Option W128) := []
  hiCaptures : SMap (Option Nat) := []
  /-- The time base in units of 2^−56 ns since its epoch (R433). -/
  tb : Nat := 0
  /-- The time base counts (R432); the remaining slew in units of `tb` (R436); core cycles since the last accepted OFFSET
  (R437). -/
  timeRuns : Bool := false
  timeRemain : Int := 0
  timeSince : Nat := 0
  /-- Ethernet ports that send from their transmit rings (R443). -/
  ethKicked : List Nat := []
  /-- Check state of stored words that are not good (R126, R234): 1 correctable, 2 uncorrectable, 3 seal failure, 4 correctable and
  the corrected word's seal fails. -/
  health : SMap Nat := []
  /-- Instruction store (R37), step stores (R53) and shadow rows (R250), by physical berry. -/
  istore : SMap W128 := []
  rows : SMap (BitVec 64) := []
  shadow : SMap (BitVec 64) := []
  /-- Canary cells (R260) by number; an unlisted one holds its pattern. -/
  canary : SMap (BitVec 153) := []
  /-- Corrected instruction words that wait for a service slot (R235). -/
  isWritebacks : List Nat := []
  /-- Lane registers (R58), captured channels (R59), staging and read-data registers (R61, R63), by bunch. -/
  lanes : SMap (BitVec 1024) := []
  chans : SMap (BitVec 64) := []
  addrStage : SMap (BitVec 24) := []
  wdataStage : SMap W128 := []
  rdata : SMap W128 := []
  rpend : SMap (Option W128) := []
  /-- Fabric ports: captured inbound bits (R20), the partition's own outbound bits and the presented ones (R21). -/
  fabCap : SMap (BitVec 64) := []
  fabOwn : SMap (BitVec 64) := []
  fabPres : SMap (BitVec 64) := []
  /-- The values that the last synchroniser stages of the inbound port bits hold (R20), by bunch. -/
  fabIn : SMap (BitVec 64) := []
  /-- Release lines whose edges are ignored after a fabric or region start-up (R303). -/
  relBlank : BitVec 32 := 0
  /-- What each partition keeps beyond its registers. -/
  parts : SMap Part := []
  /-- Design memory words by bank and physical word (R126, R154), and the banks. -/
  dmem : SMap W128 := []
  banks : SMap Bank := []
  /-- Load-reserve reservations on bank words (R337, R145): core and bank × 2^18 + word. -/
  resvBank : List (Nat × Nat) := []
  /-- Exchange buffers (R98), values held by isolation (R117), and which window took which register, oldest first
  (R97). -/
  exch : SMap W128 := []
  exchHeld : SMap (Option W128) := []
  exchTook : List (Nat × Nat) := []
  /-- Private orchard-to-model copies of group members (R246), by partition × 64 + window register. -/
  exchPriv : SMap W128 := []
  /-- Logged model-to-orchard words of the cycle a partition replays (R254), by partition × 64 + window register. -/
  replayExch : SMap W128 := []
  /-- Probe bits of the acquisition units as presented (R69). -/
  probes : SMap W128 := []
  onStep : StepTick := {}
  /-- The acquisition units and the time-to-digital converters (R410 to R430). -/
  acqs : SMap Acq := []
  tdcs : SMap Tdc := []
  /-- The net map (R212), the receive and transmit slot registers (R68), and the ports. -/
  netmap : SMap W32 := []
  rxSlots : SMap (BitVec 24) := []
  txSlots : SMap (BitVec 24) := []
  /-- Transmit slot values held by isolation (R117). -/
  txHeld : SMap (BitVec 24) := []
  /-- What the ports keep beyond their registers (R210, R218), what their lanes do (R201), and the cascade logic (R222, R230). -/
  casPorts : SMap CasPort := []
  laneSync : SMap LaneSync := []
  cas : Cas := {}
  /-- Configuration frames (R287), and the fabric's configuration. -/
  frames : SMap (BitVec 4096) := []
  fabric : Fabric := {}
  /-- The logbook (R262) by entry × 4 + word, and its controller. -/
  logbook : SMap W128 := []
  log : Logbook := {}
  /-- Time of the crossing that began the dip (R258), in units of `tb`. -/
  dipFrom : Nat := 0
  /-- The supply has not risen above 0.715 V since the crossing (R258), the cascade tick of the freeze (R225), and
  whether the retention check that runs was commanded (R261). -/
  dipLow : Bool := false
  dipTick : Nat := 0
  checkByCmd : Bool := false
  /-- The retention check of the latest dip has passed (R225). -/
  dipPassed : Bool := true
  /-- Interrupt controller: model-core latches (R389) as core × 256 + source, sources whose host message is not
  rearmed (R390), and the control cores' stacks of (source, level) (R386). -/
  irqLatches : List Nat := []
  irqDisarmed : List Nat := []
  irqStacks : SMap (List (Nat × Nat)) := []
  /-- Host messages of sources held while IRQ_CTRL.EN is 0 (R407). -/
  irqHeld : List Nat := []
  /-- The control complex (R374 to R383), and the CLASS 3 entries written, oldest first (R266, R267). -/
  control : Control := {}
  records : List LogEvent := []
  /-- MSI-X table words by vector × 4 + word, and pending bits (R454). -/
  msixTable : SMap W32 := []
  msixPending : BitVec 64 := 0
  msixFuncMask : Bool := false
  /-- Model cores, and their scratchpads by core × 16,384 + word (R322). -/
  cores : SMap Core := []
  scratch : SMap W128 := []
  /-- The harbourmaster (R391 to R398). -/
  hms : Hms := {}
  /-- PORST_N is high, and the thermal comparator holds the device in Standby (R457, R470). -/
  porst : Bool := true
  tripped : Bool := false
  /-- A step frequency decided and not in effect (R469); every reading since this time has been at or below TEMP_ON − HYST
  (R471); no reading since the last read of `PWR_TEMP_MAX` (R474). -/
  freqTarget : Option Nat := none
  coolFrom : Option Nat := none
  tempFresh : Bool := true
  /-- Throttle requests that the master holds, by CAS_ID (R472). -/
  throttles : SMap Nat := []
  /-- The PCIe endpoint. -/
  pcie : PcieCfg := {}
  /-- Host accesses that wait for earlier writes of the host to be answered, and the requests of the endpoint without a
  response: tag, address, whether it writes (R400, R404). -/
  hostWaiting : List HostWord := []
  hostOut : List (Nat × Nat × Bool) := []
  /-- The debug windows by front end (0 PCIe, 1 JTAG), the test access port, and the challenges drawn, now and at the last
  reset (R481). -/
  windows : SMap (Option WindowAcc) := []
  tap : Tap := {}
  challenges : Nat := 0
  challengeAt : Nat := 0
  /-- An emulation halt: time of T, a RELEASE whose first restarted tick has not come, a supply dip whose warning fell
  within it (R494), and the release lines whose level differs from the one held before it, with the direction (R108). -/
  haltAt : Nat := 0
  releasing : Bool := false
  haltDip : Bool := false
  haltEdges : List (Nat × Bool) := []
  /-- The trace ports (R498, R503, R504). -/
  trace : TracePort := {}
  /-- Core-clock cycles since reset, and that count when TRC_CTRL.EN became 1 (R498). -/
  coreTicks : Nat := 0
  traceFrom : Nat := 0
  /-- A halt of emulation has been decided and tick T has not come (R491). -/
  haltDecided : Bool := false
  /-- The blocks whose clocks run, by TYPE × 256 + instance (R29, R380, R459). -/
  awake : List Nat := []
  /-- Request packets that a quay holds while its bank takes no more (R132, R402), oldest first, by node; and the requests of
  the control cores and of the fabric without a response: node, tag, address (R28, R29, R400). -/
  nocHeld : SMap (List Packet) := []
  quayReqs : List (Nat × Nat × Nat) := []
  /-- The RW-L routes of the NOC_ pages are locked (R409). -/
  nocLocked : Bool := false
  /-- The model cores whose scratchpads firmware has zeroed since the last power-on or system reset (R325). -/
  scratchReady : List Nat := []
  deriving DecidableEq, Repr

/-- The state right after power-on reset, with PORST_N high: Service (R458, R474), straps low, nothing in the queue (R462, R542; log entries 10 to
19 for the values the spec does not give), with the event of the reset's cause on its way to the logbook (R267, R465). -/
def State.reset : State := { log := { queue := [⟨0x02, 0, 1, 1, 0, 0⟩] } }

end Sys2Proof.Machine
end

