-- ==== Sys2Proof/Machine/Ops.lean ====
section
/-! DEFINITION. Machine/Ops.lean: the named operations over the state that every command uses: reading and writing
register fields, error capture, interrupts and their messages, logbook events, time, and output. -/

namespace Sys2Proof.Machine
open Sys2Proof

/-! ## Register fields -/

/-- The value of a register field in a channel; a field that has not changed reads its reset value (R16). -/
def State.rd (s : State) (f : Fld) (ch : Nat) : Nat := SMap.get f.reset s.regs (f.key ch)

/-- Set a register field of a channel. -/
def State.wr (s : State) (f : Fld) (ch v : Nat) : State :=
  { s with regs := SMap.set f.reset s.regs (f.key ch) (v % 2 ^ f.width) }

/-- Whether a one-bit field is 1. -/
def State.on (s : State) (f : Fld) (ch : Nat) : Bool := s.rd f ch == 1

/-- Add to a counting field, saturating at its maximum (R112). -/
def State.count (s : State) (f : Fld) (ch n : Nat) : State := s.wr f ch (satAdd f.width (s.rd f ch) n)

/-- Set a counting field to a value, saturating. -/
def State.wrSat (s : State) (f : Fld) (ch v : Nat) : State := s.wr f ch (min v (2 ^ f.width - 1))

/-- A 64-bit value held in a LO and a HI register. -/
def State.rd64 (s : State) (lo hi : Fld) (ch : Nat) : Nat := s.rd lo ch + 2 ^ 32 * s.rd hi ch

/-- Set a value held in a LO and a HI register. -/
def State.wr64 (s : State) (lo hi : Fld) (ch v : Nat) : State := (s.wr lo ch v).wr hi ch (v / 2 ^ 32)

/-- A 128-bit value held in four registers, low word first (R15). -/
def State.rd128 (s : State) (w0 w1 w2 w3 : Fld) (ch : Nat) : W128 :=
  ofWords (s.rd w0 ch) (s.rd w1 ch) (s.rd w2 ch) (s.rd w3 ch)

/-- Set a 128-bit value held in four registers. -/
def State.wr128 (s : State) (w0 w1 w2 w3 : Fld) (ch : Nat) (v : W128) : State :=
  (((s.wr w0 ch (wordOf v 0)).wr w1 ch (wordOf v 1)).wr w2 ch (wordOf v 2)).wr w3 ch (wordOf v 3)

/-! ## Outputs and free values -/

/-- Append an output. -/
def State.emit (s : State) (o : Output) : State := { s with outbox := s.outbox ++ [o] }

/-- Respond to a register access. -/
def State.respond (s : State) (a : Accessor) (ok : Bool) (v : Nat) : State :=
  s.emit (.regResp a (if ok then 0 else 4) (BitVec.ofNat 32 v))

/-- A 128-bit value the spec leaves undefined: a fresh free value. -/
def State.free (s : State) : W128 × State :=
  (Config.freeWord s.freeUses, { s with freeUses := s.freeUses + 1 })

/-! ## Accessors -/

/-- The NoC node of an accessor (R399). -/
def nodeOf : Accessor → Nat
  | .host => 34
  | .fw k => 8 + k.val
  | .jtag => 41
  | .pcieDbg => 41
  | .core m => 12 + m.val

/-- The SELECT shadow class of an accessor (R120): host, firmware, debug; a model core's selection is fixed. -/
def selClassOf : Accessor → Nat
  | .host => 0
  | .fw _ => 1
  | .jtag => 2
  | .pcieDbg => 2
  | .core _ => 3

/-- The class that holds its own 128-bit staging and captures (R15): the host, the firmware, each debug front end,
each model core. -/
def capClassOf : Accessor → Nat
  | .host => 0
  | .fw _ => 1
  | .jtag => 2
  | .pcieDbg => 3
  | .core m => 4 + m.val

/-- Whether an access comes through the debug path (R12). -/
def viaDebug : Accessor → Bool
  | .jtag => true
  | .pcieDbg => true
  | _ => false

/-- The channel an accessor reaches on a page (R120, R121): its shadow; a model core reaches its own MDC_ channel; a
NOC_ page is reached at its node; a page that is not replicated has channel 0. -/
def State.channel (s : State) (a : Accessor) (r : RegAddr) : Nat :=
  if r.page = .noc then r.node.val
  else if r.page.channels = 0 then 0
  else
    match a with
    | .core m => m.val
    | _ => SMap.get 0 s.selects (selClassOf a * 32 + r.page.type)

/-! ## Error capture (R512 to R515) -/

/-- Byte offset of a page in the register space (R507). -/
def pageBase (p : Page) (node : Nat) : Nat :=
  match p with
  | .noc => 0x20000 + 0x1000 * node
  | p => 0x1000 * (p.type - 1)

/-- The internal address of a register (R507). -/
def regAddress (p : Page) (node off : Nat) : Nat := 0x40000000 + pageBase p node + off

/-- The fields of ERR_CAPTURE and ERR_ADDR of a page (R512, R514). -/
def errCode (p : Page) : Fld := ⟨p, 0x18, 0, 5, .ro, 0⟩
/-- INITIATOR of ERR_CAPTURE. -/
def errInitiator (p : Page) : Fld := ⟨p, 0x18, 6, 6, .ro, 0⟩
/-- ADDR_HI of ERR_CAPTURE. -/
def errAddrHi (p : Page) : Fld := ⟨p, 0x18, 12, 8, .ro, 0⟩
/-- OVERRUN of ERR_CAPTURE. -/
def errOverrun (p : Page) : Fld := ⟨p, 0x18, 30, 1, .ro, 0⟩
/-- VALID of ERR_CAPTURE. -/
def errValid (p : Page) : Fld := ⟨p, 0x18, 31, 1, .w1c, 0⟩
/-- ERR_ADDR. -/
def errAddr (p : Page) : Fld := ⟨p, 0x1C, 0, 32, .ro, 0⟩

/-- Record an error in a page's ERR_CAPTURE and ERR_ADDR: the first error is captured, a further one while VALID is
1 only sets OVERRUN (R512, R514). -/
def State.err (s : State) (p : Page) (ch code node addr : Nat) : State :=
  if s.on (errValid p) ch then s.wr (errOverrun p) ch 1
  else
    (((((s.wr (errCode p) ch code).wr (errInitiator p) ch node).wr (errAddrHi p) ch (addr / 2 ^ 32)).wr
      (errAddr p) ch addr).wr (errValid p) ch 1)

/-- Record an error that an access to a register makes, in the channel it concerns (R515). -/
def State.errReg (s : State) (a : Accessor) (p : Page) (ch off code : Nat) : State :=
  s.err p ch code (nodeOf a) (regAddress p ch off)

/-! ## Interrupts (R384 to R390, R454) -/

/-- An INT_STATUS bit of a page. -/
def intBit (p : Page) (b : Nat) : Fld := ⟨p, 0xC, b, 1, .w1c, 0⟩
/-- An INT_ENABLE bit of a page. -/
def intEn (p : Page) (b : Nat) : Fld := ⟨p, 0x10, b, 1, .rw, 0⟩

/-- The interrupt source of a page's channel (R384). -/
def sourceOf (p : Page) (ch : Nat) : Option Nat :=
  match p with
  | .prt => some ch | .dmb => some (64 + ch) | .mdc => some (128 + ch) | .acq => some (160 + ch)
  | .tim => some 172 | .cas => some 173 | .res => some 174 | .log => some 175 | .cfg => some 176 | .fab => some 177
  | .hms => some 178 | .noc => some 179 | .hst => some 180 | .pwr => some 181 | .dbg => some 182 | .trc => some 183
  | .orc => some 184 | .irq => some 187 | .eth => some (164 + ch) | .dev => none | .lne => none

/-- Insert into a list kept ascending, merging equals. -/
def insertAsc (x : Nat) : List Nat → List Nat
  | [] => [x]
  | y :: r => if x < y then x :: y :: r else if x = y then y :: r else y :: insertAsc x r

/-- The Vector Control mask bit of an MSI-X vector; vectors are masked after reset (R454). -/
def State.vectorMasked (s : State) (v : Nat) : Bool :=
  bitOf (SMap.get 1#32 s.msixTable (v * 4 + 3)).toNat 0 == 1

/-- Send an MSI-X message on a vector, or leave its pending bit set while the vector, the function mask or the MSI-X
enable holds it back (R454). -/
def State.sendVector (s : State) (v : Nat) : State :=
  if s.on R.HST_STATUS.MSIX_EN 0 && !s.msixFuncMask && !s.vectorMasked v then s.emit (.msix v)
  else { s with msixPending := s.msixPending ||| BitVec.ofNat 64 (2 ^ v) }

/-- The event of an interrupt source (R384): a latch at a model core (R389), a message to the host that no earlier
unanswered one holds back (R390) and that waits while IRQ_CTRL.EN is 0 (R407); a control core sees the line (R386). -/
def State.irqEvent (s : State) (n : Nat) : State :=
  match s.rd (R.IRQ_TARGET.KIND n) 0 with
  | 2 => { s with irqLatches := insertAsc (s.rd (R.IRQ_TARGET.INDEX n) 0 * 256 + n) s.irqLatches }
  | 3 =>
    if s.irqDisarmed.contains n then s
    else if !s.on R.IRQ_CTRL.EN 0 then { s with irqHeld := insertAsc n s.irqHeld }
    else { s with irqDisarmed := insertAsc n s.irqDisarmed }.sendVector (s.rd (R.IRQ_TARGET.INDEX n) 0)
  | _ => s

/-- Hardware sets an INT_STATUS bit of a channel; where its enable is 1 that is an event of the page's source (R384). -/
def State.raise (s : State) (p : Page) (ch b : Nat) : State :=
  let s1 := s.wr (intBit p b) ch 1
  if s1.on (intEn p b) ch then
    match sourceOf p ch with
    | some n => s1.irqEvent n
    | none => s1
  else s1

/-- The pending bits of software sources 192 to 223, or of 224 to 255 (R384). -/
def softPend (hi : Bool) : Fld := ⟨.irq, if hi then 0xC4 else 0xC0, 0, 32, .w1s, 0⟩

/-- The same for port n of the ETH_ page, whose ports have their own INT_STATUS (R448). -/
def State.raiseEth (s : State) (n b : Nat) : State :=
  let s1 := s.wr ⟨.eth, 0x108 + 0x80 * n, b, 1, .w1c, 0⟩ 0 1
  if s1.on ⟨.eth, 0x10C + 0x80 * n, b, 1, .rw, 0⟩ 0 then s1.irqEvent (164 + n) else s1

/-- Whether a page's channel has an INT_STATUS bit whose enable is 1. -/
def State.pageLine (s : State) (p : Page) (ch : Nat) : Bool :=
  (List.range 32).any (fun b => s.on (intBit p b) ch && s.on (intEn p b) ch)

/-- Whether Ethernet port n has an INT_STATUS bit whose enable is 1. -/
def State.ethLine (s : State) (n : Nat) : Bool :=
  (List.range 4).any (fun b =>
    s.on ⟨.eth, 0x108 + 0x80 * n, b, 1, .w1c, 0⟩ 0 && s.on ⟨.eth, 0x10C + 0x80 * n, b, 1, .rw, 0⟩ 0)

/-- The line of an interrupt source (R384). -/
def State.line (s : State) (n : Nat) : Bool :=
  if n < 64 then s.pageLine .prt n
  else if n < 128 then s.pageLine .dmb (n - 64)
  else if n < 144 then s.pageLine .mdc (n - 128)
  else if n < 160 then false
  else if n < 164 then s.pageLine .acq (n - 160)
  else if n < 172 then s.ethLine (n - 164)
  else if n = 172 then s.pageLine .tim 0
  else if n = 173 then s.pageLine .cas 0
  else if n = 174 then s.pageLine .res 0
  else if n = 175 then s.pageLine .log 0
  else if n = 176 then s.pageLine .cfg 0
  else if n = 177 then s.pageLine .fab 0
  else if n = 178 then s.pageLine .hms 0
  else if n = 179 then (List.range 44).any (fun d => s.pageLine .noc d)
  else if n = 180 then s.pageLine .hst 0
  else if n = 181 then s.pageLine .pwr 0
  else if n = 182 then s.pageLine .dbg 0
  else if n = 183 then s.pageLine .trc 0
  else if n = 184 then (List.range 64).any (fun c => s.pageLine .orc c)
  else if n = 185 then s.rd R.HST_MBX_STATUS.FW_STATE 0 == 3
  else if n = 186 then s.on R.HST_MBX_STATUS.BUSY 0
  else if n = 187 then (s.rd R.IRQ_INT_STATUS.STACK_FAULT 0 &&& s.rd R.IRQ_INT_ENABLE.STACK_FAULT 0) != 0
  else if n < 192 then false
  else if n < 224 then bitOf (s.rd R.IRQ_SWSET_LO.PEND 0) (n - 192) == 1
  else if n < 256 then bitOf (s.rd R.IRQ_SWSET_HI.PEND 0) (n - 224) == 1
  else false

/-! ## Time -/

/-- The time base in 1/65,536 ns, the resolution of its 128-bit value (R431, R433). -/
def State.now (s : State) : Nat := s.tb / 2 ^ 40

/-- A time in 1/65,536 ns as the 128-bit value SEC, NS, FRAC of `TIM_NOW` (R433). -/
def timeWord (t : Nat) : W128 :=
  let ns := t / 65536
  ofWords (t % 65536) (ns % 1000000000) (ns / 1000000000) (ns / 1000000000 / 2 ^ 32)

/-- The time a 128-bit value of SEC, NS and FRAC names, in 1/65,536 ns. -/
def timeOf (w : W128) : Nat :=
  65536 * (1000000000 * bitsOf w.toNat 64 64 + bitsOf w.toNat 32 32) + bitsOf w.toNat 0 16

/-! ## The logbook's events (R262 to R265) -/

/-- An event on its way to the logbook. During the entry scan up to 256 events are held (R264); a further one is
dropped (R265). -/
def State.logQueue (s : State) (e : LogEvent) : State :=
  if !s.on R.LOG_STATUS.SCAN_DONE 0 && decide (256 ≤ s.log.queue.length) then
    (s.count R.LOG_DROPPED.COUNT 0 1).raise .log 0 1
  else { s with log := { s.log with queue := s.log.queue ++ [e] } }

/-- An internal event goes to the logbook controller: source TYPE, instance, class, kind and two details. -/
def State.logEvent (s : State) (source inst cls kind d1 d2 : Nat) : State :=
  s.logQueue ⟨source, inst, cls, 4096 + kind, d1, d2⟩

/-- The class of an event to which the spec gives none: a free value decides it when the entry is written. -/
def openClass : Nat := 4

/-! The kinds of internal events, numbered for the model alone (the spec gives no CODE numbers). -/

/-- A seal check failed (R24). -/
def evSeal : Nat := 1
/-- An uncorrectable bank word was read (R128). -/
def evBankUe : Nat := 2
/-- A bank row was repaired (R152). -/
def evRowRepair : Nat := 3
/-- A bank row failed with no spare free (R153). -/
def evRepairOut : Nat := 4
/-- A quay was declared dead (R403). -/
def evDead : Nat := 5
/-- An order arrived late (R227). -/
def evOrderLate : Nat := 6
/-- An error was absorbed (R268). -/
def evAbsorbed : Nat := 7
/-- An error was not absorbed (R243). -/
def evUnabsorbed : Nat := 8
/-- A berry was remapped (R239). -/
def evRemap : Nat := 9
/-- The spare bunch was assigned or taken back, and the same of a spare berry, by a register write (R75, R267). -/
def evRemapWrite : Nat := 25
/-- Signatures diverged without a majority (R247). -/
def evDiverge : Nat := 10
/-- Snapshot protection was lost (R252). -/
def evProtection : Nat := 11
/-- A supply dip began (R258). -/
def evDip : Nat := 12
/-- Bad retention (R261). -/
def evRetention : Nat := 13
/-- A group was left with one member, or a spare was used up (R268). -/
def evDegraded : Nat := 14
/-- The control complex entered FW_STATE 3 (R382). -/
def evControlFault : Nat := 15
/-- A refused pool access (R391). -/
def evPool : Nat := 16
/-- A fabric load or region failed, or a frame could not be corrected (R299, R311). -/
def evFabric : Nat := 17
/-- A model-core watchdog or exception event (R343, R373). -/
def evCore : Nat := 19
/-- A time-base event (R437, R438). -/
def evTime : Nat := 20
/-- A spare was marked bad (R76). -/
def evSpareBad : Nat := 23
/-- The boot ROM raised the rollback floor (R376). -/
def evFloor : Nat := 24

/-- A class 0 fault was absorbed (R268). -/
def State.absorbed (s : State) (p kind : Nat) : State :=
  (s.raise .res 0 0).logEvent 0x0D p 0 evAbsorbed kind 0

/-- Tick T of an emulation halt has come, and the step clock stands still (R491). -/
def State.emuStopped (s : State) : Bool := s.rd R.DBG_STATUS.EMU 0 != 0 && !s.haltDecided

/-! ## Instances -/

/-- The logical bunches of a partition, ascending (R77). -/
def State.bunches (s : State) (p : Nat) : List Nat :=
  onesOf 64 (s.rd R.PRT_BUNCHES_LO.MEMBER p + 2 ^ 32 * s.rd R.PRT_BUNCHES_HI.MEMBER p)

/-- The partition that a bunch belongs to. -/
def State.holderOf (s : State) (n : Nat) : Option Nat := (List.range 64).find? (fun p => (s.bunches p).contains n)

/-- A partition's own data. -/
def State.part (s : State) (p : Nat) : Part := SMap.get {} s.parts p

/-- Change a partition's own data. -/
def State.modPart (s : State) (p : Nat) (f : Part → Part) : State :=
  { s with parts := SMap.set {} s.parts p (f (s.part p)) }

/-- A bank's own data. -/
def State.bank (s : State) (b : Nat) : Bank := SMap.get {} s.banks b

/-- Change a bank's own data. -/
def State.modBank (s : State) (b : Nat) (f : Bank → Bank) : State :=
  { s with banks := SMap.set {} s.banks b (f (s.bank b)) }

/-- A Benmet port's own data. -/
def State.port (s : State) (n : Nat) : CasPort := SMap.get {} s.casPorts n

/-- Change a Benmet port's own data. -/
def State.modPort (s : State) (n : Nat) (f : CasPort → CasPort) : State :=
  { s with casPorts := SMap.set {} s.casPorts n (f (s.port n)) }

/-- A model core's own data. -/
def State.core (s : State) (m : Nat) : Core := SMap.get {} s.cores m

/-- Change a model core's own data. -/
def State.modCore (s : State) (m : Nat) (f : Core → Core) : State :=
  { s with cores := SMap.set {} s.cores m (f (s.core m)) }

/-- Change the cascade logic's own data. -/
def State.modCas (s : State) (f : Cas → Cas) : State := { s with cas := f s.cas }

/-! ## Check state of stored words (R126, R234) -/

/-- The key of a store location's check state: its class and its index in the class. -/
def healthKey (cls idx : Nat) : Nat := 2 ^ 40 * cls + idx

/-- Check state of a location: 0 good, 1 correctable, 2 uncorrectable, 3 the seal fails, 4 correctable and the corrected word's
seal fails (R25, R126). -/
def State.ecc (s : State) (cls idx : Nat) : Nat := SMap.get 0 s.health (healthKey cls idx)

/-- Set the check state of a location. -/
def State.setEcc (s : State) (cls idx v : Nat) : State :=
  { s with health := SMap.set 0 s.health (healthKey cls idx) v }

/-! ## Canaries (R260) -/

/-- Canary cells of the part: 8 rows in the step store of each of 17 berries of 65 bunches, 8 words beside each of those berries'
instructions in either tier, and 8 words in each of 64 banks. -/
def canaryCount : Nat := 65 * 17 * 8 + 65 * 17 * 16 + 64 * 8

/-- The width of a canary cell: a row of 72 bits, an instruction word of 137, a bank word of 153. -/
def canaryWidth (i : Nat) : Nat := if i < 65 * 17 * 8 then 72 else if i < 65 * 17 * 24 then 137 else 153

/-- The pattern of a canary cell: alternating ones and zeros beginning with 1 in bit 0 in the even cells of each array, the
complement in the odd ones. -/
def canaryPattern (i : Nat) : BitVec 153 :=
  BitVec.ofNat 153 ((List.range (canaryWidth i)).foldl (fun a k => a + b2n (k % 2 == i % 2) * 2 ^ k) 0)

/-- What a canary cell holds. -/
def State.canaryCell (s : State) (i : Nat) : BitVec 153 := SMap.get (canaryPattern i) s.canary i

/-- A canary cell is upset: a bit of it flips. Which bit is not seen by anything (R260: a canary fails when any bit differs). -/
def State.upsetCanary (s : State) (i : Nat) : State :=
  if i < canaryCount then { s with canary := SMap.set (canaryPattern i) s.canary i (s.canaryCell i ^^^ 1) } else s

/-- A canary fails when what it holds differs from its pattern. -/
def State.canaryFails (s : State) : Bool := s.canary.any (fun e => e.2 != canaryPattern e.1)

/-- Apply the upsets a command carries. -/
def State.upset (s : State) (u : List Upset) : State :=
  u.foldl (fun s x => if x.cls = 7 then s.upsetCanary x.idx else s.setEcc x.cls x.idx x.kind.val) s

/-- Store classes: instruction words, step-store rows, bank words, shadow rows, scratchpad words, logbook words,
configuration frames, canaries, control-core memories. This one: instruction words. -/
def clsIstore : Nat := 0
/-- Step-store rows. -/
def clsRow : Nat := 1
/-- Bank words. -/
def clsBank : Nat := 2
/-- Shadow rows. -/
def clsShadow : Nat := 3
/-- Scratchpad words. -/
def clsScratch : Nat := 4
/-- Logbook words. -/
def clsLog : Nat := 5
/-- Configuration frames. -/
def clsFrame : Nat := 6
/-- Canaries. -/
def clsCanary : Nat := 7
/-- Control-core memories. -/
def clsControl : Nat := 8

/-! ## Responses at a quay (R400, R403) -/

/-- Whether a node's quay has been declared dead (R403). -/
def State.quayIsDead (s : State) (node : Nat) : Bool := s.on R.NOC_STATUS.DEAD node

/-- The block of a node answers a request: a dead quay's flits are discarded (R403). -/
def State.quayAnswer (s : State) (node dst tag status : Nat) (data : List W128) : State :=
  if s.quayIsDead node then s else s.emit (.nocResp dst tag status data)

end Sys2Proof.Machine
end

