-- ==== Sys2Proof/Machine/Banks.lean ====
section
/-! DEFINITION. Machine/Banks.lean: the design-memory banks: words and row repair (R125 to R128, R154), the berth and its
handover (R137 to R146), the NoC port (R131 to R136), the background tester (R148 to R153) and the journal (R155 to
R158). -/

namespace Sys2Proof.Machine
open Sys2Proof

/-- Words of a bank (R125). -/
def bankWords : Nat := 262144

/-- The key of a physical word of a bank: words 0 to 262,143 of the array, then the 16 spare rows. -/
def bankKey (b phys : Nat) : Nat := 2 ^ 19 * b + phys

/-- The spare row that a `DMB_REPAIR` entry puts in place of a row (R154): the lowest valid entry naming it. -/
def State.spareFor (s : State) (b row : Nat) : Option Nat :=
  (List.range 16).find? (fun k => s.on (R.DMB_REPAIR.VALID k) b && s.rd (R.DMB_REPAIR.ROW k) b == row)

/-- The physical word that a word index reaches (R126, R154). -/
def State.physWord (s : State) (b w : Nat) : Nat :=
  match s.spareFor b (w / 8) with
  | some k => bankWords + k * 8 + w % 8
  | none => w

/-- The array's word and check state at a word index. -/
def State.arrayWord (s : State) (b w : Nat) : W128 × Nat :=
  let k := bankKey b (s.physWord b w)
  (SMap.get 0 s.dmem k, s.ecc clsBank k)

/-- Write the array at a word index. -/
def State.setArray (s : State) (b w : Nat) (v : W128) (e : Nat) : State :=
  let k := bankKey b (s.physWord b w)
  { s with dmem := SMap.set 0 s.dmem k v }.setEcc clsBank k e

/-- Whether a word lies in the region under test and a read of it is served from the holding buffer (R149). -/
def State.heldRead (s : State) (b w : Nat) : Bool :=
  let t := (s.bank b).tester
  w / 64 == t.region && (t.phase == 2 || t.phase == 3 || t.phase == 4)

/-- Whether a write of a word goes to the holding buffer (R149). -/
def State.heldWrite (s : State) (b w : Nat) : Bool :=
  let t := (s.bank b).tester
  s.heldRead b w || (w / 64 == t.region && t.phase == 1 && decide (w % 64 < t.pos))

/-- Whether a write of a word goes to the array (R149). -/
def State.arrayWrite (s : State) (b w : Nat) : Bool :=
  let t := (s.bank b).tester
  !s.heldRead b w || (t.phase == 3 && decide (w % 64 < t.pos))

/-- The word and check state that an access to a bank sees (R149). -/
def State.bankWord (s : State) (b w : Nat) : W128 × Nat :=
  let t := (s.bank b).tester
  if s.heldRead b w then (SMap.get 0 t.held (w % 64), SMap.get 0 t.heldEcc (w % 64)) else s.arrayWord b w

/-- Store a word with its check state (R149). -/
def State.setBankWord (s : State) (b w : Nat) (v : W128) (e : Nat) : State :=
  let s1 := if s.arrayWrite b w then s.setArray b w v e else s
  if s.heldWrite b w then
    s1.modBank b (fun k => { k with tester := { k.tester with
      held := SMap.set 0 k.tester.held (w % 64) v, heldEcc := SMap.set 0 k.tester.heldEcc (w % 64) e } })
  else s1

/-- The internal address of a bank word (R125). -/
def bankAddress (b w : Nat) : Nat := 0x100000000 + b * 0x400000 + w * 16

/-- A read corrects a bit: counted and signalled (R127), a class 0 fault absorbed (R268). -/
def State.bankCorrected (s : State) (b w : Nat) : State :=
  (((s.count R.DMB_CE_COUNT.COUNT b 1).raise .dmb b 3).raise .res 0 0).logEvent 0x12 b 0 evAbsorbed w 0

/-- A read of a bank word by a port: corrected and counted (R127), or reported as uncorrectable (R128); a word whose seal fails
after the correction is both, and is not written back. -/
def State.readBank (s : State) (b w node : Nat) : Option W128 × State :=
  let (v, e) := s.bankWord b w
  if e = 0 then (some v, s)
  else
    let s1 := if e = 1 ∨ e = 4 then s.bankCorrected b w else s
    if e = 1 then
      (some v, if s1.on R.DMB_CTRL.CE_WRITEBACK b
        then s1.modBank b (fun k => { k with writebacks := k.writebacks ++ [w] }) else s1)
    else
      (none, (((s1.count R.DMB_UE_COUNT.COUNT b 1).raise .dmb b 4).err .dmb b 10 node (bankAddress b w)).logEvent
        0x12 b openClass evBankUe w node)

/-! ## The journal -/

/-- Protection of the partition that holds a bank is lost (R252): `cause` as LOST_CAUSE. -/
def State.loseProtection (s : State) (p cause : Nat) : State :=
  if s.on (R.RES_SNAP.LOST p) 0 then s
  else
    (((s.wr (R.RES_SNAP.LOST p) 0 1).wr (R.RES_SNAP.LOST_CAUSE p) 0 cause).raise .res 0 7).logEvent
      0x0D p 1 evProtection cause 0

/-- The bank's journal is full (R156); the owning partition loses its protection (R252). -/
def State.journalFull (s : State) (b : Nat) : State :=
  if s.on R.DMB_STATUS.JOURNAL_FULL b then s
  else
    let s1 := (s.wr R.DMB_STATUS.JOURNAL_FULL b 1).raise .dmb b 7
    if s1.rd R.DMB_BERTH.KIND b = 1 ∧ s1.on (R.RES_GROUP.SNAP_EN (s1.rd R.DMB_BERTH.ID b)) 0
    then s1.loseProtection (s1.rd R.DMB_BERTH.ID b) 2 else s1

/-- Keep the pre-image of a word that is about to be written, where the bank journals (R155, R156). -/
def State.journal (s : State) (b w : Nat) (exempt : Bool) : State :=
  if exempt || !s.on R.DMB_CTRL.JOURNAL_EN b || s.on R.DMB_STATUS.JOURNAL_FULL b then s
  else if s.rd R.DMB_JOURNAL_LIMIT.ENTRIES b ≤ s.rd R.DMB_JOURNAL_COUNT.ENTRIES b + (s.bank b).jwrites.length then
    s.journalFull b
  else
    let (v, e) := s.bankWord b w
    s.modBank b (fun k => { k with jwrites := k.jwrites ++ [(v, e, w)] })

/-- A whole-word write with a new seal (R23, R128). -/
def State.writeBank (s : State) (b w : Nat) (v : W128) (exempt : Bool) : State :=
  (s.journal b w exempt).setBankWord b w v 0

/-- The word that journal entry n is written to (R155). A region that runs past word 262,143, which R158 forbids, goes on at
word 0 (DESIGN CHOICE, log entry 206: the spec is silent). -/
def State.journalWord (s : State) (b n : Nat) : Nat := (s.rd R.DMB_JOURNAL_BASE.WORD b + n) % bankWords

/-- The journal write in the NoC slot (R155, R156). -/
def doJournalWrite (b : Nat) (s : State) : State :=
  match (s.bank b).jwrites with
  | [] => s
  | (v, e, w) :: rest =>
    let n := s.rd R.DMB_JOURNAL_COUNT.ENTRIES b
    let s1 := (s.setBankWord b (s.journalWord b n) v e).modBank b
      (fun k => { k with jwrites := rest, journal := SMap.set 0 k.journal n w })
    let s2 := s1.wr R.DMB_JOURNAL_COUNT.ENTRIES b (n + 1)
    if s2.rd R.DMB_JOURNAL_LIMIT.ENTRIES b ≤ n + 1 then s2.journalFull b else s2

/-- JOURNAL_WRITE (R155). -/
def execJournalWrite (b : Fin 64) (s : State) : Host.Outcome State Fault Refusal := .next (doJournalWrite b s)

/-- One write of a journal restore, newest entry first; after the last, the count is cleared (R157). -/
def doJournalRestore (b : Nat) (s : State) : State :=
  if s.on R.DMB_STATUS.JOURNAL_FULL b then s
  else
    match (s.bank b).restoreAt with
    | none => s
    | some 0 => (s.wr R.DMB_JOURNAL_COUNT.ENTRIES b 0).modBank b (fun k => { k with restoreAt := none })
    | some (n + 1) =>
      let (v, e) := s.bankWord b (s.journalWord b n)
      let s1 := s.setBankWord b (SMap.get 0 (s.bank b).journal n) v e
      if n = 0 then (s1.wr R.DMB_JOURNAL_COUNT.ENTRIES b 0).modBank b (fun k => { k with restoreAt := none })
      else s1.modBank b (fun k => { k with restoreAt := some n })

/-- JOURNAL_RESTORE (R157). -/
def execJournalRestore (b : Fin 64) (s : State) : Host.Outcome State Fault Refusal := .next (doJournalRestore b s)

/-! ## The berth -/

/-- The settled token names this owner (R137). -/
def State.berthNames (s : State) (b kind id : Nat) : Bool :=
  !s.on R.DMB_STATUS.HANDOVER b && s.rd R.DMB_BERTH.KIND b == kind && s.rd R.DMB_BERTH.ID b == id

/-- The owner that `DMB_BERTH` names: the new owner during a handover (R142). -/
def State.berthIs (s : State) (b kind id : Nat) : Bool :=
  s.rd R.DMB_BERTH.KIND b == kind && s.rd R.DMB_BERTH.ID b == id

/-- The old owner during a handover (R142). -/
def State.berthWas (s : State) (b kind id : Nat) : Bool :=
  s.on R.DMB_STATUS.HANDOVER b && s.rd R.DMB_BERTH_PREV.KIND b == kind && s.rd R.DMB_BERTH_PREV.ID b == id

/-- Record the requester of a refused access (R138, R144). The ID of an exempt or unlisted requester, whose KIND reads 7, is 0
(DESIGN CHOICE, log entry 207: R159 gives it no ID). -/
def State.refusedSrc (s : State) (b : Nat) (r : Requester) (late : Nat) : State :=
  ((s.wr R.DMB_REFUSED_SRC.KIND b (if r.exempt || r.kind == 0 then 7 else r.kind)).wr R.DMB_REFUSED_SRC.ID b r.id).wr
    R.DMB_REFUSED_SRC.LATE b late

/-- The node that ERR_CAPTURE gives for a requester: 63 for the orchard, whose far commands a partition's are (R512). -/
def Requester.errNode (r : Requester) : Nat := if r.kind = 1 then 63 else r.node

/-- A non-owner access (R138): CODE 11 and REFUSED. -/
def State.refuseOwner (s : State) (b : Nat) (r : Requester) (addr : Nat) : State :=
  ((s.refusedSrc b r 0).err .dmb b 11 r.errNode addr).raise .dmb b 2

/-- A late access (R144): CODE 12, counted. -/
def State.refuseLate (s : State) (b : Nat) (r : Requester) (addr : Nat) : State :=
  (((s.count R.DMB_LATE_COUNT.COUNT b 1).refusedSrc b r 1).err .dmb b 12 r.errNode addr).raise .dmb b 1

/-- How the berth check treats an access that arrives: 0 accepted, 1 held for the new owner, 2 refused, 3 late
(R138, R139, R142, R144). -/
def State.berthCheck (s : State) (b : Nat) (r : Requester) : Nat :=
  if r.exempt then 0
  else if s.berthNames b r.kind r.id && r.kind != 0 then 0
  else if s.berthWas b r.kind r.id && r.kind != 0 then 3
  else if s.on R.DMB_STATUS.HANDOVER b && s.berthIs b r.kind r.id && r.kind != 0 then 1
  else 2

/-- A word of the journal region, while journalling is on (R158). -/
def State.inJournal (s : State) (b w : Nat) : Bool :=
  s.on R.DMB_CTRL.JOURNAL_EN b && decide (s.rd R.DMB_JOURNAL_BASE.WORD b ≤ w) &&
    decide (w < s.rd R.DMB_JOURNAL_BASE.WORD b + s.rd R.DMB_JOURNAL_LIMIT.ENTRIES b)

/-- Reservations of model cores on words of a bank end (R145): the reservation addresses that lie in the bank. -/
def State.dropBankReservations (s : State) (b : Nat) : State :=
  { s with resvBank := s.resvBank.filter (fun r => !decide (r.2 / 2 ^ 18 = b)) }

/-- The accesses that an entry of a bank's queue stands for: one for each of its words in this bank (R132, R133). -/
def BankAcc.load (a : BankAcc) : Nat := min (a.more + 1) (bankWords - a.word)

/-- The accesses in a bank's queue (R132). -/
def State.bankLoad (s : State) (b : Nat) : Nat := ((s.bank b).queue.map BankAcc.load).sum

/-- The NoC port has room for an access (R132). -/
def State.bankRoom (s : State) (b : Nat) (a : BankAcc) : Bool := decide (s.bankLoad b + a.load ≤ 16)

/-- The bank that a design-memory address or an alias of it lies in (R125, R134). -/
def bankOfAddress (a : Nat) : Nat := a % 0x10000000 / 0x400000

/-- A bank answers an access with an error: an error of an earlier word comes first (R133). -/
def State.bankRefuse (s : State) (a : BankAcc) (status : Nat) : State :=
  s.quayAnswer (bankOfAddress a.addr / 8) a.who.node a.tag (if a.bad = 0 then status else a.bad) []

/-- An access is taken at a bank's NoC port (R138 to R144): into the queue, or refused with a response. An access that arrives
outside a handover, or that the bank serves during one, counts as accepted before the next. -/
def State.bankAccept (s : State) (b : Nat) (a : BankAcc) : State :=
  match s.berthCheck b a.who with
  | 2 => (s.refuseOwner b a.who a.addr).bankRefuse a 4
  | 3 => (s.refuseLate b a.who a.addr).bankRefuse a 5
  | c => s.modBank b (fun k => { k with queue := k.queue ++ [{ a with old := c == 0 }] })

/-- The words of a packet that go on in a bank from the one below (R133): taken, or waiting until the queue has room. -/
def State.bankFlow (s : State) (b : Nat) (a : BankAcc) : State :=
  if s.bankRoom b a then s.bankAccept b a else s.modBank b (fun k => { k with inflow := k.inflow ++ [a] })

/-- The merged word of a write: plain bytes (R26), or bits set or cleared through an alias (R134). -/
def mergeAccess (old : W128) (a : BankAcc) : W128 :=
  let m := mergeBytes 0 a.data a.be 16
  match a.win with
  | 0 => mergeBytes old a.data a.be 16
  | 1 => old ||| m
  | _ => old &&& ~~~m

/-- Whether an access needs the stored word: any but a plain write of all 16 bytes (R26). -/
def needsMerge (a : BankAcc) : Bool := a.win != 0 || a.be != 65535

/-- Whether a model core holds a reservation on a bank word (R337, R338). -/
def State.holdsBankResv (s : State) (m b w : Nat) : Bool := s.resvBank.contains (m, 2 ^ 18 * b + w)

/-- A write to a bank word by anyone clears the reservations of the other cores on it; the writer's own store keeps
the rule of R338. -/
def State.clearBankResv (s : State) (b w : Nat) : State :=
  { s with resvBank := s.resvBank.filter (fun r => r.2 != 2 ^ 18 * b + w) }

/-- One word of an access is done: the last one answers the request, any other makes way for the next word of the packet,
which is the bank's next access (R133). -/
def State.accessDone (s : State) (b : Nat) (a : BankAcc) (st : Nat) (d : List W128) : State :=
  let bad := if a.bad = 0 then st else a.bad
  if a.more = 0 then s.quayAnswer (b / 8) a.who.node a.tag bad (if bad = 0 then a.got ++ d else [])
  else
    let next : BankAcc := { a with
      word := (a.word + 1) % 262144, addr := a.addr + 16, data := a.rest.headD 0, rest := a.rest.tail
      more := a.more - 1, got := a.got ++ d, bad := bad
      spoilt := a.restSpoilt.headD false, restSpoilt := a.restSpoilt.tail }
    if a.word + 1 < 262144 then s.modBank b (fun k => { k with queue := next :: k.queue })
    else if b % 8 = 7 then s.bankRefuse next 1
    else s.bankFlow (b + 1) next

/-- Perform one access of the queue at the bank (R131 to R136): its response carries the word or a status. A write into the
journal region while journalling is on is refused as a non-owner's is (R158); the debug path's write there is accepted
(DESIGN CHOICE, log entry 208: R139 exempts it from the berth check, and the spec does not say whether R158's refusal is one). -/
def State.bankPerform (s : State) (b : Nat) (a : BankAcc) : State :=
  let done (s : State) (st : Nat) (d : List W128) := s.accessDone b a st d
  if a.op = 0 ∨ a.op = 2 then
    match s.readBank b a.word a.who.errNode with
    | (some v, s1) =>
      done (if a.op = 2 ∧ a.who.kind = 2 then { s1 with resvBank := s1.resvBank.filter (fun r => r.1 != a.who.id) ++
        [(a.who.id, 2 ^ 18 * b + a.word)] } else s1) 0 [v]
    | (none, s1) => done s1 3 []
  else if !a.who.exempt && s.inJournal b a.word then done (s.refuseOwner b a.who a.addr) 4 []
  else if a.op = 3 ∧ !(a.who.kind == 2 && s.holdsBankResv a.who.id b a.word) then done s 0 [0]
  else
    let st := if a.op = 3 then [1] else []
    if needsMerge a then
      match s.readBank b a.word a.who.errNode with
      | (some v, s1) => done ((s1.writeBank b a.word (mergeAccess v a) a.who.exempt).clearBankResv b a.word) 0 st
      | (none, s1) => done s1 3 []
    else
      let s1 := s.writeBank b a.word a.data a.who.exempt
      done ((if a.spoilt then s1.setBankWord b a.word a.data 3 else s1).clearBankResv b a.word) 0 st

/-- The queue's next access that may be performed: during a handover the new owner's accesses are held (R142). -/
def State.nextAccess (s : State) (b : Nat) : Option BankAcc :=
  (s.bank b).queue.find? (fun a => !s.on R.DMB_STATUS.HANDOVER b || a.old || a.who.exempt)

/-- Remove the first occurrence of an access. -/
def removeAccess (a : BankAcc) : List BankAcc → List BankAcc
  | [] => []
  | x :: r => if x = a then r else x :: removeAccess a r

/-- The words that wait to go on in a bank enter its queue as room comes (R132, R133). -/
def State.bankAdmit (s : State) (b : Nat) : State :=
  match (s.bank b).inflow with
  | [] => s
  | a :: rest => if s.bankRoom b a then (s.modBank b (fun k => { k with inflow := rest })).bankAccept b a else s

/-- The data words of a packet. -/
def packetWord (k : Packet) (i : Nat) : W128 := (k.data[i]?).getD 0

/-- Byte enables of a write: of the one word, or every byte of more words (R400). -/
def packetEnables (k : Packet) : Nat := if k.len.val = 0 then k.byteEn.toNat else 65535

/-- Whether the seal that data flit i of a packet carries checks (R18, R23). -/
def packetSealed (k : Packet) (i : Nat) : Bool := k.seals[i]? == some (sealOf (packetWord k i))

/-- Whom a bank counts a node as (R137, R139): a partition's far command comes from its bunch's bank node, with the bunch as
TAG; the debug quay is exempt. -/
def State.requesterOf (s : State) (src tag : Nat) : Requester :=
  if src < 8 then
    match s.holderOf tag with
    | some p => ⟨1, p, src, false⟩
    | none => ⟨0, 0, src, false⟩
  else if src < 12 then ⟨4, 0, src, false⟩
  else if src < 28 then ⟨2, src - 12, src, false⟩
  else if src < 32 then ⟨3, src - 28, src, false⟩
  else if src = 34 then ⟨4, 0, src, false⟩
  else if src = 38 then ⟨5, 0, src, false⟩
  else ⟨0, 0, src, src == 41⟩

/-- The access of a packet at a memory with a queue, from its first word (R133). -/
def State.accessOf (s : State) (k : Packet) (win word : Nat) : BankAcc :=
  { who := s.requesterOf k.src.val k.tag.val, op := k.op.val, win := win, word := word, be := packetEnables k, data := packetWord k 0
    tag := k.tag.val, addr := k.addr.toNat / 16 * 16, more := k.len.val, rest := k.data.tail
    spoilt := k.op.val == 1 && !packetSealed k 0
    restSpoilt := (List.range k.len.val).map (fun i => k.op.val == 1 && !packetSealed k (i + 1)) }

/-- The access of a packet at its bank (R125, R134). -/
def State.bankAccessOf (s : State) (k : Packet) : BankAcc :=
  s.accessOf k (k.addr.toNat / 0x10000000 - 16) (k.addr.toNat % 0x400000 / 16)

/-- Whether the quay of a bank node can hand a packet to its bank: the bank has room (R132), and no access of the same sender
waits in another bank of the node (R400: packets of one sender to one node are performed in order). -/
def State.bankTakes (s : State) (k : Packet) : Bool :=
  let b := bankOfAddress k.addr.toNat
  s.bankRoom b (s.bankAccessOf k) && (s.bank b).inflow.isEmpty &&
    (List.range 8).all (fun j => 8 * (b / 8) + j == b ||
      ((s.bank (8 * (b / 8) + j)).queue ++ (s.bank (8 * (b / 8) + j)).inflow).all (fun x => x.who.node != k.src.val))

/-- The request packets that the quay of a bank node holds (R132, R402). -/
def State.heldPackets (s : State) (node : Nat) : List Packet := SMap.get [] s.nocHeld node

/-- A packet reaches the quay of a bank node: it is taken, or held behind those that wait (R132). -/
def State.bankArrive (s : State) (k : Packet) : State :=
  let b := bankOfAddress k.addr.toNat
  let q := s.heldPackets (b / 8)
  if q.isEmpty && s.bankTakes k then s.bankAccept b (s.bankAccessOf k)
  else { s with nocHeld := SMap.set [] s.nocHeld (b / 8) (q ++ [k]) }

/-- The quay of a bank node hands on the packets it holds, in order, while their banks take them (R132); at most `n`. -/
def State.quayDrain (s : State) (node : Nat) : Nat → State
  | 0 => s
  | n + 1 =>
    match s.heldPackets node with
    | [] => s
    | k :: rest =>
      if s.bankTakes k then
        (({ s with nocHeld := SMap.set [] s.nocHeld node rest }).bankAccept (bankOfAddress k.addr.toNat)
          (s.bankAccessOf k)).quayDrain node n
      else s

/-- The flits that a quay's request channel holds unaccepted: of each packet its header and its data flits (R400, R402). -/
def State.heldFlits (s : State) (node : Nat) : Nat := ((s.heldPackets node).map (fun k => 1 + k.data.length)).sum

/-- The flits buffered at the input of a quay's request channel, at most 4 (R402). -/
def State.bufferedFlits (s : State) (node : Nat) : Nat := min 4 (s.heldFlits node)

/-- The credits that the sender to a quay's request channel holds: between commands no flit and no credit is in flight, and the
sum of R402 is 4. -/
def State.linkCredits (s : State) (node : Nat) : Nat := 4 - s.bufferedFlits node

/-- Work of higher priority waits for a bank's NoC slot (R131): above an ECC write-back a journal write and an access that may
be performed, and above the tester a write-back too. -/
def State.slotTaken (s : State) (b : Nat) (tester : Bool) : Bool :=
  !(s.bank b).jwrites.isEmpty || (s.nextAccess b).isSome || (tester && !(s.bank b).writebacks.isEmpty)

/-- BANK_NOC_ACCESS: the next queued access takes the NoC slot, unless a journal write is waiting for it (R131). Room that it
leaves is taken up (R132). -/
def doBankNocAccess (b : Nat) (u : List Upset) (s : State) : State :=
  let s := s.upset u
  if !(s.bank b).jwrites.isEmpty then s
  else
    match s.nextAccess b with
    | none => s
    | some a =>
      let s1 := ((s.modBank b (fun k => { k with queue := removeAccess a k.queue })).bankPerform b a).bankAdmit b
      s1.quayDrain (b / 8) (s1.heldPackets (b / 8)).length

/-- The oldest access that a bank has accepted from the old owner of a handover is performed (R142). -/
def State.settleOne (s : State) (b : Nat) : State :=
  match (s.bank b).queue.find? (fun a => a.old && !a.who.exempt) with
  | some a => (s.modBank b (fun k => { k with queue := removeAccess a k.queue })).bankPerform b a
  | none => s

/-- Every access that a bank has accepted from the old owner is performed: what an access of the new owner waits for (R142). -/
def State.settleOld (s : State) (b : Nat) : State := (List.range (s.bankLoad b)).foldl (fun s _ => s.settleOne b) s

/-- A block of the device accesses a word of a bank through its NoC port in one command: whether the bank lets it, after the wait
of a handover's new owner (R142); refused and recorded as a non-owner or late (R138, R144), or as a write into the journal region
(R158). -/
def State.directAccess (s : State) (b w : Nat) (r : Requester) (write : Bool) : Bool × State :=
  match s.berthCheck b r with
  | 2 => (false, s.refuseOwner b r (bankAddress b w))
  | 3 => (false, s.refuseLate b r (bankAddress b w))
  | c =>
    let s1 := if c = 1 then s.settleOld b else s
    if write && !r.exempt && s1.inJournal b w then (false, s1.refuseOwner b r (bankAddress b w)) else (true, s1)

/-- BANK_NOC_ACCESS (R131). -/
def execBankNocAccess (b : Fin 64) (u : List Upset) (s : State) : Host.Outcome State Fault Refusal :=
  .next (doBankNocAccess b u s)

/-- ECC_WRITEBACK: the oldest corrected word is written back in a slot with no other work, not journalled, not counted (R127,
R131). -/
def doEccWriteback (b : Nat) (s : State) : State :=
  match (s.bank b).writebacks with
  | [] => s
  | w :: rest =>
    if s.slotTaken b false then s
    else
    let s1 := s.modBank b (fun k => { k with writebacks := rest })
    let (v, e) := s1.bankWord b w
    if e = 1 then s1.setBankWord b w v 0 else s1

/-- ECC_WRITEBACK (R127). -/
def execEccWriteback (b : Fin 64) (s : State) : Host.Outcome State Fault Refusal := .next (doEccWriteback b s)

/-- Whether KIND and ID name an owner (R137). -/
def ownerValid (kind id : Nat) : Bool :=
  match kind with
  | 0 => id == 0 | 1 => decide (id < 64) | 2 => decide (id < 16) | 3 => decide (id < 4) | 4 => id == 0 | 5 => id == 0
  | _ => false

/-- BERTH_WRITE: a handover to the new owner begins, completes at once, or is refused (R141, R142). -/
def doBerthWrite (a : Accessor) (b : Nat) (v : W32) (s : State) : State :=
  let kind := bitsOf v.toNat 0 3
  let id := bitsOf v.toNat 8 6
  if !ownerValid kind id || s.on R.DMB_STATUS.HANDOVER b then
    (s.errReg a .dmb b 0x40 4).respond a true 0
  else if s.berthIs b kind id then (s.raise .dmb b 0).respond a true 0
  else
    let s1 := (s.wr R.DMB_BERTH_PREV.KIND b (s.rd R.DMB_BERTH.KIND b)).wr R.DMB_BERTH_PREV.ID b
      (s.rd R.DMB_BERTH.ID b)
    let s2 := (s1.wr R.DMB_BERTH.KIND b kind).wr R.DMB_BERTH.ID b id
    let s3 := s2.modBank b (fun k => { k with queue := k.queue.map (fun x => { x with old := true }) })
    ((s3.wr R.DMB_STATUS.HANDOVER b 1).dropBankReservations b).respond a true 0

/-- A mapping is entered without the tester (R154): whether the spare is in use follows. -/
def State.setRepair (s : State) (b k row valid : Nat) : State :=
  let was := s.on (R.DMB_REPAIR.VALID k) b || s.on (R.DMB_REPAIR.WITHDRAWN k) b
  let s1 := ((s.wr (R.DMB_REPAIR.ROW k) b row).wr (R.DMB_REPAIR.VALID k) b valid).wr (R.DMB_REPAIR.TESTER k) b 0
  let now := s1.on (R.DMB_REPAIR.VALID k) b || s1.on (R.DMB_REPAIR.WITHDRAWN k) b
  s1.wr R.DMB_STATUS.SPARES_USED b (s1.rd R.DMB_STATUS.SPARES_USED b + b2n now - b2n was)

/-- The permanent record of a row repair: the spare, whether it is in use, and the row (R268). -/
def State.logRepair (s : State) (b k row valid : Nat) : State := s.logEvent 0x12 b 3 evRowRepair (k + 32 * valid) row

/-- REPAIR_ENTRY_WRITE: accepted only while the bank is berthed to None (R154). A repair leaves a permanent record (R268). -/
def doRepairEntryWrite (a : Accessor) (b k : Nat) (v : W32) (s : State) : State :=
  if s.berthNames b 0 0 then
    let row := bitsOf v.toNat 0 15
    let valid := bitOf v.toNat 16
    let same := s.rd (R.DMB_REPAIR.ROW k) b == row && s.rd (R.DMB_REPAIR.VALID k) b == valid
    let s1 := s.setRepair b k row valid
    (if same then s1 else s1.logRepair b k row valid).respond a true 0
  else (s.errReg a .dmb b (0x80 + 4 * k) 4).respond a true 0

/-! ## The background tester -/

/-- The word of a March operation and what it writes: `none` for a read (R148). Operation `i` of 10n over n words. -/
def marchOp (n i : Nat) : Nat × Option Bool :=
  if i < n then (i, some false)
  else if i < 3 * n then ((i - n) / 2, if (i - n) % 2 = 1 then some true else none)
  else if i < 5 * n then ((i - 3 * n) / 2, if (i - 3 * n) % 2 = 1 then some false else none)
  else if i < 7 * n then (n - 1 - (i - 5 * n) / 2, if (i - 5 * n) % 2 = 1 then some true else none)
  else if i < 9 * n then (n - 1 - (i - 7 * n) / 2, if (i - 7 * n) % 2 = 1 then some false else none)
  else ((i - 9 * n) % n, none)

/-- The 128 data bits of a March pattern, and what its 153 bits report when they are read (R148). -/
def marchWord (one : Bool) : W128 × Nat := (if one then BitVec.allOnes 128 else 0, (Config.marchCheck one).val)

/-- Write a March pattern to a word of a spare row. -/
def State.setSpare (s : State) (b k w : Nat) (one : Bool) : State :=
  let key := bankKey b (bankWords + k * 8 + w)
  { s with dmem := SMap.set 0 s.dmem key (marchWord one).1 }.setEcc clsBank key (marchWord one).2

/-- Whether spare row k is free to be assigned (R152). -/
def State.spareFree (s : State) (b k : Nat) : Bool :=
  !s.on (R.DMB_REPAIR.VALID k) b && !s.on (R.DMB_REPAIR.WITHDRAWN k) b

/-- Set the tester's phase, which `DMB_STATUS` and `DMB_TEST_POS` report. -/
def State.testPhase (s : State) (b phase region : Nat) : State :=
  ((s.modBank b (fun k => { k with tester := { k.tester with phase := phase, pos := 0, region := region } })).wr
    R.DMB_STATUS.TEST_PHASE b phase).wr R.DMB_TEST_POS.REGION b region

/-- One operation of the Repair phase (R152, R153): the March has stopped at its first failing read, and a failing row that a
spare row stands for withdraws that spare (DESIGN CHOICE, log entry 209: R152 does not say when the repair begins nor what
becomes of the failing spare). -/
def testRepair (b row : Nat) (s : State) : State :=
  let t := (s.bank b).tester
  match (List.range 16).find? (fun k => s.spareFree b k) with
  | some k =>
    let s1 :=
      match s.spareFor b row with
      | some j => (s.wr (R.DMB_REPAIR.VALID j) b 0).wr (R.DMB_REPAIR.WITHDRAWN j) b 1
      | none => s
    let s2 := ((s1.wr (R.DMB_REPAIR.ROW k) b row).wr (R.DMB_REPAIR.VALID k) b 1).wr (R.DMB_REPAIR.TESTER k) b 1
    ((s2.wr R.DMB_STATUS.SPARES_USED b (s2.rd R.DMB_STATUS.SPARES_USED b + 1)).modBank b (fun k =>
      { k with tester := { k.tester with failRow := none, fixed := insertAsc row k.tester.fixed } })).testPhase b 2 t.region
  | none =>
    ((((s.wr R.DMB_STATUS.REPAIR_EXHAUSTED b 1).raise .dmb b 6).logEvent 0x12 b openClass evRepairOut row 0).modBank b
      (fun k => { k with tester := { k.tester with failRow := none } })).testPhase b 3 t.region

/-- The phase in which the tester takes up a region: the spare rows follow region 4,095 (R148). -/
def testerStart (region : Nat) : Nat := if region = 4096 then 5 else 1

/-- The end of a region's Restore (R148, R151, R152): every row repaired in it is reported, and the next region begins unless
the tester is switched off. Switched off at the end of region 4,095, it goes on with the spare rows when it is switched on
again (DEDUCED, log entry 210). -/
def testRegionEnd (b : Nat) (s : State) : State :=
  let t := (s.bank b).tester
  let s1 := t.fixed.foldl (fun s row => (s.raise .dmb b 5).logRepair b ((s.spareFor b row).getD 0) row 1) s
  let s2 := s1.modBank b (fun k => { k with tester := { k.tester with held := [], heldEcc := [], failRow := none, fixed := [] } })
  s2.testPhase b (if s2.on R.DMB_CTRL.TEST_EN b then testerStart (t.region + 1) else 0) (t.region + 1)

/-- The end of a pass (R148). -/
def testPassEnd (b : Nat) (s : State) : State :=
  ((s.count R.DMB_TEST_PASSES.COUNT b 1).raise .dmb b 8).testPhase b
    (if s.on R.DMB_CTRL.TEST_EN b then 1 else 0) 0

/-- Advance the tester's operation number. -/
def State.testNext (s : State) (b : Nat) : State :=
  s.modBank b (fun k => { k with tester := { k.tester with pos := k.tester.pos + 1 } })

/-- One operation of the running phase (R148). `fails`: the read of this operation differs from the expected value. -/
def testOp (b : Nat) (fails : Bool) (s : State) : State :=
  let t := (s.bank b).tester
  match t.phase with
  | 1 =>
    let (v, e) := s.arrayWord b (t.region * 64 + t.pos)
    let s1 := (s.modBank b (fun k => { k with tester := { k.tester with
      held := SMap.set 0 k.tester.held t.pos v, heldEcc := SMap.set 0 k.tester.heldEcc t.pos e } })).testNext b
    if t.pos = 63 then s1.testPhase b 2 t.region else s1
  | 2 =>
    let (w, wr) := marchOp 64 t.pos
    let s1 :=
      match wr with
      | some one => s.setArray b (t.region * 64 + w) (marchWord one).1 (marchWord one).2
      | none => s
    if wr = none ∧ fails then
      (s1.modBank b (fun k => { k with tester := { k.tester with
        failRow := some ((t.region * 64 + w) / 8) } })).testPhase b 4 t.region
    else if t.pos = 639 then s1.testPhase b 3 t.region
    else s1.testNext b
  | 3 =>
    let s1 := (s.setArray b (t.region * 64 + t.pos) (SMap.get 0 t.held t.pos) (SMap.get 0 t.heldEcc t.pos)).testNext b
    if t.pos = 63 then testRegionEnd b s1 else s1
  | 4 =>
    match t.failRow with
    | some row => testRepair b row s
    | none => s.testPhase b 3 t.region
  | 5 =>
    let k := t.pos / 80
    let (w, wr) := marchOp 8 (t.pos % 80)
    let s1 :=
      match wr with
      | some one => s.setSpare b k w one
      | none =>
        if fails && s.spareFree b k && decide (k < 16) then
          (s.wr (R.DMB_REPAIR.WITHDRAWN k) b 1).wr R.DMB_STATUS.SPARES_USED b (s.rd R.DMB_STATUS.SPARES_USED b + 1)
        else s
    if 1279 ≤ t.pos then testPassEnd b s1 else s1.testNext b
  | _ => s

/-- In phase 5 the rows in use are not marched (R148): go to the next unused one. -/
def skipUsed (b : Nat) (s : State) : Nat → State
  | 0 => s
  | n + 1 =>
    let t := (s.bank b).tester
    if t.phase = 5 ∧ t.pos % 80 = 0 ∧ t.pos < 1280 ∧ !s.spareFree b (t.pos / 80) then
      skipUsed b (s.modBank b (fun k => { k with tester := { k.tester with pos := t.pos + 80 } })) n
    else s

/-- One operation of a running tester (R148): the spare rows in use are passed over. -/
def testerRun (b : Nat) (fails : Bool) (s : State) : State :=
  let s1 := skipUsed b s 16
  if (s1.bank b).tester.phase = 5 ∧ 1280 ≤ (s1.bank b).tester.pos then testPassEnd b s1 else testOp b fails s1

/-- TESTER_OPERATION: one operation in a NoC slot with no other work; an idle tester that is switched on begins with the next
region (R131, R148, R151). -/
def doTesterOperation (b : Nat) (fails : Bool) (s : State) : State :=
  let t := (s.bank b).tester
  if s.slotTaken b true then s
  else if t.phase = 0 then
    if s.on R.DMB_CTRL.TEST_EN b then testerRun b fails (s.testPhase b (testerStart t.region) t.region) else s
  else testerRun b fails s

/-- TESTER_OPERATION (R148). -/
def execTesterOperation (b : Fin 64) (fails : Bool) (s : State) : Host.Outcome State Fault Refusal :=
  .next (doTesterOperation b fails s)

end Sys2Proof.Machine
end

