-- ==== Sys2Proof/Machine/Operands.lean ====
section
/-! DEFINITION. Machine/Operands.lean: the orchard's numbering and addressing (R34 to R38, R72, R73), the fields of a pip
instruction (R40, R43), and the value every operand class returns at a step (R44, R55). -/

namespace Sys2Proof.Machine
open Sys2Proof

/-! ## Numbering and spares -/

/-- The entries of a store with keys from `lo` up to but not including `hi`. -/
def SMap.range {α : Type} (m : SMap α) (lo hi : Nat) : List (Nat × α) :=
  m.filter (fun e => decide (lo ≤ e.1) && decide (e.1 < hi))

/-- Depth D of a partition (R81). -/
def State.depth (s : State) (p : Nat) : Nat := 8 * (s.rd R.PRT_CTRL.DEPTH p + 1)

/-- The physical bunch that serves a logical bunch; 64 is the spare bunch (R73). -/
def State.physBunch (s : State) (n : Nat) : Nat :=
  if s.on R.ORC_BUNCH_REMAP.EN 0 && s.rd R.ORC_BUNCH_REMAP.BUNCH 0 == n then 64 else n

/-- The physical berry that serves a logical berry; 16 is the spare berry (R72, R75). -/
def State.physBerry (s : State) (n b : Nat) : Nat :=
  let q := s.physBunch n
  if s.on R.ORC_BERRY_REMAP.EN q && s.rd R.ORC_BERRY_REMAP.BERRY q == b then 16 else b

/-- The key of an instruction word (R37): physical bunch and berry, step, pip. -/
def isKey (q c st i : Nat) : Nat := 64 * (1024 * (q * 17 + c) + st) + i

/-- The key of a step-store row (R38): physical bunch and berry, row. -/
def rowKey (q c r : Nat) : Nat := 1024 * (q * 17 + c) + r

/-- The key of a logical instruction. -/
def State.isAt (s : State) (n b st i : Nat) : Nat := isKey (s.physBunch n) (s.physBerry n b) st i

/-- The key of a logical row. -/
def State.rowAt (s : State) (n b r : Nat) : Nat := rowKey (s.physBunch n) (s.physBerry n b) r

/-- What an instruction word that nothing has written reads as: the idle instruction (R542; log entry 11). -/
def idleWord : W128 := 0x00000003000000000000000000000000#128

/-- The global pip number (R35). -/
def globalPip (n b i : Nat) : Nat := 1024 * n + 64 * b + i

/-! ## The pip instruction (R40, R43) -/

/-- TT. -/
def pipTT (w : W128) : Nat := bitsOf w.toNat 0 16
/-- Operand field k: A, B, C, D for 0 to 3. -/
def pipOp (w : W128) (k : Nat) : Nat := bitsOf w.toNat (16 + 20 * k) 20
/-- WMODE. -/
def pipWmode (w : W128) : Nat := bitsOf w.toNat 96 2
/-- DCLASS. -/
def pipDclass (w : W128) : Nat := bitsOf w.toNat 98 3
/-- DIDX. -/
def pipDidx (w : W128) : Nat := bitsOf w.toNat 101 13
/-- BRK. -/
def pipBrk (w : W128) : Nat := bitOf w.toNat 114
/-- Class of an operand field. -/
def opClass (f : Nat) : Nat := f % 8
/-- Class address of an operand field. -/
def opAddr (f : Nat) : Nat := bitsOf f 3 16

/-- The instructions a partition's pips hold for a step, other than idle ones, in ascending global pip order. -/
def State.fetch (s : State) (p st : Nat) : List (Nat × W128) :=
  (s.bunches p).flatMap fun n =>
    (List.range 16).flatMap fun b =>
      let base := s.isAt n b st 0
      (s.istore.range base (base + 64)).map fun e => (globalPip n b (e.1 - base), e.2)

/-! ## Doors of a partition -/

/-- Index of a net-map entry (R212). -/
def netIndex (dir port st slot : Nat) : Nat := 32768 * dir + 8192 * port + 8 * st + slot

/-- A net-map entry. -/
def State.netEntry (s : State) (dir port st slot : Nat) : Nat :=
  (SMap.get 0 s.netmap (netIndex dir port st slot)).toNat

/-- Whether a net-map entry assigns its slot to a partition (R214). -/
def entryOf (e p : Nat) : Bool := bitOf e 0 == 1 && bitsOf e 1 6 == p

/-- Key of an exchange buffer (R98): core, register, half (0 model-to-orchard, 1 orchard-to-model), buffer. -/
def exchKey (core reg half buf : Nat) : Nat := ((core * 64 + reg) * 2 + half) * 2 + buf

/-- The exchange window of a partition: core, base, count (R97). -/
def State.window (s : State) (p : Nat) : Nat × Nat × Nat :=
  (s.rd R.PRT_EXCH.CORE p, s.rd R.PRT_EXCH.BASE p, s.rd R.PRT_EXCH.COUNT p)

/-- The value of an exchange buffer. -/
def State.exchBuf (s : State) (core reg half buf : Nat) : W128 := SMap.get 0 s.exch (exchKey core reg half buf)

/-- Set an exchange buffer. -/
def State.setExch (s : State) (core reg half buf : Nat) (v : W128) : State :=
  { s with exch := SMap.set 0 s.exch (exchKey core reg half buf) v }

/-- The bunch of `l` that corresponds to bunch `n` of `m` (R245): the one of the same rank. -/
def State.corresponds (s : State) (m l n : Nat) : Nat :=
  if m = l then n
  else
    match (s.bunches l)[(s.bunches m).findIdx (fun x => x == n)]? with
    | some x => x
    | none => n

/-- The neighbour of a bunch in a direction: 0 north, 1 east, 2 south, 3 west (R34). -/
def neighbour (n dir : Nat) : Option Nat :=
  match dir with
  | 0 => if 8 ≤ n then some (n - 8) else none
  | 1 => if n % 8 < 7 then some (n + 1) else none
  | 2 => if n < 56 then some (n + 8) else none
  | _ => if 0 < n % 8 then some (n - 1) else none

/-- The channel berry of the neighbour in a direction that faces the reader (R59). -/
def facingBerry (dir : Nat) : Nat :=
  match dir with
  | 0 => 14 | 1 => 15 | 2 => 12 | _ => 13

/-- The model-to-orchard words a partition reads in this cycle: from the log while it replays logged cycles (R254),
else from the window's buffer of its phase (R98). -/
def State.exchIn (s : State) (l r : Nat) : W128 :=
  let (core, base, _) := s.window l
  match (s.part l).replay with
  | some _ => SMap.get (s.exchBuf core (base + r) 0 (s.rd R.PRT_STATUS.XPHASE l)) s.replayExch (l * 64 + r)
  | none => s.exchBuf core (base + r) 0 (s.rd R.PRT_STATUS.XPHASE l)

/-! ## Operands (R44, R55) -/

/-- The value of an operand field of a pip of berry b of bunch n, in member m of the partition or group led by l. -/
def State.operand (s : State) (m l n b f : Nat) : Nat :=
  let a := opAddr f
  match opClass f with
  | 0 => a % 2
  | 1 => b2n ((SMap.get 0 s.rows (s.rowAt n b (a % 1024))).getLsbD (a / 1024))
  | 2 => b2n ((SMap.get 0 s.lanes n).getLsbD (a % 1024))
  | 3 => b2n ((SMap.get 0 s.chans (n * 4 + bitsOf a 6 2)).getLsbD (a % 64))
  | 4 => b2n ((SMap.get 0 s.rdata n).getLsbD (a % 128))
  | 5 => b2n ((s.exchIn l (bitsOf a 7 6)).getLsbD (a % 128))
  | 6 => b2n ((SMap.get 0 s.rxSlots (bitsOf a 8 2 * 8 + bitsOf a 5 3)).getLsbD (a % 32))
  | _ => b2n ((SMap.get 0 s.fabCap (s.corresponds m l n)).getLsbD (a % 64))

/-- The index the four operands form (R42). -/
def State.pipIndex (s : State) (m l n b : Nat) (w : W128) : Nat :=
  s.operand m l n b (pipOp w 0) + 2 * s.operand m l n b (pipOp w 1) + 4 * s.operand m l n b (pipOp w 2) +
    8 * s.operand m l n b (pipOp w 3)

/-- What a pip does at a step: its number, its instruction, its result (R42), and whether its row bit is written (R48). -/
structure PipResult where
  pip    : Nat
  word   : W128
  result : Nat
  write  : Bool
  deriving DecidableEq, Repr

/-- The result of one pip (R42, R48). -/
def State.pipResult (s : State) (m l : Nat) (x : Nat × W128) : PipResult :=
  let n := x.1 / 1024
  let b := x.1 / 64 % 16
  let d := s.operand m l n b (pipOp x.2 3)
  { pip := x.1
    word := x.2
    result := bitOf (pipTT x.2) (s.pipIndex m l n b x.2)
    write := match pipWmode x.2 with
      | 0 => true
      | 1 => d == 1
      | 2 => d == 0
      | _ => false }

/-! ## Checks made at fetch (R70, R71) -/

/-- The class 001 operands of an instruction: their row indices, in the order A, B, C, D. -/
def rowOperands (w : W128) : List Nat :=
  ((List.range 4).filter (fun k => opClass (pipOp w k) == 1)).map (fun k => opAddr (pipOp w k))

/-- The pip that holds the 33rd operand naming one bank of a berry, counting from `seen` (R71, check 2). -/
def overBank (bank : Nat) : List (Nat × W128) → Nat → Option Nat
  | [], _ => none
  | x :: r, seen =>
    let now := seen + ((rowOperands x.2).filter (fun a => a % 8 == bank)).length
    if 32 < now then some x.1 else overBank bank r now

/-- The lowest of the pips found. -/
def lowestPip : List (Option Nat) → Option Nat
  | [] => none
  | none :: r => lowestPip r
  | some a :: r =>
    match lowestPip r with
    | none => some a
    | some b => some (min a b)

/-- Whether an instruction fails the isolation check at a step (R60, R70 check 4, R214). -/
def State.failsIsolation (s : State) (p st : Nat) (x : Nat × W128) : Bool :=
  let n := x.1 / 1024
  let chan := (List.range 4).any fun k =>
    let f := pipOp x.2 k
    opClass f == 3 &&
      match neighbour n (bitsOf (opAddr f) 6 2) with
      | none => true
      | some q => !(s.bunches p).contains q
  let rx := (List.range 4).any fun k =>
    let f := pipOp x.2 k
    opClass f == 6 && !entryOf (s.netEntry 1 (bitsOf (opAddr f) 8 2) st (bitsOf (opAddr f) 5 3)) p
  let tx := pipDclass x.2 == 2 &&
    !entryOf (s.netEntry 0 (bitsOf (pipDidx x.2) 8 2) st (bitsOf (pipDidx x.2) 5 3)) p
  chan || rx || tx

/-- Whether an instruction names an exchange register beyond the window (R70 check 5). -/
def failsExchange (count : Nat) (w : W128) : Bool :=
  (List.range 4).any (fun k => opClass (pipOp w k) == 5 && decide (count ≤ bitsOf (opAddr (pipOp w k)) 7 6)) ||
    (pipDclass w == 3 && decide (count ≤ bitsOf (pipDidx w) 7 6))

/-- The second DCLASS 110 instruction of a bunch (R70 check 3). -/
def secondCommand (l : List (Nat × W128)) (n : Nat) : Option Nat :=
  (((l.filter (fun x => x.1 / 1024 == n && pipDclass x.2 == 6)).map (fun x => x.1))[1]?)

/-- The failing check of a step and its pip, the first check of R70 that fails and its lowest pip (R71). `l` is the
lead whose window check 5 uses (R245). -/
def State.fetchCheck (s : State) (p l st : Nat) : Option (Nat × Nat) :=
  let is := s.fetch p st
  let d := s.depth p
  let c1 := (is.find? (fun x => (rowOperands x.2).any (fun a => decide (d ≤ a % 1024)))).map (fun x => x.1)
  let c2 := lowestPip ((s.bunches p).flatMap fun n => (List.range 16).flatMap fun b =>
    (List.range 8).map fun k => overBank k (is.filter (fun x => x.1 / 64 == n * 16 + b)) 0)
  let c3 := lowestPip ((s.bunches p).map (secondCommand is))
  let c4 := (is.find? (fun x => s.failsIsolation p st x)).map (fun x => x.1)
  let c5 := (is.find? (fun x => failsExchange (s.window l).2.2 x.2)).map (fun x => x.1)
  match c1, c2, c3, c4, c5 with
  | some x, _, _, _, _ => some (1, x)
  | none, some x, _, _, _ => some (2, x)
  | none, none, some x, _, _ => some (3, x)
  | none, none, none, some x, _ => some (4, x)
  | none, none, none, none, some x => some (5, x)
  | none, none, none, none, none => none

end Sys2Proof.Machine
end

