-- ==== Sys2Proof/Machine/Ledger.lean ====
section
/-! DEFINITION. Machine/Ledger.lean: the state of a partition and of its group, the stall ledger (R110 to R113), missed
releases and the time break (R86 to R89). -/

namespace Sys2Proof.Machine
open Sys2Proof

/-! ## Groups (R244) -/

/-- The role of a partition in a group (R269). -/
def State.role (s : State) (p : Nat) : Nat := s.rd (R.RES_GROUP.ROLE p) 0

/-- Whether a partition is a non-lead member of a group. -/
def State.isFollower (s : State) (p : Nat) : Bool := s.role p == 2 || s.role p == 4

/-- Whether a partition leads a group. -/
def State.isLead (s : State) (p : Nat) : Bool := s.role p == 1 || s.role p == 3

/-- The followers of a lead, ascending (R244). -/
def State.followers (s : State) (l : Nat) : List Nat :=
  if s.isLead l then (List.range 64).filter (fun m => s.isFollower m && s.rd (R.RES_GROUP.LEAD m) 0 == l) else []

/-- The lead of the group a partition belongs to, itself where it belongs to none. -/
def State.leadOf (s : State) (p : Nat) : Nat := if s.isFollower p then s.rd (R.RES_GROUP.LEAD p) 0 else p

/-- All members of the group led by l, the lead first. -/
def State.members (s : State) (l : Nat) : List Nat := l :: s.followers l

/-- The members that are active (R248). -/
def State.activeMembers (s : State) (l : Nat) : List Nat :=
  (s.members l).filter (fun m => s.rd (R.RES_GROUP.MSTATE m) 0 == 0)

/-- The acting member (R246): the lowest-numbered active member with the lead first; once the role has left the lead it does
not move back to it while another member that may act is active (R249). -/
def State.actingOf (s : State) (l : Nat) : Nat :=
  let active := s.activeMembers l
  match (s.part l).acting with
  | some m => if m != l && active.contains m then (active.filter (fun x => x != l)).headD m else active.headD l
  | none => active.headD l

/-! ## Partition states (R102) -/

/-- STATE of a partition. -/
def State.pstate (s : State) (p : Nat) : Nat := s.rd R.PRT_STATUS.STATE p

/-- Set STATE of a partition and of every follower of it (R244). -/
def State.setState (s : State) (p v : Nat) : State :=
  (s.members p).foldl (fun s m => s.wr R.PRT_STATUS.STATE m v) s

/-- The programmed step frequency in MHz (R468). -/
def State.progMHz (s : State) : Nat := s.rd R.PWR_STEP.PROG_MHZ 0

/-- The step frequency the clock runs at, in MHz. -/
def State.curMHz (s : State) : Nat := s.rd R.PWR_STEP.CUR_MHZ 0

/-! ## Time break (R88, R89) -/

/-- The cycle number that a time break captures (R88). -/
def State.breakCycle (s : State) (p : Nat) : Nat :=
  let c := s.rd64 R.PRT_CYCLE_LO.COUNT R.PRT_CYCLE_HI.COUNT p
  if (s.part p).inCycle then c
  else if (s.part p).completed then c - 1
  else 2 ^ 64 - 1

/-- A missed release of a hard-time partition, or what R89 and R114 treat as one. -/
def State.timeBreak (s : State) (p : Nat) : State :=
  if s.on R.PRT_CTRL.HARD p && !s.on (intBit .prt 0) p then
    (s.wr64 R.PRT_BREAK_CYCLE_LO.COUNT R.PRT_BREAK_CYCLE_HI.COUNT p (s.breakCycle p)).raise .prt p 0
  else s

/-- What R89 asks of a free-running hard-time partition at the first tick of a stall, a freeze or a resumption. -/
def State.freeRunBreak (s : State) (p : Nat) : State :=
  if s.rd R.PRT_CTRL.REL_SRC p = 0 then s.timeBreak p else s

/-- A missed release: pending, or lost (R87). -/
def State.missRelease (s : State) (p : Nat) : State :=
  (((s.wr R.PRT_STATUS.PENDING p 1).count R.PRT_RELEASE_MISSED.COUNT p 1).raise .prt p 1).timeBreak p

/-! ## The stall ledger (R111 to R113) -/

/-- The lowest bit of a cause mask: the first cause of causes that begin together (R112). -/
def firstCause (mask : Nat) : Nat := (lowestOne mask 6 0).getD 0

/-- The ledger after a real stall with the given causes begins, or goes on, at time t. -/
def ledgerBegin (g : Ledger) (mask t : Nat) : Ledger :=
  match g.realFrom with
  | some _ => { g with causes := g.causes ||| mask }
  | none =>
    if g.isOpen then { g with causes := g.causes ||| mask, realFrom := some t }
    else { g with isOpen := true, causes := mask, first := firstCause mask, realFrom := some t }

/-- A partition would execute a step on this tick and does not (R111). The ledger does not change while it replays (R255). -/
def State.stallBegin (s : State) (p mask : Nat) : State :=
  if (s.part p).replay.isSome then s
  else
  let g := (s.part p).ledger
  let s1 := (s.modPart p (fun x => { x with ledger := ledgerBegin x.ledger mask s.now })).wr R.PRT_STATUS.STALLED p 1
  let s2 := if g.realFrom.isNone then s1.freeRunBreak p else s1
  if g.isOpen then s2 else s2.raise .prt p 2

/-- The duration of the stall the ledger holds, in ns: the measured durations and the throttle's lost time (R113). The spec
gives no rounding; the sum is rounded down to whole nanoseconds (DESIGN CHOICE, log entry 225). -/
def ledgerNs (g : Ledger) (progMHz : Nat) : Nat := (g.realAcc + g.lost / max progMHz 1) / 65536

/-- Book the stall the ledger holds (R112). -/
def State.book (s : State) (p : Nat) : State :=
  let g := (s.part p).ledger
  let ns := ledgerNs g s.progMHz
  let s1 := s.count R.PRT_STALL_COUNT.COUNT p 1
  let s2 := if s1.rd R.PRT_STALL_MAX.NS p < ns then s1.wrSat R.PRT_STALL_MAX.NS p ns else s1
  let s3 := s2.count R.PRT_STALL_TOTAL.NS p ns
  let s4 := s3.wr R.PRT_STALL_CAUSE.CAUSE p (s3.rd R.PRT_STALL_CAUSE.CAUSE p ||| g.causes)
  let s5 := (s4.wr R.PRT_STALL_LAST.CAUSE p g.first).wrSat R.PRT_STALL_LAST.DURATION p ns
  s5.modPart p (fun x => { x with ledger := {} })

/-- The partition executes its next step, or makes its boundary: a real stall ends (R111, R112). -/
def State.stallEnd (s : State) (p : Nat) : State :=
  match (s.part p).ledger.realFrom with
  | none => s
  | some t =>
    let s1 := (s.modPart p (fun x => { x with ledger := { x.ledger with
      realFrom := none, realAcc := x.ledger.realAcc + (s.now - t) } })).wr R.PRT_STATUS.STALLED p 0
    if (s1.part p).ledger.throttled then s1 else s1.book p

/-- The ledger of a partition that enters Fault: a stall in progress ends with no step executed and is not booked
(R111), while a throttle's share is booked at the throttle's end (R113). -/
def faultLedger (g : Ledger) : Ledger := if g.throttled then { g with realFrom := none } else {}

/-- A cause of R110 holds the partition from now on; it takes part in a stall that is in progress. -/
def State.hold (s : State) (p mask : Nat) : State :=
  s.modPart p (fun x => { x with
    waits := x.waits ||| mask
    ledger := if x.ledger.realFrom.isSome then { x.ledger with causes := x.ledger.causes ||| mask } else x.ledger })

/-- A cause of R110 no longer holds the partition. -/
def State.unhold (s : State) (p mask : Nat) : State :=
  s.modPart p (fun x => { x with waits := x.waits &&& (63 ^^^ mask) })

/-- The throttle begins for a partition: its share of the interval counts from now (R113). -/
def State.throttleBegin (s : State) (p : Nat) : State :=
  let g := (s.part p).ledger
  let s1 := s.modPart p (fun x => { x with ledger :=
    if x.ledger.isOpen then { x.ledger with causes := x.ledger.causes ||| 16, throttled := true }
    else { x.ledger with isOpen := true, causes := 16, first := 4, throttled := true } })
  if g.isOpen then s1 else (s1.freeRunBreak p).raise .prt p 2

/-- The throttle ends for a partition: the stall is booked unless a real stall goes on (R113). -/
def State.throttleEnd (s : State) (p : Nat) : State :=
  if (s.part p).ledger.throttled then
    let s1 := s.modPart p (fun x => { x with ledger := { x.ledger with throttled := false } })
    if (s1.part p).ledger.realFrom.isSome then s1 else s1.book p
  else s

/-- Causes of R110 as masks. -/
def causeFar : Nat := 1
/-- Berth wait. -/
def causeBerth : Nat := 2
/-- Cascade retry or data wait. -/
def causeCascade : Nat := 4
/-- Instruction refetch. -/
def causeRefetch : Nat := 8
/-- Thermal throttle. -/
def causeThrottle : Nat := 16
/-- Brown-out freeze. -/
def causeFreeze : Nat := 32

/-- Whether a RESUME order is on its way to its landing tick (R223). -/
def State.resumeDue (s : State) : Bool := s.cas.orders.any (fun o => o.kind == .resume)

/-- Whether the RESUME order lands within a number of ticks (R225). -/
def State.resumeWithin (s : State) (n : Nat) : Bool := s.cas.orders.any (fun o => o.kind == .resume && decide (o.left ≤ n))

/-- Whether the next step of a partition executes in the open: it does not replay, or its replay has reached the first step of
the failing cycle that has not executed before (R255, R257). -/
def State.stepLive (s : State) (p : Nat) : Bool :=
  match (s.part p).replay with
  | none => true
  | some r => !r.restoring && s.rd64 R.PRT_CYCLE_LO.COUNT R.PRT_CYCLE_HI.COUNT p == r.cf && decide (r.sf ≤ (s.part p).step)

/-- The causes that hold a partition now (R110). A freeze holds it. The steps that a partition owes the cascade unit begin as
many ticks before the RESUME order lands (R225). A replay is not held by the cascade before it reaches the steps that run in
the open (R257). -/
def State.holders (s : State) (p : Nat) : Nat :=
  let x := s.part p
  let own := x.waits &&& (63 ^^^ causeCascade)
  if s.pstate p = 6 then x.waits ||| causeFreeze
  else if !s.stepLive p then own
  else if x.deficit ≠ 0 then own ||| (if s.resumeWithin x.deficit then 0 else causeFreeze)
  else if x.replay.isSome ∧ s.cas.started ∧ s.cas.holdAt.isSome then x.waits ||| causeCascade
  else x.waits

end Sys2Proof.Machine
end

