-- ==== Sys2Proof/Machine/AcqClock.lean ====
section
/-! DEFINITION. Machine/AcqClock.lean: the probe bits a unit sees (R69, R117) and its sample clock (R411 to R415): the samples
that executed steps and cycle boundaries give, the blocks that hold them, and their closing (R417). -/

namespace Sys2Proof.Machine
open Sys2Proof

/-- The probe bits of a unit that the image of a partition writes (R117): DCLASS 111 destinations of its steps. -/
def State.imageProbes (s : State) (p u : Nat) : List Nat :=
  ((List.range (s.depth p)).flatMap (fun st => (s.fetch p st).filterMap (fun x =>
    if pipDclass x.2 = 7 ∧ bitsOf (pipDidx x.2) 7 2 = u then some (pipDidx x.2 % 128) else none))).eraseDups

/-- What an acquisition unit sees of its probe bits: forced while the partition that writes them is isolated with
PROBE 01 or 10 (R117). -/
def State.probeView (s : State) (u : Nat) : W128 :=
  (List.range 64).foldl (fun v p =>
    let sel := s.rd R.PRT_ISOLATE.PROBE p
    if s.on R.PRT_STATUS.ISOLATED p && decide (sel = 1 ∨ sel = 2) then
      (s.imageProbes p u).foldl (fun v i => BitVec.ofNat 128 (setBit v.toNat i (b2n (sel == 2)))) v
    else v) (SMap.get 0 s.probes u)

/-! ## Units -/

/-- An acquisition unit's own data. -/
def State.acq (s : State) (u : Nat) : Acq := SMap.get {} s.acqs u

/-- Change an acquisition unit's own data. -/
def State.modAcq (s : State) (u : Nat) (f : Acq → Acq) : State := { s with acqs := SMap.set {} s.acqs u (f (s.acq u)) }

/-- STATE of a unit (R421). -/
def State.acqState (s : State) (u : Nat) : Nat := s.rd R.ACQ_STATUS.STATE u

/-- Whether a unit takes samples: Prefill, Armed or Triggered, and its capture has not ended (R421, R422). -/
def State.capturing (s : State) (u : Nat) : Bool :=
  (s.acqState u == 1 || s.acqState u == 2 || s.acqState u == 3) && !(s.acq u).ending

/-! ## Blocks (R417) -/

/-- The header of a block (R417). -/
def acqHeader (b : AcqBlock) (clk : Nat) : W128 :=
  let ns := b.time / 65536
  BitVec.ofNat 128 (b.seq % 2 ^ 48 + 2 ^ 48 * (2 ^ b.count - 1) + 2 ^ 63 * b2n b.trig.isSome +
    2 ^ 64 * b.trig.getD 0 + 2 ^ 68 * clk + 2 ^ 70 * b2n b.first + 2 ^ 80 * (ns % 1000000000) +
    2 ^ 112 * (ns / 1000000000 % 65536))

/-- The open block is closed: its header follows its samples (R417). -/
def State.closeBlock (s : State) (u : Nat) : State :=
  match (s.acq u).blk with
  | none => s
  | some b =>
    s.modAcq u (fun x => { x with
      blk := none, fifo := x.fifo ++ [⟨16 * b.block, acqHeader b (s.rd R.ACQ_CTRL.CLK_SRC u), false⟩] })

/-- A replay begins: the unit closes its open block and sets REPLAY, and its next block is a first one (R415, R417). -/
def State.replayMark (s : State) (u : Nat) : State :=
  ((s.closeBlock u).modAcq u (fun x => { x with gap := true })).raise .acq u 5

/-! ## The sample clock (R412, R413, R415) -/

/-- The units in Triggered or Done (R425). -/
def State.triggeredUnits (s : State) : List Nat := (List.range 4).filter (fun v => s.acqState v == 3 || s.acqState v == 4)

/-- A sample-clock event of a unit: every (DECIM + 1)-th is taken, from the first (R413). -/
def State.clockUnit (s : State) (u : Nat) (probe : W128) (seq : Option Nat) (others : List Nat) : State :=
  let x := s.acq u
  let n := match seq with
    | some v => v % 2 ^ 48
    | none => x.events % 2 ^ 48
  let s1 := s.modAcq u (fun y => { y with events := y.events + 1 })
  if x.events % (s.rd R.ACQ_CTRL.DECIM u + 1) = 0 then
    s1.modAcq u (fun y => { y with due := y.due ++ [some ⟨probe, n, s.now, y.pins, others⟩], pins := [] })
  else s1

/-- The units that sample on a partition with a clock source. -/
def State.samplersOf (s : State) (p src : Nat) : List Nat :=
  (List.range 4).filter (fun u => s.capturing u && s.rd R.ACQ_CTRL.CLK_SRC u == src && s.rd R.ACQ_CTRL.PART u == p)

/-- The event of an executed step (CLK_SRC 1) of a partition, or of a cycle boundary (CLK_SRC 0, the cycle in `seq`)
(R412). -/
def State.sampleClock (s : State) (p src : Nat) (seq : Option Nat) : State :=
  let others := s.triggeredUnits
  (s.samplersOf p src).foldl (fun s u => s.clockUnit u (s.probeView u) seq others) s

/-- A partition's replay begins: the units that sample on it close their blocks, after the samples that wait (R415). -/
def State.sampleReplay (s : State) (p : Nat) : State :=
  (s.samplersOf p 0 ++ s.samplersOf p 1).foldl (fun s u =>
    if (s.acq u).due.isEmpty then s.replayMark u
    else s.modAcq u (fun x => { x with due := x.due ++ [none] })) s

end Sys2Proof.Machine
end

