-- ==== Sys2Proof/Machine/CascadeNet.lean ====
section
/-! DEFINITION. Machine/CascadeNet.lean: the cascade unit (R110), deliveries and frames (R210, R213, R217, R218), the
reasons to drive HOLD_N low (R222, R224), and what a package sends. -/

namespace Sys2Proof.Machine
open Sys2Proof

/-! ## The unit -/

/-- Whether a partition belongs to the cascade unit: its release source is the cascade master, or its net map holds
slots (R110). -/
def State.inUnit (s : State) (p : Nat) : Bool :=
  s.rd R.PRT_BUNCHES_LO.MEMBER p + s.rd R.PRT_BUNCHES_HI.MEMBER p != 0 &&
    (s.rd R.PRT_CTRL.REL_SRC p == 3 || s.netmap.any (fun e => entryOf e.2.toNat p))

/-- The partitions of the unit in this package. -/
def State.unitParts (s : State) : List Nat := (List.range 64).filter (fun p => s.inUnit p)

/-- The last of the unit's partitions that take its steps (Armed, Running, Frozen, Halted): with its step the unit's step is
complete. -/
def State.isLastOfUnit (s : State) (p : Nat) : Bool :=
  (s.unitParts.filter (fun q => s.pstate q == 3 || s.pstate q == 4 || s.pstate q == 6 || s.pstate q == 8)).getLast? == some p

/-- The unit's partitions whose release source is the cascade master (R198). -/
def State.masterParts (s : State) : List Nat := s.unitParts.filter (fun p => s.rd R.PRT_CTRL.REL_SRC p == 3)

/-- The ports with an assigned net-map entry. -/
def State.netPort (s : State) (n : Nat) : Bool :=
  s.netmap.any (fun e => bitOf e.2.toNat 0 == 1 && e.1 / 8192 % 4 == n)

/-- Whether a port is in the tree (R195). -/
def State.treePort (s : State) (n : Nat) : Bool :=
  (s.on R.CAS_TREE.UP_VALID 0 && s.rd R.CAS_TREE.UP_PORT 0 == n) || bitOf (s.rd R.CAS_TREE.DOWN 0) n == 1

/-- Whether this package is the cascade master (R191). -/
def State.isMaster (s : State) : Bool := s.on R.CAS_STATUS.MASTER 0

/-- Executed steps of the unit (R196). -/
def State.casStep (s : State) : Nat := s.rd64 R.CAS_STEP_LO.COUNT R.CAS_STEP_HI.COUNT 0

/-- The depth the unit's partitions share (R198). -/
def State.unitDepth (s : State) : Nat :=
  match s.unitParts with
  | p :: _ => s.depth p
  | [] => 8

/-! ## HOLD_N and what the page shows (R222, R224, R230, R232) -/

/-- STATE of a port. -/
def State.portState (s : State) (n : Nat) : Nat := s.rd (R.CAS_P_STATUS.STATE n) 0

/-- LS of a port. -/
def State.portLs (s : State) (n : Nat) : Nat := s.rd (R.CAS_P_STATUS.LS n) 0

/-- Whether a port matters to the unit: it is in the tree or has assigned net-map entries (R207, R208, R224, R230). -/
def State.unitPort (s : State) (n : Nat) : Bool := s.treePort n || s.netPort n

/-- The value `CAS_STATUS.UNIT_STATE` shows (R232). -/
def State.unitState (s : State) : Nat :=
  if s.cas.started then
    if s.cas.failed || (List.range 4).any (fun n => s.unitPort n && s.portState n == 9) then 5
    else if s.rd R.DBG_STATUS.EMU 0 = 2 then 4
    else if s.cas.held then 3
    else 2
  else if s.cas.waiting then 1
  else 0

/-- Whether a partition lags the unit or replays, which keeps HOLD_N low: a package that resumes after a freeze until its
retention check has passed (R225), one that replays until the replay reaches the steps that run in the open (R257). -/
def State.lags (s : State) (p : Nat) : Bool :=
  s.pstate p == 6 || ((s.part p).deficit != 0 && (s.part p).replay.isNone && !s.dipPassed) || !s.stepLive p

/-- The reasons of R224, R227 and R231 to keep HOLD_N low. -/
def State.holdReasons (s : State) : Bool :=
  (List.range 4).any (fun n => s.unitPort n && (s.portState n == 9 || s.portState n == 10)) ||
  s.on R.CAS_CTRL.HOLD_FORCE 0 || s.unitParts.any (fun p => s.lags p) || s.cas.lateHold || s.cas.doneHold

/-- The conditions of R230 under which a package may release HOLD_N before START. -/
def State.mayRelease (s : State) : Bool :=
  s.on R.CAS_CTRL.JOIN 0 &&
  (List.range 4).all (fun n => !s.unitPort n || (s.portState n == 8 && s.portLs n == 0)) &&
  s.unitParts.all (fun p => s.pstate p == 3)

/-- Show UNIT_STATE as it now stands and, before START, HOLD_N: low until the conditions of R230 have held once, and after
that for a cause of R224 alone. After START the line changes on slot ticks alone (R222). -/
def State.showUnit (s : State) : State :=
  let s1 := s.wr R.CAS_STATUS.UNIT_STATE 0 s.unitState
  if s1.cas.started then s1
  else
    let free := s1.cas.released || s1.mayRelease
    (s1.modCas (fun c => { c with released := free })).wr R.CAS_STATUS.HOLD_OUT 0 (b2n (s1.holdReasons || !free))

/-! ## Ordered sets -/

/-- REPORT kind numbers of the model (R228 names the kinds and gives no numbers). -/
def reportNo : ReportKind → Nat
  | .tagFault => 0 | .stopReq => 1 | .haltReq => 2 | .throttleReq => 3 | .fault => 4

/-- ORDER kind numbers of the model (R228). -/
def orderNo : OrderKind → Nat
  | .start => 0 | .release => 1 | .resume => 2 | .stop => 3 | .halt => 4 | .unhalt => 5 | .stepfreq => 6

/-- A report of this package goes toward the master (R195, R211, R228); the master takes its own: a FAULT shows the unit as
failed (R232), and the other kinds are handled where they arise. A package without a port toward the master sends nothing. -/
def State.report (s : State) (kind : ReportKind) (arg : Nat) : State :=
  if s.isMaster then
    if kind = .fault then (s.modCas (fun c => { c with failed := true })).showUnit else s
  else if s.on R.CAS_TREE.UP_VALID 0 then
    s.emit (.ordered (s.rd R.CAS_TREE.UP_PORT 0) 0x21 (reportNo kind) (s.rd R.CAS_STATUS.ID 0) arg)
  else s

/-- Send an ORDER on every port that leads to children (R195). -/
def State.sendDown (s : State) (kind : OrderKind) (countdown arg : Nat) : State :=
  (onesOf 4 (s.rd R.CAS_TREE.DOWN 0)).foldl
    (fun s n => s.emit (.ordered n 0x20 (orderNo kind) countdown arg)) s

/-- The master issues an order: it sends it down the tree and applies it itself when the countdown ends (R194, R227). -/
def State.issueOrder (s : State) (kind : OrderKind) (countdown arg : Nat) : State :=
  (s.sendDown kind countdown arg).modCas (fun c => { c with orders := c.orders ++ [⟨kind, countdown, arg⟩] })

/-- Record a tag fault (R217): the first since the capture was rearmed, the interrupt, and the report. -/
def State.tagFault (s : State) (port slot st side : Nat) : State :=
  let s1 :=
    if s.on R.CAS_TAG_FAULT.VALID 0 then s
    else ((((s.wr R.CAS_TAG_FAULT.PORT 0 port).wr R.CAS_TAG_FAULT.SLOT 0 slot).wr R.CAS_TAG_FAULT.STEP 0 st).wr
      R.CAS_TAG_FAULT.SIDE 0 side).wr R.CAS_TAG_FAULT.VALID 0 1
  let s2 := s1.raise .cas 0 0
  if s2.isMaster then s2.modCas (fun c => { c with noRelease := true }) else s2.report .tagFault 0

/-! ## Deliveries (R213) -/

/-- A delivery the net map asks for at a step: port, slot and the entry. -/
def State.deliveries (s : State) (st : Nat) : List (Nat × Nat × Nat) :=
  (List.range 4).flatMap fun port => (List.range 8).filterMap fun slot =>
    let e := s.netEntry 1 port st slot
    if bitOf e 7 == 1 then some (port, slot, e) else none

/-- LAG of an entry. -/
def entryLag (e : Nat) : Nat := bitsOf e 12 8
/-- TAG of an entry. -/
def entryTag (e : Nat) : Nat := bitsOf e 8 4

/-- The frame of a port's receive buffer that carries executed step n. -/
def State.rxFrame (s : State) (port n : Nat) : Option Frame :=
  (s.port port).rx.find? (fun f => f.g == n / 8)

/-- Whether a delivery at executed step n is present, or has no source step (R213). -/
def State.present (s : State) (n : Nat) (d : Nat × Nat × Nat) : Bool :=
  decide (n < entryLag d.2.2) || (s.rxFrame d.1 (n - entryLag d.2.2)).isSome

/-- Whether every delivery of an executed step is present. -/
def State.stepReady (s : State) (n : Nat) : Bool :=
  (s.deliveries (n % s.unitDepth)).all (fun d => s.present n d)

/-- Slot bits of a step in a frame's payload (R210). -/
def frameSlot (f : Frame) (j slot : Nat) : BitVec 24 :=
  BitVec.ofNat 24 (bitsOf f.pay.toNat (192 * j + 24 * slot) 24)

/-- One delivery at executed step n, before the operands are read (R213, R217). -/
def State.deliver (s : State) (n st : Nat) (d : Nat × Nat × Nat) : State :=
  let (port, slot, e) := d
  let key := port * 8 + slot
  if n < entryLag e then { s with rxSlots := SMap.set 0 s.rxSlots key 0 }
  else
    match s.rxFrame port (n - entryLag e) with
    | none => s
    | some f =>
      if bitsOf f.tags.toNat (4 * slot) 4 = entryTag e then
        { s with rxSlots := SMap.set 0 s.rxSlots key (frameSlot f ((n - entryLag e) % 8) slot) }
      else s.tagFault port slot st 1

/-- The deliveries made with a partition's step: those of its own entries, and with the last of the unit's partitions those
that no partition is assigned, which ACTIVE alone asks for (R213, R214). -/
def State.deliveriesOf (s : State) (p st : Nat) : List (Nat × Nat × Nat) :=
  (s.deliveries st).filter (fun d => if bitOf d.2.2 0 = 1 then entryOf d.2.2 p else s.isLastOfUnit p)

/-- The deliveries of a partition at a step (R213). -/
def State.deliverAll (s : State) (p n st : Nat) : State :=
  (s.deliveriesOf p st).foldl (fun s d => s.deliver n st d) s

/-! ## Frames sent (R210, R213, R217) -/

/-- The transmit slot register as a cascade peer sees it: held or forced while the partition its entry names is isolated
(R117). -/
def State.txSlot (s : State) (e port slot : Nat) : BitVec 24 :=
  let p := bitsOf e 1 6
  if bitOf e 0 = 1 ∧ s.on R.PRT_STATUS.ISOLATED p then
    match s.rd R.PRT_ISOLATE.CASTX p with
    | 1 => 0
    | 2 => BitVec.allOnes 24
    | _ => SMap.get 0 s.txHeld (port * 8 + slot)
  else SMap.get 0 s.txSlots (port * 8 + slot)

/-- Put the active slots of executed step n into the frames being filled, as the slot registers stand after the step's writes
(R213). What a slot bit holds once its slot is sent the spec leaves open; it keeps its value (DESIGN CHOICE, log entry 214). -/
def State.fillFrames (s : State) (n st : Nat) : State :=
  (List.range 4).foldl (fun s port =>
    let old := match (s.port port).filling with
      | some f => if f.g = n / 8 then f else ⟨n / 8, 0, 0⟩
      | none => ⟨n / 8, 0, 0⟩
    let f := (List.range 8).foldl (fun (f : Frame) slot =>
      let e := s.netEntry 0 port st slot
      if bitOf e 7 == 1 then
        let pay := setBits f.pay.toNat (192 * (n % 8) + 24 * slot) 24 (s.txSlot e port slot).toNat
        { f with pay := BitVec.ofNat 1536 pay }
      else f) old
    s.modPort port (fun x => { x with filling := some f })) s

/-- The tag of a slot in the frame that ends at step st: that of the lowest of its eight steps whose entry is active
(R217). -/
def State.slotTag (s : State) (port st slot : Nat) : Nat :=
  match ((List.range 8).map (fun i => s.netEntry 0 port (st - 7 + i) slot)).find? (fun e => bitOf e 7 == 1) with
  | some e => entryTag e
  | none => 0

/-- Sender tag faults of the frame that ends at step st (R217). -/
def State.sendTagFaults (s : State) (port st : Nat) : State :=
  (List.range 8).foldl (fun s slot =>
    (List.range 8).foldl (fun s i =>
      let e := s.netEntry 0 port (st - 7 + i) slot
      if bitOf e 7 == 1 && entryTag e != s.slotTag port st slot then s.tagFault port slot (st - 7 + i) 0 else s) s) s

/-- After step 8g + 7 the frame of every READY port is complete and waits to be sent (R210). -/
def State.closeFrames (s : State) (st : Nat) : State :=
  (List.range 4).foldl (fun s port =>
    match (s.port port).filling with
    | none => s
    | some f =>
      let tags := (List.range 8).foldl (fun t slot => setBits t (4 * slot) 4 (s.slotTag port st slot)) 0
      let st8 := s.rd (R.CAS_P_STATUS.STATE port) 0
      let out := if st8 = 8 ∨ st8 = 10 then [{ f with tags := BitVec.ofNat 32 tags }] else []
      (s.modPort port (fun x => { x with filling := none, ready := x.ready ++ out })).sendTagFaults port st) s

/-- Free the received frames that no delivery can need after executed step n, one credit each (R218). -/
def State.freeFrames (s : State) (n : Nat) : State :=
  (List.range 4).foldl (fun s port =>
    let (gone, kept) := (s.port port).rx.partition (fun f => decide (8 * f.g + 262 ≤ n))
    if gone.isEmpty then s
    else (s.modPort port (fun x => { x with rx := kept, toReturn := x.toReturn + gone.length })).wr
      (R.CAS_P_CREDITS.RX_USED port) 0 kept.length) s

/-- What the unit does at the end of executed step n of the last of its partitions: counts, frames, credits (R196,
R210, R218). -/
def State.unitStepEnd (s : State) (p n st : Nat) : State :=
  if s.cas.started && s.isLastOfUnit p then
    let s1 := (s.fillFrames n st).wr64 R.CAS_STEP_LO.COUNT R.CAS_STEP_HI.COUNT 0 (n + 1)
    (if n % 8 = 7 then s1.closeFrames st else s1).freeFrames n
  else s

/-- Cascade ticks since START (R196). -/
def State.casTick (s : State) : Nat := s.rd64 R.CAS_TICK_LO.COUNT R.CAS_TICK_HI.COUNT 0

/-- Set the cascade tick count. -/
def State.setTick (s : State) (t : Nat) : State := s.wr64 R.CAS_TICK_LO.COUNT R.CAS_TICK_HI.COUNT 0 t

/-- A step-clock tick of the unit, with the last of its partitions: the tick count and the countdowns of the orders go on,
held or not (R196, R227). -/
def State.unitTick (s : State) (p : Nat) : State :=
  if s.cas.started && s.isLastOfUnit p && !s.emuStopped then
    (s.setTick (s.casTick + 1)).modCas (fun c => { c with orders := c.orders.map (fun o => { o with left := o.left - 1 }) })
  else s

/-! ## Slot ticks and stops (R222, R229) -/

/-- Whether some delivery that R222 looks at is missing: of steps n + 16 to n + 23 while running at step n, of steps n
to n + 23 while held at n. -/
def State.missing (s : State) : Bool :=
  let n := s.casStep
  if s.cas.held then !(List.range 24).all (fun i => s.stepReady (n + i))
  else !(List.range 8).all (fun i => s.stepReady (n + 16 + i))

/-- Whether the package drives HOLD_N low (R222, R224, R230). -/
def State.drivesLow (s : State) : Bool :=
  s.holdReasons || (if s.cas.started then s.missing else !s.cas.released)

/-- The least of x, x + step, x + 2·step, … that is not below lead. -/
def atLeast (x step lead : Nat) : Nat := if lead ≤ x then x else x + (lead - x + (step - 1)) / max step 1 * step

/-- Ticks from now to the boundary of the unit's cycle in progress, if one is. -/
def State.cycleLeft (s : State) : Option Nat :=
  match s.unitParts with
  | p :: _ => if (s.part p).inCycle then some (s.unitDepth - (s.part p).step) else none
  | [] => none

/-- Ticks from now to the first cycle boundary at least `CAS_LEAD` ahead (R229): that of the cycle in progress; of the cycles
that follow each other every D ticks under REL_MODE 00; of those that the period begins under REL_MODE 01; of those that the
RELEASE orders on their way begin under REL_MODE 10. Where no such boundary is known, `CAS_LEAD`. -/
def State.stopCountdown (s : State) : Nat :=
  let d := s.unitDepth
  let lead := s.rd R.CAS_LEAD.TICKS 0
  let own := s.cycleLeft.getD 0
  if s.cycleLeft.isSome ∧ lead ≤ own then own
  else
    match s.cas.mode with
    | 0 => atLeast (own + d) d lead
    | 1 => atLeast (s.cas.nextRel - s.casTick + d) (s.rd R.CAS_REL_PERIOD.TICKS 0) lead
    | _ =>
      let ends := (s.cas.orders.filter (fun o => o.kind == .release)).map (fun o => o.left + d)
      (ends.find? (fun t => decide (lead ≤ t))).getD lead

/-- The unit stops in every package: this package marks it and tells the master, or the master orders it (R229). -/
def State.requestStop (s : State) (cause : Nat) : State :=
  let s1 := s.unitParts.foldl (fun s p =>
    if s.pstate p == 3 || s.pstate p == 4 then s.wr R.PRT_STATUS.STOP_REQ p 1 else s) s
  if s1.isMaster then
    if s1.cas.stopOrdered then s1
    else (s1.modCas (fun c => { c with stopOrdered := true, stopCause := cause })).issueOrder .stop
      s1.stopCountdown cause
  else s1.report .stopReq cause

end Sys2Proof.Machine
end

