-- ==== Sys2Proof/Machine/CascadePorts.lean ====
section
/-! DEFINITION. Machine/CascadePorts.lean: Benmet Link ports: bring-up (R199 to R205), lane power (R206, R207), frames, credits,
acknowledgement and replay (R210, R218 to R221), and the net-map window (R215). -/

namespace Sys2Proof.Machine
open Sys2Proof

/-! ## Port states -/

/-- Set STATE of a port. -/
def State.setPort (s : State) (n v : Nat) : State := s.wr (R.CAS_P_STATUS.STATE n) 0 v

/-- What the transmitters send when a stage begins (R199, R202 to R204): a pattern in the first three, TRAIN with the lane's
number, the CAS_ID and MASTER_SEL in ALIGN and REVERSAL, LANE_MARK on all lanes at once in DESKEW, and a test frame in LATENCY. -/
def State.stageSends (s : State) (n st : Nat) : State :=
  if st = 1 ∨ st = 2 ∨ st = 3 then s.emit (.pattern n st)
  else if st = 4 ∨ st = 5 then
    (List.range 8).foldl (fun s l =>
      s.emit (.ordered n 0x02 l (s.rd R.CAS_STATUS.ID 0) (s.rd R.CAS_STATUS.MASTER 0))) s
  else if st = 6 then (List.range 8).foldl (fun s l => s.emit (.ordered n 0x03 l 0 0)) s
  else if st = 7 then s.emit (.testFrame n false)
  else s

/-- A port enters a bring-up stage. -/
def State.enterStage (s : State) (n st : Nat) : State := (s.setPort n st).stageSends n st

/-- A port fails with a code (R199, R205). -/
def State.failPort (s : State) (n code : Nat) : State :=
  (((s.setPort n 9).wr (R.CAS_P_STATUS.FAIL n) 0 code).raise .cas 0 2).showUnit

/-- LNE_ channel of a lane of a port (R192). -/
def lane (n l : Nat) : Nat := 8 * n + l

/-- Apply an operation to each lane channel of a port. -/
def State.eachLane (s : State) (n : Nat) (f : State → Nat → State) : State :=
  (List.range 8).foldl (fun s l => f s (lane n l)) s

/-- The search of a lane for its blocks. -/
def State.sync (s : State) (c : Nat) : LaneSync := SMap.get {} s.laneSync c

/-- Set the search of a lane. -/
def State.setSync (s : State) (c : Nat) (x : LaneSync) : State := { s with laneSync := SMap.set {} s.laneSync c x }

/-- Block lock of a lane is gained or lost, and its search begins anew (R201). -/
def State.setLock (s : State) (c v : Nat) : State := (s.setSync c {}).wr R.LNE_STATUS.BLOCK_LOCK c v

/-- The lane signals of a port before any stage has run. -/
def State.clearLanes (s : State) (n : Nat) : State :=
  s.eachLane n (fun s c =>
    (((((s.setSync c {}).wr R.LNE_STATUS.SIGNAL c 0).wr R.LNE_STATUS.CDR_LOCK c 0).wr R.LNE_STATUS.POL_INV c 0).wr
      R.LNE_STATUS.BLOCK_LOCK c 0).wr R.LNE_STATUS.RX_LANE c 0 |>.wr R.LNE_STATUS.SKEW c 0)

/-- A port with nothing sent or received, from DISABLED or DETECT. -/
def State.clearPort (s : State) (n st : Nat) : State :=
  let s1 := ((((s.clearLanes n).setPort n st).wr (R.CAS_P_STATUS.FAIL n) 0 0).wr (R.CAS_P_STATUS.REVERSED n) 0 0).wr
    (R.CAS_P_STATUS.LS n) 0 0
  (((s1.wr (R.CAS_P_CREDITS.HELD n) 0 48).wr (R.CAS_P_CREDITS.RX_USED n) 0 0).wr (R.CAS_P_CREDITS.REPLAY_USED n) 0 0).modPort
    n (fun _ => {})

/-- `PWR_CLOCKS` shows whether a port's lane PLL runs (R474). -/
def State.lanePll (s : State) (n on : Nat) : State :=
  s.wr R.PWR_CLOCKS.CAS_LANE_PLL 0 (setBit (s.rd R.PWR_CLOCKS.CAS_LANE_PLL 0) n on)

/-- PORT_ENABLE: EN = 1 starts bring-up at DETECT (R199); a port that is enabled already goes on. -/
def doPortEnable (a : Accessor) (n : Nat) (s : State) : State :=
  if s.on (R.CAS_P_CTRL.EN n) 0 then s.respond a true 0
  else (((((s.wr (R.CAS_P_CTRL.EN n) 0 1).lanePll n 1).clearPort n 1).stageSends n 1).showUnit).respond a true 0

/-- PORT_DISABLE (R199). -/
def doPortDisable (a : Accessor) (n : Nat) (s : State) : State :=
  ((((s.wr (R.CAS_P_CTRL.EN n) 0 0).lanePll n 0).clearPort n 0).showUnit).respond a true 0

/-! ## Bring-up (R199 to R204) -/

/-- Whether lanes hear the numbers of a straight order, or of a reversed one (R202). -/
def State.laneOrder (s : State) (n : Nat) : Option Bool :=
  if (List.range 8).all (fun l => s.rd R.LNE_STATUS.RX_LANE (lane n l) == l) then some false
  else if (List.range 8).all (fun l => s.rd R.LNE_STATUS.RX_LANE (lane n l) == 7 - l) then some true
  else none

/-- Whether a port hears another peer than when it was last READY (R205, R207). -/
def State.otherPeer (s : State) (n : Nat) : Bool := s.rd (R.CAS_P_STATUS.PEER_ID n) 0 != (s.port n).peer

/-- Whether the skew of some lane is larger than a port tolerates (R203). -/
def State.skewed (s : State) (n : Nat) : Bool :=
  (List.range 8).any (fun l => decide (24 < s.rd R.LNE_STATUS.SKEW (lane n l)))

/-- The end of REVERSAL: the order of the lanes and the peer are checked (R193, R202, R207). -/
def State.endReversal (s : State) (n : Nat) : State :=
  match s.laneOrder n with
  | none => s.failPort n 5
  | some rev =>
    let s1 := s.wr (R.CAS_P_STATUS.REVERSED n) 0 (b2n rev)
    if s1.isMaster && s1.on (R.CAS_P_STATUS.PEER_MASTER n) 0 then (s1.raise .cas 0 7).failPort n 9
    else if s1.on (R.CAS_P_CTRL.EXPECT_EN n) 0 &&
        s1.rd (R.CAS_P_STATUS.PEER_ID n) 0 != s1.rd (R.CAS_P_CTRL.EXPECT_ID n) 0 then
      (s1.raise .cas 0 8).failPort n 8
    else if (s1.port n).exit != 0 && s1.otherPeer n then s1.failPort n 10
    else s1.enterStage n 6

/-- The port is READY in LS0, and its peer is remembered (R205, R207). -/
def State.portReady (s : State) (n : Nat) : State :=
  (((s.setPort n 8).wr (R.CAS_P_STATUS.LS n) 0 0).modPort n (fun x => { x with
    exit := 0, peer := s.rd (R.CAS_P_STATUS.PEER_ID n) 0 })).showUnit

/-- A latency from a measured round trip: without the far end's turnaround, halved and rounded up (R204). -/
def halfTrip (order : Bool) (trip : Nat) : Nat := (trip - Config.turnaround order + 1) / 2

/-- The measured latencies (R204). -/
def State.setLatency (s : State) (n raw ord : Nat) : State :=
  ((s.wrSat (R.CAS_P_LATENCY.RAW n) 0 raw).wrSat (R.CAS_P_LATENCY.TOTAL n) 0 (raw + 31)).wrSat
    (R.CAS_P_LATENCY.ORDER n) 0 ord

/-- BRINGUP_STAGE_DONE: the running stage's end condition holds (R199). `lanes`: in POLARITY, the lanes that find runs of
zeros (R200). `trip` and `order`: in LATENCY, the round trips measured with a test frame and with an ordered set, in ticks
(R204). An exit from LS1 runs ALIGN and DESKEW alone (R206). -/
def doBringupStageDone (n : Nat) (lanes : BitVec 8) (trip order : Nat) (s : State) : State :=
  match s.portState n with
  | 1 => (s.eachLane n (fun s c => s.wr R.LNE_STATUS.SIGNAL c 1)).enterStage n 2
  | 2 => (s.eachLane n (fun s c => s.wr R.LNE_STATUS.CDR_LOCK c 1)).enterStage n 3
  | 3 =>
    (s.eachLane n (fun s c => s.wr R.LNE_STATUS.POL_INV c
      (if s.on R.LNE_CTRL.POL_FORCE_EN c then s.rd R.LNE_CTRL.POL_FORCE_VAL c
        else bitOf lanes.toNat (c % 8)))).enterStage n 4
  | 4 => (s.eachLane n (fun s c => s.setLock c 1)).enterStage n (if (s.port n).exit = 1 then 6 else 5)
  | 5 => s.endReversal n
  | 6 =>
    if s.skewed n then s.failPort n 6
    else if (s.port n).exit = 1 then (if s.otherPeer n then s.failPort n 10 else s.portReady n)
    else s.enterStage n 7
  | 7 =>
    let raw := halfTrip false trip
    let s1 := s.setLatency n raw (halfTrip true order)
    if 96 < raw + 31 then s1.failPort n (if (s.port n).exit = 2 then 10 else 7) else s1.portReady n
  | _ => s

/-- BRINGUP_STAGE_DONE (R199). -/
def execBringupStageDone (n : Fin 4) (lanes : BitVec 8) (trip order : Fin 1024) (s : State) :
    Host.Outcome State Fault Refusal :=
  .next (doBringupStageDone n lanes trip order s)

/-- BRINGUP_TIMEOUT: the stage's own code (R199). -/
def doBringupTimeout (n : Nat) (s : State) : State :=
  if 1 ≤ s.portState n ∧ s.portState n ≤ 7 then s.failPort n (s.portState n) else s

/-- BRINGUP_TIMEOUT (R199). -/
def execBringupTimeout (n : Fin 4) (s : State) : Host.Outcome State Fault Refusal := .next (doBringupTimeout n s)

/-- TRAIN: in ALIGN and REVERSAL, where it is sent, and in a retrain, what a lane hears is kept (R193, R199, R202). -/
def doTrain (n l heard id : Nat) (master : Bool) (s : State) : State :=
  if s.portState n = 4 ∨ s.portState n = 5 ∨ s.portState n = 10 then
    ((s.wr R.LNE_STATUS.RX_LANE (lane n l) heard).wr (R.CAS_P_STATUS.PEER_ID n) 0 id).wr
      (R.CAS_P_STATUS.PEER_MASTER n) 0 (b2n master)
  else s

/-- TRAIN (R202). -/
def execTrain (n : Fin 4) (l heard : Fin 8) (id : Fin 64) (master : Bool) (s : State) :
    Host.Outcome State Fault Refusal :=
  .next (doTrain n l heard id master s)

/-- LANE_MARK: the delay of a lane against the earliest (R203). -/
def doLaneMark (n l delay : Nat) (s : State) : State :=
  if s.portState n = 6 ∨ s.portState n = 10 then s.wrSat R.LNE_STATUS.SKEW (lane n l) delay else s

/-- LANE_MARK (R203). -/
def execLaneMark (n : Fin 4) (l : Fin 8) (delay : Fin 256) (s : State) : Host.Outcome State Fault Refusal :=
  .next (doLaneMark n l delay s)

/-! ## Retraining (R205) -/

/-- A port begins to retrain: the transmitters send what stages ALIGN to LATENCY do (R199), and a changed `LNE_CTRL` takes
effect (R233). -/
def State.beginRetrain (s : State) (n : Nat) : State :=
  let s1 := s.eachLane n (fun s c =>
    if s.on R.LNE_CTRL.POL_FORCE_EN c then s.wr R.LNE_STATUS.POL_INV c (s.rd R.LNE_CTRL.POL_FORCE_VAL c) else s)
  let s2 := [4, 5, 6, 7].foldl (fun s st => s.stageSends n st) s1
  (((s2.setPort n 10).count (R.CAS_P_RETRAIN.COUNT n) 0 1).raise .cas 0 3).showUnit

/-- A lane that hunts for its blocks sees a sync header (R201): lock after 64 consecutive valid ones at one offset, the next
offset after an invalid one. -/
def State.huntHeader (s : State) (c : Nat) (valid : Bool) : State :=
  let x := s.sync c
  if valid then (if x.run + 1 = 64 then s.setLock c 1 else s.setSync c { x with run := x.run + 1 })
  else s.setSync c { x with offset := (x.offset + 1) % 66, run := 0 }

/-- A lane sees a sync header, valid when it is 01 or 10 (R201). A locked lane counts an invalid one, and loses lock with the
16th among 64 consecutive blocks. -/
def State.laneHeader (s : State) (c : Nat) (h : BitVec 2) : State :=
  let valid := h == 1 || h == 2
  if s.on R.LNE_STATUS.BLOCK_LOCK c then
    let s1 := if valid then s else s.count R.LNE_HDR_ERR.COUNT c 1
    let seen := (!valid) :: (s.sync c).recent
    if 16 ≤ (seen.filter id).length then s1.setLock c 0
    else s1.setSync c { s.sync c with recent := seen.take 63 }
  else s.huntHeader c valid

/-- BLOCK_LOCK_LOSS: the sync headers that a lane sees, one after the other (R201). A READY port one of whose lanes loses block
lock retrains (R205). -/
def doBlockLockLoss (n l : Nat) (headers : List (BitVec 2)) (s : State) : State :=
  let c := lane n l
  let r := headers.foldl (fun (r : Bool × State) h =>
    let t := r.2.laneHeader c h
    (r.1 || (r.2.on R.LNE_STATUS.BLOCK_LOCK c && !t.on R.LNE_STATUS.BLOCK_LOCK c), t)) (false, s)
  if r.1 && s.portState n == 8 && s.portLs n == 0 then r.2.beginRetrain n else r.2

/-- BLOCK_LOCK_LOSS (R205). -/
def execBlockLockLoss (n : Fin 4) (l : LaneHeaders) (s : State) : Host.Outcome State Fault Refusal :=
  .next (doBlockLockLoss n l.lane l.headers s)

/-- RETRAIN_DONE: ALIGN to LATENCY have been rerun. The port is READY again if its lane order, its skew, its peer and its
latency pass, and asks for the frames it misses (R202, R203, R205, R220); otherwise it fails. -/
def doRetrainDone (n trip order : Nat) (s : State) : State :=
  if s.portState n != 10 then s
  else
    let raw := halfTrip false trip
    let s1 := (s.eachLane n (fun s c => s.setLock c 1)).setLatency n raw (halfTrip true order)
    match s.laneOrder n with
    | none => s1.failPort n 10
    | some rev =>
      let s2 := s1.wr (R.CAS_P_STATUS.REVERSED n) 0 (b2n rev)
      if s.skewed n || s.otherPeer n || decide (96 < raw + 31) then s2.failPort n 10
      else
        ((s2.portReady n).modPort n (fun x => { x with discarding := true })).emit
          (.ordered n 0x11 ((s.port n).expect % 65536) 0 0)

/-- RETRAIN_DONE (R205). -/
def execRetrainDone (n : Fin 4) (trip order : Fin 1024) (s : State) : Host.Outcome State Fault Refusal :=
  .next (doRetrainDone n trip order s)

/-- RETRAIN_TIMEOUT (R205). -/
def doRetrainTimeout (n : Nat) (s : State) : State := if s.portState n = 10 then s.failPort n 10 else s

/-- RETRAIN_TIMEOUT (R205). -/
def execRetrainTimeout (n : Fin 4) (s : State) : Host.Outcome State Fault Refusal := .next (doRetrainTimeout n s)

/-! ## Lane power (R206, R207) -/

/-- The exit to LS0 starts: from LS1 at ALIGN, from LS2, where the lane PLL starts again, at CDR (R206). -/
def State.beginExit (s : State) (n : Nat) : State :=
  match s.portLs n with
  | 1 => (((s.enterStage n 4).wr (R.CAS_P_STATUS.LS n) 0 0).modPort n (fun x => { x with exit := 1 })).showUnit
  | 2 =>
    ((((s.lanePll n 1).enterStage n 2).wr (R.CAS_P_STATUS.LS n) 0 0).modPort n (fun x => { x with exit := 2 })).showUnit
  | _ => s

/-- The ordered set that asks for a lane power state (R211). -/
def lsCode (ls : Nat) : Nat := if ls = 1 then 0x30 else 0x31

/-- LANE_POWER_REQUEST (R207): LS_REQ 3 is refused, and so is leaving LS0 while the unit is not idle. -/
def doLanePowerRequest (a : Accessor) (n req : Nat) (s : State) : State :=
  if req = 3 then (s.errReg a .cas 0 (0x80 + 0x20 * n) 4).respond a true 0
  else if req = 0 then
    let s1 := s.wr (R.CAS_P_CTRL.LS_REQ n) 0 0
    (if s.portState n = 8 ∧ s.portLs n ≠ 0 then (s1.emit (.wake n)).beginExit n else s1).respond a true 0
  else if s.portLs n = 0 ∧ s.unitState ≠ 0 ∧ (s.treePort n || s.netPort n) then
    (s.errReg a .cas 0 (0x80 + 0x20 * n) 4).respond a true 0
  else
    let s1 := s.wr (R.CAS_P_CTRL.LS_REQ n) 0 req
    (if s.portState n = 8 ∧ s.portLs n = 0 then s1.emit (.ordered n (lsCode req) 0 0 0) else s1).respond a true 0

/-- QUIET or COLD arrives: the answer to this end's request, or a request that this end answers; both ends enter the
state (R207). In LS2 the clock-data recovery and the lane PLL are off (R206). -/
def State.powerDown (s : State) (n ls : Nat) : State :=
  if s.portState n = 8 ∧ s.portLs n = 0 then
    let s1 := if s.rd (R.CAS_P_CTRL.LS_REQ n) 0 = ls then s else s.emit (.ordered n (lsCode ls) 0 0 0)
    let s2 := if ls = 2 then (s1.eachLane n (fun s c => s.wr R.LNE_STATUS.CDR_LOCK c 0)).lanePll n 0 else s1
    (s2.wr (R.CAS_P_STATUS.LS n) 0 ls).showUnit
  else s

/-- QUIET (R207). -/
def doQuiet (n : Nat) (s : State) : State := s.powerDown n 1

/-- QUIET (R207). -/
def execQuiet (n : Fin 4) (s : State) : Host.Outcome State Fault Refusal := .next (doQuiet n s)

/-- COLD (R207). -/
def doCold (n : Nat) (s : State) : State := s.powerDown n 2

/-- COLD (R207). -/
def execCold (n : Fin 4) (s : State) : Host.Outcome State Fault Refusal := .next (doCold n s)

/-- WAKE_BURST: the exit starts; the request this end has made is over (R207). -/
def doWakeBurst (n : Nat) (s : State) : State :=
  if s.portState n = 8 ∧ s.portLs n ≠ 0 then (s.wr (R.CAS_P_CTRL.LS_REQ n) 0 0).beginExit n else s

/-- WAKE_BURST (R207). -/
def execWakeBurst (n : Fin 4) (s : State) : Host.Outcome State Fault Refusal := .next (doWakeBurst n s)

/-! ## Frames (R210, R218 to R221) -/

/-- Whether a port carries frames. -/
def State.carries (s : State) (n : Nat) : Bool := s.portState n == 8 && s.portLs n == 0

/-- CRC-32C of a frame with its sequence number (R210). -/
def frameCrc (g : Nat) (pay : BitVec 1536) (tags : BitVec 32) : Nat :=
  crcFinal (crcBytes (crcBytes (crcBytes crcInit (g % 65536) 2) pay.toNat 192) tags.toNat 4)

/-- A frame goes out on a port. -/
def State.sendFrame (s : State) (n : Nat) (f : Frame) : State :=
  s.emit (.frame n (f.g % 65536) ⟨f.pay, f.tags, BitVec.ofNat 32 (frameCrc f.g f.pay f.tags)⟩)

/-- LINK_STATUS goes out with the frames acknowledged and the credits returned (R211). -/
def State.sendStatus (s : State) (n : Nat) : State :=
  let x := s.port n
  (s.emit (.ordered n 0x10 ((x.expect + 65535) % 65536) x.toReturn 0)).modPort n (fun x => { x with toReturn := 0 })

/-- CASCADE_FRAME_SEND: the next complete frame is sent while a credit is held and the replay buffer has room (R218,
R219). -/
def doCascadeFrameSend (n : Nat) (s : State) : State :=
  let x := s.port n
  match x.ready with
  | [] => s
  | f :: rest =>
    let held := s.rd (R.CAS_P_CREDITS.HELD n) 0
    if !s.carries n || held == 0 || decide (32 ≤ x.replayBuf.length) then s
    else
      let s1 := (s.modPort n (fun x => { x with ready := rest, replayBuf := x.replayBuf ++ [f] })).sendFrame n f
      (s1.wr (R.CAS_P_CREDITS.HELD n) 0 (held - 1)).wr (R.CAS_P_CREDITS.REPLAY_USED n) 0 (x.replayBuf.length + 1)

/-- CASCADE_FRAME_SEND (R210). -/
def execCascadeFrameSend (n : Fin 4) (s : State) : Host.Outcome State Fault Refusal := .next (doCascadeFrameSend n s)

/-- CASCADE_FRAME_RECEIVE: a frame whose check passes is buffered, and every second one is answered by LINK_STATUS (R211); one
that fails is discarded with every block after it, and NAK asks for it (R218, R220). In LATENCY and in a retrain the far end's
test frame is returned as soon as its check passes (R204); its sequence number is taken as 0 (log entry 221). -/
def doCascadeFrameReceive (n : Nat) (f : FrameIn) (s : State) : State :=
  let x := s.port n
  if s.portState n = 7 ∨ s.portState n = 10 then
    if f.crc.toNat = frameCrc 0 f.pay f.tags then s.emit (.testFrame n true) else s
  else if !s.carries n || x.discarding then s
  else if f.crc.toNat = frameCrc x.expect f.pay f.tags then
    let s1 := (s.modPort n (fun x => { x with rx := x.rx ++ [⟨x.expect, f.pay, f.tags⟩], expect := x.expect + 1 })).wr
      (R.CAS_P_CREDITS.RX_USED n) 0 (x.rx.length + 1)
    if x.expect % 2 = 1 then s1.sendStatus n else s1
  else
    ((s.count (R.CAS_P_CRC_ERR.COUNT n) 0 1).modPort n (fun x => { x with discarding := true })).emit
      (.ordered n 0x11 (x.expect % 65536) 0 0)

/-- CASCADE_FRAME_RECEIVE (R220). -/
def execCascadeFrameReceive (n : Fin 4) (f : FrameIn) (s : State) : Host.Outcome State Fault Refusal :=
  .next (doCascadeFrameReceive n f s)

/-- The frames left after those up to a sequence number are released (R219). -/
def ackFrames (ack : Nat) (l : List Frame) : List Frame :=
  match l.findIdx? (fun f => f.g % 65536 == ack) with
  | some i => l.drop (i + 1)
  | none => l

/-- LINK_STATUS (R218, R219). -/
def doLinkStatus (n : Nat) (ack credits : Nat) (s : State) : State :=
  let left := ackFrames ack (s.port n).replayBuf
  ((s.modPort n (fun x => { x with replayBuf := left })).wr (R.CAS_P_CREDITS.REPLAY_USED n) 0 left.length).wrSat
    (R.CAS_P_CREDITS.HELD n) 0 (s.rd (R.CAS_P_CREDITS.HELD n) 0 + credits)

/-- LINK_STATUS (R219). -/
def execLinkStatus (n : Fin 4) (ack : BitVec 16) (credits : BitVec 8) (s : State) : Host.Outcome State Fault Refusal :=
  .next (doLinkStatus n ack.toNat credits.toNat s)

/-- NAK: REPLAY and every frame from the sequence onward go out again; the eighth consecutive NAK of one sequence makes
the port retrain (R220, R221). -/
def doNak (n : Nat) (sq : Nat) (s : State) : State :=
  let x := s.port n
  if !s.carries n then s
  else
    let run := if x.nakRun != 0 && x.nakSeq == sq then x.nakRun + 1 else 1
    if run = 8 then (s.modPort n (fun x => { x with nakRun := 0 })).beginRetrain n
    else
      let again := match x.replayBuf.findIdx? (fun f => f.g % 65536 == sq) with
        | some i => x.replayBuf.drop i
        | none => []
      let s1 := (s.modPort n (fun x => { x with nakSeq := sq, nakRun := run })).emit (.ordered n 0x12 sq 0 0)
      (again.foldl (fun s f => s.sendFrame n f) s1).count (R.CAS_P_RETRY.COUNT n) 0 again.length

/-- NAK (R220). -/
def execNak (n : Fin 4) (sq : BitVec 16) (s : State) : Host.Outcome State Fault Refusal := .next (doNak n sq.toNat s)

/-- REPLAY: data is accepted again from here (R220). -/
def doReplay (n : Nat) (s : State) : State :=
  if s.carries n then s.modPort n (fun x => { x with discarding := false }) else s

/-- REPLAY (R220). The frame that follows is checked with the sequence the receiver expects. -/
def execReplay (n : Fin 4) (_sq : BitVec 16) (s : State) : Host.Outcome State Fault Refusal := .next (doReplay n s)

/-! ## The net-map window (R215) -/

/-- With AUTOINC each DATA access adds one to INDEX. -/
def State.netAdvance (s : State) : State :=
  if s.on R.CAS_NETMAP_INDEX.AUTOINC 0 then
    s.wr R.CAS_NETMAP_INDEX.INDEX 0 (s.rd R.CAS_NETMAP_INDEX.INDEX 0 + 1)
  else s

/-- Whether an entry names a partition in Armed, Running, Frozen or Halted. -/
def State.entryBusy (s : State) (e : Nat) : Bool :=
  let st := s.pstate (bitsOf e 1 6)
  bitOf e 0 == 1 && (st == 3 || st == 4 || st == 6 || st == 8)

/-- Whether a write of a net-map entry is refused (R215). -/
def State.netRefused (s : State) (idx v : Nat) : Bool :=
  s.entryBusy (SMap.get 0 s.netmap idx).toNat || s.entryBusy v ||
    (decide (32768 ≤ idx) && bitOf v 7 == 1 && decide (entryLag v < 96)) ||
    (decide (idx < 32768) && entryLag v != 0)

/-- NETMAP_DATA_WRITE: bits [31:20] of an entry are reserved (R212). -/
def doNetmapDataWrite (a : Accessor) (v : W32) (s : State) : State :=
  let idx := s.rd R.CAS_NETMAP_INDEX.INDEX 0
  let e := v.toNat % 2 ^ 20
  if s.netRefused idx e then (s.errReg a .cas 0 0x64 4).netAdvance.respond a true 0
  else ({ s with netmap := SMap.set 0 s.netmap idx (BitVec.ofNat 32 e) }.netAdvance).respond a true 0

/-- NETMAP_DATA_READ. -/
def doNetmapDataRead (a : Accessor) (s : State) : State :=
  let v := (SMap.get 0 s.netmap (s.rd R.CAS_NETMAP_INDEX.INDEX 0)).toNat
  s.netAdvance.respond a true v

end Sys2Proof.Machine
end

