-- ==== Sys2Proof/Machine/CascadeBlocks.lean ====
section
/-! DEFINITION. Machine/CascadeBlocks.lean: the 64b/66b blocks of a port's stream (R209): the data blocks of a frame (R210), the
control block of an ordered set (R211), their scrambling, and the lane of each. -/

namespace Sys2Proof.Machine
open Sys2Proof

/-- A 64b/66b block: its sync header and its 64 bits of payload, lowest bit sent first. -/
structure Block where
  header  : BitVec 2
  payload : BitVec 64
  deriving DecidableEq, Repr

/-- A data block, with sync header 01 (R209). -/
def dataBlock (v : Nat) : Block := ⟨0b01#2, BitVec.ofNat 64 v⟩

/-- The 25 data blocks of a frame: its 192 bits of each step, then the tags and the check (R210). -/
def frameBlocks (f : FrameIn) : List Block :=
  (List.range 24).map (fun k => dataBlock (bitsOf f.pay.toNat (64 * k) 64)) ++
    [dataBlock (f.tags.toNat + 2 ^ 32 * f.crc.toNat)]

/-- The 48 bits of an ordered set's fields. The spec gives their widths; they stand in the order of R211's table, the first in
the lowest bits (DESIGN CHOICE, log entry 227). -/
def setFields (code f1 f2 f3 : Nat) : Nat :=
  match code with
  | 0x02 => f1 + 2 ^ 3 * f2 + 2 ^ 9 * f3
  | 0x10 => f1 + 2 ^ 16 * f2
  | 0x20 => f1 + 2 ^ 8 * f2 + 2 ^ 24 * f3
  | 0x21 => f1 + 2 ^ 8 * f2 + 2 ^ 14 * f3
  | _ => f1

/-- The control block of an ordered set: sync header 10, block type 0x4B, the code, and the fields (R209, R211). -/
def setBlock (code f1 f2 f3 : Nat) : Block :=
  ⟨0b10#2, BitVec.ofNat 64 (0x4B + 2 ^ 8 * code + 2 ^ 16 * (setFields code f1 f2 f3 % 2 ^ 48))⟩

/-- IDLE, which fills the stream where nothing else is sent (R211). -/
def idleBlock : Block := setBlock 0x01 0 0 0

/-- The blocks an output of the device is on a port, before scrambling. -/
def portBlocks (n : Nat) (o : Output) : List Block :=
  match o with
  | .frame p _ f => if p = n then frameBlocks f else []
  | .ordered p code f1 f2 f3 => if p = n then [setBlock code f1 f2 f3] else []
  | _ => []

/-- Scramble one bit with the self-synchronising scrambler of IEEE 802.3 clause 49, whose polynomial is 1 + x^39 + x^58
(PRESUMED: the spec names the clause and not the polynomial; log entry 227). The state holds the last 58 bits sent, newest
lowest. -/
def scrambleBit (st : BitVec 58) (d : Bool) : Bool × BitVec 58 :=
  let o := (d != st.getLsbD 38) != st.getLsbD 57
  (o, (st <<< 1) ||| BitVec.ofNat 58 (b2n o))

/-- Scramble the payload of a block; sync headers are sent as they are. -/
def scrambleBlock (st : BitVec 58) (b : Block) : Block × BitVec 58 :=
  let r := (List.range 64).foldl (fun (a : Nat × BitVec 58) i =>
    let x := scrambleBit a.2 (b.payload.getLsbD i)
    (a.1 + b2n x.1 * 2 ^ i, x.2)) (0, st)
  (⟨b.header, BitVec.ofNat 64 r.1⟩, r.2)

/-- Scramble the blocks of a stream. -/
def scramble (st : BitVec 58) : List Block → List Block
  | [] => []
  | b :: r => (scrambleBlock st b).1 :: scramble (scrambleBlock st b).2 r

/-- Block k of the stream goes out on lane k mod 8 (R209). -/
def stripe (k : Nat) : List Block → List (Nat × Block)
  | [] => []
  | b :: r => (k % 8, b) :: stripe (k + 1) r

/-- What a port has sent, as its lanes carry it, from a state of the scrambler and a number of blocks sent before; the IDLE
blocks between are the clock's (log entry 227). -/
def State.laneStream (s : State) (n : Nat) (st : BitVec 58) (k : Nat) : List (Nat × Block) :=
  stripe k (scramble st (s.outbox.flatMap (portBlocks n)))

end Sys2Proof.Machine
end

