-- ==== Sys2Proof/Machine/ConfigRecords.lean ====
section
/-! DEFINITION. Machine/ConfigRecords.lean: the records of a configuration stream (R292 to R294), what the engine waits for, and
the buffer of the inner configuration port (R307). -/

namespace Sys2Proof.Machine
open Sys2Proof

/-- Change the fabric's own data. -/
def State.modFab (s : State) (f : Fabric → Fabric) : State := { s with fabric := f s.fabric }

/-- A stream is in progress. -/
def State.streaming (s : State) : Bool := s.on R.CFG_STATUS.STREAM_BUSY 0

/-! ## Records (R292 to R294) -/

/-- The kinds of records, with the item of a SET. -/
inductive RecordKind where
  | nop | device | gclkA | gclkB | bankv | region | fpll0 | fpll1 | frames | read | check
  | none | checkReset | launch | endStream | quiesce
  deriving DecidableEq, Repr

/-- OP, ITEM and LENGTH of a header. -/
def recOp (h : Nat) : Nat := h / 2 ^ 24
/-- ITEM. -/
def recItem (h : Nat) : Nat := h / 2 ^ 16 % 256
/-- LENGTH. -/
def recLen (h : Nat) : Nat := h % 65536

/-- The kind of a record header, where R292 to R294 allow it. -/
def recordKind (h : Nat) : Option RecordKind :=
  match recOp h, recItem h with
  | 0, 0 => if recLen h = 0 then some .nop else none
  | 1, i =>
    if recLen h = 1 then
      match i with
      | 1 => some .device | 2 => some .gclkA | 3 => some .gclkB | 4 => some .bankv | 5 => some .region
      | 6 => some .fpll0 | 7 => some .fpll1 | _ => none
    else none
  | 2, 0 => some .frames
  | 3, 0 => some .read
  | 4, i =>
    if recLen h = 0 then
      match i with
      | 0 => some .none | 1 => some .checkReset | 2 => some .launch | 3 => some .endStream | 4 => some .quiesce
      | _ => none
    else none
  | 5, 0 => if recLen h = 1 then some .check else none
  | _, _ => none

/-- Payload words that follow a record's header, frame entries apart (R292). -/
def payloadWords : RecordKind → Nat
  | .device => 1 | .gclkA => 1 | .gclkB => 1 | .bankv => 1 | .region => 1 | .fpll0 => 1 | .fpll1 => 1 | .read => 1
  | .check => 1 | _ => 0

/-- Words that the item at the front of the input needs: a marker search, a frame entry, or a record. -/
def State.itemNeeds (s : State) : Nat :=
  let e := s.fabric.engine
  if e.hunting then 1
  else if e.framesLeft ≠ 0 then 130
  else
    match e.input with
    | [] => 1
    | h :: _ =>
      match recordKind h.toNat with
      | some k => 1 + payloadWords k
      | none => 1

/-- W_READY: fabric logic owns the port, no other stream is in progress, and the port's 16-word buffer has room beside the record
under way (R307). -/
def State.cpReady (s : State) : Bool :=
  s.on R.CFG_CTRL.CP_OWNER 0 &&
    (!s.streaming || (s.fabric.engine.source == 2 && decide (s.fabric.engine.input.length < s.itemNeeds + 16)))

end Sys2Proof.Machine
end

