-- ==== Sys2Proof/Machine/FabricView.lean ====
section
/-! DEFINITION. Machine/FabricView.lean: regions of the I/O fabric (R305, R306) and what the orchard sees of the fabric's port
bits and release lines (R300, R303, R306). -/

namespace Sys2Proof.Machine
open Sys2Proof

/-- The rectangle of region k, from 1 to 16 (R305). -/
def State.regionRect (s : State) (k : Nat) : Nat × Nat × Nat × Nat :=
  (s.rd (R.CFG_REGION.COL_FIRST (k - 1)) 0, s.rd (R.CFG_REGION.COL_LAST (k - 1)) 0,
    s.rd (R.CFG_REGION.ROW_FIRST (k - 1)) 0, s.rd (R.CFG_REGION.ROW_LAST (k - 1)) 0)

/-- Whether a rectangle of first and last column, first and last row holds a cluster. -/
def inRect (r : Nat × Nat × Nat × Nat) (x y : Nat) : Bool :=
  decide (r.1 ≤ x) && decide (x ≤ r.2.1) && decide (r.2.2.1 ≤ y) && decide (y ≤ r.2.2.2)

/-- Whether region k is defined and holds a cluster. -/
def State.regionHolds (s : State) (k x y : Nat) : Bool :=
  s.on (R.CFG_REGION.VALID (k - 1)) 0 && inRect (s.regionRect k) x y

/-- State of region k: 0 Running, 1 Quiesced, 2 Loading, 3 Failed (R314). -/
def State.regionState (s : State) (k : Nat) : Nat := bitsOf (s.rd R.CFG_REGION_STATUS.STATE 0) (2 * (k - 1)) 2

/-- Set the state of region k. -/
def State.setRegionState (s : State) (k v : Nat) : State :=
  s.wr R.CFG_REGION_STATUS.STATE 0 (setBits (s.rd R.CFG_REGION_STATUS.STATE 0) (2 * (k - 1)) 2 v)

/-- The region that holds a cluster and is not Running. -/
def State.stoppedRegion (s : State) (x y : Nat) : Option Nat :=
  ((List.range 16).map (fun i => i + 1)).find? (fun k => s.regionState k != 0 && s.regionHolds k x y)

/-- One byte of an inbound port, driven from the cluster of its row (R272): forced by the isolation of a region that is
not Running (R306). A region that holds gives the last value, which is the one the fabric presents. -/
def State.inboundByte (s : State) (n i v : Nat) : Nat :=
  match s.stoppedRegion (3 * n / 2) (40 + i) with
  | some k =>
    match s.rd (R.CFG_ISOLATE.PORTS (k - 1)) 0 with
    | 1 => 0
    | 2 => 255
    | _ => v
  | none => v

/-- One byte of an inbound port as the fabric drives it: a region that is not Running and holds gives the last value (R306). -/
def State.drivenByte (s : State) (n i old new : Nat) : Nat :=
  match s.stoppedRegion (3 * n / 2) (40 + i) with
  | some k => if s.rd (R.CFG_ISOLATE.PORTS (k - 1)) 0 = 0 then old else new
  | none => new

/-- The inbound port bits that the fabric drives, from the last ones and the new ones (R306). -/
def State.inboundDriven (s : State) (n : Nat) (old new : BitVec 64) : BitVec 64 :=
  BitVec.ofNat 64 ((List.range 8).foldl
    (fun a i => a + s.drivenByte n i (bitsOf old.toNat (8 * i) 8) (bitsOf new.toNat (8 * i) 8) * 2 ^ (8 * i)) 0)

/-- The inbound port bits at the orchard's synchroniser for what the fabric drives (R300, R306). -/
def State.inboundSeen (s : State) (n : Nat) (v : BitVec 64) : BitVec 64 :=
  if s.fabric.held then 0
  else BitVec.ofNat 64 ((List.range 8).foldl
    (fun a i => a + s.inboundByte n i (bitsOf v.toNat (8 * i) 8) * 2 ^ (8 * i)) 0)

/-- Whether edges of a release line are ignored: low while the fabric is shut down (R300), held while its region is not
Running (R306), and blanked after a start-up (R303). -/
def State.lineIgnored (s : State) (l : Nat) : Bool :=
  s.fabric.held || (s.stoppedRegion (3 * l) 39).isSome || bitOf s.relBlank.toNat l == 1

/-- What the fabric sees at an outbound port: the presented value, or what isolation selects (R21, R117). -/
def State.fabricOut (s : State) (n : Nat) : BitVec 64 :=
  match (List.range 64).find? (fun p => (s.bunches p).contains n) with
  | none => SMap.get 0 s.fabPres n
  | some p =>
    if s.on R.PRT_STATUS.ISOLATED p then
      match s.rd R.PRT_ISOLATE.FABRIC p with
      | 1 => 0
      | 2 => BitVec.allOnes 64
      | _ => SMap.get 0 s.fabPres n
    else SMap.get 0 s.fabPres n

/-- A frame of the configuration. -/
def State.frame (s : State) (f : Nat) : BitVec 4096 := SMap.get 0 s.frames f

end Sys2Proof.Machine
end

