-- ==== Sys2Proof/Machine/FabricLogic.lean ====
section
/-! DEFINITION. Machine/FabricLogic.lean: what the frames make of the I/O fabric: its geometry (R271 to R273), its logic cells and
join multiplexers (R274 to R277), its routing (R278 to R280), its I/O cells (R285), the isolation of regions (R306), and its
flip-flops under the global clocks and resets (R276, R281, R283, R301, R304). -/

namespace Sys2Proof.Machine
open Sys2Proof

/-! ## Geometry and frames (R271, R287, R289) -/

/-- The cluster of column x and row y, by frame number (R287). -/
def clusterAt (x y : Nat) : Nat := 48 * x + y
/-- Column of a cluster. -/
def colOf (f : Nat) : Nat := f / 48
/-- Row of a cluster. -/
def rowOf (f : Nat) : Nat := f % 48

/-- The cluster so many clusters away in a direction: 0 outward, 1 clockwise, 2 inward, 3 anticlockwise. The ring wraps in the
column direction and ends at rows 0 and 47 (R271, R279). -/
def clusterToward (f d len : Nat) : Option Nat :=
  match d with
  | 0 => if len ≤ rowOf f then some (clusterAt (colOf f) (offsetIn len (rowOf f))) else none
  | 1 => some (clusterAt ((colOf f + len) % 96) (rowOf f))
  | 2 => if rowOf f + len ≤ 47 then some (clusterAt (colOf f) (rowOf f + len)) else none
  | _ => some (clusterAt (offsetIn len (colOf f + 96) % 96) (rowOf f))

/-- The configuration in force in a cluster. What a frame with an error configures until it is rewritten is a free value
(R311). -/
def State.config (s : State) (f : Nat) : Nat :=
  (if s.ecc clsFrame f = 0 then s.frame f else Config.damagedFrame f (s.frame f)).toNat

/-- Truth table of cell k (R289). -/
def cellTable (v k : Nat) : Nat := bitsOf v (64 * k) 64
/-- A bit of the control field of cell k (R275). -/
def cellBit (v k b : Nat) : Bool := bitOf v (512 + 32 * k + b) == 1
/-- XSEL of cell k (R275). -/
def cellXsel (v k : Nat) : Nat := bitsOf v (512 + 32 * k) 2
/-- CLK of a cluster (R289). -/
def clusterClk (v : Nat) : Nat := bitsOf v 768 3
/-- A bit of the cluster control: 3 CLK_INV, 4 SR_SYNC, 5 SR_SRC, 6 CLK_EN (R289). -/
def clusterBit (v b : Nat) : Bool := bitOf v (768 + b) == 1
/-- Field of I/O cell i of a cluster of row 0 (R285). -/
def ioField (v i : Nat) : Nat := bitsOf v (800 + 32 * i) 32
/-- Select of multiplexer m (R280). -/
def muxSelect (v m : Nat) : Nat := bitsOf v (992 + 8 * m) 8

/-! ## The logic cell and the join multiplexers (R274, R275, R277). `mux` gives the values of the cluster's multiplexers -/

/-- i6: the inputs of cell k, I0 the least significant (R274, R280). -/
def cellInputs (mux : Nat → Bool) (k : Nat) : Nat :=
  b2n (mux (6 * k)) + 2 * b2n (mux (6 * k + 1)) + 4 * b2n (mux (6 * k + 2)) + 8 * b2n (mux (6 * k + 3)) +
    16 * b2n (mux (6 * k + 4)) + 32 * b2n (mux (6 * k + 5))

/-- S of cell k (R274). -/
def cellS (v : Nat) (mux : Nat → Bool) (k : Nat) : Bool := bitOf (cellTable v k) (cellInputs mux k % 32) == 1

/-- P of cell k (R274). -/
def cellP (v : Nat) (mux : Nat → Bool) (k : Nat) : Bool :=
  if cellBit v k 2 then bitOf (cellTable v k) (32 + cellInputs mux k / 2) == 1
  else bitOf (cellTable v k) (cellInputs mux k) == 1

/-- J1_j (R277). -/
def joinOne (v : Nat) (mux : Nat → Bool) (j : Nat) : Bool :=
  if mux (308 + j) then cellP v mux (2 * j + 1) else cellP v mux (2 * j)

/-- J2_j (R277). -/
def joinTwo (v : Nat) (mux : Nat → Bool) (j : Nat) : Bool :=
  if mux (312 + j) then joinOne v mux (2 * j + 1) else joinOne v mux (2 * j)

/-- J3 (R277). -/
def joinThree (v : Nat) (mux : Nat → Bool) : Bool := if mux 314 then joinTwo v mux 1 else joinTwo v mux 0

/-- X of cell k: P, or the join multiplexer that XSEL names; 0 where the cell does not carry it (R274, R275, R277). -/
def cellX (v : Nat) (mux : Nat → Bool) (k : Nat) : Bool :=
  match cellXsel v k with
  | 0 => cellP v mux k
  | 1 => if k % 2 = 1 then joinOne v mux (k / 2) else false
  | 2 => if k % 4 = 3 then joinTwo v mux (k / 4) else false
  | _ => if k = 7 then joinThree v mux else false

/-- Output A of cell k, with QA (R275). -/
def cellA (v : Nat) (mux : Nat → Bool) (q k : Nat) : Bool := if cellBit v k 3 then bitOf q k == 1 else cellX v mux k

/-- Output B of cell k, with QB (R275). -/
def cellB (v : Nat) (mux : Nat → Bool) (q k : Nat) : Bool :=
  if cellBit v k 4 then bitOf q (8 + k) == 1 else cellS v mux k

/-- The D input of a flip-flop: i < 8 is A of cell i, the others B of cell i − 8 (R275). -/
def cellD (v : Nat) (mux : Nat → Bool) (i : Nat) : Bool :=
  let k := i % 8
  if i < 8 then (if cellBit v k 5 then mux (48 + k) else cellX v mux k)
  else if cellBit v k 6 then mux (56 + k) else cellS v mux k

/-! ## Flip-flops (R276, R304) -/

/-- Reset tree 0, or the set/reset of a region that is not Running, holds a cluster's flip-flops (R276, R304, R308). -/
def State.setReset (s : State) (f : Nat) : Bool := s.fabric.reset0 || (s.stoppedRegion (colOf f) (rowOf f)).isSome

/-- The INIT values of a cluster's flip-flops, A of cell k in bit k, B in bit 8 + k (R275). -/
def initBits (v : Nat) : Nat :=
  (List.range 16).foldl (fun a i => a + b2n (cellBit v (i % 8) (7 + i / 8)) * 2 ^ i) 0

/-- The flip-flops of a cluster: INIT while the set/reset holds them (R276, R304). -/
def State.flops (s : State) (f : Nat) : Nat :=
  if s.setReset f then initBits (s.config f) else (SMap.get 0 s.fabric.ff f).toNat

/-! ## Isolation (R306) -/

/-- What an outbound crossing of region k passes: its last value, 0 or 1, as the selection says (R306). -/
def State.isolated (s : State) (sel g m : Nat) : Bool :=
  match sel with
  | 1 => false
  | 2 => true
  | _ => bitOf (SMap.get 0 s.fabric.heldMux g).toNat m == 1

/-- A wire, multiplexer m of cluster g, as it arrives at cluster f: isolated out of a region that is not Running, and 0 into
one (R306). -/
def State.wireInto (s : State) (mux : Nat → Nat → Bool) (g m f : Nat) : Bool :=
  let a := s.stoppedRegion (colOf g) (rowOf g)
  let b := s.stoppedRegion (colOf f) (rowOf f)
  if a = b then mux g m
  else if b.isSome then false
  else
    match a with
    | some k => s.isolated (s.rd (R.CFG_ISOLATE.WIRES (k - 1)) 0) g m
    | none => mux g m

/-- A contribution to a long line, isolated out of a region that is not Running (R306). -/
def State.contribution (s : State) (mux : Nat → Nat → Bool) (g m : Nat) : Bool :=
  match s.stoppedRegion (colOf g) (rowOf g) with
  | some k => s.isolated (s.rd (R.CFG_ISOLATE.WIRES (k - 1)) 0) g m
  | none => mux g m

/-! ## I/O cells (R285, R304) -/

/-- Whether a user I/O is parked: with the whole fabric, or with its region (R304, R308). -/
def State.padParked (s : State) (u : Nat) : Bool := s.fabric.parked || (s.stoppedRegion (u / 6) 0).isSome

/-- The field of user I/O u's cell (R273, R285). -/
def State.padField (s : State) (u : Nat) : Nat := ioField (s.config (clusterAt (u / 6) 0)) (u % 6)

/-- The registers of user I/O u's cell: input 0, output 1, output enable 2 (R285). -/
def State.padReg (s : State) (u r : Nat) : Bool := bitOf (SMap.get 0 s.fabric.ioReg u).toNat r == 1

/-- Whether a user I/O drives its ball (R285, R304). -/
def State.padDrives (s : State) (mux : Nat → Nat → Bool) (u : Nat) : Bool :=
  let v := s.padField u
  !s.padParked u && (bitsOf v 0 2 == 2 ||
    (bitsOf v 0 2 == 3 && (if bitOf v 10 = 1 then s.padReg u 2 else mux (clusterAt (u / 6) 0) (300 + u % 6))))

/-- The level that a user I/O drives (R285). -/
def State.padOut (s : State) (mux : Nat → Nat → Bool) (u : Nat) : Bool :=
  let v := s.padField u
  (if bitOf v 9 = 1 then s.padReg u 1 else mux (clusterAt (u / 6) 0) (292 + u % 6)) != (bitOf v 16 == 1)

/-- The pull at a ball: 0 none, 1 up, 2 down, 3 bus-keeper; a parked one has a weak pull-up under IO_PARK (R285, R304). -/
def State.padPull (s : State) (u : Nat) : Nat :=
  if s.padParked u then s.rd R.DEV_STRAPS.IO_PARK 0 else bitsOf (s.padField u) 2 2

/-- The level at the ball of user I/O u: what the cell drives, or what stands outside under the pull. -/
def State.ball (s : State) (mux : Nat → Nat → Bool) (u : Nat) : Bool :=
  if s.padDrives mux u then s.padOut mux u else Config.padLevel s.coreTicks u (s.padPull u)

/-- What the input of user I/O u's cell takes from the ball; MODE 00 and 10 have the input off (R285). -/
def State.padSees (s : State) (mux : Nat → Nat → Bool) (u : Nat) : Bool :=
  let v := s.padField u
  if bitOf v 0 = 1 then s.ball mux u != (bitOf v 15 == 1) else false

/-- The input of user I/O u's cell as the fabric reads it (R272, R285). -/
def State.padIn (s : State) (mux : Nat → Nat → Bool) (u : Nat) : Bool :=
  if bitOf (s.padField u) 8 = 1 then s.padReg u 0 else s.padSees mux u

/-! ## Attach points (R272) -/

/-- The fabric port at a column of rows 40 to 47: column ⌊3n / 2⌋ (R272). -/
def portAt (x : Nat) : Option Nat :=
  match x % 3 with
  | 0 => some (2 * (x / 3))
  | 1 => some (2 * (x / 3) + 1)
  | _ => none

/-- R and R_VALID of the inner configuration port: the word that a READ record returns on this clock (R307). -/
def State.cpReadWord (s : State) : Nat := (s.fabric.cpRead.headD 0).toNat

/-- Attach input i of a cluster; a point that R272 does not list reads 0. A region that is not Running reads 0 of an outbound
port (R306). -/
def State.attachIn (s : State) (mux : Nat → Nat → Bool) (f i : Nat) : Bool :=
  let x := colOf f
  let y := rowOf f
  if y = 0 then (if i < 6 then s.padIn mux (6 * x + i) else false)
  else if 40 ≤ y then
    match portAt x with
    | some n =>
      if (s.stoppedRegion x y).isSome then false else bitOf (s.fabricOut n).toNat (8 * offsetIn 40 y + i) == 1
    | none => false
  else if x = 2 ∧ 20 ≤ y ∧ y ≤ 23 then bitOf s.cpReadWord (8 * offsetIn 20 y + i) == 1
  else if x = 2 ∧ y = 24 then
    match i with
    | 0 => s.cpReady
    | 1 => !s.fabric.cpRead.isEmpty
    | 2 => s.fabric.cpFault
    | _ => false
  else false

/-! ## Routing (R278 to R280) -/

/-- A wire that arrives at cluster f in direction d from so many clusters away, multiplexer m of the cluster it begins in; 0
from beyond rows 0 and 47 (R278). -/
def State.arriving (s : State) (mux : Nat → Nat → Bool) (f d len m : Nat) : Bool :=
  match clusterToward f ((d + 2) % 4) len with
  | some g => s.wireInto mux g m f
  | none => false

/-- A long line as cluster f reads it: the OR of every contribution (R278); a region that is not Running reads 0 (R306). -/
def State.longLine (s : State) (mux : Nat → Nat → Bool) (f m : Nat) (line : List Nat) : Bool :=
  (s.stoppedRegion (colOf f) (rowOf f)).isNone && line.any (fun g => s.contribution mux g m)

/-- Source q of cluster f's source space, from the values of the fabric's multiplexers (R279). -/
def State.sourceValue (s : State) (mux : Nat → Nat → Bool) (f q : Nat) : Bool :=
  let v := s.config f
  if q = 0 then false
  else if q ≤ 16 then
    if q % 2 = 1 then cellA v (mux f) (s.flops f) ((q - 1) / 2) else cellB v (mux f) (s.flops f) ((q - 1) / 2)
  else if q ≤ 144 then s.arriving mux f ((q - 17) / 32) 1 (68 + (q - 17))
  else if q ≤ 192 then s.arriving mux f ((q - 145) / 12) 4 (196 + (q - 145))
  else if q ≤ 224 then s.arriving mux f ((q - 193) / 8) 12 (244 + (q - 193))
  else if q ≤ 232 then
    s.longLine mux f (276 + (q - 225)) ((List.range 96).map (fun x => clusterAt x (rowOf f)))
  else if q ≤ 240 then
    s.longLine mux f (284 + (q - 233)) ((List.range 48).map (fun y => clusterAt (colOf f) y))
  else if q ≤ 248 then s.attachIn mux f (q - 241)
  else false

/-- The value of multiplexer m of cluster g, the logic followed through at most so many multiplexers. A longer path is a
combinational loop, and its value is a free one: the hardware checks none (R280). -/
def State.muxWithin (s : State) : Nat → Nat → Nat → Bool
  | 0, g, m => Config.fabricLoop s.coreTicks g m
  | n + 1, g, m => s.sourceValue (fun g m => s.muxWithin n g m) g (muxSelect (s.config g) m)

/-- The multiplexers of the fabric: a path through more of them returns to one of them. -/
def muxCount : Nat := 4608 * 384

/-- The value of multiplexer m of cluster g (R280). -/
def State.mux (s : State) (g m : Nat) : Bool := s.muxWithin muxCount g m

/-! ## What the design drives (R272, R300, R306) -/

/-- The 384 multiplexers of a cluster, as isolation captures them (R306). -/
def State.muxBits (s : State) (g : Nat) : BitVec 384 :=
  BitVec.ofNat 384 ((List.range 384).foldl (fun a m => a + b2n (s.mux g m) * 2 ^ m) 0)

/-- The inbound port bits that the fabric design drives, isolated out of a region that is not Running (R272, R306). -/
def State.designPort (s : State) (n : Nat) : BitVec 64 :=
  BitVec.ofNat 64 ((List.range 64).foldl (fun a i =>
    let g := clusterAt (3 * n / 2) (40 + i / 8)
    a + b2n (match s.stoppedRegion (colOf g) (rowOf g) with
      | some k => s.isolated (s.rd (R.CFG_ISOLATE.PORTS (k - 1)) 0) g (292 + i % 8)
      | none => s.mux g (292 + i % 8)) * 2 ^ i) 0)

/-- The level of a release line: low while the fabric is shut down, its last value while its region is not Running (R272,
R300, R306). -/
def State.lineLevel (s : State) (r : Nat) : Bool :=
  let g := clusterAt (3 * r) 39
  if s.fabric.held then false
  else if (s.stoppedRegion (3 * r) 39).isSome then s.isolated 0 g 292
  else s.mux g 292

/-- Reset tree 1: the OR of `FAB_USER_RESET.ASSERT` and the design's request (R283). -/
def State.resetTree1 (s : State) : Bool := s.on R.FAB_USER_RESET.ASSERT 0 || s.mux (clusterAt 1 39) 292

/-- The SR of a cluster (R276, R289). -/
def State.clusterSr (s : State) (f : Nat) : Bool :=
  if clusterBit (s.config f) 5 then s.resetTree1 else s.mux f 66

/-- A region's multiplexers are captured as its isolation engages (R306). -/
def State.holdRegion (s : State) (k : Nat) : State :=
  s.modFab (fun x => { x with
    heldMux := s.frames.foldl (fun m e =>
      if s.regionHolds k (colOf e.1) (rowOf e.1) then SMap.set 0 m e.1 (s.muxBits e.1) else m) x.heldMux })

/-- The flip-flops of clusters hold INIT as a set/reset lets go of them (R301, R308). -/
def State.loadInit (s : State) (which : Nat → Bool) : State :=
  s.modFab (fun x => { x with
    ff := s.frames.foldl (fun m e =>
      if which e.1 then SMap.set 0 m e.1 (BitVec.ofNat 16 (initBits (s.config e.1))) else m)
      (x.ff.keep (fun f => !which f))
    heldMux := x.heldMux.keep (fun f => !which f) })

/-! ## Global clocks (R281, R282) -/

/-- The source byte of a global clock tree (R281). -/
def State.gclkSource (s : State) (t : Nat) : Nat :=
  bitsOf (if t < 4 then s.fabric.gclkA.toNat else s.fabric.gclkB.toNat) (8 * (t % 4)) 8

/-- The clock pin that a source byte names: pin 0 or 1 of a bank (R273, R281). -/
def clockPin (x : Nat) : Option Nat :=
  if 0x10 ≤ x ∧ x ≤ 0x27 then some (48 * (offsetIn 0x10 x / 2) + offsetIn 0x10 x % 2) else none

/-- Whether a tree runs (R315). -/
def State.treeOn (s : State) (t : Nat) : Bool := bitOf (s.rd R.FAB_STATUS.GCLK_ON 0) t == 1

/-- Rate of a tree's source that is no pin: a level change falls due each time so many units, gained per nanosecond, fill the
second number. SYS_REFCLK runs at 25 MHz, output o of PLL p at 25 MHz × M / (Do + 1) (R281, R282). -/
def State.treeRate (s : State) (x : Nat) : Nat × Nat :=
  if x = 9 then (50, 1000)
  else
    let v := (if x ≤ 4 then s.fabric.fpll0 else s.fabric.fpll1).toNat
    (50 * bitsOf v 0 8, 1000 * (bitsOf v (4 * ((x - 1) % 4) + 8) 4 + 1))

/-- A tree after a nanosecond: its phase and level. The phase of a clock pin's tree is the level last seen at the pin. A tree
that does not run is low (R281). -/
def State.treeNext (s : State) (t : Nat) : Nat × Bool :=
  let x := s.gclkSource t
  let (phase, level) := SMap.get (0, false) s.fabric.trees t
  match clockPin x with
  | some u =>
    let raw := s.ball s.mux u
    (b2n raw, raw && (s.treeOn t || b2n raw != phase))
  | none =>
    if !s.treeOn t || x = 0 then (0, false)
    else
      let (gain, full) := s.treeRate x
      if full ≤ phase + gain then (phase + gain - full, !level) else (phase + gain, level)

/-- A tree whose clock pin moves again runs again (R281). -/
def State.pinReturns (s : State) (t : Nat) : Bool :=
  !s.treeOn t && s.on R.CFG_STATUS.DONE_RELEASED 0 && (clockPin (s.gclkSource t)).isSome &&
    (s.treeNext t).1 != (SMap.get (0, false) s.fabric.trees t).1

/-- The trees that have an edge this nanosecond, each with whether it rises. -/
def State.edges (s : State) : List (Nat × Bool) :=
  (List.range 8).filterMap (fun t =>
    let new := (s.treeNext t).2
    if new = (SMap.get (0, false) s.fabric.trees t).2 then none else some (t, new))

/-! ## A clock edge (R276, R285) -/

/-- Key of a tree's edge: 2t for the rising one, 2t + 1 for the falling one. -/
def edgeKey (t : Nat) (rising : Bool) : Nat := 2 * t + b2n (!rising)

/-- Whether a flip-flop's own clock has had its second active edge since phase 5 of start-up, this nanosecond's edges counted
(R301). -/
def State.pastInit (s : State) (es : List (Nat × Bool)) (t : Nat) (rising : Bool) : Bool :=
  decide (2 ≤ SMap.get 0 s.fabric.sinceRel (edgeKey t rising) + b2n (es.contains (t, rising)))

/-- The value a flip-flop takes (R276, R301): INIT under set/reset and until the second edge after phase 5; SRVAL under SR; its
own under the hold or with its CE 0; else D. -/
def State.flopNext (s : State) (es : List (Nat × Bool)) (f v i : Nat) : Bool :=
  let k := i % 8
  let ab := i / 8
  let clk := clusterClk v
  let rising := !clusterBit v 3
  let edge := clusterBit v 6 && es.contains (clk, rising)
  if s.setReset f || !s.pastInit es clk rising then cellBit v k (7 + ab)
  else if cellBit v k 13 && s.clusterSr f && (edge || !clusterBit v 4) then cellBit v k (9 + ab)
  else if !edge || s.fabric.held || (cellBit v k (11 + ab) && !s.mux f (64 + ab)) then bitOf (s.flops f) i == 1
  else cellD v (s.mux f) i

/-- The flip-flops of a cluster after a nanosecond's edges. -/
def State.flopsNext (s : State) (es : List (Nat × Bool)) (f : Nat) : BitVec 16 :=
  BitVec.ofNat 16 ((List.range 16).foldl (fun a i => a + b2n (s.flopNext es f (s.config f) i) * 2 ^ i) 0)

/-- The registers of an I/O cell after a nanosecond's edges (R285); the fabric hold keeps them (R300). -/
def State.padNext (s : State) (es : List (Nat × Bool)) (u : Nat) : BitVec 3 :=
  let v := s.padField u
  let g := clusterAt (u / 6) 0
  if !es.contains (bitsOf v 11 3, bitOf v 14 == 0) || s.fabric.held || s.setReset g then SMap.get 0 s.fabric.ioReg u
  else
    BitVec.ofNat 3 (b2n (s.padSees s.mux u) + 2 * b2n (s.mux g (292 + u % 6)) + 4 * b2n (s.mux g (300 + u % 6)))

/-- The fabric's clocked elements take the edges of a nanosecond, all on the values that stood before them. -/
def State.clockFabric (s : State) (es : List (Nat × Bool)) : State :=
  s.modFab (fun x => { x with
    ff := s.frames.foldl (fun m e => SMap.set 0 m e.1 (s.flopsNext es e.1)) x.ff
    ioReg := s.frames.foldl (fun m e =>
      if rowOf e.1 = 0 then
        (List.range 6).foldl (fun m i => SMap.set 0 m (6 * colOf e.1 + i) (s.padNext es (6 * colOf e.1 + i))) m
      else m) x.ioReg
    sinceRel := es.foldl (fun m e =>
      SMap.set 0 m (edgeKey e.1 e.2) (min 2 (SMap.get 0 m (edgeKey e.1 e.2) + 1))) x.sinceRel })

/-- The global clock trees move on by a nanosecond (R281). -/
def State.turnTrees (s : State) : State :=
  let s1 := (List.range 8).foldl (fun (x : State) t =>
    if s.pinReturns t then x.wr R.FAB_STATUS.GCLK_ON 0 (setBit (x.rd R.FAB_STATUS.GCLK_ON 0) t 1) else x) s
  s1.modFab (fun x => { x with
    trees := (List.range 8).foldl (fun m t => SMap.set (0, false) m t (s.treeNext t)) x.trees })

/-- A nanosecond of the fabric's own clocks. -/
def State.fabricClock (s : State) : State := (s.clockFabric s.edges).turnTrees

/-! ## The inner configuration port toward fabric logic (R272, R307) -/

/-- W of the inner configuration port: rows 20 to 23 of column 2 (R307). -/
def State.cpW (s : State) : BitVec 32 :=
  BitVec.ofNat 32 ((List.range 32).foldl (fun a i => a + b2n (s.mux (clusterAt 2 (20 + i / 8)) (292 + i % 8)) * 2 ^ i) 0)

/-- Whether the port's clock, the CLK of the row-24 cluster, has an active edge among some (R272). -/
def State.cpEdge (s : State) (es : List (Nat × Bool)) : Bool :=
  let v := s.config (clusterAt 2 24)
  clusterBit v 6 && es.contains (clusterClk v, !clusterBit v 3)

/-- W_VALID while the fabric runs (R300, R307). -/
def State.cpValid (s : State) : Bool := !s.fabric.held && s.mux (clusterAt 2 24) 292

end Sys2Proof.Machine
end

