-- ==== Sys2Proof/Machine/NocBase.lean ====
section
/-! DEFINITION. Machine/NocBase.lean: the internal map as nodes (R27, R399, R507), the blocks that are served (R29, R459),
and what every quay does when it sends a request and takes its response (R400 to R403). -/

namespace Sys2Proof.Machine
open Sys2Proof

/-- The page at a register-space offset, with its node for a NOC_ page (R507). -/
def pageAt (off : Nat) : Option (Page × Nat) :=
  let n := off / 4096
  if n < 20 then (Page.ofType (n + 1)).map (fun p => (p, 0))
  else if 32 ≤ n ∧ n < 76 then some (.noc, n - 32)
  else none

/-- The node of the block that owns a page's channel (R399; log entry 40 for the pages no node of R399 names). -/
def nodeOfPage (p : Page) (ch : Nat) : Nat :=
  match p with
  | .dev => 43 | .pwr => 43 | .hst => 34 | .log => 36 | .dbg => 41 | .trc => 41 | .irq => 42 | .hms => 38 | .tim => 40
  | .eth => 35 | .cas => 39 | .lne => 39 | .res => 43 | .cfg => 33 | .fab => 33 | .orc => 32 | .prt => 32
  | .dmb => ch / 8 | .mdc => 12 + ch | .acq => 28 + ch | .noc => ch

/-- The destination node of an address outside the register space (R27, R399). -/
def memNode (a : Nat) : Option Nat :=
  if a < 0x40000 then some 37
  else if 0x10000000 ≤ a ∧ a < 0x10200000 then some (8 + (offsetIn 0x10000000 a) / 0x80000)
  else if 0x20000000 ≤ a ∧ a < 0x20400000 then some (12 + (offsetIn 0x20000000 a) / 0x40000)
  else if 0x80000000 ≤ a ∧ a < 0x80400000 then some 36
  else if 0x100000000 ≤ a ∧ a < 0x130000000 then some (a % 0x10000000 / 0x2000000)
  else if 0x200000000 ≤ a ∧ a < 0x240000000 then some 32
  else if 0x500000000 ≤ a ∧ a < 0x500800000 then some 32
  else if 0x600000000 ≤ a ∧ a < 0x600240000 then some 33
  else none

/-- Whether an address lies in the register space. -/
def inRegisters (a : Nat) : Bool := decide (0x40000000 ≤ a) && decide (a < 0x44000000)

/-- The destination node of an address for an accessor, whose channel selects the node of a replicated page; `none` for
an unmapped address or a reserved page (R28). -/
def State.nodeOfAddress (s : State) (a : Accessor) (addr : Nat) : Option Nat :=
  if inRegisters addr then
    match pageAt (offsetIn 0x40000000 addr) with
    | some (.noc, n) => some n
    | some (p, _) => some (nodeOfPage p (s.channel a ⟨p, 0, 0⟩))
    | none => none
  else memNode addr

/-! ## Blocks that are served (R29, R459, R466, R508, R509) -/

/-- The block that owns a page's channel, as TYPE × 256 + instance; ORC_ and PRT_ belong to the orchard (R466, R508). -/
def blockKey (p : Page) (ch : Nat) : Nat :=
  match p with
  | .orc => 0x1000
  | .prt => 0x1000
  | p => p.type * 256 + ch

/-- Whether a page's channel is served to an accessor (R459, R509). -/
def State.served (s : State) (a : Accessor) (p : Page) (ch : Nat) : Bool :=
  match p with
  | .dev => true
  | .pwr => true
  | .hst => true
  | .log => true
  | .dbg => viaDebug a || s.awake.contains (blockKey .dbg 0)
  | p => s.awake.contains (blockKey p ch)

/-! ## Quays -/

/-- Whether the quay of a node holds a usable route to another node: VALID, with an eject within ten hops (R401). -/
def State.routeOk (s : State) (node d : Nat) : Bool :=
  s.on (R.NOC_ROUTE.VALID d) node &&
    (List.range 10).any (fun k => bitsOf (s.rd (R.NOC_ROUTE.ROUTE d) node) (3 * k) 3 == 7)

/-- A quay records an error of its initiators (R28, R29, R409): bit 1 decode, 2 asleep. -/
def State.quayError (s : State) (node bit code addr : Nat) : State :=
  (s.err .noc node code node addr).raise .noc node bit

/-- A quay sends a request: one more is outstanding; a dead quay's flits are discarded (R400, R403). -/
def State.quaySend (s : State) (node tag op addr be : Nat) (data : List W128) : State :=
  let s1 := s.wr R.NOC_STATUS.OUTSTANDING node (min 64 (s.rd R.NOC_STATUS.OUTSTANDING node + 1))
  if s.quayIsDead node then s1 else s1.emit (.nocReq node tag op addr be data)

/-- What a quay does with an error STATUS that its initiator gets (R28, R29, R409). -/
def State.quayStatus (s : State) (node status addr : Nat) : State :=
  let s1 :=
    match status with
    | 1 => s.quayError node 1 7 addr
    | 2 => s.quayError node 2 8 addr
    | _ => s
  if status = 0 then s1 else s1.raise .noc node 3

/-- A response arrives at a quay: one request fewer is outstanding. -/
def State.quayTake (s : State) (node status addr : Nat) : State :=
  (s.wr R.NOC_STATUS.OUTSTANDING node (s.rd R.NOC_STATUS.OUTSTANDING node - 1)).quayStatus node status addr

/-- The ERR_CAPTURE code of a NoC STATUS (R400, R513). -/
def statusCode (status : Nat) : Nat :=
  match status with
  | 1 => 7 | 2 => 8 | 3 => 9 | 4 => 11 | 5 => 12 | 6 => 8 | _ => 7

end Sys2Proof.Machine
end

