-- ==== Sys2Proof/Machine/Recovery.lean ====
section
/-! DEFINITION. Machine/Recovery.lean: what a detected data error does (R242, R243), dropping and rejoining members of pairs
and trios (R247 to R249), and the snapshot, its log and the restore (R250 to R257). -/

namespace Sys2Proof.Machine
open Sys2Proof

/-! ## Records -/

/-- Record an error in `RES_EVENT` and `RES_EVENT_POS` with its action (R243, R269). -/
def State.resEvent (s : State) (p : Nat) (e : DataError) (action : Nat) : State :=
  ((((((s.wr R.RES_EVENT.PART 0 p).wr R.RES_EVENT.KIND 0 e.kind).wr R.RES_EVENT.BUNCH 0 e.bunch).wr
    R.RES_EVENT.BERRY 0 e.berry).wr R.RES_EVENT.ACTION 0 action).wr R.RES_EVENT_POS.STEP 0 e.pos).wr
    R.RES_EVENT_POS.WORD 0 e.word

/-- The count of the RES_ page that a detected data error increments (R242): instruction words and rows have one. -/
def State.countError (s : State) (e : DataError) : State :=
  match e.kind with
  | 1 => s.count R.RES_IS_UE_COUNT.COUNT 0 1
  | 2 => s.count R.RES_SS_UE_COUNT.COUNT 0 1
  | _ => s

/-- A class 1 fault: a spare used up, or a group left with one member (R268). -/
def State.degraded (s : State) (p kind : Nat) : State :=
  (s.raise .res 0 1).logEvent 0x0D p 1 evDegraded kind 0

/-- Refresh the free-spare counts of `RES_STATUS` (R269). -/
def State.spareCounts (s : State) : State :=
  let free := ((List.range 64).filter (fun n =>
    !s.on R.ORC_BERRY_REMAP.EN (s.physBunch n) && !s.on R.ORC_SPARE_STATUS.BERRY_SPARE_BAD (s.physBunch n))).length
  (s.wr R.RES_STATUS.SPARE_BERRIES_FREE 0 free).wr R.RES_STATUS.SPARE_BUNCH_FREE 0
    (b2n (!s.on R.ORC_BUNCH_REMAP.EN 0 && !s.on R.ORC_SPARE_STATUS.BUNCH_SPARE_BAD 0))

/-! ## Unabsorbed errors (R243) -/

/-- A rejoin ends with the member failed (R249). -/
def State.failJoin (s : State) (m : Nat) : State :=
  ((s.wr (R.RES_GROUP.MSTATE m) 0 1).wr R.RES_STATUS.CMD_BUSY 0 0).modPart m (fun x => { x with rejoin := 0 })

/-- The rejoins of a group end where the group leaves Running by a fault, a load or an unload (R249). -/
def State.endJoins (s : State) (l : Nat) : State :=
  (s.members l).foldl (fun s m => if s.rd (R.RES_GROUP.MSTATE m) 0 = 2 then s.failJoin m else s) s

/-- A partition or group enters Fault for an unabsorbed error at step st. -/
def State.unabsorbed (s : State) (l : Nat) (e : DataError) (st : Nat) : State :=
  let cyc := s.rd64 R.PRT_CYCLE_LO.COUNT R.PRT_CYCLE_HI.COUNT l
  let s1 := (s.endJoins l).setState l 7
  let s2 := (s.members l).foldl (fun s m =>
    (((((s.wr R.PRT_FAULT_INFO.CHECK m 0).wr R.PRT_FAULT_INFO.STEP m st).wr R.PRT_FAULT_INFO.PIP m e.pip).wr64
      R.PRT_FAULT_CYCLE_LO.COUNT R.PRT_FAULT_CYCLE_HI.COUNT m cyc).wr R.PRT_STATUS.STALLED m 0).raise .prt m 10) s1
  let s3 := s2.modPart l (fun x => { x with inCycle := false, waits := 0, memWaits := [], ledger := faultLedger x.ledger, replay := none })
  let s4 := ((s3.resEvent l e 5).raise .res 0 4).logEvent 0x0D l 2 evUnabsorbed e.kind st
  if s.inUnit l then s4.report .fault l else s4

/-! ## Members (R248, R249) -/

/-- Whether JOIN of a member is accepted (R249). -/
def State.mayJoin (s : State) (m : Nat) : Bool :=
  let l := s.leadOf m
  s.role m != 0 && s.rd (R.RES_GROUP.MSTATE m) 0 == 1 && s.pstate l == 4 && !(s.activeMembers l).isEmpty

/-- The rejoin of a failed member starts (R249). -/
def State.beginJoin (s : State) (m : Nat) : State :=
  ((s.wr (R.RES_GROUP.MSTATE m) 0 2).wr R.RES_STATUS.CMD_BUSY 0 1).modPart m (fun x => { x with rejoin := 1 })

/-- The firmware writes JOIN for a dropped member itself while `RES_CTRL.AUTO_JOIN` is 1 and it runs (R249, R383); its command
is refused as any other (R269). -/
def State.autoJoin (s : State) (m : Nat) : State :=
  if s.on R.RES_CTRL.AUTO_JOIN 0 && s.rd R.HST_MBX_STATUS.FW_STATE 0 == 2 then
    if s.on R.RES_STATUS.CMD_BUSY 0 || !s.mayJoin m then s.errReg (.fw 0) .res 0 0x40 5 else s.beginJoin m
  else s

/-- A member is dropped (R247, R248): the acting role moves on where it acted, to the lowest-numbered active member with the
lead first (R246). The group has lost a member (R269). -/
def State.dropMember (s : State) (l m : Nat) (e : DataError) : State :=
  let was := s.actingOf l
  let s1 := (s.wr (R.RES_GROUP.MSTATE m) 0 1).modPart m (fun x => { x with rejoin := 0, pendErr := none })
  let s2 := ((s1.resEvent m e 3).absorbed m e.kind).raise .res 0 1
  let s3 :=
    if was = m then
      let next := (s2.activeMembers l).headD l
      (s2.modPart l (fun x => { x with acting := some next })).raise .res 0 2
    else s2
  let s4 := if (s3.activeMembers l).length = 1 then s3.degraded l 1 else s3
  s4.autoJoin m

/-! ## Snapshot (R250 to R253) -/

/-- Banks berthed to a partition. -/
def State.banksOf (s : State) (p : Nat) : List Nat := (List.range 64).filter (fun b => s.berthNames b 1 p)

/-- Whether a partition keeps snapshots. -/
def State.snapOn (s : State) (p : Nat) : Bool := s.on (R.RES_GROUP.SNAP_EN p) 0

/-- The registers of a partition's bunches and window (R249 "Registers"). -/
def State.copyRegs (s : State) (p : Nat) : RegCopy :=
  let inB (k : Nat) : Bool := (s.bunches p).contains k
  let (core, base, count) := s.window p
  { lanes := s.lanes.keep inB
    chans := s.chans.keep (fun k => inB (k / 4))
    addr := s.addrStage.keep inB
    wdata := s.wdataStage.keep inB
    rdata := s.rdata.keep inB
    rpend := s.rpend.keep inB
    fabOwn := s.fabOwn.keep inB
    o2m := (List.range count).map (fun r =>
      (p * 64 + r, s.exchBuf core (base + r) 1 (s.rd R.PRT_STATUS.XPHASE p)))
    probes := s.probes }

/-- Merge saved entries back: the keys a predicate names take the saved values. -/
def restoreMap {α : Type} (live saved : SMap α) (mine : Nat → Bool) : SMap α :=
  saved.foldl (fun m e => SMap.put m e.1 e.2) (live.keep (fun k => !mine k))

/-- Write the registers of a copy back (R254 order 2). The orchard's exchange values go to the private copy, and probe
bits, ports and transmit slots hold (R255). -/
def State.restoreRegs (s : State) (p : Nat) (c : RegCopy) : State :=
  let inB (k : Nat) : Bool := (s.bunches p).contains k
  { s with
    lanes := restoreMap s.lanes c.lanes inB
    chans := restoreMap s.chans c.chans (fun k => inB (k / 4))
    addrStage := restoreMap s.addrStage c.addr inB
    wdataStage := restoreMap s.wdataStage c.wdata inB
    rdata := restoreMap s.rdata c.rdata inB
    rpend := restoreMap s.rpend c.rpend inB
    fabOwn := restoreMap s.fabOwn c.fabOwn inB
    exchPriv := restoreMap s.exchPriv c.o2m (fun k => k / 64 == p) }

/-- A snapshot is taken at a tick (R250), with protection back unless a journal is off (R252). -/
def State.takeSnapshot (s : State) (p cycle : Nat) : State :=
  let banks := s.banksOf p
  let off := banks.any (fun b => !s.on R.DMB_CTRL.JOURNAL_EN b)
  let s1 := banks.foldl (fun s b =>
    ((s.wr R.DMB_JOURNAL_COUNT.ENTRIES b 0).wr R.DMB_STATUS.JOURNAL_FULL b 0).modBank b
      (fun k => { k with journal := [], jwrites := [] })) s
  let s2 := s1.modPart p (fun x => { x with snap := s.copyRegs p, snapCycle := cycle, logPos := 0 })
  let s3 := ((((s2.wr (R.RES_SNAP.VALID p) 0 0).wr (R.RES_SNAP.CAPTURING p) 0 1).wr (R.RES_SNAP.LOST p) 0 0).wr
    (R.RES_SNAP.LOST_CAUSE p) 0 0).wr (R.RES_SNAP.CYCLE p) 0 cycle
  if off then s3.loseProtection p 1 else s3

/-- Whether a snapshot falls before a cycle (R250). -/
def State.snapBefore (s : State) (p cycle : Nat) : Bool :=
  s.snapOn p && cycle % 2 ^ s.rd (R.RES_GROUP.SNAP_LOG2 p) 0 == 0

/-- During the capture cycle row st of every berry is copied to its shadow before its own write (R250). -/
def State.captureRows (s : State) (p st : Nat) : State :=
  (s.bunches p).foldl (fun s n =>
    (List.range 16).foldl (fun s b =>
      let k := s.rowAt n b st
      { s with shadow := SMap.set 0 s.shadow k (SMap.get 0 s.rows k) }.setEcc clsShadow k 0) s) s

/-- Pair up 64-bit values, two to a word, low half first (R253). -/
def pairWords : List (BitVec 64) → List W128
  | [] => []
  | [a] => [BitVec.ofNat 128 a.toNat]
  | a :: b :: r => BitVec.ofNat 128 (a.toNat + 2 ^ 64 * b.toNat) :: pairWords r

/-- Pack 24-bit deliveries, five to a word (R253). -/
def fiveWords : List Nat → List W128
  | [] => []
  | [a] => [BitVec.ofNat 128 a]
  | [a, b] => [BitVec.ofNat 128 (a + 2 ^ 24 * b)]
  | [a, b, c] => [BitVec.ofNat 128 (a + 2 ^ 24 * b + 2 ^ 48 * c)]
  | [a, b, c, d] => [BitVec.ofNat 128 (a + 2 ^ 24 * b + 2 ^ 48 * c + 2 ^ 72 * d)]
  | a :: b :: c :: d :: e :: r =>
    BitVec.ofNat 128 (a + 2 ^ 24 * b + 2 ^ 48 * c + 2 ^ 72 * d + 2 ^ 96 * e) :: fiveWords r

/-- The record of the cycle that ends (R253). -/
def State.logRecord (s : State) (p cycle : Nat) : List W128 :=
  let x := s.part p
  let (core, base, count) := s.window p
  let body := pairWords x.recIn ++
    (List.range count).map (fun r => s.exchBuf core (base + r) 0 (s.rd R.PRT_STATUS.XPHASE p)) ++ fiveWords x.recDeliv
  BitVec.ofNat 128 (cycle % 2 ^ 64 + 2 ^ 64 * (body.length + 1) + 2 ^ 80 * x.recDeliv.length) :: body

/-- First word of the log region: bank and word (R253, R269). -/
def State.logBase (s : State) (p : Nat) : Nat × Nat :=
  (bitsOf (s.rd (R.RES_LOG_BASE.ADDR p) 0) 18 6, bitsOf (s.rd (R.RES_LOG_BASE.ADDR p) 0) 0 18)

/-- The log engine writes a word of a record as the partition, through the bank's NoC port and without journalling (R253): refused
where the berth does not name the partition (R138, R144), and in the journal region (R158). -/
def State.replayWord (s : State) (p b w : Nat) (v : W128) : State :=
  match s.directAccess b w ⟨1, p, 63, false⟩ true with
  | (true, s1) => s1.writeBank b w v true
  | (false, s1) => s1

/-- The log engine writes the cycle's record at its boundary, or protection is lost (R252, R253). The record of a
cycle whose words exceed the engine's queue of 128 overruns it. -/
def State.writeLog (s : State) (p cycle : Nat) : State :=
  let rec0 := s.logRecord p cycle
  let pos := (s.part p).logPos
  let (b, w) := s.logBase p
  if s.on (R.RES_SNAP.LOST p) 0 then s
  else if s.rd (R.RES_LOG_LIMIT.WORDS p) 0 < pos + rec0.length then s.loseProtection p 3
  else if 128 < rec0.length then s.loseProtection p 4
  else
    let s1 := (List.range rec0.length).foldl
      (fun s i => s.replayWord p b ((w + pos + i) % bankWords) (rec0.getD i 0)) s
    s1.modPart p (fun x => { x with logPos := pos + rec0.length })

/-! ## Restore and replay (R254 to R257) -/

/-- Whether an error of a partition is absorbed by restore and replay (R242, R252). -/
def State.protectedBySnap (s : State) (p : Nat) : Bool :=
  !s.on R.PRT_CTRL.HARD p && s.snapOn p && !s.on (R.RES_SNAP.LOST p) 0 &&
    (s.on (R.RES_SNAP.VALID p) 0 || s.on (R.RES_SNAP.CAPTURING p) 0)

/-- The journals of the partition's banks begin to restore (R157, R254 order 2). -/
def State.restoreBanks (s : State) (p : Nat) : State :=
  (s.banksOf p).foldl (fun s b =>
    s.modBank b (fun k => { k with restoreAt := some (s.rd R.DMB_JOURNAL_COUNT.ENTRIES b) })) s

/-- A detected data error at step st starts restore and replay (R254), or restarts it during a recovery (R256). Steps of the
failing cycle that have executed in the open do not do so again (R257). -/
def State.startReplay (s : State) (p : Nat) (e : DataError) (st : Nat) : State :=
  let cyc := s.rd64 R.PRT_CYCLE_LO.COUNT R.PRT_CYCLE_HI.COUNT p
  let x := s.part p
  let r : Replay :=
    match x.replay with
    | some r => { r with
        restoring := true, errors := r.errors + 1, logPos := 0, step := st, last := e
        sf := if cyc = r.cf then max r.sf st else r.sf
        tick := if s.cas.held then r.tick else s.casTick }
    | none => ⟨x.snapCycle, cyc, st, true, e, 1, s.now, 0, x.recDeliv, st, e, s.casTick⟩
  let s0 := if x.replay.isNone then s.sampleReplay p else s
  ((s0.restoreBanks p).modPart p (fun y => { y with
    replay := some r, pendErr := none, inCycle := true, step := 0, waits := y.waits &&& causeFreeze })).resEvent p e 4

/-- Whether two errors are at the same berry, row, word or instruction (R256). -/
def sameLocation (a b : DataError) : Bool :=
  a.kind == b.kind && a.bunch == b.bunch && a.berry == b.berry && a.pos == b.pos && a.word == b.word

/-- The shadow rows of a berry go to the spare that replaces it (R250, R256). -/
def State.remapShadow (s : State) (q b d : Nat) : State :=
  (List.range d).foldl (fun s r =>
    { s with shadow := SMap.set 0 s.shadow (rowKey q 16 r) (SMap.get 0 s.shadow (rowKey q b r)) }.setEcc clsShadow
      (rowKey q 16 r) (s.ecc clsShadow (rowKey q b r))) s

/-- The berry remap of R239 as the hardware makes it: rows 0 to D − 1 and the instructions go to the spare, corrected,
with the shadow rows of a snapshot, and the spare replaces the berry. -/
def State.remapBerry (s : State) (n b d : Nat) : State :=
  let q := s.physBunch n
  let s1 := (List.range d).foldl (fun s r =>
    let k := rowKey q b r
    let e := if s.ecc clsRow k = 1 then 0 else s.ecc clsRow k
    { s with rows := SMap.set 0 s.rows (rowKey q 16 r) (SMap.get 0 s.rows k) }.setEcc clsRow (rowKey q 16 r) e) s
  let words := s1.istore.range (isKey q b 0 0) (isKey q b d 0)
  let ist := words.foldl (fun m e => SMap.set idleWord m (e.1 - isKey q b 0 0 + isKey q 16 0 0) e.2)
    (s1.istore.delRange (isKey q 16 0 0) (isKey q 16 d 0))
  let hl := s1.health.delRange (healthKey clsIstore (isKey q 16 0 0)) (healthKey clsIstore (isKey q 16 d 0))
  let s3 := ({ s1 with istore := ist, health := hl } : State).remapShadow q b d
  let s4 := (s3.wr R.ORC_BERRY_REMAP.BERRY q b).wr R.ORC_BERRY_REMAP.EN q 1
  ((s4.raise .orc n 1).logEvent 0x10 n 3 evRemap n b).spareCounts

/-- Whether the spare berry of a bunch can replace a berry (R239). -/
def State.spareReady (s : State) (n : Nat) : Bool :=
  s.on R.RES_CTRL.AUTO_REMAP 0 && !s.on R.ORC_BERRY_REMAP.EN (s.physBunch n) &&
    !s.on R.ORC_SPARE_STATUS.BERRY_SPARE_BAD (s.physBunch n)

/-- A detected data error in a partition that is in no group, at step st (R242, R243, R254, R256). -/
def State.errorAlone (s : State) (p : Nat) (e : DataError) (st : Nat) : State :=
  match (s.part p).replay with
  | some r =>
    if 2 ≤ r.errors then s.unabsorbed p e st
    else if sameLocation r.err e && e.kind != 3 then
      if s.spareReady e.bunch then (((s.remapBerry e.bunch e.berry (s.depth p)).degraded p 2).startReplay p e st).absorbed p 2
      else s.unabsorbed p e st
    else s.startReplay p e st
  | none => if s.protectedBySnap p then s.startReplay p e st else s.unabsorbed p e st

/-- The log engine reads n words of the log, each as any port does (R127, R128). -/
def State.readLog (s : State) (p b w : Nat) : Nat → List W128 × State
  | 0 => ([], s)
  | n + 1 =>
    match s.readBank b (w % bankWords) 63 with
    | (some v, s1) => let r := s1.readLog p b (w + 1) n; (v :: r.1, r.2)
    | (none, s1) =>
      let s2 := s1.modPart p (fun x => { x with pendErr := some ⟨3, b, 0, 0, w % bankWords, 0⟩ })
      let r := s2.readLog p b (w + 1) n
      (0 :: r.1, r.2)

/-- Inputs of the cycle that begins in a replay (R254 orders 4 and 5): the record at the log position, or the partial
record of the failing cycle. A word of the log that cannot be read is a detected data error of the cycle's first step (R128,
R234; DEDUCED, log entry 228). -/
def State.replayInputs (s : State) (p : Nat) : State :=
  match (s.part p).replay with
  | none => s
  | some r =>
    let bs := s.bunches p
    let cyc := s.rd64 R.PRT_CYCLE_LO.COUNT R.PRT_CYCLE_HI.COUNT p
    if cyc = r.cf then
      let s1 := (List.range bs.length).foldl (fun s i =>
        { s with fabCap := SMap.set 0 s.fabCap (bs.getD i 0) ((s.part p).recIn.getD i 0) }) s
      { s1 with replayExch := s1.replayExch.keep (fun k => k / 64 != p) }.modPart p (fun x => { x with
        replay := some { r with deliv := x.recDeliv } })
    else
      let (b, w) := s.logBase p
      let (head, s0) := s.readLog p b (w + r.logPos) 1
      let len := bitsOf (head.headD 0).toNat 64 16
      let (body, s0) := s0.readLog p b (w + r.logPos + 1) (len - 1)
      let word (i : Nat) : W128 := (head ++ body).getD i 0
      let nIn := (bs.length + 1) / 2
      let s1 := (List.range bs.length).foldl (fun s i =>
        let v : BitVec 64 := BitVec.ofNat 64 (bitsOf (word (1 + i / 2)).toNat (64 * (i % 2)) 64)
        { s with fabCap := SMap.set 0 s.fabCap (bs.getD i 0) v }) s0
      let s2 := (List.range (s.window p).2.2).foldl (fun s i =>
        { s with replayExch := SMap.put s.replayExch (p * 64 + i) (word (1 + nIn + i)) }) s1
      let nDel := min (bitsOf (word 0).toNat 80 16) (5 * len)
      let dels := (List.range nDel).map (fun i =>
        bitsOf (word (1 + nIn + (s.window p).2.2 + i / 5)).toNat (24 * (i % 5)) 24)
      s2.modPart p (fun x => { x with replay := some { r with logPos := r.logPos + len, deliv := dels } })

/-- Whether every journal of the partition has been restored. -/
def State.banksRestored (s : State) (p : Nat) : Bool :=
  (s.banksOf p).all (fun b => (s.bank b).restoreAt.isNone)

/-- Rows come back from their shadows (R254 order 2, R251): while the capture cycle was running, only rows below the
failing step. A row that cannot be read makes the error unabsorbed. -/
def State.restoreRows (s : State) (p upTo : Nat) : State :=
  (s.bunches p).foldl (fun s n =>
    (List.range 16).foldl (fun s b =>
      (List.range upTo).foldl (fun s r =>
        let k := s.rowAt n b r
        { s with rows := SMap.set 0 s.rows k (SMap.get 0 s.shadow k) }.setEcc clsRow k 0) s) s) s

/-- Whether a shadow row of the partition is uncorrectable (R234: the snapshot is lost). -/
def State.shadowBad (s : State) (p upTo : Nat) : Bool :=
  (s.bunches p).any fun n => (List.range 16).any fun b =>
    (List.range upTo).any fun r => decide (2 ≤ s.ecc clsShadow (s.rowAt n b r))

/-- RESTORE_DONE: with journals, rows and registers restored, cycles from c_s run again (R254). -/
def doRestoreDone (p : Nat) (s : State) : State :=
  match (s.part p).replay with
  | none => s
  | some r =>
    if !r.restoring || !s.banksRestored p then s
    else
      let capturing := s.on (R.RES_SNAP.CAPTURING p) 0 && r.cf == r.cs
      let upTo := if capturing then r.step else s.depth p
      let badRow := capturing && r.last.kind == 2 && decide (r.step ≤ r.last.pos)
      if s.shadowBad p upTo || badRow then s.unabsorbed p r.last r.step
      else
        let s1 := (s.restoreRows p upTo).restoreRegs p (s.part p).snap
        let s2 := (s1.wr64 R.PRT_CYCLE_LO.COUNT R.PRT_CYCLE_HI.COUNT p r.cs).modPart p (fun x => { x with
          replay := some { r with restoring := false, logPos := 0 }, step := 0, inCycle := true })
        s2.replayInputs p

/-- RESTORE_DONE (R254). -/
def execRestoreDone (p : Fin 64) (s : State) : Host.Outcome State Fault Refusal := .next (doRestoreDone p s)

end Sys2Proof.Machine
end

