-- ==== Sys2Proof/Machine/Orchard.lean ====
section
/-! DEFINITION. Machine/Orchard.lean: a step of a partition (R42 to R71), its cycle releases (R85 to R96), its cycle boundary
(R97 to R101, R105), and the completion of far transfers and handovers. -/

namespace Sys2Proof.Machine
open Sys2Proof

/-! ## Results of a step -/

/-- The results of all pips of a member that hold a non-idle instruction, in ascending global pip order. -/
def State.results (s : State) (m l st : Nat) : List PipResult :=
  (s.fetch m st).map (fun x => s.pipResult m l x)

/-- Bits a berry's pips write into its row (R54): a mask and values over the 64 pips. -/
def rowBits (rs : List PipResult) (n b : Nat) : Nat × Nat :=
  (rs.filter (fun r => r.pip / 64 == n * 16 + b && r.write)).foldl
    (fun a r => (setBit a.1 (r.pip % 64) 1, setBit a.2 (r.pip % 64) r.result)) (0, 0)

/-- The row after the berry's write at the end of the step (R54): written bits from the results, others kept. -/
def mergeRow (old : BitVec 64) (rs : List PipResult) (n b : Nat) : BitVec 64 :=
  let (mask, val) := rowBits rs n b
  (old &&& ~~~(BitVec.ofNat 64 mask)) ||| BitVec.ofNat 64 val

/-- Row st of every berry of a member is written (R54). -/
def State.writeRows (s : State) (m st : Nat) (rs : List PipResult) : State :=
  (s.bunches m).foldl (fun s n =>
    (List.range 16).foldl (fun s b =>
      let k := s.rowAt n b st
      { s with rows := SMap.set 0 s.rows k (mergeRow (SMap.get 0 s.rows k) rs n b) }.setEcc clsRow k 0) s) s

/-- The lane register of a bunch after the step: every pip's result, 0 for the idle ones (R58). -/
def laneBits (rs : List PipResult) (n : Nat) : BitVec 1024 :=
  BitVec.ofNat 1024 ((rs.filter (fun r => r.pip / 1024 == n)).foldl (fun a r => setBit a (r.pip % 1024) r.result) 0)

/-- Lane registers of a member's bunches (R58), then the channels its bunches capture from neighbours of the same
member (R59). -/
def State.writeLanes (s : State) (m : Nat) (rs : List PipResult) : State :=
  let bs := s.bunches m
  let s1 := bs.foldl (fun s n => { s with lanes := SMap.set 0 s.lanes n (laneBits rs n) }) s
  bs.foldl (fun s n =>
    (List.range 4).foldl (fun s dir =>
      match neighbour n dir with
      | none => s
      | some q =>
        if bs.contains q then
          let v : BitVec 64 := BitVec.ofNat 64 (bitsOf (SMap.get 0 s.lanes q).toNat (64 * facingBerry dir) 64)
          { s with chans := SMap.set 0 s.chans (n * 4 + dir) v }
        else s) s) s1

/-! ## Secondary destinations (R50, R51) -/

/-- A partition's STEP is on the running step tick, or, where it has had one there, on the next (DESIGN CHOICE, log entry
232). -/
def State.onTick (s : State) (p : Nat) : State :=
  if s.onStep.parts.contains p then { s with onStep := { parts := [p] } }
  else { s with onStep := { s.onStep with parts := p :: s.onStep.parts } }

/-- A probe bit takes the result of a pip (R69): held back while the group is isolated (R117) or replays (R255), and written
only by the acting member of a group (R246). Of the instructions that write it on one step tick, the one with the highest global
pip number counts (R51, R410). -/
def State.writeProbe (s : State) (m l u bit pip v : Nat) : State :=
  if s.actingOf l != m then s
  else if s.on R.PRT_STATUS.ISOLATED l || (s.part l).replay.isSome then
    s.modPart l (fun x => { x with probeBuf := SMap.put x.probeBuf (u * 128 + bit) v })
  else if pip + 1 < SMap.get 0 s.onStep.probes (u * 128 + bit) then s
  else
    { s with
        probes := SMap.set 0 s.probes u (BitVec.ofNat 128 (setBit (SMap.get 0 s.probes u).toNat bit v))
        onStep := { s.onStep with probes := SMap.set 0 s.onStep.probes (u * 128 + bit) (pip + 1) } }

/-- Whether a member's orchard-to-model writes go to a private copy: in a group (R246) and during a replay (R255). -/
def State.privateExch (s : State) (l : Nat) : Bool := s.isLead l || (s.part l).replay.isSome

/-- An orchard-to-model bit takes a result (R50, R98). -/
def State.writeExch (s : State) (m l r bit v : Nat) : State :=
  let (core, base, _) := s.window l
  if s.privateExch l then
    let k := m * 64 + r
    { s with exchPriv := SMap.set 0 s.exchPriv k (BitVec.ofNat 128 (setBit (SMap.get 0 s.exchPriv k).toNat bit v)) }
  else
    let ph := s.rd R.PRT_STATUS.XPHASE l
    s.setExch core (base + r) 1 ph (BitVec.ofNat 128 (setBit (s.exchBuf core (base + r) 1 ph).toNat bit v))

/-- One pip's secondary destination takes its result at the end of the step (R50). Cascade transmit slots hold their values in
the steps of a replay that have run before (R255), and take those of the steps that run in the open (R257; DEDUCED, log entry
226). -/
def State.writeDest (s : State) (m l : Nat) (r : PipResult) : State :=
  let n := r.pip / 1024
  let i := pipDidx r.word
  match pipDclass r.word with
  | 1 =>
    { s with
        fabOwn := SMap.set 0 s.fabOwn n
          (BitVec.ofNat 64 (setBit (SMap.get 0 s.fabOwn n).toNat (i % 64) r.result)) }
  | 2 =>
    if i % 32 < 24 ∧ s.stepLive l then
      let k := bitsOf i 8 2 * 8 + bitsOf i 5 3
      { s with
          txSlots := SMap.set 0 s.txSlots k
            (BitVec.ofNat 24 (setBit (SMap.get 0 s.txSlots k).toNat (i % 32) r.result)) }
    else s
  | 3 => s.writeExch m l (bitsOf i 7 6) (i % 128) r.result
  | 4 =>
    if i % 32 < 24 then
      { s with
          addrStage := SMap.set 0 s.addrStage n
            (BitVec.ofNat 24 (setBit (SMap.get 0 s.addrStage n).toNat (i % 32) r.result)) }
    else s
  | 5 =>
    { s with
        wdataStage := SMap.set 0 s.wdataStage n
          (BitVec.ofNat 128 (setBit (SMap.get 0 s.wdataStage n).toNat (i % 128) r.result)) }
  | 7 => s.writeProbe m l (bitsOf i 7 2) (i % 128) r.pip r.result
  | _ => s

/-! ## Memory commands (R61 to R65) -/

/-- The joining members whose banks mirror a source's writes (R249). -/
def State.mirrors (s : State) (m l : Nat) : List Nat :=
  if s.isLead l && s.actingOf l == m then
    (s.members l).filter (fun j => s.rd (R.RES_GROUP.MSTATE j) 0 == 2 && decide (2 ≤ (s.part j).rejoin))
  else []

/-- A local write at the orchard port of a bank, mirrored into joining members' banks (R62, R64, R249). -/
def State.localWrite (s : State) (m l n w : Nat) (v : W128) : State :=
  (s.mirrors m l).foldl (fun s j =>
    let q := s.corresponds m j n
    if s.berthNames q 1 j then (s.writeBank q w v false).clearBankResv q w else s)
    ((s.writeBank n w v false).clearBankResv n w)

/-- A local read fires: its word loads at the end of the next executed step (R63); an uncorrectable word loads nothing
and is a detected data error of the next step (R128, R242). -/
def State.localRead (s : State) (p n : Nat) (c : MemWait) : State :=
  match s.readBank n (c.addr % 2 ^ 18) 63 with
  | (some v, s1) => { s1 with rpend := SMap.set none s1.rpend n (some v) }
  | (none, s1) =>
    s1.modPart p (fun x => { x with
      pendErr := some ⟨3, n, c.pip / 64 % 16, c.step, c.addr % 2 ^ 18, c.pip⟩ })

/-- A memory command acts on the bunch's own bank (R62 to R64). -/
def State.localCommand (s : State) (m l : Nat) (c : MemWait) : State :=
  if c.kind = 0 then s.localRead m c.bunch c else s.localWrite m l c.bunch (c.addr % 2 ^ 18) c.data

/-- A memory command fires (R62, R65): local ones act at once where the berth names the partition and wait for the
token otherwise; far ones go out through the NoC and wait for their transfer. -/
def State.fireCommand (s : State) (m l : Nat) (c : MemWait) : State :=
  if c.kind < 2 then
    if s.berthNames c.bunch 1 m then s.localCommand m l c
    else (s.modPart m (fun x => { x with memWaits := x.memWaits ++ [c] })).hold l causeBerth
  else
    let bank := c.addr / 2 ^ 18
    ((s.modPart m (fun x => { x with memWaits := x.memWaits ++ [c] })).hold l causeFar).quaySend (c.bunch / 8)
      c.bunch (b2n (c.kind == 3)) (bankAddress bank (c.addr % 2 ^ 18)) 65535 (if c.kind = 3 then [c.data] else [])

/-- The commands that fire at a step, with the staging registers as they stand at its start (R50, R61). -/
def State.commands (s : State) (rs : List PipResult) (st : Nat) : List MemWait :=
  (rs.filter (fun r => pipDclass r.word == 6 && r.result == 1)).map fun r =>
    let n := r.pip / 1024
    ⟨n, pipDidx r.word % 4, (SMap.get 0 s.addrStage n).toNat, SMap.get 0 s.wdataStage n, r.pip, st⟩

/-- At the end of an executed step the word of a local read fired one step earlier loads (R63). -/
def State.loadReadData (s : State) (m : Nat) : State :=
  (s.bunches m).foldl (fun s n =>
    match SMap.get none s.rpend n with
    | some v => { s with rdata := SMap.set 0 s.rdata n v, rpend := SMap.set none s.rpend n none }
    | none => s) s

/-! ## The step of one member -/

/-- A berry's row of a step as eight little-endian bytes joins the cycle signature (R247). -/
def State.signRows (s : State) (m st : Nat) : State :=
  if s.role m = 0 then s
  else
    let sg := (s.bunches m).foldl (fun c n =>
      (List.range 16).foldl (fun c b => crcBytes c (SMap.get 0 s.rows (s.rowAt n b st)).toNat 8) c) (s.part m).sig
    s.modPart m (fun x => { x with sig := sg })

/-- The berries' rows of a step as written also go to joining members whose row copy runs (R249). -/
def State.copyRowsToJoiners (s : State) (m l st : Nat) : State :=
  ((s.mirrors m l).filter (fun j => (s.part j).rejoin == 4)).foldl (fun s j =>
    (s.bunches m).foldl (fun s n =>
      (List.range 16).foldl (fun s b =>
        let k := s.rowAt (s.corresponds m j n) b st
        { s with rows := SMap.set 0 s.rows k (SMap.get 0 s.rows (s.rowAt n b st)) }.setEcc clsRow k 0) s) s) s

/-- An instruction with BRK produces 1 (R52): the partition stops at the end of its cycle, and its unit at a boundary (R229). A
step that a replay runs again signals nothing more (DESIGN CHOICE, log entry 215). -/
def State.stepBreak (s : State) (l : Nat) : State :=
  if s.stepLive l then
    let s1 := (s.modPart l (fun x => { x with brk := true })).raise .prt l 4
    if s1.inUnit l && s1.cas.started && !(s.part l).brk then s1.requestStop 3 else s1
  else s

/-- One member executes step st: operands are read from the state before the step (R47), and rows, lanes, channels,
destinations and commands take effect at its end (R54 to R65). -/
def State.execStepOf (s : State) (m l st : Nat) : State :=
  let rs := s.results m l st
  let cmds := s.commands rs st
  let s0 := if s.on (R.RES_SNAP.CAPTURING m) 0 then s.captureRows m st else s
  let s1 := (s0.writeRows m st rs).writeLanes m rs
  let s2 := rs.foldl (fun s r => s.writeDest m l r) s1
  let s3 := cmds.foldl (fun s c => s.fireCommand m l c) (s2.loadReadData m)
  ((if rs.any (fun r => pipBrk r.word == 1 && r.result == 1) then s3.stepBreak l else s3).signRows m st).copyRowsToJoiners
    m l st

/-! ## Errors met by a step (R235, R238, R240, R242) -/

/-- The instruction words of a step with a given least check state, as global pips in ascending order. -/
def State.badFetches (s : State) (m st least : Nat) : List Nat :=
  (s.bunches m).flatMap fun n =>
    (List.range 16).flatMap fun b =>
      let base := healthKey clsIstore (s.isAt n b st 0)
      ((s.health.range base (base + 64)).filter (fun e => decide (least ≤ e.2))).map
        (fun e => globalPip n b (e.1 - base))

/-- Two errors are of the same row. -/
def sameRow (a b : DataError) : Bool := a.bunch == b.bunch && a.berry == b.berry && a.pos == b.pos

/-- One error for each row of a list, the first. -/
def distinctRows : List DataError → List DataError
  | [] => []
  | e :: r => e :: (distinctRows r).filter (fun x => !sameRow x e)

/-- The uncorrectable rows that a member meets at a step: those its operands read, each with the lowest pip that reads it, then
those of its own writes (R240, R243). -/
def State.rowErrors (s : State) (m st : Nat) : List DataError :=
  let reads : List DataError := (s.fetch m st).flatMap (fun x =>
    let n := x.1 / 1024
    let b := x.1 / 64 % 16
    ((rowOperands x.2).filter (fun a => decide (2 ≤ s.ecc clsRow (s.rowAt n b (a % 1024))))).map
      (fun a => ⟨2, n, b, a % 1024, 0, x.1⟩))
  let writes : List DataError := (s.bunches m).flatMap fun n => (List.range 16).filterMap fun b =>
    if 2 ≤ s.ecc clsRow (s.rowAt n b st) then some ⟨2, n, b, st, 0, globalPip n b 0⟩ else none
  distinctRows (reads ++ writes)

/-- An uncorrectable fetch of a pip at a step (R243). -/
def fetchErrorOf (st g : Nat) : DataError := ⟨1, g / 1024, g / 64 % 16, st, 0, g⟩

/-- The detected data errors of a member at a step (R240, R242): one that an earlier command has left, or every uncorrectable
fetch, where the member is one of a group (`member`), and every uncorrectable row. -/
def State.stepErrors (s : State) (m st : Nat) (member : Bool) : List DataError :=
  match (s.part m).pendErr with
  | some e => [e]
  | none => (if member then (s.badFetches m st 2).map (fetchErrorOf st) else []) ++ s.rowErrors m st

/-- The first of some errors: the one with the lowest pip (R243). -/
def firstError : List DataError → Option DataError
  | [] => none
  | e :: r =>
    match firstError r with
    | none => some e
    | some x => if x.pip < e.pip then some x else some e

/-- Every detected data error increments the count of its kind (R242). -/
def State.countErrors (s : State) (es : List DataError) : State := es.foldl (fun s e => s.countError e) s

/-- Corrections of a step that executes: fetched words and rows with a single-bit error are counted, and the words
wait for their write-back (R235, R240, R268). -/
def State.countCorrections (s : State) (m st : Nat) : State :=
  let fs := s.badFetches m st 1
  let read := ((s.fetch m st).flatMap fun x => (rowOperands x.2).map (fun a =>
    s.rowAt (x.1 / 1024) (x.1 / 64 % 16) (a % 1024))).filter (fun k => s.ecc clsRow k == 1)
  let own := ((s.bunches m).flatMap fun n => (List.range 16).map (fun b => s.rowAt n b st)).filter
    (fun k => s.ecc clsRow k == 1)
  let rows := (read ++ own).eraseDups.length
  let s1 := s.count R.RES_IS_CE_COUNT.COUNT 0 fs.length
  let s2 := s1.count R.RES_SS_CE_COUNT.COUNT 0 rows
  let s3 := { s2 with isWritebacks := (s2.isWritebacks ++
    fs.map (fun g => s.isAt (g / 1024) (g / 64 % 16) st (g % 64))).eraseDups }
  if fs.isEmpty && rows == 0 then s else s3.absorbed m 0

/-! ## The step command -/

/-- A contract fault: the step does not execute and the partition or group enters Fault (R71, R109). -/
def State.contractFault (s : State) (l chk pip st : Nat) : State :=
  let cyc := s.rd64 R.PRT_CYCLE_LO.COUNT R.PRT_CYCLE_HI.COUNT l
  let s1 := ((((s.endJoins l).setState l 7).wr R.PRT_FAULT_INFO.CHECK l chk).wr R.PRT_FAULT_INFO.STEP l st).wr
    R.PRT_FAULT_INFO.PIP l pip
  let s2 := (s1.wr64 R.PRT_FAULT_CYCLE_LO.COUNT R.PRT_FAULT_CYCLE_HI.COUNT l cyc).raise .prt l 5
  let s3 := (s2.wr R.PRT_STATUS.STALLED l 0).modPart l (fun x => { x with
    inCycle := false, waits := 0, memWaits := [], ledger := faultLedger x.ledger })
  if s.inUnit l then s3.report .fault l else s3

/-- Errors of a group's members at a step: each member that meets one is dropped, unless every active member does
(R248). -/
def State.groupErrors (s : State) (l st : Nat) : List (Nat × DataError) :=
  (s.activeMembers l).filterMap (fun m => (firstError (s.stepErrors m st true)).map (fun e => (m, e)))

/-- The counts of the errors that a group's active members meet at a step (R242). -/
def State.countGroup (s : State) (l st : Nat) : State :=
  (s.activeMembers l).foldl (fun t m => t.countErrors (s.stepErrors m st true)) s

/-- A step that runs in the open is one of the unit's executed steps: what is owed to the unit shrinks, and where it is made up
before the hold ends the partition waits for RESUME (R196, R225, R257). -/
def State.countStep (s : State) (l : Nat) : State :=
  s.modPart l (fun x => { x with
    executed := x.executed + 1, deficit := x.deficit - 1
    waits := if x.deficit = 1 ∧ s.cas.held then x.waits ||| causeCascade else x.waits })

/-- The members given execute step st of a partition or group l, which ends a stall (R54, R111, R245). -/
def State.runMembers (s : State) (l st : Nat) (ms : List Nat) : State :=
  let s1 := ms.foldl (fun s m => s.countCorrections m st) s
  let s2 := s1.stallEnd l
  let s3 := ms.foldl (fun s m => s.execStepOf m l st) s2
  let n := (s.part l).executed
  let live := s.stepLive l
  let s4 := (if live then s3.countStep l else s3).modPart l (fun x => { x with step := st + 1, refetched := false })
  let s5 := if (s.part l).replay.isNone then s4.sampleClock l 1 none else s4
  if s.inUnit l && live then s5.unitStepEnd l n st else s5

/-- A step of a partition or group l that nothing holds: checks, errors, then execution by every active member
(R70, R245, R248). Where a step meets both, the failing check comes before a data error (DESIGN CHOICE, log entry 213); of a
group whose members fail a check the first is recorded, the lead first, on the lead's page (DESIGN CHOICE, log entry 224). -/
def State.runStep (s : State) (l st : Nat) : State :=
  let members := if s.isLead l then s.activeMembers l else [l]
  let checks := members.filterMap (fun m => s.fetchCheck m l st)
  match checks with
  | (chk, pip) :: _ => (s.stallEnd l).contractFault l chk pip st
  | [] =>
    if s.isLead l then
      let errs := s.groupErrors l st
      if errs.length = members.length then
        match errs with
        | (_, e) :: _ => ((s.stallEnd l).countGroup l st).unabsorbed l e st
        | [] => s
      else
        let s1 := errs.foldl (fun s x => s.dropMember l x.1 x.2) (s.countGroup l st)
        s1.runMembers l st (members.filter (fun m => !(errs.map (fun x => x.1)).contains m))
    else
      match (s.badFetches l st 2).head? with
      | some g =>
        let es := (s.badFetches l st 2).map (fetchErrorOf st)
        (((s.countErrors es).resEvent l (fetchErrorOf st g) 1).hold l causeRefetch).stallBegin l (s.holders l ||| causeRefetch)
      | none =>
        match firstError (s.stepErrors l st false) with
        | some e =>
          (((s.stallEnd l).countErrors (s.stepErrors l st false)).modPart l (fun x => { x with pendErr := none })).errorAlone l
            e st
        | none => s.runMembers l st [l]

/-- Replayed deliveries for steps before the failing one come from the log (R257): the deliveries of this step. -/
def State.replayDeliver (s : State) (p st : Nat) : State :=
  match (s.part p).replay with
  | none => s
  | some r =>
    let ds := s.deliveriesOf p st
    let s1 := (List.range ds.length).foldl (fun s i =>
      let d := ds.getD i (0, 0, 0)
      { s with rxSlots := SMap.set 0 s.rxSlots (d.1 * 8 + d.2.1) (BitVec.ofNat 24 (r.deliv.getD i 0)) }) s
    s1.modPart p (fun x => { x with replay := some { r with deliv := r.deliv.drop ds.length } })

/-- What a unit partition receives before step st (R213), recorded for the replay log (R253): from the log in the steps of a
replay that have run before, live in the others (R257). -/
def State.receive (s : State) (p st : Nat) : State :=
  if !s.stepLive p then s.replayDeliver p st
  else
    let s1 := s.deliverAll p (s.part p).executed st
    if s.snapOn p then
      let got := (s.deliveriesOf p st).map (fun d => (SMap.get 0 s1.rxSlots (d.1 * 8 + d.2.1)).toNat)
      s1.modPart p (fun x => { x with recDeliv := x.recDeliv ++ got })
    else s1

/-- A step tick of a partition that stands between two cycles: a freeze is a stall from the first tick after it to its
resumption, wherever it found the partition (R110, R114). -/
def State.betweenCycles (s : State) (p : Nat) : State :=
  if s.isFollower p || s.rd R.DBG_STATUS.EMU 0 != 0 then s
  else if s.pstate p = 6 then s.stallBegin p causeFreeze
  else if (s.pstate p = 3 ∨ s.pstate p = 4) ∧ s.holders p = 0 then s.stallEnd p
  else s

/-! ## Taking a release (R20, R86, R118, R250) -/

/-- The inbound bits of some ports at the orchard's synchroniser (R20): those a command gives, of which bits of a region that
holds its last values keep them, and of the other ports those that the fabric design drives (R306; log entry 230). -/
def State.sampleInbound (s : State) (ports : List Nat) (b : Inbound) : State :=
  let s1 := ports.foldl (fun x n => { x with fabIn := SMap.set 0 x.fabIn n (s.designPort n) }) s
  b.foldl (fun x e => { x with
    fabIn := SMap.set 0 x.fabIn e.1.val (s.inboundDriven e.1.val (SMap.get 0 s.fabIn e.1.val) e.2) }) s1

/-- The inbound bits of a partition's bunches are captured as the orchard's synchroniser holds them (R20, R300, R306). -/
def State.captureInbound (s : State) (p : Nat) (b : Inbound) : State :=
  (s.bunches p).foldl (fun s n =>
    { s with fabCap := SMap.set 0 s.fabCap n (s.inboundSeen n (SMap.get 0 s.fabIn n)) }) (s.sampleInbound (s.bunches p) b)

/-- The partition takes a release and begins step 0 on this tick (R86), with a snapshot before cycle 0 (R250). -/
def State.takeRelease (s : State) (p : Nat) (b : Inbound) : State :=
  let cyc := s.rd64 R.PRT_CYCLE_LO.COUNT R.PRT_CYCLE_HI.COUNT p
  let s1 := if s.pstate p = 3 ∨ s.pstate p = 2 ∨ s.pstate p = 5 then s.setState p 4 else s
  let s2 := (s1.captureInbound p b).modPart p (fun x => { x with
    inCycle := true, step := 0, started := true, recDeliv := [] })
  let s3 := s2.modPart p (fun x => { x with recIn := (s2.bunches p).map (fun n => SMap.get 0 s2.fabCap n) })
  let s4 := if cyc = 0 ∧ s3.snapOn p then s3.takeSnapshot p 0 else s3
  (s4.members p).foldl (fun s m => s.modPart m (fun x => { x with
    sig := crcInit, rejoin := if x.rejoin = 3 then 4 else x.rejoin })) s4

/-- Whether a partition is waiting for a release (R86): Running, between cycles. -/
def State.isWaiting (s : State) (p : Nat) : Bool := s.pstate p == 4 && !(s.part p).inCycle

/-- A waiting partition takes a pending release on the first tick (R87). -/
def State.takePending (s : State) (p : Nat) (b : Inbound) : State :=
  if s.isWaiting p && s.on R.PRT_STATUS.PENDING p && s.rd R.DBG_STATUS.EMU 0 == 0 then (s.wr R.PRT_STATUS.PENDING p 0).takeRelease p b else s

/-- STEP: on a step tick the partition executes its next step, or stalls where something holds it (R54, R111). From the
decision of a halt of emulation no step begins (R491). Receive slots are ignored until the first release after START (R118). -/
def State.stepTick (s : State) (p : Nat) : State :=
  let x := s.part p
  if !x.inCycle then s.betweenCycles p
  else if s.isFollower p || decide (s.depth p ≤ x.step) || !(s.pstate p == 4 || s.pstate p == 6) then s
  else if s.rd R.DBG_STATUS.EMU 0 != 0 || (match x.replay with | some r => r.restoring | none => false) then s
  else if s.holders p != 0 then s.stallBegin p (s.holders p)
  else if s.inUnit p && x.started && s.stepLive p && !(s.deliveries x.step).all (fun d => s.present x.executed d) then
    s.stallBegin p causeCascade
  else (if s.inUnit p && x.started then s.receive p x.step else s).runStep p x.step

/-- STEP: upsets of the tick, a pending release that the partition takes, its step, and the tick of its cascade unit (R54, R87,
R111, R196). -/
def doStep (p : Nat) (u : List Upset) (s : State) : State :=
  let s := (s.onTick p).upset u
  let s1 := if s.isFollower p then s else s.takePending p []
  (s1.stepTick p).unitTick p

/-- STEP (R54). -/
def execStep (p : Fin 64) (u : List Upset) (s : State) : Host.Outcome State Fault Refusal := .next (doStep p u s)

/-! ## Releases (R85 to R96) -/

/-- A partition takes a release, and stalls on its tick where something holds it (R86, R111). -/
def State.beginCycle (s : State) (p : Nat) (b : Inbound) : State :=
  let s1 := s.takeRelease p b
  if s.holders p != 0 then s1.stallBegin p (s.holders p) else s1

/-- A release occurs (R86, R87): on time, or missed and pending or lost; it is missed too on the tick on which a pending one is
taken. A cycle run by SINGLE has none (R103). -/
def State.release (s : State) (p : Nat) (b : Inbound) : State :=
  if s.isFollower p || (s.part p).single then s
  else if s.pstate p = 3 ∧ !s.on R.PRT_STATUS.WAIT_LOCK p then s.beginCycle p b
  else if s.isWaiting p then
    if s.on R.PRT_STATUS.PENDING p then (s.takePending p b).missRelease p else s.beginCycle p b
  else if s.pstate p = 4 ∨ s.pstate p = 6 then s.missRelease p
  else s

/-- Whether a partition waits for the cascade's START, or for the first RELEASE after it: a unit partition takes its first
release there, whatever its source (R230; DEDUCED, log entry 220). -/
def State.awaitsStart (s : State) (p : Nat) : Bool := s.inUnit p && s.pstate p == 3

/-- The period P of a partition timer in 1/65,536 ns (R90). -/
def State.timerPeriod (s : State) (p : Nat) : Nat :=
  65536 * s.rd R.PRT_TIMER_PERIOD_NS.NS p + s.rd R.PRT_TIMER_PERIOD_FRAC.FRAC p

/-- The next grid instant of a partition timer (R90). -/
def State.nextInstant (s : State) (p : Nat) : Nat := (s.part p).gridNext

/-- The first instant at or after t of the grid E + k·P that e lies on; k may be negative (R90, R91). -/
def gridFrom (e period t : Nat) : Nat :=
  if t ≤ e then e - (e - t) / period * period else e + (t - e + (period - 1)) / max period 1 * period

/-- A timer-released partition is released where the time base has reached its next grid instant (R90). -/
def State.timerRelease (s : State) (p : Nat) (b : Inbound) : State :=
  if s.nextInstant p ≤ s.now then
    (s.modPart p (fun x => { x with gridNext := x.gridNext + s.timerPeriod p })).release p b
  else s

/-- TIMER_INSTANT: the time base has reached the next grid instant; one release for each (R90). While halted nothing
is released or counted (R108). -/
def doTimerInstant (p : Nat) (b : Inbound) (s : State) : State :=
  if s.rd R.PRT_CTRL.REL_SRC p = 1 ∧ !s.on R.PRT_STATUS.WAIT_LOCK p ∧
      (s.pstate p = 3 ∨ s.pstate p = 4 ∨ s.pstate p = 6) ∧ !s.emuStopped ∧ !s.awaitsStart p then s.timerRelease p b
  else s

/-- TIMER_INSTANT (R90). -/
def execTimerInstant (p : Fin 64) (b : Inbound) (s : State) : Host.Outcome State Fault Refusal :=
  .next (doTimerInstant p b s)

/-- CYCLE_RELEASE: a release that the partition's source gives on this tick (R85). A free-running partition is released only
while it waits, so it never misses one (R89); a timer-released one where the time base has reached its grid instant (R90); a
pin-released one only for an edge its synchroniser has taken (R94); one of the cascade under REL_MODE 00 while it waits (R198). -/
def doCycleRelease (p : Nat) (b : Inbound) (s : State) : State :=
  match s.rd R.PRT_CTRL.REL_SRC p with
  | 0 => if (s.pstate p = 3 ∨ s.isWaiting p) ∧ !s.awaitsStart p then s.release p b else s
  | 1 => doTimerInstant p b s
  | 2 =>
    if (s.part p).edges = 0 ∨ s.awaitsStart p then s
    else (s.modPart p (fun x => { x with edges := x.edges - 1 })).release p b
  | _ => if s.cas.started && !s.cas.noRelease && s.cas.mode == 0 && s.isWaiting p then s.release p b else s

/-- CYCLE_RELEASE (R86). -/
def execCycleRelease (p : Fin 64) (b : Inbound) (s : State) : Host.Outcome State Fault Refusal :=
  .next (doCycleRelease p b s)

/-- RELEASE_LINE_EDGE: the first synchroniser stage takes an edge of a line. Every partition that selects the line and
the edge is released two ticks later (R94); the cascade master's line does the same under REL_MODE 10, and the order lands
`CAS_LEAD` ticks after that (R198). Lines
are not sampled during a halt: what is left of their changes at its end is an edge then (R108). They are ignored after a
fabric start-up until the blanking ends (R303). -/
def doReleaseLineEdge (l : Nat) (rising : Bool) (s : State) : State :=
  if s.lineIgnored l then s
  else if s.emuStopped then
    { s with haltEdges := if s.haltEdges.any (fun e => e.1 == l) then s.haltEdges.filter (fun e => e.1 != l)
        else s.haltEdges ++ [(l, rising)] }
  else
    let s1 := (List.range 64).foldl (fun s p =>
      if s.rd R.PRT_CTRL.REL_SRC p = 2 ∧ s.rd R.PRT_CTRL.EXT_SEL p = l ∧
          s.rd R.PRT_CTRL.EXT_EDGE p = b2n (!rising) ∧ (s.pstate p = 3 ∨ s.pstate p = 4 ∨ s.pstate p = 6) then
        s.modPart p (fun x => { x with edges := x.edges + 1 })
      else s) s
    if s.isMaster && s.cas.started && !s.cas.noRelease && s.cas.mode == 2 &&
        s.rd R.CAS_CTRL.REL_EXT_SEL 0 == l && s.rd R.CAS_CTRL.REL_EXT_EDGE 0 == b2n (!rising) then
      s1.issueOrder .release (s1.rd R.CAS_LEAD.TICKS 0 + 2) 0
    else s1

/-- RELEASE_LINE_EDGE (R94). -/
def execReleaseLineEdge (l : Fin 32) (rising : Bool) (s : State) : Host.Outcome State Fault Refusal :=
  .next (doReleaseLineEdge l rising s)

/-! ## The cycle boundary (R99) -/

/-- The registers of an exchange window that a partition owns: the partition whose window took each first (R97). -/
def State.exchOwner (s : State) (core reg : Nat) : Option Nat :=
  (s.exchTook.find? (fun e => e.1 == core * 64 + reg)).map (fun e => e.2)

/-- The majority of three words, bit by bit (R246). -/
def majority {w : Nat} (a b c : BitVec w) : BitVec w := (a &&& b) ||| (a &&& c) ||| (b &&& c)

/-- The value a group presents from its members' values: the acting member's, or the majority of three (R246). -/
def State.vote {w : Nat} (s : State) (l : Nat) (val : Nat → BitVec w) : BitVec w :=
  match s.activeMembers l with
  | [a, b, c] => majority (val a) (val b) (val c)
  | _ => val (s.actingOf l)

/-- Every outbound bit of the partition's bunches presents the value last written (R21), the vote of a group (R246). Isolation
that no START ends holds what was presented before (R103, R117). -/
def State.presentFabric (s : State) (l : Nat) : State :=
  if s.on R.PRT_STATUS.ISOLATED l && !(s.part l).opened then s
  else (s.bunches l).foldl (fun s n =>
    let v := if s.isLead l then s.vote l (fun m => SMap.get 0 s.fabOwn (s.corresponds l m n))
      else SMap.get 0 s.fabOwn n
    { s with fabPres := SMap.set 0 s.fabPres n v }) s

/-- The exchange actions of the boundary: the phase flips, the orchard-to-model buffer just closed is copied into the
one now open to the orchard, and the model-to-orchard buffer now open to the orchard into the one now open to the
core (R99). Only registers that the partition owns follow it (R97). -/
def State.exchBoundary (s : State) (l : Nat) : State :=
  let (core, base, count) := s.window l
  let ph := s.rd R.PRT_STATUS.XPHASE l
  let s1 := s.wr R.PRT_STATUS.XPHASE l (1 - ph)
  (List.range count).foldl (fun s r =>
    if s.exchOwner core (base + r) = some l then
      let closed := if s.privateExch l then s.vote l (fun m => SMap.get 0 s.exchPriv (m * 64 + r))
        else s.exchBuf core (base + r) 1 ph
      ((s.setExch core (base + r) 1 ph closed).setExch core (base + r) 1 (1 - ph) closed).setExch core (base + r) 0 ph
        (s.exchBuf core (base + r) 0 (1 - ph))
    else s) s1

/-- Isolation is released at the first boundary after START: probe bits held back take the partition's values (R117). The
boundary of a cycle that SINGLE runs before it releases nothing (R103). -/
def State.releaseIsolation (s : State) (l : Nat) : State :=
  if !(s.part l).opened then s
  else
  let buf := (s.part l).probeBuf
  let s1 := buf.foldl (fun s e =>
    let u := e.1 / 128
    { s with
        probes := SMap.set 0 s.probes u
          (BitVec.ofNat 128 (setBit (SMap.get 0 s.probes u).toNat (e.1 % 128) e.2)) }) s
  ((s1.members l).foldl (fun s m => s.wr R.PRT_STATUS.ISOLATED m 0) s1).modPart l (fun x => { x with probeBuf := [] })

/-- The signatures of a group's active members are compared (R247). -/
def State.compareSignatures (s : State) (l : Nat) : State :=
  let sg (m : Nat) : Nat := (s.part m).sig
  let outs (m : Nat) : List (BitVec 64) := (s.bunches l).map (fun n => SMap.get 0 s.fabOwn (s.corresponds l m n))
  let xs (m : Nat) : List W128 := (List.range (s.window l).2.2).map (fun r => SMap.get 0 s.exchPriv (m * 64 + r))
  let same (a b : Nat) : Bool := sg a == sg b && outs a == outs b && xs a == xs b
  let odd (m : Nat) : State :=
    ((s.dropMember l m ⟨4, (s.bunches m).headD 0, 0, 0, 0, 0⟩).raise .res 0 3)
  let noMajority : State :=
    (((s.raise .res 0 3).logEvent 0x0D l 2 evDiverge 0 0).resEvent l ⟨4, (s.bunches l).headD 0, 0, 0, 0, 0⟩ 0)
  match s.activeMembers l with
  | [a, b, c] =>
    if same a b && same b c then s
    else if same a b then odd c
    else if same a c then odd b
    else if same b c then odd a
    else noMajority
  | [a, b] => if same a b then s else noMajority
  | _ => s

/-- Registers of the source go to a member whose row-copy cycle ends, and it runs in lockstep from the next cycle
(R249). -/
def State.finishJoins (s : State) (l : Nat) : State :=
  (s.members l).foldl (fun s j =>
    if (s.part j).rejoin = 4 then
      let src := s.actingOf l
      let s1 := (s.bunches src).foldl (fun s n =>
        let q := s.corresponds src j n
        let s2 := { s with
          lanes := SMap.set 0 s.lanes q (SMap.get 0 s.lanes n)
          addrStage := SMap.set 0 s.addrStage q (SMap.get 0 s.addrStage n)
          wdataStage := SMap.set 0 s.wdataStage q (SMap.get 0 s.wdataStage n)
          rdata := SMap.set 0 s.rdata q (SMap.get 0 s.rdata n)
          rpend := SMap.set none s.rpend q (SMap.get none s.rpend n)
          fabOwn := SMap.set 0 s.fabOwn q (SMap.get 0 s.fabOwn n) }
        (List.range 4).foldl (fun s d =>
          { s with chans := SMap.set 0 s.chans (q * 4 + d) (SMap.get 0 s.chans (n * 4 + d)) }) s2) s
      let s3 := (List.range 64).foldl (fun s r =>
        { s with exchPriv := SMap.set 0 s.exchPriv (j * 64 + r) (SMap.get 0 s.exchPriv (src * 64 + r)) }) s1
      ((((s3.wr (R.RES_GROUP.MSTATE j) 0 0).wr R.RES_STATUS.CMD_BUSY 0 0).modPart j
        (fun x => { x with rejoin := 0, pendErr := none })).raise .res 0 8).absorbed j 6
    else s) s

/-- The rank of a stop's cause: breakpoint, SINGLE, STOP (R105); 0 where the cycle ends none. -/
def State.stopRank (s : State) (l : Nat) : Nat :=
  let x := s.part l
  if s.inUnit l && s.cas.started then
    if x.stopLanded then max s.cas.stopCause 1 else if x.single then 2 else 0
  else if x.brk then 3
  else if x.single then 2
  else if s.on R.PRT_STATUS.STOP_REQ l then 1
  else 0

/-- The partition enters Stopped (R103, R105). -/
def State.enterStopped (s : State) (l cause : Nat) : State :=
  ((((s.setState l 5).wr R.PRT_STATUS.STOP_CAUSE l cause).wr R.PRT_STATUS.STOP_REQ l 0).wr R.PRT_STATUS.PENDING l
    0).modPart l (fun x => { x with single := false, brk := false, stopLanded := false, edges := 0 }) |>.raise .prt l 3

/-- A stop takes effect: at once, or, where the partition is Frozen, at its resumption (DESIGN CHOICE, log entry 218). -/
def State.stopNow (s : State) (l cause : Nat) : State :=
  if s.pstate l = 6 then
    (((s.wr R.PRT_STATUS.STOP_CAUSE l cause).wr R.PRT_STATUS.STOP_REQ l 0).wr R.PRT_STATUS.PENDING l 0).modPart l (fun x => { x with
      frozenFrom := 5, single := false, brk := false, stopLanded := false, edges := 0 })
  else s.enterStopped l cause

/-- The unit has stopped when none of its partitions is Armed or Running (R229, R232). HOLD_N is then driven as before START,
and released by the conditions of R230 alone (DESIGN CHOICE, log entry 229). -/
def State.unitIdle (s : State) : State :=
  if (s.cas.started || s.cas.lateHold) &&
      s.unitParts.all (fun p => s.pstate p == 5 || s.pstate p == 7 || decide (s.pstate p ≤ 2)) then
    (s.modCas (fun c => { c with
      started := false, waiting := false, released := false, held := false, holdAt := none, stopOrdered := false
      lateHold := false, doneHold := false, failed := false, highRun := 0, orders := [] })).showUnit
  else s

/-- The end of a replayed cycle: the next logged cycle begins at once, with nothing presented (R254 order 4). -/
def State.replayBoundary (s : State) (l : Nat) : State :=
  let c := s.rd64 R.PRT_CYCLE_LO.COUNT R.PRT_CYCLE_HI.COUNT l
  let s1 := (s.wr64 R.PRT_CYCLE_LO.COUNT R.PRT_CYCLE_HI.COUNT l (c + 1)).modPart l (fun x => { x with step := 0 })
  let s2 := if s1.on (R.RES_SNAP.CAPTURING l) 0 then
    (s1.wr (R.RES_SNAP.CAPTURING l) 0 0).wr (R.RES_SNAP.VALID l) 0 1 else s1
  s2.replayInputs l

/-- The duration of a recovery and its end (R254 order 6, R255). -/
def State.endReplay (s : State) (l : Nat) : State :=
  match (s.part l).replay with
  | none => s
  | some r =>
    ((s.wrSat R.RES_RECOVERY_NS.NS 0 ((s.now - r.begun) / 65536)).modPart l
      (fun x => { x with replay := none })).absorbed l 4

/-- The boundary of a cycle that presents its outputs (R21, R99, R105, R247, R250, R253). -/
def State.makeBoundary (s : State) (l : Nat) (b : Inbound) : State :=
  let c := s.rd64 R.PRT_CYCLE_LO.COUNT R.PRT_CYCLE_HI.COUNT l
  let s0 := if (s.part l).replay.isNone then s.sampleClock l 0 (some c) else s
  let s1 := if s.snapOn l && !s.isLead l then s0.writeLog l c else s0
  let s2 := (s1.presentFabric l).exchBoundary l
  let s3 := if s2.isLead l then s2.compareSignatures l else s2
  let s3' := s3.releaseIsolation l
  let s4 := (if (s.part l).replay.isNone then s3' else s3'.sampleClock l 0 (some c)).endReplay l
  let s5 := if s4.on (R.RES_SNAP.CAPTURING l) 0 then
    (s4.wr (R.RES_SNAP.CAPTURING l) 0 0).wr (R.RES_SNAP.VALID l) 0 1 else s4
  let s6 := ((s5.finishJoins l).wr64 R.PRT_CYCLE_LO.COUNT R.PRT_CYCLE_HI.COUNT l (c + 1)).raise .prt l 9
  let s7 := s6.modPart l (fun x => { x with inCycle := false, step := 0, completed := true })
  let s8 := if s7.snapBefore l (c + 1) then s7.takeSnapshot l (c + 1) else s7
  if s.stopRank l != 0 then (s8.stopNow l (s.stopRank l)).unitIdle
  else (s8.modPart l (fun x => { x with brk := false })).takePending l b

/-- CYCLE_BOUNDARY: the tick after step D − 1. Only a memory command fired at that step holds it back (R99, R111). -/
def doCycleBoundary (p : Nat) (b : Inbound) (s : State) : State :=
  let x := s.part p
  if s.isFollower p || !x.inCycle || decide (x.step < s.depth p) || !(s.pstate p == 4 || s.pstate p == 6) then s
  else if s.emuStopped then s
  else if s.holders p &&& (causeFar ||| causeBerth) != 0 then s.stallBegin p (s.holders p)
  else
    let s1 := if s.holders p = 0 then s.stallEnd p else s
    match x.replay with
    | some r =>
      if s.rd64 R.PRT_CYCLE_LO.COUNT R.PRT_CYCLE_HI.COUNT p = r.cf then s1.makeBoundary p b else s1.replayBoundary p
    | none => s1.makeBoundary p b

/-- CYCLE_BOUNDARY (R99). -/
def execCycleBoundary (p : Fin 64) (b : Inbound) (s : State) : Host.Outcome State Fault Refusal :=
  .next (doCycleBoundary p b s)

/-! ## What ends a wait -/

/-- Recompute the memory waits of a partition after one has ended. -/
def State.memWaitsOver (s : State) (m : Nat) : State :=
  let l := s.leadOf m
  let ws := (s.members l).flatMap (fun j => (s.part j).memWaits)
  let s1 := if ws.any (fun w => decide (2 ≤ w.kind)) then s else s.unhold l causeFar
  if ws.any (fun w => decide (w.kind < 2)) then s1 else s1.unhold l causeBerth

/-- FAR_TRANSFER_COMPLETE: the far command of a bunch ends (R65, R140). A read that succeeds loads as from the step
after it fired; one refused for an uncorrectable word is a detected data error (R128, R242); another refusal leaves
the read-data register unchanged. -/
def doFarTransferComplete (p n : Nat) (status : Nat) (w : W128) (s : State) : State :=
  match (s.part p).memWaits.find? (fun c => c.bunch == n && decide (2 ≤ c.kind)) with
  | none => s.quayTake (n / 8) 0 0
  | some c =>
    let s1 := s.modPart p (fun x => { x with
      memWaits := x.memWaits.filter (fun y => !(y.bunch == n && decide (2 ≤ y.kind))) })
    let s2 :=
      if c.kind = 2 ∧ status = 0 then { s1 with rpend := SMap.set none s1.rpend n (some w) }
      else if c.kind = 2 ∧ status = 3 then
        s1.modPart p (fun x => { x with
          pendErr := some ⟨3, c.addr / 2 ^ 18, c.pip / 64 % 16, c.step, c.addr % 2 ^ 18, c.pip⟩ })
      else s1
    (s2.memWaitsOver p).quayTake (n / 8) status (bankAddress (c.addr / 2 ^ 18) (c.addr % 2 ^ 18))

/-- FAR_TRANSFER_COMPLETE (R65). -/
def execFarTransferComplete (p n : Fin 64) (status : Fin 8) (w : W128) (s : State) :
    Host.Outcome State Fault Refusal :=
  .next (doFarTransferComplete p n status w s)

/-- The local commands that wait for a bank are completed once its token names their partition (R65, R142). -/
def State.serveLocal (s : State) (b : Nat) : State :=
  if s.rd R.DMB_BERTH.KIND b = 1 ∧ !s.on R.DMB_STATUS.HANDOVER b then
    let m := s.rd R.DMB_BERTH.ID b
    let (mine, rest) := (s.part m).memWaits.partition (fun c => c.bunch == b && decide (c.kind < 2))
    if mine.isEmpty then s
    else
      let s1 := s.modPart m (fun x => { x with memWaits := rest })
      (mine.foldl (fun s c => s.localCommand m (s.leadOf m) c) s1).memWaitsOver m
  else s

/-- HANDOVER_COMPLETE: T1, once every access accepted from the old owner is done (R142). -/
def doHandoverComplete (b : Nat) (s : State) : State :=
  if s.on R.DMB_STATUS.HANDOVER b && !(s.bank b).queue.any (fun a => a.old && !a.who.exempt) then
    let s1 := ((s.wr R.DMB_STATUS.HANDOVER b 0).wr R.DMB_BERTH_PREV.KIND b 0).wr R.DMB_BERTH_PREV.ID b 0
    (s1.raise .dmb b 0).serveLocal b
  else s

/-- HANDOVER_COMPLETE (R142). -/
def execHandoverComplete (b : Fin 64) (s : State) : Host.Outcome State Fault Refusal := .next (doHandoverComplete b s)

end Sys2Proof.Machine
end

