-- ==== Sys2Proof/Machine/Partition.lean ====
section
/-! DEFINITION. Machine/Partition.lean: the commands of a partition (R103 to R106), isolation (R117), the exchange window
(R97, R101), the instruction-store loader (R167, R185), ungating (R467) and the spares (R72 to R76). -/

namespace Sys2Proof.Machine
open Sys2Proof

/-! ## Exchange windows (R97, R101) -/

/-- Whether another partition in state Loaded or later has a register in its window (R101). -/
def State.inOtherWindow (s : State) (p core reg : Nat) : Bool :=
  (List.range 64).any fun q =>
    let (c, b, n) := s.window q
    q != p && decide (2 ≤ s.pstate q) && c == core && decide (b ≤ reg) && decide (reg < b + n)

/-- The registers of a partition's window. -/
def State.windowRegs (s : State) (p : Nat) : List Nat :=
  let (_, b, n) := s.window p
  ((List.range n).map (fun r => b + r)).filter (fun r => decide (r < 64))

/-- Whether a partition that owns no register holds one in its window while it is isolated: in Unloaded or Loading (R117). -/
def State.isolatesFree (s : State) (p core reg : Nat) : Bool :=
  decide (s.pstate p < 2) && s.on R.PRT_STATUS.ISOLATED p && (s.window p).1 == core && (s.windowRegs p).contains reg

/-- The partition whose isolation covers a register's orchard-to-model half (R97, R117): the owner alone where there is one,
else one in Loading, else one in Unloaded. -/
def State.isolatorOf (s : State) (core reg : Nat) : Option Nat :=
  match s.exchOwner core reg with
  | some p => if s.on R.PRT_STATUS.ISOLATED p then some p else none
  | none =>
    match (List.range 64).find? (fun p => s.pstate p == 1 && s.isolatesFree p core reg) with
    | some p => some p
    | none => (List.range 64).find? (fun p => s.isolatesFree p core reg)

/-- The key of a value that isolation holds for a partition: core, register and buffer (R117). -/
def heldKey (p core reg buf : Nat) : Nat := 2048 * p + 128 * core + 2 * reg + buf

/-- An orchard-to-model buffer as the model core reads it: forced or held while isolation covers it; a register without a
capture holds its contents (R98, R117). -/
def State.o2mView (s : State) (core reg buf : Nat) : W128 :=
  match s.isolatorOf core reg with
  | none => s.exchBuf core reg 1 buf
  | some p =>
    match s.rd R.PRT_ISOLATE.EXCH p with
    | 1 => 0
    | 2 => BitVec.allOnes 128
    | _ => (SMap.get none s.exchHeld (heldKey p core reg buf)).getD (s.exchBuf core reg 1 buf)

/-- Clear the four buffers of a register. -/
def State.clearExch (s : State) (core reg : Nat) : State :=
  (((s.setExch core reg 0 0 0).setExch core reg 0 1 0).setExch core reg 1 0 0).setExch core reg 1 1 0

/-- Registers of a window enter isolation's captures as the model core reads them now, beside the captures kept (R117). -/
def State.captureExch (s : State) (p : Nat) (regs : List Nat) (kept : Nat → Bool) : State :=
  let core := (s.window p).1
  let vals := regs.flatMap (fun r => [0, 1].map (fun b => (heldKey p core r b, s.o2mView core r b)))
  { s with
      exchHeld := vals.foldl (fun m e => SMap.put m e.1 (some e.2)) (s.exchHeld.keep (fun k => k / 2048 != p || kept k)) }

/-- Clear the window's registers that lie in no other window in state Loaded or later (R101). -/
def State.clearWindow (s : State) (p : Nat) : State :=
  let core := (s.window p).1
  ((s.windowRegs p).filter (fun r => !s.inOtherWindow p core r)).foldl (fun s r => s.clearExch core r) s

/-- The window takes its registers (R97): behind every window that took them earlier. -/
def State.takeWindow (s : State) (p : Nat) : State :=
  let core := (s.window p).1
  let new := ((s.windowRegs p).map (fun r => (core * 64 + r, p))).filter (fun e => !s.exchTook.contains e)
  { s with exchTook := s.exchTook ++ new }

/-- Ownership of the registers a partition gives up passes on, and each register that passes is cleared (R97). -/
def State.dropWindow (s : State) (p : Nat) (keepRegs : List (Nat × Nat)) : State :=
  let gone := s.exchTook.filter (fun e => e.2 == p && !keepRegs.contains e)
  gone.foldl (fun s e =>
    let owned := (s.exchTook.find? (fun x => x.1 == e.1)) == some e
    let s1 := { s with exchTook := s.exchTook.filter (fun x => !(x == e)) }
    if owned && s1.exchTook.any (fun x => x.1 == e.1) then s1.clearExch (e.1 / 64) (e.1 % 64) else s1) s

/-! ## Isolation (R117) -/

/-- The transmit slots the net map assigns to a partition, as port × 8 + slot. -/
def State.txSlotsOf (s : State) (p : Nat) : List Nat :=
  ((s.netmap.filter (fun e => decide (e.1 < 32768) && entryOf e.2.toNat p)).map
    (fun e => e.1 / 8192 * 8 + e.1 % 8)).eraseDups

/-- Isolation engages: held groups keep the values last presented (R103, R117). -/
def State.isolate (s : State) (p : Nat) : State :=
  if s.on R.PRT_STATUS.ISOLATED p then s
  else
    let s1 := (s.txSlotsOf p).foldl (fun s k =>
      { s with txHeld := SMap.set 0 s.txHeld k (SMap.get 0 s.txSlots k) }) s
    (s1.captureExch p (s1.windowRegs p) (fun _ => false)).wr R.PRT_STATUS.ISOLATED p 1

/-! ## Gating (R80, R466, R467) -/

/-- The bunch whose stores an internal address lies in (R27, R37, R38). -/
def storeBunch (a : Nat) : Option Nat :=
  if 0x200000000 ≤ a ∧ a < 0x240000000 then some ((a - 0x200000000) / 0x1000000)
  else if 0x500000000 ≤ a ∧ a < 0x500800000 then some ((a - 0x500000000) / 0x20000)
  else none

/-- Whether a debug access to a bunch's stores is in progress, which keeps its clock (R32). -/
def State.underDebug (s : State) (n : Nat) : Bool :=
  s.windows.any (fun e => match e.2 with
    | some x => storeBunch x.addr == some n
    | none => false)

/-- Whether a bunch's clock runs (R80, R466). -/
def State.bunchOn (s : State) (n : Nat) : Bool :=
  if n < 32 then bitOf (s.rd R.PWR_BUNCH_ON_LO.ON 0) n == 1 else bitOf (s.rd R.PWR_BUNCH_ON_HI.ON 0) (n - 32) == 1

/-- Set the gate of a bunch: its bank's array cycle follows, on the core clock too while the step clock stands still (R129). A
bunch under debug access is not gated (R32). -/
def State.gateBunch (s : State) (n : Nat) (on : Bool) : State :=
  if !on && s.underDebug n then s
  else
  let s1 :=
    if n < 32 then s.wr R.PWR_BUNCH_ON_LO.ON 0 (setBit (s.rd R.PWR_BUNCH_ON_LO.ON 0) n (b2n on))
    else s.wr R.PWR_BUNCH_ON_HI.ON 0 (setBit (s.rd R.PWR_BUNCH_ON_HI.ON 0) (n - 32) (b2n on))
  s1.wr R.DMB_STATUS.ARRAY_CLOCK n (b2n (!on || s.emuStopped))

/-- Whether a partition that is not Unloaded uses a bunch (R80). -/
def State.bunchUsed (s : State) (n : Nat) : Bool :=
  match s.holderOf n with
  | some p => s.pstate p != 0 || (s.part p).ungating
  | none => false

/-- Device state Emulating while a bunch is ungated, Ready otherwise (R31, R467). -/
def State.devState (s : State) : State :=
  let st := s.rd R.PWR_STATUS.DEV_STATE 0
  if st = 3 ∨ st = 4 then
    s.wr R.PWR_STATUS.DEV_STATE 0
      (if s.rd R.PWR_BUNCH_ON_LO.ON 0 + s.rd R.PWR_BUNCH_ON_HI.ON 0 = 0 then 3 else 4)
  else s

/-- A debug access that kept a bunch's clock is over (R32, R80). -/
def State.regate (s : State) (addr : Nat) : State :=
  match storeBunch addr with
  | some n => if s.bunchOn n && !s.bunchUsed n then (s.gateBunch n false).devState else s
  | none => s

/-! ## Commands (R103, R104) -/

/-- Refuse a command: recorded, and the state unchanged (R104). -/
def State.refuseCmd (s : State) (a : Accessor) (p : Nat) : State := (s.errReg a .prt p 0x40 5).respond a true 0

/-- Whether the exchange-window check of R97 passes. -/
def State.windowOk (s : State) (p : Nat) : Bool :=
  let (core, b, n) := s.window p
  decide (b + n ≤ 64) && !(List.range n).any (fun r => s.inOtherWindow p core (b + r))

/-- Whether the timer check of R92 passes: P is not below D step periods at the programmed frequency. -/
def State.timerOk (s : State) (p : Nat) : Bool :=
  s.rd R.PRT_CTRL.REL_SRC p != 1 || decide (65536 * (1000 * s.depth p) ≤ s.timerPeriod p * s.progMHz)

/-- Whether emulation is not halted or halting: START and SINGLE are refused otherwise (R494). -/
def State.emuFree (s : State) : Bool := s.rd R.DBG_STATUS.EMU 0 == 0

/-- Whether the group a lead commands may start (R244). -/
def State.groupOk (s : State) (p : Nat) : Bool :=
  !s.isLead p || ((s.members p).all (fun m =>
    (s.pstate m == 2 || s.pstate m == 5) && s.on R.PRT_CTRL.HARD m &&
    s.rd R.PRT_CTRL.DEPTH m == s.rd R.PRT_CTRL.DEPTH p && (s.bunches m).length == (s.bunches p).length &&
    (m == p || s.rd R.PRT_EXCH.COUNT m == 0) && !s.snapOn m))

/-- Clear the registers of a partition's bunches at a load (R58, R59, R61, R21). -/
def State.clearRegs (s : State) (p : Nat) : State :=
  let out (k : Nat) : Bool := !(s.bunches p).contains k
  { s with
    lanes := s.lanes.keep out
    chans := s.chans.keep (fun k => out (k / 4))
    addrStage := s.addrStage.keep out
    wdataStage := s.wdataStage.keep out
    rdata := s.rdata.keep out
    rpend := s.rpend.keep out
    fabOwn := s.fabOwn.keep out }

/-- Whether the bunches of a partition are all ungated (R467). -/
def State.ungated (s : State) (p : Nat) : Bool := (s.bunches p).all (fun n => s.bunchOn n)

/-- The journals of a partition's banks are lost at LOAD_BEGIN (R267). -/
def State.loseJournals (s : State) (p : Nat) : State :=
  (s.banksOf p).foldl (fun s b =>
    ((s.wr R.DMB_JOURNAL_COUNT.ENTRIES b 0).wr R.DMB_STATUS.JOURNAL_FULL b 0).modBank b
      (fun k => { k with journal := [], jwrites := [], restoreAt := none })) s

/-- The bunches of a partition are ungated, and STATE reads Loading (R467). -/
def State.enterLoading (s : State) (p : Nat) : State :=
  let s1 := (s.bunches p).foldl (fun s n => s.gateBunch n true) s
  ((s1.wr R.PRT_STATUS.STATE p 1).modPart p (fun x => { x with ungating := false })).devState

/-- LOAD_BEGIN as the partition takes it (R101, R103, R106, R118, R167, R267). A throttle's share is booked when its interval
ends (R113). -/
def State.loadBegin (s : State) (p : Nat) : State :=
  let s1 := ((s.endJoins p).loseJournals p).isolate p
  let s2 := if s.on R.PRT_STATUS.ISOLATED p then s1.captureExch p (s1.windowRegs p) (fun _ => false) else s1
  let s3 := ((s2.dropWindow p []).clearWindow p).clearRegs p
  let s4 := (s3.wr64 R.PRT_CYCLE_LO.COUNT R.PRT_CYCLE_HI.COUNT p 0).wr64 R.PRT_FAULT_CYCLE_LO.COUNT
    R.PRT_FAULT_CYCLE_HI.COUNT p 0
  let s5 := ((s4.wr R.PRT_FAULT_INFO.CHECK p 0).wr R.PRT_FAULT_INFO.STEP p 0).wr R.PRT_FAULT_INFO.PIP p 0
  let s6 := (((((s5.wr R.PRT_STATUS.STOP_CAUSE p 0).wr R.PRT_STATUS.XPHASE p 0).wr R.PRT_STATUS.PENDING p 0).wr
    R.PRT_STATUS.WAIT_LOCK p 0).wr R.PRT_STATUS.STOP_REQ p 0).wr R.PRT_STATUS.STALLED p 0
  let s7 := ((((s6.wr (R.RES_SNAP.VALID p) 0 0).wr (R.RES_SNAP.CAPTURING p) 0 0).wr (R.RES_SNAP.LOST p) 0 0).wr
    (R.RES_SNAP.LOST_CAUSE p) 0 0).wr (R.RES_GROUP.MSTATE p) 0 0
  let s8 := { s7 with
    exchPriv := s7.exchPriv.keep (fun k => k / 64 != p)
    replayExch := s7.replayExch.keep (fun k => k / 64 != p)
    parts := SMap.set {} s7.parts p { ungating := true, ledger := faultLedger (s.part p).ledger } }
  if s.ungated p then s8.enterLoading p else s8

/-- LOAD_END (R103, R101, R167). -/
def State.loadEnd (s : State) (a : Accessor) (p : Nat) : State :=
  let x := s.part p
  if s.on R.PRT_CTRL.HARD p && x.softSeen then
    ((s.errReg a .prt p 0x40 16).raise .prt p 7)
  else if x.refusedWord then s.raise .prt p 7
  else ((s.wr R.PRT_STATUS.STATE p 2).clearWindow p).takeWindow p

/-- UNLOAD (R103). -/
def State.unloadPart (s : State) (p : Nat) : State :=
  let s1 := ((s.endJoins p).isolate p).wr R.PRT_STATUS.STATE p 0
  let s2 := ((s1.dropWindow p []).wr R.PRT_STATUS.PENDING p 0).wr R.PRT_STATUS.STALLED p 0
  let s3 := (s2.bunches p).foldl (fun s n => s.gateBunch n false) s2
  let s4 := s3.wr R.PRT_STATUS.STOP_REQ p 0
  (s4.modPart p (fun x => { ({} : Part) with locked := x.locked, ledger := faultLedger x.ledger })).devState

/-- START as accepted (R91, R103, R106): with PTP_LOCK = 1 the grid begins at `PRT_TIMER_EPOCH`; else the tick of the START fixes
it, and a later START keeps it. Isolation is engaged in Armed and until the first boundary (R117). -/
def State.startPart (s : State) (p : Nat) : State :=
  let s0 := (s.members p).foldl (fun s m => s.isolate m) s
  let s1 := (s0.setState p 3).wr R.PRT_STATUS.STOP_CAUSE p 0
  let ptp := s.on R.PRT_CTRL.PTP_LOCK p && s.rd R.PRT_CTRL.REL_SRC p == 1
  let epoch := timeOf (s.rd128 R.PRT_TIMER_EPOCH.FRAC R.PRT_TIMER_EPOCH.NS R.PRT_TIMER_EPOCH.SEC_LO
    R.PRT_TIMER_EPOCH.SEC_HI p)
  let lock := ptp && s.on R.TIM_STATUS.LOCKED 0
  let s2 := (s1.members p).foldl (fun s m => s.modPart m (fun x => { x with
    inCycle := false, step := 0, single := false, brk := false, started := false, opened := true, locked := true
    gridNext := if lock then gridFrom epoch (s.timerPeriod p) s.now else if ptp then epoch
      else if x.gridSet then gridFrom x.gridNext (s.timerPeriod p) s.now else s.now
    gridSet := true, edges := 0, executed := 0 })) s1
  (if ptp && !s.on R.TIM_STATUS.LOCKED 0 then s2.wr R.PRT_STATUS.WAIT_LOCK p 1 else s2).showUnit

/-- SINGLE as accepted (R103): exactly one cycle from the next tick, with no release. -/
def State.singlePart (s : State) (p : Nat) : State :=
  let s1 := ((s.setState p 4).wr R.PRT_STATUS.STOP_CAUSE p 0).wr R.PRT_STATUS.PENDING p 0
  (s1.members p).foldl (fun s m => s.modPart m (fun x => { x with
    inCycle := true, step := 0, single := true, brk := false, locked := true, sig := crcInit, recDeliv := []
    recIn := (s.bunches p).map (fun n => SMap.get 0 s.fabCap n) })) s1

/-- STOP as accepted (R87, R103, R229). -/
def State.stopPart (s : State) (p : Nat) : State :=
  if s.inUnit p && s.cas.started then (s.wr R.PRT_STATUS.PENDING p 0).requestStop 1
  else if s.pstate p = 3 ∨ !(s.part p).inCycle then
    ((s.enterStopped p 1).wr R.PRT_STATUS.WAIT_LOCK p 0).unitIdle
  else (s.wr R.PRT_STATUS.STOP_REQ p 1).wr R.PRT_STATUS.PENDING p 0

/-- A frozen partition returns to the state it held before the freeze (R103, R114), or to Stopped where a stop has fallen to it
meanwhile (log entry 218). -/
def State.unfreeze (s : State) (p : Nat) : State :=
  if s.pstate p = 6 then
    let s1 := (s.setState p (s.part p).frozenFrom).timeBreak p
    if (s.part p).frozenFrom = 5 then (s1.raise .prt p 3).unitIdle else s1
  else s

/-- Perform a `PRT_CMD` command with its state check (R103, R104). -/
def State.perform (s : State) (a : Accessor) (p cmd : Nat) : State :=
  let st := s.pstate p
  let ok (s : State) : State := s.respond a true 0
  if (s.bunches p).isEmpty then s.refuseCmd a p
  else if s.isFollower p && cmd != 1 && cmd != 7 then s.refuseCmd a p
  else
    match cmd with
    | 1 => if st = 0 ∨ st = 2 ∨ st = 5 ∨ st = 7 ∨ st = 6 then ok (s.loadBegin p) else s.refuseCmd a p
    | 2 => if st = 1 then ok (s.loadEnd a p) else s.refuseCmd a p
    | 3 =>
      if (st = 2 ∨ st = 5) ∧ s.emuFree ∧ !(s.on R.PRT_CTRL.HARD p && s.rd R.PRT_CTRL.REL_SRC p == 3) ∧ s.timerOk p ∧
          s.windowOk p ∧ s.groupOk p then ok (s.startPart p) else s.refuseCmd a p
    | 4 => if st = 3 ∨ st = 4 then ok (s.stopPart p) else s.refuseCmd a p
    | 5 => if (st = 2 ∨ st = 5) ∧ s.emuFree ∧ s.windowOk p then ok (s.singlePart p) else s.refuseCmd a p
    | 6 => if st = 6 then ok (s.unfreeze p) else s.refuseCmd a p
    | 7 => if st = 1 ∨ st = 2 ∨ st = 5 ∨ st = 7 ∨ st = 6 then ok (s.unloadPart p) else s.refuseCmd a p
    | _ => s.refuseCmd a p

/-- A write of `PRT_CMD`: held while the bunches are being ungated (R467), performed otherwise. -/
def doPrtCmd (a : Accessor) (p cmd : Nat) (s : State) : State :=
  if (s.part p).ungating then s.modPart p (fun x => { x with heldCmds := x.heldCmds ++ [(a, cmd)] })
  else s.perform a p cmd

/-! ## Registers with rules of their own -/

/-- Whether a partition other than p holds one of the bunches of a mask (R78). -/
def State.bunchesTaken (s : State) (p mask : Nat) : Bool :=
  (List.range 64).any fun q => q != p &&
    ((s.rd R.PRT_BUNCHES_LO.MEMBER q + 2 ^ 32 * s.rd R.PRT_BUNCHES_HI.MEMBER q) &&& mask) != 0

/-- BUNCHES_WRITE (R78). -/
def doBunchesWrite (a : Accessor) (p : Nat) (hi : Bool) (v : W32) (s : State) : State :=
  let mask := if hi then 2 ^ 32 * v.toNat else v.toNat
  if s.pstate p != 0 || (s.part p).ungating || s.bunchesTaken p mask then
    (s.errReg a .prt p (if hi then 0x48 else 0x44) 4).respond a true 0
  else (if hi then s.wr R.PRT_BUNCHES_HI.MEMBER p v.toNat else s.wr R.PRT_BUNCHES_LO.MEMBER p v.toNat).respond a true 0

/-- EXCH_WRITE (R11, R97, R101, R106, R117): accepted while unlocked; in Loaded the window is captured, cleared and
taken anew. -/
def doExchWrite (a : Accessor) (p : Nat) (v : W32) (s : State) : State :=
  let x := v.toNat
  let same := s.window p == (bitsOf x 0 4, bitsOf x 8 6, bitsOf x 16 7)
  if (s.part p).locked && !same then (s.errReg a .prt p 0x4C 3).respond a true 0
  else
    let oldRegs := s.windowRegs p
    let oldCore := (s.window p).1
    let s1 := ((s.wr R.PRT_EXCH.CORE p (bitsOf x 0 4)).wr R.PRT_EXCH.BASE p (bitsOf x 8 6)).wr R.PRT_EXCH.COUNT p
      (bitsOf x 16 7)
    if s.pstate p = 2 ∧ !(s.part p).locked then
      let core := (s1.window p).1
      let added := (s1.windowRegs p).filter (fun r => !(core == oldCore && oldRegs.contains r))
      let s2 := s1.captureExch p added (fun k => k / 128 % 16 == core && (s1.windowRegs p).contains (k / 2 % 64))
      let s3 := s2.dropWindow p ((s2.windowRegs p).map (fun r => (core * 64 + r, p)))
      ((s3.clearWindow p).takeWindow p).respond a true 0
    else s1.respond a true 0

/-- ISOLATE_WRITE: a field of 11 makes the write ignored as a whole (R117, R124). -/
def doIsolateWrite (a : Accessor) (p : Nat) (v : W32) (s : State) : State :=
  let x := v.toNat
  if (List.range 4).any (fun i => bitsOf x (2 * i) 2 == 3) then (s.errReg a .prt p 0x58 4).respond a true 0
  else
    ((((s.wr R.PRT_ISOLATE.FABRIC p (bitsOf x 0 2)).wr R.PRT_ISOLATE.EXCH p (bitsOf x 2 2)).wr R.PRT_ISOLATE.CASTX p
      (bitsOf x 4 2)).wr R.PRT_ISOLATE.PROBE p (bitsOf x 6 2)).respond a true 0

/-! ## The instruction-store loader (R167, R185) -/

/-- Whether an instruction word uses a soft-time resource (R167). -/
def softWord (w : W128) : Bool :=
  (List.range 4).any (fun k => opClass (pipOp w k) == 6) || pipDclass w == 2 ||
    (pipDclass w == 6 && decide (2 ≤ pipDidx w % 4))

/-- The internal address of an instruction word (R37). -/
def isAddress (n b st i : Nat) : Nat := 0x200000000 + n * 0x1000000 + b * 0x100000 + st * 0x400 + i * 0x10

/-- The loader takes an image word: refused outside the partition or outside Loading (CODE 15) or with a bad seal
(CODE 9), else stored with new ECC (R23, R24, R185). `node`: the initiator, 63 where the command names none. -/
def State.loadWord (s : State) (node p n b st i : Nat) (w : W128) (chk : BitVec 16) : State :=
  if s.pstate p != 1 || !(s.bunches p).contains n then
    (s.err .prt p 15 node (isAddress n b st i)).modPart p (fun x => { x with refusedWord := true })
  else if sealOf w != chk then
    ((s.err .prt p 9 node (isAddress n b st i)).logEvent 0x11 p openClass evSeal n st).modPart p
      (fun x => { x with refusedWord := true })
  else
    let k := s.isAt n b st i
    ({ s with istore := SMap.set idleWord s.istore k w }.setEcc clsIstore k 0).modPart p
      (fun x => { x with softSeen := x.softSeen || softWord w })

/-- A row of the step store is written with new ECC (R57, R184). -/
def State.loadRow (s : State) (n b r : Nat) (v : BitVec 64) : State :=
  let k := s.rowAt n b r
  { s with rows := SMap.set 0 s.rows k v }.setEcc clsRow k 0

/-- INSTRUCTION_WORD_WRITE: held while the bunches are being ungated (R467). -/
def doInstructionWordWrite (node p n b st i : Nat) (w : W128) (chk : BitVec 16) (s : State) : State :=
  if (s.part p).ungating then
    s.modPart p (fun x => { x with heldWords := x.heldWords ++ [(n, b, st, i, w, chk)] })
  else s.loadWord node p n b st i w chk

/-- INSTRUCTION_WORD_WRITE (R185). -/
def execInstructionWordWrite (p n : Fin 64) (b : Fin 16) (st : Fin 1024) (i : Fin 64) (w : W128) (chk : BitVec 16)
    (s : State) : Host.Outcome State Fault Refusal :=
  .next (doInstructionWordWrite 63 p n b st i w chk s)

/-- BUNCH_UNGATE_DONE: STATE reads Loading, and held words, then held commands, proceed in order (R467). -/
def doBunchUngateDone (p : Nat) (s : State) : State :=
  let x := s.part p
  if !x.ungating || s.emuStopped then s
  else
    let s1 := (s.enterLoading p).modPart p (fun y => { y with heldWords := [], heldRows := [], heldCmds := [] })
    let s2 := x.heldWords.foldl (fun s e => s.loadWord 63 p e.1 e.2.1 e.2.2.1 e.2.2.2.1 e.2.2.2.2.1 e.2.2.2.2.2) s1
    let s3 := x.heldRows.foldl (fun s e => s.loadRow e.1 e.2.1 e.2.2.1 e.2.2.2) s2
    x.heldCmds.foldl (fun s e => s.perform e.1 p e.2) s3

/-- BUNCH_UNGATE_DONE (R467). -/
def execBunchUngateDone (p : Fin 64) (s : State) : Host.Outcome State Fault Refusal := .next (doBunchUngateDone p s)

/-! ## Spares (R72 to R76) -/

/-- Whether a bunch's owning partition locks the remap fields (R75). -/
def State.remapLocked (s : State) (n : Nat) : Bool :=
  match s.holderOf n with
  | some p => decide (2 < s.pstate p)
  | none => false

/-- BERRY_REMAP_WRITE (R11, R75, R76). A remap leaves a permanent record (R268). A write that is both locked and to a bad spare
makes one error, CODE 3 (DESIGN CHOICE, log entry 216). -/
def doBerryRemapWrite (a : Accessor) (n : Nat) (v : W32) (s : State) : State :=
  let q := s.physBunch n
  let b := bitsOf v.toNat 0 4
  let en := bitOf v.toNat 8
  let same := s.rd R.ORC_BERRY_REMAP.BERRY q == b && s.rd R.ORC_BERRY_REMAP.EN q == en
  if s.remapLocked n && !same then (s.errReg a .orc n 0x40 3).respond a true 0
  else if en = 1 ∧ s.on R.ORC_SPARE_STATUS.BERRY_SPARE_BAD q then (s.errReg a .orc n 0x40 4).respond a true 0
  else
    let s1 := ((s.wr R.ORC_BERRY_REMAP.BERRY q b).wr R.ORC_BERRY_REMAP.EN q en).spareCounts
    (if same then s1 else s1.logEvent 0x10 n 3 evRemapWrite (b + 256 * en) (2 * q)).respond a true 0

/-- BUNCH_REMAP_WRITE (R11, R75, R76). The register is the same in every channel; an error is recorded in channel n. A remap
leaves a permanent record (R268). -/
def doBunchRemapWrite (a : Accessor) (n : Nat) (v : W32) (s : State) : State :=
  let b := bitsOf v.toNat 0 6
  let en := bitOf v.toNat 8
  let same := s.rd R.ORC_BUNCH_REMAP.BUNCH 0 == b && s.rd R.ORC_BUNCH_REMAP.EN 0 == en
  let locked := (s.on R.ORC_BUNCH_REMAP.EN 0 && s.remapLocked (s.rd R.ORC_BUNCH_REMAP.BUNCH 0)) ||
    (en == 1 && s.remapLocked b)
  if locked && !same then (s.errReg a .orc n 0x44 3).respond a true 0
  else if en = 1 ∧ s.on R.ORC_SPARE_STATUS.BUNCH_SPARE_BAD 0 then (s.errReg a .orc n 0x44 4).respond a true 0
  else
    let s1 := ((s.wr R.ORC_BUNCH_REMAP.BUNCH 0 b).wr R.ORC_BUNCH_REMAP.EN 0 en).spareCounts
    (if same then s1 else s1.logEvent 0x10 n 3 evRemapWrite (b + 256 * en) 1).respond a true 0

/-- SPARE_FAILURE: a failure is detected in a spare while it is in use (R76, R519). -/
def doSpareFailure (n : Nat) (ofBunch : Bool) (s : State) : State :=
  if ofBunch then
    if s.on R.ORC_BUNCH_REMAP.EN 0 then
      let c := s.rd R.ORC_BUNCH_REMAP.BUNCH 0
      (((s.wr R.ORC_SPARE_STATUS.BUNCH_SPARE_BAD 0 1).raise .orc c 0).logEvent 0x10 c 3 evSpareBad 1 c).spareCounts
    else s
  else
    let q := s.physBunch n
    if s.on R.ORC_BERRY_REMAP.EN q then
      (((s.wr R.ORC_SPARE_STATUS.BERRY_SPARE_BAD q 1).raise .orc n 0).logEvent 0x10 n 3 evSpareBad 0 n).spareCounts
    else s

/-- SPARE_FAILURE (R76). -/
def execSpareFailure (n : Fin 64) (ofBunch : Bool) (s : State) : Host.Outcome State Fault Refusal :=
  .next (doSpareFailure n ofBunch s)

end Sys2Proof.Machine
end

