-- ==== Sys2Proof/Machine/CascadeOrders.lean ====
section
/-! DEFINITION. Machine/CascadeOrders.lean: orders and reports (R194, R195, R227 to R229), the hold (R222 to R225), and the
start on DONE and HOLD_N (R230, R231). The halt and step-frequency orders stand in Machine/CascadeRun.lean. -/

namespace Sys2Proof.Machine
open Sys2Proof

/-! ## Orders -/

/-- ORDER_ARRIVAL: the latency of the port it came on is subtracted, it goes on down the tree, and its countdown runs; a
count below 0 makes it late (R195, R227). -/
def doOrderArrival (kind : OrderKind) (countdown arg : Nat) (s : State) : State :=
  if !s.on R.CAS_TREE.UP_VALID 0 then s
  else
    let lat := s.rd (R.CAS_P_LATENCY.ORDER (s.rd R.CAS_TREE.UP_PORT 0)) 0
    let s1 := s.sendDown kind (countdown - lat) arg
    if countdown < lat then
      (((s1.raise .cas 0 1).logEvent 0x0B 0 openClass evOrderLate (orderNo kind) (lat - countdown)).modCas
        (fun c => { c with lateHold := true })).showUnit
    else s1.modCas (fun c => { c with orders := c.orders ++ [⟨kind, countdown - lat, arg⟩] })

/-- ORDER_ARRIVAL (R227). -/
def execOrderArrival (kind : OrderKind) (countdown : BitVec 16) (arg : BitVec 24) (s : State) :
    Host.Outcome State Fault Refusal :=
  .next (doOrderArrival kind countdown.toNat arg.toNat s)

/-- Remove the first order of a kind. -/
def dropOrder (kind : OrderKind) : List Order → List Order
  | [] => []
  | o :: r => if o.kind = kind then r else o :: dropOrder kind r

/-- The order of a kind that lands: the one sent first, with its argument (R227). -/
def State.landing (s : State) (kind : OrderKind) : Option (Nat × State) :=
  match s.cas.orders.find? (fun o => o.kind == kind) with
  | some o => some (o.arg, s.modCas (fun c => { c with orders := dropOrder kind c.orders }))
  | none => none

/-- A command names the tick on which it falls: the tick count and the countdowns of the orders go on to it, where no unit
partition of this package has stepped them on (R196, R227). -/
def State.reachTick (s : State) (t : Nat) : State :=
  let d := t - s.casTick
  (s.setTick (s.casTick + d)).modCas (fun c => { c with orders := c.orders.map (fun o => { o with left := o.left - d }) })

/-- The links begin a new count of frames (R210). -/
def State.restartFrames (s : State) : State :=
  (List.range 4).foldl (fun s n =>
    (((s.modPort n (fun x => { exit := x.exit, peer := x.peer })).wr (R.CAS_P_CREDITS.HELD n) 0 48).wr
      (R.CAS_P_CREDITS.RX_USED n) 0 0).wr (R.CAS_P_CREDITS.REPLAY_USED n) 0 0) s

/-- The unit's partitions that wait for their first release (R230). -/
def State.armedUnit (s : State) : List Nat := s.unitParts.filter (fun p => s.pstate p == 3)

/-- START_ORDER: cascade tick 0; every unit partition takes its first release under REL_MODE 00 or 01 (R196, R230). The order's
argument brings the master's REL_MODE (DESIGN CHOICE, log entry 219). -/
def doStartOrder (b : Inbound) (s : State) : State :=
  match s.landing .start with
  | none => s
  | some (mode, s0) =>
    let s1 := (((s0.setTick 0).wr64 R.CAS_STEP_LO.COUNT R.CAS_STEP_HI.COUNT 0 0).restartFrames).raise .cas 0 6
    let s2 := s1.unitParts.foldl (fun s p => s.modPart p (fun x => { x with executed := 0, deficit := 0 })) s1
    let s3 := s2.modCas (fun c => { c with
      started := true, mode := mode, waiting := false, locked := true, noRelease := false, stopOrdered := false
      held := false, holdAt := none, nextRel := s.rd R.CAS_REL_PERIOD.TICKS 0 })
    let s4 := if mode = 2 then s3 else s3.armedUnit.foldl (fun s p => s.release p b) s3
    s4.showUnit

/-- START_ORDER (R230). -/
def execStartOrder (b : Inbound) (s : State) : Host.Outcome State Fault Refusal := .next (doStartOrder b s)

/-- RELEASE_ORDER (R198). The first one after START releases every unit partition, whatever its source (R230; DEDUCED, log entry
220). -/
def doReleaseOrder (b : Inbound) (s : State) : State :=
  match s.landing .release with
  | none => s
  | some (_, s1) =>
    if s1.cas.started then (s1.armedUnit ++ s1.masterParts.filter (fun p => s1.pstate p != 3)).foldl (fun s p => s.release p b) s1
    else s1

/-- RELEASE_ORDER (R198). -/
def execReleaseOrder (b : Inbound) (s : State) : Host.Outcome State Fault Refusal := .next (doReleaseOrder b s)

/-- RESUME_ORDER: the held unit goes on from this tick (R223, R225). -/
def doResumeOrder (s : State) : State :=
  match s.landing .resume with
  | none => s
  | some (_, s1) =>
    if s1.cas.held then
      let s2 := s1.unitParts.foldl (fun s p => (s.unhold p causeCascade).modPart p (fun x => { x with deficit := 0 })) s1
      ((s2.modCas (fun c => { c with held := false })).raise .cas 0 5).showUnit
    else s1

/-- RESUME_ORDER (R223). -/
def execResumeOrder (s : State) : Host.Outcome State Fault Refusal := .next (doResumeOrder s)

/-- STOP_ORDER: a partition whose cycle ends on this tick stops at its boundary, one that is waiting or Armed stops now
(R229). -/
def doStopOrder (s : State) : State :=
  match s.landing .stop with
  | none => s
  | some (cause, s1) =>
    let s2 := s1.modCas (fun c => { c with stopCause := cause })
    (s2.unitParts.foldl (fun s p =>
      if (s.part p).inCycle then s.modPart p (fun x => { x with stopLanded := true })
      else if s.pstate p = 3 ∨ s.pstate p = 4 ∨ s.pstate p = 6 then s.stopNow p (max cause 1)
      else s) s2).unitIdle

/-- STOP_ORDER (R229). -/
def execStopOrder (s : State) : Host.Outcome State Fault Refusal := .next (doStopOrder s)

/-! ## Reports (R195, R228) -/

/-- A report that is on its way to the master goes on toward it (R195). -/
def State.passReport (s : State) (kind : ReportKind) (origin arg : Nat) : State :=
  if s.on R.CAS_TREE.UP_VALID 0 then s.emit (.ordered (s.rd R.CAS_TREE.UP_PORT 0) 0x21 (reportNo kind) origin arg)
  else s

/-- TAG_FAULT_REPORT: the master issues no further release (R217). -/
def doTagFaultReport (origin arg : Nat) (s : State) : State :=
  if s.isMaster then s.modCas (fun c => { c with noRelease := true }) else s.passReport .tagFault origin arg

/-- TAG_FAULT_REPORT (R217). -/
def execTagFaultReport (origin : Fin 64) (arg : W32) (s : State) : Host.Outcome State Fault Refusal :=
  .next (doTagFaultReport origin arg.toNat s)

/-- STOP_REQ_REPORT: the first request sets the cause, and the master orders STOP (R229). -/
def doStopReqReport (origin arg : Nat) (s : State) : State :=
  if s.isMaster then
    if s.cas.stopOrdered then s
    else (s.modCas (fun c => { c with stopOrdered := true, stopCause := arg })).issueOrder .stop s.stopCountdown arg
  else s.passReport .stopReq origin arg

/-- STOP_REQ_REPORT (R229). -/
def execStopReqReport (origin : Fin 64) (arg : W32) (s : State) : Host.Outcome State Fault Refusal :=
  .next (doStopReqReport origin arg.toNat s)

/-- FAULT_REPORT: the master shows the unit as failed (R228, R232). -/
def doFaultReport (origin arg : Nat) (s : State) : State :=
  if s.isMaster then (s.modCas (fun c => { c with failed := true })).showUnit else s.passReport .fault origin arg

/-- FAULT_REPORT (R228). -/
def execFaultReport (origin : Fin 64) (arg : W32) (s : State) : Host.Outcome State Fault Refusal :=
  .next (doFaultReport origin arg.toNat s)

/-! ## The hold (R222 to R225) -/

/-- What a low sample does while the unit runs: a hold 16 ticks after the slot tick, or a RESUME cancelled (R222,
R223). -/
def State.lowSample (s : State) (tick : Nat) : State :=
  if s.cas.held then s.modCas (fun c => { c with orders := c.orders.filter (fun o => o.kind != .resume) })
  else s.modCas (fun c => { c with holdAt := match c.holdAt with
    | some t => some t
    | none => some (tick + 16) })

/-- What a high sample does: the master ends a hold. The RESUME it sends 6 ticks after the slot tick has the countdown
`CAS_LEAD` − 6, and lands `CAS_LEAD` ticks after the slot tick (R223). -/
def State.highSample (s : State) : State :=
  if s.cas.held && s.isMaster && !s.resumeDue then
    let lead := s.rd R.CAS_LEAD.TICKS 0
    (s.sendDown .resume (lead - 6) 0).modCas (fun c => { c with orders := c.orders ++ [⟨.resume, lead, 0⟩] })
  else s

/-- HOLD_SLOT_CHECK: a slot tick of the unit, one of the ticks that are multiples of 8 (R222), or of the master before START
(R230). `low`: another package drives HOLD_N low. `done`: the DONE line. -/
def doHoldSlotCheck (tick : Nat) (low done : Bool) (s : State) : State :=
  if s.cas.started && tick % 8 != 0 then s
  else
  let s0 := s.showUnit
  let mine := s0.drivesLow
  let isLow := low || mine
  let s1 := ((s0.wr R.CAS_STATUS.HOLD_OUT 0 (b2n mine)).wr R.CAS_STATUS.HOLD_IN 0 (b2n isLow)).wr R.CAS_STATUS.DONE_IN 0
    (b2n done)
  if s1.cas.started then
    let s2 := s1.reachTick tick
    if isLow then s2.lowSample tick else s2.highSample
  else if s1.isMaster && s1.cas.waiting then
    s1.modCas (fun c => { c with highRun := if !isLow && done then c.highRun + 1 else 0 })
  else s1

/-- HOLD_SLOT_CHECK (R222). -/
def execHoldSlotCheck (tick : BitVec 64) (low done : Bool) (s : State) : Host.Outcome State Fault Refusal :=
  .next (doHoldSlotCheck tick.toNat low done s)

/-- The steps a partition owes the unit when a hold begins at tick t: those since its freeze, or since the detection of the error
that it replays for (R225, R257). -/
def State.owed (s : State) (p t : Nat) : Nat :=
  if s.pstate p = 6 then t - s.dipTick
  else if s.stepLive p then 0
  else match (s.part p).replay with
    | some r => t - r.tick
    | none => 0

/-- HOLD_BEGIN: from this tick the unit is held in every package; a partition that lags owes its steps (R222, R223, R225,
R257). -/
def doHoldBegin (tick : Nat) (s : State) : State :=
  match s.cas.holdAt with
  | none => s
  | some t =>
    if tick < t || !s.cas.started then s
    else
      let s1 := (s.reachTick tick).modCas (fun c => { c with held := true, holdAt := none })
      let s2 := s1.unitParts.foldl (fun s p =>
        if s.owed p t = 0 then s.hold p causeCascade
        else s.modPart p (fun x => { x with deficit := s.owed p t })) s1
      ((s2.count R.CAS_HOLD_COUNT.COUNT 0 1).raise .cas 0 4).showUnit

/-- HOLD_BEGIN (R223). -/
def execHoldBegin (tick : BitVec 64) (s : State) : Host.Outcome State Fault Refusal := .next (doHoldBegin tick.toNat s)

/-! ## Start, period and stop -/

/-- Whether the master may order START (R198, R208). -/
def State.startAllowed (s : State) : Bool :=
  (List.range 4).all (fun n => !(s.treePort n || s.netPort n) || s.carries n) &&
    !(s.rd R.CAS_CTRL.REL_MODE 0 == 1 && decide (s.rd R.CAS_REL_PERIOD.TICKS 0 < s.unitDepth))

/-- START_ISSUE: after eight consecutive slots with HOLD_N and DONE high the master sends START (R230). -/
def doStartIssue (s : State) : State :=
  if s.isMaster && s.cas.waiting && decide (8 ≤ s.cas.highRun) && !s.cas.orders.any (fun o => o.kind == .start) &&
      s.startAllowed then
    s.issueOrder .start (s.rd R.CAS_LEAD.TICKS 0) (s.rd R.CAS_CTRL.REL_MODE 0)
  else s

/-- START_ISSUE (R230). -/
def execStartIssue (s : State) : Host.Outcome State Fault Refusal := .next (doStartIssue s)

/-- PERIOD_RELEASE: under REL_MODE 01 each package counts the period itself (R198). -/
def doPeriodRelease (tick : Nat) (b : Inbound) (s : State) : State :=
  if s.cas.started && s.cas.mode == 1 && !s.cas.noRelease && decide (s.cas.nextRel ≤ tick) then
    let s1 := (s.reachTick tick).modCas (fun c => { c with nextRel := c.nextRel + s.rd R.CAS_REL_PERIOD.TICKS 0 })
    s1.masterParts.foldl (fun s p => s.release p b) s1
  else s

/-- PERIOD_RELEASE (R198). -/
def execPeriodRelease (tick : BitVec 64) (b : Inbound) (s : State) : Host.Outcome State Fault Refusal :=
  .next (doPeriodRelease tick.toNat b s)

/-- CAS_STOP (R229, R232). -/
def doCasStop (a : Accessor) (s : State) : State := (s.requestStop 1).respond a true 0

/-- DONE_FALL: after START the master sets PORT_FAILED and keeps HOLD_N low (R231). -/
def doDoneFall (s : State) : State :=
  let s1 := s.wr R.CAS_STATUS.DONE_IN 0 0
  if s1.isMaster && s1.cas.started then
    ((s1.raise .cas 0 2).modCas (fun c => { c with doneHold := true })).showUnit
  else s1

/-- DONE_FALL (R231). -/
def execDoneFall (s : State) : Host.Outcome State Fault Refusal := .next (doDoneFall s)

end Sys2Proof.Machine
end

