-- ==== Sys2Proof/Machine/Registers.lean ====
section
/-! DEFINITION. Machine/Registers.lean: reading and writing a register by its fields' access codes (R9 to R13, R510 to
R512), the lock of RW-L fields (R11), and what a write to an INT_STATUS or INT_ENABLE does to the interrupt controller
(R384, R390). -/

namespace Sys2Proof.Machine
open Sys2Proof

/-- The fields of a row of a register table at an offset. -/
def RegRow.at (r : RegRow) (off : Nat) : Option (List Fld) :=
  if off < r.base then none
  else if r.stride = 0 then (if off = r.base then some (r.flds 0) else none)
  else if (off - r.base) % r.stride = 0 ∧ (off - r.base) / r.stride < r.count then
    some (r.flds ((off - r.base) / r.stride))
  else none

/-- The fields of ERR_CAPTURE and ERR_ADDR, which every page has (R510, R512). -/
def commonFields (p : Page) (off : Nat) : Option (List Fld) :=
  if off = 0x18 then some [errCode p, errInitiator p, errAddrHi p, errOverrun p, errValid p]
  else if off = 0x1C then some [errAddr p]
  else none

/-- The fields of the register at an offset of a page beyond ID and SELECT; `none` for a reserved offset (R13). -/
def fieldsAt (p : Page) (off : Nat) : Option (List Fld) :=
  match commonFields p off with
  | some l => some l
  | none => (regRows p).findSome? (fun r => r.at off)

/-- ID of a page (R511). -/
def pageId (p : Page) : Nat := p.type + 0x11 * 256 + 65536 * (p.channels - 1)

/-- The value a read of a register returns: reserved bits and WO fields read 0 (R9, R13). -/
def State.readFields (s : State) (fs : List Fld) (ch : Nat) : Nat :=
  fs.foldl (fun v f => if f.acc = .wo then v else v + 2 ^ f.lo * s.rd f ch) 0

/-- A read with its effect clears every RC field (R9). -/
def State.clearFields (s : State) (fs : List Fld) (ch : Nat) : State :=
  fs.foldl (fun s f => if f.acc = .rc then s.wr f ch 0 else s) s

/-- Whether the RW-L fields of a register are locked (R11, R106, R232, R409). -/
def State.lockedReg (s : State) (p : Page) (ch off : Nat) : Bool :=
  match p with
  | .prt => (s.part ch).locked
  | .res =>
    if 0x100 ≤ off ∧ off < 0x200 then (s.part ((off - 0x100) / 4)).locked
    else if 0x200 ≤ off ∧ off < 0x400 then (s.part ((off - 0x200) / 8)).locked
    else false
  | .cas => s.cas.locked
  | .noc => s.nocLocked
  | _ => false

/-- The effect of a write on one field, by its access code (R9). -/
def State.writeField (s : State) (f : Fld) (ch v : Nat) (locked : Bool) : State :=
  let x := bitsOf v f.lo f.width
  match f.acc with
  | .rw => s.wr f ch x
  | .rwl => if locked then s else s.wr f ch x
  | .w1c => s.wr f ch (s.rd f ch - (s.rd f ch &&& x))
  | .w1s => s.wr f ch (s.rd f ch ||| x)
  | .ro => s
  | .wo => s
  | .rc => s

/-- Whether a write would change an RW-L field of a register (R11). -/
def State.changesLocked (s : State) (fs : List Fld) (ch v : Nat) : Bool :=
  fs.any (fun f => f.acc == .rwl && s.rd f ch != bitsOf v f.lo f.width)

/-- Clearing VALID of an ERR_CAPTURE clears OVERRUN with it (R512). -/
def State.rearmCapture (s : State) (p : Page) (ch off v : Nat) : State :=
  if off = 0x18 ∧ bitOf v 31 = 1 then s.wr (errOverrun p) ch 0 else s

/-! ## Interrupts of a page -/

/-- A source's host message is rearmed: if its line is high, one message is sent at once (R390). -/
def State.rearmSource (s : State) (n : Nat) : State :=
  let s1 := { s with irqDisarmed := s.irqDisarmed.filter (fun x => x != n) }
  if s1.rd (R.IRQ_TARGET.KIND n) 0 = 3 ∧ s1.line n then s1.irqEvent n else s1

/-- A W1C write to a page's INT_STATUS has been performed (R390). -/
def State.afterIntStatus (s : State) (p : Page) (ch : Nat) : State :=
  match sourceOf p ch with
  | some n => s.rearmSource n
  | none => s

/-- A write to INT_ENABLE that enables a bit already set is an event of the source (R384); `old`: the enables before. -/
def State.afterIntEnable (s : State) (p : Page) (ch old : Nat) : State :=
  let status := s.readFields ((fieldsAt p 0x0C).getD []) ch
  let now := s.readFields ((fieldsAt p 0x10).getD []) ch
  if (status &&& (now - (now &&& old))) != 0 then
    match sourceOf p ch with
    | some n => s.irqEvent n
    | none => s
  else s

/-- A write to a register by its fields' access codes, with the locked-write record of R11 and the interrupt effects of
INT_STATUS and INT_ENABLE. -/
def State.writeFields (s : State) (a : Accessor) (p : Page) (ch off v : Nat) (fs : List Fld) : State :=
  let locked := s.lockedReg p ch off
  let s0 := if locked && s.changesLocked fs ch v then s.errReg a p ch off 3 else s
  let old := s0.readFields fs ch
  let s1 := (fs.foldl (fun s f => s.writeField f ch v locked) s0).rearmCapture p ch off v
  if p = .eth then s1
  else if off = 0x0C then s1.afterIntStatus p ch
  else if off = 0x10 then s1.afterIntEnable p ch old
  else s1

/-! ## Staging and captures (R15, R107) -/

/-- The key of a wide value of an accessor's class: its page, channel and first offset. -/
def stageKey (a : Accessor) (p : Page) (ch off : Nat) : Nat :=
  2 ^ 40 * capClassOf a + 4096 * (p.type * 256 + ch) + off

/-- What an accessor has staged for a wide value. -/
def State.staged (s : State) (a : Accessor) (p : Page) (ch off : Nat) : Staged :=
  SMap.get {} s.staging (stageKey a p ch off)

/-- Set what an accessor has staged. -/
def State.setStaged (s : State) (a : Accessor) (p : Page) (ch off : Nat) (g : Staged) : State :=
  { s with staging := SMap.set {} s.staging (stageKey a p ch off) g }

/-- The value a high-word write applies: staged words where written, else the register's own (R15). -/
def Staged.apply (g : Staged) (cur : W128) (hi : W32) : W128 :=
  let w (x : Option W32) (i : Nat) : Nat := match x with
    | some v => v.toNat
    | none => wordOf cur i
  ofWords (w g.w0 0) (w g.w1 1) (w g.w2 2) hi.toNat

/-- A pair's high word is captured for a reader, with the read of its low word (R107). -/
def State.captureHi (s : State) (a : Accessor) (p : Page) (ch lo v : Nat) : State :=
  { s with hiCaptures := SMap.set none s.hiCaptures (stageKey a p ch lo) (some v) }

/-- What a reader has captured of a pair's high word (R107). -/
def State.capturedHi (s : State) (a : Accessor) (p : Page) (ch lo : Nat) : Option Nat :=
  SMap.get none s.hiCaptures (stageKey a p ch lo)

/-! ## Plain accesses -/

/-- A read of a register of a page that has no effect of its own; `quiet` keeps the RC fields (R9, R12, R13). -/
def State.plainRead (s : State) (p : Page) (ch off : Nat) (quiet : Bool) : Nat × State :=
  if off = 0 then (pageId p, s)
  else
    match fieldsAt p off with
    | none => (0, s)
    | some fs => (s.readFields fs ch, if quiet then s else s.clearFields fs ch)

/-- A write to a register of a page that has no effect of its own; a write to a reserved offset is ignored and recorded
(R9, R13). ID is read-only. -/
def State.plainWrite (s : State) (a : Accessor) (p : Page) (ch off v : Nat) : State :=
  if off = 0 then s
  else
    match fieldsAt p off with
    | none => s.errReg a p ch off 1
    | some fs => s.writeFields a p ch off v fs

/-- Whether a debug-path read of an accessor is quiet (R12, R484): channel 0 of the DBG_ page's per-front-end registers
is the PCIe front end, channel 1 the JTAG front end (R476). -/
def State.quiet (s : State) (a : Accessor) : Bool :=
  match a with
  | .pcieDbg => !s.on R.DBG_ACCESS.SIDE_EFFECTS 0
  | .jtag => !s.on R.DBG_ACCESS.SIDE_EFFECTS 1
  | _ => false

end Sys2Proof.Machine
end

