-- ==== Sys2Proof/Machine/Access.lean ====
section
/-! DEFINITION. Machine/Access.lean: what every register access passes before it acts: the block is served (R29, R459), the
initiator is permitted on the page (R121, R407, R408, R495), and the debug access level allows it (R479); and how a
refusal appears to the initiator (R452). -/

namespace Sys2Proof.Machine
open Sys2Proof

/-! ## Refusals (R452) -/

/-- A refused access is answered with an error response; at the PCIe endpoint it sets REFUSED (R452). -/
def State.refuseAccess (s : State) (a : Accessor) : State :=
  (if a = .host then s.raise .hst 0 1 else s).respond a false 0

/-- A register read that needs a word whose seal or check fails (R24): an error response; at the PCIe endpoint a poisoned
completion, which sets POISONED (R452). -/
def State.sealAccess (s : State) (a : Accessor) : State :=
  (if a = .host then s.raise .hst 0 2 else s).emit (.regResp a 3 0)

/-! ## Permission -/

/-- Whether a model core may access an offset of the HMS_ page (R408). -/
def hmsCoreMay (off : Nat) (write : Bool) : Bool :=
  if write then (decide (0x100 ≤ off) && decide (off < 0x140)) || off == 0x64 || off == 0x68
  else off == 0x60 || off == 0x6C || (decide (0x140 ≤ off) && decide (off < 0x180)) ||
    (decide (0x100 ≤ off) && decide (off < 0x140)) || off == 0x64 || off == 0x68

/-- Whether model core m may access an offset of the DBG_ page: write its terminal's TX and its notes, read its RX and
its terminal's status (R495 and before it). -/
def dbgCoreMay (m off : Nat) (write : Bool) : Bool :=
  if write then off == 0x130 + 0x40 * m || (decide (0x800 + 0x40 * m ≤ off) && decide (off < 0x840 + 0x40 * m))
  else off == 0x134 + 0x40 * m || off == 0x138 + 0x40 * m

/-- Whether an initiator is permitted on a page's channel (R121, R407, R408, R495). -/
def initiatorMay (a : Accessor) (p : Page) (ch off : Nat) (write : Bool) : Bool :=
  match a with
  | .core m =>
    match p with
    | .mdc => ch == m.val && !(write && off == 0x14)
    | .prt => false | .orc => false | .dmb => false | .lne => false | .acq => false
    | .irq => write && (off == 0xC0 || off == 0xC4)
    | .hms => hmsCoreMay off write
    | .dbg => dbgCoreMay m.val off write
    | _ => true
  | _ => true

/-- Whether a debug level reaches a register (R479). The DBG_ page is reached at the debug quay; at level 1 the window
reaches reads of the DEV_, PWR_ and LOG_ pages and the mailbox registers of the HST_ page. -/
def levelMay (level : Nat) (p : Page) (off : Nat) (write : Bool) : Bool :=
  if 2 ≤ level then true
  else
    match p with
    | .dbg =>
      off == 0x08 || (decide (0x48 ≤ off) && decide (off ≤ 0x54)) || off == 0x5C ||
        (decide (0x500 ≤ off) && decide (off < 0x5F0)) ||
        (level == 1 && (off == 0x60 || (decide (0x80 ≤ off) && decide (off < 0xA0))))
    | .dev => level == 1 && !write
    | .pwr => level == 1 && !write
    | .log => level == 1 && !write
    | .hst => level == 1 && decide (0x40 ≤ off) && decide (off < 0x100)
    | _ => false

/-- The debug access level (R479). -/
def State.debugLevel (s : State) : Nat := s.rd R.DBG_STATUS.LEVEL 0

/-- What answers a register access: 0 it is performed, 8 beyond the debug level (R479), 9 nothing answers: the device is in Off or Standby (R31), or the
initiator's own quay is dead and discards it (R403), 10 the initiator is not permitted on the page (R121), else the NoC STATUS: 1 no route
(R401), 6 the owner's quay is dead (R403), 2 the block is asleep (R29). The NOC_ page of a quay is served by its edge
router (R399). -/
def State.accessCode (s : State) (a : Accessor) (p : Page) (ch off : Nat) (write : Bool) : Nat :=
  let src := nodeOf a
  let d := nodeOfPage p ch
  if s.rd R.PWR_STATUS.DEV_STATE 0 < 2 then 9
  else if viaDebug a && !levelMay s.debugLevel p off write then 8
  else if src != d && s.quayIsDead src then 9
  else if src != d && !s.routeOk src d then 1
  else if p != .noc && src != d && s.quayIsDead d then 6
  else if !s.served a p ch then 2
  else if !initiatorMay a p ch off write then 10
  else 0

/-- An initiator that a page does not permit gets an error response, recorded with CODE 14 (R121, R387, R513). -/
def State.deny (s : State) (a : Accessor) (p : Page) (ch off : Nat) : State :=
  ((s.errReg a p ch off 14).quayStatus (nodeOf a) 4 0).refuseAccess a

/-- Perform a register access, or answer it as `accessCode` says. -/
def State.access (s : State) (a : Accessor) (p : Page) (ch off : Nat) (write : Bool) (act : State → State) : State :=
  match s.accessCode a p ch off write with
  | 0 => act s
  | 8 => s.refuseAccess a
  | 9 => s
  | 10 => s.deny a p (if p = .mdc then ch else 0) off
  | n => (s.quayStatus (nodeOf a) n (regAddress p ch off)).refuseAccess a

/-- A write that a register's own rules refuse: recorded with a code, the register unchanged (R9, R513). -/
def State.refuseWrite (s : State) (a : Accessor) (p : Page) (ch off code : Nat) : State :=
  (s.errReg a p ch off code).respond a true 0

/-- A page-wide register's channel for the registers that exist once per debug front end (R476, R505): 1 for JTAG, 0 for
the PCIe debug path and every access through the NoC. -/
def frontEnd (a : Accessor) : Nat := if a = .jtag then 1 else 0

end Sys2Proof.Machine
end

