-- ==== Sys2Proof/Machine/Harbour.lean ====
section
/-! DEFINITION. Machine/Harbour.lean: the harbourmaster: the descriptor pool (R391), posting and back-pressure (R392),
dispatch (R393), TAKE (R394), completion (R395), failure (R396) and cancelling (R397, R398). -/

namespace Sys2Proof.Machine
open Sys2Proof

/-- Change the harbourmaster's own data. -/
def State.modHms (s : State) (f : Hms → Hms) : State := { s with hms := f s.hms }

/-- Set a software source's pending bit, which is its event (R384). -/
def State.setSoft (s : State) (n : Nat) : State :=
  let f := softPend (decide (32 ≤ n))
  (s.wr f 0 (setBit (s.rd f 0) (n % 32) 1)).irqEvent (192 + n)

/-- The initiator of a post: the host, the debug path, each control core, each model core (R392). -/
def posterOf : Accessor → Nat
  | .host => 0
  | .jtag => 1
  | .pcieDbg => 1
  | .fw k => 2 + k.val
  | .core m => 6 + m.val

/-! ## Descriptors -/

/-- State of a descriptor (R398). -/
def State.itemState (s : State) (i : Nat) : Nat := SMap.get 0 s.hms.state i

/-- Descriptors in a state. -/
def State.itemsIn (s : State) (st : Nat) : Nat := (s.hms.state.filter (fun e => e.2 == st)).length

/-- Queue of a level. -/
def State.hmsQueue (s : State) (l : Nat) : List Nat := SMap.get [] s.hms.queues l

/-- Item stack of a core, top first. -/
def State.hmsStack (s : State) (m : Nat) : List HmsItem := SMap.get [] s.hms.coreStacks m

/-- Outstanding dispatch of a core. -/
def State.hmsDispatch (s : State) (m : Nat) : Option HmsDispatch := SMap.get none s.hms.dispatch m

/-- Set a descriptor's state. -/
def State.setItem (s : State) (i st : Nat) : State := s.modHms (fun h => { h with state := SMap.set 0 h.state i st })

/-- Set the queue of a level. -/
def State.setQueue (s : State) (l : Nat) (q : List Nat) : State :=
  s.modHms (fun h => { h with queues := SMap.set [] h.queues l q })

/-- Set the stack of a core. -/
def State.setStack (s : State) (m : Nat) (l : List HmsItem) : State :=
  s.modHms (fun h => { h with coreStacks := SMap.set [] h.coreStacks m l })

/-- Set the outstanding dispatch of a core. -/
def State.setDispatch (s : State) (m : Nat) (d : Option HmsDispatch) : State :=
  s.modHms (fun h => { h with dispatch := SMap.set none h.dispatch m d })

/-- `HMS_COREm` shows a core's stack and dispatch. -/
def State.showStack (s : State) (m : Nat) : State :=
  let st := s.hmsStack m
  let (lv, ix) := match st with
    | i :: _ => (i.level, i.idx)
    | [] => (0, 0)
  (((s.wr (R.HMS_CORE.DEPTH m) 0 st.length).wr (R.HMS_CORE.TOP_LEVEL m) 0 lv).wr (R.HMS_CORE.TOP_INDEX m) 0 ix).wr
    (R.HMS_CORE.DISPATCH m) 0 (b2n (s.hmsDispatch m).isSome)

/-- `HMS_COUNT_LO`, `_HI` and `HMS_STATUS` show one instant (R398). -/
def State.showHms (s : State) : State :=
  let q := s.itemsIn 1
  let d := s.itemsIn 2
  let r := s.itemsIn 3
  ((((s.wr R.HMS_COUNT_LO.FREE 0 (4096 - q - d - r)).wr R.HMS_COUNT_LO.QUEUED 0 q).wr R.HMS_COUNT_HI.DISPATCHING 0 d).wr
    R.HMS_COUNT_HI.RUNNING 0 r).wr R.HMS_STATUS.BP 0 (b2n (!s.hms.held.isEmpty))

/-- ENTRY, LEVEL, NOTIFY_EN, NOTIFY, CORES and RESULT_ADDR of a descriptor's word 0 (R391). -/
def descEntry (w : W128) : Nat := bitsOf w.toNat 0 32
/-- LEVEL. -/
def descLevel (w : W128) : Nat := bitsOf w.toNat 32 3
/-- CORES. -/
def descCores (w : W128) : Nat := bitsOf w.toNat 48 16
/-- RESULT_ADDR. -/
def descResult (w : W128) : Nat := bitsOf w.toNat 64 40

/-- Word 0 of an item. -/
def HmsItem.head (i : HmsItem) : W128 := (i.words[0]?).getD 0

/-! ## The pool (R391) -/

/-- A refused pool access stops dispatching (R391). -/
def State.poolError (s : State) : State :=
  ((s.wr R.HMS_CTRL.EN 0 0).raise .hms 0 3).logEvent 0x08 0 2 evPool 0 0

/-- The harbourmaster as a requester of a bank (R137). -/
def hmsRequester : Requester := ⟨5, 0, 38, false⟩

/-- Word k of descriptor i: its index in the bank. -/
def State.poolWord (s : State) (i k : Nat) : Nat := s.rd R.HMS_POOL.FIRST 0 + 4 * i + k

/-- Write a word of the pool: whether the bank lets it; a refusal is recorded (R138, R144, R158). -/
def State.poolWrite (s : State) (w : Nat) (v : W128) : Bool × State :=
  let b := s.rd R.HMS_POOL.BANK 0
  match s.directAccess b w hmsRequester true with
  | (true, s1) => (true, (s1.writeBank b w v false).clearBankResv b w)
  | (false, s1) => (false, s1)

/-- Write a descriptor's words to the pool from word k on, up to the first that the bank refuses. -/
def State.poolStore (s : State) (w : Nat) : List W128 → Bool × State
  | [] => (true, s)
  | v :: r =>
    match s.poolWrite w v with
    | (true, s1) => s1.poolStore (w + 1) r
    | (false, s1) => (false, s1)

/-- Read n words of the pool from word w on; `none` where the bank refuses one or its word is uncorrectable. -/
def State.poolLoad (s : State) (w : Nat) : Nat → Option (List W128) × State
  | 0 => (some [], s)
  | n + 1 =>
    let b := s.rd R.HMS_POOL.BANK 0
    match s.directAccess b w hmsRequester false with
    | (true, s1) =>
      match s1.readBank b w 38 with
      | (some v, s2) =>
        match s2.poolLoad (w + 1) n with
        | (some r, s3) => (some (v :: r), s3)
        | (none, s3) => (none, s3)
      | (none, s2) => (none, s2)
    | (false, s1) => (none, s1)

/-! ## Posting (R392) -/

/-- The four words an initiator has staged. -/
def State.stagedDesc (s : State) (k : Nat) : List W128 :=
  (List.range 4).map fun j =>
    let g (i : Nat) := (SMap.get 0 s.hms.staging (k * 16 + 4 * j + i)).toNat
    ofWords (g 0) (g 1) (g 2) (g 3)

/-- The descriptors that are free. -/
def State.freeItems (s : State) : List Nat := (List.range 4096).filter (fun i => s.itemState i == 0)

/-- A commit takes a free descriptor: it is written to the pool and joins the tail of its queue (R392). Which free
descriptor is taken is a free choice. -/
def State.takeDescriptor (s : State) (a : Accessor) : State :=
  let free := s.freeItems
  match free[Config.freeChoice s.freeUses % free.length]? with
  | none => s
  | some i =>
    let s := { s with freeUses := s.freeUses + 1 }
    let ws := s.stagedDesc (posterOf a)
    match s.poolStore (s.poolWord i 0) ws with
    | (false, s1) => s1.poolError.respond a false 0
    | (true, s1) =>
      let l := descLevel ((ws[0]?).getD 0)
      let s2 := (s1.setItem i 1).setQueue l (s1.hmsQueue l ++ [i])
      ((s2.modHms (fun h => { h with posted := SMap.set none h.posted (posterOf a) (some i) })).showHms).respond a true 0

/-- Whether a descriptor may be posted (R392): CORES is not 0, ENTRY and RESULT_ADDR are aligned. -/
def descOk (w : W128) : Bool := descCores w != 0 && descEntry w % 16 == 0 && descResult w % 16 == 0

/-- The write of `HMS_POST15` (R392). -/
def State.postCommit (s : State) (a : Accessor) (v : W32) : State :=
  let k := posterOf a
  let s := s.modHms (fun h => { h with staging := SMap.set 0 h.staging (k * 16 + 15) v })
  if !descOk (((s.stagedDesc k)[0]?).getD 0) then (s.errReg a .hms 0 0x13C 4).respond a false 0
  else if s.freeItems.isEmpty then (s.modHms (fun h => { h with held := h.held ++ [a] })).showHms
  else s.takeDescriptor a

/-- The write of `HMS_POST0` to `HMS_POST14` stages a word (R392). -/
def State.postWord (s : State) (a : Accessor) (k : Nat) (v : W32) : State :=
  (s.modHms (fun h => { h with staging := SMap.set 0 h.staging (posterOf a * 16 + k) v })).respond a true 0

/-! ## Completion (R395) -/

/-- The last steps of a completion: the notify source is set and the descriptor is freed. -/
def State.finishItem (s : State) (i : HmsItem) : State :=
  let s1 := if bitOf i.head.toNat 35 = 1 then s.setSoft (bitsOf i.head.toNat 36 6) else s
  (s1.setItem i.idx 0).showHms

/-- The completion record (R395). -/
def completionRecord (i : HmsItem) (core status result : Nat) : W128 :=
  BitVec.ofNat 128 (bitsOf ((i.words[1]?).getD 0).toNat 0 64 + 2 ^ 64 * (result % 2 ^ 32) + 2 ^ 96 * status +
    2 ^ 100 * (core % 16) + 2 ^ 104 * i.idx)

/-- A tag that no outstanding request of the list uses. -/
def freeTag (used : List Nat) : Nat := ((List.range 64).find? (fun t => !used.contains t)).getD 0

/-- An item's completion record is written; the quay has at most 64 requests outstanding, and the record waits for room (R395,
R400). -/
def State.sendRecord (s : State) (i : HmsItem) (w : W128) : State :=
  let addr := descResult i.head
  match s.nodeOfAddress (.fw 0) addr with
  | none => (s.quayStatus 38 1 addr).finishItem i
  | some d =>
    if !s.routeOk 38 d then (s.quayStatus 38 1 addr).finishItem i
    else if 64 ≤ s.hms.completing.length then (s.modHms (fun h => { h with unsent := h.unsent ++ [(i, w)] })).showHms
    else
      let tag := freeTag (s.hms.completing.map (fun c => c.tag))
      ((s.quaySend 38 tag 1 addr 65535 [w]).modHms (fun h => { h with completing := h.completing ++ [⟨tag, i⟩] })).showHms

/-- An item that has left its stack or queue completes: its record is written where RESULT_ADDR is not 0, and the rest
waits for the write's response (R395). -/
def State.completeItem (s : State) (i : HmsItem) (core status result : Nat) : State :=
  if descResult i.head = 0 then s.finishItem i else s.sendRecord i (completionRecord i core status result)

/-- The oldest completion record that waits for room in the quay goes out (R400). -/
def State.sendUnsent (s : State) : State :=
  match s.hms.unsent with
  | [] => s
  | (i, w) :: r => (s.modHms (fun h => { h with unsent := r })).sendRecord i w

/-- The core's top item is completed by a write to `HMS_DONE` or `HMS_FAIL` (R395). -/
def State.completeTop (s : State) (a : Accessor) (off status : Nat) (v : W32) : State :=
  match a with
  | .core m =>
    match s.hmsStack m.val with
    | [] => (s.errReg a .hms 0 off 4).respond a true 0
    | i :: rest => (((s.setStack m.val rest).showStack m.val).completeItem i m.val status v.toNat).respond a true 0
  | _ => (s.errReg a .hms 0 off 4).respond a true 0

/-- The response to a completion record's write arrives (R395). -/
def doCompletionRecordResponse (tag status : Nat) (s : State) : State :=
  match s.hms.completing.find? (fun c => c.tag == tag) with
  | none => s
  | some c =>
    (((s.modHms (fun h => { h with completing := h.completing.filter (fun x => x.tag != tag) })).quayTake 38 status
      (descResult c.item.head)).finishItem c.item).sendUnsent

/-- COMPLETION_RECORD_RESPONSE (R395). -/
def execCompletionRecordResponse (tag : Fin 64) (status : Fin 8) (s : State) : Host.Outcome State Fault Refusal :=
  .next (doCompletionRecordResponse tag.val status.val s)

/-! ## Failure of a core (R396) -/

/-- A withdrawn dispatch: the item returns to the head of its level (R394, R396). -/
def State.withdraw (s : State) (m : Nat) : State :=
  match s.hmsDispatch m with
  | none => s
  | some d =>
    ((s.setDispatch m none).setItem d.item.idx 1).setQueue d.item.level (d.item.idx :: s.hmsQueue d.item.level)

/-- Core m takes no further dispatch (R394, R396). -/
def State.dropCore (s : State) (m : Nat) : State :=
  s.wr R.HMS_POOL_CORES.CORES 0 (setBit (s.rd R.HMS_POOL_CORES.CORES 0) m 0)

/-- What the harbourmaster does when core m is reset: its items fail from the top down, an outstanding dispatch returns
to its level, and the core leaves the pool (R396). The result of a failed item's record is a free value. -/
def State.itemsFailed (s : State) (m : Nat) : State :=
  let items := s.hmsStack m
  let s1 := items.foldl (fun s i =>
    let (r, s) := s.free
    s.completeItem i m 2 (wordOf r 0)) (s.setStack m [])
  ((((s1.withdraw m).dropCore m).showStack m).showHms.raise .hms 0 0).logEvent 0x08 m 1 evCore 0 m

/-! ## Dispatch (R393) -/

/-- Whether a core is idle (R393). -/
def State.coreIdle (s : State) (m : Nat) : Bool :=
  bitOf (s.rd R.HMS_POOL_CORES.CORES 0) m == 1 && !s.on R.MDC_CTRL.RESET m && s.on R.MDC_CTRL.CLK_EN m &&
    (s.hmsStack m).isEmpty && (s.hmsDispatch m).isNone

/-- Level of a core's top item where the head of a level may pre-empt the core (R393). -/
def State.preemptable (s : State) (m level : Nat) : Option Nat :=
  if bitOf (s.rd R.HMS_POOL_CORES.CORES 0) m == 1 && (s.hmsDispatch m).isNone && decide ((s.hmsStack m).length < 8) then
    match s.hmsStack m with
    | i :: _ => if level < i.level then some i.level else none
    | [] => none
  else none

/-- The core with the greatest top level, and the lowest-numbered of those. -/
def greatestTop : List (Nat × Nat) → Option (Nat × Nat)
  | [] => none
  | x :: r =>
    match greatestTop r with
    | none => some x
    | some y => if y.2 ≤ x.2 then some x else some y

/-- The core a head is dispatched to, and whether it pre-empts (R393). -/
def State.dispatchTo (s : State) (cores level : Nat) : Option (Nat × Bool) :=
  match (onesOf 16 cores).find? (fun m => s.coreIdle m) with
  | some m => some (m, false)
  | none =>
    (greatestTop ((onesOf 16 cores).filterMap (fun m => (s.preemptable m level).map (fun l => (m, l))))).map
      (fun x => (x.1, true))

/-- A dispatch moves the item from queued to dispatching, shows it in the core's view and raises the core's source
(R393). -/
def State.dispatch (s : State) (level m : Nat) (pre : Bool) (it : HmsItem) : State :=
  let s1 := (s.setQueue level (s.hmsQueue level).tail).setItem it.idx 2
  (((s1.setDispatch m (some ⟨it, pre⟩)).showStack m).showHms).irqEvent (144 + m)

/-- Look at the heads of the levels from `l` on, and make at most one dispatch (R393). -/
def State.scanLevels (s : State) (l : Nat) : Nat → State
  | 0 => s
  | n + 1 =>
    match s.hmsQueue l with
    | [] => s.scanLevels (l + 1) n
    | i :: _ =>
      match s.poolLoad (s.poolWord i 0) 4 with
      | (none, s1) => s1.poolError
      | (some ws, s1) =>
        match s1.dispatchTo (descCores ((ws[0]?).getD 0)) l with
        | some (m, pre) => s1.dispatch l m pre ⟨i, l, ws⟩
        | none => s1.scanLevels (l + 1) n

/-- DISPATCH_SCAN (R393). -/
def doDispatchScan (s : State) : State := if s.on R.HMS_CTRL.EN 0 then s.scanLevels 0 8 else s

/-- DISPATCH_SCAN (R393). -/
def execDispatchScan (s : State) : Host.Outcome State Fault Refusal := .next (doDispatchScan s)

/-- A read of `HMS_TAKE` by a core acknowledges its dispatch (R394). -/
def State.takeDispatch (s : State) (a : Accessor) : State :=
  match a with
  | .core m =>
    match s.hmsDispatch m.val with
    | none => s.respond a true 0
    | some d =>
      let s1 := ((s.setDispatch m.val none).setItem d.item.idx 3).setStack m.val (d.item :: s.hmsStack m.val)
      ((s1.showStack m.val).showHms).respond a true
        (d.item.idx + 2 ^ 12 * d.item.level + 2 ^ 15 * b2n d.preempt + 2 ^ 31)
  | _ => s.respond a true 0

/-- TAKE_TIMEOUT: the dispatch is withdrawn and the core leaves the pool (R394); the limit does not count for a halted
core (R490). -/
def doTakeTimeout (m : Nat) (s : State) : State :=
  if (s.hmsDispatch m).isNone || s.rd R.MDC_STATUS.STATE m == 3 then s
  else
    (((((s.withdraw m).dropCore m).showStack m).showHms).raise .hms 0 1).logEvent 0x08 m 1 evCore 1 m

/-- TAKE_TIMEOUT (R394). -/
def execTakeTimeout (m : Fin 16) (s : State) : Host.Outcome State Fault Refusal := .next (doTakeTimeout m.val s)

/-! ## Cancelling (R397) -/

/-- A write to `HMS_CANCEL`: a queued item is removed and completes as cancelled (R397). The core and the result of its
record are free values. -/
def State.cancelItem (s : State) (a : Accessor) (v : W32) : State :=
  let i := bitsOf v.toNat 0 12
  match (List.range 8).find? (fun l => (s.hmsQueue l).contains i) with
  | none => (s.errReg a .hms 0 0x58 4).respond a true 0
  | some l =>
    match s.poolLoad (s.poolWord i 0) 4 with
    | (none, s1) => (s1.poolError).respond a false 0
    | (some ws, s1) =>
      let (r, s2) := s1.free
      ((s2.setQueue l ((s2.hmsQueue l).filter (fun x => x != i))).completeItem ⟨i, l, ws⟩ (wordOf r 1) 3
        (wordOf r 0)).respond a true 0

/-! ## The HMS_ page (R408) -/

/-- A write to `HMS_CTRL` (R391, R397), `HMS_POOL` or `HMS_TAKE_LIMIT` (R408). -/
def State.hmsControl (s : State) (a : Accessor) (off v : Nat) : State :=
  let refuse := (s.errReg a .hms 0 off 4).respond a true 0
  if off = 0x04 then
    if bitOf v 0 = 1 ∧ !(s.berthNames (s.rd R.HMS_POOL.BANK 0) 5 0) then refuse
    else (s.plainWrite a .hms 0 off v).respond a true 0
  else if off = 0x40 then
    if s.on R.HMS_CTRL.EN 0 || decide (s.rd R.HMS_COUNT_LO.FREE 0 < 4096) || bitsOf v 8 18 % 4 != 0 ||
        decide (262144 < bitsOf v 8 18 + 16384) then refuse
    else (s.plainWrite a .hms 0 off v).respond a true 0
  else if off = 0x4C then
    if bitsOf v 0 16 = 0 then refuse else (s.plainWrite a .hms 0 off v).respond a true 0
  else (s.plainWrite a .hms 0 off v).respond a true 0

/-- A write to the page, in the initiator's order. -/
def State.hmsWriteNow (s : State) (a : Accessor) (off : Nat) (v : W32) : State :=
  if off = 0x13C then s.postCommit a v
  else if 0x100 ≤ off ∧ off < 0x13C then s.postWord a ((off - 0x100) / 4) v
  else if off = 0x58 then s.cancelItem a v
  else if off = 0x64 then s.completeTop a off 1 v
  else if off = 0x68 then s.completeTop a off 2 v
  else s.hmsControl a off v.toNat

/-- The item a core's `HMS_ITEMk` view shows: the one dispatched to it, else its top item (R393, R408). -/
def State.viewItem (s : State) (a : Accessor) : Option HmsItem :=
  match a with
  | .core m =>
    match s.hmsDispatch m.val with
    | some d => some d.item
    | none => (s.hmsStack m.val).head?
  | _ => none

/-- A read of the page, in the initiator's order. -/
def State.hmsReadNow (s : State) (a : Accessor) (off : Nat) : State :=
  if off = 0x60 then (if s.quiet a then s.respond a true 0 else s.takeDispatch a)
  else if off = 0x6C then
    match SMap.get none s.hms.posted (posterOf a) with
    | some i => s.respond a true (i + 2 ^ 31)
    | none => s.respond a true 0
  else if 0x140 ≤ off ∧ off < 0x180 then
    let k := (off - 0x140) / 4
    match s.viewItem a with
    | some i => s.respond a true (wordOf ((i.words[k / 4]?).getD 0) (k % 4))
    | none => s.respond a true 0
  else if off = 0x50 then
    (s.captureHi a .hms 0 0x50 (s.plainRead .hms 0 0x54 true).1).respond a true (s.plainRead .hms 0 0x50 true).1
  else if off = 0x54 then s.respond a true ((s.capturedHi a .hms 0 0x50).getD 0)
  else
    let (v, s1) := s.plainRead .hms 0 off (s.quiet a)
    s1.respond a true v

/-- An access to the page: behind a held commit of its initiator it waits (R392, R400). -/
def State.hmsAccess (s : State) (a : Accessor) (off : Nat) (write : Bool) (v : W32) : State :=
  if s.hms.held.any (fun h => posterOf h == posterOf a) then
    s.modHms (fun h => { h with waiting := h.waiting ++ [⟨a, off, write, v⟩] })
  else if write then s.hmsWriteNow a off v
  else s.hmsReadNow a off

/-- POST_WORD_WRITE (R392). -/
def doPostWordWrite (a : Accessor) (k : Nat) (v : W32) (s : State) : State := s.hmsAccess a (0x100 + 4 * k) true v

/-- POST_COMMIT (R392). -/
def doPostCommit (a : Accessor) (v : W32) (s : State) : State := s.hmsAccess a 0x13C true v

/-- HMS_TAKE (R394). -/
def doHmsTake (a : Accessor) (s : State) : State := s.hmsAccess a 0x60 false 0

/-- HMS_DONE (R395). -/
def doHmsDone (a : Accessor) (v : W32) (s : State) : State := s.hmsAccess a 0x64 true v

/-- HMS_FAIL (R395). -/
def doHmsFail (a : Accessor) (v : W32) (s : State) : State := s.hmsAccess a 0x68 true v

/-- HMS_CANCEL (R397). -/
def doHmsCancel (a : Accessor) (v : W32) (s : State) : State := s.hmsAccess a 0x58 true v

/-- Perform accesses that waited, in order; one that is held again keeps the rest of its initiator waiting. -/
def State.replayAccesses (s : State) : List HmsWait → State
  | [] => s
  | w :: r => (s.hmsAccess w.who w.off w.write w.val).replayAccesses r

/-- The oldest held commit leaves, and the accesses behind it are performed (R392, R400). -/
def State.releaseHeld (s : State) (a : Accessor) (rest : List Accessor) (act : State → State) : State :=
  let mine := s.hms.waiting.filter (fun w => posterOf w.who == posterOf a)
  let s1 := s.modHms (fun h => { h with
    held := rest, waiting := h.waiting.filter (fun w => posterOf w.who != posterOf a) })
  ((act s1).showHms).replayAccesses mine

/-- BACKPRESSURE_RELEASE: the oldest held commit completes when a descriptor is free (R392). -/
def doBackpressureRelease (s : State) : State :=
  match s.hms.held with
  | [] => s
  | a :: rest => if s.freeItems.isEmpty then s else s.releaseHeld a rest (fun s => s.takeDescriptor a)

/-- BACKPRESSURE_RELEASE (R392). -/
def execBackpressureRelease (s : State) : Host.Outcome State Fault Refusal := .next (doBackpressureRelease s)

/-- BACKPRESSURE_TIMEOUT: the oldest held commit is refused with an error response (R392). -/
def doBackpressureTimeout (s : State) : State :=
  match s.hms.held with
  | [] => s
  | a :: rest =>
    if s.rd R.HMS_BP_LIMIT.US 0 = 0 then s
    else s.releaseHeld a rest (fun s => (s.raise .hms 0 2).respond a false 0)

/-- BACKPRESSURE_TIMEOUT (R392). -/
def execBackpressureTimeout (s : State) : Host.Outcome State Fault Refusal := .next (doBackpressureTimeout s)

end Sys2Proof.Machine
end

