-- ==== Sys2Proof/Machine/CoreTrace.lean ====
section
/-! DEFINITION. Machine/CoreTrace.lean: the registers of a model core as every reader sees them, and the packets a traced
core writes into its FIFO (R498 to R502). -/

namespace Sys2Proof.Machine
open Sys2Proof

/-! ## Registers of a core (R316, R355, R489) -/

/-- A register of a core, by its number of R489 (72 to 79: ACC0 to ACC7 as the MAC units read them). -/
def Core.reg (c : Core) (r : Nat) : Nat := SMap.get 0 c.regs r

/-- Set a register of a core. -/
def Core.setReg (c : Core) (r v : Nat) : Core := { c with regs := SMap.set 0 c.regs r v }

/-- Number of D register k. -/
def regD (k : Nat) : Nat := k
/-- Number of ACCk as every reader but the MAC units reads it. -/
def regAcc (k : Nat) : Nat := 32 + k
/-- Number of a pointer or modifier: 0–15 P, 16–23 M (R351). -/
def regP (k : Nat) : Nat := 40 + k
/-- Number of Mk. -/
def regM (k : Nat) : Nat := 56 + k
/-- Number of a control register (R355). -/
def regCR (k : Nat) : Nat := 65 + k
/-- Number of ACCk as the MAC units read it. -/
def regMac (k : Nat) : Nat := 72 + k
/-- ARS, ASC, ELR, ESTAT, EADDR, IRA, EVB. -/
def regARS : Nat := 65
/-- ASC. -/
def regASC : Nat := 66
/-- ELR. -/
def regELR : Nat := 67
/-- ESTAT. -/
def regESTAT : Nat := 68
/-- EADDR. -/
def regEADDR : Nat := 69
/-- IRA. -/
def regIRA : Nat := 70
/-- EVB. -/
def regEVB : Nat := 71

/-- PC: the address of the next bundle to issue. -/
def Core.pc (c : Core) : Nat := c.reg 64

/-- Set PC. -/
def Core.setPc (c : Core) (v : Nat) : Core := c.setReg 64 (v % 2 ^ 32)

/-- ESTAT.INEXC. -/
def Core.inExc (c : Core) : Bool := bitOf (c.reg regESTAT) 10 == 1

/-- ESTAT.INIRQ. -/
def Core.inIrq (c : Core) : Bool := bitOf (c.reg regESTAT) 11 == 1

/-- Set a bit of ESTAT. -/
def Core.setEstat (c : Core) (bit v : Nat) : Core := c.setReg regESTAT (setBit (c.reg regESTAT) bit v)

/-- The boundary before the next bundle is not held off (R363). -/
def Core.openBoundary (c : Core) : Bool := c.branch.isNone && c.rep.isNone

/-! ## Packets (R499, R500) -/

/-- Whether core m is traced (R498). -/
def State.traced (s : State) (m : Nat) : Bool := s.on R.TRC_CTRL.EN 0 && bitOf (s.rd R.TRC_CORES.CORES 0) m == 1

/-- The trace timestamp: core cycles since EN became 1, in 48 bits (R498). -/
def State.traceStamp (s : State) : Nat := (s.coreTicks - s.traceFrom) % 2 ^ 48

/-- n bytes of a number, little-endian. -/
def leBytes (x : Nat) : Nat → List Nat
  | 0 => []
  | n + 1 => x % 256 :: leBytes (x / 256) n

/-- A signed delta in the fewest bytes (R500): groups of seven bits, lowest first, sign-extended from bit 6 of the
last byte. -/
def deltaBytes (d : Int) : Nat → List Nat
  | 0 => []
  | n + 1 =>
    let low := (d % 128).toNat
    if -64 ≤ d ∧ d < 64 then [low] else (low + 128) :: deltaBytes (d / 128) n

/-- The delta between two addresses in bundle units. -/
def deltaTo (fromRef toRef : Nat) : List Nat := deltaBytes ((toRef : Int) - (fromRef : Int)) 6

/-- Change a core's trace. -/
def State.modTrace (s : State) (m : Nat) (f : CoreTrace → CoreTrace) : State :=
  s.modCore m (fun c => { c with trace := f c.trace })

/-- Append a packet's bytes where the FIFO of 256 bytes has room; otherwise it is dropped with every later packet
(R498, R501). -/
def State.traceBytes (s : State) (m : Nat) (b : List Nat) : State :=
  let t := (s.core m).trace
  if t.dropping then s
  else if 256 < t.fifo.length + b.length then
    (s.modTrace m (fun t => { t with dropping := true, outcomes := [] })).raise .trc 0 0
  else s.modTrace m (fun t => { t with fifo := t.fifo ++ b, since := t.since + b.length })

/-- SYNC: PC of the next bundle to issue and the timestamp; it sets the reference (R499, R500). -/
def State.traceSync (s : State) (m : Nat) : State :=
  let pc := (s.core m).pc
  (s.traceBytes m (0x01 :: leBytes pc 4 ++ leBytes s.traceStamp 6)).modTrace m
    (fun t => { t with ref := pc / 16, since := 0, syncDue := false })

/-- The bits of held outcomes, bit i for outcome i. -/
def outcomeBits : List Bool → Nat
  | [] => 0
  | b :: r => b2n b + 2 * outcomeBits r

/-- The outcomes held are flushed as one OUTCOME packet (R498). -/
def State.flushOutcomes (s : State) (m : Nat) : State :=
  let o := (s.core m).trace.outcomes
  if o.isEmpty then s
  else (s.traceBytes m [0x9F + o.length, outcomeBits o]).modTrace m (fun t => { t with outcomes := [] })

/-- A SYNC that is due by the sync period comes at the first packet boundary (R501). -/
def State.periodicSync (s : State) (m : Nat) : State :=
  let t := (s.core m).trace
  if !t.dropping && (t.syncDue || decide (s.rd R.TRC_SYNC_PERIOD.BYTES 0 ≤ t.since)) then
    (s.flushOutcomes m).traceSync m
  else s

/-- A packet of a traced core, behind the outcomes held (R498) and a SYNC that is due (R501). -/
def State.packet (s : State) (m : Nat) (b : List Nat) : State :=
  if s.traced m then (((s.periodicSync m).flushOutcomes m).traceBytes m b).periodicSync m else s

/-- The first packet of a traced core is SYNC (R501): where one is due, it comes before the bundle about to issue. -/
def State.firstSync (s : State) (m : Nat) : State :=
  if s.traced m && (s.core m).trace.syncDue then s.periodicSync m else s

/-- A BRcc records its outcome; eight outcomes are flushed (R498). -/
def State.traceOutcome (s : State) (m : Nat) (taken : Bool) : State :=
  if !s.traced m || (s.core m).trace.dropping then s
  else
    let s1 := s.modTrace m (fun t => { t with outcomes := t.outcomes ++ [taken] })
    if 8 ≤ (s1.core m).trace.outcomes.length then (s1.flushOutcomes m).periodicSync m else s1

/-- ADDR: the target of an indirect transfer, which becomes the reference (R498, R500). -/
def State.traceAddr (s : State) (m target : Nat) : State :=
  if !s.traced m then s
  else
    let s1 := (s.firstSync m).flushOutcomes m
    let r := (s1.core m).trace.ref
    ((s1.traceBytes m (0xC0 :: deltaTo r (target / 16))).modTrace m (fun t => { t with ref := target / 16 })).periodicSync m

/-- REP: the count of a repeat block whose count comes from a pointer (R498). -/
def State.traceRep (s : State) (m count : Nat) : State := s.packet m (0x07 :: leBytes count 2)

/-- NAP (R502). -/
def State.traceNap (s : State) (m : Nat) : State := s.packet m (0x03 :: leBytes s.traceStamp 6)

/-- HALT (R502). -/
def State.traceHalt (s : State) (m : Nat) : State := s.packet m (0x04 :: leBytes s.traceStamp 6)

/-- NOTE (R497, R496). -/
def State.traceNote (s : State) (m c data : Nat) : State :=
  s.packet m ((0x60 + c) :: leBytes data 4 ++ leBytes s.traceStamp 2)

/-- EXC: the kind, the source, the return address and the handler, which becomes the reference (R499, R500). -/
def State.traceExc (s : State) (m kind source ret handler : Nat) : State :=
  if !s.traced m then s
  else
    let s1 := (s.firstSync m).flushOutcomes m
    let r := (s1.core m).trace.ref
    ((s1.traceBytes m ([0x05, kind, source] ++ deltaTo r (ret / 16) ++ deltaTo (ret / 16) (handler / 16))).modTrace m
      (fun t => { t with ref := handler / 16 })).periodicSync m

/-- On waking or resuming the core emits SYNC (R502). -/
def State.traceResume (s : State) (m : Nat) : State :=
  if s.traced m then (s.flushOutcomes m).traceSync m else s

/-- Once 64 bytes are free again, LOSS and SYNC follow the dropped packets, and the overflow is counted (R501). -/
def State.traceRecover (s : State) (m : Nat) : State :=
  let t := (s.core m).trace
  if t.dropping && decide (t.fifo.length ≤ 192) then
    (((s.modTrace m (fun t => { t with dropping := false })).traceBytes m [0x02]).traceSync m).count R.TRC_OVERFLOWS.COUNT 0 1
  else s

end Sys2Proof.Machine
end

