-- ==== Sys2Proof/Machine/CoreAlu.lean ====
section
/-! DEFINITION. Machine/CoreAlu.lean: the fields of a model-core instruction (R350 to R354), the arithmetic of slots 0 and 1
(R330 to R333, R354) and the results it leaves to land (R357). -/

namespace Sys2Proof.Machine
open Sys2Proof

/-! ## Fields (R347, R350, R351) -/

/-- The instruction in slot k of a bundle (R346). -/
def slotOf (b : W128) (k : Nat) : Nat := bitsOf b.toNat (32 * k) 32
/-- OP. -/
def iOp (w : Nat) : Nat := bitsOf w 26 6
/-- W: 32-bit lanes. -/
def iW (w : Nat) : Bool := bitOf w 25 == 1
/-- RD. -/
def iRD (w : Nat) : Nat := bitsOf w 20 5
/-- RA. -/
def iRA (w : Nat) : Nat := bitsOf w 15 5
/-- RB. -/
def iRB (w : Nat) : Nat := bitsOf w 10 5
/-- X. -/
def iX (w : Nat) : Nat := bitsOf w 0 10
/-- The accumulator an RD field names. -/
def iAcc (w : Nat) : Nat := bitsOf w 20 3
/-- The accumulator an RA field names. -/
def iAccA (w : Nat) : Nat := bitsOf w 15 3

/-! ## Lanes (R316, R317) -/

/-- Width of a lane of a D register. -/
def laneW (w32 : Bool) : Nat := if w32 then 32 else 16

/-- Number of lanes. -/
def laneCount (w32 : Bool) : Nat := if w32 then 4 else 8

/-- Lane j of a D register. -/
def laneU (w32 : Bool) (a j : Nat) : Nat := bitsOf a (laneW w32 * j) (laneW w32)

/-- Lane j as a signed number. -/
def laneS (w32 : Bool) (a j : Nat) : Int := signedOf (laneW w32) (laneU w32 a j)

/-- A D register from its first n lanes. -/
def lanesUpTo (w32 : Bool) (f : Nat → Nat) : Nat → Nat
  | 0 => 0
  | n + 1 => lanesUpTo w32 f n + (f n % 2 ^ laneW w32) * 2 ^ (laneW w32 * n)

/-- A D register from its lanes. -/
def lanes (w32 : Bool) (f : Nat → Nat) : Nat := lanesUpTo w32 f (laneCount w32)

/-- The signed number of a width nearest to an integer. -/
def clamp (w : Nat) (x : Int) : Int :=
  if x < -((2 ^ (w - 1) : Nat) : Int) then -((2 ^ (w - 1) : Nat) : Int)
  else if ((2 ^ (w - 1) : Nat) : Int) - 1 < x then ((2 ^ (w - 1) : Nat) : Int) - 1
  else x

/-- Whether a condition of R353 holds of two signed numbers. -/
def condHolds (c : Nat) (a b : Int) : Bool :=
  match c with
  | 0 => decide (a = b)
  | 1 => decide (a ≠ b)
  | 2 => decide (a < b)
  | 3 => decide (b ≤ a)
  | 4 => decide (b < a)
  | _ => decide (a ≤ b)

/-! ## Accumulators (R316, R317, R330 to R332) -/

/-- Width of an accumulator lane. -/
def accBits (w32 : Bool) : Nat := if w32 then 80 else 48

/-- Distance of two accumulator lanes. -/
def accStride (w32 : Bool) : Nat := if w32 then 96 else 48

/-- Lane j of an accumulator as a signed number. -/
def accLane (w32 : Bool) (acc j : Nat) : Int := signedOf (accBits w32) (bitsOf acc (accStride w32 * j) (accBits w32))

/-- An accumulator from its first n lanes; in 32-bit mode the bits above a lane take its sign (R317). -/
def accUpTo (w32 : Bool) (f : Nat → Int) : Nat → Nat
  | 0 => 0
  | n + 1 =>
    accUpTo w32 f n +
      ofSigned (accStride w32) (signedOf (accBits w32) (ofSigned (accBits w32) (f n))) * 2 ^ (accStride w32 * n)

/-- An accumulator from its lanes, each kept modulo the lane width. -/
def accOf (w32 : Bool) (f : Nat → Int) : Nat := accUpTo w32 f (laneCount w32)

/-- Whether an exact result fits an accumulator lane (R330). -/
def accFits (w32 : Bool) (x : Int) : Bool := clamp (accBits w32) x == x

/-- The exact product of lane j under the sign field of a multiply (R330, R354). -/
def laneProduct (w32 : Bool) (sign a b j : Nat) : Int :=
  match sign with
  | 0 => laneS w32 a j * laneS w32 b j
  | 1 => (laneU w32 a j : Int) * (laneU w32 b j : Int)
  | _ => (laneU w32 a j : Int) * laneS w32 b j

/-- The shift ASC names for a width (R333). -/
def scaleShift (w32 : Bool) (asc : Nat) : Nat :=
  if w32 then min 48 (bitsOf asc 16 6) else min 32 (bitsOf asc 0 6)

/-- Lane j of an accumulator after the arithmetic right shift of R331. -/
def shiftedLane (w32 : Bool) (asc acc j : Nat) : Int := accLane w32 acc j / ((2 ^ scaleShift w32 asc : Nat) : Int)

/-- An accumulator moved out: shifted and saturated (R331). -/
def moveOut (w32 : Bool) (asc acc : Nat) : Nat :=
  lanes w32 (fun j => ofSigned (laneW w32) (clamp (laneW w32) (shiftedLane w32 asc acc j)))

/-- Whether a lane saturates as an accumulator is moved out (R331). -/
def moveSaturates (w32 : Bool) (asc acc : Nat) : Bool :=
  (List.range (laneCount w32)).any (fun j =>
    clamp (laneW w32) (shiftedLane w32 asc acc j) != shiftedLane w32 asc acc j)

/-- A D register moved into an accumulator: sign-extended and shifted left (R332). -/
def moveIn (w32 : Bool) (asc a : Nat) : Nat := accOf w32 (fun j => laneS w32 a j * ((2 ^ scaleShift w32 asc : Nat) : Int))

/-! ## Results on their way (R357) -/

/-- A result of the bundle about to complete, visible to the L-th bundle after it. -/
def Core.lands (c : Core) (l r v : Nat) : Landing := ⟨c.count + l, r, false, v⟩

/-- Bits of ARS that the bundle sets, read by an MVC three bundles later (R357). -/
def Core.arsBits (c : Core) (v : Nat) : Landing := ⟨c.count + 3, regARS, true, v⟩

/-- The two source registers of a format A instruction. -/
def Core.srcA (c : Core) (w : Nat) : Nat := c.reg (regD (iRA w))
/-- The second source. -/
def Core.srcB (c : Core) (w : Nat) : Nat := c.reg (regD (iRB w))

/-- A result for the D register that RD names, one bundle later. -/
def Core.toD (c : Core) (w v : Nat) : List Landing := [c.lands 1 (regD (iRD w)) v]

/-- VADD: each lane of a + b, modulo 2^width (R354). -/
def opVadd (w : Nat) (c : Core) : List Landing :=
  c.toD w (lanes (iW w) (fun j => laneU (iW w) (c.srcA w) j + laneU (iW w) (c.srcB w) j))

/-- VSUB: each lane of a − b, modulo 2^width (R354). -/
def opVsub (w : Nat) (c : Core) : List Landing :=
  c.toD w (lanes (iW w) (fun j => ofSigned (laneW (iW w)) (laneS (iW w) (c.srcA w) j - laneS (iW w) (c.srcB w) j)))

/-- VADDS: each lane of a + b, saturated; ARS unchanged (R354). -/
def opVadds (w : Nat) (c : Core) : List Landing :=
  c.toD w (lanes (iW w) (fun j =>
    ofSigned (laneW (iW w)) (clamp (laneW (iW w)) (laneS (iW w) (c.srcA w) j + laneS (iW w) (c.srcB w) j))))

/-- VSUBS: each lane of a − b, saturated; ARS unchanged (R354). -/
def opVsubs (w : Nat) (c : Core) : List Landing :=
  c.toD w (lanes (iW w) (fun j =>
    ofSigned (laneW (iW w)) (clamp (laneW (iW w)) (laneS (iW w) (c.srcA w) j - laneS (iW w) (c.srcB w) j))))

/-- VAND over 128 bits (R354). -/
def opVand (w : Nat) (c : Core) : List Landing := c.toD w (c.srcA w &&& c.srcB w)

/-- VOR over 128 bits (R354). -/
def opVor (w : Nat) (c : Core) : List Landing := c.toD w (c.srcA w ||| c.srcB w)

/-- VXOR over 128 bits (R354). -/
def opVxor (w : Nat) (c : Core) : List Landing := c.toD w (c.srcA w ^^^ c.srcB w)

/-- VSHL: a shift of the width or more gives 0 (R354). -/
def opVshl (w : Nat) (c : Core) : List Landing :=
  c.toD w (lanes (iW w) (fun j =>
    if laneW (iW w) ≤ bitsOf w 0 6 then 0 else laneU (iW w) (c.srcA w) j * 2 ^ bitsOf w 0 6))

/-- VSHRA: truncating toward minus infinity; a shift of the width or more gives the sign in every bit (R331, R354). -/
def opVshra (w : Nat) (c : Core) : List Landing :=
  c.toD w (lanes (iW w) (fun j =>
    ofSigned (laneW (iW w)) (laneS (iW w) (c.srcA w) j / ((2 ^ bitsOf w 0 6 : Nat) : Int))))

/-- VSHRL: a shift of the width or more gives 0 (R354). -/
def opVshrl (w : Nat) (c : Core) : List Landing :=
  c.toD w (lanes (iW w) (fun j => laneU (iW w) (c.srcA w) j / 2 ^ bitsOf w 0 6))

/-- VCMP: all ones where the condition holds, 0 otherwise (R353, R354). -/
def opVcmp (w : Nat) (c : Core) : List Landing :=
  c.toD w (lanes (iW w) (fun j =>
    if condHolds (bitsOf w 0 3) (laneS (iW w) (c.srcA w) j) (laneS (iW w) (c.srcB w) j)
    then 2 ^ laneW (iW w) - 1 else 0))

/-- VMIN: signed minimum of each lane (R354). -/
def opVmin (w : Nat) (c : Core) : List Landing :=
  c.toD w (lanes (iW w) (fun j =>
    if laneS (iW w) (c.srcA w) j ≤ laneS (iW w) (c.srcB w) j then laneU (iW w) (c.srcA w) j
    else laneU (iW w) (c.srcB w) j))

/-- VMAX: signed maximum of each lane (R354). -/
def opVmax (w : Nat) (c : Core) : List Landing :=
  c.toD w (lanes (iW w) (fun j =>
    if laneS (iW w) (c.srcA w) j ≤ laneS (iW w) (c.srcB w) j then laneU (iW w) (c.srcB w) j
    else laneU (iW w) (c.srcA w) j))

/-- VBCAST: every lane takes one lane of a (R354). -/
def opVbcast (w : Nat) (c : Core) : List Landing :=
  c.toD w (lanes (iW w) (fun _ => laneU (iW w) (c.srcA w) (bitsOf w 0 3)))

/-- MOVI: the low 32 bits take the sign-extended immediate, the others 0 (R354). -/
def opMovi (w : Nat) (c : Core) : List Landing := c.toD w (ofSigned 32 (signedOf 20 (bitsOf w 0 20)))

/-- The results of a multiply-accumulate (R330): the accumulator, to the MAC units one bundle later and to every other
reader three bundles later, and its OVF bit where a lane does not fit. -/
def Core.toAcc (c : Core) (w : Nat) (f : Nat → Int) : List Landing :=
  let v := accOf (iW w) f
  [c.lands 1 (regMac (iAcc w)) v, c.lands 3 (regAcc (iAcc w)) v] ++
    (if (List.range (laneCount (iW w))).all (fun j => accFits (iW w) (f j)) then [] else [c.arsBits (2 ^ iAcc w)])

/-- The product of lane j of a multiply's sources. -/
def Core.product (c : Core) (w j : Nat) : Int := laneProduct (iW w) (bitsOf w 0 2) (c.srcA w) (c.srcB w) j

/-- Lane j of the accumulator as a MAC unit reads it. -/
def Core.macLane (c : Core) (w j : Nat) : Int := accLane (iW w) (c.reg (regMac (iAcc w))) j

/-- MAC: ACC + a × b (R330). -/
def opMac (w : Nat) (c : Core) : List Landing := c.toAcc w (fun j => c.macLane w j + c.product w j)

/-- MSU: ACC − a × b (R330). -/
def opMsu (w : Nat) (c : Core) : List Landing := c.toAcc w (fun j => c.macLane w j - c.product w j)

/-- MPY: a × b (R330). -/
def opMpy (w : Nat) (c : Core) : List Landing := c.toAcc w (fun j => c.product w j)

/-- ARS.SAT, where a move out saturated (R331). -/
def Core.satBit (c : Core) (w32 : Bool) (acc : Nat) : List Landing :=
  if moveSaturates w32 (c.reg regASC) acc then [c.arsBits 256] else []

/-- MOVA: the accumulator, shifted and saturated, two bundles later (R331). -/
def opMova (w : Nat) (c : Core) : List Landing :=
  let acc := c.reg (regAcc (iAccA w))
  c.lands 2 (regD (iRD w)) (moveOut (iW w) (c.reg regASC) acc) :: c.satBit (iW w) acc

/-- MOVD: the accumulator takes the sign-extended and shifted register, two bundles later (R332). -/
def opMovd (w : Nat) (c : Core) : List Landing :=
  let v := moveIn (iW w) (c.reg regASC) (c.srcA w)
  [c.lands 2 (regMac (iAcc w)) v, c.lands 2 (regAcc (iAcc w)) v]

/-- ACLR: every lane 0 (R354). -/
def opAclr (w : Nat) (c : Core) : List Landing := [c.lands 1 (regMac (iAcc w)) 0, c.lands 1 (regAcc (iAcc w)) 0]

/-- The results of an instruction of slot 0 or 1 (R354). -/
def arithResults (w : Nat) (c : Core) : List Landing :=
  match iOp w with
  | 0x01 => opVadd w c
  | 0x02 => opVsub w c
  | 0x03 => opVadds w c
  | 0x04 => opVsubs w c
  | 0x05 => opVand w c
  | 0x06 => opVor w c
  | 0x07 => opVxor w c
  | 0x08 => opVshl w c
  | 0x09 => opVshra w c
  | 0x0A => opVshrl w c
  | 0x0B => opVcmp w c
  | 0x0C => opVmin w c
  | 0x0D => opVmax w c
  | 0x0E => opVbcast w c
  | 0x0F => opMovi w c
  | 0x10 => opMac w c
  | 0x11 => opMsu w c
  | 0x12 => opMpy w c
  | 0x13 => opMova w c
  | 0x14 => opMovd w c
  | 0x15 => opAclr w c
  | _ => []

/-! ## Landing (R357, R358) -/

/-- One result lands. -/
def Core.land (c : Core) (l : Landing) : Core :=
  c.setReg l.reg (if l.bits then c.reg l.reg ||| l.val else l.val)

/-- The results due for bundle n land, in the order their bundles issued (R358). -/
def Core.landDue (c : Core) (n : Nat) : Core :=
  let c1 := (c.due.filter (fun l => decide (l.due ≤ n))).foldl (fun c l => c.land l) c
  { c1 with due := c.due.filter (fun l => decide (n < l.due)) }

/-- The bundle has issued: its results join those on their way, and those due for the next bundle land. -/
def Core.advance (c : Core) (rs : List Landing) : Core :=
  ({ c with due := c.due ++ rs, count := c.count + 1 } : Core).landDue (c.count + 1)

/-- Every issued bundle completes: each result lands, in landing order (R360, R366). -/
def Core.drain (c : Core) : Core :=
  ((((c.landDue (c.count + 1)).landDue (c.count + 2)).landDue (c.count + 3)).landDue (c.count + 4))

end Sys2Proof.Machine
end

