-- ==== Sys2Proof/Machine/CoreMem.lean ====
section
/-! DEFINITION. Machine/CoreMem.lean: the address units (R334 to R336, R352), the core address map and its faults (R319 to
R321, R372), loads and stores of the scratchpad, the exchange registers and the far window (R320 to R329), and
load-reserve and store-conditional (R337 to R339). -/

namespace Sys2Proof.Machine
open Sys2Proof

/-! ## Fields of format M (R351) -/

/-- SIZE in bytes. -/
def iBytes (w : Nat) : Nat :=
  match bitsOf w 24 2 with
  | 0 => 1 | 1 => 2 | 2 => 4 | _ => 16
/-- REG. -/
def iReg (w : Nat) : Nat := bitsOf w 19 5
/-- P. -/
def iP (w : Nat) : Nat := bitsOf w 15 4
/-- MODE. -/
def iMode (w : Nat) : Nat := bitsOf w 12 3
/-- IMM, sign-extended to 32 bits. -/
def iImm (w : Nat) : Nat := ofSigned 32 (signedOf 12 (bitsOf w 0 12))

/-! ## Addresses (R334 to R336) -/

/-- The smallest K with 2^K ≥ L (R335). -/
def lengthLog (l : Nat) : Nat := ((List.range 20).find? (fun k => decide (l ≤ 2 ^ k))).getD 20

/-- Bits [W − 1:0] of v in reverse order (R336). -/
def revBits (w v : Nat) : Nat → Nat
  | 0 => 0
  | n + 1 => revBits w v n + (if n < w then bitOf v n * 2 ^ (w - 1 - n) else 0)

/-- Circular post-modify of a pointer by a step in a buffer of length L (R335). -/
def circular (p step l : Nat) : Nat :=
  if l = 0 then (p + step) % 2 ^ 32
  else
    let b := p - p % 2 ^ lengthLog l
    let off : Int := ((p % 2 ^ lengthLog l : Nat) : Int) + signedOf 32 step
    let off1 := if (l : Int) ≤ off then off - l else if off < 0 then off + l else off
    ofSigned 32 ((b : Int) + off1)

/-- Bit-reversed post-modify of a pointer by a step, with buffer length L and element exponent Z (R336). -/
def bitReversed (p step l z : Nat) : Nat :=
  let k := lengthLog l
  if k ≤ z then p
  else
    let w := k - z
    let off := p % 2 ^ k
    let idx := off / 2 ^ z
    let st := ofSigned w (signedOf 32 step / ((2 ^ z : Nat) : Int))
    let idx1 := revBits w ((revBits w idx w + revBits w st w) % 2 ^ w) w
    p - off + idx1 * 2 ^ z + off % 2 ^ z

/-- The pointer an instruction of format M names. -/
def Core.ptr (c : Core) (w : Nat) : Nat := c.reg (regP (iP w))

/-- The effective address (R334, R352). -/
def Core.address (c : Core) (w : Nat) : Nat :=
  if iMode w = 0 then (c.ptr w + iImm w) % 2 ^ 32 else c.ptr w

/-- The pointer's new value in a post-modify mode (R334, R352). -/
def Core.modified (c : Core) (w : Nat) : Nat :=
  let j := bitsOf w 0 3
  let k := bitsOf w 0 2
  let len := c.reg (regM (2 * k + 1))
  match iMode w with
  | 1 => (c.ptr w + iImm w) % 2 ^ 32
  | 2 => (c.ptr w + c.reg (regM j)) % 2 ^ 32
  | 3 => circular (c.ptr w) (c.reg (regM (2 * k))) (bitsOf len 0 19)
  | _ => bitReversed (c.ptr w) (c.reg (regM (2 * k))) (bitsOf len 0 19) (bitsOf len 20 3)

/-- The pointer update of a post-modify mode, one bundle later (R357). -/
def Core.postMod (c : Core) (w : Nat) : List Landing :=
  if iMode w = 0 then [] else [c.lands 1 (regP (iP w)) (c.modified w)]

/-! ## The core address map (R319, R320) -/

/-- The parts of a core's address space. -/
inductive Region where
  | scratch
  | exchange
  | xstat
  | far
  | unmapped
  deriving DecidableEq, Repr

/-- The part of the core address map an address lies in (R319). -/
def regionOf (a : Nat) : Region :=
  if a < 0x40000 then .scratch
  else if a < 0x41000 then .exchange
  else if a < 0x41100 then .xstat
  else if 0x80000000 ≤ a then .far
  else .unmapped

/-- The exchange register, half and buffer of an address (R319). -/
def exchAt (a : Nat) : Nat × Nat × Nat :=
  let x := offsetIn 0x40000 a
  (x / 16 % 64, x / 0x800, x / 0x400 % 2)

/-- The internal address a far-window address reaches (R320). -/
def State.farAddress (s : State) (m a : Nat) : Nat := 2 ^ 31 * s.rd R.MDC_FAR_BASE.BASE m + offsetIn 0x80000000 a

/-- Whether an internal address lies in design memory. -/
def inDesignMemory (x : Nat) : Bool := decide (0x100000000 ≤ x) && decide (x < 0x110000000)

/-- Whether an instruction of slot 2 or 3 makes a memory access, and whether it is a store (R354). -/
def accessKind (w : Nat) : Option Bool :=
  match iOp w with
  | 0x20 => some false
  | 0x21 => some true
  | 0x22 => some false
  | 0x23 => some true
  | 0x24 => some true
  | 0x25 => some false
  | 0x26 => some true
  | _ => none

/-- The key of a scratchpad word. -/
def scratchKey (m a : Nat) : Nat := 16384 * m + a / 16

/-- Internal address of a scratchpad byte (R27). -/
def scratchAddress (m a : Nat) : Nat := 0x20000000 + m * 0x40000 + a

/-- The partition in state Loading whose window as PRT_EXCH stands holds a register (R101, R327). -/
def State.loadingWindow (s : State) (m n : Nat) : Option Nat :=
  (List.range 64).find? (fun p =>
    s.pstate p == 1 && s.rd R.PRT_EXCH.CORE p == m && decide (s.rd R.PRT_EXCH.BASE p ≤ n) &&
      decide (n < s.rd R.PRT_EXCH.BASE p + s.rd R.PRT_EXCH.COUNT p))

/-- The partition that refuses a store to a model-to-orchard buffer: the owner alone where the register has one, else a
partition in Loading (R97, R100, R101, R327). -/
def State.storeRefusedBy (s : State) (m n buf : Nat) : Option Nat :=
  match s.exchOwner m n with
  | some p => if s.rd R.PRT_STATUS.XPHASE p = buf then some p else none
  | none => s.loadingWindow m n

/-- The CAUSE with which an access faults, the first that applies (R321, R372); a load whose seal fails comes last. -/
def State.accessFault (s : State) (m w a : Nat) (isStore : Bool) : Option Nat :=
  let size := iBytes w
  let (n, half, buf) := exchAt a
  if regionOf a = .unmapped then some 3
  else if regionOf a = .exchange ∧ (size ≠ 16 ∨ (isStore ∧ half = 1)) then some 5
  else if regionOf a = .xstat ∧ (isStore ∨ size ≠ 4) then some 5
  else if a % size ≠ 0 then some 4
  else if iOp w = 0x25 ∧ !(regionOf a == .scratch || (regionOf a == .far && inDesignMemory (s.farAddress m a))) then
    some 9
  else if isStore ∧ iOp w ≠ 0x26 ∧ regionOf a = .exchange ∧ (s.storeRefusedBy m n buf).isSome then some 6
  else if !isStore ∧ regionOf a = .scratch ∧ s.ecc clsScratch (scratchKey m a) ≠ 0 then some 8
  else none

/-- The fault of an instruction of slot 2 or 3 with the address it concerns. -/
def State.slotFault (s : State) (m w : Nat) (c : Core) : Option (Nat × Nat) :=
  match accessKind w with
  | none => none
  | some st => (s.accessFault m w (c.address w) st).map (fun x => (x, c.address w))

/-! ## Loads -/

/-- XSTAT of an exchange register (R328). -/
def State.xstat (s : State) (m n : Nat) : Nat :=
  match s.exchOwner m n with
  | none => 0
  | some p => s.rd R.PRT_STATUS.XPHASE p + 2 + p * 4 + s.rd64 R.PRT_CYCLE_LO.COUNT R.PRT_CYCLE_HI.COUNT p % 2 ^ 24 * 256

/-- What a core reads in an exchange buffer (R98, R117, R326, R327). -/
def State.exchRead (s : State) (m n half buf : Nat) : W128 :=
  if half = 0 then s.exchBuf m n 0 buf else s.o2mView m n buf

/-- The response of the far request of a slot. -/
def Core.farData (c : Core) (k : Nat) : Option (Nat × W128) :=
  (c.wait.find? (fun r => r.slot == k)).bind (fun r => r.resp)

/-- The bytes a load of slot k returns, zero-extended (R318, R354). -/
def State.loaded (s : State) (m k w : Nat) (c : Core) : Nat :=
  let a := c.address w
  let (n, half, buf) := exchAt a
  let word : W128 :=
    match regionOf a with
    | .scratch => SMap.get 0 s.scratch (scratchKey m a)
    | .exchange => s.exchRead m n half buf
    | .far => match c.farData k with
      | some (_, d) => d
      | none => 0
    | _ => 0
  if regionOf a = .xstat then s.xstat m ((offsetIn 0x41000 a) / 4)
  else bitsOf word.toNat (8 * (a % 16)) (8 * iBytes w)

/-! ## Stores -/

/-- The reservation of a core ends (R339). -/
def State.dropReservation (s : State) (m : Nat) : State :=
  { s.modCore m (fun c => { c with resv := none }) with
    resvBank := s.resvBank.filter (fun r => r.1 != m) }

/-- Whether a core holds a reservation (R337), as `MDC_STATUS.RESV` shows. -/
def State.holdsReservation (s : State) (m : Nat) : Bool :=
  (s.core m).resv.isSome || s.resvBank.any (fun r => r.1 == m)

/-- A write to a granule of a scratchpad cancels the owner's reservation on it (R339). -/
def State.cancelGranule (s : State) (m g : Nat) : State :=
  if (s.core m).resv = some g then s.modCore m (fun c => { c with resv := none }) else s

/-- Bytes in their places in a 128-bit word, and their byte enables. -/
def placed (a v : Nat) : W128 := BitVec.ofNat 128 (2 ^ (8 * (a % 16)) * v)
/-- The byte enables of `size` bytes at an address. -/
def enables (a size : Nat) : Nat := 2 ^ (a % 16) * (2 ^ size - 1)

/-- A write of a scratchpad word at its bank: whole, or merged under R26, refused where the stored word's seal fails
(R24). The result says whether it was stored. -/
def State.writeScratch (s : State) (m a be : Nat) (v : W128) (node : Nat) : Bool × State :=
  let k := scratchKey m a
  if be ≠ 65535 ∧ s.ecc clsScratch k ≠ 0 then
    (false, (s.err .mdc m 9 node (scratchAddress m (a / 16 * 16))).logEvent 0x13 m openClass evSeal (a / 16) node)
  else
    (true, ({ s with scratch := SMap.set 0 s.scratch k (mergeBytes (SMap.get 0 s.scratch k) v be 16) }.setEcc
      clsScratch k 0).cancelGranule m (a / 16))

/-- The error response to a posted far store (R320). A NoC STATUS that R513 gives no CODE records a free one. -/
def State.storeFailed (s : State) (m addr status : Nat) : State :=
  let (f, s1) := if status = 6 ∨ status = 7 then s.free else (0, s)
  (s1.err .mdc m (if status = 6 ∨ status = 7 then bitsOf f.toNat 0 5 else statusCode status) (12 + m) addr).raise .mdc m 5

/-- Tags a core's requests use. -/
def Core.tags (c : Core) : List Nat := c.wait.map (fun r => r.tag) ++ c.stores.map (fun r => r.1)

/-- A far store is posted (R320); a quay without a route answers it itself (R401). -/
def State.postStore (s : State) (m a size v : Nat) : State :=
  let x := s.farAddress m a
  match s.nodeOfAddress (.core (Fin.ofNat 16 m)) x with
  | none => (s.quayStatus (12 + m) 1 x).storeFailed m x 1
  | some d =>
    if s.routeOk (12 + m) d then
      let t := freeTag (s.core m).tags
      (s.quaySend (12 + m) t 1 x (enables a size) [placed a v]).modCore m
        (fun c => { c with stores := c.stores ++ [(t, x)] })
    else (s.quayStatus (12 + m) 1 x).storeFailed m x 1

/-- A store of a core (R319 to R321). -/
def State.storeBytes (s : State) (m a size v : Nat) : State :=
  let (n, half, buf) := exchAt a
  match regionOf a with
  | .scratch => (s.writeScratch m a (enables a size) (placed a v) (12 + m)).2
  | .exchange => s.setExch m n half buf (BitVec.ofNat 128 v)
  | .far => s.postStore m a size v
  | _ => s

/-! ## The instructions of slots 2 and 3 that access memory (R354) -/

/-- LD: SIZE bytes, zero-extended, three bundles later. -/
def opLd (w : Nat) (c : Core) (v : Nat) : List Landing := c.lands 3 (regD (iReg w)) v :: c.postMod w

/-- ST: the low SIZE bytes of D. -/
def opSt (m w : Nat) (c : Core) (s : State) : State :=
  s.storeBytes m (c.address w) (iBytes w) (bitsOf (c.reg (regD (iReg w))) 0 (8 * iBytes w))

/-- LDP: four bytes to a pointer or modifier, four bundles later. -/
def opLdp (w : Nat) (c : Core) (v : Nat) : List Landing := c.lands 4 (regP (iReg w)) v :: c.postMod w

/-- STP: a pointer or modifier. -/
def opStp (m w : Nat) (c : Core) (s : State) : State :=
  s.storeBytes m (c.address w) 4 (bitsOf (c.reg (regP (iReg w))) 0 32)

/-- The width STA names, and its accumulator. -/
def staWide (w : Nat) : Bool := bitOf w 23 == 1

/-- STA: the accumulator under R331. -/
def opSta (m w : Nat) (c : Core) (s : State) : State :=
  s.storeBytes m (c.address w) 16 (moveOut (staWide w) (c.reg regASC) (c.reg (regAcc (bitsOf w 19 3))))

/-- What STA leaves to land: the pointer and ARS.SAT. -/
def staResults (w : Nat) (c : Core) : List Landing := c.satBit (staWide w) (c.reg (regAcc (bitsOf w 19 3))) ++ c.postMod w

/-- LR sets the reservation on the granule (R337): the bank that answered holds a far one. -/
def opLr (m w : Nat) (c : Core) (s : State) : State :=
  if regionOf (c.address w) = .scratch then
    (s.dropReservation m).modCore m (fun c' => { c' with resv := some (c.address w / 16) })
  else s.modCore m (fun c' => { c' with resv := none })

/-- SC: whether it stores, and the state after (R338): a far one stores where the bank's response says so. -/
def opSc (m k w : Nat) (c : Core) (s : State) : Bool × State :=
  let a := c.address w
  let v := bitsOf (c.reg (regD (iReg w))) 0 (8 * iBytes w)
  if regionOf a = .scratch ∧ (s.core m).resv = some (a / 16) then
    let (ok, s1) := s.writeScratch m a (enables a (iBytes w)) (placed a v) (12 + m)
    (ok, s1.dropReservation m)
  else
    match c.farData k with
    | some (_, d) => (bitOf d.toNat 0 == 1, s.dropReservation m)
    | none => (false, s.dropReservation m)

/-- The D register that takes the result of SC. -/
def scResult (w : Nat) : Nat := regD (bitsOf w 7 5)

/-- PADD: REG := P + sext(IMM), or P + Mj (R354). -/
def opPadd (w : Nat) (c : Core) : List Landing :=
  let v := if iMode w = 0 then c.ptr w + iImm w else c.ptr w + c.reg (regM (bitsOf w 0 3))
  [c.lands 1 (regP (iReg w)) (v % 2 ^ 32)]

/-- PMOV: between D[31:0] and a pointer or modifier (R354). -/
def opPmov (w : Nat) (c : Core) : List Landing :=
  let d := regD (bitsOf w 14 5)
  if bitOf w 24 = 0 then [c.lands 1 (regP (iReg w)) (bitsOf (c.reg d) 0 32)]
  else [c.lands 1 d (c.reg (regP (iReg w)))]

/-- PMOVI: the register := zext(IMM), or its upper half := IMM (R354). -/
def opPmovi (w : Nat) (c : Core) : List Landing :=
  let old := c.reg (regP (iReg w))
  [c.lands 1 (regP (iReg w)) (if bitOf w 24 = 0 then bitsOf w 0 16 else setBits old 16 16 (bitsOf w 0 16))]

/-- What the instruction of slot k leaves to land and does to memory, loads reading the state before the bundle's stores
(R323). -/
def State.memSlot (s0 s : State) (m k w : Nat) (c : Core) : List Landing × State :=
  match iOp w with
  | 0x20 => (opLd w c (s0.loaded m k w c), s)
  | 0x21 => (c.postMod w, opSt m w c s)
  | 0x22 => (opLdp w c (s0.loaded m k w c), s)
  | 0x23 => (c.postMod w, opStp m w c s)
  | 0x24 => (staResults w c, opSta m w c s)
  | 0x25 => (opLd w c (s0.loaded m k w c), opLr m w c s)
  | 0x26 =>
    let (ok, s1) := opSc m k w c s
    ([c.lands 3 (scResult w) (b2n (!ok))], s1)
  | 0x27 => (opPadd w c, s)
  | 0x28 => (opPmov w c, s)
  | 0x29 => (opPmovi w c, s)
  | _ => ([], s)

/-! ## Far requests (R320) -/

/-- Whether the instruction of a slot needs a response before its bundle completes: a far load, a far LR, and a far SC in
design memory. -/
def State.needsFar (s : State) (m w : Nat) (c : Core) : Bool :=
  match accessKind w with
  | none => false
  | some st =>
    regionOf (c.address w) == .far && (!st || (iOp w == 0x26 && inDesignMemory (s.farAddress m (c.address w))))

/-- OP of the NoC request of an instruction (R400). -/
def farOp (w : Nat) : Nat :=
  match iOp w with
  | 0x25 => 2
  | 0x26 => 3
  | _ => 0

/-- The far request of slot k goes out, or its own quay answers it with DECODE (R401). -/
def State.farRequest (s : State) (m k w : Nat) (c : Core) : State :=
  let a := c.address w
  let x := s.farAddress m a
  let t := freeTag (s.core m).tags
  let add (s : State) (r : Option (Nat × W128)) : State :=
    s.modCore m (fun c => { c with wait := c.wait ++ [⟨k, t, x, r⟩] })
  let refuse := add (s.quayStatus (12 + m) 1 x) (some (1, 0))
  match s.nodeOfAddress (.core (Fin.ofNat 16 m)) x with
  | none => refuse
  | some d =>
    if s.routeOk (12 + m) d then
      add (s.quaySend (12 + m) t (farOp w) x (enables a (iBytes w))
        (if iOp w = 0x26 then [placed a (bitsOf (c.reg (regD (iReg w))) 0 (8 * iBytes w))] else [])) none
    else refuse

end Sys2Proof.Machine
end

