-- ==== Sys2Proof/Machine/CoreIssue.lean ====
section
/-! DEFINITION. Machine/CoreIssue.lean: legality of a bundle (R347 to R355, R361, R362, R368, R369), exceptions (R369 to
R373), the sequencer (R361, R362), and the issue of one bundle (R346, R357, R359). -/

namespace Sys2Proof.Machine
open Sys2Proof

/-! ## Legality -/

/-- Whether an opcode may stand in a slot (R347). -/
def slotAllows (k op : Nat) : Bool :=
  if op = 0 then true
  else if op ≤ 0x15 then decide (k < 2)
  else if 0x20 ≤ op ∧ op ≤ 0x29 then decide (2 ≤ k)
  else if 0x30 ≤ op ∧ op ≤ 0x3A then decide (k = 3)
  else false

/-- The MODE and IMM rules of format M (R352). -/
def modeLegal (w : Nat) : Bool :=
  match iMode w with
  | 0 => true
  | 1 => true
  | 2 => bitsOf w 3 9 == 0
  | 3 => bitsOf w 2 10 == 0
  | 4 => bitsOf w 2 10 == 0
  | _ => false

/-- The field rules of an instruction (R347, R350 to R355). -/
def fieldsLegal (w : Nat) : Bool :=
  let x := iX w
  match iOp w with
  | 0x00 => w == 0
  | 0x01 => x == 0
  | 0x02 => x == 0
  | 0x03 => x == 0
  | 0x04 => x == 0
  | 0x05 => x == 0
  | 0x06 => x == 0
  | 0x07 => x == 0
  | 0x08 => iRB w == 0 && bitsOf w 6 4 == 0
  | 0x09 => iRB w == 0 && bitsOf w 6 4 == 0
  | 0x0A => iRB w == 0 && bitsOf w 6 4 == 0
  | 0x0B => bitsOf w 3 7 == 0 && decide (bitsOf w 0 3 < 6)
  | 0x0C => x == 0
  | 0x0D => x == 0
  | 0x0E => iRB w == 0 && bitsOf w 3 7 == 0 && (!iW w || bitOf w 2 == 0)
  | 0x0F => !iW w
  | 0x10 => bitsOf w 23 2 == 0 && bitsOf w 2 8 == 0 && bitsOf w 0 2 != 3
  | 0x11 => bitsOf w 23 2 == 0 && bitsOf w 2 8 == 0 && bitsOf w 0 2 != 3
  | 0x12 => bitsOf w 23 2 == 0 && bitsOf w 2 8 == 0 && bitsOf w 0 2 != 3
  | 0x13 => bitsOf w 18 2 == 0 && iRB w == 0 && x == 0
  | 0x14 => bitsOf w 23 2 == 0 && iRB w == 0 && x == 0
  | 0x15 => bitsOf w 23 2 == 0 && iRA w == 0 && iRB w == 0 && x == 0
  | 0x20 => modeLegal w
  | 0x21 => modeLegal w
  | 0x22 => modeLegal w && iBytes w == 4 && decide (iReg w < 24)
  | 0x23 => modeLegal w && iBytes w == 4 && decide (iReg w < 24)
  | 0x24 => modeLegal w && iBytes w == 16 && bitOf w 22 == 0
  | 0x25 => modeLegal w && decide (4 ≤ iBytes w)
  | 0x26 => iMode w == 0 && decide (4 ≤ iBytes w) && bitsOf w 0 7 == 0
  | 0x27 => modeLegal w && (iMode w == 0 || iMode w == 2) && iBytes w == 1 && decide (iReg w < 24)
  | 0x28 => bitOf w 25 == 0 && decide (iReg w < 24) && bitsOf w 0 14 == 0
  | 0x29 => bitOf w 25 == 0 && decide (iReg w < 24) && bitsOf w 16 3 == 0
  | 0x30 => bitsOf w 22 4 == 0
  | 0x31 => decide (bitsOf w 23 3 < 6)
  | 0x32 => true
  | 0x33 => bitsOf w 0 22 == 0
  | 0x34 => bitsOf w 0 13 == 0 && (bitOf w 25 == 0 || bitsOf w 21 4 == 0)
  | 0x35 => bitsOf w 0 16 == 0 && decide (bitsOf w 16 4 < 7)
  | 0x36 => bitsOf w 0 26 == 0
  | 0x37 => bitsOf w 0 26 == 0
  | 0x38 => bitsOf w 0 26 == 0
  | 0x39 => bitsOf w 0 26 == 0
  | 0x3A => bitsOf w 8 18 == 0
  | _ => false

/-- The count of a REP (R362). -/
def Core.repCount (c : Core) (w : Nat) : Nat :=
  if bitOf w 25 = 0 then bitsOf w 17 8 + 1 else c.reg (regP (bitsOf w 17 4))

/-- What the core's state makes illegal: RETI, ERET and NAP (R368, R369), a REP count above 256 (R362), a sequencer
opcode in a delay slot (R361), any but MVC and FENCE in a repeat body (R362). -/
def Core.stateLegal (c : Core) (w : Nat) : Bool :=
  (match iOp w with
    | 0x34 => decide (c.repCount w ≤ 256)
    | 0x37 => !c.inIrq && !c.inExc
    | 0x38 => c.inIrq
    | 0x39 => c.inExc
    | _ => true) &&
  (decide (iOp w < 0x30) || (c.branch.isNone && (c.rep.isNone || iOp w == 0x35 || iOp w == 0x36)))

/-- The pointer a post-modify mode updates. -/
def postDest (w : Nat) : List Nat := if iMode w = 0 then [] else [regP (iP w)]

/-- The destination registers an instruction names (R348). -/
def destinations (w : Nat) : List Nat :=
  let op := iOp w
  if op = 0 then []
  else if op ≤ 0x0F ∨ op = 0x13 then [regD (iRD w)]
  else if op ≤ 0x15 then [regAcc (iAcc w)]
  else
    match op with
    | 0x20 => regD (iReg w) :: postDest w
    | 0x21 => postDest w
    | 0x22 => regP (iReg w) :: postDest w
    | 0x23 => postDest w
    | 0x24 => postDest w
    | 0x25 => regD (iReg w) :: postDest w
    | 0x26 => [scResult w]
    | 0x27 => [regP (iReg w)]
    | 0x28 => if bitOf w 24 = 0 then [regP (iReg w)] else [regD (bitsOf w 14 5)]
    | 0x29 => [regP (iReg w)]
    | 0x32 => [regP (bitsOf w 22 4)]
    | 0x35 => if bitOf w 25 = 0 then [regCR (bitsOf w 16 4)] else [regD (bitsOf w 20 5)]
    | _ => []

/-- Whether two slots name the same destination register (R348). -/
def destsClash : List (List Nat) → Bool
  | [] => false
  | x :: r => r.any (fun y => y.any (fun d => x.contains d)) || destsClash r

/-- The four instructions of a bundle. -/
def slotsOf (b : W128) : List Nat := (List.range 4).map (fun k => slotOf b k)

/-- Whether a bundle is legal for a core. -/
def Core.legal (c : Core) (b : W128) : Bool :=
  (List.range 4).all (fun k => let w := slotOf b k
    slotAllows k (iOp w) && fieldsLegal w && c.stateLegal w) && !destsClash ((slotsOf b).map destinations)

/-! ## Faults of the bundle at the PC (R371, R372) -/

/-- A fault: CAUSE, the address EADDR takes, and the address unit. -/
structure CoreFault where
  cause : Nat
  addr  : Nat
  unit  : Nat
  deriving DecidableEq, Repr

/-- The bundle at the PC: from the loop buffer after the first iteration of a repeat block, else from the own scratchpad
(R349); `none` where the fetch faults (R372). -/
def State.fetchBundle (s : State) (m : Nat) (c : Core) : Option W128 :=
  let fetched :=
    if c.pc % 16 ≠ 0 ∨ 0x40000 ≤ c.pc ∨ s.ecc clsScratch (scratchKey m c.pc) ≠ 0 then none
    else some (SMap.get 0 s.scratch (scratchKey m c.pc))
  match c.rep with
  | some r => if r.again then r.buffer[r.pos]? else fetched
  | none => fetched

/-- The fault of the access of slot k, an error response to a far load included. -/
def State.unitFault (s : State) (m k w : Nat) (c : Core) : Option CoreFault :=
  match s.slotFault m w c with
  | some (x, a) => some ⟨x, a, k - 2⟩
  | none =>
    match c.farData k with
    | some (st, _) => if st = 0 then none else some ⟨7, c.address w, k - 2⟩
    | none => none

/-- The first fault of the bundle at the PC (R371). -/
def State.bundleFault (s : State) (m : Nat) (c : Core) : Option CoreFault :=
  match s.fetchBundle m c with
  | none => some ⟨2, c.pc, 0⟩
  | some b =>
    if !c.legal b then some ⟨1, 0, 0⟩
    else
      match s.unitFault m 2 (slotOf b 2) c with
      | some f => some f
      | none => s.unitFault m 3 (slotOf b 3) c

/-! ## Reset of a core (R316, R341) -/

/-- `MDC_STATUS` shows the reservation, the hold-off and the posted stores. -/
def State.showCore (s : State) (m : Nat) : State :=
  ((s.wr R.MDC_STATUS.RESV m (b2n (s.holdsReservation m))).wr R.MDC_STATUS.HOLDOFF m
    (b2n (!(s.core m).openBoundary))).wr R.MDC_STATUS.FAR_BUSY m (b2n (!(s.core m).stores.isEmpty))

/-- Whether a core counts as halted for an emulation halt (R491). -/
def State.countsHalted (s : State) (m : Nat) : Bool :=
  s.rd R.MDC_STATUS.STATE m == 3 || s.rd R.MDC_STATUS.STATE m == 0 || !s.on R.MDC_CTRL.CLK_EN m

/-- After tick T, the last core's halt completes the emulation halt (R491). -/
def State.checkEmuHalted (s : State) : State :=
  if s.rd R.DBG_STATUS.EMU 0 == 1 && !s.haltDecided && (List.range 16).all (fun m => s.countsHalted m) then
    (s.wr R.DBG_STATUS.EMU 0 2).raise .dbg 0 0
  else s

/-- A core is reset: every register 0 but PC, the reservation cancelled; what has left the quay stays outstanding. The
scratchpad and the exchange registers keep their contents (R316, R329, R341). The harbourmaster fails its items
(R396). -/
def State.resetCore (s : State) (m : Nat) : State :=
  let s1 := (s.dropReservation m).modCore m (fun c =>
    { c with regs := [], due := [], branch := none, rep := none, justReturned := false, fenced := false, wait := []
             warned := false, haltReq := 0, noHalt := false
             trace := { c.trace with outcomes := [], syncDue := true } })
  let s2 := s1.modCore m (fun c => c.setPc (s.rd R.MDC_BOOT_ADDR.ADDR m * 16))
  let s3 := (((s2.wr R.MDC_CTRL.RESET m 1).wr R.MDC_STATUS.STATE m 0).wr (R.DBG_C_STATUS.HALTED m) 0 0).wr
    (R.DBG_C_STATUS.PENDING m) 0 0
  ((s3.wr R.MDC_WDT_COUNT.US m (s.rd R.MDC_WDT_PERIOD.US m)).showCore m).itemsFailed m |>.checkEmuHalted

/-! ## Exceptions (R369 to R373) -/

/-- What a fault records beside the exception: the refusal of R327, the seal failure of R24 and R325. -/
def State.faultRecords (s : State) (m : Nat) (f : CoreFault) : State :=
  let sealRecord (s : State) : State :=
    (s.err .mdc m 9 (12 + m) (scratchAddress m f.addr)).logEvent 0x13 m openClass evSeal f.addr m
  match f.cause with
  | 6 =>
    let (n, _, buf) := exchAt f.addr
    match s.storeRefusedBy m n buf with
    | some p => (s.count R.PRT_XLATE.COUNT p 1).raise .prt p 8
    | none => s
  | 8 => ((sealRecord s).count R.MDC_SEAL_ERR.COUNT m 1).raise .mdc m 4
  | 2 => if f.addr % 16 = 0 ∧ f.addr < 0x40000 then sealRecord s else s
  | _ => s

/-- `MDC_EXC_INFO`, `MDC_EXC_ADDR` and EXCEPTION (R369). -/
def State.excRegisters (s : State) (m cause unit addr : Nat) : State :=
  (((s.wr R.MDC_EXC_INFO.CAUSE m cause).wr R.MDC_EXC_INFO.SLOT m unit).wr R.MDC_EXC_ADDR.ADDR m addr).raise .mdc m 3

/-- ESTAT after an exception (R355, R369). -/
def estatAfter (old cause unit resumable : Nat) (trap : Option Nat) : Nat :=
  let e := setBits (setBits (setBits (setBits old 0 8 cause) 8 1 unit) 9 1 resumable) 10 1 1
  match trap with
  | some code => setBits e 16 8 code
  | none => e

/-- DOUBLE: no handler is entered; the core is reset and a class 1 entry is written (R373). -/
def State.doubleFault (s : State) (m unit addr ret : Nat) : State :=
  let s1 := (s.traceExc m 0x0B 0 ret ret).excRegisters m 0x0B unit addr
  (s1.logEvent 0x13 m 1 evCore 0x0B m).resetCore m

/-- TAKING AN EXCEPTION (R369, R370): every bundle issued before completes; ELR, ESTAT and EADDR are written and the
handler at EVB is next, no branch or repeat in progress; `trap`: the CODE of a TRAP. -/
def State.takeException (s : State) (m : Nat) (f : CoreFault) (elr resumable : Nat) (trap : Option Nat) : State :=
  let s1 := s.modCore m (fun c => c.drain)
  let c := s1.core m
  if c.inExc then s1.doubleFault m f.unit f.addr elr
  else
    let s2 := (s1.traceExc m f.cause 0 elr (c.reg regEVB)).dropReservation m
    let s3 := s2.modCore m (fun c =>
      ((((({ c with branch := none, rep := none, wait := [] } : Core).setReg regELR (elr % 2 ^ 32 / 16 * 16)).setReg
        regESTAT (estatAfter (c.reg regESTAT) f.cause f.unit resumable trap)).setReg regEADDR f.addr)).setPc
          (c.reg regEVB))
    (s3.excRegisters m f.cause f.unit f.addr).showCore m

/-- The faulting bundle at the PC has no effect in any slot and takes its exception (R369, R370). -/
def State.takeFault (s : State) (m : Nat) (f : CoreFault) : State :=
  let c := s.core m
  (s.faultRecords m f).takeException m f c.pc (b2n c.openBoundary) none

/-! ## The sequencer (R355, R361, R362) -/

/-- The value a control register takes from an MVC (R333, R355); `none` for a read-only one. -/
def crValue (cr v : Nat) : Option Nat :=
  match cr with
  | 0 => some (bitsOf v 0 9)
  | 1 => some (bitsOf v 0 6 + 2 ^ 16 * bitsOf v 16 6)
  | 2 => some (bitsOf v 4 28 * 16)
  | 5 => some (bitsOf v 4 28 * 16)
  | 6 => some (bitsOf v 4 14 * 16)
  | _ => none

/-- MVC (R355). -/
def opMvc (w : Nat) (c : Core) : List Landing :=
  let d := regD (bitsOf w 20 5)
  let cr := bitsOf w 16 4
  if bitOf w 25 = 1 then [c.lands 2 d (c.reg (regCR cr))]
  else
    match crValue cr (bitsOf (c.reg d) 0 32) with
    | some v => [c.lands 2 (regCR cr) v]
    | none => []

/-- Target of a PC-relative branch (R354). -/
def branchTarget (pc w n : Nat) : Nat := ofSigned 32 ((pc : Int) + 16 * signedOf n (bitsOf w 0 n))

/-- BR: its target. -/
def opBr (w : Nat) (c : Core) : Nat := branchTarget c.pc w 22

/-- BRcc: whether it is taken. -/
def brTaken (w : Nat) (c : Core) : Bool :=
  condHolds (bitsOf w 23 3) (signedOf 32 (bitsOf (c.reg (regD (bitsOf w 18 5))) 0 32)) 0

/-- BRcc: where execution continues after its delay slots. -/
def opBrcc (w : Nat) (c : Core) : Nat := if brTaken w c then branchTarget c.pc w 18 else (c.pc + 48) % 2 ^ 32

/-- CALL: its link, three bundles later. -/
def opCall (w : Nat) (c : Core) : List Landing := [c.lands 3 (regP (bitsOf w 22 4)) ((c.pc + 48) % 2 ^ 32)]

/-- JMP: its target. -/
def opJmp (w : Nat) (c : Core) : Nat := c.reg (regP (bitsOf w 22 4))

/-- RETI: its target (R368). -/
def opReti (c : Core) : Nat := c.reg regIRA

/-- ERET: its target (R369). -/
def opEret (c : Core) : Nat := c.reg regELR

/-- The target of a control transfer in slot 3; `none` for any other instruction (R361). -/
def Core.transfer (c : Core) (w : Nat) : Option Nat :=
  match iOp w with
  | 0x30 => some (opBr w c)
  | 0x31 => some (opBrcc w c)
  | 0x32 => some (branchTarget c.pc w 22)
  | 0x33 => some (opJmp w c)
  | 0x38 => some (opReti c)
  | 0x39 => some (opEret c)
  | _ => none

/-- What the sequencer instruction of slot 3 leaves to land. -/
def seqResults (w : Nat) (c : Core) : List Landing :=
  match iOp w with
  | 0x32 => opCall w c
  | 0x35 => opMvc w c
  | _ => []

/-- REP: the body begins, or is skipped with a count of 0 (R362). -/
def opRep (w : Nat) (c : Core) (pc count : Nat) : Core :=
  let len := bitsOf w 13 4 + 1
  if count = 0 then c.setPc (pc + 16 * (len + 1))
  else ({ c with rep := some ⟨pc + 16, len, count - 1, 0, false, []⟩ } : Core).setPc (pc + 16)

/-- The next bundle of a repeat block (R362). -/
def Rep.next (r : Rep) (b : W128) : Option Rep :=
  let buf := if r.again then r.buffer else r.buffer ++ [b]
  if r.pos + 1 < r.len then some { r with pos := r.pos + 1, buffer := buf }
  else if 0 < r.left then some { r with left := r.left - 1, pos := 0, again := true, buffer := buf }
  else none

/-- After a control transfer's second delay slot: RETI clears INIRQ, ERET clears INEXC (R368, R369). -/
def Core.endTransfer (c : Core) (op : Nat) : Core :=
  match op with
  | 0x38 => { c.setEstat 11 0 with justReturned := true }
  | 0x39 => { c.setEstat 10 0 with justReturned := true }
  | _ => c

/-- The core after the bundle at `pc` with slot 3 instruction w3 has issued: PC, branch and repeat; `before` is the core
as the bundle read it (R361, R362). -/
def Core.sequence (c before : Core) (b : W128) : Core :=
  let pc := before.pc
  let w3 := slotOf b 3
  match before.rep, before.branch with
  | some r, _ =>
    match r.next b with
    | some r1 => ({ c with rep := some r1 } : Core).setPc (r1.body + 16 * r1.pos)
    | none => ({ c with rep := none } : Core).setPc (r.body + 16 * r.len)
  | none, some br =>
    if br.left ≤ 1 then (({ c with branch := none } : Core).endTransfer br.op).setPc br.target
    else ({ c with branch := some { br with left := br.left - 1 } } : Core).setPc (pc + 16)
  | none, none =>
    match before.transfer w3 with
    | some t => ({ c with branch := some ⟨t, 2, iOp w3⟩ } : Core).setPc (pc + 16)
    | none => if iOp w3 = 0x34 then opRep w3 c pc (before.repCount w3) else c.setPc (pc + 16)

/-- The packets of the bundle that has issued (R498). -/
def State.traceBundle (s : State) (m : Nat) (before : Core) (b : W128) : State :=
  let w3 := slotOf b 3
  let s1 := if iOp w3 = 0x31 then s.traceOutcome m (brTaken w3 before) else s
  let s2 := if iOp w3 = 0x34 ∧ bitOf w3 25 = 1 then s1.traceRep m (before.repCount w3) else s1
  match before.rep, before.branch with
  | none, some br =>
    if br.left ≤ 1 ∧ (br.op = 0x33 ∨ br.op = 0x38 ∨ br.op = 0x39) then s2.traceAddr m br.target else s2
  | _, _ => s2

/-! ## Issue (R346, R359) -/

/-- Both address units reach different words of one scratchpad bank (R323). -/
def bankConflict (c : Core) (b : W128) : Bool :=
  let w2 := slotOf b 2
  let w3 := slotOf b 3
  (accessKind w2).isSome && (accessKind w3).isSome &&
    regionOf (c.address w2) == .scratch && regionOf (c.address w3) == .scratch &&
    c.address w2 / 16 % 16 == c.address w3 / 16 % 16 && c.address w2 / 16 != c.address w3 / 16

/-- NAP: the clock stops where no enabled interrupt is pending, and the reservation ends (R339, R340). -/
def State.napCore (s : State) (m : Nat) : State :=
  if s.on R.IRQ_CTRL.EN 0 && s.irqLatches.any (fun l => l / 256 == m) then s
  else ((s.dropReservation m).traceNap m).wr R.MDC_STATUS.STATE m 2

/-- The side of slot 3's instruction beyond registers, memory and sequence: FENCE, NAP and TRAP (R340, R356, R369). -/
def State.seqEffect (s : State) (m : Nat) (before : Core) (w3 : Nat) : State :=
  match iOp w3 with
  | 0x36 => s.modCore m (fun c => { c with fenced := !c.stores.isEmpty })
  | 0x37 => s.napCore m
  | 0x3A => s.takeException m ⟨10, 0, 0⟩ (before.pc + 16) 1 (some (bitsOf w3 0 8))
  | _ => s

/-- The bundle at the PC takes effect in all its slots: registers are read before any result is written, loads before the
bundle's stores, and slot 2 stores before slot 3 (R323, R346, R357). -/
def State.commit (s : State) (m : Nat) (b : W128) : State :=
  let c := s.core m
  let arith := arithResults (slotOf b 0) c ++ arithResults (slotOf b 1) c
  let (r2, s2) := s.memSlot s m 2 (slotOf b 2) c
  let (r3, s3) := s.memSlot s2 m 3 (slotOf b 3) c
  let s4 := if bankConflict c b then s3.count R.MDC_BANK_WAIT.COUNT m 1 else s3
  let s5 := s4.modCore m (fun c' =>
    (({ c' with wait := [], justReturned := false, noHalt := false, fenced := false } : Core).advance
      (arith ++ r2 ++ r3 ++ seqResults (slotOf b 3) c)).sequence c b)
  let s6 := (s5.wr R.MDC_PC.PC m c.pc).traceBundle m c b
  (s6.seqEffect m c (slotOf b 3)).showCore m

/-- The far requests the bundle needs go out, slot 2 first (R320). -/
def State.sendFar (s : State) (m : Nat) (b : W128) : State :=
  let c := s.core m
  let s1 := if s.needsFar m (slotOf b 2) c then s.farRequest m 2 (slotOf b 2) c else s
  if s.needsFar m (slotOf b 3) c then s1.farRequest m 3 (slotOf b 3) c else s1

/-- Complete the bundle at the PC once every far response it needs is there; an error response is its fault (R320). -/
def State.completeFar (s : State) (m : Nat) : State :=
  let c := s.core m
  if c.wait.isEmpty || c.wait.any (fun r => r.resp.isNone) then s
  else
    match s.bundleFault m c, s.fetchBundle m c with
    | some f, _ => s.takeFault m f
    | none, some b => s.commit m b
    | none, none => s

/-- The bundle at the PC issues: it faults, or goes out for the far responses it needs, or takes effect. -/
def State.issue (s : State) (m : Nat) : State :=
  let s := s.firstSync m
  let c := s.core m
  match s.bundleFault m c, s.fetchBundle m c with
  | some f, _ => s.takeFault m f
  | none, some b =>
    if s.needsFar m (slotOf b 2) c || s.needsFar m (slotOf b 3) c then (s.sendFar m b).completeFar m
    else s.commit m b
  | none, none => s

/-! ## When a bundle issues -/

/-- The lowest source whose latch is set for a core (R389). -/
def State.latched (s : State) (m : Nat) : Option Nat :=
  if s.on R.IRQ_CTRL.EN 0 then (s.irqLatches.find? (fun l => l / 256 == m)).map (fun l => l % 256) else none

/-- A core's block is awake (R29), the core is running, and no far response and no FENCE holds it (R359). -/
def State.coreReady (s : State) (m : Nat) : Bool :=
  s.awake.contains (blockKey .mdc m) && s.rd R.MDC_STATUS.STATE m == 1 && s.on R.MDC_CTRL.CLK_EN m &&
    (s.core m).wait.isEmpty && !((s.core m).fenced && !(s.core m).stores.isEmpty)

/-- A halt request is taken at this boundary (R486, R488). -/
def State.haltsNow (s : State) (m : Nat) : Bool :=
  (s.core m).openBoundary && decide ((s.core m).haltReq ≠ 0) && !(s.core m).noHalt

/-- An interrupt request is taken at this boundary (R364). -/
def State.takesIrq (s : State) (m : Nat) : Bool :=
  let c := s.core m
  s.coreReady m && c.openBoundary && !c.inIrq && !c.inExc && !c.justReturned && (s.latched m).isSome && !s.haltsNow m

/-- Breakpoint k of core m (R487): its fields by offset, as R505 lays them out. -/
def bpField (m k lo width : Nat) : Fld := ⟨.dbg, 0x120 + 0x40 * m + 4 * k, lo, width, .rw, 0⟩

/-- The first breakpoint that matches an address (R487). -/
def State.breakpoint (s : State) (m pc : Nat) : Option Nat :=
  (List.range 4).find? (fun k => s.on (bpField m k 0 1) 0 && s.rd (bpField m k 4 14) 0 * 16 == pc)

/-- A halt request reaches a core that runs or naps (R486): the first request that waits keeps its cause. -/
def State.requestHalt (s : State) (m cause : Nat) : State :=
  if s.countsHalted m || (s.core m).haltReq != 0 then s
  else (s.modCore m (fun c => { c with haltReq := cause })).wr (R.DBG_C_STATUS.PENDING m) 0 1

/-- A halt of emulation is decided (R491); while the cascade unit is not idle it is asked of the master (R494). -/
def State.decideHalt (s : State) : State :=
  if s.rd R.DBG_STATUS.EMU 0 ≠ 0 then s
  else if s.rd R.CAS_STATUS.UNIT_STATE 0 ≠ 0 then
    if s.isMaster then s.issueOrder .halt (s.rd R.CAS_LEAD.TICKS 0) 0 else s.report .haltReq 0
  else { s.wr R.DBG_STATUS.EMU 0 1 with haltDecided := true }

/-- The breakpoints at a boundary (R487): a match before an open boundary requests the halt; before a held-off one it is
late. `noHalt`: the first bundle after RESUME takes no request (R488). -/
def State.breakCheck (s : State) (m : Nat) : State :=
  let c := s.core m
  if c.noHalt then s
  else
    match s.breakpoint m c.pc with
    | none => s
    | some k =>
      let s1 := if c.haltReq ≠ 0 then s
        else ((s.requestHalt m 2).wr (R.DBG_C_STATUS.BP m) 0 k).wr (R.DBG_C_STATUS.BP_LATE m) 0 (b2n (!c.openBoundary))
      if s.on (bpField m k 1 1) 0 then s1.decideHalt else s1

/-- The quay of core m has no room for the far accesses of the bundle at the PC (R400: at most 64 are outstanding). -/
def State.quayFull (s : State) (m : Nat) : Bool :=
  let c := s.core m
  match s.fetchBundle m c with
  | none => false
  | some b =>
    let far := ([2, 3].filter (fun k =>
      (accessKind (slotOf b k)).isSome && regionOf (c.address (slotOf b k)) == .far)).length
    decide (0 < far) && decide (64 < s.rd R.NOC_STATUS.OUTSTANDING (12 + m) + far)

/-- The bundle at the PC issues where the core is ready and no halt or interrupt is taken first. -/
def State.tryIssue (s : State) (m : Nat) : State :=
  if !s.coreReady m || s.takesIrq m || s.quayFull m then s
  else
    let s1 := s.breakCheck m
    if s1.haltsNow m then s1 else s1.issue m

/-- Whether slot k of the bundle at the PC holds an opcode. -/
def State.holds (s : State) (m k op : Nat) : Bool :=
  match s.fetchBundle m (s.core m) with
  | some b => iOp (slotOf b k) == op
  | none => false

/-- The bundle at core m's PC issues, where its slot k holds the opcode (log entry 41: a command of the instruction list
stands for the issue of the bundle it stands in). -/
def State.issueAs (s : State) (m k op : Nat) : State := if s.holds m k op then s.tryIssue m else s

end Sys2Proof.Machine
end

