-- ==== Sys2Proof/Machine/Acq.lean ====
section
/-! DEFINITION. Machine/Acq.lean: the acquisition units (R416 to R427): commands, samples, the trigger sequencer, the buffer and
its readout window; and the time-to-digital converters (R428 to R430). -/

namespace Sys2Proof.Machine
open Sys2Proof

/-! ## The buffer's geometry (R416, R420) -/

/-- N of a unit. -/
def State.acqBanks (s : State) (u : Nat) : Nat := s.rd R.ACQ_BUF.NBANKS u

/-- Whether a unit's buffer geometry is valid: N from 1 to 16, inside the 64 banks. -/
def State.geometryOk (s : State) (u : Nat) : Bool :=
  decide (1 ≤ s.acqBanks u) && decide (s.acqBanks u ≤ 16) && decide (s.rd R.ACQ_BUF.FIRST_BANK u + s.acqBanks u ≤ 64)

/-- C: buffer words, 0 where the geometry is not valid (R420). -/
def State.acqWords (s : State) (u : Nat) : Nat := if s.geometryOk u then 262144 * s.acqBanks u else 0

/-- The bank and word of a buffer word (R416). -/
def State.acqPlace (s : State) (u w : Nat) : Nat × Nat :=
  (s.rd R.ACQ_BUF.FIRST_BANK u + w % s.acqBanks u, w / s.acqBanks u)

/-- Blocks of the buffer (R417). -/
def State.acqBlocks (s : State) (u : Nat) : Nat := s.acqWords u / 16

/-! ## The end of a capture (R421, R422) -/

/-- Every write of the ended capture has its response: the unit enters Done (R405, R421). -/
def State.checkDone (s : State) (u : Nat) : State :=
  let x := s.acq u
  if x.ending && x.fifo.isEmpty && !x.out.any (fun o => o.2.2) then
    ((s.wr R.ACQ_STATUS.STATE u 4).modAcq u (fun y => { y with
      ending := false, since := if s.acqState u = 3 then y.since else s.now })).raise .acq u 1
  else s

/-- Capture ends: the open block is closed, and the unit waits for its writes. -/
def State.endCapture (s : State) (u : Nat) : State :=
  ((s.closeBlock u).modAcq u (fun x => { x with ending := true, due := [] })).checkDone u

/-! ## Commands (R421) -/

/-- A command that a unit's state refuses (R421). -/
def State.refuseAcq (s : State) (a : Accessor) (u : Nat) : State := s.refuseWrite a .acq u 0x40 5

/-- Whether ARM's conditions hold. -/
def State.mayArm (s : State) (u : Nat) : Bool :=
  s.geometryOk u &&
    (List.range (s.acqBanks u)).all (fun i => s.berthNames (s.rd R.ACQ_BUF.FIRST_BANK u + i) 3 u) &&
    decide (s.rd R.ACQ_POST.SAMPLES u ≤ 15 * (s.acqBlocks u - 1))

/-- The registers that ARM clears (R421). -/
def armCleared : List Fld :=
  [R.ACQ_DROPPED.COUNT, R.ACQ_WR_POS.BLOCK, R.ACQ_TRIG_WORD.WORD, R.ACQ_TRIG_TIME.TIME0, R.ACQ_TRIG_TIME.TIME1,
    R.ACQ_TRIG_TIME.TIME2, R.ACQ_TRIG_TIME.TIME3, R.ACQ_TRIG_SAMPLE_TIME.TIME0, R.ACQ_TRIG_SAMPLE_TIME.TIME1,
    R.ACQ_TRIG_SAMPLE_TIME.TIME2, R.ACQ_TRIG_SAMPLE_TIME.TIME3, R.ACQ_TRIG_SEQ_LO.SEQ, R.ACQ_TRIG_SEQ_HI.SEQ,
    R.ACQ_STATUS.WRAPPED, R.ACQ_STATUS.TRIGGERED, R.ACQ_STATUS.TRIG_STORED, R.ACQ_STATUS.TRIG_INTERP,
    R.ACQ_STATUS.FORCED, R.ACQ_STATUS.SHORT, R.ACQ_STATUS.ERR, R.ACQ_STATUS.SEQ_STATE] ++
    (List.range 4).flatMap (fun k => [R.ACQ_CNT_LO.VALUE k, R.ACQ_CNT_HI.VALUE k]) ++
    (List.range 2).flatMap (fun k => [R.ACQ_TMR_LO.VALUE k, R.ACQ_TMR_HI.VALUE k])

/-- ARM (R421, R426): writes of an earlier capture are still awaited, and count for nothing. -/
def doArm (a : Accessor) (u : Nat) (s : State) : State :=
  let st := s.acqState u
  if !(st == 0 || st == 4 || st == 5) || !s.mayArm u then s.refuseAcq a u
  else
    let s1 := armCleared.foldl (fun s f => s.wr f u 0) s
    let s2 := s1.modAcq u (fun x => { ({} : Acq) with out := x.out.map (fun o => (o.1, o.2.1, false)) })
    (s2.wr R.ACQ_STATUS.STATE u (if s.rd R.ACQ_MIN_PRE.SAMPLES u = 0 then 2 else 1)).respond a true 0

/-- STOP (R421). -/
def doAcqStop (a : Accessor) (u : Nat) (s : State) : State :=
  let st := s.acqState u
  if st = 1 ∨ st = 2 then (s.endCapture u).respond a true 0
  else if st = 3 then ((s.wr R.ACQ_STATUS.SHORT u (b2n (!(s.acq u).ending || s.on R.ACQ_STATUS.SHORT u))).endCapture
    u).respond a true 0
  else s.refuseAcq a u

/-- FORCE: pending until the next taken sample (R424). -/
def doForce (a : Accessor) (u : Nat) (s : State) : State :=
  if s.acqState u = 2 then (s.modAcq u (fun x => { x with force := true })).respond a true 0 else s.refuseAcq a u

/-! ## Storing a sample (R417, R419) -/

/-- The sample opens the next block where none is open. -/
def State.openBlock (s : State) (u : Nat) (x : AcqSample) : State :=
  match (s.acq u).blk with
  | some _ => s
  | none =>
    let n := match (s.acq u).last with
      | none => 0
      | some l => (l + 1) % s.acqBlocks u
    s.modAcq u (fun y => { y with blk := some ⟨n, x.seq, x.time, 0, none, y.gap⟩, last := some n, gap := false })

/-- A sample is queued, or dropped where the FIFO holds 1,024 samples: the buffer word it goes to (R419). -/
def State.storeSample (s : State) (u : Nat) (x : AcqSample) : Option Nat × State :=
  if 1024 ≤ ((s.acq u).fifo.filter (fun w => w.sample)).length then
    (none, (((s.count R.ACQ_DROPPED.COUNT u 1).raise .acq u 2).closeBlock u).modAcq u (fun y => { y with gap := true }))
  else
    let s1 := s.openBlock u x
    match (s1.acq u).blk with
    | none => (none, s1)
    | some b =>
      let w := 16 * b.block + 1 + b.count
      (some w, s1.modAcq u (fun y => { y with
        fifo := y.fifo ++ [⟨w, x.probe, true⟩], blk := some { b with count := b.count + 1 } }))

/-! ## The trigger sequencer (R424 to R426) -/

/-- Whether comparator k holds (R425). -/
def State.comparator (s : State) (u k : Nat) (p : W128) (prev : Option W128) : Bool :=
  let mask := s.rd128 (R.ACQ_CMP_MASK.MASK0 k) (R.ACQ_CMP_MASK.MASK1 k) (R.ACQ_CMP_MASK.MASK2 k)
    (R.ACQ_CMP_MASK.MASK3 k) u
  let value := s.rd128 (R.ACQ_CMP_VALUE.VALUE0 k) (R.ACQ_CMP_VALUE.VALUE1 k) (R.ACQ_CMP_VALUE.VALUE2 k)
    (R.ACQ_CMP_VALUE.VALUE3 k) u
  match s.rd (R.ACQ_CMP_CTRL.MODE k) u with
  | 1 => p &&& mask == value &&& mask
  | 2 => !(p &&& mask == value &&& mask)
  | 3 =>
    match prev with
    | none => false
    | some q => (p ^^^ q) &&& mask != 0
  | _ => false

/-- The value of counter k. -/
def State.counter (s : State) (u k : Nat) : Nat := s.rd64 (R.ACQ_CNT_LO.VALUE k) (R.ACQ_CNT_HI.VALUE k) u

/-- The value of timer k in ns. -/
def State.timer (s : State) (u k : Nat) : Nat := s.rd64 (R.ACQ_TMR_LO.VALUE k) (R.ACQ_TMR_HI.VALUE k) u

/-- The event a COND field names for a sample (R425). -/
def State.condition (s : State) (u cond : Nat) (x : AcqSample) : Bool :=
  if cond = 0 then false
  else if cond ≤ 4 then s.comparator u (cond - 1) x.probe (s.acq u).prev
  else if cond ≤ 8 then
    decide (s.rd64 (R.ACQ_CNT_LIMIT_LO.LIMIT (cond - 5)) (R.ACQ_CNT_LIMIT_HI.LIMIT (cond - 5)) u ≤ s.counter u (cond - 5))
  else if cond ≤ 10 then
    decide (s.rd64 (R.ACQ_TMR_LIMIT_LO.LIMIT (cond - 9)) (R.ACQ_TMR_LIMIT_HI.LIMIT (cond - 9)) u ≤ s.timer u (cond - 9))
  else if cond ≤ 14 then cond - 11 != u && x.others.contains (cond - 11)
  else if cond = 15 then !x.pins.isEmpty
  else false

/-- A branch of a sequencer state, with its register's 23 bits (R431). -/
def State.branchWord (s : State) (u st : Nat) (isB : Bool) : Nat :=
  s.readFields ((fieldsAt .acq (0x200 + 8 * st + (if isB then 4 else 0))).getD []) u

/-- Whether a branch is taken. -/
def State.branchHolds (s : State) (u w : Nat) (x : AcqSample) : Bool :=
  bitOf w 22 == 1 && (s.condition u (bitsOf w 0 5) x != (bitOf w 5 == 1))

/-- Set the value of a counter or timer. -/
def State.setPair (s : State) (lo hi : Fld) (u v : Nat) : State := s.wr64 lo hi u (min v (2 ^ 48 - 1))

/-- The actions of a taken branch on counters and timers and its move (R424). -/
def State.takeBranch (s : State) (u w : Nat) : State :=
  let s1 := (onesOf 4 (bitsOf w 10 4)).foldl (fun (s : State) k =>
    s.setPair (R.ACQ_CNT_LO.VALUE k) (R.ACQ_CNT_HI.VALUE k) u (s.counter u k + 1)) s
  let s2 := (onesOf 4 (bitsOf w 14 4)).foldl (fun (s : State) k =>
    s.setPair (R.ACQ_CNT_LO.VALUE k) (R.ACQ_CNT_HI.VALUE k) u 0) s1
  let s3 := (onesOf 2 (bitsOf w 18 2)).foldl (fun (s : State) k =>
    (s.setPair (R.ACQ_TMR_LO.VALUE k) (R.ACQ_TMR_HI.VALUE k) u 0).modAcq u (fun y => { y with
      timers := insertAsc k y.timers })) s2
  let s4 := (onesOf 2 (bitsOf w 20 2)).foldl (fun (s : State) k =>
    s.modAcq u (fun y => { y with timers := y.timers.filter (fun t => t != k) })) s3
  s4.wr R.ACQ_STATUS.SEQ_STATE u (bitsOf w 6 3)

/-- The trigger sample's place in the open block. -/
def Acq.mark (k : Nat) (y : Acq) : Acq :=
  match y.blk with
  | some b => { y with blk := some { b with trig := some k } }
  | none => y

/-- The trigger is declared at a sample (R427, R430): `word` where it is stored; `cond` of the declaring branch. -/
def State.trigger (s : State) (u : Nat) (x : AcqSample) (word : Option Nat) (cond : Nat) (forced : Bool) : State :=
  let s1 := ((s.wr64 R.ACQ_TRIG_SEQ_LO.SEQ R.ACQ_TRIG_SEQ_HI.SEQ u x.seq).wr128 R.ACQ_TRIG_SAMPLE_TIME.TIME0
    R.ACQ_TRIG_SAMPLE_TIME.TIME1 R.ACQ_TRIG_SAMPLE_TIME.TIME2 R.ACQ_TRIG_SAMPLE_TIME.TIME3 u (timeWord x.time))
  let s2 := match word with
    | some w =>
      ((s1.wr R.ACQ_TRIG_WORD.WORD u w).wr R.ACQ_STATUS.TRIG_STORED u 1).modAcq u (Acq.mark (w % 16 - 1))
    | none => s1
  let stamp := if cond = 15 ∧ !forced then x.pins.head? else none
  let s3 := (s2.wr128 R.ACQ_TRIG_TIME.TIME0 R.ACQ_TRIG_TIME.TIME1 R.ACQ_TRIG_TIME.TIME2 R.ACQ_TRIG_TIME.TIME3 u
    (timeWord (stamp.getD x.time))).wr R.ACQ_STATUS.TRIG_INTERP u (b2n stamp.isSome)
  let s4 := (((s3.wr R.ACQ_STATUS.TRIGGERED u 1).wr R.ACQ_STATUS.STATE u 3).wr R.ACQ_STATUS.FORCED u
    (b2n forced)).modAcq u (fun y => { y with after := 0, since := x.time })
  let s5 := s4.raise .acq u 0
  let s6 := if forced then s5.raise .acq u 4 else s5
  if bitOf (s6.rd R.DBG_CTRL.ACQ_HALT 0) u = 1 then s6.decideHalt else s6

/-- Evaluate a sample in Armed (R424). -/
def State.evaluate (s : State) (u : Nat) (x : AcqSample) (word : Option Nat) : State :=
  let st := s.rd R.ACQ_STATUS.SEQ_STATE u
  let wa := s.branchWord u st false
  let wb := s.branchWord u st true
  let take := if s.branchHolds u wa x then some wa else if s.branchHolds u wb x then some wb else none
  let forced := (s.acq u).force ||
    (s.on R.ACQ_CTRL.AUTO u && decide (s.rd R.ACQ_AUTO_US.US u * 1000 ≤ (s.acq u).autoNs))
  let s1 := s.modAcq u (fun y => { y with force := false })
  let s2 := match take with
    | some w => s1.takeBranch u w
    | none => s1
  match take with
  | some w =>
    if bitOf w 9 = 1 then s2.trigger u x word (bitsOf w 0 5) false
    else if forced then s2.trigger u x word 0 true else s2
  | none => if forced then s2.trigger u x word 0 true else s2

/-- What a taken sample does in the unit's state: counted in Prefill, evaluated in Armed, counted after the trigger
(R421, R422, R424). -/
def State.sampleState (s : State) (u : Nat) (x : AcqSample) (word : Option Nat) : State :=
  match s.acqState u with
  | 1 =>
    let s1 := s.modAcq u (fun y => { y with taken := y.taken + 1 })
    if s1.rd R.ACQ_MIN_PRE.SAMPLES u ≤ (s1.acq u).taken then
      (s1.wr R.ACQ_STATUS.STATE u 2).modAcq u (fun y => { y with autoNs := 0 })
    else s1
  | 2 => s.evaluate u x word
  | 3 => s.modAcq u (fun y => { y with after := y.after + 1 })
  | _ => s

/-- A taken sample: queued or dropped, evaluated, its block closed at the 15th sample, and capture ended with the POST
samples after the trigger (R417, R419, R422, R424). -/
def State.takeSample (s : State) (u : Nat) (x : AcqSample) : State :=
  let (word, s1) := s.storeSample u x
  let s2 := (s1.sampleState u x word).modAcq u (fun y => { y with prev := some x.probe })
  let s3 := match (s2.acq u).blk with
    | some b => if b.count = 15 then s2.closeBlock u else s2
    | none => s2
  if s3.acqState u = 3 ∧ s3.rd R.ACQ_POST.SAMPLES u ≤ (s3.acq u).after then s3.endCapture u else s3

/-- Replays that begin next in a unit's order are marked (R415). -/
def State.markReplays (s : State) (u : Nat) : Nat → State
  | 0 => s
  | n + 1 =>
    match (s.acq u).due with
    | none :: rest => ((s.modAcq u (fun x => { x with due := rest })).replayMark u).markReplays u n
    | _ => s

/-- ACQ_SAMPLE: the oldest taken sample of an executed step or cycle boundary; under CLK_SRC 2, an edge of the fabric
clock, sampled as it stands (R412, R424). -/
def doAcqSample (u : Nat) (s : State) : State :=
  if !s.capturing u then s
  else
    let s1 :=
      if s.rd R.ACQ_CTRL.CLK_SRC u = 2 ∧ s.treeOn (s.rd R.ACQ_CTRL.FCLK u) ∧ s.rd R.PWR_STEP.CUR_MHZ 0 ≠ 0 ∧
          (s.rd R.DBG_STATUS.EMU 0 = 0 ∨ s.haltDecided) then
        s.clockUnit u (s.probeView u) none (s.triggeredUnits.filter (fun v => decide ((s.acq v).since < s.now)))
      else s
    match (s1.acq u).due with
    | some x :: rest => ((s1.modAcq u (fun y => { y with due := rest })).takeSample u x).markReplays u rest.length
    | _ => s1

/-- ACQ_SAMPLE (R424). -/
def execAcqSample (u : Fin 4) (s : State) : Host.Outcome State Fault Refusal := .next (doAcqSample u.val s)

/-! ## Buffer writes (R418, R419) -/

/-- A capture write failed: the unit enters Error, discards its queue and the open block, and writes nothing more
(R418). -/
def State.acqError (s : State) (u status addr : Nat) : State :=
  if s.acqState u = 5 then s
  else
    let s1 := (s.wr R.ACQ_STATUS.STATE u 5).wr R.ACQ_STATUS.ERR u (if status = 4 ∨ status = 5 then 1 else 2)
    ((s1.err .acq u (statusCode status) 63 addr).modAcq u (fun x => { x with
      fifo := [], blk := none, ending := false, due := [] })).raise .acq u 3

/-- ACQ_WR_POS and WRAPPED follow the writes (R417, R431). -/
def State.showWrite (s : State) (u w : Nat) : State :=
  let b := w / 16
  let s1 := if b = 0 ∧ s.rd R.ACQ_WR_POS.BLOCK u + 1 = s.acqBlocks u then s.wr R.ACQ_STATUS.WRAPPED u 1 else s
  s1.wr R.ACQ_WR_POS.BLOCK u b

/-- ACQ_BUFFER_WRITE: the oldest queued word goes to its bank (R419). -/
def doAcqBufferWrite (u : Nat) (s : State) : State :=
  match (s.acq u).fifo with
  | [] => s
  | w :: rest =>
    let (b, i) := s.acqPlace u w.word
    let addr := bankAddress b i
    match (List.range 64).find? (fun t => !(s.acq u).out.any (fun o => o.1 == t)) with
    | none => s
    | some tag =>
      let s1 := s.modAcq u (fun x => { x with fifo := rest })
      if s1.routeOk (28 + u) (b / 8) then
        ((s1.modAcq u (fun x => { x with out := x.out ++ [(tag, addr, true)] })).showWrite u w.word).quaySend (28 + u) tag 1
          addr 65535 [w.data]
      else (s1.quayStatus (28 + u) 1 addr).acqError u 1 addr

/-- ACQ_BUFFER_WRITE (R419). -/
def execAcqBufferWrite (u : Fin 4) (s : State) : Host.Outcome State Fault Refusal := .next (doAcqBufferWrite u.val s)

/-- ACQ_WRITE_RESPONSE: the response to a buffer write (R418, R421). -/
def doAcqWriteResponse (u tag status : Nat) (s : State) : State :=
  match (s.acq u).out.find? (fun o => o.1 == tag) with
  | none => s
  | some o =>
    let s1 := (s.quayTake (28 + u) status o.2.1).modAcq u (fun x => { x with
      out := x.out.filter (fun y => y.1 != tag) })
    if !o.2.2 then s1
    else if status ≠ 0 then s1.acqError u status o.2.1
    else s1.checkDone u

/-- ACQ_WRITE_RESPONSE (R418). -/
def execAcqWriteResponse (u : Fin 4) (tag : Fin 64) (status : Fin 8) (s : State) : Host.Outcome State Fault Refusal :=
  .next (doAcqWriteResponse u.val tag.val status.val s)

/-! ## The readout window (R420) -/

/-- RD_INDEX_WRITE: an index at or above C is refused (R420). -/
def doRdIndexWrite (a : Accessor) (u : Nat) (v : W32) (s : State) : State :=
  let w := v.toNat % 2 ^ 22
  if s.acqWords u ≤ w then s.refuseWrite a .acq u 0x2C0 4 else (s.wr R.ACQ_RD_INDEX.WORD u w).respond a true 0

/-- The bank word at ACQ_RD_INDEX, read as the unit: a berth that is not the unit's, or a word whose check fails, gives an
error response; a read of a handover's new owner waits for the old one's accesses (R24, R138, R142, R420). -/
def State.windowWord (s : State) (u : Nat) : Option W128 × State :=
  let (b, i) := s.acqPlace u (s.rd R.ACQ_RD_INDEX.WORD u)
  match s.directAccess b i ⟨3, u, 28 + u, false⟩ false with
  | (true, s1) => s1.readBank b i (28 + u)
  | (false, s1) => (none, s1)

/-- Whether the berth check lets the unit read the bank of its readout window (R420). -/
def State.windowOwned (s : State) (u : Nat) : Bool :=
  s.berthCheck (s.acqPlace u (s.rd R.ACQ_RD_INDEX.WORD u)).1 ⟨3, u, 28 + u, false⟩ < 2

/-- A 128-bit value is captured for a reader: the upper three words (R15). -/
def State.capture (s : State) (a : Accessor) (p : Page) (ch off : Nat) (v : Option W128) : State :=
  { s with captures := SMap.set none s.captures (stageKey a p ch off) v }

/-- RD_DATA_READ: DATA0 reads the word at RD_INDEX and captures its upper words for the reader; DATA1 to DATA3 return
what was captured (R15, R420). -/
def doRdDataRead (a : Accessor) (u k : Nat) (us : List Upset) (s : State) : State :=
  let s := s.upset us
  if k = 0 then
    if s.acqWords u ≤ s.rd R.ACQ_RD_INDEX.WORD u then (s.errReg a .acq u 0x2D0 4).refuseAccess a
    else
      match s.windowWord u with
      | (some v, s1) => (s1.capture a .acq u 0x2D0 (some v)).respond a true (wordOf v 0)
      | (none, s1) => if s.windowOwned u then s1.sealAccess a else s1.refuseAccess a
  else
    match SMap.get none s.captures (stageKey a .acq u 0x2D0) with
    | some v => s.respond a true (wordOf v k)
    | none => s.respond a true 0

/-! ## Writes to the unit's registers (R412, R423, R425) -/

/-- Whether an offset is one that R423 refuses to write while the unit captures. -/
def acqSettings (off : Nat) : Bool :=
  off == 0x04 || (decide (0x44 ≤ off) && decide (off ≤ 0x50)) || (decide (0x100 ≤ off) && decide (off < 0x240)) ||
    (decide (0x240 ≤ off) && decide (off < 0x2A0) && (off % 16 == 0 || off % 16 == 4))

/-- Whether a write to a register of the page is refused: a setting in states 1 to 3, CLK_SRC 3, a branch with COND from
16 to 31. -/
def State.acqRefuses (s : State) (u off v : Nat) : Bool :=
  let st := s.acqState u
  (acqSettings off && (st == 1 || st == 2 || st == 3)) || (off == 0x04 && bitsOf v 0 2 == 3) ||
    (decide (0x200 ≤ off) && decide (off < 0x240) && decide (16 ≤ bitsOf v 0 5))

/-! ## Time-to-digital converters (R428 to R430) -/

/-- A converter's own data. -/
def State.tdc (s : State) (r : Nat) : Tdc := SMap.get {} s.tdcs r

/-- The user I/O pin of a converter (R428). -/
def tdcPin (r : Nat) : Nat := 144 * (r / 8) + 2 + r % 8

/-- Whether a converter sees its pin: EN, and the TDC bit of the I/O cell (R285, R428). -/
def State.tdcSees (s : State) (r : Nat) : Bool :=
  let u := tdcPin r
  s.on (R.ACQ_TDC_CTRL.EN r) 0 && bitOf (SMap.get 0 s.frames (u / 6 * 48)).toNat (800 + 32 * (u % 6) + 17) == 1

/-- SKEW as a signed number of 1/128 ns. -/
def skewOf (v : Nat) : Int := if v < 32768 then (v : Int) else (v : Int) - 65536

/-- TDC_EDGE: an edge at the pin, at the time base's nanosecond and `sub`/128 ns; a selected edge less than 2 ns after a
stamped one sets OVERRUN (R428). -/
def doTdcEdge (r : Nat) (rising : Bool) (sub : Nat) (s : State) : State :=
  let sel := s.rd (R.ACQ_TDC_CTRL.EDGES r) 0
  if !s.tdcSees r || bitOf sel (if rising then 0 else 1) == 0 then s
  else
    let at128 := s.now / 65536 * 128 + sub
    let near := match (s.tdc r).lastEdge with
      | some t => decide (t ≤ at128) && decide (at128 < t + 256)
      | none => false
    if near then s.wr (R.ACQ_TDC_LAST.OVERRUN r) 0 1
    else
      let stamp := ((at128 : Int) - skewOf (s.rd (R.ACQ_TDC_CTRL.SKEW r) 0)).toNat
      { s with tdcs := SMap.set {} s.tdcs r { (s.tdc r) with
        lastEdge := some at128, waiting := (s.tdc r).waiting ++ [(stamp, rising)] } }

/-- TDC_EDGE (R428). -/
def execTdcEdge (r : Fin 32) (rising : Bool) (sub : Fin 128) (s : State) : Host.Outcome State Fault Refusal :=
  .next (doTdcEdge r.val rising sub.val s)

/-- TDC_STAMP_AVAILABLE: the oldest stamp goes to ACQ_TDCr_LAST and to the pin event of the units that name the converter
(R429). -/
def doTdcStampAvailable (r : Nat) (s : State) : State :=
  match (s.tdc r).waiting with
  | [] => s
  | (st, rising) :: rest =>
    let t := st * 512
    let s1 := { s with tdcs := SMap.set {} s.tdcs r { (s.tdc r) with waiting := rest } }
    let ns := st / 128
    let s2 := ((s1.wr (R.ACQ_TDC_LAST.FRAC r) 0 (t % 65536)).wr (R.ACQ_TDC_LAST.RISING r) 0 (b2n rising)).wr
      (R.ACQ_TDC_LAST.VALID r) 0 1
    let s3 := ((s2.wr (R.ACQ_TDC_LAST.NS r) 0 (ns % 1000000000)).wr (R.ACQ_TDC_LAST.SEC_LO r) 0 (ns / 1000000000)).wr
      (R.ACQ_TDC_LAST.SEC_HI r) 0 (ns / 1000000000 / 2 ^ 32)
    (List.range 4).foldl (fun s u =>
      if s.rd R.ACQ_CTRL.PIN u = r then s.modAcq u (fun x => { x with pins := x.pins ++ [t] }) else s) s3

/-- TDC_STAMP_AVAILABLE (R429). -/
def execTdcStampAvailable (r : Fin 32) (s : State) : Host.Outcome State Fault Refusal :=
  .next (doTdcStampAvailable r.val s)

/-! ## Timers (R424, R426) -/

/-- One nanosecond of a unit's running timers and of its auto time; they stop while emulation is halted (R426). -/
def State.acqTick (s : State) (u : Nat) : State :=
  if s.rd R.DBG_STATUS.EMU 0 ≠ 0 ∧ !s.haltDecided then s
  else
    let s1 := (s.acq u).timers.foldl (fun s k =>
      s.setPair (R.ACQ_TMR_LO.VALUE k) (R.ACQ_TMR_HI.VALUE k) u (s.timer u k + 1)) s
    if s1.acqState u = 2 then s1.modAcq u (fun x => { x with autoNs := x.autoNs + 1 }) else s1

end Sys2Proof.Machine
end

