-- ==== Sys2Proof/Machine/FabricConfig.lean ====
section
/-! DEFINITION. Machine/FabricConfig.lean: the configuration stream of the I/O fabric: its records (R291 to R296), loading and
falling back (R297 to R300), start-up (R301 to R304) and regions (R305 to R309). -/

namespace Sys2Proof.Machine
open Sys2Proof

/-! ## The engine -/

/-- Change the engine. -/
def State.modEng (s : State) (f : CfgEngine → CfgEngine) : State :=
  s.modFab (fun x => { x with engine := f x.engine })

/-- Bytes of the image that the engine fetches. -/
def State.imageBytes (s : State) : Nat :=
  if s.fabric.engine.source = 1 then s.rd R.CFG_STREAM_LEN.BYTES 0
  else if s.rd R.CFG_STATUS.IMAGE 0 = 2 then s.rd R.CFG_GOLDEN_LEN.BYTES 0
  else s.rd R.CFG_IMAGE_LEN.BYTES 0

/-- Bus address of an image: 1 primary, 2 golden, else the region stream (R298, R314). -/
def State.imageAddr (s : State) (image : Nat) : Nat :=
  match image with
  | 1 => s.rd64 R.CFG_IMAGE_ADDR_LO.ADDR R.CFG_IMAGE_ADDR_HI.ADDR 0
  | 2 => s.rd64 R.CFG_GOLDEN_ADDR_LO.ADDR R.CFG_GOLDEN_ADDR_HI.ADDR 0
  | _ => s.rd64 R.CFG_STREAM_ADDR_LO.ADDR R.CFG_STREAM_ADDR_HI.ADDR 0

/-- A stream begins. -/
def State.beginStream (s : State) (source : Nat) : State :=
  (s.wr R.CFG_STATUS.STREAM_BUSY 0 1).modEng (fun _ => { source := source })

/-- The stream engine begins to fetch an image from host memory (R298). -/
def State.beginFetch (s : State) (source : Nat) : State :=
  let s1 := s.beginStream source
  s1.emit (.busRead (s1.imageAddr (if source = 1 then 0 else s1.rd R.CFG_STATUS.IMAGE 0)) s1.imageBytes)

/-- A stream is closed; the engine looks for a marker again (R291), in words that the port has taken after it too (R307). -/
def State.closeStream (s : State) : State :=
  let rest := if s.fabric.engine.source = 2 then s.fabric.engine.input else []
  (s.wr R.CFG_STATUS.STREAM_BUSY 0 (b2n (!rest.isEmpty))).modEng (fun e => { source := e.source, input := rest })

/-- The whole fabric shuts down (R300). No image is in force, and no clock tree has a source. -/
def State.shutdown (s : State) : State :=
  let s1 := (s.wr R.CFG_STATUS.DONE_RELEASED 0 0).wr R.CFG_STATUS.SU_PHASE 0 0
  let s2 := ((s1.wr R.FAB_BANK_DECL.LEVEL 0 0xFFFFFF).wr R.FAB_GCLK_SRC_A.SRC 0 0).wr R.FAB_GCLK_SRC_B.SRC 0 0
  (s2.wr R.FAB_STATUS.GCLK_ON 0 0).modFab (fun x => { x with
    parked := true, reset0 := true, held := true, doneRun := 0, refetch := none, trees := [], ioReg := [], cpRead := [] })

/-- Every frame reads zero (R298). -/
def State.clearFrames (s : State) : State :=
  { s with
    frames := []
    health := s.health.delRange (healthKey clsFrame 0) (healthKey (clsFrame + 1) 0) }

/-- A full load fails: recorded, shut down, and the frames are cleared (R298 step 4). -/
def State.loadFailed (s : State) (code : Nat) : State :=
  let s1 := ((s.closeStream).shutdown.wr R.CFG_STATUS.LOAD_ERR 0 code).wr R.CFG_STATUS.STREAM_BUSY 0 1
  ((s1.wr R.CFG_STATUS.STATE 0 1).logEvent 0x0E 0 1 evFabric code 0).modFab (fun x => { x with clearing := 1 })

/-- A stream fails with a load error (R299): the load, or the region (R308). -/
def State.failStream (s : State) (code : Nat) : State :=
  let e := s.fabric.engine
  if e.source = 0 then s.loadFailed code
  else
    let s1 := (s.closeStream).wr R.CFG_STATUS.LOAD_ERR 0 code
    let s2 := e.quiesced.foldl (fun s k => (s.setRegionState k 3).raise .cfg 0 7) s1
    if e.source = 2 then s2.modFab (fun x => { x with cpFault := true }) else s2

/-- A stream fails at a frame (R314). -/
def State.failFrame (s : State) (code f : Nat) : State := (s.wr R.CFG_ERR_FRAME.FRAME 0 f).failStream code

/-! ## The stream's words -/

/-- The stream check over words (R296). -/
def crcWords (c : Nat) (l : List W32) : Nat := l.foldl (fun c w => crcBytes c w.toNat 4) c

/-- The engine consumes words, which join the stream check while it runs. -/
def State.consume (s : State) (l : List W32) : State :=
  s.modEng (fun e => { e with
    input := e.input.drop l.length, crc := if e.crcOn then crcWords e.crc l else e.crc })

/-- A fetched image that ends before END fails with error LENGTH (R299). -/
def State.lengthCheck (s : State) : State :=
  let e := s.fabric.engine
  if s.streaming && s.fabric.clearing == 0 && e.source != 2 && decide (s.imageBytes / 4 ≤ e.fetched) &&
      decide (e.input.length < s.itemNeeds) then
    s.failStream 7
  else s

/-- The engine takes the record at the front of its input if it is of a kind: header and payload are consumed and the
action is performed. A header that no rule allows fails the stream with error RECORD (R292). -/
def State.record (s : State) (kind : RecordKind) (act : Nat → Nat → State → State) : State :=
  let e := s.fabric.engine
  if !s.streaming || e.hunting || e.framesLeft != 0 || s.fabric.clearing != 0 then s
  else
    match e.input with
    | [] => s
    | h :: rest =>
      match recordKind h.toNat with
      | none => s.failStream 6
      | some k =>
        if k ≠ kind || decide (rest.length < payloadWords k) then s
        else
          let pay := (rest.take (payloadWords k))
          let s1 := s.consume (h :: (if k = .check then [] else pay))
          let s2 := if k = .check then s1.modEng (fun e => { e with input := e.input.drop 1 }) else s1
          let s3 := if k = .launch then s2 else s2.modEng (fun e => { e with checkOk := false })
          (act (recLen h.toNat) (pay.headD 0).toNat s3).lengthCheck

/-- A SET that only a stream of the whole fabric may make (R293); fabric logic sends none (R307). -/
def State.wholeOnly (s : State) (f : State → State) : State :=
  if s.fabric.engine.region ≠ 0 then s.failStream 6
  else if s.fabric.engine.source = 2 then s.failStream 5
  else f s

/-! ## Commands of `CFG_CMD` (R298, R309) -/

/-- A refused CFG_ command or write. -/
def State.refuseCfg (s : State) (a : Accessor) (off code : Nat) : State := (s.errReg a .cfg 0 off code).respond a true 0

/-- Frames that still wait to be cleared are cleared before anything else. -/
def State.finishClear (s : State) : State :=
  if s.fabric.clearing = 0 then s else s.clearFrames.modFab (fun x => { x with clearing := 0 })

/-- A full load begins with an image: 1 primary, 2 golden (R298 step 1). -/
def State.beginLoad (s : State) (image : Nat) : State :=
  let s1 := (((s.finishClear).wr R.CFG_STATUS.STATE 0 1).wr R.CFG_STATUS.IMAGE 0 image).shutdown
  ((s1.modFab (fun x => { x with written := [] })).beginFetch 0).lengthCheck

/-- LOAD (R298). -/
def doLoad (a : Accessor) (s : State) : State :=
  if s.streaming then s.refuseCfg a 0x40 5 else (s.beginLoad 1).respond a true 0

/-- LOAD_GOLDEN (R298). -/
def doLoadGolden (a : Accessor) (s : State) : State :=
  if s.streaming then s.refuseCfg a 0x40 5 else (s.beginLoad 2).respond a true 0

/-- CLEAR: steps 1 and 4 without fallback (R298). -/
def doClear (a : Accessor) (s : State) : State :=
  if s.streaming then s.refuseCfg a 0x40 5
  else
    let s1 := ((s.wr R.CFG_STATUS.STATE 0 1).wr R.CFG_STATUS.IMAGE 0 1).shutdown
    let s2 := (s1.wr R.CFG_STATUS.LOAD_ERR 0 0).logEvent 0x0E 0 1 evFabric 0 0
    (s2.modFab (fun x => { x with clearing := 2, written := [] })).respond a true 0

/-- STREAM (R309): refused while a stream is in progress, while STATE is not Configured, and while fabric logic owns the
port (R307). -/
def doStream (a : Accessor) (s : State) : State :=
  if s.streaming || s.rd R.CFG_STATUS.STATE 0 != 3 || s.on R.CFG_CTRL.CP_OWNER 0 then s.refuseCfg a 0x40 5
  else ((s.beginFetch 1).lengthCheck).respond a true 0

/-- STREAM_FETCH: image words arrive, up to the image's length; `ok` is false for a failed bus-master read,
`sealOk` where a word's seal fails (R24, R298, R299). -/
def doStreamFetch (words : List W32) (ok sealOk : Bool) (s : State) : State :=
  let e := s.fabric.engine
  if !s.streaming || s.fabric.clearing != 0 || e.source == 2 then s
  else if !ok then (s.raise .hst 0 4).failStream 11
  else if !sealOk then
    let (r, s1) := s.free
    ((s1.err .cfg 0 9 33 (wordOf r 0)).logEvent 0x0E 0 openClass evSeal 0 0).failStream 11
  else
    let new := words.take (s.imageBytes / 4 - e.fetched)
    (s.modEng (fun e => { e with input := e.input ++ new, fetched := e.fetched + new.length })).lengthCheck

/-- STREAM_FETCH (R298). -/
def execStreamFetch (words : List W32) (ok sealOk : Bool) (s : State) : Host.Outcome State Fault Refusal :=
  .next (doStreamFetch words ok sealOk s)

/-! ## The marker (R291) -/

/-- The stream marker. -/
def marker : W32 := 0x6C3A9E51#32

/-- Words up to the marker: those before it, and the words after it where it is found. -/
def findMarker : List W32 → Nat → Nat × Option (List W32)
  | [], n => (n, none)
  | w :: r, n => if w = marker then (n, some r) else findMarker r (n + 1)

/-- STREAM_MARKER: words before the marker are ignored; 64 words without it fail the stream (R291). -/
def doStreamMarker (s : State) : State :=
  let e := s.fabric.engine
  if !s.streaming || !e.hunting || s.fabric.clearing != 0 then s
  else
    let (n, found) := findMarker e.input e.seen
    if 64 ≤ n then s.failStream 1
    else
      match found with
      | some rest =>
        ((s.modEng (fun e => { e with input := rest, hunting := false, seen := n })).modFab
          (fun x => { x with cpFault := if e.source = 2 then false else x.cpFault })).lengthCheck
      | none => (s.modEng (fun e => { e with input := [], seen := n })).lengthCheck

/-- STREAM_MARKER (R291). -/
def execStreamMarker (s : State) : Host.Outcome State Fault Refusal := .next (doStreamMarker s)

/-! ## SET records -/

/-- NOP (R293). -/
def doNopRecord (s : State) : State := s.record .nop (fun _ _ s => s)

/-- NOP_RECORD (R293). -/
def execNopRecord (s : State) : Host.Outcome State Fault Refusal := .next (doNopRecord s)

/-- SET DEVICE (R293). -/
def doSetDevice (s : State) : State :=
  s.record .device (fun _ v s => s.wholeOnly (fun s => if v = 0x1F3C8640 then s else s.failStream 2))

/-- SET_DEVICE (R293). -/
def execSetDevice (s : State) : Host.Outcome State Fault Refusal := .next (doSetDevice s)

/-- A source of a global clock tree that R281 lists. -/
def gclkOk (x : Nat) : Bool := decide (x ≤ 9) || (decide (0x10 ≤ x) && decide (x ≤ 0x27))

/-- Whether every tree of a GCLK word has a source that R281 lists. -/
def gclkWordOk (v : Nat) : Bool := (List.range 4).all (fun t => gclkOk (bitsOf v (8 * t) 8))

/-- SET GCLK_A (R281). -/
def doSetGclkA (s : State) : State :=
  s.record .gclkA (fun _ v s => s.wholeOnly (fun s =>
    if gclkWordOk v then s.modFab (fun x => { x with gclkA := BitVec.ofNat 32 v }) else s.failStream 12))

/-- SET_GCLK_A (R281). -/
def execSetGclkA (s : State) : Host.Outcome State Fault Refusal := .next (doSetGclkA s)

/-- SET GCLK_B (R281). -/
def doSetGclkB (s : State) : State :=
  s.record .gclkB (fun _ v s => s.wholeOnly (fun s =>
    if gclkWordOk v then s.modFab (fun x => { x with gclkB := BitVec.ofNat 32 v }) else s.failStream 12))

/-- SET_GCLK_B (R281). -/
def execSetGclkB (s : State) : Host.Outcome State Fault Refusal := .next (doSetGclkB s)

/-- SET BANKV (R284). -/
def doSetBankv (s : State) : State :=
  s.record .bankv (fun _ v s => s.wholeOnly (fun s => s.modFab (fun x => { x with bankv := BitVec.ofNat 32 v })))

/-- SET_BANKV (R284). -/
def execSetBankv (s : State) : Host.Outcome State Fault Refusal := .next (doSetBankv s)

/-- SET REGION: a fabric-driven stream must name a region whose FABRIC_OK is 1 (R293, R307). -/
def doSetRegion (s : State) : State :=
  s.record .region (fun _ v s =>
    if 16 < v then s.failStream 6
    else if s.fabric.engine.source = 2 ∧ (v = 0 ∨ !s.on (R.CFG_REGION.FABRIC_OK (v - 1)) 0) then s.failStream 5
    else s.modEng (fun e => { e with region := v }))

/-- SET_REGION (R293). -/
def execSetRegion (s : State) : Host.Outcome State Fault Refusal := .next (doSetRegion s)

/-- A PLL word within the ranges of R282. -/
def fpllOk (v : Nat) : Bool :=
  let m := bitsOf v 0 8
  decide (40 ≤ m) && decide (m ≤ 80) && bitsOf v 25 7 == 0 &&
    (List.range 4).all (fun o => decide (25 * m ≤ 500 * (bitsOf v (4 * o + 8) 4 + 1)))

/-- SET FPLL0 (R282). -/
def doSetFpll0 (s : State) : State :=
  s.record .fpll0 (fun _ v s => s.wholeOnly (fun s =>
    if fpllOk v then s.modFab (fun x => { x with fpll0 := BitVec.ofNat 32 v }) else s.failStream 12))

/-- SET_FPLL0 (R282). -/
def execSetFpll0 (s : State) : Host.Outcome State Fault Refusal := .next (doSetFpll0 s)

/-- SET FPLL1 (R282). -/
def doSetFpll1 (s : State) : State :=
  s.record .fpll1 (fun _ v s => s.wholeOnly (fun s =>
    if fpllOk v then s.modFab (fun x => { x with fpll1 := BitVec.ofNat 32 v }) else s.failStream 12))

/-- SET_FPLL1 (R282). -/
def execSetFpll1 (s : State) : Host.Outcome State Fault Refusal := .next (doSetFpll1 s)

/-! ## Frames (R287 to R289, R295) -/

/-- Commit a frame with a new check code (R290, R295). -/
def State.putFrame (s : State) (f : Nat) (v : BitVec 4096) : State :=
  { s with frames := SMap.set 0 s.frames f v }.setEcc clsFrame f 0

/-- Whether pin j of bank b has a time-to-digital tap (R273). -/
def tapPin (b j : Nat) : Bool := decide (2 ≤ j) && decide (j ≤ 9) && b % 3 == 0

/-- Whether the control field of an I/O cell is refused (R285, R286). Pin u of the user I/O is cell u mod 6 of column
u / 6. -/
def ioRefused (bankv col cell v : Nat) : Bool :=
  let u := 6 * col + cell
  let b := u / 48
  let volt := bitsOf bankv (2 * b) 2
  let drive := bitsOf v 4 2
  drive == 3 || (drive == 2 && volt == 0) || (bitsOf v 0 2 != 0 && volt == 3) ||
    (bitOf v 17 == 1 && !tapPin b (u % 48)) || bitsOf v 18 14 != 0

/-- Whether a frame's I/O cells are refused (R286). -/
def frameRefused (bankv f : Nat) (v : BitVec 4096) : Bool :=
  f % 48 == 0 && (List.range 6).any (fun i => ioRefused bankv (f / 48) i (bitsOf v.toNat (800 + 32 * i) 32))

/-- The 4,096 bits of a frame from its 128 data words. -/
def frameOf (l : List W32) : BitVec 4096 :=
  BitVec.ofNat 4096 ((List.range 128).foldl (fun a i => a + 2 ^ (32 * i) * (l.getD i 0).toNat) 0)

/-- Whether the check word of a frame entry of 130 words matches (R295). -/
def entryCheck (l : List W32) : Bool := crcFinal (crcWords crcInit (l.take 129)) == (l.getD 129 0).toNat

/-- FRAMES: LENGTH entries follow. In a region stream the region must have been quiesced (R295). -/
def doFrames (s : State) : State :=
  s.record .frames (fun n _ s =>
    let e := s.fabric.engine
    if e.source = 2 ∧ e.region = 0 then s.failStream 5
    else if (e.source ≠ 0 ∨ e.region ≠ 0) ∧ !e.quiesced.contains e.region then s.failStream 6
    else s.modEng (fun e => { e with
      framesLeft := n, nextFrame := 0, misordered := e.misordered || e.oneFrames, oneFrames := true }))

/-- FRAMES (R295). -/
def execFrames (s : State) : Host.Outcome State Fault Refusal := .next (doFrames s)

/-- A scrub result whose frame is committed first is discarded (R312). -/
def State.unfetch (s : State) (f : Nat) : State :=
  s.modFab (fun x => { x with refetch := if x.refetch = some f then none else x.refetch })

/-- A frame entry is checked, and its frame is committed (R286, R295, R308). -/
def State.commitEntry (s : State) (l : List W32) : State :=
  let e := s.fabric.engine
  let f := (l.getD 0 0).toNat
  let v := frameOf (l.drop 1)
  if !entryCheck l then s.failFrame 3 f
  else if 4608 ≤ f then s.failFrame 5 f
  else if e.region ≠ 0 ∧ !s.regionHolds e.region (f / 48) (f % 48) then s.failFrame 5 f
  else if frameRefused s.fabric.bankv.toNat f v then s.failFrame 12 f
  else
    let s1 := ((s.putFrame f v).unfetch f).modEng (fun e => { e with
      framesLeft := e.framesLeft - 1, misordered := e.misordered || f != e.nextFrame, nextFrame := e.nextFrame + 1 })
    if e.region = 0 then s1
    else
      (s1.setRegionState e.region 2).modFab (fun x => { x with
        written := if x.written.contains (s.regionRect e.region) then x.written
          else x.written ++ [s.regionRect e.region] })

/-- FRAME_ENTRY (R295). The first entry of a full image fixes where the scrubber's refetch finds its entries (R297). -/
def doFrameEntry (s : State) : State :=
  let e := s.fabric.engine
  if !s.streaming || s.fabric.clearing != 0 || e.framesLeft == 0 || decide (e.input.length < 130) then s
  else
    let l := e.input.take 130
    let s1 := if e.source = 0 ∧ e.nextFrame = 0 then
      s.modFab (fun x => { x with firstEntry := e.fetched - e.input.length }) else s
    ((s1.consume l).commitEntry l).lengthCheck

/-- FRAME_ENTRY (R295). -/
def execFrameEntry (s : State) : Host.Outcome State Fault Refusal := .next (doFrameEntry s)

/-- The 128 words of a frame, low word first (R292). -/
def frameWords (v : BitVec 4096) : List W32 :=
  (List.range 128).map (fun i => BitVec.ofNat 32 (bitsOf v.toNat (32 * i) 32))

/-- A READ record returns a frame: to fabric logic its words go out on R, one to a clock (R292, R307). -/
def State.returnFrame (s : State) (v : BitVec 4096) : State :=
  (s.emit (.cpFrame v)).modFab (fun x => { x with
    cpRead := if x.engine.source = 2 then x.cpRead ++ frameWords v else x.cpRead })

/-- A frame as a READ record returns it, after correction; an uncorrectable one is a free value. -/
def State.readFrame (s : State) (f : Nat) : State :=
  if s.ecc clsFrame f < 2 then s.returnFrame (s.frame f)
  else { s.returnFrame (Config.freeFrame s.freeUses) with freeUses := s.freeUses + 1 }

/-- READ: on the inner configuration port alone, LENGTH frames in ascending order (R292, R307). -/
def doReadRecord (s : State) : State :=
  s.record .read (fun n f s =>
    if s.fabric.engine.source = 0 then s.failStream 6
    else if s.fabric.engine.source = 2 ∧ s.fabric.engine.region = 0 then s.failStream 5
    else if 4608 < f + n then s.failFrame 5 f
    else ((List.range n).map (fun i => f + i)).foldl (fun s f => s.readFrame f) s)

/-- READ_RECORD (R292). -/
def execReadRecord (s : State) : Host.Outcome State Fault Refusal := .next (doReadRecord s)

/-! ## CHECK and ACTION (R294, R296) -/

/-- CHECK: the words since CHECK_RESET, up to and including this header (R296). -/
def doCheckRecord (s : State) : State :=
  s.record .check (fun _ v s =>
    let e := s.fabric.engine
    if e.crcOn && crcFinal e.crc == v then s.modEng (fun e => { e with crcOn := false, checkOk := true })
    else s.failStream 4)

/-- CHECK_RECORD (R296). -/
def execCheckRecord (s : State) : Host.Outcome State Fault Refusal := .next (doCheckRecord s)

/-- ACTION NONE (R294). -/
def doActionNone (s : State) : State := s.record .none (fun _ _ s => s)

/-- ACTION_NONE (R294). -/
def execActionNone (s : State) : Host.Outcome State Fault Refusal := .next (doActionNone s)

/-- ACTION CHECK_RESET (R294, R296). -/
def doCheckReset (s : State) : State :=
  s.record .checkReset (fun _ _ s => s.modEng (fun e => { e with crcOn := true, crc := crcInit }))

/-- CHECK_RESET (R294). -/
def execCheckReset (s : State) : Host.Outcome State Fault Refusal := .next (doCheckReset s)

/-- A bank whose declared supply differs from the sensed one (R284). -/
def State.wrongVoltage (s : State) : Bool :=
  (List.range 12).any fun b =>
    let d := bitsOf s.fabric.bankv.toNat (2 * b) 2
    d != 3 && d != bitsOf (s.rd R.FAB_BANK_SENSE.LEVEL 0) (2 * b) 2

/-- Full start-up begins at phase 1; the image is in force (R301, R315). -/
def State.beginStartup (s : State) : State :=
  let s1 := (s.wr R.CFG_STATUS.STATE 0 2).wr R.CFG_STATUS.SU_PHASE 0 1
  ((s1.wr R.FAB_BANK_DECL.LEVEL 0 s.fabric.bankv.toNat).wr R.FAB_GCLK_SRC_A.SRC 0 s.fabric.gclkA.toNat).wr
    R.FAB_GCLK_SRC_B.SRC 0 s.fabric.gclkB.toNat

/-- Release lines driven from inside a region (R272, R303). -/
def State.linesOf (s : State) (k : Nat) : Nat :=
  (List.range 32).foldl (fun a l => if s.regionHolds k (3 * l) 39 then a + 2 ^ l else a) 0

/-- The region starts up and runs: its flip-flops leave INIT (R303, R308). -/
def State.startRegion (s : State) (k : Nat) : State :=
  let s1 := s.loadInit (fun f => s.regionHolds k (colOf f) (rowOf f))
  let s2 := { s1 with relBlank := s1.relBlank ||| BitVec.ofNat 32 (s1.linesOf k) }
  ((s2.setRegionState k 0).raise .cfg 0 6).modEng (fun e => { e with quiesced := e.quiesced.filter (fun i => i != k) })

/-- LAUNCH: start-up of the whole fabric, or of the region, after a CHECK that matched (R294, R296, R297, R308). -/
def doLaunch (s : State) : State :=
  s.record .launch (fun _ _ s =>
    let e := s.fabric.engine
    let s1 := s.modEng (fun e => { e with checkOk := false })
    if !e.checkOk then s1.failStream 4
    else if e.region = 0 then
      if e.source = 2 then s1.failStream 5
      else if e.source = 1 then s1.failStream 6
      else if e.nextFrame != 4608 || e.misordered || !e.oneFrames then s1.failStream 7
      else if s1.wrongVoltage then s1.failStream 8
      else s1.beginStartup
    else if !e.quiesced.contains e.region then s1.failStream 6
    else s1.startRegion e.region)

/-- LAUNCH (R294). -/
def execLaunch (s : State) : Host.Outcome State Fault Refusal := .next (doLaunch s)

/-- END closes the stream (R291, R294). -/
def doEndStream (s : State) : State := s.record .endStream (fun _ _ s => s.closeStream)

/-- END (R294). -/
def execEndStream (s : State) : Host.Outcome State Fault Refusal := .next (doEndStream s)

/-- QUIESCE: region streams only (R294, R308). -/
def doQuiesce (s : State) : State :=
  s.record .quiesce (fun _ _ s =>
    let e := s.fabric.engine
    if e.source = 2 ∧ e.region = 0 then s.failStream 5
    else if e.region = 0 ∨ e.source = 0 then s.failStream 6
    else
      ((if s.regionState e.region = 0 then s.holdRegion e.region else s).setRegionState e.region 1).modEng
        (fun e => { e with quiesced := e.quiesced.filter (fun i => i != e.region) ++ [e.region] }))

/-- QUIESCE (R308). -/
def execQuiesce (s : State) : Host.Outcome State Fault Refusal := .next (doQuiesce s)

/-! ## After a failed load, and start-up (R298, R301 to R303) -/

/-- FRAME_CLEAR_DONE: fall back, fail, or leave the fabric unconfigured (R298 steps 4 and 5). -/
def doFrameClearDone (s : State) : State :=
  let s1 := s.clearFrames.modFab (fun x => { x with clearing := 0 })
  match s.fabric.clearing with
  | 0 => s
  | 1 =>
    if s.on R.CFG_CTRL.FALLBACK_EN 0 && s.rd R.CFG_STATUS.IMAGE 0 == 1 && s.rd R.CFG_GOLDEN_LEN.BYTES 0 != 0 then
      (((s1.wr R.CFG_STATUS.IMAGE 0 2).raise .cfg 0 2).beginFetch 0).lengthCheck
    else
      (((s1.closeStream).wr R.CFG_STATUS.STATE 0 4).raise .cfg 0 1).logEvent 0x0E 0 2 evFabric
        (s.rd R.CFG_STATUS.LOAD_ERR 0) 1
  | _ => (s1.wr R.CFG_STATUS.STATE 0 0).wr R.CFG_STATUS.IMAGE 0 0

/-- FRAME_CLEAR_DONE (R298). -/
def execFrameClearDone (s : State) : Host.Outcome State Fault Refusal := .next (doFrameClearDone s)

/-- The fabric PLL that a tree selects. -/
def State.treePll (s : State) (t : Nat) : Option Nat :=
  let x := s.gclkSource t
  if 1 ≤ x ∧ x ≤ 8 then some ((x - 1) / 4) else none

/-- LOCK of a fabric PLL. -/
def pllLock (p : Nat) : Fld := ⟨.fab, 0x08, if p = 0 then 0 else 1, 1, .ro, 0⟩

/-- Whether every PLL that a tree selects is locked. -/
def State.pllsLocked (s : State) : Bool :=
  (List.range 8).all fun t => match s.treePll t with
    | some p => s.on (pllLock p) 0
    | none => true

/-- The trees that run (R281, R315). -/
def State.startTrees (s : State) : State :=
  s.wr R.FAB_STATUS.GCLK_ON 0 ((List.range 8).foldl (fun a t => if s.gclkSource t = 0 then a else a + 2 ^ t) 0)

/-- The action of a start-up phase as it is entered (R301, R303). -/
def State.enterPhase (s : State) (n : Nat) : State :=
  let s1 := s.wr R.CFG_STATUS.SU_PHASE 0 n
  match n with
  | 2 => (s1.startTrees).wr R.CFG_STATUS.DONE_RELEASED 0 1
  | 3 => s1.modFab (fun x => { x with doneRun := 0 })
  | 4 => s1.modFab (fun x => { x with parked := false })
  | 5 => (s1.loadInit (fun f => (s1.stoppedRegion (colOf f) (rowOf f)).isNone)).modFab (fun x => { x with
      reset0 := false, sinceRel := [] })
  | 6 => { s1.modFab (fun x => { x with held := false }) with relBlank := BitVec.allOnes 32 }
  | 7 => (s1.wr R.CFG_STATUS.STATE 0 3).raise .cfg 0 0
  | _ => s1

/-- STARTUP_PHASE: one start-up clock of full start-up (R301). `locked`: the fabric PLLs that report lock; `done`: the
sample of DONE. -/
def doStartupPhase (locked : BitVec 2) (done : Bool) (s : State) : State :=
  let ph := s.rd R.CFG_STATUS.SU_PHASE 0
  match ph with
  | 0 => s
  | 1 =>
    let s1 := (s.wr R.FAB_STATUS.PLL0_LOCK 0 (bitOf s.fabric.fpll0.toNat 24 * bitOf locked.toNat 0)).wr
      R.FAB_STATUS.PLL1_LOCK 0 (bitOf s.fabric.fpll1.toNat 24 * bitOf locked.toNat 1)
    if s1.pllsLocked then s1.enterPhase 2 else s1
  | 3 =>
    let s1 := s.wr R.CFG_STATUS.DONE_IN 0 (b2n done)
    if !s.on R.CFG_CTRL.DONE_WAIT 0 then s1.enterPhase 4
    else
      let run := if done then s.fabric.doneRun + 1 else 0
      if 4 ≤ run then s1.enterPhase 4 else s1.modFab (fun x => { x with doneRun := run })
  | 7 => s.wr R.CFG_STATUS.SU_PHASE 0 0
  | n => s.enterPhase (n + 1)

/-- STARTUP_PHASE (R301). -/
def execStartupPhase (locked : BitVec 2) (done : Bool) (s : State) : Host.Outcome State Fault Refusal :=
  .next (doStartupPhase locked done s)

/-- STARTUP_PLL_TIMEOUT (R301). -/
def doStartupPllTimeout (s : State) : State := if s.rd R.CFG_STATUS.SU_PHASE 0 = 1 then s.loadFailed 9 else s

/-- STARTUP_PLL_TIMEOUT (R301). -/
def execStartupPllTimeout (s : State) : Host.Outcome State Fault Refusal := .next (doStartupPllTimeout s)

/-- DONE_TIMEOUT (R302). -/
def doDoneTimeout (s : State) : State :=
  if s.rd R.CFG_STATUS.SU_PHASE 0 = 3 ∧ s.rd R.CFG_DONE_TIMEOUT.US 0 ≠ 0 then s.loadFailed 10 else s

/-- DONE_TIMEOUT (R302). -/
def execDoneTimeout (s : State) : Host.Outcome State Fault Refusal := .next (doDoneTimeout s)

/-- RELEASE_BLANK_END (R303). -/
def doReleaseBlankEnd (s : State) : State := { s with relBlank := 0 }

/-- RELEASE_BLANK_END (R303). -/
def execReleaseBlankEnd (s : State) : Host.Outcome State Fault Refusal := .next (doReleaseBlankEnd s)

/-! ## The inner configuration port and regions (R305, R307, R309) -/

/-- CP_WORD: a word from fabric logic is taken while it owns the port and the port's 16-word buffer has room beside the
record under way (R307). -/
def doCpWord (w : W32) (s : State) : State :=
  if !s.on R.CFG_CTRL.CP_OWNER 0 then s.raise .cfg 0 8
  else if s.cpReady then
    (if s.streaming then s else s.beginStream 2).modEng (fun e => { e with input := e.input ++ [w] })
  else s

/-- CP_WORD (R307). -/
def execCpWord (w : W32) (s : State) : Host.Outcome State Fault Refusal := .next (doCpWord w s)

/-- Whether two rectangles share a cluster. -/
def rectsMeet (a b : Nat × Nat × Nat × Nat) : Bool :=
  decide (a.1 ≤ b.2.1) && decide (b.1 ≤ a.2.1) && decide (a.2.2.1 ≤ b.2.2.2) && decide (b.2.2.1 ≤ a.2.2.2)

/-- Whether a definition of region k is refused (R305). -/
def State.regionRefused (s : State) (k v : Nat) : Bool :=
  let r := (bitsOf v 0 7, bitsOf v 8 7, bitsOf v 16 6, bitsOf v 22 6)
  s.regionState k != 0 || decide (r.2.1 < r.1) || decide (r.2.2.2 < r.2.2.1) || decide (95 < r.2.1) ||
    decide (47 < r.2.2.2) ||
    (List.range 16).any (fun i => i + 1 != k && s.on (R.CFG_REGION.VALID i) 0 && rectsMeet r (s.regionRect (i + 1))) ||
    (bitOf v 28 == 1 && rectsMeet r (2, 2, 20, 24))

/-- REGION_WRITE: register k − 1 defines region k, or the write is refused (R305). -/
def doRegionWrite (a : Accessor) (i : Nat) (v : W32) (s : State) : State :=
  let x := v.toNat
  if s.regionRefused (i + 1) x then s.refuseCfg a (0x100 + 8 * i) 4
  else
    (((((((s.wr (R.CFG_REGION.COL_FIRST i) 0 (bitsOf x 0 7)).wr (R.CFG_REGION.COL_LAST i) 0 (bitsOf x 8 7)).wr
      (R.CFG_REGION.ROW_FIRST i) 0 (bitsOf x 16 6)).wr (R.CFG_REGION.ROW_LAST i) 0 (bitsOf x 22 6)).wr
      (R.CFG_REGION.FABRIC_OK i) 0 (bitOf x 28)).wr (R.CFG_REGION.VALID i) 0 (bitOf x 29))).respond a true 0

/-- REGION_STREAM_TIMEOUT (R309). -/
def doRegionStreamTimeout (s : State) : State :=
  if s.streaming && s.fabric.engine.source == 1 then s.failStream 7 else s

/-- REGION_STREAM_TIMEOUT (R309). -/
def execRegionStreamTimeout (s : State) : Host.Outcome State Fault Refusal := .next (doRegionStreamTimeout s)

/-! ## Clocks and banks (R281, R284, R315) -/

/-- A nanosecond of the fabric: on an active edge of its clock the inner configuration port returns the next word of a READ record,
and takes W where fabric logic offers one (R307); the clock trees and the flip-flops move on. -/
def State.fabricTick (s : State) : State :=
  if s.cpEdge s.edges then
    let s1 := s.fabricClock.modFab (fun x => { x with cpRead := x.cpRead.drop 1 })
    if s.cpValid then doCpWord s.cpW s1 else s1
  else s.fabricClock

/-- A tree that runs stops (R281). -/
def State.loseTree (s : State) (t : Nat) : State :=
  if bitOf (s.rd R.FAB_STATUS.GCLK_ON 0) t = 1 then
    (s.wr R.FAB_STATUS.GCLK_ON 0 (setBit (s.rd R.FAB_STATUS.GCLK_ON 0) t 0)).raise .fab 0 2
  else s

/-- GCLK_LOST (R281). -/
def doGclkLost (t : Nat) (s : State) : State := s.loseTree t

/-- GCLK_LOST (R281). -/
def execGclkLost (t : Fin 8) (s : State) : Host.Outcome State Fault Refusal := .next (doGclkLost t s)

/-- FABRIC_PLL_UNLOCK: the trees that select the PLL are held low (R281, R315). -/
def doFabricPllUnlock (p : Nat) (s : State) : State :=
  if s.on (pllLock p) 0 then
    let s1 := (s.wr (pllLock p) 0 0).raise .fab 0 0
    (List.range 8).foldl (fun s t => if s.treePll t = some p then s.loseTree t else s) s1
  else s

/-- FABRIC_PLL_UNLOCK (R315). -/
def execFabricPllUnlock (p : Fin 2) (s : State) : Host.Outcome State Fault Refusal := .next (doFabricPllUnlock p s)

/-- BANK_VOLTAGE_CHANGE (R284). -/
def doBankVoltageChange (b level : Nat) (s : State) : State :=
  let old := s.rd R.FAB_BANK_SENSE.LEVEL 0
  if bitsOf old (2 * b) 2 = level then s
  else (s.wr R.FAB_BANK_SENSE.LEVEL 0 (setBits old (2 * b) 2 level)).raise .fab 0 1

/-- BANK_VOLTAGE_CHANGE (R284). -/
def execBankVoltageChange (b : Fin 12) (level : Fin 4) (s : State) : Host.Outcome State Fault Refusal :=
  .next (doBankVoltageChange b level s)

end Sys2Proof.Machine
end

