-- ==== Sys2Proof/Machine/ConfigScrub.lean ====
section
/-! DEFINITION. Machine/ConfigScrub.lean: the configuration scrubber and its supervisor (R310 to R313), and the frame window
(R290). -/

namespace Sys2Proof.Machine
open Sys2Proof

/-- The scrubber runs (R310). -/
def State.scrubbing (s : State) : Bool := s.on R.CFG_CTRL.SCRUB_EN 0 && s.rd R.CFG_STATUS.STATE 0 == 3

/-- Whether a frame lies in a region that a region stream has written since the last full load (R288, R311). -/
def State.noCopy (s : State) (f : Nat) : Bool := s.fabric.written.any (fun r => inRect r (f / 48) (f % 48))

/-- The next frame to scrub from a position: frames of regions that are not Running are skipped (R310). -/
def State.nextScrub (s : State) (pos : Nat) : Option Nat :=
  ((List.range (s.rd R.CFG_SCRUB_LAST.FRAME 0 + 1 - pos)).map (fun i => pos + i)).find?
    (fun f => (s.stoppedRegion (f / 48) (f % 48)).isNone)

/-- Bus address of the entry of frame f in the full image in force (R297, R311). -/
def State.entryAddr (s : State) (f : Nat) : Nat :=
  s.imageAddr (s.rd R.CFG_STATUS.IMAGE 0) + 4 * s.fabric.firstEntry + 520 * f

/-- The scrubber checks a frame (R311). -/
def State.scrubFrame (s : State) (f : Nat) : State :=
  match s.ecc clsFrame f with
  | 0 => s
  | 1 =>
    (((s.setEcc clsFrame f 0).count R.CFG_FRAME_CE_COUNT.COUNT 0 1).raise .cfg 0 3).logEvent 0x0E 0 0 evFabric f 2
  | _ =>
    let s1 := (((s.count R.CFG_FRAME_UE_COUNT.COUNT 0 1).raise .cfg 0 4).wr R.CFG_ERR_FRAME.FRAME 0 f).logEvent
      0x0E 0 1 evFabric f 3
    if s.noCopy f then s1.logEvent 0x0E 0 2 evFabric f 4
    else (s1.modFab (fun x => { x with refetch := some f })).emit (.busRead (s1.entryAddr f) 520)

/-- A pass is over (R310). -/
def State.scrubPass (s : State) : State :=
  (s.count R.CFG_SCRUB_PASSES.COUNT 0 1).wr R.CFG_SCRUB_POS.FRAME 0 (s.rd R.CFG_SCRUB_FIRST.FRAME 0)

/-- SCRUB_FRAME_READ (R310): it waits while an uncorrectable frame's rewrite is pending (R312). -/
def doScrubFrameRead (u : List Upset) (s : State) : State :=
  let s := s.upset u
  if !s.scrubbing || s.fabric.refetch.isSome then s
  else
    let first := s.rd R.CFG_SCRUB_FIRST.FRAME 0
    let last := s.rd R.CFG_SCRUB_LAST.FRAME 0
    let pos := s.rd R.CFG_SCRUB_POS.FRAME 0
    let from0 := if pos < first ∨ last < pos then first else pos
    match s.nextScrub from0 with
    | none => s.scrubPass
    | some f =>
      let s1 := s.scrubFrame f
      if f = last then s1.scrubPass else s1.wr R.CFG_SCRUB_POS.FRAME 0 (f + 1)

/-- SCRUB_FRAME_READ (R310). -/
def execScrubFrameRead (u : List Upset) (s : State) : Host.Outcome State Fault Refusal := .next (doScrubFrameRead u s)

/-- FRAME_REFETCH: entry f of the full image in force has been read; `ok` is false where the read failed (R311). In
FW_STATE 3 it waits (R383). -/
def doFrameRefetch (words : List W32) (ok : Bool) (s : State) : State :=
  match s.fabric.refetch, s.rd R.HST_MBX_STATUS.FW_STATE 0 with
  | none, _ => s
  | some _, 3 => s
  | some f, _ =>
    let s1 := s.modFab (fun x => { x with refetch := none })
    if ok && words.length == 130 && (words.getD 0 0).toNat == f && entryCheck words then
      s1.putFrame f (frameOf (words.drop 1))
    else (if ok then s1 else s1.raise .hst 0 4).logEvent 0x0E 0 2 evFabric f 5

/-- FRAME_REFETCH (R311). -/
def execFrameRefetch (words : List W32) (ok : Bool) (s : State) : Host.Outcome State Fault Refusal :=
  .next (doFrameRefetch words ok s)

/-- The supervisor reloads the settings from its shadow and restarts a full pass (R313). The three stored copies are
equal but for a fault, so the model keeps one, the registers. -/
def State.scrubRestart (s : State) : State :=
  (((s.wr R.CFG_SCRUB_POS.FRAME 0 (s.rd R.CFG_SCRUB_FIRST.FRAME 0)).count R.CFG_SCRUB_RESTARTS.COUNT 0 1).raise
    .cfg 0 5).logEvent 0x0E 0 0 evFabric 0 6

/-- SCRUB_HEARTBEAT_TIMEOUT: while the scrubber should be running (R313). -/
def doScrubHeartbeatTimeout (s : State) : State := if s.scrubbing then s.scrubRestart else s

/-- SCRUB_HEARTBEAT_TIMEOUT (R313). -/
def execScrubHeartbeatTimeout (s : State) : Host.Outcome State Fault Refusal := .next (doScrubHeartbeatTimeout s)

/-- SCRUB_SETTINGS_FAULT: a parity error of a copy, or a mismatch with the shadow; `shadowBad`: the shadow's own parity
fails, and the reset values go into all three (R313). -/
def doScrubSettingsFault (shadowBad : Bool) (s : State) : State :=
  if shadowBad then
    (((s.wr R.CFG_SCRUB_FIRST.FRAME 0 0).wr R.CFG_SCRUB_LAST.FRAME 0 0x11FF).wr R.CFG_SCRUB_INTERVAL.CLOCKS 0
      0x200).logEvent 0x0E 0 1 evFabric 0 7
  else s.scrubRestart

/-- SCRUB_SETTINGS_FAULT (R313). -/
def execScrubSettingsFault (shadowBad : Bool) (s : State) : Host.Outcome State Fault Refusal :=
  .next (doScrubSettingsFault shadowBad s)

/-- A 16-byte word of the frame window: 32 to a frame, bits [7:0] at the lowest address (R287). -/
def State.frameWord (s : State) (f i : Nat) : W128 := BitVec.ofNat 128 (bitsOf (s.frame f).toNat (128 * i) 128)

/-- FRAME_WINDOW_READ: the word after correction, or an error response for an uncorrectable frame (R24, R290). -/
def doFrameWindowRead (src tag f i : Nat) (s : State) : State :=
  if 4608 ≤ f then s.quayAnswer 33 src tag 1 []
  else if s.ecc clsFrame f < 2 then s.quayAnswer 33 src tag 0 [s.frameWord f i]
  else
    ((s.err .cfg 0 9 src (0x600000000 + f * 0x200 + i * 16)).logEvent 0x0E 0 openClass evSeal f i).quayAnswer 33 src tag 3 []

/-- FRAME_WINDOW_READ (R290). -/
def execFrameWindowRead (src tag : Fin 64) (f : Fin 4608) (i : Fin 32) (s : State) :
    Host.Outcome State Fault Refusal :=
  .next (doFrameWindowRead src tag f i s)

end Sys2Proof.Machine
end

