-- ==== Sys2Proof/Machine/Irq.lean ====
section
/-! DEFINITION. Machine/Irq.lean: the interrupt controller's targets (R385), the control cores' stacked mode (R386 to R388),
its software sources (R384, R390), and the entry to FW_STATE 3 (R382). -/

namespace Sys2Proof.Machine
open Sys2Proof

/-! ## What a source is doing -/

/-- The stack of a control core, top first: source and level (R386). -/
def State.irqStack (s : State) (k : Nat) : List (Nat × Nat) := SMap.get [] s.irqStacks k

/-- Whether a source is in service for some control core (R386). -/
def State.inService (s : State) (n : Nat) : Bool :=
  (List.range 4).any (fun k => (s.irqStack k).any (fun e => e.1 == n))

/-- Whether a source is pending at its control core, latched at its model core, or its message to the host is held
(R385, R386, R389, R407). -/
def State.irqPending (s : State) (n : Nat) : Bool :=
  match s.rd (R.IRQ_TARGET.KIND n) 0 with
  | 1 => s.line n && !s.inService n
  | 2 => s.irqLatches.contains (s.rd (R.IRQ_TARGET.INDEX n) 0 * 256 + n)
  | 3 => s.irqHeld.contains n
  | _ => false

/-- Whether a source's target is fixed (R384, R385). -/
def fixedTarget (n : Nat) : Bool := (decide (144 ≤ n) && decide (n < 160)) || n == 186

/-! ## Targets (R385) -/

/-- Whether a target register names a target there is. -/
def targetExists (kind index : Nat) : Bool :=
  match kind with
  | 1 => decide (index < 4)
  | 2 => decide (index < 16)
  | _ => true

/-- IRQ_TARGET_WRITE (R385): KIND 0 is always accepted and discards what waits; a target is not changed while the source
is pending, latched or in service. -/
def doIrqTargetWrite (a : Accessor) (n : Nat) (v : W32) (s : State) : State :=
  let kind := bitsOf v.toNat 0 2
  let index := bitsOf v.toNat 2 6
  let refuse := s.refuseWrite a .irq 0 (0x400 + 4 * n) 4
  let store (s : State) : State :=
    (((s.wr (R.IRQ_TARGET.KIND n) 0 kind).wr (R.IRQ_TARGET.INDEX n) 0 index).wr (R.IRQ_TARGET.PRIO n) 0
      (bitsOf v.toNat 8 4)).respond a true 0
  let changes := s.rd (R.IRQ_TARGET.KIND n) 0 != kind || s.rd (R.IRQ_TARGET.INDEX n) 0 != index
  if fixedTarget n then refuse
  else if kind = 0 then
    store { s with
      irqLatches := s.irqLatches.filter (fun l => l % 256 != n)
      irqHeld := s.irqHeld.filter (fun h => h != n) }
  else if !targetExists kind index then refuse
  else if changes && (s.irqPending n || s.inService n) then refuse
  else store s

/-! ## Control cores (R386 to R388) -/

/-- The running priority of a control core: the level at the top of its stack, 16 when it is empty (R386). -/
def State.runPrio (s : State) (k : Nat) : Nat :=
  match s.irqStack k with
  | [] => 16
  | e :: _ => e.2

/-- A control core's stack is set, and `IRQ_STACKk` shows it. -/
def State.setIrqStack (s : State) (k : Nat) (st : List (Nat × Nat)) : State :=
  let s1 := { s with irqStacks := SMap.set [] s.irqStacks k st }
  ((s1.wr (R.IRQ_STACK.DEPTH k) 0 st.length).wr (R.IRQ_STACK.RP k) 0 (s1.runPrio k)).wr (R.IRQ_STACK.TOP k) 0
    (match st with
     | [] => 0
     | e :: _ => e.1)

/-- Whether control core k runs: in the boot ROM only core 0 does (R374, R376), none in FW_STATE 3 (R382). -/
def State.controlRuns (s : State) (k : Nat) : Bool :=
  match s.rd R.HST_MBX_STATUS.FW_STATE 0 with
  | 3 => false
  | 2 =>
    match s.control.runs with
    | some i => (i.entries[k]?).getD 0xFFFFFFFF != 0xFFFFFFFF
    | none => k == 0
  | _ => k == 0

/-- The source offered to control core k (R386): the lowest level below the running priority, the lowest number of it. -/
def State.offered (s : State) (k : Nat) : Option Nat :=
  let c := (List.range 256).filter (fun n =>
    s.rd (R.IRQ_TARGET.KIND n) 0 == 1 && s.rd (R.IRQ_TARGET.INDEX n) 0 == k && s.irqPending n &&
      decide (s.rd (R.IRQ_TARGET.PRIO n) 0 < s.runPrio k))
  c.foldl (fun best n =>
    match best with
    | none => some n
    | some b => if s.rd (R.IRQ_TARGET.PRIO n) 0 < s.rd (R.IRQ_TARGET.PRIO b) 0 then some n else best) none

/-- CONTROL_IRQ_TAKE: the offered source goes on the stack and into service, and its vector address is supplied (R386);
with IRQ_CTRL.EN = 0 nothing is offered (R407). -/
def doControlIrqTake (k : Nat) (s : State) : State :=
  if !s.on R.IRQ_CTRL.EN 0 || !s.controlRuns k then s
  else
    match s.offered k with
    | none => s
    | some n =>
      (s.setIrqStack k ((n, s.rd (R.IRQ_TARGET.PRIO n) 0) :: s.irqStack k)).emit
        (.irqVector k ((s.rd (R.IRQ_CVBASE.ADDR k) 0 * 16 + 16 * n) % 2 ^ 32))

/-- CONTROL_IRQ_TAKE (R386). -/
def execControlIrqTake (k : Fin 4) (s : State) : Host.Outcome State Fault Refusal := .next (doControlIrqTake k.val s)

/-- Entry to FW_STATE 3: the cores are held, a BUSY command ends with BUSY = 0 and DONE = 0, source 185 is raised, and a
class 2 entry is written without firmware (R382). -/
def State.enterFault (s : State) : State :=
  if s.rd R.HST_MBX_STATUS.FW_STATE 0 = 3 then s
  else
    let s1 := ((s.wr R.HST_MBX_STATUS.FW_STATE 0 3).wr R.HST_MBX_STATUS.BUSY 0 0).wr R.HST_MBX_STATUS.DONE 0 0
    let s2 := { s1 with control := { s1.control with cmd := none, img := none, dbgLen := none, dbgGot := [] } }
    (s2.irqEvent 185).logEvent 0x21 0 2 evControlFault 0 0

/-- STACK_FAULT bit k is set, an event of source 187 where it is enabled (R384, R388). -/
def State.stackFault (s : State) (k : Nat) : State :=
  let s1 := s.wr R.IRQ_INT_STATUS.STACK_FAULT 0 (setBit (s.rd R.IRQ_INT_STATUS.STACK_FAULT 0) k 1)
  if bitOf (s1.rd R.IRQ_INT_ENABLE.STACK_FAULT 0) k = 1 then s1.irqEvent 187 else s1

/-- IRQ_EOI (R387, R388): a control core's write ends the source at the top of its stack; any other source, or an empty
stack, is a stack fault. -/
def doIrqEoi (a : Accessor) (v : W32) (s : State) : State :=
  match a with
  | .fw k =>
    match s.irqStack k.val with
    | e :: rest =>
      if e.1 = v.toNat % 256 then (s.setIrqStack k.val rest).respond a true 0
      else ((s.stackFault k.val).enterFault).respond a true 0
    | [] => ((s.stackFault k.val).enterFault).respond a true 0
  | _ => s.deny a .irq 0 0x60

/-! ## Software sources (R384, R390) -/

/-- IRQ_SWSET: each bit written 1 is set, and that is its source's event (R384, R407). -/
def doIrqSwset (a : Accessor) (hi : Bool) (v : W32) (s : State) : State :=
  let f := softPend hi
  let s1 := s.wr f 0 (s.rd f 0 ||| v.toNat)
  ((onesOf 32 v.toNat).foldl (fun (s : State) i => s.irqEvent (192 + (if hi then 32 else 0) + i)) s1).respond a true 0

/-- IRQ_SWCLR: the bits written 1 are cleared, and the sources of the register are rearmed (R390). -/
def doIrqSwclr (a : Accessor) (hi : Bool) (v : W32) (s : State) : State :=
  let f := softPend hi
  let s1 := s.wr f 0 (s.rd f 0 - (s.rd f 0 &&& v.toNat))
  ((List.range 32).foldl (fun (s : State) i => s.rearmSource (192 + (if hi then 32 else 0) + i)) s1).respond a true 0

/-- A write to IRQ_CTRL: held host messages go out when EN becomes 1 (R407). -/
def State.irqControl (s : State) (a : Accessor) (v : Nat) : State :=
  let s1 := s.plainWrite a .irq 0 0x04 v
  if s1.on R.IRQ_CTRL.EN 0 then
    (s1.irqHeld.foldl (fun (s : State) n => s.irqEvent n) { s1 with irqHeld := [] }).respond a true 0
  else s1.respond a true 0

/-! ## Views of the controller's state (R407) -/

/-- A word of 32 sources of a property, from source 32j. -/
def sourceWord (f : Nat → Bool) (j : Nat) : Nat :=
  (List.range 32).foldl (fun v i => v + 2 ^ i * b2n (f (32 * j + i))) 0

/-- A read of `IRQ_LINEj`, `IRQ_PENDj` or `IRQ_INSVCj`; `none` for another offset. -/
def State.irqView (s : State) (off : Nat) : Option Nat :=
  let j := off % 0x20 / 4
  if off % 4 ≠ 0 then none
  else if 0x100 ≤ off ∧ off < 0x120 then some (sourceWord s.line j)
  else if 0x120 ≤ off ∧ off < 0x140 then some (sourceWord s.irqPending j)
  else if 0x140 ≤ off ∧ off < 0x160 then some (sourceWord s.inService j)
  else none

end Sys2Proof.Machine
end

