-- ==== Sys2Proof/Machine/CoreEvents.lean ====
section
/-! DEFINITION. Machine/CoreEvents.lean: interrupt entry and nap (R340, R364 to R368), far responses (R320), NoC accesses to
a scratchpad (R324), reset (R341), the watchdog (R342 to R344), and the halting of a core (R486 to R490). -/

namespace Sys2Proof.Machine
open Sys2Proof

/-! ## Exceptions and interrupts -/

/-- EXCEPTION_ENTRY: the bundle at core m's PC, about to issue, faults and takes its exception (R369 to R373). -/
def doExceptionEntry (m : Nat) (s : State) : State :=
  if !s.coreReady m || s.takesIrq m then s
  else
    let s1 := s.breakCheck m
    if s1.haltsNow m then s1
    else
      match s1.bundleFault m (s1.core m) with
      | some f => (s1.firstSync m).takeFault m f
      | none => s1

/-- EXCEPTION_ENTRY (R369). -/
def execExceptionEntry (m : Fin 16) (s : State) : Host.Outcome State Fault Refusal := .next (doExceptionEntry m.val s)

/-- The core takes the offered request (R366, R389): every issued bundle completes, IRA takes the next bundle's address,
INIRQ is set, the reservation is cancelled, the latch is cleared and the vector is next. -/
def State.enterIrq (s : State) (m n : Nat) : State :=
  let s1 := { (s.firstSync m).modCore m (fun c => c.drain) with
    irqLatches := s.irqLatches.filter (fun l => l != m * 256 + n) }
  let ret := (s1.core m).pc
  let vec := (s.rd (R.IRQ_MVBASE.ADDR m) 0 * 16 + 16 * n) % 2 ^ 32
  let s2 := ((s1.traceExc m 0x80 n ret vec).dropReservation m).modCore m (fun c =>
    ((c.setReg regIRA (ret / 16 * 16)).setEstat 11 1).setPc vec)
  s2.showCore m

/-- INTERRUPT_ENTRY (R364, R366). -/
def doInterruptEntry (m : Nat) (s : State) : State :=
  if s.takesIrq m then
    match s.latched m with
    | some n => s.enterIrq m n
    | none => s
  else s

/-- INTERRUPT_ENTRY (R366). -/
def execInterruptEntry (m : Fin 16) (s : State) : Host.Outcome State Fault Refusal := .next (doInterruptEntry m.val s)

/-- NAP_WAKE: an enabled interrupt or a halt request starts the clock; an interrupt is taken before any bundle (R340). -/
def doNapWake (m : Nat) (s : State) : State :=
  if s.rd R.MDC_STATUS.STATE m = 2 ∧ ((s.latched m).isSome ∨ (s.core m).haltReq ≠ 0) then
    doInterruptEntry m ((s.wr R.MDC_STATUS.STATE m 1).traceResume m)
  else s

/-- NAP_WAKE (R340). -/
def execNapWake (m : Fin 16) (s : State) : Host.Outcome State Fault Refusal := .next (doNapWake m.val s)

/-! ## Far accesses -/

/-- FAR_LOAD_RESPONSE: the response ends the core's stall once the bundle has all it waits for (R320). -/
def doFarLoadResponse (m tag status : Nat) (w : W128) (s : State) : State :=
  match (s.core m).wait.find? (fun r => r.tag == tag && r.resp.isNone) with
  | none => s
  | some r =>
    ((s.quayTake (12 + m) status r.addr).modCore m (fun c => { c with
      wait := c.wait.map (fun x => if x.tag = tag then { x with resp := some (status, w) } else x) })).completeFar m

/-- FAR_LOAD_RESPONSE (R320). -/
def execFarLoadResponse (m : Fin 16) (tag : Fin 64) (status : Fin 8) (w : W128) (s : State) :
    Host.Outcome State Fault Refusal :=
  .next (doFarLoadResponse m.val tag.val status.val w s)

/-- The response to a posted far store: an error sets STORE_ERR and records the address (R320); the last one ends a
FENCE's hold (R356). -/
def State.storeAnswered (s : State) (m tag status : Nat) : State :=
  match (s.core m).stores.find? (fun r => r.1 == tag) with
  | none => s
  | some r =>
    let s1 := (s.quayTake (12 + m) status r.2).modCore m (fun c =>
      let st := c.stores.filter (fun x => x.1 != tag)
      { c with stores := st, fenced := c.fenced && !st.isEmpty })
    (if status = 0 then s1 else s1.storeFailed m r.2 status).showCore m

/-- FAR_STORE_ERROR (R320). -/
def doFarStoreError (m tag status : Nat) (s : State) : State := s.storeAnswered m tag status

/-- FAR_STORE_ERROR (R320). -/
def execFarStoreError (m : Fin 16) (tag : Fin 64) (status : Fin 8) (s : State) : Host.Outcome State Fault Refusal :=
  .next (doFarStoreError m.val tag.val status.val s)

/-! ## NoC accesses to a scratchpad (R324) -/

/-- One word of a NoC access at a scratchpad: its data or an error status (R23, R24, R26, R400). -/
def State.scratchPerform (s : State) (m : Nat) (x : BankAcc) : Nat × List W128 × State :=
  let a := x.word * 16
  if x.op = 0 then
    if s.ecc clsScratch (scratchKey m a) = 0 then (0, [SMap.get 0 s.scratch (scratchKey m a)], s)
    else (3, [], (s.err .mdc m 9 x.who.node (scratchAddress m a)).logEvent 0x13 m openClass evSeal x.word x.who.node)
  else if x.op = 1 then
    let (ok, s1) := s.writeScratch m a x.be x.data x.who.node
    (if ok then 0 else 3, [], s1)
  else (4, [], s)

/-- SCRATCHPAD_NOC_ACCESS: the oldest access is served in a free bank cycle; a forced one that the core needs stalls the
core for a cycle (R324). -/
def doScratchpadNocAccess (m : Nat) (forced : Bool) (u : List Upset) (s : State) : State :=
  let s := s.upset u
  match (s.core m).queue with
  | [] => s
  | x :: rest =>
    let s0 := if forced then s.count R.MDC_BANK_WAIT.COUNT m 1 else s
    let (st, d, s1) := s0.scratchPerform m x
    let bad := if x.bad = 0 then st else x.bad
    let s2 := if x.more = 0 ∨ 16384 ≤ x.word + 1 then
        let fin := if x.more = 0 then bad else 1
        (s1.modCore m (fun c => { c with queue := rest })).quayAnswer (12 + m) x.who.node x.tag fin
          (if fin = 0 then x.got ++ d else [])
      else s1.modCore m (fun c => { c with queue := { x with
        word := x.word + 1, addr := x.addr + 16, data := x.rest.headD 0, rest := x.rest.tail, more := x.more - 1
        got := x.got ++ d, bad := bad } :: rest })
    s2.showCore m

/-- SCRATCHPAD_NOC_ACCESS (R324). -/
def execScratchpadNocAccess (m : Fin 16) (forced : Bool) (u : List Upset) (s : State) :
    Host.Outcome State Fault Refusal :=
  .next (doScratchpadNocAccess m.val forced u s)

/-! ## Reset (R341) -/

/-- Firmware zeroes a core's scratchpad when it first starts the core's clock after a power-on or system reset
(R325). -/
def State.readyScratch (s : State) (m : Nat) : State :=
  if s.scratchReady.contains m then s
  else
    { s with
      scratch := SMap.delRange s.scratch (16384 * m) (16384 * m + 16384)
      health := SMap.delRange s.health (healthKey clsScratch (16384 * m)) (healthKey clsScratch (16384 * m + 16384))
      scratchReady := insertAsc m s.scratchReady }

/-- A write of `MDC_CTRL` (R341): RESET = 1 resets at once, RESET = 0 releases a core whose clock is enabled. -/
def State.writeMdcCtrl (s : State) (a : Accessor) (m : Nat) (clk reset : Bool) : State :=
  if s.on R.MDC_CTRL.RESET m && !reset && !s.on R.MDC_CTRL.CLK_EN m then
    (s.errReg a .mdc m 0x04 4).respond a true 0
  else
    let s1 := (if clk then s.readyScratch m else s).wr R.MDC_CTRL.CLK_EN m (b2n clk)
    if reset then (s1.resetCore m).respond a true 0
    else if s1.on R.MDC_CTRL.RESET m then
      (((s1.wr R.MDC_CTRL.RESET m 0).modCore m (fun c => c.setPc (s1.rd R.MDC_BOOT_ADDR.ADDR m * 16))).wr
        R.MDC_STATUS.STATE m 1).respond a true 0
    else s1.respond a true 0

/-- CORE_RESET (R341). -/
def doCoreReset (a : Accessor) (m : Nat) (clk : Bool) (s : State) : State := s.writeMdcCtrl a m clk true

/-- CORE_RESET_RELEASE (R341). -/
def doCoreResetRelease (a : Accessor) (m : Nat) (clk : Bool) (s : State) : State := s.writeMdcCtrl a m clk false

/-! ## The watchdog (R342 to R344) -/

/-- The watchdog reloads its period and forgets a first expiry. -/
def State.reloadWdt (s : State) (m : Nat) : State :=
  (s.wr R.MDC_WDT_COUNT.US m (s.rd R.MDC_WDT_PERIOD.US m)).modCore m (fun c => { c with warned := false })

/-- WDT_KICK (R342, R343). -/
def doWdtKick (a : Accessor) (m : Nat) (v : W32) (s : State) : State :=
  if bitsOf v.toNat 0 16 = 0xA5C3 then (s.reloadWdt m).respond a true 0
  else (s.errReg a .mdc m 0x50 4).respond a true 0

/-- WDT_EXPIRY: a warning first, a reset on a second expiry without a kick between (R343); it does not count in reset
(R342) or while the debugger halts the core (R344). -/
def doWdtExpiry (m : Nat) (s : State) : State :=
  if !s.on R.MDC_WDT_CTRL.EN m || s.on R.MDC_CTRL.RESET m || s.rd R.MDC_STATUS.STATE m == 3 then s
  else if (s.core m).warned then
    (((s.raise .mdc m 1).logEvent 0x13 m 1 evCore 0 m)).resetCore m
  else
    ((s.wr R.MDC_WDT_COUNT.US m (s.rd R.MDC_WDT_PERIOD.US m)).modCore m (fun c => { c with warned := true })).raise .mdc m 0

/-- WDT_EXPIRY (R343). -/
def execWdtExpiry (m : Fin 16) (s : State) : Host.Outcome State Fault Refusal := .next (doWdtExpiry m.val s)

/-! ## Halting a core (R486 to R490) -/

/-- CORE_HALT (R486). -/
def doCoreHalt (a : Accessor) (m : Nat) (s : State) : State := (s.requestHalt m 1).respond a true 0

/-- CORE_HALT_ENTRY: at an open boundary with a request or a matching breakpoint the core drains and halts (R486,
R487). -/
def doCoreHaltEntry (m : Nat) (s : State) : State :=
  if !s.coreReady m then s
  else
    let s1 := if (s.core m).openBoundary then s.breakCheck m else s
    if !s1.haltsNow m then s1
    else
      let cause := (s1.core m).haltReq
      let s2 := (s1.dropReservation m).modCore m (fun c => { c.drain with haltReq := 0, noHalt := false })
      let s3 := ((((s2.traceHalt m).wr R.MDC_STATUS.STATE m 3).wr (R.DBG_C_STATUS.HALTED m) 0 1).wr
        (R.DBG_C_STATUS.CAUSE m) 0 cause).wr (R.DBG_C_STATUS.PENDING m) 0 0
      ((s3.raise .dbg 0 2).showCore m).checkEmuHalted

/-- CORE_HALT_ENTRY (R486). -/
def execCoreHaltEntry (m : Fin 16) (s : State) : Host.Outcome State Fault Refusal := .next (doCoreHaltEntry m.val s)

/-- A halted core runs again from its PC: it takes no halt before one bundle has issued (R488), the watchdog reloads
(R344) and the trace resumes with SYNC (R502). -/
def State.resumeCore (s : State) (m : Nat) : State :=
  let s1 := (s.wr R.MDC_STATUS.STATE m 1).wr (R.DBG_C_STATUS.HALTED m) 0 0
  ((((s1.modCore m (fun c => { c with haltReq := 0, noHalt := true })).reloadWdt m).raise .mdc m 2).traceResume m)

/-- Whether RESUME and STEP are refused (R488). -/
def State.resumeRefused (s : State) (m : Nat) : Bool :=
  !s.on (R.DBG_C_STATUS.HALTED m) 0 ||
    (s.rd (R.DBG_C_STATUS.CAUSE m) 0 == 4 && s.rd R.DBG_STATUS.EMU 0 != 0)

/-- CORE_RESUME (R488). -/
def doCoreResume (a : Accessor) (m : Nat) (s : State) : State :=
  if s.resumeRefused m then (s.errReg a .dbg 0 (0x100 + 0x40 * m) 5).respond a true 0
  else (s.resumeCore m).respond a true 0

/-- CORE_STEP: the core runs to the next open boundary and halts there with CAUSE 3 (R488). -/
def doCoreStep (a : Accessor) (m : Nat) (s : State) : State :=
  if s.resumeRefused m then (s.errReg a .dbg 0 (0x100 + 0x40 * m) 5).respond a true 0
  else
    (((s.resumeCore m).modCore m (fun c => { c with haltReq := 3 })).wr (R.DBG_C_STATUS.PENDING m) 0 1).respond a true 0

/-- Whether a register number and part are listed (R489). -/
def debugListed (r part : Nat) : Bool :=
  (decide (r < 72) && part == 0) || (decide (32 ≤ r) && decide (r < 40) && decide (part < 3))

/-- The word a halted core's selected register shows (R489). -/
def State.debugRegister (s : State) (m : Nat) : W128 :=
  let r := s.rd (R.DBG_C_REGSEL.REG m) 0
  BitVec.ofNat 128 (bitsOf ((s.core m).reg r) (128 * s.rd (R.DBG_C_REGSEL.PART m) 0) 128)

/-- A write of a halted core's register (R489). -/
def Core.debugWrite (c : Core) (r part : Nat) (v : W128) : Core :=
  let w := bitsOf v.toNat 0 32
  if r < 32 then c.setReg r v.toNat
  else if r < 40 then
    let x := setBits (c.reg r) (128 * part) 128 v.toNat
    (c.setReg r x).setReg (r + 40) x
  else if r < 64 then c.setReg r w
  else if r = 64 then ({ c with branch := none, rep := none } : Core).setPc w
  else
    match crValue (r - 65) w with
    | some x => c.setReg r x
    | none => c

/-- CORE_REGISTER_WRITE: the write of `DBG_Cm_REGDATA3` applies the staged words and itself to the selected register of a
halted core (R15, R489). -/
def doCoreRegisterWrite (a : Accessor) (m : Nat) (v : W32) (s : State) : State :=
  let off := 0x110 + 0x40 * m
  let r := s.rd (R.DBG_C_REGSEL.REG m) 0
  let part := s.rd (R.DBG_C_REGSEL.PART m) 0
  if !s.on (R.DBG_C_STATUS.HALTED m) 0 || !debugListed r part then (s.errReg a .dbg 0 (off + 12) 4).respond a true 0
  else
    let x := (s.staged a .dbg 0 off).apply (s.debugRegister m) v
    ((s.setStaged a .dbg 0 off {}).modCore m (fun c => c.debugWrite r part x)).respond a true 0

end Sys2Proof.Machine
end

