-- ==== Sys2Proof/Machine/MemPorts.lean ====
section
/-! DEFINITION. Machine/MemPorts.lean: the memories that answer a NoC access within it: the control-core memories, the boot ROM
and the logbook's window (R26, R27, R37, R542); and what a block with its own port reads and writes in scratchpads and
control-core memories (R399, R443). -/

namespace Sys2Proof.Machine
open Sys2Proof

/-! ## Control-core memories (R23, R26, R542) -/

/-- A word of the control-core memories; one that nothing has written is a free value (R542). -/
def State.controlWord (s : State) (key : Nat) : W128 × State :=
  match s.control.mem.find? (fun e => e.1 == key) with
  | some e => (e.2, s)
  | none => s.free

/-- A control-core memory refuses a word whose seal fails, and records it on the HST_ page (R24). -/
def State.controlSeal (s : State) (key node : Nat) : State :=
  (s.err .hst 0 9 node (0x10000000 + key * 16)).logEvent 0x03 0 openClass evSeal key node

/-- Read a word of the control-core memories by core × 32,768 + word: STATUS and data. -/
def State.controlRead (s : State) (key node : Nat) : Nat × W128 × State :=
  if s.ecc clsControl key = 0 then
    let (w, s1) := s.controlWord key
    (0, w, s1)
  else (3, 0, s.controlSeal key node)

/-- Write a word of the control-core memories, whole or merged (R26): STATUS. -/
def State.controlWrite (s : State) (key be : Nat) (v : W128) (node : Nat) : Nat × State :=
  if be ≠ 65535 ∧ s.ecc clsControl key ≠ 0 then (3, s.controlSeal key node)
  else
    let (w, s1) := if be = 65535 then (v, s) else s.controlWord key
    (0, { s1 with control := { s1.control with mem := SMap.put s1.control.mem key (mergeBytes w v be 16) } }.setEcc
      clsControl key 0)

/-! ## A port of a block on scratchpads and control-core memories -/

/-- What stands in the way of an access from a node: no route, a dead quay, a sleeping block, or an unmapped address
(R28, R29, R401, R403); any other region answers a block that is no berth owner with an error (R443). -/
def State.portCode (s : State) (src addr : Nat) : Nat :=
  match memNode addr with
  | none => 1
  | some d =>
    if src != d && !s.routeOk src d then 1
    else if src != d && (s.quayIsDead src || s.quayIsDead d) then 6
    else if 12 ≤ d ∧ d < 28 then (if s.awake.contains (blockKey .mdc (d - 12)) then 0 else 2)
    else if 8 ≤ d ∧ d < 12 then 0
    else 4

/-- The word index of an address in its core's memory, with the core. -/
def scratchAt (addr : Nat) : Nat × Nat := ((offsetIn 0x20000000 addr) / 0x40000, (offsetIn 0x20000000 addr) % 0x40000)

/-- The access of a block's port to one word of a scratchpad. -/
def portAccess (src op addr be : Nat) (v : W128) : BankAcc :=
  { who := ⟨0, 0, src, false⟩, op := op, win := 0, word := (scratchAt addr).2 / 16, be := be, data := v, tag := 0, addr := addr }

/-- A block reads a 128-bit word through its quay: STATUS and data. -/
def State.portRead (s : State) (src addr : Nat) : Nat × W128 × State :=
  match s.portCode src addr with
  | 0 =>
    if addr < 0x20000000 then s.controlRead ((offsetIn 0x10000000 addr) / 16) src
    else
      let (st, d, s1) := s.scratchPerform (scratchAt addr).1 (portAccess src 0 addr 65535 0)
      (st, d.headD 0, s1.quayStatus src st addr)
  | c => (c, 0, s.quayStatus src c addr)

/-- A block writes bytes of a 128-bit word through its quay: STATUS. -/
def State.portWrite (s : State) (src addr be : Nat) (v : W128) : Nat × State :=
  match s.portCode src addr with
  | 0 =>
    if addr < 0x20000000 then s.controlWrite ((offsetIn 0x10000000 addr) / 16) be v src
    else
      let (st, _, s1) := s.scratchPerform (scratchAt addr).1 (portAccess src 1 addr be v)
      (st, s1.quayStatus src st addr)
  | c => (c, s.quayStatus src c addr)

end Sys2Proof.Machine
end

