-- ==== Sys2Proof/Machine/Ethernet.lean ====
section
/-! DEFINITION. Machine/Ethernet.lean: the Ethernet ports: links, received frames and the receive rings, the transmit rings
and sent frames, stamps and the frames of gPTP (R441 to R448). -/

namespace Sys2Proof.Machine
open Sys2Proof

/-- Byte address of the descriptor at a ring's position (R443). -/
def State.ethSlot (s : State) (base pos : Fld) : Nat := s.rd base 0 * 256 + s.rd pos 0 * 32

/-- The ring position after one descriptor. -/
def State.ethNext (s : State) (size pos : Fld) : State := s.wr pos 0 ((s.rd pos 0 + 1) % 2 ^ s.rd size 0)

/-- ADDR, LEN, OWN and STAMP of a descriptor's first word (R443). -/
def dscAddr (w : W128) : Nat := bitsOf w.toNat 0 40
/-- LEN. -/
def dscLen (w : W128) : Nat := bitsOf w.toNat 40 14
/-- OWN. -/
def dscOwn (w : W128) : Bool := bitOf w.toNat 54 == 1
/-- STAMP. -/
def dscStamp (w : W128) : Bool := bitOf w.toNat 55 == 1

/-- A descriptor's first word as the MAC returns it: OWN = 0 (R443). -/
def dscWord (addr len : Nat) (stamp : Bool) (status : Nat) : W128 :=
  BitVec.ofNat 128 (addr + 2 ^ 40 * len + 2 ^ 55 * b2n stamp + 2 ^ 56 * status)

/-- The descriptor STATUS of a NoC STATUS: a failed seal, or any other error response (R443). -/
def dscStatus (st : Nat) : Nat := if st = 0 then 0 else if st = 3 then 2 else 4

/-- The time base with a signed number of picoseconds added, as a stamp (R444); below the time base's zero it is a free
value. -/
def State.ethStamp (s : State) (ps : Int) : W128 × State :=
  let t := (s.now : Int) + 65536 * ps / 1000
  if 0 ≤ t then (timeWord t.toNat, s) else s.free

/-- The MAC checks a word it reads (R23, R24). -/
def State.ethSeal (s : State) (n addr st : Nat) : State :=
  if st = 3 then (s.err .eth 0 9 63 addr).logEvent 0x0A n openClass evSeal addr n else s

/-- Whether a frame is one of gPTP: EtherType 0x88F7, untagged or under one 802.1Q tag (R445). -/
def isGptp (b : List Byte) : Bool :=
  let slot (i : Nat) : Nat := ((b[i]?).getD 0).toNat
  (slot 12 == 0x88 && slot 13 == 0xF7 && decide (14 ≤ b.length)) ||
    (slot 12 == 0x81 && slot 13 == 0x00 && slot 16 == 0x88 && slot 17 == 0xF7 && decide (18 ≤ b.length))

/-- Whether the firmware runs gPTP on a port (R445). -/
def State.gptpOn (s : State) (n : Nat) : Bool :=
  s.on R.TIM_CTRL.FW_PTP 0 && s.rd (R.ETH_P_CTRL.PTP_ROLE n) 0 != 3 && s.control.runs.isSome

/-- Whether a port runs: its block is awake and EN is 1. -/
def State.ethRuns (s : State) (n : Nat) : Bool := s.awake.contains (blockKey .eth 0) && s.on (R.ETH_P_CTRL.EN n) 0

/-! ## Reception (R442, R443) -/

/-- A frame is dropped and counted (R443). -/
def State.ethDrop (s : State) (n : Nat) : State := (s.count (R.ETH_P_RX_DROPPED.COUNT n) 0 1).raiseEth n 3

/-- The 128-bit word of up to 16 bytes, first byte lowest. -/
def packBytes : List Byte → Nat
  | [] => 0
  | b :: r => b.toNat + 256 * packBytes r

/-- Write a frame's bytes from an address: the STATUS of the first write that fails. -/
def State.ethStore (s : State) (addr : Nat) (b : List Byte) : Nat → Nat × State
  | 0 => (0, s)
  | k + 1 =>
    if b.isEmpty then (0, s)
    else
      let chunk := b.take 16
      match s.portWrite 35 addr (2 ^ chunk.length - 1) (BitVec.ofNat 128 (packBytes chunk)) with
      | (0, s1) => s1.ethStore (addr + 16) (b.drop 16) k
      | (st, s1) => (st, s1)

/-- A receive descriptor is returned: word 1, then word 0 (R443). -/
def State.ethReturnRx (s : State) (n slot : Nat) (w0 stamp : W128) : State :=
  let (_, s1) := s.portWrite 35 (slot + 16) 65535 stamp
  let (_, s2) := s1.portWrite 35 slot 65535 w0
  (s2.ethNext (R.ETH_P_RX_CFG.SIZE_LOG2 n) (R.ETH_P_RX_CFG.POS n)).raiseEth n 1

/-- A good frame goes through the receive ring (R443). -/
def State.ethRing (s : State) (n : Nat) (b : List Byte) (stamp : W128) : State :=
  let slot := s.ethSlot (R.ETH_P_RX_BASE.BASE n) (R.ETH_P_RX_CFG.POS n)
  match s.portRead 35 slot with
  | (0, w, s1) =>
    if !dscOwn w then s1.ethDrop n
    else if dscAddr w % 16 ≠ 0 ∨ dscLen w = 0 then
      let (_, s2) := s1.portWrite 35 slot 65535 (dscWord (dscAddr w) (dscLen w) (dscStamp w) 5)
      ((s2.ethNext (R.ETH_P_RX_CFG.SIZE_LOG2 n) (R.ETH_P_RX_CFG.POS n)).raiseEth n 1).ethDrop n
    else
      let (st, s2) := s1.ethStore (dscAddr w) (b.take (dscLen w)) 1024
      let status := if st ≠ 0 then dscStatus st else if dscLen w < b.length then 1 else 0
      s2.ethReturnRx n slot (dscWord (dscAddr w) b.length true status) stamp
  | (st, _, s1) => (s1.ethSeal n slot st).ethDrop n

/-- ETH_FRAME_RECEIVE: a frame without its FCS, and whether the FCS was good (R442 to R445). -/
def doEthFrameReceive (n : Nat) (b : List Byte) (fcs : Bool) (us : List Upset) (s : State) : State :=
  let s := s.upset us
  if !s.ethRuns n then s
  else if !fcs then s.count (R.ETH_P_FCS_ERR.COUNT n) 0 1
  else if s.rd (R.ETH_P_CTRL.MAX_LEN n) 0 < b.length then s.ethDrop n
  else
    let s1 := s.count (R.ETH_P_RX_FRAMES.COUNT n) 0 1
    let (stamp, s2) := s1.ethStamp (-(signedOf 32 (s1.rd (R.ETH_P_INGRESS_PS.PS n) 0)))
    if s2.gptpOn n && isGptp b then s2.emit (.gptpFrame n b stamp) else s2.ethRing n b stamp

/-- ETH_FRAME_RECEIVE (R443). -/
def execEthFrameReceive (n : Fin 8) (bytes : List Byte) (fcs : Bool) (us : List Upset) (s : State) :
    Host.Outcome State Fault Refusal :=
  .next (doEthFrameReceive n.val bytes fcs us s)

/-! ## Transmission (R442, R443) -/

/-- A write to `ETH_Pn_TX_KICK` (R443, R448). -/
def doEthTxKick (a : Accessor) (n : Nat) (v : W32) (s : State) : State :=
  (if bitOf v.toNat 0 = 1 then { s with ethKicked := insertAsc n s.ethKicked } else s).respond a true 0

/-- The MAC stops sending until the next kick. -/
def State.ethRest (s : State) (n : Nat) : State := { s with ethKicked := s.ethKicked.filter (fun x => x != n) }

/-- Read the bytes of a frame to be sent: the STATUS of the first read that fails, and the bytes before it. -/
def State.ethFetch (s : State) (n addr len : Nat) : Nat → Nat × List Byte × State
  | 0 => (0, [], s)
  | k + 1 =>
    if len = 0 then (0, [], s)
    else
      match s.portRead 35 addr with
      | (0, w, s1) =>
        let here := (List.range (min 16 len)).map (fun i => BitVec.ofNat 8 (byteOf w i))
        let (st, rest, s2) := s1.ethFetch n (addr + 16) (len - 16) k
        (st, here ++ rest, s2)
      | (st, _, s1) => (st, [], s1.ethSeal n addr st)

/-- A transmit descriptor is written back (R443). -/
def State.ethReturnTx (s : State) (n slot : Nat) (w : W128) (status : Nat) : State :=
  let (_, s1) := s.portWrite 35 slot 65535 (dscWord (dscAddr w) (dscLen w) (dscStamp w) status)
  (s1.ethNext (R.ETH_P_TX_CFG.SIZE_LOG2 n) (R.ETH_P_TX_CFG.POS n)).raiseEth n 2

/-- A fetched frame is sent with its FCS, padded to 60 bytes, and stamped where the descriptor asks (R442, R444). -/
def State.ethSend (s : State) (n slot : Nat) (w : W128) (b : List Byte) : State :=
  let s1 := (s.emit (.ethFrame n b (max 60 b.length) true)).count (R.ETH_P_TX_FRAMES.COUNT n) 0 1
  let s2 :=
    if dscStamp w then
      let (stamp, t) := s1.ethStamp (signedOf 32 (s1.rd (R.ETH_P_EGRESS_PS.PS n) 0))
      (t.portWrite 35 (slot + 16) 65535 stamp).2
    else s1
  s2.ethReturnTx n slot w 0

/-- The descriptor at the transmit ring's position (R443, R445). -/
def State.ethTransmit (s : State) (n : Nat) : State :=
  let slot := s.ethSlot (R.ETH_P_TX_BASE.BASE n) (R.ETH_P_TX_CFG.POS n)
  match s.portRead 35 slot with
  | (0, w, s1) =>
    if !dscOwn w then s1.ethRest n
    else if dscAddr w % 16 ≠ 0 ∨ dscLen w = 0 ∨ s1.rd (R.ETH_P_CTRL.MAX_LEN n) 0 < dscLen w then
      (s1.count (R.ETH_P_TX_BAD.COUNT n) 0 1).ethReturnTx n slot w 5
    else
      match s1.ethFetch n (dscAddr w) (dscLen w) 1024 with
      | (0, b, s2) =>
        if s2.gptpOn n && isGptp b then s2.ethReturnTx n slot w 3 else s2.ethSend n slot w b
      | (st, b, s2) =>
        ((s2.emit (.ethFrame n b (max 60 b.length) false)).count (R.ETH_P_TX_BAD.COUNT n) 0 1).ethReturnTx n slot w
          (dscStatus st)
  | (st, _, s1) => (s1.ethSeal n slot st).ethRest n

/-- ETH_FRAME_TRANSMIT (R443): after a kick, the descriptor at the position is taken. -/
def doEthFrameTransmit (n : Nat) (us : List Upset) (s : State) : State :=
  let s := s.upset us
  if s.ethRuns n && s.ethKicked.contains n then s.ethTransmit n else s

/-- ETH_FRAME_TRANSMIT (R443). -/
def execEthFrameTransmit (n : Fin 8) (us : List Upset) (s : State) : Host.Outcome State Fault Refusal :=
  .next (doEthFrameTransmit n.val us s)

/-! ## Links (R441, R448) -/

/-- ETH_LINK_CHANGE: the link of a running port goes up or down; auto-negotiation belongs to 1000BASE-X (R441). -/
def doEthLinkChange (n : Nat) (up an : Bool) (s : State) : State :=
  if !s.ethRuns n then s
  else
    let old := s.on (R.ETH_P_STATUS.LINK n) 0
    let done := up && an && s.rd (R.ETH_P_CTRL.MODE n) 0 == 0 && s.on (R.ETH_P_CTRL.AN_EN n) 0
    let s1 := (s.wr (R.ETH_P_STATUS.LINK n) 0 (b2n up)).wr (R.ETH_P_STATUS.AN_DONE n) 0 (b2n done)
    if old == up then s1 else s1.raiseEth n 0

/-- ETH_LINK_CHANGE (R448). -/
def execEthLinkChange (n : Fin 8) (up an : Bool) (s : State) : Host.Outcome State Fault Refusal :=
  .next (doEthLinkChange n.val up an s)

/-- A port that does not run has no link (R441, R448; DEDUCED, log entry 165). -/
def State.ethStop (s : State) (n : Nat) : State :=
  let s1 := (s.wr (R.ETH_P_STATUS.LINK n) 0 0).wr (R.ETH_P_STATUS.AN_DONE n) 0 0
  if s.on (R.ETH_P_STATUS.LINK n) 0 then s1.raiseEth n 0 else s1

/-! ## Registers (R448) -/

/-- PORTS of `ETH_INT_STATUS`: the lines of the ports' sources (R448). -/
def State.ethPorts (s : State) : Nat :=
  (List.range 8).foldl (fun v n => v + 2 ^ n * b2n (s.ethLine n)) 0

/-- A write to a register of port n at its offset: MODE 3, a MAX_LEN or a ring size out of range, and a ring's size
while the port runs are refused (R448, R513); a write that clears or enables interrupts acts on the port's source. -/
def State.ethWrite (s : State) (a : Accessor) (n o v : Nat) : State :=
  let off := 0x100 + 0x80 * n + o
  let bad :=
    (o == 0x00 && (bitsOf v 1 2 == 3 || decide (bitsOf v 16 14 < 64) || decide (9600 < bitsOf v 16 14))) ||
    ((o == 0x1C || o == 0x24) && (s.on (R.ETH_P_CTRL.EN n) 0 || decide (bitsOf v 0 4 < 2) || decide (10 < bitsOf v 0 4)))
  if bad then s.errReg a .eth 0 off 4
  else if o = 0x08 then (s.plainWrite a .eth 0 off v).rearmSource (164 + n)
  else if o = 0x0C then
    let s1 := s.plainWrite a .eth 0 off v
    let now := s1.readFields ((fieldsAt .eth off).getD []) 0
    let old := s.readFields ((fieldsAt .eth off).getD []) 0
    let st := s1.readFields ((fieldsAt .eth (off - 4)).getD []) 0
    if (st &&& (now - (now &&& old))) != 0 then s1.irqEvent (164 + n) else s1
  else if o = 0x00 then
    let s1 := (s.plainWrite a .eth 0 off v).wr R.PWR_CLOCKS.ETH_PLL 0 (setBit (s.rd R.PWR_CLOCKS.ETH_PLL 0) n (bitOf v 0))
    if bitOf v 0 = 0 then s1.ethStop n else s1
  else s.plainWrite a .eth 0 off v

end Sys2Proof.Machine
end

