-- ==== Sys2Proof/Machine/TraceOut.lean ====
section
/-! DEFINITION. Machine/TraceOut.lean: the framer, its sinks and the registers of the TRC_ page (R503, R504, R506). -/

namespace Sys2Proof.Machine
open Sys2Proof

/-- Change what the trace ports keep. -/
def State.modFramer (s : State) (f : TracePort → TracePort) : State := { s with trace := f s.trace }

/-! ## Enabling (R498, R504, R506) -/

/-- The least DIV of a sink (R504); the internal buffer has none. -/
def leastDiv (sink : Nat) : Nat :=
  match sink with
  | 0 => 4
  | 1 => 9
  | _ => 0

/-- EN becomes 1: the timestamp starts, the first frame is a sync frame, and every core's first packet is SYNC (R498,
R501, R503). -/
def State.traceStart (s : State) : State :=
  let s1 := { s with traceFrom := s.coreTicks, trace := {} }
  let s2 := (List.range 16).foldl (fun (s : State) m => s.modTrace m (fun _ => {})) s1
  ((s2.wr R.TRC_STATUS.ACTIVE 0 1).wr R.TRC_STATUS.BUF_FULL 0 0).wr R.TRC_BUF_POS.FRAME 0 0

/-- A write to `TRC_CTRL` (R506): SINK may not change while EN is 1, may not be 3, and must allow DIV. -/
def doTraceControl (a : Accessor) (v : Nat) (s : State) : State :=
  let on := s.on R.TRC_CTRL.EN 0
  let sink := bitsOf v 1 2
  if sink = 3 ∨ (on ∧ sink ≠ s.rd R.TRC_CTRL.SINK 0) ∨ s.rd R.TRC_PORT.DIV 0 < leastDiv sink then
    s.refuseWrite a .trc 0 0x04 4
  else
    let s1 := ((s.wr R.TRC_CTRL.EN 0 (bitOf v 0)).wr R.TRC_CTRL.SINK 0 sink).wr R.TRC_CTRL.STOP_ON_FULL 0 (bitOf v 3)
    let s2 :=
      if bitOf v 0 = 1 then (if on then s1 else s1.traceStart)
      else s1.wr R.TRC_STATUS.ACTIVE 0 0
    s2.respond a true 0

/-- TRACE_ENABLE: a write of `TRC_CTRL` with EN = 1 (R498). -/
def doTraceEnable (a : Accessor) (v : W32) (s : State) : State := doTraceControl a (setBit v.toNat 0 1) s

/-- A write to `TRC_CORES`, `TRC_SYNC_PERIOD` or `TRC_PORT` (R504, R506). -/
def State.traceRegister (s : State) (a : Accessor) (off v : Nat) : State :=
  let on := s.on R.TRC_CTRL.EN 0
  let bad :=
    if off = 0x40 then on
    else if off = 0x44 then decide (bitsOf v 0 16 < 64)
    else on || bitsOf v 0 2 == 3 || decide (bitsOf v 2 6 < leastDiv (s.rd R.TRC_CTRL.SINK 0))
  if bad then s.errReg a .trc 0 off 4 else s.plainWrite a .trc 0 off v

/-! ## Frames (R503) -/

/-- A sync frame: header 0xFFFF, the other bytes 0xC3. -/
def syncFrame : List Nat := [0xFF, 0xFF] ++ List.replicate 18 0xC3

/-- A frame of a core's stream bytes, at most 18 of them. -/
def dataFrame (core fseq : Nat) (b : List Nat) : List Nat :=
  leBytes (core + b.length * 16 + fseq * 512) 2 ++ b ++ List.replicate (18 - b.length) 0

/-- The ring takes a frame (R504): the oldest unread one makes way; at the ring's end the framer may stop. -/
def State.ringFrame (s : State) (f : List Nat) : State :=
  let pos := s.rd R.TRC_BUF_POS.FRAME 0
  let s1 := (s.modFramer (fun t =>
    if t.ring.length < 1024 then { t with ring := t.ring ++ [f] }
    else { t with ring := t.ring.tail ++ [f], taken := 0 })).wr R.TRC_BUF_POS.FRAME 0 ((pos + 1) % 1024)
  if pos = 1023 ∧ s.on R.TRC_CTRL.STOP_ON_FULL 0 then
    (((s1.modFramer (fun t => { t with stopped := true })).wr R.TRC_STATUS.BUF_FULL 0 1).wr R.TRC_STATUS.ACTIVE 0
      0).raise .trc 0 1
  else s1

/-- A frame goes to the sink (R504). -/
def State.traceOut (s : State) (f : List Nat) : State :=
  let sink := s.rd R.TRC_CTRL.SINK 0
  if sink = 2 then s.ringFrame f else s.emit (.trace sink f)

/-- The next core whose FIFO holds data, from the one whose turn it is (R503). -/
def State.nextTraced (s : State) : Option Nat :=
  ((List.range 16).map (fun i => (s.trace.turn + i) % 16)).find? (fun m => !(s.core m).trace.fifo.isEmpty)

/-- TRACE_FRAME: the framer builds and sends its next frame: a sync frame first and then at least once in 4,096 frames,
otherwise the next core's bytes, or an idle frame (R503). -/
def doTraceFrame (s : State) : State :=
  if !s.on R.TRC_CTRL.EN 0 || s.trace.stopped then s
  else
    let sync := match s.trace.since with
      | none => true
      | some n => decide (4095 ≤ n)
    if sync then (s.modFramer (fun t => { t with since := some 0 })).traceOut syncFrame
    else
      let q := s.trace.fseq
      let bump (s : State) (turn : Nat) : State := s.modFramer (fun t =>
        { t with fseq := (t.fseq + 1) % 128, since := t.since.map (· + 1), turn := turn })
      match s.nextTraced with
      | none => (bump s s.trace.turn).traceOut (dataFrame 0 q [])
      | some m =>
        let b := (s.core m).trace.fifo.take 18
        let s1 := (bump s ((m + 1) % 16)).modTrace m (fun t => { t with fifo := t.fifo.drop 18 })
        (s1.traceRecover m).traceOut (dataFrame m q b)

/-- TRACE_FRAME (R503). -/
def execTraceFrame (s : State) : Host.Outcome State Fault Refusal := .next (doTraceFrame s)

/-! ## Reading the buffer (R484, R504) -/

/-- The next four bytes of the oldest unread frame; 0 where there is none. -/
def State.traceWord (s : State) : Nat :=
  match s.trace.ring with
  | [] => 0
  | f :: _ => ((f.drop s.trace.taken).take 4).foldr (fun b v => b + 256 * v) 0

/-- The four bytes are removed, and with the last of them the frame. -/
def TracePort.takeWord (t : TracePort) : TracePort :=
  if t.ring.isEmpty then t
  else if t.taken + 4 < 20 then { t with taken := t.taken + 4 }
  else { t with taken := 0, ring := t.ring.tail }

/-- A read of `TRC_BUF_DATA` (R506), which removes what it returns unless it is quiet (R484). -/
def doTraceBufferRead (a : Accessor) (s : State) : State :=
  (if s.quiet a then s else s.modFramer TracePort.takeWord).respond a true s.traceWord

end Sys2Proof.Machine
end

