-- ==== Sys2Proof/Machine/LogCtl.lean ====
section
/-! DEFINITION. Machine/LogCtl.lean: the logbook controller (R262 to R266, R270). -/

namespace Sys2Proof.Machine
open Sys2Proof

/-- Word k of an entry. -/
def State.logWord (s : State) (slot k : Nat) : Nat := (SMap.get 0 s.logbook (slot * 4 + k)).toNat

/-- SEQ of an entry. -/
def State.logSeq (s : State) (slot : Nat) : Nat := bitsOf (s.logWord slot 0) 0 32

/-- CLASS of an entry. -/
def State.logClass (s : State) (slot : Nat) : Nat := bitsOf (s.logWord slot 0) 110 2

/-- Whether an entry is valid: its four seals check and COMMIT equals NOT SEQ (R263). -/
def State.logValid (s : State) (slot : Nat) : Bool :=
  (List.range 4).all (fun k => decide (s.ecc clsLog (slot * 4 + k) < 2)) &&
    bitsOf (s.logWord slot 3) 96 32 + s.logSeq slot == 2 ^ 32 - 1

/-- Store an entry's four words with good seals. -/
def State.putEntry (s : State) (slot w0 w1 w2 w3 : Nat) : State :=
  let set (s : State) (k v : Nat) : State :=
    { s with logbook := SMap.set 0 s.logbook (slot * 4 + k) (BitVec.ofNat 128 v) }.setEcc clsLog (slot * 4 + k) 0
  set (set (set (set s 0 w0) 1 w1) 2 w2) 3 w3

/-- The slot of the next entry (R264): after the head; slot 0 of a logbook in which no valid entry was found. -/
def State.logNext (s : State) : Nat :=
  if s.log.hasHead then (s.rd R.LOG_HEAD.INDEX 0 + 1) % 65536 else 0

/-- The valid entries among the listed ones; an unlisted entry reads 0 and is invalid. -/
def State.validEntries (s : State) : List Nat :=
  ((s.logbook.map (fun e => e.1 / 4)).eraseDups).filter (fun i => s.logValid i)

/-- Among some entries the one with the lowest SEQ, or the highest (R264, R270). -/
def State.logExtreme (s : State) (high : Bool) (v : List Nat) : Nat :=
  v.foldl (fun a i => if (if high then s.logSeq a ≤ s.logSeq i else s.logSeq i ≤ s.logSeq a) then i else a) (v.headD 0)

/-- The head moves to a slot just written with a SEQ; the oldest valid entry and the lap follow (R262, R264, R270). -/
def State.logAdvance (s : State) (slot seq : Nat) : State :=
  let s1 := ({ s with log := { s.log with hasHead := true } }.wr R.LOG_HEAD.INDEX 0 slot).wr R.LOG_SEQ.SEQ 0 seq
  let s2 := if slot = 65535 then s1.wr R.LOG_STATUS.WRAPPED 0 1 else s1
  s2.wr R.LOG_OLDEST.INDEX 0 (s2.logExtreme false s2.validEntries)

/-- Before a valid CLASS 3 entry is overwritten, a copy of it with a new SEQ is written at the head; beyond 4,096
permanent records the oldest is no longer copied (R266). The copy takes the slot of its original. -/
def State.keepPermanent : Nat → State → State
  | 0, s => s
  | n + 1, s =>
    let slot := s.logNext
    if s.logValid slot && s.logClass slot == 3 then
      if 4096 < s.rd R.LOG_PERM.COUNT 0 then
        ({ s with records := s.records.tail }.wr R.LOG_PERM.COUNT 0 (s.rd R.LOG_PERM.COUNT 0 - 1)).raise .log 0 2
      else
        let seq := (s.rd R.LOG_SEQ.SEQ 0 + 1) % 2 ^ 32
        let w0 := setBits (s.logWord slot 0) 0 32 seq
        let w3 := setBits (s.logWord slot 3) 96 32 (2 ^ 32 - 1 - seq)
        State.keepPermanent n
          ((s.putEntry slot w0 (s.logWord slot 1) (s.logWord slot 2) w3).logAdvance slot seq)
    else s

/-- Word 0 of an entry (R262). -/
def entryWord0 (seq boot aon source inst cls code timeValid : Nat) : Nat :=
  seq % 2 ^ 32 + 2 ^ 32 * (boot % 2 ^ 16) + 2 ^ 48 * (aon % 2 ^ 48) + 2 ^ 96 * (source % 2 ^ 8) +
    2 ^ 104 * (inst % 2 ^ 6) + 2 ^ 110 * (cls % 4) + 2 ^ 112 * (code % 2 ^ 12) + 2 ^ 124 * (timeValid % 2)

/-- CLASS of an event: its own, or the free value where no rule gives one. -/
def eventClassOf (e : LogEvent) : Nat :=
  if e.cls = openClass then (Config.eventClass (offsetIn 4096 e.code)).toNat else e.cls

/-- CODE of an event: the host's, or the free value of its kind. -/
def eventCodeOf (e : LogEvent) : Nat := if e.code < 4096 then e.code else (Config.eventCode (offsetIn 4096 e.code)).toNat

/-- DATA_A of an event. -/
def eventAOf (e : LogEvent) : Nat := if e.source = 0xFF then e.d1 else (Config.eventDataA (offsetIn 4096 e.code) e.d1 e.d2).toNat

/-- DATA_B of an event. -/
def eventBOf (e : LogEvent) : Nat := if e.source = 0xFF then 0 else (Config.eventDataB (offsetIn 4096 e.code) e.d1 e.d2).toNat

/-- The key of SOURCE, INSTANCE and CODE (R265). -/
def eventKey (e : LogEvent) : Nat := 8192 * (e.source * 64 + e.inst) + e.code

/-- Write the entry of an event, with the events merged into it (R262, R263, R265, R266). An event of a lost supply has
no time (R267). -/
def State.writeEntry (s : State) (e : LogEvent) (rep : Nat) : State :=
  let s1 := State.keepPermanent 65536 s
  let slot := s1.logNext
  let seq := (s1.rd R.LOG_SEQ.SEQ 0 + 1) % 2 ^ 32
  let t := s.now / 65536
  let timed := !(e.source == 0x02 && e.code == 2)
  let w0 := entryWord0 seq (s.rd R.LOG_BOOT.COUNT 0) s.log.aon e.source e.inst (eventClassOf e) (eventCodeOf e)
    (b2n timed)
  let w1 := (if timed then t % 1000000000 + 2 ^ 32 * (t / 1000000000 % 2 ^ 64) else 0) + 2 ^ 96 * min rep 65535
  let w3 := eventBOf e + 2 ^ 96 * (2 ^ 32 - 1 - seq)
  let s2 := (s1.putEntry slot w0 w1 (eventAOf e) w3).logAdvance slot seq
  let s3 := if eventClassOf e = 3 then { s2 with records := s2.records ++ [e] }.count R.LOG_PERM.COUNT 0 1 else s2
  if eventClassOf e = 2 then s3.raise .log 0 0 else s3

/-- An event leaves the queue: merged into its key's next entry, dropped, or written (R265). -/
def State.logTake (s : State) (e : LogEvent) : State :=
  let key := SMap.get {} s.log.keys (eventKey e)
  let setKey (s : State) (k : LogKey) : State :=
    { s with log := { s.log with keys := SMap.set {} s.log.keys (eventKey e) k } }
  let sec := s.now / 65536 / 1000000000
  let written := if s.log.second = sec then s.log.inSecond else 0
  if key.seen && decide (key.last ≤ s.now) && decide (s.now < key.last + 65536 * 1000000) then
    setKey s { key with held := key.held + 1 }
  else if 16384 ≤ written then (s.count R.LOG_DROPPED.COUNT 0 1).raise .log 0 1
  else
    let s1 := setKey s { last := s.now, held := 0, seen := true }
    { s1 with log := { s1.log with second := sec, inSecond := written + 1 } }.writeEntry e key.held

/-- LOGBOOK_WRITE: the oldest waiting event is handled once the scan is complete (R263 to R266). -/
def doLogbookWrite (s : State) : State :=
  if s.on R.LOG_STATUS.SCAN_DONE 0 then
    match s.log.queue with
    | [] => s
    | e :: rest => { s with log := { s.log with queue := rest } }.logTake e
  else s

/-- LOGBOOK_WRITE (R263). -/
def execLogbookWrite (s : State) : Host.Outcome State Fault Refusal := .next (doLogbookWrite s)

/-- LOGBOOK_SCAN_DONE: in Service, the head, the oldest entry, the torn entries and the permanent records are found
(R264, R270). The ring has completed a lap when a valid entry stands beyond the head, or the head is the last slot. -/
def doLogbookScanDone (s : State) : State :=
  if s.on R.LOG_STATUS.SCAN_DONE 0 || decide (s.rd R.PWR_STATUS.DEV_STATE 0 < 2) then s
  else
    let v := s.validEntries
    let head := s.logExtreme true v
    let old := s.logExtreme false v
    let s0 := { s with log := { s.log with hasHead := !v.isEmpty } }
    let s1 := ((s0.wr R.LOG_HEAD.INDEX 0 head).wr R.LOG_OLDEST.INDEX 0 old).wr R.LOG_SEQ.SEQ 0
      (if v.isEmpty then 0 else s.logSeq head)
    let s2 := (s1.wrSat R.LOG_TORN.COUNT 0 (65536 - v.length)).wr R.LOG_PERM.COUNT 0
      (v.filter (fun i => s.logClass i == 3)).length
    (s2.wr R.LOG_STATUS.WRAPPED 0 (b2n (v.any (fun i => decide (head < i)) || v.contains 65535))).wr
      R.LOG_STATUS.SCAN_DONE 0 1

/-- LOGBOOK_SCAN_DONE (R264). -/
def execLogbookScanDone (s : State) : Host.Outcome State Fault Refusal := .next (doLogbookScanDone s)

/-- LOG_USER_CMD (R270). -/
def doLogUserCmd (a : Accessor) (v : W32) (s : State) : State :=
  let d := (s.rd128 R.LOG_USER.DATA0 R.LOG_USER.DATA1 R.LOG_USER.DATA2 R.LOG_USER.DATA3 0).toNat
  (s.logQueue ⟨0xFF, 0, 0, v.toNat % 4096, d, 0⟩).respond a true 0

end Sys2Proof.Machine
end

