-- ==== Sys2Proof/Machine/Firmware.lean ====
section
/-! DEFINITION. Machine/Firmware.lean: the firmware image (R375, R376), the mailbox and its commands (R377 to R380, R468,
R485), the firmware's start (R461), its heartbeat and watchdogs (R381, R382). -/

namespace Sys2Proof.Machine
open Sys2Proof

/-- Change the control complex's own data. -/
def State.modControl (s : State) (f : Control → Control) : State := { s with control := f s.control }

/-- FW_STATE (R381). -/
def State.fwState (s : State) : Nat := s.rd R.HST_MBX_STATUS.FW_STATE 0

/-! ## RESULT codes (R379) -/

/-- OK. -/
def resOk : Nat := 0
/-- UNKNOWN. -/
def resUnknown : Nat := 1
/-- ARG. -/
def resArg : Nat := 2
/-- STATE. -/
def resState : Nat := 3
/-- FAILED. -/
def resFailed : Nat := 4
/-- FORMAT. -/
def resFormat : Nat := 5
/-- SIGNATURE. -/
def resSignature : Nat := 6
/-- ROLLBACK. -/
def resRollback : Nat := 7
/-- FETCH. -/
def resFetch : Nat := 8

/-! ## The firmware image (R375, R376) -/

/-- Byte i of an image. -/
def imgByte (l : List W32) (i : Nat) : Nat := bitsOf ((l[i / 4]?).getD 0).toNat (8 * (i % 4)) 8

/-- The little-endian value of n bytes of an image from byte i. -/
def imgField (l : List W32) (i : Nat) : Nat → Nat
  | 0 => 0
  | n + 1 => imgByte l i + 256 * imgField l (i + 1) n

/-- Bytes i to i + n − 1 of an image are 0. -/
def imgZero (l : List W32) (i n : Nat) : Bool := (List.range n).all (fun k => imgByte l (i + k) == 0)

/-- PUBKEY: 97 bytes from byte 80 (R375). -/
def imgKey (l : List W32) : List Byte := (List.range 97).map (fun k => BitVec.ofNat 8 (imgByte l (80 + k)))

/-- BODY_LEN. -/
def imgBody (l : List W32) : Nat := imgField l 12 4

/-- BODY_OFFSET, LENGTH, DEST and ENTRY of segment k. -/
def imgSegment (l : List W32) (k : Nat) : Nat × Nat × Nat × Nat :=
  (imgField l (16 + 16 * k) 4, imgField l (20 + 16 * k) 4, imgField l (24 + 16 * k) 4, imgField l (28 + 16 * k) 4)

/-- Whether segment k lies in the body and in core k's memory (R375, R376). -/
def segmentOk (l : List W32) (k : Nat) : Bool :=
  let (off, len, dest, _) := imgSegment l k
  len % 16 == 0 && decide (len ≤ 0x80000) && decide (off + len ≤ imgBody l) && decide (dest + len ≤ 0x80000)

/-- Check 1 of R376: MAGIC, FORMAT, reserved bytes, BODY_LEN, segment bounds, and the length given with the command. -/
def imageFormatOk (l : List W32) (len : Nat) : Bool :=
  imgField l 0 4 == 0x46574756 && imgField l 4 2 == 1 && imgZero l 177 79 && imgZero l 352 160 &&
    imgBody l % 16 == 0 && decide (imgBody l ≤ 0x200000) && len == 512 + imgBody l &&
    (List.range 4).all (segmentOk l) && (imgSegment l 0).2.2.2 != 0xFFFFFFFF

/-- What the boot ROM keeps of an image. -/
def imageOf (l : List W32) : FwImage :=
  { version := imgField l 8 4, security := imgField l 6 2
    entries := (List.range 4).map (fun k => (imgSegment l k).2.2.2) }

/-- The boot ROM's checks in order (R376); `fetched`: the host reads completed. A header that could not be read is a
fetch failure. -/
def State.imageResult (s : State) (l : List W32) (len : Nat) (fetched : Bool) : Nat :=
  if decide (512 ≤ len) && decide (l.length < 128) then resFetch
  else if !imageFormatOk l len then resFormat
  else if !fetched || decide (4 * l.length < len) then resFetch
  else if !Config.keyOk (imgKey l) then resSignature
  else if !Config.signatureOk l then resSignature
  else if imgField l 6 2 < s.control.floor then resRollback
  else resOk

/-- Whether the segments have been copied when a check failed: the copy comes before check 4 (R376). -/
def imageCopied (l : List W32) (len : Nat) (fetched : Bool) : Bool :=
  !(decide (512 ≤ len) && decide (l.length < 128)) && imageFormatOk l len && fetched && !decide (4 * l.length < len) &&
    Config.keyOk (imgKey l)

/-- Write a byte of control core k's memory. -/
def Control.setByte (c : Control) (k i v : Nat) : Control :=
  let key := 32768 * k + i / 16
  { c with mem := SMap.put c.mem key (Machine.setByte (SMap.get 0 c.mem key) (i % 16) v) }

/-- Copy segment k of an image into core k's memory. -/
def Control.copySegment (c : Control) (l : List W32) (k : Nat) : Control :=
  let (off, len, dest, _) := imgSegment l k
  (List.range len).foldl (fun c i => c.setByte k (dest + i) (imgByte l (512 + off + i))) c

/-- The words of the copied segments are stored whole, each with its seal (R23, R24). -/
def State.sealSegments (s : State) (l : List W32) (copied : Bool) : State :=
  if copied then
    (List.range 4).foldl (fun (s : State) k =>
      let (_, len, dest, _) := imgSegment l k
      let first := healthKey clsControl (32768 * k + dest / 16)
      let last := healthKey clsControl (32768 * k + (dest + len + 15) / 16)
      { s with health := s.health.delRange first last }) s
  else s

/-- The segments are copied, and the image is kept where it is accepted (R376, R378). -/
def State.takeImage (s : State) (l : List W32) (len : Nat) (fetched : Bool) : State :=
  let r := s.imageResult l len fetched
  s.modControl (fun c =>
    let c1 := if imageCopied l len fetched then (List.range 4).foldl (fun c k => c.copySegment l k) c else c
    { c1 with good := if r = resOk then some (imageOf l) else none }) |>.sealSegments l (imageCopied l len fetched)

/-! ## The mailbox (R377) -/

/-- A command's RESULT and the RSP values it writes are known. -/
def State.mbxResult (s : State) (r : Nat) (rsp : List (Nat × Nat)) : State :=
  s.modControl (fun c => { c with cmd := c.cmd.map (fun m => { m with result := some r, rsp := rsp }) })

/-- A DOORBELL write with an opcode (R377): refused while BUSY is 1 and in FW_STATE 3 (R382), else BUSY is set, DONE
cleared, source 186 raised, and the command judged; `run` answers it where its FW_STATE accepts it (R378). -/
def State.doorbell (s : State) (a : Accessor) (op seq : Nat) (accepted : List Nat) (run : State → State) : State :=
  if s.on R.HST_MBX_STATUS.BUSY 0 || s.fwState == 3 then s.refuseWrite a .hst 0 0x40 4
  else
    let s1 := (s.wr R.HST_MBX_STATUS.BUSY 0 1).wr R.HST_MBX_STATUS.DONE 0 0
    let s2 := (s1.irqEvent 186).modControl (fun c => { c with cmd := some ⟨op, seq, none, []⟩ })
    (if accepted.contains s.fwState then run s2 else s2.mbxResult resUnknown []).respond a true 0

/-- `HST_MBX_ARGk`. -/
def State.arg (s : State) (k : Nat) : Nat := s.rd (R.HST_MBX_ARG.ARG k) 0

/-- GET_INFO (R378). -/
def doGetInfo (a : Accessor) (seq : Nat) (s : State) : State :=
  s.doorbell a 0x01 seq [0, 2] (fun s =>
    let v := match s.control.runs with
      | some i => if s.fwState = 2 then i.version else 0
      | none => 0
    s.mbxResult resOk [(0, v), (1, s.control.floor % 65536), (2, Config.bootVersion.toNat)])

/-- ECHO (R378). -/
def doEcho (a : Accessor) (seq : Nat) (s : State) : State :=
  s.doorbell a 0x02 seq [0, 2] (fun s => s.mbxResult resOk [(0, s.arg 0)])

/-! ## Blocks (R380, R459, R466, R508) -/

/-- Whether a TYPE and instance name a block (R508). -/
def blockExists (typ inst : Nat) : Bool :=
  match Page.ofType typ with
  | none => false
  | some .noc => decide (inst < 44)
  | some p => if p.channels = 0 then inst == 0 else decide (inst < p.channels)

/-- The key of a block in the list of blocks whose clocks run. -/
def blockOf (typ inst : Nat) : Nat :=
  match Page.ofType typ with
  | none => 0
  | some p => blockKey p inst

/-- Whether a partition in state Loaded or later satisfies a property. -/
def State.anyLoaded (s : State) (f : Nat → Bool) : Bool := (List.range 64).any (fun p => decide (2 ≤ s.pstate p) && f p)

/-- Whether a loaded partition, a berth or a running work item still uses a block, or it is of the minimum service set
(R33, R380, R466). -/
def State.blockUsed (s : State) (p : Page) (inst : Nat) : Bool :=
  match p with
  | .dev => true | .pwr => true | .hst => true | .log => true
  | .orc => (List.range 64).any (fun q => s.pstate q != 0 || (s.part q).ungating)
  | .prt => (List.range 64).any (fun q => s.pstate q != 0 || (s.part q).ungating)
  | .dmb => s.rd R.DMB_BERTH.KIND inst != 0 || s.on R.DMB_STATUS.HANDOVER inst
  | .mdc =>
    s.rd (R.HMS_CORE.DEPTH inst) 0 != 0 || s.on (R.HMS_CORE.DISPATCH inst) 0 ||
      (List.range 64).any (fun b => s.berthIs b 2 inst) ||
      s.anyLoaded (fun q => (s.window q).1 == inst && (s.window q).2.2 != 0)
  | .acq => (List.range 64).any (fun b => s.berthIs b 3 inst) || s.anyLoaded (fun q => !(s.imageProbes q inst).isEmpty)
  | .hms => s.rd R.HMS_COUNT_HI.RUNNING 0 + s.rd R.HMS_COUNT_HI.DISPATCHING 0 != 0 ||
      (List.range 64).any (fun b => s.berthIs b 5 0)
  | .tim => s.anyLoaded (fun q => s.rd R.PRT_CTRL.REL_SRC q == 1)
  | .cas => s.anyLoaded s.inUnit
  | .lne => s.anyLoaded s.inUnit
  | _ => false

/-- The step frequency a package runs at on its own: PROG_MHZ, or the lower of FREQ_MHZ and it while a throttle is
engaged (R471). -/
def State.ownMHz (s : State) : Nat :=
  if s.on R.PWR_STATUS.THROTTLED 0 then min (s.rd R.PWR_THROTTLE.FREQ_MHZ 0) s.progMHz else s.progMHz

/-- The step PLL starts or stops (R466, R469). -/
def State.stepPll (s : State) (on : Bool) : State :=
  (s.wr R.PWR_CLOCKS.STEP_PLL 0 (b2n on)).wr R.PWR_STEP.CUR_MHZ 0 (if on then s.ownMHz else 0)

/-- A block's clocks start, and its page is served (R380, R466). -/
def State.wakeBlock (s : State) (key : Nat) : State :=
  let s1 := { s with awake := insertAsc key s.awake }
  let s2 := if key = 0x1000 ∧ !s.awake.contains 0x1000 then s1.stepPll true else s1
  if key / 256 = 0x15 then s2.wr R.NOC_STATUS.ASLEEP (key % 256) 0 else s2

/-- A block's clocks stop, those that it alone uses with it: the step PLL, the lane PLLs of the Ethernet or the cascade ports
(R32). -/
def State.sleepBlock (s : State) (key : Nat) : State :=
  let s1 := { s with awake := s.awake.filter (fun k => k != key) }
  if key = 0x1000 then s1.stepPll false
  else if key = blockKey .eth 0 then s1.wr R.PWR_CLOCKS.ETH_PLL 0 0
  else if key = blockKey .cas 0 then s1.wr R.PWR_CLOCKS.CAS_LANE_PLL 0 0
  else s1

/-- BLOCK_ENABLE (R380). -/
def doBlockEnable (a : Accessor) (seq : Nat) (s : State) : State :=
  s.doorbell a 0x04 seq [2] (fun s =>
    let typ := bitsOf (s.arg 0) 0 8
    let inst := bitsOf (s.arg 0) 8 8
    if !blockExists typ inst then s.mbxResult resArg []
    else (s.wakeBlock (blockOf typ inst)).mbxResult resOk [])

/-- BLOCK_DISABLE (R380, R466). -/
def doBlockDisable (a : Accessor) (seq : Nat) (s : State) : State :=
  s.doorbell a 0x05 seq [2] (fun s =>
    let typ := bitsOf (s.arg 0) 0 8
    let inst := bitsOf (s.arg 0) 8 8
    if !blockExists typ inst then s.mbxResult resArg []
    else if s.blockUsed ((Page.ofType typ).getD .dev) inst then s.mbxResult resState []
    else (s.sleepBlock (blockOf typ inst)).mbxResult resOk [])

/-! ## The step frequency (R468) -/

/-- Whether a step frequency may be programmed: a multiple of 25 from 300 to 1,200 MHz. -/
def freqOk (f : Nat) : Bool := f % 25 == 0 && decide (300 ≤ f) && decide (f ≤ 1200)

/-- SET_STEP_FREQ (R468). -/
def doSetStepFreq (a : Accessor) (seq : Nat) (s : State) : State :=
  s.doorbell a 0x20 seq [2] (fun s =>
    let f := bitsOf (s.arg 0) 0 12
    if !freqOk f then s.mbxResult resArg []
    else if (List.range 64).any (fun p => s.pstate p == 3 || s.pstate p == 4 || s.pstate p == 6 || s.pstate p == 8) ||
        s.unitState != 0 || s.on R.PWR_STATUS.THROTTLED 0 then s.mbxResult resState []
    else
      let s1 := s.wr R.PWR_STEP.PROG_MHZ 0 f
      (if s1.on R.PWR_CLOCKS.STEP_PLL 0 then s1.wr R.PWR_STEP.CUR_MHZ 0 f else s1).mbxResult resOk [])

/-! ## Firmware download (R376, R378, R485) -/

/-- FW_LOAD: the image as the host reads bring it, from the address in ARG0 and ARG1, of the length in ARG2 (R376). -/
def doFwLoad (a : Accessor) (seq : Nat) (image : List W32) (ok : Bool) (s : State) : State :=
  s.doorbell a 0x10 seq [0] (fun s =>
    let len := s.arg 2
    let l := image.take ((len + 3) / 4)
    let s1 := (s.takeImage l len ok).mbxResult (s.imageResult l len ok) []
    if ok then s1 else s1.raise .hst 0 4)

/-- FW_START: with an accepted image, FW_STATE becomes 1; a floor below the image's SECURITY_VERSION is raised first by a
CLASS 3 entry (R376, R378). -/
def doFwStart (a : Accessor) (seq : Nat) (s : State) : State :=
  s.doorbell a 0x11 seq [0] (fun s =>
    match s.control.good with
    | none => s.mbxResult resState []
    | some i =>
      let s1 :=
        if s.control.floor < i.security then
          (s.modControl (fun c => { c with floor := i.security })).logEvent 0x20 0 3 evFloor i.security 0
        else s
      ((s1.wr R.HST_MBX_STATUS.FW_STATE 0 1).modControl (fun c => { c with runs := some i })).mbxResult resOk [])

/-- The boot ROM has the whole image of a FW_LOAD_DBG (R485). -/
def State.finishDbgLoad (s : State) (len : Nat) : State :=
  let l := s.control.dbgGot
  ((s.takeImage l len true).modControl (fun c => { c with dbgLen := none, dbgGot := [] })).mbxResult
    (s.imageResult l len true) []

/-- The boot ROM takes the FIFO's words until it has the image. -/
def State.takeFifo (s : State) : State :=
  match s.control.dbgLen with
  | none => s
  | some len =>
    let need := (len + 3) / 4 - s.control.dbgGot.length
    let s1 := s.modControl (fun c => { c with dbgGot := c.dbgGot ++ c.fifo.take need, fifo := c.fifo.drop need })
    if (len + 3) / 4 ≤ s1.control.dbgGot.length then s1.finishDbgLoad len else s1

/-- FW_LOAD_DBG (R485). -/
def doFwLoadDbg (a : Accessor) (seq : Nat) (s : State) : State :=
  s.doorbell a 0x40 seq [0] (fun s =>
    (s.modControl (fun c => { c with dbgLen := some (s.arg 0), dbgGot := [], good := none })).takeFifo)

/-- FW_FIFO_WRITE: refused while the FIFO holds 64 words (R485). -/
def doFwFifoWrite (a : Accessor) (v : W32) (s : State) : State :=
  if 64 ≤ s.control.fifo.length then s.refuseAccess a
  else ((s.modControl (fun c => { c with fifo := c.fifo ++ [v] })).takeFifo).respond a true 0

/-- FW_FIFO_TIMEOUT: the FIFO stayed empty for 100 ms before the image was complete (R485). -/
def doFwFifoTimeout (s : State) : State :=
  match s.control.dbgLen with
  | none => s
  | some _ => (s.modControl (fun c => { c with dbgLen := none, dbgGot := [] })).mbxResult resFetch []

/-- FW_FIFO_TIMEOUT (R485). -/
def execFwFifoTimeout (s : State) : Host.Outcome State Fault Refusal := .next (doFwFifoTimeout s)

/-! ## The firmware's start (R461) -/

/-- A row repair is put back: a spare that an earlier record gave the same row no longer stands for it. -/
def State.reapplyRepair (s : State) (b k row valid : Nat) : State :=
  let s1 := (List.range 16).foldl (fun s j =>
    if j ≠ k ∧ valid = 1 ∧ s.on (R.DMB_REPAIR.VALID j) b ∧ s.rd (R.DMB_REPAIR.ROW j) b = row then s.setRepair b j row 0
    else s) s
  s1.setRepair b k row valid

/-- The spare remaps, `DMB_REPAIR` entries and spare-bad bits of the CLASS 3 records are put back, oldest first (R267, R461). -/
def State.reapply (s : State) (e : LogEvent) : State :=
  let q := s.physBunch e.inst
  if e.code = 4096 + evRemap then
    (s.wr R.ORC_BERRY_REMAP.BERRY q e.d2).wr R.ORC_BERRY_REMAP.EN q 1
  else if e.code = 4096 + evRemapWrite then
    let unit := e.d1 % 256
    let en := e.d1 / 256
    if e.d2 % 2 = 1 then (s.wr R.ORC_BUNCH_REMAP.BUNCH 0 unit).wr R.ORC_BUNCH_REMAP.EN 0 en
    else (s.wr R.ORC_BERRY_REMAP.BERRY (e.d2 / 2) unit).wr R.ORC_BERRY_REMAP.EN (e.d2 / 2) en
  else if e.code = 4096 + evSpareBad then
    if e.d1 = 1 then s.wr R.ORC_SPARE_STATUS.BUNCH_SPARE_BAD 0 1 else s.wr R.ORC_SPARE_STATUS.BERRY_SPARE_BAD q 1
  else if e.code = 4096 + evRowRepair then s.reapplyRepair e.inst (e.d1 % 32) e.d2 (e.d1 / 32)
  else s

/-- Set a route that is not in use yet; the last hop ejects (R400, R401, R409). -/
def State.setRoute (s : State) (src d : Nat) : State :=
  if s.on (R.NOC_ROUTE.VALID d) src then s
  else
    (s.wr (R.NOC_ROUTE.ROUTE d) src (setBits (Config.route src d).toNat 27 3 7)).wr (R.NOC_ROUTE.VALID d) src 1

/-- Set every route among nodes. -/
def State.setRoutes (s : State) (nodes : List Nat) : State :=
  nodes.foldl (fun s a => nodes.foldl (fun s d => s.setRoute a d) s) s

/-- The blocks that the firmware's start wakes: the control domain of R30 and the DBG_ page (R459, R509). -/
def firmwareBlocks : List Nat :=
  (List.range 64).map (fun b => blockKey .dmb b) ++ (List.range 44).map (fun d => blockKey .noc d) ++
    [blockKey .tim 0, blockKey .irq 0, blockKey .hms 0, blockKey .res 0, blockKey .dbg 0]

/-- Every design-memory word is written as the zero word (R461, R542). -/
def State.zeroBanks (s : State) : State :=
  { s with
    dmem := []
    health := s.health.filter (fun e => e.1 / 2 ^ 40 != clsBank)
    control := { s.control with zeroDue := false } }

/-- What the firmware does before FW_STATE becomes 2, and the entry to Ready (R461, R31, R409); every canary is written with its
pattern (R260). -/
def State.firmwareUp (s : State) : State :=
  let s1 := if s.control.lost then (s.records.foldl (fun s e => s.reapply e) s).spareCounts else s
  let s2 := if s1.control.zeroDue then s1.zeroBanks else s1
  let s3 := s2.setRoutes (List.range 44)
  let s4 := firmwareBlocks.foldl (fun s k => s.wakeBlock k) { s3 with nocLocked := true, canary := [] }
  let s5 := (s4.modControl (fun c => { c with lost := false })).wr R.HST_MBX_STATUS.FW_STATE 0 2
  (if s5.rd R.PWR_STATUS.DEV_STATE 0 = 2 then s5.wr R.PWR_STATUS.DEV_STATE 0 3 else s5).devState

/-- MAILBOX_COMPLETION: the RSP registers, then RESULT, SEQ, DONE and BUSY in one update, then the completion bit
(R377); FW_START completes when FW_STATE becomes 2 (R378). -/
def doMailboxCompletion (s : State) : State :=
  match s.control.cmd with
  | none => s
  | some c =>
    match c.result with
    | none => s
    | some r =>
      let s0 := if c.op = 0x11 ∧ s.fwState = 1 then s.firmwareUp else s
      let s1 := c.rsp.foldl (fun s e => s.wr (R.HST_MBX_RSP.RSP e.1) 0 e.2) s0
      let s2 := ((s1.wr R.HST_MBX_STATUS.RESULT 0 r).wr R.HST_MBX_STATUS.SEQ 0 c.seq).wr R.HST_MBX_STATUS.DONE 0 1
      ((s2.wr R.HST_MBX_STATUS.BUSY 0 0).modControl (fun c => { c with cmd := none })).raise .hst 0 0

/-- MAILBOX_COMPLETION (R377). -/
def execMailboxCompletion (s : State) : Host.Outcome State Fault Refusal := .next (doMailboxCompletion s)

/-- HEARTBEAT: once every millisecond while FW_STATE is 2 (R381). -/
def doHeartbeat (s : State) : State :=
  if s.fwState = 2 then s.wr R.HST_MBX_HEARTBEAT.COUNT 0 (s.rd R.HST_MBX_HEARTBEAT.COUNT 0 + 1) else s

/-- HEARTBEAT (R381). -/
def execHeartbeat (s : State) : Host.Outcome State Fault Refusal := .next (doHeartbeat s)

/-- CONTROL_WDT_EXPIRY: a running control core's watchdog expires (R382). -/
def doControlWdtExpiry (k : Nat) (s : State) : State := if s.controlRuns k then s.enterFault else s

/-- CONTROL_WDT_EXPIRY (R382). -/
def execControlWdtExpiry (k : Fin 4) (s : State) : Host.Outcome State Fault Refusal :=
  .next (doControlWdtExpiry k.val s)

end Sys2Proof.Machine
end

