-- ==== Sys2Proof/Machine/Thermal.lean ====
section
/-! DEFINITION. Machine/Thermal.lean: the temperature readings, the throttle, the step-clock frequency and its orders in a
cascade (R113, R197, R468 to R472), and PLLs that lose lock (R474). -/

namespace Sys2Proof.Machine
open Sys2Proof

/-! ## The step frequency (R469) -/

/-- A new step frequency is decided; it takes effect at a tick (R469). -/
def State.retarget (s : State) : State := { s with freqTarget := some s.ownMHz }

/-- The throttle's share begins for every partition in Running, or ends for every partition (R110, R113). -/
def State.throttleEdge (s : State) (low : Bool) : State :=
  (List.range 64).foldl (fun (s : State) p =>
    if low then (if s.pstate p == 4 && !(s.part p).ledger.throttled then s.throttleBegin p else s)
    else s.throttleEnd p) s

/-- The step clock runs at a frequency from this tick (R469). -/
def State.setMHz (s : State) (f : Nat) : State :=
  if !s.on R.PWR_CLOCKS.STEP_PLL 0 then { s with freqTarget := none }
  else
    ({ s with freqTarget := none }.wr R.PWR_STEP.CUR_MHZ 0 f).throttleEdge (decide (f < s.progMHz))

/-- STEP_FREQ_CHANGE: a decided frequency takes effect; while emulation is halted no tick occurs (R469, R491). -/
def doStepFreqChange (s : State) : State :=
  match s.freqTarget with
  | none => s
  | some f => if s.emuStopped then s else s.setMHz f

/-- STEP_FREQ_CHANGE (R469). -/
def execStepFreqChange (s : State) : Host.Outcome State Fault Refusal := .next (doStepFreqChange s)

/-! ## Requests to the cascade master (R472) -/

/-- The frequency the master orders: the lowest that any package requests, or PROG_MHZ (R472). -/
def State.orderedMHz (s : State) : Nat := s.throttles.foldl (fun f e => min f e.2) s.progMHz

/-- A package's request reaches the master, which orders STEPFREQ (R472). -/
def State.takeRequest (s : State) (origin f : Nat) : State :=
  let s1 := { s with throttles := if f = 0 then SMap.del s.throttles origin else SMap.put s.throttles origin f }
  s1.issueOrder .stepfreq (s1.rd R.CAS_LEAD.TICKS 0) s1.orderedMHz

/-- The step frequency of this package is to change: by itself, or by request while the cascade unit is not idle
(R471, R472). -/
def State.askMHz (s : State) : State :=
  if s.rd R.CAS_STATUS.UNIT_STATE 0 = 0 then s.retarget
  else
    let f := if s.on R.PWR_STATUS.THROTTLED 0 then s.rd R.PWR_THROTTLE.FREQ_MHZ 0 else 0
    if s.isMaster then s.takeRequest (s.rd R.CAS_STATUS.ID 0) f else s.report .throttleReq f

/-- THROTTLE_REQ_REPORT (R195, R472). -/
def doThrottleReqReport (origin arg : Nat) (s : State) : State :=
  if s.isMaster then s.takeRequest origin arg else s.passReport .throttleReq origin arg

/-- THROTTLE_REQ_REPORT (R472). -/
def execThrottleReqReport (origin : Fin 64) (arg : W32) (s : State) : Host.Outcome State Fault Refusal :=
  .next (doThrottleReqReport origin.val arg.toNat s)

/-- STEPFREQ_ORDER: every package applies the order on its landing tick (R472). -/
def doStepfreqOrder (s : State) : State :=
  match s.landing .stepfreq with
  | none => s
  | some (f, s1) => s1.setMHz f

/-- STEPFREQ_ORDER (R472). -/
def execStepfreqOrder (s : State) : Host.Outcome State Fault Refusal := .next (doStepfreqOrder s)

/-! ## Readings and the throttle (R470, R471) -/

/-- The highest reading, signed in 1/16 °C, and the first sensor that gave it. -/
def hottest : List (BitVec 16) → Nat → Option (Int × Nat)
  | [], _ => none
  | t :: r, k =>
    match hottest r (k + 1) with
    | none => some (signedOf 16 t.toNat, k)
    | some (x, j) => if x ≤ signedOf 16 t.toNat then some (signedOf 16 t.toNat, k) else some (x, j)

/-- A throttle engages (R471). -/
def State.engage (s : State) : State :=
  (((({ s with coolFrom := none }.wr R.PWR_STATUS.THROTTLED 0 1).count R.PWR_THROTTLE_COUNT.COUNT 0 1).raise .pwr 0
    0)).askMHz

/-- A reading against the throttle's levels (R471). -/
def State.judgeReading (s : State) (x : Int) : State :=
  let on : Int := (s.rd R.PWR_THROTTLE.TEMP_ON 0 * 16 : Nat)
  let off : Int := on - (s.rd R.PWR_THROTTLE.HYST 0 * 16 : Nat)
  if s.on R.PWR_STATUS.THROTTLED 0 then
    if x ≤ off then { s with coolFrom := some (s.coolFrom.getD s.now) } else { s with coolFrom := none }
  else if s.on R.PWR_CTRL.THROTTLE_EN 0 && decide (on ≤ x) then s.engage
  else s

/-- TEMP_READING: the eight sensors are read, every 10 µs (R470). -/
def doTempReading (t : List (BitVec 16)) (s : State) : State :=
  match hottest (t.take 8) 0 with
  | none => s
  | some (x, k) =>
    if s.rd R.PWR_STATUS.DEV_STATE 0 < 2 then s
    else
      let s1 := (s.wr R.PWR_TEMP.TJ 0 (ofSigned 16 x)).wr R.PWR_TEMP.SENSOR 0 k
      let s2 := if s.tempFresh || decide (signedOf 16 (s.rd R.PWR_TEMP_MAX.TJ 0) < x) then
        { s1.wr R.PWR_TEMP_MAX.TJ 0 (ofSigned 16 x) with tempFresh := false } else s1
      s2.judgeReading x

/-- TEMP_READING (R470). -/
def execTempReading (t : List (BitVec 16)) (s : State) : Host.Outcome State Fault Refusal := .next (doTempReading t s)

/-- THROTTLE_RELEASE: every reading has stayed at or below TEMP_ON − HYST for 1 ms (R471). -/
def doThrottleRelease (s : State) : State :=
  if s.on R.PWR_STATUS.THROTTLED 0 && s.coolFrom.isSome then
    (({ s with coolFrom := none }.wr R.PWR_STATUS.THROTTLED 0 0).raise .pwr 0 1).askMHz
  else s

/-- THROTTLE_RELEASE (R471). -/
def execThrottleRelease (s : State) : Host.Outcome State Fault Refusal := .next (doThrottleRelease s)

/-- A write to `PWR_THROTTLE`: refused whole where any field is out of its range (R474); a new FREQ_MHZ changes the
frequency of a throttle that is engaged (R471). -/
def doThrottleWrite (a : Accessor) (v : Nat) (s : State) : State :=
  let on := bitsOf v 0 8
  let f := bitsOf v 16 12
  if on < 85 ∨ 105 < on ∨ bitsOf v 8 4 < 2 ∨ !freqOk f then s.refuseWrite a .pwr 0 0x4C 4
  else
    let s1 := ((s.wr R.PWR_THROTTLE.TEMP_ON 0 on).wr R.PWR_THROTTLE.HYST 0 (bitsOf v 8 4)).wr R.PWR_THROTTLE.FREQ_MHZ 0 f
    (if s.on R.PWR_STATUS.THROTTLED 0 && s.rd R.PWR_THROTTLE.FREQ_MHZ 0 != f then s1.askMHz else s1).respond a true 0

/-- The throttle's lost time on a core-clock cycle of `dt` in 1/65,536 ns (R113): for each partition in Running and in
no real stall. A partition that has come to Running takes part from here. -/
def State.throttleTick (s : State) (dt : Nat) : State :=
  let cur := s.curMHz
  if cur = 0 ∨ s.progMHz ≤ cur ∨ s.emuStopped then s
  else
    (List.range 64).foldl (fun (s : State) p =>
      if s.pstate p == 4 && (s.part p).ledger.realFrom.isNone then
        let s1 := if (s.part p).ledger.throttled then s else s.throttleBegin p
        s1.modPart p (fun x => { x with
          ledger := { x.ledger with lost := x.ledger.lost + dt * (s.progMHz - cur) } })
      else s) s

/-! ## PLLs (R474) -/

/-- PLL_UNLOCK: the PLL of a bit of `PWR_CLOCKS` loses lock. A running core, step, lane or PCIe PLL sets the interrupt;
the fabric PLLs have a command of their own (R474). -/
def doPllUnlock (b : Nat) (s : State) : State :=
  let word := s.readFields ((fieldsAt .pwr 0x5C).getD []) 0
  if b = 2 ∨ b = 3 ∨ bitOf word b = 0 then s
  else
    let s1 :=
      if b = 0 then s.wr R.PWR_CLOCKS.CORE_PLL 0 0
      else if b = 1 then s.wr R.PWR_CLOCKS.STEP_PLL 0 0
      else if b < 8 then s.wr R.PWR_CLOCKS.CAS_LANE_PLL 0 (setBit (s.rd R.PWR_CLOCKS.CAS_LANE_PLL 0) (b - 4) 0)
      else if b < 16 then s.wr R.PWR_CLOCKS.ETH_PLL 0 (setBit (s.rd R.PWR_CLOCKS.ETH_PLL 0) (b - 8) 0)
      else s.wr R.PWR_CLOCKS.PCIE_PLL 0 0
    s1.raise .pwr 0 2

/-- PLL_UNLOCK (R474). -/
def execPllUnlock (b : Fin 17) (s : State) : Host.Outcome State Fault Refusal := .next (doPllUnlock b.val s)

end Sys2Proof.Machine
end

