-- ==== Sys2Proof/Machine/Debug.lean ====
section
/-! DEFINITION. Machine/Debug.lean: the debug access level and its unlocking (R479 to R481), the halt and the release of
emulation (R108, R491 to R494), the virtual terminal and the notes (R495 to R497). -/

namespace Sys2Proof.Machine
open Sys2Proof

/-! ## The level (R479 to R481) -/

/-- A write to `DBG_GRANT` (R480): refused from the debug path, for LEVEL 3, and for another level while LOCK is 1. -/
def doGrantWrite (a : Accessor) (v : W32) (s : State) : State :=
  let l := bitsOf v.toNat 0 2
  if viaDebug a || l == 3 || (s.on R.DBG_GRANT.LOCK 0 && l != s.debugLevel) then s.refuseWrite a .dbg 0 0x44 4
  else
    let lock := if bitOf v.toNat 2 = 1 then 1 else s.rd R.DBG_GRANT.LOCK 0
    ((((s.wr R.DBG_GRANT.LEVEL 0 l).wr R.DBG_STATUS.LEVEL 0 l).wr R.DBG_GRANT.LOCK 0 lock).wr R.DBG_STATUS.LOCK 0
      lock).respond a true 0

/-- UNLOCK_SUBMIT (R481): refused while blocked, locked, or while a token is being checked. -/
def doUnlockSubmit (a : Accessor) (s : State) : State :=
  if s.on R.DBG_STATUS.BLOCKED 0 || s.on R.DBG_GRANT.LOCK 0 || s.on R.DBG_STATUS.UNLOCK_BUSY 0 then
    s.refuseWrite a .dbg 0 0x5C 5
  else (s.wr R.DBG_STATUS.UNLOCK_BUSY 0 1).respond a true 0

/-- The token's words (R481). -/
def State.token (s : State) : List W32 := (List.range 60).map (fun k => BitVec.ofNat 32 (s.rd (R.DBG_UNLOCK_BUF.DATA k) 0))

/-- Bytes of a token, as one number. -/
def tokenField (t : List W32) (off n : Nat) : Nat :=
  (List.range n).foldl (fun v i => v + bitsOf ((t[(off + i) / 4]?).getD 0).toNat (8 * ((off + i) % 4)) 8 * 256 ^ i) 0

/-- The challenge for the next token (R481). -/
def State.challenge (s : State) : W128 := Config.challenge s.challenges

/-- Whether a token is accepted: its fields well formed, UID and challenge matching, and the debug-key hash and the
signature checking (R481). -/
def State.tokenGood (s : State) : Bool :=
  let t := s.token
  tokenField t 0 4 == 0x544B4744 && (tokenField t 4 1 == 2 || tokenField t 4 1 == 3) && tokenField t 5 3 == 0 &&
    tokenField t 8 8 == Config.uid.toNat && tokenField t 16 16 == s.challenge.toNat && tokenField t 225 15 == 0 &&
    Config.tokenOk s.challenge t

/-- UNLOCK_CHECK_DONE (R481): in FW_STATE 3 the token waits. LOCK written during the check keeps the level. -/
def doUnlockCheckDone (s : State) : State :=
  if !s.on R.DBG_STATUS.UNLOCK_BUSY 0 || s.fwState == 3 then s
  else
    let s1 := { s.wr R.DBG_STATUS.UNLOCK_BUSY 0 0 with challenges := s.challenges + 1 }
    if s.tokenGood then
      (if s.on R.DBG_GRANT.LOCK 0 then s1 else s1.wr R.DBG_STATUS.LEVEL 0 (tokenField s.token 4 1)).raise .dbg 0 3
    else
      let f := s.rd R.DBG_STATUS.FAILS 0 + 1
      ((s1.wr R.DBG_STATUS.FAILS 0 (min f 3)).wr R.DBG_STATUS.BLOCKED 0 (b2n (decide (3 ≤ f)))).raise .dbg 0 4

/-- UNLOCK_CHECK_DONE (R481). -/
def execUnlockCheckDone (s : State) : Host.Outcome State Fault Refusal := .next (doUnlockCheckDone s)

/-! ## Halting emulation (R108, R491) -/

/-- The array clock of a bank: the core clock while its bunch is gated or the step clock stands still (R129, R492). -/
def State.arrayClocks (s : State) : State :=
  (List.range 64).foldl (fun (s : State) n =>
    s.wr R.DMB_STATUS.ARRAY_CLOCK n (b2n (!s.bunchOn n || s.emuStopped))) s

/-- The duration of a real stall up to now is kept, and its time counts from now on (R494). -/
def suspendStall (now : Nat) (x : Part) : Part :=
  match x.ledger.realFrom with
  | some t => { x with ledger := { x.ledger with realFrom := some now, realAcc := x.ledger.realAcc + (now - t) } }
  | none => x

/-- The time of a real stall counts again from now (R494). -/
def restartStall (now : Nat) (x : Part) : Part :=
  match x.ledger.realFrom with
  | some _ => { x with ledger := { x.ledger with realFrom := some now } }
  | none => x

/-- Tick T (R491): the step clock stops, partitions in Armed or Running become Halted, and every core that does not
count as halted receives a request with CAUSE 4. -/
def State.reachT (s : State) : State :=
  let s1 := { s.wr R.DBG_STATUS.EMU 0 1 with haltDecided := false, haltAt := s.now, haltDip := false, haltEdges := [] }
  let s2 := (List.range 64).foldl (fun (s : State) p =>
    let s0 := s.modPart p (suspendStall s.now)
    if s0.pstate p = 3 ∨ s0.pstate p = 4 then
      (s0.modPart p (fun x => { x with haltedFrom := s0.pstate p })).wr R.PRT_STATUS.STATE p 8
    else s0) s1
  let s3 := (List.range 16).foldl (fun (s : State) m => s.requestHalt m 4) s2
  s3.arrayClocks.checkEmuHalted

/-- EMULATION_HALT: a HALT written to `DBG_RUN` decides the halt; without an accessor, tick T of a decided halt comes
(R491). -/
def doEmulationHalt (a : Option Accessor) (s : State) : State :=
  match a with
  | some a => s.decideHalt.respond a true 0
  | none => if s.haltDecided then s.reachT else s

/-- HALT_ORDER: in a cascade the landing tick is T (R197, R494). -/
def doHaltOrder (s : State) : State :=
  match s.landing .halt with
  | none => s
  | some (_, s1) => if s1.rd R.DBG_STATUS.EMU 0 = 0 then s1.reachT else s1

/-- HALT_ORDER (R494). -/
def execHaltOrder (s : State) : Host.Outcome State Fault Refusal := .next (doHaltOrder s)

/-- HALT_REQ_REPORT: the master orders HALT (R494). -/
def doHaltReqReport (origin arg : Nat) (s : State) : State :=
  if s.isMaster then
    if s.rd R.DBG_STATUS.EMU 0 ≠ 0 ∨ s.cas.orders.any (fun o => o.kind == .halt) then s
    else s.issueOrder .halt (s.rd R.CAS_LEAD.TICKS 0) 0
  else s.passReport .haltReq origin arg

/-- HALT_REQ_REPORT (R494). -/
def execHaltReqReport (origin : Fin 64) (arg : W32) (s : State) : Host.Outcome State Fault Refusal :=
  .next (doHaltReqReport origin.val arg.toNat s)

/-! ## Releasing emulation (R108, R493, R494) -/

/-- A dip whose warning fell within the halt holds its partitions: its retention check failed, or it holds for the
host, either of which DIP_STATE 3 shows (R258, R261, R494). -/
def State.dipHolds (s : State) : Bool :=
  s.haltDip && s.rd R.RES_STATUS.DIP_STATE 0 == 3

/-- A timer after a halt (R108): on network time it takes the first instant ahead; every other one's grid moves by the
time of the halt. -/
def State.restartTimer (s : State) (p : Nat) : State :=
  if s.on R.PRT_CTRL.PTP_LOCK p then
    s.modPart p (fun x => { x with gridNext := max x.gridNext (gridFrom x.gridNext (s.timerPeriod p) s.now) })
  else s.modPart p (fun x => { x with gridNext := x.gridNext + (s.now - s.haltAt) })

/-- A Halted partition returns (R108, R493, R494). -/
def State.unhaltPart (s : State) (p : Nat) : State :=
  let s1 := (s.restartTimer p).modPart p (restartStall s.now)
  if s1.pstate p ≠ 8 then s1
  else if s1.dipHolds then
    ((s1.modPart p (fun x => { x with frozenFrom := x.haltedFrom })).wr R.PRT_STATUS.STATE p 6).raise .prt p 6
  else
    let s2 := s1.wr R.PRT_STATUS.STATE p (s1.part p).haltedFrom
    if (s1.part p).haltedFrom = 4 then s2.timeBreak p else s2

/-- The first restarted tick (R108, R493). -/
def State.restartTick (s : State) : State :=
  let s1 := { s.wr R.DBG_STATUS.EMU 0 0 with releasing := false }
  let s2 := (List.range 64).foldl (fun (s : State) p => s.unhaltPart p) s1
  let s3 := (List.range 16).foldl (fun (s : State) m =>
    if s.rd R.MDC_STATUS.STATE m == 3 && s.rd (R.DBG_C_STATUS.CAUSE m) 0 == 4 then s.resumeCore m else s) s2
  let s4 := s3.haltEdges.foldl (fun s e => doReleaseLineEdge e.1 e.2 s) { s3 with haltDip := false }
  ({ s4 with haltEdges := [] }.arrayClocks).raise .dbg 0 1

/-- A halt is withdrawn before T (R493). -/
def State.withdrawHalt (s : State) : State :=
  { s.wr R.DBG_STATUS.EMU 0 0 with haltDecided := false }.raise .dbg 0 1

/-- The requests of cores that have not halted yet are withdrawn (R493). -/
def State.withdrawRequests (s : State) : State :=
  (List.range 16).foldl (fun (s : State) m =>
    if (s.core m).haltReq = 4 then
      (s.modCore m (fun c => { c with haltReq := 0 })).wr (R.DBG_C_STATUS.PENDING m) 0 0
    else s) s

/-- A RELEASE written to `DBG_RUN` (R493, R494): refused while EMU is 0, and in a cascade on any package but the
master, which orders UNHALT. -/
def State.releaseRun (s : State) (a : Accessor) : State :=
  if s.rd R.DBG_STATUS.EMU 0 = 0 then s.refuseWrite a .dbg 0 0x58 5
  else if s.rd R.CAS_STATUS.UNIT_STATE 0 ≠ 0 then
    if s.isMaster then (s.issueOrder .unhalt (s.rd R.CAS_LEAD.TICKS 0) 0).respond a true 0
    else s.refuseWrite a .dbg 0 0x58 5
  else if s.haltDecided then s.withdrawHalt.respond a true 0
  else { s.withdrawRequests with releasing := true }.respond a true 0

/-- EMULATION_RELEASE: a RELEASE written to `DBG_RUN`; without an accessor, the first restarted tick comes (R493). -/
def doEmulationRelease (a : Option Accessor) (s : State) : State :=
  match a with
  | some a => s.releaseRun a
  | none => if s.releasing then s.restartTick else s

/-- UNHALT_ORDER (R494). -/
def doUnhaltOrder (s : State) : State :=
  match s.landing .unhalt with
  | none => s
  | some (_, s1) => if s1.emuStopped then s1.withdrawRequests.restartTick else s1

/-- UNHALT_ORDER (R494). -/
def execUnhaltOrder (s : State) : Host.Outcome State Fault Refusal := .next (doUnhaltOrder s)

/-! ## The virtual terminal and the notes (R495 to R497) -/

/-- The counts of a terminal's FIFOs. -/
def State.showVt (s : State) (m : Nat) : State :=
  (s.wr (R.DBG_VT_STATUS.TX_COUNT m) 0 (s.core m).vtTx.length).wr (R.DBG_VT_STATUS.RX_COUNT m) 0 (s.core m).vtRx.length

/-- VT_TX_WRITE: core m's byte enters TX; a full TX sends it as a note or drops it (R495, R496). -/
def doVtTxWrite (m : Nat) (v : W32) (s : State) : State :=
  let b := bitsOf v.toNat 0 8
  if (s.core m).vtTx.length < 64 then
    let s1 := (s.modCore m (fun c => { c with vtTx := c.vtTx ++ [b] })).showVt m
    if (s.core m).vtTx.isEmpty then s1.raise .dbg 0 5 else s1
  else if s.on (R.DBG_VT_STATUS.FALLBACK m) 0 && s.traced m then s.traceNote m 0 b
  else s.count (R.DBG_VT_STATUS.DROPPED m) 0 1

/-- The head of a FIFO with its VALID bit; an empty FIFO reads 0 (R495). -/
def vtHead (l : List Nat) : Nat :=
  match l with
  | [] => 0
  | b :: _ => b + 256

/-- A read of `DBG_VTm_TX` by the host or the debug path removes the head byte, unless it is quiet (R484, R495). -/
def doVtTxRead (a : Accessor) (m : Nat) (s : State) : State :=
  let v := vtHead (s.core m).vtTx
  (if s.quiet a then s else (s.modCore m (fun c => { c with vtTx := c.vtTx.tail })).showVt m).respond a true v

/-- A write of `DBG_VTm_RX` by the host or the debug path appends a byte; a full RX refuses it (R495). -/
def doVtRxWrite (a : Accessor) (m : Nat) (v : W32) (s : State) : State :=
  if 64 ≤ (s.core m).vtRx.length then (s.errReg a .dbg 0 (0x134 + 0x40 * m) 4).refuseAccess a
  else ((s.modCore m (fun c => { c with vtRx := c.vtRx ++ [bitsOf v.toNat 0 8] })).showVt m).respond a true 0

/-- A read of `DBG_VTm_RX`: core m's removes the head byte, any other's leaves it (R495). -/
def State.vtRxRead (s : State) (a : Accessor) (m : Nat) : State :=
  let v := vtHead (s.core m).vtRx
  match a with
  | .core _ => ((s.modCore m (fun c => { c with vtRx := c.vtRx.tail })).showVt m).respond a true v
  | _ => s.respond a true v

/-- A note of core m (R497). -/
def doNoteWrite (m c : Nat) (v : W32) (s : State) : State := s.traceNote m c v.toNat

end Sys2Proof.Machine
end

