-- ==== Sys2Proof/Machine/LoadImage.lean ====
section
/-! DEFINITION. Machine/LoadImage.lean: the loading of a partition's image (R171 to R176, R184, R216): LOAD_IMAGE and its
lines. -/

namespace Sys2Proof.Machine
open Sys2Proof

/-! ## Load-report codes (R184) -/

/-- What the firmware's reading of a line comes to: go on, or stop with a load-report code; FETCH ends the command
itself (R379). -/
inductive LineEnd where
  | goOn
  | stop (code : Nat)
  | fetch
  deriving DecidableEq, Repr

/-- The load in progress is over: RESULT OK for report OK and FAILED otherwise; the report in RSP0, the line in RSP1 and
DESIGN_ID in RSP2 and RSP3 (R378, R379). A failure makes LOAD_END fail (R184). -/
def State.endLoad (s : State) (i : ImgLoad) (code line : Nat) : State :=
  let id := match i.header with
    | some h => bitsOf h.2.toNat 64 64
    | none => 0
  let s1 := s.modControl (fun c => { c with img := none })
  let s2 := if code = 0 then s1 else s1.modPart i.p (fun x => { x with refusedWord := true })
  s2.mbxResult (if code = 0 then resOk else resFailed) [(0, code), (1, line), (2, id % 2 ^ 32), (3, id / 2 ^ 32)]

/-- Whether a partition is in Loading, or enters it once its bunches are ungated (R184, R467). -/
def State.loads (s : State) (p : Nat) : Bool := s.pstate p == 1 || (s.part p).ungating

/-- LOAD_IMAGE (R184, R378): a staging address that is not aligned is out of range; a partition that is not in Loading
gives report STATE. -/
def doLoadImage (a : Accessor) (seq : Nat) (s : State) : State :=
  s.doorbell a 0x03 seq [2] (fun s =>
    let i : ImgLoad := { p := bitsOf (s.arg 0) 0 6, arg3 := s.arg 3 }
    if s.arg 1 % 16 ≠ 0 then s.mbxResult resArg []
    else if !s.loads i.p then s.endLoad i 2 0
    else s.modControl (fun c => { c with img := some i }))

/-! ## The header (R172) -/

/-- The first check that a header line fails (R184): the comparisons, then MAGIC, FORMAT and the reserved fields,
RELOCATED, DEPTH and HARD. -/
def State.headerCheck (s : State) (i : ImgLoad) (w : List W128) : LineEnd :=
  let w0 := (w.headD 0).toNat
  let w1 := ((w[1]?).getD 0).toNat
  if bitsOf w1 32 32 ≠ i.arg3 then .stop 7
  else if bitsOf w0 64 7 ≠ (s.bunches i.p).length then .stop 9
  else if bitsOf w0 0 32 ≠ 0x4C535453 ∨ bitsOf w0 32 8 ≠ 1 ∨ bitsOf w0 52 12 ≠ 0 ∨ bitsOf w0 78 50 ≠ 0 ∨
      (w.drop 2).any (fun x => x != 0) then .stop 1
  else if bitOf w0 48 = 0 then .stop 4
  else if bitsOf w0 40 7 ≠ s.rd R.PRT_CTRL.DEPTH i.p then .stop 3
  else if bitOf w0 47 ≠ s.rd R.PRT_CTRL.HARD i.p then .stop 11
  else .goOn

/-- A field of the header in hand. -/
def ImgLoad.hdr (i : ImgLoad) (word lo width : Nat) : Nat :=
  match i.header with
  | some h => bitsOf (if word = 0 then h.1 else h.2).toNat lo width
  | none => 0

/-! ## Descriptors (R173, R174) -/

/-- The section a descriptor line begins. -/
def sectOf (w : List W128) : SectLoad :=
  let w0 := (w.headD 0).toNat
  { typ := bitsOf w0 0 8, bunch := bitsOf w0 8 6, lines := bitsOf w0 16 32, first := bitsOf w0 64 18
    count := bitsOf w0 82 19, crc := bitsOf ((w[1]?).getD 0).toNat 0 32, done := 0, state := crcInit }

/-- Whether R174 lists a section type. -/
def sectKnown (typ : Nat) : Bool := (decide (1 ≤ typ) && decide (typ ≤ 8)) || typ == 15

/-- Whether a reserved field of a descriptor is not 0, or a field that its type requires to be 0 (R173). -/
def descFormatBad (w : List W128) (d : SectLoad) : Bool :=
  let w0 := (w.headD 0).toNat
  let w1 := ((w[1]?).getD 0).toNat
  bitsOf w0 14 2 != 0 || bitsOf w0 101 27 != 0 || bitsOf w1 32 96 != 0 || (w.drop 2).any (fun x => x != 0) ||
    (sectKnown d.typ && ((decide (3 < d.typ) && d.bunch != 0) || (d.typ != 3 && d.first != 0) ||
      (!(d.typ == 3 || d.typ == 4 || d.typ == 5 || d.typ == 6) && d.count != 0)))

/-- Whether LINES or COUNT of a descriptor differs from R174, or a BANK section passes the bank's end (R184). -/
def descSizeBad (depth bunches : Nat) (d : SectLoad) : Bool :=
  match d.typ with
  | 1 => d.lines != 128 * depth
  | 2 => d.lines != depth
  | 3 => d.lines != (d.count + 7) / 8 || decide (262144 < d.first + d.count)
  | 4 => d.lines != (d.count + 31) / 32
  | 5 => d.lines != (d.count + 31) / 32 || d.count != bunches
  | 6 => d.lines != (d.count + 7) / 8
  | 7 => d.lines != 1
  | _ => false

/-- The check of a section type's occurrence (R174, R176, R184). -/
def State.occurCheck (s : State) (i : ImgLoad) (d : SectLoad) : LineEnd :=
  if d.typ = 8 ∧ s.on R.PRT_CTRL.HARD i.p then .stop 11
  else if d.typ = 8 ∧ i.hdr 0 51 1 = 0 then .stop 13
  else if (d.typ = 1 ∨ d.typ = 2) ∧ !(s.bunches i.p).contains d.bunch then .stop 9
  else if (d.typ = 1 ∨ d.typ = 2) ∧ i.seen.contains (d.typ, d.bunch) then .stop 13
  else if (d.typ = 4 ∨ d.typ = 5 ∨ d.typ = 6 ∨ d.typ = 7) ∧ i.seen.any (fun e => e.1 == d.typ) then .stop 13
  else if d.typ = 3 ∧ !s.berthNames d.bunch 4 0 then .stop 10
  else if i.hdr 1 32 32 < i.line + 1 + d.lines then .stop 7
  else .goOn

/-- The first check that a descriptor line fails (R184). -/
def State.descCheck (s : State) (i : ImgLoad) (w : List W128) : LineEnd :=
  let d := sectOf w
  if descFormatBad w d then .stop 1
  else if descSizeBad (s.depth i.p) (i.hdr 0 64 7) d then .stop 8
  else if bitsOf (w.headD 0).toNat 48 16 ≠ i.count then .stop 7
  else if !sectKnown d.typ then .stop 12
  else s.occurCheck i d

/-! ## Data words (R174, R184, R216) -/

/-- Whether word j of a section is a fill word, outside the CRC (R175). -/
def fillWord (d : SectLoad) (j : Nat) : Bool :=
  match d.typ with
  | 3 => decide (d.count ≤ j)
  | 4 => decide ((d.count + 3) / 4 ≤ j)
  | 5 => decide ((d.count + 3) / 4 ≤ j)
  | 6 => decide (d.count ≤ j)
  | 7 => decide (1 ≤ j)
  | _ => false

/-- A row of a bunch that is being ungated is held like the instruction words, else written (R184, R467). -/
def State.takeRow (s : State) (p n b r : Nat) (v : BitVec 64) : State :=
  if (s.part p).ungating then s.modPart p (fun x => { x with heldRows := x.heldRows ++ [(n, b, r, v)] })
  else s.loadRow n b r v

/-- One net-map record (R216): skipped where ASSIGNED is 0, else written with PART set to the partition, unless the net
map refuses it (R215). -/
def State.loadRecord (s : State) (p r : Nat) : State :=
  let idx := bitsOf r 0 16
  let e := setBits (bitsOf r 16 32 % 2 ^ 20) 1 6 p
  if bitOf e 0 = 0 then s
  else if s.netRefused idx e then s.err .cas 0 4 (nodeOf (.fw 0)) (regAddress .cas 0 0x64)
  else { s with netmap := SMap.set 0 s.netmap idx (BitVec.ofNat 32 e) }

/-- Whether a net-map record names a step at or beyond D (R216). -/
def recordBad (depth r : Nat) : Bool := decide (depth ≤ bitsOf r 0 16 % 8192 / 8)

/-- Write data word j of the section in hand (R184). -/
def State.loadData (s : State) (p : Nat) (d : SectLoad) (j : Nat) (w : W128) : LineEnd × State :=
  let dep := s.depth p
  if fillWord d j then (.goOn, s)
  else
    match d.typ with
    | 1 => (.goOn, doInstructionWordWrite 63 p d.bunch (j / 64 / dep) (j / 64 % dep) (j % 64) w (sealOf w) s)
    | 2 =>
      let put (s : State) (r : Nat) (lo : Nat) : State :=
        s.takeRow p d.bunch (r / dep) (r % dep) (BitVec.ofNat 64 (bitsOf w.toNat lo 64))
      (.goOn, put (put s (2 * j) 0) (2 * j + 1) 64)
    | 3 =>
      match s.directAccess d.bunch (d.first + j) ⟨4, 0, nodeOf (.fw 0), false⟩ true with
      | (false, s1) => (.stop 10, s1)
      | (true, s1) => (.goOn, (s1.writeBank d.bunch (d.first + j) w false).clearBankResv d.bunch (d.first + j))
    | 8 =>
      let lo := bitsOf w.toNat 0 64
      let hi := bitsOf w.toNat 64 64
      if recordBad dep lo then (.stop 8, s)
      else if recordBad dep hi then (.stop 8, s.loadRecord p lo)
      else (.goOn, (s.loadRecord p lo).loadRecord p hi)
    | _ => (.goOn, s)

/-- The words of a data line in order, each checked against its seal and then written (R184). -/
def State.loadLine (s : State) (p : Nat) (d : SectLoad) (chk : W128) :
    List W128 → Nat → SectLoad → LineEnd × SectLoad × State
  | [], _, e => (.goOn, e, s)
  | w :: rest, k, e =>
    let j := d.done * 8 + k
    if (sealOf w).toNat ≠ bitsOf chk.toNat (16 * k) 16 then (.stop 5, e, s)
    else
      match s.loadData p d j w with
      | (.goOn, s1) =>
        s1.loadLine p d chk rest (k + 1)
          (if fillWord d j then e else { e with state := crcBytes e.state w.toNat 16 })
      | (r, s1) => (r, e, s1)

/-! ## Lines -/

/-- The report once the last line has been read (R176, R184). -/
def State.imageEnd (s : State) (i : ImgLoad) : Nat :=
  if i.count ≠ i.hdr 1 0 32 then 7
  else if (s.bunches i.p).any (fun n => !i.seen.contains (1, n) || !i.seen.contains (2, n)) then 9
  else if !i.seen.any (fun e => e.1 == 5) || !i.seen.any (fun e => e.1 == 7) then 13
  else 0

/-- The load goes on with the next line, or ends with the header's LINES (R184). -/
def State.nextLine (s : State) (i : ImgLoad) : State :=
  let j := { i with line := i.line + 1 }
  if j.hdr 1 32 32 ≤ j.line then s.endLoad j (s.imageEnd j) i.line
  else s.modControl (fun c => { c with img := some j })

/-- The section in hand has all its lines: its CRC is checked (R175), and the next line is a descriptor. -/
def State.sectEnd (s : State) (i : ImgLoad) (d : SectLoad) : State :=
  if crcFinal d.state ≠ d.crc then s.endLoad i 6 i.line
  else s.nextLine { i with sect := none, count := i.count + 1 }

/-- Whether every word of a line agrees with the seal word (R171). -/
def lineSealed (w : List W128) (chk : W128) : Bool :=
  (List.range 8).all (fun k => (sealOf ((w[k]?).getD 0)).toNat == bitsOf chk.toNat (16 * k) 16)

/-- A header or descriptor line is read (R184). -/
def State.readHead (s : State) (i : ImgLoad) (w : List W128) (chk : W128) : State :=
  if !lineSealed w chk then s.endLoad i 5 i.line
  else
    match i.header with
    | none =>
      let j := { i with header := some (w.headD 0, (w[1]?).getD 0) }
      match s.headerCheck i w with
      | .goOn => s.nextLine j
      | .stop c => s.endLoad j c 0
      | .fetch => s
    | some _ =>
      match s.descCheck i w with
      | .goOn =>
        let d := sectOf w
        let j := { i with seen := (d.typ, d.bunch) :: i.seen }
        if d.lines = 0 then s.sectEnd j d else s.nextLine { j with sect := some d }
      | .stop c => s.endLoad i c i.line
      | .fetch => s

/-- A data line is read (R184). -/
def State.readData (s : State) (i : ImgLoad) (d : SectLoad) (w : List W128) (chk : W128) : State :=
  match s.loadLine i.p d chk ((List.range 8).map (fun k => (w[k]?).getD 0)) 0 d with
  | (.goOn, e, s1) =>
    let e1 := { e with done := d.done + 1 }
    if e1.done = d.lines then s1.sectEnd { i with sect := some e1 } e1 else s1.nextLine { i with sect := some e1 }
  | (.stop c, _, s1) => s1.endLoad i c i.line
  | (.fetch, _, s1) => s1

/-- IMAGE_LINE: the next line of the image arrives from host memory: its eight data words and its seal word; `ok` is
false for a failed host read, which ends the command with FETCH (R184, R379). -/
def doImageLine (words : List W128) (chk : W128) (ok : Bool) (s : State) : State :=
  match s.control.img with
  | none => s
  | some i =>
    if !ok then
      (((s.modControl (fun c => { c with img := none })).modPart i.p (fun x => { x with refusedWord := true })).raise .hst
        0 4).mbxResult resFetch []
    else if !s.loads i.p then s.endLoad i 2 i.line
    else
      match i.sect with
      | none => s.readHead i ((List.range 8).map (fun k => (words[k]?).getD 0)) chk
      | some d => s.readData i d words chk

/-- IMAGE_LINE (R184). -/
def execImageLine (words : List W128) (chk : W128) (ok : Bool) (s : State) : Host.Outcome State Fault Refusal :=
  .next (doImageLine words chk ok s)

end Sys2Proof.Machine
end

