-- ==== Sys2Proof/Machine/Window.lean ====
section
/-! DEFINITION. Machine/Window.lean: reads of the instruction store, the step stores, the logbook and the boot ROM through the
memory map (R27, R37, R38), and the access window of the debug path, as a bus master and by cycle stealing (R479, R482,
R483). -/

namespace Sys2Proof.Machine
open Sys2Proof

/-! ## Stores read through the memory map -/

/-- An uncorrectable word of the orchard's stores, recorded on the ORC_ page (R24, R240, R542). -/
def State.storeError (s : State) (n addr node : Nat) : State :=
  (s.err .orc n 10 node addr).logEvent 0x10 n openClass evSeal addr node

/-- A word of the instruction store at an offset of its region: STATUS and data after correction (R37, R235). -/
def State.istoreRead (s : State) (off node : Nat) : Nat × W128 × State :=
  let key := s.isAt (off / 0x1000000) (off / 0x100000 % 16) (off / 0x400 % 1024) (off / 16 % 64)
  if s.ecc clsIstore key < 2 then (0, SMap.get idleWord s.istore key, s)
  else (3, 0, s.storeError (off / 0x1000000) (0x200000000 + off) node)

/-- A word of the step-store window at an offset of its region: two rows (R38). -/
def State.rowsRead (s : State) (off node : Nat) : Nat × W128 × State :=
  let n := off / 0x20000
  let k0 := s.rowAt n (off / 0x2000 % 16) (off / 16 * 2 % 1024)
  if s.ecc clsRow k0 < 2 && s.ecc clsRow (k0 + 1) < 2 then
    (0, BitVec.ofNat 128 ((SMap.get 0 s.rows k0).toNat + 2 ^ 64 * (SMap.get 0 s.rows (k0 + 1)).toNat), s)
  else (3, 0, s.storeError n (0x500000000 + off) node)

/-- A word of the logbook at an offset of its region (R262); one whose seal fails is an error (R23, R24). -/
def State.logbookRead (s : State) (off node : Nat) : Nat × W128 × State :=
  let k := off / 16
  if s.ecc clsLog k < 2 then (0, SMap.get 0 s.logbook k, s)
  else (3, 0, (s.err .log 0 9 node (0x80000000 + off)).logEvent 0x04 0 openClass evSeal k node)

/-! ## The window (R482) -/

/-- The accessor that a front end's window acts as (R476). -/
def windowAccessor (f : Nat) : Accessor := if f = 1 then .jtag else .pcieDbg

/-- Whether the level lets the window reach an address (R479). -/
def windowMay (level addr : Nat) (write : Bool) : Bool :=
  if addr < 0x40000 || (decide (0x10000000 ≤ addr) && decide (addr < 0x10200000)) then decide (3 ≤ level)
  else if 2 ≤ level then true
  else if level = 0 then false
  else if inRegisters addr then
    match pageAt (offsetIn 0x40000000 addr) with
    | some (.dev, _) => !write
    | some (.pwr, _) => !write
    | some (.log, _) => !write
    | some (.hst, _) => decide (0x40 ≤ addr % 4096) && decide (addr % 4096 < 0x100)
    | _ => false
  else decide (0x80000000 ≤ addr) && decide (addr < 0x80400000) && !write

/-- A front end's access in progress. -/
def State.windowOf (s : State) (f : Nat) : Option WindowAcc := SMap.get none s.windows f

/-- Set a front end's access in progress. -/
def State.setWindow (s : State) (f : Nat) (x : Option WindowAcc) : State :=
  { s with windows := SMap.set none s.windows f x }

/-- `DBG_XADDR` of a front end. -/
def State.xaddr (s : State) (f : Nat) : Nat := s.rd64 R.DBG_XADDR_LO.ADDR R.DBG_XADDR_HI.ADDR f

/-- `DBG_XDATA` of a front end. -/
def State.xdata (s : State) (f : Nat) : W128 :=
  s.rd128 R.DBG_XDATA.DATA0 R.DBG_XDATA.DATA1 R.DBG_XDATA.DATA2 R.DBG_XDATA.DATA3 f

/-- The word a 4-byte or 16-byte access places on the flit, and its byte enables. -/
def State.windowWrite (s : State) (f addr : Nat) (wide : Bool) : W128 × Nat :=
  if wide then (s.xdata f, 65535) else (placed addr (s.rd R.DBG_XDATA.DATA0 f), enables addr 4 % 65536)

/-- Send the access as a bus master through the debug quay: its RESULT where it is refused before it leaves (R28, R401). -/
def State.windowSend (s : State) (f : Nat) (write wide : Bool) (addr : Nat) : Option (Nat × W128) × State :=
  match s.nodeOfAddress (windowAccessor f) addr with
  | none => (some (1, 0), s.quayStatus 41 1 addr)
  | some d =>
    if d != 41 && !s.routeOk 41 d then (some (1, 0), s.quayStatus 41 1 addr)
    else
      let (v, be) := s.windowWrite f addr wide
      (none, s.quaySend 41 f (b2n write) addr be (if write then [v] else []))

/-- A write of `DBG_XCMD` begins an access; while one is in progress it is refused (R482). `act`: what happens at once
at an address the level allows. -/
def State.windowBegin (s : State) (a : Accessor) (write wide inc steal : Bool)
    (act : State → Nat → Option (Nat × W128) × State) : State :=
  let f := frontEnd a
  let addr := s.xaddr f
  if s.on R.DBG_XSTATUS.BUSY f then s.refuseWrite a .dbg 0 0x88 5
  else
    let allowed := windowMay s.debugLevel addr write && (!steal || decide (2 ≤ s.debugLevel))
    let (held, s1) := if allowed then act s addr else (some (8, 0), s)
    ((s1.setWindow f (some ⟨write, wide, inc, addr, held⟩)).wr R.DBG_XSTATUS.BUSY f 1).respond a true 0

/-- WINDOW_READ (R482). -/
def doWindowRead (a : Accessor) (wide inc : Bool) (s : State) : State :=
  s.windowBegin a false wide inc false (fun s addr => s.windowSend (frontEnd a) false wide addr)

/-- WINDOW_WRITE (R482). -/
def doWindowWrite (a : Accessor) (wide inc : Bool) (s : State) : State :=
  s.windowBegin a true wide inc false (fun s addr => s.windowSend (frontEnd a) true wide addr)

/-- The data register of a front end takes the word read; a 4-byte access takes its four bytes into word 0. -/
def State.takeXdata (s : State) (f : Nat) (x : WindowAcc) (w : W128) : State :=
  if x.wide then s.wr128 R.DBG_XDATA.DATA0 R.DBG_XDATA.DATA1 R.DBG_XDATA.DATA2 R.DBG_XDATA.DATA3 f w
  else s.wr R.DBG_XDATA.DATA0 f (bitsOf w.toNat (8 * (x.addr % 16)) 32)

/-- The access of a front end ends: RESULT and the data read, BUSY 0, and the address advances with AUTOINC (R482). -/
def State.windowDone (s : State) (f status : Nat) (w : W128) : State :=
  match s.windowOf f with
  | none => s
  | some x =>
    let (r, d) := x.held.getD (status, w)
    let s1 := if x.held.isNone then s.quayTake 41 status x.addr else s
    let s2 := (((s1.setWindow f none).wr R.DBG_XSTATUS.BUSY f 0).wr R.DBG_XSTATUS.RESULT f r).regate x.addr
    let s3 := if !x.write && r == 0 then s2.takeXdata f x d else s2
    if x.inc then
      s3.wr64 R.DBG_XADDR_LO.ADDR R.DBG_XADDR_HI.ADDR f ((x.addr + (if x.wide then 16 else 4)) % 2 ^ 40)
    else s3

/-- WINDOW_ACCESS_DONE (R482). -/
def execWindowAccessDone (jtag : Bool) (status : Fin 8) (w : W128) (s : State) : Host.Outcome State Fault Refusal :=
  .next (s.windowDone (b2n jtag) status.val w)

/-! ## Exchange registers (R329) -/

/-- The debug path stores to a model-to-orchard buffer, and the refusals of R327 apply: whether it stored. No command brings such an
access: R482, R483 and R489 give the debug path no address and no number for an exchange register (log entry 231). -/
def State.debugExchStore (s : State) (m n buf : Nat) (v : W128) : Bool × State :=
  match s.storeRefusedBy m n buf with
  | some p => (false, (s.count R.PRT_XLATE.COUNT p 1).raise .prt p 8)
  | none => (true, s.setExch m n 0 buf v)

/-- The debug path loads an exchange buffer as the owning core does (R327, R329; log entry 231). -/
def State.debugExchLoad (s : State) (m n half buf : Nat) : W128 := s.exchRead m n half buf

/-! ## Cycle stealing (R483) -/

/-- A stolen cycle of a bank: a whole-word write or a read, past the berth check and never journalled (R131, R483). -/
def State.stealBank (s : State) (b w : Nat) (write wide : Bool) (v : W128) : (Nat × W128) × State :=
  if !s.awake.contains (blockKey .dmb b) || (write && !wide) then ((9, 0), s)
  else if write then ((0, 0), (s.setBankWord b w v 0).clearBankResv b w)
  else
    match s.readBank b w 41 with
    | (some d, s1) => ((0, d), s1)
    | (none, s1) => ((3, 0), s1)

/-- A stolen cycle of a scratchpad (R324, R483). -/
def State.stealScratch (s : State) (m a be : Nat) (write : Bool) (v : W128) : (Nat × W128) × State :=
  if !s.awake.contains (blockKey .mdc m) then ((9, 0), s)
  else
    let (st, d, s1) := s.scratchPerform m { who := ⟨0, 0, 41, true⟩, op := b2n write, win := 0, word := a / 16, be := be, data := v, tag := 0, addr := a }
    ((st, d.headD 0), s1)

/-- A stolen cycle: RESULT and data (R483). Any other target, and one whose clock is stopped, is refused. -/
def State.stealAt (s : State) (f addr : Nat) (write wide : Bool) : (Nat × W128) × State :=
  let (v, be) := s.windowWrite f addr wide
  if 0x100000000 ≤ addr ∧ addr < 0x110000000 then
    s.stealBank (addr % 0x10000000 / 0x400000) (addr % 0x400000 / 16) write wide v
  else if 0x20000000 ≤ addr ∧ addr < 0x20400000 then
    let (m, x) := scratchAt addr
    s.stealScratch m x be write v
  else if 0x10000000 ≤ addr ∧ addr < 0x10200000 then
    let key := (offsetIn 0x10000000 addr) / 16
    if write then
      let (st, s1) := s.controlWrite key be v 41
      ((st, 0), s1)
    else
      let (st, d, s1) := s.controlRead key 41
      ((st, d), s1)
  else if 0x200000000 ≤ addr ∧ addr < 0x240000000 ∧ write = false ∧ s.awake.contains 0x1000 ∧
      s.bunchOn (offsetIn 0x200000000 addr / 0x1000000) then
    let (st, d, s1) := s.istoreRead (offsetIn 0x200000000 addr) 41
    ((st, d), s1)
  else if 0x80000000 ≤ addr ∧ addr < 0x80400000 ∧ write = false then
    let (st, d, s1) := s.logbookRead (offsetIn 0x80000000 addr) 41
    ((st, d), s1)
  else ((9, 0), s)

/-- A stolen access begins (R483). -/
def State.steal (s : State) (a : Accessor) (write wide inc : Bool) : State :=
  s.windowBegin a write wide inc true (fun s addr =>
    let (r, s1) := s.stealAt (frontEnd a) addr write wide
    (some r, s1))

/-- STEAL_READ (R483). -/
def doStealRead (a : Accessor) (wide inc : Bool) (us : List Upset) (s : State) : State :=
  (s.upset us).steal a false wide inc

/-- STEAL_WRITE (R483). -/
def doStealWrite (a : Accessor) (wide inc : Bool) (us : List Upset) (s : State) : State :=
  (s.upset us).steal a true wide inc

end Sys2Proof.Machine
end

