-- ==== Sys2Proof/Machine/RegReads.lean ====
section
/-! DEFINITION. Machine/RegReads.lean: a read of a register: the registers whose value is not held as such (R75, R407, R409,
R447, R448, R475), 128-bit values and pairs (R15, R107), reads with an effect of their own, and the gates of Access.lean
before each (R9 to R15, R120 to R122). -/

namespace Sys2Proof.Machine
open Sys2Proof

/-! ## 128-bit values and pairs -/

/-- First offset of the 128-bit value a register belongs to (R15, R124, R270, R431, R447, R505). -/
def wideBase (p : Page) (off : Nat) : Option Nat :=
  let b := off / 16 * 16
  match p with
  | .prt => if b = 0x60 then some b else none
  | .log => if b = 0x60 then some b else none
  | .tim => if 0x60 ≤ b ∧ b ≤ 0x80 then some b else none
  | .dbg =>
    if 0x48 ≤ off ∧ off < 0x58 then some 0x48
    else if b = 0x90 ∨ (0x100 ≤ b ∧ b < 0x500 ∧ b % 0x40 = 0x10) then some b
    else none
  | .acq =>
    if b = 0x60 ∨ b = 0x70 ∨ b = 0x2D0 ∨ (0x100 ≤ b ∧ b < 0x200 ∧ b % 0x40 < 0x20) ∨
        (0x400 ≤ b ∧ b < 0x800 ∧ b % 0x20 = 0x10) then some b
    else none
  | _ => none

/-- Offset of the low word of the pair a register belongs to, where the pair is read under R107 (R107, R232, R431, R447,
R475, R506). The HMS_ page has its own (R398). -/
def pairBase (p : Page) (off : Nat) : Option Nat :=
  let b := off / 8 * 8
  match p with
  | .dev => if b = 0x48 then some b else none
  | .prt => if b = 0x70 ∨ b = 0x98 ∨ b = 0xA0 then some b else none
  | .cas => if b = 0x50 ∨ b = 0x58 then some b else none
  | .tim => if 0x90 ≤ b ∧ b ≤ 0xA0 then some b else none
  | .trc => if b = 0x50 then some b else none
  | .acq => if b = 0x80 ∨ (0x240 ≤ b ∧ b < 0x2A0) then some b else none
  | _ => none

/-- The channel in which a register of a page keeps its value: registers per debug front end (R476), and those the ACQ_ page
describes as the same for all channels (R431). -/
def homeChannel (a : Accessor) (p : Page) (ch off : Nat) : Nat :=
  match p with
  | .dbg => if off = 0x40 ∨ (0x80 ≤ off ∧ off < 0xA0) then frontEnd a else ch
  | .acq => if 0x400 ≤ off then 0 else ch
  | _ => ch

/-- Reset value of the register at an offset (R15, R107). -/
def resetWord (p : Page) (off : Nat) : Nat :=
  ((fieldsAt p off).getD []).foldl (fun v f => v + f.reset * 2 ^ f.lo) 0

/-! ## Values that are not held as such -/

/-- Whether no block of a node runs (R29, R399, R409). -/
def State.nodeAsleep (s : State) (n : Nat) : Bool :=
  let off (p : Page) (ch : Nat) : Bool := !s.served .host p ch
  if n < 8 then (List.range 8).all (fun i => off .dmb (8 * n + i))
  else if n < 12 then false
  else if n < 28 then off .mdc (n - 12)
  else if n < 32 then off .acq (n - 28)
  else if n = 32 then off .orc 0
  else if n = 33 then off .cfg 0 && off .fab 0
  else if n = 35 then off .eth 0
  else if n = 38 then off .hms 0
  else if n = 39 then off .cas 0 && off .lne 0
  else if n = 40 then off .tim 0
  else if n = 41 then off .dbg 0 && off .trc 0
  else if n = 42 then off .irq 0
  else false

/-- `NOC_STATUS` of a node (R409). -/
def State.nocStatus (s : State) (n : Nat) : Nat :=
  b2n (s.quayIsDead n) + b2n (s.nodeAsleep n) * 2 + n * 4 + s.rd R.NOC_STATUS.OUTSTANDING n * 256

/-- The registers of the ORC_ page in channel n (R75): the berry fields at the bunch that serves n, the bunch fields the
same whatever the selection. -/
def State.orcView (s : State) (n off : Nat) : Option Nat :=
  let q := s.physBunch n
  if off = 0x40 then some (s.readFields ((fieldsAt .orc 0x40).getD []) q)
  else if off = 0x44 then some (s.readFields ((fieldsAt .orc 0x44).getD []) 0)
  else if off = 0x48 then
    some (s.rd R.ORC_SPARE_STATUS.BERRY_SPARE_BAD q + s.rd R.ORC_BERRY_REMAP.EN q * 2 +
      s.rd R.ORC_SPARE_STATUS.BUNCH_SPARE_BAD 0 * 4 + s.rd R.ORC_BUNCH_REMAP.EN 0 * 8)
  else none

/-- `PRT_STATUS` of a follower: STATE reads its lead's (R244). -/
def State.followerStatus (s : State) (p : Nat) : Nat :=
  setBits (s.readFields ((fieldsAt .prt 0x08).getD []) p) R.PRT_STATUS.STATE.lo R.PRT_STATUS.STATE.width
    (s.pstate (s.leadOf p))

/-- The value of a register that its fields do not hold. -/
def State.view (s : State) (p : Page) (ch off : Nat) : Option Nat :=
  match p with
  | .dev =>
    if off = 0x48 then some (bitsOf Config.uid.toNat 0 32)
    else if off = 0x4C then some (bitsOf Config.uid.toNat 32 32)
    else none
  | .noc => if off = 0x08 then some (s.nocStatus ch) else none
  | .prt => if off = 0x08 ∧ s.isFollower ch then some (s.followerStatus ch) else none
  | .irq => s.irqView off
  | .eth => if off = 0x0C then some s.ethPorts else none
  | .trc =>
    if off = 0x50 then some (bitsOf s.traceStamp 0 32)
    else if off = 0x54 then some (bitsOf s.traceStamp 32 16)
    else none
  | .orc => s.orcView ch off
  | .pwr =>
    if off = 0x58 then some (Config.coreMillivolts s.coreTicks s.outbox.length).toNat
    else if off = 0x5C then
      some (s.readFields ((fieldsAt .pwr 0x5C).getD []) 0 + s.rd R.FAB_STATUS.PLL0_LOCK 0 * 4 +
        s.rd R.FAB_STATUS.PLL1_LOCK 0 * 8)
    else none
  | _ => none

/-- The value a register shows. -/
def State.shows (s : State) (p : Page) (ch off : Nat) : Nat :=
  match s.view p ch off with
  | some v => v
  | none => s.readFields ((fieldsAt p off).getD []) ch

/-- A 128-bit value as it stands, by its first offset (R15, R433, R481, R489). -/
def State.wideValue (s : State) (p : Page) (ch b : Nat) : W128 :=
  if p = .tim ∧ b = 0x60 then timeWord s.now
  else if p = .dbg ∧ b = 0x48 then s.challenge
  else if p = .dbg ∧ 0x100 ≤ b then s.debugRegister ((b - 0x100) / 0x40)
  else ofWords (s.shows p ch b) (s.shows p ch (b + 4)) (s.shows p ch (b + 8)) (s.shows p ch (b + 12))

/-! ## Reading -/

/-- A register without a rule of its own is read: a read with its effect clears RC fields (R9, R12). -/
def State.readAny (s : State) (a : Accessor) (p : Page) (ch off : Nat) : State :=
  let v := s.shows p ch off
  (if s.quiet a then s else s.clearFields ((fieldsAt p off).getD []) ch).respond a true v

/-- What an upper word returns where its accessor has not read the low word since the reset (R15). -/
def State.wideReset (s : State) (p : Page) (off b : Nat) : Nat :=
  if p = .dbg ∧ b = 0x48 then wordOf (Config.challenge s.challengeAt) ((off - b) / 4) else resetWord p off

/-- Whether core m is halted and the selected register is listed (R489). -/
def State.registerShown (s : State) (m : Nat) : Bool :=
  s.on (R.DBG_C_STATUS.HALTED m) 0 && debugListed (s.rd (R.DBG_C_REGSEL.REG m) 0) (s.rd (R.DBG_C_REGSEL.PART m) 0)

/-- The low word of a 128-bit value answers, and its RC fields clear (R9, R12). -/
def State.readLow (s : State) (a : Accessor) (p : Page) (ch b : Nat) (v : W128) : State :=
  (if s.quiet a then s else s.clearFields ((fieldsAt p b).getD []) ch).respond a true (wordOf v 0)

/-- A word of a 128-bit value is read (R15, R484, R489): the low word captures the others. -/
def State.readWide (s : State) (a : Accessor) (p : Page) (ch off b : Nat) : State :=
  if p = .dbg ∧ 0x100 ≤ b ∧ !s.registerShown ((b - 0x100) / 0x40) then (s.errReg a .dbg 0 off 4).refuseAccess a
  else if off = b then
    let v := s.wideValue p ch b
    (s.capture a p ch b (some v)).readLow a p ch b v
  else
    s.respond a true
      (match SMap.get none s.captures (stageKey a p ch b) with
       | some v => wordOf v ((off - b) / 4)
       | none => s.wideReset p off b)

/-- A word of a pair is read (R107). -/
def State.readPair (s : State) (a : Accessor) (p : Page) (ch off b : Nat) : State :=
  if off = b then (s.captureHi a p ch b (s.shows p ch (b + 4))).respond a true (s.shows p ch b)
  else
    s.respond a true
      (match s.capturedHi a p ch b with
       | some v => v
       | none => if p = .dev then s.shows p ch off else resetWord p off)

/-- `LOG_WIN_DATAk`: word k of the entry at `LOG_WIN_INDEX`, or an error response where the logbook word's check fails (R24,
R270). -/
def State.readLogWindow (s : State) (a : Accessor) (k : Nat) : State :=
  match s.logbookRead (s.rd R.LOG_WIN_INDEX.INDEX 0 * 64 + k / 4 * 16) (nodeOf a) with
  | (0, w, s1) => s1.respond a true (wordOf w (k % 4))
  | (_, _, s1) => s1.sealAccess a

/-- A word of the MSI-X table or of the pending bits (R454): vectors are masked after reset. -/
def State.msixWord (s : State) (off : Nat) : Nat :=
  if off < 0xC00 then
    (SMap.get (if off % 16 = 12 then 1#32 else 0#32) s.msixTable ((off - 0x800) / 4)).toNat
  else bitsOf s.msixPending.toNat (8 * (off - 0xC00)) 32

/-- Whether an offset of the HST_ page lies in the MSI-X table or the pending bits. -/
def isMsix (p : Page) (off : Nat) : Bool := p == .hst && decide (0x800 ≤ off) && decide (off < 0xC08)

/-- A register of the DBG_ page is read (R484, R495, R505). -/
def State.readDebug (s : State) (a : Accessor) (ch off : Nat) : State :=
  if 0x100 ≤ off ∧ off < 0x500 ∧ off % 0x40 = 0x30 then doVtTxRead a ((off - 0x100) / 0x40) s
  else if 0x100 ≤ off ∧ off < 0x500 ∧ off % 0x40 = 0x34 then s.vtRxRead a ((off - 0x100) / 0x40)
  else s.readAny a .dbg ch off

/-- A register that is there is read; the RD_DATA words, the logbook window, the net map, `TRC_BUF_DATA` and the HMS_ page
have rules of their own. -/
def State.readNamed (s : State) (a : Accessor) (p : Page) (ch off : Nat) : State :=
  match p with
  | .hms => s.hmsAccess a off false 0
  | .cas => if off = 0x64 then doNetmapDataRead a s else s.readAny a p ch off
  | .log => if 0xC0 ≤ off then s.readLogWindow a ((off - 0xC0) / 4) else s.readAny a p ch off
  | .trc => if off = 0x5C then doTraceBufferRead a s else s.readAny a p ch off
  | .dbg => s.readDebug a ch off
  | .pwr =>
    let s1 := s.readAny a p ch off
    if off = 0x54 ∧ !s.quiet a then { s1 with tempFresh := true } else s1
  | p => s.readAny a p ch off

/-- A register read that has passed the gates (R9, R12 to R15, R107, R122, R123). -/
def State.readAct (s : State) (a : Accessor) (p : Page) (ch0 off : Nat) : State :=
  let ch := homeChannel a p ch0 off
  if off % 4 ≠ 0 then (s.errReg a p ch0 off 2).refuseAccess a
  else if off = 0x14 ∧ p.channels ≠ 0 then s.respond a true ch
  else if off = 0 then s.respond a true (pageId p)
  else if isMsix p off then s.respond a true (s.msixWord off)
  else if (fieldsAt p off).isNone then s.respond a true 0
  else
    match wideBase p off, pairBase p off with
    | some b, _ => if p = .acq ∧ b = 0x2D0 then doRdDataRead a ch ((off - b) / 4) [] s else s.readWide a p ch off b
    | none, some b => s.readPair a p ch off b
    | none, none => s.readNamed a p ch off

/-- A register read by an accessor: page, node of a NOC_ page, offset. -/
def State.regRead (s : State) (a : Accessor) (r : RegAddr) : State :=
  let ch := s.channel a r
  s.access a r.page ch r.off.val false (fun s => s.readAct a r.page ch r.off.val)

end Sys2Proof.Machine
end

