-- ==== Sys2Proof/Machine/Resets.lean ====
section
/-! DEFINITION. Machine/Resets.lean: the device states (R31), the power-on, system and control resets (R456 to R465, R542), and
the core PLL's lock (R458). -/

namespace Sys2Proof.Machine
open Sys2Proof

/-! ## Fields that a reset keeps -/

/-- Page TYPE of a field's key. -/
def keyType (k : Nat) : Nat := k / 2 ^ 25
/-- Channel of a field's key. -/
def keyChannel (k : Nat) : Nat := k / 2 ^ 17 % 256
/-- Offset of a field's key. -/
def keyOff (k : Nat) : Nat := k / 2 ^ 5 % 4096
/-- Lowest bit of a field's key. -/
def keyBit (k : Nat) : Nat := k % 2 ^ 5

/-- The register fields a power-on reset keeps: the straps, which stay latched until PORST_N rises (R457), and the
power-on count (R267). -/
def keptAtPowerOn (k : Nat) : Bool :=
  (keyType k == 0x01 && keyOff k == 0x50) || (keyType k == 0x0B && keyOff k == 0x08 && decide (keyBit k < 7)) ||
    (keyType k == 0x04 && keyOff k == 0x58)

/-- The register fields a system reset keeps: besides those, spare remaps and spare-bad bits, `DMB_REPAIR` entries
(R267), the link and the configuration space (R462), and the count of refused tokens with its block (R481). -/
def keptAtSystem (k : Nat) : Bool :=
  keptAtPowerOn k || (keyType k == 0x10 && decide (0x40 ≤ keyOff k) && decide (keyOff k ≤ 0x48)) ||
    (keyType k == 0x12 && decide (0x80 ≤ keyOff k) && decide (keyOff k < 0xC0)) ||
    (keyType k == 0x12 && keyOff k == 0x08 && keyBit k == 6) || (keyType k == 0x03 && keyOff k == 0x08) ||
    (keyType k == 0x05 && keyOff k == 0x08 && decide (4 ≤ keyBit k) && decide (keyBit k < 7)) ||
    (keyType k == 0x02 && keyOff k == 0x5C && keyBit k == 16)

/-- The register fields a control reset clears: the HST_ mailbox registers, and the RES_ counters and event registers
(R462). -/
def clearedAtControl (k : Nat) : Bool :=
  (keyType k == 0x03 && decide (0x40 ≤ keyOff k) && decide (keyOff k < 0x100)) ||
    (keyType k == 0x0D && decide (0x44 ≤ keyOff k) && decide (keyOff k ≤ 0x58))

/-! ## Power-on reset (R456, R462, R470) -/

/-- The reset's cause is recorded, and its event goes to the logbook: CLASS 1, SOURCE 0x02, CODE the cause (R465). -/
def State.resetCause (s : State) (cause rail : Nat) : State :=
  (s.wr R.PWR_RESET_CAUSE.CAUSE 0 cause).wr R.PWR_RESET_CAUSE.RAIL 0 rail

/-- The event of the last reset's cause (R465). -/
def State.causeEvent (s : State) : LogEvent := ⟨0x02, 0, 1, s.rd R.PWR_RESET_CAUSE.CAUSE 0, s.rd R.PWR_RESET_CAUSE.RAIL 0, 0⟩

/-- Everything but the logbook is reset, and the device is in Standby, or in Off (R31, R462, R542). The queue of
commands, the outputs sent and the count of free values are the model's own. -/
def State.powerOn (s : State) (cause rail state : Nat) : State :=
  let base : State :=
    { pending := s.pending, outbox := s.outbox, freeUses := s.freeUses, challenges := s.challenges + 1, challengeAt := s.challenges + 1
      regs := s.regs.keep keptAtPowerOn
      logbook := s.logbook, records := s.records, health := s.health.keep (fun k => k / 2 ^ 40 == clsLog)
      control := { floor := s.control.floor }
      porst := s.porst, tripped := s.tripped }
  (base.resetCause cause rail).wr R.PWR_STATUS.DEV_STATE 0 state

/-- Standby is left for Service: the power-on count rises and the reset cause is logged (R31, R458, R465). -/
def State.enterService (s : State) : State :=
  let s1 := (s.wr R.PWR_STATUS.DEV_STATE 0 2).wr R.LOG_BOOT.COUNT 0 (s.rd R.LOG_BOOT.COUNT 0 + 1)
  { s1 with log := { queue := [s1.causeEvent] } }

/-- POWER_ON_RESET: PORST_N low, or a rail at its reset level, for which the board holds PORST_N low (R456, R457, R462).
In Off nothing runs. -/
def doPowerOnReset (rail : Option (Fin 5)) (s : State) : State :=
  let s := { s with porst := false }
  if s.rd R.PWR_STATUS.DEV_STATE 0 = 0 then s
  else
    match rail with
    | none => s.powerOn 1 0 1
    | some r => s.powerOn 3 r.val 1

/-- POWER_ON_RESET (R462). -/
def execPowerOnReset (rail : Option (Fin 5)) (s : State) : Host.Outcome State Fault Refusal := .next (doPowerOnReset rail s)

/-- VDD_AON_LOSS: the always-on domain resets, and the device is Off (R31, R456). -/
def execVddAonLoss (s : State) : Host.Outcome State Fault Refusal := .next ({ s with porst := false }.powerOn 2 0 0)

/-- VDD_AON_RISE: the device leaves Off for Standby (R31). -/
def doVddAonRise (s : State) : State := if s.rd R.PWR_STATUS.DEV_STATE 0 = 0 then s.wr R.PWR_STATUS.DEV_STATE 0 1 else s

/-- VDD_AON_RISE (R31). -/
def execVddAonRise (s : State) : Host.Outcome State Fault Refusal := .next (doVddAonRise s)

/-- PORST_N_RISE: the straps are latched, and unless the thermal comparator holds it the device enters Service (R191,
R457, R458, R470). -/
def doPorstNRise (straps : BitVec 8) (s : State) : State :=
  if s.rd R.PWR_STATUS.DEV_STATE 0 ≠ 1 ∨ s.porst then s
  else
    let v := straps.toNat
    let s1 := (({ s with porst := true }.wr R.DEV_STRAPS.CAS_ID 0 (bitsOf v 0 6)).wr R.DEV_STRAPS.MASTER_SEL 0
      (bitOf v 6)).wr R.DEV_STRAPS.IO_PARK 0 (bitOf v 7)
    let s2 := (s1.wr R.CAS_STATUS.ID 0 (bitsOf v 0 6)).wr R.CAS_STATUS.MASTER 0 (bitOf v 6)
    if s2.tripped then s2 else s2.enterService

/-- PORST_N_RISE (R458). -/
def execPorstNRise (straps : BitVec 8) (s : State) : Host.Outcome State Fault Refusal := .next (doPorstNRise straps s)

/-- THERMAL_TRIP: a power-on reset, after which the device stays in Standby (R470). -/
def doThermalTrip (s : State) : State :=
  if s.rd R.PWR_STATUS.DEV_STATE 0 = 0 then s
  else if s.rd R.PWR_STATUS.DEV_STATE 0 = 1 then { s with tripped := true }
  else { s with tripped := true }.powerOn 4 0 1

/-- THERMAL_TRIP (R470). -/
def execThermalTrip (s : State) : Host.Outcome State Fault Refusal := .next (doThermalTrip s)

/-- THERMAL_TRIP_CLEAR: below 95 °C the device leaves Standby if nothing else holds it there (R31, R470). -/
def doThermalTripClear (s : State) : State :=
  if !s.tripped then s
  else
    let s1 := { s with tripped := false }
    if s1.porst && s1.rd R.PWR_STATUS.DEV_STATE 0 == 1 then s1.enterService else s1

/-- THERMAL_TRIP_CLEAR (R470). -/
def execThermalTripClear (s : State) : Host.Outcome State Fault Refusal := .next (doThermalTripClear s)

/-- CORE_PLL_LOCK: the time base begins to count, the boot ROM sets the routes of the minimum service set and targets
sources 180, 185 and 187 at MSI-X vector 0 (R33, R385, R409, R458). A lock that comes back only shows in `PWR_CLOCKS` (R474). -/
def doCorePllLock (s : State) : State :=
  if s.rd R.PWR_STATUS.DEV_STATE 0 < 2 ∨ s.on R.PWR_CLOCKS.CORE_PLL 0 then s
  else if s.timeRuns then s.wr R.PWR_CLOCKS.CORE_PLL 0 1
  else
    let s1 := ({ s.wr R.PWR_CLOCKS.CORE_PLL 0 1 with timeRuns := true }).setRoutes [8, 34, 36, 37, 41, 43]
    [180, 185, 187].foldl (fun (s : State) n => (s.wr (R.IRQ_TARGET.KIND n) 0 3).wr (R.IRQ_TARGET.INDEX n) 0 0) s1

/-- CORE_PLL_LOCK (R458). -/
def execCorePllLock (s : State) : Host.Outcome State Fault Refusal := .next (doCorePllLock s)

/-! ## System and control reset (R462 to R465, R516, R542) -/

/-- The CAUSE of a reset by command: from the host, or from the debug path. -/
def commandCause (a : Accessor) (kind : Nat) : Nat := (if kind = 1 then 5 else 7) + b2n (viaDebug a)

/-- A system reset (R462, R542). -/
def State.systemReset (s : State) (cause : Nat) : State :=
  let base : State :=
    { pending := s.pending, outbox := s.outbox, freeUses := s.freeUses, challenges := s.challenges + 1, challengeAt := s.challenges + 1
      regs := s.regs.keep keptAtSystem
      logbook := s.logbook, records := s.records, health := s.health.keep (fun k => k / 2 ^ 40 == clsLog)
      control := { floor := s.control.floor, lost := s.control.lost }
      msixFuncMask := s.msixFuncMask, pcie := s.pcie, tap := s.tap, dipLow := s.dipLow
      porst := s.porst, tripped := s.tripped }
  let s1 := (base.resetCause cause 0).wr R.PWR_STATUS.DEV_STATE 0 2
  { s1 with log := { queue := [s1.causeEvent], aon := s.log.aon } }.spareCounts

/-- A control reset (R462, R464, R516, R542). -/
def State.controlReset (s : State) (cause : Nat) : State :=
  let s1 : State := { s with
    regs := s.regs.keep (fun k => !clearedAtControl k)
    control := { floor := s.control.floor, lost := s.control.lost, zeroDue := s.control.zeroDue }
    health := s.health.keep (fun k => k / 2 ^ 40 != clsControl)
    selects := s.selects.keep (fun k => k / 32 != 1)
    staging := s.staging.keep (fun k => k / 2 ^ 40 != 1)
    captures := s.captures.keep (fun k => k / 2 ^ 40 != 1)
    hiCaptures := s.hiCaptures.keep (fun k => k / 2 ^ 40 != 1)
    quayReqs := s.quayReqs.filter (fun r => !(decide (8 ≤ r.1) && decide (r.1 < 12)))
    nocLocked := false }
  let s2 := (List.range 4).foldl (fun (s : State) k => s.setIrqStack k []) s1
  let s3 := (s2.rearmSource 185).resetCause cause 0
  s3.logQueue s3.causeEvent

/-- A write of `PWR_RESET_CMD` with KEY 0x5E7A and KIND 1 or 2 takes effect only from the host or the debug path; its
response is sent before the reset begins (R463). -/
def doResetCommand (a : Accessor) (kind : Nat) (s : State) : State :=
  if a = .host ∨ viaDebug a then
    let s1 := s.respond a true 0
    if kind = 1 then s1.systemReset (commandCause a 1) else s1.controlReset (commandCause a 2)
  else s.refuseWrite a .pwr 0 0x40 5

end Sys2Proof.Machine
end

