-- ==== Sys2Proof/Machine/Resil.lean ====
section
/-! DEFINITION. Machine/Resil.lean: the scrubbers, refetch and remap (R235 to R241), rejoining (R249), and riding through a
supply dip (R258 to R261). -/

namespace Sys2Proof.Machine
open Sys2Proof

/-! ## The instruction store (R235 to R239) -/

/-- IS_WRITEBACK: the berry's service slot writes the oldest corrected word back (R235, R236). -/
def doIsWriteback (n b : Nat) (s : State) : State :=
  let berry := s.physBunch n * 17 + s.physBerry n b
  match s.isWritebacks.find? (fun k => k / 65536 == berry) with
  | none => s
  | some k =>
    let s1 := { s with isWritebacks := s.isWritebacks.filter (fun x => x != k) }
    if s.ecc clsIstore k = 1 then s1.setEcc clsIstore k 0 else s1

/-- IS_WRITEBACK (R235). -/
def execIsWriteback (n : Fin 64) (b : Fin 16) (s : State) : Host.Outcome State Fault Refusal :=
  .next (doIsWriteback n b s)

/-- Whether a corrected word of a berry waits for its write-back (R235, R236). -/
def State.writebackWaits (s : State) (n b : Nat) : Bool :=
  s.isWritebacks.any (fun k => k / 65536 == s.physBunch n * 17 + s.physBerry n b)

/-- The scrubber reads a step block of a berry: correctable words are written back and counted, uncorrectable ones are
counted and left for the firmware's refetch (R236, R237, R243); in a member that rejoins beyond its repair they end the JOIN
(R249). -/
def State.scrubBlock (s : State) (p n b st : Nat) : State :=
  let base := healthKey clsIstore (s.isAt n b st 0)
  let bad := s.health.range base (base + 64)
  let ce := bad.filter (fun e => e.2 == 1)
  let ue := bad.filter (fun e => decide (2 ≤ e.2))
  let s1 := ce.foldl (fun s e => s.setEcc clsIstore (e.1 - healthKey clsIstore 0) 0) s
  let s2 := (s1.count R.RES_IS_CE_COUNT.COUNT 0 ce.length).count R.RES_IS_UE_COUNT.COUNT 0 ue.length
  let s3 := if ce.isEmpty then s2 else s2.absorbed p 0
  match ue with
  | [] => s3
  | e :: _ =>
    let s4 := s3.resEvent p ⟨1, n, b, st, 0, globalPip n b (e.1 - base)⟩ 1
    if 2 ≤ (s.part p).rejoin then s4.failJoin p else s4

/-- IS_SCRUB_READ (R236): over steps 0 to D − 1 of partitions in states Loaded to Halted, in a service slot that no write-back of
the berry waits for. -/
def doIsScrubRead (n b st : Nat) (u : List Upset) (s : State) : State :=
  let s := s.upset u
  match s.holderOf n with
  | none => s
  | some p =>
    if s.on R.RES_CTRL.IS_SCRUB_EN 0 && decide (2 ≤ s.pstate p) && decide (st < s.depth p) && !s.writebackWaits n b then
      s.scrubBlock p n b st
    else s

/-- IS_SCRUB_READ (R236). -/
def execIsScrubRead (n : Fin 64) (b : Fin 16) (st : Fin 1024) (u : List Upset) (s : State) :
    Host.Outcome State Fault Refusal :=
  .next (doIsScrubRead n b st u s)

/-- Whether the partition or group is stalled for a refetch of a step (R238). -/
def State.refetching (s : State) (p st : Nat) : Bool :=
  (s.part p).waits &&& causeRefetch != 0 && (s.part p).step == st

/-- The detected fetch error of a stalled partition. -/
def fetchError (n b st i : Nat) : DataError := ⟨1, n, b, st, 0, globalPip n b i⟩

/-- The stall for a refetch ends once the step's fetch is good (R238). -/
def State.refetchGood (s : State) (p st : Nat) : State :=
  if s.refetching p st && (s.badFetches p st 2).isEmpty then (s.unhold p causeRefetch).absorbed p 1 else s

/-- REFETCH_COMPLETE: the firmware, while it runs, has read the word from the staging copy and checked its seal (R238).
A good word is stored with new ECC. `badAgain`: the repeated fetch is uncorrectable again, and the berry is remapped
if its spare is ready (R239). -/
def doRefetchComplete (n b st i : Nat) (w : W128) (chk : BitVec 16) (badAgain : Bool) (s : State) : State :=
  if s.rd R.HST_MBX_STATUS.FW_STATE 0 != 2 then s
  else
    match s.holderOf n with
    | none => s
    | some p =>
      let stalled := s.refetching p st
      if sealOf w != chk then
        let s1 := s.logEvent 0x0D p openClass evSeal n st
        if stalled then s1.unabsorbed p (fetchError n b st i) st
        else if (s.part p).rejoin = 1 then s1.failJoin p
        else s1
      else
        let k := s.isAt n b st i
        let s1 := { s with istore := SMap.set idleWord s.istore k w }.setEcc clsIstore k (if badAgain then 2 else 0)
        if badAgain then
          if s.spareReady n then s1.modPart p (fun x => { x with refetched := true })
          else if stalled then s1.unabsorbed p (fetchError n b st i) st
          else if (s.part p).rejoin = 1 then s1.failJoin p
          else s1
        else if stalled then s1.refetchGood p st
        else s1.absorbed p 1

/-- REFETCH_COMPLETE (R238). -/
def execRefetchComplete (n : Fin 64) (b : Fin 16) (st : Fin 1024) (i : Fin 64) (w : W128) (chk : BitVec 16)
    (badAgain : Bool) (s : State) : Host.Outcome State Fault Refusal :=
  .next (doRefetchComplete n b st i w chk badAgain s)

/-- The first uncorrectable row of a berry below D (R239). -/
def State.badRow (s : State) (n b d : Nat) : Option Nat :=
  (List.range d).find? (fun r => decide (2 ≤ s.ecc clsRow (s.rowAt n b r)))

/-- BERRY_REMAP_DONE: rows and instructions stand in the spare and `ORC_BERRY_REMAP` is written; or a row could not be
corrected, which is a detected data error at the stalled step (R239). In FW_STATE 3 it waits (R383). -/
def doBerryRemapDone (n b : Nat) (s : State) : State :=
  match s.holderOf n with
  | none => s
  | some p =>
    let x := s.part p
    let stalled := s.refetching p x.step
    if s.rd R.HST_MBX_STATUS.FW_STATE 0 == 3 || !x.refetched || !s.spareReady n || !(stalled || x.rejoin == 1) then s
    else
      match s.badRow n b (s.depth p) with
      | some r =>
        let e : DataError := ⟨2, n, b, r, 0, globalPip n b 0⟩
        let s1 := (s.countError e).modPart p (fun y => { y with refetched := false })
        if stalled then (s1.unhold p causeRefetch).errorAlone p e x.step else s1.failJoin p
      | none =>
        let s1 := (s.remapBerry n b (s.depth p)).modPart p (fun y => { y with refetched := false })
        let s2 := (s1.resEvent p (fetchError n b x.step 0) 2).degraded p 2
        if stalled then s2.refetchGood p x.step else s2

/-- BERRY_REMAP_DONE (R239). -/
def execBerryRemapDone (n : Fin 64) (b : Fin 16) (s : State) : Host.Outcome State Fault Refusal :=
  .next (doBerryRemapDone n b s)

/-! ## The step store (R241) -/

/-- SS_SCRUB_READ: in Loaded, Armed, Stopped and Halted, over rows 0 to D − 1 (R241). An error in a member that rejoins ends the
JOIN (R249). -/
def doSsScrubRead (n b r : Nat) (u : List Upset) (s : State) : State :=
  let s := s.upset u
  match s.holderOf n with
  | none => s
  | some p =>
    let st := s.pstate p
    if !s.on R.RES_CTRL.SS_SCRUB_EN 0 || decide (s.depth p ≤ r) || !(st == 2 || st == 3 || st == 5 || st == 8) then s
    else
      let k := s.rowAt n b r
      match s.ecc clsRow k with
      | 0 => s
      | 1 => ((s.setEcc clsRow k 0).count R.RES_SS_CE_COUNT.COUNT 0 1).absorbed p 0
      | _ =>
        let e : DataError := ⟨2, n, b, r, 0, globalPip n b 0⟩
        if 2 ≤ (s.part p).rejoin then (s.resEvent p e 0).failJoin p
        else (s.resEvent p e 0).modPart p (fun x => { x with pendErr := some e })

/-- SS_SCRUB_READ (R241). -/
def execSsScrubRead (n : Fin 64) (b : Fin 16) (r : Fin 1024) (u : List Upset) (s : State) :
    Host.Outcome State Fault Refusal :=
  .next (doSsScrubRead n b r u s)

/-! ## Rejoining (R249) -/

/-- A refused `RES_CMD` command (R269). -/
def State.refuseRes (s : State) (a : Accessor) : State := (s.errReg a .res 0 0x40 5).respond a true 0

/-- JOIN: refused while a command runs, and as R249 gives. -/
def doJoin (a : Accessor) (p : Nat) (s : State) : State :=
  if s.on R.RES_STATUS.CMD_BUSY 0 || !s.mayJoin p then s.refuseRes a else (s.beginJoin p).respond a true 0

/-- Whether no uncorrectable instruction word is left in a member's berries. -/
def State.repaired (s : State) (m : Nat) : Bool :=
  (s.bunches m).all fun n => (List.range 16).all fun b =>
    let base := healthKey clsIstore (s.isAt n b 0 0)
    (s.health.range base (base + 65536)).all (fun e => decide (e.2 < 2))

/-- One word of the bank copy to the joiner j (R249); a word of the source that cannot be read ends the JOIN. -/
def State.copyBankWord (s : State) (j src dst w : Nat) : State :=
  if (s.part j).rejoin != 2 then s
  else
    match s.readBank src w 63 with
    | (some v, s1) => s1.writeBank dst w v false
    | (none, s1) => s1.failJoin j

/-- The bank copy: each bank of the source goes into the joiner's corresponding bank (R249). -/
def State.copyBanks (s : State) (src j : Nat) : State :=
  ((s.bunches src).filter (fun n => s.berthNames n 1 src && s.berthNames (s.corresponds src j n) 1 j)).foldl
    (fun s n => (List.range bankWords).foldl (fun s w => s.copyBankWord j n (s.corresponds src j n) w) s) s

/-- REJOIN_PHASE_END: the repair ends when every word is repaired, the bank copy when every word is copied; the row copy
and the registers end at the boundary (R249). -/
def doRejoinPhaseEnd (p : Nat) (s : State) : State :=
  if s.rd (R.RES_GROUP.MSTATE p) 0 != 2 then s
  else
    match (s.part p).rejoin with
    | 1 => if s.repaired p then s.modPart p (fun x => { x with rejoin := 2 }) else s
    | 2 =>
      if (s.activeMembers (s.leadOf p)).isEmpty then s.failJoin p
      else
        let s1 := s.copyBanks (s.actingOf (s.leadOf p)) p
        if (s1.part p).rejoin = 2 then s1.modPart p (fun x => { x with rejoin := 3 }) else s1
    | _ => s

/-- REJOIN_PHASE_END (R249). -/
def execRejoinPhaseEnd (p : Fin 64) (s : State) : Host.Outcome State Fault Refusal := .next (doRejoinPhaseEnd p s)

/-! ## Supply dips (R258 to R261) -/

/-- Every partition in Armed or Running enters Frozen (R114, R258). A freeze within a stall that is running breaks the time of a
free-running partition (R89). -/
def State.freezeAll (s : State) : State :=
  (List.range 64).foldl (fun s p =>
    if !s.isFollower p && (s.pstate p == 3 || s.pstate p == 4) then
      let s1 := ((s.modPart p (fun x => { x with frozenFrom := s.pstate p })).setState p 6).raise .prt p 6
      if (s.part p).ledger.realFrom.isSome then s1.freeRunBreak p else s1
    else s) s

/-- The retention check begins (R259). -/
def State.beginCheck (s : State) (byCmd : Bool) : State :=
  { (s.wr R.RES_STATUS.DIP_STATE 0 2).wr R.RES_STATUS.CMD_BUSY 0 (if byCmd then 1 else s.rd R.RES_STATUS.CMD_BUSY 0)
    with checkByCmd := byCmd }

/-- A check that a command began is over, or abandoned. -/
def State.checkOver (s : State) : State :=
  { (if s.checkByCmd then s.wr R.RES_STATUS.CMD_BUSY 0 0 else s) with checkByCmd := false }

/-- CHECK (R261). -/
def doCheck (a : Accessor) (s : State) : State :=
  if s.on R.RES_STATUS.CMD_BUSY 0 then s.refuseRes a else (s.beginCheck true).respond a true 0

/-- VDD_CORE_WARNING (R258, R261): a crossing before the supply has risen again belongs to the same dip. `tick`: the
cascade tick of the freeze (R225). -/
def doVddCoreWarning (tick : Nat) (s : State) : State :=
  let s1 := s.freezeAll
  if s.dipLow then s1
  else
    let first := ((List.range 64).find? (fun p => s1.pstate p == 6)).getD 0
    let s2 := { ((s1.checkOver.wr R.RES_STATUS.DIP_STATE 0 1).resEvent first ⟨5, 0, 0, 0, 0, 0⟩ 0) with
      dipLow := true
      dipFrom := s.tb
      dipTick := tick
      dipPassed := false
      haltDip := s.haltDip || s.emuStopped }
    (s2.raise .res 0 5).logEvent 0x0D 0 1 evDip 0 0

/-- VDD_CORE_WARNING (R258). -/
def execVddCoreWarning (tick : BitVec 64) (s : State) : Host.Outcome State Fault Refusal :=
  .next (doVddCoreWarning tick.toNat s)

/-- VDD_CORE_RECOVERY: the supply rises above 0.715 V, `us` µs after it fell below it; within the window the retention
check begins (R258). -/
def doVddCoreRecovery (us : Nat) (s : State) : State :=
  if s.dipLow then
    let s1 := { s.wrSat R.RES_DIP_US.US 0 us with dipLow := false }
    if s.rd R.RES_STATUS.DIP_STATE 0 = 1 then s1.beginCheck false else s1
  else s

/-- VDD_CORE_RECOVERY (R258). -/
def execVddCoreRecovery (us : Fin 65536) (s : State) : Host.Outcome State Fault Refusal :=
  .next (doVddCoreRecovery us s)

/-- DIP_WINDOW_EXPIRY (R258): the supply is still at or below 0.715 V. -/
def doDipWindowExpiry (s : State) : State :=
  if s.dipLow && s.rd R.RES_STATUS.DIP_STATE 0 == 1 then s.wr R.RES_STATUS.DIP_STATE 0 3 else s

/-- DIP_WINDOW_EXPIRY (R258). -/
def execDipWindowExpiry (s : State) : Host.Outcome State Fault Refusal := .next (doDipWindowExpiry s)

/-- Rows that the retention check reads: rows 0 to D − 1 of every frozen partition's berries (R259), as key ranges. -/
def State.checkedRows (s : State) : List (Nat × Nat) :=
  ((List.range 64).filter (fun p => s.pstate p == 6)).flatMap fun p =>
    (s.bunches p).flatMap fun n => (List.range 16).map fun b => (s.rowAt n b 0, s.rowAt n b 0 + s.depth p)

/-- Whether a physical bank word is reached by some word index of its bank (R154). -/
def State.reachable (s : State) (b phys : Nat) : Bool :=
  if phys < bankWords then (s.spareFor b (phys / 8)).isNone
  else
    let k := (phys - bankWords) / 8
    s.on (R.DMB_REPAIR.VALID k) b && s.spareFor b (s.rd (R.DMB_REPAIR.ROW k) b) == some k

/-- The word index that reaches a physical bank word (R154). -/
def State.wordIndex (s : State) (b phys : Nat) : Nat :=
  if phys < bankWords then phys else s.rd (R.DMB_REPAIR.ROW ((phys - bankWords) / 8)) b * 8 + phys % 8

/-- Whether an entry of the check overlay lies in what the retention check reads (R259): rows of frozen partitions, words of
banks berthed to a partition. Words under test are read from the holding buffer (R149). -/
def State.checkReads (s : State) (rows : List (Nat × Nat)) (k : Nat) : Bool :=
  let cls := k / 2 ^ 40
  let i := k % 2 ^ 40
  if cls = clsRow then rows.any (fun r => decide (r.1 ≤ i) && decide (i < r.2))
  else if cls = clsBank then
    let b := i / 2 ^ 19
    s.rd R.DMB_BERTH.KIND b == 1 && s.reachable b (i % 2 ^ 19) && !s.heldRead b (s.wordIndex b (i % 2 ^ 19))
  else false

/-- Whether the check reads words of a bank from the tester's holding buffer (R149, R259). -/
def State.checksHeld (s : State) (b : Nat) : Bool :=
  s.rd R.DMB_BERTH.KIND b == 1 && s.heldRead b ((s.bank b).tester.region * 64)

/-- Whether a holding buffer that the check reads holds an uncorrectable word. -/
def State.heldBad (s : State) : Bool :=
  (List.range 64).any fun b => s.checksHeld b && (s.bank b).tester.heldEcc.any (fun e => decide (2 ≤ e.2))

/-- The correctable words of the holding buffers that the check reads are rewritten (R149, R259). -/
def State.rewriteHeld (s : State) : State :=
  (List.range 64).foldl (fun s b =>
    if s.checksHeld b then
      s.modBank b (fun k => { k with tester := { k.tester with heldEcc := k.tester.heldEcc.filter (fun e => e.2 != 1) } })
    else s) s

/-- Whether retention is good: no canary fails, and nothing read is uncorrectable (R259, R260). -/
def State.retentionGood (s : State) : Bool :=
  let rows := s.checkedRows
  !s.health.any (fun e => s.checkReads rows e.1 && decide (2 ≤ e.2)) && !s.heldBad && !s.canaryFails

/-- The check rewrites every correctable word it finds, and every canary with its pattern (R259, R260). -/
def State.rewriteChecked (s : State) : State :=
  let rows := s.checkedRows
  { s.rewriteHeld with canary := [], health := s.health.filter (fun e => !(s.checkReads rows e.1 && e.2 == 1)) }

/-- Every frozen partition resumes (R114, R261). -/
def State.resumeAll (s : State) : State :=
  (List.range 64).foldl (fun s p => if s.isFollower p then s else s.unfreeze p) s

/-- RETENTION_CHECK_DONE (R259, R261). -/
def doRetentionCheckDone (u : List Upset) (s : State) : State :=
  let s := s.upset u
  if s.rd R.RES_STATUS.DIP_STATE 0 != 2 then s
  else if s.retentionGood then
    let s1 := { ((s.rewriteChecked.checkOver).wr R.RES_STATUS.RETENTION 0 1).absorbed 0 5 with dipPassed := true }
    if s1.on R.RES_CTRL.AUTO_RESUME 0 then (s1.resumeAll.wr R.RES_STATUS.DIP_STATE 0 0).raise .res 0 9
    else s1.wr R.RES_STATUS.DIP_STATE 0 (if (List.range 64).any (fun p => s1.pstate p == 6) then 3 else 0)
  else
    let s1 := (((s.rewriteChecked.checkOver).wr R.RES_STATUS.RETENTION 0 2).wr R.RES_STATUS.DIP_STATE 0 3)
    (s1.raise .res 0 6).logEvent 0x0D 0 2 evRetention 0 0

/-- RETENTION_CHECK_DONE (R259). -/
def execRetentionCheckDone (u : List Upset) (s : State) : Host.Outcome State Fault Refusal :=
  .next (doRetentionCheckDone u s)

end Sys2Proof.Machine
end

