-- ==== Sys2Proof/Machine/Time.lean ====
section
/-! DEFINITION. Machine/Time.lean: the time base, its lock, slew and holdover, and the steps that move the grids of partition
timers (R432 to R439). -/

namespace Sys2Proof.Machine
open Sys2Proof

/-! ## The rate (R433, R436) -/

/-- The clamp of the effective rate: ±1,000 ppm in units of 2^−40 (R433). -/
def rateClamp : Int := 1099511627

/-- `TIM_RATE`, signed. -/
def State.rate (s : State) : Int := signedOf 32 (s.rd R.TIM_RATE.RATE 0)

/-- `TIM_SLEW` in units of 2^−40, rounded down as the clamp of R433 is (log entry 50). -/
def State.slewRate (s : State) : Int := (2 ^ 40 * s.rd R.TIM_SLEW.PPM 0 / 1000000 : Nat)

/-- The effective rate (R433, R436). -/
def State.effective (s : State) : Int :=
  let r :=
    if s.timeRemain = 0 then s.rate
    else if 0 < s.timeRemain then s.rate + s.slewRate
    else s.rate - s.slewRate
  max (-rateClamp) (min rateClamp r)

/-- What the slew adds to the time base on one core cycle, in units of 2^−56 ns. -/
def State.slewStep (s : State) : Int := 65536 * (s.effective - s.rate)

/-- TIM_STATUS and `TIM_REMAIN` as the time base stands (R434, R447). -/
def State.showTime (s : State) (st : Nat) : State :=
  (((s.wr R.TIM_STATUS.STATE 0 st).wr R.TIM_STATUS.LOCKED 0 (b2n (st != 0))).wr R.TIM_STATUS.SLEWING 0
    (b2n (s.timeRemain != 0))).wr64 R.TIM_REMAIN_LO.OFFSET R.TIM_REMAIN_HI.OFFSET 0
    (ofSigned 64 (s.timeRemain / 2 ^ 40))

/-- STATE of the time base (R434). -/
def State.timeState (s : State) : Nat := s.rd R.TIM_STATUS.STATE 0

/-- HOLDOVER is entered (R437). -/
def State.enterHoldover (s : State) : State := (s.showTime 2).raise .tim 0 2

/-- The watch has expired (R437): a slew in progress is kept. -/
def State.watchExpires (s : State) : State :=
  if s.timeState = 1 ∧ s.rd R.TIM_WATCH_MS.MS 0 ≠ 0 then s.enterHoldover else s

/-- The time base's advance of one core cycle (R433, R436), and the watch (R437). -/
def State.timeCycle (s : State) : State :=
  if !s.timeRuns then s
  else
    let d := s.slewStep
    let last := s.timeRemain != 0 && d != 0 && decide (s.timeRemain.natAbs ≤ d.natAbs)
    let add : Int := if last then s.timeRemain else d
    let s1 := { s with
      tb := (s.tb + (2 ^ 56 + 65536 * s.rate + add)).toNat
      timeRemain := s.timeRemain - add, timeSince := s.timeSince + 1 }
    let s2 := if s.timeRemain = 0 then s1 else s1.showTime s1.timeState
    if 1000000 * s2.rd R.TIM_WATCH_MS.MS 0 ≤ s2.timeSince then s2.watchExpires else s2

/-- SLEW_COMPLETE: the core cycles that the remaining offset takes have passed (R436). Where the clamp leaves no room the
offset waits unchanged. -/
def doSlewComplete (s : State) : State :=
  let d := s.slewStep
  if s.timeRemain = 0 ∨ d = 0 then s
  else
    let n := (s.timeRemain.natAbs + d.natAbs - 1) / d.natAbs
    let s1 := { s with
      tb := (s.tb + (n * (2 ^ 56 + 65536 * s.rate) + s.timeRemain)).toNat
      timeRemain := 0, timeSince := s.timeSince + n, coreTicks := s.coreTicks + n }
    s1.showTime s1.timeState

/-- SLEW_COMPLETE (R436). -/
def execSlewComplete (s : State) : Host.Outcome State Fault Refusal := .next (doSlewComplete s)

/-- HOLDOVER_WATCH_EXPIRY (R437). -/
def execHoldoverWatchExpiry (s : State) : Host.Outcome State Fault Refusal := .next s.watchExpires

/-! ## Steps (R435, R439) -/

/-- Move a grid by an amount; where its next instant would fall below the time base's zero, the first one at or above it
is next. -/
def shiftGrid (o : Int) (period : Nat) (x : Part) : Part :=
  let e := (x.gridNext : Int) + o
  if 0 ≤ e then { x with gridNext := e.toNat }
  else { x with gridNext := (e + (((-e).toNat + (period - 1)) / max period 1 * period : Nat)).toNat }

/-- Move the grids of the timers with PTP_LOCK = 0 (R439). -/
def State.shiftGrids (s : State) (o : Int) : State :=
  (List.range 64).foldl (fun (s : State) p =>
    if s.on R.PRT_CTRL.PTP_LOCK p then s else s.modPart p (shiftGrid o (s.timerPeriod p))) s

/-- The time base takes a value in 1/65,536 ns, or, where that falls outside its format, a free value. -/
def State.setTime (s : State) (t : Int) : State :=
  if 0 ≤ t ∧ t < 2 ^ 64 * 1000000000 * 65536 then { s with tb := 2 ^ 40 * t.toNat + s.tb % 2 ^ 40 }
  else
    let (f, s1) := s.free
    { s1 with tb := 2 ^ 40 * timeOf f }

/-- A step in FREE by an amount in 1/65,536 ns (R435, R439), with its logbook entry. -/
def State.stepTime (s : State) (o : Int) : State :=
  ((({ s with timeRemain := 0 }.setTime ((s.now : Int) + o)).shiftGrids o).showTime s.timeState).logEvent 0x09 0 1 evTime 0
    (ofSigned 64 o)

/-- The partitions that wait for lock (R91). -/
def State.lockPartitions (s : State) : State :=
  (List.range 64).foldl (fun (s : State) p =>
    if s.on R.PRT_STATUS.WAIT_LOCK p then
      (s.wr R.PRT_STATUS.WAIT_LOCK p 0).modPart p (fun x => { x with gridNext := gridFrom x.gridNext (s.timerPeriod p) s.now })
    else s) s

/-- A lock from FREE (R435). -/
def State.lockTime (s : State) (o : Int) : State :=
  let s1 := { s.stepTime o with timeSince := 0 }
  ((((s1.showTime 1).wr128 R.TIM_LOCK_TIME.TIME0 R.TIM_LOCK_TIME.TIME1 R.TIM_LOCK_TIME.TIME2 R.TIM_LOCK_TIME.TIME3 0
    (timeWord s1.now)).raise .tim 0 0)).lockPartitions

/-- An accepted OFFSET in LOCKED or HOLDOVER (R436, R437). -/
def State.acceptOffset (s : State) (o : Int) : State :=
  let s1 := { s with timeRemain := 2 ^ 40 * o, timeSince := 0 }
  if s.timeState = 2 then (s1.showTime 1).raise .tim 0 3 else s1.showTime 1

/-- A refused OFFSET (R437). -/
def State.refuseOffset (s : State) (o : Int) : State :=
  let s1 := (({ s with timeRemain := 0 }.wr64 R.TIM_REFUSED_LO.OFFSET R.TIM_REFUSED_HI.OFFSET 0
    (ofSigned 64 o)).count R.TIM_REFUSALS.COUNT 0 1)
  let s2 := if s.timeState = 1 then s1.enterHoldover else s1.showTime 2
  (s2.raise .tim 0 1).logEvent 0x09 0 1 evTime 1 (ofSigned 64 o)

/-! ## TIM_CMD (R434 to R438) -/

/-- The offset in `TIM_OFFSET`, in 1/65,536 ns (R435). -/
def State.offsetValue (s : State) : Int := signedOf 64 (s.rd64 R.TIM_OFFSET_LO.OFFSET R.TIM_OFFSET_HI.OFFSET 0)

/-- OFFSET (R434 to R437). -/
def doOffset (a : Accessor) (s : State) : State :=
  let o := s.offsetValue
  let s1 :=
    if s.timeState = 0 then s.lockTime o
    else if o.natAbs ≤ 65536 * s.rd R.TIM_STEP_LIMIT.NS 0 then s.acceptOffset o
    else s.refuseOffset o
  s1.respond a true 0

/-- Whether UNLOCK is refused (R438): a partition on network time is Armed, Running, Stopped, Frozen or Halted. -/
def State.timeHeld (s : State) : Bool :=
  (List.range 64).any (fun p => s.on R.PRT_CTRL.PTP_LOCK p && decide (3 ≤ s.pstate p) && decide (s.pstate p ≤ 8) &&
    s.pstate p != 7)

/-- UNLOCK (R438): a slew in progress ends with it. -/
def doUnlock (a : Accessor) (s : State) : State :=
  if s.timeHeld then s.refuseWrite a .tim 0 0x40 5
  else
    ((({ s with timeRemain := 0 }.showTime 0)).logEvent 0x09 0 1 evTime 2 0).respond a true 0

/-- SET (R435, R438, R439). A TIM_SET outside the time base's format loads a free value. -/
def doSet (a : Accessor) (s : State) : State :=
  if s.timeState ≠ 0 then s.refuseWrite a .tim 0 0x40 5
  else
    let w := s.rd128 R.TIM_SET.TIME0 R.TIM_SET.TIME1 R.TIM_SET.TIME2 R.TIM_SET.TIME3 0
    let v : Int := if bitsOf w.toNat 32 32 < 1000000000 then (timeOf w : Nat) else -1
    let s1 := if 0 ≤ v then { s with tb := 2 ^ 40 * s.now } else s
    (s1.stepTime (v - (s.now : Int))).respond a true 0

/-- A write to `TIM_CMD` by its value (R447); 0 commands nothing. -/
def doTimCmd (a : Accessor) (v : Nat) (s : State) : State :=
  match bitsOf v 0 2 with
  | 1 => doOffset a s
  | 2 => doUnlock a s
  | 3 => doSet a s
  | _ => s.respond a true 0

/-- A write to `TIM_RATE` (R434, R438, R447). -/
def doRateWrite (a : Accessor) (v : W32) (s : State) : State :=
  if s.timeState = 2 ∨ rateClamp.natAbs < (signedOf 32 v.toNat).natAbs then s.refuseWrite a .tim 0 0x44 4
  else (s.wr R.TIM_RATE.RATE 0 v.toNat).respond a true 0

/-- A write to `TIM_SLEW` (R447). -/
def doSlewWrite (a : Accessor) (v : Nat) (s : State) : State :=
  if bitsOf v 0 10 = 0 ∨ 1000 < bitsOf v 0 10 then s.refuseWrite a .tim 0 0x4C 4
  else (s.wr R.TIM_SLEW.PPM 0 (bitsOf v 0 10)).respond a true 0

/-- The registers of the TIM_ page at the resets that clear the time base (R432). -/
def State.resetTime (s : State) : State :=
  { s with tb := 0, timeRuns := false, timeRemain := 0, timeSince := 0 }

end Sys2Proof.Machine
end

