-- ==== Sys2Proof/Machine/RegWrites.lean ====
section
/-! DEFINITION. Machine/RegWrites.lean: a write of a register: SELECT, the MSI-X table, 128-bit values, the registers whose
write is a command or obeys a rule of its own, every other by its fields' access codes; and the gates of Access.lean before
each (R9 to R15, R120 to R122). -/

namespace Sys2Proof.Machine
open Sys2Proof

/-! ## Registers of any page -/

/-- A register without a rule of its own is written (R9, R11). -/
def State.writeAny (s : State) (a : Accessor) (p : Page) (ch off : Nat) (v : W32) : State :=
  (s.plainWrite a p ch off v.toNat).respond a true 0

/-- A write of a register that a condition refuses (CODE 4). -/
def State.writeUnless (s : State) (bad : Bool) (a : Accessor) (p : Page) (ch off : Nat) (v : W32) : State :=
  if bad then s.refuseWrite a p ch off 4 else s.writeAny a p ch off v

/-- SELECT is written: only the writer's shadow changes; a channel beyond the page's last is ignored and recorded in the
channel the shadow names (R120, R122, R515). -/
def State.writeSelect (s : State) (a : Accessor) (p : Page) (ch v : Nat) : State :=
  let c := bitsOf v 0 8
  if p.channels ≤ c then (s.errReg a p ch 0x14 6).respond a true 0
  else { s with selects := SMap.set 0 s.selects (selClassOf a * 32 + p.type) c }.respond a true 0

/-! ## The MSI-X table (R454) -/

/-- Pending messages that nothing holds back any longer are sent, and their bits clear (R454). -/
def State.sendPending (s : State) : State :=
  (onesOf 64 s.msixPending.toNat).foldl (fun (s : State) v =>
    if s.on R.HST_STATUS.MSIX_EN 0 && !s.msixFuncMask && !s.vectorMasked v then
      { s with msixPending := s.msixPending &&& ~~~BitVec.ofNat 64 (2 ^ v) }.emit (.msix v)
    else s) s

/-- The word of a vector's Vector Control is set: unmasking sends what is pending. -/
def State.setVectorControl (s : State) (v x : Nat) : State :=
  { s with msixTable := SMap.set 1#32 s.msixTable (v * 4 + 3) (BitVec.ofNat 32 (x % 2)) }.sendPending

/-- MSIX_UNMASK: Vector Control of a vector is written with its mask bit 0. -/
def doMsixUnmask (a : Accessor) (v : Nat) (s : State) : State := (s.setVectorControl v 0).respond a true 0

/-- A word of the table is written; the pending bits are read-only. Message addresses are aligned to 4 bytes. -/
def State.writeMsix (s : State) (a : Accessor) (off : Nat) (v : W32) : State :=
  let k := (off - 0x800) / 4
  if 0xC00 ≤ off then s.respond a true 0
  else if k % 4 = 3 then (s.setVectorControl (k / 4) v.toNat).respond a true 0
  else
    let x := if k % 4 = 0 then BitVec.ofNat 32 (v.toNat / 4 * 4) else v
    { s with msixTable := SMap.set 0#32 s.msixTable k x }.respond a true 0

/-! ## 128-bit values (R15) -/

/-- Whether a 128-bit value of a page can be written. -/
def wideWritable (p : Page) (b : Nat) : Bool :=
  match p with
  | .prt => true
  | .log => true
  | .tim => b == 0x70
  | .dbg => b == 0x90 || decide (0x100 ≤ b)
  | .acq => decide (0x100 ≤ b) && decide (b < 0x200)
  | _ => false

/-- A low or middle word is staged for the writer (R15). -/
def State.stageWord (s : State) (a : Accessor) (p : Page) (ch b k : Nat) (v : W32) : State :=
  let g := s.staged a p ch b
  let g' : Staged := match k with
    | 0 => { g with w0 := some v }
    | 1 => { g with w1 := some v }
    | _ => { g with w2 := some v }
  (s.setStaged a p ch b g').respond a true 0

/-- Whether applying a value would change an RW-L field of its four registers (R11). -/
def State.wideChangesLocked (s : State) (p : Page) (ch b : Nat) (w : W128) : Bool :=
  s.lockedReg p ch b && (List.range 4).any (fun k =>
    s.changesLocked ((fieldsAt p (b + 4 * k)).getD []) ch (wordOf w k))

/-- The four registers take a value together (R15); where RW-L fields are locked and would change, they keep it, and the
locked write is recorded once, at the high word (R11). -/
def State.applyWide (s : State) (a : Accessor) (p : Page) (ch b : Nat) (w : W128) : State :=
  if s.wideChangesLocked p ch b w then s.errReg a p ch (b + 12) 3
  else (List.range 4).foldl (fun (s : State) k =>
    s.writeFields a p ch (b + 4 * k) (wordOf w k) ((fieldsAt p (b + 4 * k)).getD [])) s

/-- The high word applies the value and empties the staging (R15). -/
def State.writeHigh (s : State) (a : Accessor) (p : Page) (ch b : Nat) (v : W32) : State :=
  let w := (s.staged a p ch b).apply (s.wideValue p ch b) v
  ((s.applyWide a p ch b w).setStaged a p ch b {}).respond a true 0

/-- A word of a 128-bit value is written; writes to a read-only value are ignored (R9, R15). -/
def State.writeWide (s : State) (a : Accessor) (p : Page) (ch off b : Nat) (v : W32) : State :=
  if !wideWritable p b then s.respond a true 0
  else if p = .acq ∧ s.acqRefuses ch off v.toNat then s.refuseWrite a p ch off 4
  else if off ≠ b + 12 then s.stageWord a p ch b ((off - b) / 4) v
  else if p = .dbg ∧ 0x100 ≤ b then doCoreRegisterWrite a ((b - 0x100) / 0x40) v s
  else s.writeHigh a p ch b v

/-! ## The pages' own rules -/

/-- PRT_ page (R78, R101, R104, R117, R168). -/
def State.writePrt (s : State) (a : Accessor) (p off : Nat) (v : W32) : State :=
  if off = 0x04 then
    s.writeUnless (s.pstate p == 2 && (s.part p).softSeen && bitOf v.toNat 8 == 1 && !s.on R.PRT_CTRL.HARD p) a .prt p off v
  else if off = 0x40 then doPrtCmd a p (bitsOf v.toNat 0 4) s
  else if off = 0x44 then doBunchesWrite a p false v s
  else if off = 0x48 then doBunchesWrite a p true v s
  else if off = 0x4C then doExchWrite a p v s
  else if off = 0x58 then doIsolateWrite a p v s
  else s.writeAny a .prt p off v

/-- `ORC_SPARE_STATUS`: the spare-bad bits are set by writing 1 (R75, R76, R519). -/
def State.writeSpareStatus (s : State) (a : Accessor) (n v : Nat) : State :=
  let s1 := if bitOf v 0 = 1 then s.wr R.ORC_SPARE_STATUS.BERRY_SPARE_BAD (s.physBunch n) 1 else s
  let s2 := if bitOf v 2 = 1 then s1.wr R.ORC_SPARE_STATUS.BUNCH_SPARE_BAD 0 1 else s1
  s2.spareCounts.respond a true 0

/-- ORC_ page (R75, R519). -/
def State.writeOrc (s : State) (a : Accessor) (n off : Nat) (v : W32) : State :=
  if off = 0x40 then doBerryRemapWrite a n v s
  else if off = 0x44 then doBunchRemapWrite a n v s
  else if off = 0x48 then s.writeSpareStatus a n v.toNat
  else s.writeAny a .orc n off v

/-- `DMB_CTRL`: JOURNAL_EN from 0 to 1 starts an empty journal (R155, R159). -/
def State.writeDmbCtrl (s : State) (a : Accessor) (b : Nat) (v : W32) : State :=
  let begins := bitOf v.toNat 1 == 1 && !s.on R.DMB_CTRL.JOURNAL_EN b
  let s1 := if begins then (s.wr R.DMB_STATUS.JOURNAL_FULL b 0).wr R.DMB_JOURNAL_COUNT.ENTRIES b 0 else s
  s1.writeAny a .dmb b 0x04 v

/-- DMB_ page (R141, R154, R158, R159). -/
def State.writeDmb (s : State) (a : Accessor) (b off : Nat) (v : W32) : State :=
  if off = 0x04 then s.writeDmbCtrl a b v
  else if off = 0x40 then doBerthWrite a b v s
  else if off = 0x60 then s.writeUnless (s.on R.DMB_CTRL.JOURNAL_EN b) a .dmb b off v
  else if off = 0x64 then
    s.writeUnless (s.on R.DMB_CTRL.JOURNAL_EN b || decide (16384 < bitsOf v.toNat 0 15)) a .dmb b off v
  else if 0x80 ≤ off ∧ off < 0xC0 then doRepairEntryWrite a b ((off - 0x80) / 4) v s
  else s.writeAny a .dmb b off v

/-- MDC_ page (R341 to R344). -/
def State.writeMdc (s : State) (a : Accessor) (m off : Nat) (v : W32) : State :=
  if off = 0x04 then s.writeMdcCtrl a m (bitOf v.toNat 0 == 1) (bitOf v.toNat 1 == 1)
  else if off = 0x48 then
    let starts := bitOf v.toNat 0 == 1 && !s.on R.MDC_WDT_CTRL.EN m
    (if starts then s.reloadWdt m else s).writeAny a .mdc m off v
  else if off = 0x4C then s.writeUnless (bitsOf v.toNat 0 24 == 0) a .mdc m off v
  else if off = 0x50 then doWdtKick a m v s
  else s.writeAny a .mdc m off v

/-- ACQ_ page (R412, R420, R421, R423, R425). -/
def State.writeAcq (s : State) (a : Accessor) (u off : Nat) (v : W32) : State :=
  if off = 0x40 then
    match bitsOf v.toNat 0 2 with
    | 1 => doArm a u s
    | 2 => doAcqStop a u s
    | 3 => doForce a u s
    | _ => s.refuseAcq a u
  else if off = 0x2C0 then doRdIndexWrite a u v s
  else s.writeUnless (s.acqRefuses u off v.toNat) a .acq u off v

/-- Whether a value of `RES_GROUPp` is refused (R250, R269). -/
def State.groupRefused (s : State) (p v : Nat) : Bool :=
  let role := bitsOf v 0 3
  let log := bitsOf v 17 5
  decide (4 < role) || (bitOf v 16 == 1 && (s.on R.PRT_CTRL.HARD p || role != 0)) || decide (log < 4) || decide (24 < log)

/-- RES_ page (R249, R250, R261, R269). -/
def State.writeRes (s : State) (a : Accessor) (off : Nat) (v : W32) : State :=
  if off = 0x40 then
    match bitsOf v.toNat 0 4 with
    | 1 => doJoin a (bitsOf v.toNat 8 6) s
    | 2 => doCheck a s
    | _ => s.refuseRes a
  else if 0x100 ≤ off ∧ off < 0x200 then
    s.writeUnless (!(s.part ((off - 0x100) / 4)).locked && s.groupRefused ((off - 0x100) / 4) v.toNat) a .res 0 off v
  else s.writeAny a .res 0 off v

/-- `CAS_CTRL`: JOIN = 1 waits for START, JOIN = 0 leaves and unlocks an idle unit (R230, R232). -/
def State.writeCasCtrl (s : State) (a : Accessor) (v : W32) : State :=
  if bitsOf v.toNat 11 2 = 3 ∧ !s.cas.locked then s.refuseWrite a .cas 0 0x04 4
  else
    let s1 := s.plainWrite a .cas 0 0x04 v.toNat
    let s2 :=
      if bitOf v.toNat 0 = 1 then
        if s1.cas.started || s.on R.CAS_CTRL.JOIN 0 then s1
        else s1.modCas (fun c => { c with waiting := true, highRun := 0 })
      else
        let s3 := s1.modCas (fun c => { c with waiting := false, highRun := 0 })
        if s3.unitState = 0 then s3.modCas (fun c => { c with locked := false }) else s3
    s2.showUnit.respond a true 0

/-- Whether an output is the response to a register access. -/
def isRegResp (o : Output) : Bool :=
  match o with
  | .regResp _ _ _ => true
  | _ => false

/-- Drop the responses among the outputs after the first n: one access is answered once. -/
def State.muteFrom (s : State) (n : Nat) : State :=
  { s with outbox := s.outbox.take n ++ (s.outbox.drop n).filter (fun o => !isRegResp o) }

/-- `CAS_Pn_CTRL`: EN and LS_REQ act, the EXPECT fields are RW-L (R11, R199, R207). A refused LS_REQ refuses the write. -/
def State.writePortCtrl (s : State) (a : Accessor) (n : Nat) (v : W32) : State :=
  let off := 0x80 + 0x20 * n
  let req := bitsOf v.toNat 1 2
  let en := bitOf v.toNat 0
  if req = 3 then s.refuseWrite a .cas 0 off 4
  else
    let l := if req = s.rd (R.CAS_P_CTRL.LS_REQ n) 0 then s else doLanePowerRequest a n req s
    if l.rd (R.CAS_P_CTRL.LS_REQ n) 0 ≠ req then l
    else
      let s1 := l.muteFrom s.outbox.length
      let fs := ((fieldsAt .cas off).getD []).filter (fun f => f.acc == .rwl)
      let s2 := s1.writeFields a .cas 0 off v.toNat fs
      if en = s2.rd (R.CAS_P_CTRL.EN n) 0 then s2.respond a true 0
      else if en = 1 then doPortEnable a n s2
      else doPortDisable a n s2
/-- CAS_ page (R198, R199, R207, R215, R227, R229, R232). -/
def State.writeCas (s : State) (a : Accessor) (off : Nat) (v : W32) : State :=
  if off = 0x04 then s.writeCasCtrl a v
  else if off = 0x44 then
    let t := bitsOf v.toNat 0 13
    s.writeUnless (!s.cas.locked && (decide (t < 8) || decide (4096 < t) || t % 8 != 0)) a .cas 0 off v
  else if off = 0x4C then
    if bitsOf v.toNat 0 3 = 1 then doCasStop a s else s.refuseWrite a .cas 0 off 5
  else if off = 0x64 then doNetmapDataWrite a v s
  else if 0x80 ≤ off ∧ off < 0x100 ∧ off % 0x20 = 0 then s.writePortCtrl a ((off - 0x80) / 0x20) v
  else ((s.plainWrite a .cas 0 off v.toNat).showUnit).respond a true 0

/-- TIM_ page (R434 to R438, R447). -/
def State.writeTim (s : State) (a : Accessor) (off : Nat) (v : W32) : State :=
  if off = 0x40 then doTimCmd a v.toNat s
  else if off = 0x44 then doRateWrite a v s
  else if off = 0x4C then doSlewWrite a v.toNat s
  else s.writeAny a .tim 0 off v

/-- `CFG_ISOLATEk`: a field of 3 refuses the write (R306). -/
def State.writeCfgIsolate (s : State) (a : Accessor) (off : Nat) (v : W32) : State :=
  s.writeUnless (bitsOf v.toNat 0 2 == 3 || bitsOf v.toNat 2 2 == 3) a .cfg 0 off v

/-- CFG_ page (R298, R305, R306, R309, R314). -/
def State.writeCfg (s : State) (a : Accessor) (off : Nat) (v : W32) : State :=
  let busy := s.streaming || s.rd R.CFG_STATUS.STATE 0 == 1 || s.rd R.CFG_STATUS.STATE 0 == 2
  if off = 0x04 then s.writeUnless (s.streaming && bitOf v.toNat 2 != s.rd R.CFG_CTRL.CP_OWNER 0) a .cfg 0 off v
  else if off = 0x40 then
    match bitsOf v.toNat 0 3 with
    | 1 => doLoad a s
    | 2 => doLoadGolden a s
    | 3 => doClear a s
    | 4 => doStream a s
    | _ => s.refuseCfg a off 5
  else if off = 0x44 ∨ off = 0x48 ∨ off = 0x50 ∨ off = 0x54 ∨ off = 0x5C ∨ off = 0x60 then s.writeUnless busy a .cfg 0 off v
  else if off = 0x70 then
    let l := bitsOf v.toNat 0 13
    s.writeUnless (decide (l < s.rd R.CFG_SCRUB_FIRST.FRAME 0) || decide (4607 < l)) a .cfg 0 off v
  else if 0x100 ≤ off ∧ off < 0x180 then
    if off % 8 = 0 then doRegionWrite a ((off - 0x100) / 8) v s else s.writeCfgIsolate a off v
  else s.writeAny a .cfg 0 off v

/-- IRQ_ page (R384 to R390, R407). -/
def State.writeIrq (s : State) (a : Accessor) (off : Nat) (v : W32) : State :=
  if off = 0x04 then s.irqControl a v.toNat
  else if off = 0x60 then doIrqEoi a v s
  else if off = 0xC0 then doIrqSwset a false v s
  else if off = 0xC4 then doIrqSwset a true v s
  else if off = 0xC8 then doIrqSwclr a false v s
  else if off = 0xCC then doIrqSwclr a true v s
  else if 0x400 ≤ off ∧ off < 0x800 then doIrqTargetWrite a ((off - 0x400) / 4) v s
  else s.writeAny a .irq 0 off v

/-- ETH_ page (R448). -/
def State.writeEth (s : State) (a : Accessor) (off : Nat) (v : W32) : State :=
  if off < 0x100 then s.writeAny a .eth 0 off v
  else
    let n := (off - 0x100) / 0x80
    let o := (off - 0x100) % 0x80
    if o = 0x28 then doEthTxKick a n v s else (s.ethWrite a n o v.toNat).respond a true 0

/-- `DBG_XCMD` (R482, R483). -/
def State.writeXcmd (s : State) (a : Accessor) (v : Nat) : State :=
  let wide := bitOf v 2 == 1
  let inc := bitOf v 4 == 1
  if bitsOf v 0 2 = 1 then
    if bitOf v 3 = 1 then doStealRead a wide inc [] s else doWindowRead a wide inc s
  else if bitsOf v 0 2 = 2 then
    if bitOf v 3 = 1 then doStealWrite a wide inc [] s else doWindowWrite a wide inc s
  else s.refuseWrite a .dbg 0 0x88 5

/-- The registers of the DBG_ page for model core m (R486 to R489, R495). -/
def State.writeDbgCore (s : State) (a : Accessor) (m o : Nat) (v : W32) : State :=
  let off := 0x100 + 0x40 * m + o
  if o = 0 then
    match bitsOf v.toNat 0 2 with
    | 1 => doCoreHalt a m s
    | 2 => doCoreResume a m s
    | 3 => doCoreStep a m s
    | _ => s.refuseWrite a .dbg 0 off 5
  else if o = 0x30 then
    match a with
    | .core _ => (doVtTxWrite m v s).respond a true 0
    | _ => s.deny a .dbg 0 off
  else if o = 0x34 then
    match a with
    | .core _ => s.deny a .dbg 0 off
    | .fw _ => s.deny a .dbg 0 off
    | _ => doVtRxWrite a m v s
  else s.writeAny a .dbg 0 off v

/-- DBG_ page (R480 to R489, R491 to R497, R505). -/
def State.writeDbg (s : State) (a : Accessor) (ch off : Nat) (v : W32) : State :=
  if off = 0x44 then doGrantWrite a v s
  else if off = 0x58 then
    match bitsOf v.toNat 0 2 with
    | 1 => doEmulationHalt (some a) s
    | 2 => doEmulationRelease (some a) s
    | _ => s.refuseWrite a .dbg 0 off 5
  else if off = 0x5C then if bitOf v.toNat 0 = 1 then doUnlockSubmit a s else s.respond a true 0
  else if off = 0x60 then doFwFifoWrite a v s
  else if off = 0x88 then s.writeXcmd a v.toNat
  else if 0x100 ≤ off ∧ off < 0x500 then s.writeDbgCore a ((off - 0x100) / 0x40) (off % 0x40) v
  else if 0x800 ≤ off ∧ off < 0xC00 then
    match a with
    | .core m => (doNoteWrite m.val ((off - 0x800) % 0x40 / 4) v s).respond a true 0
    | _ => s.deny a .dbg 0 off
  else s.writeAny a .dbg ch off v

/-- TRC_ page (R498, R504, R506). -/
def State.writeTrc (s : State) (a : Accessor) (off : Nat) (v : W32) : State :=
  if off = 0x04 then doTraceControl a v.toNat s
  else if off = 0x40 ∨ off = 0x44 ∨ off = 0x48 then (s.traceRegister a off v.toNat).respond a true 0
  else s.writeAny a .trc 0 off v

/-- `HST_MBX_DOORBELL` (R377, R378): an opcode the table does not list is accepted nowhere. A FW_LOAD whose image the write
does not carry fetches nothing; the FW_LOAD command carries it. -/
def State.writeDoorbell (s : State) (a : Accessor) (v : Nat) : State :=
  let sq := bitsOf v 8 8
  match bitsOf v 0 8 with
  | 0x01 => doGetInfo a sq s
  | 0x02 => doEcho a sq s
  | 0x03 => doLoadImage a sq s
  | 0x04 => doBlockEnable a sq s
  | 0x05 => doBlockDisable a sq s
  | 0x10 => doFwLoad a sq [] false s
  | 0x11 => doFwStart a sq s
  | 0x20 => doSetStepFreq a sq s
  | 0x40 => doFwLoadDbg a sq s
  | op => s.doorbell a op sq [] (fun s => s)

/-- `HST_CTRL`: a write of 3 to BAR2_MAP leaves the field and is recorded (R451). -/
def State.writeHstCtrl (s : State) (a : Accessor) (v : W32) : State :=
  if bitsOf v.toNat 1 2 = 3 then ((s.errReg a .hst 0 0x04 4).wr R.HST_CTRL.UR_ON_REFUSE 0 (bitOf v.toNat 0)).respond a true 0
  else s.writeAny a .hst 0 0x04 v

/-- The control firmware stores a register that is read-only to others (R473). -/
def State.firmwareStores (s : State) (a : Accessor) (off v : Nat) : State :=
  (((fieldsAt .hst off).getD []).foldl (fun (s : State) f => s.wr f 0 (bitsOf v f.lo f.width)) s).respond a true 0

/-- HST_ page (R377, R451, R473). The firmware alone stores RSP and MBX_STATUS. -/
def State.writeHst (s : State) (a : Accessor) (off : Nat) (v : W32) : State :=
  if off = 0x04 then s.writeHstCtrl a v
  else if off = 0x40 then s.writeDoorbell a v.toNat
  else if 0x80 ≤ off ∧ off < 0xC0 then s.writeUnless (s.on R.HST_MBX_STATUS.BUSY 0) a .hst 0 off v
  else
    match a with
    | .fw _ => if off = 0x44 ∨ (0xC0 ≤ off ∧ off < 0x100) then s.firmwareStores a off v.toNat else s.writeAny a .hst 0 off v
    | _ => s.writeAny a .hst 0 off v

/-- PWR_ page (R463, R474). -/
def State.writePwr (s : State) (a : Accessor) (off : Nat) (v : W32) : State :=
  if off = 0x40 then
    if bitsOf v.toNat 0 16 = 0x5E7A ∧ (bitsOf v.toNat 16 2 = 1 ∨ bitsOf v.toNat 16 2 = 2) then
      doResetCommand a (bitsOf v.toNat 16 2) s
    else s.refuseWrite a .pwr 0 off 5
  else if off = 0x4C then doThrottleWrite a v.toNat s
  else s.writeAny a .pwr 0 off v

/-- REVIVE: a quay is connected again, with full credits (R403). -/
def doRevive (a : Accessor) (n : Nat) (s : State) : State := (s.wr R.NOC_STATUS.DEAD n 0).respond a true 0

/-- NOC_ page (R403, R409). -/
def State.writeNoc (s : State) (a : Accessor) (n off : Nat) (v : W32) : State :=
  if off = 0x04 then
    if bitOf v.toNat 0 = 1 then doRevive a n s else s.respond a true 0
  else s.writeAny a .noc n off v

/-- A register that is there is written. -/
def State.writeNamed (s : State) (a : Accessor) (p : Page) (ch off : Nat) (v : W32) : State :=
  match p with
  | .prt => s.writePrt a ch off v
  | .orc => s.writeOrc a ch off v
  | .dmb => s.writeDmb a ch off v
  | .mdc => s.writeMdc a ch off v
  | .acq => s.writeAcq a ch off v
  | .res => s.writeRes a off v
  | .cas => s.writeCas a off v
  | .tim => s.writeTim a off v
  | .log => if off = 0x70 then doLogUserCmd a v s else s.writeAny a .log 0 off v
  | .cfg => s.writeCfg a off v
  | .irq => s.writeIrq a off v
  | .hms => s.hmsAccess a off true v
  | .eth => s.writeEth a off v
  | .dbg => s.writeDbg a ch off v
  | .trc => s.writeTrc a off v
  | .hst => s.writeHst a off v
  | .pwr => s.writePwr a off v
  | .noc => s.writeNoc a ch off v
  | .dev => s.writeAny a .dev 0 off v
  | .fab => s.writeAny a .fab 0 off v
  | .lne => s.writeAny a .lne ch off v

/-- A register write that has passed the gates (R9, R13 to R15, R120, R122). -/
def State.writeAct (s : State) (a : Accessor) (p : Page) (ch0 off : Nat) (v : W32) : State :=
  let ch := homeChannel a p ch0 off
  if off % 4 ≠ 0 then (s.errReg a p ch0 off 2).refuseAccess a
  else if off = 0x14 ∧ p.channels ≠ 0 then s.writeSelect a p ch v.toNat
  else if off = 0 then s.respond a true 0
  else if isMsix p off then s.writeMsix a off v
  else if (fieldsAt p off).isNone then (s.errReg a p ch0 off 1).refuseAccess a
  else
    match wideBase p off with
    | some b => s.writeWide a p ch off b v
    | none => s.writeNamed a p ch off v

/-- A register write by an accessor: page, node of a NOC_ page, offset. -/
def State.regWrite (s : State) (a : Accessor) (r : RegAddr) (v : W32) : State :=
  let ch := s.channel a r
  s.access a r.page ch r.off.val true (fun s => s.writeAct a r.page ch r.off.val v)

end Sys2Proof.Machine
end

