-- ==== Sys2Proof/Machine/HostIf.lean ====
section
/-! DEFINITION. Machine/HostIf.lean: the PCIe endpoint: configuration requests (R449, R454, R458), host accesses through BAR0
and BAR2 and how they complete (R404, R450 to R452), and the link (R455). -/

namespace Sys2Proof.Machine
open Sys2Proof

/-! ## Completions (R452) -/

/-- Whether the link is up. -/
def State.linkUp (s : State) : Bool := s.rd R.HST_STATUS.LINK_SPEED 0 != 0

/-- A read of the host completes by the STATUS of its answer: with its data, poisoned where a seal fails, and where it is
refused with all ones, or with Unsupported Request (R452). -/
def State.complete (s : State) (status : Nat) (ones : W128) (data : List W128) : State :=
  if !s.linkUp then s
  else if status = 0 then s.emit (.completion 0 data)
  else if status = 3 then s.emit (.completion 2 data)
  else if s.on R.HST_CTRL.UR_ON_REFUSE 0 then s.emit (.completion 1 [])
  else s.emit (.completion 0 [ones])

/-- The status and value of the last response to a register access among some outputs. -/
def lastResp (l : List Output) : Option (Nat × W32) :=
  l.foldl (fun r o => match o with
    | .regResp _ st v => some (st, v)
    | _ => r) none

/-! ## BAR0 (R14, R450) -/

/-- All ones of a width in bytes. -/
def onesBytes (n : Nat) : W128 := BitVec.ofNat 128 (2 ^ (8 * n) - 1)

/-- An access to an offset of the register space that no page has: a decode error at the endpoint's quay (R28). -/
def State.hostDecode (s : State) (addr : Nat) : State := (s.quayStatus 34 1 addr).refuseAccess .host

/-- Whether an access may have a size: four bytes; eight in the MSI-X table and the pending bits (R14, R450). -/
def bar0Size (p : Page) (off size : Nat) : Bool := size == 4 || (size == 8 && off % 8 == 0 && isMsix p off)

/-- The register access of a BAR0 request, word by word. -/
def State.bar0Word (s : State) (p : Page) (node : Fin 64) (off : Fin 4096) (size : Nat) (write : Bool) (v : Nat) : State :=
  let ch := s.channel .host ⟨p, node, off⟩
  if !bar0Size p off size then
    s.access .host p ch off write (fun s => (s.errReg .host p ch off 2).refuseAccess .host)
  else if write then
    let s1 := s.regWrite .host ⟨p, node, off⟩ (BitVec.ofNat 32 v)
    if size = 8 then s1.access .host p ch off true (fun s => s.writeMsix .host (off + 4) (BitVec.ofNat 32 (v / 2 ^ 32))) else s1
  else s.regRead .host ⟨p, node, off⟩

/-- A BAR0 request is performed: a read is answered with a completion, a write with none (R450, R452). -/
def State.bar0 (s : State) (off size : Nat) (write : Bool) (v : Nat) : State :=
  let n := s.outbox.length
  let s1 := match pageAt off with
    | some (p, node) => s.bar0Word p ⟨node % 64, Nat.mod_lt _ (by decide)⟩ ⟨off % 4096, Nat.mod_lt _ (by decide)⟩ size write v
    | none => s.hostDecode (0x40000000 + off)
  let r := lastResp (s1.outbox.drop n)
  let s2 := s1.muteFrom n
  if write then s2
  else
    match r with
    | none => s2
    | some (st, w) =>
      let hi := if size = 8 then 2 ^ 32 * s1.msixWord (off % 4096 + 4) else 0
      s2.complete st (onesBytes size) [BitVec.ofNat 128 (w.toNat + hi)]

/-! ## BAR2 (R404, R451) -/

/-- The address of a BAR2 offset (R451). -/
def State.bar2Address (s : State) (off : Nat) : Nat := 0x100000000 + s.rd R.HST_CTRL.BAR2_MAP 0 * 0x10000000 + off

/-- A host access is answered: a write that fails sets REFUSED; a read completes, and a poisoned completion sets POISONED
(R452). -/
def State.hostAnswer (s : State) (write : Bool) (status : Nat) (data : List W128) : State :=
  let s1 :=
    if status = 0 then s
    else if status = 3 ∧ !write then s.raise .hst 0 2
    else s.raise .hst 0 1
  if write then s1 else s1.complete status (onesBytes 16) data

/-- Whether a write of the host has no response yet (R404). -/
def State.hostWritesOut (s : State) : Bool := s.hostOut.any (fun o => o.2.2)

/-- The lowest TAG the endpoint has free. -/
def State.hostTag (s : State) : Option Nat := (List.range 64).find? (fun t => !s.hostOut.any (fun o => o.1 == t))

/-- A word of a BAR2 request leaves through the endpoint's quay, or is refused there (R28, R401). -/
def State.hostSend (s : State) (w : HostWord) (tag : Nat) : State :=
  match memNode w.addr with
  | none => (s.quayStatus 34 1 w.addr).hostAnswer w.write 1 []
  | some d =>
    if !s.routeOk 34 d then (s.quayStatus 34 1 w.addr).hostAnswer w.write 1 []
    else
      let s1 : State := { s with hostOut := s.hostOut ++ [(tag, w.addr, w.write)] }
      s1.quaySend 34 tag (b2n w.write) w.addr w.be (if w.write then [w.data] else [])

/-- Issue the host's accesses in order: a read waits until every earlier write has its response (R404), and a word for BAR2
until a tag is free (R400). -/
def State.hostIssue (s : State) : List HostWord → State
  | [] => { s with hostWaiting := [] }
  | w :: rest =>
    if !w.write && s.hostWritesOut then { s with hostWaiting := w :: rest }
    else if w.reg then (s.bar0 (offsetIn 0x40000000 w.addr) w.be w.write w.data.toNat).hostIssue rest
    else
      match s.hostTag with
      | none => { s with hostWaiting := w :: rest }
      | some t => (s.hostSend w t).hostIssue rest

/-- The words of a BAR2 request, the first at an address. -/
def bar2Words (addr : Nat) (write : Bool) : List (BitVec 16 × W128) → List HostWord
  | [] => []
  | w :: r => ⟨write, addr, w.1.toNat, w.2, false⟩ :: bar2Words (addr + 16) write r

/-- A response arrives at the endpoint (R400, R452). The endpoint checks the seal of each word sent to the host (R23). -/
def State.hostResponse (s : State) (tag status : Nat) (data : List W128) (sealOk : Bool) : State :=
  match s.hostOut.find? (fun o => o.1 == tag) with
  | none => s
  | some o =>
    let s1 : State := { s with hostOut := s.hostOut.filter (fun x => x.1 != tag) }
    let bad := status == 0 && !o.2.2 && !sealOk
    let s2 := if bad then (s1.err .hst 0 9 34 o.2.1).logEvent 0x03 0 openClass evSeal o.2.1 34 else s1
    let s3 := (s2.quayTake 34 status o.2.1).hostAnswer o.2.2 (if bad then 3 else status) data
    s3.hostIssue s3.hostWaiting

/-- The accesses of a host request, in order (R450, R451). -/
def State.hostWords (s : State) : HostRequest → List HostWord
  | .bar0 off size write v => [⟨write, 0x40000000 + off.toNat, size.val, BitVec.ofNat 128 v.toNat, true⟩]
  | .bar2 off write words => bar2Words (s.bar2Address (off.toNat / 16 * 16)) write words

/-- Whether a request is a read. -/
def hostReads : HostRequest → Bool
  | .bar0 _ _ w _ => !w
  | .bar2 _ w _ => !w

/-- HOST_ACCESS: without a link nothing arrives; with Memory Space Enable 0 the endpoint claims no memory request. -/
def doHostAccess (q : HostRequest) (s : State) : State :=
  if !s.linkUp then s
  else if !s.pcie.mse then (if hostReads q then s.emit (.completion 1 []) else s)
  else s.hostIssue (s.hostWaiting ++ s.hostWords q)

/-- HOST_ACCESS (R452). -/
def execHostAccess (q : HostRequest) (s : State) : Host.Outcome State Fault Refusal := .next (doHostAccess q s)

/-! ## Configuration space (R449, R454, R458) -/

/-- A dword of configuration space: identity, the Command register, revision and class, the BARs (R449); the contents of
the others are PCI Express's and not given here. -/
def State.configWord (s : State) (d : Nat) : W32 × State :=
  match d with
  | 0 => (0x86401F3C, s)
  | 1 =>
    let (r, s1) := s.free
    (BitVec.ofNat 32 (setBits (setBits (wordOf r 0) 1 1 (b2n s.pcie.mse)) 2 1 (s.rd R.HST_STATUS.BME 0)), s1)
  | 2 => (0x0B400011, s)
  | 4 => (BitVec.ofNat 32 (s.pcie.bar0.toNat % 2 ^ 32 + 0x4), s)
  | 5 => (BitVec.ofNat 32 (s.pcie.bar0.toNat / 2 ^ 32), s)
  | 6 => (BitVec.ofNat 32 (s.pcie.bar2.toNat % 2 ^ 32 + 0xC), s)
  | 7 => (BitVec.ofNat 32 (s.pcie.bar2.toNat / 2 ^ 32), s)
  | 8 => (0, s)
  | 9 => (0, s)
  | _ =>
    let (r, s1) := s.free
    (BitVec.ofNat 32 (wordOf r 0), s1)

/-- A configuration request is served (R458). -/
def State.configServe (s : State) (q : CfgRequest) : State :=
  match q with
  | .read d =>
    let (v, s1) := s.configWord d.val
    s1.emit (.cfgResp false v)
  | .command mse bme =>
    ({ s with pcie := { s.pcie with mse := mse } }.wr R.HST_STATUS.BME 0 (b2n bme)).emit (.cfgResp false 0)
  | .msix en mask =>
    (({ s with msixFuncMask := mask }.wr R.HST_STATUS.MSIX_EN 0 (b2n en)).sendPending).emit (.cfgResp false 0)
  | .bar second addr =>
    let size := if second then 2 ^ 28 else 2 ^ 26
    let x := BitVec.ofNat 64 (addr.toNat / size * size)
    { s with pcie := if second then { s.pcie with bar2 := x } else { s.pcie with bar0 := x } }.emit (.cfgResp false 0)

/-- CONFIGURATION_REQUEST: answered with Retry Status before 100 ms (`early`), else served; without a link none arrives
(R458). -/
def doConfigurationRequest (early : Bool) (q : CfgRequest) (s : State) : State :=
  if !s.linkUp then s
  else if early then s.emit (.cfgResp true 0)
  else s.configServe q

/-- CONFIGURATION_REQUEST (R458). -/
def execConfigurationRequest (early : Bool) (q : CfgRequest) (s : State) : Host.Outcome State Fault Refusal :=
  .next (doConfigurationRequest early q s)

/-! ## The link (R455) -/

/-- Reads of the endpoint's bus master that are in flight fail: LOAD_IMAGE, a fabric load, a frame refetch, and a refetch of
an instruction word (R455). -/
def State.failFetches (s : State) : State :=
  let s1 := doImageLine [] 0 false s
  let s2 := doStreamFetch [] false true s1
  let s3 := doFrameRefetch [] false s2
  if (List.range 64).any (fun p => (s3.part p).waits &&& causeRefetch != 0) then s3.raise .hst 0 4 else s3

/-- PCIE_LINK_LOSS: configuration space is reset, bus-master reads in flight fail; nothing else changes (R455). -/
def doPcieLinkLoss (s : State) : State :=
  let s1 : State := { s with pcie := {}, msixFuncMask := false, hostWaiting := [] }
  let s2 := (((s1.wr R.HST_STATUS.LINK_SPEED 0 0).wr R.HST_STATUS.LINK_WIDTH 0 0).wr R.HST_STATUS.BME 0 0).wr
    R.HST_STATUS.MSIX_EN 0 0
  s2.failFetches

/-- PCIE_LINK_LOSS (R455). -/
def execPcieLinkLoss (s : State) : Host.Outcome State Fault Refusal := .next (doPcieLinkLoss s)

/-- Whether a speed and a width are ones the link trains at (R449, `HST_STATUS`). -/
def linkTrains (speed width : Nat) : Bool :=
  decide (1 ≤ speed) && decide (speed ≤ 5) && (width == 1 || width == 2 || width == 4 || width == 8)

/-- PCIE_LINK_UP: the link trains in Service and after; LINK_CHANGE is set (R455, R458). -/
def doPcieLinkUp (speed width : Nat) (s : State) : State :=
  if !linkTrains speed width ∨ s.rd R.PWR_STATUS.DEV_STATE 0 < 2 then s
  else
    (((s.wr R.HST_STATUS.LINK_SPEED 0 speed).wr R.HST_STATUS.LINK_WIDTH 0 width).wr R.PWR_CLOCKS.PCIE_PLL 0 1).raise .hst 0 3

/-- PCIE_LINK_UP (R455). -/
def execPcieLinkUp (speed : Fin 8) (width : Fin 16) (s : State) : Host.Outcome State Fault Refusal :=
  .next (doPcieLinkUp speed.val width.val s)

end Sys2Proof.Machine
end

