-- ==== Sys2Proof/Machine/Bus.lean ====
section
/-! DEFINITION. Machine/Bus.lean: a packet at its destination: the memories and registers that answer requests (R23 to R29,
R37, R38, R132 to R144, R185, R262, R290, R400, R401), a response at the quay that waits for it, and dead quays (R403). -/

namespace Sys2Proof.Machine
open Sys2Proof

/-! ## What a request carries -/

/-- Whether every flit of a packet passes its seal check: the header and the data words (R18, R23). -/
def packetIntact (k : Packet) : Bool := k.sealOk && (List.range k.data.length).all (packetSealed k)

/-- The header flit of a packet (R400). -/
def headerFlit (route dest src tag op len be addr status : Nat) : W128 :=
  BitVec.ofNat 128 (route % 2 ^ 30 + 2 ^ 30 * dest + 2 ^ 36 * src + 2 ^ 42 * tag + 2 ^ 48 * op + 2 ^ 52 * len + 2 ^ 56 * be +
    2 ^ 72 * addr + 2 ^ 112 * status)

/-- A flit: 128 data bits and their seal, which the block that sends them creates (R18, R23, R400). -/
def flitOf (w : W128) : W128 × BitVec 16 := (w, sealOf w)

/-- The flits of an output that leaves on the NoC: a request of a quay with the route of its page (R400, R401), and a response of
block node `src`. -/
def State.flitsOf (s : State) (src : Nat) : Output → List (W128 × BitVec 16)
  | .nocReq node tag op addr be data =>
    let d := (s.nodeOfAddress .host addr).getD 63
    (headerFlit (s.rd (R.NOC_ROUTE.ROUTE d) node) d node tag op (data.length - 1) be addr 0 :: data).map flitOf
  | .nocResp node tag status data =>
    (headerFlit (s.rd (R.NOC_ROUTE.ROUTE node) src) node src tag 8 (data.length - 1) 0 0 status :: data).map flitOf
  | _ => []

/-- Answer a request. -/
def State.answer (s : State) (k : Packet) (status : Nat) (data : List W128) : State :=
  s.emit (.nocResp k.src.val k.tag.val status data)

/-- Addresses of the words of a packet. -/
def packetPlaces (k : Packet) : List Nat := (List.range (k.len.val + 1)).map (fun i => k.addr.toNat / 16 * 16 + 16 * i)

/-! ## Memories -/

/-- A request at a scratchpad waits for a bank cycle (R324); the core's quay checks the words it receives (R23). A scratchpad is
served while its core's block is awake, also with `MDC_CTRL.CLK_EN` = 0 (DESIGN CHOICE, log entry 212: R29 has a block whose clock
is stopped answer ASLEEP, and R340 exempts nap alone). -/
def State.atScratch (s : State) (k : Packet) : State :=
  let (m, x) := scratchAt k.addr.toNat
  if k.op.val = 1 && !packetIntact k then
    ((s.err .mdc m 9 k.src.val k.addr.toNat).logEvent 0x13 m openClass evSeal k.addr.toNat k.src.val).answer k 3 []
  else s.modCore m (fun c => { c with queue := c.queue ++ [s.accessOf k 0 (x / 16)] })

/-- Read words one after another and answer: the first that fails gives the STATUS (R24, R28). -/
def State.readWords (s : State) (k : Packet) (f : State → Nat → Nat × W128 × State) : State :=
  let r := (packetPlaces k).foldl (fun (x : Nat × List W128 × State) a =>
    let (st, d, s1) := f x.2.2 a
    (if x.1 = 0 then st else x.1, x.2.1 ++ [d], s1)) (0, [], s)
  r.2.2.answer k r.1 (if r.1 = 0 then r.2.1 else [])

/-- Write words one after another and answer: each with whether its seal checks. -/
def State.writeWords (s : State) (k : Packet) (f : State → Nat → W128 → Bool → Nat × State) : State :=
  let r := (List.range (k.len.val + 1)).foldl (fun (x : Nat × State) i =>
    let (st, s1) := f x.2 (k.addr.toNat / 16 * 16 + 16 * i) (packetWord k i) (k.sealOk && packetSealed k i)
    (if x.1 = 0 then st else x.1, s1)) (0, s)
  r.2.answer k r.1 []

/-- Load-reserve and store-conditional act on bank words and are refused elsewhere (log entry 62). -/
def State.plainOp (s : State) (k : Packet) (act : State) : State := if 2 ≤ k.op.val then s.answer k 4 [] else act

/-- A request at a control core's memory; the core's quay checks the words it receives (R23, R27). -/
def State.atControl (s : State) (k : Packet) : State :=
  let key (a : Nat) : Nat := (offsetIn 0x10000000 a) / 16
  if k.op.val = 1 && !packetIntact k then (s.controlSeal (key k.addr.toNat) k.src.val).answer k 3 []
  else if k.op.val = 1 then
    s.writeWords k (fun s a v _ =>
      if 0x10200000 ≤ a then (1, s) else s.controlWrite (key a) (packetEnables k) v k.src.val)
  else s.readWords k (fun s a => if 0x10200000 ≤ a then (1, 0, s) else s.controlRead (key a) k.src.val)

/-- The boot ROM is read-only (R27). -/
def State.atBootRom (s : State) (k : Packet) : State :=
  if k.op.val = 1 then s.answer k 4 []
  else s.readWords k (fun s a => if 0x40000 ≤ a then (1, 0, s) else (0, Config.bootRom (a / 16), s))

/-- The logbook: only its controller writes it (R262, R263). -/
def State.atLogbook (s : State) (k : Packet) : State :=
  if k.op.val = 1 then s.answer k 4 []
  else s.readWords k (fun s a => if 0x80400000 ≤ a then (1, 0, s) else s.logbookRead (offsetIn 0x80000000 a) k.src.val)

/-- An image word for the instruction-store loader, whole or merged with the stored word, with its seal: STATUS (R24, R26,
R37, R185). A word for a bunch of no partition is refused. -/
def State.storeImageWord (s : State) (src a be : Nat) (v : W128) (sealOk : Bool) : Nat × State :=
  let x := offsetIn 0x200000000 a
  let n := x / 0x1000000
  let b := x / 0x100000 % 16
  let st := x / 0x400 % 1024
  let i := x / 16 % 64
  match s.holderOf n with
  | none => (4, s.err .prt 0 15 src a)
  | some p =>
    if s.pstate p != 1 && !(s.part p).ungating then (4, s.loadWord src p n b st i v (sealOf v))
    else if be = 65535 then
      let s1 := doInstructionWordWrite src p n b st i v (if sealOk then sealOf v else ~~~(sealOf v)) s
      (if !sealOk && !(s.part p).ungating then 3 else 0, s1)
    else if !sealOk then (3, (s.err .prt p 9 src a).logEvent 0x11 p openClass evSeal n st)
    else
      match s.istoreRead x src with
      | (0, w, s1) =>
        let m := mergeBytes w v be 16
        (0, doInstructionWordWrite src p n b st i m (sealOf m) s1)
      | (e, _, s1) => (e, s1)

/-- The instruction store and the step-store window (R37, R38). The stores of a bunch that is gated off have no clock, and a read
of them answers ASLEEP (R29, R466); a write is the loader's, which holds it until the bunches are ungated (R467). -/
def State.atOrchard (s : State) (k : Packet) : State :=
  let a := k.addr.toNat
  if a < 0x300000000 then
    if k.op.val = 1 then
      s.writeWords k (fun s x v ok => if 0x240000000 ≤ x then (1, s) else s.storeImageWord k.src.val x (packetEnables k) v ok)
    else s.readWords k (fun s x => if 0x240000000 ≤ x then (1, 0, s)
      else if !s.bunchOn (offsetIn 0x200000000 x / 0x1000000) then (2, 0, s) else s.istoreRead (offsetIn 0x200000000 x) k.src.val)
  else if k.op.val = 1 then (s.err .orc ((offsetIn 0x500000000 a) / 0x20000) 13 k.src.val a).answer k 4 []
  else s.readWords k (fun s x => if 0x500800000 ≤ x then (1, 0, s)
    else if !s.bunchOn (offsetIn 0x500000000 x / 0x20000) then (2, 0, s) else s.rowsRead (offsetIn 0x500000000 x) k.src.val)

/-- A word of the frame window (R24, R287, R290). -/
def State.frameRead (s : State) (a src : Nat) : Nat × W128 × State :=
  let x := offsetIn 0x600000000 a
  if 0x240000 ≤ x then (1, 0, s)
  else if s.ecc clsFrame (x / 0x200) < 2 then (0, s.frameWord (x / 0x200) (x / 16 % 32), s)
  else (3, 0, (s.err .cfg 0 9 src a).logEvent 0x0E 0 openClass evSeal (x / 0x200) (x / 16 % 32))

/-- The frame window (R290). -/
def State.atFrames (s : State) (k : Packet) : State :=
  if k.op.val = 1 then (s.err .cfg 0 13 k.src.val k.addr.toNat).answer k 4 []
  else s.readWords k (fun s a => s.frameRead a k.src.val)

/-! ## Registers -/

/-- The accessor of a node (R15, R120, R399); at the debug quay the TAG tells the two front ends apart. -/
def accessorOf (src tag : Nat) : Option Accessor :=
  if h : 8 ≤ src ∧ src < 12 then some (.fw ⟨src - 8, by omega⟩)
  else if h : 12 ≤ src ∧ src < 28 then some (.core ⟨src - 12, by omega⟩)
  else if src = 34 then some .host
  else if src = 41 then some (if tag = 1 then .jtag else .pcieDbg)
  else none

/-- Whether a packet is an aligned 32-bit access (R14): one word, its address a multiple of 4, and `BYTE_EN` naming exactly the
four bytes of its address. A read whose `BYTE_EN` is 0 names no bytes and is one too (DESIGN CHOICE, log entry 217: R400 gives
`BYTE_EN` for a write of one word and does not say what it holds in a read). -/
def isWordAccess (k : Packet) : Bool :=
  k.len.val == 0 && k.addr.toNat % 4 == 0 &&
    (k.byteEn.toNat == 15 * 2 ^ (k.addr.toNat % 16) || (k.op.val == 0 && k.byteEn.toNat == 0))

/-- The 32-bit word of a write at its place in the flit. -/
def packetLane (k : Packet) : W32 := BitVec.ofNat 32 (bitsOf (packetWord k 0).toNat (8 * (k.addr.toNat % 16)) 32)

/-- The first response to a register access after n outputs becomes the answer of the request; an access that the
harbourmaster holds is answered later. -/
def State.answerAs (s : State) (k : Packet) (n : Nat) : State :=
  match lastResp (s.outbox.drop n) with
  | none => s
  | some (st, v) =>
    (s.muteFrom n).answer k st
      (if st = 0 ∧ k.op.val = 0 then [BitVec.ofNat 128 (2 ^ (8 * (k.addr.toNat % 16)) * v.toNat)] else [])

/-- A register access of an accessor at the block that owns the page (R14, R23, R29, R121): the receiving quay checks the
flit's seal. -/
def State.regRequest (s : State) (k : Packet) (a : Accessor) (p : Page) (node : Fin 64) (off : Fin 4096) : State :=
  let ch := s.channel a ⟨p, node, off⟩
  let write := k.op.val == 1
  let d := nodeOfPage p ch
  if !packetIntact k then ((s.err .noc d 9 k.src.val k.addr.toNat).logEvent 0x15 d openClass evSeal k.addr.toNat k.src.val).answer k 3 []
  else if 2 ≤ k.op.val then s.answer k 4 []
  else if !initiatorMay a p ch off.val write then (s.errReg a p (if p = .mdc then ch else 0) off.val 14).answer k 4 []
  else if !isWordAccess k then (s.errReg a p ch off.val 2).answer k 4 []
  else
    (if write then s.writeAct a p ch off.val (packetLane k) else s.readAct a p ch off.val).answerAs k s.outbox.length

/-- A request in the register space: a node that is no accessor is not permitted on any page (R121). -/
def State.atRegisters (s : State) (k : Packet) : State :=
  match pageAt (offsetIn 0x40000000 k.addr.toNat) with
  | none => s.answer k 1 []
  | some (p, node) =>
    match accessorOf k.src.val k.tag.val with
    | none => (s.err p 0 14 k.src.val k.addr.toNat).answer k 4 []
    | some a =>
      s.regRequest k a p ⟨node % 64, Nat.mod_lt _ (by decide)⟩ ⟨k.addr.toNat % 4096, Nat.mod_lt _ (by decide)⟩

/-! ## NOC_REQUEST -/

/-- The node that owns a request's address. -/
def State.ownerOf (s : State) (k : Packet) : Option Nat :=
  match accessorOf k.src.val k.tag.val with
  | some a => s.nodeOfAddress a k.addr.toNat
  | none => s.nodeOfAddress .host k.addr.toNat

/-- Whether the clock of the block that a request reaches runs (R29). -/
def State.awakeAt (s : State) (k : Packet) : Bool :=
  let a := k.addr.toNat
  if inRegisters a then
    match pageAt (offsetIn 0x40000000 a), accessorOf k.src.val k.tag.val with
    | some (p, node), some x => s.served x p (s.channel x ⟨p, ⟨node % 64, Nat.mod_lt _ (by decide)⟩, 0⟩)
    | _, _ => true
  else if 0x100000000 ≤ a ∧ a < 0x130000000 then s.awake.contains (blockKey .dmb (bankOfAddress a))
  else if 0x20000000 ≤ a ∧ a < 0x20400000 then s.awake.contains (blockKey .mdc (scratchAt a).1)
  else if 0x200000000 ≤ a ∧ a < 0x600000000 then s.awake.contains 0x1000
  else if 0x600000000 ≤ a then s.awake.contains (blockKey .cfg 0)
  else true

/-- Whether a request is for the NOC_ page of a node, which its edge router serves (R399). -/
def forEdge (a : Nat) : Bool := decide (0x40020000 ≤ a) && decide (a < 0x4004C000)

/-- The request is performed at the block it has reached. -/
def State.serve (s : State) (k : Packet) : State :=
  let a := k.addr.toNat
  if inRegisters a then s.atRegisters k
  else if 0x100000000 ≤ a ∧ a < 0x130000000 then s.bankArrive k
  else if 0x20000000 ≤ a ∧ a < 0x20400000 then s.atScratch k
  else if 0x200000000 ≤ a ∧ a < 0x600000000 then s.plainOp k (s.atOrchard k)
  else if 0x600000000 ≤ a then s.plainOp k (s.atFrames k)
  else if 0x80000000 ≤ a then s.plainOp k (s.atLogbook k)
  else if 0x10000000 ≤ a then s.plainOp k (s.atControl k)
  else s.plainOp k (s.atBootRom k)

/-- Whether a node is one whose initiator the model holds nothing of but its quay: a control core or the fabric (R399). -/
def bareQuay (n : Nat) : Bool := (decide (8 ≤ n) && decide (n < 12)) || n == 33

/-- A request of a control core or of the fabric is outstanding at its quay from now on (R400). -/
def State.bareSent (s : State) (k : Packet) : State :=
  if bareQuay k.src.val then
    { s.wr R.NOC_STATUS.OUTSTANDING k.src.val (min 64 (s.rd R.NOC_STATUS.OUTSTANDING k.src.val + 1)) with
      quayReqs := s.quayReqs ++ [(k.src.val, k.tag.val, k.addr.toNat)] }
  else s

/-- A request at the quay it has reached: the quay answers it where the address is unmapped (R28), where DEST is not its node
(R401), where it is dead (R403) or where its block sleeps (R29); else the block performs it (R400). -/
def State.takeRequestPacket (s : State) (k : Packet) : State :=
  match s.ownerOf k with
  | none => s.answer k 1 []
  | some d =>
    if d ≠ k.dest.val then s.answer k 7 []
    else if s.quayIsDead d && !forEdge k.addr.toNat then s.answer k 6 []
    else if !s.awakeAt k then s.answer k 2 []
    else s.serve k

/-- NOC_REQUEST (R400). -/
def doNocRequest (k : Packet) (s : State) : State :=
  if s.rd R.PWR_STATUS.DEV_STATE 0 < 2 then s else (s.bareSent k).takeRequestPacket k

/-- Whether a block performs a request (R400). -/
def State.performed (s : State) (k : Packet) : Bool :=
  decide (2 ≤ s.rd R.PWR_STATUS.DEV_STATE 0) &&
    match s.ownerOf k with
    | none => false
    | some d => d == k.dest.val && !(s.quayIsDead d && !forEdge k.addr.toNat) && s.awakeAt k

/-- NOC_REQUEST (R400): what a block does with a header whose OP is reserved the spec does not say; every answer that comes before
(R28, R29, R401, R403) needs no OP. -/
def execNocRequest (k : Packet) (s : State) : Host.Outcome State Fault Refusal :=
  if 4 ≤ k.op.val ∧ s.performed k then .fault .reservedNocOp else .next (doNocRequest k s)

/-! ## NOC_RESPONSE -/

/-- A word received at a model core's quay whose seal fails (R23, R24). -/
def State.coreSeal (s : State) (m tag : Nat) : State :=
  let addr := match (s.core m).wait.find? (fun r => r.tag == tag) with
    | some r => r.addr
    | none => 0
  (s.err .mdc m 9 (12 + m) addr).logEvent 0x13 m openClass evSeal addr (12 + m)

/-- The far command of a bunch that waits for its transfer, as the internal address it names (R61). -/
def State.farPlace (s : State) (tag : Nat) : Nat :=
  match (s.holderOf tag).bind (fun p => (s.part p).memWaits.find? (fun c => c.bunch == tag && decide (2 ≤ c.kind))) with
  | some c => bankAddress (c.addr / 2 ^ 18) (c.addr % 2 ^ 18)
  | none => 0

/-- A word read by a far command whose seal fails at the orchard port of the bank (R23, R24). -/
def State.portSeal (s : State) (n tag : Nat) : State :=
  (s.err .dmb tag 9 63 (s.farPlace tag)).logEvent 0x12 tag openClass evSeal (s.farPlace tag) n

/-- A word received at the quay of a control core or of the fabric whose seal fails (R23, R24). -/
def State.bareSeal (s : State) (q addr : Nat) : State :=
  if q = 33 then (s.err .fab 0 9 q addr).logEvent 0x0F 0 openClass evSeal addr q
  else (s.err .hst 0 9 q addr).logEvent 0x03 0 openClass evSeal addr q

/-- A response at the quay of a control core or of the fabric ends the request of its TAG, and the quay records its error (R23,
R24, R28, R29). -/
def State.bareResponse (s : State) (q tag status : Nat) (bad : Bool) : State :=
  match s.quayReqs.find? (fun r => r.1 == q && r.2.1 == tag) with
  | none => s
  | some r =>
    let s1 : State := { s with quayReqs := s.quayReqs.filter (fun x => !(x.1 == q && x.2.1 == tag)) }
    (if bad then s1.bareSeal q r.2.2 else s1).quayTake q status r.2.2

/-- A response to a far command of a bunch (R65). -/
def State.farAnswered (s : State) (tag status : Nat) (w : W128) : State :=
  match s.holderOf tag with
  | some p => doFarTransferComplete p tag status w s
  | none => s

/-- Whether the words of a response all pass the seal check (R18, R23). -/
def sealsCheck (data : List W128) (seals : List (BitVec 16)) : Bool := data.map sealOf == seals.take data.length

/-- A response at a quay, by its node. `bad`: it carries data whose seal fails, which its receiver takes as SEAL. -/
def State.response (s : State) (q tag status : Nat) (data : List W128) (sealOk : Bool) : State :=
  let bad := status == 0 && !data.isEmpty && !sealOk
  let st := if bad then 3 else status
  let w := data.headD 0
  if q < 8 then
    if q = tag / 8 then (if bad then s.portSeal q tag else s).farAnswered tag st w else s
  else if 12 ≤ q ∧ q < 28 then
    let m := q - 12
    if (s.core m).wait.any (fun r => r.tag == tag) then
      doFarLoadResponse m tag st w (if bad then s.coreSeal m tag else s)
    else s.storeAnswered m tag status
  else if 28 ≤ q ∧ q < 32 then doAcqWriteResponse (q - 28) tag status s
  else if q = 34 then s.hostResponse tag status data sealOk
  else if q = 38 then doCompletionRecordResponse tag status s
  else if q = 41 then
    let addr := s.xaddr (tag % 2)
    (if bad then (s.err .dbg 0 9 41 addr).logEvent 0x05 0 openClass evSeal addr 41 else s).windowDone (tag % 2) st w
  else s.bareResponse q tag st bad

/-- NOC_RESPONSE: a response arrives at the requesting quay and completes the access (R400); a dead quay's edge router
absorbs it (R403). `sealOk`: its header flit's seal checks; its data flits carry their own (R23). -/
def doNocResponse (q tag status : Nat) (data : List W128) (seals : List (BitVec 16)) (sealOk : Bool) (s : State) : State :=
  if s.rd R.PWR_STATUS.DEV_STATE 0 < 2 || s.quayIsDead q then s
  else s.response q tag status data (sealOk && sealsCheck data seals)

/-- NOC_RESPONSE (R400). -/
def execNocResponse (q : Fin 44) (tag : Fin 64) (status : Fin 8) (data : List SealedWord) (sealOk : Bool) (s : State) :
    Host.Outcome State Fault Refusal :=
  .next (doNocResponse q.val tag.val status.val (data.map (·.word)) (data.map (·.sealBits)) sealOk s)

/-! ## Dead quays (R403) -/

/-- The edge router answers every request that its quay holds with DEAD (R403). -/
def State.answerHeld (s : State) (n : Nat) : State :=
  let ks := s.heldPackets n
  ks.foldl (fun (s : State) k => s.answer k 6 []) { s with nocHeld := SMap.set [] s.nocHeld n [] }

/-- QUAY_DEAD: the edge router declares its quay dead: the requests it holds are answered, DEAD is set, and a class 2 entry goes to
the logbook. What arrives later is answered as it comes (`State.takeRequestPacket`), and what the quay sends is discarded
(`State.quaySend`, `State.quayAnswer`). -/
def doQuayDead (n : Nat) (s : State) : State :=
  if s.rd R.PWR_STATUS.DEV_STATE 0 < 2 || s.quayIsDead n then s
  else (((s.answerHeld n).wr R.NOC_STATUS.DEAD n 1).raise .noc n 0).logEvent 0x15 n 2 evDead n 0

/-- QUAY_DEAD (R403). -/
def execQuayDead (q : Fin 44) (s : State) : Host.Outcome State Fault Refusal := .next (doQuayDead q.val s)

end Sys2Proof.Machine
end

