-- ==== Sys2Proof/Machine/CoreIsa.lean ====
section
/-! DEFINITION. Machine/CoreIsa.lean: the commands of the model-core instruction list (R354), one definition per
instruction: core m issues the bundle at its PC, in whose slot k the instruction stands (log entry 41). What each
instruction computes stands in CoreAlu.lean, CoreMem.lean and CoreIssue.lean under its own name. -/

namespace Sys2Proof.Machine
open Sys2Proof

/-- NOP in slot k of the bundle at core m's PC issues (R354). -/
def doNop (m k : Nat) (s : State) : State := s.issueAs m k 0x0

/-- NOP (R354). -/
def execNop (m : Fin 16) (k : Fin 4) (s : State) : Host.Outcome State Fault Refusal := .next (doNop m.val k.val s)

/-- VADD in slot k of the bundle at core m's PC issues (R354). -/
def doVadd (m k : Nat) (s : State) : State := s.issueAs m k 0x1

/-- VADD (R354). -/
def execVadd (m : Fin 16) (k : Fin 4) (s : State) : Host.Outcome State Fault Refusal := .next (doVadd m.val k.val s)

/-- VSUB in slot k of the bundle at core m's PC issues (R354). -/
def doVsub (m k : Nat) (s : State) : State := s.issueAs m k 0x2

/-- VSUB (R354). -/
def execVsub (m : Fin 16) (k : Fin 4) (s : State) : Host.Outcome State Fault Refusal := .next (doVsub m.val k.val s)

/-- VADDS in slot k of the bundle at core m's PC issues (R354). -/
def doVadds (m k : Nat) (s : State) : State := s.issueAs m k 0x3

/-- VADDS (R354). -/
def execVadds (m : Fin 16) (k : Fin 4) (s : State) : Host.Outcome State Fault Refusal := .next (doVadds m.val k.val s)

/-- VSUBS in slot k of the bundle at core m's PC issues (R354). -/
def doVsubs (m k : Nat) (s : State) : State := s.issueAs m k 0x4

/-- VSUBS (R354). -/
def execVsubs (m : Fin 16) (k : Fin 4) (s : State) : Host.Outcome State Fault Refusal := .next (doVsubs m.val k.val s)

/-- VAND in slot k of the bundle at core m's PC issues (R354). -/
def doVand (m k : Nat) (s : State) : State := s.issueAs m k 0x5

/-- VAND (R354). -/
def execVand (m : Fin 16) (k : Fin 4) (s : State) : Host.Outcome State Fault Refusal := .next (doVand m.val k.val s)

/-- VOR in slot k of the bundle at core m's PC issues (R354). -/
def doVor (m k : Nat) (s : State) : State := s.issueAs m k 0x6

/-- VOR (R354). -/
def execVor (m : Fin 16) (k : Fin 4) (s : State) : Host.Outcome State Fault Refusal := .next (doVor m.val k.val s)

/-- VXOR in slot k of the bundle at core m's PC issues (R354). -/
def doVxor (m k : Nat) (s : State) : State := s.issueAs m k 0x7

/-- VXOR (R354). -/
def execVxor (m : Fin 16) (k : Fin 4) (s : State) : Host.Outcome State Fault Refusal := .next (doVxor m.val k.val s)

/-- VSHL in slot k of the bundle at core m's PC issues (R354). -/
def doVshl (m k : Nat) (s : State) : State := s.issueAs m k 0x8

/-- VSHL (R354). -/
def execVshl (m : Fin 16) (k : Fin 4) (s : State) : Host.Outcome State Fault Refusal := .next (doVshl m.val k.val s)

/-- VSHRA in slot k of the bundle at core m's PC issues (R354). -/
def doVshra (m k : Nat) (s : State) : State := s.issueAs m k 0x9

/-- VSHRA (R354). -/
def execVshra (m : Fin 16) (k : Fin 4) (s : State) : Host.Outcome State Fault Refusal := .next (doVshra m.val k.val s)

/-- VSHRL in slot k of the bundle at core m's PC issues (R354). -/
def doVshrl (m k : Nat) (s : State) : State := s.issueAs m k 0xa

/-- VSHRL (R354). -/
def execVshrl (m : Fin 16) (k : Fin 4) (s : State) : Host.Outcome State Fault Refusal := .next (doVshrl m.val k.val s)

/-- VCMP in slot k of the bundle at core m's PC issues (R354). -/
def doVcmp (m k : Nat) (s : State) : State := s.issueAs m k 0xb

/-- VCMP (R354). -/
def execVcmp (m : Fin 16) (k : Fin 4) (s : State) : Host.Outcome State Fault Refusal := .next (doVcmp m.val k.val s)

/-- VMIN in slot k of the bundle at core m's PC issues (R354). -/
def doVmin (m k : Nat) (s : State) : State := s.issueAs m k 0xc

/-- VMIN (R354). -/
def execVmin (m : Fin 16) (k : Fin 4) (s : State) : Host.Outcome State Fault Refusal := .next (doVmin m.val k.val s)

/-- VMAX in slot k of the bundle at core m's PC issues (R354). -/
def doVmax (m k : Nat) (s : State) : State := s.issueAs m k 0xd

/-- VMAX (R354). -/
def execVmax (m : Fin 16) (k : Fin 4) (s : State) : Host.Outcome State Fault Refusal := .next (doVmax m.val k.val s)

/-- VBCAST in slot k of the bundle at core m's PC issues (R354). -/
def doVbcast (m k : Nat) (s : State) : State := s.issueAs m k 0xe

/-- VBCAST (R354). -/
def execVbcast (m : Fin 16) (k : Fin 4) (s : State) : Host.Outcome State Fault Refusal := .next (doVbcast m.val k.val s)

/-- MOVI in slot k of the bundle at core m's PC issues (R354). -/
def doMovi (m k : Nat) (s : State) : State := s.issueAs m k 0xf

/-- MOVI (R354). -/
def execMovi (m : Fin 16) (k : Fin 4) (s : State) : Host.Outcome State Fault Refusal := .next (doMovi m.val k.val s)

/-- MAC in slot k of the bundle at core m's PC issues (R354). -/
def doMac (m k : Nat) (s : State) : State := s.issueAs m k 0x10

/-- MAC (R354). -/
def execMac (m : Fin 16) (k : Fin 4) (s : State) : Host.Outcome State Fault Refusal := .next (doMac m.val k.val s)

/-- MSU in slot k of the bundle at core m's PC issues (R354). -/
def doMsu (m k : Nat) (s : State) : State := s.issueAs m k 0x11

/-- MSU (R354). -/
def execMsu (m : Fin 16) (k : Fin 4) (s : State) : Host.Outcome State Fault Refusal := .next (doMsu m.val k.val s)

/-- MPY in slot k of the bundle at core m's PC issues (R354). -/
def doMpy (m k : Nat) (s : State) : State := s.issueAs m k 0x12

/-- MPY (R354). -/
def execMpy (m : Fin 16) (k : Fin 4) (s : State) : Host.Outcome State Fault Refusal := .next (doMpy m.val k.val s)

/-- MOVA in slot k of the bundle at core m's PC issues (R354). -/
def doMova (m k : Nat) (s : State) : State := s.issueAs m k 0x13

/-- MOVA (R354). -/
def execMova (m : Fin 16) (k : Fin 4) (s : State) : Host.Outcome State Fault Refusal := .next (doMova m.val k.val s)

/-- MOVD in slot k of the bundle at core m's PC issues (R354). -/
def doMovd (m k : Nat) (s : State) : State := s.issueAs m k 0x14

/-- MOVD (R354). -/
def execMovd (m : Fin 16) (k : Fin 4) (s : State) : Host.Outcome State Fault Refusal := .next (doMovd m.val k.val s)

/-- ACLR in slot k of the bundle at core m's PC issues (R354). -/
def doAclr (m k : Nat) (s : State) : State := s.issueAs m k 0x15

/-- ACLR (R354). -/
def execAclr (m : Fin 16) (k : Fin 4) (s : State) : Host.Outcome State Fault Refusal := .next (doAclr m.val k.val s)

/-- LD in slot k of the bundle at core m's PC issues (R354). -/
def doLd (m k : Nat) (s : State) : State := s.issueAs m k 0x20

/-- LD (R354). -/
def execLd (m : Fin 16) (k : Fin 4) (s : State) : Host.Outcome State Fault Refusal := .next (doLd m.val k.val s)

/-- ST in slot k of the bundle at core m's PC issues (R354). -/
def doSt (m k : Nat) (s : State) : State := s.issueAs m k 0x21

/-- ST (R354). -/
def execSt (m : Fin 16) (k : Fin 4) (s : State) : Host.Outcome State Fault Refusal := .next (doSt m.val k.val s)

/-- LDP in slot k of the bundle at core m's PC issues (R354). -/
def doLdp (m k : Nat) (s : State) : State := s.issueAs m k 0x22

/-- LDP (R354). -/
def execLdp (m : Fin 16) (k : Fin 4) (s : State) : Host.Outcome State Fault Refusal := .next (doLdp m.val k.val s)

/-- STP in slot k of the bundle at core m's PC issues (R354). -/
def doStp (m k : Nat) (s : State) : State := s.issueAs m k 0x23

/-- STP (R354). -/
def execStp (m : Fin 16) (k : Fin 4) (s : State) : Host.Outcome State Fault Refusal := .next (doStp m.val k.val s)

/-- STA in slot k of the bundle at core m's PC issues (R354). -/
def doSta (m k : Nat) (s : State) : State := s.issueAs m k 0x24

/-- STA (R354). -/
def execSta (m : Fin 16) (k : Fin 4) (s : State) : Host.Outcome State Fault Refusal := .next (doSta m.val k.val s)

/-- LR in slot k of the bundle at core m's PC issues (R354). -/
def doLr (m k : Nat) (s : State) : State := s.issueAs m k 0x25

/-- LR (R354). -/
def execLr (m : Fin 16) (k : Fin 4) (s : State) : Host.Outcome State Fault Refusal := .next (doLr m.val k.val s)

/-- SC in slot k of the bundle at core m's PC issues (R354). -/
def doSc (m k : Nat) (s : State) : State := s.issueAs m k 0x26

/-- SC (R354). -/
def execSc (m : Fin 16) (k : Fin 4) (s : State) : Host.Outcome State Fault Refusal := .next (doSc m.val k.val s)

/-- PADD in slot k of the bundle at core m's PC issues (R354). -/
def doPadd (m k : Nat) (s : State) : State := s.issueAs m k 0x27

/-- PADD (R354). -/
def execPadd (m : Fin 16) (k : Fin 4) (s : State) : Host.Outcome State Fault Refusal := .next (doPadd m.val k.val s)

/-- PMOV in slot k of the bundle at core m's PC issues (R354). -/
def doPmov (m k : Nat) (s : State) : State := s.issueAs m k 0x28

/-- PMOV (R354). -/
def execPmov (m : Fin 16) (k : Fin 4) (s : State) : Host.Outcome State Fault Refusal := .next (doPmov m.val k.val s)

/-- PMOVI in slot k of the bundle at core m's PC issues (R354). -/
def doPmovi (m k : Nat) (s : State) : State := s.issueAs m k 0x29

/-- PMOVI (R354). -/
def execPmovi (m : Fin 16) (k : Fin 4) (s : State) : Host.Outcome State Fault Refusal := .next (doPmovi m.val k.val s)

/-- BR in slot 3 of the bundle at core m's PC issues (R354). -/
def doBr (m : Nat) (s : State) : State := s.issueAs m 3 0x30

/-- BR (R354). -/
def execBr (m : Fin 16) (s : State) : Host.Outcome State Fault Refusal := .next (doBr m.val s)

/-- BRCC in slot 3 of the bundle at core m's PC issues (R354). -/
def doBrcc (m : Nat) (s : State) : State := s.issueAs m 3 0x31

/-- BRCC (R354). -/
def execBrcc (m : Fin 16) (s : State) : Host.Outcome State Fault Refusal := .next (doBrcc m.val s)

/-- CALL in slot 3 of the bundle at core m's PC issues (R354). -/
def doCall (m : Nat) (s : State) : State := s.issueAs m 3 0x32

/-- CALL (R354). -/
def execCall (m : Fin 16) (s : State) : Host.Outcome State Fault Refusal := .next (doCall m.val s)

/-- JMP in slot 3 of the bundle at core m's PC issues (R354). -/
def doJmp (m : Nat) (s : State) : State := s.issueAs m 3 0x33

/-- JMP (R354). -/
def execJmp (m : Fin 16) (s : State) : Host.Outcome State Fault Refusal := .next (doJmp m.val s)

/-- REP in slot 3 of the bundle at core m's PC issues (R354). -/
def doRep (m : Nat) (s : State) : State := s.issueAs m 3 0x34

/-- REP (R354). -/
def execRep (m : Fin 16) (s : State) : Host.Outcome State Fault Refusal := .next (doRep m.val s)

/-- MVC in slot 3 of the bundle at core m's PC issues (R354). -/
def doMvc (m : Nat) (s : State) : State := s.issueAs m 3 0x35

/-- MVC (R354). -/
def execMvc (m : Fin 16) (s : State) : Host.Outcome State Fault Refusal := .next (doMvc m.val s)

/-- FENCE in slot 3 of the bundle at core m's PC issues (R354). -/
def doFence (m : Nat) (s : State) : State := s.issueAs m 3 0x36

/-- FENCE (R354). -/
def execFence (m : Fin 16) (s : State) : Host.Outcome State Fault Refusal := .next (doFence m.val s)

/-- NAP in slot 3 of the bundle at core m's PC issues (R354). -/
def doNap (m : Nat) (s : State) : State := s.issueAs m 3 0x37

/-- NAP (R354). -/
def execNap (m : Fin 16) (s : State) : Host.Outcome State Fault Refusal := .next (doNap m.val s)

/-- RETI in slot 3 of the bundle at core m's PC issues (R354). -/
def doReti (m : Nat) (s : State) : State := s.issueAs m 3 0x38

/-- RETI (R354). -/
def execReti (m : Fin 16) (s : State) : Host.Outcome State Fault Refusal := .next (doReti m.val s)

/-- ERET in slot 3 of the bundle at core m's PC issues (R354). -/
def doEret (m : Nat) (s : State) : State := s.issueAs m 3 0x39

/-- ERET (R354). -/
def execEret (m : Fin 16) (s : State) : Host.Outcome State Fault Refusal := .next (doEret m.val s)

/-- TRAP in slot 3 of the bundle at core m's PC issues (R354). -/
def doTrap (m : Nat) (s : State) : State := s.issueAs m 3 0x3a

/-- TRAP (R354). -/
def execTrap (m : Fin 16) (s : State) : Host.Outcome State Fault Refusal := .next (doTrap m.val s)

end Sys2Proof.Machine
end

