-- ==== Sys2Proof/Machine/Jtag.lean ====
section
/-! DEFINITION. Machine/Jtag.lean: the test access port (R477) and its access to the DBG_ page (R478, R479). -/

namespace Sys2Proof.Machine
open Sys2Proof

/-- The instruction the port acts on: EXTEST and SAMPLE/PRELOAD below level 2, and every code that is not listed, act as
BYPASS (R477). -/
def State.tapActs (s : State) : Nat :=
  let c := s.tap.instr
  if c = 0x00 ∨ c = 0x01 then (if 2 ≤ s.debugLevel then c else 0x3F)
  else if c = 0x02 ∨ c = 0x10 then c
  else 0x3F

/-- The identification register (R477). -/
def tapId : W32 := 0x18640079

/-- The DBGACC data register as the next capture returns it (R478). -/
def Tap.dbgacc (t : Tap) : Nat := b2n t.write + 2 * t.index + 2 ^ 11 * t.data + 2 ^ 43 * t.status

/-- What Capture-DR loads into the selected data register (R477): the identification, the outcome of the last DBGACC access (R478),
the bypass bit, which IEEE 1149.1 captures as 0; the boundary register's cells, whose description R477 leaves to the tools, as a
free value (log entry 63). -/
def State.selectDr (s : State) : State :=
  match s.tapActs with
  | 0x02 => { s with tap := { s.tap with dr := tapId.toNat } }
  | 0x10 => { s with tap := { s.tap with dr := s.tap.dbgacc } }
  | 0x3F => { s with tap := { s.tap with dr := 0 } }
  | _ =>
    let (f, s1) := s.free
    { s1 with tap := { s1.tap with dr := f.toNat } }

/-- Load the instruction register, which selects a data register (R477). -/
def State.setTap (s : State) (code : Nat) : State := { s with tap := { s.tap with instr := code } }.selectDr

/-- TAP_RESET: IDCODE is the instruction after a reset of the port (IEEE 1149.1; log entry 63). -/
def doTapReset (s : State) : State := s.setTap 0x02
/-- TAP_RESET (R477). -/
def execTapReset (s : State) : Host.Outcome State Fault Refusal := .next (doTapReset s)

/-- EXTEST (R477). -/
def execExtest (s : State) : Host.Outcome State Fault Refusal := .next (s.setTap 0x00)
/-- SAMPLE_PRELOAD (R477). -/
def execSamplePreload (s : State) : Host.Outcome State Fault Refusal := .next (s.setTap 0x01)
/-- IDCODE (R477). -/
def execIdcode (s : State) : Host.Outcome State Fault Refusal := .next (s.setTap 0x02)
/-- DBGACC (R478). -/
def execDbgacc (s : State) : Host.Outcome State Fault Refusal := .next (s.setTap 0x10)
/-- BYPASS (R477). -/
def execBypass (s : State) : Host.Outcome State Fault Refusal := .next (s.setTap 0x3F)

/-- The outcome of a DBGACC access by its response: STATUS 0 done, 1 busy, 2 refused (R478); nothing answers a device that
is not in Service. -/
def dbgStatus (r : Option (Nat × W32)) : Nat :=
  match r with
  | none => 1
  | some (st, _) => if st = 0 then 0 else 2

/-- What the next Capture-DR returns: the data of a read that was done; the spec gives none for another access, and it is a
free value. -/
def State.captureDr (s : State) (write : Bool) (idx st : Nat) (v : Option W32) : State :=
  match v with
  | some x => { s with tap := { s.tap with write := write, index := idx, data := x.toNat, status := st } }
  | none =>
    let (f, s1) := s.free
    { s1 with tap := { s1.tap with write := write, index := idx, data := wordOf f 0, status := st } }

/-- The value of a read that was done. -/
def readValue (write : Bool) (r : Option (Nat × W32)) : Option W32 :=
  match r with
  | some (0, x) => if write then none else some x
  | _ => none

/-- A DBGACC access at Update-DR: an access of the DBG_ page by the JTAG front end; a full `DBG_FW_FIFO` is busy (R478,
R479, R485). -/
def doDbgaccAccess (w : BitVec 48) (s : State) : State :=
  if s.tapActs ≠ 0x10 then s
  else
    let write := bitOf w.toNat 0 == 1
    let idx := bitsOf w.toNat 1 10
    let r : RegAddr := ⟨.dbg, 0, ⟨4 * idx % 4096, Nat.mod_lt _ (by decide)⟩⟩
    if write && idx == 0x60 / 4 && decide (64 ≤ s.control.fifo.length) && levelMay s.debugLevel .dbg 0x60 true then
      (s.captureDr true idx 1 none).selectDr
    else
      let n := s.outbox.length
      let s1 := if write then s.regWrite .jtag r (BitVec.ofNat 32 (bitsOf w.toNat 11 32)) else s.regRead .jtag r
      let o := lastResp (s1.outbox.drop n)
      ((s1.muteFrom n).captureDr write idx (dbgStatus o) (readValue write o)).selectDr

/-- DBGACC_ACCESS (R478). -/
def execDbgaccAccess (w : BitVec 48) (s : State) : Host.Outcome State Fault Refusal := .next (doDbgaccAccess w s)

end Sys2Proof.Machine
end

