-- ==== Sys2Proof/Machine/RegCommands.lean ====
section
/-! DEFINITION. Machine/RegCommands.lean: the commands that are accesses to registers: each passes the gates of
Access.lean (R13, R28, R29, R121, R459, R479, R509) at the register its row names, and then acts. -/

namespace Sys2Proof.Machine
open Sys2Proof

/-! ## Accesses by register -/

/-- REGISTER_WRITE (R9, R14): a write of any register; a size other than four bytes is refused and recorded. -/
def execRegisterWrite (a : Accessor) (r : RegAddr) (v : W32) (size : Fin 16) (s : State) : Host.Outcome State Fault Refusal :=
  .next
    (if size.val = 4 then s.regWrite a r v
     else
      let ch := s.channel a r
      s.access a r.page ch r.off.val true (fun s => (s.errReg a r.page ch r.off.val 2).refuseAccess a))

/-- SELECT_WRITE (R120, R122): a write at offset 0x014 of a page. -/
def execSelectWrite (a : Accessor) (r : RegAddr) (v : W32) (s : State) : Host.Outcome State Fault Refusal :=
  .next (s.regWrite a ⟨r.page, r.node, 0x14⟩ v)

/-- WIDE_WORD_STAGE (R15): a write of a register that is a low or a middle word of a 128-bit value. -/
def execWideWordStage (a : Accessor) (r : RegAddr) (v : W32) (s : State) : Host.Outcome State Fault Refusal :=
  .next (s.regWrite a r v)

/-- WIDE_WORD_APPLY (R15): a write of a register that is the high word of a 128-bit value. -/
def execWideWordApply (a : Accessor) (r : RegAddr) (v : W32) (s : State) : Host.Outcome State Fault Refusal :=
  .next (s.regWrite a r v)

/-- WIDE_WORD_CAPTURE (R15): a read of a register that is the low word of a 128-bit value. -/
def execWideWordCapture (a : Accessor) (r : RegAddr) (s : State) : Host.Outcome State Fault Refusal :=
  .next (s.regRead a r)

/-- PAIR_LO_READ (R107): a read of a register that is the low word of a pair. -/
def execPairLoRead (a : Accessor) (r : RegAddr) (s : State) : Host.Outcome State Fault Refusal := .next (s.regRead a r)

/-- CLEARING_READ (R9, R12): a read of a register. -/
def execClearingRead (a : Accessor) (r : RegAddr) (s : State) : Host.Outcome State Fault Refusal := .next (s.regRead a r)

/-! ## The orchard and its partitions -/

/-- LOAD_BEGIN (R103). -/
def execLoadBegin (a : Accessor) (p : Fin 64) (s : State) : Host.Outcome State Fault Refusal :=
  .next (s.access a .prt p.val 0x40 true (doPrtCmd a p.val 1))

/-- LOAD_END (R103). -/
def execLoadEnd (a : Accessor) (p : Fin 64) (s : State) : Host.Outcome State Fault Refusal :=
  .next (s.access a .prt p.val 0x40 true (doPrtCmd a p.val 2))

/-- START (R103). -/
def execStart (a : Accessor) (p : Fin 64) (s : State) : Host.Outcome State Fault Refusal :=
  .next (s.access a .prt p.val 0x40 true (doPrtCmd a p.val 3))

/-- STOP (R103). -/
def execStop (a : Accessor) (p : Fin 64) (s : State) : Host.Outcome State Fault Refusal :=
  .next (s.access a .prt p.val 0x40 true (doPrtCmd a p.val 4))

/-- SINGLE (R103). -/
def execSingle (a : Accessor) (p : Fin 64) (s : State) : Host.Outcome State Fault Refusal :=
  .next (s.access a .prt p.val 0x40 true (doPrtCmd a p.val 5))

/-- RESUME (R103). -/
def execResume (a : Accessor) (p : Fin 64) (s : State) : Host.Outcome State Fault Refusal :=
  .next (s.access a .prt p.val 0x40 true (doPrtCmd a p.val 6))

/-- UNLOAD (R103). -/
def execUnload (a : Accessor) (p : Fin 64) (s : State) : Host.Outcome State Fault Refusal :=
  .next (s.access a .prt p.val 0x40 true (doPrtCmd a p.val 7))

/-- BUNCHES_WRITE (R78). -/
def execBunchesWrite (a : Accessor) (p : Fin 64) (hi : Bool) (v : W32) (s : State) : Host.Outcome State Fault Refusal :=
  .next (s.access a .prt p.val (if hi then 0x48 else 0x44) true (doBunchesWrite a p.val hi v))

/-- EXCH_WRITE (R101). -/
def execExchWrite (a : Accessor) (p : Fin 64) (v : W32) (s : State) : Host.Outcome State Fault Refusal :=
  .next (s.access a .prt p.val 0x4C true (doExchWrite a p.val v))

/-- ISOLATE_WRITE (R117). -/
def execIsolateWrite (a : Accessor) (p : Fin 64) (v : W32) (s : State) : Host.Outcome State Fault Refusal :=
  .next (s.access a .prt p.val 0x58 true (doIsolateWrite a p.val v))

/-- BERRY_REMAP_WRITE (R75). -/
def execBerryRemapWrite (a : Accessor) (n : Fin 64) (v : W32) (s : State) : Host.Outcome State Fault Refusal :=
  .next (s.access a .orc n.val 0x40 true (doBerryRemapWrite a n.val v))

/-- BUNCH_REMAP_WRITE (R75). -/
def execBunchRemapWrite (a : Accessor) (n : Fin 64) (v : W32) (s : State) : Host.Outcome State Fault Refusal :=
  .next (s.access a .orc n.val 0x44 true (doBunchRemapWrite a n.val v))

/-- JOIN (R249). -/
def execJoin (a : Accessor) (p : Fin 64) (s : State) : Host.Outcome State Fault Refusal :=
  .next (s.access a .res 0 0x40 true (doJoin a p.val))

/-- CHECK (R261). -/
def execCheck (a : Accessor) (s : State) : Host.Outcome State Fault Refusal :=
  .next (s.access a .res 0 0x40 true (doCheck a))

/-- LOG_USER_CMD (R270). -/
def execLogUserCmd (a : Accessor) (v : W32) (s : State) : Host.Outcome State Fault Refusal :=
  .next (s.access a .log 0 0x70 true (doLogUserCmd a v))

/-! ## Design memory -/

/-- BERTH_WRITE (R141). -/
def execBerthWrite (a : Accessor) (b : Fin 64) (v : W32) (s : State) : Host.Outcome State Fault Refusal :=
  .next (s.access a .dmb b.val 0x40 true (doBerthWrite a b.val v))

/-- REPAIR_ENTRY_WRITE (R154). -/
def execRepairEntryWrite (a : Accessor) (b : Fin 64) (k : Fin 16) (v : W32) (s : State) :
    Host.Outcome State Fault Refusal :=
  .next (s.access a .dmb b.val (0x80 + 4 * k.val) true (doRepairEntryWrite a b.val k.val v))

/-! ## The cascade -/

/-- PORT_ENABLE (R199). -/
def execPortEnable (a : Accessor) (n : Fin 4) (s : State) : Host.Outcome State Fault Refusal :=
  .next (s.access a .cas 0 (0x80 + 0x20 * n.val) true (doPortEnable a n.val))

/-- PORT_DISABLE (R199). -/
def execPortDisable (a : Accessor) (n : Fin 4) (s : State) : Host.Outcome State Fault Refusal :=
  .next (s.access a .cas 0 (0x80 + 0x20 * n.val) true (doPortDisable a n.val))

/-- LANE_POWER_REQUEST (R207). -/
def execLanePowerRequest (a : Accessor) (n req : Fin 4) (s : State) : Host.Outcome State Fault Refusal :=
  .next (s.access a .cas 0 (0x80 + 0x20 * n.val) true (doLanePowerRequest a n.val req.val))

/-- CAS_STOP (R229). -/
def execCasStop (a : Accessor) (s : State) : Host.Outcome State Fault Refusal :=
  .next (s.access a .cas 0 0x4C true (doCasStop a))

/-- NETMAP_DATA_WRITE (R215). -/
def execNetmapDataWrite (a : Accessor) (v : W32) (s : State) : Host.Outcome State Fault Refusal :=
  .next (s.access a .cas 0 0x64 true (doNetmapDataWrite a v))

/-- NETMAP_DATA_READ (R215). -/
def execNetmapDataRead (a : Accessor) (s : State) : Host.Outcome State Fault Refusal :=
  .next (s.access a .cas 0 0x64 false (doNetmapDataRead a))

/-! ## The fabric's configuration -/

/-- LOAD (R298). -/
def execLoad (a : Accessor) (s : State) : Host.Outcome State Fault Refusal :=
  .next (s.access a .cfg 0 0x40 true (doLoad a))

/-- LOAD_GOLDEN (R298). -/
def execLoadGolden (a : Accessor) (s : State) : Host.Outcome State Fault Refusal :=
  .next (s.access a .cfg 0 0x40 true (doLoadGolden a))

/-- CLEAR (R298). -/
def execClear (a : Accessor) (s : State) : Host.Outcome State Fault Refusal :=
  .next (s.access a .cfg 0 0x40 true (doClear a))

/-- STREAM (R309). -/
def execStream (a : Accessor) (s : State) : Host.Outcome State Fault Refusal :=
  .next (s.access a .cfg 0 0x40 true (doStream a))

/-- REGION_WRITE (R305). -/
def execRegionWrite (a : Accessor) (i : Fin 16) (v : W32) (s : State) : Host.Outcome State Fault Refusal :=
  .next (s.access a .cfg 0 (0x100 + 8 * i.val) true (doRegionWrite a i.val v))

/-! ## Model cores -/

/-- CORE_RESET (R341). -/
def execCoreReset (a : Accessor) (m : Fin 16) (clk : Bool) (s : State) : Host.Outcome State Fault Refusal :=
  .next (s.access a .mdc m.val 0x04 true (doCoreReset a m.val clk))

/-- CORE_RESET_RELEASE (R341). -/
def execCoreResetRelease (a : Accessor) (m : Fin 16) (clk : Bool) (s : State) : Host.Outcome State Fault Refusal :=
  .next (s.access a .mdc m.val 0x04 true (doCoreResetRelease a m.val clk))

/-- WDT_KICK (R342). -/
def execWdtKick (a : Accessor) (m : Fin 16) (v : W32) (s : State) : Host.Outcome State Fault Refusal :=
  .next (s.access a .mdc m.val 0x50 true (doWdtKick a m.val v))

/-! ## The mailbox -/

/-- GET_INFO (R378). -/
def execGetInfo (a : Accessor) (seq : Fin 256) (s : State) : Host.Outcome State Fault Refusal :=
  .next (s.access a .hst 0 0x40 true (doGetInfo a seq.val))

/-- ECHO (R378). -/
def execEcho (a : Accessor) (seq : Fin 256) (s : State) : Host.Outcome State Fault Refusal :=
  .next (s.access a .hst 0 0x40 true (doEcho a seq.val))

/-- LOAD_IMAGE (R184). -/
def execLoadImage (a : Accessor) (seq : Fin 256) (s : State) : Host.Outcome State Fault Refusal :=
  .next (s.access a .hst 0 0x40 true (doLoadImage a seq.val))

/-- BLOCK_ENABLE (R380). -/
def execBlockEnable (a : Accessor) (seq : Fin 256) (s : State) : Host.Outcome State Fault Refusal :=
  .next (s.access a .hst 0 0x40 true (doBlockEnable a seq.val))

/-- BLOCK_DISABLE (R380). -/
def execBlockDisable (a : Accessor) (seq : Fin 256) (s : State) : Host.Outcome State Fault Refusal :=
  .next (s.access a .hst 0 0x40 true (doBlockDisable a seq.val))

/-- FW_START (R461). -/
def execFwStart (a : Accessor) (seq : Fin 256) (s : State) : Host.Outcome State Fault Refusal :=
  .next (s.access a .hst 0 0x40 true (doFwStart a seq.val))

/-- FW_LOAD_DBG (R485). -/
def execFwLoadDbg (a : Accessor) (seq : Fin 256) (s : State) : Host.Outcome State Fault Refusal :=
  .next (s.access a .hst 0 0x40 true (doFwLoadDbg a seq.val))

/-- SET_STEP_FREQ (R468). -/
def execSetStepFreq (a : Accessor) (seq : Fin 256) (s : State) : Host.Outcome State Fault Refusal :=
  .next (s.access a .hst 0 0x40 true (doSetStepFreq a seq.val))

/-- FW_LOAD (R376). -/
def execFwLoad (a : Accessor) (seq : Fin 256) (image : List W32) (ok : Bool) (s : State) :
    Host.Outcome State Fault Refusal :=
  .next (s.access a .hst 0 0x40 true (doFwLoad a seq.val image ok))

/-! ## Interrupts -/

/-- IRQ_TARGET_WRITE (R385). -/
def execIrqTargetWrite (a : Accessor) (n : Fin 256) (v : W32) (s : State) : Host.Outcome State Fault Refusal :=
  .next (s.access a .irq 0 (0x400 + 4 * n.val) true (doIrqTargetWrite a n.val v))

/-- IRQ_EOI (R387). -/
def execIrqEoi (a : Accessor) (v : W32) (s : State) : Host.Outcome State Fault Refusal :=
  .next (s.access a .irq 0 0x60 true (doIrqEoi a v))

/-- IRQ_SWSET (R384). -/
def execIrqSwset (a : Accessor) (hi : Bool) (v : W32) (s : State) : Host.Outcome State Fault Refusal :=
  .next (s.access a .irq 0 (if hi then 0xC4 else 0xC0) true (doIrqSwset a hi v))

/-- IRQ_SWCLR (R390). -/
def execIrqSwclr (a : Accessor) (hi : Bool) (v : W32) (s : State) : Host.Outcome State Fault Refusal :=
  .next (s.access a .irq 0 (if hi then 0xCC else 0xC8) true (doIrqSwclr a hi v))

/-! ## The harbourmaster -/

/-- POST_WORD_WRITE (R392). -/
def execPostWordWrite (a : Accessor) (k : Fin 15) (v : W32) (s : State) : Host.Outcome State Fault Refusal :=
  .next (s.access a .hms 0 (0x100 + 4 * k.val) true (doPostWordWrite a k.val v))

/-- POST_COMMIT (R392). -/
def execPostCommit (a : Accessor) (v : W32) (s : State) : Host.Outcome State Fault Refusal :=
  .next (s.access a .hms 0 0x13C true (doPostCommit a v))

/-- HMS_TAKE (R394). -/
def execHmsTake (a : Accessor) (s : State) : Host.Outcome State Fault Refusal :=
  .next (s.access a .hms 0 0x60 false (doHmsTake a))

/-- HMS_DONE (R395). -/
def execHmsDone (a : Accessor) (v : W32) (s : State) : Host.Outcome State Fault Refusal :=
  .next (s.access a .hms 0 0x64 true (doHmsDone a v))

/-- HMS_FAIL (R395). -/
def execHmsFail (a : Accessor) (v : W32) (s : State) : Host.Outcome State Fault Refusal :=
  .next (s.access a .hms 0 0x68 true (doHmsFail a v))

/-- HMS_CANCEL (R397). -/
def execHmsCancel (a : Accessor) (v : W32) (s : State) : Host.Outcome State Fault Refusal :=
  .next (s.access a .hms 0 0x58 true (doHmsCancel a v))

/-! ## Acquisition -/

/-- ARM (R421). -/
def execArm (a : Accessor) (u : Fin 4) (s : State) : Host.Outcome State Fault Refusal :=
  .next (s.access a .acq u.val 0x40 true (doArm a u.val))

/-- ACQ_STOP (R421). -/
def execAcqStop (a : Accessor) (u : Fin 4) (s : State) : Host.Outcome State Fault Refusal :=
  .next (s.access a .acq u.val 0x40 true (doAcqStop a u.val))

/-- FORCE (R424). -/
def execForce (a : Accessor) (u : Fin 4) (s : State) : Host.Outcome State Fault Refusal :=
  .next (s.access a .acq u.val 0x40 true (doForce a u.val))

/-- RD_INDEX_WRITE (R420). -/
def execRdIndexWrite (a : Accessor) (u : Fin 4) (v : W32) (s : State) : Host.Outcome State Fault Refusal :=
  .next (s.access a .acq u.val 0x2C0 true (doRdIndexWrite a u.val v))

/-- RD_DATA_READ (R420). -/
def execRdDataRead (a : Accessor) (u k : Fin 4) (us : List Upset) (s : State) : Host.Outcome State Fault Refusal :=
  .next (s.access a .acq u.val (0x2D0 + 4 * k.val) false (doRdDataRead a u.val k.val us))

/-! ## Time and Ethernet -/

/-- OFFSET (R436). -/
def execOffset (a : Accessor) (s : State) : Host.Outcome State Fault Refusal :=
  .next (s.access a .tim 0 0x40 true (doOffset a))

/-- UNLOCK (R438). -/
def execUnlock (a : Accessor) (s : State) : Host.Outcome State Fault Refusal :=
  .next (s.access a .tim 0 0x40 true (doUnlock a))

/-- SET (R435). -/
def execSet (a : Accessor) (s : State) : Host.Outcome State Fault Refusal :=
  .next (s.access a .tim 0 0x40 true (doSet a))

/-- RATE_WRITE (R434). -/
def execRateWrite (a : Accessor) (v : W32) (s : State) : Host.Outcome State Fault Refusal :=
  .next (s.access a .tim 0 0x44 true (doRateWrite a v))

/-- ETH_TX_KICK (R443). -/
def execEthTxKick (a : Accessor) (n : Fin 8) (v : W32) (s : State) : Host.Outcome State Fault Refusal :=
  .next (s.access a .eth 0 (0x128 + 0x80 * n.val) true (doEthTxKick a n.val v))

/-! ## The endpoint's interrupts, resets -/

/-- MSIX_UNMASK (R454). -/
def execMsixUnmask (a : Accessor) (v : Fin 64) (s : State) : Host.Outcome State Fault Refusal :=
  .next (s.access a .hst 0 (0x80C + 16 * v.val) true (doMsixUnmask a v.val))

/-- SYSTEM_RESET (R462, R463). -/
def execSystemReset (a : Accessor) (s : State) : Host.Outcome State Fault Refusal :=
  .next (s.access a .pwr 0 0x40 true (doResetCommand a 1))

/-- CONTROL_RESET (R463, R464). -/
def execControlReset (a : Accessor) (s : State) : Host.Outcome State Fault Refusal :=
  .next (s.access a .pwr 0 0x40 true (doResetCommand a 2))

/-- REVIVE (R403). -/
def execRevive (a : Accessor) (q : Fin 44) (s : State) : Host.Outcome State Fault Refusal :=
  .next (s.access a .noc q.val 0x04 true (doRevive a q.val))

/-! ## Debug and trace -/

/-- GRANT_WRITE (R480). -/
def execGrantWrite (a : Accessor) (v : W32) (s : State) : Host.Outcome State Fault Refusal :=
  .next (s.access a .dbg 0 0x44 true (doGrantWrite a v))

/-- UNLOCK_SUBMIT (R481). -/
def execUnlockSubmit (a : Accessor) (s : State) : Host.Outcome State Fault Refusal :=
  .next (s.access a .dbg 0 0x5C true (doUnlockSubmit a))

/-- WINDOW_READ (R482). -/
def execWindowRead (a : Accessor) (wide inc : Bool) (s : State) : Host.Outcome State Fault Refusal :=
  .next (s.access a .dbg 0 0x88 true (doWindowRead a wide inc))

/-- WINDOW_WRITE (R482). -/
def execWindowWrite (a : Accessor) (wide inc : Bool) (s : State) : Host.Outcome State Fault Refusal :=
  .next (s.access a .dbg 0 0x88 true (doWindowWrite a wide inc))

/-- STEAL_READ (R483). -/
def execStealRead (a : Accessor) (wide inc : Bool) (us : List Upset) (s : State) : Host.Outcome State Fault Refusal :=
  .next (s.access a .dbg 0 0x88 true (doStealRead a wide inc us))

/-- STEAL_WRITE (R483). -/
def execStealWrite (a : Accessor) (wide inc : Bool) (us : List Upset) (s : State) : Host.Outcome State Fault Refusal :=
  .next (s.access a .dbg 0 0x88 true (doStealWrite a wide inc us))

/-- FW_FIFO_WRITE (R485). -/
def execFwFifoWrite (a : Accessor) (v : W32) (s : State) : Host.Outcome State Fault Refusal :=
  .next (s.access a .dbg 0 0x60 true (doFwFifoWrite a v))

/-- CORE_HALT (R486). -/
def execCoreHalt (a : Accessor) (m : Fin 16) (s : State) : Host.Outcome State Fault Refusal :=
  .next (s.access a .dbg 0 (0x100 + 0x40 * m.val) true (doCoreHalt a m.val))

/-- CORE_RESUME (R488). -/
def execCoreResume (a : Accessor) (m : Fin 16) (s : State) : Host.Outcome State Fault Refusal :=
  .next (s.access a .dbg 0 (0x100 + 0x40 * m.val) true (doCoreResume a m.val))

/-- CORE_STEP (R488). -/
def execCoreStep (a : Accessor) (m : Fin 16) (s : State) : Host.Outcome State Fault Refusal :=
  .next (s.access a .dbg 0 (0x100 + 0x40 * m.val) true (doCoreStep a m.val))

/-- CORE_REGISTER_WRITE (R489). -/
def execCoreRegisterWrite (a : Accessor) (m : Fin 16) (v : W32) (s : State) : Host.Outcome State Fault Refusal :=
  .next (s.access a .dbg 0 (0x11C + 0x40 * m.val) true (doCoreRegisterWrite a m.val v))

/-- VT_TX_READ (R495). -/
def execVtTxRead (a : Accessor) (m : Fin 16) (s : State) : Host.Outcome State Fault Refusal :=
  .next (s.access a .dbg 0 (0x130 + 0x40 * m.val) false (doVtTxRead a m.val))

/-- VT_RX_WRITE (R495). -/
def execVtRxWrite (a : Accessor) (m : Fin 16) (v : W32) (s : State) : Host.Outcome State Fault Refusal :=
  .next (s.access a .dbg 0 (0x134 + 0x40 * m.val) true (fun s => s.writeDbgCore a m.val 0x34 v))

/-- TRACE_ENABLE (R498). -/
def execTraceEnable (a : Accessor) (v : W32) (s : State) : Host.Outcome State Fault Refusal :=
  .next (s.access a .trc 0 0x04 true (doTraceEnable a v))

/-- TRACE_BUFFER_READ (R504). -/
def execTraceBufferRead (a : Accessor) (s : State) : Host.Outcome State Fault Refusal :=
  .next (s.access a .trc 0 0x5C false (doTraceBufferRead a))

/-- EMULATION_HALT (R491): `DBG_RUN` HALT, or with no accessor tick T. -/
def execEmulationHalt (a : Option Accessor) (s : State) : Host.Outcome State Fault Refusal :=
  .next (match a with
    | some x => s.access x .dbg 0 0x58 true (doEmulationHalt a)
    | none => doEmulationHalt a s)

/-- EMULATION_RELEASE (R493): `DBG_RUN` RELEASE, or with no accessor the first restarted tick. -/
def execEmulationRelease (a : Option Accessor) (s : State) : Host.Outcome State Fault Refusal :=
  .next (match a with
    | some x => s.access x .dbg 0 0x58 true (doEmulationRelease a)
    | none => doEmulationRelease a s)

/-- VT_TX_WRITE (R495, R496): model core m writes its terminal. -/
def execVtTxWrite (m : Fin 16) (v : W32) (s : State) : Host.Outcome State Fault Refusal :=
  .next (s.access (.core m) .dbg 0 (0x130 + 0x40 * m.val) true (fun s => s.writeDbgCore (.core m) m.val 0x30 v))

/-- VT_RX_READ (R495): model core m reads its terminal. -/
def execVtRxRead (m : Fin 16) (s : State) : Host.Outcome State Fault Refusal :=
  .next (s.access (.core m) .dbg 0 (0x134 + 0x40 * m.val) false (fun s => s.vtRxRead (.core m) m.val))

/-- NOTE_WRITE (R497): model core m writes note register c. -/
def execNoteWrite (m c : Fin 16) (v : W32) (s : State) : Host.Outcome State Fault Refusal :=
  .next (s.access (.core m) .dbg 0 (0x800 + 0x40 * m.val + 4 * c.val) true
    (fun s => (doNoteWrite m.val c.val v s).respond (.core m) true 0))

end Sys2Proof.Machine
end

