-- ==== Sys2Proof/Machine/Dispatch.lean ====
section
/-! DEFINITION. Machine/Dispatch.lean: the meaning of each command, one arm per constructor of Instr. -/

namespace Sys2Proof.Machine
open Sys2Proof

/-- The effect of a command on everything but the queue. -/
def exec (i : Instr) (s : State) : Host.Outcome State Fault Refusal :=
  match i with
  | .registerWrite a r v size => Sys2Proof.Machine.execRegisterWrite a r v size s
  | .selectWrite a r v => Sys2Proof.Machine.execSelectWrite a r v s
  | .wideWordStage a r v => Sys2Proof.Machine.execWideWordStage a r v s
  | .wideWordApply a r v => Sys2Proof.Machine.execWideWordApply a r v s
  | .wideWordCapture a r => Sys2Proof.Machine.execWideWordCapture a r s
  | .pairLoRead a r => Sys2Proof.Machine.execPairLoRead a r s
  | .clearingRead a r => Sys2Proof.Machine.execClearingRead a r s
  | .nocRequest k => Sys2Proof.Machine.execNocRequest k s
  | .nocResponse q tag status data sealOk => Sys2Proof.Machine.execNocResponse q tag status data sealOk s
  | .quayDead q => Sys2Proof.Machine.execQuayDead q s
  | .revive a q => Sys2Proof.Machine.execRevive a q s
  | .step p u => Sys2Proof.Machine.execStep p u s
  | .cycleRelease p b => Sys2Proof.Machine.execCycleRelease p b s
  | .timerInstant p b => Sys2Proof.Machine.execTimerInstant p b s
  | .releaseLineEdge l rising => Sys2Proof.Machine.execReleaseLineEdge l rising s
  | .cycleBoundary p b => Sys2Proof.Machine.execCycleBoundary p b s
  | .farTransferComplete p n status w => Sys2Proof.Machine.execFarTransferComplete p n status w s
  | .loadBegin a p => Sys2Proof.Machine.execLoadBegin a p s
  | .loadEnd a p => Sys2Proof.Machine.execLoadEnd a p s
  | .start a p => Sys2Proof.Machine.execStart a p s
  | .stop a p => Sys2Proof.Machine.execStop a p s
  | .single a p => Sys2Proof.Machine.execSingle a p s
  | .resume a p => Sys2Proof.Machine.execResume a p s
  | .unload a p => Sys2Proof.Machine.execUnload a p s
  | .bunchesWrite a p hi v => Sys2Proof.Machine.execBunchesWrite a p hi v s
  | .exchWrite a p v => Sys2Proof.Machine.execExchWrite a p v s
  | .isolateWrite a p v => Sys2Proof.Machine.execIsolateWrite a p v s
  | .bunchUngateDone p => Sys2Proof.Machine.execBunchUngateDone p s
  | .instructionWordWrite p n b st pip w chk => Sys2Proof.Machine.execInstructionWordWrite p n b st pip w chk s
  | .berryRemapWrite a n v => Sys2Proof.Machine.execBerryRemapWrite a n v s
  | .bunchRemapWrite a n v => Sys2Proof.Machine.execBunchRemapWrite a n v s
  | .spareFailure n ofBunch => Sys2Proof.Machine.execSpareFailure n ofBunch s
  | .bankNocAccess b u => Sys2Proof.Machine.execBankNocAccess b u s
  | .eccWriteback b => Sys2Proof.Machine.execEccWriteback b s
  | .berthWrite a b v => Sys2Proof.Machine.execBerthWrite a b v s
  | .handoverComplete b => Sys2Proof.Machine.execHandoverComplete b s
  | .testerOperation b fails => Sys2Proof.Machine.execTesterOperation b fails s
  | .repairEntryWrite a b k v => Sys2Proof.Machine.execRepairEntryWrite a b k v s
  | .journalWrite b => Sys2Proof.Machine.execJournalWrite b s
  | .journalRestore b => Sys2Proof.Machine.execJournalRestore b s
  | .restoreDone p => Sys2Proof.Machine.execRestoreDone p s
  | .isWriteback n b => Sys2Proof.Machine.execIsWriteback n b s
  | .isScrubRead n b st u => Sys2Proof.Machine.execIsScrubRead n b st u s
  | .refetchComplete n b st pip w chk badAgain => Sys2Proof.Machine.execRefetchComplete n b st pip w chk badAgain s
  | .berryRemapDone n b => Sys2Proof.Machine.execBerryRemapDone n b s
  | .ssScrubRead n b r u => Sys2Proof.Machine.execSsScrubRead n b r u s
  | .join a p => Sys2Proof.Machine.execJoin a p s
  | .rejoinPhaseEnd p => Sys2Proof.Machine.execRejoinPhaseEnd p s
  | .check a => Sys2Proof.Machine.execCheck a s
  | .vddCoreWarning tick => Sys2Proof.Machine.execVddCoreWarning tick s
  | .vddCoreRecovery us => Sys2Proof.Machine.execVddCoreRecovery us s
  | .dipWindowExpiry => Sys2Proof.Machine.execDipWindowExpiry s
  | .retentionCheckDone u => Sys2Proof.Machine.execRetentionCheckDone u s
  | .logbookWrite => Sys2Proof.Machine.execLogbookWrite s
  | .logbookScanDone => Sys2Proof.Machine.execLogbookScanDone s
  | .logUserCmd a v => Sys2Proof.Machine.execLogUserCmd a v s
  | .portEnable a n => Sys2Proof.Machine.execPortEnable a n s
  | .portDisable a n => Sys2Proof.Machine.execPortDisable a n s
  | .bringupStageDone n lanes raw ord => Sys2Proof.Machine.execBringupStageDone n lanes raw ord s
  | .bringupTimeout n => Sys2Proof.Machine.execBringupTimeout n s
  | .train n lane heard id master => Sys2Proof.Machine.execTrain n lane heard id master s
  | .laneMark n lane delay => Sys2Proof.Machine.execLaneMark n lane delay s
  | .blockLockLoss n lane => Sys2Proof.Machine.execBlockLockLoss n lane s
  | .retrainDone n raw ord => Sys2Proof.Machine.execRetrainDone n raw ord s
  | .retrainTimeout n => Sys2Proof.Machine.execRetrainTimeout n s
  | .lanePowerRequest a n req => Sys2Proof.Machine.execLanePowerRequest a n req s
  | .quiet n => Sys2Proof.Machine.execQuiet n s
  | .cold n => Sys2Proof.Machine.execCold n s
  | .wakeBurst n => Sys2Proof.Machine.execWakeBurst n s
  | .cascadeFrameSend n => Sys2Proof.Machine.execCascadeFrameSend n s
  | .cascadeFrameReceive n f => Sys2Proof.Machine.execCascadeFrameReceive n f s
  | .linkStatus n ack credits => Sys2Proof.Machine.execLinkStatus n ack credits s
  | .nak n seq => Sys2Proof.Machine.execNak n seq s
  | .replay n seq => Sys2Proof.Machine.execReplay n seq s
  | .orderArrival kind countdown arg => Sys2Proof.Machine.execOrderArrival kind countdown arg s
  | .startOrder b => Sys2Proof.Machine.execStartOrder b s
  | .releaseOrder b => Sys2Proof.Machine.execReleaseOrder b s
  | .resumeOrder => Sys2Proof.Machine.execResumeOrder s
  | .stopOrder => Sys2Proof.Machine.execStopOrder s
  | .haltOrder => Sys2Proof.Machine.execHaltOrder s
  | .unhaltOrder => Sys2Proof.Machine.execUnhaltOrder s
  | .stepfreqOrder => Sys2Proof.Machine.execStepfreqOrder s
  | .tagFaultReport origin arg => Sys2Proof.Machine.execTagFaultReport origin arg s
  | .stopReqReport origin arg => Sys2Proof.Machine.execStopReqReport origin arg s
  | .haltReqReport origin arg => Sys2Proof.Machine.execHaltReqReport origin arg s
  | .throttleReqReport origin arg => Sys2Proof.Machine.execThrottleReqReport origin arg s
  | .faultReport origin arg => Sys2Proof.Machine.execFaultReport origin arg s
  | .holdSlotCheck tick low done => Sys2Proof.Machine.execHoldSlotCheck tick low done s
  | .holdBegin tick => Sys2Proof.Machine.execHoldBegin tick s
  | .startIssue => Sys2Proof.Machine.execStartIssue s
  | .periodRelease tick b => Sys2Proof.Machine.execPeriodRelease tick b s
  | .casStop a => Sys2Proof.Machine.execCasStop a s
  | .doneFall => Sys2Proof.Machine.execDoneFall s
  | .netmapDataWrite a v => Sys2Proof.Machine.execNetmapDataWrite a v s
  | .netmapDataRead a => Sys2Proof.Machine.execNetmapDataRead a s
  | .load a => Sys2Proof.Machine.execLoad a s
  | .loadGolden a => Sys2Proof.Machine.execLoadGolden a s
  | .clear a => Sys2Proof.Machine.execClear a s
  | .stream a => Sys2Proof.Machine.execStream a s
  | .streamFetch words ok sealOk => Sys2Proof.Machine.execStreamFetch words ok sealOk s
  | .streamMarker => Sys2Proof.Machine.execStreamMarker s
  | .nopRecord => Sys2Proof.Machine.execNopRecord s
  | .setDevice => Sys2Proof.Machine.execSetDevice s
  | .setGclkA => Sys2Proof.Machine.execSetGclkA s
  | .setGclkB => Sys2Proof.Machine.execSetGclkB s
  | .setBankv => Sys2Proof.Machine.execSetBankv s
  | .setRegion => Sys2Proof.Machine.execSetRegion s
  | .setFpll0 => Sys2Proof.Machine.execSetFpll0 s
  | .setFpll1 => Sys2Proof.Machine.execSetFpll1 s
  | .frames => Sys2Proof.Machine.execFrames s
  | .frameEntry => Sys2Proof.Machine.execFrameEntry s
  | .readRecord => Sys2Proof.Machine.execReadRecord s
  | .checkRecord => Sys2Proof.Machine.execCheckRecord s
  | .actionNone => Sys2Proof.Machine.execActionNone s
  | .checkReset => Sys2Proof.Machine.execCheckReset s
  | .launch => Sys2Proof.Machine.execLaunch s
  | .endStream => Sys2Proof.Machine.execEndStream s
  | .quiesce => Sys2Proof.Machine.execQuiesce s
  | .frameClearDone => Sys2Proof.Machine.execFrameClearDone s
  | .startupPhase locked done => Sys2Proof.Machine.execStartupPhase locked done s
  | .startupPllTimeout => Sys2Proof.Machine.execStartupPllTimeout s
  | .doneTimeout => Sys2Proof.Machine.execDoneTimeout s
  | .releaseBlankEnd => Sys2Proof.Machine.execReleaseBlankEnd s
  | .cpWord w => Sys2Proof.Machine.execCpWord w s
  | .regionWrite a k v => Sys2Proof.Machine.execRegionWrite a k v s
  | .regionStreamTimeout => Sys2Proof.Machine.execRegionStreamTimeout s
  | .scrubFrameRead u => Sys2Proof.Machine.execScrubFrameRead u s
  | .frameRefetch words ok => Sys2Proof.Machine.execFrameRefetch words ok s
  | .scrubHeartbeatTimeout => Sys2Proof.Machine.execScrubHeartbeatTimeout s
  | .scrubSettingsFault shadowBad => Sys2Proof.Machine.execScrubSettingsFault shadowBad s
  | .frameWindowRead src tag f k => Sys2Proof.Machine.execFrameWindowRead src tag f k s
  | .gclkLost t => Sys2Proof.Machine.execGclkLost t s
  | .fabricPllUnlock p => Sys2Proof.Machine.execFabricPllUnlock p s
  | .bankVoltageChange b level => Sys2Proof.Machine.execBankVoltageChange b level s
  | .nop m k => Sys2Proof.Machine.execNop m k s
  | .vadd m k => Sys2Proof.Machine.execVadd m k s
  | .vsub m k => Sys2Proof.Machine.execVsub m k s
  | .vadds m k => Sys2Proof.Machine.execVadds m k s
  | .vsubs m k => Sys2Proof.Machine.execVsubs m k s
  | .vand m k => Sys2Proof.Machine.execVand m k s
  | .vor m k => Sys2Proof.Machine.execVor m k s
  | .vxor m k => Sys2Proof.Machine.execVxor m k s
  | .vshl m k => Sys2Proof.Machine.execVshl m k s
  | .vshra m k => Sys2Proof.Machine.execVshra m k s
  | .vshrl m k => Sys2Proof.Machine.execVshrl m k s
  | .vcmp m k => Sys2Proof.Machine.execVcmp m k s
  | .vmin m k => Sys2Proof.Machine.execVmin m k s
  | .vmax m k => Sys2Proof.Machine.execVmax m k s
  | .vbcast m k => Sys2Proof.Machine.execVbcast m k s
  | .movi m k => Sys2Proof.Machine.execMovi m k s
  | .mac m k => Sys2Proof.Machine.execMac m k s
  | .msu m k => Sys2Proof.Machine.execMsu m k s
  | .mpy m k => Sys2Proof.Machine.execMpy m k s
  | .mova m k => Sys2Proof.Machine.execMova m k s
  | .movd m k => Sys2Proof.Machine.execMovd m k s
  | .aclr m k => Sys2Proof.Machine.execAclr m k s
  | .ld m k => Sys2Proof.Machine.execLd m k s
  | .st m k => Sys2Proof.Machine.execSt m k s
  | .ldp m k => Sys2Proof.Machine.execLdp m k s
  | .stp m k => Sys2Proof.Machine.execStp m k s
  | .sta m k => Sys2Proof.Machine.execSta m k s
  | .lr m k => Sys2Proof.Machine.execLr m k s
  | .sc m k => Sys2Proof.Machine.execSc m k s
  | .padd m k => Sys2Proof.Machine.execPadd m k s
  | .pmov m k => Sys2Proof.Machine.execPmov m k s
  | .pmovi m k => Sys2Proof.Machine.execPmovi m k s
  | .br m => Sys2Proof.Machine.execBr m s
  | .brcc m => Sys2Proof.Machine.execBrcc m s
  | .call m => Sys2Proof.Machine.execCall m s
  | .jmp m => Sys2Proof.Machine.execJmp m s
  | .rep m => Sys2Proof.Machine.execRep m s
  | .mvc m => Sys2Proof.Machine.execMvc m s
  | .fence m => Sys2Proof.Machine.execFence m s
  | .nap m => Sys2Proof.Machine.execNap m s
  | .reti m => Sys2Proof.Machine.execReti m s
  | .eret m => Sys2Proof.Machine.execEret m s
  | .trap m => Sys2Proof.Machine.execTrap m s
  | .exceptionEntry m => Sys2Proof.Machine.execExceptionEntry m s
  | .interruptEntry m => Sys2Proof.Machine.execInterruptEntry m s
  | .napWake m => Sys2Proof.Machine.execNapWake m s
  | .farLoadResponse m tag status w => Sys2Proof.Machine.execFarLoadResponse m tag status w s
  | .farStoreError m tag status => Sys2Proof.Machine.execFarStoreError m tag status s
  | .scratchpadNocAccess m forced u => Sys2Proof.Machine.execScratchpadNocAccess m forced u s
  | .coreReset a m clk => Sys2Proof.Machine.execCoreReset a m clk s
  | .coreResetRelease a m clk => Sys2Proof.Machine.execCoreResetRelease a m clk s
  | .wdtKick a m v => Sys2Proof.Machine.execWdtKick a m v s
  | .wdtExpiry m => Sys2Proof.Machine.execWdtExpiry m s
  | .getInfo a seq => Sys2Proof.Machine.execGetInfo a seq s
  | .echo a seq => Sys2Proof.Machine.execEcho a seq s
  | .loadImage a seq => Sys2Proof.Machine.execLoadImage a seq s
  | .imageLine words chk ok => Sys2Proof.Machine.execImageLine words chk ok s
  | .blockEnable a seq => Sys2Proof.Machine.execBlockEnable a seq s
  | .blockDisable a seq => Sys2Proof.Machine.execBlockDisable a seq s
  | .fwLoad a seq image ok => Sys2Proof.Machine.execFwLoad a seq image ok s
  | .fwStart a seq => Sys2Proof.Machine.execFwStart a seq s
  | .fwLoadDbg a seq => Sys2Proof.Machine.execFwLoadDbg a seq s
  | .setStepFreq a seq => Sys2Proof.Machine.execSetStepFreq a seq s
  | .mailboxCompletion => Sys2Proof.Machine.execMailboxCompletion s
  | .heartbeat => Sys2Proof.Machine.execHeartbeat s
  | .controlWdtExpiry k => Sys2Proof.Machine.execControlWdtExpiry k s
  | .irqTargetWrite a n v => Sys2Proof.Machine.execIrqTargetWrite a n v s
  | .controlIrqTake k => Sys2Proof.Machine.execControlIrqTake k s
  | .irqEoi a v => Sys2Proof.Machine.execIrqEoi a v s
  | .irqSwset a hi v => Sys2Proof.Machine.execIrqSwset a hi v s
  | .irqSwclr a hi v => Sys2Proof.Machine.execIrqSwclr a hi v s
  | .postWordWrite a k v => Sys2Proof.Machine.execPostWordWrite a k v s
  | .postCommit a v => Sys2Proof.Machine.execPostCommit a v s
  | .backpressureRelease => Sys2Proof.Machine.execBackpressureRelease s
  | .backpressureTimeout => Sys2Proof.Machine.execBackpressureTimeout s
  | .dispatchScan => Sys2Proof.Machine.execDispatchScan s
  | .hmsTake a => Sys2Proof.Machine.execHmsTake a s
  | .takeTimeout m => Sys2Proof.Machine.execTakeTimeout m s
  | .hmsDone a v => Sys2Proof.Machine.execHmsDone a v s
  | .hmsFail a v => Sys2Proof.Machine.execHmsFail a v s
  | .completionRecordResponse tag status => Sys2Proof.Machine.execCompletionRecordResponse tag status s
  | .hmsCancel a v => Sys2Proof.Machine.execHmsCancel a v s
  | .arm a u => Sys2Proof.Machine.execArm a u s
  | .acqStop a u => Sys2Proof.Machine.execAcqStop a u s
  | .force a u => Sys2Proof.Machine.execForce a u s
  | .acqSample u => Sys2Proof.Machine.execAcqSample u s
  | .acqBufferWrite u => Sys2Proof.Machine.execAcqBufferWrite u s
  | .acqWriteResponse u tag status => Sys2Proof.Machine.execAcqWriteResponse u tag status s
  | .tdcEdge r rising sub => Sys2Proof.Machine.execTdcEdge r rising sub s
  | .tdcStampAvailable r => Sys2Proof.Machine.execTdcStampAvailable r s
  | .rdIndexWrite a u v => Sys2Proof.Machine.execRdIndexWrite a u v s
  | .rdDataRead a u k us => Sys2Proof.Machine.execRdDataRead a u k us s
  | .offset a => Sys2Proof.Machine.execOffset a s
  | .unlock a => Sys2Proof.Machine.execUnlock a s
  | .set a => Sys2Proof.Machine.execSet a s
  | .rateWrite a v => Sys2Proof.Machine.execRateWrite a v s
  | .slewComplete => Sys2Proof.Machine.execSlewComplete s
  | .holdoverWatchExpiry => Sys2Proof.Machine.execHoldoverWatchExpiry s
  | .ethFrameReceive n bytes fcs us => Sys2Proof.Machine.execEthFrameReceive n bytes fcs us s
  | .ethTxKick a n v => Sys2Proof.Machine.execEthTxKick a n v s
  | .ethFrameTransmit n us => Sys2Proof.Machine.execEthFrameTransmit n us s
  | .ethLinkChange n up an => Sys2Proof.Machine.execEthLinkChange n up an s
  | .hostAccess q => Sys2Proof.Machine.execHostAccess q s
  | .msixUnmask a v => Sys2Proof.Machine.execMsixUnmask a v s
  | .pcieLinkLoss => Sys2Proof.Machine.execPcieLinkLoss s
  | .pcieLinkUp speed width => Sys2Proof.Machine.execPcieLinkUp speed width s
  | .powerOnReset rail => Sys2Proof.Machine.execPowerOnReset rail s
  | .vddAonLoss => Sys2Proof.Machine.execVddAonLoss s
  | .porstNRise straps => Sys2Proof.Machine.execPorstNRise straps s
  | .corePllLock => Sys2Proof.Machine.execCorePllLock s
  | .systemReset a => Sys2Proof.Machine.execSystemReset a s
  | .controlReset a => Sys2Proof.Machine.execControlReset a s
  | .tempReading t => Sys2Proof.Machine.execTempReading t s
  | .throttleRelease => Sys2Proof.Machine.execThrottleRelease s
  | .stepFreqChange => Sys2Proof.Machine.execStepFreqChange s
  | .thermalTrip => Sys2Proof.Machine.execThermalTrip s
  | .thermalTripClear => Sys2Proof.Machine.execThermalTripClear s
  | .tapReset => Sys2Proof.Machine.execTapReset s
  | .extest => Sys2Proof.Machine.execExtest s
  | .samplePreload => Sys2Proof.Machine.execSamplePreload s
  | .idcode => Sys2Proof.Machine.execIdcode s
  | .dbgacc => Sys2Proof.Machine.execDbgacc s
  | .bypass => Sys2Proof.Machine.execBypass s
  | .dbgaccAccess w => Sys2Proof.Machine.execDbgaccAccess w s
  | .grantWrite a v => Sys2Proof.Machine.execGrantWrite a v s
  | .unlockSubmit a => Sys2Proof.Machine.execUnlockSubmit a s
  | .unlockCheckDone => Sys2Proof.Machine.execUnlockCheckDone s
  | .windowRead a wide inc => Sys2Proof.Machine.execWindowRead a wide inc s
  | .windowWrite a wide inc => Sys2Proof.Machine.execWindowWrite a wide inc s
  | .stealRead a wide inc us => Sys2Proof.Machine.execStealRead a wide inc us s
  | .stealWrite a wide inc us => Sys2Proof.Machine.execStealWrite a wide inc us s
  | .windowAccessDone jtag status w => Sys2Proof.Machine.execWindowAccessDone jtag status w s
  | .fwFifoWrite a v => Sys2Proof.Machine.execFwFifoWrite a v s
  | .fwFifoTimeout => Sys2Proof.Machine.execFwFifoTimeout s
  | .coreHalt a m => Sys2Proof.Machine.execCoreHalt a m s
  | .coreResume a m => Sys2Proof.Machine.execCoreResume a m s
  | .coreStep a m => Sys2Proof.Machine.execCoreStep a m s
  | .coreHaltEntry m => Sys2Proof.Machine.execCoreHaltEntry m s
  | .coreRegisterWrite a m v => Sys2Proof.Machine.execCoreRegisterWrite a m v s
  | .emulationHalt a => Sys2Proof.Machine.execEmulationHalt a s
  | .emulationRelease a => Sys2Proof.Machine.execEmulationRelease a s
  | .vtTxWrite m v => Sys2Proof.Machine.execVtTxWrite m v s
  | .vtTxRead a m => Sys2Proof.Machine.execVtTxRead a m s
  | .vtRxWrite a m v => Sys2Proof.Machine.execVtRxWrite a m v s
  | .vtRxRead m => Sys2Proof.Machine.execVtRxRead m s
  | .noteWrite m c v => Sys2Proof.Machine.execNoteWrite m c v s
  | .traceEnable a v => Sys2Proof.Machine.execTraceEnable a v s
  | .traceFrame => Sys2Proof.Machine.execTraceFrame s
  | .traceBufferRead a => Sys2Proof.Machine.execTraceBufferRead a s
  | .vddAonRise => Sys2Proof.Machine.execVddAonRise s
  | .pllUnlock b => Sys2Proof.Machine.execPllUnlock b s
  | .configurationRequest early q => Sys2Proof.Machine.execConfigurationRequest early q s

end Sys2Proof.Machine
end

