-- ==== Sys2Proof/Machine/Tick.lean ====
section
/-! DEFINITION. Machine/Tick.lean: one core-clock cycle in which no command acts: what counts by itself (log entry 64): the time
base, its slew and its watch (R433, R436, R437), the core-clock count, the watchdogs of the model cores (R342 to R344), the
timers of the acquisition units (R424, R426), the throttle's lost time (R113), the I/O fabric's clocks (R276, R281) and
the AON count (R262). -/

namespace Sys2Proof.Machine
open Sys2Proof

/-- A nanosecond passes for AON_CLK, which runs at 32.768 kHz. -/
def State.aonTick (s : State) : State :=
  let x := s.log.aonPhase + 32768
  if x < 1000000000 then { s with log := { s.log with aonPhase := x } }
  else { s with log := { s.log with aonPhase := offsetIn 1000000000 x, aon := (s.log.aon + 1) % 2 ^ 48 } }

/-- A microsecond passes for a model core's watchdog: it counts down, and at 0 it expires (R342 to R344). -/
def State.wdtTick (s : State) (m : Nat) : State :=
  if !s.on R.MDC_WDT_CTRL.EN m || s.on R.MDC_CTRL.RESET m || s.rd R.MDC_STATUS.STATE m == 3 then s
  else
    let s1 := s.wr R.MDC_WDT_COUNT.US m (s.rd R.MDC_WDT_COUNT.US m - 1)
    if s1.rd R.MDC_WDT_COUNT.US m = 0 then doWdtExpiry m s1 else s1

/-- A core-clock cycle. -/
def State.coreTick (s : State) : State :=
  let s1 := { s with coreTicks := s.coreTicks + 1 }.timeCycle
  let s2 := (List.range 4).foldl (fun (s : State) u => s.acqTick u) s1
  let s3 := if s2.coreTicks % 1000 = 0 then (List.range 16).foldl (fun (s : State) m => s.wdtTick m) s2 else s2
  (s3.throttleTick (s3.now - s.now)).fabricTick

/-- A tick: nothing counts in Off; in Standby and before the core PLL locks only AON_CLK runs (R31, R458). -/
def State.tick (s : State) : State :=
  if s.rd R.PWR_STATUS.DEV_STATE 0 = 0 then s
  else if s.rd R.PWR_STATUS.DEV_STATE 0 = 1 || !s.on R.PWR_CLOCKS.CORE_PLL 0 then s.aonTick
  else s.aonTick.coreTick

end Sys2Proof.Machine
end

