-- ==== Sys2Proof/WellFormed.lean ====
section
/-! DEFINITION. WellFormed.lean: what a command must carry to stand for something the hardware can meet: a packet has the data
its header announces, a line its eight words, a reading its eight sensors. -/

namespace Sys2Proof

/-- Data words of a request (R400): a write has LEN + 1, a store-conditional one, a read and a load-reserve none. -/
def packetWords (k : Packet) : Nat :=
  match k.op.val with
  | 1 => k.len.val + 1
  | 3 => 1
  | _ => 0

/-- Every data flit carries a seal (R18, R400). -/
def sealedOk (data : List W128) (seals : List (BitVec 16)) : Bool := seals.length == data.length

/-- A packet whose data is what its header announces, each flit with its seal (R400). -/
def Packet.wellFormed (k : Packet) : Bool :=
  k.data.length == packetWords k && sealedOk k.data k.seals && (k.op.val != 3 || k.len.val == 0)

/-- The bunches of some inbound values ascend (R20). -/
def inboundAscends : List Nat → Bool
  | [] => true
  | [_] => true
  | a :: b :: r => decide (a < b) && inboundAscends (b :: r)

/-- Inbound values name each bunch once, ascending (R20). -/
def inboundOk (b : Inbound) : Bool := inboundAscends (b.map (fun x => x.1.val))

/-- Upsets name a state that is not good, and one of the nine store classes (R126, R234). -/
def upsetsOk (u : List Upset) : Bool := u.all (fun x => x.kind.val != 0 && decide (x.cls < 9))

/-- A host request of a size PCI Express has, inside its window (R449 to R451). -/
def hostRequestOk : HostRequest → Bool
  | .bar0 off size _ _ => decide (1 ≤ size.val) && decide (off.toNat + size.val ≤ 2 ^ 26)
  | .bar2 off _ words => !words.isEmpty && decide (off.toNat / 16 + words.length ≤ 2 ^ 24)

/-- The payload of a command is one the hardware can meet. -/
def Instr.wellFormed (i : Instr) : Bool :=
  match i with
  | .registerWrite _ _ _ size => size.val == 1 || size.val == 2 || size.val == 4 || size.val == 8
  | .nocRequest k => k.wellFormed
  | .nocResponse _ _ status data _ => status.val == 0 || data.isEmpty
  | .hostAccess q => hostRequestOk q
  | .imageLine words _ ok => !ok || words.length == 8
  | .frameRefetch words ok => !ok || words.length == 130
  | .tempReading t => t.length == 8
  | .step _ u => upsetsOk u
  | .bankNocAccess _ u => upsetsOk u
  | .isScrubRead _ _ _ u => upsetsOk u
  | .ssScrubRead _ _ _ u => upsetsOk u
  | .retentionCheckDone u => upsetsOk u
  | .scrubFrameRead u => upsetsOk u
  | .scratchpadNocAccess _ _ u => upsetsOk u
  | .rdDataRead _ _ _ u => upsetsOk u
  | .ethFrameReceive _ _ _ u => upsetsOk u
  | .ethFrameTransmit _ u => upsetsOk u
  | .stealRead _ _ _ u => upsetsOk u
  | .stealWrite _ _ _ u => upsetsOk u
  | .cycleRelease _ b => inboundOk b
  | .timerInstant _ b => inboundOk b
  | .cycleBoundary _ b => inboundOk b
  | .startOrder b => inboundOk b
  | .releaseOrder b => inboundOk b
  | .periodRelease _ b => inboundOk b
  | .pcieLinkUp speed width =>
    decide (1 ≤ speed.val) && decide (speed.val ≤ 5) &&
      (width.val == 1 || width.val == 2 || width.val == 4 || width.val == 8)
  | _ => true

end Sys2Proof
end

