-- ==== Sys2Proof/Safety.lean ====
section
/-! DEFINITION. Safety.lean: the terms in which claims speak of runs: what a step leads to, what a state can reach, and what it
is to be safe. -/

namespace Sys2Proof
open Sys2Proof.Machine

/-- A step from s leads to t. -/
def StepsTo (s t : State) : Prop := step s = .next t

/-- States that steps lead to from s. -/
inductive Reaches (s : State) : State → Prop where
  | here : Reaches s s
  | more {t u : State} : Reaches s t → StepsTo t u → Reaches s u

/-- A property that every step keeps. -/
def Kept (P : State → Prop) : Prop := ∀ s t : State, P s → StepsTo s t → P t

/-- The stores of the machine are in their canonical form: rising keys, and no entry equal to what an unlisted one reads
as: registers, design memory, scratchpads, instruction store, step stores and their shadow, configuration frames, the
logbook and the control cores' memories (R27, R37, R53, R126, R250, R262, R287, R322). -/
def Machine.Memory.wf (s : State) : Bool :=
  SMap.sorted s.regs && SMap.wf 0 s.dmem && SMap.wf 0 s.scratch && SMap.wf idleWord s.istore && SMap.wf 0 s.rows &&
    SMap.wf 0 s.shadow && SMap.wf 0 s.frames && SMap.wf 0 s.logbook && SMap.sorted s.control.mem

namespace Machine
/-! ## What a command may change -/

/-- The kinds of state: groups of the fields of State, the error registers of every page (INT_STATUS, ERR_CAPTURE and
ERR_ADDR; R384, R512), and the other registers of each page. -/
inductive Kind where
  /-- What the block has sent out. -/
  | out
  /-- What each accessor has selected, staged and captured (R15, R107, R120). -/
  | access
  /-- The time base and the count of core-clock cycles (R432 to R438). -/
  | time
  /-- The Ethernet transmit rings that were kicked (R443). -/
  | ethRing
  /-- What the checks of the stores would report, and the canary cells (R24, R234, R260). -/
  | health
  /-- The instruction store and its writebacks (R37, R235). -/
  | istore
  /-- The step stores (R53). -/
  | rows
  /-- The shadow rows (R250). -/
  | shadow
  /-- The lanes, channels, transfer registers and far reads of the orchard (R45 to R65). -/
  | orchard
  /-- The port bits between the orchard and the fabric, and release blanking (R20, R21, R99, R303). -/
  | outbound
  /-- The partitions (R77, R102). -/
  | parts
  /-- The design memory (R126). -/
  | dmem
  /-- The banks of the design memory (R131). -/
  | banks
  /-- The reservations of the model cores on bank words (R337). -/
  | resv
  /-- The exchange registers (R81, R101). -/
  | exch
  /-- What the exchange windows hold, took and kept for replay (R101, R254). -/
  | exchAux
  /-- The acquisition units, probes with their step tick, and stampers (R410, R417, R428). -/
  | acq
  /-- The network map (R215). -/
  | netmap
  /-- The cascade slots (R213). -/
  | slots
  /-- The cascade ports and the search of their lanes (R199, R201). -/
  | ports
  /-- The cascade (R227). -/
  | cas
  /-- The configuration frames (R287). -/
  | frames
  /-- The configuration engine (R291). -/
  | fabric
  /-- The logbook (R262). -/
  | logbook
  /-- The logbook controller (R263). -/
  | log
  /-- The supply dip (R258). -/
  | dip
  /-- The interrupt latches, rearming and held messages (R384 to R390). -/
  | irq
  /-- The stacks of the control cores (R386). -/
  | irqStack
  /-- The MSI-X table and pending bits (R454). -/
  | msix
  /-- The control complex and its memories (R27, R376). -/
  | control
  /-- The model cores (R318). -/
  | cores
  /-- The scratchpads (R322). -/
  | scratch
  /-- The harbourmaster (R391). -/
  | hms
  /-- The supplies, throttles and the blocks that are served (R29, R456, R471). -/
  | power
  /-- The PCIe endpoint (R449). -/
  | host
  /-- The test access port (R477). -/
  | tap
  /-- The debug windows, challenges and emulation halts (R480 to R494). -/
  | debug
  /-- The emulation halt that is decided (R491). -/
  | halts
  /-- The trace port (R498). -/
  | trace
  /-- The requests held at quays and outstanding there, and the lock of the routes (R402, R409). -/
  | noc
  /-- INT_STATUS, ERR_CAPTURE and ERR_ADDR of every page. -/
  | errors
  /-- The other registers of a page. -/
  | regs (p : Page)
  deriving DecidableEq, Repr

/-- Whether an offset is that of INT_STATUS, ERR_CAPTURE or ERR_ADDR (R510). -/
def errorReg (off : Nat) : Bool := off == 0x0C || off == 0x18 || off == 0x1C

/-- A kind of state is the same in two states. -/
def Kind.same (k : Kind) (s t : State) : Prop :=
  match k with
  | .out => t.outbox = s.outbox
  | .access => t.selects = s.selects ∧ t.staging = s.staging ∧ t.captures = s.captures ∧ t.hiCaptures = s.hiCaptures
  | .time => t.tb = s.tb ∧ t.timeRuns = s.timeRuns ∧ t.timeRemain = s.timeRemain ∧ t.timeSince = s.timeSince ∧
      t.coreTicks = s.coreTicks
  | .ethRing => t.ethKicked = s.ethKicked
  | .health => t.health = s.health ∧ t.canary = s.canary
  | .istore => t.istore = s.istore ∧ t.isWritebacks = s.isWritebacks
  | .rows => t.rows = s.rows
  | .shadow => t.shadow = s.shadow
  | .orchard => t.lanes = s.lanes ∧ t.chans = s.chans ∧ t.addrStage = s.addrStage ∧ t.wdataStage = s.wdataStage ∧
      t.rdata = s.rdata ∧ t.rpend = s.rpend
  | .outbound => t.fabCap = s.fabCap ∧ t.fabOwn = s.fabOwn ∧ t.fabPres = s.fabPres ∧ t.fabIn = s.fabIn ∧
      t.relBlank = s.relBlank
  | .parts => t.parts = s.parts
  | .dmem => t.dmem = s.dmem
  | .banks => t.banks = s.banks
  | .resv => t.resvBank = s.resvBank
  | .exch => t.exch = s.exch
  | .exchAux => t.exchHeld = s.exchHeld ∧ t.exchTook = s.exchTook ∧ t.exchPriv = s.exchPriv ∧
      t.replayExch = s.replayExch
  | .acq => t.probes = s.probes ∧ t.onStep = s.onStep ∧ t.acqs = s.acqs ∧ t.tdcs = s.tdcs
  | .netmap => t.netmap = s.netmap
  | .slots => t.rxSlots = s.rxSlots ∧ t.txSlots = s.txSlots ∧ t.txHeld = s.txHeld
  | .ports => t.casPorts = s.casPorts ∧ t.laneSync = s.laneSync
  | .cas => t.cas = s.cas
  | .frames => t.frames = s.frames
  | .fabric => t.fabric = s.fabric
  | .logbook => t.logbook = s.logbook ∧ t.records = s.records
  | .log => t.log = s.log
  | .dip => t.dipFrom = s.dipFrom ∧ t.dipLow = s.dipLow ∧ t.dipTick = s.dipTick ∧ t.checkByCmd = s.checkByCmd ∧
      t.dipPassed = s.dipPassed
  | .irq => t.irqLatches = s.irqLatches ∧ t.irqDisarmed = s.irqDisarmed ∧ t.irqHeld = s.irqHeld
  | .irqStack => t.irqStacks = s.irqStacks
  | .msix => t.msixTable = s.msixTable ∧ t.msixPending = s.msixPending ∧ t.msixFuncMask = s.msixFuncMask
  | .control => t.control = s.control
  | .cores => t.cores = s.cores
  | .scratch => t.scratch = s.scratch ∧ t.scratchReady = s.scratchReady
  | .hms => t.hms = s.hms
  | .power => t.porst = s.porst ∧ t.tripped = s.tripped ∧ t.freqTarget = s.freqTarget ∧ t.coolFrom = s.coolFrom ∧
      t.tempFresh = s.tempFresh ∧ t.throttles = s.throttles ∧ t.awake = s.awake
  | .host => t.pcie = s.pcie ∧ t.hostWaiting = s.hostWaiting ∧ t.hostOut = s.hostOut
  | .tap => t.tap = s.tap
  | .debug => t.windows = s.windows ∧ t.challenges = s.challenges ∧ t.challengeAt = s.challengeAt ∧
      t.haltAt = s.haltAt ∧ t.releasing = s.releasing ∧ t.haltDip = s.haltDip ∧ t.haltEdges = s.haltEdges
  | .halts => t.haltDecided = s.haltDecided
  | .trace => t.trace = s.trace ∧ t.traceFrom = s.traceFrom
  | .noc => t.nocHeld = s.nocHeld ∧ t.quayReqs = s.quayReqs ∧ t.nocLocked = s.nocLocked
  | .errors => ∀ (f : Fld) (ch : Nat), errorReg (f.off % 4096) = true → t.rd f ch = s.rd f ch
  | .regs p => ∀ (f : Fld) (ch : Nat), f.page = p → errorReg (f.off % 4096) = false → t.rd f ch = s.rd f ch

/-- Every kind of a page's registers. -/
def Kind.everyPage : List Kind :=
  [.regs .dev, .regs .pwr, .regs .hst, .regs .log, .regs .dbg, .regs .trc, .regs .irq, .regs .hms, .regs .tim,
    .regs .eth, .regs .cas, .regs .lne, .regs .res, .regs .cfg, .regs .fab, .regs .orc, .regs .prt, .regs .dmb,
    .regs .mdc, .regs .acq, .regs .noc]

/-- Every kind. -/
def Kind.all : List Kind :=
  [.out, .access, .time, .ethRing, .health, .istore, .rows, .shadow, .orchard, .outbound, .parts, .dmem, .banks,
    .resv, .exch, .exchAux, .acq, .netmap, .slots, .ports, .cas, .frames, .fabric, .logbook, .log, .dip, .irq,
    .irqStack, .msix, .control, .cores, .scratch, .hms, .power, .host, .tap, .debug, .halts, .trace, .noc, .errors]
    ++ Kind.everyPage

end Machine

/-- The kinds of state that a command may change (the widest over the ways its access, its effect and its errors can end);
every other kind it leaves as it is. A core's instruction stands for the whole bundle that issues (R359). -/
def Machine.touches (c : Instr) : List Kind :=
  match c with
  | .registerWrite .. | .selectWrite .. | .wideWordStage .. | .wideWordApply .. | .nocRequest .. | .nocResponse .. |
    .hostAccess .. | .systemReset .. | .controlReset .. =>
    [.out, .access, .time, .ethRing, .health, .istore, .rows, .shadow, .orchard, .outbound, .parts, .dmem, .banks,
      .resv, .exch, .exchAux, .acq, .netmap, .slots, .ports, .cas, .frames, .fabric, .log, .dip, .irq, .irqStack,
      .msix, .control, .cores, .scratch, .hms, .power, .host, .debug, .halts, .trace, .noc, .errors] ++
      Kind.everyPage
  | .wideWordCapture .. | .pairLoRead .. | .clearingRead .. =>
    [.out, .access, .health, .dmem, .banks, .resv, .log, .irq, .msix, .cores, .hms, .power, .trace, .errors] ++
      Kind.everyPage
  | .quayDead .. =>
    [.out, .log, .irq, .msix, .noc, .errors, .regs .log, .regs .noc]
  | .revive .. =>
    [.out, .irq, .msix, .errors, .regs .noc]
  | .step .. =>
    [.out, .health, .istore, .rows, .shadow, .orchard, .outbound, .parts, .dmem, .banks, .resv, .exch, .exchAux,
      .acq, .slots, .ports, .cas, .log, .irq, .msix, .errors, .regs .log, .regs .cas, .regs .res, .regs .orc,
      .regs .prt, .regs .dmb, .regs .noc]
  | .cycleRelease .. | .timerInstant .. =>
    [.out, .outbound, .parts, .banks, .log, .irq, .msix, .errors, .regs .log, .regs .res, .regs .prt, .regs .dmb]
  | .releaseLineEdge .. =>
    [.out, .parts, .cas, .debug]
  | .cycleBoundary .. =>
    [.out, .health, .orchard, .outbound, .parts, .dmem, .banks, .resv, .exch, .exchAux, .acq, .cas, .log, .irq,
      .msix, .errors, .regs .log, .regs .cas, .regs .res, .regs .prt, .regs .dmb]
  | .farTransferComplete .. =>
    [.out, .orchard, .parts, .irq, .msix, .errors, .regs .noc]
  | .loadBegin .. | .loadEnd .. | .start .. | .stop .. | .single .. | .resume .. | .unload .. =>
    [.out, .orchard, .outbound, .parts, .banks, .exch, .exchAux, .slots, .cas, .irq, .msix, .errors, .regs .pwr,
      .regs .cas, .regs .res, .regs .prt, .regs .dmb]
  | .bunchesWrite .. | .isolateWrite .. =>
    [.out, .irq, .msix, .errors, .regs .prt]
  | .exchWrite .. =>
    [.out, .exch, .exchAux, .irq, .msix, .errors, .regs .prt]
  | .bunchUngateDone .. =>
    [.out, .health, .istore, .rows, .orchard, .outbound, .parts, .banks, .exch, .exchAux, .slots, .cas, .log,
      .irq, .msix, .errors, .regs .pwr, .regs .log, .regs .cas, .regs .res, .regs .prt, .regs .dmb]
  | .instructionWordWrite .. =>
    [.out, .health, .istore, .parts, .log, .irq, .msix, .errors, .regs .log]
  | .berryRemapWrite .. | .bunchRemapWrite .. | .spareFailure .. =>
    [.out, .log, .irq, .msix, .errors, .regs .log, .regs .res, .regs .orc]
  | .bankNocAccess .. =>
    [.out, .health, .dmem, .banks, .resv, .log, .irq, .msix, .noc, .errors, .regs .log, .regs .res, .regs .dmb]
  | .eccWriteback .. =>
    [.health, .dmem, .banks]
  | .berthWrite .. =>
    [.out, .banks, .resv, .irq, .msix, .errors, .regs .dmb]
  | .handoverComplete .. =>
    [.out, .health, .orchard, .parts, .dmem, .banks, .resv, .log, .irq, .msix, .errors, .regs .log, .regs .res,
      .regs .dmb]
  | .testerOperation .. =>
    [.out, .health, .dmem, .banks, .log, .irq, .msix, .errors, .regs .log, .regs .dmb]
  | .repairEntryWrite .. =>
    [.out, .log, .irq, .msix, .errors, .regs .log, .regs .dmb]
  | .journalWrite .. =>
    [.out, .health, .dmem, .banks, .log, .irq, .msix, .errors, .regs .log, .regs .res, .regs .dmb]
  | .journalRestore .. =>
    [.health, .dmem, .banks, .regs .dmb]
  | .restoreDone .. =>
    [.out, .health, .rows, .orchard, .outbound, .parts, .banks, .exchAux, .cas, .log, .irq, .msix, .errors,
      .regs .log, .regs .cas, .regs .res, .regs .prt, .regs .dmb]
  | .isWriteback .. =>
    [.health, .istore]
  | .isScrubRead .. | .ssScrubRead .. =>
    [.out, .health, .parts, .log, .irq, .msix, .errors, .regs .log, .regs .res]
  | .refetchComplete .. =>
    [.out, .health, .istore, .parts, .cas, .log, .irq, .msix, .errors, .regs .log, .regs .cas, .regs .res,
      .regs .prt]
  | .berryRemapDone .. =>
    [.out, .health, .istore, .rows, .shadow, .parts, .banks, .acq, .cas, .log, .irq, .msix, .errors, .regs .log,
      .regs .cas, .regs .res, .regs .orc, .regs .prt]
  | .join .. =>
    [.out, .parts, .irq, .msix, .errors, .regs .res]
  | .rejoinPhaseEnd .. =>
    [.out, .health, .parts, .dmem, .banks, .log, .irq, .msix, .errors, .regs .log, .regs .res, .regs .dmb]
  | .check .. =>
    [.out, .dip, .irq, .msix, .errors, .regs .res]
  | .vddCoreWarning .. =>
    [.out, .parts, .log, .dip, .irq, .msix, .debug, .errors, .regs .log, .regs .res, .regs .prt]
  | .vddCoreRecovery .. =>
    [.dip, .regs .res]
  | .dipWindowExpiry =>
    [.regs .res]
  | .retentionCheckDone .. =>
    [.out, .health, .banks, .cas, .log, .dip, .irq, .msix, .errors, .regs .log, .regs .cas, .regs .res,
      .regs .prt]
  | .logbookWrite =>
    [.out, .health, .logbook, .log, .irq, .msix, .errors, .regs .log]
  | .logbookScanDone =>
    [.log, .regs .log]
  | .logUserCmd .. | .frameWindowRead .. =>
    [.out, .log, .irq, .msix, .errors, .regs .log]
  | .portEnable .. | .portDisable .. =>
    [.out, .ports, .cas, .irq, .msix, .errors, .regs .pwr, .regs .cas, .regs .lne]
  | .bringupStageDone .. | .blockLockLoss .. | .retrainDone .. | .nak .. =>
    [.out, .ports, .cas, .irq, .msix, .errors, .regs .cas, .regs .lne]
  | .bringupTimeout .. | .retrainTimeout .. | .doneFall =>
    [.out, .cas, .irq, .msix, .errors, .regs .cas]
  | .train .. =>
    [.errors, .regs .cas, .regs .lne]
  | .laneMark .. =>
    [.regs .lne]
  | .lanePowerRequest .. =>
    [.out, .ports, .cas, .irq, .msix, .errors, .regs .pwr, .regs .cas]
  | .quiet .. | .cold .. =>
    [.out, .cas, .errors, .regs .pwr, .regs .cas, .regs .lne]
  | .wakeBurst .. =>
    [.out, .ports, .cas, .errors, .regs .pwr, .regs .cas]
  | .cascadeFrameSend .. | .cascadeFrameReceive .. =>
    [.out, .ports, .errors, .regs .cas]
  | .linkStatus .. =>
    [.ports, .errors, .regs .cas]
  | .replay .. =>
    [.ports]
  | .orderArrival .. =>
    [.out, .cas, .log, .irq, .msix, .errors, .regs .log, .regs .cas]
  | .startOrder .. =>
    [.out, .outbound, .parts, .banks, .ports, .cas, .log, .irq, .msix, .errors, .regs .log, .regs .cas,
      .regs .res, .regs .prt, .regs .dmb]
  | .releaseOrder .. =>
    [.out, .outbound, .parts, .banks, .cas, .log, .irq, .msix, .errors, .regs .log, .regs .res, .regs .prt,
      .regs .dmb]
  | .resumeOrder | .holdBegin .. =>
    [.out, .parts, .cas, .irq, .msix, .errors, .regs .cas]
  | .stopOrder =>
    [.out, .parts, .cas, .irq, .msix, .errors, .regs .cas, .regs .prt]
  | .haltOrder =>
    [.out, .parts, .cas, .irq, .msix, .cores, .debug, .halts, .errors, .regs .dbg, .regs .prt, .regs .dmb]
  | .unhaltOrder =>
    [.out, .parts, .cas, .irq, .msix, .cores, .debug, .errors, .regs .dbg, .regs .prt, .regs .dmb, .regs .mdc]
  | .stepfreqOrder =>
    [.out, .parts, .cas, .irq, .msix, .power, .errors, .regs .pwr, .regs .prt]
  | .tagFaultReport .. | .stopReqReport .. | .haltReqReport .. | .startIssue =>
    [.out, .cas]
  | .throttleReqReport .. =>
    [.out, .cas, .power]
  | .faultReport .. | .holdSlotCheck .. =>
    [.out, .cas, .regs .cas]
  | .periodRelease .. =>
    [.out, .outbound, .parts, .banks, .cas, .log, .irq, .msix, .errors, .regs .log, .regs .cas, .regs .res,
      .regs .prt, .regs .dmb]
  | .casStop .. =>
    [.out, .cas, .irq, .msix, .errors, .regs .cas, .regs .prt]
  | .netmapDataWrite .. =>
    [.out, .netmap, .irq, .msix, .errors, .regs .cas]
  | .netmapDataRead .. =>
    [.out, .irq, .msix, .errors, .regs .cas]
  | .load .. | .loadGolden .. | .frameEntry | .frameClearDone =>
    [.out, .health, .frames, .fabric, .log, .irq, .msix, .errors, .regs .log, .regs .cfg, .regs .fab]
  | .clear .. | .stream .. | .streamFetch .. | .streamMarker | .nopRecord | .setDevice | .setGclkA | .setGclkB |
    .setBankv | .setRegion | .setFpll0 | .setFpll1 | .frames | .readRecord | .checkRecord | .actionNone | .checkReset
    | .endStream | .quiesce | .startupPllTimeout | .doneTimeout | .regionStreamTimeout =>
    [.out, .fabric, .log, .irq, .msix, .errors, .regs .log, .regs .cfg, .regs .fab]
  | .launch =>
    [.out, .outbound, .fabric, .log, .irq, .msix, .errors, .regs .log, .regs .cfg, .regs .fab]
  | .startupPhase .. =>
    [.out, .outbound, .fabric, .irq, .msix, .errors, .regs .cfg, .regs .fab]
  | .releaseBlankEnd =>
    [.outbound]
  | .cpWord .. =>
    [.out, .fabric, .irq, .msix, .errors, .regs .cfg]
  | .regionWrite .. =>
    [.out, .irq, .msix, .errors, .regs .cfg]
  | .scrubFrameRead .. =>
    [.out, .health, .fabric, .log, .irq, .msix, .errors, .regs .log, .regs .cfg]
  | .frameRefetch .. =>
    [.out, .health, .frames, .fabric, .log, .irq, .msix, .errors, .regs .log]
  | .scrubHeartbeatTimeout | .scrubSettingsFault .. =>
    [.out, .log, .irq, .msix, .errors, .regs .log, .regs .cfg]
  | .gclkLost .. | .fabricPllUnlock .. | .bankVoltageChange .. =>
    [.out, .irq, .msix, .errors, .regs .fab]
  | .nop .. | .vadd .. | .vsub .. | .vadds .. | .vsubs .. | .vand .. | .vor .. | .vxor .. | .vshl .. | .vshra .. |
    .vshrl .. | .vcmp .. | .vmin .. | .vmax .. | .vbcast .. | .movi .. | .mac .. | .msu .. | .mpy .. | .mova .. |
    .movd .. | .aclr .. | .ld .. | .st .. | .ldp .. | .stp .. | .sta .. | .lr .. | .sc .. | .padd .. | .pmov .. |
    .pmovi .. | .br .. | .brcc .. | .call .. | .jmp .. | .rep .. | .mvc .. | .fence .. | .nap .. | .reti .. | .eret ..
    | .trap .. =>
    [.out, .health, .resv, .exch, .cas, .log, .irq, .msix, .cores, .scratch, .hms, .halts, .errors, .regs .log,
      .regs .dbg, .regs .irq, .regs .hms, .regs .cas, .regs .prt, .regs .mdc, .regs .noc]
  | .exceptionEntry .. =>
    [.out, .resv, .cas, .log, .irq, .msix, .cores, .hms, .halts, .errors, .regs .log, .regs .dbg, .regs .irq,
      .regs .hms, .regs .cas, .regs .prt, .regs .mdc, .regs .noc]
  | .interruptEntry .. | .napWake .. =>
    [.out, .resv, .irq, .msix, .cores, .errors, .regs .mdc]
  | .farLoadResponse .. =>
    [.out, .health, .resv, .exch, .log, .irq, .msix, .cores, .scratch, .hms, .errors, .regs .log, .regs .dbg,
      .regs .irq, .regs .hms, .regs .prt, .regs .mdc, .regs .noc]
  | .farStoreError .. =>
    [.out, .irq, .msix, .cores, .errors, .regs .mdc, .regs .noc]
  | .scratchpadNocAccess .. =>
    [.out, .health, .log, .irq, .msix, .cores, .scratch, .errors, .regs .log, .regs .mdc]
  | .coreReset .. | .coreResetRelease .. =>
    [.out, .health, .resv, .log, .irq, .msix, .cores, .scratch, .hms, .errors, .regs .log, .regs .dbg, .regs .irq,
      .regs .hms, .regs .mdc, .regs .noc]
  | .wdtKick .. =>
    [.out, .irq, .msix, .cores, .errors, .regs .mdc]
  | .wdtExpiry .. =>
    [.out, .resv, .log, .irq, .msix, .cores, .hms, .errors, .regs .log, .regs .dbg, .regs .irq, .regs .hms,
      .regs .mdc, .regs .noc]
  | .getInfo .. | .echo .. =>
    [.out, .irq, .msix, .control, .errors, .regs .hst]
  | .loadImage .. =>
    [.out, .parts, .irq, .msix, .control, .errors, .regs .hst]
  | .imageLine .. =>
    [.out, .health, .istore, .rows, .parts, .dmem, .banks, .resv, .netmap, .log, .irq, .msix, .control, .errors,
      .regs .log, .regs .res, .regs .dmb]
  | .blockEnable .. =>
    [.out, .irq, .msix, .control, .power, .errors, .regs .pwr, .regs .hst, .regs .noc]
  | .blockDisable .. =>
    [.out, .irq, .msix, .control, .power, .errors, .regs .pwr, .regs .hst]
  | .fwLoad .. | .fwLoadDbg .. =>
    [.out, .health, .irq, .msix, .control, .errors, .regs .hst]
  | .fwStart .. | .controlWdtExpiry .. =>
    [.out, .log, .irq, .msix, .control, .errors, .regs .hst, .regs .log]
  | .setStepFreq .. =>
    [.out, .irq, .msix, .control, .errors, .regs .pwr, .regs .hst]
  | .mailboxCompletion =>
    [.out, .health, .dmem, .irq, .msix, .control, .power, .noc, .errors, .regs .pwr, .regs .hst, .regs .res,
      .regs .orc, .regs .dmb, .regs .noc]
  | .heartbeat =>
    [.regs .hst]
  | .irqTargetWrite .. | .irqSwset .. | .irqSwclr .. =>
    [.out, .irq, .msix, .errors, .regs .irq]
  | .controlIrqTake .. =>
    [.out, .irqStack, .errors, .regs .irq]
  | .irqEoi .. =>
    [.out, .log, .irq, .irqStack, .msix, .control, .errors, .regs .hst, .regs .log, .regs .irq]
  | .postWordWrite .. | .postCommit .. | .backpressureRelease | .backpressureTimeout | .hmsTake .. | .hmsDone .. |
    .hmsFail .. | .hmsCancel .. =>
    [.out, .access, .health, .dmem, .banks, .resv, .log, .irq, .msix, .hms, .errors] ++ Kind.everyPage
  | .dispatchScan =>
    [.out, .health, .dmem, .banks, .resv, .log, .irq, .msix, .hms, .errors, .regs .log, .regs .hms, .regs .res,
      .regs .dmb]
  | .takeTimeout .. =>
    [.out, .log, .irq, .msix, .hms, .errors, .regs .log, .regs .hms]
  | .completionRecordResponse .. =>
    [.out, .irq, .msix, .hms, .errors, .regs .irq, .regs .hms, .regs .noc]
  | .arm .. | .acqStop .. =>
    [.out, .acq, .irq, .msix, .errors, .regs .acq]
  | .force .. =>
    [.out, .acq, .irq, .msix, .errors]
  | .acqSample .. =>
    [.out, .acq, .cas, .irq, .msix, .halts, .errors, .regs .dbg, .regs .cas, .regs .acq]
  | .acqBufferWrite .. | .acqWriteResponse .. =>
    [.out, .acq, .irq, .msix, .errors, .regs .acq, .regs .noc]
  | .tdcEdge .. | .tdcStampAvailable .. =>
    [.acq, .errors, .regs .acq]
  | .rdIndexWrite .. =>
    [.out, .irq, .msix, .errors, .regs .acq]
  | .rdDataRead .. =>
    [.out, .access, .health, .dmem, .banks, .resv, .log, .irq, .msix, .errors, .regs .log, .regs .res, .regs .dmb]
  | .offset .. =>
    [.out, .time, .parts, .log, .irq, .msix, .errors, .regs .log, .regs .tim, .regs .prt]
  | .unlock .. =>
    [.out, .time, .log, .irq, .msix, .errors, .regs .log, .regs .tim]
  | .set .. =>
    [.out, .time, .parts, .log, .irq, .msix, .errors, .regs .log, .regs .tim]
  | .rateWrite .. | .holdoverWatchExpiry =>
    [.out, .irq, .msix, .errors, .regs .tim]
  | .slewComplete =>
    [.time, .regs .tim]
  | .ethFrameReceive .. =>
    [.out, .health, .log, .irq, .msix, .control, .cores, .scratch, .errors, .regs .log, .regs .eth]
  | .ethTxKick .. =>
    [.out, .ethRing, .irq, .msix, .errors]
  | .ethFrameTransmit .. =>
    [.out, .ethRing, .health, .log, .irq, .msix, .control, .cores, .scratch, .errors, .regs .log, .regs .eth]
  | .ethLinkChange .. =>
    [.out, .irq, .msix, .errors, .regs .eth]
  | .msixUnmask .. =>
    [.out, .irq, .msix, .errors]
  | .pcieLinkLoss =>
    [.out, .health, .istore, .rows, .parts, .dmem, .banks, .resv, .netmap, .frames, .fabric, .log, .irq, .msix,
      .control, .host, .errors, .regs .hst, .regs .log, .regs .res, .regs .cfg, .regs .fab, .regs .dmb]
  | .pcieLinkUp .. =>
    [.out, .irq, .msix, .errors, .regs .pwr, .regs .hst]
  | .powerOnReset .. | .vddAonLoss | .thermalTrip =>
    [.access, .time, .ethRing, .health, .istore, .rows, .shadow, .orchard, .outbound, .parts, .dmem, .banks,
      .resv, .exch, .exchAux, .acq, .netmap, .slots, .ports, .cas, .frames, .fabric, .log, .dip, .irq, .irqStack,
      .msix, .control, .cores, .scratch, .hms, .power, .host, .tap, .debug, .halts, .trace, .noc, .errors] ++
      Kind.everyPage
  | .porstNRise .. =>
    [.log, .power, .regs .dev, .regs .pwr, .regs .log, .regs .cas]
  | .corePllLock =>
    [.time, .errors, .regs .pwr, .regs .irq, .regs .noc]
  | .tempReading .. | .throttleRelease =>
    [.out, .cas, .irq, .msix, .power, .errors, .regs .pwr, .regs .cas]
  | .stepFreqChange =>
    [.out, .parts, .irq, .msix, .power, .errors, .regs .pwr, .regs .prt]
  | .thermalTripClear =>
    [.log, .power, .regs .pwr, .regs .log]
  | .tapReset | .extest | .samplePreload | .idcode | .dbgacc | .bypass =>
    [.tap]
  | .dbgaccAccess .. =>
    [.out, .access, .time, .ethRing, .health, .istore, .rows, .shadow, .orchard, .outbound, .parts, .dmem, .banks,
      .resv, .exch, .exchAux, .acq, .netmap, .slots, .ports, .cas, .frames, .fabric, .log, .dip, .irq, .irqStack,
      .msix, .control, .cores, .scratch, .hms, .power, .host, .tap, .debug, .halts, .trace, .noc, .errors] ++
      Kind.everyPage
  | .grantWrite .. | .unlockSubmit .. =>
    [.out, .irq, .msix, .errors, .regs .dbg]
  | .unlockCheckDone =>
    [.out, .irq, .msix, .debug, .errors, .regs .dbg]
  | .windowRead .. | .windowWrite .. =>
    [.out, .irq, .msix, .debug, .errors, .regs .dbg, .regs .noc]
  | .stealRead .. | .stealWrite .. =>
    [.out, .health, .dmem, .banks, .resv, .log, .irq, .msix, .control, .cores, .scratch, .debug, .errors,
      .regs .log, .regs .dbg, .regs .dmb]
  | .windowAccessDone .. =>
    [.out, .irq, .msix, .debug, .errors, .regs .pwr, .regs .dbg, .regs .dmb, .regs .noc]
  | .fwFifoWrite .. =>
    [.out, .health, .irq, .msix, .control, .errors]
  | .fwFifoTimeout =>
    [.control]
  | .coreHalt .. | .vtTxRead .. | .vtRxRead .. =>
    [.out, .irq, .msix, .cores, .errors, .regs .dbg]
  | .coreResume .. | .coreStep .. =>
    [.out, .irq, .msix, .cores, .errors, .regs .dbg, .regs .mdc]
  | .coreHaltEntry .. =>
    [.out, .resv, .cas, .irq, .msix, .cores, .halts, .errors, .regs .dbg, .regs .cas, .regs .mdc]
  | .coreRegisterWrite .. =>
    [.out, .access, .irq, .msix, .cores, .errors]
  | .emulationHalt .. =>
    [.out, .parts, .cas, .irq, .msix, .cores, .debug, .halts, .errors, .regs .dbg, .regs .cas, .regs .prt,
      .regs .dmb]
  | .emulationRelease .. =>
    [.out, .parts, .cas, .irq, .msix, .cores, .debug, .halts, .errors, .regs .dbg, .regs .prt, .regs .dmb,
      .regs .mdc]
  | .vtTxWrite .. | .vtRxWrite .. =>
    [.out, .irq, .msix, .cores, .errors] ++ Kind.everyPage
  | .noteWrite .. =>
    [.out, .irq, .msix, .cores, .errors]
  | .traceEnable .. | .traceFrame =>
    [.out, .irq, .msix, .cores, .trace, .errors, .regs .trc]
  | .traceBufferRead .. =>
    [.out, .irq, .msix, .trace, .errors]
  | .vddAonRise =>
    [.regs .pwr]
  | .pllUnlock .. =>
    [.out, .irq, .msix, .errors, .regs .pwr]
  | .configurationRequest .. =>
    [.out, .msix, .host, .regs .hst]

/-- The register that a command accesses, with its accessor and whether it is a write, for the commands that are the access
of one register (R9, R121). -/
def Machine.accessed (c : Instr) : Option (Accessor × Page × Nat × Nat × Bool) :=
  match c with
  | .revive a q => some (a, .noc, q.val, 0x04, true)
  | .loadBegin a p => some (a, .prt, p.val, 0x40, true)
  | .loadEnd a p => some (a, .prt, p.val, 0x40, true)
  | .start a p => some (a, .prt, p.val, 0x40, true)
  | .stop a p => some (a, .prt, p.val, 0x40, true)
  | .single a p => some (a, .prt, p.val, 0x40, true)
  | .resume a p => some (a, .prt, p.val, 0x40, true)
  | .unload a p => some (a, .prt, p.val, 0x40, true)
  | .bunchesWrite a p hi _ => some (a, .prt, p.val, (if hi then 0x48 else 0x44), true)
  | .exchWrite a p _ => some (a, .prt, p.val, 0x4C, true)
  | .isolateWrite a p _ => some (a, .prt, p.val, 0x58, true)
  | .berryRemapWrite a n _ => some (a, .orc, n.val, 0x40, true)
  | .bunchRemapWrite a n _ => some (a, .orc, n.val, 0x44, true)
  | .berthWrite a b _ => some (a, .dmb, b.val, 0x40, true)
  | .repairEntryWrite a b k _ => some (a, .dmb, b.val, (0x80 + 4 * k.val), true)
  | .join a _ => some (a, .res, 0, 0x40, true)
  | .check a => some (a, .res, 0, 0x40, true)
  | .logUserCmd a _ => some (a, .log, 0, 0x70, true)
  | .portEnable a n => some (a, .cas, 0, (0x80 + 0x20 * n.val), true)
  | .portDisable a n => some (a, .cas, 0, (0x80 + 0x20 * n.val), true)
  | .lanePowerRequest a n _ => some (a, .cas, 0, (0x80 + 0x20 * n.val), true)
  | .casStop a => some (a, .cas, 0, 0x4C, true)
  | .netmapDataWrite a _ => some (a, .cas, 0, 0x64, true)
  | .netmapDataRead a => some (a, .cas, 0, 0x64, false)
  | .load a => some (a, .cfg, 0, 0x40, true)
  | .loadGolden a => some (a, .cfg, 0, 0x40, true)
  | .clear a => some (a, .cfg, 0, 0x40, true)
  | .stream a => some (a, .cfg, 0, 0x40, true)
  | .regionWrite a i _ => some (a, .cfg, 0, (0x100 + 8 * i.val), true)
  | .coreReset a m _ => some (a, .mdc, m.val, 0x04, true)
  | .coreResetRelease a m _ => some (a, .mdc, m.val, 0x04, true)
  | .wdtKick a m _ => some (a, .mdc, m.val, 0x50, true)
  | .getInfo a _ => some (a, .hst, 0, 0x40, true)
  | .echo a _ => some (a, .hst, 0, 0x40, true)
  | .loadImage a _ => some (a, .hst, 0, 0x40, true)
  | .blockEnable a _ => some (a, .hst, 0, 0x40, true)
  | .blockDisable a _ => some (a, .hst, 0, 0x40, true)
  | .fwLoad a _ _ _ => some (a, .hst, 0, 0x40, true)
  | .fwStart a _ => some (a, .hst, 0, 0x40, true)
  | .fwLoadDbg a _ => some (a, .hst, 0, 0x40, true)
  | .setStepFreq a _ => some (a, .hst, 0, 0x40, true)
  | .irqTargetWrite a n _ => some (a, .irq, 0, (0x400 + 4 * n.val), true)
  | .irqEoi a _ => some (a, .irq, 0, 0x60, true)
  | .irqSwset a hi _ => some (a, .irq, 0, (if hi then 0xC4 else 0xC0), true)
  | .irqSwclr a hi _ => some (a, .irq, 0, (if hi then 0xCC else 0xC8), true)
  | .postWordWrite a k _ => some (a, .hms, 0, (0x100 + 4 * k.val), true)
  | .postCommit a _ => some (a, .hms, 0, 0x13C, true)
  | .hmsTake a => some (a, .hms, 0, 0x60, false)
  | .hmsDone a _ => some (a, .hms, 0, 0x64, true)
  | .hmsFail a _ => some (a, .hms, 0, 0x68, true)
  | .hmsCancel a _ => some (a, .hms, 0, 0x58, true)
  | .arm a u => some (a, .acq, u.val, 0x40, true)
  | .acqStop a u => some (a, .acq, u.val, 0x40, true)
  | .force a u => some (a, .acq, u.val, 0x40, true)
  | .rdIndexWrite a u _ => some (a, .acq, u.val, 0x2C0, true)
  | .rdDataRead a u k _ => some (a, .acq, u.val, (0x2D0 + 4 * k.val), false)
  | .offset a => some (a, .tim, 0, 0x40, true)
  | .unlock a => some (a, .tim, 0, 0x40, true)
  | .set a => some (a, .tim, 0, 0x40, true)
  | .rateWrite a _ => some (a, .tim, 0, 0x44, true)
  | .ethTxKick a n _ => some (a, .eth, 0, (0x128 + 0x80 * n.val), true)
  | .msixUnmask a v => some (a, .hst, 0, (0x80C + 16 * v.val), true)
  | .systemReset a => some (a, .pwr, 0, 0x40, true)
  | .controlReset a => some (a, .pwr, 0, 0x40, true)
  | .grantWrite a _ => some (a, .dbg, 0, 0x44, true)
  | .unlockSubmit a => some (a, .dbg, 0, 0x5C, true)
  | .windowRead a _ _ => some (a, .dbg, 0, 0x88, true)
  | .windowWrite a _ _ => some (a, .dbg, 0, 0x88, true)
  | .stealRead a _ _ _ => some (a, .dbg, 0, 0x88, true)
  | .stealWrite a _ _ _ => some (a, .dbg, 0, 0x88, true)
  | .fwFifoWrite a _ => some (a, .dbg, 0, 0x60, true)
  | .coreHalt a m => some (a, .dbg, 0, (0x100 + 0x40 * m.val), true)
  | .coreResume a m => some (a, .dbg, 0, (0x100 + 0x40 * m.val), true)
  | .coreStep a m => some (a, .dbg, 0, (0x100 + 0x40 * m.val), true)
  | .coreRegisterWrite a m _ => some (a, .dbg, 0, (0x11C + 0x40 * m.val), true)
  | .vtTxWrite m _ => some ((.core m), .dbg, 0, (0x130 + 0x40 * m.val), true)
  | .vtTxRead a m => some (a, .dbg, 0, (0x130 + 0x40 * m.val), false)
  | .vtRxWrite a m _ => some (a, .dbg, 0, (0x134 + 0x40 * m.val), true)
  | .vtRxRead m => some ((.core m), .dbg, 0, (0x134 + 0x40 * m.val), false)
  | .traceEnable a _ => some (a, .trc, 0, 0x04, true)
  | .traceBufferRead a => some (a, .trc, 0, 0x5C, false)
  | .noteWrite m c _ => some ((.core m), .dbg, 0, (0x800 + 0x40 * m.val + 4 * c.val), true)
  | _ => none

/-- The engine stands at a record of a kind with header `h` and the words `rest` behind it, its payload is there, and the
image does not end with it (R291, R292, R299). -/
def Machine.State.atRecord (s : State) (k : RecordKind) (h : W32) (rest : List W32) : Prop :=
  s.streaming = true ∧ s.fabric.engine.hunting = false ∧ s.fabric.engine.framesLeft = 0 ∧ s.fabric.clearing = 0 ∧
    s.fabric.engine.input = h :: rest ∧ recordKind h.toNat = some k ∧ payloadWords k ≤ rest.length ∧
    (s.fabric.engine.source = 2 ∨ s.fabric.engine.fetched < s.imageBytes / 4)

/-- Core m issues bundle b now: it is ready, takes no interrupt and no halt, the bundle at its PC is b and does not fault,
and none of its accesses waits for a far response (R359, R364, R371, R486, R487, R320). A packet of the trace that is due
goes out first (R501). -/
def Machine.State.issues (s : State) (m : Nat) (b : W128) : Prop :=
  s.coreReady m = true ∧ s.takesIrq m = false ∧ s.quayFull m = false ∧ (s.core m).haltReq = 0 ∧
    s.breakpoint m (s.core m).pc = none ∧ s.fetchBundle m (s.core m) = some b ∧
    (s.firstSync m).fetchBundle m ((s.firstSync m).core m) = some b ∧
    (s.firstSync m).bundleFault m ((s.firstSync m).core m) = none ∧
    (s.firstSync m).needsFar m (slotOf b 2) ((s.firstSync m).core m) = false ∧
    (s.firstSync m).needsFar m (slotOf b 3) ((s.firstSync m).core m) = false

/-- The results that bundle b leaves to land (R357). -/
def Machine.State.bundleResults (s : State) (m : Nat) (b : W128) : List Landing :=
  let c := s.core m
  let x := s.memSlot s m 2 (slotOf b 2) c
  arithResults (slotOf b 0) c ++ arithResults (slotOf b 1) c ++ x.1 ++
    (s.memSlot x.2 m 3 (slotOf b 3) c).1 ++ seqResults (slotOf b 3) c

/-- Bundle b leaves one result to register r, and none is on its way there (R348, R358). -/
def Machine.State.sole (s : State) (m : Nat) (b : W128) (r : Nat) : Prop :=
  (∀ l ∈ (s.core m).due, l.reg ≠ r) ∧ ((s.bundleResults m b).filter (fun l => l.reg == r)).length = 1

/-- Every command that waits is well-formed. -/
def QueueOk (s : State) : Prop := ∀ c ∈ s.pending, c.wellFormed = true

/-- A state is safe when no run from it ends in a fault or a refusal. -/
def Safe (s : State) : Prop := ∀ t : State, Reaches s t → ∃ u : State, StepsTo t u

end Sys2Proof
end

