-- ==== Sys2Proof/Certificates/Slice0/Obligations.lean ====
section
/-! DEFINITION. Certificates/Slice0/Obligations.lean: the statements for the provers. In each, a clause gives conditions on the state
and the operands alone and concludes that `exec` answers a next state, with what that state holds; a clause about a stop says so. -/

open Sys2Proof Sys2Proof.Machine

/-- A step runs the command at the front of the queue on the queue's rest; with an empty queue a core-clock cycle
passes (log entries 1 and 64: the queue and its ticks are the model's own). -/
def Obligations.FrontOfQueueRuns : Prop :=
  (∀ (c : Instr) (rest : List Instr) (s : State), s.pending = c :: rest → step s = exec c { s with pending := rest }) ∧
  (∀ (c : Instr) (s : State), step { s with pending := c :: s.pending } = exec c s) ∧
  (∀ s : State, s.pending = [] → step s = .next s.tick)

/-- R16, R31: after reset every register field reads the value of the Reset column, the device is in Service, the
stores are empty and in canonical form, and no command waits. The fields to which the spec gives no reset value have
the model's (log entries 10 to 19). -/
def Obligations.ResetState : Prop :=
  (∀ (f : Fld) (ch : Nat), State.reset.rd f ch = f.reset) ∧ State.reset.rd R.PWR_STATUS.DEV_STATE 0 = 2 ∧
  State.reset.dmem = [] ∧ State.reset.scratch = [] ∧ State.reset.istore = [] ∧ State.reset.rows = [] ∧
  State.reset.logbook = [] ∧ State.reset.frames = [] ∧ State.reset.cores = [] ∧ State.reset.parts = [] ∧
  State.reset.tb = 0 ∧ State.reset.pending = [] ∧ QueueOk State.reset ∧ Machine.Memory.wf State.reset = true

/-- R81: `PRT_CTRL.DEPTH` sets the depth of a partition. -/
def Obligations.DepthOfPartition : Prop :=
  ∀ (p : Nat) (s : State), s.depth p = 8 * (s.rd R.PRT_CTRL.DEPTH p + 1) ∧
    (s.rd R.PRT_CTRL.DEPTH p ≤ 127 → 8 ≤ s.depth p ∧ s.depth p ≤ 1024)

/-- Every command completes: whatever its operands and the state, `exec` answers a next state, for each of the 286
constructors of `Instr`; the one exception is a NOC_REQUEST whose OP is reserved (R400), where a block would perform
it. What each command's next state holds is said by the other statements. -/
def Obligations.CommandsAlwaysComplete : Prop :=
  ∀ (c : Instr) (s : State), (∀ k : Packet, c = .nocRequest k → 4 ≤ k.op.val → s.performed k = false) →
    ∃ t, exec c s = .next t

/-- R28, R29, R31, R121, R401, R403, R479: a command that is an access of one register passes the gates first: beyond
the debug level it is refused; in Off or Standby nothing answers; an initiator that the page does not permit is
refused and recorded; without a route, at a dead quay or at a block that sleeps it gets an error response and its
quay's interrupt. In each case it has none of its effect. -/
def Obligations.AccessesAreGated : Prop :=
  ∀ (c : Instr) (a : Accessor) (p : Page) (ch off : Nat) (w : Bool) (s : State), accessed c = some (a, p, ch, off, w) →
    (s.accessCode a p ch off w = 9 → exec c s = .next s) ∧
    (s.accessCode a p ch off w = 8 → exec c s = .next { s with outbox := s.outbox ++ [.regResp a 4 0] }) ∧
    (s.accessCode a p ch off w = 10 →
      ∃ t l, exec c s = .next t ∧ t.rd (errValid p) (if p = .mdc then ch else 0) = 1 ∧
        t.rd (intBit .noc 3) (nodeOf a) = 1 ∧ t.outbox = s.outbox ++ l ++ [.regResp a 4 0] ∧ t.parts = s.parts ∧
        t.dmem = s.dmem ∧ t.cores = s.cores ∧ t.scratch = s.scratch) ∧
    ((s.accessCode a p ch off w = 1 ∨ s.accessCode a p ch off w = 2 ∨ s.accessCode a p ch off w = 6) →
      ∃ t l, exec c s = .next t ∧ t.rd (intBit .noc 3) (nodeOf a) = 1 ∧ t.outbox = s.outbox ++ l ++ [.regResp a 4 0] ∧
        t.parts = s.parts ∧ t.dmem = s.dmem ∧ t.cores = s.cores ∧ t.scratch = s.scratch)

/-- R9, R13, R14, R120: a register write by a field's access code, a reserved offset, a size, and SELECT. -/
def Obligations.RegisterWritesObeyAccessCodes : Prop :=
  (∀ (a : Accessor) (n : Fin 64) (v : W32) (s : State), s.accessCode a .fab 0 0x50 true = 0 →
    ∃ t, exec (.registerWrite a ⟨.fab, n, 0x50⟩ v 4) s = .next t ∧
      t.rd R.FAB_USER_RESET.ASSERT 0 = bitOf v.toNat 0 ∧ t.outbox = s.outbox ++ [.regResp a 0 0]) ∧
  (∀ (a : Accessor) (n : Fin 64) (v : W32) (s : State), s.accessCode a .fab 0 0x40 true = 0 →
    ∃ t, exec (.registerWrite a ⟨.fab, n, 0x40⟩ v 4) s = .next t ∧ t.regs = s.regs ∧
      t.outbox = s.outbox ++ [.regResp a 0 0]) ∧
  (∀ (a : Accessor) (n : Fin 64) (v : W32) (s : State), s.accessCode a .fab 0 0x0C true = 0 →
    (∀ b, b < 3 → s.rd (intBit .fab b) 0 < 2) →
    ∃ t, exec (.registerWrite a ⟨.fab, n, 0x0C⟩ v 4) s = .next t ∧
      ∀ b, b < 3 → t.rd (intBit .fab b) 0 = (if bitOf v.toNat b = 1 then 0 else s.rd (intBit .fab b) 0)) ∧
  (∀ (a : Accessor) (r : RegAddr) (v : W32) (s : State), s.accessCode a r.page (s.channel a r) r.off.val true = 0 →
    r.off.val % 4 = 0 → r.off.val ≠ 0 → r.off.val ≠ 0x14 → isMsix r.page r.off.val = false →
    fieldsAt r.page r.off.val = none → s.on (errValid r.page) (s.channel a r) = false →
    ∃ t, exec (.registerWrite a r v 4) s = .next t ∧ t.rd (errCode r.page) (s.channel a r) = 1 ∧
      (∀ (f : Fld) (c : Nat), errorReg (f.off % 4096) = false → t.rd f c = s.rd f c)) ∧
  (∀ (a : Accessor) (r : RegAddr) (v : W32) (s : State), s.accessCode a r.page (s.channel a r) 0x14 true = 0 →
    r.page.channels ≠ 0 → bitsOf v.toNat 0 8 < r.page.channels →
    ∃ t, exec (.selectWrite a r v) s = .next t ∧
      SMap.get 0 t.selects (selClassOf a * 32 + r.page.type) = bitsOf v.toNat 0 8 ∧
      (∀ k, k ≠ selClassOf a * 32 + r.page.type → SMap.get 0 t.selects k = SMap.get 0 s.selects k) ∧
      t.regs = s.regs ∧ t.outbox = s.outbox ++ [.regResp a 0 0])

/-- R9, R12, R15, R107: 128-bit values are staged, applied and captured, pairs read whole, and RC fields cleared. -/
def Obligations.WideValuesMoveWhole : Prop :=
  (∀ (a : Accessor) (r : RegAddr) (v : W32) (b : Nat) (s : State),
    s.accessCode a r.page (s.channel a r) r.off.val true = 0 → r.off.val % 4 = 0 → wideBase r.page r.off.val = some b →
    wideWritable r.page b = true → r.page ≠ .acq → (fieldsAt r.page r.off.val).isSome = true → r.off.val ≠ b + 12 →
    ∃ t, exec (.wideWordStage a r v) s = .next t ∧
      ((r.off.val = b → (t.staged a r.page (homeChannel a r.page (s.channel a r) r.off.val) b).w0 = some v) ∧
        (r.off.val = b + 4 → (t.staged a r.page (homeChannel a r.page (s.channel a r) r.off.val) b).w1 = some v) ∧
        (r.off.val = b + 8 → (t.staged a r.page (homeChannel a r.page (s.channel a r) r.off.val) b).w2 = some v)) ∧
      t.regs = s.regs) ∧
  (∀ (a : Accessor) (n : Fin 64) (v x0 x1 x2 : W32) (s : State), s.accessCode a .log 0 0x6C true = 0 →
    s.staged a .log 0 0x60 = ⟨some x0, some x1, some x2⟩ →
    ∃ t, exec (.wideWordApply a ⟨.log, n, 0x6C⟩ v) s = .next t ∧ t.rd R.LOG_USER.DATA0 0 = x0.toNat ∧
      t.rd R.LOG_USER.DATA1 0 = x1.toNat ∧ t.rd R.LOG_USER.DATA2 0 = x2.toNat ∧ t.rd R.LOG_USER.DATA3 0 = v.toNat ∧
      t.staged a .log 0 0x60 = {}) ∧
  (∀ (a : Accessor) (r : RegAddr) (s : State), s.accessCode a r.page (s.channel a r) r.off.val false = 0 →
    r.off.val % 4 = 0 → wideBase r.page r.off.val = some r.off.val → (r.page = .tim ∨ r.page = .log ∨ r.page = .prt) →
    (fieldsAt r.page r.off.val).isSome = true →
    ∃ t, exec (.wideWordCapture a r) s = .next t ∧
      SMap.get none t.captures (stageKey a r.page (s.channel a r) r.off.val) =
        some (s.wideValue r.page (s.channel a r) r.off.val) ∧
      t.outbox = s.outbox ++
        [.regResp a 0 (BitVec.ofNat 32 (wordOf (s.wideValue r.page (s.channel a r) r.off.val) 0))]) ∧
  (∀ (a : Accessor) (r : RegAddr) (s : State), s.accessCode a r.page (s.channel a r) r.off.val false = 0 →
    r.off.val % 4 = 0 → pairBase r.page r.off.val = some r.off.val → wideBase r.page r.off.val = none →
    (fieldsAt r.page r.off.val).isSome = true →
    ∃ t, exec (.pairLoRead a r) s = .next t ∧
      t.capturedHi a r.page (homeChannel a r.page (s.channel a r) r.off.val) r.off.val =
        some (s.shows r.page (homeChannel a r.page (s.channel a r) r.off.val) (r.off.val + 4)) ∧
      t.outbox = s.outbox ++ [.regResp a 0
        (BitVec.ofNat 32 (s.shows r.page (homeChannel a r.page (s.channel a r) r.off.val) r.off.val))] ∧
      t.regs = s.regs) ∧
  (∀ (a : Accessor) (n : Fin 64) (s : State), s.accessCode a .res 0 0x54 false = 0 → s.quiet a = false →
    ∃ t, exec (.clearingRead a ⟨.res, n, 0x54⟩) s = .next t ∧ t.rd R.RES_SS_CE_COUNT.COUNT 0 = 0 ∧
      t.outbox = s.outbox ++ [.regResp a 0 (BitVec.ofNat 32 (s.rd R.RES_SS_CE_COUNT.COUNT 0))]) ∧
  (∀ (a : Accessor) (n : Fin 64) (s : State), s.accessCode a .res 0 0x54 false = 0 → s.quiet a = true →
    ∃ t, exec (.clearingRead a ⟨.res, n, 0x54⟩) s = .next t ∧ t.regs = s.regs ∧
      t.outbox = s.outbox ++ [.regResp a 0 (BitVec.ofNat 32 (s.rd R.RES_SS_CE_COUNT.COUNT 0))])

/-- R78, R97, R103, R106, R117, R124: LOAD_BEGIN, LOAD_END and UNLOAD, and the registers of a partition that have
rules of their own. -/
def Obligations.PartitionsAreSetUp : Prop :=
  ((∀ (a : Accessor) (p : Fin 64) (s : State), s.accessCode a .prt p.val 0x40 true = 0 →
      (s.part p.val).ungating = false → s.bunches p.val ≠ [] →
      (s.pstate p.val = 0 ∨ s.pstate p.val = 2 ∨ s.pstate p.val = 5 ∨ s.pstate p.val = 6 ∨ s.pstate p.val = 7) →
      ∃ t, exec (.loadBegin a p) s = .next t ∧
        (if s.ungated p.val then t.pstate p.val = 1 else (t.part p.val).ungating = true) ∧
        t.rd R.PRT_STATUS.ISOLATED p.val = 1 ∧
        t.rd64 R.PRT_CYCLE_LO.COUNT R.PRT_CYCLE_HI.COUNT p.val = 0 ∧
        t.rd64 R.PRT_FAULT_CYCLE_LO.COUNT R.PRT_FAULT_CYCLE_HI.COUNT p.val = 0 ∧
        t.rd R.PRT_FAULT_INFO.CHECK p.val = 0 ∧ t.rd R.PRT_FAULT_INFO.STEP p.val = 0 ∧
        t.rd R.PRT_STATUS.STOP_CAUSE p.val = 0 ∧ t.rd R.PRT_STATUS.XPHASE p.val = 0 ∧
        t.rd R.PRT_STATUS.PENDING p.val = 0 ∧
        t.outbox = s.outbox ++ [.regResp a 0 0]) ∧
    (∀ (a : Accessor) (p : Fin 64) (s : State), s.accessCode a .prt p.val 0x40 true = 0 →
      (s.part p.val).ungating = false → s.bunches p.val ≠ [] → s.isFollower p.val = false → s.pstate p.val = 1 →
      (s.on R.PRT_CTRL.HARD p.val = false ∨ (s.part p.val).softSeen = false) → (s.part p.val).refusedWord = false →
      ∃ t, exec (.loadEnd a p) s = .next t ∧ t.pstate p.val = 2 ∧
        (∀ r ∈ s.windowRegs p.val, t.exchTook.contains ((s.window p.val).1 * 64 + r, p.val) = true) ∧
        t.outbox = s.outbox ++ [.regResp a 0 0]) ∧
    (∀ (a : Accessor) (p : Fin 64) (s : State), s.accessCode a .prt p.val 0x40 true = 0 →
      (s.part p.val).ungating = false → s.bunches p.val ≠ [] →
      (s.pstate p.val = 1 ∨ s.pstate p.val = 2 ∨ s.pstate p.val = 5 ∨ s.pstate p.val = 6 ∨ s.pstate p.val = 7) →
      ∃ t, exec (.unload a p) s = .next t ∧ t.pstate p.val = 0 ∧ t.rd R.PRT_STATUS.ISOLATED p.val = 1 ∧
        (t.part p.val).locked = (s.part p.val).locked ∧ (∀ n ∈ s.bunches p.val, s.underDebug n = false → t.rd R.DMB_STATUS.ARRAY_CLOCK n = 1) ∧
        t.outbox = s.outbox ++ [.regResp a 0 0])) ∧
  ((∀ (a : Accessor) (p : Fin 64) (hi : Bool) (v : W32) (s : State),
      s.accessCode a .prt p.val (if hi then 0x48 else 0x44) true = 0 → s.pstate p.val = 0 →
      (s.part p.val).ungating = false →
      s.bunchesTaken p.val (if hi then 2 ^ 32 * v.toNat else v.toNat) = false →
      ∃ t, exec (.bunchesWrite a p hi v) s = .next t ∧
        t.rd R.PRT_BUNCHES_LO.MEMBER p.val = (if hi then s.rd R.PRT_BUNCHES_LO.MEMBER p.val else v.toNat) ∧
        t.rd R.PRT_BUNCHES_HI.MEMBER p.val = (if hi then v.toNat else s.rd R.PRT_BUNCHES_HI.MEMBER p.val) ∧
        t.outbox = s.outbox ++ [.regResp a 0 0]) ∧
    (∀ (a : Accessor) (p : Fin 64) (hi : Bool) (v : W32) (s : State),
      s.accessCode a .prt p.val (if hi then 0x48 else 0x44) true = 0 →
      (s.pstate p.val ≠ 0 ∨ s.bunchesTaken p.val (if hi then 2 ^ 32 * v.toNat else v.toNat) = true) →
      s.on (errValid .prt) p.val = false →
      ∃ t, exec (.bunchesWrite a p hi v) s = .next t ∧ t.bunches p.val = s.bunches p.val ∧
        t.rd (errCode .prt) p.val = 4 ∧ t.rd (errValid .prt) p.val = 1) ∧
    (∀ (a : Accessor) (p : Fin 64) (v : W32) (s : State), s.accessCode a .prt p.val 0x4C true = 0 →
      (s.part p.val).locked = false →
      ∃ t, exec (.exchWrite a p v) s = .next t ∧
        t.window p.val = (bitsOf v.toNat 0 4, bitsOf v.toNat 8 6, bitsOf v.toNat 16 7) ∧
        (s.pstate p.val = 2 → ∀ r ∈ t.windowRegs p.val, t.exchTook.contains ((t.window p.val).1 * 64 + r, p.val) = true)) ∧
    (∀ (a : Accessor) (p : Fin 64) (v : W32) (s : State), s.accessCode a .prt p.val 0x58 true = 0 →
      (∀ i, i < 4 → bitsOf v.toNat (2 * i) 2 ≠ 3) →
      ∃ t, exec (.isolateWrite a p v) s = .next t ∧ t.rd R.PRT_ISOLATE.FABRIC p.val = bitsOf v.toNat 0 2 ∧
        t.rd R.PRT_ISOLATE.EXCH p.val = bitsOf v.toNat 2 2 ∧ t.rd R.PRT_ISOLATE.CASTX p.val = bitsOf v.toNat 4 2 ∧
        t.rd R.PRT_ISOLATE.PROBE p.val = bitsOf v.toNat 6 2) ∧
    (∀ (a : Accessor) (p : Fin 64) (v : W32) (s : State), s.accessCode a .prt p.val 0x58 true = 0 →
      (∃ i, i < 4 ∧ bitsOf v.toNat (2 * i) 2 = 3) →
      ∃ t, exec (.isolateWrite a p v) s = .next t ∧
        (∀ f : Fld, f.page = .prt → errorReg (f.off % 4096) = false → ∀ c, t.rd f c = s.rd f c) ∧
        (s.on (errValid .prt) p.val = false → t.rd (errCode .prt) p.val = 4)))

/-- R103 to R106, R244: the commands that run a partition. -/
def Obligations.PartitionRuns : Prop :=
  (∀ (a : Accessor) (p : Fin 64) (s : State), s.accessCode a .prt p.val 0x40 true = 0 →
    (s.part p.val).ungating = false → s.bunches p.val ≠ [] → s.isFollower p.val = false →
    (s.pstate p.val = 2 ∨ s.pstate p.val = 5) → s.emuFree = true →
    (s.on R.PRT_CTRL.HARD p.val = false ∨ s.rd R.PRT_CTRL.REL_SRC p.val ≠ 3) → s.timerOk p.val = true →
    s.windowOk p.val = true → s.groupOk p.val = true →
    ∃ t, exec (.start a p) s = .next t ∧
      (∀ m ∈ s.members p.val, t.pstate m = 3 ∧ (t.part m).locked = true ∧ (t.part m).inCycle = false) ∧
      t.rd R.PRT_STATUS.STOP_CAUSE p.val = 0 ∧
      ((s.on R.PRT_CTRL.PTP_LOCK p.val = true ∧ s.rd R.PRT_CTRL.REL_SRC p.val = 1 ∧ s.on R.TIM_STATUS.LOCKED 0 = false) →
        t.rd R.PRT_STATUS.WAIT_LOCK p.val = 1) ∧ t.outbox = s.outbox ++ [.regResp a 0 0]) ∧
  (∀ (a : Accessor) (p : Fin 64) (s : State), s.accessCode a .prt p.val 0x40 true = 0 →
    (s.part p.val).ungating = false → s.bunches p.val ≠ [] → s.isFollower p.val = false →
    (s.pstate p.val = 2 ∨ s.pstate p.val = 5) → s.emuFree = true → s.windowOk p.val = true →
    ∃ t, exec (.single a p) s = .next t ∧
      (∀ m ∈ s.members p.val, t.pstate m = 4 ∧ (t.part m).single = true ∧ (t.part m).inCycle = true ∧
        (t.part m).step = 0 ∧ (t.part m).locked = true) ∧
      t.rd R.PRT_STATUS.STOP_CAUSE p.val = 0 ∧ t.rd R.PRT_STATUS.PENDING p.val = 0 ∧
      t.outbox = s.outbox ++ [.regResp a 0 0]) ∧
  (∀ (a : Accessor) (p : Fin 64) (s : State), s.accessCode a .prt p.val 0x40 true = 0 →
    (s.part p.val).ungating = false → s.bunches p.val ≠ [] → s.isFollower p.val = false →
    (s.pstate p.val = 3 ∨ s.pstate p.val = 4) → (s.inUnit p.val = false ∨ s.cas.started = false) →
    ∃ t, exec (.stop a p) s = .next t ∧
      (if s.pstate p.val = 3 ∨ (s.part p.val).inCycle = false then
        (∀ m ∈ s.members p.val, t.pstate m = 5) ∧ t.rd R.PRT_STATUS.STOP_CAUSE p.val = 1 ∧
          t.rd (intBit .prt 3) p.val = 1
      else t.rd R.PRT_STATUS.STOP_REQ p.val = 1 ∧ t.pstate p.val = 4) ∧
      t.rd R.PRT_STATUS.PENDING p.val = 0) ∧
  (∀ (a : Accessor) (p : Fin 64) (s : State), s.accessCode a .prt p.val 0x40 true = 0 →
    (s.part p.val).ungating = false → s.bunches p.val ≠ [] → s.isFollower p.val = false → s.pstate p.val = 6 →
    ∃ t, exec (.resume a p) s = .next t ∧
      ∀ m ∈ s.members p.val, t.pstate m = (s.part p.val).frozenFrom % 16)

/-- R20, R86, R87, R90, R94: how a release comes about and what it does. -/
def Obligations.ReleasesBeginCycles : Prop :=
  (∀ (p : Fin 64) (b : Inbound) (s : State), s.isFollower p.val = false → (s.part p.val).single = false →
    s.rd R.PRT_CTRL.REL_SRC p.val = 0 → s.awaitsStart p.val = false → s.on R.PRT_STATUS.PENDING p.val = false →
    ((s.pstate p.val = 3 ∧ s.on R.PRT_STATUS.WAIT_LOCK p.val = false) ∨ s.isWaiting p.val = true) →
    ∃ t, exec (.cycleRelease p b) s = .next t ∧ t.pstate p.val = 4 ∧ (t.part p.val).inCycle = true ∧
      (t.part p.val).step = 0 ∧ t.rows = s.rows ∧ t.lanes = s.lanes) ∧
  (∀ (p : Fin 64) (b : Inbound) (s : State), s.isFollower p.val = false → (s.part p.val).single = false →
    s.rd R.PRT_CTRL.REL_SRC p.val = 2 → (s.part p.val).edges ≠ 0 → s.pstate p.val = 4 → (s.part p.val).inCycle = true →
    ∃ t, exec (.cycleRelease p b) s = .next t ∧ t.rd R.PRT_STATUS.PENDING p.val = 1 ∧
      t.rd R.PRT_RELEASE_MISSED.COUNT p.val = satAdd 32 (s.rd R.PRT_RELEASE_MISSED.COUNT p.val) 1 ∧
      t.rd (intBit .prt 1) p.val = 1 ∧ (t.part p.val).edges = (s.part p.val).edges - 1) ∧
  (∀ (p : Fin 64) (b : Inbound) (s : State), s.isFollower p.val = false → (s.part p.val).single = false →
    s.rd R.PRT_CTRL.REL_SRC p.val = 1 → s.on R.PRT_STATUS.WAIT_LOCK p.val = false → s.emuStopped = false →
    s.awaitsStart p.val = false → s.on R.PRT_STATUS.PENDING p.val = false →
    (s.pstate p.val = 3 ∨ s.isWaiting p.val = true) → (s.part p.val).gridNext ≤ s.now →
    ∃ t, exec (.timerInstant p b) s = .next t ∧ t.pstate p.val = 4 ∧ (t.part p.val).inCycle = true ∧
      (t.part p.val).gridNext = (s.part p.val).gridNext + s.timerPeriod p.val) ∧
  (∀ (l : Fin 32) (rising : Bool) (s : State), s.lineIgnored l.val = false → s.emuStopped = false →
    ∃ t, exec (.releaseLineEdge l rising) s = .next t ∧
      ∀ p, p < 64 → (t.part p).edges = (s.part p).edges +
        (if s.rd R.PRT_CTRL.REL_SRC p = 2 ∧ s.rd R.PRT_CTRL.EXT_SEL p = l.val ∧
            s.rd R.PRT_CTRL.EXT_EDGE p = b2n (!rising) ∧ (s.pstate p = 3 ∨ s.pstate p = 4 ∨ s.pstate p = 6)
          then 1 else 0))

/-- R54, R58, R110, R111: a step executes, or stalls where something holds the partition. -/
def Obligations.StepExecutesOrStalls : Prop :=
  (∀ (p : Fin 64) (u : List Upset) (s : State), (s.part p.val).inCycle = true → s.isFollower p.val = false →
    (s.part p.val).step < s.depth p.val → (s.pstate p.val = 4 ∨ s.pstate p.val = 6) → s.rd R.DBG_STATUS.EMU 0 = 0 →
    (s.part p.val).replay = none → s.holders p.val ≠ 0 →
    ∃ t, exec (.step p u) s = .next t ∧ t.rd R.PRT_STATUS.STALLED p.val = 1 ∧
      (t.part p.val).step = (s.part p.val).step ∧ t.rows = s.rows ∧ t.lanes = s.lanes ∧
      (t.part p.val).ledger.realFrom ≠ none) ∧
  (∀ (p : Fin 64) (u : List Upset) (s : State), (s.part p.val).inCycle = true → s.isFollower p.val = false →
    s.isLead p.val = false → (s.part p.val).step < s.depth p.val → (s.pstate p.val = 4 ∨ s.pstate p.val = 6) →
    s.rd R.DBG_STATUS.EMU 0 = 0 → (s.part p.val).replay = none → (s.part p.val).ledger.realFrom = none →
    s.holders p.val = 0 → s.inUnit p.val = false →
    (s.upset u).fetchCheck p.val p.val (s.part p.val).step = none →
    (s.upset u).badFetches p.val (s.part p.val).step 1 = [] → (∀ k, (s.upset u).ecc clsRow k = 0) →
    (s.part p.val).pendErr = none →
    ∃ t, exec (.step p u) s = .next t ∧ (t.part p.val).step = (s.part p.val).step + 1 ∧
      (t.part p.val).executed = (s.part p.val).executed + 1 ∧
      (∀ n ∈ s.bunches p.val, ∀ b, b < 16 →
        SMap.get 0 t.rows (s.rowAt n b (s.part p.val).step) =
          mergeRow (SMap.get 0 s.rows (s.rowAt n b (s.part p.val).step)) (s.results p.val p.val (s.part p.val).step) n b) ∧
      (∀ n ∈ s.bunches p.val, SMap.get 0 t.lanes n = laneBits (s.results p.val p.val (s.part p.val).step) n))

/-- R21, R65, R99, R105, R117: the cycle boundary of a partition that stands in no group, and the end of a far
transfer. -/
def Obligations.CyclesEnd : Prop :=
  (∀ (p : Fin 64) (b : Inbound) (s : State), (s.part p.val).inCycle = true → s.isFollower p.val = false →
      s.isLead p.val = false → s.depth p.val ≤ (s.part p.val).step → (s.pstate p.val = 4 ∨ s.pstate p.val = 6) →
      s.rd R.DBG_STATUS.EMU 0 = 0 → s.holders p.val &&& (causeFar ||| causeBerth) = 0 → (s.part p.val).replay = none →
      ∃ t, exec (.cycleBoundary p b) s = .next t ∧
        t.rd64 R.PRT_CYCLE_LO.COUNT R.PRT_CYCLE_HI.COUNT p.val =
          (s.rd64 R.PRT_CYCLE_LO.COUNT R.PRT_CYCLE_HI.COUNT p.val + 1) % 2 ^ 64 ∧
        t.rd R.PRT_STATUS.XPHASE p.val = (1 - s.rd R.PRT_STATUS.XPHASE p.val) % 2 ∧
        t.rd R.PRT_STATUS.ISOLATED p.val = (if (s.part p.val).opened then 0 else s.rd R.PRT_STATUS.ISOLATED p.val) ∧
        (∀ n ∈ s.bunches p.val, SMap.get 0 t.fabPres n =
          (if s.on R.PRT_STATUS.ISOLATED p.val && !(s.part p.val).opened then SMap.get 0 s.fabPres n
            else SMap.get 0 s.fabOwn n)) ∧
        (s.stopRank p.val ≠ 0 → t.rd R.PRT_STATUS.STOP_CAUSE p.val = s.stopRank p.val % 8 ∧
          (s.pstate p.val = 4 → t.pstate p.val = 5) ∧
          (s.pstate p.val = 6 → t.pstate p.val = 6 ∧ (t.part p.val).frozenFrom = 5)) ∧
        (s.stopRank p.val = 0 → (s.on R.PRT_STATUS.PENDING p.val = false ∨ s.pstate p.val = 6) →
          (t.part p.val).inCycle = false) ∧
        (s.stopRank p.val = 0 → s.on R.PRT_STATUS.PENDING p.val = true → s.pstate p.val = 4 → (t.part p.val).inCycle = true ∧
          (t.part p.val).step = 0 ∧ t.rd R.PRT_STATUS.PENDING p.val = 0)) ∧
  (∀ (p n : Fin 64) (status : Fin 8) (w : W128) (c : MemWait) (s : State),
      (s.part p.val).memWaits.find? (fun c => c.bunch == n.val && decide (2 ≤ c.kind)) = some c →
      ∃ t, exec (.farTransferComplete p n status w) s = .next t ∧
        (t.part p.val).memWaits = (s.part p.val).memWaits.filter (fun y => !(y.bunch == n.val && decide (2 ≤ y.kind))) ∧
        (c.kind = 2 → status.val = 0 → SMap.get none t.rpend n.val = some w) ∧
        (¬(c.kind = 2 ∧ status.val = 0) → t.rpend = s.rpend) ∧ t.rdata = s.rdata)

/-- R23, R72 to R76, R185, R467: the instruction-store loader, ungating and the spares. -/
def Obligations.LoaderAndSpares : Prop :=
  (∀ (p n : Fin 64) (b : Fin 16) (st : Fin 1024) (i : Fin 64) (w : W128) (s : State),
    (s.part p.val).ungating = false → s.pstate p.val = 1 → n.val ∈ s.bunches p.val →
    ∃ t, exec (.instructionWordWrite p n b st i w (sealOf w)) s = .next t ∧
      SMap.get idleWord t.istore (s.isAt n.val b.val st.val i.val) = w ∧
      t.ecc clsIstore (s.isAt n.val b.val st.val i.val) = 0 ∧
      (t.part p.val).softSeen = ((s.part p.val).softSeen || softWord w)) ∧
  (∀ (p n : Fin 64) (b : Fin 16) (st : Fin 1024) (i : Fin 64) (w : W128) (chk : BitVec 16) (s : State),
    (s.part p.val).ungating = false →
    (s.pstate p.val ≠ 1 ∨ n.val ∉ s.bunches p.val ∨ sealOf w ≠ chk) →
    ∃ t, exec (.instructionWordWrite p n b st i w chk) s = .next t ∧ t.istore = s.istore ∧
      (t.part p.val).refusedWord = true ∧
      (s.on (errValid .prt) p.val = false → t.rd (errCode .prt) p.val =
        (if s.pstate p.val ≠ 1 ∨ n.val ∉ s.bunches p.val then 15 else 9))) ∧
  (∀ (p : Fin 64) (s : State), (s.part p.val).ungating = true → s.emuStopped = false →
    (s.part p.val).heldWords = [] → (s.part p.val).heldCmds = [] →
    ∃ t, exec (.bunchUngateDone p) s = .next t ∧ t.pstate p.val = 1 ∧ (t.part p.val).ungating = false ∧
      (∀ n ∈ s.bunches p.val, t.rd R.DMB_STATUS.ARRAY_CLOCK n = 0)) ∧
  (∀ (a : Accessor) (n : Fin 64) (v : W32) (s : State), s.accessCode a .orc n.val 0x40 true = 0 →
    s.remapLocked n.val = false → (bitOf v.toNat 8 = 0 ∨ s.on R.ORC_SPARE_STATUS.BERRY_SPARE_BAD (s.physBunch n.val) = false) →
    ∃ t, exec (.berryRemapWrite a n v) s = .next t ∧
      t.rd R.ORC_BERRY_REMAP.BERRY (s.physBunch n.val) = bitsOf v.toNat 0 4 ∧
      t.rd R.ORC_BERRY_REMAP.EN (s.physBunch n.val) = bitOf v.toNat 8) ∧
  (∀ (a : Accessor) (n : Fin 64) (v : W32) (s : State), s.accessCode a .orc n.val 0x44 true = 0 →
    (∀ k, s.remapLocked k = false) → (bitOf v.toNat 8 = 0 ∨ s.on R.ORC_SPARE_STATUS.BUNCH_SPARE_BAD 0 = false) →
    ∃ t, exec (.bunchRemapWrite a n v) s = .next t ∧ t.rd R.ORC_BUNCH_REMAP.BUNCH 0 = bitsOf v.toNat 0 6 ∧
      t.rd R.ORC_BUNCH_REMAP.EN 0 = bitOf v.toNat 8) ∧
  (∀ (n : Fin 64) (s : State), s.on R.ORC_BERRY_REMAP.EN (s.physBunch n.val) = true →
    ∃ t, exec (.spareFailure n false) s = .next t ∧
      t.rd R.ORC_SPARE_STATUS.BERRY_SPARE_BAD (s.physBunch n.val) = 1 ∧ t.rd (intBit .orc 0) n.val = 1) ∧
  (∀ (n : Fin 64) (s : State), s.on R.ORC_BUNCH_REMAP.EN 0 = true →
    ∃ t, exec (.spareFailure n true) s = .next t ∧ t.rd R.ORC_SPARE_STATUS.BUNCH_SPARE_BAD 0 = 1 ∧
      t.rd (intBit .orc 0) (s.rd R.ORC_BUNCH_REMAP.BUNCH 0) = 1)

/-- R23, R26, R127, R131 to R134, R137, R141, R142, R154: accesses to the banks, their berth, its handover, and the
repair entries. -/
def Obligations.BanksServeAndHandOver : Prop :=
  ((∀ (b : Fin 64) (u : List Upset) (x : BankAcc) (v : W128) (s : State), (s.bank b.val).jwrites = [] →
      s.nextAccess b.val = some x → x.op = 0 → x.more = 0 → x.bad = 0 → x.got = [] →
      (s.upset u).bankWord b.val x.word = (v, 0) →
      ∃ t l, exec (.bankNocAccess b u) s = .next t ∧ t.dmem = s.dmem ∧
        t.outbox = s.outbox ++ (if s.quayIsDead (b.val / 8) then [] else [.nocResp x.who.node x.tag 0 [v]]) ++ l ∧
        ((s.bank b.val).inflow = [] → s.heldPackets (b.val / 8) = [] →
          l = [] ∧ (t.bank b.val).queue = removeAccess x (s.bank b.val).queue)) ∧
    (∀ (b : Fin 64) (u : List Upset) (x : BankAcc) (s : State), (s.bank b.val).jwrites = [] →
      s.nextAccess b.val = some x → x.op = 1 → x.more = 0 → x.win = 0 → x.be = 65535 → x.spoilt = false →
      (x.who.exempt = true ∨ s.inJournal b.val x.word = false) →
      ∃ t, exec (.bankNocAccess b u) s = .next t ∧ t.bankWord b.val x.word = (x.data, 0) ∧
        (∀ m, t.holdsBankResv m b.val x.word = false) ∧
        ∃ l r, t.outbox = l ++ (if s.quayIsDead (b.val / 8) then []
          else [.nocResp x.who.node x.tag x.bad (if x.bad = 0 then x.got else [])]) ++ r) ∧
    (∀ (b : Fin 64) (u : List Upset) (x : BankAcc) (s : State), (s.bank b.val).jwrites = [] →
      s.nextAccess b.val = some x → (x.op = 1 ∨ x.op = 3) → x.more = 0 → x.bad = 0 → x.who.exempt = false →
      s.inJournal b.val x.word = true →
      ∃ t l r, exec (.bankNocAccess b u) s = .next t ∧ t.dmem = s.dmem ∧ t.rd (intBit .dmb 2) b.val = 1 ∧
        t.outbox = l ++ (if s.quayIsDead (b.val / 8) then [] else [.nocResp x.who.node x.tag 4 []]) ++ r) ∧
    (∀ (b : Fin 64) (w : Nat) (rest : List Nat) (v : W128) (s : State), (s.bank b.val).writebacks = w :: rest →
      s.slotTaken b.val false = false →
      s.bankWord b.val w = (v, 1) →
      ∃ t, exec (.eccWriteback b) s = .next t ∧ t.bankWord b.val w = (v, 0) ∧ (t.bank b.val).writebacks = rest ∧
        t.regs = s.regs)) ∧
  ((∀ (a : Accessor) (b : Fin 64) (v : W32) (s : State), s.accessCode a .dmb b.val 0x40 true = 0 →
      ownerValid (bitsOf v.toNat 0 3) (bitsOf v.toNat 8 6) = true → s.on R.DMB_STATUS.HANDOVER b.val = false →
      s.berthIs b.val (bitsOf v.toNat 0 3) (bitsOf v.toNat 8 6) = false →
      ∃ t, exec (.berthWrite a b v) s = .next t ∧ t.rd R.DMB_BERTH.KIND b.val = bitsOf v.toNat 0 3 ∧
        t.rd R.DMB_BERTH.ID b.val = bitsOf v.toNat 8 6 ∧ t.rd R.DMB_STATUS.HANDOVER b.val = 1 ∧
        t.rd R.DMB_BERTH_PREV.KIND b.val = s.rd R.DMB_BERTH.KIND b.val % 8 ∧
        t.rd R.DMB_BERTH_PREV.ID b.val = s.rd R.DMB_BERTH.ID b.val % 64 ∧
        (∀ m w, w < 2 ^ 18 → t.holdsBankResv m b.val w = false)) ∧
    (∀ (a : Accessor) (b : Fin 64) (v : W32) (s : State), s.accessCode a .dmb b.val 0x40 true = 0 →
      (ownerValid (bitsOf v.toNat 0 3) (bitsOf v.toNat 8 6) = false ∨ s.on R.DMB_STATUS.HANDOVER b.val = true) →
      s.on (errValid .dmb) b.val = false →
      ∃ t, exec (.berthWrite a b v) s = .next t ∧ t.rd R.DMB_BERTH.KIND b.val = s.rd R.DMB_BERTH.KIND b.val ∧
        t.rd R.DMB_BERTH.ID b.val = s.rd R.DMB_BERTH.ID b.val ∧ t.rd (errCode .dmb) b.val = 4) ∧
    (∀ (b : Fin 64) (s : State), s.on R.DMB_STATUS.HANDOVER b.val = true →
      (∀ x ∈ (s.bank b.val).queue, x.old = true → x.who.exempt = true) →
      ∃ t, exec (.handoverComplete b) s = .next t ∧ t.rd R.DMB_STATUS.HANDOVER b.val = 0 ∧
        t.rd R.DMB_BERTH.KIND b.val = s.rd R.DMB_BERTH.KIND b.val ∧ t.rd R.DMB_BERTH.ID b.val = s.rd R.DMB_BERTH.ID b.val ∧
        t.rd R.DMB_BERTH_PREV.KIND b.val = 0 ∧ t.rd R.DMB_BERTH_PREV.ID b.val = 0) ∧
    (∀ (a : Accessor) (b : Fin 64) (k : Fin 16) (v : W32) (s : State),
      s.accessCode a .dmb b.val (0x80 + 4 * k.val) true = 0 → s.berthNames b.val 0 0 = true →
      ∃ t, exec (.repairEntryWrite a b k v) s = .next t ∧ t.rd (R.DMB_REPAIR.ROW k.val) b.val = bitsOf v.toNat 0 15 ∧
        t.rd (R.DMB_REPAIR.VALID k.val) b.val = bitOf v.toNat 16 ∧ t.rd (R.DMB_REPAIR.TESTER k.val) b.val = 0) ∧
    (∀ (a : Accessor) (b : Fin 64) (k : Fin 16) (v : W32) (s : State),
      s.accessCode a .dmb b.val (0x80 + 4 * k.val) true = 0 → s.berthNames b.val 0 0 = false →
      ∃ t, exec (.repairEntryWrite a b k v) s = .next t ∧
        (∀ f : Fld, errorReg (f.off % 4096) = false → ∀ c, t.rd f c = s.rd f c)))

/-- R148 to R157: the background tester and the journal. -/
def Obligations.TesterAndJournal : Prop :=
  (∀ (b : Fin 64) (fails : Bool) (s : State), (s.bank b.val).tester.phase = 1 → (s.bank b.val).tester.pos < 63 →
    s.slotTaken b.val true = false →
    ∃ t, exec (.testerOperation b fails) s = .next t ∧
      (t.bank b.val).tester.pos = (s.bank b.val).tester.pos + 1 ∧
      SMap.get 0 (t.bank b.val).tester.held (s.bank b.val).tester.pos =
        (s.arrayWord b.val ((s.bank b.val).tester.region * 64 + (s.bank b.val).tester.pos)).1 ∧ t.dmem = s.dmem) ∧
  (∀ (b : Fin 64) (fails : Bool) (s : State), (s.bank b.val).tester.phase = 3 → (s.bank b.val).tester.pos < 63 →
    s.slotTaken b.val true = false →
    ∃ t, exec (.testerOperation b fails) s = .next t ∧
      (t.bank b.val).tester.pos = (s.bank b.val).tester.pos + 1 ∧
      t.arrayWord b.val ((s.bank b.val).tester.region * 64 + (s.bank b.val).tester.pos) =
        (SMap.get 0 (s.bank b.val).tester.held (s.bank b.val).tester.pos,
          SMap.get 0 (s.bank b.val).tester.heldEcc (s.bank b.val).tester.pos)) ∧
  (∀ (b : Fin 64) (v : W128) (e k : Nat) (rest : List (W128 × Nat × Nat)) (s : State),
    (s.bank b.val).jwrites = (v, e, k) :: rest →
    ∃ t, exec (.journalWrite b) s = .next t ∧ (t.bank b.val).jwrites = rest ∧
      SMap.get 0 (t.bank b.val).journal (s.rd R.DMB_JOURNAL_COUNT.ENTRIES b.val) = k ∧
      t.bankWord b.val (s.journalWord b.val (s.rd R.DMB_JOURNAL_COUNT.ENTRIES b.val)) = (v, e) ∧
      t.rd R.DMB_JOURNAL_COUNT.ENTRIES b.val = (s.rd R.DMB_JOURNAL_COUNT.ENTRIES b.val + 1) %
        2 ^ R.DMB_JOURNAL_COUNT.ENTRIES.width) ∧
  (∀ (b : Fin 64) (n : Nat) (s : State), s.on R.DMB_STATUS.JOURNAL_FULL b.val = false →
    (s.bank b.val).restoreAt = some (n + 1) →
    ∃ t, exec (.journalRestore b) s = .next t ∧
      t.bankWord b.val (SMap.get 0 (s.bank b.val).journal n) = s.bankWord b.val (s.journalWord b.val n) ∧
      (t.bank b.val).restoreAt = (if n = 0 then none else some n) ∧
      (n = 0 → t.rd R.DMB_JOURNAL_COUNT.ENTRIES b.val = 0))

/-- R235 to R239, R241: write-backs, scrubbing, refetch and remap of what the orchard stores. -/
def Obligations.StoresAreScrubbed : Prop :=
  (∀ (n : Fin 64) (b : Fin 16) (k : Nat) (s : State),
    s.isWritebacks.find? (fun k => k / 65536 == s.physBunch n.val * 17 + s.physBerry n.val b.val) = some k →
    s.ecc clsIstore k = 1 →
    ∃ t, exec (.isWriteback n b) s = .next t ∧ t.ecc clsIstore k = 0 ∧
      t.isWritebacks = s.isWritebacks.filter (fun x => x != k) ∧ t.istore = s.istore ∧ t.regs = s.regs) ∧
  (∀ (n : Fin 64) (b : Fin 16) (st : Fin 1024) (i : Fin 64) (u : List Upset) (p : Nat) (s : State),
    s.holderOf n.val = some p → s.on R.RES_CTRL.IS_SCRUB_EN 0 = true → 2 ≤ s.pstate p → st.val < s.depth p →
    s.writebackWaits n.val b.val = false → (s.upset u).ecc clsIstore (s.isAt n.val b.val st.val 0 + i.val) = 1 →
    ∃ t, exec (.isScrubRead n b st u) s = .next t ∧ t.ecc clsIstore (s.isAt n.val b.val st.val 0 + i.val) = 0 ∧
      t.istore = s.istore) ∧
  (∀ (n : Fin 64) (b : Fin 16) (st : Fin 1024) (i : Fin 64) (w : W128) (p : Nat) (s : State),
    s.rd R.HST_MBX_STATUS.FW_STATE 0 = 2 → s.holderOf n.val = some p →
    ∃ t, exec (.refetchComplete n b st i w (sealOf w) false) s = .next t ∧
      SMap.get idleWord t.istore (s.isAt n.val b.val st.val i.val) = w ∧
      t.ecc clsIstore (s.isAt n.val b.val st.val i.val) = 0) ∧
  (∀ (n : Fin 64) (b : Fin 16) (p : Nat) (s : State), s.holderOf n.val = some p → (s.part p).refetched = true →
    s.rd R.HST_MBX_STATUS.FW_STATE 0 ≠ 3 →
    s.spareReady n.val = true → (s.refetching p (s.part p).step = true ∨ (s.part p).rejoin = 1) →
    s.badRow n.val b.val (s.depth p) = none →
    ∃ t, exec (.berryRemapDone n b) s = .next t ∧ t.rd R.ORC_BERRY_REMAP.EN (s.physBunch n.val) = 1 ∧
      t.rd R.ORC_BERRY_REMAP.BERRY (s.physBunch n.val) = b.val ∧ (t.part p).refetched = false) ∧
  (∀ (n : Fin 64) (b : Fin 16) (r : Fin 1024) (u : List Upset) (p : Nat) (s : State), s.holderOf n.val = some p →
    s.on R.RES_CTRL.SS_SCRUB_EN 0 = true → r.val < s.depth p →
    (s.pstate p = 2 ∨ s.pstate p = 3 ∨ s.pstate p = 5 ∨ s.pstate p = 8) →
    ∃ t, exec (.ssScrubRead n b r u) s = .next t ∧ t.rows = s.rows ∧
      ((s.upset u).ecc clsRow (s.rowAt n.val b.val r.val) = 1 → t.ecc clsRow (s.rowAt n.val b.val r.val) = 0 ∧
        t.rd R.RES_SS_CE_COUNT.COUNT 0 =
          satAdd R.RES_SS_CE_COUNT.COUNT.width (s.rd R.RES_SS_CE_COUNT.COUNT 0) 1 % 2 ^ R.RES_SS_CE_COUNT.COUNT.width) ∧
      (2 ≤ (s.upset u).ecc clsRow (s.rowAt n.val b.val r.val) → 2 ≤ (s.part p).rejoin →
        t.rd (R.RES_GROUP.MSTATE p) 0 = 1 ∧ (t.part p).rejoin = 0) ∧
      (2 ≤ (s.upset u).ecc clsRow (s.rowAt n.val b.val r.val) → (s.part p).rejoin < 2 →
        (t.part p).pendErr = some ⟨2, n.val, b.val, r.val, 0, globalPip n.val b.val 0⟩))

/-- R249, R254, R255, R258, R259, R261: members rejoin, a restore starts the replay, and a supply dip is ridden
through. -/
def Obligations.RejoinRestoreAndDips : Prop :=
  ((∀ (a : Accessor) (p : Fin 64) (s : State), s.accessCode a .res 0 0x40 true = 0 →
      s.on R.RES_STATUS.CMD_BUSY 0 = false → s.mayJoin p.val = true →
      ∃ t, exec (.join a p) s = .next t ∧ t.rd (R.RES_GROUP.MSTATE p.val) 0 = 2 ∧ t.rd R.RES_STATUS.CMD_BUSY 0 = 1 ∧
        (t.part p.val).rejoin = 1 ∧ t.outbox = s.outbox ++ [.regResp a 0 0]) ∧
    (∀ (p : Fin 64) (s : State), s.rd (R.RES_GROUP.MSTATE p.val) 0 = 2 → (s.part p.val).rejoin = 1 →
      s.repaired p.val = true →
      ∃ t, exec (.rejoinPhaseEnd p) s = .next t ∧ (t.part p.val).rejoin = 2 ∧ t.regs = s.regs) ∧
    (∀ (p : Fin 64) (s : State), s.rd (R.RES_GROUP.MSTATE p.val) 0 = 2 → (s.part p.val).rejoin = 2 →
      s.activeMembers (s.leadOf p.val) ≠ [] →
      ∃ t, exec (.rejoinPhaseEnd p) s = .next t ∧
        ((t.part p.val).rejoin = 3 ∨ ((t.part p.val).rejoin = 0 ∧ t.rd (R.RES_GROUP.MSTATE p.val) 0 = 1)) ∧
        ((∀ n ∈ s.bunches (s.actingOf (s.leadOf p.val)), ∀ w, w < bankWords → (s.bankWord n w).2 ≤ 1) →
          (t.part p.val).rejoin = 3)) ∧
    (∀ (p : Fin 64) (r : Replay) (s : State), (s.part p.val).replay = some r → r.restoring = true →
      s.banksRestored p.val = true → s.on (R.RES_SNAP.CAPTURING p.val) 0 = false →
      s.shadowBad p.val (s.depth p.val) = false →
      ∃ t, exec (.restoreDone p) s = .next t ∧
        t.rd64 R.PRT_CYCLE_LO.COUNT R.PRT_CYCLE_HI.COUNT p.val = r.cs % 2 ^ 64 ∧
        (t.part p.val).step = 0 ∧ (t.part p.val).inCycle = true)) ∧
  ((∀ (a : Accessor) (s : State), s.accessCode a .res 0 0x40 true = 0 → s.on R.RES_STATUS.CMD_BUSY 0 = false →
      ∃ t, exec (.check a) s = .next t ∧ t.rd R.RES_STATUS.DIP_STATE 0 = 2 ∧ t.rd R.RES_STATUS.CMD_BUSY 0 = 1 ∧
        t.outbox = s.outbox ++ [.regResp a 0 0]) ∧
    (∀ (tick : BitVec 64) (s : State), s.dipLow = false →
      ∃ t, exec (.vddCoreWarning tick) s = .next t ∧ t.rd R.RES_STATUS.DIP_STATE 0 = 1 ∧ t.dipLow = true ∧
        t.dipFrom = s.tb ∧
        (∀ p, p < 64 → s.isFollower p = false → (s.pstate p = 3 ∨ s.pstate p = 4) → t.pstate p = 6)) ∧
    (∀ (us : Fin 65536) (s : State), s.dipLow = true →
      ∃ t, exec (.vddCoreRecovery us) s = .next t ∧ t.dipLow = false ∧ t.rd R.RES_DIP_US.US 0 = us.val ∧
        (s.rd R.RES_STATUS.DIP_STATE 0 = 1 → t.rd R.RES_STATUS.DIP_STATE 0 = 2)) ∧
    (∀ (s : State), s.dipLow = true → s.rd R.RES_STATUS.DIP_STATE 0 = 1 →
      ∃ t, exec .dipWindowExpiry s = .next t ∧ t.rd R.RES_STATUS.DIP_STATE 0 = 3 ∧ t.rows = s.rows ∧ t.parts = s.parts) ∧
    (∀ (u : List Upset) (s : State), s.rd R.RES_STATUS.DIP_STATE 0 = 2 →
      ∃ t, exec (.retentionCheckDone u) s = .next t ∧
        ((s.upset u).retentionGood = true → t.rd R.RES_STATUS.RETENTION 0 = 1) ∧
        ((s.upset u).retentionGood = false → t.rd R.RES_STATUS.RETENTION 0 = 2 ∧ t.rd R.RES_STATUS.DIP_STATE 0 = 3 ∧
          t.rd (intBit .res 6) 0 = 1)))

/-- R262 to R266, R270: the logbook's controller. -/
def Obligations.LogbookKeepsEvents : Prop :=
  (∀ (e : LogEvent) (rest : List LogEvent) (s : State), s.on R.LOG_STATUS.SCAN_DONE 0 = true → s.log.queue = e :: rest →
    (SMap.get {} s.log.keys (eventKey e)).seen = false →
    (s.log.second = s.now / 65536 / 1000000000 → s.log.inSecond < 16384) →
    (s.logValid s.logNext = false ∨ s.logClass s.logNext ≠ 3) → eventClassOf e < 3 →
    ∃ t, exec .logbookWrite s = .next t ∧ t.log.queue = rest ∧
      t.logSeq s.logNext = (s.rd R.LOG_SEQ.SEQ 0 + 1) % 2 ^ 32 ∧ t.logValid s.logNext = true ∧
      t.rd R.LOG_HEAD.INDEX 0 = s.logNext % 65536 ∧
      t.rd R.LOG_SEQ.SEQ 0 = (s.rd R.LOG_SEQ.SEQ 0 + 1) % 2 ^ 32) ∧
  (∀ (s : State), s.on R.LOG_STATUS.SCAN_DONE 0 = false → 2 ≤ s.rd R.PWR_STATUS.DEV_STATE 0 →
    ∃ t, exec .logbookScanDone s = .next t ∧ t.rd R.LOG_STATUS.SCAN_DONE 0 = 1 ∧
      (∀ i ∈ s.validEntries, s.logSeq i ≤ t.rd R.LOG_SEQ.SEQ 0) ∧
      t.rd R.LOG_PERM.COUNT 0 = (s.validEntries.filter (fun i => s.logClass i == 3)).length % 2 ^ 13 ∧
      t.logbook = s.logbook) ∧
  (∀ (a : Accessor) (v : W32) (s : State), s.accessCode a .log 0 0x70 true = 0 →
    (s.on R.LOG_STATUS.SCAN_DONE 0 = true ∨ s.log.queue.length < 256) →
    ∃ t, exec (.logUserCmd a v) s = .next t ∧
      t.log.queue = s.log.queue ++ [⟨0xFF, 0, 0, v.toNat % 4096,
        (s.rd128 R.LOG_USER.DATA0 R.LOG_USER.DATA1 R.LOG_USER.DATA2 R.LOG_USER.DATA3 0).toNat, 0⟩] ∧
      t.outbox = s.outbox ++ [.regResp a 0 0])

/-- R199 to R205: a port's bring-up, its failures, and retraining. -/
def Obligations.PortsComeUp : Prop :=
  (∀ (a : Accessor) (n : Fin 4) (s : State), s.accessCode a .cas 0 (0x80 + 0x20 * n.val) true = 0 →
    s.on (R.CAS_P_CTRL.EN n.val) 0 = false →
    ∃ t, exec (.portEnable a n) s = .next t ∧ t.rd (R.CAS_P_CTRL.EN n.val) 0 = 1 ∧ t.portState n.val = 1 ∧
      t.rd (R.CAS_P_CREDITS.HELD n.val) 0 = 48 ∧ t.port n.val = {} ∧
      t.outbox = s.outbox ++ [.pattern n.val 1, .regResp a 0 0]) ∧
  (∀ (a : Accessor) (n : Fin 4) (s : State), s.accessCode a .cas 0 (0x80 + 0x20 * n.val) true = 0 →
    ∃ t, exec (.portDisable a n) s = .next t ∧ t.rd (R.CAS_P_CTRL.EN n.val) 0 = 0 ∧ t.portState n.val = 0 ∧
      t.port n.val = {}) ∧
  (∀ (n : Fin 4) (x : BitVec 8) (raw ord : Fin 1024) (s : State), 1 ≤ s.portState n.val → s.portState n.val ≤ 3 →
    ∃ t, exec (.bringupStageDone n x raw ord) s = .next t ∧ t.portState n.val = s.portState n.val + 1 ∧
      (s.portState n.val = 1 → ∀ l, l < 8 → t.rd R.LNE_STATUS.SIGNAL (lane n.val l) = 1) ∧
      (s.portState n.val = 2 → ∀ l, l < 8 → t.rd R.LNE_STATUS.CDR_LOCK (lane n.val l) = 1)) ∧
  (∀ (n : Fin 4) (x : BitVec 8) (raw ord : Fin 1024) (s : State), s.portState n.val = 4 →
    ∃ t, exec (.bringupStageDone n x raw ord) s = .next t ∧
      t.portState n.val = (if (s.port n.val).exit = 1 then 6 else 5) ∧
      ∀ l, l < 8 → t.rd R.LNE_STATUS.BLOCK_LOCK (lane n.val l) = 1) ∧
  (∀ (n : Fin 4) (x : BitVec 8) (raw ord : Fin 1024) (rev : Bool) (s : State), s.portState n.val = 5 →
    s.laneOrder n.val = some rev → s.on (R.CAS_P_STATUS.PEER_MASTER n.val) 0 = false →
    s.on (R.CAS_P_CTRL.EXPECT_EN n.val) 0 = false → ((s.port n.val).exit = 0 ∨ s.otherPeer n.val = false) →
    ∃ t, exec (.bringupStageDone n x raw ord) s = .next t ∧ t.portState n.val = 6 ∧
      t.rd (R.CAS_P_STATUS.REVERSED n.val) 0 = b2n rev) ∧
  (∀ (n : Fin 4) (x : BitVec 8) (raw ord : Fin 1024) (s : State), s.portState n.val = 6 → (s.port n.val).exit ≠ 1 →
    ∃ t, exec (.bringupStageDone n x raw ord) s = .next t ∧
      ((∀ l, l < 8 → s.rd R.LNE_STATUS.SKEW (lane n.val l) ≤ 24) → t.portState n.val = 7) ∧
      ((∃ l, l < 8 ∧ 24 < s.rd R.LNE_STATUS.SKEW (lane n.val l)) →
        t.portState n.val = 9 ∧ t.rd (R.CAS_P_STATUS.FAIL n.val) 0 = 6)) ∧
  (∀ (n : Fin 4) (x : BitVec 8) (raw ord : Fin 1024) (s : State), s.portState n.val = 7 → (s.port n.val).exit ≠ 2 →
    ∃ t, exec (.bringupStageDone n x raw ord) s = .next t ∧
      (halfTrip false raw.val + 31 ≤ 96 → t.portState n.val = 8 ∧ t.rd (R.CAS_P_STATUS.LS n.val) 0 = 0 ∧
        t.rd (R.CAS_P_LATENCY.TOTAL n.val) 0 = halfTrip false raw.val + 31) ∧
      (96 < halfTrip false raw.val + 31 → t.portState n.val = 9 ∧ t.rd (R.CAS_P_STATUS.FAIL n.val) 0 = 7)) ∧
  (∀ (n : Fin 4) (s : State), 1 ≤ s.portState n.val → s.portState n.val ≤ 7 →
    ∃ t, exec (.bringupTimeout n) s = .next t ∧ t.portState n.val = 9 ∧
      t.rd (R.CAS_P_STATUS.FAIL n.val) 0 = s.portState n.val ∧ t.rd (intBit .cas 2) 0 = 1) ∧
  (∀ (n : Fin 4) (l heard : Fin 8) (id : Fin 64) (master : Bool) (s : State),
    s.portState n.val = 4 ∨ s.portState n.val = 5 ∨ s.portState n.val = 10 →
    ∃ t, exec (.train n l heard id master) s = .next t ∧
      t.rd R.LNE_STATUS.RX_LANE (lane n.val l.val) = heard.val ∧ t.rd (R.CAS_P_STATUS.PEER_ID n.val) 0 = id.val ∧
      t.rd (R.CAS_P_STATUS.PEER_MASTER n.val) 0 = b2n master) ∧
  (∀ (n : Fin 4) (l : Fin 8) (delay : Fin 256) (s : State), s.portState n.val = 6 ∨ s.portState n.val = 10 →
    ∃ t, exec (.laneMark n l delay) s = .next t ∧ t.rd R.LNE_STATUS.SKEW (lane n.val l.val) = min delay.val 31) ∧
  (∀ (n : Fin 4) (l : Fin 8) (h : BitVec 2) (s : State), s.on R.LNE_STATUS.BLOCK_LOCK (lane n.val l.val) = true →
    ∃ t, exec (.blockLockLoss n ⟨l, [h]⟩) s = .next t ∧
      ((h = 1 ∨ h = 2) → t.rd R.LNE_HDR_ERR.COUNT (lane n.val l.val) = s.rd R.LNE_HDR_ERR.COUNT (lane n.val l.val)) ∧
      ((h = 0 ∨ h = 3) → t.rd R.LNE_HDR_ERR.COUNT (lane n.val l.val) =
        satAdd 32 (s.rd R.LNE_HDR_ERR.COUNT (lane n.val l.val)) 1) ∧
      ((h = 0 ∨ h = 3) → 15 ≤ ((s.sync (lane n.val l.val)).recent.filter id).length →
        t.rd R.LNE_STATUS.BLOCK_LOCK (lane n.val l.val) = 0 ∧
        (s.portState n.val = 8 → s.portLs n.val = 0 → t.portState n.val = 10 ∧ t.rd (intBit .cas 3) 0 = 1)) ∧
      (((s.sync (lane n.val l.val)).recent.filter id).length < 15 →
        t.on R.LNE_STATUS.BLOCK_LOCK (lane n.val l.val) = true ∧ t.portState n.val = s.portState n.val)) ∧
  (∀ (n : Fin 4) (l : Fin 8) (h : BitVec 2) (s : State), s.on R.LNE_STATUS.BLOCK_LOCK (lane n.val l.val) = false →
    ∃ t, exec (.blockLockLoss n ⟨l, [h]⟩) s = .next t ∧ t.portState n.val = s.portState n.val ∧
      ((h = 1 ∨ h = 2) → (s.sync (lane n.val l.val)).run = 63 → t.on R.LNE_STATUS.BLOCK_LOCK (lane n.val l.val) = true) ∧
      ((h = 0 ∨ h = 3) → (t.sync (lane n.val l.val)).run = 0 ∧
        (t.sync (lane n.val l.val)).offset = ((s.sync (lane n.val l.val)).offset + 1) % 66 ∧
        t.on R.LNE_STATUS.BLOCK_LOCK (lane n.val l.val) = false)) ∧
  (∀ (n : Fin 4) (l : Fin 8) (s : State), exec (.blockLockLoss n ⟨l, []⟩) s = .next s) ∧
  (∀ (n : Fin 4) (raw ord : Fin 1024) (s : State), s.portState n.val = 10 →
    (s.laneOrder n.val).isSome = true → s.skewed n.val = false → s.otherPeer n.val = false →
    halfTrip false raw.val + 31 ≤ 96 →
    ∃ t, exec (.retrainDone n raw ord) s = .next t ∧ t.portState n.val = 8 ∧ (t.port n.val).discarding = true ∧
      t.outbox = s.outbox ++ [.ordered n.val 0x11 ((s.port n.val).expect % 65536) 0 0]) ∧
  (∀ (n : Fin 4) (raw ord : Fin 1024) (s : State), s.portState n.val = 10 →
    (s.laneOrder n.val = none ∨ s.skewed n.val = true ∨ s.otherPeer n.val = true ∨ 96 < halfTrip false raw.val + 31) →
    ∃ t, exec (.retrainDone n raw ord) s = .next t ∧ t.portState n.val = 9 ∧ t.rd (R.CAS_P_STATUS.FAIL n.val) 0 = 10) ∧
  (∀ (n : Fin 4) (s : State), s.portState n.val = 10 →
    ∃ t, exec (.retrainTimeout n) s = .next t ∧ t.portState n.val = 9 ∧ t.rd (R.CAS_P_STATUS.FAIL n.val) 0 = 10)

/-- R206, R207: the lane power states. -/
def Obligations.LanePowerMoves : Prop :=
  (∀ (a : Accessor) (n : Fin 4) (q : Fin 4) (s : State), s.accessCode a .cas 0 (0x80 + 0x20 * n.val) true = 0 →
    (q.val = 1 ∨ q.val = 2) → s.portState n.val = 8 → s.portLs n.val = 0 → s.unitState = 0 →
    ∃ t, exec (.lanePowerRequest a n q) s = .next t ∧ t.rd (R.CAS_P_CTRL.LS_REQ n.val) 0 = q.val ∧
      t.outbox = s.outbox ++ [.ordered n.val (lsCode q.val) 0 0 0, .regResp a 0 0]) ∧
  (∀ (a : Accessor) (n : Fin 4) (s : State), s.accessCode a .cas 0 (0x80 + 0x20 * n.val) true = 0 →
    s.portState n.val = 8 → s.portLs n.val = 1 →
    ∃ t, exec (.lanePowerRequest a n 0) s = .next t ∧ t.portState n.val = 4 ∧ t.rd (R.CAS_P_STATUS.LS n.val) 0 = 0 ∧
      t.outbox = s.outbox ++ [.wake n.val] ++ (List.range 8).map (fun l => Output.ordered n.val 0x02 l
        (s.rd R.CAS_STATUS.ID 0) (s.rd R.CAS_STATUS.MASTER 0)) ++ [.regResp a 0 0]) ∧
  (∀ (n : Fin 4) (s : State), s.portState n.val = 8 → s.portLs n.val = 0 →
    ∃ t, exec (.quiet n) s = .next t ∧ t.portLs n.val = 1 ∧
      t.outbox = s.outbox ++ (if s.rd (R.CAS_P_CTRL.LS_REQ n.val) 0 = 1 then [] else [.ordered n.val 0x30 0 0 0])) ∧
  (∀ (n : Fin 4) (s : State), s.portState n.val = 8 → s.portLs n.val = 0 →
    ∃ t, exec (.cold n) s = .next t ∧ t.portLs n.val = 2 ∧
      (∀ l, l < 8 → t.rd R.LNE_STATUS.CDR_LOCK (lane n.val l) = 0) ∧
      t.outbox = s.outbox ++ (if s.rd (R.CAS_P_CTRL.LS_REQ n.val) 0 = 2 then [] else [.ordered n.val 0x31 0 0 0])) ∧
  (∀ (n : Fin 4) (s : State), s.portState n.val = 8 → (s.portLs n.val = 1 ∨ s.portLs n.val = 2) →
    ∃ t, exec (.wakeBurst n) s = .next t ∧ t.portLs n.val = 0 ∧ t.rd (R.CAS_P_CTRL.LS_REQ n.val) 0 = 0 ∧
      t.portState n.val = (if s.portLs n.val = 1 then 4 else 2) ∧ (t.port n.val).exit = s.portLs n.val)

/-- R210, R212, R215, R218 to R221: frames, credits, acknowledgement and replay, and the window onto the net map. -/
def Obligations.FramesAndNetMap : Prop :=
  ((∀ (n : Fin 4) (f : Frame) (rest : List Frame) (s : State), s.carries n.val = true → (s.port n.val).ready = f :: rest →
      s.rd (R.CAS_P_CREDITS.HELD n.val) 0 ≠ 0 → (s.port n.val).replayBuf.length < 32 →
      ∃ t, exec (.cascadeFrameSend n) s = .next t ∧ (t.port n.val).ready = rest ∧
        (t.port n.val).replayBuf = (s.port n.val).replayBuf ++ [f] ∧
        t.rd (R.CAS_P_CREDITS.HELD n.val) 0 = (s.rd (R.CAS_P_CREDITS.HELD n.val) 0 - 1) %
          2 ^ (R.CAS_P_CREDITS.HELD n.val).width ∧
        t.outbox = s.outbox ++ [.frame n.val (f.g % 65536) ⟨f.pay, f.tags, BitVec.ofNat 32 (frameCrc f.g f.pay f.tags)⟩]) ∧
    (∀ (n : Fin 4) (f : FrameIn) (s : State), s.carries n.val = true → (s.port n.val).discarding = false →
      f.crc.toNat = frameCrc (s.port n.val).expect f.pay f.tags →
      ∃ t, exec (.cascadeFrameReceive n f) s = .next t ∧ (t.port n.val).expect = (s.port n.val).expect + 1 ∧
        (t.port n.val).rx = (s.port n.val).rx ++ [⟨(s.port n.val).expect, f.pay, f.tags⟩] ∧
        t.outbox = s.outbox ++ (if (s.port n.val).expect % 2 = 1 then
          [.ordered n.val 0x10 ((s.port n.val).expect % 65536) (s.port n.val).toReturn 0] else [])) ∧
    (∀ (n : Fin 4) (f : FrameIn) (s : State), (s.portState n.val = 7 ∨ s.portState n.val = 10) →
      f.crc.toNat = frameCrc 0 f.pay f.tags →
      exec (.cascadeFrameReceive n f) s = .next (s.emit (.testFrame n.val true))) ∧
    (∀ (n : Fin 4) (f : FrameIn) (s : State), s.carries n.val = true → (s.port n.val).discarding = false →
      f.crc.toNat ≠ frameCrc (s.port n.val).expect f.pay f.tags →
      ∃ t, exec (.cascadeFrameReceive n f) s = .next t ∧ (t.port n.val).discarding = true ∧
        (t.port n.val).rx = (s.port n.val).rx ∧
        t.outbox = s.outbox ++ [.ordered n.val 0x11 ((s.port n.val).expect % 65536) 0 0]) ∧
    (∀ (n : Fin 4) (ack : BitVec 16) (credits : BitVec 8) (s : State),
      ∃ t, exec (.linkStatus n ack credits) s = .next t ∧
        (t.port n.val).replayBuf = ackFrames ack.toNat (s.port n.val).replayBuf ∧
        t.rd (R.CAS_P_CREDITS.HELD n.val) 0 = min (s.rd (R.CAS_P_CREDITS.HELD n.val) 0 + credits.toNat)
          (2 ^ (R.CAS_P_CREDITS.HELD n.val).width - 1)) ∧
    (∀ (n : Fin 4) (sq : BitVec 16) (s : State), s.carries n.val = true → (s.port n.val).nakRun = 0 →
      (s.port n.val).replayBuf = [] →
      ∃ t, exec (.nak n sq) s = .next t ∧ (t.port n.val).nakSeq = sq.toNat ∧ (t.port n.val).nakRun = 1 ∧
        t.outbox = s.outbox ++ [.ordered n.val 0x12 sq.toNat 0 0]) ∧
    (∀ (n : Fin 4) (sq : BitVec 16) (s : State), s.carries n.val = true →
      ∃ t, exec (.replay n sq) s = .next t ∧ (t.port n.val).discarding = false ∧ t.regs = s.regs)) ∧
  ((∀ (a : Accessor) (v : W32) (s : State), s.accessCode a .cas 0 0x64 true = 0 →
      s.netRefused (s.rd R.CAS_NETMAP_INDEX.INDEX 0) (v.toNat % 2 ^ 20) = false →
      ∃ t, exec (.netmapDataWrite a v) s = .next t ∧
        SMap.get 0 t.netmap (s.rd R.CAS_NETMAP_INDEX.INDEX 0) = BitVec.ofNat 32 (v.toNat % 2 ^ 20) ∧
        (∀ k, k ≠ s.rd R.CAS_NETMAP_INDEX.INDEX 0 → SMap.get 0 t.netmap k = SMap.get 0 s.netmap k) ∧
        t.rd R.CAS_NETMAP_INDEX.INDEX 0 = (if s.on R.CAS_NETMAP_INDEX.AUTOINC 0 = true
          then (s.rd R.CAS_NETMAP_INDEX.INDEX 0 + 1) % 65536 else s.rd R.CAS_NETMAP_INDEX.INDEX 0)) ∧
    (∀ (a : Accessor) (s : State), s.accessCode a .cas 0 0x64 false = 0 →
      ∃ t, exec (.netmapDataRead a) s = .next t ∧ t.netmap = s.netmap ∧
        t.outbox = s.outbox ++ [.regResp a 0 (SMap.get 0 s.netmap (s.rd R.CAS_NETMAP_INDEX.INDEX 0))]))

/-- R221: the eighth consecutive NAK of one sequence begins the retraining of R205: the port is in RETRAIN (10) and
its run of NAKs starts afresh. -/
def Obligations.EighthNakRetrains : Prop :=
  ∀ (n : Fin 4) (sq : BitVec 16) (s : State), s.carries n.val = true → (s.port n.val).nakRun = 7 →
    (s.port n.val).nakSeq = sq.toNat →
    ∃ t, exec (.nak n sq) s = .next t ∧ t.portState n.val = 10 ∧ (t.port n.val).nakRun = 0

/-- R194, R195, R227: an order goes on down the tree and waits for its landing tick, or is late; an order that lands
is taken from the waiting orders and acts (R196, R223, R229, R472, R493, R494). -/
def Obligations.OrdersLand : Prop :=
  (∀ (k : OrderKind) (cd : BitVec 16) (arg : BitVec 24) (s : State), s.on R.CAS_TREE.UP_VALID 0 = true →
    ∃ t, exec (.orderArrival k cd arg) s = .next t ∧
      (s.rd (R.CAS_P_LATENCY.ORDER (s.rd R.CAS_TREE.UP_PORT 0)) 0 ≤ cd.toNat →
        t.cas.orders = s.cas.orders ++
          [⟨k, cd.toNat - s.rd (R.CAS_P_LATENCY.ORDER (s.rd R.CAS_TREE.UP_PORT 0)) 0, arg.toNat⟩] ∧
        t.cas.lateHold = s.cas.lateHold ∧
        t.outbox = s.outbox ++ (onesOf 4 (s.rd R.CAS_TREE.DOWN 0)).map (fun n => Output.ordered n 0x20 (orderNo k)
          (cd.toNat - s.rd (R.CAS_P_LATENCY.ORDER (s.rd R.CAS_TREE.UP_PORT 0)) 0) arg.toNat)) ∧
      (cd.toNat < s.rd (R.CAS_P_LATENCY.ORDER (s.rd R.CAS_TREE.UP_PORT 0)) 0 →
        t.cas.orders = s.cas.orders ∧ t.cas.lateHold = true ∧ t.rd (intBit .cas 1) 0 = 1)) ∧
  (∀ (b : Inbound) (o : Order) (s : State), s.cas.orders.find? (fun o => o.kind == .start) = some o →
    ∃ t, exec (.startOrder b) s = .next t ∧ t.cas.started = true ∧ t.cas.waiting = false ∧ t.cas.held = false ∧
      t.cas.nextRel = s.rd R.CAS_REL_PERIOD.TICKS 0 ∧ t.cas.mode = o.arg ∧ t.cas.orders = dropOrder .start s.cas.orders ∧
      t.rd R.CAS_TICK_LO.COUNT 0 = 0 ∧ t.rd R.CAS_TICK_HI.COUNT 0 = 0 ∧ t.rd R.CAS_STEP_LO.COUNT 0 = 0 ∧
      t.rd R.CAS_STEP_HI.COUNT 0 = 0 ∧ t.rd (intBit .cas 6) 0 = 1) ∧
  (∀ (b : Inbound) (o : Order) (s : State), s.cas.orders.find? (fun o => o.kind == .release) = some o →
    ∃ t, exec (.releaseOrder b) s = .next t ∧ t.cas.orders = dropOrder .release s.cas.orders ∧
      ∀ p ∈ s.unitParts, s.cas.started = true → s.isFollower p = false → (s.part p).single = false →
        s.pstate p = 3 → s.on R.PRT_STATUS.WAIT_LOCK p = false → t.pstate p = 4 ∧ (t.part p).inCycle = true ∧
          (t.part p).step = 0) ∧
  (∀ (o : Order) (s : State), s.cas.orders.find? (fun o => o.kind == .resume) = some o → s.cas.held = true →
    ∃ t, exec .resumeOrder s = .next t ∧ t.cas.held = false ∧ t.cas.orders = dropOrder .resume s.cas.orders ∧
      t.rd (intBit .cas 5) 0 = 1) ∧
  (∀ (o : Order) (s : State), s.cas.orders.find? (fun o => o.kind == .stop) = some o →
    ∃ t, exec .stopOrder s = .next t ∧
      t.cas.stopCause = o.arg ∧
      (s.cas.started = false → s.cas.lateHold = false → t.cas.orders = dropOrder .stop s.cas.orders) ∧
      ∀ p, p < 64 → s.unitParts = [p] → (((s.part p).inCycle = true → (t.part p).stopLanded = true ∧
          t.pstate p = s.pstate p) ∧
        ((s.part p).inCycle = false → (s.pstate p = 3 ∨ s.pstate p = 4) → t.pstate p = 5 ∧
          t.rd R.PRT_STATUS.STOP_CAUSE p = max o.arg 1 % 8))) ∧
  (∀ (o : Order) (s : State), s.cas.orders.find? (fun o => o.kind == .halt) = some o → s.rd R.DBG_STATUS.EMU 0 = 0 →
    ∃ t, exec .haltOrder s = .next t ∧ t.haltAt = s.now ∧ t.haltDecided = false ∧
      t.cas.orders = dropOrder .halt s.cas.orders ∧
      ∀ p, p < 64 → (s.pstate p = 3 ∨ s.pstate p = 4) → t.pstate p = 8 ∧ (t.part p).haltedFrom = s.pstate p) ∧
  (∀ (o : Order) (s : State), s.cas.orders.find? (fun o => o.kind == .unhalt) = some o → s.emuStopped = true →
    ∃ t, exec .unhaltOrder s = .next t ∧ t.rd R.DBG_STATUS.EMU 0 = 0 ∧ t.releasing = false ∧ t.haltEdges = [] ∧
      t.cas.orders = dropOrder .unhalt s.cas.orders ∧ t.rd (intBit .dbg 1) 0 = 1) ∧
  (∀ (o : Order) (s : State), s.cas.orders.find? (fun o => o.kind == .stepfreq) = some o →
    s.on R.PWR_CLOCKS.STEP_PLL 0 = true →
    ∃ t, exec .stepfreqOrder s = .next t ∧ t.rd R.PWR_STEP.CUR_MHZ 0 = o.arg % 4096 ∧ t.freqTarget = none ∧
      t.cas.orders = dropOrder .stepfreq s.cas.orders)

/-- R195, R198, R217, R222, R223, R228 to R231, R472, R494: reports act at the master or go on toward it; the slots,
the hold, the start, the period, and a fall of DONE. -/
def Obligations.ReportsHoldsAndPeriods : Prop :=
  ((∀ (i : Fin 64) (arg : W32) (s : State), s.isMaster = true →
      ∃ t, exec (.tagFaultReport i arg) s = .next t ∧ t.cas.noRelease = true ∧ t.regs = s.regs ∧ t.outbox = s.outbox) ∧
    (∀ (i : Fin 64) (arg : W32) (s : State), s.isMaster = true → s.cas.stopOrdered = false →
      ∃ t, exec (.stopReqReport i arg) s = .next t ∧ t.cas.stopOrdered = true ∧ t.cas.stopCause = arg.toNat ∧
        t.cas.orders = s.cas.orders ++ [⟨.stop, s.stopCountdown, arg.toNat⟩]) ∧
    (∀ (i : Fin 64) (arg : W32) (s : State), s.isMaster = true → s.rd R.DBG_STATUS.EMU 0 = 0 →
      s.cas.orders.any (fun o => o.kind == .halt) = false →
      ∃ t, exec (.haltReqReport i arg) s = .next t ∧
        t.cas.orders = s.cas.orders ++ [⟨.halt, s.rd R.CAS_LEAD.TICKS 0, 0⟩] ∧ t.regs = s.regs) ∧
    (∀ (i : Fin 64) (arg : W32) (s : State), s.isMaster = true →
      ∃ t, exec (.throttleReqReport i arg) s = .next t ∧
        t.throttles = (if arg.toNat = 0 then SMap.del s.throttles i.val else SMap.put s.throttles i.val arg.toNat) ∧
        t.cas.orders = s.cas.orders ++ [⟨.stepfreq, s.rd R.CAS_LEAD.TICKS 0, t.orderedMHz⟩] ∧ t.regs = s.regs) ∧
    (∀ (i : Fin 64) (arg : W32) (s : State), s.isMaster = true →
      ∃ t, exec (.faultReport i arg) s = .next t ∧ t.cas.failed = true) ∧
    (∀ (i : Fin 64) (arg : W32) (s : State), s.isMaster = false → s.on R.CAS_TREE.UP_VALID 0 = true →
      exec (.tagFaultReport i arg) s = .next (s.emit (.ordered (s.rd R.CAS_TREE.UP_PORT 0) 0x21 0 i.val arg.toNat)) ∧
      exec (.stopReqReport i arg) s = .next (s.emit (.ordered (s.rd R.CAS_TREE.UP_PORT 0) 0x21 1 i.val arg.toNat)) ∧
      exec (.haltReqReport i arg) s = .next (s.emit (.ordered (s.rd R.CAS_TREE.UP_PORT 0) 0x21 2 i.val arg.toNat)) ∧
      exec (.throttleReqReport i arg) s = .next (s.emit (.ordered (s.rd R.CAS_TREE.UP_PORT 0) 0x21 3 i.val arg.toNat)) ∧
      exec (.faultReport i arg) s = .next (s.emit (.ordered (s.rd R.CAS_TREE.UP_PORT 0) 0x21 4 i.val arg.toNat))) ∧
    (∀ (a : Accessor) (s : State), s.accessCode a .cas 0 0x4C true = 0 → s.isMaster = true → s.cas.stopOrdered = false →
      ∃ t, exec (.casStop a) s = .next t ∧ t.cas.stopOrdered = true ∧ t.cas.stopCause = 1 ∧
        ∀ p ∈ s.unitParts, (s.pstate p = 3 ∨ s.pstate p = 4) → t.rd R.PRT_STATUS.STOP_REQ p = 1)) ∧
  ((∀ (tick : BitVec 64) (low done : Bool) (s : State), s.cas.started = true → tick.toNat % 8 ≠ 0 →
      exec (.holdSlotCheck tick low done) s = .next s) ∧
    (∀ (tick : BitVec 64) (low done : Bool) (s : State), s.cas.started = true → s.cas.held = false → tick.toNat % 8 = 0 →
      (low = true ∨ s.drivesLow = true) →
      ∃ t, exec (.holdSlotCheck tick low done) s = .next t ∧ t.rd R.CAS_STATUS.HOLD_IN 0 = 1 ∧
        t.rd R.CAS_STATUS.DONE_IN 0 = b2n done ∧
        (s.cas.holdAt = none → t.cas.holdAt = some (tick.toNat + 16)) ∧
        (s.cas.holdAt ≠ none → t.cas.holdAt = s.cas.holdAt)) ∧
    (∀ (tick : BitVec 64) (low done : Bool) (s : State), s.cas.started = false → s.isMaster = true →
      s.cas.waiting = true →
      ∃ t, exec (.holdSlotCheck tick low done) s = .next t ∧
        t.cas.highRun = (if low = false ∧ s.holdReasons = false ∧ (s.cas.released = true ∨ s.mayRelease = true) ∧
          done = true then s.cas.highRun + 1 else 0)) ∧
    (∀ (tick : BitVec 64) (h : Nat) (s : State), s.cas.holdAt = some h → h ≤ tick.toNat → s.cas.started = true →
      ∃ t, exec (.holdBegin tick) s = .next t ∧ t.cas.held = true ∧ t.cas.holdAt = none ∧
        t.rd R.CAS_HOLD_COUNT.COUNT 0 = satAdd 32 (s.rd R.CAS_HOLD_COUNT.COUNT 0) 1 ∧ t.rd (intBit .cas 4) 0 = 1) ∧
    (∀ (s : State), s.isMaster = true → s.cas.waiting = true → 8 ≤ s.cas.highRun →
      s.cas.orders.any (fun o => o.kind == .start) = false → s.startAllowed = true →
      ∃ t, exec .startIssue s = .next t ∧ t.cas.orders = s.cas.orders ++ [⟨.start, s.rd R.CAS_LEAD.TICKS 0, s.rd R.CAS_CTRL.REL_MODE 0⟩] ∧
        t.outbox = s.outbox ++ (onesOf 4 (s.rd R.CAS_TREE.DOWN 0)).map (fun n =>
          Output.ordered n 0x20 0 (s.rd R.CAS_LEAD.TICKS 0) (s.rd R.CAS_CTRL.REL_MODE 0)) ∧ t.regs = s.regs) ∧
    (∀ (tick : BitVec 64) (b : Inbound) (s : State), s.cas.started = true → s.cas.mode = 1 →
      s.cas.noRelease = false → s.cas.nextRel ≤ tick.toNat →
      ∃ t, exec (.periodRelease tick b) s = .next t ∧
        t.cas.nextRel = s.cas.nextRel + s.rd R.CAS_REL_PERIOD.TICKS 0 ∧
        ∀ p, p < 64 → s.masterParts = [p] → s.isFollower p = false → (s.part p).single = false →
          s.pstate p = 3 → s.on R.PRT_STATUS.WAIT_LOCK p = false → t.pstate p = 4 ∧ (t.part p).inCycle = true) ∧
    (∀ (s : State), s.isMaster = true → s.cas.started = true →
      ∃ t, exec .doneFall s = .next t ∧ t.rd R.CAS_STATUS.DONE_IN 0 = 0 ∧ t.cas.doneHold = true ∧
        t.drivesLow = true ∧ t.rd (intBit .cas 2) 0 = 1))

/-- R291, R298, R299, R309: a stream begins, is fetched, finds its marker, ends; a load falls back or fails. -/
def Obligations.StreamsRun : Prop :=
  (∀ (a : Accessor) (s : State), s.accessCode a .cfg 0 0x40 true = 0 → s.streaming = false →
    (4 ≤ s.rd R.CFG_IMAGE_LEN.BYTES 0 →
      ∃ t, exec (.load a) s = .next t ∧ t.rd R.CFG_STATUS.STATE 0 = 1 ∧ t.rd R.CFG_STATUS.IMAGE 0 = 1 ∧
        t.streaming = true ∧ t.fabric.engine = { source := 0 } ∧ t.fabric.held = true ∧ t.fabric.parked = true ∧
        t.outbox = s.outbox ++ [.busRead (s.imageAddr 1) (s.rd R.CFG_IMAGE_LEN.BYTES 0), .regResp a 0 0]) ∧
    (4 ≤ s.rd R.CFG_GOLDEN_LEN.BYTES 0 →
      ∃ t, exec (.loadGolden a) s = .next t ∧ t.rd R.CFG_STATUS.STATE 0 = 1 ∧ t.rd R.CFG_STATUS.IMAGE 0 = 2 ∧
        t.streaming = true ∧ t.fabric.engine = { source := 0 } ∧ t.fabric.held = true ∧
        t.outbox = s.outbox ++ [.busRead (s.imageAddr 2) (s.rd R.CFG_GOLDEN_LEN.BYTES 0), .regResp a 0 0]) ∧
    (∃ t, exec (.clear a) s = .next t ∧ t.rd R.CFG_STATUS.STATE 0 = 1 ∧ t.rd R.CFG_STATUS.LOAD_ERR 0 = 0 ∧
      t.fabric.clearing = 2 ∧ t.fabric.held = true ∧ t.fabric.written = []) ∧
    (s.rd R.CFG_STATUS.STATE 0 = 3 → s.on R.CFG_CTRL.CP_OWNER 0 = false → 4 ≤ s.rd R.CFG_STREAM_LEN.BYTES 0 →
      ∃ t, exec (.stream a) s = .next t ∧ t.streaming = true ∧ t.fabric.engine = { source := 1 } ∧
        t.frames = s.frames ∧ t.fabric.held = s.fabric.held)) ∧
  (∀ (words : List W32) (s : State), s.streaming = true → s.fabric.clearing = 0 → s.fabric.engine.source ≠ 2 →
    s.fabric.engine.fetched + words.length < s.imageBytes / 4 →
    ∃ t, exec (.streamFetch words true true) s = .next t ∧
      t.fabric.engine.input = s.fabric.engine.input ++ words ∧
      t.fabric.engine.fetched = s.fabric.engine.fetched + words.length ∧ t.regs = s.regs) ∧
  (∀ (n : Nat) (rest : List W32) (s : State), s.streaming = true → s.fabric.engine.hunting = true → s.fabric.clearing = 0 →
    findMarker s.fabric.engine.input s.fabric.engine.seen = (n, some rest) → n < 64 →
    (s.fabric.engine.source = 2 ∨ s.fabric.engine.fetched < s.imageBytes / 4) →
    ∃ t, exec .streamMarker s = .next t ∧ t.fabric.engine.hunting = false ∧ t.fabric.engine.input = rest ∧
      t.regs = s.regs) ∧
  (∀ (h : W32) (rest : List W32) (s : State), s.atRecord .endStream h rest →
    ∃ t, exec .endStream s = .next t ∧ t.frames = s.frames ∧
      ((s.fabric.engine.source ≠ 2 ∨ rest = []) → t.streaming = false ∧
        t.fabric.engine = { source := s.fabric.engine.source }) ∧
      (s.fabric.engine.source = 2 → rest ≠ [] → t.streaming = true ∧ t.fabric.engine = { source := 2, input := rest })) ∧
  (∀ (s : State), s.fabric.clearing = 1 → s.on R.CFG_CTRL.FALLBACK_EN 0 = true → s.rd R.CFG_STATUS.IMAGE 0 = 1 →
    4 ≤ s.rd R.CFG_GOLDEN_LEN.BYTES 0 →
    ∃ t, exec .frameClearDone s = .next t ∧ t.frames = [] ∧ t.rd R.CFG_STATUS.IMAGE 0 = 2 ∧ t.streaming = true ∧
      t.fabric.engine = { source := 0 } ∧ t.fabric.clearing = 0 ∧ t.rd (intBit .cfg 2) 0 = 1) ∧
  (∀ (s : State), s.fabric.clearing = 1 → s.on R.CFG_CTRL.FALLBACK_EN 0 = false → s.fabric.engine.source ≠ 2 →
    ∃ t, exec .frameClearDone s = .next t ∧ t.frames = [] ∧ t.rd R.CFG_STATUS.STATE 0 = 4 ∧ t.streaming = false ∧
      t.fabric.clearing = 0 ∧ t.rd (intBit .cfg 1) 0 = 1) ∧
  (∀ (s : State), s.fabric.clearing = 2 →
    ∃ t, exec .frameClearDone s = .next t ∧ t.frames = [] ∧ t.rd R.CFG_STATUS.STATE 0 = 0 ∧
      t.rd R.CFG_STATUS.IMAGE 0 = 0 ∧ t.fabric.clearing = 0)

/-- R281, R282, R284, R292, R293, R295: what the records of a stream write. -/
def Obligations.RecordsConfigure : Prop :=
  (∀ (h : W32) (rest : List W32) (s : State), s.atRecord .nop h rest →
    ∃ t, exec .nopRecord s = .next t ∧ t.fabric.engine.input = rest ∧ t.regs = s.regs ∧ t.frames = s.frames) ∧
  (∀ (h v : W32) (rest : List W32) (s : State), s.fabric.engine.region = 0 → s.fabric.engine.source ≠ 2 →
    (s.atRecord .device h (v :: rest) → v = 0x1F3C8640 →
      ∃ t, exec .setDevice s = .next t ∧ t.fabric.engine.input = rest ∧ t.regs = s.regs) ∧
    (s.atRecord .gclkA h (v :: rest) → gclkWordOk v.toNat = true →
      ∃ t, exec .setGclkA s = .next t ∧ t.fabric.gclkA = v ∧ t.fabric.engine.input = rest ∧ t.regs = s.regs) ∧
    (s.atRecord .gclkB h (v :: rest) → gclkWordOk v.toNat = true →
      ∃ t, exec .setGclkB s = .next t ∧ t.fabric.gclkB = v ∧ t.fabric.engine.input = rest ∧ t.regs = s.regs) ∧
    (s.atRecord .bankv h (v :: rest) →
      ∃ t, exec .setBankv s = .next t ∧ t.fabric.bankv = v ∧ t.fabric.engine.input = rest ∧ t.regs = s.regs) ∧
    (s.atRecord .fpll0 h (v :: rest) → fpllOk v.toNat = true →
      ∃ t, exec .setFpll0 s = .next t ∧ t.fabric.fpll0 = v ∧ t.fabric.engine.input = rest ∧ t.regs = s.regs) ∧
    (s.atRecord .fpll1 h (v :: rest) → fpllOk v.toNat = true →
      ∃ t, exec .setFpll1 s = .next t ∧ t.fabric.fpll1 = v ∧ t.fabric.engine.input = rest ∧ t.regs = s.regs)) ∧
  (∀ (h v : W32) (rest : List W32) (s : State), s.atRecord .region h (v :: rest) → v.toNat ≤ 16 →
    (s.fabric.engine.source = 2 → v ≠ 0 ∧ s.on (R.CFG_REGION.FABRIC_OK (v.toNat - 1)) 0 = true) →
    ∃ t, exec .setRegion s = .next t ∧ t.fabric.engine.region = v.toNat ∧
      t.fabric.engine.quiesced = s.fabric.engine.quiesced ∧
      t.fabric.engine.input = rest ∧ t.regs = s.regs) ∧
  (∀ (h : W32) (rest : List W32) (s : State), s.atRecord .frames h rest → s.fabric.engine.source = 0 →
    s.fabric.engine.region = 0 →
    ∃ t, exec .frames s = .next t ∧ t.fabric.engine.framesLeft = recLen h.toNat ∧ t.fabric.engine.nextFrame = 0 ∧
      t.fabric.engine.oneFrames = true ∧
      t.fabric.engine.misordered = (s.fabric.engine.misordered || s.fabric.engine.oneFrames)) ∧
  (∀ (s : State), s.streaming = true → s.fabric.clearing = 0 → s.fabric.engine.framesLeft ≠ 0 →
    130 ≤ s.fabric.engine.input.length → (s.fabric.engine.source = 2 ∨ s.fabric.engine.fetched < s.imageBytes / 4) →
    entryCheck (s.fabric.engine.input.take 130) = true → (s.fabric.engine.input.getD 0 0).toNat < 4608 →
    s.fabric.engine.region = 0 →
    frameRefused s.fabric.bankv.toNat (s.fabric.engine.input.getD 0 0).toNat
      (frameOf ((s.fabric.engine.input.take 130).drop 1)) = false →
    ∃ t, exec .frameEntry s = .next t ∧
      t.frame (s.fabric.engine.input.getD 0 0).toNat = frameOf ((s.fabric.engine.input.take 130).drop 1) ∧
      (∀ g, g ≠ (s.fabric.engine.input.getD 0 0).toNat → t.frame g = s.frame g) ∧
      t.fabric.engine.framesLeft = s.fabric.engine.framesLeft - 1 ∧
      t.fabric.engine.nextFrame = s.fabric.engine.nextFrame + 1 ∧
      t.fabric.engine.input = s.fabric.engine.input.drop 130) ∧
  (∀ (h v : W32) (rest : List W32) (s : State), s.atRecord .read h (v :: rest) → s.fabric.engine.source ≠ 0 →
    (s.fabric.engine.source = 2 → s.fabric.engine.region ≠ 0) → recLen h.toNat = 1 → v.toNat < 4608 → s.ecc clsFrame v.toNat < 2 →
    ∃ t, exec .readRecord s = .next t ∧ t.outbox = s.outbox ++ [.cpFrame (s.frame v.toNat)] ∧
      t.fabric.engine.input = rest ∧ t.frames = s.frames)

/-- R294, R296, R297, R308: the CHECK and the actions of a stream. -/
def Obligations.ActionsTakeEffect : Prop :=
  (∀ (h v : W32) (rest : List W32) (s : State), s.atRecord .check h (v :: rest) → s.fabric.engine.crcOn = true →
    crcFinal (crcWords s.fabric.engine.crc [h]) = v.toNat →
    ∃ t, exec .checkRecord s = .next t ∧ t.fabric.engine.checkOk = true ∧ t.fabric.engine.crcOn = false ∧
      t.fabric.engine.input = rest ∧ t.regs = s.regs) ∧
  (∀ (h : W32) (rest : List W32) (s : State),
    (s.atRecord .none h rest →
      ∃ t, exec .actionNone s = .next t ∧ t.fabric.engine.input = rest ∧ t.regs = s.regs ∧ t.frames = s.frames) ∧
    (s.atRecord .checkReset h rest →
      ∃ t, exec .checkReset s = .next t ∧ t.fabric.engine.crcOn = true ∧ t.fabric.engine.crc = crcInit ∧
        t.fabric.engine.checkOk = false ∧ t.fabric.engine.input = rest ∧ t.regs = s.regs) ∧
    (s.atRecord .launch h rest → s.fabric.engine.checkOk = true → s.fabric.engine.region = 0 →
      s.fabric.engine.source = 0 → s.fabric.engine.nextFrame = 4608 → s.fabric.engine.misordered = false →
      s.fabric.engine.oneFrames = true → s.wrongVoltage = false →
      ∃ t, exec .launch s = .next t ∧ t.rd R.CFG_STATUS.STATE 0 = 2 ∧ t.rd R.CFG_STATUS.SU_PHASE 0 = 1 ∧
        t.rd R.FAB_GCLK_SRC_A.SRC 0 = s.fabric.gclkA.toNat ∧ t.rd R.FAB_GCLK_SRC_B.SRC 0 = s.fabric.gclkB.toNat ∧
        t.fabric.engine.input = rest) ∧
    (s.atRecord .launch h rest → s.fabric.engine.checkOk = true → 1 ≤ s.fabric.engine.region →
      s.fabric.engine.region ≤ 16 → s.fabric.engine.quiesced.contains s.fabric.engine.region = true →
      ∃ t, exec .launch s = .next t ∧ t.regionState s.fabric.engine.region = 0 ∧
        t.fabric.engine.quiesced = s.fabric.engine.quiesced.filter (fun i => i != s.fabric.engine.region) ∧
        t.rd (intBit .cfg 6) 0 = 1 ∧ t.fabric.engine.input = rest) ∧
    (s.atRecord .launch h rest → s.fabric.engine.checkOk = false → s.fabric.engine.source = 0 →
      ∃ t, exec .launch s = .next t ∧ t.rd R.CFG_STATUS.LOAD_ERR 0 = 4 ∧ t.fabric.clearing = 1 ∧ t.fabric.held = true) ∧
    (s.atRecord .quiesce h rest → 1 ≤ s.fabric.engine.region → s.fabric.engine.region ≤ 16 →
      s.fabric.engine.source ≠ 0 →
      ∃ t, exec .quiesce s = .next t ∧ t.regionState s.fabric.engine.region = 1 ∧
        t.fabric.engine.quiesced.contains s.fabric.engine.region = true ∧
        t.fabric.engine.input = rest))

/-- R301 to R303: start-up, its limits, and the end of release blanking. R284, R305, R307, R309, R315: regions, the
inner port, the clocks and the banks. -/
def Obligations.FabricStartsAndIsWatched : Prop :=
  (∀ (locked : BitVec 2) (done : Bool) (s : State),
    (s.rd R.CFG_STATUS.SU_PHASE 0 = 0 → exec (.startupPhase locked done) s = .next s) ∧
    (s.rd R.CFG_STATUS.SU_PHASE 0 = 1 → (∀ t, t < 8 → s.treePll t = none) →
      ∃ t, exec (.startupPhase locked done) s = .next t ∧ t.rd R.CFG_STATUS.SU_PHASE 0 = 2 ∧
        t.rd R.CFG_STATUS.DONE_RELEASED 0 = 1) ∧
    (s.rd R.CFG_STATUS.SU_PHASE 0 = 2 →
      ∃ t, exec (.startupPhase locked done) s = .next t ∧ t.rd R.CFG_STATUS.SU_PHASE 0 = 3 ∧ t.fabric.doneRun = 0) ∧
    (s.rd R.CFG_STATUS.SU_PHASE 0 = 3 → s.on R.CFG_CTRL.DONE_WAIT 0 = false →
      ∃ t, exec (.startupPhase locked done) s = .next t ∧ t.rd R.CFG_STATUS.SU_PHASE 0 = 4 ∧ t.fabric.parked = false) ∧
    (s.rd R.CFG_STATUS.SU_PHASE 0 = 3 → s.on R.CFG_CTRL.DONE_WAIT 0 = true →
      ∃ t, exec (.startupPhase locked done) s = .next t ∧ t.rd R.CFG_STATUS.DONE_IN 0 = b2n done ∧
        (done = true → 3 ≤ s.fabric.doneRun → t.rd R.CFG_STATUS.SU_PHASE 0 = 4) ∧
        (done = true → s.fabric.doneRun < 3 → t.fabric.doneRun = s.fabric.doneRun + 1 ∧
          t.rd R.CFG_STATUS.SU_PHASE 0 = 3) ∧
        (done = false → t.fabric.doneRun = 0 ∧ t.rd R.CFG_STATUS.SU_PHASE 0 = 3)) ∧
    (s.rd R.CFG_STATUS.SU_PHASE 0 = 4 →
      ∃ t, exec (.startupPhase locked done) s = .next t ∧ t.rd R.CFG_STATUS.SU_PHASE 0 = 5 ∧ t.fabric.reset0 = false) ∧
    (s.rd R.CFG_STATUS.SU_PHASE 0 = 5 →
      ∃ t, exec (.startupPhase locked done) s = .next t ∧ t.rd R.CFG_STATUS.SU_PHASE 0 = 6 ∧ t.fabric.held = false ∧
        t.relBlank = BitVec.allOnes 32) ∧
    (s.rd R.CFG_STATUS.SU_PHASE 0 = 6 →
      ∃ t, exec (.startupPhase locked done) s = .next t ∧ t.rd R.CFG_STATUS.SU_PHASE 0 = 7 ∧
        t.rd R.CFG_STATUS.STATE 0 = 3 ∧ t.rd (intBit .cfg 0) 0 = 1) ∧
    (s.rd R.CFG_STATUS.SU_PHASE 0 = 7 →
      ∃ t, exec (.startupPhase locked done) s = .next t ∧ t.rd R.CFG_STATUS.SU_PHASE 0 = 0)) ∧
  (∀ (s : State), s.rd R.CFG_STATUS.SU_PHASE 0 = 1 →
    ∃ t, exec .startupPllTimeout s = .next t ∧ t.rd R.CFG_STATUS.LOAD_ERR 0 = 9 ∧ t.rd R.CFG_STATUS.SU_PHASE 0 = 0 ∧
      t.fabric.clearing = 1 ∧ t.fabric.held = true) ∧
  (∀ (s : State), s.rd R.CFG_STATUS.SU_PHASE 0 = 3 → s.rd R.CFG_DONE_TIMEOUT.US 0 ≠ 0 →
    ∃ t, exec .doneTimeout s = .next t ∧ t.rd R.CFG_STATUS.LOAD_ERR 0 = 10 ∧ t.rd R.CFG_STATUS.SU_PHASE 0 = 0 ∧
      t.fabric.clearing = 1 ∧ t.fabric.held = true) ∧
  (∀ (s : State), exec .releaseBlankEnd s = .next { s with relBlank := 0 }) ∧
  (∀ (w : W32) (s : State),
    (s.on R.CFG_CTRL.CP_OWNER 0 = false → ∃ t, exec (.cpWord w) s = .next t ∧ t.rd (intBit .cfg 8) 0 = 1 ∧
      t.fabric = s.fabric) ∧
    (s.cpReady = true → s.streaming = true →
      ∃ t, exec (.cpWord w) s = .next t ∧ t.fabric.engine.input = s.fabric.engine.input ++ [w] ∧ t.regs = s.regs) ∧
    (s.cpReady = true → s.streaming = false →
      ∃ t, exec (.cpWord w) s = .next t ∧ t.streaming = true ∧ t.fabric.engine = { source := 2, input := [w] }) ∧
    (s.on R.CFG_CTRL.CP_OWNER 0 = true → s.cpReady = false → exec (.cpWord w) s = .next s)) ∧
  (∀ (a : Accessor) (k : Fin 16) (v : W32) (s : State), s.accessCode a .cfg 0 (0x100 + 8 * k.val) true = 0 →
    s.regionRefused (k.val + 1) v.toNat = false →
    ∃ t, exec (.regionWrite a k v) s = .next t ∧ t.regionRect (k.val + 1) =
        (bitsOf v.toNat 0 7, bitsOf v.toNat 8 7, bitsOf v.toNat 16 6, bitsOf v.toNat 22 6) ∧
      t.rd (R.CFG_REGION.FABRIC_OK k.val) 0 = bitOf v.toNat 28 ∧ t.rd (R.CFG_REGION.VALID k.val) 0 = bitOf v.toNat 29) ∧
  (∀ (a : Accessor) (k : Fin 16) (v : W32) (s : State), s.accessCode a .cfg 0 (0x100 + 8 * k.val) true = 0 →
    s.regionRefused (k.val + 1) v.toNat = true → s.on (errValid .cfg) 0 = false →
    ∃ t, exec (.regionWrite a k v) s = .next t ∧ t.rd (errCode .cfg) 0 = 4 ∧
      ∀ i, t.regionRect i = s.regionRect i) ∧
  (∀ (s : State), s.streaming = true → s.fabric.engine.source = 1 →
    ∃ t, exec .regionStreamTimeout s = .next t ∧ t.streaming = false ∧ t.rd R.CFG_STATUS.LOAD_ERR 0 = 7) ∧
  (∀ (g : Fin 8) (s : State), bitOf (s.rd R.FAB_STATUS.GCLK_ON 0) g.val = 1 →
    ∃ t, exec (.gclkLost g) s = .next t ∧ t.rd R.FAB_STATUS.GCLK_ON 0 = setBit (s.rd R.FAB_STATUS.GCLK_ON 0) g.val 0 % 2 ^ 8 ∧
      t.rd (intBit .fab 2) 0 = 1) ∧
  (∀ (p : Fin 2) (s : State), s.on (pllLock p.val) 0 = true →
    ∃ t, exec (.fabricPllUnlock p) s = .next t ∧ t.rd (pllLock p.val) 0 = 0 ∧ t.rd (intBit .fab 0) 0 = 1) ∧
  (∀ (b : Fin 12) (l : Fin 4) (s : State), bitsOf (s.rd R.FAB_BANK_SENSE.LEVEL 0) (2 * b.val) 2 ≠ l.val →
    ∃ t, exec (.bankVoltageChange b l) s = .next t ∧
      t.rd R.FAB_BANK_SENSE.LEVEL 0 = setBits (s.rd R.FAB_BANK_SENSE.LEVEL 0) (2 * b.val) 2 l.val % 2 ^ 24 ∧
      t.rd (intBit .fab 1) 0 = 1)

/-- R290, R310 to R313: the configuration scrubber, its refetch, its supervisor, and the frame window. -/
def Obligations.FramesAreScrubbed : Prop :=
  (∀ (u : List Upset) (s : State), s.scrubbing = true → s.fabric.refetch = none →
    s.rd R.CFG_SCRUB_FIRST.FRAME 0 ≤ s.rd R.CFG_SCRUB_POS.FRAME 0 →
    s.rd R.CFG_SCRUB_POS.FRAME 0 < s.rd R.CFG_SCRUB_LAST.FRAME 0 →
    s.stoppedRegion (s.rd R.CFG_SCRUB_POS.FRAME 0 / 48) (s.rd R.CFG_SCRUB_POS.FRAME 0 % 48) = none →
    ∃ t, exec (.scrubFrameRead u) s = .next t ∧ t.rd R.CFG_SCRUB_POS.FRAME 0 =
        (s.rd R.CFG_SCRUB_POS.FRAME 0 + 1) % 2 ^ 13 ∧
      ((s.upset u).ecc clsFrame (s.rd R.CFG_SCRUB_POS.FRAME 0) = 1 →
        t.ecc clsFrame (s.rd R.CFG_SCRUB_POS.FRAME 0) = 0 ∧ t.rd (intBit .cfg 3) 0 = 1 ∧
        t.rd R.CFG_FRAME_CE_COUNT.COUNT 0 = satAdd 32 (s.rd R.CFG_FRAME_CE_COUNT.COUNT 0) 1) ∧
      (2 ≤ (s.upset u).ecc clsFrame (s.rd R.CFG_SCRUB_POS.FRAME 0) → s.noCopy (s.rd R.CFG_SCRUB_POS.FRAME 0) = false →
        t.fabric.refetch = some (s.rd R.CFG_SCRUB_POS.FRAME 0) ∧ t.rd (intBit .cfg 4) 0 = 1) ∧ t.frames = s.frames) ∧
  (∀ (words : List W32) (f : Nat) (s : State), s.fabric.refetch = some f → words.length = 130 →
    s.rd R.HST_MBX_STATUS.FW_STATE 0 ≠ 3 →
    (words.getD 0 0).toNat = f → entryCheck words = true →
    ∃ t, exec (.frameRefetch words true) s = .next t ∧ t.fabric.refetch = none ∧ t.frame f = frameOf (words.drop 1) ∧
      t.ecc clsFrame f = 0 ∧ ∀ g, g ≠ f → t.frame g = s.frame g) ∧
  (∀ (s : State), s.scrubbing = true →
    ∃ t, exec .scrubHeartbeatTimeout s = .next t ∧
      t.rd R.CFG_SCRUB_POS.FRAME 0 = s.rd R.CFG_SCRUB_FIRST.FRAME 0 % 2 ^ 13 ∧
      t.rd (intBit .cfg 5) 0 = 1) ∧
  (∀ (s : State), ∃ t, exec (.scrubSettingsFault true) s = .next t ∧ t.rd R.CFG_SCRUB_FIRST.FRAME 0 = 0 ∧
      t.rd R.CFG_SCRUB_LAST.FRAME 0 = 0x11FF ∧ t.rd R.CFG_SCRUB_INTERVAL.CLOCKS 0 = 0x200) ∧
  (∀ (s : State), ∃ t, exec (.scrubSettingsFault false) s = .next t ∧
      t.rd R.CFG_SCRUB_POS.FRAME 0 = s.rd R.CFG_SCRUB_FIRST.FRAME 0 % 2 ^ 13 ∧ t.rd (intBit .cfg 5) 0 = 1) ∧
  (∀ (src tag : Fin 64) (f : Fin 4608) (i : Fin 32) (s : State), s.ecc clsFrame f.val < 2 → s.quayIsDead 33 = false →
    exec (.frameWindowRead src tag f i) s =
      .next (s.emit (.nocResp src.val tag.val 0 [BitVec.ofNat 128 (bitsOf (s.frame f.val).toNat (128 * i.val) 128)])))

/-- R346, R350, R353, R354, R357: NOP and the vector instructions issue: D register RD takes the result one bundle
later. -/
def Obligations.VectorInstructionsIssue : Prop :=
  ∀ (m : Fin 16) (k : Fin 4) (b : W128) (s s1 : State) (c : Core) (w : Nat),
    s1 = s.firstSync m.val → c = s1.core m.val → w = slotOf b k.val → s.issues m.val b → iOp (slotOf b 3) ≠ 0x3A →
    (iOp w = 0x00 → ∃ t, exec (.nop m k) s = .next t ∧ (t.core m.val).count = c.count + 1) ∧
    (k.val < 2 → s1.sole m.val b (regD (iRD w)) →
      (iOp w = 0x01 → ∃ t, exec (.vadd m k) s = .next t ∧ (t.core m.val).reg (regD (iRD w)) =
        lanes (iW w) (fun j =>
          laneU (iW w) (c.srcA w) j + laneU (iW w) (c.srcB w) j)) ∧
      (iOp w = 0x02 → ∃ t, exec (.vsub m k) s = .next t ∧ (t.core m.val).reg (regD (iRD w)) =
        lanes (iW w) (fun j =>
          ofSigned (laneW (iW w)) (laneS (iW w) (c.srcA w) j - laneS (iW w) (c.srcB w) j))) ∧
      (iOp w = 0x03 → ∃ t, exec (.vadds m k) s = .next t ∧ (t.core m.val).reg (regD (iRD w)) =
        lanes (iW w) (fun j =>
          ofSigned (laneW (iW w)) (clamp (laneW (iW w)) (laneS (iW w) (c.srcA w) j + laneS (iW w) (c.srcB w) j)))) ∧
      (iOp w = 0x04 → ∃ t, exec (.vsubs m k) s = .next t ∧ (t.core m.val).reg (regD (iRD w)) =
        lanes (iW w) (fun j =>
          ofSigned (laneW (iW w)) (clamp (laneW (iW w)) (laneS (iW w) (c.srcA w) j - laneS (iW w) (c.srcB w) j)))) ∧
      (iOp w = 0x05 → ∃ t, exec (.vand m k) s = .next t ∧ (t.core m.val).reg (regD (iRD w)) =
        c.srcA w &&& c.srcB w) ∧
      (iOp w = 0x06 → ∃ t, exec (.vor m k) s = .next t ∧ (t.core m.val).reg (regD (iRD w)) =
        c.srcA w ||| c.srcB w) ∧
      (iOp w = 0x07 → ∃ t, exec (.vxor m k) s = .next t ∧ (t.core m.val).reg (regD (iRD w)) =
        c.srcA w ^^^ c.srcB w) ∧
      (iOp w = 0x08 → ∃ t, exec (.vshl m k) s = .next t ∧ (t.core m.val).reg (regD (iRD w)) =
        lanes (iW w) (fun j =>
          if laneW (iW w) ≤ bitsOf w 0 6 then 0 else laneU (iW w) (c.srcA w) j * 2 ^ bitsOf w 0 6)) ∧
      (iOp w = 0x09 → ∃ t, exec (.vshra m k) s = .next t ∧ (t.core m.val).reg (regD (iRD w)) =
        lanes (iW w) (fun j =>
          ofSigned (laneW (iW w)) (laneS (iW w) (c.srcA w) j / ((2 ^ bitsOf w 0 6 : Nat) : Int)))) ∧
      (iOp w = 0x0A → ∃ t, exec (.vshrl m k) s = .next t ∧ (t.core m.val).reg (regD (iRD w)) =
        lanes (iW w) (fun j =>
          laneU (iW w) (c.srcA w) j / 2 ^ bitsOf w 0 6)) ∧
      (iOp w = 0x0B → ∃ t, exec (.vcmp m k) s = .next t ∧ (t.core m.val).reg (regD (iRD w)) =
        lanes (iW w) (fun j =>
          if condHolds (bitsOf w 0 3) (laneS (iW w) (c.srcA w) j) (laneS (iW w) (c.srcB w) j) then
          2 ^ laneW (iW w) - 1 else 0)) ∧
      (iOp w = 0x0C → ∃ t, exec (.vmin m k) s = .next t ∧ (t.core m.val).reg (regD (iRD w)) =
        lanes (iW w) (fun j =>
          if laneS (iW w) (c.srcA w) j ≤ laneS (iW w) (c.srcB w) j then laneU (iW w) (c.srcA w) j
          else laneU (iW w) (c.srcB w) j)) ∧
      (iOp w = 0x0D → ∃ t, exec (.vmax m k) s = .next t ∧ (t.core m.val).reg (regD (iRD w)) =
        lanes (iW w) (fun j =>
          if laneS (iW w) (c.srcA w) j ≤ laneS (iW w) (c.srcB w) j then laneU (iW w) (c.srcB w) j
          else laneU (iW w) (c.srcA w) j)) ∧
      (iOp w = 0x0E → ∃ t, exec (.vbcast m k) s = .next t ∧ (t.core m.val).reg (regD (iRD w)) =
        lanes (iW w) (fun _ =>
          laneU (iW w) (c.srcA w) (bitsOf w 0 3))) ∧
      (iOp w = 0x0F → ∃ t, exec (.movi m k) s = .next t ∧ (t.core m.val).reg (regD (iRD w)) =
        ofSigned 32 (signedOf 20 (bitsOf w 0 20))))

/-- R330 to R332, R354, R357: the multiplies, MOVA, MOVD and ACLR issue: the MAC units see a multiply's accumulator
one bundle later, every other reader three bundles later. -/
def Obligations.AccumulatorInstructionsIssue : Prop :=
  ∀ (m : Fin 16) (k : Fin 4) (b : W128) (s s1 : State) (c : Core) (w : Nat),
    s1 = s.firstSync m.val → c = s1.core m.val → w = slotOf b k.val → s.issues m.val b → iOp (slotOf b 3) ≠ 0x3A → k.val < 2 →
    (iOp w = 0x10 → ∃ t, exec (.mac m k) s = .next t ∧
      ⟨c.count + 3, regAcc (iAcc w), false, accOf (iW w) (fun j => c.macLane w j + c.product w j)⟩ ∈ (t.core m.val).due ∧
      (s1.sole m.val b (regMac (iAcc w)) →
        (t.core m.val).reg (regMac (iAcc w)) = accOf (iW w) (fun j => c.macLane w j + c.product w j)) ∧
      (∀ j, j < laneCount (iW w) → accFits (iW w) (c.macLane w j + c.product w j) = false →
        ⟨c.count + 3, regARS, true, 2 ^ iAcc w⟩ ∈ (t.core m.val).due)) ∧
    (iOp w = 0x11 → ∃ t, exec (.msu m k) s = .next t ∧
      ⟨c.count + 3, regAcc (iAcc w), false, accOf (iW w) (fun j => c.macLane w j - c.product w j)⟩ ∈ (t.core m.val).due ∧
      (s1.sole m.val b (regMac (iAcc w)) →
        (t.core m.val).reg (regMac (iAcc w)) = accOf (iW w) (fun j => c.macLane w j - c.product w j)) ∧
      (∀ j, j < laneCount (iW w) → accFits (iW w) (c.macLane w j - c.product w j) = false →
        ⟨c.count + 3, regARS, true, 2 ^ iAcc w⟩ ∈ (t.core m.val).due)) ∧
    (iOp w = 0x12 → ∃ t, exec (.mpy m k) s = .next t ∧
      ⟨c.count + 3, regAcc (iAcc w), false, accOf (iW w) (fun j => c.product w j)⟩ ∈ (t.core m.val).due ∧
      (s1.sole m.val b (regMac (iAcc w)) →
        (t.core m.val).reg (regMac (iAcc w)) = accOf (iW w) (fun j => c.product w j)) ∧
      (∀ j, j < laneCount (iW w) → accFits (iW w) (c.product w j) = false →
        ⟨c.count + 3, regARS, true, 2 ^ iAcc w⟩ ∈ (t.core m.val).due)) ∧
    (iOp w = 0x13 → ∃ t, exec (.mova m k) s = .next t ∧
      ⟨c.count + 2, regD (iRD w), false, moveOut (iW w) (c.reg regASC) (c.reg (regAcc (iAccA w)))⟩ ∈ (t.core m.val).due ∧
      (moveSaturates (iW w) (c.reg regASC) (c.reg (regAcc (iAccA w))) = true →
        ⟨c.count + 3, regARS, true, 256⟩ ∈ (t.core m.val).due)) ∧
    (iOp w = 0x14 → ∃ t, exec (.movd m k) s = .next t ∧
      ⟨c.count + 2, regMac (iAcc w), false, moveIn (iW w) (c.reg regASC) (c.srcA w)⟩ ∈ (t.core m.val).due ∧
      ⟨c.count + 2, regAcc (iAcc w), false, moveIn (iW w) (c.reg regASC) (c.srcA w)⟩ ∈ (t.core m.val).due) ∧
    (iOp w = 0x15 → s1.sole m.val b (regAcc (iAcc w)) → s1.sole m.val b (regMac (iAcc w)) →
      ∃ t, exec (.aclr m k) s = .next t ∧ (t.core m.val).reg (regAcc (iAcc w)) = 0 ∧
        (t.core m.val).reg (regMac (iAcc w)) = 0)

/-- R318, R323, R334, R337, R338, R354, R357: the instructions of the address units issue. A store is stated where it
reaches the scratchpad and the other address unit makes no access. -/
def Obligations.AddressInstructionsIssue : Prop :=
  ∀ (m : Fin 16) (k : Fin 4) (b : W128) (s s1 : State) (c : Core) (w : Nat),
    s1 = s.firstSync m.val → c = s1.core m.val → w = slotOf b k.val → s.issues m.val b → iOp (slotOf b 3) ≠ 0x3A → 2 ≤ k.val →
    ((iOp w = 0x20 → ∃ t, exec (.ld m k) s = .next t ∧
        ⟨c.count + 3, regD (iReg w), false, s1.loaded m.val k.val w c⟩ ∈ (t.core m.val).due ∧
        (iMode w ≠ 0 → s1.sole m.val b (regP (iP w)) → (t.core m.val).reg (regP (iP w)) = c.modified w)) ∧
      (iOp w = 0x22 → ∃ t, exec (.ldp m k) s = .next t ∧
        ⟨c.count + 4, regP (iReg w), false, s1.loaded m.val k.val w c⟩ ∈ (t.core m.val).due) ∧
      (iOp w = 0x27 → s1.sole m.val b (regP (iReg w)) → ∃ t, exec (.padd m k) s = .next t ∧
        (t.core m.val).reg (regP (iReg w)) =
          (if iMode w = 0 then c.ptr w + iImm w else c.ptr w + c.reg (regM (bitsOf w 0 3))) % 2 ^ 32) ∧
      (iOp w = 0x28 → ∃ t, exec (.pmov m k) s = .next t ∧
        (bitOf w 24 = 0 → s1.sole m.val b (regP (iReg w)) →
          (t.core m.val).reg (regP (iReg w)) = bitsOf (c.reg (regD (bitsOf w 14 5))) 0 32) ∧
        (bitOf w 24 = 1 → s1.sole m.val b (regD (bitsOf w 14 5)) →
          (t.core m.val).reg (regD (bitsOf w 14 5)) = c.reg (regP (iReg w)))) ∧
      (iOp w = 0x29 → s1.sole m.val b (regP (iReg w)) → ∃ t, exec (.pmovi m k) s = .next t ∧
        (t.core m.val).reg (regP (iReg w)) =
          (if bitOf w 24 = 0 then bitsOf w 0 16 else setBits (c.reg (regP (iReg w))) 16 16 (bitsOf w 0 16)))) ∧
    (accessKind (slotOf b (5 - k.val)) = none → regionOf (c.address w) = .scratch →
      s1.ecc clsScratch (scratchKey m.val (c.address w)) = 0 →
      (iOp w = 0x21 → ∃ t, exec (.st m k) s = .next t ∧
        SMap.get 0 t.scratch (scratchKey m.val (c.address w)) =
          mergeBytes (SMap.get 0 s.scratch (scratchKey m.val (c.address w)))
            (placed (c.address w) (bitsOf (c.reg (regD (iReg w))) 0 (8 * iBytes w))) (enables (c.address w) (iBytes w)) 16 ∧
        (∀ j, j ≠ scratchKey m.val (c.address w) → SMap.get 0 t.scratch j = SMap.get 0 s.scratch j)) ∧
      (iOp w = 0x23 → ∃ t, exec (.stp m k) s = .next t ∧
        SMap.get 0 t.scratch (scratchKey m.val (c.address w)) =
          mergeBytes (SMap.get 0 s.scratch (scratchKey m.val (c.address w)))
            (placed (c.address w) (bitsOf (c.reg (regP (iReg w))) 0 32)) (enables (c.address w) 4) 16 ∧
        (∀ j, j ≠ scratchKey m.val (c.address w) → SMap.get 0 t.scratch j = SMap.get 0 s.scratch j)) ∧
      (iOp w = 0x24 → ∃ t, exec (.sta m k) s = .next t ∧
        SMap.get 0 t.scratch (scratchKey m.val (c.address w)) =
          mergeBytes (SMap.get 0 s.scratch (scratchKey m.val (c.address w)))
            (placed (c.address w) (moveOut (staWide w) (c.reg regASC) (c.reg (regAcc (bitsOf w 19 3)))))
            (enables (c.address w) 16) 16 ∧
        (∀ j, j ≠ scratchKey m.val (c.address w) → SMap.get 0 t.scratch j = SMap.get 0 s.scratch j)) ∧
      (iOp w = 0x25 → iOp (slotOf b 3) ≠ 0x37 → ∃ t, exec (.lr m k) s = .next t ∧ (t.core m.val).resv = some (c.address w / 16) ∧
        ⟨c.count + 3, regD (iReg w), false, s1.loaded m.val k.val w c⟩ ∈ (t.core m.val).due ∧ t.scratch = s.scratch) ∧
      (iOp w = 0x26 → ∃ t, exec (.sc m k) s = .next t ∧ (t.core m.val).resv = none ∧
        (c.resv = some (c.address w / 16) →
          ⟨c.count + 3, scResult w, false, 0⟩ ∈ (t.core m.val).due ∧
          SMap.get 0 t.scratch (scratchKey m.val (c.address w)) =
            mergeBytes (SMap.get 0 s.scratch (scratchKey m.val (c.address w)))
              (placed (c.address w) (bitsOf (c.reg (regD (iReg w))) 0 (8 * iBytes w)))
              (enables (c.address w) (iBytes w)) 16) ∧
        (c.resv ≠ some (c.address w / 16) → c.farData k.val = none →
          ⟨c.count + 3, scResult w, false, 1⟩ ∈ (t.core m.val).due ∧ t.scratch = s.scratch)))

/-- R354, R355, R361, R362, R368, R369, R340, R356: the sequencer's instructions issue: a transfer takes effect after
its two delay slots; TRAP takes its exception. -/
def Obligations.SequencerInstructionsIssue : Prop :=
  ∀ (m : Fin 16) (b : W128) (s s1 : State) (c : Core) (w : Nat),
    s1 = s.firstSync m.val → c = s1.core m.val → w = slotOf b 3 → s.issues m.val b →
    (iOp w = 0x30 → ∃ t, exec (.br m) s = .next t ∧ (t.core m.val).pc = (c.pc + 16) % 2 ^ 32 ∧
      (t.core m.val).branch = some ⟨ofSigned 32 ((c.pc : Int) + 16 * signedOf 22 (bitsOf w 0 22)), 2, 0x30⟩) ∧
    (iOp w = 0x31 → ∃ t, exec (.brcc m) s = .next t ∧ (t.core m.val).pc = (c.pc + 16) % 2 ^ 32 ∧
      (t.core m.val).branch = some ⟨if condHolds (bitsOf w 23 3)
          (signedOf 32 (bitsOf (c.reg (regD (bitsOf w 18 5))) 0 32)) 0 = true
        then ofSigned 32 ((c.pc : Int) + 16 * signedOf 18 (bitsOf w 0 18)) else (c.pc + 48) % 2 ^ 32, 2, 0x31⟩) ∧
    (iOp w = 0x32 → ∃ t, exec (.call m) s = .next t ∧ (t.core m.val).pc = (c.pc + 16) % 2 ^ 32 ∧
      (t.core m.val).branch = some ⟨ofSigned 32 ((c.pc : Int) + 16 * signedOf 22 (bitsOf w 0 22)), 2, 0x32⟩ ∧
      ⟨c.count + 3, regP (bitsOf w 22 4), false, (c.pc + 48) % 2 ^ 32⟩ ∈ (t.core m.val).due) ∧
    (iOp w = 0x33 → ∃ t, exec (.jmp m) s = .next t ∧ (t.core m.val).pc = (c.pc + 16) % 2 ^ 32 ∧
      (t.core m.val).branch = some ⟨c.reg (regP (bitsOf w 22 4)), 2, 0x33⟩) ∧
    (iOp w = 0x34 → ∃ t, exec (.rep m) s = .next t ∧
      (c.repCount w ≠ 0 → (t.core m.val).pc = (c.pc + 16) % 2 ^ 32 ∧
        (t.core m.val).rep = some ⟨c.pc + 16, bitsOf w 13 4 + 1, c.repCount w - 1, 0, false, []⟩) ∧
      (c.repCount w = 0 → (t.core m.val).pc = (c.pc + 16 * (bitsOf w 13 4 + 2)) % 2 ^ 32 ∧
        (t.core m.val).rep = none)) ∧
    (iOp w = 0x35 → ∃ t, exec (.mvc m) s = .next t ∧
      (bitOf w 25 = 1 →
        ⟨c.count + 2, regD (bitsOf w 20 5), false, c.reg (regCR (bitsOf w 16 4))⟩ ∈ (t.core m.val).due) ∧
      (bitOf w 25 = 0 → ∀ v, crValue (bitsOf w 16 4) (bitsOf (c.reg (regD (bitsOf w 20 5))) 0 32) = some v →
        ⟨c.count + 2, regCR (bitsOf w 16 4), false, v⟩ ∈ (t.core m.val).due)) ∧
    (iOp w = 0x36 → ∃ t, exec (.fence m) s = .next t ∧
      (t.core m.val).fenced = !(t.core m.val).stores.isEmpty) ∧
    (iOp w = 0x37 → ∃ t, exec (.nap m) s = .next t ∧
      (s.on R.IRQ_CTRL.EN 0 = false → t.rd R.MDC_STATUS.STATE m.val = 2 ∧ (t.core m.val).resv = none) ∧
      (s.on R.IRQ_CTRL.EN 0 = true → s.irqLatches.any (fun l => l / 256 == m.val) = true →
        t.rd R.MDC_STATUS.STATE m.val = 1)) ∧
    (iOp w = 0x38 → ∃ t, exec (.reti m) s = .next t ∧ (t.core m.val).pc = (c.pc + 16) % 2 ^ 32 ∧
      (t.core m.val).branch = some ⟨c.reg regIRA, 2, 0x38⟩) ∧
    (iOp w = 0x39 → ∃ t, exec (.eret m) s = .next t ∧ (t.core m.val).pc = (c.pc + 16) % 2 ^ 32 ∧
      (t.core m.val).branch = some ⟨c.reg regELR, 2, 0x39⟩) ∧
    (iOp w = 0x3A → c.inExc = false →
      (∀ l ∈ c.due ++ s1.bundleResults m.val b, l.reg ≠ regESTAT ∧ l.reg ≠ regEVB) →
      ∃ t, exec (.trap m) s = .next t ∧ (t.core m.val).pc = c.reg regEVB % 2 ^ 32 ∧
        (t.core m.val).reg regELR = (c.pc + 16) % 2 ^ 32 / 16 * 16 ∧
        (t.core m.val).reg regESTAT = estatAfter (c.reg regESTAT) 10 0 1 (some (bitsOf w 0 8)) ∧
        (t.core m.val).branch = none ∧ (t.core m.val).rep = none ∧
        t.rd R.MDC_EXC_INFO.CAUSE m.val = 10 ∧ t.rd (intBit .mdc 3) m.val = 1)

/-- R340, R364, R366, R369 to R373: exceptions, interrupts, and the end of a nap. -/
def Obligations.CoresTakeExceptions : Prop :=
  (∀ (m : Fin 16) (f : CoreFault) (s : State), s.coreReady m.val = true → s.takesIrq m.val = false →
    (s.core m.val).haltReq = 0 → s.breakpoint m.val (s.core m.val).pc = none →
    s.bundleFault m.val (s.core m.val) = some f →
    ((s.core m.val).inExc = false → (∀ l ∈ (s.core m.val).due, l.reg ≠ regESTAT ∧ l.reg ≠ regEVB) →
      ∃ t, exec (.exceptionEntry m) s = .next t ∧
        (t.core m.val).pc = (s.core m.val).reg regEVB % 2 ^ 32 ∧
        (t.core m.val).reg regELR = (s.core m.val).pc % 2 ^ 32 / 16 * 16 ∧
        (t.core m.val).reg regESTAT =
          estatAfter ((s.core m.val).reg regESTAT) f.cause f.unit (b2n (s.core m.val).openBoundary) none ∧
        (t.core m.val).reg regEADDR = f.addr ∧ (t.core m.val).branch = none ∧ (t.core m.val).rep = none ∧
        (t.core m.val).resv = none ∧ t.rd (intBit .mdc 3) m.val = 1) ∧
    ((s.core m.val).inExc = true → (∀ l ∈ (s.core m.val).due, l.reg ≠ regESTAT) →
      ∃ t, exec (.exceptionEntry m) s = .next t ∧ t.rd R.MDC_CTRL.RESET m.val = 1 ∧ t.rd R.MDC_STATUS.STATE m.val = 0 ∧
        t.rd R.MDC_EXC_INFO.CAUSE m.val = 11)) ∧
  (∀ (m : Fin 16) (n : Nat) (s : State), s.takesIrq m.val = true → s.latched m.val = some n →
    ∃ t, exec (.interruptEntry m) s = .next t ∧
      (t.core m.val).pc = (s.rd (R.IRQ_MVBASE.ADDR m.val) 0 * 16 + 16 * n) % 2 ^ 32 ∧ (t.core m.val).inIrq = true ∧
      ((∀ l ∈ (s.core m.val).due, l.reg ≠ 64) → (t.core m.val).reg regIRA = (s.core m.val).pc / 16 * 16) ∧
      (t.core m.val).resv = none ∧
      (s.traced m.val = false → t.irqLatches = s.irqLatches.filter (fun l => l != m.val * 256 + n))) ∧
  (∀ (m : Fin 16) (s : State), s.rd R.MDC_STATUS.STATE m.val = 2 →
    ((s.latched m.val).isSome = true ∨ (s.core m.val).haltReq ≠ 0) →
    ∃ t, exec (.napWake m) s = .next t ∧ t.rd R.MDC_STATUS.STATE m.val = 1)

/-- R320, R324, R356: the responses to a core's far accesses, and the NoC's accesses to its scratchpad. -/
def Obligations.CoreTransfersComplete : Prop :=
  (∀ (m : Fin 16) (tag : Fin 64) (status : Fin 8) (w : W128) (r : FarReq) (s : State),
    (s.core m.val).wait.find? (fun r => r.tag == tag.val && r.resp.isNone) = some r →
    ((∃ x ∈ (s.core m.val).wait, x.tag ≠ tag.val ∧ x.resp = none) →
      ∃ t, exec (.farLoadResponse m tag status w) s = .next t ∧
        (t.core m.val).wait = (s.core m.val).wait.map
          (fun x => if x.tag = tag.val then { x with resp := some (status.val, w) } else x)) ∧
    ((∀ x ∈ (s.core m.val).wait, x.tag = tag.val ∨ x.resp.isSome = true) →
      ∃ t, exec (.farLoadResponse m tag status w) s = .next t ∧ (t.core m.val).wait = [])) ∧
  (∀ (m : Fin 16) (tag : Fin 64) (status : Fin 8) (r : Nat × Nat) (s : State),
    (s.core m.val).stores.find? (fun r => r.1 == tag.val) = some r →
    ∃ t, exec (.farStoreError m tag status) s = .next t ∧
      (t.core m.val).stores = (s.core m.val).stores.filter (fun x => x.1 != tag.val) ∧
      (status.val ≠ 0 → t.rd (intBit .mdc 5) m.val = 1)) ∧
  (∀ (m : Fin 16) (forced : Bool) (u : List Upset) (x : BankAcc) (rest : List BankAcc) (s : State),
    (s.core m.val).queue = x :: rest → x.more = 0 → x.bad = 0 →
    (s.upset u).ecc clsScratch (scratchKey m.val (x.word * 16)) = 0 → s.quayIsDead (12 + m.val) = false →
    (x.op = 0 → ∃ t, exec (.scratchpadNocAccess m forced u) s = .next t ∧ (t.core m.val).queue = rest ∧
      t.outbox = s.outbox ++ [.nocResp x.who.node x.tag 0
        (x.got ++ [SMap.get 0 s.scratch (scratchKey m.val (x.word * 16))])] ∧ t.scratch = s.scratch) ∧
    (x.op = 1 → ∃ t, exec (.scratchpadNocAccess m forced u) s = .next t ∧ (t.core m.val).queue = rest ∧
      SMap.get 0 t.scratch (scratchKey m.val (x.word * 16)) =
        mergeBytes (SMap.get 0 s.scratch (scratchKey m.val (x.word * 16))) x.data x.be 16 ∧
      (∀ j, j ≠ scratchKey m.val (x.word * 16) → SMap.get 0 t.scratch j = SMap.get 0 s.scratch j) ∧
      t.outbox = s.outbox ++ [.nocResp x.who.node x.tag 0 x.got]))

/-- R316, R341 to R344: reset of a core, and its watchdog. -/
def Obligations.CoresResetAndWatch : Prop :=
  (∀ (a : Accessor) (m : Fin 16) (clk : Bool) (s : State), s.accessCode a .mdc m.val 0x04 true = 0 →
    ∃ t, exec (.coreReset a m clk) s = .next t ∧ t.rd R.MDC_CTRL.RESET m.val = 1 ∧ t.rd R.MDC_STATUS.STATE m.val = 0 ∧
      t.rd R.MDC_CTRL.CLK_EN m.val = b2n clk ∧ (t.core m.val).resv = none ∧ (t.core m.val).due = [] ∧
      (t.core m.val).pc = s.rd R.MDC_BOOT_ADDR.ADDR m.val * 16 % 2 ^ 32 ∧
      ∀ r, r ≠ 64 → (t.core m.val).reg r = 0) ∧
  (∀ (a : Accessor) (m : Fin 16) (clk : Bool) (s : State), s.accessCode a .mdc m.val 0x04 true = 0 →
    s.on R.MDC_CTRL.RESET m.val = true →
    (s.on R.MDC_CTRL.CLK_EN m.val = true →
      ∃ t, exec (.coreResetRelease a m clk) s = .next t ∧ t.rd R.MDC_CTRL.RESET m.val = 0 ∧
        t.rd R.MDC_STATUS.STATE m.val = 1 ∧ (t.core m.val).pc = s.rd R.MDC_BOOT_ADDR.ADDR m.val * 16 % 2 ^ 32 ∧
        t.outbox = s.outbox ++ [.regResp a 0 0]) ∧
    (s.on R.MDC_CTRL.CLK_EN m.val = false →
      ∃ t, exec (.coreResetRelease a m clk) s = .next t ∧ t.rd R.MDC_CTRL.RESET m.val = 1 ∧
        t.rd R.MDC_STATUS.STATE m.val = s.rd R.MDC_STATUS.STATE m.val ∧ t.cores = s.cores)) ∧
  (∀ (a : Accessor) (m : Fin 16) (v : W32) (s : State), s.accessCode a .mdc m.val 0x50 true = 0 →
    (bitsOf v.toNat 0 16 = 0xA5C3 → ∃ t, exec (.wdtKick a m v) s = .next t ∧
      t.rd R.MDC_WDT_COUNT.US m.val = s.rd R.MDC_WDT_PERIOD.US m.val % 2 ^ 24 ∧ (t.core m.val).warned = false ∧
      t.outbox = s.outbox ++ [.regResp a 0 0]) ∧
    (bitsOf v.toNat 0 16 ≠ 0xA5C3 → ∃ t, exec (.wdtKick a m v) s = .next t ∧
      t.rd R.MDC_WDT_COUNT.US m.val = s.rd R.MDC_WDT_COUNT.US m.val ∧ t.cores = s.cores ∧
      t.rd (errValid .mdc) m.val = 1)) ∧
  (∀ (m : Fin 16) (s : State), s.on R.MDC_WDT_CTRL.EN m.val = true → s.on R.MDC_CTRL.RESET m.val = false →
    s.rd R.MDC_STATUS.STATE m.val ≠ 3 →
    ((s.core m.val).warned = false → ∃ t, exec (.wdtExpiry m) s = .next t ∧ (t.core m.val).warned = true ∧
      t.rd R.MDC_WDT_COUNT.US m.val = s.rd R.MDC_WDT_PERIOD.US m.val % 2 ^ 24 ∧ t.rd (intBit .mdc 0) m.val = 1 ∧
      t.rd R.MDC_CTRL.RESET m.val = 0) ∧
    ((s.core m.val).warned = true → ∃ t, exec (.wdtExpiry m) s = .next t ∧ t.rd R.MDC_CTRL.RESET m.val = 1 ∧
      t.rd R.MDC_STATUS.STATE m.val = 0 ∧ t.rd (intBit .mdc 1) m.val = 1))

/-- R184, R376 to R380, R461, R468, R485: what the mailbox's commands come to. -/
def Obligations.MailboxCommandsRun : Prop :=
  ∀ (a : Accessor) (q : Fin 256) (s : State), s.accessCode a .hst 0 0x40 true = 0 → s.on R.HST_MBX_STATUS.BUSY 0 = false →
    ((s.fwState = 0 ∨ s.fwState = 2) →
      (∃ t, exec (.getInfo a q) s = .next t ∧ t.rd R.HST_MBX_STATUS.BUSY 0 = 1 ∧ t.rd R.HST_MBX_STATUS.DONE 0 = 0 ∧
        ∃ v, t.control.cmd = some ⟨0x01, q.val, some 0,
          [(0, v), (1, s.control.floor % 65536), (2, Config.bootVersion.toNat)]⟩ ∧
          (s.fwState = 0 → v = 0) ∧ (∀ i, s.fwState = 2 → s.control.runs = some i → v = i.version)) ∧
      (∃ t, exec (.echo a q) s = .next t ∧ t.rd R.HST_MBX_STATUS.BUSY 0 = 1 ∧ t.rd R.HST_MBX_STATUS.DONE 0 = 0 ∧
        t.control.cmd = some ⟨0x02, q.val, some 0, [(0, s.arg 0)]⟩)) ∧
    (s.fwState = 2 →
      (s.arg 1 % 16 = 0 → s.loads (bitsOf (s.arg 0) 0 6) = true →
        ∃ t, exec (.loadImage a q) s = .next t ∧ t.control.cmd = some ⟨0x03, q.val, none, []⟩ ∧
          t.control.img = some { p := bitsOf (s.arg 0) 0 6, arg3 := s.arg 3 }) ∧
      (blockExists (bitsOf (s.arg 0) 0 8) (bitsOf (s.arg 0) 8 8) = true →
        (∃ t, exec (.blockEnable a q) s = .next t ∧ t.control.cmd = some ⟨0x04, q.val, some 0, []⟩ ∧
          blockOf (bitsOf (s.arg 0) 0 8) (bitsOf (s.arg 0) 8 8) ∈ t.awake ∧ ∀ k ∈ s.awake, k ∈ t.awake) ∧
        (s.blockUsed ((Page.ofType (bitsOf (s.arg 0) 0 8)).getD .dev) (bitsOf (s.arg 0) 8 8) = false →
          ∃ t, exec (.blockDisable a q) s = .next t ∧ t.control.cmd = some ⟨0x05, q.val, some 0, []⟩ ∧
            t.awake = s.awake.filter (fun k => k != blockOf (bitsOf (s.arg 0) 0 8) (bitsOf (s.arg 0) 8 8))) ∧
        (s.blockUsed ((Page.ofType (bitsOf (s.arg 0) 0 8)).getD .dev) (bitsOf (s.arg 0) 8 8) = true →
          ∃ t, exec (.blockDisable a q) s = .next t ∧ t.control.cmd = some ⟨0x05, q.val, some 3, []⟩ ∧
            t.awake = s.awake)) ∧
      (freqOk (bitsOf (s.arg 0) 0 12) = true →
        (∀ p, p < 64 → s.pstate p ≠ 3 ∧ s.pstate p ≠ 4 ∧ s.pstate p ≠ 6 ∧ s.pstate p ≠ 8) → s.unitState = 0 →
        s.on R.PWR_STATUS.THROTTLED 0 = false →
        ∃ t, exec (.setStepFreq a q) s = .next t ∧ t.control.cmd = some ⟨0x20, q.val, some 0, []⟩ ∧
          t.rd R.PWR_STEP.PROG_MHZ 0 = bitsOf (s.arg 0) 0 12 ∧
          (s.on R.PWR_CLOCKS.STEP_PLL 0 = true → t.rd R.PWR_STEP.CUR_MHZ 0 = bitsOf (s.arg 0) 0 12)) ∧
      (freqOk (bitsOf (s.arg 0) 0 12) = false →
        ∃ t, exec (.setStepFreq a q) s = .next t ∧ t.control.cmd = some ⟨0x20, q.val, some 2, []⟩ ∧
          t.rd R.PWR_STEP.PROG_MHZ 0 = s.rd R.PWR_STEP.PROG_MHZ 0)) ∧
    (s.fwState = 0 →
      (∀ (image : List W32), ∃ t, exec (.fwLoad a q image true) s = .next t ∧
        t.control.cmd = some ⟨0x10, q.val,
          some (s.imageResult (image.take ((s.arg 2 + 3) / 4)) (s.arg 2) true), []⟩ ∧
        t.control.good = (if s.imageResult (image.take ((s.arg 2 + 3) / 4)) (s.arg 2) true = 0
          then some (imageOf (image.take ((s.arg 2 + 3) / 4))) else none)) ∧
      (∀ i, s.control.good = some i →
        ∃ t, exec (.fwStart a q) s = .next t ∧ t.fwState = 1 ∧ t.control.runs = some i ∧
          t.control.floor = max s.control.floor i.security ∧ t.control.cmd = some ⟨0x11, q.val, some 0, []⟩) ∧
      (s.control.good = none →
        ∃ t, exec (.fwStart a q) s = .next t ∧ t.fwState = 0 ∧ t.control.cmd = some ⟨0x11, q.val, some 3, []⟩) ∧
      (s.control.fifo = [] → s.arg 0 ≠ 0 →
        ∃ t, exec (.fwLoadDbg a q) s = .next t ∧ t.control.dbgLen = some (s.arg 0) ∧ t.control.dbgGot = [] ∧
          t.control.good = none ∧ t.control.cmd = some ⟨0x40, q.val, none, []⟩))

/-- R171 to R176, R184, R377, R381, R382, R485: the lines of an image, the completion of a command, the heartbeat, the
watchdogs, and the FIFO of the debug path. -/
def Obligations.FirmwareServes : Prop :=
  (∀ (words : List W128) (chk : W128) (i : ImgLoad) (s : State), s.control.img = some i → s.loads i.p = true →
    i.sect = none → i.header = none → words.length = 8 → lineSealed words chk = true →
    s.headerCheck i words = .goOn → i.line + 1 < bitsOf ((words[1]?).getD 0).toNat 32 32 →
    ∃ t, exec (.imageLine words chk true) s = .next t ∧
      t.control.img = some { i with header := some (words.headD 0, (words[1]?).getD 0), line := i.line + 1 }) ∧
  (∀ (words : List W128) (chk : W128) (i : ImgLoad) (d e : SectLoad) (s s1 : State), s.control.img = some i →
    s.loads i.p = true → i.sect = some d → words.length = 8 → s.loadLine i.p d chk words 0 d = (.goOn, e, s1) →
    e.done + 1 ≠ d.lines → i.line + 1 < i.hdr 1 32 32 →
    ∃ t, exec (.imageLine words chk true) s = .next t ∧ t.dmem = s1.dmem ∧ t.istore = s1.istore ∧ t.rows = s1.rows ∧
      t.netmap = s1.netmap ∧
      t.control.img = some { i with sect := some { e with done := e.done + 1 }, line := i.line + 1 }) ∧
  (∀ (words : List W128) (chk : W128) (i : ImgLoad) (c : MbxCmd) (s : State), s.control.img = some i →
    s.control.cmd = some c →
    ∃ t, exec (.imageLine words chk false) s = .next t ∧ t.control.img = none ∧
      t.control.cmd = some { c with result := some 8, rsp := [] } ∧ (t.part i.p).refusedWord = true ∧
      t.rd (intBit .hst 4) 0 = 1) ∧
  (∀ (c : MbxCmd) (r : Nat) (s : State), s.control.cmd = some c → c.result = some r →
    ∃ t, exec .mailboxCompletion s = .next t ∧ t.rd R.HST_MBX_STATUS.RESULT 0 = r % 16 ∧
      t.rd R.HST_MBX_STATUS.SEQ 0 = c.seq % 256 ∧ t.rd R.HST_MBX_STATUS.DONE 0 = 1 ∧ t.rd R.HST_MBX_STATUS.BUSY 0 = 0 ∧
      t.control.cmd = none ∧ t.rd (intBit .hst 0) 0 = 1 ∧
      (∀ v, c.rsp = [(0, v)] → t.rd (R.HST_MBX_RSP.RSP 0) 0 = v % 2 ^ 32) ∧
      (c.op = 0x11 → s.fwState = 1 → c.rsp = [] → t.fwState = 2)) ∧
  (∀ (s : State), s.fwState = 2 →
    ∃ t, exec .heartbeat s = .next t ∧ t.rd R.HST_MBX_HEARTBEAT.COUNT 0 = (s.rd R.HST_MBX_HEARTBEAT.COUNT 0 + 1) % 2 ^ 32) ∧
  (∀ (k : Fin 4) (s : State), s.controlRuns k.val = true →
    ∃ t, exec (.controlWdtExpiry k) s = .next t ∧ t.fwState = 3 ∧ t.rd R.HST_MBX_STATUS.BUSY 0 = 0 ∧
      t.rd R.HST_MBX_STATUS.DONE 0 = 0 ∧ t.control.cmd = none) ∧
  (∀ (a : Accessor) (v : W32) (s : State), s.accessCode a .dbg 0 0x60 true = 0 → s.control.fifo.length < 64 →
    s.control.dbgLen = none →
    ∃ t, exec (.fwFifoWrite a v) s = .next t ∧ t.control.fifo = s.control.fifo ++ [v] ∧
      t.outbox = s.outbox ++ [.regResp a 0 0]) ∧
  (∀ (c : MbxCmd) (n : Nat) (s : State), s.control.dbgLen = some n → s.control.cmd = some c →
    ∃ t, exec .fwFifoTimeout s = .next t ∧ t.control.dbgLen = none ∧
      t.control.cmd = some { c with result := some 8, rsp := [] })

/-- R384 to R390: the interrupt controller. -/
def Obligations.InterruptControllerActs : Prop :=
  (∀ (a : Accessor) (n : Fin 256) (v : W32) (s : State), s.accessCode a .irq 0 (0x400 + 4 * n.val) true = 0 →
    fixedTarget n.val = false →
    (bitsOf v.toNat 0 2 = 0 →
      ∃ t, exec (.irqTargetWrite a n v) s = .next t ∧ t.rd (R.IRQ_TARGET.KIND n.val) 0 = 0 ∧
        t.irqLatches = s.irqLatches.filter (fun l => l % 256 != n.val) ∧
        t.irqHeld = s.irqHeld.filter (fun h => h != n.val) ∧ t.outbox = s.outbox ++ [.regResp a 0 0]) ∧
    (bitsOf v.toNat 0 2 ≠ 0 → targetExists (bitsOf v.toNat 0 2) (bitsOf v.toNat 2 6) = true →
      s.irqPending n.val = false → s.inService n.val = false →
      ∃ t, exec (.irqTargetWrite a n v) s = .next t ∧ t.rd (R.IRQ_TARGET.KIND n.val) 0 = bitsOf v.toNat 0 2 ∧
        t.rd (R.IRQ_TARGET.INDEX n.val) 0 = bitsOf v.toNat 2 6 ∧ t.rd (R.IRQ_TARGET.PRIO n.val) 0 = bitsOf v.toNat 8 4 ∧
        t.irqLatches = s.irqLatches ∧ t.outbox = s.outbox ++ [.regResp a 0 0])) ∧
  (∀ (k : Fin 4) (n : Nat) (s : State), s.on R.IRQ_CTRL.EN 0 = true → s.controlRuns k.val = true →
    s.offered k.val = some n →
    ∃ t, exec (.controlIrqTake k) s = .next t ∧
      t.irqStack k.val = (n, s.rd (R.IRQ_TARGET.PRIO n) 0) :: s.irqStack k.val ∧
      t.outbox = s.outbox ++ [.irqVector k.val ((s.rd (R.IRQ_CVBASE.ADDR k.val) 0 * 16 + 16 * n) % 2 ^ 32)]) ∧
  (∀ (k : Fin 4) (v : W32) (e : Nat × Nat) (rest : List (Nat × Nat)) (s : State),
    s.accessCode (.fw k) .irq 0 0x60 true = 0 → s.irqStack k.val = e :: rest →
    (e.1 = v.toNat % 256 → ∃ t, exec (.irqEoi (.fw k) v) s = .next t ∧ t.irqStack k.val = rest ∧
      t.outbox = s.outbox ++ [.regResp (.fw k) 0 0]) ∧
    (e.1 ≠ v.toNat % 256 → ∃ t, exec (.irqEoi (.fw k) v) s = .next t ∧ t.fwState = 3 ∧
      bitOf (t.rd R.IRQ_INT_STATUS.STACK_FAULT 0) k.val = 1)) ∧
  (∀ (a : Accessor) (hi : Bool) (v : W32) (s : State),
    (s.accessCode a .irq 0 (if hi then 0xC4 else 0xC0) true = 0 →
      ∃ t, exec (.irqSwset a hi v) s = .next t ∧ t.rd (softPend hi) 0 = (s.rd (softPend hi) 0 ||| v.toNat) % 2 ^ 32) ∧
    (s.accessCode a .irq 0 (if hi then 0xCC else 0xC8) true = 0 →
      ∃ t, exec (.irqSwclr a hi v) s = .next t ∧
        t.rd (softPend hi) 0 = (s.rd (softPend hi) 0 - (s.rd (softPend hi) 0 &&& v.toNat)) % 2 ^ 32))

/-- R391 to R394: posting to the harbourmaster; a head is dispatched, taken, or withdrawn. -/
def Obligations.HarbourmasterPostsAndDispatches : Prop :=
  ((∀ (a : Accessor) (k : Fin 15) (v : W32) (s : State), s.accessCode a .hms 0 (0x100 + 4 * k.val) true = 0 →
      s.hms.held.any (fun h => posterOf h == posterOf a) = false →
      ∃ t, exec (.postWordWrite a k v) s = .next t ∧ SMap.get 0 t.hms.staging (posterOf a * 16 + k.val) = v ∧
        (∀ j, j ≠ posterOf a * 16 + k.val → SMap.get 0 t.hms.staging j = SMap.get 0 s.hms.staging j) ∧
        t.regs = s.regs ∧ t.outbox = s.outbox ++ [.regResp a 0 0]) ∧
    (∀ (a : Accessor) (v : W32) (s : State), s.accessCode a .hms 0 0x13C true = 0 →
      s.hms.held.any (fun h => posterOf h == posterOf a) = false → descOk (((s.stagedDesc (posterOf a))[0]?).getD 0) = true →
      s.freeItems = [] →
      ∃ t, exec (.postCommit a v) s = .next t ∧ t.hms.held = s.hms.held ++ [a] ∧ t.rd R.HMS_STATUS.BP 0 = 1 ∧
        t.outbox = s.outbox ∧ t.dmem = s.dmem) ∧
    (∀ (a : Accessor) (v : W32) (s : State), s.accessCode a .hms 0 0x13C true = 0 →
      s.hms.held.any (fun h => posterOf h == posterOf a) = false → descOk (((s.stagedDesc (posterOf a))[0]?).getD 0) = true →
      s.freeItems ≠ [] → s.berthCheck (s.rd R.HMS_POOL.BANK 0) hmsRequester = 0 →
      (∀ w, s.inJournal (s.rd R.HMS_POOL.BANK 0) w = false) →
      ∃ t i, exec (.postCommit a v) s = .next t ∧ i < 4096 ∧ s.itemState i = 0 ∧ t.itemState i = 1 ∧
        t.hmsQueue (descLevel (((s.stagedDesc (posterOf a))[0]?).getD 0)) =
          s.hmsQueue (descLevel (((s.stagedDesc (posterOf a))[0]?).getD 0)) ++ [i] ∧
        SMap.get none t.hms.posted (posterOf a) = some i ∧ ∃ l, t.outbox = s.outbox ++ l ++ [.regResp a 0 0]) ∧
    (∀ (a : Accessor) (rest : List Accessor) (s : State), s.hms.held = a :: rest → s.hms.waiting = [] → s.freeItems ≠ [] →
      s.berthCheck (s.rd R.HMS_POOL.BANK 0) hmsRequester = 0 → (∀ w, s.inJournal (s.rd R.HMS_POOL.BANK 0) w = false) →
      ∃ t i, exec .backpressureRelease s = .next t ∧ t.hms.held = rest ∧ i < 4096 ∧ s.itemState i = 0 ∧ t.itemState i = 1 ∧
        ∃ l, t.outbox = s.outbox ++ l ++ [.regResp a 0 0]) ∧
    (∀ (a : Accessor) (rest : List Accessor) (s : State), s.hms.held = a :: rest → s.hms.waiting = [] →
      s.rd R.HMS_BP_LIMIT.US 0 ≠ 0 →
      ∃ t, exec .backpressureTimeout s = .next t ∧ t.hms.held = rest ∧ t.rd (intBit .hms 2) 0 = 1 ∧
        ∃ l, t.outbox = s.outbox ++ l ++ [.regResp a 4 0])) ∧
  ((∀ (l i m : Nat) (r : List Nat) (ws : List W128) (pre : Bool) (s s1 : State), s.on R.HMS_CTRL.EN 0 = true → l < 8 →
      (∀ j, j < l → s.hmsQueue j = []) → s.hmsQueue l = i :: r → s.poolLoad (s.poolWord i 0) 4 = (some ws, s1) →
      s1.dispatchTo (descCores ((ws[0]?).getD 0)) l = some (m, pre) →
      ∃ t, exec .dispatchScan s = .next t ∧ t.itemState i = 2 ∧ t.hmsQueue l = r ∧
        t.hmsDispatch m = some ⟨⟨i, l, ws⟩, pre⟩) ∧
    (∀ (m : Fin 16) (d : HmsDispatch) (s : State), s.accessCode (.core m) .hms 0 0x60 false = 0 →
      s.hms.held.any (fun h => posterOf h == posterOf (.core m)) = false → s.hmsDispatch m.val = some d →
      ∃ t, exec (.hmsTake (.core m)) s = .next t ∧ t.itemState d.item.idx = 3 ∧ t.hmsDispatch m.val = none ∧
        t.hmsStack m.val = d.item :: s.hmsStack m.val ∧
        t.outbox = s.outbox ++ [.regResp (.core m) 0
          (BitVec.ofNat 32 (d.item.idx + 2 ^ 12 * d.item.level + 2 ^ 15 * b2n d.preempt + 2 ^ 31))]) ∧
    (∀ (m : Fin 16) (d : HmsDispatch) (s : State), s.hmsDispatch m.val = some d → s.rd R.MDC_STATUS.STATE m.val ≠ 3 →
      ∃ t, exec (.takeTimeout m) s = .next t ∧ t.hmsDispatch m.val = none ∧ t.itemState d.item.idx = 1 ∧
        t.hmsQueue d.item.level = d.item.idx :: s.hmsQueue d.item.level ∧ t.rd (intBit .hms 1) 0 = 1))

/-- R395, R397: an item completes, fails or is cancelled. -/
def Obligations.HarbourmasterCompletes : Prop :=
  (∀ (m : Fin 16) (v : W32) (i : HmsItem) (rest : List HmsItem) (s : State),
    s.hms.held.any (fun h => posterOf h == posterOf (.core m)) = false → s.hmsStack m.val = i :: rest →
    (s.accessCode (.core m) .hms 0 0x64 true = 0 →
      ∃ t, exec (.hmsDone (.core m) v) s = .next t ∧ t.hmsStack m.val = rest ∧
        (descResult i.head = 0 → t.itemState i.idx = 0) ∧
        (descResult i.head ≠ 0 → ∀ d, s.nodeOfAddress (.fw 0) (descResult i.head) = some d → s.routeOk 38 d = true →
          s.quayIsDead 38 = false → s.hms.completing.length < 64 →
          t.hms.completing = s.hms.completing ++ [⟨freeTag (s.hms.completing.map (fun c => c.tag)), i⟩] ∧
          t.outbox = s.outbox ++ [.nocReq 38 (freeTag (s.hms.completing.map (fun c => c.tag))) 1 (descResult i.head) 65535
            [completionRecord i m.val 1 v.toNat], .regResp (.core m) 0 0])) ∧
    (s.accessCode (.core m) .hms 0 0x68 true = 0 →
      ∃ t, exec (.hmsFail (.core m) v) s = .next t ∧ t.hmsStack m.val = rest ∧
        (descResult i.head = 0 → t.itemState i.idx = 0) ∧
        (descResult i.head ≠ 0 → ∀ d, s.nodeOfAddress (.fw 0) (descResult i.head) = some d → s.routeOk 38 d = true →
          s.quayIsDead 38 = false → s.hms.completing.length < 64 →
          t.outbox = s.outbox ++ [.nocReq 38 (freeTag (s.hms.completing.map (fun c => c.tag))) 1 (descResult i.head) 65535
            [completionRecord i m.val 2 v.toNat], .regResp (.core m) 0 0]))) ∧
  (∀ (tag : Fin 64) (status : Fin 8) (c : HmsDone) (s : State), s.hms.completing.find? (fun c => c.tag == tag.val) = some c →
    ∃ t, exec (.completionRecordResponse tag status) s = .next t ∧ t.itemState c.item.idx = 0 ∧
      (s.hms.unsent = [] → t.hms.completing = s.hms.completing.filter (fun x => x.tag != tag.val)) ∧
      ∀ u r, s.hms.unsent = u :: r → s.hms.completing.length ≤ 64 → t.hms.unsent = r) ∧
  (∀ (a : Accessor) (v : W32) (l : Nat) (ws : List W128) (s s1 : State), s.accessCode a .hms 0 0x58 true = 0 →
    s.hms.held.any (fun h => posterOf h == posterOf a) = false →
    (List.range 8).find? (fun l => (s.hmsQueue l).contains (bitsOf v.toNat 0 12)) = some l →
    s.poolLoad (s.poolWord (bitsOf v.toNat 0 12) 0) 4 = (some ws, s1) →
    ∃ t, exec (.hmsCancel a v) s = .next t ∧
      t.hmsQueue l = (s.hmsQueue l).filter (fun x => x != bitsOf v.toNat 0 12) ∧
      (descResult ((ws[0]?).getD 0) = 0 → t.itemState (bitsOf v.toNat 0 12) = 0))

/-- R27 to R29, R132, R399 to R401, R403: what answers a request, what a bank takes, and the request whose OP is
reserved, to which the spec gives no effect where a block performs it; a response completes the access of its
initiator, and a dead quay absorbs it; a quay dies and is revived. -/
def Obligations.QuaysAnswerAndTake : Prop :=
  ((∀ (k : Packet) (s : State), 4 ≤ k.op.val → s.performed k = true → exec (.nocRequest k) s = .fault .reservedNocOp) ∧
    (∀ (k : Packet) (s : State), 2 ≤ s.rd R.PWR_STATUS.DEV_STATE 0 → s.ownerOf k = none →
      exec (.nocRequest k) s = .next ((s.bareSent k).emit (.nocResp k.src.val k.tag.val 1 []))) ∧
    (∀ (k : Packet) (d : Nat) (s : State), 2 ≤ s.rd R.PWR_STATUS.DEV_STATE 0 → s.ownerOf k = some d →
      d ≠ k.dest.val → exec (.nocRequest k) s = .next ((s.bareSent k).emit (.nocResp k.src.val k.tag.val 7 []))) ∧
    (∀ (k : Packet) (s : State), 2 ≤ s.rd R.PWR_STATUS.DEV_STATE 0 → s.ownerOf k = some k.dest.val →
      s.quayIsDead k.dest.val = true → forEdge k.addr.toNat = false →
      exec (.nocRequest k) s = .next ((s.bareSent k).emit (.nocResp k.src.val k.tag.val 6 []))) ∧
    (∀ (k : Packet) (s : State), k.op.val = 0 → k.len.val = 0 → k.addr.toNat < 0x40000 →
      2 ≤ s.rd R.PWR_STATUS.DEV_STATE 0 → s.ownerOf k = some k.dest.val → s.quayIsDead k.dest.val = false →
      exec (.nocRequest k) s =
        .next ((s.bareSent k).emit (.nocResp k.src.val k.tag.val 0 [Config.bootRom (k.addr.toNat / 16)]))) ∧
    (∀ (k : Packet) (s : State), k.op.val = 1 → k.addr.toNat < 0x40000 →
      2 ≤ s.rd R.PWR_STATUS.DEV_STATE 0 → s.ownerOf k = some k.dest.val → s.quayIsDead k.dest.val = false →
      exec (.nocRequest k) s = .next ((s.bareSent k).emit (.nocResp k.src.val k.tag.val 4 []))) ∧
    (∀ (k : Packet) (s : State), 0x100000000 ≤ k.addr.toNat → k.addr.toNat < 0x130000000 →
      2 ≤ s.rd R.PWR_STATUS.DEV_STATE 0 → s.ownerOf k = some k.dest.val → s.quayIsDead k.dest.val = false →
      s.awake.contains (blockKey .dmb (bankOfAddress k.addr.toNat)) = false →
      exec (.nocRequest k) s = .next ((s.bareSent k).emit (.nocResp k.src.val k.tag.val 2 []))) ∧
    (∀ (k : Packet) (s : State), k.op.val < 4 → 0x100000000 ≤ k.addr.toNat → k.addr.toNat < 0x130000000 →
      2 ≤ s.rd R.PWR_STATUS.DEV_STATE 0 → s.ownerOf k = some k.dest.val → s.quayIsDead k.dest.val = false →
      s.awake.contains (blockKey .dmb (bankOfAddress k.addr.toNat)) = true → bareQuay k.src.val = false →
      s.heldPackets (bankOfAddress k.addr.toNat / 8) = [] → s.bankTakes k = true →
      s.berthCheck (bankOfAddress k.addr.toNat) (s.requesterOf k.src.val k.tag.val) = 0 →
      ∃ t, exec (.nocRequest k) s = .next t ∧ t.dmem = s.dmem ∧ t.outbox = s.outbox ∧
        (t.bank (bankOfAddress k.addr.toNat)).queue =
          (s.bank (bankOfAddress k.addr.toNat)).queue ++ [{ s.bankAccessOf k with old := true }])) ∧
  ((∀ (q : Fin 44) (tag : Fin 64) (status : Fin 8) (data : List SealedWord) (ok : Bool) (s : State), s.quayIsDead q.val = true →
      exec (.nocResponse q tag status data ok) s = .next s) ∧
    (∀ (tag : Fin 64) (status : Fin 8) (data : List SealedWord) (ok : Bool) (s : State), 2 ≤ s.rd R.PWR_STATUS.DEV_STATE 0 →
      s.quayIsDead 38 = false →
      exec (.nocResponse 38 tag status data ok) s = exec (.completionRecordResponse tag status) s) ∧
    (∀ (u : Fin 4) (q : Fin 44) (tag : Fin 64) (status : Fin 8) (data : List SealedWord) (ok : Bool) (s : State),
      q.val = 28 + u.val → 2 ≤ s.rd R.PWR_STATUS.DEV_STATE 0 → s.quayIsDead q.val = false →
      exec (.nocResponse q tag status data ok) s = exec (.acqWriteResponse u tag status) s) ∧
    (∀ (m : Fin 16) (q : Fin 44) (tag : Fin 64) (status : Fin 8) (data : List SealedWord) (s : State),
      q.val = 12 + m.val → sealsCheck (data.map (·.word)) (data.map (·.sealBits)) = true →
      2 ≤ s.rd R.PWR_STATUS.DEV_STATE 0 → s.quayIsDead q.val = false →
      (s.core m.val).wait.any (fun r => r.tag == tag.val) = true →
      exec (.nocResponse q tag status data true) s = exec (.farLoadResponse m tag status ((data.map (·.word)).headD 0)) s) ∧
    (∀ (n p : Nat) (q : Fin 44) (tag : Fin 64) (status : Fin 8) (data : List SealedWord) (c : MemWait)
      (s : State), tag.val = n → q.val = n / 8 → sealsCheck (data.map (·.word)) (data.map (·.sealBits)) = true → 2 ≤ s.rd R.PWR_STATUS.DEV_STATE 0 →
      s.quayIsDead q.val = false → s.holderOf n = some p →
      (s.part p).memWaits.find? (fun c => c.bunch == n && decide (2 ≤ c.kind)) = some c →
      ∃ t, exec (.nocResponse q tag status data true) s = .next t ∧
        (t.part p).memWaits = (s.part p).memWaits.filter (fun y => !(y.bunch == n && decide (2 ≤ y.kind))) ∧
        (c.kind = 2 → status.val = 0 → SMap.get none t.rpend n = some ((data.map (·.word)).headD 0))) ∧
    (∀ (q : Fin 44) (tag : Fin 64) (status : Fin 8) (data : List SealedWord) (ok : Bool)
      (r : Nat × Nat × Nat) (s : State), bareQuay q.val = true → 2 ≤ s.rd R.PWR_STATUS.DEV_STATE 0 →
      s.quayIsDead q.val = false → s.quayReqs.find? (fun r => r.1 == q.val && r.2.1 == tag.val) = some r →
      ∃ t, exec (.nocResponse q tag status data ok) s = .next t ∧
        t.quayReqs = s.quayReqs.filter (fun x => !(x.1 == q.val && x.2.1 == tag.val)) ∧
        (status.val = 1 → t.rd (intBit .noc 1) q.val = 1)) ∧
    (∀ (q : Fin 44) (s : State), 2 ≤ s.rd R.PWR_STATUS.DEV_STATE 0 → s.quayIsDead q.val = false →
      ∃ t, exec (.quayDead q) s = .next t ∧ t.rd R.NOC_STATUS.DEAD q.val = 1 ∧ t.rd (intBit .noc 0) q.val = 1) ∧
    (∀ (a : Accessor) (q : Fin 44) (s : State), s.accessCode a .noc q.val 0x04 true = 0 →
      ∃ t, exec (.revive a q) s = .next t ∧ t.rd R.NOC_STATUS.DEAD q.val = 0 ∧ t.outbox = s.outbox ++ [.regResp a 0 0]))

/-- R412, R417 to R419, R421, R422, R424: the commands of an acquisition unit, its samples and its writes. -/
def Obligations.AcquisitionCaptures : Prop :=
  (∀ (a : Accessor) (u : Fin 4) (s : State), s.accessCode a .acq u.val 0x40 true = 0 →
    ((s.acqState u.val = 0 ∨ s.acqState u.val = 4 ∨ s.acqState u.val = 5) → s.mayArm u.val = true →
      ∃ t, exec (.arm a u) s = .next t ∧
        t.acqState u.val = (if s.rd R.ACQ_MIN_PRE.SAMPLES u.val = 0 then 2 else 1) ∧
        (t.acq u.val).fifo = [] ∧ (t.acq u.val).events = 0 ∧ (t.acq u.val).ending = false ∧
        t.rd R.ACQ_DROPPED.COUNT u.val = 0 ∧ t.rd R.ACQ_STATUS.TRIGGERED u.val = 0 ∧
        t.rd R.ACQ_STATUS.SEQ_STATE u.val = 0 ∧ t.outbox = s.outbox ++ [.regResp a 0 0]) ∧
    (s.mayArm u.val = false →
      ∃ t, exec (.arm a u) s = .next t ∧ t.acqState u.val = s.acqState u.val ∧ t.acqs = s.acqs ∧
        t.rd (errValid .acq) u.val = 1) ∧
    ((s.acqState u.val = 1 ∨ s.acqState u.val = 2) → (s.acq u.val).blk = none →
      ((s.acq u.val).fifo = [] → (s.acq u.val).out.any (fun o => o.2.2) = false →
        ∃ t, exec (.acqStop a u) s = .next t ∧ t.acqState u.val = 4 ∧ t.rd (intBit .acq 1) u.val = 1) ∧
      ((s.acq u.val).fifo ≠ [] →
        ∃ t, exec (.acqStop a u) s = .next t ∧ t.acqState u.val = s.acqState u.val ∧ (t.acq u.val).ending = true ∧
          (t.acq u.val).fifo = (s.acq u.val).fifo)) ∧
    (s.acqState u.val = 2 →
      ∃ t, exec (.force a u) s = .next t ∧ (t.acq u.val).force = true ∧ t.regs = s.regs ∧
        t.outbox = s.outbox ++ [.regResp a 0 0])) ∧
  (∀ (u : Fin 4) (x : AcqSample) (b : AcqBlock) (s : State), s.capturing u.val = true →
    s.rd R.ACQ_CTRL.CLK_SRC u.val ≠ 2 → (s.acq u.val).due = [some x] → s.acqState u.val = 1 →
    ((s.acq u.val).fifo.filter (fun w => w.sample)).length < 1024 → (s.acq u.val).blk = some b → b.count < 14 →
    ∃ t, exec (.acqSample u) s = .next t ∧ (t.acq u.val).due = [] ∧ (t.acq u.val).prev = some x.probe ∧
      (t.acq u.val).fifo = (s.acq u.val).fifo ++ [⟨16 * b.block + 1 + b.count, x.probe, true⟩] ∧
      (t.acq u.val).taken = (s.acq u.val).taken + 1 ∧
      t.acqState u.val = (if s.rd R.ACQ_MIN_PRE.SAMPLES u.val ≤ (s.acq u.val).taken + 1 then 2 else 1)) ∧
  (∀ (u : Fin 4) (w : AcqWord) (rest : List AcqWord) (tag : Nat) (s : State), (s.acq u.val).fifo = w :: rest →
    (List.range 64).find? (fun t => !(s.acq u.val).out.any (fun o => o.1 == t)) = some tag →
    s.routeOk (28 + u.val) ((s.acqPlace u.val w.word).1 / 8) = true → s.quayIsDead (28 + u.val) = false →
    ∃ t, exec (.acqBufferWrite u) s = .next t ∧ (t.acq u.val).fifo = rest ∧
      (t.acq u.val).out = (s.acq u.val).out ++
        [(tag, bankAddress (s.acqPlace u.val w.word).1 (s.acqPlace u.val w.word).2, true)] ∧
      t.outbox = s.outbox ++ [.nocReq (28 + u.val) tag 1
        (bankAddress (s.acqPlace u.val w.word).1 (s.acqPlace u.val w.word).2) 65535 [w.data]]) ∧
  (∀ (u : Fin 4) (tag : Fin 64) (status : Fin 8) (o : Nat × Nat × Bool) (s : State),
    (s.acq u.val).out.find? (fun o => o.1 == tag.val) = some o →
    ∃ t, exec (.acqWriteResponse u tag status) s = .next t ∧
      (t.acq u.val).out = (s.acq u.val).out.filter (fun y => y.1 != tag.val) ∧
      (o.2.2 = true → status.val ≠ 0 → s.acqState u.val ≠ 5 →
        t.acqState u.val = 5 ∧ (t.acq u.val).fifo = [] ∧ t.rd (intBit .acq 3) u.val = 1))

/-- R15, R24, R420, R428, R429: the time-to-digital converters, and the readout window. -/
def Obligations.StampsAndReadout : Prop :=
  (∀ (r : Fin 32) (rising : Bool) (sub : Fin 128) (s : State), s.tdcSees r.val = true →
    bitOf (s.rd (R.ACQ_TDC_CTRL.EDGES r.val) 0) (if rising then 0 else 1) = 1 →
    ((s.tdc r.val).lastEdge = none →
      ∃ t, exec (.tdcEdge r rising sub) s = .next t ∧
        (t.tdc r.val).lastEdge = some (s.now / 65536 * 128 + sub.val) ∧
        (t.tdc r.val).waiting = (s.tdc r.val).waiting ++
          [((((s.now / 65536 * 128 + sub.val : Nat) : Int) - skewOf (s.rd (R.ACQ_TDC_CTRL.SKEW r.val) 0)).toNat, rising)] ∧
        t.regs = s.regs) ∧
    (∀ e, (s.tdc r.val).lastEdge = some e → e ≤ s.now / 65536 * 128 + sub.val →
      s.now / 65536 * 128 + sub.val < e + 256 →
      ∃ t, exec (.tdcEdge r rising sub) s = .next t ∧ t.rd (R.ACQ_TDC_LAST.OVERRUN r.val) 0 = 1 ∧ t.tdcs = s.tdcs)) ∧
  (∀ (r : Fin 32) (st : Nat) (rising : Bool) (rest : List (Nat × Bool)) (s : State),
    (s.tdc r.val).waiting = (st, rising) :: rest →
    ∃ t, exec (.tdcStampAvailable r) s = .next t ∧ (t.tdc r.val).waiting = rest ∧
      t.rd (R.ACQ_TDC_LAST.VALID r.val) 0 = 1 ∧ t.rd (R.ACQ_TDC_LAST.RISING r.val) 0 = b2n rising ∧
      t.rd (R.ACQ_TDC_LAST.NS r.val) 0 = st / 128 % 1000000000 ∧
      t.rd (R.ACQ_TDC_LAST.FRAC r.val) 0 = st * 512 % 65536 ∧
      ∀ u, u < 4 → s.rd R.ACQ_CTRL.PIN u = r.val → (t.acq u).pins = (s.acq u).pins ++ [st * 512]) ∧
  (∀ (a : Accessor) (u : Fin 4) (v : W32) (s : State), s.accessCode a .acq u.val 0x2C0 true = 0 →
    (v.toNat % 2 ^ 22 < s.acqWords u.val →
      ∃ t, exec (.rdIndexWrite a u v) s = .next t ∧ t.rd R.ACQ_RD_INDEX.WORD u.val = v.toNat % 2 ^ 22 ∧
        t.outbox = s.outbox ++ [.regResp a 0 0]) ∧
    (s.acqWords u.val ≤ v.toNat % 2 ^ 22 →
      ∃ t, exec (.rdIndexWrite a u v) s = .next t ∧
        t.rd R.ACQ_RD_INDEX.WORD u.val = s.rd R.ACQ_RD_INDEX.WORD u.val ∧ t.rd (errValid .acq) u.val = 1)) ∧
  (∀ (a : Accessor) (u k : Fin 4) (us : List Upset) (v : W128) (s : State),
    s.accessCode a .acq u.val (0x2D0 + 4 * k.val) false = 0 →
    (k.val = 0 → s.rd R.ACQ_RD_INDEX.WORD u.val < s.acqWords u.val →
      ∀ s1, (s.upset us).windowWord u.val = (some v, s1) →
      ∃ t l, exec (.rdDataRead a u k us) s = .next t ∧
        SMap.get none t.captures (stageKey a .acq u.val 0x2D0) = some v ∧
        t.outbox = s.outbox ++ l ++ [.regResp a 0 (BitVec.ofNat 32 (wordOf v 0))]) ∧
    (k.val ≠ 0 → SMap.get none s.captures (stageKey a .acq u.val 0x2D0) = some v →
      ∃ t, exec (.rdDataRead a u k us) s = .next t ∧
        t.outbox = s.outbox ++ [.regResp a 0 (BitVec.ofNat 32 (wordOf v k.val))] ∧ t.regs = s.regs))

/-- R434 to R438: the commands of the time base, its slew and its watch. -/
def Obligations.TimeIsKept : Prop :=
  (∀ (a : Accessor) (s : State), s.accessCode a .tim 0 0x40 true = 0 →
    (s.timeState = 0 → 0 ≤ (s.now : Int) + s.offsetValue →
      (s.now : Int) + s.offsetValue < 2 ^ 64 * 1000000000 * 65536 →
      ∃ t, exec (.offset a) s = .next t ∧ t.timeState = 1 ∧ t.rd R.TIM_STATUS.LOCKED 0 = 1 ∧ t.timeRemain = 0 ∧
        t.timeSince = 0 ∧ (t.now : Int) = s.now + s.offsetValue ∧ t.rd (intBit .tim 0) 0 = 1 ∧
        ∀ p < 64, s.rd R.PRT_STATUS.WAIT_LOCK p = 1 → t.rd R.PRT_STATUS.WAIT_LOCK p = 0) ∧
    ((s.timeState = 1 ∨ s.timeState = 2) → s.offsetValue.natAbs ≤ 65536 * s.rd R.TIM_STEP_LIMIT.NS 0 →
      ∃ t, exec (.offset a) s = .next t ∧ t.timeState = 1 ∧ t.timeRemain = 2 ^ 40 * s.offsetValue ∧ t.timeSince = 0 ∧
        t.tb = s.tb ∧ t.parts = s.parts ∧ (s.timeState = 2 → t.rd (intBit .tim 3) 0 = 1)) ∧
    ((s.timeState = 1 ∨ s.timeState = 2) → 65536 * s.rd R.TIM_STEP_LIMIT.NS 0 < s.offsetValue.natAbs →
      ∃ t, exec (.offset a) s = .next t ∧ t.timeState = 2 ∧ t.timeRemain = 0 ∧ t.tb = s.tb ∧ t.timeSince = s.timeSince ∧
        t.rd64 R.TIM_REFUSED_LO.OFFSET R.TIM_REFUSED_HI.OFFSET 0 = ofSigned 64 s.offsetValue ∧
        t.rd (intBit .tim 1) 0 = 1 ∧ (s.timeState = 1 → t.rd (intBit .tim 2) 0 = 1)) ∧
    (s.timeHeld = false →
      ∃ t, exec (.unlock a) s = .next t ∧ t.timeState = 0 ∧ t.rd R.TIM_STATUS.LOCKED 0 = 0 ∧
        t.rd R.TIM_STATUS.SLEWING 0 = 0 ∧ t.timeRemain = 0 ∧ t.tb = s.tb ∧ t.parts = s.parts) ∧
    (s.timeHeld = true →
      ∃ t, exec (.unlock a) s = .next t ∧ t.timeState = s.timeState ∧ t.timeRemain = s.timeRemain ∧ t.tb = s.tb ∧
        t.rd (errValid .tim) 0 = 1) ∧
    (∀ w, s.rd128 R.TIM_SET.TIME0 R.TIM_SET.TIME1 R.TIM_SET.TIME2 R.TIM_SET.TIME3 0 = w → s.timeState = 0 →
      bitsOf w.toNat 32 32 < 1000000000 →
      ∃ t, exec (.set a) s = .next t ∧ t.tb = 2 ^ 40 * timeOf w ∧ t.timeState = 0 ∧ t.timeRemain = 0) ∧
    (s.timeState ≠ 0 →
      ∃ t, exec (.set a) s = .next t ∧ t.tb = s.tb ∧ t.timeState = s.timeState ∧ t.rd (errValid .tim) 0 = 1)) ∧
  (∀ (a : Accessor) (v : W32) (s : State), s.accessCode a .tim 0 0x44 true = 0 →
    (s.timeState ≠ 2 → (signedOf 32 v.toNat).natAbs ≤ 1099511627 →
      ∃ t, exec (.rateWrite a v) s = .next t ∧ t.rd R.TIM_RATE.RATE 0 = v.toNat ∧ t.tb = s.tb ∧
        t.outbox = s.outbox ++ [.regResp a 0 0]) ∧
    ((s.timeState = 2 ∨ 1099511627 < (signedOf 32 v.toNat).natAbs) →
      ∃ t, exec (.rateWrite a v) s = .next t ∧ t.rd R.TIM_RATE.RATE 0 = s.rd R.TIM_RATE.RATE 0 ∧ t.tb = s.tb ∧
        t.rd (errValid .tim) 0 = 1)) ∧
  (∀ s : State, s.timeRemain ≠ 0 → s.slewStep ≠ 0 → s.timeState < 4 →
    ∃ t, exec .slewComplete s = .next t ∧ t.timeRemain = 0 ∧ t.rd R.TIM_STATUS.SLEWING 0 = 0 ∧
      t.timeState = s.timeState ∧
      t.tb = (s.tb + (((s.timeRemain.natAbs + s.slewStep.natAbs - 1) / s.slewStep.natAbs : Nat) *
        (2 ^ 56 + 65536 * s.rate) + s.timeRemain)).toNat ∧ t.outbox = s.outbox) ∧
  (∀ s : State, s.timeState = 1 →
    (s.rd R.TIM_WATCH_MS.MS 0 ≠ 0 →
      ∃ t, exec .holdoverWatchExpiry s = .next t ∧ t.timeState = 2 ∧ t.timeRemain = s.timeRemain ∧ t.tb = s.tb ∧
        t.rd (intBit .tim 2) 0 = 1) ∧
    (s.rd R.TIM_WATCH_MS.MS 0 = 0 → exec .holdoverWatchExpiry s = .next s))

/-- R441 to R445: frames and links of the Ethernet ports. -/
def Obligations.EthernetPortsRun : Prop :=
  (∀ (n : Fin 8) (b : List Byte) (us : List Upset) (s : State), s.ethRuns n.val = true →
    (∃ t, exec (.ethFrameReceive n b false us) s = .next t ∧
      t.rd (R.ETH_P_FCS_ERR.COUNT n.val) 0 = satAdd (R.ETH_P_FCS_ERR.COUNT n.val).width (s.rd (R.ETH_P_FCS_ERR.COUNT n.val) 0) 1 ∧
      t.rd (R.ETH_P_RX_FRAMES.COUNT n.val) 0 = s.rd (R.ETH_P_RX_FRAMES.COUNT n.val) 0 ∧ t.outbox = s.outbox ∧
      t.dmem = s.dmem) ∧
    (s.rd (R.ETH_P_CTRL.MAX_LEN n.val) 0 < b.length →
      ∃ t, exec (.ethFrameReceive n b true us) s = .next t ∧
        t.rd (R.ETH_P_RX_DROPPED.COUNT n.val) 0 =
          satAdd (R.ETH_P_RX_DROPPED.COUNT n.val).width (s.rd (R.ETH_P_RX_DROPPED.COUNT n.val) 0) 1 ∧
        t.rd ⟨.eth, 0x108 + 0x80 * n.val, 3, 1, .w1c, 0⟩ 0 = 1 ∧ t.dmem = s.dmem) ∧
    (b.length ≤ s.rd (R.ETH_P_CTRL.MAX_LEN n.val) 0 →
      0 ≤ (s.now : Int) + 65536 * (-(signedOf 32 (s.rd (R.ETH_P_INGRESS_PS.PS n.val) 0))) / 1000 →
      s.gptpOn n.val = true → isGptp b = true →
      ∃ t, exec (.ethFrameReceive n b true us) s = .next t ∧
        t.rd (R.ETH_P_RX_FRAMES.COUNT n.val) 0 =
          satAdd (R.ETH_P_RX_FRAMES.COUNT n.val).width (s.rd (R.ETH_P_RX_FRAMES.COUNT n.val) 0) 1 ∧
        t.outbox = s.outbox ++ [.gptpFrame n.val b
          (timeWord ((s.now : Int) + 65536 * (-(signedOf 32 (s.rd (R.ETH_P_INGRESS_PS.PS n.val) 0))) / 1000).toNat)] ∧
        t.dmem = s.dmem)) ∧
  (∀ (a : Accessor) (n : Fin 8) (v : W32) (s : State), s.accessCode a .eth 0 (0x128 + 0x80 * n.val) true = 0 →
    bitOf v.toNat 0 = 1 →
    ∃ t, exec (.ethTxKick a n v) s = .next t ∧ n.val ∈ t.ethKicked ∧ t.regs = s.regs ∧
      t.outbox = s.outbox ++ [.regResp a 0 0]) ∧
  (∀ (n : Fin 8) (us : List Upset) (s : State), s.ethRuns n.val = true → n.val ∈ s.ethKicked →
    (∀ w s1, (s.upset us).portRead 35 (s.ethSlot (R.ETH_P_TX_BASE.BASE n.val) (R.ETH_P_TX_CFG.POS n.val)) = (0, w, s1) →
      (dscOwn w = false →
        ∃ t, exec (.ethFrameTransmit n us) s = .next t ∧ n.val ∉ t.ethKicked ∧
          t.rd (R.ETH_P_TX_FRAMES.COUNT n.val) 0 = s.rd (R.ETH_P_TX_FRAMES.COUNT n.val) 0) ∧
      (∀ b s2, dscOwn w = true → dscAddr w % 16 = 0 → dscLen w ≠ 0 → dscLen w ≤ s1.rd (R.ETH_P_CTRL.MAX_LEN n.val) 0 →
        s1.ethFetch n.val (dscAddr w) (dscLen w) 1024 = (0, b, s2) → (s2.gptpOn n.val && isGptp b) = false →
        ∃ t l m, exec (.ethFrameTransmit n us) s = .next t ∧
          t.outbox = l ++ [.ethFrame n.val b (max 60 b.length) true] ++ m ∧
          t.rd ⟨.eth, 0x108 + 0x80 * n.val, 2, 1, .w1c, 0⟩ 0 = 1 ∧
          t.rd (R.ETH_P_TX_FRAMES.COUNT n.val) 0 =
            satAdd (R.ETH_P_TX_FRAMES.COUNT n.val).width (s2.rd (R.ETH_P_TX_FRAMES.COUNT n.val) 0) 1))) ∧
  (∀ (n : Fin 8) (up an : Bool) (s : State), s.ethRuns n.val = true →
    ∃ t, exec (.ethLinkChange n up an) s = .next t ∧ t.rd (R.ETH_P_STATUS.LINK n.val) 0 = b2n up ∧
      t.rd (R.ETH_P_STATUS.AN_DONE n.val) 0 =
        b2n (up && an && s.rd (R.ETH_P_CTRL.MODE n.val) 0 == 0 && s.on (R.ETH_P_CTRL.AN_EN n.val) 0) ∧
      (s.on (R.ETH_P_STATUS.LINK n.val) 0 ≠ up → t.rd ⟨.eth, 0x108 + 0x80 * n.val, 0, 1, .w1c, 0⟩ 0 = 1) ∧
      (s.on (R.ETH_P_STATUS.LINK n.val) 0 = up → t.outbox = s.outbox))

/-- R404, R450 to R452, R454, R455, R458: the PCIe endpoint: requests of the host, the link, configuration space and
the messages. A BAR2 request of one word is sent through quay 34; a read waits behind writes without a response. -/
def Obligations.EndpointServesTheHost : Prop :=
  (∀ (q : HostRequest) (s : State),
    (s.linkUp = false → exec (.hostAccess q) s = .next s) ∧
    (s.linkUp = true → s.pcie.mse = false → hostReads q = true →
      exec (.hostAccess q) s = .next { s with outbox := s.outbox ++ [.completion 1 []] }) ∧
    (s.linkUp = true → s.pcie.mse = false → hostReads q = false → exec (.hostAccess q) s = .next s)) ∧
  (∀ (off : BitVec 28) (write : Bool) (be : BitVec 16) (v : W128) (addr d tag : Nat) (s : State),
    s.linkUp = true → s.pcie.mse = true → s.hostWaiting = [] → addr = s.bar2Address (off.toNat / 16 * 16) →
    memNode addr = some d → s.routeOk 34 d = true → s.quayIsDead 34 = false →
    ((write = true ∨ s.hostWritesOut = false) → s.hostTag = some tag →
      ∃ t, exec (.hostAccess (.bar2 off write [(be, v)])) s = .next t ∧ t.hostOut = s.hostOut ++ [(tag, addr, write)] ∧
        t.hostWaiting = [] ∧ t.dmem = s.dmem ∧
        t.outbox = s.outbox ++ [.nocReq 34 tag (b2n write) addr be.toNat (if write then [v] else [])]) ∧
    (write = false → s.hostWritesOut = true →
      ∃ t, exec (.hostAccess (.bar2 off write [(be, v)])) s = .next t ∧
        t.hostWaiting = [⟨false, addr, be.toNat, v, false⟩] ∧ t.hostOut = s.hostOut ∧ t.outbox = s.outbox)) ∧
  (∀ (off : BitVec 26) (size : Fin 65) (v : BitVec 64) (p : Page) (node : Nat) (s : State), s.linkUp = true →
    s.pcie.mse = true → s.hostWaiting = [] → size.val = 4 → pageAt off.toNat = some (p, node) →
    ∃ t, exec (.hostAccess (.bar0 off size true v)) s = .next t ∧
      t.regs = (s.regWrite .host ⟨p, ⟨node % 64, Nat.mod_lt _ (by decide)⟩, ⟨off.toNat % 4096, Nat.mod_lt _ (by decide)⟩⟩
        (BitVec.ofNat 32 v.toNat)).regs) ∧
  (∀ (a : Accessor) (v : Fin 64) (s : State), s.accessCode a .hst 0 (0x80C + 16 * v.val) true = 0 →
    ∃ t, exec (.msixUnmask a v) s = .next t ∧ t.vectorMasked v.val = false ∧ t.regs = s.regs ∧
      (s.rd R.HST_STATUS.MSIX_EN 0 = 1 → s.msixFuncMask = false → s.msixPending.getLsbD v.val = true →
        t.msixPending.getLsbD v.val = false ∧ Output.msix v.val ∈ t.outbox)) ∧
  (∀ s : State, ∃ t, exec .pcieLinkLoss s = .next t ∧ t.pcie = {} ∧ t.rd R.HST_STATUS.LINK_SPEED 0 = 0 ∧
    t.rd R.HST_STATUS.LINK_WIDTH 0 = 0 ∧ t.rd R.HST_STATUS.BME 0 = 0 ∧ t.rd R.HST_STATUS.MSIX_EN 0 = 0 ∧
    t.msixTable = s.msixTable ∧ t.cores = s.cores ∧ t.scratch = s.scratch) ∧
  (∀ (speed : Fin 8) (width : Fin 16) (s : State), linkTrains speed.val width.val = true →
    2 ≤ s.rd R.PWR_STATUS.DEV_STATE 0 →
    ∃ t, exec (.pcieLinkUp speed width) s = .next t ∧ t.rd R.HST_STATUS.LINK_SPEED 0 = speed.val ∧
      t.rd R.HST_STATUS.LINK_WIDTH 0 = width.val ∧ t.rd R.PWR_CLOCKS.PCIE_PLL 0 = 1 ∧ t.rd (intBit .hst 3) 0 = 1) ∧
  (∀ s : State, s.linkUp = true →
    (∀ q, exec (.configurationRequest true q) s = .next { s with outbox := s.outbox ++ [.cfgResp true 0] }) ∧
    (exec (.configurationRequest false (.read 0)) s = .next { s with outbox := s.outbox ++ [.cfgResp false 0x86401F3C] }) ∧
    (∀ mse bme, ∃ t, exec (.configurationRequest false (.command mse bme)) s = .next t ∧ t.pcie.mse = mse ∧
      t.pcie.bar0 = s.pcie.bar0 ∧ t.pcie.bar2 = s.pcie.bar2 ∧ t.rd R.HST_STATUS.BME 0 = b2n bme ∧
      t.outbox = s.outbox ++ [.cfgResp false 0]))

/-- R31, R456 to R458, R462, R465, R470: resets by power, rails and temperature, and how Standby is left. The page of
type 2 is PWR_. -/
def Obligations.PowerBringsUpTheDevice : Prop :=
  (∀ (rail : Option (Fin 5)) (s : State), s.rd R.PWR_STATUS.DEV_STATE 0 ≠ 0 →
    ∃ t, exec (.powerOnReset rail) s = .next t ∧ t.rd R.PWR_STATUS.DEV_STATE 0 = 1 ∧
      t.rd R.PWR_RESET_CAUSE.CAUSE 0 = (if rail.isSome then 3 else 1) ∧
      t.rd R.PWR_RESET_CAUSE.RAIL 0 = (match rail with | none => 0 | some r => r.val) ∧
      (∀ (f : Fld) (ch : Nat), keyType (f.key ch) ≠ 2 → keptAtPowerOn (f.key ch) = false → t.rd f ch = f.reset) ∧
      t.dmem = [] ∧ t.istore = [] ∧ t.scratch = [] ∧ t.cores = [] ∧ t.parts = [] ∧ t.tb = 0 ∧ t.pcie = {} ∧
      t.logbook = s.logbook ∧ t.records = s.records ∧ t.porst = false ∧ t.outbox = s.outbox) ∧
  (∀ s : State, ∃ t, exec .vddAonLoss s = .next t ∧ t.rd R.PWR_STATUS.DEV_STATE 0 = 0 ∧
    t.rd R.PWR_RESET_CAUSE.CAUSE 0 = 2 ∧ t.dmem = [] ∧ t.cores = [] ∧ t.logbook = s.logbook ∧ t.outbox = s.outbox) ∧
  (∀ s : State, s.rd R.PWR_STATUS.DEV_STATE 0 = 0 →
    ∃ t, exec .vddAonRise s = .next t ∧ t.rd R.PWR_STATUS.DEV_STATE 0 = 1 ∧ t.outbox = s.outbox ∧
      t.logbook = s.logbook) ∧
  (∀ (straps : BitVec 8) (s : State), s.rd R.PWR_STATUS.DEV_STATE 0 = 1 → s.porst = false →
    ∃ t, exec (.porstNRise straps) s = .next t ∧ t.porst = true ∧ t.rd R.DEV_STRAPS.CAS_ID 0 = straps.toNat % 64 ∧
      t.rd R.DEV_STRAPS.MASTER_SEL 0 = bitOf straps.toNat 6 ∧ t.rd R.DEV_STRAPS.IO_PARK 0 = bitOf straps.toNat 7 ∧
      t.rd R.CAS_STATUS.ID 0 = straps.toNat % 64 ∧
      (s.tripped = true → t.rd R.PWR_STATUS.DEV_STATE 0 = 1) ∧
      (s.tripped = false → t.rd R.PWR_STATUS.DEV_STATE 0 = 2 ∧
        t.rd R.LOG_BOOT.COUNT 0 = (s.rd R.LOG_BOOT.COUNT 0 + 1) % 65536)) ∧
  (∀ s : State, 2 ≤ s.rd R.PWR_STATUS.DEV_STATE 0 → s.rd R.PWR_CLOCKS.CORE_PLL 0 = 0 →
    ∃ t, exec .corePllLock s = .next t ∧ t.rd R.PWR_CLOCKS.CORE_PLL 0 = 1 ∧ t.timeRuns = true ∧
      (s.timeRuns = true → t = s.wr R.PWR_CLOCKS.CORE_PLL 0 1) ∧ (s.timeRuns = false → (∀ n ∈ [180, 185, 187], t.rd (R.IRQ_TARGET.KIND n) 0 = 3 ∧ t.rd (R.IRQ_TARGET.INDEX n) 0 = 0) ∧
        ∀ x ∈ [8, 34, 36, 37, 41, 43], ∀ d ∈ [8, 34, 36, 37, 41, 43], t.on (R.NOC_ROUTE.VALID d) x = true)) ∧
  (∀ s : State, 2 ≤ s.rd R.PWR_STATUS.DEV_STATE 0 →
    ∃ t, exec .thermalTrip s = .next t ∧ t.rd R.PWR_STATUS.DEV_STATE 0 = 1 ∧ t.rd R.PWR_RESET_CAUSE.CAUSE 0 = 4 ∧
      t.tripped = true ∧ t.dmem = [] ∧ t.cores = [] ∧ t.logbook = s.logbook) ∧
  (∀ s : State, s.tripped = true →
    ∃ t, exec .thermalTripClear s = .next t ∧ t.tripped = false ∧
      (s.porst = true → s.rd R.PWR_STATUS.DEV_STATE 0 = 1 → t.rd R.PWR_STATUS.DEV_STATE 0 = 2 ∧
        t.rd R.LOG_BOOT.COUNT 0 = (s.rd R.LOG_BOOT.COUNT 0 + 1) % 65536) ∧
      (s.porst = false → t.regs = s.regs))

/-- R462 to R465, R481, R516: the resets that software commands. The pages of types 2 and 13 are PWR_ and RES_. -/
def Obligations.CommandedResets : Prop :=
  (∀ (a : Accessor) (s : State), s.accessCode a .pwr 0 0x40 true = 0 →
    ((a = .host ∨ viaDebug a = true) →
      (∃ t, exec (.systemReset a) s = .next t ∧ t.rd R.PWR_STATUS.DEV_STATE 0 = 2 ∧
        t.rd R.PWR_RESET_CAUSE.CAUSE 0 = 5 + b2n (viaDebug a) ∧
        (∀ (f : Fld) (ch : Nat), keyType (f.key ch) ≠ 2 → keyType (f.key ch) ≠ 13 → keptAtSystem (f.key ch) = false →
          t.rd f ch = f.reset) ∧
        (∀ (f : Fld) (ch : Nat), keyType (f.key ch) ≠ 2 → keyType (f.key ch) ≠ 13 → keptAtSystem (f.key ch) = true →
          t.rd f ch = s.rd f ch) ∧
        t.dmem = [] ∧ t.cores = [] ∧ t.parts = [] ∧ t.tb = 0 ∧ t.pcie = s.pcie ∧ t.tap = s.tap ∧
        t.logbook = s.logbook ∧ t.challenges = s.challenges + 1 ∧ t.outbox = s.outbox ++ [.regResp a 0 0]) ∧
      (∃ t l, exec (.controlReset a) s = .next t ∧ t.rd R.PWR_RESET_CAUSE.CAUSE 0 = 7 + b2n (viaDebug a) ∧
        (∀ (f : Fld) (ch : Nat), keyType (f.key ch) ≠ 2 → clearedAtControl (f.key ch) = true → t.rd f ch = f.reset) ∧
        t.dmem = s.dmem ∧ t.parts = s.parts ∧ t.cores = s.cores ∧ t.tb = s.tb ∧ t.nocLocked = false ∧
        t.control.runs = none ∧ t.outbox = s.outbox ++ [.regResp a 0 0] ++ l)) ∧
    (a ≠ .host → viaDebug a = false →
      (∃ t, exec (.systemReset a) s = .next t ∧ t.rd (errValid .pwr) 0 = 1 ∧ t.dmem = s.dmem ∧ t.parts = s.parts ∧
        t.control = s.control) ∧
      (∃ t, exec (.controlReset a) s = .next t ∧ t.rd (errValid .pwr) 0 = 1 ∧ t.dmem = s.dmem ∧ t.parts = s.parts ∧
        t.control = s.control)))

/-- R469 to R471, R474: the readings, the throttle, the step frequency and PLLs that lose lock. -/
def Obligations.TemperatureThrottles : Prop :=
  (∀ (l : List (BitVec 16)) (x : Int) (k : Nat) (s : State), hottest (l.take 8) 0 = some (x, k) →
    2 ≤ s.rd R.PWR_STATUS.DEV_STATE 0 →
    ∃ t, exec (.tempReading l) s = .next t ∧ t.rd R.PWR_TEMP.TJ 0 = ofSigned 16 x ∧ t.rd R.PWR_TEMP.SENSOR 0 = k ∧
      ((s.tempFresh = true ∨ signedOf 16 (s.rd R.PWR_TEMP_MAX.TJ 0) < x) →
        t.rd R.PWR_TEMP_MAX.TJ 0 = ofSigned 16 x ∧ t.tempFresh = false) ∧
      (s.rd R.PWR_STATUS.THROTTLED 0 = 0 → s.rd R.PWR_CTRL.THROTTLE_EN 0 = 1 →
        ((16 * s.rd R.PWR_THROTTLE.TEMP_ON 0 : Nat) : Int) ≤ x → s.rd R.CAS_STATUS.UNIT_STATE 0 = 0 →
        t.rd R.PWR_STATUS.THROTTLED 0 = 1 ∧ t.rd (intBit .pwr 0) 0 = 1 ∧
        t.rd R.PWR_THROTTLE_COUNT.COUNT 0 = satAdd 32 (s.rd R.PWR_THROTTLE_COUNT.COUNT 0) 1 ∧
        t.freqTarget = some (min (s.rd R.PWR_THROTTLE.FREQ_MHZ 0) s.progMHz)) ∧
      (s.rd R.PWR_STATUS.THROTTLED 0 = 0 → x < ((16 * s.rd R.PWR_THROTTLE.TEMP_ON 0 : Nat) : Int) →
        t.rd R.PWR_STATUS.THROTTLED 0 = 0 ∧ t.freqTarget = s.freqTarget ∧ t.outbox = s.outbox)) ∧
  (∀ s : State, s.rd R.PWR_STATUS.THROTTLED 0 = 1 → s.coolFrom ≠ none →
    ∃ t, exec .throttleRelease s = .next t ∧ t.rd R.PWR_STATUS.THROTTLED 0 = 0 ∧ t.coolFrom = none ∧
      t.rd (intBit .pwr 1) 0 = 1 ∧ (s.rd R.CAS_STATUS.UNIT_STATE 0 = 0 → t.freqTarget = some s.progMHz)) ∧
  (∀ (f : Nat) (s : State), s.freqTarget = some f → s.emuStopped = false → s.rd R.PWR_CLOCKS.STEP_PLL 0 = 1 →
    ∃ t, exec .stepFreqChange s = .next t ∧ t.freqTarget = none ∧ t.rd R.PWR_STEP.CUR_MHZ 0 = f % 4096 ∧
      t.dmem = s.dmem ∧ t.cores = s.cores) ∧
  (∀ (b : Fin 17) (s : State), b.val ≠ 2 → b.val ≠ 3 →
    bitOf (s.readFields ((fieldsAt .pwr 0x5C).getD []) 0) b.val = 1 →
    ∃ t, exec (.pllUnlock b) s = .next t ∧ t.rd (intBit .pwr 2) 0 = 1 ∧
      (b.val = 0 → t.rd R.PWR_CLOCKS.CORE_PLL 0 = 0) ∧ (b.val = 1 → t.rd R.PWR_CLOCKS.STEP_PLL 0 = 0) ∧
      (4 ≤ b.val → b.val < 8 → bitOf (t.rd R.PWR_CLOCKS.CAS_LANE_PLL 0) (b.val - 4) = 0) ∧
      (8 ≤ b.val → b.val < 16 → bitOf (t.rd R.PWR_CLOCKS.ETH_PLL 0) (b.val - 8) = 0) ∧
      (b.val = 16 → t.rd R.PWR_CLOCKS.PCIE_PLL 0 = 0) ∧ t.dmem = s.dmem ∧ t.parts = s.parts ∧ t.cores = s.cores)

/-- R477, R478, R479, R485: the instructions of the test access port, and its accesses of the DBG_ page. -/
def Obligations.TestAccessPortActs : Prop :=
  (∀ s : State,
    exec .tapReset s = .next { s with tap := { s.tap with instr := 0x02, dr := 0x18640079 } } ∧
    (s.debugLevel < 2 →
      exec .extest s = .next { s with tap := { s.tap with instr := 0x00, dr := 0 } } ∧
      exec .samplePreload s = .next { s with tap := { s.tap with instr := 0x01, dr := 0 } }) ∧
    (2 ≤ s.debugLevel →
      (∃ d, exec .extest s =
        .next { s with tap := { s.tap with instr := 0x00, dr := d }, freeUses := s.freeUses + 1 }) ∧
      ∃ d, exec .samplePreload s =
        .next { s with tap := { s.tap with instr := 0x01, dr := d }, freeUses := s.freeUses + 1 }) ∧
    exec .idcode s = .next { s with tap := { s.tap with instr := 0x02, dr := 0x18640079 } } ∧
    exec .dbgacc s = .next { s with tap := { s.tap with instr := 0x10, dr := s.tap.dbgacc } } ∧
    exec .bypass s = .next { s with tap := { s.tap with instr := 0x3F, dr := 0 } } ∧
    ((s.tap.instr = 0x00 ∨ s.tap.instr = 0x01) → s.debugLevel < 2 → s.tapActs = 0x3F)) ∧
  (∀ (w : BitVec 48) (s : State),
    (s.tap.instr ≠ 0x10 → exec (.dbgaccAccess w) s = .next s) ∧
    (s.tap.instr = 0x10 → bitOf w.toNat 0 = 1 → bitsOf w.toNat 1 10 = 0x18 → 64 ≤ s.control.fifo.length →
      2 ≤ s.debugLevel →
      ∃ t, exec (.dbgaccAccess w) s = .next t ∧ t.tap.status = 1 ∧ t.tap.write = true ∧ t.tap.index = 0x18 ∧
        t.control = s.control ∧ t.regs = s.regs ∧ t.outbox = s.outbox) ∧
    (s.tap.instr = 0x10 → bitOf w.toNat 0 = 1 → bitsOf w.toNat 1 10 ≠ 0x18 →
      ∃ t, exec (.dbgaccAccess w) s = .next t ∧ t.tap.write = true ∧ t.tap.index = bitsOf w.toNat 1 10 ∧
        t.regs = (s.regWrite .jtag ⟨.dbg, 0, ⟨4 * bitsOf w.toNat 1 10 % 4096, Nat.mod_lt _ (by decide)⟩⟩
          (BitVec.ofNat 32 (bitsOf w.toNat 11 32))).regs) ∧
    (∀ x : W32, s.tap.instr = 0x10 → bitOf w.toNat 0 = 0 →
      lastResp ((s.regRead .jtag ⟨.dbg, 0, ⟨4 * bitsOf w.toNat 1 10 % 4096, Nat.mod_lt _ (by decide)⟩⟩).outbox.drop
        s.outbox.length) = some (0, x) →
      ∃ t, exec (.dbgaccAccess w) s = .next t ∧ t.tap.status = 0 ∧ t.tap.write = false ∧
        t.tap.index = bitsOf w.toNat 1 10 ∧ t.tap.data = x.toNat ∧ t.tap.dr = t.tap.dbgacc))

/-- R480, R481: the debug level is granted by the host's side, or by a token. -/
def Obligations.DebugLevelIsGranted : Prop :=
  (∀ (a : Accessor) (v : W32) (s : State), s.accessCode a .dbg 0 0x44 true = 0 →
    (viaDebug a = false → bitsOf v.toNat 0 2 ≠ 3 → (s.rd R.DBG_GRANT.LOCK 0 = 0 ∨ bitsOf v.toNat 0 2 = s.debugLevel) →
      ∃ t, exec (.grantWrite a v) s = .next t ∧ t.rd R.DBG_GRANT.LEVEL 0 = bitsOf v.toNat 0 2 ∧
        t.debugLevel = bitsOf v.toNat 0 2 ∧ (bitOf v.toNat 2 = 1 → t.rd R.DBG_GRANT.LOCK 0 = 1) ∧
        t.outbox = s.outbox ++ [.regResp a 0 0]) ∧
    ((viaDebug a = true ∨ bitsOf v.toNat 0 2 = 3 ∨
        (s.rd R.DBG_GRANT.LOCK 0 = 1 ∧ bitsOf v.toNat 0 2 ≠ s.debugLevel)) →
      ∃ t, exec (.grantWrite a v) s = .next t ∧ t.debugLevel = s.debugLevel ∧
        t.rd R.DBG_GRANT.LOCK 0 = s.rd R.DBG_GRANT.LOCK 0 ∧ t.rd (errValid .dbg) 0 = 1)) ∧
  (∀ (a : Accessor) (s : State), s.accessCode a .dbg 0 0x5C true = 0 →
    (s.rd R.DBG_STATUS.BLOCKED 0 = 0 → s.rd R.DBG_GRANT.LOCK 0 = 0 → s.rd R.DBG_STATUS.UNLOCK_BUSY 0 = 0 →
      ∃ t, exec (.unlockSubmit a) s = .next t ∧ t.rd R.DBG_STATUS.UNLOCK_BUSY 0 = 1 ∧ t.debugLevel = s.debugLevel ∧
        t.outbox = s.outbox ++ [.regResp a 0 0]) ∧
    ((s.rd R.DBG_STATUS.BLOCKED 0 = 1 ∨ s.rd R.DBG_GRANT.LOCK 0 = 1 ∨ s.rd R.DBG_STATUS.UNLOCK_BUSY 0 = 1) →
      ∃ t, exec (.unlockSubmit a) s = .next t ∧ t.rd R.DBG_STATUS.UNLOCK_BUSY 0 = s.rd R.DBG_STATUS.UNLOCK_BUSY 0 ∧
        t.rd (errValid .dbg) 0 = 1)) ∧
  (∀ s : State, s.rd R.DBG_STATUS.UNLOCK_BUSY 0 = 1 →
    (s.fwState = 3 → exec .unlockCheckDone s = .next s) ∧
    (s.fwState ≠ 3 → s.tokenGood = true → s.rd R.DBG_GRANT.LOCK 0 = 0 →
      ∃ t, exec .unlockCheckDone s = .next t ∧ t.rd R.DBG_STATUS.UNLOCK_BUSY 0 = 0 ∧
        t.debugLevel = tokenField s.token 4 1 ∧ t.challenges = s.challenges + 1 ∧ t.rd (intBit .dbg 3) 0 = 1 ∧
        t.rd R.DBG_STATUS.FAILS 0 = s.rd R.DBG_STATUS.FAILS 0) ∧
    (s.fwState ≠ 3 → s.tokenGood = false →
      ∃ t, exec .unlockCheckDone s = .next t ∧ t.rd R.DBG_STATUS.UNLOCK_BUSY 0 = 0 ∧ t.debugLevel = s.debugLevel ∧
        t.challenges = s.challenges + 1 ∧ t.rd (intBit .dbg 4) 0 = 1 ∧
        t.rd R.DBG_STATUS.FAILS 0 = min (s.rd R.DBG_STATUS.FAILS 0 + 1) 3 ∧
        t.rd R.DBG_STATUS.BLOCKED 0 = b2n (decide (2 ≤ s.rd R.DBG_STATUS.FAILS 0))))

/-- R479, R482, R483: accesses of the debug window, as a bus master and by stolen cycles, and their end. -/
def Obligations.DebugWindowReaches : Prop :=
  (∀ (a : Accessor) (wide inc write : Bool) (s : State), s.accessCode a .dbg 0 0x88 true = 0 →
    s.rd R.DBG_XSTATUS.BUSY (frontEnd a) = 0 →
    (windowMay s.debugLevel (s.xaddr (frontEnd a)) write = true → s.quayIsDead 41 = false →
      (∀ d, s.nodeOfAddress (windowAccessor (frontEnd a)) (s.xaddr (frontEnd a)) = some d →
        (d = 41 ∨ s.routeOk 41 d = true) →
        ∃ t, exec (if write then .windowWrite a wide inc else .windowRead a wide inc) s = .next t ∧
          t.rd R.DBG_XSTATUS.BUSY (frontEnd a) = 1 ∧
          t.windowOf (frontEnd a) = some ⟨write, wide, inc, s.xaddr (frontEnd a), none⟩ ∧ t.dmem = s.dmem ∧
          t.outbox = s.outbox ++ [.nocReq 41 (frontEnd a) (b2n write) (s.xaddr (frontEnd a))
            (s.windowWrite (frontEnd a) (s.xaddr (frontEnd a)) wide).2
            (if write then [(s.windowWrite (frontEnd a) (s.xaddr (frontEnd a)) wide).1] else []), .regResp a 0 0])) ∧
    (windowMay s.debugLevel (s.xaddr (frontEnd a)) write = false →
      ∃ t, exec (if write then .windowWrite a wide inc else .windowRead a wide inc) s = .next t ∧
        t.rd R.DBG_XSTATUS.BUSY (frontEnd a) = 1 ∧
        t.windowOf (frontEnd a) = some ⟨write, wide, inc, s.xaddr (frontEnd a), some (8, 0)⟩ ∧
        t.outbox = s.outbox ++ [.regResp a 0 0])) ∧
  (∀ (a : Accessor) (inc : Bool) (us : List Upset) (s : State), s.accessCode a .dbg 0 0x88 true = 0 →
    s.rd R.DBG_XSTATUS.BUSY (frontEnd a) = 0 → 2 ≤ s.debugLevel → 0x100000000 ≤ s.xaddr (frontEnd a) →
    s.xaddr (frontEnd a) < 0x110000000 →
    s.awake.contains (blockKey .dmb (s.xaddr (frontEnd a) % 0x10000000 / 0x400000)) = true →
    (∃ t, exec (.stealWrite a true inc us) s = .next t ∧ t.rd R.DBG_XSTATUS.BUSY (frontEnd a) = 1 ∧
      t.windowOf (frontEnd a) = some ⟨true, true, inc, s.xaddr (frontEnd a), some (0, 0)⟩ ∧
      t.dmem = ((s.upset us).setBankWord (s.xaddr (frontEnd a) % 0x10000000 / 0x400000)
        (s.xaddr (frontEnd a) % 0x400000 / 16) (s.xdata (frontEnd a)) 0).dmem ∧
      t.outbox = s.outbox ++ [.regResp a 0 0]) ∧
    (∀ d s1, (s.upset us).readBank (s.xaddr (frontEnd a) % 0x10000000 / 0x400000)
        (s.xaddr (frontEnd a) % 0x400000 / 16) 41 = (some d, s1) →
      ∃ t, exec (.stealRead a true inc us) s = .next t ∧ t.rd R.DBG_XSTATUS.BUSY (frontEnd a) = 1 ∧
        t.windowOf (frontEnd a) = some ⟨false, true, inc, s.xaddr (frontEnd a), some (0, d)⟩ ∧
        t.dmem = s1.dmem)) ∧
  (∀ (jtag : Bool) (status : Fin 8) (w : W128) (x : WindowAcc) (s : State), s.windowOf (b2n jtag) = some x →
    ∃ t, exec (.windowAccessDone jtag status w) s = .next t ∧ t.windowOf (b2n jtag) = none ∧
      t.rd R.DBG_XSTATUS.BUSY (b2n jtag) = 0 ∧
      t.rd R.DBG_XSTATUS.RESULT (b2n jtag) = (x.held.getD (status.val, w)).1 % 16 ∧
      (x.write = false → x.wide = true → (x.held.getD (status.val, w)).1 = 0 →
        t.xdata (b2n jtag) = (x.held.getD (status.val, w)).2) ∧
      ((x.write = true ∨ (x.held.getD (status.val, w)).1 ≠ 0) → t.xdata (b2n jtag) = s.xdata (b2n jtag)) ∧
      (x.inc = true → t.xaddr (b2n jtag) = (x.addr + (if x.wide then 16 else 4)) % 2 ^ 40) ∧
      (x.inc = false → t.xaddr (b2n jtag) = s.xaddr (b2n jtag)) ∧ t.dmem = s.dmem)

/-- R486 to R489: the debugger halts, resumes and steps a core, and writes its registers. -/
def Obligations.CoresAreDebugged : Prop :=
  (∀ (a : Accessor) (m : Fin 16) (s : State), s.accessCode a .dbg 0 (0x100 + 0x40 * m.val) true = 0 →
    (s.countsHalted m.val = false → (s.core m.val).haltReq = 0 →
      ∃ t, exec (.coreHalt a m) s = .next t ∧ (t.core m.val).haltReq = 1 ∧ t.rd (R.DBG_C_STATUS.PENDING m.val) 0 = 1 ∧
        t.outbox = s.outbox ++ [.regResp a 0 0]) ∧
    (s.resumeRefused m.val = false →
      ∃ t, exec (.coreResume a m) s = .next t ∧ t.rd R.MDC_STATUS.STATE m.val = 1 ∧
        t.rd (R.DBG_C_STATUS.HALTED m.val) 0 = 0 ∧ (t.core m.val).haltReq = 0 ∧ (t.core m.val).noHalt = true ∧
        t.rd (intBit .mdc 2) m.val = 1) ∧
    (s.resumeRefused m.val = false →
      ∃ t, exec (.coreStep a m) s = .next t ∧ t.rd R.MDC_STATUS.STATE m.val = 1 ∧
        t.rd (R.DBG_C_STATUS.HALTED m.val) 0 = 0 ∧ (t.core m.val).haltReq = 3 ∧
        t.rd (R.DBG_C_STATUS.PENDING m.val) 0 = 1) ∧
    (s.resumeRefused m.val = true →
      ∃ t, exec (.coreResume a m) s = .next t ∧ t.cores = s.cores ∧ t.rd (errValid .dbg) 0 = 1 ∧
        t.rd R.MDC_STATUS.STATE m.val = s.rd R.MDC_STATUS.STATE m.val)) ∧
  (∀ (m : Fin 16) (s : State), s.coreReady m.val = true → (s.core m.val).openBoundary = true →
    (s.core m.val).haltReq ≠ 0 → (s.core m.val).noHalt = false →
    ∃ t, exec (.coreHaltEntry m) s = .next t ∧ t.rd R.MDC_STATUS.STATE m.val = 3 ∧
      t.rd (R.DBG_C_STATUS.HALTED m.val) 0 = 1 ∧ t.rd (R.DBG_C_STATUS.PENDING m.val) 0 = 0 ∧
      t.rd (R.DBG_C_STATUS.CAUSE m.val) 0 = (s.core m.val).haltReq % 8 ∧ (t.core m.val).haltReq = 0 ∧
      (t.core m.val).resv = none ∧ t.rd (intBit .dbg 2) 0 = 1) ∧
  (∀ (a : Accessor) (m : Fin 16) (v : W32) (s : State), s.accessCode a .dbg 0 (0x11C + 0x40 * m.val) true = 0 →
    s.on (R.DBG_C_STATUS.HALTED m.val) 0 = true →
    debugListed (s.rd (R.DBG_C_REGSEL.REG m.val) 0) (s.rd (R.DBG_C_REGSEL.PART m.val) 0) = true →
    ∃ t, exec (.coreRegisterWrite a m v) s = .next t ∧
      (s.rd (R.DBG_C_REGSEL.REG m.val) 0 < 32 → (t.core m.val).reg (s.rd (R.DBG_C_REGSEL.REG m.val) 0) =
        ((s.staged a .dbg 0 (0x110 + 0x40 * m.val)).apply (s.debugRegister m.val) v).toNat) ∧
      (s.rd (R.DBG_C_REGSEL.REG m.val) 0 = 64 → (t.core m.val).branch = none ∧ (t.core m.val).rep = none ∧
        (t.core m.val).pc =
          bitsOf ((s.staged a .dbg 0 (0x110 + 0x40 * m.val)).apply (s.debugRegister m.val) v).toNat 0 32) ∧
      t.outbox = s.outbox ++ [.regResp a 0 0])

/-- R108, R491 to R494: emulation is halted at tick T and released again, outside a cascade. -/
def Obligations.EmulationHaltsAndResumes : Prop :=
  (∀ (a : Accessor) (s : State), s.accessCode a .dbg 0 0x58 true = 0 → s.rd R.CAS_STATUS.UNIT_STATE 0 = 0 →
    (s.rd R.DBG_STATUS.EMU 0 = 0 →
      (∃ t, exec (.emulationHalt (some a)) s = .next t ∧ t.rd R.DBG_STATUS.EMU 0 = 1 ∧ t.haltDecided = true ∧
        t.parts = s.parts ∧ t.cores = s.cores ∧ t.outbox = s.outbox ++ [.regResp a 0 0]) ∧
      (∃ t, exec (.emulationRelease (some a)) s = .next t ∧ t.rd (errValid .dbg) 0 = 1 ∧
        t.rd R.DBG_STATUS.EMU 0 = 0 ∧ t.releasing = s.releasing)) ∧
    (s.rd R.DBG_STATUS.EMU 0 ≠ 0 →
      (s.haltDecided = true →
        ∃ t, exec (.emulationRelease (some a)) s = .next t ∧ t.rd R.DBG_STATUS.EMU 0 = 0 ∧ t.haltDecided = false ∧
          t.rd (intBit .dbg 1) 0 = 1 ∧ t.parts = s.parts) ∧
      (s.haltDecided = false →
        ∃ t, exec (.emulationRelease (some a)) s = .next t ∧ t.releasing = true ∧
          t.rd R.DBG_STATUS.EMU 0 = s.rd R.DBG_STATUS.EMU 0 ∧ t.parts = s.parts ∧
          t.outbox = s.outbox ++ [.regResp a 0 0]))) ∧
  (∀ s : State,
    (s.haltDecided = true →
      ∃ t, exec (.emulationHalt none) s = .next t ∧ t.rd R.DBG_STATUS.EMU 0 ≠ 0 ∧ t.haltDecided = false ∧
        t.haltAt = s.now ∧
        ∀ p < 64, (s.pstate p = 3 ∨ s.pstate p = 4) → t.pstate p = 8 ∧ (t.part p).haltedFrom = s.pstate p) ∧
    (s.haltDecided = false → exec (.emulationHalt none) s = .next s) ∧
    (s.releasing = true →
      ∃ t, exec (.emulationRelease none) s = .next t ∧ t.rd R.DBG_STATUS.EMU 0 = 0 ∧ t.releasing = false ∧
        t.rd (intBit .dbg 1) 0 = 1 ∧
        ∀ p < 64, s.haltDip = false → s.pstate p = 8 → ((s.part p).haltedFrom = 3 ∨ (s.part p).haltedFrom = 4) →
          t.pstate p = (s.part p).haltedFrom) ∧
    (s.releasing = false → exec (.emulationRelease none) s = .next s))

/-- R495 to R497: the virtual terminals and the notes of the model cores. -/
def Obligations.TerminalsAndNotes : Prop :=
  (∀ (m : Fin 16) (v : W32) (s : State), s.accessCode (.core m) .dbg 0 (0x130 + 0x40 * m.val) true = 0 →
    ((s.core m.val).vtTx.length < 64 →
      ∃ t, exec (.vtTxWrite m v) s = .next t ∧ (t.core m.val).vtTx = (s.core m.val).vtTx ++ [v.toNat % 256] ∧
        t.rd (R.DBG_VT_STATUS.TX_COUNT m.val) 0 = (s.core m.val).vtTx.length + 1 ∧
        ((s.core m.val).vtTx = [] → t.rd (intBit .dbg 5) 0 = 1)) ∧
    (64 ≤ (s.core m.val).vtTx.length → s.rd (R.DBG_VT_STATUS.FALLBACK m.val) 0 = 0 →
      ∃ t, exec (.vtTxWrite m v) s = .next t ∧ t.cores = s.cores ∧
        t.rd (R.DBG_VT_STATUS.DROPPED m.val) 0 = satAdd 8 (s.rd (R.DBG_VT_STATUS.DROPPED m.val) 0) 1)) ∧
  (∀ (a : Accessor) (m : Fin 16) (s : State), s.accessCode a .dbg 0 (0x130 + 0x40 * m.val) false = 0 →
    s.quiet a = false →
    ∃ t, exec (.vtTxRead a m) s = .next t ∧ (t.core m.val).vtTx = (s.core m.val).vtTx.tail ∧
      t.rd (R.DBG_VT_STATUS.TX_COUNT m.val) 0 = (s.core m.val).vtTx.tail.length % 128 ∧
      t.outbox = s.outbox ++ [.regResp a 0 (BitVec.ofNat 32 (vtHead (s.core m.val).vtTx))]) ∧
  (∀ (a : Accessor) (m : Fin 16) (v : W32) (s : State), s.accessCode a .dbg 0 (0x134 + 0x40 * m.val) true = 0 →
    (a = .host ∨ viaDebug a = true) →
    ((s.core m.val).vtRx.length < 64 →
      ∃ t, exec (.vtRxWrite a m v) s = .next t ∧ (t.core m.val).vtRx = (s.core m.val).vtRx ++ [v.toNat % 256] ∧
        t.rd (R.DBG_VT_STATUS.RX_COUNT m.val) 0 = (s.core m.val).vtRx.length + 1 ∧
        t.outbox = s.outbox ++ [.regResp a 0 0]) ∧
    (64 ≤ (s.core m.val).vtRx.length →
      ∃ t, exec (.vtRxWrite a m v) s = .next t ∧ t.cores = s.cores ∧ t.rd (errValid .dbg) 0 = 1)) ∧
  (∀ (m : Fin 16) (s : State), s.accessCode (.core m) .dbg 0 (0x134 + 0x40 * m.val) false = 0 →
    ∃ t, exec (.vtRxRead m) s = .next t ∧ (t.core m.val).vtRx = (s.core m.val).vtRx.tail ∧
      t.outbox = s.outbox ++ [.regResp (.core m) 0 (BitVec.ofNat 32 (vtHead (s.core m.val).vtRx))]) ∧
  (∀ (m c : Fin 16) (v : W32) (s : State), s.accessCode (.core m) .dbg 0 (0x800 + 0x40 * m.val + 4 * c.val) true = 0 →
    (s.traced m.val = false →
      ∃ t, exec (.noteWrite m c v) s = .next t ∧ t.cores = s.cores ∧ t.outbox = s.outbox ++ [.regResp (.core m) 0 0]) ∧
    (s.traced m.val = true →
      ∃ t, exec (.noteWrite m c v) s = .next t ∧
        t.cores = (s.packet m.val ((0x60 + c.val) :: leBytes v.toNat 4 ++ leBytes s.traceStamp 2)).cores))

/-- R484, R498, R503, R504, R506: trace is enabled, its frames go to the sink, and the internal buffer is read. -/
def Obligations.TraceFramesFlow : Prop :=
  (∀ (a : Accessor) (v : W32) (s : State), s.accessCode a .trc 0 0x04 true = 0 →
    (s.rd R.TRC_CTRL.EN 0 = 0 → bitsOf v.toNat 1 2 ≠ 3 → leastDiv (bitsOf v.toNat 1 2) ≤ s.rd R.TRC_PORT.DIV 0 →
      ∃ t, exec (.traceEnable a v) s = .next t ∧ t.rd R.TRC_CTRL.EN 0 = 1 ∧
        t.rd R.TRC_CTRL.SINK 0 = bitsOf v.toNat 1 2 ∧ t.rd R.TRC_STATUS.ACTIVE 0 = 1 ∧
        t.rd R.TRC_STATUS.BUF_FULL 0 = 0 ∧ t.traceFrom = s.coreTicks ∧ t.trace = {} ∧
        t.outbox = s.outbox ++ [.regResp a 0 0]) ∧
    (bitsOf v.toNat 1 2 = 3 →
      ∃ t, exec (.traceEnable a v) s = .next t ∧ t.rd R.TRC_CTRL.EN 0 = s.rd R.TRC_CTRL.EN 0 ∧ t.trace = s.trace ∧
        t.rd (errValid .trc) 0 = 1)) ∧
  (∀ s : State, s.rd R.TRC_CTRL.EN 0 = 1 → s.trace.stopped = false →
    (s.trace.since = none → s.rd R.TRC_CTRL.SINK 0 ≠ 2 →
      ∃ t, exec .traceFrame s = .next t ∧ t.trace.since = some 0 ∧ t.trace.fseq = s.trace.fseq ∧
        t.outbox = s.outbox ++ [.trace (s.rd R.TRC_CTRL.SINK 0) syncFrame]) ∧
    (s.trace.since = none → s.rd R.TRC_CTRL.SINK 0 = 2 → s.trace.ring.length < 1024 →
      s.rd R.TRC_BUF_POS.FRAME 0 < 1023 →
      ∃ t, exec .traceFrame s = .next t ∧ t.trace.ring = s.trace.ring ++ [syncFrame] ∧
        t.rd R.TRC_BUF_POS.FRAME 0 = s.rd R.TRC_BUF_POS.FRAME 0 + 1 ∧ t.outbox = s.outbox) ∧
    (∀ n, s.trace.since = some n → n < 4095 → s.rd R.TRC_CTRL.SINK 0 ≠ 2 →
      (s.nextTraced = none →
        ∃ t, exec .traceFrame s = .next t ∧ t.trace.fseq = (s.trace.fseq + 1) % 128 ∧ t.trace.since = some (n + 1) ∧
          t.outbox = s.outbox ++ [.trace (s.rd R.TRC_CTRL.SINK 0) (dataFrame 0 s.trace.fseq [])]) ∧
      (∀ m, s.nextTraced = some m →
        ∃ t, exec .traceFrame s = .next t ∧ t.trace.fseq = (s.trace.fseq + 1) % 128 ∧ t.trace.since = some (n + 1) ∧
          t.trace.turn = (m + 1) % 16 ∧
          t.outbox = s.outbox ++ [.trace (s.rd R.TRC_CTRL.SINK 0)
            (dataFrame m s.trace.fseq ((s.core m).trace.fifo.take 18))]))) ∧
  (∀ (a : Accessor) (s : State), s.accessCode a .trc 0 0x5C false = 0 →
    ∃ t, exec (.traceBufferRead a) s = .next t ∧
      t.trace = (if s.quiet a then s.trace else s.trace.takeWord) ∧
      t.outbox = s.outbox ++ [.regResp a 0 (BitVec.ofNat 32 s.traceWord)])

/-- The frame of every command: what `touches` does not name for it is unchanged, where exec gives a next state: every
register of an unnamed page, every store, every unit's own state. -/
def Obligations.CommandsKeepToTheirState : Prop :=
  ∀ (c : Instr) (s t : State), exec c s = .next t → ∀ k : Kind, k ∉ touches c → k.same s t

/-- Commands are taken first in, first out: a step removes the front of the queue and adds nothing to it, whatever the
command does, so that a queue of well-formed commands stays one (log entry 1: the queue is the model's own). -/
def Obligations.QueueIsServedInOrder : Prop :=
  (∀ s t : State, StepsTo s t → t.pending = s.pending.tail) ∧ Kept QueueOk

/-- Every step keeps the stores in canonical form: rising keys, and no entry equal to what an unlisted one reads as.
-/
def Obligations.MemoryStaysCanonical : Prop :=
  Kept (fun s => Machine.Memory.wf s = true)
end

