-- ==== Sys2Proof/Laws/Store.lean ====
section
/-! SUPPORT. Laws/Store.lean: what the operations of a sparse store do to its canonical form and to what it reads as. -/

namespace Sys2Proof.Machine
set_option Elab.async false

variable {α : Type}

/-! ## Rising keys -/

theorem SMap.risesFrom_mono {b c : Nat} (h : b ≤ c) : ∀ {m : SMap α}, SMap.risesFrom c m = true → SMap.risesFrom b m = true
  | [], _ => rfl
  | (k, _) :: _, hm => by
    simp only [SMap.risesFrom, Bool.and_eq_true, decide_eq_true_eq] at hm ⊢
    exact ⟨le_trans h hm.1, hm.2⟩

theorem SMap.put_rises {b q : Nat} (v : α) (hq : b ≤ q) :
    ∀ {m : SMap α}, SMap.risesFrom b m = true → SMap.risesFrom b (SMap.put m q v) = true := by
  intro m
  induction m generalizing b with
  | nil => intro _; simp [SMap.put, SMap.risesFrom, hq]
  | cons e r ih =>
    obtain ⟨k, x⟩ := e
    intro hm
    simp only [SMap.risesFrom, Bool.and_eq_true, decide_eq_true_eq] at hm
    unfold SMap.put
    split
    · subst_vars; simp [SMap.risesFrom, hq, hm.2]
    · split
      · simp only [SMap.risesFrom, Bool.and_eq_true, decide_eq_true_eq]
        exact ⟨hq, by omega, hm.2⟩
      · simp only [SMap.risesFrom, Bool.and_eq_true, decide_eq_true_eq]
        exact ⟨hm.1, ih (by omega) hm.2⟩

theorem SMap.filter_rises (p : Nat × α → Bool) :
    ∀ {b : Nat} {m : SMap α}, SMap.risesFrom b m = true → SMap.risesFrom b (m.filter p) = true := by
  intro b m
  induction m generalizing b with
  | nil => intro h; exact h
  | cons e r ih =>
    obtain ⟨k, x⟩ := e
    intro hm
    simp only [SMap.risesFrom, Bool.and_eq_true, decide_eq_true_eq] at hm
    unfold List.filter
    split
    · simp only [SMap.risesFrom, Bool.and_eq_true, decide_eq_true_eq]
      exact ⟨hm.1, ih hm.2⟩
    · exact SMap.risesFrom_mono (by omega) (ih hm.2)

theorem SMap.del_rises {q b : Nat} {m : SMap α} (h : SMap.risesFrom b m = true) : SMap.risesFrom b (SMap.del m q) = true :=
  SMap.filter_rises _ h

theorem SMap.sorted_set [DecidableEq α] (d : α) {m : SMap α} (q : Nat) (v : α) (h : SMap.sorted m = true) :
    SMap.sorted (SMap.set d m q v) = true := by
  unfold SMap.set
  split
  · exact SMap.del_rises h
  · exact SMap.put_rises v (Nat.zero_le q) h

theorem SMap.sorted_keep {m : SMap α} (p : Nat → Bool) (h : SMap.sorted m = true) : SMap.sorted (m.keep p) = true :=
  SMap.filter_rises _ h

/-! ## The canonical form -/

theorem SMap.mem_put {m : SMap α} {q : Nat} {v : α} {e : Nat × α} : e ∈ SMap.put m q v → e.2 = v ∨ e ∈ m := by
  induction m with
  | nil => intro h; simp only [SMap.put, List.mem_singleton] at h; exact Or.inl (by rw [h])
  | cons x r ih =>
    obtain ⟨k, y⟩ := x
    unfold SMap.put
    split
    · intro h
      rcases List.mem_cons.mp h with h | h
      · exact Or.inl (by rw [h])
      · exact Or.inr (List.mem_cons_of_mem _ h)
    · split
      · intro h
        rcases List.mem_cons.mp h with h | h
        · exact Or.inl (by rw [h])
        · exact Or.inr h
      · intro h
        rcases List.mem_cons.mp h with h | h
        · exact Or.inr (by rw [h]; exact List.mem_cons_self)
        · exact (ih h).imp_right (List.mem_cons_of_mem _)

theorem SMap.mem_del {m : SMap α} {q : Nat} {e : Nat × α} (h : e ∈ SMap.del m q) : e ∈ m := (List.mem_filter.mp h).1

theorem SMap.wf_nil [DecidableEq α] (d : α) : SMap.wf d ([] : SMap α) = true := rfl

theorem SMap.wf_set [DecidableEq α] (d : α) {m : SMap α} (q : Nat) (v : α) (h : SMap.wf d m = true) :
    SMap.wf d (SMap.set d m q v) = true := by
  simp only [SMap.wf, Bool.and_eq_true, List.all_eq_true, decide_eq_true_eq] at h ⊢
  refine ⟨SMap.sorted_set d q v h.1, ?_⟩
  intro e he
  unfold SMap.set at he
  split at he
  · exact h.2 e (SMap.mem_del he)
  · rename_i hv
    rcases SMap.mem_put he with he | he
    · rw [he]; exact hv
    · exact h.2 e he

theorem SMap.wf_filter [DecidableEq α] (d : α) {m : SMap α} (p : Nat × α → Bool) (h : SMap.wf d m = true) :
    SMap.wf d (m.filter p) = true := by
  simp only [SMap.wf, Bool.and_eq_true, List.all_eq_true, decide_eq_true_eq] at h ⊢
  exact ⟨SMap.filter_rises _ h.1, fun e he => h.2 e (List.mem_filter.mp he).1⟩

theorem SMap.wf_delRange [DecidableEq α] (d : α) {m : SMap α} (lo hi : Nat) (h : SMap.wf d m = true) :
    SMap.wf d (m.delRange lo hi) = true :=
  SMap.wf_filter d _ h

/-! ## Reading after writing -/

theorem SMap.get_put (d : α) (m : SMap α) (q : Nat) (v : α) (j : Nat) :
    SMap.get d (SMap.put m q v) j = if j = q then v else SMap.get d m j := by
  induction m with
  | nil => simp only [SMap.put, SMap.get]
  | cons e r ih =>
    obtain ⟨k, x⟩ := e
    unfold SMap.put
    split
    · subst_vars
      simp only [SMap.get]
      split <;> rfl
    · split
      · simp only [SMap.get]
      · rename_i hk _
        simp only [SMap.get, ih]
        split
        · rename_i h
          subst h
          rw [if_neg (fun e => hk e.symm)]
        · rfl

/-- Entries that a filter takes away are of other keys: the value read stays. -/
theorem SMap.get_filter {d : α} {p : Nat × α → Bool} {q : Nat} (hp : ∀ v, p (q, v) = true) (m : SMap α) :
    SMap.get d (m.filter p) q = SMap.get d m q := by
  induction m with
  | nil => rfl
  | cons e r ih =>
    obtain ⟨k, x⟩ := e
    rw [List.filter_cons]
    split
    · simp only [SMap.get, ih]
    · rename_i hk
      have hne : q ≠ k := by
        intro e
        subst e
        exact hk (hp x)
      rw [ih]
      simp only [SMap.get, if_neg hne]

/-- A filter that takes away every entry of a key leaves it unlisted. -/
theorem SMap.get_filter_out {d : α} {p : Nat × α → Bool} {q : Nat} (hp : ∀ v, p (q, v) = false) (m : SMap α) :
    SMap.get d (m.filter p) q = d := by
  induction m with
  | nil => rfl
  | cons e r ih =>
    obtain ⟨k, x⟩ := e
    rw [List.filter_cons]
    split
    · rename_i hk
      have hne : q ≠ k := by
        intro e
        subst e
        rw [hp x] at hk
        exact Bool.noConfusion hk
      simp only [SMap.get, if_neg hne, ih]
    · exact ih

theorem SMap.get_keep {d : α} {p : Nat → Bool} {q : Nat} (hp : p q = true) (m : SMap α) :
    SMap.get d (m.keep p) q = SMap.get d m q :=
  SMap.get_filter (fun _ => hp) m

theorem SMap.get_keep_out {d : α} {p : Nat → Bool} {q : Nat} (hp : p q = false) (m : SMap α) :
    SMap.get d (m.keep p) q = d :=
  SMap.get_filter_out (fun _ => hp) m

theorem SMap.get_delRange {d : α} (m : SMap α) (lo hi q : Nat) :
    SMap.get d (m.delRange lo hi) q = if lo ≤ q ∧ q < hi then d else SMap.get d m q := by
  split
  · rename_i h
    exact SMap.get_filter_out (fun _ => by simp only [Bool.or_eq_false_iff, decide_eq_false_iff_not]; omega) m
  · rename_i h
    exact SMap.get_filter (fun _ => by simp only [Bool.or_eq_true, decide_eq_true_eq]; omega) m

theorem SMap.get_del (d : α) (m : SMap α) (q j : Nat) :
    SMap.get d (SMap.del m q) j = if j = q then d else SMap.get d m j := by
  split
  · subst_vars
    exact SMap.get_filter_out (fun _ => by simp) m
  · rename_i h
    exact SMap.get_filter (fun _ => by simp [h]) m

theorem SMap.get_set [DecidableEq α] (d : α) (m : SMap α) (q : Nat) (v : α) (j : Nat) :
    SMap.get d (SMap.set d m q v) j = if j = q then v else SMap.get d m j := by
  unfold SMap.set
  split
  · subst_vars
    exact SMap.get_del v m q j
  · exact SMap.get_put d m q v j

@[simp] theorem SMap.get_set_self [DecidableEq α] (d : α) (m : SMap α) (q : Nat) (v : α) :
    SMap.get d (SMap.set d m q v) q = v := by
  rw [SMap.get_set, if_pos rfl]

/-- Another key reads as before, whatever an unlisted key of either reads as. -/
theorem SMap.get_set_other [DecidableEq α] {d e : α} {m : SMap α} {q j : Nat} {v : α} (hj : j ≠ q) :
    SMap.get d (SMap.set e m q v) j = SMap.get d m j := by
  unfold SMap.set
  split
  · rw [SMap.get_del, if_neg hj]
  · rw [SMap.get_put, if_neg hj]

end Sys2Proof.Machine
end

