-- ==== Sys2Proof/Laws/Keeps.lean ====
section
/-! SUPPORT. Laws/Keeps.lean: what every operation of the model keeps of a state: the queue of the commands that wait, the
canonical form of its stores, that no free value is used twice, and every kind of state that the operation does not name.
A set of kinds is the number M whose bit `k.bit` is one for every kind k in it. One lemma per operation: in this file for
the operations that write a store, in the other Keeps files for all that are built from them. -/

namespace Sys2Proof.Machine
set_option Elab.async false
open Sys2Proof

/-! ## Kinds of state -/

/-- The bit of a kind in a set of kinds. -/
def Kind.bit : Kind → Nat
  | .out => 0
  | .access => 1
  | .time => 2
  | .ethRing => 3
  | .health => 4
  | .istore => 5
  | .rows => 6
  | .shadow => 7
  | .orchard => 8
  | .outbound => 9
  | .parts => 10
  | .dmem => 11
  | .banks => 12
  | .resv => 13
  | .exch => 14
  | .exchAux => 15
  | .acq => 16
  | .netmap => 17
  | .slots => 18
  | .ports => 19
  | .cas => 20
  | .frames => 21
  | .fabric => 22
  | .logbook => 23
  | .log => 24
  | .dip => 25
  | .irq => 26
  | .irqStack => 27
  | .msix => 28
  | .control => 29
  | .cores => 30
  | .scratch => 31
  | .hms => 32
  | .power => 33
  | .host => 34
  | .tap => 35
  | .debug => 36
  | .halts => 37
  | .trace => 38
  | .noc => 39
  | .errors => 40
  | .regs p => 40 + p.type

/-- The kind of state a register field belongs to, as a set. -/
def regBit (f : Fld) : Nat := if errorReg (f.off % 4096) then 2 ^ 40 else 2 ^ (40 + f.page.type)

/-- The kinds a register field of a page can belong to. -/
def pageBits (p : Page) : Nat := 2 ^ 40 ||| 2 ^ (40 + p.type)

theorem bit_absurd {M i : Nat} (h : 2 ^ i &&& M = 2 ^ i) (hk : M.testBit i = false) : False := by
  have e := congrArg (fun x => x.testBit i) h
  simp [Nat.testBit_and, hk] at e

/-- A part of a part is a part. -/
theorem ss {a b M : Nat} (h : b &&& M = b) (k : a &&& b = a) : a &&& M = a := by
  rw [← k, Nat.and_assoc, h]

theorem offRegs {f : Fld} {p : Page} {M : Nat} (e : f.page = p) (h : pageBits p &&& M = pageBits p) :
    regBit f &&& M = regBit f := by
  subst e
  refine ss h ?_
  unfold regBit pageBits
  split
  · exact Nat.eq_of_testBit_eq (fun i => by simp; tauto)
  · exact Nat.eq_of_testBit_eq (fun i => by simp; tauto)

theorem errBits {f : Fld} {n M : Nat} (e : f.off = n) (k : errorReg (n % 4096) = true)
    (h : 2 ^ 40 &&& M = 2 ^ 40) : regBit f &&& M = regBit f := by
  subst e
  simp only [regBit, k, if_true]
  exact h

theorem pageBit {f : Fld} {p : Page} {n M : Nat} (e : f.off = n) (g : f.page = p) (k : errorReg (n % 4096) = false)
    (h : 2 ^ (40 + p.type) &&& M = 2 ^ (40 + p.type)) : regBit f &&& M = regBit f := by
  subst e
  subst g
  simp only [regBit, k]
  exact h

theorem allRegs {f : Fld} {M : Nat} (h : 4611684918915760128 &&& M = 4611684918915760128) : regBit f &&& M = regBit f := by
  refine offRegs rfl (ss h ?_)
  cases f.page <;> rfl

theorem Kind.bit_lt (k : Kind) : k.bit < 62 := by
  cases k with
  | regs p => cases p <;> decide
  | _ => decide

theorem all_absurd {M : Nat} (h : 4611686018427387903 &&& M = 4611686018427387903) (k : Kind) (hk : M.testBit k.bit = false) : False := by
  have e := congrArg (fun x => x.testBit k.bit) h
  have p : Nat.testBit 4611686018427387903 k.bit = true := by
    have := Nat.testBit_two_pow_sub_one 62 k.bit
    simpa [Kind.bit_lt k] using this
  simp [Nat.testBit_and, hk, p] at e

/-- A kind of a set that M holds is not outside M. -/
theorem in_absurd {W M i : Nat} (h : W &&& M = W) (hw : W.testBit i = true) (hk : M.testBit i = false) : False := by
  have e := congrArg (fun x => x.testBit i) h
  simp [Nat.testBit_and, hw, hk] at e

theorem Kind.same_refl (k : Kind) (s : State) : k.same s s := by
  cases k with
  | out => exact rfl
  | access => exact ⟨rfl, rfl, rfl, rfl⟩
  | time => exact ⟨rfl, rfl, rfl, rfl, rfl⟩
  | ethRing => exact rfl
  | health => exact ⟨rfl, rfl⟩
  | istore => exact ⟨rfl, rfl⟩
  | rows => exact rfl
  | shadow => exact rfl
  | orchard => exact ⟨rfl, rfl, rfl, rfl, rfl, rfl⟩
  | outbound => exact ⟨rfl, rfl, rfl, rfl, rfl⟩
  | parts => exact rfl
  | dmem => exact rfl
  | banks => exact rfl
  | resv => exact rfl
  | exch => exact rfl
  | exchAux => exact ⟨rfl, rfl, rfl, rfl⟩
  | acq => exact ⟨rfl, rfl, rfl, rfl⟩
  | netmap => exact rfl
  | slots => exact ⟨rfl, rfl, rfl⟩
  | ports => exact ⟨rfl, rfl⟩
  | cas => exact rfl
  | frames => exact rfl
  | fabric => exact rfl
  | logbook => exact ⟨rfl, rfl⟩
  | log => exact rfl
  | dip => exact ⟨rfl, rfl, rfl, rfl, rfl⟩
  | irq => exact ⟨rfl, rfl, rfl⟩
  | irqStack => exact rfl
  | msix => exact ⟨rfl, rfl, rfl⟩
  | control => exact rfl
  | cores => exact rfl
  | scratch => exact ⟨rfl, rfl⟩
  | hms => exact rfl
  | power => exact ⟨rfl, rfl, rfl, rfl, rfl, rfl, rfl⟩
  | host => exact ⟨rfl, rfl, rfl⟩
  | tap => exact rfl
  | debug => exact ⟨rfl, rfl, rfl, rfl, rfl, rfl, rfl⟩
  | halts => exact rfl
  | trace => exact ⟨rfl, rfl⟩
  | noc => exact ⟨rfl, rfl, rfl⟩
  | errors => exact fun _ _ _ => rfl
  | regs p => exact fun _ _ _ _ => rfl

theorem Kind.same_trans {k : Kind} {s t u : State} (a : k.same s t) (b : k.same t u) : k.same s u := by
  cases k with
  | out => exact Eq.trans b a
  | access => exact ⟨Eq.trans b.1 a.1, Eq.trans b.2.1 a.2.1, Eq.trans b.2.2.1 a.2.2.1, Eq.trans b.2.2.2 a.2.2.2⟩
  | time => exact ⟨Eq.trans b.1 a.1, Eq.trans b.2.1 a.2.1, Eq.trans b.2.2.1 a.2.2.1, Eq.trans b.2.2.2.1 a.2.2.2.1, Eq.trans b.2.2.2.2 a.2.2.2.2⟩
  | ethRing => exact Eq.trans b a
  | health => exact ⟨Eq.trans b.1 a.1, Eq.trans b.2 a.2⟩
  | istore => exact ⟨Eq.trans b.1 a.1, Eq.trans b.2 a.2⟩
  | rows => exact Eq.trans b a
  | shadow => exact Eq.trans b a
  | orchard => exact ⟨Eq.trans b.1 a.1, Eq.trans b.2.1 a.2.1, Eq.trans b.2.2.1 a.2.2.1, Eq.trans b.2.2.2.1 a.2.2.2.1, Eq.trans b.2.2.2.2.1 a.2.2.2.2.1, Eq.trans b.2.2.2.2.2 a.2.2.2.2.2⟩
  | outbound => exact ⟨Eq.trans b.1 a.1, Eq.trans b.2.1 a.2.1, Eq.trans b.2.2.1 a.2.2.1, Eq.trans b.2.2.2.1 a.2.2.2.1, Eq.trans b.2.2.2.2 a.2.2.2.2⟩
  | parts => exact Eq.trans b a
  | dmem => exact Eq.trans b a
  | banks => exact Eq.trans b a
  | resv => exact Eq.trans b a
  | exch => exact Eq.trans b a
  | exchAux => exact ⟨Eq.trans b.1 a.1, Eq.trans b.2.1 a.2.1, Eq.trans b.2.2.1 a.2.2.1, Eq.trans b.2.2.2 a.2.2.2⟩
  | acq => exact ⟨Eq.trans b.1 a.1, Eq.trans b.2.1 a.2.1, Eq.trans b.2.2.1 a.2.2.1, Eq.trans b.2.2.2 a.2.2.2⟩
  | netmap => exact Eq.trans b a
  | slots => exact ⟨Eq.trans b.1 a.1, Eq.trans b.2.1 a.2.1, Eq.trans b.2.2 a.2.2⟩
  | ports => exact ⟨Eq.trans b.1 a.1, Eq.trans b.2 a.2⟩
  | cas => exact Eq.trans b a
  | frames => exact Eq.trans b a
  | fabric => exact Eq.trans b a
  | logbook => exact ⟨Eq.trans b.1 a.1, Eq.trans b.2 a.2⟩
  | log => exact Eq.trans b a
  | dip => exact ⟨Eq.trans b.1 a.1, Eq.trans b.2.1 a.2.1, Eq.trans b.2.2.1 a.2.2.1, Eq.trans b.2.2.2.1 a.2.2.2.1, Eq.trans b.2.2.2.2 a.2.2.2.2⟩
  | irq => exact ⟨Eq.trans b.1 a.1, Eq.trans b.2.1 a.2.1, Eq.trans b.2.2 a.2.2⟩
  | irqStack => exact Eq.trans b a
  | msix => exact ⟨Eq.trans b.1 a.1, Eq.trans b.2.1 a.2.1, Eq.trans b.2.2 a.2.2⟩
  | control => exact Eq.trans b a
  | cores => exact Eq.trans b a
  | scratch => exact ⟨Eq.trans b.1 a.1, Eq.trans b.2 a.2⟩
  | hms => exact Eq.trans b a
  | power => exact ⟨Eq.trans b.1 a.1, Eq.trans b.2.1 a.2.1, Eq.trans b.2.2.1 a.2.2.1, Eq.trans b.2.2.2.1 a.2.2.2.1, Eq.trans b.2.2.2.2.1 a.2.2.2.2.1, Eq.trans b.2.2.2.2.2.1 a.2.2.2.2.2.1, Eq.trans b.2.2.2.2.2.2 a.2.2.2.2.2.2⟩
  | host => exact ⟨Eq.trans b.1 a.1, Eq.trans b.2.1 a.2.1, Eq.trans b.2.2 a.2.2⟩
  | tap => exact Eq.trans b a
  | debug => exact ⟨Eq.trans b.1 a.1, Eq.trans b.2.1 a.2.1, Eq.trans b.2.2.1 a.2.2.1, Eq.trans b.2.2.2.1 a.2.2.2.1, Eq.trans b.2.2.2.2.1 a.2.2.2.2.1, Eq.trans b.2.2.2.2.2.1 a.2.2.2.2.2.1, Eq.trans b.2.2.2.2.2.2 a.2.2.2.2.2.2⟩
  | halts => exact Eq.trans b a
  | trace => exact ⟨Eq.trans b.1 a.1, Eq.trans b.2 a.2⟩
  | noc => exact ⟨Eq.trans b.1 a.1, Eq.trans b.2.1 a.2.1, Eq.trans b.2.2 a.2.2⟩
  | errors => exact fun f ch e => (b f ch e).trans (a f ch e)
  | regs p => exact fun f ch e n => (b f ch e n).trans (a f ch e n)

/-! ## Keeping -/

/-- A state t keeps what a state s holds: the commands that wait, the canonical form of the stores, a count of free
values that never falls, and every kind of state outside the set M. -/
structure Keeps (M : Nat) (s t : State) : Prop where
  pending : t.pending = s.pending
  memory : Memory.wf s = true → Memory.wf t = true
  free : s.freeUses ≤ t.freeUses
  same : ∀ k : Kind, M.testBit k.bit = false → k.same s t

/-- `Keeps` for a pair of a value and a state. -/
def Keeps2 {α : Type} (M : Nat) (s : State) (p : α × State) : Prop := Keeps M s p.2

/-- `Keeps` for two values and a state. -/
def Keeps3 {α β : Type} (M : Nat) (s : State) (p : α × β × State) : Prop := Keeps M s p.2.2

/-- `Keeps` for a state that may be absent. -/
def KeepsOpt (M : Nat) (s : State) (o : Option State) : Prop := ∀ t, o = some t → Keeps M s t

/-- `Keeps` for a value and a state that may be absent. -/
def KeepsOpt2 {α : Type} (M : Nat) (s : State) (o : Option (α × State)) : Prop := ∀ p, o = some p → Keeps M s p.2

/-- `Keeps` for the next state of an outcome. -/
def KeepsO (M : Nat) (s : State) (o : Host.Outcome State Fault Refusal) : Prop := ∀ t, o = .next t → Keeps M s t

/-! ## Rules -/

theorem Keeps.refl (M : Nat) (s : State) : Keeps M s s := ⟨rfl, id, le_refl _, fun k _ => k.same_refl s⟩

theorem Keeps.trans {M : Nat} {s t u : State} (h : Keeps M s t) (k : Keeps M t u) : Keeps M s u :=
  ⟨k.pending.trans h.pending, k.memory ∘ h.memory, le_trans h.free k.free,
    fun x hx => Kind.same_trans (h.same x hx) (k.same x hx)⟩

section
variable {M : Nat} {α β : Type} {s0 s t : State} {c : Prop} [Decidable c]

theorem keeps_ite (ht : Keeps M s0 s) (hf : Keeps M s0 t) : Keeps M s0 (if c then s else t) := by
  split <;> assumption

theorem keeps2_ite {p q : α × State} (hp : Keeps2 M s0 p) (hq : Keeps2 M s0 q) : Keeps2 M s0 (if c then p else q) := by
  split <;> assumption

theorem keeps3_ite {p q : α × β × State} (hp : Keeps3 M s0 p) (hq : Keeps3 M s0 q) : Keeps3 M s0 (if c then p else q) := by
  split <;> assumption

theorem keepsOpt_ite {p q : Option State} (hp : KeepsOpt M s0 p) (hq : KeepsOpt M s0 q) : KeepsOpt M s0 (if c then p else q) := by
  split <;> assumption

theorem keepsOpt2_ite {p q : Option (α × State)} (hp : KeepsOpt2 M s0 p) (hq : KeepsOpt2 M s0 q) :
    KeepsOpt2 M s0 (if c then p else q) := by
  split <;> assumption

theorem keepsO_ite {p q : Host.Outcome State Fault Refusal} (hp : KeepsO M s0 p) (hq : KeepsO M s0 q) :
    KeepsO M s0 (if c then p else q) := by
  split <;> assumption

theorem keeps_dite {a : c → State} {b : ¬c → State} (ha : ∀ h, Keeps M s0 (a h)) (hb : ∀ h, Keeps M s0 (b h)) :
    Keeps M s0 (if h : c then a h else b h) := by
  split
  · exact ha _
  · exact hb _

theorem keeps2_mk {v : α} (h : Keeps M s0 t) : Keeps2 M s0 (v, t) := h

theorem keeps3_mk {v : α} {p : β × State} (h : Keeps2 M s0 p) : Keeps3 M s0 (v, p) := h

theorem keeps_of2 {p : α × State} (h : Keeps2 M s0 p) : Keeps M s0 p.2 := h

theorem keeps_of3 {p : α × β × State} (h : Keeps3 M s0 p) : Keeps M s0 p.2.2 := h

theorem keepsOpt_none : KeepsOpt M s0 none := fun _ h => nomatch h

theorem keepsOpt2_none : KeepsOpt2 M s0 (none : Option (α × State)) := fun _ h => nomatch h

theorem keepsOpt_some (h : Keeps M s0 t) : KeepsOpt M s0 (some t) := fun _ e => Option.some.inj e ▸ h

theorem keepsOpt2_some {p : α × State} (h : Keeps2 M s0 p) : KeepsOpt2 M s0 (some p) := fun _ e => Option.some.inj e ▸ h

theorem keepsOpt_eq {o : Option State} (h : KeepsOpt M s0 o) (e : o = some t) : Keeps M s0 t := h t e

theorem keepsOpt2_eq {o : Option (α × State)} {v : α} (h : KeepsOpt2 M s0 o) (e : o = some (v, t)) : Keeps M s0 t := h (v, t) e

theorem keeps_getD {o : Option State} (h : KeepsOpt M s0 o) (hs : Keeps M s0 s) : Keeps M s0 (o.getD s) := by
  cases o with
  | none => exact hs
  | some x => exact h x rfl

theorem keepsO_next (h : Keeps M s0 t) : KeepsO M s0 (.next t) := fun _ e => Host.Outcome.next.inj e ▸ h

theorem keepsO_fault {f : Fault} : KeepsO M s0 (.fault f) := fun _ e => nomatch e

theorem keepsO_refused {r : Refusal} : KeepsO M s0 (.refused r) := fun _ e => nomatch e

theorem keeps_foldl {f : State → α → State} {l : List α} (hi : Keeps M s0 s) (hf : ∀ t x, Keeps M s0 t → Keeps M s0 (f t x)) :
    Keeps M s0 (l.foldl f s) := by
  induction l generalizing s with
  | nil => exact hi
  | cons x r ih => exact ih (hf _ _ hi)

theorem keeps2_foldl {f : β × State → α → β × State} {l : List α} {p : β × State} (hi : Keeps2 M s0 p)
    (hf : ∀ p x, Keeps2 M s0 p → Keeps2 M s0 (f p x)) : Keeps2 M s0 (l.foldl f p) := by
  induction l generalizing p with
  | nil => exact hi
  | cons x r ih => exact ih (hf _ _ hi)

end

/-- A record update that writes none of the stores: for each kind of state, it is in M or it is not written. -/
theorem keeps_mk {M : Nat} {s0 t : State} {c : Control}
    {x_outbox} {x_selects} {x_staging} {x_captures} {x_hiCaptures} {x_tb} {x_timeRuns} {x_timeRemain} {x_timeSince}
    {x_ethKicked} {x_health} {x_canary} {x_isWritebacks} {x_lanes} {x_chans} {x_addrStage} {x_wdataStage} {x_rdata}
    {x_rpend} {x_fabCap} {x_fabOwn} {x_fabPres} {x_fabIn} {x_relBlank} {x_parts} {x_banks} {x_resvBank} {x_exch}
    {x_exchHeld} {x_exchTook} {x_exchPriv} {x_replayExch} {x_probes} {x_onStep} {x_acqs} {x_tdcs} {x_netmap}
    {x_rxSlots} {x_txSlots} {x_txHeld} {x_casPorts} {x_laneSync} {x_cas} {x_fabric} {x_log} {x_dipFrom} {x_dipLow}
    {x_dipTick} {x_checkByCmd} {x_dipPassed} {x_irqLatches} {x_irqDisarmed} {x_irqStacks} {x_irqHeld} {x_records}
    {x_msixTable} {x_msixPending} {x_msixFuncMask} {x_cores} {x_hms} {x_porst} {x_tripped} {x_freqTarget}
    {x_coolFrom} {x_tempFresh} {x_throttles} {x_pcie} {x_hostWaiting} {x_hostOut} {x_windows} {x_tap}
    {x_challenges} {x_challengeAt} {x_haltAt} {x_releasing} {x_haltDip} {x_haltEdges} {x_trace} {x_coreTicks}
    {x_traceFrom} {x_haltDecided} {x_awake} {x_nocHeld} {x_quayReqs} {x_nocLocked} {x_scratchReady}
    (h : Keeps M s0 t) (hc : c.mem = t.control.mem)
    (g_out : 1 &&& M = 1 ∨ x_outbox = t.outbox := by exact .inr rfl)
    (g_access : 2 &&& M = 2 ∨ x_selects = t.selects ∧ x_staging = t.staging ∧ x_captures = t.captures ∧ x_hiCaptures = t.hiCaptures := by exact .inr ⟨rfl, rfl, rfl, rfl⟩)
    (g_time : 4 &&& M = 4 ∨ x_tb = t.tb ∧ x_timeRuns = t.timeRuns ∧ x_timeRemain = t.timeRemain ∧ x_timeSince = t.timeSince ∧ x_coreTicks = t.coreTicks := by exact .inr ⟨rfl, rfl, rfl, rfl, rfl⟩)
    (g_ethRing : 8 &&& M = 8 ∨ x_ethKicked = t.ethKicked := by exact .inr rfl)
    (g_health : 16 &&& M = 16 ∨ x_health = t.health ∧ x_canary = t.canary := by exact .inr ⟨rfl, rfl⟩)
    (g_istore : 32 &&& M = 32 ∨ x_isWritebacks = t.isWritebacks := by exact .inr rfl)
    (g_orchard : 256 &&& M = 256 ∨ x_lanes = t.lanes ∧ x_chans = t.chans ∧ x_addrStage = t.addrStage ∧ x_wdataStage = t.wdataStage ∧ x_rdata = t.rdata ∧ x_rpend = t.rpend := by exact .inr ⟨rfl, rfl, rfl, rfl, rfl, rfl⟩)
    (g_outbound : 512 &&& M = 512 ∨ x_fabCap = t.fabCap ∧ x_fabOwn = t.fabOwn ∧ x_fabPres = t.fabPres ∧ x_fabIn = t.fabIn ∧ x_relBlank = t.relBlank := by exact .inr ⟨rfl, rfl, rfl, rfl, rfl⟩)
    (g_parts : 1024 &&& M = 1024 ∨ x_parts = t.parts := by exact .inr rfl)
    (g_banks : 4096 &&& M = 4096 ∨ x_banks = t.banks := by exact .inr rfl)
    (g_resv : 8192 &&& M = 8192 ∨ x_resvBank = t.resvBank := by exact .inr rfl)
    (g_exch : 16384 &&& M = 16384 ∨ x_exch = t.exch := by exact .inr rfl)
    (g_exchAux : 32768 &&& M = 32768 ∨ x_exchHeld = t.exchHeld ∧ x_exchTook = t.exchTook ∧ x_exchPriv = t.exchPriv ∧ x_replayExch = t.replayExch := by exact .inr ⟨rfl, rfl, rfl, rfl⟩)
    (g_acq : 65536 &&& M = 65536 ∨ x_probes = t.probes ∧ x_onStep = t.onStep ∧ x_acqs = t.acqs ∧ x_tdcs = t.tdcs := by exact .inr ⟨rfl, rfl, rfl, rfl⟩)
    (g_netmap : 131072 &&& M = 131072 ∨ x_netmap = t.netmap := by exact .inr rfl)
    (g_slots : 262144 &&& M = 262144 ∨ x_rxSlots = t.rxSlots ∧ x_txSlots = t.txSlots ∧ x_txHeld = t.txHeld := by exact .inr ⟨rfl, rfl, rfl⟩)
    (g_ports : 524288 &&& M = 524288 ∨ x_casPorts = t.casPorts ∧ x_laneSync = t.laneSync := by exact .inr ⟨rfl, rfl⟩)
    (g_cas : 1048576 &&& M = 1048576 ∨ x_cas = t.cas := by exact .inr rfl)
    (g_fabric : 4194304 &&& M = 4194304 ∨ x_fabric = t.fabric := by exact .inr rfl)
    (g_logbook : 8388608 &&& M = 8388608 ∨ x_records = t.records := by exact .inr rfl)
    (g_log : 16777216 &&& M = 16777216 ∨ x_log = t.log := by exact .inr rfl)
    (g_dip : 33554432 &&& M = 33554432 ∨ x_dipFrom = t.dipFrom ∧ x_dipLow = t.dipLow ∧ x_dipTick = t.dipTick ∧ x_checkByCmd = t.checkByCmd ∧ x_dipPassed = t.dipPassed := by exact .inr ⟨rfl, rfl, rfl, rfl, rfl⟩)
    (g_irq : 67108864 &&& M = 67108864 ∨ x_irqLatches = t.irqLatches ∧ x_irqDisarmed = t.irqDisarmed ∧ x_irqHeld = t.irqHeld := by exact .inr ⟨rfl, rfl, rfl⟩)
    (g_irqStack : 134217728 &&& M = 134217728 ∨ x_irqStacks = t.irqStacks := by exact .inr rfl)
    (g_msix : 268435456 &&& M = 268435456 ∨ x_msixTable = t.msixTable ∧ x_msixPending = t.msixPending ∧ x_msixFuncMask = t.msixFuncMask := by exact .inr ⟨rfl, rfl, rfl⟩)
    (g_control : 536870912 &&& M = 536870912 ∨ c = t.control := by exact .inr rfl)
    (g_cores : 1073741824 &&& M = 1073741824 ∨ x_cores = t.cores := by exact .inr rfl)
    (g_scratch : 2147483648 &&& M = 2147483648 ∨ x_scratchReady = t.scratchReady := by exact .inr rfl)
    (g_hms : 4294967296 &&& M = 4294967296 ∨ x_hms = t.hms := by exact .inr rfl)
    (g_power : 8589934592 &&& M = 8589934592 ∨ x_porst = t.porst ∧ x_tripped = t.tripped ∧ x_freqTarget = t.freqTarget ∧ x_coolFrom = t.coolFrom ∧ x_tempFresh = t.tempFresh ∧ x_throttles = t.throttles ∧ x_awake = t.awake := by exact .inr ⟨rfl, rfl, rfl, rfl, rfl, rfl, rfl⟩)
    (g_host : 17179869184 &&& M = 17179869184 ∨ x_pcie = t.pcie ∧ x_hostWaiting = t.hostWaiting ∧ x_hostOut = t.hostOut := by exact .inr ⟨rfl, rfl, rfl⟩)
    (g_tap : 34359738368 &&& M = 34359738368 ∨ x_tap = t.tap := by exact .inr rfl)
    (g_debug : 68719476736 &&& M = 68719476736 ∨ x_windows = t.windows ∧ x_challenges = t.challenges ∧ x_challengeAt = t.challengeAt ∧ x_haltAt = t.haltAt ∧ x_releasing = t.releasing ∧ x_haltDip = t.haltDip ∧ x_haltEdges = t.haltEdges := by exact .inr ⟨rfl, rfl, rfl, rfl, rfl, rfl, rfl⟩)
    (g_halts : 137438953472 &&& M = 137438953472 ∨ x_haltDecided = t.haltDecided := by exact .inr rfl)
    (g_trace : 274877906944 &&& M = 274877906944 ∨ x_trace = t.trace ∧ x_traceFrom = t.traceFrom := by exact .inr ⟨rfl, rfl⟩)
    (g_noc : 549755813888 &&& M = 549755813888 ∨ x_nocHeld = t.nocHeld ∧ x_quayReqs = t.quayReqs ∧ x_nocLocked = t.nocLocked := by exact .inr ⟨rfl, rfl, rfl⟩) :
    Keeps M s0 (State.mk
      t.pending x_outbox t.freeUses t.regs x_selects x_staging x_captures x_hiCaptures x_tb x_timeRuns x_timeRemain
      x_timeSince x_ethKicked x_health t.istore t.rows t.shadow x_canary x_isWritebacks x_lanes x_chans x_addrStage
      x_wdataStage x_rdata x_rpend x_fabCap x_fabOwn x_fabPres x_fabIn x_relBlank x_parts t.dmem x_banks x_resvBank
      x_exch x_exchHeld x_exchTook x_exchPriv x_replayExch x_probes x_onStep x_acqs x_tdcs x_netmap x_rxSlots
      x_txSlots x_txHeld x_casPorts x_laneSync x_cas t.frames x_fabric t.logbook x_log x_dipFrom x_dipLow x_dipTick
      x_checkByCmd x_dipPassed x_irqLatches x_irqDisarmed x_irqStacks x_irqHeld c x_records x_msixTable
      x_msixPending x_msixFuncMask x_cores t.scratch x_hms x_porst x_tripped x_freqTarget x_coolFrom x_tempFresh
      x_throttles x_pcie x_hostWaiting x_hostOut x_windows x_tap x_challenges x_challengeAt x_haltAt x_releasing
      x_haltDip x_haltEdges x_trace x_coreTicks x_traceFrom x_haltDecided x_awake x_nocHeld x_quayReqs x_nocLocked
      x_scratchReady) where
  pending := h.pending
  memory := fun w => by have m := h.memory w; simp only [Memory.wf, hc] at m ⊢; exact m
  free := h.free
  same := fun k hk => by
    have h0 := h.same k hk
    cases k with
    | out => exact g_out.elim (fun e => (bit_absurd (i := 0) e hk).elim) (fun e => e.trans h0)
    | access =>
      obtain ⟨k0, k1, k2, k3⟩ := h0
      exact g_access.elim (fun e => (bit_absurd (i := 1) e hk).elim) (fun ⟨e0, e1, e2, e3⟩ => ⟨e0.trans k0, e1.trans k1, e2.trans k2, e3.trans k3⟩)
    | time =>
      obtain ⟨k0, k1, k2, k3, k4⟩ := h0
      exact g_time.elim (fun e => (bit_absurd (i := 2) e hk).elim) (fun ⟨e0, e1, e2, e3, e4⟩ => ⟨e0.trans k0, e1.trans k1, e2.trans k2, e3.trans k3, e4.trans k4⟩)
    | ethRing => exact g_ethRing.elim (fun e => (bit_absurd (i := 3) e hk).elim) (fun e => e.trans h0)
    | health =>
      obtain ⟨k0, k1⟩ := h0
      exact g_health.elim (fun e => (bit_absurd (i := 4) e hk).elim) (fun ⟨e0, e1⟩ => ⟨e0.trans k0, e1.trans k1⟩)
    | istore =>
      obtain ⟨k0, k1⟩ := h0
      exact g_istore.elim (fun e => (bit_absurd (i := 5) e hk).elim) (fun e0 => ⟨k0, e0.trans k1⟩)
    | rows => exact h0
    | shadow => exact h0
    | orchard =>
      obtain ⟨k0, k1, k2, k3, k4, k5⟩ := h0
      exact g_orchard.elim (fun e => (bit_absurd (i := 8) e hk).elim) (fun ⟨e0, e1, e2, e3, e4, e5⟩ => ⟨e0.trans k0, e1.trans k1, e2.trans k2, e3.trans k3, e4.trans k4, e5.trans k5⟩)
    | outbound =>
      obtain ⟨k0, k1, k2, k3, k4⟩ := h0
      exact g_outbound.elim (fun e => (bit_absurd (i := 9) e hk).elim) (fun ⟨e0, e1, e2, e3, e4⟩ => ⟨e0.trans k0, e1.trans k1, e2.trans k2, e3.trans k3, e4.trans k4⟩)
    | parts => exact g_parts.elim (fun e => (bit_absurd (i := 10) e hk).elim) (fun e => e.trans h0)
    | dmem => exact h0
    | banks => exact g_banks.elim (fun e => (bit_absurd (i := 12) e hk).elim) (fun e => e.trans h0)
    | resv => exact g_resv.elim (fun e => (bit_absurd (i := 13) e hk).elim) (fun e => e.trans h0)
    | exch => exact g_exch.elim (fun e => (bit_absurd (i := 14) e hk).elim) (fun e => e.trans h0)
    | exchAux =>
      obtain ⟨k0, k1, k2, k3⟩ := h0
      exact g_exchAux.elim (fun e => (bit_absurd (i := 15) e hk).elim) (fun ⟨e0, e1, e2, e3⟩ => ⟨e0.trans k0, e1.trans k1, e2.trans k2, e3.trans k3⟩)
    | acq =>
      obtain ⟨k0, k1, k2, k3⟩ := h0
      exact g_acq.elim (fun e => (bit_absurd (i := 16) e hk).elim) (fun ⟨e0, e1, e2, e3⟩ => ⟨e0.trans k0, e1.trans k1, e2.trans k2, e3.trans k3⟩)
    | netmap => exact g_netmap.elim (fun e => (bit_absurd (i := 17) e hk).elim) (fun e => e.trans h0)
    | slots =>
      obtain ⟨k0, k1, k2⟩ := h0
      exact g_slots.elim (fun e => (bit_absurd (i := 18) e hk).elim) (fun ⟨e0, e1, e2⟩ => ⟨e0.trans k0, e1.trans k1, e2.trans k2⟩)
    | ports =>
      obtain ⟨k0, k1⟩ := h0
      exact g_ports.elim (fun e => (bit_absurd (i := 19) e hk).elim) (fun ⟨e0, e1⟩ => ⟨e0.trans k0, e1.trans k1⟩)
    | cas => exact g_cas.elim (fun e => (bit_absurd (i := 20) e hk).elim) (fun e => e.trans h0)
    | frames => exact h0
    | fabric => exact g_fabric.elim (fun e => (bit_absurd (i := 22) e hk).elim) (fun e => e.trans h0)
    | logbook =>
      obtain ⟨k0, k1⟩ := h0
      exact g_logbook.elim (fun e => (bit_absurd (i := 23) e hk).elim) (fun e0 => ⟨k0, e0.trans k1⟩)
    | log => exact g_log.elim (fun e => (bit_absurd (i := 24) e hk).elim) (fun e => e.trans h0)
    | dip =>
      obtain ⟨k0, k1, k2, k3, k4⟩ := h0
      exact g_dip.elim (fun e => (bit_absurd (i := 25) e hk).elim) (fun ⟨e0, e1, e2, e3, e4⟩ => ⟨e0.trans k0, e1.trans k1, e2.trans k2, e3.trans k3, e4.trans k4⟩)
    | irq =>
      obtain ⟨k0, k1, k2⟩ := h0
      exact g_irq.elim (fun e => (bit_absurd (i := 26) e hk).elim) (fun ⟨e0, e1, e2⟩ => ⟨e0.trans k0, e1.trans k1, e2.trans k2⟩)
    | irqStack => exact g_irqStack.elim (fun e => (bit_absurd (i := 27) e hk).elim) (fun e => e.trans h0)
    | msix =>
      obtain ⟨k0, k1, k2⟩ := h0
      exact g_msix.elim (fun e => (bit_absurd (i := 28) e hk).elim) (fun ⟨e0, e1, e2⟩ => ⟨e0.trans k0, e1.trans k1, e2.trans k2⟩)
    | control => exact g_control.elim (fun e => (bit_absurd (i := 29) e hk).elim) (fun e => e.trans h0)
    | cores => exact g_cores.elim (fun e => (bit_absurd (i := 30) e hk).elim) (fun e => e.trans h0)
    | scratch =>
      obtain ⟨k0, k1⟩ := h0
      exact g_scratch.elim (fun e => (bit_absurd (i := 31) e hk).elim) (fun e0 => ⟨k0, e0.trans k1⟩)
    | hms => exact g_hms.elim (fun e => (bit_absurd (i := 32) e hk).elim) (fun e => e.trans h0)
    | power =>
      obtain ⟨k0, k1, k2, k3, k4, k5, k6⟩ := h0
      exact g_power.elim (fun e => (bit_absurd (i := 33) e hk).elim) (fun ⟨e0, e1, e2, e3, e4, e5, e6⟩ => ⟨e0.trans k0, e1.trans k1, e2.trans k2, e3.trans k3, e4.trans k4, e5.trans k5, e6.trans k6⟩)
    | host =>
      obtain ⟨k0, k1, k2⟩ := h0
      exact g_host.elim (fun e => (bit_absurd (i := 34) e hk).elim) (fun ⟨e0, e1, e2⟩ => ⟨e0.trans k0, e1.trans k1, e2.trans k2⟩)
    | tap => exact g_tap.elim (fun e => (bit_absurd (i := 35) e hk).elim) (fun e => e.trans h0)
    | debug =>
      obtain ⟨k0, k1, k2, k3, k4, k5, k6⟩ := h0
      exact g_debug.elim (fun e => (bit_absurd (i := 36) e hk).elim) (fun ⟨e0, e1, e2, e3, e4, e5, e6⟩ => ⟨e0.trans k0, e1.trans k1, e2.trans k2, e3.trans k3, e4.trans k4, e5.trans k5, e6.trans k6⟩)
    | halts => exact g_halts.elim (fun e => (bit_absurd (i := 37) e hk).elim) (fun e => e.trans h0)
    | trace =>
      obtain ⟨k0, k1⟩ := h0
      exact g_trace.elim (fun e => (bit_absurd (i := 38) e hk).elim) (fun ⟨e0, e1⟩ => ⟨e0.trans k0, e1.trans k1⟩)
    | noc =>
      obtain ⟨k0, k1, k2⟩ := h0
      exact g_noc.elim (fun e => (bit_absurd (i := 39) e hk).elim) (fun ⟨e0, e1, e2⟩ => ⟨e0.trans k0, e1.trans k1, e2.trans k2⟩)
    | errors => exact h0
    | regs p => exact h0

/-- An update of the stores that leaves each of them canonical. -/
theorem keeps_stores {M : Nat} {s0 s t : State} (h : Keeps M s0 s) (hp : t.pending = s.pending)
    (hf : s.freeUses ≤ t.freeUses) (hw : Memory.wf s = true → Memory.wf t = true)
    (hs : ∀ k : Kind, M.testBit k.bit = false → k.same s t) : Keeps M s0 t :=
  h.trans ⟨hp, hw, hf, hs⟩

/-! ## The operations that write a store -/

theorem keeps_dmem {M : Nat} {s0 t : State} {v : SMap W128} (hM : 2048 &&& M = 2048) (h : Keeps M s0 t)
    (hv : SMap.wf 0 t.dmem = true → SMap.wf 0 v = true) : Keeps M s0 { t with dmem := v } := by
  refine keeps_stores h rfl (le_refl _) ?_ ?_
  · simp only [Memory.wf, Bool.and_eq_true]
    rintro ⟨⟨⟨⟨⟨⟨⟨⟨h0, h1⟩, h2⟩, h3⟩, h4⟩, h5⟩, h6⟩, h7⟩, h8⟩
    exact ⟨⟨⟨⟨⟨⟨⟨⟨h0, hv h1⟩, h2⟩, h3⟩, h4⟩, h5⟩, h6⟩, h7⟩, h8⟩
  · intro k hk
    have r := k.same_refl t
    cases k with
    | dmem => exact (bit_absurd (i := 11) hM hk).elim
    | _ => exact r

theorem keeps_scratch {M : Nat} {s0 t : State} {v : SMap W128} (hM : 2147483648 &&& M = 2147483648) (h : Keeps M s0 t)
    (hv : SMap.wf 0 t.scratch = true → SMap.wf 0 v = true) : Keeps M s0 { t with scratch := v } := by
  refine keeps_stores h rfl (le_refl _) ?_ ?_
  · simp only [Memory.wf, Bool.and_eq_true]
    rintro ⟨⟨⟨⟨⟨⟨⟨⟨h0, h1⟩, h2⟩, h3⟩, h4⟩, h5⟩, h6⟩, h7⟩, h8⟩
    exact ⟨⟨⟨⟨⟨⟨⟨⟨h0, h1⟩, hv h2⟩, h3⟩, h4⟩, h5⟩, h6⟩, h7⟩, h8⟩
  · intro k hk
    have r := k.same_refl t
    cases k with
    | scratch => exact (bit_absurd (i := 31) hM hk).elim
    | _ => exact r

theorem keeps_istore {M : Nat} {s0 t : State} {v : SMap W128} (hM : 32 &&& M = 32) (h : Keeps M s0 t)
    (hv : SMap.wf idleWord t.istore = true → SMap.wf idleWord v = true) : Keeps M s0 { t with istore := v } := by
  refine keeps_stores h rfl (le_refl _) ?_ ?_
  · simp only [Memory.wf, Bool.and_eq_true]
    rintro ⟨⟨⟨⟨⟨⟨⟨⟨h0, h1⟩, h2⟩, h3⟩, h4⟩, h5⟩, h6⟩, h7⟩, h8⟩
    exact ⟨⟨⟨⟨⟨⟨⟨⟨h0, h1⟩, h2⟩, hv h3⟩, h4⟩, h5⟩, h6⟩, h7⟩, h8⟩
  · intro k hk
    have r := k.same_refl t
    cases k with
    | istore => exact (bit_absurd (i := 5) hM hk).elim
    | _ => exact r

theorem keeps_rows {M : Nat} {s0 t : State} {v : SMap (BitVec 64)} (hM : 64 &&& M = 64) (h : Keeps M s0 t)
    (hv : SMap.wf 0 t.rows = true → SMap.wf 0 v = true) : Keeps M s0 { t with rows := v } := by
  refine keeps_stores h rfl (le_refl _) ?_ ?_
  · simp only [Memory.wf, Bool.and_eq_true]
    rintro ⟨⟨⟨⟨⟨⟨⟨⟨h0, h1⟩, h2⟩, h3⟩, h4⟩, h5⟩, h6⟩, h7⟩, h8⟩
    exact ⟨⟨⟨⟨⟨⟨⟨⟨h0, h1⟩, h2⟩, h3⟩, hv h4⟩, h5⟩, h6⟩, h7⟩, h8⟩
  · intro k hk
    have r := k.same_refl t
    cases k with
    | rows => exact (bit_absurd (i := 6) hM hk).elim
    | _ => exact r

theorem keeps_shadow {M : Nat} {s0 t : State} {v : SMap (BitVec 64)} (hM : 128 &&& M = 128) (h : Keeps M s0 t)
    (hv : SMap.wf 0 t.shadow = true → SMap.wf 0 v = true) : Keeps M s0 { t with shadow := v } := by
  refine keeps_stores h rfl (le_refl _) ?_ ?_
  · simp only [Memory.wf, Bool.and_eq_true]
    rintro ⟨⟨⟨⟨⟨⟨⟨⟨h0, h1⟩, h2⟩, h3⟩, h4⟩, h5⟩, h6⟩, h7⟩, h8⟩
    exact ⟨⟨⟨⟨⟨⟨⟨⟨h0, h1⟩, h2⟩, h3⟩, h4⟩, hv h5⟩, h6⟩, h7⟩, h8⟩
  · intro k hk
    have r := k.same_refl t
    cases k with
    | shadow => exact (bit_absurd (i := 7) hM hk).elim
    | _ => exact r

theorem keeps_frames {M : Nat} {s0 t : State} {v : SMap (BitVec 4096)} (hM : 2097152 &&& M = 2097152) (h : Keeps M s0 t)
    (hv : SMap.wf 0 t.frames = true → SMap.wf 0 v = true) : Keeps M s0 { t with frames := v } := by
  refine keeps_stores h rfl (le_refl _) ?_ ?_
  · simp only [Memory.wf, Bool.and_eq_true]
    rintro ⟨⟨⟨⟨⟨⟨⟨⟨h0, h1⟩, h2⟩, h3⟩, h4⟩, h5⟩, h6⟩, h7⟩, h8⟩
    exact ⟨⟨⟨⟨⟨⟨⟨⟨h0, h1⟩, h2⟩, h3⟩, h4⟩, h5⟩, hv h6⟩, h7⟩, h8⟩
  · intro k hk
    have r := k.same_refl t
    cases k with
    | frames => exact (bit_absurd (i := 21) hM hk).elim
    | _ => exact r

theorem keeps_logbook {M : Nat} {s0 t : State} {v : SMap W128} (hM : 8388608 &&& M = 8388608) (h : Keeps M s0 t)
    (hv : SMap.wf 0 t.logbook = true → SMap.wf 0 v = true) : Keeps M s0 { t with logbook := v } := by
  refine keeps_stores h rfl (le_refl _) ?_ ?_
  · simp only [Memory.wf, Bool.and_eq_true]
    rintro ⟨⟨⟨⟨⟨⟨⟨⟨h0, h1⟩, h2⟩, h3⟩, h4⟩, h5⟩, h6⟩, h7⟩, h8⟩
    exact ⟨⟨⟨⟨⟨⟨⟨⟨h0, h1⟩, h2⟩, h3⟩, h4⟩, h5⟩, h6⟩, hv h7⟩, h8⟩
  · intro k hk
    have r := k.same_refl t
    cases k with
    | logbook => exact (bit_absurd (i := 23) hM hk).elim
    | _ => exact r

theorem keeps_freeUses {M : Nat} {s0 t : State} (h : Keeps M s0 t) : Keeps M s0 { t with freeUses := t.freeUses + 1 } :=
  keeps_stores h rfl (Nat.le_succ _) id (fun k _ => by
    have r := k.same_refl t
    cases k with
    | _ => exact r)

theorem SMap.sorted_put {α : Type} {m : SMap α} (q : Nat) (v : α) (h : SMap.sorted m = true) :
    SMap.sorted (SMap.put m q v) = true :=
  SMap.put_rises v (Nat.zero_le q) h

theorem keeps_controlMem {M : Nat} {s0 t : State} {c : Control} (hM : 536870912 &&& M = 536870912) (h : Keeps M s0 t)
    (hv : SMap.sorted t.control.mem = true → SMap.sorted c.mem = true) : Keeps M s0 { t with control := c } := by
  refine keeps_stores h rfl (le_refl _) ?_ ?_
  · simp only [Memory.wf, Bool.and_eq_true]
    exact fun k => ⟨k.1, hv k.2⟩
  · intro k hk
    have r := k.same_refl t
    cases k with
    | control => exact (bit_absurd (i := 29) hM hk).elim
    | _ => exact r

theorem State.modControl_keeps {M : Nat} {s0 s : State} {f : Control → Control} (hM : 536870912 &&& M = 536870912)
    (hf : ∀ c, (f c).mem = c.mem) (h : Keeps M s0 s) : Keeps M s0 (s.modControl f) :=
  keeps_mk h (hf _) (g_control := .inl hM)

theorem Fld.key_page (f : Fld) (ch : Nat) : f.key ch / 2 ^ 25 = f.page.type := by
  unfold Fld.key
  omega

theorem Fld.key_off (f : Fld) (ch : Nat) : f.key ch / 32 % 4096 = f.off % 4096 := by
  unfold Fld.key
  omega

theorem Page.type_inj {p q : Page} (h : p.type = q.type) : p = q := by
  revert h
  cases p <;> cases q <;> decide

theorem State.wr_keeps {M : Nat} {s0 a0 : State} {a1 : Fld} {a2 a3 : Nat} (_ : 0 &&& M = 0)
    (hf1 : regBit a1 &&& M = regBit a1) (ha0 : Keeps M s0 a0) : Keeps M s0 (State.wr a0 a1 a2 a3) := by
  refine keeps_stores ha0 rfl (le_refl _) ?_ ?_
  · simp only [Memory.wf, Bool.and_eq_true, State.wr]
    rintro ⟨⟨⟨⟨⟨⟨⟨⟨h0, h1⟩, h2⟩, h3⟩, h4⟩, h5⟩, h6⟩, h7⟩, h8⟩
    exact ⟨⟨⟨⟨⟨⟨⟨⟨SMap.sorted_set _ _ _ h0, h1⟩, h2⟩, h3⟩, h4⟩, h5⟩, h6⟩, h7⟩, h8⟩
  · intro k hk
    have r := k.same_refl a0
    cases k with
    | errors =>
      intro f ch e
      have hn : f.key ch ≠ a1.key a2 := by
        intro q
        have o := congrArg (fun x => x / 32 % 4096) q
        simp only [Fld.key_off] at o
        rw [o] at e
        simp only [regBit, e, if_true] at hf1
        exact bit_absurd hf1 hk
      exact SMap.get_set_other hn
    | regs p =>
      intro f ch e n
      have hn : f.key ch ≠ a1.key a2 := by
        intro q
        have o := congrArg (fun x => x / 32 % 4096) q
        have g := congrArg (fun x => x / 2 ^ 25) q
        simp only [Fld.key_off] at o
        simp only [Fld.key_page] at g
        rw [o] at n
        rw [e] at g
        simp only [regBit, n, ← g] at hf1
        exact bit_absurd hf1 hk
      exact SMap.get_set_other hn
    | _ => exact r

theorem State.wr_keeps_of {M : Nat} {s0 a0 : State} {a1 : Fld} {a2 a3 : Nat} (hf1 : regBit a1 &&& M = regBit a1)
    (ha0 : Keeps M s0 a0) : Keeps M s0 (State.wr a0 a1 a2 a3) := State.wr_keeps (Nat.zero_and M) hf1 ha0




/-! ## Machine/Ops.lean -/

theorem State.count_keeps {M : Nat} {s0 : State} {a0 a1 a2 a3} (hM : 0 &&& M = 0) (hf1 : regBit a1 &&& M = regBit a1)
    (ha0 : Keeps M s0 a0) : Keeps M s0 (State.count a0 a1 a2 a3) := by
  unfold State.count
  exact State.wr_keeps (ss hM rfl) hf1 ha0

theorem State.wrSat_keeps {M : Nat} {s0 : State} {a0 a1 a2 a3} (hM : 0 &&& M = 0) (hf1 : regBit a1 &&& M = regBit a1)
    (ha0 : Keeps M s0 a0) : Keeps M s0 (State.wrSat a0 a1 a2 a3) := by
  unfold State.wrSat
  exact State.wr_keeps (ss hM rfl) hf1 ha0

theorem State.wr64_keeps {M : Nat} {s0 : State} {a0 a1 a2 a3 a4} (hM : 0 &&& M = 0) (hf1 : regBit a1 &&& M = regBit
    a1) (hf2 : regBit a2 &&& M = regBit a2) (ha0 : Keeps M s0 a0) : Keeps M s0 (State.wr64 a0 a1 a2 a3 a4) := by
  unfold State.wr64
  exact State.wr_keeps (ss hM rfl) hf2 (State.wr_keeps (ss hM rfl) hf1 ha0)

theorem State.wr128_keeps {M : Nat} {s0 : State} {a0 a1 a2 a3 a4 a5 a6} (hM : 0 &&& M = 0) (hf1 : regBit a1 &&& M =
    regBit a1) (hf2 : regBit a2 &&& M = regBit a2) (hf3 : regBit a3 &&& M = regBit a3) (hf4 : regBit a4 &&& M =
    regBit a4) (ha0 : Keeps M s0 a0) : Keeps M s0 (State.wr128 a0 a1 a2 a3 a4 a5 a6) := by
  unfold State.wr128
  exact State.wr_keeps (ss hM rfl) hf4 (State.wr_keeps (ss hM rfl) hf3 (State.wr_keeps (ss hM rfl) hf2
      (State.wr_keeps (ss hM rfl) hf1 ha0)))

theorem State.emit_keeps {M : Nat} {s0 : State} {a0 a1} (hM : 1 &&& M = 1) (ha0 : Keeps M s0 a0) : Keeps M s0
    (State.emit a0 a1) := by
  unfold State.emit
  exact keeps_mk ha0 rfl (g_out := .inl (ss hM rfl))

theorem State.respond_keeps {M : Nat} {s0 : State} {a0 a1 a2 a3} (hM : 1 &&& M = 1) (ha0 : Keeps M s0 a0) : Keeps M
    s0 (State.respond a0 a1 a2 a3) := by
  unfold State.respond
  exact State.emit_keeps (ss hM rfl) ha0

theorem State.free_keeps {M : Nat} {s0 : State} {a0} (hM : 0 &&& M = 0) (ha0 : Keeps M s0 a0) : Keeps2 M s0
    (State.free a0) := by
  unfold State.free
  exact keeps2_mk (keeps_freeUses ha0)

theorem State.err_keeps {M : Nat} {s0 : State} {a0 a1 a2 a3 a4 a5} (hM : 1099511627776 &&& M = 1099511627776) (ha0 :
    Keeps M s0 a0) : Keeps M s0 (State.err a0 a1 a2 a3 a4 a5) := by
  unfold State.err
  exact keeps_ite (State.wr_keeps (ss hM rfl) (errBits (n := 24) rfl rfl (ss hM rfl)) ha0) (State.wr_keeps (ss hM
      rfl) (errBits (n := 24) rfl rfl (ss hM rfl)) (State.wr_keeps (ss hM rfl) (errBits (n := 28) rfl rfl (ss hM
      rfl)) (State.wr_keeps (ss hM rfl) (errBits (n := 24) rfl rfl (ss hM rfl)) (State.wr_keeps (ss hM rfl) (errBits
      (n := 24) rfl rfl (ss hM rfl)) (State.wr_keeps (ss hM rfl) (errBits (n := 24) rfl rfl (ss hM rfl)) ha0)))))

theorem State.errReg_keeps {M : Nat} {s0 : State} {a0 a1 a2 a3 a4 a5} (hM : 1099511627776 &&& M = 1099511627776) (ha0
    : Keeps M s0 a0) : Keeps M s0 (State.errReg a0 a1 a2 a3 a4 a5) := by
  unfold State.errReg
  exact State.err_keeps (ss hM rfl) ha0

theorem State.sendVector_keeps {M : Nat} {s0 : State} {a0 a1} (hM : 268435457 &&& M = 268435457) (ha0 : Keeps M s0
    a0) : Keeps M s0 (State.sendVector a0 a1) := by
  unfold State.sendVector
  exact keeps_ite (State.emit_keeps (ss hM rfl) ha0) (keeps_mk ha0 rfl (g_msix := .inl (ss hM rfl)))

theorem State.irqEvent_keeps {M : Nat} {s0 : State} {a0 a1} (hM : 335544321 &&& M = 335544321) (ha0 : Keeps M s0 a0)
    : Keeps M s0 (State.irqEvent a0 a1) := by
  unfold State.irqEvent
  split
  · exact keeps_mk ha0 rfl (g_irq := .inl (ss hM rfl))
  · exact keeps_ite ha0 (keeps_ite (keeps_mk ha0 rfl (g_irq := .inl (ss hM rfl))) (State.sendVector_keeps (ss hM rfl)
        (keeps_mk ha0 rfl (g_irq := .inl (ss hM rfl)))))
  · exact ha0

theorem State.raise_keeps {M : Nat} {s0 : State} {a0 a1 a2 a3} (hM : 1099847172097 &&& M = 1099847172097) (ha0 :
    Keeps M s0 a0) : Keeps M s0 (State.raise a0 a1 a2 a3) := by
  unfold State.raise
  extract_lets +onlyGivenNames v0
  have h1 : Keeps M s0 v0 := State.wr_keeps (ss hM rfl) (errBits (n := 12) rfl rfl (ss hM rfl)) ha0
  try clear_value v0
  refine keeps_ite ?_ ?_
  · split
    · exact State.irqEvent_keeps (ss hM rfl) h1
    · exact h1
  · exact h1

theorem State.raiseEth_keeps {M : Nat} {s0 : State} {a0 a1 a2} (hM : 1126999754014721 &&& M = 1126999754014721) (ha0
    : Keeps M s0 a0) : Keeps M s0 (State.raiseEth a0 a1 a2) := by
  unfold State.raiseEth
  extract_lets +onlyGivenNames v0
  have h1 : Keeps M s0 v0 := State.wr_keeps (ss hM rfl) (offRegs (p := .eth) rfl (ss hM rfl)) ha0
  try clear_value v0
  exact keeps_ite (State.irqEvent_keeps (ss hM rfl) h1) h1

theorem State.logQueue_keeps {M : Nat} {s0 : State} {a0 a1} (hM : 18692049993729 &&& M = 18692049993729) (ha0 : Keeps
    M s0 a0) : Keeps M s0 (State.logQueue a0 a1) := by
  unfold State.logQueue
  exact keeps_ite (State.raise_keeps (ss hM rfl) (State.count_keeps (ss hM rfl) (ss hM rfl) ha0)) (keeps_mk ha0 rfl
      (g_log := .inl (ss hM rfl)))

theorem State.logEvent_keeps {M : Nat} {s0 : State} {a0 a1 a2 a3 a4 a5 a6} (hM : 18692049993729 &&& M =
    18692049993729) (ha0 : Keeps M s0 a0) : Keeps M s0 (State.logEvent a0 a1 a2 a3 a4 a5 a6) := by
  unfold State.logEvent
  exact State.logQueue_keeps (ss hM rfl) ha0

theorem State.absorbed_keeps {M : Nat} {s0 : State} {a0 a1 a2} (hM : 18692049993729 &&& M = 18692049993729) (ha0 :
    Keeps M s0 a0) : Keeps M s0 (State.absorbed a0 a1 a2) := by
  unfold State.absorbed
  exact State.logEvent_keeps (ss hM rfl) (State.raise_keeps (ss hM rfl) ha0)

theorem State.modPart_keeps {M : Nat} {s0 : State} {a0 a1 a2} (hM : 1024 &&& M = 1024) (ha0 : Keeps M s0 a0) : Keeps
    M s0 (State.modPart a0 a1 a2) := by
  unfold State.modPart
  exact keeps_mk ha0 rfl (g_parts := .inl (ss hM rfl))

theorem State.modBank_keeps {M : Nat} {s0 : State} {a0 a1 a2} (hM : 4096 &&& M = 4096) (ha0 : Keeps M s0 a0) : Keeps
    M s0 (State.modBank a0 a1 a2) := by
  unfold State.modBank
  exact keeps_mk ha0 rfl (g_banks := .inl (ss hM rfl))

theorem State.modPort_keeps {M : Nat} {s0 : State} {a0 a1 a2} (hM : 524288 &&& M = 524288) (ha0 : Keeps M s0 a0) :
    Keeps M s0 (State.modPort a0 a1 a2) := by
  unfold State.modPort
  exact keeps_mk ha0 rfl (g_ports := .inl (ss hM rfl))

theorem State.modCore_keeps {M : Nat} {s0 : State} {a0 a1 a2} (hM : 1073741824 &&& M = 1073741824) (ha0 : Keeps M s0
    a0) : Keeps M s0 (State.modCore a0 a1 a2) := by
  unfold State.modCore
  exact keeps_mk ha0 rfl (g_cores := .inl (ss hM rfl))

theorem State.modCas_keeps {M : Nat} {s0 : State} {a0 a1} (hM : 1048576 &&& M = 1048576) (ha0 : Keeps M s0 a0) :
    Keeps M s0 (State.modCas a0 a1) := by
  unfold State.modCas
  exact keeps_mk ha0 rfl (g_cas := .inl (ss hM rfl))

theorem State.setEcc_keeps {M : Nat} {s0 : State} {a0 a1 a2 a3} (hM : 16 &&& M = 16) (ha0 : Keeps M s0 a0) : Keeps M
    s0 (State.setEcc a0 a1 a2 a3) := by
  unfold State.setEcc
  exact keeps_mk ha0 rfl (g_health := .inl (ss hM rfl))

theorem State.upsetCanary_keeps {M : Nat} {s0 : State} {a0 a1} (hM : 16 &&& M = 16) (ha0 : Keeps M s0 a0) : Keeps M
    s0 (State.upsetCanary a0 a1) := by
  unfold State.upsetCanary
  exact keeps_ite (keeps_mk ha0 rfl (g_health := .inl (ss hM rfl))) ha0

theorem State.upset_keeps {M : Nat} {s0 : State} {a0 a1} (hM : 16 &&& M = 16) (ha0 : Keeps M s0 a0) : Keeps M s0
    (State.upset a0 a1) := by
  unfold State.upset
  exact keeps_foldl ha0 (fun _ _ h0 => keeps_ite (State.upsetCanary_keeps (ss hM rfl) h0) (State.setEcc_keeps (ss hM
      rfl) h0))

theorem State.quayAnswer_keeps {M : Nat} {s0 : State} {a0 a1 a2 a3 a4 a5} (hM : 1 &&& M = 1) (ha0 : Keeps M s0 a0) :
    Keeps M s0 (State.quayAnswer a0 a1 a2 a3 a4 a5) := by
  unfold State.quayAnswer
  exact keeps_ite ha0 (State.emit_keeps (ss hM rfl) ha0)

/-! ## Machine/Banks.lean -/

theorem State.setArray_keeps {M : Nat} {s0 : State} {a0 a1 a2 a3 a4} (hM : 2064 &&& M = 2064) (ha0 : Keeps M s0 a0) :
    Keeps M s0 (State.setArray a0 a1 a2 a3 a4) := by
  unfold State.setArray
  extract_lets +onlyGivenNames v0
  exact State.setEcc_keeps (ss hM rfl) (keeps_dmem (ss hM rfl) ha0 (SMap.wf_set _ _ _))

theorem State.setBankWord_keeps {M : Nat} {s0 : State} {a0 a1 a2 a3 a4} (hM : 6160 &&& M = 6160) (ha0 : Keeps M s0
    a0) : Keeps M s0 (State.setBankWord a0 a1 a2 a3 a4) := by
  unfold State.setBankWord
  extract_lets +onlyGivenNames v0
  have h1 : Keeps M s0 v0 := keeps_ite (State.setArray_keeps (ss hM rfl) ha0) ha0
  try clear_value v0
  exact keeps_ite (State.modBank_keeps (ss hM rfl) h1) h1

theorem State.bankCorrected_keeps {M : Nat} {s0 : State} {a0 a1 a2} (hM : 288249068201705473 &&& M =
    288249068201705473) (ha0 : Keeps M s0 a0) : Keeps M s0 (State.bankCorrected a0 a1 a2) := by
  unfold State.bankCorrected
  exact State.logEvent_keeps (ss hM rfl) (State.raise_keeps (ss hM rfl) (State.raise_keeps (ss hM rfl)
      (State.count_keeps (ss hM rfl) (ss hM rfl) ha0)))

theorem State.readBank_keeps {M : Nat} {s0 : State} {a0 a1 a2 a3} (hM : 288249068201709569 &&& M =
    288249068201709569) (ha0 : Keeps M s0 a0) : Keeps2 M s0 (State.readBank a0 a1 a2 a3) := by
  unfold State.readBank
  split
  · refine keeps2_ite ?_ ?_
    · exact keeps2_mk ha0
    · extract_lets +onlyGivenNames v0
      have h1 : Keeps M s0 v0 := keeps_ite (State.bankCorrected_keeps (ss hM rfl) ha0) ha0
      try clear_value v0
      exact keeps2_ite (keeps2_mk (keeps_ite (State.modBank_keeps (ss hM rfl) h1) h1)) (keeps2_mk
          (State.logEvent_keeps (ss hM rfl) (State.err_keeps (ss hM rfl) (State.raise_keeps (ss hM rfl)
          (State.count_keeps (ss hM rfl) (ss hM rfl) h1)))))

theorem State.loseProtection_keeps {M : Nat} {s0 : State} {a0 a1 a2} (hM : 9025891304734721 &&& M = 9025891304734721)
    (ha0 : Keeps M s0 a0) : Keeps M s0 (State.loseProtection a0 a1 a2) := by
  unfold State.loseProtection
  exact keeps_ite ha0 (State.logEvent_keeps (ss hM rfl) (State.raise_keeps (ss hM rfl) (State.wr_keeps (ss hM rfl)
      (offRegs (p := .res) rfl (ss hM rfl)) (State.wr_keeps (ss hM rfl) (offRegs (p := .res) rfl (ss hM rfl)) ha0))))

theorem State.journalFull_keeps {M : Nat} {s0 : State} {a0 a1} (hM : 297256267456446465 &&& M = 297256267456446465)
    (ha0 : Keeps M s0 a0) : Keeps M s0 (State.journalFull a0 a1) := by
  unfold State.journalFull
  refine keeps_ite ?_ ?_
  · exact ha0
  · extract_lets +onlyGivenNames v0
    have h1 : Keeps M s0 v0 := State.raise_keeps (ss hM rfl) (State.wr_keeps (ss hM rfl) (ss hM rfl) ha0)
    try clear_value v0
    exact keeps_ite (State.loseProtection_keeps (ss hM rfl) h1) h1

theorem State.journal_keeps {M : Nat} {s0 : State} {a0 a1 a2 a3} (hM : 297256267456450561 &&& M = 297256267456450561)
    (ha0 : Keeps M s0 a0) : Keeps M s0 (State.journal a0 a1 a2 a3) := by
  unfold State.journal
  refine keeps_ite ?_ ?_
  · exact ha0
  · refine keeps_ite ?_ ?_
    · exact State.journalFull_keeps (ss hM rfl) ha0
    · split
      · exact State.modBank_keeps (ss hM rfl) ha0

theorem State.writeBank_keeps {M : Nat} {s0 : State} {a0 a1 a2 a3 a4} (hM : 297256267456452625 &&& M =
    297256267456452625) (ha0 : Keeps M s0 a0) : Keeps M s0 (State.writeBank a0 a1 a2 a3 a4) := by
  unfold State.writeBank
  exact State.setBankWord_keeps (ss hM rfl) (State.journal_keeps (ss hM rfl) ha0)

theorem doJournalWrite_keeps {M : Nat} {s0 : State} {a0 a1} (hM : 297256267456452625 &&& M = 297256267456452625) (ha1
    : Keeps M s0 a1) : Keeps M s0 (doJournalWrite a0 a1) := by
  unfold doJournalWrite
  split
  · exact ha1
  · extract_lets +onlyGivenNames v0 v1
    have h2 : Keeps M s0 v1 := State.modBank_keeps (ss hM rfl) (State.setBankWord_keeps (ss hM rfl) ha1)
    try clear_value v1
    extract_lets +onlyGivenNames v3
    have h4 : Keeps M s0 v3 := State.wr_keeps (ss hM rfl) (ss hM rfl) h2
    try clear_value v3
    exact keeps_ite (State.journalFull_keeps (ss hM rfl) h4) h4

theorem execJournalWrite_keeps {M : Nat} {s0 : State} {a0 a1} (hM : 297256267456452625 &&& M = 297256267456452625)
    (ha1 : Keeps M s0 a1) : KeepsO M s0 (execJournalWrite a0 a1) := by
  unfold execJournalWrite
  exact keepsO_next (doJournalWrite_keeps (ss hM rfl) ha1)

theorem doJournalRestore_keeps {M : Nat} {s0 : State} {a0 a1} (hM : 288230376151717904 &&& M = 288230376151717904)
    (ha1 : Keeps M s0 a1) : Keeps M s0 (doJournalRestore a0 a1) := by
  unfold doJournalRestore
  refine keeps_ite ?_ ?_
  · exact ha1
  · split
    · exact ha1
    · exact State.modBank_keeps (ss hM rfl) (State.wr_keeps (ss hM rfl) (ss hM rfl) ha1)
    · split
      · extract_lets +onlyGivenNames v0
        have h1 : Keeps M s0 v0 := State.setBankWord_keeps (ss hM rfl) ha1
        try clear_value v0
        exact keeps_ite (State.modBank_keeps (ss hM rfl) (State.wr_keeps (ss hM rfl) (ss hM rfl) h1))
            (State.modBank_keeps (ss hM rfl) h1)

theorem execJournalRestore_keeps {M : Nat} {s0 : State} {a0 a1} (hM : 288230376151717904 &&& M = 288230376151717904)
    (ha1 : Keeps M s0 a1) : KeepsO M s0 (execJournalRestore a0 a1) := by
  unfold execJournalRestore
  exact keepsO_next (doJournalRestore_keeps (ss hM rfl) ha1)

theorem State.refusedSrc_keeps {M : Nat} {s0 : State} {a0 a1 a2 a3} (hM : 288230376151711744 &&& M =
    288230376151711744) (ha0 : Keeps M s0 a0) : Keeps M s0 (State.refusedSrc a0 a1 a2 a3) := by
  unfold State.refusedSrc
  exact State.wr_keeps (ss hM rfl) (ss hM rfl) (State.wr_keeps (ss hM rfl) (ss hM rfl) (State.wr_keeps (ss hM rfl)
      (ss hM rfl) ha0))

theorem State.refuseOwner_keeps {M : Nat} {s0 : State} {a0 a1 a2 a3} (hM : 288231475998883841 &&& M =
    288231475998883841) (ha0 : Keeps M s0 a0) : Keeps M s0 (State.refuseOwner a0 a1 a2 a3) := by
  unfold State.refuseOwner
  exact State.raise_keeps (ss hM rfl) (State.err_keeps (ss hM rfl) (State.refusedSrc_keeps (ss hM rfl) ha0))

theorem State.refuseLate_keeps {M : Nat} {s0 : State} {a0 a1 a2 a3} (hM : 288231475998883841 &&& M =
    288231475998883841) (ha0 : Keeps M s0 a0) : Keeps M s0 (State.refuseLate a0 a1 a2 a3) := by
  unfold State.refuseLate
  exact State.raise_keeps (ss hM rfl) (State.err_keeps (ss hM rfl) (State.refusedSrc_keeps (ss hM rfl)
      (State.count_keeps (ss hM rfl) (ss hM rfl) ha0)))

theorem State.dropBankReservations_keeps {M : Nat} {s0 : State} {a0 a1} (hM : 8192 &&& M = 8192) (ha0 : Keeps M s0
    a0) : Keeps M s0 (State.dropBankReservations a0 a1) := by
  unfold State.dropBankReservations
  exact keeps_mk ha0 rfl (g_resv := .inl (ss hM rfl))

theorem State.bankRefuse_keeps {M : Nat} {s0 : State} {a0 a1 a2} (hM : 1 &&& M = 1) (ha0 : Keeps M s0 a0) : Keeps M
    s0 (State.bankRefuse a0 a1 a2) := by
  unfold State.bankRefuse
  exact State.quayAnswer_keeps (ss hM rfl) ha0

theorem State.bankAccept_keeps {M : Nat} {s0 : State} {a0 a1 a2} (hM : 288231475998887937 &&& M = 288231475998887937)
    (ha0 : Keeps M s0 a0) : Keeps M s0 (State.bankAccept a0 a1 a2) := by
  unfold State.bankAccept
  split
  · exact State.bankRefuse_keeps (ss hM rfl) (State.refuseOwner_keeps (ss hM rfl) ha0)
  · exact State.bankRefuse_keeps (ss hM rfl) (State.refuseLate_keeps (ss hM rfl) ha0)
  · exact State.modBank_keeps (ss hM rfl) ha0

theorem State.bankFlow_keeps {M : Nat} {s0 : State} {a0 a1 a2} (hM : 288231475998887937 &&& M = 288231475998887937)
    (ha0 : Keeps M s0 a0) : Keeps M s0 (State.bankFlow a0 a1 a2) := by
  unfold State.bankFlow
  exact keeps_ite (State.bankAccept_keeps (ss hM rfl) ha0) (State.modBank_keeps (ss hM rfl) ha0)

theorem State.clearBankResv_keeps {M : Nat} {s0 : State} {a0 a1 a2} (hM : 8192 &&& M = 8192) (ha0 : Keeps M s0 a0) :
    Keeps M s0 (State.clearBankResv a0 a1 a2) := by
  unfold State.clearBankResv
  exact keeps_mk ha0 rfl (g_resv := .inl (ss hM rfl))

theorem State.accessDone_keeps {M : Nat} {s0 : State} {a0 a1 a2 a3 a4} (hM : 288231475998887937 &&& M =
    288231475998887937) (ha0 : Keeps M s0 a0) : Keeps M s0 (State.accessDone a0 a1 a2 a3 a4) := by
  unfold State.accessDone
  extract_lets +onlyGivenNames v0
  refine keeps_ite ?_ ?_
  · exact State.quayAnswer_keeps (ss hM rfl) ha0
  · extract_lets +onlyGivenNames v1
    exact keeps_ite (State.modBank_keeps (ss hM rfl) ha0) (keeps_ite (State.bankRefuse_keeps (ss hM rfl) ha0)
        (State.bankFlow_keeps (ss hM rfl) ha0))

theorem State.bankPerform_keeps {M : Nat} {s0 : State} {a0 a1 a2} (hM : 297256267456460817 &&& M =
    297256267456460817) (ha0 : Keeps M s0 a0) : Keeps M s0 (State.bankPerform a0 a1 a2) := by
  unfold State.bankPerform
  extract_lets +onlyGivenNames v0
  have h1 : ∀ y2 y4 y5, Keeps M s0 y2 → Keeps M s0 (v0 y2 y4 y5) := fun y2 y4 y5 h3 => State.accessDone_keeps (ss hM
      rfl) h3
  try clear_value v0
  refine keeps_ite ?_ ?_
  · split
    · rename_i x6 x7 q8
      have k9 := congrArg (fun p => p.2) q8
      have hx7 : Keeps M s0 x7 := by
        simp only at k9
        rw [← k9]
        exact keeps_of2 (State.readBank_keeps (ss hM rfl) ha0)
      exact h1 _ _ _ (keeps_ite (keeps_mk hx7 rfl (g_resv := .inl (ss hM rfl))) hx7)
    · rename_i x10 q11
      have k12 := congrArg (fun p => p.2) q11
      have hx10 : Keeps M s0 x10 := by
        simp only at k12
        rw [← k12]
        exact keeps_of2 (State.readBank_keeps (ss hM rfl) ha0)
      exact h1 _ _ _ hx10
  · refine keeps_ite ?_ ?_
    · exact h1 _ _ _ (State.refuseOwner_keeps (ss hM rfl) ha0)
    · refine keeps_ite ?_ ?_
      · exact h1 _ _ _ ha0
      · extract_lets +onlyGivenNames v13
        refine keeps_ite ?_ ?_
        · split
          · rename_i x14 x15 q16
            have k17 := congrArg (fun p => p.2) q16
            have hx15 : Keeps M s0 x15 := by
              simp only at k17
              rw [← k17]
              exact keeps_of2 (State.readBank_keeps (ss hM rfl) ha0)
            exact h1 _ _ _ (State.clearBankResv_keeps (ss hM rfl) (State.writeBank_keeps (ss hM rfl) hx15))
          · rename_i x18 q19
            have k20 := congrArg (fun p => p.2) q19
            have hx18 : Keeps M s0 x18 := by
              simp only at k20
              rw [← k20]
              exact keeps_of2 (State.readBank_keeps (ss hM rfl) ha0)
            exact h1 _ _ _ hx18
        · extract_lets +onlyGivenNames v21
          have h22 : Keeps M s0 v21 := State.writeBank_keeps (ss hM rfl) ha0
          try clear_value v21
          exact h1 _ _ _ (State.clearBankResv_keeps (ss hM rfl) (keeps_ite (State.setBankWord_keeps (ss hM rfl) h22)
              h22))

theorem State.bankAdmit_keeps {M : Nat} {s0 : State} {a0 a1} (hM : 288231475998887937 &&& M = 288231475998887937)
    (ha0 : Keeps M s0 a0) : Keeps M s0 (State.bankAdmit a0 a1) := by
  unfold State.bankAdmit
  split
  · exact ha0
  · exact keeps_ite (State.bankAccept_keeps (ss hM rfl) (State.modBank_keeps (ss hM rfl) ha0)) ha0

theorem State.bankArrive_keeps {M : Nat} {s0 : State} {a0 a1} (hM : 288232025754701825 &&& M = 288232025754701825)
    (ha0 : Keeps M s0 a0) : Keeps M s0 (State.bankArrive a0 a1) := by
  unfold State.bankArrive
  extract_lets +onlyGivenNames v0 v1
  exact keeps_ite (State.bankAccept_keeps (ss hM rfl) ha0) (keeps_mk ha0 rfl (g_noc := .inl (ss hM rfl)))

theorem State.quayDrain_keeps {M : Nat} {s0 s : State} {node n} (hM : 288232025754701825 &&& M = 288232025754701825) (h : Keeps M s0 s) : Keeps M s0 (s.quayDrain node n) := by
  induction n generalizing s with
  | zero => exact h
  | succ n ih =>
    unfold State.quayDrain
    split
    · exact h
    · exact keeps_ite (ih (State.bankAccept_keeps (ss hM rfl) (keeps_mk h rfl (g_noc := .inl (ss hM rfl))))) h

theorem doBankNocAccess_keeps {M : Nat} {s0 : State} {a0 a1 a2} (hM : 297256817212274705 &&& M = 297256817212274705)
    (ha2 : Keeps M s0 a2) : Keeps M s0 (doBankNocAccess a0 a1 a2) := by
  unfold doBankNocAccess
  extract_lets +onlyGivenNames v0
  have h1 : Keeps M s0 v0 := State.upset_keeps (ss hM rfl) ha2
  try clear_value v0
  refine keeps_ite ?_ ?_
  · exact h1
  · split
    · exact h1
    · extract_lets +onlyGivenNames v2
      have h3 : Keeps M s0 v2 := State.bankAdmit_keeps (ss hM rfl) (State.bankPerform_keeps (ss hM rfl)
          (State.modBank_keeps (ss hM rfl) h1))
      try clear_value v2
      exact State.quayDrain_keeps (ss hM rfl) h3

theorem State.settleOne_keeps {M : Nat} {s0 : State} {a0 a1} (hM : 297256267456460817 &&& M = 297256267456460817)
    (ha0 : Keeps M s0 a0) : Keeps M s0 (State.settleOne a0 a1) := by
  unfold State.settleOne
  split
  · exact State.bankPerform_keeps (ss hM rfl) (State.modBank_keeps (ss hM rfl) ha0)
  · exact ha0

theorem State.settleOld_keeps {M : Nat} {s0 : State} {a0 a1} (hM : 297256267456460817 &&& M = 297256267456460817)
    (ha0 : Keeps M s0 a0) : Keeps M s0 (State.settleOld a0 a1) := by
  unfold State.settleOld
  exact keeps_foldl ha0 (fun _ _ h0 => State.settleOne_keeps (ss hM rfl) h0)

theorem State.directAccess_keeps {M : Nat} {s0 : State} {a0 a1 a2 a3 a4} (hM : 297256267456460817 &&& M =
    297256267456460817) (ha0 : Keeps M s0 a0) : Keeps2 M s0 (State.directAccess a0 a1 a2 a3 a4) := by
  unfold State.directAccess
  split
  · exact keeps2_mk (State.refuseOwner_keeps (ss hM rfl) ha0)
  · exact keeps2_mk (State.refuseLate_keeps (ss hM rfl) ha0)
  · extract_lets +onlyGivenNames v0
    have h1 : Keeps M s0 v0 := keeps_ite (State.settleOld_keeps (ss hM rfl) ha0) ha0
    try clear_value v0
    exact keeps2_ite (keeps2_mk (State.refuseOwner_keeps (ss hM rfl) h1)) (keeps2_mk h1)

theorem execBankNocAccess_keeps {M : Nat} {s0 : State} {a0 a1 a2} (hM : 297256817212274705 &&& M =
    297256817212274705) (ha2 : Keeps M s0 a2) : KeepsO M s0 (execBankNocAccess a0 a1 a2) := by
  unfold execBankNocAccess
  exact keepsO_next (doBankNocAccess_keeps (ss hM rfl) ha2)

theorem doEccWriteback_keeps {M : Nat} {s0 : State} {a0 a1} (hM : 6160 &&& M = 6160) (ha1 : Keeps M s0 a1) : Keeps M
    s0 (doEccWriteback a0 a1) := by
  unfold doEccWriteback
  split
  · exact ha1
  · refine keeps_ite ?_ ?_
    · exact ha1
    · extract_lets +onlyGivenNames v0
      have h1 : Keeps M s0 v0 := State.modBank_keeps (ss hM rfl) ha1
      try clear_value v0
      split
      · exact keeps_ite (State.setBankWord_keeps (ss hM rfl) h1) h1

theorem execEccWriteback_keeps {M : Nat} {s0 : State} {a0 a1} (hM : 6160 &&& M = 6160) (ha1 : Keeps M s0 a1) : KeepsO
    M s0 (execEccWriteback a0 a1) := by
  unfold execEccWriteback
  exact keepsO_next (doEccWriteback_keeps (ss hM rfl) ha1)

theorem doBerthWrite_keeps {M : Nat} {s0 : State} {a0 a1 a2 a3} (hM : 288231475998896129 &&& M = 288231475998896129)
    (ha3 : Keeps M s0 a3) : Keeps M s0 (doBerthWrite a0 a1 a2 a3) := by
  unfold doBerthWrite
  extract_lets +onlyGivenNames v0 v1
  refine keeps_ite ?_ ?_
  · exact State.respond_keeps (ss hM rfl) (State.errReg_keeps (ss hM rfl) ha3)
  · refine keeps_ite ?_ ?_
    · exact State.respond_keeps (ss hM rfl) (State.raise_keeps (ss hM rfl) ha3)
    · extract_lets +onlyGivenNames v2
      have h3 : Keeps M s0 v2 := State.wr_keeps (ss hM rfl) (ss hM rfl) (State.wr_keeps (ss hM rfl) (ss hM rfl) ha3)
      try clear_value v2
      extract_lets +onlyGivenNames v4
      have h5 : Keeps M s0 v4 := State.wr_keeps (ss hM rfl) (ss hM rfl) (State.wr_keeps (ss hM rfl) (ss hM rfl) h3)
      try clear_value v4
      extract_lets +onlyGivenNames v6
      have h7 : Keeps M s0 v6 := State.modBank_keeps (ss hM rfl) h5
      try clear_value v6
      exact State.respond_keeps (ss hM rfl) (State.dropBankReservations_keeps (ss hM rfl) (State.wr_keeps (ss hM rfl)
          (ss hM rfl) h7))

theorem State.setRepair_keeps {M : Nat} {s0 : State} {a0 a1 a2 a3 a4} (hM : 288231475663339520 &&& M =
    288231475663339520) (ha0 : Keeps M s0 a0) : Keeps M s0 (State.setRepair a0 a1 a2 a3 a4) := by
  unfold State.setRepair
  extract_lets +onlyGivenNames v0 v1
  have h2 : Keeps M s0 v1 := State.wr_keeps (ss hM rfl) (offRegs (p := .dmb) rfl (ss hM rfl)) (State.wr_keeps (ss hM
      rfl) (offRegs (p := .dmb) rfl (ss hM rfl)) (State.wr_keeps (ss hM rfl) (offRegs (p := .dmb) rfl (ss hM rfl))
      ha0))
  try clear_value v1
  extract_lets +onlyGivenNames v3
  exact State.wr_keeps (ss hM rfl) (ss hM rfl) h2

theorem State.logRepair_keeps {M : Nat} {s0 : State} {a0 a1 a2 a3 a4} (hM : 18692049993729 &&& M = 18692049993729)
    (ha0 : Keeps M s0 a0) : Keeps M s0 (State.logRepair a0 a1 a2 a3 a4) := by
  unfold State.logRepair
  exact State.logEvent_keeps (ss hM rfl) ha0

theorem doRepairEntryWrite_keeps {M : Nat} {s0 : State} {a0 a1 a2 a3 a4} (hM : 288249068201705473 &&& M =
    288249068201705473) (ha4 : Keeps M s0 a4) : Keeps M s0 (doRepairEntryWrite a0 a1 a2 a3 a4) := by
  unfold doRepairEntryWrite
  refine keeps_ite ?_ ?_
  · extract_lets +onlyGivenNames v0 v1 v2 v3
    have h4 : Keeps M s0 v3 := State.setRepair_keeps (ss hM rfl) ha4
    try clear_value v3
    exact State.respond_keeps (ss hM rfl) (keeps_ite h4 (State.logRepair_keeps (ss hM rfl) h4))
  · exact State.respond_keeps (ss hM rfl) (State.errReg_keeps (ss hM rfl) ha4)

theorem State.setSpare_keeps {M : Nat} {s0 : State} {a0 a1 a2 a3 a4} (hM : 2064 &&& M = 2064) (ha0 : Keeps M s0 a0) :
    Keeps M s0 (State.setSpare a0 a1 a2 a3 a4) := by
  unfold State.setSpare
  extract_lets +onlyGivenNames v0
  exact State.setEcc_keeps (ss hM rfl) (keeps_dmem (ss hM rfl) ha0 (SMap.wf_set _ _ _))

theorem State.testPhase_keeps {M : Nat} {s0 : State} {a0 a1 a2 a3} (hM : 288230376151715840 &&& M =
    288230376151715840) (ha0 : Keeps M s0 a0) : Keeps M s0 (State.testPhase a0 a1 a2 a3) := by
  unfold State.testPhase
  exact State.wr_keeps (ss hM rfl) (ss hM rfl) (State.wr_keeps (ss hM rfl) (ss hM rfl) (State.modBank_keeps (ss hM
      rfl) ha0))

theorem testRepair_keeps {M : Nat} {s0 : State} {a0 a1 a2} (hM : 288249068201709569 &&& M = 288249068201709569) (ha2
    : Keeps M s0 a2) : Keeps M s0 (testRepair a0 a1 a2) := by
  unfold testRepair
  extract_lets +onlyGivenNames v0
  split
  · extract_lets +onlyGivenNames v1
    have h2 : Keeps M s0 v1 := by
      unfold v1
      split
      · exact State.wr_keeps (ss hM rfl) (offRegs (p := .dmb) rfl (ss hM rfl)) (State.wr_keeps (ss hM rfl) (offRegs
            (p := .dmb) rfl (ss hM rfl)) ha2)
      · exact ha2
    try clear_value v1
    extract_lets +onlyGivenNames v3
    have h4 : Keeps M s0 v3 := State.wr_keeps (ss hM rfl) (offRegs (p := .dmb) rfl (ss hM rfl)) (State.wr_keeps (ss
        hM rfl) (offRegs (p := .dmb) rfl (ss hM rfl)) (State.wr_keeps (ss hM rfl) (offRegs (p := .dmb) rfl (ss hM
        rfl)) h2))
    try clear_value v3
    exact State.testPhase_keeps (ss hM rfl) (State.modBank_keeps (ss hM rfl) (State.wr_keeps (ss hM rfl) (ss hM rfl)
        h4))
  · exact State.testPhase_keeps (ss hM rfl) (State.modBank_keeps (ss hM rfl) (State.logEvent_keeps (ss hM rfl)
        (State.raise_keeps (ss hM rfl) (State.wr_keeps (ss hM rfl) (ss hM rfl) ha2))))

theorem testRegionEnd_keeps {M : Nat} {s0 : State} {a0 a1} (hM : 288249068201709569 &&& M = 288249068201709569) (ha1
    : Keeps M s0 a1) : Keeps M s0 (testRegionEnd a0 a1) := by
  unfold testRegionEnd
  extract_lets +onlyGivenNames v0 v1
  have h2 : Keeps M s0 v1 := keeps_foldl ha1 (fun _ _ h3 => State.logRepair_keeps (ss hM rfl) (State.raise_keeps (ss
      hM rfl) h3))
  try clear_value v1
  extract_lets +onlyGivenNames v4
  have h5 : Keeps M s0 v4 := State.modBank_keeps (ss hM rfl) h2
  try clear_value v4
  exact State.testPhase_keeps (ss hM rfl) h5

theorem testPassEnd_keeps {M : Nat} {s0 : State} {a0 a1} (hM : 288231475998887937 &&& M = 288231475998887937) (ha1 :
    Keeps M s0 a1) : Keeps M s0 (testPassEnd a0 a1) := by
  unfold testPassEnd
  exact State.testPhase_keeps (ss hM rfl) (State.raise_keeps (ss hM rfl) (State.count_keeps (ss hM rfl) (ss hM rfl)
      ha1))

theorem State.testNext_keeps {M : Nat} {s0 : State} {a0 a1} (hM : 4096 &&& M = 4096) (ha0 : Keeps M s0 a0) : Keeps M
    s0 (State.testNext a0 a1) := by
  unfold State.testNext
  exact State.modBank_keeps (ss hM rfl) ha0

theorem testOp_keeps {M : Nat} {s0 : State} {a0 a1 a2} (hM : 288249068201711633 &&& M = 288249068201711633) (ha2 :
    Keeps M s0 a2) : Keeps M s0 (testOp a0 a1 a2) := by
  unfold testOp
  extract_lets +onlyGivenNames v0
  try clear_value v0
  split
  · try clear_value v0
    split
    · extract_lets +onlyGivenNames v1
      have h2 : Keeps M s0 v1 := State.testNext_keeps (ss hM rfl) (State.modBank_keeps (ss hM rfl) ha2)
      try clear_value v1
      exact keeps_ite (State.testPhase_keeps (ss hM rfl) h2) h2
  · try clear_value v0
    split
    · extract_lets +onlyGivenNames v3
      have h4 : Keeps M s0 v3 := by
        unfold v3
        split
        · exact State.setArray_keeps (ss hM rfl) ha2
        · exact ha2
      try clear_value v3
      exact keeps_ite (State.testPhase_keeps (ss hM rfl) (State.modBank_keeps (ss hM rfl) h4)) (keeps_ite
          (State.testPhase_keeps (ss hM rfl) h4) (State.testNext_keeps (ss hM rfl) h4))
  · extract_lets +onlyGivenNames v5
    have h6 : Keeps M s0 v5 := State.testNext_keeps (ss hM rfl) (State.setArray_keeps (ss hM rfl) ha2)
    try clear_value v5
    exact keeps_ite (testRegionEnd_keeps (ss hM rfl) h6) h6
  · try clear_value v0
    split
    · exact testRepair_keeps (ss hM rfl) ha2
    · exact State.testPhase_keeps (ss hM rfl) ha2
  · extract_lets +onlyGivenNames v7
    try clear_value v0
    split
    · extract_lets +onlyGivenNames v8
      have h9 : Keeps M s0 v8 := by
        unfold v8
        split
        · exact State.setSpare_keeps (ss hM rfl) ha2
        · exact keeps_ite (State.wr_keeps (ss hM rfl) (ss hM rfl) (State.wr_keeps (ss hM rfl) (offRegs (p := .dmb)
              rfl (ss hM rfl)) ha2)) ha2
      try clear_value v8
      exact keeps_ite (testPassEnd_keeps (ss hM rfl) h9) (State.testNext_keeps (ss hM rfl) h9)
  · exact ha2

theorem skipUsed_keeps {M : Nat} {s0 s : State} {b n} (hM : 4096 &&& M = 4096) (h : Keeps M s0 s) : Keeps M s0 (skipUsed b s n) := by
  induction n generalizing s with
  | zero => exact h
  | succ n ih =>
    unfold skipUsed
    exact keeps_ite (ih (State.modBank_keeps (ss hM rfl) h)) h

theorem testerRun_keeps {M : Nat} {s0 : State} {a0 a1 a2} (hM : 288249068201711633 &&& M = 288249068201711633) (ha2 :
    Keeps M s0 a2) : Keeps M s0 (testerRun a0 a1 a2) := by
  unfold testerRun
  extract_lets +onlyGivenNames v0
  have h1 : Keeps M s0 v0 := skipUsed_keeps (ss hM rfl) ha2
  try clear_value v0
  exact keeps_ite (testPassEnd_keeps (ss hM rfl) h1) (testOp_keeps (ss hM rfl) h1)

theorem doTesterOperation_keeps {M : Nat} {s0 : State} {a0 a1 a2} (hM : 288249068201711633 &&& M =
    288249068201711633) (ha2 : Keeps M s0 a2) : Keeps M s0 (doTesterOperation a0 a1 a2) := by
  unfold doTesterOperation
  extract_lets +onlyGivenNames v0
  exact keeps_ite ha2 (keeps_ite (keeps_ite (testerRun_keeps (ss hM rfl) (State.testPhase_keeps (ss hM rfl) ha2))
      ha2) (testerRun_keeps (ss hM rfl) ha2))

theorem execTesterOperation_keeps {M : Nat} {s0 : State} {a0 a1 a2} (hM : 288249068201711633 &&& M =
    288249068201711633) (ha2 : Keeps M s0 a2) : KeepsO M s0 (execTesterOperation a0 a1 a2) := by
  unfold execTesterOperation
  exact keepsO_next (doTesterOperation_keeps (ss hM rfl) ha2)

/-! ## Machine/NocBase.lean -/

theorem State.quayError_keeps {M : Nat} {s0 : State} {a0 a1 a2 a3 a4} (hM : 1099847172097 &&& M = 1099847172097) (ha0
    : Keeps M s0 a0) : Keeps M s0 (State.quayError a0 a1 a2 a3 a4) := by
  unfold State.quayError
  exact State.raise_keeps (ss hM rfl) (State.err_keeps (ss hM rfl) ha0)

theorem State.quaySend_keeps {M : Nat} {s0 : State} {a0 a1 a2 a3 a4 a5 a6} (hM : 2305843009213693953 &&& M =
    2305843009213693953) (ha0 : Keeps M s0 a0) : Keeps M s0 (State.quaySend a0 a1 a2 a3 a4 a5 a6) := by
  unfold State.quaySend
  extract_lets +onlyGivenNames v0
  have h1 : Keeps M s0 v0 := State.wr_keeps (ss hM rfl) (ss hM rfl) ha0
  try clear_value v0
  exact keeps_ite h1 (State.emit_keeps (ss hM rfl) h1)

theorem State.quayStatus_keeps {M : Nat} {s0 : State} {a0 a1 a2 a3} (hM : 1099847172097 &&& M = 1099847172097) (ha0 :
    Keeps M s0 a0) : Keeps M s0 (State.quayStatus a0 a1 a2 a3) := by
  unfold State.quayStatus
  extract_lets +onlyGivenNames v0
  have h1 : Keeps M s0 v0 := by
    unfold v0
    split
    · exact State.quayError_keeps (ss hM rfl) ha0
    · exact State.quayError_keeps (ss hM rfl) ha0
    · exact ha0
  try clear_value v0
  exact keeps_ite h1 (State.raise_keeps (ss hM rfl) h1)

theorem State.quayTake_keeps {M : Nat} {s0 : State} {a0 a1 a2 a3} (hM : 2305844109060866049 &&& M =
    2305844109060866049) (ha0 : Keeps M s0 a0) : Keeps M s0 (State.quayTake a0 a1 a2 a3) := by
  unfold State.quayTake
  exact State.quayStatus_keeps (ss hM rfl) (State.wr_keeps (ss hM rfl) (ss hM rfl) ha0)

/-! ## Machine/Registers.lean -/

theorem State.clearFields_keeps {M : Nat} {s0 : State} {a0 a1 a2} (hM : 4611684918915760128 &&& M =
    4611684918915760128) (ha0 : Keeps M s0 a0) : Keeps M s0 (State.clearFields a0 a1 a2) := by
  unfold State.clearFields
  exact keeps_foldl ha0 (fun _ _ h0 => keeps_ite (State.wr_keeps (ss hM rfl) (allRegs (ss hM rfl)) h0) h0)

theorem State.writeField_keeps {M : Nat} {s0 : State} {a0 a1 a2 a3 a4} (hM : 0 &&& M = 0) (hf1 : regBit a1 &&& M =
    regBit a1) (ha0 : Keeps M s0 a0) : Keeps M s0 (State.writeField a0 a1 a2 a3 a4) := by
  unfold State.writeField
  extract_lets +onlyGivenNames v0
  split
  · exact State.wr_keeps (ss hM rfl) hf1 ha0
  · exact keeps_ite ha0 (State.wr_keeps (ss hM rfl) hf1 ha0)
  · exact State.wr_keeps (ss hM rfl) hf1 ha0
  · exact State.wr_keeps (ss hM rfl) hf1 ha0
  · exact ha0
  · exact ha0
  · exact ha0

theorem State.rearmCapture_keeps {M : Nat} {s0 : State} {a0 a1 a2 a3 a4} (hM : 1099511627776 &&& M = 1099511627776)
    (ha0 : Keeps M s0 a0) : Keeps M s0 (State.rearmCapture a0 a1 a2 a3 a4) := by
  unfold State.rearmCapture
  exact keeps_ite (State.wr_keeps (ss hM rfl) (errBits (n := 24) rfl rfl (ss hM rfl)) ha0) ha0

theorem State.rearmSource_keeps {M : Nat} {s0 : State} {a0 a1} (hM : 335544321 &&& M = 335544321) (ha0 : Keeps M s0
    a0) : Keeps M s0 (State.rearmSource a0 a1) := by
  unfold State.rearmSource
  extract_lets +onlyGivenNames v0
  have h1 : Keeps M s0 v0 := keeps_mk ha0 rfl (g_irq := .inl (ss hM rfl))
  try clear_value v0
  exact keeps_ite (State.irqEvent_keeps (ss hM rfl) h1) h1

theorem State.afterIntStatus_keeps {M : Nat} {s0 : State} {a0 a1 a2} (hM : 335544321 &&& M = 335544321) (ha0 : Keeps
    M s0 a0) : Keeps M s0 (State.afterIntStatus a0 a1 a2) := by
  unfold State.afterIntStatus
  split
  · exact State.rearmSource_keeps (ss hM rfl) ha0
  · exact ha0

theorem State.afterIntEnable_keeps {M : Nat} {s0 : State} {a0 a1 a2 a3} (hM : 335544321 &&& M = 335544321) (ha0 :
    Keeps M s0 a0) : Keeps M s0 (State.afterIntEnable a0 a1 a2 a3) := by
  unfold State.afterIntEnable
  extract_lets +onlyGivenNames v0 v1
  refine keeps_ite ?_ ?_
  · split
    · exact State.irqEvent_keeps (ss hM rfl) ha0
    · exact ha0
  · exact ha0

theorem State.writeFields_keeps {M : Nat} {s0 : State} {a0 a1 a2 a3 a4 a5 a6} (hM : 4611684919251304449 &&& M =
    4611684919251304449) (ha0 : Keeps M s0 a0) : Keeps M s0 (State.writeFields a0 a1 a2 a3 a4 a5 a6) := by
  unfold State.writeFields
  extract_lets +onlyGivenNames v0 v1
  have h2 : Keeps M s0 v1 := keeps_ite (State.errReg_keeps (ss hM rfl) ha0) ha0
  try clear_value v1
  extract_lets +onlyGivenNames v3 v4
  have h5 : Keeps M s0 v4 := State.rearmCapture_keeps (ss hM rfl) (keeps_foldl h2 (fun _ _ h6 =>
      State.writeField_keeps (ss hM rfl) (allRegs (ss hM rfl)) h6))
  try clear_value v4
  exact keeps_ite h5 (keeps_ite (State.afterIntStatus_keeps (ss hM rfl) h5) (keeps_ite (State.afterIntEnable_keeps
      (ss hM rfl) h5) h5))

theorem State.setStaged_keeps {M : Nat} {s0 : State} {a0 a1 a2 a3 a4 a5} (hM : 2 &&& M = 2) (ha0 : Keeps M s0 a0) :
    Keeps M s0 (State.setStaged a0 a1 a2 a3 a4 a5) := by
  unfold State.setStaged
  exact keeps_mk ha0 rfl (g_access := .inl (ss hM rfl))

theorem State.captureHi_keeps {M : Nat} {s0 : State} {a0 a1 a2 a3 a4 a5} (hM : 2 &&& M = 2) (ha0 : Keeps M s0 a0) :
    Keeps M s0 (State.captureHi a0 a1 a2 a3 a4 a5) := by
  unfold State.captureHi
  exact keeps_mk ha0 rfl (g_access := .inl (ss hM rfl))

theorem State.plainRead_keeps {M : Nat} {s0 : State} {a0 a1 a2 a3 a4} (hM : 4611684918915760128 &&& M =
    4611684918915760128) (ha0 : Keeps M s0 a0) : Keeps2 M s0 (State.plainRead a0 a1 a2 a3 a4) := by
  unfold State.plainRead
  refine keeps2_ite ?_ ?_
  · exact keeps2_mk ha0
  · split
    · exact keeps2_mk ha0
    · exact keeps2_mk (keeps_ite ha0 (State.clearFields_keeps (ss hM rfl) ha0))

theorem State.plainWrite_keeps {M : Nat} {s0 : State} {a0 a1 a2 a3 a4 a5} (hM : 4611684919251304449 &&& M =
    4611684919251304449) (ha0 : Keeps M s0 a0) : Keeps M s0 (State.plainWrite a0 a1 a2 a3 a4 a5) := by
  unfold State.plainWrite
  refine keeps_ite ?_ ?_
  · exact ha0
  · split
    · exact State.errReg_keeps (ss hM rfl) ha0
    · exact State.writeFields_keeps (ss hM rfl) ha0

/-! ## Machine/Access.lean -/

theorem State.refuseAccess_keeps {M : Nat} {s0 : State} {a0 a1} (hM : 1099847172097 &&& M = 1099847172097) (ha0 :
    Keeps M s0 a0) : Keeps M s0 (State.refuseAccess a0 a1) := by
  unfold State.refuseAccess
  exact State.respond_keeps (ss hM rfl) (keeps_ite (State.raise_keeps (ss hM rfl) ha0) ha0)

theorem State.sealAccess_keeps {M : Nat} {s0 : State} {a0 a1} (hM : 1099847172097 &&& M = 1099847172097) (ha0 : Keeps
    M s0 a0) : Keeps M s0 (State.sealAccess a0 a1) := by
  unfold State.sealAccess
  exact State.emit_keeps (ss hM rfl) (keeps_ite (State.raise_keeps (ss hM rfl) ha0) ha0)

theorem State.deny_keeps {M : Nat} {s0 : State} {a0 a1 a2 a3 a4} (hM : 1099847172097 &&& M = 1099847172097) (ha0 :
    Keeps M s0 a0) : Keeps M s0 (State.deny a0 a1 a2 a3 a4) := by
  unfold State.deny
  exact State.refuseAccess_keeps (ss hM rfl) (State.quayStatus_keeps (ss hM rfl) (State.errReg_keeps (ss hM rfl) ha0))

theorem State.access_keeps {M : Nat} {s0 : State} {a0 a1 a2 a3 a4 a5 a6} (hM : 1099847172097 &&& M = 1099847172097)
    (ha0 : Keeps M s0 a0) (ha6 : ∀ y0, Keeps M s0 y0 → Keeps M s0 (a6 y0)) : Keeps M s0 (State.access a0 a1 a2 a3 a4
    a5 a6) := by
  unfold State.access
  split
  · exact ha6 _ ha0
  · exact State.refuseAccess_keeps (ss hM rfl) ha0
  · exact ha0
  · exact State.deny_keeps (ss hM rfl) ha0
  · exact State.refuseAccess_keeps (ss hM rfl) (State.quayStatus_keeps (ss hM rfl) ha0)

theorem State.refuseWrite_keeps {M : Nat} {s0 : State} {a0 a1 a2 a3 a4 a5} (hM : 1099511627777 &&& M = 1099511627777)
    (ha0 : Keeps M s0 a0) : Keeps M s0 (State.refuseWrite a0 a1 a2 a3 a4 a5) := by
  unfold State.refuseWrite
  exact State.respond_keeps (ss hM rfl) (State.errReg_keeps (ss hM rfl) ha0)

/-! ## Machine/Harbour.lean -/

theorem State.modHms_keeps {M : Nat} {s0 : State} {a0 a1} (hM : 4294967296 &&& M = 4294967296) (ha0 : Keeps M s0 a0)
    : Keeps M s0 (State.modHms a0 a1) := by
  unfold State.modHms
  exact keeps_mk ha0 rfl (g_hms := .inl (ss hM rfl))

theorem State.setSoft_keeps {M : Nat} {s0 : State} {a0 a1} (hM : 141837335527425 &&& M = 141837335527425) (ha0 :
    Keeps M s0 a0) : Keeps M s0 (State.setSoft a0 a1) := by
  unfold State.setSoft
  extract_lets +onlyGivenNames v0
  exact State.irqEvent_keeps (ss hM rfl) (State.wr_keeps (ss hM rfl) (offRegs (p := .irq) rfl (ss hM rfl)) ha0)

theorem State.setItem_keeps {M : Nat} {s0 : State} {a0 a1 a2} (hM : 4294967296 &&& M = 4294967296) (ha0 : Keeps M s0
    a0) : Keeps M s0 (State.setItem a0 a1 a2) := by
  unfold State.setItem
  exact State.modHms_keeps (ss hM rfl) ha0

theorem State.setQueue_keeps {M : Nat} {s0 : State} {a0 a1 a2} (hM : 4294967296 &&& M = 4294967296) (ha0 : Keeps M s0
    a0) : Keeps M s0 (State.setQueue a0 a1 a2) := by
  unfold State.setQueue
  exact State.modHms_keeps (ss hM rfl) ha0

theorem State.setStack_keeps {M : Nat} {s0 : State} {a0 a1 a2} (hM : 4294967296 &&& M = 4294967296) (ha0 : Keeps M s0
    a0) : Keeps M s0 (State.setStack a0 a1 a2) := by
  unfold State.setStack
  exact State.modHms_keeps (ss hM rfl) ha0

theorem State.setDispatch_keeps {M : Nat} {s0 : State} {a0 a1 a2} (hM : 4294967296 &&& M = 4294967296) (ha0 : Keeps M
    s0 a0) : Keeps M s0 (State.setDispatch a0 a1 a2) := by
  unfold State.setDispatch
  exact State.modHms_keeps (ss hM rfl) ha0

theorem State.showStack_keeps {M : Nat} {s0 : State} {a0 a1} (hM : 282574488338432 &&& M = 282574488338432) (ha0 :
    Keeps M s0 a0) : Keeps M s0 (State.showStack a0 a1) := by
  unfold State.showStack
  extract_lets +onlyGivenNames v0
  try clear_value v0
  split
  · exact State.wr_keeps (ss hM rfl) (offRegs (p := .hms) rfl (ss hM rfl)) (State.wr_keeps (ss hM rfl) (offRegs (p :=
        .hms) rfl (ss hM rfl)) (State.wr_keeps (ss hM rfl) (offRegs (p := .hms) rfl (ss hM rfl)) (State.wr_keeps (ss
        hM rfl) (offRegs (p := .hms) rfl (ss hM rfl)) ha0)))

theorem State.showHms_keeps {M : Nat} {s0 : State} {a0} (hM : 281474976710656 &&& M = 281474976710656) (ha0 : Keeps M
    s0 a0) : Keeps M s0 (State.showHms a0) := by
  unfold State.showHms
  extract_lets +onlyGivenNames v0 v1 v2
  exact State.wr_keeps (ss hM rfl) (ss hM rfl) (State.wr_keeps (ss hM rfl) (ss hM rfl) (State.wr_keeps (ss hM rfl)
      (ss hM rfl) (State.wr_keeps (ss hM rfl) (ss hM rfl) (State.wr_keeps (ss hM rfl) (ss hM rfl) ha0))))

theorem State.poolError_keeps {M : Nat} {s0 : State} {a0} (hM : 300167026704385 &&& M = 300167026704385) (ha0 : Keeps
    M s0 a0) : Keeps M s0 (State.poolError a0) := by
  unfold State.poolError
  exact State.logEvent_keeps (ss hM rfl) (State.raise_keeps (ss hM rfl) (State.wr_keeps (ss hM rfl) (ss hM rfl) ha0))

theorem State.poolWrite_keeps {M : Nat} {s0 : State} {a0 a1 a2} (hM : 297256267456460817 &&& M = 297256267456460817)
    (ha0 : Keeps M s0 a0) : Keeps2 M s0 (State.poolWrite a0 a1 a2) := by
  unfold State.poolWrite
  extract_lets +onlyGivenNames v0
  try clear_value v0
  split
  · rename_i x1 q2
    have k3 := congrArg (fun p => p.2) q2
    have hx1 : Keeps M s0 x1 := by
      simp only at k3
      rw [← k3]
      exact keeps_of2 (State.directAccess_keeps (ss hM rfl) ha0)
    exact keeps2_mk (State.clearBankResv_keeps (ss hM rfl) (State.writeBank_keeps (ss hM rfl) hx1))
  · rename_i x4 q5
    have k6 := congrArg (fun p => p.2) q5
    have hx4 : Keeps M s0 x4 := by
      simp only at k6
      rw [← k6]
      exact keeps_of2 (State.directAccess_keeps (ss hM rfl) ha0)
    exact keeps2_mk hx4

theorem State.poolStore_keeps {M : Nat} {s0 s : State} {w l} (hM : 297256267456460817 &&& M = 297256267456460817) (h : Keeps M s0 s) : Keeps2 M s0 (s.poolStore w l) := by
  induction l generalizing s w with
  | nil => exact h
  | cons v r ih =>
    unfold State.poolStore
    have k := State.poolWrite_keeps (ss hM rfl) (a1 := w) (a2 := v) h
    split
    · rename_i s1 q
      rw [q] at k
      exact ih (show Keeps M s0 s1 from k)
    · rename_i s1 q
      rw [q] at k
      exact k

theorem State.poolLoad_keeps {M : Nat} {s0 a0 : State} {a1 a2} (hM : 297256267456460817 &&& M = 297256267456460817) (ha0 : Keeps M s0 a0) : Keeps2 M s0 (a0.poolLoad a1 a2) := by
  induction a2 generalizing a0 a1 with
  | zero => exact ha0
  | succ n ih =>
    unfold State.poolLoad
    extract_lets +onlyGivenNames b
    have kd := State.directAccess_keeps (ss hM rfl) (a1 := b) (a2 := a1) (a3 := hmsRequester) (a4 := false) ha0
    split
    · rename_i s1 qd
      rw [qd] at kd
      have k := State.readBank_keeps (ss hM rfl) (a1 := b) (a2 := a1) (a3 := 38) (show Keeps M s0 s1 from kd)
      split
      · rename_i v s2 q
        rw [q] at k
        have k2 := ih (a1 := a1 + 1) (show Keeps M s0 s2 from k)
        split
        · rename_i r s3 q2
          rw [q2] at k2
          exact k2
        · rename_i s3 q2
          rw [q2] at k2
          exact k2
      · rename_i s2 q
        rw [q] at k
        exact k
    · rename_i s1 qd
      rw [qd] at kd
      exact kd

theorem State.takeDescriptor_keeps {M : Nat} {s0 : State} {a0 a1} (hM : 297537746728138769 &&& M =
    297537746728138769) (ha0 : Keeps M s0 a0) : Keeps M s0 (State.takeDescriptor a0 a1) := by
  unfold State.takeDescriptor
  extract_lets +onlyGivenNames v0
  try clear_value v0
  split
  · exact ha0
  · extract_lets +onlyGivenNames v1
    have h2 : Keeps M s0 v1 := keeps_freeUses ha0
    try clear_value v1
    extract_lets +onlyGivenNames v3
    try clear_value v3
    split
    · rename_i x4 q5
      have k6 := congrArg (fun p => p.2) q5
      have hx4 : Keeps M s0 x4 := by
        simp only at k6
        rw [← k6]
        exact keeps_of2 (State.poolStore_keeps (ss hM rfl) h2)
      exact State.respond_keeps (ss hM rfl) (State.poolError_keeps (ss hM rfl) hx4)
    · rename_i x7 q8
      have k12 := congrArg (fun p => p.2) q8
      have hx7 : Keeps M s0 x7 := by
        simp only at k12
        rw [← k12]
        exact keeps_of2 (State.poolStore_keeps (ss hM rfl) h2)
      extract_lets +onlyGivenNames v9 v10
      have h11 : Keeps M s0 v10 := State.setQueue_keeps (ss hM rfl) (State.setItem_keeps (ss hM rfl) hx7)
      try clear_value v10
      exact State.respond_keeps (ss hM rfl) (State.showHms_keeps (ss hM rfl) (State.modHms_keeps (ss hM rfl) h11))

theorem State.postCommit_keeps {M : Nat} {s0 : State} {a0 a1 a2} (hM : 297537746728138769 &&& M = 297537746728138769)
    (ha0 : Keeps M s0 a0) : Keeps M s0 (State.postCommit a0 a1 a2) := by
  unfold State.postCommit
  extract_lets +onlyGivenNames v0 v1
  have h2 : Keeps M s0 v1 := State.modHms_keeps (ss hM rfl) ha0
  try clear_value v1
  exact keeps_ite (State.respond_keeps (ss hM rfl) (State.errReg_keeps (ss hM rfl) h2)) (keeps_ite
      (State.showHms_keeps (ss hM rfl) (State.modHms_keeps (ss hM rfl) h2)) (State.takeDescriptor_keeps (ss hM rfl)
      h2))

theorem State.postWord_keeps {M : Nat} {s0 : State} {a0 a1 a2 a3} (hM : 4294967297 &&& M = 4294967297) (ha0 : Keeps M
    s0 a0) : Keeps M s0 (State.postWord a0 a1 a2 a3) := by
  unfold State.postWord
  exact State.respond_keeps (ss hM rfl) (State.modHms_keeps (ss hM rfl) ha0)

theorem State.finishItem_keeps {M : Nat} {s0 : State} {a0 a1} (hM : 423316607205377 &&& M = 423316607205377) (ha0 :
    Keeps M s0 a0) : Keeps M s0 (State.finishItem a0 a1) := by
  unfold State.finishItem
  extract_lets +onlyGivenNames v0
  have h1 : Keeps M s0 v0 := keeps_ite (State.setSoft_keeps (ss hM rfl) ha0) ha0
  try clear_value v0
  exact State.showHms_keeps (ss hM rfl) (State.setItem_keeps (ss hM rfl) h1)

theorem State.sendRecord_keeps {M : Nat} {s0 : State} {a0 a1 a2} (hM : 2306266325820899329 &&& M =
    2306266325820899329) (ha0 : Keeps M s0 a0) : Keeps M s0 (State.sendRecord a0 a1 a2) := by
  unfold State.sendRecord
  extract_lets +onlyGivenNames v0
  try clear_value v0
  split
  · exact State.finishItem_keeps (ss hM rfl) (State.quayStatus_keeps (ss hM rfl) ha0)
  · refine keeps_ite ?_ ?_
    · exact State.finishItem_keeps (ss hM rfl) (State.quayStatus_keeps (ss hM rfl) ha0)
    · refine keeps_ite ?_ ?_
      · exact State.showHms_keeps (ss hM rfl) (State.modHms_keeps (ss hM rfl) ha0)
      · extract_lets +onlyGivenNames v1
        exact State.showHms_keeps (ss hM rfl) (State.modHms_keeps (ss hM rfl) (State.quaySend_keeps (ss hM rfl) ha0))

theorem State.completeItem_keeps {M : Nat} {s0 : State} {a0 a1 a2 a3 a4} (hM : 2306266325820899329 &&& M =
    2306266325820899329) (ha0 : Keeps M s0 a0) : Keeps M s0 (State.completeItem a0 a1 a2 a3 a4) := by
  unfold State.completeItem
  exact keeps_ite (State.finishItem_keeps (ss hM rfl) ha0) (State.sendRecord_keeps (ss hM rfl) ha0)

theorem State.sendUnsent_keeps {M : Nat} {s0 : State} {a0} (hM : 2306266325820899329 &&& M = 2306266325820899329)
    (ha0 : Keeps M s0 a0) : Keeps M s0 (State.sendUnsent a0) := by
  unfold State.sendUnsent
  split
  · exact ha0
  · exact State.sendRecord_keeps (ss hM rfl) (State.modHms_keeps (ss hM rfl) ha0)

theorem State.completeTop_keeps {M : Nat} {s0 : State} {a0 a1 a2 a3 a4} (hM : 2306266325820899329 &&& M =
    2306266325820899329) (ha0 : Keeps M s0 a0) : Keeps M s0 (State.completeTop a0 a1 a2 a3 a4) := by
  unfold State.completeTop
  split
  · split
    · exact State.respond_keeps (ss hM rfl) (State.errReg_keeps (ss hM rfl) ha0)
    · exact State.respond_keeps (ss hM rfl) (State.completeItem_keeps (ss hM rfl) (State.showStack_keeps (ss hM rfl)
          (State.setStack_keeps (ss hM rfl) ha0)))
  · exact State.respond_keeps (ss hM rfl) (State.errReg_keeps (ss hM rfl) ha0)

theorem doCompletionRecordResponse_keeps {M : Nat} {s0 : State} {a0 a1 a2} (hM : 2306266325820899329 &&& M =
    2306266325820899329) (ha2 : Keeps M s0 a2) : Keeps M s0 (doCompletionRecordResponse a0 a1 a2) := by
  unfold doCompletionRecordResponse
  split
  · exact ha2
  · exact State.sendUnsent_keeps (ss hM rfl) (State.finishItem_keeps (ss hM rfl) (State.quayTake_keeps (ss hM rfl)
        (State.modHms_keeps (ss hM rfl) ha2)))

theorem execCompletionRecordResponse_keeps {M : Nat} {s0 : State} {a0 a1 a2} (hM : 2306266325820899329 &&& M =
    2306266325820899329) (ha2 : Keeps M s0 a2) : KeepsO M s0 (execCompletionRecordResponse a0 a1 a2) := by
  unfold execCompletionRecordResponse
  exact keepsO_next (doCompletionRecordResponse_keeps (ss hM rfl) ha2)

theorem State.withdraw_keeps {M : Nat} {s0 : State} {a0 a1} (hM : 4294967296 &&& M = 4294967296) (ha0 : Keeps M s0
    a0) : Keeps M s0 (State.withdraw a0 a1) := by
  unfold State.withdraw
  split
  · exact ha0
  · exact State.setQueue_keeps (ss hM rfl) (State.setItem_keeps (ss hM rfl) (State.setDispatch_keeps (ss hM rfl) ha0))

theorem State.dropCore_keeps {M : Nat} {s0 : State} {a0 a1} (hM : 281474976710656 &&& M = 281474976710656) (ha0 :
    Keeps M s0 a0) : Keeps M s0 (State.dropCore a0 a1) := by
  unfold State.dropCore
  exact State.wr_keeps (ss hM rfl) (ss hM rfl) ha0

theorem State.itemsFailed_keeps {M : Nat} {s0 : State} {a0 a1} (hM : 2306283918023720961 &&& M = 2306283918023720961)
    (ha0 : Keeps M s0 a0) : Keeps M s0 (State.itemsFailed a0 a1) := by
  unfold State.itemsFailed
  extract_lets +onlyGivenNames v0 v1
  have h2 : Keeps M s0 v1 := by
    refine keeps_foldl ?_ ?_
    · exact State.setStack_keeps (ss hM rfl) ha0
    · intro _ _ h3
      split
      · rename_i x4 x5 q6
        have k7 := congrArg (fun p => p.2) q6
        have hx5 : Keeps M s0 x5 := by
          simp only at k7
          rw [← k7]
          exact keeps_of2 (State.free_keeps (ss hM rfl) h3)
        exact State.completeItem_keeps (ss hM rfl) hx5
  try clear_value v1
  exact State.logEvent_keeps (ss hM rfl) (State.raise_keeps (ss hM rfl) (State.showHms_keeps (ss hM rfl)
      (State.showStack_keeps (ss hM rfl) (State.dropCore_keeps (ss hM rfl) (State.withdraw_keeps (ss hM rfl) h2)))))

theorem State.dispatch_keeps {M : Nat} {s0 : State} {a0 a1 a2 a3 a4} (hM : 282579118850049 &&& M = 282579118850049)
    (ha0 : Keeps M s0 a0) : Keeps M s0 (State.dispatch a0 a1 a2 a3 a4) := by
  unfold State.dispatch
  extract_lets +onlyGivenNames v0
  have h1 : Keeps M s0 v0 := State.setItem_keeps (ss hM rfl) (State.setQueue_keeps (ss hM rfl) ha0)
  try clear_value v0
  exact State.irqEvent_keeps (ss hM rfl) (State.showHms_keeps (ss hM rfl) (State.showStack_keeps (ss hM rfl)
      (State.setDispatch_keeps (ss hM rfl) h1)))

theorem State.scanLevels_keeps {M : Nat} {s0 s : State} {l n} (hM : 297537746728138769 &&& M = 297537746728138769) (h : Keeps M s0 s) : Keeps M s0 (s.scanLevels l n) := by
  induction n generalizing s l with
  | zero => exact h
  | succ n ih =>
    unfold State.scanLevels
    split
    · exact ih h
    · rename_i i _ _
      have kp := State.poolLoad_keeps (ss hM rfl) (a1 := s.poolWord i 0) (a2 := 4) h
      split
      · rename_i s1 q
        rw [q] at kp
        exact State.poolError_keeps (ss hM rfl) kp
      · rename_i ws s1 q
        rw [q] at kp
        have k : Keeps M s0 s1 := kp
        split
        · exact State.dispatch_keeps (ss hM rfl) k
        · exact ih k

theorem doDispatchScan_keeps {M : Nat} {s0 : State} {a0} (hM : 297537746728138769 &&& M = 297537746728138769) (ha0 :
    Keeps M s0 a0) : Keeps M s0 (doDispatchScan a0) := by
  unfold doDispatchScan
  exact keeps_ite (State.scanLevels_keeps (ss hM rfl) ha0) ha0

theorem execDispatchScan_keeps {M : Nat} {s0 : State} {a0} (hM : 297537746728138769 &&& M = 297537746728138769) (ha0
    : Keeps M s0 a0) : KeepsO M s0 (execDispatchScan a0) := by
  unfold execDispatchScan
  exact keepsO_next (doDispatchScan_keeps (ss hM rfl) ha0)

theorem State.takeDispatch_keeps {M : Nat} {s0 : State} {a0 a1} (hM : 282578783305729 &&& M = 282578783305729) (ha0 :
    Keeps M s0 a0) : Keeps M s0 (State.takeDispatch a0 a1) := by
  unfold State.takeDispatch
  split
  · split
    · exact State.respond_keeps (ss hM rfl) ha0
    · extract_lets +onlyGivenNames v0
      have h1 : Keeps M s0 v0 := State.setStack_keeps (ss hM rfl) (State.setItem_keeps (ss hM rfl)
          (State.setDispatch_keeps (ss hM rfl) ha0))
      try clear_value v0
      exact State.respond_keeps (ss hM rfl) (State.showHms_keeps (ss hM rfl) (State.showStack_keeps (ss hM rfl) h1))
  · exact State.respond_keeps (ss hM rfl) ha0

theorem doTakeTimeout_keeps {M : Nat} {s0 : State} {a0 a1} (hM : 300171321671681 &&& M = 300171321671681) (ha1 :
    Keeps M s0 a1) : Keeps M s0 (doTakeTimeout a0 a1) := by
  unfold doTakeTimeout
  exact keeps_ite ha1 (State.logEvent_keeps (ss hM rfl) (State.raise_keeps (ss hM rfl) (State.showHms_keeps (ss hM
      rfl) (State.showStack_keeps (ss hM rfl) (State.dropCore_keeps (ss hM rfl) (State.withdraw_keeps (ss hM rfl)
      ha1))))))

theorem execTakeTimeout_keeps {M : Nat} {s0 : State} {a0 a1} (hM : 300171321671681 &&& M = 300171321671681) (ha1 :
    Keeps M s0 a1) : KeepsO M s0 (execTakeTimeout a0 a1) := by
  unfold execTakeTimeout
  exact keepsO_next (doTakeTimeout_keeps (ss hM rfl) ha1)

theorem State.cancelItem_keeps {M : Nat} {s0 : State} {a0 a1 a2} (hM : 2603521493430188049 &&& M =
    2603521493430188049) (ha0 : Keeps M s0 a0) : Keeps M s0 (State.cancelItem a0 a1 a2) := by
  unfold State.cancelItem
  extract_lets +onlyGivenNames v0
  try clear_value v0
  split
  · exact State.respond_keeps (ss hM rfl) (State.errReg_keeps (ss hM rfl) ha0)
  · try clear_value v0
    split
    · rename_i x1 q2
      have k3 := congrArg (fun p => p.2) q2
      have hx1 : Keeps M s0 x1 := by
        simp only at k3
        rw [← k3]
        exact keeps_of2 (State.poolLoad_keeps (ss hM rfl) ha0)
      exact State.respond_keeps (ss hM rfl) (State.poolError_keeps (ss hM rfl) hx1)
    · rename_i x4 x5 q6
      have k11 := congrArg (fun p => p.2) q6
      have hx5 : Keeps M s0 x5 := by
        simp only at k11
        rw [← k11]
        exact keeps_of2 (State.poolLoad_keeps (ss hM rfl) ha0)
      split
      · rename_i x7 x8 q9
        have k10 := congrArg (fun p => p.2) q9
        have hx8 : Keeps M s0 x8 := by
          simp only at k10
          rw [← k10]
          exact keeps_of2 (State.free_keeps (ss hM rfl) hx5)
        exact State.respond_keeps (ss hM rfl) (State.completeItem_keeps (ss hM rfl) (State.setQueue_keeps (ss hM rfl)
            hx8))

theorem State.hmsControl_keeps {M : Nat} {s0 : State} {a0 a1 a2 a3} (hM : 4611684919251304449 &&& M =
    4611684919251304449) (ha0 : Keeps M s0 a0) : Keeps M s0 (State.hmsControl a0 a1 a2 a3) := by
  unfold State.hmsControl
  extract_lets +onlyGivenNames v0
  have h1 : Keeps M s0 v0 := State.respond_keeps (ss hM rfl) (State.errReg_keeps (ss hM rfl) ha0)
  try clear_value v0
  exact keeps_ite (keeps_ite h1 (State.respond_keeps (ss hM rfl) (State.plainWrite_keeps (ss hM rfl) ha0)))
      (keeps_ite (keeps_ite h1 (State.respond_keeps (ss hM rfl) (State.plainWrite_keeps (ss hM rfl) ha0))) (keeps_ite
      (keeps_ite h1 (State.respond_keeps (ss hM rfl) (State.plainWrite_keeps (ss hM rfl) ha0))) (State.respond_keeps
      (ss hM rfl) (State.plainWrite_keeps (ss hM rfl) ha0))))

theorem State.hmsWriteNow_keeps {M : Nat} {s0 : State} {a0 a1 a2 a3} (hM : 4611684923563063313 &&& M =
    4611684923563063313) (ha0 : Keeps M s0 a0) : Keeps M s0 (State.hmsWriteNow a0 a1 a2 a3) := by
  unfold State.hmsWriteNow
  exact keeps_ite (State.postCommit_keeps (ss hM rfl) ha0) (keeps_ite (State.postWord_keeps (ss hM rfl) ha0)
      (keeps_ite (State.cancelItem_keeps (ss hM rfl) ha0) (keeps_ite (State.completeTop_keeps (ss hM rfl) ha0)
      (keeps_ite (State.completeTop_keeps (ss hM rfl) ha0) (State.hmsControl_keeps (ss hM rfl) ha0)))))

theorem State.hmsReadNow_keeps {M : Nat} {s0 : State} {a0 a1 a2} (hM : 4611684923210727427 &&& M =
    4611684923210727427) (ha0 : Keeps M s0 a0) : Keeps M s0 (State.hmsReadNow a0 a1 a2) := by
  unfold State.hmsReadNow
  refine keeps_ite ?_ ?_
  · exact keeps_ite (State.respond_keeps (ss hM rfl) ha0) (State.takeDispatch_keeps (ss hM rfl) ha0)
  · refine keeps_ite ?_ ?_
    · split
      · exact State.respond_keeps (ss hM rfl) ha0
      · exact State.respond_keeps (ss hM rfl) ha0
    · refine keeps_ite ?_ ?_
      · extract_lets +onlyGivenNames v0
        split
        · exact State.respond_keeps (ss hM rfl) ha0
        · exact State.respond_keeps (ss hM rfl) ha0
      · refine keeps_ite ?_ ?_
        · exact State.respond_keeps (ss hM rfl) (State.captureHi_keeps (ss hM rfl) ha0)
        · refine keeps_ite ?_ ?_
          · exact State.respond_keeps (ss hM rfl) ha0
          · split
            · rename_i x1 x2 q3
              have k4 := congrArg (fun p => p.2) q3
              have hx2 : Keeps M s0 x2 := by
                simp only at k4
                rw [← k4]
                exact keeps_of2 (State.plainRead_keeps (ss hM rfl) ha0)
              exact State.respond_keeps (ss hM rfl) hx2

theorem State.hmsAccess_keeps {M : Nat} {s0 : State} {a0 a1 a2 a3 a4} (hM : 4611684923563063315 &&& M =
    4611684923563063315) (ha0 : Keeps M s0 a0) : Keeps M s0 (State.hmsAccess a0 a1 a2 a3 a4) := by
  unfold State.hmsAccess
  exact keeps_ite (State.modHms_keeps (ss hM rfl) ha0) (keeps_ite (State.hmsWriteNow_keeps (ss hM rfl) ha0)
      (State.hmsReadNow_keeps (ss hM rfl) ha0))

theorem doPostWordWrite_keeps {M : Nat} {s0 : State} {a0 a1 a2 a3} (hM : 4611684923563063315 &&& M =
    4611684923563063315) (ha3 : Keeps M s0 a3) : Keeps M s0 (doPostWordWrite a0 a1 a2 a3) := by
  unfold doPostWordWrite
  exact State.hmsAccess_keeps (ss hM rfl) ha3

theorem doPostCommit_keeps {M : Nat} {s0 : State} {a0 a1 a2} (hM : 4611684923563063315 &&& M = 4611684923563063315)
    (ha2 : Keeps M s0 a2) : Keeps M s0 (doPostCommit a0 a1 a2) := by
  unfold doPostCommit
  exact State.hmsAccess_keeps (ss hM rfl) ha2

theorem doHmsTake_keeps {M : Nat} {s0 : State} {a0 a1} (hM : 4611684923563063315 &&& M = 4611684923563063315) (ha1 :
    Keeps M s0 a1) : Keeps M s0 (doHmsTake a0 a1) := by
  unfold doHmsTake
  exact State.hmsAccess_keeps (ss hM rfl) ha1

theorem doHmsDone_keeps {M : Nat} {s0 : State} {a0 a1 a2} (hM : 4611684923563063315 &&& M = 4611684923563063315) (ha2
    : Keeps M s0 a2) : Keeps M s0 (doHmsDone a0 a1 a2) := by
  unfold doHmsDone
  exact State.hmsAccess_keeps (ss hM rfl) ha2

theorem doHmsFail_keeps {M : Nat} {s0 : State} {a0 a1 a2} (hM : 4611684923563063315 &&& M = 4611684923563063315) (ha2
    : Keeps M s0 a2) : Keeps M s0 (doHmsFail a0 a1 a2) := by
  unfold doHmsFail
  exact State.hmsAccess_keeps (ss hM rfl) ha2

theorem doHmsCancel_keeps {M : Nat} {s0 : State} {a0 a1 a2} (hM : 4611684923563063315 &&& M = 4611684923563063315)
    (ha2 : Keeps M s0 a2) : Keeps M s0 (doHmsCancel a0 a1 a2) := by
  unfold doHmsCancel
  exact State.hmsAccess_keeps (ss hM rfl) ha2

theorem State.replayAccesses_keeps {M : Nat} {s0 s : State} {l} (hM : 4611684923563063315 &&& M = 4611684923563063315) (h : Keeps M s0 s) : Keeps M s0 (s.replayAccesses l) := by
  induction l generalizing s with
  | nil => exact h
  | cons w r ih => exact ih (State.hmsAccess_keeps (ss hM rfl) h)

theorem State.releaseHeld_keeps {M : Nat} {s0 : State} {a0 a1 a2 a3} (hM : 4611684923563063315 &&& M =
    4611684923563063315) (ha0 : Keeps M s0 a0) (ha3 : ∀ y0, Keeps M s0 y0 → Keeps M s0 (a3 y0)) : Keeps M s0
    (State.releaseHeld a0 a1 a2 a3) := by
  unfold State.releaseHeld
  extract_lets +onlyGivenNames v0 v1
  have h2 : Keeps M s0 v1 := State.modHms_keeps (ss hM rfl) ha0
  try clear_value v1
  exact State.replayAccesses_keeps (ss hM rfl) (State.showHms_keeps (ss hM rfl) (ha3 _ h2))

theorem doBackpressureRelease_keeps {M : Nat} {s0 : State} {a0} (hM : 4611684923563063315 &&& M =
    4611684923563063315) (ha0 : Keeps M s0 a0) : Keeps M s0 (doBackpressureRelease a0) := by
  unfold doBackpressureRelease
  split
  · exact ha0
  · exact keeps_ite ha0 (State.releaseHeld_keeps (ss hM rfl) ha0 (fun y0 h1 => State.takeDescriptor_keeps (ss hM rfl)
        h1))

theorem execBackpressureRelease_keeps {M : Nat} {s0 : State} {a0} (hM : 4611684923563063315 &&& M =
    4611684923563063315) (ha0 : Keeps M s0 a0) : KeepsO M s0 (execBackpressureRelease a0) := by
  unfold execBackpressureRelease
  exact keepsO_next (doBackpressureRelease_keeps (ss hM rfl) ha0)

theorem doBackpressureTimeout_keeps {M : Nat} {s0 : State} {a0} (hM : 4611684923563063315 &&& M =
    4611684923563063315) (ha0 : Keeps M s0 a0) : Keeps M s0 (doBackpressureTimeout a0) := by
  unfold doBackpressureTimeout
  split
  · exact ha0
  · exact keeps_ite ha0 (State.releaseHeld_keeps (ss hM rfl) ha0 (fun y0 h1 => State.respond_keeps (ss hM rfl)
        (State.raise_keeps (ss hM rfl) h1)))

theorem execBackpressureTimeout_keeps {M : Nat} {s0 : State} {a0} (hM : 4611684923563063315 &&& M =
    4611684923563063315) (ha0 : Keeps M s0 a0) : KeepsO M s0 (execBackpressureTimeout a0) := by
  unfold execBackpressureTimeout
  exact keepsO_next (doBackpressureTimeout_keeps (ss hM rfl) ha0)

/-! ## Machine/Operands.lean -/

theorem State.setExch_keeps {M : Nat} {s0 : State} {a0 a1 a2 a3 a4 a5} (hM : 16384 &&& M = 16384) (ha0 : Keeps M s0
    a0) : Keeps M s0 (State.setExch a0 a1 a2 a3 a4 a5) := by
  unfold State.setExch
  exact keeps_mk ha0 rfl (g_exch := .inl (ss hM rfl))

/-! ## Machine/Ledger.lean -/

theorem State.setState_keeps {M : Nat} {s0 : State} {a0 a1 a2} (hM : 144115188075855872 &&& M = 144115188075855872)
    (ha0 : Keeps M s0 a0) : Keeps M s0 (State.setState a0 a1 a2) := by
  unfold State.setState
  exact keeps_foldl ha0 (fun _ _ h0 => State.wr_keeps (ss hM rfl) (ss hM rfl) h0)

theorem State.timeBreak_keeps {M : Nat} {s0 : State} {a0 a1} (hM : 144116287923027969 &&& M = 144116287923027969)
    (ha0 : Keeps M s0 a0) : Keeps M s0 (State.timeBreak a0 a1) := by
  unfold State.timeBreak
  exact keeps_ite (State.raise_keeps (ss hM rfl) (State.wr64_keeps (ss hM rfl) (ss hM rfl) (ss hM rfl) ha0)) ha0

theorem State.freeRunBreak_keeps {M : Nat} {s0 : State} {a0 a1} (hM : 144116287923027969 &&& M = 144116287923027969)
    (ha0 : Keeps M s0 a0) : Keeps M s0 (State.freeRunBreak a0 a1) := by
  unfold State.freeRunBreak
  exact keeps_ite (State.timeBreak_keeps (ss hM rfl) ha0) ha0

theorem State.missRelease_keeps {M : Nat} {s0 : State} {a0 a1} (hM : 144116287923027969 &&& M = 144116287923027969)
    (ha0 : Keeps M s0 a0) : Keeps M s0 (State.missRelease a0 a1) := by
  unfold State.missRelease
  exact State.timeBreak_keeps (ss hM rfl) (State.raise_keeps (ss hM rfl) (State.count_keeps (ss hM rfl) (ss hM rfl)
      (State.wr_keeps (ss hM rfl) (ss hM rfl) ha0)))

theorem State.stallBegin_keeps {M : Nat} {s0 : State} {a0 a1 a2} (hM : 144116287923028993 &&& M = 144116287923028993)
    (ha0 : Keeps M s0 a0) : Keeps M s0 (State.stallBegin a0 a1 a2) := by
  unfold State.stallBegin
  refine keeps_ite ?_ ?_
  · exact ha0
  · extract_lets +onlyGivenNames v0 v1
    have h2 : Keeps M s0 v1 := State.wr_keeps (ss hM rfl) (ss hM rfl) (State.modPart_keeps (ss hM rfl) ha0)
    try clear_value v1
    extract_lets +onlyGivenNames v3
    have h4 : Keeps M s0 v3 := keeps_ite (State.freeRunBreak_keeps (ss hM rfl) h2) h2
    try clear_value v3
    exact keeps_ite h4 (State.raise_keeps (ss hM rfl) h4)

theorem State.book_keeps {M : Nat} {s0 : State} {a0 a1} (hM : 144115188075856896 &&& M = 144115188075856896) (ha0 :
    Keeps M s0 a0) : Keeps M s0 (State.book a0 a1) := by
  unfold State.book
  extract_lets +onlyGivenNames v0 v1 v2
  have h3 : Keeps M s0 v2 := State.count_keeps (ss hM rfl) (ss hM rfl) ha0
  try clear_value v2
  extract_lets +onlyGivenNames v4
  have h5 : Keeps M s0 v4 := keeps_ite (State.wrSat_keeps (ss hM rfl) (ss hM rfl) h3) h3
  try clear_value v4
  extract_lets +onlyGivenNames v6
  have h7 : Keeps M s0 v6 := State.count_keeps (ss hM rfl) (ss hM rfl) h5
  try clear_value v6
  extract_lets +onlyGivenNames v8
  have h9 : Keeps M s0 v8 := State.wr_keeps (ss hM rfl) (ss hM rfl) h7
  try clear_value v8
  extract_lets +onlyGivenNames v10
  have h11 : Keeps M s0 v10 := State.wrSat_keeps (ss hM rfl) (ss hM rfl) (State.wr_keeps (ss hM rfl) (ss hM rfl) h9)
  try clear_value v10
  exact State.modPart_keeps (ss hM rfl) h11

theorem State.stallEnd_keeps {M : Nat} {s0 : State} {a0 a1} (hM : 144115188075856896 &&& M = 144115188075856896) (ha0
    : Keeps M s0 a0) : Keeps M s0 (State.stallEnd a0 a1) := by
  unfold State.stallEnd
  split
  · exact ha0
  · extract_lets +onlyGivenNames v0
    have h1 : Keeps M s0 v0 := State.wr_keeps (ss hM rfl) (ss hM rfl) (State.modPart_keeps (ss hM rfl) ha0)
    try clear_value v0
    exact keeps_ite h1 (State.book_keeps (ss hM rfl) h1)

theorem State.hold_keeps {M : Nat} {s0 : State} {a0 a1 a2} (hM : 1024 &&& M = 1024) (ha0 : Keeps M s0 a0) : Keeps M
    s0 (State.hold a0 a1 a2) := by
  unfold State.hold
  exact State.modPart_keeps (ss hM rfl) ha0

theorem State.unhold_keeps {M : Nat} {s0 : State} {a0 a1 a2} (hM : 1024 &&& M = 1024) (ha0 : Keeps M s0 a0) : Keeps M
    s0 (State.unhold a0 a1 a2) := by
  unfold State.unhold
  exact State.modPart_keeps (ss hM rfl) ha0

theorem State.throttleBegin_keeps {M : Nat} {s0 : State} {a0 a1} (hM : 144116287923028993 &&& M = 144116287923028993)
    (ha0 : Keeps M s0 a0) : Keeps M s0 (State.throttleBegin a0 a1) := by
  unfold State.throttleBegin
  extract_lets +onlyGivenNames v0 v1
  have h2 : Keeps M s0 v1 := State.modPart_keeps (ss hM rfl) ha0
  try clear_value v1
  exact keeps_ite h2 (State.raise_keeps (ss hM rfl) (State.freeRunBreak_keeps (ss hM rfl) h2))

theorem State.throttleEnd_keeps {M : Nat} {s0 : State} {a0 a1} (hM : 144115188075856896 &&& M = 144115188075856896)
    (ha0 : Keeps M s0 a0) : Keeps M s0 (State.throttleEnd a0 a1) := by
  unfold State.throttleEnd
  refine keeps_ite ?_ ?_
  · extract_lets +onlyGivenNames v0
    have h1 : Keeps M s0 v0 := State.modPart_keeps (ss hM rfl) ha0
    try clear_value v0
    exact keeps_ite h1 (State.book_keeps (ss hM rfl) h1)
  · exact ha0

/-! ## Machine/AcqClock.lean -/

theorem State.modAcq_keeps {M : Nat} {s0 : State} {a0 a1 a2} (hM : 65536 &&& M = 65536) (ha0 : Keeps M s0 a0) : Keeps
    M s0 (State.modAcq a0 a1 a2) := by
  unfold State.modAcq
  exact keeps_mk ha0 rfl (g_acq := .inl (ss hM rfl))

theorem State.closeBlock_keeps {M : Nat} {s0 : State} {a0 a1} (hM : 65536 &&& M = 65536) (ha0 : Keeps M s0 a0) :
    Keeps M s0 (State.closeBlock a0 a1) := by
  unfold State.closeBlock
  split
  · exact ha0
  · exact State.modAcq_keeps (ss hM rfl) ha0

theorem State.replayMark_keeps {M : Nat} {s0 : State} {a0 a1} (hM : 1099847237633 &&& M = 1099847237633) (ha0 : Keeps
    M s0 a0) : Keeps M s0 (State.replayMark a0 a1) := by
  unfold State.replayMark
  exact State.raise_keeps (ss hM rfl) (State.modAcq_keeps (ss hM rfl) (State.closeBlock_keeps (ss hM rfl) ha0))

theorem State.clockUnit_keeps {M : Nat} {s0 : State} {a0 a1 a2 a3 a4} (hM : 65536 &&& M = 65536) (ha0 : Keeps M s0
    a0) : Keeps M s0 (State.clockUnit a0 a1 a2 a3 a4) := by
  unfold State.clockUnit
  extract_lets +onlyGivenNames v0 v1 v2
  have h3 : Keeps M s0 v2 := State.modAcq_keeps (ss hM rfl) ha0
  try clear_value v2
  exact keeps_ite (State.modAcq_keeps (ss hM rfl) h3) h3

theorem State.sampleClock_keeps {M : Nat} {s0 : State} {a0 a1 a2 a3} (hM : 65536 &&& M = 65536) (ha0 : Keeps M s0 a0)
    : Keeps M s0 (State.sampleClock a0 a1 a2 a3) := by
  unfold State.sampleClock
  extract_lets +onlyGivenNames v0
  exact keeps_foldl ha0 (fun _ _ h1 => State.clockUnit_keeps (ss hM rfl) h1)

theorem State.sampleReplay_keeps {M : Nat} {s0 : State} {a0 a1} (hM : 1099847237633 &&& M = 1099847237633) (ha0 :
    Keeps M s0 a0) : Keeps M s0 (State.sampleReplay a0 a1) := by
  unfold State.sampleReplay
  exact keeps_foldl ha0 (fun _ _ h0 => keeps_ite (State.replayMark_keeps (ss hM rfl) h0) (State.modAcq_keeps (ss hM
      rfl) h0))

/-! ## Machine/CascadeNet.lean -/

theorem State.showUnit_keeps {M : Nat} {s0 : State} {a0} (hM : 2251799814733824 &&& M = 2251799814733824) (ha0 :
    Keeps M s0 a0) : Keeps M s0 (State.showUnit a0) := by
  unfold State.showUnit
  extract_lets +onlyGivenNames v0
  have h1 : Keeps M s0 v0 := State.wr_keeps (ss hM rfl) (ss hM rfl) ha0
  try clear_value v0
  refine keeps_ite ?_ ?_
  · exact h1
  · extract_lets +onlyGivenNames v2
    exact State.wr_keeps (ss hM rfl) (ss hM rfl) (State.modCas_keeps (ss hM rfl) h1)

theorem State.report_keeps {M : Nat} {s0 : State} {a0 a1 a2} (hM : 2251799814733825 &&& M = 2251799814733825) (ha0 :
    Keeps M s0 a0) : Keeps M s0 (State.report a0 a1 a2) := by
  unfold State.report
  exact keeps_ite (keeps_ite (State.showUnit_keeps (ss hM rfl) (State.modCas_keeps (ss hM rfl) ha0)) ha0) (keeps_ite
      (State.emit_keeps (ss hM rfl) ha0) ha0)

theorem State.sendDown_keeps {M : Nat} {s0 : State} {a0 a1 a2 a3} (hM : 1 &&& M = 1) (ha0 : Keeps M s0 a0) : Keeps M
    s0 (State.sendDown a0 a1 a2 a3) := by
  unfold State.sendDown
  exact keeps_foldl ha0 (fun _ _ h0 => State.emit_keeps (ss hM rfl) h0)

theorem State.issueOrder_keeps {M : Nat} {s0 : State} {a0 a1 a2 a3} (hM : 1048577 &&& M = 1048577) (ha0 : Keeps M s0
    a0) : Keeps M s0 (State.issueOrder a0 a1 a2 a3) := by
  unfold State.issueOrder
  exact State.modCas_keeps (ss hM rfl) (State.sendDown_keeps (ss hM rfl) ha0)

theorem State.tagFault_keeps {M : Nat} {s0 : State} {a0 a1 a2 a3 a4} (hM : 2252899661905921 &&& M = 2252899661905921)
    (ha0 : Keeps M s0 a0) : Keeps M s0 (State.tagFault a0 a1 a2 a3 a4) := by
  unfold State.tagFault
  extract_lets +onlyGivenNames v0
  have h1 : Keeps M s0 v0 := keeps_ite ha0 (State.wr_keeps (ss hM rfl) (ss hM rfl) (State.wr_keeps (ss hM rfl) (ss hM
      rfl) (State.wr_keeps (ss hM rfl) (ss hM rfl) (State.wr_keeps (ss hM rfl) (ss hM rfl) (State.wr_keeps (ss hM
      rfl) (ss hM rfl) ha0)))))
  try clear_value v0
  extract_lets +onlyGivenNames v2
  have h3 : Keeps M s0 v2 := State.raise_keeps (ss hM rfl) h1
  try clear_value v2
  exact keeps_ite (State.modCas_keeps (ss hM rfl) h3) (State.report_keeps (ss hM rfl) h3)

theorem State.deliver_keeps {M : Nat} {s0 : State} {a0 a1 a2 a3} (hM : 2252899662168065 &&& M = 2252899662168065)
    (ha0 : Keeps M s0 a0) : Keeps M s0 (State.deliver a0 a1 a2 a3) := by
  unfold State.deliver
  split
  · extract_lets +onlyGivenNames v0
    refine keeps_ite ?_ ?_
    · exact keeps_mk ha0 rfl (g_slots := .inl (ss hM rfl))
    · split
      · exact ha0
      · exact keeps_ite (keeps_mk ha0 rfl (g_slots := .inl (ss hM rfl))) (State.tagFault_keeps (ss hM rfl) ha0)

theorem State.deliverAll_keeps {M : Nat} {s0 : State} {a0 a1 a2 a3} (hM : 2252899662168065 &&& M = 2252899662168065)
    (ha0 : Keeps M s0 a0) : Keeps M s0 (State.deliverAll a0 a1 a2 a3) := by
  unfold State.deliverAll
  exact keeps_foldl ha0 (fun _ _ h0 => State.deliver_keeps (ss hM rfl) h0)

theorem State.fillFrames_keeps {M : Nat} {s0 : State} {a0 a1 a2} (hM : 524288 &&& M = 524288) (ha0 : Keeps M s0 a0) :
    Keeps M s0 (State.fillFrames a0 a1 a2) := by
  unfold State.fillFrames
  refine keeps_foldl ?_ ?_
  · exact ha0
  · intro _ _ h0
    extract_lets +onlyGivenNames v1 v2
    exact State.modPort_keeps (ss hM rfl) h0

theorem State.sendTagFaults_keeps {M : Nat} {s0 : State} {a0 a1 a2} (hM : 2252899661905921 &&& M = 2252899661905921)
    (ha0 : Keeps M s0 a0) : Keeps M s0 (State.sendTagFaults a0 a1 a2) := by
  unfold State.sendTagFaults
  refine keeps_foldl ?_ ?_
  · exact ha0
  · intro _ _ h0
    refine keeps_foldl ?_ ?_
    · exact h0
    · intro _ _ h1
      extract_lets +onlyGivenNames v2
      exact keeps_ite (State.tagFault_keeps (ss hM rfl) h1) h1

theorem State.closeFrames_keeps {M : Nat} {s0 : State} {a0 a1} (hM : 2252899662430209 &&& M = 2252899662430209) (ha0
    : Keeps M s0 a0) : Keeps M s0 (State.closeFrames a0 a1) := by
  unfold State.closeFrames
  refine keeps_foldl ?_ ?_
  · exact ha0
  · intro _ _ h0
    split
    · exact h0
    · extract_lets +onlyGivenNames v1 v2 v3
      exact State.sendTagFaults_keeps (ss hM rfl) (State.modPort_keeps (ss hM rfl) h0)

theorem State.freeFrames_keeps {M : Nat} {s0 : State} {a0 a1} (hM : 2252899325837312 &&& M = 2252899325837312) (ha0 :
    Keeps M s0 a0) : Keeps M s0 (State.freeFrames a0 a1) := by
  unfold State.freeFrames
  refine keeps_foldl ?_ ?_
  · exact ha0
  · intro _ _ h0
    split
    · exact keeps_ite h0 (State.wr_keeps (ss hM rfl) (offRegs (p := .cas) rfl (ss hM rfl)) (State.modPort_keeps (ss
          hM rfl) h0))

theorem State.unitStepEnd_keeps {M : Nat} {s0 : State} {a0 a1 a2 a3} (hM : 2252899662430209 &&& M = 2252899662430209)
    (ha0 : Keeps M s0 a0) : Keeps M s0 (State.unitStepEnd a0 a1 a2 a3) := by
  unfold State.unitStepEnd
  refine keeps_ite ?_ ?_
  · extract_lets +onlyGivenNames v0
    have h1 : Keeps M s0 v0 := State.wr64_keeps (ss hM rfl) (ss hM rfl) (ss hM rfl) (State.fillFrames_keeps (ss hM
        rfl) ha0)
    try clear_value v0
    exact State.freeFrames_keeps (ss hM rfl) (keeps_ite (State.closeFrames_keeps (ss hM rfl) h1) h1)
  · exact ha0

theorem State.setTick_keeps {M : Nat} {s0 : State} {a0 a1} (hM : 2251799813685248 &&& M = 2251799813685248) (ha0 :
    Keeps M s0 a0) : Keeps M s0 (State.setTick a0 a1) := by
  unfold State.setTick
  exact State.wr64_keeps (ss hM rfl) (ss hM rfl) (ss hM rfl) ha0

theorem State.unitTick_keeps {M : Nat} {s0 : State} {a0 a1} (hM : 2251799814733824 &&& M = 2251799814733824) (ha0 :
    Keeps M s0 a0) : Keeps M s0 (State.unitTick a0 a1) := by
  unfold State.unitTick
  exact keeps_ite (State.modCas_keeps (ss hM rfl) (State.setTick_keeps (ss hM rfl) ha0)) ha0

theorem State.requestStop_keeps {M : Nat} {s0 : State} {a0 a1} (hM : 146366987890589697 &&& M = 146366987890589697)
    (ha0 : Keeps M s0 a0) : Keeps M s0 (State.requestStop a0 a1) := by
  unfold State.requestStop
  extract_lets +onlyGivenNames v0
  have h1 : Keeps M s0 v0 := keeps_foldl ha0 (fun _ _ h2 => keeps_ite (State.wr_keeps (ss hM rfl) (ss hM rfl) h2) h2)
  try clear_value v0
  exact keeps_ite (keeps_ite h1 (State.issueOrder_keeps (ss hM rfl) (State.modCas_keeps (ss hM rfl) h1)))
      (State.report_keeps (ss hM rfl) h1)

end Sys2Proof.Machine
end

