-- ==== Sys2Proof/Laws/Keeps1.lean ====
section
/-! SUPPORT. Laws/Keeps1.lean: what the operations of Machine/CascadePorts.lean, Machine/Recovery.lean, Machine/FabricView.lean, Machine/ConfigRecords.lean, Machine/FabricLogic.lean, Machine/Orchard.lean
keep of a state. -/

namespace Sys2Proof.Machine
set_option Elab.async false
open Sys2Proof

/-! ## Machine/CascadePorts.lean -/

theorem State.setPort_keeps {M : Nat} {s0 : State} {a0 a1 a2} (hM : 2252899325313024 &&& M = 2252899325313024) (ha0 :
    Keeps M s0 a0) : Keeps M s0 (State.setPort a0 a1 a2) := by
  unfold State.setPort
  exact State.wr_keeps (ss hM rfl) (offRegs (p := .cas) rfl (ss hM rfl)) ha0

theorem State.stageSends_keeps {M : Nat} {s0 : State} {a0 a1 a2} (hM : 1 &&& M = 1) (ha0 : Keeps M s0 a0) : Keeps M
    s0 (State.stageSends a0 a1 a2) := by
  unfold State.stageSends
  exact keeps_ite (State.emit_keeps (ss hM rfl) ha0) (keeps_ite (keeps_foldl ha0 (fun _ _ h0 => State.emit_keeps (ss
      hM rfl) h0)) (keeps_ite (keeps_foldl ha0 (fun _ _ h1 => State.emit_keeps (ss hM rfl) h1)) (keeps_ite
      (State.emit_keeps (ss hM rfl) ha0) ha0)))

theorem State.enterStage_keeps {M : Nat} {s0 : State} {a0 a1 a2} (hM : 2252899325313025 &&& M = 2252899325313025)
    (ha0 : Keeps M s0 a0) : Keeps M s0 (State.enterStage a0 a1 a2) := by
  unfold State.enterStage
  exact State.stageSends_keeps (ss hM rfl) (State.setPort_keeps (ss hM rfl) ha0)

theorem State.failPort_keeps {M : Nat} {s0 : State} {a0 a1 a2} (hM : 2252899661905921 &&& M = 2252899661905921) (ha0
    : Keeps M s0 a0) : Keeps M s0 (State.failPort a0 a1 a2) := by
  unfold State.failPort
  exact State.showUnit_keeps (ss hM rfl) (State.raise_keeps (ss hM rfl) (State.wr_keeps (ss hM rfl) (offRegs (p :=
      .cas) rfl (ss hM rfl)) (State.setPort_keeps (ss hM rfl) ha0)))

theorem State.eachLane_keeps {M : Nat} {s0 : State} {a0 a1 a2} (hM : 0 &&& M = 0) (ha0 : Keeps M s0 a0) (ha2 : ∀ y0
    y1, Keeps M s0 y0 → Keeps M s0 (a2 y0 y1)) : Keeps M s0 (State.eachLane a0 a1 a2) := by
  unfold State.eachLane
  exact keeps_foldl ha0 (fun _ _ h0 => ha2 _ _ h0)

theorem State.setSync_keeps {M : Nat} {s0 : State} {a0 a1 a2} (hM : 524288 &&& M = 524288) (ha0 : Keeps M s0 a0) :
    Keeps M s0 (State.setSync a0 a1 a2) := by
  unfold State.setSync
  exact keeps_mk ha0 rfl (g_ports := .inl (ss hM rfl))

theorem State.setLock_keeps {M : Nat} {s0 : State} {a0 a1 a2} (hM : 4503599627894784 &&& M = 4503599627894784) (ha0 :
    Keeps M s0 a0) : Keeps M s0 (State.setLock a0 a1 a2) := by
  unfold State.setLock
  exact State.wr_keeps (ss hM rfl) (ss hM rfl) (State.setSync_keeps (ss hM rfl) ha0)

theorem State.clearLanes_keeps {M : Nat} {s0 : State} {a0 a1} (hM : 4503599627894784 &&& M = 4503599627894784) (ha0 :
    Keeps M s0 a0) : Keeps M s0 (State.clearLanes a0 a1) := by
  unfold State.clearLanes
  exact State.eachLane_keeps (ss hM rfl) ha0 (fun y0 y2 h1 => State.wr_keeps (ss hM rfl) (ss hM rfl) (State.wr_keeps
      (ss hM rfl) (ss hM rfl) (State.wr_keeps (ss hM rfl) (ss hM rfl) (State.wr_keeps (ss hM rfl) (ss hM rfl)
      (State.wr_keeps (ss hM rfl) (ss hM rfl) (State.wr_keeps (ss hM rfl) (ss hM rfl) (State.setSync_keeps (ss hM
      rfl) h1)))))))

theorem State.clearPort_keeps {M : Nat} {s0 : State} {a0 a1 a2} (hM : 6756498953207808 &&& M = 6756498953207808) (ha0
    : Keeps M s0 a0) : Keeps M s0 (State.clearPort a0 a1 a2) := by
  unfold State.clearPort
  extract_lets +onlyGivenNames v0
  have h1 : Keeps M s0 v0 := State.wr_keeps (ss hM rfl) (offRegs (p := .cas) rfl (ss hM rfl)) (State.wr_keeps (ss hM
      rfl) (offRegs (p := .cas) rfl (ss hM rfl)) (State.wr_keeps (ss hM rfl) (offRegs (p := .cas) rfl (ss hM rfl))
      (State.setPort_keeps (ss hM rfl) (State.clearLanes_keeps (ss hM rfl) ha0))))
  try clear_value v0
  exact State.modPort_keeps (ss hM rfl) (State.wr_keeps (ss hM rfl) (offRegs (p := .cas) rfl (ss hM rfl))
      (State.wr_keeps (ss hM rfl) (offRegs (p := .cas) rfl (ss hM rfl)) (State.wr_keeps (ss hM rfl) (offRegs (p :=
      .cas) rfl (ss hM rfl)) h1)))

theorem State.lanePll_keeps {M : Nat} {s0 : State} {a0 a1 a2} (hM : 4398046511104 &&& M = 4398046511104) (ha0 : Keeps
    M s0 a0) : Keeps M s0 (State.lanePll a0 a1 a2) := by
  unfold State.lanePll
  exact State.wr_keeps (ss hM rfl) (ss hM rfl) ha0

theorem doPortEnable_keeps {M : Nat} {s0 : State} {a0 a1 a2} (hM : 6760897000767489 &&& M = 6760897000767489) (ha2 :
    Keeps M s0 a2) : Keeps M s0 (doPortEnable a0 a1 a2) := by
  unfold doPortEnable
  exact keeps_ite (State.respond_keeps (ss hM rfl) ha2) (State.respond_keeps (ss hM rfl) (State.showUnit_keeps (ss hM
      rfl) (State.stageSends_keeps (ss hM rfl) (State.clearPort_keeps (ss hM rfl) (State.lanePll_keeps (ss hM rfl)
      (State.wr_keeps (ss hM rfl) (offRegs (p := .cas) rfl (ss hM rfl)) ha2))))))

theorem doPortDisable_keeps {M : Nat} {s0 : State} {a0 a1 a2} (hM : 6760897000767489 &&& M = 6760897000767489) (ha2 :
    Keeps M s0 a2) : Keeps M s0 (doPortDisable a0 a1 a2) := by
  unfold doPortDisable
  exact State.respond_keeps (ss hM rfl) (State.showUnit_keeps (ss hM rfl) (State.clearPort_keeps (ss hM rfl)
      (State.lanePll_keeps (ss hM rfl) (State.wr_keeps (ss hM rfl) (offRegs (p := .cas) rfl (ss hM rfl)) ha2))))

theorem State.endReversal_keeps {M : Nat} {s0 : State} {a0 a1} (hM : 2252899661905921 &&& M = 2252899661905921) (ha0
    : Keeps M s0 a0) : Keeps M s0 (State.endReversal a0 a1) := by
  unfold State.endReversal
  split
  · exact State.failPort_keeps (ss hM rfl) ha0
  · extract_lets +onlyGivenNames v0
    have h1 : Keeps M s0 v0 := State.wr_keeps (ss hM rfl) (offRegs (p := .cas) rfl (ss hM rfl)) ha0
    try clear_value v0
    exact keeps_ite (State.failPort_keeps (ss hM rfl) (State.raise_keeps (ss hM rfl) h1)) (keeps_ite
        (State.failPort_keeps (ss hM rfl) (State.raise_keeps (ss hM rfl) h1)) (keeps_ite (State.failPort_keeps (ss hM
        rfl) h1) (State.enterStage_keeps (ss hM rfl) h1)))

theorem State.portReady_keeps {M : Nat} {s0 : State} {a0 a1} (hM : 2252899326885888 &&& M = 2252899326885888) (ha0 :
    Keeps M s0 a0) : Keeps M s0 (State.portReady a0 a1) := by
  unfold State.portReady
  exact State.showUnit_keeps (ss hM rfl) (State.modPort_keeps (ss hM rfl) (State.wr_keeps (ss hM rfl) (offRegs (p :=
      .cas) rfl (ss hM rfl)) (State.setPort_keeps (ss hM rfl) ha0)))

theorem State.setLatency_keeps {M : Nat} {s0 : State} {a0 a1 a2 a3} (hM : 2252899325313024 &&& M = 2252899325313024)
    (ha0 : Keeps M s0 a0) : Keeps M s0 (State.setLatency a0 a1 a2 a3) := by
  unfold State.setLatency
  exact State.wrSat_keeps (ss hM rfl) (offRegs (p := .cas) rfl (ss hM rfl)) (State.wrSat_keeps (ss hM rfl) (offRegs
      (p := .cas) rfl (ss hM rfl)) (State.wrSat_keeps (ss hM rfl) (offRegs (p := .cas) rfl (ss hM rfl)) ha0))

theorem doBringupStageDone_keeps {M : Nat} {s0 : State} {a0 a1 a2 a3 a4} (hM : 6756499289800705 &&& M =
    6756499289800705) (ha4 : Keeps M s0 a4) : Keeps M s0 (doBringupStageDone a0 a1 a2 a3 a4) := by
  unfold doBringupStageDone
  split
  · exact State.enterStage_keeps (ss hM rfl) (State.eachLane_keeps (ss hM rfl) ha4 (fun y0 y2 h1 => State.wr_keeps
        (ss hM rfl) (ss hM rfl) h1))
  · exact State.enterStage_keeps (ss hM rfl) (State.eachLane_keeps (ss hM rfl) ha4 (fun y3 y5 h4 => State.wr_keeps
        (ss hM rfl) (ss hM rfl) h4))
  · exact State.enterStage_keeps (ss hM rfl) (State.eachLane_keeps (ss hM rfl) ha4 (fun y6 y8 h7 => State.wr_keeps
        (ss hM rfl) (ss hM rfl) h7))
  · exact State.enterStage_keeps (ss hM rfl) (State.eachLane_keeps (ss hM rfl) ha4 (fun y9 y11 h10 =>
        State.setLock_keeps (ss hM rfl) h10))
  · exact State.endReversal_keeps (ss hM rfl) ha4
  · exact keeps_ite (State.failPort_keeps (ss hM rfl) ha4) (keeps_ite (keeps_ite (State.failPort_keeps (ss hM rfl)
        ha4) (State.portReady_keeps (ss hM rfl) ha4)) (State.enterStage_keeps (ss hM rfl) ha4))
  · extract_lets +onlyGivenNames v12 v13
    have h14 : Keeps M s0 v13 := State.setLatency_keeps (ss hM rfl) ha4
    try clear_value v13
    exact keeps_ite (State.failPort_keeps (ss hM rfl) h14) (State.portReady_keeps (ss hM rfl) h14)
  · exact ha4

theorem execBringupStageDone_keeps {M : Nat} {s0 : State} {a0 a1 a2 a3 a4} (hM : 6756499289800705 &&& M =
    6756499289800705) (ha4 : Keeps M s0 a4) : KeepsO M s0 (execBringupStageDone a0 a1 a2 a3 a4) := by
  unfold execBringupStageDone
  exact keepsO_next (doBringupStageDone_keeps (ss hM rfl) ha4)

theorem doBringupTimeout_keeps {M : Nat} {s0 : State} {a0 a1} (hM : 2252899661905921 &&& M = 2252899661905921) (ha1 :
    Keeps M s0 a1) : Keeps M s0 (doBringupTimeout a0 a1) := by
  unfold doBringupTimeout
  exact keeps_ite (State.failPort_keeps (ss hM rfl) ha1) ha1

theorem execBringupTimeout_keeps {M : Nat} {s0 : State} {a0 a1} (hM : 2252899661905921 &&& M = 2252899661905921) (ha1
    : Keeps M s0 a1) : KeepsO M s0 (execBringupTimeout a0 a1) := by
  unfold execBringupTimeout
  exact keepsO_next (doBringupTimeout_keeps (ss hM rfl) ha1)

theorem doTrain_keeps {M : Nat} {s0 : State} {a0 a1 a2 a3 a4 a5} (hM : 6756498952683520 &&& M = 6756498952683520)
    (ha5 : Keeps M s0 a5) : Keeps M s0 (doTrain a0 a1 a2 a3 a4 a5) := by
  unfold doTrain
  exact keeps_ite (State.wr_keeps (ss hM rfl) (offRegs (p := .cas) rfl (ss hM rfl)) (State.wr_keeps (ss hM rfl)
      (offRegs (p := .cas) rfl (ss hM rfl)) (State.wr_keeps (ss hM rfl) (ss hM rfl) ha5))) ha5

theorem execTrain_keeps {M : Nat} {s0 : State} {a0 a1 a2 a3 a4 a5} (hM : 6756498952683520 &&& M = 6756498952683520)
    (ha5 : Keeps M s0 a5) : KeepsO M s0 (execTrain a0 a1 a2 a3 a4 a5) := by
  unfold execTrain
  exact keepsO_next (doTrain_keeps (ss hM rfl) ha5)

theorem doLaneMark_keeps {M : Nat} {s0 : State} {a0 a1 a2 a3} (hM : 4503599627370496 &&& M = 4503599627370496) (ha3 :
    Keeps M s0 a3) : Keeps M s0 (doLaneMark a0 a1 a2 a3) := by
  unfold doLaneMark
  exact keeps_ite (State.wrSat_keeps (ss hM rfl) (ss hM rfl) ha3) ha3

theorem execLaneMark_keeps {M : Nat} {s0 : State} {a0 a1 a2 a3} (hM : 4503599627370496 &&& M = 4503599627370496) (ha3
    : Keeps M s0 a3) : KeepsO M s0 (execLaneMark a0 a1 a2 a3) := by
  unfold execLaneMark
  exact keepsO_next (doLaneMark_keeps (ss hM rfl) ha3)

theorem State.beginRetrain_keeps {M : Nat} {s0 : State} {a0 a1} (hM : 6756499289276417 &&& M = 6756499289276417) (ha0
    : Keeps M s0 a0) : Keeps M s0 (State.beginRetrain a0 a1) := by
  unfold State.beginRetrain
  extract_lets +onlyGivenNames v0
  have h1 : Keeps M s0 v0 := State.eachLane_keeps (ss hM rfl) ha0 (fun y2 y4 h3 => keeps_ite (State.wr_keeps (ss hM
      rfl) (ss hM rfl) h3) h3)
  try clear_value v0
  extract_lets +onlyGivenNames v5
  have h6 : Keeps M s0 v5 := keeps_foldl h1 (fun _ _ h7 => State.stageSends_keeps (ss hM rfl) h7)
  try clear_value v5
  exact State.showUnit_keeps (ss hM rfl) (State.raise_keeps (ss hM rfl) (State.count_keeps (ss hM rfl) (offRegs (p :=
      .cas) rfl (ss hM rfl)) (State.setPort_keeps (ss hM rfl) h6)))

theorem State.huntHeader_keeps {M : Nat} {s0 : State} {a0 a1 a2} (hM : 4503599627894784 &&& M = 4503599627894784)
    (ha0 : Keeps M s0 a0) : Keeps M s0 (State.huntHeader a0 a1 a2) := by
  unfold State.huntHeader
  extract_lets +onlyGivenNames v0
  exact keeps_ite (keeps_ite (State.setLock_keeps (ss hM rfl) ha0) (State.setSync_keeps (ss hM rfl) ha0))
      (State.setSync_keeps (ss hM rfl) ha0)

theorem State.laneHeader_keeps {M : Nat} {s0 : State} {a0 a1 a2} (hM : 4503599627894784 &&& M = 4503599627894784)
    (ha0 : Keeps M s0 a0) : Keeps M s0 (State.laneHeader a0 a1 a2) := by
  unfold State.laneHeader
  extract_lets +onlyGivenNames v0
  refine keeps_ite ?_ ?_
  · extract_lets +onlyGivenNames v1
    have h2 : Keeps M s0 v1 := keeps_ite ha0 (State.count_keeps (ss hM rfl) (ss hM rfl) ha0)
    try clear_value v1
    extract_lets +onlyGivenNames v3
    exact keeps_ite (State.setLock_keeps (ss hM rfl) h2) (State.setSync_keeps (ss hM rfl) h2)
  · exact State.huntHeader_keeps (ss hM rfl) ha0

theorem doBlockLockLoss_keeps {M : Nat} {s0 : State} {a0 a1 a2 a3} (hM : 6756499289800705 &&& M = 6756499289800705)
    (ha3 : Keeps M s0 a3) : Keeps M s0 (doBlockLockLoss a0 a1 a2 a3) := by
  unfold doBlockLockLoss
  extract_lets +onlyGivenNames v0 v1
  have h2 : Keeps2 M s0 v1 := by
    refine keeps2_foldl ?_ ?_
    · exact keeps2_mk ha3
    · intro _ _ h3
      extract_lets +onlyGivenNames v4
      have h5 : Keeps M s0 v4 := State.laneHeader_keeps (ss hM rfl) (keeps_of2 h3)
      try clear_value v4
      exact keeps2_mk h5
  try clear_value v1
  exact keeps_ite (State.beginRetrain_keeps (ss hM rfl) (keeps_of2 h2)) (keeps_of2 h2)

theorem execBlockLockLoss_keeps {M : Nat} {s0 : State} {a0 a1 a2} (hM : 6756499289800705 &&& M = 6756499289800705)
    (ha2 : Keeps M s0 a2) : KeepsO M s0 (execBlockLockLoss a0 a1 a2) := by
  unfold execBlockLockLoss
  exact keepsO_next (doBlockLockLoss_keeps (ss hM rfl) ha2)

theorem doRetrainDone_keeps {M : Nat} {s0 : State} {a0 a1 a2 a3} (hM : 6756499289800705 &&& M = 6756499289800705)
    (ha3 : Keeps M s0 a3) : Keeps M s0 (doRetrainDone a0 a1 a2 a3) := by
  unfold doRetrainDone
  refine keeps_ite ?_ ?_
  · exact ha3
  · extract_lets +onlyGivenNames v0 v1
    have h2 : Keeps M s0 v1 := State.setLatency_keeps (ss hM rfl) (State.eachLane_keeps (ss hM rfl) ha3 (fun y3 y5 h4
        => State.setLock_keeps (ss hM rfl) h4))
    try clear_value v1
    split
    · exact State.failPort_keeps (ss hM rfl) h2
    · extract_lets +onlyGivenNames v6
      have h7 : Keeps M s0 v6 := State.wr_keeps (ss hM rfl) (offRegs (p := .cas) rfl (ss hM rfl)) h2
      try clear_value v6
      exact keeps_ite (State.failPort_keeps (ss hM rfl) h7) (State.emit_keeps (ss hM rfl) (State.modPort_keeps (ss hM
          rfl) (State.portReady_keeps (ss hM rfl) h7)))

theorem execRetrainDone_keeps {M : Nat} {s0 : State} {a0 a1 a2 a3} (hM : 6756499289800705 &&& M = 6756499289800705)
    (ha3 : Keeps M s0 a3) : KeepsO M s0 (execRetrainDone a0 a1 a2 a3) := by
  unfold execRetrainDone
  exact keepsO_next (doRetrainDone_keeps (ss hM rfl) ha3)

theorem doRetrainTimeout_keeps {M : Nat} {s0 : State} {a0 a1} (hM : 2252899661905921 &&& M = 2252899661905921) (ha1 :
    Keeps M s0 a1) : Keeps M s0 (doRetrainTimeout a0 a1) := by
  unfold doRetrainTimeout
  exact keeps_ite (State.failPort_keeps (ss hM rfl) ha1) ha1

theorem execRetrainTimeout_keeps {M : Nat} {s0 : State} {a0 a1} (hM : 2252899661905921 &&& M = 2252899661905921) (ha1
    : Keeps M s0 a1) : KeepsO M s0 (execRetrainTimeout a0 a1) := by
  unfold execRetrainTimeout
  exact keepsO_next (doRetrainTimeout_keeps (ss hM rfl) ha1)

theorem State.beginExit_keeps {M : Nat} {s0 : State} {a0 a1} (hM : 2257297373396993 &&& M = 2257297373396993) (ha0 :
    Keeps M s0 a0) : Keeps M s0 (State.beginExit a0 a1) := by
  unfold State.beginExit
  split
  · exact State.showUnit_keeps (ss hM rfl) (State.modPort_keeps (ss hM rfl) (State.wr_keeps (ss hM rfl) (offRegs (p
        := .cas) rfl (ss hM rfl)) (State.enterStage_keeps (ss hM rfl) ha0)))
  · exact State.showUnit_keeps (ss hM rfl) (State.modPort_keeps (ss hM rfl) (State.wr_keeps (ss hM rfl) (offRegs (p
        := .cas) rfl (ss hM rfl)) (State.enterStage_keeps (ss hM rfl) (State.lanePll_keeps (ss hM rfl) ha0))))
  · exact ha0

theorem doLanePowerRequest_keeps {M : Nat} {s0 : State} {a0 a1 a2 a3} (hM : 2257297373396993 &&& M =
    2257297373396993) (ha3 : Keeps M s0 a3) : Keeps M s0 (doLanePowerRequest a0 a1 a2 a3) := by
  unfold doLanePowerRequest
  refine keeps_ite ?_ ?_
  · exact State.respond_keeps (ss hM rfl) (State.errReg_keeps (ss hM rfl) ha3)
  · refine keeps_ite ?_ ?_
    · extract_lets +onlyGivenNames v0
      have h1 : Keeps M s0 v0 := State.wr_keeps (ss hM rfl) (offRegs (p := .cas) rfl (ss hM rfl)) ha3
      try clear_value v0
      exact State.respond_keeps (ss hM rfl) (keeps_ite (State.beginExit_keeps (ss hM rfl) (State.emit_keeps (ss hM
          rfl) h1)) h1)
    · refine keeps_ite ?_ ?_
      · exact State.respond_keeps (ss hM rfl) (State.errReg_keeps (ss hM rfl) ha3)
      · extract_lets +onlyGivenNames v2
        have h3 : Keeps M s0 v2 := State.wr_keeps (ss hM rfl) (offRegs (p := .cas) rfl (ss hM rfl)) ha3
        try clear_value v2
        exact State.respond_keeps (ss hM rfl) (keeps_ite (State.emit_keeps (ss hM rfl) h3) h3)

theorem State.powerDown_keeps {M : Nat} {s0 : State} {a0 a1 a2} (hM : 6760897000243201 &&& M = 6760897000243201) (ha0
    : Keeps M s0 a0) : Keeps M s0 (State.powerDown a0 a1 a2) := by
  unfold State.powerDown
  refine keeps_ite ?_ ?_
  · extract_lets +onlyGivenNames v0
    have h1 : Keeps M s0 v0 := keeps_ite ha0 (State.emit_keeps (ss hM rfl) ha0)
    try clear_value v0
    extract_lets +onlyGivenNames v2
    have h3 : Keeps M s0 v2 := keeps_ite (State.lanePll_keeps (ss hM rfl) (State.eachLane_keeps (ss hM rfl) h1 (fun
        y4 y6 h5 => State.wr_keeps (ss hM rfl) (ss hM rfl) h5))) h1
    try clear_value v2
    exact State.showUnit_keeps (ss hM rfl) (State.wr_keeps (ss hM rfl) (offRegs (p := .cas) rfl (ss hM rfl)) h3)
  · exact ha0

theorem doQuiet_keeps {M : Nat} {s0 : State} {a0 a1} (hM : 6760897000243201 &&& M = 6760897000243201) (ha1 : Keeps M
    s0 a1) : Keeps M s0 (doQuiet a0 a1) := by
  unfold doQuiet
  exact State.powerDown_keeps (ss hM rfl) ha1

theorem execQuiet_keeps {M : Nat} {s0 : State} {a0 a1} (hM : 6760897000243201 &&& M = 6760897000243201) (ha1 : Keeps
    M s0 a1) : KeepsO M s0 (execQuiet a0 a1) := by
  unfold execQuiet
  exact keepsO_next (doQuiet_keeps (ss hM rfl) ha1)

theorem doCold_keeps {M : Nat} {s0 : State} {a0 a1} (hM : 6760897000243201 &&& M = 6760897000243201) (ha1 : Keeps M
    s0 a1) : Keeps M s0 (doCold a0 a1) := by
  unfold doCold
  exact State.powerDown_keeps (ss hM rfl) ha1

theorem execCold_keeps {M : Nat} {s0 : State} {a0 a1} (hM : 6760897000243201 &&& M = 6760897000243201) (ha1 : Keeps M
    s0 a1) : KeepsO M s0 (execCold a0 a1) := by
  unfold execCold
  exact keepsO_next (doCold_keeps (ss hM rfl) ha1)

theorem doWakeBurst_keeps {M : Nat} {s0 : State} {a0 a1} (hM : 2257297373396993 &&& M = 2257297373396993) (ha1 :
    Keeps M s0 a1) : Keeps M s0 (doWakeBurst a0 a1) := by
  unfold doWakeBurst
  exact keeps_ite (State.beginExit_keeps (ss hM rfl) (State.wr_keeps (ss hM rfl) (offRegs (p := .cas) rfl (ss hM
      rfl)) ha1)) ha1

theorem execWakeBurst_keeps {M : Nat} {s0 : State} {a0 a1} (hM : 2257297373396993 &&& M = 2257297373396993) (ha1 :
    Keeps M s0 a1) : KeepsO M s0 (execWakeBurst a0 a1) := by
  unfold execWakeBurst
  exact keepsO_next (doWakeBurst_keeps (ss hM rfl) ha1)

theorem State.sendFrame_keeps {M : Nat} {s0 : State} {a0 a1 a2} (hM : 1 &&& M = 1) (ha0 : Keeps M s0 a0) : Keeps M s0
    (State.sendFrame a0 a1 a2) := by
  unfold State.sendFrame
  exact State.emit_keeps (ss hM rfl) ha0

theorem State.sendStatus_keeps {M : Nat} {s0 : State} {a0 a1} (hM : 524289 &&& M = 524289) (ha0 : Keeps M s0 a0) :
    Keeps M s0 (State.sendStatus a0 a1) := by
  unfold State.sendStatus
  extract_lets +onlyGivenNames v0
  exact State.modPort_keeps (ss hM rfl) (State.emit_keeps (ss hM rfl) ha0)

theorem doCascadeFrameSend_keeps {M : Nat} {s0 : State} {a0 a1} (hM : 2252899325837313 &&& M = 2252899325837313) (ha1
    : Keeps M s0 a1) : Keeps M s0 (doCascadeFrameSend a0 a1) := by
  unfold doCascadeFrameSend
  extract_lets +onlyGivenNames v0
  try clear_value v0
  split
  · exact ha1
  · extract_lets +onlyGivenNames v1
    refine keeps_ite ?_ ?_
    · exact ha1
    · extract_lets +onlyGivenNames v2
      have h3 : Keeps M s0 v2 := State.sendFrame_keeps (ss hM rfl) (State.modPort_keeps (ss hM rfl) ha1)
      try clear_value v2
      exact State.wr_keeps (ss hM rfl) (offRegs (p := .cas) rfl (ss hM rfl)) (State.wr_keeps (ss hM rfl) (offRegs (p
          := .cas) rfl (ss hM rfl)) h3)

theorem execCascadeFrameSend_keeps {M : Nat} {s0 : State} {a0 a1} (hM : 2252899325837313 &&& M = 2252899325837313)
    (ha1 : Keeps M s0 a1) : KeepsO M s0 (execCascadeFrameSend a0 a1) := by
  unfold execCascadeFrameSend
  exact keepsO_next (doCascadeFrameSend_keeps (ss hM rfl) ha1)

theorem doCascadeFrameReceive_keeps {M : Nat} {s0 : State} {a0 a1 a2} (hM : 2252899325837313 &&& M =
    2252899325837313) (ha2 : Keeps M s0 a2) : Keeps M s0 (doCascadeFrameReceive a0 a1 a2) := by
  unfold doCascadeFrameReceive
  extract_lets +onlyGivenNames v0
  refine keeps_ite ?_ ?_
  · exact keeps_ite (State.emit_keeps (ss hM rfl) ha2) ha2
  · refine keeps_ite ?_ ?_
    · exact ha2
    · refine keeps_ite ?_ ?_
      · extract_lets +onlyGivenNames v1
        have h2 : Keeps M s0 v1 := State.wr_keeps (ss hM rfl) (offRegs (p := .cas) rfl (ss hM rfl))
            (State.modPort_keeps (ss hM rfl) ha2)
        try clear_value v1
        exact keeps_ite (State.sendStatus_keeps (ss hM rfl) h2) h2
      · exact State.emit_keeps (ss hM rfl) (State.modPort_keeps (ss hM rfl) (State.count_keeps (ss hM rfl) (offRegs
            (p := .cas) rfl (ss hM rfl)) ha2))

theorem execCascadeFrameReceive_keeps {M : Nat} {s0 : State} {a0 a1 a2} (hM : 2252899325837313 &&& M =
    2252899325837313) (ha2 : Keeps M s0 a2) : KeepsO M s0 (execCascadeFrameReceive a0 a1 a2) := by
  unfold execCascadeFrameReceive
  exact keepsO_next (doCascadeFrameReceive_keeps (ss hM rfl) ha2)

theorem doLinkStatus_keeps {M : Nat} {s0 : State} {a0 a1 a2 a3} (hM : 2252899325837312 &&& M = 2252899325837312) (ha3
    : Keeps M s0 a3) : Keeps M s0 (doLinkStatus a0 a1 a2 a3) := by
  unfold doLinkStatus
  extract_lets +onlyGivenNames v0
  exact State.wrSat_keeps (ss hM rfl) (offRegs (p := .cas) rfl (ss hM rfl)) (State.wr_keeps (ss hM rfl) (offRegs (p
      := .cas) rfl (ss hM rfl)) (State.modPort_keeps (ss hM rfl) ha3))

theorem execLinkStatus_keeps {M : Nat} {s0 : State} {a0 a1 a2 a3} (hM : 2252899325837312 &&& M = 2252899325837312)
    (ha3 : Keeps M s0 a3) : KeepsO M s0 (execLinkStatus a0 a1 a2 a3) := by
  unfold execLinkStatus
  exact keepsO_next (doLinkStatus_keeps (ss hM rfl) ha3)

theorem doNak_keeps {M : Nat} {s0 : State} {a0 a1 a2} (hM : 6756499289800705 &&& M = 6756499289800705) (ha2 : Keeps M
    s0 a2) : Keeps M s0 (doNak a0 a1 a2) := by
  unfold doNak
  extract_lets +onlyGivenNames v0
  refine keeps_ite ?_ ?_
  · exact ha2
  · extract_lets +onlyGivenNames v1
    refine keeps_ite ?_ ?_
    · exact State.beginRetrain_keeps (ss hM rfl) (State.modPort_keeps (ss hM rfl) ha2)
    · extract_lets +onlyGivenNames v2 v3
      have h4 : Keeps M s0 v3 := State.emit_keeps (ss hM rfl) (State.modPort_keeps (ss hM rfl) ha2)
      try clear_value v3
      exact State.count_keeps (ss hM rfl) (offRegs (p := .cas) rfl (ss hM rfl)) (keeps_foldl h4 (fun _ _ h5 =>
          State.sendFrame_keeps (ss hM rfl) h5))

theorem execNak_keeps {M : Nat} {s0 : State} {a0 a1 a2} (hM : 6756499289800705 &&& M = 6756499289800705) (ha2 : Keeps
    M s0 a2) : KeepsO M s0 (execNak a0 a1 a2) := by
  unfold execNak
  exact keepsO_next (doNak_keeps (ss hM rfl) ha2)

theorem doReplay_keeps {M : Nat} {s0 : State} {a0 a1} (hM : 524288 &&& M = 524288) (ha1 : Keeps M s0 a1) : Keeps M s0
    (doReplay a0 a1) := by
  unfold doReplay
  exact keeps_ite (State.modPort_keeps (ss hM rfl) ha1) ha1

theorem execReplay_keeps {M : Nat} {s0 : State} {a0 a1 a2} (hM : 524288 &&& M = 524288) (ha2 : Keeps M s0 a2) :
    KeepsO M s0 (execReplay a0 a1 a2) := by
  unfold execReplay
  exact keepsO_next (doReplay_keeps (ss hM rfl) ha2)

theorem State.netAdvance_keeps {M : Nat} {s0 : State} {a0} (hM : 2251799813685248 &&& M = 2251799813685248) (ha0 :
    Keeps M s0 a0) : Keeps M s0 (State.netAdvance a0) := by
  unfold State.netAdvance
  exact keeps_ite (State.wr_keeps (ss hM rfl) (ss hM rfl) ha0) ha0

theorem doNetmapDataWrite_keeps {M : Nat} {s0 : State} {a0 a1 a2} (hM : 2252899325444097 &&& M = 2252899325444097)
    (ha2 : Keeps M s0 a2) : Keeps M s0 (doNetmapDataWrite a0 a1 a2) := by
  unfold doNetmapDataWrite
  extract_lets +onlyGivenNames v0 v1
  exact keeps_ite (State.respond_keeps (ss hM rfl) (State.netAdvance_keeps (ss hM rfl) (State.errReg_keeps (ss hM
      rfl) ha2))) (State.respond_keeps (ss hM rfl) (State.netAdvance_keeps (ss hM rfl) (keeps_mk ha2 rfl (g_netmap :=
      .inl (ss hM rfl)))))

theorem doNetmapDataRead_keeps {M : Nat} {s0 : State} {a0 a1} (hM : 2251799813685249 &&& M = 2251799813685249) (ha1 :
    Keeps M s0 a1) : Keeps M s0 (doNetmapDataRead a0 a1) := by
  unfold doNetmapDataRead
  extract_lets +onlyGivenNames v0
  exact State.respond_keeps (ss hM rfl) (State.netAdvance_keeps (ss hM rfl) ha1)

/-! ## Machine/Recovery.lean -/

theorem State.resEvent_keeps {M : Nat} {s0 : State} {a0 a1 a2 a3} (hM : 9007199254740992 &&& M = 9007199254740992)
    (ha0 : Keeps M s0 a0) : Keeps M s0 (State.resEvent a0 a1 a2 a3) := by
  unfold State.resEvent
  exact State.wr_keeps (ss hM rfl) (ss hM rfl) (State.wr_keeps (ss hM rfl) (ss hM rfl) (State.wr_keeps (ss hM rfl)
      (ss hM rfl) (State.wr_keeps (ss hM rfl) (ss hM rfl) (State.wr_keeps (ss hM rfl) (ss hM rfl) (State.wr_keeps (ss
      hM rfl) (ss hM rfl) (State.wr_keeps (ss hM rfl) (ss hM rfl) ha0))))))

theorem State.countError_keeps {M : Nat} {s0 : State} {a0 a1} (hM : 9007199254740992 &&& M = 9007199254740992) (ha0 :
    Keeps M s0 a0) : Keeps M s0 (State.countError a0 a1) := by
  unfold State.countError
  split
  · exact State.count_keeps (ss hM rfl) (ss hM rfl) ha0
  · exact State.count_keeps (ss hM rfl) (ss hM rfl) ha0
  · exact ha0

theorem State.degraded_keeps {M : Nat} {s0 : State} {a0 a1 a2} (hM : 18692049993729 &&& M = 18692049993729) (ha0 :
    Keeps M s0 a0) : Keeps M s0 (State.degraded a0 a1 a2) := by
  unfold State.degraded
  exact State.logEvent_keeps (ss hM rfl) (State.raise_keeps (ss hM rfl) ha0)

theorem State.spareCounts_keeps {M : Nat} {s0 : State} {a0} (hM : 9007199254740992 &&& M = 9007199254740992) (ha0 :
    Keeps M s0 a0) : Keeps M s0 (State.spareCounts a0) := by
  unfold State.spareCounts
  extract_lets +onlyGivenNames v0
  exact State.wr_keeps (ss hM rfl) (ss hM rfl) (State.wr_keeps (ss hM rfl) (ss hM rfl) ha0)

theorem State.failJoin_keeps {M : Nat} {s0 : State} {a0 a1} (hM : 9008298766369792 &&& M = 9008298766369792) (ha0 :
    Keeps M s0 a0) : Keeps M s0 (State.failJoin a0 a1) := by
  unfold State.failJoin
  exact State.modPart_keeps (ss hM rfl) (State.wr_keeps (ss hM rfl) (ss hM rfl) (State.wr_keeps (ss hM rfl) (offRegs
      (p := .res) rfl (ss hM rfl)) ha0))

theorem State.endJoins_keeps {M : Nat} {s0 : State} {a0 a1} (hM : 9008298766369792 &&& M = 9008298766369792) (ha0 :
    Keeps M s0 a0) : Keeps M s0 (State.endJoins a0 a1) := by
  unfold State.endJoins
  exact keeps_foldl ha0 (fun _ _ h0 => keeps_ite (State.failJoin_keeps (ss hM rfl) h0) h0)

theorem State.unabsorbed_keeps {M : Nat} {s0 : State} {a0 a1 a2 a3} (hM : 155392879195325441 &&& M =
    155392879195325441) (ha0 : Keeps M s0 a0) : Keeps M s0 (State.unabsorbed a0 a1 a2 a3) := by
  unfold State.unabsorbed
  extract_lets +onlyGivenNames v0 v1
  have h2 : Keeps M s0 v1 := State.setState_keeps (ss hM rfl) (State.endJoins_keeps (ss hM rfl) ha0)
  try clear_value v1
  extract_lets +onlyGivenNames v3
  have h4 : Keeps M s0 v3 := keeps_foldl h2 (fun _ _ h5 => State.raise_keeps (ss hM rfl) (State.wr_keeps (ss hM rfl)
      (ss hM rfl) (State.wr64_keeps (ss hM rfl) (ss hM rfl) (ss hM rfl) (State.wr_keeps (ss hM rfl) (ss hM rfl)
      (State.wr_keeps (ss hM rfl) (ss hM rfl) (State.wr_keeps (ss hM rfl) (ss hM rfl) h5))))))
  try clear_value v3
  extract_lets +onlyGivenNames v6
  have h7 : Keeps M s0 v6 := State.modPart_keeps (ss hM rfl) h4
  try clear_value v6
  extract_lets +onlyGivenNames v8
  have h9 : Keeps M s0 v8 := State.logEvent_keeps (ss hM rfl) (State.raise_keeps (ss hM rfl) (State.resEvent_keeps
      (ss hM rfl) h7))
  try clear_value v8
  exact keeps_ite (State.report_keeps (ss hM rfl) h9) h9

theorem State.beginJoin_keeps {M : Nat} {s0 : State} {a0 a1} (hM : 9008298766369792 &&& M = 9008298766369792) (ha0 :
    Keeps M s0 a0) : Keeps M s0 (State.beginJoin a0 a1) := by
  unfold State.beginJoin
  exact State.modPart_keeps (ss hM rfl) (State.wr_keeps (ss hM rfl) (ss hM rfl) (State.wr_keeps (ss hM rfl) (offRegs
      (p := .res) rfl (ss hM rfl)) ha0))

theorem State.autoJoin_keeps {M : Nat} {s0 : State} {a0 a1} (hM : 9008298766369792 &&& M = 9008298766369792) (ha0 :
    Keeps M s0 a0) : Keeps M s0 (State.autoJoin a0 a1) := by
  unfold State.autoJoin
  exact keeps_ite (keeps_ite (State.errReg_keeps (ss hM rfl) ha0) (State.beginJoin_keeps (ss hM rfl) ha0)) ha0

theorem State.dropMember_keeps {M : Nat} {s0 : State} {a0 a1 a2 a3} (hM : 9025891304735745 &&& M = 9025891304735745)
    (ha0 : Keeps M s0 a0) : Keeps M s0 (State.dropMember a0 a1 a2 a3) := by
  unfold State.dropMember
  extract_lets +onlyGivenNames v0 v1
  have h2 : Keeps M s0 v1 := State.modPart_keeps (ss hM rfl) (State.wr_keeps (ss hM rfl) (offRegs (p := .res) rfl (ss
      hM rfl)) ha0)
  try clear_value v1
  extract_lets +onlyGivenNames v3
  have h4 : Keeps M s0 v3 := State.raise_keeps (ss hM rfl) (State.absorbed_keeps (ss hM rfl) (State.resEvent_keeps
      (ss hM rfl) h2))
  try clear_value v3
  extract_lets +onlyGivenNames v5 v6
  have h7 : Keeps M s0 v6 := keeps_ite (State.raise_keeps (ss hM rfl) (State.modPart_keeps (ss hM rfl) h4)) h4
  try clear_value v6
  extract_lets +onlyGivenNames v8
  have h9 : Keeps M s0 v8 := keeps_ite (State.degraded_keeps (ss hM rfl) h7) h7
  try clear_value v8
  exact State.autoJoin_keeps (ss hM rfl) h9

theorem State.restoreRegs_keeps {M : Nat} {s0 : State} {a0 a1 a2} (hM : 33536 &&& M = 33536) (ha0 : Keeps M s0 a0) :
    Keeps M s0 (State.restoreRegs a0 a1 a2) := by
  unfold State.restoreRegs
  extract_lets +onlyGivenNames v0
  exact keeps_mk ha0 rfl (g_orchard := .inl (ss hM rfl)) (g_outbound := .inl (ss hM rfl)) (g_exchAux := .inl (ss hM
      rfl))

theorem State.takeSnapshot_keeps {M : Nat} {s0 : State} {a0 a1 a2} (hM : 297256267456451585 &&& M =
    297256267456451585) (ha0 : Keeps M s0 a0) : Keeps M s0 (State.takeSnapshot a0 a1 a2) := by
  unfold State.takeSnapshot
  extract_lets +onlyGivenNames v0 v1 v2
  have h3 : Keeps M s0 v2 := keeps_foldl ha0 (fun _ _ h4 => State.modBank_keeps (ss hM rfl) (State.wr_keeps (ss hM
      rfl) (ss hM rfl) (State.wr_keeps (ss hM rfl) (ss hM rfl) h4)))
  try clear_value v2
  extract_lets +onlyGivenNames v5
  have h6 : Keeps M s0 v5 := State.modPart_keeps (ss hM rfl) h3
  try clear_value v5
  extract_lets +onlyGivenNames v7
  have h8 : Keeps M s0 v7 := State.wr_keeps (ss hM rfl) (offRegs (p := .res) rfl (ss hM rfl)) (State.wr_keeps (ss hM
      rfl) (offRegs (p := .res) rfl (ss hM rfl)) (State.wr_keeps (ss hM rfl) (offRegs (p := .res) rfl (ss hM rfl))
      (State.wr_keeps (ss hM rfl) (offRegs (p := .res) rfl (ss hM rfl)) (State.wr_keeps (ss hM rfl) (offRegs (p :=
      .res) rfl (ss hM rfl)) h6))))
  try clear_value v7
  exact keeps_ite (State.loseProtection_keeps (ss hM rfl) h8) h8

theorem State.captureRows_keeps {M : Nat} {s0 : State} {a0 a1 a2} (hM : 144 &&& M = 144) (ha0 : Keeps M s0 a0) :
    Keeps M s0 (State.captureRows a0 a1 a2) := by
  unfold State.captureRows
  refine keeps_foldl ?_ ?_
  · exact ha0
  · intro _ _ h0
    refine keeps_foldl ?_ ?_
    · exact h0
    · intro _ _ h1
      extract_lets +onlyGivenNames v2
      exact State.setEcc_keeps (ss hM rfl) (keeps_shadow (ss hM rfl) h1 (SMap.wf_set _ _ _))

theorem State.replayWord_keeps {M : Nat} {s0 : State} {a0 a1 a2 a3 a4} (hM : 297256267456460817 &&& M =
    297256267456460817) (ha0 : Keeps M s0 a0) : Keeps M s0 (State.replayWord a0 a1 a2 a3 a4) := by
  unfold State.replayWord
  split
  · rename_i x0 q1
    have k2 := congrArg (fun p => p.2) q1
    have hx0 : Keeps M s0 x0 := by
      simp only at k2
      rw [← k2]
      exact keeps_of2 (State.directAccess_keeps (ss hM rfl) ha0)
    exact State.writeBank_keeps (ss hM rfl) hx0
  · rename_i x3 q4
    have k5 := congrArg (fun p => p.2) q4
    have hx3 : Keeps M s0 x3 := by
      simp only at k5
      rw [← k5]
      exact keeps_of2 (State.directAccess_keeps (ss hM rfl) ha0)
    exact hx3

theorem State.writeLog_keeps {M : Nat} {s0 : State} {a0 a1 a2} (hM : 297256267456461841 &&& M = 297256267456461841)
    (ha0 : Keeps M s0 a0) : Keeps M s0 (State.writeLog a0 a1 a2) := by
  unfold State.writeLog
  extract_lets +onlyGivenNames v0 v1
  split
  · refine keeps_ite ?_ ?_
    · exact ha0
    · refine keeps_ite ?_ ?_
      · exact State.loseProtection_keeps (ss hM rfl) ha0
      · refine keeps_ite ?_ ?_
        · exact State.loseProtection_keeps (ss hM rfl) ha0
        · extract_lets +onlyGivenNames v2
          have h3 : Keeps M s0 v2 := keeps_foldl ha0 (fun _ _ h4 => State.replayWord_keeps (ss hM rfl) h4)
          try clear_value v2
          exact State.modPart_keeps (ss hM rfl) h3

theorem State.restoreBanks_keeps {M : Nat} {s0 : State} {a0 a1} (hM : 4096 &&& M = 4096) (ha0 : Keeps M s0 a0) :
    Keeps M s0 (State.restoreBanks a0 a1) := by
  unfold State.restoreBanks
  exact keeps_foldl ha0 (fun _ _ h0 => State.modBank_keeps (ss hM rfl) h0)

theorem State.startReplay_keeps {M : Nat} {s0 : State} {a0 a1 a2 a3} (hM : 9008299101983745 &&& M = 9008299101983745)
    (ha0 : Keeps M s0 a0) : Keeps M s0 (State.startReplay a0 a1 a2 a3) := by
  unfold State.startReplay
  extract_lets +onlyGivenNames v0 v1 v2 v3
  have h4 : Keeps M s0 v3 := keeps_ite (State.sampleReplay_keeps (ss hM rfl) ha0) ha0
  try clear_value v3
  exact State.resEvent_keeps (ss hM rfl) (State.modPart_keeps (ss hM rfl) (State.restoreBanks_keeps (ss hM rfl) h4))

theorem State.remapShadow_keeps {M : Nat} {s0 : State} {a0 a1 a2 a3} (hM : 144 &&& M = 144) (ha0 : Keeps M s0 a0) :
    Keeps M s0 (State.remapShadow a0 a1 a2 a3) := by
  unfold State.remapShadow
  exact keeps_foldl ha0 (fun _ _ h0 => State.setEcc_keeps (ss hM rfl) (keeps_shadow (ss hM rfl) h0 (SMap.wf_set _ _
      _)))

theorem SMap.foldl_set_wf {α β : Type} [DecidableEq α] {d : α} {f : β → Nat} {g : β → α} {l : List β} {m : SMap α}
    (h : SMap.wf d m = true) : SMap.wf d (l.foldl (fun m e => SMap.set d m (f e) (g e)) m) = true := by
  induction l generalizing m with
  | nil => exact h
  | cons x r ih => exact ih (SMap.wf_set d _ _ h)

theorem State.remapBerry_keeps {M : Nat} {s0 : State} {a0 a1 a2 a3} (hM : 81083485342662897 &&& M = 81083485342662897) (ha0 : Keeps M s0 a0) : Keeps M s0 (State.remapBerry a0 a1 a2 a3) := by
  unfold State.remapBerry
  extract_lets +onlyGivenNames q s1 words ist hl s3 s4
  have h1 : Keeps M s0 s1 :=
    keeps_foldl ha0 (fun _ _ h => State.setEcc_keeps (ss hM rfl) (keeps_rows (ss hM rfl) h (SMap.wf_set _ _ _)))
  have h3 : Keeps M s0 s3 :=
    State.remapShadow_keeps (ss hM rfl) (keeps_mk (keeps_istore (ss hM rfl) (v := ist) h1 (fun h => SMap.foldl_set_wf (SMap.wf_delRange _ _ _ h))) rfl
      (g_health := .inl (ss hM rfl)))
  have h4 : Keeps M s0 s4 := State.wr_keeps (ss hM rfl) (ss hM rfl) (State.wr_keeps (ss hM rfl) (ss hM rfl) h3)
  exact State.spareCounts_keeps (ss hM rfl) (State.logEvent_keeps (ss hM rfl) (State.raise_keeps (ss hM rfl) h4))

theorem State.errorAlone_keeps {M : Nat} {s0 : State} {a0 a1 a2 a3} (hM : 227450473233323249 &&& M =
    227450473233323249) (ha0 : Keeps M s0 a0) : Keeps M s0 (State.errorAlone a0 a1 a2 a3) := by
  unfold State.errorAlone
  split
  · exact keeps_ite (State.unabsorbed_keeps (ss hM rfl) ha0) (keeps_ite (keeps_ite (State.absorbed_keeps (ss hM rfl)
        (State.startReplay_keeps (ss hM rfl) (State.degraded_keeps (ss hM rfl) (State.remapBerry_keeps (ss hM rfl)
        ha0)))) (State.unabsorbed_keeps (ss hM rfl) ha0)) (State.startReplay_keeps (ss hM rfl) ha0))
  · exact keeps_ite (State.startReplay_keeps (ss hM rfl) ha0) (State.unabsorbed_keeps (ss hM rfl) ha0)

theorem State.readLog_keeps {M : Nat} {s0 s : State} {p b w n} (hM : 288249068201710593 &&& M = 288249068201710593) (h : Keeps M s0 s) : Keeps2 M s0 (s.readLog p b w n) := by
  induction n generalizing s w with
  | zero => exact h
  | succ n ih =>
    unfold State.readLog
    have k := State.readBank_keeps (ss hM rfl) (a1 := b) (a2 := w % bankWords) (a3 := 63) h
    split
    · rename_i v s1 q
      rw [q] at k
      exact ih (show Keeps M s0 s1 from k)
    · rename_i s1 q
      rw [q] at k
      exact ih (State.modPart_keeps (ss hM rfl) (show Keeps M s0 s1 from k))

theorem State.replayInputs_keeps {M : Nat} {s0 : State} {a0 a1} (hM : 288249068201743873 &&& M = 288249068201743873)
    (ha0 : Keeps M s0 a0) : Keeps M s0 (State.replayInputs a0 a1) := by
  unfold State.replayInputs
  split
  · exact ha0
  · extract_lets +onlyGivenNames v0 v1
    refine keeps_ite ?_ ?_
    · extract_lets +onlyGivenNames v2
      have h3 : Keeps M s0 v2 := keeps_foldl ha0 (fun _ _ h4 => keeps_mk h4 rfl (g_outbound := .inl (ss hM rfl)))
      try clear_value v2
      exact State.modPart_keeps (ss hM rfl) (keeps_mk h3 rfl (g_exchAux := .inl (ss hM rfl)))
    · split
      · split
        · rename_i x5 x6 q7
          have k24 := congrArg (fun p => p.2) q7
          have hx6 : Keeps M s0 x6 := by
            simp only at k24
            rw [← k24]
            exact keeps_of2 (State.readLog_keeps (ss hM rfl) ha0)
          extract_lets +onlyGivenNames v8
          try clear_value v8
          split
          · rename_i x9 x10 q11
            have k23 := congrArg (fun p => p.2) q11
            have hx10 : Keeps M s0 x10 := by
              simp only at k23
              rw [← k23]
              exact keeps_of2 (State.readLog_keeps (ss hM rfl) hx6)
            extract_lets +onlyGivenNames v12 v13 v14
            have h15 : Keeps M s0 v14 := by
              refine keeps_foldl ?_ ?_
              · exact hx10
              · intro _ _ h16
                extract_lets +onlyGivenNames v17
                exact keeps_mk h16 rfl (g_outbound := .inl (ss hM rfl))
            try clear_value v14
            extract_lets +onlyGivenNames v18
            have h19 : Keeps M s0 v18 := keeps_foldl h15 (fun _ _ h20 => keeps_mk h20 rfl (g_exchAux := .inl (ss hM
                rfl)))
            try clear_value v18
            extract_lets +onlyGivenNames v21 v22
            exact State.modPart_keeps (ss hM rfl) h19

theorem State.restoreRows_keeps {M : Nat} {s0 : State} {a0 a1 a2} (hM : 80 &&& M = 80) (ha0 : Keeps M s0 a0) : Keeps
    M s0 (State.restoreRows a0 a1 a2) := by
  unfold State.restoreRows
  refine keeps_foldl ?_ ?_
  · exact ha0
  · intro _ _ h0
    refine keeps_foldl ?_ ?_
    · exact h0
    · intro _ _ h1
      refine keeps_foldl ?_ ?_
      · exact h1
      · intro _ _ h2
        extract_lets +onlyGivenNames v3
        exact State.setEcc_keeps (ss hM rfl) (keeps_rows (ss hM rfl) h2 (SMap.wf_set _ _ _))

theorem doRestoreDone_keeps {M : Nat} {s0 : State} {a0 a1} (hM : 443623255347074897 &&& M = 443623255347074897) (ha1
    : Keeps M s0 a1) : Keeps M s0 (doRestoreDone a0 a1) := by
  unfold doRestoreDone
  split
  · exact ha1
  · refine keeps_ite ?_ ?_
    · exact ha1
    · extract_lets +onlyGivenNames v0 v1 v2
      refine keeps_ite ?_ ?_
      · exact State.unabsorbed_keeps (ss hM rfl) ha1
      · extract_lets +onlyGivenNames v3
        have h4 : Keeps M s0 v3 := State.restoreRegs_keeps (ss hM rfl) (State.restoreRows_keeps (ss hM rfl) ha1)
        try clear_value v3
        extract_lets +onlyGivenNames v5
        have h6 : Keeps M s0 v5 := State.modPart_keeps (ss hM rfl) (State.wr64_keeps (ss hM rfl) (ss hM rfl) (ss hM
            rfl) h4)
        try clear_value v5
        exact State.replayInputs_keeps (ss hM rfl) h6

theorem execRestoreDone_keeps {M : Nat} {s0 : State} {a0 a1} (hM : 443623255347074897 &&& M = 443623255347074897)
    (ha1 : Keeps M s0 a1) : KeepsO M s0 (execRestoreDone a0 a1) := by
  unfold execRestoreDone
  exact keepsO_next (doRestoreDone_keeps (ss hM rfl) ha1)

/-! ## Machine/FabricView.lean -/

theorem State.setRegionState_keeps {M : Nat} {s0 : State} {a0 a1 a2} (hM : 18014398509481984 &&& M =
    18014398509481984) (ha0 : Keeps M s0 a0) : Keeps M s0 (State.setRegionState a0 a1 a2) := by
  unfold State.setRegionState
  exact State.wr_keeps (ss hM rfl) (ss hM rfl) ha0

/-! ## Machine/ConfigRecords.lean -/

theorem State.modFab_keeps {M : Nat} {s0 : State} {a0 a1} (hM : 4194304 &&& M = 4194304) (ha0 : Keeps M s0 a0) :
    Keeps M s0 (State.modFab a0 a1) := by
  unfold State.modFab
  exact keeps_mk ha0 rfl (g_fabric := .inl (ss hM rfl))

/-! ## Machine/FabricLogic.lean -/

theorem State.holdRegion_keeps {M : Nat} {s0 : State} {a0 a1} (hM : 4194304 &&& M = 4194304) (ha0 : Keeps M s0 a0) :
    Keeps M s0 (State.holdRegion a0 a1) := by
  unfold State.holdRegion
  exact State.modFab_keeps (ss hM rfl) ha0

theorem State.loadInit_keeps {M : Nat} {s0 : State} {a0 a1} (hM : 4194304 &&& M = 4194304) (ha0 : Keeps M s0 a0) :
    Keeps M s0 (State.loadInit a0 a1) := by
  unfold State.loadInit
  exact State.modFab_keeps (ss hM rfl) ha0

theorem State.clockFabric_keeps {M : Nat} {s0 : State} {a0 a1} (hM : 4194304 &&& M = 4194304) (ha0 : Keeps M s0 a0) :
    Keeps M s0 (State.clockFabric a0 a1) := by
  unfold State.clockFabric
  exact State.modFab_keeps (ss hM rfl) ha0

theorem State.turnTrees_keeps {M : Nat} {s0 : State} {a0} (hM : 36028797023158272 &&& M = 36028797023158272) (ha0 :
    Keeps M s0 a0) : Keeps M s0 (State.turnTrees a0) := by
  unfold State.turnTrees
  extract_lets +onlyGivenNames v0
  have h1 : Keeps M s0 v0 := keeps_foldl ha0 (fun _ _ h2 => keeps_ite (State.wr_keeps (ss hM rfl) (ss hM rfl) h2) h2)
  try clear_value v0
  exact State.modFab_keeps (ss hM rfl) h1

theorem State.fabricClock_keeps {M : Nat} {s0 : State} {a0} (hM : 36028797023158272 &&& M = 36028797023158272) (ha0 :
    Keeps M s0 a0) : Keeps M s0 (State.fabricClock a0) := by
  unfold State.fabricClock
  exact State.turnTrees_keeps (ss hM rfl) (State.clockFabric_keeps (ss hM rfl) ha0)

/-! ## Machine/Orchard.lean -/

theorem State.writeRows_keeps {M : Nat} {s0 : State} {a0 a1 a2 a3} (hM : 80 &&& M = 80) (ha0 : Keeps M s0 a0) : Keeps
    M s0 (State.writeRows a0 a1 a2 a3) := by
  unfold State.writeRows
  refine keeps_foldl ?_ ?_
  · exact ha0
  · intro _ _ h0
    refine keeps_foldl ?_ ?_
    · exact h0
    · intro _ _ h1
      extract_lets +onlyGivenNames v2
      exact State.setEcc_keeps (ss hM rfl) (keeps_rows (ss hM rfl) h1 (SMap.wf_set _ _ _))

theorem State.writeLanes_keeps {M : Nat} {s0 : State} {a0 a1 a2} (hM : 256 &&& M = 256) (ha0 : Keeps M s0 a0) : Keeps
    M s0 (State.writeLanes a0 a1 a2) := by
  unfold State.writeLanes
  extract_lets +onlyGivenNames v0 v1
  have h2 : Keeps M s0 v1 := keeps_foldl ha0 (fun _ _ h3 => keeps_mk h3 rfl (g_orchard := .inl (ss hM rfl)))
  try clear_value v1
  refine keeps_foldl ?_ ?_
  · exact h2
  · intro _ _ h4
    refine keeps_foldl ?_ ?_
    · exact h4
    · intro _ _ h5
      split
      · exact h5
      · refine keeps_ite ?_ ?_
        · extract_lets +onlyGivenNames v6
          exact keeps_mk h5 rfl (g_orchard := .inl (ss hM rfl))
        · exact h5

theorem State.onTick_keeps {M : Nat} {s0 : State} {a0 a1} (hM : 65536 &&& M = 65536) (ha0 : Keeps M s0 a0) : Keeps M
    s0 (State.onTick a0 a1) := by
  unfold State.onTick
  exact keeps_ite (keeps_mk ha0 rfl (g_acq := .inl (ss hM rfl))) (keeps_mk ha0 rfl (g_acq := .inl (ss hM rfl)))

theorem State.writeProbe_keeps {M : Nat} {s0 : State} {a0 a1 a2 a3 a4 a5 a6} (hM : 66560 &&& M = 66560) (ha0 : Keeps
    M s0 a0) : Keeps M s0 (State.writeProbe a0 a1 a2 a3 a4 a5 a6) := by
  unfold State.writeProbe
  exact keeps_ite ha0 (keeps_ite (State.modPart_keeps (ss hM rfl) ha0) (keeps_ite ha0 (keeps_mk ha0 rfl (g_acq :=
      .inl (ss hM rfl)))))

theorem State.writeExch_keeps {M : Nat} {s0 : State} {a0 a1 a2 a3 a4 a5} (hM : 49152 &&& M = 49152) (ha0 : Keeps M s0
    a0) : Keeps M s0 (State.writeExch a0 a1 a2 a3 a4 a5) := by
  unfold State.writeExch
  split
  · refine keeps_ite ?_ ?_
    · extract_lets +onlyGivenNames v0
      exact keeps_mk ha0 rfl (g_exchAux := .inl (ss hM rfl))
    · extract_lets +onlyGivenNames v1
      exact State.setExch_keeps (ss hM rfl) ha0

theorem State.writeDest_keeps {M : Nat} {s0 : State} {a0 a1 a2 a3} (hM : 378624 &&& M = 378624) (ha0 : Keeps M s0 a0)
    : Keeps M s0 (State.writeDest a0 a1 a2 a3) := by
  unfold State.writeDest
  extract_lets +onlyGivenNames v0 v1
  split
  · exact keeps_mk ha0 rfl (g_outbound := .inl (ss hM rfl))
  · refine keeps_ite ?_ ?_
    · extract_lets +onlyGivenNames v2
      exact keeps_mk ha0 rfl (g_slots := .inl (ss hM rfl))
    · exact ha0
  · exact State.writeExch_keeps (ss hM rfl) ha0
  · exact keeps_ite (keeps_mk ha0 rfl (g_orchard := .inl (ss hM rfl))) ha0
  · exact keeps_mk ha0 rfl (g_orchard := .inl (ss hM rfl))
  · exact State.writeProbe_keeps (ss hM rfl) ha0
  · exact ha0

theorem State.localWrite_keeps {M : Nat} {s0 : State} {a0 a1 a2 a3 a4 a5} (hM : 297256267456460817 &&& M =
    297256267456460817) (ha0 : Keeps M s0 a0) : Keeps M s0 (State.localWrite a0 a1 a2 a3 a4 a5) := by
  unfold State.localWrite
  refine keeps_foldl ?_ ?_
  · exact State.clearBankResv_keeps (ss hM rfl) (State.writeBank_keeps (ss hM rfl) ha0)
  · intro _ _ h0
    extract_lets +onlyGivenNames v1
    exact keeps_ite (State.clearBankResv_keeps (ss hM rfl) (State.writeBank_keeps (ss hM rfl) h0)) h0

theorem State.localRead_keeps {M : Nat} {s0 : State} {a0 a1 a2 a3} (hM : 288249068201710849 &&& M =
    288249068201710849) (ha0 : Keeps M s0 a0) : Keeps M s0 (State.localRead a0 a1 a2 a3) := by
  unfold State.localRead
  split
  · rename_i x0 x1 q2
    have k3 := congrArg (fun p => p.2) q2
    have hx1 : Keeps M s0 x1 := by
      simp only at k3
      rw [← k3]
      exact keeps_of2 (State.readBank_keeps (ss hM rfl) ha0)
    exact keeps_mk hx1 rfl (g_orchard := .inl (ss hM rfl))
  · rename_i x4 q5
    have k6 := congrArg (fun p => p.2) q5
    have hx4 : Keeps M s0 x4 := by
      simp only at k6
      rw [← k6]
      exact keeps_of2 (State.readBank_keeps (ss hM rfl) ha0)
    exact State.modPart_keeps (ss hM rfl) hx4

theorem State.localCommand_keeps {M : Nat} {s0 : State} {a0 a1 a2 a3} (hM : 297256267456462097 &&& M =
    297256267456462097) (ha0 : Keeps M s0 a0) : Keeps M s0 (State.localCommand a0 a1 a2 a3) := by
  unfold State.localCommand
  exact keeps_ite (State.localRead_keeps (ss hM rfl) ha0) (State.localWrite_keeps (ss hM rfl) ha0)

theorem State.fireCommand_keeps {M : Nat} {s0 : State} {a0 a1 a2 a3} (hM : 2603099276670156049 &&& M =
    2603099276670156049) (ha0 : Keeps M s0 a0) : Keeps M s0 (State.fireCommand a0 a1 a2 a3) := by
  unfold State.fireCommand
  refine keeps_ite ?_ ?_
  · exact keeps_ite (State.localCommand_keeps (ss hM rfl) ha0) (State.hold_keeps (ss hM rfl) (State.modPart_keeps (ss
        hM rfl) ha0))
  · extract_lets +onlyGivenNames v0
    exact State.quaySend_keeps (ss hM rfl) (State.hold_keeps (ss hM rfl) (State.modPart_keeps (ss hM rfl) ha0))

theorem State.loadReadData_keeps {M : Nat} {s0 : State} {a0 a1} (hM : 256 &&& M = 256) (ha0 : Keeps M s0 a0) : Keeps
    M s0 (State.loadReadData a0 a1) := by
  unfold State.loadReadData
  refine keeps_foldl ?_ ?_
  · exact ha0
  · intro _ _ h0
    split
    · exact keeps_mk h0 rfl (g_orchard := .inl (ss hM rfl))
    · exact h0

theorem State.signRows_keeps {M : Nat} {s0 : State} {a0 a1 a2} (hM : 1024 &&& M = 1024) (ha0 : Keeps M s0 a0) : Keeps
    M s0 (State.signRows a0 a1 a2) := by
  unfold State.signRows
  refine keeps_ite ?_ ?_
  · exact ha0
  · extract_lets +onlyGivenNames v0
    exact State.modPart_keeps (ss hM rfl) ha0

theorem State.copyRowsToJoiners_keeps {M : Nat} {s0 : State} {a0 a1 a2 a3} (hM : 80 &&& M = 80) (ha0 : Keeps M s0 a0)
    : Keeps M s0 (State.copyRowsToJoiners a0 a1 a2 a3) := by
  unfold State.copyRowsToJoiners
  refine keeps_foldl ?_ ?_
  · exact ha0
  · intro _ _ h0
    refine keeps_foldl ?_ ?_
    · exact h0
    · intro _ _ h1
      refine keeps_foldl ?_ ?_
      · exact h1
      · intro _ _ h2
        extract_lets +onlyGivenNames v3
        exact State.setEcc_keeps (ss hM rfl) (keeps_rows (ss hM rfl) h2 (SMap.wf_set _ _ _))

theorem State.stepBreak_keeps {M : Nat} {s0 : State} {a0 a1} (hM : 146368087737762817 &&& M = 146368087737762817)
    (ha0 : Keeps M s0 a0) : Keeps M s0 (State.stepBreak a0 a1) := by
  unfold State.stepBreak
  refine keeps_ite ?_ ?_
  · extract_lets +onlyGivenNames v0
    have h1 : Keeps M s0 v0 := State.raise_keeps (ss hM rfl) (State.modPart_keeps (ss hM rfl) ha0)
    try clear_value v0
    exact keeps_ite (State.requestStop_keeps (ss hM rfl) h1) h1
  · exact ha0

theorem State.execStepOf_keeps {M : Nat} {s0 : State} {a0 a1 a2 a3} (hM : 2749466264561123281 &&& M =
    2749466264561123281) (ha0 : Keeps M s0 a0) : Keeps M s0 (State.execStepOf a0 a1 a2 a3) := by
  unfold State.execStepOf
  extract_lets +onlyGivenNames v0 v1 v2
  have h3 : Keeps M s0 v2 := keeps_ite (State.captureRows_keeps (ss hM rfl) ha0) ha0
  try clear_value v2
  extract_lets +onlyGivenNames v4
  have h5 : Keeps M s0 v4 := State.writeLanes_keeps (ss hM rfl) (State.writeRows_keeps (ss hM rfl) h3)
  try clear_value v4
  extract_lets +onlyGivenNames v6
  have h7 : Keeps M s0 v6 := keeps_foldl h5 (fun _ _ h8 => State.writeDest_keeps (ss hM rfl) h8)
  try clear_value v6
  extract_lets +onlyGivenNames v9
  have h10 : Keeps M s0 v9 := keeps_foldl (State.loadReadData_keeps (ss hM rfl) h7) (fun _ _ h11 =>
      State.fireCommand_keeps (ss hM rfl) h11)
  try clear_value v9
  exact State.copyRowsToJoiners_keeps (ss hM rfl) (State.signRows_keeps (ss hM rfl) (keeps_ite (State.stepBreak_keeps
      (ss hM rfl) h10) h10))

theorem State.countErrors_keeps {M : Nat} {s0 : State} {a0 a1} (hM : 9007199254740992 &&& M = 9007199254740992) (ha0
    : Keeps M s0 a0) : Keeps M s0 (State.countErrors a0 a1) := by
  unfold State.countErrors
  exact keeps_foldl ha0 (fun _ _ h0 => State.countError_keeps (ss hM rfl) h0)

theorem State.countCorrections_keeps {M : Nat} {s0 : State} {a0 a1 a2} (hM : 9025891304734753 &&& M =
    9025891304734753) (ha0 : Keeps M s0 a0) : Keeps M s0 (State.countCorrections a0 a1 a2) := by
  unfold State.countCorrections
  extract_lets +onlyGivenNames v0 v1 v2 v3 v4
  have h5 : Keeps M s0 v4 := State.count_keeps (ss hM rfl) (ss hM rfl) ha0
  try clear_value v4
  extract_lets +onlyGivenNames v6
  have h7 : Keeps M s0 v6 := State.count_keeps (ss hM rfl) (ss hM rfl) h5
  try clear_value v6
  extract_lets +onlyGivenNames v8
  have h9 : Keeps M s0 v8 := keeps_mk h7 rfl (g_istore := .inl (ss hM rfl))
  try clear_value v8
  exact keeps_ite ha0 (State.absorbed_keeps (ss hM rfl) h9)

theorem State.contractFault_keeps {M : Nat} {s0 : State} {a0 a1 a2 a3 a4} (hM : 155375286992503809 &&& M =
    155375286992503809) (ha0 : Keeps M s0 a0) : Keeps M s0 (State.contractFault a0 a1 a2 a3 a4) := by
  unfold State.contractFault
  extract_lets +onlyGivenNames v0 v1
  have h2 : Keeps M s0 v1 := State.wr_keeps (ss hM rfl) (ss hM rfl) (State.wr_keeps (ss hM rfl) (ss hM rfl)
      (State.wr_keeps (ss hM rfl) (ss hM rfl) (State.setState_keeps (ss hM rfl) (State.endJoins_keeps (ss hM rfl)
      ha0))))
  try clear_value v1
  extract_lets +onlyGivenNames v3
  have h4 : Keeps M s0 v3 := State.raise_keeps (ss hM rfl) (State.wr64_keeps (ss hM rfl) (ss hM rfl) (ss hM rfl) h2)
  try clear_value v3
  extract_lets +onlyGivenNames v5
  have h6 : Keeps M s0 v5 := State.modPart_keeps (ss hM rfl) (State.wr_keeps (ss hM rfl) (ss hM rfl) h4)
  try clear_value v5
  exact keeps_ite (State.report_keeps (ss hM rfl) h6) h6

theorem State.countGroup_keeps {M : Nat} {s0 : State} {a0 a1 a2} (hM : 9007199254740992 &&& M = 9007199254740992)
    (ha0 : Keeps M s0 a0) : Keeps M s0 (State.countGroup a0 a1 a2) := by
  unfold State.countGroup
  exact keeps_foldl ha0 (fun _ _ h0 => State.countErrors_keeps (ss hM rfl) h0)

theorem State.countStep_keeps {M : Nat} {s0 : State} {a0 a1} (hM : 1024 &&& M = 1024) (ha0 : Keeps M s0 a0) : Keeps M
    s0 (State.countStep a0 a1) := by
  unfold State.countStep
  exact State.modPart_keeps (ss hM rfl) ha0

theorem State.runMembers_keeps {M : Nat} {s0 : State} {a0 a1 a2 a3} (hM : 2749466264561647601 &&& M =
    2749466264561647601) (ha0 : Keeps M s0 a0) : Keeps M s0 (State.runMembers a0 a1 a2 a3) := by
  unfold State.runMembers
  extract_lets +onlyGivenNames v0
  have h1 : Keeps M s0 v0 := keeps_foldl ha0 (fun _ _ h2 => State.countCorrections_keeps (ss hM rfl) h2)
  try clear_value v0
  extract_lets +onlyGivenNames v3
  have h4 : Keeps M s0 v3 := State.stallEnd_keeps (ss hM rfl) h1
  try clear_value v3
  extract_lets +onlyGivenNames v5
  have h6 : Keeps M s0 v5 := keeps_foldl h4 (fun _ _ h7 => State.execStepOf_keeps (ss hM rfl) h7)
  try clear_value v5
  extract_lets +onlyGivenNames v8 v9 v10
  have h11 : Keeps M s0 v10 := State.modPart_keeps (ss hM rfl) (keeps_ite (State.countStep_keeps (ss hM rfl) h6) h6)
  try clear_value v10
  extract_lets +onlyGivenNames v12
  have h13 : Keeps M s0 v12 := keeps_ite (State.sampleClock_keeps (ss hM rfl) h11) h11
  try clear_value v12
  exact keeps_ite (State.unitStepEnd_keeps (ss hM rfl) h13) h13

theorem State.runStep_keeps {M : Nat} {s0 : State} {a0 a1 a2} (hM : 2821523858599575537 &&& M = 2821523858599575537)
    (ha0 : Keeps M s0 a0) : Keeps M s0 (State.runStep a0 a1 a2) := by
  unfold State.runStep
  extract_lets +onlyGivenNames v0 v1
  try clear_value v1
  split
  · exact State.contractFault_keeps (ss hM rfl) (State.stallEnd_keeps (ss hM rfl) ha0)
  · refine keeps_ite ?_ ?_
    · extract_lets +onlyGivenNames v2
      refine keeps_ite ?_ ?_
      · try clear_value v2
        split
        · exact State.unabsorbed_keeps (ss hM rfl) (State.countGroup_keeps (ss hM rfl) (State.stallEnd_keeps (ss hM
              rfl) ha0))
        · exact ha0
      · extract_lets +onlyGivenNames v3
        have h4 : Keeps M s0 v3 := keeps_foldl (State.countGroup_keeps (ss hM rfl) ha0) (fun _ _ h5 =>
            State.dropMember_keeps (ss hM rfl) h5)
        try clear_value v3
        exact State.runMembers_keeps (ss hM rfl) h4
    · split
      · extract_lets +onlyGivenNames v6
        exact State.stallBegin_keeps (ss hM rfl) (State.hold_keeps (ss hM rfl) (State.resEvent_keeps (ss hM rfl)
            (State.countErrors_keeps (ss hM rfl) ha0)))
      · split
        · exact State.errorAlone_keeps (ss hM rfl) (State.modPart_keeps (ss hM rfl) (State.countErrors_keeps (ss hM
              rfl) (State.stallEnd_keeps (ss hM rfl) ha0)))
        · exact State.runMembers_keeps (ss hM rfl) ha0

theorem State.replayDeliver_keeps {M : Nat} {s0 : State} {a0 a1 a2} (hM : 263168 &&& M = 263168) (ha0 : Keeps M s0
    a0) : Keeps M s0 (State.replayDeliver a0 a1 a2) := by
  unfold State.replayDeliver
  split
  · exact ha0
  · extract_lets +onlyGivenNames v0 v1
    have h2 : Keeps M s0 v1 := by
      refine keeps_foldl ?_ ?_
      · exact ha0
      · intro _ _ h3
        extract_lets +onlyGivenNames v4
        exact keeps_mk h3 rfl (g_slots := .inl (ss hM rfl))
    try clear_value v1
    exact State.modPart_keeps (ss hM rfl) h2

theorem State.receive_keeps {M : Nat} {s0 : State} {a0 a1 a2} (hM : 2252899662169089 &&& M = 2252899662169089) (ha0 :
    Keeps M s0 a0) : Keeps M s0 (State.receive a0 a1 a2) := by
  unfold State.receive
  refine keeps_ite ?_ ?_
  · exact State.replayDeliver_keeps (ss hM rfl) ha0
  · extract_lets +onlyGivenNames v0
    have h1 : Keeps M s0 v0 := State.deliverAll_keeps (ss hM rfl) ha0
    try clear_value v0
    refine keeps_ite ?_ ?_
    · extract_lets +onlyGivenNames v2
      exact State.modPart_keeps (ss hM rfl) h1
    · exact h1

theorem State.betweenCycles_keeps {M : Nat} {s0 : State} {a0 a1} (hM : 144116287923028993 &&& M = 144116287923028993)
    (ha0 : Keeps M s0 a0) : Keeps M s0 (State.betweenCycles a0 a1) := by
  unfold State.betweenCycles
  exact keeps_ite ha0 (keeps_ite (State.stallBegin_keeps (ss hM rfl) ha0) (keeps_ite (State.stallEnd_keeps (ss hM
      rfl) ha0) ha0))

theorem State.sampleInbound_keeps {M : Nat} {s0 : State} {a0 a1 a2} (hM : 512 &&& M = 512) (ha0 : Keeps M s0 a0) :
    Keeps M s0 (State.sampleInbound a0 a1 a2) := by
  unfold State.sampleInbound
  extract_lets +onlyGivenNames v0
  have h1 : Keeps M s0 v0 := keeps_foldl ha0 (fun _ _ h2 => keeps_mk h2 rfl (g_outbound := .inl (ss hM rfl)))
  try clear_value v0
  exact keeps_foldl h1 (fun _ _ h3 => keeps_mk h3 rfl (g_outbound := .inl (ss hM rfl)))

theorem State.captureInbound_keeps {M : Nat} {s0 : State} {a0 a1 a2} (hM : 512 &&& M = 512) (ha0 : Keeps M s0 a0) :
    Keeps M s0 (State.captureInbound a0 a1 a2) := by
  unfold State.captureInbound
  exact keeps_foldl (State.sampleInbound_keeps (ss hM rfl) ha0) (fun _ _ h0 => keeps_mk h0 rfl (g_outbound := .inl
      (ss hM rfl)))

theorem State.takeRelease_keeps {M : Nat} {s0 : State} {a0 a1 a2} (hM : 441371455532307969 &&& M =
    441371455532307969) (ha0 : Keeps M s0 a0) : Keeps M s0 (State.takeRelease a0 a1 a2) := by
  unfold State.takeRelease
  extract_lets +onlyGivenNames v0 v1
  have h2 : Keeps M s0 v1 := keeps_ite (State.setState_keeps (ss hM rfl) ha0) ha0
  try clear_value v1
  extract_lets +onlyGivenNames v3
  have h4 : Keeps M s0 v3 := State.modPart_keeps (ss hM rfl) (State.captureInbound_keeps (ss hM rfl) h2)
  try clear_value v3
  extract_lets +onlyGivenNames v5
  have h6 : Keeps M s0 v5 := State.modPart_keeps (ss hM rfl) h4
  try clear_value v5
  extract_lets +onlyGivenNames v7
  have h8 : Keeps M s0 v7 := keeps_ite (State.takeSnapshot_keeps (ss hM rfl) h6) h6
  try clear_value v7
  exact keeps_foldl h8 (fun _ _ h9 => State.modPart_keeps (ss hM rfl) h9)

theorem State.takePending_keeps {M : Nat} {s0 : State} {a0 a1 a2} (hM : 441371455532307969 &&& M =
    441371455532307969) (ha0 : Keeps M s0 a0) : Keeps M s0 (State.takePending a0 a1 a2) := by
  unfold State.takePending
  exact keeps_ite (State.takeRelease_keeps (ss hM rfl) (State.wr_keeps (ss hM rfl) (ss hM rfl) ha0)) ha0

theorem State.stepTick_keeps {M : Nat} {s0 : State} {a0 a1} (hM : 2821523858599575537 &&& M = 2821523858599575537)
    (ha0 : Keeps M s0 a0) : Keeps M s0 (State.stepTick a0 a1) := by
  unfold State.stepTick
  extract_lets +onlyGivenNames v0
  exact keeps_ite (State.betweenCycles_keeps (ss hM rfl) ha0) (keeps_ite ha0 (keeps_ite ha0 (keeps_ite
      (State.stallBegin_keeps (ss hM rfl) ha0) (keeps_ite (State.stallBegin_keeps (ss hM rfl) ha0)
      (State.runStep_keeps (ss hM rfl) (keeps_ite (State.receive_keeps (ss hM rfl) ha0) ha0))))))

theorem doStep_keeps {M : Nat} {s0 : State} {a0 a1 a2} (hM : 2821523858599575537 &&& M = 2821523858599575537) (ha2 :
    Keeps M s0 a2) : Keeps M s0 (doStep a0 a1 a2) := by
  unfold doStep
  extract_lets +onlyGivenNames v0
  have h1 : Keeps M s0 v0 := State.upset_keeps (ss hM rfl) (State.onTick_keeps (ss hM rfl) ha2)
  try clear_value v0
  extract_lets +onlyGivenNames v2
  have h3 : Keeps M s0 v2 := keeps_ite h1 (State.takePending_keeps (ss hM rfl) h1)
  try clear_value v2
  exact State.unitTick_keeps (ss hM rfl) (State.stepTick_keeps (ss hM rfl) h3)

theorem execStep_keeps {M : Nat} {s0 : State} {a0 a1 a2} (hM : 2821523858599575537 &&& M = 2821523858599575537) (ha2
    : Keeps M s0 a2) : KeepsO M s0 (execStep a0 a1 a2) := by
  unfold execStep
  exact keepsO_next (doStep_keeps (ss hM rfl) ha2)

theorem State.beginCycle_keeps {M : Nat} {s0 : State} {a0 a1 a2} (hM : 441371455532307969 &&& M = 441371455532307969)
    (ha0 : Keeps M s0 a0) : Keeps M s0 (State.beginCycle a0 a1 a2) := by
  unfold State.beginCycle
  extract_lets +onlyGivenNames v0
  have h1 : Keeps M s0 v0 := State.takeRelease_keeps (ss hM rfl) ha0
  try clear_value v0
  exact keeps_ite (State.stallBegin_keeps (ss hM rfl) h1) h1

theorem State.release_keeps {M : Nat} {s0 : State} {a0 a1 a2} (hM : 441371455532307969 &&& M = 441371455532307969)
    (ha0 : Keeps M s0 a0) : Keeps M s0 (State.release a0 a1 a2) := by
  unfold State.release
  exact keeps_ite ha0 (keeps_ite (State.beginCycle_keeps (ss hM rfl) ha0) (keeps_ite (keeps_ite
      (State.missRelease_keeps (ss hM rfl) (State.takePending_keeps (ss hM rfl) ha0)) (State.beginCycle_keeps (ss hM
      rfl) ha0)) (keeps_ite (State.missRelease_keeps (ss hM rfl) ha0) ha0)))

theorem State.timerRelease_keeps {M : Nat} {s0 : State} {a0 a1 a2} (hM : 441371455532307969 &&& M =
    441371455532307969) (ha0 : Keeps M s0 a0) : Keeps M s0 (State.timerRelease a0 a1 a2) := by
  unfold State.timerRelease
  exact keeps_ite (State.release_keeps (ss hM rfl) (State.modPart_keeps (ss hM rfl) ha0)) ha0

theorem doTimerInstant_keeps {M : Nat} {s0 : State} {a0 a1 a2} (hM : 441371455532307969 &&& M = 441371455532307969)
    (ha2 : Keeps M s0 a2) : Keeps M s0 (doTimerInstant a0 a1 a2) := by
  unfold doTimerInstant
  exact keeps_ite (State.timerRelease_keeps (ss hM rfl) ha2) ha2

theorem execTimerInstant_keeps {M : Nat} {s0 : State} {a0 a1 a2} (hM : 441371455532307969 &&& M = 441371455532307969)
    (ha2 : Keeps M s0 a2) : KeepsO M s0 (execTimerInstant a0 a1 a2) := by
  unfold execTimerInstant
  exact keepsO_next (doTimerInstant_keeps (ss hM rfl) ha2)

theorem doCycleRelease_keeps {M : Nat} {s0 : State} {a0 a1 a2} (hM : 441371455532307969 &&& M = 441371455532307969)
    (ha2 : Keeps M s0 a2) : Keeps M s0 (doCycleRelease a0 a1 a2) := by
  unfold doCycleRelease
  split
  · exact keeps_ite (State.release_keeps (ss hM rfl) ha2) ha2
  · exact doTimerInstant_keeps (ss hM rfl) ha2
  · exact keeps_ite ha2 (State.release_keeps (ss hM rfl) (State.modPart_keeps (ss hM rfl) ha2))
  · exact keeps_ite (State.release_keeps (ss hM rfl) ha2) ha2

theorem execCycleRelease_keeps {M : Nat} {s0 : State} {a0 a1 a2} (hM : 441371455532307969 &&& M = 441371455532307969)
    (ha2 : Keeps M s0 a2) : KeepsO M s0 (execCycleRelease a0 a1 a2) := by
  unfold execCycleRelease
  exact keepsO_next (doCycleRelease_keeps (ss hM rfl) ha2)

theorem doReleaseLineEdge_keeps {M : Nat} {s0 : State} {a0 a1 a2} (hM : 68720526337 &&& M = 68720526337) (ha2 : Keeps
    M s0 a2) : Keeps M s0 (doReleaseLineEdge a0 a1 a2) := by
  unfold doReleaseLineEdge
  refine keeps_ite ?_ ?_
  · exact ha2
  · refine keeps_ite ?_ ?_
    · exact keeps_mk ha2 rfl (g_debug := .inl (ss hM rfl))
    · extract_lets +onlyGivenNames v0
      have h1 : Keeps M s0 v0 := keeps_foldl ha2 (fun _ _ h2 => keeps_ite (State.modPart_keeps (ss hM rfl) h2) h2)
      try clear_value v0
      exact keeps_ite (State.issueOrder_keeps (ss hM rfl) h1) h1

theorem execReleaseLineEdge_keeps {M : Nat} {s0 : State} {a0 a1 a2} (hM : 68720526337 &&& M = 68720526337) (ha2 :
    Keeps M s0 a2) : KeepsO M s0 (execReleaseLineEdge a0 a1 a2) := by
  unfold execReleaseLineEdge
  exact keepsO_next (doReleaseLineEdge_keeps (ss hM rfl) ha2)

theorem State.presentFabric_keeps {M : Nat} {s0 : State} {a0 a1} (hM : 512 &&& M = 512) (ha0 : Keeps M s0 a0) : Keeps
    M s0 (State.presentFabric a0 a1) := by
  unfold State.presentFabric
  refine keeps_ite ?_ ?_
  · exact ha0
  · refine keeps_foldl ?_ ?_
    · exact ha0
    · intro _ _ h0
      extract_lets +onlyGivenNames v1
      exact keeps_mk h0 rfl (g_outbound := .inl (ss hM rfl))

theorem State.exchBoundary_keeps {M : Nat} {s0 : State} {a0 a1} (hM : 144115188075872256 &&& M = 144115188075872256)
    (ha0 : Keeps M s0 a0) : Keeps M s0 (State.exchBoundary a0 a1) := by
  unfold State.exchBoundary
  split
  · extract_lets +onlyGivenNames v0 v1
    have h2 : Keeps M s0 v1 := State.wr_keeps (ss hM rfl) (ss hM rfl) ha0
    try clear_value v1
    refine keeps_foldl ?_ ?_
    · exact h2
    · intro _ _ h3
      refine keeps_ite ?_ ?_
      · extract_lets +onlyGivenNames v4
        exact State.setExch_keeps (ss hM rfl) (State.setExch_keeps (ss hM rfl) (State.setExch_keeps (ss hM rfl) h3))
      · exact h3

theorem State.releaseIsolation_keeps {M : Nat} {s0 : State} {a0 a1} (hM : 144115188075922432 &&& M =
    144115188075922432) (ha0 : Keeps M s0 a0) : Keeps M s0 (State.releaseIsolation a0 a1) := by
  unfold State.releaseIsolation
  refine keeps_ite ?_ ?_
  · exact ha0
  · extract_lets +onlyGivenNames v0 v1
    have h2 : Keeps M s0 v1 := by
      refine keeps_foldl ?_ ?_
      · exact ha0
      · intro _ _ h3
        extract_lets +onlyGivenNames v4
        exact keeps_mk h3 rfl (g_acq := .inl (ss hM rfl))
    try clear_value v1
    exact State.modPart_keeps (ss hM rfl) (keeps_foldl h2 (fun _ _ h5 => State.wr_keeps (ss hM rfl) (ss hM rfl) h5))

theorem State.compareSignatures_keeps {M : Nat} {s0 : State} {a0 a1} (hM : 9025891304735745 &&& M = 9025891304735745)
    (ha0 : Keeps M s0 a0) : Keeps M s0 (State.compareSignatures a0 a1) := by
  unfold State.compareSignatures
  extract_lets +onlyGivenNames v0 v1 v2 v3 v4
  have h5 : ∀ y6, Keeps M s0 (v4 y6) := fun y6 => State.raise_keeps (ss hM rfl) (State.dropMember_keeps (ss hM rfl)
      ha0)
  try clear_value v4
  extract_lets +onlyGivenNames v7
  have h8 : Keeps M s0 v7 := State.resEvent_keeps (ss hM rfl) (State.logEvent_keeps (ss hM rfl) (State.raise_keeps
      (ss hM rfl) ha0))
  try clear_value v7
  split
  · exact keeps_ite ha0 (keeps_ite (h5 _ ) (keeps_ite (h5 _ ) (keeps_ite (h5 _ ) h8)))
  · exact keeps_ite ha0 h8
  · exact ha0

theorem State.finishJoins_keeps {M : Nat} {s0 : State} {a0 a1} (hM : 9025891304769281 &&& M = 9025891304769281) (ha0
    : Keeps M s0 a0) : Keeps M s0 (State.finishJoins a0 a1) := by
  unfold State.finishJoins
  refine keeps_foldl ?_ ?_
  · exact ha0
  · intro _ _ h0
    refine keeps_ite ?_ ?_
    · extract_lets +onlyGivenNames v1 v2
      have h3 : Keeps M s0 v2 := by
        refine keeps_foldl ?_ ?_
        · exact h0
        · intro _ _ h4
          extract_lets +onlyGivenNames v5 v6
          have h7 : Keeps M s0 v6 := keeps_mk h4 rfl (g_orchard := .inl (ss hM rfl)) (g_outbound := .inl (ss hM rfl))
          try clear_value v6
          exact keeps_foldl h7 (fun _ _ h8 => keeps_mk h8 rfl (g_orchard := .inl (ss hM rfl)))
      try clear_value v2
      extract_lets +onlyGivenNames v9
      have h10 : Keeps M s0 v9 := keeps_foldl h3 (fun _ _ h11 => keeps_mk h11 rfl (g_exchAux := .inl (ss hM rfl)))
      try clear_value v9
      exact State.absorbed_keeps (ss hM rfl) (State.raise_keeps (ss hM rfl) (State.modPart_keeps (ss hM rfl)
          (State.wr_keeps (ss hM rfl) (ss hM rfl) (State.wr_keeps (ss hM rfl) (offRegs (p := .res) rfl (ss hM rfl))
          h10))))
    · exact h0

theorem State.enterStopped_keeps {M : Nat} {s0 : State} {a0 a1 a2} (hM : 144116287923028993 &&& M =
    144116287923028993) (ha0 : Keeps M s0 a0) : Keeps M s0 (State.enterStopped a0 a1 a2) := by
  unfold State.enterStopped
  exact State.raise_keeps (ss hM rfl) (State.modPart_keeps (ss hM rfl) (State.wr_keeps (ss hM rfl) (ss hM rfl)
      (State.wr_keeps (ss hM rfl) (ss hM rfl) (State.wr_keeps (ss hM rfl) (ss hM rfl) (State.setState_keeps (ss hM
      rfl) ha0)))))

theorem State.stopNow_keeps {M : Nat} {s0 : State} {a0 a1 a2} (hM : 144116287923028993 &&& M = 144116287923028993)
    (ha0 : Keeps M s0 a0) : Keeps M s0 (State.stopNow a0 a1 a2) := by
  unfold State.stopNow
  exact keeps_ite (State.modPart_keeps (ss hM rfl) (State.wr_keeps (ss hM rfl) (ss hM rfl) (State.wr_keeps (ss hM
      rfl) (ss hM rfl) (State.wr_keeps (ss hM rfl) (ss hM rfl) ha0)))) (State.enterStopped_keeps (ss hM rfl) ha0)

theorem State.unitIdle_keeps {M : Nat} {s0 : State} {a0} (hM : 2251799814733824 &&& M = 2251799814733824) (ha0 :
    Keeps M s0 a0) : Keeps M s0 (State.unitIdle a0) := by
  unfold State.unitIdle
  exact keeps_ite (State.showUnit_keeps (ss hM rfl) (State.modCas_keeps (ss hM rfl) ha0)) ha0

theorem State.replayBoundary_keeps {M : Nat} {s0 : State} {a0 a1} (hM : 441371455532340737 &&& M =
    441371455532340737) (ha0 : Keeps M s0 a0) : Keeps M s0 (State.replayBoundary a0 a1) := by
  unfold State.replayBoundary
  extract_lets +onlyGivenNames v0 v1
  have h2 : Keeps M s0 v1 := State.modPart_keeps (ss hM rfl) (State.wr64_keeps (ss hM rfl) (ss hM rfl) (ss hM rfl)
      ha0)
  try clear_value v1
  extract_lets +onlyGivenNames v3
  have h4 : Keeps M s0 v3 := keeps_ite (State.wr_keeps (ss hM rfl) (offRegs (p := .res) rfl (ss hM rfl))
      (State.wr_keeps (ss hM rfl) (offRegs (p := .res) rfl (ss hM rfl)) h2)) h2
  try clear_value v3
  exact State.replayInputs_keeps (ss hM rfl) h4

theorem State.endReplay_keeps {M : Nat} {s0 : State} {a0 a1} (hM : 9025891304735745 &&& M = 9025891304735745) (ha0 :
    Keeps M s0 a0) : Keeps M s0 (State.endReplay a0 a1) := by
  unfold State.endReplay
  split
  · exact ha0
  · exact State.absorbed_keeps (ss hM rfl) (State.modPart_keeps (ss hM rfl) (State.wrSat_keeps (ss hM rfl) (ss hM
        rfl) ha0))

theorem State.makeBoundary_keeps {M : Nat} {s0 : State} {a0 a1 a2} (hM : 443623255347166993 &&& M =
    443623255347166993) (ha0 : Keeps M s0 a0) : Keeps M s0 (State.makeBoundary a0 a1 a2) := by
  unfold State.makeBoundary
  extract_lets +onlyGivenNames v0 v1
  have h2 : Keeps M s0 v1 := keeps_ite (State.sampleClock_keeps (ss hM rfl) ha0) ha0
  try clear_value v1
  extract_lets +onlyGivenNames v3
  have h4 : Keeps M s0 v3 := keeps_ite (State.writeLog_keeps (ss hM rfl) h2) h2
  try clear_value v3
  extract_lets +onlyGivenNames v5
  have h6 : Keeps M s0 v5 := State.exchBoundary_keeps (ss hM rfl) (State.presentFabric_keeps (ss hM rfl) h4)
  try clear_value v5
  extract_lets +onlyGivenNames v7
  have h8 : Keeps M s0 v7 := keeps_ite (State.compareSignatures_keeps (ss hM rfl) h6) h6
  try clear_value v7
  extract_lets +onlyGivenNames v9
  have h10 : Keeps M s0 v9 := State.releaseIsolation_keeps (ss hM rfl) h8
  try clear_value v9
  extract_lets +onlyGivenNames v11
  have h12 : Keeps M s0 v11 := State.endReplay_keeps (ss hM rfl) (keeps_ite h10 (State.sampleClock_keeps (ss hM rfl)
      h10))
  try clear_value v11
  extract_lets +onlyGivenNames v13
  have h14 : Keeps M s0 v13 := keeps_ite (State.wr_keeps (ss hM rfl) (offRegs (p := .res) rfl (ss hM rfl))
      (State.wr_keeps (ss hM rfl) (offRegs (p := .res) rfl (ss hM rfl)) h12)) h12
  try clear_value v13
  extract_lets +onlyGivenNames v15
  have h16 : Keeps M s0 v15 := State.raise_keeps (ss hM rfl) (State.wr64_keeps (ss hM rfl) (ss hM rfl) (ss hM rfl)
      (State.finishJoins_keeps (ss hM rfl) h14))
  try clear_value v15
  extract_lets +onlyGivenNames v17
  have h18 : Keeps M s0 v17 := State.modPart_keeps (ss hM rfl) h16
  try clear_value v17
  extract_lets +onlyGivenNames v19
  have h20 : Keeps M s0 v19 := keeps_ite (State.takeSnapshot_keeps (ss hM rfl) h18) h18
  try clear_value v19
  exact keeps_ite (State.unitIdle_keeps (ss hM rfl) (State.stopNow_keeps (ss hM rfl) h20)) (State.takePending_keeps
      (ss hM rfl) (State.modPart_keeps (ss hM rfl) h20))

theorem doCycleBoundary_keeps {M : Nat} {s0 : State} {a0 a1 a2} (hM : 443623255347166993 &&& M = 443623255347166993)
    (ha2 : Keeps M s0 a2) : Keeps M s0 (doCycleBoundary a0 a1 a2) := by
  unfold doCycleBoundary
  extract_lets +onlyGivenNames v0
  refine keeps_ite ?_ ?_
  · exact ha2
  · refine keeps_ite ?_ ?_
    · exact ha2
    · refine keeps_ite ?_ ?_
      · exact State.stallBegin_keeps (ss hM rfl) ha2
      · extract_lets +onlyGivenNames v1
        have h2 : Keeps M s0 v1 := keeps_ite (State.stallEnd_keeps (ss hM rfl) ha2) ha2
        try clear_value v1
        try clear_value v0
        split
        · exact keeps_ite (State.makeBoundary_keeps (ss hM rfl) h2) (State.replayBoundary_keeps (ss hM rfl) h2)
        · exact State.makeBoundary_keeps (ss hM rfl) h2

theorem execCycleBoundary_keeps {M : Nat} {s0 : State} {a0 a1 a2} (hM : 443623255347166993 &&& M =
    443623255347166993) (ha2 : Keeps M s0 a2) : KeepsO M s0 (execCycleBoundary a0 a1 a2) := by
  unfold execCycleBoundary
  exact keepsO_next (doCycleBoundary_keeps (ss hM rfl) ha2)

theorem State.memWaitsOver_keeps {M : Nat} {s0 : State} {a0 a1} (hM : 1024 &&& M = 1024) (ha0 : Keeps M s0 a0) :
    Keeps M s0 (State.memWaitsOver a0 a1) := by
  unfold State.memWaitsOver
  extract_lets +onlyGivenNames v0 v1 v2
  have h3 : Keeps M s0 v2 := keeps_ite ha0 (State.unhold_keeps (ss hM rfl) ha0)
  try clear_value v2
  exact keeps_ite h3 (State.unhold_keeps (ss hM rfl) h3)

theorem doFarTransferComplete_keeps {M : Nat} {s0 : State} {a0 a1 a2 a3 a4} (hM : 2305844109060867329 &&& M =
    2305844109060867329) (ha4 : Keeps M s0 a4) : Keeps M s0 (doFarTransferComplete a0 a1 a2 a3 a4) := by
  unfold doFarTransferComplete
  split
  · exact State.quayTake_keeps (ss hM rfl) ha4
  · extract_lets +onlyGivenNames v0
    have h1 : Keeps M s0 v0 := State.modPart_keeps (ss hM rfl) ha4
    try clear_value v0
    extract_lets +onlyGivenNames v2
    have h3 : Keeps M s0 v2 := keeps_ite (keeps_mk h1 rfl (g_orchard := .inl (ss hM rfl))) (keeps_ite
        (State.modPart_keeps (ss hM rfl) h1) h1)
    try clear_value v2
    exact State.quayTake_keeps (ss hM rfl) (State.memWaitsOver_keeps (ss hM rfl) h3)

theorem execFarTransferComplete_keeps {M : Nat} {s0 : State} {a0 a1 a2 a3 a4} (hM : 2305844109060867329 &&& M =
    2305844109060867329) (ha4 : Keeps M s0 a4) : KeepsO M s0 (execFarTransferComplete a0 a1 a2 a3 a4) := by
  unfold execFarTransferComplete
  exact keepsO_next (doFarTransferComplete_keeps (ss hM rfl) ha4)

theorem State.serveLocal_keeps {M : Nat} {s0 : State} {a0 a1} (hM : 297256267456462097 &&& M = 297256267456462097)
    (ha0 : Keeps M s0 a0) : Keeps M s0 (State.serveLocal a0 a1) := by
  unfold State.serveLocal
  refine keeps_ite ?_ ?_
  · extract_lets +onlyGivenNames v0
    try clear_value v0
    split
    · refine keeps_ite ?_ ?_
      · exact ha0
      · extract_lets +onlyGivenNames v1
        have h2 : Keeps M s0 v1 := State.modPart_keeps (ss hM rfl) ha0
        try clear_value v1
        exact State.memWaitsOver_keeps (ss hM rfl) (keeps_foldl h2 (fun _ _ h3 => State.localCommand_keeps (ss hM
            rfl) h3))
  · exact ha0

theorem doHandoverComplete_keeps {M : Nat} {s0 : State} {a0 a1} (hM : 297256267456462097 &&& M = 297256267456462097)
    (ha1 : Keeps M s0 a1) : Keeps M s0 (doHandoverComplete a0 a1) := by
  unfold doHandoverComplete
  refine keeps_ite ?_ ?_
  · extract_lets +onlyGivenNames v0
    have h1 : Keeps M s0 v0 := State.wr_keeps (ss hM rfl) (ss hM rfl) (State.wr_keeps (ss hM rfl) (ss hM rfl)
        (State.wr_keeps (ss hM rfl) (ss hM rfl) ha1))
    try clear_value v0
    exact State.serveLocal_keeps (ss hM rfl) (State.raise_keeps (ss hM rfl) h1)
  · exact ha1

theorem execHandoverComplete_keeps {M : Nat} {s0 : State} {a0 a1} (hM : 297256267456462097 &&& M =
    297256267456462097) (ha1 : Keeps M s0 a1) : KeepsO M s0 (execHandoverComplete a0 a1) := by
  unfold execHandoverComplete
  exact keepsO_next (doHandoverComplete_keeps (ss hM rfl) ha1)

end Sys2Proof.Machine
end

