-- ==== Sys2Proof/Laws/Keeps2.lean ====
section
/-! SUPPORT. Laws/Keeps2.lean: what the operations of Machine/Partition.lean, Machine/CascadeOrders.lean, Machine/CoreTrace.lean, Machine/CoreMem.lean, Machine/CoreIssue.lean, Machine/Acq.lean
keep of a state. -/

namespace Sys2Proof.Machine
set_option Elab.async false
open Sys2Proof

/-! ## Machine/Partition.lean -/

theorem State.clearExch_keeps {M : Nat} {s0 : State} {a0 a1 a2} (hM : 16384 &&& M = 16384) (ha0 : Keeps M s0 a0) :
    Keeps M s0 (State.clearExch a0 a1 a2) := by
  unfold State.clearExch
  exact State.setExch_keeps (ss hM rfl) (State.setExch_keeps (ss hM rfl) (State.setExch_keeps (ss hM rfl)
      (State.setExch_keeps (ss hM rfl) ha0)))

theorem State.captureExch_keeps {M : Nat} {s0 : State} {a0 a1 a2 a3} (hM : 32768 &&& M = 32768) (ha0 : Keeps M s0 a0)
    : Keeps M s0 (State.captureExch a0 a1 a2 a3) := by
  unfold State.captureExch
  extract_lets +onlyGivenNames v0 v1
  exact keeps_mk ha0 rfl (g_exchAux := .inl (ss hM rfl))

theorem State.clearWindow_keeps {M : Nat} {s0 : State} {a0 a1} (hM : 16384 &&& M = 16384) (ha0 : Keeps M s0 a0) :
    Keeps M s0 (State.clearWindow a0 a1) := by
  unfold State.clearWindow
  extract_lets +onlyGivenNames v0
  exact keeps_foldl ha0 (fun _ _ h1 => State.clearExch_keeps (ss hM rfl) h1)

theorem State.takeWindow_keeps {M : Nat} {s0 : State} {a0 a1} (hM : 32768 &&& M = 32768) (ha0 : Keeps M s0 a0) :
    Keeps M s0 (State.takeWindow a0 a1) := by
  unfold State.takeWindow
  extract_lets +onlyGivenNames v0 v1
  exact keeps_mk ha0 rfl (g_exchAux := .inl (ss hM rfl))

theorem State.dropWindow_keeps {M : Nat} {s0 : State} {a0 a1 a2} (hM : 49152 &&& M = 49152) (ha0 : Keeps M s0 a0) :
    Keeps M s0 (State.dropWindow a0 a1 a2) := by
  unfold State.dropWindow
  extract_lets +onlyGivenNames v0
  refine keeps_foldl ?_ ?_
  · exact ha0
  · intro _ _ h1
    extract_lets +onlyGivenNames v2 v3
    have h4 : Keeps M s0 v3 := keeps_mk h1 rfl (g_exchAux := .inl (ss hM rfl))
    try clear_value v3
    exact keeps_ite (State.clearExch_keeps (ss hM rfl) h4) h4

theorem State.isolate_keeps {M : Nat} {s0 : State} {a0 a1} (hM : 144115188076150784 &&& M = 144115188076150784) (ha0
    : Keeps M s0 a0) : Keeps M s0 (State.isolate a0 a1) := by
  unfold State.isolate
  refine keeps_ite ?_ ?_
  · exact ha0
  · extract_lets +onlyGivenNames v0
    have h1 : Keeps M s0 v0 := keeps_foldl ha0 (fun _ _ h2 => keeps_mk h2 rfl (g_slots := .inl (ss hM rfl)))
    try clear_value v0
    exact State.wr_keeps (ss hM rfl) (ss hM rfl) (State.captureExch_keeps (ss hM rfl) h1)

theorem State.gateBunch_keeps {M : Nat} {s0 : State} {a0 a1 a2} (hM : 288234774198222848 &&& M = 288234774198222848)
    (ha0 : Keeps M s0 a0) : Keeps M s0 (State.gateBunch a0 a1 a2) := by
  unfold State.gateBunch
  refine keeps_ite ?_ ?_
  · exact ha0
  · extract_lets +onlyGivenNames v0
    have h1 : Keeps M s0 v0 := keeps_ite (State.wr_keeps (ss hM rfl) (ss hM rfl) ha0) (State.wr_keeps (ss hM rfl) (ss
        hM rfl) ha0)
    try clear_value v0
    exact State.wr_keeps (ss hM rfl) (ss hM rfl) h1

theorem State.devState_keeps {M : Nat} {s0 : State} {a0} (hM : 4398046511104 &&& M = 4398046511104) (ha0 : Keeps M s0
    a0) : Keeps M s0 (State.devState a0) := by
  unfold State.devState
  extract_lets +onlyGivenNames v0
  exact keeps_ite (State.wr_keeps (ss hM rfl) (ss hM rfl) ha0) ha0

theorem State.regate_keeps {M : Nat} {s0 : State} {a0 a1} (hM : 288234774198222848 &&& M = 288234774198222848) (ha0 :
    Keeps M s0 a0) : Keeps M s0 (State.regate a0 a1) := by
  unfold State.regate
  split
  · exact keeps_ite (State.devState_keeps (ss hM rfl) (State.gateBunch_keeps (ss hM rfl) ha0)) ha0
  · exact ha0

theorem State.refuseCmd_keeps {M : Nat} {s0 : State} {a0 a1 a2} (hM : 1099511627777 &&& M = 1099511627777) (ha0 :
    Keeps M s0 a0) : Keeps M s0 (State.refuseCmd a0 a1 a2) := by
  unfold State.refuseCmd
  exact State.respond_keeps (ss hM rfl) (State.errReg_keeps (ss hM rfl) ha0)

theorem State.clearRegs_keeps {M : Nat} {s0 : State} {a0 a1} (hM : 768 &&& M = 768) (ha0 : Keeps M s0 a0) : Keeps M
    s0 (State.clearRegs a0 a1) := by
  unfold State.clearRegs
  extract_lets +onlyGivenNames v0
  exact keeps_mk ha0 rfl (g_orchard := .inl (ss hM rfl)) (g_outbound := .inl (ss hM rfl))

theorem State.loseJournals_keeps {M : Nat} {s0 : State} {a0 a1} (hM : 288230376151715840 &&& M = 288230376151715840)
    (ha0 : Keeps M s0 a0) : Keeps M s0 (State.loseJournals a0 a1) := by
  unfold State.loseJournals
  exact keeps_foldl ha0 (fun _ _ h0 => State.modBank_keeps (ss hM rfl) (State.wr_keeps (ss hM rfl) (ss hM rfl)
      (State.wr_keeps (ss hM rfl) (ss hM rfl) h0)))

theorem State.enterLoading_keeps {M : Nat} {s0 : State} {a0 a1} (hM : 432349962274079744 &&& M = 432349962274079744)
    (ha0 : Keeps M s0 a0) : Keeps M s0 (State.enterLoading a0 a1) := by
  unfold State.enterLoading
  extract_lets +onlyGivenNames v0
  have h1 : Keeps M s0 v0 := keeps_foldl ha0 (fun _ _ h2 => State.gateBunch_keeps (ss hM rfl) h2)
  try clear_value v0
  exact State.devState_keeps (ss hM rfl) (State.modPart_keeps (ss hM rfl) (State.wr_keeps (ss hM rfl) (ss hM rfl) h1))

theorem State.loadBegin_keeps {M : Nat} {s0 : State} {a0 a1} (hM : 441358261040764672 &&& M = 441358261040764672)
    (ha0 : Keeps M s0 a0) : Keeps M s0 (State.loadBegin a0 a1) := by
  unfold State.loadBegin
  extract_lets +onlyGivenNames v0
  have h1 : Keeps M s0 v0 := State.isolate_keeps (ss hM rfl) (State.loseJournals_keeps (ss hM rfl)
      (State.endJoins_keeps (ss hM rfl) ha0))
  try clear_value v0
  extract_lets +onlyGivenNames v2
  have h3 : Keeps M s0 v2 := keeps_ite (State.captureExch_keeps (ss hM rfl) h1) h1
  try clear_value v2
  extract_lets +onlyGivenNames v4
  have h5 : Keeps M s0 v4 := State.clearRegs_keeps (ss hM rfl) (State.clearWindow_keeps (ss hM rfl)
      (State.dropWindow_keeps (ss hM rfl) h3))
  try clear_value v4
  extract_lets +onlyGivenNames v6
  have h7 : Keeps M s0 v6 := State.wr64_keeps (ss hM rfl) (ss hM rfl) (ss hM rfl) (State.wr64_keeps (ss hM rfl) (ss
      hM rfl) (ss hM rfl) h5)
  try clear_value v6
  extract_lets +onlyGivenNames v8
  have h9 : Keeps M s0 v8 := State.wr_keeps (ss hM rfl) (ss hM rfl) (State.wr_keeps (ss hM rfl) (ss hM rfl)
      (State.wr_keeps (ss hM rfl) (ss hM rfl) h7))
  try clear_value v8
  extract_lets +onlyGivenNames v10
  have h11 : Keeps M s0 v10 := State.wr_keeps (ss hM rfl) (ss hM rfl) (State.wr_keeps (ss hM rfl) (ss hM rfl)
      (State.wr_keeps (ss hM rfl) (ss hM rfl) (State.wr_keeps (ss hM rfl) (ss hM rfl) (State.wr_keeps (ss hM rfl) (ss
      hM rfl) (State.wr_keeps (ss hM rfl) (ss hM rfl) h9)))))
  try clear_value v10
  extract_lets +onlyGivenNames v12
  have h13 : Keeps M s0 v12 := State.wr_keeps (ss hM rfl) (offRegs (p := .res) rfl (ss hM rfl)) (State.wr_keeps (ss
      hM rfl) (offRegs (p := .res) rfl (ss hM rfl)) (State.wr_keeps (ss hM rfl) (offRegs (p := .res) rfl (ss hM rfl))
      (State.wr_keeps (ss hM rfl) (offRegs (p := .res) rfl (ss hM rfl)) (State.wr_keeps (ss hM rfl) (offRegs (p :=
      .res) rfl (ss hM rfl)) h11))))
  try clear_value v12
  extract_lets +onlyGivenNames v14
  have h15 : Keeps M s0 v14 := keeps_mk h13 rfl (g_parts := .inl (ss hM rfl)) (g_exchAux := .inl (ss hM rfl))
  try clear_value v14
  exact keeps_ite (State.enterLoading_keeps (ss hM rfl) h15) h15

theorem State.loadEnd_keeps {M : Nat} {s0 : State} {a0 a1 a2} (hM : 144116287923077121 &&& M = 144116287923077121)
    (ha0 : Keeps M s0 a0) : Keeps M s0 (State.loadEnd a0 a1 a2) := by
  unfold State.loadEnd
  extract_lets +onlyGivenNames v0
  exact keeps_ite (State.raise_keeps (ss hM rfl) (State.errReg_keeps (ss hM rfl) ha0)) (keeps_ite (State.raise_keeps
      (ss hM rfl) ha0) (State.takeWindow_keeps (ss hM rfl) (State.clearWindow_keeps (ss hM rfl) (State.wr_keeps (ss
      hM rfl) (ss hM rfl) ha0))))

theorem State.unloadPart_keeps {M : Nat} {s0 : State} {a0 a1} (hM : 441358261040759808 &&& M = 441358261040759808)
    (ha0 : Keeps M s0 a0) : Keeps M s0 (State.unloadPart a0 a1) := by
  unfold State.unloadPart
  extract_lets +onlyGivenNames v0
  have h1 : Keeps M s0 v0 := State.wr_keeps (ss hM rfl) (ss hM rfl) (State.isolate_keeps (ss hM rfl)
      (State.endJoins_keeps (ss hM rfl) ha0))
  try clear_value v0
  extract_lets +onlyGivenNames v2
  have h3 : Keeps M s0 v2 := State.wr_keeps (ss hM rfl) (ss hM rfl) (State.wr_keeps (ss hM rfl) (ss hM rfl)
      (State.dropWindow_keeps (ss hM rfl) h1))
  try clear_value v2
  extract_lets +onlyGivenNames v4
  have h5 : Keeps M s0 v4 := keeps_foldl h3 (fun _ _ h6 => State.gateBunch_keeps (ss hM rfl) h6)
  try clear_value v4
  extract_lets +onlyGivenNames v7
  have h8 : Keeps M s0 v7 := State.wr_keeps (ss hM rfl) (ss hM rfl) h5
  try clear_value v7
  exact State.devState_keeps (ss hM rfl) (State.modPart_keeps (ss hM rfl) h8)

theorem State.startPart_keeps {M : Nat} {s0 : State} {a0 a1} (hM : 146366987890885632 &&& M = 146366987890885632)
    (ha0 : Keeps M s0 a0) : Keeps M s0 (State.startPart a0 a1) := by
  unfold State.startPart
  extract_lets +onlyGivenNames v0
  have h1 : Keeps M s0 v0 := keeps_foldl ha0 (fun _ _ h2 => State.isolate_keeps (ss hM rfl) h2)
  try clear_value v0
  extract_lets +onlyGivenNames v3
  have h4 : Keeps M s0 v3 := State.wr_keeps (ss hM rfl) (ss hM rfl) (State.setState_keeps (ss hM rfl) h1)
  try clear_value v3
  extract_lets +onlyGivenNames v5 v6 v7 v8
  have h9 : Keeps M s0 v8 := keeps_foldl h4 (fun _ _ h10 => State.modPart_keeps (ss hM rfl) h10)
  try clear_value v8
  exact State.showUnit_keeps (ss hM rfl) (keeps_ite (State.wr_keeps (ss hM rfl) (ss hM rfl) h9) h9)

theorem State.singlePart_keeps {M : Nat} {s0 : State} {a0 a1} (hM : 144115188075856896 &&& M = 144115188075856896)
    (ha0 : Keeps M s0 a0) : Keeps M s0 (State.singlePart a0 a1) := by
  unfold State.singlePart
  extract_lets +onlyGivenNames v0
  have h1 : Keeps M s0 v0 := State.wr_keeps (ss hM rfl) (ss hM rfl) (State.wr_keeps (ss hM rfl) (ss hM rfl)
      (State.setState_keeps (ss hM rfl) ha0))
  try clear_value v0
  exact keeps_foldl h1 (fun _ _ h2 => State.modPart_keeps (ss hM rfl) h2)

theorem State.stopPart_keeps {M : Nat} {s0 : State} {a0 a1} (hM : 146368087737762817 &&& M = 146368087737762817) (ha0
    : Keeps M s0 a0) : Keeps M s0 (State.stopPart a0 a1) := by
  unfold State.stopPart
  exact keeps_ite (State.requestStop_keeps (ss hM rfl) (State.wr_keeps (ss hM rfl) (ss hM rfl) ha0)) (keeps_ite
      (State.unitIdle_keeps (ss hM rfl) (State.wr_keeps (ss hM rfl) (ss hM rfl) (State.enterStopped_keeps (ss hM rfl)
      ha0))) (State.wr_keeps (ss hM rfl) (ss hM rfl) (State.wr_keeps (ss hM rfl) (ss hM rfl) ha0)))

theorem State.unfreeze_keeps {M : Nat} {s0 : State} {a0 a1} (hM : 146368087737761793 &&& M = 146368087737761793) (ha0
    : Keeps M s0 a0) : Keeps M s0 (State.unfreeze a0 a1) := by
  unfold State.unfreeze
  refine keeps_ite ?_ ?_
  · extract_lets +onlyGivenNames v0
    have h1 : Keeps M s0 v0 := State.timeBreak_keeps (ss hM rfl) (State.setState_keeps (ss hM rfl) ha0)
    try clear_value v0
    exact keeps_ite (State.unitIdle_keeps (ss hM rfl) (State.raise_keeps (ss hM rfl) h1)) h1
  · exact ha0

theorem State.perform_keeps {M : Nat} {s0 : State} {a0 a1 a2 a3} (hM : 443610061191042817 &&& M = 443610061191042817)
    (ha0 : Keeps M s0 a0) : Keeps M s0 (State.perform a0 a1 a2 a3) := by
  unfold State.perform
  extract_lets +onlyGivenNames v0 v1
  have h2 : ∀ y3, Keeps M s0 y3 → Keeps M s0 (v1 y3) := fun y3 h4 => State.respond_keeps (ss hM rfl) h4
  try clear_value v1
  refine keeps_ite ?_ ?_
  · exact State.refuseCmd_keeps (ss hM rfl) ha0
  · refine keeps_ite ?_ ?_
    · exact State.refuseCmd_keeps (ss hM rfl) ha0
    · split
      · exact keeps_ite (h2 _ (State.loadBegin_keeps (ss hM rfl) ha0)) (State.refuseCmd_keeps (ss hM rfl) ha0)
      · exact keeps_ite (h2 _ (State.loadEnd_keeps (ss hM rfl) ha0)) (State.refuseCmd_keeps (ss hM rfl) ha0)
      · exact keeps_ite (h2 _ (State.startPart_keeps (ss hM rfl) ha0)) (State.refuseCmd_keeps (ss hM rfl) ha0)
      · exact keeps_ite (h2 _ (State.stopPart_keeps (ss hM rfl) ha0)) (State.refuseCmd_keeps (ss hM rfl) ha0)
      · exact keeps_ite (h2 _ (State.singlePart_keeps (ss hM rfl) ha0)) (State.refuseCmd_keeps (ss hM rfl) ha0)
      · exact keeps_ite (h2 _ (State.unfreeze_keeps (ss hM rfl) ha0)) (State.refuseCmd_keeps (ss hM rfl) ha0)
      · exact keeps_ite (h2 _ (State.unloadPart_keeps (ss hM rfl) ha0)) (State.refuseCmd_keeps (ss hM rfl) ha0)
      · exact State.refuseCmd_keeps (ss hM rfl) ha0

theorem doPrtCmd_keeps {M : Nat} {s0 : State} {a0 a1 a2 a3} (hM : 443610061191042817 &&& M = 443610061191042817) (ha3
    : Keeps M s0 a3) : Keeps M s0 (doPrtCmd a0 a1 a2 a3) := by
  unfold doPrtCmd
  exact keeps_ite (State.modPart_keeps (ss hM rfl) ha3) (State.perform_keeps (ss hM rfl) ha3)

theorem doBunchesWrite_keeps {M : Nat} {s0 : State} {a0 a1 a2 a3 a4} (hM : 144116287587483649 &&& M =
    144116287587483649) (ha4 : Keeps M s0 a4) : Keeps M s0 (doBunchesWrite a0 a1 a2 a3 a4) := by
  unfold doBunchesWrite
  extract_lets +onlyGivenNames v0
  exact keeps_ite (State.respond_keeps (ss hM rfl) (State.errReg_keeps (ss hM rfl) ha4)) (State.respond_keeps (ss hM
      rfl) (keeps_ite (State.wr_keeps (ss hM rfl) (ss hM rfl) ha4) (State.wr_keeps (ss hM rfl) (ss hM rfl) ha4)))

theorem doExchWrite_keeps {M : Nat} {s0 : State} {a0 a1 a2 a3} (hM : 144116287587532801 &&& M = 144116287587532801)
    (ha3 : Keeps M s0 a3) : Keeps M s0 (doExchWrite a0 a1 a2 a3) := by
  unfold doExchWrite
  extract_lets +onlyGivenNames v0 v1
  refine keeps_ite ?_ ?_
  · exact State.respond_keeps (ss hM rfl) (State.errReg_keeps (ss hM rfl) ha3)
  · extract_lets +onlyGivenNames v2 v3 v4
    have h5 : Keeps M s0 v4 := State.wr_keeps (ss hM rfl) (ss hM rfl) (State.wr_keeps (ss hM rfl) (ss hM rfl)
        (State.wr_keeps (ss hM rfl) (ss hM rfl) ha3))
    try clear_value v4
    refine keeps_ite ?_ ?_
    · extract_lets +onlyGivenNames v6 v7 v8
      have h9 : Keeps M s0 v8 := State.captureExch_keeps (ss hM rfl) h5
      try clear_value v8
      extract_lets +onlyGivenNames v10
      have h11 : Keeps M s0 v10 := State.dropWindow_keeps (ss hM rfl) h9
      try clear_value v10
      exact State.respond_keeps (ss hM rfl) (State.takeWindow_keeps (ss hM rfl) (State.clearWindow_keeps (ss hM rfl)
          h11))
    · exact State.respond_keeps (ss hM rfl) h5

theorem doIsolateWrite_keeps {M : Nat} {s0 : State} {a0 a1 a2 a3} (hM : 144116287587483649 &&& M =
    144116287587483649) (ha3 : Keeps M s0 a3) : Keeps M s0 (doIsolateWrite a0 a1 a2 a3) := by
  unfold doIsolateWrite
  extract_lets +onlyGivenNames v0
  exact keeps_ite (State.respond_keeps (ss hM rfl) (State.errReg_keeps (ss hM rfl) ha3)) (State.respond_keeps (ss hM
      rfl) (State.wr_keeps (ss hM rfl) (ss hM rfl) (State.wr_keeps (ss hM rfl) (ss hM rfl) (State.wr_keeps (ss hM
      rfl) (ss hM rfl) (State.wr_keeps (ss hM rfl) (ss hM rfl) ha3)))))

theorem State.loadWord_keeps {M : Nat} {s0 : State} {a0 a1 a2 a3 a4 a5 a6 a7 a8} (hM : 18692049994801 &&& M =
    18692049994801) (ha0 : Keeps M s0 a0) : Keeps M s0 (State.loadWord a0 a1 a2 a3 a4 a5 a6 a7 a8) := by
  unfold State.loadWord
  refine keeps_ite ?_ ?_
  · exact State.modPart_keeps (ss hM rfl) (State.err_keeps (ss hM rfl) ha0)
  · refine keeps_ite ?_ ?_
    · exact State.modPart_keeps (ss hM rfl) (State.logEvent_keeps (ss hM rfl) (State.err_keeps (ss hM rfl) ha0))
    · extract_lets +onlyGivenNames v0
      exact State.modPart_keeps (ss hM rfl) (State.setEcc_keeps (ss hM rfl) (keeps_istore (ss hM rfl) ha0
          (SMap.wf_set _ _ _)))

theorem State.loadRow_keeps {M : Nat} {s0 : State} {a0 a1 a2 a3 a4} (hM : 80 &&& M = 80) (ha0 : Keeps M s0 a0) :
    Keeps M s0 (State.loadRow a0 a1 a2 a3 a4) := by
  unfold State.loadRow
  extract_lets +onlyGivenNames v0
  exact State.setEcc_keeps (ss hM rfl) (keeps_rows (ss hM rfl) ha0 (SMap.wf_set _ _ _))

theorem doInstructionWordWrite_keeps {M : Nat} {s0 : State} {a0 a1 a2 a3 a4 a5 a6 a7 a8} (hM : 18692049994801 &&& M =
    18692049994801) (ha8 : Keeps M s0 a8) : Keeps M s0 (doInstructionWordWrite a0 a1 a2 a3 a4 a5 a6 a7 a8) := by
  unfold doInstructionWordWrite
  exact keeps_ite (State.modPart_keeps (ss hM rfl) ha8) (State.loadWord_keeps (ss hM rfl) ha8)

theorem execInstructionWordWrite_keeps {M : Nat} {s0 : State} {a0 a1 a2 a3 a4 a5 a6 a7} (hM : 18692049994801 &&& M =
    18692049994801) (ha7 : Keeps M s0 a7) : KeepsO M s0 (execInstructionWordWrite a0 a1 a2 a3 a4 a5 a6 a7) := by
  unfold execInstructionWordWrite
  exact keepsO_next (doInstructionWordWrite_keeps (ss hM rfl) ha7)

theorem doBunchUngateDone_keeps {M : Nat} {s0 : State} {a0 a1} (hM : 443627653393864561 &&& M = 443627653393864561)
    (ha1 : Keeps M s0 a1) : Keeps M s0 (doBunchUngateDone a0 a1) := by
  unfold doBunchUngateDone
  extract_lets +onlyGivenNames v0
  refine keeps_ite ?_ ?_
  · exact ha1
  · extract_lets +onlyGivenNames v1
    have h2 : Keeps M s0 v1 := State.modPart_keeps (ss hM rfl) (State.enterLoading_keeps (ss hM rfl) ha1)
    try clear_value v1
    extract_lets +onlyGivenNames v3
    have h4 : Keeps M s0 v3 := keeps_foldl h2 (fun _ _ h5 => State.loadWord_keeps (ss hM rfl) h5)
    try clear_value v3
    extract_lets +onlyGivenNames v6
    have h7 : Keeps M s0 v6 := keeps_foldl h4 (fun _ _ h8 => State.loadRow_keeps (ss hM rfl) h8)
    try clear_value v6
    exact keeps_foldl h7 (fun _ _ h9 => State.perform_keeps (ss hM rfl) h9)

theorem execBunchUngateDone_keeps {M : Nat} {s0 : State} {a0 a1} (hM : 443627653393864561 &&& M = 443627653393864561)
    (ha1 : Keeps M s0 a1) : KeepsO M s0 (execBunchUngateDone a0 a1) := by
  unfold execBunchUngateDone
  exact keepsO_next (doBunchUngateDone_keeps (ss hM rfl) ha1)

theorem doBerryRemapWrite_keeps {M : Nat} {s0 : State} {a0 a1 a2 a3} (hM : 81083485342662657 &&& M =
    81083485342662657) (ha3 : Keeps M s0 a3) : Keeps M s0 (doBerryRemapWrite a0 a1 a2 a3) := by
  unfold doBerryRemapWrite
  extract_lets +onlyGivenNames v0 v1 v2 v3
  refine keeps_ite ?_ ?_
  · exact State.respond_keeps (ss hM rfl) (State.errReg_keeps (ss hM rfl) ha3)
  · refine keeps_ite ?_ ?_
    · exact State.respond_keeps (ss hM rfl) (State.errReg_keeps (ss hM rfl) ha3)
    · extract_lets +onlyGivenNames v4
      have h5 : Keeps M s0 v4 := State.spareCounts_keeps (ss hM rfl) (State.wr_keeps (ss hM rfl) (ss hM rfl)
          (State.wr_keeps (ss hM rfl) (ss hM rfl) ha3))
      try clear_value v4
      exact State.respond_keeps (ss hM rfl) (keeps_ite h5 (State.logEvent_keeps (ss hM rfl) h5))

theorem doBunchRemapWrite_keeps {M : Nat} {s0 : State} {a0 a1 a2 a3} (hM : 81083485342662657 &&& M =
    81083485342662657) (ha3 : Keeps M s0 a3) : Keeps M s0 (doBunchRemapWrite a0 a1 a2 a3) := by
  unfold doBunchRemapWrite
  extract_lets +onlyGivenNames v0 v1 v2 v3
  refine keeps_ite ?_ ?_
  · exact State.respond_keeps (ss hM rfl) (State.errReg_keeps (ss hM rfl) ha3)
  · refine keeps_ite ?_ ?_
    · exact State.respond_keeps (ss hM rfl) (State.errReg_keeps (ss hM rfl) ha3)
    · extract_lets +onlyGivenNames v4
      have h5 : Keeps M s0 v4 := State.spareCounts_keeps (ss hM rfl) (State.wr_keeps (ss hM rfl) (ss hM rfl)
          (State.wr_keeps (ss hM rfl) (ss hM rfl) ha3))
      try clear_value v4
      exact State.respond_keeps (ss hM rfl) (keeps_ite h5 (State.logEvent_keeps (ss hM rfl) h5))

theorem doSpareFailure_keeps {M : Nat} {s0 : State} {a0 a1 a2} (hM : 81083485342662657 &&& M = 81083485342662657)
    (ha2 : Keeps M s0 a2) : Keeps M s0 (doSpareFailure a0 a1 a2) := by
  unfold doSpareFailure
  refine keeps_ite ?_ ?_
  · refine keeps_ite ?_ ?_
    · extract_lets +onlyGivenNames v0
      exact State.spareCounts_keeps (ss hM rfl) (State.logEvent_keeps (ss hM rfl) (State.raise_keeps (ss hM rfl)
          (State.wr_keeps (ss hM rfl) (ss hM rfl) ha2)))
    · exact ha2
  · extract_lets +onlyGivenNames v1
    exact keeps_ite (State.spareCounts_keeps (ss hM rfl) (State.logEvent_keeps (ss hM rfl) (State.raise_keeps (ss hM
        rfl) (State.wr_keeps (ss hM rfl) (ss hM rfl) ha2)))) ha2

theorem execSpareFailure_keeps {M : Nat} {s0 : State} {a0 a1 a2} (hM : 81083485342662657 &&& M = 81083485342662657)
    (ha2 : Keeps M s0 a2) : KeepsO M s0 (execSpareFailure a0 a1 a2) := by
  unfold execSpareFailure
  exact keepsO_next (doSpareFailure_keeps (ss hM rfl) ha2)

/-! ## Machine/CascadeOrders.lean -/

theorem doOrderArrival_keeps {M : Nat} {s0 : State} {a0 a1 a2 a3} (hM : 2270491864727553 &&& M = 2270491864727553)
    (ha3 : Keeps M s0 a3) : Keeps M s0 (doOrderArrival a0 a1 a2 a3) := by
  unfold doOrderArrival
  refine keeps_ite ?_ ?_
  · exact ha3
  · extract_lets +onlyGivenNames v0 v1
    have h2 : Keeps M s0 v1 := State.sendDown_keeps (ss hM rfl) ha3
    try clear_value v1
    exact keeps_ite (State.showUnit_keeps (ss hM rfl) (State.modCas_keeps (ss hM rfl) (State.logEvent_keeps (ss hM
        rfl) (State.raise_keeps (ss hM rfl) h2)))) (State.modCas_keeps (ss hM rfl) h2)

theorem execOrderArrival_keeps {M : Nat} {s0 : State} {a0 a1 a2 a3} (hM : 2270491864727553 &&& M = 2270491864727553)
    (ha3 : Keeps M s0 a3) : KeepsO M s0 (execOrderArrival a0 a1 a2 a3) := by
  unfold execOrderArrival
  exact keepsO_next (doOrderArrival_keeps (ss hM rfl) ha3)

theorem State.landing_keeps {M : Nat} {s0 : State} {a0 a1} (hM : 1048576 &&& M = 1048576) (ha0 : Keeps M s0 a0) :
    KeepsOpt2 M s0 (State.landing a0 a1) := by
  unfold State.landing
  split
  · exact keepsOpt2_some (keeps2_mk (State.modCas_keeps (ss hM rfl) ha0))
  · exact keepsOpt2_none

theorem State.reachTick_keeps {M : Nat} {s0 : State} {a0 a1} (hM : 2251799814733824 &&& M = 2251799814733824) (ha0 :
    Keeps M s0 a0) : Keeps M s0 (State.reachTick a0 a1) := by
  unfold State.reachTick
  extract_lets +onlyGivenNames v0
  exact State.modCas_keeps (ss hM rfl) (State.setTick_keeps (ss hM rfl) ha0)

theorem State.restartFrames_keeps {M : Nat} {s0 : State} {a0} (hM : 2252899325837312 &&& M = 2252899325837312) (ha0 :
    Keeps M s0 a0) : Keeps M s0 (State.restartFrames a0) := by
  unfold State.restartFrames
  exact keeps_foldl ha0 (fun _ _ h0 => State.wr_keeps (ss hM rfl) (offRegs (p := .cas) rfl (ss hM rfl))
      (State.wr_keeps (ss hM rfl) (offRegs (p := .cas) rfl (ss hM rfl)) (State.wr_keeps (ss hM rfl) (offRegs (p :=
      .cas) rfl (ss hM rfl)) (State.modPort_keeps (ss hM rfl) h0))))

theorem doStartOrder_keeps {M : Nat} {s0 : State} {a0 a1} (hM : 443623255347566081 &&& M = 443623255347566081) (ha1 :
    Keeps M s0 a1) : Keeps M s0 (doStartOrder a0 a1) := by
  unfold doStartOrder
  split
  · rename_i x0 q1
    exact ha1
  · rename_i x3 x4 q5
    have hx4 : Keeps M s0 x4 := keepsOpt2_eq (State.landing_keeps (ss hM rfl) ha1) q5
    extract_lets +onlyGivenNames v6
    have h7 : Keeps M s0 v6 := State.raise_keeps (ss hM rfl) (State.restartFrames_keeps (ss hM rfl) (State.wr64_keeps
        (ss hM rfl) (ss hM rfl) (ss hM rfl) (State.setTick_keeps (ss hM rfl) hx4)))
    try clear_value v6
    extract_lets +onlyGivenNames v8
    have h9 : Keeps M s0 v8 := keeps_foldl h7 (fun _ _ h10 => State.modPart_keeps (ss hM rfl) h10)
    try clear_value v8
    extract_lets +onlyGivenNames v11
    have h12 : Keeps M s0 v11 := State.modCas_keeps (ss hM rfl) h9
    try clear_value v11
    extract_lets +onlyGivenNames v13
    have h14 : Keeps M s0 v13 := keeps_ite h12 (keeps_foldl h12 (fun _ _ h15 => State.release_keeps (ss hM rfl) h15))
    try clear_value v13
    exact State.showUnit_keeps (ss hM rfl) h14

theorem execStartOrder_keeps {M : Nat} {s0 : State} {a0 a1} (hM : 443623255347566081 &&& M = 443623255347566081) (ha1
    : Keeps M s0 a1) : KeepsO M s0 (execStartOrder a0 a1) := by
  unfold execStartOrder
  exact keepsO_next (doStartOrder_keeps (ss hM rfl) ha1)

theorem doReleaseOrder_keeps {M : Nat} {s0 : State} {a0 a1} (hM : 441371455533356545 &&& M = 441371455533356545) (ha1
    : Keeps M s0 a1) : Keeps M s0 (doReleaseOrder a0 a1) := by
  unfold doReleaseOrder
  split
  · rename_i x0 q1
    exact ha1
  · rename_i x3 x4 q5
    have hx4 : Keeps M s0 x4 := keepsOpt2_eq (State.landing_keeps (ss hM rfl) ha1) q5
    exact keeps_ite (keeps_foldl hx4 (fun _ _ h6 => State.release_keeps (ss hM rfl) h6)) hx4

theorem execReleaseOrder_keeps {M : Nat} {s0 : State} {a0 a1} (hM : 441371455533356545 &&& M = 441371455533356545)
    (ha1 : Keeps M s0 a1) : KeepsO M s0 (execReleaseOrder a0 a1) := by
  unfold execReleaseOrder
  exact keepsO_next (doReleaseOrder_keeps (ss hM rfl) ha1)

theorem doResumeOrder_keeps {M : Nat} {s0 : State} {a0} (hM : 2252899661906945 &&& M = 2252899661906945) (ha0 : Keeps
    M s0 a0) : Keeps M s0 (doResumeOrder a0) := by
  unfold doResumeOrder
  split
  · rename_i x0 q1
    exact ha0
  · rename_i x3 x4 q5
    have hx4 : Keeps M s0 x4 := keepsOpt2_eq (State.landing_keeps (ss hM rfl) ha0) q5
    refine keeps_ite ?_ ?_
    · extract_lets +onlyGivenNames v6
      have h7 : Keeps M s0 v6 := keeps_foldl hx4 (fun _ _ h8 => State.modPart_keeps (ss hM rfl) (State.unhold_keeps
          (ss hM rfl) h8))
      try clear_value v6
      exact State.showUnit_keeps (ss hM rfl) (State.raise_keeps (ss hM rfl) (State.modCas_keeps (ss hM rfl) h7))
    · exact hx4

theorem execResumeOrder_keeps {M : Nat} {s0 : State} {a0} (hM : 2252899661906945 &&& M = 2252899661906945) (ha0 :
    Keeps M s0 a0) : KeepsO M s0 (execResumeOrder a0) := by
  unfold execResumeOrder
  exact keepsO_next (doResumeOrder_keeps (ss hM rfl) ha0)

theorem doStopOrder_keeps {M : Nat} {s0 : State} {a0} (hM : 146368087737762817 &&& M = 146368087737762817) (ha0 :
    Keeps M s0 a0) : Keeps M s0 (doStopOrder a0) := by
  unfold doStopOrder
  split
  · rename_i x0 q1
    exact ha0
  · rename_i x3 x4 q5
    have hx4 : Keeps M s0 x4 := keepsOpt2_eq (State.landing_keeps (ss hM rfl) ha0) q5
    extract_lets +onlyGivenNames v6
    have h7 : Keeps M s0 v6 := State.modCas_keeps (ss hM rfl) hx4
    try clear_value v6
    exact State.unitIdle_keeps (ss hM rfl) (keeps_foldl h7 (fun _ _ h8 => keeps_ite (State.modPart_keeps (ss hM rfl)
        h8) (keeps_ite (State.stopNow_keeps (ss hM rfl) h8) h8)))

theorem execStopOrder_keeps {M : Nat} {s0 : State} {a0} (hM : 146368087737762817 &&& M = 146368087737762817) (ha0 :
    Keeps M s0 a0) : KeepsO M s0 (execStopOrder a0) := by
  unfold execStopOrder
  exact keepsO_next (doStopOrder_keeps (ss hM rfl) ha0)

theorem State.passReport_keeps {M : Nat} {s0 : State} {a0 a1 a2 a3} (hM : 1 &&& M = 1) (ha0 : Keeps M s0 a0) : Keeps
    M s0 (State.passReport a0 a1 a2 a3) := by
  unfold State.passReport
  exact keeps_ite (State.emit_keeps (ss hM rfl) ha0) ha0

theorem doTagFaultReport_keeps {M : Nat} {s0 : State} {a0 a1 a2} (hM : 1048577 &&& M = 1048577) (ha2 : Keeps M s0 a2)
    : Keeps M s0 (doTagFaultReport a0 a1 a2) := by
  unfold doTagFaultReport
  exact keeps_ite (State.modCas_keeps (ss hM rfl) ha2) (State.passReport_keeps (ss hM rfl) ha2)

theorem execTagFaultReport_keeps {M : Nat} {s0 : State} {a0 a1 a2} (hM : 1048577 &&& M = 1048577) (ha2 : Keeps M s0
    a2) : KeepsO M s0 (execTagFaultReport a0 a1 a2) := by
  unfold execTagFaultReport
  exact keepsO_next (doTagFaultReport_keeps (ss hM rfl) ha2)

theorem doStopReqReport_keeps {M : Nat} {s0 : State} {a0 a1 a2} (hM : 1048577 &&& M = 1048577) (ha2 : Keeps M s0 a2)
    : Keeps M s0 (doStopReqReport a0 a1 a2) := by
  unfold doStopReqReport
  exact keeps_ite (keeps_ite ha2 (State.issueOrder_keeps (ss hM rfl) (State.modCas_keeps (ss hM rfl) ha2)))
      (State.passReport_keeps (ss hM rfl) ha2)

theorem execStopReqReport_keeps {M : Nat} {s0 : State} {a0 a1 a2} (hM : 1048577 &&& M = 1048577) (ha2 : Keeps M s0
    a2) : KeepsO M s0 (execStopReqReport a0 a1 a2) := by
  unfold execStopReqReport
  exact keepsO_next (doStopReqReport_keeps (ss hM rfl) ha2)

theorem doFaultReport_keeps {M : Nat} {s0 : State} {a0 a1 a2} (hM : 2251799814733825 &&& M = 2251799814733825) (ha2 :
    Keeps M s0 a2) : Keeps M s0 (doFaultReport a0 a1 a2) := by
  unfold doFaultReport
  exact keeps_ite (State.showUnit_keeps (ss hM rfl) (State.modCas_keeps (ss hM rfl) ha2)) (State.passReport_keeps (ss
      hM rfl) ha2)

theorem execFaultReport_keeps {M : Nat} {s0 : State} {a0 a1 a2} (hM : 2251799814733825 &&& M = 2251799814733825) (ha2
    : Keeps M s0 a2) : KeepsO M s0 (execFaultReport a0 a1 a2) := by
  unfold execFaultReport
  exact keepsO_next (doFaultReport_keeps (ss hM rfl) ha2)

theorem State.lowSample_keeps {M : Nat} {s0 : State} {a0 a1} (hM : 1048576 &&& M = 1048576) (ha0 : Keeps M s0 a0) :
    Keeps M s0 (State.lowSample a0 a1) := by
  unfold State.lowSample
  exact keeps_ite (State.modCas_keeps (ss hM rfl) ha0) (State.modCas_keeps (ss hM rfl) ha0)

theorem State.highSample_keeps {M : Nat} {s0 : State} {a0} (hM : 1048577 &&& M = 1048577) (ha0 : Keeps M s0 a0) :
    Keeps M s0 (State.highSample a0) := by
  unfold State.highSample
  refine keeps_ite ?_ ?_
  · extract_lets +onlyGivenNames v0
    exact State.modCas_keeps (ss hM rfl) (State.sendDown_keeps (ss hM rfl) ha0)
  · exact ha0

theorem doHoldSlotCheck_keeps {M : Nat} {s0 : State} {a0 a1 a2 a3} (hM : 2251799814733825 &&& M = 2251799814733825)
    (ha3 : Keeps M s0 a3) : Keeps M s0 (doHoldSlotCheck a0 a1 a2 a3) := by
  unfold doHoldSlotCheck
  refine keeps_ite ?_ ?_
  · exact ha3
  · extract_lets +onlyGivenNames v0
    have h1 : Keeps M s0 v0 := State.showUnit_keeps (ss hM rfl) ha3
    try clear_value v0
    extract_lets +onlyGivenNames v2 v3 v4
    have h5 : Keeps M s0 v4 := State.wr_keeps (ss hM rfl) (ss hM rfl) (State.wr_keeps (ss hM rfl) (ss hM rfl)
        (State.wr_keeps (ss hM rfl) (ss hM rfl) h1))
    try clear_value v4
    refine keeps_ite ?_ ?_
    · extract_lets +onlyGivenNames v6
      have h7 : Keeps M s0 v6 := State.reachTick_keeps (ss hM rfl) h5
      try clear_value v6
      exact keeps_ite (State.lowSample_keeps (ss hM rfl) h7) (State.highSample_keeps (ss hM rfl) h7)
    · exact keeps_ite (State.modCas_keeps (ss hM rfl) h5) h5

theorem execHoldSlotCheck_keeps {M : Nat} {s0 : State} {a0 a1 a2 a3} (hM : 2251799814733825 &&& M = 2251799814733825)
    (ha3 : Keeps M s0 a3) : KeepsO M s0 (execHoldSlotCheck a0 a1 a2 a3) := by
  unfold execHoldSlotCheck
  exact keepsO_next (doHoldSlotCheck_keeps (ss hM rfl) ha3)

theorem doHoldBegin_keeps {M : Nat} {s0 : State} {a0 a1} (hM : 2252899661906945 &&& M = 2252899661906945) (ha1 :
    Keeps M s0 a1) : Keeps M s0 (doHoldBegin a0 a1) := by
  unfold doHoldBegin
  split
  · exact ha1
  · refine keeps_ite ?_ ?_
    · exact ha1
    · extract_lets +onlyGivenNames v0
      have h1 : Keeps M s0 v0 := State.modCas_keeps (ss hM rfl) (State.reachTick_keeps (ss hM rfl) ha1)
      try clear_value v0
      extract_lets +onlyGivenNames v2
      have h3 : Keeps M s0 v2 := keeps_foldl h1 (fun _ _ h4 => keeps_ite (State.hold_keeps (ss hM rfl) h4)
          (State.modPart_keeps (ss hM rfl) h4))
      try clear_value v2
      exact State.showUnit_keeps (ss hM rfl) (State.raise_keeps (ss hM rfl) (State.count_keeps (ss hM rfl) (ss hM
          rfl) h3))

theorem execHoldBegin_keeps {M : Nat} {s0 : State} {a0 a1} (hM : 2252899661906945 &&& M = 2252899661906945) (ha1 :
    Keeps M s0 a1) : KeepsO M s0 (execHoldBegin a0 a1) := by
  unfold execHoldBegin
  exact keepsO_next (doHoldBegin_keeps (ss hM rfl) ha1)

theorem doStartIssue_keeps {M : Nat} {s0 : State} {a0} (hM : 1048577 &&& M = 1048577) (ha0 : Keeps M s0 a0) : Keeps M
    s0 (doStartIssue a0) := by
  unfold doStartIssue
  exact keeps_ite (State.issueOrder_keeps (ss hM rfl) ha0) ha0

theorem execStartIssue_keeps {M : Nat} {s0 : State} {a0} (hM : 1048577 &&& M = 1048577) (ha0 : Keeps M s0 a0) :
    KeepsO M s0 (execStartIssue a0) := by
  unfold execStartIssue
  exact keepsO_next (doStartIssue_keeps (ss hM rfl) ha0)

theorem doPeriodRelease_keeps {M : Nat} {s0 : State} {a0 a1 a2} (hM : 443623255347041793 &&& M = 443623255347041793)
    (ha2 : Keeps M s0 a2) : Keeps M s0 (doPeriodRelease a0 a1 a2) := by
  unfold doPeriodRelease
  refine keeps_ite ?_ ?_
  · extract_lets +onlyGivenNames v0
    have h1 : Keeps M s0 v0 := State.modCas_keeps (ss hM rfl) (State.reachTick_keeps (ss hM rfl) ha2)
    try clear_value v0
    exact keeps_foldl h1 (fun _ _ h2 => State.release_keeps (ss hM rfl) h2)
  · exact ha2

theorem execPeriodRelease_keeps {M : Nat} {s0 : State} {a0 a1 a2} (hM : 443623255347041793 &&& M =
    443623255347041793) (ha2 : Keeps M s0 a2) : KeepsO M s0 (execPeriodRelease a0 a1 a2) := by
  unfold execPeriodRelease
  exact keepsO_next (doPeriodRelease_keeps (ss hM rfl) ha2)

theorem doCasStop_keeps {M : Nat} {s0 : State} {a0 a1} (hM : 146366987890589697 &&& M = 146366987890589697) (ha1 :
    Keeps M s0 a1) : Keeps M s0 (doCasStop a0 a1) := by
  unfold doCasStop
  exact State.respond_keeps (ss hM rfl) (State.requestStop_keeps (ss hM rfl) ha1)

theorem doDoneFall_keeps {M : Nat} {s0 : State} {a0} (hM : 2252899661905921 &&& M = 2252899661905921) (ha0 : Keeps M
    s0 a0) : Keeps M s0 (doDoneFall a0) := by
  unfold doDoneFall
  extract_lets +onlyGivenNames v0
  have h1 : Keeps M s0 v0 := State.wr_keeps (ss hM rfl) (ss hM rfl) ha0
  try clear_value v0
  exact keeps_ite (State.showUnit_keeps (ss hM rfl) (State.modCas_keeps (ss hM rfl) (State.raise_keeps (ss hM rfl)
      h1))) h1

theorem execDoneFall_keeps {M : Nat} {s0 : State} {a0} (hM : 2252899661905921 &&& M = 2252899661905921) (ha0 : Keeps
    M s0 a0) : KeepsO M s0 (execDoneFall a0) := by
  unfold execDoneFall
  exact keepsO_next (doDoneFall_keeps (ss hM rfl) ha0)

/-! ## Machine/CoreTrace.lean -/

theorem State.modTrace_keeps {M : Nat} {s0 : State} {a0 a1 a2} (hM : 1073741824 &&& M = 1073741824) (ha0 : Keeps M s0
    a0) : Keeps M s0 (State.modTrace a0 a1 a2) := by
  unfold State.modTrace
  exact State.modCore_keeps (ss hM rfl) ha0

theorem State.traceBytes_keeps {M : Nat} {s0 : State} {a0 a1 a2} (hM : 1100920913921 &&& M = 1100920913921) (ha0 :
    Keeps M s0 a0) : Keeps M s0 (State.traceBytes a0 a1 a2) := by
  unfold State.traceBytes
  extract_lets +onlyGivenNames v0
  exact keeps_ite ha0 (keeps_ite (State.raise_keeps (ss hM rfl) (State.modTrace_keeps (ss hM rfl) ha0))
      (State.modTrace_keeps (ss hM rfl) ha0))

theorem State.traceSync_keeps {M : Nat} {s0 : State} {a0 a1} (hM : 1100920913921 &&& M = 1100920913921) (ha0 : Keeps
    M s0 a0) : Keeps M s0 (State.traceSync a0 a1) := by
  unfold State.traceSync
  extract_lets +onlyGivenNames v0
  exact State.modTrace_keeps (ss hM rfl) (State.traceBytes_keeps (ss hM rfl) ha0)

theorem State.flushOutcomes_keeps {M : Nat} {s0 : State} {a0 a1} (hM : 1100920913921 &&& M = 1100920913921) (ha0 :
    Keeps M s0 a0) : Keeps M s0 (State.flushOutcomes a0 a1) := by
  unfold State.flushOutcomes
  extract_lets +onlyGivenNames v0
  exact keeps_ite ha0 (State.modTrace_keeps (ss hM rfl) (State.traceBytes_keeps (ss hM rfl) ha0))

theorem State.periodicSync_keeps {M : Nat} {s0 : State} {a0 a1} (hM : 1100920913921 &&& M = 1100920913921) (ha0 :
    Keeps M s0 a0) : Keeps M s0 (State.periodicSync a0 a1) := by
  unfold State.periodicSync
  extract_lets +onlyGivenNames v0
  exact keeps_ite (State.traceSync_keeps (ss hM rfl) (State.flushOutcomes_keeps (ss hM rfl) ha0)) ha0

theorem State.packet_keeps {M : Nat} {s0 : State} {a0 a1 a2} (hM : 1100920913921 &&& M = 1100920913921) (ha0 : Keeps
    M s0 a0) : Keeps M s0 (State.packet a0 a1 a2) := by
  unfold State.packet
  exact keeps_ite (State.periodicSync_keeps (ss hM rfl) (State.traceBytes_keeps (ss hM rfl)
      (State.flushOutcomes_keeps (ss hM rfl) (State.periodicSync_keeps (ss hM rfl) ha0)))) ha0

theorem State.firstSync_keeps {M : Nat} {s0 : State} {a0 a1} (hM : 1100920913921 &&& M = 1100920913921) (ha0 : Keeps
    M s0 a0) : Keeps M s0 (State.firstSync a0 a1) := by
  unfold State.firstSync
  exact keeps_ite (State.periodicSync_keeps (ss hM rfl) ha0) ha0

theorem State.traceOutcome_keeps {M : Nat} {s0 : State} {a0 a1 a2} (hM : 1100920913921 &&& M = 1100920913921) (ha0 :
    Keeps M s0 a0) : Keeps M s0 (State.traceOutcome a0 a1 a2) := by
  unfold State.traceOutcome
  refine keeps_ite ?_ ?_
  · exact ha0
  · extract_lets +onlyGivenNames v0
    have h1 : Keeps M s0 v0 := State.modTrace_keeps (ss hM rfl) ha0
    try clear_value v0
    exact keeps_ite (State.periodicSync_keeps (ss hM rfl) (State.flushOutcomes_keeps (ss hM rfl) h1)) h1

theorem State.traceAddr_keeps {M : Nat} {s0 : State} {a0 a1 a2} (hM : 1100920913921 &&& M = 1100920913921) (ha0 :
    Keeps M s0 a0) : Keeps M s0 (State.traceAddr a0 a1 a2) := by
  unfold State.traceAddr
  refine keeps_ite ?_ ?_
  · exact ha0
  · extract_lets +onlyGivenNames v0
    have h1 : Keeps M s0 v0 := State.flushOutcomes_keeps (ss hM rfl) (State.firstSync_keeps (ss hM rfl) ha0)
    try clear_value v0
    extract_lets +onlyGivenNames v2
    exact State.periodicSync_keeps (ss hM rfl) (State.modTrace_keeps (ss hM rfl) (State.traceBytes_keeps (ss hM rfl)
        h1))

theorem State.traceRep_keeps {M : Nat} {s0 : State} {a0 a1 a2} (hM : 1100920913921 &&& M = 1100920913921) (ha0 :
    Keeps M s0 a0) : Keeps M s0 (State.traceRep a0 a1 a2) := by
  unfold State.traceRep
  exact State.packet_keeps (ss hM rfl) ha0

theorem State.traceNap_keeps {M : Nat} {s0 : State} {a0 a1} (hM : 1100920913921 &&& M = 1100920913921) (ha0 : Keeps M
    s0 a0) : Keeps M s0 (State.traceNap a0 a1) := by
  unfold State.traceNap
  exact State.packet_keeps (ss hM rfl) ha0

theorem State.traceHalt_keeps {M : Nat} {s0 : State} {a0 a1} (hM : 1100920913921 &&& M = 1100920913921) (ha0 : Keeps
    M s0 a0) : Keeps M s0 (State.traceHalt a0 a1) := by
  unfold State.traceHalt
  exact State.packet_keeps (ss hM rfl) ha0

theorem State.traceNote_keeps {M : Nat} {s0 : State} {a0 a1 a2 a3} (hM : 1100920913921 &&& M = 1100920913921) (ha0 :
    Keeps M s0 a0) : Keeps M s0 (State.traceNote a0 a1 a2 a3) := by
  unfold State.traceNote
  exact State.packet_keeps (ss hM rfl) ha0

theorem State.traceExc_keeps {M : Nat} {s0 : State} {a0 a1 a2 a3 a4 a5} (hM : 1100920913921 &&& M = 1100920913921)
    (ha0 : Keeps M s0 a0) : Keeps M s0 (State.traceExc a0 a1 a2 a3 a4 a5) := by
  unfold State.traceExc
  refine keeps_ite ?_ ?_
  · exact ha0
  · extract_lets +onlyGivenNames v0
    have h1 : Keeps M s0 v0 := State.flushOutcomes_keeps (ss hM rfl) (State.firstSync_keeps (ss hM rfl) ha0)
    try clear_value v0
    extract_lets +onlyGivenNames v2
    exact State.periodicSync_keeps (ss hM rfl) (State.modTrace_keeps (ss hM rfl) (State.traceBytes_keeps (ss hM rfl)
        h1))

theorem State.traceResume_keeps {M : Nat} {s0 : State} {a0 a1} (hM : 1100920913921 &&& M = 1100920913921) (ha0 :
    Keeps M s0 a0) : Keeps M s0 (State.traceResume a0 a1) := by
  unfold State.traceResume
  exact keeps_ite (State.traceSync_keeps (ss hM rfl) (State.flushOutcomes_keeps (ss hM rfl) ha0)) ha0

theorem State.traceRecover_keeps {M : Nat} {s0 : State} {a0 a1} (hM : 71469665091585 &&& M = 71469665091585) (ha0 :
    Keeps M s0 a0) : Keeps M s0 (State.traceRecover a0 a1) := by
  unfold State.traceRecover
  extract_lets +onlyGivenNames v0
  exact keeps_ite (State.count_keeps (ss hM rfl) (ss hM rfl) (State.traceSync_keeps (ss hM rfl)
      (State.traceBytes_keeps (ss hM rfl) (State.modTrace_keeps (ss hM rfl) ha0)))) ha0

/-! ## Machine/CoreMem.lean -/

theorem State.dropReservation_keeps {M : Nat} {s0 : State} {a0 a1} (hM : 1073750016 &&& M = 1073750016) (ha0 : Keeps
    M s0 a0) : Keeps M s0 (State.dropReservation a0 a1) := by
  unfold State.dropReservation
  extract_lets +onlyGivenNames v0
  have h1 : Keeps M s0 v0 := State.modCore_keeps (ss hM rfl) ha0
  try clear_value v0
  exact keeps_mk h1 rfl (g_resv := .inl (ss hM rfl))

theorem State.cancelGranule_keeps {M : Nat} {s0 : State} {a0 a1 a2} (hM : 1073741824 &&& M = 1073741824) (ha0 : Keeps
    M s0 a0) : Keeps M s0 (State.cancelGranule a0 a1 a2) := by
  unfold State.cancelGranule
  exact keeps_ite (State.modCore_keeps (ss hM rfl) ha0) ha0

theorem State.writeScratch_keeps {M : Nat} {s0 : State} {a0 a1 a2 a3 a4 a5} (hM : 18695271219217 &&& M =
    18695271219217) (ha0 : Keeps M s0 a0) : Keeps2 M s0 (State.writeScratch a0 a1 a2 a3 a4 a5) := by
  unfold State.writeScratch
  extract_lets +onlyGivenNames v0
  exact keeps2_ite (keeps2_mk (State.logEvent_keeps (ss hM rfl) (State.err_keeps (ss hM rfl) ha0))) (keeps2_mk
      (State.cancelGranule_keeps (ss hM rfl) (State.setEcc_keeps (ss hM rfl) (keeps_scratch (ss hM rfl) ha0
      (SMap.wf_set _ _ _)))))

theorem State.storeFailed_keeps {M : Nat} {s0 : State} {a0 a1 a2 a3} (hM : 1099847172097 &&& M = 1099847172097) (ha0
    : Keeps M s0 a0) : Keeps M s0 (State.storeFailed a0 a1 a2 a3) := by
  unfold State.storeFailed
  split
  · rename_i x0 x1 q2
    have k3 := congrArg (fun p => p.2) q2
    have hx1 : Keeps M s0 x1 := by
      simp only at k3
      rw [← k3]
      exact keeps_of2 (keeps2_ite (State.free_keeps (ss hM rfl) ha0) (keeps2_mk ha0))
    exact State.raise_keeps (ss hM rfl) (State.err_keeps (ss hM rfl) hx1)

theorem State.postStore_keeps {M : Nat} {s0 : State} {a0 a1 a2 a3 a4} (hM : 2305844110134607873 &&& M =
    2305844110134607873) (ha0 : Keeps M s0 a0) : Keeps M s0 (State.postStore a0 a1 a2 a3 a4) := by
  unfold State.postStore
  extract_lets +onlyGivenNames v0
  try clear_value v0
  split
  · exact State.storeFailed_keeps (ss hM rfl) (State.quayStatus_keeps (ss hM rfl) ha0)
  · refine keeps_ite ?_ ?_
    · extract_lets +onlyGivenNames v1
      exact State.modCore_keeps (ss hM rfl) (State.quaySend_keeps (ss hM rfl) ha0)
    · exact State.storeFailed_keeps (ss hM rfl) (State.quayStatus_keeps (ss hM rfl) ha0)

theorem State.storeBytes_keeps {M : Nat} {s0 : State} {a0 a1 a2 a3 a4} (hM : 2305861704484929553 &&& M =
    2305861704484929553) (ha0 : Keeps M s0 a0) : Keeps M s0 (State.storeBytes a0 a1 a2 a3 a4) := by
  unfold State.storeBytes
  split
  · split
    · exact keeps_of2 (State.writeScratch_keeps (ss hM rfl) ha0)
    · exact State.setExch_keeps (ss hM rfl) ha0
    · exact State.postStore_keeps (ss hM rfl) ha0
    · exact ha0

theorem opSt_keeps {M : Nat} {s0 : State} {a0 a1 a2 a3} (hM : 2305861704484929553 &&& M = 2305861704484929553) (ha3 :
    Keeps M s0 a3) : Keeps M s0 (opSt a0 a1 a2 a3) := by
  unfold opSt
  exact State.storeBytes_keeps (ss hM rfl) ha3

theorem opStp_keeps {M : Nat} {s0 : State} {a0 a1 a2 a3} (hM : 2305861704484929553 &&& M = 2305861704484929553) (ha3
    : Keeps M s0 a3) : Keeps M s0 (opStp a0 a1 a2 a3) := by
  unfold opStp
  exact State.storeBytes_keeps (ss hM rfl) ha3

theorem opSta_keeps {M : Nat} {s0 : State} {a0 a1 a2 a3} (hM : 2305861704484929553 &&& M = 2305861704484929553) (ha3
    : Keeps M s0 a3) : Keeps M s0 (opSta a0 a1 a2 a3) := by
  unfold opSta
  exact State.storeBytes_keeps (ss hM rfl) ha3

theorem opLr_keeps {M : Nat} {s0 : State} {a0 a1 a2 a3} (hM : 1073750016 &&& M = 1073750016) (ha3 : Keeps M s0 a3) :
    Keeps M s0 (opLr a0 a1 a2 a3) := by
  unfold opLr
  exact keeps_ite (State.modCore_keeps (ss hM rfl) (State.dropReservation_keeps (ss hM rfl) ha3))
      (State.modCore_keeps (ss hM rfl) ha3)

theorem opSc_keeps {M : Nat} {s0 : State} {a0 a1 a2 a3 a4} (hM : 18695271227409 &&& M = 18695271227409) (ha4 : Keeps
    M s0 a4) : Keeps2 M s0 (opSc a0 a1 a2 a3 a4) := by
  unfold opSc
  extract_lets +onlyGivenNames v0 v1
  refine keeps2_ite ?_ ?_
  · try clear_value v1
    try clear_value v0
    split
    · rename_i x2 x3 q4
      have k5 := congrArg (fun p => p.2) q4
      have hx3 : Keeps M s0 x3 := by
        simp only at k5
        rw [← k5]
        exact keeps_of2 (State.writeScratch_keeps (ss hM rfl) ha4)
      exact keeps2_mk (State.dropReservation_keeps (ss hM rfl) hx3)
  · split
    · exact keeps2_mk (State.dropReservation_keeps (ss hM rfl) ha4)
    · exact keeps2_mk (State.dropReservation_keeps (ss hM rfl) ha4)

theorem State.memSlot_keeps {M : Nat} {s0 : State} {a0 a1 a2 a3 a4 a5} (hM : 2305861704484937745 &&& M =
    2305861704484937745) (ha0 : Keeps M s0 a0) (ha1 : Keeps M s0 a1) : Keeps2 M s0 (State.memSlot a0 a1 a2 a3 a4 a5)
    := by
  unfold State.memSlot
  split
  · exact keeps2_mk ha1
  · exact keeps2_mk (opSt_keeps (ss hM rfl) ha1)
  · exact keeps2_mk ha1
  · exact keeps2_mk (opStp_keeps (ss hM rfl) ha1)
  · exact keeps2_mk (opSta_keeps (ss hM rfl) ha1)
  · exact keeps2_mk (opLr_keeps (ss hM rfl) ha1)
  · split
    · rename_i x0 x1 q2
      have k3 := congrArg (fun p => p.2) q2
      have hx1 : Keeps M s0 x1 := by
        simp only at k3
        rw [← k3]
        exact keeps_of2 (opSc_keeps (ss hM rfl) ha1)
      exact keeps2_mk hx1
  · exact keeps2_mk ha1
  · exact keeps2_mk ha1
  · exact keeps2_mk ha1
  · exact keeps2_mk ha1

theorem State.farRequest_keeps {M : Nat} {s0 : State} {a0 a1 a2 a3 a4} (hM : 2305844110134607873 &&& M =
    2305844110134607873) (ha0 : Keeps M s0 a0) : Keeps M s0 (State.farRequest a0 a1 a2 a3 a4) := by
  unfold State.farRequest
  extract_lets +onlyGivenNames v0 v1 v2 v3
  have h4 : ∀ y5 y7, Keeps M s0 y5 → Keeps M s0 (v3 y5 y7) := fun y5 y7 h6 => State.modCore_keeps (ss hM rfl) h6
  try clear_value v3
  extract_lets +onlyGivenNames v8
  have h9 : Keeps M s0 v8 := h4 _ _ (State.quayStatus_keeps (ss hM rfl) ha0)
  try clear_value v8
  try clear_value v1
  split
  · exact h9
  · exact keeps_ite (h4 _ _ (State.quaySend_keeps (ss hM rfl) ha0)) h9

/-! ## Machine/CoreIssue.lean -/

theorem State.showCore_keeps {M : Nat} {s0 : State} {a0 a1} (hM : 576460752303423488 &&& M = 576460752303423488) (ha0
    : Keeps M s0 a0) : Keeps M s0 (State.showCore a0 a1) := by
  unfold State.showCore
  exact State.wr_keeps (ss hM rfl) (ss hM rfl) (State.wr_keeps (ss hM rfl) (ss hM rfl) (State.wr_keeps (ss hM rfl)
      (ss hM rfl) ha0))

theorem State.checkEmuHalted_keeps {M : Nat} {s0 : State} {a0} (hM : 36284219260929 &&& M = 36284219260929) (ha0 :
    Keeps M s0 a0) : Keeps M s0 (State.checkEmuHalted a0) := by
  unfold State.checkEmuHalted
  exact keeps_ite (State.raise_keeps (ss hM rfl) (State.wr_keeps (ss hM rfl) (ss hM rfl) ha0)) ha0

theorem State.resetCore_keeps {M : Nat} {s0 : State} {a0 a1} (hM : 2882779855772983297 &&& M = 2882779855772983297)
    (ha0 : Keeps M s0 a0) : Keeps M s0 (State.resetCore a0 a1) := by
  unfold State.resetCore
  extract_lets +onlyGivenNames v0
  have h1 : Keeps M s0 v0 := State.modCore_keeps (ss hM rfl) (State.dropReservation_keeps (ss hM rfl) ha0)
  try clear_value v0
  extract_lets +onlyGivenNames v2
  have h3 : Keeps M s0 v2 := State.modCore_keeps (ss hM rfl) h1
  try clear_value v2
  extract_lets +onlyGivenNames v4
  have h5 : Keeps M s0 v4 := State.wr_keeps (ss hM rfl) (offRegs (p := .dbg) rfl (ss hM rfl)) (State.wr_keeps (ss hM
      rfl) (offRegs (p := .dbg) rfl (ss hM rfl)) (State.wr_keeps (ss hM rfl) (ss hM rfl) (State.wr_keeps (ss hM rfl)
      (ss hM rfl) h3)))
  try clear_value v4
  exact State.checkEmuHalted_keeps (ss hM rfl) (State.itemsFailed_keeps (ss hM rfl) (State.showCore_keeps (ss hM rfl)
      (State.wr_keeps (ss hM rfl) (ss hM rfl) h5)))

theorem State.faultRecords_keeps {M : Nat} {s0 : State} {a0 a1 a2} (hM : 720594632429273089 &&& M =
    720594632429273089) (ha0 : Keeps M s0 a0) : Keeps M s0 (State.faultRecords a0 a1 a2) := by
  unfold State.faultRecords
  extract_lets +onlyGivenNames v0
  have h1 : ∀ y2, Keeps M s0 y2 → Keeps M s0 (v0 y2) := fun y2 h3 => State.logEvent_keeps (ss hM rfl)
      (State.err_keeps (ss hM rfl) h3)
  try clear_value v0
  split
  · split
    · split
      · exact State.raise_keeps (ss hM rfl) (State.count_keeps (ss hM rfl) (ss hM rfl) ha0)
      · exact ha0
  · exact State.raise_keeps (ss hM rfl) (State.count_keeps (ss hM rfl) (ss hM rfl) (h1 _ ha0))
  · exact keeps_ite (h1 _ ha0) ha0
  · exact ha0

theorem State.excRegisters_keeps {M : Nat} {s0 : State} {a0 a1 a2 a3 a4} (hM : 576461852150595585 &&& M =
    576461852150595585) (ha0 : Keeps M s0 a0) : Keeps M s0 (State.excRegisters a0 a1 a2 a3 a4) := by
  unfold State.excRegisters
  exact State.raise_keeps (ss hM rfl) (State.wr_keeps (ss hM rfl) (ss hM rfl) (State.wr_keeps (ss hM rfl) (ss hM rfl)
      (State.wr_keeps (ss hM rfl) (ss hM rfl) ha0)))

theorem State.doubleFault_keeps {M : Nat} {s0 : State} {a0 a1 a2 a3 a4} (hM : 2882779855772983297 &&& M =
    2882779855772983297) (ha0 : Keeps M s0 a0) : Keeps M s0 (State.doubleFault a0 a1 a2 a3 a4) := by
  unfold State.doubleFault
  extract_lets +onlyGivenNames v0
  have h1 : Keeps M s0 v0 := State.excRegisters_keeps (ss hM rfl) (State.traceExc_keeps (ss hM rfl) ha0)
  try clear_value v0
  exact State.resetCore_keeps (ss hM rfl) (State.logEvent_keeps (ss hM rfl) h1)

theorem State.takeException_keeps {M : Nat} {s0 : State} {a0 a1 a2 a3 a4 a5} (hM : 2882779855772983297 &&& M =
    2882779855772983297) (ha0 : Keeps M s0 a0) : Keeps M s0 (State.takeException a0 a1 a2 a3 a4 a5) := by
  unfold State.takeException
  extract_lets +onlyGivenNames v0
  have h1 : Keeps M s0 v0 := State.modCore_keeps (ss hM rfl) ha0
  try clear_value v0
  extract_lets +onlyGivenNames v2
  refine keeps_ite ?_ ?_
  · exact State.doubleFault_keeps (ss hM rfl) h1
  · extract_lets +onlyGivenNames v3
    have h4 : Keeps M s0 v3 := State.dropReservation_keeps (ss hM rfl) (State.traceExc_keeps (ss hM rfl) h1)
    try clear_value v3
    extract_lets +onlyGivenNames v5
    have h6 : Keeps M s0 v5 := State.modCore_keeps (ss hM rfl) h4
    try clear_value v5
    exact State.showCore_keeps (ss hM rfl) (State.excRegisters_keeps (ss hM rfl) h6)

theorem State.takeFault_keeps {M : Nat} {s0 : State} {a0 a1 a2} (hM : 3026895043848839169 &&& M =
    3026895043848839169) (ha0 : Keeps M s0 a0) : Keeps M s0 (State.takeFault a0 a1 a2) := by
  unfold State.takeFault
  extract_lets +onlyGivenNames v0
  exact State.takeException_keeps (ss hM rfl) (State.faultRecords_keeps (ss hM rfl) ha0)

theorem State.traceBundle_keeps {M : Nat} {s0 : State} {a0 a1 a2 a3} (hM : 1100920913921 &&& M = 1100920913921) (ha0
    : Keeps M s0 a0) : Keeps M s0 (State.traceBundle a0 a1 a2 a3) := by
  unfold State.traceBundle
  extract_lets +onlyGivenNames v0 v1
  have h2 : Keeps M s0 v1 := keeps_ite (State.traceOutcome_keeps (ss hM rfl) ha0) ha0
  try clear_value v1
  extract_lets +onlyGivenNames v3
  have h4 : Keeps M s0 v3 := keeps_ite (State.traceRep_keeps (ss hM rfl) h2) h2
  try clear_value v3
  split
  · exact keeps_ite (State.traceAddr_keeps (ss hM rfl) h4) h4
  · exact h4

theorem State.napCore_keeps {M : Nat} {s0 : State} {a0 a1} (hM : 576461853224345601 &&& M = 576461853224345601) (ha0
    : Keeps M s0 a0) : Keeps M s0 (State.napCore a0 a1) := by
  unfold State.napCore
  exact keeps_ite ha0 (State.wr_keeps (ss hM rfl) (ss hM rfl) (State.traceNap_keeps (ss hM rfl)
      (State.dropReservation_keeps (ss hM rfl) ha0)))

theorem State.seqEffect_keeps {M : Nat} {s0 : State} {a0 a1 a2 a3} (hM : 2882779855772983297 &&& M =
    2882779855772983297) (ha0 : Keeps M s0 a0) : Keeps M s0 (State.seqEffect a0 a1 a2 a3) := by
  unfold State.seqEffect
  split
  · exact State.modCore_keeps (ss hM rfl) ha0
  · exact State.napCore_keeps (ss hM rfl) ha0
  · exact State.takeException_keeps (ss hM rfl) ha0
  · exact ha0

theorem State.commit_keeps {M : Nat} {s0 : State} {a0 a1 a2} (hM : 2882779857920483345 &&& M = 2882779857920483345)
    (ha0 : Keeps M s0 a0) : Keeps M s0 (State.commit a0 a1 a2) := by
  unfold State.commit
  extract_lets +onlyGivenNames v0 v1
  try clear_value v0
  split
  · rename_i x2 x3 q4
    have k15 := congrArg (fun p => p.2) q4
    have hx3 : Keeps M s0 x3 := by
      simp only at k15
      rw [← k15]
      exact keeps_of2 (State.memSlot_keeps (ss hM rfl) ha0 ha0)
    try clear_value v0
    split
    · rename_i x5 x6 q7
      have k14 := congrArg (fun p => p.2) q7
      have hx6 : Keeps M s0 x6 := by
        simp only at k14
        rw [← k14]
        exact keeps_of2 (State.memSlot_keeps (ss hM rfl) ha0 hx3)
      extract_lets +onlyGivenNames v8
      have h9 : Keeps M s0 v8 := keeps_ite (State.count_keeps (ss hM rfl) (ss hM rfl) hx6) hx6
      try clear_value v8
      extract_lets +onlyGivenNames v10
      have h11 : Keeps M s0 v10 := State.modCore_keeps (ss hM rfl) h9
      try clear_value v10
      extract_lets +onlyGivenNames v12
      have h13 : Keeps M s0 v12 := State.traceBundle_keeps (ss hM rfl) (State.wr_keeps (ss hM rfl) (ss hM rfl) h11)
      try clear_value v12
      exact State.showCore_keeps (ss hM rfl) (State.seqEffect_keeps (ss hM rfl) h13)

theorem State.sendFar_keeps {M : Nat} {s0 : State} {a0 a1 a2} (hM : 2305844110134607873 &&& M = 2305844110134607873)
    (ha0 : Keeps M s0 a0) : Keeps M s0 (State.sendFar a0 a1 a2) := by
  unfold State.sendFar
  extract_lets +onlyGivenNames v0 v1
  have h2 : Keeps M s0 v1 := keeps_ite (State.farRequest_keeps (ss hM rfl) ha0) ha0
  try clear_value v1
  exact keeps_ite (State.farRequest_keeps (ss hM rfl) h2) h2

theorem State.completeFar_keeps {M : Nat} {s0 : State} {a0 a1} (hM : 3026895045996339217 &&& M = 3026895045996339217)
    (ha0 : Keeps M s0 a0) : Keeps M s0 (State.completeFar a0 a1) := by
  unfold State.completeFar
  extract_lets +onlyGivenNames v0
  refine keeps_ite ?_ ?_
  · exact ha0
  · try clear_value v0
    try clear_value v0
    split
    · exact State.takeFault_keeps (ss hM rfl) ha0
    · exact State.commit_keeps (ss hM rfl) ha0
    · exact ha0

theorem State.issue_keeps {M : Nat} {s0 : State} {a0 a1} (hM : 3026895045996339217 &&& M = 3026895045996339217) (ha0
    : Keeps M s0 a0) : Keeps M s0 (State.issue a0 a1) := by
  unfold State.issue
  extract_lets +onlyGivenNames v0
  have h1 : Keeps M s0 v0 := State.firstSync_keeps (ss hM rfl) ha0
  try clear_value v0
  extract_lets +onlyGivenNames v2
  try clear_value v2
  try clear_value v2
  split
  · exact State.takeFault_keeps (ss hM rfl) h1
  · exact keeps_ite (State.completeFar_keeps (ss hM rfl) (State.sendFar_keeps (ss hM rfl) h1)) (State.commit_keeps
        (ss hM rfl) h1)
  · exact h1

theorem State.requestHalt_keeps {M : Nat} {s0 : State} {a0 a1 a2} (hM : 36284957458432 &&& M = 36284957458432) (ha0 :
    Keeps M s0 a0) : Keeps M s0 (State.requestHalt a0 a1 a2) := by
  unfold State.requestHalt
  exact keeps_ite ha0 (State.wr_keeps (ss hM rfl) (offRegs (p := .dbg) rfl (ss hM rfl)) (State.modCore_keeps (ss hM
      rfl) ha0))

theorem State.decideHalt_keeps {M : Nat} {s0 : State} {a0} (hM : 2287121625776129 &&& M = 2287121625776129) (ha0 :
    Keeps M s0 a0) : Keeps M s0 (State.decideHalt a0) := by
  unfold State.decideHalt
  refine keeps_ite ?_ ?_
  · exact ha0
  · refine keeps_ite ?_ ?_
    · exact keeps_ite (State.issueOrder_keeps (ss hM rfl) ha0) (State.report_keeps (ss hM rfl) ha0)
    · extract_lets +onlyGivenNames v0
      have h1 : Keeps M s0 v0 := State.wr_keeps (ss hM rfl) (ss hM rfl) ha0
      try clear_value v0
      exact keeps_mk h1 rfl (g_halts := .inl (ss hM rfl))

theorem State.breakCheck_keeps {M : Nat} {s0 : State} {a0 a1} (hM : 2288222211145729 &&& M = 2288222211145729) (ha0 :
    Keeps M s0 a0) : Keeps M s0 (State.breakCheck a0 a1) := by
  unfold State.breakCheck
  extract_lets +onlyGivenNames v0
  refine keeps_ite ?_ ?_
  · exact ha0
  · try clear_value v0
    split
    · exact ha0
    · extract_lets +onlyGivenNames v1
      have h2 : Keeps M s0 v1 := keeps_ite ha0 (State.wr_keeps (ss hM rfl) (offRegs (p := .dbg) rfl (ss hM rfl))
          (State.wr_keeps (ss hM rfl) (offRegs (p := .dbg) rfl (ss hM rfl)) (State.requestHalt_keeps (ss hM rfl)
          ha0)))
      try clear_value v1
      exact keeps_ite (State.decideHalt_keeps (ss hM rfl) h2) h2

theorem State.tryIssue_keeps {M : Nat} {s0 : State} {a0 a1} (hM : 3029146983250026513 &&& M = 3029146983250026513)
    (ha0 : Keeps M s0 a0) : Keeps M s0 (State.tryIssue a0 a1) := by
  unfold State.tryIssue
  refine keeps_ite ?_ ?_
  · exact ha0
  · extract_lets +onlyGivenNames v0
    have h1 : Keeps M s0 v0 := State.breakCheck_keeps (ss hM rfl) ha0
    try clear_value v0
    exact keeps_ite h1 (State.issue_keeps (ss hM rfl) h1)

theorem State.issueAs_keeps {M : Nat} {s0 : State} {a0 a1 a2 a3} (hM : 3029146983250026513 &&& M =
    3029146983250026513) (ha0 : Keeps M s0 a0) : Keeps M s0 (State.issueAs a0 a1 a2 a3) := by
  unfold State.issueAs
  exact keeps_ite (State.tryIssue_keeps (ss hM rfl) ha0) ha0

/-! ## Machine/Acq.lean -/

theorem State.checkDone_keeps {M : Nat} {s0 : State} {a0 a1} (hM : 1152922604454084609 &&& M = 1152922604454084609)
    (ha0 : Keeps M s0 a0) : Keeps M s0 (State.checkDone a0 a1) := by
  unfold State.checkDone
  extract_lets +onlyGivenNames v0
  exact keeps_ite (State.raise_keeps (ss hM rfl) (State.modAcq_keeps (ss hM rfl) (State.wr_keeps (ss hM rfl) (ss hM
      rfl) ha0))) ha0

theorem State.endCapture_keeps {M : Nat} {s0 : State} {a0 a1} (hM : 1152922604454084609 &&& M = 1152922604454084609)
    (ha0 : Keeps M s0 a0) : Keeps M s0 (State.endCapture a0 a1) := by
  unfold State.endCapture
  exact State.checkDone_keeps (ss hM rfl) (State.modAcq_keeps (ss hM rfl) (State.closeBlock_keeps (ss hM rfl) ha0))

theorem State.refuseAcq_keeps {M : Nat} {s0 : State} {a0 a1 a2} (hM : 1099511627777 &&& M = 1099511627777) (ha0 :
    Keeps M s0 a0) : Keeps M s0 (State.refuseAcq a0 a1 a2) := by
  unfold State.refuseAcq
  exact State.refuseWrite_keeps (ss hM rfl) ha0

theorem keeps_foldl_mem {M : Nat} {α : Type} {s0 s : State} {f : State → α → State} {l : List α} (hi : Keeps M s0 s)
    (hf : ∀ t x, x ∈ l → Keeps M s0 t → Keeps M s0 (f t x)) : Keeps M s0 (l.foldl f s) := by
  induction l generalizing s with
  | nil => exact hi
  | cons x r ih => exact ih (hf _ _ (List.mem_cons_self ..) hi) (fun t y hy => hf t y (List.mem_cons_of_mem _ hy))

theorem armCleared_page : ∀ f ∈ armCleared, f.page = .acq := by decide

theorem doArm_keeps {M : Nat} {s0 : State} {a0 a1 a2} (hM : 1152922604118540289 &&& M = 1152922604118540289) (ha2 : Keeps M s0 a2) : Keeps M s0 (doArm a0 a1 a2) := by
  unfold doArm
  extract_lets +onlyGivenNames v0
  refine keeps_ite (State.refuseAcq_keeps (ss hM rfl) ha2) ?_
  extract_lets +onlyGivenNames v1
  have h2 : Keeps M s0 v1 := keeps_foldl_mem ha2 (fun _ f hf h3 =>
    State.wr_keeps_of (offRegs (armCleared_page f hf) (ss hM rfl)) h3)
  try clear_value v1
  extract_lets +onlyGivenNames vA v4
  have h5 : Keeps M s0 v4 := State.modAcq_keeps (ss hM rfl) h2
  try clear_value v4
  exact State.respond_keeps (ss hM rfl) (State.wr_keeps (ss hM rfl) (ss hM rfl) h5)

theorem doAcqStop_keeps {M : Nat} {s0 : State} {a0 a1 a2} (hM : 1152922604454084609 &&& M = 1152922604454084609) (ha2
    : Keeps M s0 a2) : Keeps M s0 (doAcqStop a0 a1 a2) := by
  unfold doAcqStop
  extract_lets +onlyGivenNames v0
  exact keeps_ite (State.respond_keeps (ss hM rfl) (State.endCapture_keeps (ss hM rfl) ha2)) (keeps_ite
      (State.respond_keeps (ss hM rfl) (State.endCapture_keeps (ss hM rfl) (State.wr_keeps (ss hM rfl) (ss hM rfl)
      ha2))) (State.refuseAcq_keeps (ss hM rfl) ha2))

theorem doForce_keeps {M : Nat} {s0 : State} {a0 a1 a2} (hM : 1099511693313 &&& M = 1099511693313) (ha2 : Keeps M s0
    a2) : Keeps M s0 (doForce a0 a1 a2) := by
  unfold doForce
  exact keeps_ite (State.respond_keeps (ss hM rfl) (State.modAcq_keeps (ss hM rfl) ha2)) (State.refuseAcq_keeps (ss
      hM rfl) ha2)

theorem State.openBlock_keeps {M : Nat} {s0 : State} {a0 a1 a2} (hM : 65536 &&& M = 65536) (ha0 : Keeps M s0 a0) :
    Keeps M s0 (State.openBlock a0 a1 a2) := by
  unfold State.openBlock
  split
  · exact ha0
  · extract_lets +onlyGivenNames v0
    exact State.modAcq_keeps (ss hM rfl) ha0

theorem State.storeSample_keeps {M : Nat} {s0 : State} {a0 a1 a2} (hM : 1152922604454084609 &&& M =
    1152922604454084609) (ha0 : Keeps M s0 a0) : Keeps2 M s0 (State.storeSample a0 a1 a2) := by
  unfold State.storeSample
  refine keeps2_ite ?_ ?_
  · exact keeps2_mk (State.modAcq_keeps (ss hM rfl) (State.closeBlock_keeps (ss hM rfl) (State.raise_keeps (ss hM
        rfl) (State.count_keeps (ss hM rfl) (ss hM rfl) ha0))))
  · extract_lets +onlyGivenNames v0
    have h1 : Keeps M s0 v0 := State.openBlock_keeps (ss hM rfl) ha0
    try clear_value v0
    split
    · exact keeps2_mk h1
    · extract_lets +onlyGivenNames v2
      exact keeps2_mk (State.modAcq_keeps (ss hM rfl) h1)

theorem State.setPair_keeps {M : Nat} {s0 : State} {a0 a1 a2 a3 a4} (hM : 0 &&& M = 0) (hf1 : regBit a1 &&& M =
    regBit a1) (hf2 : regBit a2 &&& M = regBit a2) (ha0 : Keeps M s0 a0) : Keeps M s0 (State.setPair a0 a1 a2 a3 a4)
    := by
  unfold State.setPair
  exact State.wr64_keeps (ss hM rfl) hf1 hf2 ha0

theorem State.takeBranch_keeps {M : Nat} {s0 : State} {a0 a1 a2} (hM : 1152922604118540288 &&& M =
    1152922604118540288) (ha0 : Keeps M s0 a0) : Keeps M s0 (State.takeBranch a0 a1 a2) := by
  unfold State.takeBranch
  extract_lets +onlyGivenNames v0
  have h1 : Keeps M s0 v0 := keeps_foldl ha0 (fun _ _ h2 => State.setPair_keeps (ss hM rfl) (offRegs (p := .acq) rfl
      (ss hM rfl)) (offRegs (p := .acq) rfl (ss hM rfl)) h2)
  try clear_value v0
  extract_lets +onlyGivenNames v3
  have h4 : Keeps M s0 v3 := keeps_foldl h1 (fun _ _ h5 => State.setPair_keeps (ss hM rfl) (offRegs (p := .acq) rfl
      (ss hM rfl)) (offRegs (p := .acq) rfl (ss hM rfl)) h5)
  try clear_value v3
  extract_lets +onlyGivenNames v6
  have h7 : Keeps M s0 v6 := keeps_foldl h4 (fun _ _ h8 => State.modAcq_keeps (ss hM rfl) (State.setPair_keeps (ss hM
      rfl) (offRegs (p := .acq) rfl (ss hM rfl)) (offRegs (p := .acq) rfl (ss hM rfl)) h8))
  try clear_value v6
  extract_lets +onlyGivenNames v9
  have h10 : Keeps M s0 v9 := keeps_foldl h7 (fun _ _ h11 => State.modAcq_keeps (ss hM rfl) h11)
  try clear_value v9
  exact State.wr_keeps (ss hM rfl) (ss hM rfl) h10

theorem State.trigger_keeps {M : Nat} {s0 : State} {a0 a1 a2 a3 a4 a5} (hM : 1155209726079860737 &&& M =
    1155209726079860737) (ha0 : Keeps M s0 a0) : Keeps M s0 (State.trigger a0 a1 a2 a3 a4 a5) := by
  unfold State.trigger
  extract_lets +onlyGivenNames v0
  have h1 : Keeps M s0 v0 := State.wr128_keeps (ss hM rfl) (ss hM rfl) (ss hM rfl) (ss hM rfl) (ss hM rfl)
      (State.wr64_keeps (ss hM rfl) (ss hM rfl) (ss hM rfl) ha0)
  try clear_value v0
  extract_lets +onlyGivenNames v2
  have h3 : Keeps M s0 v2 := by
    unfold v2
    split
    · exact State.modAcq_keeps (ss hM rfl) (State.wr_keeps (ss hM rfl) (ss hM rfl) (State.wr_keeps (ss hM rfl) (ss hM
          rfl) h1))
    · exact h1
  try clear_value v2
  extract_lets +onlyGivenNames v4 v5
  have h6 : Keeps M s0 v5 := State.wr_keeps (ss hM rfl) (ss hM rfl) (State.wr128_keeps (ss hM rfl) (ss hM rfl) (ss hM
      rfl) (ss hM rfl) (ss hM rfl) h3)
  try clear_value v5
  extract_lets +onlyGivenNames v7
  have h8 : Keeps M s0 v7 := State.modAcq_keeps (ss hM rfl) (State.wr_keeps (ss hM rfl) (ss hM rfl) (State.wr_keeps
      (ss hM rfl) (ss hM rfl) (State.wr_keeps (ss hM rfl) (ss hM rfl) h6)))
  try clear_value v7
  extract_lets +onlyGivenNames v9
  have h10 : Keeps M s0 v9 := State.raise_keeps (ss hM rfl) h8
  try clear_value v9
  extract_lets +onlyGivenNames v11
  have h12 : Keeps M s0 v11 := keeps_ite (State.raise_keeps (ss hM rfl) h10) h10
  try clear_value v11
  exact keeps_ite (State.decideHalt_keeps (ss hM rfl) h12) h12

theorem State.evaluate_keeps {M : Nat} {s0 : State} {a0 a1 a2 a3} (hM : 1155209726079860737 &&& M =
    1155209726079860737) (ha0 : Keeps M s0 a0) : Keeps M s0 (State.evaluate a0 a1 a2 a3) := by
  unfold State.evaluate
  extract_lets +onlyGivenNames v0 v1 v2 v3 v4 v5
  have h6 : Keeps M s0 v5 := State.modAcq_keeps (ss hM rfl) ha0
  try clear_value v5
  extract_lets +onlyGivenNames v7
  have h8 : Keeps M s0 v7 := by
    unfold v7
    try clear_value v3
    split
    · exact State.takeBranch_keeps (ss hM rfl) h6
    · exact h6
  try clear_value v7
  try clear_value v3
  split
  · exact keeps_ite (State.trigger_keeps (ss hM rfl) h8) (keeps_ite (State.trigger_keeps (ss hM rfl) h8) h8)
  · exact keeps_ite (State.trigger_keeps (ss hM rfl) h8) h8

theorem State.sampleState_keeps {M : Nat} {s0 : State} {a0 a1 a2 a3} (hM : 1155209726079860737 &&& M =
    1155209726079860737) (ha0 : Keeps M s0 a0) : Keeps M s0 (State.sampleState a0 a1 a2 a3) := by
  unfold State.sampleState
  split
  · extract_lets +onlyGivenNames v0
    have h1 : Keeps M s0 v0 := State.modAcq_keeps (ss hM rfl) ha0
    try clear_value v0
    exact keeps_ite (State.modAcq_keeps (ss hM rfl) (State.wr_keeps (ss hM rfl) (ss hM rfl) h1)) h1
  · exact State.evaluate_keeps (ss hM rfl) ha0
  · exact State.modAcq_keeps (ss hM rfl) ha0
  · exact ha0

theorem State.takeSample_keeps {M : Nat} {s0 : State} {a0 a1 a2} (hM : 1155209726079860737 &&& M =
    1155209726079860737) (ha0 : Keeps M s0 a0) : Keeps M s0 (State.takeSample a0 a1 a2) := by
  unfold State.takeSample
  split
  · rename_i x0 x1 q2
    have k7 := congrArg (fun p => p.2) q2
    have hx1 : Keeps M s0 x1 := by
      simp only at k7
      rw [← k7]
      exact keeps_of2 (State.storeSample_keeps (ss hM rfl) ha0)
    extract_lets +onlyGivenNames v3
    have h4 : Keeps M s0 v3 := State.modAcq_keeps (ss hM rfl) (State.sampleState_keeps (ss hM rfl) hx1)
    try clear_value v3
    extract_lets +onlyGivenNames v5
    have h6 : Keeps M s0 v5 := by
      unfold v5
      split
      · exact keeps_ite (State.closeBlock_keeps (ss hM rfl) h4) h4
      · exact h4
    try clear_value v5
    exact keeps_ite (State.endCapture_keeps (ss hM rfl) h6) h6

theorem State.markReplays_keeps {M : Nat} {s0 s : State} {u n} (hM : 1099847237633 &&& M = 1099847237633) (h : Keeps M s0 s) : Keeps M s0 (s.markReplays u n) := by
  induction n generalizing s with
  | zero => exact h
  | succ n ih =>
    unfold State.markReplays
    split
    · exact ih (State.replayMark_keeps (ss hM rfl) (State.modAcq_keeps (ss hM rfl) h))
    · exact h

theorem doAcqSample_keeps {M : Nat} {s0 : State} {a0 a1} (hM : 1155209726079860737 &&& M = 1155209726079860737) (ha1
    : Keeps M s0 a1) : Keeps M s0 (doAcqSample a0 a1) := by
  unfold doAcqSample
  refine keeps_ite ?_ ?_
  · exact ha1
  · extract_lets +onlyGivenNames v0
    have h1 : Keeps M s0 v0 := keeps_ite (State.clockUnit_keeps (ss hM rfl) ha1) ha1
    try clear_value v0
    split
    · exact State.markReplays_keeps (ss hM rfl) (State.takeSample_keeps (ss hM rfl) (State.modAcq_keeps (ss hM rfl)
          h1))
    · exact h1

theorem execAcqSample_keeps {M : Nat} {s0 : State} {a0 a1} (hM : 1155209726079860737 &&& M = 1155209726079860737)
    (ha1 : Keeps M s0 a1) : KeepsO M s0 (execAcqSample a0 a1) := by
  unfold execAcqSample
  exact keepsO_next (doAcqSample_keeps (ss hM rfl) ha1)

theorem State.acqError_keeps {M : Nat} {s0 : State} {a0 a1 a2 a3} (hM : 1152922604454084609 &&& M =
    1152922604454084609) (ha0 : Keeps M s0 a0) : Keeps M s0 (State.acqError a0 a1 a2 a3) := by
  unfold State.acqError
  refine keeps_ite ?_ ?_
  · exact ha0
  · extract_lets +onlyGivenNames v0
    have h1 : Keeps M s0 v0 := State.wr_keeps (ss hM rfl) (ss hM rfl) (State.wr_keeps (ss hM rfl) (ss hM rfl) ha0)
    try clear_value v0
    exact State.raise_keeps (ss hM rfl) (State.modAcq_keeps (ss hM rfl) (State.err_keeps (ss hM rfl) h1))

theorem State.showWrite_keeps {M : Nat} {s0 : State} {a0 a1 a2} (hM : 1152921504606846976 &&& M =
    1152921504606846976) (ha0 : Keeps M s0 a0) : Keeps M s0 (State.showWrite a0 a1 a2) := by
  unfold State.showWrite
  extract_lets +onlyGivenNames v0 v1
  have h2 : Keeps M s0 v1 := keeps_ite (State.wr_keeps (ss hM rfl) (ss hM rfl) ha0) ha0
  try clear_value v1
  exact State.wr_keeps (ss hM rfl) (ss hM rfl) h2

theorem doAcqBufferWrite_keeps {M : Nat} {s0 : State} {a0 a1} (hM : 3458765613667778561 &&& M = 3458765613667778561)
    (ha1 : Keeps M s0 a1) : Keeps M s0 (doAcqBufferWrite a0 a1) := by
  unfold doAcqBufferWrite
  split
  · exact ha1
  · split
    · extract_lets +onlyGivenNames v0
      split
      · exact ha1
      · extract_lets +onlyGivenNames v1
        have h2 : Keeps M s0 v1 := State.modAcq_keeps (ss hM rfl) ha1
        try clear_value v1
        exact keeps_ite (State.quaySend_keeps (ss hM rfl) (State.showWrite_keeps (ss hM rfl) (State.modAcq_keeps (ss
            hM rfl) h2))) (State.acqError_keeps (ss hM rfl) (State.quayStatus_keeps (ss hM rfl) h2))

theorem execAcqBufferWrite_keeps {M : Nat} {s0 : State} {a0 a1} (hM : 3458765613667778561 &&& M =
    3458765613667778561) (ha1 : Keeps M s0 a1) : KeepsO M s0 (execAcqBufferWrite a0 a1) := by
  unfold execAcqBufferWrite
  exact keepsO_next (doAcqBufferWrite_keeps (ss hM rfl) ha1)

theorem doAcqWriteResponse_keeps {M : Nat} {s0 : State} {a0 a1 a2 a3} (hM : 3458765613667778561 &&& M =
    3458765613667778561) (ha3 : Keeps M s0 a3) : Keeps M s0 (doAcqWriteResponse a0 a1 a2 a3) := by
  unfold doAcqWriteResponse
  split
  · exact ha3
  · extract_lets +onlyGivenNames v0
    have h1 : Keeps M s0 v0 := State.modAcq_keeps (ss hM rfl) (State.quayTake_keeps (ss hM rfl) ha3)
    try clear_value v0
    exact keeps_ite h1 (keeps_ite (State.acqError_keeps (ss hM rfl) h1) (State.checkDone_keeps (ss hM rfl) h1))

theorem execAcqWriteResponse_keeps {M : Nat} {s0 : State} {a0 a1 a2 a3} (hM : 3458765613667778561 &&& M =
    3458765613667778561) (ha3 : Keeps M s0 a3) : KeepsO M s0 (execAcqWriteResponse a0 a1 a2 a3) := by
  unfold execAcqWriteResponse
  exact keepsO_next (doAcqWriteResponse_keeps (ss hM rfl) ha3)

theorem doRdIndexWrite_keeps {M : Nat} {s0 : State} {a0 a1 a2 a3} (hM : 1152922604118474753 &&& M =
    1152922604118474753) (ha3 : Keeps M s0 a3) : Keeps M s0 (doRdIndexWrite a0 a1 a2 a3) := by
  unfold doRdIndexWrite
  extract_lets +onlyGivenNames v0
  exact keeps_ite (State.refuseWrite_keeps (ss hM rfl) ha3) (State.respond_keeps (ss hM rfl) (State.wr_keeps (ss hM
      rfl) (ss hM rfl) ha3))

theorem State.windowWord_keeps {M : Nat} {s0 : State} {a0 a1} (hM : 297256267456460817 &&& M = 297256267456460817)
    (ha0 : Keeps M s0 a0) : Keeps2 M s0 (State.windowWord a0 a1) := by
  unfold State.windowWord
  split
  · split
    · rename_i x0 q1
      have k2 := congrArg (fun p => p.2) q1
      have hx0 : Keeps M s0 x0 := by
        simp only at k2
        rw [← k2]
        exact keeps_of2 (State.directAccess_keeps (ss hM rfl) ha0)
      exact State.readBank_keeps (ss hM rfl) hx0
    · rename_i x3 q4
      have k5 := congrArg (fun p => p.2) q4
      have hx3 : Keeps M s0 x3 := by
        simp only at k5
        rw [← k5]
        exact keeps_of2 (State.directAccess_keeps (ss hM rfl) ha0)
      exact keeps2_mk hx3

theorem State.capture_keeps {M : Nat} {s0 : State} {a0 a1 a2 a3 a4 a5} (hM : 2 &&& M = 2) (ha0 : Keeps M s0 a0) :
    Keeps M s0 (State.capture a0 a1 a2 a3 a4 a5) := by
  unfold State.capture
  exact keeps_mk ha0 rfl (g_access := .inl (ss hM rfl))

theorem doRdDataRead_keeps {M : Nat} {s0 : State} {a0 a1 a2 a3 a4} (hM : 297256267456460819 &&& M =
    297256267456460819) (ha4 : Keeps M s0 a4) : Keeps M s0 (doRdDataRead a0 a1 a2 a3 a4) := by
  unfold doRdDataRead
  extract_lets +onlyGivenNames v0
  have h1 : Keeps M s0 v0 := State.upset_keeps (ss hM rfl) ha4
  try clear_value v0
  refine keeps_ite ?_ ?_
  · refine keeps_ite ?_ ?_
    · exact State.refuseAccess_keeps (ss hM rfl) (State.errReg_keeps (ss hM rfl) h1)
    · split
      · rename_i x2 x3 q4
        have k5 := congrArg (fun p => p.2) q4
        have hx3 : Keeps M s0 x3 := by
          simp only at k5
          rw [← k5]
          exact keeps_of2 (State.windowWord_keeps (ss hM rfl) h1)
        exact State.respond_keeps (ss hM rfl) (State.capture_keeps (ss hM rfl) hx3)
      · rename_i x6 q7
        have k8 := congrArg (fun p => p.2) q7
        have hx6 : Keeps M s0 x6 := by
          simp only at k8
          rw [← k8]
          exact keeps_of2 (State.windowWord_keeps (ss hM rfl) h1)
        exact keeps_ite (State.sealAccess_keeps (ss hM rfl) hx6) (State.refuseAccess_keeps (ss hM rfl) hx6)
  · split
    · exact State.respond_keeps (ss hM rfl) h1
    · exact State.respond_keeps (ss hM rfl) h1

theorem doTdcEdge_keeps {M : Nat} {s0 : State} {a0 a1 a2 a3} (hM : 1152922604118540288 &&& M = 1152922604118540288)
    (ha3 : Keeps M s0 a3) : Keeps M s0 (doTdcEdge a0 a1 a2 a3) := by
  unfold doTdcEdge
  extract_lets +onlyGivenNames v0
  refine keeps_ite ?_ ?_
  · exact ha3
  · extract_lets +onlyGivenNames v1 v2
    refine keeps_ite ?_ ?_
    · exact State.wr_keeps (ss hM rfl) (offRegs (p := .acq) rfl (ss hM rfl)) ha3
    · extract_lets +onlyGivenNames v3
      exact keeps_mk ha3 rfl (g_acq := .inl (ss hM rfl))

theorem execTdcEdge_keeps {M : Nat} {s0 : State} {a0 a1 a2 a3} (hM : 1152922604118540288 &&& M = 1152922604118540288)
    (ha3 : Keeps M s0 a3) : KeepsO M s0 (execTdcEdge a0 a1 a2 a3) := by
  unfold execTdcEdge
  exact keepsO_next (doTdcEdge_keeps (ss hM rfl) ha3)

theorem doTdcStampAvailable_keeps {M : Nat} {s0 : State} {a0 a1} (hM : 1152922604118540288 &&& M =
    1152922604118540288) (ha1 : Keeps M s0 a1) : Keeps M s0 (doTdcStampAvailable a0 a1) := by
  unfold doTdcStampAvailable
  split
  · exact ha1
  · extract_lets +onlyGivenNames v0 v1 v2
    have h3 : Keeps M s0 v2 := keeps_mk ha1 rfl (g_acq := .inl (ss hM rfl))
    try clear_value v2
    extract_lets +onlyGivenNames v4 v5
    have h6 : Keeps M s0 v5 := State.wr_keeps (ss hM rfl) (offRegs (p := .acq) rfl (ss hM rfl)) (State.wr_keeps (ss
        hM rfl) (offRegs (p := .acq) rfl (ss hM rfl)) (State.wr_keeps (ss hM rfl) (offRegs (p := .acq) rfl (ss hM
        rfl)) h3))
    try clear_value v5
    extract_lets +onlyGivenNames v7
    have h8 : Keeps M s0 v7 := State.wr_keeps (ss hM rfl) (offRegs (p := .acq) rfl (ss hM rfl)) (State.wr_keeps (ss
        hM rfl) (offRegs (p := .acq) rfl (ss hM rfl)) (State.wr_keeps (ss hM rfl) (offRegs (p := .acq) rfl (ss hM
        rfl)) h6))
    try clear_value v7
    exact keeps_foldl h8 (fun _ _ h9 => keeps_ite (State.modAcq_keeps (ss hM rfl) h9) h9)

theorem execTdcStampAvailable_keeps {M : Nat} {s0 : State} {a0 a1} (hM : 1152922604118540288 &&& M =
    1152922604118540288) (ha1 : Keeps M s0 a1) : KeepsO M s0 (execTdcStampAvailable a0 a1) := by
  unfold execTdcStampAvailable
  exact keepsO_next (doTdcStampAvailable_keeps (ss hM rfl) ha1)

theorem State.acqTick_keeps {M : Nat} {s0 : State} {a0 a1} (hM : 1152922604118540288 &&& M = 1152922604118540288)
    (ha0 : Keeps M s0 a0) : Keeps M s0 (State.acqTick a0 a1) := by
  unfold State.acqTick
  refine keeps_ite ?_ ?_
  · exact ha0
  · extract_lets +onlyGivenNames v0
    have h1 : Keeps M s0 v0 := keeps_foldl ha0 (fun _ _ h2 => State.setPair_keeps (ss hM rfl) (offRegs (p := .acq)
        rfl (ss hM rfl)) (offRegs (p := .acq) rfl (ss hM rfl)) h2)
    try clear_value v0
    exact keeps_ite (State.modAcq_keeps (ss hM rfl) h1) h1

end Sys2Proof.Machine
end

