-- ==== Sys2Proof/Laws/Keeps3.lean ====
section
/-! SUPPORT. Laws/Keeps3.lean: what the operations of Machine/Irq.lean, Machine/LogCtl.lean, Machine/Firmware.lean, Machine/Thermal.lean, Machine/CoreEvents.lean, Machine/MemPorts.lean, Machine/Debug.lean, Machine/LoadImage.lean
keep of a state. -/

namespace Sys2Proof.Machine
set_option Elab.async false
open Sys2Proof

/-! ## Machine/Irq.lean -/

theorem doIrqTargetWrite_keeps {M : Nat} {s0 : State} {a0 a1 a2 a3} (hM : 141837067091969 &&& M = 141837067091969)
    (ha3 : Keeps M s0 a3) : Keeps M s0 (doIrqTargetWrite a0 a1 a2 a3) := by
  unfold doIrqTargetWrite
  extract_lets +onlyGivenNames v0 v1 v2
  have h3 : Keeps M s0 v2 := State.refuseWrite_keeps (ss hM rfl) ha3
  try clear_value v2
  extract_lets +onlyGivenNames v4
  have h5 : ∀ y6, Keeps M s0 y6 → Keeps M s0 (v4 y6) := fun y6 h7 => State.respond_keeps (ss hM rfl) (State.wr_keeps
      (ss hM rfl) (offRegs (p := .irq) rfl (ss hM rfl)) (State.wr_keeps (ss hM rfl) (offRegs (p := .irq) rfl (ss hM
      rfl)) (State.wr_keeps (ss hM rfl) (offRegs (p := .irq) rfl (ss hM rfl)) h7)))
  try clear_value v4
  extract_lets +onlyGivenNames v8
  exact keeps_ite h3 (keeps_ite (h5 _ (keeps_mk ha3 rfl (g_irq := .inl (ss hM rfl)))) (keeps_ite h3 (keeps_ite h3 (h5
      _ ha3))))

theorem State.setIrqStack_keeps {M : Nat} {s0 : State} {a0 a1 a2} (hM : 141837134200832 &&& M = 141837134200832) (ha0
    : Keeps M s0 a0) : Keeps M s0 (State.setIrqStack a0 a1 a2) := by
  unfold State.setIrqStack
  extract_lets +onlyGivenNames v0
  have h1 : Keeps M s0 v0 := keeps_mk ha0 rfl (g_irqStack := .inl (ss hM rfl))
  try clear_value v0
  exact State.wr_keeps (ss hM rfl) (offRegs (p := .irq) rfl (ss hM rfl)) (State.wr_keeps (ss hM rfl) (offRegs (p :=
      .irq) rfl (ss hM rfl)) (State.wr_keeps (ss hM rfl) (offRegs (p := .irq) rfl (ss hM rfl)) h1))

theorem doControlIrqTake_keeps {M : Nat} {s0 : State} {a0 a1} (hM : 141837134200833 &&& M = 141837134200833) (ha1 :
    Keeps M s0 a1) : Keeps M s0 (doControlIrqTake a0 a1) := by
  unfold doControlIrqTake
  refine keeps_ite ?_ ?_
  · exact ha1
  · split
    · exact ha1
    · exact State.emit_keeps (ss hM rfl) (State.setIrqStack_keeps (ss hM rfl) ha1)

theorem execControlIrqTake_keeps {M : Nat} {s0 : State} {a0 a1} (hM : 141837134200833 &&& M = 141837134200833) (ha1 :
    Keeps M s0 a1) : KeepsO M s0 (execControlIrqTake a0 a1) := by
  unfold execControlIrqTake
  exact keepsO_next (doControlIrqTake_keeps (ss hM rfl) ha1)

theorem State.enterFault_keeps {M : Nat} {s0 : State} {a0} (hM : 27488679886849 &&& M = 27488679886849) (ha0 : Keeps
    M s0 a0) : Keeps M s0 (State.enterFault a0) := by
  unfold State.enterFault
  refine keeps_ite ?_ ?_
  · exact ha0
  · extract_lets +onlyGivenNames v0
    have h1 : Keeps M s0 v0 := State.wr_keeps (ss hM rfl) (ss hM rfl) (State.wr_keeps (ss hM rfl) (ss hM rfl)
        (State.wr_keeps (ss hM rfl) (ss hM rfl) ha0))
    try clear_value v0
    extract_lets +onlyGivenNames v2 v3
    have h4 : Keeps M s0 v3 := keeps_mk h1 rfl (g_control := .inl (ss hM rfl))
    try clear_value v3
    exact State.logEvent_keeps (ss hM rfl) (State.irqEvent_keeps (ss hM rfl) h4)

theorem State.stackFault_keeps {M : Nat} {s0 : State} {a0 a1} (hM : 1099847172097 &&& M = 1099847172097) (ha0 : Keeps
    M s0 a0) : Keeps M s0 (State.stackFault a0 a1) := by
  unfold State.stackFault
  extract_lets +onlyGivenNames v0
  have h1 : Keeps M s0 v0 := State.wr_keeps (ss hM rfl) (ss hM rfl) ha0
  try clear_value v0
  exact keeps_ite (State.irqEvent_keeps (ss hM rfl) h1) h1

theorem doIrqEoi_keeps {M : Nat} {s0 : State} {a0 a1 a2} (hM : 168226302459905 &&& M = 168226302459905) (ha2 : Keeps
    M s0 a2) : Keeps M s0 (doIrqEoi a0 a1 a2) := by
  unfold doIrqEoi
  split
  · split
    · exact keeps_ite (State.respond_keeps (ss hM rfl) (State.setIrqStack_keeps (ss hM rfl) ha2))
          (State.respond_keeps (ss hM rfl) (State.enterFault_keeps (ss hM rfl) (State.stackFault_keeps (ss hM rfl)
          ha2)))
    · exact State.respond_keeps (ss hM rfl) (State.enterFault_keeps (ss hM rfl) (State.stackFault_keeps (ss hM rfl)
          ha2))
  · exact State.deny_keeps (ss hM rfl) ha2

theorem doIrqSwset_keeps {M : Nat} {s0 : State} {a0 a1 a2 a3} (hM : 141837335527425 &&& M = 141837335527425) (ha3 :
    Keeps M s0 a3) : Keeps M s0 (doIrqSwset a0 a1 a2 a3) := by
  unfold doIrqSwset
  extract_lets +onlyGivenNames v0 v1
  have h2 : Keeps M s0 v1 := State.wr_keeps (ss hM rfl) (offRegs (p := .irq) rfl (ss hM rfl)) ha3
  try clear_value v1
  exact State.respond_keeps (ss hM rfl) (keeps_foldl h2 (fun _ _ h3 => State.irqEvent_keeps (ss hM rfl) h3))

theorem doIrqSwclr_keeps {M : Nat} {s0 : State} {a0 a1 a2 a3} (hM : 141837335527425 &&& M = 141837335527425) (ha3 :
    Keeps M s0 a3) : Keeps M s0 (doIrqSwclr a0 a1 a2 a3) := by
  unfold doIrqSwclr
  extract_lets +onlyGivenNames v0 v1
  have h2 : Keeps M s0 v1 := State.wr_keeps (ss hM rfl) (offRegs (p := .irq) rfl (ss hM rfl)) ha3
  try clear_value v1
  exact State.respond_keeps (ss hM rfl) (keeps_foldl h2 (fun _ _ h3 => State.rearmSource_keeps (ss hM rfl) h3))

theorem State.irqControl_keeps {M : Nat} {s0 : State} {a0 a1 a2} (hM : 4611684919251304449 &&& M =
    4611684919251304449) (ha0 : Keeps M s0 a0) : Keeps M s0 (State.irqControl a0 a1 a2) := by
  unfold State.irqControl
  extract_lets +onlyGivenNames v0
  have h1 : Keeps M s0 v0 := State.plainWrite_keeps (ss hM rfl) ha0
  try clear_value v0
  exact keeps_ite (State.respond_keeps (ss hM rfl) (keeps_foldl (keeps_mk h1 rfl (g_irq := .inl (ss hM rfl))) (fun _
      _ h2 => State.irqEvent_keeps (ss hM rfl) h2))) (State.respond_keeps (ss hM rfl) h1)

/-! ## Machine/LogCtl.lean -/

theorem State.putEntry_keeps {M : Nat} {s0 : State} {a0 a1 a2 a3 a4 a5} (hM : 8388624 &&& M = 8388624) (ha0 : Keeps M
    s0 a0) : Keeps M s0 (State.putEntry a0 a1 a2 a3 a4 a5) := by
  unfold State.putEntry
  extract_lets +onlyGivenNames v0
  have h1 : ∀ y2 y4 y5, Keeps M s0 y2 → Keeps M s0 (v0 y2 y4 y5) := fun y2 y4 y5 h3 => State.setEcc_keeps (ss hM rfl)
      (keeps_logbook (ss hM rfl) h3 (SMap.wf_set _ _ _))
  try clear_value v0
  exact h1 _ _ _ (h1 _ _ _ (h1 _ _ _ (h1 _ _ _ ha0)))

theorem State.logAdvance_keeps {M : Nat} {s0 : State} {a0 a1 a2} (hM : 17592202821632 &&& M = 17592202821632) (ha0 :
    Keeps M s0 a0) : Keeps M s0 (State.logAdvance a0 a1 a2) := by
  unfold State.logAdvance
  extract_lets +onlyGivenNames v0 v1
  have h2 : Keeps M s0 v1 := State.wr_keeps (ss hM rfl) (ss hM rfl) (State.wr_keeps (ss hM rfl) (ss hM rfl) (keeps_mk
      ha0 rfl (g_log := .inl (ss hM rfl))))
  try clear_value v1
  extract_lets +onlyGivenNames v3
  have h4 : Keeps M s0 v3 := keeps_ite (State.wr_keeps (ss hM rfl) (ss hM rfl) h2) h2
  try clear_value v3
  exact State.wr_keeps (ss hM rfl) (ss hM rfl) h4

theorem State.keepPermanent_keeps {M : Nat} {s0 : State} {n s} (hM : 18692058382353 &&& M = 18692058382353) (h : Keeps M s0 s) : Keeps M s0 (State.keepPermanent n s) := by
  induction n generalizing s with
  | zero => exact h
  | succ n ih =>
    unfold State.keepPermanent
    extract_lets +onlyGivenNames slot
    exact keeps_ite (keeps_ite (State.raise_keeps (ss hM rfl) (State.wr_keeps (ss hM rfl) (ss hM rfl) (keeps_mk h rfl (g_logbook := .inl (ss hM rfl)))))
      (ih (State.logAdvance_keeps (ss hM rfl) (State.putEntry_keeps (ss hM rfl) h)))) h

theorem State.writeEntry_keeps {M : Nat} {s0 : State} {a0 a1 a2} (hM : 18692058382353 &&& M = 18692058382353) (ha0 :
    Keeps M s0 a0) : Keeps M s0 (State.writeEntry a0 a1 a2) := by
  unfold State.writeEntry
  extract_lets +onlyGivenNames v0
  have h1 : Keeps M s0 v0 := State.keepPermanent_keeps (ss hM rfl) ha0
  try clear_value v0
  extract_lets +onlyGivenNames v2 v3 v4 v5 v6 v7 v8 v9
  have h10 : Keeps M s0 v9 := State.logAdvance_keeps (ss hM rfl) (State.putEntry_keeps (ss hM rfl) h1)
  try clear_value v9
  extract_lets +onlyGivenNames v11
  have h12 : Keeps M s0 v11 := keeps_ite (State.count_keeps (ss hM rfl) (ss hM rfl) (keeps_mk h10 rfl (g_logbook :=
      .inl (ss hM rfl)))) h10
  try clear_value v11
  exact keeps_ite (State.raise_keeps (ss hM rfl) h12) h12

theorem State.logTake_keeps {M : Nat} {s0 : State} {a0 a1} (hM : 18692058382353 &&& M = 18692058382353) (ha0 : Keeps
    M s0 a0) : Keeps M s0 (State.logTake a0 a1) := by
  unfold State.logTake
  extract_lets +onlyGivenNames v0 v1
  have h2 : ∀ y3 y5, Keeps M s0 y3 → Keeps M s0 (v1 y3 y5) := fun y3 y5 h4 => keeps_mk h4 rfl (g_log := .inl (ss hM
      rfl))
  try clear_value v1
  extract_lets +onlyGivenNames v6 v7
  refine keeps_ite ?_ ?_
  · exact h2 _ _ ha0
  · refine keeps_ite ?_ ?_
    · exact State.raise_keeps (ss hM rfl) (State.count_keeps (ss hM rfl) (ss hM rfl) ha0)
    · extract_lets +onlyGivenNames v8
      have h9 : Keeps M s0 v8 := h2 _ _ ha0
      try clear_value v8
      exact State.writeEntry_keeps (ss hM rfl) (keeps_mk h9 rfl (g_log := .inl (ss hM rfl)))

theorem doLogbookWrite_keeps {M : Nat} {s0 : State} {a0} (hM : 18692058382353 &&& M = 18692058382353) (ha0 : Keeps M
    s0 a0) : Keeps M s0 (doLogbookWrite a0) := by
  unfold doLogbookWrite
  refine keeps_ite ?_ ?_
  · split
    · exact ha0
    · exact State.logTake_keeps (ss hM rfl) (keeps_mk ha0 rfl (g_log := .inl (ss hM rfl)))
  · exact ha0

theorem execLogbookWrite_keeps {M : Nat} {s0 : State} {a0} (hM : 18692058382353 &&& M = 18692058382353) (ha0 : Keeps
    M s0 a0) : KeepsO M s0 (execLogbookWrite a0) := by
  unfold execLogbookWrite
  exact keepsO_next (doLogbookWrite_keeps (ss hM rfl) ha0)

theorem doLogbookScanDone_keeps {M : Nat} {s0 : State} {a0} (hM : 17592202821632 &&& M = 17592202821632) (ha0 : Keeps
    M s0 a0) : Keeps M s0 (doLogbookScanDone a0) := by
  unfold doLogbookScanDone
  refine keeps_ite ?_ ?_
  · exact ha0
  · extract_lets +onlyGivenNames v0 v1 v2 v3 v4
    have h5 : Keeps M s0 v4 := keeps_mk ha0 rfl (g_log := .inl (ss hM rfl))
    try clear_value v4
    extract_lets +onlyGivenNames v6
    have h7 : Keeps M s0 v6 := State.wr_keeps (ss hM rfl) (ss hM rfl) (State.wr_keeps (ss hM rfl) (ss hM rfl)
        (State.wr_keeps (ss hM rfl) (ss hM rfl) h5))
    try clear_value v6
    extract_lets +onlyGivenNames v8
    have h9 : Keeps M s0 v8 := State.wr_keeps (ss hM rfl) (ss hM rfl) (State.wrSat_keeps (ss hM rfl) (ss hM rfl) h7)
    try clear_value v8
    exact State.wr_keeps (ss hM rfl) (ss hM rfl) (State.wr_keeps (ss hM rfl) (ss hM rfl) h9)

theorem execLogbookScanDone_keeps {M : Nat} {s0 : State} {a0} (hM : 17592202821632 &&& M = 17592202821632) (ha0 :
    Keeps M s0 a0) : KeepsO M s0 (execLogbookScanDone a0) := by
  unfold execLogbookScanDone
  exact keepsO_next (doLogbookScanDone_keeps (ss hM rfl) ha0)

theorem doLogUserCmd_keeps {M : Nat} {s0 : State} {a0 a1 a2} (hM : 18692049993729 &&& M = 18692049993729) (ha2 :
    Keeps M s0 a2) : Keeps M s0 (doLogUserCmd a0 a1 a2) := by
  unfold doLogUserCmd
  extract_lets +onlyGivenNames v0
  exact State.respond_keeps (ss hM rfl) (State.logQueue_keeps (ss hM rfl) ha2)

/-! ## Machine/Firmware.lean -/

theorem State.sealSegments_keeps {M : Nat} {s0 : State} {a0 a1 a2} (hM : 16 &&& M = 16) (ha0 : Keeps M s0 a0) : Keeps
    M s0 (State.sealSegments a0 a1 a2) := by
  unfold State.sealSegments
  refine keeps_ite ?_ ?_
  · refine keeps_foldl ?_ ?_
    · exact ha0
    · intro _ _ h0
      split
      · extract_lets +onlyGivenNames v1 v2
        exact keeps_mk h0 rfl (g_health := .inl (ss hM rfl))
  · exact ha0

theorem Control.setByte_sorted {c : Control} {k i v : Nat} (h : SMap.sorted c.mem = true) :
    SMap.sorted (c.setByte k i v).mem = true := SMap.sorted_put _ _ h

theorem Control.foldl_sorted {α : Type} {f : Control → α → Control} {l : List α} {c : Control}
    (hf : ∀ c x, SMap.sorted c.mem = true → SMap.sorted (f c x).mem = true) (h : SMap.sorted c.mem = true) :
    SMap.sorted (l.foldl f c).mem = true := by
  induction l generalizing c with
  | nil => exact h
  | cons x r ih => exact ih (hf c x h)

theorem Control.copySegment_sorted {c : Control} {l : List W32} {k : Nat} (h : SMap.sorted c.mem = true) :
    SMap.sorted (c.copySegment l k).mem = true :=
  Control.foldl_sorted (fun _ _ h => Control.setByte_sorted h) h

theorem State.takeImage_keeps {M : Nat} {s0 : State} {a0 a1 a2 a3} (hM : 536870928 &&& M = 536870928) (ha0 : Keeps M s0 a0) : Keeps M s0 (State.takeImage a0 a1 a2 a3) := by
  refine State.sealSegments_keeps (ss hM rfl) ?_
  refine keeps_controlMem (ss hM rfl) ha0 (fun h => ?_)
  show SMap.sorted (if imageCopied a1 a2 a3 then _ else a0.control : Control).mem = true
  split
  · exact Control.foldl_sorted (fun _ _ h => Control.copySegment_sorted h) h
  · exact h

theorem State.mbxResult_keeps {M : Nat} {s0 : State} {a0 a1 a2} (hM : 536870912 &&& M = 536870912) (ha0 : Keeps M s0
    a0) : Keeps M s0 (State.mbxResult a0 a1 a2) := by
  unfold State.mbxResult
  exact State.modControl_keeps (ss hM rfl) (fun _ => rfl) ha0

theorem State.doorbell_keeps {M : Nat} {s0 : State} {a0 a1 a2 a3 a4 a5} (hM : 9896477065217 &&& M = 9896477065217)
    (ha0 : Keeps M s0 a0) (ha5 : ∀ y0, Keeps M s0 y0 → Keeps M s0 (a5 y0)) : Keeps M s0 (State.doorbell a0 a1 a2 a3
    a4 a5) := by
  unfold State.doorbell
  refine keeps_ite ?_ ?_
  · exact State.refuseWrite_keeps (ss hM rfl) ha0
  · extract_lets +onlyGivenNames v0
    have h1 : Keeps M s0 v0 := State.wr_keeps (ss hM rfl) (ss hM rfl) (State.wr_keeps (ss hM rfl) (ss hM rfl) ha0)
    try clear_value v0
    extract_lets +onlyGivenNames v2
    have h3 : Keeps M s0 v2 := State.modControl_keeps (ss hM rfl) (fun _ => rfl) (State.irqEvent_keeps (ss hM rfl) h1)
    try clear_value v2
    exact State.respond_keeps (ss hM rfl) (keeps_ite (ha5 _ h3) (State.mbxResult_keeps (ss hM rfl) h3))

theorem doGetInfo_keeps {M : Nat} {s0 : State} {a0 a1 a2} (hM : 9896477065217 &&& M = 9896477065217) (ha2 : Keeps M
    s0 a2) : Keeps M s0 (doGetInfo a0 a1 a2) := by
  unfold doGetInfo
  refine State.doorbell_keeps (ss hM rfl) ?_ ?_
  · exact ha2
  · intro y0 h1
    extract_lets +onlyGivenNames v2
    exact State.mbxResult_keeps (ss hM rfl) h1

theorem doEcho_keeps {M : Nat} {s0 : State} {a0 a1 a2} (hM : 9896477065217 &&& M = 9896477065217) (ha2 : Keeps M s0
    a2) : Keeps M s0 (doEcho a0 a1 a2) := by
  unfold doEcho
  exact State.doorbell_keeps (ss hM rfl) ha2 (fun y0 h1 => State.mbxResult_keeps (ss hM rfl) h1)

theorem State.stepPll_keeps {M : Nat} {s0 : State} {a0 a1} (hM : 4398046511104 &&& M = 4398046511104) (ha0 : Keeps M
    s0 a0) : Keeps M s0 (State.stepPll a0 a1) := by
  unfold State.stepPll
  exact State.wr_keeps (ss hM rfl) (ss hM rfl) (State.wr_keeps (ss hM rfl) (ss hM rfl) ha0)

theorem State.wakeBlock_keeps {M : Nat} {s0 : State} {a0 a1} (hM : 2305847415850139648 &&& M = 2305847415850139648)
    (ha0 : Keeps M s0 a0) : Keeps M s0 (State.wakeBlock a0 a1) := by
  unfold State.wakeBlock
  extract_lets +onlyGivenNames v0
  have h1 : Keeps M s0 v0 := keeps_mk ha0 rfl (g_power := .inl (ss hM rfl))
  try clear_value v0
  extract_lets +onlyGivenNames v2
  have h3 : Keeps M s0 v2 := keeps_ite (State.stepPll_keeps (ss hM rfl) h1) h1
  try clear_value v2
  exact keeps_ite (State.wr_keeps (ss hM rfl) (ss hM rfl) h3) h3

theorem State.sleepBlock_keeps {M : Nat} {s0 : State} {a0 a1} (hM : 4406636445696 &&& M = 4406636445696) (ha0 : Keeps
    M s0 a0) : Keeps M s0 (State.sleepBlock a0 a1) := by
  unfold State.sleepBlock
  extract_lets +onlyGivenNames v0
  have h1 : Keeps M s0 v0 := keeps_mk ha0 rfl (g_power := .inl (ss hM rfl))
  try clear_value v0
  exact keeps_ite (State.stepPll_keeps (ss hM rfl) h1) (keeps_ite (State.wr_keeps (ss hM rfl) (ss hM rfl) h1)
      (keeps_ite (State.wr_keeps (ss hM rfl) (ss hM rfl) h1) h1))

theorem doBlockEnable_keeps {M : Nat} {s0 : State} {a0 a1 a2} (hM : 2305857312327204865 &&& M = 2305857312327204865)
    (ha2 : Keeps M s0 a2) : Keeps M s0 (doBlockEnable a0 a1 a2) := by
  unfold doBlockEnable
  refine State.doorbell_keeps (ss hM rfl) ?_ ?_
  · exact ha2
  · intro y0 h1
    extract_lets +onlyGivenNames v2 v3
    exact keeps_ite (State.mbxResult_keeps (ss hM rfl) h1) (State.mbxResult_keeps (ss hM rfl) (State.wakeBlock_keeps
        (ss hM rfl) h1))

theorem doBlockDisable_keeps {M : Nat} {s0 : State} {a0 a1 a2} (hM : 14303113510913 &&& M = 14303113510913) (ha2 :
    Keeps M s0 a2) : Keeps M s0 (doBlockDisable a0 a1 a2) := by
  unfold doBlockDisable
  refine State.doorbell_keeps (ss hM rfl) ?_ ?_
  · exact ha2
  · intro y0 h1
    extract_lets +onlyGivenNames v2 v3
    exact keeps_ite (State.mbxResult_keeps (ss hM rfl) h1) (keeps_ite (State.mbxResult_keeps (ss hM rfl) h1)
        (State.mbxResult_keeps (ss hM rfl) (State.sleepBlock_keeps (ss hM rfl) h1)))

theorem doSetStepFreq_keeps {M : Nat} {s0 : State} {a0 a1 a2} (hM : 14294523576321 &&& M = 14294523576321) (ha2 :
    Keeps M s0 a2) : Keeps M s0 (doSetStepFreq a0 a1 a2) := by
  unfold doSetStepFreq
  refine State.doorbell_keeps (ss hM rfl) ?_ ?_
  · exact ha2
  · intro y0 h1
    extract_lets +onlyGivenNames v2
    refine keeps_ite ?_ ?_
    · exact State.mbxResult_keeps (ss hM rfl) h1
    · refine keeps_ite ?_ ?_
      · exact State.mbxResult_keeps (ss hM rfl) h1
      · extract_lets +onlyGivenNames v3
        have h4 : Keeps M s0 v3 := State.wr_keeps (ss hM rfl) (ss hM rfl) h1
        try clear_value v3
        exact State.mbxResult_keeps (ss hM rfl) (keeps_ite (State.wr_keeps (ss hM rfl) (ss hM rfl) h4) h4)

theorem doFwLoad_keeps {M : Nat} {s0 : State} {a0 a1 a2 a3 a4} (hM : 9896477065233 &&& M = 9896477065233) (ha4 :
    Keeps M s0 a4) : Keeps M s0 (doFwLoad a0 a1 a2 a3 a4) := by
  unfold doFwLoad
  refine State.doorbell_keeps (ss hM rfl) ?_ ?_
  · exact ha4
  · intro y0 h1
    extract_lets +onlyGivenNames v2 v3 v4
    have h5 : Keeps M s0 v4 := State.mbxResult_keeps (ss hM rfl) (State.takeImage_keeps (ss hM rfl) h1)
    try clear_value v4
    exact keeps_ite h5 (State.raise_keeps (ss hM rfl) h5)

theorem doFwStart_keeps {M : Nat} {s0 : State} {a0 a1 a2} (hM : 27488679886849 &&& M = 27488679886849) (ha2 : Keeps M
    s0 a2) : Keeps M s0 (doFwStart a0 a1 a2) := by
  unfold doFwStart
  refine State.doorbell_keeps (ss hM rfl) ?_ ?_
  · exact ha2
  · intro y0 h1
    split
    · exact State.mbxResult_keeps (ss hM rfl) h1
    · extract_lets +onlyGivenNames v2
      have h3 : Keeps M s0 v2 := keeps_ite (State.logEvent_keeps (ss hM rfl) (State.modControl_keeps (ss hM rfl) (fun
          _ => rfl) h1)) h1
      try clear_value v2
      exact State.mbxResult_keeps (ss hM rfl) (State.modControl_keeps (ss hM rfl) (fun _ => rfl) (State.wr_keeps (ss
          hM rfl) (ss hM rfl) h3))

theorem State.finishDbgLoad_keeps {M : Nat} {s0 : State} {a0 a1} (hM : 536870928 &&& M = 536870928) (ha0 : Keeps M s0
    a0) : Keeps M s0 (State.finishDbgLoad a0 a1) := by
  unfold State.finishDbgLoad
  extract_lets +onlyGivenNames v0
  exact State.mbxResult_keeps (ss hM rfl) (State.modControl_keeps (ss hM rfl) (fun _ => rfl) (State.takeImage_keeps
      (ss hM rfl) ha0))

theorem State.takeFifo_keeps {M : Nat} {s0 : State} {a0} (hM : 536870928 &&& M = 536870928) (ha0 : Keeps M s0 a0) :
    Keeps M s0 (State.takeFifo a0) := by
  unfold State.takeFifo
  split
  · exact ha0
  · extract_lets +onlyGivenNames v0 v1
    have h2 : Keeps M s0 v1 := State.modControl_keeps (ss hM rfl) (fun _ => rfl) ha0
    try clear_value v1
    exact keeps_ite (State.finishDbgLoad_keeps (ss hM rfl) h2) h2

theorem doFwLoadDbg_keeps {M : Nat} {s0 : State} {a0 a1 a2} (hM : 9896477065233 &&& M = 9896477065233) (ha2 : Keeps M
    s0 a2) : Keeps M s0 (doFwLoadDbg a0 a1 a2) := by
  unfold doFwLoadDbg
  exact State.doorbell_keeps (ss hM rfl) ha2 (fun y0 h1 => State.takeFifo_keeps (ss hM rfl) (State.modControl_keeps
      (ss hM rfl) (fun _ => rfl) h1))

theorem doFwFifoWrite_keeps {M : Nat} {s0 : State} {a0 a1 a2} (hM : 1100384043025 &&& M = 1100384043025) (ha2 : Keeps
    M s0 a2) : Keeps M s0 (doFwFifoWrite a0 a1 a2) := by
  unfold doFwFifoWrite
  exact keeps_ite (State.refuseAccess_keeps (ss hM rfl) ha2) (State.respond_keeps (ss hM rfl) (State.takeFifo_keeps
      (ss hM rfl) (State.modControl_keeps (ss hM rfl) (fun _ => rfl) ha2)))

theorem doFwFifoTimeout_keeps {M : Nat} {s0 : State} {a0} (hM : 536870912 &&& M = 536870912) (ha0 : Keeps M s0 a0) :
    Keeps M s0 (doFwFifoTimeout a0) := by
  unfold doFwFifoTimeout
  split
  · exact ha0
  · exact State.mbxResult_keeps (ss hM rfl) (State.modControl_keeps (ss hM rfl) (fun _ => rfl) ha0)

theorem execFwFifoTimeout_keeps {M : Nat} {s0 : State} {a0} (hM : 536870912 &&& M = 536870912) (ha0 : Keeps M s0 a0)
    : KeepsO M s0 (execFwFifoTimeout a0) := by
  unfold execFwFifoTimeout
  exact keepsO_next (doFwFifoTimeout_keeps (ss hM rfl) ha0)

theorem State.reapplyRepair_keeps {M : Nat} {s0 : State} {a0 a1 a2 a3 a4} (hM : 288231475663339520 &&& M =
    288231475663339520) (ha0 : Keeps M s0 a0) : Keeps M s0 (State.reapplyRepair a0 a1 a2 a3 a4) := by
  unfold State.reapplyRepair
  extract_lets +onlyGivenNames v0
  have h1 : Keeps M s0 v0 := keeps_foldl ha0 (fun _ _ h2 => keeps_ite (State.setRepair_keeps (ss hM rfl) h2) h2)
  try clear_value v0
  exact State.setRepair_keeps (ss hM rfl) h1

theorem State.reapply_keeps {M : Nat} {s0 : State} {a0 a1} (hM : 360289069701267456 &&& M = 360289069701267456) (ha0
    : Keeps M s0 a0) : Keeps M s0 (State.reapply a0 a1) := by
  unfold State.reapply
  extract_lets +onlyGivenNames v0
  refine keeps_ite ?_ ?_
  · exact State.wr_keeps (ss hM rfl) (ss hM rfl) (State.wr_keeps (ss hM rfl) (ss hM rfl) ha0)
  · refine keeps_ite ?_ ?_
    · extract_lets +onlyGivenNames v1 v2
      exact keeps_ite (State.wr_keeps (ss hM rfl) (ss hM rfl) (State.wr_keeps (ss hM rfl) (ss hM rfl) ha0))
          (State.wr_keeps (ss hM rfl) (ss hM rfl) (State.wr_keeps (ss hM rfl) (ss hM rfl) ha0))
    · exact keeps_ite (keeps_ite (State.wr_keeps (ss hM rfl) (ss hM rfl) ha0) (State.wr_keeps (ss hM rfl) (ss hM rfl)
          ha0)) (keeps_ite (State.reapplyRepair_keeps (ss hM rfl) ha0) ha0)

theorem State.setRoute_keeps {M : Nat} {s0 : State} {a0 a1 a2} (hM : 2305844108725321728 &&& M = 2305844108725321728)
    (ha0 : Keeps M s0 a0) : Keeps M s0 (State.setRoute a0 a1 a2) := by
  unfold State.setRoute
  exact keeps_ite ha0 (State.wr_keeps (ss hM rfl) (offRegs (p := .noc) rfl (ss hM rfl)) (State.wr_keeps (ss hM rfl)
      (offRegs (p := .noc) rfl (ss hM rfl)) ha0))

theorem State.setRoutes_keeps {M : Nat} {s0 : State} {a0 a1} (hM : 2305844108725321728 &&& M = 2305844108725321728)
    (ha0 : Keeps M s0 a0) : Keeps M s0 (State.setRoutes a0 a1) := by
  unfold State.setRoutes
  exact keeps_foldl ha0 (fun _ _ h0 => keeps_foldl h0 (fun _ _ h1 => State.setRoute_keeps (ss hM rfl) h1))

theorem State.zeroBanks_keeps {M : Nat} {s0 : State} {a0} (hM : 536872976 &&& M = 536872976) (ha0 : Keeps M s0 a0) :
    Keeps M s0 (State.zeroBanks a0) := by
  unfold State.zeroBanks
  have h := keeps_dmem (ss hM rfl) ha0 (fun _ => SMap.wf_nil 0)
  exact keeps_mk h rfl (g_health := .inl (ss hM rfl)) (g_control := .inl (ss hM rfl))

theorem State.firmwareUp_keeps {M : Nat} {s0 : State} {a0} (hM : 2675153031191857168 &&& M = 2675153031191857168)
    (ha0 : Keeps M s0 a0) : Keeps M s0 (State.firmwareUp a0) := by
  unfold State.firmwareUp
  extract_lets +onlyGivenNames v0
  have h1 : Keeps M s0 v0 := keeps_ite (State.spareCounts_keeps (ss hM rfl) (keeps_foldl ha0 (fun _ _ h2 =>
      State.reapply_keeps (ss hM rfl) h2))) ha0
  try clear_value v0
  extract_lets +onlyGivenNames v3
  have h4 : Keeps M s0 v3 := keeps_ite (State.zeroBanks_keeps (ss hM rfl) h1) h1
  try clear_value v3
  extract_lets +onlyGivenNames v5
  have h6 : Keeps M s0 v5 := State.setRoutes_keeps (ss hM rfl) h4
  try clear_value v5
  extract_lets +onlyGivenNames v7
  have h8 : Keeps M s0 v7 := keeps_foldl (keeps_mk h6 rfl (g_health := .inl (ss hM rfl)) (g_noc := .inl (ss hM rfl)))
      (fun _ _ h9 => State.wakeBlock_keeps (ss hM rfl) h9)
  try clear_value v7
  extract_lets +onlyGivenNames v10
  have h11 : Keeps M s0 v10 := State.wr_keeps (ss hM rfl) (ss hM rfl) (State.modControl_keeps (ss hM rfl) (fun _ =>
      rfl) h8)
  try clear_value v10
  exact State.devState_keeps (ss hM rfl) (keeps_ite (State.wr_keeps (ss hM rfl) (ss hM rfl) h11) h11)

theorem doMailboxCompletion_keeps {M : Nat} {s0 : State} {a0} (hM : 2675153031527401489 &&& M = 2675153031527401489)
    (ha0 : Keeps M s0 a0) : Keeps M s0 (doMailboxCompletion a0) := by
  unfold doMailboxCompletion
  split
  · exact ha0
  · split
    · exact ha0
    · extract_lets +onlyGivenNames v0
      have h1 : Keeps M s0 v0 := keeps_ite (State.firmwareUp_keeps (ss hM rfl) ha0) ha0
      try clear_value v0
      extract_lets +onlyGivenNames v2
      have h3 : Keeps M s0 v2 := keeps_foldl h1 (fun _ _ h4 => State.wr_keeps (ss hM rfl) (offRegs (p := .hst) rfl
          (ss hM rfl)) h4)
      try clear_value v2
      extract_lets +onlyGivenNames v5
      have h6 : Keeps M s0 v5 := State.wr_keeps (ss hM rfl) (ss hM rfl) (State.wr_keeps (ss hM rfl) (ss hM rfl)
          (State.wr_keeps (ss hM rfl) (ss hM rfl) h3))
      try clear_value v5
      exact State.raise_keeps (ss hM rfl) (State.modControl_keeps (ss hM rfl) (fun _ => rfl) (State.wr_keeps (ss hM
          rfl) (ss hM rfl) h6))

theorem execMailboxCompletion_keeps {M : Nat} {s0 : State} {a0} (hM : 2675153031527401489 &&& M =
    2675153031527401489) (ha0 : Keeps M s0 a0) : KeepsO M s0 (execMailboxCompletion a0) := by
  unfold execMailboxCompletion
  exact keepsO_next (doMailboxCompletion_keeps (ss hM rfl) ha0)

theorem doHeartbeat_keeps {M : Nat} {s0 : State} {a0} (hM : 8796093022208 &&& M = 8796093022208) (ha0 : Keeps M s0
    a0) : Keeps M s0 (doHeartbeat a0) := by
  unfold doHeartbeat
  exact keeps_ite (State.wr_keeps (ss hM rfl) (ss hM rfl) ha0) ha0

theorem execHeartbeat_keeps {M : Nat} {s0 : State} {a0} (hM : 8796093022208 &&& M = 8796093022208) (ha0 : Keeps M s0
    a0) : KeepsO M s0 (execHeartbeat a0) := by
  unfold execHeartbeat
  exact keepsO_next (doHeartbeat_keeps (ss hM rfl) ha0)

theorem doControlWdtExpiry_keeps {M : Nat} {s0 : State} {a0 a1} (hM : 27488679886849 &&& M = 27488679886849) (ha1 :
    Keeps M s0 a1) : Keeps M s0 (doControlWdtExpiry a0 a1) := by
  unfold doControlWdtExpiry
  exact keeps_ite (State.enterFault_keeps (ss hM rfl) ha1) ha1

theorem execControlWdtExpiry_keeps {M : Nat} {s0 : State} {a0 a1} (hM : 27488679886849 &&& M = 27488679886849) (ha1 :
    Keeps M s0 a1) : KeepsO M s0 (execControlWdtExpiry a0 a1) := by
  unfold execControlWdtExpiry
  exact keepsO_next (doControlWdtExpiry_keeps (ss hM rfl) ha1)

/-! ## Machine/Thermal.lean -/

theorem State.retarget_keeps {M : Nat} {s0 : State} {a0} (hM : 8589934592 &&& M = 8589934592) (ha0 : Keeps M s0 a0) :
    Keeps M s0 (State.retarget a0) := by
  unfold State.retarget
  exact keeps_mk ha0 rfl (g_power := .inl (ss hM rfl))

theorem State.throttleEdge_keeps {M : Nat} {s0 : State} {a0 a1} (hM : 144116287923028993 &&& M = 144116287923028993)
    (ha0 : Keeps M s0 a0) : Keeps M s0 (State.throttleEdge a0 a1) := by
  unfold State.throttleEdge
  exact keeps_foldl ha0 (fun _ _ h0 => keeps_ite (keeps_ite (State.throttleBegin_keeps (ss hM rfl) h0) h0)
      (State.throttleEnd_keeps (ss hM rfl) h0))

theorem State.setMHz_keeps {M : Nat} {s0 : State} {a0 a1} (hM : 144120694559474689 &&& M = 144120694559474689) (ha0 :
    Keeps M s0 a0) : Keeps M s0 (State.setMHz a0 a1) := by
  unfold State.setMHz
  exact keeps_ite (keeps_mk ha0 rfl (g_power := .inl (ss hM rfl))) (State.throttleEdge_keeps (ss hM rfl)
      (State.wr_keeps (ss hM rfl) (ss hM rfl) (keeps_mk ha0 rfl (g_power := .inl (ss hM rfl)))))

theorem doStepFreqChange_keeps {M : Nat} {s0 : State} {a0} (hM : 144120694559474689 &&& M = 144120694559474689) (ha0
    : Keeps M s0 a0) : Keeps M s0 (doStepFreqChange a0) := by
  unfold doStepFreqChange
  split
  · exact ha0
  · exact keeps_ite ha0 (State.setMHz_keeps (ss hM rfl) ha0)

theorem execStepFreqChange_keeps {M : Nat} {s0 : State} {a0} (hM : 144120694559474689 &&& M = 144120694559474689)
    (ha0 : Keeps M s0 a0) : KeepsO M s0 (execStepFreqChange a0) := by
  unfold execStepFreqChange
  exact keepsO_next (doStepFreqChange_keeps (ss hM rfl) ha0)

theorem State.takeRequest_keeps {M : Nat} {s0 : State} {a0 a1 a2} (hM : 8590983169 &&& M = 8590983169) (ha0 : Keeps M
    s0 a0) : Keeps M s0 (State.takeRequest a0 a1 a2) := by
  unfold State.takeRequest
  extract_lets +onlyGivenNames v0
  have h1 : Keeps M s0 v0 := keeps_mk ha0 rfl (g_power := .inl (ss hM rfl))
  try clear_value v0
  exact State.issueOrder_keeps (ss hM rfl) h1

theorem State.askMHz_keeps {M : Nat} {s0 : State} {a0} (hM : 2251808404668417 &&& M = 2251808404668417) (ha0 : Keeps
    M s0 a0) : Keeps M s0 (State.askMHz a0) := by
  unfold State.askMHz
  refine keeps_ite ?_ ?_
  · exact State.retarget_keeps (ss hM rfl) ha0
  · extract_lets +onlyGivenNames v0
    exact keeps_ite (State.takeRequest_keeps (ss hM rfl) ha0) (State.report_keeps (ss hM rfl) ha0)

theorem doThrottleReqReport_keeps {M : Nat} {s0 : State} {a0 a1 a2} (hM : 8590983169 &&& M = 8590983169) (ha2 : Keeps
    M s0 a2) : Keeps M s0 (doThrottleReqReport a0 a1 a2) := by
  unfold doThrottleReqReport
  exact keeps_ite (State.takeRequest_keeps (ss hM rfl) ha2) (State.passReport_keeps (ss hM rfl) ha2)

theorem execThrottleReqReport_keeps {M : Nat} {s0 : State} {a0 a1 a2} (hM : 8590983169 &&& M = 8590983169) (ha2 :
    Keeps M s0 a2) : KeepsO M s0 (execThrottleReqReport a0 a1 a2) := by
  unfold execThrottleReqReport
  exact keepsO_next (doThrottleReqReport_keeps (ss hM rfl) ha2)

theorem doStepfreqOrder_keeps {M : Nat} {s0 : State} {a0} (hM : 144120694560523265 &&& M = 144120694560523265) (ha0 :
    Keeps M s0 a0) : Keeps M s0 (doStepfreqOrder a0) := by
  unfold doStepfreqOrder
  split
  · rename_i x0 q1
    exact ha0
  · rename_i x3 x4 q5
    have hx4 : Keeps M s0 x4 := keepsOpt2_eq (State.landing_keeps (ss hM rfl) ha0) q5
    exact State.setMHz_keeps (ss hM rfl) hx4

theorem execStepfreqOrder_keeps {M : Nat} {s0 : State} {a0} (hM : 144120694560523265 &&& M = 144120694560523265) (ha0
    : Keeps M s0 a0) : KeepsO M s0 (execStepfreqOrder a0) := by
  unfold execStepfreqOrder
  exact keepsO_next (doStepfreqOrder_keeps (ss hM rfl) ha0)

theorem State.engage_keeps {M : Nat} {s0 : State} {a0} (hM : 2257306298351617 &&& M = 2257306298351617) (ha0 : Keeps
    M s0 a0) : Keeps M s0 (State.engage a0) := by
  unfold State.engage
  exact State.askMHz_keeps (ss hM rfl) (State.raise_keeps (ss hM rfl) (State.count_keeps (ss hM rfl) (ss hM rfl)
      (State.wr_keeps (ss hM rfl) (ss hM rfl) (keeps_mk ha0 rfl (g_power := .inl (ss hM rfl))))))

theorem State.judgeReading_keeps {M : Nat} {s0 : State} {a0 a1} (hM : 2257306298351617 &&& M = 2257306298351617) (ha0
    : Keeps M s0 a0) : Keeps M s0 (State.judgeReading a0 a1) := by
  unfold State.judgeReading
  extract_lets +onlyGivenNames v0 v1
  exact keeps_ite (keeps_ite (keeps_mk ha0 rfl (g_power := .inl (ss hM rfl))) (keeps_mk ha0 rfl (g_power := .inl (ss
      hM rfl)))) (keeps_ite (State.engage_keeps (ss hM rfl) ha0) ha0)

theorem doTempReading_keeps {M : Nat} {s0 : State} {a0 a1} (hM : 2257306298351617 &&& M = 2257306298351617) (ha1 :
    Keeps M s0 a1) : Keeps M s0 (doTempReading a0 a1) := by
  unfold doTempReading
  split
  · exact ha1
  · refine keeps_ite ?_ ?_
    · exact ha1
    · extract_lets +onlyGivenNames v0
      have h1 : Keeps M s0 v0 := State.wr_keeps (ss hM rfl) (ss hM rfl) (State.wr_keeps (ss hM rfl) (ss hM rfl) ha1)
      try clear_value v0
      extract_lets +onlyGivenNames v2
      have h3 : Keeps M s0 v2 := State.wr_keeps (ss hM rfl) (ss hM rfl) h1
      try clear_value v2
      extract_lets +onlyGivenNames v4
      have h5 : Keeps M s0 v4 := keeps_ite (keeps_mk h3 rfl (g_power := .inl (ss hM rfl))) h1
      try clear_value v4
      exact State.judgeReading_keeps (ss hM rfl) h5

theorem execTempReading_keeps {M : Nat} {s0 : State} {a0 a1} (hM : 2257306298351617 &&& M = 2257306298351617) (ha1 :
    Keeps M s0 a1) : KeepsO M s0 (execTempReading a0 a1) := by
  unfold execTempReading
  exact keepsO_next (doTempReading_keeps (ss hM rfl) ha1)

theorem doThrottleRelease_keeps {M : Nat} {s0 : State} {a0} (hM : 2257306298351617 &&& M = 2257306298351617) (ha0 :
    Keeps M s0 a0) : Keeps M s0 (doThrottleRelease a0) := by
  unfold doThrottleRelease
  exact keeps_ite (State.askMHz_keeps (ss hM rfl) (State.raise_keeps (ss hM rfl) (State.wr_keeps (ss hM rfl) (ss hM
      rfl) (keeps_mk ha0 rfl (g_power := .inl (ss hM rfl)))))) ha0

theorem execThrottleRelease_keeps {M : Nat} {s0 : State} {a0} (hM : 2257306298351617 &&& M = 2257306298351617) (ha0 :
    Keeps M s0 a0) : KeepsO M s0 (execThrottleRelease a0) := by
  unfold execThrottleRelease
  exact keepsO_next (doThrottleRelease_keeps (ss hM rfl) ha0)

theorem doThrottleWrite_keeps {M : Nat} {s0 : State} {a0 a1 a2} (hM : 2257305962807297 &&& M = 2257305962807297) (ha2
    : Keeps M s0 a2) : Keeps M s0 (doThrottleWrite a0 a1 a2) := by
  unfold doThrottleWrite
  extract_lets +onlyGivenNames v0 v1
  refine keeps_ite ?_ ?_
  · exact State.refuseWrite_keeps (ss hM rfl) ha2
  · extract_lets +onlyGivenNames v2
    have h3 : Keeps M s0 v2 := State.wr_keeps (ss hM rfl) (ss hM rfl) (State.wr_keeps (ss hM rfl) (ss hM rfl)
        (State.wr_keeps (ss hM rfl) (ss hM rfl) ha2))
    try clear_value v2
    exact State.respond_keeps (ss hM rfl) (keeps_ite (State.askMHz_keeps (ss hM rfl) h3) h3)

theorem State.throttleTick_keeps {M : Nat} {s0 : State} {a0 a1} (hM : 144116287923028993 &&& M = 144116287923028993)
    (ha0 : Keeps M s0 a0) : Keeps M s0 (State.throttleTick a0 a1) := by
  unfold State.throttleTick
  extract_lets +onlyGivenNames v0
  refine keeps_ite ?_ ?_
  · exact ha0
  · refine keeps_foldl ?_ ?_
    · exact ha0
    · intro _ _ h1
      refine keeps_ite ?_ ?_
      · extract_lets +onlyGivenNames v2
        have h3 : Keeps M s0 v2 := keeps_ite h1 (State.throttleBegin_keeps (ss hM rfl) h1)
        try clear_value v2
        exact State.modPart_keeps (ss hM rfl) h3
      · exact h1

theorem doPllUnlock_keeps {M : Nat} {s0 : State} {a0 a1} (hM : 5497893683201 &&& M = 5497893683201) (ha1 : Keeps M s0
    a1) : Keeps M s0 (doPllUnlock a0 a1) := by
  unfold doPllUnlock
  extract_lets +onlyGivenNames v0
  refine keeps_ite ?_ ?_
  · exact ha1
  · extract_lets +onlyGivenNames v1
    have h2 : Keeps M s0 v1 := keeps_ite (State.wr_keeps (ss hM rfl) (ss hM rfl) ha1) (keeps_ite (State.wr_keeps (ss
        hM rfl) (ss hM rfl) ha1) (keeps_ite (State.wr_keeps (ss hM rfl) (ss hM rfl) ha1) (keeps_ite (State.wr_keeps
        (ss hM rfl) (ss hM rfl) ha1) (State.wr_keeps (ss hM rfl) (ss hM rfl) ha1))))
    try clear_value v1
    exact State.raise_keeps (ss hM rfl) h2

theorem execPllUnlock_keeps {M : Nat} {s0 : State} {a0 a1} (hM : 5497893683201 &&& M = 5497893683201) (ha1 : Keeps M
    s0 a1) : KeepsO M s0 (execPllUnlock a0 a1) := by
  unfold execPllUnlock
  exact keepsO_next (doPllUnlock_keeps (ss hM rfl) ha1)

/-! ## Machine/CoreEvents.lean -/

theorem doExceptionEntry_keeps {M : Nat} {s0 : State} {a0 a1} (hM : 3029146981102526465 &&& M = 3029146981102526465)
    (ha1 : Keeps M s0 a1) : Keeps M s0 (doExceptionEntry a0 a1) := by
  unfold doExceptionEntry
  refine keeps_ite ?_ ?_
  · exact ha1
  · extract_lets +onlyGivenNames v0
    have h1 : Keeps M s0 v0 := State.breakCheck_keeps (ss hM rfl) ha1
    try clear_value v0
    refine keeps_ite ?_ ?_
    · exact h1
    · split
      · exact State.takeFault_keeps (ss hM rfl) (State.firstSync_keeps (ss hM rfl) h1)
      · exact h1

theorem execExceptionEntry_keeps {M : Nat} {s0 : State} {a0 a1} (hM : 3029146981102526465 &&& M =
    3029146981102526465) (ha1 : Keeps M s0 a1) : KeepsO M s0 (execExceptionEntry a0 a1) := by
  unfold execExceptionEntry
  exact keepsO_next (doExceptionEntry_keeps (ss hM rfl) ha1)

theorem State.enterIrq_keeps {M : Nat} {s0 : State} {a0 a1 a2} (hM : 576461853224345601 &&& M = 576461853224345601)
    (ha0 : Keeps M s0 a0) : Keeps M s0 (State.enterIrq a0 a1 a2) := by
  unfold State.enterIrq
  extract_lets +onlyGivenNames v0
  have h1 : Keeps M s0 v0 := State.modCore_keeps (ss hM rfl) (State.firstSync_keeps (ss hM rfl) ha0)
  try clear_value v0
  extract_lets +onlyGivenNames v2
  have h3 : Keeps M s0 v2 := keeps_mk h1 rfl (g_irq := .inl (ss hM rfl))
  try clear_value v2
  extract_lets +onlyGivenNames v4 v5 v6
  have h7 : Keeps M s0 v6 := State.modCore_keeps (ss hM rfl) (State.dropReservation_keeps (ss hM rfl)
      (State.traceExc_keeps (ss hM rfl) h3))
  try clear_value v6
  exact State.showCore_keeps (ss hM rfl) h7

theorem doInterruptEntry_keeps {M : Nat} {s0 : State} {a0 a1} (hM : 576461853224345601 &&& M = 576461853224345601)
    (ha1 : Keeps M s0 a1) : Keeps M s0 (doInterruptEntry a0 a1) := by
  unfold doInterruptEntry
  refine keeps_ite ?_ ?_
  · split
    · exact State.enterIrq_keeps (ss hM rfl) ha1
    · exact ha1
  · exact ha1

theorem execInterruptEntry_keeps {M : Nat} {s0 : State} {a0 a1} (hM : 576461853224345601 &&& M = 576461853224345601)
    (ha1 : Keeps M s0 a1) : KeepsO M s0 (execInterruptEntry a0 a1) := by
  unfold execInterruptEntry
  exact keepsO_next (doInterruptEntry_keeps (ss hM rfl) ha1)

theorem doNapWake_keeps {M : Nat} {s0 : State} {a0 a1} (hM : 576461853224345601 &&& M = 576461853224345601) (ha1 :
    Keeps M s0 a1) : Keeps M s0 (doNapWake a0 a1) := by
  unfold doNapWake
  exact keeps_ite (doInterruptEntry_keeps (ss hM rfl) (State.traceResume_keeps (ss hM rfl) (State.wr_keeps (ss hM
      rfl) (ss hM rfl) ha1))) ha1

theorem execNapWake_keeps {M : Nat} {s0 : State} {a0 a1} (hM : 576461853224345601 &&& M = 576461853224345601) (ha1 :
    Keeps M s0 a1) : KeepsO M s0 (execNapWake a0 a1) := by
  unfold execNapWake
  exact keepsO_next (doNapWake_keeps (ss hM rfl) ha1)

theorem doFarLoadResponse_keeps {M : Nat} {s0 : State} {a0 a1 a2 a3 a4} (hM : 3026895045996339217 &&& M =
    3026895045996339217) (ha4 : Keeps M s0 a4) : Keeps M s0 (doFarLoadResponse a0 a1 a2 a3 a4) := by
  unfold doFarLoadResponse
  split
  · exact ha4
  · exact State.completeFar_keeps (ss hM rfl) (State.modCore_keeps (ss hM rfl) (State.quayTake_keeps (ss hM rfl) ha4))

theorem execFarLoadResponse_keeps {M : Nat} {s0 : State} {a0 a1 a2 a3 a4} (hM : 3026895045996339217 &&& M =
    3026895045996339217) (ha4 : Keeps M s0 a4) : KeepsO M s0 (execFarLoadResponse a0 a1 a2 a3 a4) := by
  unfold execFarLoadResponse
  exact keepsO_next (doFarLoadResponse_keeps (ss hM rfl) ha4)

theorem State.storeAnswered_keeps {M : Nat} {s0 : State} {a0 a1 a2 a3} (hM : 2882304862438031361 &&& M =
    2882304862438031361) (ha0 : Keeps M s0 a0) : Keeps M s0 (State.storeAnswered a0 a1 a2 a3) := by
  unfold State.storeAnswered
  split
  · exact ha0
  · extract_lets +onlyGivenNames v0
    have h1 : Keeps M s0 v0 := State.modCore_keeps (ss hM rfl) (State.quayTake_keeps (ss hM rfl) ha0)
    try clear_value v0
    exact State.showCore_keeps (ss hM rfl) (keeps_ite h1 (State.storeFailed_keeps (ss hM rfl) h1))

theorem doFarStoreError_keeps {M : Nat} {s0 : State} {a0 a1 a2 a3} (hM : 2882304862438031361 &&& M =
    2882304862438031361) (ha3 : Keeps M s0 a3) : Keeps M s0 (doFarStoreError a0 a1 a2 a3) := by
  unfold doFarStoreError
  exact State.storeAnswered_keeps (ss hM rfl) ha3

theorem execFarStoreError_keeps {M : Nat} {s0 : State} {a0 a1 a2 a3} (hM : 2882304862438031361 &&& M =
    2882304862438031361) (ha3 : Keeps M s0 a3) : KeepsO M s0 (execFarStoreError a0 a1 a2 a3) := by
  unfold execFarStoreError
  exact keepsO_next (doFarStoreError_keeps (ss hM rfl) ha3)

theorem State.scratchPerform_keeps {M : Nat} {s0 : State} {a0 a1 a2} (hM : 18695271219217 &&& M = 18695271219217)
    (ha0 : Keeps M s0 a0) : Keeps3 M s0 (State.scratchPerform a0 a1 a2) := by
  unfold State.scratchPerform
  extract_lets +onlyGivenNames v0
  refine keeps3_ite ?_ ?_
  · exact keeps3_ite (keeps3_mk (keeps2_mk ha0)) (keeps3_mk (keeps2_mk (State.logEvent_keeps (ss hM rfl)
        (State.err_keeps (ss hM rfl) ha0))))
  · refine keeps3_ite ?_ ?_
    · try clear_value v0
      split
      · rename_i x1 x2 q3
        have k4 := congrArg (fun p => p.2) q3
        have hx2 : Keeps M s0 x2 := by
          simp only at k4
          rw [← k4]
          exact keeps_of2 (State.writeScratch_keeps (ss hM rfl) ha0)
        exact keeps3_mk (keeps2_mk hx2)
    · exact keeps3_mk (keeps2_mk ha0)

theorem doScratchpadNocAccess_keeps {M : Nat} {s0 : State} {a0 a1 a2 a3} (hM : 576479447574642705 &&& M =
    576479447574642705) (ha3 : Keeps M s0 a3) : Keeps M s0 (doScratchpadNocAccess a0 a1 a2 a3) := by
  unfold doScratchpadNocAccess
  extract_lets +onlyGivenNames v0
  have h1 : Keeps M s0 v0 := State.upset_keeps (ss hM rfl) ha3
  try clear_value v0
  split
  · exact h1
  · extract_lets +onlyGivenNames v2
    have h3 : Keeps M s0 v2 := keeps_ite (State.count_keeps (ss hM rfl) (ss hM rfl) h1) h1
    try clear_value v2
    split
    · rename_i x4 x5 x6 q7
      have k12 := congrArg (fun p => p.2.2) q7
      have hx6 : Keeps M s0 x6 := by
        simp only at k12
        rw [← k12]
        exact keeps_of3 (State.scratchPerform_keeps (ss hM rfl) h3)
      extract_lets +onlyGivenNames v8 v9 v10
      have h11 : Keeps M s0 v10 := keeps_ite (State.quayAnswer_keeps (ss hM rfl) (State.modCore_keeps (ss hM rfl)
          hx6)) (State.modCore_keeps (ss hM rfl) hx6)
      try clear_value v10
      exact State.showCore_keeps (ss hM rfl) h11

theorem execScratchpadNocAccess_keeps {M : Nat} {s0 : State} {a0 a1 a2 a3} (hM : 576479447574642705 &&& M =
    576479447574642705) (ha3 : Keeps M s0 a3) : KeepsO M s0 (execScratchpadNocAccess a0 a1 a2 a3) := by
  unfold execScratchpadNocAccess
  exact keepsO_next (doScratchpadNocAccess_keeps (ss hM rfl) ha3)

theorem State.readyScratch_keeps {M : Nat} {s0 : State} {a0 a1} (hM : 2147483664 &&& M = 2147483664) (ha0 : Keeps M
    s0 a0) : Keeps M s0 (State.readyScratch a0 a1) := by
  unfold State.readyScratch
  have h := keeps_scratch (ss hM rfl) ha0 (SMap.wf_delRange 0 (16384 * a1) (16384 * a1 + 16384))
  exact keeps_ite ha0 (keeps_mk h rfl (g_health := .inl (ss hM rfl)) (g_scratch := .inl (ss hM rfl)))

theorem State.writeMdcCtrl_keeps {M : Nat} {s0 : State} {a0 a1 a2 a3 a4} (hM : 2882779857920466961 &&& M =
    2882779857920466961) (ha0 : Keeps M s0 a0) : Keeps M s0 (State.writeMdcCtrl a0 a1 a2 a3 a4) := by
  unfold State.writeMdcCtrl
  refine keeps_ite ?_ ?_
  · exact State.respond_keeps (ss hM rfl) (State.errReg_keeps (ss hM rfl) ha0)
  · extract_lets +onlyGivenNames v0
    have h1 : Keeps M s0 v0 := State.wr_keeps (ss hM rfl) (ss hM rfl) (keeps_ite (State.readyScratch_keeps (ss hM
        rfl) ha0) ha0)
    try clear_value v0
    exact keeps_ite (State.respond_keeps (ss hM rfl) (State.resetCore_keeps (ss hM rfl) h1)) (keeps_ite
        (State.respond_keeps (ss hM rfl) (State.wr_keeps (ss hM rfl) (ss hM rfl) (State.modCore_keeps (ss hM rfl)
        (State.wr_keeps (ss hM rfl) (ss hM rfl) h1)))) (State.respond_keeps (ss hM rfl) h1))

theorem doCoreReset_keeps {M : Nat} {s0 : State} {a0 a1 a2 a3} (hM : 2882779857920466961 &&& M = 2882779857920466961)
    (ha3 : Keeps M s0 a3) : Keeps M s0 (doCoreReset a0 a1 a2 a3) := by
  unfold doCoreReset
  exact State.writeMdcCtrl_keeps (ss hM rfl) ha3

theorem doCoreResetRelease_keeps {M : Nat} {s0 : State} {a0 a1 a2 a3} (hM : 2882779857920466961 &&& M =
    2882779857920466961) (ha3 : Keeps M s0 a3) : Keeps M s0 (doCoreResetRelease a0 a1 a2 a3) := by
  unfold doCoreResetRelease
  exact State.writeMdcCtrl_keeps (ss hM rfl) ha3

theorem State.reloadWdt_keeps {M : Nat} {s0 : State} {a0 a1} (hM : 576460753377165312 &&& M = 576460753377165312)
    (ha0 : Keeps M s0 a0) : Keeps M s0 (State.reloadWdt a0 a1) := by
  unfold State.reloadWdt
  exact State.modCore_keeps (ss hM rfl) (State.wr_keeps (ss hM rfl) (ss hM rfl) ha0)

theorem doWdtKick_keeps {M : Nat} {s0 : State} {a0 a1 a2 a3} (hM : 576461852888793089 &&& M = 576461852888793089)
    (ha3 : Keeps M s0 a3) : Keeps M s0 (doWdtKick a0 a1 a2 a3) := by
  unfold doWdtKick
  exact keeps_ite (State.respond_keeps (ss hM rfl) (State.reloadWdt_keeps (ss hM rfl) ha3)) (State.respond_keeps (ss
      hM rfl) (State.errReg_keeps (ss hM rfl) ha3))

theorem doWdtExpiry_keeps {M : Nat} {s0 : State} {a0 a1} (hM : 2882779855772983297 &&& M = 2882779855772983297) (ha1
    : Keeps M s0 a1) : Keeps M s0 (doWdtExpiry a0 a1) := by
  unfold doWdtExpiry
  exact keeps_ite ha1 (keeps_ite (State.resetCore_keeps (ss hM rfl) (State.logEvent_keeps (ss hM rfl)
      (State.raise_keeps (ss hM rfl) ha1))) (State.raise_keeps (ss hM rfl) (State.modCore_keeps (ss hM rfl)
      (State.wr_keeps (ss hM rfl) (ss hM rfl) ha1))))

theorem execWdtExpiry_keeps {M : Nat} {s0 : State} {a0 a1} (hM : 2882779855772983297 &&& M = 2882779855772983297)
    (ha1 : Keeps M s0 a1) : KeepsO M s0 (execWdtExpiry a0 a1) := by
  unfold execWdtExpiry
  exact keepsO_next (doWdtExpiry_keeps (ss hM rfl) ha1)

theorem doCoreHalt_keeps {M : Nat} {s0 : State} {a0 a1 a2} (hM : 36284957458433 &&& M = 36284957458433) (ha2 : Keeps
    M s0 a2) : Keeps M s0 (doCoreHalt a0 a1 a2) := by
  unfold doCoreHalt
  exact State.respond_keeps (ss hM rfl) (State.requestHalt_keeps (ss hM rfl) ha2)

theorem doCoreHaltEntry_keeps {M : Nat} {s0 : State} {a0 a1} (hM : 578748974850121729 &&& M = 578748974850121729)
    (ha1 : Keeps M s0 a1) : Keeps M s0 (doCoreHaltEntry a0 a1) := by
  unfold doCoreHaltEntry
  refine keeps_ite ?_ ?_
  · exact ha1
  · extract_lets +onlyGivenNames v0
    have h1 : Keeps M s0 v0 := keeps_ite (State.breakCheck_keeps (ss hM rfl) ha1) ha1
    try clear_value v0
    refine keeps_ite ?_ ?_
    · exact h1
    · extract_lets +onlyGivenNames v2 v3
      have h4 : Keeps M s0 v3 := State.modCore_keeps (ss hM rfl) (State.dropReservation_keeps (ss hM rfl) h1)
      try clear_value v3
      extract_lets +onlyGivenNames v5
      have h6 : Keeps M s0 v5 := State.wr_keeps (ss hM rfl) (offRegs (p := .dbg) rfl (ss hM rfl)) (State.wr_keeps (ss
          hM rfl) (offRegs (p := .dbg) rfl (ss hM rfl)) (State.wr_keeps (ss hM rfl) (offRegs (p := .dbg) rfl (ss hM
          rfl)) (State.wr_keeps (ss hM rfl) (ss hM rfl) (State.traceHalt_keeps (ss hM rfl) h4))))
      try clear_value v5
      exact State.checkEmuHalted_keeps (ss hM rfl) (State.showCore_keeps (ss hM rfl) (State.raise_keeps (ss hM rfl)
          h6))

theorem execCoreHaltEntry_keeps {M : Nat} {s0 : State} {a0 a1} (hM : 578748974850121729 &&& M = 578748974850121729)
    (ha1 : Keeps M s0 a1) : KeepsO M s0 (execCoreHaltEntry a0 a1) := by
  unfold execCoreHaltEntry
  exact keepsO_next (doCoreHaltEntry_keeps (ss hM rfl) ha1)

theorem State.resumeCore_keeps {M : Nat} {s0 : State} {a0 a1} (hM : 576497037596426241 &&& M = 576497037596426241)
    (ha0 : Keeps M s0 a0) : Keeps M s0 (State.resumeCore a0 a1) := by
  unfold State.resumeCore
  extract_lets +onlyGivenNames v0
  have h1 : Keeps M s0 v0 := State.wr_keeps (ss hM rfl) (offRegs (p := .dbg) rfl (ss hM rfl)) (State.wr_keeps (ss hM
      rfl) (ss hM rfl) ha0)
  try clear_value v0
  exact State.traceResume_keeps (ss hM rfl) (State.raise_keeps (ss hM rfl) (State.reloadWdt_keeps (ss hM rfl)
      (State.modCore_keeps (ss hM rfl) h1)))

theorem doCoreResume_keeps {M : Nat} {s0 : State} {a0 a1 a2} (hM : 576497037596426241 &&& M = 576497037596426241)
    (ha2 : Keeps M s0 a2) : Keeps M s0 (doCoreResume a0 a1 a2) := by
  unfold doCoreResume
  exact keeps_ite (State.respond_keeps (ss hM rfl) (State.errReg_keeps (ss hM rfl) ha2)) (State.respond_keeps (ss hM
      rfl) (State.resumeCore_keeps (ss hM rfl) ha2))

theorem doCoreStep_keeps {M : Nat} {s0 : State} {a0 a1 a2} (hM : 576497037596426241 &&& M = 576497037596426241) (ha2
    : Keeps M s0 a2) : Keeps M s0 (doCoreStep a0 a1 a2) := by
  unfold doCoreStep
  exact keeps_ite (State.respond_keeps (ss hM rfl) (State.errReg_keeps (ss hM rfl) ha2)) (State.respond_keeps (ss hM
      rfl) (State.wr_keeps (ss hM rfl) (offRegs (p := .dbg) rfl (ss hM rfl)) (State.modCore_keeps (ss hM rfl)
      (State.resumeCore_keeps (ss hM rfl) ha2))))

theorem doCoreRegisterWrite_keeps {M : Nat} {s0 : State} {a0 a1 a2 a3} (hM : 1100585369603 &&& M = 1100585369603)
    (ha3 : Keeps M s0 a3) : Keeps M s0 (doCoreRegisterWrite a0 a1 a2 a3) := by
  unfold doCoreRegisterWrite
  extract_lets +onlyGivenNames v0 v1 v2
  refine keeps_ite ?_ ?_
  · exact State.respond_keeps (ss hM rfl) (State.errReg_keeps (ss hM rfl) ha3)
  · extract_lets +onlyGivenNames v3
    exact State.respond_keeps (ss hM rfl) (State.modCore_keeps (ss hM rfl) (State.setStaged_keeps (ss hM rfl) ha3))

/-! ## Machine/MemPorts.lean -/

theorem State.controlWord_keeps {M : Nat} {s0 : State} {a0 a1} (hM : 0 &&& M = 0) (ha0 : Keeps M s0 a0) : Keeps2 M s0
    (State.controlWord a0 a1) := by
  unfold State.controlWord
  split
  · exact keeps2_mk ha0
  · exact State.free_keeps (ss hM rfl) ha0

theorem State.controlSeal_keeps {M : Nat} {s0 : State} {a0 a1 a2} (hM : 18692049993729 &&& M = 18692049993729) (ha0 :
    Keeps M s0 a0) : Keeps M s0 (State.controlSeal a0 a1 a2) := by
  unfold State.controlSeal
  exact State.logEvent_keeps (ss hM rfl) (State.err_keeps (ss hM rfl) ha0)

theorem State.controlRead_keeps {M : Nat} {s0 : State} {a0 a1 a2} (hM : 18692049993729 &&& M = 18692049993729) (ha0 :
    Keeps M s0 a0) : Keeps3 M s0 (State.controlRead a0 a1 a2) := by
  unfold State.controlRead
  refine keeps3_ite ?_ ?_
  · split
    · rename_i x0 x1 q2
      have k3 := congrArg (fun p => p.2) q2
      have hx1 : Keeps M s0 x1 := by
        simp only at k3
        rw [← k3]
        exact keeps_of2 (State.controlWord_keeps (ss hM rfl) ha0)
      exact keeps3_mk (keeps2_mk hx1)
  · exact keeps3_mk (keeps2_mk (State.controlSeal_keeps (ss hM rfl) ha0))

theorem State.controlWrite_keeps {M : Nat} {s0 : State} {a0 a1 a2 a3 a4} (hM : 18692586864657 &&& M = 18692586864657) (ha0 : Keeps M s0 a0) :
    Keeps2 M s0 (State.controlWrite a0 a1 a2 a3 a4) := by
  unfold State.controlWrite
  refine keeps2_ite (State.controlSeal_keeps (ss hM rfl) ha0) ?_
  have hp : Keeps2 M s0 (if a2 = 65535 then (a3, a0) else a0.controlWord a1) := keeps2_ite ha0 (State.controlWord_keeps (ss hM rfl) ha0)
  exact State.setEcc_keeps (ss hM rfl) (keeps_controlMem (ss hM rfl) hp (SMap.sorted_put _ _))

theorem State.portRead_keeps {M : Nat} {s0 : State} {a0 a1 a2} (hM : 18695271219217 &&& M = 18695271219217) (ha0 :
    Keeps M s0 a0) : Keeps3 M s0 (State.portRead a0 a1 a2) := by
  unfold State.portRead
  split
  · refine keeps3_ite ?_ ?_
    · exact State.controlRead_keeps (ss hM rfl) ha0
    · split
      · rename_i x0 x1 x2 q3
        have k4 := congrArg (fun p => p.2.2) q3
        have hx2 : Keeps M s0 x2 := by
          simp only at k4
          rw [← k4]
          exact keeps_of3 (State.scratchPerform_keeps (ss hM rfl) ha0)
        exact keeps3_mk (keeps2_mk (State.quayStatus_keeps (ss hM rfl) hx2))
  · exact keeps3_mk (keeps2_mk (State.quayStatus_keeps (ss hM rfl) ha0))

theorem State.portWrite_keeps {M : Nat} {s0 : State} {a0 a1 a2 a3 a4} (hM : 18695808090129 &&& M = 18695808090129)
    (ha0 : Keeps M s0 a0) : Keeps2 M s0 (State.portWrite a0 a1 a2 a3 a4) := by
  unfold State.portWrite
  split
  · refine keeps2_ite ?_ ?_
    · exact State.controlWrite_keeps (ss hM rfl) ha0
    · split
      · rename_i x0 x1 x2 q3
        have k4 := congrArg (fun p => p.2.2) q3
        have hx2 : Keeps M s0 x2 := by
          simp only at k4
          rw [← k4]
          exact keeps_of3 (State.scratchPerform_keeps (ss hM rfl) ha0)
        exact keeps2_mk (State.quayStatus_keeps (ss hM rfl) hx2)
  · exact keeps2_mk (State.quayStatus_keeps (ss hM rfl) ha0)

/-! ## Machine/Debug.lean -/

theorem doGrantWrite_keeps {M : Nat} {s0 : State} {a0 a1 a2} (hM : 36283883716609 &&& M = 36283883716609) (ha2 :
    Keeps M s0 a2) : Keeps M s0 (doGrantWrite a0 a1 a2) := by
  unfold doGrantWrite
  extract_lets +onlyGivenNames v0
  refine keeps_ite ?_ ?_
  · exact State.refuseWrite_keeps (ss hM rfl) ha2
  · extract_lets +onlyGivenNames v1
    exact State.respond_keeps (ss hM rfl) (State.wr_keeps (ss hM rfl) (ss hM rfl) (State.wr_keeps (ss hM rfl) (ss hM
        rfl) (State.wr_keeps (ss hM rfl) (ss hM rfl) (State.wr_keeps (ss hM rfl) (ss hM rfl) ha2))))

theorem doUnlockSubmit_keeps {M : Nat} {s0 : State} {a0 a1} (hM : 36283883716609 &&& M = 36283883716609) (ha1 : Keeps
    M s0 a1) : Keeps M s0 (doUnlockSubmit a0 a1) := by
  unfold doUnlockSubmit
  exact keeps_ite (State.refuseWrite_keeps (ss hM rfl) ha1) (State.respond_keeps (ss hM rfl) (State.wr_keeps (ss hM
      rfl) (ss hM rfl) ha1))

theorem doUnlockCheckDone_keeps {M : Nat} {s0 : State} {a0} (hM : 36352938737665 &&& M = 36352938737665) (ha0 : Keeps
    M s0 a0) : Keeps M s0 (doUnlockCheckDone a0) := by
  unfold doUnlockCheckDone
  refine keeps_ite ?_ ?_
  · exact ha0
  · extract_lets +onlyGivenNames v0
    have h1 : Keeps M s0 v0 := State.wr_keeps (ss hM rfl) (ss hM rfl) ha0
    try clear_value v0
    extract_lets +onlyGivenNames v2
    have h3 : Keeps M s0 v2 := keeps_mk h1 rfl (g_debug := .inl (ss hM rfl))
    try clear_value v2
    refine keeps_ite ?_ ?_
    · exact State.raise_keeps (ss hM rfl) (keeps_ite h3 (State.wr_keeps (ss hM rfl) (ss hM rfl) h3))
    · extract_lets +onlyGivenNames v4
      exact State.raise_keeps (ss hM rfl) (State.wr_keeps (ss hM rfl) (ss hM rfl) (State.wr_keeps (ss hM rfl) (ss hM
          rfl) h3))

theorem execUnlockCheckDone_keeps {M : Nat} {s0 : State} {a0} (hM : 36352938737665 &&& M = 36352938737665) (ha0 :
    Keeps M s0 a0) : KeepsO M s0 (execUnlockCheckDone a0) := by
  unfold execUnlockCheckDone
  exact keepsO_next (doUnlockCheckDone_keeps (ss hM rfl) ha0)

theorem State.arrayClocks_keeps {M : Nat} {s0 : State} {a0} (hM : 288230376151711744 &&& M = 288230376151711744) (ha0
    : Keeps M s0 a0) : Keeps M s0 (State.arrayClocks a0) := by
  unfold State.arrayClocks
  exact keeps_foldl ha0 (fun _ _ h0 => State.wr_keeps (ss hM rfl) (ss hM rfl) h0)

theorem State.reachT_keeps {M : Nat} {s0 : State} {a0} (hM : 432382055679001601 &&& M = 432382055679001601) (ha0 :
    Keeps M s0 a0) : Keeps M s0 (State.reachT a0) := by
  unfold State.reachT
  extract_lets +onlyGivenNames v0
  have h1 : Keeps M s0 v0 := State.wr_keeps (ss hM rfl) (ss hM rfl) ha0
  try clear_value v0
  extract_lets +onlyGivenNames v2
  have h3 : Keeps M s0 v2 := keeps_mk h1 rfl (g_debug := .inl (ss hM rfl)) (g_halts := .inl (ss hM rfl))
  try clear_value v2
  extract_lets +onlyGivenNames v4
  have h5 : Keeps M s0 v4 := by
    refine keeps_foldl ?_ ?_
    · exact h3
    · intro _ _ h6
      extract_lets +onlyGivenNames v7
      have h8 : Keeps M s0 v7 := State.modPart_keeps (ss hM rfl) h6
      try clear_value v7
      exact keeps_ite (State.wr_keeps (ss hM rfl) (ss hM rfl) (State.modPart_keeps (ss hM rfl) h8)) h8
  try clear_value v4
  extract_lets +onlyGivenNames v9
  have h10 : Keeps M s0 v9 := keeps_foldl h5 (fun _ _ h11 => State.requestHalt_keeps (ss hM rfl) h11)
  try clear_value v9
  exact State.checkEmuHalted_keeps (ss hM rfl) (State.arrayClocks_keeps (ss hM rfl) h10)

theorem doEmulationHalt_keeps {M : Nat} {s0 : State} {a0 a1} (hM : 434633855493735425 &&& M = 434633855493735425)
    (ha1 : Keeps M s0 a1) : Keeps M s0 (doEmulationHalt a0 a1) := by
  unfold doEmulationHalt
  split
  · exact State.respond_keeps (ss hM rfl) (State.decideHalt_keeps (ss hM rfl) ha1)
  · exact keeps_ite (State.reachT_keeps (ss hM rfl) ha1) ha1

theorem doHaltOrder_keeps {M : Nat} {s0 : State} {a0} (hM : 432382055680050177 &&& M = 432382055680050177) (ha0 :
    Keeps M s0 a0) : Keeps M s0 (doHaltOrder a0) := by
  unfold doHaltOrder
  split
  · rename_i x0 q1
    exact ha0
  · rename_i x3 x4 q5
    have hx4 : Keeps M s0 x4 := keepsOpt2_eq (State.landing_keeps (ss hM rfl) ha0) q5
    exact keeps_ite (State.reachT_keeps (ss hM rfl) hx4) hx4

theorem execHaltOrder_keeps {M : Nat} {s0 : State} {a0} (hM : 432382055680050177 &&& M = 432382055680050177) (ha0 :
    Keeps M s0 a0) : KeepsO M s0 (execHaltOrder a0) := by
  unfold execHaltOrder
  exact keepsO_next (doHaltOrder_keeps (ss hM rfl) ha0)

theorem doHaltReqReport_keeps {M : Nat} {s0 : State} {a0 a1 a2} (hM : 1048577 &&& M = 1048577) (ha2 : Keeps M s0 a2)
    : Keeps M s0 (doHaltReqReport a0 a1 a2) := by
  unfold doHaltReqReport
  exact keeps_ite (keeps_ite ha2 (State.issueOrder_keeps (ss hM rfl) ha2)) (State.passReport_keeps (ss hM rfl) ha2)

theorem execHaltReqReport_keeps {M : Nat} {s0 : State} {a0 a1 a2} (hM : 1048577 &&& M = 1048577) (ha2 : Keeps M s0
    a2) : KeepsO M s0 (execHaltReqReport a0 a1 a2) := by
  unfold execHaltReqReport
  exact keepsO_next (doHaltReqReport_keeps (ss hM rfl) ha2)

theorem State.restartTimer_keeps {M : Nat} {s0 : State} {a0 a1} (hM : 1024 &&& M = 1024) (ha0 : Keeps M s0 a0) :
    Keeps M s0 (State.restartTimer a0 a1) := by
  unfold State.restartTimer
  exact keeps_ite (State.modPart_keeps (ss hM rfl) ha0) (State.modPart_keeps (ss hM rfl) ha0)

theorem State.unhaltPart_keeps {M : Nat} {s0 : State} {a0 a1} (hM : 144116287923028993 &&& M = 144116287923028993)
    (ha0 : Keeps M s0 a0) : Keeps M s0 (State.unhaltPart a0 a1) := by
  unfold State.unhaltPart
  extract_lets +onlyGivenNames v0
  have h1 : Keeps M s0 v0 := State.modPart_keeps (ss hM rfl) (State.restartTimer_keeps (ss hM rfl) ha0)
  try clear_value v0
  refine keeps_ite ?_ ?_
  · exact h1
  · refine keeps_ite ?_ ?_
    · exact State.raise_keeps (ss hM rfl) (State.wr_keeps (ss hM rfl) (ss hM rfl) (State.modPart_keeps (ss hM rfl)
          h1))
    · extract_lets +onlyGivenNames v2
      have h3 : Keeps M s0 v2 := State.wr_keeps (ss hM rfl) (ss hM rfl) h1
      try clear_value v2
      exact keeps_ite (State.timeBreak_keeps (ss hM rfl) h3) h3

theorem State.restartTick_keeps {M : Nat} {s0 : State} {a0} (hM : 1008842670544520193 &&& M = 1008842670544520193)
    (ha0 : Keeps M s0 a0) : Keeps M s0 (State.restartTick a0) := by
  unfold State.restartTick
  extract_lets +onlyGivenNames v0
  have h1 : Keeps M s0 v0 := State.wr_keeps (ss hM rfl) (ss hM rfl) ha0
  try clear_value v0
  extract_lets +onlyGivenNames v2
  have h3 : Keeps M s0 v2 := keeps_mk h1 rfl (g_debug := .inl (ss hM rfl))
  try clear_value v2
  extract_lets +onlyGivenNames v4
  have h5 : Keeps M s0 v4 := keeps_foldl h3 (fun _ _ h6 => State.unhaltPart_keeps (ss hM rfl) h6)
  try clear_value v4
  extract_lets +onlyGivenNames v7
  have h8 : Keeps M s0 v7 := keeps_foldl h5 (fun _ _ h9 => keeps_ite (State.resumeCore_keeps (ss hM rfl) h9) h9)
  try clear_value v7
  extract_lets +onlyGivenNames v10
  have h11 : Keeps M s0 v10 := keeps_foldl (keeps_mk h8 rfl (g_debug := .inl (ss hM rfl))) (fun _ _ h12 =>
      doReleaseLineEdge_keeps (ss hM rfl) h12)
  try clear_value v10
  exact State.raise_keeps (ss hM rfl) (State.arrayClocks_keeps (ss hM rfl) (keeps_mk h11 rfl (g_debug := .inl (ss hM
      rfl))))

theorem State.withdrawHalt_keeps {M : Nat} {s0 : State} {a0} (hM : 36421658214401 &&& M = 36421658214401) (ha0 :
    Keeps M s0 a0) : Keeps M s0 (State.withdrawHalt a0) := by
  unfold State.withdrawHalt
  refine State.raise_keeps (ss hM rfl) ?_
  extract_lets +onlyGivenNames v0
  have h1 : Keeps M s0 v0 := State.wr_keeps (ss hM rfl) (ss hM rfl) ha0
  try clear_value v0
  exact keeps_mk h1 rfl (g_halts := .inl (ss hM rfl))

theorem State.withdrawRequests_keeps {M : Nat} {s0 : State} {a0} (hM : 36284957458432 &&& M = 36284957458432) (ha0 :
    Keeps M s0 a0) : Keeps M s0 (State.withdrawRequests a0) := by
  unfold State.withdrawRequests
  exact keeps_foldl ha0 (fun _ _ h0 => keeps_ite (State.wr_keeps (ss hM rfl) (offRegs (p := .dbg) rfl (ss hM rfl))
      (State.modCore_keeps (ss hM rfl) h0)) h0)

theorem State.releaseRun_keeps {M : Nat} {s0 : State} {a0 a1} (hM : 36491452481537 &&& M = 36491452481537) (ha0 :
    Keeps M s0 a0) : Keeps M s0 (State.releaseRun a0 a1) := by
  unfold State.releaseRun
  refine keeps_ite ?_ ?_
  · exact State.refuseWrite_keeps (ss hM rfl) ha0
  · refine keeps_ite ?_ ?_
    · exact keeps_ite (State.respond_keeps (ss hM rfl) (State.issueOrder_keeps (ss hM rfl) ha0))
          (State.refuseWrite_keeps (ss hM rfl) ha0)
    · refine keeps_ite ?_ ?_
      · exact State.respond_keeps (ss hM rfl) (State.withdrawHalt_keeps (ss hM rfl) ha0)
      · refine State.respond_keeps (ss hM rfl) ?_
        extract_lets +onlyGivenNames v0
        have h1 : Keeps M s0 v0 := State.withdrawRequests_keeps (ss hM rfl) ha0
        try clear_value v0
        exact keeps_mk h1 rfl (g_debug := .inl (ss hM rfl))

theorem doEmulationRelease_keeps {M : Nat} {s0 : State} {a0 a1} (hM : 1008842807983473665 &&& M =
    1008842807983473665) (ha1 : Keeps M s0 a1) : Keeps M s0 (doEmulationRelease a0 a1) := by
  unfold doEmulationRelease
  split
  · exact State.releaseRun_keeps (ss hM rfl) ha1
  · exact keeps_ite (State.restartTick_keeps (ss hM rfl) ha1) ha1

theorem doUnhaltOrder_keeps {M : Nat} {s0 : State} {a0} (hM : 1008842670544520193 &&& M = 1008842670544520193) (ha0 :
    Keeps M s0 a0) : Keeps M s0 (doUnhaltOrder a0) := by
  unfold doUnhaltOrder
  split
  · rename_i x0 q1
    exact ha0
  · rename_i x3 x4 q5
    have hx4 : Keeps M s0 x4 := keepsOpt2_eq (State.landing_keeps (ss hM rfl) ha0) q5
    exact keeps_ite (State.restartTick_keeps (ss hM rfl) (State.withdrawRequests_keeps (ss hM rfl) hx4)) hx4

theorem execUnhaltOrder_keeps {M : Nat} {s0 : State} {a0} (hM : 1008842670544520193 &&& M = 1008842670544520193) (ha0
    : Keeps M s0 a0) : KeepsO M s0 (execUnhaltOrder a0) := by
  unfold execUnhaltOrder
  exact keepsO_next (doUnhaltOrder_keeps (ss hM rfl) ha0)

theorem State.showVt_keeps {M : Nat} {s0 : State} {a0 a1} (hM : 36283883716608 &&& M = 36283883716608) (ha0 : Keeps M
    s0 a0) : Keeps M s0 (State.showVt a0 a1) := by
  unfold State.showVt
  exact State.wr_keeps (ss hM rfl) (offRegs (p := .dbg) rfl (ss hM rfl)) (State.wr_keeps (ss hM rfl) (offRegs (p :=
      .dbg) rfl (ss hM rfl)) ha0)

theorem doVtTxWrite_keeps {M : Nat} {s0 : State} {a0 a1 a2} (hM : 36285293002753 &&& M = 36285293002753) (ha2 : Keeps
    M s0 a2) : Keeps M s0 (doVtTxWrite a0 a1 a2) := by
  unfold doVtTxWrite
  extract_lets +onlyGivenNames v0
  refine keeps_ite ?_ ?_
  · extract_lets +onlyGivenNames v1
    have h2 : Keeps M s0 v1 := State.showVt_keeps (ss hM rfl) (State.modCore_keeps (ss hM rfl) ha2)
    try clear_value v1
    exact keeps_ite (State.raise_keeps (ss hM rfl) h2) h2
  · exact keeps_ite (State.traceNote_keeps (ss hM rfl) ha2) (State.count_keeps (ss hM rfl) (offRegs (p := .dbg) rfl
        (ss hM rfl)) ha2)

theorem doVtTxRead_keeps {M : Nat} {s0 : State} {a0 a1 a2} (hM : 36284957458433 &&& M = 36284957458433) (ha2 : Keeps
    M s0 a2) : Keeps M s0 (doVtTxRead a0 a1 a2) := by
  unfold doVtTxRead
  extract_lets +onlyGivenNames v0
  exact State.respond_keeps (ss hM rfl) (keeps_ite ha2 (State.showVt_keeps (ss hM rfl) (State.modCore_keeps (ss hM
      rfl) ha2)))

theorem doVtRxWrite_keeps {M : Nat} {s0 : State} {a0 a1 a2 a3} (hM : 36285293002753 &&& M = 36285293002753) (ha3 :
    Keeps M s0 a3) : Keeps M s0 (doVtRxWrite a0 a1 a2 a3) := by
  unfold doVtRxWrite
  exact keeps_ite (State.refuseAccess_keeps (ss hM rfl) (State.errReg_keeps (ss hM rfl) ha3)) (State.respond_keeps
      (ss hM rfl) (State.showVt_keeps (ss hM rfl) (State.modCore_keeps (ss hM rfl) ha3)))

theorem State.vtRxRead_keeps {M : Nat} {s0 : State} {a0 a1 a2} (hM : 36284957458433 &&& M = 36284957458433) (ha0 :
    Keeps M s0 a0) : Keeps M s0 (State.vtRxRead a0 a1 a2) := by
  unfold State.vtRxRead
  extract_lets +onlyGivenNames v0
  split
  · exact State.respond_keeps (ss hM rfl) (State.showVt_keeps (ss hM rfl) (State.modCore_keeps (ss hM rfl) ha0))
  · exact State.respond_keeps (ss hM rfl) ha0

theorem doNoteWrite_keeps {M : Nat} {s0 : State} {a0 a1 a2 a3} (hM : 1100920913921 &&& M = 1100920913921) (ha3 :
    Keeps M s0 a3) : Keeps M s0 (doNoteWrite a0 a1 a2 a3) := by
  unfold doNoteWrite
  exact State.traceNote_keeps (ss hM rfl) ha3

/-! ## Machine/LoadImage.lean -/

theorem State.endLoad_keeps {M : Nat} {s0 : State} {a0 a1 a2 a3} (hM : 536871936 &&& M = 536871936) (ha0 : Keeps M s0
    a0) : Keeps M s0 (State.endLoad a0 a1 a2 a3) := by
  unfold State.endLoad
  extract_lets +onlyGivenNames v0 v1
  have h2 : Keeps M s0 v1 := State.modControl_keeps (ss hM rfl) (fun _ => rfl) ha0
  try clear_value v1
  extract_lets +onlyGivenNames v3
  have h4 : Keeps M s0 v3 := keeps_ite h2 (State.modPart_keeps (ss hM rfl) h2)
  try clear_value v3
  exact State.mbxResult_keeps (ss hM rfl) h4

theorem doLoadImage_keeps {M : Nat} {s0 : State} {a0 a1 a2} (hM : 9896477066241 &&& M = 9896477066241) (ha2 : Keeps M
    s0 a2) : Keeps M s0 (doLoadImage a0 a1 a2) := by
  unfold doLoadImage
  refine State.doorbell_keeps (ss hM rfl) ?_ ?_
  · exact ha2
  · intro y0 h1
    extract_lets +onlyGivenNames v2
    exact keeps_ite (State.mbxResult_keeps (ss hM rfl) h1) (keeps_ite (State.endLoad_keeps (ss hM rfl) h1)
        (State.modControl_keeps (ss hM rfl) (fun _ => rfl) h1))

theorem State.takeRow_keeps {M : Nat} {s0 : State} {a0 a1 a2 a3 a4 a5} (hM : 1104 &&& M = 1104) (ha0 : Keeps M s0 a0)
    : Keeps M s0 (State.takeRow a0 a1 a2 a3 a4 a5) := by
  unfold State.takeRow
  exact keeps_ite (State.modPart_keeps (ss hM rfl) ha0) (State.loadRow_keeps (ss hM rfl) ha0)

theorem State.loadRecord_keeps {M : Nat} {s0 : State} {a0 a1 a2} (hM : 1099511758848 &&& M = 1099511758848) (ha0 :
    Keeps M s0 a0) : Keeps M s0 (State.loadRecord a0 a1 a2) := by
  unfold State.loadRecord
  extract_lets +onlyGivenNames v0 v1
  exact keeps_ite ha0 (keeps_ite (State.err_keeps (ss hM rfl) ha0) (keeps_mk ha0 rfl (g_netmap := .inl (ss hM rfl))))

theorem State.loadData_keeps {M : Nat} {s0 : State} {a0 a1 a2 a3 a4} (hM : 297256267456593009 &&& M =
    297256267456593009) (ha0 : Keeps M s0 a0) : Keeps2 M s0 (State.loadData a0 a1 a2 a3 a4) := by
  unfold State.loadData
  extract_lets +onlyGivenNames v0
  refine keeps2_ite ?_ ?_
  · exact keeps2_mk ha0
  · split
    · exact keeps2_mk (doInstructionWordWrite_keeps (ss hM rfl) ha0)
    · extract_lets +onlyGivenNames v1
      have h2 : ∀ y3 y5 y6, Keeps M s0 y3 → Keeps M s0 (v1 y3 y5 y6) := fun y3 y5 y6 h4 => State.takeRow_keeps (ss hM
          rfl) h4
      try clear_value v1
      exact keeps2_mk (h2 _ _ _ (h2 _ _ _ ha0))
    · split
      · rename_i x7 q8
        have k9 := congrArg (fun p => p.2) q8
        have hx7 : Keeps M s0 x7 := by
          simp only at k9
          rw [← k9]
          exact keeps_of2 (State.directAccess_keeps (ss hM rfl) ha0)
        exact keeps2_mk hx7
      · rename_i x10 q11
        have k12 := congrArg (fun p => p.2) q11
        have hx10 : Keeps M s0 x10 := by
          simp only at k12
          rw [← k12]
          exact keeps_of2 (State.directAccess_keeps (ss hM rfl) ha0)
        exact keeps2_mk (State.clearBankResv_keeps (ss hM rfl) (State.writeBank_keeps (ss hM rfl) hx10))
    · extract_lets +onlyGivenNames v13 v14
      exact keeps2_ite (keeps2_mk ha0) (keeps2_ite (keeps2_mk (State.loadRecord_keeps (ss hM rfl) ha0)) (keeps2_mk
          (State.loadRecord_keeps (ss hM rfl) (State.loadRecord_keeps (ss hM rfl) ha0))))
    · exact keeps2_mk ha0

theorem State.loadLine_keeps {M : Nat} {s0 s : State} {p d chk l k e} (hM : 297256267456593009 &&& M = 297256267456593009) (h : Keeps M s0 s) : Keeps3 M s0 (s.loadLine p d chk l k e) := by
  induction l generalizing s k e with
  | nil => exact h
  | cons w rest ih =>
    unfold State.loadLine
    extract_lets +onlyGivenNames j
    refine keeps3_ite h ?_
    have kp := State.loadData_keeps (ss hM rfl) (a1 := p) (a2 := d) (a3 := j) (a4 := w) h
    split
    · rename_i s1 q
      rw [q] at kp
      exact ih (show Keeps M s0 s1 from kp)
    · rename_i r s1 hne q
      rw [q] at kp
      exact kp

theorem State.nextLine_keeps {M : Nat} {s0 : State} {a0 a1} (hM : 536871936 &&& M = 536871936) (ha0 : Keeps M s0 a0)
    : Keeps M s0 (State.nextLine a0 a1) := by
  unfold State.nextLine
  extract_lets +onlyGivenNames v0
  exact keeps_ite (State.endLoad_keeps (ss hM rfl) ha0) (State.modControl_keeps (ss hM rfl) (fun _ => rfl) ha0)

theorem State.sectEnd_keeps {M : Nat} {s0 : State} {a0 a1 a2} (hM : 536871936 &&& M = 536871936) (ha0 : Keeps M s0
    a0) : Keeps M s0 (State.sectEnd a0 a1 a2) := by
  unfold State.sectEnd
  exact keeps_ite (State.endLoad_keeps (ss hM rfl) ha0) (State.nextLine_keeps (ss hM rfl) ha0)

theorem State.readHead_keeps {M : Nat} {s0 : State} {a0 a1 a2 a3} (hM : 536871936 &&& M = 536871936) (ha0 : Keeps M
    s0 a0) : Keeps M s0 (State.readHead a0 a1 a2 a3) := by
  unfold State.readHead
  refine keeps_ite ?_ ?_
  · exact State.endLoad_keeps (ss hM rfl) ha0
  · split
    · extract_lets +onlyGivenNames v0
      split
      · exact State.nextLine_keeps (ss hM rfl) ha0
      · exact State.endLoad_keeps (ss hM rfl) ha0
      · exact ha0
    · split
      · extract_lets +onlyGivenNames v1 v2
        exact keeps_ite (State.sectEnd_keeps (ss hM rfl) ha0) (State.nextLine_keeps (ss hM rfl) ha0)
      · exact State.endLoad_keeps (ss hM rfl) ha0
      · exact ha0

theorem State.readData_keeps {M : Nat} {s0 : State} {a0 a1 a2 a3 a4} (hM : 297256267993463921 &&& M =
    297256267993463921) (ha0 : Keeps M s0 a0) : Keeps M s0 (State.readData a0 a1 a2 a3 a4) := by
  unfold State.readData
  split
  · rename_i x0 x1 q2
    have k4 := congrArg (fun p => p.2.2) q2
    have hx1 : Keeps M s0 x1 := by
      simp only at k4
      rw [← k4]
      exact keeps_of3 (State.loadLine_keeps (ss hM rfl) ha0)
    extract_lets +onlyGivenNames v3
    exact keeps_ite (State.sectEnd_keeps (ss hM rfl) hx1) (State.nextLine_keeps (ss hM rfl) hx1)
  · rename_i x5 x6 x7 q8
    have k9 := congrArg (fun p => p.2.2) q8
    have hx7 : Keeps M s0 x7 := by
      simp only at k9
      rw [← k9]
      exact keeps_of3 (State.loadLine_keeps (ss hM rfl) ha0)
    exact State.endLoad_keeps (ss hM rfl) hx7
  · rename_i x10 x11 q12
    have k13 := congrArg (fun p => p.2.2) q12
    have hx11 : Keeps M s0 x11 := by
      simp only at k13
      rw [← k13]
      exact keeps_of3 (State.loadLine_keeps (ss hM rfl) ha0)
    exact hx11

theorem doImageLine_keeps {M : Nat} {s0 : State} {a0 a1 a2 a3} (hM : 297256267993463921 &&& M = 297256267993463921)
    (ha3 : Keeps M s0 a3) : Keeps M s0 (doImageLine a0 a1 a2 a3) := by
  unfold doImageLine
  split
  · exact ha3
  · refine keeps_ite ?_ ?_
    · exact State.mbxResult_keeps (ss hM rfl) (State.raise_keeps (ss hM rfl) (State.modPart_keeps (ss hM rfl)
          (State.modControl_keeps (ss hM rfl) (fun _ => rfl) ha3)))
    · refine keeps_ite ?_ ?_
      · exact State.endLoad_keeps (ss hM rfl) ha3
      · split
        · exact State.readHead_keeps (ss hM rfl) ha3
        · exact State.readData_keeps (ss hM rfl) ha3

theorem execImageLine_keeps {M : Nat} {s0 : State} {a0 a1 a2 a3} (hM : 297256267993463921 &&& M = 297256267993463921)
    (ha3 : Keeps M s0 a3) : KeepsO M s0 (execImageLine a0 a1 a2 a3) := by
  unfold execImageLine
  exact keepsO_next (doImageLine_keeps (ss hM rfl) ha3)

end Sys2Proof.Machine
end

