-- ==== Sys2Proof/Laws/Keeps4.lean ====
section
/-! SUPPORT. Laws/Keeps4.lean: what the operations of Machine/Window.lean, Machine/TraceOut.lean, Machine/Ethernet.lean, Machine/RegReads.lean, Machine/FabricConfig.lean, Machine/ConfigScrub.lean
keep of a state. -/

namespace Sys2Proof.Machine
set_option Elab.async false
open Sys2Proof

/-! ## Machine/Window.lean -/

theorem State.storeError_keeps {M : Nat} {s0 : State} {a0 a1 a2 a3} (hM : 18692049993729 &&& M = 18692049993729) (ha0
    : Keeps M s0 a0) : Keeps M s0 (State.storeError a0 a1 a2 a3) := by
  unfold State.storeError
  exact State.logEvent_keeps (ss hM rfl) (State.err_keeps (ss hM rfl) ha0)

theorem State.istoreRead_keeps {M : Nat} {s0 : State} {a0 a1 a2} (hM : 18692049993729 &&& M = 18692049993729) (ha0 :
    Keeps M s0 a0) : Keeps3 M s0 (State.istoreRead a0 a1 a2) := by
  unfold State.istoreRead
  extract_lets +onlyGivenNames v0
  exact keeps3_ite (keeps3_mk (keeps2_mk ha0)) (keeps3_mk (keeps2_mk (State.storeError_keeps (ss hM rfl) ha0)))

theorem State.rowsRead_keeps {M : Nat} {s0 : State} {a0 a1 a2} (hM : 18692049993729 &&& M = 18692049993729) (ha0 :
    Keeps M s0 a0) : Keeps3 M s0 (State.rowsRead a0 a1 a2) := by
  unfold State.rowsRead
  extract_lets +onlyGivenNames v0 v1
  exact keeps3_ite (keeps3_mk (keeps2_mk ha0)) (keeps3_mk (keeps2_mk (State.storeError_keeps (ss hM rfl) ha0)))

theorem State.logbookRead_keeps {M : Nat} {s0 : State} {a0 a1 a2} (hM : 18692049993729 &&& M = 18692049993729) (ha0 :
    Keeps M s0 a0) : Keeps3 M s0 (State.logbookRead a0 a1 a2) := by
  unfold State.logbookRead
  extract_lets +onlyGivenNames v0
  exact keeps3_ite (keeps3_mk (keeps2_mk ha0)) (keeps3_mk (keeps2_mk (State.logEvent_keeps (ss hM rfl)
      (State.err_keeps (ss hM rfl) ha0))))

theorem State.setWindow_keeps {M : Nat} {s0 : State} {a0 a1 a2} (hM : 68719476736 &&& M = 68719476736) (ha0 : Keeps M
    s0 a0) : Keeps M s0 (State.setWindow a0 a1 a2) := by
  unfold State.setWindow
  exact keeps_mk ha0 rfl (g_debug := .inl (ss hM rfl))

theorem State.windowSend_keeps {M : Nat} {s0 : State} {a0 a1 a2 a3 a4} (hM : 2305844109060866049 &&& M =
    2305844109060866049) (ha0 : Keeps M s0 a0) : Keeps2 M s0 (State.windowSend a0 a1 a2 a3 a4) := by
  unfold State.windowSend
  split
  · exact keeps2_mk (State.quayStatus_keeps (ss hM rfl) ha0)
  · refine keeps2_ite ?_ ?_
    · exact keeps2_mk (State.quayStatus_keeps (ss hM rfl) ha0)
    · split
      · exact keeps2_mk (State.quaySend_keeps (ss hM rfl) ha0)

theorem State.windowBegin_keeps {M : Nat} {s0 : State} {a0 a1 a2 a3 a4 a5 a6} (hM : 36352603193345 &&& M = 36352603193345) (ha0 : Keeps M s0 a0) (ha6 : ∀ y0 y1, Keeps M s0 y0 →
    Keeps2 M s0 (a6 y0 y1)) : Keeps M s0 (State.windowBegin a0 a1 a2 a3 a4 a5 a6) := by
  unfold State.windowBegin
  extract_lets +onlyGivenNames v0 v1
  refine keeps_ite (State.refuseWrite_keeps (ss hM rfl) ha0) ?_
  extract_lets +onlyGivenNames v2
  generalize v2 = allowed
  have hp : Keeps2 M s0 (if allowed = true then a6 a0 v1 else (some (8, 0), a0)) := keeps2_ite (ha6 _ _ ha0) ha0
  generalize (if allowed = true then a6 a0 v1 else (some (8, 0), a0)) = p at hp ⊢
  obtain ⟨held, s1⟩ := p
  exact State.respond_keeps (ss hM rfl) (State.wr_keeps (ss hM rfl) (ss hM rfl) (State.setWindow_keeps (ss hM rfl) hp))

theorem doWindowRead_keeps {M : Nat} {s0 : State} {a0 a1 a2 a3} (hM : 2305879362152431617 &&& M =
    2305879362152431617) (ha3 : Keeps M s0 a3) : Keeps M s0 (doWindowRead a0 a1 a2 a3) := by
  unfold doWindowRead
  exact State.windowBegin_keeps (ss hM rfl) ha3 (fun y0 y2 h1 => State.windowSend_keeps (ss hM rfl) h1)

theorem doWindowWrite_keeps {M : Nat} {s0 : State} {a0 a1 a2 a3} (hM : 2305879362152431617 &&& M =
    2305879362152431617) (ha3 : Keeps M s0 a3) : Keeps M s0 (doWindowWrite a0 a1 a2 a3) := by
  unfold doWindowWrite
  exact State.windowBegin_keeps (ss hM rfl) ha3 (fun y0 y2 h1 => State.windowSend_keeps (ss hM rfl) h1)

theorem State.takeXdata_keeps {M : Nat} {s0 : State} {a0 a1 a2 a3} (hM : 35184372088832 &&& M = 35184372088832) (ha0
    : Keeps M s0 a0) : Keeps M s0 (State.takeXdata a0 a1 a2 a3) := by
  unfold State.takeXdata
  exact keeps_ite (State.wr128_keeps (ss hM rfl) (ss hM rfl) (ss hM rfl) (ss hM rfl) (ss hM rfl) ha0) (State.wr_keeps
      (ss hM rfl) (ss hM rfl) ha0)

theorem State.windowDone_keeps {M : Nat} {s0 : State} {a0 a1 a2 a3} (hM : 2594114136350654465 &&& M =
    2594114136350654465) (ha0 : Keeps M s0 a0) : Keeps M s0 (State.windowDone a0 a1 a2 a3) := by
  unfold State.windowDone
  split
  · exact ha0
  · split
    · extract_lets +onlyGivenNames v0
      have h1 : Keeps M s0 v0 := keeps_ite (State.quayTake_keeps (ss hM rfl) ha0) ha0
      try clear_value v0
      extract_lets +onlyGivenNames v2
      have h3 : Keeps M s0 v2 := State.regate_keeps (ss hM rfl) (State.wr_keeps (ss hM rfl) (ss hM rfl)
          (State.wr_keeps (ss hM rfl) (ss hM rfl) (State.setWindow_keeps (ss hM rfl) h1)))
      try clear_value v2
      extract_lets +onlyGivenNames v4
      have h5 : Keeps M s0 v4 := keeps_ite (State.takeXdata_keeps (ss hM rfl) h3) h3
      try clear_value v4
      exact keeps_ite (State.wr64_keeps (ss hM rfl) (ss hM rfl) (ss hM rfl) h5) h5

theorem execWindowAccessDone_keeps {M : Nat} {s0 : State} {a0 a1 a2 a3} (hM : 2594114136350654465 &&& M =
    2594114136350654465) (ha3 : Keeps M s0 a3) : KeepsO M s0 (execWindowAccessDone a0 a1 a2 a3) := by
  unfold execWindowAccessDone
  exact keepsO_next (State.windowDone_keeps (ss hM rfl) ha3)

theorem State.debugExchStore_keeps {M : Nat} {s0 : State} {a0 a1 a2 a3 a4} (hM : 144116287923044353 &&& M =
    144116287923044353) (ha0 : Keeps M s0 a0) : Keeps2 M s0 (State.debugExchStore a0 a1 a2 a3 a4) := by
  unfold State.debugExchStore
  split
  · exact keeps2_mk (State.raise_keeps (ss hM rfl) (State.count_keeps (ss hM rfl) (ss hM rfl) ha0))
  · exact keeps2_mk (State.setExch_keeps (ss hM rfl) ha0)

theorem State.stealBank_keeps {M : Nat} {s0 : State} {a0 a1 a2 a3 a4 a5} (hM : 288249068201719825 &&& M =
    288249068201719825) (ha0 : Keeps M s0 a0) : Keeps2 M s0 (State.stealBank a0 a1 a2 a3 a4 a5) := by
  unfold State.stealBank
  refine keeps2_ite ?_ ?_
  · exact keeps2_mk ha0
  · refine keeps2_ite ?_ ?_
    · exact keeps2_mk (State.clearBankResv_keeps (ss hM rfl) (State.setBankWord_keeps (ss hM rfl) ha0))
    · split
      · rename_i x0 x1 q2
        have k3 := congrArg (fun p => p.2) q2
        have hx1 : Keeps M s0 x1 := by
          simp only at k3
          rw [← k3]
          exact keeps_of2 (State.readBank_keeps (ss hM rfl) ha0)
        exact keeps2_mk hx1
      · rename_i x4 q5
        have k6 := congrArg (fun p => p.2) q5
        have hx4 : Keeps M s0 x4 := by
          simp only at k6
          rw [← k6]
          exact keeps_of2 (State.readBank_keeps (ss hM rfl) ha0)
        exact keeps2_mk hx4

theorem State.stealScratch_keeps {M : Nat} {s0 : State} {a0 a1 a2 a3 a4 a5} (hM : 18695271219217 &&& M =
    18695271219217) (ha0 : Keeps M s0 a0) : Keeps2 M s0 (State.stealScratch a0 a1 a2 a3 a4 a5) := by
  unfold State.stealScratch
  refine keeps2_ite ?_ ?_
  · exact keeps2_mk ha0
  · split
    · rename_i x0 x1 x2 q3
      have k4 := congrArg (fun p => p.2.2) q3
      have hx2 : Keeps M s0 x2 := by
        simp only at k4
        rw [← k4]
        exact keeps_of3 (State.scratchPerform_keeps (ss hM rfl) ha0)
      exact keeps2_mk hx2

theorem State.stealAt_keeps {M : Nat} {s0 : State} {a0 a1 a2 a3 a4} (hM : 288249071959816209 &&& M =
    288249071959816209) (ha0 : Keeps M s0 a0) : Keeps2 M s0 (State.stealAt a0 a1 a2 a3 a4) := by
  unfold State.stealAt
  split
  · refine keeps2_ite ?_ ?_
    · exact State.stealBank_keeps (ss hM rfl) ha0
    · refine keeps2_ite ?_ ?_
      · split
        · exact State.stealScratch_keeps (ss hM rfl) ha0
      · refine keeps2_ite ?_ ?_
        · extract_lets +onlyGivenNames v0
          refine keeps2_ite ?_ ?_
          · try clear_value v0
            split
            · rename_i x1 x2 q3
              have k4 := congrArg (fun p => p.2) q3
              have hx2 : Keeps M s0 x2 := by
                simp only at k4
                rw [← k4]
                exact keeps_of2 (State.controlWrite_keeps (ss hM rfl) ha0)
              exact keeps2_mk hx2
          · try clear_value v0
            split
            · rename_i x5 x6 x7 q8
              have k9 := congrArg (fun p => p.2.2) q8
              have hx7 : Keeps M s0 x7 := by
                simp only at k9
                rw [← k9]
                exact keeps_of3 (State.controlRead_keeps (ss hM rfl) ha0)
              exact keeps2_mk hx7
        · refine keeps2_ite ?_ ?_
          · split
            · rename_i x10 x11 x12 q13
              have k14 := congrArg (fun p => p.2.2) q13
              have hx12 : Keeps M s0 x12 := by
                simp only at k14
                rw [← k14]
                exact keeps_of3 (State.istoreRead_keeps (ss hM rfl) ha0)
              exact keeps2_mk hx12
          · refine keeps2_ite ?_ ?_
            · split
              · rename_i x15 x16 x17 q18
                have k19 := congrArg (fun p => p.2.2) q18
                have hx17 : Keeps M s0 x17 := by
                  simp only at k19
                  rw [← k19]
                  exact keeps_of3 (State.logbookRead_keeps (ss hM rfl) ha0)
                exact keeps2_mk hx17
            · exact keeps2_mk ha0

theorem State.steal_keeps {M : Nat} {s0 : State} {a0 a1 a2 a3 a4} (hM : 288284325051381777 &&& M =
    288284325051381777) (ha0 : Keeps M s0 a0) : Keeps M s0 (State.steal a0 a1 a2 a3 a4) := by
  unfold State.steal
  refine State.windowBegin_keeps (ss hM rfl) ?_ ?_
  · exact ha0
  · intro y0 y2 h1
    split
    · rename_i x3 x4 q5
      have k6 := congrArg (fun p => p.2) q5
      have hx4 : Keeps M s0 x4 := by
        simp only at k6
        rw [← k6]
        exact keeps_of2 (State.stealAt_keeps (ss hM rfl) h1)
      exact keeps2_mk hx4

theorem doStealRead_keeps {M : Nat} {s0 : State} {a0 a1 a2 a3 a4} (hM : 288284325051381777 &&& M =
    288284325051381777) (ha4 : Keeps M s0 a4) : Keeps M s0 (doStealRead a0 a1 a2 a3 a4) := by
  unfold doStealRead
  exact State.steal_keeps (ss hM rfl) (State.upset_keeps (ss hM rfl) ha4)

theorem doStealWrite_keeps {M : Nat} {s0 : State} {a0 a1 a2 a3 a4} (hM : 288284325051381777 &&& M =
    288284325051381777) (ha4 : Keeps M s0 a4) : Keeps M s0 (doStealWrite a0 a1 a2 a3 a4) := by
  unfold doStealWrite
  exact State.steal_keeps (ss hM rfl) (State.upset_keeps (ss hM rfl) ha4)

/-! ## Machine/TraceOut.lean -/

theorem State.modFramer_keeps {M : Nat} {s0 : State} {a0 a1} (hM : 274877906944 &&& M = 274877906944) (ha0 : Keeps M
    s0 a0) : Keeps M s0 (State.modFramer a0 a1) := by
  unfold State.modFramer
  exact keeps_mk ha0 rfl (g_trace := .inl (ss hM rfl))

theorem State.traceStart_keeps {M : Nat} {s0 : State} {a0} (hM : 70644695826432 &&& M = 70644695826432) (ha0 : Keeps
    M s0 a0) : Keeps M s0 (State.traceStart a0) := by
  unfold State.traceStart
  extract_lets +onlyGivenNames v0
  have h1 : Keeps M s0 v0 := keeps_mk ha0 rfl (g_trace := .inl (ss hM rfl))
  try clear_value v0
  extract_lets +onlyGivenNames v2
  have h3 : Keeps M s0 v2 := keeps_foldl h1 (fun _ _ h4 => State.modTrace_keeps (ss hM rfl) h4)
  try clear_value v2
  exact State.wr_keeps (ss hM rfl) (ss hM rfl) (State.wr_keeps (ss hM rfl) (ss hM rfl) (State.wr_keeps (ss hM rfl)
      (ss hM rfl) h3))

theorem doTraceControl_keeps {M : Nat} {s0 : State} {a0 a1 a2} (hM : 71744207454209 &&& M = 71744207454209) (ha2 :
    Keeps M s0 a2) : Keeps M s0 (doTraceControl a0 a1 a2) := by
  unfold doTraceControl
  extract_lets +onlyGivenNames v0 v1
  refine keeps_ite ?_ ?_
  · exact State.refuseWrite_keeps (ss hM rfl) ha2
  · extract_lets +onlyGivenNames v2
    have h3 : Keeps M s0 v2 := State.wr_keeps (ss hM rfl) (ss hM rfl) (State.wr_keeps (ss hM rfl) (ss hM rfl)
        (State.wr_keeps (ss hM rfl) (ss hM rfl) ha2))
    try clear_value v2
    extract_lets +onlyGivenNames v4
    have h5 : Keeps M s0 v4 := keeps_ite (keeps_ite h3 (State.traceStart_keeps (ss hM rfl) h3)) (State.wr_keeps (ss
        hM rfl) (ss hM rfl) h3)
    try clear_value v4
    exact State.respond_keeps (ss hM rfl) h5

theorem doTraceEnable_keeps {M : Nat} {s0 : State} {a0 a1 a2} (hM : 71744207454209 &&& M = 71744207454209) (ha2 :
    Keeps M s0 a2) : Keeps M s0 (doTraceEnable a0 a1 a2) := by
  unfold doTraceEnable
  exact doTraceControl_keeps (ss hM rfl) ha2

theorem State.traceRegister_keeps {M : Nat} {s0 : State} {a0 a1 a2 a3} (hM : 4611684919251304449 &&& M =
    4611684919251304449) (ha0 : Keeps M s0 a0) : Keeps M s0 (State.traceRegister a0 a1 a2 a3) := by
  unfold State.traceRegister
  extract_lets +onlyGivenNames v0 v1
  exact keeps_ite (State.errReg_keeps (ss hM rfl) ha0) (State.plainWrite_keeps (ss hM rfl) ha0)

theorem State.ringFrame_keeps {M : Nat} {s0 : State} {a0 a1} (hM : 71743469256705 &&& M = 71743469256705) (ha0 :
    Keeps M s0 a0) : Keeps M s0 (State.ringFrame a0 a1) := by
  unfold State.ringFrame
  extract_lets +onlyGivenNames v0 v1
  have h2 : Keeps M s0 v1 := State.wr_keeps (ss hM rfl) (ss hM rfl) (State.modFramer_keeps (ss hM rfl) ha0)
  try clear_value v1
  exact keeps_ite (State.raise_keeps (ss hM rfl) (State.wr_keeps (ss hM rfl) (ss hM rfl) (State.wr_keeps (ss hM rfl)
      (ss hM rfl) (State.modFramer_keeps (ss hM rfl) h2)))) h2

theorem State.traceOut_keeps {M : Nat} {s0 : State} {a0 a1} (hM : 71743469256705 &&& M = 71743469256705) (ha0 : Keeps
    M s0 a0) : Keeps M s0 (State.traceOut a0 a1) := by
  unfold State.traceOut
  extract_lets +onlyGivenNames v0
  exact keeps_ite (State.ringFrame_keeps (ss hM rfl) ha0) (State.emit_keeps (ss hM rfl) ha0)

theorem doTraceFrame_keeps {M : Nat} {s0 : State} {a0} (hM : 71744542998529 &&& M = 71744542998529) (ha0 : Keeps M s0
    a0) : Keeps M s0 (doTraceFrame a0) := by
  unfold doTraceFrame
  refine keeps_ite ?_ ?_
  · exact ha0
  · extract_lets +onlyGivenNames v0
    refine keeps_ite ?_ ?_
    · exact State.traceOut_keeps (ss hM rfl) (State.modFramer_keeps (ss hM rfl) ha0)
    · extract_lets +onlyGivenNames v1 v2
      have h3 : ∀ y4 y6, Keeps M s0 y4 → Keeps M s0 (v2 y4 y6) := fun y4 y6 h5 => State.modFramer_keeps (ss hM rfl) h5
      try clear_value v2
      split
      · exact State.traceOut_keeps (ss hM rfl) (h3 _ _ ha0)
      · extract_lets +onlyGivenNames v7 v8
        have h9 : Keeps M s0 v8 := State.modTrace_keeps (ss hM rfl) (h3 _ _ ha0)
        try clear_value v8
        exact State.traceOut_keeps (ss hM rfl) (State.traceRecover_keeps (ss hM rfl) h9)

theorem execTraceFrame_keeps {M : Nat} {s0 : State} {a0} (hM : 71744542998529 &&& M = 71744542998529) (ha0 : Keeps M
    s0 a0) : KeepsO M s0 (execTraceFrame a0) := by
  unfold execTraceFrame
  exact keepsO_next (doTraceFrame_keeps (ss hM rfl) ha0)

theorem doTraceBufferRead_keeps {M : Nat} {s0 : State} {a0 a1} (hM : 274877906945 &&& M = 274877906945) (ha1 : Keeps
    M s0 a1) : Keeps M s0 (doTraceBufferRead a0 a1) := by
  unfold doTraceBufferRead
  exact State.respond_keeps (ss hM rfl) (keeps_ite ha1 (State.modFramer_keeps (ss hM rfl) ha1))

/-! ## Machine/Ethernet.lean -/

theorem State.ethNext_keeps {M : Nat} {s0 : State} {a0 a1 a2} (hM : 0 &&& M = 0) (hf1 : regBit a1 &&& M = regBit a1)
    (hf2 : regBit a2 &&& M = regBit a2) (ha0 : Keeps M s0 a0) : Keeps M s0 (State.ethNext a0 a1 a2) := by
  unfold State.ethNext
  exact State.wr_keeps (ss hM rfl) hf2 ha0

theorem State.ethStamp_keeps {M : Nat} {s0 : State} {a0 a1} (hM : 0 &&& M = 0) (ha0 : Keeps M s0 a0) : Keeps2 M s0
    (State.ethStamp a0 a1) := by
  unfold State.ethStamp
  extract_lets +onlyGivenNames v0
  exact keeps2_ite (keeps2_mk ha0) (State.free_keeps (ss hM rfl) ha0)

theorem State.ethSeal_keeps {M : Nat} {s0 : State} {a0 a1 a2 a3} (hM : 18692049993729 &&& M = 18692049993729) (ha0 :
    Keeps M s0 a0) : Keeps M s0 (State.ethSeal a0 a1 a2 a3) := by
  unfold State.ethSeal
  exact keeps_ite (State.logEvent_keeps (ss hM rfl) (State.err_keeps (ss hM rfl) ha0)) ha0

theorem State.ethDrop_keeps {M : Nat} {s0 : State} {a0 a1} (hM : 1126999754014721 &&& M = 1126999754014721) (ha0 :
    Keeps M s0 a0) : Keeps M s0 (State.ethDrop a0 a1) := by
  unfold State.ethDrop
  exact State.raiseEth_keeps (ss hM rfl) (State.count_keeps (ss hM rfl) (offRegs (p := .eth) rfl (ss hM rfl)) ha0)

theorem State.ethStore_keeps {M : Nat} {s0 s : State} {addr b k} (hM : 18695808090129 &&& M = 18695808090129) (h : Keeps M s0 s) : Keeps2 M s0 (s.ethStore addr b k) := by
  induction k generalizing s addr b with
  | zero => exact h
  | succ k ih =>
    unfold State.ethStore
    refine keeps2_ite h ?_
    extract_lets +onlyGivenNames chunk
    have kp := State.portWrite_keeps (ss hM rfl) (a1 := 35) (a2 := addr) (a3 := 2 ^ chunk.length - 1)
      (a4 := BitVec.ofNat 128 (packBytes chunk)) h
    split
    · rename_i s1 q
      rw [q] at kp
      exact ih (show Keeps M s0 s1 from kp)
    · rename_i st s1 hne q
      rw [q] at kp
      exact kp

theorem State.ethReturnRx_keeps {M : Nat} {s0 : State} {a0 a1 a2 a3 a4} (hM : 1144595714932753 &&& M =
    1144595714932753) (ha0 : Keeps M s0 a0) : Keeps M s0 (State.ethReturnRx a0 a1 a2 a3 a4) := by
  unfold State.ethReturnRx
  split
  · rename_i x0 x1 q2
    have k7 := congrArg (fun p => p.2) q2
    have hx1 : Keeps M s0 x1 := by
      simp only at k7
      rw [← k7]
      exact keeps_of2 (State.portWrite_keeps (ss hM rfl) ha0)
    split
    · rename_i x3 x4 q5
      have k6 := congrArg (fun p => p.2) q5
      have hx4 : Keeps M s0 x4 := by
        simp only at k6
        rw [← k6]
        exact keeps_of2 (State.portWrite_keeps (ss hM rfl) hx1)
      exact State.raiseEth_keeps (ss hM rfl) (State.ethNext_keeps (ss hM rfl) (offRegs (p := .eth) rfl (ss hM rfl))
          (offRegs (p := .eth) rfl (ss hM rfl)) hx4)

theorem State.ethRing_keeps {M : Nat} {s0 : State} {a0 a1 a2 a3} (hM : 1144595714932753 &&& M = 1144595714932753)
    (ha0 : Keeps M s0 a0) : Keeps M s0 (State.ethRing a0 a1 a2 a3) := by
  unfold State.ethRing
  extract_lets +onlyGivenNames v0
  try clear_value v0
  split
  · rename_i x1 x2 q3
    have k13 := congrArg (fun p => p.2.2) q3
    have hx2 : Keeps M s0 x2 := by
      simp only at k13
      rw [← k13]
      exact keeps_of3 (State.portRead_keeps (ss hM rfl) ha0)
    refine keeps_ite ?_ ?_
    · exact State.ethDrop_keeps (ss hM rfl) hx2
    · refine keeps_ite ?_ ?_
      · try clear_value v0
        split
        · rename_i x4 x5 q6
          have k7 := congrArg (fun p => p.2) q6
          have hx5 : Keeps M s0 x5 := by
            simp only at k7
            rw [← k7]
            exact keeps_of2 (State.portWrite_keeps (ss hM rfl) hx2)
          exact State.ethDrop_keeps (ss hM rfl) (State.raiseEth_keeps (ss hM rfl) (State.ethNext_keeps (ss hM rfl)
              (offRegs (p := .eth) rfl (ss hM rfl)) (offRegs (p := .eth) rfl (ss hM rfl)) hx5))
      · split
        · rename_i x8 x9 q10
          have k12 := congrArg (fun p => p.2) q10
          have hx9 : Keeps M s0 x9 := by
            simp only at k12
            rw [← k12]
            exact keeps_of2 (State.ethStore_keeps (ss hM rfl) hx2)
          extract_lets +onlyGivenNames v11
          exact State.ethReturnRx_keeps (ss hM rfl) hx9
  · rename_i x14 x15 x16 n17 q17
    have k18 := congrArg (fun p => p.2.2) q17
    have hx16 : Keeps M s0 x16 := by
      simp only at k18
      rw [← k18]
      exact keeps_of3 (State.portRead_keeps (ss hM rfl) ha0)
    exact State.ethDrop_keeps (ss hM rfl) (State.ethSeal_keeps (ss hM rfl) hx16)

theorem doEthFrameReceive_keeps {M : Nat} {s0 : State} {a0 a1 a2 a3 a4} (hM : 1144595714932753 &&& M =
    1144595714932753) (ha4 : Keeps M s0 a4) : Keeps M s0 (doEthFrameReceive a0 a1 a2 a3 a4) := by
  unfold doEthFrameReceive
  extract_lets +onlyGivenNames v0
  have h1 : Keeps M s0 v0 := State.upset_keeps (ss hM rfl) ha4
  try clear_value v0
  refine keeps_ite ?_ ?_
  · exact h1
  · refine keeps_ite ?_ ?_
    · exact State.count_keeps (ss hM rfl) (offRegs (p := .eth) rfl (ss hM rfl)) h1
    · refine keeps_ite ?_ ?_
      · exact State.ethDrop_keeps (ss hM rfl) h1
      · extract_lets +onlyGivenNames v2
        have h3 : Keeps M s0 v2 := State.count_keeps (ss hM rfl) (offRegs (p := .eth) rfl (ss hM rfl)) h1
        try clear_value v2
        split
        · rename_i x4 x5 q6
          have k7 := congrArg (fun p => p.2) q6
          have hx5 : Keeps M s0 x5 := by
            simp only at k7
            rw [← k7]
            exact keeps_of2 (State.ethStamp_keeps (ss hM rfl) h3)
          exact keeps_ite (State.emit_keeps (ss hM rfl) hx5) (State.ethRing_keeps (ss hM rfl) hx5)

theorem execEthFrameReceive_keeps {M : Nat} {s0 : State} {a0 a1 a2 a3 a4} (hM : 1144595714932753 &&& M =
    1144595714932753) (ha4 : Keeps M s0 a4) : KeepsO M s0 (execEthFrameReceive a0 a1 a2 a3 a4) := by
  unfold execEthFrameReceive
  exact keepsO_next (doEthFrameReceive_keeps (ss hM rfl) ha4)

theorem doEthTxKick_keeps {M : Nat} {s0 : State} {a0 a1 a2 a3} (hM : 9 &&& M = 9) (ha3 : Keeps M s0 a3) : Keeps M s0
    (doEthTxKick a0 a1 a2 a3) := by
  unfold doEthTxKick
  exact State.respond_keeps (ss hM rfl) (keeps_ite (keeps_mk ha3 rfl (g_ethRing := .inl (ss hM rfl))) ha3)

theorem State.ethRest_keeps {M : Nat} {s0 : State} {a0 a1} (hM : 8 &&& M = 8) (ha0 : Keeps M s0 a0) : Keeps M s0
    (State.ethRest a0 a1) := by
  unfold State.ethRest
  exact keeps_mk ha0 rfl (g_ethRing := .inl (ss hM rfl))

theorem State.ethFetch_keeps {M : Nat} {s0 s : State} {n addr len k} (hM : 18695271219217 &&& M = 18695271219217) (h : Keeps M s0 s) : Keeps3 M s0 (s.ethFetch n addr len k) := by
  induction k generalizing s addr len with
  | zero => exact h
  | succ k ih =>
    unfold State.ethFetch
    refine keeps3_ite h ?_
    have kp := State.portRead_keeps (ss hM rfl) (a1 := 35) (a2 := addr) h
    split
    · rename_i w s1 q
      rw [q] at kp
      exact ih (show Keeps M s0 s1 from kp)
    · rename_i st w s1 hne q
      rw [q] at kp
      exact State.ethSeal_keeps (ss hM rfl) (show Keeps M s0 s1 from kp)

theorem State.ethReturnTx_keeps {M : Nat} {s0 : State} {a0 a1 a2 a3 a4} (hM : 1144595714932753 &&& M =
    1144595714932753) (ha0 : Keeps M s0 a0) : Keeps M s0 (State.ethReturnTx a0 a1 a2 a3 a4) := by
  unfold State.ethReturnTx
  split
  · rename_i x0 x1 q2
    have k3 := congrArg (fun p => p.2) q2
    have hx1 : Keeps M s0 x1 := by
      simp only at k3
      rw [← k3]
      exact keeps_of2 (State.portWrite_keeps (ss hM rfl) ha0)
    exact State.raiseEth_keeps (ss hM rfl) (State.ethNext_keeps (ss hM rfl) (offRegs (p := .eth) rfl (ss hM rfl))
        (offRegs (p := .eth) rfl (ss hM rfl)) hx1)

theorem State.ethSend_keeps {M : Nat} {s0 : State} {a0 a1 a2 a3 a4} (hM : 1144595714932753 &&& M = 1144595714932753)
    (ha0 : Keeps M s0 a0) : Keeps M s0 (State.ethSend a0 a1 a2 a3 a4) := by
  unfold State.ethSend
  extract_lets +onlyGivenNames v0
  have h1 : Keeps M s0 v0 := State.count_keeps (ss hM rfl) (offRegs (p := .eth) rfl (ss hM rfl)) (State.emit_keeps
      (ss hM rfl) ha0)
  try clear_value v0
  extract_lets +onlyGivenNames v2
  have h3 : Keeps M s0 v2 := by
    refine keeps_ite ?_ ?_
    · split
      · rename_i x4 x5 q6
        have k7 := congrArg (fun p => p.2) q6
        have hx5 : Keeps M s0 x5 := by
          simp only at k7
          rw [← k7]
          exact keeps_of2 (State.ethStamp_keeps (ss hM rfl) h1)
        exact keeps_of2 (State.portWrite_keeps (ss hM rfl) hx5)
    · exact h1
  try clear_value v2
  exact State.ethReturnTx_keeps (ss hM rfl) h3

theorem State.ethTransmit_keeps {M : Nat} {s0 : State} {a0 a1} (hM : 1144595714932761 &&& M = 1144595714932761) (ha0
    : Keeps M s0 a0) : Keeps M s0 (State.ethTransmit a0 a1) := by
  unfold State.ethTransmit
  extract_lets +onlyGivenNames v0
  try clear_value v0
  split
  · rename_i x1 x2 q3
    have k13 := congrArg (fun p => p.2.2) q3
    have hx2 : Keeps M s0 x2 := by
      simp only at k13
      rw [← k13]
      exact keeps_of3 (State.portRead_keeps (ss hM rfl) ha0)
    refine keeps_ite ?_ ?_
    · exact State.ethRest_keeps (ss hM rfl) hx2
    · refine keeps_ite ?_ ?_
      · exact State.ethReturnTx_keeps (ss hM rfl) (State.count_keeps (ss hM rfl) (offRegs (p := .eth) rfl (ss hM
            rfl)) hx2)
      · split
        · rename_i x4 x5 q6
          have k7 := congrArg (fun p => p.2.2) q6
          have hx5 : Keeps M s0 x5 := by
            simp only at k7
            rw [← k7]
            exact keeps_of3 (State.ethFetch_keeps (ss hM rfl) hx2)
          exact keeps_ite (State.ethReturnTx_keeps (ss hM rfl) hx5) (State.ethSend_keeps (ss hM rfl) hx5)
        · rename_i x8 x9 x10 n11 q11
          have k12 := congrArg (fun p => p.2.2) q11
          have hx10 : Keeps M s0 x10 := by
            simp only at k12
            rw [← k12]
            exact keeps_of3 (State.ethFetch_keeps (ss hM rfl) hx2)
          exact State.ethReturnTx_keeps (ss hM rfl) (State.count_keeps (ss hM rfl) (offRegs (p := .eth) rfl (ss hM
              rfl)) (State.emit_keeps (ss hM rfl) hx10))
  · rename_i x14 x15 x16 n17 q17
    have k18 := congrArg (fun p => p.2.2) q17
    have hx16 : Keeps M s0 x16 := by
      simp only at k18
      rw [← k18]
      exact keeps_of3 (State.portRead_keeps (ss hM rfl) ha0)
    exact State.ethRest_keeps (ss hM rfl) (State.ethSeal_keeps (ss hM rfl) hx16)

theorem doEthFrameTransmit_keeps {M : Nat} {s0 : State} {a0 a1 a2} (hM : 1144595714932761 &&& M = 1144595714932761)
    (ha2 : Keeps M s0 a2) : Keeps M s0 (doEthFrameTransmit a0 a1 a2) := by
  unfold doEthFrameTransmit
  extract_lets +onlyGivenNames v0
  have h1 : Keeps M s0 v0 := State.upset_keeps (ss hM rfl) ha2
  try clear_value v0
  exact keeps_ite (State.ethTransmit_keeps (ss hM rfl) h1) h1

theorem execEthFrameTransmit_keeps {M : Nat} {s0 : State} {a0 a1 a2} (hM : 1144595714932761 &&& M = 1144595714932761)
    (ha2 : Keeps M s0 a2) : KeepsO M s0 (execEthFrameTransmit a0 a1 a2) := by
  unfold execEthFrameTransmit
  exact keepsO_next (doEthFrameTransmit_keeps (ss hM rfl) ha2)

theorem doEthLinkChange_keeps {M : Nat} {s0 : State} {a0 a1 a2 a3} (hM : 1126999754014721 &&& M = 1126999754014721)
    (ha3 : Keeps M s0 a3) : Keeps M s0 (doEthLinkChange a0 a1 a2 a3) := by
  unfold doEthLinkChange
  refine keeps_ite ?_ ?_
  · exact ha3
  · extract_lets +onlyGivenNames v0 v1 v2
    have h3 : Keeps M s0 v2 := State.wr_keeps (ss hM rfl) (offRegs (p := .eth) rfl (ss hM rfl)) (State.wr_keeps (ss
        hM rfl) (offRegs (p := .eth) rfl (ss hM rfl)) ha3)
    try clear_value v2
    exact keeps_ite h3 (State.raiseEth_keeps (ss hM rfl) h3)

theorem execEthLinkChange_keeps {M : Nat} {s0 : State} {a0 a1 a2 a3} (hM : 1126999754014721 &&& M = 1126999754014721)
    (ha3 : Keeps M s0 a3) : KeepsO M s0 (execEthLinkChange a0 a1 a2 a3) := by
  unfold execEthLinkChange
  exact keepsO_next (doEthLinkChange_keeps (ss hM rfl) ha3)

theorem State.ethStop_keeps {M : Nat} {s0 : State} {a0 a1} (hM : 1126999754014721 &&& M = 1126999754014721) (ha0 :
    Keeps M s0 a0) : Keeps M s0 (State.ethStop a0 a1) := by
  unfold State.ethStop
  extract_lets +onlyGivenNames v0
  have h1 : Keeps M s0 v0 := State.wr_keeps (ss hM rfl) (offRegs (p := .eth) rfl (ss hM rfl)) (State.wr_keeps (ss hM
      rfl) (offRegs (p := .eth) rfl (ss hM rfl)) ha0)
  try clear_value v0
  exact keeps_ite (State.raiseEth_keeps (ss hM rfl) h1) h1

theorem State.ethWrite_keeps {M : Nat} {s0 : State} {a0 a1 a2 a3 a4} (hM : 4611684919251304449 &&& M =
    4611684919251304449) (ha0 : Keeps M s0 a0) : Keeps M s0 (State.ethWrite a0 a1 a2 a3 a4) := by
  unfold State.ethWrite
  extract_lets +onlyGivenNames v0 v1
  refine keeps_ite ?_ ?_
  · exact State.errReg_keeps (ss hM rfl) ha0
  · refine keeps_ite ?_ ?_
    · exact State.rearmSource_keeps (ss hM rfl) (State.plainWrite_keeps (ss hM rfl) ha0)
    · refine keeps_ite ?_ ?_
      · extract_lets +onlyGivenNames v2
        have h3 : Keeps M s0 v2 := State.plainWrite_keeps (ss hM rfl) ha0
        try clear_value v2
        extract_lets +onlyGivenNames v4 v5 v6
        exact keeps_ite (State.irqEvent_keeps (ss hM rfl) h3) h3
      · refine keeps_ite ?_ ?_
        · extract_lets +onlyGivenNames v7
          have h8 : Keeps M s0 v7 := State.wr_keeps (ss hM rfl) (ss hM rfl) (State.plainWrite_keeps (ss hM rfl) ha0)
          try clear_value v7
          exact keeps_ite (State.ethStop_keeps (ss hM rfl) h8) h8
        · exact State.plainWrite_keeps (ss hM rfl) ha0

/-! ## Machine/RegReads.lean -/

theorem State.readAny_keeps {M : Nat} {s0 : State} {a0 a1 a2 a3 a4} (hM : 4611684918915760129 &&& M =
    4611684918915760129) (ha0 : Keeps M s0 a0) : Keeps M s0 (State.readAny a0 a1 a2 a3 a4) := by
  unfold State.readAny
  extract_lets +onlyGivenNames v0
  exact State.respond_keeps (ss hM rfl) (keeps_ite ha0 (State.clearFields_keeps (ss hM rfl) ha0))

theorem State.readLow_keeps {M : Nat} {s0 : State} {a0 a1 a2 a3 a4 a5} (hM : 4611684918915760129 &&& M =
    4611684918915760129) (ha0 : Keeps M s0 a0) : Keeps M s0 (State.readLow a0 a1 a2 a3 a4 a5) := by
  unfold State.readLow
  exact State.respond_keeps (ss hM rfl) (keeps_ite ha0 (State.clearFields_keeps (ss hM rfl) ha0))

theorem State.readWide_keeps {M : Nat} {s0 : State} {a0 a1 a2 a3 a4 a5} (hM : 4611684919251304451 &&& M =
    4611684919251304451) (ha0 : Keeps M s0 a0) : Keeps M s0 (State.readWide a0 a1 a2 a3 a4 a5) := by
  unfold State.readWide
  refine keeps_ite ?_ ?_
  · exact State.refuseAccess_keeps (ss hM rfl) (State.errReg_keeps (ss hM rfl) ha0)
  · refine keeps_ite ?_ ?_
    · extract_lets +onlyGivenNames v0
      exact State.readLow_keeps (ss hM rfl) (State.capture_keeps (ss hM rfl) ha0)
    · exact State.respond_keeps (ss hM rfl) ha0

theorem State.readPair_keeps {M : Nat} {s0 : State} {a0 a1 a2 a3 a4 a5} (hM : 3 &&& M = 3) (ha0 : Keeps M s0 a0) :
    Keeps M s0 (State.readPair a0 a1 a2 a3 a4 a5) := by
  unfold State.readPair
  exact keeps_ite (State.respond_keeps (ss hM rfl) (State.captureHi_keeps (ss hM rfl) ha0)) (State.respond_keeps (ss
      hM rfl) ha0)

theorem State.readLogWindow_keeps {M : Nat} {s0 : State} {a0 a1 a2} (hM : 18692049993729 &&& M = 18692049993729) (ha0
    : Keeps M s0 a0) : Keeps M s0 (State.readLogWindow a0 a1 a2) := by
  unfold State.readLogWindow
  split
  · rename_i x0 x1 q2
    have k3 := congrArg (fun p => p.2.2) q2
    have hx1 : Keeps M s0 x1 := by
      simp only at k3
      rw [← k3]
      exact keeps_of3 (State.logbookRead_keeps (ss hM rfl) ha0)
    exact State.respond_keeps (ss hM rfl) hx1
  · rename_i x4 x5 x6 n7 q7
    have k8 := congrArg (fun p => p.2.2) q7
    have hx6 : Keeps M s0 x6 := by
      simp only at k8
      rw [← k8]
      exact keeps_of3 (State.logbookRead_keeps (ss hM rfl) ha0)
    exact State.sealAccess_keeps (ss hM rfl) hx6

theorem State.readDebug_keeps {M : Nat} {s0 : State} {a0 a1 a2 a3} (hM : 4611684919989501953 &&& M =
    4611684919989501953) (ha0 : Keeps M s0 a0) : Keeps M s0 (State.readDebug a0 a1 a2 a3) := by
  unfold State.readDebug
  exact keeps_ite (doVtTxRead_keeps (ss hM rfl) ha0) (keeps_ite (State.vtRxRead_keeps (ss hM rfl) ha0)
      (State.readAny_keeps (ss hM rfl) ha0))

theorem State.readNamed_keeps {M : Nat} {s0 : State} {a0 a1 a2 a3 a4} (hM : 4611685208104646675 &&& M =
    4611685208104646675) (ha0 : Keeps M s0 a0) : Keeps M s0 (State.readNamed a0 a1 a2 a3 a4) := by
  unfold State.readNamed
  split
  · exact State.hmsAccess_keeps (ss hM rfl) ha0
  · exact keeps_ite (doNetmapDataRead_keeps (ss hM rfl) ha0) (State.readAny_keeps (ss hM rfl) ha0)
  · exact keeps_ite (State.readLogWindow_keeps (ss hM rfl) ha0) (State.readAny_keeps (ss hM rfl) ha0)
  · exact keeps_ite (doTraceBufferRead_keeps (ss hM rfl) ha0) (State.readAny_keeps (ss hM rfl) ha0)
  · exact State.readDebug_keeps (ss hM rfl) ha0
  · extract_lets +onlyGivenNames v0
    have h1 : Keeps M s0 v0 := State.readAny_keeps (ss hM rfl) ha0
    try clear_value v0
    exact keeps_ite (keeps_mk h1 rfl (g_power := .inl (ss hM rfl))) h1
  · exact State.readAny_keeps (ss hM rfl) ha0

theorem State.readAct_keeps {M : Nat} {s0 : State} {a0 a1 a2 a3 a4} (hM : 4611685208104646675 &&& M =
    4611685208104646675) (ha0 : Keeps M s0 a0) : Keeps M s0 (State.readAct a0 a1 a2 a3 a4) := by
  unfold State.readAct
  extract_lets +onlyGivenNames v0
  refine keeps_ite ?_ ?_
  · exact State.refuseAccess_keeps (ss hM rfl) (State.errReg_keeps (ss hM rfl) ha0)
  · refine keeps_ite ?_ ?_
    · exact State.respond_keeps (ss hM rfl) ha0
    · refine keeps_ite ?_ ?_
      · exact State.respond_keeps (ss hM rfl) ha0
      · refine keeps_ite ?_ ?_
        · exact State.respond_keeps (ss hM rfl) ha0
        · refine keeps_ite ?_ ?_
          · exact State.respond_keeps (ss hM rfl) ha0
          · split
            · exact keeps_ite (doRdDataRead_keeps (ss hM rfl) ha0) (State.readWide_keeps (ss hM rfl) ha0)
            · exact State.readPair_keeps (ss hM rfl) ha0
            · exact State.readNamed_keeps (ss hM rfl) ha0

theorem State.regRead_keeps {M : Nat} {s0 : State} {a0 a1 a2} (hM : 4611685208104646675 &&& M = 4611685208104646675)
    (ha0 : Keeps M s0 a0) : Keeps M s0 (State.regRead a0 a1 a2) := by
  unfold State.regRead
  extract_lets +onlyGivenNames v0
  exact State.access_keeps (ss hM rfl) ha0 (fun y1 h2 => State.readAct_keeps (ss hM rfl) h2)

/-! ## Machine/FabricConfig.lean -/

theorem State.modEng_keeps {M : Nat} {s0 : State} {a0 a1} (hM : 4194304 &&& M = 4194304) (ha0 : Keeps M s0 a0) :
    Keeps M s0 (State.modEng a0 a1) := by
  unfold State.modEng
  exact State.modFab_keeps (ss hM rfl) ha0

theorem State.beginStream_keeps {M : Nat} {s0 : State} {a0 a1} (hM : 18014398513676288 &&& M = 18014398513676288)
    (ha0 : Keeps M s0 a0) : Keeps M s0 (State.beginStream a0 a1) := by
  unfold State.beginStream
  exact State.modEng_keeps (ss hM rfl) (State.wr_keeps (ss hM rfl) (ss hM rfl) ha0)

theorem State.beginFetch_keeps {M : Nat} {s0 : State} {a0 a1} (hM : 18014398513676289 &&& M = 18014398513676289) (ha0
    : Keeps M s0 a0) : Keeps M s0 (State.beginFetch a0 a1) := by
  unfold State.beginFetch
  extract_lets +onlyGivenNames v0
  have h1 : Keeps M s0 v0 := State.beginStream_keeps (ss hM rfl) ha0
  try clear_value v0
  exact State.emit_keeps (ss hM rfl) h1

theorem State.closeStream_keeps {M : Nat} {s0 : State} {a0} (hM : 18014398513676288 &&& M = 18014398513676288) (ha0 :
    Keeps M s0 a0) : Keeps M s0 (State.closeStream a0) := by
  unfold State.closeStream
  extract_lets +onlyGivenNames v0
  exact State.modEng_keeps (ss hM rfl) (State.wr_keeps (ss hM rfl) (ss hM rfl) ha0)

theorem State.shutdown_keeps {M : Nat} {s0 : State} {a0} (hM : 54043195532640256 &&& M = 54043195532640256) (ha0 :
    Keeps M s0 a0) : Keeps M s0 (State.shutdown a0) := by
  unfold State.shutdown
  extract_lets +onlyGivenNames v0
  have h1 : Keeps M s0 v0 := State.wr_keeps (ss hM rfl) (ss hM rfl) (State.wr_keeps (ss hM rfl) (ss hM rfl) ha0)
  try clear_value v0
  extract_lets +onlyGivenNames v2
  have h3 : Keeps M s0 v2 := State.wr_keeps (ss hM rfl) (ss hM rfl) (State.wr_keeps (ss hM rfl) (ss hM rfl)
      (State.wr_keeps (ss hM rfl) (ss hM rfl) h1))
  try clear_value v2
  exact State.modFab_keeps (ss hM rfl) (State.wr_keeps (ss hM rfl) (ss hM rfl) h3)

theorem State.clearFrames_keeps {M : Nat} {s0 : State} {a0} (hM : 2097168 &&& M = 2097168) (ha0 : Keeps M s0 a0) :
    Keeps M s0 (State.clearFrames a0) := by
  unfold State.clearFrames
  have h := keeps_frames (ss hM rfl) ha0 (fun _ => SMap.wf_nil 0)
  exact keeps_mk h rfl (g_health := .inl (ss hM rfl))

theorem State.loadFailed_keeps {M : Nat} {s0 : State} {a0 a1} (hM : 54061887582633985 &&& M = 54061887582633985) (ha0
    : Keeps M s0 a0) : Keeps M s0 (State.loadFailed a0 a1) := by
  unfold State.loadFailed
  extract_lets +onlyGivenNames v0
  have h1 : Keeps M s0 v0 := State.wr_keeps (ss hM rfl) (ss hM rfl) (State.wr_keeps (ss hM rfl) (ss hM rfl)
      (State.shutdown_keeps (ss hM rfl) (State.closeStream_keeps (ss hM rfl) ha0)))
  try clear_value v0
  exact State.modFab_keeps (ss hM rfl) (State.logEvent_keeps (ss hM rfl) (State.wr_keeps (ss hM rfl) (ss hM rfl) h1))

theorem State.failStream_keeps {M : Nat} {s0 : State} {a0 a1} (hM : 54061887582633985 &&& M = 54061887582633985) (ha0
    : Keeps M s0 a0) : Keeps M s0 (State.failStream a0 a1) := by
  unfold State.failStream
  extract_lets +onlyGivenNames v0
  refine keeps_ite ?_ ?_
  · exact State.loadFailed_keeps (ss hM rfl) ha0
  · extract_lets +onlyGivenNames v1
    have h2 : Keeps M s0 v1 := State.wr_keeps (ss hM rfl) (ss hM rfl) (State.closeStream_keeps (ss hM rfl) ha0)
    try clear_value v1
    extract_lets +onlyGivenNames v3
    have h4 : Keeps M s0 v3 := keeps_foldl h2 (fun _ _ h5 => State.raise_keeps (ss hM rfl)
        (State.setRegionState_keeps (ss hM rfl) h5))
    try clear_value v3
    exact keeps_ite (State.modFab_keeps (ss hM rfl) h4) h4

theorem State.failFrame_keeps {M : Nat} {s0 : State} {a0 a1 a2} (hM : 54061887582633985 &&& M = 54061887582633985)
    (ha0 : Keeps M s0 a0) : Keeps M s0 (State.failFrame a0 a1 a2) := by
  unfold State.failFrame
  exact State.failStream_keeps (ss hM rfl) (State.wr_keeps (ss hM rfl) (ss hM rfl) ha0)

theorem State.consume_keeps {M : Nat} {s0 : State} {a0 a1} (hM : 4194304 &&& M = 4194304) (ha0 : Keeps M s0 a0) :
    Keeps M s0 (State.consume a0 a1) := by
  unfold State.consume
  exact State.modEng_keeps (ss hM rfl) ha0

theorem State.lengthCheck_keeps {M : Nat} {s0 : State} {a0} (hM : 54061887582633985 &&& M = 54061887582633985) (ha0 :
    Keeps M s0 a0) : Keeps M s0 (State.lengthCheck a0) := by
  unfold State.lengthCheck
  extract_lets +onlyGivenNames v0
  exact keeps_ite (State.failStream_keeps (ss hM rfl) ha0) ha0

theorem State.record_keeps {M : Nat} {s0 : State} {a0 a1 a2} (hM : 54061887582633985 &&& M = 54061887582633985) (ha0
    : Keeps M s0 a0) (ha2 : ∀ y0 y1 y2, Keeps M s0 y2 → Keeps M s0 (a2 y0 y1 y2)) : Keeps M s0 (State.record a0 a1
    a2) := by
  unfold State.record
  extract_lets +onlyGivenNames v0
  refine keeps_ite ?_ ?_
  · exact ha0
  · try clear_value v0
    split
    · exact ha0
    · split
      · exact State.failStream_keeps (ss hM rfl) ha0
      · refine keeps_ite ?_ ?_
        · exact ha0
        · extract_lets +onlyGivenNames v1 v2
          have h3 : Keeps M s0 v2 := State.consume_keeps (ss hM rfl) ha0
          try clear_value v2
          extract_lets +onlyGivenNames v4
          have h5 : Keeps M s0 v4 := keeps_ite (State.modEng_keeps (ss hM rfl) h3) h3
          try clear_value v4
          extract_lets +onlyGivenNames v6
          have h7 : Keeps M s0 v6 := keeps_ite h5 (State.modEng_keeps (ss hM rfl) h5)
          try clear_value v6
          exact State.lengthCheck_keeps (ss hM rfl) (ha2 _ _ _ h7)

theorem State.wholeOnly_keeps {M : Nat} {s0 : State} {a0 a1} (hM : 54061887582633985 &&& M = 54061887582633985) (ha0
    : Keeps M s0 a0) (ha1 : ∀ y0, Keeps M s0 y0 → Keeps M s0 (a1 y0)) : Keeps M s0 (State.wholeOnly a0 a1) := by
  unfold State.wholeOnly
  exact keeps_ite (State.failStream_keeps (ss hM rfl) ha0) (keeps_ite (State.failStream_keeps (ss hM rfl) ha0) (ha1 _
      ha0))

theorem State.refuseCfg_keeps {M : Nat} {s0 : State} {a0 a1 a2 a3} (hM : 1099511627777 &&& M = 1099511627777) (ha0 :
    Keeps M s0 a0) : Keeps M s0 (State.refuseCfg a0 a1 a2 a3) := by
  unfold State.refuseCfg
  exact State.respond_keeps (ss hM rfl) (State.errReg_keeps (ss hM rfl) ha0)

theorem State.finishClear_keeps {M : Nat} {s0 : State} {a0} (hM : 6291472 &&& M = 6291472) (ha0 : Keeps M s0 a0) :
    Keeps M s0 (State.finishClear a0) := by
  unfold State.finishClear
  exact keeps_ite ha0 (State.modFab_keeps (ss hM rfl) (State.clearFrames_keeps (ss hM rfl) ha0))

theorem State.beginLoad_keeps {M : Nat} {s0 : State} {a0 a1} (hM : 54061887584731153 &&& M = 54061887584731153) (ha0
    : Keeps M s0 a0) : Keeps M s0 (State.beginLoad a0 a1) := by
  unfold State.beginLoad
  extract_lets +onlyGivenNames v0
  have h1 : Keeps M s0 v0 := State.shutdown_keeps (ss hM rfl) (State.wr_keeps (ss hM rfl) (ss hM rfl) (State.wr_keeps
      (ss hM rfl) (ss hM rfl) (State.finishClear_keeps (ss hM rfl) ha0)))
  try clear_value v0
  exact State.lengthCheck_keeps (ss hM rfl) (State.beginFetch_keeps (ss hM rfl) (State.modFab_keeps (ss hM rfl) h1))

theorem doLoad_keeps {M : Nat} {s0 : State} {a0 a1} (hM : 54061887584731153 &&& M = 54061887584731153) (ha1 : Keeps M
    s0 a1) : Keeps M s0 (doLoad a0 a1) := by
  unfold doLoad
  exact keeps_ite (State.refuseCfg_keeps (ss hM rfl) ha1) (State.respond_keeps (ss hM rfl) (State.beginLoad_keeps (ss
      hM rfl) ha1))

theorem doLoadGolden_keeps {M : Nat} {s0 : State} {a0 a1} (hM : 54061887584731153 &&& M = 54061887584731153) (ha1 :
    Keeps M s0 a1) : Keeps M s0 (doLoadGolden a0 a1) := by
  unfold doLoadGolden
  exact keeps_ite (State.refuseCfg_keeps (ss hM rfl) ha1) (State.respond_keeps (ss hM rfl) (State.beginLoad_keeps (ss
      hM rfl) ha1))

theorem doClear_keeps {M : Nat} {s0 : State} {a0 a1} (hM : 54061887582633985 &&& M = 54061887582633985) (ha1 : Keeps
    M s0 a1) : Keeps M s0 (doClear a0 a1) := by
  unfold doClear
  refine keeps_ite ?_ ?_
  · exact State.refuseCfg_keeps (ss hM rfl) ha1
  · extract_lets +onlyGivenNames v0
    have h1 : Keeps M s0 v0 := State.shutdown_keeps (ss hM rfl) (State.wr_keeps (ss hM rfl) (ss hM rfl)
        (State.wr_keeps (ss hM rfl) (ss hM rfl) ha1))
    try clear_value v0
    extract_lets +onlyGivenNames v2
    have h3 : Keeps M s0 v2 := State.logEvent_keeps (ss hM rfl) (State.wr_keeps (ss hM rfl) (ss hM rfl) h1)
    try clear_value v2
    exact State.respond_keeps (ss hM rfl) (State.modFab_keeps (ss hM rfl) h3)

theorem doStream_keeps {M : Nat} {s0 : State} {a0 a1} (hM : 54061887582633985 &&& M = 54061887582633985) (ha1 : Keeps
    M s0 a1) : Keeps M s0 (doStream a0 a1) := by
  unfold doStream
  exact keeps_ite (State.refuseCfg_keeps (ss hM rfl) ha1) (State.respond_keeps (ss hM rfl) (State.lengthCheck_keeps
      (ss hM rfl) (State.beginFetch_keeps (ss hM rfl) ha1)))

theorem doStreamFetch_keeps {M : Nat} {s0 : State} {a0 a1 a2 a3} (hM : 54061887582633985 &&& M = 54061887582633985)
    (ha3 : Keeps M s0 a3) : Keeps M s0 (doStreamFetch a0 a1 a2 a3) := by
  unfold doStreamFetch
  extract_lets +onlyGivenNames v0
  refine keeps_ite ?_ ?_
  · exact ha3
  · refine keeps_ite ?_ ?_
    · exact State.failStream_keeps (ss hM rfl) (State.raise_keeps (ss hM rfl) ha3)
    · refine keeps_ite ?_ ?_
      · split
        · rename_i x1 x2 q3
          have k4 := congrArg (fun p => p.2) q3
          have hx2 : Keeps M s0 x2 := by
            simp only at k4
            rw [← k4]
            exact keeps_of2 (State.free_keeps (ss hM rfl) ha3)
          exact State.failStream_keeps (ss hM rfl) (State.logEvent_keeps (ss hM rfl) (State.err_keeps (ss hM rfl)
              hx2))
      · extract_lets +onlyGivenNames v5
        exact State.lengthCheck_keeps (ss hM rfl) (State.modEng_keeps (ss hM rfl) ha3)

theorem execStreamFetch_keeps {M : Nat} {s0 : State} {a0 a1 a2 a3} (hM : 54061887582633985 &&& M = 54061887582633985)
    (ha3 : Keeps M s0 a3) : KeepsO M s0 (execStreamFetch a0 a1 a2 a3) := by
  unfold execStreamFetch
  exact keepsO_next (doStreamFetch_keeps (ss hM rfl) ha3)

theorem doStreamMarker_keeps {M : Nat} {s0 : State} {a0} (hM : 54061887582633985 &&& M = 54061887582633985) (ha0 :
    Keeps M s0 a0) : Keeps M s0 (doStreamMarker a0) := by
  unfold doStreamMarker
  extract_lets +onlyGivenNames v0
  refine keeps_ite ?_ ?_
  · exact ha0
  · try clear_value v0
    split
    · refine keeps_ite ?_ ?_
      · exact State.failStream_keeps (ss hM rfl) ha0
      · split
        · exact State.lengthCheck_keeps (ss hM rfl) (State.modFab_keeps (ss hM rfl) (State.modEng_keeps (ss hM rfl)
              ha0))
        · exact State.lengthCheck_keeps (ss hM rfl) (State.modEng_keeps (ss hM rfl) ha0)

theorem execStreamMarker_keeps {M : Nat} {s0 : State} {a0} (hM : 54061887582633985 &&& M = 54061887582633985) (ha0 :
    Keeps M s0 a0) : KeepsO M s0 (execStreamMarker a0) := by
  unfold execStreamMarker
  exact keepsO_next (doStreamMarker_keeps (ss hM rfl) ha0)

theorem doNopRecord_keeps {M : Nat} {s0 : State} {a0} (hM : 54061887582633985 &&& M = 54061887582633985) (ha0 : Keeps
    M s0 a0) : Keeps M s0 (doNopRecord a0) := by
  unfold doNopRecord
  exact State.record_keeps (ss hM rfl) ha0 (fun y0 y1 y2 h3 => h3)

theorem execNopRecord_keeps {M : Nat} {s0 : State} {a0} (hM : 54061887582633985 &&& M = 54061887582633985) (ha0 :
    Keeps M s0 a0) : KeepsO M s0 (execNopRecord a0) := by
  unfold execNopRecord
  exact keepsO_next (doNopRecord_keeps (ss hM rfl) ha0)

theorem doSetDevice_keeps {M : Nat} {s0 : State} {a0} (hM : 54061887582633985 &&& M = 54061887582633985) (ha0 : Keeps
    M s0 a0) : Keeps M s0 (doSetDevice a0) := by
  unfold doSetDevice
  exact State.record_keeps (ss hM rfl) ha0 (fun y0 y1 y2 h3 => State.wholeOnly_keeps (ss hM rfl) h3 (fun y4 h5 =>
      keeps_ite h5 (State.failStream_keeps (ss hM rfl) h5)))

theorem execSetDevice_keeps {M : Nat} {s0 : State} {a0} (hM : 54061887582633985 &&& M = 54061887582633985) (ha0 :
    Keeps M s0 a0) : KeepsO M s0 (execSetDevice a0) := by
  unfold execSetDevice
  exact keepsO_next (doSetDevice_keeps (ss hM rfl) ha0)

theorem doSetGclkA_keeps {M : Nat} {s0 : State} {a0} (hM : 54061887582633985 &&& M = 54061887582633985) (ha0 : Keeps
    M s0 a0) : Keeps M s0 (doSetGclkA a0) := by
  unfold doSetGclkA
  exact State.record_keeps (ss hM rfl) ha0 (fun y0 y1 y2 h3 => State.wholeOnly_keeps (ss hM rfl) h3 (fun y4 h5 =>
      keeps_ite (State.modFab_keeps (ss hM rfl) h5) (State.failStream_keeps (ss hM rfl) h5)))

theorem execSetGclkA_keeps {M : Nat} {s0 : State} {a0} (hM : 54061887582633985 &&& M = 54061887582633985) (ha0 :
    Keeps M s0 a0) : KeepsO M s0 (execSetGclkA a0) := by
  unfold execSetGclkA
  exact keepsO_next (doSetGclkA_keeps (ss hM rfl) ha0)

theorem doSetGclkB_keeps {M : Nat} {s0 : State} {a0} (hM : 54061887582633985 &&& M = 54061887582633985) (ha0 : Keeps
    M s0 a0) : Keeps M s0 (doSetGclkB a0) := by
  unfold doSetGclkB
  exact State.record_keeps (ss hM rfl) ha0 (fun y0 y1 y2 h3 => State.wholeOnly_keeps (ss hM rfl) h3 (fun y4 h5 =>
      keeps_ite (State.modFab_keeps (ss hM rfl) h5) (State.failStream_keeps (ss hM rfl) h5)))

theorem execSetGclkB_keeps {M : Nat} {s0 : State} {a0} (hM : 54061887582633985 &&& M = 54061887582633985) (ha0 :
    Keeps M s0 a0) : KeepsO M s0 (execSetGclkB a0) := by
  unfold execSetGclkB
  exact keepsO_next (doSetGclkB_keeps (ss hM rfl) ha0)

theorem doSetBankv_keeps {M : Nat} {s0 : State} {a0} (hM : 54061887582633985 &&& M = 54061887582633985) (ha0 : Keeps
    M s0 a0) : Keeps M s0 (doSetBankv a0) := by
  unfold doSetBankv
  exact State.record_keeps (ss hM rfl) ha0 (fun y0 y1 y2 h3 => State.wholeOnly_keeps (ss hM rfl) h3 (fun y4 h5 =>
      State.modFab_keeps (ss hM rfl) h5))

theorem execSetBankv_keeps {M : Nat} {s0 : State} {a0} (hM : 54061887582633985 &&& M = 54061887582633985) (ha0 :
    Keeps M s0 a0) : KeepsO M s0 (execSetBankv a0) := by
  unfold execSetBankv
  exact keepsO_next (doSetBankv_keeps (ss hM rfl) ha0)

theorem doSetRegion_keeps {M : Nat} {s0 : State} {a0} (hM : 54061887582633985 &&& M = 54061887582633985) (ha0 : Keeps
    M s0 a0) : Keeps M s0 (doSetRegion a0) := by
  unfold doSetRegion
  exact State.record_keeps (ss hM rfl) ha0 (fun y0 y1 y2 h3 => keeps_ite (State.failStream_keeps (ss hM rfl) h3)
      (keeps_ite (State.failStream_keeps (ss hM rfl) h3) (State.modEng_keeps (ss hM rfl) h3)))

theorem execSetRegion_keeps {M : Nat} {s0 : State} {a0} (hM : 54061887582633985 &&& M = 54061887582633985) (ha0 :
    Keeps M s0 a0) : KeepsO M s0 (execSetRegion a0) := by
  unfold execSetRegion
  exact keepsO_next (doSetRegion_keeps (ss hM rfl) ha0)

theorem doSetFpll0_keeps {M : Nat} {s0 : State} {a0} (hM : 54061887582633985 &&& M = 54061887582633985) (ha0 : Keeps
    M s0 a0) : Keeps M s0 (doSetFpll0 a0) := by
  unfold doSetFpll0
  exact State.record_keeps (ss hM rfl) ha0 (fun y0 y1 y2 h3 => State.wholeOnly_keeps (ss hM rfl) h3 (fun y4 h5 =>
      keeps_ite (State.modFab_keeps (ss hM rfl) h5) (State.failStream_keeps (ss hM rfl) h5)))

theorem execSetFpll0_keeps {M : Nat} {s0 : State} {a0} (hM : 54061887582633985 &&& M = 54061887582633985) (ha0 :
    Keeps M s0 a0) : KeepsO M s0 (execSetFpll0 a0) := by
  unfold execSetFpll0
  exact keepsO_next (doSetFpll0_keeps (ss hM rfl) ha0)

theorem doSetFpll1_keeps {M : Nat} {s0 : State} {a0} (hM : 54061887582633985 &&& M = 54061887582633985) (ha0 : Keeps
    M s0 a0) : Keeps M s0 (doSetFpll1 a0) := by
  unfold doSetFpll1
  exact State.record_keeps (ss hM rfl) ha0 (fun y0 y1 y2 h3 => State.wholeOnly_keeps (ss hM rfl) h3 (fun y4 h5 =>
      keeps_ite (State.modFab_keeps (ss hM rfl) h5) (State.failStream_keeps (ss hM rfl) h5)))

theorem execSetFpll1_keeps {M : Nat} {s0 : State} {a0} (hM : 54061887582633985 &&& M = 54061887582633985) (ha0 :
    Keeps M s0 a0) : KeepsO M s0 (execSetFpll1 a0) := by
  unfold execSetFpll1
  exact keepsO_next (doSetFpll1_keeps (ss hM rfl) ha0)

theorem State.putFrame_keeps {M : Nat} {s0 : State} {a0 a1 a2} (hM : 2097168 &&& M = 2097168) (ha0 : Keeps M s0 a0) :
    Keeps M s0 (State.putFrame a0 a1 a2) := by
  unfold State.putFrame
  exact State.setEcc_keeps (ss hM rfl) (keeps_frames (ss hM rfl) ha0 (SMap.wf_set _ _ _))

theorem doFrames_keeps {M : Nat} {s0 : State} {a0} (hM : 54061887582633985 &&& M = 54061887582633985) (ha0 : Keeps M
    s0 a0) : Keeps M s0 (doFrames a0) := by
  unfold doFrames
  refine State.record_keeps (ss hM rfl) ?_ ?_
  · exact ha0
  · intro y0 y1 y2 h3
    extract_lets +onlyGivenNames v4
    exact keeps_ite (State.failStream_keeps (ss hM rfl) h3) (keeps_ite (State.failStream_keeps (ss hM rfl) h3)
        (State.modEng_keeps (ss hM rfl) h3))

theorem execFrames_keeps {M : Nat} {s0 : State} {a0} (hM : 54061887582633985 &&& M = 54061887582633985) (ha0 : Keeps
    M s0 a0) : KeepsO M s0 (execFrames a0) := by
  unfold execFrames
  exact keepsO_next (doFrames_keeps (ss hM rfl) ha0)

theorem State.unfetch_keeps {M : Nat} {s0 : State} {a0 a1} (hM : 4194304 &&& M = 4194304) (ha0 : Keeps M s0 a0) :
    Keeps M s0 (State.unfetch a0 a1) := by
  unfold State.unfetch
  exact State.modFab_keeps (ss hM rfl) ha0

theorem State.commitEntry_keeps {M : Nat} {s0 : State} {a0 a1} (hM : 54061887584731153 &&& M = 54061887584731153)
    (ha0 : Keeps M s0 a0) : Keeps M s0 (State.commitEntry a0 a1) := by
  unfold State.commitEntry
  extract_lets +onlyGivenNames v0 v1 v2
  refine keeps_ite ?_ ?_
  · exact State.failFrame_keeps (ss hM rfl) ha0
  · refine keeps_ite ?_ ?_
    · exact State.failFrame_keeps (ss hM rfl) ha0
    · refine keeps_ite ?_ ?_
      · exact State.failFrame_keeps (ss hM rfl) ha0
      · refine keeps_ite ?_ ?_
        · exact State.failFrame_keeps (ss hM rfl) ha0
        · extract_lets +onlyGivenNames v3
          have h4 : Keeps M s0 v3 := State.modEng_keeps (ss hM rfl) (State.unfetch_keeps (ss hM rfl)
              (State.putFrame_keeps (ss hM rfl) ha0))
          try clear_value v3
          exact keeps_ite h4 (State.modFab_keeps (ss hM rfl) (State.setRegionState_keeps (ss hM rfl) h4))

theorem doFrameEntry_keeps {M : Nat} {s0 : State} {a0} (hM : 54061887584731153 &&& M = 54061887584731153) (ha0 :
    Keeps M s0 a0) : Keeps M s0 (doFrameEntry a0) := by
  unfold doFrameEntry
  extract_lets +onlyGivenNames v0
  refine keeps_ite ?_ ?_
  · exact ha0
  · extract_lets +onlyGivenNames v1 v2
    have h3 : Keeps M s0 v2 := keeps_ite (State.modFab_keeps (ss hM rfl) ha0) ha0
    try clear_value v2
    exact State.lengthCheck_keeps (ss hM rfl) (State.commitEntry_keeps (ss hM rfl) (State.consume_keeps (ss hM rfl)
        h3))

theorem execFrameEntry_keeps {M : Nat} {s0 : State} {a0} (hM : 54061887584731153 &&& M = 54061887584731153) (ha0 :
    Keeps M s0 a0) : KeepsO M s0 (execFrameEntry a0) := by
  unfold execFrameEntry
  exact keepsO_next (doFrameEntry_keeps (ss hM rfl) ha0)

theorem State.returnFrame_keeps {M : Nat} {s0 : State} {a0 a1} (hM : 4194305 &&& M = 4194305) (ha0 : Keeps M s0 a0) :
    Keeps M s0 (State.returnFrame a0 a1) := by
  unfold State.returnFrame
  exact State.modFab_keeps (ss hM rfl) (State.emit_keeps (ss hM rfl) ha0)

theorem State.readFrame_keeps {M : Nat} {s0 : State} {a0 a1} (hM : 4194305 &&& M = 4194305) (ha0 : Keeps M s0 a0) :
    Keeps M s0 (State.readFrame a0 a1) := by
  unfold State.readFrame
  refine keeps_ite ?_ ?_
  · exact State.returnFrame_keeps (ss hM rfl) ha0
  · extract_lets +onlyGivenNames v0
    have h1 : Keeps M s0 v0 := State.returnFrame_keeps (ss hM rfl) ha0
    exact keeps_stores h1 rfl (Nat.le_succ _) id (fun k _ => by
      have r := k.same_refl v0
      cases k with
      | _ => exact r)

theorem doReadRecord_keeps {M : Nat} {s0 : State} {a0} (hM : 54061887582633985 &&& M = 54061887582633985) (ha0 :
    Keeps M s0 a0) : Keeps M s0 (doReadRecord a0) := by
  unfold doReadRecord
  exact State.record_keeps (ss hM rfl) ha0 (fun y0 y1 y2 h3 => keeps_ite (State.failStream_keeps (ss hM rfl) h3)
      (keeps_ite (State.failStream_keeps (ss hM rfl) h3) (keeps_ite (State.failFrame_keeps (ss hM rfl) h3)
      (keeps_foldl h3 (fun _ _ h4 => State.readFrame_keeps (ss hM rfl) h4)))))

theorem execReadRecord_keeps {M : Nat} {s0 : State} {a0} (hM : 54061887582633985 &&& M = 54061887582633985) (ha0 :
    Keeps M s0 a0) : KeepsO M s0 (execReadRecord a0) := by
  unfold execReadRecord
  exact keepsO_next (doReadRecord_keeps (ss hM rfl) ha0)

theorem doCheckRecord_keeps {M : Nat} {s0 : State} {a0} (hM : 54061887582633985 &&& M = 54061887582633985) (ha0 :
    Keeps M s0 a0) : Keeps M s0 (doCheckRecord a0) := by
  unfold doCheckRecord
  refine State.record_keeps (ss hM rfl) ?_ ?_
  · exact ha0
  · intro y0 y1 y2 h3
    extract_lets +onlyGivenNames v4
    exact keeps_ite (State.modEng_keeps (ss hM rfl) h3) (State.failStream_keeps (ss hM rfl) h3)

theorem execCheckRecord_keeps {M : Nat} {s0 : State} {a0} (hM : 54061887582633985 &&& M = 54061887582633985) (ha0 :
    Keeps M s0 a0) : KeepsO M s0 (execCheckRecord a0) := by
  unfold execCheckRecord
  exact keepsO_next (doCheckRecord_keeps (ss hM rfl) ha0)

theorem doActionNone_keeps {M : Nat} {s0 : State} {a0} (hM : 54061887582633985 &&& M = 54061887582633985) (ha0 :
    Keeps M s0 a0) : Keeps M s0 (doActionNone a0) := by
  unfold doActionNone
  exact State.record_keeps (ss hM rfl) ha0 (fun y0 y1 y2 h3 => h3)

theorem execActionNone_keeps {M : Nat} {s0 : State} {a0} (hM : 54061887582633985 &&& M = 54061887582633985) (ha0 :
    Keeps M s0 a0) : KeepsO M s0 (execActionNone a0) := by
  unfold execActionNone
  exact keepsO_next (doActionNone_keeps (ss hM rfl) ha0)

theorem doCheckReset_keeps {M : Nat} {s0 : State} {a0} (hM : 54061887582633985 &&& M = 54061887582633985) (ha0 :
    Keeps M s0 a0) : Keeps M s0 (doCheckReset a0) := by
  unfold doCheckReset
  exact State.record_keeps (ss hM rfl) ha0 (fun y0 y1 y2 h3 => State.modEng_keeps (ss hM rfl) h3)

theorem execCheckReset_keeps {M : Nat} {s0 : State} {a0} (hM : 54061887582633985 &&& M = 54061887582633985) (ha0 :
    Keeps M s0 a0) : KeepsO M s0 (execCheckReset a0) := by
  unfold execCheckReset
  exact keepsO_next (doCheckReset_keeps (ss hM rfl) ha0)

theorem State.beginStartup_keeps {M : Nat} {s0 : State} {a0} (hM : 54043195528445952 &&& M = 54043195528445952) (ha0
    : Keeps M s0 a0) : Keeps M s0 (State.beginStartup a0) := by
  unfold State.beginStartup
  extract_lets +onlyGivenNames v0
  have h1 : Keeps M s0 v0 := State.wr_keeps (ss hM rfl) (ss hM rfl) (State.wr_keeps (ss hM rfl) (ss hM rfl) ha0)
  try clear_value v0
  exact State.wr_keeps (ss hM rfl) (ss hM rfl) (State.wr_keeps (ss hM rfl) (ss hM rfl) (State.wr_keeps (ss hM rfl)
      (ss hM rfl) h1))

theorem State.startRegion_keeps {M : Nat} {s0 : State} {a0 a1} (hM : 18015498360848897 &&& M = 18015498360848897)
    (ha0 : Keeps M s0 a0) : Keeps M s0 (State.startRegion a0 a1) := by
  unfold State.startRegion
  extract_lets +onlyGivenNames v0
  have h1 : Keeps M s0 v0 := State.loadInit_keeps (ss hM rfl) ha0
  try clear_value v0
  extract_lets +onlyGivenNames v2
  have h3 : Keeps M s0 v2 := keeps_mk h1 rfl (g_outbound := .inl (ss hM rfl))
  try clear_value v2
  exact State.modEng_keeps (ss hM rfl) (State.raise_keeps (ss hM rfl) (State.setRegionState_keeps (ss hM rfl) h3))

theorem doLaunch_keeps {M : Nat} {s0 : State} {a0} (hM : 54061887582634497 &&& M = 54061887582634497) (ha0 : Keeps M
    s0 a0) : Keeps M s0 (doLaunch a0) := by
  unfold doLaunch
  refine State.record_keeps (ss hM rfl) ?_ ?_
  · exact ha0
  · intro y0 y1 y2 h3
    extract_lets +onlyGivenNames v4 v5
    have h6 : Keeps M s0 v5 := State.modEng_keeps (ss hM rfl) h3
    try clear_value v5
    exact keeps_ite (State.failStream_keeps (ss hM rfl) h6) (keeps_ite (keeps_ite (State.failStream_keeps (ss hM rfl)
        h6) (keeps_ite (State.failStream_keeps (ss hM rfl) h6) (keeps_ite (State.failStream_keeps (ss hM rfl) h6)
        (keeps_ite (State.failStream_keeps (ss hM rfl) h6) (State.beginStartup_keeps (ss hM rfl) h6))))) (keeps_ite
        (State.failStream_keeps (ss hM rfl) h6) (State.startRegion_keeps (ss hM rfl) h6)))

theorem execLaunch_keeps {M : Nat} {s0 : State} {a0} (hM : 54061887582634497 &&& M = 54061887582634497) (ha0 : Keeps
    M s0 a0) : KeepsO M s0 (execLaunch a0) := by
  unfold execLaunch
  exact keepsO_next (doLaunch_keeps (ss hM rfl) ha0)

theorem doEndStream_keeps {M : Nat} {s0 : State} {a0} (hM : 54061887582633985 &&& M = 54061887582633985) (ha0 : Keeps
    M s0 a0) : Keeps M s0 (doEndStream a0) := by
  unfold doEndStream
  exact State.record_keeps (ss hM rfl) ha0 (fun y0 y1 y2 h3 => State.closeStream_keeps (ss hM rfl) h3)

theorem execEndStream_keeps {M : Nat} {s0 : State} {a0} (hM : 54061887582633985 &&& M = 54061887582633985) (ha0 :
    Keeps M s0 a0) : KeepsO M s0 (execEndStream a0) := by
  unfold execEndStream
  exact keepsO_next (doEndStream_keeps (ss hM rfl) ha0)

theorem doQuiesce_keeps {M : Nat} {s0 : State} {a0} (hM : 54061887582633985 &&& M = 54061887582633985) (ha0 : Keeps M
    s0 a0) : Keeps M s0 (doQuiesce a0) := by
  unfold doQuiesce
  refine State.record_keeps (ss hM rfl) ?_ ?_
  · exact ha0
  · intro y0 y1 y2 h3
    extract_lets +onlyGivenNames v4
    exact keeps_ite (State.failStream_keeps (ss hM rfl) h3) (keeps_ite (State.failStream_keeps (ss hM rfl) h3)
        (State.modEng_keeps (ss hM rfl) (State.setRegionState_keeps (ss hM rfl) (keeps_ite (State.holdRegion_keeps
        (ss hM rfl) h3) h3))))

theorem execQuiesce_keeps {M : Nat} {s0 : State} {a0} (hM : 54061887582633985 &&& M = 54061887582633985) (ha0 : Keeps
    M s0 a0) : KeepsO M s0 (execQuiesce a0) := by
  unfold execQuiesce
  exact keepsO_next (doQuiesce_keeps (ss hM rfl) ha0)

theorem doFrameClearDone_keeps {M : Nat} {s0 : State} {a0} (hM : 54061887584731153 &&& M = 54061887584731153) (ha0 :
    Keeps M s0 a0) : Keeps M s0 (doFrameClearDone a0) := by
  unfold doFrameClearDone
  extract_lets +onlyGivenNames v0
  have h1 : Keeps M s0 v0 := State.modFab_keeps (ss hM rfl) (State.clearFrames_keeps (ss hM rfl) ha0)
  try clear_value v0
  split
  · exact ha0
  · exact keeps_ite (State.lengthCheck_keeps (ss hM rfl) (State.beginFetch_keeps (ss hM rfl) (State.raise_keeps (ss
        hM rfl) (State.wr_keeps (ss hM rfl) (ss hM rfl) h1)))) (State.logEvent_keeps (ss hM rfl) (State.raise_keeps
        (ss hM rfl) (State.wr_keeps (ss hM rfl) (ss hM rfl) (State.closeStream_keeps (ss hM rfl) h1))))
  · exact State.wr_keeps (ss hM rfl) (ss hM rfl) (State.wr_keeps (ss hM rfl) (ss hM rfl) h1)

theorem execFrameClearDone_keeps {M : Nat} {s0 : State} {a0} (hM : 54061887584731153 &&& M = 54061887584731153) (ha0
    : Keeps M s0 a0) : KeepsO M s0 (execFrameClearDone a0) := by
  unfold execFrameClearDone
  exact keepsO_next (doFrameClearDone_keeps (ss hM rfl) ha0)

theorem State.startTrees_keeps {M : Nat} {s0 : State} {a0} (hM : 36028797018963968 &&& M = 36028797018963968) (ha0 :
    Keeps M s0 a0) : Keeps M s0 (State.startTrees a0) := by
  unfold State.startTrees
  exact State.wr_keeps (ss hM rfl) (ss hM rfl) ha0

theorem State.enterPhase_keeps {M : Nat} {s0 : State} {a0 a1} (hM : 54044295379812865 &&& M = 54044295379812865) (ha0
    : Keeps M s0 a0) : Keeps M s0 (State.enterPhase a0 a1) := by
  unfold State.enterPhase
  extract_lets +onlyGivenNames v0
  have h1 : Keeps M s0 v0 := State.wr_keeps (ss hM rfl) (ss hM rfl) ha0
  try clear_value v0
  split
  · exact State.wr_keeps (ss hM rfl) (ss hM rfl) (State.startTrees_keeps (ss hM rfl) h1)
  · exact State.modFab_keeps (ss hM rfl) h1
  · exact State.modFab_keeps (ss hM rfl) h1
  · exact State.modFab_keeps (ss hM rfl) (State.loadInit_keeps (ss hM rfl) h1)
  · extract_lets +onlyGivenNames v2
    have h3 : Keeps M s0 v2 := State.modFab_keeps (ss hM rfl) h1
    try clear_value v2
    exact keeps_mk h3 rfl (g_outbound := .inl (ss hM rfl))
  · exact State.raise_keeps (ss hM rfl) (State.wr_keeps (ss hM rfl) (ss hM rfl) h1)
  · exact h1

theorem doStartupPhase_keeps {M : Nat} {s0 : State} {a0 a1 a2} (hM : 54044295379812865 &&& M = 54044295379812865)
    (ha2 : Keeps M s0 a2) : Keeps M s0 (doStartupPhase a0 a1 a2) := by
  unfold doStartupPhase
  extract_lets +onlyGivenNames v0
  try clear_value v0
  split
  · exact ha2
  · extract_lets +onlyGivenNames v1
    have h2 : Keeps M s0 v1 := State.wr_keeps (ss hM rfl) (ss hM rfl) (State.wr_keeps (ss hM rfl) (ss hM rfl) ha2)
    try clear_value v1
    exact keeps_ite (State.enterPhase_keeps (ss hM rfl) h2) h2
  · extract_lets +onlyGivenNames v3
    have h4 : Keeps M s0 v3 := State.wr_keeps (ss hM rfl) (ss hM rfl) ha2
    try clear_value v3
    refine keeps_ite ?_ ?_
    · exact State.enterPhase_keeps (ss hM rfl) h4
    · extract_lets +onlyGivenNames v5
      exact keeps_ite (State.enterPhase_keeps (ss hM rfl) h4) (State.modFab_keeps (ss hM rfl) h4)
  · exact State.wr_keeps (ss hM rfl) (ss hM rfl) ha2
  · exact State.enterPhase_keeps (ss hM rfl) ha2

theorem execStartupPhase_keeps {M : Nat} {s0 : State} {a0 a1 a2} (hM : 54044295379812865 &&& M = 54044295379812865)
    (ha2 : Keeps M s0 a2) : KeepsO M s0 (execStartupPhase a0 a1 a2) := by
  unfold execStartupPhase
  exact keepsO_next (doStartupPhase_keeps (ss hM rfl) ha2)

theorem doStartupPllTimeout_keeps {M : Nat} {s0 : State} {a0} (hM : 54061887582633985 &&& M = 54061887582633985) (ha0
    : Keeps M s0 a0) : Keeps M s0 (doStartupPllTimeout a0) := by
  unfold doStartupPllTimeout
  exact keeps_ite (State.loadFailed_keeps (ss hM rfl) ha0) ha0

theorem execStartupPllTimeout_keeps {M : Nat} {s0 : State} {a0} (hM : 54061887582633985 &&& M = 54061887582633985)
    (ha0 : Keeps M s0 a0) : KeepsO M s0 (execStartupPllTimeout a0) := by
  unfold execStartupPllTimeout
  exact keepsO_next (doStartupPllTimeout_keeps (ss hM rfl) ha0)

theorem doDoneTimeout_keeps {M : Nat} {s0 : State} {a0} (hM : 54061887582633985 &&& M = 54061887582633985) (ha0 :
    Keeps M s0 a0) : Keeps M s0 (doDoneTimeout a0) := by
  unfold doDoneTimeout
  exact keeps_ite (State.loadFailed_keeps (ss hM rfl) ha0) ha0

theorem execDoneTimeout_keeps {M : Nat} {s0 : State} {a0} (hM : 54061887582633985 &&& M = 54061887582633985) (ha0 :
    Keeps M s0 a0) : KeepsO M s0 (execDoneTimeout a0) := by
  unfold execDoneTimeout
  exact keepsO_next (doDoneTimeout_keeps (ss hM rfl) ha0)

theorem doReleaseBlankEnd_keeps {M : Nat} {s0 : State} {a0} (hM : 512 &&& M = 512) (ha0 : Keeps M s0 a0) : Keeps M s0
    (doReleaseBlankEnd a0) := by
  unfold doReleaseBlankEnd
  exact keeps_mk ha0 rfl (g_outbound := .inl (ss hM rfl))

theorem execReleaseBlankEnd_keeps {M : Nat} {s0 : State} {a0} (hM : 512 &&& M = 512) (ha0 : Keeps M s0 a0) : KeepsO M
    s0 (execReleaseBlankEnd a0) := by
  unfold execReleaseBlankEnd
  exact keepsO_next (doReleaseBlankEnd_keeps (ss hM rfl) ha0)

theorem doCpWord_keeps {M : Nat} {s0 : State} {a0 a1} (hM : 18015498360848385 &&& M = 18015498360848385) (ha1 : Keeps
    M s0 a1) : Keeps M s0 (doCpWord a0 a1) := by
  unfold doCpWord
  exact keeps_ite (State.raise_keeps (ss hM rfl) ha1) (keeps_ite (State.modEng_keeps (ss hM rfl) (keeps_ite ha1
      (State.beginStream_keeps (ss hM rfl) ha1))) ha1)

theorem execCpWord_keeps {M : Nat} {s0 : State} {a0 a1} (hM : 18015498360848385 &&& M = 18015498360848385) (ha1 :
    Keeps M s0 a1) : KeepsO M s0 (execCpWord a0 a1) := by
  unfold execCpWord
  exact keepsO_next (doCpWord_keeps (ss hM rfl) ha1)

theorem doRegionWrite_keeps {M : Nat} {s0 : State} {a0 a1 a2 a3} (hM : 18015498021109761 &&& M = 18015498021109761)
    (ha3 : Keeps M s0 a3) : Keeps M s0 (doRegionWrite a0 a1 a2 a3) := by
  unfold doRegionWrite
  extract_lets +onlyGivenNames v0
  exact keeps_ite (State.refuseCfg_keeps (ss hM rfl) ha3) (State.respond_keeps (ss hM rfl) (State.wr_keeps (ss hM
      rfl) (offRegs (p := .cfg) rfl (ss hM rfl)) (State.wr_keeps (ss hM rfl) (offRegs (p := .cfg) rfl (ss hM rfl))
      (State.wr_keeps (ss hM rfl) (offRegs (p := .cfg) rfl (ss hM rfl)) (State.wr_keeps (ss hM rfl) (offRegs (p :=
      .cfg) rfl (ss hM rfl)) (State.wr_keeps (ss hM rfl) (offRegs (p := .cfg) rfl (ss hM rfl)) (State.wr_keeps (ss hM
      rfl) (offRegs (p := .cfg) rfl (ss hM rfl)) ha3)))))))

theorem doRegionStreamTimeout_keeps {M : Nat} {s0 : State} {a0} (hM : 54061887582633985 &&& M = 54061887582633985)
    (ha0 : Keeps M s0 a0) : Keeps M s0 (doRegionStreamTimeout a0) := by
  unfold doRegionStreamTimeout
  exact keeps_ite (State.failStream_keeps (ss hM rfl) ha0) ha0

theorem execRegionStreamTimeout_keeps {M : Nat} {s0 : State} {a0} (hM : 54061887582633985 &&& M = 54061887582633985)
    (ha0 : Keeps M s0 a0) : KeepsO M s0 (execRegionStreamTimeout a0) := by
  unfold execRegionStreamTimeout
  exact keepsO_next (doRegionStreamTimeout_keeps (ss hM rfl) ha0)

theorem State.fabricTick_keeps {M : Nat} {s0 : State} {a0} (hM : 54044295379812353 &&& M = 54044295379812353) (ha0 :
    Keeps M s0 a0) : Keeps M s0 (State.fabricTick a0) := by
  unfold State.fabricTick
  refine keeps_ite ?_ ?_
  · extract_lets +onlyGivenNames v0
    have h1 : Keeps M s0 v0 := State.modFab_keeps (ss hM rfl) (State.fabricClock_keeps (ss hM rfl) ha0)
    try clear_value v0
    exact keeps_ite (doCpWord_keeps (ss hM rfl) h1) h1
  · exact State.fabricClock_keeps (ss hM rfl) ha0

theorem State.loseTree_keeps {M : Nat} {s0 : State} {a0 a1} (hM : 36029896866136065 &&& M = 36029896866136065) (ha0 :
    Keeps M s0 a0) : Keeps M s0 (State.loseTree a0 a1) := by
  unfold State.loseTree
  exact keeps_ite (State.raise_keeps (ss hM rfl) (State.wr_keeps (ss hM rfl) (ss hM rfl) ha0)) ha0

theorem doGclkLost_keeps {M : Nat} {s0 : State} {a0 a1} (hM : 36029896866136065 &&& M = 36029896866136065) (ha1 :
    Keeps M s0 a1) : Keeps M s0 (doGclkLost a0 a1) := by
  unfold doGclkLost
  exact State.loseTree_keeps (ss hM rfl) ha1

theorem execGclkLost_keeps {M : Nat} {s0 : State} {a0 a1} (hM : 36029896866136065 &&& M = 36029896866136065) (ha1 :
    Keeps M s0 a1) : KeepsO M s0 (execGclkLost a0 a1) := by
  unfold execGclkLost
  exact keepsO_next (doGclkLost_keeps (ss hM rfl) ha1)

theorem doFabricPllUnlock_keeps {M : Nat} {s0 : State} {a0 a1} (hM : 36029896866136065 &&& M = 36029896866136065)
    (ha1 : Keeps M s0 a1) : Keeps M s0 (doFabricPllUnlock a0 a1) := by
  unfold doFabricPllUnlock
  refine keeps_ite ?_ ?_
  · extract_lets +onlyGivenNames v0
    have h1 : Keeps M s0 v0 := State.raise_keeps (ss hM rfl) (State.wr_keeps (ss hM rfl) (pageBit (n := 8) (p :=
        .fab) rfl rfl rfl (ss hM rfl)) ha1)
    try clear_value v0
    exact keeps_foldl h1 (fun _ _ h2 => keeps_ite (State.loseTree_keeps (ss hM rfl) h2) h2)
  · exact ha1

theorem execFabricPllUnlock_keeps {M : Nat} {s0 : State} {a0 a1} (hM : 36029896866136065 &&& M = 36029896866136065)
    (ha1 : Keeps M s0 a1) : KeepsO M s0 (execFabricPllUnlock a0 a1) := by
  unfold execFabricPllUnlock
  exact keepsO_next (doFabricPllUnlock_keeps (ss hM rfl) ha1)

theorem doBankVoltageChange_keeps {M : Nat} {s0 : State} {a0 a1 a2} (hM : 36029896866136065 &&& M =
    36029896866136065) (ha2 : Keeps M s0 a2) : Keeps M s0 (doBankVoltageChange a0 a1 a2) := by
  unfold doBankVoltageChange
  extract_lets +onlyGivenNames v0
  exact keeps_ite ha2 (State.raise_keeps (ss hM rfl) (State.wr_keeps (ss hM rfl) (ss hM rfl) ha2))

theorem execBankVoltageChange_keeps {M : Nat} {s0 : State} {a0 a1 a2} (hM : 36029896866136065 &&& M =
    36029896866136065) (ha2 : Keeps M s0 a2) : KeepsO M s0 (execBankVoltageChange a0 a1 a2) := by
  unfold execBankVoltageChange
  exact keepsO_next (doBankVoltageChange_keeps (ss hM rfl) ha2)

/-! ## Machine/ConfigScrub.lean -/

theorem State.scrubFrame_keeps {M : Nat} {s0 : State} {a0 a1} (hM : 18033090563670033 &&& M = 18033090563670033) (ha0
    : Keeps M s0 a0) : Keeps M s0 (State.scrubFrame a0 a1) := by
  unfold State.scrubFrame
  split
  · exact ha0
  · exact State.logEvent_keeps (ss hM rfl) (State.raise_keeps (ss hM rfl) (State.count_keeps (ss hM rfl) (ss hM rfl)
        (State.setEcc_keeps (ss hM rfl) ha0)))
  · extract_lets +onlyGivenNames v0
    have h1 : Keeps M s0 v0 := State.logEvent_keeps (ss hM rfl) (State.wr_keeps (ss hM rfl) (ss hM rfl)
        (State.raise_keeps (ss hM rfl) (State.count_keeps (ss hM rfl) (ss hM rfl) ha0)))
    try clear_value v0
    exact keeps_ite (State.logEvent_keeps (ss hM rfl) h1) (State.emit_keeps (ss hM rfl) (State.modFab_keeps (ss hM
        rfl) h1))

theorem State.scrubPass_keeps {M : Nat} {s0 : State} {a0} (hM : 18014398509481984 &&& M = 18014398509481984) (ha0 :
    Keeps M s0 a0) : Keeps M s0 (State.scrubPass a0) := by
  unfold State.scrubPass
  exact State.wr_keeps (ss hM rfl) (ss hM rfl) (State.count_keeps (ss hM rfl) (ss hM rfl) ha0)

theorem doScrubFrameRead_keeps {M : Nat} {s0 : State} {a0 a1} (hM : 18033090563670033 &&& M = 18033090563670033) (ha1
    : Keeps M s0 a1) : Keeps M s0 (doScrubFrameRead a0 a1) := by
  unfold doScrubFrameRead
  extract_lets +onlyGivenNames v0
  have h1 : Keeps M s0 v0 := State.upset_keeps (ss hM rfl) ha1
  try clear_value v0
  refine keeps_ite ?_ ?_
  · exact h1
  · extract_lets +onlyGivenNames v2 v3 v4 v5
    try clear_value v5
    split
    · exact State.scrubPass_keeps (ss hM rfl) h1
    · extract_lets +onlyGivenNames v6
      have h7 : Keeps M s0 v6 := State.scrubFrame_keeps (ss hM rfl) h1
      try clear_value v6
      exact keeps_ite (State.scrubPass_keeps (ss hM rfl) h7) (State.wr_keeps (ss hM rfl) (ss hM rfl) h7)

theorem execScrubFrameRead_keeps {M : Nat} {s0 : State} {a0 a1} (hM : 18033090563670033 &&& M = 18033090563670033)
    (ha1 : Keeps M s0 a1) : KeepsO M s0 (execScrubFrameRead a0 a1) := by
  unfold execScrubFrameRead
  exact keepsO_next (doScrubFrameRead_keeps (ss hM rfl) ha1)

theorem doFrameRefetch_keeps {M : Nat} {s0 : State} {a0 a1 a2} (hM : 18692056285201 &&& M = 18692056285201) (ha2 :
    Keeps M s0 a2) : Keeps M s0 (doFrameRefetch a0 a1 a2) := by
  unfold doFrameRefetch
  split
  · exact ha2
  · exact ha2
  · extract_lets +onlyGivenNames v0
    have h1 : Keeps M s0 v0 := State.modFab_keeps (ss hM rfl) ha2
    try clear_value v0
    exact keeps_ite (State.putFrame_keeps (ss hM rfl) h1) (State.logEvent_keeps (ss hM rfl) (keeps_ite h1
        (State.raise_keeps (ss hM rfl) h1)))

theorem execFrameRefetch_keeps {M : Nat} {s0 : State} {a0 a1 a2} (hM : 18692056285201 &&& M = 18692056285201) (ha2 :
    Keeps M s0 a2) : KeepsO M s0 (execFrameRefetch a0 a1 a2) := by
  unfold execFrameRefetch
  exact keepsO_next (doFrameRefetch_keeps (ss hM rfl) ha2)

theorem State.scrubRestart_keeps {M : Nat} {s0 : State} {a0} (hM : 18033090559475713 &&& M = 18033090559475713) (ha0
    : Keeps M s0 a0) : Keeps M s0 (State.scrubRestart a0) := by
  unfold State.scrubRestart
  exact State.logEvent_keeps (ss hM rfl) (State.raise_keeps (ss hM rfl) (State.count_keeps (ss hM rfl) (ss hM rfl)
      (State.wr_keeps (ss hM rfl) (ss hM rfl) ha0)))

theorem doScrubHeartbeatTimeout_keeps {M : Nat} {s0 : State} {a0} (hM : 18033090559475713 &&& M = 18033090559475713)
    (ha0 : Keeps M s0 a0) : Keeps M s0 (doScrubHeartbeatTimeout a0) := by
  unfold doScrubHeartbeatTimeout
  exact keeps_ite (State.scrubRestart_keeps (ss hM rfl) ha0) ha0

theorem execScrubHeartbeatTimeout_keeps {M : Nat} {s0 : State} {a0} (hM : 18033090559475713 &&& M =
    18033090559475713) (ha0 : Keeps M s0 a0) : KeepsO M s0 (execScrubHeartbeatTimeout a0) := by
  unfold execScrubHeartbeatTimeout
  exact keepsO_next (doScrubHeartbeatTimeout_keeps (ss hM rfl) ha0)

theorem doScrubSettingsFault_keeps {M : Nat} {s0 : State} {a0 a1} (hM : 18033090559475713 &&& M = 18033090559475713)
    (ha1 : Keeps M s0 a1) : Keeps M s0 (doScrubSettingsFault a0 a1) := by
  unfold doScrubSettingsFault
  exact keeps_ite (State.logEvent_keeps (ss hM rfl) (State.wr_keeps (ss hM rfl) (ss hM rfl) (State.wr_keeps (ss hM
      rfl) (ss hM rfl) (State.wr_keeps (ss hM rfl) (ss hM rfl) ha1)))) (State.scrubRestart_keeps (ss hM rfl) ha1)

theorem execScrubSettingsFault_keeps {M : Nat} {s0 : State} {a0 a1} (hM : 18033090559475713 &&& M =
    18033090559475713) (ha1 : Keeps M s0 a1) : KeepsO M s0 (execScrubSettingsFault a0 a1) := by
  unfold execScrubSettingsFault
  exact keepsO_next (doScrubSettingsFault_keeps (ss hM rfl) ha1)

theorem doFrameWindowRead_keeps {M : Nat} {s0 : State} {a0 a1 a2 a3 a4} (hM : 18692049993729 &&& M = 18692049993729)
    (ha4 : Keeps M s0 a4) : Keeps M s0 (doFrameWindowRead a0 a1 a2 a3 a4) := by
  unfold doFrameWindowRead
  exact keeps_ite (State.quayAnswer_keeps (ss hM rfl) ha4) (keeps_ite (State.quayAnswer_keeps (ss hM rfl) ha4)
      (State.quayAnswer_keeps (ss hM rfl) (State.logEvent_keeps (ss hM rfl) (State.err_keeps (ss hM rfl) ha4))))

theorem execFrameWindowRead_keeps {M : Nat} {s0 : State} {a0 a1 a2 a3 a4} (hM : 18692049993729 &&& M =
    18692049993729) (ha4 : Keeps M s0 a4) : KeepsO M s0 (execFrameWindowRead a0 a1 a2 a3 a4) := by
  unfold execFrameWindowRead
  exact keepsO_next (doFrameWindowRead_keeps (ss hM rfl) ha4)

end Sys2Proof.Machine
end

