-- ==== Sys2Proof/Laws/Keeps5.lean ====
section
/-! SUPPORT. Laws/Keeps5.lean: what the operations of Machine/Resets.lean, Machine/Resil.lean, Machine/Time.lean, Machine/RegWrites.lean, Machine/HostIf.lean
keep of a state. -/

namespace Sys2Proof.Machine
set_option Elab.async false
open Sys2Proof

/-! ## Machine/Resets.lean -/

theorem State.resetCause_keeps {M : Nat} {s0 : State} {a0 a1 a2} (hM : 4398046511104 &&& M = 4398046511104) (ha0 :
    Keeps M s0 a0) : Keeps M s0 (State.resetCause a0 a1 a2) := by
  unfold State.resetCause
  exact State.wr_keeps (ss hM rfl) (ss hM rfl) (State.wr_keeps (ss hM rfl) (ss hM rfl) ha0)

theorem State.powerOn_keeps {M : Nat} {s0 : State} {a0 a1 a2 a3} (hM : 4611686018418999294 &&& M = 4611686018418999294) (ha0 : Keeps M s0 a0) : Keeps M s0 (State.powerOn a0 a1 a2 a3) := by
  unfold State.powerOn
  extract_lets +onlyGivenNames v0
  have h1 : Keeps M s0 v0 := by
    refine keeps_stores ha0 rfl (le_refl _) ?_ ?_
    · simp only [Memory.wf, Bool.and_eq_true, v0]
      rintro ⟨⟨⟨⟨⟨⟨⟨⟨h, -⟩, -⟩, -⟩, -⟩, -⟩, -⟩, hl⟩, -⟩
      exact ⟨⟨⟨⟨⟨⟨⟨⟨SMap.sorted_keep _ h, rfl⟩, rfl⟩, rfl⟩, rfl⟩, rfl⟩, rfl⟩, hl⟩, rfl⟩
    · intro k hk
      cases k with
      | out => exact rfl
      | logbook => exact ⟨rfl, rfl⟩
      | regs p => cases p <;> exact (in_absurd hM rfl hk).elim
      | _ => exact (in_absurd hM rfl hk).elim
  clear_value v0
  exact State.wr_keeps (ss hM rfl) (ss hM rfl) (State.resetCause_keeps (ss hM rfl) h1)

theorem State.enterService_keeps {M : Nat} {s0 : State} {a0} (hM : 21990249332736 &&& M = 21990249332736) (ha0 :
    Keeps M s0 a0) : Keeps M s0 (State.enterService a0) := by
  unfold State.enterService
  extract_lets +onlyGivenNames v0
  have h1 : Keeps M s0 v0 := State.wr_keeps (ss hM rfl) (ss hM rfl) (State.wr_keeps (ss hM rfl) (ss hM rfl) ha0)
  try clear_value v0
  exact keeps_mk h1 rfl (g_log := .inl (ss hM rfl))

theorem doPowerOnReset_keeps {M : Nat} {s0 : State} {a0 a1} (hM : 4611686018418999294 &&& M = 4611686018418999294)
    (ha1 : Keeps M s0 a1) : Keeps M s0 (doPowerOnReset a0 a1) := by
  unfold doPowerOnReset
  extract_lets +onlyGivenNames v0
  have h1 : Keeps M s0 v0 := keeps_mk ha1 rfl (g_power := .inl (ss hM rfl))
  try clear_value v0
  refine keeps_ite ?_ ?_
  · exact h1
  · split
    · exact State.powerOn_keeps (ss hM rfl) h1
    · exact State.powerOn_keeps (ss hM rfl) h1

theorem execPowerOnReset_keeps {M : Nat} {s0 : State} {a0 a1} (hM : 4611686018418999294 &&& M = 4611686018418999294)
    (ha1 : Keeps M s0 a1) : KeepsO M s0 (execPowerOnReset a0 a1) := by
  unfold execPowerOnReset
  exact keepsO_next (doPowerOnReset_keeps (ss hM rfl) ha1)

theorem execVddAonLoss_keeps {M : Nat} {s0 : State} {a0} (hM : 4611686018418999294 &&& M = 4611686018418999294) (ha0
    : Keeps M s0 a0) : KeepsO M s0 (execVddAonLoss a0) := by
  unfold execVddAonLoss
  exact keepsO_next (State.powerOn_keeps (ss hM rfl) (keeps_mk ha0 rfl (g_power := .inl (ss hM rfl))))

theorem doVddAonRise_keeps {M : Nat} {s0 : State} {a0} (hM : 4398046511104 &&& M = 4398046511104) (ha0 : Keeps M s0
    a0) : Keeps M s0 (doVddAonRise a0) := by
  unfold doVddAonRise
  exact keeps_ite (State.wr_keeps (ss hM rfl) (ss hM rfl) ha0) ha0

theorem execVddAonRise_keeps {M : Nat} {s0 : State} {a0} (hM : 4398046511104 &&& M = 4398046511104) (ha0 : Keeps M s0
    a0) : KeepsO M s0 (execVddAonRise a0) := by
  unfold execVddAonRise
  exact keepsO_next (doVddAonRise_keeps (ss hM rfl) ha0)

theorem doPorstNRise_keeps {M : Nat} {s0 : State} {a0 a1} (hM : 2275997676208128 &&& M = 2275997676208128) (ha1 :
    Keeps M s0 a1) : Keeps M s0 (doPorstNRise a0 a1) := by
  unfold doPorstNRise
  refine keeps_ite ?_ ?_
  · exact ha1
  · extract_lets +onlyGivenNames v0 v1
    have h2 : Keeps M s0 v1 := State.wr_keeps (ss hM rfl) (ss hM rfl) (State.wr_keeps (ss hM rfl) (ss hM rfl)
        (State.wr_keeps (ss hM rfl) (ss hM rfl) (keeps_mk ha1 rfl (g_power := .inl (ss hM rfl)))))
    try clear_value v1
    extract_lets +onlyGivenNames v3
    have h4 : Keeps M s0 v3 := State.wr_keeps (ss hM rfl) (ss hM rfl) (State.wr_keeps (ss hM rfl) (ss hM rfl) h2)
    try clear_value v3
    exact keeps_ite h4 (State.enterService_keeps (ss hM rfl) h4)

theorem execPorstNRise_keeps {M : Nat} {s0 : State} {a0 a1} (hM : 2275997676208128 &&& M = 2275997676208128) (ha1 :
    Keeps M s0 a1) : KeepsO M s0 (execPorstNRise a0 a1) := by
  unfold execPorstNRise
  exact keepsO_next (doPorstNRise_keeps (ss hM rfl) ha1)

theorem doThermalTrip_keeps {M : Nat} {s0 : State} {a0} (hM : 4611686018418999294 &&& M = 4611686018418999294) (ha0 :
    Keeps M s0 a0) : Keeps M s0 (doThermalTrip a0) := by
  unfold doThermalTrip
  exact keeps_ite ha0 (keeps_ite (keeps_mk ha0 rfl (g_power := .inl (ss hM rfl))) (State.powerOn_keeps (ss hM rfl)
      (keeps_mk ha0 rfl (g_power := .inl (ss hM rfl)))))

theorem execThermalTrip_keeps {M : Nat} {s0 : State} {a0} (hM : 4611686018418999294 &&& M = 4611686018418999294) (ha0
    : Keeps M s0 a0) : KeepsO M s0 (execThermalTrip a0) := by
  unfold execThermalTrip
  exact keepsO_next (doThermalTrip_keeps (ss hM rfl) ha0)

theorem doThermalTripClear_keeps {M : Nat} {s0 : State} {a0} (hM : 21998839267328 &&& M = 21998839267328) (ha0 :
    Keeps M s0 a0) : Keeps M s0 (doThermalTripClear a0) := by
  unfold doThermalTripClear
  refine keeps_ite ?_ ?_
  · exact ha0
  · extract_lets +onlyGivenNames v0
    have h1 : Keeps M s0 v0 := keeps_mk ha0 rfl (g_power := .inl (ss hM rfl))
    try clear_value v0
    exact keeps_ite (State.enterService_keeps (ss hM rfl) h1) h1

theorem execThermalTripClear_keeps {M : Nat} {s0 : State} {a0} (hM : 21998839267328 &&& M = 21998839267328) (ha0 :
    Keeps M s0 a0) : KeepsO M s0 (execThermalTripClear a0) := by
  unfold execThermalTripClear
  exact keepsO_next (doThermalTripClear_keeps (ss hM rfl) ha0)

theorem doCorePllLock_keeps {M : Nat} {s0 : State} {a0} (hM : 2305989244260188164 &&& M = 2305989244260188164) (ha0 :
    Keeps M s0 a0) : Keeps M s0 (doCorePllLock a0) := by
  unfold doCorePllLock
  refine keeps_ite ?_ ?_
  · exact ha0
  · refine keeps_ite ?_ ?_
    · exact State.wr_keeps (ss hM rfl) (ss hM rfl) ha0
    · extract_lets +onlyGivenNames v0
      have h1 : Keeps M s0 v0 := State.wr_keeps (ss hM rfl) (ss hM rfl) ha0
      try clear_value v0
      extract_lets +onlyGivenNames v2
      have h3 : Keeps M s0 v2 := State.setRoutes_keeps (ss hM rfl) (keeps_mk h1 rfl (g_time := .inl (ss hM rfl)))
      try clear_value v2
      exact keeps_foldl h3 (fun _ _ h4 => State.wr_keeps (ss hM rfl) (offRegs (p := .irq) rfl (ss hM rfl))
          (State.wr_keeps (ss hM rfl) (offRegs (p := .irq) rfl (ss hM rfl)) h4))

theorem execCorePllLock_keeps {M : Nat} {s0 : State} {a0} (hM : 2305989244260188164 &&& M = 2305989244260188164) (ha0
    : Keeps M s0 a0) : KeepsO M s0 (execCorePllLock a0) := by
  unfold execCorePllLock
  exact keepsO_next (doCorePllLock_keeps (ss hM rfl) ha0)

theorem State.systemReset_keeps {M : Nat} {s0 : State} {a0 a1} (hM : 4611685984059260926 &&& M = 4611685984059260926) (ha0 : Keeps M s0 a0) : Keeps M s0 (State.systemReset a0 a1) := by
  unfold State.systemReset
  extract_lets +onlyGivenNames v0
  have h1 : Keeps M s0 v0 := by
    refine keeps_stores ha0 rfl (le_refl _) ?_ ?_
    · simp only [Memory.wf, Bool.and_eq_true, v0]
      rintro ⟨⟨⟨⟨⟨⟨⟨⟨h, -⟩, -⟩, -⟩, -⟩, -⟩, -⟩, hl⟩, -⟩
      exact ⟨⟨⟨⟨⟨⟨⟨⟨SMap.sorted_keep _ h, rfl⟩, rfl⟩, rfl⟩, rfl⟩, rfl⟩, rfl⟩, hl⟩, rfl⟩
    · intro k hk
      cases k with
      | out => exact rfl
      | logbook => exact ⟨rfl, rfl⟩
      | tap => exact rfl
      | regs p => cases p <;> exact (in_absurd hM rfl hk).elim
      | _ => exact (in_absurd hM rfl hk).elim
  clear_value v0
  extract_lets +onlyGivenNames v2
  have h3 : Keeps M s0 v2 := State.wr_keeps (ss hM rfl) (ss hM rfl) (State.resetCause_keeps (ss hM rfl) h1)
  clear_value v2
  exact State.spareCounts_keeps (ss hM rfl) (keeps_mk h3 rfl (g_log := .inl (ss hM rfl)))

theorem State.controlReset_keeps {M : Nat} {s0 : State} {a0 a1} (hM : 9180373359525907 &&& M = 9180373359525907) (ha0 : Keeps M s0 a0) : Keeps M s0 (State.controlReset a0 a1) := by
  unfold State.controlReset
  extract_lets +onlyGivenNames v0
  have h1 : Keeps M s0 v0 := by
    refine keeps_stores ha0 rfl (le_refl _) ?_ ?_
    · simp only [Memory.wf, Bool.and_eq_true, v0]
      rintro ⟨⟨⟨⟨⟨⟨⟨⟨h0, h1⟩, h2⟩, h3⟩, h4⟩, h5⟩, h6⟩, h7⟩, -⟩
      exact ⟨⟨⟨⟨⟨⟨⟨⟨SMap.sorted_keep _ h0, h1⟩, h2⟩, h3⟩, h4⟩, h5⟩, h6⟩, h7⟩, rfl⟩
    · intro k hk
      have r := k.same_refl a0
      cases k with
      | errors =>
        intro f ch e
        show SMap.get f.reset (a0.regs.keep (fun k => !clearedAtControl k)) (f.key ch) = SMap.get f.reset a0.regs (f.key ch)
        refine SMap.get_keep ?_ _
        have o : f.key ch / 2 ^ 5 % 4096 = f.off % 4096 := Fld.key_off f ch
        simp only [errorReg, Bool.or_eq_true, beq_iff_eq] at e
        simp only [clearedAtControl, keyOff, o]
        rcases e with (e | e) | e <;> simp [e]
      | regs p =>
        intro f ch e n
        show SMap.get f.reset (a0.regs.keep (fun k => !clearedAtControl k)) (f.key ch) = SMap.get f.reset a0.regs (f.key ch)
        refine SMap.get_keep ?_ _
        simp only [clearedAtControl, keyType, Fld.key_page, e]
        cases p with
        | hst => exact (in_absurd hM rfl hk).elim
        | res => exact (in_absurd hM rfl hk).elim
        | _ => rfl
      | access => exact (in_absurd hM rfl hk).elim
      | health => exact (in_absurd hM rfl hk).elim
      | control => exact (in_absurd hM rfl hk).elim
      | noc => exact (in_absurd hM rfl hk).elim
      | _ => exact r
  clear_value v0
  extract_lets +onlyGivenNames v2
  have h3 : Keeps M s0 v2 := keeps_foldl h1 (fun _ _ h4 => State.setIrqStack_keeps (ss hM rfl) h4)
  clear_value v2
  extract_lets +onlyGivenNames v5
  have h6 : Keeps M s0 v5 := State.resetCause_keeps (ss hM rfl) (State.rearmSource_keeps (ss hM rfl) h3)
  clear_value v5
  exact State.logQueue_keeps (ss hM rfl) h6

theorem doResetCommand_keeps {M : Nat} {s0 : State} {a0 a1 a2} (hM : 4611685984059260927 &&& M = 4611685984059260927)
    (ha2 : Keeps M s0 a2) : Keeps M s0 (doResetCommand a0 a1 a2) := by
  unfold doResetCommand
  refine keeps_ite ?_ ?_
  · extract_lets +onlyGivenNames v0
    have h1 : Keeps M s0 v0 := State.respond_keeps (ss hM rfl) ha2
    try clear_value v0
    exact keeps_ite (State.systemReset_keeps (ss hM rfl) h1) (State.controlReset_keeps (ss hM rfl) h1)
  · exact State.refuseWrite_keeps (ss hM rfl) ha2

/-! ## Machine/Resil.lean -/

theorem doIsWriteback_keeps {M : Nat} {s0 : State} {a0 a1 a2} (hM : 48 &&& M = 48) (ha2 : Keeps M s0 a2) : Keeps M s0
    (doIsWriteback a0 a1 a2) := by
  unfold doIsWriteback
  extract_lets +onlyGivenNames v0
  try clear_value v0
  split
  · exact ha2
  · extract_lets +onlyGivenNames v1
    have h2 : Keeps M s0 v1 := keeps_mk ha2 rfl (g_istore := .inl (ss hM rfl))
    try clear_value v1
    exact keeps_ite (State.setEcc_keeps (ss hM rfl) h2) h2

theorem execIsWriteback_keeps {M : Nat} {s0 : State} {a0 a1 a2} (hM : 48 &&& M = 48) (ha2 : Keeps M s0 a2) : KeepsO M
    s0 (execIsWriteback a0 a1 a2) := by
  unfold execIsWriteback
  exact keepsO_next (doIsWriteback_keeps (ss hM rfl) ha2)

theorem State.scrubBlock_keeps {M : Nat} {s0 : State} {a0 a1 a2 a3 a4} (hM : 9025891304735761 &&& M =
    9025891304735761) (ha0 : Keeps M s0 a0) : Keeps M s0 (State.scrubBlock a0 a1 a2 a3 a4) := by
  unfold State.scrubBlock
  extract_lets +onlyGivenNames v0 v1 v2 v3 v4
  have h5 : Keeps M s0 v4 := keeps_foldl ha0 (fun _ _ h6 => State.setEcc_keeps (ss hM rfl) h6)
  try clear_value v4
  extract_lets +onlyGivenNames v7
  have h8 : Keeps M s0 v7 := State.count_keeps (ss hM rfl) (ss hM rfl) (State.count_keeps (ss hM rfl) (ss hM rfl) h5)
  try clear_value v7
  extract_lets +onlyGivenNames v9
  have h10 : Keeps M s0 v9 := keeps_ite h8 (State.absorbed_keeps (ss hM rfl) h8)
  try clear_value v9
  try clear_value v3
  split
  · exact h10
  · extract_lets +onlyGivenNames v11
    have h12 : Keeps M s0 v11 := State.resEvent_keeps (ss hM rfl) h10
    try clear_value v11
    exact keeps_ite (State.failJoin_keeps (ss hM rfl) h12) h12

theorem doIsScrubRead_keeps {M : Nat} {s0 : State} {a0 a1 a2 a3 a4} (hM : 9025891304735761 &&& M = 9025891304735761)
    (ha4 : Keeps M s0 a4) : Keeps M s0 (doIsScrubRead a0 a1 a2 a3 a4) := by
  unfold doIsScrubRead
  extract_lets +onlyGivenNames v0
  have h1 : Keeps M s0 v0 := State.upset_keeps (ss hM rfl) ha4
  try clear_value v0
  split
  · exact h1
  · exact keeps_ite (State.scrubBlock_keeps (ss hM rfl) h1) h1

theorem execIsScrubRead_keeps {M : Nat} {s0 : State} {a0 a1 a2 a3 a4} (hM : 9025891304735761 &&& M =
    9025891304735761) (ha4 : Keeps M s0 a4) : KeepsO M s0 (execIsScrubRead a0 a1 a2 a3 a4) := by
  unfold execIsScrubRead
  exact keepsO_next (doIsScrubRead_keeps (ss hM rfl) ha4)

theorem State.refetchGood_keeps {M : Nat} {s0 : State} {a0 a1 a2} (hM : 18692049994753 &&& M = 18692049994753) (ha0 :
    Keeps M s0 a0) : Keeps M s0 (State.refetchGood a0 a1 a2) := by
  unfold State.refetchGood
  exact keeps_ite (State.absorbed_keeps (ss hM rfl) (State.unhold_keeps (ss hM rfl) ha0)) ha0

theorem doRefetchComplete_keeps {M : Nat} {s0 : State} {a0 a1 a2 a3 a4 a5 a6 a7} (hM : 155392879195325489 &&& M =
    155392879195325489) (ha7 : Keeps M s0 a7) : Keeps M s0 (doRefetchComplete a0 a1 a2 a3 a4 a5 a6 a7) := by
  unfold doRefetchComplete
  refine keeps_ite ?_ ?_
  · exact ha7
  · split
    · exact ha7
    · extract_lets +onlyGivenNames v0
      refine keeps_ite ?_ ?_
      · extract_lets +onlyGivenNames v1
        have h2 : Keeps M s0 v1 := State.logEvent_keeps (ss hM rfl) ha7
        try clear_value v1
        exact keeps_ite (State.unabsorbed_keeps (ss hM rfl) h2) (keeps_ite (State.failJoin_keeps (ss hM rfl) h2) h2)
      · extract_lets +onlyGivenNames v3 v4
        have h5 : Keeps M s0 v4 := State.setEcc_keeps (ss hM rfl) (keeps_istore (ss hM rfl) ha7 (SMap.wf_set _ _ _))
        try clear_value v4
        exact keeps_ite (keeps_ite (State.modPart_keeps (ss hM rfl) h5) (keeps_ite (State.unabsorbed_keeps (ss hM
            rfl) h5) (keeps_ite (State.failJoin_keeps (ss hM rfl) h5) h5))) (keeps_ite (State.refetchGood_keeps (ss
            hM rfl) h5) (State.absorbed_keeps (ss hM rfl) h5))

theorem execRefetchComplete_keeps {M : Nat} {s0 : State} {a0 a1 a2 a3 a4 a5 a6 a7} (hM : 155392879195325489 &&& M =
    155392879195325489) (ha7 : Keeps M s0 a7) : KeepsO M s0 (execRefetchComplete a0 a1 a2 a3 a4 a5 a6 a7) := by
  unfold execRefetchComplete
  exact keepsO_next (doRefetchComplete_keeps (ss hM rfl) ha7)

theorem doBerryRemapDone_keeps {M : Nat} {s0 : State} {a0 a1 a2} (hM : 227450473233323249 &&& M = 227450473233323249)
    (ha2 : Keeps M s0 a2) : Keeps M s0 (doBerryRemapDone a0 a1 a2) := by
  unfold doBerryRemapDone
  split
  · exact ha2
  · extract_lets +onlyGivenNames v0 v1
    refine keeps_ite ?_ ?_
    · exact ha2
    · split
      · extract_lets +onlyGivenNames v2 v3
        have h4 : Keeps M s0 v3 := State.modPart_keeps (ss hM rfl) (State.countError_keeps (ss hM rfl) ha2)
        try clear_value v3
        exact keeps_ite (State.errorAlone_keeps (ss hM rfl) (State.unhold_keeps (ss hM rfl) h4))
            (State.failJoin_keeps (ss hM rfl) h4)
      · extract_lets +onlyGivenNames v5
        have h6 : Keeps M s0 v5 := State.modPart_keeps (ss hM rfl) (State.remapBerry_keeps (ss hM rfl) ha2)
        try clear_value v5
        extract_lets +onlyGivenNames v7
        have h8 : Keeps M s0 v7 := State.degraded_keeps (ss hM rfl) (State.resEvent_keeps (ss hM rfl) h6)
        try clear_value v7
        exact keeps_ite (State.refetchGood_keeps (ss hM rfl) h8) h8

theorem execBerryRemapDone_keeps {M : Nat} {s0 : State} {a0 a1 a2} (hM : 227450473233323249 &&& M =
    227450473233323249) (ha2 : Keeps M s0 a2) : KeepsO M s0 (execBerryRemapDone a0 a1 a2) := by
  unfold execBerryRemapDone
  exact keepsO_next (doBerryRemapDone_keeps (ss hM rfl) ha2)

theorem doSsScrubRead_keeps {M : Nat} {s0 : State} {a0 a1 a2 a3 a4} (hM : 9025891304735761 &&& M = 9025891304735761)
    (ha4 : Keeps M s0 a4) : Keeps M s0 (doSsScrubRead a0 a1 a2 a3 a4) := by
  unfold doSsScrubRead
  extract_lets +onlyGivenNames v0
  have h1 : Keeps M s0 v0 := State.upset_keeps (ss hM rfl) ha4
  try clear_value v0
  split
  · exact h1
  · extract_lets +onlyGivenNames v2
    refine keeps_ite ?_ ?_
    · exact h1
    · extract_lets +onlyGivenNames v3
      try clear_value v3
      split
      · exact h1
      · exact State.absorbed_keeps (ss hM rfl) (State.count_keeps (ss hM rfl) (ss hM rfl) (State.setEcc_keeps (ss hM
            rfl) h1))
      · extract_lets +onlyGivenNames v4
        exact keeps_ite (State.failJoin_keeps (ss hM rfl) (State.resEvent_keeps (ss hM rfl) h1)) (State.modPart_keeps
            (ss hM rfl) (State.resEvent_keeps (ss hM rfl) h1))

theorem execSsScrubRead_keeps {M : Nat} {s0 : State} {a0 a1 a2 a3 a4} (hM : 9025891304735761 &&& M =
    9025891304735761) (ha4 : Keeps M s0 a4) : KeepsO M s0 (execSsScrubRead a0 a1 a2 a3 a4) := by
  unfold execSsScrubRead
  exact keepsO_next (doSsScrubRead_keeps (ss hM rfl) ha4)

theorem State.refuseRes_keeps {M : Nat} {s0 : State} {a0 a1} (hM : 1099511627777 &&& M = 1099511627777) (ha0 : Keeps
    M s0 a0) : Keeps M s0 (State.refuseRes a0 a1) := by
  unfold State.refuseRes
  exact State.respond_keeps (ss hM rfl) (State.errReg_keeps (ss hM rfl) ha0)

theorem doJoin_keeps {M : Nat} {s0 : State} {a0 a1 a2} (hM : 9008298766369793 &&& M = 9008298766369793) (ha2 : Keeps
    M s0 a2) : Keeps M s0 (doJoin a0 a1 a2) := by
  unfold doJoin
  exact keeps_ite (State.refuseRes_keeps (ss hM rfl) ha2) (State.respond_keeps (ss hM rfl) (State.beginJoin_keeps (ss
      hM rfl) ha2))

theorem State.copyBankWord_keeps {M : Nat} {s0 : State} {a0 a1 a2 a3 a4} (hM : 297256267456453649 &&& M =
    297256267456453649) (ha0 : Keeps M s0 a0) : Keeps M s0 (State.copyBankWord a0 a1 a2 a3 a4) := by
  unfold State.copyBankWord
  refine keeps_ite ?_ ?_
  · exact ha0
  · split
    · rename_i x0 x1 q2
      have k3 := congrArg (fun p => p.2) q2
      have hx1 : Keeps M s0 x1 := by
        simp only at k3
        rw [← k3]
        exact keeps_of2 (State.readBank_keeps (ss hM rfl) ha0)
      exact State.writeBank_keeps (ss hM rfl) hx1
    · rename_i x4 q5
      have k6 := congrArg (fun p => p.2) q5
      have hx4 : Keeps M s0 x4 := by
        simp only at k6
        rw [← k6]
        exact keeps_of2 (State.readBank_keeps (ss hM rfl) ha0)
      exact State.failJoin_keeps (ss hM rfl) hx4

theorem State.copyBanks_keeps {M : Nat} {s0 : State} {a0 a1 a2} (hM : 297256267456453649 &&& M = 297256267456453649)
    (ha0 : Keeps M s0 a0) : Keeps M s0 (State.copyBanks a0 a1 a2) := by
  unfold State.copyBanks
  exact keeps_foldl ha0 (fun _ _ h0 => keeps_foldl h0 (fun _ _ h1 => State.copyBankWord_keeps (ss hM rfl) h1))

theorem doRejoinPhaseEnd_keeps {M : Nat} {s0 : State} {a0 a1} (hM : 297256267456453649 &&& M = 297256267456453649)
    (ha1 : Keeps M s0 a1) : Keeps M s0 (doRejoinPhaseEnd a0 a1) := by
  unfold doRejoinPhaseEnd
  refine keeps_ite ?_ ?_
  · exact ha1
  · split
    · exact keeps_ite (State.modPart_keeps (ss hM rfl) ha1) ha1
    · refine keeps_ite ?_ ?_
      · exact State.failJoin_keeps (ss hM rfl) ha1
      · extract_lets +onlyGivenNames v0
        have h1 : Keeps M s0 v0 := State.copyBanks_keeps (ss hM rfl) ha1
        try clear_value v0
        exact keeps_ite (State.modPart_keeps (ss hM rfl) h1) h1
    · exact ha1

theorem execRejoinPhaseEnd_keeps {M : Nat} {s0 : State} {a0 a1} (hM : 297256267456453649 &&& M = 297256267456453649)
    (ha1 : Keeps M s0 a1) : KeepsO M s0 (execRejoinPhaseEnd a0 a1) := by
  unfold execRejoinPhaseEnd
  exact keepsO_next (doRejoinPhaseEnd_keeps (ss hM rfl) ha1)

theorem State.freezeAll_keeps {M : Nat} {s0 : State} {a0} (hM : 144116287923028993 &&& M = 144116287923028993) (ha0 :
    Keeps M s0 a0) : Keeps M s0 (State.freezeAll a0) := by
  unfold State.freezeAll
  refine keeps_foldl ?_ ?_
  · exact ha0
  · intro _ _ h0
    refine keeps_ite ?_ ?_
    · extract_lets +onlyGivenNames v1
      have h2 : Keeps M s0 v1 := State.raise_keeps (ss hM rfl) (State.setState_keeps (ss hM rfl) (State.modPart_keeps
          (ss hM rfl) h0))
      try clear_value v1
      exact keeps_ite (State.freeRunBreak_keeps (ss hM rfl) h2) h2
    · exact h0

theorem State.beginCheck_keeps {M : Nat} {s0 : State} {a0 a1} (hM : 9007199288295424 &&& M = 9007199288295424) (ha0 :
    Keeps M s0 a0) : Keeps M s0 (State.beginCheck a0 a1) := by
  unfold State.beginCheck
  extract_lets +onlyGivenNames v0
  have h1 : Keeps M s0 v0 := State.wr_keeps (ss hM rfl) (ss hM rfl) (State.wr_keeps (ss hM rfl) (ss hM rfl) ha0)
  try clear_value v0
  exact keeps_mk h1 rfl (g_dip := .inl (ss hM rfl))

theorem State.checkOver_keeps {M : Nat} {s0 : State} {a0} (hM : 9007199288295424 &&& M = 9007199288295424) (ha0 :
    Keeps M s0 a0) : Keeps M s0 (State.checkOver a0) := by
  unfold State.checkOver
  extract_lets +onlyGivenNames v0
  have h1 : Keeps M s0 v0 := keeps_ite (State.wr_keeps (ss hM rfl) (ss hM rfl) ha0) ha0
  try clear_value v0
  exact keeps_mk h1 rfl (g_dip := .inl (ss hM rfl))

theorem doCheck_keeps {M : Nat} {s0 : State} {a0 a1} (hM : 9008298799923201 &&& M = 9008298799923201) (ha1 : Keeps M
    s0 a1) : Keeps M s0 (doCheck a0 a1) := by
  unfold doCheck
  exact keeps_ite (State.refuseRes_keeps (ss hM rfl) ha1) (State.respond_keeps (ss hM rfl) (State.beginCheck_keeps
      (ss hM rfl) ha1))

theorem doVddCoreWarning_keeps {M : Nat} {s0 : State} {a0 a1} (hM : 153141148133622785 &&& M = 153141148133622785)
    (ha1 : Keeps M s0 a1) : Keeps M s0 (doVddCoreWarning a0 a1) := by
  unfold doVddCoreWarning
  extract_lets +onlyGivenNames v0
  have h1 : Keeps M s0 v0 := State.freezeAll_keeps (ss hM rfl) ha1
  try clear_value v0
  refine keeps_ite ?_ ?_
  · exact h1
  · extract_lets +onlyGivenNames v2 v3
    have h4 : Keeps M s0 v3 := State.resEvent_keeps (ss hM rfl) (State.wr_keeps (ss hM rfl) (ss hM rfl)
        (State.checkOver_keeps (ss hM rfl) h1))
    try clear_value v3
    extract_lets +onlyGivenNames v5
    have h6 : Keeps M s0 v5 := keeps_mk h4 rfl (g_dip := .inl (ss hM rfl)) (g_debug := .inl (ss hM rfl))
    try clear_value v5
    exact State.logEvent_keeps (ss hM rfl) (State.raise_keeps (ss hM rfl) h6)

theorem execVddCoreWarning_keeps {M : Nat} {s0 : State} {a0 a1} (hM : 153141148133622785 &&& M = 153141148133622785)
    (ha1 : Keeps M s0 a1) : KeepsO M s0 (execVddCoreWarning a0 a1) := by
  unfold execVddCoreWarning
  exact keepsO_next (doVddCoreWarning_keeps (ss hM rfl) ha1)

theorem doVddCoreRecovery_keeps {M : Nat} {s0 : State} {a0 a1} (hM : 9007199288295424 &&& M = 9007199288295424) (ha1
    : Keeps M s0 a1) : Keeps M s0 (doVddCoreRecovery a0 a1) := by
  unfold doVddCoreRecovery
  refine keeps_ite ?_ ?_
  · extract_lets +onlyGivenNames v0
    have h1 : Keeps M s0 v0 := State.wrSat_keeps (ss hM rfl) (ss hM rfl) ha1
    try clear_value v0
    extract_lets +onlyGivenNames v2
    have h3 : Keeps M s0 v2 := keeps_mk h1 rfl (g_dip := .inl (ss hM rfl))
    try clear_value v2
    exact keeps_ite (State.beginCheck_keeps (ss hM rfl) h3) h3
  · exact ha1

theorem execVddCoreRecovery_keeps {M : Nat} {s0 : State} {a0 a1} (hM : 9007199288295424 &&& M = 9007199288295424)
    (ha1 : Keeps M s0 a1) : KeepsO M s0 (execVddCoreRecovery a0 a1) := by
  unfold execVddCoreRecovery
  exact keepsO_next (doVddCoreRecovery_keeps (ss hM rfl) ha1)

theorem doDipWindowExpiry_keeps {M : Nat} {s0 : State} {a0} (hM : 9007199254740992 &&& M = 9007199254740992) (ha0 :
    Keeps M s0 a0) : Keeps M s0 (doDipWindowExpiry a0) := by
  unfold doDipWindowExpiry
  exact keeps_ite (State.wr_keeps (ss hM rfl) (ss hM rfl) ha0) ha0

theorem execDipWindowExpiry_keeps {M : Nat} {s0 : State} {a0} (hM : 9007199254740992 &&& M = 9007199254740992) (ha0 :
    Keeps M s0 a0) : KeepsO M s0 (execDipWindowExpiry a0) := by
  unfold execDipWindowExpiry
  exact keepsO_next (doDipWindowExpiry_keeps (ss hM rfl) ha0)

theorem State.rewriteHeld_keeps {M : Nat} {s0 : State} {a0} (hM : 4096 &&& M = 4096) (ha0 : Keeps M s0 a0) : Keeps M
    s0 (State.rewriteHeld a0) := by
  unfold State.rewriteHeld
  exact keeps_foldl ha0 (fun _ _ h0 => keeps_ite (State.modBank_keeps (ss hM rfl) h0) h0)

theorem State.rewriteChecked_keeps {M : Nat} {s0 : State} {a0} (hM : 4112 &&& M = 4112) (ha0 : Keeps M s0 a0) : Keeps
    M s0 (State.rewriteChecked a0) := by
  unfold State.rewriteChecked
  extract_lets +onlyGivenNames v0 v1
  have h2 : Keeps M s0 v1 := State.rewriteHeld_keeps (ss hM rfl) ha0
  try clear_value v1
  exact keeps_mk h2 rfl (g_health := .inl (ss hM rfl))

theorem State.resumeAll_keeps {M : Nat} {s0 : State} {a0} (hM : 146368087737761793 &&& M = 146368087737761793) (ha0 :
    Keeps M s0 a0) : Keeps M s0 (State.resumeAll a0) := by
  unfold State.resumeAll
  exact keeps_foldl ha0 (fun _ _ h0 => keeps_ite h0 (State.unfreeze_keeps (ss hM rfl) h0))

theorem doRetentionCheckDone_keeps {M : Nat} {s0 : State} {a0 a1} (hM : 155392879228882961 &&& M =
    155392879228882961) (ha1 : Keeps M s0 a1) : Keeps M s0 (doRetentionCheckDone a0 a1) := by
  unfold doRetentionCheckDone
  extract_lets +onlyGivenNames v0
  have h1 : Keeps M s0 v0 := State.upset_keeps (ss hM rfl) ha1
  try clear_value v0
  refine keeps_ite ?_ ?_
  · exact h1
  · refine keeps_ite ?_ ?_
    · extract_lets +onlyGivenNames v2
      have h3 : Keeps M s0 v2 := State.absorbed_keeps (ss hM rfl) (State.wr_keeps (ss hM rfl) (ss hM rfl)
          (State.checkOver_keeps (ss hM rfl) (State.rewriteChecked_keeps (ss hM rfl) h1)))
      try clear_value v2
      extract_lets +onlyGivenNames v4
      have h5 : Keeps M s0 v4 := keeps_mk h3 rfl (g_dip := .inl (ss hM rfl))
      try clear_value v4
      exact keeps_ite (State.raise_keeps (ss hM rfl) (State.wr_keeps (ss hM rfl) (ss hM rfl) (State.resumeAll_keeps
          (ss hM rfl) h5))) (State.wr_keeps (ss hM rfl) (ss hM rfl) h5)
    · extract_lets +onlyGivenNames v6
      have h7 : Keeps M s0 v6 := State.wr_keeps (ss hM rfl) (ss hM rfl) (State.wr_keeps (ss hM rfl) (ss hM rfl)
          (State.checkOver_keeps (ss hM rfl) (State.rewriteChecked_keeps (ss hM rfl) h1)))
      try clear_value v6
      exact State.logEvent_keeps (ss hM rfl) (State.raise_keeps (ss hM rfl) h7)

theorem execRetentionCheckDone_keeps {M : Nat} {s0 : State} {a0 a1} (hM : 155392879228882961 &&& M =
    155392879228882961) (ha1 : Keeps M s0 a1) : KeepsO M s0 (execRetentionCheckDone a0 a1) := by
  unfold execRetentionCheckDone
  exact keepsO_next (doRetentionCheckDone_keeps (ss hM rfl) ha1)

/-! ## Machine/Time.lean -/

theorem State.showTime_keeps {M : Nat} {s0 : State} {a0 a1} (hM : 562949953421312 &&& M = 562949953421312) (ha0 :
    Keeps M s0 a0) : Keeps M s0 (State.showTime a0 a1) := by
  unfold State.showTime
  exact State.wr64_keeps (ss hM rfl) (ss hM rfl) (ss hM rfl) (State.wr_keeps (ss hM rfl) (ss hM rfl) (State.wr_keeps
      (ss hM rfl) (ss hM rfl) (State.wr_keeps (ss hM rfl) (ss hM rfl) ha0)))

theorem State.enterHoldover_keeps {M : Nat} {s0 : State} {a0} (hM : 564049800593409 &&& M = 564049800593409) (ha0 :
    Keeps M s0 a0) : Keeps M s0 (State.enterHoldover a0) := by
  unfold State.enterHoldover
  exact State.raise_keeps (ss hM rfl) (State.showTime_keeps (ss hM rfl) ha0)

theorem State.watchExpires_keeps {M : Nat} {s0 : State} {a0} (hM : 564049800593409 &&& M = 564049800593409) (ha0 :
    Keeps M s0 a0) : Keeps M s0 (State.watchExpires a0) := by
  unfold State.watchExpires
  exact keeps_ite (State.enterHoldover_keeps (ss hM rfl) ha0) ha0

theorem State.timeCycle_keeps {M : Nat} {s0 : State} {a0} (hM : 564049800593413 &&& M = 564049800593413) (ha0 : Keeps
    M s0 a0) : Keeps M s0 (State.timeCycle a0) := by
  unfold State.timeCycle
  refine keeps_ite ?_ ?_
  · exact ha0
  · extract_lets +onlyGivenNames v0 v1 v2 v3
    have h4 : Keeps M s0 v3 := keeps_mk ha0 rfl (g_time := .inl (ss hM rfl))
    try clear_value v3
    extract_lets +onlyGivenNames v5
    have h6 : Keeps M s0 v5 := keeps_ite h4 (State.showTime_keeps (ss hM rfl) h4)
    try clear_value v5
    exact keeps_ite (State.watchExpires_keeps (ss hM rfl) h6) h6

theorem doSlewComplete_keeps {M : Nat} {s0 : State} {a0} (hM : 562949953421316 &&& M = 562949953421316) (ha0 : Keeps
    M s0 a0) : Keeps M s0 (doSlewComplete a0) := by
  unfold doSlewComplete
  extract_lets +onlyGivenNames v0
  refine keeps_ite ?_ ?_
  · exact ha0
  · extract_lets +onlyGivenNames v1 v2
    have h3 : Keeps M s0 v2 := keeps_mk ha0 rfl (g_time := .inl (ss hM rfl))
    try clear_value v2
    exact State.showTime_keeps (ss hM rfl) h3

theorem execSlewComplete_keeps {M : Nat} {s0 : State} {a0} (hM : 562949953421316 &&& M = 562949953421316) (ha0 :
    Keeps M s0 a0) : KeepsO M s0 (execSlewComplete a0) := by
  unfold execSlewComplete
  exact keepsO_next (doSlewComplete_keeps (ss hM rfl) ha0)

theorem execHoldoverWatchExpiry_keeps {M : Nat} {s0 : State} {a0} (hM : 564049800593409 &&& M = 564049800593409) (ha0
    : Keeps M s0 a0) : KeepsO M s0 (execHoldoverWatchExpiry a0) := by
  unfold execHoldoverWatchExpiry
  exact keepsO_next (State.watchExpires_keeps (ss hM rfl) ha0)

theorem State.shiftGrids_keeps {M : Nat} {s0 : State} {a0 a1} (hM : 1024 &&& M = 1024) (ha0 : Keeps M s0 a0) : Keeps
    M s0 (State.shiftGrids a0 a1) := by
  unfold State.shiftGrids
  exact keeps_foldl ha0 (fun _ _ h0 => keeps_ite h0 (State.modPart_keeps (ss hM rfl) h0))

theorem State.setTime_keeps {M : Nat} {s0 : State} {a0 a1} (hM : 4 &&& M = 4) (ha0 : Keeps M s0 a0) : Keeps M s0
    (State.setTime a0 a1) := by
  unfold State.setTime
  refine keeps_ite ?_ ?_
  · exact keeps_mk ha0 rfl (g_time := .inl (ss hM rfl))
  · split
    · rename_i x0 x1 q2
      have k3 := congrArg (fun p => p.2) q2
      have hx1 : Keeps M s0 x1 := by
        simp only at k3
        rw [← k3]
        exact keeps_of2 (State.free_keeps (ss hM rfl) ha0)
      exact keeps_mk hx1 rfl (g_time := .inl (ss hM rfl))

theorem State.stepTime_keeps {M : Nat} {s0 : State} {a0 a1} (hM : 581642003416069 &&& M = 581642003416069) (ha0 :
    Keeps M s0 a0) : Keeps M s0 (State.stepTime a0 a1) := by
  unfold State.stepTime
  exact State.logEvent_keeps (ss hM rfl) (State.showTime_keeps (ss hM rfl) (State.shiftGrids_keeps (ss hM rfl)
      (State.setTime_keeps (ss hM rfl) (keeps_mk ha0 rfl (g_time := .inl (ss hM rfl))))))

theorem State.lockPartitions_keeps {M : Nat} {s0 : State} {a0} (hM : 144115188075856896 &&& M = 144115188075856896)
    (ha0 : Keeps M s0 a0) : Keeps M s0 (State.lockPartitions a0) := by
  unfold State.lockPartitions
  exact keeps_foldl ha0 (fun _ _ h0 => keeps_ite (State.modPart_keeps (ss hM rfl) (State.wr_keeps (ss hM rfl) (ss hM
      rfl) h0)) h0)

theorem State.lockTime_keeps {M : Nat} {s0 : State} {a0 a1} (hM : 144696830079271941 &&& M = 144696830079271941) (ha0
    : Keeps M s0 a0) : Keeps M s0 (State.lockTime a0 a1) := by
  unfold State.lockTime
  extract_lets +onlyGivenNames v0
  have h1 : Keeps M s0 v0 := State.stepTime_keeps (ss hM rfl) ha0
  try clear_value v0
  extract_lets +onlyGivenNames v2
  have h3 : Keeps M s0 v2 := keeps_mk h1 rfl (g_time := .inl (ss hM rfl))
  try clear_value v2
  exact State.lockPartitions_keeps (ss hM rfl) (State.raise_keeps (ss hM rfl) (State.wr128_keeps (ss hM rfl) (ss hM
      rfl) (ss hM rfl) (ss hM rfl) (ss hM rfl) (State.showTime_keeps (ss hM rfl) h3)))

theorem State.acceptOffset_keeps {M : Nat} {s0 : State} {a0 a1} (hM : 564049800593413 &&& M = 564049800593413) (ha0 :
    Keeps M s0 a0) : Keeps M s0 (State.acceptOffset a0 a1) := by
  unfold State.acceptOffset
  extract_lets +onlyGivenNames v0
  have h1 : Keeps M s0 v0 := keeps_mk ha0 rfl (g_time := .inl (ss hM rfl))
  try clear_value v0
  exact keeps_ite (State.raise_keeps (ss hM rfl) (State.showTime_keeps (ss hM rfl) h1)) (State.showTime_keeps (ss hM
      rfl) h1)

theorem State.refuseOffset_keeps {M : Nat} {s0 : State} {a0 a1} (hM : 581642003415045 &&& M = 581642003415045) (ha0 :
    Keeps M s0 a0) : Keeps M s0 (State.refuseOffset a0 a1) := by
  unfold State.refuseOffset
  extract_lets +onlyGivenNames v0
  have h1 : Keeps M s0 v0 := State.count_keeps (ss hM rfl) (ss hM rfl) (State.wr64_keeps (ss hM rfl) (ss hM rfl) (ss
      hM rfl) (keeps_mk ha0 rfl (g_time := .inl (ss hM rfl))))
  try clear_value v0
  extract_lets +onlyGivenNames v2
  have h3 : Keeps M s0 v2 := keeps_ite (State.enterHoldover_keeps (ss hM rfl) h1) (State.showTime_keeps (ss hM rfl)
      h1)
  try clear_value v2
  exact State.logEvent_keeps (ss hM rfl) (State.raise_keeps (ss hM rfl) h3)

theorem doOffset_keeps {M : Nat} {s0 : State} {a0 a1} (hM : 144696830079271941 &&& M = 144696830079271941) (ha1 :
    Keeps M s0 a1) : Keeps M s0 (doOffset a0 a1) := by
  unfold doOffset
  extract_lets +onlyGivenNames v0 v1
  have h2 : Keeps M s0 v1 := keeps_ite (State.lockTime_keeps (ss hM rfl) ha1) (keeps_ite (State.acceptOffset_keeps
      (ss hM rfl) ha1) (State.refuseOffset_keeps (ss hM rfl) ha1))
  try clear_value v1
  exact State.respond_keeps (ss hM rfl) h2

theorem doUnlock_keeps {M : Nat} {s0 : State} {a0 a1} (hM : 581642003415045 &&& M = 581642003415045) (ha1 : Keeps M
    s0 a1) : Keeps M s0 (doUnlock a0 a1) := by
  unfold doUnlock
  exact keeps_ite (State.refuseWrite_keeps (ss hM rfl) ha1) (State.respond_keeps (ss hM rfl) (State.logEvent_keeps
      (ss hM rfl) (State.showTime_keeps (ss hM rfl) (keeps_mk ha1 rfl (g_time := .inl (ss hM rfl))))))

theorem doSet_keeps {M : Nat} {s0 : State} {a0 a1} (hM : 581642003416069 &&& M = 581642003416069) (ha1 : Keeps M s0
    a1) : Keeps M s0 (doSet a0 a1) := by
  unfold doSet
  refine keeps_ite ?_ ?_
  · exact State.refuseWrite_keeps (ss hM rfl) ha1
  · extract_lets +onlyGivenNames v0 v1 v2
    have h3 : Keeps M s0 v2 := keeps_ite (keeps_mk ha1 rfl (g_time := .inl (ss hM rfl))) ha1
    try clear_value v2
    exact State.respond_keeps (ss hM rfl) (State.stepTime_keeps (ss hM rfl) h3)

theorem doTimCmd_keeps {M : Nat} {s0 : State} {a0 a1 a2} (hM : 144696830079271941 &&& M = 144696830079271941) (ha2 :
    Keeps M s0 a2) : Keeps M s0 (doTimCmd a0 a1 a2) := by
  unfold doTimCmd
  split
  · exact doOffset_keeps (ss hM rfl) ha2
  · exact doUnlock_keeps (ss hM rfl) ha2
  · exact doSet_keeps (ss hM rfl) ha2
  · exact State.respond_keeps (ss hM rfl) ha2

theorem doRateWrite_keeps {M : Nat} {s0 : State} {a0 a1 a2} (hM : 564049465049089 &&& M = 564049465049089) (ha2 :
    Keeps M s0 a2) : Keeps M s0 (doRateWrite a0 a1 a2) := by
  unfold doRateWrite
  exact keeps_ite (State.refuseWrite_keeps (ss hM rfl) ha2) (State.respond_keeps (ss hM rfl) (State.wr_keeps (ss hM
      rfl) (ss hM rfl) ha2))

theorem doSlewWrite_keeps {M : Nat} {s0 : State} {a0 a1 a2} (hM : 564049465049089 &&& M = 564049465049089) (ha2 :
    Keeps M s0 a2) : Keeps M s0 (doSlewWrite a0 a1 a2) := by
  unfold doSlewWrite
  exact keeps_ite (State.refuseWrite_keeps (ss hM rfl) ha2) (State.respond_keeps (ss hM rfl) (State.wr_keeps (ss hM
      rfl) (ss hM rfl) ha2))

theorem State.resetTime_keeps {M : Nat} {s0 : State} {a0} (hM : 4 &&& M = 4) (ha0 : Keeps M s0 a0) : Keeps M s0
    (State.resetTime a0) := by
  unfold State.resetTime
  exact keeps_mk ha0 rfl (g_time := .inl (ss hM rfl))

/-! ## Machine/RegWrites.lean -/

theorem State.writeAny_keeps {M : Nat} {s0 : State} {a0 a1 a2 a3 a4 a5} (hM : 4611684919251304449 &&& M =
    4611684919251304449) (ha0 : Keeps M s0 a0) : Keeps M s0 (State.writeAny a0 a1 a2 a3 a4 a5) := by
  unfold State.writeAny
  exact State.respond_keeps (ss hM rfl) (State.plainWrite_keeps (ss hM rfl) ha0)

theorem State.writeUnless_keeps {M : Nat} {s0 : State} {a0 a1 a2 a3 a4 a5 a6} (hM : 4611684919251304449 &&& M =
    4611684919251304449) (ha0 : Keeps M s0 a0) : Keeps M s0 (State.writeUnless a0 a1 a2 a3 a4 a5 a6) := by
  unfold State.writeUnless
  exact keeps_ite (State.refuseWrite_keeps (ss hM rfl) ha0) (State.writeAny_keeps (ss hM rfl) ha0)

theorem State.writeSelect_keeps {M : Nat} {s0 : State} {a0 a1 a2 a3 a4} (hM : 1099511627779 &&& M = 1099511627779)
    (ha0 : Keeps M s0 a0) : Keeps M s0 (State.writeSelect a0 a1 a2 a3 a4) := by
  unfold State.writeSelect
  extract_lets +onlyGivenNames v0
  exact keeps_ite (State.respond_keeps (ss hM rfl) (State.errReg_keeps (ss hM rfl) ha0)) (State.respond_keeps (ss hM
      rfl) (keeps_mk ha0 rfl (g_access := .inl (ss hM rfl))))

theorem State.sendPending_keeps {M : Nat} {s0 : State} {a0} (hM : 268435457 &&& M = 268435457) (ha0 : Keeps M s0 a0)
    : Keeps M s0 (State.sendPending a0) := by
  unfold State.sendPending
  exact keeps_foldl ha0 (fun _ _ h0 => keeps_ite (State.emit_keeps (ss hM rfl) (keeps_mk h0 rfl (g_msix := .inl (ss
      hM rfl)))) h0)

theorem State.setVectorControl_keeps {M : Nat} {s0 : State} {a0 a1 a2} (hM : 268435457 &&& M = 268435457) (ha0 :
    Keeps M s0 a0) : Keeps M s0 (State.setVectorControl a0 a1 a2) := by
  unfold State.setVectorControl
  exact State.sendPending_keeps (ss hM rfl) (keeps_mk ha0 rfl (g_msix := .inl (ss hM rfl)))

theorem doMsixUnmask_keeps {M : Nat} {s0 : State} {a0 a1 a2} (hM : 268435457 &&& M = 268435457) (ha2 : Keeps M s0 a2)
    : Keeps M s0 (doMsixUnmask a0 a1 a2) := by
  unfold doMsixUnmask
  exact State.respond_keeps (ss hM rfl) (State.setVectorControl_keeps (ss hM rfl) ha2)

theorem State.writeMsix_keeps {M : Nat} {s0 : State} {a0 a1 a2 a3} (hM : 268435457 &&& M = 268435457) (ha0 : Keeps M
    s0 a0) : Keeps M s0 (State.writeMsix a0 a1 a2 a3) := by
  unfold State.writeMsix
  extract_lets +onlyGivenNames v0
  refine keeps_ite ?_ ?_
  · exact State.respond_keeps (ss hM rfl) ha0
  · refine keeps_ite ?_ ?_
    · exact State.respond_keeps (ss hM rfl) (State.setVectorControl_keeps (ss hM rfl) ha0)
    · extract_lets +onlyGivenNames v1
      exact State.respond_keeps (ss hM rfl) (keeps_mk ha0 rfl (g_msix := .inl (ss hM rfl)))

theorem State.stageWord_keeps {M : Nat} {s0 : State} {a0 a1 a2 a3 a4 a5 a6} (hM : 3 &&& M = 3) (ha0 : Keeps M s0 a0)
    : Keeps M s0 (State.stageWord a0 a1 a2 a3 a4 a5 a6) := by
  unfold State.stageWord
  extract_lets +onlyGivenNames v0 v1
  exact State.respond_keeps (ss hM rfl) (State.setStaged_keeps (ss hM rfl) ha0)

theorem State.applyWide_keeps {M : Nat} {s0 : State} {a0 a1 a2 a3 a4 a5} (hM : 4611684919251304449 &&& M =
    4611684919251304449) (ha0 : Keeps M s0 a0) : Keeps M s0 (State.applyWide a0 a1 a2 a3 a4 a5) := by
  unfold State.applyWide
  exact keeps_ite (State.errReg_keeps (ss hM rfl) ha0) (keeps_foldl ha0 (fun _ _ h0 => State.writeFields_keeps (ss hM
      rfl) h0))

theorem State.writeHigh_keeps {M : Nat} {s0 : State} {a0 a1 a2 a3 a4 a5} (hM : 4611684919251304451 &&& M =
    4611684919251304451) (ha0 : Keeps M s0 a0) : Keeps M s0 (State.writeHigh a0 a1 a2 a3 a4 a5) := by
  unfold State.writeHigh
  extract_lets +onlyGivenNames v0
  exact State.respond_keeps (ss hM rfl) (State.setStaged_keeps (ss hM rfl) (State.applyWide_keeps (ss hM rfl) ha0))

theorem State.writeWide_keeps {M : Nat} {s0 : State} {a0 a1 a2 a3 a4 a5 a6} (hM : 4611684920325046275 &&& M =
    4611684920325046275) (ha0 : Keeps M s0 a0) : Keeps M s0 (State.writeWide a0 a1 a2 a3 a4 a5 a6) := by
  unfold State.writeWide
  exact keeps_ite (State.respond_keeps (ss hM rfl) ha0) (keeps_ite (State.refuseWrite_keeps (ss hM rfl) ha0)
      (keeps_ite (State.stageWord_keeps (ss hM rfl) ha0) (keeps_ite (doCoreRegisterWrite_keeps (ss hM rfl) ha0)
      (State.writeHigh_keeps (ss hM rfl) ha0))))

theorem State.writePrt_keeps {M : Nat} {s0 : State} {a0 a1 a2 a3 a4} (hM : 4611684919252670209 &&& M =
    4611684919252670209) (ha0 : Keeps M s0 a0) : Keeps M s0 (State.writePrt a0 a1 a2 a3 a4) := by
  unfold State.writePrt
  exact keeps_ite (State.writeUnless_keeps (ss hM rfl) ha0) (keeps_ite (doPrtCmd_keeps (ss hM rfl) ha0) (keeps_ite
      (doBunchesWrite_keeps (ss hM rfl) ha0) (keeps_ite (doBunchesWrite_keeps (ss hM rfl) ha0) (keeps_ite
      (doExchWrite_keeps (ss hM rfl) ha0) (keeps_ite (doIsolateWrite_keeps (ss hM rfl) ha0) (State.writeAny_keeps (ss
      hM rfl) ha0))))))

theorem State.writeSpareStatus_keeps {M : Nat} {s0 : State} {a0 a1 a2 a3} (hM : 81064793292668929 &&& M =
    81064793292668929) (ha0 : Keeps M s0 a0) : Keeps M s0 (State.writeSpareStatus a0 a1 a2 a3) := by
  unfold State.writeSpareStatus
  extract_lets +onlyGivenNames v0
  have h1 : Keeps M s0 v0 := keeps_ite (State.wr_keeps (ss hM rfl) (ss hM rfl) ha0) ha0
  try clear_value v0
  extract_lets +onlyGivenNames v2
  have h3 : Keeps M s0 v2 := keeps_ite (State.wr_keeps (ss hM rfl) (ss hM rfl) h1) h1
  try clear_value v2
  exact State.respond_keeps (ss hM rfl) (State.spareCounts_keeps (ss hM rfl) h3)

theorem State.writeOrc_keeps {M : Nat} {s0 : State} {a0 a1 a2 a3 a4} (hM : 4611684919268081665 &&& M =
    4611684919268081665) (ha0 : Keeps M s0 a0) : Keeps M s0 (State.writeOrc a0 a1 a2 a3 a4) := by
  unfold State.writeOrc
  exact keeps_ite (doBerryRemapWrite_keeps (ss hM rfl) ha0) (keeps_ite (doBunchRemapWrite_keeps (ss hM rfl) ha0)
      (keeps_ite (State.writeSpareStatus_keeps (ss hM rfl) ha0) (State.writeAny_keeps (ss hM rfl) ha0)))

theorem State.writeDmbCtrl_keeps {M : Nat} {s0 : State} {a0 a1 a2 a3} (hM : 4611684919251304449 &&& M =
    4611684919251304449) (ha0 : Keeps M s0 a0) : Keeps M s0 (State.writeDmbCtrl a0 a1 a2 a3) := by
  unfold State.writeDmbCtrl
  extract_lets +onlyGivenNames v0 v1
  have h2 : Keeps M s0 v1 := keeps_ite (State.wr_keeps (ss hM rfl) (ss hM rfl) (State.wr_keeps (ss hM rfl) (ss hM
      rfl) ha0)) ha0
  try clear_value v1
  exact State.writeAny_keeps (ss hM rfl) h2

theorem State.writeDmb_keeps {M : Nat} {s0 : State} {a0 a1 a2 a3 a4} (hM : 4611684919268093953 &&& M =
    4611684919268093953) (ha0 : Keeps M s0 a0) : Keeps M s0 (State.writeDmb a0 a1 a2 a3 a4) := by
  unfold State.writeDmb
  exact keeps_ite (State.writeDmbCtrl_keeps (ss hM rfl) ha0) (keeps_ite (doBerthWrite_keeps (ss hM rfl) ha0)
      (keeps_ite (State.writeUnless_keeps (ss hM rfl) ha0) (keeps_ite (State.writeUnless_keeps (ss hM rfl) ha0)
      (keeps_ite (doRepairEntryWrite_keeps (ss hM rfl) ha0) (State.writeAny_keeps (ss hM rfl) ha0)))))

theorem State.writeMdc_keeps {M : Nat} {s0 : State} {a0 a1 a2 a3 a4} (hM : 4611684926784282641 &&& M =
    4611684926784282641) (ha0 : Keeps M s0 a0) : Keeps M s0 (State.writeMdc a0 a1 a2 a3 a4) := by
  unfold State.writeMdc
  refine keeps_ite ?_ ?_
  · exact State.writeMdcCtrl_keeps (ss hM rfl) ha0
  · refine keeps_ite ?_ ?_
    · extract_lets +onlyGivenNames v0
      exact State.writeAny_keeps (ss hM rfl) (keeps_ite (State.reloadWdt_keeps (ss hM rfl) ha0) ha0)
    · exact keeps_ite (State.writeUnless_keeps (ss hM rfl) ha0) (keeps_ite (doWdtKick_keeps (ss hM rfl) ha0)
          (State.writeAny_keeps (ss hM rfl) ha0))

theorem State.writeAcq_keeps {M : Nat} {s0 : State} {a0 a1 a2 a3 a4} (hM : 4611684919251369985 &&& M =
    4611684919251369985) (ha0 : Keeps M s0 a0) : Keeps M s0 (State.writeAcq a0 a1 a2 a3 a4) := by
  unfold State.writeAcq
  refine keeps_ite ?_ ?_
  · split
    · exact doArm_keeps (ss hM rfl) ha0
    · exact doAcqStop_keeps (ss hM rfl) ha0
    · exact doForce_keeps (ss hM rfl) ha0
    · exact State.refuseAcq_keeps (ss hM rfl) ha0
  · exact keeps_ite (doRdIndexWrite_keeps (ss hM rfl) ha0) (State.writeUnless_keeps (ss hM rfl) ha0)

theorem State.writeRes_keeps {M : Nat} {s0 : State} {a0 a1 a2 a3} (hM : 4611684919284859905 &&& M =
    4611684919284859905) (ha0 : Keeps M s0 a0) : Keeps M s0 (State.writeRes a0 a1 a2 a3) := by
  unfold State.writeRes
  refine keeps_ite ?_ ?_
  · split
    · exact doJoin_keeps (ss hM rfl) ha0
    · exact doCheck_keeps (ss hM rfl) ha0
    · exact State.refuseRes_keeps (ss hM rfl) ha0
  · exact keeps_ite (State.writeUnless_keeps (ss hM rfl) ha0) (State.writeAny_keeps (ss hM rfl) ha0)

theorem State.writeCasCtrl_keeps {M : Nat} {s0 : State} {a0 a1 a2} (hM : 4611684919252353025 &&& M =
    4611684919252353025) (ha0 : Keeps M s0 a0) : Keeps M s0 (State.writeCasCtrl a0 a1 a2) := by
  unfold State.writeCasCtrl
  refine keeps_ite ?_ ?_
  · exact State.refuseWrite_keeps (ss hM rfl) ha0
  · extract_lets +onlyGivenNames v0
    have h1 : Keeps M s0 v0 := State.plainWrite_keeps (ss hM rfl) ha0
    try clear_value v0
    extract_lets +onlyGivenNames v2
    have h3 : Keeps M s0 v2 := State.modCas_keeps (ss hM rfl) h1
    try clear_value v2
    extract_lets +onlyGivenNames v4
    have h5 : Keeps M s0 v4 := keeps_ite (keeps_ite h1 (State.modCas_keeps (ss hM rfl) h1)) (keeps_ite
        (State.modCas_keeps (ss hM rfl) h3) h3)
    try clear_value v4
    exact State.respond_keeps (ss hM rfl) (State.showUnit_keeps (ss hM rfl) h5)

theorem State.muteFrom_keeps {M : Nat} {s0 : State} {a0 a1} (hM : 1 &&& M = 1) (ha0 : Keeps M s0 a0) : Keeps M s0
    (State.muteFrom a0 a1) := by
  unfold State.muteFrom
  exact keeps_mk ha0 rfl (g_out := .inl (ss hM rfl))

theorem State.writePortCtrl_keeps {M : Nat} {s0 : State} {a0 a1 a2 a3} (hM : 4611684919252877313 &&& M =
    4611684919252877313) (ha0 : Keeps M s0 a0) : Keeps M s0 (State.writePortCtrl a0 a1 a2 a3) := by
  unfold State.writePortCtrl
  extract_lets +onlyGivenNames v0 v1 v2
  refine keeps_ite ?_ ?_
  · exact State.refuseWrite_keeps (ss hM rfl) ha0
  · extract_lets +onlyGivenNames v3
    have h4 : Keeps M s0 v3 := keeps_ite ha0 (doLanePowerRequest_keeps (ss hM rfl) ha0)
    try clear_value v3
    refine keeps_ite ?_ ?_
    · exact h4
    · extract_lets +onlyGivenNames v5
      have h6 : Keeps M s0 v5 := State.muteFrom_keeps (ss hM rfl) h4
      try clear_value v5
      extract_lets +onlyGivenNames v7 v8
      have h9 : Keeps M s0 v8 := State.writeFields_keeps (ss hM rfl) h6
      try clear_value v8
      exact keeps_ite (State.respond_keeps (ss hM rfl) h9) (keeps_ite (doPortEnable_keeps (ss hM rfl) h9)
          (doPortDisable_keeps (ss hM rfl) h9))

theorem State.writeCas_keeps {M : Nat} {s0 : State} {a0 a1 a2 a3} (hM : 4611684919253008385 &&& M =
    4611684919253008385) (ha0 : Keeps M s0 a0) : Keeps M s0 (State.writeCas a0 a1 a2 a3) := by
  unfold State.writeCas
  refine keeps_ite ?_ ?_
  · exact State.writeCasCtrl_keeps (ss hM rfl) ha0
  · refine keeps_ite ?_ ?_
    · extract_lets +onlyGivenNames v0
      exact State.writeUnless_keeps (ss hM rfl) ha0
    · exact keeps_ite (keeps_ite (doCasStop_keeps (ss hM rfl) ha0) (State.refuseWrite_keeps (ss hM rfl) ha0))
          (keeps_ite (doNetmapDataWrite_keeps (ss hM rfl) ha0) (keeps_ite (State.writePortCtrl_keeps (ss hM rfl) ha0)
          (State.respond_keeps (ss hM rfl) (State.showUnit_keeps (ss hM rfl) (State.plainWrite_keeps (ss hM rfl)
          ha0)))))

theorem State.writeTim_keeps {M : Nat} {s0 : State} {a0 a1 a2 a3} (hM : 4611684919268082693 &&& M =
    4611684919268082693) (ha0 : Keeps M s0 a0) : Keeps M s0 (State.writeTim a0 a1 a2 a3) := by
  unfold State.writeTim
  exact keeps_ite (doTimCmd_keeps (ss hM rfl) ha0) (keeps_ite (doRateWrite_keeps (ss hM rfl) ha0) (keeps_ite
      (doSlewWrite_keeps (ss hM rfl) ha0) (State.writeAny_keeps (ss hM rfl) ha0)))

theorem State.writeCfgIsolate_keeps {M : Nat} {s0 : State} {a0 a1 a2 a3} (hM : 4611684919251304449 &&& M =
    4611684919251304449) (ha0 : Keeps M s0 a0) : Keeps M s0 (State.writeCfgIsolate a0 a1 a2 a3) := by
  unfold State.writeCfgIsolate
  exact State.writeUnless_keeps (ss hM rfl) ha0

theorem State.writeCfg_keeps {M : Nat} {s0 : State} {a0 a1 a2 a3} (hM : 4611684919274373137 &&& M =
    4611684919274373137) (ha0 : Keeps M s0 a0) : Keeps M s0 (State.writeCfg a0 a1 a2 a3) := by
  unfold State.writeCfg
  extract_lets +onlyGivenNames v0
  refine keeps_ite ?_ ?_
  · exact State.writeUnless_keeps (ss hM rfl) ha0
  · refine keeps_ite ?_ ?_
    · split
      · exact doLoad_keeps (ss hM rfl) ha0
      · exact doLoadGolden_keeps (ss hM rfl) ha0
      · exact doClear_keeps (ss hM rfl) ha0
      · exact doStream_keeps (ss hM rfl) ha0
      · exact State.refuseCfg_keeps (ss hM rfl) ha0
    · refine keeps_ite ?_ ?_
      · exact State.writeUnless_keeps (ss hM rfl) ha0
      · refine keeps_ite ?_ ?_
        · extract_lets +onlyGivenNames v1
          exact State.writeUnless_keeps (ss hM rfl) ha0
        · exact keeps_ite (keeps_ite (doRegionWrite_keeps (ss hM rfl) ha0) (State.writeCfgIsolate_keeps (ss hM rfl)
              ha0)) (State.writeAny_keeps (ss hM rfl) ha0)

theorem State.writeIrq_keeps {M : Nat} {s0 : State} {a0 a1 a2 a3} (hM : 4611684919939170305 &&& M =
    4611684919939170305) (ha0 : Keeps M s0 a0) : Keeps M s0 (State.writeIrq a0 a1 a2 a3) := by
  unfold State.writeIrq
  exact keeps_ite (State.irqControl_keeps (ss hM rfl) ha0) (keeps_ite (doIrqEoi_keeps (ss hM rfl) ha0) (keeps_ite
      (doIrqSwset_keeps (ss hM rfl) ha0) (keeps_ite (doIrqSwset_keeps (ss hM rfl) ha0) (keeps_ite (doIrqSwclr_keeps
      (ss hM rfl) ha0) (keeps_ite (doIrqSwclr_keeps (ss hM rfl) ha0) (keeps_ite (doIrqTargetWrite_keeps (ss hM rfl)
      ha0) (State.writeAny_keeps (ss hM rfl) ha0)))))))

theorem State.writeEth_keeps {M : Nat} {s0 : State} {a0 a1 a2 a3} (hM : 4611684919251304457 &&& M =
    4611684919251304457) (ha0 : Keeps M s0 a0) : Keeps M s0 (State.writeEth a0 a1 a2 a3) := by
  unfold State.writeEth
  refine keeps_ite ?_ ?_
  · exact State.writeAny_keeps (ss hM rfl) ha0
  · extract_lets +onlyGivenNames v0 v1
    exact keeps_ite (doEthTxKick_keeps (ss hM rfl) ha0) (State.respond_keeps (ss hM rfl) (State.ethWrite_keeps (ss hM
        rfl) ha0))

theorem State.writeXcmd_keeps {M : Nat} {s0 : State} {a0 a1 a2} (hM : 2594127334265075729 &&& M =
    2594127334265075729) (ha0 : Keeps M s0 a0) : Keeps M s0 (State.writeXcmd a0 a1 a2) := by
  unfold State.writeXcmd
  extract_lets +onlyGivenNames v0 v1
  exact keeps_ite (keeps_ite (doStealRead_keeps (ss hM rfl) ha0) (doWindowRead_keeps (ss hM rfl) ha0)) (keeps_ite
      (keeps_ite (doStealWrite_keeps (ss hM rfl) ha0) (doWindowWrite_keeps (ss hM rfl) ha0)) (State.refuseWrite_keeps
      (ss hM rfl) ha0))

theorem State.writeDbgCore_keeps {M : Nat} {s0 : State} {a0 a1 a2 a3 a4} (hM : 4611684920325046273 &&& M =
    4611684920325046273) (ha0 : Keeps M s0 a0) : Keeps M s0 (State.writeDbgCore a0 a1 a2 a3 a4) := by
  unfold State.writeDbgCore
  extract_lets +onlyGivenNames v0
  refine keeps_ite ?_ ?_
  · split
    · exact doCoreHalt_keeps (ss hM rfl) ha0
    · exact doCoreResume_keeps (ss hM rfl) ha0
    · exact doCoreStep_keeps (ss hM rfl) ha0
    · exact State.refuseWrite_keeps (ss hM rfl) ha0
  · refine keeps_ite ?_ ?_
    · split
      · exact State.respond_keeps (ss hM rfl) (doVtTxWrite_keeps (ss hM rfl) ha0)
      · exact State.deny_keeps (ss hM rfl) ha0
    · refine keeps_ite ?_ ?_
      · split
        · exact State.deny_keeps (ss hM rfl) ha0
        · exact State.deny_keeps (ss hM rfl) ha0
        · exact doVtRxWrite_keeps (ss hM rfl) ha0
      · exact State.writeAny_keeps (ss hM rfl) ha0

theorem State.writeDbg_keeps {M : Nat} {s0 : State} {a0 a1 a2 a3 a4} (hM : 4611685129185672209 &&& M =
    4611685129185672209) (ha0 : Keeps M s0 a0) : Keeps M s0 (State.writeDbg a0 a1 a2 a3 a4) := by
  unfold State.writeDbg
  refine keeps_ite ?_ ?_
  · exact doGrantWrite_keeps (ss hM rfl) ha0
  · refine keeps_ite ?_ ?_
    · split
      · exact doEmulationHalt_keeps (ss hM rfl) ha0
      · exact doEmulationRelease_keeps (ss hM rfl) ha0
      · exact State.refuseWrite_keeps (ss hM rfl) ha0
    · refine keeps_ite ?_ ?_
      · exact keeps_ite (doUnlockSubmit_keeps (ss hM rfl) ha0) (State.respond_keeps (ss hM rfl) ha0)
      · refine keeps_ite ?_ ?_
        · exact doFwFifoWrite_keeps (ss hM rfl) ha0
        · refine keeps_ite ?_ ?_
          · exact State.writeXcmd_keeps (ss hM rfl) ha0
          · refine keeps_ite ?_ ?_
            · exact State.writeDbgCore_keeps (ss hM rfl) ha0
            · refine keeps_ite ?_ ?_
              · split
                · exact State.respond_keeps (ss hM rfl) (doNoteWrite_keeps (ss hM rfl) ha0)
                · exact State.deny_keeps (ss hM rfl) ha0
              · exact State.writeAny_keeps (ss hM rfl) ha0

theorem State.writeTrc_keeps {M : Nat} {s0 : State} {a0 a1 a2 a3} (hM : 4611685195202953217 &&& M =
    4611685195202953217) (ha0 : Keeps M s0 a0) : Keeps M s0 (State.writeTrc a0 a1 a2 a3) := by
  unfold State.writeTrc
  exact keeps_ite (doTraceControl_keeps (ss hM rfl) ha0) (keeps_ite (State.respond_keeps (ss hM rfl)
      (State.traceRegister_keeps (ss hM rfl) ha0)) (State.writeAny_keeps (ss hM rfl) ha0))

theorem State.writeDoorbell_keeps {M : Nat} {s0 : State} {a0 a1 a2} (hM : 2305874904530027537 &&& M =
    2305874904530027537) (ha0 : Keeps M s0 a0) : Keeps M s0 (State.writeDoorbell a0 a1 a2) := by
  unfold State.writeDoorbell
  extract_lets +onlyGivenNames v0
  split
  · exact doGetInfo_keeps (ss hM rfl) ha0
  · exact doEcho_keeps (ss hM rfl) ha0
  · exact doLoadImage_keeps (ss hM rfl) ha0
  · exact doBlockEnable_keeps (ss hM rfl) ha0
  · exact doBlockDisable_keeps (ss hM rfl) ha0
  · exact doFwLoad_keeps (ss hM rfl) ha0
  · exact doFwStart_keeps (ss hM rfl) ha0
  · exact doSetStepFreq_keeps (ss hM rfl) ha0
  · exact doFwLoadDbg_keeps (ss hM rfl) ha0
  · exact State.doorbell_keeps (ss hM rfl) ha0 (fun y1 h2 => h2)

theorem State.writeHstCtrl_keeps {M : Nat} {s0 : State} {a0 a1 a2} (hM : 4611684919251304449 &&& M =
    4611684919251304449) (ha0 : Keeps M s0 a0) : Keeps M s0 (State.writeHstCtrl a0 a1 a2) := by
  unfold State.writeHstCtrl
  exact keeps_ite (State.respond_keeps (ss hM rfl) (State.wr_keeps (ss hM rfl) (ss hM rfl) (State.errReg_keeps (ss hM
      rfl) ha0))) (State.writeAny_keeps (ss hM rfl) ha0)

theorem State.firmwareStores_keeps {M : Nat} {s0 : State} {a0 a1 a2 a3} (hM : 4611684918915760129 &&& M =
    4611684918915760129) (ha0 : Keeps M s0 a0) : Keeps M s0 (State.firmwareStores a0 a1 a2 a3) := by
  unfold State.firmwareStores
  exact State.respond_keeps (ss hM rfl) (keeps_foldl ha0 (fun _ _ h0 => State.wr_keeps (ss hM rfl) (allRegs (ss hM
      rfl)) h0))

theorem State.writeHst_keeps {M : Nat} {s0 : State} {a0 a1 a2 a3} (hM : 4611684928394888209 &&& M =
    4611684928394888209) (ha0 : Keeps M s0 a0) : Keeps M s0 (State.writeHst a0 a1 a2 a3) := by
  unfold State.writeHst
  refine keeps_ite ?_ ?_
  · exact State.writeHstCtrl_keeps (ss hM rfl) ha0
  · refine keeps_ite ?_ ?_
    · exact State.writeDoorbell_keeps (ss hM rfl) ha0
    · refine keeps_ite ?_ ?_
      · exact State.writeUnless_keeps (ss hM rfl) ha0
      · split
        · exact keeps_ite (State.firmwareStores_keeps (ss hM rfl) ha0) (State.writeAny_keeps (ss hM rfl) ha0)
        · exact State.writeAny_keeps (ss hM rfl) ha0

theorem State.writePwr_keeps {M : Nat} {s0 : State} {a0 a1 a2 a3} (hM : 4611685984059260927 &&& M =
    4611685984059260927) (ha0 : Keeps M s0 a0) : Keeps M s0 (State.writePwr a0 a1 a2 a3) := by
  unfold State.writePwr
  exact keeps_ite (keeps_ite (doResetCommand_keeps (ss hM rfl) ha0) (State.refuseWrite_keeps (ss hM rfl) ha0))
      (keeps_ite (doThrottleWrite_keeps (ss hM rfl) ha0) (State.writeAny_keeps (ss hM rfl) ha0))

theorem doRevive_keeps {M : Nat} {s0 : State} {a0 a1 a2} (hM : 2305843009213693953 &&& M = 2305843009213693953) (ha2
    : Keeps M s0 a2) : Keeps M s0 (doRevive a0 a1 a2) := by
  unfold doRevive
  exact State.respond_keeps (ss hM rfl) (State.wr_keeps (ss hM rfl) (ss hM rfl) ha2)

theorem State.writeNoc_keeps {M : Nat} {s0 : State} {a0 a1 a2 a3 a4} (hM : 4611684919251304449 &&& M =
    4611684919251304449) (ha0 : Keeps M s0 a0) : Keeps M s0 (State.writeNoc a0 a1 a2 a3 a4) := by
  unfold State.writeNoc
  exact keeps_ite (keeps_ite (doRevive_keeps (ss hM rfl) ha0) (State.respond_keeps (ss hM rfl) ha0))
      (State.writeAny_keeps (ss hM rfl) ha0)

theorem State.writeNamed_keeps {M : Nat} {s0 : State} {a0 a1 a2 a3 a4 a5} (hM : 4611685984059260927 &&& M =
    4611685984059260927) (ha0 : Keeps M s0 a0) : Keeps M s0 (State.writeNamed a0 a1 a2 a3 a4 a5) := by
  unfold State.writeNamed
  split
  · exact State.writePrt_keeps (ss hM rfl) ha0
  · exact State.writeOrc_keeps (ss hM rfl) ha0
  · exact State.writeDmb_keeps (ss hM rfl) ha0
  · exact State.writeMdc_keeps (ss hM rfl) ha0
  · exact State.writeAcq_keeps (ss hM rfl) ha0
  · exact State.writeRes_keeps (ss hM rfl) ha0
  · exact State.writeCas_keeps (ss hM rfl) ha0
  · exact State.writeTim_keeps (ss hM rfl) ha0
  · exact keeps_ite (doLogUserCmd_keeps (ss hM rfl) ha0) (State.writeAny_keeps (ss hM rfl) ha0)
  · exact State.writeCfg_keeps (ss hM rfl) ha0
  · exact State.writeIrq_keeps (ss hM rfl) ha0
  · exact State.hmsAccess_keeps (ss hM rfl) ha0
  · exact State.writeEth_keeps (ss hM rfl) ha0
  · exact State.writeDbg_keeps (ss hM rfl) ha0
  · exact State.writeTrc_keeps (ss hM rfl) ha0
  · exact State.writeHst_keeps (ss hM rfl) ha0
  · exact State.writePwr_keeps (ss hM rfl) ha0
  · exact State.writeNoc_keeps (ss hM rfl) ha0
  · exact State.writeAny_keeps (ss hM rfl) ha0
  · exact State.writeAny_keeps (ss hM rfl) ha0
  · exact State.writeAny_keeps (ss hM rfl) ha0

theorem State.writeAct_keeps {M : Nat} {s0 : State} {a0 a1 a2 a3 a4 a5} (hM : 4611685984059260927 &&& M =
    4611685984059260927) (ha0 : Keeps M s0 a0) : Keeps M s0 (State.writeAct a0 a1 a2 a3 a4 a5) := by
  unfold State.writeAct
  extract_lets +onlyGivenNames v0
  refine keeps_ite ?_ ?_
  · exact State.refuseAccess_keeps (ss hM rfl) (State.errReg_keeps (ss hM rfl) ha0)
  · refine keeps_ite ?_ ?_
    · exact State.writeSelect_keeps (ss hM rfl) ha0
    · refine keeps_ite ?_ ?_
      · exact State.respond_keeps (ss hM rfl) ha0
      · refine keeps_ite ?_ ?_
        · exact State.writeMsix_keeps (ss hM rfl) ha0
        · refine keeps_ite ?_ ?_
          · exact State.refuseAccess_keeps (ss hM rfl) (State.errReg_keeps (ss hM rfl) ha0)
          · split
            · exact State.writeWide_keeps (ss hM rfl) ha0
            · exact State.writeNamed_keeps (ss hM rfl) ha0

theorem State.regWrite_keeps {M : Nat} {s0 : State} {a0 a1 a2 a3} (hM : 4611685984059260927 &&& M =
    4611685984059260927) (ha0 : Keeps M s0 a0) : Keeps M s0 (State.regWrite a0 a1 a2 a3) := by
  unfold State.regWrite
  extract_lets +onlyGivenNames v0
  exact State.access_keeps (ss hM rfl) ha0 (fun y1 h2 => State.writeAct_keeps (ss hM rfl) h2)

/-! ## Machine/HostIf.lean -/

theorem State.complete_keeps {M : Nat} {s0 : State} {a0 a1 a2 a3} (hM : 1 &&& M = 1) (ha0 : Keeps M s0 a0) : Keeps M
    s0 (State.complete a0 a1 a2 a3) := by
  unfold State.complete
  exact keeps_ite ha0 (keeps_ite (State.emit_keeps (ss hM rfl) ha0) (keeps_ite (State.emit_keeps (ss hM rfl) ha0)
      (keeps_ite (State.emit_keeps (ss hM rfl) ha0) (State.emit_keeps (ss hM rfl) ha0))))

theorem State.hostDecode_keeps {M : Nat} {s0 : State} {a0 a1} (hM : 1099847172097 &&& M = 1099847172097) (ha0 : Keeps
    M s0 a0) : Keeps M s0 (State.hostDecode a0 a1) := by
  unfold State.hostDecode
  exact State.refuseAccess_keeps (ss hM rfl) (State.quayStatus_keeps (ss hM rfl) ha0)

theorem State.bar0Word_keeps {M : Nat} {s0 : State} {a0 a1 a2 a3 a4 a5 a6} (hM : 4611685984059260927 &&& M =
    4611685984059260927) (ha0 : Keeps M s0 a0) : Keeps M s0 (State.bar0Word a0 a1 a2 a3 a4 a5 a6) := by
  unfold State.bar0Word
  extract_lets +onlyGivenNames v0
  refine keeps_ite ?_ ?_
  · exact State.access_keeps (ss hM rfl) ha0 (fun y1 h2 => State.refuseAccess_keeps (ss hM rfl) (State.errReg_keeps
        (ss hM rfl) h2))
  · refine keeps_ite ?_ ?_
    · extract_lets +onlyGivenNames v3
      have h4 : Keeps M s0 v3 := State.regWrite_keeps (ss hM rfl) ha0
      try clear_value v3
      exact keeps_ite (State.access_keeps (ss hM rfl) h4 (fun y5 h6 => State.writeMsix_keeps (ss hM rfl) h6)) h4
    · exact State.regRead_keeps (ss hM rfl) ha0

theorem State.bar0_keeps {M : Nat} {s0 : State} {a0 a1 a2 a3 a4} (hM : 4611685984059260927 &&& M =
    4611685984059260927) (ha0 : Keeps M s0 a0) : Keeps M s0 (State.bar0 a0 a1 a2 a3 a4) := by
  unfold State.bar0
  extract_lets +onlyGivenNames v0 v1
  have h2 : Keeps M s0 v1 := by
    unfold v1
    split
    · exact State.bar0Word_keeps (ss hM rfl) ha0
    · exact State.hostDecode_keeps (ss hM rfl) ha0
  try clear_value v1
  extract_lets +onlyGivenNames v3 v4
  have h5 : Keeps M s0 v4 := State.muteFrom_keeps (ss hM rfl) h2
  try clear_value v4
  refine keeps_ite ?_ ?_
  · exact h5
  · try clear_value v3
    split
    · exact h5
    · extract_lets +onlyGivenNames v6
      exact State.complete_keeps (ss hM rfl) h5

theorem State.hostAnswer_keeps {M : Nat} {s0 : State} {a0 a1 a2 a3} (hM : 1099847172097 &&& M = 1099847172097) (ha0 :
    Keeps M s0 a0) : Keeps M s0 (State.hostAnswer a0 a1 a2 a3) := by
  unfold State.hostAnswer
  extract_lets +onlyGivenNames v0
  have h1 : Keeps M s0 v0 := keeps_ite ha0 (keeps_ite (State.raise_keeps (ss hM rfl) ha0) (State.raise_keeps (ss hM
      rfl) ha0))
  try clear_value v0
  exact keeps_ite h1 (State.complete_keeps (ss hM rfl) h1)

theorem State.hostSend_keeps {M : Nat} {s0 : State} {a0 a1 a2} (hM : 2305844126240735233 &&& M = 2305844126240735233)
    (ha0 : Keeps M s0 a0) : Keeps M s0 (State.hostSend a0 a1 a2) := by
  unfold State.hostSend
  split
  · exact State.hostAnswer_keeps (ss hM rfl) (State.quayStatus_keeps (ss hM rfl) ha0)
  · refine keeps_ite ?_ ?_
    · exact State.hostAnswer_keeps (ss hM rfl) (State.quayStatus_keeps (ss hM rfl) ha0)
    · extract_lets +onlyGivenNames v0
      have h1 : Keeps M s0 v0 := keeps_mk ha0 rfl (g_host := .inl (ss hM rfl))
      try clear_value v0
      exact State.quaySend_keeps (ss hM rfl) h1

theorem State.hostIssue_keeps {M : Nat} {s0 s : State} {l} (hM : 4611685984059260927 &&& M = 4611685984059260927) (h : Keeps M s0 s) : Keeps M s0 (s.hostIssue l) := by
  induction l generalizing s with
  | nil => exact keeps_mk h rfl (g_host := .inl (ss hM rfl))
  | cons w rest ih =>
    unfold State.hostIssue
    refine keeps_ite (keeps_mk h rfl (g_host := .inl (ss hM rfl))) (keeps_ite (ih (State.bar0_keeps (ss hM rfl) h)) ?_)
    split
    · exact keeps_mk h rfl (g_host := .inl (ss hM rfl))
    · exact ih (State.hostSend_keeps (ss hM rfl) h)

theorem State.hostResponse_keeps {M : Nat} {s0 : State} {a0 a1 a2 a3 a4} (hM : 4611685984059260927 &&& M =
    4611685984059260927) (ha0 : Keeps M s0 a0) : Keeps M s0 (State.hostResponse a0 a1 a2 a3 a4) := by
  unfold State.hostResponse
  split
  · exact ha0
  · extract_lets +onlyGivenNames v0
    have h1 : Keeps M s0 v0 := keeps_mk ha0 rfl (g_host := .inl (ss hM rfl))
    try clear_value v0
    extract_lets +onlyGivenNames v2 v3
    have h4 : Keeps M s0 v3 := keeps_ite (State.logEvent_keeps (ss hM rfl) (State.err_keeps (ss hM rfl) h1)) h1
    try clear_value v3
    extract_lets +onlyGivenNames v5
    have h6 : Keeps M s0 v5 := State.hostAnswer_keeps (ss hM rfl) (State.quayTake_keeps (ss hM rfl) h4)
    try clear_value v5
    exact State.hostIssue_keeps (ss hM rfl) h6

theorem doHostAccess_keeps {M : Nat} {s0 : State} {a0 a1} (hM : 4611685984059260927 &&& M = 4611685984059260927) (ha1
    : Keeps M s0 a1) : Keeps M s0 (doHostAccess a0 a1) := by
  unfold doHostAccess
  exact keeps_ite ha1 (keeps_ite (keeps_ite (State.emit_keeps (ss hM rfl) ha1) ha1) (State.hostIssue_keeps (ss hM
      rfl) ha1))

theorem execHostAccess_keeps {M : Nat} {s0 : State} {a0 a1} (hM : 4611685984059260927 &&& M = 4611685984059260927)
    (ha1 : Keeps M s0 a1) : KeepsO M s0 (execHostAccess a0 a1) := by
  unfold execHostAccess
  exact keepsO_next (doHostAccess_keeps (ss hM rfl) ha1)

theorem State.configWord_keeps {M : Nat} {s0 : State} {a0 a1} (hM : 0 &&& M = 0) (ha0 : Keeps M s0 a0) : Keeps2 M s0
    (State.configWord a0 a1) := by
  unfold State.configWord
  split
  · exact keeps2_mk ha0
  · split
    · rename_i x0 x1 q2
      have k3 := congrArg (fun p => p.2) q2
      have hx1 : Keeps M s0 x1 := by
        simp only at k3
        rw [← k3]
        exact keeps_of2 (State.free_keeps (ss hM rfl) ha0)
      exact keeps2_mk hx1
  · exact keeps2_mk ha0
  · exact keeps2_mk ha0
  · exact keeps2_mk ha0
  · exact keeps2_mk ha0
  · exact keeps2_mk ha0
  · exact keeps2_mk ha0
  · exact keeps2_mk ha0
  · split
    · rename_i x4 x5 q6
      have k7 := congrArg (fun p => p.2) q6
      have hx5 : Keeps M s0 x5 := by
        simp only at k7
        rw [← k7]
        exact keeps_of2 (State.free_keeps (ss hM rfl) ha0)
      exact keeps2_mk hx5

theorem State.configServe_keeps {M : Nat} {s0 : State} {a0 a1} (hM : 8813541326849 &&& M = 8813541326849) (ha0 :
    Keeps M s0 a0) : Keeps M s0 (State.configServe a0 a1) := by
  unfold State.configServe
  split
  · split
    · rename_i x0 x1 q2
      have k3 := congrArg (fun p => p.2) q2
      have hx1 : Keeps M s0 x1 := by
        simp only at k3
        rw [← k3]
        exact keeps_of2 (State.configWord_keeps (ss hM rfl) ha0)
      exact State.emit_keeps (ss hM rfl) hx1
  · exact State.emit_keeps (ss hM rfl) (State.wr_keeps (ss hM rfl) (ss hM rfl) (keeps_mk ha0 rfl (g_host := .inl (ss
        hM rfl))))
  · exact State.emit_keeps (ss hM rfl) (State.sendPending_keeps (ss hM rfl) (State.wr_keeps (ss hM rfl) (ss hM rfl)
        (keeps_mk ha0 rfl (g_msix := .inl (ss hM rfl)))))
  · extract_lets +onlyGivenNames v4 v5
    exact State.emit_keeps (ss hM rfl) (keeps_mk ha0 rfl (g_host := .inl (ss hM rfl)))

theorem doConfigurationRequest_keeps {M : Nat} {s0 : State} {a0 a1 a2} (hM : 8813541326849 &&& M = 8813541326849)
    (ha2 : Keeps M s0 a2) : Keeps M s0 (doConfigurationRequest a0 a1 a2) := by
  unfold doConfigurationRequest
  exact keeps_ite ha2 (keeps_ite (State.emit_keeps (ss hM rfl) ha2) (State.configServe_keeps (ss hM rfl) ha2))

theorem execConfigurationRequest_keeps {M : Nat} {s0 : State} {a0 a1 a2} (hM : 8813541326849 &&& M = 8813541326849)
    (ha2 : Keeps M s0 a2) : KeepsO M s0 (execConfigurationRequest a0 a1 a2) := by
  unfold execConfigurationRequest
  exact keepsO_next (doConfigurationRequest_keeps (ss hM rfl) ha2)

theorem State.failFetches_keeps {M : Nat} {s0 : State} {a0} (hM : 351299463528201329 &&& M = 351299463528201329) (ha0
    : Keeps M s0 a0) : Keeps M s0 (State.failFetches a0) := by
  unfold State.failFetches
  extract_lets +onlyGivenNames v0
  have h1 : Keeps M s0 v0 := doImageLine_keeps (ss hM rfl) ha0
  try clear_value v0
  extract_lets +onlyGivenNames v2
  have h3 : Keeps M s0 v2 := doStreamFetch_keeps (ss hM rfl) h1
  try clear_value v2
  extract_lets +onlyGivenNames v4
  have h5 : Keeps M s0 v4 := doFrameRefetch_keeps (ss hM rfl) h3
  try clear_value v4
  exact keeps_ite (State.raise_keeps (ss hM rfl) h5) h5

theorem doPcieLinkLoss_keeps {M : Nat} {s0 : State} {a0} (hM : 351308276801092721 &&& M = 351308276801092721) (ha0 :
    Keeps M s0 a0) : Keeps M s0 (doPcieLinkLoss a0) := by
  unfold doPcieLinkLoss
  extract_lets +onlyGivenNames v0
  have h1 : Keeps M s0 v0 := keeps_mk ha0 rfl (g_msix := .inl (ss hM rfl)) (g_host := .inl (ss hM rfl))
  try clear_value v0
  extract_lets +onlyGivenNames v2
  have h3 : Keeps M s0 v2 := State.wr_keeps (ss hM rfl) (ss hM rfl) (State.wr_keeps (ss hM rfl) (ss hM rfl)
      (State.wr_keeps (ss hM rfl) (ss hM rfl) (State.wr_keeps (ss hM rfl) (ss hM rfl) h1)))
  try clear_value v2
  exact State.failFetches_keeps (ss hM rfl) h3

theorem execPcieLinkLoss_keeps {M : Nat} {s0 : State} {a0} (hM : 351308276801092721 &&& M = 351308276801092721) (ha0
    : Keeps M s0 a0) : KeepsO M s0 (execPcieLinkLoss a0) := by
  unfold execPcieLinkLoss
  exact keepsO_next (doPcieLinkLoss_keeps (ss hM rfl) ha0)

theorem doPcieLinkUp_keeps {M : Nat} {s0 : State} {a0 a1 a2} (hM : 14293986705409 &&& M = 14293986705409) (ha2 :
    Keeps M s0 a2) : Keeps M s0 (doPcieLinkUp a0 a1 a2) := by
  unfold doPcieLinkUp
  exact keeps_ite ha2 (State.raise_keeps (ss hM rfl) (State.wr_keeps (ss hM rfl) (ss hM rfl) (State.wr_keeps (ss hM
      rfl) (ss hM rfl) (State.wr_keeps (ss hM rfl) (ss hM rfl) ha2))))

theorem execPcieLinkUp_keeps {M : Nat} {s0 : State} {a0 a1 a2} (hM : 14293986705409 &&& M = 14293986705409) (ha2 :
    Keeps M s0 a2) : KeepsO M s0 (execPcieLinkUp a0 a1 a2) := by
  unfold execPcieLinkUp
  exact keepsO_next (doPcieLinkUp_keeps (ss hM rfl) ha2)

end Sys2Proof.Machine
end

