-- ==== Sys2Proof/Laws/Keeps6.lean ====
section
/-! SUPPORT. Laws/Keeps6.lean: what the operations of Machine/Bus.lean, Machine/CoreIsa.lean, Machine/Jtag.lean, Machine/RegCommands.lean
keep of a state. -/

namespace Sys2Proof.Machine
set_option Elab.async false
open Sys2Proof

/-! ## Machine/Bus.lean -/

theorem State.answer_keeps {M : Nat} {s0 : State} {a0 a1 a2 a3} (hM : 1 &&& M = 1) (ha0 : Keeps M s0 a0) : Keeps M s0
    (State.answer a0 a1 a2 a3) := by
  unfold State.answer
  exact State.emit_keeps (ss hM rfl) ha0

theorem State.atScratch_keeps {M : Nat} {s0 : State} {a0 a1} (hM : 18693123735553 &&& M = 18693123735553) (ha0 :
    Keeps M s0 a0) : Keeps M s0 (State.atScratch a0 a1) := by
  unfold State.atScratch
  split
  · exact keeps_ite (State.answer_keeps (ss hM rfl) (State.logEvent_keeps (ss hM rfl) (State.err_keeps (ss hM rfl)
        ha0))) (State.modCore_keeps (ss hM rfl) ha0)

theorem keeps3_foldl {α β γ : Type} {M : Nat} {s0 : State} {f : β × γ × State → α → β × γ × State} {l : List α} {p : β × γ × State}
    (hi : Keeps3 M s0 p) (hf : ∀ p x, Keeps3 M s0 p → Keeps3 M s0 (f p x)) : Keeps3 M s0 (l.foldl f p) := by
  induction l generalizing p with
  | nil => exact hi
  | cons x r ih => exact ih (hf _ _ hi)

theorem State.readWords_keeps {M : Nat} {s0 : State} {a0 a1 a2} (hM : 1 &&& M = 1) (ha0 : Keeps M s0 a0) (ha2 : ∀ y0 y1, Keeps M s0 y0 → Keeps3 M s0
    (a2 y0 y1)) : Keeps M s0 (State.readWords a0 a1 a2) := by
  unfold State.readWords
  extract_lets +onlyGivenNames v0
  have h1 : Keeps3 M s0 v0 := keeps3_foldl (keeps3_mk (keeps2_mk ha0)) (fun _ _ h => ha2 _ _ (keeps_of3 h))
  exact State.answer_keeps (ss hM rfl) (keeps_of3 h1)

theorem State.writeWords_keeps {M : Nat} {s0 : State} {a0 a1 a2} (hM : 1 &&& M = 1) (ha0 : Keeps M s0 a0) (ha2 : ∀ y0
    y1 y2 y3, Keeps M s0 y0 → Keeps2 M s0 (a2 y0 y1 y2 y3)) : Keeps M s0 (State.writeWords a0 a1 a2) := by
  unfold State.writeWords
  extract_lets +onlyGivenNames v0
  have h1 : Keeps2 M s0 v0 := by
    refine keeps2_foldl ?_ ?_
    · exact keeps2_mk ha0
    · intro _ _ h2
      split
      · rename_i x3 x4 q5
        have k6 := congrArg (fun p => p.2) q5
        have hx4 : Keeps M s0 x4 := by
          simp only at k6
          rw [← k6]
          exact keeps_of2 (ha2 _ _ _ _ (keeps_of2 h2))
        exact keeps2_mk hx4
  try clear_value v0
  exact State.answer_keeps (ss hM rfl) (keeps_of2 h1)

theorem State.plainOp_keeps {M : Nat} {s0 : State} {a0 a1 a2} (hM : 1 &&& M = 1) (ha0 : Keeps M s0 a0) (ha2 : Keeps M
    s0 a2) : Keeps M s0 (State.plainOp a0 a1 a2) := by
  unfold State.plainOp
  exact keeps_ite (State.answer_keeps (ss hM rfl) ha0) ha2

theorem State.atControl_keeps {M : Nat} {s0 : State} {a0 a1} (hM : 18692586864657 &&& M = 18692586864657) (ha0 :
    Keeps M s0 a0) : Keeps M s0 (State.atControl a0 a1) := by
  unfold State.atControl
  extract_lets +onlyGivenNames v0
  exact keeps_ite (State.answer_keeps (ss hM rfl) (State.controlSeal_keeps (ss hM rfl) ha0)) (keeps_ite
      (State.writeWords_keeps (ss hM rfl) ha0 (fun y1 y3 y4 y5 h2 => keeps2_ite (keeps2_mk h2)
      (State.controlWrite_keeps (ss hM rfl) h2))) (State.readWords_keeps (ss hM rfl) ha0 (fun y6 y8 h7 => keeps3_ite
      (keeps3_mk (keeps2_mk h7)) (State.controlRead_keeps (ss hM rfl) h7))))

theorem State.atBootRom_keeps {M : Nat} {s0 : State} {a0 a1} (hM : 1 &&& M = 1) (ha0 : Keeps M s0 a0) : Keeps M s0
    (State.atBootRom a0 a1) := by
  unfold State.atBootRom
  exact keeps_ite (State.answer_keeps (ss hM rfl) ha0) (State.readWords_keeps (ss hM rfl) ha0 (fun y0 y2 h1 =>
      keeps3_ite (keeps3_mk (keeps2_mk h1)) (keeps3_mk (keeps2_mk h1))))

theorem State.atLogbook_keeps {M : Nat} {s0 : State} {a0 a1} (hM : 18692049993729 &&& M = 18692049993729) (ha0 :
    Keeps M s0 a0) : Keeps M s0 (State.atLogbook a0 a1) := by
  unfold State.atLogbook
  exact keeps_ite (State.answer_keeps (ss hM rfl) ha0) (State.readWords_keeps (ss hM rfl) ha0 (fun y0 y2 h1 =>
      keeps3_ite (keeps3_mk (keeps2_mk h1)) (State.logbookRead_keeps (ss hM rfl) h1)))

theorem State.storeImageWord_keeps {M : Nat} {s0 : State} {a0 a1 a2 a3 a4 a5} (hM : 18692049994801 &&& M =
    18692049994801) (ha0 : Keeps M s0 a0) : Keeps2 M s0 (State.storeImageWord a0 a1 a2 a3 a4 a5) := by
  unfold State.storeImageWord
  extract_lets +onlyGivenNames v0 v1 v2 v3 v4
  try clear_value v1
  split
  · exact keeps2_mk (State.err_keeps (ss hM rfl) ha0)
  · refine keeps2_ite ?_ ?_
    · exact keeps2_mk (State.loadWord_keeps (ss hM rfl) ha0)
    · refine keeps2_ite ?_ ?_
      · extract_lets +onlyGivenNames v5
        have h6 : Keeps M s0 v5 := doInstructionWordWrite_keeps (ss hM rfl) ha0
        try clear_value v5
        exact keeps2_mk h6
      · refine keeps2_ite ?_ ?_
        · exact keeps2_mk (State.logEvent_keeps (ss hM rfl) (State.err_keeps (ss hM rfl) ha0))
        · try clear_value v0
          split
          · rename_i x7 x8 q9
            have k11 := congrArg (fun p => p.2.2) q9
            have hx8 : Keeps M s0 x8 := by
              simp only at k11
              rw [← k11]
              exact keeps_of3 (State.istoreRead_keeps (ss hM rfl) ha0)
            extract_lets +onlyGivenNames v10
            exact keeps2_mk (doInstructionWordWrite_keeps (ss hM rfl) hx8)
          · rename_i x12 x13 x14 n15 q15
            have k16 := congrArg (fun p => p.2.2) q15
            have hx14 : Keeps M s0 x14 := by
              simp only at k16
              rw [← k16]
              exact keeps_of3 (State.istoreRead_keeps (ss hM rfl) ha0)
            exact keeps2_mk hx14

theorem State.atOrchard_keeps {M : Nat} {s0 : State} {a0 a1} (hM : 18692049994801 &&& M = 18692049994801) (ha0 :
    Keeps M s0 a0) : Keeps M s0 (State.atOrchard a0 a1) := by
  unfold State.atOrchard
  extract_lets +onlyGivenNames v0
  exact keeps_ite (keeps_ite (State.writeWords_keeps (ss hM rfl) ha0 (fun y1 y3 y4 y5 h2 => keeps2_ite (keeps2_mk h2)
      (State.storeImageWord_keeps (ss hM rfl) h2))) (State.readWords_keeps (ss hM rfl) ha0 (fun y6 y8 h7 =>
      keeps3_ite (keeps3_mk (keeps2_mk h7)) (keeps3_ite (keeps3_mk (keeps2_mk h7)) (State.istoreRead_keeps (ss hM
      rfl) h7))))) (keeps_ite (State.answer_keeps (ss hM rfl) (State.err_keeps (ss hM rfl) ha0))
      (State.readWords_keeps (ss hM rfl) ha0 (fun y9 y11 h10 => keeps3_ite (keeps3_mk (keeps2_mk h10)) (keeps3_ite
      (keeps3_mk (keeps2_mk h10)) (State.rowsRead_keeps (ss hM rfl) h10)))))

theorem State.frameRead_keeps {M : Nat} {s0 : State} {a0 a1 a2} (hM : 18692049993729 &&& M = 18692049993729) (ha0 :
    Keeps M s0 a0) : Keeps3 M s0 (State.frameRead a0 a1 a2) := by
  unfold State.frameRead
  extract_lets +onlyGivenNames v0
  exact keeps3_ite (keeps3_mk (keeps2_mk ha0)) (keeps3_ite (keeps3_mk (keeps2_mk ha0)) (keeps3_mk (keeps2_mk
      (State.logEvent_keeps (ss hM rfl) (State.err_keeps (ss hM rfl) ha0)))))

theorem State.atFrames_keeps {M : Nat} {s0 : State} {a0 a1} (hM : 18692049993729 &&& M = 18692049993729) (ha0 : Keeps
    M s0 a0) : Keeps M s0 (State.atFrames a0 a1) := by
  unfold State.atFrames
  exact keeps_ite (State.answer_keeps (ss hM rfl) (State.err_keeps (ss hM rfl) ha0)) (State.readWords_keeps (ss hM
      rfl) ha0 (fun y0 y2 h1 => State.frameRead_keeps (ss hM rfl) h1))

theorem State.answerAs_keeps {M : Nat} {s0 : State} {a0 a1 a2} (hM : 1 &&& M = 1) (ha0 : Keeps M s0 a0) : Keeps M s0
    (State.answerAs a0 a1 a2) := by
  unfold State.answerAs
  split
  · exact ha0
  · exact State.answer_keeps (ss hM rfl) (State.muteFrom_keeps (ss hM rfl) ha0)

theorem State.regRequest_keeps {M : Nat} {s0 : State} {a0 a1 a2 a3 a4 a5} (hM : 4611685984059260927 &&& M =
    4611685984059260927) (ha0 : Keeps M s0 a0) : Keeps M s0 (State.regRequest a0 a1 a2 a3 a4 a5) := by
  unfold State.regRequest
  extract_lets +onlyGivenNames v0 v1 v2
  exact keeps_ite (State.answer_keeps (ss hM rfl) (State.logEvent_keeps (ss hM rfl) (State.err_keeps (ss hM rfl)
      ha0))) (keeps_ite (State.answer_keeps (ss hM rfl) ha0) (keeps_ite (State.answer_keeps (ss hM rfl)
      (State.errReg_keeps (ss hM rfl) ha0)) (keeps_ite (State.answer_keeps (ss hM rfl) (State.errReg_keeps (ss hM
      rfl) ha0)) (State.answerAs_keeps (ss hM rfl) (keeps_ite (State.writeAct_keeps (ss hM rfl) ha0)
      (State.readAct_keeps (ss hM rfl) ha0))))))

theorem State.atRegisters_keeps {M : Nat} {s0 : State} {a0 a1} (hM : 4611685984059260927 &&& M = 4611685984059260927)
    (ha0 : Keeps M s0 a0) : Keeps M s0 (State.atRegisters a0 a1) := by
  unfold State.atRegisters
  split
  · exact State.answer_keeps (ss hM rfl) ha0
  · split
    · exact State.answer_keeps (ss hM rfl) (State.err_keeps (ss hM rfl) ha0)
    · exact State.regRequest_keeps (ss hM rfl) ha0

theorem State.serve_keeps {M : Nat} {s0 : State} {a0 a1} (hM : 4611685984059260927 &&& M = 4611685984059260927) (ha0
    : Keeps M s0 a0) : Keeps M s0 (State.serve a0 a1) := by
  unfold State.serve
  extract_lets +onlyGivenNames v0
  exact keeps_ite (State.atRegisters_keeps (ss hM rfl) ha0) (keeps_ite (State.bankArrive_keeps (ss hM rfl) ha0)
      (keeps_ite (State.atScratch_keeps (ss hM rfl) ha0) (keeps_ite (State.plainOp_keeps (ss hM rfl) ha0
      (State.atOrchard_keeps (ss hM rfl) ha0)) (keeps_ite (State.plainOp_keeps (ss hM rfl) ha0 (State.atFrames_keeps
      (ss hM rfl) ha0)) (keeps_ite (State.plainOp_keeps (ss hM rfl) ha0 (State.atLogbook_keeps (ss hM rfl) ha0))
      (keeps_ite (State.plainOp_keeps (ss hM rfl) ha0 (State.atControl_keeps (ss hM rfl) ha0)) (State.plainOp_keeps
      (ss hM rfl) ha0 (State.atBootRom_keeps (ss hM rfl) ha0))))))))

theorem State.bareSent_keeps {M : Nat} {s0 : State} {a0 a1} (hM : 2305843558969507840 &&& M = 2305843558969507840)
    (ha0 : Keeps M s0 a0) : Keeps M s0 (State.bareSent a0 a1) := by
  unfold State.bareSent
  refine keeps_ite ?_ ?_
  · extract_lets +onlyGivenNames v0
    have h1 : Keeps M s0 v0 := State.wr_keeps (ss hM rfl) (ss hM rfl) ha0
    try clear_value v0
    exact keeps_mk h1 rfl (g_noc := .inl (ss hM rfl))
  · exact ha0

theorem State.takeRequestPacket_keeps {M : Nat} {s0 : State} {a0 a1} (hM : 4611685984059260927 &&& M =
    4611685984059260927) (ha0 : Keeps M s0 a0) : Keeps M s0 (State.takeRequestPacket a0 a1) := by
  unfold State.takeRequestPacket
  split
  · exact State.answer_keeps (ss hM rfl) ha0
  · exact keeps_ite (State.answer_keeps (ss hM rfl) ha0) (keeps_ite (State.answer_keeps (ss hM rfl) ha0) (keeps_ite
        (State.answer_keeps (ss hM rfl) ha0) (State.serve_keeps (ss hM rfl) ha0)))

theorem doNocRequest_keeps {M : Nat} {s0 : State} {a0 a1} (hM : 4611685984059260927 &&& M = 4611685984059260927) (ha1
    : Keeps M s0 a1) : Keeps M s0 (doNocRequest a0 a1) := by
  unfold doNocRequest
  exact keeps_ite ha1 (State.takeRequestPacket_keeps (ss hM rfl) (State.bareSent_keeps (ss hM rfl) ha1))

theorem execNocRequest_keeps {M : Nat} {s0 : State} {a0 a1} (hM : 4611685984059260927 &&& M = 4611685984059260927)
    (ha1 : Keeps M s0 a1) : KeepsO M s0 (execNocRequest a0 a1) := by
  unfold execNocRequest
  exact keepsO_ite keepsO_fault (keepsO_next (doNocRequest_keeps (ss hM rfl) ha1))

theorem State.coreSeal_keeps {M : Nat} {s0 : State} {a0 a1 a2} (hM : 18692049993729 &&& M = 18692049993729) (ha0 :
    Keeps M s0 a0) : Keeps M s0 (State.coreSeal a0 a1 a2) := by
  unfold State.coreSeal
  extract_lets +onlyGivenNames v0
  exact State.logEvent_keeps (ss hM rfl) (State.err_keeps (ss hM rfl) ha0)

theorem State.portSeal_keeps {M : Nat} {s0 : State} {a0 a1 a2} (hM : 18692049993729 &&& M = 18692049993729) (ha0 :
    Keeps M s0 a0) : Keeps M s0 (State.portSeal a0 a1 a2) := by
  unfold State.portSeal
  exact State.logEvent_keeps (ss hM rfl) (State.err_keeps (ss hM rfl) ha0)

theorem State.bareSeal_keeps {M : Nat} {s0 : State} {a0 a1 a2} (hM : 18692049993729 &&& M = 18692049993729) (ha0 :
    Keeps M s0 a0) : Keeps M s0 (State.bareSeal a0 a1 a2) := by
  unfold State.bareSeal
  exact keeps_ite (State.logEvent_keeps (ss hM rfl) (State.err_keeps (ss hM rfl) ha0)) (State.logEvent_keeps (ss hM
      rfl) (State.err_keeps (ss hM rfl) ha0))

theorem State.bareResponse_keeps {M : Nat} {s0 : State} {a0 a1 a2 a3 a4} (hM : 2305862251019501569 &&& M =
    2305862251019501569) (ha0 : Keeps M s0 a0) : Keeps M s0 (State.bareResponse a0 a1 a2 a3 a4) := by
  unfold State.bareResponse
  split
  · exact ha0
  · extract_lets +onlyGivenNames v0
    have h1 : Keeps M s0 v0 := keeps_mk ha0 rfl (g_noc := .inl (ss hM rfl))
    try clear_value v0
    exact State.quayTake_keeps (ss hM rfl) (keeps_ite (State.bareSeal_keeps (ss hM rfl) h1) h1)

theorem State.farAnswered_keeps {M : Nat} {s0 : State} {a0 a1 a2 a3} (hM : 2305844109060867329 &&& M =
    2305844109060867329) (ha0 : Keeps M s0 a0) : Keeps M s0 (State.farAnswered a0 a1 a2 a3) := by
  unfold State.farAnswered
  split
  · exact doFarTransferComplete_keeps (ss hM rfl) ha0
  · exact ha0

theorem State.response_keeps {M : Nat} {s0 : State} {a0 a1 a2 a3 a4 a5} (hM : 4611685984059260927 &&& M =
    4611685984059260927) (ha0 : Keeps M s0 a0) : Keeps M s0 (State.response a0 a1 a2 a3 a4 a5) := by
  unfold State.response
  extract_lets +onlyGivenNames v0 v1 v2
  refine keeps_ite ?_ ?_
  · exact keeps_ite (State.farAnswered_keeps (ss hM rfl) (keeps_ite (State.portSeal_keeps (ss hM rfl) ha0) ha0)) ha0
  · refine keeps_ite ?_ ?_
    · extract_lets +onlyGivenNames v3
      exact keeps_ite (doFarLoadResponse_keeps (ss hM rfl) (keeps_ite (State.coreSeal_keeps (ss hM rfl) ha0) ha0))
          (State.storeAnswered_keeps (ss hM rfl) ha0)
    · refine keeps_ite ?_ ?_
      · exact doAcqWriteResponse_keeps (ss hM rfl) ha0
      · refine keeps_ite ?_ ?_
        · exact State.hostResponse_keeps (ss hM rfl) ha0
        · refine keeps_ite ?_ ?_
          · exact doCompletionRecordResponse_keeps (ss hM rfl) ha0
          · refine keeps_ite ?_ ?_
            · extract_lets +onlyGivenNames v4
              exact State.windowDone_keeps (ss hM rfl) (keeps_ite (State.logEvent_keeps (ss hM rfl) (State.err_keeps
                  (ss hM rfl) ha0)) ha0)
            · exact State.bareResponse_keeps (ss hM rfl) ha0

theorem doNocResponse_keeps {M : Nat} {s0 : State} {a0 a1 a2 a3 a4 a5 a6} (hM : 4611685984059260927 &&& M =
    4611685984059260927) (ha6 : Keeps M s0 a6) : Keeps M s0 (doNocResponse a0 a1 a2 a3 a4 a5 a6) := by
  unfold doNocResponse
  exact keeps_ite ha6 (State.response_keeps (ss hM rfl) ha6)

theorem execNocResponse_keeps {M : Nat} {s0 : State} {a0 a1 a2 a3 a4 a5} (hM : 4611685984059260927 &&& M =
    4611685984059260927) (ha5 : Keeps M s0 a5) : KeepsO M s0 (execNocResponse a0 a1 a2 a3 a4 a5) := by
  unfold execNocResponse
  exact keepsO_next (doNocResponse_keeps (ss hM rfl) ha5)

theorem State.answerHeld_keeps {M : Nat} {s0 : State} {a0 a1} (hM : 549755813889 &&& M = 549755813889) (ha0 : Keeps M
    s0 a0) : Keeps M s0 (State.answerHeld a0 a1) := by
  unfold State.answerHeld
  extract_lets +onlyGivenNames v0
  exact keeps_foldl (keeps_mk ha0 rfl (g_noc := .inl (ss hM rfl))) (fun _ _ h1 => State.answer_keeps (ss hM rfl) h1)

theorem doQuayDead_keeps {M : Nat} {s0 : State} {a0 a1} (hM : 2305862251019501569 &&& M = 2305862251019501569) (ha1 :
    Keeps M s0 a1) : Keeps M s0 (doQuayDead a0 a1) := by
  unfold doQuayDead
  exact keeps_ite ha1 (State.logEvent_keeps (ss hM rfl) (State.raise_keeps (ss hM rfl) (State.wr_keeps (ss hM rfl)
      (ss hM rfl) (State.answerHeld_keeps (ss hM rfl) ha1))))

theorem execQuayDead_keeps {M : Nat} {s0 : State} {a0 a1} (hM : 2305862251019501569 &&& M = 2305862251019501569) (ha1
    : Keeps M s0 a1) : KeepsO M s0 (execQuayDead a0 a1) := by
  unfold execQuayDead
  exact keepsO_next (doQuayDead_keeps (ss hM rfl) ha1)

/-! ## Machine/CoreIsa.lean -/

theorem doNop_keeps {M : Nat} {s0 : State} {a0 a1 a2} (hM : 3029146983250026513 &&& M = 3029146983250026513) (ha2 :
    Keeps M s0 a2) : Keeps M s0 (doNop a0 a1 a2) := by
  unfold doNop
  exact State.issueAs_keeps (ss hM rfl) ha2

theorem execNop_keeps {M : Nat} {s0 : State} {a0 a1 a2} (hM : 3029146983250026513 &&& M = 3029146983250026513) (ha2 :
    Keeps M s0 a2) : KeepsO M s0 (execNop a0 a1 a2) := by
  unfold execNop
  exact keepsO_next (doNop_keeps (ss hM rfl) ha2)

theorem doVadd_keeps {M : Nat} {s0 : State} {a0 a1 a2} (hM : 3029146983250026513 &&& M = 3029146983250026513) (ha2 :
    Keeps M s0 a2) : Keeps M s0 (doVadd a0 a1 a2) := by
  unfold doVadd
  exact State.issueAs_keeps (ss hM rfl) ha2

theorem execVadd_keeps {M : Nat} {s0 : State} {a0 a1 a2} (hM : 3029146983250026513 &&& M = 3029146983250026513) (ha2
    : Keeps M s0 a2) : KeepsO M s0 (execVadd a0 a1 a2) := by
  unfold execVadd
  exact keepsO_next (doVadd_keeps (ss hM rfl) ha2)

theorem doVsub_keeps {M : Nat} {s0 : State} {a0 a1 a2} (hM : 3029146983250026513 &&& M = 3029146983250026513) (ha2 :
    Keeps M s0 a2) : Keeps M s0 (doVsub a0 a1 a2) := by
  unfold doVsub
  exact State.issueAs_keeps (ss hM rfl) ha2

theorem execVsub_keeps {M : Nat} {s0 : State} {a0 a1 a2} (hM : 3029146983250026513 &&& M = 3029146983250026513) (ha2
    : Keeps M s0 a2) : KeepsO M s0 (execVsub a0 a1 a2) := by
  unfold execVsub
  exact keepsO_next (doVsub_keeps (ss hM rfl) ha2)

theorem doVadds_keeps {M : Nat} {s0 : State} {a0 a1 a2} (hM : 3029146983250026513 &&& M = 3029146983250026513) (ha2 :
    Keeps M s0 a2) : Keeps M s0 (doVadds a0 a1 a2) := by
  unfold doVadds
  exact State.issueAs_keeps (ss hM rfl) ha2

theorem execVadds_keeps {M : Nat} {s0 : State} {a0 a1 a2} (hM : 3029146983250026513 &&& M = 3029146983250026513) (ha2
    : Keeps M s0 a2) : KeepsO M s0 (execVadds a0 a1 a2) := by
  unfold execVadds
  exact keepsO_next (doVadds_keeps (ss hM rfl) ha2)

theorem doVsubs_keeps {M : Nat} {s0 : State} {a0 a1 a2} (hM : 3029146983250026513 &&& M = 3029146983250026513) (ha2 :
    Keeps M s0 a2) : Keeps M s0 (doVsubs a0 a1 a2) := by
  unfold doVsubs
  exact State.issueAs_keeps (ss hM rfl) ha2

theorem execVsubs_keeps {M : Nat} {s0 : State} {a0 a1 a2} (hM : 3029146983250026513 &&& M = 3029146983250026513) (ha2
    : Keeps M s0 a2) : KeepsO M s0 (execVsubs a0 a1 a2) := by
  unfold execVsubs
  exact keepsO_next (doVsubs_keeps (ss hM rfl) ha2)

theorem doVand_keeps {M : Nat} {s0 : State} {a0 a1 a2} (hM : 3029146983250026513 &&& M = 3029146983250026513) (ha2 :
    Keeps M s0 a2) : Keeps M s0 (doVand a0 a1 a2) := by
  unfold doVand
  exact State.issueAs_keeps (ss hM rfl) ha2

theorem execVand_keeps {M : Nat} {s0 : State} {a0 a1 a2} (hM : 3029146983250026513 &&& M = 3029146983250026513) (ha2
    : Keeps M s0 a2) : KeepsO M s0 (execVand a0 a1 a2) := by
  unfold execVand
  exact keepsO_next (doVand_keeps (ss hM rfl) ha2)

theorem doVor_keeps {M : Nat} {s0 : State} {a0 a1 a2} (hM : 3029146983250026513 &&& M = 3029146983250026513) (ha2 :
    Keeps M s0 a2) : Keeps M s0 (doVor a0 a1 a2) := by
  unfold doVor
  exact State.issueAs_keeps (ss hM rfl) ha2

theorem execVor_keeps {M : Nat} {s0 : State} {a0 a1 a2} (hM : 3029146983250026513 &&& M = 3029146983250026513) (ha2 :
    Keeps M s0 a2) : KeepsO M s0 (execVor a0 a1 a2) := by
  unfold execVor
  exact keepsO_next (doVor_keeps (ss hM rfl) ha2)

theorem doVxor_keeps {M : Nat} {s0 : State} {a0 a1 a2} (hM : 3029146983250026513 &&& M = 3029146983250026513) (ha2 :
    Keeps M s0 a2) : Keeps M s0 (doVxor a0 a1 a2) := by
  unfold doVxor
  exact State.issueAs_keeps (ss hM rfl) ha2

theorem execVxor_keeps {M : Nat} {s0 : State} {a0 a1 a2} (hM : 3029146983250026513 &&& M = 3029146983250026513) (ha2
    : Keeps M s0 a2) : KeepsO M s0 (execVxor a0 a1 a2) := by
  unfold execVxor
  exact keepsO_next (doVxor_keeps (ss hM rfl) ha2)

theorem doVshl_keeps {M : Nat} {s0 : State} {a0 a1 a2} (hM : 3029146983250026513 &&& M = 3029146983250026513) (ha2 :
    Keeps M s0 a2) : Keeps M s0 (doVshl a0 a1 a2) := by
  unfold doVshl
  exact State.issueAs_keeps (ss hM rfl) ha2

theorem execVshl_keeps {M : Nat} {s0 : State} {a0 a1 a2} (hM : 3029146983250026513 &&& M = 3029146983250026513) (ha2
    : Keeps M s0 a2) : KeepsO M s0 (execVshl a0 a1 a2) := by
  unfold execVshl
  exact keepsO_next (doVshl_keeps (ss hM rfl) ha2)

theorem doVshra_keeps {M : Nat} {s0 : State} {a0 a1 a2} (hM : 3029146983250026513 &&& M = 3029146983250026513) (ha2 :
    Keeps M s0 a2) : Keeps M s0 (doVshra a0 a1 a2) := by
  unfold doVshra
  exact State.issueAs_keeps (ss hM rfl) ha2

theorem execVshra_keeps {M : Nat} {s0 : State} {a0 a1 a2} (hM : 3029146983250026513 &&& M = 3029146983250026513) (ha2
    : Keeps M s0 a2) : KeepsO M s0 (execVshra a0 a1 a2) := by
  unfold execVshra
  exact keepsO_next (doVshra_keeps (ss hM rfl) ha2)

theorem doVshrl_keeps {M : Nat} {s0 : State} {a0 a1 a2} (hM : 3029146983250026513 &&& M = 3029146983250026513) (ha2 :
    Keeps M s0 a2) : Keeps M s0 (doVshrl a0 a1 a2) := by
  unfold doVshrl
  exact State.issueAs_keeps (ss hM rfl) ha2

theorem execVshrl_keeps {M : Nat} {s0 : State} {a0 a1 a2} (hM : 3029146983250026513 &&& M = 3029146983250026513) (ha2
    : Keeps M s0 a2) : KeepsO M s0 (execVshrl a0 a1 a2) := by
  unfold execVshrl
  exact keepsO_next (doVshrl_keeps (ss hM rfl) ha2)

theorem doVcmp_keeps {M : Nat} {s0 : State} {a0 a1 a2} (hM : 3029146983250026513 &&& M = 3029146983250026513) (ha2 :
    Keeps M s0 a2) : Keeps M s0 (doVcmp a0 a1 a2) := by
  unfold doVcmp
  exact State.issueAs_keeps (ss hM rfl) ha2

theorem execVcmp_keeps {M : Nat} {s0 : State} {a0 a1 a2} (hM : 3029146983250026513 &&& M = 3029146983250026513) (ha2
    : Keeps M s0 a2) : KeepsO M s0 (execVcmp a0 a1 a2) := by
  unfold execVcmp
  exact keepsO_next (doVcmp_keeps (ss hM rfl) ha2)

theorem doVmin_keeps {M : Nat} {s0 : State} {a0 a1 a2} (hM : 3029146983250026513 &&& M = 3029146983250026513) (ha2 :
    Keeps M s0 a2) : Keeps M s0 (doVmin a0 a1 a2) := by
  unfold doVmin
  exact State.issueAs_keeps (ss hM rfl) ha2

theorem execVmin_keeps {M : Nat} {s0 : State} {a0 a1 a2} (hM : 3029146983250026513 &&& M = 3029146983250026513) (ha2
    : Keeps M s0 a2) : KeepsO M s0 (execVmin a0 a1 a2) := by
  unfold execVmin
  exact keepsO_next (doVmin_keeps (ss hM rfl) ha2)

theorem doVmax_keeps {M : Nat} {s0 : State} {a0 a1 a2} (hM : 3029146983250026513 &&& M = 3029146983250026513) (ha2 :
    Keeps M s0 a2) : Keeps M s0 (doVmax a0 a1 a2) := by
  unfold doVmax
  exact State.issueAs_keeps (ss hM rfl) ha2

theorem execVmax_keeps {M : Nat} {s0 : State} {a0 a1 a2} (hM : 3029146983250026513 &&& M = 3029146983250026513) (ha2
    : Keeps M s0 a2) : KeepsO M s0 (execVmax a0 a1 a2) := by
  unfold execVmax
  exact keepsO_next (doVmax_keeps (ss hM rfl) ha2)

theorem doVbcast_keeps {M : Nat} {s0 : State} {a0 a1 a2} (hM : 3029146983250026513 &&& M = 3029146983250026513) (ha2
    : Keeps M s0 a2) : Keeps M s0 (doVbcast a0 a1 a2) := by
  unfold doVbcast
  exact State.issueAs_keeps (ss hM rfl) ha2

theorem execVbcast_keeps {M : Nat} {s0 : State} {a0 a1 a2} (hM : 3029146983250026513 &&& M = 3029146983250026513)
    (ha2 : Keeps M s0 a2) : KeepsO M s0 (execVbcast a0 a1 a2) := by
  unfold execVbcast
  exact keepsO_next (doVbcast_keeps (ss hM rfl) ha2)

theorem doMovi_keeps {M : Nat} {s0 : State} {a0 a1 a2} (hM : 3029146983250026513 &&& M = 3029146983250026513) (ha2 :
    Keeps M s0 a2) : Keeps M s0 (doMovi a0 a1 a2) := by
  unfold doMovi
  exact State.issueAs_keeps (ss hM rfl) ha2

theorem execMovi_keeps {M : Nat} {s0 : State} {a0 a1 a2} (hM : 3029146983250026513 &&& M = 3029146983250026513) (ha2
    : Keeps M s0 a2) : KeepsO M s0 (execMovi a0 a1 a2) := by
  unfold execMovi
  exact keepsO_next (doMovi_keeps (ss hM rfl) ha2)

theorem doMac_keeps {M : Nat} {s0 : State} {a0 a1 a2} (hM : 3029146983250026513 &&& M = 3029146983250026513) (ha2 :
    Keeps M s0 a2) : Keeps M s0 (doMac a0 a1 a2) := by
  unfold doMac
  exact State.issueAs_keeps (ss hM rfl) ha2

theorem execMac_keeps {M : Nat} {s0 : State} {a0 a1 a2} (hM : 3029146983250026513 &&& M = 3029146983250026513) (ha2 :
    Keeps M s0 a2) : KeepsO M s0 (execMac a0 a1 a2) := by
  unfold execMac
  exact keepsO_next (doMac_keeps (ss hM rfl) ha2)

theorem doMsu_keeps {M : Nat} {s0 : State} {a0 a1 a2} (hM : 3029146983250026513 &&& M = 3029146983250026513) (ha2 :
    Keeps M s0 a2) : Keeps M s0 (doMsu a0 a1 a2) := by
  unfold doMsu
  exact State.issueAs_keeps (ss hM rfl) ha2

theorem execMsu_keeps {M : Nat} {s0 : State} {a0 a1 a2} (hM : 3029146983250026513 &&& M = 3029146983250026513) (ha2 :
    Keeps M s0 a2) : KeepsO M s0 (execMsu a0 a1 a2) := by
  unfold execMsu
  exact keepsO_next (doMsu_keeps (ss hM rfl) ha2)

theorem doMpy_keeps {M : Nat} {s0 : State} {a0 a1 a2} (hM : 3029146983250026513 &&& M = 3029146983250026513) (ha2 :
    Keeps M s0 a2) : Keeps M s0 (doMpy a0 a1 a2) := by
  unfold doMpy
  exact State.issueAs_keeps (ss hM rfl) ha2

theorem execMpy_keeps {M : Nat} {s0 : State} {a0 a1 a2} (hM : 3029146983250026513 &&& M = 3029146983250026513) (ha2 :
    Keeps M s0 a2) : KeepsO M s0 (execMpy a0 a1 a2) := by
  unfold execMpy
  exact keepsO_next (doMpy_keeps (ss hM rfl) ha2)

theorem doMova_keeps {M : Nat} {s0 : State} {a0 a1 a2} (hM : 3029146983250026513 &&& M = 3029146983250026513) (ha2 :
    Keeps M s0 a2) : Keeps M s0 (doMova a0 a1 a2) := by
  unfold doMova
  exact State.issueAs_keeps (ss hM rfl) ha2

theorem execMova_keeps {M : Nat} {s0 : State} {a0 a1 a2} (hM : 3029146983250026513 &&& M = 3029146983250026513) (ha2
    : Keeps M s0 a2) : KeepsO M s0 (execMova a0 a1 a2) := by
  unfold execMova
  exact keepsO_next (doMova_keeps (ss hM rfl) ha2)

theorem doMovd_keeps {M : Nat} {s0 : State} {a0 a1 a2} (hM : 3029146983250026513 &&& M = 3029146983250026513) (ha2 :
    Keeps M s0 a2) : Keeps M s0 (doMovd a0 a1 a2) := by
  unfold doMovd
  exact State.issueAs_keeps (ss hM rfl) ha2

theorem execMovd_keeps {M : Nat} {s0 : State} {a0 a1 a2} (hM : 3029146983250026513 &&& M = 3029146983250026513) (ha2
    : Keeps M s0 a2) : KeepsO M s0 (execMovd a0 a1 a2) := by
  unfold execMovd
  exact keepsO_next (doMovd_keeps (ss hM rfl) ha2)

theorem doAclr_keeps {M : Nat} {s0 : State} {a0 a1 a2} (hM : 3029146983250026513 &&& M = 3029146983250026513) (ha2 :
    Keeps M s0 a2) : Keeps M s0 (doAclr a0 a1 a2) := by
  unfold doAclr
  exact State.issueAs_keeps (ss hM rfl) ha2

theorem execAclr_keeps {M : Nat} {s0 : State} {a0 a1 a2} (hM : 3029146983250026513 &&& M = 3029146983250026513) (ha2
    : Keeps M s0 a2) : KeepsO M s0 (execAclr a0 a1 a2) := by
  unfold execAclr
  exact keepsO_next (doAclr_keeps (ss hM rfl) ha2)

theorem doLd_keeps {M : Nat} {s0 : State} {a0 a1 a2} (hM : 3029146983250026513 &&& M = 3029146983250026513) (ha2 :
    Keeps M s0 a2) : Keeps M s0 (doLd a0 a1 a2) := by
  unfold doLd
  exact State.issueAs_keeps (ss hM rfl) ha2

theorem execLd_keeps {M : Nat} {s0 : State} {a0 a1 a2} (hM : 3029146983250026513 &&& M = 3029146983250026513) (ha2 :
    Keeps M s0 a2) : KeepsO M s0 (execLd a0 a1 a2) := by
  unfold execLd
  exact keepsO_next (doLd_keeps (ss hM rfl) ha2)

theorem doSt_keeps {M : Nat} {s0 : State} {a0 a1 a2} (hM : 3029146983250026513 &&& M = 3029146983250026513) (ha2 :
    Keeps M s0 a2) : Keeps M s0 (doSt a0 a1 a2) := by
  unfold doSt
  exact State.issueAs_keeps (ss hM rfl) ha2

theorem execSt_keeps {M : Nat} {s0 : State} {a0 a1 a2} (hM : 3029146983250026513 &&& M = 3029146983250026513) (ha2 :
    Keeps M s0 a2) : KeepsO M s0 (execSt a0 a1 a2) := by
  unfold execSt
  exact keepsO_next (doSt_keeps (ss hM rfl) ha2)

theorem doLdp_keeps {M : Nat} {s0 : State} {a0 a1 a2} (hM : 3029146983250026513 &&& M = 3029146983250026513) (ha2 :
    Keeps M s0 a2) : Keeps M s0 (doLdp a0 a1 a2) := by
  unfold doLdp
  exact State.issueAs_keeps (ss hM rfl) ha2

theorem execLdp_keeps {M : Nat} {s0 : State} {a0 a1 a2} (hM : 3029146983250026513 &&& M = 3029146983250026513) (ha2 :
    Keeps M s0 a2) : KeepsO M s0 (execLdp a0 a1 a2) := by
  unfold execLdp
  exact keepsO_next (doLdp_keeps (ss hM rfl) ha2)

theorem doStp_keeps {M : Nat} {s0 : State} {a0 a1 a2} (hM : 3029146983250026513 &&& M = 3029146983250026513) (ha2 :
    Keeps M s0 a2) : Keeps M s0 (doStp a0 a1 a2) := by
  unfold doStp
  exact State.issueAs_keeps (ss hM rfl) ha2

theorem execStp_keeps {M : Nat} {s0 : State} {a0 a1 a2} (hM : 3029146983250026513 &&& M = 3029146983250026513) (ha2 :
    Keeps M s0 a2) : KeepsO M s0 (execStp a0 a1 a2) := by
  unfold execStp
  exact keepsO_next (doStp_keeps (ss hM rfl) ha2)

theorem doSta_keeps {M : Nat} {s0 : State} {a0 a1 a2} (hM : 3029146983250026513 &&& M = 3029146983250026513) (ha2 :
    Keeps M s0 a2) : Keeps M s0 (doSta a0 a1 a2) := by
  unfold doSta
  exact State.issueAs_keeps (ss hM rfl) ha2

theorem execSta_keeps {M : Nat} {s0 : State} {a0 a1 a2} (hM : 3029146983250026513 &&& M = 3029146983250026513) (ha2 :
    Keeps M s0 a2) : KeepsO M s0 (execSta a0 a1 a2) := by
  unfold execSta
  exact keepsO_next (doSta_keeps (ss hM rfl) ha2)

theorem doLr_keeps {M : Nat} {s0 : State} {a0 a1 a2} (hM : 3029146983250026513 &&& M = 3029146983250026513) (ha2 :
    Keeps M s0 a2) : Keeps M s0 (doLr a0 a1 a2) := by
  unfold doLr
  exact State.issueAs_keeps (ss hM rfl) ha2

theorem execLr_keeps {M : Nat} {s0 : State} {a0 a1 a2} (hM : 3029146983250026513 &&& M = 3029146983250026513) (ha2 :
    Keeps M s0 a2) : KeepsO M s0 (execLr a0 a1 a2) := by
  unfold execLr
  exact keepsO_next (doLr_keeps (ss hM rfl) ha2)

theorem doSc_keeps {M : Nat} {s0 : State} {a0 a1 a2} (hM : 3029146983250026513 &&& M = 3029146983250026513) (ha2 :
    Keeps M s0 a2) : Keeps M s0 (doSc a0 a1 a2) := by
  unfold doSc
  exact State.issueAs_keeps (ss hM rfl) ha2

theorem execSc_keeps {M : Nat} {s0 : State} {a0 a1 a2} (hM : 3029146983250026513 &&& M = 3029146983250026513) (ha2 :
    Keeps M s0 a2) : KeepsO M s0 (execSc a0 a1 a2) := by
  unfold execSc
  exact keepsO_next (doSc_keeps (ss hM rfl) ha2)

theorem doPadd_keeps {M : Nat} {s0 : State} {a0 a1 a2} (hM : 3029146983250026513 &&& M = 3029146983250026513) (ha2 :
    Keeps M s0 a2) : Keeps M s0 (doPadd a0 a1 a2) := by
  unfold doPadd
  exact State.issueAs_keeps (ss hM rfl) ha2

theorem execPadd_keeps {M : Nat} {s0 : State} {a0 a1 a2} (hM : 3029146983250026513 &&& M = 3029146983250026513) (ha2
    : Keeps M s0 a2) : KeepsO M s0 (execPadd a0 a1 a2) := by
  unfold execPadd
  exact keepsO_next (doPadd_keeps (ss hM rfl) ha2)

theorem doPmov_keeps {M : Nat} {s0 : State} {a0 a1 a2} (hM : 3029146983250026513 &&& M = 3029146983250026513) (ha2 :
    Keeps M s0 a2) : Keeps M s0 (doPmov a0 a1 a2) := by
  unfold doPmov
  exact State.issueAs_keeps (ss hM rfl) ha2

theorem execPmov_keeps {M : Nat} {s0 : State} {a0 a1 a2} (hM : 3029146983250026513 &&& M = 3029146983250026513) (ha2
    : Keeps M s0 a2) : KeepsO M s0 (execPmov a0 a1 a2) := by
  unfold execPmov
  exact keepsO_next (doPmov_keeps (ss hM rfl) ha2)

theorem doPmovi_keeps {M : Nat} {s0 : State} {a0 a1 a2} (hM : 3029146983250026513 &&& M = 3029146983250026513) (ha2 :
    Keeps M s0 a2) : Keeps M s0 (doPmovi a0 a1 a2) := by
  unfold doPmovi
  exact State.issueAs_keeps (ss hM rfl) ha2

theorem execPmovi_keeps {M : Nat} {s0 : State} {a0 a1 a2} (hM : 3029146983250026513 &&& M = 3029146983250026513) (ha2
    : Keeps M s0 a2) : KeepsO M s0 (execPmovi a0 a1 a2) := by
  unfold execPmovi
  exact keepsO_next (doPmovi_keeps (ss hM rfl) ha2)

theorem doBr_keeps {M : Nat} {s0 : State} {a0 a1} (hM : 3029146983250026513 &&& M = 3029146983250026513) (ha1 : Keeps
    M s0 a1) : Keeps M s0 (doBr a0 a1) := by
  unfold doBr
  exact State.issueAs_keeps (ss hM rfl) ha1

theorem execBr_keeps {M : Nat} {s0 : State} {a0 a1} (hM : 3029146983250026513 &&& M = 3029146983250026513) (ha1 :
    Keeps M s0 a1) : KeepsO M s0 (execBr a0 a1) := by
  unfold execBr
  exact keepsO_next (doBr_keeps (ss hM rfl) ha1)

theorem doBrcc_keeps {M : Nat} {s0 : State} {a0 a1} (hM : 3029146983250026513 &&& M = 3029146983250026513) (ha1 :
    Keeps M s0 a1) : Keeps M s0 (doBrcc a0 a1) := by
  unfold doBrcc
  exact State.issueAs_keeps (ss hM rfl) ha1

theorem execBrcc_keeps {M : Nat} {s0 : State} {a0 a1} (hM : 3029146983250026513 &&& M = 3029146983250026513) (ha1 :
    Keeps M s0 a1) : KeepsO M s0 (execBrcc a0 a1) := by
  unfold execBrcc
  exact keepsO_next (doBrcc_keeps (ss hM rfl) ha1)

theorem doCall_keeps {M : Nat} {s0 : State} {a0 a1} (hM : 3029146983250026513 &&& M = 3029146983250026513) (ha1 :
    Keeps M s0 a1) : Keeps M s0 (doCall a0 a1) := by
  unfold doCall
  exact State.issueAs_keeps (ss hM rfl) ha1

theorem execCall_keeps {M : Nat} {s0 : State} {a0 a1} (hM : 3029146983250026513 &&& M = 3029146983250026513) (ha1 :
    Keeps M s0 a1) : KeepsO M s0 (execCall a0 a1) := by
  unfold execCall
  exact keepsO_next (doCall_keeps (ss hM rfl) ha1)

theorem doJmp_keeps {M : Nat} {s0 : State} {a0 a1} (hM : 3029146983250026513 &&& M = 3029146983250026513) (ha1 :
    Keeps M s0 a1) : Keeps M s0 (doJmp a0 a1) := by
  unfold doJmp
  exact State.issueAs_keeps (ss hM rfl) ha1

theorem execJmp_keeps {M : Nat} {s0 : State} {a0 a1} (hM : 3029146983250026513 &&& M = 3029146983250026513) (ha1 :
    Keeps M s0 a1) : KeepsO M s0 (execJmp a0 a1) := by
  unfold execJmp
  exact keepsO_next (doJmp_keeps (ss hM rfl) ha1)

theorem doRep_keeps {M : Nat} {s0 : State} {a0 a1} (hM : 3029146983250026513 &&& M = 3029146983250026513) (ha1 :
    Keeps M s0 a1) : Keeps M s0 (doRep a0 a1) := by
  unfold doRep
  exact State.issueAs_keeps (ss hM rfl) ha1

theorem execRep_keeps {M : Nat} {s0 : State} {a0 a1} (hM : 3029146983250026513 &&& M = 3029146983250026513) (ha1 :
    Keeps M s0 a1) : KeepsO M s0 (execRep a0 a1) := by
  unfold execRep
  exact keepsO_next (doRep_keeps (ss hM rfl) ha1)

theorem doMvc_keeps {M : Nat} {s0 : State} {a0 a1} (hM : 3029146983250026513 &&& M = 3029146983250026513) (ha1 :
    Keeps M s0 a1) : Keeps M s0 (doMvc a0 a1) := by
  unfold doMvc
  exact State.issueAs_keeps (ss hM rfl) ha1

theorem execMvc_keeps {M : Nat} {s0 : State} {a0 a1} (hM : 3029146983250026513 &&& M = 3029146983250026513) (ha1 :
    Keeps M s0 a1) : KeepsO M s0 (execMvc a0 a1) := by
  unfold execMvc
  exact keepsO_next (doMvc_keeps (ss hM rfl) ha1)

theorem doFence_keeps {M : Nat} {s0 : State} {a0 a1} (hM : 3029146983250026513 &&& M = 3029146983250026513) (ha1 :
    Keeps M s0 a1) : Keeps M s0 (doFence a0 a1) := by
  unfold doFence
  exact State.issueAs_keeps (ss hM rfl) ha1

theorem execFence_keeps {M : Nat} {s0 : State} {a0 a1} (hM : 3029146983250026513 &&& M = 3029146983250026513) (ha1 :
    Keeps M s0 a1) : KeepsO M s0 (execFence a0 a1) := by
  unfold execFence
  exact keepsO_next (doFence_keeps (ss hM rfl) ha1)

theorem doNap_keeps {M : Nat} {s0 : State} {a0 a1} (hM : 3029146983250026513 &&& M = 3029146983250026513) (ha1 :
    Keeps M s0 a1) : Keeps M s0 (doNap a0 a1) := by
  unfold doNap
  exact State.issueAs_keeps (ss hM rfl) ha1

theorem execNap_keeps {M : Nat} {s0 : State} {a0 a1} (hM : 3029146983250026513 &&& M = 3029146983250026513) (ha1 :
    Keeps M s0 a1) : KeepsO M s0 (execNap a0 a1) := by
  unfold execNap
  exact keepsO_next (doNap_keeps (ss hM rfl) ha1)

theorem doReti_keeps {M : Nat} {s0 : State} {a0 a1} (hM : 3029146983250026513 &&& M = 3029146983250026513) (ha1 :
    Keeps M s0 a1) : Keeps M s0 (doReti a0 a1) := by
  unfold doReti
  exact State.issueAs_keeps (ss hM rfl) ha1

theorem execReti_keeps {M : Nat} {s0 : State} {a0 a1} (hM : 3029146983250026513 &&& M = 3029146983250026513) (ha1 :
    Keeps M s0 a1) : KeepsO M s0 (execReti a0 a1) := by
  unfold execReti
  exact keepsO_next (doReti_keeps (ss hM rfl) ha1)

theorem doEret_keeps {M : Nat} {s0 : State} {a0 a1} (hM : 3029146983250026513 &&& M = 3029146983250026513) (ha1 :
    Keeps M s0 a1) : Keeps M s0 (doEret a0 a1) := by
  unfold doEret
  exact State.issueAs_keeps (ss hM rfl) ha1

theorem execEret_keeps {M : Nat} {s0 : State} {a0 a1} (hM : 3029146983250026513 &&& M = 3029146983250026513) (ha1 :
    Keeps M s0 a1) : KeepsO M s0 (execEret a0 a1) := by
  unfold execEret
  exact keepsO_next (doEret_keeps (ss hM rfl) ha1)

theorem doTrap_keeps {M : Nat} {s0 : State} {a0 a1} (hM : 3029146983250026513 &&& M = 3029146983250026513) (ha1 :
    Keeps M s0 a1) : Keeps M s0 (doTrap a0 a1) := by
  unfold doTrap
  exact State.issueAs_keeps (ss hM rfl) ha1

theorem execTrap_keeps {M : Nat} {s0 : State} {a0 a1} (hM : 3029146983250026513 &&& M = 3029146983250026513) (ha1 :
    Keeps M s0 a1) : KeepsO M s0 (execTrap a0 a1) := by
  unfold execTrap
  exact keepsO_next (doTrap_keeps (ss hM rfl) ha1)

/-! ## Machine/Jtag.lean -/

theorem State.selectDr_keeps {M : Nat} {s0 : State} {a0} (hM : 34359738368 &&& M = 34359738368) (ha0 : Keeps M s0 a0)
    : Keeps M s0 (State.selectDr a0) := by
  unfold State.selectDr
  split
  · exact keeps_mk ha0 rfl (g_tap := .inl (ss hM rfl))
  · exact keeps_mk ha0 rfl (g_tap := .inl (ss hM rfl))
  · exact keeps_mk ha0 rfl (g_tap := .inl (ss hM rfl))
  · split
    · rename_i x0 x1 q2
      have k3 := congrArg (fun p => p.2) q2
      have hx1 : Keeps M s0 x1 := by
        simp only at k3
        rw [← k3]
        exact keeps_of2 (State.free_keeps (ss hM rfl) ha0)
      exact keeps_mk hx1 rfl (g_tap := .inl (ss hM rfl))

theorem State.setTap_keeps {M : Nat} {s0 : State} {a0 a1} (hM : 34359738368 &&& M = 34359738368) (ha0 : Keeps M s0
    a0) : Keeps M s0 (State.setTap a0 a1) := by
  unfold State.setTap
  exact State.selectDr_keeps (ss hM rfl) (keeps_mk ha0 rfl (g_tap := .inl (ss hM rfl)))

theorem doTapReset_keeps {M : Nat} {s0 : State} {a0} (hM : 34359738368 &&& M = 34359738368) (ha0 : Keeps M s0 a0) :
    Keeps M s0 (doTapReset a0) := by
  unfold doTapReset
  exact State.setTap_keeps (ss hM rfl) ha0

theorem execTapReset_keeps {M : Nat} {s0 : State} {a0} (hM : 34359738368 &&& M = 34359738368) (ha0 : Keeps M s0 a0) :
    KeepsO M s0 (execTapReset a0) := by
  unfold execTapReset
  exact keepsO_next (doTapReset_keeps (ss hM rfl) ha0)

theorem execExtest_keeps {M : Nat} {s0 : State} {a0} (hM : 34359738368 &&& M = 34359738368) (ha0 : Keeps M s0 a0) :
    KeepsO M s0 (execExtest a0) := by
  unfold execExtest
  exact keepsO_next (State.setTap_keeps (ss hM rfl) ha0)

theorem execSamplePreload_keeps {M : Nat} {s0 : State} {a0} (hM : 34359738368 &&& M = 34359738368) (ha0 : Keeps M s0
    a0) : KeepsO M s0 (execSamplePreload a0) := by
  unfold execSamplePreload
  exact keepsO_next (State.setTap_keeps (ss hM rfl) ha0)

theorem execIdcode_keeps {M : Nat} {s0 : State} {a0} (hM : 34359738368 &&& M = 34359738368) (ha0 : Keeps M s0 a0) :
    KeepsO M s0 (execIdcode a0) := by
  unfold execIdcode
  exact keepsO_next (State.setTap_keeps (ss hM rfl) ha0)

theorem execDbgacc_keeps {M : Nat} {s0 : State} {a0} (hM : 34359738368 &&& M = 34359738368) (ha0 : Keeps M s0 a0) :
    KeepsO M s0 (execDbgacc a0) := by
  unfold execDbgacc
  exact keepsO_next (State.setTap_keeps (ss hM rfl) ha0)

theorem execBypass_keeps {M : Nat} {s0 : State} {a0} (hM : 34359738368 &&& M = 34359738368) (ha0 : Keeps M s0 a0) :
    KeepsO M s0 (execBypass a0) := by
  unfold execBypass
  exact keepsO_next (State.setTap_keeps (ss hM rfl) ha0)

theorem State.captureDr_keeps {M : Nat} {s0 : State} {a0 a1 a2 a3 a4} (hM : 34359738368 &&& M = 34359738368) (ha0 :
    Keeps M s0 a0) : Keeps M s0 (State.captureDr a0 a1 a2 a3 a4) := by
  unfold State.captureDr
  split
  · exact keeps_mk ha0 rfl (g_tap := .inl (ss hM rfl))
  · split
    · rename_i x0 x1 q2
      have k3 := congrArg (fun p => p.2) q2
      have hx1 : Keeps M s0 x1 := by
        simp only at k3
        rw [← k3]
        exact keeps_of2 (State.free_keeps (ss hM rfl) ha0)
      exact keeps_mk hx1 rfl (g_tap := .inl (ss hM rfl))

theorem doDbgaccAccess_keeps {M : Nat} {s0 : State} {a0 a1} (hM : 4611686018418999295 &&& M = 4611686018418999295)
    (ha1 : Keeps M s0 a1) : Keeps M s0 (doDbgaccAccess a0 a1) := by
  unfold doDbgaccAccess
  refine keeps_ite ?_ ?_
  · exact ha1
  · extract_lets +onlyGivenNames v0 v1 v2
    refine keeps_ite ?_ ?_
    · exact State.selectDr_keeps (ss hM rfl) (State.captureDr_keeps (ss hM rfl) ha1)
    · extract_lets +onlyGivenNames v3 v4
      have h5 : Keeps M s0 v4 := keeps_ite (State.regWrite_keeps (ss hM rfl) ha1) (State.regRead_keeps (ss hM rfl)
          ha1)
      try clear_value v4
      extract_lets +onlyGivenNames v6
      exact State.selectDr_keeps (ss hM rfl) (State.captureDr_keeps (ss hM rfl) (State.muteFrom_keeps (ss hM rfl) h5))

theorem execDbgaccAccess_keeps {M : Nat} {s0 : State} {a0 a1} (hM : 4611686018418999295 &&& M = 4611686018418999295)
    (ha1 : Keeps M s0 a1) : KeepsO M s0 (execDbgaccAccess a0 a1) := by
  unfold execDbgaccAccess
  exact keepsO_next (doDbgaccAccess_keeps (ss hM rfl) ha1)

/-! ## Machine/RegCommands.lean -/

theorem execRegisterWrite_keeps {M : Nat} {s0 : State} {a0 a1 a2 a3 a4} (hM : 4611685984059260927 &&& M =
    4611685984059260927) (ha4 : Keeps M s0 a4) : KeepsO M s0 (execRegisterWrite a0 a1 a2 a3 a4) := by
  unfold execRegisterWrite
  refine keepsO_next ?_
  refine keeps_ite ?_ ?_
  · exact State.regWrite_keeps (ss hM rfl) ha4
  · extract_lets +onlyGivenNames v0
    exact State.access_keeps (ss hM rfl) ha4 (fun y1 h2 => State.refuseAccess_keeps (ss hM rfl) (State.errReg_keeps
        (ss hM rfl) h2))

theorem execSelectWrite_keeps {M : Nat} {s0 : State} {a0 a1 a2 a3} (hM : 4611685984059260927 &&& M =
    4611685984059260927) (ha3 : Keeps M s0 a3) : KeepsO M s0 (execSelectWrite a0 a1 a2 a3) := by
  unfold execSelectWrite
  exact keepsO_next (State.regWrite_keeps (ss hM rfl) ha3)

theorem execWideWordStage_keeps {M : Nat} {s0 : State} {a0 a1 a2 a3} (hM : 4611685984059260927 &&& M =
    4611685984059260927) (ha3 : Keeps M s0 a3) : KeepsO M s0 (execWideWordStage a0 a1 a2 a3) := by
  unfold execWideWordStage
  exact keepsO_next (State.regWrite_keeps (ss hM rfl) ha3)

theorem execWideWordApply_keeps {M : Nat} {s0 : State} {a0 a1 a2 a3} (hM : 4611685984059260927 &&& M =
    4611685984059260927) (ha3 : Keeps M s0 a3) : KeepsO M s0 (execWideWordApply a0 a1 a2 a3) := by
  unfold execWideWordApply
  exact keepsO_next (State.regWrite_keeps (ss hM rfl) ha3)

theorem execWideWordCapture_keeps {M : Nat} {s0 : State} {a0 a1 a2} (hM : 4611685208104646675 &&& M =
    4611685208104646675) (ha2 : Keeps M s0 a2) : KeepsO M s0 (execWideWordCapture a0 a1 a2) := by
  unfold execWideWordCapture
  exact keepsO_next (State.regRead_keeps (ss hM rfl) ha2)

theorem execPairLoRead_keeps {M : Nat} {s0 : State} {a0 a1 a2} (hM : 4611685208104646675 &&& M = 4611685208104646675)
    (ha2 : Keeps M s0 a2) : KeepsO M s0 (execPairLoRead a0 a1 a2) := by
  unfold execPairLoRead
  exact keepsO_next (State.regRead_keeps (ss hM rfl) ha2)

theorem execClearingRead_keeps {M : Nat} {s0 : State} {a0 a1 a2} (hM : 4611685208104646675 &&& M =
    4611685208104646675) (ha2 : Keeps M s0 a2) : KeepsO M s0 (execClearingRead a0 a1 a2) := by
  unfold execClearingRead
  exact keepsO_next (State.regRead_keeps (ss hM rfl) ha2)

theorem execLoadBegin_keeps {M : Nat} {s0 : State} {a0 a1 a2} (hM : 443610061191042817 &&& M = 443610061191042817)
    (ha2 : Keeps M s0 a2) : KeepsO M s0 (execLoadBegin a0 a1 a2) := by
  unfold execLoadBegin
  exact keepsO_next (State.access_keeps (ss hM rfl) ha2 (fun y0 h1 => doPrtCmd_keeps (ss hM rfl) h1))

theorem execLoadEnd_keeps {M : Nat} {s0 : State} {a0 a1 a2} (hM : 443610061191042817 &&& M = 443610061191042817) (ha2
    : Keeps M s0 a2) : KeepsO M s0 (execLoadEnd a0 a1 a2) := by
  unfold execLoadEnd
  exact keepsO_next (State.access_keeps (ss hM rfl) ha2 (fun y0 h1 => doPrtCmd_keeps (ss hM rfl) h1))

theorem execStart_keeps {M : Nat} {s0 : State} {a0 a1 a2} (hM : 443610061191042817 &&& M = 443610061191042817) (ha2 :
    Keeps M s0 a2) : KeepsO M s0 (execStart a0 a1 a2) := by
  unfold execStart
  exact keepsO_next (State.access_keeps (ss hM rfl) ha2 (fun y0 h1 => doPrtCmd_keeps (ss hM rfl) h1))

theorem execStop_keeps {M : Nat} {s0 : State} {a0 a1 a2} (hM : 443610061191042817 &&& M = 443610061191042817) (ha2 :
    Keeps M s0 a2) : KeepsO M s0 (execStop a0 a1 a2) := by
  unfold execStop
  exact keepsO_next (State.access_keeps (ss hM rfl) ha2 (fun y0 h1 => doPrtCmd_keeps (ss hM rfl) h1))

theorem execSingle_keeps {M : Nat} {s0 : State} {a0 a1 a2} (hM : 443610061191042817 &&& M = 443610061191042817) (ha2
    : Keeps M s0 a2) : KeepsO M s0 (execSingle a0 a1 a2) := by
  unfold execSingle
  exact keepsO_next (State.access_keeps (ss hM rfl) ha2 (fun y0 h1 => doPrtCmd_keeps (ss hM rfl) h1))

theorem execResume_keeps {M : Nat} {s0 : State} {a0 a1 a2} (hM : 443610061191042817 &&& M = 443610061191042817) (ha2
    : Keeps M s0 a2) : KeepsO M s0 (execResume a0 a1 a2) := by
  unfold execResume
  exact keepsO_next (State.access_keeps (ss hM rfl) ha2 (fun y0 h1 => doPrtCmd_keeps (ss hM rfl) h1))

theorem execUnload_keeps {M : Nat} {s0 : State} {a0 a1 a2} (hM : 443610061191042817 &&& M = 443610061191042817) (ha2
    : Keeps M s0 a2) : KeepsO M s0 (execUnload a0 a1 a2) := by
  unfold execUnload
  exact keepsO_next (State.access_keeps (ss hM rfl) ha2 (fun y0 h1 => doPrtCmd_keeps (ss hM rfl) h1))

theorem execBunchesWrite_keeps {M : Nat} {s0 : State} {a0 a1 a2 a3 a4} (hM : 144116287923027969 &&& M =
    144116287923027969) (ha4 : Keeps M s0 a4) : KeepsO M s0 (execBunchesWrite a0 a1 a2 a3 a4) := by
  unfold execBunchesWrite
  exact keepsO_next (State.access_keeps (ss hM rfl) ha4 (fun y0 h1 => doBunchesWrite_keeps (ss hM rfl) h1))

theorem execExchWrite_keeps {M : Nat} {s0 : State} {a0 a1 a2 a3} (hM : 144116287923077121 &&& M = 144116287923077121)
    (ha3 : Keeps M s0 a3) : KeepsO M s0 (execExchWrite a0 a1 a2 a3) := by
  unfold execExchWrite
  exact keepsO_next (State.access_keeps (ss hM rfl) ha3 (fun y0 h1 => doExchWrite_keeps (ss hM rfl) h1))

theorem execIsolateWrite_keeps {M : Nat} {s0 : State} {a0 a1 a2 a3} (hM : 144116287923027969 &&& M =
    144116287923027969) (ha3 : Keeps M s0 a3) : KeepsO M s0 (execIsolateWrite a0 a1 a2 a3) := by
  unfold execIsolateWrite
  exact keepsO_next (State.access_keeps (ss hM rfl) ha3 (fun y0 h1 => doIsolateWrite_keeps (ss hM rfl) h1))

theorem execBerryRemapWrite_keeps {M : Nat} {s0 : State} {a0 a1 a2 a3} (hM : 81083485342662657 &&& M =
    81083485342662657) (ha3 : Keeps M s0 a3) : KeepsO M s0 (execBerryRemapWrite a0 a1 a2 a3) := by
  unfold execBerryRemapWrite
  exact keepsO_next (State.access_keeps (ss hM rfl) ha3 (fun y0 h1 => doBerryRemapWrite_keeps (ss hM rfl) h1))

theorem execBunchRemapWrite_keeps {M : Nat} {s0 : State} {a0 a1 a2 a3} (hM : 81083485342662657 &&& M =
    81083485342662657) (ha3 : Keeps M s0 a3) : KeepsO M s0 (execBunchRemapWrite a0 a1 a2 a3) := by
  unfold execBunchRemapWrite
  exact keepsO_next (State.access_keeps (ss hM rfl) ha3 (fun y0 h1 => doBunchRemapWrite_keeps (ss hM rfl) h1))

theorem execJoin_keeps {M : Nat} {s0 : State} {a0 a1 a2} (hM : 9008299101914113 &&& M = 9008299101914113) (ha2 :
    Keeps M s0 a2) : KeepsO M s0 (execJoin a0 a1 a2) := by
  unfold execJoin
  exact keepsO_next (State.access_keeps (ss hM rfl) ha2 (fun y0 h1 => doJoin_keeps (ss hM rfl) h1))

theorem execCheck_keeps {M : Nat} {s0 : State} {a0 a1} (hM : 9008299135467521 &&& M = 9008299135467521) (ha1 : Keeps
    M s0 a1) : KeepsO M s0 (execCheck a0 a1) := by
  unfold execCheck
  exact keepsO_next (State.access_keeps (ss hM rfl) ha1 (fun y0 h1 => doCheck_keeps (ss hM rfl) h1))

theorem execLogUserCmd_keeps {M : Nat} {s0 : State} {a0 a1 a2} (hM : 18692049993729 &&& M = 18692049993729) (ha2 :
    Keeps M s0 a2) : KeepsO M s0 (execLogUserCmd a0 a1 a2) := by
  unfold execLogUserCmd
  exact keepsO_next (State.access_keeps (ss hM rfl) ha2 (fun y0 h1 => doLogUserCmd_keeps (ss hM rfl) h1))

theorem execBerthWrite_keeps {M : Nat} {s0 : State} {a0 a1 a2 a3} (hM : 288231475998896129 &&& M =
    288231475998896129) (ha3 : Keeps M s0 a3) : KeepsO M s0 (execBerthWrite a0 a1 a2 a3) := by
  unfold execBerthWrite
  exact keepsO_next (State.access_keeps (ss hM rfl) ha3 (fun y0 h1 => doBerthWrite_keeps (ss hM rfl) h1))

theorem execRepairEntryWrite_keeps {M : Nat} {s0 : State} {a0 a1 a2 a3 a4} (hM : 288249068201705473 &&& M =
    288249068201705473) (ha4 : Keeps M s0 a4) : KeepsO M s0 (execRepairEntryWrite a0 a1 a2 a3 a4) := by
  unfold execRepairEntryWrite
  exact keepsO_next (State.access_keeps (ss hM rfl) ha4 (fun y0 h1 => doRepairEntryWrite_keeps (ss hM rfl) h1))

theorem execPortEnable_keeps {M : Nat} {s0 : State} {a0 a1 a2} (hM : 6760897336311809 &&& M = 6760897336311809) (ha2
    : Keeps M s0 a2) : KeepsO M s0 (execPortEnable a0 a1 a2) := by
  unfold execPortEnable
  exact keepsO_next (State.access_keeps (ss hM rfl) ha2 (fun y0 h1 => doPortEnable_keeps (ss hM rfl) h1))

theorem execPortDisable_keeps {M : Nat} {s0 : State} {a0 a1 a2} (hM : 6760897336311809 &&& M = 6760897336311809) (ha2
    : Keeps M s0 a2) : KeepsO M s0 (execPortDisable a0 a1 a2) := by
  unfold execPortDisable
  exact keepsO_next (State.access_keeps (ss hM rfl) ha2 (fun y0 h1 => doPortDisable_keeps (ss hM rfl) h1))

theorem execLanePowerRequest_keeps {M : Nat} {s0 : State} {a0 a1 a2 a3} (hM : 2257297708941313 &&& M =
    2257297708941313) (ha3 : Keeps M s0 a3) : KeepsO M s0 (execLanePowerRequest a0 a1 a2 a3) := by
  unfold execLanePowerRequest
  exact keepsO_next (State.access_keeps (ss hM rfl) ha3 (fun y0 h1 => doLanePowerRequest_keeps (ss hM rfl) h1))

theorem execCasStop_keeps {M : Nat} {s0 : State} {a0 a1} (hM : 146368087737761793 &&& M = 146368087737761793) (ha1 :
    Keeps M s0 a1) : KeepsO M s0 (execCasStop a0 a1) := by
  unfold execCasStop
  exact keepsO_next (State.access_keeps (ss hM rfl) ha1 (fun y0 h1 => doCasStop_keeps (ss hM rfl) h1))

theorem execNetmapDataWrite_keeps {M : Nat} {s0 : State} {a0 a1 a2} (hM : 2252899660988417 &&& M = 2252899660988417)
    (ha2 : Keeps M s0 a2) : KeepsO M s0 (execNetmapDataWrite a0 a1 a2) := by
  unfold execNetmapDataWrite
  exact keepsO_next (State.access_keeps (ss hM rfl) ha2 (fun y0 h1 => doNetmapDataWrite_keeps (ss hM rfl) h1))

theorem execNetmapDataRead_keeps {M : Nat} {s0 : State} {a0 a1} (hM : 2252899660857345 &&& M = 2252899660857345) (ha1
    : Keeps M s0 a1) : KeepsO M s0 (execNetmapDataRead a0 a1) := by
  unfold execNetmapDataRead
  exact keepsO_next (State.access_keeps (ss hM rfl) ha1 (fun y0 h1 => doNetmapDataRead_keeps (ss hM rfl) h1))

theorem execLoad_keeps {M : Nat} {s0 : State} {a0 a1} (hM : 54061887584731153 &&& M = 54061887584731153) (ha1 : Keeps
    M s0 a1) : KeepsO M s0 (execLoad a0 a1) := by
  unfold execLoad
  exact keepsO_next (State.access_keeps (ss hM rfl) ha1 (fun y0 h1 => doLoad_keeps (ss hM rfl) h1))

theorem execLoadGolden_keeps {M : Nat} {s0 : State} {a0 a1} (hM : 54061887584731153 &&& M = 54061887584731153) (ha1 :
    Keeps M s0 a1) : KeepsO M s0 (execLoadGolden a0 a1) := by
  unfold execLoadGolden
  exact keepsO_next (State.access_keeps (ss hM rfl) ha1 (fun y0 h1 => doLoadGolden_keeps (ss hM rfl) h1))

theorem execClear_keeps {M : Nat} {s0 : State} {a0 a1} (hM : 54061887582633985 &&& M = 54061887582633985) (ha1 :
    Keeps M s0 a1) : KeepsO M s0 (execClear a0 a1) := by
  unfold execClear
  exact keepsO_next (State.access_keeps (ss hM rfl) ha1 (fun y0 h1 => doClear_keeps (ss hM rfl) h1))

theorem execStream_keeps {M : Nat} {s0 : State} {a0 a1} (hM : 54061887582633985 &&& M = 54061887582633985) (ha1 :
    Keeps M s0 a1) : KeepsO M s0 (execStream a0 a1) := by
  unfold execStream
  exact keepsO_next (State.access_keeps (ss hM rfl) ha1 (fun y0 h1 => doStream_keeps (ss hM rfl) h1))

theorem execRegionWrite_keeps {M : Nat} {s0 : State} {a0 a1 a2 a3} (hM : 18015498356654081 &&& M = 18015498356654081)
    (ha3 : Keeps M s0 a3) : KeepsO M s0 (execRegionWrite a0 a1 a2 a3) := by
  unfold execRegionWrite
  exact keepsO_next (State.access_keeps (ss hM rfl) ha3 (fun y0 h1 => doRegionWrite_keeps (ss hM rfl) h1))

theorem execCoreReset_keeps {M : Nat} {s0 : State} {a0 a1 a2 a3} (hM : 2882779857920466961 &&& M =
    2882779857920466961) (ha3 : Keeps M s0 a3) : KeepsO M s0 (execCoreReset a0 a1 a2 a3) := by
  unfold execCoreReset
  exact keepsO_next (State.access_keeps (ss hM rfl) ha3 (fun y0 h1 => doCoreReset_keeps (ss hM rfl) h1))

theorem execCoreResetRelease_keeps {M : Nat} {s0 : State} {a0 a1 a2 a3} (hM : 2882779857920466961 &&& M =
    2882779857920466961) (ha3 : Keeps M s0 a3) : KeepsO M s0 (execCoreResetRelease a0 a1 a2 a3) := by
  unfold execCoreResetRelease
  exact keepsO_next (State.access_keeps (ss hM rfl) ha3 (fun y0 h1 => doCoreResetRelease_keeps (ss hM rfl) h1))

theorem execWdtKick_keeps {M : Nat} {s0 : State} {a0 a1 a2 a3} (hM : 576461853224337409 &&& M = 576461853224337409)
    (ha3 : Keeps M s0 a3) : KeepsO M s0 (execWdtKick a0 a1 a2 a3) := by
  unfold execWdtKick
  exact keepsO_next (State.access_keeps (ss hM rfl) ha3 (fun y0 h1 => doWdtKick_keeps (ss hM rfl) h1))

theorem execGetInfo_keeps {M : Nat} {s0 : State} {a0 a1 a2} (hM : 9896477065217 &&& M = 9896477065217) (ha2 : Keeps M
    s0 a2) : KeepsO M s0 (execGetInfo a0 a1 a2) := by
  unfold execGetInfo
  exact keepsO_next (State.access_keeps (ss hM rfl) ha2 (fun y0 h1 => doGetInfo_keeps (ss hM rfl) h1))

theorem execEcho_keeps {M : Nat} {s0 : State} {a0 a1 a2} (hM : 9896477065217 &&& M = 9896477065217) (ha2 : Keeps M s0
    a2) : KeepsO M s0 (execEcho a0 a1 a2) := by
  unfold execEcho
  exact keepsO_next (State.access_keeps (ss hM rfl) ha2 (fun y0 h1 => doEcho_keeps (ss hM rfl) h1))

theorem execLoadImage_keeps {M : Nat} {s0 : State} {a0 a1 a2} (hM : 9896477066241 &&& M = 9896477066241) (ha2 : Keeps
    M s0 a2) : KeepsO M s0 (execLoadImage a0 a1 a2) := by
  unfold execLoadImage
  exact keepsO_next (State.access_keeps (ss hM rfl) ha2 (fun y0 h1 => doLoadImage_keeps (ss hM rfl) h1))

theorem execBlockEnable_keeps {M : Nat} {s0 : State} {a0 a1 a2} (hM : 2305857312327204865 &&& M =
    2305857312327204865) (ha2 : Keeps M s0 a2) : KeepsO M s0 (execBlockEnable a0 a1 a2) := by
  unfold execBlockEnable
  exact keepsO_next (State.access_keeps (ss hM rfl) ha2 (fun y0 h1 => doBlockEnable_keeps (ss hM rfl) h1))

theorem execBlockDisable_keeps {M : Nat} {s0 : State} {a0 a1 a2} (hM : 14303113510913 &&& M = 14303113510913) (ha2 :
    Keeps M s0 a2) : KeepsO M s0 (execBlockDisable a0 a1 a2) := by
  unfold execBlockDisable
  exact keepsO_next (State.access_keeps (ss hM rfl) ha2 (fun y0 h1 => doBlockDisable_keeps (ss hM rfl) h1))

theorem execFwStart_keeps {M : Nat} {s0 : State} {a0 a1 a2} (hM : 27488679886849 &&& M = 27488679886849) (ha2 : Keeps
    M s0 a2) : KeepsO M s0 (execFwStart a0 a1 a2) := by
  unfold execFwStart
  exact keepsO_next (State.access_keeps (ss hM rfl) ha2 (fun y0 h1 => doFwStart_keeps (ss hM rfl) h1))

theorem execFwLoadDbg_keeps {M : Nat} {s0 : State} {a0 a1 a2} (hM : 9896477065233 &&& M = 9896477065233) (ha2 : Keeps
    M s0 a2) : KeepsO M s0 (execFwLoadDbg a0 a1 a2) := by
  unfold execFwLoadDbg
  exact keepsO_next (State.access_keeps (ss hM rfl) ha2 (fun y0 h1 => doFwLoadDbg_keeps (ss hM rfl) h1))

theorem execSetStepFreq_keeps {M : Nat} {s0 : State} {a0 a1 a2} (hM : 14294523576321 &&& M = 14294523576321) (ha2 :
    Keeps M s0 a2) : KeepsO M s0 (execSetStepFreq a0 a1 a2) := by
  unfold execSetStepFreq
  exact keepsO_next (State.access_keeps (ss hM rfl) ha2 (fun y0 h1 => doSetStepFreq_keeps (ss hM rfl) h1))

theorem execFwLoad_keeps {M : Nat} {s0 : State} {a0 a1 a2 a3 a4} (hM : 9896477065233 &&& M = 9896477065233) (ha4 :
    Keeps M s0 a4) : KeepsO M s0 (execFwLoad a0 a1 a2 a3 a4) := by
  unfold execFwLoad
  exact keepsO_next (State.access_keeps (ss hM rfl) ha4 (fun y0 h1 => doFwLoad_keeps (ss hM rfl) h1))

theorem execIrqTargetWrite_keeps {M : Nat} {s0 : State} {a0 a1 a2 a3} (hM : 141837335527425 &&& M = 141837335527425)
    (ha3 : Keeps M s0 a3) : KeepsO M s0 (execIrqTargetWrite a0 a1 a2 a3) := by
  unfold execIrqTargetWrite
  exact keepsO_next (State.access_keeps (ss hM rfl) ha3 (fun y0 h1 => doIrqTargetWrite_keeps (ss hM rfl) h1))

theorem execIrqEoi_keeps {M : Nat} {s0 : State} {a0 a1 a2} (hM : 168226302459905 &&& M = 168226302459905) (ha2 :
    Keeps M s0 a2) : KeepsO M s0 (execIrqEoi a0 a1 a2) := by
  unfold execIrqEoi
  exact keepsO_next (State.access_keeps (ss hM rfl) ha2 (fun y0 h1 => doIrqEoi_keeps (ss hM rfl) h1))

theorem execIrqSwset_keeps {M : Nat} {s0 : State} {a0 a1 a2 a3} (hM : 141837335527425 &&& M = 141837335527425) (ha3 :
    Keeps M s0 a3) : KeepsO M s0 (execIrqSwset a0 a1 a2 a3) := by
  unfold execIrqSwset
  exact keepsO_next (State.access_keeps (ss hM rfl) ha3 (fun y0 h1 => doIrqSwset_keeps (ss hM rfl) h1))

theorem execIrqSwclr_keeps {M : Nat} {s0 : State} {a0 a1 a2 a3} (hM : 141837335527425 &&& M = 141837335527425) (ha3 :
    Keeps M s0 a3) : KeepsO M s0 (execIrqSwclr a0 a1 a2 a3) := by
  unfold execIrqSwclr
  exact keepsO_next (State.access_keeps (ss hM rfl) ha3 (fun y0 h1 => doIrqSwclr_keeps (ss hM rfl) h1))

theorem execPostWordWrite_keeps {M : Nat} {s0 : State} {a0 a1 a2 a3} (hM : 4611684923563063315 &&& M =
    4611684923563063315) (ha3 : Keeps M s0 a3) : KeepsO M s0 (execPostWordWrite a0 a1 a2 a3) := by
  unfold execPostWordWrite
  exact keepsO_next (State.access_keeps (ss hM rfl) ha3 (fun y0 h1 => doPostWordWrite_keeps (ss hM rfl) h1))

theorem execPostCommit_keeps {M : Nat} {s0 : State} {a0 a1 a2} (hM : 4611684923563063315 &&& M = 4611684923563063315)
    (ha2 : Keeps M s0 a2) : KeepsO M s0 (execPostCommit a0 a1 a2) := by
  unfold execPostCommit
  exact keepsO_next (State.access_keeps (ss hM rfl) ha2 (fun y0 h1 => doPostCommit_keeps (ss hM rfl) h1))

theorem execHmsTake_keeps {M : Nat} {s0 : State} {a0 a1} (hM : 4611684923563063315 &&& M = 4611684923563063315) (ha1
    : Keeps M s0 a1) : KeepsO M s0 (execHmsTake a0 a1) := by
  unfold execHmsTake
  exact keepsO_next (State.access_keeps (ss hM rfl) ha1 (fun y0 h1 => doHmsTake_keeps (ss hM rfl) h1))

theorem execHmsDone_keeps {M : Nat} {s0 : State} {a0 a1 a2} (hM : 4611684923563063315 &&& M = 4611684923563063315)
    (ha2 : Keeps M s0 a2) : KeepsO M s0 (execHmsDone a0 a1 a2) := by
  unfold execHmsDone
  exact keepsO_next (State.access_keeps (ss hM rfl) ha2 (fun y0 h1 => doHmsDone_keeps (ss hM rfl) h1))

theorem execHmsFail_keeps {M : Nat} {s0 : State} {a0 a1 a2} (hM : 4611684923563063315 &&& M = 4611684923563063315)
    (ha2 : Keeps M s0 a2) : KeepsO M s0 (execHmsFail a0 a1 a2) := by
  unfold execHmsFail
  exact keepsO_next (State.access_keeps (ss hM rfl) ha2 (fun y0 h1 => doHmsFail_keeps (ss hM rfl) h1))

theorem execHmsCancel_keeps {M : Nat} {s0 : State} {a0 a1 a2} (hM : 4611684923563063315 &&& M = 4611684923563063315)
    (ha2 : Keeps M s0 a2) : KeepsO M s0 (execHmsCancel a0 a1 a2) := by
  unfold execHmsCancel
  exact keepsO_next (State.access_keeps (ss hM rfl) ha2 (fun y0 h1 => doHmsCancel_keeps (ss hM rfl) h1))

theorem execArm_keeps {M : Nat} {s0 : State} {a0 a1 a2} (hM : 1152922604454084609 &&& M = 1152922604454084609) (ha2 :
    Keeps M s0 a2) : KeepsO M s0 (execArm a0 a1 a2) := by
  unfold execArm
  exact keepsO_next (State.access_keeps (ss hM rfl) ha2 (fun y0 h1 => doArm_keeps (ss hM rfl) h1))

theorem execAcqStop_keeps {M : Nat} {s0 : State} {a0 a1 a2} (hM : 1152922604454084609 &&& M = 1152922604454084609)
    (ha2 : Keeps M s0 a2) : KeepsO M s0 (execAcqStop a0 a1 a2) := by
  unfold execAcqStop
  exact keepsO_next (State.access_keeps (ss hM rfl) ha2 (fun y0 h1 => doAcqStop_keeps (ss hM rfl) h1))

theorem execForce_keeps {M : Nat} {s0 : State} {a0 a1 a2} (hM : 1099847237633 &&& M = 1099847237633) (ha2 : Keeps M
    s0 a2) : KeepsO M s0 (execForce a0 a1 a2) := by
  unfold execForce
  exact keepsO_next (State.access_keeps (ss hM rfl) ha2 (fun y0 h1 => doForce_keeps (ss hM rfl) h1))

theorem execRdIndexWrite_keeps {M : Nat} {s0 : State} {a0 a1 a2 a3} (hM : 1152922604454019073 &&& M =
    1152922604454019073) (ha3 : Keeps M s0 a3) : KeepsO M s0 (execRdIndexWrite a0 a1 a2 a3) := by
  unfold execRdIndexWrite
  exact keepsO_next (State.access_keeps (ss hM rfl) ha3 (fun y0 h1 => doRdIndexWrite_keeps (ss hM rfl) h1))

theorem execRdDataRead_keeps {M : Nat} {s0 : State} {a0 a1 a2 a3 a4} (hM : 297256267456460819 &&& M =
    297256267456460819) (ha4 : Keeps M s0 a4) : KeepsO M s0 (execRdDataRead a0 a1 a2 a3 a4) := by
  unfold execRdDataRead
  exact keepsO_next (State.access_keeps (ss hM rfl) ha4 (fun y0 h1 => doRdDataRead_keeps (ss hM rfl) h1))

theorem execOffset_keeps {M : Nat} {s0 : State} {a0 a1} (hM : 144696830079271941 &&& M = 144696830079271941) (ha1 :
    Keeps M s0 a1) : KeepsO M s0 (execOffset a0 a1) := by
  unfold execOffset
  exact keepsO_next (State.access_keeps (ss hM rfl) ha1 (fun y0 h1 => doOffset_keeps (ss hM rfl) h1))

theorem execUnlock_keeps {M : Nat} {s0 : State} {a0 a1} (hM : 581642003415045 &&& M = 581642003415045) (ha1 : Keeps M
    s0 a1) : KeepsO M s0 (execUnlock a0 a1) := by
  unfold execUnlock
  exact keepsO_next (State.access_keeps (ss hM rfl) ha1 (fun y0 h1 => doUnlock_keeps (ss hM rfl) h1))

theorem execSet_keeps {M : Nat} {s0 : State} {a0 a1} (hM : 581642003416069 &&& M = 581642003416069) (ha1 : Keeps M s0
    a1) : KeepsO M s0 (execSet a0 a1) := by
  unfold execSet
  exact keepsO_next (State.access_keeps (ss hM rfl) ha1 (fun y0 h1 => doSet_keeps (ss hM rfl) h1))

theorem execRateWrite_keeps {M : Nat} {s0 : State} {a0 a1 a2} (hM : 564049800593409 &&& M = 564049800593409) (ha2 :
    Keeps M s0 a2) : KeepsO M s0 (execRateWrite a0 a1 a2) := by
  unfold execRateWrite
  exact keepsO_next (State.access_keeps (ss hM rfl) ha2 (fun y0 h1 => doRateWrite_keeps (ss hM rfl) h1))

theorem execEthTxKick_keeps {M : Nat} {s0 : State} {a0 a1 a2 a3} (hM : 1099847172105 &&& M = 1099847172105) (ha3 :
    Keeps M s0 a3) : KeepsO M s0 (execEthTxKick a0 a1 a2 a3) := by
  unfold execEthTxKick
  exact keepsO_next (State.access_keeps (ss hM rfl) ha3 (fun y0 h1 => doEthTxKick_keeps (ss hM rfl) h1))

theorem execMsixUnmask_keeps {M : Nat} {s0 : State} {a0 a1 a2} (hM : 1099847172097 &&& M = 1099847172097) (ha2 :
    Keeps M s0 a2) : KeepsO M s0 (execMsixUnmask a0 a1 a2) := by
  unfold execMsixUnmask
  exact keepsO_next (State.access_keeps (ss hM rfl) ha2 (fun y0 h1 => doMsixUnmask_keeps (ss hM rfl) h1))

theorem execSystemReset_keeps {M : Nat} {s0 : State} {a0 a1} (hM : 4611685984059260927 &&& M = 4611685984059260927)
    (ha1 : Keeps M s0 a1) : KeepsO M s0 (execSystemReset a0 a1) := by
  unfold execSystemReset
  exact keepsO_next (State.access_keeps (ss hM rfl) ha1 (fun y0 h1 => doResetCommand_keeps (ss hM rfl) h1))

theorem execControlReset_keeps {M : Nat} {s0 : State} {a0 a1} (hM : 4611685984059260927 &&& M = 4611685984059260927)
    (ha1 : Keeps M s0 a1) : KeepsO M s0 (execControlReset a0 a1) := by
  unfold execControlReset
  exact keepsO_next (State.access_keeps (ss hM rfl) ha1 (fun y0 h1 => doResetCommand_keeps (ss hM rfl) h1))

theorem execRevive_keeps {M : Nat} {s0 : State} {a0 a1 a2} (hM : 2305844109060866049 &&& M = 2305844109060866049)
    (ha2 : Keeps M s0 a2) : KeepsO M s0 (execRevive a0 a1 a2) := by
  unfold execRevive
  exact keepsO_next (State.access_keeps (ss hM rfl) ha2 (fun y0 h1 => doRevive_keeps (ss hM rfl) h1))

theorem execGrantWrite_keeps {M : Nat} {s0 : State} {a0 a1 a2} (hM : 36284219260929 &&& M = 36284219260929) (ha2 :
    Keeps M s0 a2) : KeepsO M s0 (execGrantWrite a0 a1 a2) := by
  unfold execGrantWrite
  exact keepsO_next (State.access_keeps (ss hM rfl) ha2 (fun y0 h1 => doGrantWrite_keeps (ss hM rfl) h1))

theorem execUnlockSubmit_keeps {M : Nat} {s0 : State} {a0 a1} (hM : 36284219260929 &&& M = 36284219260929) (ha1 :
    Keeps M s0 a1) : KeepsO M s0 (execUnlockSubmit a0 a1) := by
  unfold execUnlockSubmit
  exact keepsO_next (State.access_keeps (ss hM rfl) ha1 (fun y0 h1 => doUnlockSubmit_keeps (ss hM rfl) h1))

theorem execWindowRead_keeps {M : Nat} {s0 : State} {a0 a1 a2 a3} (hM : 2305879362152431617 &&& M =
    2305879362152431617) (ha3 : Keeps M s0 a3) : KeepsO M s0 (execWindowRead a0 a1 a2 a3) := by
  unfold execWindowRead
  exact keepsO_next (State.access_keeps (ss hM rfl) ha3 (fun y0 h1 => doWindowRead_keeps (ss hM rfl) h1))

theorem execWindowWrite_keeps {M : Nat} {s0 : State} {a0 a1 a2 a3} (hM : 2305879362152431617 &&& M =
    2305879362152431617) (ha3 : Keeps M s0 a3) : KeepsO M s0 (execWindowWrite a0 a1 a2 a3) := by
  unfold execWindowWrite
  exact keepsO_next (State.access_keeps (ss hM rfl) ha3 (fun y0 h1 => doWindowWrite_keeps (ss hM rfl) h1))

theorem execStealRead_keeps {M : Nat} {s0 : State} {a0 a1 a2 a3 a4} (hM : 288284325051381777 &&& M =
    288284325051381777) (ha4 : Keeps M s0 a4) : KeepsO M s0 (execStealRead a0 a1 a2 a3 a4) := by
  unfold execStealRead
  exact keepsO_next (State.access_keeps (ss hM rfl) ha4 (fun y0 h1 => doStealRead_keeps (ss hM rfl) h1))

theorem execStealWrite_keeps {M : Nat} {s0 : State} {a0 a1 a2 a3 a4} (hM : 288284325051381777 &&& M =
    288284325051381777) (ha4 : Keeps M s0 a4) : KeepsO M s0 (execStealWrite a0 a1 a2 a3 a4) := by
  unfold execStealWrite
  exact keepsO_next (State.access_keeps (ss hM rfl) ha4 (fun y0 h1 => doStealWrite_keeps (ss hM rfl) h1))

theorem execFwFifoWrite_keeps {M : Nat} {s0 : State} {a0 a1 a2} (hM : 1100384043025 &&& M = 1100384043025) (ha2 :
    Keeps M s0 a2) : KeepsO M s0 (execFwFifoWrite a0 a1 a2) := by
  unfold execFwFifoWrite
  exact keepsO_next (State.access_keeps (ss hM rfl) ha2 (fun y0 h1 => doFwFifoWrite_keeps (ss hM rfl) h1))

theorem execCoreHalt_keeps {M : Nat} {s0 : State} {a0 a1 a2} (hM : 36285293002753 &&& M = 36285293002753) (ha2 :
    Keeps M s0 a2) : KeepsO M s0 (execCoreHalt a0 a1 a2) := by
  unfold execCoreHalt
  exact keepsO_next (State.access_keeps (ss hM rfl) ha2 (fun y0 h1 => doCoreHalt_keeps (ss hM rfl) h1))

theorem execCoreResume_keeps {M : Nat} {s0 : State} {a0 a1 a2} (hM : 576497037596426241 &&& M = 576497037596426241)
    (ha2 : Keeps M s0 a2) : KeepsO M s0 (execCoreResume a0 a1 a2) := by
  unfold execCoreResume
  exact keepsO_next (State.access_keeps (ss hM rfl) ha2 (fun y0 h1 => doCoreResume_keeps (ss hM rfl) h1))

theorem execCoreStep_keeps {M : Nat} {s0 : State} {a0 a1 a2} (hM : 576497037596426241 &&& M = 576497037596426241)
    (ha2 : Keeps M s0 a2) : KeepsO M s0 (execCoreStep a0 a1 a2) := by
  unfold execCoreStep
  exact keepsO_next (State.access_keeps (ss hM rfl) ha2 (fun y0 h1 => doCoreStep_keeps (ss hM rfl) h1))

theorem execCoreRegisterWrite_keeps {M : Nat} {s0 : State} {a0 a1 a2 a3} (hM : 1100920913923 &&& M = 1100920913923)
    (ha3 : Keeps M s0 a3) : KeepsO M s0 (execCoreRegisterWrite a0 a1 a2 a3) := by
  unfold execCoreRegisterWrite
  exact keepsO_next (State.access_keeps (ss hM rfl) ha3 (fun y0 h1 => doCoreRegisterWrite_keeps (ss hM rfl) h1))

theorem execVtTxRead_keeps {M : Nat} {s0 : State} {a0 a1 a2} (hM : 36285293002753 &&& M = 36285293002753) (ha2 :
    Keeps M s0 a2) : KeepsO M s0 (execVtTxRead a0 a1 a2) := by
  unfold execVtTxRead
  exact keepsO_next (State.access_keeps (ss hM rfl) ha2 (fun y0 h1 => doVtTxRead_keeps (ss hM rfl) h1))

theorem execVtRxWrite_keeps {M : Nat} {s0 : State} {a0 a1 a2 a3} (hM : 4611684920325046273 &&& M =
    4611684920325046273) (ha3 : Keeps M s0 a3) : KeepsO M s0 (execVtRxWrite a0 a1 a2 a3) := by
  unfold execVtRxWrite
  exact keepsO_next (State.access_keeps (ss hM rfl) ha3 (fun y0 h1 => State.writeDbgCore_keeps (ss hM rfl) h1))

theorem execTraceEnable_keeps {M : Nat} {s0 : State} {a0 a1 a2} (hM : 71744542998529 &&& M = 71744542998529) (ha2 :
    Keeps M s0 a2) : KeepsO M s0 (execTraceEnable a0 a1 a2) := by
  unfold execTraceEnable
  exact keepsO_next (State.access_keeps (ss hM rfl) ha2 (fun y0 h1 => doTraceEnable_keeps (ss hM rfl) h1))

theorem execTraceBufferRead_keeps {M : Nat} {s0 : State} {a0 a1} (hM : 1374725079041 &&& M = 1374725079041) (ha1 :
    Keeps M s0 a1) : KeepsO M s0 (execTraceBufferRead a0 a1) := by
  unfold execTraceBufferRead
  exact keepsO_next (State.access_keeps (ss hM rfl) ha1 (fun y0 h1 => doTraceBufferRead_keeps (ss hM rfl) h1))

theorem execEmulationHalt_keeps {M : Nat} {s0 : State} {a0 a1} (hM : 434633855493735425 &&& M = 434633855493735425)
    (ha1 : Keeps M s0 a1) : KeepsO M s0 (execEmulationHalt a0 a1) := by
  unfold execEmulationHalt
  refine keepsO_next ?_
  split
  · exact State.access_keeps (ss hM rfl) ha1 (fun y0 h1 => doEmulationHalt_keeps (ss hM rfl) h1)
  · exact doEmulationHalt_keeps (ss hM rfl) ha1

theorem execEmulationRelease_keeps {M : Nat} {s0 : State} {a0 a1} (hM : 1008842807983473665 &&& M =
    1008842807983473665) (ha1 : Keeps M s0 a1) : KeepsO M s0 (execEmulationRelease a0 a1) := by
  unfold execEmulationRelease
  refine keepsO_next ?_
  split
  · exact State.access_keeps (ss hM rfl) ha1 (fun y0 h1 => doEmulationRelease_keeps (ss hM rfl) h1)
  · exact doEmulationRelease_keeps (ss hM rfl) ha1

theorem execVtTxWrite_keeps {M : Nat} {s0 : State} {a0 a1 a2} (hM : 4611684920325046273 &&& M = 4611684920325046273)
    (ha2 : Keeps M s0 a2) : KeepsO M s0 (execVtTxWrite a0 a1 a2) := by
  unfold execVtTxWrite
  exact keepsO_next (State.access_keeps (ss hM rfl) ha2 (fun y0 h1 => State.writeDbgCore_keeps (ss hM rfl) h1))

theorem execVtRxRead_keeps {M : Nat} {s0 : State} {a0 a1} (hM : 36285293002753 &&& M = 36285293002753) (ha1 : Keeps M
    s0 a1) : KeepsO M s0 (execVtRxRead a0 a1) := by
  unfold execVtRxRead
  exact keepsO_next (State.access_keeps (ss hM rfl) ha1 (fun y0 h1 => State.vtRxRead_keeps (ss hM rfl) h1))

theorem execNoteWrite_keeps {M : Nat} {s0 : State} {a0 a1 a2 a3} (hM : 1100920913921 &&& M = 1100920913921) (ha3 :
    Keeps M s0 a3) : KeepsO M s0 (execNoteWrite a0 a1 a2 a3) := by
  unfold execNoteWrite
  exact keepsO_next (State.access_keeps (ss hM rfl) ha3 (fun y0 h1 => State.respond_keeps (ss hM rfl)
      (doNoteWrite_keeps (ss hM rfl) h1)))

end Sys2Proof.Machine
end

