-- ==== Sys2Proof/Laws/Keeps7.lean ====
section
/-! SUPPORT. Laws/Keeps7.lean: what the operations of Machine/Dispatch.lean, Machine/Tick.lean, Machine/Step.lean
keep of a state. -/

namespace Sys2Proof.Machine
set_option Elab.async false
open Sys2Proof

/-! ## Machine/Dispatch.lean -/

theorem exec_keeps {M : Nat} {s0 : State} {a0 a1} (hM : 4611686018427387903 &&& M = 4611686018427387903) (ha1 : Keeps
    M s0 a1) : KeepsO M s0 (exec a0 a1) := by
  unfold exec
  split
  · exact execRegisterWrite_keeps (ss hM rfl) ha1
  · exact execSelectWrite_keeps (ss hM rfl) ha1
  · exact execWideWordStage_keeps (ss hM rfl) ha1
  · exact execWideWordApply_keeps (ss hM rfl) ha1
  · exact execWideWordCapture_keeps (ss hM rfl) ha1
  · exact execPairLoRead_keeps (ss hM rfl) ha1
  · exact execClearingRead_keeps (ss hM rfl) ha1
  · exact execNocRequest_keeps (ss hM rfl) ha1
  · exact execNocResponse_keeps (ss hM rfl) ha1
  · exact execQuayDead_keeps (ss hM rfl) ha1
  · exact execRevive_keeps (ss hM rfl) ha1
  · exact execStep_keeps (ss hM rfl) ha1
  · exact execCycleRelease_keeps (ss hM rfl) ha1
  · exact execTimerInstant_keeps (ss hM rfl) ha1
  · exact execReleaseLineEdge_keeps (ss hM rfl) ha1
  · exact execCycleBoundary_keeps (ss hM rfl) ha1
  · exact execFarTransferComplete_keeps (ss hM rfl) ha1
  · exact execLoadBegin_keeps (ss hM rfl) ha1
  · exact execLoadEnd_keeps (ss hM rfl) ha1
  · exact execStart_keeps (ss hM rfl) ha1
  · exact execStop_keeps (ss hM rfl) ha1
  · exact execSingle_keeps (ss hM rfl) ha1
  · exact execResume_keeps (ss hM rfl) ha1
  · exact execUnload_keeps (ss hM rfl) ha1
  · exact execBunchesWrite_keeps (ss hM rfl) ha1
  · exact execExchWrite_keeps (ss hM rfl) ha1
  · exact execIsolateWrite_keeps (ss hM rfl) ha1
  · exact execBunchUngateDone_keeps (ss hM rfl) ha1
  · exact execInstructionWordWrite_keeps (ss hM rfl) ha1
  · exact execBerryRemapWrite_keeps (ss hM rfl) ha1
  · exact execBunchRemapWrite_keeps (ss hM rfl) ha1
  · exact execSpareFailure_keeps (ss hM rfl) ha1
  · exact execBankNocAccess_keeps (ss hM rfl) ha1
  · exact execEccWriteback_keeps (ss hM rfl) ha1
  · exact execBerthWrite_keeps (ss hM rfl) ha1
  · exact execHandoverComplete_keeps (ss hM rfl) ha1
  · exact execTesterOperation_keeps (ss hM rfl) ha1
  · exact execRepairEntryWrite_keeps (ss hM rfl) ha1
  · exact execJournalWrite_keeps (ss hM rfl) ha1
  · exact execJournalRestore_keeps (ss hM rfl) ha1
  · exact execRestoreDone_keeps (ss hM rfl) ha1
  · exact execIsWriteback_keeps (ss hM rfl) ha1
  · exact execIsScrubRead_keeps (ss hM rfl) ha1
  · exact execRefetchComplete_keeps (ss hM rfl) ha1
  · exact execBerryRemapDone_keeps (ss hM rfl) ha1
  · exact execSsScrubRead_keeps (ss hM rfl) ha1
  · exact execJoin_keeps (ss hM rfl) ha1
  · exact execRejoinPhaseEnd_keeps (ss hM rfl) ha1
  · exact execCheck_keeps (ss hM rfl) ha1
  · exact execVddCoreWarning_keeps (ss hM rfl) ha1
  · exact execVddCoreRecovery_keeps (ss hM rfl) ha1
  · exact execDipWindowExpiry_keeps (ss hM rfl) ha1
  · exact execRetentionCheckDone_keeps (ss hM rfl) ha1
  · exact execLogbookWrite_keeps (ss hM rfl) ha1
  · exact execLogbookScanDone_keeps (ss hM rfl) ha1
  · exact execLogUserCmd_keeps (ss hM rfl) ha1
  · exact execPortEnable_keeps (ss hM rfl) ha1
  · exact execPortDisable_keeps (ss hM rfl) ha1
  · exact execBringupStageDone_keeps (ss hM rfl) ha1
  · exact execBringupTimeout_keeps (ss hM rfl) ha1
  · exact execTrain_keeps (ss hM rfl) ha1
  · exact execLaneMark_keeps (ss hM rfl) ha1
  · exact execBlockLockLoss_keeps (ss hM rfl) ha1
  · exact execRetrainDone_keeps (ss hM rfl) ha1
  · exact execRetrainTimeout_keeps (ss hM rfl) ha1
  · exact execLanePowerRequest_keeps (ss hM rfl) ha1
  · exact execQuiet_keeps (ss hM rfl) ha1
  · exact execCold_keeps (ss hM rfl) ha1
  · exact execWakeBurst_keeps (ss hM rfl) ha1
  · exact execCascadeFrameSend_keeps (ss hM rfl) ha1
  · exact execCascadeFrameReceive_keeps (ss hM rfl) ha1
  · exact execLinkStatus_keeps (ss hM rfl) ha1
  · exact execNak_keeps (ss hM rfl) ha1
  · exact execReplay_keeps (ss hM rfl) ha1
  · exact execOrderArrival_keeps (ss hM rfl) ha1
  · exact execStartOrder_keeps (ss hM rfl) ha1
  · exact execReleaseOrder_keeps (ss hM rfl) ha1
  · exact execResumeOrder_keeps (ss hM rfl) ha1
  · exact execStopOrder_keeps (ss hM rfl) ha1
  · exact execHaltOrder_keeps (ss hM rfl) ha1
  · exact execUnhaltOrder_keeps (ss hM rfl) ha1
  · exact execStepfreqOrder_keeps (ss hM rfl) ha1
  · exact execTagFaultReport_keeps (ss hM rfl) ha1
  · exact execStopReqReport_keeps (ss hM rfl) ha1
  · exact execHaltReqReport_keeps (ss hM rfl) ha1
  · exact execThrottleReqReport_keeps (ss hM rfl) ha1
  · exact execFaultReport_keeps (ss hM rfl) ha1
  · exact execHoldSlotCheck_keeps (ss hM rfl) ha1
  · exact execHoldBegin_keeps (ss hM rfl) ha1
  · exact execStartIssue_keeps (ss hM rfl) ha1
  · exact execPeriodRelease_keeps (ss hM rfl) ha1
  · exact execCasStop_keeps (ss hM rfl) ha1
  · exact execDoneFall_keeps (ss hM rfl) ha1
  · exact execNetmapDataWrite_keeps (ss hM rfl) ha1
  · exact execNetmapDataRead_keeps (ss hM rfl) ha1
  · exact execLoad_keeps (ss hM rfl) ha1
  · exact execLoadGolden_keeps (ss hM rfl) ha1
  · exact execClear_keeps (ss hM rfl) ha1
  · exact execStream_keeps (ss hM rfl) ha1
  · exact execStreamFetch_keeps (ss hM rfl) ha1
  · exact execStreamMarker_keeps (ss hM rfl) ha1
  · exact execNopRecord_keeps (ss hM rfl) ha1
  · exact execSetDevice_keeps (ss hM rfl) ha1
  · exact execSetGclkA_keeps (ss hM rfl) ha1
  · exact execSetGclkB_keeps (ss hM rfl) ha1
  · exact execSetBankv_keeps (ss hM rfl) ha1
  · exact execSetRegion_keeps (ss hM rfl) ha1
  · exact execSetFpll0_keeps (ss hM rfl) ha1
  · exact execSetFpll1_keeps (ss hM rfl) ha1
  · exact execFrames_keeps (ss hM rfl) ha1
  · exact execFrameEntry_keeps (ss hM rfl) ha1
  · exact execReadRecord_keeps (ss hM rfl) ha1
  · exact execCheckRecord_keeps (ss hM rfl) ha1
  · exact execActionNone_keeps (ss hM rfl) ha1
  · exact execCheckReset_keeps (ss hM rfl) ha1
  · exact execLaunch_keeps (ss hM rfl) ha1
  · exact execEndStream_keeps (ss hM rfl) ha1
  · exact execQuiesce_keeps (ss hM rfl) ha1
  · exact execFrameClearDone_keeps (ss hM rfl) ha1
  · exact execStartupPhase_keeps (ss hM rfl) ha1
  · exact execStartupPllTimeout_keeps (ss hM rfl) ha1
  · exact execDoneTimeout_keeps (ss hM rfl) ha1
  · exact execReleaseBlankEnd_keeps (ss hM rfl) ha1
  · exact execCpWord_keeps (ss hM rfl) ha1
  · exact execRegionWrite_keeps (ss hM rfl) ha1
  · exact execRegionStreamTimeout_keeps (ss hM rfl) ha1
  · exact execScrubFrameRead_keeps (ss hM rfl) ha1
  · exact execFrameRefetch_keeps (ss hM rfl) ha1
  · exact execScrubHeartbeatTimeout_keeps (ss hM rfl) ha1
  · exact execScrubSettingsFault_keeps (ss hM rfl) ha1
  · exact execFrameWindowRead_keeps (ss hM rfl) ha1
  · exact execGclkLost_keeps (ss hM rfl) ha1
  · exact execFabricPllUnlock_keeps (ss hM rfl) ha1
  · exact execBankVoltageChange_keeps (ss hM rfl) ha1
  · exact execNop_keeps (ss hM rfl) ha1
  · exact execVadd_keeps (ss hM rfl) ha1
  · exact execVsub_keeps (ss hM rfl) ha1
  · exact execVadds_keeps (ss hM rfl) ha1
  · exact execVsubs_keeps (ss hM rfl) ha1
  · exact execVand_keeps (ss hM rfl) ha1
  · exact execVor_keeps (ss hM rfl) ha1
  · exact execVxor_keeps (ss hM rfl) ha1
  · exact execVshl_keeps (ss hM rfl) ha1
  · exact execVshra_keeps (ss hM rfl) ha1
  · exact execVshrl_keeps (ss hM rfl) ha1
  · exact execVcmp_keeps (ss hM rfl) ha1
  · exact execVmin_keeps (ss hM rfl) ha1
  · exact execVmax_keeps (ss hM rfl) ha1
  · exact execVbcast_keeps (ss hM rfl) ha1
  · exact execMovi_keeps (ss hM rfl) ha1
  · exact execMac_keeps (ss hM rfl) ha1
  · exact execMsu_keeps (ss hM rfl) ha1
  · exact execMpy_keeps (ss hM rfl) ha1
  · exact execMova_keeps (ss hM rfl) ha1
  · exact execMovd_keeps (ss hM rfl) ha1
  · exact execAclr_keeps (ss hM rfl) ha1
  · exact execLd_keeps (ss hM rfl) ha1
  · exact execSt_keeps (ss hM rfl) ha1
  · exact execLdp_keeps (ss hM rfl) ha1
  · exact execStp_keeps (ss hM rfl) ha1
  · exact execSta_keeps (ss hM rfl) ha1
  · exact execLr_keeps (ss hM rfl) ha1
  · exact execSc_keeps (ss hM rfl) ha1
  · exact execPadd_keeps (ss hM rfl) ha1
  · exact execPmov_keeps (ss hM rfl) ha1
  · exact execPmovi_keeps (ss hM rfl) ha1
  · exact execBr_keeps (ss hM rfl) ha1
  · exact execBrcc_keeps (ss hM rfl) ha1
  · exact execCall_keeps (ss hM rfl) ha1
  · exact execJmp_keeps (ss hM rfl) ha1
  · exact execRep_keeps (ss hM rfl) ha1
  · exact execMvc_keeps (ss hM rfl) ha1
  · exact execFence_keeps (ss hM rfl) ha1
  · exact execNap_keeps (ss hM rfl) ha1
  · exact execReti_keeps (ss hM rfl) ha1
  · exact execEret_keeps (ss hM rfl) ha1
  · exact execTrap_keeps (ss hM rfl) ha1
  · exact execExceptionEntry_keeps (ss hM rfl) ha1
  · exact execInterruptEntry_keeps (ss hM rfl) ha1
  · exact execNapWake_keeps (ss hM rfl) ha1
  · exact execFarLoadResponse_keeps (ss hM rfl) ha1
  · exact execFarStoreError_keeps (ss hM rfl) ha1
  · exact execScratchpadNocAccess_keeps (ss hM rfl) ha1
  · exact execCoreReset_keeps (ss hM rfl) ha1
  · exact execCoreResetRelease_keeps (ss hM rfl) ha1
  · exact execWdtKick_keeps (ss hM rfl) ha1
  · exact execWdtExpiry_keeps (ss hM rfl) ha1
  · exact execGetInfo_keeps (ss hM rfl) ha1
  · exact execEcho_keeps (ss hM rfl) ha1
  · exact execLoadImage_keeps (ss hM rfl) ha1
  · exact execImageLine_keeps (ss hM rfl) ha1
  · exact execBlockEnable_keeps (ss hM rfl) ha1
  · exact execBlockDisable_keeps (ss hM rfl) ha1
  · exact execFwLoad_keeps (ss hM rfl) ha1
  · exact execFwStart_keeps (ss hM rfl) ha1
  · exact execFwLoadDbg_keeps (ss hM rfl) ha1
  · exact execSetStepFreq_keeps (ss hM rfl) ha1
  · exact execMailboxCompletion_keeps (ss hM rfl) ha1
  · exact execHeartbeat_keeps (ss hM rfl) ha1
  · exact execControlWdtExpiry_keeps (ss hM rfl) ha1
  · exact execIrqTargetWrite_keeps (ss hM rfl) ha1
  · exact execControlIrqTake_keeps (ss hM rfl) ha1
  · exact execIrqEoi_keeps (ss hM rfl) ha1
  · exact execIrqSwset_keeps (ss hM rfl) ha1
  · exact execIrqSwclr_keeps (ss hM rfl) ha1
  · exact execPostWordWrite_keeps (ss hM rfl) ha1
  · exact execPostCommit_keeps (ss hM rfl) ha1
  · exact execBackpressureRelease_keeps (ss hM rfl) ha1
  · exact execBackpressureTimeout_keeps (ss hM rfl) ha1
  · exact execDispatchScan_keeps (ss hM rfl) ha1
  · exact execHmsTake_keeps (ss hM rfl) ha1
  · exact execTakeTimeout_keeps (ss hM rfl) ha1
  · exact execHmsDone_keeps (ss hM rfl) ha1
  · exact execHmsFail_keeps (ss hM rfl) ha1
  · exact execCompletionRecordResponse_keeps (ss hM rfl) ha1
  · exact execHmsCancel_keeps (ss hM rfl) ha1
  · exact execArm_keeps (ss hM rfl) ha1
  · exact execAcqStop_keeps (ss hM rfl) ha1
  · exact execForce_keeps (ss hM rfl) ha1
  · exact execAcqSample_keeps (ss hM rfl) ha1
  · exact execAcqBufferWrite_keeps (ss hM rfl) ha1
  · exact execAcqWriteResponse_keeps (ss hM rfl) ha1
  · exact execTdcEdge_keeps (ss hM rfl) ha1
  · exact execTdcStampAvailable_keeps (ss hM rfl) ha1
  · exact execRdIndexWrite_keeps (ss hM rfl) ha1
  · exact execRdDataRead_keeps (ss hM rfl) ha1
  · exact execOffset_keeps (ss hM rfl) ha1
  · exact execUnlock_keeps (ss hM rfl) ha1
  · exact execSet_keeps (ss hM rfl) ha1
  · exact execRateWrite_keeps (ss hM rfl) ha1
  · exact execSlewComplete_keeps (ss hM rfl) ha1
  · exact execHoldoverWatchExpiry_keeps (ss hM rfl) ha1
  · exact execEthFrameReceive_keeps (ss hM rfl) ha1
  · exact execEthTxKick_keeps (ss hM rfl) ha1
  · exact execEthFrameTransmit_keeps (ss hM rfl) ha1
  · exact execEthLinkChange_keeps (ss hM rfl) ha1
  · exact execHostAccess_keeps (ss hM rfl) ha1
  · exact execMsixUnmask_keeps (ss hM rfl) ha1
  · exact execPcieLinkLoss_keeps (ss hM rfl) ha1
  · exact execPcieLinkUp_keeps (ss hM rfl) ha1
  · exact execPowerOnReset_keeps (ss hM rfl) ha1
  · exact execVddAonLoss_keeps (ss hM rfl) ha1
  · exact execPorstNRise_keeps (ss hM rfl) ha1
  · exact execCorePllLock_keeps (ss hM rfl) ha1
  · exact execSystemReset_keeps (ss hM rfl) ha1
  · exact execControlReset_keeps (ss hM rfl) ha1
  · exact execTempReading_keeps (ss hM rfl) ha1
  · exact execThrottleRelease_keeps (ss hM rfl) ha1
  · exact execStepFreqChange_keeps (ss hM rfl) ha1
  · exact execThermalTrip_keeps (ss hM rfl) ha1
  · exact execThermalTripClear_keeps (ss hM rfl) ha1
  · exact execTapReset_keeps (ss hM rfl) ha1
  · exact execExtest_keeps (ss hM rfl) ha1
  · exact execSamplePreload_keeps (ss hM rfl) ha1
  · exact execIdcode_keeps (ss hM rfl) ha1
  · exact execDbgacc_keeps (ss hM rfl) ha1
  · exact execBypass_keeps (ss hM rfl) ha1
  · exact execDbgaccAccess_keeps (ss hM rfl) ha1
  · exact execGrantWrite_keeps (ss hM rfl) ha1
  · exact execUnlockSubmit_keeps (ss hM rfl) ha1
  · exact execUnlockCheckDone_keeps (ss hM rfl) ha1
  · exact execWindowRead_keeps (ss hM rfl) ha1
  · exact execWindowWrite_keeps (ss hM rfl) ha1
  · exact execStealRead_keeps (ss hM rfl) ha1
  · exact execStealWrite_keeps (ss hM rfl) ha1
  · exact execWindowAccessDone_keeps (ss hM rfl) ha1
  · exact execFwFifoWrite_keeps (ss hM rfl) ha1
  · exact execFwFifoTimeout_keeps (ss hM rfl) ha1
  · exact execCoreHalt_keeps (ss hM rfl) ha1
  · exact execCoreResume_keeps (ss hM rfl) ha1
  · exact execCoreStep_keeps (ss hM rfl) ha1
  · exact execCoreHaltEntry_keeps (ss hM rfl) ha1
  · exact execCoreRegisterWrite_keeps (ss hM rfl) ha1
  · exact execEmulationHalt_keeps (ss hM rfl) ha1
  · exact execEmulationRelease_keeps (ss hM rfl) ha1
  · exact execVtTxWrite_keeps (ss hM rfl) ha1
  · exact execVtTxRead_keeps (ss hM rfl) ha1
  · exact execVtRxWrite_keeps (ss hM rfl) ha1
  · exact execVtRxRead_keeps (ss hM rfl) ha1
  · exact execNoteWrite_keeps (ss hM rfl) ha1
  · exact execTraceEnable_keeps (ss hM rfl) ha1
  · exact execTraceFrame_keeps (ss hM rfl) ha1
  · exact execTraceBufferRead_keeps (ss hM rfl) ha1
  · exact execVddAonRise_keeps (ss hM rfl) ha1
  · exact execPllUnlock_keeps (ss hM rfl) ha1
  · exact execConfigurationRequest_keeps (ss hM rfl) ha1

/-! ## Machine/Tick.lean -/

theorem State.aonTick_keeps {M : Nat} {s0 : State} {a0} (hM : 16777216 &&& M = 16777216) (ha0 : Keeps M s0 a0) :
    Keeps M s0 (State.aonTick a0) := by
  unfold State.aonTick
  extract_lets +onlyGivenNames v0
  exact keeps_ite (keeps_mk ha0 rfl (g_log := .inl (ss hM rfl))) (keeps_mk ha0 rfl (g_log := .inl (ss hM rfl)))

theorem State.wdtTick_keeps {M : Nat} {s0 : State} {a0 a1} (hM : 2882779855772983297 &&& M = 2882779855772983297)
    (ha0 : Keeps M s0 a0) : Keeps M s0 (State.wdtTick a0 a1) := by
  unfold State.wdtTick
  refine keeps_ite ?_ ?_
  · exact ha0
  · extract_lets +onlyGivenNames v0
    have h1 : Keeps M s0 v0 := State.wr_keeps (ss hM rfl) (ss hM rfl) ha0
    try clear_value v0
    exact keeps_ite (doWdtExpiry_keeps (ss hM rfl) h1) h1

theorem State.coreTick_keeps {M : Nat} {s0 : State} {a0} (hM : 4234422693941814277 &&& M = 4234422693941814277) (ha0
    : Keeps M s0 a0) : Keeps M s0 (State.coreTick a0) := by
  unfold State.coreTick
  extract_lets +onlyGivenNames v0
  have h1 : Keeps M s0 v0 := State.timeCycle_keeps (ss hM rfl) (keeps_mk ha0 rfl (g_time := .inl (ss hM rfl)))
  try clear_value v0
  extract_lets +onlyGivenNames v2
  have h3 : Keeps M s0 v2 := keeps_foldl h1 (fun _ _ h4 => State.acqTick_keeps (ss hM rfl) h4)
  try clear_value v2
  extract_lets +onlyGivenNames v5
  have h6 : Keeps M s0 v5 := keeps_ite (keeps_foldl h3 (fun _ _ h7 => State.wdtTick_keeps (ss hM rfl) h7)) h3
  try clear_value v5
  exact State.fabricTick_keeps (ss hM rfl) (State.throttleTick_keeps (ss hM rfl) h6)

theorem State.tick_keeps {M : Nat} {s0 : State} {a0} (hM : 4234422693941814277 &&& M = 4234422693941814277) (ha0 :
    Keeps M s0 a0) : Keeps M s0 (State.tick a0) := by
  unfold State.tick
  exact keeps_ite ha0 (keeps_ite (State.aonTick_keeps (ss hM rfl) ha0) (State.coreTick_keeps (ss hM rfl)
      (State.aonTick_keeps (ss hM rfl) ha0)))

/-! ## Machine/Step.lean -/



end Sys2Proof.Machine
end

