-- ==== Sys2Proof/Laws/State.lean ====
section
/-! SUPPORT. Laws/State.lean: how each field of the state reads after each shared operation, so that no proof unfolds a
record update; and how a register field reads after a field was written. -/

namespace Sys2Proof.Machine
open Sys2Proof

variable {s : State}

/-! ## wr -/

@[simp] theorem State.wr_pending (f : Fld) (ch v : Nat) : (s.wr f ch v).pending = s.pending := rfl
@[simp] theorem State.wr_outbox (f : Fld) (ch v : Nat) : (s.wr f ch v).outbox = s.outbox := rfl
@[simp] theorem State.wr_freeUses (f : Fld) (ch v : Nat) : (s.wr f ch v).freeUses = s.freeUses := rfl
@[simp] theorem State.wr_selects (f : Fld) (ch v : Nat) : (s.wr f ch v).selects = s.selects := rfl
@[simp] theorem State.wr_staging (f : Fld) (ch v : Nat) : (s.wr f ch v).staging = s.staging := rfl
@[simp] theorem State.wr_captures (f : Fld) (ch v : Nat) : (s.wr f ch v).captures = s.captures := rfl
@[simp] theorem State.wr_hiCaptures (f : Fld) (ch v : Nat) : (s.wr f ch v).hiCaptures = s.hiCaptures := rfl
@[simp] theorem State.wr_tb (f : Fld) (ch v : Nat) : (s.wr f ch v).tb = s.tb := rfl
@[simp] theorem State.wr_timeRuns (f : Fld) (ch v : Nat) : (s.wr f ch v).timeRuns = s.timeRuns := rfl
@[simp] theorem State.wr_timeRemain (f : Fld) (ch v : Nat) : (s.wr f ch v).timeRemain = s.timeRemain := rfl
@[simp] theorem State.wr_timeSince (f : Fld) (ch v : Nat) : (s.wr f ch v).timeSince = s.timeSince := rfl
@[simp] theorem State.wr_ethKicked (f : Fld) (ch v : Nat) : (s.wr f ch v).ethKicked = s.ethKicked := rfl
@[simp] theorem State.wr_health (f : Fld) (ch v : Nat) : (s.wr f ch v).health = s.health := rfl
@[simp] theorem State.wr_istore (f : Fld) (ch v : Nat) : (s.wr f ch v).istore = s.istore := rfl
@[simp] theorem State.wr_rows (f : Fld) (ch v : Nat) : (s.wr f ch v).rows = s.rows := rfl
@[simp] theorem State.wr_shadow (f : Fld) (ch v : Nat) : (s.wr f ch v).shadow = s.shadow := rfl
@[simp] theorem State.wr_canary (f : Fld) (ch v : Nat) : (s.wr f ch v).canary = s.canary := rfl
@[simp] theorem State.wr_isWritebacks (f : Fld) (ch v : Nat) : (s.wr f ch v).isWritebacks = s.isWritebacks := rfl
@[simp] theorem State.wr_lanes (f : Fld) (ch v : Nat) : (s.wr f ch v).lanes = s.lanes := rfl
@[simp] theorem State.wr_chans (f : Fld) (ch v : Nat) : (s.wr f ch v).chans = s.chans := rfl
@[simp] theorem State.wr_addrStage (f : Fld) (ch v : Nat) : (s.wr f ch v).addrStage = s.addrStage := rfl
@[simp] theorem State.wr_wdataStage (f : Fld) (ch v : Nat) : (s.wr f ch v).wdataStage = s.wdataStage := rfl
@[simp] theorem State.wr_rdata (f : Fld) (ch v : Nat) : (s.wr f ch v).rdata = s.rdata := rfl
@[simp] theorem State.wr_rpend (f : Fld) (ch v : Nat) : (s.wr f ch v).rpend = s.rpend := rfl
@[simp] theorem State.wr_fabCap (f : Fld) (ch v : Nat) : (s.wr f ch v).fabCap = s.fabCap := rfl
@[simp] theorem State.wr_fabOwn (f : Fld) (ch v : Nat) : (s.wr f ch v).fabOwn = s.fabOwn := rfl
@[simp] theorem State.wr_fabPres (f : Fld) (ch v : Nat) : (s.wr f ch v).fabPres = s.fabPres := rfl
@[simp] theorem State.wr_fabIn (f : Fld) (ch v : Nat) : (s.wr f ch v).fabIn = s.fabIn := rfl
@[simp] theorem State.wr_relBlank (f : Fld) (ch v : Nat) : (s.wr f ch v).relBlank = s.relBlank := rfl
@[simp] theorem State.wr_parts (f : Fld) (ch v : Nat) : (s.wr f ch v).parts = s.parts := rfl
@[simp] theorem State.wr_dmem (f : Fld) (ch v : Nat) : (s.wr f ch v).dmem = s.dmem := rfl
@[simp] theorem State.wr_banks (f : Fld) (ch v : Nat) : (s.wr f ch v).banks = s.banks := rfl
@[simp] theorem State.wr_resvBank (f : Fld) (ch v : Nat) : (s.wr f ch v).resvBank = s.resvBank := rfl
@[simp] theorem State.wr_exch (f : Fld) (ch v : Nat) : (s.wr f ch v).exch = s.exch := rfl
@[simp] theorem State.wr_exchHeld (f : Fld) (ch v : Nat) : (s.wr f ch v).exchHeld = s.exchHeld := rfl
@[simp] theorem State.wr_exchTook (f : Fld) (ch v : Nat) : (s.wr f ch v).exchTook = s.exchTook := rfl
@[simp] theorem State.wr_exchPriv (f : Fld) (ch v : Nat) : (s.wr f ch v).exchPriv = s.exchPriv := rfl
@[simp] theorem State.wr_replayExch (f : Fld) (ch v : Nat) : (s.wr f ch v).replayExch = s.replayExch := rfl
@[simp] theorem State.wr_probes (f : Fld) (ch v : Nat) : (s.wr f ch v).probes = s.probes := rfl
@[simp] theorem State.wr_onStep (f : Fld) (ch v : Nat) : (s.wr f ch v).onStep = s.onStep := rfl
@[simp] theorem State.wr_acqs (f : Fld) (ch v : Nat) : (s.wr f ch v).acqs = s.acqs := rfl
@[simp] theorem State.wr_tdcs (f : Fld) (ch v : Nat) : (s.wr f ch v).tdcs = s.tdcs := rfl
@[simp] theorem State.wr_netmap (f : Fld) (ch v : Nat) : (s.wr f ch v).netmap = s.netmap := rfl
@[simp] theorem State.wr_rxSlots (f : Fld) (ch v : Nat) : (s.wr f ch v).rxSlots = s.rxSlots := rfl
@[simp] theorem State.wr_txSlots (f : Fld) (ch v : Nat) : (s.wr f ch v).txSlots = s.txSlots := rfl
@[simp] theorem State.wr_txHeld (f : Fld) (ch v : Nat) : (s.wr f ch v).txHeld = s.txHeld := rfl
@[simp] theorem State.wr_casPorts (f : Fld) (ch v : Nat) : (s.wr f ch v).casPorts = s.casPorts := rfl
@[simp] theorem State.wr_laneSync (f : Fld) (ch v : Nat) : (s.wr f ch v).laneSync = s.laneSync := rfl
@[simp] theorem State.wr_cas (f : Fld) (ch v : Nat) : (s.wr f ch v).cas = s.cas := rfl
@[simp] theorem State.wr_frames (f : Fld) (ch v : Nat) : (s.wr f ch v).frames = s.frames := rfl
@[simp] theorem State.wr_fabric (f : Fld) (ch v : Nat) : (s.wr f ch v).fabric = s.fabric := rfl
@[simp] theorem State.wr_logbook (f : Fld) (ch v : Nat) : (s.wr f ch v).logbook = s.logbook := rfl
@[simp] theorem State.wr_log (f : Fld) (ch v : Nat) : (s.wr f ch v).log = s.log := rfl
@[simp] theorem State.wr_dipFrom (f : Fld) (ch v : Nat) : (s.wr f ch v).dipFrom = s.dipFrom := rfl
@[simp] theorem State.wr_dipLow (f : Fld) (ch v : Nat) : (s.wr f ch v).dipLow = s.dipLow := rfl
@[simp] theorem State.wr_dipTick (f : Fld) (ch v : Nat) : (s.wr f ch v).dipTick = s.dipTick := rfl
@[simp] theorem State.wr_checkByCmd (f : Fld) (ch v : Nat) : (s.wr f ch v).checkByCmd = s.checkByCmd := rfl
@[simp] theorem State.wr_dipPassed (f : Fld) (ch v : Nat) : (s.wr f ch v).dipPassed = s.dipPassed := rfl
@[simp] theorem State.wr_irqLatches (f : Fld) (ch v : Nat) : (s.wr f ch v).irqLatches = s.irqLatches := rfl
@[simp] theorem State.wr_irqDisarmed (f : Fld) (ch v : Nat) : (s.wr f ch v).irqDisarmed = s.irqDisarmed := rfl
@[simp] theorem State.wr_irqStacks (f : Fld) (ch v : Nat) : (s.wr f ch v).irqStacks = s.irqStacks := rfl
@[simp] theorem State.wr_irqHeld (f : Fld) (ch v : Nat) : (s.wr f ch v).irqHeld = s.irqHeld := rfl
@[simp] theorem State.wr_control (f : Fld) (ch v : Nat) : (s.wr f ch v).control = s.control := rfl
@[simp] theorem State.wr_records (f : Fld) (ch v : Nat) : (s.wr f ch v).records = s.records := rfl
@[simp] theorem State.wr_msixTable (f : Fld) (ch v : Nat) : (s.wr f ch v).msixTable = s.msixTable := rfl
@[simp] theorem State.wr_msixPending (f : Fld) (ch v : Nat) : (s.wr f ch v).msixPending = s.msixPending := rfl
@[simp] theorem State.wr_msixFuncMask (f : Fld) (ch v : Nat) : (s.wr f ch v).msixFuncMask = s.msixFuncMask := rfl
@[simp] theorem State.wr_cores (f : Fld) (ch v : Nat) : (s.wr f ch v).cores = s.cores := rfl
@[simp] theorem State.wr_scratch (f : Fld) (ch v : Nat) : (s.wr f ch v).scratch = s.scratch := rfl
@[simp] theorem State.wr_hms (f : Fld) (ch v : Nat) : (s.wr f ch v).hms = s.hms := rfl
@[simp] theorem State.wr_porst (f : Fld) (ch v : Nat) : (s.wr f ch v).porst = s.porst := rfl
@[simp] theorem State.wr_tripped (f : Fld) (ch v : Nat) : (s.wr f ch v).tripped = s.tripped := rfl
@[simp] theorem State.wr_freqTarget (f : Fld) (ch v : Nat) : (s.wr f ch v).freqTarget = s.freqTarget := rfl
@[simp] theorem State.wr_coolFrom (f : Fld) (ch v : Nat) : (s.wr f ch v).coolFrom = s.coolFrom := rfl
@[simp] theorem State.wr_tempFresh (f : Fld) (ch v : Nat) : (s.wr f ch v).tempFresh = s.tempFresh := rfl
@[simp] theorem State.wr_throttles (f : Fld) (ch v : Nat) : (s.wr f ch v).throttles = s.throttles := rfl
@[simp] theorem State.wr_pcie (f : Fld) (ch v : Nat) : (s.wr f ch v).pcie = s.pcie := rfl
@[simp] theorem State.wr_hostWaiting (f : Fld) (ch v : Nat) : (s.wr f ch v).hostWaiting = s.hostWaiting := rfl
@[simp] theorem State.wr_hostOut (f : Fld) (ch v : Nat) : (s.wr f ch v).hostOut = s.hostOut := rfl
@[simp] theorem State.wr_windows (f : Fld) (ch v : Nat) : (s.wr f ch v).windows = s.windows := rfl
@[simp] theorem State.wr_tap (f : Fld) (ch v : Nat) : (s.wr f ch v).tap = s.tap := rfl
@[simp] theorem State.wr_challenges (f : Fld) (ch v : Nat) : (s.wr f ch v).challenges = s.challenges := rfl
@[simp] theorem State.wr_challengeAt (f : Fld) (ch v : Nat) : (s.wr f ch v).challengeAt = s.challengeAt := rfl
@[simp] theorem State.wr_haltAt (f : Fld) (ch v : Nat) : (s.wr f ch v).haltAt = s.haltAt := rfl
@[simp] theorem State.wr_releasing (f : Fld) (ch v : Nat) : (s.wr f ch v).releasing = s.releasing := rfl
@[simp] theorem State.wr_haltDip (f : Fld) (ch v : Nat) : (s.wr f ch v).haltDip = s.haltDip := rfl
@[simp] theorem State.wr_haltEdges (f : Fld) (ch v : Nat) : (s.wr f ch v).haltEdges = s.haltEdges := rfl
@[simp] theorem State.wr_trace (f : Fld) (ch v : Nat) : (s.wr f ch v).trace = s.trace := rfl
@[simp] theorem State.wr_coreTicks (f : Fld) (ch v : Nat) : (s.wr f ch v).coreTicks = s.coreTicks := rfl
@[simp] theorem State.wr_traceFrom (f : Fld) (ch v : Nat) : (s.wr f ch v).traceFrom = s.traceFrom := rfl
@[simp] theorem State.wr_haltDecided (f : Fld) (ch v : Nat) : (s.wr f ch v).haltDecided = s.haltDecided := rfl
@[simp] theorem State.wr_awake (f : Fld) (ch v : Nat) : (s.wr f ch v).awake = s.awake := rfl
@[simp] theorem State.wr_nocHeld (f : Fld) (ch v : Nat) : (s.wr f ch v).nocHeld = s.nocHeld := rfl
@[simp] theorem State.wr_quayReqs (f : Fld) (ch v : Nat) : (s.wr f ch v).quayReqs = s.quayReqs := rfl
@[simp] theorem State.wr_nocLocked (f : Fld) (ch v : Nat) : (s.wr f ch v).nocLocked = s.nocLocked := rfl
@[simp] theorem State.wr_scratchReady (f : Fld) (ch v : Nat) : (s.wr f ch v).scratchReady = s.scratchReady := rfl

/-! ## emit -/

@[simp] theorem State.emit_pending (o : Output) : (s.emit o).pending = s.pending := rfl
@[simp] theorem State.emit_freeUses (o : Output) : (s.emit o).freeUses = s.freeUses := rfl
@[simp] theorem State.emit_regs (o : Output) : (s.emit o).regs = s.regs := rfl
@[simp] theorem State.emit_selects (o : Output) : (s.emit o).selects = s.selects := rfl
@[simp] theorem State.emit_staging (o : Output) : (s.emit o).staging = s.staging := rfl
@[simp] theorem State.emit_captures (o : Output) : (s.emit o).captures = s.captures := rfl
@[simp] theorem State.emit_hiCaptures (o : Output) : (s.emit o).hiCaptures = s.hiCaptures := rfl
@[simp] theorem State.emit_tb (o : Output) : (s.emit o).tb = s.tb := rfl
@[simp] theorem State.emit_timeRuns (o : Output) : (s.emit o).timeRuns = s.timeRuns := rfl
@[simp] theorem State.emit_timeRemain (o : Output) : (s.emit o).timeRemain = s.timeRemain := rfl
@[simp] theorem State.emit_timeSince (o : Output) : (s.emit o).timeSince = s.timeSince := rfl
@[simp] theorem State.emit_ethKicked (o : Output) : (s.emit o).ethKicked = s.ethKicked := rfl
@[simp] theorem State.emit_health (o : Output) : (s.emit o).health = s.health := rfl
@[simp] theorem State.emit_istore (o : Output) : (s.emit o).istore = s.istore := rfl
@[simp] theorem State.emit_rows (o : Output) : (s.emit o).rows = s.rows := rfl
@[simp] theorem State.emit_shadow (o : Output) : (s.emit o).shadow = s.shadow := rfl
@[simp] theorem State.emit_canary (o : Output) : (s.emit o).canary = s.canary := rfl
@[simp] theorem State.emit_isWritebacks (o : Output) : (s.emit o).isWritebacks = s.isWritebacks := rfl
@[simp] theorem State.emit_lanes (o : Output) : (s.emit o).lanes = s.lanes := rfl
@[simp] theorem State.emit_chans (o : Output) : (s.emit o).chans = s.chans := rfl
@[simp] theorem State.emit_addrStage (o : Output) : (s.emit o).addrStage = s.addrStage := rfl
@[simp] theorem State.emit_wdataStage (o : Output) : (s.emit o).wdataStage = s.wdataStage := rfl
@[simp] theorem State.emit_rdata (o : Output) : (s.emit o).rdata = s.rdata := rfl
@[simp] theorem State.emit_rpend (o : Output) : (s.emit o).rpend = s.rpend := rfl
@[simp] theorem State.emit_fabCap (o : Output) : (s.emit o).fabCap = s.fabCap := rfl
@[simp] theorem State.emit_fabOwn (o : Output) : (s.emit o).fabOwn = s.fabOwn := rfl
@[simp] theorem State.emit_fabPres (o : Output) : (s.emit o).fabPres = s.fabPres := rfl
@[simp] theorem State.emit_fabIn (o : Output) : (s.emit o).fabIn = s.fabIn := rfl
@[simp] theorem State.emit_relBlank (o : Output) : (s.emit o).relBlank = s.relBlank := rfl
@[simp] theorem State.emit_parts (o : Output) : (s.emit o).parts = s.parts := rfl
@[simp] theorem State.emit_dmem (o : Output) : (s.emit o).dmem = s.dmem := rfl
@[simp] theorem State.emit_banks (o : Output) : (s.emit o).banks = s.banks := rfl
@[simp] theorem State.emit_resvBank (o : Output) : (s.emit o).resvBank = s.resvBank := rfl
@[simp] theorem State.emit_exch (o : Output) : (s.emit o).exch = s.exch := rfl
@[simp] theorem State.emit_exchHeld (o : Output) : (s.emit o).exchHeld = s.exchHeld := rfl
@[simp] theorem State.emit_exchTook (o : Output) : (s.emit o).exchTook = s.exchTook := rfl
@[simp] theorem State.emit_exchPriv (o : Output) : (s.emit o).exchPriv = s.exchPriv := rfl
@[simp] theorem State.emit_replayExch (o : Output) : (s.emit o).replayExch = s.replayExch := rfl
@[simp] theorem State.emit_probes (o : Output) : (s.emit o).probes = s.probes := rfl
@[simp] theorem State.emit_onStep (o : Output) : (s.emit o).onStep = s.onStep := rfl
@[simp] theorem State.emit_acqs (o : Output) : (s.emit o).acqs = s.acqs := rfl
@[simp] theorem State.emit_tdcs (o : Output) : (s.emit o).tdcs = s.tdcs := rfl
@[simp] theorem State.emit_netmap (o : Output) : (s.emit o).netmap = s.netmap := rfl
@[simp] theorem State.emit_rxSlots (o : Output) : (s.emit o).rxSlots = s.rxSlots := rfl
@[simp] theorem State.emit_txSlots (o : Output) : (s.emit o).txSlots = s.txSlots := rfl
@[simp] theorem State.emit_txHeld (o : Output) : (s.emit o).txHeld = s.txHeld := rfl
@[simp] theorem State.emit_casPorts (o : Output) : (s.emit o).casPorts = s.casPorts := rfl
@[simp] theorem State.emit_laneSync (o : Output) : (s.emit o).laneSync = s.laneSync := rfl
@[simp] theorem State.emit_cas (o : Output) : (s.emit o).cas = s.cas := rfl
@[simp] theorem State.emit_frames (o : Output) : (s.emit o).frames = s.frames := rfl
@[simp] theorem State.emit_fabric (o : Output) : (s.emit o).fabric = s.fabric := rfl
@[simp] theorem State.emit_logbook (o : Output) : (s.emit o).logbook = s.logbook := rfl
@[simp] theorem State.emit_log (o : Output) : (s.emit o).log = s.log := rfl
@[simp] theorem State.emit_dipFrom (o : Output) : (s.emit o).dipFrom = s.dipFrom := rfl
@[simp] theorem State.emit_dipLow (o : Output) : (s.emit o).dipLow = s.dipLow := rfl
@[simp] theorem State.emit_dipTick (o : Output) : (s.emit o).dipTick = s.dipTick := rfl
@[simp] theorem State.emit_checkByCmd (o : Output) : (s.emit o).checkByCmd = s.checkByCmd := rfl
@[simp] theorem State.emit_dipPassed (o : Output) : (s.emit o).dipPassed = s.dipPassed := rfl
@[simp] theorem State.emit_irqLatches (o : Output) : (s.emit o).irqLatches = s.irqLatches := rfl
@[simp] theorem State.emit_irqDisarmed (o : Output) : (s.emit o).irqDisarmed = s.irqDisarmed := rfl
@[simp] theorem State.emit_irqStacks (o : Output) : (s.emit o).irqStacks = s.irqStacks := rfl
@[simp] theorem State.emit_irqHeld (o : Output) : (s.emit o).irqHeld = s.irqHeld := rfl
@[simp] theorem State.emit_control (o : Output) : (s.emit o).control = s.control := rfl
@[simp] theorem State.emit_records (o : Output) : (s.emit o).records = s.records := rfl
@[simp] theorem State.emit_msixTable (o : Output) : (s.emit o).msixTable = s.msixTable := rfl
@[simp] theorem State.emit_msixPending (o : Output) : (s.emit o).msixPending = s.msixPending := rfl
@[simp] theorem State.emit_msixFuncMask (o : Output) : (s.emit o).msixFuncMask = s.msixFuncMask := rfl
@[simp] theorem State.emit_cores (o : Output) : (s.emit o).cores = s.cores := rfl
@[simp] theorem State.emit_scratch (o : Output) : (s.emit o).scratch = s.scratch := rfl
@[simp] theorem State.emit_hms (o : Output) : (s.emit o).hms = s.hms := rfl
@[simp] theorem State.emit_porst (o : Output) : (s.emit o).porst = s.porst := rfl
@[simp] theorem State.emit_tripped (o : Output) : (s.emit o).tripped = s.tripped := rfl
@[simp] theorem State.emit_freqTarget (o : Output) : (s.emit o).freqTarget = s.freqTarget := rfl
@[simp] theorem State.emit_coolFrom (o : Output) : (s.emit o).coolFrom = s.coolFrom := rfl
@[simp] theorem State.emit_tempFresh (o : Output) : (s.emit o).tempFresh = s.tempFresh := rfl
@[simp] theorem State.emit_throttles (o : Output) : (s.emit o).throttles = s.throttles := rfl
@[simp] theorem State.emit_pcie (o : Output) : (s.emit o).pcie = s.pcie := rfl
@[simp] theorem State.emit_hostWaiting (o : Output) : (s.emit o).hostWaiting = s.hostWaiting := rfl
@[simp] theorem State.emit_hostOut (o : Output) : (s.emit o).hostOut = s.hostOut := rfl
@[simp] theorem State.emit_windows (o : Output) : (s.emit o).windows = s.windows := rfl
@[simp] theorem State.emit_tap (o : Output) : (s.emit o).tap = s.tap := rfl
@[simp] theorem State.emit_challenges (o : Output) : (s.emit o).challenges = s.challenges := rfl
@[simp] theorem State.emit_challengeAt (o : Output) : (s.emit o).challengeAt = s.challengeAt := rfl
@[simp] theorem State.emit_haltAt (o : Output) : (s.emit o).haltAt = s.haltAt := rfl
@[simp] theorem State.emit_releasing (o : Output) : (s.emit o).releasing = s.releasing := rfl
@[simp] theorem State.emit_haltDip (o : Output) : (s.emit o).haltDip = s.haltDip := rfl
@[simp] theorem State.emit_haltEdges (o : Output) : (s.emit o).haltEdges = s.haltEdges := rfl
@[simp] theorem State.emit_trace (o : Output) : (s.emit o).trace = s.trace := rfl
@[simp] theorem State.emit_coreTicks (o : Output) : (s.emit o).coreTicks = s.coreTicks := rfl
@[simp] theorem State.emit_traceFrom (o : Output) : (s.emit o).traceFrom = s.traceFrom := rfl
@[simp] theorem State.emit_haltDecided (o : Output) : (s.emit o).haltDecided = s.haltDecided := rfl
@[simp] theorem State.emit_awake (o : Output) : (s.emit o).awake = s.awake := rfl
@[simp] theorem State.emit_nocHeld (o : Output) : (s.emit o).nocHeld = s.nocHeld := rfl
@[simp] theorem State.emit_quayReqs (o : Output) : (s.emit o).quayReqs = s.quayReqs := rfl
@[simp] theorem State.emit_nocLocked (o : Output) : (s.emit o).nocLocked = s.nocLocked := rfl
@[simp] theorem State.emit_scratchReady (o : Output) : (s.emit o).scratchReady = s.scratchReady := rfl

/-! ## respond -/

@[simp] theorem State.respond_pending (a : Accessor) (ok : Bool) (v : Nat) : (s.respond a ok v).pending = s.pending := rfl
@[simp] theorem State.respond_freeUses (a : Accessor) (ok : Bool) (v : Nat) : (s.respond a ok v).freeUses = s.freeUses := rfl
@[simp] theorem State.respond_regs (a : Accessor) (ok : Bool) (v : Nat) : (s.respond a ok v).regs = s.regs := rfl
@[simp] theorem State.respond_selects (a : Accessor) (ok : Bool) (v : Nat) : (s.respond a ok v).selects = s.selects := rfl
@[simp] theorem State.respond_staging (a : Accessor) (ok : Bool) (v : Nat) : (s.respond a ok v).staging = s.staging := rfl
@[simp] theorem State.respond_captures (a : Accessor) (ok : Bool) (v : Nat) : (s.respond a ok v).captures = s.captures := rfl
@[simp] theorem State.respond_hiCaptures (a : Accessor) (ok : Bool) (v : Nat) : (s.respond a ok v).hiCaptures = s.hiCaptures := rfl
@[simp] theorem State.respond_tb (a : Accessor) (ok : Bool) (v : Nat) : (s.respond a ok v).tb = s.tb := rfl
@[simp] theorem State.respond_timeRuns (a : Accessor) (ok : Bool) (v : Nat) : (s.respond a ok v).timeRuns = s.timeRuns := rfl
@[simp] theorem State.respond_timeRemain (a : Accessor) (ok : Bool) (v : Nat) : (s.respond a ok v).timeRemain = s.timeRemain := rfl
@[simp] theorem State.respond_timeSince (a : Accessor) (ok : Bool) (v : Nat) : (s.respond a ok v).timeSince = s.timeSince := rfl
@[simp] theorem State.respond_ethKicked (a : Accessor) (ok : Bool) (v : Nat) : (s.respond a ok v).ethKicked = s.ethKicked := rfl
@[simp] theorem State.respond_health (a : Accessor) (ok : Bool) (v : Nat) : (s.respond a ok v).health = s.health := rfl
@[simp] theorem State.respond_istore (a : Accessor) (ok : Bool) (v : Nat) : (s.respond a ok v).istore = s.istore := rfl
@[simp] theorem State.respond_rows (a : Accessor) (ok : Bool) (v : Nat) : (s.respond a ok v).rows = s.rows := rfl
@[simp] theorem State.respond_shadow (a : Accessor) (ok : Bool) (v : Nat) : (s.respond a ok v).shadow = s.shadow := rfl
@[simp] theorem State.respond_canary (a : Accessor) (ok : Bool) (v : Nat) : (s.respond a ok v).canary = s.canary := rfl
@[simp] theorem State.respond_isWritebacks (a : Accessor) (ok : Bool) (v : Nat) : (s.respond a ok v).isWritebacks = s.isWritebacks := rfl
@[simp] theorem State.respond_lanes (a : Accessor) (ok : Bool) (v : Nat) : (s.respond a ok v).lanes = s.lanes := rfl
@[simp] theorem State.respond_chans (a : Accessor) (ok : Bool) (v : Nat) : (s.respond a ok v).chans = s.chans := rfl
@[simp] theorem State.respond_addrStage (a : Accessor) (ok : Bool) (v : Nat) : (s.respond a ok v).addrStage = s.addrStage := rfl
@[simp] theorem State.respond_wdataStage (a : Accessor) (ok : Bool) (v : Nat) : (s.respond a ok v).wdataStage = s.wdataStage := rfl
@[simp] theorem State.respond_rdata (a : Accessor) (ok : Bool) (v : Nat) : (s.respond a ok v).rdata = s.rdata := rfl
@[simp] theorem State.respond_rpend (a : Accessor) (ok : Bool) (v : Nat) : (s.respond a ok v).rpend = s.rpend := rfl
@[simp] theorem State.respond_fabCap (a : Accessor) (ok : Bool) (v : Nat) : (s.respond a ok v).fabCap = s.fabCap := rfl
@[simp] theorem State.respond_fabOwn (a : Accessor) (ok : Bool) (v : Nat) : (s.respond a ok v).fabOwn = s.fabOwn := rfl
@[simp] theorem State.respond_fabPres (a : Accessor) (ok : Bool) (v : Nat) : (s.respond a ok v).fabPres = s.fabPres := rfl
@[simp] theorem State.respond_fabIn (a : Accessor) (ok : Bool) (v : Nat) : (s.respond a ok v).fabIn = s.fabIn := rfl
@[simp] theorem State.respond_relBlank (a : Accessor) (ok : Bool) (v : Nat) : (s.respond a ok v).relBlank = s.relBlank := rfl
@[simp] theorem State.respond_parts (a : Accessor) (ok : Bool) (v : Nat) : (s.respond a ok v).parts = s.parts := rfl
@[simp] theorem State.respond_dmem (a : Accessor) (ok : Bool) (v : Nat) : (s.respond a ok v).dmem = s.dmem := rfl
@[simp] theorem State.respond_banks (a : Accessor) (ok : Bool) (v : Nat) : (s.respond a ok v).banks = s.banks := rfl
@[simp] theorem State.respond_resvBank (a : Accessor) (ok : Bool) (v : Nat) : (s.respond a ok v).resvBank = s.resvBank := rfl
@[simp] theorem State.respond_exch (a : Accessor) (ok : Bool) (v : Nat) : (s.respond a ok v).exch = s.exch := rfl
@[simp] theorem State.respond_exchHeld (a : Accessor) (ok : Bool) (v : Nat) : (s.respond a ok v).exchHeld = s.exchHeld := rfl
@[simp] theorem State.respond_exchTook (a : Accessor) (ok : Bool) (v : Nat) : (s.respond a ok v).exchTook = s.exchTook := rfl
@[simp] theorem State.respond_exchPriv (a : Accessor) (ok : Bool) (v : Nat) : (s.respond a ok v).exchPriv = s.exchPriv := rfl
@[simp] theorem State.respond_replayExch (a : Accessor) (ok : Bool) (v : Nat) : (s.respond a ok v).replayExch = s.replayExch := rfl
@[simp] theorem State.respond_probes (a : Accessor) (ok : Bool) (v : Nat) : (s.respond a ok v).probes = s.probes := rfl
@[simp] theorem State.respond_onStep (a : Accessor) (ok : Bool) (v : Nat) : (s.respond a ok v).onStep = s.onStep := rfl
@[simp] theorem State.respond_acqs (a : Accessor) (ok : Bool) (v : Nat) : (s.respond a ok v).acqs = s.acqs := rfl
@[simp] theorem State.respond_tdcs (a : Accessor) (ok : Bool) (v : Nat) : (s.respond a ok v).tdcs = s.tdcs := rfl
@[simp] theorem State.respond_netmap (a : Accessor) (ok : Bool) (v : Nat) : (s.respond a ok v).netmap = s.netmap := rfl
@[simp] theorem State.respond_rxSlots (a : Accessor) (ok : Bool) (v : Nat) : (s.respond a ok v).rxSlots = s.rxSlots := rfl
@[simp] theorem State.respond_txSlots (a : Accessor) (ok : Bool) (v : Nat) : (s.respond a ok v).txSlots = s.txSlots := rfl
@[simp] theorem State.respond_txHeld (a : Accessor) (ok : Bool) (v : Nat) : (s.respond a ok v).txHeld = s.txHeld := rfl
@[simp] theorem State.respond_casPorts (a : Accessor) (ok : Bool) (v : Nat) : (s.respond a ok v).casPorts = s.casPorts := rfl
@[simp] theorem State.respond_laneSync (a : Accessor) (ok : Bool) (v : Nat) : (s.respond a ok v).laneSync = s.laneSync := rfl
@[simp] theorem State.respond_cas (a : Accessor) (ok : Bool) (v : Nat) : (s.respond a ok v).cas = s.cas := rfl
@[simp] theorem State.respond_frames (a : Accessor) (ok : Bool) (v : Nat) : (s.respond a ok v).frames = s.frames := rfl
@[simp] theorem State.respond_fabric (a : Accessor) (ok : Bool) (v : Nat) : (s.respond a ok v).fabric = s.fabric := rfl
@[simp] theorem State.respond_logbook (a : Accessor) (ok : Bool) (v : Nat) : (s.respond a ok v).logbook = s.logbook := rfl
@[simp] theorem State.respond_log (a : Accessor) (ok : Bool) (v : Nat) : (s.respond a ok v).log = s.log := rfl
@[simp] theorem State.respond_dipFrom (a : Accessor) (ok : Bool) (v : Nat) : (s.respond a ok v).dipFrom = s.dipFrom := rfl
@[simp] theorem State.respond_dipLow (a : Accessor) (ok : Bool) (v : Nat) : (s.respond a ok v).dipLow = s.dipLow := rfl
@[simp] theorem State.respond_dipTick (a : Accessor) (ok : Bool) (v : Nat) : (s.respond a ok v).dipTick = s.dipTick := rfl
@[simp] theorem State.respond_checkByCmd (a : Accessor) (ok : Bool) (v : Nat) : (s.respond a ok v).checkByCmd = s.checkByCmd := rfl
@[simp] theorem State.respond_dipPassed (a : Accessor) (ok : Bool) (v : Nat) : (s.respond a ok v).dipPassed = s.dipPassed := rfl
@[simp] theorem State.respond_irqLatches (a : Accessor) (ok : Bool) (v : Nat) : (s.respond a ok v).irqLatches = s.irqLatches := rfl
@[simp] theorem State.respond_irqDisarmed (a : Accessor) (ok : Bool) (v : Nat) : (s.respond a ok v).irqDisarmed = s.irqDisarmed := rfl
@[simp] theorem State.respond_irqStacks (a : Accessor) (ok : Bool) (v : Nat) : (s.respond a ok v).irqStacks = s.irqStacks := rfl
@[simp] theorem State.respond_irqHeld (a : Accessor) (ok : Bool) (v : Nat) : (s.respond a ok v).irqHeld = s.irqHeld := rfl
@[simp] theorem State.respond_control (a : Accessor) (ok : Bool) (v : Nat) : (s.respond a ok v).control = s.control := rfl
@[simp] theorem State.respond_records (a : Accessor) (ok : Bool) (v : Nat) : (s.respond a ok v).records = s.records := rfl
@[simp] theorem State.respond_msixTable (a : Accessor) (ok : Bool) (v : Nat) : (s.respond a ok v).msixTable = s.msixTable := rfl
@[simp] theorem State.respond_msixPending (a : Accessor) (ok : Bool) (v : Nat) : (s.respond a ok v).msixPending = s.msixPending := rfl
@[simp] theorem State.respond_msixFuncMask (a : Accessor) (ok : Bool) (v : Nat) : (s.respond a ok v).msixFuncMask = s.msixFuncMask := rfl
@[simp] theorem State.respond_cores (a : Accessor) (ok : Bool) (v : Nat) : (s.respond a ok v).cores = s.cores := rfl
@[simp] theorem State.respond_scratch (a : Accessor) (ok : Bool) (v : Nat) : (s.respond a ok v).scratch = s.scratch := rfl
@[simp] theorem State.respond_hms (a : Accessor) (ok : Bool) (v : Nat) : (s.respond a ok v).hms = s.hms := rfl
@[simp] theorem State.respond_porst (a : Accessor) (ok : Bool) (v : Nat) : (s.respond a ok v).porst = s.porst := rfl
@[simp] theorem State.respond_tripped (a : Accessor) (ok : Bool) (v : Nat) : (s.respond a ok v).tripped = s.tripped := rfl
@[simp] theorem State.respond_freqTarget (a : Accessor) (ok : Bool) (v : Nat) : (s.respond a ok v).freqTarget = s.freqTarget := rfl
@[simp] theorem State.respond_coolFrom (a : Accessor) (ok : Bool) (v : Nat) : (s.respond a ok v).coolFrom = s.coolFrom := rfl
@[simp] theorem State.respond_tempFresh (a : Accessor) (ok : Bool) (v : Nat) : (s.respond a ok v).tempFresh = s.tempFresh := rfl
@[simp] theorem State.respond_throttles (a : Accessor) (ok : Bool) (v : Nat) : (s.respond a ok v).throttles = s.throttles := rfl
@[simp] theorem State.respond_pcie (a : Accessor) (ok : Bool) (v : Nat) : (s.respond a ok v).pcie = s.pcie := rfl
@[simp] theorem State.respond_hostWaiting (a : Accessor) (ok : Bool) (v : Nat) : (s.respond a ok v).hostWaiting = s.hostWaiting := rfl
@[simp] theorem State.respond_hostOut (a : Accessor) (ok : Bool) (v : Nat) : (s.respond a ok v).hostOut = s.hostOut := rfl
@[simp] theorem State.respond_windows (a : Accessor) (ok : Bool) (v : Nat) : (s.respond a ok v).windows = s.windows := rfl
@[simp] theorem State.respond_tap (a : Accessor) (ok : Bool) (v : Nat) : (s.respond a ok v).tap = s.tap := rfl
@[simp] theorem State.respond_challenges (a : Accessor) (ok : Bool) (v : Nat) : (s.respond a ok v).challenges = s.challenges := rfl
@[simp] theorem State.respond_challengeAt (a : Accessor) (ok : Bool) (v : Nat) : (s.respond a ok v).challengeAt = s.challengeAt := rfl
@[simp] theorem State.respond_haltAt (a : Accessor) (ok : Bool) (v : Nat) : (s.respond a ok v).haltAt = s.haltAt := rfl
@[simp] theorem State.respond_releasing (a : Accessor) (ok : Bool) (v : Nat) : (s.respond a ok v).releasing = s.releasing := rfl
@[simp] theorem State.respond_haltDip (a : Accessor) (ok : Bool) (v : Nat) : (s.respond a ok v).haltDip = s.haltDip := rfl
@[simp] theorem State.respond_haltEdges (a : Accessor) (ok : Bool) (v : Nat) : (s.respond a ok v).haltEdges = s.haltEdges := rfl
@[simp] theorem State.respond_trace (a : Accessor) (ok : Bool) (v : Nat) : (s.respond a ok v).trace = s.trace := rfl
@[simp] theorem State.respond_coreTicks (a : Accessor) (ok : Bool) (v : Nat) : (s.respond a ok v).coreTicks = s.coreTicks := rfl
@[simp] theorem State.respond_traceFrom (a : Accessor) (ok : Bool) (v : Nat) : (s.respond a ok v).traceFrom = s.traceFrom := rfl
@[simp] theorem State.respond_haltDecided (a : Accessor) (ok : Bool) (v : Nat) : (s.respond a ok v).haltDecided = s.haltDecided := rfl
@[simp] theorem State.respond_awake (a : Accessor) (ok : Bool) (v : Nat) : (s.respond a ok v).awake = s.awake := rfl
@[simp] theorem State.respond_nocHeld (a : Accessor) (ok : Bool) (v : Nat) : (s.respond a ok v).nocHeld = s.nocHeld := rfl
@[simp] theorem State.respond_quayReqs (a : Accessor) (ok : Bool) (v : Nat) : (s.respond a ok v).quayReqs = s.quayReqs := rfl
@[simp] theorem State.respond_nocLocked (a : Accessor) (ok : Bool) (v : Nat) : (s.respond a ok v).nocLocked = s.nocLocked := rfl
@[simp] theorem State.respond_scratchReady (a : Accessor) (ok : Bool) (v : Nat) : (s.respond a ok v).scratchReady = s.scratchReady := rfl

/-! ## setEcc -/

@[simp] theorem State.setEcc_pending (c i v : Nat) : (s.setEcc c i v).pending = s.pending := rfl
@[simp] theorem State.setEcc_outbox (c i v : Nat) : (s.setEcc c i v).outbox = s.outbox := rfl
@[simp] theorem State.setEcc_freeUses (c i v : Nat) : (s.setEcc c i v).freeUses = s.freeUses := rfl
@[simp] theorem State.setEcc_regs (c i v : Nat) : (s.setEcc c i v).regs = s.regs := rfl
@[simp] theorem State.setEcc_selects (c i v : Nat) : (s.setEcc c i v).selects = s.selects := rfl
@[simp] theorem State.setEcc_staging (c i v : Nat) : (s.setEcc c i v).staging = s.staging := rfl
@[simp] theorem State.setEcc_captures (c i v : Nat) : (s.setEcc c i v).captures = s.captures := rfl
@[simp] theorem State.setEcc_hiCaptures (c i v : Nat) : (s.setEcc c i v).hiCaptures = s.hiCaptures := rfl
@[simp] theorem State.setEcc_tb (c i v : Nat) : (s.setEcc c i v).tb = s.tb := rfl
@[simp] theorem State.setEcc_timeRuns (c i v : Nat) : (s.setEcc c i v).timeRuns = s.timeRuns := rfl
@[simp] theorem State.setEcc_timeRemain (c i v : Nat) : (s.setEcc c i v).timeRemain = s.timeRemain := rfl
@[simp] theorem State.setEcc_timeSince (c i v : Nat) : (s.setEcc c i v).timeSince = s.timeSince := rfl
@[simp] theorem State.setEcc_ethKicked (c i v : Nat) : (s.setEcc c i v).ethKicked = s.ethKicked := rfl
@[simp] theorem State.setEcc_istore (c i v : Nat) : (s.setEcc c i v).istore = s.istore := rfl
@[simp] theorem State.setEcc_rows (c i v : Nat) : (s.setEcc c i v).rows = s.rows := rfl
@[simp] theorem State.setEcc_shadow (c i v : Nat) : (s.setEcc c i v).shadow = s.shadow := rfl
@[simp] theorem State.setEcc_canary (c i v : Nat) : (s.setEcc c i v).canary = s.canary := rfl
@[simp] theorem State.setEcc_isWritebacks (c i v : Nat) : (s.setEcc c i v).isWritebacks = s.isWritebacks := rfl
@[simp] theorem State.setEcc_lanes (c i v : Nat) : (s.setEcc c i v).lanes = s.lanes := rfl
@[simp] theorem State.setEcc_chans (c i v : Nat) : (s.setEcc c i v).chans = s.chans := rfl
@[simp] theorem State.setEcc_addrStage (c i v : Nat) : (s.setEcc c i v).addrStage = s.addrStage := rfl
@[simp] theorem State.setEcc_wdataStage (c i v : Nat) : (s.setEcc c i v).wdataStage = s.wdataStage := rfl
@[simp] theorem State.setEcc_rdata (c i v : Nat) : (s.setEcc c i v).rdata = s.rdata := rfl
@[simp] theorem State.setEcc_rpend (c i v : Nat) : (s.setEcc c i v).rpend = s.rpend := rfl
@[simp] theorem State.setEcc_fabCap (c i v : Nat) : (s.setEcc c i v).fabCap = s.fabCap := rfl
@[simp] theorem State.setEcc_fabOwn (c i v : Nat) : (s.setEcc c i v).fabOwn = s.fabOwn := rfl
@[simp] theorem State.setEcc_fabPres (c i v : Nat) : (s.setEcc c i v).fabPres = s.fabPres := rfl
@[simp] theorem State.setEcc_fabIn (c i v : Nat) : (s.setEcc c i v).fabIn = s.fabIn := rfl
@[simp] theorem State.setEcc_relBlank (c i v : Nat) : (s.setEcc c i v).relBlank = s.relBlank := rfl
@[simp] theorem State.setEcc_parts (c i v : Nat) : (s.setEcc c i v).parts = s.parts := rfl
@[simp] theorem State.setEcc_dmem (c i v : Nat) : (s.setEcc c i v).dmem = s.dmem := rfl
@[simp] theorem State.setEcc_banks (c i v : Nat) : (s.setEcc c i v).banks = s.banks := rfl
@[simp] theorem State.setEcc_resvBank (c i v : Nat) : (s.setEcc c i v).resvBank = s.resvBank := rfl
@[simp] theorem State.setEcc_exch (c i v : Nat) : (s.setEcc c i v).exch = s.exch := rfl
@[simp] theorem State.setEcc_exchHeld (c i v : Nat) : (s.setEcc c i v).exchHeld = s.exchHeld := rfl
@[simp] theorem State.setEcc_exchTook (c i v : Nat) : (s.setEcc c i v).exchTook = s.exchTook := rfl
@[simp] theorem State.setEcc_exchPriv (c i v : Nat) : (s.setEcc c i v).exchPriv = s.exchPriv := rfl
@[simp] theorem State.setEcc_replayExch (c i v : Nat) : (s.setEcc c i v).replayExch = s.replayExch := rfl
@[simp] theorem State.setEcc_probes (c i v : Nat) : (s.setEcc c i v).probes = s.probes := rfl
@[simp] theorem State.setEcc_onStep (c i v : Nat) : (s.setEcc c i v).onStep = s.onStep := rfl
@[simp] theorem State.setEcc_acqs (c i v : Nat) : (s.setEcc c i v).acqs = s.acqs := rfl
@[simp] theorem State.setEcc_tdcs (c i v : Nat) : (s.setEcc c i v).tdcs = s.tdcs := rfl
@[simp] theorem State.setEcc_netmap (c i v : Nat) : (s.setEcc c i v).netmap = s.netmap := rfl
@[simp] theorem State.setEcc_rxSlots (c i v : Nat) : (s.setEcc c i v).rxSlots = s.rxSlots := rfl
@[simp] theorem State.setEcc_txSlots (c i v : Nat) : (s.setEcc c i v).txSlots = s.txSlots := rfl
@[simp] theorem State.setEcc_txHeld (c i v : Nat) : (s.setEcc c i v).txHeld = s.txHeld := rfl
@[simp] theorem State.setEcc_casPorts (c i v : Nat) : (s.setEcc c i v).casPorts = s.casPorts := rfl
@[simp] theorem State.setEcc_laneSync (c i v : Nat) : (s.setEcc c i v).laneSync = s.laneSync := rfl
@[simp] theorem State.setEcc_cas (c i v : Nat) : (s.setEcc c i v).cas = s.cas := rfl
@[simp] theorem State.setEcc_frames (c i v : Nat) : (s.setEcc c i v).frames = s.frames := rfl
@[simp] theorem State.setEcc_fabric (c i v : Nat) : (s.setEcc c i v).fabric = s.fabric := rfl
@[simp] theorem State.setEcc_logbook (c i v : Nat) : (s.setEcc c i v).logbook = s.logbook := rfl
@[simp] theorem State.setEcc_log (c i v : Nat) : (s.setEcc c i v).log = s.log := rfl
@[simp] theorem State.setEcc_dipFrom (c i v : Nat) : (s.setEcc c i v).dipFrom = s.dipFrom := rfl
@[simp] theorem State.setEcc_dipLow (c i v : Nat) : (s.setEcc c i v).dipLow = s.dipLow := rfl
@[simp] theorem State.setEcc_dipTick (c i v : Nat) : (s.setEcc c i v).dipTick = s.dipTick := rfl
@[simp] theorem State.setEcc_checkByCmd (c i v : Nat) : (s.setEcc c i v).checkByCmd = s.checkByCmd := rfl
@[simp] theorem State.setEcc_dipPassed (c i v : Nat) : (s.setEcc c i v).dipPassed = s.dipPassed := rfl
@[simp] theorem State.setEcc_irqLatches (c i v : Nat) : (s.setEcc c i v).irqLatches = s.irqLatches := rfl
@[simp] theorem State.setEcc_irqDisarmed (c i v : Nat) : (s.setEcc c i v).irqDisarmed = s.irqDisarmed := rfl
@[simp] theorem State.setEcc_irqStacks (c i v : Nat) : (s.setEcc c i v).irqStacks = s.irqStacks := rfl
@[simp] theorem State.setEcc_irqHeld (c i v : Nat) : (s.setEcc c i v).irqHeld = s.irqHeld := rfl
@[simp] theorem State.setEcc_control (c i v : Nat) : (s.setEcc c i v).control = s.control := rfl
@[simp] theorem State.setEcc_records (c i v : Nat) : (s.setEcc c i v).records = s.records := rfl
@[simp] theorem State.setEcc_msixTable (c i v : Nat) : (s.setEcc c i v).msixTable = s.msixTable := rfl
@[simp] theorem State.setEcc_msixPending (c i v : Nat) : (s.setEcc c i v).msixPending = s.msixPending := rfl
@[simp] theorem State.setEcc_msixFuncMask (c i v : Nat) : (s.setEcc c i v).msixFuncMask = s.msixFuncMask := rfl
@[simp] theorem State.setEcc_cores (c i v : Nat) : (s.setEcc c i v).cores = s.cores := rfl
@[simp] theorem State.setEcc_scratch (c i v : Nat) : (s.setEcc c i v).scratch = s.scratch := rfl
@[simp] theorem State.setEcc_hms (c i v : Nat) : (s.setEcc c i v).hms = s.hms := rfl
@[simp] theorem State.setEcc_porst (c i v : Nat) : (s.setEcc c i v).porst = s.porst := rfl
@[simp] theorem State.setEcc_tripped (c i v : Nat) : (s.setEcc c i v).tripped = s.tripped := rfl
@[simp] theorem State.setEcc_freqTarget (c i v : Nat) : (s.setEcc c i v).freqTarget = s.freqTarget := rfl
@[simp] theorem State.setEcc_coolFrom (c i v : Nat) : (s.setEcc c i v).coolFrom = s.coolFrom := rfl
@[simp] theorem State.setEcc_tempFresh (c i v : Nat) : (s.setEcc c i v).tempFresh = s.tempFresh := rfl
@[simp] theorem State.setEcc_throttles (c i v : Nat) : (s.setEcc c i v).throttles = s.throttles := rfl
@[simp] theorem State.setEcc_pcie (c i v : Nat) : (s.setEcc c i v).pcie = s.pcie := rfl
@[simp] theorem State.setEcc_hostWaiting (c i v : Nat) : (s.setEcc c i v).hostWaiting = s.hostWaiting := rfl
@[simp] theorem State.setEcc_hostOut (c i v : Nat) : (s.setEcc c i v).hostOut = s.hostOut := rfl
@[simp] theorem State.setEcc_windows (c i v : Nat) : (s.setEcc c i v).windows = s.windows := rfl
@[simp] theorem State.setEcc_tap (c i v : Nat) : (s.setEcc c i v).tap = s.tap := rfl
@[simp] theorem State.setEcc_challenges (c i v : Nat) : (s.setEcc c i v).challenges = s.challenges := rfl
@[simp] theorem State.setEcc_challengeAt (c i v : Nat) : (s.setEcc c i v).challengeAt = s.challengeAt := rfl
@[simp] theorem State.setEcc_haltAt (c i v : Nat) : (s.setEcc c i v).haltAt = s.haltAt := rfl
@[simp] theorem State.setEcc_releasing (c i v : Nat) : (s.setEcc c i v).releasing = s.releasing := rfl
@[simp] theorem State.setEcc_haltDip (c i v : Nat) : (s.setEcc c i v).haltDip = s.haltDip := rfl
@[simp] theorem State.setEcc_haltEdges (c i v : Nat) : (s.setEcc c i v).haltEdges = s.haltEdges := rfl
@[simp] theorem State.setEcc_trace (c i v : Nat) : (s.setEcc c i v).trace = s.trace := rfl
@[simp] theorem State.setEcc_coreTicks (c i v : Nat) : (s.setEcc c i v).coreTicks = s.coreTicks := rfl
@[simp] theorem State.setEcc_traceFrom (c i v : Nat) : (s.setEcc c i v).traceFrom = s.traceFrom := rfl
@[simp] theorem State.setEcc_haltDecided (c i v : Nat) : (s.setEcc c i v).haltDecided = s.haltDecided := rfl
@[simp] theorem State.setEcc_awake (c i v : Nat) : (s.setEcc c i v).awake = s.awake := rfl
@[simp] theorem State.setEcc_nocHeld (c i v : Nat) : (s.setEcc c i v).nocHeld = s.nocHeld := rfl
@[simp] theorem State.setEcc_quayReqs (c i v : Nat) : (s.setEcc c i v).quayReqs = s.quayReqs := rfl
@[simp] theorem State.setEcc_nocLocked (c i v : Nat) : (s.setEcc c i v).nocLocked = s.nocLocked := rfl
@[simp] theorem State.setEcc_scratchReady (c i v : Nat) : (s.setEcc c i v).scratchReady = s.scratchReady := rfl

/-! ## modPart -/

@[simp] theorem State.modPart_pending (p : Nat) (f : Part → Part) : (s.modPart p f).pending = s.pending := rfl
@[simp] theorem State.modPart_outbox (p : Nat) (f : Part → Part) : (s.modPart p f).outbox = s.outbox := rfl
@[simp] theorem State.modPart_freeUses (p : Nat) (f : Part → Part) : (s.modPart p f).freeUses = s.freeUses := rfl
@[simp] theorem State.modPart_regs (p : Nat) (f : Part → Part) : (s.modPart p f).regs = s.regs := rfl
@[simp] theorem State.modPart_selects (p : Nat) (f : Part → Part) : (s.modPart p f).selects = s.selects := rfl
@[simp] theorem State.modPart_staging (p : Nat) (f : Part → Part) : (s.modPart p f).staging = s.staging := rfl
@[simp] theorem State.modPart_captures (p : Nat) (f : Part → Part) : (s.modPart p f).captures = s.captures := rfl
@[simp] theorem State.modPart_hiCaptures (p : Nat) (f : Part → Part) : (s.modPart p f).hiCaptures = s.hiCaptures := rfl
@[simp] theorem State.modPart_tb (p : Nat) (f : Part → Part) : (s.modPart p f).tb = s.tb := rfl
@[simp] theorem State.modPart_timeRuns (p : Nat) (f : Part → Part) : (s.modPart p f).timeRuns = s.timeRuns := rfl
@[simp] theorem State.modPart_timeRemain (p : Nat) (f : Part → Part) : (s.modPart p f).timeRemain = s.timeRemain := rfl
@[simp] theorem State.modPart_timeSince (p : Nat) (f : Part → Part) : (s.modPart p f).timeSince = s.timeSince := rfl
@[simp] theorem State.modPart_ethKicked (p : Nat) (f : Part → Part) : (s.modPart p f).ethKicked = s.ethKicked := rfl
@[simp] theorem State.modPart_health (p : Nat) (f : Part → Part) : (s.modPart p f).health = s.health := rfl
@[simp] theorem State.modPart_istore (p : Nat) (f : Part → Part) : (s.modPart p f).istore = s.istore := rfl
@[simp] theorem State.modPart_rows (p : Nat) (f : Part → Part) : (s.modPart p f).rows = s.rows := rfl
@[simp] theorem State.modPart_shadow (p : Nat) (f : Part → Part) : (s.modPart p f).shadow = s.shadow := rfl
@[simp] theorem State.modPart_canary (p : Nat) (f : Part → Part) : (s.modPart p f).canary = s.canary := rfl
@[simp] theorem State.modPart_isWritebacks (p : Nat) (f : Part → Part) : (s.modPart p f).isWritebacks = s.isWritebacks := rfl
@[simp] theorem State.modPart_lanes (p : Nat) (f : Part → Part) : (s.modPart p f).lanes = s.lanes := rfl
@[simp] theorem State.modPart_chans (p : Nat) (f : Part → Part) : (s.modPart p f).chans = s.chans := rfl
@[simp] theorem State.modPart_addrStage (p : Nat) (f : Part → Part) : (s.modPart p f).addrStage = s.addrStage := rfl
@[simp] theorem State.modPart_wdataStage (p : Nat) (f : Part → Part) : (s.modPart p f).wdataStage = s.wdataStage := rfl
@[simp] theorem State.modPart_rdata (p : Nat) (f : Part → Part) : (s.modPart p f).rdata = s.rdata := rfl
@[simp] theorem State.modPart_rpend (p : Nat) (f : Part → Part) : (s.modPart p f).rpend = s.rpend := rfl
@[simp] theorem State.modPart_fabCap (p : Nat) (f : Part → Part) : (s.modPart p f).fabCap = s.fabCap := rfl
@[simp] theorem State.modPart_fabOwn (p : Nat) (f : Part → Part) : (s.modPart p f).fabOwn = s.fabOwn := rfl
@[simp] theorem State.modPart_fabPres (p : Nat) (f : Part → Part) : (s.modPart p f).fabPres = s.fabPres := rfl
@[simp] theorem State.modPart_fabIn (p : Nat) (f : Part → Part) : (s.modPart p f).fabIn = s.fabIn := rfl
@[simp] theorem State.modPart_relBlank (p : Nat) (f : Part → Part) : (s.modPart p f).relBlank = s.relBlank := rfl
@[simp] theorem State.modPart_dmem (p : Nat) (f : Part → Part) : (s.modPart p f).dmem = s.dmem := rfl
@[simp] theorem State.modPart_banks (p : Nat) (f : Part → Part) : (s.modPart p f).banks = s.banks := rfl
@[simp] theorem State.modPart_resvBank (p : Nat) (f : Part → Part) : (s.modPart p f).resvBank = s.resvBank := rfl
@[simp] theorem State.modPart_exch (p : Nat) (f : Part → Part) : (s.modPart p f).exch = s.exch := rfl
@[simp] theorem State.modPart_exchHeld (p : Nat) (f : Part → Part) : (s.modPart p f).exchHeld = s.exchHeld := rfl
@[simp] theorem State.modPart_exchTook (p : Nat) (f : Part → Part) : (s.modPart p f).exchTook = s.exchTook := rfl
@[simp] theorem State.modPart_exchPriv (p : Nat) (f : Part → Part) : (s.modPart p f).exchPriv = s.exchPriv := rfl
@[simp] theorem State.modPart_replayExch (p : Nat) (f : Part → Part) : (s.modPart p f).replayExch = s.replayExch := rfl
@[simp] theorem State.modPart_probes (p : Nat) (f : Part → Part) : (s.modPart p f).probes = s.probes := rfl
@[simp] theorem State.modPart_onStep (p : Nat) (f : Part → Part) : (s.modPart p f).onStep = s.onStep := rfl
@[simp] theorem State.modPart_acqs (p : Nat) (f : Part → Part) : (s.modPart p f).acqs = s.acqs := rfl
@[simp] theorem State.modPart_tdcs (p : Nat) (f : Part → Part) : (s.modPart p f).tdcs = s.tdcs := rfl
@[simp] theorem State.modPart_netmap (p : Nat) (f : Part → Part) : (s.modPart p f).netmap = s.netmap := rfl
@[simp] theorem State.modPart_rxSlots (p : Nat) (f : Part → Part) : (s.modPart p f).rxSlots = s.rxSlots := rfl
@[simp] theorem State.modPart_txSlots (p : Nat) (f : Part → Part) : (s.modPart p f).txSlots = s.txSlots := rfl
@[simp] theorem State.modPart_txHeld (p : Nat) (f : Part → Part) : (s.modPart p f).txHeld = s.txHeld := rfl
@[simp] theorem State.modPart_casPorts (p : Nat) (f : Part → Part) : (s.modPart p f).casPorts = s.casPorts := rfl
@[simp] theorem State.modPart_laneSync (p : Nat) (f : Part → Part) : (s.modPart p f).laneSync = s.laneSync := rfl
@[simp] theorem State.modPart_cas (p : Nat) (f : Part → Part) : (s.modPart p f).cas = s.cas := rfl
@[simp] theorem State.modPart_frames (p : Nat) (f : Part → Part) : (s.modPart p f).frames = s.frames := rfl
@[simp] theorem State.modPart_fabric (p : Nat) (f : Part → Part) : (s.modPart p f).fabric = s.fabric := rfl
@[simp] theorem State.modPart_logbook (p : Nat) (f : Part → Part) : (s.modPart p f).logbook = s.logbook := rfl
@[simp] theorem State.modPart_log (p : Nat) (f : Part → Part) : (s.modPart p f).log = s.log := rfl
@[simp] theorem State.modPart_dipFrom (p : Nat) (f : Part → Part) : (s.modPart p f).dipFrom = s.dipFrom := rfl
@[simp] theorem State.modPart_dipLow (p : Nat) (f : Part → Part) : (s.modPart p f).dipLow = s.dipLow := rfl
@[simp] theorem State.modPart_dipTick (p : Nat) (f : Part → Part) : (s.modPart p f).dipTick = s.dipTick := rfl
@[simp] theorem State.modPart_checkByCmd (p : Nat) (f : Part → Part) : (s.modPart p f).checkByCmd = s.checkByCmd := rfl
@[simp] theorem State.modPart_dipPassed (p : Nat) (f : Part → Part) : (s.modPart p f).dipPassed = s.dipPassed := rfl
@[simp] theorem State.modPart_irqLatches (p : Nat) (f : Part → Part) : (s.modPart p f).irqLatches = s.irqLatches := rfl
@[simp] theorem State.modPart_irqDisarmed (p : Nat) (f : Part → Part) : (s.modPart p f).irqDisarmed = s.irqDisarmed := rfl
@[simp] theorem State.modPart_irqStacks (p : Nat) (f : Part → Part) : (s.modPart p f).irqStacks = s.irqStacks := rfl
@[simp] theorem State.modPart_irqHeld (p : Nat) (f : Part → Part) : (s.modPart p f).irqHeld = s.irqHeld := rfl
@[simp] theorem State.modPart_control (p : Nat) (f : Part → Part) : (s.modPart p f).control = s.control := rfl
@[simp] theorem State.modPart_records (p : Nat) (f : Part → Part) : (s.modPart p f).records = s.records := rfl
@[simp] theorem State.modPart_msixTable (p : Nat) (f : Part → Part) : (s.modPart p f).msixTable = s.msixTable := rfl
@[simp] theorem State.modPart_msixPending (p : Nat) (f : Part → Part) : (s.modPart p f).msixPending = s.msixPending := rfl
@[simp] theorem State.modPart_msixFuncMask (p : Nat) (f : Part → Part) : (s.modPart p f).msixFuncMask = s.msixFuncMask := rfl
@[simp] theorem State.modPart_cores (p : Nat) (f : Part → Part) : (s.modPart p f).cores = s.cores := rfl
@[simp] theorem State.modPart_scratch (p : Nat) (f : Part → Part) : (s.modPart p f).scratch = s.scratch := rfl
@[simp] theorem State.modPart_hms (p : Nat) (f : Part → Part) : (s.modPart p f).hms = s.hms := rfl
@[simp] theorem State.modPart_porst (p : Nat) (f : Part → Part) : (s.modPart p f).porst = s.porst := rfl
@[simp] theorem State.modPart_tripped (p : Nat) (f : Part → Part) : (s.modPart p f).tripped = s.tripped := rfl
@[simp] theorem State.modPart_freqTarget (p : Nat) (f : Part → Part) : (s.modPart p f).freqTarget = s.freqTarget := rfl
@[simp] theorem State.modPart_coolFrom (p : Nat) (f : Part → Part) : (s.modPart p f).coolFrom = s.coolFrom := rfl
@[simp] theorem State.modPart_tempFresh (p : Nat) (f : Part → Part) : (s.modPart p f).tempFresh = s.tempFresh := rfl
@[simp] theorem State.modPart_throttles (p : Nat) (f : Part → Part) : (s.modPart p f).throttles = s.throttles := rfl
@[simp] theorem State.modPart_pcie (p : Nat) (f : Part → Part) : (s.modPart p f).pcie = s.pcie := rfl
@[simp] theorem State.modPart_hostWaiting (p : Nat) (f : Part → Part) : (s.modPart p f).hostWaiting = s.hostWaiting := rfl
@[simp] theorem State.modPart_hostOut (p : Nat) (f : Part → Part) : (s.modPart p f).hostOut = s.hostOut := rfl
@[simp] theorem State.modPart_windows (p : Nat) (f : Part → Part) : (s.modPart p f).windows = s.windows := rfl
@[simp] theorem State.modPart_tap (p : Nat) (f : Part → Part) : (s.modPart p f).tap = s.tap := rfl
@[simp] theorem State.modPart_challenges (p : Nat) (f : Part → Part) : (s.modPart p f).challenges = s.challenges := rfl
@[simp] theorem State.modPart_challengeAt (p : Nat) (f : Part → Part) : (s.modPart p f).challengeAt = s.challengeAt := rfl
@[simp] theorem State.modPart_haltAt (p : Nat) (f : Part → Part) : (s.modPart p f).haltAt = s.haltAt := rfl
@[simp] theorem State.modPart_releasing (p : Nat) (f : Part → Part) : (s.modPart p f).releasing = s.releasing := rfl
@[simp] theorem State.modPart_haltDip (p : Nat) (f : Part → Part) : (s.modPart p f).haltDip = s.haltDip := rfl
@[simp] theorem State.modPart_haltEdges (p : Nat) (f : Part → Part) : (s.modPart p f).haltEdges = s.haltEdges := rfl
@[simp] theorem State.modPart_trace (p : Nat) (f : Part → Part) : (s.modPart p f).trace = s.trace := rfl
@[simp] theorem State.modPart_coreTicks (p : Nat) (f : Part → Part) : (s.modPart p f).coreTicks = s.coreTicks := rfl
@[simp] theorem State.modPart_traceFrom (p : Nat) (f : Part → Part) : (s.modPart p f).traceFrom = s.traceFrom := rfl
@[simp] theorem State.modPart_haltDecided (p : Nat) (f : Part → Part) : (s.modPart p f).haltDecided = s.haltDecided := rfl
@[simp] theorem State.modPart_awake (p : Nat) (f : Part → Part) : (s.modPart p f).awake = s.awake := rfl
@[simp] theorem State.modPart_nocHeld (p : Nat) (f : Part → Part) : (s.modPart p f).nocHeld = s.nocHeld := rfl
@[simp] theorem State.modPart_quayReqs (p : Nat) (f : Part → Part) : (s.modPart p f).quayReqs = s.quayReqs := rfl
@[simp] theorem State.modPart_nocLocked (p : Nat) (f : Part → Part) : (s.modPart p f).nocLocked = s.nocLocked := rfl
@[simp] theorem State.modPart_scratchReady (p : Nat) (f : Part → Part) : (s.modPart p f).scratchReady = s.scratchReady := rfl

/-! ## modBank -/

@[simp] theorem State.modBank_pending (b : Nat) (f : Bank → Bank) : (s.modBank b f).pending = s.pending := rfl
@[simp] theorem State.modBank_outbox (b : Nat) (f : Bank → Bank) : (s.modBank b f).outbox = s.outbox := rfl
@[simp] theorem State.modBank_freeUses (b : Nat) (f : Bank → Bank) : (s.modBank b f).freeUses = s.freeUses := rfl
@[simp] theorem State.modBank_regs (b : Nat) (f : Bank → Bank) : (s.modBank b f).regs = s.regs := rfl
@[simp] theorem State.modBank_selects (b : Nat) (f : Bank → Bank) : (s.modBank b f).selects = s.selects := rfl
@[simp] theorem State.modBank_staging (b : Nat) (f : Bank → Bank) : (s.modBank b f).staging = s.staging := rfl
@[simp] theorem State.modBank_captures (b : Nat) (f : Bank → Bank) : (s.modBank b f).captures = s.captures := rfl
@[simp] theorem State.modBank_hiCaptures (b : Nat) (f : Bank → Bank) : (s.modBank b f).hiCaptures = s.hiCaptures := rfl
@[simp] theorem State.modBank_tb (b : Nat) (f : Bank → Bank) : (s.modBank b f).tb = s.tb := rfl
@[simp] theorem State.modBank_timeRuns (b : Nat) (f : Bank → Bank) : (s.modBank b f).timeRuns = s.timeRuns := rfl
@[simp] theorem State.modBank_timeRemain (b : Nat) (f : Bank → Bank) : (s.modBank b f).timeRemain = s.timeRemain := rfl
@[simp] theorem State.modBank_timeSince (b : Nat) (f : Bank → Bank) : (s.modBank b f).timeSince = s.timeSince := rfl
@[simp] theorem State.modBank_ethKicked (b : Nat) (f : Bank → Bank) : (s.modBank b f).ethKicked = s.ethKicked := rfl
@[simp] theorem State.modBank_health (b : Nat) (f : Bank → Bank) : (s.modBank b f).health = s.health := rfl
@[simp] theorem State.modBank_istore (b : Nat) (f : Bank → Bank) : (s.modBank b f).istore = s.istore := rfl
@[simp] theorem State.modBank_rows (b : Nat) (f : Bank → Bank) : (s.modBank b f).rows = s.rows := rfl
@[simp] theorem State.modBank_shadow (b : Nat) (f : Bank → Bank) : (s.modBank b f).shadow = s.shadow := rfl
@[simp] theorem State.modBank_canary (b : Nat) (f : Bank → Bank) : (s.modBank b f).canary = s.canary := rfl
@[simp] theorem State.modBank_isWritebacks (b : Nat) (f : Bank → Bank) : (s.modBank b f).isWritebacks = s.isWritebacks := rfl
@[simp] theorem State.modBank_lanes (b : Nat) (f : Bank → Bank) : (s.modBank b f).lanes = s.lanes := rfl
@[simp] theorem State.modBank_chans (b : Nat) (f : Bank → Bank) : (s.modBank b f).chans = s.chans := rfl
@[simp] theorem State.modBank_addrStage (b : Nat) (f : Bank → Bank) : (s.modBank b f).addrStage = s.addrStage := rfl
@[simp] theorem State.modBank_wdataStage (b : Nat) (f : Bank → Bank) : (s.modBank b f).wdataStage = s.wdataStage := rfl
@[simp] theorem State.modBank_rdata (b : Nat) (f : Bank → Bank) : (s.modBank b f).rdata = s.rdata := rfl
@[simp] theorem State.modBank_rpend (b : Nat) (f : Bank → Bank) : (s.modBank b f).rpend = s.rpend := rfl
@[simp] theorem State.modBank_fabCap (b : Nat) (f : Bank → Bank) : (s.modBank b f).fabCap = s.fabCap := rfl
@[simp] theorem State.modBank_fabOwn (b : Nat) (f : Bank → Bank) : (s.modBank b f).fabOwn = s.fabOwn := rfl
@[simp] theorem State.modBank_fabPres (b : Nat) (f : Bank → Bank) : (s.modBank b f).fabPres = s.fabPres := rfl
@[simp] theorem State.modBank_fabIn (b : Nat) (f : Bank → Bank) : (s.modBank b f).fabIn = s.fabIn := rfl
@[simp] theorem State.modBank_relBlank (b : Nat) (f : Bank → Bank) : (s.modBank b f).relBlank = s.relBlank := rfl
@[simp] theorem State.modBank_parts (b : Nat) (f : Bank → Bank) : (s.modBank b f).parts = s.parts := rfl
@[simp] theorem State.modBank_dmem (b : Nat) (f : Bank → Bank) : (s.modBank b f).dmem = s.dmem := rfl
@[simp] theorem State.modBank_resvBank (b : Nat) (f : Bank → Bank) : (s.modBank b f).resvBank = s.resvBank := rfl
@[simp] theorem State.modBank_exch (b : Nat) (f : Bank → Bank) : (s.modBank b f).exch = s.exch := rfl
@[simp] theorem State.modBank_exchHeld (b : Nat) (f : Bank → Bank) : (s.modBank b f).exchHeld = s.exchHeld := rfl
@[simp] theorem State.modBank_exchTook (b : Nat) (f : Bank → Bank) : (s.modBank b f).exchTook = s.exchTook := rfl
@[simp] theorem State.modBank_exchPriv (b : Nat) (f : Bank → Bank) : (s.modBank b f).exchPriv = s.exchPriv := rfl
@[simp] theorem State.modBank_replayExch (b : Nat) (f : Bank → Bank) : (s.modBank b f).replayExch = s.replayExch := rfl
@[simp] theorem State.modBank_probes (b : Nat) (f : Bank → Bank) : (s.modBank b f).probes = s.probes := rfl
@[simp] theorem State.modBank_onStep (b : Nat) (f : Bank → Bank) : (s.modBank b f).onStep = s.onStep := rfl
@[simp] theorem State.modBank_acqs (b : Nat) (f : Bank → Bank) : (s.modBank b f).acqs = s.acqs := rfl
@[simp] theorem State.modBank_tdcs (b : Nat) (f : Bank → Bank) : (s.modBank b f).tdcs = s.tdcs := rfl
@[simp] theorem State.modBank_netmap (b : Nat) (f : Bank → Bank) : (s.modBank b f).netmap = s.netmap := rfl
@[simp] theorem State.modBank_rxSlots (b : Nat) (f : Bank → Bank) : (s.modBank b f).rxSlots = s.rxSlots := rfl
@[simp] theorem State.modBank_txSlots (b : Nat) (f : Bank → Bank) : (s.modBank b f).txSlots = s.txSlots := rfl
@[simp] theorem State.modBank_txHeld (b : Nat) (f : Bank → Bank) : (s.modBank b f).txHeld = s.txHeld := rfl
@[simp] theorem State.modBank_casPorts (b : Nat) (f : Bank → Bank) : (s.modBank b f).casPorts = s.casPorts := rfl
@[simp] theorem State.modBank_laneSync (b : Nat) (f : Bank → Bank) : (s.modBank b f).laneSync = s.laneSync := rfl
@[simp] theorem State.modBank_cas (b : Nat) (f : Bank → Bank) : (s.modBank b f).cas = s.cas := rfl
@[simp] theorem State.modBank_frames (b : Nat) (f : Bank → Bank) : (s.modBank b f).frames = s.frames := rfl
@[simp] theorem State.modBank_fabric (b : Nat) (f : Bank → Bank) : (s.modBank b f).fabric = s.fabric := rfl
@[simp] theorem State.modBank_logbook (b : Nat) (f : Bank → Bank) : (s.modBank b f).logbook = s.logbook := rfl
@[simp] theorem State.modBank_log (b : Nat) (f : Bank → Bank) : (s.modBank b f).log = s.log := rfl
@[simp] theorem State.modBank_dipFrom (b : Nat) (f : Bank → Bank) : (s.modBank b f).dipFrom = s.dipFrom := rfl
@[simp] theorem State.modBank_dipLow (b : Nat) (f : Bank → Bank) : (s.modBank b f).dipLow = s.dipLow := rfl
@[simp] theorem State.modBank_dipTick (b : Nat) (f : Bank → Bank) : (s.modBank b f).dipTick = s.dipTick := rfl
@[simp] theorem State.modBank_checkByCmd (b : Nat) (f : Bank → Bank) : (s.modBank b f).checkByCmd = s.checkByCmd := rfl
@[simp] theorem State.modBank_dipPassed (b : Nat) (f : Bank → Bank) : (s.modBank b f).dipPassed = s.dipPassed := rfl
@[simp] theorem State.modBank_irqLatches (b : Nat) (f : Bank → Bank) : (s.modBank b f).irqLatches = s.irqLatches := rfl
@[simp] theorem State.modBank_irqDisarmed (b : Nat) (f : Bank → Bank) : (s.modBank b f).irqDisarmed = s.irqDisarmed := rfl
@[simp] theorem State.modBank_irqStacks (b : Nat) (f : Bank → Bank) : (s.modBank b f).irqStacks = s.irqStacks := rfl
@[simp] theorem State.modBank_irqHeld (b : Nat) (f : Bank → Bank) : (s.modBank b f).irqHeld = s.irqHeld := rfl
@[simp] theorem State.modBank_control (b : Nat) (f : Bank → Bank) : (s.modBank b f).control = s.control := rfl
@[simp] theorem State.modBank_records (b : Nat) (f : Bank → Bank) : (s.modBank b f).records = s.records := rfl
@[simp] theorem State.modBank_msixTable (b : Nat) (f : Bank → Bank) : (s.modBank b f).msixTable = s.msixTable := rfl
@[simp] theorem State.modBank_msixPending (b : Nat) (f : Bank → Bank) : (s.modBank b f).msixPending = s.msixPending := rfl
@[simp] theorem State.modBank_msixFuncMask (b : Nat) (f : Bank → Bank) : (s.modBank b f).msixFuncMask = s.msixFuncMask := rfl
@[simp] theorem State.modBank_cores (b : Nat) (f : Bank → Bank) : (s.modBank b f).cores = s.cores := rfl
@[simp] theorem State.modBank_scratch (b : Nat) (f : Bank → Bank) : (s.modBank b f).scratch = s.scratch := rfl
@[simp] theorem State.modBank_hms (b : Nat) (f : Bank → Bank) : (s.modBank b f).hms = s.hms := rfl
@[simp] theorem State.modBank_porst (b : Nat) (f : Bank → Bank) : (s.modBank b f).porst = s.porst := rfl
@[simp] theorem State.modBank_tripped (b : Nat) (f : Bank → Bank) : (s.modBank b f).tripped = s.tripped := rfl
@[simp] theorem State.modBank_freqTarget (b : Nat) (f : Bank → Bank) : (s.modBank b f).freqTarget = s.freqTarget := rfl
@[simp] theorem State.modBank_coolFrom (b : Nat) (f : Bank → Bank) : (s.modBank b f).coolFrom = s.coolFrom := rfl
@[simp] theorem State.modBank_tempFresh (b : Nat) (f : Bank → Bank) : (s.modBank b f).tempFresh = s.tempFresh := rfl
@[simp] theorem State.modBank_throttles (b : Nat) (f : Bank → Bank) : (s.modBank b f).throttles = s.throttles := rfl
@[simp] theorem State.modBank_pcie (b : Nat) (f : Bank → Bank) : (s.modBank b f).pcie = s.pcie := rfl
@[simp] theorem State.modBank_hostWaiting (b : Nat) (f : Bank → Bank) : (s.modBank b f).hostWaiting = s.hostWaiting := rfl
@[simp] theorem State.modBank_hostOut (b : Nat) (f : Bank → Bank) : (s.modBank b f).hostOut = s.hostOut := rfl
@[simp] theorem State.modBank_windows (b : Nat) (f : Bank → Bank) : (s.modBank b f).windows = s.windows := rfl
@[simp] theorem State.modBank_tap (b : Nat) (f : Bank → Bank) : (s.modBank b f).tap = s.tap := rfl
@[simp] theorem State.modBank_challenges (b : Nat) (f : Bank → Bank) : (s.modBank b f).challenges = s.challenges := rfl
@[simp] theorem State.modBank_challengeAt (b : Nat) (f : Bank → Bank) : (s.modBank b f).challengeAt = s.challengeAt := rfl
@[simp] theorem State.modBank_haltAt (b : Nat) (f : Bank → Bank) : (s.modBank b f).haltAt = s.haltAt := rfl
@[simp] theorem State.modBank_releasing (b : Nat) (f : Bank → Bank) : (s.modBank b f).releasing = s.releasing := rfl
@[simp] theorem State.modBank_haltDip (b : Nat) (f : Bank → Bank) : (s.modBank b f).haltDip = s.haltDip := rfl
@[simp] theorem State.modBank_haltEdges (b : Nat) (f : Bank → Bank) : (s.modBank b f).haltEdges = s.haltEdges := rfl
@[simp] theorem State.modBank_trace (b : Nat) (f : Bank → Bank) : (s.modBank b f).trace = s.trace := rfl
@[simp] theorem State.modBank_coreTicks (b : Nat) (f : Bank → Bank) : (s.modBank b f).coreTicks = s.coreTicks := rfl
@[simp] theorem State.modBank_traceFrom (b : Nat) (f : Bank → Bank) : (s.modBank b f).traceFrom = s.traceFrom := rfl
@[simp] theorem State.modBank_haltDecided (b : Nat) (f : Bank → Bank) : (s.modBank b f).haltDecided = s.haltDecided := rfl
@[simp] theorem State.modBank_awake (b : Nat) (f : Bank → Bank) : (s.modBank b f).awake = s.awake := rfl
@[simp] theorem State.modBank_nocHeld (b : Nat) (f : Bank → Bank) : (s.modBank b f).nocHeld = s.nocHeld := rfl
@[simp] theorem State.modBank_quayReqs (b : Nat) (f : Bank → Bank) : (s.modBank b f).quayReqs = s.quayReqs := rfl
@[simp] theorem State.modBank_nocLocked (b : Nat) (f : Bank → Bank) : (s.modBank b f).nocLocked = s.nocLocked := rfl
@[simp] theorem State.modBank_scratchReady (b : Nat) (f : Bank → Bank) : (s.modBank b f).scratchReady = s.scratchReady := rfl

/-! ## modPort -/

@[simp] theorem State.modPort_pending (n : Nat) (f : CasPort → CasPort) : (s.modPort n f).pending = s.pending := rfl
@[simp] theorem State.modPort_outbox (n : Nat) (f : CasPort → CasPort) : (s.modPort n f).outbox = s.outbox := rfl
@[simp] theorem State.modPort_freeUses (n : Nat) (f : CasPort → CasPort) : (s.modPort n f).freeUses = s.freeUses := rfl
@[simp] theorem State.modPort_regs (n : Nat) (f : CasPort → CasPort) : (s.modPort n f).regs = s.regs := rfl
@[simp] theorem State.modPort_selects (n : Nat) (f : CasPort → CasPort) : (s.modPort n f).selects = s.selects := rfl
@[simp] theorem State.modPort_staging (n : Nat) (f : CasPort → CasPort) : (s.modPort n f).staging = s.staging := rfl
@[simp] theorem State.modPort_captures (n : Nat) (f : CasPort → CasPort) : (s.modPort n f).captures = s.captures := rfl
@[simp] theorem State.modPort_hiCaptures (n : Nat) (f : CasPort → CasPort) : (s.modPort n f).hiCaptures = s.hiCaptures := rfl
@[simp] theorem State.modPort_tb (n : Nat) (f : CasPort → CasPort) : (s.modPort n f).tb = s.tb := rfl
@[simp] theorem State.modPort_timeRuns (n : Nat) (f : CasPort → CasPort) : (s.modPort n f).timeRuns = s.timeRuns := rfl
@[simp] theorem State.modPort_timeRemain (n : Nat) (f : CasPort → CasPort) : (s.modPort n f).timeRemain = s.timeRemain := rfl
@[simp] theorem State.modPort_timeSince (n : Nat) (f : CasPort → CasPort) : (s.modPort n f).timeSince = s.timeSince := rfl
@[simp] theorem State.modPort_ethKicked (n : Nat) (f : CasPort → CasPort) : (s.modPort n f).ethKicked = s.ethKicked := rfl
@[simp] theorem State.modPort_health (n : Nat) (f : CasPort → CasPort) : (s.modPort n f).health = s.health := rfl
@[simp] theorem State.modPort_istore (n : Nat) (f : CasPort → CasPort) : (s.modPort n f).istore = s.istore := rfl
@[simp] theorem State.modPort_rows (n : Nat) (f : CasPort → CasPort) : (s.modPort n f).rows = s.rows := rfl
@[simp] theorem State.modPort_shadow (n : Nat) (f : CasPort → CasPort) : (s.modPort n f).shadow = s.shadow := rfl
@[simp] theorem State.modPort_canary (n : Nat) (f : CasPort → CasPort) : (s.modPort n f).canary = s.canary := rfl
@[simp] theorem State.modPort_isWritebacks (n : Nat) (f : CasPort → CasPort) : (s.modPort n f).isWritebacks = s.isWritebacks := rfl
@[simp] theorem State.modPort_lanes (n : Nat) (f : CasPort → CasPort) : (s.modPort n f).lanes = s.lanes := rfl
@[simp] theorem State.modPort_chans (n : Nat) (f : CasPort → CasPort) : (s.modPort n f).chans = s.chans := rfl
@[simp] theorem State.modPort_addrStage (n : Nat) (f : CasPort → CasPort) : (s.modPort n f).addrStage = s.addrStage := rfl
@[simp] theorem State.modPort_wdataStage (n : Nat) (f : CasPort → CasPort) : (s.modPort n f).wdataStage = s.wdataStage := rfl
@[simp] theorem State.modPort_rdata (n : Nat) (f : CasPort → CasPort) : (s.modPort n f).rdata = s.rdata := rfl
@[simp] theorem State.modPort_rpend (n : Nat) (f : CasPort → CasPort) : (s.modPort n f).rpend = s.rpend := rfl
@[simp] theorem State.modPort_fabCap (n : Nat) (f : CasPort → CasPort) : (s.modPort n f).fabCap = s.fabCap := rfl
@[simp] theorem State.modPort_fabOwn (n : Nat) (f : CasPort → CasPort) : (s.modPort n f).fabOwn = s.fabOwn := rfl
@[simp] theorem State.modPort_fabPres (n : Nat) (f : CasPort → CasPort) : (s.modPort n f).fabPres = s.fabPres := rfl
@[simp] theorem State.modPort_fabIn (n : Nat) (f : CasPort → CasPort) : (s.modPort n f).fabIn = s.fabIn := rfl
@[simp] theorem State.modPort_relBlank (n : Nat) (f : CasPort → CasPort) : (s.modPort n f).relBlank = s.relBlank := rfl
@[simp] theorem State.modPort_parts (n : Nat) (f : CasPort → CasPort) : (s.modPort n f).parts = s.parts := rfl
@[simp] theorem State.modPort_dmem (n : Nat) (f : CasPort → CasPort) : (s.modPort n f).dmem = s.dmem := rfl
@[simp] theorem State.modPort_banks (n : Nat) (f : CasPort → CasPort) : (s.modPort n f).banks = s.banks := rfl
@[simp] theorem State.modPort_resvBank (n : Nat) (f : CasPort → CasPort) : (s.modPort n f).resvBank = s.resvBank := rfl
@[simp] theorem State.modPort_exch (n : Nat) (f : CasPort → CasPort) : (s.modPort n f).exch = s.exch := rfl
@[simp] theorem State.modPort_exchHeld (n : Nat) (f : CasPort → CasPort) : (s.modPort n f).exchHeld = s.exchHeld := rfl
@[simp] theorem State.modPort_exchTook (n : Nat) (f : CasPort → CasPort) : (s.modPort n f).exchTook = s.exchTook := rfl
@[simp] theorem State.modPort_exchPriv (n : Nat) (f : CasPort → CasPort) : (s.modPort n f).exchPriv = s.exchPriv := rfl
@[simp] theorem State.modPort_replayExch (n : Nat) (f : CasPort → CasPort) : (s.modPort n f).replayExch = s.replayExch := rfl
@[simp] theorem State.modPort_probes (n : Nat) (f : CasPort → CasPort) : (s.modPort n f).probes = s.probes := rfl
@[simp] theorem State.modPort_onStep (n : Nat) (f : CasPort → CasPort) : (s.modPort n f).onStep = s.onStep := rfl
@[simp] theorem State.modPort_acqs (n : Nat) (f : CasPort → CasPort) : (s.modPort n f).acqs = s.acqs := rfl
@[simp] theorem State.modPort_tdcs (n : Nat) (f : CasPort → CasPort) : (s.modPort n f).tdcs = s.tdcs := rfl
@[simp] theorem State.modPort_netmap (n : Nat) (f : CasPort → CasPort) : (s.modPort n f).netmap = s.netmap := rfl
@[simp] theorem State.modPort_rxSlots (n : Nat) (f : CasPort → CasPort) : (s.modPort n f).rxSlots = s.rxSlots := rfl
@[simp] theorem State.modPort_txSlots (n : Nat) (f : CasPort → CasPort) : (s.modPort n f).txSlots = s.txSlots := rfl
@[simp] theorem State.modPort_txHeld (n : Nat) (f : CasPort → CasPort) : (s.modPort n f).txHeld = s.txHeld := rfl
@[simp] theorem State.modPort_laneSync (n : Nat) (f : CasPort → CasPort) : (s.modPort n f).laneSync = s.laneSync := rfl
@[simp] theorem State.modPort_cas (n : Nat) (f : CasPort → CasPort) : (s.modPort n f).cas = s.cas := rfl
@[simp] theorem State.modPort_frames (n : Nat) (f : CasPort → CasPort) : (s.modPort n f).frames = s.frames := rfl
@[simp] theorem State.modPort_fabric (n : Nat) (f : CasPort → CasPort) : (s.modPort n f).fabric = s.fabric := rfl
@[simp] theorem State.modPort_logbook (n : Nat) (f : CasPort → CasPort) : (s.modPort n f).logbook = s.logbook := rfl
@[simp] theorem State.modPort_log (n : Nat) (f : CasPort → CasPort) : (s.modPort n f).log = s.log := rfl
@[simp] theorem State.modPort_dipFrom (n : Nat) (f : CasPort → CasPort) : (s.modPort n f).dipFrom = s.dipFrom := rfl
@[simp] theorem State.modPort_dipLow (n : Nat) (f : CasPort → CasPort) : (s.modPort n f).dipLow = s.dipLow := rfl
@[simp] theorem State.modPort_dipTick (n : Nat) (f : CasPort → CasPort) : (s.modPort n f).dipTick = s.dipTick := rfl
@[simp] theorem State.modPort_checkByCmd (n : Nat) (f : CasPort → CasPort) : (s.modPort n f).checkByCmd = s.checkByCmd := rfl
@[simp] theorem State.modPort_dipPassed (n : Nat) (f : CasPort → CasPort) : (s.modPort n f).dipPassed = s.dipPassed := rfl
@[simp] theorem State.modPort_irqLatches (n : Nat) (f : CasPort → CasPort) : (s.modPort n f).irqLatches = s.irqLatches := rfl
@[simp] theorem State.modPort_irqDisarmed (n : Nat) (f : CasPort → CasPort) : (s.modPort n f).irqDisarmed = s.irqDisarmed := rfl
@[simp] theorem State.modPort_irqStacks (n : Nat) (f : CasPort → CasPort) : (s.modPort n f).irqStacks = s.irqStacks := rfl
@[simp] theorem State.modPort_irqHeld (n : Nat) (f : CasPort → CasPort) : (s.modPort n f).irqHeld = s.irqHeld := rfl
@[simp] theorem State.modPort_control (n : Nat) (f : CasPort → CasPort) : (s.modPort n f).control = s.control := rfl
@[simp] theorem State.modPort_records (n : Nat) (f : CasPort → CasPort) : (s.modPort n f).records = s.records := rfl
@[simp] theorem State.modPort_msixTable (n : Nat) (f : CasPort → CasPort) : (s.modPort n f).msixTable = s.msixTable := rfl
@[simp] theorem State.modPort_msixPending (n : Nat) (f : CasPort → CasPort) : (s.modPort n f).msixPending = s.msixPending := rfl
@[simp] theorem State.modPort_msixFuncMask (n : Nat) (f : CasPort → CasPort) : (s.modPort n f).msixFuncMask = s.msixFuncMask := rfl
@[simp] theorem State.modPort_cores (n : Nat) (f : CasPort → CasPort) : (s.modPort n f).cores = s.cores := rfl
@[simp] theorem State.modPort_scratch (n : Nat) (f : CasPort → CasPort) : (s.modPort n f).scratch = s.scratch := rfl
@[simp] theorem State.modPort_hms (n : Nat) (f : CasPort → CasPort) : (s.modPort n f).hms = s.hms := rfl
@[simp] theorem State.modPort_porst (n : Nat) (f : CasPort → CasPort) : (s.modPort n f).porst = s.porst := rfl
@[simp] theorem State.modPort_tripped (n : Nat) (f : CasPort → CasPort) : (s.modPort n f).tripped = s.tripped := rfl
@[simp] theorem State.modPort_freqTarget (n : Nat) (f : CasPort → CasPort) : (s.modPort n f).freqTarget = s.freqTarget := rfl
@[simp] theorem State.modPort_coolFrom (n : Nat) (f : CasPort → CasPort) : (s.modPort n f).coolFrom = s.coolFrom := rfl
@[simp] theorem State.modPort_tempFresh (n : Nat) (f : CasPort → CasPort) : (s.modPort n f).tempFresh = s.tempFresh := rfl
@[simp] theorem State.modPort_throttles (n : Nat) (f : CasPort → CasPort) : (s.modPort n f).throttles = s.throttles := rfl
@[simp] theorem State.modPort_pcie (n : Nat) (f : CasPort → CasPort) : (s.modPort n f).pcie = s.pcie := rfl
@[simp] theorem State.modPort_hostWaiting (n : Nat) (f : CasPort → CasPort) : (s.modPort n f).hostWaiting = s.hostWaiting := rfl
@[simp] theorem State.modPort_hostOut (n : Nat) (f : CasPort → CasPort) : (s.modPort n f).hostOut = s.hostOut := rfl
@[simp] theorem State.modPort_windows (n : Nat) (f : CasPort → CasPort) : (s.modPort n f).windows = s.windows := rfl
@[simp] theorem State.modPort_tap (n : Nat) (f : CasPort → CasPort) : (s.modPort n f).tap = s.tap := rfl
@[simp] theorem State.modPort_challenges (n : Nat) (f : CasPort → CasPort) : (s.modPort n f).challenges = s.challenges := rfl
@[simp] theorem State.modPort_challengeAt (n : Nat) (f : CasPort → CasPort) : (s.modPort n f).challengeAt = s.challengeAt := rfl
@[simp] theorem State.modPort_haltAt (n : Nat) (f : CasPort → CasPort) : (s.modPort n f).haltAt = s.haltAt := rfl
@[simp] theorem State.modPort_releasing (n : Nat) (f : CasPort → CasPort) : (s.modPort n f).releasing = s.releasing := rfl
@[simp] theorem State.modPort_haltDip (n : Nat) (f : CasPort → CasPort) : (s.modPort n f).haltDip = s.haltDip := rfl
@[simp] theorem State.modPort_haltEdges (n : Nat) (f : CasPort → CasPort) : (s.modPort n f).haltEdges = s.haltEdges := rfl
@[simp] theorem State.modPort_trace (n : Nat) (f : CasPort → CasPort) : (s.modPort n f).trace = s.trace := rfl
@[simp] theorem State.modPort_coreTicks (n : Nat) (f : CasPort → CasPort) : (s.modPort n f).coreTicks = s.coreTicks := rfl
@[simp] theorem State.modPort_traceFrom (n : Nat) (f : CasPort → CasPort) : (s.modPort n f).traceFrom = s.traceFrom := rfl
@[simp] theorem State.modPort_haltDecided (n : Nat) (f : CasPort → CasPort) : (s.modPort n f).haltDecided = s.haltDecided := rfl
@[simp] theorem State.modPort_awake (n : Nat) (f : CasPort → CasPort) : (s.modPort n f).awake = s.awake := rfl
@[simp] theorem State.modPort_nocHeld (n : Nat) (f : CasPort → CasPort) : (s.modPort n f).nocHeld = s.nocHeld := rfl
@[simp] theorem State.modPort_quayReqs (n : Nat) (f : CasPort → CasPort) : (s.modPort n f).quayReqs = s.quayReqs := rfl
@[simp] theorem State.modPort_nocLocked (n : Nat) (f : CasPort → CasPort) : (s.modPort n f).nocLocked = s.nocLocked := rfl
@[simp] theorem State.modPort_scratchReady (n : Nat) (f : CasPort → CasPort) : (s.modPort n f).scratchReady = s.scratchReady := rfl

/-! ## modCore -/

@[simp] theorem State.modCore_pending (m : Nat) (f : Core → Core) : (s.modCore m f).pending = s.pending := rfl
@[simp] theorem State.modCore_outbox (m : Nat) (f : Core → Core) : (s.modCore m f).outbox = s.outbox := rfl
@[simp] theorem State.modCore_freeUses (m : Nat) (f : Core → Core) : (s.modCore m f).freeUses = s.freeUses := rfl
@[simp] theorem State.modCore_regs (m : Nat) (f : Core → Core) : (s.modCore m f).regs = s.regs := rfl
@[simp] theorem State.modCore_selects (m : Nat) (f : Core → Core) : (s.modCore m f).selects = s.selects := rfl
@[simp] theorem State.modCore_staging (m : Nat) (f : Core → Core) : (s.modCore m f).staging = s.staging := rfl
@[simp] theorem State.modCore_captures (m : Nat) (f : Core → Core) : (s.modCore m f).captures = s.captures := rfl
@[simp] theorem State.modCore_hiCaptures (m : Nat) (f : Core → Core) : (s.modCore m f).hiCaptures = s.hiCaptures := rfl
@[simp] theorem State.modCore_tb (m : Nat) (f : Core → Core) : (s.modCore m f).tb = s.tb := rfl
@[simp] theorem State.modCore_timeRuns (m : Nat) (f : Core → Core) : (s.modCore m f).timeRuns = s.timeRuns := rfl
@[simp] theorem State.modCore_timeRemain (m : Nat) (f : Core → Core) : (s.modCore m f).timeRemain = s.timeRemain := rfl
@[simp] theorem State.modCore_timeSince (m : Nat) (f : Core → Core) : (s.modCore m f).timeSince = s.timeSince := rfl
@[simp] theorem State.modCore_ethKicked (m : Nat) (f : Core → Core) : (s.modCore m f).ethKicked = s.ethKicked := rfl
@[simp] theorem State.modCore_health (m : Nat) (f : Core → Core) : (s.modCore m f).health = s.health := rfl
@[simp] theorem State.modCore_istore (m : Nat) (f : Core → Core) : (s.modCore m f).istore = s.istore := rfl
@[simp] theorem State.modCore_rows (m : Nat) (f : Core → Core) : (s.modCore m f).rows = s.rows := rfl
@[simp] theorem State.modCore_shadow (m : Nat) (f : Core → Core) : (s.modCore m f).shadow = s.shadow := rfl
@[simp] theorem State.modCore_canary (m : Nat) (f : Core → Core) : (s.modCore m f).canary = s.canary := rfl
@[simp] theorem State.modCore_isWritebacks (m : Nat) (f : Core → Core) : (s.modCore m f).isWritebacks = s.isWritebacks := rfl
@[simp] theorem State.modCore_lanes (m : Nat) (f : Core → Core) : (s.modCore m f).lanes = s.lanes := rfl
@[simp] theorem State.modCore_chans (m : Nat) (f : Core → Core) : (s.modCore m f).chans = s.chans := rfl
@[simp] theorem State.modCore_addrStage (m : Nat) (f : Core → Core) : (s.modCore m f).addrStage = s.addrStage := rfl
@[simp] theorem State.modCore_wdataStage (m : Nat) (f : Core → Core) : (s.modCore m f).wdataStage = s.wdataStage := rfl
@[simp] theorem State.modCore_rdata (m : Nat) (f : Core → Core) : (s.modCore m f).rdata = s.rdata := rfl
@[simp] theorem State.modCore_rpend (m : Nat) (f : Core → Core) : (s.modCore m f).rpend = s.rpend := rfl
@[simp] theorem State.modCore_fabCap (m : Nat) (f : Core → Core) : (s.modCore m f).fabCap = s.fabCap := rfl
@[simp] theorem State.modCore_fabOwn (m : Nat) (f : Core → Core) : (s.modCore m f).fabOwn = s.fabOwn := rfl
@[simp] theorem State.modCore_fabPres (m : Nat) (f : Core → Core) : (s.modCore m f).fabPres = s.fabPres := rfl
@[simp] theorem State.modCore_fabIn (m : Nat) (f : Core → Core) : (s.modCore m f).fabIn = s.fabIn := rfl
@[simp] theorem State.modCore_relBlank (m : Nat) (f : Core → Core) : (s.modCore m f).relBlank = s.relBlank := rfl
@[simp] theorem State.modCore_parts (m : Nat) (f : Core → Core) : (s.modCore m f).parts = s.parts := rfl
@[simp] theorem State.modCore_dmem (m : Nat) (f : Core → Core) : (s.modCore m f).dmem = s.dmem := rfl
@[simp] theorem State.modCore_banks (m : Nat) (f : Core → Core) : (s.modCore m f).banks = s.banks := rfl
@[simp] theorem State.modCore_resvBank (m : Nat) (f : Core → Core) : (s.modCore m f).resvBank = s.resvBank := rfl
@[simp] theorem State.modCore_exch (m : Nat) (f : Core → Core) : (s.modCore m f).exch = s.exch := rfl
@[simp] theorem State.modCore_exchHeld (m : Nat) (f : Core → Core) : (s.modCore m f).exchHeld = s.exchHeld := rfl
@[simp] theorem State.modCore_exchTook (m : Nat) (f : Core → Core) : (s.modCore m f).exchTook = s.exchTook := rfl
@[simp] theorem State.modCore_exchPriv (m : Nat) (f : Core → Core) : (s.modCore m f).exchPriv = s.exchPriv := rfl
@[simp] theorem State.modCore_replayExch (m : Nat) (f : Core → Core) : (s.modCore m f).replayExch = s.replayExch := rfl
@[simp] theorem State.modCore_probes (m : Nat) (f : Core → Core) : (s.modCore m f).probes = s.probes := rfl
@[simp] theorem State.modCore_onStep (m : Nat) (f : Core → Core) : (s.modCore m f).onStep = s.onStep := rfl
@[simp] theorem State.modCore_acqs (m : Nat) (f : Core → Core) : (s.modCore m f).acqs = s.acqs := rfl
@[simp] theorem State.modCore_tdcs (m : Nat) (f : Core → Core) : (s.modCore m f).tdcs = s.tdcs := rfl
@[simp] theorem State.modCore_netmap (m : Nat) (f : Core → Core) : (s.modCore m f).netmap = s.netmap := rfl
@[simp] theorem State.modCore_rxSlots (m : Nat) (f : Core → Core) : (s.modCore m f).rxSlots = s.rxSlots := rfl
@[simp] theorem State.modCore_txSlots (m : Nat) (f : Core → Core) : (s.modCore m f).txSlots = s.txSlots := rfl
@[simp] theorem State.modCore_txHeld (m : Nat) (f : Core → Core) : (s.modCore m f).txHeld = s.txHeld := rfl
@[simp] theorem State.modCore_casPorts (m : Nat) (f : Core → Core) : (s.modCore m f).casPorts = s.casPorts := rfl
@[simp] theorem State.modCore_laneSync (m : Nat) (f : Core → Core) : (s.modCore m f).laneSync = s.laneSync := rfl
@[simp] theorem State.modCore_cas (m : Nat) (f : Core → Core) : (s.modCore m f).cas = s.cas := rfl
@[simp] theorem State.modCore_frames (m : Nat) (f : Core → Core) : (s.modCore m f).frames = s.frames := rfl
@[simp] theorem State.modCore_fabric (m : Nat) (f : Core → Core) : (s.modCore m f).fabric = s.fabric := rfl
@[simp] theorem State.modCore_logbook (m : Nat) (f : Core → Core) : (s.modCore m f).logbook = s.logbook := rfl
@[simp] theorem State.modCore_log (m : Nat) (f : Core → Core) : (s.modCore m f).log = s.log := rfl
@[simp] theorem State.modCore_dipFrom (m : Nat) (f : Core → Core) : (s.modCore m f).dipFrom = s.dipFrom := rfl
@[simp] theorem State.modCore_dipLow (m : Nat) (f : Core → Core) : (s.modCore m f).dipLow = s.dipLow := rfl
@[simp] theorem State.modCore_dipTick (m : Nat) (f : Core → Core) : (s.modCore m f).dipTick = s.dipTick := rfl
@[simp] theorem State.modCore_checkByCmd (m : Nat) (f : Core → Core) : (s.modCore m f).checkByCmd = s.checkByCmd := rfl
@[simp] theorem State.modCore_dipPassed (m : Nat) (f : Core → Core) : (s.modCore m f).dipPassed = s.dipPassed := rfl
@[simp] theorem State.modCore_irqLatches (m : Nat) (f : Core → Core) : (s.modCore m f).irqLatches = s.irqLatches := rfl
@[simp] theorem State.modCore_irqDisarmed (m : Nat) (f : Core → Core) : (s.modCore m f).irqDisarmed = s.irqDisarmed := rfl
@[simp] theorem State.modCore_irqStacks (m : Nat) (f : Core → Core) : (s.modCore m f).irqStacks = s.irqStacks := rfl
@[simp] theorem State.modCore_irqHeld (m : Nat) (f : Core → Core) : (s.modCore m f).irqHeld = s.irqHeld := rfl
@[simp] theorem State.modCore_control (m : Nat) (f : Core → Core) : (s.modCore m f).control = s.control := rfl
@[simp] theorem State.modCore_records (m : Nat) (f : Core → Core) : (s.modCore m f).records = s.records := rfl
@[simp] theorem State.modCore_msixTable (m : Nat) (f : Core → Core) : (s.modCore m f).msixTable = s.msixTable := rfl
@[simp] theorem State.modCore_msixPending (m : Nat) (f : Core → Core) : (s.modCore m f).msixPending = s.msixPending := rfl
@[simp] theorem State.modCore_msixFuncMask (m : Nat) (f : Core → Core) : (s.modCore m f).msixFuncMask = s.msixFuncMask := rfl
@[simp] theorem State.modCore_scratch (m : Nat) (f : Core → Core) : (s.modCore m f).scratch = s.scratch := rfl
@[simp] theorem State.modCore_hms (m : Nat) (f : Core → Core) : (s.modCore m f).hms = s.hms := rfl
@[simp] theorem State.modCore_porst (m : Nat) (f : Core → Core) : (s.modCore m f).porst = s.porst := rfl
@[simp] theorem State.modCore_tripped (m : Nat) (f : Core → Core) : (s.modCore m f).tripped = s.tripped := rfl
@[simp] theorem State.modCore_freqTarget (m : Nat) (f : Core → Core) : (s.modCore m f).freqTarget = s.freqTarget := rfl
@[simp] theorem State.modCore_coolFrom (m : Nat) (f : Core → Core) : (s.modCore m f).coolFrom = s.coolFrom := rfl
@[simp] theorem State.modCore_tempFresh (m : Nat) (f : Core → Core) : (s.modCore m f).tempFresh = s.tempFresh := rfl
@[simp] theorem State.modCore_throttles (m : Nat) (f : Core → Core) : (s.modCore m f).throttles = s.throttles := rfl
@[simp] theorem State.modCore_pcie (m : Nat) (f : Core → Core) : (s.modCore m f).pcie = s.pcie := rfl
@[simp] theorem State.modCore_hostWaiting (m : Nat) (f : Core → Core) : (s.modCore m f).hostWaiting = s.hostWaiting := rfl
@[simp] theorem State.modCore_hostOut (m : Nat) (f : Core → Core) : (s.modCore m f).hostOut = s.hostOut := rfl
@[simp] theorem State.modCore_windows (m : Nat) (f : Core → Core) : (s.modCore m f).windows = s.windows := rfl
@[simp] theorem State.modCore_tap (m : Nat) (f : Core → Core) : (s.modCore m f).tap = s.tap := rfl
@[simp] theorem State.modCore_challenges (m : Nat) (f : Core → Core) : (s.modCore m f).challenges = s.challenges := rfl
@[simp] theorem State.modCore_challengeAt (m : Nat) (f : Core → Core) : (s.modCore m f).challengeAt = s.challengeAt := rfl
@[simp] theorem State.modCore_haltAt (m : Nat) (f : Core → Core) : (s.modCore m f).haltAt = s.haltAt := rfl
@[simp] theorem State.modCore_releasing (m : Nat) (f : Core → Core) : (s.modCore m f).releasing = s.releasing := rfl
@[simp] theorem State.modCore_haltDip (m : Nat) (f : Core → Core) : (s.modCore m f).haltDip = s.haltDip := rfl
@[simp] theorem State.modCore_haltEdges (m : Nat) (f : Core → Core) : (s.modCore m f).haltEdges = s.haltEdges := rfl
@[simp] theorem State.modCore_trace (m : Nat) (f : Core → Core) : (s.modCore m f).trace = s.trace := rfl
@[simp] theorem State.modCore_coreTicks (m : Nat) (f : Core → Core) : (s.modCore m f).coreTicks = s.coreTicks := rfl
@[simp] theorem State.modCore_traceFrom (m : Nat) (f : Core → Core) : (s.modCore m f).traceFrom = s.traceFrom := rfl
@[simp] theorem State.modCore_haltDecided (m : Nat) (f : Core → Core) : (s.modCore m f).haltDecided = s.haltDecided := rfl
@[simp] theorem State.modCore_awake (m : Nat) (f : Core → Core) : (s.modCore m f).awake = s.awake := rfl
@[simp] theorem State.modCore_nocHeld (m : Nat) (f : Core → Core) : (s.modCore m f).nocHeld = s.nocHeld := rfl
@[simp] theorem State.modCore_quayReqs (m : Nat) (f : Core → Core) : (s.modCore m f).quayReqs = s.quayReqs := rfl
@[simp] theorem State.modCore_nocLocked (m : Nat) (f : Core → Core) : (s.modCore m f).nocLocked = s.nocLocked := rfl
@[simp] theorem State.modCore_scratchReady (m : Nat) (f : Core → Core) : (s.modCore m f).scratchReady = s.scratchReady := rfl

/-! ## modCas -/

@[simp] theorem State.modCas_pending (f : Cas → Cas) : (s.modCas f).pending = s.pending := rfl
@[simp] theorem State.modCas_outbox (f : Cas → Cas) : (s.modCas f).outbox = s.outbox := rfl
@[simp] theorem State.modCas_freeUses (f : Cas → Cas) : (s.modCas f).freeUses = s.freeUses := rfl
@[simp] theorem State.modCas_regs (f : Cas → Cas) : (s.modCas f).regs = s.regs := rfl
@[simp] theorem State.modCas_selects (f : Cas → Cas) : (s.modCas f).selects = s.selects := rfl
@[simp] theorem State.modCas_staging (f : Cas → Cas) : (s.modCas f).staging = s.staging := rfl
@[simp] theorem State.modCas_captures (f : Cas → Cas) : (s.modCas f).captures = s.captures := rfl
@[simp] theorem State.modCas_hiCaptures (f : Cas → Cas) : (s.modCas f).hiCaptures = s.hiCaptures := rfl
@[simp] theorem State.modCas_tb (f : Cas → Cas) : (s.modCas f).tb = s.tb := rfl
@[simp] theorem State.modCas_timeRuns (f : Cas → Cas) : (s.modCas f).timeRuns = s.timeRuns := rfl
@[simp] theorem State.modCas_timeRemain (f : Cas → Cas) : (s.modCas f).timeRemain = s.timeRemain := rfl
@[simp] theorem State.modCas_timeSince (f : Cas → Cas) : (s.modCas f).timeSince = s.timeSince := rfl
@[simp] theorem State.modCas_ethKicked (f : Cas → Cas) : (s.modCas f).ethKicked = s.ethKicked := rfl
@[simp] theorem State.modCas_health (f : Cas → Cas) : (s.modCas f).health = s.health := rfl
@[simp] theorem State.modCas_istore (f : Cas → Cas) : (s.modCas f).istore = s.istore := rfl
@[simp] theorem State.modCas_rows (f : Cas → Cas) : (s.modCas f).rows = s.rows := rfl
@[simp] theorem State.modCas_shadow (f : Cas → Cas) : (s.modCas f).shadow = s.shadow := rfl
@[simp] theorem State.modCas_canary (f : Cas → Cas) : (s.modCas f).canary = s.canary := rfl
@[simp] theorem State.modCas_isWritebacks (f : Cas → Cas) : (s.modCas f).isWritebacks = s.isWritebacks := rfl
@[simp] theorem State.modCas_lanes (f : Cas → Cas) : (s.modCas f).lanes = s.lanes := rfl
@[simp] theorem State.modCas_chans (f : Cas → Cas) : (s.modCas f).chans = s.chans := rfl
@[simp] theorem State.modCas_addrStage (f : Cas → Cas) : (s.modCas f).addrStage = s.addrStage := rfl
@[simp] theorem State.modCas_wdataStage (f : Cas → Cas) : (s.modCas f).wdataStage = s.wdataStage := rfl
@[simp] theorem State.modCas_rdata (f : Cas → Cas) : (s.modCas f).rdata = s.rdata := rfl
@[simp] theorem State.modCas_rpend (f : Cas → Cas) : (s.modCas f).rpend = s.rpend := rfl
@[simp] theorem State.modCas_fabCap (f : Cas → Cas) : (s.modCas f).fabCap = s.fabCap := rfl
@[simp] theorem State.modCas_fabOwn (f : Cas → Cas) : (s.modCas f).fabOwn = s.fabOwn := rfl
@[simp] theorem State.modCas_fabPres (f : Cas → Cas) : (s.modCas f).fabPres = s.fabPres := rfl
@[simp] theorem State.modCas_fabIn (f : Cas → Cas) : (s.modCas f).fabIn = s.fabIn := rfl
@[simp] theorem State.modCas_relBlank (f : Cas → Cas) : (s.modCas f).relBlank = s.relBlank := rfl
@[simp] theorem State.modCas_parts (f : Cas → Cas) : (s.modCas f).parts = s.parts := rfl
@[simp] theorem State.modCas_dmem (f : Cas → Cas) : (s.modCas f).dmem = s.dmem := rfl
@[simp] theorem State.modCas_banks (f : Cas → Cas) : (s.modCas f).banks = s.banks := rfl
@[simp] theorem State.modCas_resvBank (f : Cas → Cas) : (s.modCas f).resvBank = s.resvBank := rfl
@[simp] theorem State.modCas_exch (f : Cas → Cas) : (s.modCas f).exch = s.exch := rfl
@[simp] theorem State.modCas_exchHeld (f : Cas → Cas) : (s.modCas f).exchHeld = s.exchHeld := rfl
@[simp] theorem State.modCas_exchTook (f : Cas → Cas) : (s.modCas f).exchTook = s.exchTook := rfl
@[simp] theorem State.modCas_exchPriv (f : Cas → Cas) : (s.modCas f).exchPriv = s.exchPriv := rfl
@[simp] theorem State.modCas_replayExch (f : Cas → Cas) : (s.modCas f).replayExch = s.replayExch := rfl
@[simp] theorem State.modCas_probes (f : Cas → Cas) : (s.modCas f).probes = s.probes := rfl
@[simp] theorem State.modCas_onStep (f : Cas → Cas) : (s.modCas f).onStep = s.onStep := rfl
@[simp] theorem State.modCas_acqs (f : Cas → Cas) : (s.modCas f).acqs = s.acqs := rfl
@[simp] theorem State.modCas_tdcs (f : Cas → Cas) : (s.modCas f).tdcs = s.tdcs := rfl
@[simp] theorem State.modCas_netmap (f : Cas → Cas) : (s.modCas f).netmap = s.netmap := rfl
@[simp] theorem State.modCas_rxSlots (f : Cas → Cas) : (s.modCas f).rxSlots = s.rxSlots := rfl
@[simp] theorem State.modCas_txSlots (f : Cas → Cas) : (s.modCas f).txSlots = s.txSlots := rfl
@[simp] theorem State.modCas_txHeld (f : Cas → Cas) : (s.modCas f).txHeld = s.txHeld := rfl
@[simp] theorem State.modCas_casPorts (f : Cas → Cas) : (s.modCas f).casPorts = s.casPorts := rfl
@[simp] theorem State.modCas_laneSync (f : Cas → Cas) : (s.modCas f).laneSync = s.laneSync := rfl
@[simp] theorem State.modCas_frames (f : Cas → Cas) : (s.modCas f).frames = s.frames := rfl
@[simp] theorem State.modCas_fabric (f : Cas → Cas) : (s.modCas f).fabric = s.fabric := rfl
@[simp] theorem State.modCas_logbook (f : Cas → Cas) : (s.modCas f).logbook = s.logbook := rfl
@[simp] theorem State.modCas_log (f : Cas → Cas) : (s.modCas f).log = s.log := rfl
@[simp] theorem State.modCas_dipFrom (f : Cas → Cas) : (s.modCas f).dipFrom = s.dipFrom := rfl
@[simp] theorem State.modCas_dipLow (f : Cas → Cas) : (s.modCas f).dipLow = s.dipLow := rfl
@[simp] theorem State.modCas_dipTick (f : Cas → Cas) : (s.modCas f).dipTick = s.dipTick := rfl
@[simp] theorem State.modCas_checkByCmd (f : Cas → Cas) : (s.modCas f).checkByCmd = s.checkByCmd := rfl
@[simp] theorem State.modCas_dipPassed (f : Cas → Cas) : (s.modCas f).dipPassed = s.dipPassed := rfl
@[simp] theorem State.modCas_irqLatches (f : Cas → Cas) : (s.modCas f).irqLatches = s.irqLatches := rfl
@[simp] theorem State.modCas_irqDisarmed (f : Cas → Cas) : (s.modCas f).irqDisarmed = s.irqDisarmed := rfl
@[simp] theorem State.modCas_irqStacks (f : Cas → Cas) : (s.modCas f).irqStacks = s.irqStacks := rfl
@[simp] theorem State.modCas_irqHeld (f : Cas → Cas) : (s.modCas f).irqHeld = s.irqHeld := rfl
@[simp] theorem State.modCas_control (f : Cas → Cas) : (s.modCas f).control = s.control := rfl
@[simp] theorem State.modCas_records (f : Cas → Cas) : (s.modCas f).records = s.records := rfl
@[simp] theorem State.modCas_msixTable (f : Cas → Cas) : (s.modCas f).msixTable = s.msixTable := rfl
@[simp] theorem State.modCas_msixPending (f : Cas → Cas) : (s.modCas f).msixPending = s.msixPending := rfl
@[simp] theorem State.modCas_msixFuncMask (f : Cas → Cas) : (s.modCas f).msixFuncMask = s.msixFuncMask := rfl
@[simp] theorem State.modCas_cores (f : Cas → Cas) : (s.modCas f).cores = s.cores := rfl
@[simp] theorem State.modCas_scratch (f : Cas → Cas) : (s.modCas f).scratch = s.scratch := rfl
@[simp] theorem State.modCas_hms (f : Cas → Cas) : (s.modCas f).hms = s.hms := rfl
@[simp] theorem State.modCas_porst (f : Cas → Cas) : (s.modCas f).porst = s.porst := rfl
@[simp] theorem State.modCas_tripped (f : Cas → Cas) : (s.modCas f).tripped = s.tripped := rfl
@[simp] theorem State.modCas_freqTarget (f : Cas → Cas) : (s.modCas f).freqTarget = s.freqTarget := rfl
@[simp] theorem State.modCas_coolFrom (f : Cas → Cas) : (s.modCas f).coolFrom = s.coolFrom := rfl
@[simp] theorem State.modCas_tempFresh (f : Cas → Cas) : (s.modCas f).tempFresh = s.tempFresh := rfl
@[simp] theorem State.modCas_throttles (f : Cas → Cas) : (s.modCas f).throttles = s.throttles := rfl
@[simp] theorem State.modCas_pcie (f : Cas → Cas) : (s.modCas f).pcie = s.pcie := rfl
@[simp] theorem State.modCas_hostWaiting (f : Cas → Cas) : (s.modCas f).hostWaiting = s.hostWaiting := rfl
@[simp] theorem State.modCas_hostOut (f : Cas → Cas) : (s.modCas f).hostOut = s.hostOut := rfl
@[simp] theorem State.modCas_windows (f : Cas → Cas) : (s.modCas f).windows = s.windows := rfl
@[simp] theorem State.modCas_tap (f : Cas → Cas) : (s.modCas f).tap = s.tap := rfl
@[simp] theorem State.modCas_challenges (f : Cas → Cas) : (s.modCas f).challenges = s.challenges := rfl
@[simp] theorem State.modCas_challengeAt (f : Cas → Cas) : (s.modCas f).challengeAt = s.challengeAt := rfl
@[simp] theorem State.modCas_haltAt (f : Cas → Cas) : (s.modCas f).haltAt = s.haltAt := rfl
@[simp] theorem State.modCas_releasing (f : Cas → Cas) : (s.modCas f).releasing = s.releasing := rfl
@[simp] theorem State.modCas_haltDip (f : Cas → Cas) : (s.modCas f).haltDip = s.haltDip := rfl
@[simp] theorem State.modCas_haltEdges (f : Cas → Cas) : (s.modCas f).haltEdges = s.haltEdges := rfl
@[simp] theorem State.modCas_trace (f : Cas → Cas) : (s.modCas f).trace = s.trace := rfl
@[simp] theorem State.modCas_coreTicks (f : Cas → Cas) : (s.modCas f).coreTicks = s.coreTicks := rfl
@[simp] theorem State.modCas_traceFrom (f : Cas → Cas) : (s.modCas f).traceFrom = s.traceFrom := rfl
@[simp] theorem State.modCas_haltDecided (f : Cas → Cas) : (s.modCas f).haltDecided = s.haltDecided := rfl
@[simp] theorem State.modCas_awake (f : Cas → Cas) : (s.modCas f).awake = s.awake := rfl
@[simp] theorem State.modCas_nocHeld (f : Cas → Cas) : (s.modCas f).nocHeld = s.nocHeld := rfl
@[simp] theorem State.modCas_quayReqs (f : Cas → Cas) : (s.modCas f).quayReqs = s.quayReqs := rfl
@[simp] theorem State.modCas_nocLocked (f : Cas → Cas) : (s.modCas f).nocLocked = s.nocLocked := rfl
@[simp] theorem State.modCas_scratchReady (f : Cas → Cas) : (s.modCas f).scratchReady = s.scratchReady := rfl

/-! ## modAcq -/

@[simp] theorem State.modAcq_pending (u : Nat) (f : Acq → Acq) : (s.modAcq u f).pending = s.pending := rfl
@[simp] theorem State.modAcq_outbox (u : Nat) (f : Acq → Acq) : (s.modAcq u f).outbox = s.outbox := rfl
@[simp] theorem State.modAcq_freeUses (u : Nat) (f : Acq → Acq) : (s.modAcq u f).freeUses = s.freeUses := rfl
@[simp] theorem State.modAcq_regs (u : Nat) (f : Acq → Acq) : (s.modAcq u f).regs = s.regs := rfl
@[simp] theorem State.modAcq_selects (u : Nat) (f : Acq → Acq) : (s.modAcq u f).selects = s.selects := rfl
@[simp] theorem State.modAcq_staging (u : Nat) (f : Acq → Acq) : (s.modAcq u f).staging = s.staging := rfl
@[simp] theorem State.modAcq_captures (u : Nat) (f : Acq → Acq) : (s.modAcq u f).captures = s.captures := rfl
@[simp] theorem State.modAcq_hiCaptures (u : Nat) (f : Acq → Acq) : (s.modAcq u f).hiCaptures = s.hiCaptures := rfl
@[simp] theorem State.modAcq_tb (u : Nat) (f : Acq → Acq) : (s.modAcq u f).tb = s.tb := rfl
@[simp] theorem State.modAcq_timeRuns (u : Nat) (f : Acq → Acq) : (s.modAcq u f).timeRuns = s.timeRuns := rfl
@[simp] theorem State.modAcq_timeRemain (u : Nat) (f : Acq → Acq) : (s.modAcq u f).timeRemain = s.timeRemain := rfl
@[simp] theorem State.modAcq_timeSince (u : Nat) (f : Acq → Acq) : (s.modAcq u f).timeSince = s.timeSince := rfl
@[simp] theorem State.modAcq_ethKicked (u : Nat) (f : Acq → Acq) : (s.modAcq u f).ethKicked = s.ethKicked := rfl
@[simp] theorem State.modAcq_health (u : Nat) (f : Acq → Acq) : (s.modAcq u f).health = s.health := rfl
@[simp] theorem State.modAcq_istore (u : Nat) (f : Acq → Acq) : (s.modAcq u f).istore = s.istore := rfl
@[simp] theorem State.modAcq_rows (u : Nat) (f : Acq → Acq) : (s.modAcq u f).rows = s.rows := rfl
@[simp] theorem State.modAcq_shadow (u : Nat) (f : Acq → Acq) : (s.modAcq u f).shadow = s.shadow := rfl
@[simp] theorem State.modAcq_canary (u : Nat) (f : Acq → Acq) : (s.modAcq u f).canary = s.canary := rfl
@[simp] theorem State.modAcq_isWritebacks (u : Nat) (f : Acq → Acq) : (s.modAcq u f).isWritebacks = s.isWritebacks := rfl
@[simp] theorem State.modAcq_lanes (u : Nat) (f : Acq → Acq) : (s.modAcq u f).lanes = s.lanes := rfl
@[simp] theorem State.modAcq_chans (u : Nat) (f : Acq → Acq) : (s.modAcq u f).chans = s.chans := rfl
@[simp] theorem State.modAcq_addrStage (u : Nat) (f : Acq → Acq) : (s.modAcq u f).addrStage = s.addrStage := rfl
@[simp] theorem State.modAcq_wdataStage (u : Nat) (f : Acq → Acq) : (s.modAcq u f).wdataStage = s.wdataStage := rfl
@[simp] theorem State.modAcq_rdata (u : Nat) (f : Acq → Acq) : (s.modAcq u f).rdata = s.rdata := rfl
@[simp] theorem State.modAcq_rpend (u : Nat) (f : Acq → Acq) : (s.modAcq u f).rpend = s.rpend := rfl
@[simp] theorem State.modAcq_fabCap (u : Nat) (f : Acq → Acq) : (s.modAcq u f).fabCap = s.fabCap := rfl
@[simp] theorem State.modAcq_fabOwn (u : Nat) (f : Acq → Acq) : (s.modAcq u f).fabOwn = s.fabOwn := rfl
@[simp] theorem State.modAcq_fabPres (u : Nat) (f : Acq → Acq) : (s.modAcq u f).fabPres = s.fabPres := rfl
@[simp] theorem State.modAcq_fabIn (u : Nat) (f : Acq → Acq) : (s.modAcq u f).fabIn = s.fabIn := rfl
@[simp] theorem State.modAcq_relBlank (u : Nat) (f : Acq → Acq) : (s.modAcq u f).relBlank = s.relBlank := rfl
@[simp] theorem State.modAcq_parts (u : Nat) (f : Acq → Acq) : (s.modAcq u f).parts = s.parts := rfl
@[simp] theorem State.modAcq_dmem (u : Nat) (f : Acq → Acq) : (s.modAcq u f).dmem = s.dmem := rfl
@[simp] theorem State.modAcq_banks (u : Nat) (f : Acq → Acq) : (s.modAcq u f).banks = s.banks := rfl
@[simp] theorem State.modAcq_resvBank (u : Nat) (f : Acq → Acq) : (s.modAcq u f).resvBank = s.resvBank := rfl
@[simp] theorem State.modAcq_exch (u : Nat) (f : Acq → Acq) : (s.modAcq u f).exch = s.exch := rfl
@[simp] theorem State.modAcq_exchHeld (u : Nat) (f : Acq → Acq) : (s.modAcq u f).exchHeld = s.exchHeld := rfl
@[simp] theorem State.modAcq_exchTook (u : Nat) (f : Acq → Acq) : (s.modAcq u f).exchTook = s.exchTook := rfl
@[simp] theorem State.modAcq_exchPriv (u : Nat) (f : Acq → Acq) : (s.modAcq u f).exchPriv = s.exchPriv := rfl
@[simp] theorem State.modAcq_replayExch (u : Nat) (f : Acq → Acq) : (s.modAcq u f).replayExch = s.replayExch := rfl
@[simp] theorem State.modAcq_probes (u : Nat) (f : Acq → Acq) : (s.modAcq u f).probes = s.probes := rfl
@[simp] theorem State.modAcq_onStep (u : Nat) (f : Acq → Acq) : (s.modAcq u f).onStep = s.onStep := rfl
@[simp] theorem State.modAcq_tdcs (u : Nat) (f : Acq → Acq) : (s.modAcq u f).tdcs = s.tdcs := rfl
@[simp] theorem State.modAcq_netmap (u : Nat) (f : Acq → Acq) : (s.modAcq u f).netmap = s.netmap := rfl
@[simp] theorem State.modAcq_rxSlots (u : Nat) (f : Acq → Acq) : (s.modAcq u f).rxSlots = s.rxSlots := rfl
@[simp] theorem State.modAcq_txSlots (u : Nat) (f : Acq → Acq) : (s.modAcq u f).txSlots = s.txSlots := rfl
@[simp] theorem State.modAcq_txHeld (u : Nat) (f : Acq → Acq) : (s.modAcq u f).txHeld = s.txHeld := rfl
@[simp] theorem State.modAcq_casPorts (u : Nat) (f : Acq → Acq) : (s.modAcq u f).casPorts = s.casPorts := rfl
@[simp] theorem State.modAcq_laneSync (u : Nat) (f : Acq → Acq) : (s.modAcq u f).laneSync = s.laneSync := rfl
@[simp] theorem State.modAcq_cas (u : Nat) (f : Acq → Acq) : (s.modAcq u f).cas = s.cas := rfl
@[simp] theorem State.modAcq_frames (u : Nat) (f : Acq → Acq) : (s.modAcq u f).frames = s.frames := rfl
@[simp] theorem State.modAcq_fabric (u : Nat) (f : Acq → Acq) : (s.modAcq u f).fabric = s.fabric := rfl
@[simp] theorem State.modAcq_logbook (u : Nat) (f : Acq → Acq) : (s.modAcq u f).logbook = s.logbook := rfl
@[simp] theorem State.modAcq_log (u : Nat) (f : Acq → Acq) : (s.modAcq u f).log = s.log := rfl
@[simp] theorem State.modAcq_dipFrom (u : Nat) (f : Acq → Acq) : (s.modAcq u f).dipFrom = s.dipFrom := rfl
@[simp] theorem State.modAcq_dipLow (u : Nat) (f : Acq → Acq) : (s.modAcq u f).dipLow = s.dipLow := rfl
@[simp] theorem State.modAcq_dipTick (u : Nat) (f : Acq → Acq) : (s.modAcq u f).dipTick = s.dipTick := rfl
@[simp] theorem State.modAcq_checkByCmd (u : Nat) (f : Acq → Acq) : (s.modAcq u f).checkByCmd = s.checkByCmd := rfl
@[simp] theorem State.modAcq_dipPassed (u : Nat) (f : Acq → Acq) : (s.modAcq u f).dipPassed = s.dipPassed := rfl
@[simp] theorem State.modAcq_irqLatches (u : Nat) (f : Acq → Acq) : (s.modAcq u f).irqLatches = s.irqLatches := rfl
@[simp] theorem State.modAcq_irqDisarmed (u : Nat) (f : Acq → Acq) : (s.modAcq u f).irqDisarmed = s.irqDisarmed := rfl
@[simp] theorem State.modAcq_irqStacks (u : Nat) (f : Acq → Acq) : (s.modAcq u f).irqStacks = s.irqStacks := rfl
@[simp] theorem State.modAcq_irqHeld (u : Nat) (f : Acq → Acq) : (s.modAcq u f).irqHeld = s.irqHeld := rfl
@[simp] theorem State.modAcq_control (u : Nat) (f : Acq → Acq) : (s.modAcq u f).control = s.control := rfl
@[simp] theorem State.modAcq_records (u : Nat) (f : Acq → Acq) : (s.modAcq u f).records = s.records := rfl
@[simp] theorem State.modAcq_msixTable (u : Nat) (f : Acq → Acq) : (s.modAcq u f).msixTable = s.msixTable := rfl
@[simp] theorem State.modAcq_msixPending (u : Nat) (f : Acq → Acq) : (s.modAcq u f).msixPending = s.msixPending := rfl
@[simp] theorem State.modAcq_msixFuncMask (u : Nat) (f : Acq → Acq) : (s.modAcq u f).msixFuncMask = s.msixFuncMask := rfl
@[simp] theorem State.modAcq_cores (u : Nat) (f : Acq → Acq) : (s.modAcq u f).cores = s.cores := rfl
@[simp] theorem State.modAcq_scratch (u : Nat) (f : Acq → Acq) : (s.modAcq u f).scratch = s.scratch := rfl
@[simp] theorem State.modAcq_hms (u : Nat) (f : Acq → Acq) : (s.modAcq u f).hms = s.hms := rfl
@[simp] theorem State.modAcq_porst (u : Nat) (f : Acq → Acq) : (s.modAcq u f).porst = s.porst := rfl
@[simp] theorem State.modAcq_tripped (u : Nat) (f : Acq → Acq) : (s.modAcq u f).tripped = s.tripped := rfl
@[simp] theorem State.modAcq_freqTarget (u : Nat) (f : Acq → Acq) : (s.modAcq u f).freqTarget = s.freqTarget := rfl
@[simp] theorem State.modAcq_coolFrom (u : Nat) (f : Acq → Acq) : (s.modAcq u f).coolFrom = s.coolFrom := rfl
@[simp] theorem State.modAcq_tempFresh (u : Nat) (f : Acq → Acq) : (s.modAcq u f).tempFresh = s.tempFresh := rfl
@[simp] theorem State.modAcq_throttles (u : Nat) (f : Acq → Acq) : (s.modAcq u f).throttles = s.throttles := rfl
@[simp] theorem State.modAcq_pcie (u : Nat) (f : Acq → Acq) : (s.modAcq u f).pcie = s.pcie := rfl
@[simp] theorem State.modAcq_hostWaiting (u : Nat) (f : Acq → Acq) : (s.modAcq u f).hostWaiting = s.hostWaiting := rfl
@[simp] theorem State.modAcq_hostOut (u : Nat) (f : Acq → Acq) : (s.modAcq u f).hostOut = s.hostOut := rfl
@[simp] theorem State.modAcq_windows (u : Nat) (f : Acq → Acq) : (s.modAcq u f).windows = s.windows := rfl
@[simp] theorem State.modAcq_tap (u : Nat) (f : Acq → Acq) : (s.modAcq u f).tap = s.tap := rfl
@[simp] theorem State.modAcq_challenges (u : Nat) (f : Acq → Acq) : (s.modAcq u f).challenges = s.challenges := rfl
@[simp] theorem State.modAcq_challengeAt (u : Nat) (f : Acq → Acq) : (s.modAcq u f).challengeAt = s.challengeAt := rfl
@[simp] theorem State.modAcq_haltAt (u : Nat) (f : Acq → Acq) : (s.modAcq u f).haltAt = s.haltAt := rfl
@[simp] theorem State.modAcq_releasing (u : Nat) (f : Acq → Acq) : (s.modAcq u f).releasing = s.releasing := rfl
@[simp] theorem State.modAcq_haltDip (u : Nat) (f : Acq → Acq) : (s.modAcq u f).haltDip = s.haltDip := rfl
@[simp] theorem State.modAcq_haltEdges (u : Nat) (f : Acq → Acq) : (s.modAcq u f).haltEdges = s.haltEdges := rfl
@[simp] theorem State.modAcq_trace (u : Nat) (f : Acq → Acq) : (s.modAcq u f).trace = s.trace := rfl
@[simp] theorem State.modAcq_coreTicks (u : Nat) (f : Acq → Acq) : (s.modAcq u f).coreTicks = s.coreTicks := rfl
@[simp] theorem State.modAcq_traceFrom (u : Nat) (f : Acq → Acq) : (s.modAcq u f).traceFrom = s.traceFrom := rfl
@[simp] theorem State.modAcq_haltDecided (u : Nat) (f : Acq → Acq) : (s.modAcq u f).haltDecided = s.haltDecided := rfl
@[simp] theorem State.modAcq_awake (u : Nat) (f : Acq → Acq) : (s.modAcq u f).awake = s.awake := rfl
@[simp] theorem State.modAcq_nocHeld (u : Nat) (f : Acq → Acq) : (s.modAcq u f).nocHeld = s.nocHeld := rfl
@[simp] theorem State.modAcq_quayReqs (u : Nat) (f : Acq → Acq) : (s.modAcq u f).quayReqs = s.quayReqs := rfl
@[simp] theorem State.modAcq_nocLocked (u : Nat) (f : Acq → Acq) : (s.modAcq u f).nocLocked = s.nocLocked := rfl
@[simp] theorem State.modAcq_scratchReady (u : Nat) (f : Acq → Acq) : (s.modAcq u f).scratchReady = s.scratchReady := rfl

/-! ## modHms -/

@[simp] theorem State.modHms_pending (f : Hms → Hms) : (s.modHms f).pending = s.pending := rfl
@[simp] theorem State.modHms_outbox (f : Hms → Hms) : (s.modHms f).outbox = s.outbox := rfl
@[simp] theorem State.modHms_freeUses (f : Hms → Hms) : (s.modHms f).freeUses = s.freeUses := rfl
@[simp] theorem State.modHms_regs (f : Hms → Hms) : (s.modHms f).regs = s.regs := rfl
@[simp] theorem State.modHms_selects (f : Hms → Hms) : (s.modHms f).selects = s.selects := rfl
@[simp] theorem State.modHms_staging (f : Hms → Hms) : (s.modHms f).staging = s.staging := rfl
@[simp] theorem State.modHms_captures (f : Hms → Hms) : (s.modHms f).captures = s.captures := rfl
@[simp] theorem State.modHms_hiCaptures (f : Hms → Hms) : (s.modHms f).hiCaptures = s.hiCaptures := rfl
@[simp] theorem State.modHms_tb (f : Hms → Hms) : (s.modHms f).tb = s.tb := rfl
@[simp] theorem State.modHms_timeRuns (f : Hms → Hms) : (s.modHms f).timeRuns = s.timeRuns := rfl
@[simp] theorem State.modHms_timeRemain (f : Hms → Hms) : (s.modHms f).timeRemain = s.timeRemain := rfl
@[simp] theorem State.modHms_timeSince (f : Hms → Hms) : (s.modHms f).timeSince = s.timeSince := rfl
@[simp] theorem State.modHms_ethKicked (f : Hms → Hms) : (s.modHms f).ethKicked = s.ethKicked := rfl
@[simp] theorem State.modHms_health (f : Hms → Hms) : (s.modHms f).health = s.health := rfl
@[simp] theorem State.modHms_istore (f : Hms → Hms) : (s.modHms f).istore = s.istore := rfl
@[simp] theorem State.modHms_rows (f : Hms → Hms) : (s.modHms f).rows = s.rows := rfl
@[simp] theorem State.modHms_shadow (f : Hms → Hms) : (s.modHms f).shadow = s.shadow := rfl
@[simp] theorem State.modHms_canary (f : Hms → Hms) : (s.modHms f).canary = s.canary := rfl
@[simp] theorem State.modHms_isWritebacks (f : Hms → Hms) : (s.modHms f).isWritebacks = s.isWritebacks := rfl
@[simp] theorem State.modHms_lanes (f : Hms → Hms) : (s.modHms f).lanes = s.lanes := rfl
@[simp] theorem State.modHms_chans (f : Hms → Hms) : (s.modHms f).chans = s.chans := rfl
@[simp] theorem State.modHms_addrStage (f : Hms → Hms) : (s.modHms f).addrStage = s.addrStage := rfl
@[simp] theorem State.modHms_wdataStage (f : Hms → Hms) : (s.modHms f).wdataStage = s.wdataStage := rfl
@[simp] theorem State.modHms_rdata (f : Hms → Hms) : (s.modHms f).rdata = s.rdata := rfl
@[simp] theorem State.modHms_rpend (f : Hms → Hms) : (s.modHms f).rpend = s.rpend := rfl
@[simp] theorem State.modHms_fabCap (f : Hms → Hms) : (s.modHms f).fabCap = s.fabCap := rfl
@[simp] theorem State.modHms_fabOwn (f : Hms → Hms) : (s.modHms f).fabOwn = s.fabOwn := rfl
@[simp] theorem State.modHms_fabPres (f : Hms → Hms) : (s.modHms f).fabPres = s.fabPres := rfl
@[simp] theorem State.modHms_fabIn (f : Hms → Hms) : (s.modHms f).fabIn = s.fabIn := rfl
@[simp] theorem State.modHms_relBlank (f : Hms → Hms) : (s.modHms f).relBlank = s.relBlank := rfl
@[simp] theorem State.modHms_parts (f : Hms → Hms) : (s.modHms f).parts = s.parts := rfl
@[simp] theorem State.modHms_dmem (f : Hms → Hms) : (s.modHms f).dmem = s.dmem := rfl
@[simp] theorem State.modHms_banks (f : Hms → Hms) : (s.modHms f).banks = s.banks := rfl
@[simp] theorem State.modHms_resvBank (f : Hms → Hms) : (s.modHms f).resvBank = s.resvBank := rfl
@[simp] theorem State.modHms_exch (f : Hms → Hms) : (s.modHms f).exch = s.exch := rfl
@[simp] theorem State.modHms_exchHeld (f : Hms → Hms) : (s.modHms f).exchHeld = s.exchHeld := rfl
@[simp] theorem State.modHms_exchTook (f : Hms → Hms) : (s.modHms f).exchTook = s.exchTook := rfl
@[simp] theorem State.modHms_exchPriv (f : Hms → Hms) : (s.modHms f).exchPriv = s.exchPriv := rfl
@[simp] theorem State.modHms_replayExch (f : Hms → Hms) : (s.modHms f).replayExch = s.replayExch := rfl
@[simp] theorem State.modHms_probes (f : Hms → Hms) : (s.modHms f).probes = s.probes := rfl
@[simp] theorem State.modHms_onStep (f : Hms → Hms) : (s.modHms f).onStep = s.onStep := rfl
@[simp] theorem State.modHms_acqs (f : Hms → Hms) : (s.modHms f).acqs = s.acqs := rfl
@[simp] theorem State.modHms_tdcs (f : Hms → Hms) : (s.modHms f).tdcs = s.tdcs := rfl
@[simp] theorem State.modHms_netmap (f : Hms → Hms) : (s.modHms f).netmap = s.netmap := rfl
@[simp] theorem State.modHms_rxSlots (f : Hms → Hms) : (s.modHms f).rxSlots = s.rxSlots := rfl
@[simp] theorem State.modHms_txSlots (f : Hms → Hms) : (s.modHms f).txSlots = s.txSlots := rfl
@[simp] theorem State.modHms_txHeld (f : Hms → Hms) : (s.modHms f).txHeld = s.txHeld := rfl
@[simp] theorem State.modHms_casPorts (f : Hms → Hms) : (s.modHms f).casPorts = s.casPorts := rfl
@[simp] theorem State.modHms_laneSync (f : Hms → Hms) : (s.modHms f).laneSync = s.laneSync := rfl
@[simp] theorem State.modHms_cas (f : Hms → Hms) : (s.modHms f).cas = s.cas := rfl
@[simp] theorem State.modHms_frames (f : Hms → Hms) : (s.modHms f).frames = s.frames := rfl
@[simp] theorem State.modHms_fabric (f : Hms → Hms) : (s.modHms f).fabric = s.fabric := rfl
@[simp] theorem State.modHms_logbook (f : Hms → Hms) : (s.modHms f).logbook = s.logbook := rfl
@[simp] theorem State.modHms_log (f : Hms → Hms) : (s.modHms f).log = s.log := rfl
@[simp] theorem State.modHms_dipFrom (f : Hms → Hms) : (s.modHms f).dipFrom = s.dipFrom := rfl
@[simp] theorem State.modHms_dipLow (f : Hms → Hms) : (s.modHms f).dipLow = s.dipLow := rfl
@[simp] theorem State.modHms_dipTick (f : Hms → Hms) : (s.modHms f).dipTick = s.dipTick := rfl
@[simp] theorem State.modHms_checkByCmd (f : Hms → Hms) : (s.modHms f).checkByCmd = s.checkByCmd := rfl
@[simp] theorem State.modHms_dipPassed (f : Hms → Hms) : (s.modHms f).dipPassed = s.dipPassed := rfl
@[simp] theorem State.modHms_irqLatches (f : Hms → Hms) : (s.modHms f).irqLatches = s.irqLatches := rfl
@[simp] theorem State.modHms_irqDisarmed (f : Hms → Hms) : (s.modHms f).irqDisarmed = s.irqDisarmed := rfl
@[simp] theorem State.modHms_irqStacks (f : Hms → Hms) : (s.modHms f).irqStacks = s.irqStacks := rfl
@[simp] theorem State.modHms_irqHeld (f : Hms → Hms) : (s.modHms f).irqHeld = s.irqHeld := rfl
@[simp] theorem State.modHms_control (f : Hms → Hms) : (s.modHms f).control = s.control := rfl
@[simp] theorem State.modHms_records (f : Hms → Hms) : (s.modHms f).records = s.records := rfl
@[simp] theorem State.modHms_msixTable (f : Hms → Hms) : (s.modHms f).msixTable = s.msixTable := rfl
@[simp] theorem State.modHms_msixPending (f : Hms → Hms) : (s.modHms f).msixPending = s.msixPending := rfl
@[simp] theorem State.modHms_msixFuncMask (f : Hms → Hms) : (s.modHms f).msixFuncMask = s.msixFuncMask := rfl
@[simp] theorem State.modHms_cores (f : Hms → Hms) : (s.modHms f).cores = s.cores := rfl
@[simp] theorem State.modHms_scratch (f : Hms → Hms) : (s.modHms f).scratch = s.scratch := rfl
@[simp] theorem State.modHms_porst (f : Hms → Hms) : (s.modHms f).porst = s.porst := rfl
@[simp] theorem State.modHms_tripped (f : Hms → Hms) : (s.modHms f).tripped = s.tripped := rfl
@[simp] theorem State.modHms_freqTarget (f : Hms → Hms) : (s.modHms f).freqTarget = s.freqTarget := rfl
@[simp] theorem State.modHms_coolFrom (f : Hms → Hms) : (s.modHms f).coolFrom = s.coolFrom := rfl
@[simp] theorem State.modHms_tempFresh (f : Hms → Hms) : (s.modHms f).tempFresh = s.tempFresh := rfl
@[simp] theorem State.modHms_throttles (f : Hms → Hms) : (s.modHms f).throttles = s.throttles := rfl
@[simp] theorem State.modHms_pcie (f : Hms → Hms) : (s.modHms f).pcie = s.pcie := rfl
@[simp] theorem State.modHms_hostWaiting (f : Hms → Hms) : (s.modHms f).hostWaiting = s.hostWaiting := rfl
@[simp] theorem State.modHms_hostOut (f : Hms → Hms) : (s.modHms f).hostOut = s.hostOut := rfl
@[simp] theorem State.modHms_windows (f : Hms → Hms) : (s.modHms f).windows = s.windows := rfl
@[simp] theorem State.modHms_tap (f : Hms → Hms) : (s.modHms f).tap = s.tap := rfl
@[simp] theorem State.modHms_challenges (f : Hms → Hms) : (s.modHms f).challenges = s.challenges := rfl
@[simp] theorem State.modHms_challengeAt (f : Hms → Hms) : (s.modHms f).challengeAt = s.challengeAt := rfl
@[simp] theorem State.modHms_haltAt (f : Hms → Hms) : (s.modHms f).haltAt = s.haltAt := rfl
@[simp] theorem State.modHms_releasing (f : Hms → Hms) : (s.modHms f).releasing = s.releasing := rfl
@[simp] theorem State.modHms_haltDip (f : Hms → Hms) : (s.modHms f).haltDip = s.haltDip := rfl
@[simp] theorem State.modHms_haltEdges (f : Hms → Hms) : (s.modHms f).haltEdges = s.haltEdges := rfl
@[simp] theorem State.modHms_trace (f : Hms → Hms) : (s.modHms f).trace = s.trace := rfl
@[simp] theorem State.modHms_coreTicks (f : Hms → Hms) : (s.modHms f).coreTicks = s.coreTicks := rfl
@[simp] theorem State.modHms_traceFrom (f : Hms → Hms) : (s.modHms f).traceFrom = s.traceFrom := rfl
@[simp] theorem State.modHms_haltDecided (f : Hms → Hms) : (s.modHms f).haltDecided = s.haltDecided := rfl
@[simp] theorem State.modHms_awake (f : Hms → Hms) : (s.modHms f).awake = s.awake := rfl
@[simp] theorem State.modHms_nocHeld (f : Hms → Hms) : (s.modHms f).nocHeld = s.nocHeld := rfl
@[simp] theorem State.modHms_quayReqs (f : Hms → Hms) : (s.modHms f).quayReqs = s.quayReqs := rfl
@[simp] theorem State.modHms_nocLocked (f : Hms → Hms) : (s.modHms f).nocLocked = s.nocLocked := rfl
@[simp] theorem State.modHms_scratchReady (f : Hms → Hms) : (s.modHms f).scratchReady = s.scratchReady := rfl

/-! ## modControl -/

@[simp] theorem State.modControl_pending (f : Control → Control) : (s.modControl f).pending = s.pending := rfl
@[simp] theorem State.modControl_outbox (f : Control → Control) : (s.modControl f).outbox = s.outbox := rfl
@[simp] theorem State.modControl_freeUses (f : Control → Control) : (s.modControl f).freeUses = s.freeUses := rfl
@[simp] theorem State.modControl_regs (f : Control → Control) : (s.modControl f).regs = s.regs := rfl
@[simp] theorem State.modControl_selects (f : Control → Control) : (s.modControl f).selects = s.selects := rfl
@[simp] theorem State.modControl_staging (f : Control → Control) : (s.modControl f).staging = s.staging := rfl
@[simp] theorem State.modControl_captures (f : Control → Control) : (s.modControl f).captures = s.captures := rfl
@[simp] theorem State.modControl_hiCaptures (f : Control → Control) : (s.modControl f).hiCaptures = s.hiCaptures := rfl
@[simp] theorem State.modControl_tb (f : Control → Control) : (s.modControl f).tb = s.tb := rfl
@[simp] theorem State.modControl_timeRuns (f : Control → Control) : (s.modControl f).timeRuns = s.timeRuns := rfl
@[simp] theorem State.modControl_timeRemain (f : Control → Control) : (s.modControl f).timeRemain = s.timeRemain := rfl
@[simp] theorem State.modControl_timeSince (f : Control → Control) : (s.modControl f).timeSince = s.timeSince := rfl
@[simp] theorem State.modControl_ethKicked (f : Control → Control) : (s.modControl f).ethKicked = s.ethKicked := rfl
@[simp] theorem State.modControl_health (f : Control → Control) : (s.modControl f).health = s.health := rfl
@[simp] theorem State.modControl_istore (f : Control → Control) : (s.modControl f).istore = s.istore := rfl
@[simp] theorem State.modControl_rows (f : Control → Control) : (s.modControl f).rows = s.rows := rfl
@[simp] theorem State.modControl_shadow (f : Control → Control) : (s.modControl f).shadow = s.shadow := rfl
@[simp] theorem State.modControl_canary (f : Control → Control) : (s.modControl f).canary = s.canary := rfl
@[simp] theorem State.modControl_isWritebacks (f : Control → Control) : (s.modControl f).isWritebacks = s.isWritebacks := rfl
@[simp] theorem State.modControl_lanes (f : Control → Control) : (s.modControl f).lanes = s.lanes := rfl
@[simp] theorem State.modControl_chans (f : Control → Control) : (s.modControl f).chans = s.chans := rfl
@[simp] theorem State.modControl_addrStage (f : Control → Control) : (s.modControl f).addrStage = s.addrStage := rfl
@[simp] theorem State.modControl_wdataStage (f : Control → Control) : (s.modControl f).wdataStage = s.wdataStage := rfl
@[simp] theorem State.modControl_rdata (f : Control → Control) : (s.modControl f).rdata = s.rdata := rfl
@[simp] theorem State.modControl_rpend (f : Control → Control) : (s.modControl f).rpend = s.rpend := rfl
@[simp] theorem State.modControl_fabCap (f : Control → Control) : (s.modControl f).fabCap = s.fabCap := rfl
@[simp] theorem State.modControl_fabOwn (f : Control → Control) : (s.modControl f).fabOwn = s.fabOwn := rfl
@[simp] theorem State.modControl_fabPres (f : Control → Control) : (s.modControl f).fabPres = s.fabPres := rfl
@[simp] theorem State.modControl_fabIn (f : Control → Control) : (s.modControl f).fabIn = s.fabIn := rfl
@[simp] theorem State.modControl_relBlank (f : Control → Control) : (s.modControl f).relBlank = s.relBlank := rfl
@[simp] theorem State.modControl_parts (f : Control → Control) : (s.modControl f).parts = s.parts := rfl
@[simp] theorem State.modControl_dmem (f : Control → Control) : (s.modControl f).dmem = s.dmem := rfl
@[simp] theorem State.modControl_banks (f : Control → Control) : (s.modControl f).banks = s.banks := rfl
@[simp] theorem State.modControl_resvBank (f : Control → Control) : (s.modControl f).resvBank = s.resvBank := rfl
@[simp] theorem State.modControl_exch (f : Control → Control) : (s.modControl f).exch = s.exch := rfl
@[simp] theorem State.modControl_exchHeld (f : Control → Control) : (s.modControl f).exchHeld = s.exchHeld := rfl
@[simp] theorem State.modControl_exchTook (f : Control → Control) : (s.modControl f).exchTook = s.exchTook := rfl
@[simp] theorem State.modControl_exchPriv (f : Control → Control) : (s.modControl f).exchPriv = s.exchPriv := rfl
@[simp] theorem State.modControl_replayExch (f : Control → Control) : (s.modControl f).replayExch = s.replayExch := rfl
@[simp] theorem State.modControl_probes (f : Control → Control) : (s.modControl f).probes = s.probes := rfl
@[simp] theorem State.modControl_onStep (f : Control → Control) : (s.modControl f).onStep = s.onStep := rfl
@[simp] theorem State.modControl_acqs (f : Control → Control) : (s.modControl f).acqs = s.acqs := rfl
@[simp] theorem State.modControl_tdcs (f : Control → Control) : (s.modControl f).tdcs = s.tdcs := rfl
@[simp] theorem State.modControl_netmap (f : Control → Control) : (s.modControl f).netmap = s.netmap := rfl
@[simp] theorem State.modControl_rxSlots (f : Control → Control) : (s.modControl f).rxSlots = s.rxSlots := rfl
@[simp] theorem State.modControl_txSlots (f : Control → Control) : (s.modControl f).txSlots = s.txSlots := rfl
@[simp] theorem State.modControl_txHeld (f : Control → Control) : (s.modControl f).txHeld = s.txHeld := rfl
@[simp] theorem State.modControl_casPorts (f : Control → Control) : (s.modControl f).casPorts = s.casPorts := rfl
@[simp] theorem State.modControl_laneSync (f : Control → Control) : (s.modControl f).laneSync = s.laneSync := rfl
@[simp] theorem State.modControl_cas (f : Control → Control) : (s.modControl f).cas = s.cas := rfl
@[simp] theorem State.modControl_frames (f : Control → Control) : (s.modControl f).frames = s.frames := rfl
@[simp] theorem State.modControl_fabric (f : Control → Control) : (s.modControl f).fabric = s.fabric := rfl
@[simp] theorem State.modControl_logbook (f : Control → Control) : (s.modControl f).logbook = s.logbook := rfl
@[simp] theorem State.modControl_log (f : Control → Control) : (s.modControl f).log = s.log := rfl
@[simp] theorem State.modControl_dipFrom (f : Control → Control) : (s.modControl f).dipFrom = s.dipFrom := rfl
@[simp] theorem State.modControl_dipLow (f : Control → Control) : (s.modControl f).dipLow = s.dipLow := rfl
@[simp] theorem State.modControl_dipTick (f : Control → Control) : (s.modControl f).dipTick = s.dipTick := rfl
@[simp] theorem State.modControl_checkByCmd (f : Control → Control) : (s.modControl f).checkByCmd = s.checkByCmd := rfl
@[simp] theorem State.modControl_dipPassed (f : Control → Control) : (s.modControl f).dipPassed = s.dipPassed := rfl
@[simp] theorem State.modControl_irqLatches (f : Control → Control) : (s.modControl f).irqLatches = s.irqLatches := rfl
@[simp] theorem State.modControl_irqDisarmed (f : Control → Control) : (s.modControl f).irqDisarmed = s.irqDisarmed := rfl
@[simp] theorem State.modControl_irqStacks (f : Control → Control) : (s.modControl f).irqStacks = s.irqStacks := rfl
@[simp] theorem State.modControl_irqHeld (f : Control → Control) : (s.modControl f).irqHeld = s.irqHeld := rfl
@[simp] theorem State.modControl_records (f : Control → Control) : (s.modControl f).records = s.records := rfl
@[simp] theorem State.modControl_msixTable (f : Control → Control) : (s.modControl f).msixTable = s.msixTable := rfl
@[simp] theorem State.modControl_msixPending (f : Control → Control) : (s.modControl f).msixPending = s.msixPending := rfl
@[simp] theorem State.modControl_msixFuncMask (f : Control → Control) : (s.modControl f).msixFuncMask = s.msixFuncMask := rfl
@[simp] theorem State.modControl_cores (f : Control → Control) : (s.modControl f).cores = s.cores := rfl
@[simp] theorem State.modControl_scratch (f : Control → Control) : (s.modControl f).scratch = s.scratch := rfl
@[simp] theorem State.modControl_hms (f : Control → Control) : (s.modControl f).hms = s.hms := rfl
@[simp] theorem State.modControl_porst (f : Control → Control) : (s.modControl f).porst = s.porst := rfl
@[simp] theorem State.modControl_tripped (f : Control → Control) : (s.modControl f).tripped = s.tripped := rfl
@[simp] theorem State.modControl_freqTarget (f : Control → Control) : (s.modControl f).freqTarget = s.freqTarget := rfl
@[simp] theorem State.modControl_coolFrom (f : Control → Control) : (s.modControl f).coolFrom = s.coolFrom := rfl
@[simp] theorem State.modControl_tempFresh (f : Control → Control) : (s.modControl f).tempFresh = s.tempFresh := rfl
@[simp] theorem State.modControl_throttles (f : Control → Control) : (s.modControl f).throttles = s.throttles := rfl
@[simp] theorem State.modControl_pcie (f : Control → Control) : (s.modControl f).pcie = s.pcie := rfl
@[simp] theorem State.modControl_hostWaiting (f : Control → Control) : (s.modControl f).hostWaiting = s.hostWaiting := rfl
@[simp] theorem State.modControl_hostOut (f : Control → Control) : (s.modControl f).hostOut = s.hostOut := rfl
@[simp] theorem State.modControl_windows (f : Control → Control) : (s.modControl f).windows = s.windows := rfl
@[simp] theorem State.modControl_tap (f : Control → Control) : (s.modControl f).tap = s.tap := rfl
@[simp] theorem State.modControl_challenges (f : Control → Control) : (s.modControl f).challenges = s.challenges := rfl
@[simp] theorem State.modControl_challengeAt (f : Control → Control) : (s.modControl f).challengeAt = s.challengeAt := rfl
@[simp] theorem State.modControl_haltAt (f : Control → Control) : (s.modControl f).haltAt = s.haltAt := rfl
@[simp] theorem State.modControl_releasing (f : Control → Control) : (s.modControl f).releasing = s.releasing := rfl
@[simp] theorem State.modControl_haltDip (f : Control → Control) : (s.modControl f).haltDip = s.haltDip := rfl
@[simp] theorem State.modControl_haltEdges (f : Control → Control) : (s.modControl f).haltEdges = s.haltEdges := rfl
@[simp] theorem State.modControl_trace (f : Control → Control) : (s.modControl f).trace = s.trace := rfl
@[simp] theorem State.modControl_coreTicks (f : Control → Control) : (s.modControl f).coreTicks = s.coreTicks := rfl
@[simp] theorem State.modControl_traceFrom (f : Control → Control) : (s.modControl f).traceFrom = s.traceFrom := rfl
@[simp] theorem State.modControl_haltDecided (f : Control → Control) : (s.modControl f).haltDecided = s.haltDecided := rfl
@[simp] theorem State.modControl_awake (f : Control → Control) : (s.modControl f).awake = s.awake := rfl
@[simp] theorem State.modControl_nocHeld (f : Control → Control) : (s.modControl f).nocHeld = s.nocHeld := rfl
@[simp] theorem State.modControl_quayReqs (f : Control → Control) : (s.modControl f).quayReqs = s.quayReqs := rfl
@[simp] theorem State.modControl_nocLocked (f : Control → Control) : (s.modControl f).nocLocked = s.nocLocked := rfl
@[simp] theorem State.modControl_scratchReady (f : Control → Control) : (s.modControl f).scratchReady = s.scratchReady := rfl

/-! ## modFab -/

@[simp] theorem State.modFab_pending (f : Fabric → Fabric) : (s.modFab f).pending = s.pending := rfl
@[simp] theorem State.modFab_outbox (f : Fabric → Fabric) : (s.modFab f).outbox = s.outbox := rfl
@[simp] theorem State.modFab_freeUses (f : Fabric → Fabric) : (s.modFab f).freeUses = s.freeUses := rfl
@[simp] theorem State.modFab_regs (f : Fabric → Fabric) : (s.modFab f).regs = s.regs := rfl
@[simp] theorem State.modFab_selects (f : Fabric → Fabric) : (s.modFab f).selects = s.selects := rfl
@[simp] theorem State.modFab_staging (f : Fabric → Fabric) : (s.modFab f).staging = s.staging := rfl
@[simp] theorem State.modFab_captures (f : Fabric → Fabric) : (s.modFab f).captures = s.captures := rfl
@[simp] theorem State.modFab_hiCaptures (f : Fabric → Fabric) : (s.modFab f).hiCaptures = s.hiCaptures := rfl
@[simp] theorem State.modFab_tb (f : Fabric → Fabric) : (s.modFab f).tb = s.tb := rfl
@[simp] theorem State.modFab_timeRuns (f : Fabric → Fabric) : (s.modFab f).timeRuns = s.timeRuns := rfl
@[simp] theorem State.modFab_timeRemain (f : Fabric → Fabric) : (s.modFab f).timeRemain = s.timeRemain := rfl
@[simp] theorem State.modFab_timeSince (f : Fabric → Fabric) : (s.modFab f).timeSince = s.timeSince := rfl
@[simp] theorem State.modFab_ethKicked (f : Fabric → Fabric) : (s.modFab f).ethKicked = s.ethKicked := rfl
@[simp] theorem State.modFab_health (f : Fabric → Fabric) : (s.modFab f).health = s.health := rfl
@[simp] theorem State.modFab_istore (f : Fabric → Fabric) : (s.modFab f).istore = s.istore := rfl
@[simp] theorem State.modFab_rows (f : Fabric → Fabric) : (s.modFab f).rows = s.rows := rfl
@[simp] theorem State.modFab_shadow (f : Fabric → Fabric) : (s.modFab f).shadow = s.shadow := rfl
@[simp] theorem State.modFab_canary (f : Fabric → Fabric) : (s.modFab f).canary = s.canary := rfl
@[simp] theorem State.modFab_isWritebacks (f : Fabric → Fabric) : (s.modFab f).isWritebacks = s.isWritebacks := rfl
@[simp] theorem State.modFab_lanes (f : Fabric → Fabric) : (s.modFab f).lanes = s.lanes := rfl
@[simp] theorem State.modFab_chans (f : Fabric → Fabric) : (s.modFab f).chans = s.chans := rfl
@[simp] theorem State.modFab_addrStage (f : Fabric → Fabric) : (s.modFab f).addrStage = s.addrStage := rfl
@[simp] theorem State.modFab_wdataStage (f : Fabric → Fabric) : (s.modFab f).wdataStage = s.wdataStage := rfl
@[simp] theorem State.modFab_rdata (f : Fabric → Fabric) : (s.modFab f).rdata = s.rdata := rfl
@[simp] theorem State.modFab_rpend (f : Fabric → Fabric) : (s.modFab f).rpend = s.rpend := rfl
@[simp] theorem State.modFab_fabCap (f : Fabric → Fabric) : (s.modFab f).fabCap = s.fabCap := rfl
@[simp] theorem State.modFab_fabOwn (f : Fabric → Fabric) : (s.modFab f).fabOwn = s.fabOwn := rfl
@[simp] theorem State.modFab_fabPres (f : Fabric → Fabric) : (s.modFab f).fabPres = s.fabPres := rfl
@[simp] theorem State.modFab_fabIn (f : Fabric → Fabric) : (s.modFab f).fabIn = s.fabIn := rfl
@[simp] theorem State.modFab_relBlank (f : Fabric → Fabric) : (s.modFab f).relBlank = s.relBlank := rfl
@[simp] theorem State.modFab_parts (f : Fabric → Fabric) : (s.modFab f).parts = s.parts := rfl
@[simp] theorem State.modFab_dmem (f : Fabric → Fabric) : (s.modFab f).dmem = s.dmem := rfl
@[simp] theorem State.modFab_banks (f : Fabric → Fabric) : (s.modFab f).banks = s.banks := rfl
@[simp] theorem State.modFab_resvBank (f : Fabric → Fabric) : (s.modFab f).resvBank = s.resvBank := rfl
@[simp] theorem State.modFab_exch (f : Fabric → Fabric) : (s.modFab f).exch = s.exch := rfl
@[simp] theorem State.modFab_exchHeld (f : Fabric → Fabric) : (s.modFab f).exchHeld = s.exchHeld := rfl
@[simp] theorem State.modFab_exchTook (f : Fabric → Fabric) : (s.modFab f).exchTook = s.exchTook := rfl
@[simp] theorem State.modFab_exchPriv (f : Fabric → Fabric) : (s.modFab f).exchPriv = s.exchPriv := rfl
@[simp] theorem State.modFab_replayExch (f : Fabric → Fabric) : (s.modFab f).replayExch = s.replayExch := rfl
@[simp] theorem State.modFab_probes (f : Fabric → Fabric) : (s.modFab f).probes = s.probes := rfl
@[simp] theorem State.modFab_onStep (f : Fabric → Fabric) : (s.modFab f).onStep = s.onStep := rfl
@[simp] theorem State.modFab_acqs (f : Fabric → Fabric) : (s.modFab f).acqs = s.acqs := rfl
@[simp] theorem State.modFab_tdcs (f : Fabric → Fabric) : (s.modFab f).tdcs = s.tdcs := rfl
@[simp] theorem State.modFab_netmap (f : Fabric → Fabric) : (s.modFab f).netmap = s.netmap := rfl
@[simp] theorem State.modFab_rxSlots (f : Fabric → Fabric) : (s.modFab f).rxSlots = s.rxSlots := rfl
@[simp] theorem State.modFab_txSlots (f : Fabric → Fabric) : (s.modFab f).txSlots = s.txSlots := rfl
@[simp] theorem State.modFab_txHeld (f : Fabric → Fabric) : (s.modFab f).txHeld = s.txHeld := rfl
@[simp] theorem State.modFab_casPorts (f : Fabric → Fabric) : (s.modFab f).casPorts = s.casPorts := rfl
@[simp] theorem State.modFab_laneSync (f : Fabric → Fabric) : (s.modFab f).laneSync = s.laneSync := rfl
@[simp] theorem State.modFab_cas (f : Fabric → Fabric) : (s.modFab f).cas = s.cas := rfl
@[simp] theorem State.modFab_frames (f : Fabric → Fabric) : (s.modFab f).frames = s.frames := rfl
@[simp] theorem State.modFab_logbook (f : Fabric → Fabric) : (s.modFab f).logbook = s.logbook := rfl
@[simp] theorem State.modFab_log (f : Fabric → Fabric) : (s.modFab f).log = s.log := rfl
@[simp] theorem State.modFab_dipFrom (f : Fabric → Fabric) : (s.modFab f).dipFrom = s.dipFrom := rfl
@[simp] theorem State.modFab_dipLow (f : Fabric → Fabric) : (s.modFab f).dipLow = s.dipLow := rfl
@[simp] theorem State.modFab_dipTick (f : Fabric → Fabric) : (s.modFab f).dipTick = s.dipTick := rfl
@[simp] theorem State.modFab_checkByCmd (f : Fabric → Fabric) : (s.modFab f).checkByCmd = s.checkByCmd := rfl
@[simp] theorem State.modFab_dipPassed (f : Fabric → Fabric) : (s.modFab f).dipPassed = s.dipPassed := rfl
@[simp] theorem State.modFab_irqLatches (f : Fabric → Fabric) : (s.modFab f).irqLatches = s.irqLatches := rfl
@[simp] theorem State.modFab_irqDisarmed (f : Fabric → Fabric) : (s.modFab f).irqDisarmed = s.irqDisarmed := rfl
@[simp] theorem State.modFab_irqStacks (f : Fabric → Fabric) : (s.modFab f).irqStacks = s.irqStacks := rfl
@[simp] theorem State.modFab_irqHeld (f : Fabric → Fabric) : (s.modFab f).irqHeld = s.irqHeld := rfl
@[simp] theorem State.modFab_control (f : Fabric → Fabric) : (s.modFab f).control = s.control := rfl
@[simp] theorem State.modFab_records (f : Fabric → Fabric) : (s.modFab f).records = s.records := rfl
@[simp] theorem State.modFab_msixTable (f : Fabric → Fabric) : (s.modFab f).msixTable = s.msixTable := rfl
@[simp] theorem State.modFab_msixPending (f : Fabric → Fabric) : (s.modFab f).msixPending = s.msixPending := rfl
@[simp] theorem State.modFab_msixFuncMask (f : Fabric → Fabric) : (s.modFab f).msixFuncMask = s.msixFuncMask := rfl
@[simp] theorem State.modFab_cores (f : Fabric → Fabric) : (s.modFab f).cores = s.cores := rfl
@[simp] theorem State.modFab_scratch (f : Fabric → Fabric) : (s.modFab f).scratch = s.scratch := rfl
@[simp] theorem State.modFab_hms (f : Fabric → Fabric) : (s.modFab f).hms = s.hms := rfl
@[simp] theorem State.modFab_porst (f : Fabric → Fabric) : (s.modFab f).porst = s.porst := rfl
@[simp] theorem State.modFab_tripped (f : Fabric → Fabric) : (s.modFab f).tripped = s.tripped := rfl
@[simp] theorem State.modFab_freqTarget (f : Fabric → Fabric) : (s.modFab f).freqTarget = s.freqTarget := rfl
@[simp] theorem State.modFab_coolFrom (f : Fabric → Fabric) : (s.modFab f).coolFrom = s.coolFrom := rfl
@[simp] theorem State.modFab_tempFresh (f : Fabric → Fabric) : (s.modFab f).tempFresh = s.tempFresh := rfl
@[simp] theorem State.modFab_throttles (f : Fabric → Fabric) : (s.modFab f).throttles = s.throttles := rfl
@[simp] theorem State.modFab_pcie (f : Fabric → Fabric) : (s.modFab f).pcie = s.pcie := rfl
@[simp] theorem State.modFab_hostWaiting (f : Fabric → Fabric) : (s.modFab f).hostWaiting = s.hostWaiting := rfl
@[simp] theorem State.modFab_hostOut (f : Fabric → Fabric) : (s.modFab f).hostOut = s.hostOut := rfl
@[simp] theorem State.modFab_windows (f : Fabric → Fabric) : (s.modFab f).windows = s.windows := rfl
@[simp] theorem State.modFab_tap (f : Fabric → Fabric) : (s.modFab f).tap = s.tap := rfl
@[simp] theorem State.modFab_challenges (f : Fabric → Fabric) : (s.modFab f).challenges = s.challenges := rfl
@[simp] theorem State.modFab_challengeAt (f : Fabric → Fabric) : (s.modFab f).challengeAt = s.challengeAt := rfl
@[simp] theorem State.modFab_haltAt (f : Fabric → Fabric) : (s.modFab f).haltAt = s.haltAt := rfl
@[simp] theorem State.modFab_releasing (f : Fabric → Fabric) : (s.modFab f).releasing = s.releasing := rfl
@[simp] theorem State.modFab_haltDip (f : Fabric → Fabric) : (s.modFab f).haltDip = s.haltDip := rfl
@[simp] theorem State.modFab_haltEdges (f : Fabric → Fabric) : (s.modFab f).haltEdges = s.haltEdges := rfl
@[simp] theorem State.modFab_trace (f : Fabric → Fabric) : (s.modFab f).trace = s.trace := rfl
@[simp] theorem State.modFab_coreTicks (f : Fabric → Fabric) : (s.modFab f).coreTicks = s.coreTicks := rfl
@[simp] theorem State.modFab_traceFrom (f : Fabric → Fabric) : (s.modFab f).traceFrom = s.traceFrom := rfl
@[simp] theorem State.modFab_haltDecided (f : Fabric → Fabric) : (s.modFab f).haltDecided = s.haltDecided := rfl
@[simp] theorem State.modFab_awake (f : Fabric → Fabric) : (s.modFab f).awake = s.awake := rfl
@[simp] theorem State.modFab_nocHeld (f : Fabric → Fabric) : (s.modFab f).nocHeld = s.nocHeld := rfl
@[simp] theorem State.modFab_quayReqs (f : Fabric → Fabric) : (s.modFab f).quayReqs = s.quayReqs := rfl
@[simp] theorem State.modFab_nocLocked (f : Fabric → Fabric) : (s.modFab f).nocLocked = s.nocLocked := rfl
@[simp] theorem State.modFab_scratchReady (f : Fabric → Fabric) : (s.modFab f).scratchReady = s.scratchReady := rfl

/-! ## err -/

@[simp] theorem State.err_pending (p : Page) (ch code node addr : Nat) : (s.err p ch code node addr).pending = s.pending :=
  (State.err_keeps (M := 1099511627776) rfl (Keeps.refl _ s)).pending
@[simp] theorem State.err_outbox (p : Page) (ch code node addr : Nat) : (s.err p ch code node addr).outbox = s.outbox :=
  ((State.err_keeps (M := 1099511627776) rfl (Keeps.refl _ s)).same .out rfl)
@[simp] theorem State.err_selects (p : Page) (ch code node addr : Nat) : (s.err p ch code node addr).selects = s.selects :=
  ((State.err_keeps (M := 1099511627776) rfl (Keeps.refl _ s)).same .access rfl).1
@[simp] theorem State.err_staging (p : Page) (ch code node addr : Nat) : (s.err p ch code node addr).staging = s.staging :=
  ((State.err_keeps (M := 1099511627776) rfl (Keeps.refl _ s)).same .access rfl).2.1
@[simp] theorem State.err_captures (p : Page) (ch code node addr : Nat) : (s.err p ch code node addr).captures = s.captures :=
  ((State.err_keeps (M := 1099511627776) rfl (Keeps.refl _ s)).same .access rfl).2.2.1
@[simp] theorem State.err_hiCaptures (p : Page) (ch code node addr : Nat) : (s.err p ch code node addr).hiCaptures = s.hiCaptures :=
  ((State.err_keeps (M := 1099511627776) rfl (Keeps.refl _ s)).same .access rfl).2.2.2
@[simp] theorem State.err_tb (p : Page) (ch code node addr : Nat) : (s.err p ch code node addr).tb = s.tb :=
  ((State.err_keeps (M := 1099511627776) rfl (Keeps.refl _ s)).same .time rfl).1
@[simp] theorem State.err_timeRuns (p : Page) (ch code node addr : Nat) : (s.err p ch code node addr).timeRuns = s.timeRuns :=
  ((State.err_keeps (M := 1099511627776) rfl (Keeps.refl _ s)).same .time rfl).2.1
@[simp] theorem State.err_timeRemain (p : Page) (ch code node addr : Nat) : (s.err p ch code node addr).timeRemain = s.timeRemain :=
  ((State.err_keeps (M := 1099511627776) rfl (Keeps.refl _ s)).same .time rfl).2.2.1
@[simp] theorem State.err_timeSince (p : Page) (ch code node addr : Nat) : (s.err p ch code node addr).timeSince = s.timeSince :=
  ((State.err_keeps (M := 1099511627776) rfl (Keeps.refl _ s)).same .time rfl).2.2.2.1
@[simp] theorem State.err_ethKicked (p : Page) (ch code node addr : Nat) : (s.err p ch code node addr).ethKicked = s.ethKicked :=
  ((State.err_keeps (M := 1099511627776) rfl (Keeps.refl _ s)).same .ethRing rfl)
@[simp] theorem State.err_health (p : Page) (ch code node addr : Nat) : (s.err p ch code node addr).health = s.health :=
  ((State.err_keeps (M := 1099511627776) rfl (Keeps.refl _ s)).same .health rfl).1
@[simp] theorem State.err_istore (p : Page) (ch code node addr : Nat) : (s.err p ch code node addr).istore = s.istore :=
  ((State.err_keeps (M := 1099511627776) rfl (Keeps.refl _ s)).same .istore rfl).1
@[simp] theorem State.err_rows (p : Page) (ch code node addr : Nat) : (s.err p ch code node addr).rows = s.rows :=
  ((State.err_keeps (M := 1099511627776) rfl (Keeps.refl _ s)).same .rows rfl)
@[simp] theorem State.err_shadow (p : Page) (ch code node addr : Nat) : (s.err p ch code node addr).shadow = s.shadow :=
  ((State.err_keeps (M := 1099511627776) rfl (Keeps.refl _ s)).same .shadow rfl)
@[simp] theorem State.err_canary (p : Page) (ch code node addr : Nat) : (s.err p ch code node addr).canary = s.canary :=
  ((State.err_keeps (M := 1099511627776) rfl (Keeps.refl _ s)).same .health rfl).2
@[simp] theorem State.err_isWritebacks (p : Page) (ch code node addr : Nat) : (s.err p ch code node addr).isWritebacks = s.isWritebacks :=
  ((State.err_keeps (M := 1099511627776) rfl (Keeps.refl _ s)).same .istore rfl).2
@[simp] theorem State.err_lanes (p : Page) (ch code node addr : Nat) : (s.err p ch code node addr).lanes = s.lanes :=
  ((State.err_keeps (M := 1099511627776) rfl (Keeps.refl _ s)).same .orchard rfl).1
@[simp] theorem State.err_chans (p : Page) (ch code node addr : Nat) : (s.err p ch code node addr).chans = s.chans :=
  ((State.err_keeps (M := 1099511627776) rfl (Keeps.refl _ s)).same .orchard rfl).2.1
@[simp] theorem State.err_addrStage (p : Page) (ch code node addr : Nat) : (s.err p ch code node addr).addrStage = s.addrStage :=
  ((State.err_keeps (M := 1099511627776) rfl (Keeps.refl _ s)).same .orchard rfl).2.2.1
@[simp] theorem State.err_wdataStage (p : Page) (ch code node addr : Nat) : (s.err p ch code node addr).wdataStage = s.wdataStage :=
  ((State.err_keeps (M := 1099511627776) rfl (Keeps.refl _ s)).same .orchard rfl).2.2.2.1
@[simp] theorem State.err_rdata (p : Page) (ch code node addr : Nat) : (s.err p ch code node addr).rdata = s.rdata :=
  ((State.err_keeps (M := 1099511627776) rfl (Keeps.refl _ s)).same .orchard rfl).2.2.2.2.1
@[simp] theorem State.err_rpend (p : Page) (ch code node addr : Nat) : (s.err p ch code node addr).rpend = s.rpend :=
  ((State.err_keeps (M := 1099511627776) rfl (Keeps.refl _ s)).same .orchard rfl).2.2.2.2.2
@[simp] theorem State.err_fabCap (p : Page) (ch code node addr : Nat) : (s.err p ch code node addr).fabCap = s.fabCap :=
  ((State.err_keeps (M := 1099511627776) rfl (Keeps.refl _ s)).same .outbound rfl).1
@[simp] theorem State.err_fabOwn (p : Page) (ch code node addr : Nat) : (s.err p ch code node addr).fabOwn = s.fabOwn :=
  ((State.err_keeps (M := 1099511627776) rfl (Keeps.refl _ s)).same .outbound rfl).2.1
@[simp] theorem State.err_fabPres (p : Page) (ch code node addr : Nat) : (s.err p ch code node addr).fabPres = s.fabPres :=
  ((State.err_keeps (M := 1099511627776) rfl (Keeps.refl _ s)).same .outbound rfl).2.2.1
@[simp] theorem State.err_fabIn (p : Page) (ch code node addr : Nat) : (s.err p ch code node addr).fabIn = s.fabIn :=
  ((State.err_keeps (M := 1099511627776) rfl (Keeps.refl _ s)).same .outbound rfl).2.2.2.1
@[simp] theorem State.err_relBlank (p : Page) (ch code node addr : Nat) : (s.err p ch code node addr).relBlank = s.relBlank :=
  ((State.err_keeps (M := 1099511627776) rfl (Keeps.refl _ s)).same .outbound rfl).2.2.2.2
@[simp] theorem State.err_parts (p : Page) (ch code node addr : Nat) : (s.err p ch code node addr).parts = s.parts :=
  ((State.err_keeps (M := 1099511627776) rfl (Keeps.refl _ s)).same .parts rfl)
@[simp] theorem State.err_dmem (p : Page) (ch code node addr : Nat) : (s.err p ch code node addr).dmem = s.dmem :=
  ((State.err_keeps (M := 1099511627776) rfl (Keeps.refl _ s)).same .dmem rfl)
@[simp] theorem State.err_banks (p : Page) (ch code node addr : Nat) : (s.err p ch code node addr).banks = s.banks :=
  ((State.err_keeps (M := 1099511627776) rfl (Keeps.refl _ s)).same .banks rfl)
@[simp] theorem State.err_resvBank (p : Page) (ch code node addr : Nat) : (s.err p ch code node addr).resvBank = s.resvBank :=
  ((State.err_keeps (M := 1099511627776) rfl (Keeps.refl _ s)).same .resv rfl)
@[simp] theorem State.err_exch (p : Page) (ch code node addr : Nat) : (s.err p ch code node addr).exch = s.exch :=
  ((State.err_keeps (M := 1099511627776) rfl (Keeps.refl _ s)).same .exch rfl)
@[simp] theorem State.err_exchHeld (p : Page) (ch code node addr : Nat) : (s.err p ch code node addr).exchHeld = s.exchHeld :=
  ((State.err_keeps (M := 1099511627776) rfl (Keeps.refl _ s)).same .exchAux rfl).1
@[simp] theorem State.err_exchTook (p : Page) (ch code node addr : Nat) : (s.err p ch code node addr).exchTook = s.exchTook :=
  ((State.err_keeps (M := 1099511627776) rfl (Keeps.refl _ s)).same .exchAux rfl).2.1
@[simp] theorem State.err_exchPriv (p : Page) (ch code node addr : Nat) : (s.err p ch code node addr).exchPriv = s.exchPriv :=
  ((State.err_keeps (M := 1099511627776) rfl (Keeps.refl _ s)).same .exchAux rfl).2.2.1
@[simp] theorem State.err_replayExch (p : Page) (ch code node addr : Nat) : (s.err p ch code node addr).replayExch = s.replayExch :=
  ((State.err_keeps (M := 1099511627776) rfl (Keeps.refl _ s)).same .exchAux rfl).2.2.2
@[simp] theorem State.err_probes (p : Page) (ch code node addr : Nat) : (s.err p ch code node addr).probes = s.probes :=
  ((State.err_keeps (M := 1099511627776) rfl (Keeps.refl _ s)).same .acq rfl).1
@[simp] theorem State.err_onStep (p : Page) (ch code node addr : Nat) : (s.err p ch code node addr).onStep = s.onStep :=
  ((State.err_keeps (M := 1099511627776) rfl (Keeps.refl _ s)).same .acq rfl).2.1
@[simp] theorem State.err_acqs (p : Page) (ch code node addr : Nat) : (s.err p ch code node addr).acqs = s.acqs :=
  ((State.err_keeps (M := 1099511627776) rfl (Keeps.refl _ s)).same .acq rfl).2.2.1
@[simp] theorem State.err_tdcs (p : Page) (ch code node addr : Nat) : (s.err p ch code node addr).tdcs = s.tdcs :=
  ((State.err_keeps (M := 1099511627776) rfl (Keeps.refl _ s)).same .acq rfl).2.2.2
@[simp] theorem State.err_netmap (p : Page) (ch code node addr : Nat) : (s.err p ch code node addr).netmap = s.netmap :=
  ((State.err_keeps (M := 1099511627776) rfl (Keeps.refl _ s)).same .netmap rfl)
@[simp] theorem State.err_rxSlots (p : Page) (ch code node addr : Nat) : (s.err p ch code node addr).rxSlots = s.rxSlots :=
  ((State.err_keeps (M := 1099511627776) rfl (Keeps.refl _ s)).same .slots rfl).1
@[simp] theorem State.err_txSlots (p : Page) (ch code node addr : Nat) : (s.err p ch code node addr).txSlots = s.txSlots :=
  ((State.err_keeps (M := 1099511627776) rfl (Keeps.refl _ s)).same .slots rfl).2.1
@[simp] theorem State.err_txHeld (p : Page) (ch code node addr : Nat) : (s.err p ch code node addr).txHeld = s.txHeld :=
  ((State.err_keeps (M := 1099511627776) rfl (Keeps.refl _ s)).same .slots rfl).2.2
@[simp] theorem State.err_casPorts (p : Page) (ch code node addr : Nat) : (s.err p ch code node addr).casPorts = s.casPorts :=
  ((State.err_keeps (M := 1099511627776) rfl (Keeps.refl _ s)).same .ports rfl).1
@[simp] theorem State.err_laneSync (p : Page) (ch code node addr : Nat) : (s.err p ch code node addr).laneSync = s.laneSync :=
  ((State.err_keeps (M := 1099511627776) rfl (Keeps.refl _ s)).same .ports rfl).2
@[simp] theorem State.err_cas (p : Page) (ch code node addr : Nat) : (s.err p ch code node addr).cas = s.cas :=
  ((State.err_keeps (M := 1099511627776) rfl (Keeps.refl _ s)).same .cas rfl)
@[simp] theorem State.err_frames (p : Page) (ch code node addr : Nat) : (s.err p ch code node addr).frames = s.frames :=
  ((State.err_keeps (M := 1099511627776) rfl (Keeps.refl _ s)).same .frames rfl)
@[simp] theorem State.err_fabric (p : Page) (ch code node addr : Nat) : (s.err p ch code node addr).fabric = s.fabric :=
  ((State.err_keeps (M := 1099511627776) rfl (Keeps.refl _ s)).same .fabric rfl)
@[simp] theorem State.err_logbook (p : Page) (ch code node addr : Nat) : (s.err p ch code node addr).logbook = s.logbook :=
  ((State.err_keeps (M := 1099511627776) rfl (Keeps.refl _ s)).same .logbook rfl).1
@[simp] theorem State.err_log (p : Page) (ch code node addr : Nat) : (s.err p ch code node addr).log = s.log :=
  ((State.err_keeps (M := 1099511627776) rfl (Keeps.refl _ s)).same .log rfl)
@[simp] theorem State.err_dipFrom (p : Page) (ch code node addr : Nat) : (s.err p ch code node addr).dipFrom = s.dipFrom :=
  ((State.err_keeps (M := 1099511627776) rfl (Keeps.refl _ s)).same .dip rfl).1
@[simp] theorem State.err_dipLow (p : Page) (ch code node addr : Nat) : (s.err p ch code node addr).dipLow = s.dipLow :=
  ((State.err_keeps (M := 1099511627776) rfl (Keeps.refl _ s)).same .dip rfl).2.1
@[simp] theorem State.err_dipTick (p : Page) (ch code node addr : Nat) : (s.err p ch code node addr).dipTick = s.dipTick :=
  ((State.err_keeps (M := 1099511627776) rfl (Keeps.refl _ s)).same .dip rfl).2.2.1
@[simp] theorem State.err_checkByCmd (p : Page) (ch code node addr : Nat) : (s.err p ch code node addr).checkByCmd = s.checkByCmd :=
  ((State.err_keeps (M := 1099511627776) rfl (Keeps.refl _ s)).same .dip rfl).2.2.2.1
@[simp] theorem State.err_dipPassed (p : Page) (ch code node addr : Nat) : (s.err p ch code node addr).dipPassed = s.dipPassed :=
  ((State.err_keeps (M := 1099511627776) rfl (Keeps.refl _ s)).same .dip rfl).2.2.2.2
@[simp] theorem State.err_irqLatches (p : Page) (ch code node addr : Nat) : (s.err p ch code node addr).irqLatches = s.irqLatches :=
  ((State.err_keeps (M := 1099511627776) rfl (Keeps.refl _ s)).same .irq rfl).1
@[simp] theorem State.err_irqDisarmed (p : Page) (ch code node addr : Nat) : (s.err p ch code node addr).irqDisarmed = s.irqDisarmed :=
  ((State.err_keeps (M := 1099511627776) rfl (Keeps.refl _ s)).same .irq rfl).2.1
@[simp] theorem State.err_irqStacks (p : Page) (ch code node addr : Nat) : (s.err p ch code node addr).irqStacks = s.irqStacks :=
  ((State.err_keeps (M := 1099511627776) rfl (Keeps.refl _ s)).same .irqStack rfl)
@[simp] theorem State.err_irqHeld (p : Page) (ch code node addr : Nat) : (s.err p ch code node addr).irqHeld = s.irqHeld :=
  ((State.err_keeps (M := 1099511627776) rfl (Keeps.refl _ s)).same .irq rfl).2.2
@[simp] theorem State.err_control (p : Page) (ch code node addr : Nat) : (s.err p ch code node addr).control = s.control :=
  ((State.err_keeps (M := 1099511627776) rfl (Keeps.refl _ s)).same .control rfl)
@[simp] theorem State.err_records (p : Page) (ch code node addr : Nat) : (s.err p ch code node addr).records = s.records :=
  ((State.err_keeps (M := 1099511627776) rfl (Keeps.refl _ s)).same .logbook rfl).2
@[simp] theorem State.err_msixTable (p : Page) (ch code node addr : Nat) : (s.err p ch code node addr).msixTable = s.msixTable :=
  ((State.err_keeps (M := 1099511627776) rfl (Keeps.refl _ s)).same .msix rfl).1
@[simp] theorem State.err_msixPending (p : Page) (ch code node addr : Nat) : (s.err p ch code node addr).msixPending = s.msixPending :=
  ((State.err_keeps (M := 1099511627776) rfl (Keeps.refl _ s)).same .msix rfl).2.1
@[simp] theorem State.err_msixFuncMask (p : Page) (ch code node addr : Nat) : (s.err p ch code node addr).msixFuncMask = s.msixFuncMask :=
  ((State.err_keeps (M := 1099511627776) rfl (Keeps.refl _ s)).same .msix rfl).2.2
@[simp] theorem State.err_cores (p : Page) (ch code node addr : Nat) : (s.err p ch code node addr).cores = s.cores :=
  ((State.err_keeps (M := 1099511627776) rfl (Keeps.refl _ s)).same .cores rfl)
@[simp] theorem State.err_scratch (p : Page) (ch code node addr : Nat) : (s.err p ch code node addr).scratch = s.scratch :=
  ((State.err_keeps (M := 1099511627776) rfl (Keeps.refl _ s)).same .scratch rfl).1
@[simp] theorem State.err_hms (p : Page) (ch code node addr : Nat) : (s.err p ch code node addr).hms = s.hms :=
  ((State.err_keeps (M := 1099511627776) rfl (Keeps.refl _ s)).same .hms rfl)
@[simp] theorem State.err_porst (p : Page) (ch code node addr : Nat) : (s.err p ch code node addr).porst = s.porst :=
  ((State.err_keeps (M := 1099511627776) rfl (Keeps.refl _ s)).same .power rfl).1
@[simp] theorem State.err_tripped (p : Page) (ch code node addr : Nat) : (s.err p ch code node addr).tripped = s.tripped :=
  ((State.err_keeps (M := 1099511627776) rfl (Keeps.refl _ s)).same .power rfl).2.1
@[simp] theorem State.err_freqTarget (p : Page) (ch code node addr : Nat) : (s.err p ch code node addr).freqTarget = s.freqTarget :=
  ((State.err_keeps (M := 1099511627776) rfl (Keeps.refl _ s)).same .power rfl).2.2.1
@[simp] theorem State.err_coolFrom (p : Page) (ch code node addr : Nat) : (s.err p ch code node addr).coolFrom = s.coolFrom :=
  ((State.err_keeps (M := 1099511627776) rfl (Keeps.refl _ s)).same .power rfl).2.2.2.1
@[simp] theorem State.err_tempFresh (p : Page) (ch code node addr : Nat) : (s.err p ch code node addr).tempFresh = s.tempFresh :=
  ((State.err_keeps (M := 1099511627776) rfl (Keeps.refl _ s)).same .power rfl).2.2.2.2.1
@[simp] theorem State.err_throttles (p : Page) (ch code node addr : Nat) : (s.err p ch code node addr).throttles = s.throttles :=
  ((State.err_keeps (M := 1099511627776) rfl (Keeps.refl _ s)).same .power rfl).2.2.2.2.2.1
@[simp] theorem State.err_pcie (p : Page) (ch code node addr : Nat) : (s.err p ch code node addr).pcie = s.pcie :=
  ((State.err_keeps (M := 1099511627776) rfl (Keeps.refl _ s)).same .host rfl).1
@[simp] theorem State.err_hostWaiting (p : Page) (ch code node addr : Nat) : (s.err p ch code node addr).hostWaiting = s.hostWaiting :=
  ((State.err_keeps (M := 1099511627776) rfl (Keeps.refl _ s)).same .host rfl).2.1
@[simp] theorem State.err_hostOut (p : Page) (ch code node addr : Nat) : (s.err p ch code node addr).hostOut = s.hostOut :=
  ((State.err_keeps (M := 1099511627776) rfl (Keeps.refl _ s)).same .host rfl).2.2
@[simp] theorem State.err_windows (p : Page) (ch code node addr : Nat) : (s.err p ch code node addr).windows = s.windows :=
  ((State.err_keeps (M := 1099511627776) rfl (Keeps.refl _ s)).same .debug rfl).1
@[simp] theorem State.err_tap (p : Page) (ch code node addr : Nat) : (s.err p ch code node addr).tap = s.tap :=
  ((State.err_keeps (M := 1099511627776) rfl (Keeps.refl _ s)).same .tap rfl)
@[simp] theorem State.err_challenges (p : Page) (ch code node addr : Nat) : (s.err p ch code node addr).challenges = s.challenges :=
  ((State.err_keeps (M := 1099511627776) rfl (Keeps.refl _ s)).same .debug rfl).2.1
@[simp] theorem State.err_challengeAt (p : Page) (ch code node addr : Nat) : (s.err p ch code node addr).challengeAt = s.challengeAt :=
  ((State.err_keeps (M := 1099511627776) rfl (Keeps.refl _ s)).same .debug rfl).2.2.1
@[simp] theorem State.err_haltAt (p : Page) (ch code node addr : Nat) : (s.err p ch code node addr).haltAt = s.haltAt :=
  ((State.err_keeps (M := 1099511627776) rfl (Keeps.refl _ s)).same .debug rfl).2.2.2.1
@[simp] theorem State.err_releasing (p : Page) (ch code node addr : Nat) : (s.err p ch code node addr).releasing = s.releasing :=
  ((State.err_keeps (M := 1099511627776) rfl (Keeps.refl _ s)).same .debug rfl).2.2.2.2.1
@[simp] theorem State.err_haltDip (p : Page) (ch code node addr : Nat) : (s.err p ch code node addr).haltDip = s.haltDip :=
  ((State.err_keeps (M := 1099511627776) rfl (Keeps.refl _ s)).same .debug rfl).2.2.2.2.2.1
@[simp] theorem State.err_haltEdges (p : Page) (ch code node addr : Nat) : (s.err p ch code node addr).haltEdges = s.haltEdges :=
  ((State.err_keeps (M := 1099511627776) rfl (Keeps.refl _ s)).same .debug rfl).2.2.2.2.2.2
@[simp] theorem State.err_trace (p : Page) (ch code node addr : Nat) : (s.err p ch code node addr).trace = s.trace :=
  ((State.err_keeps (M := 1099511627776) rfl (Keeps.refl _ s)).same .trace rfl).1
@[simp] theorem State.err_coreTicks (p : Page) (ch code node addr : Nat) : (s.err p ch code node addr).coreTicks = s.coreTicks :=
  ((State.err_keeps (M := 1099511627776) rfl (Keeps.refl _ s)).same .time rfl).2.2.2.2
@[simp] theorem State.err_traceFrom (p : Page) (ch code node addr : Nat) : (s.err p ch code node addr).traceFrom = s.traceFrom :=
  ((State.err_keeps (M := 1099511627776) rfl (Keeps.refl _ s)).same .trace rfl).2
@[simp] theorem State.err_haltDecided (p : Page) (ch code node addr : Nat) : (s.err p ch code node addr).haltDecided = s.haltDecided :=
  ((State.err_keeps (M := 1099511627776) rfl (Keeps.refl _ s)).same .halts rfl)
@[simp] theorem State.err_awake (p : Page) (ch code node addr : Nat) : (s.err p ch code node addr).awake = s.awake :=
  ((State.err_keeps (M := 1099511627776) rfl (Keeps.refl _ s)).same .power rfl).2.2.2.2.2.2
@[simp] theorem State.err_nocHeld (p : Page) (ch code node addr : Nat) : (s.err p ch code node addr).nocHeld = s.nocHeld :=
  ((State.err_keeps (M := 1099511627776) rfl (Keeps.refl _ s)).same .noc rfl).1
@[simp] theorem State.err_quayReqs (p : Page) (ch code node addr : Nat) : (s.err p ch code node addr).quayReqs = s.quayReqs :=
  ((State.err_keeps (M := 1099511627776) rfl (Keeps.refl _ s)).same .noc rfl).2.1
@[simp] theorem State.err_nocLocked (p : Page) (ch code node addr : Nat) : (s.err p ch code node addr).nocLocked = s.nocLocked :=
  ((State.err_keeps (M := 1099511627776) rfl (Keeps.refl _ s)).same .noc rfl).2.2
@[simp] theorem State.err_scratchReady (p : Page) (ch code node addr : Nat) : (s.err p ch code node addr).scratchReady = s.scratchReady :=
  ((State.err_keeps (M := 1099511627776) rfl (Keeps.refl _ s)).same .scratch rfl).2

/-! ## errReg -/

@[simp] theorem State.errReg_pending (a : Accessor) (p : Page) (ch off code : Nat) : (s.errReg a p ch off code).pending = s.pending :=
  (State.errReg_keeps (M := 1099511627776) rfl (Keeps.refl _ s)).pending
@[simp] theorem State.errReg_outbox (a : Accessor) (p : Page) (ch off code : Nat) : (s.errReg a p ch off code).outbox = s.outbox :=
  ((State.errReg_keeps (M := 1099511627776) rfl (Keeps.refl _ s)).same .out rfl)
@[simp] theorem State.errReg_selects (a : Accessor) (p : Page) (ch off code : Nat) : (s.errReg a p ch off code).selects = s.selects :=
  ((State.errReg_keeps (M := 1099511627776) rfl (Keeps.refl _ s)).same .access rfl).1
@[simp] theorem State.errReg_staging (a : Accessor) (p : Page) (ch off code : Nat) : (s.errReg a p ch off code).staging = s.staging :=
  ((State.errReg_keeps (M := 1099511627776) rfl (Keeps.refl _ s)).same .access rfl).2.1
@[simp] theorem State.errReg_captures (a : Accessor) (p : Page) (ch off code : Nat) : (s.errReg a p ch off code).captures = s.captures :=
  ((State.errReg_keeps (M := 1099511627776) rfl (Keeps.refl _ s)).same .access rfl).2.2.1
@[simp] theorem State.errReg_hiCaptures (a : Accessor) (p : Page) (ch off code : Nat) : (s.errReg a p ch off code).hiCaptures = s.hiCaptures :=
  ((State.errReg_keeps (M := 1099511627776) rfl (Keeps.refl _ s)).same .access rfl).2.2.2
@[simp] theorem State.errReg_tb (a : Accessor) (p : Page) (ch off code : Nat) : (s.errReg a p ch off code).tb = s.tb :=
  ((State.errReg_keeps (M := 1099511627776) rfl (Keeps.refl _ s)).same .time rfl).1
@[simp] theorem State.errReg_timeRuns (a : Accessor) (p : Page) (ch off code : Nat) : (s.errReg a p ch off code).timeRuns = s.timeRuns :=
  ((State.errReg_keeps (M := 1099511627776) rfl (Keeps.refl _ s)).same .time rfl).2.1
@[simp] theorem State.errReg_timeRemain (a : Accessor) (p : Page) (ch off code : Nat) : (s.errReg a p ch off code).timeRemain = s.timeRemain :=
  ((State.errReg_keeps (M := 1099511627776) rfl (Keeps.refl _ s)).same .time rfl).2.2.1
@[simp] theorem State.errReg_timeSince (a : Accessor) (p : Page) (ch off code : Nat) : (s.errReg a p ch off code).timeSince = s.timeSince :=
  ((State.errReg_keeps (M := 1099511627776) rfl (Keeps.refl _ s)).same .time rfl).2.2.2.1
@[simp] theorem State.errReg_ethKicked (a : Accessor) (p : Page) (ch off code : Nat) : (s.errReg a p ch off code).ethKicked = s.ethKicked :=
  ((State.errReg_keeps (M := 1099511627776) rfl (Keeps.refl _ s)).same .ethRing rfl)
@[simp] theorem State.errReg_health (a : Accessor) (p : Page) (ch off code : Nat) : (s.errReg a p ch off code).health = s.health :=
  ((State.errReg_keeps (M := 1099511627776) rfl (Keeps.refl _ s)).same .health rfl).1
@[simp] theorem State.errReg_istore (a : Accessor) (p : Page) (ch off code : Nat) : (s.errReg a p ch off code).istore = s.istore :=
  ((State.errReg_keeps (M := 1099511627776) rfl (Keeps.refl _ s)).same .istore rfl).1
@[simp] theorem State.errReg_rows (a : Accessor) (p : Page) (ch off code : Nat) : (s.errReg a p ch off code).rows = s.rows :=
  ((State.errReg_keeps (M := 1099511627776) rfl (Keeps.refl _ s)).same .rows rfl)
@[simp] theorem State.errReg_shadow (a : Accessor) (p : Page) (ch off code : Nat) : (s.errReg a p ch off code).shadow = s.shadow :=
  ((State.errReg_keeps (M := 1099511627776) rfl (Keeps.refl _ s)).same .shadow rfl)
@[simp] theorem State.errReg_canary (a : Accessor) (p : Page) (ch off code : Nat) : (s.errReg a p ch off code).canary = s.canary :=
  ((State.errReg_keeps (M := 1099511627776) rfl (Keeps.refl _ s)).same .health rfl).2
@[simp] theorem State.errReg_isWritebacks (a : Accessor) (p : Page) (ch off code : Nat) : (s.errReg a p ch off code).isWritebacks = s.isWritebacks :=
  ((State.errReg_keeps (M := 1099511627776) rfl (Keeps.refl _ s)).same .istore rfl).2
@[simp] theorem State.errReg_lanes (a : Accessor) (p : Page) (ch off code : Nat) : (s.errReg a p ch off code).lanes = s.lanes :=
  ((State.errReg_keeps (M := 1099511627776) rfl (Keeps.refl _ s)).same .orchard rfl).1
@[simp] theorem State.errReg_chans (a : Accessor) (p : Page) (ch off code : Nat) : (s.errReg a p ch off code).chans = s.chans :=
  ((State.errReg_keeps (M := 1099511627776) rfl (Keeps.refl _ s)).same .orchard rfl).2.1
@[simp] theorem State.errReg_addrStage (a : Accessor) (p : Page) (ch off code : Nat) : (s.errReg a p ch off code).addrStage = s.addrStage :=
  ((State.errReg_keeps (M := 1099511627776) rfl (Keeps.refl _ s)).same .orchard rfl).2.2.1
@[simp] theorem State.errReg_wdataStage (a : Accessor) (p : Page) (ch off code : Nat) : (s.errReg a p ch off code).wdataStage = s.wdataStage :=
  ((State.errReg_keeps (M := 1099511627776) rfl (Keeps.refl _ s)).same .orchard rfl).2.2.2.1
@[simp] theorem State.errReg_rdata (a : Accessor) (p : Page) (ch off code : Nat) : (s.errReg a p ch off code).rdata = s.rdata :=
  ((State.errReg_keeps (M := 1099511627776) rfl (Keeps.refl _ s)).same .orchard rfl).2.2.2.2.1
@[simp] theorem State.errReg_rpend (a : Accessor) (p : Page) (ch off code : Nat) : (s.errReg a p ch off code).rpend = s.rpend :=
  ((State.errReg_keeps (M := 1099511627776) rfl (Keeps.refl _ s)).same .orchard rfl).2.2.2.2.2
@[simp] theorem State.errReg_fabCap (a : Accessor) (p : Page) (ch off code : Nat) : (s.errReg a p ch off code).fabCap = s.fabCap :=
  ((State.errReg_keeps (M := 1099511627776) rfl (Keeps.refl _ s)).same .outbound rfl).1
@[simp] theorem State.errReg_fabOwn (a : Accessor) (p : Page) (ch off code : Nat) : (s.errReg a p ch off code).fabOwn = s.fabOwn :=
  ((State.errReg_keeps (M := 1099511627776) rfl (Keeps.refl _ s)).same .outbound rfl).2.1
@[simp] theorem State.errReg_fabPres (a : Accessor) (p : Page) (ch off code : Nat) : (s.errReg a p ch off code).fabPres = s.fabPres :=
  ((State.errReg_keeps (M := 1099511627776) rfl (Keeps.refl _ s)).same .outbound rfl).2.2.1
@[simp] theorem State.errReg_fabIn (a : Accessor) (p : Page) (ch off code : Nat) : (s.errReg a p ch off code).fabIn = s.fabIn :=
  ((State.errReg_keeps (M := 1099511627776) rfl (Keeps.refl _ s)).same .outbound rfl).2.2.2.1
@[simp] theorem State.errReg_relBlank (a : Accessor) (p : Page) (ch off code : Nat) : (s.errReg a p ch off code).relBlank = s.relBlank :=
  ((State.errReg_keeps (M := 1099511627776) rfl (Keeps.refl _ s)).same .outbound rfl).2.2.2.2
@[simp] theorem State.errReg_parts (a : Accessor) (p : Page) (ch off code : Nat) : (s.errReg a p ch off code).parts = s.parts :=
  ((State.errReg_keeps (M := 1099511627776) rfl (Keeps.refl _ s)).same .parts rfl)
@[simp] theorem State.errReg_dmem (a : Accessor) (p : Page) (ch off code : Nat) : (s.errReg a p ch off code).dmem = s.dmem :=
  ((State.errReg_keeps (M := 1099511627776) rfl (Keeps.refl _ s)).same .dmem rfl)
@[simp] theorem State.errReg_banks (a : Accessor) (p : Page) (ch off code : Nat) : (s.errReg a p ch off code).banks = s.banks :=
  ((State.errReg_keeps (M := 1099511627776) rfl (Keeps.refl _ s)).same .banks rfl)
@[simp] theorem State.errReg_resvBank (a : Accessor) (p : Page) (ch off code : Nat) : (s.errReg a p ch off code).resvBank = s.resvBank :=
  ((State.errReg_keeps (M := 1099511627776) rfl (Keeps.refl _ s)).same .resv rfl)
@[simp] theorem State.errReg_exch (a : Accessor) (p : Page) (ch off code : Nat) : (s.errReg a p ch off code).exch = s.exch :=
  ((State.errReg_keeps (M := 1099511627776) rfl (Keeps.refl _ s)).same .exch rfl)
@[simp] theorem State.errReg_exchHeld (a : Accessor) (p : Page) (ch off code : Nat) : (s.errReg a p ch off code).exchHeld = s.exchHeld :=
  ((State.errReg_keeps (M := 1099511627776) rfl (Keeps.refl _ s)).same .exchAux rfl).1
@[simp] theorem State.errReg_exchTook (a : Accessor) (p : Page) (ch off code : Nat) : (s.errReg a p ch off code).exchTook = s.exchTook :=
  ((State.errReg_keeps (M := 1099511627776) rfl (Keeps.refl _ s)).same .exchAux rfl).2.1
@[simp] theorem State.errReg_exchPriv (a : Accessor) (p : Page) (ch off code : Nat) : (s.errReg a p ch off code).exchPriv = s.exchPriv :=
  ((State.errReg_keeps (M := 1099511627776) rfl (Keeps.refl _ s)).same .exchAux rfl).2.2.1
@[simp] theorem State.errReg_replayExch (a : Accessor) (p : Page) (ch off code : Nat) : (s.errReg a p ch off code).replayExch = s.replayExch :=
  ((State.errReg_keeps (M := 1099511627776) rfl (Keeps.refl _ s)).same .exchAux rfl).2.2.2
@[simp] theorem State.errReg_probes (a : Accessor) (p : Page) (ch off code : Nat) : (s.errReg a p ch off code).probes = s.probes :=
  ((State.errReg_keeps (M := 1099511627776) rfl (Keeps.refl _ s)).same .acq rfl).1
@[simp] theorem State.errReg_onStep (a : Accessor) (p : Page) (ch off code : Nat) : (s.errReg a p ch off code).onStep = s.onStep :=
  ((State.errReg_keeps (M := 1099511627776) rfl (Keeps.refl _ s)).same .acq rfl).2.1
@[simp] theorem State.errReg_acqs (a : Accessor) (p : Page) (ch off code : Nat) : (s.errReg a p ch off code).acqs = s.acqs :=
  ((State.errReg_keeps (M := 1099511627776) rfl (Keeps.refl _ s)).same .acq rfl).2.2.1
@[simp] theorem State.errReg_tdcs (a : Accessor) (p : Page) (ch off code : Nat) : (s.errReg a p ch off code).tdcs = s.tdcs :=
  ((State.errReg_keeps (M := 1099511627776) rfl (Keeps.refl _ s)).same .acq rfl).2.2.2
@[simp] theorem State.errReg_netmap (a : Accessor) (p : Page) (ch off code : Nat) : (s.errReg a p ch off code).netmap = s.netmap :=
  ((State.errReg_keeps (M := 1099511627776) rfl (Keeps.refl _ s)).same .netmap rfl)
@[simp] theorem State.errReg_rxSlots (a : Accessor) (p : Page) (ch off code : Nat) : (s.errReg a p ch off code).rxSlots = s.rxSlots :=
  ((State.errReg_keeps (M := 1099511627776) rfl (Keeps.refl _ s)).same .slots rfl).1
@[simp] theorem State.errReg_txSlots (a : Accessor) (p : Page) (ch off code : Nat) : (s.errReg a p ch off code).txSlots = s.txSlots :=
  ((State.errReg_keeps (M := 1099511627776) rfl (Keeps.refl _ s)).same .slots rfl).2.1
@[simp] theorem State.errReg_txHeld (a : Accessor) (p : Page) (ch off code : Nat) : (s.errReg a p ch off code).txHeld = s.txHeld :=
  ((State.errReg_keeps (M := 1099511627776) rfl (Keeps.refl _ s)).same .slots rfl).2.2
@[simp] theorem State.errReg_casPorts (a : Accessor) (p : Page) (ch off code : Nat) : (s.errReg a p ch off code).casPorts = s.casPorts :=
  ((State.errReg_keeps (M := 1099511627776) rfl (Keeps.refl _ s)).same .ports rfl).1
@[simp] theorem State.errReg_laneSync (a : Accessor) (p : Page) (ch off code : Nat) : (s.errReg a p ch off code).laneSync = s.laneSync :=
  ((State.errReg_keeps (M := 1099511627776) rfl (Keeps.refl _ s)).same .ports rfl).2
@[simp] theorem State.errReg_cas (a : Accessor) (p : Page) (ch off code : Nat) : (s.errReg a p ch off code).cas = s.cas :=
  ((State.errReg_keeps (M := 1099511627776) rfl (Keeps.refl _ s)).same .cas rfl)
@[simp] theorem State.errReg_frames (a : Accessor) (p : Page) (ch off code : Nat) : (s.errReg a p ch off code).frames = s.frames :=
  ((State.errReg_keeps (M := 1099511627776) rfl (Keeps.refl _ s)).same .frames rfl)
@[simp] theorem State.errReg_fabric (a : Accessor) (p : Page) (ch off code : Nat) : (s.errReg a p ch off code).fabric = s.fabric :=
  ((State.errReg_keeps (M := 1099511627776) rfl (Keeps.refl _ s)).same .fabric rfl)
@[simp] theorem State.errReg_logbook (a : Accessor) (p : Page) (ch off code : Nat) : (s.errReg a p ch off code).logbook = s.logbook :=
  ((State.errReg_keeps (M := 1099511627776) rfl (Keeps.refl _ s)).same .logbook rfl).1
@[simp] theorem State.errReg_log (a : Accessor) (p : Page) (ch off code : Nat) : (s.errReg a p ch off code).log = s.log :=
  ((State.errReg_keeps (M := 1099511627776) rfl (Keeps.refl _ s)).same .log rfl)
@[simp] theorem State.errReg_dipFrom (a : Accessor) (p : Page) (ch off code : Nat) : (s.errReg a p ch off code).dipFrom = s.dipFrom :=
  ((State.errReg_keeps (M := 1099511627776) rfl (Keeps.refl _ s)).same .dip rfl).1
@[simp] theorem State.errReg_dipLow (a : Accessor) (p : Page) (ch off code : Nat) : (s.errReg a p ch off code).dipLow = s.dipLow :=
  ((State.errReg_keeps (M := 1099511627776) rfl (Keeps.refl _ s)).same .dip rfl).2.1
@[simp] theorem State.errReg_dipTick (a : Accessor) (p : Page) (ch off code : Nat) : (s.errReg a p ch off code).dipTick = s.dipTick :=
  ((State.errReg_keeps (M := 1099511627776) rfl (Keeps.refl _ s)).same .dip rfl).2.2.1
@[simp] theorem State.errReg_checkByCmd (a : Accessor) (p : Page) (ch off code : Nat) : (s.errReg a p ch off code).checkByCmd = s.checkByCmd :=
  ((State.errReg_keeps (M := 1099511627776) rfl (Keeps.refl _ s)).same .dip rfl).2.2.2.1
@[simp] theorem State.errReg_dipPassed (a : Accessor) (p : Page) (ch off code : Nat) : (s.errReg a p ch off code).dipPassed = s.dipPassed :=
  ((State.errReg_keeps (M := 1099511627776) rfl (Keeps.refl _ s)).same .dip rfl).2.2.2.2
@[simp] theorem State.errReg_irqLatches (a : Accessor) (p : Page) (ch off code : Nat) : (s.errReg a p ch off code).irqLatches = s.irqLatches :=
  ((State.errReg_keeps (M := 1099511627776) rfl (Keeps.refl _ s)).same .irq rfl).1
@[simp] theorem State.errReg_irqDisarmed (a : Accessor) (p : Page) (ch off code : Nat) : (s.errReg a p ch off code).irqDisarmed = s.irqDisarmed :=
  ((State.errReg_keeps (M := 1099511627776) rfl (Keeps.refl _ s)).same .irq rfl).2.1
@[simp] theorem State.errReg_irqStacks (a : Accessor) (p : Page) (ch off code : Nat) : (s.errReg a p ch off code).irqStacks = s.irqStacks :=
  ((State.errReg_keeps (M := 1099511627776) rfl (Keeps.refl _ s)).same .irqStack rfl)
@[simp] theorem State.errReg_irqHeld (a : Accessor) (p : Page) (ch off code : Nat) : (s.errReg a p ch off code).irqHeld = s.irqHeld :=
  ((State.errReg_keeps (M := 1099511627776) rfl (Keeps.refl _ s)).same .irq rfl).2.2
@[simp] theorem State.errReg_control (a : Accessor) (p : Page) (ch off code : Nat) : (s.errReg a p ch off code).control = s.control :=
  ((State.errReg_keeps (M := 1099511627776) rfl (Keeps.refl _ s)).same .control rfl)
@[simp] theorem State.errReg_records (a : Accessor) (p : Page) (ch off code : Nat) : (s.errReg a p ch off code).records = s.records :=
  ((State.errReg_keeps (M := 1099511627776) rfl (Keeps.refl _ s)).same .logbook rfl).2
@[simp] theorem State.errReg_msixTable (a : Accessor) (p : Page) (ch off code : Nat) : (s.errReg a p ch off code).msixTable = s.msixTable :=
  ((State.errReg_keeps (M := 1099511627776) rfl (Keeps.refl _ s)).same .msix rfl).1
@[simp] theorem State.errReg_msixPending (a : Accessor) (p : Page) (ch off code : Nat) : (s.errReg a p ch off code).msixPending = s.msixPending :=
  ((State.errReg_keeps (M := 1099511627776) rfl (Keeps.refl _ s)).same .msix rfl).2.1
@[simp] theorem State.errReg_msixFuncMask (a : Accessor) (p : Page) (ch off code : Nat) : (s.errReg a p ch off code).msixFuncMask = s.msixFuncMask :=
  ((State.errReg_keeps (M := 1099511627776) rfl (Keeps.refl _ s)).same .msix rfl).2.2
@[simp] theorem State.errReg_cores (a : Accessor) (p : Page) (ch off code : Nat) : (s.errReg a p ch off code).cores = s.cores :=
  ((State.errReg_keeps (M := 1099511627776) rfl (Keeps.refl _ s)).same .cores rfl)
@[simp] theorem State.errReg_scratch (a : Accessor) (p : Page) (ch off code : Nat) : (s.errReg a p ch off code).scratch = s.scratch :=
  ((State.errReg_keeps (M := 1099511627776) rfl (Keeps.refl _ s)).same .scratch rfl).1
@[simp] theorem State.errReg_hms (a : Accessor) (p : Page) (ch off code : Nat) : (s.errReg a p ch off code).hms = s.hms :=
  ((State.errReg_keeps (M := 1099511627776) rfl (Keeps.refl _ s)).same .hms rfl)
@[simp] theorem State.errReg_porst (a : Accessor) (p : Page) (ch off code : Nat) : (s.errReg a p ch off code).porst = s.porst :=
  ((State.errReg_keeps (M := 1099511627776) rfl (Keeps.refl _ s)).same .power rfl).1
@[simp] theorem State.errReg_tripped (a : Accessor) (p : Page) (ch off code : Nat) : (s.errReg a p ch off code).tripped = s.tripped :=
  ((State.errReg_keeps (M := 1099511627776) rfl (Keeps.refl _ s)).same .power rfl).2.1
@[simp] theorem State.errReg_freqTarget (a : Accessor) (p : Page) (ch off code : Nat) : (s.errReg a p ch off code).freqTarget = s.freqTarget :=
  ((State.errReg_keeps (M := 1099511627776) rfl (Keeps.refl _ s)).same .power rfl).2.2.1
@[simp] theorem State.errReg_coolFrom (a : Accessor) (p : Page) (ch off code : Nat) : (s.errReg a p ch off code).coolFrom = s.coolFrom :=
  ((State.errReg_keeps (M := 1099511627776) rfl (Keeps.refl _ s)).same .power rfl).2.2.2.1
@[simp] theorem State.errReg_tempFresh (a : Accessor) (p : Page) (ch off code : Nat) : (s.errReg a p ch off code).tempFresh = s.tempFresh :=
  ((State.errReg_keeps (M := 1099511627776) rfl (Keeps.refl _ s)).same .power rfl).2.2.2.2.1
@[simp] theorem State.errReg_throttles (a : Accessor) (p : Page) (ch off code : Nat) : (s.errReg a p ch off code).throttles = s.throttles :=
  ((State.errReg_keeps (M := 1099511627776) rfl (Keeps.refl _ s)).same .power rfl).2.2.2.2.2.1
@[simp] theorem State.errReg_pcie (a : Accessor) (p : Page) (ch off code : Nat) : (s.errReg a p ch off code).pcie = s.pcie :=
  ((State.errReg_keeps (M := 1099511627776) rfl (Keeps.refl _ s)).same .host rfl).1
@[simp] theorem State.errReg_hostWaiting (a : Accessor) (p : Page) (ch off code : Nat) : (s.errReg a p ch off code).hostWaiting = s.hostWaiting :=
  ((State.errReg_keeps (M := 1099511627776) rfl (Keeps.refl _ s)).same .host rfl).2.1
@[simp] theorem State.errReg_hostOut (a : Accessor) (p : Page) (ch off code : Nat) : (s.errReg a p ch off code).hostOut = s.hostOut :=
  ((State.errReg_keeps (M := 1099511627776) rfl (Keeps.refl _ s)).same .host rfl).2.2
@[simp] theorem State.errReg_windows (a : Accessor) (p : Page) (ch off code : Nat) : (s.errReg a p ch off code).windows = s.windows :=
  ((State.errReg_keeps (M := 1099511627776) rfl (Keeps.refl _ s)).same .debug rfl).1
@[simp] theorem State.errReg_tap (a : Accessor) (p : Page) (ch off code : Nat) : (s.errReg a p ch off code).tap = s.tap :=
  ((State.errReg_keeps (M := 1099511627776) rfl (Keeps.refl _ s)).same .tap rfl)
@[simp] theorem State.errReg_challenges (a : Accessor) (p : Page) (ch off code : Nat) : (s.errReg a p ch off code).challenges = s.challenges :=
  ((State.errReg_keeps (M := 1099511627776) rfl (Keeps.refl _ s)).same .debug rfl).2.1
@[simp] theorem State.errReg_challengeAt (a : Accessor) (p : Page) (ch off code : Nat) : (s.errReg a p ch off code).challengeAt = s.challengeAt :=
  ((State.errReg_keeps (M := 1099511627776) rfl (Keeps.refl _ s)).same .debug rfl).2.2.1
@[simp] theorem State.errReg_haltAt (a : Accessor) (p : Page) (ch off code : Nat) : (s.errReg a p ch off code).haltAt = s.haltAt :=
  ((State.errReg_keeps (M := 1099511627776) rfl (Keeps.refl _ s)).same .debug rfl).2.2.2.1
@[simp] theorem State.errReg_releasing (a : Accessor) (p : Page) (ch off code : Nat) : (s.errReg a p ch off code).releasing = s.releasing :=
  ((State.errReg_keeps (M := 1099511627776) rfl (Keeps.refl _ s)).same .debug rfl).2.2.2.2.1
@[simp] theorem State.errReg_haltDip (a : Accessor) (p : Page) (ch off code : Nat) : (s.errReg a p ch off code).haltDip = s.haltDip :=
  ((State.errReg_keeps (M := 1099511627776) rfl (Keeps.refl _ s)).same .debug rfl).2.2.2.2.2.1
@[simp] theorem State.errReg_haltEdges (a : Accessor) (p : Page) (ch off code : Nat) : (s.errReg a p ch off code).haltEdges = s.haltEdges :=
  ((State.errReg_keeps (M := 1099511627776) rfl (Keeps.refl _ s)).same .debug rfl).2.2.2.2.2.2
@[simp] theorem State.errReg_trace (a : Accessor) (p : Page) (ch off code : Nat) : (s.errReg a p ch off code).trace = s.trace :=
  ((State.errReg_keeps (M := 1099511627776) rfl (Keeps.refl _ s)).same .trace rfl).1
@[simp] theorem State.errReg_coreTicks (a : Accessor) (p : Page) (ch off code : Nat) : (s.errReg a p ch off code).coreTicks = s.coreTicks :=
  ((State.errReg_keeps (M := 1099511627776) rfl (Keeps.refl _ s)).same .time rfl).2.2.2.2
@[simp] theorem State.errReg_traceFrom (a : Accessor) (p : Page) (ch off code : Nat) : (s.errReg a p ch off code).traceFrom = s.traceFrom :=
  ((State.errReg_keeps (M := 1099511627776) rfl (Keeps.refl _ s)).same .trace rfl).2
@[simp] theorem State.errReg_haltDecided (a : Accessor) (p : Page) (ch off code : Nat) : (s.errReg a p ch off code).haltDecided = s.haltDecided :=
  ((State.errReg_keeps (M := 1099511627776) rfl (Keeps.refl _ s)).same .halts rfl)
@[simp] theorem State.errReg_awake (a : Accessor) (p : Page) (ch off code : Nat) : (s.errReg a p ch off code).awake = s.awake :=
  ((State.errReg_keeps (M := 1099511627776) rfl (Keeps.refl _ s)).same .power rfl).2.2.2.2.2.2
@[simp] theorem State.errReg_nocHeld (a : Accessor) (p : Page) (ch off code : Nat) : (s.errReg a p ch off code).nocHeld = s.nocHeld :=
  ((State.errReg_keeps (M := 1099511627776) rfl (Keeps.refl _ s)).same .noc rfl).1
@[simp] theorem State.errReg_quayReqs (a : Accessor) (p : Page) (ch off code : Nat) : (s.errReg a p ch off code).quayReqs = s.quayReqs :=
  ((State.errReg_keeps (M := 1099511627776) rfl (Keeps.refl _ s)).same .noc rfl).2.1
@[simp] theorem State.errReg_nocLocked (a : Accessor) (p : Page) (ch off code : Nat) : (s.errReg a p ch off code).nocLocked = s.nocLocked :=
  ((State.errReg_keeps (M := 1099511627776) rfl (Keeps.refl _ s)).same .noc rfl).2.2
@[simp] theorem State.errReg_scratchReady (a : Accessor) (p : Page) (ch off code : Nat) : (s.errReg a p ch off code).scratchReady = s.scratchReady :=
  ((State.errReg_keeps (M := 1099511627776) rfl (Keeps.refl _ s)).same .scratch rfl).2

/-! ## raise -/

@[simp] theorem State.raise_pending (p : Page) (ch b : Nat) : (s.raise p ch b).pending = s.pending :=
  (State.raise_keeps (M := 1099847172097) rfl (Keeps.refl _ s)).pending
@[simp] theorem State.raise_selects (p : Page) (ch b : Nat) : (s.raise p ch b).selects = s.selects :=
  ((State.raise_keeps (M := 1099847172097) rfl (Keeps.refl _ s)).same .access rfl).1
@[simp] theorem State.raise_staging (p : Page) (ch b : Nat) : (s.raise p ch b).staging = s.staging :=
  ((State.raise_keeps (M := 1099847172097) rfl (Keeps.refl _ s)).same .access rfl).2.1
@[simp] theorem State.raise_captures (p : Page) (ch b : Nat) : (s.raise p ch b).captures = s.captures :=
  ((State.raise_keeps (M := 1099847172097) rfl (Keeps.refl _ s)).same .access rfl).2.2.1
@[simp] theorem State.raise_hiCaptures (p : Page) (ch b : Nat) : (s.raise p ch b).hiCaptures = s.hiCaptures :=
  ((State.raise_keeps (M := 1099847172097) rfl (Keeps.refl _ s)).same .access rfl).2.2.2
@[simp] theorem State.raise_tb (p : Page) (ch b : Nat) : (s.raise p ch b).tb = s.tb :=
  ((State.raise_keeps (M := 1099847172097) rfl (Keeps.refl _ s)).same .time rfl).1
@[simp] theorem State.raise_timeRuns (p : Page) (ch b : Nat) : (s.raise p ch b).timeRuns = s.timeRuns :=
  ((State.raise_keeps (M := 1099847172097) rfl (Keeps.refl _ s)).same .time rfl).2.1
@[simp] theorem State.raise_timeRemain (p : Page) (ch b : Nat) : (s.raise p ch b).timeRemain = s.timeRemain :=
  ((State.raise_keeps (M := 1099847172097) rfl (Keeps.refl _ s)).same .time rfl).2.2.1
@[simp] theorem State.raise_timeSince (p : Page) (ch b : Nat) : (s.raise p ch b).timeSince = s.timeSince :=
  ((State.raise_keeps (M := 1099847172097) rfl (Keeps.refl _ s)).same .time rfl).2.2.2.1
@[simp] theorem State.raise_ethKicked (p : Page) (ch b : Nat) : (s.raise p ch b).ethKicked = s.ethKicked :=
  ((State.raise_keeps (M := 1099847172097) rfl (Keeps.refl _ s)).same .ethRing rfl)
@[simp] theorem State.raise_health (p : Page) (ch b : Nat) : (s.raise p ch b).health = s.health :=
  ((State.raise_keeps (M := 1099847172097) rfl (Keeps.refl _ s)).same .health rfl).1
@[simp] theorem State.raise_istore (p : Page) (ch b : Nat) : (s.raise p ch b).istore = s.istore :=
  ((State.raise_keeps (M := 1099847172097) rfl (Keeps.refl _ s)).same .istore rfl).1
@[simp] theorem State.raise_rows (p : Page) (ch b : Nat) : (s.raise p ch b).rows = s.rows :=
  ((State.raise_keeps (M := 1099847172097) rfl (Keeps.refl _ s)).same .rows rfl)
@[simp] theorem State.raise_shadow (p : Page) (ch b : Nat) : (s.raise p ch b).shadow = s.shadow :=
  ((State.raise_keeps (M := 1099847172097) rfl (Keeps.refl _ s)).same .shadow rfl)
@[simp] theorem State.raise_canary (p : Page) (ch b : Nat) : (s.raise p ch b).canary = s.canary :=
  ((State.raise_keeps (M := 1099847172097) rfl (Keeps.refl _ s)).same .health rfl).2
@[simp] theorem State.raise_isWritebacks (p : Page) (ch b : Nat) : (s.raise p ch b).isWritebacks = s.isWritebacks :=
  ((State.raise_keeps (M := 1099847172097) rfl (Keeps.refl _ s)).same .istore rfl).2
@[simp] theorem State.raise_lanes (p : Page) (ch b : Nat) : (s.raise p ch b).lanes = s.lanes :=
  ((State.raise_keeps (M := 1099847172097) rfl (Keeps.refl _ s)).same .orchard rfl).1
@[simp] theorem State.raise_chans (p : Page) (ch b : Nat) : (s.raise p ch b).chans = s.chans :=
  ((State.raise_keeps (M := 1099847172097) rfl (Keeps.refl _ s)).same .orchard rfl).2.1
@[simp] theorem State.raise_addrStage (p : Page) (ch b : Nat) : (s.raise p ch b).addrStage = s.addrStage :=
  ((State.raise_keeps (M := 1099847172097) rfl (Keeps.refl _ s)).same .orchard rfl).2.2.1
@[simp] theorem State.raise_wdataStage (p : Page) (ch b : Nat) : (s.raise p ch b).wdataStage = s.wdataStage :=
  ((State.raise_keeps (M := 1099847172097) rfl (Keeps.refl _ s)).same .orchard rfl).2.2.2.1
@[simp] theorem State.raise_rdata (p : Page) (ch b : Nat) : (s.raise p ch b).rdata = s.rdata :=
  ((State.raise_keeps (M := 1099847172097) rfl (Keeps.refl _ s)).same .orchard rfl).2.2.2.2.1
@[simp] theorem State.raise_rpend (p : Page) (ch b : Nat) : (s.raise p ch b).rpend = s.rpend :=
  ((State.raise_keeps (M := 1099847172097) rfl (Keeps.refl _ s)).same .orchard rfl).2.2.2.2.2
@[simp] theorem State.raise_fabCap (p : Page) (ch b : Nat) : (s.raise p ch b).fabCap = s.fabCap :=
  ((State.raise_keeps (M := 1099847172097) rfl (Keeps.refl _ s)).same .outbound rfl).1
@[simp] theorem State.raise_fabOwn (p : Page) (ch b : Nat) : (s.raise p ch b).fabOwn = s.fabOwn :=
  ((State.raise_keeps (M := 1099847172097) rfl (Keeps.refl _ s)).same .outbound rfl).2.1
@[simp] theorem State.raise_fabPres (p : Page) (ch b : Nat) : (s.raise p ch b).fabPres = s.fabPres :=
  ((State.raise_keeps (M := 1099847172097) rfl (Keeps.refl _ s)).same .outbound rfl).2.2.1
@[simp] theorem State.raise_fabIn (p : Page) (ch b : Nat) : (s.raise p ch b).fabIn = s.fabIn :=
  ((State.raise_keeps (M := 1099847172097) rfl (Keeps.refl _ s)).same .outbound rfl).2.2.2.1
@[simp] theorem State.raise_relBlank (p : Page) (ch b : Nat) : (s.raise p ch b).relBlank = s.relBlank :=
  ((State.raise_keeps (M := 1099847172097) rfl (Keeps.refl _ s)).same .outbound rfl).2.2.2.2
@[simp] theorem State.raise_parts (p : Page) (ch b : Nat) : (s.raise p ch b).parts = s.parts :=
  ((State.raise_keeps (M := 1099847172097) rfl (Keeps.refl _ s)).same .parts rfl)
@[simp] theorem State.raise_dmem (p : Page) (ch b : Nat) : (s.raise p ch b).dmem = s.dmem :=
  ((State.raise_keeps (M := 1099847172097) rfl (Keeps.refl _ s)).same .dmem rfl)
@[simp] theorem State.raise_banks (p : Page) (ch b : Nat) : (s.raise p ch b).banks = s.banks :=
  ((State.raise_keeps (M := 1099847172097) rfl (Keeps.refl _ s)).same .banks rfl)
@[simp] theorem State.raise_resvBank (p : Page) (ch b : Nat) : (s.raise p ch b).resvBank = s.resvBank :=
  ((State.raise_keeps (M := 1099847172097) rfl (Keeps.refl _ s)).same .resv rfl)
@[simp] theorem State.raise_exch (p : Page) (ch b : Nat) : (s.raise p ch b).exch = s.exch :=
  ((State.raise_keeps (M := 1099847172097) rfl (Keeps.refl _ s)).same .exch rfl)
@[simp] theorem State.raise_exchHeld (p : Page) (ch b : Nat) : (s.raise p ch b).exchHeld = s.exchHeld :=
  ((State.raise_keeps (M := 1099847172097) rfl (Keeps.refl _ s)).same .exchAux rfl).1
@[simp] theorem State.raise_exchTook (p : Page) (ch b : Nat) : (s.raise p ch b).exchTook = s.exchTook :=
  ((State.raise_keeps (M := 1099847172097) rfl (Keeps.refl _ s)).same .exchAux rfl).2.1
@[simp] theorem State.raise_exchPriv (p : Page) (ch b : Nat) : (s.raise p ch b).exchPriv = s.exchPriv :=
  ((State.raise_keeps (M := 1099847172097) rfl (Keeps.refl _ s)).same .exchAux rfl).2.2.1
@[simp] theorem State.raise_replayExch (p : Page) (ch b : Nat) : (s.raise p ch b).replayExch = s.replayExch :=
  ((State.raise_keeps (M := 1099847172097) rfl (Keeps.refl _ s)).same .exchAux rfl).2.2.2
@[simp] theorem State.raise_probes (p : Page) (ch b : Nat) : (s.raise p ch b).probes = s.probes :=
  ((State.raise_keeps (M := 1099847172097) rfl (Keeps.refl _ s)).same .acq rfl).1
@[simp] theorem State.raise_onStep (p : Page) (ch b : Nat) : (s.raise p ch b).onStep = s.onStep :=
  ((State.raise_keeps (M := 1099847172097) rfl (Keeps.refl _ s)).same .acq rfl).2.1
@[simp] theorem State.raise_acqs (p : Page) (ch b : Nat) : (s.raise p ch b).acqs = s.acqs :=
  ((State.raise_keeps (M := 1099847172097) rfl (Keeps.refl _ s)).same .acq rfl).2.2.1
@[simp] theorem State.raise_tdcs (p : Page) (ch b : Nat) : (s.raise p ch b).tdcs = s.tdcs :=
  ((State.raise_keeps (M := 1099847172097) rfl (Keeps.refl _ s)).same .acq rfl).2.2.2
@[simp] theorem State.raise_netmap (p : Page) (ch b : Nat) : (s.raise p ch b).netmap = s.netmap :=
  ((State.raise_keeps (M := 1099847172097) rfl (Keeps.refl _ s)).same .netmap rfl)
@[simp] theorem State.raise_rxSlots (p : Page) (ch b : Nat) : (s.raise p ch b).rxSlots = s.rxSlots :=
  ((State.raise_keeps (M := 1099847172097) rfl (Keeps.refl _ s)).same .slots rfl).1
@[simp] theorem State.raise_txSlots (p : Page) (ch b : Nat) : (s.raise p ch b).txSlots = s.txSlots :=
  ((State.raise_keeps (M := 1099847172097) rfl (Keeps.refl _ s)).same .slots rfl).2.1
@[simp] theorem State.raise_txHeld (p : Page) (ch b : Nat) : (s.raise p ch b).txHeld = s.txHeld :=
  ((State.raise_keeps (M := 1099847172097) rfl (Keeps.refl _ s)).same .slots rfl).2.2
@[simp] theorem State.raise_casPorts (p : Page) (ch b : Nat) : (s.raise p ch b).casPorts = s.casPorts :=
  ((State.raise_keeps (M := 1099847172097) rfl (Keeps.refl _ s)).same .ports rfl).1
@[simp] theorem State.raise_laneSync (p : Page) (ch b : Nat) : (s.raise p ch b).laneSync = s.laneSync :=
  ((State.raise_keeps (M := 1099847172097) rfl (Keeps.refl _ s)).same .ports rfl).2
@[simp] theorem State.raise_cas (p : Page) (ch b : Nat) : (s.raise p ch b).cas = s.cas :=
  ((State.raise_keeps (M := 1099847172097) rfl (Keeps.refl _ s)).same .cas rfl)
@[simp] theorem State.raise_frames (p : Page) (ch b : Nat) : (s.raise p ch b).frames = s.frames :=
  ((State.raise_keeps (M := 1099847172097) rfl (Keeps.refl _ s)).same .frames rfl)
@[simp] theorem State.raise_fabric (p : Page) (ch b : Nat) : (s.raise p ch b).fabric = s.fabric :=
  ((State.raise_keeps (M := 1099847172097) rfl (Keeps.refl _ s)).same .fabric rfl)
@[simp] theorem State.raise_logbook (p : Page) (ch b : Nat) : (s.raise p ch b).logbook = s.logbook :=
  ((State.raise_keeps (M := 1099847172097) rfl (Keeps.refl _ s)).same .logbook rfl).1
@[simp] theorem State.raise_log (p : Page) (ch b : Nat) : (s.raise p ch b).log = s.log :=
  ((State.raise_keeps (M := 1099847172097) rfl (Keeps.refl _ s)).same .log rfl)
@[simp] theorem State.raise_dipFrom (p : Page) (ch b : Nat) : (s.raise p ch b).dipFrom = s.dipFrom :=
  ((State.raise_keeps (M := 1099847172097) rfl (Keeps.refl _ s)).same .dip rfl).1
@[simp] theorem State.raise_dipLow (p : Page) (ch b : Nat) : (s.raise p ch b).dipLow = s.dipLow :=
  ((State.raise_keeps (M := 1099847172097) rfl (Keeps.refl _ s)).same .dip rfl).2.1
@[simp] theorem State.raise_dipTick (p : Page) (ch b : Nat) : (s.raise p ch b).dipTick = s.dipTick :=
  ((State.raise_keeps (M := 1099847172097) rfl (Keeps.refl _ s)).same .dip rfl).2.2.1
@[simp] theorem State.raise_checkByCmd (p : Page) (ch b : Nat) : (s.raise p ch b).checkByCmd = s.checkByCmd :=
  ((State.raise_keeps (M := 1099847172097) rfl (Keeps.refl _ s)).same .dip rfl).2.2.2.1
@[simp] theorem State.raise_dipPassed (p : Page) (ch b : Nat) : (s.raise p ch b).dipPassed = s.dipPassed :=
  ((State.raise_keeps (M := 1099847172097) rfl (Keeps.refl _ s)).same .dip rfl).2.2.2.2
@[simp] theorem State.raise_irqStacks (p : Page) (ch b : Nat) : (s.raise p ch b).irqStacks = s.irqStacks :=
  ((State.raise_keeps (M := 1099847172097) rfl (Keeps.refl _ s)).same .irqStack rfl)
@[simp] theorem State.raise_control (p : Page) (ch b : Nat) : (s.raise p ch b).control = s.control :=
  ((State.raise_keeps (M := 1099847172097) rfl (Keeps.refl _ s)).same .control rfl)
@[simp] theorem State.raise_records (p : Page) (ch b : Nat) : (s.raise p ch b).records = s.records :=
  ((State.raise_keeps (M := 1099847172097) rfl (Keeps.refl _ s)).same .logbook rfl).2
@[simp] theorem State.raise_cores (p : Page) (ch b : Nat) : (s.raise p ch b).cores = s.cores :=
  ((State.raise_keeps (M := 1099847172097) rfl (Keeps.refl _ s)).same .cores rfl)
@[simp] theorem State.raise_scratch (p : Page) (ch b : Nat) : (s.raise p ch b).scratch = s.scratch :=
  ((State.raise_keeps (M := 1099847172097) rfl (Keeps.refl _ s)).same .scratch rfl).1
@[simp] theorem State.raise_hms (p : Page) (ch b : Nat) : (s.raise p ch b).hms = s.hms :=
  ((State.raise_keeps (M := 1099847172097) rfl (Keeps.refl _ s)).same .hms rfl)
@[simp] theorem State.raise_porst (p : Page) (ch b : Nat) : (s.raise p ch b).porst = s.porst :=
  ((State.raise_keeps (M := 1099847172097) rfl (Keeps.refl _ s)).same .power rfl).1
@[simp] theorem State.raise_tripped (p : Page) (ch b : Nat) : (s.raise p ch b).tripped = s.tripped :=
  ((State.raise_keeps (M := 1099847172097) rfl (Keeps.refl _ s)).same .power rfl).2.1
@[simp] theorem State.raise_freqTarget (p : Page) (ch b : Nat) : (s.raise p ch b).freqTarget = s.freqTarget :=
  ((State.raise_keeps (M := 1099847172097) rfl (Keeps.refl _ s)).same .power rfl).2.2.1
@[simp] theorem State.raise_coolFrom (p : Page) (ch b : Nat) : (s.raise p ch b).coolFrom = s.coolFrom :=
  ((State.raise_keeps (M := 1099847172097) rfl (Keeps.refl _ s)).same .power rfl).2.2.2.1
@[simp] theorem State.raise_tempFresh (p : Page) (ch b : Nat) : (s.raise p ch b).tempFresh = s.tempFresh :=
  ((State.raise_keeps (M := 1099847172097) rfl (Keeps.refl _ s)).same .power rfl).2.2.2.2.1
@[simp] theorem State.raise_throttles (p : Page) (ch b : Nat) : (s.raise p ch b).throttles = s.throttles :=
  ((State.raise_keeps (M := 1099847172097) rfl (Keeps.refl _ s)).same .power rfl).2.2.2.2.2.1
@[simp] theorem State.raise_pcie (p : Page) (ch b : Nat) : (s.raise p ch b).pcie = s.pcie :=
  ((State.raise_keeps (M := 1099847172097) rfl (Keeps.refl _ s)).same .host rfl).1
@[simp] theorem State.raise_hostWaiting (p : Page) (ch b : Nat) : (s.raise p ch b).hostWaiting = s.hostWaiting :=
  ((State.raise_keeps (M := 1099847172097) rfl (Keeps.refl _ s)).same .host rfl).2.1
@[simp] theorem State.raise_hostOut (p : Page) (ch b : Nat) : (s.raise p ch b).hostOut = s.hostOut :=
  ((State.raise_keeps (M := 1099847172097) rfl (Keeps.refl _ s)).same .host rfl).2.2
@[simp] theorem State.raise_windows (p : Page) (ch b : Nat) : (s.raise p ch b).windows = s.windows :=
  ((State.raise_keeps (M := 1099847172097) rfl (Keeps.refl _ s)).same .debug rfl).1
@[simp] theorem State.raise_tap (p : Page) (ch b : Nat) : (s.raise p ch b).tap = s.tap :=
  ((State.raise_keeps (M := 1099847172097) rfl (Keeps.refl _ s)).same .tap rfl)
@[simp] theorem State.raise_challenges (p : Page) (ch b : Nat) : (s.raise p ch b).challenges = s.challenges :=
  ((State.raise_keeps (M := 1099847172097) rfl (Keeps.refl _ s)).same .debug rfl).2.1
@[simp] theorem State.raise_challengeAt (p : Page) (ch b : Nat) : (s.raise p ch b).challengeAt = s.challengeAt :=
  ((State.raise_keeps (M := 1099847172097) rfl (Keeps.refl _ s)).same .debug rfl).2.2.1
@[simp] theorem State.raise_haltAt (p : Page) (ch b : Nat) : (s.raise p ch b).haltAt = s.haltAt :=
  ((State.raise_keeps (M := 1099847172097) rfl (Keeps.refl _ s)).same .debug rfl).2.2.2.1
@[simp] theorem State.raise_releasing (p : Page) (ch b : Nat) : (s.raise p ch b).releasing = s.releasing :=
  ((State.raise_keeps (M := 1099847172097) rfl (Keeps.refl _ s)).same .debug rfl).2.2.2.2.1
@[simp] theorem State.raise_haltDip (p : Page) (ch b : Nat) : (s.raise p ch b).haltDip = s.haltDip :=
  ((State.raise_keeps (M := 1099847172097) rfl (Keeps.refl _ s)).same .debug rfl).2.2.2.2.2.1
@[simp] theorem State.raise_haltEdges (p : Page) (ch b : Nat) : (s.raise p ch b).haltEdges = s.haltEdges :=
  ((State.raise_keeps (M := 1099847172097) rfl (Keeps.refl _ s)).same .debug rfl).2.2.2.2.2.2
@[simp] theorem State.raise_trace (p : Page) (ch b : Nat) : (s.raise p ch b).trace = s.trace :=
  ((State.raise_keeps (M := 1099847172097) rfl (Keeps.refl _ s)).same .trace rfl).1
@[simp] theorem State.raise_coreTicks (p : Page) (ch b : Nat) : (s.raise p ch b).coreTicks = s.coreTicks :=
  ((State.raise_keeps (M := 1099847172097) rfl (Keeps.refl _ s)).same .time rfl).2.2.2.2
@[simp] theorem State.raise_traceFrom (p : Page) (ch b : Nat) : (s.raise p ch b).traceFrom = s.traceFrom :=
  ((State.raise_keeps (M := 1099847172097) rfl (Keeps.refl _ s)).same .trace rfl).2
@[simp] theorem State.raise_haltDecided (p : Page) (ch b : Nat) : (s.raise p ch b).haltDecided = s.haltDecided :=
  ((State.raise_keeps (M := 1099847172097) rfl (Keeps.refl _ s)).same .halts rfl)
@[simp] theorem State.raise_awake (p : Page) (ch b : Nat) : (s.raise p ch b).awake = s.awake :=
  ((State.raise_keeps (M := 1099847172097) rfl (Keeps.refl _ s)).same .power rfl).2.2.2.2.2.2
@[simp] theorem State.raise_nocHeld (p : Page) (ch b : Nat) : (s.raise p ch b).nocHeld = s.nocHeld :=
  ((State.raise_keeps (M := 1099847172097) rfl (Keeps.refl _ s)).same .noc rfl).1
@[simp] theorem State.raise_quayReqs (p : Page) (ch b : Nat) : (s.raise p ch b).quayReqs = s.quayReqs :=
  ((State.raise_keeps (M := 1099847172097) rfl (Keeps.refl _ s)).same .noc rfl).2.1
@[simp] theorem State.raise_nocLocked (p : Page) (ch b : Nat) : (s.raise p ch b).nocLocked = s.nocLocked :=
  ((State.raise_keeps (M := 1099847172097) rfl (Keeps.refl _ s)).same .noc rfl).2.2
@[simp] theorem State.raise_scratchReady (p : Page) (ch b : Nat) : (s.raise p ch b).scratchReady = s.scratchReady :=
  ((State.raise_keeps (M := 1099847172097) rfl (Keeps.refl _ s)).same .scratch rfl).2

/-! ## irqEvent -/

@[simp] theorem State.irqEvent_pending (n : Nat) : (s.irqEvent n).pending = s.pending :=
  (State.irqEvent_keeps (M := 335544321) rfl (Keeps.refl _ s)).pending
@[simp] theorem State.irqEvent_selects (n : Nat) : (s.irqEvent n).selects = s.selects :=
  ((State.irqEvent_keeps (M := 335544321) rfl (Keeps.refl _ s)).same .access rfl).1
@[simp] theorem State.irqEvent_staging (n : Nat) : (s.irqEvent n).staging = s.staging :=
  ((State.irqEvent_keeps (M := 335544321) rfl (Keeps.refl _ s)).same .access rfl).2.1
@[simp] theorem State.irqEvent_captures (n : Nat) : (s.irqEvent n).captures = s.captures :=
  ((State.irqEvent_keeps (M := 335544321) rfl (Keeps.refl _ s)).same .access rfl).2.2.1
@[simp] theorem State.irqEvent_hiCaptures (n : Nat) : (s.irqEvent n).hiCaptures = s.hiCaptures :=
  ((State.irqEvent_keeps (M := 335544321) rfl (Keeps.refl _ s)).same .access rfl).2.2.2
@[simp] theorem State.irqEvent_tb (n : Nat) : (s.irqEvent n).tb = s.tb :=
  ((State.irqEvent_keeps (M := 335544321) rfl (Keeps.refl _ s)).same .time rfl).1
@[simp] theorem State.irqEvent_timeRuns (n : Nat) : (s.irqEvent n).timeRuns = s.timeRuns :=
  ((State.irqEvent_keeps (M := 335544321) rfl (Keeps.refl _ s)).same .time rfl).2.1
@[simp] theorem State.irqEvent_timeRemain (n : Nat) : (s.irqEvent n).timeRemain = s.timeRemain :=
  ((State.irqEvent_keeps (M := 335544321) rfl (Keeps.refl _ s)).same .time rfl).2.2.1
@[simp] theorem State.irqEvent_timeSince (n : Nat) : (s.irqEvent n).timeSince = s.timeSince :=
  ((State.irqEvent_keeps (M := 335544321) rfl (Keeps.refl _ s)).same .time rfl).2.2.2.1
@[simp] theorem State.irqEvent_ethKicked (n : Nat) : (s.irqEvent n).ethKicked = s.ethKicked :=
  ((State.irqEvent_keeps (M := 335544321) rfl (Keeps.refl _ s)).same .ethRing rfl)
@[simp] theorem State.irqEvent_health (n : Nat) : (s.irqEvent n).health = s.health :=
  ((State.irqEvent_keeps (M := 335544321) rfl (Keeps.refl _ s)).same .health rfl).1
@[simp] theorem State.irqEvent_istore (n : Nat) : (s.irqEvent n).istore = s.istore :=
  ((State.irqEvent_keeps (M := 335544321) rfl (Keeps.refl _ s)).same .istore rfl).1
@[simp] theorem State.irqEvent_rows (n : Nat) : (s.irqEvent n).rows = s.rows :=
  ((State.irqEvent_keeps (M := 335544321) rfl (Keeps.refl _ s)).same .rows rfl)
@[simp] theorem State.irqEvent_shadow (n : Nat) : (s.irqEvent n).shadow = s.shadow :=
  ((State.irqEvent_keeps (M := 335544321) rfl (Keeps.refl _ s)).same .shadow rfl)
@[simp] theorem State.irqEvent_canary (n : Nat) : (s.irqEvent n).canary = s.canary :=
  ((State.irqEvent_keeps (M := 335544321) rfl (Keeps.refl _ s)).same .health rfl).2
@[simp] theorem State.irqEvent_isWritebacks (n : Nat) : (s.irqEvent n).isWritebacks = s.isWritebacks :=
  ((State.irqEvent_keeps (M := 335544321) rfl (Keeps.refl _ s)).same .istore rfl).2
@[simp] theorem State.irqEvent_lanes (n : Nat) : (s.irqEvent n).lanes = s.lanes :=
  ((State.irqEvent_keeps (M := 335544321) rfl (Keeps.refl _ s)).same .orchard rfl).1
@[simp] theorem State.irqEvent_chans (n : Nat) : (s.irqEvent n).chans = s.chans :=
  ((State.irqEvent_keeps (M := 335544321) rfl (Keeps.refl _ s)).same .orchard rfl).2.1
@[simp] theorem State.irqEvent_addrStage (n : Nat) : (s.irqEvent n).addrStage = s.addrStage :=
  ((State.irqEvent_keeps (M := 335544321) rfl (Keeps.refl _ s)).same .orchard rfl).2.2.1
@[simp] theorem State.irqEvent_wdataStage (n : Nat) : (s.irqEvent n).wdataStage = s.wdataStage :=
  ((State.irqEvent_keeps (M := 335544321) rfl (Keeps.refl _ s)).same .orchard rfl).2.2.2.1
@[simp] theorem State.irqEvent_rdata (n : Nat) : (s.irqEvent n).rdata = s.rdata :=
  ((State.irqEvent_keeps (M := 335544321) rfl (Keeps.refl _ s)).same .orchard rfl).2.2.2.2.1
@[simp] theorem State.irqEvent_rpend (n : Nat) : (s.irqEvent n).rpend = s.rpend :=
  ((State.irqEvent_keeps (M := 335544321) rfl (Keeps.refl _ s)).same .orchard rfl).2.2.2.2.2
@[simp] theorem State.irqEvent_fabCap (n : Nat) : (s.irqEvent n).fabCap = s.fabCap :=
  ((State.irqEvent_keeps (M := 335544321) rfl (Keeps.refl _ s)).same .outbound rfl).1
@[simp] theorem State.irqEvent_fabOwn (n : Nat) : (s.irqEvent n).fabOwn = s.fabOwn :=
  ((State.irqEvent_keeps (M := 335544321) rfl (Keeps.refl _ s)).same .outbound rfl).2.1
@[simp] theorem State.irqEvent_fabPres (n : Nat) : (s.irqEvent n).fabPres = s.fabPres :=
  ((State.irqEvent_keeps (M := 335544321) rfl (Keeps.refl _ s)).same .outbound rfl).2.2.1
@[simp] theorem State.irqEvent_fabIn (n : Nat) : (s.irqEvent n).fabIn = s.fabIn :=
  ((State.irqEvent_keeps (M := 335544321) rfl (Keeps.refl _ s)).same .outbound rfl).2.2.2.1
@[simp] theorem State.irqEvent_relBlank (n : Nat) : (s.irqEvent n).relBlank = s.relBlank :=
  ((State.irqEvent_keeps (M := 335544321) rfl (Keeps.refl _ s)).same .outbound rfl).2.2.2.2
@[simp] theorem State.irqEvent_parts (n : Nat) : (s.irqEvent n).parts = s.parts :=
  ((State.irqEvent_keeps (M := 335544321) rfl (Keeps.refl _ s)).same .parts rfl)
@[simp] theorem State.irqEvent_dmem (n : Nat) : (s.irqEvent n).dmem = s.dmem :=
  ((State.irqEvent_keeps (M := 335544321) rfl (Keeps.refl _ s)).same .dmem rfl)
@[simp] theorem State.irqEvent_banks (n : Nat) : (s.irqEvent n).banks = s.banks :=
  ((State.irqEvent_keeps (M := 335544321) rfl (Keeps.refl _ s)).same .banks rfl)
@[simp] theorem State.irqEvent_resvBank (n : Nat) : (s.irqEvent n).resvBank = s.resvBank :=
  ((State.irqEvent_keeps (M := 335544321) rfl (Keeps.refl _ s)).same .resv rfl)
@[simp] theorem State.irqEvent_exch (n : Nat) : (s.irqEvent n).exch = s.exch :=
  ((State.irqEvent_keeps (M := 335544321) rfl (Keeps.refl _ s)).same .exch rfl)
@[simp] theorem State.irqEvent_exchHeld (n : Nat) : (s.irqEvent n).exchHeld = s.exchHeld :=
  ((State.irqEvent_keeps (M := 335544321) rfl (Keeps.refl _ s)).same .exchAux rfl).1
@[simp] theorem State.irqEvent_exchTook (n : Nat) : (s.irqEvent n).exchTook = s.exchTook :=
  ((State.irqEvent_keeps (M := 335544321) rfl (Keeps.refl _ s)).same .exchAux rfl).2.1
@[simp] theorem State.irqEvent_exchPriv (n : Nat) : (s.irqEvent n).exchPriv = s.exchPriv :=
  ((State.irqEvent_keeps (M := 335544321) rfl (Keeps.refl _ s)).same .exchAux rfl).2.2.1
@[simp] theorem State.irqEvent_replayExch (n : Nat) : (s.irqEvent n).replayExch = s.replayExch :=
  ((State.irqEvent_keeps (M := 335544321) rfl (Keeps.refl _ s)).same .exchAux rfl).2.2.2
@[simp] theorem State.irqEvent_probes (n : Nat) : (s.irqEvent n).probes = s.probes :=
  ((State.irqEvent_keeps (M := 335544321) rfl (Keeps.refl _ s)).same .acq rfl).1
@[simp] theorem State.irqEvent_onStep (n : Nat) : (s.irqEvent n).onStep = s.onStep :=
  ((State.irqEvent_keeps (M := 335544321) rfl (Keeps.refl _ s)).same .acq rfl).2.1
@[simp] theorem State.irqEvent_acqs (n : Nat) : (s.irqEvent n).acqs = s.acqs :=
  ((State.irqEvent_keeps (M := 335544321) rfl (Keeps.refl _ s)).same .acq rfl).2.2.1
@[simp] theorem State.irqEvent_tdcs (n : Nat) : (s.irqEvent n).tdcs = s.tdcs :=
  ((State.irqEvent_keeps (M := 335544321) rfl (Keeps.refl _ s)).same .acq rfl).2.2.2
@[simp] theorem State.irqEvent_netmap (n : Nat) : (s.irqEvent n).netmap = s.netmap :=
  ((State.irqEvent_keeps (M := 335544321) rfl (Keeps.refl _ s)).same .netmap rfl)
@[simp] theorem State.irqEvent_rxSlots (n : Nat) : (s.irqEvent n).rxSlots = s.rxSlots :=
  ((State.irqEvent_keeps (M := 335544321) rfl (Keeps.refl _ s)).same .slots rfl).1
@[simp] theorem State.irqEvent_txSlots (n : Nat) : (s.irqEvent n).txSlots = s.txSlots :=
  ((State.irqEvent_keeps (M := 335544321) rfl (Keeps.refl _ s)).same .slots rfl).2.1
@[simp] theorem State.irqEvent_txHeld (n : Nat) : (s.irqEvent n).txHeld = s.txHeld :=
  ((State.irqEvent_keeps (M := 335544321) rfl (Keeps.refl _ s)).same .slots rfl).2.2
@[simp] theorem State.irqEvent_casPorts (n : Nat) : (s.irqEvent n).casPorts = s.casPorts :=
  ((State.irqEvent_keeps (M := 335544321) rfl (Keeps.refl _ s)).same .ports rfl).1
@[simp] theorem State.irqEvent_laneSync (n : Nat) : (s.irqEvent n).laneSync = s.laneSync :=
  ((State.irqEvent_keeps (M := 335544321) rfl (Keeps.refl _ s)).same .ports rfl).2
@[simp] theorem State.irqEvent_cas (n : Nat) : (s.irqEvent n).cas = s.cas :=
  ((State.irqEvent_keeps (M := 335544321) rfl (Keeps.refl _ s)).same .cas rfl)
@[simp] theorem State.irqEvent_frames (n : Nat) : (s.irqEvent n).frames = s.frames :=
  ((State.irqEvent_keeps (M := 335544321) rfl (Keeps.refl _ s)).same .frames rfl)
@[simp] theorem State.irqEvent_fabric (n : Nat) : (s.irqEvent n).fabric = s.fabric :=
  ((State.irqEvent_keeps (M := 335544321) rfl (Keeps.refl _ s)).same .fabric rfl)
@[simp] theorem State.irqEvent_logbook (n : Nat) : (s.irqEvent n).logbook = s.logbook :=
  ((State.irqEvent_keeps (M := 335544321) rfl (Keeps.refl _ s)).same .logbook rfl).1
@[simp] theorem State.irqEvent_log (n : Nat) : (s.irqEvent n).log = s.log :=
  ((State.irqEvent_keeps (M := 335544321) rfl (Keeps.refl _ s)).same .log rfl)
@[simp] theorem State.irqEvent_dipFrom (n : Nat) : (s.irqEvent n).dipFrom = s.dipFrom :=
  ((State.irqEvent_keeps (M := 335544321) rfl (Keeps.refl _ s)).same .dip rfl).1
@[simp] theorem State.irqEvent_dipLow (n : Nat) : (s.irqEvent n).dipLow = s.dipLow :=
  ((State.irqEvent_keeps (M := 335544321) rfl (Keeps.refl _ s)).same .dip rfl).2.1
@[simp] theorem State.irqEvent_dipTick (n : Nat) : (s.irqEvent n).dipTick = s.dipTick :=
  ((State.irqEvent_keeps (M := 335544321) rfl (Keeps.refl _ s)).same .dip rfl).2.2.1
@[simp] theorem State.irqEvent_checkByCmd (n : Nat) : (s.irqEvent n).checkByCmd = s.checkByCmd :=
  ((State.irqEvent_keeps (M := 335544321) rfl (Keeps.refl _ s)).same .dip rfl).2.2.2.1
@[simp] theorem State.irqEvent_dipPassed (n : Nat) : (s.irqEvent n).dipPassed = s.dipPassed :=
  ((State.irqEvent_keeps (M := 335544321) rfl (Keeps.refl _ s)).same .dip rfl).2.2.2.2
@[simp] theorem State.irqEvent_irqStacks (n : Nat) : (s.irqEvent n).irqStacks = s.irqStacks :=
  ((State.irqEvent_keeps (M := 335544321) rfl (Keeps.refl _ s)).same .irqStack rfl)
@[simp] theorem State.irqEvent_control (n : Nat) : (s.irqEvent n).control = s.control :=
  ((State.irqEvent_keeps (M := 335544321) rfl (Keeps.refl _ s)).same .control rfl)
@[simp] theorem State.irqEvent_records (n : Nat) : (s.irqEvent n).records = s.records :=
  ((State.irqEvent_keeps (M := 335544321) rfl (Keeps.refl _ s)).same .logbook rfl).2
@[simp] theorem State.irqEvent_cores (n : Nat) : (s.irqEvent n).cores = s.cores :=
  ((State.irqEvent_keeps (M := 335544321) rfl (Keeps.refl _ s)).same .cores rfl)
@[simp] theorem State.irqEvent_scratch (n : Nat) : (s.irqEvent n).scratch = s.scratch :=
  ((State.irqEvent_keeps (M := 335544321) rfl (Keeps.refl _ s)).same .scratch rfl).1
@[simp] theorem State.irqEvent_hms (n : Nat) : (s.irqEvent n).hms = s.hms :=
  ((State.irqEvent_keeps (M := 335544321) rfl (Keeps.refl _ s)).same .hms rfl)
@[simp] theorem State.irqEvent_porst (n : Nat) : (s.irqEvent n).porst = s.porst :=
  ((State.irqEvent_keeps (M := 335544321) rfl (Keeps.refl _ s)).same .power rfl).1
@[simp] theorem State.irqEvent_tripped (n : Nat) : (s.irqEvent n).tripped = s.tripped :=
  ((State.irqEvent_keeps (M := 335544321) rfl (Keeps.refl _ s)).same .power rfl).2.1
@[simp] theorem State.irqEvent_freqTarget (n : Nat) : (s.irqEvent n).freqTarget = s.freqTarget :=
  ((State.irqEvent_keeps (M := 335544321) rfl (Keeps.refl _ s)).same .power rfl).2.2.1
@[simp] theorem State.irqEvent_coolFrom (n : Nat) : (s.irqEvent n).coolFrom = s.coolFrom :=
  ((State.irqEvent_keeps (M := 335544321) rfl (Keeps.refl _ s)).same .power rfl).2.2.2.1
@[simp] theorem State.irqEvent_tempFresh (n : Nat) : (s.irqEvent n).tempFresh = s.tempFresh :=
  ((State.irqEvent_keeps (M := 335544321) rfl (Keeps.refl _ s)).same .power rfl).2.2.2.2.1
@[simp] theorem State.irqEvent_throttles (n : Nat) : (s.irqEvent n).throttles = s.throttles :=
  ((State.irqEvent_keeps (M := 335544321) rfl (Keeps.refl _ s)).same .power rfl).2.2.2.2.2.1
@[simp] theorem State.irqEvent_pcie (n : Nat) : (s.irqEvent n).pcie = s.pcie :=
  ((State.irqEvent_keeps (M := 335544321) rfl (Keeps.refl _ s)).same .host rfl).1
@[simp] theorem State.irqEvent_hostWaiting (n : Nat) : (s.irqEvent n).hostWaiting = s.hostWaiting :=
  ((State.irqEvent_keeps (M := 335544321) rfl (Keeps.refl _ s)).same .host rfl).2.1
@[simp] theorem State.irqEvent_hostOut (n : Nat) : (s.irqEvent n).hostOut = s.hostOut :=
  ((State.irqEvent_keeps (M := 335544321) rfl (Keeps.refl _ s)).same .host rfl).2.2
@[simp] theorem State.irqEvent_windows (n : Nat) : (s.irqEvent n).windows = s.windows :=
  ((State.irqEvent_keeps (M := 335544321) rfl (Keeps.refl _ s)).same .debug rfl).1
@[simp] theorem State.irqEvent_tap (n : Nat) : (s.irqEvent n).tap = s.tap :=
  ((State.irqEvent_keeps (M := 335544321) rfl (Keeps.refl _ s)).same .tap rfl)
@[simp] theorem State.irqEvent_challenges (n : Nat) : (s.irqEvent n).challenges = s.challenges :=
  ((State.irqEvent_keeps (M := 335544321) rfl (Keeps.refl _ s)).same .debug rfl).2.1
@[simp] theorem State.irqEvent_challengeAt (n : Nat) : (s.irqEvent n).challengeAt = s.challengeAt :=
  ((State.irqEvent_keeps (M := 335544321) rfl (Keeps.refl _ s)).same .debug rfl).2.2.1
@[simp] theorem State.irqEvent_haltAt (n : Nat) : (s.irqEvent n).haltAt = s.haltAt :=
  ((State.irqEvent_keeps (M := 335544321) rfl (Keeps.refl _ s)).same .debug rfl).2.2.2.1
@[simp] theorem State.irqEvent_releasing (n : Nat) : (s.irqEvent n).releasing = s.releasing :=
  ((State.irqEvent_keeps (M := 335544321) rfl (Keeps.refl _ s)).same .debug rfl).2.2.2.2.1
@[simp] theorem State.irqEvent_haltDip (n : Nat) : (s.irqEvent n).haltDip = s.haltDip :=
  ((State.irqEvent_keeps (M := 335544321) rfl (Keeps.refl _ s)).same .debug rfl).2.2.2.2.2.1
@[simp] theorem State.irqEvent_haltEdges (n : Nat) : (s.irqEvent n).haltEdges = s.haltEdges :=
  ((State.irqEvent_keeps (M := 335544321) rfl (Keeps.refl _ s)).same .debug rfl).2.2.2.2.2.2
@[simp] theorem State.irqEvent_trace (n : Nat) : (s.irqEvent n).trace = s.trace :=
  ((State.irqEvent_keeps (M := 335544321) rfl (Keeps.refl _ s)).same .trace rfl).1
@[simp] theorem State.irqEvent_coreTicks (n : Nat) : (s.irqEvent n).coreTicks = s.coreTicks :=
  ((State.irqEvent_keeps (M := 335544321) rfl (Keeps.refl _ s)).same .time rfl).2.2.2.2
@[simp] theorem State.irqEvent_traceFrom (n : Nat) : (s.irqEvent n).traceFrom = s.traceFrom :=
  ((State.irqEvent_keeps (M := 335544321) rfl (Keeps.refl _ s)).same .trace rfl).2
@[simp] theorem State.irqEvent_haltDecided (n : Nat) : (s.irqEvent n).haltDecided = s.haltDecided :=
  ((State.irqEvent_keeps (M := 335544321) rfl (Keeps.refl _ s)).same .halts rfl)
@[simp] theorem State.irqEvent_awake (n : Nat) : (s.irqEvent n).awake = s.awake :=
  ((State.irqEvent_keeps (M := 335544321) rfl (Keeps.refl _ s)).same .power rfl).2.2.2.2.2.2
@[simp] theorem State.irqEvent_nocHeld (n : Nat) : (s.irqEvent n).nocHeld = s.nocHeld :=
  ((State.irqEvent_keeps (M := 335544321) rfl (Keeps.refl _ s)).same .noc rfl).1
@[simp] theorem State.irqEvent_quayReqs (n : Nat) : (s.irqEvent n).quayReqs = s.quayReqs :=
  ((State.irqEvent_keeps (M := 335544321) rfl (Keeps.refl _ s)).same .noc rfl).2.1
@[simp] theorem State.irqEvent_nocLocked (n : Nat) : (s.irqEvent n).nocLocked = s.nocLocked :=
  ((State.irqEvent_keeps (M := 335544321) rfl (Keeps.refl _ s)).same .noc rfl).2.2
@[simp] theorem State.irqEvent_scratchReady (n : Nat) : (s.irqEvent n).scratchReady = s.scratchReady :=
  ((State.irqEvent_keeps (M := 335544321) rfl (Keeps.refl _ s)).same .scratch rfl).2

/-! ## logEvent -/

@[simp] theorem State.logEvent_pending (src i c k d e : Nat) : (s.logEvent src i c k d e).pending = s.pending :=
  (State.logEvent_keeps (M := 18692049993729) rfl (Keeps.refl _ s)).pending
@[simp] theorem State.logEvent_selects (src i c k d e : Nat) : (s.logEvent src i c k d e).selects = s.selects :=
  ((State.logEvent_keeps (M := 18692049993729) rfl (Keeps.refl _ s)).same .access rfl).1
@[simp] theorem State.logEvent_staging (src i c k d e : Nat) : (s.logEvent src i c k d e).staging = s.staging :=
  ((State.logEvent_keeps (M := 18692049993729) rfl (Keeps.refl _ s)).same .access rfl).2.1
@[simp] theorem State.logEvent_captures (src i c k d e : Nat) : (s.logEvent src i c k d e).captures = s.captures :=
  ((State.logEvent_keeps (M := 18692049993729) rfl (Keeps.refl _ s)).same .access rfl).2.2.1
@[simp] theorem State.logEvent_hiCaptures (src i c k d e : Nat) : (s.logEvent src i c k d e).hiCaptures = s.hiCaptures :=
  ((State.logEvent_keeps (M := 18692049993729) rfl (Keeps.refl _ s)).same .access rfl).2.2.2
@[simp] theorem State.logEvent_tb (src i c k d e : Nat) : (s.logEvent src i c k d e).tb = s.tb :=
  ((State.logEvent_keeps (M := 18692049993729) rfl (Keeps.refl _ s)).same .time rfl).1
@[simp] theorem State.logEvent_timeRuns (src i c k d e : Nat) : (s.logEvent src i c k d e).timeRuns = s.timeRuns :=
  ((State.logEvent_keeps (M := 18692049993729) rfl (Keeps.refl _ s)).same .time rfl).2.1
@[simp] theorem State.logEvent_timeRemain (src i c k d e : Nat) : (s.logEvent src i c k d e).timeRemain = s.timeRemain :=
  ((State.logEvent_keeps (M := 18692049993729) rfl (Keeps.refl _ s)).same .time rfl).2.2.1
@[simp] theorem State.logEvent_timeSince (src i c k d e : Nat) : (s.logEvent src i c k d e).timeSince = s.timeSince :=
  ((State.logEvent_keeps (M := 18692049993729) rfl (Keeps.refl _ s)).same .time rfl).2.2.2.1
@[simp] theorem State.logEvent_ethKicked (src i c k d e : Nat) : (s.logEvent src i c k d e).ethKicked = s.ethKicked :=
  ((State.logEvent_keeps (M := 18692049993729) rfl (Keeps.refl _ s)).same .ethRing rfl)
@[simp] theorem State.logEvent_health (src i c k d e : Nat) : (s.logEvent src i c k d e).health = s.health :=
  ((State.logEvent_keeps (M := 18692049993729) rfl (Keeps.refl _ s)).same .health rfl).1
@[simp] theorem State.logEvent_istore (src i c k d e : Nat) : (s.logEvent src i c k d e).istore = s.istore :=
  ((State.logEvent_keeps (M := 18692049993729) rfl (Keeps.refl _ s)).same .istore rfl).1
@[simp] theorem State.logEvent_rows (src i c k d e : Nat) : (s.logEvent src i c k d e).rows = s.rows :=
  ((State.logEvent_keeps (M := 18692049993729) rfl (Keeps.refl _ s)).same .rows rfl)
@[simp] theorem State.logEvent_shadow (src i c k d e : Nat) : (s.logEvent src i c k d e).shadow = s.shadow :=
  ((State.logEvent_keeps (M := 18692049993729) rfl (Keeps.refl _ s)).same .shadow rfl)
@[simp] theorem State.logEvent_canary (src i c k d e : Nat) : (s.logEvent src i c k d e).canary = s.canary :=
  ((State.logEvent_keeps (M := 18692049993729) rfl (Keeps.refl _ s)).same .health rfl).2
@[simp] theorem State.logEvent_isWritebacks (src i c k d e : Nat) : (s.logEvent src i c k d e).isWritebacks = s.isWritebacks :=
  ((State.logEvent_keeps (M := 18692049993729) rfl (Keeps.refl _ s)).same .istore rfl).2
@[simp] theorem State.logEvent_lanes (src i c k d e : Nat) : (s.logEvent src i c k d e).lanes = s.lanes :=
  ((State.logEvent_keeps (M := 18692049993729) rfl (Keeps.refl _ s)).same .orchard rfl).1
@[simp] theorem State.logEvent_chans (src i c k d e : Nat) : (s.logEvent src i c k d e).chans = s.chans :=
  ((State.logEvent_keeps (M := 18692049993729) rfl (Keeps.refl _ s)).same .orchard rfl).2.1
@[simp] theorem State.logEvent_addrStage (src i c k d e : Nat) : (s.logEvent src i c k d e).addrStage = s.addrStage :=
  ((State.logEvent_keeps (M := 18692049993729) rfl (Keeps.refl _ s)).same .orchard rfl).2.2.1
@[simp] theorem State.logEvent_wdataStage (src i c k d e : Nat) : (s.logEvent src i c k d e).wdataStage = s.wdataStage :=
  ((State.logEvent_keeps (M := 18692049993729) rfl (Keeps.refl _ s)).same .orchard rfl).2.2.2.1
@[simp] theorem State.logEvent_rdata (src i c k d e : Nat) : (s.logEvent src i c k d e).rdata = s.rdata :=
  ((State.logEvent_keeps (M := 18692049993729) rfl (Keeps.refl _ s)).same .orchard rfl).2.2.2.2.1
@[simp] theorem State.logEvent_rpend (src i c k d e : Nat) : (s.logEvent src i c k d e).rpend = s.rpend :=
  ((State.logEvent_keeps (M := 18692049993729) rfl (Keeps.refl _ s)).same .orchard rfl).2.2.2.2.2
@[simp] theorem State.logEvent_fabCap (src i c k d e : Nat) : (s.logEvent src i c k d e).fabCap = s.fabCap :=
  ((State.logEvent_keeps (M := 18692049993729) rfl (Keeps.refl _ s)).same .outbound rfl).1
@[simp] theorem State.logEvent_fabOwn (src i c k d e : Nat) : (s.logEvent src i c k d e).fabOwn = s.fabOwn :=
  ((State.logEvent_keeps (M := 18692049993729) rfl (Keeps.refl _ s)).same .outbound rfl).2.1
@[simp] theorem State.logEvent_fabPres (src i c k d e : Nat) : (s.logEvent src i c k d e).fabPres = s.fabPres :=
  ((State.logEvent_keeps (M := 18692049993729) rfl (Keeps.refl _ s)).same .outbound rfl).2.2.1
@[simp] theorem State.logEvent_fabIn (src i c k d e : Nat) : (s.logEvent src i c k d e).fabIn = s.fabIn :=
  ((State.logEvent_keeps (M := 18692049993729) rfl (Keeps.refl _ s)).same .outbound rfl).2.2.2.1
@[simp] theorem State.logEvent_relBlank (src i c k d e : Nat) : (s.logEvent src i c k d e).relBlank = s.relBlank :=
  ((State.logEvent_keeps (M := 18692049993729) rfl (Keeps.refl _ s)).same .outbound rfl).2.2.2.2
@[simp] theorem State.logEvent_parts (src i c k d e : Nat) : (s.logEvent src i c k d e).parts = s.parts :=
  ((State.logEvent_keeps (M := 18692049993729) rfl (Keeps.refl _ s)).same .parts rfl)
@[simp] theorem State.logEvent_dmem (src i c k d e : Nat) : (s.logEvent src i c k d e).dmem = s.dmem :=
  ((State.logEvent_keeps (M := 18692049993729) rfl (Keeps.refl _ s)).same .dmem rfl)
@[simp] theorem State.logEvent_banks (src i c k d e : Nat) : (s.logEvent src i c k d e).banks = s.banks :=
  ((State.logEvent_keeps (M := 18692049993729) rfl (Keeps.refl _ s)).same .banks rfl)
@[simp] theorem State.logEvent_resvBank (src i c k d e : Nat) : (s.logEvent src i c k d e).resvBank = s.resvBank :=
  ((State.logEvent_keeps (M := 18692049993729) rfl (Keeps.refl _ s)).same .resv rfl)
@[simp] theorem State.logEvent_exch (src i c k d e : Nat) : (s.logEvent src i c k d e).exch = s.exch :=
  ((State.logEvent_keeps (M := 18692049993729) rfl (Keeps.refl _ s)).same .exch rfl)
@[simp] theorem State.logEvent_exchHeld (src i c k d e : Nat) : (s.logEvent src i c k d e).exchHeld = s.exchHeld :=
  ((State.logEvent_keeps (M := 18692049993729) rfl (Keeps.refl _ s)).same .exchAux rfl).1
@[simp] theorem State.logEvent_exchTook (src i c k d e : Nat) : (s.logEvent src i c k d e).exchTook = s.exchTook :=
  ((State.logEvent_keeps (M := 18692049993729) rfl (Keeps.refl _ s)).same .exchAux rfl).2.1
@[simp] theorem State.logEvent_exchPriv (src i c k d e : Nat) : (s.logEvent src i c k d e).exchPriv = s.exchPriv :=
  ((State.logEvent_keeps (M := 18692049993729) rfl (Keeps.refl _ s)).same .exchAux rfl).2.2.1
@[simp] theorem State.logEvent_replayExch (src i c k d e : Nat) : (s.logEvent src i c k d e).replayExch = s.replayExch :=
  ((State.logEvent_keeps (M := 18692049993729) rfl (Keeps.refl _ s)).same .exchAux rfl).2.2.2
@[simp] theorem State.logEvent_probes (src i c k d e : Nat) : (s.logEvent src i c k d e).probes = s.probes :=
  ((State.logEvent_keeps (M := 18692049993729) rfl (Keeps.refl _ s)).same .acq rfl).1
@[simp] theorem State.logEvent_onStep (src i c k d e : Nat) : (s.logEvent src i c k d e).onStep = s.onStep :=
  ((State.logEvent_keeps (M := 18692049993729) rfl (Keeps.refl _ s)).same .acq rfl).2.1
@[simp] theorem State.logEvent_acqs (src i c k d e : Nat) : (s.logEvent src i c k d e).acqs = s.acqs :=
  ((State.logEvent_keeps (M := 18692049993729) rfl (Keeps.refl _ s)).same .acq rfl).2.2.1
@[simp] theorem State.logEvent_tdcs (src i c k d e : Nat) : (s.logEvent src i c k d e).tdcs = s.tdcs :=
  ((State.logEvent_keeps (M := 18692049993729) rfl (Keeps.refl _ s)).same .acq rfl).2.2.2
@[simp] theorem State.logEvent_netmap (src i c k d e : Nat) : (s.logEvent src i c k d e).netmap = s.netmap :=
  ((State.logEvent_keeps (M := 18692049993729) rfl (Keeps.refl _ s)).same .netmap rfl)
@[simp] theorem State.logEvent_rxSlots (src i c k d e : Nat) : (s.logEvent src i c k d e).rxSlots = s.rxSlots :=
  ((State.logEvent_keeps (M := 18692049993729) rfl (Keeps.refl _ s)).same .slots rfl).1
@[simp] theorem State.logEvent_txSlots (src i c k d e : Nat) : (s.logEvent src i c k d e).txSlots = s.txSlots :=
  ((State.logEvent_keeps (M := 18692049993729) rfl (Keeps.refl _ s)).same .slots rfl).2.1
@[simp] theorem State.logEvent_txHeld (src i c k d e : Nat) : (s.logEvent src i c k d e).txHeld = s.txHeld :=
  ((State.logEvent_keeps (M := 18692049993729) rfl (Keeps.refl _ s)).same .slots rfl).2.2
@[simp] theorem State.logEvent_casPorts (src i c k d e : Nat) : (s.logEvent src i c k d e).casPorts = s.casPorts :=
  ((State.logEvent_keeps (M := 18692049993729) rfl (Keeps.refl _ s)).same .ports rfl).1
@[simp] theorem State.logEvent_laneSync (src i c k d e : Nat) : (s.logEvent src i c k d e).laneSync = s.laneSync :=
  ((State.logEvent_keeps (M := 18692049993729) rfl (Keeps.refl _ s)).same .ports rfl).2
@[simp] theorem State.logEvent_cas (src i c k d e : Nat) : (s.logEvent src i c k d e).cas = s.cas :=
  ((State.logEvent_keeps (M := 18692049993729) rfl (Keeps.refl _ s)).same .cas rfl)
@[simp] theorem State.logEvent_frames (src i c k d e : Nat) : (s.logEvent src i c k d e).frames = s.frames :=
  ((State.logEvent_keeps (M := 18692049993729) rfl (Keeps.refl _ s)).same .frames rfl)
@[simp] theorem State.logEvent_fabric (src i c k d e : Nat) : (s.logEvent src i c k d e).fabric = s.fabric :=
  ((State.logEvent_keeps (M := 18692049993729) rfl (Keeps.refl _ s)).same .fabric rfl)
@[simp] theorem State.logEvent_logbook (src i c k d e : Nat) : (s.logEvent src i c k d e).logbook = s.logbook :=
  ((State.logEvent_keeps (M := 18692049993729) rfl (Keeps.refl _ s)).same .logbook rfl).1
@[simp] theorem State.logEvent_dipFrom (src i c k d e : Nat) : (s.logEvent src i c k d e).dipFrom = s.dipFrom :=
  ((State.logEvent_keeps (M := 18692049993729) rfl (Keeps.refl _ s)).same .dip rfl).1
@[simp] theorem State.logEvent_dipLow (src i c k d e : Nat) : (s.logEvent src i c k d e).dipLow = s.dipLow :=
  ((State.logEvent_keeps (M := 18692049993729) rfl (Keeps.refl _ s)).same .dip rfl).2.1
@[simp] theorem State.logEvent_dipTick (src i c k d e : Nat) : (s.logEvent src i c k d e).dipTick = s.dipTick :=
  ((State.logEvent_keeps (M := 18692049993729) rfl (Keeps.refl _ s)).same .dip rfl).2.2.1
@[simp] theorem State.logEvent_checkByCmd (src i c k d e : Nat) : (s.logEvent src i c k d e).checkByCmd = s.checkByCmd :=
  ((State.logEvent_keeps (M := 18692049993729) rfl (Keeps.refl _ s)).same .dip rfl).2.2.2.1
@[simp] theorem State.logEvent_dipPassed (src i c k d e : Nat) : (s.logEvent src i c k d e).dipPassed = s.dipPassed :=
  ((State.logEvent_keeps (M := 18692049993729) rfl (Keeps.refl _ s)).same .dip rfl).2.2.2.2
@[simp] theorem State.logEvent_irqStacks (src i c k d e : Nat) : (s.logEvent src i c k d e).irqStacks = s.irqStacks :=
  ((State.logEvent_keeps (M := 18692049993729) rfl (Keeps.refl _ s)).same .irqStack rfl)
@[simp] theorem State.logEvent_control (src i c k d e : Nat) : (s.logEvent src i c k d e).control = s.control :=
  ((State.logEvent_keeps (M := 18692049993729) rfl (Keeps.refl _ s)).same .control rfl)
@[simp] theorem State.logEvent_records (src i c k d e : Nat) : (s.logEvent src i c k d e).records = s.records :=
  ((State.logEvent_keeps (M := 18692049993729) rfl (Keeps.refl _ s)).same .logbook rfl).2
@[simp] theorem State.logEvent_cores (src i c k d e : Nat) : (s.logEvent src i c k d e).cores = s.cores :=
  ((State.logEvent_keeps (M := 18692049993729) rfl (Keeps.refl _ s)).same .cores rfl)
@[simp] theorem State.logEvent_scratch (src i c k d e : Nat) : (s.logEvent src i c k d e).scratch = s.scratch :=
  ((State.logEvent_keeps (M := 18692049993729) rfl (Keeps.refl _ s)).same .scratch rfl).1
@[simp] theorem State.logEvent_hms (src i c k d e : Nat) : (s.logEvent src i c k d e).hms = s.hms :=
  ((State.logEvent_keeps (M := 18692049993729) rfl (Keeps.refl _ s)).same .hms rfl)
@[simp] theorem State.logEvent_porst (src i c k d e : Nat) : (s.logEvent src i c k d e).porst = s.porst :=
  ((State.logEvent_keeps (M := 18692049993729) rfl (Keeps.refl _ s)).same .power rfl).1
@[simp] theorem State.logEvent_tripped (src i c k d e : Nat) : (s.logEvent src i c k d e).tripped = s.tripped :=
  ((State.logEvent_keeps (M := 18692049993729) rfl (Keeps.refl _ s)).same .power rfl).2.1
@[simp] theorem State.logEvent_freqTarget (src i c k d e : Nat) : (s.logEvent src i c k d e).freqTarget = s.freqTarget :=
  ((State.logEvent_keeps (M := 18692049993729) rfl (Keeps.refl _ s)).same .power rfl).2.2.1
@[simp] theorem State.logEvent_coolFrom (src i c k d e : Nat) : (s.logEvent src i c k d e).coolFrom = s.coolFrom :=
  ((State.logEvent_keeps (M := 18692049993729) rfl (Keeps.refl _ s)).same .power rfl).2.2.2.1
@[simp] theorem State.logEvent_tempFresh (src i c k d e : Nat) : (s.logEvent src i c k d e).tempFresh = s.tempFresh :=
  ((State.logEvent_keeps (M := 18692049993729) rfl (Keeps.refl _ s)).same .power rfl).2.2.2.2.1
@[simp] theorem State.logEvent_throttles (src i c k d e : Nat) : (s.logEvent src i c k d e).throttles = s.throttles :=
  ((State.logEvent_keeps (M := 18692049993729) rfl (Keeps.refl _ s)).same .power rfl).2.2.2.2.2.1
@[simp] theorem State.logEvent_pcie (src i c k d e : Nat) : (s.logEvent src i c k d e).pcie = s.pcie :=
  ((State.logEvent_keeps (M := 18692049993729) rfl (Keeps.refl _ s)).same .host rfl).1
@[simp] theorem State.logEvent_hostWaiting (src i c k d e : Nat) : (s.logEvent src i c k d e).hostWaiting = s.hostWaiting :=
  ((State.logEvent_keeps (M := 18692049993729) rfl (Keeps.refl _ s)).same .host rfl).2.1
@[simp] theorem State.logEvent_hostOut (src i c k d e : Nat) : (s.logEvent src i c k d e).hostOut = s.hostOut :=
  ((State.logEvent_keeps (M := 18692049993729) rfl (Keeps.refl _ s)).same .host rfl).2.2
@[simp] theorem State.logEvent_windows (src i c k d e : Nat) : (s.logEvent src i c k d e).windows = s.windows :=
  ((State.logEvent_keeps (M := 18692049993729) rfl (Keeps.refl _ s)).same .debug rfl).1
@[simp] theorem State.logEvent_tap (src i c k d e : Nat) : (s.logEvent src i c k d e).tap = s.tap :=
  ((State.logEvent_keeps (M := 18692049993729) rfl (Keeps.refl _ s)).same .tap rfl)
@[simp] theorem State.logEvent_challenges (src i c k d e : Nat) : (s.logEvent src i c k d e).challenges = s.challenges :=
  ((State.logEvent_keeps (M := 18692049993729) rfl (Keeps.refl _ s)).same .debug rfl).2.1
@[simp] theorem State.logEvent_challengeAt (src i c k d e : Nat) : (s.logEvent src i c k d e).challengeAt = s.challengeAt :=
  ((State.logEvent_keeps (M := 18692049993729) rfl (Keeps.refl _ s)).same .debug rfl).2.2.1
@[simp] theorem State.logEvent_haltAt (src i c k d e : Nat) : (s.logEvent src i c k d e).haltAt = s.haltAt :=
  ((State.logEvent_keeps (M := 18692049993729) rfl (Keeps.refl _ s)).same .debug rfl).2.2.2.1
@[simp] theorem State.logEvent_releasing (src i c k d e : Nat) : (s.logEvent src i c k d e).releasing = s.releasing :=
  ((State.logEvent_keeps (M := 18692049993729) rfl (Keeps.refl _ s)).same .debug rfl).2.2.2.2.1
@[simp] theorem State.logEvent_haltDip (src i c k d e : Nat) : (s.logEvent src i c k d e).haltDip = s.haltDip :=
  ((State.logEvent_keeps (M := 18692049993729) rfl (Keeps.refl _ s)).same .debug rfl).2.2.2.2.2.1
@[simp] theorem State.logEvent_haltEdges (src i c k d e : Nat) : (s.logEvent src i c k d e).haltEdges = s.haltEdges :=
  ((State.logEvent_keeps (M := 18692049993729) rfl (Keeps.refl _ s)).same .debug rfl).2.2.2.2.2.2
@[simp] theorem State.logEvent_trace (src i c k d e : Nat) : (s.logEvent src i c k d e).trace = s.trace :=
  ((State.logEvent_keeps (M := 18692049993729) rfl (Keeps.refl _ s)).same .trace rfl).1
@[simp] theorem State.logEvent_coreTicks (src i c k d e : Nat) : (s.logEvent src i c k d e).coreTicks = s.coreTicks :=
  ((State.logEvent_keeps (M := 18692049993729) rfl (Keeps.refl _ s)).same .time rfl).2.2.2.2
@[simp] theorem State.logEvent_traceFrom (src i c k d e : Nat) : (s.logEvent src i c k d e).traceFrom = s.traceFrom :=
  ((State.logEvent_keeps (M := 18692049993729) rfl (Keeps.refl _ s)).same .trace rfl).2
@[simp] theorem State.logEvent_haltDecided (src i c k d e : Nat) : (s.logEvent src i c k d e).haltDecided = s.haltDecided :=
  ((State.logEvent_keeps (M := 18692049993729) rfl (Keeps.refl _ s)).same .halts rfl)
@[simp] theorem State.logEvent_awake (src i c k d e : Nat) : (s.logEvent src i c k d e).awake = s.awake :=
  ((State.logEvent_keeps (M := 18692049993729) rfl (Keeps.refl _ s)).same .power rfl).2.2.2.2.2.2
@[simp] theorem State.logEvent_nocHeld (src i c k d e : Nat) : (s.logEvent src i c k d e).nocHeld = s.nocHeld :=
  ((State.logEvent_keeps (M := 18692049993729) rfl (Keeps.refl _ s)).same .noc rfl).1
@[simp] theorem State.logEvent_quayReqs (src i c k d e : Nat) : (s.logEvent src i c k d e).quayReqs = s.quayReqs :=
  ((State.logEvent_keeps (M := 18692049993729) rfl (Keeps.refl _ s)).same .noc rfl).2.1
@[simp] theorem State.logEvent_nocLocked (src i c k d e : Nat) : (s.logEvent src i c k d e).nocLocked = s.nocLocked :=
  ((State.logEvent_keeps (M := 18692049993729) rfl (Keeps.refl _ s)).same .noc rfl).2.2
@[simp] theorem State.logEvent_scratchReady (src i c k d e : Nat) : (s.logEvent src i c k d e).scratchReady = s.scratchReady :=
  ((State.logEvent_keeps (M := 18692049993729) rfl (Keeps.refl _ s)).same .scratch rfl).2
/-! ## Register fields -/

/-- Two fields stand at different places of the register space. -/
def Fld.apart (f g : Fld) : Bool :=
  decide (f.page.type ≠ g.page.type) || decide (f.off % 4096 ≠ g.off % 4096) || decide (f.lo % 32 ≠ g.lo % 32)

theorem Fld.key_lo (f : Fld) (ch : Nat) : f.key ch % 32 = f.lo % 32 := by
  unfold Fld.key
  omega

theorem Fld.key_chan (f : Fld) (ch : Nat) : f.key ch / 2 ^ 17 % 256 = ch % 256 := by
  unfold Fld.key
  omega

theorem Fld.key_apart {f g : Fld} (h : f.apart g = true) (c d : Nat) : g.key d ≠ f.key c := by
  intro e
  simp only [Fld.apart, Bool.or_eq_true, decide_eq_true_eq] at h
  rcases h with (h | h) | h
  · exact h (by rw [← Fld.key_page f c, ← Fld.key_page g d, e])
  · exact h (by rw [← Fld.key_off f c, ← Fld.key_off g d, e])
  · exact h (by rw [← Fld.key_lo f c, ← Fld.key_lo g d, e])

theorem Fld.key_chan_ne {f g : Fld} {c d : Nat} (h : c % 256 ≠ d % 256) : g.key d ≠ f.key c := by
  intro e
  exact h (by rw [← Fld.key_chan f c, ← Fld.key_chan g d, e])

theorem State.rd_wr_self (f : Fld) (ch v : Nat) : (s.wr f ch v).rd f ch = v % 2 ^ f.width := SMap.get_set_self _ _ _ _

theorem State.rd_wr_apart {f g : Fld} (h : f.apart g = true) (c d v : Nat) : (s.wr f c v).rd g d = s.rd g d :=
  SMap.get_set_other (Fld.key_apart h c d)

theorem State.rd_wr_chan {f g : Fld} {c d : Nat} (h : c % 256 ≠ d % 256) (v : Nat) : (s.wr f c v).rd g d = s.rd g d :=
  SMap.get_set_other (Fld.key_chan_ne h)

theorem State.rd_wr (f : Fld) (c d v : Nat) :
    (s.wr f c v).rd f d = if d % 256 = c % 256 then v % 2 ^ f.width else s.rd f d := by
  split
  · rename_i h
    have e : f.key d = f.key c := by
      unfold Fld.key
      rw [h]
    unfold State.rd
    rw [e]
    exact State.rd_wr_self f c v
  · rename_i h
    exact State.rd_wr_chan (fun e => h e.symm) v

@[simp] theorem State.emit_rd (o : Output) (g : Fld) (d : Nat) : (s.emit o).rd g d = s.rd g d := rfl
@[simp] theorem State.respond_rd (a : Accessor) (ok : Bool) (v : Nat) (g : Fld) (d : Nat) : (s.respond a ok v).rd g d = s.rd g d := rfl
@[simp] theorem State.setEcc_rd (c i v : Nat) (g : Fld) (d : Nat) : (s.setEcc c i v).rd g d = s.rd g d := rfl
@[simp] theorem State.modPart_rd (p : Nat) (f : Part → Part) (g : Fld) (d : Nat) : (s.modPart p f).rd g d = s.rd g d := rfl
@[simp] theorem State.modBank_rd (b : Nat) (f : Bank → Bank) (g : Fld) (d : Nat) : (s.modBank b f).rd g d = s.rd g d := rfl
@[simp] theorem State.modPort_rd (n : Nat) (f : CasPort → CasPort) (g : Fld) (d : Nat) : (s.modPort n f).rd g d = s.rd g d := rfl
@[simp] theorem State.modCore_rd (m : Nat) (f : Core → Core) (g : Fld) (d : Nat) : (s.modCore m f).rd g d = s.rd g d := rfl
@[simp] theorem State.modCas_rd (f : Cas → Cas) (g : Fld) (d : Nat) : (s.modCas f).rd g d = s.rd g d := rfl
@[simp] theorem State.modAcq_rd (u : Nat) (f : Acq → Acq) (g : Fld) (d : Nat) : (s.modAcq u f).rd g d = s.rd g d := rfl
@[simp] theorem State.modHms_rd (f : Hms → Hms) (g : Fld) (d : Nat) : (s.modHms f).rd g d = s.rd g d := rfl
@[simp] theorem State.modControl_rd (f : Control → Control) (g : Fld) (d : Nat) : (s.modControl f).rd g d = s.rd g d := rfl
@[simp] theorem State.modFab_rd (f : Fabric → Fabric) (g : Fld) (d : Nat) : (s.modFab f).rd g d = s.rd g d := rfl

theorem State.err_rd (p : Page) (ch code node addr : Nat) {g : Fld} (hg : errorReg (g.off % 4096) = false) (d : Nat) :
    (s.err p ch code node addr).rd g d = s.rd g d := by
  refine (State.err_keeps (M := 1099511627776) rfl (Keeps.refl _ s)).same (.regs g.page) ?_ g d rfl hg
  cases g.page <;> rfl

theorem State.errReg_rd (a : Accessor) (p : Page) (ch off code : Nat) {g : Fld} (hg : errorReg (g.off % 4096) = false) (d : Nat) :
    (s.errReg a p ch off code).rd g d = s.rd g d := by
  refine (State.errReg_keeps (M := 1099511627776) rfl (Keeps.refl _ s)).same (.regs g.page) ?_ g d rfl hg
  cases g.page <;> rfl

theorem State.raise_rd (p : Page) (ch b : Nat) {g : Fld} (hg : errorReg (g.off % 4096) = false) (d : Nat) :
    (s.raise p ch b).rd g d = s.rd g d := by
  refine (State.raise_keeps (M := 1099847172097) rfl (Keeps.refl _ s)).same (.regs g.page) ?_ g d rfl hg
  cases g.page <;> rfl

@[simp] theorem State.irqEvent_rd (n : Nat) (g : Fld) (d : Nat) : (s.irqEvent n).rd g d = s.rd g d := by
  have h := State.irqEvent_keeps (M := 335544321) (a1 := n) rfl (Keeps.refl _ s)
  cases e : errorReg (g.off % 4096) with
  | true => exact h.same .errors rfl g d e
  | false =>
    refine h.same (.regs g.page) ?_ g d rfl e
    cases g.page <;> rfl

theorem State.raise_rd_apart {p : Page} {b : Nat} {g : Fld} (h : (intBit p b).apart g = true) (ch d : Nat) :
    (s.raise p ch b).rd g d = s.rd g d := by
  have w : (s.wr (intBit p b) ch 1).rd g d = s.rd g d := State.rd_wr_apart h _ _ _
  unfold State.raise
  extract_lets v
  split
  · split
    · exact (State.irqEvent_rd _ _ _).trans w
    · exact w
  · exact w

/-- A bit that is raised reads 1 until it is cleared (R9, R510). -/
theorem State.raise_self (p : Page) (ch b : Nat) : (s.raise p ch b).rd (intBit p b) ch = 1 := by
  have w : (s.wr (intBit p b) ch 1).rd (intBit p b) ch = 1 := State.rd_wr_self _ _ _
  unfold State.raise
  extract_lets v
  split
  · split
    · exact (State.irqEvent_rd _ _ _).trans w
    · exact w
  · exact w

/-! ## Instances -/

@[simp] theorem State.part_modPart (p : Nat) (f : Part → Part) : (s.modPart p f).part p = f (s.part p) :=
  SMap.get_set_self _ _ _ _

theorem State.part_modPart_ne {p q : Nat} (h : q ≠ p) (f : Part → Part) : (s.modPart p f).part q = s.part q :=
  SMap.get_set_other h

@[simp] theorem State.bank_modBank (b : Nat) (f : Bank → Bank) : (s.modBank b f).bank b = f (s.bank b) :=
  SMap.get_set_self _ _ _ _

theorem State.bank_modBank_ne {b c : Nat} (h : c ≠ b) (f : Bank → Bank) : (s.modBank b f).bank c = s.bank c :=
  SMap.get_set_other h

@[simp] theorem State.port_modPort (n : Nat) (f : CasPort → CasPort) : (s.modPort n f).port n = f (s.port n) :=
  SMap.get_set_self _ _ _ _

theorem State.port_modPort_ne {n k : Nat} (h : k ≠ n) (f : CasPort → CasPort) : (s.modPort n f).port k = s.port k :=
  SMap.get_set_other h

@[simp] theorem State.core_modCore (m : Nat) (f : Core → Core) : (s.modCore m f).core m = f (s.core m) :=
  SMap.get_set_self _ _ _ _

theorem State.core_modCore_ne {m k : Nat} (h : k ≠ m) (f : Core → Core) : (s.modCore m f).core k = s.core k :=
  SMap.get_set_other h

@[simp] theorem State.acq_modAcq (u : Nat) (f : Acq → Acq) : (s.modAcq u f).acq u = f (s.acq u) :=
  SMap.get_set_self _ _ _ _

theorem State.acq_modAcq_ne {u k : Nat} (h : k ≠ u) (f : Acq → Acq) : (s.modAcq u f).acq k = s.acq k :=
  SMap.get_set_other h

@[simp] theorem State.ecc_setEcc (c i v : Nat) : (s.setEcc c i v).ecc c i = v := SMap.get_set_self _ _ _ _

/-! ## Register accesses (R28, R29, R121, R459, R479) -/

/-- An access that nothing refuses acts. -/
theorem State.access_ok {a : Accessor} {p : Page} {ch off : Nat} {w : Bool} (h : s.accessCode a p ch off w = 0)
    (act : State → State) : s.access a p ch off w act = act s := by
  unfold State.access
  rw [h]
  rfl

end Sys2Proof.Machine
end

