-- ==== Sys2Proof/Tests/Slice0.lean ====
section
/-! SUPPORT. Tests/Slice0.lean: the author's own tests: an ill-formed command for each check, witnesses of the statements'
hypotheses, and single steps. -/

namespace Sys2Proof.Tests
open Sys2Proof Sys2Proof.Machine

-- Each kernel decision would otherwise take a thread of its own, with a stack of its own.
set_option Elab.async false

theorem test_ill_registerWrite : (Instr.registerWrite .host ⟨.pwr, 0, 0x40⟩ 0 3).wellFormed = false := by decide
theorem test_ill_imageLine : (Instr.imageLine [0] 0 true).wellFormed = false := by decide
theorem test_ill_frameRefetch : (Instr.frameRefetch [0] true).wellFormed = false := by decide
theorem test_ill_tempReading : (Instr.tempReading [0]).wellFormed = false := by decide
theorem test_ill_pcieLinkUp : (Instr.pcieLinkUp 0 1).wellFormed = false := by decide
theorem test_ill_nocRequest : (Instr.nocRequest ⟨0, 0, 0, 1, 0, 0, 0, [], [], true⟩).wellFormed = false := by decide
theorem test_ill_nocRequest_seals : (Instr.nocRequest ⟨0, 0, 0, 1, 0, 0, 0, [0], [], true⟩).wellFormed = false := by decide
theorem test_ill_nocRequest_conditional : (Instr.nocRequest ⟨0, 0, 0, 3, 0, 0, 1, [0], [0], true⟩).wellFormed = false := by decide
theorem test_ill_nocResponse : (Instr.nocResponse 0 0 1 [⟨0, 0⟩] true).wellFormed = false := by decide
theorem test_ill_hostAccess_bar0 : (Instr.hostAccess (.bar0 0x3FFFFFF 2 false 0)).wellFormed = false := by decide
theorem test_ill_hostAccess_bar2 : (Instr.hostAccess (.bar2 0 false [])).wellFormed = false := by decide
theorem test_ill_upsets : (Instr.step 0 [⟨9, 0, 1⟩]).wellFormed = false := by decide
theorem test_ill_inbound : (Instr.cycleRelease 0 [(1, 0), (1, 0)]).wellFormed = false := by decide

/-- A route from node a to node d. -/
def tie (a d : Nat) (s : State) : State := (s.wr (R.NOC_ROUTE.ROUTE d) a 7).wr (R.NOC_ROUTE.VALID d) a 1

/-- A page's channel that the host reaches. -/
def ready (p : Page) (ch : Nat) (s : State) : State := { tie 34 (nodeOfPage p ch) s with awake := [blockKey p ch] }

theorem witness_FrontOfQueueRuns :
    ({ State.reset with pending := [.tapReset] } : State).pending = .tapReset :: [] ∧ State.reset.pending = [] := by
  decide +kernel

/-- For QueueIsServedInOrder and MemoryStaysCanonical too. -/
theorem witness_StepsKeep : Machine.Memory.wf { State.reset with pending := [.tapReset] } = true ∧
    QueueOk { State.reset with pending := [.tapReset] } ∧
    StepsTo { State.reset with pending := [.tapReset] } (State.reset.setTap 2) :=
  ⟨by decide +kernel, by unfold QueueOk; decide +kernel, rfl⟩

theorem witness_CommandsKeepToTheirState : exec .tapReset State.reset = .next (State.reset.setTap 2) := rfl

/-- A request of a control core for an address of no block. -/
def stray (op : Fin 16) : Packet := ⟨0, 8, 0, op, 0xF, 0x7000000000, 0, [], [], true⟩

theorem witness_CommandsAlwaysComplete : State.reset.performed (stray 15) = false := by decide +kernel

theorem witness_AccessesAreGated :
    accessed (.wdtKick .host 15 0) = some (.host, .mdc, 15, 0x50, true) ∧
    (State.reset.wr R.PWR_STATUS.DEV_STATE 0 1).accessCode .host .mdc 15 0x50 true = 9 ∧
    State.reset.accessCode .jtag .mdc 15 0x50 true = 8 ∧
    ({ tie 12 27 State.reset with awake := [blockKey .mdc 15] } : State).accessCode (.core 0) .mdc 15 0x50 true = 10 ∧
    State.reset.accessCode .host .mdc 15 0x50 true = 1 ∧
    (tie 34 27 State.reset).accessCode .host .mdc 15 0x50 true = 2 ∧
    ((tie 34 27 State.reset).wr R.NOC_STATUS.DEAD 27 1).accessCode .host .mdc 15 0x50 true = 6 := by decide +kernel

theorem witness_DepthOfPartition : (State.reset.wr R.PRT_CTRL.DEPTH 63 127).rd R.PRT_CTRL.DEPTH 63 ≤ 127 := by
  decide +kernel

/-- A port that carries frames. -/
def linkUp (n : Nat) (p : CasPort) : State :=
  ({ State.reset with casPorts := [(n, p)] }).wr (R.CAS_P_STATUS.STATE n) 0 8

theorem witness_EighthNakRetrains : (linkUp 3 { nakRun := 7, nakSeq := 65535 }).carries 3 = true ∧
    ((linkUp 3 { nakRun := 7, nakSeq := 65535 }).port 3).nakRun = 7 ∧
    ((linkUp 3 { nakRun := 7, nakSeq := 65535 }).port 3).nakSeq = (0xFFFF : BitVec 16).toNat := by decide +kernel

theorem witness_RegisterWritesObeyAccessCodes :
    (ready .fab 0 State.reset).accessCode .host .fab 0 0x50 true = 0 ∧
    (ready .fab 0 State.reset).accessCode .host .fab 0 0x40 true = 0 ∧
    ((ready .fab 0 State.reset).accessCode .host .fab 0 0x0C true = 0 ∧
      ∀ b, b < 3 → (ready .fab 0 State.reset).rd (intBit .fab b) 0 < 2) ∧
    ((ready .fab 0 State.reset).accessCode .host .fab ((ready .fab 0 State.reset).channel .host ⟨.fab, 0, 0xFFC⟩) 0xFFC true = 0 ∧
      isMsix .fab 0xFFC = false ∧ fieldsAt .fab 0xFFC = none ∧
      (ready .fab 0 State.reset).on (errValid .fab) ((ready .fab 0 State.reset).channel .host ⟨.fab, 0, 0xFFC⟩) = false) ∧
    ((ready .prt 0 State.reset).accessCode .host .prt ((ready .prt 0 State.reset).channel .host ⟨.prt, 0, 0x14⟩) 0x14 true = 0 ∧
      Page.prt.channels ≠ 0 ∧ bitsOf (63 : W32).toNat 0 8 < Page.prt.channels) := by decide +kernel

/-- Words 0 to 2 of `LOG_USER` staged by the host. -/
def logStaged : State := { ready .log 0 State.reset with staging := [(stageKey .host .log 0 0x60, ⟨some 1, some 2, some 3⟩)] }

theorem witness_WideValuesMoveWhole :
    ((ready .log 0 State.reset).accessCode .host .log ((ready .log 0 State.reset).channel .host ⟨.log, 0, 0x68⟩) 0x68 true = 0 ∧
      wideBase .log 0x68 = some 0x60 ∧ wideWritable .log 0x60 = true ∧ (fieldsAt .log 0x68).isSome = true) ∧
    (logStaged.accessCode .host .log 0 0x6C true = 0 ∧ logStaged.staged .host .log 0 0x60 = ⟨some 1, some 2, some 3⟩) ∧
    ((ready .log 0 State.reset).accessCode .host .log ((ready .log 0 State.reset).channel .host ⟨.log, 0, 0x60⟩) 0x60 false = 0 ∧
      wideBase .log 0x60 = some 0x60 ∧ (fieldsAt .log 0x60).isSome = true) ∧
    ((ready .prt 0 State.reset).accessCode .host .prt
        ((ready .prt 0 State.reset).channel .host ⟨.prt, 0, ⟨R.PRT_CYCLE_LO.COUNT.off % 4096, Nat.mod_lt _ (by decide)⟩⟩)
        R.PRT_CYCLE_LO.COUNT.off false = 0 ∧
      pairBase .prt R.PRT_CYCLE_LO.COUNT.off = some R.PRT_CYCLE_LO.COUNT.off ∧
      wideBase .prt R.PRT_CYCLE_LO.COUNT.off = none ∧ (fieldsAt .prt R.PRT_CYCLE_LO.COUNT.off).isSome = true) ∧
    ((ready .res 0 State.reset).accessCode .host .res 0 0x54 false = 0 ∧ (ready .res 0 State.reset).quiet .host = false) ∧
    ((tie 41 (nodeOfPage .res 0) ((ready .res 0 State.reset).wr R.DBG_STATUS.LEVEL 0 2)).accessCode .pcieDbg .res 0 0x54 false = 0 ∧
      (tie 41 (nodeOfPage .res 0) ((ready .res 0 State.reset).wr R.DBG_STATUS.LEVEL 0 2)).quiet .pcieDbg = true) := by
  decide +kernel

/-- The logbook scanned, with one event waiting. -/
def logging : State := { (ready .log 0 State.reset).wr R.LOG_STATUS.SCAN_DONE 0 1 with log := { queue := [⟨2, 0, 1, 1, 0, 0⟩] } }

theorem witness_LogbookKeepsEvents :
    (logging.on R.LOG_STATUS.SCAN_DONE 0 = true ∧ (SMap.get {} logging.log.keys (eventKey ⟨2, 0, 1, 1, 0, 0⟩)).seen = false ∧
      logging.log.inSecond < 16384 ∧ logging.logValid logging.logNext = false ∧ eventClassOf ⟨2, 0, 1, 1, 0, 0⟩ < 3) ∧
    (State.reset.on R.LOG_STATUS.SCAN_DONE 0 = false ∧ 2 ≤ State.reset.rd R.PWR_STATUS.DEV_STATE 0) ∧
    (logging.accessCode .host .log 0 0x70 true = 0 ∧ logging.log.queue.length < 256) := by decide +kernel

/-- Partition 63 with bunch 63, in a state, reached by the host. -/
def parted (st : Nat) (x : Part) : State :=
  { ((ready .prt 63 State.reset).wr R.PRT_BUNCHES_HI.MEMBER 63 0x80000000).wr R.PRT_STATUS.STATE 63 st with
    parts := SMap.set {} [] 63 x }

theorem witness_PartitionLoads : (parted 0 {}).accessCode .host .prt 63 0x40 true = 0 ∧
    ((parted 0 {}).part 63).ungating = false ∧ (parted 0 {}).bunches 63 ≠ [] ∧
    ((parted 0 {}).pstate 63 = 0 ∧ (parted 7 {}).pstate 63 = 7 ∧ (parted 1 {}).pstate 63 = 1) ∧
    (parted 1 {}).isFollower 63 = false ∧ (parted 1 {}).on R.PRT_CTRL.HARD 63 = false ∧
    ((parted 1 {}).part 63).refusedWord = false := by decide +kernel

theorem witness_PartitionRuns :
    ((parted 5 {}).accessCode .host .prt 63 0x40 true = 0 ∧ ((parted 5 {}).part 63).ungating = false ∧ (parted 5 {}).bunches 63 ≠ [] ∧
      (parted 5 {}).isFollower 63 = false ∧ (parted 5 {}).pstate 63 = 5 ∧ (parted 5 {}).emuFree = true ∧
      (parted 5 {}).rd R.PRT_CTRL.REL_SRC 63 ≠ 3 ∧ (parted 5 {}).timerOk 63 = true ∧ (parted 5 {}).windowOk 63 = true ∧
      (parted 5 {}).groupOk 63 = true) ∧
    ((parted 3 {}).pstate 63 = 3 ∧ (parted 3 {}).inUnit 63 = false ∧ (parted 4 { inCycle := true }).pstate 63 = 4) ∧
    (parted 6 {}).pstate 63 = 6 := by decide +kernel

/-- Partition 63 with a release source. -/
def sourced (src st : Nat) (x : Part) : State := (parted st x).wr R.PRT_CTRL.REL_SRC 63 src

theorem witness_ReleasesBeginCycles :
    ((sourced 0 3 {}).isFollower 63 = false ∧ ((sourced 0 3 {}).part 63).single = false ∧
      (sourced 0 3 {}).rd R.PRT_CTRL.REL_SRC 63 = 0 ∧ (sourced 0 3 {}).awaitsStart 63 = false ∧
      (sourced 0 3 {}).on R.PRT_STATUS.PENDING 63 = false ∧ (sourced 0 3 {}).pstate 63 = 3 ∧
      (sourced 0 3 {}).on R.PRT_STATUS.WAIT_LOCK 63 = false ∧ (sourced 0 4 {}).isWaiting 63 = true) ∧
    ((sourced 2 4 { inCycle := true, edges := 1 }).rd R.PRT_CTRL.REL_SRC 63 = 2 ∧
      ((sourced 2 4 { inCycle := true, edges := 1 }).part 63).edges ≠ 0 ∧
      (sourced 2 4 { inCycle := true, edges := 1 }).pstate 63 = 4) ∧
    ((sourced 1 3 {}).rd R.PRT_CTRL.REL_SRC 63 = 1 ∧ (sourced 1 3 {}).emuStopped = false ∧
      (sourced 1 3 {}).awaitsStart 63 = false ∧ ((sourced 1 3 {}).part 63).gridNext ≤ (sourced 1 3 {}).now) ∧
    (State.reset.lineIgnored 31 = false ∧ State.reset.emuStopped = false) := by decide +kernel

/-- Partition 63 Running at the first step of a cycle of 8 steps. -/
def stepping : State := parted 4 { inCycle := true }

theorem witness_StepExecutesOrStalls :
    ((stepping.part 63).inCycle = true ∧ stepping.isFollower 63 = false ∧ stepping.isLead 63 = false ∧
      (stepping.part 63).step < stepping.depth 63 ∧ stepping.pstate 63 = 4 ∧ stepping.rd R.DBG_STATUS.EMU 0 = 0 ∧
      (stepping.part 63).replay = none ∧ (stepping.part 63).ledger.realFrom = none ∧ stepping.holders 63 = 0 ∧
      stepping.inUnit 63 = false ∧ (stepping.upset []).fetchCheck 63 63 (stepping.part 63).step = none ∧
      (stepping.upset []).badFetches 63 (stepping.part 63).step 1 = [] ∧ (stepping.part 63).pendErr = none) ∧
    (parted 6 { inCycle := true }).holders 63 ≠ 0 ∧ (parted 6 { inCycle := true }).pstate 63 = 6 := by decide +kernel

theorem witness_StepExecutesOrStalls_rows : ∀ k, (stepping.upset []).ecc clsRow k = 0 := fun _ => rfl

theorem witness_CyclesEnd :
    ((parted 4 { inCycle := true, step := 8 }).depth 63 ≤ ((parted 4 { inCycle := true, step := 8 }).part 63).step ∧
      ((parted 4 { inCycle := true, step := 8 }).part 63).inCycle = true ∧
      (parted 4 { inCycle := true, step := 8 }).isFollower 63 = false ∧
      (parted 4 { inCycle := true, step := 8 }).isLead 63 = false ∧ (parted 4 { inCycle := true, step := 8 }).pstate 63 = 4 ∧
      (parted 4 { inCycle := true, step := 8 }).rd R.DBG_STATUS.EMU 0 = 0 ∧
      (parted 4 { inCycle := true, step := 8 }).holders 63 &&& (causeFar ||| causeBerth) = 0 ∧
      ((parted 4 { inCycle := true, step := 8 }).part 63).replay = none) ∧
    ((parted 4 { memWaits := [⟨63, 2, 0, 0, 0, 0⟩] }).part 63).memWaits.find? (fun c => c.bunch == 63 && decide (2 ≤ c.kind)) =
      some ⟨63, 2, 0, 0, 0, 0⟩ := by decide +kernel

theorem witness_PartitionRegistersWrite :
    ((parted 0 {}).accessCode .host .prt 63 0x48 true = 0 ∧ (parted 0 {}).accessCode .host .prt 63 0x44 true = 0 ∧
      (parted 0 {}).pstate 63 = 0 ∧ ((parted 0 {}).part 63).ungating = false ∧
      (parted 0 {}).bunchesTaken 63 (2 ^ 32 * (0xFFFFFFFF : W32).toNat) = false) ∧
    ((parted 1 {}).pstate 63 ≠ 0 ∧ (parted 1 {}).on (errValid .prt) 63 = false) ∧
    ((parted 0 {}).accessCode .host .prt 63 0x4C true = 0 ∧ ((parted 0 {}).part 63).locked = false) ∧
    ((parted 0 {}).accessCode .host .prt 63 0x58 true = 0 ∧ (∀ i, i < 4 → bitsOf (0xAA : W32).toNat (2 * i) 2 ≠ 3)) ∧
    bitsOf (0xC0 : W32).toNat (2 * 3) 2 = 3 := by decide +kernel

/-- The orchard's page with the spare bunch in use for bunch 63. -/
def spared : State := ((ready .orc 63 State.reset).wr R.ORC_BUNCH_REMAP.EN 0 1).wr R.ORC_BUNCH_REMAP.BUNCH 0 63

theorem witness_LoaderAndSpares :
    (((parted 1 {}).part 63).ungating = false ∧ (parted 1 {}).pstate 63 = 1 ∧ 63 ∈ (parted 1 {}).bunches 63) ∧
    ((parted 2 {}).pstate 63 ≠ 1 ∧ sealOf 0 ≠ ~~~sealOf 0) ∧
    (((parted 0 { ungating := true }).part 63).ungating = true ∧ (parted 0 { ungating := true }).emuStopped = false ∧
      ((parted 0 { ungating := true }).part 63).heldWords = [] ∧ ((parted 0 { ungating := true }).part 63).heldCmds = []) ∧
    ((ready .orc 63 State.reset).accessCode .host .orc 63 0x40 true = 0 ∧ (ready .orc 63 State.reset).remapLocked 63 = false ∧
      (ready .orc 63 State.reset).on R.ORC_SPARE_STATUS.BERRY_SPARE_BAD ((ready .orc 63 State.reset).physBunch 63) = false) ∧
    ((ready .orc 63 State.reset).accessCode .host .orc 63 0x44 true = 0 ∧
      (ready .orc 63 State.reset).on R.ORC_SPARE_STATUS.BUNCH_SPARE_BAD 0 = false) ∧
    (spared.wr R.ORC_BERRY_REMAP.EN (spared.physBunch 63) 1).on R.ORC_BERRY_REMAP.EN (spared.physBunch 63) = true ∧
    spared.on R.ORC_BUNCH_REMAP.EN 0 = true := by decide +kernel

theorem witness_LoaderAndSpares_locked : ∀ k, (ready .orc 63 State.reset).remapLocked k = false := by
  intro k
  have h : ∀ p < 64, (ready .orc 63 State.reset).bunches p = [] := by decide +kernel
  unfold State.remapLocked State.holderOf
  rw [List.find?_eq_none.mpr]
  intro p hp
  simp [h p (List.mem_range.mp hp)]

/-- Bank 63 with what waits at it, owned by Host DMA, reached by the host. -/
def banked (k : Bank) : State :=
  { (ready .dmb 63 State.reset).wr R.DMB_BERTH.KIND 63 4 with banks := SMap.set {} [] 63 k }

/-- An access of the host to the last word of a bank. -/
def hostAcc (op : Nat) : BankAcc :=
  { who := ⟨4, 0, 34, false⟩, op := op, win := 0, word := 262143, be := 65535, data := 7, tag := 63, addr := 0x10FFFFFF0 }

/-- The last words of bank 63 stand in its journal region. -/
def journalled (k : Bank) : State :=
  ((banked k).wr R.DMB_CTRL.JOURNAL_EN 63 1).wr R.DMB_JOURNAL_BASE.WORD 63 262143 |>.wr R.DMB_JOURNAL_LIMIT.ENTRIES 63 1

theorem witness_BanksServeAndHandOver :
    (((banked { queue := [hostAcc 0] }).bank 63).jwrites = [] ∧
      (banked { queue := [hostAcc 0] }).nextAccess 63 = some (hostAcc 0) ∧
      ((banked { queue := [hostAcc 0] }).upset []).bankWord 63 (hostAcc 0).word = (0, 0)) ∧
    ((banked { queue := [hostAcc 1] }).nextAccess 63 = some (hostAcc 1) ∧
      (banked { queue := [hostAcc 1] }).inJournal 63 (hostAcc 1).word = false) ∧
    ((journalled { queue := [hostAcc 3] }).nextAccess 63 = some (hostAcc 3) ∧
      (journalled { queue := [hostAcc 3] }).inJournal 63 (hostAcc 3).word = true) ∧
    (((banked { writebacks := [5] }).bank 63).writebacks = [5] ∧ (banked { writebacks := [5] }).slotTaken 63 false = false ∧
      ((banked { writebacks := [5] }).setBankWord 63 5 9 1).bankWord 63 5 = (9, 1)) ∧
    ((banked {}).accessCode .host .dmb 63 0x40 true = 0 ∧ ownerValid (bitsOf (0x3F01 : W32).toNat 0 3) (bitsOf (0x3F01 : W32).toNat 8 6) = true ∧
      (banked {}).on R.DMB_STATUS.HANDOVER 63 = false ∧ (banked {}).berthIs 63 1 63 = false ∧
      ownerValid (bitsOf (7 : W32).toNat 0 3) (bitsOf (7 : W32).toNat 8 6) = false ∧ (banked {}).on (errValid .dmb) 63 = false) ∧
    ((banked { queue := [hostAcc 0] }).wr R.DMB_STATUS.HANDOVER 63 1).on R.DMB_STATUS.HANDOVER 63 = true ∧
    (∀ x ∈ ((banked { queue := [hostAcc 0] }).bank 63).queue, x.old = true → x.who.exempt = true) ∧
    ((banked {}).accessCode .host .dmb 63 (0x80 + 4 * 15) true = 0 ∧ (banked {}).berthNames 63 0 0 = false ∧
      ((banked {}).wr R.DMB_BERTH.KIND 63 0).berthNames 63 0 0 = true) := by decide +kernel

theorem witness_TesterAndJournal :
    (((banked { tester := { phase := 1, pos := 62 } }).bank 63).tester.phase = 1 ∧
      ((banked { tester := { phase := 1, pos := 62 } }).bank 63).tester.pos < 63 ∧
      (banked { tester := { phase := 1, pos := 62 } }).slotTaken 63 true = false) ∧
    (((banked { tester := { phase := 3 } }).bank 63).tester.phase = 3 ∧
      (banked { tester := { phase := 3 } }).slotTaken 63 true = false) ∧
    ((banked { jwrites := [(1, 0, 2)] }).bank 63).jwrites = [(1, 0, 2)] ∧
    ((banked { restoreAt := some 1 }).on R.DMB_STATUS.JOURNAL_FULL 63 = false ∧
      ((banked { restoreAt := some 1 }).bank 63).restoreAt = some (0 + 1)) := by decide +kernel

/-- Bunch 63 of partition 63 with an instruction word waiting to be written back. -/
def worn (st : Nat) (x : Part) (cls idx e : Nat) : State := (parted st x).setEcc cls idx e

/-- The instruction word of pip 63 of berry 15 at the last step of a cycle of 8. -/
def wordAt : Nat := State.reset.isAt 63 15 7 63

/-- A row of berry 15. -/
def lastRow : Nat := State.reset.rowAt 63 15 7

theorem witness_StoresAreScrubbed :
    ({ worn 4 {} clsIstore wordAt 1 with isWritebacks := [wordAt] } : State).isWritebacks.find? (fun k =>
        k / 65536 == State.reset.physBunch 63 * 17 + State.reset.physBerry 63 15) = some wordAt ∧
    (worn 4 {} clsIstore wordAt 1).ecc clsIstore wordAt = 1 ∧
    ((worn 2 {} clsIstore wordAt 1).holderOf 63 = some 63 ∧ ((worn 2 {} clsIstore wordAt 1).wr R.RES_CTRL.IS_SCRUB_EN 0 1).on R.RES_CTRL.IS_SCRUB_EN 0 = true ∧
      2 ≤ (worn 2 {} clsIstore wordAt 1).pstate 63 ∧ 7 < (worn 2 {} clsIstore wordAt 1).depth 63 ∧
      (worn 2 {} clsIstore wordAt 1).writebackWaits 63 15 = false ∧
      (worn 2 {} clsIstore wordAt 1).ecc clsIstore ((worn 2 {} clsIstore wordAt 1).isAt 63 15 7 0 + 63) = 1) ∧
    ((parted 4 {}).wr R.HST_MBX_STATUS.FW_STATE 0 2).rd R.HST_MBX_STATUS.FW_STATE 0 = 2 ∧
    (((parted 4 { refetched := true, rejoin := 1 }).part 63).refetched = true ∧
      (parted 4 { refetched := true, rejoin := 1 }).rd R.HST_MBX_STATUS.FW_STATE 0 ≠ 3 ∧
      ((parted 4 { refetched := true, rejoin := 1 }).wr R.RES_CTRL.AUTO_REMAP 0 1).spareReady 63 = true ∧
      ((parted 4 { refetched := true, rejoin := 1 }).part 63).rejoin = 1 ∧
      (parted 4 { refetched := true, rejoin := 1 }).badRow 63 15 8 = none) ∧
    (((worn 5 {} clsRow lastRow 1).wr R.RES_CTRL.SS_SCRUB_EN 0 1).on R.RES_CTRL.SS_SCRUB_EN 0 = true ∧
      (worn 5 {} clsRow lastRow 1).pstate 63 = 5 ∧
      (worn 5 {} clsRow lastRow 1).ecc clsRow ((worn 5 {} clsRow lastRow 1).rowAt 63 15 7) = 1 ∧
      2 ≤ (worn 5 { rejoin := 2 } clsRow lastRow 2).ecc clsRow lastRow ∧
      2 ≤ ((worn 5 { rejoin := 2 } clsRow lastRow 2).part 63).rejoin) := by decide +kernel

/-- Partitions 62 and 63 form a pair, of which 63 has been dropped. -/
def paired (st : Nat) (x : Part) : State :=
  ((parted 4 x).wr (R.RES_GROUP.ROLE 62) 0 1).wr (R.RES_GROUP.ROLE 63) 0 2 |>.wr (R.RES_GROUP.LEAD 63) 0 62
    |>.wr (R.RES_GROUP.MSTATE 63) 0 st |>.wr R.PRT_STATUS.STATE 62 4

/-- A replay whose restore runs. -/
def restoring : Replay := ⟨2 ^ 64 - 1, 0, 0, true, ⟨2, 63, 0, 0, 0, 0⟩, 1, 0, 0, [], 0, ⟨2, 63, 0, 0, 0, 0⟩, 0⟩

theorem witness_RejoinRestoreAndDips :
    ((tie 34 (nodeOfPage .res 0) { paired 1 {} with awake := [blockKey .res 0] }).accessCode .host .res 0 0x40 true = 0 ∧
      (paired 1 {}).on R.RES_STATUS.CMD_BUSY 0 = false ∧ (paired 1 {}).mayJoin 63 = true) ∧
    ((paired 2 { rejoin := 1 }).rd (R.RES_GROUP.MSTATE 63) 0 = 2 ∧ ((paired 2 { rejoin := 1 }).part 63).rejoin = 1 ∧
      (paired 2 { rejoin := 1 }).repaired 63 = true) ∧
    (((paired 2 { rejoin := 2 }).part 63).rejoin = 2 ∧
      (paired 2 { rejoin := 2 }).activeMembers ((paired 2 { rejoin := 2 }).leadOf 63) ≠ []) ∧
    (((parted 4 { replay := some restoring }).part 63).replay = some restoring ∧ restoring.restoring = true ∧
      (parted 4 { replay := some restoring }).banksRestored 63 = true ∧
      (parted 4 { replay := some restoring }).on (R.RES_SNAP.CAPTURING 63) 0 = false ∧
      (parted 4 { replay := some restoring }).shadowBad 63 8 = false) ∧
    State.reset.dipLow = false ∧ ({ State.reset with dipLow := true } : State).dipLow = true ∧
    ({ State.reset.wr R.RES_STATUS.DIP_STATE 0 1 with dipLow := true } : State).rd R.RES_STATUS.DIP_STATE 0 = 1 ∧
    (State.reset.wr R.RES_STATUS.DIP_STATE 0 2).rd R.RES_STATUS.DIP_STATE 0 = 2 := by decide +kernel

/-- Port 3 in a state, its CAS_ page reached by the host, with lanes in order. -/
def porting (st : Nat) (x : CasPort) : State :=
  { (List.range 8).foldl (fun (s : State) l => s.wr R.LNE_STATUS.RX_LANE (lane 3 l) l)
      ((ready .cas 0 State.reset).wr (R.CAS_P_STATUS.STATE 3) 0 st) with casPorts := SMap.set {} [] 3 x }

theorem witness_PortsComeUp :
    ((porting 0 {}).accessCode .host .cas 0 (0x80 + 0x20 * 3) true = 0 ∧ (porting 0 {}).on (R.CAS_P_CTRL.EN 3) 0 = false) ∧
    ((porting 1 {}).portState 3 = 1 ∧ (porting 3 {}).portState 3 = 3 ∧ (porting 4 { exit := 1 }).portState 3 = 4) ∧
    ((porting 5 {}).portState 3 = 5 ∧ (porting 5 {}).laneOrder 3 = some false ∧
      (porting 5 {}).on (R.CAS_P_STATUS.PEER_MASTER 3) 0 = false ∧ (porting 5 {}).on (R.CAS_P_CTRL.EXPECT_EN 3) 0 = false ∧
      ((porting 5 {}).port 3).exit = 0) ∧
    ((porting 6 {}).portState 3 = 6 ∧ ((porting 6 {}).port 3).exit ≠ 1 ∧
      (∀ l, l < 8 → ((porting 6 {}).wr R.LNE_STATUS.SKEW (lane 3 7) 24).rd R.LNE_STATUS.SKEW (lane 3 l) ≤ 24) ∧
      24 < ((porting 6 {}).wr R.LNE_STATUS.SKEW (lane 3 7) 25).rd R.LNE_STATUS.SKEW (lane 3 7)) ∧
    ((porting 7 {}).portState 3 = 7 ∧ ((porting 7 {}).port 3).exit ≠ 2) ∧ (porting 10 {}).portState 3 = 10 ∧
    (((porting 8 {}).wr R.LNE_STATUS.BLOCK_LOCK (lane 3 7) 1).on R.LNE_STATUS.BLOCK_LOCK (lane 3 7) = true ∧
      15 ≤ (({ porting 8 {} with laneSync := [(lane 3 7, { recent := List.replicate 15 true })] } : State).sync
        (lane 3 7)).recent.length) ∧
    ((porting 1 {}).on R.LNE_STATUS.BLOCK_LOCK (lane 3 7) = false ∧
      (({ porting 1 {} with laneSync := [(lane 3 7, { run := 63 })] } : State).sync (lane 3 7)).run = 63) ∧
    (((porting 10 {}).laneOrder 3).isSome = true ∧ (porting 10 {}).skewed 3 = false ∧ (porting 10 {}).otherPeer 3 = false ∧
      (porting 10 { peer := 1 }).otherPeer 3 = true) := by decide +kernel

theorem witness_PortsComeUp_short : halfTrip false 0 + 31 ≤ 96 := by simp [halfTrip]

/-- The turnaround is a free value: a long trip fails where it is no more than 800. -/
theorem witness_PortsComeUp_long (h : Config.turnaround false ≤ 800) : 96 < halfTrip false 1023 + 31 := by
  unfold halfTrip; omega

theorem witness_LanePowerMoves :
    ((porting 8 {}).accessCode .host .cas 0 (0x80 + 0x20 * 3) true = 0 ∧ (porting 8 {}).portState 3 = 8 ∧
      (porting 8 {}).portLs 3 = 0 ∧ (porting 8 {}).unitState = 0) ∧
    ((porting 8 {}).wr (R.CAS_P_STATUS.LS 3) 0 1).portLs 3 = 1 ∧ ((porting 8 {}).wr (R.CAS_P_STATUS.LS 3) 0 2).portLs 3 = 2 := by
  decide +kernel

/-- A frame and the same as received. -/
def someFrame : Frame := ⟨1, 5, 3⟩
/-- A frame as received on a port that expects sequence g. -/
def frameIn (g : Nat) : FrameIn := ⟨5, 3, BitVec.ofNat 32 (frameCrc g 5 3)⟩

theorem witness_FramesAndNetMap :
    ((porting 8 { ready := [someFrame] }).carries 3 = true ∧ ((porting 8 { ready := [someFrame] }).port 3).ready = [someFrame] ∧
      ((porting 8 { ready := [someFrame] }).wr (R.CAS_P_CREDITS.HELD 3) 0 1).rd (R.CAS_P_CREDITS.HELD 3) 0 ≠ 0 ∧
      ((porting 8 { ready := [someFrame] }).port 3).replayBuf.length < 32) ∧
    (((porting 8 { expect := 65535 }).port 3).discarding = false ∧
      (frameIn 65535).crc.toNat = frameCrc ((porting 8 { expect := 65535 }).port 3).expect (frameIn 65535).pay (frameIn 65535).tags) ∧
    ((porting 7 {}).portState 3 = 7 ∧ (frameIn 0).crc.toNat = frameCrc 0 (frameIn 0).pay (frameIn 0).tags) ∧
    (frameIn 0).crc.toNat ≠ frameCrc ((porting 8 { expect := 65535 }).port 3).expect (frameIn 0).pay (frameIn 0).tags ∧
    (((porting 8 {}).port 3).nakRun = 0 ∧ ((porting 8 {}).port 3).replayBuf = []) ∧
    ((porting 0 {}).accessCode .host .cas 0 0x64 true = 0 ∧ (porting 0 {}).accessCode .host .cas 0 0x64 false = 0 ∧
      ((porting 0 {}).wr R.CAS_NETMAP_INDEX.INDEX 0 65535).netRefused
        (((porting 0 {}).wr R.CAS_NETMAP_INDEX.INDEX 0 65535).rd R.CAS_NETMAP_INDEX.INDEX 0) ((0x7F : W32).toNat % 2 ^ 20) = false) := by
  decide +kernel

/-- A cascade with one waiting order. -/
def ordered (k : OrderKind) (arg : Nat) (x : Cas) (s : State) : State := { s with cas := { x with orders := [⟨k, 0, arg⟩] } }

/-- Partition 63 of the unit Armed. -/
def united (st : Nat) (x : Part) : State := sourced 3 st x

theorem witness_OrdersLand :
    (State.reset.wr R.CAS_TREE.UP_VALID 0 1).on R.CAS_TREE.UP_VALID 0 = true ∧
    (ordered .start 2 {} State.reset).cas.orders.find? (fun o => o.kind == .start) = some ⟨.start, 0, 2⟩ ∧
    ((ordered .release 0 { started := true } (united 3 {})).cas.orders.find? (fun o => o.kind == .release) = some ⟨.release, 0, 0⟩ ∧
      (ordered .release 0 { started := true } (united 3 {})).cas.started = true ∧
      63 ∈ (ordered .release 0 { started := true } (united 3 {})).unitParts ∧ (united 3 {}).isFollower 63 = false ∧
      (united 3 {}).pstate 63 = 3 ∧ (united 3 {}).on R.PRT_STATUS.WAIT_LOCK 63 = false) ∧
    ((ordered .resume 0 { held := true } State.reset).cas.orders.find? (fun o => o.kind == .resume) = some ⟨.resume, 0, 0⟩ ∧
      (ordered .resume 0 { held := true } State.reset).cas.held = true) ∧
    ((ordered .stop 1 {} (united 4 { inCycle := true })).cas.orders.find? (fun o => o.kind == .stop) = some ⟨.stop, 0, 1⟩ ∧
      (ordered .stop 1 {} (united 4 { inCycle := true })).unitParts = [63] ∧ ((united 4 { inCycle := true }).part 63).inCycle = true ∧
      ((united 3 {}).part 63).inCycle = false) ∧
    (ordered .halt 0 {} (united 4 {})).rd R.DBG_STATUS.EMU 0 = 0 ∧
    (ordered .unhalt 0 {} (State.reset.wr R.DBG_STATUS.EMU 0 2)).emuStopped = true ∧
    (ordered .stepfreq 100 {} (State.reset.wr R.PWR_CLOCKS.STEP_PLL 0 1)).on R.PWR_CLOCKS.STEP_PLL 0 = true := by decide +kernel

/-- The master of a unit. -/
def master (x : Cas) : State := { (ready .cas 0 State.reset).wr R.CAS_STATUS.MASTER 0 1 with cas := x }

theorem witness_ReportsHoldsAndPeriods :
    ((master {}).isMaster = true ∧ (master {}).cas.stopOrdered = false ∧ (master {}).rd R.DBG_STATUS.EMU 0 = 0 ∧
      (master {}).cas.orders.any (fun o => o.kind == .halt) = false) ∧
    (State.reset.isMaster = false ∧ (State.reset.wr R.CAS_TREE.UP_VALID 0 1).on R.CAS_TREE.UP_VALID 0 = true) ∧
    (master {}).accessCode .host .cas 0 0x4C true = 0 ∧
    ((master { started := true }).cas.started = true ∧ (7 : BitVec 64).toNat % 8 ≠ 0 ∧ (8 : BitVec 64).toNat % 8 = 0 ∧
      (master { started := true }).cas.held = false ∧ (master { started := true, lateHold := true }).drivesLow = true) ∧
    ((master { waiting := true }).cas.started = false ∧ (master { waiting := true }).cas.waiting = true) ∧
    ((master { started := true, holdAt := some 16 }).cas.holdAt = some 16 ∧ 16 ≤ (16 : BitVec 64).toNat) ∧
    ((master { waiting := true, highRun := 8 }).cas.highRun = 8 ∧ (master { waiting := true, highRun := 8 }).startAllowed = true) ∧
    (({ united 3 {} with cas := { started := true, mode := 1, nextRel := 8 } } : State).masterParts = [63] ∧
      8 ≤ (8 : BitVec 64).toNat) := by decide +kernel

/-- A stream in progress with an engine, fetching an image of 1,024 bytes, the page reached by the host. -/
def streamed (e : CfgEngine) : State :=
  { ((((ready .cfg 0 State.reset).wr R.CFG_STATUS.STREAM_BUSY 0 1).wr R.CFG_IMAGE_LEN.BYTES 0 1024).wr R.CFG_STREAM_LEN.BYTES 0 1024).wr
      R.CFG_GOLDEN_LEN.BYTES 0 1024 with fabric := { engine := e } }

/-- The same with no stream and a state of the fabric. -/
def configured (st : Nat) (x : Fabric) : State :=
  { ((streamed {}).wr R.CFG_STATUS.STREAM_BUSY 0 0).wr R.CFG_STATUS.STATE 0 st with fabric := x }

theorem witness_StreamsRun :
    ((configured 3 {}).accessCode .host .cfg 0 0x40 true = 0 ∧ (configured 3 {}).streaming = false ∧
      4 ≤ (configured 3 {}).rd R.CFG_IMAGE_LEN.BYTES 0 ∧ 4 ≤ (configured 3 {}).rd R.CFG_GOLDEN_LEN.BYTES 0 ∧
      (configured 3 {}).rd R.CFG_STATUS.STATE 0 = 3 ∧ (configured 3 {}).on R.CFG_CTRL.CP_OWNER 0 = false ∧
      4 ≤ (configured 3 {}).rd R.CFG_STREAM_LEN.BYTES 0) ∧
    ((streamed {}).streaming = true ∧ (streamed {}).fabric.clearing = 0 ∧ (streamed {}).fabric.engine.source ≠ 2 ∧
      (streamed {}).fabric.engine.fetched + [(1 : W32), 2].length < (streamed {}).imageBytes / 4) ∧
    ((streamed { input := [7, marker, 9], seen := 62 }).fabric.engine.hunting = true ∧
      findMarker (streamed { input := [7, marker, 9], seen := 62 }).fabric.engine.input 62 = (63, some [9]) ∧
      (streamed { input := [7, marker, 9], seen := 62 }).fabric.engine.fetched < (streamed {}).imageBytes / 4) ∧
    (((configured 1 { clearing := 1 }).wr R.CFG_CTRL.FALLBACK_EN 0 0).on R.CFG_CTRL.FALLBACK_EN 0 = false ∧ (configured 1 { clearing := 1 }).fabric.clearing = 1 ∧
      (configured 1 { clearing := 1 }).fabric.engine.source ≠ 2 ∧
      (((configured 1 { clearing := 1 }).wr R.CFG_CTRL.FALLBACK_EN 0 1).wr R.CFG_STATUS.IMAGE 0 1).on R.CFG_CTRL.FALLBACK_EN 0 = true ∧
      (((configured 1 { clearing := 1 }).wr R.CFG_CTRL.FALLBACK_EN 0 1).wr R.CFG_STATUS.IMAGE 0 1).rd R.CFG_STATUS.IMAGE 0 = 1) ∧
    (configured 1 { clearing := 2 }).fabric.clearing = 2 := by decide +kernel

/-- A record in front of the engine. -/
def recordIn (src : Nat) (l : List W32) (e : CfgEngine) : State :=
  streamed { e with source := src, input := l, hunting := false }

theorem witness_StreamsRun_end : (recordIn 2 [0x04030000, marker] {}).atRecord .endStream 0x04030000 [marker] ∧
    (recordIn 0 [0x04030000] {}).atRecord .endStream 0x04030000 [] := by
  and_intros <;> decide +kernel

/-- The last frame's entry, of zeros. -/
def entryIn : List W32 :=
  (4607 :: List.replicate 32 0) ++ List.replicate 32 0 ++ List.replicate 32 0 ++ List.replicate 32 0 ++ [0x9D7733DC]

theorem test_crc_first : crcWords crcInit (4607 :: List.replicate 32 0) = 1384230691 := by decide +kernel
theorem test_crc_second : crcWords 1384230691 (List.replicate 32 0) = 1414621956 := by decide +kernel
theorem test_crc_third : crcWords 1414621956 (List.replicate 32 0) = 13700669 := by decide +kernel
theorem test_crc_last : crcWords 13700669 (List.replicate 32 0) = 1653132323 := by decide +kernel

/-- The check word of the entry, computed word group by word group. -/
theorem witness_entryCheck : entryCheck (entryIn.take 130) = true := by
  have ha (c : Nat) (l r : List W32) : crcWords c (l ++ r) = crcWords (crcWords c l) r := by simp [crcWords]
  have h : (entryIn.take 130).take 129 =
      (4607 :: List.replicate 32 0) ++ List.replicate 32 0 ++ List.replicate 32 0 ++ List.replicate 32 0 := by decide +kernel
  have hw : (entryIn.take 130).getD 129 0 = 0x9D7733DC := by decide +kernel
  rw [entryCheck, h, hw, ha, ha, ha, test_crc_first, test_crc_second, test_crc_third, test_crc_last]
  decide +kernel

theorem witness_RecordsConfigure :
    (recordIn 0 [0] {}).atRecord .nop 0 [] ∧
    ((recordIn 0 [0x01010001, 0x1F3C8640] {}).atRecord .device 0x01010001 [0x1F3C8640] ∧
      (recordIn 0 [0x01020001, 0x27100900] {}).atRecord .gclkA 0x01020001 [0x27100900] ∧ gclkWordOk 0x27100900 = true ∧
      (recordIn 1 [0x01030001, 0] {}).atRecord .gclkB 0x01030001 [0] ∧
      (recordIn 0 [0x01040001, 0xFFFFFF] {}).atRecord .bankv 0x01040001 [0xFFFFFF] ∧
      (recordIn 0 [0x01060001, 0x1111128] {}).atRecord .fpll0 0x01060001 [0x1111128] ∧ fpllOk 0x111128 = true ∧
      (recordIn 0 [0x01070001, 0x333350] {}).atRecord .fpll1 0x01070001 [0x333350] ∧ fpllOk 0x333350 = true) ∧
    ((recordIn 2 [0x01050001, 16] {}).atRecord .region 0x01050001 [16] ∧
      ((recordIn 2 [0x01050001, 16] {}).wr (R.CFG_REGION.FABRIC_OK 15) 0 1).on (R.CFG_REGION.FABRIC_OK ((16 : W32).toNat - 1)) 0 = true ∧
      (recordIn 1 [0x01050001, 0] {}).atRecord .region 0x01050001 [0]) ∧
    (recordIn 0 [0x02001200] {}).atRecord .frames 0x02001200 [] ∧
    ((recordIn 0 entryIn { framesLeft := 1 }).streaming = true ∧
      (recordIn 0 entryIn { framesLeft := 1 }).fabric.engine.framesLeft ≠ 0 ∧
      130 ≤ (recordIn 0 entryIn { framesLeft := 1 }).fabric.engine.input.length ∧
      (recordIn 0 entryIn { framesLeft := 1 }).fabric.engine.fetched <
        (recordIn 0 entryIn { framesLeft := 1 }).imageBytes / 4 ∧
      (entryIn.getD 0 0).toNat = 4607 ∧
      frameRefused 0 4607 (frameOf ((entryIn.take 130).drop 1)) = false) ∧
    ((recordIn 2 [0x03000001, 4607] { region := 1 }).atRecord .read 0x03000001 [4607] ∧ recLen 0x03000001 = 1 ∧
      (recordIn 2 [0x03000001, 4607] { region := 1 }).ecc clsFrame 4607 < 2) := by
  and_intros <;> decide +kernel

/-- A CHECK record that matches. -/
def checked : List W32 := [0x05000001, BitVec.ofNat 32 (crcFinal (crcWords crcInit [0x05000001]))]

theorem witness_ActionsTakeEffect :
    ((recordIn 0 checked { crcOn := true, crc := crcInit }).atRecord .check 0x05000001 (checked.drop 1) ∧
      crcFinal (crcWords crcInit [0x05000001]) = (checked.getD 1 0).toNat) ∧
    ((recordIn 0 [0x04000000] {}).atRecord .none 0x04000000 [] ∧ (recordIn 0 [0x04010000] {}).atRecord .checkReset 0x04010000 []) ∧
    (((recordIn 0 [0x04020000] { checkOk := true, nextFrame := 4608, oneFrames := true }).wr R.FAB_BANK_SENSE.LEVEL 0 0).atRecord .launch 0x04020000 [] ∧
      ((recordIn 0 [0x04020000] { checkOk := true, nextFrame := 4608, oneFrames := true }).wr R.FAB_BANK_SENSE.LEVEL 0 0).wrongVoltage = false) ∧
    ((recordIn 1 [0x04020000] { checkOk := true, region := 16, quiesced := [16] }).atRecord .launch 0x04020000 [] ∧
      (recordIn 1 [0x04020000] { checkOk := true, region := 16, quiesced := [16] }).fabric.engine.quiesced.contains 16 = true) ∧
    ((recordIn 0 [0x04020000] {}).atRecord .launch 0x04020000 [] ∧ (recordIn 0 [0x04020000] {}).fabric.engine.checkOk = false) ∧
    (recordIn 1 [0x04040000] { region := 1 }).atRecord .quiesce 0x04040000 [] := by
  and_intros <;> decide +kernel

/-- Start-up in a phase. -/
def phased (p : Nat) (x : Fabric) : State := (configured 2 x).wr R.CFG_STATUS.SU_PHASE 0 p

theorem witness_FabricStartsAndIsWatched :
    ((configured 3 {}).rd R.CFG_STATUS.SU_PHASE 0 = 0 ∧ (phased 1 {}).rd R.CFG_STATUS.SU_PHASE 0 = 1 ∧
      (∀ t, t < 8 → (phased 1 {}).treePll t = none) ∧ (phased 2 {}).rd R.CFG_STATUS.SU_PHASE 0 = 2 ∧
      (phased 3 {}).on R.CFG_CTRL.DONE_WAIT 0 = true ∧ ((phased 3 {}).wr R.CFG_CTRL.DONE_WAIT 0 0).on R.CFG_CTRL.DONE_WAIT 0 = false ∧
      ((phased 3 { doneRun := 3 }).fabric.doneRun = 3 ∧ (phased 3 { doneRun := 2 }).fabric.doneRun < 3) ∧
      (phased 4 {}).rd R.CFG_STATUS.SU_PHASE 0 = 4 ∧ (phased 5 {}).rd R.CFG_STATUS.SU_PHASE 0 = 5 ∧
      (phased 6 {}).rd R.CFG_STATUS.SU_PHASE 0 = 6 ∧ (phased 7 {}).rd R.CFG_STATUS.SU_PHASE 0 = 7) ∧
    ((phased 3 {}).wr R.CFG_DONE_TIMEOUT.US 0 1).rd R.CFG_DONE_TIMEOUT.US 0 ≠ 0 ∧
    ((configured 3 {}).on R.CFG_CTRL.CP_OWNER 0 = false ∧ ((configured 3 {}).wr R.CFG_CTRL.CP_OWNER 0 1).cpReady = true ∧
      ((streamed { source := 2, input := List.replicate 16 0 }).wr R.CFG_CTRL.CP_OWNER 0 1).cpReady = true ∧
      ((streamed { source := 2, input := List.replicate 17 0 }).wr R.CFG_CTRL.CP_OWNER 0 1).cpReady = false) ∧
    ((configured 3 {}).accessCode .host .cfg 0 (0x100 + 8 * 15) true = 0 ∧ (configured 3 {}).regionRefused 16 0x3BEF5F5F = false ∧
      (configured 3 {}).regionRefused 16 0x3BEF5F60 = true ∧ (configured 3 {}).on (errValid .cfg) 0 = false) ∧
    ((streamed { source := 1 }).streaming = true ∧ (streamed { source := 1 }).fabric.engine.source = 1) ∧
    bitOf (((configured 3 {}).wr R.FAB_STATUS.GCLK_ON 0 0x80).rd R.FAB_STATUS.GCLK_ON 0) 7 = 1 ∧
    ((configured 3 {}).wr (pllLock 1) 0 1).on (pllLock 1) 0 = true ∧
    bitsOf ((configured 3 {}).rd R.FAB_BANK_SENSE.LEVEL 0) (2 * 11) 2 ≠ 0 := by decide +kernel

/-- Scrubbing at frame 4606 of a range that ends at 4607. -/
def scrubbed (x : Fabric) : State :=
  ((configured 3 x).wr R.CFG_CTRL.SCRUB_EN 0 1).wr R.CFG_SCRUB_LAST.FRAME 0 4607 |>.wr R.CFG_SCRUB_POS.FRAME 0 4606

theorem witness_FramesAreScrubbed :
    ((scrubbed {}).scrubbing = true ∧ (scrubbed {}).fabric.refetch = none ∧
      (scrubbed {}).rd R.CFG_SCRUB_FIRST.FRAME 0 ≤ (scrubbed {}).rd R.CFG_SCRUB_POS.FRAME 0 ∧
      (scrubbed {}).rd R.CFG_SCRUB_POS.FRAME 0 < (scrubbed {}).rd R.CFG_SCRUB_LAST.FRAME 0 ∧
      (scrubbed {}).stoppedRegion ((scrubbed {}).rd R.CFG_SCRUB_POS.FRAME 0 / 48) ((scrubbed {}).rd R.CFG_SCRUB_POS.FRAME 0 % 48) = none ∧
      (((scrubbed {}).setEcc clsFrame 4606 1).upset []).ecc clsFrame ((scrubbed {}).rd R.CFG_SCRUB_POS.FRAME 0) = 1 ∧
      2 ≤ (((scrubbed {}).setEcc clsFrame 4606 2).upset []).ecc clsFrame 4606 ∧ (scrubbed {}).noCopy 4606 = false) ∧
    ((scrubbed { refetch := some 4607 }).fabric.refetch = some 4607 ∧
      (scrubbed { refetch := some 4607 }).rd R.HST_MBX_STATUS.FW_STATE 0 ≠ 3 ∧ entryIn.length = 130 ∧
      (entryIn.getD 0 0).toNat = 4607) ∧
    ((scrubbed {}).ecc clsFrame 4607 < 2 ∧ (scrubbed {}).quayIsDead 33 = false) := by decide +kernel

/-- A bundle of four instructions. -/
def bundleOf (w0 w1 w2 w3 : Nat) : W128 := BitVec.ofNat 128 (w0 + 2 ^ 32 * w1 + 2 ^ 64 * w2 + 2 ^ 96 * w3)

/-- Core 15 Running at the last bundle of its scratchpad, with pointer P15 at the word before. -/
def running (b : W128) (x : Core) : State :=
  { ((State.reset.wr R.MDC_STATUS.STATE 15 1).wr R.MDC_CTRL.CLK_EN 15 1) with
    awake := [blockKey .mdc 15]
    scratch := SMap.set 0 [] (scratchKey 15 0x3FFF0) b
    cores := SMap.set {} [] 15 { x with regs := SMap.set 0 (SMap.set 0 x.regs 64 0x3FFF0) (regP 15) 0x3FFE0 } }

/-- A vector instruction with RD = 31, RA = 30, RB = 0. -/
def vecWord (op w x : Nat) : Nat := op * 2 ^ 26 + w * 2 ^ 25 + 31 * 2 ^ 20 + 30 * 2 ^ 15 + x

theorem witness_VectorInstructionsIssue :
    (∀ op, 1 ≤ op → op < 0x10 → iOp (vecWord op 0 0) = op ∧ (running (bundleOf 0 (vecWord op 0 0) 0 0) {}).issues 15 (bundleOf 0 (vecWord op 0 0) 0 0) ∧
      ((running (bundleOf 0 (vecWord op 0 0) 0 0) {}).firstSync 15).sole 15 (bundleOf 0 (vecWord op 0 0) 0 0) (regD 31)) ∧
    (running (bundleOf 0 0 0 0) {}).issues 15 (bundleOf 0 0 0 0) := by
  unfold State.issues State.sole; decide +kernel

/-- A multiply or move of accumulator 7. -/
def macWord (op : Nat) : Nat :=
  op * 2 ^ 26 + (if op = 0x13 then 31 else 7) * 2 ^ 20 + (if op = 0x15 then 0 else 7) * 2 ^ 15

theorem witness_AccumulatorInstructionsIssue : ∀ op, 0x10 ≤ op → op < 0x16 → iOp (macWord op) = op ∧
    (running (bundleOf 0 (macWord op) 0 0) {}).issues 15 (bundleOf 0 (macWord op) 0 0) ∧
    (op < 0x13 → ((running (bundleOf 0 (macWord op) 0 0) {}).firstSync 15).sole 15 (bundleOf 0 (macWord op) 0 0) (regMac 7)) ∧
    (op = 0x15 → ((running (bundleOf 0 (macWord op) 0 0) {}).firstSync 15).sole 15 (bundleOf 0 (macWord op) 0 0) (regMac 7) ∧
      ((running (bundleOf 0 (macWord op) 0 0) {}).firstSync 15).sole 15 (bundleOf 0 (macWord op) 0 0) (regAcc 7)) := by
  unfold State.issues State.sole; decide +kernel

/-- An instruction of the address units on REG = 15 and P15, four bytes wide where it has a width. -/
def memWord (op mode : Nat) : Nat :=
  op * 2 ^ 26 + (if op < 0x24 then 2 else if op < 0x26 then 3 else if op = 0x26 then 2 else 0) * 2 ^ 24 +
    (if op = 0x24 then 7 else if op = 0x28 then 15 else 15) * 2 ^ 19 + (if op < 0x27 then 15 * 2 ^ 15 else 0) + mode * 2 ^ 12

/-- A bundle with that instruction alone, in slot 2. -/
def memBundle (op mode : Nat) : W128 := bundleOf 0 0 (memWord op mode) 0

theorem witness_AddressInstructionsIssue : (∀ op, 0x20 ≤ op → op < 0x2A → iOp (memWord op 0) = op ∧
      (running (memBundle op 0) {}).issues 15 (memBundle op 0) ∧
      regionOf ((((running (memBundle op 0) {}).firstSync 15).core 15).address (memWord op 0)) = .scratch ∧
      ((running (memBundle op 0) {}).firstSync 15).ecc clsScratch
        (scratchKey 15 ((((running (memBundle op 0) {}).firstSync 15).core 15).address (memWord op 0))) = 0 ∧
      (op = 0x27 ∨ op = 0x28 ∨ op = 0x29 →
        ((running (memBundle op 0) {}).firstSync 15).sole 15 (memBundle op 0) (regP (iReg (memWord op 0))))) ∧
    ((running (memBundle 0x20 1) {}).issues 15 (memBundle 0x20 1) ∧ iMode (memWord 0x20 1) ≠ 0 ∧
      ((running (memBundle 0x20 1) {}).firstSync 15).sole 15 (memBundle 0x20 1) (regP (iP (memWord 0x20 1)))) ∧
    ((running (bundleOf 0 0 (0x28 * 2 ^ 26 + 2 ^ 24 + 31 * 2 ^ 14) 0) {}).issues 15 (bundleOf 0 0 (0x28 * 2 ^ 26 + 2 ^ 24 + 31 * 2 ^ 14) 0) ∧
      ((running (bundleOf 0 0 (0x28 * 2 ^ 26 + 2 ^ 24 + 31 * 2 ^ 14) 0) {}).firstSync 15).sole 15
        (bundleOf 0 0 (0x28 * 2 ^ 26 + 2 ^ 24 + 31 * 2 ^ 14) 0) (regD 31)) ∧
    ((((running (memBundle 0x26 0) { resv := some 0x3FFE }).firstSync 15).core 15).resv =
        some ((((running (memBundle 0x26 0) { resv := some 0x3FFE }).firstSync 15).core 15).address (memWord 0x26 0) / 16) ∧
      (((running (memBundle 0x26 0) {}).firstSync 15).core 15).resv ≠ some 0x3FFE ∧
      (((running (memBundle 0x26 0) {}).firstSync 15).core 15).farData 2 = none) := by
  unfold State.issues State.sole; decide +kernel

/-- The sequencer's instructions, on D31 or P15, REP one bundle once. -/
def seqBundle (op : Nat) : W128 := bundleOf 0 0 0 (op * 2 ^ 26 + if op = 0x33 then 15 * 2 ^ 22 else 0)

theorem witness_SequencerInstructionsIssue :
    (∀ op, 0x30 ≤ op → op < 0x3B → op < 0x38 ∨ op = 0x3A → iOp (slotOf (seqBundle op) 3) = op ∧
      (running (seqBundle op) {}).issues 15 (seqBundle op)) ∧
    ((running (seqBundle 0x38) { regs := SMap.set 0 [] regESTAT 2048 }).issues 15 (seqBundle 0x38) ∧
      (running (seqBundle 0x39) { regs := SMap.set 0 [] regESTAT 1024 }).issues 15 (seqBundle 0x39)) ∧
    ((((running (seqBundle 0x34) {}).firstSync 15).core 15).repCount (slotOf (seqBundle 0x34) 3) ≠ 0 ∧
      (running (bundleOf 0 0 0 0xD2000000) {}).issues 15 (bundleOf 0 0 0 0xD2000000) ∧
      (((running (bundleOf 0 0 0 0xD2000000) {}).firstSync 15).core 15).repCount 0xD2000000 = 0) ∧
    ((running (bundleOf 0 0 0 (0x35 * 2 ^ 26 + 2 ^ 25)) {}).issues 15 (bundleOf 0 0 0 (0x35 * 2 ^ 26 + 2 ^ 25)) ∧
      crValue 0 (bitsOf ((((running (seqBundle 0x35) {}).firstSync 15).core 15).reg (regD 0)) 0 32) = some 0) ∧
    (((running (seqBundle 0x37) {}).wr R.IRQ_CTRL.EN 0 0).on R.IRQ_CTRL.EN 0 = false ∧
      ({ (running (seqBundle 0x37) {}).wr R.IRQ_CTRL.EN 0 1 with irqLatches := [256 * 15] } : State).on R.IRQ_CTRL.EN 0 = true ∧
      ({ (running (seqBundle 0x37) {}).wr R.IRQ_CTRL.EN 0 1 with irqLatches := [256 * 15] } : State).irqLatches.any
        (fun l => l / 256 == 15) = true) ∧
    ((((running (seqBundle 0x3A) {}).firstSync 15).core 15).inExc = false ∧
      ∀ l ∈ (((running (seqBundle 0x3A) {}).firstSync 15).core 15).due ++
        ((running (seqBundle 0x3A) {}).firstSync 15).bundleResults 15 (seqBundle 0x3A), l.reg ≠ regESTAT ∧ l.reg ≠ regEVB) := by
  unfold State.issues; and_intros <;> decide +kernel

/-- The same, with an interrupt latched for the core. -/
def interrupted (x : Core) : State := { (running 0 x).wr R.IRQ_CTRL.EN 0 1 with irqLatches := [15 * 256 + 255] }

theorem witness_CoresTakeExceptions :
    ((running 1 {}).coreReady 15 = true ∧ (running 1 {}).takesIrq 15 = false ∧ ((running 1 {}).core 15).haltReq = 0 ∧
      (running 1 {}).breakpoint 15 ((running 1 {}).core 15).pc = none ∧
      (running 1 {}).bundleFault 15 ((running 1 {}).core 15) = some ⟨1, 0, 0⟩ ∧ ((running 1 {}).core 15).inExc = false ∧
      (∀ l ∈ ((running 1 {}).core 15).due, l.reg ≠ regESTAT ∧ l.reg ≠ regEVB)) ∧
    ((running 1 { regs := SMap.set 0 [] regESTAT 1024 }).bundleFault 15 ((running 1 { regs := SMap.set 0 [] regESTAT 1024 }).core 15) =
        some ⟨1, 0, 0⟩ ∧ ((running 1 { regs := SMap.set 0 [] regESTAT 1024 }).core 15).inExc = true) ∧
    ((interrupted {}).takesIrq 15 = true ∧ (interrupted {}).latched 15 = some 255 ∧ (∀ l ∈ ((interrupted {}).core 15).due, l.reg ≠ 64) ∧
      (interrupted {}).traced 15 = false) ∧
    (((interrupted {}).wr R.MDC_STATUS.STATE 15 2).rd R.MDC_STATUS.STATE 15 = 2 ∧
      (((interrupted {}).wr R.MDC_STATUS.STATE 15 2).latched 15).isSome = true ∧
      ((running 0 { haltReq := 1 }).core 15).haltReq ≠ 0) := by decide +kernel

/-- A read or write of the last word of a scratchpad. -/
def scratchAcc (op : Nat) : BankAcc := { hostAcc op with word := 16383 }

theorem witness_CoreTransfersComplete :
    (((running 0 { wait := [⟨2, 62, 0, none⟩, ⟨3, 63, 0, none⟩] }).core 15).wait.find? (fun r => r.tag == 63 && r.resp.isNone) =
        some ⟨3, 63, 0, none⟩ ∧
      (∃ x ∈ ((running 0 { wait := [⟨2, 62, 0, none⟩, ⟨3, 63, 0, none⟩] }).core 15).wait, x.tag ≠ 63 ∧ x.resp = none)) ∧
    (((running 0 { wait := [⟨3, 63, 0, none⟩] }).core 15).wait.find? (fun r => r.tag == 63 && r.resp.isNone) = some ⟨3, 63, 0, none⟩ ∧
      (∀ x ∈ ((running 0 { wait := [⟨3, 63, 0, none⟩] }).core 15).wait, x.tag = 63 ∨ x.resp.isSome = true)) ∧
    ((running 0 { stores := [(63, 5)] }).core 15).stores.find? (fun r => r.1 == 63) = some (63, 5) ∧
    (((running 0 { queue := [scratchAcc 0, scratchAcc 1] }).core 15).queue = scratchAcc 0 :: [scratchAcc 1] ∧
      ((running 0 { queue := [scratchAcc 1] }).core 15).queue = scratchAcc 1 :: [] ∧ (scratchAcc 1).more = 0 ∧ (scratchAcc 1).bad = 0 ∧
      ((running 0 { queue := [scratchAcc 0, scratchAcc 1] }).upset []).ecc clsScratch (scratchKey 15 ((scratchAcc 0).word * 16)) = 0 ∧
      (running 0 { queue := [scratchAcc 1] }).quayIsDead (12 + 15) = false) := by decide +kernel

/-- Core 15, its page reached by the host. -/
def cored (x : Core) : State :=
  { ((ready .mdc 15 State.reset).wr R.MDC_STATUS.STATE 15 1).wr R.MDC_CTRL.CLK_EN 15 1 with cores := SMap.set {} [] 15 x }

theorem witness_CoresResetAndWatch :
    ((cored {}).accessCode .host .mdc 15 0x04 true = 0 ∧ ((cored {}).wr R.MDC_CTRL.RESET 15 1).on R.MDC_CTRL.RESET 15 = true ∧
      ((cored {}).wr R.MDC_CTRL.RESET 15 1).on R.MDC_CTRL.CLK_EN 15 = true ∧
      (((cored {}).wr R.MDC_CTRL.RESET 15 1).wr R.MDC_CTRL.CLK_EN 15 0).on R.MDC_CTRL.CLK_EN 15 = false) ∧
    ((cored {}).accessCode .host .mdc 15 0x50 true = 0 ∧ bitsOf (0xA5C3 : W32).toNat 0 16 = 0xA5C3 ∧
      bitsOf (0xA5C2 : W32).toNat 0 16 ≠ 0xA5C3) ∧
    ((((cored {}).wr R.MDC_WDT_CTRL.EN 15 1).wr R.MDC_CTRL.RESET 15 0).on R.MDC_WDT_CTRL.EN 15 = true ∧
      ((cored {}).wr R.MDC_CTRL.RESET 15 0).on R.MDC_CTRL.RESET 15 = false ∧ (cored {}).rd R.MDC_STATUS.STATE 15 ≠ 3 ∧
      ((cored {}).core 15).warned = false ∧ ((cored { warned := true }).core 15).warned = true) := by decide +kernel

/-- The debugger's page reached over PCIe at level 2, core 15 as given. -/
def probed (x : Core) : State :=
  { (tie 41 (nodeOfPage .dbg 0) ((State.reset.wr R.DBG_STATUS.LEVEL 0 2).wr R.MDC_CTRL.CLK_EN 15 1)).wr R.MDC_STATUS.STATE 15 1 with
    awake := [blockKey .dbg 0, blockKey .mdc 15], cores := SMap.set {} [] 15 x }

theorem witness_CoresAreDebugged :
    ((probed {}).accessCode .pcieDbg .dbg 0 (0x100 + 0x40 * 15) true = 0 ∧ (probed {}).countsHalted 15 = false ∧
      ((probed {}).core 15).haltReq = 0 ∧ (probed {}).resumeRefused 15 = true ∧
      ((probed {}).wr (R.DBG_C_STATUS.HALTED 15) 0 1).resumeRefused 15 = false) ∧
    ((probed { haltReq := 3 }).coreReady 15 = true ∧ ((probed { haltReq := 3 }).core 15).openBoundary = true ∧
      ((probed { haltReq := 3 }).core 15).haltReq ≠ 0 ∧ ((probed { haltReq := 3 }).core 15).noHalt = false) ∧
    ((probed {}).accessCode .pcieDbg .dbg 0 (0x11C + 0x40 * 15) true = 0 ∧
      ((probed {}).wr (R.DBG_C_STATUS.HALTED 15) 0 1).on (R.DBG_C_STATUS.HALTED 15) 0 = true ∧
      debugListed (((probed {}).wr (R.DBG_C_REGSEL.REG 15) 0 31).rd (R.DBG_C_REGSEL.REG 15) 0) ((probed {}).rd (R.DBG_C_REGSEL.PART 15) 0) = true ∧
      debugListed (((probed {}).wr (R.DBG_C_REGSEL.REG 15) 0 64).rd (R.DBG_C_REGSEL.REG 15) 0) ((probed {}).rd (R.DBG_C_REGSEL.PART 15) 0) = true) := by
  decide +kernel

/-- The mailbox reached by the host, firmware in a state, ARG0 and ARG2 given. -/
def mailed (fw a0 a2 : Nat) (x : Control) : State :=
  { (((ready .hst 0 (parted 1 {})).wr R.HST_MBX_STATUS.FW_STATE 0 fw).wr (R.HST_MBX_ARG.ARG 0) 0 a0).wr (R.HST_MBX_ARG.ARG 2) 0 a2 with
    control := x }

/-- A firmware image. -/
def someImage : FwImage := ⟨7, 3, [0, 16, 32, 48]⟩

theorem witness_MailboxCommandsRun :
    ((mailed 0 63 2 {}).accessCode .host .hst 0 0x40 true = 0 ∧ (mailed 0 63 2 {}).on R.HST_MBX_STATUS.BUSY 0 = false ∧
      (mailed 0 63 2 {}).fwState = 0 ∧ (mailed 2 63 2 {}).fwState = 2 ∧
      (mailed 2 63 2 { runs := some someImage }).control.runs = some someImage) ∧
    ((mailed 2 63 2 {}).arg 1 % 16 = 0 ∧ (mailed 2 63 2 {}).loads (bitsOf ((mailed 2 63 2 {}).arg 0) 0 6) = true) ∧
    (blockExists (bitsOf (0xF0C : Nat) 0 8) (bitsOf (0xF0C : Nat) 8 8) = true ∧
      (mailed 2 0xF0C 2 {}).arg 0 = 0xF0C ∧
      (mailed 2 0xF0C 2 {}).blockUsed ((Page.ofType (bitsOf ((mailed 2 0xF0C 2 {}).arg 0) 0 8)).getD .dev)
        (bitsOf ((mailed 2 0xF0C 2 {}).arg 0) 8 8) = false ∧
      blockExists (bitsOf ((mailed 2 1 2 {}).arg 0) 0 8) (bitsOf ((mailed 2 1 2 {}).arg 0) 8 8) = true ∧
      (mailed 2 1 2 {}).blockUsed ((Page.ofType (bitsOf ((mailed 2 1 2 {}).arg 0) 0 8)).getD .dev)
        (bitsOf ((mailed 2 1 2 {}).arg 0) 8 8) = true) ∧
    (freqOk (bitsOf ((mailed 2 1200 2 {}).arg 0) 0 12) = true ∧ freqOk (bitsOf ((mailed 2 1225 2 {}).arg 0) 0 12) = false ∧
      (∀ p, p < 64 → (mailed 2 1200 2 {}).pstate p ≠ 3 ∧ (mailed 2 1200 2 {}).pstate p ≠ 4 ∧ (mailed 2 1200 2 {}).pstate p ≠ 6 ∧
        (mailed 2 1200 2 {}).pstate p ≠ 8) ∧ (mailed 2 1200 2 {}).unitState = 0 ∧
      (mailed 2 1200 2 {}).on R.PWR_STATUS.THROTTLED 0 = false ∧
      ((mailed 2 1200 2 {}).wr R.PWR_CLOCKS.STEP_PLL 0 1).on R.PWR_CLOCKS.STEP_PLL 0 = true) ∧
    ((mailed 0 1 2 { good := some someImage }).control.good = some someImage ∧ (mailed 0 1 2 {}).control.good = none ∧
      (mailed 0 1 2 {}).control.fifo = [] ∧ (mailed 0 1 2 {}).arg 0 ≠ 0) := by decide +kernel

/-- A header line of partition 63 with its check word, and a line of zeros with its own. -/
def headLine : List W128 := [BitVec.ofNat 128 (0x4C535453 + 2 ^ 32 + 2 ^ 40 * State.reset.rd R.PRT_CTRL.DEPTH 63 + 2 ^ 48 + 2 ^ 64),
  BitVec.ofNat 128 (2 ^ 32 * 1026), 0, 0, 0, 0, 0, 0]
/-- The seals of a line. -/
def chkOf (w : List W128) : W128 :=
  BitVec.ofNat 128 ((List.range 8).foldl (fun a k => a + 2 ^ (16 * k) * (sealOf ((w[k]?).getD 0)).toNat) 0)
/-- The first line of the instruction words of bunch 63. -/
def firstSect : SectLoad := ⟨1, 63, 1024, 0, 0, 0, 0, crcInit⟩
/-- A command under way. -/
def someCmd : MbxCmd := ⟨0x03, 255, none, []⟩

theorem witness_FirmwareServes :
    ((mailed 2 63 0 { img := some { p := 63, arg3 := 1026 } }).loads 63 = true ∧ headLine.length = 8 ∧ lineSealed headLine (chkOf headLine) = true ∧
      (mailed 2 63 0 {}).headerCheck { p := 63, arg3 := 1026 } headLine = .goOn ∧ 0 + 1 < bitsOf ((headLine[1]?).getD 0).toNat 32 32) ∧
    (((mailed 2 63 0 {}).loadLine 63 firstSect (chkOf (List.replicate 8 0)) (List.replicate 8 0) 0 firstSect).1 = .goOn ∧
      ((mailed 2 63 0 {}).loadLine 63 firstSect (chkOf (List.replicate 8 0)) (List.replicate 8 0) 0 firstSect).2.1.done + 1 ≠
        firstSect.lines ∧
      2 + 1 < ({ p := 63, arg3 := 1026, header := some (headLine.headD 0, (headLine[1]?).getD 0), sect := some firstSect } : ImgLoad).hdr 1 32 32) ∧
    ((mailed 2 63 0 { img := some { p := 63, arg3 := 0 }, cmd := some someCmd }).control.cmd = some someCmd ∧
      (mailed 1 63 0 { cmd := some ⟨0x11, 255, some 0, []⟩ }).control.cmd = some ⟨0x11, 255, some 0, []⟩ ∧
      (mailed 1 63 0 {}).fwState = 1) ∧
    ((mailed 2 0 0 { runs := some someImage }).controlRuns 3 = true ∧ (mailed 0 0 0 {}).controlRuns 0 = true) ∧
    ((probed {}).accessCode .pcieDbg .dbg 0 0x60 true = 0 ∧ (probed {}).control.fifo.length < 64 ∧ (probed {}).control.dbgLen = none) ∧
    ((mailed 0 0 0 { cmd := some someCmd, dbgLen := some 4 }).control.dbgLen = some 4) := by decide +kernel

/-- The interrupt controller reached by the host and by control core 3; source 255 goes to that core. -/
def sourcing (st : List (Nat × Nat)) : State :=
  ((((tie 11 (nodeOfPage .irq 0) (ready .irq 0 (mailed 2 0 0 { runs := some someImage }))).wr (R.IRQ_TARGET.KIND 255) 0 1).wr
    (R.IRQ_TARGET.INDEX 255) 0 3).wr (softPend true) 0 (2 ^ 31)).setIrqStack 3 st

theorem witness_InterruptControllerActs :
    ((sourcing []).accessCode .host .irq 0 (0x400 + 4 * 255) true = 0 ∧ fixedTarget 255 = false ∧ bitsOf (0 : W32).toNat 0 2 = 0 ∧
      bitsOf (0x3E : W32).toNat 0 2 ≠ 0 ∧ targetExists (bitsOf (0x3E : W32).toNat 0 2) (bitsOf (0x3E : W32).toNat 2 6) = true ∧
      (sourcing []).irqPending 254 = false ∧ (sourcing []).inService 254 = false) ∧
    ((sourcing []).on R.IRQ_CTRL.EN 0 = true ∧ (sourcing []).controlRuns 3 = true ∧ (sourcing []).offered 3 = some 255) ∧
    ((sourcing [(255, 0)]).accessCode (.fw 3) .irq 0 0x60 true = 0 ∧ (sourcing [(255, 0)]).irqStack 3 = (255, 0) :: []) ∧
    ((sourcing []).accessCode .host .irq 0 0xC4 true = 0 ∧ (sourcing []).accessCode .host .irq 0 0xC0 true = 0 ∧
      (sourcing []).accessCode .host .irq 0 0xCC true = 0 ∧ (sourcing []).accessCode .host .irq 0 0xC8 true = 0) := by decide +kernel

/-- The harbourmaster's page reached by the host and core 15, its pool in bank 63, and what it keeps. -/
def harboured (x : Hms) : State :=
  { ((((tie 27 (nodeOfPage .hms 0) (ready .hms 0 State.reset)).wr R.HMS_CTRL.EN 0 1).wr R.HMS_POOL.BANK 0 63).wr R.DMB_BERTH.KIND 63 5).wr
      R.MDC_STATUS.STATE 15 1 with hms := x }

/-- Word 1 of a descriptor, staged by the host, that names core 15. -/
def stagedPost : SMap W32 := [(1, 0x80000000)]

/-- Descriptors i to i + n − 1 are queued. -/
def takenFrom (i : Nat) : Nat → SMap Nat
  | 0 => []
  | n + 1 => (i, 1) :: takenFrom (i + 1) n

theorem takenFrom_get (q n : Nat) : ∀ i, i ≤ q → q < i + n → SMap.get 0 (takenFrom i n) q = 1 := by
  induction n with
  | zero => intro i h h'; omega
  | succ n ih =>
    intro i h h'
    rw [takenFrom, SMap.get]
    split
    · rfl
    · exact ih (i + 1) (by omega) (by omega)

theorem takenFrom_full (x : Hms) : (harboured { x with state := takenFrom 0 4096 }).freeItems = [] := by
  rw [State.freeItems, List.filter_eq_nil_iff]
  intro i hi
  have h : (harboured { x with state := takenFrom 0 4096 }).itemState i = 1 :=
    takenFrom_get i 4096 0 (Nat.zero_le i) (by simpa using List.mem_range.mp hi)
  simp [h]

/-- A commit of the host is held, or none is. -/
def backed (l : List Accessor) (x : Hms) : State := harboured { x with held := l }

theorem witness_HarbourmasterPosts :
    ((backed [] {}).accessCode .host .hms 0 (0x100 + 4 * 14) true = 0 ∧ (backed [] {}).hms.held.any (fun h => posterOf h == posterOf .host) = false) ∧
    ((harboured { staging := stagedPost }).accessCode .host .hms 0 0x13C true = 0 ∧
      descOk ((((harboured { staging := stagedPost }).stagedDesc (posterOf .host))[0]?).getD 0) = true ∧
      0 ∈ (harboured { staging := stagedPost }).freeItems ∧
      (harboured { staging := stagedPost }).berthCheck ((harboured { staging := stagedPost }).rd R.HMS_POOL.BANK 0) hmsRequester = 0) ∧
    ((backed [.host] {}).hms.held = .host :: [] ∧ (backed [.host] {}).hms.waiting = [] ∧
      ((backed [.host] {}).wr R.HMS_BP_LIMIT.US 0 1).rd R.HMS_BP_LIMIT.US 0 ≠ 0) := by decide +kernel

theorem witness_HarbourmasterPosts_full :
    (harboured { staging := stagedPost, state := takenFrom 0 4096 }).freeItems = [] ∧
    (harboured { staging := stagedPost, state := takenFrom 0 4096 }).accessCode .host .hms 0 0x13C true = 0 ∧
    descOk ((((harboured { staging := stagedPost, state := takenFrom 0 4096 }).stagedDesc (posterOf .host))[0]?).getD 0) = true :=
  ⟨takenFrom_full { staging := stagedPost }, by decide +kernel, by decide +kernel⟩

theorem witness_HarbourmasterPosts_journal :
    ∀ w, (harboured {}).inJournal ((harboured {}).rd R.HMS_POOL.BANK 0) w = false := fun _ => rfl

/-- Item 4095 for core 15, with RESULT_ADDR in the scratchpad of core 0 or none. -/
def someItem (r : Nat) : HmsItem := ⟨4095, 7, [BitVec.ofNat 128 (2 ^ 63 + 2 ^ 64 * r + 2 ^ 32 * 7), 0, 0, 0]⟩

/-- The same, queued at level 7, its words in the pool. -/
def queued : State :=
  ((((harboured { state := [(4095, 1)], queues := [(7, [4095])] }).wr R.HMS_POOL_CORES.CORES 0 0x8000).wr R.MDC_CTRL.RESET 15 0).wr
    R.MDC_CTRL.CLK_EN 15 1).setBankWord 63 (4 * 4095) (someItem 0x20000000).head 0

theorem witness_HarbourmasterDispatches :
    (queued.on R.HMS_CTRL.EN 0 = true ∧ (∀ j, j < 7 → queued.hmsQueue j = []) ∧ queued.hmsQueue 7 = [4095] ∧
      (queued.poolLoad (queued.poolWord 4095 0) 4).1 = some (someItem 0x20000000).words ∧
      (queued.poolLoad (queued.poolWord 4095 0) 4).2.dispatchTo (descCores (someItem 0x20000000).head) 7 = some (15, false)) ∧
    ((harboured { dispatch := [(15, some ⟨someItem 0, false⟩)] }).accessCode (.core 15) .hms 0 0x60 false = 0 ∧
      (harboured { dispatch := [(15, some ⟨someItem 0, false⟩)] }).hms.held.any (fun h => posterOf h == posterOf (.core 15)) = false ∧
      (harboured { dispatch := [(15, some ⟨someItem 0, false⟩)] }).hmsDispatch 15 = some ⟨someItem 0, false⟩ ∧
      (harboured { dispatch := [(15, some ⟨someItem 0, false⟩)] }).rd R.MDC_STATUS.STATE 15 ≠ 3) := by decide +kernel

/-- Core 15 runs an item; the harbourmaster reaches core 0's scratchpad. -/
def serving (r : Nat) (l : List HmsDone) : State :=
  tie 38 12 (harboured { coreStacks := [(15, [someItem r])], completing := l })

theorem witness_HarbourmasterCompletes :
    ((serving 0 []).hms.held.any (fun h => posterOf h == posterOf (.core 15)) = false ∧ (serving 0 []).hmsStack 15 = someItem 0 :: [] ∧
      (serving 0 []).accessCode (.core 15) .hms 0 0x64 true = 0 ∧ (serving 0 []).accessCode (.core 15) .hms 0 0x68 true = 0 ∧
      descResult (someItem 0).head = 0 ∧ descResult (someItem 0x20000000).head ≠ 0 ∧
      (serving 0x20000000 []).nodeOfAddress (.fw 0) (descResult (someItem 0x20000000).head) = some 12 ∧
      (serving 0x20000000 []).routeOk 38 12 = true ∧ (serving 0x20000000 []).quayIsDead 38 = false ∧
      (serving 0x20000000 []).hms.completing.length < 64) ∧
    ((serving 0 [⟨63, someItem 0⟩]).hms.completing.find? (fun c => c.tag == 63) = some ⟨63, someItem 0⟩ ∧
      (serving 0 [⟨63, someItem 0⟩]).hms.unsent = []) ∧
    (queued.accessCode .host .hms 0 0x58 true = 0 ∧
      (List.range 8).find? (fun l => (queued.hmsQueue l).contains (bitsOf (4095 : W32).toNat 0 12)) = some 7) := by decide +kernel

/-- A packet of the host to a bank node. -/
def packetTo (d op : Fin 64) (addr : BitVec 40) : Packet :=
  ⟨d, 34, 63, ⟨op.val % 16, Nat.mod_lt _ (by decide)⟩, 0xFFFF, addr, 0, [], [], true⟩

/-- Bank 63 awake, and the last bank node routed to from the host. -/
def bussed : State := { (tie 34 7 (banked {})).wr R.PWR_STATUS.DEV_STATE 0 2 with awake := [blockKey .dmb 63] }

theorem witness_RequestsAreAnswered :
    (4 ≤ (packetTo 7 4 0x12FFFFFF0).op.val ∧ bussed.performed (packetTo 7 4 0x12FFFFFF0) = true) ∧
    (2 ≤ bussed.rd R.PWR_STATUS.DEV_STATE 0 ∧ bussed.ownerOf (packetTo 7 0 0x130000000) = none) ∧
    (bussed.ownerOf (packetTo 0 0 0x12FFFFFF0) = some 7) ∧
    ((bussed.wr R.NOC_STATUS.DEAD 7 1).ownerOf (packetTo 7 0 0x12FFFFFF0) = some 7 ∧
      (bussed.wr R.NOC_STATUS.DEAD 7 1).quayIsDead 7 = true ∧ forEdge 0x12FFFFFF0 = false) ∧
    (∃ d : Fin 64, bussed.ownerOf (packetTo d 0 0x3FFF0) = some d.val ∧ bussed.quayIsDead d.val = false) ∧
    (bussed.quayIsDead 7 = false ∧ bussed.awake.contains (blockKey .dmb (bankOfAddress 0x128000000)) = false ∧
      bussed.ownerOf (packetTo 7 0 0x12E000000) = some 7 ∧ bussed.awake.contains (blockKey .dmb (bankOfAddress 0x12E000000)) = false) ∧
    (bussed.awake.contains (blockKey .dmb (bankOfAddress 0x12FFFFFF0)) = true ∧ bareQuay 34 = false ∧
      bussed.heldPackets (bankOfAddress 0x12FFFFFF0 / 8) = [] ∧ bussed.bankTakes (packetTo 7 1 0x12FFFFFF0) = true ∧
      bussed.berthCheck (bankOfAddress 0x12FFFFFF0) (bussed.requesterOf 34 63) = 0) := by decide +kernel

/-- The device in state 2, with a request of control core 3 outstanding. -/
def answered (s : State) : State := { s.wr R.PWR_STATUS.DEV_STATE 0 2 with quayReqs := [(11, 63, 0x10000000)] }

theorem witness_QuaysTakeResponses :
    ((bussed.wr R.NOC_STATUS.DEAD 43 1).quayIsDead 43 = true ∧ 2 ≤ (answered State.reset).rd R.PWR_STATUS.DEV_STATE 0 ∧
      (answered State.reset).quayIsDead 38 = false ∧ (answered State.reset).quayIsDead 31 = false ∧
      (answered State.reset).quayIsDead 27 = false ∧ (answered State.reset).quayIsDead 7 = false) ∧
    ((answered (running 0 { wait := [⟨3, 63, 0, none⟩] })).core 15).wait.any (fun r => r.tag == 63) = true ∧
    sealsCheck [0] [sealOf 0] = true ∧
    ((answered (parted 4 { memWaits := [⟨63, 2, 0, 0, 0, 0⟩] })).holderOf 63 = some 63 ∧
      ((answered (parted 4 { memWaits := [⟨63, 2, 0, 0, 0, 0⟩] })).part 63).memWaits.find? (fun c => c.bunch == 63 && decide (2 ≤ c.kind)) =
        some ⟨63, 2, 0, 0, 0, 0⟩) ∧
    (bareQuay 11 = true ∧ (answered State.reset).quayIsDead 11 = false ∧
      (answered State.reset).quayReqs.find? (fun r => r.1 == 11 && r.2.1 == 63) = some (11, 63, 0x10000000)) ∧
    (ready .noc 43 State.reset).accessCode .host .noc 43 0x04 true = 0 := by decide +kernel

/-- Acquisition unit 3 in a state, reached by the host, its buffer bank 63 with a berth for it. -/
def acquired (st : Nat) (x : Acq) : State :=
  { ((((((tie 31 7 (ready .acq 3 State.reset)).wr R.ACQ_STATUS.STATE 3 st).wr R.ACQ_BUF.FIRST_BANK 3 63).wr R.ACQ_BUF.NBANKS 3 1).wr
      R.DMB_BERTH.KIND 63 3).wr R.DMB_BERTH.ID 63 3) with acqs := SMap.set {} [] 3 x }

/-- A taken sample. -/
def someSample : AcqSample := ⟨5, 1, 0, [], []⟩

theorem witness_AcquisitionCaptures :
    ((acquired 0 {}).accessCode .host .acq 3 0x40 true = 0 ∧ (acquired 0 {}).acqState 3 = 0 ∧ (acquired 4 {}).acqState 3 = 4 ∧
      (acquired 5 {}).mayArm 3 = true ∧ ((acquired 0 {}).wr R.ACQ_BUF.NBANKS 3 2).mayArm 3 = false ∧
      ((acquired 1 {}).acqState 3 = 1 ∧ ((acquired 1 {}).acq 3).blk = none ∧ ((acquired 1 {}).acq 3).fifo = [] ∧
        ((acquired 1 {}).acq 3).out.any (fun o => o.2.2) = false) ∧
      ((acquired 2 { fifo := [⟨1, 5, true⟩] }).acqState 3 = 2 ∧ ((acquired 2 { fifo := [⟨1, 5, true⟩] }).acq 3).fifo ≠ [])) ∧
    ((acquired 1 { due := [some someSample], blk := some ⟨0, 1, 0, 13, none, true⟩ }).capturing 3 = true ∧
      (acquired 1 {}).rd R.ACQ_CTRL.CLK_SRC 3 ≠ 2 ∧
      ((acquired 1 { due := [some someSample], blk := some ⟨0, 1, 0, 13, none, true⟩ }).acq 3).due = [some someSample] ∧
      (((acquired 1 { due := [some someSample] }).acq 3).fifo.filter (fun w => w.sample)).length < 1024) ∧
    (((acquired 1 { fifo := [⟨262143, 5, true⟩] }).acq 3).fifo = ⟨262143, 5, true⟩ :: [] ∧
      (List.range 64).find? (fun t => !((acquired 1 { out := (List.range 63).map (fun t => (t, 0, true)) }).acq 3).out.any
        (fun o => o.1 == t)) = some 63 ∧
      (acquired 1 {}).routeOk (28 + 3) (((acquired 1 {}).acqPlace 3 262143).1 / 8) = true ∧ (acquired 1 {}).quayIsDead (28 + 3) = false) ∧
    (((acquired 1 { out := [(63, 0, true)] }).acq 3).out.find? (fun o => o.1 == 63) = some (63, 0, true) ∧
      (acquired 1 { out := [(63, 0, true)] }).acqState 3 ≠ 5) := by decide +kernel

/-- Converter 31 on its pin, with both edges selected. -/
def timed (x : Tdc) : State :=
  { (State.reset.wr (R.ACQ_TDC_CTRL.EN 31) 0 1).wr (R.ACQ_TDC_CTRL.EDGES 31) 0 3 with
    tdcs := SMap.set {} [] 31 x, frames := SMap.set 0 [] (73 * 48) (BitVec.ofNat 4096 (2 ^ (800 + 32 * 3 + 17))) }

theorem witness_StampsAndReadout :
    ((timed {}).tdcSees 31 = true ∧ bitOf ((timed {}).rd (R.ACQ_TDC_CTRL.EDGES 31) 0) 0 = 1 ∧
      bitOf ((timed {}).rd (R.ACQ_TDC_CTRL.EDGES 31) 0) 1 = 1 ∧ ((timed {}).tdc 31).lastEdge = none ∧
      ((timed { lastEdge := some 0 }).tdc 31).lastEdge = some 0 ∧
      (0 ≤ (timed {}).now / 65536 * 128 + 127 ∧ (timed {}).now / 65536 * 128 + 127 < 0 + 256)) ∧
    ((timed { waiting := [(127, true)] }).tdc 31).waiting = (127, true) :: [] ∧
    ((acquired 0 {}).accessCode .host .acq 3 0x2C0 true = 0 ∧ (262143 : W32).toNat % 2 ^ 22 < (acquired 0 {}).acqWords 3 ∧
      (acquired 0 {}).acqWords 3 ≤ (262144 : W32).toNat % 2 ^ 22) ∧
    ((acquired 0 {}).accessCode .host .acq 3 (0x2D0 + 4 * 0) false = 0 ∧ (acquired 0 {}).accessCode .host .acq 3 (0x2D0 + 4 * 3) false = 0 ∧
      (acquired 0 {}).rd R.ACQ_RD_INDEX.WORD 3 < (acquired 0 {}).acqWords 3 ∧ (((acquired 0 {}).upset []).windowWord 3).1 = some 0 ∧
      SMap.get none ({ acquired 0 {} with captures := [(stageKey .host .acq 3 0x2D0, some 9)] } : State).captures
        (stageKey .host .acq 3 0x2D0) = some 9) := by decide +kernel

/-- The time base in a state, reached by the host, with an offset. -/
def clocked (st off : Nat) : State := ((ready .tim 0 State.reset).wr R.TIM_STATUS.STATE 0 st).wr R.TIM_OFFSET_LO.OFFSET 0 off

theorem witness_TimeIsKept :
    ((clocked 0 5).accessCode .host .tim 0 0x40 true = 0 ∧ (clocked 0 5).timeState = 0 ∧ 0 ≤ ((clocked 0 5).now : Int) + (clocked 0 5).offsetValue ∧
      ((clocked 0 5).now : Int) + (clocked 0 5).offsetValue < 2 ^ 64 * 1000000000 * 65536 ∧
      (((clocked 0 5).wr R.PRT_STATUS.WAIT_LOCK 63 1).rd R.PRT_STATUS.WAIT_LOCK 63 = 1) ∧
      (clocked 1 5).timeState = 1 ∧ (clocked 2 5).timeState = 2 ∧
      ((clocked 1 65536).wr R.TIM_STEP_LIMIT.NS 0 1).offsetValue.natAbs ≤ 65536 * ((clocked 1 65536).wr R.TIM_STEP_LIMIT.NS 0 1).rd R.TIM_STEP_LIMIT.NS 0 ∧
      65536 * ((clocked 2 65537).wr R.TIM_STEP_LIMIT.NS 0 1).rd R.TIM_STEP_LIMIT.NS 0 < ((clocked 2 65537).wr R.TIM_STEP_LIMIT.NS 0 1).offsetValue.natAbs) ∧
    ((clocked 1 5).timeHeld = false ∧
      (((clocked 1 5).wr R.PRT_CTRL.PTP_LOCK 63 1).wr R.PRT_STATUS.STATE 63 8).timeHeld = true) ∧
    bitsOf (((clocked 0 5).wr R.TIM_SET.TIME1 0 999999999).rd128 R.TIM_SET.TIME0 R.TIM_SET.TIME1 R.TIM_SET.TIME2 R.TIM_SET.TIME3 0).toNat
      32 32 < 1000000000 ∧
    ((clocked 1 5).accessCode .host .tim 0 0x44 true = 0 ∧ (signedOf 32 (1099511627 : W32).toNat).natAbs ≤ 1099511627 ∧
      1099511627 < (signedOf 32 (1099511628 : W32).toNat).natAbs) ∧
    (({ (clocked 1 5).wr R.TIM_SLEW.PPM 0 1 with timeRemain := 5 } : State).timeRemain ≠ 0 ∧
      ({ (clocked 1 5).wr R.TIM_SLEW.PPM 0 1 with timeRemain := 5 } : State).slewStep ≠ 0 ∧ (clocked 1 5).timeState < 4) ∧
    ((clocked 1 5).wr R.TIM_WATCH_MS.MS 0 1).rd R.TIM_WATCH_MS.MS 0 ≠ 0 ∧ ((clocked 1 5).wr R.TIM_WATCH_MS.MS 0 0).rd R.TIM_WATCH_MS.MS 0 = 0 := by
  decide +kernel

/-- Ethernet port 7 enabled with gPTP, its ring in the control memory, reached by the host. -/
def linked : State :=
  { (((((tie 35 8 (ready .eth 0 State.reset)).wr (R.ETH_P_CTRL.EN 7) 0 1).wr (R.ETH_P_TX_BASE.BASE 7) 0 0x100000).wr
      (R.ETH_P_CTRL.PTP_ROLE 7) 0 1).wr R.TIM_CTRL.FW_PTP 0 1).wr R.PWR_STATUS.DEV_STATE 0 2 with
    control := { runs := some someImage } }

/-- The same with a transmit descriptor and two words of data. -/
def slotted (d : W128) : State :=
  (((linked.portWrite 35 0x10000000 65535 d).2.portWrite 35 0x10000100 65535 0).2.portWrite 35 0x10000110 65535 0).2

/-- A gPTP frame's first bytes. -/
def gptpBytes : List Byte := List.replicate 12 0 ++ [0x88, 0xF7]

theorem witness_EthernetPortsRun :
    (linked.ethRuns 7 = true ∧ linked.rd (R.ETH_P_CTRL.MAX_LEN 7) 0 < (List.replicate 16000 (0 : Byte)).length) ∧
    (gptpBytes.length ≤ linked.rd (R.ETH_P_CTRL.MAX_LEN 7) 0 ∧
      0 ≤ (linked.now : Int) + 65536 * (-(signedOf 32 (linked.rd (R.ETH_P_INGRESS_PS.PS 7) 0))) / 1000 ∧ linked.gptpOn 7 = true ∧
      isGptp gptpBytes = true) ∧
    (linked.accessCode .host .eth 0 (0x128 + 0x80 * 7) true = 0 ∧ bitOf (1 : W32).toNat 0 = 1) ∧
    (linked.ethSlot (R.ETH_P_TX_BASE.BASE 7) (R.ETH_P_TX_CFG.POS 7) = 0x10000000 ∧ ((slotted 0).portRead 35 0x10000000).1 = 0 ∧
      dscOwn ((slotted 0).portRead 35 0x10000000).2.1 = false) ∧
    (7 ∈ ({ slotted (BitVec.ofNat 128 (0x10000100 + 2 ^ 40 * 17 + 2 ^ 54)) with ethKicked := [7] } : State).ethKicked ∧
      ((slotted (BitVec.ofNat 128 (0x10000100 + 2 ^ 40 * 17 + 2 ^ 54))).portRead 35 0x10000000).1 = 0 ∧
      dscOwn ((slotted (BitVec.ofNat 128 (0x10000100 + 2 ^ 40 * 17 + 2 ^ 54))).portRead 35 0x10000000).2.1 = true ∧
      dscAddr ((slotted (BitVec.ofNat 128 (0x10000100 + 2 ^ 40 * 17 + 2 ^ 54))).portRead 35 0x10000000).2.1 = 0x10000100 ∧
      dscLen ((slotted (BitVec.ofNat 128 (0x10000100 + 2 ^ 40 * 17 + 2 ^ 54))).portRead 35 0x10000000).2.1 = 17 ∧
      ((slotted 0).ethFetch 7 0x10000100 17 1024).1 = 0 ∧ ((slotted 0).ethFetch 7 0x10000100 17 1024).2.1 = List.replicate 17 0 ∧
      isGptp (List.replicate 17 0) = false) := by decide +kernel

/-- The link is up with memory space enabled, and the host reaches bank 63. -/
def hosted : State :=
  { (tie 34 7 (ready .hst 0 State.reset)).wr R.HST_STATUS.LINK_SPEED 0 5 with pcie := { mse := true } }

theorem witness_EndpointServesTheHost :
    (State.reset.linkUp = false ∧ (State.reset.wr R.HST_STATUS.LINK_SPEED 0 5).linkUp = true ∧ State.reset.pcie.mse = false ∧
      hostReads (.bar0 0 4 false 0) = true ∧ hostReads (.bar0 0 4 true 0) = false) ∧
    (hosted.linkUp = true ∧ hosted.pcie.mse = true ∧ hosted.hostWaiting = [] ∧
      memNode (hosted.bar2Address (0xFFFFFFF / 16 * 16)) = some 7 ∧ hosted.routeOk 34 7 = true ∧ hosted.quayIsDead 34 = false ∧
      hosted.hostWritesOut = false ∧ hosted.hostTag = some 0 ∧
      ({ hosted with hostOut := (List.range 63).map (fun t => (t, 0, true)) } : State).hostTag = some 63 ∧
      ({ hosted with hostOut := [(0, 0, true)] } : State).hostWritesOut = true) ∧
    pageAt 0x2000 ≠ none ∧
    (hosted.accessCode .host .hst 0 (0x80C + 16 * 63) true = 0 ∧
      ({ hosted.wr R.HST_STATUS.MSIX_EN 0 1 with msixPending := BitVec.ofNat 64 (2 ^ 63) } : State).rd R.HST_STATUS.MSIX_EN 0 = 1 ∧
      hosted.msixFuncMask = false ∧
      ({ hosted with msixPending := BitVec.ofNat 64 (2 ^ 63) } : State).msixPending.getLsbD 63 = true) ∧
    (linkTrains 5 8 = true ∧ 2 ≤ (hosted.wr R.PWR_STATUS.DEV_STATE 0 2).rd R.PWR_STATUS.DEV_STATE 0) := by decide +kernel

/-- The device in a state. -/
def powered (st : Nat) : State := (ready .pwr 0 State.reset).wr R.PWR_STATUS.DEV_STATE 0 st

theorem witness_PowerBringsUpTheDevice :
    (powered 1).rd R.PWR_STATUS.DEV_STATE 0 ≠ 0 ∧ (powered 0).rd R.PWR_STATUS.DEV_STATE 0 = 0 ∧
    ((powered 1).rd R.PWR_STATUS.DEV_STATE 0 = 1 ∧ ({ powered 1 with porst := false } : State).porst = false ∧
      ({ powered 1 with tripped := true } : State).tripped = true ∧ (powered 1).tripped = false) ∧
    (2 ≤ (powered 2).rd R.PWR_STATUS.DEV_STATE 0 ∧ ((powered 2).wr R.PWR_CLOCKS.CORE_PLL 0 0).rd R.PWR_CLOCKS.CORE_PLL 0 = 0 ∧
      ({ powered 2 with timeRuns := true } : State).timeRuns = true ∧ ({ powered 2 with timeRuns := false } : State).timeRuns = false) ∧
    (keyType (R.PRT_CTRL.REL_SRC.key 63) ≠ 2 ∧ keptAtPowerOn (R.PRT_CTRL.REL_SRC.key 63) = false) := by decide +kernel

theorem witness_CommandedResets :
    (powered 2).accessCode .host .pwr 0 0x40 true = 0 ∧
    ((tie 11 (nodeOfPage .pwr 0) (powered 2)).accessCode (.fw 3) .pwr 0 0x40 true = 0 ∧ Accessor.fw 3 ≠ .host ∧ viaDebug (.fw 3) = false) := by
  decide +kernel

theorem witness_TemperatureThrottles :
    (hottest ([0x0640, 0, 0, 0, 0, 0, 0, 0x0640].take 8) 0 = some (1600, 0) ∧ 2 ≤ (powered 2).rd R.PWR_STATUS.DEV_STATE 0 ∧
      (powered 2).tempFresh = true ∧ (powered 2).rd R.PWR_STATUS.THROTTLED 0 = 0 ∧
      ((powered 2).wr R.PWR_CTRL.THROTTLE_EN 0 1).rd R.PWR_CTRL.THROTTLE_EN 0 = 1 ∧
      ((16 * ((powered 2).wr R.PWR_THROTTLE.TEMP_ON 0 100).rd R.PWR_THROTTLE.TEMP_ON 0 : Nat) : Int) ≤ 1600 ∧
      (powered 2).rd R.CAS_STATUS.UNIT_STATE 0 = 0 ∧
      1600 < ((16 * ((powered 2).wr R.PWR_THROTTLE.TEMP_ON 0 101).rd R.PWR_THROTTLE.TEMP_ON 0 : Nat) : Int)) ∧
    (({ (powered 2).wr R.PWR_STATUS.THROTTLED 0 1 with coolFrom := some 0 } : State).rd R.PWR_STATUS.THROTTLED 0 = 1 ∧
      ({ (powered 2).wr R.PWR_STATUS.THROTTLED 0 1 with coolFrom := some 0 } : State).coolFrom ≠ none) ∧
    (({ (powered 2).wr R.PWR_CLOCKS.STEP_PLL 0 1 with freqTarget := some 300 } : State).freqTarget = some 300 ∧
      (powered 2).emuStopped = false ∧ ((powered 2).wr R.PWR_CLOCKS.STEP_PLL 0 1).rd R.PWR_CLOCKS.STEP_PLL 0 = 1) ∧
    (∀ b ∈ [0, 1, 4, 7, 8, 15, 16],
      bitOf ((((((powered 2).wr R.PWR_CLOCKS.CORE_PLL 0 1).wr R.PWR_CLOCKS.STEP_PLL 0 1).wr R.PWR_CLOCKS.CAS_LANE_PLL 0 15).wr
        R.PWR_CLOCKS.ETH_PLL 0 255).wr R.PWR_CLOCKS.PCIE_PLL 0 1 |>.readFields ((fieldsAt .pwr 0x5C).getD []) 0) b = 1) := by
  decide +kernel

/-- The test access port at a level, with an instruction. -/
def tapped (l i : Nat) : State := { State.reset.wr R.DBG_STATUS.LEVEL 0 l with tap := { instr := i } }

theorem witness_TestAccessPortActs :
    ((tapped 1 0).debugLevel < 2 ∧ (tapped 2 0).debugLevel = 2 ∧ (tapped 1 0).tap.instr = 0x00 ∧ (tapped 1 1).tap.instr = 0x01) ∧
    ((tapped 2 0x3F).tap.instr ≠ 0x10 ∧ (tapped 2 0x10).tap.instr = 0x10 ∧ bitOf (0x31 : BitVec 48).toNat 0 = 1 ∧
      bitsOf (0x31 : BitVec 48).toNat 1 10 = 0x18 ∧ bitsOf (0x33 : BitVec 48).toNat 1 10 ≠ 0x18 ∧
      64 ≤ ({ tapped 2 0x10 with control := { fifo := List.replicate 64 0 } } : State).control.fifo.length) ∧
    (bitOf (0x20 : BitVec 48).toNat 0 = 0 ∧
      (lastResp (((tie 41 (nodeOfPage .dbg 0) { tapped 2 0x10 with awake := [blockKey .dbg 0] }).regRead .jtag
        ⟨.dbg, 0, ⟨4 * 0x10 % 4096, Nat.mod_lt _ (by decide)⟩⟩).outbox.drop 0)).map (fun r => r.1) = some 0) := by
  decide +kernel

theorem witness_DebugLevelIsGranted :
    ((ready .dbg 0 State.reset).accessCode .host .dbg 0 0x44 true = 0 ∧ viaDebug .host = false ∧ bitsOf (6 : W32).toNat 0 2 ≠ 3 ∧
      (ready .dbg 0 State.reset).rd R.DBG_GRANT.LOCK 0 = 0 ∧ bitsOf (3 : W32).toNat 0 2 = 3 ∧
      (((ready .dbg 0 State.reset).wr R.DBG_GRANT.LOCK 0 1).rd R.DBG_GRANT.LOCK 0 = 1 ∧
        bitsOf (2 : W32).toNat 0 2 ≠ ((ready .dbg 0 State.reset).wr R.DBG_GRANT.LOCK 0 1).debugLevel)) ∧
    ((probed {}).accessCode .pcieDbg .dbg 0 0x5C true = 0 ∧ (probed {}).rd R.DBG_STATUS.BLOCKED 0 = 0 ∧
      (probed {}).rd R.DBG_GRANT.LOCK 0 = 0 ∧ (probed {}).rd R.DBG_STATUS.UNLOCK_BUSY 0 = 0) ∧
    (((probed {}).wr R.DBG_STATUS.UNLOCK_BUSY 0 1).rd R.DBG_STATUS.UNLOCK_BUSY 0 = 1 ∧ (probed {}).fwState ≠ 3 ∧
      ((probed {}).wr R.HST_MBX_STATUS.FW_STATE 0 3).fwState = 3 ∧ (probed {}).tokenGood = false) := by decide +kernel

/-- The window of the debugger at an address, at level 2, bank 63 awake and routed to. -/
def windowed (lo hi : Nat) (x : Option WindowAcc) : State :=
  { ((tie 41 7 (probed {})).wr R.DBG_XADDR_LO.ADDR 0 lo).wr R.DBG_XADDR_HI.ADDR 0 hi with
    awake := [blockKey .dbg 0, blockKey .dmb 63], windows := SMap.set none [] 0 x }

theorem witness_DebugWindowReaches :
    ((windowed 0xFFFFFF0 1 none).accessCode .pcieDbg .dbg 0 0x88 true = 0 ∧ (windowed 0xFFFFFF0 1 none).rd R.DBG_XSTATUS.BUSY 0 = 0 ∧
      frontEnd .pcieDbg = 0 ∧ windowMay (windowed 0xFFFFFF0 1 none).debugLevel ((windowed 0xFFFFFF0 1 none).xaddr 0) true = true ∧
      (windowed 0xFFFFFF0 1 none).quayIsDead 41 = false ∧
      (windowed 0xFFFFFF0 1 none).nodeOfAddress (windowAccessor 0) ((windowed 0xFFFFFF0 1 none).xaddr 0) = some 7 ∧
      (windowed 0xFFFFFF0 1 none).routeOk 41 7 = true ∧
      windowMay (windowed 0x3FFFC 0 none).debugLevel ((windowed 0x3FFFC 0 none).xaddr 0) true = false) ∧
    (2 ≤ (windowed 0xFFFFFF0 1 none).debugLevel ∧ 0x100000000 ≤ (windowed 0xFFFFFF0 1 none).xaddr 0 ∧
      (windowed 0xFFFFFF0 1 none).xaddr 0 < 0x110000000 ∧
      (windowed 0xFFFFFF0 1 none).awake.contains (blockKey .dmb ((windowed 0xFFFFFF0 1 none).xaddr 0 % 0x10000000 / 0x400000)) = true ∧
      (((windowed 0xFFFFFF0 1 none).upset []).readBank 63 262143 41).1 = some 0) ∧
    (windowed 0 0 (some ⟨true, true, true, 16, none⟩)).windowOf (b2n false) = some ⟨true, true, true, 16, none⟩ := by
  decide +kernel

/-- Emulation in a state of the debugger. -/
def halted (e : Nat) (d r : Bool) (x : Part) : State :=
  { (probed {}).wr R.DBG_STATUS.EMU 0 e with haltDecided := d, releasing := r, parts := SMap.set {} [] 63 x }

theorem witness_EmulationHaltsAndResumes :
    ((halted 0 false false {}).accessCode .pcieDbg .dbg 0 0x58 true = 0 ∧ (halted 0 false false {}).rd R.CAS_STATUS.UNIT_STATE 0 = 0 ∧
      (halted 0 false false {}).rd R.DBG_STATUS.EMU 0 = 0 ∧ (halted 1 true false {}).rd R.DBG_STATUS.EMU 0 ≠ 0 ∧
      (halted 1 true false {}).haltDecided = true ∧ (halted 2 false true {}).haltDecided = false) ∧
    (((halted 1 true false {}).wr R.PRT_STATUS.STATE 63 3).pstate 63 = 3 ∧ (halted 2 false true {}).releasing = true ∧
      (halted 2 false true {}).haltDip = false ∧
      ((halted 2 false true { haltedFrom := 4 }).wr R.PRT_STATUS.STATE 63 8).pstate 63 = 8 ∧
      ((halted 2 false true { haltedFrom := 4 }).part 63).haltedFrom = 4) := by decide +kernel

/-- Core 15 and the host reach the debug page. -/
def spoken (x : Core) : State := tie 34 (nodeOfPage .dbg 0) (tie 27 (nodeOfPage .dbg 0) (probed x))

theorem witness_TerminalsAndNotes :
    ((spoken {}).accessCode (.core 15) .dbg 0 (0x130 + 0x40 * 15) true = 0 ∧ ((spoken { vtTx := List.replicate 63 0 }).core 15).vtTx.length < 64 ∧
      64 ≤ ((spoken { vtTx := List.replicate 64 0 }).core 15).vtTx.length ∧ (spoken {}).rd (R.DBG_VT_STATUS.FALLBACK 15) 0 = 0) ∧
    ((spoken {}).accessCode .host .dbg 0 (0x130 + 0x40 * 15) false = 0 ∧ (spoken {}).quiet .host = false) ∧
    ((spoken {}).accessCode .host .dbg 0 (0x134 + 0x40 * 15) true = 0 ∧ ((spoken {}).core 15).vtRx.length < 64 ∧
      64 ≤ ((spoken { vtRx := List.replicate 64 0 }).core 15).vtRx.length) ∧
    (spoken {}).accessCode (.core 15) .dbg 0 (0x134 + 0x40 * 15) false = 0 ∧
    ((spoken {}).accessCode (.core 15) .dbg 0 (0x800 + 0x40 * 15 + 4 * 15) true = 0 ∧ (spoken {}).traced 15 = false ∧
      (((spoken {}).wr R.TRC_CTRL.EN 0 1).wr R.TRC_CORES.CORES 0 0x8000).traced 15 = true) := by decide +kernel

/-- Trace of core 15 to a sink, reached by the host. -/
def tracing (sink : Nat) (x : Core) (tr : TracePort) : State :=
  { (((ready .trc 0 State.reset).wr R.TRC_CTRL.EN 0 1).wr R.TRC_CTRL.SINK 0 sink) with cores := SMap.set {} [] 15 x, trace := tr }

theorem witness_TraceFramesFlow :
    (((tracing 0 {} {}).wr R.TRC_CTRL.EN 0 0).accessCode .host .trc 0 0x04 true = 0 ∧ ((tracing 0 {} {}).wr R.TRC_CTRL.EN 0 0).rd R.TRC_CTRL.EN 0 = 0 ∧
      bitsOf (3 : W32).toNat 1 2 ≠ 3 ∧ leastDiv (bitsOf (3 : W32).toNat 1 2) ≤ ((tracing 0 {} {}).wr R.TRC_PORT.DIV 0 9).rd R.TRC_PORT.DIV 0 ∧
      bitsOf (7 : W32).toNat 1 2 = 3) ∧
    ((tracing 1 {} {}).rd R.TRC_CTRL.EN 0 = 1 ∧ (tracing 1 {} {}).trace.stopped = false ∧ (tracing 1 {} { since := none }).trace.since = none ∧
      (tracing 1 {} {}).rd R.TRC_CTRL.SINK 0 ≠ 2 ∧ (tracing 2 {} {}).rd R.TRC_CTRL.SINK 0 = 2 ∧ (tracing 2 {} {}).trace.ring.length < 1024 ∧
      ((tracing 2 {} {}).wr R.TRC_BUF_POS.FRAME 0 1022).rd R.TRC_BUF_POS.FRAME 0 < 1023 ∧
      (tracing 1 {} { since := some 4094 }).trace.since = some 4094 ∧ (tracing 1 {} { since := some 4094 }).nextTraced = none ∧
      (tracing 1 { trace := { fifo := [1] } } { since := some 4094 }).nextTraced = some 15) ∧
    (tracing 2 {} {}).accessCode .host .trc 0 0x5C false = 0 := by decide +kernel

/-- The command in front of the queue is taken and acts. -/
theorem test_step_takes_front :
    Machine.step { State.reset with pending := [.bypass, .tapReset] } =
      .next { State.reset with pending := [.tapReset], tap := { State.reset.tap with instr := 0x3F, dr := 0 } } := rfl

/-- R511: the ID of the PRT_ page reads 0x003F_1111, and that of the TIM_ page 0x0000_1109. -/
theorem test_page_ids :
    ((ready .prt 0 State.reset).regRead .host ⟨.prt, 0, 0⟩).outbox = [.regResp .host 0 0x003F1111] ∧
      ((ready .tim 0 State.reset).regRead .host ⟨.tim, 0, 0⟩).outbox = [.regResp .host 0 0x00001109] := by decide +kernel

/-- R517: `NOC_ROUTE12` of node 34's page stands at internal address 0x4004_2070. -/
theorem test_route_address : regAddress .noc 34 (0x40 + 4 * 12) = 0x40042070 ∧
    (R.NOC_ROUTE.VALID 12).off = 0x70 := by decide +kernel

/-- R91: with E = 1,700,000,000 s, P = 40 ns and the time base at 1,700,000,000 s 123 ns, the first release is that of 160 ns. -/
theorem test_first_release : gridFrom (1700000000 * 1000000000 * 65536) (40 * 65536) ((1700000000 * 1000000000 + 123) * 65536) =
    (1700000000 * 1000000000 + 160) * 65536 := by decide +kernel

/-- R353: VADD wraps lane by lane. -/
theorem test_vadd_wraps :
    lanes false (fun j => laneU false 0x0001FFFF j + laneU false 0x00010001 j) = 0x00020000 ∧
      lanes true (fun j => laneU true 0x0001FFFF j + laneU true 0x00010001 j) = 0x00030000 := by decide +kernel

/-- R280, R306: with a blank configuration the fabric design drives no inbound port bit. -/
theorem test_blank_design : State.reset.designPort 63 = 0 := by decide +kernel

end Sys2Proof.Tests
end

/-! Accesses to registers: what an access that passes its gates does to the fields of a register (R9 to R15, R120), and the
statement on register writes. -/

namespace Sys2Proof.Machine
open Sys2Proof

variable {s : State}

/-! ## Outputs and responses -/

theorem State.respond_outbox (a : Accessor) (v : Nat) :
    (s.respond a true v).outbox = s.outbox ++ [.regResp a 0 (BitVec.ofNat 32 v)] := rfl

/-! ## Fields and their access codes (R9) -/

/-- A write to one field leaves every field at another place as it was, whatever the access code. -/
theorem State.writeField_rd_apart {f g : Fld} (h : f.apart g = true) (c d v : Nat) (locked : Bool) :
    (s.writeField f c v locked).rd g d = s.rd g d := by
  cases e : f.acc with
  | rwl => cases locked <;> simp [State.writeField, e, State.rd_wr_apart h]
  | _ => simp [State.writeField, e, State.rd_wr_apart h]

theorem State.writeField_rw {f : Fld} (h : f.acc = .rw) (c v : Nat) (locked : Bool) :
    s.writeField f c v locked = s.wr f c (bitsOf v f.lo f.width) := by
  simp only [State.writeField, h]

theorem State.writeField_rw_rd {f : Fld} (h : f.acc = .rw) (c v : Nat) (locked : Bool) :
    (s.writeField f c v locked).rd f c = bitsOf v f.lo f.width := by
  rw [State.writeField_rw h, State.rd_wr_self]
  exact Nat.mod_mod _ _

theorem State.writeField_ro {f : Fld} (h : f.acc = .ro) (c v : Nat) (locked : Bool) : s.writeField f c v locked = s := by
  simp only [State.writeField, h]

/-- A one-bit W1C field is cleared by writing 1 to it and kept by writing 0. -/
theorem State.writeField_w1c_bit {f : Fld} (h : f.acc = .w1c) (hw : f.width = 1) (c v : Nat) (locked : Bool)
    (hb : s.rd f c < 2) :
    (s.writeField f c v locked).rd f c = if bitOf v f.lo = 1 then 0 else s.rd f c := by
  have hx : bitsOf v f.lo f.width = bitOf v f.lo := by rw [hw]; rfl
  have hx2 : bitOf v f.lo < 2 := Nat.mod_lt _ (by decide)
  simp only [State.writeField, h, State.rd_wr_self, hx]
  rw [hw]
  generalize s.rd f c = y at *
  generalize bitOf v f.lo = x at *
  interval_cases x <;> interval_cases y <;> rfl

/-! ## What follows a write to INT_STATUS (R390) -/

theorem State.rearmSource_rd (n : Nat) (g : Fld) (d : Nat) : (s.rearmSource n).rd g d = s.rd g d := by
  unfold State.rearmSource
  extract_lets s1
  split
  · exact State.irqEvent_rd n g d
  · rfl

theorem State.afterIntStatus_rd (p : Page) (ch : Nat) (g : Fld) (d : Nat) :
    (s.afterIntStatus p ch).rd g d = s.rd g d := by
  unfold State.afterIntStatus
  split
  · exact State.rearmSource_rd _ g d
  · rfl

/-! ## Error capture (R512) -/

/-- The first error of a page's channel leaves its CODE. -/
theorem State.err_code {p : Page} {ch : Nat} (h : s.on (errValid p) ch = false) (code node addr : Nat) :
    (s.err p ch code node addr).rd (errCode p) ch = code % 2 ^ 5 := by
  unfold State.err
  rw [if_neg (by simp [h])]
  rw [State.rd_wr_apart (by simp [Fld.apart, errValid, errCode]), State.rd_wr_apart (by simp [Fld.apart, errAddr, errCode]),
    State.rd_wr_apart (by simp [Fld.apart, errAddrHi, errCode]), State.rd_wr_apart (by simp [Fld.apart, errInitiator, errCode]),
    State.rd_wr_self]
  rfl

/-- After an error of a page's channel VALID reads 1. -/
theorem State.err_valid (p : Page) (ch code node addr : Nat) : (s.err p ch code node addr).rd (errValid p) ch = 1 := by
  unfold State.err
  split
  · rename_i h
    rw [State.rd_wr_apart (by simp [Fld.apart, errOverrun, errValid])]
    simpa [State.on] using h
  · exact State.rd_wr_self _ _ _

/-- A refused access is answered; of the registers only bit REFUSED of the HST_ page can change (R452). -/
theorem State.refuseAccess_rd_apart {g : Fld} (h : (intBit .hst 1).apart g = true) (a : Accessor) (d : Nat) :
    (s.refuseAccess a).rd g d = s.rd g d := by
  unfold State.refuseAccess
  rw [State.respond_rd]
  split
  · exact State.raise_rd_apart h 0 d
  · rfl

theorem State.refuseAccess_rd {g : Fld} (h : errorReg (g.off % 4096) = false) (a : Accessor) (d : Nat) :
    (s.refuseAccess a).rd g d = s.rd g d := by
  refine State.refuseAccess_rd_apart ?_ a d
  have hoff : g.off % 4096 ≠ 0xC := by
    intro e
    rw [e] at h
    exact absurd h (by decide)
  simp [Fld.apart, intBit, Ne.symm hoff]

/-! ## Accesses that pass the gates (R13 to R15, R120) -/

theorem State.regWrite_ok {a : Accessor} {r : RegAddr} (h : s.accessCode a r.page (s.channel a r) r.off.val true = 0)
    (v : W32) : s.regWrite a r v = s.writeAct a r.page (s.channel a r) r.off.val v := by
  unfold State.regWrite
  exact State.access_ok h _

theorem State.regRead_ok {a : Accessor} {r : RegAddr} (h : s.accessCode a r.page (s.channel a r) r.off.val false = 0) :
    s.regRead a r = s.readAct a r.page (s.channel a r) r.off.val := by
  unfold State.regRead
  exact State.access_ok h _

/-- A page that is not replicated is reached at channel 0. -/
theorem State.channel_single {a : Accessor} {p : Page} (hn : p ≠ .noc) (hc : p.channels = 0) (n : Fin 64) (off : Fin 4096) :
    s.channel a ⟨p, n, off⟩ = 0 := by
  simp only [State.channel, if_neg hn, if_pos hc]

/-- The 128-bit values stand above the common registers, and the HST_ page has none. -/
theorem wideBase_some {p : Page} {off b : Nat} (h : wideBase p off = some b) : 0x48 ≤ off ∧ p ≠ .hst := by
  unfold wideBase at h
  cases p with
  | prt | log | tim | dbg | acq =>
    refine ⟨?_, by decide⟩
    grind
  | _ => exact absurd h (by simp)

/-- The pairs stand above the common registers, and the HST_ page has none. -/
theorem pairBase_some {p : Page} {off b : Nat} (h : pairBase p off = some b) : 0x48 ≤ off ∧ p ≠ .hst := by
  unfold pairBase at h
  cases p with
  | dev | prt | cas | tim | trc | acq =>
    refine ⟨?_, by decide⟩
    grind
  | _ => exact absurd h (by simp)

theorem isMsix_other {p : Page} (h : p ≠ .hst) (off : Nat) : isMsix p off = false := by
  simp [isMsix, h]

/-- A write of an aligned register that is there, and no part of a 128-bit value, is its page's. -/
theorem State.writeAct_named {p : Page} {off : Nat} (hal : off % 4 = 0) (h0 : off ≠ 0) (hsel : off ≠ 0x14)
    (hm : isMsix p off = false) (hf : (fieldsAt p off).isSome = true) (hw : wideBase p off = none) (a : Accessor)
    (ch : Nat) (v : W32) : s.writeAct a p ch off v = s.writeNamed a p (homeChannel a p ch off) off v := by
  simp only [State.writeAct, hal, h0, hsel, hm, hw, Option.isNone_eq_false_iff.mpr hf, ne_eq, not_true_eq_false,
    false_and, if_false, Bool.false_eq_true]

/-- A write of a word of a 128-bit value (R15). -/
theorem State.writeAct_wide {p : Page} {off b : Nat} (hal : off % 4 = 0) (hw : wideBase p off = some b)
    (hf : (fieldsAt p off).isSome = true) (a : Accessor) (ch : Nat) (v : W32) :
    s.writeAct a p ch off v = s.writeWide a p (homeChannel a p ch off) off b v := by
  obtain ⟨hlo, hp⟩ := wideBase_some hw
  have h0 : off ≠ 0 := by omega
  have hsel : off ≠ 0x14 := by omega
  simp only [State.writeAct, hal, h0, hsel, isMsix_other hp, hw, Option.isNone_eq_false_iff.mpr hf, ne_eq,
    not_true_eq_false, false_and, if_false, Bool.false_eq_true]

/-- A write of a reserved offset is refused and recorded (R13). -/
theorem State.writeAct_reserved {p : Page} {off : Nat} (hal : off % 4 = 0) (h0 : off ≠ 0) (hsel : off ≠ 0x14)
    (hm : isMsix p off = false) (hf : fieldsAt p off = none) (a : Accessor) (ch : Nat) (v : W32) :
    s.writeAct a p ch off v = (s.errReg a p ch off 1).refuseAccess a := by
  simp only [State.writeAct, hal, h0, hsel, hm, hf, ne_eq, not_true_eq_false, false_and, if_false, Bool.false_eq_true,
    Option.isNone_none, if_true]

/-- A write of SELECT on a replicated page (R120). -/
theorem State.writeAct_select {p : Page} (hc : p.channels ≠ 0) (a : Accessor) (ch : Nat) (v : W32) :
    s.writeAct a p ch 0x14 v = s.writeSelect a p (homeChannel a p ch 0x14) v.toNat := by
  simp only [State.writeAct, hc, ne_eq, not_false_eq_true, and_self, if_true, Nat.reduceMod, not_true_eq_false, if_false]

/-- A read of an aligned register that is there, and part of no wider value, is its page's. -/
theorem State.readAct_named {p : Page} {off : Nat} (hal : off % 4 = 0) (h0 : off ≠ 0) (hsel : off ≠ 0x14)
    (hm : isMsix p off = false) (hf : (fieldsAt p off).isSome = true) (hw : wideBase p off = none)
    (hp : pairBase p off = none) (a : Accessor) (ch : Nat) :
    s.readAct a p ch off = s.readNamed a p (homeChannel a p ch off) off := by
  simp only [State.readAct, hal, h0, hsel, hm, hw, hp, Option.isNone_eq_false_iff.mpr hf, ne_eq, not_true_eq_false,
    false_and, if_false, Bool.false_eq_true]

/-- A read of a word of a 128-bit value outside the ACQ_ page (R15). -/
theorem State.readAct_wide {p : Page} {off b : Nat} (hal : off % 4 = 0) (hw : wideBase p off = some b) (ha : p ≠ .acq)
    (hf : (fieldsAt p off).isSome = true) (a : Accessor) (ch : Nat) :
    s.readAct a p ch off = s.readWide a p (homeChannel a p ch off) off b := by
  obtain ⟨hlo, hp⟩ := wideBase_some hw
  have h0 : off ≠ 0 := by omega
  have hsel : off ≠ 0x14 := by omega
  simp only [State.readAct, hal, h0, hsel, isMsix_other hp, hw, ha, Option.isNone_eq_false_iff.mpr hf, ne_eq,
    not_true_eq_false, false_and, if_false, Bool.false_eq_true]

/-- A read of a word of a pair (R107). -/
theorem State.readAct_pair {p : Page} {off b : Nat} (hal : off % 4 = 0) (hw : wideBase p off = none)
    (hb : pairBase p off = some b) (hf : (fieldsAt p off).isSome = true) (a : Accessor) (ch : Nat) :
    s.readAct a p ch off = s.readPair a p (homeChannel a p ch off) off b := by
  obtain ⟨hlo, hp⟩ := pairBase_some hb
  have h0 : off ≠ 0 := by omega
  have hsel : off ≠ 0x14 := by omega
  simp only [State.readAct, hal, h0, hsel, isMsix_other hp, hw, hb, Option.isNone_eq_false_iff.mpr hf, ne_eq,
    not_true_eq_false, false_and, if_false, Bool.false_eq_true]

/-! ## Registers without a rule of their own (R9, R11) -/

theorem State.writeAny_of_fields {p : Page} {off : Nat} {fs : List Fld} (h0 : off ≠ 0) (hf : fieldsAt p off = some fs)
    (a : Accessor) (ch : Nat) (v : W32) :
    s.writeAny a p ch off v = (s.writeFields a p ch off v.toNat fs).respond a true 0 := by
  simp only [State.writeAny, State.plainWrite, if_neg h0, hf]

/-- Where nothing is locked, the fields of an ordinary register are written one by one. -/
theorem State.writeFields_plain {p : Page} {ch off : Nat} (hl : s.lockedReg p ch off = false) (hi : off ≠ 0x0C)
    (he : off ≠ 0x10) (hc : off ≠ 0x18) (a : Accessor) (v : Nat) (fs : List Fld) :
    s.writeFields a p ch off v fs = fs.foldl (fun s f => s.writeField f ch v false) s := by
  simp only [State.writeFields, hl, State.rearmCapture, hi, he, hc, Bool.false_and, Bool.false_eq_true, if_false,
    false_and, ite_self]

/-- INT_STATUS of a page other than ETH_: its fields are written, and the interrupt controller sees the write (R390). -/
theorem State.writeFields_intStatus {p : Page} {ch : Nat} (hl : s.lockedReg p ch 0x0C = false) (hp : p ≠ .eth)
    (a : Accessor) (v : Nat) (fs : List Fld) :
    s.writeFields a p ch 0x0C v fs = (fs.foldl (fun s f => s.writeField f ch v false) s).afterIntStatus p ch := by
  simp only [State.writeFields, hl, hp, State.rearmCapture, Bool.false_and, Bool.false_eq_true, if_false,
    Nat.reduceEqDiff, false_and, if_true]

/-! ## The commands that are register accesses -/

theorem exec_registerWrite (a : Accessor) (r : RegAddr) (v : W32) :
    exec (.registerWrite a r v 4) s = .next (s.regWrite a r v) := rfl

/-- A write to the FAB_ page that passes the gates writes the fields of its register and is answered. -/
theorem State.regWrite_fab {a : Accessor} {n : Fin 64} {off : Fin 4096} {o : Nat} {fs : List Fld} (ho : off.val = o)
    (h : s.accessCode a .fab 0 o true = 0) (hal : o % 4 = 0) (h0 : o ≠ 0) (hf : fieldsAt .fab o = some fs) (v : W32) :
    s.regWrite a ⟨.fab, n, off⟩ v = (s.writeFields a .fab 0 o v.toNat fs).respond a true 0 := by
  subst ho
  have hc : s.channel a ⟨.fab, n, off⟩ = 0 := State.channel_single (by decide) rfl n off
  have hsel : off.val ≠ 0x14 := by
    intro e
    have hnone : fieldsAt .fab 0x14 = none := by decide
    rw [e, hnone] at hf
    exact absurd hf (by simp)
  rw [State.regWrite_ok (by rw [hc]; exact h)]
  exact (State.writeAct_named hal h0 hsel rfl (by rw [hf]; rfl) rfl a _ v).trans (State.writeAny_of_fields h0 hf a 0 v)

theorem fieldsAt_fabUserReset : fieldsAt .fab 0x50 = some [R.FAB_USER_RESET.ASSERT] := by decide

theorem fieldsAt_fabBankSense : fieldsAt .fab 0x40 = some [R.FAB_BANK_SENSE.LEVEL] := by decide

theorem fieldsAt_fabIntStatus : fieldsAt .fab 0x0C = some [intBit .fab 0, intBit .fab 1, intBit .fab 2] := by decide

theorem exec_selectWrite (a : Accessor) (r : RegAddr) (v : W32) :
    exec (.selectWrite a r v) s = .next (s.regWrite a ⟨r.page, r.node, 0x14⟩ v) := rfl

/-- A selection below the page's channels changes the writer's shadow and is answered. -/
theorem State.writeSelect_below {p : Page} {v : Nat} (h : bitsOf v 0 8 < p.channels) (a : Accessor) (ch : Nat) :
    s.writeSelect a p ch v =
      ({ s with selects := SMap.set 0 s.selects (selClassOf a * 32 + p.type) (bitsOf v 0 8) } : State).respond a true 0 := by
  simp only [State.writeSelect, if_neg (Nat.not_le.mpr h)]

/-- INT_STATUS of the FAB_ page: each of the three bits is cleared where its bit of the write is 1. -/
theorem State.fabIntStatus_cleared {v : Nat} (hb : ∀ b, b < 3 → s.rd (intBit .fab b) 0 < 2) (b : Nat) (hb3 : b < 3) :
    ([intBit .fab 0, intBit .fab 1, intBit .fab 2].foldl (fun s f => s.writeField f 0 v false) s).rd (intBit .fab b) 0 =
      if bitOf v b = 1 then 0 else s.rd (intBit .fab b) 0 := by
  have h01 : (intBit .fab 0).apart (intBit .fab 1) = true := by decide
  have h02 : (intBit .fab 0).apart (intBit .fab 2) = true := by decide
  have h10 : (intBit .fab 1).apart (intBit .fab 0) = true := by decide
  have h12 : (intBit .fab 1).apart (intBit .fab 2) = true := by decide
  have h20 : (intBit .fab 2).apart (intBit .fab 0) = true := by decide
  have h21 : (intBit .fab 2).apart (intBit .fab 1) = true := by decide
  have hbit := fun (t : State) (k : Nat) => State.writeField_w1c_bit (s := t) (f := intBit .fab k) rfl rfl 0 v false
  simp only [List.foldl]
  match b with
  | 0 => rw [State.writeField_rd_apart h20, State.writeField_rd_apart h10]; exact hbit _ 0 (hb 0 hb3)
  | 1 =>
    have hs := State.writeField_rd_apart (s := s) h01 0 0 v false
    rw [State.writeField_rd_apart h21, hbit _ 1 (hs ▸ hb 1 hb3), hs]
    rfl
  | 2 =>
    have hs := (State.writeField_rd_apart h12 0 0 v false).trans (State.writeField_rd_apart (s := s) h02 0 0 v false)
    rw [hbit _ 2 (hs ▸ hb 2 hb3), hs]
    rfl

/-- Settles O6: each write passes its gates and reaches the fields of its register, the record of a reserved offset, or
the writer's SELECT shadow. -/
theorem registerWritesObeyAccessCodes : Obligations.RegisterWritesObeyAccessCodes := by
  unfold Obligations.RegisterWritesObeyAccessCodes
  refine ⟨?rw, ?ro, ?w1c, ?reserved, ?select⟩
  case rw =>
    intro a n v s h
    refine ⟨_, exec_registerWrite a _ v, ?_⟩
    rw [State.regWrite_fab (o := 0x50) rfl h rfl (by decide) fieldsAt_fabUserReset,
      State.writeFields_plain rfl (by decide) (by decide) (by decide)]
    exact ⟨State.writeField_rw_rd (f := R.FAB_USER_RESET.ASSERT) rfl 0 v.toNat false, rfl⟩
  case ro =>
    intro a n v s h
    refine ⟨_, exec_registerWrite a _ v, ?_⟩
    rw [State.regWrite_fab (o := 0x40) rfl h rfl (by decide) fieldsAt_fabBankSense,
      State.writeFields_plain rfl (by decide) (by decide) (by decide), List.foldl_cons, State.writeField_ro rfl]
    exact ⟨rfl, rfl⟩
  case w1c =>
    intro a n v s h hb
    refine ⟨_, exec_registerWrite a _ v, fun b hb3 => ?_⟩
    rw [State.regWrite_fab (o := 0x0C) rfl h rfl (by decide) fieldsAt_fabIntStatus, State.respond_rd,
      State.writeFields_intStatus rfl (by decide), State.afterIntStatus_rd]
    exact State.fabIntStatus_cleared hb b hb3
  case reserved =>
    intro a r v s h hal h0 hsel hm hf hv
    refine ⟨_, exec_registerWrite a r v, ?_⟩
    rw [State.regWrite_ok h, State.writeAct_reserved hal h0 hsel hm hf]
    refine ⟨?_, fun f c hc => ?_⟩
    · rw [State.refuseAccess_rd_apart (by simp [Fld.apart, intBit, errCode])]
      exact State.err_code hv _ _ _
    · rw [State.refuseAccess_rd hc, State.errReg_rd _ _ _ _ _ hc]
  case select =>
    intro a r v s h hc hlt
    refine ⟨_, exec_selectWrite a r v, ?_⟩
    rw [State.regWrite_ok (r := ⟨r.page, r.node, 0x14⟩) h]
    rw [show ((0x14 : Fin 4096).val) = 0x14 from rfl, State.writeAct_select hc, State.writeSelect_below hlt]
    exact ⟨SMap.get_set_self _ _ _ _, fun k hk => SMap.get_set_other hk, rfl, rfl⟩

end Sys2Proof.Machine

/-! Values wider than a register: staging, applying and capturing 128-bit values, the pairs, and the RC fields (R9, R12, R15,
R107). -/

namespace Sys2Proof.Machine
open Sys2Proof

variable {s : State}

/-! ## 128-bit values (R15) -/

/-- The four words of a value made of four words. -/
theorem wordOf_ofWords (a b c d : Nat) : wordOf (ofWords a b c d) 0 = a % 2 ^ 32 ∧ wordOf (ofWords a b c d) 1 = b % 2 ^ 32 ∧
    wordOf (ofWords a b c d) 2 = c % 2 ^ 32 ∧ wordOf (ofWords a b c d) 3 = d % 2 ^ 32 := by
  simp only [wordOf, bitsOf, ofWords, BitVec.toNat_ofNat]
  omega

theorem State.staged_setStaged (a : Accessor) (p : Page) (ch b : Nat) (g : Staged) :
    (s.setStaged a p ch b g).staged a p ch b = g := SMap.get_set_self _ _ _ _

theorem State.respond_staged (c : Accessor) (v : Nat) (a : Accessor) (p : Page) (ch b : Nat) :
    (s.respond c true v).staged a p ch b = s.staged a p ch b := rfl

theorem State.capture_self (a : Accessor) (p : Page) (ch b : Nat) (v : Option W128) :
    SMap.get none (s.capture a p ch b v).captures (stageKey a p ch b) = v := SMap.get_set_self _ _ _ _

theorem State.capturedHi_captureHi (a : Accessor) (p : Page) (ch b v : Nat) :
    (s.captureHi a p ch b v).capturedHi a p ch b = some v :=
  SMap.get_set_self none s.hiCaptures _ (some v)

/-- A low or middle word of a writable value outside the ACQ_ page is staged. -/
theorem State.writeWide_stage {p : Page} {off b : Nat} (hw : wideWritable p b = true) (ha : p ≠ .acq) (hb : off ≠ b + 12)
    (a : Accessor) (ch : Nat) (v : W32) : s.writeWide a p ch off b v = s.stageWord a p ch b ((off - b) / 4) v := by
  simp only [State.writeWide, hw, ha, ne_eq, hb, not_false_eq_true, Bool.not_true, Bool.false_eq_true, false_and, if_false,
    if_true]

theorem State.stageWord_regs (a : Accessor) (p : Page) (ch b k : Nat) (v : W32) :
    (s.stageWord a p ch b k v).regs = s.regs := rfl

/-- A staged word stands in its place of the staging. -/
theorem State.stageWord_staged (a : Accessor) (p : Page) (ch b : Nat) (v : W32) :
    ((s.stageWord a p ch b 0 v).staged a p ch b).w0 = some v ∧ ((s.stageWord a p ch b 1 v).staged a p ch b).w1 = some v ∧
      ((s.stageWord a p ch b 2 v).staged a p ch b).w2 = some v := by
  simp only [State.stageWord, State.respond_staged, State.staged_setStaged, and_self]

/-- A value whose three lower words are staged is applied as those and the high word. -/
theorem Staged.apply_full (x0 x1 x2 : W32) (cur : W128) (hi : W32) :
    (⟨some x0, some x1, some x2⟩ : Staged).apply cur hi = ofWords x0.toNat x1.toNat x2.toNat hi.toNat := rfl

/-- The four registers of `LOG_USER` take a value whole. -/
theorem State.applyWide_logUser (a : Accessor) (w : W128) : s.applyWide a .log 0 0x60 w =
    s.wr128 R.LOG_USER.DATA0 R.LOG_USER.DATA1 R.LOG_USER.DATA2 R.LOG_USER.DATA3 0 w := by
  have hword : ∀ k, bitsOf (wordOf w k) 0 32 = wordOf w k := fun k => by
    simp only [wordOf, bitsOf, Nat.pow_zero, Nat.div_one, Nat.mod_mod]
  have hf : (fieldsAt .log 0x60).getD [] = [R.LOG_USER.DATA0] ∧ (fieldsAt .log 0x64).getD [] = [R.LOG_USER.DATA1] ∧
      (fieldsAt .log 0x68).getD [] = [R.LOG_USER.DATA2] ∧ (fieldsAt .log 0x6C).getD [] = [R.LOG_USER.DATA3] := by decide
  obtain ⟨h0, h1, h2, h3⟩ := hf
  have one : ∀ (t : State) (off : Nat) (f : Fld) (k : Nat), off ≠ 0x0C → off ≠ 0x10 → off ≠ 0x18 → f.acc = .rw → f.lo = 0 →
      f.width = 32 → t.writeFields a .log 0 off (wordOf w k) [f] = t.wr f 0 (wordOf w k) := by
    intro t off f k hi he hc hacc hlo hwid
    rw [State.writeFields_plain rfl hi he hc, List.foldl_cons, State.writeField_rw hacc, hlo, hwid, hword]
    rfl
  simp only [State.applyWide, State.wideChangesLocked, State.lockedReg, Bool.false_and, Bool.false_eq_true, if_false,
    List.range, List.range.loop, List.foldl, Nat.mul_zero, Nat.add_zero, Nat.reduceMul, Nat.reduceAdd, h0, h1, h2, h3]
  rw [one _ _ R.LOG_USER.DATA0 0 (by decide) (by decide) (by decide) rfl rfl rfl,
    one _ _ R.LOG_USER.DATA1 1 (by decide) (by decide) (by decide) rfl rfl rfl,
    one _ _ R.LOG_USER.DATA2 2 (by decide) (by decide) (by decide) rfl rfl rfl,
    one _ _ R.LOG_USER.DATA3 3 (by decide) (by decide) (by decide) rfl rfl rfl]
  rfl

/-- After a value is written to four 32-bit registers at different places, each reads its word. -/
theorem State.wr128_rd {f0 f1 f2 f3 : Fld} (h01 : f1.apart f0 = true) (h02 : f2.apart f0 = true) (h03 : f3.apart f0 = true)
    (h12 : f2.apart f1 = true) (h13 : f3.apart f1 = true) (h23 : f3.apart f2 = true) (c : Nat) (w : W128) :
    (s.wr128 f0 f1 f2 f3 c w).rd f0 c = wordOf w 0 % 2 ^ f0.width ∧
      (s.wr128 f0 f1 f2 f3 c w).rd f1 c = wordOf w 1 % 2 ^ f1.width ∧
      (s.wr128 f0 f1 f2 f3 c w).rd f2 c = wordOf w 2 % 2 ^ f2.width ∧
      (s.wr128 f0 f1 f2 f3 c w).rd f3 c = wordOf w 3 % 2 ^ f3.width := by
  unfold State.wr128
  refine ⟨?_, ?_, ?_, State.rd_wr_self _ _ _⟩
  · rw [State.rd_wr_apart h03, State.rd_wr_apart h02, State.rd_wr_apart h01, State.rd_wr_self]
  · rw [State.rd_wr_apart h13, State.rd_wr_apart h12, State.rd_wr_self]
  · rw [State.rd_wr_apart h23, State.rd_wr_self]

/-- The high word of `LOG_USER` applies the staged value and empties the staging. -/
theorem State.writeWide_logUser (a : Accessor) (v : W32) : s.writeWide a .log 0 0x6C 0x60 v = s.writeHigh a .log 0 0x60 v := rfl

/-- Clearing the RC fields of a register leaves the captures as they were. -/
theorem State.clearFields_keeps_access (fs : List Fld) (ch : Nat) : (s.clearFields fs ch).captures = s.captures ∧
    (s.clearFields fs ch).outbox = s.outbox := by
  unfold State.clearFields
  induction fs generalizing s with
  | nil => exact ⟨rfl, rfl⟩
  | cons f r ih =>
    rw [List.foldl_cons]
    by_cases h : f.acc = .rc
    · rw [if_pos h]
      exact ih
    · rw [if_neg h]
      exact ih

/-- The low word of a value outside the DBG_ page answers with the value's low word and captures the whole (R15). -/
theorem State.readWide_low {p : Page} {b : Nat} (hp : p ≠ .dbg) (a : Accessor) (ch : Nat) :
    SMap.get none (s.readWide a p ch b b).captures (stageKey a p ch b) = some (s.wideValue p ch b) ∧
      (s.readWide a p ch b b).outbox = s.outbox ++ [.regResp a 0 (BitVec.ofNat 32 (wordOf (s.wideValue p ch b) 0))] := by
  have e : s.readWide a p ch b b =
      (s.capture a p ch b (some (s.wideValue p ch b))).readLow a p ch b (s.wideValue p ch b) := by
    simp only [State.readWide, hp, false_and, if_false, if_true]
  rw [e, State.readLow]
  obtain ⟨hcap, hout⟩ := State.clearFields_keeps_access
    (s := s.capture a p ch b (some (s.wideValue p ch b))) ((fieldsAt p b).getD []) ch
  rw [State.respond_captures, State.respond_outbox]
  refine ⟨?_, ?_⟩
  · split
    · exact State.capture_self ..
    · rw [hcap]
      exact State.capture_self ..
  · split
    · rfl
    · rw [hout]
      rfl

/-- The low word of a pair answers with the register's value and captures its high word (R107). -/
theorem State.readPair_low (a : Accessor) (p : Page) (ch b : Nat) :
    (s.readPair a p ch b b).capturedHi a p ch b = some (s.shows p ch (b + 4)) ∧
      (s.readPair a p ch b b).outbox = s.outbox ++ [.regResp a 0 (BitVec.ofNat 32 (s.shows p ch b))] ∧
      (s.readPair a p ch b b).regs = s.regs := by
  simp only [State.readPair, if_true]
  exact ⟨State.capturedHi_captureHi .., rfl, rfl⟩

/-! ## The reading commands -/

theorem exec_wideWordStage (a : Accessor) (r : RegAddr) (v : W32) :
    exec (.wideWordStage a r v) s = .next (s.regWrite a r v) := rfl

theorem exec_wideWordApply (a : Accessor) (r : RegAddr) (v : W32) :
    exec (.wideWordApply a r v) s = .next (s.regWrite a r v) := rfl

theorem exec_wideWordCapture (a : Accessor) (r : RegAddr) : exec (.wideWordCapture a r) s = .next (s.regRead a r) := rfl

theorem exec_pairLoRead (a : Accessor) (r : RegAddr) : exec (.pairLoRead a r) s = .next (s.regRead a r) := rfl

theorem exec_clearingRead (a : Accessor) (r : RegAddr) : exec (.clearingRead a r) s = .next (s.regRead a r) := rfl

/-- A read of the counter of corrected step-store words answers its value, and clears it unless the read is quiet. -/
theorem State.regRead_ssCeCount {a : Accessor} {n : Fin 64} (h : s.accessCode a .res 0 0x54 false = 0) :
    s.regRead a ⟨.res, n, 0x54⟩ = (if s.quiet a then s else s.wr R.RES_SS_CE_COUNT.COUNT 0 0).respond a true
      (s.rd R.RES_SS_CE_COUNT.COUNT 0) := by
  have hc : s.channel a ⟨.res, n, 0x54⟩ = 0 := State.channel_single (by decide) rfl n _
  have hf : fieldsAt .res 0x54 = some [R.RES_SS_CE_COUNT.COUNT] := by decide
  have hv : s.shows .res 0 0x54 = s.rd R.RES_SS_CE_COUNT.COUNT 0 := by
    simp [State.shows, State.view, hf, State.readFields, R.RES_SS_CE_COUNT.COUNT]
  rw [State.regRead_ok (by rw [hc]; exact h), hc]
  refine (State.readAct_named (off := 0x54) rfl (by decide) (by decide) rfl (by rw [hf]; rfl) rfl rfl a 0).trans ?_
  show s.readAny a .res 0 0x54 = _
  rw [State.readAny, hv, hf]
  rfl

/-- Settles O7: a value goes through the staging to its registers whole, a low word's read captures the rest, and an RC
field is cleared by every read that is not quiet. -/
theorem wideValuesMoveWhole : Obligations.WideValuesMoveWhole := by
  unfold Obligations.WideValuesMoveWhole
  refine ⟨?stage, ?apply, ?capture, ?pair, ?clearing, ?quiet⟩
  case stage =>
    intro a r v b s h hal hb hw ha hf hhi
    refine ⟨_, exec_wideWordStage a r v, ?_⟩
    rw [State.regWrite_ok h, State.writeAct_wide hal hb hf, State.writeWide_stage hw ha hhi]
    refine ⟨?_, State.stageWord_regs ..⟩
    obtain ⟨h0, h1, h2⟩ := State.stageWord_staged (s := s) a r.page (homeChannel a r.page (s.channel a r) r.off.val) b v
    refine ⟨fun e => ?_, fun e => ?_, fun e => ?_⟩
    · rwa [show (r.off.val - b) / 4 = 0 by omega]
    · rwa [show (r.off.val - b) / 4 = 1 by omega]
    · rwa [show (r.off.val - b) / 4 = 2 by omega]
  case apply =>
    intro a n v x0 x1 x2 s h hst
    refine ⟨_, exec_wideWordApply a _ v, ?_⟩
    have hc : s.channel a ⟨.log, n, 0x6C⟩ = 0 := State.channel_single (by decide) rfl n _
    have hact : s.regWrite a ⟨.log, n, 0x6C⟩ v = s.writeHigh a .log 0 0x60 v := by
      rw [State.regWrite_ok (by rw [hc]; exact h), hc]
      exact (State.writeAct_wide (p := .log) (off := 0x6C) rfl rfl (by decide) a 0 v).trans (State.writeWide_logUser a v)
    rw [hact, State.writeHigh, hst, Staged.apply_full, State.applyWide_logUser]
    obtain ⟨w0, w1, w2, w3⟩ := wordOf_ofWords x0.toNat x1.toNat x2.toNat v.toNat
    obtain ⟨r0, r1, r2, r3⟩ := State.wr128_rd (s := s) (f0 := R.LOG_USER.DATA0) (f1 := R.LOG_USER.DATA1)
      (f2 := R.LOG_USER.DATA2) (f3 := R.LOG_USER.DATA3) (by decide) (by decide) (by decide) (by decide) (by decide) (by decide)
      0 (ofWords x0.toNat x1.toNat x2.toNat v.toNat)
    have small : ∀ x : W32, x.toNat % 2 ^ 32 % 2 ^ 32 = x.toNat := fun x => by
      rw [Nat.mod_mod, Nat.mod_eq_of_lt x.isLt]
    refine ⟨r0.trans ?_, r1.trans ?_, r2.trans ?_, r3.trans ?_, ?_⟩
    · rw [w0]; exact small x0
    · rw [w1]; exact small x1
    · rw [w2]; exact small x2
    · rw [w3]; exact small v
    · rw [State.respond_staged, State.staged_setStaged]
  case capture =>
    intro a r s h hal hb hp hf
    refine ⟨_, exec_wideWordCapture a r, ?_⟩
    have ha : r.page ≠ .acq := by rintro e; simp [e] at hp
    have hd : r.page ≠ .dbg := by rintro e; simp [e] at hp
    have hch : homeChannel a r.page (s.channel a r) r.off.val = s.channel a r := by
      rcases hp with e | e | e <;> rw [e] <;> rfl
    rw [State.regRead_ok h, State.readAct_wide hal hb ha hf, hch]
    exact State.readWide_low hd a _
  case pair =>
    intro a r s h hal hb hw hf
    refine ⟨_, exec_pairLoRead a r, ?_⟩
    rw [State.regRead_ok h, State.readAct_pair hal hw hb hf]
    exact State.readPair_low a r.page _ r.off.val
  case clearing =>
    intro a n s h hq
    refine ⟨_, exec_clearingRead a _, ?_⟩
    rw [State.regRead_ssCeCount h, hq]
    exact ⟨State.rd_wr_self R.RES_SS_CE_COUNT.COUNT 0 0, rfl⟩
  case quiet =>
    intro a n s h hq
    refine ⟨_, exec_clearingRead a _, ?_⟩
    rw [State.regRead_ssCeCount h, hq]
    exact ⟨rfl, rfl⟩

end Sys2Proof.Machine

/-! Stamps and the readout window: which operations only add to the outputs, the time-to-digital converters (R428, R429), and
the window on the acquisition buffer (R420). -/

namespace Sys2Proof.Machine
open Sys2Proof

variable {s : State}

/-! ## What only adds to the outputs: the outputs that were sent stay in front -/

section Sends
variable {l : List Output}

theorem State.emit_sends (h : l <+: s.outbox) (o : Output) : l <+: (s.emit o).outbox :=
  h.trans (List.prefix_append _ _)

theorem State.sendVector_sends (h : l <+: s.outbox) (v : Nat) : l <+: (s.sendVector v).outbox := by
  unfold State.sendVector
  split
  · exact State.emit_sends h _
  · exact h

theorem State.irqEvent_sends (h : l <+: s.outbox) (n : Nat) : l <+: (s.irqEvent n).outbox := by
  unfold State.irqEvent
  split
  · exact h
  · split
    · exact h
    · split
      · exact h
      · exact State.sendVector_sends (by exact h) _
  · exact h

theorem State.raise_sends (h : l <+: s.outbox) (p : Page) (ch b : Nat) : l <+: (s.raise p ch b).outbox := by
  unfold State.raise
  extract_lets s1
  split
  · split
    · exact State.irqEvent_sends (by exact h) _
    · exact h
  · exact h

theorem State.logEvent_sends (h : l <+: s.outbox) (source inst cls kind d1 d2 : Nat) :
    l <+: (s.logEvent source inst cls kind d1 d2).outbox := by
  unfold State.logEvent State.logQueue
  split
  · exact State.raise_sends (by exact h) _ _ _
  · exact h

theorem State.err_sends (h : l <+: s.outbox) (p : Page) (ch code node addr : Nat) :
    l <+: (s.err p ch code node addr).outbox := by
  rwa [State.err_outbox]

theorem State.quayAnswer_sends (h : l <+: s.outbox) (node dst tag status : Nat) (data : List W128) :
    l <+: (s.quayAnswer node dst tag status data).outbox := by
  unfold State.quayAnswer
  split
  · exact h
  · exact State.emit_sends h _

/-! ### The banks -/

theorem State.bankCorrected_sends (h : l <+: s.outbox) (b w : Nat) : l <+: (s.bankCorrected b w).outbox :=
  State.logEvent_sends (State.raise_sends (State.raise_sends (by exact h) _ _ _) _ _ _) _ _ _ _ _ _

theorem State.readBank_sends (h : l <+: s.outbox) (b w node : Nat) : l <+: (s.readBank b w node).2.outbox := by
  unfold State.readBank
  split
  split
  · exact h
  · extract_lets s1
    have h1 : l <+: s1.outbox := by
      unfold s1
      split
      · exact State.bankCorrected_sends h b w
      · exact h
    split
    · dsimp only
      split
      · exact h1
      · exact h1
    · exact State.logEvent_sends (State.err_sends (State.raise_sends (by exact h1) _ _ _) _ _ _ _ _) _ _ _ _ _ _

theorem State.loseProtection_sends (h : l <+: s.outbox) (p cause : Nat) : l <+: (s.loseProtection p cause).outbox := by
  unfold State.loseProtection
  split
  · exact h
  · exact State.logEvent_sends (State.raise_sends (by exact h) _ _ _) _ _ _ _ _ _

theorem State.journalFull_sends (h : l <+: s.outbox) (b : Nat) : l <+: (s.journalFull b).outbox := by
  unfold State.journalFull
  split
  · exact h
  · extract_lets s1
    have h1 : l <+: s1.outbox := State.raise_sends (by exact h) _ _ _
    split
    · exact State.loseProtection_sends h1 _ _
    · exact h1

theorem State.journal_sends (h : l <+: s.outbox) (b w : Nat) (exempt : Bool) : l <+: (s.journal b w exempt).outbox := by
  unfold State.journal
  split
  · exact h
  · split
    · exact State.journalFull_sends h b
    · exact h

theorem State.setBankWord_outbox (b w : Nat) (v : W128) (e : Nat) : (s.setBankWord b w v e).outbox = s.outbox := by
  unfold State.setBankWord
  extract_lets s1
  have h1 : s1.outbox = s.outbox := by
    unfold s1
    split <;> rfl
  split
  · exact h1
  · exact h1

theorem State.writeBank_sends (h : l <+: s.outbox) (b w : Nat) (v : W128) (exempt : Bool) :
    l <+: (s.writeBank b w v exempt).outbox := by
  unfold State.writeBank
  rw [State.setBankWord_outbox]
  exact State.journal_sends h b w exempt

theorem State.refuseOwner_sends (h : l <+: s.outbox) (b : Nat) (r : Requester) (addr : Nat) :
    l <+: (s.refuseOwner b r addr).outbox :=
  State.raise_sends (State.err_sends (by exact h) _ _ _ _ _) _ _ _

theorem State.refuseLate_sends (h : l <+: s.outbox) (b : Nat) (r : Requester) (addr : Nat) :
    l <+: (s.refuseLate b r addr).outbox :=
  State.raise_sends (State.err_sends (by exact h) _ _ _ _ _) _ _ _

theorem State.bankRefuse_sends (h : l <+: s.outbox) (a : BankAcc) (status : Nat) : l <+: (s.bankRefuse a status).outbox :=
  State.quayAnswer_sends h _ _ _ _ _

theorem State.bankAccept_sends (h : l <+: s.outbox) (b : Nat) (a : BankAcc) : l <+: (s.bankAccept b a).outbox := by
  unfold State.bankAccept
  split
  · exact State.bankRefuse_sends (State.refuseOwner_sends h _ _ _) _ _
  · exact State.bankRefuse_sends (State.refuseLate_sends h _ _ _) _ _
  · exact h

theorem State.accessDone_sends (h : l <+: s.outbox) (b : Nat) (a : BankAcc) (st : Nat) (d : List W128) :
    l <+: (s.accessDone b a st d).outbox := by
  unfold State.accessDone
  extract_lets bad next
  split
  · exact State.quayAnswer_sends h _ _ _ _ _
  · split
    · exact h
    · split
      · exact State.bankRefuse_sends h _ _
      · unfold State.bankFlow
        split
        · exact State.bankAccept_sends h _ _
        · exact h

theorem State.clearBankResv_outbox (b w : Nat) : (s.clearBankResv b w).outbox = s.outbox := rfl

theorem State.bankPerform_sends (h : l <+: s.outbox) (b : Nat) (a : BankAcc) : l <+: (s.bankPerform b a).outbox := by
  have hread := State.readBank_sends h b a.word a.who.errNode
  unfold State.bankPerform
  extract_lets done st s1
  have hdone : ∀ (t : State) (st : Nat) (d : List W128), l <+: t.outbox → l <+: (done t st d).outbox :=
    fun t st d ht => State.accessDone_sends ht b a st d
  split
  · split
    · rename_i heq
      rw [heq] at hread
      refine hdone _ _ _ ?_
      split
      · exact hread
      · exact hread
    · rename_i heq
      rw [heq] at hread
      exact hdone _ _ _ hread
  · split
    · exact hdone _ _ _ (State.refuseOwner_sends h _ _ _)
    · split
      · exact hdone _ _ _ h
      · split
        · split
          · rename_i heq
            rw [heq] at hread
            exact hdone _ _ _ (State.writeBank_sends hread _ _ _ _)
          · rename_i heq
            rw [heq] at hread
            exact hdone _ _ _ hread
        · have h1 : l <+: s1.outbox := State.writeBank_sends h _ _ _ _
          refine hdone _ _ _ ?_
          rw [State.clearBankResv_outbox]
          split
          · rwa [State.setBankWord_outbox]
          · exact h1

theorem State.settleOne_sends (h : l <+: s.outbox) (b : Nat) : l <+: (s.settleOne b).outbox := by
  unfold State.settleOne
  split
  · exact State.bankPerform_sends (by exact h) _ _
  · exact h

theorem State.settleOld_sends (h : l <+: s.outbox) (b : Nat) : l <+: (s.settleOld b).outbox := by
  unfold State.settleOld
  exact List.foldlRecOn (motive := fun t : State => l <+: t.outbox) _ _ h (fun _ ht _ _ => State.settleOne_sends ht b)

theorem State.directAccess_sends (h : l <+: s.outbox) (b w : Nat) (r : Requester) (write : Bool) :
    l <+: (s.directAccess b w r write).2.outbox := by
  unfold State.directAccess
  split
  · exact State.refuseOwner_sends h _ _ _
  · exact State.refuseLate_sends h _ _ _
  · extract_lets s1
    have h1 : l <+: s1.outbox := by
      unfold s1
      split
      · exact State.settleOld_sends h b
      · exact h
    split
    · exact State.refuseOwner_sends h1 _ _ _
    · exact h1

/-- Reading the word of the readout window only adds to the outputs (R142, R420). -/
theorem State.windowWord_sends (h : l <+: s.outbox) (u : Nat) : l <+: (s.windowWord u).2.outbox := by
  unfold State.windowWord
  split
  next b i _ =>
    have hd := State.directAccess_sends h b i ⟨3, u, 28 + u, false⟩ false
    split
    next s1 heq =>
      rw [heq] at hd
      exact State.readBank_sends hd b i (28 + u)
    next s1 heq =>
      rw [heq] at hd
      exact hd

end Sends

/-! ## Upsets -/

/-- Upsets touch the check state of stored words and the canaries alone. -/
theorem State.upset_frame (us : List Upset) : (s.upset us).outbox = s.outbox ∧ (s.upset us).regs = s.regs ∧
    (s.upset us).captures = s.captures := by
  have one : ∀ (t : State) (i : Nat), (t.upsetCanary i).outbox = t.outbox ∧ (t.upsetCanary i).regs = t.regs ∧
      (t.upsetCanary i).captures = t.captures := by
    intro t i
    unfold State.upsetCanary
    split <;> exact ⟨rfl, rfl, rfl⟩
  unfold State.upset
  induction us generalizing s with
  | nil => exact ⟨rfl, rfl, rfl⟩
  | cons x r ih =>
    rw [List.foldl_cons]
    split
    · obtain ⟨ho, hr, hc⟩ := ih (s := s.upsetCanary x.idx)
      obtain ⟨ho1, hr1, hc1⟩ := one s x.idx
      exact ⟨ho.trans ho1, hr.trans hr1, hc.trans hc1⟩
    · exact ih

/-! ## Time-to-digital converters (R428, R429) -/

theorem exec_tdcEdge (r : Fin 32) (rising : Bool) (sub : Fin 128) :
    exec (.tdcEdge r rising sub) s = .next (doTdcEdge r.val rising sub.val s) := rfl

theorem exec_tdcStampAvailable (r : Fin 32) : exec (.tdcStampAvailable r) s = .next (doTdcStampAvailable r.val s) := rfl

/-- A converter takes a selected edge before which it has stamped none: the edge's time, less SKEW, waits as its stamp. -/
theorem doTdcEdge_first {r : Nat} {rising : Bool} {sub : Nat} (hs : s.tdcSees r = true)
    (hb : bitOf (s.rd (R.ACQ_TDC_CTRL.EDGES r) 0) (if rising then 0 else 1) = 1) (hn : (s.tdc r).lastEdge = none) :
    doTdcEdge r rising sub s = ({ s with tdcs := (SMap.set {} s.tdcs r
      ⟨some (s.now / 65536 * 128 + sub), (s.tdc r).waiting ++ [((((s.now / 65536 * 128 + sub : Nat) : Int) -
        skewOf (s.rd (R.ACQ_TDC_CTRL.SKEW r) 0)).toNat, rising)]⟩) } : State) := by
  simp [doTdcEdge, hs, hb, hn]

/-- A selected edge less than 2 ns after a stamped one sets OVERRUN and is not stamped. -/
theorem doTdcEdge_near {r e : Nat} {rising : Bool} {sub : Nat} (hs : s.tdcSees r = true)
    (hb : bitOf (s.rd (R.ACQ_TDC_CTRL.EDGES r) 0) (if rising then 0 else 1) = 1) (hl : (s.tdc r).lastEdge = some e)
    (h1 : e ≤ s.now / 65536 * 128 + sub) (h2 : s.now / 65536 * 128 + sub < e + 256) :
    doTdcEdge r rising sub s = s.wr (R.ACQ_TDC_LAST.OVERRUN r) 0 1 := by
  simp [doTdcEdge, hs, hb, hl, h1, h2]

/-- A stamp becomes a pin event of unit u where the unit names the converter (R429). -/
def State.givePin (r t : Nat) (s : State) (u : Nat) : State :=
  if s.rd R.ACQ_CTRL.PIN u = r then s.modAcq u (fun x => { x with pins := x.pins ++ [t] }) else s

theorem State.givePin_frame (r t u : Nat) : (s.givePin r t u).regs = s.regs ∧ (s.givePin r t u).tdcs = s.tdcs := by
  unfold State.givePin
  split <;> exact ⟨rfl, rfl⟩

theorem State.givePin_acq_ne {r t u v : Nat} (h : v ≠ u) : (s.givePin r t u).acq v = s.acq v := by
  unfold State.givePin
  split
  · exact State.acq_modAcq_ne h _
  · rfl

theorem State.givePin_acq_self {r t u : Nat} (h : s.rd R.ACQ_CTRL.PIN u = r) :
    ((s.givePin r t u).acq u).pins = (s.acq u).pins ++ [t] := by
  rw [State.givePin, if_pos h, State.acq_modAcq]

theorem State.givePins_frame (r t : Nat) (l : List Nat) :
    (l.foldl (State.givePin r t) s).regs = s.regs ∧ (l.foldl (State.givePin r t) s).tdcs = s.tdcs := by
  induction l generalizing s with
  | nil => exact ⟨rfl, rfl⟩
  | cons u l ih =>
    obtain ⟨hr, ht⟩ := ih (s := s.givePin r t u)
    obtain ⟨hr1, ht1⟩ := State.givePin_frame (s := s) r t u
    exact ⟨hr.trans hr1, ht.trans ht1⟩

theorem State.givePins_acq_notMem {r t v : Nat} {l : List Nat} (h : v ∉ l) :
    (l.foldl (State.givePin r t) s).acq v = s.acq v := by
  induction l generalizing s with
  | nil => rfl
  | cons u l ih =>
    exact (ih (List.not_mem_of_not_mem_cons h)).trans (State.givePin_acq_ne (List.ne_of_not_mem_cons h))

/-- Each unit of the list that names the converter gets the stamp once. -/
theorem State.givePins_acq {r t v : Nat} {l : List Nat} (hd : l.Nodup) (hv : v ∈ l) (hp : s.rd R.ACQ_CTRL.PIN v = r) :
    ((l.foldl (State.givePin r t) s).acq v).pins = (s.acq v).pins ++ [t] := by
  induction l generalizing s with
  | nil => exact absurd hv List.not_mem_nil
  | cons u l ih =>
    obtain ⟨hu, hl⟩ := List.nodup_cons.mp hd
    rw [List.foldl_cons]
    by_cases e : v = u
    · subst e
      rw [State.givePins_acq_notMem hu]
      exact State.givePin_acq_self hp
    · have hregs := (State.givePin_frame (s := s) r t u).1
      rw [ih hl (List.mem_of_ne_of_mem e hv) (by rw [State.rd, hregs]; exact hp), State.givePin_acq_ne e]

/-- What `ACQ_TDCr_LAST` shows of a stamp. -/
def State.showStamp (s : State) (r st : Nat) (rising : Bool) : State :=
  let s2 := ((s.wr (R.ACQ_TDC_LAST.FRAC r) 0 (st * 512 % 65536)).wr (R.ACQ_TDC_LAST.RISING r) 0 (b2n rising)).wr
    (R.ACQ_TDC_LAST.VALID r) 0 1
  ((s2.wr (R.ACQ_TDC_LAST.NS r) 0 (st / 128 % 1000000000)).wr (R.ACQ_TDC_LAST.SEC_LO r) 0 (st / 128 / 1000000000)).wr
    (R.ACQ_TDC_LAST.SEC_HI r) 0 (st / 128 / 1000000000 / 2 ^ 32)

/-- The oldest stamp leaves the queue, is shown, and goes to the units. -/
theorem doTdcStampAvailable_cons {r st : Nat} {rising : Bool} {rest : List (Nat × Bool)}
    (h : (s.tdc r).waiting = (st, rising) :: rest) :
    doTdcStampAvailable r s = (List.range 4).foldl (State.givePin r (st * 512))
      (({ s with tdcs := SMap.set {} s.tdcs r { s.tdc r with waiting := rest } } : State).showStamp r st rising) := by
  unfold doTdcStampAvailable
  rw [h]
  rfl

theorem Fld.apart_of {f g : Fld} (h : f.off % 4096 ≠ g.off % 4096 ∨ f.lo % 32 ≠ g.lo % 32) : f.apart g = true := by
  rcases h with h | h <;> simp [Fld.apart, h]

/-- The parts of a shown stamp (R431). -/
theorem State.showStamp_rd {r : Nat} (_ : r < 32) (st : Nat) (rising : Bool) :
    (s.showStamp r st rising).rd (R.ACQ_TDC_LAST.VALID r) 0 = 1 ∧
      (s.showStamp r st rising).rd (R.ACQ_TDC_LAST.RISING r) 0 = b2n rising ∧
      (s.showStamp r st rising).rd (R.ACQ_TDC_LAST.NS r) 0 = st / 128 % 1000000000 ∧
      (s.showStamp r st rising).rd (R.ACQ_TDC_LAST.FRAC r) 0 = st * 512 % 65536 := by
  have later : ∀ {f g : Fld} (k : Nat), g.off = 0x410 + 0x20 * r → f.off = 0x414 + 4 * k + 0x20 * r → k < 3 →
      f.apart g = true := fun k hg hf hk => Fld.apart_of (.inl (by omega))
  have ns : ∀ {f : Fld} (k : Nat), f.off = 0x418 + 4 * k + 0x20 * r → k < 2 →
      f.apart (R.ACQ_TDC_LAST.NS r) = true := fun k hf hk => Fld.apart_of (.inl (by simp only [R.ACQ_TDC_LAST.NS]; omega))
  have inLast : ∀ {g : Fld}, g.off = 0x410 + 0x20 * r → ∀ t : State,
      (((t.wr (R.ACQ_TDC_LAST.NS r) 0 (st / 128 % 1000000000)).wr (R.ACQ_TDC_LAST.SEC_LO r) 0 (st / 128 / 1000000000)).wr
        (R.ACQ_TDC_LAST.SEC_HI r) 0 (st / 128 / 1000000000 / 2 ^ 32)).rd g 0 = t.rd g 0 := by
    intro g hg t
    rw [State.rd_wr_apart (later 2 hg rfl (by decide)), State.rd_wr_apart (later 1 hg rfl (by decide)),
      State.rd_wr_apart (later 0 hg rfl (by decide))]
  unfold State.showStamp
  refine ⟨?_, ?_, ?_, ?_⟩
  · rw [inLast rfl, State.rd_wr_self]
    rfl
  · rw [inLast rfl, State.rd_wr_apart (Fld.apart_of (.inr (show 17 % 32 ≠ 16 % 32 by decide))), State.rd_wr_self]
    cases rising <;> rfl
  · rw [State.rd_wr_apart (ns 1 rfl (by decide)), State.rd_wr_apart (ns 0 rfl (by decide)), State.rd_wr_self]
    simp only [R.ACQ_TDC_LAST.NS]
    omega
  · rw [inLast rfl, State.rd_wr_apart (Fld.apart_of (.inr (show 17 % 32 ≠ 0 % 32 by decide))),
      State.rd_wr_apart (Fld.apart_of (.inr (show 16 % 32 ≠ 0 % 32 by decide))), State.rd_wr_self]
    exact Nat.mod_mod _ _

/-- A shown stamp leaves the units' registers and data as they were. -/
theorem State.showStamp_pin {r : Nat} (_ : r < 32) (st : Nat) (rising : Bool) (u : Nat) :
    (s.showStamp r st rising).rd R.ACQ_CTRL.PIN u = s.rd R.ACQ_CTRL.PIN u := by
  have ap : ∀ {f : Fld} (k : Nat), f.off = 0x410 + 4 * k + 0x20 * r → k < 4 → f.apart R.ACQ_CTRL.PIN = true :=
    fun k hf hk => Fld.apart_of (.inl (by simp only [R.ACQ_CTRL.PIN]; omega))
  unfold State.showStamp
  rw [State.rd_wr_apart (ap 3 rfl (by decide)), State.rd_wr_apart (ap 2 rfl (by decide)), State.rd_wr_apart (ap 1 rfl (by decide)),
    State.rd_wr_apart (ap 0 rfl (by decide)), State.rd_wr_apart (ap 0 rfl (by decide)), State.rd_wr_apart (ap 0 rfl (by decide))]

/-! ## The readout window (R420) -/

theorem exec_rdIndexWrite {a : Accessor} {u : Fin 4} (h : s.accessCode a .acq u.val 0x2C0 true = 0) (v : W32) :
    exec (.rdIndexWrite a u v) s = .next (doRdIndexWrite a u.val v s) :=
  congrArg Host.Outcome.next (State.access_ok h _)

theorem exec_rdDataRead {a : Accessor} {u k : Fin 4} (h : s.accessCode a .acq u.val (0x2D0 + 4 * k.val) false = 0)
    (us : List Upset) : exec (.rdDataRead a u k us) s = .next (doRdDataRead a u.val k.val us s) :=
  congrArg Host.Outcome.next (State.access_ok h _)

/-- DATA0 answers with the low word of the word at the index and captures it, after whatever the bank has answered. -/
theorem doRdDataRead_low {u : Nat} {us : List Upset} {v : W128} {s1 : State}
    (h : s.rd R.ACQ_RD_INDEX.WORD u < s.acqWords u) (hw : (s.upset us).windowWord u = (some v, s1)) (a : Accessor) :
    doRdDataRead a u 0 us s = (s1.capture a .acq u 0x2D0 (some v)).respond a true (wordOf v 0) := by
  have hregs := (State.upset_frame (s := s) us).2.1
  have hlt : ¬ (s.upset us).acqWords u ≤ (s.upset us).rd R.ACQ_RD_INDEX.WORD u := by
    simp only [State.acqWords, State.geometryOk, State.acqBanks, State.rd, hregs] at h ⊢
    exact Nat.not_le.mpr h
  simp only [doRdDataRead, if_true, if_neg hlt, hw]

/-- DATA1 to DATA3 answer with the word that was captured. -/
theorem doRdDataRead_upper {a : Accessor} {u k : Nat} {v : W128} (hk : k ≠ 0)
    (hc : SMap.get none s.captures (stageKey a .acq u 0x2D0) = some v) (us : List Upset) :
    doRdDataRead a u k us s = (s.upset us).respond a true (wordOf v k) := by
  have hcap := (State.upset_frame (s := s) us).2.2
  simp only [doRdDataRead, if_neg hk, hcap, hc]

/-- Settles O44: an edge is stamped or sets OVERRUN, the oldest stamp is shown and goes to its units, and the window's
index and data follow the buffer's size and the captures. -/
theorem stampsAndReadout : Obligations.StampsAndReadout := by
  unfold Obligations.StampsAndReadout
  refine ⟨?edge, ?stamp, ?index, ?data⟩
  case edge =>
    intro r rising sub s hs hb
    refine ⟨fun hn => ⟨_, exec_tdcEdge r rising sub, ?_⟩, fun e hl h1 h2 => ⟨_, exec_tdcEdge r rising sub, ?_⟩⟩
    · rw [doTdcEdge_first hs hb hn]
      simp only [State.tdc, SMap.get_set_self, and_self]
    · rw [doTdcEdge_near hs hb hl h1 h2]
      exact ⟨State.rd_wr_self _ _ _, rfl⟩
  case stamp =>
    intro r st rising rest s h
    refine ⟨_, exec_tdcStampAvailable r, ?_⟩
    rw [doTdcStampAvailable_cons h]
    generalize hs1 : ({ s with tdcs := SMap.set {} s.tdcs r.val { s.tdc r.val with waiting := rest } } : State) = s1
    obtain ⟨hregs, htdcs⟩ := State.givePins_frame (s := s1.showStamp r.val st rising) r.val (st * 512) (List.range 4)
    obtain ⟨hv, hr, hn, hf⟩ := State.showStamp_rd (s := s1) r.isLt st rising
    simp only [State.rd, State.tdc, hregs, htdcs]
    refine ⟨?_, hv, hr, hn, hf, fun u hu hp => ?_⟩
    · subst hs1
      exact congrArg Tdc.waiting (SMap.get_set_self _ _ _ _)
    · rw [State.givePins_acq List.nodup_range (List.mem_range.mpr hu) (by
        rw [State.showStamp_pin r.isLt, ← hs1]
        exact hp)]
      subst hs1
      rfl
  case index =>
    intro a u v s h
    refine ⟨fun hlt => ⟨_, exec_rdIndexWrite h v, ?_⟩, fun hle => ⟨_, exec_rdIndexWrite h v, ?_⟩⟩
    · rw [doRdIndexWrite, if_neg (Nat.not_le.mpr hlt)]
      exact ⟨(State.rd_wr_self R.ACQ_RD_INDEX.WORD _ _).trans (Nat.mod_mod _ _), rfl⟩
    · rw [doRdIndexWrite, if_pos hle]
      exact ⟨State.errReg_rd a .acq u.val 0x2C0 4 rfl u.val, State.err_valid ..⟩
  case data =>
    intro a u k us v s h
    refine ⟨fun hk hlt s1 hw => ?_, fun hk hc => ⟨_, exec_rdDataRead h us, ?_⟩⟩
    · obtain ⟨l, hl⟩ := State.windowWord_sends (s := s.upset us) (List.prefix_refl _) u.val
      rw [hw, (State.upset_frame us).1] at hl
      refine ⟨_, l, exec_rdDataRead h us, ?_⟩
      rw [hk, doRdDataRead_low hlt hw]
      refine ⟨State.capture_self (s := s1) a .acq u.val 0x2D0 (some v), ?_⟩
      rw [hl]
      rfl
    · obtain ⟨ho, hr, _⟩ := State.upset_frame (s := s) us
      rw [doRdDataRead_upper hk hc]
      refine ⟨?_, hr⟩
      rw [State.respond_outbox, ho]

end Sys2Proof.Machine

/-! The PCIe endpoint: host accesses (R404, R450 to R452), MSI-X (R454), the link (R455) and configuration space (R449, R458);
and the state after reset (R16, R31). -/

namespace Sys2Proof.Machine
open Sys2Proof

variable {s : State}

/-! ## Host accesses (R404, R450 to R452) -/

theorem exec_hostAccess (q : HostRequest) : exec (.hostAccess q) s = .next (doHostAccess q s) := rfl

theorem doHostAccess_noLink (h : s.linkUp = false) (q : HostRequest) : doHostAccess q s = s := by
  simp [doHostAccess, h]

/-- Without Memory Space Enable a read completes with Unsupported Request and a write is dropped. -/
theorem doHostAccess_noMse (hl : s.linkUp = true) (hm : s.pcie.mse = false) (q : HostRequest) :
    doHostAccess q s = if hostReads q then s.emit (.completion 1 []) else s := by
  simp [doHostAccess, hl, hm]

/-- With nothing waiting, a request's accesses are issued. -/
theorem doHostAccess_issues (hl : s.linkUp = true) (hm : s.pcie.mse = true) (hw : s.hostWaiting = []) (q : HostRequest) :
    doHostAccess q s = s.hostIssue (s.hostWords q) := by
  simp [doHostAccess, hl, hm, hw]

/-- A word that waits for no write and finds a tag is sent. -/
theorem State.hostIssue_sends {w : HostWord} {tag : Nat} (hw : w.write = true ∨ s.hostWritesOut = false)
    (hr : w.reg = false) (ht : s.hostTag = some tag) :
    s.hostIssue [w] = ({ s.hostSend w tag with hostWaiting := [] } : State) := by
  have hgo : (!w.write && s.hostWritesOut) = false := by
    rcases hw with h | h <;> simp [h]
  simp only [State.hostIssue, hgo, hr, ht, Bool.false_eq_true, if_false]

/-- A read waits behind a write that has no response (R404). -/
theorem State.hostIssue_waits {w : HostWord} (hw : w.write = false) (ho : s.hostWritesOut = true) :
    s.hostIssue [w] = ({ s with hostWaiting := [w] } : State) := by
  simp only [State.hostIssue, hw, ho, Bool.not_false, Bool.and_self, if_true]

/-- A register access that waits for no write is performed. -/
theorem State.hostIssue_register {w : HostWord} (hw : w.write = true) (hr : w.reg = true) :
    s.hostIssue [w] = ({ s.bar0 (offsetIn 0x40000000 w.addr) w.be w.write w.data.toNat with hostWaiting := [] } : State) := by
  simp only [State.hostIssue, hw, hr, Bool.not_true, Bool.false_and, Bool.false_eq_true, if_false, if_true]

/-- A quay that is not dead sends the request and counts it. -/
theorem State.quaySend_alive {node : Nat} (h : s.quayIsDead node = false) (tag op addr be : Nat) (data : List W128) :
    s.quaySend node tag op addr be data = (s.wr R.NOC_STATUS.OUTSTANDING node
      (min 64 (s.rd R.NOC_STATUS.OUTSTANDING node + 1))).emit (.nocReq node tag op addr be data) := by
  simp only [State.quaySend, h, Bool.false_eq_true, if_false]

/-- A word with a route leaves through quay 34 and is outstanding. -/
theorem State.hostSend_routed {w : HostWord} {d : Nat} (hn : memNode w.addr = some d) (hr : s.routeOk 34 d = true)
    (hq : s.quayIsDead 34 = false) (tag : Nat) : (s.hostSend w tag).hostOut = s.hostOut ++ [(tag, w.addr, w.write)] ∧
    (s.hostSend w tag).dmem = s.dmem ∧ (s.hostSend w tag).outbox =
      s.outbox ++ [.nocReq 34 tag (b2n w.write) w.addr w.be (if w.write then [w.data] else [])] := by
  simp only [State.hostSend, hn, hr, Bool.not_true, Bool.false_eq_true, if_false]
  rw [State.quaySend_alive (by exact hq)]
  exact ⟨rfl, rfl, rfl⟩

/-- A 32-bit write through BAR0 writes the register. -/
theorem State.bar0_write_regs {off v : Nat} {p : Page} {node : Nat} (hp : pageAt off = some (p, node)) :
    (s.bar0 off 4 true v).regs = (s.regWrite .host ⟨p, ⟨node % 64, Nat.mod_lt _ (by decide)⟩,
      ⟨off % 4096, Nat.mod_lt _ (by decide)⟩⟩ (BitVec.ofNat 32 v)).regs := by
  simp only [State.bar0, hp, State.bar0Word, bar0Size, beq_self_eq_true, Bool.true_or, Bool.not_true, Bool.false_eq_true,
    if_false, if_true, State.muteFrom, Nat.reduceEqDiff]

theorem offsetIn_add (base x : Nat) : offsetIn base (base + x) = x := by
  simp [offsetIn]

/-! ## MSI-X (R454) -/

/-- A pending message of a vector is sent where nothing holds it back. -/
def State.sendOne (s : State) (v : Nat) : State :=
  if s.on R.HST_STATUS.MSIX_EN 0 && !s.msixFuncMask && !s.vectorMasked v then
    { s with msixPending := s.msixPending &&& ~~~BitVec.ofNat 64 (2 ^ v) }.emit (.msix v)
  else s

theorem State.sendPending_eq : s.sendPending = (onesOf 64 s.msixPending.toNat).foldl State.sendOne s := rfl

theorem State.sendOne_frame (v : Nat) : (s.sendOne v).regs = s.regs ∧ (s.sendOne v).msixTable = s.msixTable ∧
    (s.sendOne v).msixFuncMask = s.msixFuncMask := by
  unfold State.sendOne
  split <;> exact ⟨rfl, rfl, rfl⟩

/-- Sending pending messages changes no register and no word of the table. -/
theorem State.sendAll_frame (l : List Nat) : (l.foldl State.sendOne s).regs = s.regs ∧
    (l.foldl State.sendOne s).msixTable = s.msixTable := by
  induction l generalizing s with
  | nil => exact ⟨rfl, rfl⟩
  | cons v l ih =>
    obtain ⟨hr, ht⟩ := ih (s := s.sendOne v)
    obtain ⟨hr1, ht1, _⟩ := State.sendOne_frame (s := s) v
    exact ⟨hr.trans hr1, ht.trans ht1⟩

/-- The message of vector v has been sent, and nothing of it is pending. -/
def State.sentVector (s : State) (v : Nat) : Prop := s.msixPending.getLsbD v = false ∧ Output.msix v ∈ s.outbox

theorem State.sendOne_keeps_sent {v : Nat} (h : s.sentVector v) (u : Nat) : (s.sendOne u).sentVector v := by
  obtain ⟨hp, ho⟩ := h
  unfold State.sendOne
  split
  · exact ⟨by simp [State.emit, hp], List.mem_append_left _ ho⟩
  · exact ⟨hp, ho⟩

theorem State.sendOne_sends {v : Nat} (hv : v < 64) (he : s.on R.HST_STATUS.MSIX_EN 0 = true) (hf : s.msixFuncMask = false)
    (hm : s.vectorMasked v = false) : (s.sendOne v).sentVector v := by
  rw [State.sendOne, if_pos (by simp [he, hf, hm])]
  refine ⟨?_, List.mem_append_right _ (List.mem_singleton.mpr rfl)⟩
  have hbit : (BitVec.ofNat 64 (2 ^ v)).getLsbD v = true := by
    rw [BitVec.getLsbD_ofNat, Nat.testBit_two_pow_self, decide_eq_true hv, Bool.true_and]
  show (s.msixPending &&& ~~~BitVec.ofNat 64 (2 ^ v)).getLsbD v = false
  rw [BitVec.getLsbD_and, BitVec.getLsbD_not, hbit, Bool.not_true, Bool.and_false, Bool.and_false]

/-- Every vector of the list that nothing holds back is sent. -/
theorem State.sendAll_sends {v : Nat} (hv : v < 64) {l : List Nat} (hl : v ∈ l) (he : s.on R.HST_STATUS.MSIX_EN 0 = true)
    (hf : s.msixFuncMask = false) (hm : s.vectorMasked v = false) : (l.foldl State.sendOne s).sentVector v := by
  induction l generalizing s with
  | nil => exact absurd hl List.not_mem_nil
  | cons u l ih =>
    rw [List.foldl_cons]
    by_cases e : v = u
    · subst e
      exact List.foldlRecOn (motive := fun t : State => t.sentVector v) _ _ (State.sendOne_sends hv he hf hm)
        (fun _ ht w _ => State.sendOne_keeps_sent ht w)
    · obtain ⟨hr, ht, hfm⟩ := State.sendOne_frame (s := s) u
      refine ih (List.mem_of_ne_of_mem e hl) ?_ (hfm.trans hf) ?_
      · simpa only [State.on, State.rd, hr] using he
      · simpa only [State.vectorMasked, ht] using hm

theorem mem_onesOf {n x i : Nat} (hi : i < n) (h : bitOf x i = 1) : i ∈ onesOf n x :=
  List.mem_filter.mpr ⟨List.mem_range.mpr hi, by simp [h]⟩

theorem bitOf_of_getLsbD {w i : Nat} {x : BitVec w} (h : x.getLsbD i = true) : bitOf x.toNat i = 1 := by
  simpa [BitVec.getLsbD, Nat.testBit_eq_decide_div_mod_eq, bitOf] using h

theorem exec_msixUnmask {a : Accessor} {v : Fin 64} (h : s.accessCode a .hst 0 (0x80C + 16 * v.val) true = 0) :
    exec (.msixUnmask a v) s = .next (doMsixUnmask a v.val s) := congrArg Host.Outcome.next (State.access_ok h _)

/-! ## The link (R455) -/

theorem exec_pcieLinkLoss : exec .pcieLinkLoss s = .next (doPcieLinkLoss s) := rfl

/-! ### What leaves the MSI-X table as it was -/

theorem State.sendVector_msixTable (v : Nat) : (s.sendVector v).msixTable = s.msixTable := by
  unfold State.sendVector
  split <;> rfl

theorem State.irqEvent_msixTable (n : Nat) : (s.irqEvent n).msixTable = s.msixTable := by
  unfold State.irqEvent
  split
  · rfl
  · split
    · rfl
    · split
      · rfl
      · exact State.sendVector_msixTable _
  · rfl

theorem State.raise_msixTable (p : Page) (ch b : Nat) : (s.raise p ch b).msixTable = s.msixTable := by
  unfold State.raise
  extract_lets s1
  split
  · split
    · exact State.irqEvent_msixTable _
    · rfl
  · rfl

theorem State.logEvent_msixTable (source inst cls kind d1 d2 : Nat) :
    (s.logEvent source inst cls kind d1 d2).msixTable = s.msixTable := by
  unfold State.logEvent State.logQueue
  split
  · exact State.raise_msixTable _ _ _
  · rfl

theorem State.closeStream_msixTable : s.closeStream.msixTable = s.msixTable := rfl

theorem State.shutdown_msixTable : s.shutdown.msixTable = s.msixTable := by
  simp only [State.shutdown, State.modFab_msixTable, State.wr_msixTable]

theorem State.loadFailed_msixTable (code : Nat) : (s.loadFailed code).msixTable = s.msixTable := by
  unfold State.loadFailed
  simp only [State.logEvent_msixTable, State.modFab_msixTable, State.wr_msixTable, State.shutdown_msixTable,
    State.closeStream_msixTable]

theorem State.failStream_msixTable (code : Nat) : (s.failStream code).msixTable = s.msixTable := by
  unfold State.failStream
  extract_lets e s1 s2
  have h2 : s2.msixTable = s.msixTable :=
    List.foldlRecOn (motive := fun t : State => t.msixTable = s.msixTable) _ _ rfl
      (fun _ ht _ _ => (State.raise_msixTable _ _ _).trans ht)
  split
  · exact State.loadFailed_msixTable code
  · split
    · exact h2
    · exact h2

/-- The bus-master reads that fail with the link leave the MSI-X table as it was. -/
theorem State.failFetches_msixTable : s.failFetches.msixTable = s.msixTable := by
  have image : ∀ t : State, (doImageLine [] 0 false t).msixTable = t.msixTable := by
    intro t
    unfold doImageLine
    split
    · rfl
    · exact State.raise_msixTable _ _ _
  have stream : ∀ t : State, (doStreamFetch [] false true t).msixTable = t.msixTable := by
    intro t
    unfold doStreamFetch
    extract_lets e
    split
    · rfl
    · exact (State.failStream_msixTable _).trans (State.raise_msixTable _ _ _)
  have refetch : ∀ t : State, (doFrameRefetch [] false t).msixTable = t.msixTable := by
    intro t
    unfold doFrameRefetch
    split
    · rfl
    · rfl
    · exact (State.logEvent_msixTable _ _ _ _ _ _).trans (State.raise_msixTable _ _ _)
  unfold State.failFetches
  extract_lets s1 s2 s3
  have h3 : s3.msixTable = s.msixTable := (refetch s2).trans ((stream s1).trans (image s))
  split
  · exact (State.raise_msixTable _ _ _).trans h3
  · exact h3

/-- What the failing reads keep of the endpoint: its configuration, its registers outside INT_STATUS and ERR_CAPTURE, the
model cores and their scratchpads. -/
theorem State.failFetches_frame : s.failFetches.pcie = s.pcie ∧ s.failFetches.cores = s.cores ∧
    s.failFetches.scratch = s.scratch ∧
    ∀ g : Fld, g.page = .hst → errorReg (g.off % 4096) = false → ∀ d, s.failFetches.rd g d = s.rd g d := by
  have h := State.failFetches_keeps (M := 351299463528201329) rfl (Keeps.refl _ s)
  obtain ⟨hpcie, _, _⟩ := h.same .host rfl
  obtain ⟨hscratch, _⟩ := h.same .scratch rfl
  exact ⟨hpcie, h.same .cores rfl, hscratch, fun g hp he d => h.same (.regs .hst) rfl g d hp he⟩

/-- PCIE_LINK_LOSS resets the configuration space and the link's status, and nothing of the cores. -/
theorem doPcieLinkLoss_effect : (doPcieLinkLoss s).pcie = {} ∧ (doPcieLinkLoss s).rd R.HST_STATUS.LINK_SPEED 0 = 0 ∧
    (doPcieLinkLoss s).rd R.HST_STATUS.LINK_WIDTH 0 = 0 ∧ (doPcieLinkLoss s).rd R.HST_STATUS.BME 0 = 0 ∧
    (doPcieLinkLoss s).rd R.HST_STATUS.MSIX_EN 0 = 0 ∧ (doPcieLinkLoss s).msixTable = s.msixTable ∧
    (doPcieLinkLoss s).cores = s.cores ∧ (doPcieLinkLoss s).scratch = s.scratch := by
  unfold doPcieLinkLoss
  extract_lets s1 s2
  obtain ⟨hp, hc, hs, hr⟩ := State.failFetches_frame (s := s2)
  refine ⟨hp, ?_, ?_, ?_, ?_, State.failFetches_msixTable, hc, hs⟩
  · rw [hr _ rfl rfl, State.rd_wr_apart (by decide), State.rd_wr_apart (by decide), State.rd_wr_apart (by decide),
      State.rd_wr_self]
    rfl
  · rw [hr _ rfl rfl, State.rd_wr_apart (by decide), State.rd_wr_apart (by decide), State.rd_wr_self]
    rfl
  · rw [hr _ rfl rfl, State.rd_wr_apart (by decide), State.rd_wr_self]
    rfl
  · rw [hr _ rfl rfl, State.rd_wr_self]
    rfl

theorem exec_pcieLinkUp (speed : Fin 8) (width : Fin 16) :
    exec (.pcieLinkUp speed width) s = .next (doPcieLinkUp speed.val width.val s) := rfl

/-- In Service and after, the link comes up with its speed and width, and LINK_CHANGE is raised. -/
theorem doPcieLinkUp_effect {speed width : Nat} (ht : linkTrains speed width = true) (hd : 2 ≤ s.rd R.PWR_STATUS.DEV_STATE 0)
    (hs : speed < 8) (hw : width < 16) : (doPcieLinkUp speed width s).rd R.HST_STATUS.LINK_SPEED 0 = speed ∧
    (doPcieLinkUp speed width s).rd R.HST_STATUS.LINK_WIDTH 0 = width ∧
    (doPcieLinkUp speed width s).rd R.PWR_CLOCKS.PCIE_PLL 0 = 1 ∧ (doPcieLinkUp speed width s).rd (intBit .hst 3) 0 = 1 := by
  have hgo : ¬(!linkTrains speed width ∨ s.rd R.PWR_STATUS.DEV_STATE 0 < 2) := by
    simp only [ht, Bool.not_true, Bool.false_eq_true, false_or, not_lt]
    exact hd
  rw [doPcieLinkUp, if_neg hgo]
  refine ⟨?_, ?_, ?_, State.raise_self .hst 0 3⟩
  · rw [State.raise_rd _ _ _ rfl, State.rd_wr_apart (by decide), State.rd_wr_apart (by decide), State.rd_wr_self]
    exact Nat.mod_eq_of_lt hs
  · rw [State.raise_rd _ _ _ rfl, State.rd_wr_apart (by decide), State.rd_wr_self]
    exact Nat.mod_eq_of_lt hw
  · rw [State.raise_rd _ _ _ rfl, State.rd_wr_self]
    rfl

/-! ## Configuration space (R449, R458) -/

theorem exec_configurationRequest (early : Bool) (q : CfgRequest) :
    exec (.configurationRequest early q) s = .next (doConfigurationRequest early q s) := rfl

/-- With the link up a request is answered with Retry Status while it is early, and served after. -/
theorem doConfigurationRequest_linked (h : s.linkUp = true) (early : Bool) (q : CfgRequest) :
    doConfigurationRequest early q s = if early then s.emit (.cfgResp true 0) else s.configServe q := by
  simp [doConfigurationRequest, h]

/-! ## The statements -/

/-- Settles O2: every store of the reset state is empty, so each field reads its reset value. -/
theorem resetState : Obligations.ResetState := by
  unfold Obligations.ResetState
  refine ⟨fun _ _ => rfl, rfl, rfl, rfl, rfl, rfl, rfl, rfl, rfl, rfl, rfl, rfl, ?_, rfl⟩
  intro c hc
  exact absurd hc List.not_mem_nil

/-- Settles O47: requests of the host are issued in order through quay 34 or as register accesses, unmasking sends what
is pending, and the link and configuration space follow their commands. -/
theorem endpointServesTheHost : Obligations.EndpointServesTheHost := by
  unfold Obligations.EndpointServesTheHost
  refine ⟨?gates, ?bar2, ?bar0, ?unmask, ?loss, ?up, ?config⟩
  case gates =>
    intro q s
    refine ⟨fun hl => ?_, fun hl hm hr => ?_, fun hl hm hr => ?_⟩
    · rw [exec_hostAccess, doHostAccess_noLink hl]
    · rw [exec_hostAccess, doHostAccess_noMse hl hm, hr]
      rfl
    · rw [exec_hostAccess, doHostAccess_noMse hl hm, hr]
      rfl
  case bar2 =>
    intro off write be v addr d tag s hl hm hw ha hd hr hq
    have hwords : s.hostWords (.bar2 off write [(be, v)]) = [⟨write, addr, be.toNat, v, false⟩] := by
      rw [ha]
      rfl
    refine ⟨fun hgo ht => ⟨_, exec_hostAccess _, ?_⟩, fun hwr ho => ⟨_, exec_hostAccess _, ?_⟩⟩
    · rw [doHostAccess_issues hl hm hw, hwords, State.hostIssue_sends hgo rfl ht]
      obtain ⟨hout, hmem, hbox⟩ := State.hostSend_routed (w := ⟨write, addr, be.toNat, v, false⟩) hd hr hq tag
      exact ⟨hout, rfl, hmem, hbox⟩
    · rw [doHostAccess_issues hl hm hw, hwords, State.hostIssue_waits hwr ho, hwr]
      exact ⟨rfl, rfl, rfl⟩
  case bar0 =>
    intro off size v p node s hl hm hw hsize hp
    refine ⟨_, exec_hostAccess _, ?_⟩
    rw [doHostAccess_issues hl hm hw, State.hostWords, State.hostIssue_register rfl rfl]
    have hv : (BitVec.ofNat 128 v.toNat).toNat = v.toNat := by
      rw [BitVec.toNat_ofNat]
      exact Nat.mod_eq_of_lt (lt_trans v.isLt (by decide))
    dsimp only
    rw [offsetIn_add, hsize, hv]
    exact State.bar0_write_regs hp
  case unmask =>
    intro a v s h
    refine ⟨_, exec_msixUnmask h, ?_⟩
    have hm : ∀ t : State, t.msixTable = SMap.set 1#32 s.msixTable (v.val * 4 + 3) (BitVec.ofNat 32 (0 % 2)) →
        t.vectorMasked v.val = false := by
      intro t ht
      rw [State.vectorMasked, ht, SMap.get_set_self]
      rfl
    unfold doMsixUnmask State.setVectorControl
    rw [State.sendPending_eq]
    generalize hs1 : ({ s with msixTable := SMap.set 1#32 s.msixTable (v.val * 4 + 3) (BitVec.ofNat 32 (0 % 2)) } : State) = s1
    obtain ⟨hregs, htable⟩ := State.sendAll_frame (s := s1) (onesOf 64 s1.msixPending.toNat)
    have ht1 : s1.msixTable = SMap.set 1#32 s.msixTable (v.val * 4 + 3) (BitVec.ofNat 32 (0 % 2)) := by rw [← hs1]
    refine ⟨hm _ (htable.trans ht1), hregs.trans (by rw [← hs1]), fun he hf hp => ?_⟩
    have hmem : v.val ∈ onesOf 64 s1.msixPending.toNat := mem_onesOf v.isLt (bitOf_of_getLsbD (by rw [← hs1]; exact hp))
    obtain ⟨hsent, hout⟩ := State.sendAll_sends (s := s1) v.isLt hmem
      (by rw [← hs1]; simpa [State.on, State.rd] using he) (by rw [← hs1]; exact hf) (hm s1 ht1)
    exact ⟨hsent, List.mem_append_left _ hout⟩
  case loss => exact fun s => ⟨_, exec_pcieLinkLoss, doPcieLinkLoss_effect⟩
  case up =>
    intro speed width s ht hd
    exact ⟨_, exec_pcieLinkUp speed width, doPcieLinkUp_effect ht hd speed.isLt width.isLt⟩
  case config =>
    intro s hl
    refine ⟨fun q => ?_, ?_, fun mse bme => ⟨_, exec_configurationRequest _ _, ?_⟩⟩
    · rw [exec_configurationRequest, doConfigurationRequest_linked hl]
      rfl
    · rw [exec_configurationRequest, doConfigurationRequest_linked hl]
      rfl
    · rw [doConfigurationRequest_linked hl]
      refine ⟨rfl, rfl, rfl, (State.rd_wr_self R.HST_STATUS.BME 0 (b2n bme)).trans ?_, rfl⟩
      cases bme <;> rfl

end Sys2Proof.Machine

/-! Rules about the shared operations that several statements need: fields on different pages, events on their way to the
logbook, and the frames of the operations of a quay. -/

namespace Sys2Proof.Machine
open Sys2Proof

variable {s : State}

/-! ## Register fields -/

theorem Fld.apart_of_page {f g : Fld} (h : f.page ≠ g.page) : f.apart g = true := by
  have hne : f.page.type ≠ g.page.type := fun e => h (Page.type_inj e)
  simp [Fld.apart, hne]

/-- Fields with one key and one reset value read alike. -/
theorem State.rd_of_key {f g : Fld} {c d : Nat} (h : g.key d = f.key c) (hr : g.reset = f.reset) : s.rd g d = s.rd f c := by
  rw [State.rd, State.rd, h, hr]

theorem State.rd_wr_key {f g : Fld} {c d : Nat} (h : g.key d ≠ f.key c) (v : Nat) : (s.wr f c v).rd g d = s.rd g d :=
  SMap.get_set_other h

/-- An event on its way to the logbook changes registers of the LOG_ page alone (R264, R265). -/
theorem State.logEvent_rd_page {g : Fld} (h : g.page ≠ .log) (source inst cls kind d1 d2 d : Nat) :
    (s.logEvent source inst cls kind d1 d2).rd g d = s.rd g d := by
  unfold State.logEvent State.logQueue
  split
  · rw [State.raise_rd_apart (Fld.apart_of_page h.symm), State.count, State.rd_wr_apart (Fld.apart_of_page h.symm)]
  · rfl

end Sys2Proof.Machine

/-! What every step keeps, and the gates of a register access: the stores stay canonical (R27, R37, R53, R126, R322), and an
access that its gates refuse has none of its effect (R28, R29, R31, R121, R401, R403, R479). -/

namespace Sys2Proof.Machine
open Sys2Proof

variable {s : State}

/-! ## The canonical form -/

/-- A step keeps the canonical form of the stores: a command by what `exec` keeps, a cycle by what a tick keeps. -/
theorem memory_wf_of_stepsTo {s t : State} (hs : Memory.wf s = true) (h : StepsTo s t) : Memory.wf t = true := by
  unfold StepsTo step at h
  split at h
  · obtain rfl := Host.Outcome.next.inj h
    exact (State.tick_keeps (M := 4234422693941814277) rfl (Keeps.refl _ s)).memory hs
  · next c rest _ =>
    exact (exec_keeps (M := 4611686018427387903) rfl (Keeps.refl _ { s with pending := rest }) t h).memory hs

/-- Settles O60: every operation keeps each store's keys rising and its entries different from the value of an unlisted
one. -/
theorem memoryStaysCanonical : Obligations.MemoryStaysCanonical := fun _ _ => memory_wf_of_stepsTo

/-! ## Refused accesses (R28, R29, R121, R401, R403, R479) -/

/-- A command that is the access of one register is that access, with an effect of its own behind the gates. -/
theorem exec_of_accessed {c : Instr} {a : Accessor} {p : Page} {ch off : Nat} {w : Bool}
    (h : accessed c = some (a, p, ch, off, w)) (s : State) :
    ∃ act, exec c s = .next (s.access a p ch off w act) := by
  unfold accessed at h
  split at h <;> cases h <;> exact ⟨_, rfl⟩

/-- Only an access through the debug path is beyond the debug level (R479). -/
theorem State.viaDebug_of_accessCode {a : Accessor} {p : Page} {ch off : Nat} {w : Bool}
    (h : s.accessCode a p ch off w = 8) : viaDebug a = true := by
  by_contra hd
  simp only [State.accessCode, Bool.eq_false_iff.mpr hd, Bool.false_and, Bool.false_eq_true, if_false] at h
  split_ifs at h <;> exact absurd h (by decide)

theorem State.access_silent {a : Accessor} {p : Page} {ch off : Nat} {w : Bool} (h : s.accessCode a p ch off w = 9)
    (act : State → State) : s.access a p ch off w act = s := by
  unfold State.access
  rw [h]
  rfl

theorem State.access_beyondLevel {a : Accessor} {p : Page} {ch off : Nat} {w : Bool} (h : s.accessCode a p ch off w = 8)
    (act : State → State) : s.access a p ch off w act = s.refuseAccess a := by
  unfold State.access
  rw [h]
  rfl

theorem State.access_denied {a : Accessor} {p : Page} {ch off : Nat} {w : Bool} (h : s.accessCode a p ch off w = 10)
    (act : State → State) : s.access a p ch off w act = s.deny a p (if p = .mdc then ch else 0) off := by
  unfold State.access
  rw [h]
  rfl

/-- An access without a route, at a dead quay or at a block that sleeps gets the status of its quay. -/
theorem State.access_unreached {a : Accessor} {p : Page} {ch off : Nat} {w : Bool}
    (h : s.accessCode a p ch off w = 1 ∨ s.accessCode a p ch off w = 2 ∨ s.accessCode a p ch off w = 6)
    (act : State → State) : s.access a p ch off w act =
      (s.quayStatus (nodeOf a) (s.accessCode a p ch off w) (regAddress p ch off)).refuseAccess a := by
  unfold State.access
  rcases h with h | h | h <;> rw [h] <;> rfl

theorem State.refuseAccess_debug {a : Accessor} (h : viaDebug a = true) :
    s.refuseAccess a = { s with outbox := s.outbox ++ [.regResp a 4 0] } := by
  have ha : a ≠ .host := by rintro rfl; exact absurd h (by decide)
  rw [State.refuseAccess, if_neg ha]
  rfl

/-- A refused access ends with its error response; the parts, the stores and the cores are as they were. -/
theorem State.refuseAccess_frame (a : Accessor) : (∃ l, (s.refuseAccess a).outbox = s.outbox ++ l ++ [.regResp a 4 0]) ∧
    (s.refuseAccess a).parts = s.parts ∧ (s.refuseAccess a).dmem = s.dmem ∧ (s.refuseAccess a).cores = s.cores ∧
    (s.refuseAccess a).scratch = s.scratch := by
  have hk := State.refuseAccess_keeps (M := 1099847172097) (a1 := a) rfl (Keeps.refl _ s)
  refine ⟨?_, hk.same .parts rfl, hk.same .dmem rfl, hk.same .cores rfl, (hk.same .scratch rfl).1⟩
  obtain ⟨l, hl⟩ : s.outbox <+: (if a = .host then s.raise .hst 0 1 else s).outbox := by
    split
    · exact State.raise_sends (List.prefix_refl _) _ _ _
    · exact List.prefix_refl _
  exact ⟨l, congrArg (· ++ [Output.regResp a 4 0]) hl.symm⟩

/-- What a quay does with an error status: its interrupt is set and the outputs that were sent stay in front; the parts, the
stores and the cores are as they were (R28, R29, R409). -/
theorem State.quayStatus_error {status : Nat} (h : status ≠ 0) (node addr : Nat) :
    (s.quayStatus node status addr).rd (intBit .noc 3) node = 1 ∧
    s.outbox <+: (s.quayStatus node status addr).outbox ∧ (s.quayStatus node status addr).parts = s.parts ∧
    (s.quayStatus node status addr).dmem = s.dmem ∧ (s.quayStatus node status addr).cores = s.cores ∧
    (s.quayStatus node status addr).scratch = s.scratch := by
  have hk := State.quayStatus_keeps (M := 1099847172097) (a1 := node) (a2 := status) (a3 := addr) rfl (Keeps.refl _ s)
  refine ⟨?_, ?_, hk.same .parts rfl, hk.same .dmem rfl, hk.same .cores rfl, (hk.same .scratch rfl).1⟩
  · simp only [State.quayStatus, if_neg h]
    exact State.raise_self .noc node 3
  · simp only [State.quayStatus, if_neg h]
    refine State.raise_sends ?_ _ _ _
    split
    · exact State.raise_sends (State.err_sends (List.prefix_refl _) _ _ _ _ _) _ _ _
    · exact State.raise_sends (State.err_sends (List.prefix_refl _) _ _ _ _ _) _ _ _
    · exact List.prefix_refl _

/-- An access refused with an error status at its initiator's quay: the quay's interrupt, an error response, and none of the
access's effect. -/
theorem State.refusedAtQuay {status : Nat} (h : status ≠ 0) (a : Accessor) (addr : Nat) :
    ∃ l, ((s.quayStatus (nodeOf a) status addr).refuseAccess a).rd (intBit .noc 3) (nodeOf a) = 1 ∧
      ((s.quayStatus (nodeOf a) status addr).refuseAccess a).outbox = s.outbox ++ l ++ [.regResp a 4 0] ∧
      ((s.quayStatus (nodeOf a) status addr).refuseAccess a).parts = s.parts ∧
      ((s.quayStatus (nodeOf a) status addr).refuseAccess a).dmem = s.dmem ∧
      ((s.quayStatus (nodeOf a) status addr).refuseAccess a).cores = s.cores ∧
      ((s.quayStatus (nodeOf a) status addr).refuseAccess a).scratch = s.scratch := by
  obtain ⟨hi, ⟨l1, ho⟩, hp, hd, hc, hs⟩ := State.quayStatus_error (s := s) h (nodeOf a) addr
  obtain ⟨⟨l2, ho2⟩, hp2, hd2, hc2, hs2⟩ := State.refuseAccess_frame (s := s.quayStatus (nodeOf a) status addr) a
  refine ⟨l1 ++ l2, ?_, ?_, hp2.trans hp, hd2.trans hd, hc2.trans hc, hs2.trans hs⟩
  · rw [State.refuseAccess_rd_apart (by decide)]
    exact hi
  · rw [ho2, ← ho, List.append_assoc s.outbox]

/-- A denied access is recorded with VALID on the page it was denied on (R121, R512). -/
theorem State.deny_valid (a : Accessor) (p : Page) (ch off : Nat) : (s.deny a p ch off).rd (errValid p) ch = 1 := by
  have hapart : ∀ (q : Page) (b : Nat), (intBit q b).apart (errValid p) = true := fun q b => by
    simp [Fld.apart, intBit, errValid]
  have hraise : ∀ t : State, (t.quayStatus (nodeOf a) 4 0).rd (errValid p) ch = t.rd (errValid p) ch :=
    fun t => State.raise_rd_apart (hapart .noc 3) _ _
  rw [State.deny, State.refuseAccess_rd_apart (hapart .hst 1), hraise]
  exact State.err_valid ..

/-- Settles O5: each outcome of the gates is answered without the act behind them. -/
theorem accessesAreGated : Obligations.AccessesAreGated := by
  unfold Obligations.AccessesAreGated
  intro c a p ch off w s hacc
  obtain ⟨act, hexec⟩ := exec_of_accessed hacc s
  rw [hexec]
  refine ⟨?silent, ?level, ?denied, ?quay⟩
  case silent =>
    intro h
    rw [State.access_silent h]
  case level =>
    intro h
    rw [State.access_beyondLevel h, State.refuseAccess_debug (State.viaDebug_of_accessCode h)]
  case denied =>
    intro h
    obtain ⟨l, hint, hout, hparts, hdmem, hcores, hscratch⟩ := State.refusedAtQuay
      (s := s.errReg a p (if p = .mdc then ch else 0) off 14) (status := 4) (by decide) a 0
    exact ⟨_, l, congrArg Host.Outcome.next (State.access_denied h act), State.deny_valid .., hint,
      hout.trans (by rw [State.errReg_outbox]), hparts.trans (State.errReg_parts ..), hdmem.trans (State.errReg_dmem ..),
      hcores.trans (State.errReg_cores ..), hscratch.trans (State.errReg_scratch ..)⟩
  case quay =>
    intro h
    obtain ⟨l, hrest⟩ := State.refusedAtQuay (s := s) (status := s.accessCode a p ch off w) (by omega) a (regAddress p ch off)
    exact ⟨_, l, congrArg Host.Outcome.next (State.access_unreached h act), hrest⟩

end Sys2Proof.Machine

/-! Quays and far transfers: what answers a request, what a bank takes, what a response completes (R27 to R29, R132, R399 to
R401, R403), and the end of a far transfer (R65). -/

namespace Sys2Proof.Machine
open Sys2Proof

variable {s : State}

/-! ## A request outstanding at a bare quay: what it leaves as it was -/

theorem State.bareSent_ownerOf (k : Packet) : (s.bareSent k).ownerOf k = s.ownerOf k := by
  unfold State.bareSent
  split <;> rfl

theorem State.bareSent_awakeAt (k : Packet) : (s.bareSent k).awakeAt k = s.awakeAt k := by
  unfold State.bareSent
  split <;> rfl

theorem State.bareSent_quayIsDead (k : Packet) (n : Nat) : (s.bareSent k).quayIsDead n = s.quayIsDead n := by
  unfold State.bareSent
  split
  · exact congrArg (· == 1) (State.rd_wr_apart (f := R.NOC_STATUS.OUTSTANDING) (g := R.NOC_STATUS.DEAD) (by decide) _ _ _)
  · rfl

theorem State.bareSent_other {k : Packet} (h : bareQuay k.src.val = false) : s.bareSent k = s := by
  rw [State.bareSent, if_neg (by simp [h])]

/-! ## A request at the quay it reaches (R28, R29, R399 to R401, R403) -/

theorem exec_nocRequest_answered {k : Packet} (hd : 2 ≤ s.rd R.PWR_STATUS.DEV_STATE 0)
    (h : k.op.val < 4 ∨ s.performed k = false) :
    exec (.nocRequest k) s = .next ((s.bareSent k).takeRequestPacket k) := by
  have hgo : ¬(4 ≤ k.op.val ∧ s.performed k = true) := by
    rintro ⟨hop, hp⟩
    rcases h with h | h
    · omega
    · exact absurd (h.symm.trans hp) (by decide)
  show execNocRequest k s = _
  rw [execNocRequest, if_neg hgo, doNocRequest, if_neg (by omega)]

theorem State.performed_of_owner {k : Packet} {d : Nat} (ho : s.ownerOf k = some d)
    (h : d ≠ k.dest.val ∨ (s.quayIsDead d && !forEdge k.addr.toNat) = true ∨ s.awakeAt k = false) :
    s.performed k = false := by
  simp only [State.performed, ho]
  rcases h with h | h | h <;> simp [h]

theorem State.performed_of_unmapped {k : Packet} (ho : s.ownerOf k = none) : s.performed k = false := by
  simp only [State.performed, ho, Bool.and_false]

theorem State.takeRequestPacket_unmapped {k : Packet} (ho : s.ownerOf k = none) :
    s.takeRequestPacket k = s.answer k 1 [] := by
  simp only [State.takeRequestPacket, ho]

theorem State.takeRequestPacket_misrouted {k : Packet} {d : Nat} (ho : s.ownerOf k = some d) (hd : d ≠ k.dest.val) :
    s.takeRequestPacket k = s.answer k 7 [] := by
  simp only [State.takeRequestPacket, ho, if_pos hd]

/-- A request at its owner: DEAD from a dead quay, ASLEEP from a block that sleeps, and else the block's own. -/
theorem State.takeRequestPacket_owned {k : Packet} (ho : s.ownerOf k = some k.dest.val) :
    s.takeRequestPacket k = if s.quayIsDead k.dest.val && !forEdge k.addr.toNat then s.answer k 6 []
      else if !s.awakeAt k then s.answer k 2 [] else s.serve k := by
  simp only [State.takeRequestPacket, ho, ne_eq, not_true_eq_false, if_false]

/-! ### The boot ROM (R27) -/

theorem State.awakeAt_bootRom {k : Packet} (h : k.addr.toNat < 0x40000) : s.awakeAt k = true := by
  have hr : inRegisters k.addr.toNat = false := by simp [inRegisters]; omega
  simp only [State.awakeAt, hr, Bool.false_eq_true, if_false]
  rw [if_neg (by omega), if_neg (by omega), if_neg (by omega), if_neg (by omega)]

theorem State.serve_bootRom {k : Packet} (h : k.addr.toNat < 0x40000) : s.serve k = s.plainOp k (s.atBootRom k) := by
  have hr : inRegisters k.addr.toNat = false := by simp [inRegisters]; omega
  simp only [State.serve, hr, Bool.false_eq_true, if_false]
  rw [if_neg (by omega), if_neg (by omega), if_neg (by omega), if_neg (by omega), if_neg (by omega), if_neg (by omega)]

theorem packetPlaces_single {k : Packet} (h : k.len.val = 0) : packetPlaces k = [k.addr.toNat / 16 * 16] := by
  simp [packetPlaces, h]

/-- A read of one word of the boot ROM answers it. -/
theorem State.serve_bootRom_read {k : Packet} (hop : k.op.val = 0) (hlen : k.len.val = 0) (h : k.addr.toNat < 0x40000) :
    s.serve k = s.answer k 0 [Config.bootRom (k.addr.toNat / 16)] := by
  have hlt : ¬ 0x40000 ≤ k.addr.toNat / 16 * 16 := by omega
  have hword : k.addr.toNat / 16 * 16 / 16 = k.addr.toNat / 16 := Nat.mul_div_cancel _ (by decide)
  rw [State.serve_bootRom h, State.plainOp, if_neg (by omega)]
  simp only [State.atBootRom, hop, State.readWords, packetPlaces_single hlen, List.foldl, if_neg hlt, hword, if_true,
    List.nil_append, Nat.zero_ne_one, if_false]

theorem State.serve_bootRom_write {k : Packet} (hop : k.op.val = 1) (h : k.addr.toNat < 0x40000) :
    s.serve k = s.answer k 4 [] := by
  rw [State.serve_bootRom h, State.plainOp, if_neg (by omega), State.atBootRom, if_pos hop]

/-! ### The banks (R132) -/

/-- In the space of the banks a block is awake as its bank is. -/
theorem State.awakeAt_bank {k : Packet} (h1 : 0x100000000 ≤ k.addr.toNat) (h2 : k.addr.toNat < 0x130000000) :
    s.awakeAt k = s.awake.contains (blockKey .dmb (bankOfAddress k.addr.toNat)) := by
  have hr : inRegisters k.addr.toNat = false := by simp [inRegisters]; omega
  simp only [State.awakeAt, hr, Bool.false_eq_true, if_false]
  rw [if_pos ⟨h1, h2⟩]

theorem State.serve_bank {k : Packet} (h1 : 0x100000000 ≤ k.addr.toNat) (h2 : k.addr.toNat < 0x130000000) :
    s.serve k = s.bankArrive k := by
  have hr : inRegisters k.addr.toNat = false := by simp [inRegisters]; omega
  simp only [State.serve, hr, Bool.false_eq_true, if_false]
  rw [if_pos ⟨h1, h2⟩]

/-- A packet that its bank takes goes to the end of the bank's queue. -/
theorem State.bankArrive_taken {k : Packet} (hq : s.heldPackets (bankOfAddress k.addr.toNat / 8) = [])
    (ht : s.bankTakes k = true)
    (hc : s.berthCheck (bankOfAddress k.addr.toNat) (s.requesterOf k.src.val k.tag.val) = 0) :
    s.bankArrive k = s.modBank (bankOfAddress k.addr.toNat)
      (fun x => { x with queue := x.queue ++ [{ s.bankAccessOf k with old := true }] }) := by
  have hc2 : s.berthCheck (bankOfAddress k.addr.toNat) (s.bankAccessOf k).who = 0 := hc
  simp only [State.bankArrive, hq, ht, List.isEmpty_nil, Bool.and_self, if_true, State.bankAccept, hc2, beq_self_eq_true]

/-! ## The end of a far transfer (R65) -/

theorem State.unhold_memWaits (l mask q : Nat) : ((s.unhold l mask).part q).memWaits = (s.part q).memWaits := by
  unfold State.unhold
  by_cases e : q = l
  · rw [e, State.part_modPart]
  · rw [State.part_modPart_ne e]

theorem State.memWaitsOver_frame (m : Nat) : (∀ q, ((s.memWaitsOver m).part q).memWaits = (s.part q).memWaits) ∧
    (s.memWaitsOver m).rpend = s.rpend ∧ (s.memWaitsOver m).rdata = s.rdata := by
  unfold State.memWaitsOver
  extract_lets l ws s1
  have h1 : (∀ q, (s1.part q).memWaits = (s.part q).memWaits) ∧ s1.rpend = s.rpend ∧ s1.rdata = s.rdata := by
    unfold s1
    split
    · exact ⟨fun _ => rfl, rfl, rfl⟩
    · exact ⟨State.unhold_memWaits l causeFar, rfl, rfl⟩
  obtain ⟨hw, hp, hr⟩ := h1
  split
  · exact ⟨hw, hp, hr⟩
  · exact ⟨fun q => (State.unhold_memWaits l causeBerth q).trans (hw q), hp, hr⟩

theorem State.quayTake_frame (node status addr : Nat) : (s.quayTake node status addr).parts = s.parts ∧
    (s.quayTake node status addr).rpend = s.rpend ∧ (s.quayTake node status addr).rdata = s.rdata ∧
    (s.quayTake node status addr).quayReqs = s.quayReqs := by
  have hk := State.quayStatus_keeps (M := 1099847172097) (a1 := node) (a2 := status) (a3 := addr) rfl
    (Keeps.refl _ (s.wr R.NOC_STATUS.OUTSTANDING node (s.rd R.NOC_STATUS.OUTSTANDING node - 1)))
  obtain ⟨_, _, _, _, hrdata, hrpend⟩ := hk.same .orchard rfl
  obtain ⟨_, hreqs, _⟩ := hk.same .noc rfl
  exact ⟨hk.same .parts rfl, hrpend, hrdata, hreqs⟩

/-- What the end of far command c does to its partition and its bunch: the wait is gone, a read that succeeds loads its word, one
refused for an uncorrectable word leaves an error. -/
def State.farEnd (s : State) (p n status : Nat) (w : W128) (c : MemWait) : State :=
  let s1 := s.modPart p (fun x => { x with
    memWaits := x.memWaits.filter (fun y => !(y.bunch == n && decide (2 ≤ y.kind))) })
  if c.kind = 2 ∧ status = 0 then { s1 with rpend := SMap.set none s1.rpend n (some w) }
  else if c.kind = 2 ∧ status = 3 then
    s1.modPart p (fun x => { x with
      pendErr := some ⟨3, c.addr / 2 ^ 18, c.pip / 64 % 16, c.step, c.addr % 2 ^ 18, c.pip⟩ })
  else s1

theorem doFarTransferComplete_waiting {p n : Nat} {c : MemWait}
    (h : (s.part p).memWaits.find? (fun c => c.bunch == n && decide (2 ≤ c.kind)) = some c) (status : Nat) (w : W128) :
    doFarTransferComplete p n status w s = ((s.farEnd p n status w c).memWaitsOver p).quayTake (n / 8) status
      (bankAddress (c.addr / 2 ^ 18) (c.addr % 2 ^ 18)) := by
  simp only [doFarTransferComplete, h, State.farEnd]

theorem State.farEnd_memWaits (p n status : Nat) (w : W128) (c : MemWait) : ((s.farEnd p n status w c).part p).memWaits =
    (s.part p).memWaits.filter (fun y => !(y.bunch == n && decide (2 ≤ y.kind))) := by
  unfold State.farEnd
  extract_lets s1
  have h1 : (s1.part p).memWaits = (s.part p).memWaits.filter (fun y => !(y.bunch == n && decide (2 ≤ y.kind))) := by
    unfold s1
    rw [State.part_modPart]
  split
  · exact h1
  · split
    · rw [State.part_modPart]
      exact h1
    · exact h1

theorem State.farEnd_rpend (p n status : Nat) (w : W128) (c : MemWait) : (s.farEnd p n status w c).rpend =
    if c.kind = 2 ∧ status = 0 then SMap.set none s.rpend n (some w) else s.rpend := by
  unfold State.farEnd
  split
  · rfl
  · split <;> rfl

theorem State.farEnd_rdata (p n status : Nat) (w : W128) (c : MemWait) : (s.farEnd p n status w c).rdata = s.rdata := by
  unfold State.farEnd
  split
  · rfl
  · split <;> rfl

/-- The far command of a bunch that waits is over: what it waited for is gone, and a read that succeeds loads its word. -/
theorem doFarTransferComplete_effect {p n : Nat} {c : MemWait}
    (h : (s.part p).memWaits.find? (fun c => c.bunch == n && decide (2 ≤ c.kind)) = some c) (status : Nat) (w : W128) :
    ((doFarTransferComplete p n status w s).part p).memWaits =
        (s.part p).memWaits.filter (fun y => !(y.bunch == n && decide (2 ≤ y.kind))) ∧
      (c.kind = 2 → status = 0 → SMap.get none (doFarTransferComplete p n status w s).rpend n = some w) ∧
      (¬(c.kind = 2 ∧ status = 0) → (doFarTransferComplete p n status w s).rpend = s.rpend) ∧
      (doFarTransferComplete p n status w s).rdata = s.rdata := by
  rw [doFarTransferComplete_waiting h]
  generalize bankAddress (c.addr / 2 ^ 18) (c.addr % 2 ^ 18) = addr
  obtain ⟨hparts, hrpend, hrdata, _⟩ := State.quayTake_frame (s := (s.farEnd p n status w c).memWaitsOver p) (n / 8) status addr
  obtain ⟨hw, hrpend1, hrdata1⟩ := State.memWaitsOver_frame (s := s.farEnd p n status w c) p
  rw [State.part, hparts, hrpend, hrdata, hrpend1, hrdata1, State.farEnd_rpend, State.farEnd_rdata]
  refine ⟨(hw p).trans (State.farEnd_memWaits ..), fun hk hst => ?_, fun hk => if_neg hk, rfl⟩
  rw [if_pos ⟨hk, hst⟩]
  exact SMap.get_set_self _ _ _ _

/-! ## Responses (R400, R403) -/

theorem exec_nocResponse (q : Fin 44) (tag : Fin 64) (status : Fin 8) (data : List SealedWord) (ok : Bool) :
    exec (.nocResponse q tag status data ok) s = .next (doNocResponse q.val tag.val status.val (data.map (·.word))
      (data.map (·.sealBits)) ok s) := rfl

theorem doNocResponse_dead {q : Nat} (h : s.quayIsDead q = true) (tag status : Nat) (data : List W128)
    (seals : List (BitVec 16)) (ok : Bool) : doNocResponse q tag status data seals ok s = s := by
  rw [doNocResponse, if_pos (by simp [h])]

theorem doNocResponse_alive {q : Nat} (hd : 2 ≤ s.rd R.PWR_STATUS.DEV_STATE 0) (h : s.quayIsDead q = false)
    (tag status : Nat) (data : List W128) (seals : List (BitVec 16)) (ok : Bool) :
    doNocResponse q tag status data seals ok s = s.response q tag status data (ok && sealsCheck data seals) := by
  rw [doNocResponse, if_neg (by simp [h]; omega)]

/-- The harbourmaster's node takes a response as that of a completion record. -/
theorem State.response_harbourmaster (tag status : Nat) (data : List W128) (ok : Bool) :
    s.response 38 tag status data ok = doCompletionRecordResponse tag status s := by
  simp only [State.response, Nat.reduceLT, Nat.reduceLeDiff, Nat.reduceEqDiff, and_false, if_false, if_true]

/-- The node of acquisition unit u takes a response as that of a buffer write. -/
theorem State.response_acquisition {u : Nat} (h : u < 4) (tag status : Nat) (data : List W128) (ok : Bool) :
    s.response (28 + u) tag status data ok = doAcqWriteResponse u tag status s := by
  simp only [State.response]
  rw [if_neg (by omega), if_neg (by omega), if_pos (by omega), Nat.add_sub_cancel_left]

/-- The node of a model core takes the response to a far load that waits. -/
theorem State.response_farLoad {m tag : Nat} (hm : m < 16) (h : (s.core m).wait.any (fun r => r.tag == tag) = true)
    (status : Nat) (data : List W128) :
    s.response (12 + m) tag status data true = doFarLoadResponse m tag status (data.headD 0) s := by
  simp only [State.response, Nat.add_sub_cancel_left, Bool.not_true, Bool.and_false, Bool.false_eq_true, if_false]
  rw [if_neg (by omega), if_pos (by omega), if_pos h]

/-- The node of a bank takes the response to the far command of a bunch that a partition holds. -/
theorem State.response_farCommand {n p : Nat} (hn : n < 64) (h : s.holderOf n = some p) (status : Nat) (data : List W128) :
    s.response (n / 8) n status data true = doFarTransferComplete p n status (data.headD 0) s := by
  simp only [State.response, Bool.not_true, Bool.and_false, Bool.false_eq_true, if_false, if_true, State.farAnswered, h]
  rw [if_pos (by omega)]

/-- A bare quay takes a response as that of the request of its tag; a SEAL of its own stands in place of status 0. -/
theorem State.response_bare {q : Nat} (h : bareQuay q = true) (tag status : Nat) (data : List W128) (ok : Bool) :
    s.response q tag status data ok =
      s.bareResponse q tag (if status == 0 && !data.isEmpty && !ok then 3 else status) (status == 0 && !data.isEmpty && !ok) := by
  have hq : 8 ≤ q ∧ q < 12 ∨ q = 33 := by simpa [bareQuay] using h
  simp only [State.response]
  rw [if_neg (by omega), if_neg (by omega), if_neg (by omega), if_neg (by omega), if_neg (by omega), if_neg (by omega)]

theorem State.bareSeal_quayReqs (q addr : Nat) : (s.bareSeal q addr).quayReqs = s.quayReqs := by
  unfold State.bareSeal
  split
  · rw [State.logEvent_quayReqs, State.err_quayReqs]
  · rw [State.logEvent_quayReqs, State.err_quayReqs]

/-- DECODE at a quay sets the interrupt bit of its decode errors (R28). -/
theorem State.quayTake_decode (node addr : Nat) : (s.quayTake node 1 addr).rd (intBit .noc 1) node = 1 := by
  show (State.raise _ .noc node 3).rd _ _ = 1
  rw [State.raise_rd_apart (by decide)]
  exact State.raise_self .noc node 1

/-- A response at a bare quay ends the request of its tag. -/
theorem State.bareResponse_effect {q tag : Nat} {r : Nat × Nat × Nat}
    (h : s.quayReqs.find? (fun r => r.1 == q && r.2.1 == tag) = some r) (status : Nat) (bad : Bool) :
    (s.bareResponse q tag status bad).quayReqs = s.quayReqs.filter (fun x => !(x.1 == q && x.2.1 == tag)) ∧
      (status = 1 → (s.bareResponse q tag status bad).rd (intBit .noc 1) q = 1) := by
  simp only [State.bareResponse, h]
  refine ⟨?_, fun e => by rw [e]; exact State.quayTake_decode q r.2.2⟩
  have hreqs := fun t : State => (State.quayTake_frame (s := t) q status r.2.2).2.2.2
  rw [hreqs]
  split
  · exact State.bareSeal_quayReqs q r.2.2
  · rfl

/-! ## Dead quays (R403) -/

/-- A quay that was alive is declared dead and its interrupt is set. -/
theorem doQuayDead_effect {n : Nat} (hd : 2 ≤ s.rd R.PWR_STATUS.DEV_STATE 0) (h : s.quayIsDead n = false) :
    (doQuayDead n s).rd R.NOC_STATUS.DEAD n = 1 ∧ (doQuayDead n s).rd (intBit .noc 0) n = 1 := by
  rw [doQuayDead, if_neg (by simp [h]; omega)]
  refine ⟨?_, ?_⟩
  · rw [State.logEvent_rd_page (by decide), State.raise_rd _ _ _ rfl, State.rd_wr_self]
    rfl
  · rw [State.logEvent_rd_page (show Page.noc ≠ .log by decide)]
    exact State.raise_self .noc n 0

theorem exec_revive {a : Accessor} {q : Fin 44} (h : s.accessCode a .noc q.val 0x04 true = 0) :
    exec (.revive a q) s = .next (doRevive a q.val s) := congrArg Host.Outcome.next (State.access_ok h _)

/-! ## The statement -/

/-- Settles O42: a request is answered by its quay or by the block it reaches, and a response goes to what waits at its node. -/
theorem quaysAnswerAndTake : Obligations.QuaysAnswerAndTake := by
  unfold Obligations.QuaysAnswerAndTake
  refine ⟨⟨?reserved, ?unmapped, ?misrouted, ?dead, ?romRead, ?romWrite, ?asleep, ?bank⟩,
    ?absorbed, ?record, ?acq, ?load, ?far, ?bare, ?dies, ?revived⟩
  case reserved =>
    intro k s hop hp
    show execNocRequest k s = _
    rw [execNocRequest, if_pos ⟨hop, hp⟩]
  case unmapped =>
    intro k s hd ho
    rw [exec_nocRequest_answered hd (.inr (State.performed_of_unmapped ho)),
      State.takeRequestPacket_unmapped ((State.bareSent_ownerOf k).trans ho)]
    rfl
  case misrouted =>
    intro k d s hd ho hne
    rw [exec_nocRequest_answered hd (.inr (State.performed_of_owner ho (.inl hne))),
      State.takeRequestPacket_misrouted ((State.bareSent_ownerOf k).trans ho) hne]
    rfl
  case dead =>
    intro k s hd ho hq he
    have hdead : (s.quayIsDead k.dest.val && !forEdge k.addr.toNat) = true := by simp [hq, he]
    rw [exec_nocRequest_answered hd (.inr (State.performed_of_owner ho (.inr (.inl hdead)))),
      State.takeRequestPacket_owned ((State.bareSent_ownerOf k).trans ho), State.bareSent_quayIsDead, if_pos hdead]
    rfl
  case romRead =>
    intro k s hop hlen ha hd ho hq
    rw [exec_nocRequest_answered hd (.inl (by omega)), State.takeRequestPacket_owned ((State.bareSent_ownerOf k).trans ho),
      State.bareSent_quayIsDead, hq, State.awakeAt_bootRom ha, State.serve_bootRom_read hop hlen ha]
    rfl
  case romWrite =>
    intro k s hop ha hd ho hq
    rw [exec_nocRequest_answered hd (.inl (by omega)), State.takeRequestPacket_owned ((State.bareSent_ownerOf k).trans ho),
      State.bareSent_quayIsDead, hq, State.awakeAt_bootRom ha, State.serve_bootRom_write hop ha]
    rfl
  case asleep =>
    intro k s h1 h2 hd ho hq hs
    rw [← State.awakeAt_bank h1 h2] at hs
    rw [exec_nocRequest_answered hd (.inr (State.performed_of_owner ho (.inr (.inr hs)))),
      State.takeRequestPacket_owned ((State.bareSent_ownerOf k).trans ho), State.bareSent_quayIsDead, hq,
      State.bareSent_awakeAt, hs]
    rfl
  case bank =>
    intro k s hop h1 h2 hd ho hq hs hbare hheld htakes hcheck
    rw [← State.awakeAt_bank h1 h2] at hs
    have hserve : s.takeRequestPacket k = s.bankArrive k := by
      rw [State.takeRequestPacket_owned ho, hq, hs, State.serve_bank h1 h2]
      rfl
    refine ⟨_, exec_nocRequest_answered hd (.inl hop), ?_⟩
    rw [State.bareSent_other hbare, hserve, State.bankArrive_taken hheld htakes hcheck]
    exact ⟨rfl, rfl, congrArg Bank.queue (State.bank_modBank _ _)⟩
  case absorbed =>
    intro q tag status data ok s h
    rw [exec_nocResponse, doNocResponse_dead h]
  case record =>
    intro tag status data ok s hd hq
    rw [exec_nocResponse, doNocResponse_alive hd (by exact hq)]
    exact congrArg Host.Outcome.next (State.response_harbourmaster ..)
  case acq =>
    intro u q tag status data ok s hu hd hq
    rw [exec_nocResponse, doNocResponse_alive hd hq, hu, State.response_acquisition u.isLt]
    rfl
  case load =>
    intro m q tag status data s hm hseals hd hq hwait
    rw [exec_nocResponse, doNocResponse_alive hd hq, hseals, hm, Bool.and_self, State.response_farLoad m.isLt hwait]
    rfl
  case far =>
    intro n p q tag status data c s htag hqn hseals hd hq hp hc
    obtain ⟨hw, hload, _⟩ := doFarTransferComplete_effect hc status.val ((data.map (·.word)).headD 0)
    refine ⟨_, exec_nocResponse .., ?_⟩
    rw [doNocResponse_alive hd hq, hseals, hqn, htag, Bool.and_self, State.response_farCommand (by omega) hp]
    exact ⟨hw, hload⟩
  case bare =>
    intro q tag status data ok r s hb hd hq hr
    refine ⟨_, exec_nocResponse .., ?_⟩
    rw [doNocResponse_alive hd hq, State.response_bare hb]
    obtain ⟨hreqs, hdecode⟩ := State.bareResponse_effect hr (if status.val == 0 && !(data.map (·.word)).isEmpty &&
      !(ok && sealsCheck (data.map (·.word)) (data.map (·.sealBits))) then 3 else status.val)
      (status.val == 0 && !(data.map (·.word)).isEmpty && !(ok && sealsCheck (data.map (·.word)) (data.map (·.sealBits))))
    exact ⟨hreqs, fun e => hdecode (by simp [e])⟩
  case dies =>
    intro q s hd hq
    exact ⟨_, rfl, doQuayDead_effect hd hq⟩
  case revived =>
    intro a q s h
    refine ⟨_, exec_revive h, ?_, State.respond_outbox a 0⟩
    rw [doRevive, State.respond_rd, State.rd_wr_self]
    rfl

end Sys2Proof.Machine

/-! Releases: what a partition keeps through the bookkeeping of a cycle, how a release is taken or missed (R20, R86, R87), the
timer's instants (R90) and the edges of a release line (R94). -/

namespace Sys2Proof.Machine
open Sys2Proof

variable {s : State}

/-! ## The course of a partition -/

/-- A partition's own data without what is kept beside its course: the stall ledger, the signature, the rejoin phase, probe
bits, snapshots, the log's records and an error that waits. -/
def Part.course (x : Part) : Part :=
  { x with ledger := {}, sig := 0, rejoin := 0, probeBuf := [], snap := {}, snapCycle := 0, logPos := 0, recIn := [],
           recDeliv := [], pendErr := none }

theorem State.course_of_parts {t : State} (h : t.parts = s.parts) (p : Nat) : (t.part p).course = (s.part p).course := by
  rw [State.part, h]
  rfl

theorem State.modPart_course (q p : Nat) {f : Part → Part} (h : ∀ x, (f x).course = x.course := by intro _; rfl) :
    ((s.modPart q f).part p).course = (s.part p).course := by
  by_cases e : p = q
  · rw [e, State.part_modPart, h]
  · rw [State.part_modPart_ne e]

/-- Parts that follow one course agree in each of its fields. -/
theorem Part.eq_of_course {x y : Part} (h : x.course = y.course) : x.inCycle = y.inCycle ∧ x.step = y.step ∧
    x.single = y.single ∧ x.gridNext = y.gridNext ∧ x.opened = y.opened ∧ x.frozenFrom = y.frozenFrom ∧
    x.replay = y.replay :=
  ⟨(congrArg Part.inCycle h :), (congrArg Part.step h :), (congrArg Part.single h :), (congrArg Part.gridNext h :),
    (congrArg Part.opened h :), (congrArg Part.frozenFrom h :), (congrArg Part.replay h :)⟩

/-! ## STATE (R102, R244) -/

theorem State.setState_rd_apart {g : Fld} (h : R.PRT_STATUS.STATE.apart g = true) (p v d : Nat) :
    (s.setState p v).rd g d = s.rd g d :=
  List.foldlRecOn (motive := fun t : State => t.rd g d = s.rd g d) _ _ rfl
    (fun _ ht m _ => (State.rd_wr_apart h m d v).trans ht)

/-- STATE of a partition reads what `setState` sets, whatever followers are set after it. -/
theorem State.setState_pstate (p v : Nat) : (s.setState p v).pstate p = v % 16 := by
  unfold State.setState State.members State.pstate
  rw [List.foldl_cons]
  refine List.foldlRecOn (motive := fun t : State => t.rd R.PRT_STATUS.STATE p = v % 16) _ _ (State.rd_wr_self _ _ _) ?_
  intro t ht m _
  rw [State.rd_wr]
  split
  · rfl
  · exact ht

theorem State.setState_parts (p v : Nat) : (s.setState p v).parts = s.parts :=
  List.foldlRecOn (motive := fun t : State => t.parts = s.parts) _ _ rfl (fun _ ht _ _ => ht)

/-! ## Stalls and time breaks (R88, R89, R111) -/

theorem State.timeBreak_parts (p : Nat) : (s.timeBreak p).parts = s.parts := by
  unfold State.timeBreak
  split
  · exact State.raise_parts ..
  · rfl

theorem State.timeBreak_rd_apart {g : Fld} (h1 : R.PRT_BREAK_CYCLE_LO.COUNT.apart g = true)
    (h2 : R.PRT_BREAK_CYCLE_HI.COUNT.apart g = true) (h3 : (intBit .prt 0).apart g = true) (p d : Nat) :
    (s.timeBreak p).rd g d = s.rd g d := by
  unfold State.timeBreak State.wr64
  split
  · rw [State.raise_rd_apart h3, State.rd_wr_apart h2, State.rd_wr_apart h1]
  · rfl

theorem State.freeRunBreak_parts (p : Nat) : (s.freeRunBreak p).parts = s.parts := by
  unfold State.freeRunBreak
  split
  · exact State.timeBreak_parts p
  · rfl

/-- A stall that begins leaves the partition's course as it was. -/
theorem State.stallBegin_course (p mask q : Nat) : ((s.stallBegin p mask).part q).course = (s.part q).course := by
  unfold State.stallBegin
  split
  · rfl
  · extract_lets g s1 s2
    have h1 : (s1.part q).course = (s.part q).course := by
      show ((s.modPart p (fun x => { x with ledger := ledgerBegin x.ledger mask s.now })).part q).course = _
      exact State.modPart_course p q
    have h2 : (s2.part q).course = (s.part q).course := by
      unfold s2
      split
      · exact (State.course_of_parts (State.freeRunBreak_parts p) q).trans h1
      · exact h1
    split
    · exact h2
    · exact (State.course_of_parts (State.raise_parts ..) q).trans h2

/-- A stall that begins leaves STATE as it was. -/
theorem State.stallBegin_pstate (p mask q : Nat) : (s.stallBegin p mask).pstate q = s.pstate q := by
  unfold State.stallBegin State.pstate
  split
  · rfl
  · extract_lets g s1 s2
    have h1 : s1.rd R.PRT_STATUS.STATE q = s.rd R.PRT_STATUS.STATE q := State.rd_wr_apart (by decide) p q 1
    have h2 : s2.rd R.PRT_STATUS.STATE q = s.rd R.PRT_STATUS.STATE q := by
      unfold s2 State.freeRunBreak
      split
      · split
        · rw [State.timeBreak_rd_apart (by decide) (by decide) (by decide)]
          exact h1
        · exact h1
      · exact h1
    split
    · exact h2
    · rw [State.raise_rd _ _ _ rfl]
      exact h2

/-! ## Taking a release (R20, R86, R250) -/

theorem State.sampleInbound_frame (l : List Nat) (b : Inbound) : (s.sampleInbound l b).parts = s.parts ∧
    (s.sampleInbound l b).regs = s.regs ∧ (s.sampleInbound l b).fabPres = s.fabPres := by
  unfold State.sampleInbound
  extract_lets s1
  have h1 : s1.parts = s.parts ∧ s1.regs = s.regs ∧ s1.fabPres = s.fabPres :=
    List.foldlRecOn (motive := fun t : State => t.parts = s.parts ∧ t.regs = s.regs ∧ t.fabPres = s.fabPres) _ _
      ⟨rfl, rfl, rfl⟩ (fun _ ht _ _ => ht)
  exact List.foldlRecOn (motive := fun t : State => t.parts = s.parts ∧ t.regs = s.regs ∧ t.fabPres = s.fabPres) _ _
    h1 (fun _ ht _ _ => ht)

theorem State.captureInbound_frame (p : Nat) (b : Inbound) : (s.captureInbound p b).parts = s.parts ∧
    (s.captureInbound p b).regs = s.regs ∧ (s.captureInbound p b).fabPres = s.fabPres :=
  List.foldlRecOn (motive := fun t : State => t.parts = s.parts ∧ t.regs = s.regs ∧ t.fabPres = s.fabPres) _ _
    (State.sampleInbound_frame _ b) (fun _ ht _ _ => ht)

theorem State.loseProtection_parts (p cause : Nat) : (s.loseProtection p cause).parts = s.parts :=
  (State.loseProtection_keeps (M := 9025891304734721) rfl (Keeps.refl _ s)).same .parts rfl

/-- A snapshot leaves the course of every partition, the PRT_ registers and what the ports present as they were. -/
theorem State.takeSnapshot_course (p cycle q : Nat) : ((s.takeSnapshot p cycle).part q).course = (s.part q).course := by
  unfold State.takeSnapshot
  extract_lets banks off s1 s2 s3
  have h1 : s1.parts = s.parts :=
    List.foldlRecOn (motive := fun t : State => t.parts = s.parts) _ _ rfl (fun _ ht _ _ => ht)
  have h2 : (s2.part q).course = (s.part q).course := (State.modPart_course p q).trans (State.course_of_parts h1 q)
  have h3 : (s3.part q).course = (s.part q).course := (State.course_of_parts (s := s2) (t := s3) rfl q).trans h2
  split
  · exact (State.course_of_parts (State.loseProtection_parts p 1) q).trans h3
  · exact h3

theorem State.takeSnapshot_frame (p cycle : Nat) : (s.takeSnapshot p cycle).fabPres = s.fabPres ∧
    ∀ g : Fld, g.page = .prt → errorReg (g.off % 4096) = false → ∀ d, (s.takeSnapshot p cycle).rd g d = s.rd g d := by
  have h := State.takeSnapshot_keeps (M := 297256267456451585) (a1 := p) (a2 := cycle) rfl (Keeps.refl _ s)
  obtain ⟨_, _, hpres, _⟩ := h.same .outbound rfl
  exact ⟨hpres, fun g hp he d => h.same (.regs .prt) rfl g d hp he⟩

/-- STATE of a partition that takes a release from Armed, Loaded, Stopped or Running is Running. -/
def State.running (s : State) (p : Nat) : State :=
  if s.pstate p = 3 ∨ s.pstate p = 2 ∨ s.pstate p = 5 then s.setState p 4 else s

theorem State.running_parts (p : Nat) : (s.running p).parts = s.parts := by
  unfold State.running
  split
  · exact State.setState_parts p 4
  · rfl

theorem State.running_rd_apart {g : Fld} (h : R.PRT_STATUS.STATE.apart g = true) (p d : Nat) :
    (s.running p).rd g d = s.rd g d := by
  unfold State.running
  split
  · exact State.setState_rd_apart h p 4 d
  · rfl

theorem State.running_pstate {p : Nat} (h : s.pstate p = 3 ∨ s.pstate p = 4) : (s.running p).pstate p = 4 := by
  unfold State.running
  split
  · exact State.setState_pstate p 4
  · omega

theorem State.running_fabPres (p : Nat) : (s.running p).fabPres = s.fabPres := by
  unfold State.running
  split
  · exact List.foldlRecOn (motive := fun t : State => t.fabPres = s.fabPres) _ _ rfl (fun _ ht _ _ => ht)
  · rfl

/-- The partition begins its cycle: its course as a release leaves it. -/
def State.begun (s : State) (p : Nat) (b : Inbound) : State :=
  let s2 := ((s.running p).captureInbound p b).modPart p (fun x => { x with
    inCycle := true, step := 0, started := true, recDeliv := [] })
  s2.modPart p (fun x => { x with recIn := (s2.bunches p).map (fun n => SMap.get 0 s2.fabCap n) })

/-- A release: the cycle begins, a snapshot falls before cycle 0, and the members' signatures start. -/
theorem State.takeRelease_eq (p : Nat) (b : Inbound) : s.takeRelease p b =
    ((if s.rd64 R.PRT_CYCLE_LO.COUNT R.PRT_CYCLE_HI.COUNT p = 0 ∧ (s.begun p b).snapOn p then (s.begun p b).takeSnapshot p 0
        else s.begun p b).members p).foldl
      (fun s m => s.modPart m (fun x => { x with sig := crcInit, rejoin := if x.rejoin = 3 then 4 else x.rejoin }))
      (if s.rd64 R.PRT_CYCLE_LO.COUNT R.PRT_CYCLE_HI.COUNT p = 0 ∧ (s.begun p b).snapOn p then (s.begun p b).takeSnapshot p 0
        else s.begun p b) := rfl

theorem State.begun_course (p : Nat) (b : Inbound) : ((s.begun p b).part p).course =
    { (s.part p).course with inCycle := true, step := 0, started := true } := by
  have hparts : ((s.running p).captureInbound p b).part p = s.part p := by
    rw [State.part, (State.captureInbound_frame p b).1, State.running_parts]
    rfl
  unfold State.begun
  rw [State.modPart_course, State.part_modPart, hparts]
  rfl

theorem State.begun_frame (p : Nat) (b : Inbound) : (s.begun p b).regs = (s.running p).regs ∧
    (s.begun p b).fabPres = s.fabPres :=
  ⟨(State.captureInbound_frame p b).2.1, (State.captureInbound_frame p b).2.2.trans (State.running_fabPres p)⟩

/-- What starts the members' signatures changes neither a course, a register nor what the ports present. -/
theorem State.startSigs_frame (l : List Nat) (q : Nat) :
    ((l.foldl (fun s m => s.modPart m (fun x => { x with
      sig := crcInit, rejoin := if x.rejoin = 3 then 4 else x.rejoin })) s).part q).course = (s.part q).course ∧
    (l.foldl (fun s m => s.modPart m (fun x => { x with
      sig := crcInit, rejoin := if x.rejoin = 3 then 4 else x.rejoin })) s).regs = s.regs ∧
    (l.foldl (fun s m => s.modPart m (fun x => { x with
      sig := crcInit, rejoin := if x.rejoin = 3 then 4 else x.rejoin })) s).fabPres = s.fabPres := by
  induction l generalizing s with
  | nil => exact ⟨rfl, rfl, rfl⟩
  | cons m l ih =>
    rw [List.foldl_cons]
    obtain ⟨hc, hr, hp⟩ := ih (s := s.modPart m (fun x => { x with
      sig := crcInit, rejoin := if x.rejoin = 3 then 4 else x.rejoin }))
    exact ⟨hc.trans (State.modPart_course m q), hr, hp⟩

/-- A partition that takes a release is in step 0 of a cycle; of its PRT_ registers only STATE can change (R86). -/
theorem State.takeRelease_effect (p : Nat) (b : Inbound) :
    ((s.takeRelease p b).part p).course = { (s.part p).course with inCycle := true, step := 0, started := true } ∧
    (s.takeRelease p b).fabPres = s.fabPres ∧
    ∀ g : Fld, g.page = .prt → errorReg (g.off % 4096) = false → ∀ d,
      (s.takeRelease p b).rd g d = (s.running p).rd g d := by
  obtain ⟨hregs, hpres⟩ := State.begun_frame (s := s) p b
  have hrd : ∀ (g : Fld) (d : Nat), (s.begun p b).rd g d = (s.running p).rd g d := fun g d => by
    rw [State.rd, hregs]
    rfl
  rw [State.takeRelease_eq]
  split
  · obtain ⟨hc, hr, hp⟩ := State.startSigs_frame (s := (s.begun p b).takeSnapshot p 0)
      (((s.begun p b).takeSnapshot p 0).members p) p
    obtain ⟨hsnap, hsrd⟩ := State.takeSnapshot_frame (s := s.begun p b) p 0
    refine ⟨hc.trans ((State.takeSnapshot_course p 0 p).trans (State.begun_course p b)), hp.trans (hsnap.trans hpres),
      fun g hg he d => ?_⟩
    rw [State.rd, hr]
    exact (hsrd g hg he d).trans (hrd g d)
  · obtain ⟨hc, hr, hp⟩ := State.startSigs_frame (s := s.begun p b) ((s.begun p b).members p) p
    refine ⟨hc.trans (State.begun_course p b), hp.trans hpres, fun g hg he d => ?_⟩
    rw [State.rd, hr]
    exact hrd g d

/-- A release that begins a cycle: Running, in step 0, with the timer's grid, the step stores and the lanes as they were. -/
theorem State.beginCycle_effect {p : Nat} (h : s.pstate p = 3 ∨ s.pstate p = 4) (b : Inbound) :
    (s.beginCycle p b).pstate p = 4 ∧ ((s.beginCycle p b).part p).inCycle = true ∧ ((s.beginCycle p b).part p).step = 0 ∧
    ((s.beginCycle p b).part p).gridNext = (s.part p).gridNext ∧ (s.beginCycle p b).rows = s.rows ∧
    (s.beginCycle p b).lanes = s.lanes := by
  obtain ⟨hcourse, _, hrd⟩ := State.takeRelease_effect (s := s) p b
  have hstate : (s.takeRelease p b).pstate p = 4 :=
    (hrd R.PRT_STATUS.STATE rfl rfl p).trans (State.running_pstate h)
  have hkeeps := State.beginCycle_keeps (M := 441371455532307969) (a1 := p) (a2 := b) rfl (Keeps.refl _ s)
  have hlanes := (hkeeps.same .orchard rfl).1
  have hfields : (s.beginCycle p b).pstate p = 4 ∧ ((s.beginCycle p b).part p).course =
      { (s.part p).course with inCycle := true, step := 0, started := true } := by
    unfold State.beginCycle
    extract_lets s1
    split
    · exact ⟨(State.stallBegin_pstate ..).trans hstate, (State.stallBegin_course ..).trans hcourse⟩
    · exact ⟨hstate, hcourse⟩
  obtain ⟨hs, hc⟩ := hfields
  exact ⟨hs, (congrArg Part.inCycle hc :), (congrArg Part.step hc :), (congrArg Part.gridNext hc :),
    hkeeps.same .rows rfl, hlanes⟩

/-! ## Releases on time and missed (R86, R87) -/

/-- A release of a partition that waits for one, with none pending, begins its cycle. -/
theorem State.release_begins {p : Nat} (hf : s.isFollower p = false) (hs : (s.part p).single = false)
    (hp : s.on R.PRT_STATUS.PENDING p = false)
    (h : (s.pstate p = 3 ∧ s.on R.PRT_STATUS.WAIT_LOCK p = false) ∨ s.isWaiting p = true) (b : Inbound) :
    s.release p b = s.beginCycle p b := by
  rw [State.release, if_neg (by simp [hf, hs])]
  split
  · rfl
  · next hn =>
    have hw : s.isWaiting p = true := h.resolve_left (fun ⟨h3, hl⟩ => hn ⟨h3, by simp [hl]⟩)
    simp only [hw, hp, if_true, Bool.false_eq_true, if_false]

/-- A release of a partition that runs a cycle is missed. -/
theorem State.release_misses {p : Nat} (hf : s.isFollower p = false) (hs : (s.part p).single = false)
    (hst : s.pstate p = 4) (hc : (s.part p).inCycle = true) (b : Inbound) : s.release p b = s.missRelease p := by
  rw [State.release, if_neg (by simp [hf, hs]), if_neg (by omega), if_neg (by simp [State.isWaiting, hc]), if_pos (.inl hst)]

/-- A free-running partition is released while it waits and not for the cascade's START (R89). -/
theorem doCycleRelease_free {p : Nat} (h : s.rd R.PRT_CTRL.REL_SRC p = 0) (b : Inbound) : doCycleRelease p b s =
    if (s.pstate p = 3 ∨ s.isWaiting p) ∧ !s.awaitsStart p then s.release p b else s := by
  simp only [doCycleRelease, h]

/-- A pin-released partition is released for an edge that its synchroniser has taken (R94). -/
theorem doCycleRelease_pin {p : Nat} (h : s.rd R.PRT_CTRL.REL_SRC p = 2) (b : Inbound) : doCycleRelease p b s =
    if (s.part p).edges = 0 ∨ s.awaitsStart p then s
    else (s.modPart p (fun x => { x with edges := x.edges - 1 })).release p b := by
  simp only [doCycleRelease, h]

/-- A missed release is pending, counted and signalled (R87). -/
theorem State.missRelease_effect (p : Nat) : (s.missRelease p).rd R.PRT_STATUS.PENDING p = 1 ∧
    (s.missRelease p).rd R.PRT_RELEASE_MISSED.COUNT p = satAdd 32 (s.rd R.PRT_RELEASE_MISSED.COUNT p) 1 ∧
    (s.missRelease p).rd (intBit .prt 1) p = 1 ∧ (s.missRelease p).parts = s.parts := by
  unfold State.missRelease State.count
  refine ⟨?_, ?_, ?_, ?_⟩
  · rw [State.timeBreak_rd_apart (by decide) (by decide) (by decide), State.raise_rd _ _ _ rfl, State.rd_wr_apart (by decide),
      State.rd_wr_self]
    rfl
  · rw [State.timeBreak_rd_apart (by decide) (by decide) (by decide), State.raise_rd _ _ _ rfl, State.rd_wr_self,
      State.rd_wr_apart (by decide)]
    exact Nat.mod_eq_of_lt (lt_of_le_of_lt (Nat.min_le_right _ _) (by decide))
  · rw [State.timeBreak_rd_apart (by decide) (by decide) (by decide)]
    exact State.raise_self .prt p 1
  · rw [State.timeBreak_parts, State.raise_parts]
    rfl

/-! ## The edges of a release line (R94) -/

/-- Whether a partition takes an edge of line l: pin-released by that line and edge, and Armed, Running or Frozen. -/
def State.takesEdge (s : State) (l : Nat) (rising : Bool) (p : Nat) : Bool :=
  decide (s.rd R.PRT_CTRL.REL_SRC p = 2 ∧ s.rd R.PRT_CTRL.EXT_SEL p = l ∧ s.rd R.PRT_CTRL.EXT_EDGE p = b2n (!rising) ∧
    (s.pstate p = 3 ∨ s.pstate p = 4 ∨ s.pstate p = 6))

/-- The partition's synchroniser takes the edge of line l. -/
def State.takeEdge (l : Nat) (rising : Bool) (s : State) (p : Nat) : State :=
  if s.takesEdge l rising p then s.modPart p (fun x => { x with edges := x.edges + 1 }) else s

theorem State.takeEdge_regs (l : Nat) (rising : Bool) (p : Nat) : (s.takeEdge l rising p).regs = s.regs := by
  unfold State.takeEdge
  split <;> rfl

theorem State.takesEdge_of_regs {t : State} (h : t.regs = s.regs) (l : Nat) (rising : Bool) (p : Nat) :
    t.takesEdge l rising p = s.takesEdge l rising p := by
  exact decide_eq_decide.mpr (by simp only [State.pstate, State.rd, h])

/-- Each partition of a list takes the edge once. -/
theorem State.takeEdges_edges (l : Nat) (rising : Bool) {ps : List Nat} (hd : ps.Nodup) (p : Nat) :
    ((ps.foldl (State.takeEdge l rising) s).part p).edges =
      (s.part p).edges + (if p ∈ ps ∧ s.takesEdge l rising p = true then 1 else 0) := by
  induction ps generalizing s with
  | nil => simp
  | cons q ps ih =>
    obtain ⟨hq, hps⟩ := List.nodup_cons.mp hd
    rw [List.foldl_cons, ih hps, State.takesEdge_of_regs (State.takeEdge_regs l rising q)]
    by_cases e : p = q
    · subst e
      rw [if_neg (fun h => hq h.1)]
      simp only [List.mem_cons, true_or, true_and, State.takeEdge, Nat.add_zero]
      split
      · rw [State.part_modPart]
      · rfl
    · have hother : (s.takeEdge l rising q).part p = s.part p := by
        unfold State.takeEdge
        split
        · exact State.part_modPart_ne e _
        · rfl
      simp only [List.mem_cons, e, false_or, hother]

/-- An edge that nothing ignores goes to each partition that selects it, and then to the cascade's master line. -/
theorem doReleaseLineEdge_parts {l : Nat} (hi : s.lineIgnored l = false) (he : s.emuStopped = false) (rising : Bool) :
    (doReleaseLineEdge l rising s).parts = ((List.range 64).foldl (State.takeEdge l rising) s).parts := by
  have hfold : (List.range 64).foldl (fun (s : State) p =>
      if s.rd R.PRT_CTRL.REL_SRC p = 2 ∧ s.rd R.PRT_CTRL.EXT_SEL p = l ∧
          s.rd R.PRT_CTRL.EXT_EDGE p = b2n (!rising) ∧ (s.pstate p = 3 ∨ s.pstate p = 4 ∨ s.pstate p = 6) then
        s.modPart p (fun x => { x with edges := x.edges + 1 })
      else s) s = (List.range 64).foldl (State.takeEdge l rising) s := by
    congr 1
    funext t p
    simp only [State.takeEdge, State.takesEdge, decide_eq_true_eq]
  rw [doReleaseLineEdge, if_neg (by simp [hi]), if_neg (by simp [he]), hfold]
  dsimp only
  split
  · exact (State.issueOrder_keeps (M := 1048577) rfl (Keeps.refl _ _)).same .parts rfl
  · rfl

/-! ## The commands -/

theorem exec_cycleRelease (p : Fin 64) (b : Inbound) : exec (.cycleRelease p b) s = .next (doCycleRelease p.val b s) := rfl

theorem exec_timerInstant (p : Fin 64) (b : Inbound) : exec (.timerInstant p b) s = .next (doTimerInstant p.val b s) := rfl

theorem exec_releaseLineEdge (l : Fin 32) (rising : Bool) :
    exec (.releaseLineEdge l rising) s = .next (doReleaseLineEdge l.val rising s) := rfl

/-- Settles O10: a free-running partition and one whose instant has come take their release, one that runs a cycle misses it,
and an edge is taken by each partition that selects it. -/
theorem releasesBeginCycles : Obligations.ReleasesBeginCycles := by
  unfold Obligations.ReleasesBeginCycles
  refine ⟨?free, ?pin, ?timer, ?edge⟩
  case free =>
    intro p b s hf hs hsrc ha hp h
    have hst : s.pstate p.val = 3 ∨ s.isWaiting p.val = true := h.imp_left And.left
    have h34 : s.pstate p.val = 3 ∨ s.pstate p.val = 4 :=
      hst.imp_right (fun hw => by simp [State.isWaiting] at hw; exact hw.1)
    refine ⟨_, exec_cycleRelease p b, ?_⟩
    rw [doCycleRelease_free hsrc, if_pos ⟨hst, by simp [ha]⟩, State.release_begins hf hs hp h]
    obtain ⟨h1, h2, h3, _, h5, h6⟩ := State.beginCycle_effect h34 b
    exact ⟨h1, h2, h3, h5, h6⟩
  case pin =>
    intro p b s hf hs hsrc he hst hc
    refine ⟨_, exec_cycleRelease p b, ?_⟩
    have ha : s.awaitsStart p.val = false := by simp [State.awaitsStart, hst]
    have hpart := State.part_modPart (s := s) p.val (fun x => { x with edges := x.edges - 1 })
    rw [doCycleRelease_pin hsrc, if_neg (by simp [he, ha]), State.release_misses (s := s.modPart p.val _) hf
      (by rw [hpart]; exact hs) hst (by rw [hpart]; exact hc)]
    obtain ⟨h1, h2, h3, h4⟩ := State.missRelease_effect
      (s := s.modPart p.val (fun x => { x with edges := x.edges - 1 })) p.val
    refine ⟨h1, h2, h3, ?_⟩
    rw [State.part, h4]
    exact congrArg Part.edges hpart
  case timer =>
    intro p b s hf hs hsrc hl hemu ha hp hst hg
    have h34 : s.pstate p.val = 3 ∨ s.pstate p.val = 4 :=
      hst.imp_right (fun hw => by simp [State.isWaiting] at hw; exact hw.1)
    refine ⟨_, exec_timerInstant p b, ?_⟩
    rw [doTimerInstant, if_pos ⟨hsrc, by simp [hl], by omega, by simp [hemu], by simp [ha]⟩, State.timerRelease,
      State.nextInstant,
      if_pos hg]
    generalize hs1 : s.modPart p.val (fun x => { x with gridNext := x.gridNext + s.timerPeriod p.val }) = s1
    have hpart : s1.part p.val = { s.part p.val with gridNext := (s.part p.val).gridNext + s.timerPeriod p.val } := by
      rw [← hs1, State.part_modPart]
    have hregs : s1.regs = s.regs := by rw [← hs1]; rfl
    have hwait : (s1.pstate p.val = 3 ∧ s1.on R.PRT_STATUS.WAIT_LOCK p.val = false) ∨ s1.isWaiting p.val = true := by
      simp only [State.isWaiting, State.pstate, State.on, State.rd, hregs, hpart] at hst hl ⊢
      exact hst.imp_left (fun h => ⟨h, hl⟩)
    have h34' : s1.pstate p.val = 3 ∨ s1.pstate p.val = 4 := by
      simpa only [State.pstate, State.rd, hregs] using h34
    rw [State.release_begins (by simpa only [State.isFollower, State.role, State.rd, hregs] using hf) (by rw [hpart]; exact hs)
      (by simpa only [State.on, State.rd, hregs] using hp) hwait]
    obtain ⟨h1, h2, _, h4, _⟩ := State.beginCycle_effect h34' b
    exact ⟨h1, h2, h4.trans (by rw [hpart])⟩
  case edge =>
    intro l rising s hi he
    refine ⟨_, exec_releaseLineEdge l rising, fun p hp => ?_⟩
    have hedges := State.takeEdges_edges (s := s) l.val rising List.nodup_range p (ps := List.range 64)
    rw [State.part, doReleaseLineEdge_parts hi he]
    refine hedges.trans ?_
    simp only [List.mem_range, hp, true_and, State.takesEdge, decide_eq_true_eq]

end Sys2Proof.Machine

/-! The instruction-store loader (R185), the end of ungating (R467), and the spares (R72 to R76). -/

namespace Sys2Proof.Machine
open Sys2Proof

variable {s : State}

/-! ## The loader (R23, R185) -/

theorem exec_instructionWordWrite (p n : Fin 64) (b : Fin 16) (st : Fin 1024) (i : Fin 64) (w : W128) (chk : BitVec 16) :
    exec (.instructionWordWrite p n b st i w chk) s =
      .next (doInstructionWordWrite 63 p.val n.val b.val st.val i.val w chk s) := rfl

theorem doInstructionWordWrite_gated {p : Nat} (h : (s.part p).ungating = false) (node n b st i : Nat) (w : W128)
    (chk : BitVec 16) : doInstructionWordWrite node p n b st i w chk s = s.loadWord node p n b st i w chk := by
  rw [doInstructionWordWrite, if_neg (by simp [h])]

/-- A word with a good seal for a bunch of a partition in Loading is stored. -/
theorem State.loadWord_stores {p n : Nat} (hst : s.pstate p = 1) (hn : n ∈ s.bunches p) (node b st i : Nat) (w : W128) :
    SMap.get idleWord (s.loadWord node p n b st i w (sealOf w)).istore (s.isAt n b st i) = w ∧
      (s.loadWord node p n b st i w (sealOf w)).ecc clsIstore (s.isAt n b st i) = 0 ∧
      ((s.loadWord node p n b st i w (sealOf w)).part p).softSeen = ((s.part p).softSeen || softWord w) := by
  have hgo : ¬((s.pstate p != 1 || !(s.bunches p).contains n) = true) := by simp [hst, hn]
  rw [State.loadWord, if_neg hgo, if_neg (by simp)]
  extract_lets k
  refine ⟨?_, ?_, congrArg Part.softSeen (State.part_modPart _ _)⟩
  · rw [State.modPart_istore, State.setEcc_istore]
    exact SMap.get_set_self _ _ _ _
  · rw [State.ecc, State.modPart_health]
    exact State.ecc_setEcc _ _ _

/-- A word outside the partition or outside Loading, or with a bad seal, is recorded and not stored. -/
theorem State.loadWord_refuses {p n : Nat} {w : W128} {chk : BitVec 16}
    (h : s.pstate p ≠ 1 ∨ n ∉ s.bunches p ∨ sealOf w ≠ chk) (node b st i : Nat) :
    (s.loadWord node p n b st i w chk).istore = s.istore ∧
      ((s.loadWord node p n b st i w chk).part p).refusedWord = true ∧
      (s.on (errValid .prt) p = false → (s.loadWord node p n b st i w chk).rd (errCode .prt) p =
        (if s.pstate p ≠ 1 ∨ n ∉ s.bunches p then 15 else 9)) := by
  by_cases hin : s.pstate p ≠ 1 ∨ n ∉ s.bunches p
  · have hout : (s.pstate p != 1 || !(s.bunches p).contains n) = true := by simpa using hin
    rw [State.loadWord, if_pos hout, if_pos hin]
    refine ⟨State.err_istore .., congrArg Part.refusedWord (State.part_modPart _ _), fun hv => ?_⟩
    rw [State.modPart_rd, State.err_code hv]
    rfl
  · have hout : ¬((s.pstate p != 1 || !(s.bunches p).contains n) = true) := by simpa using hin
    have hseal : (sealOf w != chk) = true := by
      simp only [not_or, not_not] at hin
      rcases h with h | h | h
      · exact absurd hin.1 h
      · exact absurd hin.2 h
      · simpa using h
    rw [State.loadWord, if_neg hout, if_pos hseal, if_neg hin]
    refine ⟨(State.logEvent_istore ..).trans (State.err_istore ..), congrArg Part.refusedWord (State.part_modPart _ _),
      fun hv => ?_⟩
    rw [State.modPart_rd, State.logEvent_rd_page (show Page.prt ≠ .log by decide), State.err_code hv]
    rfl

/-! ## Ungating (R467) -/

theorem exec_bunchUngateDone (p : Fin 64) : exec (.bunchUngateDone p) s = .next (doBunchUngateDone p.val s) := rfl

/-- A bunch is gated on by two fields, whatever debug access is in progress. -/
theorem State.gateBunch_on (n : Nat) : s.gateBunch n true =
    (if n < 32 then s.wr R.PWR_BUNCH_ON_LO.ON 0 (setBit (s.rd R.PWR_BUNCH_ON_LO.ON 0) n 1)
      else s.wr R.PWR_BUNCH_ON_HI.ON 0 (setBit (s.rd R.PWR_BUNCH_ON_HI.ON 0) (n - 32) 1)).wr
      R.DMB_STATUS.ARRAY_CLOCK n (b2n s.emuStopped) := by
  simp only [State.gateBunch, Bool.not_true, Bool.false_and, Bool.false_eq_true, if_false, Bool.false_or]
  rfl

/-- Gating a bunch on leaves what it reads of an emulation halt, and every register of the other pages, as it was. -/
theorem State.gateBunch_on_frame (n : Nat) : (s.gateBunch n true).emuStopped = s.emuStopped ∧
    (s.gateBunch n true).parts = s.parts := by
  rw [State.gateBunch_on]
  split
  · refine ⟨?_, rfl⟩
    rw [State.emuStopped, State.rd_wr_apart (by decide), State.rd_wr_apart (by decide)]
    rfl
  · refine ⟨?_, rfl⟩
    rw [State.emuStopped, State.rd_wr_apart (by decide), State.rd_wr_apart (by decide)]
    rfl

/-- While the step clock runs, a bunch that is gated on gets its array cycle from it (R129). -/
theorem State.gateBunch_on_arrayClock (h : s.emuStopped = false) (n m : Nat) :
    (s.gateBunch n true).rd R.DMB_STATUS.ARRAY_CLOCK m =
      if m % 256 = n % 256 then 0 else s.rd R.DMB_STATUS.ARRAY_CLOCK m := by
  rw [State.gateBunch_on, State.rd_wr, h]
  split
  · rfl
  · split
    · exact State.rd_wr_apart (by decide) _ _ _
    · exact State.rd_wr_apart (by decide) _ _ _

/-- Gating on the bunches of a list: each has its array cycle on the step clock. -/
theorem State.gateBunches_on (l : List Nat) (h : s.emuStopped = false) :
    (∀ n, n ∈ l ∨ s.rd R.DMB_STATUS.ARRAY_CLOCK n = 0 →
      (l.foldl (fun s n => s.gateBunch n true) s).rd R.DMB_STATUS.ARRAY_CLOCK n = 0) ∧
    (l.foldl (fun s n => s.gateBunch n true) s).parts = s.parts := by
  induction l generalizing s with
  | nil => exact ⟨fun n hn => hn.resolve_left List.not_mem_nil, rfl⟩
  | cons m l ih =>
    obtain ⟨hemu, hparts⟩ := State.gateBunch_on_frame (s := s) m
    obtain ⟨hclock, hparts2⟩ := ih (s := s.gateBunch m true) (hemu.trans h)
    refine ⟨fun n hn => ?_, hparts2.trans hparts⟩
    rw [List.foldl_cons]
    refine hclock n ?_
    rw [State.gateBunch_on_arrayClock h]
    rcases hn with hn | hn
    · rcases List.mem_cons.mp hn with rfl | hn
      · exact .inr (if_pos rfl)
      · exact .inl hn
    · exact .inr (by rw [hn, ite_self])

theorem State.devState_frame : s.devState.parts = s.parts ∧
    ∀ g : Fld, R.PWR_STATUS.DEV_STATE.apart g = true → ∀ d, s.devState.rd g d = s.rd g d := by
  unfold State.devState
  extract_lets st
  split
  · exact ⟨rfl, fun g hg d => State.rd_wr_apart hg _ _ _⟩
  · exact ⟨rfl, fun g hg d => rfl⟩

/-- A partition that enters Loading: its bunches' array cycles run on the step clock. -/
theorem State.enterLoading_effect (h : s.emuStopped = false) (p : Nat) : (s.enterLoading p).pstate p = 1 ∧
    ((s.enterLoading p).part p).ungating = false ∧
    ∀ n ∈ s.bunches p, (s.enterLoading p).rd R.DMB_STATUS.ARRAY_CLOCK n = 0 := by
  unfold State.enterLoading
  extract_lets s1
  obtain ⟨hclock, _⟩ := State.gateBunches_on (s := s) (s.bunches p) h
  obtain ⟨hparts, hrd⟩ := State.devState_frame
    (s := (s1.wr R.PRT_STATUS.STATE p 1).modPart p (fun x => { x with ungating := false }))
  refine ⟨?_, ?_, fun n hn => ?_⟩
  · rw [State.pstate, hrd _ (by decide), State.modPart_rd, State.rd_wr_self]
    rfl
  · rw [State.part, hparts]
    exact congrArg Part.ungating (State.part_modPart _ _)
  · rw [hrd _ (by decide), State.modPart_rd, State.rd_wr_apart (by decide)]
    exact hclock n (.inl hn)

/-- Rows that are written leave the registers and the partitions as they were. -/
theorem State.loadRows_frame (l : List (Nat × Nat × Nat × BitVec 64)) :
    (l.foldl (fun s e => s.loadRow e.1 e.2.1 e.2.2.1 e.2.2.2) s).regs = s.regs ∧
    (l.foldl (fun s e => s.loadRow e.1 e.2.1 e.2.2.1 e.2.2.2) s).parts = s.parts :=
  List.foldlRecOn (motive := fun t : State => t.regs = s.regs ∧ t.parts = s.parts) _ _ ⟨rfl, rfl⟩ (fun _ ht _ _ => ht)

/-- With no word and no command held, the end of ungating is the entry to Loading and the rows that were held. -/
theorem doBunchUngateDone_empty {p : Nat} (hu : (s.part p).ungating = true) (he : s.emuStopped = false)
    (hw : (s.part p).heldWords = []) (hc : (s.part p).heldCmds = []) :
    doBunchUngateDone p s = (s.part p).heldRows.foldl (fun s e => s.loadRow e.1 e.2.1 e.2.2.1 e.2.2.2)
      ((s.enterLoading p).modPart p (fun y => { y with heldWords := [], heldRows := [], heldCmds := [] })) := by
  simp only [doBunchUngateDone, hu, he, hw, hc, List.foldl, Bool.not_true, Bool.or_self, Bool.false_eq_true, if_false]

/-! ## Spares (R72 to R76) -/

theorem exec_berryRemapWrite {a : Accessor} {n : Fin 64} (h : s.accessCode a .orc n.val 0x40 true = 0) (v : W32) :
    exec (.berryRemapWrite a n v) s = .next (doBerryRemapWrite a n.val v s) := congrArg Host.Outcome.next (State.access_ok h _)

theorem exec_bunchRemapWrite {a : Accessor} {n : Fin 64} (h : s.accessCode a .orc n.val 0x44 true = 0) (v : W32) :
    exec (.bunchRemapWrite a n v) s = .next (doBunchRemapWrite a n.val v s) := congrArg Host.Outcome.next (State.access_ok h _)

theorem exec_spareFailure (n : Fin 64) (ofBunch : Bool) :
    exec (.spareFailure n ofBunch) s = .next (doSpareFailure n.val ofBunch s) := rfl

/-- Refreshing the counts of free spares changes registers of the RES_ page alone (R269). -/
theorem State.spareCounts_rd {g : Fld} (h : g.page ≠ .res) (d : Nat) : s.spareCounts.rd g d = s.rd g d := by
  unfold State.spareCounts
  rw [State.rd_wr_apart (Fld.apart_of_page (Ne.symm h)), State.rd_wr_apart (Fld.apart_of_page (Ne.symm h))]

/-- The record of a remap that is made leaves the registers of the orchard as they were. -/
theorem State.remapRecord_rd {g : Fld} (h : g.page = .orc) (same : Bool) (a : Accessor) (n d1 d2 d : Nat) :
    ((if same then s else s.logEvent 0x10 n 3 evRemapWrite d1 d2).respond a true 0).rd g d = s.rd g d := by
  rw [State.respond_rd]
  split
  · rfl
  · exact State.logEvent_rd_page (by rw [h]; decide) ..

/-- An accepted write of the berry remap sets its berry and its enable. -/
theorem doBerryRemapWrite_accepted {n : Nat} {v : W32} (hl : s.remapLocked n = false)
    (hb : bitOf v.toNat 8 = 0 ∨ s.on R.ORC_SPARE_STATUS.BERRY_SPARE_BAD (s.physBunch n) = false) (a : Accessor) :
    (doBerryRemapWrite a n v s).rd R.ORC_BERRY_REMAP.BERRY (s.physBunch n) = bitsOf v.toNat 0 4 ∧
      (doBerryRemapWrite a n v s).rd R.ORC_BERRY_REMAP.EN (s.physBunch n) = bitOf v.toNat 8 := by
  have hgo : ¬(bitOf v.toNat 8 = 1 ∧ s.on R.ORC_SPARE_STATUS.BERRY_SPARE_BAD (s.physBunch n) = true) := by
    rintro ⟨h1, h2⟩
    rcases hb with h | h
    · omega
    · exact absurd (h.symm.trans h2) (by decide)
  simp only [doBerryRemapWrite, hl, Bool.false_and, Bool.false_eq_true, if_false, if_neg hgo]
  refine ⟨?_, ?_⟩
  · rw [State.remapRecord_rd rfl, State.spareCounts_rd (by decide), State.rd_wr_apart (by decide), State.rd_wr_self]
    exact Nat.mod_mod _ _
  · rw [State.remapRecord_rd rfl, State.spareCounts_rd (by decide), State.rd_wr_self]
    exact Nat.mod_mod _ _

/-- An accepted write of the bunch remap sets its bunch and its enable. -/
theorem doBunchRemapWrite_accepted {v : W32} (hl : ∀ k, s.remapLocked k = false)
    (hb : bitOf v.toNat 8 = 0 ∨ s.on R.ORC_SPARE_STATUS.BUNCH_SPARE_BAD 0 = false) (a : Accessor) (n : Nat) :
    (doBunchRemapWrite a n v s).rd R.ORC_BUNCH_REMAP.BUNCH 0 = bitsOf v.toNat 0 6 ∧
      (doBunchRemapWrite a n v s).rd R.ORC_BUNCH_REMAP.EN 0 = bitOf v.toNat 8 := by
  have hgo : ¬(bitOf v.toNat 8 = 1 ∧ s.on R.ORC_SPARE_STATUS.BUNCH_SPARE_BAD 0 = true) := by
    rintro ⟨h1, h2⟩
    rcases hb with h | h
    · omega
    · exact absurd (h.symm.trans h2) (by decide)
  simp only [doBunchRemapWrite, hl, Bool.and_false, Bool.or_self, Bool.false_and, Bool.false_eq_true, if_false, if_neg hgo]
  refine ⟨?_, ?_⟩
  · rw [State.remapRecord_rd rfl, State.spareCounts_rd (by decide), State.rd_wr_apart (by decide), State.rd_wr_self]
    exact Nat.mod_mod _ _
  · rw [State.remapRecord_rd rfl, State.spareCounts_rd (by decide), State.rd_wr_self]
    exact Nat.mod_mod _ _

/-- A failing spare: its bad bit f is set, the orchard's interrupt of channel n, and an event goes to the logbook (R76). -/
theorem State.spareBad_rd {f : Fld} (hf : f.page = .orc) (hw : f.width = 1) (hoff : errorReg (f.off % 4096) = false)
    (q n d1 d2 : Nat) :
    ((((s.wr f q 1).raise .orc n 0).logEvent 0x10 n 3 evSpareBad d1 d2).spareCounts).rd f q = 1 ∧
    ((((s.wr f q 1).raise .orc n 0).logEvent 0x10 n 3 evSpareBad d1 d2).spareCounts).rd (intBit .orc 0) n = 1 := by
  refine ⟨?_, ?_⟩
  · rw [State.spareCounts_rd (by rw [hf]; decide), State.logEvent_rd_page (by rw [hf]; decide), State.raise_rd _ _ _ hoff,
      State.rd_wr_self, hw]
    rfl
  · rw [State.spareCounts_rd (show Page.orc ≠ .res by decide), State.logEvent_rd_page (show Page.orc ≠ .log by decide)]
    exact State.raise_self .orc n 0

/-! ## The statement -/

/-- Settles O13: the loader stores a good word of a partition in Loading and records any other, ungating ends in Loading, and
the remaps and spare failures are entered in their fields. -/
theorem loaderAndSpares : Obligations.LoaderAndSpares := by
  unfold Obligations.LoaderAndSpares
  refine ⟨?stored, ?refused, ?ungated, ?berry, ?bunch, ?berryFails, ?bunchFails⟩
  case stored =>
    intro p n b st i w s hu hst hn
    refine ⟨_, exec_instructionWordWrite p n b st i w _, ?_⟩
    rw [doInstructionWordWrite_gated hu]
    exact State.loadWord_stores hst hn 63 b.val st.val i.val w
  case refused =>
    intro p n b st i w chk s hu h
    refine ⟨_, exec_instructionWordWrite p n b st i w chk, ?_⟩
    rw [doInstructionWordWrite_gated hu]
    exact State.loadWord_refuses h 63 b.val st.val i.val
  case ungated =>
    intro p s hu he hw hc
    refine ⟨_, exec_bunchUngateDone p, ?_⟩
    rw [doBunchUngateDone_empty hu he hw hc]
    obtain ⟨hregs, hparts⟩ := State.loadRows_frame (s := (s.enterLoading p.val).modPart p.val
      (fun y => { y with heldWords := [], heldRows := [], heldCmds := [] })) (s.part p.val).heldRows
    obtain ⟨hst, hun, hclock⟩ := State.enterLoading_effect he p.val
    refine ⟨?_, ?_, fun n hn => ?_⟩
    · rw [State.pstate, State.rd, hregs]
      exact hst
    · rw [State.part, hparts]
      exact (congrArg Part.ungating (State.part_modPart _ _)).trans hun
    · rw [State.rd, hregs]
      exact hclock n hn
  case berry =>
    intro a n v s h hl hb
    exact ⟨_, exec_berryRemapWrite h v, doBerryRemapWrite_accepted hl hb a⟩
  case bunch =>
    intro a n v s h hl hb
    exact ⟨_, exec_bunchRemapWrite h v, doBunchRemapWrite_accepted hl hb a n.val⟩
  case berryFails =>
    intro n s h
    refine ⟨_, exec_spareFailure n false, ?_⟩
    simp only [doSpareFailure, Bool.false_eq_true, if_false, h, if_true]
    exact State.spareBad_rd rfl rfl rfl _ _ _ _
  case bunchFails =>
    intro n s h
    refine ⟨_, exec_spareFailure n true, ?_⟩
    simp only [doSpareFailure, if_true, h]
    exact State.spareBad_rd rfl rfl rfl _ _ _ _

end Sys2Proof.Machine

/-! The banks of the design memory: accesses (R23, R26, R127, R131 to R134), the berth and its handover (R137, R141, R142), and
the repair entries (R154). -/

namespace Sys2Proof.Machine
open Sys2Proof

variable {s t u : State}

/-! ## Register fields that serving a bank leaves as they are -/

/-- A field that no access to a bank writes: not one of the error and interrupt registers, of the counts, of the refused
requester or of the journal's progress, not on the LOG_ page, and not where LOST and LOST_CAUSE of RES_SNAP stand. -/
def bankFixed (g : Fld) : Bool :=
  !errorReg (g.off % 4096) && g.page != .log && (g.page != .res || (g.lo % 32 != 2 && g.lo % 32 != 3)) &&
    [R.DMB_CE_COUNT.COUNT, R.DMB_UE_COUNT.COUNT, R.DMB_LATE_COUNT.COUNT, R.DMB_REFUSED_SRC.KIND, R.DMB_REFUSED_SRC.ID,
      R.DMB_REFUSED_SRC.LATE, R.DMB_STATUS.JOURNAL_FULL].all (fun f => f.apart g)

theorem bankFixed_repair : ∀ k < 16, bankFixed (R.DMB_REPAIR.VALID k) = true ∧ bankFixed (R.DMB_REPAIR.ROW k) = true := by
  decide

section Fixed
variable {g : Fld} (hg : bankFixed g = true)
include hg

theorem bankFixed_noError : errorReg (g.off % 4096) = false := by
  simp only [bankFixed, Bool.and_eq_true, Bool.not_eq_true'] at hg
  exact hg.1.1.1

theorem bankFixed_notLog : g.page ≠ .log := by
  simp only [bankFixed, Bool.and_eq_true, bne_iff_ne] at hg
  exact hg.1.1.2

/-- LOST and LOST_CAUSE of every partition stand elsewhere. -/
theorem bankFixed_lost (p : Nat) :
    (R.RES_SNAP.LOST p).apart g = true ∧ (R.RES_SNAP.LOST_CAUSE p).apart g = true := by
  simp only [bankFixed, Bool.and_eq_true, Bool.or_eq_true, bne_iff_ne] at hg
  rcases hg.1.2 with hpage | ⟨hlost, hcause⟩
  · exact ⟨Fld.apart_of_page (Ne.symm hpage), Fld.apart_of_page (Ne.symm hpage)⟩
  · exact ⟨Fld.apart_of (.inr (Ne.symm hlost)), Fld.apart_of (.inr (Ne.symm hcause))⟩

theorem bankFixed_apart : ∀ f ∈ [R.DMB_CE_COUNT.COUNT, R.DMB_UE_COUNT.COUNT, R.DMB_LATE_COUNT.COUNT, R.DMB_REFUSED_SRC.KIND,
    R.DMB_REFUSED_SRC.ID, R.DMB_REFUSED_SRC.LATE, R.DMB_STATUS.JOURNAL_FULL], f.apart g = true := by
  simp only [bankFixed, Bool.and_eq_true] at hg
  exact List.all_eq_true.mp hg.2

theorem State.bankCorrected_fixed (b w d : Nat) : (s.bankCorrected b w).rd g d = s.rd g d := by
  have hce := bankFixed_apart hg R.DMB_CE_COUNT.COUNT (by simp)
  rw [State.bankCorrected, State.logEvent_rd_page (bankFixed_notLog hg), State.raise_rd _ _ _ (bankFixed_noError hg),
    State.raise_rd _ _ _ (bankFixed_noError hg), State.count, State.rd_wr_apart hce]

theorem State.readBank_fixed (b w node d : Nat) : (s.readBank b w node).2.rd g d = s.rd g d := by
  have hue := bankFixed_apart hg R.DMB_UE_COUNT.COUNT (by simp)
  unfold State.readBank
  split
  split
  · rfl
  · extract_lets s1
    have h1 : s1.rd g d = s.rd g d := by
      unfold s1
      split
      · exact State.bankCorrected_fixed hg b w d
      · rfl
    split
    · dsimp only
      split
      · exact h1
      · exact h1
    · dsimp only
      rw [State.logEvent_rd_page (bankFixed_notLog hg), State.err_rd _ _ _ _ _ (bankFixed_noError hg),
        State.raise_rd _ _ _ (bankFixed_noError hg), State.count, State.rd_wr_apart hue, h1]

theorem State.loseProtection_fixed (p cause d : Nat) : (s.loseProtection p cause).rd g d = s.rd g d := by
  obtain ⟨hlost, hcause⟩ := bankFixed_lost hg p
  unfold State.loseProtection
  split
  · rfl
  · rw [State.logEvent_rd_page (bankFixed_notLog hg), State.raise_rd _ _ _ (bankFixed_noError hg),
      State.rd_wr_apart hcause, State.rd_wr_apart hlost]

theorem State.journalFull_fixed (b d : Nat) : (s.journalFull b).rd g d = s.rd g d := by
  have hfull := bankFixed_apart hg R.DMB_STATUS.JOURNAL_FULL (by simp)
  unfold State.journalFull
  split
  · rfl
  · extract_lets s1
    have h1 : s1.rd g d = s.rd g d := by
      rw [State.raise_rd _ _ _ (bankFixed_noError hg), State.rd_wr_apart hfull]
    split
    · exact (State.loseProtection_fixed hg _ _ d).trans h1
    · exact h1

theorem State.journal_fixed (b w : Nat) (exempt : Bool) (d : Nat) : (s.journal b w exempt).rd g d = s.rd g d := by
  unfold State.journal
  split
  · rfl
  · split
    · exact State.journalFull_fixed hg b d
    · rfl

omit hg in
theorem State.setBankWord_rd (b w : Nat) (v : W128) (e d : Nat) : (s.setBankWord b w v e).rd g d = s.rd g d := by
  unfold State.setBankWord
  extract_lets s1
  have h1 : s1.rd g d = s.rd g d := by
    unfold s1
    split <;> rfl
  split
  · exact h1
  · exact h1

theorem State.writeBank_fixed (b w : Nat) (v : W128) (exempt : Bool) (d : Nat) :
    (s.writeBank b w v exempt).rd g d = s.rd g d :=
  (State.setBankWord_rd b w v 0 d).trans (State.journal_fixed hg b w exempt d)

theorem State.refusedSrc_fixed (b : Nat) (r : Requester) (late d : Nat) : (s.refusedSrc b r late).rd g d = s.rd g d := by
  have hkind := bankFixed_apart hg R.DMB_REFUSED_SRC.KIND (by simp)
  have hid := bankFixed_apart hg R.DMB_REFUSED_SRC.ID (by simp)
  have hlate := bankFixed_apart hg R.DMB_REFUSED_SRC.LATE (by simp)
  rw [State.refusedSrc, State.rd_wr_apart hlate, State.rd_wr_apart hid, State.rd_wr_apart hkind]

theorem State.refuseOwner_fixed (b : Nat) (r : Requester) (addr d : Nat) : (s.refuseOwner b r addr).rd g d = s.rd g d := by
  rw [State.refuseOwner, State.raise_rd _ _ _ (bankFixed_noError hg), State.err_rd _ _ _ _ _ (bankFixed_noError hg),
    State.refusedSrc_fixed hg]

theorem State.refuseLate_fixed (b : Nat) (r : Requester) (addr d : Nat) : (s.refuseLate b r addr).rd g d = s.rd g d := by
  have hlate := bankFixed_apart hg R.DMB_LATE_COUNT.COUNT (by simp)
  rw [State.refuseLate, State.raise_rd _ _ _ (bankFixed_noError hg), State.err_rd _ _ _ _ _ (bankFixed_noError hg),
    State.refusedSrc_fixed hg, State.count, State.rd_wr_apart hlate]

/-! ### Local commands (R62 to R65) -/

theorem State.localRead_fixed (p n : Nat) (c : MemWait) (d : Nat) : (s.localRead p n c).rd g d = s.rd g d := by
  have hread := State.readBank_fixed (s := s) hg n (c.addr % 2 ^ 18) 63 d
  unfold State.localRead
  split
  next heq => rwa [heq] at hread
  next heq => rwa [heq] at hread

theorem State.localWrite_fixed (m l n w : Nat) (v : W128) (d : Nat) : (s.localWrite m l n w v).rd g d = s.rd g d := by
  unfold State.localWrite
  refine List.foldlRecOn (motive := fun t : State => t.rd g d = s.rd g d) _ _ ?_ fun t ht j _ => ?_
  · exact State.writeBank_fixed hg n w v false d
  · dsimp only
    split
    · exact (State.writeBank_fixed hg _ w v false d).trans ht
    · exact ht

theorem State.localCommand_fixed (m l : Nat) (c : MemWait) (d : Nat) : (s.localCommand m l c).rd g d = s.rd g d := by
  unfold State.localCommand
  split
  · exact State.localRead_fixed hg m c.bunch c d
  · exact State.localWrite_fixed hg m l c.bunch _ c.data d

omit hg in
theorem State.memWaitsOver_rd (m d : Nat) : (s.memWaitsOver m).rd g d = s.rd g d := by
  unfold State.memWaitsOver
  extract_lets l ws s1
  have h1 : s1.rd g d = s.rd g d := by
    unfold s1
    split <;> rfl
  split
  · exact h1
  · exact h1

theorem State.serveLocal_fixed (b d : Nat) : (s.serveLocal b).rd g d = s.rd g d := by
  unfold State.serveLocal
  split
  · extract_lets m
    split
    split
    · rfl
    · rw [State.memWaitsOver_rd]
      exact List.foldlRecOn (motive := fun t : State => t.rd g d = s.rd g d) _ _ rfl
        fun t ht c _ => (State.localCommand_fixed hg _ _ c d).trans ht
  · rfl

end Fixed

/-! ## What taking accesses leaves as it is -/

/-- What the words, the reservations and the settings of the banks rest on is the same, and a refusal stays signalled. -/
structure BanksKept (s t : State) : Prop where
  dmem : t.dmem = s.dmem
  health : t.health = s.health
  resv : t.resvBank = s.resvBank
  tester : ∀ c, (t.bank c).tester = (s.bank c).tester
  fixed : ∀ g, bankFixed g = true → ∀ d, t.rd g d = s.rd g d
  refused : ∀ d, s.rd (intBit .dmb 2) d = 1 → t.rd (intBit .dmb 2) d = 1

theorem BanksKept.refl (s : State) : BanksKept s s := ⟨rfl, rfl, rfl, fun _ => rfl, fun _ _ _ => rfl, fun _ h => h⟩

theorem BanksKept.trans (h : BanksKept s t) (h' : BanksKept t u) : BanksKept s u :=
  ⟨h'.dmem.trans h.dmem, h'.health.trans h.health, h'.resv.trans h.resv, fun c => (h'.tester c).trans (h.tester c),
    fun g hg d => (h'.fixed g hg d).trans (h.fixed g hg d), fun d hd => h'.refused d (h.refused d hd)⟩

theorem State.spareFor_kept (h : ∀ g, bankFixed g = true → ∀ d, t.rd g d = s.rd g d) (b row : Nat) :
    t.spareFor b row = s.spareFor b row := by
  refine List.find?_congr fun k hk => ?_
  obtain ⟨hv, hr⟩ := bankFixed_repair k (List.mem_range.mp hk)
  rw [State.on, State.on, h _ hv, h _ hr]

theorem State.physWord_kept (h : ∀ g, bankFixed g = true → ∀ d, t.rd g d = s.rd g d) (b w : Nat) :
    t.physWord b w = s.physWord b w := by
  rw [State.physWord, State.physWord, State.spareFor_kept h]

theorem BanksKept.bankWord (h : BanksKept s t) (b w : Nat) : t.bankWord b w = s.bankWord b w := by
  have hheld : t.heldRead b w = s.heldRead b w := by rw [State.heldRead, State.heldRead, h.tester]
  have harray : t.arrayWord b w = s.arrayWord b w := by
    simp only [State.arrayWord, State.ecc, State.physWord_kept h.fixed, h.dmem, h.health]
  rw [State.bankWord, State.bankWord, hheld, harray, h.tester]

/-- A change of a bank's queues alone. -/
theorem State.modBank_kept {b : Nat} {f : Bank → Bank} (hf : ∀ k, (f k).tester = k.tester) : BanksKept s (s.modBank b f) where
  dmem := rfl
  health := rfl
  resv := rfl
  tester c := by
    by_cases h : c = b
    · rw [h, State.bank_modBank, hf]
    · rw [State.bank_modBank_ne h]
  fixed _ _ _ := rfl
  refused _ h := h

theorem State.emit_kept (o : Output) : BanksKept s (s.emit o) := ⟨rfl, rfl, rfl, fun _ => rfl, fun _ _ _ => rfl, fun _ h => h⟩

theorem State.quayAnswer_kept (node dst tag status : Nat) (data : List W128) :
    BanksKept s (s.quayAnswer node dst tag status data) := by
  unfold State.quayAnswer
  split
  · exact .refl s
  · exact State.emit_kept _

theorem State.quayAnswer_outbox (node dst tag status : Nat) (data : List W128) :
    (s.quayAnswer node dst tag status data).outbox =
      s.outbox ++ (if s.quayIsDead node then [] else [.nocResp dst tag status data]) := by
  unfold State.quayAnswer
  split
  · exact (List.append_nil _).symm
  · rfl

/-- A bit that reads 1 in a channel still does once it is raised in a channel. -/
theorem State.raise_stays {p : Page} {i d : Nat} (h : s.rd (intBit p i) d = 1) (ch : Nat) :
    (s.raise p ch i).rd (intBit p i) d = 1 := by
  have w : (s.wr (intBit p i) ch 1).rd (intBit p i) d = 1 := by
    rw [State.rd_wr, h]
    exact ite_self 1
  unfold State.raise
  extract_lets v
  split
  · split
    · exact (State.irqEvent_rd _ _ _).trans w
    · exact w
  · exact w

/-- A field of the INT_STATUS register reads past an error capture and past the record of a refused requester. -/
theorem State.refusedErr_int (b : Nat) (r : Requester) (late code node addr d : Nat) :
    ((s.refusedSrc b r late).err .dmb b code node addr).rd (intBit .dmb 2) d = s.rd (intBit .dmb 2) d := by
  unfold State.err
  split
  · simp (disch := decide) only [State.refusedSrc, State.rd_wr_apart]
  · simp (disch := decide) only [State.refusedSrc, State.rd_wr_apart]

theorem State.refuseOwner_kept (b : Nat) (r : Requester) (addr : Nat) : BanksKept s (s.refuseOwner b r addr) where
  dmem := (State.raise_dmem ..).trans (State.err_dmem ..)
  health := (State.raise_health ..).trans (State.err_health ..)
  resv := (State.raise_resvBank ..).trans (State.err_resvBank ..)
  tester c := by
    rw [State.bank, State.refuseOwner, State.raise_banks, State.err_banks]
    rfl
  fixed _ hg d := State.refuseOwner_fixed hg b r addr d
  refused d hd := State.raise_stays (by rw [State.refusedErr_int, hd]) b

theorem State.refuseLate_kept (b : Nat) (r : Requester) (addr : Nat) : BanksKept s (s.refuseLate b r addr) where
  dmem := (State.raise_dmem ..).trans (State.err_dmem ..)
  health := (State.raise_health ..).trans (State.err_health ..)
  resv := (State.raise_resvBank ..).trans (State.err_resvBank ..)
  tester c := by
    rw [State.bank, State.refuseLate, State.raise_banks, State.err_banks]
    rfl
  fixed _ hg d := State.refuseLate_fixed hg b r addr d
  refused d hd := by
    have hcount : (s.count R.DMB_LATE_COUNT.COUNT b 1).rd (intBit .dmb 2) d = s.rd (intBit .dmb 2) d :=
      State.rd_wr_apart (by decide) _ _ _
    rw [State.refuseLate, State.raise_rd_apart (by decide), State.refusedErr_int, hcount, hd]

theorem State.bankAccept_kept (b : Nat) (a : BankAcc) : BanksKept s (s.bankAccept b a) := by
  unfold State.bankAccept
  split
  · exact (State.refuseOwner_kept b a.who a.addr).trans (State.quayAnswer_kept _ _ _ _ _)
  · exact (State.refuseLate_kept b a.who a.addr).trans (State.quayAnswer_kept _ _ _ _ _)
  · exact State.modBank_kept fun _ => rfl

theorem State.bankAdmit_kept (b : Nat) : BanksKept s (s.bankAdmit b) := by
  unfold State.bankAdmit
  split
  · exact .refl s
  · split
    · refine BanksKept.trans ?_ (State.bankAccept_kept b _)
      exact State.modBank_kept fun _ => rfl
    · exact .refl s

/-- A quay with the packets it still holds, the first handed on. -/
def State.handedOn (s : State) (node : Nat) (rest : List Packet) : State :=
  { s with nocHeld := SMap.set [] s.nocHeld node rest }

theorem State.handedOn_kept (node : Nat) (rest : List Packet) : BanksKept s (s.handedOn node rest) :=
  ⟨rfl, rfl, rfl, fun _ => rfl, fun _ _ _ => rfl, fun _ h => h⟩

theorem State.quayDrain_succ (node n : Nat) : s.quayDrain node (n + 1) =
    match s.heldPackets node with
    | [] => s
    | k :: rest => if s.bankTakes k then
        ((s.handedOn node rest).bankAccept (bankOfAddress k.addr.toNat) (s.bankAccessOf k)).quayDrain node n else s := rfl

theorem State.quayDrain_kept (node n : Nat) : BanksKept s (s.quayDrain node n) := by
  induction n generalizing s with
  | zero => exact .refl s
  | succ n ih =>
    rw [State.quayDrain_succ]
    split
    · exact .refl s
    · split
      · exact ((State.handedOn_kept _ _).trans (State.bankAccept_kept _ _)).trans ih
      · exact .refl s

theorem State.bankAdmit_sends {l : List Output} (h : l <+: s.outbox) (b : Nat) : l <+: (s.bankAdmit b).outbox := by
  unfold State.bankAdmit
  split
  · exact h
  · split
    · exact State.bankAccept_sends (by exact h) _ _
    · exact h

theorem State.quayDrain_sends {l : List Output} (h : l <+: s.outbox) (node n : Nat) :
    l <+: (s.quayDrain node n).outbox := by
  induction n generalizing s with
  | zero => exact h
  | succ n ih =>
    rw [State.quayDrain_succ]
    split
    · exact h
    · split
      · exact ih (State.bankAccept_sends (by exact h) _ _)
      · exact h

end Sys2Proof.Machine

/-! The banks of the design memory: the statement on accesses, the berth and the repair entries. -/

namespace Sys2Proof.Machine
open Sys2Proof

variable {s t : State}

/-! ## The NoC slot (R131 to R134) -/

/-- A bank whose queue an access has left. -/
def State.dequeue (s : State) (b : Nat) (x : BankAcc) : State :=
  s.modBank b (fun k => { k with queue := removeAccess x k.queue })

/-- What takes up the room an access leaves: a waiting word of a packet, then the packets at the quay (R132). -/
def State.takeUp (s : State) (b : Nat) : State :=
  (s.bankAdmit b).quayDrain (b / 8) ((s.bankAdmit b).heldPackets (b / 8)).length

theorem State.upset_bank (us : List Upset) (b : Nat) : (s.upset us).bank b = s.bank b := by
  have hbanks : (s.upset us).banks = s.banks := (State.upset_keeps (M := 16) rfl (Keeps.refl _ s)).same .banks rfl
  rw [State.bank, State.bank, hbanks]

theorem State.upset_rd (us : List Upset) (g : Fld) (d : Nat) : (s.upset us).rd g d = s.rd g d := by
  obtain ⟨_, hregs, _⟩ := State.upset_frame (s := s) us
  rw [State.rd, State.rd, hregs]

/-- The NoC slot of a bank that waits for no journal write: its next access is performed. -/
theorem doBankNocAccess_next {b : Nat} {x : BankAcc} (hj : (s.bank b).jwrites = []) (hx : s.nextAccess b = some x)
    (us : List Upset) : doBankNocAccess b us s = (((s.upset us).dequeue b x).bankPerform b x).takeUp b := by
  have hx' : (s.upset us).nextAccess b = some x := by
    rw [← hx, State.nextAccess, State.nextAccess, State.upset_bank, State.on, State.on, State.upset_rd]
  rw [doBankNocAccess, if_neg (by rw [State.upset_bank, hj]; decide), hx']
  rfl

theorem State.dequeue_kept (b : Nat) (x : BankAcc) : BanksKept s (s.dequeue b x) := State.modBank_kept fun _ => rfl

theorem State.takeUp_kept (b : Nat) : BanksKept s (s.takeUp b) := (State.bankAdmit_kept b).trans (State.quayDrain_kept _ _)

theorem State.takeUp_sends (b : Nat) : s.outbox <+: (s.takeUp b).outbox :=
  State.quayDrain_sends (State.bankAdmit_sends (List.prefix_refl _) b) _ _

/-- Where nothing waits nothing is taken up. -/
theorem State.takeUp_idle {b : Nat} (hi : (s.bank b).inflow = []) (hh : s.heldPackets (b / 8) = []) : s.takeUp b = s := by
  have hadmit : s.bankAdmit b = s := by rw [State.bankAdmit, hi]
  rw [State.takeUp, hadmit, hh]
  rfl

/-! ## One access -/

/-- The last word of an access answers its request. -/
theorem State.accessDone_last {x : BankAcc} (h : x.more = 0) (b st : Nat) (d : List W128) :
    s.accessDone b x st d = s.quayAnswer (b / 8) x.who.node x.tag (if x.bad = 0 then st else x.bad)
      (if (if x.bad = 0 then st else x.bad) = 0 then x.got ++ d else []) := by
  rw [State.accessDone]
  exact if_pos h

theorem State.bankPerform_read {b : Nat} {x : BankAcc} {v : W128} (hop : x.op = 0) (hw : s.bankWord b x.word = (v, 0)) :
    s.bankPerform b x = s.accessDone b x 0 [v] := by
  have hread : s.readBank b x.word x.who.errNode = (some v, s) := by simp [State.readBank, hw]
  have hne : ¬(x.op = 2 ∧ x.who.kind = 2) := by omega
  rw [State.bankPerform]
  dsimp only
  rw [if_pos (.inl hop), hread]
  dsimp only
  rw [if_neg hne]

/-- A write of all 16 bytes of a word, with a good seal, where the bank accepts it. -/
theorem State.bankPerform_write {b : Nat} {x : BankAcc} (hop : x.op = 1) (hwin : x.win = 0) (hbe : x.be = 65535)
    (hsp : x.spoilt = false) (hin : x.who.exempt = true ∨ s.inJournal b x.word = false) :
    s.bankPerform b x =
      ((s.writeBank b x.word x.data x.who.exempt).clearBankResv b x.word).accessDone b x 0 [] := by
  have hread : ¬(x.op = 0 ∨ x.op = 2) := by omega
  have hjournal : ¬((!x.who.exempt && s.inJournal b x.word) = true) := by
    rcases hin with h | h <;> simp [h]
  have hcond : ¬(x.op = 3 ∧ (!(x.who.kind == 2 && s.holdsBankResv x.who.id b x.word)) = true) := by omega
  have hmerge : ¬(needsMerge x = true) := by simp [needsMerge, hwin, hbe]
  have hst : ¬(x.op = 3) := by omega
  rw [State.bankPerform]
  dsimp only
  rw [if_neg hread, if_neg hjournal, if_neg hcond, if_neg hmerge, if_neg (by simp [hsp]), if_neg hst]

/-- A write into the journal region is refused as a non-owner's is (R158). -/
theorem State.bankPerform_journal {b : Nat} {x : BankAcc} (hop : x.op = 1 ∨ x.op = 3) (he : x.who.exempt = false)
    (hin : s.inJournal b x.word = true) :
    s.bankPerform b x = (s.refuseOwner b x.who x.addr).accessDone b x 4 [] := by
  have hread : ¬(x.op = 0 ∨ x.op = 2) := by omega
  rw [State.bankPerform]
  dsimp only
  rw [if_neg hread, if_pos (by simp [he, hin])]

/-! ## A word as it is stored (R23, R149, R155) -/

theorem State.arrayWord_setArray (b w : Nat) (v : W128) (e : Nat) : (s.setArray b w v e).arrayWord b w = (v, e) := by
  have hphys : (s.setArray b w v e).physWord b w = s.physWord b w := State.physWord_kept (fun _ _ _ => rfl) b w
  rw [State.arrayWord, hphys]
  exact Prod.ext (SMap.get_set_self _ _ _ _) (State.ecc_setEcc _ _ _)

/-- A bank with a word in the holding buffer of its tester (R149). -/
def Bank.held (k : Bank) (i : Nat) (v : W128) (e : Nat) : Bank :=
  { k with tester := { k.tester with held := SMap.set 0 k.tester.held i v, heldEcc := SMap.set 0 k.tester.heldEcc i e } }

theorem State.heldRead_held (b w i : Nat) (v : W128) (e : Nat) :
    (s.modBank b (fun k => k.held i v e)).heldRead b w = s.heldRead b w := by
  rw [State.heldRead, State.bank_modBank]
  rfl

theorem State.bankWord_held {b w : Nat} (h : s.heldRead b w = true) (v : W128) (e : Nat) :
    (s.modBank b (fun k => k.held (w % 64) v e)).bankWord b w = (v, e) := by
  rw [State.bankWord, if_pos (by rw [State.heldRead_held, h]), State.bank_modBank]
  exact Prod.ext (SMap.get_set_self _ _ _ _) (SMap.get_set_self _ _ _ _)

theorem State.setBankWord_eq (b w : Nat) (v : W128) (e : Nat) : s.setBankWord b w v e =
    if s.heldWrite b w then (if s.arrayWrite b w then s.setArray b w v e else s).modBank b (fun k => k.held (w % 64) v e)
    else if s.arrayWrite b w then s.setArray b w v e else s := rfl

/-- A word reads back as it is stored, from the holding buffer or from the array. -/
theorem State.bankWord_setBankWord (b w : Nat) (v : W128) (e : Nat) : (s.setBankWord b w v e).bankWord b w = (v, e) := by
  rw [State.setBankWord_eq]
  by_cases hh : s.heldRead b w = true
  · rw [if_pos (by simp [State.heldWrite, hh])]
    refine State.bankWord_held ?_ v e
    split
    · exact hh
    · exact hh
  · have hbuffer : ¬((s.setArray b w v e).heldRead b w = true) := hh
    rw [if_pos (c := s.arrayWrite b w = true) (by simp [State.arrayWrite, hh])]
    split
    · rw [State.bankWord, if_neg (by rwa [State.heldRead_held])]
      exact State.arrayWord_setArray b w v e
    · rw [State.bankWord, if_neg hbuffer]
      exact State.arrayWord_setArray b w v e

/-- No reservation stands on a word that is written (R338). -/
theorem State.holdsBankResv_clear (m b w : Nat) : (s.clearBankResv b w).holdsBankResv m b w = false := by
  simp [State.holdsBankResv, State.clearBankResv]

/-! ## Accesses at the NoC port (R131 to R134) -/

theorem exec_bankNocAccess (b : Fin 64) (us : List Upset) : exec (.bankNocAccess b us) s = .next (doBankNocAccess b.val us s) := rfl

theorem bankFixed_dead : bankFixed R.NOC_STATUS.DEAD = true := by decide

theorem State.quayIsDead_of (h : ∀ g, bankFixed g = true → ∀ d, t.rd g d = s.rd g d) (node : Nat) :
    t.quayIsDead node = s.quayIsDead node := by
  rw [State.quayIsDead, State.quayIsDead, State.on, State.on, h _ bankFixed_dead]

theorem State.inJournal_of (h : ∀ g, bankFixed g = true → ∀ d, t.rd g d = s.rd g d) (b w : Nat) :
    t.inJournal b w = s.inJournal b w := by
  rw [State.inJournal, State.inJournal, State.on, State.on, h R.DMB_CTRL.JOURNAL_EN (by decide),
    h R.DMB_JOURNAL_BASE.WORD (by decide), h R.DMB_JOURNAL_LIMIT.ENTRIES (by decide)]

/-- The state in which the next access of a bank is performed: its settings are those before the command. -/
theorem State.atSlot_fixed (us : List Upset) (b : Nat) (x : BankAcc) (g : Fld) (_ : bankFixed g = true) (d : Nat) :
    ((s.upset us).dequeue b x).rd g d = s.rd g d := State.upset_rd us g d

theorem State.atSlot_outbox (us : List Upset) (b : Nat) (x : BankAcc) : ((s.upset us).dequeue b x).outbox = s.outbox :=
  (State.upset_frame us).1

theorem State.atSlot_dmem (us : List Upset) (b : Nat) (x : BankAcc) : ((s.upset us).dequeue b x).dmem = s.dmem :=
  (State.upset_keeps (M := 16) rfl (Keeps.refl _ s)).same .dmem rfl

theorem State.quayAnswer_bank (node dst tag status : Nat) (data : List W128) (b : Nat) :
    (s.quayAnswer node dst tag status data).bank b = s.bank b := by
  unfold State.quayAnswer
  split <;> rfl

theorem State.quayAnswer_heldPackets (node dst tag status : Nat) (data : List W128) (n : Nat) :
    (s.quayAnswer node dst tag status data).heldPackets n = s.heldPackets n := by
  unfold State.quayAnswer
  split <;> rfl

theorem State.atSlot_bank (us : List Upset) (b : Nat) (x : BankAcc) :
    ((s.upset us).dequeue b x).bank b = { s.bank b with queue := removeAccess x (s.bank b).queue } := by
  rw [State.dequeue, State.bank_modBank, State.upset_bank]

theorem State.atSlot_heldPackets (us : List Upset) (b : Nat) (x : BankAcc) (n : Nat) :
    ((s.upset us).dequeue b x).heldPackets n = s.heldPackets n := by
  obtain ⟨hheld, _⟩ := (State.upset_keeps (M := 16) (a1 := us) rfl (Keeps.refl _ s)).same .noc rfl
  exact congrArg (SMap.get [] · n) hheld

/-- The slot of an access that ends with an answer: the answer, and what takes up the room. -/
theorem State.answered_takeUp (us : List Upset) (b : Nat) (x : BankAcc) (status : Nat) (data : List W128) :
    ∃ l, ((((s.upset us).dequeue b x).quayAnswer (b / 8) x.who.node x.tag status data).takeUp b).outbox =
        s.outbox ++ (if s.quayIsDead (b / 8) then [] else [.nocResp x.who.node x.tag status data]) ++ l ∧
      ((s.bank b).inflow = [] → s.heldPackets (b / 8) = [] → l = [] ∧
        ((((s.upset us).dequeue b x).quayAnswer (b / 8) x.who.node x.tag status data).takeUp b).bank b =
          { s.bank b with queue := removeAccess x (s.bank b).queue }) := by
  have hans : (((s.upset us).dequeue b x).quayAnswer (b / 8) x.who.node x.tag status data).outbox =
      s.outbox ++ (if s.quayIsDead (b / 8) then [] else [.nocResp x.who.node x.tag status data]) := by
    rw [State.quayAnswer_outbox, State.atSlot_outbox, State.quayIsDead_of (State.atSlot_fixed us b x)]
  obtain ⟨l, hl⟩ := State.takeUp_sends (s := ((s.upset us).dequeue b x).quayAnswer (b / 8) x.who.node x.tag status data) b
  refine ⟨l, by rw [← hl, hans], fun hi hh => ?_⟩
  have hidle := State.takeUp_idle (s := ((s.upset us).dequeue b x).quayAnswer (b / 8) x.who.node x.tag status data) (b := b)
    (by rw [State.quayAnswer_bank, State.atSlot_bank, hi]) (by rw [State.quayAnswer_heldPackets, State.atSlot_heldPackets, hh])
  rw [hidle] at hl ⊢
  exact ⟨List.append_right_eq_self.mp hl, by rw [State.quayAnswer_bank, State.atSlot_bank]⟩

theorem bankNocAccess_reads {b : Nat} {us : List Upset} {x : BankAcc} {v : W128} (hj : (s.bank b).jwrites = [])
    (hx : s.nextAccess b = some x) (hop : x.op = 0) (hm : x.more = 0) (hbad : x.bad = 0) (hgot : x.got = [])
    (hw : (s.upset us).bankWord b x.word = (v, 0)) :
    ∃ l, (doBankNocAccess b us s).dmem = s.dmem ∧ (doBankNocAccess b us s).outbox =
        s.outbox ++ (if s.quayIsDead (b / 8) then [] else [.nocResp x.who.node x.tag 0 [v]]) ++ l ∧
      ((s.bank b).inflow = [] → s.heldPackets (b / 8) = [] →
        l = [] ∧ ((doBankNocAccess b us s).bank b).queue = removeAccess x (s.bank b).queue) := by
  have hword : ((s.upset us).dequeue b x).bankWord b x.word = (v, 0) :=
    ((State.dequeue_kept b x).bankWord b x.word).trans hw
  have hdo : doBankNocAccess b us s =
      (((s.upset us).dequeue b x).quayAnswer (b / 8) x.who.node x.tag 0 [v]).takeUp b := by
    rw [doBankNocAccess_next hj hx, State.bankPerform_read hop hword, State.accessDone_last hm]
    simp [hbad, hgot]
  have hkept := (State.quayAnswer_kept (s := (s.upset us).dequeue b x) (b / 8) x.who.node x.tag 0 [v]).trans
    (State.takeUp_kept b)
  obtain ⟨l, hout, hidle⟩ := State.answered_takeUp (s := s) us b x 0 [v]
  rw [hdo]
  refine ⟨l, hkept.dmem.trans (State.atSlot_dmem us b x), hout, fun hi hh => ?_⟩
  obtain ⟨hl, hbank⟩ := hidle hi hh
  exact ⟨hl, congrArg Bank.queue hbank⟩

theorem bankNocAccess_writes {b : Nat} {us : List Upset} {x : BankAcc} (hj : (s.bank b).jwrites = [])
    (hx : s.nextAccess b = some x) (hop : x.op = 1) (hm : x.more = 0) (hwin : x.win = 0) (hbe : x.be = 65535)
    (hsp : x.spoilt = false) (hin : x.who.exempt = true ∨ s.inJournal b x.word = false) :
    (doBankNocAccess b us s).bankWord b x.word = (x.data, 0) ∧
      (∀ m, (doBankNocAccess b us s).holdsBankResv m b x.word = false) ∧
      ∃ l r, (doBankNocAccess b us s).outbox = l ++ (if s.quayIsDead (b / 8) then []
        else [.nocResp x.who.node x.tag x.bad (if x.bad = 0 then x.got else [])]) ++ r := by
  have hfix := State.atSlot_fixed (s := s) us b x
  rw [← State.inJournal_of hfix] at hin
  obtain ⟨q, hq⟩ : ∃ q, q = (((s.upset us).dequeue b x).writeBank b x.word x.data x.who.exempt).clearBankResv b x.word :=
    ⟨_, rfl⟩
  have hdo : doBankNocAccess b us s =
      (q.quayAnswer (b / 8) x.who.node x.tag x.bad (if x.bad = 0 then x.got else [])).takeUp b := by
    rw [doBankNocAccess_next hj hx, State.bankPerform_write hop hwin hbe hsp hin, ← hq, State.accessDone_last hm]
    by_cases h : x.bad = 0 <;> simp [h]
  have hqfix : ∀ g, bankFixed g = true → ∀ d, q.rd g d = s.rd g d := by
    intro g hg d
    rw [← hfix g hg d, hq]
    exact State.writeBank_fixed hg b x.word x.data x.who.exempt d
  have hkept := (State.quayAnswer_kept (s := q) (b / 8) x.who.node x.tag x.bad (if x.bad = 0 then x.got else [])).trans
    (State.takeUp_kept b)
  have hword : q.bankWord b x.word = (x.data, 0) := by
    rw [hq]
    exact State.bankWord_setBankWord b x.word x.data 0
  have hresv (m : Nat) : q.holdsBankResv m b x.word = false := by
    rw [hq]
    exact State.holdsBankResv_clear m b x.word
  obtain ⟨r, hr⟩ := State.takeUp_sends
    (s := q.quayAnswer (b / 8) x.who.node x.tag x.bad (if x.bad = 0 then x.got else [])) b
  rw [hdo]
  refine ⟨(hkept.bankWord b x.word).trans hword, fun m => ?_, q.outbox, r, ?_⟩
  · rw [← hresv m, State.holdsBankResv, State.holdsBankResv, hkept.resv]
  · rw [← hr, State.quayAnswer_outbox, State.quayIsDead_of hqfix]

theorem bankNocAccess_refused {b : Nat} {us : List Upset} {x : BankAcc} (hj : (s.bank b).jwrites = [])
    (hx : s.nextAccess b = some x) (hop : x.op = 1 ∨ x.op = 3) (hm : x.more = 0) (hbad : x.bad = 0)
    (he : x.who.exempt = false) (hin : s.inJournal b x.word = true) :
    (doBankNocAccess b us s).dmem = s.dmem ∧ (doBankNocAccess b us s).rd (intBit .dmb 2) b = 1 ∧
      ∃ l r, (doBankNocAccess b us s).outbox = l ++ (if s.quayIsDead (b / 8) then []
        else [.nocResp x.who.node x.tag 4 []]) ++ r := by
  have hfix := State.atSlot_fixed (s := s) us b x
  rw [← State.inJournal_of hfix] at hin
  obtain ⟨q, hq⟩ : ∃ q, q = ((s.upset us).dequeue b x).refuseOwner b x.who x.addr := ⟨_, rfl⟩
  have hdo : doBankNocAccess b us s = (q.quayAnswer (b / 8) x.who.node x.tag 4 []).takeUp b := by
    rw [doBankNocAccess_next hj hx, State.bankPerform_journal hop he hin, ← hq, State.accessDone_last hm]
    simp [hbad]
  have hrefuse : BanksKept ((s.upset us).dequeue b x) q := by
    rw [hq]
    exact State.refuseOwner_kept b x.who x.addr
  have hkept := (State.quayAnswer_kept (s := q) (b / 8) x.who.node x.tag 4 []).trans (State.takeUp_kept b)
  have hint : q.rd (intBit .dmb 2) b = 1 := by
    rw [hq]
    exact State.raise_self .dmb b 2
  obtain ⟨r, hr⟩ := State.takeUp_sends (s := q.quayAnswer (b / 8) x.who.node x.tag 4 []) b
  rw [hdo]
  refine ⟨hkept.dmem.trans (hrefuse.dmem.trans (State.atSlot_dmem us b x)), hkept.refused b hint, q.outbox, r, ?_⟩
  rw [← hr, State.quayAnswer_outbox, State.quayIsDead_of fun g hg d => (hrefuse.fixed g hg d).trans (hfix g hg d)]

/-! ## The write-back of a corrected word (R127) -/

theorem exec_eccWriteback (b : Fin 64) : exec (.eccWriteback b) s = .next (doEccWriteback b.val s) := rfl

theorem doEccWriteback_corrects {b w : Nat} {rest : List Nat} {v : W128} (hwb : (s.bank b).writebacks = w :: rest)
    (hslot : s.slotTaken b false = false) (hw : s.bankWord b w = (v, 1)) :
    doEccWriteback b s = (s.modBank b (fun k => { k with writebacks := rest })).setBankWord b w v 0 := by
  have hkept : BanksKept s (s.modBank b (fun k => { k with writebacks := rest })) := State.modBank_kept fun _ => rfl
  have hw' := (hkept.bankWord b w).trans hw
  rw [doEccWriteback, hwb]
  dsimp only
  rw [if_neg (by simp [hslot]), hw']
  rfl

theorem State.setBankWord_frame (b w : Nat) (v : W128) (e : Nat) :
    ((s.setBankWord b w v e).bank b).writebacks = (s.bank b).writebacks ∧ (s.setBankWord b w v e).regs = s.regs := by
  rw [State.setBankWord_eq]
  split
  · rw [State.bank_modBank]
    split
    · exact ⟨rfl, rfl⟩
    · exact ⟨rfl, rfl⟩
  · split
    · exact ⟨rfl, rfl⟩
    · exact ⟨rfl, rfl⟩

/-! ## The berth (R137, R141, R142) -/

theorem exec_berthWrite {a : Accessor} {b : Fin 64} (h : s.accessCode a .dmb b.val 0x40 true = 0) (v : W32) :
    exec (.berthWrite a b v) s = .next (doBerthWrite a b.val v s) := congrArg Host.Outcome.next (State.access_ok h _)

theorem exec_handoverComplete (b : Fin 64) : exec (.handoverComplete b) s = .next (doHandoverComplete b.val s) := rfl

/-- A handover begins: the berth names the new owner, and the one before it is kept. -/
def State.handOver (s : State) (b kind id : Nat) : State :=
  ((((((s.wr R.DMB_BERTH_PREV.KIND b (s.rd R.DMB_BERTH.KIND b)).wr R.DMB_BERTH_PREV.ID b (s.rd R.DMB_BERTH.ID b)).wr
    R.DMB_BERTH.KIND b kind).wr R.DMB_BERTH.ID b id).modBank b
      (fun k => { k with queue := k.queue.map (fun x => { x with old := true }) })).wr R.DMB_STATUS.HANDOVER b
        1).dropBankReservations b

theorem doBerthWrite_begins {b : Nat} {v : W32} (hv : ownerValid (bitsOf v.toNat 0 3) (bitsOf v.toNat 8 6) = true)
    (hh : s.on R.DMB_STATUS.HANDOVER b = false) (hn : s.berthIs b (bitsOf v.toNat 0 3) (bitsOf v.toNat 8 6) = false)
    (a : Accessor) : doBerthWrite a b v s = (s.handOver b (bitsOf v.toNat 0 3) (bitsOf v.toNat 8 6)).respond a true 0 := by
  rw [doBerthWrite]
  dsimp only
  rw [if_neg (by simp [hv, hh]), if_neg (by simp [hn])]
  rfl

theorem doBerthWrite_refused {b : Nat} {v : W32} (h : ownerValid (bitsOf v.toNat 0 3) (bitsOf v.toNat 8 6) = false ∨
    s.on R.DMB_STATUS.HANDOVER b = true) (a : Accessor) :
    doBerthWrite a b v s = (s.errReg a .dmb b 0x40 4).respond a true 0 := by
  rw [doBerthWrite]
  dsimp only
  rw [if_pos]
  rcases h with h | h <;> simp [h]

theorem State.handOver_regs (b kind id : Nat) :
    (s.handOver b kind id).rd R.DMB_BERTH.KIND b = kind % 8 ∧ (s.handOver b kind id).rd R.DMB_BERTH.ID b = id % 64 ∧
      (s.handOver b kind id).rd R.DMB_STATUS.HANDOVER b = 1 ∧
      (s.handOver b kind id).rd R.DMB_BERTH_PREV.KIND b = s.rd R.DMB_BERTH.KIND b % 8 ∧
      (s.handOver b kind id).rd R.DMB_BERTH_PREV.ID b = s.rd R.DMB_BERTH.ID b % 64 := by
  have hdrop (t : State) (g : Fld) : (t.dropBankReservations b).rd g b = t.rd g b := rfl
  refine ⟨?_, ?_, ?_, ?_, ?_⟩ <;>
    simp (disch := decide) only [State.handOver, hdrop, State.rd_wr_apart, State.rd_wr_self, State.modBank_rd] <;> rfl

/-- No reservation stands on a word of a bank that is handed over (R145). -/
theorem State.handOver_resv {w : Nat} (hw : w < 2 ^ 18) (b kind id m : Nat) :
    (s.handOver b kind id).holdsBankResv m b w = false := by
  have hb : (2 ^ 18 * b + w) / 2 ^ 18 = b := by omega
  simpa [State.holdsBankResv, State.handOver, State.dropBankReservations] using fun _ => hb

/-- The state in which a handover has completed. -/
def State.handedOver (s : State) (b : Nat) : State :=
  ((s.wr R.DMB_STATUS.HANDOVER b 0).wr R.DMB_BERTH_PREV.KIND b 0).wr R.DMB_BERTH_PREV.ID b 0

theorem doHandoverComplete_ends {b : Nat} (hh : s.on R.DMB_STATUS.HANDOVER b = true)
    (hq : ∀ x ∈ (s.bank b).queue, x.old = true → x.who.exempt = true) :
    doHandoverComplete b s = ((s.handedOver b).raise .dmb b 0).serveLocal b := by
  have hdone : (s.bank b).queue.any (fun a => a.old && !a.who.exempt) = false := by
    rw [List.any_eq_false]
    intro x hx hc
    simp only [Bool.and_eq_true, Bool.not_eq_true'] at hc
    exact absurd ((hq x hx hc.1).symm.trans hc.2) (by decide)
  rw [doHandoverComplete, if_pos (by rw [hh, hdone]; rfl)]
  rfl

/-- What the bank settles on is read through the commands that waited for it. -/
theorem doHandoverComplete_rd {b : Nat} (hh : s.on R.DMB_STATUS.HANDOVER b = true)
    (hq : ∀ x ∈ (s.bank b).queue, x.old = true → x.who.exempt = true) {g : Fld} (hg : bankFixed g = true) :
    (doHandoverComplete b s).rd g b = (s.handedOver b).rd g b := by
  rw [doHandoverComplete_ends hh hq, State.serveLocal_fixed hg, State.raise_rd _ _ _ (bankFixed_noError hg)]

theorem State.handedOver_regs (b : Nat) : (s.handedOver b).rd R.DMB_STATUS.HANDOVER b = 0 ∧
    (s.handedOver b).rd R.DMB_BERTH.KIND b = s.rd R.DMB_BERTH.KIND b ∧
    (s.handedOver b).rd R.DMB_BERTH.ID b = s.rd R.DMB_BERTH.ID b ∧
    (s.handedOver b).rd R.DMB_BERTH_PREV.KIND b = 0 ∧ (s.handedOver b).rd R.DMB_BERTH_PREV.ID b = 0 := by
  refine ⟨?_, ?_, ?_, ?_, ?_⟩ <;>
    simp (disch := decide) only [State.handedOver, State.rd_wr_apart, State.rd_wr_self, Nat.zero_mod]

/-! ## The repair entries (R154) -/

theorem exec_repairEntryWrite {a : Accessor} {b : Fin 64} {k : Fin 16}
    (h : s.accessCode a .dmb b.val (0x80 + 4 * k.val) true = 0) (v : W32) :
    exec (.repairEntryWrite a b k v) s = .next (doRepairEntryWrite a b.val k.val v s) :=
  congrArg Host.Outcome.next (State.access_ok h _)

theorem State.setRepair_regs (b row valid : Nat) : ∀ k < 16,
    (s.setRepair b k row valid).rd (R.DMB_REPAIR.ROW k) b = row % 2 ^ 15 ∧
      (s.setRepair b k row valid).rd (R.DMB_REPAIR.VALID k) b = valid % 2 ∧
      (s.setRepair b k row valid).rd (R.DMB_REPAIR.TESTER k) b = 0 := by
  have hapart : ∀ k < 16, R.DMB_STATUS.SPARES_USED.apart (R.DMB_REPAIR.ROW k) = true ∧
      R.DMB_STATUS.SPARES_USED.apart (R.DMB_REPAIR.VALID k) = true ∧
      R.DMB_STATUS.SPARES_USED.apart (R.DMB_REPAIR.TESTER k) = true ∧
      (R.DMB_REPAIR.TESTER k).apart (R.DMB_REPAIR.ROW k) = true ∧
      (R.DMB_REPAIR.TESTER k).apart (R.DMB_REPAIR.VALID k) = true ∧
      (R.DMB_REPAIR.VALID k).apart (R.DMB_REPAIR.ROW k) = true := by decide
  intro k hk
  obtain ⟨hrow, hvalid, htester, htr, htv, hvr⟩ := hapart k hk
  rw [State.setRepair]
  refine ⟨?_, ?_, ?_⟩
  · rw [State.rd_wr_apart hrow, State.rd_wr_apart htr, State.rd_wr_apart hvr, State.rd_wr_self]
    rfl
  · rw [State.rd_wr_apart hvalid, State.rd_wr_apart htv, State.rd_wr_self]
    rfl
  · rw [State.rd_wr_apart htester, State.rd_wr_self]
    rfl

/-- An entry is written, and its record changes registers of the LOG_ page alone. -/
theorem doRepairEntryWrite_accepted {b : Nat} (h : s.berthNames b 0 0 = true) (a : Accessor) (k : Nat) (v : W32) {g : Fld}
    (hg : g.page = .dmb) : (doRepairEntryWrite a b k v s).rd g b =
      (s.setRepair b k (bitsOf v.toNat 0 15) (bitOf v.toNat 16)).rd g b := by
  have hlog : g.page ≠ .log := by rw [hg]; decide
  rw [doRepairEntryWrite, if_pos h]
  dsimp only
  rw [State.respond_rd]
  split
  · rfl
  · exact State.logEvent_rd_page hlog _ _ _ _ _ _ _

theorem doRepairEntryWrite_refused {b : Nat} (h : s.berthNames b 0 0 = false) (a : Accessor) (k : Nat) (v : W32) :
    doRepairEntryWrite a b k v s = (s.errReg a .dmb b (0x80 + 4 * k) 4).respond a true 0 := by
  rw [doRepairEntryWrite, if_neg (by simp [h])]

/-! ## The statement -/

/-- Settles O14: of each access by the one word it performs, after which taking up the room it leaves changes no word, no
reservation and no setting; the berth and its handover by the fields that no access to a bank writes. -/
theorem banksServeAndHandOver : Obligations.BanksServeAndHandOver := by
  unfold Obligations.BanksServeAndHandOver
  refine ⟨⟨?reads, ?writes, ?journal, ?writeback⟩, ?begins, ?berthRefused, ?completes, ?repair, ?repairRefused⟩
  case reads =>
    intro b us x v s hj hx hop hm hbad hgot hw
    obtain ⟨l, h⟩ := bankNocAccess_reads hj hx hop hm hbad hgot hw
    exact ⟨_, l, exec_bankNocAccess b us, h⟩
  case writes =>
    intro b us x s hj hx hop hm hwin hbe hsp hin
    exact ⟨_, exec_bankNocAccess b us, bankNocAccess_writes hj hx hop hm hwin hbe hsp hin⟩
  case journal =>
    intro b us x s hj hx hop hm hbad he hin
    obtain ⟨hd, hi, l, r, ho⟩ := bankNocAccess_refused (us := us) hj hx hop hm hbad he hin
    exact ⟨_, l, r, exec_bankNocAccess b us, hd, hi, ho⟩
  case writeback =>
    intro b w rest v s hwb hslot hw
    obtain ⟨hback, hregs⟩ :=
      State.setBankWord_frame (s := s.modBank b.val (fun k => { k with writebacks := rest })) b.val w v 0
    refine ⟨_, exec_eccWriteback b, ?_⟩
    rw [doEccWriteback_corrects hwb hslot hw]
    exact ⟨State.bankWord_setBankWord b.val w v 0, by rw [hback, State.bank_modBank], hregs⟩
  case begins =>
    intro a b v s h hv hh hn
    obtain ⟨hkind, hid, hhand, hpk, hpi⟩ :=
      State.handOver_regs (s := s) b.val (bitsOf v.toNat 0 3) (bitsOf v.toNat 8 6)
    refine ⟨_, exec_berthWrite h v, ?_⟩
    rw [doBerthWrite_begins hv hh hn]
    exact ⟨hkind.trans (Nat.mod_mod _ _), hid.trans (Nat.mod_mod _ _), hhand, hpk, hpi,
      fun m w hw => State.handOver_resv hw b.val _ _ m⟩
  case berthRefused =>
    intro a b v s h hc hv
    refine ⟨_, exec_berthWrite h v, ?_⟩
    rw [doBerthWrite_refused hc]
    exact ⟨State.errReg_rd _ _ _ _ _ rfl _, State.errReg_rd _ _ _ _ _ rfl _, State.err_code hv _ _ _⟩
  case completes =>
    intro b s hh hq
    obtain ⟨hhand, hkind, hid, hpk, hpi⟩ := State.handedOver_regs (s := s) b.val
    exact ⟨_, exec_handoverComplete b, (doHandoverComplete_rd hh hq (by decide)).trans hhand,
      (doHandoverComplete_rd hh hq (by decide)).trans hkind, (doHandoverComplete_rd hh hq (by decide)).trans hid,
      (doHandoverComplete_rd hh hq (by decide)).trans hpk, (doHandoverComplete_rd hh hq (by decide)).trans hpi⟩
  case repair =>
    intro a b k v s h hn
    obtain ⟨hrow, hvalid, htester⟩ :=
      State.setRepair_regs (s := s) b.val (bitsOf v.toNat 0 15) (bitOf v.toNat 16) k.val k.isLt
    exact ⟨_, exec_repairEntryWrite h v, (doRepairEntryWrite_accepted hn a k.val v rfl).trans (hrow.trans (Nat.mod_mod _ _)),
      (doRepairEntryWrite_accepted hn a k.val v rfl).trans (hvalid.trans (Nat.mod_mod _ _)),
      (doRepairEntryWrite_accepted hn a k.val v rfl).trans htester⟩
  case repairRefused =>
    intro a b k v s h hn
    refine ⟨_, exec_repairEntryWrite h v, fun f hf c => ?_⟩
    rw [doRepairEntryWrite_refused hn]
    exact State.errReg_rd _ _ _ _ _ hf c

end Sys2Proof.Machine

/-! The boundary of a cycle (R21, R99, R105, R117): what each of its phases leaves as it was, and the statement on the end of a
cycle and of a far transfer (R65). -/

namespace Sys2Proof.Machine
open Sys2Proof

variable {s t u : State} {p : Nat}

/-! ## What the log engine leaves as it is (R253) -/

section Fixed
variable {g : Fld} (hg : bankFixed g = true)
include hg

theorem State.accessDone_fixed (b : Nat) (a : BankAcc) (st : Nat) (l : List W128) (d : Nat) :
    (s.accessDone b a st l).rd g d = s.rd g d := by
  unfold State.accessDone
  extract_lets bad next
  split
  · exact (State.quayAnswer_kept ..).fixed g hg d
  · split
    · rfl
    · split
      · exact (State.quayAnswer_kept ..).fixed g hg d
      · unfold State.bankFlow
        split
        · exact (State.bankAccept_kept ..).fixed g hg d
        · rfl

theorem State.bankPerform_fixed (b : Nat) (a : BankAcc) (d : Nat) : (s.bankPerform b a).rd g d = s.rd g d := by
  have hread := State.readBank_fixed (s := s) hg b a.word a.who.errNode d
  unfold State.bankPerform
  extract_lets done st s1
  have hdone : ∀ (t : State) (st : Nat) (l : List W128), (done t st l).rd g d = t.rd g d :=
    fun t st l => State.accessDone_fixed hg b a st l d
  split
  · split
    next heq =>
      rw [heq] at hread
      rw [hdone]
      split
      · exact hread
      · exact hread
    next heq =>
      rw [heq] at hread
      exact (hdone _ _ _).trans hread
  · split
    · exact (hdone _ _ _).trans (State.refuseOwner_fixed hg _ _ _ d)
    · split
      · exact hdone _ _ _
      · split
        · split
          next heq =>
            rw [heq] at hread
            exact (hdone _ _ _).trans ((State.writeBank_fixed hg b a.word _ a.who.exempt d).trans hread)
          next heq =>
            rw [heq] at hread
            exact (hdone _ _ _).trans hread
        · have h1 : s1.rd g d = s.rd g d := State.writeBank_fixed hg b a.word a.data a.who.exempt d
          rw [hdone]
          show (if a.spoilt then s1.setBankWord b a.word a.data 3 else s1).rd g d = s.rd g d
          split
          · exact (State.setBankWord_rd b a.word a.data 3 d).trans h1
          · exact h1

theorem State.settleOld_fixed (b d : Nat) : (s.settleOld b).rd g d = s.rd g d := by
  unfold State.settleOld
  refine List.foldlRecOn (motive := fun t : State => t.rd g d = s.rd g d) _ _ rfl fun t ht _ _ => ?_
  unfold State.settleOne
  split
  · exact (State.bankPerform_fixed hg _ _ d).trans ht
  · exact ht

theorem State.directAccess_fixed (b w : Nat) (r : Requester) (write : Bool) (d : Nat) :
    (s.directAccess b w r write).2.rd g d = s.rd g d := by
  unfold State.directAccess
  split
  · exact State.refuseOwner_fixed hg _ _ _ d
  · exact State.refuseLate_fixed hg _ _ _ d
  · extract_lets s1
    have h1 : s1.rd g d = s.rd g d := by
      unfold s1
      split
      · exact State.settleOld_fixed hg b d
      · rfl
    split
    · exact (State.refuseOwner_fixed hg _ _ _ d).trans h1
    · exact h1

theorem State.replayWord_fixed (m b w : Nat) (v : W128) (d : Nat) : (s.replayWord m b w v).rd g d = s.rd g d := by
  have hdirect := State.directAccess_fixed (s := s) hg b w ⟨1, m, 63, false⟩ true d
  unfold State.replayWord
  split
  next heq =>
    rw [heq] at hdirect
    exact (State.writeBank_fixed hg b w v true d).trans hdirect
  next heq => rwa [heq] at hdirect

theorem State.writeLog_fixed (m cycle d : Nat) : (s.writeLog m cycle).rd g d = s.rd g d := by
  unfold State.writeLog
  extract_lets rec0 pos
  split
  split
  · rfl
  · split
    · exact State.loseProtection_fixed hg m 3 d
    · split
      · exact State.loseProtection_fixed hg m 4 d
      · exact List.foldlRecOn (motive := fun t : State => t.rd g d = s.rd g d) _ _ rfl
          fun _ ht _ _ => (State.replayWord_fixed hg _ _ _ _ d).trans ht

end Fixed

/-! ## Phases that leave a partition's course as it is -/

/-- The fields that a cycle's boundary reads, and those it is about. -/
def courseFields : List Fld :=
  [R.PRT_CYCLE_LO.COUNT, R.PRT_CYCLE_HI.COUNT, R.PRT_STATUS.XPHASE, R.PRT_STATUS.ISOLATED, R.PRT_STATUS.STATE,
    R.PRT_STATUS.PENDING, R.PRT_STATUS.STOP_REQ, R.PRT_STATUS.STOP_CAUSE, R.PRT_BUNCHES_LO.MEMBER,
    R.PRT_BUNCHES_HI.MEMBER, R.PRT_CTRL.REL_SRC, R.DBG_STATUS.EMU]

theorem courseFields_fixed : ∀ g ∈ courseFields, bankFixed g = true := by decide

theorem courseFields_page : ∀ g ∈ courseFields, g.page = .prt ∨ g.page = .dbg := by decide

theorem courseFields_noError : ∀ g ∈ courseFields, errorReg (g.off % 4096) = false := by decide

/-- Partition p is as far in its course, its ports present what they did, and the fields of its boundary read as before. -/
structure Steady (p : Nat) (s t : State) : Prop where
  course : (t.part p).course = (s.part p).course
  fabPres : t.fabPres = s.fabPres
  field : ∀ g ∈ courseFields, ∀ d, t.rd g d = s.rd g d

theorem Steady.refl (p : Nat) (s : State) : Steady p s s := ⟨rfl, rfl, fun _ _ _ => rfl⟩

theorem Steady.trans (h : Steady p s t) (h' : Steady p t u) : Steady p s u :=
  ⟨h'.course.trans h.course, h'.fabPres.trans h.fabPres, fun g hg d => (h'.field g hg d).trans (h.field g hg d)⟩

/-- What changes no register of the pages PRT_ and DBG_ changes no field of the boundary. -/
theorem courseFields_of_keeps {M : Nat} (h : Keeps M s t) (hprt : M.testBit (Kind.regs .prt).bit = false)
    (hdbg : M.testBit (Kind.regs .dbg).bit = false) : ∀ g ∈ courseFields, ∀ d, t.rd g d = s.rd g d := by
  intro g hg d
  rcases courseFields_page g hg with e | e
  · exact h.same (.regs .prt) hprt g d e (courseFields_noError g hg)
  · exact h.same (.regs .dbg) hdbg g d e (courseFields_noError g hg)

theorem State.sampleClock_steady (l src : Nat) (seq : Option Nat) : Steady p s (s.sampleClock l src seq) := by
  have h := State.sampleClock_keeps (M := 65536) (a1 := l) (a2 := src) (a3 := seq) rfl (Keeps.refl _ s)
  obtain ⟨_, _, hpres, _⟩ := h.same .outbound rfl
  exact ⟨State.course_of_parts (h.same .parts rfl) p, hpres, courseFields_of_keeps h rfl rfl⟩

theorem State.writeLog_steady (m cycle : Nat) : Steady p s (s.writeLog m cycle) where
  course := by
    unfold State.writeLog
    extract_lets rec0 pos
    split
    split
    · rfl
    · split
      · exact State.course_of_parts (State.loseProtection_parts m 3) p
      · split
        · exact State.course_of_parts (State.loseProtection_parts m 4) p
        · refine (State.modPart_course m p).trans (State.course_of_parts ?_ p)
          exact List.foldlRecOn (motive := fun t : State => t.parts = s.parts) _ _ rfl fun t ht _ _ =>
            ((State.replayWord_keeps (M := 297256267456460817) rfl (Keeps.refl _ t)).same .parts rfl).trans ht
  fabPres := by
    have h := State.writeLog_keeps (M := 297256267456461841) (a1 := m) (a2 := cycle) rfl (Keeps.refl _ s)
    obtain ⟨_, _, hpres, _⟩ := h.same .outbound rfl
    exact hpres
  field g hg d := State.writeLog_fixed (courseFields_fixed g hg) m cycle d

theorem State.takeSnapshot_steady (m cycle : Nat) : Steady p s (s.takeSnapshot m cycle) where
  course := State.takeSnapshot_course m cycle p
  fabPres := (State.takeSnapshot_frame m cycle).1
  field := courseFields_of_keeps (State.takeSnapshot_keeps (M := 297256267456451585) rfl (Keeps.refl _ s)) rfl rfl

theorem State.raise_steady (q : Page) (ch i : Nat) : Steady p s (s.raise q ch i) where
  course := State.course_of_parts (State.raise_parts ..) p
  fabPres := State.raise_fabPres ..
  field g hg d := State.raise_rd q ch i (courseFields_noError g hg) d

theorem State.absorbed_steady (m kind : Nat) : Steady p s (s.absorbed m kind) where
  course := State.course_of_parts ((State.logEvent_parts ..).trans (State.raise_parts ..)) p
  fabPres := (State.logEvent_fabPres ..).trans (State.raise_fabPres ..)
  field := courseFields_of_keeps (State.absorbed_keeps (M := 18692049993729) rfl (Keeps.refl _ s)) rfl rfl

theorem State.unitIdle_steady : Steady p s s.unitIdle := by
  have h := State.unitIdle_keeps (M := 2251799814733824) rfl (Keeps.refl _ s)
  obtain ⟨_, _, hpres, _⟩ := h.same .outbound rfl
  exact ⟨State.course_of_parts (h.same .parts rfl) p, hpres, courseFields_of_keeps h rfl rfl⟩

/-- A write to a field that stands apart from those of the boundary. -/
theorem State.wr_steady {f : Fld} (hf : ∀ g ∈ courseFields, f.apart g = true) (c v : Nat) : Steady p s (s.wr f c v) :=
  ⟨rfl, rfl, fun g hg d => State.rd_wr_apart (hf g hg) c d v⟩

theorem State.modPart_steady (m : Nat) {f : Part → Part} (h : ∀ x, (f x).course = x.course) : Steady p s (s.modPart m f) :=
  ⟨State.modPart_course m p h, rfl, fun _ _ _ => rfl⟩

/-- A write on the page RES_. -/
theorem State.wrRes_steady {f : Fld} (hf : f.page = .res) (c v : Nat) : Steady p s (s.wr f c v) := by
  refine State.wr_steady (fun g hg => Fld.apart_of_page fun e => ?_) c v
  rcases courseFields_page g hg with e' | e'
  · exact absurd (hf.symm.trans (e.trans e')) (by decide)
  · exact absurd (hf.symm.trans (e.trans e')) (by decide)

/-! ### The end of a stall (R111) -/

theorem State.book_steady (m : Nat) : Steady p s (s.book m) := by
  unfold State.book
  extract_lets g ns s1 s2 s3 s4 s5
  have h1 : Steady p s s1 := State.wr_steady (by decide) _ _
  have h2 : Steady p s s2 := by
    unfold s2
    split
    · exact h1.trans (State.wr_steady (by decide) _ _)
    · exact h1
  have h3 : Steady p s s3 := h2.trans (State.wr_steady (by decide) _ _)
  have h4 : Steady p s s4 := h3.trans (State.wr_steady (by decide) _ _)
  have h5 : Steady p s s5 := (h4.trans (State.wr_steady (by decide) _ _)).trans (State.wr_steady (by decide) _ _)
  exact h5.trans (State.modPart_steady m fun _ => rfl)

theorem State.stallEnd_steady (m : Nat) : Steady p s (s.stallEnd m) := by
  unfold State.stallEnd
  split
  · exact .refl p s
  next t _ =>
    extract_lets s1
    have h1 : Steady p s s1 := by
      refine Steady.trans (t := s.modPart m _) ?_ (State.wr_steady (by decide) _ _)
      exact State.modPart_steady m fun _ => rfl
    split
    · exact h1
    · exact h1.trans (State.book_steady m)

end Sys2Proof.Machine

/-! The boundary of a cycle: the phases that present outputs, end isolation and count the cycle, and the statement. -/

namespace Sys2Proof.Machine
open Sys2Proof

variable {s t u : State} {p : Nat}

/-! ## Joins at a boundary (R249) -/

/-- The same partitions, presented bits and registers. -/
theorem Steady.of_eq (hparts : t.parts = s.parts) (hpres : t.fabPres = s.fabPres) (hregs : t.regs = s.regs) : Steady p s t :=
  ⟨State.course_of_parts hparts p, hpres, fun g _ d => by rw [State.rd, State.rd, hregs]⟩

/-- A member that has joined. -/
theorem State.joined_steady (j : Nat) : Steady p s (((((s.wr (R.RES_GROUP.MSTATE j) 0 0).wr R.RES_STATUS.CMD_BUSY 0 0).modPart j
    (fun x => { x with rejoin := 0, pendErr := none })).raise .res 0 8).absorbed j 6) := by
  refine Steady.trans ?_ (State.absorbed_steady j 6)
  refine Steady.trans ?_ (State.raise_steady .res 0 8)
  refine Steady.trans ?_ (State.modPart_steady j fun _ => rfl)
  exact (State.wrRes_steady (show (R.RES_GROUP.MSTATE j).page = .res from rfl) 0 0).trans
    (State.wrRes_steady (show R.RES_STATUS.CMD_BUSY.page = .res from rfl) 0 0)

/-- Copying a bunch's registers, or words of the exchange, changes neither a partition nor what the ports present. -/
theorem State.finishJoins_steady (l : Nat) : Steady p s (s.finishJoins l) := by
  unfold State.finishJoins
  refine List.foldlRecOn (motive := fun t : State => Steady p s t) _ _ (.refl p s) fun t ht j _ => ?_
  dsimp only
  split
  · refine ht.trans (Steady.trans ?_ (State.joined_steady j))
    generalize hs1 : List.foldl _ t (t.bunches (t.actingOf l)) = s1
    have h1 : s1.parts = t.parts ∧ s1.fabPres = t.fabPres ∧ s1.regs = t.regs := by
      rw [← hs1]
      refine List.foldlRecOn (motive := fun u : State => u.parts = t.parts ∧ u.fabPres = t.fabPres ∧ u.regs = t.regs) _ _
        ⟨rfl, rfl, rfl⟩ fun u hu n _ => ?_
      exact List.foldlRecOn (motive := fun v : State => v.parts = t.parts ∧ v.fabPres = t.fabPres ∧ v.regs = t.regs) _ _ hu
        fun _ hv _ _ => hv
    have h3 := List.foldlRecOn (motive := fun v : State => v.parts = t.parts ∧ v.fabPres = t.fabPres ∧ v.regs = t.regs)
      (List.range 64) (fun (s : State) r =>
        { s with exchPriv := SMap.set 0 s.exchPriv (j * 64 + r) (SMap.get 0 s.exchPriv (t.actingOf l * 64 + r)) }) h1
      fun _ hv _ _ => hv
    obtain ⟨hparts, hpres, hregs⟩ := h3
    exact .of_eq hparts hpres hregs
  · exact ht

/-! ## Outbound bits (R21) -/

/-- A bunch presents what it last wrote. -/
def State.presentOwn (s : State) (n : Nat) : State := { s with fabPres := SMap.set 0 s.fabPres n (SMap.get 0 s.fabOwn n) }

theorem State.presentOwns_fabPres (ns : List Nat) (n : Nat) : SMap.get 0 (ns.foldl State.presentOwn s).fabPres n =
    if n ∈ ns then SMap.get 0 s.fabOwn n else SMap.get 0 s.fabPres n := by
  induction ns generalizing s with
  | nil => rfl
  | cons m ns ih =>
    have hown : (s.presentOwn m).fabOwn = s.fabOwn := rfl
    rw [List.foldl_cons, ih, hown]
    by_cases hn : n ∈ ns
    · simp [hn]
    · by_cases e : n = m
      · subst e
        simp only [hn, if_false, List.mem_cons_self, if_true]
        exact SMap.get_set_self _ _ _ _
      · simp only [hn, if_false, List.mem_cons, e, or_self]
        exact SMap.get_set_other e

/-- Outside a group each bunch of the partition presents its own bits, but where isolation holds them. -/
theorem State.presentFabric_eq {l : Nat} (hl : s.isLead l = false) : s.presentFabric l =
    if s.on R.PRT_STATUS.ISOLATED l && !(s.part l).opened then s else (s.bunches l).foldl State.presentOwn s := by
  have hfold (ns : List Nat) : ∀ t : State, t.isLead l = false → ns.foldl (fun (s : State) n =>
      { s with fabPres := SMap.set 0 s.fabPres n (if s.isLead l then s.vote l (fun m => SMap.get 0 s.fabOwn (s.corresponds l m n))
        else SMap.get 0 s.fabOwn n) }) t = ns.foldl State.presentOwn t := by
    induction ns with
    | nil => exact fun _ _ => rfl
    | cons m ns ih =>
      intro t ht
      rw [List.foldl_cons, List.foldl_cons, if_neg (by simp [ht])]
      exact ih (t.presentOwn m) ht
  rw [State.presentFabric]
  split
  · rfl
  · exact hfold _ s hl

theorem State.presentOwns_frame (ns : List Nat) : (ns.foldl State.presentOwn s).parts = s.parts ∧
    (ns.foldl State.presentOwn s).regs = s.regs :=
  List.foldlRecOn (motive := fun t : State => t.parts = s.parts ∧ t.regs = s.regs) _ _ ⟨rfl, rfl⟩ fun _ ht _ _ => ht

/-- What is presented at the boundary of a partition that is no lead. -/
theorem State.presentFabric_effect {l : Nat} (hl : s.isLead l = false) : (s.presentFabric l).parts = s.parts ∧
    (s.presentFabric l).regs = s.regs ∧ ∀ n ∈ s.bunches l, SMap.get 0 (s.presentFabric l).fabPres n =
      if s.on R.PRT_STATUS.ISOLATED l && !(s.part l).opened then SMap.get 0 s.fabPres n else SMap.get 0 s.fabOwn n := by
  rw [State.presentFabric_eq hl]
  split
  · exact ⟨rfl, rfl, fun _ _ => rfl⟩
  · obtain ⟨hparts, hregs⟩ := State.presentOwns_frame (s := s) (s.bunches l)
    exact ⟨hparts, hregs, fun n hn => by rw [State.presentOwns_fabPres, if_pos hn]⟩

/-! ## The exchange and isolation (R99, R117) -/

theorem State.setExch_frame {a : SMap Part} {b : SMap (BitVec 64)} {c : SMap Nat}
    (h : s.parts = a ∧ s.fabPres = b ∧ s.regs = c) {core reg half buf : Nat} {v : W128} :
    (s.setExch core reg half buf v).parts = a ∧ (s.setExch core reg half buf v).fabPres = b ∧
      (s.setExch core reg half buf v).regs = c := h

/-- The boundary flips the phase; the buffers it copies are no register. -/
theorem State.exchBoundary_frame (l : Nat) : (s.exchBoundary l).parts = s.parts ∧ (s.exchBoundary l).fabPres = s.fabPres ∧
    (s.exchBoundary l).regs = (s.wr R.PRT_STATUS.XPHASE l (1 - s.rd R.PRT_STATUS.XPHASE l)).regs := by
  unfold State.exchBoundary State.window
  refine List.foldlRecOn (motive := fun t : State => t.parts = s.parts ∧ t.fabPres = s.fabPres ∧
    t.regs = (s.wr R.PRT_STATUS.XPHASE l (1 - s.rd R.PRT_STATUS.XPHASE l)).regs) _ _ ⟨rfl, rfl, rfl⟩ fun t ht r _ => ?_
  dsimp only
  split
  · exact State.setExch_frame (State.setExch_frame (State.setExch_frame ht))
  · exact ht

theorem State.releaseIsolation_closed {l : Nat} (h : (s.part l).opened = false) : s.releaseIsolation l = s := by
  rw [State.releaseIsolation, if_pos (by simp [h])]

/-- Isolation ends for the partition and the members it leads, with nothing else of its course. -/
theorem State.releaseIsolation_opened {l : Nat} (h : (s.part l).opened = true) :
    ((s.releaseIsolation l).part p).course = (s.part p).course ∧ (s.releaseIsolation l).fabPres = s.fabPres ∧
    (s.releaseIsolation l).rd R.PRT_STATUS.ISOLATED l = 0 ∧
    ∀ g : Fld, R.PRT_STATUS.ISOLATED.apart g = true → ∀ d, (s.releaseIsolation l).rd g d = s.rd g d := by
  rw [State.releaseIsolation, if_neg (by simp [h])]
  dsimp only
  generalize hs1 : List.foldl _ s (s.part l).probeBuf = s1
  have h1 : s1.parts = s.parts ∧ s1.fabPres = s.fabPres ∧ s1.regs = s.regs := by
    rw [← hs1]
    exact List.foldlRecOn (motive := fun t : State => t.parts = s.parts ∧ t.fabPres = s.fabPres ∧ t.regs = s.regs) _ _
      ⟨rfl, rfl, rfl⟩ fun _ ht _ _ => ht
  obtain ⟨hparts, hpres, hregs⟩ := h1
  have hout : ∀ ms : List Nat, (ms.foldl (fun s m => s.wr R.PRT_STATUS.ISOLATED m 0) s1).parts = s.parts ∧
      (ms.foldl (fun s m => s.wr R.PRT_STATUS.ISOLATED m 0) s1).fabPres = s.fabPres ∧
      ∀ g : Fld, R.PRT_STATUS.ISOLATED.apart g = true → ∀ d,
        (ms.foldl (fun s m => s.wr R.PRT_STATUS.ISOLATED m 0) s1).rd g d = s.rd g d := by
    intro ms
    refine List.foldlRecOn (motive := fun t : State => t.parts = s.parts ∧ t.fabPres = s.fabPres ∧
      ∀ g : Fld, R.PRT_STATUS.ISOLATED.apart g = true → ∀ d, t.rd g d = s.rd g d) _ _
      ⟨hparts, hpres, fun g _ d => by rw [State.rd, hregs]; rfl⟩ fun t ht m _ => ?_
    obtain ⟨htp, htf, htr⟩ := ht
    exact ⟨htp, htf, fun g hg d => (State.rd_wr_apart hg m d 0).trans (htr g hg d)⟩
  have hzero : ((s1.members l).foldl (fun s m => s.wr R.PRT_STATUS.ISOLATED m 0) s1).rd R.PRT_STATUS.ISOLATED l = 0 := by
    rw [State.members, List.foldl_cons]
    refine List.foldlRecOn (motive := fun t : State => t.rd R.PRT_STATUS.ISOLATED l = 0) _ _ (State.rd_wr_self _ _ _)
      fun t ht m _ => ?_
    rw [State.rd_wr, ht]
    exact ite_self 0
  obtain ⟨hp, hf, hr⟩ := hout (s1.members l)
  exact ⟨(State.modPart_course l p).trans (State.course_of_parts hp p), hf, hzero, hr⟩

end Sys2Proof.Machine

/-! The end of a cycle and of a far transfer: the statement. -/

namespace Sys2Proof.Machine
open Sys2Proof

variable {s t u : State} {p : Nat}

/-! ## The boundary of a cycle that is not replayed, of a partition that is no lead -/

/-- The count of the cycle that ends. -/
def State.cycleCount (s : State) (l : Nat) : Nat := s.rd64 R.PRT_CYCLE_LO.COUNT R.PRT_CYCLE_HI.COUNT l

/-- The cycle is sampled and logged. -/
def State.cycleLogged (s : State) (l : Nat) : State :=
  if s.snapOn l then (s.sampleClock l 0 (some (s.cycleCount l))).writeLog l (s.cycleCount l)
  else s.sampleClock l 0 (some (s.cycleCount l))

/-- The cycle's outputs are presented, and isolation ends where START opened it. -/
def State.cycleShown (s : State) (l : Nat) : State :=
  (((s.cycleLogged l).presentFabric l).exchBoundary l).releaseIsolation l

/-- A snapshot that was being captured is valid, and members join. -/
def State.cycleJoined (s : State) (l : Nat) : State :=
  (if s.on (R.RES_SNAP.CAPTURING l) 0 then (s.wr (R.RES_SNAP.CAPTURING l) 0 0).wr (R.RES_SNAP.VALID l) 0 1 else s).finishJoins l

/-- The cycle is counted, and the partition is in none. -/
def State.cycleCounted (s : State) (l c : Nat) : State :=
  ((s.wr64 R.PRT_CYCLE_LO.COUNT R.PRT_CYCLE_HI.COUNT l (c + 1)).raise .prt l 9).modPart l
    (fun x => { x with inCycle := false, step := 0, completed := true })

/-- The cycle has ended, and the next one's snapshot is taken. -/
def State.cycleOver (s : State) (l c : Nat) : State :=
  if s.snapBefore l (c + 1) then s.takeSnapshot l (c + 1) else s

/-- The state at the end of a cycle, before a stop or the next release. -/
def State.ended (s : State) (l : Nat) : State :=
  (((s.cycleShown l).cycleJoined l).cycleCounted l (s.cycleCount l)).cycleOver l (s.cycleCount l)

/-- The partition forgets a breakpoint of the cycle that ended. -/
def State.unbroken (s : State) (l : Nat) : State := s.modPart l (fun x => { x with brk := false })

theorem Part.eq_of_steady (h : Steady p s t) : (t.part p).opened = (s.part p).opened ∧ (t.part p).replay = (s.part p).replay ∧
    (t.part p).frozenFrom = (s.part p).frozenFrom ∧ (t.part p).inCycle = (s.part p).inCycle ∧
    (t.part p).step = (s.part p).step := by
  obtain ⟨hin, hstep, _, _, hopen, hfrozen, hreplay⟩ := Part.eq_of_course h.course
  exact ⟨hopen, hreplay, hfrozen, hin, hstep⟩

theorem State.cycleLogged_steady (l : Nat) : Steady p s (s.cycleLogged l) := by
  unfold State.cycleLogged
  split
  · exact (State.sampleClock_steady _ _ _).trans (State.writeLog_steady _ _)
  · exact State.sampleClock_steady _ _ _

theorem bankFixed_role (h : p < 64) : bankFixed (R.RES_GROUP.ROLE p) = true := by
  revert p
  decide

/-- Sampling and logging a cycle change neither a role nor the bits a bunch has written. -/
theorem State.cycleLogged_frame (hl : p < 64) : (s.cycleLogged p).isLead p = s.isLead p ∧
    (s.cycleLogged p).fabOwn = s.fabOwn := by
  have hsample := State.sampleClock_keeps (M := 65536) (a1 := p) (a2 := 0) (a3 := some (s.cycleCount p)) rfl (Keeps.refl _ s)
  have hrole : (s.sampleClock p 0 (some (s.cycleCount p))).rd (R.RES_GROUP.ROLE p) 0 = s.rd (R.RES_GROUP.ROLE p) 0 :=
    hsample.same (.regs .res) rfl _ 0 rfl (bankFixed_noError (bankFixed_role hl))
  obtain ⟨_, hown, _⟩ := hsample.same .outbound rfl
  unfold State.cycleLogged State.isLead State.role
  split
  · have hlog := State.writeLog_keeps (M := 297256267456461841) (a1 := p) (a2 := s.cycleCount p) rfl
      (Keeps.refl _ (s.sampleClock p 0 (some (s.cycleCount p))))
    obtain ⟨_, hown', _⟩ := hlog.same .outbound rfl
    rw [State.writeLog_fixed (bankFixed_role hl), hrole]
    exact ⟨rfl, hown'.trans hown⟩
  · rw [hrole]
    exact ⟨rfl, hown⟩

/-- What is presented at the boundary, with XPHASE flipped and isolation ended where START opened it. -/
theorem State.cycleShown_effect (hp : p < 64) (hl : s.isLead p = false) :
    ((s.cycleShown p).part p).course = (s.part p).course ∧
    (∀ n ∈ s.bunches p, SMap.get 0 (s.cycleShown p).fabPres n =
      if s.on R.PRT_STATUS.ISOLATED p && !(s.part p).opened then SMap.get 0 s.fabPres n else SMap.get 0 s.fabOwn n) ∧
    (s.cycleShown p).rd R.PRT_STATUS.XPHASE p = (1 - s.rd R.PRT_STATUS.XPHASE p) % 2 ∧
    (s.cycleShown p).rd R.PRT_STATUS.ISOLATED p = (if (s.part p).opened then 0 else s.rd R.PRT_STATUS.ISOLATED p) ∧
    ∀ g ∈ courseFields, R.PRT_STATUS.XPHASE.apart g = true → R.PRT_STATUS.ISOLATED.apart g = true → ∀ d,
      (s.cycleShown p).rd g d = s.rd g d := by
  have hlog : Steady p s (s.cycleLogged p) := State.cycleLogged_steady p
  obtain ⟨hlead, hown⟩ := State.cycleLogged_frame (s := s) hp
  obtain ⟨hopen, _⟩ := Part.eq_of_steady hlog
  obtain ⟨hpparts, hpregs, hppres⟩ := State.presentFabric_effect (hlead.trans hl)
  obtain ⟨hxparts, hxpres, hxregs⟩ := State.exchBoundary_frame (s := (s.cycleLogged p).presentFabric p) p
  have hbunches : (s.cycleLogged p).bunches p = s.bunches p := by
    rw [State.bunches, State.bunches, hlog.field _ (by decide), hlog.field _ (by decide)]
  have hpres : ∀ n ∈ s.bunches p, SMap.get 0 (((s.cycleLogged p).presentFabric p).exchBoundary p).fabPres n =
      if s.on R.PRT_STATUS.ISOLATED p && !(s.part p).opened then SMap.get 0 s.fabPres n else SMap.get 0 s.fabOwn n := by
    intro n hn
    rw [hxpres, hppres n (by rwa [hbunches]), State.on, hlog.field _ (by decide), hopen, hlog.fabPres, hown]
    rfl
  have hrd : ∀ g d, (((s.cycleLogged p).presentFabric p).exchBoundary p).rd g d =
      ((s.cycleLogged p).wr R.PRT_STATUS.XPHASE p (1 - s.rd R.PRT_STATUS.XPHASE p)).rd g d := by
    intro g d
    have hx : ((s.cycleLogged p).presentFabric p).rd R.PRT_STATUS.XPHASE p = s.rd R.PRT_STATUS.XPHASE p := by
      rw [← hlog.field R.PRT_STATUS.XPHASE (by decide), State.rd, hpregs]
      rfl
    rw [hx] at hxregs
    rw [State.rd, hxregs, State.wr, hpregs]
    rfl
  have hpart : (((s.cycleLogged p).presentFabric p).exchBoundary p).part p = (s.cycleLogged p).part p := by
    rw [State.part, hxparts, hpparts]
    rfl
  have hphase : (((s.cycleLogged p).presentFabric p).exchBoundary p).rd R.PRT_STATUS.XPHASE p =
      (1 - s.rd R.PRT_STATUS.XPHASE p) % 2 := by
    rw [hrd, State.rd_wr_self]
    rfl
  have hfield : ∀ g ∈ courseFields, R.PRT_STATUS.XPHASE.apart g = true → ∀ d,
      (((s.cycleLogged p).presentFabric p).exchBoundary p).rd g d = s.rd g d := by
    intro g hg hx d
    rw [hrd, State.rd_wr_apart hx, hlog.field g hg]
  unfold State.cycleShown
  cases ho : (s.part p).opened with
  | false =>
    rw [State.releaseIsolation_closed (by rw [hpart, hopen, ho]), hpart]
    rw [ho] at hpres
    exact ⟨hlog.course, hpres, hphase, hfield _ (by decide) (by decide) p, fun g hg hx _ d => hfield g hg hx d⟩
  | true =>
    obtain ⟨hrc, hrp, hri, hrr⟩ := State.releaseIsolation_opened
      (p := p) (s := ((s.cycleLogged p).presentFabric p).exchBoundary p) (l := p) (by rw [hpart, hopen, ho])
    rw [hpart] at hrc
    rw [ho] at hpres
    exact ⟨hrc.trans hlog.course, fun n hn => by rw [hrp, hpres n hn], (hrr _ (by decide) p).trans hphase, hri,
      fun g hg hx hi d => (hrr g hi d).trans (hfield g hg hx d)⟩

theorem State.cycleShown_isLead (hp : p < 64) (hl : s.isLead p = false) :
    (((s.cycleLogged p).presentFabric p).exchBoundary p).isLead p = false := by
  obtain ⟨hlead, _⟩ := State.cycleLogged_frame (s := s) hp
  obtain ⟨_, hpregs, _⟩ := State.presentFabric_effect (hlead.trans hl)
  obtain ⟨_, _, hxregs⟩ := State.exchBoundary_frame (s := (s.cycleLogged p).presentFabric p) p
  have hrole : (((s.cycleLogged p).presentFabric p).exchBoundary p).rd (R.RES_GROUP.ROLE p) 0 =
      (s.cycleLogged p).rd (R.RES_GROUP.ROLE p) 0 := by
    rw [State.rd, hxregs]
    refine (State.rd_wr_apart (Fld.apart_of_page (show Page.prt ≠ .res by decide)) _ _ _).trans ?_
    rw [State.rd, hpregs]
    rfl
  rw [← hl, ← hlead, State.isLead, State.isLead, State.role, State.role, hrole]

/-- The phases of the boundary, for a cycle that is not replayed. -/
theorem State.makeBoundary_eq (hp : p < 64) (hl : s.isLead p = false) (hr : (s.part p).replay = none) (b : Inbound) :
    s.makeBoundary p b = if s.stopRank p != 0 then ((s.ended p).stopNow p (s.stopRank p)).unitIdle
      else ((s.ended p).unbroken p).takePending p b := by
  have hlead := State.cycleShown_isLead hp hl
  obtain ⟨hcourse, _⟩ := State.cycleShown_effect hp hl
  have hreplay : ((s.cycleShown p).part p).replay = none := (Part.eq_of_course hcourse).2.2.2.2.2.2.trans hr
  have hend : (s.cycleShown p).endReplay p = s.cycleShown p := by rw [State.endReplay, hreplay]
  unfold State.makeBoundary
  extract_lets c s0 s1 s2 s3 s3' s4 s5 s6 s7 s8
  have h0 : s0 = s.sampleClock p 0 (some c) := if_pos (by rw [hr]; rfl)
  have h1 : s1 = s.cycleLogged p := by
    unfold s1
    rw [h0, hl, Bool.not_false, Bool.and_true]
    rfl
  have h2 : s2 = ((s.cycleLogged p).presentFabric p).exchBoundary p := by
    unfold s2
    rw [h1]
  have h3 : s3' = s.cycleShown p := by
    unfold s3' s3
    rw [h2, if_neg (by rw [hlead]; decide)]
    rfl
  have h4 : s4 = s.cycleShown p := by
    unfold s4
    rw [if_pos (by rw [hr]; rfl), h3, hend]
  have h8 : s8 = s.ended p := by
    unfold s8 s7 s6 s5
    rw [h4]
    rfl
  rw [h8]
  rfl

/-! ## The count (R99) -/

theorem State.cycleJoined_steady (l : Nat) : Steady p s (s.cycleJoined l) := by
  unfold State.cycleJoined
  split
  · exact ((State.wrRes_steady (show (R.RES_SNAP.CAPTURING l).page = .res from rfl) 0 0).trans
      (State.wrRes_steady (show (R.RES_SNAP.VALID l).page = .res from rfl) 0 1)).trans (State.finishJoins_steady l)
  · exact State.finishJoins_steady l

theorem State.cycleOver_steady (l c : Nat) : Steady p s (s.cycleOver l c) := by
  unfold State.cycleOver
  split
  · exact State.takeSnapshot_steady l (c + 1)
  · exact .refl p s

/-- The cycle is counted, and the partition's course is that of one between two cycles. -/
theorem State.cycleCounted_effect (c : Nat) :
    ((s.cycleCounted p c).part p).course = { (s.part p).course with inCycle := false, step := 0, completed := true } ∧
    (s.cycleCounted p c).fabPres = s.fabPres ∧
    (s.cycleCounted p c).rd R.PRT_CYCLE_LO.COUNT p = (c + 1) % 2 ^ 32 ∧
    (s.cycleCounted p c).rd R.PRT_CYCLE_HI.COUNT p = (c + 1) / 2 ^ 32 % 2 ^ 32 ∧
    ∀ g ∈ courseFields, R.PRT_CYCLE_LO.COUNT.apart g = true → R.PRT_CYCLE_HI.COUNT.apart g = true → ∀ d,
      (s.cycleCounted p c).rd g d = s.rd g d := by
  have hpart : ((s.wr64 R.PRT_CYCLE_LO.COUNT R.PRT_CYCLE_HI.COUNT p (c + 1)).raise .prt p 9).part p = s.part p := by
    rw [State.part, State.raise_parts]
    rfl
  unfold State.cycleCounted
  refine ⟨?_, (State.raise_fabPres ..), ?_, ?_, fun g hg hlo hhi d => ?_⟩
  · rw [State.part_modPart, hpart]
    rfl
  · rw [State.modPart_rd, State.raise_rd _ _ _ rfl, State.wr64, State.rd_wr_apart (by decide), State.rd_wr_self]
    rfl
  · rw [State.modPart_rd, State.raise_rd _ _ _ rfl, State.wr64, State.rd_wr_self]
    rfl
  · rw [State.modPart_rd, State.raise_rd _ _ _ (courseFields_noError g hg), State.wr64, State.rd_wr_apart hhi,
      State.rd_wr_apart hlo]

/-! ## What a boundary has done (R21, R99, R117) -/

/-- The fields that a boundary leaves for the stop or the release after it. -/
def shownFields : List Fld :=
  [R.PRT_CYCLE_LO.COUNT, R.PRT_CYCLE_HI.COUNT, R.PRT_STATUS.XPHASE, R.PRT_STATUS.ISOLATED]

/-- The cycle of partition p is counted, its phase flipped, its isolation ended where START opened it, and its outputs presented. -/
structure BoundaryDone (p : Nat) (s t : State) : Prop where
  count : t.rd64 R.PRT_CYCLE_LO.COUNT R.PRT_CYCLE_HI.COUNT p = (s.rd64 R.PRT_CYCLE_LO.COUNT R.PRT_CYCLE_HI.COUNT p + 1) % 2 ^ 64
  phase : t.rd R.PRT_STATUS.XPHASE p = (1 - s.rd R.PRT_STATUS.XPHASE p) % 2
  isolated : t.rd R.PRT_STATUS.ISOLATED p = (if (s.part p).opened then 0 else s.rd R.PRT_STATUS.ISOLATED p)
  pres : ∀ n ∈ s.bunches p, SMap.get 0 t.fabPres n =
    if s.on R.PRT_STATUS.ISOLATED p && !(s.part p).opened then SMap.get 0 s.fabPres n else SMap.get 0 s.fabOwn n

theorem BoundaryDone.trans (h : BoundaryDone p s t) (hpres : u.fabPres = t.fabPres)
    (hfield : ∀ g ∈ shownFields, u.rd g p = t.rd g p) : BoundaryDone p s u where
  count := by rw [State.rd64, hfield _ (by decide), hfield _ (by decide), ← State.rd64, h.count]
  phase := (hfield _ (by decide)).trans h.phase
  isolated := (hfield _ (by decide)).trans h.isolated
  pres n hn := by rw [hpres, h.pres n hn]

/-- A boundary of a state that is as the one before it. -/
theorem BoundaryDone.of_steady (h : Steady p s t) (hown : t.fabOwn = s.fabOwn) (h' : BoundaryDone p t u) : BoundaryDone p s u := by
  obtain ⟨hopen, _⟩ := Part.eq_of_steady h
  have hbunches : t.bunches p = s.bunches p := by
    rw [State.bunches, State.bunches, h.field _ (by decide), h.field _ (by decide)]
  obtain ⟨hcount, hphase, hisolated, hpres⟩ := h'
  refine ⟨?_, ?_, ?_, fun n hn => ?_⟩
  · rw [hcount, State.rd64, State.rd64, h.field _ (by decide), h.field _ (by decide)]
  · rw [hphase, h.field _ (by decide)]
  · rw [hisolated, hopen, h.field _ (by decide)]
  · rw [hpres n (by rwa [hbunches]), State.on, State.on, h.field _ (by decide), hopen, h.fabPres, hown]

/-- A partition between two cycles: its boundary done, and its state, PENDING and the debugger's halt as before. -/
theorem State.ended_effect (hp : p < 64) (hl : s.isLead p = false) : BoundaryDone p s (s.ended p) ∧
    ((s.ended p).part p).course = { (s.part p).course with inCycle := false, step := 0, completed := true } ∧
    (s.ended p).pstate p = s.pstate p ∧ (s.ended p).rd R.PRT_STATUS.PENDING p = s.rd R.PRT_STATUS.PENDING p ∧
    (s.ended p).rd R.DBG_STATUS.EMU 0 = s.rd R.DBG_STATUS.EMU 0 := by
  obtain ⟨hc1, hp1, hx1, hi1, hf1⟩ := State.cycleShown_effect hp hl
  have hj := State.cycleJoined_steady (p := p) (s := s.cycleShown p) p
  obtain ⟨hc3, hp3, hlo3, hhi3, hf3⟩ := State.cycleCounted_effect (p := p) (s := (s.cycleShown p).cycleJoined p)
    (s.cycleCount p)
  have ho := State.cycleOver_steady (p := p) (s := ((s.cycleShown p).cycleJoined p).cycleCounted p (s.cycleCount p)) p
    (s.cycleCount p)
  have hfield : ∀ g ∈ courseFields, R.PRT_CYCLE_LO.COUNT.apart g = true → R.PRT_CYCLE_HI.COUNT.apart g = true → ∀ d,
      (s.ended p).rd g d = (s.cycleShown p).rd g d := fun g hg hlo hhi d =>
    (ho.field g hg d).trans ((hf3 g hg hlo hhi d).trans (hj.field g hg d))
  refine ⟨⟨?_, ?_, ?_, fun n hn => ?_⟩, ?_, ?_, ?_, ?_⟩
  · have hlo := (ho.field R.PRT_CYCLE_LO.COUNT (by decide) p).trans hlo3
    have hhi := (ho.field R.PRT_CYCLE_HI.COUNT (by decide) p).trans hhi3
    show (s.ended p).rd _ p + 2 ^ 32 * (s.ended p).rd _ p = (s.cycleCount p + 1) % 2 ^ 64
    rw [State.ended, hlo, hhi]
    omega
  · exact (hfield _ (by decide) (by decide) (by decide) p).trans hx1
  · exact (hfield _ (by decide) (by decide) (by decide) p).trans hi1
  · rw [State.ended, ho.fabPres, hp3, hj.fabPres]
    exact hp1 n hn
  · rw [State.ended, ho.course, hc3, hj.course, hc1]
  · exact (hfield _ (by decide) (by decide) (by decide) p).trans (hf1 _ (by decide) (by decide) (by decide) p)
  · exact (hfield _ (by decide) (by decide) (by decide) p).trans (hf1 _ (by decide) (by decide) (by decide) p)
  · exact (hfield _ (by decide) (by decide) (by decide) 0).trans (hf1 _ (by decide) (by decide) (by decide) 0)

/-! ## A stop at the boundary (R103, R105) -/

theorem State.setState_fabPres (l v : Nat) : (s.setState l v).fabPres = s.fabPres :=
  List.foldlRecOn (motive := fun t : State => t.fabPres = s.fabPres) _ _ rfl (fun _ ht _ _ => ht)

theorem State.stopNow_frozen (h : s.pstate p = 6) (cause : Nat) : s.stopNow p cause =
    (((s.wr R.PRT_STATUS.STOP_CAUSE p cause).wr R.PRT_STATUS.STOP_REQ p 0).wr R.PRT_STATUS.PENDING p 0).modPart p
      (fun x => { x with frozenFrom := 5, single := false, brk := false, stopLanded := false, edges := 0 }) := by
  rw [State.stopNow, if_pos h]

/-- A stop gives its cause, in Stopped or for the resumption of a Frozen partition, and leaves what the boundary has done. -/
theorem State.stopNow_effect (h : s.pstate p = 4 ∨ s.pstate p = 6) (cause : Nat) :
    (s.stopNow p cause).rd R.PRT_STATUS.STOP_CAUSE p = cause % 8 ∧
    (s.pstate p = 4 → (s.stopNow p cause).pstate p = 5) ∧
    (s.pstate p = 6 → (s.stopNow p cause).pstate p = 6 ∧ ((s.stopNow p cause).part p).frozenFrom = 5) ∧
    (s.stopNow p cause).fabPres = s.fabPres ∧ ∀ g ∈ shownFields, (s.stopNow p cause).rd g p = s.rd g p := by
  have hshown : ∀ g ∈ shownFields, R.PRT_STATUS.STOP_CAUSE.apart g = true ∧ R.PRT_STATUS.STOP_REQ.apart g = true ∧
      R.PRT_STATUS.PENDING.apart g = true ∧ R.PRT_STATUS.STATE.apart g = true ∧ errorReg (g.off % 4096) = false := by decide
  rcases h with h4 | h6
  · have hne : ¬ s.pstate p = 6 := by omega
    have hstop : s.stopNow p cause = s.enterStopped p cause := by rw [State.stopNow, if_neg hne]
    have hfields : (s.enterStopped p cause).rd R.PRT_STATUS.STOP_CAUSE p = cause % 8 ∧ (s.enterStopped p cause).pstate p = 5 := by
      unfold State.enterStopped State.pstate
      constructor
      · rw [State.raise_rd _ _ _ rfl, State.modPart_rd, State.rd_wr_apart (by decide), State.rd_wr_apart (by decide),
          State.rd_wr_self]
        rfl
      · rw [State.raise_rd _ _ _ rfl, State.modPart_rd, State.rd_wr_apart (by decide), State.rd_wr_apart (by decide),
          State.rd_wr_apart (by decide)]
        exact State.setState_pstate p 5
    rw [hstop]
    refine ⟨hfields.1, fun _ => hfields.2, fun h => absurd h hne, ?_, fun g hg => ?_⟩
    · exact (State.raise_fabPres ..).trans (State.setState_fabPres p 5)
    · obtain ⟨hcause, hreq, hpend, hstate, herr⟩ := hshown g hg
      rw [State.enterStopped, State.raise_rd _ _ _ herr, State.modPart_rd, State.rd_wr_apart hpend, State.rd_wr_apart hreq,
        State.rd_wr_apart hcause, State.setState_rd_apart hstate]
  · rw [State.stopNow_frozen h6]
    refine ⟨?_, fun h => absurd h (by omega), fun _ => ⟨?_, congrArg Part.frozenFrom (State.part_modPart _ _)⟩, rfl,
      fun g hg => ?_⟩
    · rw [State.modPart_rd, State.rd_wr_apart (by decide), State.rd_wr_apart (by decide), State.rd_wr_self]
      rfl
    · refine Eq.trans ?_ h6
      rw [State.pstate, State.modPart_rd, State.rd_wr_apart (by decide), State.rd_wr_apart (by decide),
        State.rd_wr_apart (by decide)]
      rfl
    · obtain ⟨hcause, hreq, hpend, _, _⟩ := hshown g hg
      rw [State.modPart_rd, State.rd_wr_apart hpend, State.rd_wr_apart hreq, State.rd_wr_apart hcause]

/-! ## A pending release at the boundary (R87) -/

/-- A partition that waits takes the release that is pending. -/
theorem State.takePending_takes (hs : s.pstate p = 4) (hc : (s.part p).inCycle = false)
    (hp : s.on R.PRT_STATUS.PENDING p = true) (he : s.rd R.DBG_STATUS.EMU 0 = 0) (b : Inbound) :
    s.takePending p b = (s.wr R.PRT_STATUS.PENDING p 0).takeRelease p b := by
  rw [State.takePending, if_pos (by simp [State.isWaiting, hs, hc, hp, he])]

theorem State.takePending_waits (h : s.on R.PRT_STATUS.PENDING p = false ∨ s.pstate p = 6) (b : Inbound) :
    s.takePending p b = s := by
  rw [State.takePending, if_neg]
  rcases h with h | h <;> simp [State.isWaiting, h]

/-- The release that was pending begins a cycle and leaves what the boundary has done. -/
theorem State.takePending_effect (hs : s.pstate p = 4) (hc : (s.part p).inCycle = false)
    (hp : s.on R.PRT_STATUS.PENDING p = true) (he : s.rd R.DBG_STATUS.EMU 0 = 0) (b : Inbound) :
    ((s.takePending p b).part p).inCycle = true ∧ ((s.takePending p b).part p).step = 0 ∧
    (s.takePending p b).rd R.PRT_STATUS.PENDING p = 0 ∧ (s.takePending p b).fabPres = s.fabPres ∧
    ∀ g ∈ shownFields, (s.takePending p b).rd g p = s.rd g p := by
  have hshown : ∀ g ∈ shownFields, g.page = .prt ∧ errorReg (g.off % 4096) = false ∧
      R.PRT_STATUS.STATE.apart g = true ∧ R.PRT_STATUS.PENDING.apart g = true := by decide
  obtain ⟨hcourse, hpres, hrd⟩ := State.takeRelease_effect (s := s.wr R.PRT_STATUS.PENDING p 0) p b
  rw [State.takePending_takes hs hc hp he]
  refine ⟨(congrArg Part.inCycle hcourse :), (congrArg Part.step hcourse :), ?_, hpres, fun g hg => ?_⟩
  · rw [hrd _ rfl rfl, State.running_rd_apart (by decide), State.rd_wr_self]
    rfl
  · obtain ⟨hpage, herr, hstate, hpend⟩ := hshown g hg
    rw [hrd g hpage herr, State.running_rd_apart hstate, State.rd_wr_apart hpend]

/-! ## The statement -/

theorem exec_cycleBoundary (q : Fin 64) (b : Inbound) : exec (.cycleBoundary q b) s = .next (doCycleBoundary q.val b s) := rfl

theorem exec_farTransferComplete (q n : Fin 64) (status : Fin 8) (w : W128) :
    exec (.farTransferComplete q n status w) s = .next (doFarTransferComplete q.val n.val status.val w s) := rfl

/-- The partition's stall is over where nothing holds it. -/
def State.unstalled (s : State) (l : Nat) : State := if s.holders l = 0 then s.stallEnd l else s

/-- A boundary that no memory command holds back. -/
theorem doCycleBoundary_makes (hc : (s.part p).inCycle = true) (hf : s.isFollower p = false)
    (hd : s.depth p ≤ (s.part p).step) (hst : s.pstate p = 4 ∨ s.pstate p = 6) (he : s.rd R.DBG_STATUS.EMU 0 = 0)
    (hh : s.holders p &&& (causeFar ||| causeBerth) = 0) (hr : (s.part p).replay = none) (b : Inbound) :
    doCycleBoundary p b s = (s.unstalled p).makeBoundary p b := by
  have hgo : ¬((s.isFollower p || !(s.part p).inCycle || decide ((s.part p).step < s.depth p) ||
      !(s.pstate p == 4 || s.pstate p == 6)) = true) := by
    have hstep : ¬ (s.part p).step < s.depth p := by omega
    rcases hst with h | h <;> simp [hf, hc, hstep, h]
  rw [doCycleBoundary]
  dsimp only
  rw [if_neg hgo, if_neg (by simp [State.emuStopped, he]), if_neg (by simp [hh]), hr]
  rfl

theorem State.unstalled_steady (l : Nat) : Steady p s (s.unstalled l) := by
  unfold State.unstalled
  split
  · exact State.stallEnd_steady l
  · exact .refl p s

/-- The end of a stall changes neither a role, a bit a bunch has written, nor the rank of a stop. -/
theorem State.unstalled_frame (hp : p < 64) : (s.unstalled p).isLead p = s.isLead p ∧ (s.unstalled p).fabOwn = s.fabOwn ∧
    (s.unstalled p).stopRank p = s.stopRank p := by
  have hsteady : Steady p s (s.unstalled p) := State.unstalled_steady p
  have hkeeps : Keeps 144115188075856896 s (s.unstalled p) := by
    unfold State.unstalled
    split
    · exact State.stallEnd_keeps rfl (Keeps.refl _ s)
    · exact Keeps.refl _ s
  have hrole : (s.unstalled p).rd (R.RES_GROUP.ROLE p) 0 = s.rd (R.RES_GROUP.ROLE p) 0 :=
    hkeeps.same (.regs .res) rfl _ 0 rfl (bankFixed_noError (bankFixed_role hp))
  obtain ⟨_, hown, _⟩ := hkeeps.same .outbound rfl
  have hcas : (s.unstalled p).cas = s.cas := hkeeps.same .cas rfl
  have hmap : (s.unstalled p).netmap = s.netmap := hkeeps.same .netmap rfl
  have hlanded : ((s.unstalled p).part p).stopLanded = (s.part p).stopLanded := (congrArg Part.stopLanded hsteady.course :)
  have hsingle : ((s.unstalled p).part p).single = (s.part p).single := (congrArg Part.single hsteady.course :)
  have hbrk : ((s.unstalled p).part p).brk = (s.part p).brk := (congrArg Part.brk hsteady.course :)
  have hunit : (s.unstalled p).inUnit p = s.inUnit p := by
    rw [State.inUnit, State.inUnit, hsteady.field _ (by decide), hsteady.field _ (by decide), hsteady.field _ (by decide), hmap]
  refine ⟨by rw [State.isLead, State.isLead, State.role, State.role, hrole], hown, ?_⟩
  have hreq : (s.unstalled p).on R.PRT_STATUS.STOP_REQ p = s.on R.PRT_STATUS.STOP_REQ p :=
    congrArg (· == 1) (hsteady.field _ (by decide) p)
  rw [State.stopRank, State.stopRank]
  rw [hunit, hcas, hlanded, hsingle, hbrk, hreq]

theorem State.unbroken_frame : (∀ g d, (s.unbroken p).rd g d = s.rd g d) ∧
    ((s.unbroken p).part p).inCycle = (s.part p).inCycle ∧ (s.unbroken p).fabPres = s.fabPres := by
  refine ⟨fun _ _ => rfl, ?_, rfl⟩
  rw [State.unbroken, State.part_modPart]

/-- The boundary of a state as `makeBoundary` meets it. -/
theorem State.makeBoundary_effect (hp : p < 64) (hl : s.isLead p = false) (hr : (s.part p).replay = none)
    (hst : s.pstate p = 4 ∨ s.pstate p = 6) (he : s.rd R.DBG_STATUS.EMU 0 = 0) (b : Inbound) :
    BoundaryDone p s (s.makeBoundary p b) ∧
    (s.stopRank p ≠ 0 → (s.makeBoundary p b).rd R.PRT_STATUS.STOP_CAUSE p = s.stopRank p % 8 ∧
      (s.pstate p = 4 → (s.makeBoundary p b).pstate p = 5) ∧
      (s.pstate p = 6 → (s.makeBoundary p b).pstate p = 6 ∧ ((s.makeBoundary p b).part p).frozenFrom = 5)) ∧
    (s.stopRank p = 0 → (s.on R.PRT_STATUS.PENDING p = false ∨ s.pstate p = 6) →
      ((s.makeBoundary p b).part p).inCycle = false) ∧
    (s.stopRank p = 0 → s.on R.PRT_STATUS.PENDING p = true → s.pstate p = 4 →
      ((s.makeBoundary p b).part p).inCycle = true ∧ ((s.makeBoundary p b).part p).step = 0 ∧
      (s.makeBoundary p b).rd R.PRT_STATUS.PENDING p = 0) := by
  obtain ⟨hdone, hcourse, hstate, hpending, hemu⟩ := State.ended_effect (s := s) hp hl
  rw [State.makeBoundary_eq hp hl hr]
  by_cases hrank : s.stopRank p = 0
  · rw [if_neg (by simp [hrank])]
    obtain ⟨hrd, hin', hsame⟩ := State.unbroken_frame (p := p) (s := s.ended p)
    have hin : (((s.ended p).unbroken p).part p).inCycle = false := hin'.trans (congrArg Part.inCycle hcourse :)
    have hpend : ((s.ended p).unbroken p).on R.PRT_STATUS.PENDING p = s.on R.PRT_STATUS.PENDING p :=
      congrArg (· == 1) ((hrd _ p).trans hpending)
    have hstate' : ((s.ended p).unbroken p).pstate p = s.pstate p := (hrd _ p).trans hstate
    have hdone' : BoundaryDone p s ((s.ended p).unbroken p) := hdone.trans hsame fun g _ => hrd g p
    by_cases hwait : s.on R.PRT_STATUS.PENDING p = false ∨ s.pstate p = 6
    · rw [State.takePending_waits (hwait.imp hpend.trans hstate'.trans)]
      refine ⟨hdone', fun h => absurd hrank h, fun _ _ => hin, fun _ h1 h4 => ?_⟩
      rcases hwait with h | h
      · exact absurd (h1.symm.trans h) (by decide)
      · omega
    · obtain ⟨hon, hne⟩ := not_or.mp hwait
      have hon' : s.on R.PRT_STATUS.PENDING p = true := by simpa using hon
      obtain ⟨hc, hs, hp0, hpres, hshown⟩ := State.takePending_effect
        (hstate'.trans (hst.resolve_right hne)) hin (hpend.trans hon') ((hrd _ 0).trans (hemu.trans he)) b
      exact ⟨hdone'.trans hpres hshown, fun h => absurd hrank h, fun _ h => absurd h hwait, fun _ _ _ => ⟨hc, hs, hp0⟩⟩
  · rw [if_pos (by simp [hrank])]
    obtain ⟨hcause, h5, h6, hpres, hshown⟩ := State.stopNow_effect (s := s.ended p) (hst.imp hstate.trans hstate.trans)
      (s.stopRank p)
    have hidle := State.unitIdle_steady (p := p) (s := (s.ended p).stopNow p (s.stopRank p))
    have hsub : ∀ g ∈ shownFields, g ∈ courseFields := by decide
    refine ⟨(hdone.trans hpres hshown).trans hidle.fabPres fun g hg => hidle.field g (hsub g hg) p, fun _ => ⟨?_, fun h => ?_,
      fun h => ?_⟩, fun h => absurd h hrank, fun h => absurd h hrank⟩
    · exact (hidle.field _ (by decide) p).trans hcause
    · exact (hidle.field _ (by decide) p).trans (h5 (hstate.trans h))
    · obtain ⟨hs6, hf5⟩ := h6 (hstate.trans h)
      obtain ⟨_, _, hfrozen, _⟩ := Part.eq_of_steady hidle
      exact ⟨(hidle.field _ (by decide) p).trans hs6, hfrozen.trans hf5⟩

/-- Settles O12: the end of a stall leaves what a boundary depends on, the boundary's phases each change what R99 gives them, and a
stop or a pending release leaves what the boundary has done. -/
theorem cyclesEnd : Obligations.CyclesEnd := by
  unfold Obligations.CyclesEnd
  refine ⟨?boundary, ?far⟩
  case boundary =>
    intro q b s hc hf hl hd hst he hh hr
    have hsteady : Steady q.val s (s.unstalled q.val) := State.unstalled_steady q.val
    obtain ⟨hlead, hown, hrank⟩ := State.unstalled_frame (s := s) q.isLt
    obtain ⟨_, hreplay, _⟩ := Part.eq_of_steady hsteady
    have hstate : (s.unstalled q.val).pstate q.val = s.pstate q.val := hsteady.field _ (by decide) q.val
    have hpend : (s.unstalled q.val).on R.PRT_STATUS.PENDING q.val = s.on R.PRT_STATUS.PENDING q.val :=
      congrArg (· == 1) (hsteady.field _ (by decide) q.val)
    obtain ⟨hdone, hstop, hwait, htake⟩ := State.makeBoundary_effect (s := s.unstalled q.val) q.isLt (hlead.trans hl)
      (hreplay.trans hr) (by rwa [hstate]) ((hsteady.field _ (by decide) 0).trans he) b
    rw [hrank, hstate] at hstop
    rw [hrank, hpend, hstate] at hwait htake
    obtain ⟨hcount, hphase, hisolated, hpres⟩ := hdone.of_steady hsteady hown
    refine ⟨_, exec_cycleBoundary q b, ?_⟩
    rw [doCycleBoundary_makes hc hf hd hst he hh hr]
    exact ⟨hcount, hphase, hisolated, hpres, hstop, hwait, htake⟩
  case far =>
    intro q n status w c s hfind
    exact ⟨_, exec_farTransferComplete q n status w, doFarTransferComplete_effect hfind _ _⟩

end Sys2Proof.Machine

/-! Power: what a power-on reset leaves (R456, R462, R465, R470), how Standby is left for Service (R31, R457, R458), and the
lock of the core PLL (R458). -/

namespace Sys2Proof.Machine
open Sys2Proof

variable {s : State}

/-! ## Power-on reset (R456, R462, R465) -/

/-- After a power-on reset the device state and the reset's cause read what the reset gives. -/
theorem State.powerOn_status (cause rail state : Nat) :
    (s.powerOn cause rail state).rd R.PWR_STATUS.DEV_STATE 0 = state % 8 ∧
      (s.powerOn cause rail state).rd R.PWR_RESET_CAUSE.CAUSE 0 = cause % 16 ∧
      (s.powerOn cause rail state).rd R.PWR_RESET_CAUSE.RAIL 0 = rail % 16 := by
  unfold State.powerOn State.resetCause
  refine ⟨State.rd_wr_self _ _ _, ?_, ?_⟩
  · simp (disch := decide) only [State.rd_wr_apart, State.rd_wr_self]
    rfl
  · simp (disch := decide) only [State.rd_wr_apart, State.rd_wr_self]
    rfl

/-- A field of another page that a power-on reset does not keep reads its reset value. -/
theorem State.powerOn_rd {f : Fld} {ch : Nat} (hp : keyType (f.key ch) ≠ 2) (hk : keptAtPowerOn (f.key ch) = false)
    (cause rail state : Nat) : (s.powerOn cause rail state).rd f ch = f.reset := by
  have hpage : f.page.type ≠ 2 := by rwa [keyType, Fld.key_page] at hp
  have hap : ∀ g : Fld, g.page = .pwr → g.apart f = true := fun g hg => Fld.apart_of_page (fun e =>
    hpage ((congrArg Page.type (hg.symm.trans e)).symm))
  unfold State.powerOn State.resetCause
  rw [State.rd_wr_apart (hap _ rfl), State.rd_wr_apart (hap _ rfl), State.rd_wr_apart (hap _ rfl)]
  exact SMap.get_keep_out hk _

/-! ## The commands -/

theorem exec_powerOnReset (rail : Option (Fin 5)) : exec (.powerOnReset rail) s = .next (doPowerOnReset rail s) := rfl

/-- Outside Off the reset's cause is PORST_N, or the rail that fell. -/
theorem doPowerOnReset_on (h : s.rd R.PWR_STATUS.DEV_STATE 0 ≠ 0) (rail : Option (Fin 5)) :
    doPowerOnReset rail s = ({ s with porst := false } : State).powerOn (if rail.isSome then 3 else 1)
      (match rail with | none => 0 | some r => r.val) 1 := by
  have hon : ¬ ({ s with porst := false } : State).rd R.PWR_STATUS.DEV_STATE 0 = 0 := h
  cases rail with
  | none => simp only [doPowerOnReset, if_neg hon, Option.isSome_none, Bool.false_eq_true, if_false]
  | some r => simp only [doPowerOnReset, if_neg hon, Option.isSome_some, if_true]

theorem exec_vddAonLoss : exec .vddAonLoss s = .next (({ s with porst := false } : State).powerOn 2 0 0) := rfl

theorem exec_vddAonRise : exec .vddAonRise s = .next (doVddAonRise s) := rfl

theorem exec_porstNRise (straps : BitVec 8) : exec (.porstNRise straps) s = .next (doPorstNRise straps s) := rfl

theorem exec_corePllLock : exec .corePllLock s = .next (doCorePllLock s) := rfl

theorem exec_thermalTrip : exec .thermalTrip s = .next (doThermalTrip s) := rfl

theorem exec_thermalTripClear : exec .thermalTripClear s = .next (doThermalTripClear s) := rfl

/-! ## Leaving Standby (R31, R457, R458) -/

/-- Service is entered with one boot more (R465). -/
theorem State.enterService_rd : s.enterService.rd R.PWR_STATUS.DEV_STATE 0 = 2 ∧
    s.enterService.rd R.LOG_BOOT.COUNT 0 = (s.rd R.LOG_BOOT.COUNT 0 + 1) % 65536 := by
  refine ⟨?_, State.rd_wr_self R.LOG_BOOT.COUNT 0 _⟩
  show ((s.wr R.PWR_STATUS.DEV_STATE 0 2).wr R.LOG_BOOT.COUNT 0 (s.rd R.LOG_BOOT.COUNT 0 + 1)).rd _ 0 = 2
  rw [State.rd_wr_apart (by decide), State.rd_wr_self]
  rfl

/-- Entering Service changes no field apart from the device state and the boot count. -/
theorem State.enterService_rd_apart {g : Fld} (h1 : R.PWR_STATUS.DEV_STATE.apart g = true)
    (h2 : R.LOG_BOOT.COUNT.apart g = true) (ch : Nat) : s.enterService.rd g ch = s.rd g ch :=
  (State.rd_wr_apart h2 0 ch _).trans (State.rd_wr_apart h1 0 ch _)

/-- PORST_N has risen: the straps are latched, and the cascade's ID and role follow them (R191, R457). -/
def State.latchStraps (s : State) (v : Nat) : State :=
  let s1 := (({ s with porst := true }.wr R.DEV_STRAPS.CAS_ID 0 (bitsOf v 0 6)).wr R.DEV_STRAPS.MASTER_SEL 0
    (bitOf v 6)).wr R.DEV_STRAPS.IO_PARK 0 (bitOf v 7)
  (s1.wr R.CAS_STATUS.ID 0 (bitsOf v 0 6)).wr R.CAS_STATUS.MASTER 0 (bitOf v 6)

theorem doPorstNRise_standby (hd : s.rd R.PWR_STATUS.DEV_STATE 0 = 1) (hp : s.porst = false) (straps : BitVec 8) :
    doPorstNRise straps s = if s.tripped then s.latchStraps straps.toNat
      else (s.latchStraps straps.toNat).enterService := by
  have hgo : ¬(s.rd R.PWR_STATUS.DEV_STATE 0 ≠ 1 ∨ s.porst = true) := by simp [hd, hp]
  rw [doPorstNRise, if_neg hgo]
  rfl

theorem State.latchStraps_rd (v : Nat) : (s.latchStraps v).rd R.DEV_STRAPS.CAS_ID 0 = v % 64 ∧
    (s.latchStraps v).rd R.DEV_STRAPS.MASTER_SEL 0 = bitOf v 6 ∧
    (s.latchStraps v).rd R.DEV_STRAPS.IO_PARK 0 = bitOf v 7 ∧ (s.latchStraps v).rd R.CAS_STATUS.ID 0 = v % 64 ∧
    (s.latchStraps v).rd R.PWR_STATUS.DEV_STATE 0 = s.rd R.PWR_STATUS.DEV_STATE 0 ∧
    (s.latchStraps v).rd R.LOG_BOOT.COUNT 0 = s.rd R.LOG_BOOT.COUNT 0 := by
  unfold State.latchStraps
  simp (disch := decide) only [State.rd_wr_apart, State.rd_wr_self, R.DEV_STRAPS.CAS_ID, R.DEV_STRAPS.MASTER_SEL,
    R.DEV_STRAPS.IO_PARK, R.CAS_STATUS.ID, bitsOf, bitOf]
  refine ⟨by omega, by omega, by omega, by omega, rfl, rfl⟩

/-! ## The core PLL (R458) -/

/-- A route that is valid stays valid when another is set. -/
theorem State.setRoute_valid_mono {d x : Nat} (h : s.on (R.NOC_ROUTE.VALID d) x = true) (src dst : Nat) :
    (s.setRoute src dst).on (R.NOC_ROUTE.VALID d) x = true := by
  unfold State.setRoute
  split
  · exact h
  · have hroute : (R.NOC_ROUTE.ROUTE dst).apart (R.NOC_ROUTE.VALID d) = true :=
      Fld.apart_of (.inr (show 0 % 32 ≠ 31 % 32 by decide))
    simp only [State.on, beq_iff_eq] at h ⊢
    by_cases e : (R.NOC_ROUTE.VALID d).key x = (R.NOC_ROUTE.VALID dst).key src
    · rw [State.rd_of_key e rfl, State.rd_wr_self]
      rfl
    · rw [State.rd_wr_key e, State.rd_wr_apart hroute]
      exact h

theorem State.setRoute_valid (src d : Nat) : (s.setRoute src d).on (R.NOC_ROUTE.VALID d) src = true := by
  unfold State.setRoute
  split
  · assumption
  · simp only [State.on, State.rd_wr_self]
    rfl

/-- Setting the routes of a node to a list of nodes makes each of them valid. -/
theorem State.setRoutesOf_valid {src d : Nat} {l : List Nat} (hd : d ∈ l) :
    (l.foldl (fun s d => s.setRoute src d) s).on (R.NOC_ROUTE.VALID d) src = true := by
  induction l generalizing s with
  | nil => exact absurd hd List.not_mem_nil
  | cons y r ih =>
    rw [List.foldl_cons]
    rcases List.mem_cons.mp hd with rfl | hr
    · exact List.foldlRecOn (motive := fun t : State => t.on (R.NOC_ROUTE.VALID d) src = true) _ _ (State.setRoute_valid src d)
        (fun _ ht e _ => State.setRoute_valid_mono ht src e)
    · exact ih hr

/-- Every route among the nodes of a list is valid once they are set. -/
theorem State.setRoutes_valid {x d : Nat} {l : List Nat} (hx : x ∈ l) (hd : d ∈ l) :
    (s.setRoutes l).on (R.NOC_ROUTE.VALID d) x = true := by
  have keep : ∀ (m : List Nat) (t : State), t.on (R.NOC_ROUTE.VALID d) x = true →
      (m.foldl (fun s a => l.foldl (fun s d => s.setRoute a d) s) t).on (R.NOC_ROUTE.VALID d) x = true := fun m t ht =>
    List.foldlRecOn (motive := fun t : State => t.on (R.NOC_ROUTE.VALID d) x = true) _ _ ht (fun u hu a _ =>
      List.foldlRecOn (motive := fun t : State => t.on (R.NOC_ROUTE.VALID d) x = true) _ _ hu
        (fun _ hw e _ => State.setRoute_valid_mono hw a e))
  have reach : ∀ (m : List Nat) (t : State), x ∈ m →
      (m.foldl (fun s a => l.foldl (fun s d => s.setRoute a d) s) t).on (R.NOC_ROUTE.VALID d) x = true := by
    intro m
    induction m with
    | nil => intro _ hm; exact absurd hm List.not_mem_nil
    | cons y r ih =>
      intro t hm
      rw [List.foldl_cons]
      rcases List.mem_cons.mp hm with rfl | hr
      · exact keep r _ (State.setRoutesOf_valid hd)
      · exact ih _ hr
  exact reach l s hx

/-- The boot ROM targets sources 180, 185 and 187 at MSI-X vector 0 (R385, R458). -/
def State.bootTargets (s : State) : State :=
  [180, 185, 187].foldl (fun (s : State) n => (s.wr (R.IRQ_TARGET.KIND n) 0 3).wr (R.IRQ_TARGET.INDEX n) 0 0) s

theorem State.bootTargets_timeRuns : s.bootTargets.timeRuns = s.timeRuns := rfl

theorem State.bootTargets_rd : ∀ n ∈ [180, 185, 187],
    s.bootTargets.rd (R.IRQ_TARGET.KIND n) 0 = 3 ∧ s.bootTargets.rd (R.IRQ_TARGET.INDEX n) 0 = 0 := by
  intro n hn
  simp only [List.mem_cons, List.not_mem_nil, or_false] at hn
  simp only [State.bootTargets, List.foldl]
  rcases hn with rfl | rfl | rfl <;> simp (disch := decide) only [State.rd_wr_apart, State.rd_wr_self] <;> exact ⟨rfl, rfl⟩

theorem State.bootTargets_rd_other {g : Fld} (h : g.page ≠ .irq) (ch : Nat) : s.bootTargets.rd g ch = s.rd g ch := by
  have hapart : ∀ f : Fld, f.page = .irq → f.apart g = true := fun f hf =>
    Fld.apart_of_page (fun e => h (e.symm.trans hf))
  simp only [State.bootTargets, List.foldl, State.rd_wr_apart (hapart (R.IRQ_TARGET.KIND _) rfl),
    State.rd_wr_apart (hapart (R.IRQ_TARGET.INDEX _) rfl)]

/-- The first lock of the core PLL: the time base runs, and the boot ROM sets its routes and targets. -/
theorem doCorePllLock_first (hd : 2 ≤ s.rd R.PWR_STATUS.DEV_STATE 0) (hl : s.rd R.PWR_CLOCKS.CORE_PLL 0 = 0)
    (ht : s.timeRuns = false) : doCorePllLock s =
      (({ s.wr R.PWR_CLOCKS.CORE_PLL 0 1 with timeRuns := true } : State).setRoutes [8, 34, 36, 37, 41, 43]).bootTargets := by
  have hgo : ¬(s.rd R.PWR_STATUS.DEV_STATE 0 < 2 ∨ s.on R.PWR_CLOCKS.CORE_PLL 0 = true) := by
    simp [State.on, hl]
    exact hd
  rw [doCorePllLock, if_neg hgo, if_neg (by simp [ht])]
  rfl

/-- A lock that comes back only shows in `PWR_CLOCKS` (R474). -/
theorem doCorePllLock_again (hd : 2 ≤ s.rd R.PWR_STATUS.DEV_STATE 0) (hl : s.rd R.PWR_CLOCKS.CORE_PLL 0 = 0)
    (ht : s.timeRuns = true) : doCorePllLock s = s.wr R.PWR_CLOCKS.CORE_PLL 0 1 := by
  have hgo : ¬(s.rd R.PWR_STATUS.DEV_STATE 0 < 2 ∨ s.on R.PWR_CLOCKS.CORE_PLL 0 = true) := by
    simp [State.on, hl]
    exact hd
  rw [doCorePllLock, if_neg hgo, if_pos ht]

/-! ## The statement -/

/-- Settles O48: each reset by power is `powerOn` with its cause, Standby is left through `enterService`, and the first lock
of the core PLL sets the boot ROM's routes and targets. -/
theorem powerBringsUpTheDevice : Obligations.PowerBringsUpTheDevice := by
  unfold Obligations.PowerBringsUpTheDevice
  refine ⟨?reset, ?loss, ?rise, ?porst, ?lock, ?trip, ?clear⟩
  case reset =>
    intro rail s h
    refine ⟨_, exec_powerOnReset rail, ?_⟩
    rw [doPowerOnReset_on h]
    obtain ⟨hd, hc, hr⟩ := State.powerOn_status (s := { s with porst := false }) (if rail.isSome then 3 else 1)
      (match rail with | none => 0 | some r => r.val) 1
    refine ⟨hd, ?_, ?_, fun f ch hp hk => State.powerOn_rd hp hk _ _ _, rfl, rfl, rfl, rfl, rfl, rfl, rfl, rfl, rfl, rfl, rfl⟩
    · rw [hc]
      split <;> rfl
    · rw [hr]
      cases rail with
      | none => rfl
      | some r => exact Nat.mod_eq_of_lt (lt_trans r.isLt (by decide))
  case loss =>
    intro s
    obtain ⟨hd, hc, _⟩ := State.powerOn_status (s := { s with porst := false }) 2 0 0
    exact ⟨_, exec_vddAonLoss, hd, hc, rfl, rfl, rfl, rfl⟩
  case rise =>
    intro s h
    refine ⟨_, exec_vddAonRise, ?_⟩
    rw [doVddAonRise, if_pos h]
    exact ⟨State.rd_wr_self R.PWR_STATUS.DEV_STATE 0 1, rfl, rfl⟩
  case porst =>
    intro straps s hd hp
    refine ⟨_, exec_porstNRise straps, ?_⟩
    rw [doPorstNRise_standby hd hp]
    obtain ⟨hid, hms, hpark, hcas, hstate, hboot⟩ := State.latchStraps_rd (s := s) straps.toNat
    cases ht : s.tripped with
    | true => exact ⟨rfl, hid, hms, hpark, hcas, fun _ => hstate.trans hd, fun e => absurd e (by decide)⟩
    | false =>
      simp only [Bool.false_eq_true, if_false]
      have apart := fun {g : Fld} h1 h2 =>
        State.enterService_rd_apart (s := s.latchStraps straps.toNat) (g := g) h1 h2 0
      obtain ⟨hs, hc⟩ := State.enterService_rd (s := s.latchStraps straps.toNat)
      exact ⟨rfl, (apart (by decide) (by decide)).trans hid, (apart (by decide) (by decide)).trans hms,
        (apart (by decide) (by decide)).trans hpark, (apart (by decide) (by decide)).trans hcas, fun e => absurd e (by decide),
        fun _ => ⟨hs, hc.trans (by rw [hboot])⟩⟩
  case lock =>
    intro s hd hl
    refine ⟨_, exec_corePllLock, ?_⟩
    cases ht : s.timeRuns with
    | true =>
      rw [doCorePllLock_again hd hl ht]
      exact ⟨State.rd_wr_self R.PWR_CLOCKS.CORE_PLL 0 1, ht, fun _ => rfl, fun e => absurd e (by decide)⟩
    | false =>
      rw [doCorePllLock_first hd hl ht]
      generalize hs1 : ({ s.wr R.PWR_CLOCKS.CORE_PLL 0 1 with timeRuns := true } : State) = s1
      have hk := State.setRoutes_keeps (M := 2305844108725321728) (a1 := [8, 34, 36, 37, 41, 43]) rfl (Keeps.refl _ s1)
      have hpll : s1.rd R.PWR_CLOCKS.CORE_PLL 0 = 1 := hs1 ▸ State.rd_wr_self R.PWR_CLOCKS.CORE_PLL 0 1
      obtain ⟨_, hruns, _⟩ := hk.same .time rfl
      refine ⟨?_, ?_, fun e => absurd e (by decide), fun _ => ⟨State.bootTargets_rd, fun x hx d hd => ?_⟩⟩
      · rw [State.bootTargets_rd_other (by decide)]
        exact (hk.same (.regs .pwr) rfl _ 0 rfl rfl).trans hpll
      · rw [State.bootTargets_timeRuns, hruns, ← hs1]
      · rw [State.on, State.bootTargets_rd_other (show Page.noc ≠ .irq by decide)]
        exact State.setRoutes_valid hx hd
  case trip =>
    intro s h
    refine ⟨_, exec_thermalTrip, ?_⟩
    rw [doThermalTrip, if_neg (by omega), if_neg (by omega)]
    obtain ⟨hd, hc, _⟩ := State.powerOn_status (s := { s with tripped := true }) 4 0 1
    exact ⟨hd, hc, rfl, rfl, rfl, rfl⟩
  case clear =>
    intro s h
    refine ⟨_, exec_thermalTripClear, ?_⟩
    rw [doThermalTripClear, if_neg (by simp [h])]
    by_cases hgo : s.porst = true ∧ s.rd R.PWR_STATUS.DEV_STATE 0 = 1
    · obtain ⟨hp, hd⟩ := hgo
      have hgo : ({ s with tripped := false } : State).porst &&
          ({ s with tripped := false } : State).rd R.PWR_STATUS.DEV_STATE 0 == 1 := by
        show (s.porst && s.rd R.PWR_STATUS.DEV_STATE 0 == 1) = true
        simp [hp, hd]
      dsimp only
      rw [if_pos hgo]
      exact ⟨rfl, fun _ _ => State.enterService_rd (s := { s with tripped := false }),
        fun e => absurd (hp.symm.trans e) (by decide)⟩
    · have hstay : ¬ (({ s with tripped := false } : State).porst &&
          ({ s with tripped := false } : State).rd R.PWR_STATUS.DEV_STATE 0 == 1) = true := by
        show ¬ (s.porst && s.rd R.PWR_STATUS.DEV_STATE 0 == 1) = true
        simpa using hgo
      dsimp only
      rw [if_neg hstay]
      exact ⟨rfl, fun hp hd => absurd ⟨hp, hd⟩ hgo, fun _ => rfl⟩

end Sys2Proof.Machine

/-! A step of a partition (R54, R58, R110, R111): the tick it falls on, the stall of a partition that something holds, the rows
and lanes that a step writes, what the step does after them, and the statement. -/

namespace Sys2Proof.Machine
open Sys2Proof

variable {s t u : State} {p : Nat}

/-! ## The tick -/

/-- Upsets do not depend on the running step tick and leave it as it was. -/
theorem State.upset_onStep (us : List Upset) (o : StepTick) :
    ({ s with onStep := o } : State).upset us = { s.upset us with onStep := o } := by
  have hcanary : ∀ (t : State) (i : Nat), ({ t with onStep := o } : State).upsetCanary i =
      { t.upsetCanary i with onStep := o } := by
    intro t i
    unfold State.upsetCanary
    split <;> rfl
  unfold State.upset
  induction us generalizing s with
  | nil => rfl
  | cons x us ih =>
    rw [List.foldl_cons, List.foldl_cons]
    split
    · rw [hcanary]
      exact ih
    · exact ih (s := s.setEcc x.cls x.idx x.kind.val)

/-- Upsets touch nothing but the check state of stored words and the canaries. -/
theorem State.upset_eq (us : List Upset) : ∃ h c, s.upset us = { s with health := h, canary := c } := by
  have hcanary : ∀ (t : State) (i : Nat), ∃ c, t.upsetCanary i = { t with canary := c } := by
    intro t i
    unfold State.upsetCanary
    split
    · exact ⟨_, rfl⟩
    · exact ⟨t.canary, rfl⟩
  unfold State.upset
  refine List.foldlRecOn (motive := fun t : State => ∃ h c, t = { s with health := h, canary := c }) _ _
    ⟨s.health, s.canary, rfl⟩ ?_
  rintro t ⟨h, c, rfl⟩ x _
  split
  · obtain ⟨c', hc'⟩ := hcanary { s with health := h, canary := c } x.idx
    exact ⟨h, c', hc'⟩
  · exact ⟨_, c, rfl⟩

/-- A step's tick with its upsets. -/
def State.ticked (s : State) (p : Nat) (us : List Upset) : State := (s.onTick p).upset us

theorem State.onTick_eq (p : Nat) : ∃ o, s.onTick p = { s with onStep := o } := by
  unfold State.onTick
  split <;> exact ⟨_, rfl⟩

/-- The tick of a step is known to the stores' checks as its upsets alone. -/
theorem State.ticked_upset (p : Nat) (us : List Upset) : ∃ o, s.ticked p us = { s.upset us with onStep := o } := by
  obtain ⟨o, ho⟩ := State.onTick_eq (s := s) p
  exact ⟨o, by rw [State.ticked, ho, State.upset_onStep]⟩

theorem State.ticked_eq (p : Nat) (us : List Upset) :
    ∃ o h c, s.ticked p us = { s with onStep := o, health := h, canary := c } := by
  obtain ⟨o, ho⟩ := State.ticked_upset (s := s) p us
  obtain ⟨h, c, hu⟩ := State.upset_eq (s := s) us
  exact ⟨o, h, c, by rw [ho, hu]⟩

theorem State.takePending_inCycle (h : (s.part p).inCycle = true) (b : Inbound) : s.takePending p b = s := by
  rw [State.takePending, if_neg (by simp [State.isWaiting, h])]

theorem exec_step (q : Fin 64) (us : List Upset) : exec (.step q us) s = .next (doStep q.val us s) := rfl

/-- A STEP inside a cycle takes no release: what it does is its step and the unit's tick. -/
theorem doStep_inCycle (h : (s.part p).inCycle = true) (us : List Upset) :
    doStep p us s = ((s.ticked p us).stepTick p).unitTick p := by
  have htick : ((s.ticked p us).part p).inCycle = true := by
    obtain ⟨o, h', c, e⟩ := State.ticked_eq (s := s) p us
    rw [e]
    exact h
  have htake : (if (s.ticked p us).isFollower p then s.ticked p us else (s.ticked p us).takePending p []) = s.ticked p us := by
    rw [State.takePending_inCycle htick, ite_self]
  exact congrArg (fun t : State => (t.stepTick p).unitTick p) htake

/-! ## Which way a step goes (R54, R111) -/

/-- A partition has a step of its cycle to execute: it is no follower, it is Running or Frozen, no debugger halts it, and it
replays nothing. -/
structure AtStep (p : Nat) (s : State) : Prop where
  inCycle : (s.part p).inCycle = true
  alone : s.isFollower p = false
  below : (s.part p).step < s.depth p
  active : s.pstate p = 4 ∨ s.pstate p = 6
  running : s.rd R.DBG_STATUS.EMU 0 = 0
  noReplay : (s.part p).replay = none

theorem AtStep.ticked (h : AtStep p s) (us : List Upset) : AtStep p (s.ticked p us) := by
  obtain ⟨o, h', c, e⟩ := State.ticked_eq (s := s) p us
  obtain ⟨h1, h2, h3, h4, h5, h6⟩ := h
  rw [e]
  exact ⟨h1, h2, h3, h4, h5, h6⟩

/-- Of a partition that has a step to execute the tick asks only what holds it and what its unit delivers. -/
theorem AtStep.stepTick_eq (h : AtStep p s) : s.stepTick p =
    if s.holders p != 0 then s.stallBegin p (s.holders p)
    else if s.inUnit p && (s.part p).started && s.stepLive p &&
        !(s.deliveries (s.part p).step).all (fun d => s.present (s.part p).executed d) then s.stallBegin p causeCascade
    else (if s.inUnit p && (s.part p).started then s.receive p (s.part p).step else s).runStep p (s.part p).step := by
  obtain ⟨hin, halone, hbelow, hactive, hrun, hreplay⟩ := h
  have hgo : ¬ ((s.isFollower p || decide (s.depth p ≤ (s.part p).step) || !(s.pstate p == 4 || s.pstate p == 6)) = true) := by
    rcases hactive with e | e <;> simp [halone, hbelow, e]
  rw [State.stepTick, if_neg (by simp [hin]), if_neg hgo, if_neg (by simp [hrun, hreplay])]

theorem AtStep.stalls (h : AtStep p s) (hh : s.holders p ≠ 0) : s.stepTick p = s.stallBegin p (s.holders p) := by
  rw [h.stepTick_eq, if_pos (by simp [hh])]

theorem AtStep.runs (h : AtStep p s) (hh : s.holders p = 0) (hu : s.inUnit p = false) :
    s.stepTick p = s.runStep p (s.part p).step := by
  rw [h.stepTick_eq, if_neg (by simp [hh]), if_neg (by simp [hu]), if_neg (by simp [hu])]

/-! ## A stall begins (R111) -/

theorem ledgerBegin_realFrom (g : Ledger) (mask time : Nat) : (ledgerBegin g mask time).realFrom ≠ none := by
  unfold ledgerBegin
  split
  next h => simp [h]
  next => split <;> simp

/-- A partition that stalls shows it, and its ledger holds the time from which. -/
theorem State.stallBegin_effect (h : (s.part p).replay = none) (mask : Nat) :
    (s.stallBegin p mask).rd R.PRT_STATUS.STALLED p = 1 ∧ ((s.stallBegin p mask).part p).ledger.realFrom ≠ none := by
  unfold State.stallBegin
  rw [if_neg (by simp [h])]
  extract_lets g s1 s2
  have h1 : s1.rd R.PRT_STATUS.STALLED p = 1 ∧ (s1.part p).ledger.realFrom ≠ none := by
    refine ⟨State.rd_wr_self _ _ _, ?_⟩
    have hpart := State.part_modPart (s := s) p (fun x => { x with ledger := ledgerBegin x.ledger mask s.now })
    change ((s.modPart p (fun x => { x with ledger := ledgerBegin x.ledger mask s.now })).part p).ledger.realFrom ≠ none
    rw [hpart]
    exact ledgerBegin_realFrom _ _ _
  have h2 : s2.rd R.PRT_STATUS.STALLED p = 1 ∧ (s2.part p).ledger.realFrom ≠ none := by
    obtain ⟨hr, hl⟩ := h1
    unfold s2
    split
    · refine ⟨?_, by rwa [State.part, State.freeRunBreak_parts]⟩
      unfold State.freeRunBreak
      split
      · exact (State.timeBreak_rd_apart (by decide) (by decide) (by decide) _ _).trans hr
      · exact hr
    · exact ⟨hr, hl⟩
  split
  · exact h2
  · obtain ⟨hr, hl⟩ := h2
    exact ⟨(State.raise_rd _ _ _ rfl _).trans hr, by rwa [State.part, State.raise_parts]⟩

/-- A stall that begins leaves the step stores and the lanes as they were. -/
theorem State.stallBegin_stores (mask : Nat) : (s.stallBegin p mask).rows = s.rows ∧ (s.stallBegin p mask).lanes = s.lanes := by
  have h := State.stallBegin_keeps (M := 144116287923028993) (a1 := p) (a2 := mask) rfl (Keeps.refl _ s)
  exact ⟨h.same .rows rfl, (h.same .orchard rfl).1⟩

/-- The unit's tick changes the cascade's count and orders alone. -/
theorem State.unitTick_frame (l : Nat) : (s.unitTick l).parts = s.parts ∧ (s.unitTick l).rows = s.rows ∧
    (s.unitTick l).lanes = s.lanes ∧ (s.unitTick l).rd R.PRT_STATUS.STALLED p = s.rd R.PRT_STATUS.STALLED p := by
  have h := State.unitTick_keeps (M := 2251799814733824) (a1 := l) rfl (Keeps.refl _ s)
  exact ⟨h.same .parts rfl, h.same .rows rfl, (h.same .orchard rfl).1, h.same (.regs .prt) rfl _ p rfl rfl⟩

/-! ## Where the rows of a step stand (R38, R72 to R75) -/

theorem State.mem_bunches_lt {n : Nat} (h : n ∈ s.bunches p) : n < 64 :=
  List.mem_range.mp (List.mem_filter.mp h).1

theorem State.bunches_nodup : (s.bunches p).Nodup := List.nodup_range.filter _

/-- Bunches that are served by one physical bunch are one bunch. -/
theorem State.physBunch_inj {n m : Nat} (hn : n < 64) (hm : m < 64) (h : s.physBunch n = s.physBunch m) : n = m := by
  simp only [State.physBunch, Bool.and_eq_true, beq_iff_eq] at h
  split at h <;> split at h <;> omega

/-- Berries of a bunch that are served by one physical berry are one berry. -/
theorem State.physBerry_inj {n b c : Nat} (hb : b < 16) (hc : c < 16) (h : s.physBerry n b = s.physBerry n c) : b = c := by
  simp only [State.physBerry, Bool.and_eq_true, beq_iff_eq] at h
  split at h <;> split at h <;> omega

theorem State.physBerry_lt {b : Nat} (hb : b < 16) (n : Nat) : s.physBerry n b < 17 := by
  unfold State.physBerry
  dsimp only
  split <;> omega

/-- The rows of one number of two berries stand at one place only where the berries are the same. -/
theorem State.rowAt_inj {n b m c r : Nat} (hn : n < 64) (hb : b < 16) (hm : m < 64) (hc : c < 16)
    (h : s.rowAt n b r = s.rowAt m c r) : n = m ∧ b = c := by
  have h1 := State.physBerry_lt (s := s) hb n
  have h2 := State.physBerry_lt (s := s) hc m
  unfold State.rowAt rowKey at h
  have hnm : n = m := State.physBunch_inj (s := s) hn hm (by omega)
  subst hnm
  exact ⟨rfl, State.physBerry_inj (s := s) (n := n) hb hc (by omega)⟩

/-- Where a row stands depends on the registers alone. -/
theorem State.rowAt_of_regs (h : t.regs = s.regs) (n b r : Nat) : t.rowAt n b r = s.rowAt n b r := by
  have hrd : ∀ g d, t.rd g d = s.rd g d := fun g d => by rw [State.rd, State.rd, h]
  have hbunch : t.physBunch n = s.physBunch n := by
    rw [State.physBunch, State.on, hrd, hrd]
    rfl
  have hberry : t.physBerry n b = s.physBerry n b := by
    unfold State.physBerry State.on
    rw [hbunch]
    dsimp only
    rw [hrd, hrd]
  rw [State.rowAt, State.rowAt, hbunch, hberry]

theorem State.bunches_of_regs (h : t.regs = s.regs) (q : Nat) : t.bunches q = s.bunches q := by
  simp only [State.bunches, State.rd, h]

/-! ## The rows that a step writes (R54) -/

/-- A berry's row of a step takes what its pips write, with a good check. -/
def State.mergeBerry (st : Nat) (rs : List PipResult) (s : State) (e : Nat × Nat) : State :=
  let k := s.rowAt e.1 e.2 st
  { s with rows := SMap.set 0 s.rows k (mergeRow (SMap.get 0 s.rows k) rs e.1 e.2) }.setEcc clsRow k 0

/-- The berries of a member: each of its bunches has sixteen. -/
def State.berries (s : State) (m : Nat) : List (Nat × Nat) := s.bunches m ×ˢ List.range 16

theorem State.mem_berries {m n b : Nat} : (n, b) ∈ s.berries m ↔ n ∈ s.bunches m ∧ b < 16 :=
  List.pair_mem_product.trans (by rw [List.mem_range])

theorem State.berries_nodup (m : Nat) : (s.berries m).Nodup := State.bunches_nodup.product List.nodup_range

theorem State.berries_lt {m : Nat} (e : Nat × Nat) (he : e ∈ s.berries m) : e.1 < 64 ∧ e.2 < 16 := by
  obtain ⟨hn, hb⟩ := State.mem_berries.mp he
  exact ⟨State.mem_bunches_lt hn, hb⟩

theorem State.writeRows_eq (m st : Nat) (rs : List PipResult) :
    s.writeRows m st rs = (s.berries m).foldl (State.mergeBerry st rs) s := by
  simp only [State.berries, SProd.sprod, List.product, List.foldl_flatMap, List.foldl_map]
  rfl

/-- Each berry of a list has its row written once, and every other row stays. -/
theorem State.mergeBerries_row {st : Nat} {rs : List PipResult} {l : List (Nat × Nat)} (hd : l.Nodup)
    (hl : ∀ e ∈ l, e.1 < 64 ∧ e.2 < 16) {n b : Nat} (hn : n < 64) (hb : b < 16) :
    SMap.get 0 (l.foldl (State.mergeBerry st rs) s).rows (s.rowAt n b st) =
      if (n, b) ∈ l then mergeRow (SMap.get 0 s.rows (s.rowAt n b st)) rs n b
      else SMap.get 0 s.rows (s.rowAt n b st) := by
  induction l generalizing s with
  | nil => rfl
  | cons e l ih =>
    obtain ⟨he, hd⟩ := List.nodup_cons.mp hd
    obtain ⟨hn', hb'⟩ := hl e List.mem_cons_self
    have hat : (State.mergeBerry st rs s e).rowAt n b st = s.rowAt n b st := rfl
    have hrest := ih (s := State.mergeBerry st rs s e) hd (fun x hx => hl x (List.mem_cons_of_mem _ hx))
    rw [hat] at hrest
    rw [List.foldl_cons, hrest]
    by_cases heq : (n, b) = e
    · subst heq
      rw [if_neg he, if_pos List.mem_cons_self]
      exact SMap.get_set_self 0 s.rows _ _
    · have hother : SMap.get 0 (State.mergeBerry st rs s e).rows (s.rowAt n b st) = SMap.get 0 s.rows (s.rowAt n b st) := by
        refine SMap.get_set_other fun hk => heq ?_
        obtain ⟨h1, h2⟩ := State.rowAt_inj hn hb hn' hb' hk
        exact Prod.ext h1 h2
      simp only [hother, List.mem_cons, heq, false_or]

theorem State.mergeBerries_frame (st : Nat) (rs : List PipResult) (l : List (Nat × Nat)) :
    (l.foldl (State.mergeBerry st rs) s).regs = s.regs ∧ (l.foldl (State.mergeBerry st rs) s).parts = s.parts :=
  List.foldlRecOn (motive := fun t : State => t.regs = s.regs ∧ t.parts = s.parts) _ _ ⟨rfl, rfl⟩ fun _ ht _ _ => ht

/-- A member's rows after its step, where nothing else of its registers or of its partition has changed. -/
theorem State.writeRows_effect (m st : Nat) (rs : List PipResult) :
    (∀ n ∈ s.bunches m, ∀ b, b < 16 → SMap.get 0 (s.writeRows m st rs).rows (s.rowAt n b st) =
      mergeRow (SMap.get 0 s.rows (s.rowAt n b st)) rs n b) ∧
    (s.writeRows m st rs).regs = s.regs ∧ (s.writeRows m st rs).parts = s.parts := by
  rw [State.writeRows_eq]
  refine ⟨fun n hn b hb => ?_, State.mergeBerries_frame st rs _⟩
  rw [State.mergeBerries_row (State.berries_nodup m) State.berries_lt (State.mem_bunches_lt hn) hb,
    if_pos (State.mem_berries.mpr ⟨hn, hb⟩)]

/-! ## The lanes that a step writes (R58) -/

/-- A bunch's lane register takes the results of its pips. -/
def State.setLane (rs : List PipResult) (s : State) (n : Nat) : State :=
  { s with lanes := SMap.set 0 s.lanes n (laneBits rs n) }

theorem State.setLanes_lane (rs : List PipResult) (l : List Nat) (n : Nat) :
    SMap.get 0 (l.foldl (State.setLane rs) s).lanes n = if n ∈ l then laneBits rs n else SMap.get 0 s.lanes n := by
  induction l generalizing s with
  | nil => rfl
  | cons m l ih =>
    rw [List.foldl_cons, ih]
    by_cases h : n = m
    · subst h
      rw [if_pos List.mem_cons_self]
      split
      · rfl
      · exact SMap.get_set_self _ _ _ _
    · have hother : SMap.get 0 (State.setLane rs s m).lanes n = SMap.get 0 s.lanes n := SMap.get_set_other h
      simp only [hother, List.mem_cons, h, false_or]

theorem State.setLanes_regs (rs : List PipResult) (l : List Nat) : (l.foldl (State.setLane rs) s).regs = s.regs :=
  List.foldlRecOn (motive := fun t : State => t.regs = s.regs) _ _ rfl fun _ ht _ _ => ht

/-- The channels that a bunch captures are no lane (R59). -/
theorem State.writeLanes_frame (m : Nat) (rs : List PipResult) :
    (s.writeLanes m rs).lanes = ((s.bunches m).foldl (State.setLane rs) s).lanes ∧ (s.writeLanes m rs).regs = s.regs := by
  unfold State.writeLanes
  refine List.foldlRecOn (motive := fun t : State => t.lanes = ((s.bunches m).foldl (State.setLane rs) s).lanes ∧
    t.regs = s.regs) _ _ ⟨rfl, State.setLanes_regs rs _⟩ fun t ht n _ => ?_
  refine List.foldlRecOn (motive := fun t : State => t.lanes = ((s.bunches m).foldl (State.setLane rs) s).lanes ∧
    t.regs = s.regs) _ _ ht fun t ht dir _ => ?_
  dsimp only
  split
  · exact ht
  · split
    · exact ht
    · exact ht

/-- A member's lanes after its step. -/
theorem State.writeLanes_effect {m n : Nat} (hn : n ∈ s.bunches m) (rs : List PipResult) :
    SMap.get 0 (s.writeLanes m rs).lanes n = laneBits rs n := by
  rw [(State.writeLanes_frame m rs).1, State.setLanes_lane, if_pos hn]

/-! ## What a step does after its rows and lanes -/

/-- The rows and lanes that a step has written stay, and so do the partition's count of executed steps and its role. -/
structure WritesKept (p : Nat) (s t : State) : Prop where
  rows : t.rows = s.rows
  lanes : t.lanes = s.lanes
  executed : (t.part p).executed = (s.part p).executed
  role : t.role p = s.role p

theorem WritesKept.refl (p : Nat) (s : State) : WritesKept p s s := ⟨rfl, rfl, rfl, rfl⟩

theorem WritesKept.trans (h : WritesKept p s t) (h' : WritesKept p t u) : WritesKept p s u :=
  ⟨h'.rows.trans h.rows, h'.lanes.trans h.lanes, h'.executed.trans h.executed, h'.role.trans h.role⟩

/-- Phases of a step that are made once for each element of a list. -/
theorem WritesKept.foldl {α : Type} {f : State → α → State} (hf : ∀ t x, WritesKept p t (f t x)) (l : List α) :
    WritesKept p s (l.foldl f s) :=
  List.foldlRecOn (motive := fun t : State => WritesKept p s t) _ _ (.refl p s) fun t ht x _ => ht.trans (hf t x)

/-- An operation that changes neither rows, lanes, partitions nor a register of the page RES_. -/
theorem WritesKept.of_keeps {M : Nat} (h : Keeps M s t) (hrows : M.testBit Kind.rows.bit = false)
    (hlanes : M.testBit Kind.orchard.bit = false) (hparts : M.testBit Kind.parts.bit = false)
    (hres : M.testBit (Kind.regs .res).bit = false) (hp : p < 64) : WritesKept p s t where
  rows := h.same .rows hrows
  lanes := (h.same .orchard hlanes).1
  executed := by rw [State.part, h.same .parts hparts]; rfl
  role := h.same (.regs .res) hres (R.RES_GROUP.ROLE p) 0 rfl (bankFixed_noError (bankFixed_role hp))

theorem State.modPart_kept (q : Nat) {f : Part → Part} (h : ∀ x, (f x).executed = x.executed) :
    WritesKept p s (s.modPart q f) := by
  refine ⟨rfl, rfl, ?_, rfl⟩
  by_cases e : p = q
  · rw [e, State.part_modPart, h]
  · rw [State.part_modPart_ne e]

theorem State.hold_kept (q mask : Nat) : WritesKept p s (s.hold q mask) := State.modPart_kept q fun _ => rfl

/-! ### Secondary destinations (R50, R51) -/

theorem State.writeProbe_kept (m l w bit pip v : Nat) : WritesKept p s (s.writeProbe m l w bit pip v) := by
  unfold State.writeProbe
  split
  · exact .refl p s
  · split
    · exact State.modPart_kept l fun _ => rfl
    · split
      · exact .refl p s
      · exact ⟨rfl, rfl, rfl, rfl⟩

theorem State.writeExch_kept (m l r bit v : Nat) : WritesKept p s (s.writeExch m l r bit v) := by
  unfold State.writeExch
  split
  split
  · exact ⟨rfl, rfl, rfl, rfl⟩
  · exact ⟨rfl, rfl, rfl, rfl⟩

theorem State.writeDest_kept (m l : Nat) (r : PipResult) : WritesKept p s (s.writeDest m l r) := by
  unfold State.writeDest
  extract_lets n i
  split
  case h_1 => exact ⟨rfl, rfl, rfl, rfl⟩
  case h_2 =>
    split
    · exact ⟨rfl, rfl, rfl, rfl⟩
    · exact .refl p s
  case h_3 => exact State.writeExch_kept ..
  case h_4 =>
    split
    · exact ⟨rfl, rfl, rfl, rfl⟩
    · exact .refl p s
  case h_5 => exact ⟨rfl, rfl, rfl, rfl⟩
  case h_6 => exact State.writeProbe_kept ..
  case h_7 => exact .refl p s

/-! ### Memory commands (R61 to R65) -/

theorem State.loadReadData_kept (m : Nat) : WritesKept p s (s.loadReadData m) := by
  refine WritesKept.foldl (fun t n => ?_) _
  split
  · exact ⟨rfl, rfl, rfl, rfl⟩
  · exact .refl p t

theorem State.readBank_kept (hp : p < 64) (b w node : Nat) : WritesKept p s (s.readBank b w node).2 :=
  have h : Keeps 288249068201709569 s (s.readBank b w node).2 := State.readBank_keeps rfl (Keeps.refl _ s)
  .of_keeps h rfl rfl rfl rfl hp

theorem State.localRead_kept (hp : p < 64) (m n : Nat) (c : MemWait) : WritesKept p s (s.localRead m n c) := by
  have hread := State.readBank_kept (s := s) hp n (c.addr % 2 ^ 18) 63
  unfold State.localRead
  split
  next v s1 heq =>
    rw [heq] at hread
    exact hread.trans ⟨rfl, rfl, rfl, rfl⟩
  next s1 heq =>
    rw [heq] at hread
    exact hread.trans (State.modPart_kept m fun _ => rfl)

theorem State.localWrite_kept (hp : p < 64) (m l n w : Nat) (v : W128) : WritesKept p s (s.localWrite m l n w v) := by
  have h : Keeps 297256267456460817 s (s.localWrite m l n w v) := State.localWrite_keeps rfl (Keeps.refl _ s)
  exact ⟨h.same .rows rfl, (h.same .orchard rfl).1, by rw [State.part, h.same .parts rfl]; rfl,
    State.localWrite_fixed (bankFixed_role hp) m l n w v 0⟩

theorem State.quaySend_kept (hp : p < 64) (node tag op addr be : Nat) (data : List W128) :
    WritesKept p s (s.quaySend node tag op addr be data) :=
  have h : Keeps 2305843009213693953 s (s.quaySend node tag op addr be data) := State.quaySend_keeps rfl (Keeps.refl _ s)
  .of_keeps h rfl rfl rfl rfl hp

theorem State.fireCommand_kept (hp : p < 64) (m l : Nat) (c : MemWait) : WritesKept p s (s.fireCommand m l c) := by
  have hwait : WritesKept p s (s.modPart m (fun x => { x with memWaits := x.memWaits ++ [c] })) :=
    State.modPart_kept m fun _ => rfl
  unfold State.fireCommand
  split
  · split
    · unfold State.localCommand
      split
      · exact State.localRead_kept hp m c.bunch c
      · exact State.localWrite_kept hp m l c.bunch _ c.data
    · exact hwait.trans (State.hold_kept l causeBerth)
  · exact (hwait.trans (State.hold_kept l causeFar)).trans (State.quaySend_kept hp ..)

/-! ### Breakpoints, signatures and joining members (R52, R247, R249) -/

theorem State.stepBreak_kept (hp : p < 64) (l : Nat) : WritesKept p s (s.stepBreak l) := by
  unfold State.stepBreak
  split
  · extract_lets s1
    have h1 : WritesKept p s s1 := by
      refine (State.modPart_kept (s := s) l (f := fun x => { x with brk := true }) fun _ => rfl).trans ?_
      have h := State.raise_keeps (M := 1099847172097) (a1 := .prt) (a2 := l) (a3 := 4) rfl
        (Keeps.refl _ (s.modPart l (fun x => { x with brk := true })))
      exact .of_keeps h rfl rfl rfl rfl hp
    split
    · have h := State.requestStop_keeps (M := 146366987890589697) (a1 := 3) rfl (Keeps.refl _ s1)
      exact h1.trans (.of_keeps h rfl rfl rfl rfl hp)
    · exact h1
  · exact .refl p s

theorem State.signRows_kept (m st : Nat) : WritesKept p s (s.signRows m st) := by
  unfold State.signRows
  split
  · exact .refl p s
  · exact State.modPart_kept m fun _ => rfl

/-- A partition that leads no group has no joining member to copy its rows to. -/
theorem State.copyRowsToJoiners_alone {l : Nat} (hl : s.isLead l = false) (m st : Nat) : s.copyRowsToJoiners m l st = s := by
  have hnone : s.mirrors m l = [] := by rw [State.mirrors, if_neg (by simp [hl])]
  rw [State.copyRowsToJoiners, hnone]
  rfl

/-! ## The step of a partition that leads no group -/

theorem State.captureRows_frame (m st : Nat) : (s.captureRows m st).regs = s.regs ∧ (s.captureRows m st).rows = s.rows ∧
    (s.captureRows m st).parts = s.parts :=
  List.foldlRecOn (motive := fun t : State => t.regs = s.regs ∧ t.rows = s.rows ∧ t.parts = s.parts) _ _ ⟨rfl, rfl, rfl⟩
    fun _ ht _ _ => List.foldlRecOn
      (motive := fun t : State => t.regs = s.regs ∧ t.rows = s.rows ∧ t.parts = s.parts) _ _ ht fun _ ht' _ _ => ht'

/-- The rows go to their shadows first where a snapshot is being captured (R250). -/
def State.captured (s : State) (m st : Nat) : State := if s.on (R.RES_SNAP.CAPTURING m) 0 then s.captureRows m st else s

theorem State.captured_frame (m st : Nat) : (s.captured m st).regs = s.regs ∧ (s.captured m st).rows = s.rows ∧
    (s.captured m st).parts = s.parts := by
  unfold State.captured
  split
  · exact State.captureRows_frame m st
  · exact ⟨rfl, rfl, rfl⟩

/-- The rows and lanes of a step's results are written. -/
def State.written (s : State) (m st : Nat) (rs : List PipResult) : State :=
  ((s.captured m st).writeRows m st rs).writeLanes m rs

/-- The destinations, commands, breakpoint and signature that follow them. -/
def State.finished (s : State) (m l st : Nat) (rs : List PipResult) (cmds : List MemWait) : State :=
  let s3 := cmds.foldl (fun s c => s.fireCommand m l c) ((rs.foldl (fun s r => s.writeDest m l r) s).loadReadData m)
  (if rs.any (fun r => pipBrk r.word == 1 && r.result == 1) then s3.stepBreak l else s3).signRows m st

theorem State.execStepOf_eq (m l st : Nat) : s.execStepOf m l st =
    ((s.written m st (s.results m l st)).finished m l st (s.results m l st)
      (s.commands (s.results m l st) st)).copyRowsToJoiners m l st := rfl

theorem State.finished_kept (hp : p < 64) (m l st : Nat) (rs : List PipResult) (cmds : List MemWait) :
    WritesKept p s (s.finished m l st rs cmds) := by
  unfold State.finished
  extract_lets s3
  have h3 : WritesKept p s s3 :=
    ((WritesKept.foldl (fun _ r => State.writeDest_kept m l r) rs).trans (State.loadReadData_kept m)).trans
      (WritesKept.foldl (fun _ c => State.fireCommand_kept hp m l c) cmds)
  refine WritesKept.trans ?_ (State.signRows_kept m st)
  split
  · exact h3.trans (State.stepBreak_kept hp l)
  · exact h3

/-- What stands where a step of a partition has written, with the partition's count and role as they were. -/
structure StepWritten (p st : Nat) (rs : List PipResult) (s t : State) : Prop where
  rows : ∀ n ∈ s.bunches p, ∀ b, b < 16 →
    SMap.get 0 t.rows (s.rowAt n b st) = mergeRow (SMap.get 0 s.rows (s.rowAt n b st)) rs n b
  lanes : ∀ n ∈ s.bunches p, SMap.get 0 t.lanes n = laneBits rs n
  executed : (t.part p).executed = (s.part p).executed
  role : t.role p = s.role p

theorem StepWritten.trans {st : Nat} {rs : List PipResult} (h : StepWritten p st rs s t) (h' : WritesKept p t u) :
    StepWritten p st rs s u where
  rows n hn b hb := by rw [h'.rows, h.rows n hn b hb]
  lanes n hn := by rw [h'.lanes, h.lanes n hn]
  executed := h'.executed.trans h.executed
  role := h'.role.trans h.role

theorem State.written_effect (st : Nat) (rs : List PipResult) : StepWritten p st rs s (s.written p st rs) := by
  obtain ⟨hcregs, hcrows, hcparts⟩ := State.captured_frame (s := s) p st
  obtain ⟨hrows, hwregs, hwparts⟩ := State.writeRows_effect (s := s.captured p st) p st rs
  have hlanes := State.writeLanes_keeps (M := 256) (a1 := p) (a2 := rs) rfl (Keeps.refl _ ((s.captured p st).writeRows p st rs))
  have hb : ((s.captured p st).writeRows p st rs).bunches p = s.bunches p := State.bunches_of_regs (hwregs.trans hcregs) p
  refine ⟨fun n hn b hlt => ?_, fun n hn => State.writeLanes_effect (by rwa [hb]) rs, ?_, ?_⟩
  · have h := hrows n (by rwa [State.bunches_of_regs hcregs]) b hlt
    rw [State.rowAt_of_regs hcregs, hcrows] at h
    rw [State.written, hlanes.same .rows rfl]
    exact h
  · rw [State.written, State.part, hlanes.same .parts rfl, hwparts, hcparts]
    rfl
  · have hregs : (s.written p st rs).regs = s.regs := by
      rw [State.written]
      exact (State.writeLanes_frame p rs).2.trans (hwregs.trans hcregs)
    rw [State.role, State.role, State.rd, State.rd, hregs]

theorem State.execStepOf_effect (hp : p < 64) (hl : s.isLead p = false) (st : Nat) :
    StepWritten p st (s.results p p st) s (s.execStepOf p p st) := by
  have h := (State.written_effect (p := p) (s := s) st (s.results p p st)).trans
    (State.finished_kept hp p p st (s.results p p st) (s.commands (s.results p p st) st))
  have hlead : ((s.written p st (s.results p p st)).finished p p st (s.results p p st)
      (s.commands (s.results p p st) st)).isLead p = false := by
    rw [State.isLead, h.role]
    exact hl
  rw [State.execStepOf_eq, State.copyRowsToJoiners_alone hlead]
  exact h

/-! ## A step that meets no error (R235, R240, R242) -/

theorem State.badFetches_mono {m st a b : Nat} (hab : a ≤ b) (h : s.badFetches m st a = []) : s.badFetches m st b = [] := by
  rw [List.eq_nil_iff_forall_not_mem] at h ⊢
  intro g hg
  refine h g ?_
  simp only [State.badFetches, List.mem_flatMap, List.mem_map, List.mem_filter, decide_eq_true_eq] at hg ⊢
  obtain ⟨n, hn, c, hc, e, ⟨he, hle⟩, rfl⟩ := hg
  exact ⟨n, hn, c, hc, e, ⟨he, hab.trans hle⟩, rfl⟩

theorem State.rowErrors_good (h : ∀ k, s.ecc clsRow k = 0) (m st : Nat) : s.rowErrors m st = [] := by
  have hflat : ∀ {α β : Type} (l : List α), l.flatMap (fun _ => ([] : List β)) = [] := fun l => by simp
  simp [State.rowErrors, h, hflat, distinctRows]

theorem State.stepErrors_good (h : ∀ k, s.ecc clsRow k = 0) {m : Nat} (he : (s.part m).pendErr = none) (st : Nat) :
    s.stepErrors m st false = [] := by
  simp [State.stepErrors, he, State.rowErrors_good h]

theorem State.countCorrections_good (h : ∀ k, s.ecc clsRow k = 0) {m st : Nat} (hf : s.badFetches m st 1 = []) :
    s.countCorrections m st = s := by
  simp [State.countCorrections, hf, h]

theorem State.stallEnd_none (h : (s.part p).ledger.realFrom = none) : s.stallEnd p = s := by
  rw [State.stallEnd, h]

/-- A step that passes its checks and meets no error is executed by the partition. -/
theorem State.runStep_good {st : Nat} (hl : s.isLead p = false) (hc : s.fetchCheck p p st = none)
    (hf : s.badFetches p st 1 = []) (h : ∀ k, s.ecc clsRow k = 0) (he : (s.part p).pendErr = none) :
    s.runStep p st = s.runMembers p st [p] := by
  have hf2 : s.badFetches p st 2 = [] := State.badFetches_mono (by decide) hf
  simp [State.runStep, hl, hc, hf2, State.stepErrors_good h he, firstError]

/-- The step is counted and the partition is at its next one. -/
def State.stepCounted (s : State) (l st : Nat) : State :=
  (s.countStep l).modPart l (fun x => { x with step := st + 1, refetched := false })

theorem State.stepCounted_effect (l st : Nat) : ((s.stepCounted l st).part l).step = st + 1 ∧
    ((s.stepCounted l st).part l).executed = (s.part l).executed + 1 ∧ (s.stepCounted l st).rows = s.rows ∧
    (s.stepCounted l st).lanes = s.lanes := by
  rw [State.stepCounted, State.part_modPart, State.countStep, State.part_modPart]
  exact ⟨rfl, rfl, rfl, rfl⟩

/-- Outside a unit and a replay a step is its execution, its count, and a sample (R412). -/
theorem State.runMembers_alone {st : Nat} (hu : s.inUnit p = false) (hr : (s.part p).replay = none)
    (hg : (s.part p).ledger.realFrom = none) (hf : s.badFetches p st 1 = []) (h : ∀ k, s.ecc clsRow k = 0) :
    s.runMembers p st [p] = ((s.execStepOf p p st).stepCounted p st).sampleClock p 1 none := by
  have hlive : s.stepLive p = true := by rw [State.stepLive, hr]
  simp only [State.runMembers, List.foldl_cons, List.foldl_nil, State.countCorrections_good h hf, State.stallEnd_none hg,
    hlive, hr, hu, Option.isNone_none, Bool.false_and, if_true, Bool.false_eq_true, if_false, State.stepCounted]

/-- After a step that nothing hinders the partition is at its next step, with one more executed, and its rows and lanes hold the
step's results. -/
theorem State.runMembers_effect {st : Nat} (hp : p < 64) (hl : s.isLead p = false) (hu : s.inUnit p = false)
    (hr : (s.part p).replay = none) (hg : (s.part p).ledger.realFrom = none) (hf : s.badFetches p st 1 = [])
    (h : ∀ k, s.ecc clsRow k = 0) :
    ((s.runMembers p st [p]).part p).step = st + 1 ∧
    ((s.runMembers p st [p]).part p).executed = (s.part p).executed + 1 ∧
    (∀ n ∈ s.bunches p, ∀ b, b < 16 → SMap.get 0 (s.runMembers p st [p]).rows (s.rowAt n b st) =
      mergeRow (SMap.get 0 s.rows (s.rowAt n b st)) (s.results p p st) n b) ∧
    (∀ n ∈ s.bunches p, SMap.get 0 (s.runMembers p st [p]).lanes n = laneBits (s.results p p st) n) := by
  obtain ⟨hrows, hlanes, hexec, _⟩ := State.execStepOf_effect (s := s) hp hl st
  have hsample := State.sampleClock_keeps (M := 65536) (a1 := p) (a2 := 1) (a3 := none) rfl
    (Keeps.refl _ ((s.execStepOf p p st).stepCounted p st))
  obtain ⟨hstep, hcount, hcrows, hclanes⟩ := State.stepCounted_effect (s := s.execStepOf p p st) p st
  rw [State.runMembers_alone hu hr hg hf h, State.part, hsample.same .parts rfl, hsample.same .rows rfl,
    (hsample.same .orchard rfl).1, hcrows, hclanes]
  exact ⟨hstep, hcount.trans (congrArg (· + 1) hexec), hrows, hlanes⟩

/-! ## The statement -/

/-- A partition that something holds stalls on the tick, with its step, rows and lanes as they were. -/
theorem AtStep.stalls_effect (h : AtStep p s) (hh : s.holders p ≠ 0) :
    ((s.stepTick p).unitTick p).rd R.PRT_STATUS.STALLED p = 1 ∧
    (((s.stepTick p).unitTick p).part p).step = (s.part p).step ∧ ((s.stepTick p).unitTick p).rows = s.rows ∧
    ((s.stepTick p).unitTick p).lanes = s.lanes ∧ (((s.stepTick p).unitTick p).part p).ledger.realFrom ≠ none := by
  obtain ⟨hparts, htrows, htlanes, hstall⟩ := State.unitTick_frame (p := p) (s := s.stepTick p) p
  have hpart : ((s.stepTick p).unitTick p).part p = (s.stepTick p).part p := by rw [State.part, hparts, State.part]
  rw [hpart, hstall, htrows, htlanes, h.stalls hh]
  obtain ⟨hstalled, hfrom⟩ := State.stallBegin_effect h.noReplay (s.holders p)
  obtain ⟨hrows, hlanes⟩ := State.stallBegin_stores (s := s) (p := p) (s.holders p)
  have hcourse := State.stallBegin_course (s := s) p (s.holders p) p
  exact ⟨hstalled, (congrArg Part.step hcourse :), hrows, hlanes, hfrom⟩

/-- Nothing hinders the step of a partition that stands in no group and no unit: nothing holds it, its fetch passes the checks, no
word or row that it meets has an error, and no error or stall waits. -/
structure Unhindered (p : Nat) (s : State) : Prop where
  free : s.holders p = 0
  noLead : s.isLead p = false
  noUnit : s.inUnit p = false
  noStall : (s.part p).ledger.realFrom = none
  noError : (s.part p).pendErr = none
  checked : s.fetchCheck p p (s.part p).step = none
  fetched : s.badFetches p (s.part p).step 1 = []
  goodRows : ∀ k, s.ecc clsRow k = 0

/-- A partition that nothing hinders executes its step on the tick. -/
theorem AtStep.executes_effect (h : AtStep p s) (hp : p < 64) (hu : Unhindered p s) :
    (((s.stepTick p).unitTick p).part p).step = (s.part p).step + 1 ∧
    (((s.stepTick p).unitTick p).part p).executed = (s.part p).executed + 1 ∧
    (∀ n ∈ s.bunches p, ∀ b, b < 16 →
      SMap.get 0 ((s.stepTick p).unitTick p).rows (s.rowAt n b (s.part p).step) =
        mergeRow (SMap.get 0 s.rows (s.rowAt n b (s.part p).step)) (s.results p p (s.part p).step) n b) ∧
    (∀ n ∈ s.bunches p, SMap.get 0 ((s.stepTick p).unitTick p).lanes n = laneBits (s.results p p (s.part p).step) n) := by
  obtain ⟨hfree, hlead, hunit, hfrom, hpend, hcheck, hfetch, hrow⟩ := hu
  obtain ⟨hparts, htrows, htlanes, _⟩ := State.unitTick_frame (p := p) (s := s.stepTick p) p
  have hpart : ((s.stepTick p).unitTick p).part p = (s.stepTick p).part p := by rw [State.part, hparts, State.part]
  rw [hpart, htrows, htlanes, h.runs hfree hunit, State.runStep_good hlead hcheck hfetch hrow hpend]
  exact State.runMembers_effect hp hlead hunit h.noReplay hfrom hfetch hrow

/-- Settles O11: the tick of a step changes only checks, so a partition that something holds begins its stall and keeps its
stores, and one that nothing hinders writes its rows and lanes, which the rest of the step leaves as they are. -/
theorem stepExecutesOrStalls : Obligations.StepExecutesOrStalls := by
  unfold Obligations.StepExecutesOrStalls
  refine ⟨?stalls, ?executes⟩
  case stalls =>
    intro q us s hin halone hbelow hactive hrun hreplay hheld
    have hat : AtStep q.val s := ⟨hin, halone, hbelow, hactive, hrun, hreplay⟩
    have hat' := hat.ticked us
    refine ⟨_, exec_step q us, ?_⟩
    rw [doStep_inCycle hin]
    obtain ⟨o, h, c, htick⟩ := State.ticked_eq (s := s) q.val us
    rw [htick] at hat' ⊢
    exact hat'.stalls_effect hheld
  case executes =>
    intro q us s hin halone hlead hbelow hactive hrun hreplay hfrom hheld hunit hcheck hfetch hrow hpend
    have hat : AtStep q.val s := ⟨hin, halone, hbelow, hactive, hrun, hreplay⟩
    have hat' := hat.ticked us
    refine ⟨_, exec_step q us, ?_⟩
    rw [doStep_inCycle hin]
    obtain ⟨o, htick⟩ := State.ticked_upset (s := s) q.val us
    obtain ⟨h, c, hupset⟩ := State.upset_eq (s := s) us
    rw [hupset] at htick hcheck hfetch hrow
    rw [htick] at hat' ⊢
    exact hat'.executes_effect q.isLt ⟨hheld, hlead, hunit, hfrom, hpend, hcheck, hfetch, hrow⟩

end Sys2Proof.Machine

/-! The commands of a partition and what they are made of: which fields each part of a command leaves, isolation and exchange
windows, the members of a group, and the state check before a command (R97, R101, R103, R104, R117, R244). -/

namespace Sys2Proof.Machine
open Sys2Proof

variable {s t : State}

/-! ## Folds over the partitions or bunches of a command -/

/-- Where the step at p brings about Q and no step ends it, Q holds after a fold that meets p. -/
theorem foldl_reaches {f : State → Nat → State} {Q : State → Prop} {p : Nat} {l : List Nat} (hp : p ∈ l)
    (hself : ∀ t, Q (f t p)) (hkeep : ∀ t q, Q t → Q (f t q)) : Q (l.foldl f s) := by
  induction l generalizing s with
  | nil => exact absurd hp List.not_mem_nil
  | cons q l ih =>
    rw [List.foldl_cons]
    rcases List.mem_cons.mp hp with rfl | hp
    · exact List.foldlRecOn _ _ (hself s) (fun t ht q _ => hkeep t q ht)
    · exact ih hp

/-- Where the step at p leads from I to Q and the other steps keep both, a fold that meets p once leads from I to Q. -/
theorem foldl_once {f : State → Nat → State} {I Q : State → Prop} {p : Nat} {l : List Nat} (hd : l.Nodup) (hp : p ∈ l)
    (hself : ∀ t, I t → Q (f t p)) (hbefore : ∀ t, ∀ q ∈ l, q ≠ p → I t → I (f t q))
    (hafter : ∀ t, ∀ q ∈ l, q ≠ p → Q t → Q (f t q)) (hI : I s) : Q (l.foldl f s) := by
  induction l generalizing s with
  | nil => exact absurd hp List.not_mem_nil
  | cons q l ih =>
    obtain ⟨hq, hd⟩ := List.nodup_cons.mp hd
    rw [List.foldl_cons]
    by_cases e : q = p
    · subst e
      exact List.foldlRecOn _ _ (hself s hI)
        (fun t ht k hk => hafter t k (List.mem_cons_of_mem _ hk) (fun e => hq (e ▸ hk)) ht)
    · exact ih hd ((List.mem_cons.mp hp).resolve_left (Ne.symm e))
        (fun t k hk => hbefore t k (List.mem_cons_of_mem _ hk)) (fun t k hk => hafter t k (List.mem_cons_of_mem _ hk))
        (hbefore s q List.mem_cons_self e hI)

/-! ## Fields that are kept -/

/-- A field of a page that is kept, outside the error registers, reads as before. -/
theorem Keeps.rd_plain {M : Nat} (h : Keeps M s t) {g : Fld} (hp : M.testBit (Kind.regs g.page).bit = false)
    (he : errorReg (g.off % 4096) = false) (d : Nat) : t.rd g d = s.rd g d := h.same (.regs g.page) hp g d rfl he

/-- Any field of a page that is kept with the error registers reads as before. -/
theorem Keeps.rd_any {M : Nat} (h : Keeps M s t) {g : Fld} (hp : M.testBit (Kind.regs g.page).bit = false)
    (herr : M.testBit Kind.errors.bit = false) (d : Nat) : t.rd g d = s.rd g d := by
  cases e : errorReg (g.off % 4096) with
  | true => exact h.same .errors herr g d e
  | false => exact h.rd_plain hp e d

@[simp] theorem State.part_wr (f : Fld) (c v p : Nat) : (s.wr f c v).part p = s.part p := rfl

theorem State.rd_of_regs (h : t.regs = s.regs) (g : Fld) (d : Nat) : t.rd g d = s.rd g d := by
  rw [State.rd, State.rd, h]

/-- Registers of partitions stand apart from those of the RES_ page. -/
theorem Fld.prt_apart_res {f g : Fld} (hf : f.page = .prt) (hg : g.page = .res) : f.apart g = true :=
  Fld.apart_of_page (by rw [hf, hg]; decide)

/-- The bunches of a partition are those of its two MEMBER fields (R77). -/
theorem State.bunches_of_rd {p : Nat} (hlo : t.rd R.PRT_BUNCHES_LO.MEMBER p = s.rd R.PRT_BUNCHES_LO.MEMBER p)
    (hhi : t.rd R.PRT_BUNCHES_HI.MEMBER p = s.rd R.PRT_BUNCHES_HI.MEMBER p) : t.bunches p = s.bunches p := by
  rw [State.bunches, State.bunches, hlo, hhi]

/-- The fields of a list, written 0 in a channel. -/
def State.zeroed (s : State) (fs : List Fld) (p : Nat) : State := fs.foldl (fun s f => s.wr f p 0) s

theorem State.zeroed_rd_apart {fs : List Fld} {g : Fld} (h : ∀ f ∈ fs, f.apart g = true) (p d : Nat) :
    (s.zeroed fs p).rd g d = s.rd g d :=
  List.foldlRecOn (motive := fun t : State => t.rd g d = s.rd g d) _ _ rfl
    (fun _ ht f hf => (State.rd_wr_apart (h f hf) p d 0).trans ht)

/-- A field of the list reads 0, where the list's fields stand apart or are one. -/
theorem State.zeroed_rd {fs : List Fld} {g : Fld} (hg : g ∈ fs) (h : ∀ f ∈ fs, f = g ∨ f.apart g = true) (p : Nat) :
    (s.zeroed fs p).rd g p = 0 := by
  have hstep : ∀ (t : State) (f : Fld), f ∈ fs → (f = g ∨ t.rd g p = 0) → (t.wr f p 0).rd g p = 0 := fun t f hf ht => by
    by_cases e : f = g
    · rw [e, State.rd_wr_self, Nat.zero_mod]
    · rw [State.rd_wr_apart ((h f hf).resolve_left e)]
      exact ht.resolve_left e
  obtain ⟨l, r, rfl⟩ := List.append_of_mem hg
  rw [State.zeroed, List.foldl_append, List.foldl_cons]
  exact List.foldlRecOn (motive := fun t : State => t.rd g p = 0) _ _ (hstep _ g hg (.inl rfl))
    (fun t ht f hf => hstep t f (List.mem_append_right _ (List.mem_cons_of_mem _ hf)) (.inr ht))

/-! ## The members of a group (R244) -/

/-- The members that a partition commands are fixed by the registers of the RES_ page. -/
theorem State.members_of_res (h : ∀ g : Fld, g.page = .res → ∀ d, t.rd g d = s.rd g d) (l : Nat) :
    t.members l = s.members l := by
  have hrole : ∀ m, t.role m = s.role m := fun m => h _ rfl 0
  have hof : (fun m => t.isFollower m && t.rd (R.RES_GROUP.LEAD m) 0 == l) =
      fun m => s.isFollower m && s.rd (R.RES_GROUP.LEAD m) 0 == l := funext fun m => by
    rw [State.isFollower, hrole, h _ rfl 0, State.isFollower]
  rw [State.members, State.followers, State.isLead, hrole, hof, State.members, State.followers, State.isLead]

/-- STATE of every member reads what `setState` sets. -/
theorem State.setState_member {l m : Nat} (hm : m ∈ s.members l) (v : Nat) : (s.setState l v).pstate m = v % 16 := by
  unfold State.setState
  refine foldl_reaches (Q := fun t : State => t.pstate m = v % 16) hm (fun t => State.rd_wr_self _ _ _) (fun t q ht => ?_)
  rw [State.pstate, State.rd_wr]
  split
  · rfl
  · exact ht

theorem State.modParts_regs {g : State → Part → Part} (l : List Nat) :
    (l.foldl (fun s m => s.modPart m (g s)) s).regs = s.regs :=
  List.foldlRecOn (motive := fun t : State => t.regs = s.regs) _ _ rfl (fun _ ht _ _ => ht)

/-- What a change brings about in any partition's data holds of each partition it is made in. -/
theorem State.modParts_part {g : State → Part → Part} {P : Part → Prop} (hg : ∀ t x, P (g t x)) {l : List Nat} {m : Nat}
    (hm : m ∈ l) : P ((l.foldl (fun s m => s.modPart m (g s)) s).part m) := by
  refine foldl_reaches (Q := fun t : State => P (t.part m)) hm (fun t => ?_) (fun t q ht => ?_)
  · rw [State.part_modPart]
    exact hg t _
  · by_cases e : m = q
    · rw [e, State.part_modPart]
      exact hg t _
    · rwa [State.part_modPart_ne e]

/-! ## Isolation (R117) -/

/-- Engaging isolation changes no field but ISOLATED, and leaves ISOLATED 1. -/
theorem State.isolate_rd_apart {g : Fld} (h : R.PRT_STATUS.ISOLATED.apart g = true) (p d : Nat) :
    (s.isolate p).rd g d = s.rd g d := by
  unfold State.isolate
  split
  · rfl
  · extract_lets s1
    have hregs : (s1.captureExch p (s1.windowRegs p) (fun _ => false)).regs = s.regs :=
      List.foldlRecOn (motive := fun t : State => t.regs = s.regs) _ _ rfl (fun _ ht _ _ => ht)
    rw [State.rd_wr_apart h, State.rd_of_regs hregs]

theorem State.isolate_isolated (p : Nat) : (s.isolate p).rd R.PRT_STATUS.ISOLATED p = 1 := by
  unfold State.isolate
  split
  · next h => simpa [State.on] using h
  · exact State.rd_wr_self _ _ _

theorem State.isolateAll_rd_apart {g : Fld} (h : R.PRT_STATUS.ISOLATED.apart g = true) (l : List Nat) (d : Nat) :
    (l.foldl (fun s m => s.isolate m) s).rd g d = s.rd g d :=
  List.foldlRecOn (motive := fun t : State => t.rd g d = s.rd g d) _ _ rfl
    (fun _ ht m _ => (State.isolate_rd_apart h m d).trans ht)

/-- A join that is given up leaves whether the RW-L fields are locked. -/
theorem State.endJoins_locked (l q : Nat) : ((s.endJoins l).part q).locked = (s.part q).locked := by
  refine List.foldlRecOn (motive := fun t : State => (t.part q).locked = (s.part q).locked) _ _ rfl (fun t ht m _ => ?_)
  split
  · by_cases e : q = m
    · rw [e, State.failJoin, State.part_modPart, ← e]
      exact ht
    · rw [State.failJoin, State.part_modPart_ne e]
      exact ht
  · exact ht

/-! ## Exchange windows (R97, R101) -/

/-- A window is given by the three fields of `PRT_EXCH`. -/
theorem Keeps.window {M : Nat} (h : Keeps M s t) (hp : M.testBit (Kind.regs .prt).bit = false) (p : Nat) :
    t.window p = s.window p := by
  rw [State.window, h.rd_plain hp rfl, h.rd_plain hp rfl, h.rd_plain hp rfl, State.window]

theorem State.windowRegs_of_window {p : Nat} (h : t.window p = s.window p) : t.windowRegs p = s.windowRegs p := by
  rw [State.windowRegs, h, State.windowRegs]

/-- A window that takes its registers is behind each of them in the order of taking. -/
theorem State.takeWindow_takes {p r : Nat} (hr : r ∈ s.windowRegs p) :
    (s.takeWindow p).exchTook.contains ((s.window p).1 * 64 + r, p) = true := by
  rw [List.contains_iff_mem]
  unfold State.takeWindow
  by_cases h : ((s.window p).1 * 64 + r, p) ∈ s.exchTook
  · exact List.mem_append_left _ h
  · refine List.mem_append_right _ (List.mem_filter.mpr ⟨List.mem_map_of_mem hr, ?_⟩)
    simpa using h

/-- The registers of the window are taken, with those no other window holds cleared first. -/
theorem State.takeCleared_takes (p : Nat) : ((s.clearWindow p).takeWindow p).window p = s.window p ∧
    ∀ r ∈ s.windowRegs p, ((s.clearWindow p).takeWindow p).exchTook.contains ((s.window p).1 * 64 + r, p) = true := by
  have hclear : (s.clearWindow p).window p = s.window p :=
    (State.clearWindow_keeps (M := 16384) rfl (Keeps.refl _ s)).window rfl p
  refine ⟨hclear, fun r hr => ?_⟩
  rw [← hclear]
  exact State.takeWindow_takes (by rwa [State.windowRegs_of_window hclear])

/-! ## The state check of a command (R103, R104) -/

theorem State.respond_sent (h : t.outbox = s.outbox) (a : Accessor) :
    (t.respond a true 0).outbox = s.outbox ++ [.regResp a 0 0] := congrArg (· ++ [Output.regResp a 0 0]) h

/-- A write of `PRT_CMD` that passes its gates, with no bunch being ungated, performs its command. -/
theorem prtCmd_performs {a : Accessor} {p : Nat} (h : s.accessCode a .prt p 0x40 true = 0)
    (hu : (s.part p).ungating = false) (cmd : Nat) :
    s.access a .prt p 0x40 true (doPrtCmd a p cmd) = s.perform a p cmd := by
  rw [State.access_ok h, doPrtCmd, if_neg (by simp [hu])]

theorem exec_loadBegin {a : Accessor} {p : Fin 64} (h : s.accessCode a .prt p.val 0x40 true = 0)
    (hu : (s.part p.val).ungating = false) : exec (.loadBegin a p) s = .next (s.perform a p.val 1) :=
  congrArg Host.Outcome.next (prtCmd_performs h hu 1)

theorem exec_loadEnd {a : Accessor} {p : Fin 64} (h : s.accessCode a .prt p.val 0x40 true = 0)
    (hu : (s.part p.val).ungating = false) : exec (.loadEnd a p) s = .next (s.perform a p.val 2) :=
  congrArg Host.Outcome.next (prtCmd_performs h hu 2)

theorem exec_start {a : Accessor} {p : Fin 64} (h : s.accessCode a .prt p.val 0x40 true = 0)
    (hu : (s.part p.val).ungating = false) : exec (.start a p) s = .next (s.perform a p.val 3) :=
  congrArg Host.Outcome.next (prtCmd_performs h hu 3)

theorem exec_stop {a : Accessor} {p : Fin 64} (h : s.accessCode a .prt p.val 0x40 true = 0)
    (hu : (s.part p.val).ungating = false) : exec (.stop a p) s = .next (s.perform a p.val 4) :=
  congrArg Host.Outcome.next (prtCmd_performs h hu 4)

theorem exec_single {a : Accessor} {p : Fin 64} (h : s.accessCode a .prt p.val 0x40 true = 0)
    (hu : (s.part p.val).ungating = false) : exec (.single a p) s = .next (s.perform a p.val 5) :=
  congrArg Host.Outcome.next (prtCmd_performs h hu 5)

theorem exec_resume {a : Accessor} {p : Fin 64} (h : s.accessCode a .prt p.val 0x40 true = 0)
    (hu : (s.part p.val).ungating = false) : exec (.resume a p) s = .next (s.perform a p.val 6) :=
  congrArg Host.Outcome.next (prtCmd_performs h hu 6)

theorem exec_unload {a : Accessor} {p : Fin 64} (h : s.accessCode a .prt p.val 0x40 true = 0)
    (hu : (s.part p.val).ungating = false) : exec (.unload a p) s = .next (s.perform a p.val 7) :=
  congrArg Host.Outcome.next (prtCmd_performs h hu 7)

section
variable {a : Accessor} {p : Nat} (hb : s.bunches p ≠ [])
include hb

theorem State.perform_loadBegin
    (hst : s.pstate p = 0 ∨ s.pstate p = 2 ∨ s.pstate p = 5 ∨ s.pstate p = 6 ∨ s.pstate p = 7) :
    s.perform a p 1 = (s.loadBegin p).respond a true 0 := by
  have hst' : s.pstate p = 0 ∨ s.pstate p = 2 ∨ s.pstate p = 5 ∨ s.pstate p = 7 ∨ s.pstate p = 6 := by omega
  rw [State.perform, if_neg (by simpa using hb), if_neg (by simp)]
  exact if_pos hst'

theorem State.perform_unload
    (hst : s.pstate p = 1 ∨ s.pstate p = 2 ∨ s.pstate p = 5 ∨ s.pstate p = 6 ∨ s.pstate p = 7) :
    s.perform a p 7 = (s.unloadPart p).respond a true 0 := by
  have hst' : s.pstate p = 1 ∨ s.pstate p = 2 ∨ s.pstate p = 5 ∨ s.pstate p = 7 ∨ s.pstate p = 6 := by omega
  rw [State.perform, if_neg (by simpa using hb), if_neg (by simp)]
  exact if_pos hst'

variable (hf : s.isFollower p = false)
include hf

theorem State.perform_loadEnd (hst : s.pstate p = 1) : s.perform a p 2 = (s.loadEnd a p).respond a true 0 := by
  rw [State.perform, if_neg (by simpa using hb), if_neg (by simp [hf])]
  exact if_pos hst

theorem State.perform_start (hst : s.pstate p = 2 ∨ s.pstate p = 5) (he : s.emuFree = true)
    (hsrc : s.on R.PRT_CTRL.HARD p = false ∨ s.rd R.PRT_CTRL.REL_SRC p ≠ 3) (ht : s.timerOk p = true)
    (hw : s.windowOk p = true) (hg : s.groupOk p = true) : s.perform a p 3 = (s.startPart p).respond a true 0 := by
  have hsrc' : (!(s.on R.PRT_CTRL.HARD p && s.rd R.PRT_CTRL.REL_SRC p == 3)) = true := by
    rcases hsrc with h | h <;> simp [h]
  rw [State.perform, if_neg (by simpa using hb), if_neg (by simp [hf])]
  exact if_pos ⟨hst, he, hsrc', ht, hw, hg⟩

theorem State.perform_stop (hst : s.pstate p = 3 ∨ s.pstate p = 4) :
    s.perform a p 4 = (s.stopPart p).respond a true 0 := by
  rw [State.perform, if_neg (by simpa using hb), if_neg (by simp [hf])]
  exact if_pos hst

theorem State.perform_single (hst : s.pstate p = 2 ∨ s.pstate p = 5) (he : s.emuFree = true)
    (hw : s.windowOk p = true) : s.perform a p 5 = (s.singlePart p).respond a true 0 := by
  rw [State.perform, if_neg (by simpa using hb), if_neg (by simp [hf])]
  exact if_pos ⟨hst, he, hw⟩

theorem State.perform_resume (hst : s.pstate p = 6) : s.perform a p 6 = (s.unfreeze p).respond a true 0 := by
  rw [State.perform, if_neg (by simpa using hb), if_neg (by simp [hf])]
  exact if_pos hst

end

end Sys2Proof.Machine

/-! A partition is set up: LOAD_BEGIN, LOAD_END and UNLOAD, the registers of a partition that have rules of their own, and the
statements on them and on DEPTH (R78, R81, R97, R101, R103, R106, R117, R124). -/

namespace Sys2Proof.Machine
open Sys2Proof

variable {s t : State}

/-! ## Gating the bunches (R80, R466, R467) -/

/-- Gating bunches changes no register of the PRT_ page. -/
theorem State.gateBunches_rd {g : Fld} (hg : g.page = .prt) (he : errorReg (g.off % 4096) = false) (on : Bool)
    (l : List Nat) (d : Nat) : (l.foldl (fun s n => s.gateBunch n on) s).rd g d = s.rd g d := by
  have h : Keeps 288234774198222848 s (l.foldl (fun s n => s.gateBunch n on) s) :=
    keeps_foldl (Keeps.refl _ s) (fun _ _ h => State.gateBunch_keeps rfl h)
  exact h.rd_plain (by rw [hg]; rfl) he d

/-- A bunch that no debug access uses is gated off onto the core clock (R129). -/
theorem State.gateBunch_off (n m : Nat) : (s.gateBunch n false).rd R.DMB_STATUS.ARRAY_CLOCK m =
    if s.underDebug n = false ∧ m % 256 = n % 256 then 1 else s.rd R.DMB_STATUS.ARRAY_CLOCK m := by
  cases hu : s.underDebug n with
  | true => simp [State.gateBunch, hu]
  | false =>
    simp only [State.gateBunch, hu, Bool.and_false, Bool.false_eq_true, if_false, Bool.not_false, Bool.true_or, true_and]
    rw [State.rd_wr]
    split
    · rfl
    · split
      · exact State.rd_wr_apart (by decide) _ _ _
      · exact State.rd_wr_apart (by decide) _ _ _

theorem State.gateBunch_windows (n : Nat) (on : Bool) : (s.gateBunch n on).windows = s.windows :=
  ((State.gateBunch_keeps (M := 288234774198222848) rfl (Keeps.refl _ s)).same .debug rfl).1

theorem State.underDebug_of_windows (h : t.windows = s.windows) (n : Nat) : t.underDebug n = s.underDebug n := by
  rw [State.underDebug, h, State.underDebug]

/-- Each bunch of a list that no debug access uses is gated off. -/
theorem State.gateBunches_off {l : List Nat} (hd : l.Nodup) {n : Nat} (hn : n ∈ l) (hu : s.underDebug n = false) :
    (l.foldl (fun s n => s.gateBunch n false) s).rd R.DMB_STATUS.ARRAY_CLOCK n = 1 := by
  refine foldl_once (I := fun t => t.windows = s.windows) (Q := fun t => t.rd R.DMB_STATUS.ARRAY_CLOCK n = 1) hd hn
    (fun t ht => ?_) (fun t q _ _ ht => (State.gateBunch_windows q false).trans ht) (fun t q _ _ ht => ?_) rfl
  · rw [State.gateBunch_off, if_pos ⟨(State.underDebug_of_windows ht n).trans hu, rfl⟩]
  · rw [State.gateBunch_off, ht, ite_self]

/-- A partition that enters Loading: STATE reads 1, and its other registers are as they were. -/
theorem State.enterLoading_pstate (p : Nat) : (s.enterLoading p).pstate p = 1 := by
  unfold State.enterLoading
  rw [State.pstate, State.devState_frame.2 _ (by decide), State.modPart_rd, State.rd_wr_self]
  rfl

theorem State.enterLoading_rd {g : Fld} (hg : g.page = .prt) (he : errorReg (g.off % 4096) = false)
    (h : R.PRT_STATUS.STATE.apart g = true) (p d : Nat) : (s.enterLoading p).rd g d = s.rd g d := by
  have hdev : R.PWR_STATUS.DEV_STATE.apart g = true := Fld.apart_of_page (by rw [hg]; decide)
  unfold State.enterLoading
  rw [State.devState_frame.2 g hdev, State.modPart_rd, State.rd_wr_apart h, State.gateBunches_rd hg he]

/-! ## LOAD_BEGIN (R101, R103, R106, R118) -/

/-- The fields of a partition that LOAD_BEGIN clears. -/
def loadCleared : List Fld :=
  [R.PRT_CYCLE_LO.COUNT, R.PRT_CYCLE_HI.COUNT, R.PRT_FAULT_CYCLE_LO.COUNT, R.PRT_FAULT_CYCLE_HI.COUNT,
    R.PRT_FAULT_INFO.CHECK, R.PRT_FAULT_INFO.STEP, R.PRT_FAULT_INFO.PIP, R.PRT_STATUS.STOP_CAUSE, R.PRT_STATUS.XPHASE,
    R.PRT_STATUS.PENDING, R.PRT_STATUS.WAIT_LOCK, R.PRT_STATUS.STOP_REQ, R.PRT_STATUS.STALLED]

theorem loadCleared_plain : ∀ g ∈ loadCleared, g.page = .prt ∧ errorReg (g.off % 4096) = false ∧
    R.PRT_STATUS.STATE.apart g = true ∧ g.apart R.PRT_STATUS.ISOLATED = true ∧
    ∀ f ∈ loadCleared, f = g ∨ f.apart g = true := by decide

/-- LOAD_BEGIN isolates the partition and clears its counts and causes; with its bunches ungated it enters Loading, else they
are being ungated. -/
theorem State.loadBegin_effect (p : Nat) :
    (if s.ungated p then (s.loadBegin p).pstate p = 1 else ((s.loadBegin p).part p).ungating = true) ∧
    (s.loadBegin p).rd R.PRT_STATUS.ISOLATED p = 1 ∧ ∀ g ∈ loadCleared, (s.loadBegin p).rd g p = 0 := by
  unfold State.loadBegin
  extract_lets s1 s2 s3 s4 s5 s6 s7 s8
  have hcapture : Keeps 49920 s1 s2 := keeps_ite (State.captureExch_keeps rfl (Keeps.refl _ s1)) (Keeps.refl _ s1)
  have hwindow : Keeps 49920 s1 s3 :=
    State.clearRegs_keeps rfl (State.clearWindow_keeps rfl (State.dropWindow_keeps rfl hcapture))
  have hisolated : s3.rd R.PRT_STATUS.ISOLATED p = 1 := (hwindow.rd_plain rfl rfl p).trans (State.isolate_isolated p)
  have hzeroed : s6 = s3.zeroed loadCleared p := rfl
  have hres : ∀ g : Fld, g.page = .prt → s8.rd g p = s6.rd g p := fun g hg => by
    have hapart : ∀ f : Fld, f.page = .res → f.apart g = true := fun f hf => Fld.apart_of_page (by rw [hf, hg]; decide)
    have hregs : s8.regs = s7.regs := by
      clear_value s7
      rfl
    rw [State.rd_of_regs hregs]
    unfold s7
    rw [State.rd_wr_apart (hapart _ rfl), State.rd_wr_apart (hapart _ rfl), State.rd_wr_apart (hapart _ rfl),
      State.rd_wr_apart (hapart _ rfl), State.rd_wr_apart (hapart _ rfl)]
  have hload : ∀ g : Fld, g.page = .prt → errorReg (g.off % 4096) = false → R.PRT_STATUS.STATE.apart g = true →
      (if s.ungated p then s8.enterLoading p else s8).rd g p = (s3.zeroed loadCleared p).rd g p := fun g hg he hst => by
    rw [← hzeroed, ← hres g hg]
    split
    · exact State.enterLoading_rd hg he hst p p
    · rfl
  refine ⟨?_, ?_, fun g hg => ?_⟩
  · split
    · exact State.enterLoading_pstate p
    · exact congrArg Part.ungating (SMap.get_set_self _ _ _ _)
  · rw [hload _ rfl rfl (by decide), State.zeroed_rd_apart (fun f hf => (loadCleared_plain f hf).2.2.2.1)]
    exact hisolated
  · obtain ⟨hpage, herr, hstate, _, hone⟩ := loadCleared_plain g hg
    rw [hload g hpage herr hstate, State.zeroed_rd hg hone]

/-! ## LOAD_END and UNLOAD (R101, R103, R167) -/

/-- LOAD_END of an image that the loader has not refused: Loaded, and the window takes its registers. -/
theorem State.loadEnd_effect {p : Nat} (hsoft : s.on R.PRT_CTRL.HARD p = false ∨ (s.part p).softSeen = false)
    (hword : (s.part p).refusedWord = false) (a : Accessor) : (s.loadEnd a p).pstate p = 2 ∧
    (∀ r ∈ s.windowRegs p, (s.loadEnd a p).exchTook.contains ((s.window p).1 * 64 + r, p) = true) ∧
    (s.loadEnd a p).outbox = s.outbox := by
  have hsoft' : ¬(s.on R.PRT_CTRL.HARD p && (s.part p).softSeen) = true := by rcases hsoft with h | h <;> simp [h]
  have heq : s.loadEnd a p = ((s.wr R.PRT_STATUS.STATE p 2).clearWindow p).takeWindow p := by
    rw [State.loadEnd, if_neg hsoft', if_neg (by simp [hword])]
  have hkeeps : Keeps 49152 (s.wr R.PRT_STATUS.STATE p 2) (s.loadEnd a p) := by
    rw [heq]
    exact State.takeWindow_keeps rfl (State.clearWindow_keeps rfl (Keeps.refl _ _))
  have hwindow : (s.wr R.PRT_STATUS.STATE p 2).window p = s.window p := by
    simp only [State.window, State.rd_wr_apart (show R.PRT_STATUS.STATE.apart R.PRT_EXCH.CORE = true by decide),
      State.rd_wr_apart (show R.PRT_STATUS.STATE.apart R.PRT_EXCH.BASE = true by decide),
      State.rd_wr_apart (show R.PRT_STATUS.STATE.apart R.PRT_EXCH.COUNT = true by decide)]
  refine ⟨(hkeeps.rd_plain rfl rfl p).trans (State.rd_wr_self _ _ _), fun r hr => ?_, hkeeps.same .out rfl⟩
  rw [heq, ← hwindow]
  exact State.takeCleared_takes p |>.2 r (by rwa [State.windowRegs_of_window hwindow])

/-- What UNLOAD has done before it gates the bunches: joins given up, isolated, Unloaded, and the window's registers passed on. -/
def State.unloaded (s : State) (p : Nat) : State :=
  (((((s.endJoins p).isolate p).wr R.PRT_STATUS.STATE p 0).dropWindow p []).wr R.PRT_STATUS.PENDING p 0).wr
    R.PRT_STATUS.STALLED p 0

theorem State.unloadPart_eq (p : Nat) : s.unloadPart p =
    (((((s.unloaded p).bunches p).foldl (fun s n => s.gateBunch n false) (s.unloaded p)).wr R.PRT_STATUS.STOP_REQ p 0).modPart p
      (fun x => { ({} : Part) with locked := x.locked, ledger := faultLedger x.ledger })).devState := rfl

theorem State.unloaded_keeps (p : Nat) : Keeps 144115188076167168 (s.endJoins p) (s.unloaded p) :=
  State.wr_keeps rfl rfl (State.wr_keeps rfl rfl (State.dropWindow_keeps rfl
    (State.wr_keeps rfl rfl (State.isolate_keeps rfl (Keeps.refl _ _)))))

/-- Of the partition's registers, STATE reads 0 and ISOLATED 1, and its bunches are as they were. -/
theorem State.unloaded_status (p : Nat) : (s.unloaded p).pstate p = 0 ∧ (s.unloaded p).rd R.PRT_STATUS.ISOLATED p = 1 ∧
    (s.unloaded p).bunches p = s.bunches p := by
  have hjoins : Keeps 9008298766369792 s (s.endJoins p) := State.endJoins_keeps rfl (Keeps.refl _ s)
  have hdrop : ∀ g : Fld, g.page = .prt → errorReg (g.off % 4096) = false → R.PRT_STATUS.PENDING.apart g = true →
      R.PRT_STATUS.STALLED.apart g = true →
      (s.unloaded p).rd g p = (((s.endJoins p).isolate p).wr R.PRT_STATUS.STATE p 0).rd g p := fun g hg he hpend hstall => by
    rw [State.unloaded, State.rd_wr_apart hstall, State.rd_wr_apart hpend]
    exact (State.dropWindow_keeps (M := 49152) rfl (Keeps.refl _ _)).rd_plain (by rw [hg]; rfl) he p
  have hmember : ∀ g : Fld, g.page = .prt → errorReg (g.off % 4096) = false →
      R.PRT_STATUS.ISOLATED.apart g = true → R.PRT_STATUS.STATE.apart g = true →
      (((s.endJoins p).isolate p).wr R.PRT_STATUS.STATE p 0).rd g p = s.rd g p := fun g hg he hiso hstate => by
    rw [State.rd_wr_apart hstate, State.isolate_rd_apart hiso]
    exact hjoins.rd_plain (by rw [hg]; rfl) he p
  refine ⟨?_, ?_, State.bunches_of_rd ?_ ?_⟩
  · exact (hdrop _ rfl rfl (by decide) (by decide)).trans (State.rd_wr_self _ _ _)
  · rw [hdrop _ rfl rfl (by decide) (by decide), State.rd_wr_apart (by decide)]
    exact State.isolate_isolated p
  · rw [hdrop _ rfl rfl (by decide) (by decide), hmember _ rfl rfl (by decide) (by decide)]
  · rw [hdrop _ rfl rfl (by decide) (by decide), hmember _ rfl rfl (by decide) (by decide)]

/-- UNLOAD: Unloaded and isolated, its locks as they were, and its bunches gated. -/
theorem State.unloadPart_effect (p : Nat) : (s.unloadPart p).pstate p = 0 ∧
    (s.unloadPart p).rd R.PRT_STATUS.ISOLATED p = 1 ∧ ((s.unloadPart p).part p).locked = (s.part p).locked ∧
    ∀ n ∈ s.bunches p, s.underDebug n = false → (s.unloadPart p).rd R.DMB_STATUS.ARRAY_CLOCK n = 1 := by
  have hjoins : Keeps 9008298766369792 s (s.endJoins p) := State.endJoins_keeps rfl (Keeps.refl _ s)
  have hunloaded := State.unloaded_keeps (s := s) p
  obtain ⟨hstate, hiso, hbunches⟩ := State.unloaded_status (s := s) p
  have hdev := fun t : State => (State.devState_frame (s := t)).2
  rw [State.unloadPart_eq, hbunches]
  refine ⟨?_, ?_, ?_, fun n hn hu => ?_⟩
  · rw [State.pstate, hdev _ _ (by decide), State.modPart_rd, State.rd_wr_apart (by decide), State.gateBunches_rd rfl rfl]
    exact hstate
  · rw [hdev _ _ (by decide), State.modPart_rd, State.rd_wr_apart (by decide), State.gateBunches_rd rfl rfl]
    exact hiso
  · have hgated : Keeps 288234774198222848 (s.unloaded p)
        ((s.bunches p).foldl (fun s n => s.gateBunch n false) (s.unloaded p)) :=
      keeps_foldl (Keeps.refl _ _) (fun _ _ h => State.gateBunch_keeps rfl h)
    rw [State.part, State.devState_frame.1]
    refine (congrArg Part.locked (State.part_modPart p _)).trans ?_
    rw [State.part_wr, State.part, hgated.same .parts rfl, hunloaded.same .parts rfl]
    exact State.endJoins_locked p p
  · rw [hdev _ _ (by decide), State.modPart_rd, State.rd_wr_apart (Fld.apart_of_page (by decide))]
    have hwindows := (hunloaded.same .debug rfl).1.trans (hjoins.same .debug rfl).1
    exact State.gateBunches_off State.bunches_nodup hn ((State.underDebug_of_windows hwindows n).trans hu)

/-! ## Registers with rules of their own (R78, R97, R117, R124) -/

theorem exec_bunchesWrite {a : Accessor} {p : Fin 64} {hi : Bool}
    (h : s.accessCode a .prt p.val (if hi then 0x48 else 0x44) true = 0) (v : W32) :
    exec (.bunchesWrite a p hi v) s = .next (doBunchesWrite a p.val hi v s) := congrArg Host.Outcome.next (State.access_ok h _)

theorem exec_exchWrite {a : Accessor} {p : Fin 64} (h : s.accessCode a .prt p.val 0x4C true = 0) (v : W32) :
    exec (.exchWrite a p v) s = .next (doExchWrite a p.val v s) := congrArg Host.Outcome.next (State.access_ok h _)

theorem exec_isolateWrite {a : Accessor} {p : Fin 64} (h : s.accessCode a .prt p.val 0x58 true = 0) (v : W32) :
    exec (.isolateWrite a p v) s = .next (doIsolateWrite a p.val v s) := congrArg Host.Outcome.next (State.access_ok h _)

/-- Bunches that no other partition holds enter an Unloaded partition. -/
theorem doBunchesWrite_accepted {p : Nat} {hi : Bool} {v : W32} (hst : s.pstate p = 0) (hu : (s.part p).ungating = false)
    (hfree : s.bunchesTaken p (if hi then 2 ^ 32 * v.toNat else v.toNat) = false) (a : Accessor) :
    (doBunchesWrite a p hi v s).rd R.PRT_BUNCHES_LO.MEMBER p =
      (if hi then s.rd R.PRT_BUNCHES_LO.MEMBER p else v.toNat) ∧
    (doBunchesWrite a p hi v s).rd R.PRT_BUNCHES_HI.MEMBER p =
      (if hi then v.toNat else s.rd R.PRT_BUNCHES_HI.MEMBER p) ∧
    (doBunchesWrite a p hi v s).outbox = s.outbox ++ [.regResp a 0 0] := by
  have hv : v.toNat % 2 ^ 32 = v.toNat := Nat.mod_eq_of_lt v.isLt
  rw [doBunchesWrite, if_neg (by rw [hst, hu, hfree]; decide)]
  cases hi with
  | true => exact ⟨State.rd_wr_apart (by decide) _ _ _, (State.rd_wr_self _ _ _).trans hv, State.respond_sent rfl a⟩
  | false => exact ⟨(State.rd_wr_self _ _ _).trans hv, State.rd_wr_apart (by decide) _ _ _, State.respond_sent rfl a⟩

/-- A write to the bunches of a loaded partition, or of bunches that another holds, is refused with CODE 4. -/
theorem doBunchesWrite_refused {p : Nat} {hi : Bool} {v : W32}
    (h : s.pstate p ≠ 0 ∨ s.bunchesTaken p (if hi then 2 ^ 32 * v.toNat else v.toNat) = true) (a : Accessor) :
    doBunchesWrite a p hi v s = (s.errReg a .prt p (if hi then 0x48 else 0x44) 4).respond a true 0 := by
  have hno : (s.pstate p != 0 || (s.part p).ungating ||
      s.bunchesTaken p (if hi then 2 ^ 32 * v.toNat else v.toNat)) = true := by
    rcases h with h | h
    · simp [h]
    · rw [h, Bool.or_true]
  rw [doBunchesWrite, if_pos hno]

/-- The window as a write of `PRT_EXCH` gives it. -/
def State.exchWritten (s : State) (p x : Nat) : State :=
  ((s.wr R.PRT_EXCH.CORE p (bitsOf x 0 4)).wr R.PRT_EXCH.BASE p (bitsOf x 8 6)).wr R.PRT_EXCH.COUNT p (bitsOf x 16 7)

theorem State.exchWritten_window (p x : Nat) : (s.exchWritten p x).window p = (bitsOf x 0 4, bitsOf x 8 6, bitsOf x 16 7) := by
  have hcore : (s.exchWritten p x).rd R.PRT_EXCH.CORE p = bitsOf x 0 4 := by
    rw [State.exchWritten, State.rd_wr_apart (by decide), State.rd_wr_apart (by decide), State.rd_wr_self]
    exact Nat.mod_mod _ _
  have hbase : (s.exchWritten p x).rd R.PRT_EXCH.BASE p = bitsOf x 8 6 := by
    rw [State.exchWritten, State.rd_wr_apart (by decide), State.rd_wr_self]
    exact Nat.mod_mod _ _
  have hcount : (s.exchWritten p x).rd R.PRT_EXCH.COUNT p = bitsOf x 16 7 := by
    rw [State.exchWritten, State.rd_wr_self]
    exact Nat.mod_mod _ _
  rw [State.window, hcore, hbase, hcount]

/-- An unlocked window is written; in Loaded it takes its registers anew. -/
theorem doExchWrite_unlocked {p : Nat} (hl : (s.part p).locked = false) (a : Accessor) (v : W32) :
    (doExchWrite a p v s).window p = (bitsOf v.toNat 0 4, bitsOf v.toNat 8 6, bitsOf v.toNat 16 7) ∧
    (s.pstate p = 2 → ∀ r ∈ (doExchWrite a p v s).windowRegs p,
      (doExchWrite a p v s).exchTook.contains (((doExchWrite a p v s).window p).1 * 64 + r, p) = true) := by
  unfold doExchWrite
  extract_lets x same oldRegs oldCore s1 core added s2 s3
  have hwritten : s1.window p = (bitsOf x 0 4, bitsOf x 8 6, bitsOf x 16 7) := State.exchWritten_window p x
  have hdropped : Keeps 49152 s1 s3 := State.dropWindow_keeps rfl (State.captureExch_keeps rfl (Keeps.refl _ s1))
  have h3 : s3.window p = s1.window p := hdropped.window rfl p
  obtain ⟨hwindow, htakes⟩ := State.takeCleared_takes (s := s3) p
  rw [if_neg (by simp [hl])]
  by_cases hst : s.pstate p = 2
  · rw [if_pos ⟨hst, by simp [hl]⟩]
    have hall : (((s3.clearWindow p).takeWindow p).respond a true 0).window p = s3.window p := hwindow
    refine ⟨hall.trans (h3.trans hwritten), fun _ r hr => ?_⟩
    rw [State.windowRegs_of_window hall] at hr
    rw [hall]
    exact htakes r hr
  · rw [if_neg (fun h => hst h.1)]
    exact ⟨hwritten, fun h => absurd h hst⟩

/-- A write of `PRT_ISOLATE` with no field of 11 sets its four fields (R117). -/
theorem doIsolateWrite_accepted {p : Nat} {v : W32} (h : ∀ i, i < 4 → bitsOf v.toNat (2 * i) 2 ≠ 3) (a : Accessor) :
    (doIsolateWrite a p v s).rd R.PRT_ISOLATE.FABRIC p = bitsOf v.toNat 0 2 ∧
    (doIsolateWrite a p v s).rd R.PRT_ISOLATE.EXCH p = bitsOf v.toNat 2 2 ∧
    (doIsolateWrite a p v s).rd R.PRT_ISOLATE.CASTX p = bitsOf v.toNat 4 2 ∧
    (doIsolateWrite a p v s).rd R.PRT_ISOLATE.PROBE p = bitsOf v.toNat 6 2 := by
  have hno : ¬((List.range 4).any (fun i => bitsOf v.toNat (2 * i) 2 == 3)) = true := by
    simpa using h
  rw [doIsolateWrite, if_neg hno]
  refine ⟨?_, ?_, ?_, ?_⟩
  · rw [State.respond_rd, State.rd_wr_apart (by decide), State.rd_wr_apart (by decide), State.rd_wr_apart (by decide),
      State.rd_wr_self]
    exact Nat.mod_mod _ _
  · rw [State.respond_rd, State.rd_wr_apart (by decide), State.rd_wr_apart (by decide), State.rd_wr_self]
    exact Nat.mod_mod _ _
  · rw [State.respond_rd, State.rd_wr_apart (by decide), State.rd_wr_self]
    exact Nat.mod_mod _ _
  · rw [State.respond_rd, State.rd_wr_self]
    exact Nat.mod_mod _ _

/-- A write of `PRT_ISOLATE` with a field of 11 is an error of CODE 4 and nothing else (R124). -/
theorem doIsolateWrite_ignored {p : Nat} {v : W32} (h : ∃ i, i < 4 ∧ bitsOf v.toNat (2 * i) 2 = 3) (a : Accessor) :
    doIsolateWrite a p v s = (s.errReg a .prt p 0x58 4).respond a true 0 := by
  have hyes : ((List.range 4).any (fun i => bitsOf v.toNat (2 * i) 2 == 3)) = true := by
    simpa using h
  rw [doIsolateWrite, if_pos hyes]

/-! ## The statements -/

/-- Settles O3: D is 8 × (DEPTH + 1), which lies between 8 and 1,024 while DEPTH is at most 127. -/
theorem depthOfPartition : Obligations.DepthOfPartition := by
  unfold Obligations.DepthOfPartition
  intro p s
  have hdepth : s.depth p = 8 * (s.rd R.PRT_CTRL.DEPTH p + 1) := rfl
  exact ⟨hdepth, fun h => by omega⟩

/-- Settles O8: each command passes its state check and has the effect of its row, and each register of a partition accepts or
refuses its write as a whole. -/
theorem partitionsAreSetUp : Obligations.PartitionsAreSetUp := by
  unfold Obligations.PartitionsAreSetUp
  refine ⟨⟨?loadBegin, ?loadEnd, ?unload⟩, ?bunches, ?bunchesRefused, ?exch, ?isolate, ?isolateIgnored⟩
  case loadBegin =>
    intro a p s h hu hb hst
    refine ⟨_, exec_loadBegin h hu, ?_⟩
    rw [State.perform_loadBegin hb hst]
    obtain ⟨hstate, hiso, hzero⟩ := State.loadBegin_effect (s := s) p.val
    have hpair : ∀ lo hi : Fld, lo ∈ loadCleared → hi ∈ loadCleared → (s.loadBegin p.val).rd64 lo hi p.val = 0 :=
      fun lo hi hlo hhi => by rw [State.rd64, hzero lo hlo, hzero hi hhi, Nat.mul_zero]
    exact ⟨hstate, hiso, hpair _ _ (by decide) (by decide), hpair _ _ (by decide) (by decide), hzero _ (by decide),
      hzero _ (by decide), hzero _ (by decide), hzero _ (by decide), hzero _ (by decide),
      State.respond_sent ((State.loadBegin_keeps (M := 441358261040764672) rfl (Keeps.refl _ s)).same .out rfl) a⟩
  case loadEnd =>
    intro a p s h hu hb hf hst hsoft hword
    refine ⟨_, exec_loadEnd h hu, ?_⟩
    rw [State.perform_loadEnd hb hf hst]
    obtain ⟨hstate, htakes, hout⟩ := State.loadEnd_effect hsoft hword a
    exact ⟨hstate, htakes, State.respond_sent hout a⟩
  case unload =>
    intro a p s h hu hb hst
    refine ⟨_, exec_unload h hu, ?_⟩
    rw [State.perform_unload hb hst]
    obtain ⟨hstate, hiso, hlocked, hclock⟩ := State.unloadPart_effect (s := s) p.val
    exact ⟨hstate, hiso, hlocked, hclock,
      State.respond_sent ((State.unloadPart_keeps (M := 441358261040759808) rfl (Keeps.refl _ s)).same .out rfl) a⟩
  case bunches =>
    intro a p hi v s h hst hu hfree
    exact ⟨_, exec_bunchesWrite h v, doBunchesWrite_accepted hst hu hfree a⟩
  case bunchesRefused =>
    intro a p hi v s h hno hv
    refine ⟨_, exec_bunchesWrite h v, ?_⟩
    rw [doBunchesWrite_refused hno]
    exact ⟨State.bunches_of_rd (State.errReg_rd _ _ _ _ _ rfl _) (State.errReg_rd _ _ _ _ _ rfl _),
      State.err_code hv _ _ _, State.err_valid _ _ _ _ _⟩
  case exch =>
    intro a p v s h hl
    exact ⟨_, exec_exchWrite h v, doExchWrite_unlocked hl a v⟩
  case isolate =>
    intro a p v s h hfields
    exact ⟨_, exec_isolateWrite h v, doIsolateWrite_accepted hfields a⟩
  case isolateIgnored =>
    intro a p v s h hfield
    refine ⟨_, exec_isolateWrite h v, ?_⟩
    rw [doIsolateWrite_ignored hfield]
    exact ⟨fun f _ he c => State.errReg_rd _ _ _ _ _ he c, fun hv => State.err_code hv _ _ _⟩

end Sys2Proof.Machine

/-! The commands that run a partition: START, SINGLE, STOP and RESUME (R87, R103 to R106, R244). -/

namespace Sys2Proof.Machine
open Sys2Proof

variable {s : State}

/-! ## START (R91, R103, R106) -/

/-- What the cascade unit shows after a command changes no register outside the CAS_ page (R230). -/
theorem State.showUnit_rd {g : Fld} (hg : g.page = .prt) (d : Nat) : s.showUnit.rd g d = s.rd g d :=
  (State.showUnit_keeps (M := 2251799814733824) rfl (Keeps.refl _ s)).rd_any (by rw [hg]; rfl) rfl d

theorem State.unitIdle_rd {g : Fld} (hg : g.page = .prt) (d : Nat) : s.unitIdle.rd g d = s.rd g d :=
  (State.unitIdle_keeps (M := 2251799814733824) rfl (Keeps.refl _ s)).rd_any (by rw [hg]; rfl) rfl d

/-- START: every member is Armed, locked and outside a cycle, and a partition on network time waits for the lock. -/
theorem State.startPart_effect (p : Nat) :
    (∀ m ∈ s.members p, (s.startPart p).pstate m = 3 ∧ ((s.startPart p).part m).locked = true ∧
      ((s.startPart p).part m).inCycle = false) ∧
    (s.startPart p).rd R.PRT_STATUS.STOP_CAUSE p = 0 ∧
    ((s.on R.PRT_CTRL.PTP_LOCK p = true ∧ s.rd R.PRT_CTRL.REL_SRC p = 1 ∧ s.on R.TIM_STATUS.LOCKED 0 = false) →
      (s.startPart p).rd R.PRT_STATUS.WAIT_LOCK p = 1) := by
  unfold State.startPart
  extract_lets s0 s1 ptp epoch lock s2
  have hmembers0 : s0.members p = s.members p :=
    State.members_of_res (fun g hg d => State.isolateAll_rd_apart (Fld.prt_apart_res rfl hg) _ d) p
  have hmembers1 : s1.members p = s0.members p := State.members_of_res (fun g hg d =>
    (State.rd_wr_apart (Fld.prt_apart_res rfl hg) p d 0).trans (State.setState_rd_apart (Fld.prt_apart_res rfl hg) p 3 d)) p
  have hregs : s2.regs = s1.regs := State.modParts_regs _
  have hshown : ∀ g : Fld, g.page = .prt → R.PRT_STATUS.WAIT_LOCK.apart g = true → ∀ d,
      (if ptp && !s.on R.TIM_STATUS.LOCKED 0 then s2.wr R.PRT_STATUS.WAIT_LOCK p 1 else s2).showUnit.rd g d = s1.rd g d :=
    fun g hg hwait d => by
      rw [State.showUnit_rd hg, ← State.rd_of_regs hregs]
      split
      · exact State.rd_wr_apart hwait p d 1
      · rfl
  refine ⟨fun m hm => ?_, ?_, fun ⟨hptp, hsrc, hlock⟩ => ?_⟩
  · have hstate : (s0.setState p 3).pstate m = 3 := State.setState_member (hmembers0.symm ▸ hm) 3
    have hpart : (s2.part m).locked = true ∧ (s2.part m).inCycle = false :=
      State.modParts_part (P := fun x => x.locked = true ∧ x.inCycle = false) (fun _ _ => ⟨rfl, rfl⟩)
        (by rw [hmembers1, hmembers0]; exact hm)
    have hparts : (if ptp && !s.on R.TIM_STATUS.LOCKED 0 then s2.wr R.PRT_STATUS.WAIT_LOCK p 1 else s2).showUnit.parts =
        s2.parts := by
      refine ((State.showUnit_keeps (M := 2251799814733824) rfl (Keeps.refl _ _)).same .parts rfl).trans ?_
      split <;> rfl
    refine ⟨?_, ?_⟩
    · rw [State.pstate, hshown _ rfl (by decide)]
      exact (State.rd_wr_apart (by decide) p m 0).trans hstate
    · rw [State.part, hparts]
      exact hpart
  · rw [hshown _ rfl (by decide)]
    exact State.rd_wr_self _ _ _
  · have hptp' : (ptp && !s.on R.TIM_STATUS.LOCKED 0) = true := by simp [ptp, hptp, hsrc, hlock]
    rw [if_pos hptp', State.showUnit_rd rfl]
    exact State.rd_wr_self _ _ _

/-! ## SINGLE (R103, R106) -/

/-- SINGLE: every member is Running, locked and at step 0 of the one cycle. -/
theorem State.singlePart_effect (p : Nat) :
    (∀ m ∈ s.members p, (s.singlePart p).pstate m = 4 ∧ ((s.singlePart p).part m).single = true ∧
      ((s.singlePart p).part m).inCycle = true ∧ ((s.singlePart p).part m).step = 0 ∧
      ((s.singlePart p).part m).locked = true) ∧
    (s.singlePart p).rd R.PRT_STATUS.STOP_CAUSE p = 0 ∧ (s.singlePart p).rd R.PRT_STATUS.PENDING p = 0 := by
  unfold State.singlePart
  extract_lets s1
  have hmembers : s1.members p = s.members p := State.members_of_res (fun g hg d =>
    (State.rd_wr_apart (Fld.prt_apart_res rfl hg) p d 0).trans ((State.rd_wr_apart (Fld.prt_apart_res rfl hg) p d 0).trans
      (State.setState_rd_apart (Fld.prt_apart_res rfl hg) p 4 d))) p
  refine ⟨fun m hm => ⟨?_, ?_⟩, ?_, ?_⟩
  · rw [State.pstate, State.rd_of_regs (State.modParts_regs _)]
    exact (State.rd_wr_apart (by decide) p m 0).trans ((State.rd_wr_apart (by decide) p m 0).trans
      (State.setState_member hm 4))
  · exact State.modParts_part (P := fun x => x.single = true ∧ x.inCycle = true ∧ x.step = 0 ∧ x.locked = true)
      (fun _ _ => ⟨rfl, rfl, rfl, rfl⟩) (hmembers.symm ▸ hm)
  · rw [State.rd_of_regs (State.modParts_regs _)]
    exact (State.rd_wr_apart (by decide) p p 0).trans (State.rd_wr_self _ _ _)
  · rw [State.rd_of_regs (State.modParts_regs _)]
    exact State.rd_wr_self _ _ _

/-! ## STOP (R87, R103) -/

/-- A group that enters Stopped: STATE of every member, the cause and the interrupt; no release stays pending. -/
theorem State.enterStopped_effect (l cause : Nat) :
    (∀ m ∈ s.members l, (s.enterStopped l cause).pstate m = 5) ∧
    (s.enterStopped l cause).rd R.PRT_STATUS.STOP_CAUSE l = cause % 8 ∧
    (s.enterStopped l cause).rd (intBit .prt 3) l = 1 ∧ (s.enterStopped l cause).rd R.PRT_STATUS.PENDING l = 0 := by
  unfold State.enterStopped
  refine ⟨fun m hm => ?_, ?_, State.raise_self _ _ _, ?_⟩
  · rw [State.pstate, State.raise_rd _ _ _ rfl, State.modPart_rd, State.rd_wr_apart (by decide),
      State.rd_wr_apart (by decide), State.rd_wr_apart (by decide)]
    exact State.setState_member hm 5
  · rw [State.raise_rd _ _ _ rfl, State.modPart_rd, State.rd_wr_apart (by decide), State.rd_wr_apart (by decide)]
    exact State.rd_wr_self _ _ _
  · rw [State.raise_rd _ _ _ rfl, State.modPart_rd]
    exact State.rd_wr_self _ _ _

/-- STOP outside a started cascade: at once in Armed and between cycles, else at the end of the cycle. -/
theorem State.stopPart_effect {p : Nat} (hst : s.pstate p = 3 ∨ s.pstate p = 4)
    (hunit : s.inUnit p = false ∨ s.cas.started = false) :
    (if s.pstate p = 3 ∨ (s.part p).inCycle = false then
      (∀ m ∈ s.members p, (s.stopPart p).pstate m = 5) ∧ (s.stopPart p).rd R.PRT_STATUS.STOP_CAUSE p = 1 ∧
        (s.stopPart p).rd (intBit .prt 3) p = 1
    else (s.stopPart p).rd R.PRT_STATUS.STOP_REQ p = 1 ∧ (s.stopPart p).pstate p = 4) ∧
    (s.stopPart p).rd R.PRT_STATUS.PENDING p = 0 := by
  have halone : ¬(s.inUnit p && s.cas.started) = true := by rcases hunit with h | h <;> simp [h]
  rw [State.stopPart, if_neg halone]
  by_cases hnow : s.pstate p = 3 ∨ (s.part p).inCycle = false
  · obtain ⟨hstate, hcause, hint, hpend⟩ := State.enterStopped_effect (s := s) p 1
    have hidle : ∀ g : Fld, g.page = .prt → R.PRT_STATUS.WAIT_LOCK.apart g = true → ∀ d,
        (((s.enterStopped p 1).wr R.PRT_STATUS.WAIT_LOCK p 0).unitIdle).rd g d = (s.enterStopped p 1).rd g d :=
      fun g hg hwait d => (State.unitIdle_rd hg d).trans (State.rd_wr_apart hwait p d 0)
    rw [if_pos hnow, if_pos (by simpa using hnow)]
    exact ⟨⟨fun m hm => (hidle _ rfl (by decide) m).trans (hstate m hm), (hidle _ rfl (by decide) p).trans hcause,
      (hidle _ rfl (by decide) p).trans hint⟩, (hidle _ rfl (by decide) p).trans hpend⟩
  · rw [if_neg hnow, if_neg (by simpa using hnow)]
    have hrunning : s.pstate p = 4 := hst.resolve_left (fun h => hnow (.inl h))
    exact ⟨⟨(State.rd_wr_apart (by decide) p p 0).trans (State.rd_wr_self _ _ _),
      (State.rd_wr_apart (by decide) p p 0).trans ((State.rd_wr_apart (by decide) p p 1).trans hrunning)⟩,
      State.rd_wr_self _ _ _⟩

/-! ## RESUME (R103, R114) -/

/-- RESUME: every member of a Frozen group returns to the state that the group held before the freeze. -/
theorem State.unfreeze_effect {p : Nat} (hst : s.pstate p = 6) {m : Nat} (hm : m ∈ s.members p) :
    (s.unfreeze p).pstate m = (s.part p).frozenFrom % 16 := by
  have hbreak : ((s.setState p (s.part p).frozenFrom).timeBreak p).pstate m = (s.part p).frozenFrom % 16 :=
    (State.timeBreak_rd_apart (by decide) (by decide) (by decide) p m).trans (State.setState_member hm _)
  rw [State.unfreeze, if_pos hst]
  extract_lets s1
  split
  · rw [State.pstate, State.unitIdle_rd rfl, State.raise_rd _ _ _ rfl]
    exact hbreak
  · exact hbreak

/-! ## The statement -/

/-- Settles O9: each command passes its state check, and START, SINGLE, STOP and RESUME set STATE of every member and what a
member keeps of its cycle. -/
theorem partitionRuns : Obligations.PartitionRuns := by
  unfold Obligations.PartitionRuns
  refine ⟨?start, ?single, ?stop, ?resume⟩
  case start =>
    intro a p s h hu hb hf hst he hsrc ht hw hg
    refine ⟨_, exec_start h hu, ?_⟩
    rw [State.perform_start hb hf hst he hsrc ht hw hg]
    obtain ⟨hmembers, hcause, hwait⟩ := State.startPart_effect (s := s) p.val
    exact ⟨hmembers, hcause, hwait,
      State.respond_sent ((State.startPart_keeps (M := 146366987890885632) rfl (Keeps.refl _ s)).same .out rfl) a⟩
  case single =>
    intro a p s h hu hb hf hst he hw
    refine ⟨_, exec_single h hu, ?_⟩
    rw [State.perform_single hb hf hst he hw]
    obtain ⟨hmembers, hcause, hpend⟩ := State.singlePart_effect (s := s) p.val
    exact ⟨hmembers, hcause, hpend,
      State.respond_sent ((State.singlePart_keeps (M := 144115188075856896) rfl (Keeps.refl _ s)).same .out rfl) a⟩
  case stop =>
    intro a p s h hu hb hf hst hunit
    refine ⟨_, exec_stop h hu, ?_⟩
    rw [State.perform_stop hb hf hst]
    exact State.stopPart_effect hst hunit
  case resume =>
    intro a p s h hu hb hf hst
    refine ⟨_, exec_resume h hu, ?_⟩
    rw [State.perform_resume hb hf hst]
    exact fun m hm => State.unfreeze_effect hst hm

end Sys2Proof.Machine

/-! Emulation is halted at tick T and released again, outside a cascade (R108, R491 to R494). -/

namespace Sys2Proof.Machine
open Sys2Proof

variable {s : State}

theorem exec_emulationHalt_written {a : Accessor} (h : s.accessCode a .dbg 0 0x58 true = 0) :
    exec (.emulationHalt (some a)) s = .next (s.decideHalt.respond a true 0) :=
  congrArg Host.Outcome.next (State.access_ok h _)

theorem exec_emulationHalt_tick : exec (.emulationHalt none) s = .next (if s.haltDecided then s.reachT else s) := rfl

theorem exec_emulationRelease_written {a : Accessor} (h : s.accessCode a .dbg 0 0x58 true = 0) :
    exec (.emulationRelease (some a)) s = .next (s.releaseRun a) :=
  congrArg Host.Outcome.next (State.access_ok h _)

theorem exec_emulationRelease_tick : exec (.emulationRelease none) s = .next (if s.releasing then s.restartTick else s) := rfl

/-! ## What leaves EMU (R491) -/

/-- The pending request of a core stands apart from EMU. -/
theorem corePending_apart_emu (m : Nat) : (R.DBG_C_STATUS.PENDING m).apart R.DBG_STATUS.EMU = true :=
  Fld.apart_of (.inl (by simp only [R.DBG_C_STATUS.PENDING, R.DBG_STATUS.EMU]; omega))

theorem State.requestHalt_emu (m cause : Nat) : (s.requestHalt m cause).rd R.DBG_STATUS.EMU 0 = s.rd R.DBG_STATUS.EMU 0 := by
  unfold State.requestHalt
  split
  · rfl
  · exact State.rd_wr_apart (corePending_apart_emu m) 0 0 1

theorem State.withdrawRequests_emu : s.withdrawRequests.rd R.DBG_STATUS.EMU 0 = s.rd R.DBG_STATUS.EMU 0 := by
  refine List.foldlRecOn (motive := fun t : State => t.rd R.DBG_STATUS.EMU 0 = s.rd R.DBG_STATUS.EMU 0) _ _ rfl
    (fun t ht m _ => ?_)
  split
  · exact (State.rd_wr_apart (corePending_apart_emu m) 0 0 0).trans ht
  · exact ht

theorem State.resumeCore_emu (m : Nat) : (s.resumeCore m).rd R.DBG_STATUS.EMU 0 = s.rd R.DBG_STATUS.EMU 0 := by
  unfold State.resumeCore
  extract_lets s1
  have hstatus : s1.rd R.DBG_STATUS.EMU 0 = s.rd R.DBG_STATUS.EMU 0 :=
    (State.rd_wr_apart (Fld.apart_of (.inr (by simp [R.DBG_C_STATUS.HALTED, R.DBG_STATUS.EMU]))) 0 0 0).trans
      (State.rd_wr_apart (by decide) m 0 1)
  have hrest : Keeps 576461853224337409 s1
      ((((s1.modCore m (fun c => { c with haltReq := 0, noHalt := true })).reloadWdt m).raise .mdc m 2).traceResume m) :=
    State.traceResume_keeps rfl (State.raise_keeps rfl (State.reloadWdt_keeps rfl (State.modCore_keeps rfl (Keeps.refl _ s1))))
  exact (hrest.rd_plain rfl rfl 0).trans hstatus

/-- The look for the last core to halt can only take EMU from 1 to 2. -/
theorem State.checkEmuHalted_emu (h : s.rd R.DBG_STATUS.EMU 0 = 1) : s.checkEmuHalted.rd R.DBG_STATUS.EMU 0 ≠ 0 := by
  unfold State.checkEmuHalted
  split
  · rw [State.raise_rd _ _ _ rfl, State.rd_wr_self]
    decide
  · rw [h]
    decide

/-! ## Tick T (R491) -/

/-- A partition at tick T: its stall is suspended, and from Armed or Running it becomes Halted. -/
def State.haltPart (s : State) (p : Nat) : State :=
  let s0 := s.modPart p (suspendStall s.now)
  if s0.pstate p = 3 ∨ s0.pstate p = 4 then
    (s0.modPart p (fun x => { x with haltedFrom := s0.pstate p })).wr R.PRT_STATUS.STATE p 8
  else s0

/-- Tick T: EMU, then the partitions, then the cores' requests and the array clocks. -/
theorem State.reachT_eq : s.reachT =
    ((List.range 16).foldl (fun (s : State) m => s.requestHalt m 4) ((List.range 64).foldl State.haltPart
      { s.wr R.DBG_STATUS.EMU 0 1 with
        haltDecided := false, haltAt := s.now, haltDip := false, haltEdges := [] })).arrayClocks.checkEmuHalted := rfl

theorem State.haltPart_keeps (p : Nat) : Keeps 144115188075856896 s (s.haltPart p) :=
  keeps_ite (State.wr_keeps rfl rfl (State.modPart_keeps rfl (State.modPart_keeps rfl (Keeps.refl _ s))))
    (State.modPart_keeps rfl (Keeps.refl _ s))

theorem State.haltPart_halts {p v : Nat} (h : s.pstate p = v) (hv : v = 3 ∨ v = 4) :
    (s.haltPart p).pstate p = 8 ∧ ((s.haltPart p).part p).haltedFrom = v := by
  unfold State.haltPart
  extract_lets s0
  have hst : s0.pstate p = v := h
  rw [if_pos (by rwa [hst])]
  refine ⟨State.rd_wr_self _ _ _, ?_⟩
  rw [State.part_wr, State.part_modPart]
  exact hst

theorem State.haltPart_other {p q : Nat} (hp : p < 64) (hq : q < 64) (hne : q ≠ p) :
    (s.haltPart q).pstate p = s.pstate p ∧ (s.haltPart q).part p = s.part p := by
  have hchan : q % 256 ≠ p % 256 := by omega
  have hother := State.part_modPart_ne (s := s) (Ne.symm hne) (suspendStall s.now)
  unfold State.haltPart
  extract_lets s0
  split
  · refine ⟨State.rd_wr_chan hchan 8, ?_⟩
    rw [State.part_wr, State.part_modPart_ne (Ne.symm hne)]
    exact hother
  · exact ⟨rfl, hother⟩

/-- At tick T every partition in Armed or Running becomes Halted, with that state kept. -/
theorem State.haltParts_halt {p : Nat} (hp : p < 64) (h : s.pstate p = 3 ∨ s.pstate p = 4) :
    ((List.range 64).foldl State.haltPart s).pstate p = 8 ∧
    (((List.range 64).foldl State.haltPart s).part p).haltedFrom = s.pstate p := by
  refine foldl_once (I := fun t => t.pstate p = s.pstate p)
    (Q := fun t => t.pstate p = 8 ∧ (t.part p).haltedFrom = s.pstate p) List.nodup_range (List.mem_range.mpr hp)
    (fun t ht => State.haltPart_halts ht h) (fun t q hq hne ht => ?_) (fun t q hq hne ht => ?_) rfl
  · exact (State.haltPart_other hp (List.mem_range.mp hq) hne).1.trans ht
  · obtain ⟨hst, hpart⟩ := State.haltPart_other (s := t) hp (List.mem_range.mp hq) hne
    exact ⟨hst.trans ht.1, by rw [hpart]; exact ht.2⟩

/-- Tick T: EMU is set, the halt is no longer awaited, its time is now, and the partitions that ran are Halted. -/
theorem State.reachT_effect : s.reachT.rd R.DBG_STATUS.EMU 0 ≠ 0 ∧ s.reachT.haltDecided = false ∧ s.reachT.haltAt = s.now ∧
    ∀ p < 64, (s.pstate p = 3 ∨ s.pstate p = 4) → s.reachT.pstate p = 8 ∧ (s.reachT.part p).haltedFrom = s.pstate p := by
  rw [State.reachT_eq]
  generalize hs1 : ({ s.wr R.DBG_STATUS.EMU 0 1 with
    haltDecided := false, haltAt := s.now, haltDip := false, haltEdges := [] } : State) = s1
  have hemu1 : s1.rd R.DBG_STATUS.EMU 0 = 1 := hs1 ▸ State.rd_wr_self (s := s) R.DBG_STATUS.EMU 0 1
  have hstate1 : ∀ p, s1.pstate p = s.pstate p := fun p =>
    hs1 ▸ State.rd_wr_apart (s := s) (f := R.DBG_STATUS.EMU) (g := R.PRT_STATUS.STATE) rfl 0 p 1
  have hwait1 : s1.haltDecided = false ∧ s1.haltAt = s.now := hs1 ▸ ⟨rfl, rfl⟩
  have hparts : Keeps 144115188075856896 s1 ((List.range 64).foldl State.haltPart s1) :=
    keeps_foldl (Keeps.refl _ _) (fun t q h => h.trans (State.haltPart_keeps q))
  have hhalts := fun p (hp : p < 64) => State.haltParts_halt (s := s1) hp
  generalize (List.range 64).foldl State.haltPart s1 = s2 at *
  have hrequests : Keeps 36284957458432 s2 ((List.range 16).foldl (fun (s : State) m => s.requestHalt m 4) s2) :=
    keeps_foldl (Keeps.refl _ _) (fun _ _ h => State.requestHalt_keeps rfl h)
  have hemu3 : ((List.range 16).foldl (fun (s : State) m => s.requestHalt m 4) s2).rd R.DBG_STATUS.EMU 0 =
      s2.rd R.DBG_STATUS.EMU 0 :=
    List.foldlRecOn (motive := fun t : State => t.rd R.DBG_STATUS.EMU 0 = s2.rd R.DBG_STATUS.EMU 0) _ _ rfl
      (fun _ ht m _ => (State.requestHalt_emu m 4).trans ht)
  generalize (List.range 16).foldl (fun (s : State) m => s.requestHalt m 4) s2 = s3 at *
  have hclocks : Keeps 288230376151711744 s3 s3.arrayClocks := State.arrayClocks_keeps rfl (Keeps.refl _ s3)
  have hlook : Keeps 36284219260929 s3.arrayClocks s3.arrayClocks.checkEmuHalted :=
    State.checkEmuHalted_keeps rfl (Keeps.refl _ _)
  have hdecided := (hlook.same .halts rfl).trans ((hclocks.same .halts rfl).trans ((hrequests.same .halts rfl).trans
    (hparts.same .halts rfl)))
  obtain ⟨_, _, _, hat, _⟩ := Kind.same_trans (hparts.same .debug rfl) (Kind.same_trans (hrequests.same .debug rfl)
    (Kind.same_trans (hclocks.same .debug rfl) (hlook.same .debug rfl)))
  refine ⟨?_, hdecided.trans hwait1.1, hat.trans hwait1.2, fun p hp hst => ?_⟩
  · exact State.checkEmuHalted_emu (((hclocks.rd_plain rfl rfl 0).trans hemu3).trans ((hparts.rd_plain rfl rfl 0).trans hemu1))
  · obtain ⟨hhalted, hfrom⟩ := hhalts p hp ((hstate1 p).symm ▸ hst)
    have hkept : ∀ q, s3.arrayClocks.checkEmuHalted.part q = s2.part q := fun q => by
      rw [State.part, hlook.same .parts rfl, hclocks.same .parts rfl, hrequests.same .parts rfl, State.part]
    refine ⟨?_, by rw [hkept, hfrom, hstate1]⟩
    exact (hlook.rd_plain rfl rfl p).trans ((hclocks.rd_plain rfl rfl p).trans ((hrequests.rd_plain rfl rfl p).trans hhalted))

/-! ## The first restarted tick (R108, R493) -/

/-- The timer and the stall of a partition restart. -/
def State.restarted (s : State) (p : Nat) : State := (s.restartTimer p).modPart p (restartStall s.now)

theorem State.unhaltPart_eq (p : Nat) : s.unhaltPart p =
    if (s.restarted p).pstate p ≠ 8 then s.restarted p
    else if (s.restarted p).dipHolds then
      (((s.restarted p).modPart p (fun x => { x with frozenFrom := x.haltedFrom })).wr R.PRT_STATUS.STATE p 6).raise .prt p 6
    else if ((s.restarted p).part p).haltedFrom = 4 then
      ((s.restarted p).wr R.PRT_STATUS.STATE p ((s.restarted p).part p).haltedFrom).timeBreak p
    else (s.restarted p).wr R.PRT_STATUS.STATE p ((s.restarted p).part p).haltedFrom := rfl

theorem restartStall_haltedFrom (now : Nat) (x : Part) : (restartStall now x).haltedFrom = x.haltedFrom := by
  unfold restartStall
  split <;> rfl

/-- A restart changes no register, and of the partitions' data only this one's, whose state before the halt stays. -/
theorem State.restarted_frame (p : Nat) : (s.restarted p).regs = s.regs ∧ (s.restarted p).haltDip = s.haltDip ∧
    ((s.restarted p).part p).haltedFrom = (s.part p).haltedFrom ∧ ∀ q, q ≠ p → (s.restarted p).part q = s.part q := by
  have htimer : (s.restartTimer p).regs = s.regs ∧ (s.restartTimer p).haltDip = s.haltDip ∧
      ((s.restartTimer p).part p).haltedFrom = (s.part p).haltedFrom ∧
      ∀ q, q ≠ p → (s.restartTimer p).part q = s.part q := by
    unfold State.restartTimer
    split
    · exact ⟨rfl, rfl, by rw [State.part_modPart], fun q hq => State.part_modPart_ne hq _⟩
    · exact ⟨rfl, rfl, by rw [State.part_modPart], fun q hq => State.part_modPart_ne hq _⟩
  obtain ⟨hregs, hdip, hfrom, hother⟩ := htimer
  refine ⟨hregs, hdip, ?_, fun q hq => (State.part_modPart_ne hq _).trans (hother q hq)⟩
  rw [State.restarted, State.part_modPart, restartStall_haltedFrom]
  exact hfrom

/-- With no dip in the halt, a Halted partition returns to the state it was halted from. -/
theorem State.unhaltPart_returns {p v : Nat} (hdip : s.haltDip = false) (h8 : s.pstate p = 8)
    (hfrom : (s.part p).haltedFrom = v) (hv : v = 3 ∨ v = 4) : (s.unhaltPart p).pstate p = v := by
  obtain ⟨hregs, hdip', hfrom', _⟩ := State.restarted_frame (s := s) p
  have hst : (s.restarted p).pstate p = 8 := (State.rd_of_regs hregs _ _).trans h8
  have hno : ¬(s.restarted p).dipHolds = true := by simp [State.dipHolds, hdip', hdip]
  have hback : ((s.restarted p).wr R.PRT_STATUS.STATE p v).rd R.PRT_STATUS.STATE p = v := by
    rw [State.rd_wr_self]
    rcases hv with rfl | rfl <;> rfl
  rw [State.unhaltPart_eq, if_neg (fun h => h hst), if_neg hno, hfrom', hfrom]
  split
  · exact (State.timeBreak_rd_apart (by decide) (by decide) (by decide) p p).trans hback
  · exact hback

theorem State.unhaltPart_other {p q : Nat} (hp : p < 64) (hq : q < 64) (hne : q ≠ p) :
    (s.unhaltPart q).pstate p = s.pstate p ∧ (s.unhaltPart q).part p = s.part p := by
  have hchan : q % 256 ≠ p % 256 := by omega
  obtain ⟨hregs, _, _, hother⟩ := State.restarted_frame (s := s) q
  have hst : (s.restarted q).rd R.PRT_STATUS.STATE p = s.pstate p := State.rd_of_regs hregs _ _
  have hpart := hother p (Ne.symm hne)
  rw [State.unhaltPart_eq, State.pstate]
  split
  · exact ⟨hst, hpart⟩
  · split
    · refine ⟨?_, ?_⟩
      · rw [State.raise_rd _ _ _ rfl]
        exact (State.rd_wr_chan hchan 6).trans hst
      · rw [State.part, State.raise_parts, State.wr_parts, ← hpart]
        exact State.part_modPart_ne (Ne.symm hne) _
    · split
      · refine ⟨?_, ?_⟩
        · rw [State.timeBreak_rd_apart (by decide) (by decide) (by decide)]
          exact (State.rd_wr_chan hchan _).trans hst
        · rw [State.part, State.timeBreak_parts]
          exact hpart
      · exact ⟨(State.rd_wr_chan hchan _).trans hst, hpart⟩

/-- With no dip in the halt, every Halted partition returns to Armed or Running. -/
theorem State.unhaltParts_return {p : Nat} (hp : p < 64) (hdip : s.haltDip = false) (h8 : s.pstate p = 8)
    (hv : (s.part p).haltedFrom = 3 ∨ (s.part p).haltedFrom = 4) :
    ((List.range 64).foldl State.unhaltPart s).pstate p = (s.part p).haltedFrom := by
  refine foldl_once (I := fun t => t.haltDip = false ∧ t.pstate p = 8 ∧ (t.part p).haltedFrom = (s.part p).haltedFrom)
    (Q := fun t => t.pstate p = (s.part p).haltedFrom) List.nodup_range (List.mem_range.mpr hp)
    (fun t ⟨hd, hs, hf⟩ => State.unhaltPart_returns hd hs hf hv) (fun t q hq hne ⟨hd, hs, hf⟩ => ?_)
    (fun t q hq hne ht => (State.unhaltPart_other hp (List.mem_range.mp hq) hne).1.trans ht) ⟨hdip, h8, rfl⟩
  obtain ⟨hst, hpart⟩ := State.unhaltPart_other (s := t) hp (List.mem_range.mp hq) hne
  obtain ⟨_, _, _, _, _, hdip', _⟩ :=
    (State.unhaltPart_keeps (M := 144116287923028993) (a1 := q) rfl (Keeps.refl _ t)).same .debug rfl
  exact ⟨hdip'.trans hd, hst.trans hs, by rw [hpart]; exact hf⟩

/-- An edge that is taken leaves a RELEASE as it was. -/
theorem doReleaseLineEdge_releasing (l : Nat) (rising : Bool) : (doReleaseLineEdge l rising s).releasing = s.releasing := by
  unfold doReleaseLineEdge
  split
  · rfl
  · split
    · rfl
    · extract_lets s1
      have h1 : s1.releasing = s.releasing := by
        refine List.foldlRecOn (motive := fun t : State => t.releasing = s.releasing) _ _ rfl (fun t ht q _ => ?_)
        split
        · exact ht
        · exact ht
      split
      · obtain ⟨_, _, _, _, hrel, _⟩ :=
          (State.issueOrder_keeps (M := 1048577) (a1 := .release) (a2 := s1.rd R.CAS_LEAD.TICKS 0 + 2) (a3 := 0) rfl
            (Keeps.refl _ s1)).same .debug rfl
        exact hrel.trans h1
      · exact h1

/-- A Halted core with CAUSE 4 resumes. -/
def State.resumeHalted (s : State) (m : Nat) : State :=
  if s.rd R.MDC_STATUS.STATE m == 3 && s.rd (R.DBG_C_STATUS.CAUSE m) 0 == 4 then s.resumeCore m else s

theorem State.resumeHalted_emu (m : Nat) : (s.resumeHalted m).rd R.DBG_STATUS.EMU 0 = s.rd R.DBG_STATUS.EMU 0 := by
  unfold State.resumeHalted
  split
  · exact State.resumeCore_emu m
  · rfl

/-- The edges of the halt are taken, the array clocks follow, and EMU_RELEASED is raised. -/
def State.restartLines (s : State) : State :=
  let s4 := s.haltEdges.foldl (fun s e => doReleaseLineEdge e.1 e.2 s) { s with haltDip := false }
  ({ s4 with haltEdges := [] }.arrayClocks).raise .dbg 0 1

theorem State.restartTick_eq : s.restartTick = ((List.range 16).foldl State.resumeHalted
    ((List.range 64).foldl State.unhaltPart { s.wr R.DBG_STATUS.EMU 0 0 with releasing := false })).restartLines := rfl

theorem State.restartLines_effect : s.restartLines.releasing = s.releasing ∧ s.restartLines.rd (intBit .dbg 1) 0 = 1 ∧
    ∀ g : Fld, errorReg (g.off % 4096) = false → g.page ≠ .dmb → ∀ d, s.restartLines.rd g d = s.rd g d := by
  unfold State.restartLines
  extract_lets s4
  have hedges : s4.releasing = s.releasing ∧ ∀ (g : Fld) (d : Nat), s4.rd g d = s.rd g d := by
    refine List.foldlRecOn
      (motive := fun t : State => t.releasing = s.releasing ∧ ∀ (g : Fld) (d : Nat), t.rd g d = s.rd g d) _ _ ⟨rfl, fun _ _ => rfl⟩ (fun t ht e _ => ⟨(doReleaseLineEdge_releasing _ _).trans ht.1, fun g d => ?_⟩)
    refine ((doReleaseLineEdge_keeps (M := 68720526337) rfl (Keeps.refl _ t)).rd_any ?_ rfl d).trans (ht.2 g d)
    cases g.page <;> rfl
  have hclocks : Keeps 288230376151711744 { s4 with haltEdges := [] } ({ s4 with haltEdges := [] } : State).arrayClocks :=
    State.arrayClocks_keeps rfl (Keeps.refl _ _)
  obtain ⟨_, _, _, _, hrel, _⟩ := hclocks.same .debug rfl
  refine ⟨(State.raise_releasing ..).trans (hrel.trans hedges.1), State.raise_self _ _ _, fun g he hpage d => ?_⟩
  rw [State.raise_rd _ _ _ he, ← hedges.2]
  refine hclocks.rd_plain ?_ he d
  cases e : g.page with
  | dmb => exact absurd e hpage
  | _ => rfl

/-- The first restarted tick: EMU is 0, the RELEASE is done and signalled, and the partitions return. -/
theorem State.restartTick_effect : s.restartTick.rd R.DBG_STATUS.EMU 0 = 0 ∧ s.restartTick.releasing = false ∧
    s.restartTick.rd (intBit .dbg 1) 0 = 1 ∧
    ∀ p < 64, s.haltDip = false → s.pstate p = 8 → ((s.part p).haltedFrom = 3 ∨ (s.part p).haltedFrom = 4) →
      s.restartTick.pstate p = (s.part p).haltedFrom := by
  rw [State.restartTick_eq]
  generalize hs1 : ({ s.wr R.DBG_STATUS.EMU 0 0 with releasing := false } : State) = s1
  have hemu1 : s1.rd R.DBG_STATUS.EMU 0 = 0 := hs1 ▸ State.rd_wr_self (s := s) R.DBG_STATUS.EMU 0 0
  have hstate1 : ∀ p, s1.pstate p = s.pstate p := fun p =>
    hs1 ▸ State.rd_wr_apart (s := s) (f := R.DBG_STATUS.EMU) (g := R.PRT_STATUS.STATE) rfl 0 p 0
  have hrest1 : s1.releasing = false ∧ s1.haltDip = s.haltDip ∧ ∀ p, s1.part p = s.part p := hs1 ▸ ⟨rfl, rfl, fun _ => rfl⟩
  have hparts : Keeps 144116287923028993 s1 ((List.range 64).foldl State.unhaltPart s1) :=
    keeps_foldl (Keeps.refl _ _) (fun _ _ h => State.unhaltPart_keeps rfl h)
  have hreturn := fun p (hp : p < 64) => State.unhaltParts_return (s := s1) hp
  generalize (List.range 64).foldl State.unhaltPart s1 = s2 at *
  have hcores : Keeps 576497037596426241 s2 ((List.range 16).foldl State.resumeHalted s2) :=
    keeps_foldl (Keeps.refl _ _) (fun _ _ h => keeps_ite (State.resumeCore_keeps rfl h) h)
  have hemu3 : ((List.range 16).foldl State.resumeHalted s2).rd R.DBG_STATUS.EMU 0 = s2.rd R.DBG_STATUS.EMU 0 :=
    List.foldlRecOn (motive := fun t : State => t.rd R.DBG_STATUS.EMU 0 = s2.rd R.DBG_STATUS.EMU 0) _ _ rfl
      (fun _ ht m _ => (State.resumeHalted_emu m).trans ht)
  generalize (List.range 16).foldl State.resumeHalted s2 = s3 at *
  obtain ⟨hrel, hint, hrd⟩ := State.restartLines_effect (s := s3)
  obtain ⟨_, _, _, _, hrel3, _⟩ := Kind.same_trans (hparts.same .debug rfl) (hcores.same .debug rfl)
  refine ⟨?_, hrel.trans (hrel3.trans hrest1.1), hint, fun p hp hdip h8 hv => ?_⟩
  · rw [hrd _ rfl (by decide), hemu3, hparts.rd_plain rfl rfl, hemu1]
  · have hback := hreturn p hp (hrest1.2.1.trans hdip) ((hstate1 p).trans h8) (by rwa [hrest1.2.2])
    rw [State.pstate, hrd _ rfl (by decide), hcores.rd_plain rfl rfl]
    exact hback.trans (congrArg Part.haltedFrom (hrest1.2.2 p))

/-! ## HALT and RELEASE written to `DBG_RUN` (R491, R493) -/

theorem State.decideHalt_decides (hu : s.rd R.CAS_STATUS.UNIT_STATE 0 = 0) (he : s.rd R.DBG_STATUS.EMU 0 = 0) :
    s.decideHalt = { s.wr R.DBG_STATUS.EMU 0 1 with haltDecided := true } := by
  rw [State.decideHalt, if_neg (fun h => h he), if_neg (fun h => h hu)]

theorem State.releaseRun_refused (he : s.rd R.DBG_STATUS.EMU 0 = 0) (a : Accessor) :
    s.releaseRun a = s.refuseWrite a .dbg 0 0x58 5 := by
  rw [State.releaseRun, if_pos he]

theorem State.releaseRun_withdraws (hu : s.rd R.CAS_STATUS.UNIT_STATE 0 = 0) (he : s.rd R.DBG_STATUS.EMU 0 ≠ 0)
    (hd : s.haltDecided = true) (a : Accessor) : s.releaseRun a = s.withdrawHalt.respond a true 0 := by
  rw [State.releaseRun, if_neg he, if_neg (fun h => h hu), if_pos hd]

theorem State.releaseRun_records (hu : s.rd R.CAS_STATUS.UNIT_STATE 0 = 0) (he : s.rd R.DBG_STATUS.EMU 0 ≠ 0)
    (hd : s.haltDecided = false) (a : Accessor) :
    s.releaseRun a = ({ s.withdrawRequests with releasing := true } : State).respond a true 0 := by
  rw [State.releaseRun, if_neg he, if_neg (fun h => h hu), if_neg (by simp [hd])]

/-- A halt that is withdrawn before T leaves the partitions as they were. -/
theorem State.withdrawHalt_effect : s.withdrawHalt.rd R.DBG_STATUS.EMU 0 = 0 ∧ s.withdrawHalt.haltDecided = false ∧
    s.withdrawHalt.rd (intBit .dbg 1) 0 = 1 ∧ s.withdrawHalt.parts = s.parts := by
  unfold State.withdrawHalt
  refine ⟨?_, State.raise_haltDecided .., State.raise_self _ _ _, State.raise_parts ..⟩
  rw [State.raise_rd _ _ _ rfl]
  exact State.rd_wr_self (s := s) R.DBG_STATUS.EMU 0 0

/-- Settles O55: a HALT is decided and takes effect at tick T, and a RELEASE is refused, withdraws the halt, or is recorded until
the first restarted tick. -/
theorem emulationHaltsAndResumes : Obligations.EmulationHaltsAndResumes := by
  unfold Obligations.EmulationHaltsAndResumes
  refine ⟨fun a s h hu => ⟨fun he => ⟨?halt, ?refused⟩, fun he => ⟨fun hd => ?withdrawn, fun hd => ?recorded⟩⟩,
    fun s => ⟨fun hd => ?tick, fun hd => ?noHalt, fun hr => ?restart, fun hr => ?noRelease⟩⟩
  case halt =>
    refine ⟨_, exec_emulationHalt_written h, ?_⟩
    rw [State.decideHalt_decides hu he]
    exact ⟨State.rd_wr_self (s := s) R.DBG_STATUS.EMU 0 1, rfl, rfl, rfl, rfl⟩
  case refused =>
    refine ⟨_, exec_emulationRelease_written h, ?_⟩
    rw [State.releaseRun_refused he]
    exact ⟨State.err_valid _ _ _ _ _, (State.errReg_rd _ _ _ _ _ rfl _).trans he, State.errReg_releasing ..⟩
  case withdrawn =>
    refine ⟨_, exec_emulationRelease_written h, ?_⟩
    rw [State.releaseRun_withdraws hu he hd]
    exact State.withdrawHalt_effect
  case recorded =>
    refine ⟨_, exec_emulationRelease_written h, ?_⟩
    rw [State.releaseRun_records hu he hd]
    have hkeeps := State.withdrawRequests_keeps (M := 36284957458432) rfl (Keeps.refl _ s)
    have hemu := State.withdrawRequests_emu (s := s)
    generalize s.withdrawRequests = u at *
    exact ⟨rfl, hemu, hkeeps.same .parts rfl,
      State.respond_sent (t := { u with releasing := true }) (hkeeps.same .out rfl) a⟩
  case tick =>
    refine ⟨_, exec_emulationHalt_tick, ?_⟩
    rw [if_pos hd]
    exact State.reachT_effect
  case noHalt => rw [exec_emulationHalt_tick, hd, if_neg (by decide)]
  case restart =>
    refine ⟨_, exec_emulationRelease_tick, ?_⟩
    rw [if_pos hr]
    exact State.restartTick_effect
  case noRelease => rw [exec_emulationRelease_tick, hr, if_neg (by decide)]

end Sys2Proof.Machine

/-! The background tester saves and restores a region (R148 to R150), the journal keeps what a write replaces, and a restore
brings it back (R155 to R157). -/

namespace Sys2Proof.Machine
open Sys2Proof

variable {s t : State}

/-! ## What the words of a bank rest on -/

theorem State.arrayWord_congr {b : Nat} (hdmem : t.dmem = s.dmem) (hhealth : t.health = s.health)
    (hspare : ∀ row, t.spareFor b row = s.spareFor b row) (w : Nat) : t.arrayWord b w = s.arrayWord b w := by
  simp only [State.arrayWord, State.ecc, State.physWord, hspare, hdmem, hhealth]

theorem State.bankWord_congr {b : Nat} (htester : (t.bank b).tester = (s.bank b).tester) (hdmem : t.dmem = s.dmem)
    (hhealth : t.health = s.health) (hspare : ∀ row, t.spareFor b row = s.spareFor b row) (w : Nat) :
    t.bankWord b w = s.bankWord b w := by
  have hheld : t.heldRead b w = s.heldRead b w := by rw [State.heldRead, State.heldRead, htester]
  rw [State.bankWord, State.bankWord, hheld, htester, State.arrayWord_congr hdmem hhealth hspare]

/-- What a bank keeps beside its words and its tester is no part of what an access reads. -/
theorem State.bankWord_modBank {b : Nat} {f : Bank → Bank} (hf : ∀ k, (f k).tester = k.tester) (w : Nat) :
    (s.modBank b f).bankWord b w = s.bankWord b w := (State.modBank_kept hf).bankWord b w

/-- The count of journal entries redirects no row. -/
theorem State.spareFor_wr_journalCount (c v b row : Nat) :
    (s.wr R.DMB_JOURNAL_COUNT.ENTRIES c v).spareFor b row = s.spareFor b row := by
  have hrepair : ∀ k < 16, R.DMB_JOURNAL_COUNT.ENTRIES.apart (R.DMB_REPAIR.VALID k) = true ∧
      R.DMB_JOURNAL_COUNT.ENTRIES.apart (R.DMB_REPAIR.ROW k) = true := by decide
  refine List.find?_congr fun k hk => ?_
  obtain ⟨hvalid, hrow⟩ := hrepair k (List.mem_range.mp hk)
  rw [State.on, State.on, State.rd_wr_apart hvalid, State.rd_wr_apart hrow]

theorem State.bankWord_wr_journalCount (c v b w : Nat) :
    (s.wr R.DMB_JOURNAL_COUNT.ENTRIES c v).bankWord b w = s.bankWord b w :=
  State.bankWord_congr (s := s) (t := s.wr _ c v) rfl rfl rfl (State.spareFor_wr_journalCount c v b) w

/-- A word that is stored changes the tester of its bank alone. -/
theorem State.setBankWord_bank (b w : Nat) (v : W128) (e : Nat) :
    ∃ x, (s.setBankWord b w v e).bank b = { s.bank b with tester := x } := by
  have harray : (if s.arrayWrite b w then s.setArray b w v e else s).bank b = s.bank b := by split <;> rfl
  rw [State.setBankWord_eq]
  split
  · rw [State.bank_modBank, harray]
    exact ⟨_, rfl⟩
  · exact ⟨_, harray⟩

/-! ## The background tester (R148 to R150) -/

theorem exec_testerOperation (b : Fin 64) (fails : Bool) :
    exec (.testerOperation b fails) s = .next (doTesterOperation b.val fails s) := rfl

/-- Outside phase 5 no row is passed over. -/
theorem skipUsed_outside {b : Nat} (h : (s.bank b).tester.phase ≠ 5) (n : Nat) : skipUsed b s n = s := by
  cases n with
  | zero => rfl
  | succ n => exact if_neg fun hc => h hc.1

/-- A tester that is saving, marching, restoring or repairing performs one operation of its phase. -/
theorem doTesterOperation_running {b : Nat} (hslot : s.slotTaken b true = false) (h0 : (s.bank b).tester.phase ≠ 0)
    (h5 : (s.bank b).tester.phase ≠ 5) (fails : Bool) : doTesterOperation b fails s = testOp b fails s := by
  rw [doTesterOperation, if_neg (by simp [hslot]), if_neg h0, testerRun, skipUsed_outside h5]
  exact if_neg fun hc => h5 hc.1

/-- Save takes a word of the region into the holding buffer with its check state (R148, R150). -/
theorem testOp_saves {b : Nat} (hphase : (s.bank b).tester.phase = 1) (hpos : (s.bank b).tester.pos < 63) (fails : Bool) :
    testOp b fails s = (s.modBank b (fun k => k.held (s.bank b).tester.pos
      (s.arrayWord b ((s.bank b).tester.region * 64 + (s.bank b).tester.pos)).1
      (s.arrayWord b ((s.bank b).tester.region * 64 + (s.bank b).tester.pos)).2)).testNext b := by
  rw [testOp]
  dsimp only
  rw [hphase]
  exact if_neg (by omega)

/-- Restore writes the array from the holding buffer (R148, R150). -/
theorem testOp_restores {b : Nat} (hphase : (s.bank b).tester.phase = 3) (hpos : (s.bank b).tester.pos < 63) (fails : Bool) :
    testOp b fails s = (s.setArray b ((s.bank b).tester.region * 64 + (s.bank b).tester.pos)
      (SMap.get 0 (s.bank b).tester.held (s.bank b).tester.pos)
      (SMap.get 0 (s.bank b).tester.heldEcc (s.bank b).tester.pos)).testNext b := by
  rw [testOp]
  dsimp only
  rw [hphase]
  exact if_neg (by omega)

/-- The tester goes on to its next operation: nothing but its operation number moves. -/
theorem State.testNext_bank (b : Nat) : (s.testNext b).bank b =
    { s.bank b with tester := { (s.bank b).tester with pos := (s.bank b).tester.pos + 1 } } := State.bank_modBank b _

theorem State.testNext_arrayWord (b w : Nat) : (s.testNext b).arrayWord b w = s.arrayWord b w :=
  State.arrayWord_congr rfl rfl (fun _ => rfl) w

/-! ## A journal write (R155, R156) -/

theorem exec_journalWrite (b : Fin 64) : exec (.journalWrite b) s = .next (doJournalWrite b.val s) := rfl

/-- The journal with the oldest waiting pre-image as its next entry, which is then counted. -/
def State.journalStored (s : State) (b : Nat) (v : W128) (e k : Nat) (rest : List (W128 × Nat × Nat)) : State :=
  ((s.setBankWord b (s.journalWord b (s.rd R.DMB_JOURNAL_COUNT.ENTRIES b)) v e).modBank b (fun x => { x with
    jwrites := rest, journal := SMap.set 0 x.journal (s.rd R.DMB_JOURNAL_COUNT.ENTRIES b) k })).wr
      R.DMB_JOURNAL_COUNT.ENTRIES b (s.rd R.DMB_JOURNAL_COUNT.ENTRIES b + 1)

theorem State.journalStored_bank (b : Nat) (v : W128) (e k : Nat) (rest : List (W128 × Nat × Nat)) :
    ((s.journalStored b v e k rest).bank b).jwrites = rest ∧
      SMap.get 0 ((s.journalStored b v e k rest).bank b).journal (s.rd R.DMB_JOURNAL_COUNT.ENTRIES b) = k := by
  rw [State.journalStored, State.bank, State.wr_banks, ← State.bank, State.bank_modBank]
  exact ⟨rfl, SMap.get_set_self _ _ _ _⟩

/-- The entry reads back as the pre-image, with its check state. -/
theorem State.journalStored_bankWord (b : Nat) (v : W128) (e k : Nat) (rest : List (W128 × Nat × Nat)) :
    (s.journalStored b v e k rest).bankWord b (s.journalWord b (s.rd R.DMB_JOURNAL_COUNT.ENTRIES b)) = (v, e) := by
  rw [State.journalStored, State.bankWord_wr_journalCount]
  refine (State.bankWord_modBank ?_ _).trans (State.bankWord_setBankWord b _ v e)
  exact fun _ => rfl

/-- A journal that fills changes no bank and no word. -/
theorem State.journalFull_words (b : Nat) : (s.journalFull b).banks = s.banks ∧
    ∀ w, (s.journalFull b).bankWord b w = s.bankWord b w := by
  have hkeeps := State.journalFull_keeps (M := 297256267456446465) (a1 := b) rfl (Keeps.refl _ s)
  have hbanks : (s.journalFull b).banks = s.banks := hkeeps.same .banks rfl
  obtain ⟨hhealth, _⟩ := hkeeps.same .health rfl
  refine ⟨hbanks, fun w => State.bankWord_congr (by rw [State.bank, State.bank, hbanks]) (hkeeps.same .dmem rfl) hhealth
    (fun row => State.spareFor_kept (fun g hg d => State.journalFull_fixed hg b d) b row) w⟩

/-- Whether or not the entry fills the journal, the banks, the words and the count are those with the entry stored. -/
theorem doJournalWrite_stores {b : Nat} {v : W128} {e k : Nat} {rest : List (W128 × Nat × Nat)}
    (hj : (s.bank b).jwrites = (v, e, k) :: rest) :
    (doJournalWrite b s).banks = (s.journalStored b v e k rest).banks ∧
      (∀ w, (doJournalWrite b s).bankWord b w = (s.journalStored b v e k rest).bankWord b w) ∧
      (doJournalWrite b s).rd R.DMB_JOURNAL_COUNT.ENTRIES b =
        (s.rd R.DMB_JOURNAL_COUNT.ENTRIES b + 1) % 2 ^ R.DMB_JOURNAL_COUNT.ENTRIES.width := by
  have hcount : (s.journalStored b v e k rest).rd R.DMB_JOURNAL_COUNT.ENTRIES b =
      (s.rd R.DMB_JOURNAL_COUNT.ENTRIES b + 1) % 2 ^ R.DMB_JOURNAL_COUNT.ENTRIES.width := State.rd_wr_self _ _ _
  have hdo : doJournalWrite b s = if (s.journalStored b v e k rest).rd R.DMB_JOURNAL_LIMIT.ENTRIES b ≤
      s.rd R.DMB_JOURNAL_COUNT.ENTRIES b + 1 then (s.journalStored b v e k rest).journalFull b
      else s.journalStored b v e k rest := by
    rw [doJournalWrite, hj]
    rfl
  rw [hdo]
  split
  · obtain ⟨hbanks, hwords⟩ := State.journalFull_words (s := s.journalStored b v e k rest) b
    exact ⟨hbanks, hwords, (State.journalFull_fixed (by decide) b b).trans hcount⟩
  · exact ⟨rfl, fun _ => rfl, hcount⟩

/-! ## A journal restore (R157) -/

theorem exec_journalRestore (b : Fin 64) : exec (.journalRestore b) s = .next (doJournalRestore b.val s) := rfl

/-- The word that journal entry n stands for holds its pre-image again. -/
def State.entryRestored (s : State) (b n : Nat) : State :=
  s.setBankWord b (SMap.get 0 (s.bank b).journal n) (s.bankWord b (s.journalWord b n)).1 (s.bankWord b (s.journalWord b n)).2

theorem State.entryRestored_bankWord (b n : Nat) :
    (s.entryRestored b n).bankWord b (SMap.get 0 (s.bank b).journal n) = s.bankWord b (s.journalWord b n) :=
  State.bankWord_setBankWord b _ _ _

section Restore
variable {b : Nat} (hfull : s.on R.DMB_STATUS.JOURNAL_FULL b = false)
include hfull

/-- The oldest entry is the last one written back. -/
theorem doJournalRestore_last (hat : (s.bank b).restoreAt = some 1) : doJournalRestore b s =
    ((s.entryRestored b 0).wr R.DMB_JOURNAL_COUNT.ENTRIES b 0).modBank b (fun k => { k with restoreAt := none }) := by
  rw [doJournalRestore, if_neg (by simp [hfull]), hat]
  rfl

theorem doJournalRestore_more {n : Nat} (hat : (s.bank b).restoreAt = some (n + 2)) : doJournalRestore b s =
    (s.entryRestored b (n + 1)).modBank b (fun k => { k with restoreAt := some (n + 1) }) := by
  rw [doJournalRestore, if_neg (by simp [hfull]), hat]
  rfl

end Restore

/-! ## The statement -/

/-- Settles O15: Save and Restore by the one word that each of their operations copies, and a journal write and its restore by
the one word that each stores, which neither the count of entries nor a journal that fills changes. -/
theorem testerAndJournal : Obligations.TesterAndJournal := by
  unfold Obligations.TesterAndJournal
  refine ⟨?save, ?restore, ?write, ?writeBack⟩
  case save =>
    intro b fails s hphase hpos hslot
    refine ⟨_, exec_testerOperation b fails, ?_⟩
    rw [doTesterOperation_running hslot (by omega) (by omega), testOp_saves hphase hpos, State.testNext_bank,
      State.bank_modBank]
    exact ⟨rfl, SMap.get_set_self _ _ _ _, rfl⟩
  case restore =>
    intro b fails s hphase hpos hslot
    refine ⟨_, exec_testerOperation b fails, ?_⟩
    rw [doTesterOperation_running hslot (by omega) (by omega), testOp_restores hphase hpos, State.testNext_bank,
      State.testNext_arrayWord]
    exact ⟨rfl, State.arrayWord_setArray _ _ _ _⟩
  case write =>
    intro b v e k rest s hj
    obtain ⟨hbanks, hwords, hcount⟩ := doJournalWrite_stores hj
    obtain ⟨hwaiting, hentry⟩ := State.journalStored_bank (s := s) b.val v e k rest
    refine ⟨_, exec_journalWrite b, ?_⟩
    rw [State.bank, hbanks, ← State.bank, hwords]
    exact ⟨hwaiting, hentry, State.journalStored_bankWord b.val v e k rest, hcount⟩
  case writeBack =>
    intro b n s hfull hat
    refine ⟨_, exec_journalRestore b, ?_⟩
    cases n with
    | zero =>
      have hword : ((s.entryRestored b.val 0).wr R.DMB_JOURNAL_COUNT.ENTRIES b.val 0).bankWord b.val
          (SMap.get 0 (s.bank b.val).journal 0) = s.bankWord b.val (s.journalWord b.val 0) := by
        rw [State.bankWord_wr_journalCount, State.entryRestored_bankWord]
      rw [doJournalRestore_last hfull hat, State.bank_modBank]
      refine ⟨(State.bankWord_modBank ?_ _).trans hword, rfl, fun _ => ?_⟩
      · exact fun _ => rfl
      · rw [State.modBank_rd, State.rd_wr_self, Nat.zero_mod]
    | succ n =>
      rw [doJournalRestore_more hfull hat, State.bank_modBank]
      refine ⟨(State.bankWord_modBank ?_ _).trans (State.entryRestored_bankWord b.val (n + 1)), rfl,
        fun h => absurd h (Nat.succ_ne_zero n)⟩
      exact fun _ => rfl

end Sys2Proof.Machine

/-! The mailbox: what an accepted doorbell write leaves in place for its command, and what each command comes to (R376 to
R380, R468, R485). -/

namespace Sys2Proof.Machine
open Sys2Proof

variable {s t : State}

/-! ## The doorbell (R377) -/

/-- The state in which an accepted command is judged: BUSY is set and DONE cleared, source 186 has been raised, and the
command has no result yet. Irreducible: the lemmas below say what it holds. -/
@[irreducible] def State.rung (s : State) (op seq : Nat) : State :=
  (((s.wr R.HST_MBX_STATUS.BUSY 0 1).wr R.HST_MBX_STATUS.DONE 0 0).irqEvent 186).modControl
    (fun c => { c with cmd := some ⟨op, seq, none, []⟩ })

theorem State.doorbell_accepted {accepted : List Nat} (hb : s.on R.HST_MBX_STATUS.BUSY 0 = false)
    (hf : s.fwState ∈ accepted) (h3 : s.fwState ≠ 3) (a : Accessor) (op seq : Nat) (run : State → State) :
    s.doorbell a op seq accepted run = (run (s.rung op seq)).respond a true 0 := by
  simp only [State.doorbell, hb, beq_eq_false_iff_ne.mpr h3, List.contains_iff_mem.mpr hf, Bool.or_self,
    Bool.false_eq_true, if_false, if_true, State.rung]

theorem State.rung_control (op seq : Nat) :
    (s.rung op seq).control = { s.control with cmd := some ⟨op, seq, none, []⟩ } := by
  simp [State.rung, State.modControl]

theorem State.rung_rd {g : Fld} (hb : R.HST_MBX_STATUS.BUSY.apart g = true) (hd : R.HST_MBX_STATUS.DONE.apart g = true)
    (op seq d : Nat) : (s.rung op seq).rd g d = s.rd g d := by
  rw [State.rung, State.modControl_rd, State.irqEvent_rd, State.rd_wr_apart hd, State.rd_wr_apart hb]

/-- No field of another page than HST_ changes. -/
theorem State.rung_rd_page {g : Fld} (h : g.page ≠ .hst) (op seq d : Nat) : (s.rung op seq).rd g d = s.rd g d :=
  State.rung_rd (Fld.apart_of_page h.symm) (Fld.apart_of_page h.symm) op seq d

theorem State.rung_busy (op seq : Nat) : (s.rung op seq).rd R.HST_MBX_STATUS.BUSY 0 = 1 := by
  rw [State.rung, State.modControl_rd, State.irqEvent_rd, State.rd_wr_apart (by decide), State.rd_wr_self]
  rfl

theorem State.rung_done (op seq : Nat) : (s.rung op seq).rd R.HST_MBX_STATUS.DONE 0 = 0 := by
  rw [State.rung, State.modControl_rd, State.irqEvent_rd, State.rd_wr_self]
  rfl

theorem State.rung_fwState (op seq : Nat) : (s.rung op seq).fwState = s.fwState :=
  State.rung_rd (by decide) (by decide) op seq 0

theorem State.rung_arg {k : Nat} (hk : k < 16) (op seq : Nat) : (s.rung op seq).arg k = s.arg k :=
  have apart : ∀ {f : Fld}, f.off = 0x44 → f.apart (R.HST_MBX_ARG.ARG k) = true := fun hf =>
    Fld.apart_of (.inl (by simp only [hf, R.HST_MBX_ARG.ARG]; omega))
  State.rung_rd (apart rfl) (apart rfl) op seq 0

/-- What of the package's data the state of a partition, of a block or of the unit rests on. -/
theorem State.rung_frame (op seq : Nat) : (s.rung op seq).parts = s.parts ∧ (s.rung op seq).istore = s.istore ∧
    (s.rung op seq).netmap = s.netmap ∧ (s.rung op seq).cas = s.cas := by
  simp [State.rung]

theorem State.rung_awake (op seq : Nat) : (s.rung op seq).awake = s.awake := by
  simp [State.rung]

theorem State.rung_pstate (op seq p : Nat) : (s.rung op seq).pstate p = s.pstate p :=
  State.rung_rd_page (by decide) op seq p

theorem State.rung_part (op seq p : Nat) : (s.rung op seq).part p = s.part p := by
  rw [State.part, (State.rung_frame op seq).1, State.part]

theorem State.rung_loads (op seq p : Nat) : (s.rung op seq).loads p = s.loads p := by
  rw [State.loads, State.rung_pstate, State.rung_part, State.loads]

theorem State.rung_on {f : Fld} (h : f.page ≠ .hst) (op seq d : Nat) : (s.rung op seq).on f d = s.on f d := by
  rw [State.on, State.rung_rd_page h, State.on]

theorem State.rung_isAt (op seq n b st pip : Nat) : (s.rung op seq).isAt n b st pip = s.isAt n b st pip := by
  have hbunch : (s.rung op seq).physBunch n = s.physBunch n := by
    rw [State.physBunch, State.rung_on (by decide), State.rung_rd_page (by decide), State.physBunch]
  have hberry : (s.rung op seq).physBerry n b = s.physBerry n b := by
    rw [State.physBerry, hbunch, State.rung_on (by decide), State.rung_rd_page (by decide), State.physBerry]
  rw [State.isAt, hbunch, hberry, State.isAt]

/-- The image's probe destinations are read from the instruction store at the places that registers of the PRT_ and ORC_
pages give. -/
theorem State.rung_imageProbes (op seq p u : Nat) : (s.rung op seq).imageProbes p u = s.imageProbes p u := by
  obtain ⟨-, histore, -⟩ := State.rung_frame (s := s) op seq
  simp (disch := decide) only [State.imageProbes, State.depth, State.fetch, State.bunches, State.rung_isAt,
    State.rung_rd_page, histore]

theorem State.rung_inUnit (op seq p : Nat) : (s.rung op seq).inUnit p = s.inUnit p := by
  obtain ⟨-, -, hnetmap, -⟩ := State.rung_frame (s := s) op seq
  simp (disch := decide) only [State.inUnit, State.rung_rd_page, hnetmap]

/-- The unit's state follows its ports' states, the tree, the net map and what the cascade logic keeps. -/
theorem State.rung_unitState (op seq : Nat) : (s.rung op seq).unitState = s.unitState := by
  obtain ⟨-, -, hnetmap, hcas⟩ := State.rung_frame (s := s) op seq
  have hport : ∀ n, (s.rung op seq).portState n = s.portState n := fun n => State.rung_rd_page (by nofun) op seq 0
  have hunit : ∀ n, (s.rung op seq).unitPort n = s.unitPort n := fun n => by
    simp (disch := decide) only [State.unitPort, State.treePort, State.netPort, State.on, State.rung_rd_page, hnetmap]
  rw [State.unitState, hcas, State.rung_rd_page (by decide)]
  simp only [hunit, hport]
  rfl

/-- A block is used or not by what the other pages, the partitions and their images hold. -/
theorem State.rung_blockUsed (op seq : Nat) (p : Page) (inst : Nat) :
    (s.rung op seq).blockUsed p inst = s.blockUsed p inst := by
  have hunit : (s.rung op seq).inUnit = s.inUnit := funext (State.rung_inUnit op seq)
  have hdepth : (s.rung op seq).rd (R.HMS_CORE.DEPTH inst) 0 = s.rd (R.HMS_CORE.DEPTH inst) 0 :=
    State.rung_rd_page (by nofun) op seq 0
  have hdispatch : (s.rung op seq).rd (R.HMS_CORE.DISPATCH inst) 0 = s.rd (R.HMS_CORE.DISPATCH inst) 0 :=
    State.rung_rd_page (by nofun) op seq 0
  cases p
  all_goals simp (disch := decide) only [State.blockUsed, State.anyLoaded, State.berthIs, State.window, State.on,
    State.rung_pstate, State.rung_part, State.rung_imageProbes, hunit, hdepth, hdispatch, State.rung_rd_page]

/-! ## The result of a command (R377, R379) -/

@[simp] theorem State.modControl_control (f : Control → Control) : (s.modControl f).control = f s.control := rfl

/-- A result and the answer to the doorbell write change no register and no block. -/
theorem State.answered_rd (a : Accessor) (r : Nat) (rsp : List (Nat × Nat)) (g : Fld) (d : Nat) :
    ((s.mbxResult r rsp).respond a true 0).rd g d = s.rd g d := rfl

theorem State.answered_awake (a : Accessor) (r : Nat) (rsp : List (Nat × Nat)) :
    ((s.mbxResult r rsp).respond a true 0).awake = s.awake := rfl

theorem State.mbxResult_cmd {c : MbxCmd} (h : s.control.cmd = some c) (r : Nat) (rsp : List (Nat × Nat)) :
    (s.mbxResult r rsp).control.cmd = some { c with result := some r, rsp := rsp } := by
  rw [State.mbxResult, State.modControl, h]
  rfl

theorem State.rung_cmd (op seq : Nat) : (s.rung op seq).control.cmd = some ⟨op, seq, none, []⟩ := by
  rw [State.rung_control]

/-- A command that leaves the mailbox as its doorbell write did ends with its result. -/
theorem State.answered_cmd {op seq : Nat} (h : t.control.cmd = (s.rung op seq).control.cmd) (r : Nat)
    (rsp : List (Nat × Nat)) (a : Accessor) :
    ((t.mbxResult r rsp).respond a true 0).control.cmd = some ⟨op, seq, some r, rsp⟩ := by
  rw [State.respond_control, State.mbxResult_cmd (h.trans (State.rung_cmd op seq))]

/-! ## Blocks (R380, R466) -/

theorem mem_insertAsc {x k : Nat} {l : List Nat} : k ∈ insertAsc x l ↔ k = x ∨ k ∈ l := by
  induction l with
  | nil => simp [insertAsc]
  | cons y r ih =>
    unfold insertAsc
    split
    · simp
    · split
      · next e => simp [e]
      · simp only [List.mem_cons, ih]
        tauto

/-- A block that wakes joins the blocks that run; of the rest only registers change. -/
theorem State.wakeBlock_frame (key : Nat) : (s.wakeBlock key).awake = insertAsc key s.awake ∧
    (s.wakeBlock key).control = s.control := by
  unfold State.wakeBlock State.stepPll
  extract_lets s1 s2
  have h2 : s2.awake = insertAsc key s.awake ∧ s2.control = s.control := by
    unfold s2
    split
    · exact ⟨rfl, rfl⟩
    · exact ⟨rfl, rfl⟩
  split
  · exact h2
  · exact h2

/-- A block that is put to sleep leaves the blocks that run; of the rest only registers change. -/
theorem State.sleepBlock_frame (key : Nat) : (s.sleepBlock key).awake = s.awake.filter (fun k => k != key) ∧
    (s.sleepBlock key).control = s.control := by
  unfold State.sleepBlock State.stepPll
  extract_lets s1
  split_ifs
  all_goals exact ⟨rfl, rfl⟩

/-! ## Images of the boot ROM (R376) -/

theorem State.rung_imageResult (op seq : Nat) (l : List W32) (len : Nat) (fetched : Bool) :
    (s.rung op seq).imageResult l len fetched = s.imageResult l len fetched := by
  rw [State.imageResult, State.rung_control, State.imageResult]

/-- Copying a segment changes the control cores' memories alone. -/
theorem Control.copySegment_cmd (c : Control) (l : List W32) (k : Nat) : (c.copySegment l k).cmd = c.cmd :=
  List.foldlRecOn (motive := fun x : Control => x.cmd = c.cmd) _ _ rfl (fun _ hx _ _ => hx)

theorem Control.copySegments_cmd (c : Control) (l : List W32) (ks : List Nat) :
    (ks.foldl (fun c k => c.copySegment l k) c).cmd = c.cmd :=
  List.foldlRecOn (motive := fun x : Control => x.cmd = c.cmd) _ _ rfl
    (fun x hx k _ => (Control.copySegment_cmd x l k).trans hx)

theorem State.sealSegments_control (l : List W32) (copied : Bool) : (s.sealSegments l copied).control = s.control := by
  unfold State.sealSegments
  split
  · exact List.foldlRecOn (motive := fun x : State => x.control = s.control) _ _ rfl (fun _ hx _ _ => hx)
  · rfl

theorem State.takeImage_control (l : List W32) (len : Nat) (fetched : Bool) :
    (s.takeImage l len fetched).control.cmd = s.control.cmd ∧ (s.takeImage l len fetched).control.good =
      if s.imageResult l len fetched = 0 then some (imageOf l) else none := by
  rw [State.takeImage, State.sealSegments_control]
  refine ⟨?_, rfl⟩
  simp only [State.modControl]
  split
  · exact Control.copySegments_cmd _ _ _
  · rfl

/-! ## The start of the firmware (R376, R378) -/

/-- The rollback floor rises to an image's SECURITY_VERSION with a CLASS 3 entry where it lies below it. -/
def State.raiseFloor (s : State) (security : Nat) : State :=
  if s.control.floor < security then
    (s.modControl (fun c => { c with floor := security })).logEvent 0x20 0 3 evFloor security 0
  else s

theorem State.raiseFloor_control (n : Nat) : (s.raiseFloor n).control.floor = max s.control.floor n ∧
    (s.raiseFloor n).control.cmd = s.control.cmd := by
  unfold State.raiseFloor
  split
  · next h =>
    rw [State.logEvent_control]
    exact ⟨(max_eq_right h.le).symm, rfl⟩
  · next h => exact ⟨(max_eq_left (Nat.le_of_not_gt h)).symm, rfl⟩

/-! ## The commands (R378, R380, R468, R485) -/

/-- The version GET_INFO reports: that of the running firmware, and 0 in the boot ROM. -/
def State.infoVersion (s : State) : Nat :=
  match s.control.runs with
  | some i => if s.fwState = 2 then i.version else 0
  | none => 0

theorem State.infoVersion_boot (h : s.fwState = 0) : s.infoVersion = 0 := by
  unfold State.infoVersion
  split
  · rw [if_neg (by omega)]
  · rfl

theorem State.infoVersion_runs {i : FwImage} (h : s.fwState = 2) (hr : s.control.runs = some i) :
    s.infoVersion = i.version := by
  rw [State.infoVersion, hr]
  exact if_pos h

section Accepted

variable {a : Accessor} (ha : s.accessCode a .hst 0 0x40 true = 0) (hb : s.on R.HST_MBX_STATUS.BUSY 0 = false)
include ha hb

/-- An accepted command runs from the state that its doorbell write leaves. -/
theorem State.access_doorbell {accepted : List Nat} (hf : s.fwState ∈ accepted) (h3 : s.fwState ≠ 3) (op seq : Nat)
    (run : State → State) : s.access a .hst 0 0x40 true (fun s => s.doorbell a op seq accepted run) =
      (run (s.rung op seq)).respond a true 0 :=
  (State.access_ok ha _).trans (State.doorbell_accepted hb hf h3 a op seq run)

/-! ### Commands of the boot ROM and of the firmware (FW_STATE 0 or 2) -/

theorem exec_getInfo (hf : s.fwState = 0 ∨ s.fwState = 2) (q : Fin 256) : exec (.getInfo a q) s =
    .next (((s.rung 0x01 q.val).mbxResult resOk [(0, (s.rung 0x01 q.val).infoVersion), (1, s.control.floor % 65536),
      (2, Config.bootVersion.toNat)]).respond a true 0) := by
  have hfloor : (s.rung 0x01 q.val).control.floor = s.control.floor := by rw [State.rung_control]
  rw [← hfloor]
  exact congrArg Host.Outcome.next (State.access_doorbell ha hb (by simpa using hf) (by omega) _ _ _)

theorem exec_echo (hf : s.fwState = 0 ∨ s.fwState = 2) (q : Fin 256) : exec (.echo a q) s =
    .next (((s.rung 0x02 q.val).mbxResult resOk [(0, s.arg 0)]).respond a true 0) := by
  rw [← State.rung_arg (by decide) 0x02 q.val]
  exact congrArg Host.Outcome.next (State.access_doorbell ha hb (by simpa using hf) (by omega) _ _ _)

/-! ### Commands of the firmware (FW_STATE 2) -/

theorem exec_loadImage (hf : s.fwState = 2) (h1 : s.arg 1 % 16 = 0) (hl : s.loads (bitsOf (s.arg 0) 0 6) = true)
    (q : Fin 256) : exec (.loadImage a q) s = .next (((s.rung 0x03 q.val).modControl
      (fun c => { c with img := some { p := bitsOf (s.arg 0) 0 6, arg3 := s.arg 3 } })).respond a true 0) := by
  have harg : ∀ k, k < 16 → (s.rung 0x03 q.val).arg k = s.arg k := fun k hk => State.rung_arg hk _ _
  refine congrArg Host.Outcome.next ((State.access_doorbell ha hb (by simp [hf]) (by omega) _ _ _).trans ?_)
  simp only [harg 0 (by decide), harg 1 (by decide), harg 3 (by decide), State.rung_loads, h1, hl, ne_eq,
    not_true_eq_false, Bool.not_true, Bool.false_eq_true, if_false]

theorem exec_blockEnable (hf : s.fwState = 2)
    (he : blockExists (bitsOf (s.arg 0) 0 8) (bitsOf (s.arg 0) 8 8) = true) (q : Fin 256) :
    exec (.blockEnable a q) s = .next ((((s.rung 0x04 q.val).wakeBlock
      (blockOf (bitsOf (s.arg 0) 0 8) (bitsOf (s.arg 0) 8 8))).mbxResult resOk []).respond a true 0) := by
  refine congrArg Host.Outcome.next ((State.access_doorbell ha hb (by simp [hf]) (by omega) _ _ _).trans ?_)
  simp only [State.rung_arg (show 0 < 16 by decide), he, Bool.not_true, Bool.false_eq_true, if_false]

/-- A block that is used stays awake (R380). -/
theorem exec_blockDisable (hf : s.fwState = 2)
    (he : blockExists (bitsOf (s.arg 0) 0 8) (bitsOf (s.arg 0) 8 8) = true) (q : Fin 256) :
    exec (.blockDisable a q) s = .next ((if s.blockUsed ((Page.ofType (bitsOf (s.arg 0) 0 8)).getD .dev)
        (bitsOf (s.arg 0) 8 8) then (s.rung 0x05 q.val).mbxResult resState []
      else ((s.rung 0x05 q.val).sleepBlock (blockOf (bitsOf (s.arg 0) 0 8) (bitsOf (s.arg 0) 8 8))).mbxResult resOk
        []).respond a true 0) := by
  refine congrArg Host.Outcome.next ((State.access_doorbell ha hb (by simp [hf]) (by omega) _ _ _).trans ?_)
  simp only [State.rung_arg (show 0 < 16 by decide), State.rung_blockUsed, he, Bool.not_true, Bool.false_eq_true,
    if_false]

/-- PROG_MHZ is programmed, and the step clock takes the frequency where its PLL runs (R468). -/
theorem exec_setStepFreq (hf : s.fwState = 2) (hok : freqOk (bitsOf (s.arg 0) 0 12) = true)
    (hp : ∀ p, p < 64 → s.pstate p ≠ 3 ∧ s.pstate p ≠ 4 ∧ s.pstate p ≠ 6 ∧ s.pstate p ≠ 8) (hu : s.unitState = 0)
    (ht : s.on R.PWR_STATUS.THROTTLED 0 = false) (q : Fin 256) : exec (.setStepFreq a q) s =
    .next (((if s.on R.PWR_CLOCKS.STEP_PLL 0
      then ((s.rung 0x20 q.val).wr R.PWR_STEP.PROG_MHZ 0 (bitsOf (s.arg 0) 0 12)).wr R.PWR_STEP.CUR_MHZ 0
        (bitsOf (s.arg 0) 0 12)
      else (s.rung 0x20 q.val).wr R.PWR_STEP.PROG_MHZ 0 (bitsOf (s.arg 0) 0 12)).mbxResult resOk []).respond a true 0) := by
  have hrun : ((List.range 64).any fun p => s.pstate p == 3 || s.pstate p == 4 || s.pstate p == 6 || s.pstate p == 8) =
      false := by
    simp only [List.any_eq_false, List.mem_range]
    intro p hlt
    obtain ⟨h3, h4, h6, h8⟩ := hp p hlt
    simp [h3, h4, h6, h8]
  have hpll : ∀ v, ((s.rung 0x20 q.val).wr R.PWR_STEP.PROG_MHZ 0 v).on R.PWR_CLOCKS.STEP_PLL 0 =
      s.on R.PWR_CLOCKS.STEP_PLL 0 := fun v => by
    rw [State.on, State.rd_wr_apart (by decide), State.rung_rd_page (by decide), State.on]
  refine congrArg Host.Outcome.next ((State.access_doorbell ha hb (by simp [hf]) (by omega) _ _ _).trans ?_)
  simp only [State.rung_arg (show 0 < 16 by decide), State.rung_pstate, State.rung_unitState,
    State.rung_on (show R.PWR_STATUS.THROTTLED.page ≠ .hst by decide), hok, hrun, hu, ht, hpll, bne_self_eq_false,
    Bool.not_true, Bool.or_self, Bool.false_eq_true, if_false]

theorem exec_setStepFreq_refused (hf : s.fwState = 2) (hbad : freqOk (bitsOf (s.arg 0) 0 12) = false) (q : Fin 256) :
    exec (.setStepFreq a q) s = .next (((s.rung 0x20 q.val).mbxResult resArg []).respond a true 0) := by
  refine congrArg Host.Outcome.next ((State.access_doorbell ha hb (by simp [hf]) (by omega) _ _ _).trans ?_)
  simp only [State.rung_arg (show 0 < 16 by decide), hbad, Bool.not_false, if_true]

/-! ### Commands of the boot ROM (FW_STATE 0) -/

theorem exec_fwLoad (hf : s.fwState = 0) (q : Fin 256) (image : List W32) : exec (.fwLoad a q image true) s =
    .next ((((s.rung 0x10 q.val).takeImage (image.take ((s.arg 2 + 3) / 4)) (s.arg 2) true).mbxResult
      (s.imageResult (image.take ((s.arg 2 + 3) / 4)) (s.arg 2) true) []).respond a true 0) := by
  refine congrArg Host.Outcome.next ((State.access_doorbell ha hb (by simp [hf]) (by omega) _ _ _).trans ?_)
  simp only [State.rung_arg (show 2 < 16 by decide), State.rung_imageResult, if_true]

theorem exec_fwStart (hf : s.fwState = 0) {i : FwImage} (hg : s.control.good = some i) (q : Fin 256) :
    exec (.fwStart a q) s = .next ((((((s.rung 0x11 q.val).raiseFloor i.security).wr R.HST_MBX_STATUS.FW_STATE 0
      1).modControl (fun c => { c with runs := some i })).mbxResult resOk []).respond a true 0) := by
  have hgood : (s.rung 0x11 q.val).control.good = some i := by rw [State.rung_control]; exact hg
  refine congrArg Host.Outcome.next ((State.access_doorbell ha hb (by simp [hf]) (by omega) _ _ _).trans ?_)
  rw [hgood]
  rfl

theorem exec_fwStart_refused (hf : s.fwState = 0) (hg : s.control.good = none) (q : Fin 256) :
    exec (.fwStart a q) s = .next (((s.rung 0x11 q.val).mbxResult resState []).respond a true 0) := by
  have hgood : (s.rung 0x11 q.val).control.good = none := by rw [State.rung_control]; exact hg
  refine congrArg Host.Outcome.next ((State.access_doorbell ha hb (by simp [hf]) (by omega) _ _ _).trans ?_)
  rw [hgood]

/-- With the FIFO empty, the boot ROM waits for the first of the words that ARG0 announces. -/
theorem exec_fwLoadDbg (hf : s.fwState = 0) (he : s.control.fifo = []) (hn : s.arg 0 ≠ 0) (q : Fin 256) :
    exec (.fwLoadDbg a q) s = .next (((s.rung 0x40 q.val).modControl
      (fun c => { c with dbgLen := some (s.arg 0), dbgGot := [], good := none })).respond a true 0) := by
  refine congrArg Host.Outcome.next ((State.access_doorbell ha hb (by simp [hf]) (by omega) _ _ _).trans ?_)
  rw [State.rung_arg (by decide)]
  have hwait : ¬ (s.arg 0 + 3) / 4 ≤ 0 := by omega
  simp [State.takeFifo, State.modControl, State.rung_control, he, hwait]

end Accepted

/-- Settles O37: each command runs from the state that its doorbell write leaves, which differs from the state before in the
mailbox's registers, the interrupt's event and the command in hand alone. -/
theorem mailboxCommandsRun : Obligations.MailboxCommandsRun := by
  unfold Obligations.MailboxCommandsRun
  intro a q s ha hb
  refine ⟨fun hf => ⟨?info, ?echo⟩, fun hf => ⟨?load, fun he => ⟨?enable, ?disable, ?used⟩, ?freq, ?freqRefused⟩,
    fun hf => ⟨?fwLoad, ?start, ?startRefused, ?dbg⟩⟩
  case info =>
    refine ⟨_, exec_getInfo ha hb hf q, ?_, ?_, (s.rung 0x01 q.val).infoVersion, State.answered_cmd rfl _ _ a,
      fun h => State.infoVersion_boot ?_, fun i h hr => State.infoVersion_runs ?_ ?_⟩
    · rw [State.answered_rd, State.rung_busy]
    · rw [State.answered_rd, State.rung_done]
    · rw [State.rung_fwState, h]
    · rw [State.rung_fwState, h]
    · rw [State.rung_control]
      exact hr
  case echo =>
    refine ⟨_, exec_echo ha hb hf q, ?_, ?_, State.answered_cmd rfl _ _ a⟩
    · rw [State.answered_rd, State.rung_busy]
    · rw [State.answered_rd, State.rung_done]
  case load =>
    intro h1 hl
    refine ⟨_, exec_loadImage ha hb hf h1 hl q, ?_⟩
    rw [State.respond_control, State.modControl_control, State.rung_control]
    exact ⟨rfl, rfl⟩
  case enable =>
    obtain ⟨hawake, hcontrol⟩ := State.wakeBlock_frame (s := s.rung 0x04 q.val)
      (blockOf (bitsOf (s.arg 0) 0 8) (bitsOf (s.arg 0) 8 8))
    refine ⟨_, exec_blockEnable ha hb hf he q, State.answered_cmd (congrArg Control.cmd hcontrol) _ _ a, ?_⟩
    rw [State.answered_awake, hawake, State.rung_awake]
    exact ⟨mem_insertAsc.mpr (.inl rfl), fun k hk => mem_insertAsc.mpr (.inr hk)⟩
  case disable =>
    intro hu
    obtain ⟨hawake, hcontrol⟩ := State.sleepBlock_frame (s := s.rung 0x05 q.val)
      (blockOf (bitsOf (s.arg 0) 0 8) (bitsOf (s.arg 0) 8 8))
    refine ⟨_, exec_blockDisable ha hb hf he q, ?_⟩
    rw [hu, if_neg Bool.false_ne_true]
    rw [State.answered_awake, hawake, State.rung_awake]
    exact ⟨State.answered_cmd (congrArg Control.cmd hcontrol) _ _ a, rfl⟩
  case used =>
    intro hu
    refine ⟨_, exec_blockDisable ha hb hf he q, ?_⟩
    rw [hu, if_pos rfl]
    rw [State.answered_awake, State.rung_awake]
    exact ⟨State.answered_cmd rfl _ _ a, rfl⟩
  case freq =>
    intro hok hp hu ht
    refine ⟨_, exec_setStepFreq ha hb hf hok hp hu ht q, ?_⟩
    have hlt : ∀ x, bitsOf x 0 12 % 2 ^ 12 = bitsOf x 0 12 := fun x => Nat.mod_mod _ _
    rw [State.answered_rd, State.answered_rd]
    split
    · rw [State.rd_wr_apart (by decide), State.rd_wr_self, State.rd_wr_self]
      exact ⟨State.answered_cmd rfl _ _ a, hlt _, fun _ => hlt _⟩
    · next hpll =>
      rw [State.rd_wr_self]
      exact ⟨State.answered_cmd rfl _ _ a, hlt _, fun h => absurd h hpll⟩
  case freqRefused =>
    intro hbad
    refine ⟨_, exec_setStepFreq_refused ha hb hf hbad q, State.answered_cmd rfl _ _ a, ?_⟩
    rw [State.answered_rd, State.rung_rd_page (by decide)]
  case fwLoad =>
    intro image
    obtain ⟨hcmd, hgood⟩ := State.takeImage_control (s := s.rung 0x10 q.val) (image.take ((s.arg 2 + 3) / 4)) (s.arg 2)
      true
    refine ⟨_, exec_fwLoad ha hb hf q image, State.answered_cmd hcmd _ _ a, hgood.trans ?_⟩
    rw [State.rung_imageResult]
  case start =>
    intro i hg
    obtain ⟨hfloor, hcmd⟩ := State.raiseFloor_control (s := s.rung 0x11 q.val) i.security
    rw [State.rung_control] at hfloor
    refine ⟨_, exec_fwStart ha hb hf hg q, ?_, rfl, hfloor, State.answered_cmd hcmd _ _ a⟩
    rw [State.fwState, State.answered_rd, State.modControl_rd, State.rd_wr_self]
    rfl
  case startRefused =>
    intro hg
    exact ⟨_, exec_fwStart_refused ha hb hf hg q, (State.rung_fwState _ _).trans hf, State.answered_cmd rfl _ _ a⟩
  case dbg =>
    intro he hn
    refine ⟨_, exec_fwLoadDbg ha hb hf he hn q, ?_⟩
    rw [State.respond_control, State.modControl_control, State.rung_control]
    exact ⟨rfl, rfl, rfl, rfl⟩

end Sys2Proof.Machine

/-! What the firmware serves: the lines of an image, the completion of a command, the heartbeat, the watchdogs, and the FIFO
of the debug path (R171 to R176, R377, R381, R382, R485). -/

namespace Sys2Proof.Machine
open Sys2Proof

variable {s : State}

/-! ## The lines of an image (R171 to R175, R184, R379) -/

theorem exec_imageLine (words : List W128) (chk : W128) (ok : Bool) :
    exec (.imageLine words chk ok) s = .next (doImageLine words chk ok s) := rfl

/-- A line of eight words is read whole. -/
theorem map_range_getElem? {l : List W128} {n : Nat} (h : l.length = n) :
    (List.range n).map (fun k => (l[k]?).getD 0) = l := by
  refine List.ext_getElem (by simp [h]) (fun k _ hk => ?_)
  simp [hk]

/-- While lines of the image are to come, the load goes on with the next. -/
theorem State.nextLine_goesOn {i : ImgLoad} (h : i.line + 1 < i.hdr 1 32 32) :
    s.nextLine i = s.modControl (fun c => { c with img := some { i with line := i.line + 1 } }) := by
  unfold State.nextLine
  extract_lets j
  have hj : j.hdr 1 32 32 = i.hdr 1 32 32 := rfl
  exact if_neg (by rw [hj]; exact Nat.not_le.mpr h)

/-- The words of a data line move the section's CRC alone, not its count of lines. -/
theorem State.loadLine_done (p : Nat) (d : SectLoad) (chk : W128) (l : List W128) (k : Nat) (e : SectLoad) :
    (s.loadLine p d chk l k e).2.1.done = e.done := by
  induction l generalizing s k e with
  | nil => rfl
  | cons w rest ih =>
    rw [State.loadLine]
    split
    · rfl
    · split
      · rw [ih]
        split <;> rfl
      · rfl

section Lines

variable {i : ImgLoad} (hi : s.control.img = some i)
include hi

/-- A failed host read ends the command with FETCH, and the partition's load will fail (R184, R379). -/
theorem doImageLine_failed (words : List W128) (chk : W128) : doImageLine words chk false s =
    (((s.modControl (fun c => { c with img := none })).modPart i.p (fun x => { x with refusedWord := true })).raise .hst 0
      4).mbxResult resFetch [] := by
  rw [doImageLine, hi]
  rfl

variable (hl : s.loads i.p = true)
include hl

theorem doImageLine_header {words : List W128} {chk : W128} (hs : i.sect = none) (hh : i.header = none)
    (hw : words.length = 8) (hseal : lineSealed words chk = true) (hgo : s.headerCheck i words = .goOn) :
    doImageLine words chk true s = s.nextLine { i with header := some (words.headD 0, (words[1]?).getD 0) } := by
  rw [doImageLine, hi]
  simp only [hl, hs, map_range_getElem? hw, State.readHead, hseal, hh, hgo, Bool.not_true, Bool.false_eq_true, if_false]

theorem doImageLine_data {words : List W128} {chk : W128} {d e : SectLoad} {t : State} (hs : i.sect = some d)
    (hw : words.length = 8) (hload : s.loadLine i.p d chk words 0 d = (.goOn, e, t)) (hmore : e.done + 1 ≠ d.lines) :
    doImageLine words chk true s = t.nextLine { i with sect := some { e with done := e.done + 1 } } := by
  have hdone : e.done = d.done := by
    have h := State.loadLine_done (s := s) i.p d chk words 0 d
    rwa [hload] at h
  rw [hdone] at hmore ⊢
  rw [doImageLine, hi]
  simp only [hl, hs, State.readData, map_range_getElem? hw, hload, if_neg hmore, Bool.not_true, Bool.false_eq_true,
    if_false]

end Lines

/-! ## The completion of a command (R377, R378) -/

theorem exec_mailboxCompletion : exec .mailboxCompletion s = .next (doMailboxCompletion s) := rfl

/-- The RSP registers take the values of a command. -/
def State.showRsp (s : State) (rsp : List (Nat × Nat)) : State :=
  rsp.foldl (fun s e => s.wr (R.HST_MBX_RSP.RSP e.1) 0 e.2) s

/-- A command is completed: its RSP values, RESULT, SEQ, DONE and BUSY are shown, and the completion bit is set. -/
def State.completed (s : State) (c : MbxCmd) (r : Nat) : State :=
  ((((((s.showRsp c.rsp).wr R.HST_MBX_STATUS.RESULT 0 r).wr R.HST_MBX_STATUS.SEQ 0 c.seq).wr R.HST_MBX_STATUS.DONE 0
    1).wr R.HST_MBX_STATUS.BUSY 0 0).modControl (fun c => { c with cmd := none })).raise .hst 0 0

theorem doMailboxCompletion_result {c : MbxCmd} {r : Nat} (hc : s.control.cmd = some c) (hr : c.result = some r) :
    doMailboxCompletion s = (if c.op = 0x11 ∧ s.fwState = 1 then s.firmwareUp else s).completed c r := by
  simp only [doMailboxCompletion, hc, hr, State.completed, State.showRsp]

theorem State.completed_status (c : MbxCmd) (r : Nat) : (s.completed c r).rd R.HST_MBX_STATUS.RESULT 0 = r % 16 ∧
    (s.completed c r).rd R.HST_MBX_STATUS.SEQ 0 = c.seq % 256 ∧ (s.completed c r).rd R.HST_MBX_STATUS.DONE 0 = 1 ∧
    (s.completed c r).rd R.HST_MBX_STATUS.BUSY 0 = 0 := by
  unfold State.completed
  refine ⟨?_, ?_, ?_, ?_⟩
  · rw [State.raise_rd _ _ _ rfl, State.modControl_rd, State.rd_wr_apart (by decide), State.rd_wr_apart (by decide),
      State.rd_wr_apart (by decide), State.rd_wr_self]
    rfl
  · rw [State.raise_rd _ _ _ rfl, State.modControl_rd, State.rd_wr_apart (by decide), State.rd_wr_apart (by decide),
      State.rd_wr_self]
    rfl
  · rw [State.raise_rd _ _ _ rfl, State.modControl_rd, State.rd_wr_apart (by decide), State.rd_wr_self]
    rfl
  · rw [State.raise_rd _ _ _ rfl, State.modControl_rd, State.rd_wr_self]
    rfl

theorem State.completed_cmd (c : MbxCmd) (r : Nat) : (s.completed c r).control.cmd = none := by
  rw [State.completed, State.raise_control]
  rfl

/-- Fields other than those of the completion show what they did after the RSP values. -/
theorem State.completed_rd {g : Fld} (he : errorReg (g.off % 4096) = false)
    (hg : ∀ f ∈ [R.HST_MBX_STATUS.RESULT, R.HST_MBX_STATUS.SEQ, R.HST_MBX_STATUS.DONE, R.HST_MBX_STATUS.BUSY],
      f.apart g = true) (c : MbxCmd) (r d : Nat) : (s.completed c r).rd g d = (s.showRsp c.rsp).rd g d := by
  simp only [List.forall_mem_cons] at hg
  obtain ⟨hres, hseq, hdone, hbusy, -⟩ := hg
  rw [State.completed, State.raise_rd _ _ _ he, State.modControl_rd, State.rd_wr_apart hbusy, State.rd_wr_apart hdone,
    State.rd_wr_apart hseq, State.rd_wr_apart hres]

/-- The firmware is up with FW_STATE 2 (R381, R461). -/
theorem State.firmwareUp_fwState : s.firmwareUp.fwState = 2 := by
  unfold State.firmwareUp
  extract_lets s1 s2 s3 s4 s5
  have h5 : s5.rd R.HST_MBX_STATUS.FW_STATE 0 = 2 := State.rd_wr_self _ _ _
  rw [State.fwState, State.devState_frame.2 _ (by decide)]
  split
  · rw [State.rd_wr_apart (by decide), h5]
  · exact h5

/-! ## The heartbeat and the watchdogs (R381, R382) -/

theorem exec_heartbeat (h : s.fwState = 2) : exec .heartbeat s =
    .next (s.wr R.HST_MBX_HEARTBEAT.COUNT 0 (s.rd R.HST_MBX_HEARTBEAT.COUNT 0 + 1)) :=
  congrArg Host.Outcome.next (if_pos h)

theorem exec_controlWdtExpiry {k : Fin 4} (h : s.controlRuns k.val = true) :
    exec (.controlWdtExpiry k) s = .next s.enterFault := congrArg Host.Outcome.next (if_pos h)

/-- In FW_STATE 3 no control core runs. -/
theorem State.fwState_of_controlRuns {k : Nat} (h : s.controlRuns k = true) : s.fwState ≠ 3 := by
  intro h3
  rw [State.controlRuns, show s.rd R.HST_MBX_STATUS.FW_STATE 0 = 3 from h3] at h
  exact Bool.false_ne_true h

/-- The control complex fails: the command in hand ends without a result. -/
theorem State.enterFault_effect (h : s.fwState ≠ 3) : s.enterFault.fwState = 3 ∧
    s.enterFault.rd R.HST_MBX_STATUS.BUSY 0 = 0 ∧ s.enterFault.rd R.HST_MBX_STATUS.DONE 0 = 0 ∧
    s.enterFault.control.cmd = none := by
  rw [State.enterFault, if_neg (by exact h)]
  extract_lets s1 c s2
  have hrd : ∀ g : Fld, g.page ≠ .log → ((s2.irqEvent 185).logEvent 0x21 0 2 evControlFault 0 0).rd g 0 = s1.rd g 0 :=
    fun g hg => (State.logEvent_rd_page hg _ _ _ _ _ _ _).trans (State.irqEvent_rd _ _ _)
  refine ⟨(hrd R.HST_MBX_STATUS.FW_STATE (by decide)).trans ?_, (hrd R.HST_MBX_STATUS.BUSY (by decide)).trans ?_,
    (hrd R.HST_MBX_STATUS.DONE (by decide)).trans ?_, ?_⟩
  · rw [State.rd_wr_apart (by decide), State.rd_wr_apart (by decide), State.rd_wr_self]
    rfl
  · rw [State.rd_wr_apart (by decide), State.rd_wr_self]
    rfl
  · rw [State.rd_wr_self]
    rfl
  · rw [State.logEvent_control, State.irqEvent_control]

/-! ## The FIFO of the debug path (R485) -/

/-- With no FW_LOAD_DBG in hand the boot ROM leaves the FIFO. -/
theorem State.takeFifo_idle (h : s.control.dbgLen = none) : s.takeFifo = s := by
  rw [State.takeFifo, h]

theorem exec_fwFifoWrite {a : Accessor} (ha : s.accessCode a .dbg 0 0x60 true = 0) (hn : s.control.fifo.length < 64)
    (hd : s.control.dbgLen = none) (v : W32) : exec (.fwFifoWrite a v) s =
      .next ((s.modControl (fun c => { c with fifo := c.fifo ++ [v] })).respond a true 0) := by
  refine congrArg Host.Outcome.next ((State.access_ok ha _).trans ?_)
  rw [doFwFifoWrite, if_neg (Nat.not_le.mpr hn), State.takeFifo_idle (by exact hd)]

theorem exec_fwFifoTimeout {n : Nat} (h : s.control.dbgLen = some n) : exec .fwFifoTimeout s =
    .next ((s.modControl (fun c => { c with dbgLen := none, dbgGot := [] })).mbxResult resFetch []) := by
  refine congrArg Host.Outcome.next ?_
  rw [doFwFifoTimeout, h]

/-! ## The statement -/

/-- Settles O38: a line that passes its checks is followed by the next, a failed read and a timeout end their command with
FETCH, a completion shows the command's result, and the heartbeat, a watchdog and a FIFO write do what each lists. -/
theorem firmwareServes : Obligations.FirmwareServes := by
  unfold Obligations.FirmwareServes
  refine ⟨?header, ?data, ?failed, ?completion, ?heartbeat, ?watchdog, ?fifo, ?timeout⟩
  case header =>
    intro words chk i s hi hl hs hh hw hseal hgo hmore
    refine ⟨_, exec_imageLine words chk true, ?_⟩
    rw [doImageLine_header hi hl hs hh hw hseal hgo, State.nextLine_goesOn (by exact hmore)]
    rfl
  case data =>
    intro words chk i d e s s1 hi hl hs hw hload hmore hline
    refine ⟨_, exec_imageLine words chk true, ?_⟩
    rw [doImageLine_data hi hl hs hw hload hmore, State.nextLine_goesOn (by exact hline)]
    exact ⟨rfl, rfl, rfl, rfl, rfl⟩
  case failed =>
    intro words chk i c s hi hc
    refine ⟨_, exec_imageLine words chk false, ?_⟩
    rw [doImageLine_failed hi]
    generalize hs1 : (s.modControl (fun c => { c with img := none })).modPart i.p
      (fun x => { x with refusedWord := true }) = s1
    have hcontrol : (s1.raise .hst 0 4).control = { s.control with img := none } := by
      rw [State.raise_control, ← hs1]
      rfl
    have hpart : (s1.raise .hst 0 4).part i.p = s1.part i.p := by
      rw [State.part, State.raise_parts, State.part]
    refine ⟨congrArg Control.img hcontrol, State.mbxResult_cmd ((congrArg Control.cmd hcontrol).trans hc) _ _, ?_,
      State.raise_self .hst 0 4⟩
    refine (congrArg Part.refusedWord hpart).trans ?_
    rw [← hs1, State.part_modPart]
  case completion =>
    intro c r s hc hr
    refine ⟨_, exec_mailboxCompletion, ?_⟩
    rw [doMailboxCompletion_result hc hr]
    generalize hs0 : (if c.op = 0x11 ∧ s.fwState = 1 then s.firmwareUp else s) = s0
    obtain ⟨hresult, hseq, hdone, hbusy⟩ := State.completed_status (s := s0) c r
    refine ⟨hresult, hseq, hdone, hbusy, State.completed_cmd c r, State.raise_self .hst 0 0, fun v hv => ?_,
      fun hop hf hv => ?_⟩
    · rw [State.completed_rd rfl (by decide), hv]
      rw [State.showRsp, List.foldl_cons, List.foldl_nil, State.rd_wr_self]
      rfl
    · rw [State.fwState, State.completed_rd rfl (by decide), hv, State.showRsp, List.foldl_nil, ← State.fwState, ← hs0,
        if_pos ⟨hop, hf⟩, State.firmwareUp_fwState]
  case heartbeat => exact fun s h => ⟨_, exec_heartbeat h, State.rd_wr_self R.HST_MBX_HEARTBEAT.COUNT _ _⟩
  case watchdog =>
    exact fun k s h => ⟨_, exec_controlWdtExpiry h, State.enterFault_effect (State.fwState_of_controlRuns h)⟩
  case fifo =>
    intro a v s ha hn hd
    refine ⟨_, exec_fwFifoWrite ha hn hd v, ?_⟩
    rw [State.respond_outbox]
    exact ⟨rfl, rfl⟩
  case timeout =>
    intro c n s hd hc
    exact ⟨_, exec_fwFifoTimeout hd, rfl, State.mbxResult_cmd hc _ _⟩

end Sys2Proof.Machine

/-! A port's registers stand apart from those of the unit, and what the operations of a port do (R199 to R207). -/

namespace Sys2Proof.Machine
open Sys2Proof

variable {s : State}

/-! ## Saturating fields (R112) -/

theorem State.rd_wrSat_self (f : Fld) (c v : Nat) : (s.wrSat f c v).rd f c = min v (2 ^ f.width - 1) := by
  rw [State.wrSat, State.rd_wr_self]
  exact Nat.mod_eq_of_lt (lt_of_le_of_lt (Nat.min_le_right _ _) (Nat.sub_lt (Nat.two_pow_pos _) Nat.one_pos))

theorem State.rd_count_self (f : Fld) (c k : Nat) : (s.count f c k).rd f c = satAdd f.width (s.rd f c) k :=
  State.rd_wrSat_self f c _

/-! ## Fields of a port -/

/-- A field of the registers of port n (R518). -/
def Fld.OnPort (g : Fld) (n : Nat) : Prop := ∃ c, g.off = c + 0x20 * n ∧ 0x80 ≤ c ∧ c < 0xA0

theorem Fld.OnPort.apart {f g : Fld} {n : Nat} (hg : g.OnPort n) (hn : n < 4) (hf : f.off < 0x80) : f.apart g = true := by
  obtain ⟨c, hoff, hlo, hhi⟩ := hg
  exact Fld.apart_of (.inl (by rw [hoff]; omega))

/-- Two fields of a port stand apart where their registers or their lowest bits differ. -/
theorem Fld.apart_onPort {f g : Fld} {b c n : Nat} (hf : f.off = b + 0x20 * n) (hg : g.off = c + 0x20 * n)
    (h : b % 32 ≠ c % 32 ∨ f.lo % 32 ≠ g.lo % 32) : f.apart g = true :=
  Fld.apart_of (h.imp_left (fun h => by rw [hf, hg]; omega))

/-- Ports' and unit's fields stand apart from those of the lanes. -/
theorem Fld.cas_apart_lne {f g : Fld} (hf : f.page = .cas) (hg : g.page = .lne) : f.apart g = true :=
  Fld.apart_of_page (by rw [hf, hg]; decide)

theorem state_onPort (n : Nat) : (R.CAS_P_STATUS.STATE n).OnPort n := ⟨0x84, rfl, by decide⟩
theorem fail_onPort (n : Nat) : (R.CAS_P_STATUS.FAIL n).OnPort n := ⟨0x84, rfl, by decide⟩
theorem ls_onPort (n : Nat) : (R.CAS_P_STATUS.LS n).OnPort n := ⟨0x84, rfl, by decide⟩
theorem total_onPort (n : Nat) : (R.CAS_P_LATENCY.TOTAL n).OnPort n := ⟨0x88, rfl, by decide⟩
theorem held_onPort (n : Nat) : (R.CAS_P_CREDITS.HELD n).OnPort n := ⟨0x8C, rfl, by decide⟩
theorem en_onPort (n : Nat) : (R.CAS_P_CTRL.EN n).OnPort n := ⟨0x80, rfl, by decide⟩
theorem lsReq_onPort (n : Nat) : (R.CAS_P_CTRL.LS_REQ n).OnPort n := ⟨0x80, rfl, by decide⟩

/-! ## What the unit shows (R230, R232) -/

/-- Of the registers `showUnit` writes UNIT_STATE and HOLD_OUT alone. -/
theorem State.showUnit_rd_apart {g : Fld} (hu : R.CAS_STATUS.UNIT_STATE.apart g = true)
    (hh : R.CAS_STATUS.HOLD_OUT.apart g = true) (d : Nat) : s.showUnit.rd g d = s.rd g d := by
  unfold State.showUnit
  extract_lets s1 free
  split
  · exact State.rd_wr_apart hu 0 d _
  · exact (State.rd_wr_apart hh 0 d _).trans (State.rd_wr_apart hu 0 d _)

theorem State.showUnit_rd_onPort {g : Fld} {n : Nat} (hg : g.OnPort n) (hn : n < 4) (d : Nat) :
    s.showUnit.rd g d = s.rd g d :=
  State.showUnit_rd_apart (hg.apart hn (by decide)) (hg.apart hn (by decide)) d

theorem State.showUnit_rd_lne {g : Fld} (hg : g.page = .lne) (d : Nat) : s.showUnit.rd g d = s.rd g d :=
  State.showUnit_rd_apart (Fld.cas_apart_lne rfl hg) (Fld.cas_apart_lne rfl hg) d

/-- Of the cascade logic `showUnit` changes only whether HOLD_N has been released. -/
theorem State.showUnit_cas : ∃ r, s.showUnit.cas = { s.cas with released := r } := by
  unfold State.showUnit
  extract_lets s1 free
  split
  · exact ⟨s.cas.released, rfl⟩
  · exact ⟨free, rfl⟩

theorem State.showUnit_keeps_all : Keeps 2251799814733824 s s.showUnit := State.showUnit_keeps rfl (Keeps.refl _ s)

@[simp] theorem State.showUnit_outbox : s.showUnit.outbox = s.outbox := State.showUnit_keeps_all.same .out rfl

@[simp] theorem State.showUnit_port (n : Nat) : s.showUnit.port n = s.port n := by
  rw [State.port, (State.showUnit_keeps_all.same .ports rfl).1, State.port]

@[simp] theorem State.wr_port (f : Fld) (c v k : Nat) : (s.wr f c v).port k = s.port k := rfl
@[simp] theorem State.emit_port (o : Output) (k : Nat) : (s.emit o).port k = s.port k := rfl
@[simp] theorem State.respond_port (a : Accessor) (ok : Bool) (v k : Nat) : (s.respond a ok v).port k = s.port k := rfl

/-! ## What is sent -/

theorem State.emit_outbox (o : Output) : (s.emit o).outbox = s.outbox ++ [o] := rfl

/-- Sending one output for each element of a list, of which none depends on what has been sent. -/
theorem State.emits_eq {α : Type} {f : State → α → Output} (hf : ∀ t o x, f (t.emit o) x = f t x) (l : List α) :
    l.foldl (fun s x => s.emit (f s x)) s = { s with outbox := s.outbox ++ l.map (f s) } := by
  induction l generalizing s with
  | nil => simp
  | cons x l ih =>
    have hmap : l.map (f (s.emit (f s x))) = l.map (f s) := List.map_congr_left (fun y _ => hf s _ y)
    rw [List.foldl_cons, ih, hmap]
    simp [State.emit]

/-- A stage begins with outputs alone. -/
theorem State.stageSends_eq (n st : Nat) : ∃ l, s.stageSends n st = { s with outbox := s.outbox ++ l } := by
  unfold State.stageSends
  split
  · exact ⟨_, rfl⟩
  · split
    · exact ⟨_, State.emits_eq (fun _ _ _ => rfl) _⟩
    · split
      · exact ⟨_, State.emits_eq (f := fun _ l => Output.ordered n 0x03 l 0 0) (fun _ _ _ => rfl) _⟩
      · split
        · exact ⟨_, rfl⟩
        · exact ⟨[], by simp⟩

theorem State.stageSends_rd (n st : Nat) (g : Fld) (d : Nat) : (s.stageSends n st).rd g d = s.rd g d := by
  obtain ⟨l, h⟩ := State.stageSends_eq (s := s) n st
  rw [h]
  rfl

theorem State.stageSends_ports (n st : Nat) :
    (s.stageSends n st).casPorts = s.casPorts ∧ (s.stageSends n st).laneSync = s.laneSync := by
  obtain ⟨l, h⟩ := State.stageSends_eq (s := s) n st
  rw [h]
  exact ⟨rfl, rfl⟩

/-! ## The states of a port -/

theorem State.enterStage_rd_apart {g : Fld} {n : Nat} (h : (R.CAS_P_STATUS.STATE n).apart g = true) (st d : Nat) :
    (s.enterStage n st).rd g d = s.rd g d := (State.stageSends_rd n st g d).trans (State.rd_wr_apart h 0 d st)

theorem State.enterStage_portState (n st : Nat) : (s.enterStage n st).portState n = st % 16 :=
  (State.stageSends_rd n st _ 0).trans (State.rd_wr_self _ _ _)

theorem State.enterStage_port (n st k : Nat) : (s.enterStage n st).port k = s.port k := by
  rw [State.port, State.enterStage, (State.stageSends_ports n st).1]
  rfl

theorem state_apart_ls (n : Nat) : (R.CAS_P_STATUS.STATE n).apart (R.CAS_P_STATUS.LS n) = true :=
  Fld.apart_onPort rfl rfl (.inr (show 0 ≠ 9 by decide))

theorem ls_apart_state (n : Nat) : (R.CAS_P_STATUS.LS n).apart (R.CAS_P_STATUS.STATE n) = true :=
  Fld.apart_onPort rfl rfl (.inr (show 9 ≠ 0 by decide))

theorem fail_apart_state (n : Nat) : (R.CAS_P_STATUS.FAIL n).apart (R.CAS_P_STATUS.STATE n) = true :=
  Fld.apart_onPort rfl rfl (.inr (show 4 ≠ 0 by decide))

theorem reversed_apart_state (n : Nat) : (R.CAS_P_STATUS.REVERSED n).apart (R.CAS_P_STATUS.STATE n) = true :=
  Fld.apart_onPort rfl rfl (.inr (show 8 ≠ 0 by decide))

theorem rxUsed_apart_held (n : Nat) : (R.CAS_P_CREDITS.RX_USED n).apart (R.CAS_P_CREDITS.HELD n) = true :=
  Fld.apart_onPort rfl rfl (.inr (show 8 ≠ 0 by decide))

theorem replayUsed_apart_held (n : Nat) : (R.CAS_P_CREDITS.REPLAY_USED n).apart (R.CAS_P_CREDITS.HELD n) = true :=
  Fld.apart_onPort rfl rfl (.inr (show 16 ≠ 0 by decide))

theorem reversed_apart_peerMaster (n : Nat) : (R.CAS_P_STATUS.REVERSED n).apart (R.CAS_P_STATUS.PEER_MASTER n) = true :=
  Fld.apart_onPort rfl rfl (.inr (show 8 ≠ 17 by decide))

theorem reversed_apart_peerId (n : Nat) : (R.CAS_P_STATUS.REVERSED n).apart (R.CAS_P_STATUS.PEER_ID n) = true :=
  Fld.apart_onPort rfl rfl (.inr (show 8 ≠ 11 by decide))

theorem peerMaster_apart_peerId (n : Nat) : (R.CAS_P_STATUS.PEER_MASTER n).apart (R.CAS_P_STATUS.PEER_ID n) = true :=
  Fld.apart_onPort rfl rfl (.inr (show 17 ≠ 11 by decide))

theorem state_apart_reversed (n : Nat) : (R.CAS_P_STATUS.STATE n).apart (R.CAS_P_STATUS.REVERSED n) = true :=
  Fld.apart_onPort rfl rfl (.inr (show 0 ≠ 8 by decide))

/-- A port that fails shows FAILED with its code, and the interrupt (R199, R205). -/
theorem State.failPort_effect {n : Nat} (hn : n < 4) (code : Nat) : (s.failPort n code).portState n = 9 ∧
    (s.failPort n code).rd (R.CAS_P_STATUS.FAIL n) 0 = code % 16 ∧ (s.failPort n code).rd (intBit .cas 2) 0 = 1 := by
  unfold State.failPort
  refine ⟨?_, ?_, (State.showUnit_rd_apart rfl rfl 0).trans (State.raise_self _ _ _)⟩
  · rw [State.portState, State.showUnit_rd_onPort (state_onPort n) hn, State.raise_rd_apart ((state_onPort n).apart hn (by decide)),
      State.rd_wr_apart (fail_apart_state n)]
    exact State.rd_wr_self _ _ _
  · rw [State.showUnit_rd_onPort (fail_onPort n) hn, State.raise_rd_apart ((fail_onPort n).apart hn (by decide))]
    exact State.rd_wr_self _ _ _

/-- What a port keeps when it becomes READY: no exit from a lane power state is under way, and its peer is known. -/
def CasPort.up (x : CasPort) (peer : Nat) : CasPort := { x with exit := 0, peer := peer }

/-- A port that becomes READY is in LS0 (R205, R207). -/
theorem State.portReady_effect {n : Nat} (hn : n < 4) : (s.portReady n).portState n = 8 ∧
    (s.portReady n).rd (R.CAS_P_STATUS.LS n) 0 = 0 ∧
    (s.portReady n).port n = (s.port n).up (s.rd (R.CAS_P_STATUS.PEER_ID n) 0) ∧ (s.portReady n).outbox = s.outbox := by
  unfold State.portReady
  refine ⟨?_, ?_, ?_, State.showUnit_outbox⟩
  · rw [State.portState, State.showUnit_rd_onPort (state_onPort n) hn, State.modPort_rd, State.rd_wr_apart (ls_apart_state n)]
    exact State.rd_wr_self _ _ _
  · rw [State.showUnit_rd_onPort (ls_onPort n) hn, State.modPort_rd]
    exact State.rd_wr_self _ _ _
  · rw [State.showUnit_port, State.port_modPort]
    rfl

/-- Becoming READY leaves the other registers of the port as they were. -/
theorem State.portReady_rd_apart {g : Fld} {n : Nat} (hn : n < 4) (hg : g.OnPort n)
    (hs : (R.CAS_P_STATUS.STATE n).apart g = true) (hl : (R.CAS_P_STATUS.LS n).apart g = true) (d : Nat) :
    (s.portReady n).rd g d = s.rd g d := by
  unfold State.portReady
  rw [State.showUnit_rd_onPort hg hn, State.modPort_rd, State.rd_wr_apart hl]
  exact State.rd_wr_apart hs 0 d 8

/-! ## The lanes of a port (R192) -/

/-- What no step over the lanes of a port changes reads as before. -/
theorem State.eachLane_rd {f : State → Nat → State} {g : Fld} {d : Nat} (h : ∀ t c, (f t c).rd g d = t.rd g d) (n : Nat) :
    (s.eachLane n f).rd g d = s.rd g d :=
  List.foldlRecOn (motive := fun t : State => t.rd g d = s.rd g d) _ _ rfl (fun t ht l _ => (h t (lane n l)).trans ht)

/-- Where the step over a lane leaves v in a field and the step over another keeps it, it is v in every lane. -/
theorem State.eachLane_sets {f : State → Nat → State} {g : Fld} {v : Nat} (hself : ∀ t c, (f t c).rd g c = v)
    (hkeep : ∀ t c d, t.rd g d = v → (f t c).rd g d = v) (n : Nat) {l : Nat} (hl : l < 8) :
    (s.eachLane n f).rd g (lane n l) = v :=
  foldl_reaches (f := fun t l => f t (lane n l)) (Q := fun t : State => t.rd g (lane n l) = v) (List.mem_range.mpr hl)
    (fun t => hself t _) (fun t k ht => hkeep t (lane n k) _ ht)

/-- A field that is written in every lane of a port. -/
theorem State.eachLane_wr (g : Fld) (v n : Nat) {l : Nat} (hl : l < 8) :
    (s.eachLane n (fun s c => s.wr g c v)).rd g (lane n l) = v % 2 ^ g.width := by
  refine State.eachLane_sets (fun t c => State.rd_wr_self g c v) (fun t c d ht => ?_) n hl
  rw [State.rd_wr]
  split
  · rfl
  · exact ht

@[simp] theorem State.setSync_rd (c : Nat) (x : LaneSync) (g : Fld) (d : Nat) : (s.setSync c x).rd g d = s.rd g d := rfl

theorem State.setLock_rd_self (c v : Nat) : (s.setLock c v).rd R.LNE_STATUS.BLOCK_LOCK c = v % 2 := State.rd_wr_self _ _ _

theorem State.setLock_rd_apart {g : Fld} (h : R.LNE_STATUS.BLOCK_LOCK.apart g = true) (c v d : Nat) :
    (s.setLock c v).rd g d = s.rd g d := State.rd_wr_apart (s := s.setSync c {}) h c d v

/-- Block lock of every lane of a port. -/
theorem State.eachLane_setLock (v n : Nat) {l : Nat} (hl : l < 8) :
    (s.eachLane n (fun s c => s.setLock c v)).rd R.LNE_STATUS.BLOCK_LOCK (lane n l) = v % 2 := by
  refine State.eachLane_sets (fun t c => State.setLock_rd_self c v) (fun t c d ht => ?_) n hl
  rw [State.setLock, State.rd_wr]
  split
  · rfl
  · exact ht

end Sys2Proof.Machine

/-! The bring-up of a port, its failures, and retraining (R199 to R205). -/

namespace Sys2Proof.Machine
open Sys2Proof

variable {s : State} {n : Nat}

/-! ## Enabling and disabling (R199) -/

theorem exec_portEnable {a : Accessor} {n : Fin 4} (h : s.accessCode a .cas 0 (0x80 + 0x20 * n.val) true = 0) :
    exec (.portEnable a n) s = .next (doPortEnable a n.val s) := congrArg Host.Outcome.next (State.access_ok h _)

theorem exec_portDisable {a : Accessor} {n : Fin 4} (h : s.accessCode a .cas 0 (0x80 + 0x20 * n.val) true = 0) :
    exec (.portDisable a n) s = .next (doPortDisable a n.val s) := congrArg Host.Outcome.next (State.access_ok h _)

/-- Clearing the lane signals leaves the fields of the ports. -/
theorem State.clearLanes_rd {g : Fld} (hg : g.page = .cas) (n d : Nat) : (s.clearLanes n).rd g d = s.rd g d :=
  (State.clearLanes_keeps (M := 4503599627894784) rfl (Keeps.refl _ s)).rd_any (by rw [hg]; rfl) rfl d

/-- A cleared port: its state, all 48 credits, and nothing sent or received (R199, R218). -/
theorem State.clearPort_effect (n st : Nat) : (s.clearPort n st).portState n = st % 16 ∧
    (s.clearPort n st).rd (R.CAS_P_CREDITS.HELD n) 0 = 48 ∧ (s.clearPort n st).port n = {} ∧
    (s.clearPort n st).outbox = s.outbox ∧
    (s.clearPort n st).rd (R.CAS_P_CTRL.EN n) 0 = s.rd (R.CAS_P_CTRL.EN n) 0 := by
  have hout := (State.clearPort_keeps (M := 6756498953207808) (a1 := n) (a2 := st) rfl (Keeps.refl _ s)).same .out rfl
  have hstatus : ∀ {g : Fld}, g.off = 0x84 + 0x20 * n → (R.CAS_P_CREDITS.HELD n).apart g = true ∧
      (R.CAS_P_CREDITS.RX_USED n).apart g = true ∧ (R.CAS_P_CREDITS.REPLAY_USED n).apart g = true := fun hg =>
    ⟨Fld.apart_onPort rfl hg (.inl (by decide)), Fld.apart_onPort rfl hg (.inl (by decide)),
      Fld.apart_onPort rfl hg (.inl (by decide))⟩
  have hen : ∀ {f : Fld} {b : Nat}, f.off = b + 0x20 * n → b % 32 ≠ 0x80 % 32 → f.apart (R.CAS_P_CTRL.EN n) = true :=
    fun hf hb => Fld.apart_onPort hf rfl (.inl hb)
  refine ⟨?_, ?_, State.port_modPort _ _, hout, ?_⟩ <;> unfold State.clearPort State.setPort
  · obtain ⟨h1, h2, h3⟩ := hstatus (g := R.CAS_P_STATUS.STATE n) rfl
    rw [State.portState, State.modPort_rd, State.rd_wr_apart h3, State.rd_wr_apart h2, State.rd_wr_apart h1,
      State.rd_wr_apart (ls_apart_state n), State.rd_wr_apart (reversed_apart_state n),
      State.rd_wr_apart (fail_apart_state n)]
    exact State.rd_wr_self _ _ _
  · rw [State.modPort_rd, State.rd_wr_apart (replayUsed_apart_held n), State.rd_wr_apart (rxUsed_apart_held n)]
    exact State.rd_wr_self _ _ _
  · rw [State.modPort_rd, State.rd_wr_apart (hen rfl (by decide)), State.rd_wr_apart (hen rfl (by decide)),
      State.rd_wr_apart (hen rfl (by decide)), State.rd_wr_apart (hen rfl (by decide)),
      State.rd_wr_apart (hen rfl (by decide)), State.rd_wr_apart (hen rfl (by decide)),
      State.rd_wr_apart (hen rfl (by decide))]
    exact State.clearLanes_rd rfl n 0

/-- The lane PLL of a port is shown on the PWR_ page (R474). -/
theorem State.lanePll_rd {g : Fld} (hg : g.page = .cas ∨ g.page = .lne) (n on d : Nat) : (s.lanePll n on).rd g d = s.rd g d :=
  State.rd_wr_apart (Fld.apart_of_page (by rcases hg with h | h <;> rw [h] <;> decide)) 0 d _

/-- EN = 1 starts the bring-up of a port at DETECT (R199). -/
theorem doPortEnable_starts (hn : n < 4) (h : s.on (R.CAS_P_CTRL.EN n) 0 = false) (a : Accessor) :
    (doPortEnable a n s).rd (R.CAS_P_CTRL.EN n) 0 = 1 ∧ (doPortEnable a n s).portState n = 1 ∧
    (doPortEnable a n s).rd (R.CAS_P_CREDITS.HELD n) 0 = 48 ∧ (doPortEnable a n s).port n = {} ∧
    (doPortEnable a n s).outbox = s.outbox ++ [.pattern n 1, .regResp a 0 0] := by
  rw [doPortEnable, if_neg (by simp [h])]
  generalize hs1 : (s.wr (R.CAS_P_CTRL.EN n) 0 1).lanePll n 1 = s1
  have hen : s1.rd (R.CAS_P_CTRL.EN n) 0 = 1 := by
    rw [← hs1, State.lanePll_rd (.inl rfl)]
    exact State.rd_wr_self _ _ _
  have hsent : s1.outbox = s.outbox := by rw [← hs1, State.lanePll, State.wr_outbox, State.wr_outbox]
  obtain ⟨hstate, hheld, hport, hout, hctrl⟩ := State.clearPort_effect (s := s1) n 1
  generalize s1.clearPort n 1 = s2 at *
  have hpattern : s2.stageSends n 1 = s2.emit (.pattern n 1) := by rw [State.stageSends, if_pos (.inl rfl)]
  rw [hpattern]
  refine ⟨?_, ?_, ?_, ?_, ?_⟩
  · rw [State.respond_rd, State.showUnit_rd_onPort (en_onPort n) hn, State.emit_rd]
    exact hctrl.trans hen
  · rw [State.portState, State.respond_rd, State.showUnit_rd_onPort (state_onPort n) hn, State.emit_rd]
    exact hstate
  · rw [State.respond_rd, State.showUnit_rd_onPort (held_onPort n) hn, State.emit_rd]
    exact hheld
  · rw [State.respond_port, State.showUnit_port, State.emit_port]
    exact hport
  · rw [State.respond_outbox, State.showUnit_outbox, State.emit_outbox, hout, hsent, List.append_assoc]
    rfl

/-- PORT_DISABLE leaves a port cleared and DISABLED (R199). -/
theorem doPortDisable_effect (hn : n < 4) (a : Accessor) : (doPortDisable a n s).rd (R.CAS_P_CTRL.EN n) 0 = 0 ∧
    (doPortDisable a n s).portState n = 0 ∧ (doPortDisable a n s).port n = {} := by
  rw [doPortDisable]
  generalize hs1 : (s.wr (R.CAS_P_CTRL.EN n) 0 0).lanePll n 0 = s1
  have hen : s1.rd (R.CAS_P_CTRL.EN n) 0 = 0 := by
    rw [← hs1, State.lanePll_rd (.inl rfl)]
    exact State.rd_wr_self _ _ _
  obtain ⟨hstate, _, hport, _, hctrl⟩ := State.clearPort_effect (s := s1) n 0
  refine ⟨?_, ?_, ?_⟩
  · rw [State.respond_rd, State.showUnit_rd_onPort (en_onPort n) hn]
    exact hctrl.trans hen
  · rw [State.portState, State.respond_rd, State.showUnit_rd_onPort (state_onPort n) hn]
    exact hstate
  · rw [State.respond_port, State.showUnit_port]
    exact hport

/-! ## The stages (R199 to R204) -/

theorem exec_bringupStageDone (n : Fin 4) (x : BitVec 8) (raw ord : Fin 1024) :
    exec (.bringupStageDone n x raw ord) s = .next (doBringupStageDone n x raw ord s) := rfl

theorem exec_bringupTimeout (n : Fin 4) : exec (.bringupTimeout n) s = .next (doBringupTimeout n s) := rfl

theorem doBringupStageDone_detect (h : s.portState n = 1) (x : BitVec 8) (raw ord : Nat) : doBringupStageDone n x raw ord s =
    (s.eachLane n (fun s c => s.wr R.LNE_STATUS.SIGNAL c 1)).enterStage n 2 := by
  simp only [doBringupStageDone, h]

theorem doBringupStageDone_cdr (h : s.portState n = 2) (x : BitVec 8) (raw ord : Nat) : doBringupStageDone n x raw ord s =
    (s.eachLane n (fun s c => s.wr R.LNE_STATUS.CDR_LOCK c 1)).enterStage n 3 := by
  simp only [doBringupStageDone, h]

theorem doBringupStageDone_polarity (h : s.portState n = 3) (x : BitVec 8) (raw ord : Nat) :
    (doBringupStageDone n x raw ord s).portState n = 4 := by
  simp only [doBringupStageDone, h]
  exact State.enterStage_portState n 4

theorem doBringupStageDone_align (h : s.portState n = 4) (x : BitVec 8) (raw ord : Nat) : doBringupStageDone n x raw ord s =
    (s.eachLane n (fun s c => s.setLock c 1)).enterStage n (if (s.port n).exit = 1 then 6 else 5) := by
  simp only [doBringupStageDone, h]

/-- Entering a stage leaves the lane signals. -/
theorem State.enterStage_rd_lne {g : Fld} (hg : g.page = .lne) (n st d : Nat) : (s.enterStage n st).rd g d = s.rd g d :=
  State.enterStage_rd_apart (Fld.cas_apart_lne rfl hg) st d

/-- REVERSAL ends with the order of the lanes shown and DESKEW begun, where the peer is the expected one (R193, R202, R207). -/
theorem State.endReversal_passes {rev : Bool} (ho : s.laneOrder n = some rev)
    (hm : s.on (R.CAS_P_STATUS.PEER_MASTER n) 0 = false) (he : s.on (R.CAS_P_CTRL.EXPECT_EN n) 0 = false)
    (hp : (s.port n).exit = 0 ∨ s.otherPeer n = false) :
    s.endReversal n = (s.wr (R.CAS_P_STATUS.REVERSED n) 0 (b2n rev)).enterStage n 6 := by
  have hmaster : (s.wr (R.CAS_P_STATUS.REVERSED n) 0 (b2n rev)).on (R.CAS_P_STATUS.PEER_MASTER n) 0 = false := by
    rw [State.on, State.rd_wr_apart (reversed_apart_peerMaster n)]
    exact hm
  have hexpect : (s.wr (R.CAS_P_STATUS.REVERSED n) 0 (b2n rev)).on (R.CAS_P_CTRL.EXPECT_EN n) 0 = false := by
    rw [State.on, State.rd_wr_apart (Fld.apart_onPort rfl rfl (.inl (show 0x84 % 32 ≠ 0x80 % 32 by decide)))]
    exact he
  have hpeer : ((s.wr (R.CAS_P_STATUS.REVERSED n) 0 (b2n rev)).port n).exit = 0 ∨
      (s.wr (R.CAS_P_STATUS.REVERSED n) 0 (b2n rev)).otherPeer n = false := by
    rw [State.otherPeer, State.rd_wr_apart (reversed_apart_peerId n)]
    exact hp
  simp only [State.endReversal, ho, hmaster, hexpect, Bool.and_false, Bool.false_and, Bool.false_eq_true, if_false]
  refine if_neg ?_
  rcases hpeer with h | h
  · simp [h, -State.wr_port]
  · simp [h]

end Sys2Proof.Machine

/-! The stages from DESKEW on, what a lane hears, its block lock, and retraining (R201 to R205). -/

namespace Sys2Proof.Machine
open Sys2Proof

variable {s : State} {n c : Nat}

theorem doBringupStageDone_reversal (h : s.portState n = 5) (x : BitVec 8) (raw ord : Nat) :
    doBringupStageDone n x raw ord s = s.endReversal n := by
  simp only [doBringupStageDone, h]

theorem doBringupStageDone_deskew (h : s.portState n = 6) (he : (s.port n).exit ≠ 1) (x : BitVec 8) (raw ord : Nat) :
    doBringupStageDone n x raw ord s = if s.skewed n = true then s.failPort n 6 else s.enterStage n 7 := by
  simp only [doBringupStageDone, h, he, if_false]

theorem doBringupStageDone_latency (h : s.portState n = 7) (he : (s.port n).exit ≠ 2) (x : BitVec 8) (raw ord : Nat) :
    doBringupStageDone n x raw ord s =
      if 96 < halfTrip false raw + 31 then (s.setLatency n (halfTrip false raw) (halfTrip true ord)).failPort n 7
      else (s.setLatency n (halfTrip false raw) (halfTrip true ord)).portReady n := by
  simp only [doBringupStageDone, h, he, if_false]

theorem State.skewed_iff : s.skewed n = true ↔ ∃ l, l < 8 ∧ 24 < s.rd R.LNE_STATUS.SKEW (lane n l) := by
  simp [State.skewed]

theorem order_apart_total (n : Nat) : (R.CAS_P_LATENCY.ORDER n).apart (R.CAS_P_LATENCY.TOTAL n) = true :=
  Fld.apart_onPort rfl rfl (.inr (show 16 ≠ 8 by decide))

/-- A total latency that the port tolerates is shown as it is (R204). -/
theorem State.setLatency_total {raw : Nat} (h : raw + 31 ≤ 96) (ord : Nat) :
    (s.setLatency n raw ord).rd (R.CAS_P_LATENCY.TOTAL n) 0 = raw + 31 := by
  rw [State.setLatency, State.wrSat, State.rd_wr_apart (order_apart_total n), State.rd_wrSat_self]
  exact min_eq_left (by simp only [R.CAS_P_LATENCY.TOTAL]; omega)

theorem State.portReady_total (hn : n < 4) :
    (s.portReady n).rd (R.CAS_P_LATENCY.TOTAL n) 0 = s.rd (R.CAS_P_LATENCY.TOTAL n) 0 :=
  State.portReady_rd_apart hn (total_onPort n) (Fld.apart_onPort rfl rfl (.inl (show 0x84 % 32 ≠ 0x88 % 32 by decide)))
    (Fld.apart_onPort rfl rfl (.inl (show 0x84 % 32 ≠ 0x88 % 32 by decide))) 0

theorem doBringupTimeout_fails (h1 : 1 ≤ s.portState n) (h7 : s.portState n ≤ 7) :
    doBringupTimeout n s = s.failPort n (s.portState n) := if_pos ⟨h1, h7⟩

/-! ## What a lane hears (R202, R203) -/

theorem exec_train (n : Fin 4) (l heard : Fin 8) (id : Fin 64) (master : Bool) :
    exec (.train n l heard id master) s = .next (doTrain n l heard id master s) := rfl

theorem exec_laneMark (n : Fin 4) (l : Fin 8) (delay : Fin 256) :
    exec (.laneMark n l delay) s = .next (doLaneMark n l delay s) := rfl

/-- TRAIN: the lane's number, and the peer's CAS_ID and MASTER_SEL (R193, R202). -/
theorem doTrain_effect (h : s.portState n = 4 ∨ s.portState n = 5 ∨ s.portState n = 10) (l : Nat) {heard id : Nat}
    (hh : heard < 8) (hid : id < 64) (master : Bool) :
    (doTrain n l heard id master s).rd R.LNE_STATUS.RX_LANE (lane n l) = heard ∧
    (doTrain n l heard id master s).rd (R.CAS_P_STATUS.PEER_ID n) 0 = id ∧
    (doTrain n l heard id master s).rd (R.CAS_P_STATUS.PEER_MASTER n) 0 = b2n master := by
  rw [doTrain, if_pos h]
  refine ⟨?_, ?_, ?_⟩
  · rw [State.rd_wr_apart (Fld.cas_apart_lne rfl rfl), State.rd_wr_apart (Fld.cas_apart_lne rfl rfl), State.rd_wr_self]
    exact Nat.mod_eq_of_lt hh
  · rw [State.rd_wr_apart (peerMaster_apart_peerId n), State.rd_wr_self]
    exact Nat.mod_eq_of_lt hid
  · rw [State.rd_wr_self]
    cases master <;> rfl

theorem doLaneMark_effect (h : s.portState n = 6 ∨ s.portState n = 10) (l delay : Nat) :
    (doLaneMark n l delay s).rd R.LNE_STATUS.SKEW (lane n l) = min delay 31 := by
  rw [doLaneMark, if_pos h, State.rd_wrSat_self]
  rfl

/-! ## Retraining (R205) -/

/-- The outputs with which a retrain begins. -/
theorem State.stagesSend_frame (l : List Nat) : (∀ (g : Fld) (d : Nat),
    (l.foldl (fun s st => s.stageSends n st) s).rd g d = s.rd g d) ∧
    (l.foldl (fun s st => s.stageSends n st) s).casPorts = s.casPorts :=
  List.foldlRecOn (motive := fun t : State => (∀ (g : Fld) (d : Nat), t.rd g d = s.rd g d) ∧ t.casPorts = s.casPorts) _ _
    ⟨fun _ _ => rfl, rfl⟩ (fun _ ht st _ =>
      ⟨fun g d => (State.stageSends_rd n st g d).trans (ht.1 g d), (State.stageSends_ports n st).1.trans ht.2⟩)

/-- A port that begins to retrain is in RETRAIN, with the interrupt; of its lanes only the polarity can change. -/
theorem State.beginRetrain_effect (hn : n < 4) : (s.beginRetrain n).portState n = 10 ∧
    (s.beginRetrain n).rd (intBit .cas 3) 0 = 1 ∧ (∀ k, (s.beginRetrain n).port k = s.port k) ∧
    ∀ g : Fld, g.page = .lne → R.LNE_STATUS.POL_INV.apart g = true → ∀ d, (s.beginRetrain n).rd g d = s.rd g d := by
  unfold State.beginRetrain
  extract_lets s1 s2
  obtain ⟨hrd, hports⟩ := State.stagesSend_frame (s := s1) (n := n) [4, 5, 6, 7]
  have hports1 : s1.casPorts = s.casPorts :=
    ((State.eachLane_keeps (M := 4503599627370496) rfl (Keeps.refl _ s) (fun t c ht =>
      keeps_ite (State.wr_keeps rfl rfl ht) ht)).same .ports rfl).1
  refine ⟨?_, (State.showUnit_rd_apart rfl rfl 0).trans (State.raise_self _ _ _), fun k => ?_, fun g hg hpol d => ?_⟩
  · rw [State.portState, State.showUnit_rd_onPort (state_onPort n) hn, State.raise_rd_apart ((state_onPort n).apart hn (by decide)),
      State.count, State.rd_wr_apart (Fld.apart_onPort rfl rfl (.inl (show 0x98 % 32 ≠ 0x84 % 32 by decide)))]
    exact State.rd_wr_self _ _ _
  · rw [State.showUnit_port, State.port, State.raise_casPorts, State.count, State.wr_casPorts, State.setPort, State.wr_casPorts,
      hports, hports1, State.port]
  · rw [State.showUnit_rd_lne hg, State.raise_rd_apart (Fld.cas_apart_lne rfl hg), State.count,
      State.rd_wr_apart (Fld.cas_apart_lne rfl hg), State.setPort, State.rd_wr_apart (Fld.cas_apart_lne rfl hg), hrd]
    refine State.eachLane_rd (fun t c => ?_) n
    split
    · exact State.rd_wr_apart hpol c d _
    · rfl

theorem exec_retrainDone (n : Fin 4) (raw ord : Fin 1024) :
    exec (.retrainDone n raw ord) s = .next (doRetrainDone n raw ord s) := rfl

theorem exec_retrainTimeout (n : Fin 4) : exec (.retrainTimeout n) s = .next (doRetrainTimeout n s) := rfl

/-- A retrain ends when its stages have been rerun: the port's block lock is new, its latency is measured. -/
def State.rerun (s : State) (n raw ord : Nat) : State :=
  (s.eachLane n (fun s c => s.setLock c 1)).setLatency n (halfTrip false raw) (halfTrip true ord)

/-- A retrain that passes its checks makes the port READY and asks for the frames it misses (R205, R220). -/
theorem doRetrainDone_passes {rev : Bool} {raw : Nat} (h : s.portState n = 10) (ho : s.laneOrder n = some rev)
    (hs : s.skewed n = false) (hp : s.otherPeer n = false) (hr : halfTrip false raw + 31 ≤ 96) (ord : Nat) :
    doRetrainDone n raw ord s =
      (((((s.rerun n raw ord).wr (R.CAS_P_STATUS.REVERSED n) 0 (b2n rev)).portReady n).modPort n (fun x => { x with
        discarding := true })).emit (.ordered n 0x11 ((s.port n).expect % 65536) 0 0)) := by
  have hno : ¬(s.skewed n || s.otherPeer n || decide (96 < halfTrip false raw + 31)) = true := by simp [hs, hp, hr]
  simp only [doRetrainDone, h, bne_self_eq_false, Bool.false_eq_true, if_false, ho]
  exact if_neg hno

/-- A retrain that passes one of its checks not fails the port with code 10 (R205). -/
theorem doRetrainDone_fails {raw : Nat} (hn : n < 4) (h : s.portState n = 10) (hbad : s.laneOrder n = none ∨
    s.skewed n = true ∨ s.otherPeer n = true ∨ 96 < halfTrip false raw + 31) (ord : Nat) :
    (doRetrainDone n raw ord s).portState n = 9 ∧ (doRetrainDone n raw ord s).rd (R.CAS_P_STATUS.FAIL n) 0 = 10 := by
  have hfail := fun t : State => State.failPort_effect (s := t) hn 10
  cases ho : s.laneOrder n with
  | none =>
    simp only [doRetrainDone, h, bne_self_eq_false, Bool.false_eq_true, if_false, ho]
    exact ⟨(hfail _).1, (hfail _).2.1⟩
  | some rev =>
    have hyes : (s.skewed n || s.otherPeer n || decide (96 < halfTrip false raw + 31)) = true := by
      rcases hbad with hb | hb | hb | hb
      · rw [ho] at hb; cases hb
      · simp [hb]
      · simp [hb]
      · simp [hb]
    simp only [doRetrainDone, h, bne_self_eq_false, Bool.false_eq_true, if_false, ho]
    rw [if_pos hyes]
    exact ⟨(hfail _).1, (hfail _).2.1⟩

theorem doRetrainTimeout_fails (h : s.portState n = 10) : doRetrainTimeout n s = s.failPort n 10 := if_pos h

end Sys2Proof.Machine

/-! The block lock of a lane (R201, R205), and the statement on the bring-up of ports. -/

namespace Sys2Proof.Machine
open Sys2Proof

variable {s : State} {n c : Nat} {h : BitVec 2}

/-! ## Sync headers (R201) -/

/-- The invalid headers among those a locked lane keeps. -/
def State.invalidSeen (s : State) (c : Nat) : Nat := ((s.sync c).recent.filter id).length

/-- A lane with a changed list of headers seen. -/
def State.sees (s t : State) (c : Nat) (invalid : Bool) : State :=
  t.setSync c { s.sync c with recent := (invalid :: (s.sync c).recent).take 63 }

/-- A locked lane takes a valid header. -/
theorem State.laneHeader_valid (hl : s.on R.LNE_STATUS.BLOCK_LOCK c = true) (hv : h = 1 ∨ h = 2) :
    s.laneHeader c h = if 16 ≤ s.invalidSeen c then s.setLock c 0 else s.sees s c false := by
  have hvalid : (h == 1 || h == 2) = true := by simpa using hv
  simp only [State.laneHeader, hl, hvalid, if_true]
  rfl

/-- A locked lane counts an invalid header. -/
theorem State.laneHeader_invalid (hl : s.on R.LNE_STATUS.BLOCK_LOCK c = true) (hv : h = 0 ∨ h = 3) :
    s.laneHeader c h = if 15 ≤ s.invalidSeen c then (s.count R.LNE_HDR_ERR.COUNT c 1).setLock c 0
      else s.sees (s.count R.LNE_HDR_ERR.COUNT c 1) c true := by
  have hvalid : (h == 1 || h == 2) = false := by rcases hv with rfl | rfl <;> rfl
  have hseen : 16 ≤ ((true :: (s.sync c).recent).filter id).length ↔ 15 ≤ s.invalidSeen c := by
    simp [State.invalidSeen]
  simp only [State.laneHeader, hl, hvalid, if_true, Bool.false_eq_true, if_false, Bool.not_false, hseen]
  rfl

/-- A header changes no field of the CAS_ page. -/
theorem State.laneHeader_rd {g : Fld} (hg : g.page = .cas) (d : Nat) : (s.laneHeader c h).rd g d = s.rd g d :=
  (State.laneHeader_keeps (M := 4503599627894784) rfl (Keeps.refl _ s)).rd_any (by rw [hg]; rfl) rfl d

theorem State.laneHeader_portState (n : Nat) : (s.laneHeader c h).portState n = s.portState n :=
  State.laneHeader_rd rfl 0

/-- A lane that is searching for its blocks takes a header as `huntHeader` says. -/
theorem State.laneHeader_hunts (hl : s.on R.LNE_STATUS.BLOCK_LOCK c = false) :
    s.laneHeader c h = s.huntHeader c (h == 1 || h == 2) := by
  rw [State.laneHeader]
  exact if_neg (by simp [hl])

/-- What a header does to the lock and the error count of a locked lane. -/
theorem State.laneHeader_locked (hl : s.on R.LNE_STATUS.BLOCK_LOCK c = true) :
    ((h = 1 ∨ h = 2) → (s.laneHeader c h).rd R.LNE_HDR_ERR.COUNT c = s.rd R.LNE_HDR_ERR.COUNT c) ∧
    ((h = 0 ∨ h = 3) → (s.laneHeader c h).rd R.LNE_HDR_ERR.COUNT c = satAdd 32 (s.rd R.LNE_HDR_ERR.COUNT c) 1) ∧
    ((h = 0 ∨ h = 3) → 15 ≤ s.invalidSeen c → (s.laneHeader c h).rd R.LNE_STATUS.BLOCK_LOCK c = 0) ∧
    (s.invalidSeen c < 15 → (s.laneHeader c h).on R.LNE_STATUS.BLOCK_LOCK c = true) := by
  have hcount : (s.count R.LNE_HDR_ERR.COUNT c 1).rd R.LNE_HDR_ERR.COUNT c = satAdd 32 (s.rd R.LNE_HDR_ERR.COUNT c) 1 :=
    State.rd_count_self _ _ _
  have hkept : (s.count R.LNE_HDR_ERR.COUNT c 1).rd R.LNE_STATUS.BLOCK_LOCK c = s.rd R.LNE_STATUS.BLOCK_LOCK c :=
    State.rd_wr_apart rfl c c _
  refine ⟨fun hv => ?_, fun hv => ?_, fun hv hseen => ?_, fun hseen => ?_⟩
  · rw [State.laneHeader_valid hl hv]
    split
    · exact State.setLock_rd_apart rfl c 0 c
    · rfl
  · rw [State.laneHeader_invalid hl hv]
    split
    · exact (State.setLock_rd_apart rfl c 0 c).trans hcount
    · exact hcount
  · rw [State.laneHeader_invalid hl hv, if_pos hseen]
    exact State.setLock_rd_self c 0
  · by_cases hv : h = 1 ∨ h = 2
    · rw [State.laneHeader_valid hl hv, if_neg (by omega)]
      exact hl
    · have hv' : h = 0 ∨ h = 3 := by revert hv; revert h; decide
      rw [State.laneHeader_invalid hl hv', if_neg (by omega), State.sees, State.on, State.setSync_rd, hkept]
      exact hl

/-- One header at a lane: the port retrains where it takes the lock of a READY port in LS0. -/
theorem doBlockLockLoss_one (n l : Nat) (h : BitVec 2) : doBlockLockLoss n l [h] s =
    if s.on R.LNE_STATUS.BLOCK_LOCK (lane n l) && !(s.laneHeader (lane n l) h).on R.LNE_STATUS.BLOCK_LOCK (lane n l) &&
      s.portState n == 8 && s.portLs n == 0 then (s.laneHeader (lane n l) h).beginRetrain n
    else s.laneHeader (lane n l) h := rfl

theorem exec_blockLockLoss (n : Fin 4) (l : Fin 8) (hs : List (BitVec 2)) :
    exec (.blockLockLoss n ⟨l, hs⟩) s = .next (doBlockLockLoss n l hs s) := rfl

/-- Whether or not the port retrains, a lane's lock and error count are what the header has made of them. -/
theorem doBlockLockLoss_lane (hn : n < 4) (l : Nat) {g : Fld} (hg : g.page = .lne)
    (hpol : R.LNE_STATUS.POL_INV.apart g = true) (d : Nat) :
    (doBlockLockLoss n l [h] s).rd g d = (s.laneHeader (lane n l) h).rd g d := by
  rw [doBlockLockLoss_one]
  split
  · exact (State.beginRetrain_effect hn).2.2.2 g hg hpol d
  · rfl

/-- A header that leaves a lane its lock, or finds it without, changes no port. -/
theorem doBlockLockLoss_stays {l : Nat} (hl : s.on R.LNE_STATUS.BLOCK_LOCK (lane n l) = false ∨
    (s.laneHeader (lane n l) h).on R.LNE_STATUS.BLOCK_LOCK (lane n l) = true) :
    doBlockLockLoss n l [h] s = s.laneHeader (lane n l) h := by
  rw [doBlockLockLoss_one, if_neg]
  rcases hl with hl | hl <;> simp [hl]

/-- What the search for blocks does with a header. -/
theorem State.laneHeader_hunt_effect (hl : s.on R.LNE_STATUS.BLOCK_LOCK c = false) :
    ((h = 1 ∨ h = 2) → (s.sync c).run = 63 → (s.laneHeader c h).on R.LNE_STATUS.BLOCK_LOCK c = true) ∧
    ((h = 0 ∨ h = 3) → ((s.laneHeader c h).sync c).run = 0 ∧
      ((s.laneHeader c h).sync c).offset = ((s.sync c).offset + 1) % 66 ∧
      (s.laneHeader c h).on R.LNE_STATUS.BLOCK_LOCK c = false) := by
  rw [State.laneHeader_hunts hl]
  refine ⟨fun hv hrun => ?_, fun hv => ?_⟩
  · have hvalid : (h == 1 || h == 2) = true := by simpa using hv
    rw [hvalid, State.huntHeader, if_pos rfl, if_pos (by omega), State.on, State.setLock_rd_self]
    rfl
  · have hvalid : (h == 1 || h == 2) = false := by rcases hv with rfl | rfl <;> rfl
    have hsync : ∀ x : LaneSync, (s.setSync c x).sync c = x := fun x => SMap.get_set_self _ _ _ _
    rw [hvalid, State.huntHeader, if_neg (by simp), hsync]
    exact ⟨rfl, rfl, hl⟩

/-! ## The statement -/

/-- Settles O19: each command of a port is reduced to the stage it begins, the failure it ends in, or the retrain, and the effect
of that operation on the port's and the lanes' fields is cited. -/
theorem portsComeUp : Obligations.PortsComeUp := by
  unfold Obligations.PortsComeUp
  refine ⟨?enable, ?disable, ?stage, ?align, ?reversal, ?deskew, ?latency, ?timeout, ?train, ?mark, ?locked, ?hunting, ?none,
    ?retrained, ?retrainFails, ?retrainTimeout⟩
  case enable => exact fun a n s h hen => ⟨_, exec_portEnable h, doPortEnable_starts n.isLt hen a⟩
  case disable => exact fun a n s h => ⟨_, exec_portDisable h, doPortDisable_effect n.isLt a⟩
  case stage =>
    intro n x raw ord s h1 h3
    refine ⟨_, exec_bringupStageDone n x raw ord, ?_⟩
    have hcases : s.portState n.val = 1 ∨ s.portState n.val = 2 ∨ s.portState n.val = 3 := by omega
    rcases hcases with h | h | h
    · rw [doBringupStageDone_detect h, h]
      refine ⟨State.enterStage_portState _ _, fun _ l hl => ?_, fun h2 => absurd h2 (by decide)⟩
      exact (State.enterStage_rd_lne rfl _ _ _).trans (State.eachLane_wr R.LNE_STATUS.SIGNAL 1 n hl)
    · rw [doBringupStageDone_cdr h, h]
      refine ⟨State.enterStage_portState _ _, fun h1 => absurd h1 (by decide), fun _ l hl => ?_⟩
      exact (State.enterStage_rd_lne rfl _ _ _).trans (State.eachLane_wr R.LNE_STATUS.CDR_LOCK 1 n hl)
    · exact ⟨(doBringupStageDone_polarity h x raw ord).trans (by rw [h]), fun h1 => absurd (h.symm.trans h1) (by decide),
        fun h2 => absurd (h.symm.trans h2) (by decide)⟩
  case align =>
    intro n x raw ord s h
    refine ⟨_, exec_bringupStageDone n x raw ord, ?_⟩
    rw [doBringupStageDone_align h]
    refine ⟨(State.enterStage_portState _ _).trans ?_, fun l hl => ?_⟩
    · split <;> rfl
    · exact (State.enterStage_rd_lne rfl _ _ _).trans (State.eachLane_setLock 1 n hl)
  case reversal =>
    intro n x raw ord rev s h ho hm he hp
    refine ⟨_, exec_bringupStageDone n x raw ord, ?_⟩
    rw [doBringupStageDone_reversal h, State.endReversal_passes ho hm he hp]
    refine ⟨State.enterStage_portState _ _, ?_⟩
    rw [State.enterStage_rd_apart (state_apart_reversed n), State.rd_wr_self]
    cases rev <;> rfl
  case deskew =>
    intro n x raw ord s h he
    refine ⟨_, exec_bringupStageDone n x raw ord, ?_⟩
    rw [doBringupStageDone_deskew h he]
    refine ⟨fun hle => ?_, fun hgt => ?_⟩
    · rw [if_neg (fun hs => by obtain ⟨l, hl, hg⟩ := State.skewed_iff.mp hs; exact absurd (hle l hl) (by omega))]
      exact State.enterStage_portState _ _
    · rw [if_pos (State.skewed_iff.mpr hgt)]
      obtain ⟨hstate, hfail, _⟩ := State.failPort_effect (s := s) n.isLt 6
      exact ⟨hstate, hfail⟩
  case latency =>
    intro n x raw ord s h he
    refine ⟨_, exec_bringupStageDone n x raw ord, ?_⟩
    rw [doBringupStageDone_latency h he]
    refine ⟨fun hle => ?_, fun hgt => ?_⟩
    · rw [if_neg (by omega)]
      obtain ⟨hstate, hls, _⟩ := State.portReady_effect
        (s := s.setLatency n.val (halfTrip false raw.val) (halfTrip true ord.val)) n.isLt
      exact ⟨hstate, hls, (State.portReady_total n.isLt).trans (State.setLatency_total hle _)⟩
    · rw [if_pos hgt]
      obtain ⟨hstate, hfail, _⟩ := State.failPort_effect
        (s := s.setLatency n.val (halfTrip false raw.val) (halfTrip true ord.val)) n.isLt 7
      exact ⟨hstate, hfail⟩
  case timeout =>
    intro n s h1 h7
    refine ⟨_, exec_bringupTimeout n, ?_⟩
    rw [doBringupTimeout_fails h1 h7]
    obtain ⟨hstate, hfail, hint⟩ := State.failPort_effect (s := s) n.isLt (s.portState n.val)
    exact ⟨hstate, hfail.trans (Nat.mod_eq_of_lt (by omega)), hint⟩
  case train =>
    exact fun n l heard id master s h => ⟨_, exec_train n l heard id master, doTrain_effect h l heard.isLt id.isLt master⟩
  case mark => exact fun n l delay s h => ⟨_, exec_laneMark n l delay, doLaneMark_effect h l delay⟩
  case locked =>
    intro n l h s hl
    obtain ⟨hvalid, hinvalid, hlost, hheld⟩ := State.laneHeader_locked (h := h) hl
    have herr := doBlockLockLoss_lane (s := s) (h := h) n.isLt l (g := R.LNE_HDR_ERR.COUNT) rfl rfl (lane n.val l.val)
    have hlock := doBlockLockLoss_lane (s := s) (h := h) n.isLt l (g := R.LNE_STATUS.BLOCK_LOCK) rfl rfl (lane n.val l.val)
    refine ⟨_, exec_blockLockLoss n l [h], fun hv => herr.trans (hvalid hv), fun hv => herr.trans (hinvalid hv),
      fun hv hseen => ⟨hlock.trans (hlost hv hseen), fun hstate hls => ?_⟩, fun hseen => ?_⟩
    · have hoff : (s.laneHeader (lane n.val l.val) h).on R.LNE_STATUS.BLOCK_LOCK (lane n.val l.val) = false := by
        rw [State.on, hlost hv hseen]
        rfl
      rw [doBlockLockLoss_one, if_pos (by simp [hl, hoff, hstate, hls])]
      obtain ⟨hretrain, hint, _⟩ := State.beginRetrain_effect (s := s.laneHeader (lane n.val l.val) h) n.isLt
      exact ⟨hretrain, hint⟩
    · rw [doBlockLockLoss_stays (.inr (hheld hseen))]
      exact ⟨hheld hseen, State.laneHeader_portState n.val⟩
  case hunting =>
    intro n l h s hl
    refine ⟨_, exec_blockLockLoss n l [h], ?_⟩
    rw [doBlockLockLoss_stays (.inl hl)]
    exact ⟨State.laneHeader_portState n.val, State.laneHeader_hunt_effect hl⟩
  case none => exact fun n l s => exec_blockLockLoss n l []
  case retrained =>
    intro n raw ord s h ho hs hp hr
    obtain ⟨rev, ho⟩ := Option.isSome_iff_exists.mp ho
    refine ⟨_, exec_retrainDone n raw ord, ?_⟩
    rw [doRetrainDone_passes h ho hs hp hr]
    obtain ⟨hstate, _, _, hout⟩ := State.portReady_effect
      (s := (s.rerun n.val raw.val ord.val).wr (R.CAS_P_STATUS.REVERSED n.val) 0 (b2n rev)) n.isLt
    have hsent : (s.rerun n.val raw.val ord.val).outbox = s.outbox := (State.setLatency_keeps (M := 6756498953207808) rfl
      (State.eachLane_keeps rfl (Keeps.refl _ s) (fun _ _ ht => State.setLock_keeps rfl ht))).same .out rfl
    refine ⟨?_, ?_, ?_⟩
    · rw [State.portState, State.emit_rd, State.modPort_rd]
      exact hstate
    · rw [State.emit_port, State.port_modPort]
    · rw [State.emit_outbox, State.modPort_outbox, hout, State.wr_outbox, hsent]
  case retrainFails => exact fun n raw ord s h hbad => ⟨_, exec_retrainDone n raw ord, doRetrainDone_fails n.isLt h hbad ord⟩
  case retrainTimeout =>
    intro n s h
    refine ⟨_, exec_retrainTimeout n, ?_⟩
    rw [doRetrainTimeout_fails h]
    obtain ⟨hstate, hfail, _⟩ := State.failPort_effect (s := s) n.isLt 10
    exact ⟨hstate, hfail⟩

end Sys2Proof.Machine

/-! The lane power states of a port (R206, R207). -/

namespace Sys2Proof.Machine
open Sys2Proof

variable {s : State} {n : Nat}

theorem exec_lanePowerRequest {a : Accessor} {n : Fin 4} (h : s.accessCode a .cas 0 (0x80 + 0x20 * n.val) true = 0)
    (q : Fin 4) : exec (.lanePowerRequest a n q) s = .next (doLanePowerRequest a n.val q.val s) :=
  congrArg Host.Outcome.next (State.access_ok h _)

theorem exec_quiet (n : Fin 4) : exec (.quiet n) s = .next (s.powerDown n 1) := rfl

theorem exec_cold (n : Fin 4) : exec (.cold n) s = .next (s.powerDown n 2) := rfl

theorem exec_wakeBurst (n : Fin 4) : exec (.wakeBurst n) s = .next (doWakeBurst n s) := rfl

/-- A request for LS1 or LS2 on a READY port in LS0 of an idle unit goes out (R207). -/
theorem doLanePowerRequest_down {q : Nat} (hq : q = 1 ∨ q = 2) (h8 : s.portState n = 8) (hls : s.portLs n = 0)
    (hu : s.unitState = 0) (a : Accessor) : doLanePowerRequest a n q s =
      ((s.wr (R.CAS_P_CTRL.LS_REQ n) 0 q).emit (.ordered n (lsCode q) 0 0 0)).respond a true 0 := by
  rw [doLanePowerRequest, if_neg (by omega), if_neg (by omega), if_neg (fun h => h.2.1 hu)]
  dsimp only
  rw [if_pos ⟨h8, hls⟩]

/-- A request for LS0 on a READY port in LS1 or LS2 wakes the far end and begins the exit (R206, R207). -/
theorem doLanePowerRequest_up (h8 : s.portState n = 8) (hls : s.portLs n ≠ 0) (a : Accessor) : doLanePowerRequest a n 0 s =
      (((s.wr (R.CAS_P_CTRL.LS_REQ n) 0 0).emit (.wake n)).beginExit n).respond a true 0 := by
  rw [doLanePowerRequest, if_neg (by decide), if_pos rfl]
  dsimp only
  rw [if_pos ⟨h8, hls⟩]

/-! ## The exit to LS0 (R206) -/

/-- A port whose lanes leave a lane power state at a stage. -/
def State.exitAt (s : State) (n st ls : Nat) : State :=
  (((s.enterStage n st).wr (R.CAS_P_STATUS.LS n) 0 0).modPort n (fun x => { x with exit := ls })).showUnit

theorem State.beginExit_ls1 (h : s.portLs n = 1) : s.beginExit n = s.exitAt n 4 1 := by
  simp only [State.beginExit, h, State.exitAt]

theorem State.beginExit_ls2 (h : s.portLs n = 2) : s.beginExit n = (s.lanePll n 1).exitAt n 2 2 := by
  simp only [State.beginExit, h, State.exitAt]

theorem ls_apart_lsReq (n : Nat) : (R.CAS_P_STATUS.LS n).apart (R.CAS_P_CTRL.LS_REQ n) = true :=
  Fld.apart_onPort rfl rfl (.inl (by decide))

theorem lsReq_apart_status (n : Nat) : (R.CAS_P_CTRL.LS_REQ n).apart (R.CAS_P_STATUS.LS n) = true ∧
    (R.CAS_P_CTRL.LS_REQ n).apart (R.CAS_P_STATUS.STATE n) = true :=
  ⟨Fld.apart_onPort rfl rfl (.inl (by decide)), Fld.apart_onPort rfl rfl (.inl (by decide))⟩

/-- LS_REQ stands apart from the fields of `CAS_STATUS`. -/
theorem lsReq_apart_unit (n : Nat) {g : Fld} (hg : g.off = 0x8) : (R.CAS_P_CTRL.LS_REQ n).apart g = true :=
  Fld.apart_of (.inl (by rw [hg]; simp only [R.CAS_P_CTRL.LS_REQ]; omega))

/-- STATE of a port stands apart from the fields of `CAS_STATUS`. -/
theorem state_apart_unit (n : Nat) {g : Fld} (hg : g.off = 0x8) : (R.CAS_P_STATUS.STATE n).apart g = true :=
  Fld.apart_of (.inl (by rw [hg]; simp only [R.CAS_P_STATUS.STATE]; omega))

theorem state_apart_lsReq (n : Nat) : (R.CAS_P_STATUS.STATE n).apart (R.CAS_P_CTRL.LS_REQ n) = true :=
  Fld.apart_onPort rfl rfl (.inl (by decide))

/-- The port is at the stage, in LS0, and remembers what it leaves; the request is as it was. -/
theorem State.exitAt_effect (hn : n < 4) (st ls : Nat) : (s.exitAt n st ls).portState n = st % 16 ∧
    (s.exitAt n st ls).portLs n = 0 ∧ ((s.exitAt n st ls).port n).exit = ls ∧
    (s.exitAt n st ls).rd (R.CAS_P_CTRL.LS_REQ n) 0 = s.rd (R.CAS_P_CTRL.LS_REQ n) 0 ∧
    (s.exitAt n st ls).outbox = (s.enterStage n st).outbox := by
  unfold State.exitAt
  refine ⟨?_, ?_, ?_, ?_, ?_⟩
  · rw [State.portState, State.showUnit_rd_onPort (state_onPort n) hn, State.modPort_rd, State.rd_wr_apart (ls_apart_state n)]
    exact State.enterStage_portState n st
  · rw [State.portLs, State.showUnit_rd_onPort (ls_onPort n) hn, State.modPort_rd, State.rd_wr_self]
    exact Nat.zero_mod _
  · rw [State.showUnit_port, State.port_modPort]
  · rw [State.showUnit_rd_onPort (lsReq_onPort n) hn, State.modPort_rd, State.rd_wr_apart (ls_apart_lsReq n),
      State.enterStage_rd_apart (state_apart_lsReq n)]
  · rw [State.showUnit_outbox, State.modPort_outbox, State.wr_outbox]

/-- In ALIGN each lane sends TRAIN with its number, the CAS_ID and MASTER_SEL (R202). -/
theorem State.enterStage_trains (n : Nat) : (s.enterStage n 4).outbox = s.outbox ++ (List.range 8).map (fun l =>
    Output.ordered n 0x02 l (s.rd R.CAS_STATUS.ID 0) (s.rd R.CAS_STATUS.MASTER 0)) := by
  have hid : (s.setPort n 4).rd R.CAS_STATUS.ID 0 = s.rd R.CAS_STATUS.ID 0 := State.rd_wr_apart (state_apart_unit n rfl) 0 0 4
  have hmaster : (s.setPort n 4).rd R.CAS_STATUS.MASTER 0 = s.rd R.CAS_STATUS.MASTER 0 :=
    State.rd_wr_apart (state_apart_unit n rfl) 0 0 4
  rw [State.enterStage, State.stageSends, if_neg (by decide), if_pos (.inl rfl), State.emits_eq (fun _ _ _ => rfl), hid, hmaster]
  rfl

/-- An exit begins at ALIGN from LS1 and at CDR from LS2 (R206). -/
theorem State.beginExit_effect (hn : n < 4) (hls : s.portLs n = 1 ∨ s.portLs n = 2) :
    (s.beginExit n).portLs n = 0 ∧ (s.beginExit n).rd (R.CAS_P_CTRL.LS_REQ n) 0 = s.rd (R.CAS_P_CTRL.LS_REQ n) 0 ∧
    (s.beginExit n).portState n = (if s.portLs n = 1 then 4 else 2) ∧ ((s.beginExit n).port n).exit = s.portLs n := by
  rcases hls with h | h
  · obtain ⟨hstate, hls, hexit, hreq, _⟩ := State.exitAt_effect (s := s) hn 4 1
    rw [State.beginExit_ls1 h, h]
    exact ⟨hls, hreq, hstate, hexit⟩
  · obtain ⟨hstate, hls, hexit, hreq, _⟩ := State.exitAt_effect (s := s.lanePll n 1) hn 2 2
    rw [State.beginExit_ls2 h, h]
    exact ⟨hls, hreq.trans (State.lanePll_rd (.inl rfl) n 1 0), hstate, hexit⟩

/-! ## The entry to LS1 and LS2 (R206, R207) -/

/-- The answer of a port to QUIET or COLD: none where it is itself the answer to this end's request. -/
def State.powerAnswer (s : State) (n ls : Nat) : State :=
  if s.rd (R.CAS_P_CTRL.LS_REQ n) 0 = ls then s else s.emit (.ordered n (lsCode ls) 0 0 0)

/-- A port before LS is set: in LS2 the clock-data recovery and the lane PLL are off. -/
def State.lanesDown (s : State) (n ls : Nat) : State :=
  if ls = 2 then ((s.powerAnswer n ls).eachLane n (fun s c => s.wr R.LNE_STATUS.CDR_LOCK c 0)).lanePll n 0
  else s.powerAnswer n ls

theorem State.powerDown_eq (h8 : s.portState n = 8) (h0 : s.portLs n = 0) (ls : Nat) :
    s.powerDown n ls = (((s.lanesDown n ls).wr (R.CAS_P_STATUS.LS n) 0 ls).showUnit) := if_pos ⟨h8, h0⟩

theorem State.lanesDown_outbox (n ls : Nat) : (s.lanesDown n ls).outbox = (s.powerAnswer n ls).outbox := by
  unfold State.lanesDown
  split
  · rw [State.lanePll, State.wr_outbox]
    exact (State.eachLane_keeps (M := 4503599627370496) rfl (Keeps.refl _ _) (fun _ _ ht => State.wr_keeps rfl rfl ht)).same
      .out rfl
  · rfl

/-- QUIET or COLD on a READY port in LS0: LS is set, and the answer goes out where the request came from the far end. -/
theorem State.powerDown_effect (hn : n < 4) (h8 : s.portState n = 8) (h0 : s.portLs n = 0) (ls : Nat) :
    (s.powerDown n ls).portLs n = ls % 4 ∧ (s.powerDown n ls).outbox = s.outbox ++
      (if s.rd (R.CAS_P_CTRL.LS_REQ n) 0 = ls then [] else [.ordered n (lsCode ls) 0 0 0]) := by
  rw [State.powerDown_eq h8 h0]
  refine ⟨?_, ?_⟩
  · rw [State.portLs, State.showUnit_rd_onPort (ls_onPort n) hn]
    exact State.rd_wr_self _ _ _
  · rw [State.showUnit_outbox, State.wr_outbox, State.lanesDown_outbox, State.powerAnswer]
    split
    · rw [List.append_nil]
    · rfl

/-- In LS2 no lane of the port has its clock-data recovery (R206). -/
theorem State.powerDown_cdr (h8 : s.portState n = 8) (h0 : s.portLs n = 0) {l : Nat} (hl : l < 8) :
    (s.powerDown n 2).rd R.LNE_STATUS.CDR_LOCK (lane n l) = 0 := by
  rw [State.powerDown_eq h8 h0, State.showUnit_rd_lne rfl, State.rd_wr_apart (Fld.cas_apart_lne rfl rfl), State.lanesDown,
    if_pos rfl, State.lanePll_rd (.inr rfl)]
  exact State.eachLane_wr R.LNE_STATUS.CDR_LOCK 0 n hl

/-- Settles O20: a request goes out or begins the exit, QUIET and COLD enter their state, and WAKE begins the exit from it. -/
theorem lanePowerMoves : Obligations.LanePowerMoves := by
  unfold Obligations.LanePowerMoves
  refine ⟨?down, ?up, ?quiet, ?cold, ?wake⟩
  case down =>
    intro a n q s h hq h8 hls hu
    refine ⟨_, exec_lanePowerRequest h q, ?_⟩
    rw [doLanePowerRequest_down hq h8 hls hu]
    refine ⟨?_, ?_⟩
    · rw [State.respond_rd, State.emit_rd, State.rd_wr_self]
      exact Nat.mod_eq_of_lt q.isLt
    · rw [State.respond_outbox, State.emit_outbox, State.wr_outbox, List.append_assoc]
      rfl
  case up =>
    intro a n s h h8 hls
    refine ⟨_, exec_lanePowerRequest h 0, ?_⟩
    rw [Fin.val_zero, doLanePowerRequest_up h8 (by omega)]
    generalize hs1 : (s.wr (R.CAS_P_CTRL.LS_REQ n.val) 0 0).emit (.wake n.val) = s1
    have hls1 : s1.portLs n.val = 1 := by
      rw [← hs1, State.portLs, State.emit_rd, State.rd_wr_apart (lsReq_apart_status n.val).1]
      exact hls
    have hid : s1.rd R.CAS_STATUS.ID 0 = s.rd R.CAS_STATUS.ID 0 := by
      rw [← hs1, State.emit_rd, State.rd_wr_apart (lsReq_apart_unit n.val rfl)]
    have hmaster : s1.rd R.CAS_STATUS.MASTER 0 = s.rd R.CAS_STATUS.MASTER 0 := by
      rw [← hs1, State.emit_rd, State.rd_wr_apart (lsReq_apart_unit n.val rfl)]
    have hsent : s1.outbox = s.outbox ++ [.wake n.val] := by rw [← hs1, State.emit_outbox, State.wr_outbox]
    obtain ⟨hstate, hls0, _, _, hout⟩ := State.exitAt_effect (s := s1) n.isLt 4 1
    rw [State.beginExit_ls1 hls1]
    refine ⟨hstate, hls0, ?_⟩
    rw [State.respond_outbox, hout, State.enterStage_trains, hsent, hid, hmaster]
    rfl
  case quiet => exact fun n s h8 h0 => ⟨_, exec_quiet n, State.powerDown_effect n.isLt h8 h0 1⟩
  case cold =>
    intro n s h8 h0
    obtain ⟨hls, hout⟩ := State.powerDown_effect n.isLt h8 h0 2
    exact ⟨_, exec_cold n, hls, fun l hl => State.powerDown_cdr h8 h0 hl, hout⟩
  case wake =>
    intro n s h8 hls
    have hls' : (s.wr (R.CAS_P_CTRL.LS_REQ n.val) 0 0).portLs n.val = s.portLs n.val :=
      State.rd_wr_apart (lsReq_apart_status n.val).1 0 0 0
    obtain ⟨hls0, hreq, hstate, hexit⟩ := State.beginExit_effect (s := s.wr (R.CAS_P_CTRL.LS_REQ n.val) 0 0) n.isLt
      (by rwa [hls'])
    refine ⟨_, exec_wakeBurst n, ?_⟩
    rw [doWakeBurst, if_pos ⟨h8, by omega⟩]
    exact ⟨hls0, hreq.trans (State.rd_wr_self _ _ _), hstate.trans (by rw [hls']), hexit.trans hls'⟩

/-! ## NAK without end (R221) -/

theorem exec_nak (n : Fin 4) (sq : BitVec 16) : exec (.nak n sq) s = .next (doNak n sq.toNat s) := rfl

/-- The run of consecutive NAKs of one sequence with a NAK that arrives. -/
def State.nakRunWith (s : State) (n sq : Nat) : Nat :=
  if (s.port n).nakRun != 0 && (s.port n).nakSeq == sq then (s.port n).nakRun + 1 else 1

/-- The frames of the replay buffer from a sequence number onward. -/
def State.framesFrom (s : State) (n sq : Nat) : List Frame :=
  match (s.port n).replayBuf.findIdx? (fun f => f.g % 65536 == sq) with
  | some i => (s.port n).replayBuf.drop i
  | none => []

/-- A NAK that is not the eighth of its sequence is answered by REPLAY and the frames from it onward. -/
def State.replayFrom (s : State) (n sq : Nat) : State :=
  ((s.framesFrom n sq).foldl (fun s f => s.sendFrame n f) ((s.modPort n (fun x => { x with
    nakSeq := sq, nakRun := s.nakRunWith n sq })).emit (.ordered n 0x12 sq 0 0))).count (R.CAS_P_RETRY.COUNT n) 0
      (s.framesFrom n sq).length

theorem doNak_carried (hc : s.carries n = true) (sq : Nat) : doNak n sq s =
    if s.nakRunWith n sq = 8 then (s.modPort n (fun x => { x with nakRun := 0 })).beginRetrain n
    else s.replayFrom n sq := if_neg (by simp [hc])

/-- Settles O22: the run reaches eight, and the retrain keeps the port's own data. -/
theorem eighthNakRetrains : Obligations.EighthNakRetrains := by
  intro n sq s hc hrun hsq
  refine ⟨_, exec_nak n sq, ?_⟩
  have height : s.nakRunWith n.val sq.toNat = 8 := by simp [State.nakRunWith, hrun, hsq]
  rw [doNak_carried hc, if_pos height]
  obtain ⟨hstate, _, hport, _⟩ :=
    State.beginRetrain_effect (s := s.modPort n.val (fun x => { x with nakRun := 0 })) n.isLt
  exact ⟨hstate, by rw [hport, State.port_modPort]⟩

end Sys2Proof.Machine

/-! Frames, their acknowledgement and replay (R210, R218 to R221), and the window onto the net map (R215). -/

namespace Sys2Proof.Machine
open Sys2Proof

variable {s : State} {n : Nat}

theorem exec_cascadeFrameSend (n : Fin 4) : exec (.cascadeFrameSend n) s = .next (doCascadeFrameSend n s) := rfl

theorem exec_cascadeFrameReceive (n : Fin 4) (f : FrameIn) :
    exec (.cascadeFrameReceive n f) s = .next (doCascadeFrameReceive n f s) := rfl

theorem exec_linkStatus (n : Fin 4) (ack : BitVec 16) (credits : BitVec 8) :
    exec (.linkStatus n ack credits) s = .next (doLinkStatus n ack.toNat credits.toNat s) := rfl

theorem exec_replay (n : Fin 4) (sq : BitVec 16) : exec (.replay n sq) s = .next (doReplay n s) := rfl

theorem State.sendFrame_port (n k : Nat) (f : Frame) : (s.sendFrame n f).port k = s.port k := rfl

/-- A port that carries frames is READY in LS0. -/
theorem State.portState_of_carries (h : s.carries n = true) : s.portState n = 8 := by
  simp only [State.carries, Bool.and_eq_true, beq_iff_eq] at h
  exact h.1

/-! ## Sending (R210, R218, R219) -/

/-- The next frame goes out for a credit and stays in the replay buffer. -/
theorem doCascadeFrameSend_sends {f : Frame} {rest : List Frame} (hc : s.carries n = true)
    (hr : (s.port n).ready = f :: rest) (hh : s.rd (R.CAS_P_CREDITS.HELD n) 0 ≠ 0) (hb : (s.port n).replayBuf.length < 32) :
    doCascadeFrameSend n s = ((((s.modPort n (fun x => { x with
      ready := rest, replayBuf := x.replayBuf ++ [f] })).sendFrame n f).wr (R.CAS_P_CREDITS.HELD n) 0
        (s.rd (R.CAS_P_CREDITS.HELD n) 0 - 1)).wr (R.CAS_P_CREDITS.REPLAY_USED n) 0 ((s.port n).replayBuf.length + 1)) := by
  have hgo : ¬(!s.carries n || s.rd (R.CAS_P_CREDITS.HELD n) 0 == 0 || decide (32 ≤ (s.port n).replayBuf.length)) = true := by
    simp [hc, hh, hb]
  simp only [doCascadeFrameSend, hr]
  exact if_neg hgo

/-! ## Receiving (R204, R211, R220) -/

/-- A frame that is the next in sequence: it is buffered, and the one after it is expected. -/
def State.frameTaken (s : State) (n : Nat) (f : FrameIn) : State :=
  (s.modPort n (fun x => { x with
    rx := x.rx ++ [⟨(s.port n).expect, f.pay, f.tags⟩], expect := (s.port n).expect + 1 })).wr (R.CAS_P_CREDITS.RX_USED n) 0
    ((s.port n).rx.length + 1)

/-- A frame whose check fails: what follows is discarded, and NAK asks for it. -/
def State.frameLost (s : State) (n : Nat) : State :=
  ((s.count (R.CAS_P_CRC_ERR.COUNT n) 0 1).modPort n (fun x => { x with discarding := true })).emit
    (.ordered n 0x11 ((s.port n).expect % 65536) 0 0)

theorem doCascadeFrameReceive_test {f : FrameIn} (h : s.portState n = 7 ∨ s.portState n = 10)
    (hf : f.crc.toNat = frameCrc 0 f.pay f.tags) : doCascadeFrameReceive n f s = s.emit (.testFrame n true) := by
  simp only [doCascadeFrameReceive, if_pos h, if_pos hf]

theorem doCascadeFrameReceive_carried (hc : s.carries n = true) (hd : (s.port n).discarding = false) (f : FrameIn) :
    doCascadeFrameReceive n f s = if f.crc.toNat = frameCrc (s.port n).expect f.pay f.tags then
      (if (s.port n).expect % 2 = 1 then (s.frameTaken n f).sendStatus n else s.frameTaken n f) else s.frameLost n := by
  have h8 := State.portState_of_carries hc
  have hstage : ¬(s.portState n = 7 ∨ s.portState n = 10) := by omega
  have hgo : ¬(!s.carries n || (s.port n).discarding) = true := by simp [hc, hd]
  exact (if_neg hstage).trans (if_neg hgo)

theorem State.frameTaken_port (f : FrameIn) : (s.frameTaken n f).port n = { s.port n with
    rx := (s.port n).rx ++ [⟨(s.port n).expect, f.pay, f.tags⟩], expect := (s.port n).expect + 1 } := by
  rw [State.frameTaken, State.wr_port, State.port_modPort]

theorem State.frameTaken_outbox (f : FrameIn) : (s.frameTaken n f).outbox = s.outbox := by
  rw [State.frameTaken, State.wr_outbox, State.modPort_outbox]

/-- LINK_STATUS acknowledges the last frame taken and returns the credits (R211). -/
theorem State.sendStatus_effect : ((s.sendStatus n).port n) = { s.port n with toReturn := 0 } ∧
    (s.sendStatus n).outbox = s.outbox ++ [.ordered n 0x10 (((s.port n).expect + 65535) % 65536) (s.port n).toReturn 0] := by
  unfold State.sendStatus
  exact ⟨by rw [State.port_modPort, State.emit_port], by rw [State.modPort_outbox, State.emit_outbox]⟩

/-- A frame that passes its check is taken, and every second one is acknowledged. -/
theorem doCascadeFrameReceive_takes {f : FrameIn} (hc : s.carries n = true) (hd : (s.port n).discarding = false)
    (hf : f.crc.toNat = frameCrc (s.port n).expect f.pay f.tags) :
    ((doCascadeFrameReceive n f s).port n).expect = (s.port n).expect + 1 ∧
    ((doCascadeFrameReceive n f s).port n).rx = (s.port n).rx ++ [⟨(s.port n).expect, f.pay, f.tags⟩] ∧
    (doCascadeFrameReceive n f s).outbox = s.outbox ++ (if (s.port n).expect % 2 = 1 then
      [.ordered n 0x10 ((s.port n).expect % 65536) (s.port n).toReturn 0] else []) := by
  have hport := State.frameTaken_port (s := s) (n := n) f
  have hsent := State.frameTaken_outbox (s := s) (n := n) f
  rw [doCascadeFrameReceive_carried hc hd, if_pos hf]
  by_cases hodd : (s.port n).expect % 2 = 1
  · obtain ⟨hstatus, hout⟩ := State.sendStatus_effect (s := s.frameTaken n f) (n := n)
    rw [if_pos hodd, if_pos hodd, hstatus, hout, hport, hsent]
    refine ⟨rfl, rfl, ?_⟩
    rw [show ((s.port n).expect + 1 + 65535) % 65536 = (s.port n).expect % 65536 by omega]
  · rw [if_neg hodd, if_neg hodd, hport, hsent, List.append_nil]
    exact ⟨rfl, rfl, rfl⟩

/-- A frame whose check fails is not taken. -/
theorem State.frameLost_effect : ((s.frameLost n).port n).discarding = true ∧ ((s.frameLost n).port n).rx = (s.port n).rx ∧
    (s.frameLost n).outbox = s.outbox ++ [.ordered n 0x11 ((s.port n).expect % 65536) 0 0] := by
  have hport : (s.frameLost n).port n = { s.port n with discarding := true } := by
    rw [State.frameLost, State.emit_port, State.port_modPort, State.count, State.wr_port]
  rw [hport]
  refine ⟨rfl, rfl, ?_⟩
  rw [State.frameLost, State.emit_outbox, State.modPort_outbox, State.count, State.wr_outbox]

/-! ## Acknowledgement and replay (R218 to R221) -/

/-- LINK_STATUS releases the frames acknowledged and adds the credits returned. -/
theorem doLinkStatus_effect (ack credits : Nat) :
    ((doLinkStatus n ack credits s).port n).replayBuf = ackFrames ack (s.port n).replayBuf ∧
    (doLinkStatus n ack credits s).rd (R.CAS_P_CREDITS.HELD n) 0 =
      min (s.rd (R.CAS_P_CREDITS.HELD n) 0 + credits) (2 ^ (R.CAS_P_CREDITS.HELD n).width - 1) := by
  rw [doLinkStatus]
  refine ⟨?_, State.rd_wrSat_self _ _ _⟩
  rw [State.wrSat, State.wr_port, State.wr_port, State.port_modPort]

/-- The first NAK of a sequence, with nothing in the replay buffer, is answered by REPLAY alone. -/
theorem doNak_first (hc : s.carries n = true) (hrun : (s.port n).nakRun = 0) (hb : (s.port n).replayBuf = []) (sq : Nat) :
    ((doNak n sq s).port n).nakSeq = sq ∧ ((doNak n sq s).port n).nakRun = 1 ∧
    (doNak n sq s).outbox = s.outbox ++ [.ordered n 0x12 sq 0 0] := by
  have hone : s.nakRunWith n sq = 1 := by simp [State.nakRunWith, hrun]
  have hnone : s.framesFrom n sq = [] := by simp [State.framesFrom, hb]
  rw [doNak_carried hc, if_neg (by omega), State.replayFrom, hnone, hone, List.foldl_nil, State.count, State.wr_port,
    State.emit_port, State.port_modPort]
  refine ⟨rfl, rfl, ?_⟩
  rw [State.wr_outbox, State.emit_outbox, State.modPort_outbox]

theorem doReplay_carried (hc : s.carries n = true) : doReplay n s = s.modPort n (fun x => { x with discarding := false }) :=
  if_pos hc

/-! ## The window onto the net map (R215) -/

theorem exec_netmapDataWrite {a : Accessor} (h : s.accessCode a .cas 0 0x64 true = 0) (v : W32) :
    exec (.netmapDataWrite a v) s = .next (doNetmapDataWrite a v s) := congrArg Host.Outcome.next (State.access_ok h _)

theorem exec_netmapDataRead {a : Accessor} (h : s.accessCode a .cas 0 0x64 false = 0) :
    exec (.netmapDataRead a) s = .next (doNetmapDataRead a s) := congrArg Host.Outcome.next (State.access_ok h _)

/-- With AUTOINC each access of the window adds one to INDEX; it changes no entry and sends nothing. -/
theorem State.netAdvance_effect : s.netAdvance.rd R.CAS_NETMAP_INDEX.INDEX 0 =
      (if s.on R.CAS_NETMAP_INDEX.AUTOINC 0 = true then (s.rd R.CAS_NETMAP_INDEX.INDEX 0 + 1) % 65536
        else s.rd R.CAS_NETMAP_INDEX.INDEX 0) ∧
    s.netAdvance.netmap = s.netmap ∧ s.netAdvance.outbox = s.outbox := by
  unfold State.netAdvance
  split
  · exact ⟨State.rd_wr_self _ _ _, State.wr_netmap .., State.wr_outbox ..⟩
  · exact ⟨rfl, rfl, rfl⟩

/-- An entry of the net map is set. -/
def State.setEntry (s : State) (k : Nat) (e : W32) : State := { s with netmap := SMap.set 0 s.netmap k e }

@[simp] theorem State.setEntry_rd (k : Nat) (e : W32) (g : Fld) (d : Nat) : (s.setEntry k e).rd g d = s.rd g d := rfl

theorem doNetmapDataWrite_accepted {v : W32}
    (h : s.netRefused (s.rd R.CAS_NETMAP_INDEX.INDEX 0) (v.toNat % 2 ^ 20) = false) (a : Accessor) :
    doNetmapDataWrite a v s = ((s.setEntry (s.rd R.CAS_NETMAP_INDEX.INDEX 0)
      (BitVec.ofNat 32 (v.toNat % 2 ^ 20))).netAdvance).respond a true 0 := if_neg (ne_true_of_eq_false h)

/-- An entry that is not refused is written, and no other. -/
theorem doNetmapDataWrite_effect {v : W32}
    (h : s.netRefused (s.rd R.CAS_NETMAP_INDEX.INDEX 0) (v.toNat % 2 ^ 20) = false) (a : Accessor) :
    (doNetmapDataWrite a v s).netmap =
      SMap.set 0 s.netmap (s.rd R.CAS_NETMAP_INDEX.INDEX 0) (BitVec.ofNat 32 (v.toNat % 2 ^ 20)) ∧
    (doNetmapDataWrite a v s).rd R.CAS_NETMAP_INDEX.INDEX 0 = (if s.on R.CAS_NETMAP_INDEX.AUTOINC 0 = true
      then (s.rd R.CAS_NETMAP_INDEX.INDEX 0 + 1) % 65536 else s.rd R.CAS_NETMAP_INDEX.INDEX 0) := by
  rw [doNetmapDataWrite_accepted h]
  obtain ⟨hindex, hmap, _⟩ := State.netAdvance_effect
    (s := s.setEntry (s.rd R.CAS_NETMAP_INDEX.INDEX 0) (BitVec.ofNat 32 (v.toNat % 2 ^ 20)))
  refine ⟨?_, ?_⟩
  · rw [State.respond_netmap, hmap, State.setEntry]
  · rw [State.respond_rd, hindex, State.on, State.setEntry_rd, State.setEntry_rd, State.on]

/-- Settles O21: each command is reduced to the frame, answer or entry that it makes, and the port's data, its credits and the
outputs are read off. -/
theorem framesAndNetMap : Obligations.FramesAndNetMap := by
  unfold Obligations.FramesAndNetMap
  refine ⟨⟨?send, ?take, ?test, ?lose, ?status, ?nak, ?replay⟩, ?write, ?read⟩
  case send =>
    intro n f rest s hc hr hh hb
    refine ⟨_, exec_cascadeFrameSend n, ?_⟩
    rw [doCascadeFrameSend_sends hc hr hh hb, State.wr_port, State.wr_port, State.sendFrame_port, State.port_modPort]
    refine ⟨rfl, rfl, ?_, ?_⟩
    · rw [State.rd_wr_apart (replayUsed_apart_held n.val), State.rd_wr_self]
    · rw [State.wr_outbox, State.wr_outbox, State.sendFrame, State.emit_outbox, State.modPort_outbox]
  case take => exact fun n f s hc hd hf => ⟨_, exec_cascadeFrameReceive n f, doCascadeFrameReceive_takes hc hd hf⟩
  case test =>
    exact fun n f s h hf => (exec_cascadeFrameReceive n f).trans (congrArg _ (doCascadeFrameReceive_test h hf))
  case lose =>
    intro n f s hc hd hf
    refine ⟨_, exec_cascadeFrameReceive n f, ?_⟩
    rw [doCascadeFrameReceive_carried hc hd, if_neg hf]
    exact State.frameLost_effect
  case status => exact fun n ack credits s => ⟨_, exec_linkStatus n ack credits, doLinkStatus_effect _ _⟩
  case nak => exact fun n sq s hc hrun hb => ⟨_, exec_nak n sq, doNak_first hc hrun hb sq.toNat⟩
  case replay =>
    intro n sq s hc
    refine ⟨_, exec_replay n sq, ?_⟩
    rw [doReplay_carried hc, State.port_modPort]
    exact ⟨rfl, rfl⟩
  case write =>
    intro a v s h hr
    obtain ⟨hmap, hindex⟩ := doNetmapDataWrite_effect hr a
    refine ⟨_, exec_netmapDataWrite h v, ?_, fun k hk => ?_, hindex⟩
    · rw [hmap, SMap.get_set_self]
    · rw [hmap, SMap.get_set_other hk]
  case read =>
    intro a s h
    obtain ⟨_, hmap, hout⟩ := State.netAdvance_effect (s := s)
    refine ⟨_, exec_netmapDataRead h, ?_⟩
    rw [doNetmapDataRead]
    refine ⟨?_, ?_⟩
    · rw [State.respond_netmap, hmap]
    · rw [State.respond_outbox, hout, BitVec.ofNat_toNat, BitVec.setWidth_eq]

end Sys2Proof.Machine

/-! Orders and reports (R194, R195, R217, R227 to R229, R472, R494): what issuing an order adds, what a report does at the master,
and the orders that land, whose statement fails. -/

namespace Sys2Proof.Machine
open Sys2Proof

variable {s : State}

/-! ## Issuing an order (R194, R195, R227) -/

theorem State.modCas_cas (f : Cas → Cas) : (s.modCas f).cas = f s.cas := rfl

/-- An order goes out on every port that leads to children. -/
theorem State.sendDown_eq (k : OrderKind) (countdown arg : Nat) : s.sendDown k countdown arg = { s with
    outbox := s.outbox ++ (onesOf 4 (s.rd R.CAS_TREE.DOWN 0)).map (fun n => Output.ordered n 0x20 (orderNo k) countdown arg) } :=
  State.emits_eq (f := fun _ n => Output.ordered n 0x20 (orderNo k) countdown arg) (fun _ _ _ => rfl) _

/-- An order that is issued goes down the tree and waits here; no register changes. -/
theorem State.issueOrder_effect (k : OrderKind) (countdown arg : Nat) :
    (s.issueOrder k countdown arg).cas = { s.cas with orders := s.cas.orders ++ [⟨k, countdown, arg⟩] } ∧
    (s.issueOrder k countdown arg).regs = s.regs ∧
    (s.issueOrder k countdown arg).outbox = s.outbox ++ (onesOf 4 (s.rd R.CAS_TREE.DOWN 0)).map (fun n =>
      Output.ordered n 0x20 (orderNo k) countdown arg) := by
  rw [State.issueOrder, State.sendDown_eq]
  exact ⟨rfl, rfl, rfl⟩

/-! ## Reports (R195, R228) -/

theorem exec_tagFaultReport (i : Fin 64) (arg : W32) :
    exec (.tagFaultReport i arg) s = .next (doTagFaultReport i.val arg.toNat s) := rfl

theorem exec_stopReqReport (i : Fin 64) (arg : W32) :
    exec (.stopReqReport i arg) s = .next (doStopReqReport i.val arg.toNat s) := rfl

theorem exec_haltReqReport (i : Fin 64) (arg : W32) :
    exec (.haltReqReport i arg) s = .next (doHaltReqReport i.val arg.toNat s) := rfl

theorem exec_throttleReqReport (i : Fin 64) (arg : W32) :
    exec (.throttleReqReport i arg) s = .next (doThrottleReqReport i.val arg.toNat s) := rfl

theorem exec_faultReport (i : Fin 64) (arg : W32) : exec (.faultReport i arg) s = .next (doFaultReport i.val arg.toNat s) := rfl

/-- A report that is not at the master goes on toward it. -/
theorem State.passReport_up (h : s.on R.CAS_TREE.UP_VALID 0 = true) (k : ReportKind) (origin arg : Nat) :
    s.passReport k origin arg = s.emit (.ordered (s.rd R.CAS_TREE.UP_PORT 0) 0x21 (reportNo k) origin arg) := if_pos h

section Master
variable (hm : s.isMaster = true)
include hm

theorem doTagFaultReport_master (i arg : Nat) :
    doTagFaultReport i arg s = s.modCas (fun c => { c with noRelease := true }) := if_pos hm

/-- The first request for a stop sets the cause, and STOP is ordered (R229). -/
theorem doStopReqReport_master (h : s.cas.stopOrdered = false) (i arg : Nat) : doStopReqReport i arg s =
    (s.modCas (fun c => { c with stopOrdered := true, stopCause := arg })).issueOrder .stop s.stopCountdown arg :=
  (if_pos hm).trans (if_neg (ne_true_of_eq_false h))

theorem doHaltReqReport_master (he : s.rd R.DBG_STATUS.EMU 0 = 0)
    (ho : s.cas.orders.any (fun o => o.kind == .halt) = false) (i arg : Nat) :
    doHaltReqReport i arg s = s.issueOrder .halt (s.rd R.CAS_LEAD.TICKS 0) 0 := by
  refine (if_pos hm).trans (if_neg (fun h => h.elim (fun h => h he) (fun h => ?_)))
  rw [ho] at h
  exact absurd h (by decide)

theorem doThrottleReqReport_master (i arg : Nat) : doThrottleReqReport i arg s = s.takeRequest i arg := if_pos hm

theorem doFaultReport_master (i arg : Nat) :
    doFaultReport i arg s = (s.modCas (fun c => { c with failed := true })).showUnit := if_pos hm

end Master

/-- A request is kept with its origin, and the frequency it leads to is ordered (R472). -/
theorem State.takeRequest_effect (origin f : Nat) : (s.takeRequest origin f).throttles =
      (if f = 0 then SMap.del s.throttles origin else SMap.put s.throttles origin f) ∧
    (s.takeRequest origin f).cas.orders =
      s.cas.orders ++ [⟨.stepfreq, s.rd R.CAS_LEAD.TICKS 0, (s.takeRequest origin f).orderedMHz⟩] ∧
    (s.takeRequest origin f).regs = s.regs := by
  rw [State.takeRequest, State.issueOrder, State.sendDown_eq]
  exact ⟨rfl, rfl, rfl⟩

section Outer
variable (hm : s.isMaster = false) (hu : s.on R.CAS_TREE.UP_VALID 0 = true)
include hm hu

/-- Each kind of report goes on toward the master from a package that is not it. -/
theorem reports_pass (i arg : Nat) :
    doTagFaultReport i arg s = s.emit (.ordered (s.rd R.CAS_TREE.UP_PORT 0) 0x21 0 i arg) ∧
    doStopReqReport i arg s = s.emit (.ordered (s.rd R.CAS_TREE.UP_PORT 0) 0x21 1 i arg) ∧
    doHaltReqReport i arg s = s.emit (.ordered (s.rd R.CAS_TREE.UP_PORT 0) 0x21 2 i arg) ∧
    doThrottleReqReport i arg s = s.emit (.ordered (s.rd R.CAS_TREE.UP_PORT 0) 0x21 3 i arg) ∧
    doFaultReport i arg s = s.emit (.ordered (s.rd R.CAS_TREE.UP_PORT 0) 0x21 4 i arg) := by
  have hm' := ne_true_of_eq_false hm
  exact ⟨(if_neg hm').trans (State.passReport_up hu .tagFault i arg), (if_neg hm').trans (State.passReport_up hu .stopReq i arg),
    (if_neg hm').trans (State.passReport_up hu .haltReq i arg), (if_neg hm').trans (State.passReport_up hu .throttleReq i arg),
    (if_neg hm').trans (State.passReport_up hu .fault i arg)⟩

end Outer

/-! ## CAS_STOP (R229) -/

theorem exec_casStop {a : Accessor} (h : s.accessCode a .cas 0 0x4C true = 0) :
    exec (.casStop a) s = .next ((s.requestStop 1).respond a true 0) := congrArg Host.Outcome.next (State.access_ok h _)

theorem State.unitParts_nodup : s.unitParts.Nodup := List.nodup_range.filter _

/-- A partition of the unit that takes its steps is marked for the stop. -/
def State.markStop (s : State) (p : Nat) : State :=
  if s.pstate p == 3 || s.pstate p == 4 then s.wr R.PRT_STATUS.STOP_REQ p 1 else s

/-- Marking changes STOP_REQ alone. -/
theorem State.markStop_rd_apart {g : Fld} (h : R.PRT_STATUS.STOP_REQ.apart g = true) (p d : Nat) :
    (s.markStop p).rd g d = s.rd g d := by
  unfold State.markStop
  split
  · exact State.rd_wr_apart h p d 1
  · rfl

theorem State.markStop_marks {p : Nat} (h : s.pstate p = 3 ∨ s.pstate p = 4) :
    (s.markStop p).rd R.PRT_STATUS.STOP_REQ p = 1 := by
  rw [State.markStop, if_pos (by rcases h with h | h <;> simp [h])]
  exact State.rd_wr_self _ _ _

theorem State.markStop_keeps_mark (q : Nat) {p : Nat} (h : s.rd R.PRT_STATUS.STOP_REQ p = 1) :
    (s.markStop q).rd R.PRT_STATUS.STOP_REQ p = 1 := by
  unfold State.markStop
  split
  · rw [State.rd_wr]
    split
    · rfl
    · exact h
  · exact h

/-- Every partition of a list that takes its steps is marked. -/
theorem State.markStops_mark {l : List Nat} (hd : l.Nodup) {p : Nat} (hp : p ∈ l) (h : s.pstate p = 3 ∨ s.pstate p = 4) :
    (l.foldl State.markStop s).rd R.PRT_STATUS.STOP_REQ p = 1 :=
  foldl_once (I := fun t => t.pstate p = s.pstate p) (Q := fun t => t.rd R.PRT_STATUS.STOP_REQ p = 1) hd hp
    (fun _ ht => State.markStop_marks (by rwa [ht])) (fun _ q _ _ ht => (State.markStop_rd_apart rfl q p).trans ht)
    (fun _ q _ _ ht => State.markStop_keeps_mark q ht) rfl

theorem State.markStops_frame (l : List Nat) : (l.foldl State.markStop s).cas = s.cas ∧
    (l.foldl State.markStop s).isMaster = s.isMaster := by
  have hmark : ∀ (t : State) (p : Nat), (t.markStop p).cas = t.cas := fun t p => by unfold State.markStop; split <;> rfl
  refine ⟨List.foldlRecOn (motive := fun t : State => t.cas = s.cas) _ _ rfl (fun t ht p _ => (hmark t p).trans ht), ?_⟩
  refine List.foldlRecOn (motive := fun t : State => t.isMaster = s.isMaster) _ _ rfl (fun t ht p _ => ?_)
  rw [State.isMaster, State.on, State.markStop_rd_apart rfl, ← State.on, ← State.isMaster]
  exact ht

/-- The master that has not ordered STOP marks its partitions and orders it. -/
theorem State.requestStop_master (hm : s.isMaster = true) (h : s.cas.stopOrdered = false) (cause : Nat) :
    s.requestStop cause = ((s.unitParts.foldl State.markStop s).modCas (fun c => { c with
      stopOrdered := true, stopCause := cause })).issueOrder .stop (s.unitParts.foldl State.markStop s).stopCountdown cause := by
  obtain ⟨hcas, hmaster⟩ := State.markStops_frame (s := s) s.unitParts
  have hno : ¬(s.unitParts.foldl State.markStop s).cas.stopOrdered = true := by
    rw [hcas]
    exact ne_true_of_eq_false h
  exact (if_pos (hmaster.trans hm)).trans (if_neg hno)

/-! ## The orders that land (R108, R198, R493) -/

theorem exec_unhaltOrder : exec .unhaltOrder s = .next (doUnhaltOrder s) := rfl

/-- The master of a running unit under REL_MODE 10, whose emulation is halted: UNHALT waits, and release line 0, which the unit's
releases follow, has risen during the halt. -/
def haltedMaster : State :=
  (({ State.reset with cas := { started := true, mode := 2, orders := [⟨.unhalt, 0, 0⟩] }, haltEdges := [(0, true)] } : State).wr
    R.CAS_STATUS.MASTER 0 1).wr R.DBG_STATUS.EMU 0 2

/-- UNHALT leaves its queue, and the edge, which is taken on the first restarted tick, makes the master order a RELEASE. -/
theorem haltedMaster_orders_release :
    (doUnhaltOrder haltedMaster).cas.orders = [⟨.release, haltedMaster.rd R.CAS_LEAD.TICKS 0 + 2, 0⟩] := by decide +kernel

/-- Refutes O23: its clause on UNHALT_ORDER says that the waiting orders are those before without the UNHALT, but at the master a
release line whose level changed during the halt counts as an edge at its end (R108), and such an edge orders RELEASE (R198). -/
theorem not_ordersLand : ¬ Obligations.OrdersLand := by
  intro h
  unfold Obligations.OrdersLand at h
  obtain ⟨-, -, -, -, -, -, hunhalt, -⟩ := h
  obtain ⟨t, ht, -, -, -, horders, -⟩ := hunhalt ⟨.unhalt, 0, 0⟩ haltedMaster (by decide +kernel) (by decide +kernel)
  rw [exec_unhaltOrder] at ht
  rw [← Host.Outcome.next.inj ht, haltedMaster_orders_release] at horders
  exact absurd horders (by decide +kernel)

end Sys2Proof.Machine

/-! What HOLD_N depends on, the slots, the hold, the start, and the period (R198, R222, R223, R230, R231). -/

namespace Sys2Proof.Machine
open Sys2Proof

variable {s t : State}

/-! ## The partitions of the unit (R110, R198) -/

/-- Which partitions belong to the unit, and which of them the master releases, is fixed by the PRT_ page and the net map. -/
theorem State.unitParts_of (hrd : ∀ g : Fld, g.page = .prt → ∀ d, t.rd g d = s.rd g d) (hnet : t.netmap = s.netmap) :
    t.unitParts = s.unitParts ∧ t.masterParts = s.masterParts := by
  have hin : ∀ p, t.inUnit p = s.inUnit p := fun p => by
    simp only [State.inUnit, hnet, hrd R.PRT_BUNCHES_LO.MEMBER rfl, hrd R.PRT_BUNCHES_HI.MEMBER rfl,
      hrd R.PRT_CTRL.REL_SRC rfl]
  have hunit : t.unitParts = s.unitParts := by simp only [State.unitParts, hin]
  exact ⟨hunit, by simp only [State.masterParts, hunit, hrd R.PRT_CTRL.REL_SRC rfl]⟩

/-- Two states agree on what HOLD_N depends on beside the cascade logic: the registers outside `CAS_STATUS`, the net map, the
partitions, the ports, and the retention check. -/
structure SameUnit (s t : State) : Prop where
  rd : ∀ g : Fld, R.CAS_STATUS.UNIT_STATE.off ≠ g.off % 4096 ∨ g.page ≠ .cas → ∀ d, t.rd g d = s.rd g d
  netmap : t.netmap = s.netmap
  parts : t.parts = s.parts
  ports : t.casPorts = s.casPorts
  dip : t.dipPassed = s.dipPassed

namespace SameUnit

theorem prt (h : SameUnit s t) (g : Fld) (hg : g.page = .prt) (d : Nat) : t.rd g d = s.rd g d :=
  h.rd g (.inr (by rw [hg]; decide)) d

theorem unitParts (h : SameUnit s t) : t.unitParts = s.unitParts := (State.unitParts_of h.prt h.netmap).1

theorem pstate (h : SameUnit s t) (p : Nat) : t.pstate p = s.pstate p := h.prt _ rfl p

theorem unitPort (h : SameUnit s t) (n : Nat) : t.unitPort n = s.unitPort n := by
  simp only [State.unitPort, State.treePort, State.netPort, State.on, h.netmap, h.rd R.CAS_TREE.UP_VALID (.inl (by decide)),
    h.rd R.CAS_TREE.UP_PORT (.inl (by decide)), h.rd R.CAS_TREE.DOWN (.inl (by decide))]

theorem portState (h : SameUnit s t) (n : Nat) : t.portState n = s.portState n :=
  h.rd _ (.inl (by simp only [R.CAS_STATUS.UNIT_STATE, R.CAS_P_STATUS.STATE]; omega)) 0

theorem portLs (h : SameUnit s t) (n : Nat) : t.portLs n = s.portLs n :=
  h.rd _ (.inl (by simp only [R.CAS_STATUS.UNIT_STATE, R.CAS_P_STATUS.LS]; omega)) 0

theorem part (h : SameUnit s t) (p : Nat) : t.part p = s.part p := by rw [State.part, h.parts, State.part]

theorem lags (h : SameUnit s t) (p : Nat) : t.lags p = s.lags p := by
  simp only [State.lags, State.stepLive, State.rd64, h.pstate, h.part, h.dip, h.prt R.PRT_CYCLE_LO.COUNT rfl,
    h.prt R.PRT_CYCLE_HI.COUNT rfl]

/-- The reasons of R224, R227 and R231. -/
theorem holdReasons (h : SameUnit s t) (hl : t.cas.lateHold = s.cas.lateHold) (hd : t.cas.doneHold = s.cas.doneHold) :
    t.holdReasons = s.holdReasons := by
  simp only [State.holdReasons, State.on, h.unitPort, h.portState, h.unitParts, h.lags, hl, hd,
    h.rd R.CAS_CTRL.HOLD_FORCE (.inl (by decide))]

/-- The conditions of R230. -/
theorem mayRelease (h : SameUnit s t) : t.mayRelease = s.mayRelease := by
  simp only [State.mayRelease, State.on, h.unitPort, h.portState, h.portLs, h.unitParts, h.pstate,
    h.rd R.CAS_CTRL.JOIN (.inl (by decide))]

theorem stepReady (h : SameUnit s t) (k : Nat) : t.stepReady k = s.stepReady k := by
  have hdepth : t.unitDepth = s.unitDepth := by
    simp only [State.unitDepth, h.unitParts, State.depth, h.prt R.PRT_CTRL.DEPTH rfl]
  have hentry : t.netEntry = s.netEntry := by
    funext dir port st slot
    rw [State.netEntry, h.netmap, State.netEntry]
  have hpresent : t.present = s.present := by
    funext n d
    rw [State.present, State.rxFrame, State.port, h.ports, State.present, State.rxFrame, State.port]
  rw [State.stepReady, State.deliveries, hentry, hpresent, hdepth, State.stepReady, State.deliveries]

/-- The deliveries of R222. -/
theorem missing (h : SameUnit s t) (hc : t.cas.held = s.cas.held) : t.missing = s.missing := by
  have hstep : t.casStep = s.casStep := by
    simp only [State.casStep, State.rd64, h.rd R.CAS_STEP_LO.COUNT (.inl (by decide)),
      h.rd R.CAS_STEP_HI.COUNT (.inl (by decide))]
  simp only [State.missing, hstep, h.stepReady, hc]

/-- A write to `CAS_STATUS`. -/
theorem wr {f : Fld} (hp : f.page = .cas) (ho : f.off = 0x8) (v : Nat) : SameUnit s (s.wr f 0 v) where
  rd g hg d := by
    refine State.rd_wr_apart ?_ 0 d v
    rcases hg with hg | hg
    · exact Fld.apart_of (.inl (by rw [ho]; exact hg))
    · exact Fld.apart_of_page (by rw [hp]; exact fun e => hg e.symm)
  netmap := rfl
  parts := rfl
  ports := rfl
  dip := rfl

end SameUnit

/-! ## What is shown (R222, R230, R232) -/

theorem State.showUnit_started (h : s.cas.started = true) : s.showUnit = s.wr R.CAS_STATUS.UNIT_STATE 0 s.unitState :=
  if_pos h

/-- Showing the unit changes, of the cascade logic, only whether HOLD_N has been released before START. -/
theorem State.showUnit_waits (h : s.cas.started = false) : s.showUnit.cas = { s.cas with
    released := s.cas.released || s.mayRelease } := by
  have hno : ¬(s.wr R.CAS_STATUS.UNIT_STATE 0 s.unitState).cas.started = true := ne_true_of_eq_false h
  have hfree : (s.wr R.CAS_STATUS.UNIT_STATE 0 s.unitState).mayRelease = s.mayRelease :=
    (SameUnit.wr rfl rfl s.unitState).mayRelease
  rw [State.showUnit]
  dsimp only
  rw [if_neg hno, hfree]
  rfl

/-- What HOLD_N depends on beside the cascade logic is as before. -/
theorem State.showUnit_same : SameUnit s s.showUnit where
  rd g hg d := by
    have hapart : ∀ f : Fld, f.page = .cas → f.off = 0x8 → f.apart g = true := fun f hp ho =>
      hg.elim (fun hg => Fld.apart_of (.inl (by rw [ho]; exact hg)))
        (fun hg => Fld.apart_of_page (by rw [hp]; exact fun e => hg e.symm))
    exact State.showUnit_rd_apart (hapart _ rfl rfl) (hapart _ rfl rfl) d
  netmap := State.showUnit_keeps_all.same .netmap rfl
  parts := State.showUnit_keeps_all.same .parts rfl
  ports := (State.showUnit_keeps_all.same .ports rfl).1
  dip := (State.showUnit_keeps_all.same .dip rfl).2.2.2.2

/-- Before START a package drives HOLD_N low for the reasons of R224, or while it may not release it (R230). -/
theorem State.showUnit_drivesLow_waits (h : s.cas.started = false) :
    s.showUnit.drivesLow = (s.holdReasons || !(s.cas.released || s.mayRelease)) := by
  have hcas := State.showUnit_waits h
  have hreasons : s.showUnit.holdReasons = s.holdReasons := State.showUnit_same.holdReasons (by rw [hcas]) (by rw [hcas])
  simp only [State.drivesLow, hreasons, hcas, h, Bool.false_eq_true, if_false]

/-- After START showing the unit leaves whether it drives HOLD_N low. -/
theorem State.showUnit_drivesLow_started (h : s.cas.started = true) : s.showUnit.drivesLow = s.drivesLow := by
  have hcas : s.showUnit.cas = s.cas := by rw [State.showUnit_started h, State.wr_cas]
  have hreasons : s.showUnit.holdReasons = s.holdReasons := State.showUnit_same.holdReasons (by rw [hcas]) (by rw [hcas])
  have hmissing : s.showUnit.missing = s.missing := State.showUnit_same.missing (by rw [hcas])
  simp only [State.drivesLow, hreasons, hmissing, hcas]

theorem State.showUnit_isMaster : s.showUnit.isMaster = s.isMaster := by
  rw [State.isMaster, State.on, State.showUnit_rd_apart rfl rfl, ← State.on, ← State.isMaster]

/-! ## Counting on to a tick (R196, R227) -/

theorem State.reachTick_rd {g : Fld} (hlo : R.CAS_TICK_LO.COUNT.apart g = true) (hhi : R.CAS_TICK_HI.COUNT.apart g = true)
    (t d : Nat) : (s.reachTick t).rd g d = s.rd g d := by
  rw [State.reachTick, State.modCas_rd, State.setTick, State.wr64, State.rd_wr_apart hhi, State.rd_wr_apart hlo]

theorem State.reachTick_cas (t : Nat) : ∃ l, (s.reachTick t).cas = { s.cas with orders := l } := ⟨_, rfl⟩

end Sys2Proof.Machine

/-! The slots, the hold, the start, the period and a fall of DONE as commands (R198, R222, R223, R230, R231), and the statement. -/

namespace Sys2Proof.Machine
open Sys2Proof

variable {s : State}

/-! ## A slot (R222, R230) -/

theorem exec_holdSlotCheck (tick : BitVec 64) (low done : Bool) :
    exec (.holdSlotCheck tick low done) s = .next (doHoldSlotCheck tick.toNat low done s) := rfl

/-- What a slot shows: HOLD_N as this package drives it, and both lines as they are sampled. -/
def State.slotShown (s : State) (low done : Bool) : State :=
  ((s.showUnit.wr R.CAS_STATUS.HOLD_OUT 0 (b2n s.showUnit.drivesLow)).wr R.CAS_STATUS.HOLD_IN 0
    (b2n (low || s.showUnit.drivesLow))).wr R.CAS_STATUS.DONE_IN 0 (b2n done)

theorem doHoldSlotCheck_between {tick : Nat} (hs : s.cas.started = true) (h : tick % 8 ≠ 0) (low done : Bool) :
    doHoldSlotCheck tick low done s = s := if_pos (by simp [hs, h])

theorem doHoldSlotCheck_slot {tick : Nat} (h : s.cas.started = false ∨ tick % 8 = 0) (low done : Bool) :
    doHoldSlotCheck tick low done s =
      if (s.slotShown low done).cas.started then
        if low || s.showUnit.drivesLow then ((s.slotShown low done).reachTick tick).lowSample tick
        else ((s.slotShown low done).reachTick tick).highSample
      else if (s.slotShown low done).isMaster && (s.slotShown low done).cas.waiting then
        (s.slotShown low done).modCas (fun c => { c with
          highRun := if !(low || s.showUnit.drivesLow) && done then c.highRun + 1 else 0 })
      else s.slotShown low done :=
  if_neg (by rcases h with h | h <;> simp [h])

theorem State.slotShown_cas (low done : Bool) : (s.slotShown low done).cas = s.showUnit.cas := by
  rw [State.slotShown, State.wr_cas, State.wr_cas, State.wr_cas]

theorem State.slotShown_isMaster (low done : Bool) : (s.slotShown low done).isMaster = s.isMaster := by
  rw [State.isMaster, State.on, State.slotShown, State.rd_wr_apart rfl, State.rd_wr_apart rfl, State.rd_wr_apart rfl,
    ← State.on, ← State.isMaster, State.showUnit_isMaster]

theorem rd_bit (f : Fld) (hw : f.width = 1) (c : Nat) (b : Bool) : (s.wr f c (b2n b)).rd f c = b2n b := by
  rw [State.rd_wr_self, hw]
  cases b <;> rfl

theorem State.slotShown_lines (low done : Bool) :
    (s.slotShown low done).rd R.CAS_STATUS.HOLD_IN 0 = b2n (low || s.showUnit.drivesLow) ∧
    (s.slotShown low done).rd R.CAS_STATUS.DONE_IN 0 = b2n done := by
  refine ⟨?_, rd_bit _ rfl _ _⟩
  rw [State.slotShown, State.rd_wr_apart rfl]
  exact rd_bit _ rfl _ _

/-- A low sample while the unit runs: a hold from the 16th tick on, unless one is under way already (R222). -/
theorem State.lowSample_holds (h : s.cas.held = false) (tick : Nat) :
    (s.cas.holdAt = none → (s.lowSample tick).cas.holdAt = some (tick + 16)) ∧
    (s.cas.holdAt ≠ none → (s.lowSample tick).cas.holdAt = s.cas.holdAt) := by
  rw [State.lowSample, if_neg (ne_true_of_eq_false h), State.modCas_cas]
  cases s.cas.holdAt with
  | none => exact ⟨fun _ => rfl, fun hne => absurd rfl hne⟩
  | some h => exact ⟨fun he => (nomatch he), fun _ => rfl⟩

theorem State.lowSample_rd (tick : Nat) (g : Fld) (d : Nat) : (s.lowSample tick).rd g d = s.rd g d := by
  unfold State.lowSample
  split
  · exact State.modCas_rd _ g d
  · exact State.modCas_rd _ g d

/-- A slot tick at which HOLD_N is low, of a unit that runs. -/
theorem doHoldSlotCheck_low {tick : Nat} {low : Bool} (hs : s.cas.started = true) (hh : s.cas.held = false) (ht : tick % 8 = 0)
    (hl : low = true ∨ s.drivesLow = true) (done : Bool) :
    (doHoldSlotCheck tick low done s).rd R.CAS_STATUS.HOLD_IN 0 = 1 ∧
    (doHoldSlotCheck tick low done s).rd R.CAS_STATUS.DONE_IN 0 = b2n done ∧
    (s.cas.holdAt = none → (doHoldSlotCheck tick low done s).cas.holdAt = some (tick + 16)) ∧
    (s.cas.holdAt ≠ none → (doHoldSlotCheck tick low done s).cas.holdAt = s.cas.holdAt) := by
  have hlow : (low || s.showUnit.drivesLow) = true := by
    rw [State.showUnit_drivesLow_started hs]
    rcases hl with h | h <;> simp [h]
  have hcas : (s.slotShown low done).cas = s.cas := by
    rw [State.slotShown_cas, State.showUnit_started hs, State.wr_cas]
  obtain ⟨hin, hdone⟩ := State.slotShown_lines (s := s) low done
  obtain ⟨l, hreach⟩ := State.reachTick_cas (s := s.slotShown low done) tick
  obtain ⟨hnew, hold⟩ := State.lowSample_holds (s := (s.slotShown low done).reachTick tick)
    (by rw [hreach, hcas]; exact hh) tick
  rw [doHoldSlotCheck_slot (.inr ht), if_pos (by rw [hcas]; exact hs), if_pos hlow]
  rw [hreach, hcas] at hnew hold
  refine ⟨?_, ?_, hnew, hold⟩
  · rw [State.lowSample_rd, State.reachTick_rd rfl rfl, hin, hlow]
    rfl
  · rw [State.lowSample_rd, State.reachTick_rd rfl rfl, hdone]

/-- A slot before START at the master that waits: the run of slots with both lines high (R230). -/
theorem doHoldSlotCheck_waits (hs : s.cas.started = false) (hm : s.isMaster = true) (hw : s.cas.waiting = true)
    (tick : Nat) (low done : Bool) : (doHoldSlotCheck tick low done s).cas.highRun =
      (if low = false ∧ s.holdReasons = false ∧ (s.cas.released = true ∨ s.mayRelease = true) ∧ done = true
        then s.cas.highRun + 1 else 0) := by
  have hcas : (s.slotShown low done).cas = { s.cas with released := s.cas.released || s.mayRelease } :=
    (State.slotShown_cas low done).trans (State.showUnit_waits hs)
  rw [doHoldSlotCheck_slot (.inl hs), if_neg (by rw [hcas]; exact ne_true_of_eq_false hs),
    if_pos (by simp [State.slotShown_isMaster, hm, hcas, hw]), State.modCas_cas, hcas, State.showUnit_drivesLow_waits hs]
  refine if_congr ?_ rfl rfl
  simp only [Bool.and_eq_true, Bool.not_eq_true', Bool.or_eq_false_iff, Bool.not_eq_false', Bool.or_eq_true, and_assoc]

/-! ## The hold (R223, R225, R257) -/

theorem exec_holdBegin (tick : BitVec 64) : exec (.holdBegin tick) s = .next (doHoldBegin tick.toNat s) := rfl

/-- At the begin of a hold a partition is held, or owes the steps by which it lags. -/
def State.holdPart (h : Nat) (s : State) (p : Nat) : State :=
  if s.owed p h = 0 then s.hold p causeCascade else s.modPart p (fun x => { x with deficit := s.owed p h })

/-- Holding partitions changes neither a register nor the cascade logic. -/
theorem State.holdParts_frame (h : Nat) (l : List Nat) : (l.foldl (State.holdPart h) s).regs = s.regs ∧
    (l.foldl (State.holdPart h) s).cas = s.cas := by
  refine List.foldlRecOn (motive := fun t : State => t.regs = s.regs ∧ t.cas = s.cas) _ _ ⟨rfl, rfl⟩ (fun t ht p _ => ?_)
  unfold State.holdPart
  split
  · exact ht
  · exact ht

/-- The unit is held from a tick on. -/
def State.heldFrom (s : State) (tick : Nat) : State :=
  (s.reachTick tick).modCas (fun c => { c with held := true, holdAt := none })

theorem doHoldBegin_begins {tick h : Nat} (hh : s.cas.holdAt = some h) (ht : h ≤ tick) (hs : s.cas.started = true) :
    doHoldBegin tick s = ((((s.heldFrom tick).unitParts.foldl (State.holdPart h) (s.heldFrom tick)).count
      R.CAS_HOLD_COUNT.COUNT 0 1).raise .cas 0 4).showUnit := by
  have hgo : ¬(tick < h || !s.cas.started) = true := by simp [hs, ht]
  simp only [doHoldBegin, hh]
  exact if_neg hgo

theorem doHoldBegin_effect {tick h : Nat} (hh : s.cas.holdAt = some h) (ht : h ≤ tick) (hs : s.cas.started = true) :
    (doHoldBegin tick s).cas.held = true ∧ (doHoldBegin tick s).cas.holdAt = none ∧
    (doHoldBegin tick s).rd R.CAS_HOLD_COUNT.COUNT 0 = satAdd 32 (s.rd R.CAS_HOLD_COUNT.COUNT 0) 1 ∧
    (doHoldBegin tick s).rd (intBit .cas 4) 0 = 1 := by
  have hcount : (s.heldFrom tick).rd R.CAS_HOLD_COUNT.COUNT 0 = s.rd R.CAS_HOLD_COUNT.COUNT 0 := by
    rw [State.heldFrom, State.modCas_rd, State.reachTick_rd rfl rfl]
  have hheld : (s.heldFrom tick).cas.held = true ∧ (s.heldFrom tick).cas.holdAt = none := ⟨rfl, rfl⟩
  rw [doHoldBegin_begins hh ht hs]
  generalize s.heldFrom tick = s1 at *
  obtain ⟨hregs, hcas⟩ := State.holdParts_frame (s := s1) h s1.unitParts
  generalize s1.unitParts.foldl (State.holdPart h) s1 = s2 at *
  obtain ⟨r, hshown⟩ := State.showUnit_cas (s := (s2.count R.CAS_HOLD_COUNT.COUNT 0 1).raise .cas 0 4)
  rw [hshown, State.raise_cas, State.count, State.wr_cas, hcas, ← State.count]
  refine ⟨hheld.1, hheld.2, ?_, ?_⟩
  · rw [State.showUnit_rd_apart rfl rfl, State.raise_rd_apart rfl, State.rd_count_self, State.rd_of_regs hregs, hcount]
    rfl
  · rw [State.showUnit_rd_apart rfl rfl]
    exact State.raise_self _ _ _

/-! ## START (R198, R230) -/

theorem exec_startIssue : exec .startIssue s = .next (doStartIssue s) := rfl

theorem doStartIssue_issues (hm : s.isMaster = true) (hw : s.cas.waiting = true) (hr : 8 ≤ s.cas.highRun)
    (ho : s.cas.orders.any (fun o => o.kind == .start) = false) (ha : s.startAllowed = true) :
    doStartIssue s = s.issueOrder .start (s.rd R.CAS_LEAD.TICKS 0) (s.rd R.CAS_CTRL.REL_MODE 0) :=
  if_pos (by rw [hm, hw, ho, ha, decide_eq_true hr]; rfl)

/-! ## The period (R198) -/

theorem exec_periodRelease (tick : BitVec 64) (b : Inbound) :
    exec (.periodRelease tick b) s = .next (doPeriodRelease tick.toNat b s) := rfl

/-- An Armed partition that does not wait for its clock begins its cycle at a release (R86). -/
theorem State.release_armed {p : Nat} (hf : s.isFollower p = false) (hs : (s.part p).single = false) (h3 : s.pstate p = 3)
    (hl : s.on R.PRT_STATUS.WAIT_LOCK p = false) (b : Inbound) : s.release p b = s.beginCycle p b := by
  rw [State.release, if_neg (by simp [hf, hs]), if_pos ⟨h3, by simp [hl]⟩]

/-- The next release of the period has come. -/
def State.periodOver (s : State) (tick : Nat) : State :=
  (s.reachTick tick).modCas (fun c => { c with nextRel := c.nextRel + s.rd R.CAS_REL_PERIOD.TICKS 0 })

theorem doPeriodRelease_releases {tick : Nat} (hs : s.cas.started = true) (hmode : s.cas.mode = 1)
    (hno : s.cas.noRelease = false) (ht : s.cas.nextRel ≤ tick) (b : Inbound) :
    doPeriodRelease tick b s =
      (s.periodOver tick).masterParts.foldl (fun s p => s.release p b) (s.periodOver tick) :=
  if_pos (by simp [hs, hmode, hno, ht])

theorem State.periodOver_rd {g : Fld} (hg : g.page ≠ .cas) (tick d : Nat) : (s.periodOver tick).rd g d = s.rd g d := by
  have hpage : ∀ f : Fld, f.page = .cas → f.apart g = true := fun f hf =>
    Fld.apart_of_page (by rw [hf]; exact hg.symm)
  rw [State.periodOver, State.modCas_rd, State.reachTick_rd (hpage _ rfl) (hpage _ rfl)]

/-- Releases leave the cascade logic as it is. -/
theorem State.releases_cas (b : Inbound) (l : List Nat) : (l.foldl (fun s p => s.release p b) s).cas = s.cas :=
  (keeps_foldl (M := 441371455532307969) (Keeps.refl _ s) (fun _ _ h => State.release_keeps rfl h)).same .cas rfl

/-- A package's one partition that the master releases begins its cycle at the period's release. -/
theorem doPeriodRelease_begins {tick p : Nat} (hs : s.cas.started = true) (hmode : s.cas.mode = 1)
    (hno : s.cas.noRelease = false) (ht : s.cas.nextRel ≤ tick) (b : Inbound) (hone : s.masterParts = [p])
    (hf : s.isFollower p = false) (hsingle : (s.part p).single = false) (h3 : s.pstate p = 3)
    (hl : s.on R.PRT_STATUS.WAIT_LOCK p = false) :
    (doPeriodRelease tick b s).pstate p = 4 ∧ ((doPeriodRelease tick b s).part p).inCycle = true := by
  have hprt : ∀ g : Fld, g.page = .prt → ∀ d, (s.periodOver tick).rd g d = s.rd g d := fun g hg =>
    State.periodOver_rd (by rw [hg]; decide) tick
  have hparts : (s.periodOver tick).masterParts = [p] := ((State.unitParts_of hprt rfl).2).trans hone
  have hstate : (s.periodOver tick).pstate p = 3 := (hprt _ rfl p).trans h3
  have hfollower : (s.periodOver tick).isFollower p = false := by
    rw [State.isFollower, State.role, State.periodOver_rd (show Page.res ≠ .cas by decide), ← State.role, ← State.isFollower]
    exact hf
  have hwait : (s.periodOver tick).on R.PRT_STATUS.WAIT_LOCK p = false := by
    rw [State.on, hprt _ rfl, ← State.on]
    exact hl
  rw [doPeriodRelease_releases hs hmode hno ht, hparts, List.foldl_cons, List.foldl_nil,
    State.release_armed hfollower hsingle hstate hwait]
  obtain ⟨h4, hcycle, _⟩ := State.beginCycle_effect (.inl hstate) b
  exact ⟨h4, hcycle⟩

/-! ## A fall of DONE (R231) -/

theorem exec_doneFall : exec .doneFall s = .next (doDoneFall s) := rfl

/-- After START the master keeps HOLD_N low from a fall of DONE on. -/
theorem doDoneFall_effect (hm : s.isMaster = true) (hs : s.cas.started = true) :
    (doDoneFall s).rd R.CAS_STATUS.DONE_IN 0 = 0 ∧ (doDoneFall s).cas.doneHold = true ∧ (doDoneFall s).drivesLow = true ∧
    (doDoneFall s).rd (intBit .cas 2) 0 = 1 := by
  have hmaster : (s.wr R.CAS_STATUS.DONE_IN 0 0).isMaster = true := (congrArg (· == 1) (State.rd_wr_apart rfl 0 0 0)).trans hm
  have hfall : doDoneFall s = (((s.wr R.CAS_STATUS.DONE_IN 0 0).raise .cas 0 2).modCas (fun c => { c with
    doneHold := true })).showUnit := if_pos (by rw [hmaster, State.wr_cas, hs]; rfl)
  rw [hfall]
  generalize hs1 : ((s.wr R.CAS_STATUS.DONE_IN 0 0).raise .cas 0 2).modCas (fun c => { c with doneHold := true }) = s1
  have hhold : s1.cas.doneHold = true := by rw [← hs1, State.modCas_cas]
  obtain ⟨r, hcas⟩ := State.showUnit_cas (s := s1)
  have hhold' : s1.showUnit.cas.doneHold = true := by rw [hcas]; exact hhold
  refine ⟨?_, hhold', ?_, ?_⟩
  · rw [State.showUnit_rd_apart rfl rfl, ← hs1, State.modCas_rd, State.raise_rd_apart rfl, State.rd_wr_self]
    exact Nat.zero_mod _
  · simp [State.drivesLow, State.holdReasons, hhold']
  · rw [State.showUnit_rd_apart rfl rfl, ← hs1, State.modCas_rd]
    exact State.raise_self _ _ _

/-! ## The statement -/

/-- Settles O24: a report acts at the master or is passed on, and the slots, the hold, START, the period and DONE act as the lemma
of each command says. -/
theorem reportsHoldsAndPeriods : Obligations.ReportsHoldsAndPeriods := by
  unfold Obligations.ReportsHoldsAndPeriods
  refine ⟨⟨?tagFault, ?stopReq, ?haltReq, ?throttleReq, ?fault, ?pass, ?stop⟩, ?between, ?low, ?waits, ?hold, ?start, ?period,
    ?done⟩
  case tagFault =>
    intro i arg s hm
    refine ⟨_, exec_tagFaultReport i arg, ?_⟩
    rw [doTagFaultReport_master hm]
    exact ⟨rfl, State.modCas_regs _, State.modCas_outbox _⟩
  case stopReq =>
    intro i arg s hm h
    obtain ⟨hcas, _⟩ := State.issueOrder_effect (s := s.modCas (fun c => { c with
      stopOrdered := true, stopCause := arg.toNat })) .stop s.stopCountdown arg.toNat
    refine ⟨_, exec_stopReqReport i arg, ?_⟩
    rw [doStopReqReport_master hm h, hcas]
    exact ⟨rfl, rfl, rfl⟩
  case haltReq =>
    intro i arg s hm he ho
    obtain ⟨hcas, hregs, _⟩ := State.issueOrder_effect (s := s) .halt (s.rd R.CAS_LEAD.TICKS 0) 0
    refine ⟨_, exec_haltReqReport i arg, ?_⟩
    rw [doHaltReqReport_master hm he ho, hcas]
    exact ⟨rfl, hregs⟩
  case throttleReq =>
    intro i arg s hm
    refine ⟨_, exec_throttleReqReport i arg, ?_⟩
    rw [doThrottleReqReport_master hm]
    exact State.takeRequest_effect _ _
  case fault =>
    intro i arg s hm
    refine ⟨_, exec_faultReport i arg, ?_⟩
    obtain ⟨r, hcas⟩ := State.showUnit_cas (s := s.modCas (fun c => { c with failed := true }))
    rw [doFaultReport_master hm, hcas]
    rfl
  case pass =>
    intro i arg s hm hu
    obtain ⟨htag, hstop, hhalt, hthrottle, hfault⟩ := reports_pass hm hu i.val arg.toNat
    exact ⟨congrArg Host.Outcome.next htag, congrArg Host.Outcome.next hstop, congrArg Host.Outcome.next hhalt,
      congrArg Host.Outcome.next hthrottle, congrArg Host.Outcome.next hfault⟩
  case stop =>
    intro a s h hm ho
    refine ⟨_, exec_casStop h, ?_⟩
    rw [State.requestStop_master hm ho, State.respond_cas]
    obtain ⟨hcas, hregs, _⟩ := State.issueOrder_effect
      (s := (s.unitParts.foldl State.markStop s).modCas (fun c => { c with stopOrdered := true, stopCause := 1 })) .stop
      (s.unitParts.foldl State.markStop s).stopCountdown 1
    rw [hcas]
    refine ⟨rfl, rfl, fun p hp hst => ?_⟩
    rw [State.respond_rd, State.rd_of_regs hregs, State.modCas_rd]
    exact State.markStops_mark State.unitParts_nodup hp hst
  case between =>
    exact fun tick low done s hs ht =>
      (exec_holdSlotCheck tick low done).trans (congrArg _ (doHoldSlotCheck_between hs ht low done))
  case low =>
    exact fun tick low done s hs hh ht hl => ⟨_, exec_holdSlotCheck tick low done, doHoldSlotCheck_low hs hh ht hl done⟩
  case waits =>
    exact fun tick low done s hs hm hw =>
      ⟨_, exec_holdSlotCheck tick low done, doHoldSlotCheck_waits hs hm hw tick.toNat low done⟩
  case hold => exact fun tick h s hh ht hs => ⟨_, exec_holdBegin tick, doHoldBegin_effect hh ht hs⟩
  case start =>
    intro s hm hw hr ho ha
    obtain ⟨hcas, hregs, hout⟩ :=
      State.issueOrder_effect (s := s) .start (s.rd R.CAS_LEAD.TICKS 0) (s.rd R.CAS_CTRL.REL_MODE 0)
    refine ⟨_, exec_startIssue, ?_⟩
    rw [doStartIssue_issues hm hw hr ho ha, hcas]
    exact ⟨rfl, hout, hregs⟩
  case period =>
    intro tick b s hs hmode hno ht
    refine ⟨_, exec_periodRelease tick b, ?_, fun p _ hone hf hsingle h3 hl =>
      doPeriodRelease_begins hs hmode hno ht b hone hf hsingle h3 hl⟩
    rw [doPeriodRelease_releases hs hmode hno ht, State.releases_cas]
    rfl
  case done => exact fun s hm hs => ⟨_, exec_doneFall, doDoneFall_effect hm hs⟩

end Sys2Proof.Machine

/-! What the rules of chapter 7 share: the records of RES_EVENT, faults that are absorbed, a rejoin that fails, and the check
state of stored words. -/

namespace Sys2Proof.Machine
open Sys2Proof

variable {s t : State}

/-! ## Check state (R126, R234) -/

/-- A value other than the one an unlisted key reads as stands in the store's list. -/
theorem SMap.mem_of_get {α : Type} {d v : α} {m : SMap α} {q : Nat} (h : SMap.get d m q = v) (hv : v ≠ d) : (q, v) ∈ m := by
  induction m with
  | nil => exact absurd h.symm hv
  | cons e r ih =>
    obtain ⟨k, x⟩ := e
    rw [SMap.get] at h
    split at h
    next hq =>
      rw [hq, h]
      exact List.mem_cons_self
    next => exact List.mem_cons_of_mem _ (ih h)

/-- A location that is set good reads good, and every other as before. -/
theorem State.ecc_setEcc_good (c i c' i' : Nat) : (s.setEcc c i 0).ecc c' i' = if healthKey c' i' = healthKey c i then 0
    else s.ecc c' i' := SMap.get_set 0 s.health _ 0 _

theorem State.ecc_of_health (h : t.health = s.health) (c i : Nat) : t.ecc c i = s.ecc c i := by
  rw [State.ecc, State.ecc, h]

theorem State.part_of_parts (h : t.parts = s.parts) (p : Nat) : t.part p = s.part p := by
  rw [State.part, State.part, h]

/-! ## Records of RES_ (R243, R268, R269) -/

/-- A fault that is absorbed changes interrupt bits and the LOG_ page alone. -/
theorem State.absorbed_rd {g : Fld} (hp : g.page ≠ .log) (he : errorReg (g.off % 4096) = false) (p kind d : Nat) :
    (s.absorbed p kind).rd g d = s.rd g d := by
  rw [State.absorbed, State.logEvent_rd_page hp, State.raise_rd _ _ _ he]

theorem State.absorbed_health (p kind : Nat) : (s.absorbed p kind).health = s.health :=
  ((State.absorbed_keeps (M := 18692049993729) rfl (Keeps.refl _ s)).same .health rfl).1

theorem State.absorbed_rows (p kind : Nat) : (s.absorbed p kind).rows = s.rows :=
  (State.absorbed_keeps (M := 18692049993729) rfl (Keeps.refl _ s)).same .rows rfl

/-- A record in RES_EVENT and RES_EVENT_POS leaves every other register as it was. -/
theorem State.resEvent_rd {g : Fld} (h44 : g.off % 4096 ≠ 0x44) (h48 : g.off % 4096 ≠ 0x48) (p : Nat) (e : DataError)
    (action d : Nat) : (s.resEvent p e action).rd g d = s.rd g d := by
  have apart : ∀ f : Fld, f.off % 4096 = 0x44 ∨ f.off % 4096 = 0x48 → f.apart g = true := fun f hf =>
    Fld.apart_of (.inl (by omega))
  rw [State.resEvent, State.rd_wr_apart (apart _ (.inr rfl)), State.rd_wr_apart (apart _ (.inr rfl)),
    State.rd_wr_apart (apart _ (.inl rfl)), State.rd_wr_apart (apart _ (.inl rfl)), State.rd_wr_apart (apart _ (.inl rfl)),
    State.rd_wr_apart (apart _ (.inl rfl)), State.rd_wr_apart (apart _ (.inl rfl))]

theorem State.resEvent_rows (p : Nat) (e : DataError) (action : Nat) : (s.resEvent p e action).rows = s.rows := rfl

/-! ## Rejoins (R249) -/

theorem cmdBusy_apart_mstate {p : Nat} (hp : p < 64) : R.RES_STATUS.CMD_BUSY.apart (R.RES_GROUP.MSTATE p) = true := by
  refine Fld.apart_of (.inl ?_)
  change (0x8 : Nat) % 4096 ≠ (0x100 + 0x4 * p) % 4096
  omega

/-- A rejoin that fails leaves the member failed, with no rejoin in progress. -/
theorem State.failJoin_effect {p : Nat} (hp : p < 64) : (s.failJoin p).rd (R.RES_GROUP.MSTATE p) 0 = 1 ∧
    ((s.failJoin p).part p).rejoin = 0 := by
  rw [State.failJoin]
  refine ⟨?_, by rw [State.part_modPart]⟩
  rw [State.modPart_rd, State.rd_wr_apart (cmdBusy_apart_mstate hp), State.rd_wr_self]
  rfl

theorem State.failJoin_rows (p : Nat) : (s.failJoin p).rows = s.rows := rfl

/-- The partition that a bunch belongs to is one of 64. -/
theorem State.holderOf_lt {n p : Nat} (h : s.holderOf n = some p) : p < 64 :=
  List.mem_range.mp (List.mem_of_find?_eq_some h)

end Sys2Proof.Machine

/-! What the orchard stores is kept good: write-backs, scrubbing, refetch and remap (R235 to R239, R241). -/

namespace Sys2Proof.Machine
open Sys2Proof

variable {s : State}

/-! ## What upsets leave as it was -/

theorem State.upset_holderOf (us : List Upset) (n : Nat) : (s.upset us).holderOf n = s.holderOf n := by
  obtain ⟨_, hregs, _⟩ := State.upset_frame (s := s) us
  simp only [State.holderOf, State.bunches_of_regs hregs]

theorem State.upset_on (us : List Upset) (g : Fld) (d : Nat) : (s.upset us).on g d = s.on g d := by
  rw [State.on, State.on, State.upset_rd]

theorem State.upset_pstate (us : List Upset) (p : Nat) : (s.upset us).pstate p = s.pstate p := State.upset_rd us _ p

theorem State.upset_depth (us : List Upset) (p : Nat) : (s.upset us).depth p = s.depth p := by
  rw [State.depth, State.depth, State.upset_rd]

theorem State.upset_part (us : List Upset) (p : Nat) : (s.upset us).part p = s.part p :=
  State.part_of_parts ((State.upset_keeps (M := 16) rfl (Keeps.refl _ s)).same .parts rfl) p

theorem State.upset_writebackWaits (us : List Upset) (n b : Nat) : (s.upset us).writebackWaits n b = s.writebackWaits n b := by
  obtain ⟨_, _, h⟩ := State.upset_eq (s := s) us
  rw [h]
  rfl

theorem State.upset_rowAt (us : List Upset) (n b r : Nat) : (s.upset us).rowAt n b r = s.rowAt n b r :=
  State.rowAt_of_regs (State.upset_frame us).2.1 n b r

theorem State.upset_isAt (us : List Upset) (n b st i : Nat) : (s.upset us).isAt n b st i = s.isAt n b st i := by
  obtain ⟨_, _, h⟩ := State.upset_eq (s := s) us
  rw [h]
  rfl

theorem State.upset_stores (us : List Upset) : (s.upset us).istore = s.istore ∧ (s.upset us).rows = s.rows := by
  obtain ⟨_, _, h⟩ := State.upset_eq (s := s) us
  rw [h]
  exact ⟨rfl, rfl⟩

/-! ## Write-backs (R235, R236) -/

theorem exec_isWriteback (n : Fin 64) (b : Fin 16) : exec (.isWriteback n b) s = .next (doIsWriteback n.val b.val s) := rfl

/-- The oldest word that waits at the berry leaves the queue, and is stored corrected where it is correctable still. -/
theorem doIsWriteback_corrects {n b k : Nat}
    (hk : s.isWritebacks.find? (fun k => k / 65536 == s.physBunch n * 17 + s.physBerry n b) = some k)
    (h : s.ecc clsIstore k = 1) : doIsWriteback n b s =
      { s with isWritebacks := s.isWritebacks.filter (fun x => x != k) }.setEcc clsIstore k 0 := by
  simp only [doIsWriteback, hk, h, if_true]

/-! ## Scrubbing of the instruction store (R236, R237) -/

theorem exec_isScrubRead (n : Fin 64) (b : Fin 16) (st : Fin 1024) (u : List Upset) :
    exec (.isScrubRead n b st u) s = .next (doIsScrubRead n.val b.val st.val u s) := rfl

theorem doIsScrubRead_reads {n b st p : Nat} (hn : s.holderOf n = some p) (hen : s.on R.RES_CTRL.IS_SCRUB_EN 0 = true)
    (hst : 2 ≤ s.pstate p) (hd : st < s.depth p) (hw : s.writebackWaits n b = false) (us : List Upset) :
    doIsScrubRead n b st us s = (s.upset us).scrubBlock p n b st := by
  rw [doIsScrubRead, State.upset_holderOf, hn]
  exact if_pos (by simp [State.upset_on, State.upset_pstate, State.upset_depth, State.upset_writebackWaits, hen, hst, hd, hw])

/-- The entries of the check overlay in a step block of a berry that are correctable. -/
def State.blockCes (s : State) (n b st : Nat) : List (Nat × Nat) :=
  (s.health.range (healthKey clsIstore (s.isAt n b st 0)) (healthKey clsIstore (s.isAt n b st 0) + 64)).filter
    (fun e => e.2 == 1)

/-- The correctable words of a step block, corrected. -/
def State.blockCorrected (s : State) (n b st : Nat) : State :=
  (s.blockCes n b st).foldl (fun s e => s.setEcc clsIstore (e.1 - healthKey clsIstore 0) 0) s

/-- A correctable word of the block is good after the correction. -/
theorem State.blockCorrected_ecc {n b st i : Nat} (hi : i < 64) (h : s.ecc clsIstore (s.isAt n b st 0 + i) = 1) :
    (s.blockCorrected n b st).ecc clsIstore (s.isAt n b st 0 + i) = 0 := by
  generalize hk : s.isAt n b st 0 + i = k at *
  have hkey : healthKey clsIstore k = k := by simp [healthKey, clsIstore]
  have hlisted : (k, 1) ∈ s.blockCes n b st := by
    refine List.mem_filter.mpr ⟨List.mem_filter.mpr ⟨?_, ?_⟩, rfl⟩
    · rw [← hkey]
      exact SMap.mem_of_get h (by decide)
    · simp only [Bool.and_eq_true, decide_eq_true_eq]
      unfold healthKey clsIstore
      omega
  obtain ⟨l, r, hsplit⟩ := List.append_of_mem hlisted
  rw [State.blockCorrected, hsplit, List.foldl_append, List.foldl_cons]
  refine List.foldlRecOn (motive := fun t : State => t.ecc clsIstore k = 0) _ _ ?_ fun t ht e _ => ?_
  · rw [State.ecc_setEcc_good, if_pos (by simp [healthKey, clsIstore])]
  · rw [State.ecc_setEcc_good, ht, ite_self]

/-- What the scrubber counts and reports after its corrections leaves the check state as it is. -/
theorem State.scrubBlock_health (p n b st : Nat) : (s.scrubBlock p n b st).health = (s.blockCorrected n b st).health := by
  have hkeeps : Keeps 9025891304735745 (s.blockCorrected n b st) (s.scrubBlock p n b st) := by
    have hcounts : ∀ ce ue, Keeps 9025891304735745 (s.blockCorrected n b st)
        (((s.blockCorrected n b st).count R.RES_IS_CE_COUNT.COUNT 0 ce).count R.RES_IS_UE_COUNT.COUNT 0 ue) := fun _ _ =>
      State.count_keeps rfl rfl (State.count_keeps rfl rfl (Keeps.refl _ _))
    unfold State.scrubBlock
    extract_lets base bad ce ue s1 s2 s3
    have h3 : Keeps 9025891304735745 (s.blockCorrected n b st) s3 := by
      exact keeps_ite (hcounts _ _) (State.absorbed_keeps rfl (hcounts _ _))
    clear_value s3
    clear_value s2
    clear_value ue
    split
    · exact h3
    · exact keeps_ite (State.failJoin_keeps rfl (State.resEvent_keeps rfl h3)) (State.resEvent_keeps rfl h3)
  exact (hkeeps.same .health rfl).1

theorem State.scrubBlock_istore (p n b st : Nat) : (s.scrubBlock p n b st).istore = s.istore :=
  ((State.scrubBlock_keeps (M := 9025891304735761) rfl (Keeps.refl _ s)).same .istore rfl).1

/-! ## Refetch (R238) -/

theorem exec_refetchComplete (n : Fin 64) (b : Fin 16) (st : Fin 1024) (i : Fin 64) (w : W128) (chk : BitVec 16)
    (badAgain : Bool) :
    exec (.refetchComplete n b st i w chk badAgain) s = .next (doRefetchComplete n.val b.val st.val i.val w chk badAgain s) := rfl

/-- The state with a word of the instruction store replaced, with new ECC. -/
def State.refetched (s : State) (k : Nat) (w : W128) : State :=
  { s with istore := SMap.set idleWord s.istore k w }.setEcc clsIstore k 0

/-- A word that is read good is stored; then the stall ends, or a fault is absorbed. -/
theorem doRefetchComplete_good {n p : Nat} (hf : s.rd R.HST_MBX_STATUS.FW_STATE 0 = 2) (hn : s.holderOf n = some p)
    (b st i : Nat) (w : W128) : doRefetchComplete n b st i w (sealOf w) false s =
      if s.refetching p st then (s.refetched (s.isAt n b st i) w).refetchGood p st
      else (s.refetched (s.isAt n b st i) w).absorbed p 1 := by
  rw [doRefetchComplete, if_neg (by simp [hf]), hn]
  dsimp only
  rw [if_neg (by simp), if_neg (by decide)]
  rfl

/-- The word stands in the instruction store, with a good check, whatever stall its arrival ends. -/
theorem doRefetchComplete_stores {n p : Nat} (hf : s.rd R.HST_MBX_STATUS.FW_STATE 0 = 2) (hn : s.holderOf n = some p)
    (b st i : Nat) (w : W128) :
    SMap.get idleWord (doRefetchComplete n b st i w (sealOf w) false s).istore (s.isAt n b st i) = w ∧
      (doRefetchComplete n b st i w (sealOf w) false s).ecc clsIstore (s.isAt n b st i) = 0 := by
  have hkeeps : Keeps 18692049994753 (s.refetched (s.isAt n b st i) w) (doRefetchComplete n b st i w (sealOf w) false s) := by
    rw [doRefetchComplete_good hf hn]
    exact keeps_ite (State.refetchGood_keeps rfl (Keeps.refl _ _)) (State.absorbed_keeps rfl (Keeps.refl _ _))
  obtain ⟨histore, _⟩ := hkeeps.same .istore rfl
  obtain ⟨hhealth, _⟩ := hkeeps.same .health rfl
  refine ⟨?_, ?_⟩
  · rw [histore]
    exact SMap.get_set_self _ _ _ _
  · rw [State.ecc_of_health hhealth]
    exact State.ecc_setEcc _ _ _

/-! ## Remap (R239) -/

theorem exec_berryRemapDone (n : Fin 64) (b : Fin 16) : exec (.berryRemapDone n b) s = .next (doBerryRemapDone n.val b.val s) := rfl

/-- The berry remap, with its record and the fault that it leaves. -/
def State.remapDone (s : State) (n b p : Nat) : State :=
  (((s.remapBerry n b (s.depth p)).modPart p (fun y => { y with refetched := false })).resEvent p
    (fetchError n b (s.part p).step 0) 2).degraded p 2

/-- With every row of the berry readable the remap is made, and the stall that waits for it ends. -/
theorem doBerryRemapDone_remaps {n b p : Nat} (hn : s.holderOf n = some p) (hr : (s.part p).refetched = true)
    (hf : s.rd R.HST_MBX_STATUS.FW_STATE 0 ≠ 3) (hs : s.spareReady n = true)
    (hw : s.refetching p (s.part p).step = true ∨ (s.part p).rejoin = 1) (hrow : s.badRow n b (s.depth p) = none) :
    doBerryRemapDone n b s = if s.refetching p (s.part p).step then (s.remapDone n b p).refetchGood p (s.part p).step
      else s.remapDone n b p := by
  rw [doBerryRemapDone, hn]
  dsimp only
  rw [if_neg (by rcases hw with hw | hw <;> simp [hf, hr, hs, hw]), hrow]
  rfl

/-- What moves to the spare is in place when ORC_BERRY_REMAP is written, the interrupt raised and the repair recorded. -/
theorem State.remapBerry_eq (n b d : Nat) : ∃ x : State, s.remapBerry n b d =
    ((((x.wr R.ORC_BERRY_REMAP.BERRY (s.physBunch n) b).wr R.ORC_BERRY_REMAP.EN (s.physBunch n) 1).raise .orc n 1).logEvent
      0x10 n 3 evRemap n b).spareCounts := ⟨_, rfl⟩

/-- The spare of the bunch stands in for the berry. -/
theorem State.remapBerry_regs {n b : Nat} (hb : b < 16) (d : Nat) :
    (s.remapBerry n b d).rd R.ORC_BERRY_REMAP.EN (s.physBunch n) = 1 ∧
      (s.remapBerry n b d).rd R.ORC_BERRY_REMAP.BERRY (s.physBunch n) = b := by
  obtain ⟨x, hx⟩ := State.remapBerry_eq (s := s) n b d
  rw [hx]
  refine ⟨?_, ?_⟩
  · rw [State.spareCounts_rd (by decide), State.logEvent_rd_page (by decide), State.raise_rd _ _ _ rfl, State.rd_wr_self]
    rfl
  · rw [State.spareCounts_rd (by decide), State.logEvent_rd_page (by decide), State.raise_rd _ _ _ rfl,
      State.rd_wr_apart (by decide), State.rd_wr_self]
    exact Nat.mod_eq_of_lt hb

theorem State.refetchGood_refetched (p st q : Nat) : ((s.refetchGood p st).part q).refetched = (s.part q).refetched := by
  have hcourse : ((s.refetchGood p st).part q).refetched = ((if s.refetching p st && (s.badFetches p st 2).isEmpty then
      s.unhold p causeRefetch else s).part q).refetched := by
    unfold State.refetchGood
    split
    · rw [State.part_of_parts ((State.absorbed_keeps (M := 18692049993729) rfl (Keeps.refl _ _)).same .parts rfl)]
    · rfl
  rw [hcourse]
  split
  · rw [State.unhold]
    by_cases e : q = p
    · rw [e, State.part_modPart]
    · rw [State.part_modPart_ne e]
  · rfl

/-- A remap that is done shows the berry and its spare in ORC_BERRY_REMAP, and is no longer awaited. -/
theorem doBerryRemapDone_effect {n b p : Nat} (hb : b < 16) (hn : s.holderOf n = some p) (hr : (s.part p).refetched = true)
    (hf : s.rd R.HST_MBX_STATUS.FW_STATE 0 ≠ 3) (hs : s.spareReady n = true)
    (hw : s.refetching p (s.part p).step = true ∨ (s.part p).rejoin = 1) (hrow : s.badRow n b (s.depth p) = none) :
    (doBerryRemapDone n b s).rd R.ORC_BERRY_REMAP.EN (s.physBunch n) = 1 ∧
      (doBerryRemapDone n b s).rd R.ORC_BERRY_REMAP.BERRY (s.physBunch n) = b ∧
      ((doBerryRemapDone n b s).part p).refetched = false := by
  obtain ⟨hen, hberry⟩ := State.remapBerry_regs (s := s) (n := n) hb (s.depth p)
  have hdone : Keeps 9025891304734721 ((s.remapBerry n b (s.depth p)).modPart p (fun y => { y with refetched := false }))
      (s.remapDone n b p) := State.degraded_keeps rfl (State.resEvent_keeps rfl (Keeps.refl _ _))
  have hpart : ((s.remapDone n b p).part p).refetched = false := by
    rw [State.part_of_parts (hdone.same .parts rfl), State.part_modPart]
  have hlast : Keeps 18692049994753 (s.remapDone n b p) (doBerryRemapDone n b s) := by
    rw [doBerryRemapDone_remaps hn hr hf hs hw hrow]
    exact keeps_ite (State.refetchGood_keeps rfl (Keeps.refl _ _)) (Keeps.refl _ _)
  refine ⟨?_, ?_, ?_⟩
  · rw [hlast.rd_plain rfl rfl, hdone.rd_plain rfl rfl, State.modPart_rd, hen]
  · rw [hlast.rd_plain rfl rfl, hdone.rd_plain rfl rfl, State.modPart_rd, hberry]
  · rw [doBerryRemapDone_remaps hn hr hf hs hw hrow]
    split
    · rw [State.refetchGood_refetched, hpart]
    · exact hpart

/-! ## The step store (R241) -/

theorem exec_ssScrubRead (n : Fin 64) (b : Fin 16) (r : Fin 1024) (u : List Upset) :
    exec (.ssScrubRead n b r u) s = .next (doSsScrubRead n.val b.val r.val u s) := rfl

/-- The detected error of a row that the scrubber reads (R241). -/
def rowError (n b r : Nat) : DataError := ⟨2, n, b, r, 0, globalPip n b 0⟩

/-- What the scrubber makes of a row that it reads, by the row's check state (R241, R249). -/
def State.scrubRow (s : State) (p n b r : Nat) : State :=
  match s.ecc clsRow (s.rowAt n b r) with
  | 0 => s
  | 1 => ((s.setEcc clsRow (s.rowAt n b r) 0).count R.RES_SS_CE_COUNT.COUNT 0 1).absorbed p 0
  | _ =>
    if 2 ≤ (s.part p).rejoin then (s.resEvent p (rowError n b r) 0).failJoin p
    else (s.resEvent p (rowError n b r) 0).modPart p (fun x => { x with pendErr := some (rowError n b r) })

theorem doSsScrubRead_reads {n r p : Nat} (hn : s.holderOf n = some p) (hen : s.on R.RES_CTRL.SS_SCRUB_EN 0 = true)
    (hd : r < s.depth p) (hst : s.pstate p = 2 ∨ s.pstate p = 3 ∨ s.pstate p = 5 ∨ s.pstate p = 8) (b : Nat) (us : List Upset) :
    doSsScrubRead n b r us s = (s.upset us).scrubRow p n b r := by
  rw [doSsScrubRead]
  dsimp only
  rw [State.upset_holderOf, hn]
  dsimp only
  rw [State.upset_on, State.upset_pstate, State.upset_depth,
    if_neg (by rcases hst with h | h | h | h <;> simp [hen, h, hd])]
  unfold State.scrubRow
  generalize (s.upset us).ecc clsRow ((s.upset us).rowAt n b r) = e
  rcases e with _ | _ | e <;> rfl

theorem State.scrubRow_rows (p n b r : Nat) : (s.scrubRow p n b r).rows = s.rows := by
  unfold State.scrubRow
  split
  · rfl
  · exact State.absorbed_rows p 0
  · split
    · exact (State.failJoin_rows p).trans (State.resEvent_rows p (rowError n b r) 0)
    · exact (State.modPart_rows p _).trans (State.resEvent_rows p (rowError n b r) 0)

/-- A correctable row is rewritten and counted. -/
theorem State.scrubRow_correctable {n b r : Nat} (h : s.ecc clsRow (s.rowAt n b r) = 1) (p : Nat) :
    (s.scrubRow p n b r).ecc clsRow (s.rowAt n b r) = 0 ∧ (s.scrubRow p n b r).rd R.RES_SS_CE_COUNT.COUNT 0 =
      satAdd R.RES_SS_CE_COUNT.COUNT.width (s.rd R.RES_SS_CE_COUNT.COUNT 0) 1 % 2 ^ R.RES_SS_CE_COUNT.COUNT.width := by
  have hrow : s.scrubRow p n b r =
      ((s.setEcc clsRow (s.rowAt n b r) 0).count R.RES_SS_CE_COUNT.COUNT 0 1).absorbed p 0 := by
    rw [State.scrubRow, h]
    rfl
  rw [hrow]
  refine ⟨?_, ?_⟩
  · rw [State.ecc_of_health (State.absorbed_health p 0)]
    exact SMap.get_set_self 0 s.health _ 0
  · rw [State.absorbed_rd (by decide) rfl]
    exact State.rd_wr_self _ _ _

/-- An uncorrectable row ends the rejoin of its member, or waits to be taken as a detected data error. -/
theorem State.scrubRow_bad {n b r : Nat} (h : 2 ≤ s.ecc clsRow (s.rowAt n b r)) (p : Nat) : s.scrubRow p n b r =
    if 2 ≤ (s.part p).rejoin then (s.resEvent p (rowError n b r) 0).failJoin p
    else (s.resEvent p (rowError n b r) 0).modPart p (fun x => { x with pendErr := some (rowError n b r) }) := by
  unfold State.scrubRow
  split
  next h0 => omega
  next h1 => omega
  next => rfl

/-! ## The statement -/

/-- Settles O16: each command on a store that is found in the state it works in leaves the corrected, refetched or remapped
location good, and reports what it cannot correct. -/
theorem storesAreScrubbed : Obligations.StoresAreScrubbed := by
  unfold Obligations.StoresAreScrubbed
  refine ⟨?writeback, ?scrub, ?refetch, ?remap, ?rows⟩
  case writeback =>
    intro n b k s hk h
    refine ⟨_, exec_isWriteback n b, ?_⟩
    rw [doIsWriteback_corrects hk h]
    exact ⟨State.ecc_setEcc _ _ _, rfl, rfl, rfl⟩
  case scrub =>
    intro n b st i u p s hn hen hst hd hw h
    refine ⟨_, exec_isScrubRead n b st u, ?_⟩
    rw [doIsScrubRead_reads hn hen hst hd hw, State.ecc_of_health (State.scrubBlock_health ..), State.scrubBlock_istore,
      ← State.upset_isAt u]
    rw [← State.upset_isAt u] at h
    exact ⟨State.blockCorrected_ecc i.isLt h, (State.upset_stores u).1⟩
  case refetch =>
    intro n b st i w p s hf hn
    exact ⟨_, exec_refetchComplete n b st i w (sealOf w) false, doRefetchComplete_stores hf hn b.val st.val i.val w⟩
  case remap =>
    intro n b p s hn hr hf hs hw hrow
    exact ⟨_, exec_berryRemapDone n b, doBerryRemapDone_effect b.isLt hn hr hf hs hw hrow⟩
  case rows =>
    intro n b r u p s hn hen hd hst
    refine ⟨_, exec_ssScrubRead n b r u, ?_⟩
    rw [doSsScrubRead_reads hn hen hd hst, ← State.upset_rowAt (s := s) u,
      ← State.upset_rd (s := s) u R.RES_SS_CE_COUNT.COUNT 0, ← State.upset_part (s := s) u]
    refine ⟨(State.scrubRow_rows ..).trans (State.upset_stores u).2, fun h => State.scrubRow_correctable h p,
      fun h hj => ?_, fun h hj => ?_⟩
    · rw [State.scrubRow_bad h, if_pos hj]
      exact State.failJoin_effect (State.holderOf_lt hn)
    · rw [State.scrubRow_bad h, if_neg (by omega), State.part_modPart]
      rfl

end Sys2Proof.Machine

/-! The bank copy of a member that rejoins (R249): each word that is copied leaves every word of the banks as good as it was. -/

namespace Sys2Proof.Machine
open Sys2Proof

variable {s t : State}

/-! ## What reading and journalling a word leaves of the words (R127, R128, R155) -/

theorem State.readBank_tester (b w node c : Nat) : ((s.readBank b w node).2.bank c).tester = (s.bank c).tester := by
  have hlogged : ∀ u : State, (((((u.count R.DMB_UE_COUNT.COUNT b 1).raise .dmb b 4).err .dmb b 10 node (bankAddress b w)).logEvent
      0x12 b openClass evBankUe w node).banks) = u.banks := fun u => by
    rw [State.logEvent_banks, State.err_banks, State.raise_banks]
    rfl
  have hcorrected : (s.bankCorrected b w).banks = s.banks :=
    (State.bankCorrected_keeps (M := 288249068201705473) rfl (Keeps.refl _ s)).same .banks rfl
  unfold State.readBank
  split
  split
  · rfl
  · extract_lets s1
    have h1 : s1.banks = s.banks := by
      unfold s1
      split
      · exact hcorrected
      · rfl
    split
    · dsimp only
      split
      · refine ((State.modBank_kept ?_).tester c).trans (by rw [State.bank, h1, State.bank])
        exact fun _ => rfl
      · rw [State.bank, h1, State.bank]
    · rw [State.bank, hlogged, h1, State.bank]

/-- A word that is read, corrected or reported reads as before, and so does every other. -/
theorem State.readBank_bankWord (b w node c x : Nat) : (s.readBank b w node).2.bankWord c x = s.bankWord c x := by
  have hkeeps : Keeps 288249068201709569 s (s.readBank b w node).2 := State.readBank_keeps rfl (Keeps.refl _ s)
  obtain ⟨hhealth, _⟩ := hkeeps.same .health rfl
  exact State.bankWord_congr (State.readBank_tester b w node c) (hkeeps.same .dmem rfl) hhealth
    (State.spareFor_kept (fun g hg d => State.readBank_fixed hg b w node d) c) x

theorem State.readBank_parts (b w node : Nat) : (s.readBank b w node).2.parts = s.parts :=
  (show Keeps 288249068201709569 s (s.readBank b w node).2 from State.readBank_keeps rfl (Keeps.refl _ s)).same .parts rfl

/-- A word that is good or correctable can be read. -/
theorem State.readBank_readable {b w : Nat} (h : (s.bankWord b w).2 ≤ 1) (node : Nat) :
    (s.readBank b w node).1 = some (s.bankWord b w).1 := by
  unfold State.readBank
  split
  next v e heq =>
    rw [heq] at h ⊢
    split
    · rfl
    next hne =>
      rw [if_pos (show e = 1 by have : e ≤ 1 := h; omega)]

theorem State.journal_bankWord (b w : Nat) (exempt : Bool) (c x : Nat) : (s.journal b w exempt).bankWord c x = s.bankWord c x := by
  unfold State.journal
  split
  · rfl
  · split
    · have hkeeps := State.journalFull_keeps (M := 297256267456446465) (a1 := b) rfl (Keeps.refl _ s)
      obtain ⟨hhealth, _⟩ := hkeeps.same .health rfl
      exact State.bankWord_congr (by rw [State.bank, State.bank, hkeeps.same .banks rfl]) (hkeeps.same .dmem rfl) hhealth
        (State.spareFor_kept (fun g hg d => State.journalFull_fixed hg b d) c) x
    · exact (State.modBank_kept (f := fun k => { k with jwrites := k.jwrites ++ [(_, _, w)] }) fun _ => rfl).bankWord c x

/-! ## A word that is written (R23, R149) -/

/-- A good word in the array makes no word worse. -/
theorem State.setArray_bankWord_le (b w : Nat) (v : W128) (c x : Nat) :
    ((s.setArray b w v 0).bankWord c x).2 ≤ (s.bankWord c x).2 := by
  have harray : ((s.setArray b w v 0).arrayWord c x).2 ≤ (s.arrayWord c x).2 := by
    have hphys : (s.setArray b w v 0).physWord c x = s.physWord c x := State.physWord_kept (fun _ _ _ => rfl) c x
    change (s.setArray b w v 0).ecc clsBank (bankKey c ((s.setArray b w v 0).physWord c x)) ≤ _
    rw [hphys]
    change (State.setEcc _ clsBank (bankKey b (s.physWord b w)) 0).ecc _ _ ≤ _
    rw [State.ecc_setEcc_good]
    split
    · exact Nat.zero_le _
    · exact le_refl _
  have hheld : (s.setArray b w v 0).heldRead c x = s.heldRead c x := rfl
  rw [State.bankWord, State.bankWord, hheld]
  split
  · exact le_refl _
  · exact harray

/-- A good word in the holding buffer makes no word worse. -/
theorem State.held_bankWord_le (b i : Nat) (v : W128) (c x : Nat) :
    ((s.modBank b (fun k => k.held i v 0)).bankWord c x).2 ≤ (s.bankWord c x).2 := by
  by_cases hc : c = b
  · subst hc
    rw [State.bankWord, State.bankWord, State.heldRead_held, State.bank_modBank]
    split
    · change SMap.get 0 (SMap.set 0 (s.bank c).tester.heldEcc i 0) (x % 64) ≤ SMap.get 0 (s.bank c).tester.heldEcc (x % 64)
      rw [SMap.get_set]
      split
      · exact Nat.zero_le _
      · exact le_refl _
    · exact le_of_eq (congrArg Prod.snd (State.arrayWord_congr (s := s) rfl rfl (fun _ => rfl) x))
  · exact le_of_eq (congrArg Prod.snd
      (State.bankWord_congr (s := s) (congrArg Bank.tester (State.bank_modBank_ne hc _)) rfl rfl (fun _ => rfl) x))

/-- A word that is written, journalled or not, makes no word worse. -/
theorem State.writeBank_bankWord_le (b w : Nat) (v : W128) (exempt : Bool) (c x : Nat) :
    ((s.writeBank b w v exempt).bankWord c x).2 ≤ (s.bankWord c x).2 := by
  rw [State.writeBank, State.setBankWord_eq]
  have hjournal := congrArg Prod.snd (State.journal_bankWord (s := s) b w exempt c x)
  generalize s.journal b w exempt = u at hjournal ⊢
  rw [← hjournal]
  have harray : ((if u.arrayWrite b w then u.setArray b w v 0 else u).bankWord c x).2 ≤ (u.bankWord c x).2 := by
    split
    · exact State.setArray_bankWord_le ..
    · exact le_refl _
  split
  · exact (State.held_bankWord_le ..).trans harray
  · exact harray

/-! ## One word of the copy (R249) -/

/-- A word is copied where the rejoin goes on and the source can be read; a source that cannot be read ends the rejoin. -/
theorem State.copyBankWord_cases (j src dst w : Nat) :
    ((s.part j).rejoin ≠ 2 ∧ s.copyBankWord j src dst w = s) ∨
    ((s.part j).rejoin = 2 ∧ ∃ v, (s.readBank src w 63).1 = some v ∧
      s.copyBankWord j src dst w = (s.readBank src w 63).2.writeBank dst w v false) ∨
    ((s.part j).rejoin = 2 ∧ (s.readBank src w 63).1 = none ∧
      s.copyBankWord j src dst w = (s.readBank src w 63).2.failJoin j) := by
  unfold State.copyBankWord
  by_cases h : (s.part j).rejoin = 2
  · rw [if_neg (by simp [h])]
    split
    next v s1 heq => exact .inr (.inl ⟨h, v, by rw [heq], by rw [heq]⟩)
    next s1 heq => exact .inr (.inr ⟨h, by rw [heq], by rw [heq]⟩)
  · exact .inl ⟨h, if_pos (by simp [h])⟩

/-- The bank copy of a member goes on, or its rejoin has failed. -/
def State.Copying (s : State) (j : Nat) : Prop :=
  (s.part j).rejoin = 2 ∨ ((s.part j).rejoin = 0 ∧ s.rd (R.RES_GROUP.MSTATE j) 0 = 1)

/-- Every word of some banks is good or correctable. -/
def State.Readable (s : State) (banks : List Nat) : Prop := ∀ n ∈ banks, ∀ w, w < bankWords → (s.bankWord n w).2 ≤ 1

theorem State.copied_part (j src dst w : Nat) (v : W128) (exempt : Bool) :
    ((s.readBank src w 63).2.writeBank dst w v exempt).part j = s.part j :=
  State.part_of_parts (((State.writeBank_keeps (M := 297256267456452625) rfl (Keeps.refl _ _)).same .parts rfl).trans
    (State.readBank_parts src w 63)) j

theorem State.copyBankWord_copying {j : Nat} (hj : j < 64) (h : s.Copying j) (src dst w : Nat) :
    (s.copyBankWord j src dst w).Copying j := by
  obtain ⟨_, heq⟩ | ⟨h2, v, _, heq⟩ | ⟨_, _, heq⟩ := State.copyBankWord_cases (s := s) j src dst w
  · rwa [heq]
  · rw [heq]
    exact .inl (by rw [State.copied_part, h2])
  · rw [heq]
    exact .inr (State.failJoin_effect hj).symm

/-- Where the sources can be read the copy goes on, and they can be read after it. -/
theorem State.copyBankWord_readable {j src w : Nat} {banks : List Nat} (h2 : (s.part j).rejoin = 2) (h : s.Readable banks)
    (hsrc : src ∈ banks) (hw : w < bankWords) (dst : Nat) :
    ((s.copyBankWord j src dst w).part j).rejoin = 2 ∧ (s.copyBankWord j src dst w).Readable banks := by
  have hread := State.readBank_readable (h src hsrc w hw) 63
  obtain ⟨hne, _⟩ | ⟨_, v, _, heq⟩ | ⟨_, hnone, _⟩ := State.copyBankWord_cases (s := s) j src dst w
  · exact absurd h2 hne
  · rw [heq]
    refine ⟨by rw [State.copied_part, h2], fun n hn x hx => (State.writeBank_bankWord_le ..).trans ?_⟩
    rw [State.readBank_bankWord]
    exact h n hn x hx
  · exact absurd (hread.symm.trans hnone) (by simp)

/-! ## The copy (R249) -/

/-- What holds before the copy and is kept by every word of it holds after it. -/
theorem State.copyBanks_induct {src j : Nat} {P : State → Prop} (hs : P s)
    (hword : ∀ t, P t → ∀ n ∈ s.bunches src, ∀ w < bankWords, ∀ dst, P (t.copyBankWord j n dst w)) :
    P (s.copyBanks src j) := by
  unfold State.copyBanks
  refine List.foldlRecOn (motive := P) _ _ hs fun t ht n hn => ?_
  exact List.foldlRecOn (motive := P) _ _ ht fun u hu w hw =>
    hword u hu n (List.mem_filter.mp hn).1 w (List.mem_range.mp hw) _

theorem State.copyBanks_copying {j : Nat} (hj : j < 64) (h : s.Copying j) (src : Nat) : (s.copyBanks src j).Copying j :=
  State.copyBanks_induct (P := fun t => t.Copying j) h fun _ ht n _ w _ dst => State.copyBankWord_copying hj ht n dst w

theorem State.copyBanks_readable {src j : Nat} (h2 : (s.part j).rejoin = 2) (h : s.Readable (s.bunches src)) :
    ((s.copyBanks src j).part j).rejoin = 2 :=
  (State.copyBanks_induct (P := fun t => (t.part j).rejoin = 2 ∧ t.Readable (s.bunches src)) ⟨h2, h⟩
    fun _ ⟨hgo, hread⟩ _ hn _ hw dst => State.copyBankWord_readable hgo hread hn hw dst).1

end Sys2Proof.Machine

/-! Members rejoin (R249), and a restore starts the replay (R254, R255). -/

namespace Sys2Proof.Machine
open Sys2Proof

variable {s t u : State}

/-! ## JOIN and the phases of a rejoin (R249) -/

theorem exec_join {a : Accessor} (h : s.accessCode a .res 0 0x40 true = 0) (p : Fin 64) :
    exec (.join a p) s = .next (doJoin a p.val s) := congrArg Host.Outcome.next (State.access_ok h _)

theorem exec_rejoinPhaseEnd (p : Fin 64) : exec (.rejoinPhaseEnd p) s = .next (doRejoinPhaseEnd p.val s) := rfl

theorem doJoin_accepted {p : Nat} (hb : s.on R.RES_STATUS.CMD_BUSY 0 = false) (hm : s.mayJoin p = true) (a : Accessor) :
    doJoin a p s = (s.beginJoin p).respond a true 0 := if_neg (by simp [hb, hm])

/-- A rejoin that begins shows the member as rejoining and the command as running. -/
theorem State.beginJoin_effect {p : Nat} (hp : p < 64) : (s.beginJoin p).rd (R.RES_GROUP.MSTATE p) 0 = 2 ∧
    (s.beginJoin p).rd R.RES_STATUS.CMD_BUSY 0 = 1 ∧ ((s.beginJoin p).part p).rejoin = 1 := by
  rw [State.beginJoin]
  refine ⟨?_, ?_, by rw [State.part_modPart]⟩
  · rw [State.modPart_rd, State.rd_wr_apart (cmdBusy_apart_mstate hp), State.rd_wr_self]
    rfl
  · rw [State.modPart_rd, State.rd_wr_self]
    rfl

theorem doRejoinPhaseEnd_repaired {p : Nat} (hm : s.rd (R.RES_GROUP.MSTATE p) 0 = 2) (h1 : (s.part p).rejoin = 1)
    (hr : s.repaired p = true) : doRejoinPhaseEnd p s = s.modPart p (fun x => { x with rejoin := 2 }) := by
  simp only [doRejoinPhaseEnd, hm, h1, hr, if_true, bne_self_eq_false, Bool.false_eq_true, if_false]

theorem doRejoinPhaseEnd_copies {p : Nat} (hm : s.rd (R.RES_GROUP.MSTATE p) 0 = 2) (h2 : (s.part p).rejoin = 2)
    (ha : s.activeMembers (s.leadOf p) ≠ []) : doRejoinPhaseEnd p s =
      if ((s.copyBanks (s.actingOf (s.leadOf p)) p).part p).rejoin = 2 then
        (s.copyBanks (s.actingOf (s.leadOf p)) p).modPart p (fun x => { x with rejoin := 3 })
      else s.copyBanks (s.actingOf (s.leadOf p)) p := by
  simp only [doRejoinPhaseEnd, hm, h2, List.isEmpty_iff, ha, bne_self_eq_false, Bool.false_eq_true, if_false]

/-- The bank copy ends with every bank copied, or with the rejoin failed; it succeeds where every source can be read. -/
theorem doRejoinPhaseEnd_effect {p : Nat} (hp : p < 64) (hm : s.rd (R.RES_GROUP.MSTATE p) 0 = 2) (h2 : (s.part p).rejoin = 2)
    (ha : s.activeMembers (s.leadOf p) ≠ []) :
    (((doRejoinPhaseEnd p s).part p).rejoin = 3 ∨
      (((doRejoinPhaseEnd p s).part p).rejoin = 0 ∧ (doRejoinPhaseEnd p s).rd (R.RES_GROUP.MSTATE p) 0 = 1)) ∧
    (s.Readable (s.bunches (s.actingOf (s.leadOf p))) → ((doRejoinPhaseEnd p s).part p).rejoin = 3) := by
  rw [doRejoinPhaseEnd_copies hm h2 ha]
  have hcopying := State.copyBanks_copying hp (s := s) (.inl h2) (s.actingOf (s.leadOf p))
  have hreadable := State.copyBanks_readable (s := s) (src := s.actingOf (s.leadOf p)) h2
  generalize s.copyBanks (s.actingOf (s.leadOf p)) p = t at hcopying hreadable
  split
  next h3 =>
    have hend : ((t.modPart p (fun x => { x with rejoin := 3 })).part p).rejoin = 3 := by rw [State.part_modPart]
    exact ⟨.inl hend, fun _ => hend⟩
  next h3 => exact ⟨.inr (hcopying.resolve_left h3), fun h => absurd (hreadable h) h3⟩

/-! ## The replay after a restore (R254, R255) -/

theorem exec_restoreDone (p : Fin 64) : exec (.restoreDone p) s = .next (doRestoreDone p.val s) := rfl

/-- The state with rows, registers and the cycle count back, in which a cycle of the replay begins. -/
def State.restored (s : State) (p : Nat) (r : Replay) : State :=
  (((s.restoreRows p (s.depth p)).restoreRegs p (s.part p).snap).wr64 R.PRT_CYCLE_LO.COUNT R.PRT_CYCLE_HI.COUNT p r.cs).modPart p
    (fun x => { x with replay := some { r with restoring := false, logPos := 0 }, step := 0, inCycle := true })

theorem doRestoreDone_restores {p : Nat} {r : Replay} (hr : (s.part p).replay = some r) (hres : r.restoring = true)
    (hbanks : s.banksRestored p = true) (hcap : s.on (R.RES_SNAP.CAPTURING p) 0 = false)
    (hrows : s.shadowBad p (s.depth p) = false) : doRestoreDone p s = (s.restored p r).replayInputs p := by
  simp only [doRestoreDone, hr, hres, hbanks, hcap, hrows, Bool.false_and, Bool.not_true, Bool.or_self, Bool.false_eq_true,
    if_false]
  rfl

/-- A value written to a LO and a HI register reads back modulo 2^64. -/
theorem State.rd64_wr64 {lo hi : Fld} (hlo : lo.width = 32) (hhi : hi.width = 32) (h : hi.apart lo = true) (ch v : Nat) :
    (s.wr64 lo hi ch v).rd64 lo hi ch = v % 2 ^ 64 := by
  rw [State.rd64, State.wr64, State.rd_wr_apart h, State.rd_wr_self, State.rd_wr_self, hlo, hhi]
  omega

/-- A partition stands at the same step in two states, in a cycle in both or in neither. -/
def SameStep (p : Nat) (s t : State) : Prop := (t.part p).step = (s.part p).step ∧ (t.part p).inCycle = (s.part p).inCycle

theorem SameStep.refl (p : Nat) (s : State) : SameStep p s s := ⟨rfl, rfl⟩

theorem SameStep.trans {p : Nat} (h : SameStep p s t) (h' : SameStep p t u) : SameStep p s u :=
  ⟨h'.1.trans h.1, h'.2.trans h.2⟩

theorem SameStep.of_parts {p : Nat} (h : t.parts = s.parts) : SameStep p s t := by
  rw [SameStep, State.part_of_parts h]
  exact ⟨rfl, rfl⟩

theorem SameStep.modPart {p : Nat} {f : Part → Part} (h : SameStep p s t)
    (hf : ∀ x, (f x).step = x.step ∧ (f x).inCycle = x.inCycle := by exact fun _ => ⟨rfl, rfl⟩) : SameStep p s (t.modPart p f) := by
  refine h.trans ?_
  rw [SameStep, State.part_modPart]
  exact hf _

/-- Writing inputs, one after another, leaves the partitions as they were. -/
theorem foldl_parts {f : State → Nat → State} (l : List Nat)
    (hf : ∀ u i, (f u i).parts = u.parts := by exact fun _ _ => rfl) : (l.foldl f s).parts = s.parts :=
  List.foldlRecOn (motive := fun u : State => u.parts = s.parts) _ _ rfl fun u hu i _ => (hf u i).trans hu

theorem State.readLog_sameStep (p b w n : Nat) : SameStep p s (s.readLog p b w n).2 := by
  induction n generalizing s w with
  | zero => exact .refl p s
  | succ n ih =>
    have hread := State.readBank_parts (s := s) b (w % bankWords) 63
    unfold State.readLog
    split
    next v s1 heq =>
      rw [heq] at hread
      exact (SameStep.of_parts hread).trans (ih (w + 1))
    next s1 heq =>
      rw [heq] at hread
      exact (SameStep.of_parts hread).modPart.trans (ih (w + 1))

/-- The inputs of a replayed cycle leave the step, and whether a cycle runs, as they were. -/
theorem State.replayInputs_sameStep (p : Nat) : SameStep p s (s.replayInputs p) := by
  unfold State.replayInputs
  split
  · exact .refl p s
  next r hr =>
    extract_lets bs cyc s1
    split
    · have h1 : s1.parts = s.parts := foldl_parts _
      refine SameStep.modPart (SameStep.of_parts ?_)
      exact h1
    · split
      split
      next b w _ _ head s2 hhead =>
        extract_lets len
        split
        next body s3 hbody =>
          extract_lets word s4 s5 nDel dels
          have hhead' := State.readLog_sameStep (s := s) p b (w + r.logPos) 1
          have hbody' := State.readLog_sameStep (s := s2) p b (w + r.logPos + 1) (len - 1)
          rw [hhead] at hhead'
          rw [hbody] at hbody'
          have h4 : SameStep p s3 s4 := .of_parts (foldl_parts _)
          have h5 : SameStep p s4 s5 := .of_parts (foldl_parts _)
          exact (((hhead'.trans hbody').trans h4).trans h5).modPart

theorem State.replayInputs_rd {g : Fld} (hp : g.page = .prt) (he : errorReg (g.off % 4096) = false) (p d : Nat) :
    (s.replayInputs p).rd g d = s.rd g d :=
  (State.replayInputs_keeps (M := 288249068201743873) rfl (Keeps.refl _ s)).rd_plain (by rw [hp]; rfl) he d

/-- After a restore the count is that of the snapshot's cycle, and the replay stands at its first step. -/
theorem doRestoreDone_effect {p : Nat} {r : Replay} (hr : (s.part p).replay = some r) (hres : r.restoring = true)
    (hbanks : s.banksRestored p = true) (hcap : s.on (R.RES_SNAP.CAPTURING p) 0 = false)
    (hrows : s.shadowBad p (s.depth p) = false) :
    (doRestoreDone p s).rd64 R.PRT_CYCLE_LO.COUNT R.PRT_CYCLE_HI.COUNT p = r.cs % 2 ^ 64 ∧
      ((doRestoreDone p s).part p).step = 0 ∧ ((doRestoreDone p s).part p).inCycle = true := by
  rw [doRestoreDone_restores hr hres hbanks hcap hrows]
  obtain ⟨hstep, hcycle⟩ := State.replayInputs_sameStep (s := s.restored p r) p
  refine ⟨?_, ?_, ?_⟩
  · rw [State.rd64, State.replayInputs_rd rfl rfl, State.replayInputs_rd rfl rfl]
    exact State.rd64_wr64 rfl rfl (by decide) p r.cs
  · rw [hstep, State.restored, State.part_modPart]
  · rw [hcycle, State.restored, State.part_modPart]

end Sys2Proof.Machine

/-! A supply dip is ridden through: the freeze, the recovery, the window and the retention check (R258, R259, R261), and the
statement on rejoins, restores and dips. -/

namespace Sys2Proof.Machine
open Sys2Proof

variable {s : State}

/-! ## The freeze (R114, R258) -/

/-- One partition at the crossing: from Armed or Running it becomes Frozen. -/
def State.freeze (s : State) (p : Nat) : State :=
  if !s.isFollower p && (s.pstate p == 3 || s.pstate p == 4) then
    let s1 := ((s.modPart p (fun x => { x with frozenFrom := s.pstate p })).setState p 6).raise .prt p 6
    if (s.part p).ledger.realFrom.isSome then s1.freeRunBreak p else s1
  else s

theorem State.freezeAll_eq : s.freezeAll = (List.range 64).foldl State.freeze s := rfl

theorem role_noError {q : Nat} (hq : q < 64) : errorReg ((R.RES_GROUP.ROLE q).off % 4096) = false := by
  have hoff : (R.RES_GROUP.ROLE q).off = 0x100 + 0x4 * q := rfl
  simp only [errorReg, hoff, Bool.or_eq_false_iff, beq_eq_false_iff_ne]
  omega

theorem State.freeze_isFollower {q : Nat} (hq : q < 64) (p : Nat) : (s.freeze p).isFollower q = s.isFollower q := by
  have h : Keeps 144116287923028993 s (s.freeze p) :=
    have h1 := State.raise_keeps rfl (State.setState_keeps rfl (State.modPart_keeps rfl (Keeps.refl _ s)))
    keeps_ite (keeps_ite (State.freeRunBreak_keeps rfl h1) h1) (Keeps.refl _ s)
  have hrole : (s.freeze p).role q = s.role q := h.same (.regs .res) rfl _ 0 rfl (role_noError hq)
  rw [State.isFollower, hrole, State.isFollower]

theorem State.freeRunBreak_pstate (p q : Nat) : (s.freeRunBreak p).pstate q = s.pstate q := by
  unfold State.freeRunBreak
  split
  · exact State.timeBreak_rd_apart (by decide) (by decide) (by decide) p q
  · rfl

/-- STATE of any partition reads what `setState` sets, or as before. -/
theorem State.setState_or (p v q : Nat) : (s.setState p v).pstate q = v % 16 ∨ (s.setState p v).pstate q = s.pstate q := by
  unfold State.setState
  refine List.foldlRecOn (motive := fun t : State => t.pstate q = v % 16 ∨ t.pstate q = s.pstate q) _ _ (.inr rfl)
    fun t ht m _ => ?_
  rw [State.pstate, State.rd_wr]
  split
  · exact .inl rfl
  · exact ht

/-- STATE after the freeze of a partition that is Armed or Running is what `setState` makes it. -/
theorem State.freeze_frozen {p : Nat} (hf : s.isFollower p = false) (h : s.pstate p = 3 ∨ s.pstate p = 4) (q : Nat) :
    (s.freeze p).pstate q = ((s.modPart p (fun x => { x with frozenFrom := s.pstate p })).setState p 6).pstate q := by
  rw [State.freeze, if_pos (by rcases h with h | h <;> simp [hf, h])]
  extract_lets s1
  have h1 : s1.pstate q = ((s.modPart p (fun x => { x with frozenFrom := s.pstate p })).setState p 6).pstate q :=
    State.raise_rd _ _ _ rfl q
  split
  · exact (State.freeRunBreak_pstate p q).trans h1
  · exact h1

/-- A freeze leaves no partition in a state that it was not in, but Frozen. -/
theorem State.freeze_pstate (p q : Nat) : (s.freeze p).pstate q = 6 ∨ (s.freeze p).pstate q = s.pstate q := by
  by_cases h : s.isFollower p = false ∧ (s.pstate p = 3 ∨ s.pstate p = 4)
  · rw [State.freeze_frozen h.1 h.2]
    exact State.setState_or p 6 q
  · refine .inr (congrArg (fun t : State => t.pstate q) (if_neg fun hc => h ?_))
    simpa using hc

/-- Every partition in Armed or Running that follows no other becomes Frozen. -/
theorem State.freezeAll_freezes {p : Nat} (hp : p < 64) (hf : s.isFollower p = false) (h : s.pstate p = 3 ∨ s.pstate p = 4) :
    s.freezeAll.pstate p = 6 := by
  rw [State.freezeAll_eq]
  refine foldl_once (I := fun t => t.isFollower p = false ∧ (t.pstate p = 6 ∨ t.pstate p = s.pstate p))
    (Q := fun t => t.pstate p = 6) List.nodup_range (List.mem_range.mpr hp) (fun t ht => ?_) (fun t q _ _ ht => ?_)
    (fun t q _ _ ht => ?_) ⟨hf, .inr rfl⟩
  · obtain ⟨htf, ht6 | hts⟩ := ht
    · exact (State.freeze_pstate p p).elim id (fun e => e.trans ht6)
    · rw [State.freeze_frozen htf (by rwa [hts])]
      exact State.setState_pstate p 6
  · obtain ⟨htf, hts⟩ := ht
    refine ⟨(State.freeze_isFollower hp q).trans htf, ?_⟩
    rcases State.freeze_pstate (s := t) q p with e | e
    · exact .inl e
    · rwa [e]
  · exact (State.freeze_pstate q p).elim id (fun e => e.trans ht)

/-! ## The warning, the recovery and the window (R258, R261) -/

theorem exec_vddCoreWarning (tick : BitVec 64) : exec (.vddCoreWarning tick) s = .next (doVddCoreWarning tick.toNat s) := rfl

theorem exec_vddCoreRecovery (us : Fin 65536) : exec (.vddCoreRecovery us) s = .next (doVddCoreRecovery us.val s) := rfl

theorem exec_dipWindowExpiry : exec .dipWindowExpiry s = .next (doDipWindowExpiry s) := rfl

/-- A check that is over, or abandoned, may end its command, and changes no other field. -/
theorem State.checkOver_rd {g : Fld} (h : R.RES_STATUS.CMD_BUSY.apart g = true) (d : Nat) : s.checkOver.rd g d = s.rd g d := by
  have hregs : s.checkOver.rd g d = (if s.checkByCmd then s.wr R.RES_STATUS.CMD_BUSY 0 0 else s).rd g d := rfl
  rw [hregs]
  split
  · exact State.rd_wr_apart h 0 d 0
  · rfl

/-- A state with a dip that begins in s on it: the supply low, and the time and tick of the crossing (R258, R225). -/
def State.dipMark (s t : State) (tick : Nat) : State :=
  { t with dipLow := true, dipFrom := s.tb, dipTick := tick, dipPassed := false, haltDip := s.haltDip || s.emuStopped }

theorem State.dipMark_rd (t : State) (tick : Nat) (g : Fld) (d : Nat) : (s.dipMark t tick).rd g d = t.rd g d := rfl

/-- The state of a dip that begins, with its partitions frozen and its record made. -/
def State.dipBegun (s : State) (tick : Nat) : State :=
  s.dipMark ((s.freezeAll.checkOver.wr R.RES_STATUS.DIP_STATE 0 1).resEvent
    (((List.range 64).find? (fun p => s.freezeAll.pstate p == 6)).getD 0) ⟨5, 0, 0, 0, 0, 0⟩ 0) tick

theorem doVddCoreWarning_begins (h : s.dipLow = false) (tick : Nat) : doVddCoreWarning tick s =
    ((s.dipBegun tick).raise .res 0 5).logEvent 0x0D 0 1 evDip 0 0 := if_neg (by simp [h])

theorem State.dipBegun_rd {g : Fld} (h44 : g.off % 4096 ≠ 0x44) (h48 : g.off % 4096 ≠ 0x48) (tick d : Nat) :
    (s.dipBegun tick).rd g d = (s.freezeAll.checkOver.wr R.RES_STATUS.DIP_STATE 0 1).rd g d :=
  (State.dipMark_rd ..).trans (State.resEvent_rd h44 h48 ..)

/-- The crossing begins a dip: it is shown, its time is kept, and what ran is Frozen. -/
theorem doVddCoreWarning_effect (h : s.dipLow = false) (tick : Nat) :
    (doVddCoreWarning tick s).rd R.RES_STATUS.DIP_STATE 0 = 1 ∧ (doVddCoreWarning tick s).dipLow = true ∧
    (doVddCoreWarning tick s).dipFrom = s.tb ∧
    ∀ p, p < 64 → s.isFollower p = false → (s.pstate p = 3 ∨ s.pstate p = 4) → (doVddCoreWarning tick s).pstate p = 6 := by
  rw [doVddCoreWarning_begins h]
  refine ⟨?_, ?_, ?_, fun p hp hf hst => ?_⟩
  · rw [State.logEvent_rd_page (by decide), State.raise_rd _ _ _ rfl, State.dipBegun_rd (by decide) (by decide),
      State.rd_wr_self]
    rfl
  · rw [State.logEvent_dipLow, State.raise_dipLow]
    rfl
  · rw [State.logEvent_dipFrom, State.raise_dipFrom]
    rfl
  · rw [State.pstate, State.logEvent_rd_page (by decide), State.raise_rd _ _ _ rfl, State.dipBegun_rd (by decide) (by decide),
      State.rd_wr_apart (by decide), State.checkOver_rd (by decide)]
    exact State.freezeAll_freezes hp hf hst

/-- A check that begins is shown, as is the command that asks for it. -/
theorem State.beginCheck_effect (byCmd : Bool) : (s.beginCheck byCmd).rd R.RES_STATUS.DIP_STATE 0 = 2 ∧
    (byCmd = true → (s.beginCheck byCmd).rd R.RES_STATUS.CMD_BUSY 0 = 1) := by
  have hrd : ∀ g d, (s.beginCheck byCmd).rd g d = ((s.wr R.RES_STATUS.DIP_STATE 0 2).wr R.RES_STATUS.CMD_BUSY 0
      (if byCmd then 1 else s.rd R.RES_STATUS.CMD_BUSY 0)).rd g d := fun _ _ => rfl
  refine ⟨?_, fun h => ?_⟩
  · rw [hrd, State.rd_wr_apart (by decide), State.rd_wr_self]
    rfl
  · rw [hrd, State.rd_wr_self, h]
    rfl

/-- The supply that has risen, with the length of the dip. -/
def State.dipOver (s : State) (us : Nat) : State := { s.wrSat R.RES_DIP_US.US 0 us with dipLow := false }

theorem doVddCoreRecovery_rises (h : s.dipLow = true) (us : Nat) : doVddCoreRecovery us s =
    if s.rd R.RES_STATUS.DIP_STATE 0 = 1 then (s.dipOver us).beginCheck false else s.dipOver us := if_pos h

theorem State.dipOver_us {us : Nat} (h : us < 65536) : (s.dipOver us).rd R.RES_DIP_US.US 0 = us :=
  (State.rd_wrSat_self R.RES_DIP_US.US 0 us).trans (min_eq_left (Nat.le_of_lt_succ h))

/-- The recovery ends the dip and gives its length; within the window the retention check begins. -/
theorem doVddCoreRecovery_effect (h : s.dipLow = true) {us : Nat} (hus : us < 65536) :
    (doVddCoreRecovery us s).dipLow = false ∧ (doVddCoreRecovery us s).rd R.RES_DIP_US.US 0 = us ∧
    (s.rd R.RES_STATUS.DIP_STATE 0 = 1 → (doVddCoreRecovery us s).rd R.RES_STATUS.DIP_STATE 0 = 2) := by
  have hcheck : ((s.dipOver us).beginCheck false).rd R.RES_DIP_US.US 0 = (s.dipOver us).rd R.RES_DIP_US.US 0 :=
    (State.rd_wr_apart (by decide) 0 0 _).trans (State.rd_wr_apart (by decide) 0 0 _)
  rw [doVddCoreRecovery_rises h]
  split
  · exact ⟨rfl, hcheck.trans (State.dipOver_us hus), fun _ => (State.beginCheck_effect false).1⟩
  next hst => exact ⟨rfl, State.dipOver_us hus, fun h1 => absurd h1 hst⟩

theorem doDipWindowExpiry_expires (hlow : s.dipLow = true) (hst : s.rd R.RES_STATUS.DIP_STATE 0 = 1) :
    doDipWindowExpiry s = s.wr R.RES_STATUS.DIP_STATE 0 3 := if_pos (by simp [hlow, hst])

/-! ## The retention check (R259, R261) -/

theorem exec_check {a : Accessor} (h : s.accessCode a .res 0 0x40 true = 0) : exec (.check a) s = .next (doCheck a s) :=
  congrArg Host.Outcome.next (State.access_ok h _)

theorem exec_retentionCheckDone (u : List Upset) : exec (.retentionCheckDone u) s = .next (doRetentionCheckDone u s) := rfl

theorem doCheck_begins (hb : s.on R.RES_STATUS.CMD_BUSY 0 = false) (a : Accessor) :
    doCheck a s = (s.beginCheck true).respond a true 0 := if_neg (by simp [hb])

/-- A state in which the check of the latest dip has passed (R225). -/
def State.dipPass (s : State) : State := { s with dipPassed := true }

theorem State.dipPass_rd (g : Fld) (d : Nat) : s.dipPass.rd g d = s.rd g d := rfl

/-- The state after a check that finds retention good: what it read is rewritten, and the result shown. -/
def State.retained (s : State) : State := (((s.rewriteChecked.checkOver).wr R.RES_STATUS.RETENTION 0 1).absorbed 0 5).dipPass

theorem State.retained_retention : s.retained.rd R.RES_STATUS.RETENTION 0 = 1 := by
  rw [State.retained, State.dipPass_rd, State.absorbed_rd (by decide) rfl, State.rd_wr_self]
  rfl

/-- A check that finds retention good shows it, whether or not the partitions resume by themselves. -/
theorem doRetentionCheckDone_good {u : List Upset} (hst : s.rd R.RES_STATUS.DIP_STATE 0 = 2)
    (hg : (s.upset u).retentionGood = true) : (doRetentionCheckDone u s).rd R.RES_STATUS.RETENTION 0 = 1 := by
  have hdo : doRetentionCheckDone u s = if (s.upset u).retained.on R.RES_CTRL.AUTO_RESUME 0 then
      ((s.upset u).retained.resumeAll.wr R.RES_STATUS.DIP_STATE 0 0).raise .res 0 9
      else (s.upset u).retained.wr R.RES_STATUS.DIP_STATE 0
        (if (List.range 64).any (fun p => (s.upset u).retained.pstate p == 6) then 3 else 0) := by
    rw [doRetentionCheckDone, State.upset_rd, if_neg (by simp [hst]), if_pos hg]
    rfl
  have hresume : Keeps 146368087737761793 (s.upset u).retained (s.upset u).retained.resumeAll :=
    State.resumeAll_keeps rfl (Keeps.refl _ _)
  rw [hdo]
  split
  · rw [State.raise_rd _ _ _ rfl, State.rd_wr_apart (by decide), hresume.rd_plain rfl rfl]
    exact State.retained_retention
  · rw [State.rd_wr_apart (by decide)]
    exact State.retained_retention

/-- A check that finds retention bad shows it and raises its interrupt; the partitions stay Frozen. -/
theorem doRetentionCheckDone_bad {u : List Upset} (hst : s.rd R.RES_STATUS.DIP_STATE 0 = 2)
    (hg : (s.upset u).retentionGood = false) : (doRetentionCheckDone u s).rd R.RES_STATUS.RETENTION 0 = 2 ∧
    (doRetentionCheckDone u s).rd R.RES_STATUS.DIP_STATE 0 = 3 ∧ (doRetentionCheckDone u s).rd (intBit .res 6) 0 = 1 := by
  have hdo : doRetentionCheckDone u s = (((((s.upset u).rewriteChecked.checkOver).wr R.RES_STATUS.RETENTION 0 2).wr
      R.RES_STATUS.DIP_STATE 0 3).raise .res 0 6).logEvent 0x0D 0 2 evRetention 0 0 := by
    rw [doRetentionCheckDone, State.upset_rd, if_neg (by simp [hst]), if_neg (by simp [hg])]
  rw [hdo]
  refine ⟨?_, ?_, ?_⟩
  · rw [State.logEvent_rd_page (by decide), State.raise_rd _ _ _ rfl, State.rd_wr_apart (by decide), State.rd_wr_self]
    rfl
  · rw [State.logEvent_rd_page (by decide), State.raise_rd _ _ _ rfl, State.rd_wr_self]
    rfl
  · rw [State.logEvent_rd_page (by decide)]
    exact State.raise_self _ _ _

/-! ## The statement -/

/-- Settles O17: a member passes through the phases of its rejoin, a restore ends in the replay's first step, and a dip goes
from its warning through the retention check. -/
theorem rejoinRestoreAndDips : Obligations.RejoinRestoreAndDips := by
  unfold Obligations.RejoinRestoreAndDips
  refine ⟨⟨?join, ?repaired, ?copied, ?restore⟩, ⟨?check, ?warning, ?recovery, ?window, ?retention⟩⟩
  case join =>
    intro a p s h hb hm
    refine ⟨_, exec_join h p, ?_⟩
    rw [doJoin_accepted hb hm]
    obtain ⟨hmstate, hbusy, hrejoin⟩ := State.beginJoin_effect (s := s) p.isLt
    exact ⟨hmstate, hbusy, hrejoin, State.respond_sent rfl a⟩
  case repaired =>
    intro p s hm h1 hr
    refine ⟨_, exec_rejoinPhaseEnd p, ?_⟩
    rw [doRejoinPhaseEnd_repaired hm h1 hr, State.part_modPart]
    exact ⟨rfl, State.modPart_regs _ _⟩
  case copied => exact fun p s hm h2 ha => ⟨_, exec_rejoinPhaseEnd p, doRejoinPhaseEnd_effect p.isLt hm h2 ha⟩
  case restore =>
    exact fun p r s hr hres hbanks hcap hrows =>
      ⟨_, exec_restoreDone p, doRestoreDone_effect hr hres hbanks hcap hrows⟩
  case check =>
    intro a s h hb
    refine ⟨_, exec_check h, ?_⟩
    rw [doCheck_begins hb]
    obtain ⟨hstate, hbusy⟩ := State.beginCheck_effect (s := s) true
    exact ⟨hstate, hbusy rfl, State.respond_sent rfl a⟩
  case warning => exact fun tick s h => ⟨_, exec_vddCoreWarning tick, doVddCoreWarning_effect h tick.toNat⟩
  case recovery => exact fun us s h => ⟨_, exec_vddCoreRecovery us, doVddCoreRecovery_effect h us.isLt⟩
  case window =>
    intro s hlow hst
    refine ⟨_, exec_dipWindowExpiry, ?_⟩
    rw [doDipWindowExpiry_expires hlow hst]
    exact ⟨State.rd_wr_self _ _ _, State.wr_rows _ _ _, State.wr_parts _ _ _⟩
  case retention =>
    exact fun u s hst => ⟨_, exec_retentionCheckDone u, doRetentionCheckDone_good hst, doRetentionCheckDone_bad hst⟩

end Sys2Proof.Machine

/-! The logbook's controller: how an entry is written and read back (R262 to R264), the scan (R264, R270), and the events of
software (R270). -/

namespace Sys2Proof.Machine
open Sys2Proof

variable {s t : State}

/-! ## The words of an entry (R262, R263) -/

/-- One word of an entry stored with a good seal. -/
def State.putWord (s : State) (slot k v : Nat) : State :=
  { s with logbook := SMap.set 0 s.logbook (slot * 4 + k) (BitVec.ofNat 128 v) }.setEcc clsLog (slot * 4 + k) 0

theorem State.putEntry_eq (slot w0 w1 w2 w3 : Nat) : s.putEntry slot w0 w1 w2 w3 =
    (((s.putWord slot 0 w0).putWord slot 1 w1).putWord slot 2 w2).putWord slot 3 w3 := rfl

theorem State.putWord_logWord (slot k v : Nat) : (s.putWord slot k v).logWord slot k = v % 2 ^ 128 := by
  have hword : SMap.get 0 (s.putWord slot k v).logbook (slot * 4 + k) = BitVec.ofNat 128 v := SMap.get_set_self ..
  rw [State.logWord, hword, BitVec.toNat_ofNat]

theorem State.putWord_logWord_ne {j k : Nat} (h : j ≠ k) (slot v : Nat) :
    (s.putWord slot k v).logWord slot j = s.logWord slot j := by
  have hword : SMap.get 0 (s.putWord slot k v).logbook (slot * 4 + j) = SMap.get 0 s.logbook (slot * 4 + j) :=
    SMap.get_set_other (by omega)
  rw [State.logWord, hword, State.logWord]

theorem State.putWord_ecc (slot j k v : Nat) : (s.putWord slot k v).ecc clsLog (slot * 4 + j) =
    if j = k then 0 else s.ecc clsLog (slot * 4 + j) := by
  have hset : (s.putWord slot k v).ecc clsLog (slot * 4 + j) =
      if healthKey clsLog (slot * 4 + j) = healthKey clsLog (slot * 4 + k) then 0 else s.ecc clsLog (slot * 4 + j) :=
    SMap.get_set 0 s.health _ 0 _
  have hkey : healthKey clsLog (slot * 4 + j) = healthKey clsLog (slot * 4 + k) ↔ j = k := by
    unfold healthKey
    omega
  rw [hset]
  simp only [hkey]

/-- The first and the last word of an entry read back as they are stored. -/
theorem State.putEntry_logWord (slot w0 w1 w2 w3 : Nat) : (s.putEntry slot w0 w1 w2 w3).logWord slot 0 = w0 % 2 ^ 128 ∧
    (s.putEntry slot w0 w1 w2 w3).logWord slot 3 = w3 % 2 ^ 128 := by
  rw [State.putEntry_eq]
  refine ⟨?_, State.putWord_logWord ..⟩
  rw [State.putWord_logWord_ne (by decide), State.putWord_logWord_ne (by decide), State.putWord_logWord_ne (by decide),
    State.putWord_logWord]

/-- All four words of an entry are stored with good seals. -/
theorem State.putEntry_ecc {k : Nat} (hk : k < 4) (slot w0 w1 w2 w3 : Nat) :
    (s.putEntry slot w0 w1 w2 w3).ecc clsLog (slot * 4 + k) = 0 := by
  rw [State.putEntry_eq, State.putWord_ecc, State.putWord_ecc, State.putWord_ecc, State.putWord_ecc]
  split_ifs
  · rfl
  · rfl
  · rfl
  · rfl
  · omega

/-- An entry whose first word holds a SEQ and whose last one holds its complement is valid, with that SEQ. -/
theorem State.putEntry_valid {seq w0 w3 : Nat} (hseq : seq < 2 ^ 32) (h0 : w0 % 2 ^ 32 = seq)
    (h3 : w3 / 2 ^ 96 = 2 ^ 32 - 1 - seq) (slot w1 w2 : Nat) : (s.putEntry slot w0 w1 w2 w3).logSeq slot = seq ∧
      (s.putEntry slot w0 w1 w2 w3).logValid slot = true := by
  obtain ⟨hword0, hword3⟩ := State.putEntry_logWord (s := s) slot w0 w1 w2 w3
  have hs : (s.putEntry slot w0 w1 w2 w3).logSeq slot = seq := by
    rw [State.logSeq, hword0, bitsOf]
    omega
  have hcommit : bitsOf (w3 % 2 ^ 128) 96 32 = 2 ^ 32 - 1 - seq := by
    rw [bitsOf]
    omega
  refine ⟨hs, ?_⟩
  rw [State.logValid, hs, hword3, hcommit]
  simp only [Bool.and_eq_true, List.all_eq_true, List.mem_range, decide_eq_true_eq, beq_iff_eq]
  refine ⟨fun k hk => ?_, by omega⟩
  rw [State.putEntry_ecc hk]
  decide

/-- The SEQ of an entry, and whether it is valid, rest on the logbook's words and their seals. -/
theorem State.logValid_of (hbook : t.logbook = s.logbook) (hhealth : t.health = s.health) (slot : Nat) :
    t.logSeq slot = s.logSeq slot ∧ t.logValid slot = s.logValid slot := by
  have hword : t.logWord slot = s.logWord slot := by
    funext k
    rw [State.logWord, State.logWord, hbook]
  have hecc : t.ecc = s.ecc := by
    funext c a
    rw [State.ecc, State.ecc, hhealth]
  have hseq : t.logSeq slot = s.logSeq slot := by rw [State.logSeq, State.logSeq, hword]
  exact ⟨hseq, by rw [State.logValid, State.logValid, hword, hecc, hseq]⟩

/-! ## The head moves (R264, R270) -/

theorem State.logAdvance_queue (slot seq : Nat) : (s.logAdvance slot seq).log.queue = s.log.queue := by
  unfold State.logAdvance
  extract_lets src s1 s2
  have h2 : s2.log.queue = s.log.queue := by
    unfold s2
    split
    · rfl
    · rfl
  exact h2

/-- The head and the last SEQ are those of the entry just written. -/
theorem State.logAdvance_rd (slot seq : Nat) : (s.logAdvance slot seq).rd R.LOG_HEAD.INDEX 0 = slot % 65536 ∧
    (s.logAdvance slot seq).rd R.LOG_SEQ.SEQ 0 = seq % 2 ^ 32 := by
  unfold State.logAdvance
  extract_lets src s1 s2
  have h1 : s1.rd R.LOG_HEAD.INDEX 0 = slot % 65536 ∧ s1.rd R.LOG_SEQ.SEQ 0 = seq % 2 ^ 32 :=
    ⟨(State.rd_wr_apart (by decide) 0 0 seq).trans (State.rd_wr_self ..), State.rd_wr_self ..⟩
  have h2 : ∀ g, R.LOG_STATUS.WRAPPED.apart g = true → s2.rd g 0 = s1.rd g 0 := fun g hg => by
    unfold s2
    split
    · exact State.rd_wr_apart hg 0 0 1
    · rfl
  rw [State.rd_wr_apart (by decide), State.rd_wr_apart (by decide), h2 _ (by decide), h2 _ (by decide)]
  exact h1

theorem State.logAdvance_words (slot seq : Nat) : (s.logAdvance slot seq).logbook = s.logbook ∧
    (s.logAdvance slot seq).health = s.health := by
  have h : Keeps 17592202821632 s (s.logAdvance slot seq) := State.logAdvance_keeps rfl (Keeps.refl _ s)
  exact ⟨(h.same .logbook rfl).1, (h.same .health rfl).1⟩

/-- An entry that is put in its slot, with the head moved to it. -/
theorem State.putEntry_logAdvance {seq w0 w3 : Nat} (hseq : seq < 2 ^ 32) (h0 : w0 % 2 ^ 32 = seq)
    (h3 : w3 / 2 ^ 96 = 2 ^ 32 - 1 - seq) (slot w1 w2 : Nat) :
    ((s.putEntry slot w0 w1 w2 w3).logAdvance slot seq).log.queue = s.log.queue ∧
    ((s.putEntry slot w0 w1 w2 w3).logAdvance slot seq).logSeq slot = seq ∧
    ((s.putEntry slot w0 w1 w2 w3).logAdvance slot seq).logValid slot = true ∧
    ((s.putEntry slot w0 w1 w2 w3).logAdvance slot seq).rd R.LOG_HEAD.INDEX 0 = slot % 65536 ∧
    ((s.putEntry slot w0 w1 w2 w3).logAdvance slot seq).rd R.LOG_SEQ.SEQ 0 = seq := by
  obtain ⟨hbook, hhealth⟩ := State.logAdvance_words (s := s.putEntry slot w0 w1 w2 w3) slot seq
  obtain ⟨hs, hv⟩ := State.logValid_of hbook hhealth slot
  obtain ⟨hseq', hvalid⟩ := State.putEntry_valid (s := s) hseq h0 h3 slot w1 w2
  obtain ⟨hhead, hlast⟩ := State.logAdvance_rd (s := s.putEntry slot w0 w1 w2 w3) slot seq
  exact ⟨State.logAdvance_queue .., hs.trans hseq', hv.trans hvalid, hhead, hlast.trans (Nat.mod_eq_of_lt hseq)⟩

/-! ## The entry of an event (R262, R265, R266) -/

/-- A slot that holds no valid permanent record is written without a copy. -/
theorem State.keepPermanent_free (h : s.logValid s.logNext = false ∨ s.logClass s.logNext ≠ 3) (n : Nat) :
    State.keepPermanent n s = s := by
  cases n with
  | zero => rfl
  | succ n => exact if_neg (by rcases h with h | h <;> simp [h])

theorem entryWord0_seq (seq boot aon source inst cls code timeValid : Nat) :
    entryWord0 seq boot aon source inst cls code timeValid % 2 ^ 32 = seq % 2 ^ 32 := by
  unfold entryWord0
  omega

/-- DATA_B leaves room for COMMIT. -/
theorem eventBOf_lt (e : LogEvent) : eventBOf e < 2 ^ 96 := by
  unfold eventBOf
  split
  · decide
  · exact BitVec.isLt _

/-- What the write of an event's entry leaves: the entry valid in the next slot, at the head, under the next SEQ. -/
structure EntryWritten (s t : State) : Prop where
  queue : t.log.queue = s.log.queue
  seq : t.logSeq s.logNext = (s.rd R.LOG_SEQ.SEQ 0 + 1) % 2 ^ 32
  valid : t.logValid s.logNext = true
  head : t.rd R.LOG_HEAD.INDEX 0 = s.logNext % 65536
  last : t.rd R.LOG_SEQ.SEQ 0 = (s.rd R.LOG_SEQ.SEQ 0 + 1) % 2 ^ 32

/-- The interrupt of an entry's class leaves the entry as it is written. -/
theorem EntryWritten.raise (h : EntryWritten s t) (b : Nat) : EntryWritten s (t.raise .log 0 b) := by
  obtain ⟨hs, hv⟩ := State.logValid_of (s := t) (t := t.raise .log 0 b) (State.raise_logbook ..) (State.raise_health ..) s.logNext
  exact ⟨by rw [State.raise_log, h.queue], hs.trans h.seq, hv.trans h.valid, (State.raise_rd _ _ _ rfl 0).trans h.head,
    (State.raise_rd _ _ _ rfl 0).trans h.last⟩

/-- The entry of an event that is no permanent record, in a slot that holds none. -/
theorem State.writeEntry_writes {e : LogEvent} (h : s.logValid s.logNext = false ∨ s.logClass s.logNext ≠ 3)
    (hc : eventClassOf e < 3) (rep : Nat) : EntryWritten s (s.writeEntry e rep) := by
  have hb := eventBOf_lt e
  unfold State.writeEntry
  rw [State.keepPermanent_free h]
  extract_lets s1 slot seq now timed w0 w1 w3 s2 s3
  have hseq : seq < 2 ^ 32 := Nat.mod_lt _ (by decide)
  have h2 : EntryWritten s s2 := by
    obtain ⟨hqueue, hs, hv, hhead, hlast⟩ := State.putEntry_logAdvance (s := s) (w0 := w0) (w3 := w3) hseq
      ((entryWord0_seq ..).trans (Nat.mod_eq_of_lt hseq)) (by unfold w3; omega) slot w1 (eventAOf e)
    exact ⟨hqueue, hs, hv, hhead, hlast⟩
  have h3 : EntryWritten s s3 := by
    unfold s3
    rwa [if_neg (by omega)]
  split
  · exact h3.raise 0
  · exact h3

/-! ## LOGBOOK_WRITE (R263, R265) -/

theorem exec_logbookWrite : exec .logbookWrite s = .next (doLogbookWrite s) := rfl

/-- The state with the logbook controller's own data changed. -/
def State.withLog (s : State) (l : Logbook) : State := { s with log := l }

theorem State.withLog_withLog (l l' : Logbook) : (s.withLog l).withLog l' = s.withLog l' := rfl

/-- The next slot, and what it holds, do not rest on the controller's keys, seconds and queue. -/
theorem State.withLog_logNext {l : Logbook} (h : l.hasHead = s.log.hasHead) : (s.withLog l).logNext = s.logNext := by
  rw [State.logNext, State.logNext]
  change (if l.hasHead then _ else _) = _
  rw [h]
  rfl

theorem State.withLog_logValid (l : Logbook) (i : Nat) : (s.withLog l).logValid i = s.logValid i :=
  (State.logValid_of (s := s) (t := s.withLog l) rfl rfl i).2

theorem State.withLog_logClass (l : Logbook) (i : Nat) : (s.withLog l).logClass i = s.logClass i := rfl

/-- What the controller keeps once it writes an event: its key, the second, and the entries of that second. -/
def State.logKept (s : State) (e : LogEvent) : Logbook :=
  { s.log with keys := SMap.set {} s.log.keys (eventKey e) { last := s.now, held := 0, seen := true },
               second := s.now / 65536 / 1000000000,
               inSecond := (if s.log.second = s.now / 65536 / 1000000000 then s.log.inSecond else 0) + 1 }

/-- An event that is the first of its key, within the limit of its second, is written. -/
theorem State.logTake_writes {e : LogEvent} (hk : (SMap.get {} s.log.keys (eventKey e)).seen = false)
    (hn : s.log.second = s.now / 65536 / 1000000000 → s.log.inSecond < 16384) :
    s.logTake e = (s.withLog (s.logKept e)).writeEntry e (SMap.get ({} : LogKey) s.log.keys (eventKey e)).held := by
  have hlimit : ¬16384 ≤ (if s.log.second = s.now / 65536 / 1000000000 then s.log.inSecond else 0) := by
    split
    next h => exact Nat.not_le.mpr (hn h)
    next => decide
  rw [State.logTake]
  dsimp only
  rw [if_neg (by simp [hk]), if_neg hlimit]
  rfl

/-- The oldest event leaves the queue and is taken. -/
theorem doLogbookWrite_takes {e : LogEvent} {rest : List LogEvent} (hd : s.on R.LOG_STATUS.SCAN_DONE 0 = true)
    (hq : s.log.queue = e :: rest) : doLogbookWrite s = (s.withLog { s.log with queue := rest }).logTake e := by
  rw [doLogbookWrite, if_pos hd, hq]
  rfl

theorem doLogbookWrite_effect {e : LogEvent} {rest : List LogEvent} (hd : s.on R.LOG_STATUS.SCAN_DONE 0 = true)
    (hq : s.log.queue = e :: rest) (hk : (SMap.get {} s.log.keys (eventKey e)).seen = false)
    (hn : s.log.second = s.now / 65536 / 1000000000 → s.log.inSecond < 16384)
    (hfree : s.logValid s.logNext = false ∨ s.logClass s.logNext ≠ 3) (hc : eventClassOf e < 3) :
    ∃ l : Logbook, l.queue = rest ∧ (s.withLog l).logNext = s.logNext ∧ EntryWritten (s.withLog l) (doLogbookWrite s) := by
  rw [doLogbookWrite_takes hd hq, State.logTake_writes (s := s.withLog { s.log with queue := rest }) hk hn]
  rw [State.withLog_withLog]
  have hnext := State.withLog_logNext (s := s) (l := (s.withLog { s.log with queue := rest }).logKept e) rfl
  refine ⟨_, rfl, hnext, State.writeEntry_writes ?_ hc _⟩
  rw [hnext, State.withLog_logClass, State.withLog_logValid]
  exact hfree

/-! ## The scan (R264, R270) -/

theorem exec_logbookScanDone : exec .logbookScanDone s = .next (doLogbookScanDone s) := rfl

theorem State.logSeq_lt (i : Nat) : s.logSeq i < 2 ^ 32 := Nat.mod_lt _ (by decide)

/-- Among some entries and one more, the search for the highest SEQ finds one that none exceeds. -/
theorem logExtreme_fold_max (v : List Nat) (a : Nat) : ∀ i ∈ a :: v,
    s.logSeq i ≤ s.logSeq (v.foldl (fun a i => if s.logSeq a ≤ s.logSeq i then i else a) a) := by
  induction v generalizing a with
  | nil => simp
  | cons x v ih =>
    intro i hi
    rw [List.foldl_cons]
    have hnext := ih (if s.logSeq a ≤ s.logSeq x then x else a)
    have hstart := hnext _ List.mem_cons_self
    rcases List.mem_cons.mp hi with rfl | hi
    · refine le_trans ?_ hstart
      split <;> omega
    · rcases List.mem_cons.mp hi with rfl | hi
      · refine le_trans ?_ hstart
        split <;> omega
      · exact hnext i (List.mem_cons_of_mem _ hi)

theorem State.logExtreme_max {v : List Nat} {i : Nat} (hi : i ∈ v) : s.logSeq i ≤ s.logSeq (s.logExtreme true v) := by
  rw [State.logExtreme]
  simp only [if_true]
  exact logExtreme_fold_max v _ i (List.mem_cons_of_mem _ hi)

/-- The state in which the scan has found the head and the oldest entry (R264). -/
def State.scanned (s : State) : State :=
  (({ s with log := { s.log with hasHead := !s.validEntries.isEmpty } }.wr R.LOG_HEAD.INDEX 0
    (s.logExtreme true s.validEntries)).wr R.LOG_OLDEST.INDEX 0 (s.logExtreme false s.validEntries)).wr R.LOG_SEQ.SEQ 0
    (if s.validEntries.isEmpty then 0 else s.logSeq (s.logExtreme true s.validEntries))

theorem State.scanned_logbook : s.scanned.logbook = s.logbook := rfl

theorem doLogbookScanDone_scans (hd : s.on R.LOG_STATUS.SCAN_DONE 0 = false) (hst : 2 ≤ s.rd R.PWR_STATUS.DEV_STATE 0) :
    ∃ wrapped, doLogbookScanDone s = (((s.scanned.wrSat R.LOG_TORN.COUNT 0 (65536 - s.validEntries.length)).wr
      R.LOG_PERM.COUNT 0 (s.validEntries.filter (fun i => s.logClass i == 3)).length).wr R.LOG_STATUS.WRAPPED 0 wrapped).wr
      R.LOG_STATUS.SCAN_DONE 0 1 :=
  ⟨_, if_neg (by simp [hd, Nat.not_lt.mpr hst])⟩

/-- No valid entry has a SEQ above the one that the scan keeps. -/
theorem State.scanned_seq {i : Nat} (hi : i ∈ s.validEntries) : s.logSeq i ≤ s.scanned.rd R.LOG_SEQ.SEQ 0 := by
  have hne : s.validEntries.isEmpty = false := by
    rw [List.isEmpty_eq_false_iff]
    exact List.ne_nil_of_mem hi
  rw [State.scanned, State.rd_wr_self, hne]
  change _ ≤ s.logSeq (s.logExtreme true s.validEntries) % 2 ^ 32
  rw [Nat.mod_eq_of_lt (State.logSeq_lt _)]
  exact State.logExtreme_max hi

theorem doLogbookScanDone_effect (hd : s.on R.LOG_STATUS.SCAN_DONE 0 = false) (hst : 2 ≤ s.rd R.PWR_STATUS.DEV_STATE 0) :
    (doLogbookScanDone s).rd R.LOG_STATUS.SCAN_DONE 0 = 1 ∧
    (∀ i ∈ s.validEntries, s.logSeq i ≤ (doLogbookScanDone s).rd R.LOG_SEQ.SEQ 0) ∧
    (doLogbookScanDone s).rd R.LOG_PERM.COUNT 0 = (s.validEntries.filter (fun i => s.logClass i == 3)).length % 2 ^ 13 ∧
    (doLogbookScanDone s).logbook = s.logbook := by
  obtain ⟨wrapped, hscan⟩ := doLogbookScanDone_scans hd hst
  rw [hscan]
  refine ⟨State.rd_wr_self _ _ _, fun i hi => ?_, ?_, State.scanned_logbook⟩
  · rw [State.rd_wr_apart (by decide), State.rd_wr_apart (by decide), State.rd_wr_apart (by decide), State.wrSat,
      State.rd_wr_apart (by decide)]
    exact State.scanned_seq hi
  · rw [State.rd_wr_apart (by decide), State.rd_wr_apart (by decide), State.rd_wr_self]
    rfl

/-! ## LOG_USER_CMD (R270) -/

theorem exec_logUserCmd {a : Accessor} (h : s.accessCode a .log 0 0x70 true = 0) (v : W32) :
    exec (.logUserCmd a v) s = .next (doLogUserCmd a v s) := congrArg Host.Outcome.next (State.access_ok h _)

/-- An event is queued once the scan is done, or while it runs and the queue has room. -/
theorem State.logQueue_queues (h : s.on R.LOG_STATUS.SCAN_DONE 0 = true ∨ s.log.queue.length < 256) (e : LogEvent) :
    s.logQueue e = { s with log := { s.log with queue := s.log.queue ++ [e] } } :=
  if_neg (by rcases h with h | h <;> simp [h])

/-! ## The statement -/

/-- Settles O18: the oldest event becomes a valid entry at the head, the scan finds the highest SEQ and the permanent records,
and LOG_USER_CMD queues the event that LOG_USER holds. -/
theorem logbookKeepsEvents : Obligations.LogbookKeepsEvents := by
  unfold Obligations.LogbookKeepsEvents
  refine ⟨?write, ?scan, ?user⟩
  case write =>
    intro e rest s hd hq hk hn hfree hc
    obtain ⟨l, hrest, hnext, hw⟩ := doLogbookWrite_effect hd hq hk hn hfree hc
    exact ⟨_, exec_logbookWrite, hw.queue.trans hrest, hnext ▸ hw.seq, hnext ▸ hw.valid, hnext ▸ hw.head, hw.last⟩
  case scan => exact fun s hd hst => ⟨_, exec_logbookScanDone, doLogbookScanDone_effect hd hst⟩
  case user =>
    intro a v s h hroom
    refine ⟨_, exec_logUserCmd h v, ?_⟩
    rw [doLogUserCmd, State.logQueue_queues hroom]
    exact ⟨rfl, State.respond_sent rfl a⟩

end Sys2Proof.Machine

/-! The configuration engine: what the operations that its commands share do to the engine, to its registers and to its outputs,
and how the record at the front of the input is taken (R291, R292, R298 to R300). -/

namespace Sys2Proof.Machine
open Sys2Proof

variable {s t : State}

/-! ## The engine's own data -/

@[simp] theorem State.modEng_engine (f : CfgEngine → CfgEngine) : (s.modEng f).fabric.engine = f s.fabric.engine := rfl

@[simp] theorem State.modEng_rd (f : CfgEngine → CfgEngine) (g : Fld) (d : Nat) : (s.modEng f).rd g d = s.rd g d := rfl

/-! ## The image that is fetched (R298, R299) -/

/-- The registers that say how long the image in hand is. -/
def imageFields : List Fld :=
  [R.CFG_STREAM_LEN.BYTES, R.CFG_STATUS.IMAGE, R.CFG_GOLDEN_LEN.BYTES, R.CFG_IMAGE_LEN.BYTES]

/-- The image does not end with the words that the engine has: they come through the port, or more are to be fetched. -/
def State.hasMore (s : State) : Prop := s.fabric.engine.source = 2 ∨ s.fabric.engine.fetched < s.imageBytes / 4

theorem State.imageBytes_of (hsrc : t.fabric.engine.source = s.fabric.engine.source)
    (hrd : ∀ g ∈ imageFields, t.rd g 0 = s.rd g 0) : t.imageBytes = s.imageBytes := by
  simp only [imageFields, List.forall_mem_cons] at hrd
  obtain ⟨hstream, himage, hgolden, hprimary, -⟩ := hrd
  simp only [State.imageBytes, hsrc, hstream, himage, hgolden, hprimary]

theorem State.hasMore_of (h : s.hasMore) (hsrc : t.fabric.engine.source = s.fabric.engine.source)
    (hfetched : t.fabric.engine.fetched = s.fabric.engine.fetched)
    (hrd : ∀ g ∈ imageFields, t.rd g 0 = s.rd g 0) : t.hasMore := by
  rwa [State.hasMore, hsrc, hfetched, State.imageBytes_of hsrc hrd]

/-- An image that has more fails no length check (R299). -/
theorem State.lengthCheck_of_hasMore (h : s.hasMore) : s.lengthCheck = s := by
  refine if_neg ?_
  rcases h with h | h
  · simp [h]
  · simp [Nat.not_le.mpr h]

theorem State.lengthCheck_of_closed (h : s.streaming = false) : s.lengthCheck = s := if_neg (by simp [h])

theorem State.lengthCheck_of_clearing (h : s.fabric.clearing ≠ 0) : s.lengthCheck = s := if_neg (by simp [h])

theorem State.streaming_iff : s.streaming = true ↔ s.rd R.CFG_STATUS.STREAM_BUSY 0 = 1 := beq_iff_eq

@[simp] theorem State.respond_streaming (a : Accessor) (ok : Bool) (v : Nat) : (s.respond a ok v).streaming = s.streaming := rfl

/-! ## Shutting the fabric down (R300) -/

/-- The registers that a shutdown writes. -/
def shutdownFields : List Fld :=
  [R.CFG_STATUS.DONE_RELEASED, R.CFG_STATUS.SU_PHASE, R.FAB_BANK_DECL.LEVEL, R.FAB_GCLK_SRC_A.SRC, R.FAB_GCLK_SRC_B.SRC,
    R.FAB_STATUS.GCLK_ON]

theorem State.shutdown_rd {g : Fld} (h : ∀ f ∈ shutdownFields, f.apart g = true) (d : Nat) :
    s.shutdown.rd g d = s.rd g d := by
  simp only [shutdownFields, List.forall_mem_cons] at h
  obtain ⟨hdone, hphase, hdecl, ha, hb, hon, -⟩ := h
  rw [State.shutdown, State.modFab_rd, State.rd_wr_apart hon, State.rd_wr_apart hb, State.rd_wr_apart ha,
    State.rd_wr_apart hdecl, State.rd_wr_apart hphase, State.rd_wr_apart hdone]

theorem State.shutdown_outbox : s.shutdown.outbox = s.outbox := by
  simp only [State.shutdown, State.modFab_outbox, State.wr_outbox]

/-! ## Beginning and closing a stream (R291, R298) -/

/-- The length of a full image: 2 golden, else primary. -/
def State.imageLen (s : State) (image : Nat) : Nat :=
  if image = 2 then s.rd R.CFG_GOLDEN_LEN.BYTES 0 else s.rd R.CFG_IMAGE_LEN.BYTES 0

theorem State.imageLen_of (hrd : ∀ g ∈ imageFields, g ≠ R.CFG_STATUS.IMAGE → t.rd g 0 = s.rd g 0) (image : Nat) :
    t.imageLen image = s.imageLen image := by
  simp only [State.imageLen, hrd R.CFG_GOLDEN_LEN.BYTES (by decide) (by decide),
    hrd R.CFG_IMAGE_LEN.BYTES (by decide) (by decide)]

/-- The registers that hold the bus addresses of the images (R314). -/
def addrFields : List Fld :=
  [R.CFG_IMAGE_ADDR_LO.ADDR, R.CFG_IMAGE_ADDR_HI.ADDR, R.CFG_GOLDEN_ADDR_LO.ADDR, R.CFG_GOLDEN_ADDR_HI.ADDR,
    R.CFG_STREAM_ADDR_LO.ADDR, R.CFG_STREAM_ADDR_HI.ADDR]

theorem State.imageAddr_of (hrd : ∀ g ∈ addrFields, t.rd g 0 = s.rd g 0) (image : Nat) :
    t.imageAddr image = s.imageAddr image := by
  simp only [addrFields, List.forall_mem_cons] at hrd
  obtain ⟨hlo, hhi, hglo, hghi, hslo, hshi, -⟩ := hrd
  simp only [State.imageAddr, State.rd64, hlo, hhi, hglo, hghi, hslo, hshi]

theorem State.beginFetch_fabric (source : Nat) :
    (s.beginFetch source).fabric = { s.fabric with engine := { source := source } } := rfl

theorem State.beginFetch_streaming (source : Nat) : (s.beginFetch source).streaming = true :=
  State.streaming_iff.mpr (State.rd_wr_self (s := s) R.CFG_STATUS.STREAM_BUSY 0 1)

theorem State.beginFetch_rd {g : Fld} (h : R.CFG_STATUS.STREAM_BUSY.apart g = true) (source d : Nat) :
    (s.beginFetch source).rd g d = s.rd g d := State.rd_wr_apart (s := s) h 0 d 1

theorem State.beginStream_rd {g : Fld} (h : R.CFG_STATUS.STREAM_BUSY.apart g = true) (source d : Nat) :
    (s.beginStream source).rd g d = s.rd g d := State.rd_wr_apart (s := s) h 0 d 1

theorem State.beginStream_imageBytes :
    (s.beginStream 0).imageBytes = s.imageLen (s.rd R.CFG_STATUS.IMAGE 0) ∧
      (s.beginStream 1).imageBytes = s.rd R.CFG_STREAM_LEN.BYTES 0 := by
  refine ⟨?_, State.beginStream_rd (by decide) 1 0⟩
  rw [State.imageBytes, if_neg (by exact Nat.zero_ne_one)]
  simp only [State.imageLen, State.beginStream_rd (g := R.CFG_STATUS.IMAGE) (by decide),
    State.beginStream_rd (g := R.CFG_GOLDEN_LEN.BYTES) (by decide), State.beginStream_rd (g := R.CFG_IMAGE_LEN.BYTES) (by decide)]

/-- The fetch of a full image asks for the whole image that IMAGE names. -/
theorem State.beginFetch_outbox : (s.beginFetch 0).outbox = s.outbox ++
    [.busRead (s.imageAddr (s.rd R.CFG_STATUS.IMAGE 0)) (s.imageLen (s.rd R.CFG_STATUS.IMAGE 0))] := by
  have haddr := State.imageAddr_of (t := s.beginStream 0) (s := s)
    (fun g hg => State.beginStream_rd ((by decide : ∀ g ∈ addrFields, R.CFG_STATUS.STREAM_BUSY.apart g = true) g hg) 0 0)
  rw [State.beginFetch, State.emit_outbox, if_neg Nat.zero_ne_one, haddr, State.beginStream_imageBytes.1,
    State.beginStream_rd (by decide)]
  rfl

/-- An image of a word or more is not at its end when its fetch begins. -/
theorem State.beginFetch_hasMore {source : Nat} (h : 4 ≤ (s.beginStream source).imageBytes) : (s.beginFetch source).hasMore :=
  .inr (Nat.div_pos h (by decide))

theorem State.beginFetch_lengthCheck {source : Nat} (h : 4 ≤ (s.beginStream source).imageBytes) :
    (s.beginFetch source).lengthCheck = s.beginFetch source :=
  State.lengthCheck_of_hasMore (State.beginFetch_hasMore h)

/-- A stream that leaves no words of the port behind it ends. -/
theorem State.closeStream_ends (h : s.fabric.engine.source ≠ 2 ∨ s.fabric.engine.input = []) :
    s.closeStream.streaming = false ∧ s.closeStream.fabric.engine = { source := s.fabric.engine.source } := by
  have hrest : (if s.fabric.engine.source = 2 then s.fabric.engine.input else []) = [] := by
    rcases h with h | h
    · exact if_neg h
    · rw [h, ite_self]
  have hbusy : s.closeStream.rd R.CFG_STATUS.STREAM_BUSY 0 = 0 := by
    rw [State.closeStream, hrest]
    exact State.rd_wr_self (s := s) R.CFG_STATUS.STREAM_BUSY 0 0
  refine ⟨by rw [State.streaming, State.on, hbusy]; rfl, ?_⟩
  rw [State.closeStream, hrest]
  rfl

/-- Words that the port has taken behind a stream begin the next one (R307). -/
theorem State.closeStream_goesOn (hsrc : s.fabric.engine.source = 2) (hin : s.fabric.engine.input ≠ []) :
    s.closeStream.streaming = true ∧ s.closeStream.fabric.engine = { source := 2, input := s.fabric.engine.input } := by
  have hempty : s.fabric.engine.input.isEmpty = false := List.isEmpty_eq_false_iff.mpr hin
  have hbusy : s.closeStream.rd R.CFG_STATUS.STREAM_BUSY 0 = 1 := by
    rw [State.closeStream, if_pos hsrc, hempty]
    exact State.rd_wr_self (s := s) R.CFG_STATUS.STREAM_BUSY 0 1
  refine ⟨State.streaming_iff.mpr hbusy, ?_⟩
  rw [State.closeStream, if_pos hsrc, hempty, ← hsrc]
  rfl

/-- The whole fabric is shut down and waits for its frames to be cleared when a full load fails (R298 step 4). -/
theorem State.loadFailed_effect (code : Nat) : (s.loadFailed code).rd R.CFG_STATUS.LOAD_ERR 0 = code % 2 ^ 4 ∧
    (s.loadFailed code).fabric.clearing = 1 ∧ (s.loadFailed code).fabric.held = true := by
  refine ⟨?_, rfl, ?_⟩
  · rw [State.loadFailed, State.modFab_rd, State.logEvent_rd_page (by decide), State.rd_wr_apart (by decide),
      State.rd_wr_apart (by decide), State.rd_wr_self]
    rfl
  · simp only [State.loadFailed, State.modFab, State.logEvent_fabric, State.wr_fabric]
    rfl

/-! ## Records (R292) -/

/-- The engine after it has taken a record: header and payload are consumed into the stream check, of a CHECK record the header
alone (R296), and only LAUNCH still sees whether a CHECK that matched came before it. -/
def CfgEngine.taken (e : CfgEngine) (k : RecordKind) (h : W32) (rest : List W32) : CfgEngine :=
  { e with
    input := rest.drop (payloadWords k)
    crc := if e.crcOn then crcWords e.crc (h :: if k = .check then [] else rest.take (payloadWords k)) else e.crc
    checkOk := if k = .launch then e.checkOk else false }

/-- The state in which the action of a record is performed. -/
def State.taken (s : State) (k : RecordKind) (h : W32) (rest : List W32) : State := s.modEng (fun e => e.taken k h rest)

variable {k : RecordKind} {h v : W32} {rest : List W32}

theorem State.atRecord.hasMore (hr : s.atRecord k h rest) : s.hasMore := by
  obtain ⟨-, -, -, -, -, -, -, hmore⟩ := hr
  exact hmore

/-- What the action leaves of the image's place decides whether the image has more behind the record. -/
theorem State.atRecord.hasMore_of (hr : s.atRecord k h rest) (hsrc : t.fabric.engine.source = s.fabric.engine.source)
    (hfetched : t.fabric.engine.fetched = s.fabric.engine.fetched) (hregs : t.regs = s.regs) : t.hasMore :=
  State.hasMore_of hr.hasMore hsrc hfetched (fun g _ => State.rd_of_regs hregs g 0)

/-- The record at the front of the input is taken and its action performed. -/
theorem State.record_takes (hr : s.atRecord k h rest) (act : Nat → Nat → State → State) :
    s.record k act = (act (recLen h.toNat) ((rest.take (payloadWords k)).headD 0).toNat (s.taken k h rest)).lengthCheck := by
  obtain ⟨hstream, hhunt, hleft, hclear, hin, hkind, hlen, -⟩ := hr
  have hguard : (!s.streaming || s.fabric.engine.hunting || s.fabric.engine.framesLeft != 0 || s.fabric.clearing != 0) = false := by
    simp [hstream, hhunt, hleft, hclear]
  have hpay : (rest.take (payloadWords k)).length = payloadWords k := List.length_take_of_le hlen
  have htaken : (let s1 := s.consume (h :: if k = .check then [] else rest.take (payloadWords k))
      let s2 := if k = .check then s1.modEng (fun e => { e with input := e.input.drop 1 }) else s1
      if k = .launch then s2 else s2.modEng (fun e => { e with checkOk := false })) = s.taken k h rest := by
    by_cases hcheck : k = .check
    · subst hcheck
      simp [State.taken, CfgEngine.taken, State.consume, State.modEng, State.modFab, hin, payloadWords]
    · by_cases hlaunch : k = .launch
      · subst hlaunch
        simp [State.taken, CfgEngine.taken, State.consume, State.modEng, State.modFab, hin, payloadWords]
      · simp [State.taken, CfgEngine.taken, State.consume, State.modEng, State.modFab, hin, hcheck, hlaunch, hpay]
  unfold State.record
  extract_lets e
  rw [if_neg (by rw [hguard]; decide)]
  simp only [e, hin, hkind, ne_eq, not_true_eq_false, decide_false, Bool.false_or, Nat.not_lt.mpr hlen,
    Bool.false_eq_true, if_false]
  rw [← htaken]

/-- A record whose action ends in a state whose image has more ends there. -/
theorem State.record_ends (hr : s.atRecord k h rest) {act : Nat → Nat → State → State}
    (hact : act (recLen h.toNat) ((rest.take (payloadWords k)).headD 0).toNat (s.taken k h rest) = t) (hmore : t.hasMore) :
    s.record k act = t := by
  rw [State.record_takes hr, hact, State.lengthCheck_of_hasMore hmore]

end Sys2Proof.Machine

/-! A stream begins, is fetched, finds its marker and ends, and a failed load falls back (R291, R298, R299, R309): the statement. -/

namespace Sys2Proof.Machine
open Sys2Proof

variable {s t : State} {a : Accessor}

/-! ## Loads (R298) -/

/-- The fabric is shut down for a full load with an image (R298 step 1). -/
def State.shutForLoad (s : State) (image : Nat) : State :=
  (((s.finishClear).wr R.CFG_STATUS.STATE 0 1).wr R.CFG_STATUS.IMAGE 0 image).shutdown.modFab (fun x => { x with written := [] })

theorem State.beginLoad_eq (image : Nat) : s.beginLoad image = ((s.shutForLoad image).beginFetch 0).lengthCheck := rfl

theorem State.finishClear_frame : s.finishClear.regs = s.regs ∧ s.finishClear.outbox = s.outbox := by
  unfold State.finishClear
  split <;> exact ⟨rfl, rfl⟩

theorem State.shutForLoad_rd {g : Fld} (h : ∀ f ∈ R.CFG_STATUS.STATE :: R.CFG_STATUS.IMAGE :: shutdownFields, f.apart g = true)
    (image d : Nat) : (s.shutForLoad image).rd g d = s.rd g d := by
  simp only [List.forall_mem_cons] at h
  obtain ⟨hstate, himage, hshut⟩ := h
  rw [State.shutForLoad, State.modFab_rd, State.shutdown_rd hshut, State.rd_wr_apart himage, State.rd_wr_apart hstate,
    State.rd_of_regs State.finishClear_frame.1]

theorem State.shutForLoad_status {image : Nat} (hi : image < 4) : (s.shutForLoad image).rd R.CFG_STATUS.STATE 0 = 1 ∧
    (s.shutForLoad image).rd R.CFG_STATUS.IMAGE 0 = image := by
  constructor
  · rw [State.shutForLoad, State.modFab_rd, State.shutdown_rd (by decide), State.rd_wr_apart (by decide), State.rd_wr_self]
    rfl
  · rw [State.shutForLoad, State.modFab_rd, State.shutdown_rd (by decide), State.rd_wr_self]
    exact Nat.mod_eq_of_lt hi

theorem State.beginLoad_effect {image : Nat} (hi : image < 4) (hlen : 4 ≤ s.imageLen image) :
    (s.beginLoad image).rd R.CFG_STATUS.STATE 0 = 1 ∧ (s.beginLoad image).rd R.CFG_STATUS.IMAGE 0 = image ∧
    (s.beginLoad image).streaming = true ∧ (s.beginLoad image).fabric.engine = { source := 0 } ∧
    (s.beginLoad image).fabric.held = true ∧ (s.beginLoad image).fabric.parked = true ∧
    (s.beginLoad image).outbox = s.outbox ++ [.busRead (s.imageAddr image) (s.imageLen image)] := by
  obtain ⟨hstate, himage⟩ := State.shutForLoad_status (s := s) hi
  have hsize : (s.shutForLoad image).imageLen image = s.imageLen image :=
    State.imageLen_of (fun g hg hne => State.shutForLoad_rd ((by decide +kernel : ∀ g ∈ imageFields, g ≠ R.CFG_STATUS.IMAGE →
      ∀ f ∈ R.CFG_STATUS.STATE :: R.CFG_STATUS.IMAGE :: shutdownFields, f.apart g = true) g hg hne) image 0) image
  have haddr : (s.shutForLoad image).imageAddr image = s.imageAddr image :=
    State.imageAddr_of (fun g hg => State.shutForLoad_rd ((by decide +kernel : ∀ g ∈ addrFields,
      ∀ f ∈ R.CFG_STATUS.STATE :: R.CFG_STATUS.IMAGE :: shutdownFields, f.apart g = true) g hg) image 0) image
  have hword : 4 ≤ ((s.shutForLoad image).beginStream 0).imageBytes := by
    rwa [State.beginStream_imageBytes.1, himage, hsize]
  have hout : (s.shutForLoad image).outbox = s.outbox := by
    rw [State.shutForLoad, State.modFab_outbox, State.shutdown_outbox, State.wr_outbox, State.wr_outbox,
      State.finishClear_frame.2]
  rw [State.beginLoad_eq, State.beginFetch_lengthCheck hword]
  refine ⟨(State.beginFetch_rd (by decide) 0 0).trans hstate, (State.beginFetch_rd (by decide) 0 0).trans himage,
    State.beginFetch_streaming 0, ?_, ?_, ?_, ?_⟩
  · rw [State.beginFetch_fabric]
  · rw [State.beginFetch_fabric]
    rfl
  · rw [State.beginFetch_fabric]
    rfl
  rw [State.beginFetch_outbox, himage, hsize, haddr, hout]

theorem exec_load (h : s.accessCode a .cfg 0 0x40 true = 0) : exec (.load a) s = .next (doLoad a s) :=
  congrArg Host.Outcome.next (State.access_ok h _)

theorem exec_loadGolden (h : s.accessCode a .cfg 0 0x40 true = 0) : exec (.loadGolden a) s = .next (doLoadGolden a s) :=
  congrArg Host.Outcome.next (State.access_ok h _)

theorem exec_clear (h : s.accessCode a .cfg 0 0x40 true = 0) : exec (.clear a) s = .next (doClear a s) :=
  congrArg Host.Outcome.next (State.access_ok h _)

theorem exec_stream (h : s.accessCode a .cfg 0 0x40 true = 0) : exec (.stream a) s = .next (doStream a s) :=
  congrArg Host.Outcome.next (State.access_ok h _)

theorem doLoad_loads (h : s.streaming = false) : doLoad a s = (s.beginLoad 1).respond a true 0 :=
  if_neg (by simp [h])

theorem doLoadGolden_loads (h : s.streaming = false) : doLoadGolden a s = (s.beginLoad 2).respond a true 0 :=
  if_neg (by simp [h])

theorem State.respond_behind {o : Output} (h : s.outbox = t.outbox ++ [o]) (a : Accessor) :
    (s.respond a true 0).outbox = t.outbox ++ [o, .regResp a 0 0] := by
  rw [State.respond_outbox, h, List.append_assoc]
  rfl

/-- CLEAR leaves the fabric shut down, its frames to be cleared, and no load error (R298). -/
theorem doClear_effect (h : s.streaming = false) : (doClear a s).rd R.CFG_STATUS.STATE 0 = 1 ∧
    (doClear a s).rd R.CFG_STATUS.LOAD_ERR 0 = 0 ∧ (doClear a s).fabric.clearing = 2 ∧ (doClear a s).fabric.held = true ∧
    (doClear a s).fabric.written = [] := by
  have hfab : ∀ x : State, (x.logEvent 0x0E 0 1 evFabric 0 0).fabric = x.fabric := fun _ => State.logEvent_fabric _ _ _ _ _ _
  unfold doClear
  rw [if_neg (by simp [h])]
  refine ⟨?_, ?_, rfl, ?_, rfl⟩
  · rw [State.respond_rd, State.modFab_rd, State.logEvent_rd_page (by decide), State.rd_wr_apart (by decide),
      State.shutdown_rd (by decide), State.rd_wr_apart (by decide), State.rd_wr_self]
    rfl
  · rw [State.respond_rd, State.modFab_rd, State.logEvent_rd_page (by decide), State.rd_wr_self]
    rfl
  · simp only [State.respond_fabric, State.modFab, hfab, State.wr_fabric]
    rfl

/-- STREAM begins to fetch the region stream and leaves the fabric as it is (R309). -/
theorem doStream_fetches (hstream : s.streaming = false) (hstate : s.rd R.CFG_STATUS.STATE 0 = 3)
    (hown : s.on R.CFG_CTRL.CP_OWNER 0 = false) (hlen : 4 ≤ s.rd R.CFG_STREAM_LEN.BYTES 0) :
    doStream a s = (s.beginFetch 1).respond a true 0 := by
  have hword : 4 ≤ (s.beginStream 1).imageBytes := by rwa [State.beginStream_imageBytes.2]
  unfold doStream
  rw [if_neg (by simp [hstream, hstate, hown]), State.beginFetch_lengthCheck hword]

/-! ## The words of an image and its marker (R291, R298) -/

theorem exec_streamFetch (words : List W32) (ok sealOk : Bool) :
    exec (.streamFetch words ok sealOk) s = .next (doStreamFetch words ok sealOk s) := rfl

theorem exec_streamMarker : exec .streamMarker s = .next (doStreamMarker s) := rfl

/-- Words are fetched from host memory. -/
def CfgEngine.give (e : CfgEngine) (words : List W32) : CfgEngine :=
  { e with input := e.input ++ words, fetched := e.fetched + words.length }

/-- Words that come before the end of the image join the engine's input. -/
theorem doStreamFetch_gives {words : List W32} (hstream : s.streaming = true) (hclear : s.fabric.clearing = 0)
    (hsrc : s.fabric.engine.source ≠ 2) (hlen : s.fabric.engine.fetched + words.length < s.imageBytes / 4) :
    doStreamFetch words true true s = s.modEng (fun e => e.give words) := by
  have htake : words.take (s.imageBytes / 4 - s.fabric.engine.fetched) = words := List.take_of_length_le (by omega)
  have hmore : (s.modEng (fun e => e.give words)).hasMore := .inr hlen
  unfold doStreamFetch
  extract_lets e new
  have hnew : new = words := htake
  rw [if_neg (by simp [e, hstream, hclear, hsrc]), if_neg (by decide), if_neg (by decide), hnew]
  exact State.lengthCheck_of_hasMore hmore

/-- A marker within 64 words begins the records behind it (R291). -/
theorem doStreamMarker_finds {n : Nat} {rest : List W32} (hstream : s.streaming = true)
    (hhunt : s.fabric.engine.hunting = true) (hclear : s.fabric.clearing = 0)
    (hfind : findMarker s.fabric.engine.input s.fabric.engine.seen = (n, some rest)) (hn : n < 64) (hmore : s.hasMore) :
    doStreamMarker s = (s.modEng (fun e => { e with input := rest, hunting := false, seen := n })).modFab
      (fun x => { x with cpFault := if s.fabric.engine.source = 2 then false else x.cpFault }) := by
  unfold doStreamMarker
  extract_lets e
  rw [if_neg (by simp [e, hstream, hhunt, hclear])]
  simp only [e, hfind]
  rw [if_neg (by omega)]
  exact State.lengthCheck_of_hasMore (State.hasMore_of hmore rfl rfl (fun _ _ => rfl))

/-! ## The end of a stream (R291, R294) -/

theorem exec_endStream : exec .endStream s = .next (doEndStream s) := rfl

/-- END closes the stream, behind which only words of the port can stand. -/
theorem doEndStream_closes {h : W32} {rest : List W32} (hr : s.atRecord .endStream h rest) :
    doEndStream s = (s.taken .endStream h rest).closeStream := by
  refine (State.record_takes hr _).trans ?_
  by_cases hsrc : s.fabric.engine.source = 2
  · exact State.lengthCheck_of_hasMore (.inl hsrc)
  · exact State.lengthCheck_of_closed (State.closeStream_ends (s := s.taken .endStream h rest) (.inl hsrc)).1

/-! ## The frames have been cleared (R298 steps 4 and 5) -/

theorem exec_frameClearDone : exec .frameClearDone s = .next (doFrameClearDone s) := rfl

/-- The frames are cleared, and nothing waits for it. -/
def State.cleared (s : State) : State := s.clearFrames.modFab (fun x => { x with clearing := 0 })

theorem State.cleared_rd (g : Fld) (d : Nat) : s.cleared.rd g d = s.rd g d := rfl

/-- A failed load of the primary image falls back to the golden one. -/
theorem doFrameClearDone_fallsBack (hclear : s.fabric.clearing = 1) (hen : s.on R.CFG_CTRL.FALLBACK_EN 0 = true)
    (himage : s.rd R.CFG_STATUS.IMAGE 0 = 1) (hlen : 4 ≤ s.rd R.CFG_GOLDEN_LEN.BYTES 0) :
    doFrameClearDone s = ((s.cleared.wr R.CFG_STATUS.IMAGE 0 2).raise .cfg 0 2).beginFetch 0 := by
  have himage2 : ((s.cleared.wr R.CFG_STATUS.IMAGE 0 2).raise .cfg 0 2).rd R.CFG_STATUS.IMAGE 0 = 2 := by
    rw [State.raise_rd _ _ _ (by decide), State.rd_wr_self]
    rfl
  have hword : 4 ≤ (((s.cleared.wr R.CFG_STATUS.IMAGE 0 2).raise .cfg 0 2).beginStream 0).imageBytes := by
    rwa [State.beginStream_imageBytes.1, himage2, State.imageLen, if_pos rfl, State.raise_rd _ _ _ (by decide),
      State.rd_wr_apart (by decide), State.cleared_rd]
  unfold doFrameClearDone
  rw [hclear]
  refine (if_pos ?_).trans (State.beginFetch_lengthCheck hword)
  simp only [hen, himage, Bool.and_eq_true, bne_iff_ne]
  exact ⟨⟨trivial, rfl⟩, by omega⟩

/-- Without a fallback the load has failed. -/
theorem doFrameClearDone_fails (hclear : s.fabric.clearing = 1) (hen : s.on R.CFG_CTRL.FALLBACK_EN 0 = false) :
    doFrameClearDone s = (((s.cleared.closeStream).wr R.CFG_STATUS.STATE 0 4).raise .cfg 0 1).logEvent 0x0E 0 2 evFabric
      (s.rd R.CFG_STATUS.LOAD_ERR 0) 1 := by
  unfold doFrameClearDone
  rw [hclear]
  exact if_neg (by simp [hen])

/-- After CLEAR the fabric is unconfigured. -/
theorem doFrameClearDone_unconfigured (hclear : s.fabric.clearing = 2) :
    doFrameClearDone s = (s.cleared.wr R.CFG_STATUS.STATE 0 0).wr R.CFG_STATUS.IMAGE 0 0 := by
  unfold doFrameClearDone
  rw [hclear]
  rfl

/-- Settles O25: the commands begin the fetch that their registers describe, a fetch and a marker find an image that has more,
END closes the stream, and the cleared frames are followed by the golden image, the failure or the unconfigured fabric. -/
theorem streamsRun : Obligations.StreamsRun := by
  unfold Obligations.StreamsRun
  refine ⟨?commands, ?fetch, ?marker, ?ends, ?fallback, ?fails, ?cleared⟩
  case commands =>
    intro a s h hstream
    refine ⟨fun hlen => ⟨_, exec_load h, ?_⟩, fun hlen => ⟨_, exec_loadGolden h, ?_⟩,
      ⟨_, exec_clear h, doClear_effect hstream⟩, fun hstate hown hlen => ⟨_, exec_stream h, ?_⟩⟩
    · obtain ⟨hstate, himage, hbusy, hengine, hheld, hparked, hout⟩ :=
        State.beginLoad_effect (s := s) (image := 1) (by decide) hlen
      simp only [doLoad_loads hstream, State.respond_rd, State.respond_streaming, State.respond_fabric]
      exact ⟨hstate, himage, hbusy, hengine, hheld, hparked, State.respond_behind hout a⟩
    · obtain ⟨hstate, himage, hbusy, hengine, hheld, -, hout⟩ :=
        State.beginLoad_effect (s := s) (image := 2) (by decide) hlen
      simp only [doLoadGolden_loads hstream, State.respond_rd, State.respond_streaming, State.respond_fabric]
      exact ⟨hstate, himage, hbusy, hengine, hheld, State.respond_behind hout a⟩
    · rw [doStream_fetches hstream hstate hown hlen]
      exact ⟨State.beginFetch_streaming 1, rfl, rfl, rfl⟩
  case fetch =>
    intro words s hstream hclear hsrc hlen
    refine ⟨_, exec_streamFetch words true true, ?_⟩
    rw [doStreamFetch_gives hstream hclear hsrc hlen]
    exact ⟨rfl, rfl, rfl⟩
  case marker =>
    intro n rest s hstream hhunt hclear hfind hn hmore
    refine ⟨_, exec_streamMarker, ?_⟩
    rw [doStreamMarker_finds hstream hhunt hclear hfind hn hmore]
    exact ⟨rfl, rfl, rfl⟩
  case ends =>
    intro h rest s hr
    refine ⟨_, exec_endStream, ?_⟩
    rw [doEndStream_closes hr]
    exact ⟨rfl, State.closeStream_ends (s := s.taken .endStream h rest),
      State.closeStream_goesOn (s := s.taken .endStream h rest)⟩
  case fallback =>
    intro s hclear hen himage hlen
    refine ⟨_, exec_frameClearDone, ?_⟩
    rw [doFrameClearDone_fallsBack hclear hen himage hlen]
    refine ⟨State.raise_frames _ _ _, ?_, State.beginFetch_streaming 0, rfl, ?_, ?_⟩
    · rw [State.beginFetch_rd (by decide), State.raise_rd _ _ _ (by decide), State.rd_wr_self]
      rfl
    · rw [State.beginFetch_fabric, State.raise_fabric]
      rfl
    · rw [State.beginFetch_rd (by decide)]
      exact State.raise_self _ _ _
  case fails =>
    intro s hclear hen hsrc
    refine ⟨_, exec_frameClearDone, ?_⟩
    rw [doFrameClearDone_fails hclear hen]
    refine ⟨?_, ?_, ?_, ?_, ?_⟩
    · rw [State.logEvent_frames, State.raise_frames]
      rfl
    · rw [State.logEvent_rd_page (by decide), State.raise_rd _ _ _ (by decide), State.rd_wr_self]
      rfl
    · have hends : s.cleared.closeStream.streaming = false := (State.closeStream_ends (.inl hsrc)).1
      rwa [State.streaming, State.on, State.logEvent_rd_page (by decide), State.raise_rd _ _ _ (by decide),
        State.rd_wr_apart (by decide)]
    · rw [State.logEvent_fabric, State.raise_fabric]
      rfl
    · rw [State.logEvent_rd_page (by decide)]
      exact State.raise_self _ _ _
  case cleared =>
    intro s hclear
    refine ⟨_, exec_frameClearDone, ?_⟩
    rw [doFrameClearDone_unconfigured hclear]
    refine ⟨rfl, ?_, State.rd_wr_self _ _ _, rfl⟩
    rw [State.rd_wr_apart (by decide), State.rd_wr_self]
    rfl

end Sys2Proof.Machine

/-! What the records of a stream write (R281, R282, R284, R292, R293, R295): the statement. -/

namespace Sys2Proof.Machine
open Sys2Proof

variable {s : State} {k : RecordKind} {h v : W32} {rest : List W32}

/-! ## Records that write the fabric's own data (R293) -/

/-- A SET of a stream of the whole fabric is made. -/
theorem State.wholeOnly_acts (hreg : s.fabric.engine.region = 0) (hsrc : s.fabric.engine.source ≠ 2) (f : State → State) :
    s.wholeOnly f = f s := (if_neg (not_not_intro hreg)).trans (if_neg hsrc)

theorem State.taken_input (hk : payloadWords k = 1) : (s.taken k h (v :: rest)).fabric.engine.input = rest := by
  rw [State.taken]
  change (v :: rest).drop (payloadWords k) = rest
  rw [hk]
  rfl

/-- A SET record that its item's rule allows writes what the rule says of the fabric, and no register. -/
theorem State.record_sets (doSet : State → State) {act : Nat → State → State}
    (hset : doSet s = s.record k (fun _ v s => s.wholeOnly (act v))) {f : Fabric → Fabric}
    (hact : act v.toNat (s.taken k h (v :: rest)) = (s.taken k h (v :: rest)).modFab f)
    (hf : ∀ x, (f x).engine = x.engine) (hk : payloadWords k = 1) (hr : s.atRecord k h (v :: rest))
    (hreg : s.fabric.engine.region = 0) (hsrc : s.fabric.engine.source ≠ 2) :
    (doSet s).fabric = f (s.taken k h (v :: rest)).fabric ∧ (doSet s).fabric.engine.input = rest ∧ (doSet s).regs = s.regs := by
  have heng : ((s.taken k h (v :: rest)).modFab f).fabric.engine = (s.taken k h (v :: rest)).fabric.engine := hf _
  have hrec : doSet s = (s.taken k h (v :: rest)).modFab f := by
    refine hset.trans (State.record_ends hr ?_ (hr.hasMore_of ?_ ?_ rfl))
    · rw [hk]
      exact (State.wholeOnly_acts (s := s.taken k h (v :: rest)) hreg hsrc _).trans hact
    · rw [heng]
      rfl
    · rw [heng]
      rfl
  rw [hrec]
  exact ⟨rfl, (congrArg CfgEngine.input heng).trans (State.taken_input hk), rfl⟩

theorem ofNat_toNat_word (v : W32) : BitVec.ofNat 32 v.toNat = v := by
  rw [BitVec.ofNat_toNat, BitVec.setWidth_eq]

/-! ## NOP, REGION and FRAMES (R293, R295) -/

theorem doNopRecord_skips (hr : s.atRecord .nop h rest) : doNopRecord s = s.taken .nop h rest :=
  State.record_ends hr rfl (hr.hasMore_of rfl rfl rfl)

/-- A region that the stream may name becomes REGION. -/
theorem doSetRegion_names (hr : s.atRecord .region h (v :: rest)) (hv : v.toNat ≤ 16)
    (hok : s.fabric.engine.source = 2 → v ≠ 0 ∧ s.on (R.CFG_REGION.FABRIC_OK (v.toNat - 1)) 0 = true) :
    doSetRegion s = (s.taken .region h (v :: rest)).modEng (fun e => { e with region := v.toNat }) := by
  have hallowed : ¬(s.fabric.engine.source = 2 ∧ (v.toNat = 0 ∨ (!s.on (R.CFG_REGION.FABRIC_OK (v.toNat - 1)) 0) = true)) := by
    rintro ⟨hsrc, hbad⟩
    obtain ⟨hne, hon⟩ := hok hsrc
    rcases hbad with hzero | hoff
    · exact hne (BitVec.eq_of_toNat_eq hzero)
    · rw [hon] at hoff
      exact absurd hoff (by decide)
  exact State.record_ends hr ((if_neg (Nat.not_lt.mpr hv)).trans (if_neg hallowed)) (hr.hasMore_of rfl rfl rfl)

/-- The engine at the entries of a FRAMES record of n frames. -/
def CfgEngine.atEntries (e : CfgEngine) (n : Nat) : CfgEngine :=
  { e with framesLeft := n, nextFrame := 0, misordered := e.misordered || e.oneFrames, oneFrames := true }

/-- FRAMES of a full image begins its entries. -/
theorem doFrames_begins (hr : s.atRecord .frames h rest) (hsrc : s.fabric.engine.source = 0)
    (hreg : s.fabric.engine.region = 0) :
    doFrames s = (s.taken .frames h rest).modEng (fun e => e.atEntries (recLen h.toNat)) := by
  have hwhole : ¬((s.fabric.engine.source ≠ 0 ∨ s.fabric.engine.region ≠ 0) ∧
      (!s.fabric.engine.quiesced.contains s.fabric.engine.region) = true) := fun hbad => hbad.1.elim (· hsrc) (· hreg)
  have hhost : ¬(s.fabric.engine.source = 2 ∧ s.fabric.engine.region = 0) := by
    rw [hsrc]
    exact fun hbad => absurd hbad.1 (by decide)
  exact State.record_ends hr ((if_neg hhost).trans (if_neg hwhole)) (hr.hasMore_of rfl rfl rfl)

/-! ## Frame entries (R287, R295) -/

/-- The frame number of the entry at the front of the input. -/
def State.entryFrame (s : State) : Nat := (s.fabric.engine.input.getD 0 0).toNat

/-- The frame that the entry at the front of the input carries. -/
def State.entryBits (s : State) : BitVec 4096 := frameOf ((s.fabric.engine.input.take 130).drop 1)

/-- The entry at the front of the input is consumed; the first of a full image fixes where its entries are found (R297). -/
def State.entryTaken (s : State) : State :=
  (if s.fabric.engine.source = 0 ∧ s.fabric.engine.nextFrame = 0 then
    s.modFab (fun x => { x with firstEntry := s.fabric.engine.fetched - s.fabric.engine.input.length })
  else s).consume (s.fabric.engine.input.take 130)

theorem State.entryTaken_frame (hlen : 130 ≤ s.fabric.engine.input.length) : s.entryTaken.frames = s.frames ∧
    s.entryTaken.regs = s.regs ∧ s.entryTaken.fabric.bankv = s.fabric.bankv ∧
    ∃ c, s.entryTaken.fabric.engine = { s.fabric.engine with input := s.fabric.engine.input.drop 130, crc := c } := by
  unfold State.entryTaken State.consume
  rw [List.length_take_of_le hlen]
  split <;> exact ⟨rfl, rfl, rfl, _, rfl⟩

/-- The frame of an entry is committed, and the entry counts. -/
def State.committed (s : State) (f : Nat) (b : BitVec 4096) : State :=
  ((s.putFrame f b).unfetch f).modEng (fun e => { e with
    framesLeft := e.framesLeft - 1, misordered := e.misordered || f != e.nextFrame, nextFrame := e.nextFrame + 1 })

theorem State.committed_frame (f : Nat) (b : BitVec 4096) : (s.committed f b).frame f = b ∧
    ∀ g, g ≠ f → (s.committed f b).frame g = s.frame g :=
  ⟨SMap.get_set_self _ _ _ _, fun _ hg => SMap.get_set_other hg⟩

theorem State.committed_regs (f : Nat) (b : BitVec 4096) : (s.committed f b).regs = s.regs := rfl

theorem State.committed_engine (f : Nat) (b : BitVec 4096) : (s.committed f b).fabric.engine =
    { s.fabric.engine with
      framesLeft := s.fabric.engine.framesLeft - 1
      misordered := s.fabric.engine.misordered || f != s.fabric.engine.nextFrame
      nextFrame := s.fabric.engine.nextFrame + 1 } := rfl

/-- An entry of a stream of the whole fabric that passes its checks is committed. -/
theorem State.commitEntry_commits {l : List W32} (hcheck : entryCheck l = true) (hf : (l.getD 0 0).toNat < 4608)
    (hreg : s.fabric.engine.region = 0)
    (hio : frameRefused s.fabric.bankv.toNat (l.getD 0 0).toNat (frameOf (l.drop 1)) = false) :
    s.commitEntry l = s.committed (l.getD 0 0).toNat (frameOf (l.drop 1)) := by
  unfold State.commitEntry
  extract_lets e f b s1
  rw [if_neg (by rw [hcheck]; decide), if_neg (Nat.not_le.mpr hf), if_neg (fun hbad => hbad.1 hreg),
    if_neg (by rw [hio]; decide), if_pos hreg]
  rfl

theorem doFrameEntry_commits (hstream : s.streaming = true) (hclear : s.fabric.clearing = 0)
    (hleft : s.fabric.engine.framesLeft ≠ 0) (hlen : 130 ≤ s.fabric.engine.input.length) (hmore : s.hasMore)
    (hcheck : entryCheck (s.fabric.engine.input.take 130) = true) (hf : s.entryFrame < 4608)
    (hreg : s.fabric.engine.region = 0) (hio : frameRefused s.fabric.bankv.toNat s.entryFrame s.entryBits = false) :
    doFrameEntry s = s.entryTaken.committed s.entryFrame s.entryBits := by
  obtain ⟨-, hregs, hbank, c, heng⟩ := State.entryTaken_frame hlen
  have hnum : ((s.fabric.engine.input.take 130).getD 0 0).toNat = s.entryFrame := by
    rw [State.entryFrame, List.getD_eq_getElem?_getD, List.getElem?_take_of_lt (by decide), ← List.getD_eq_getElem?_getD]
  have hcommit : s.entryTaken.commitEntry (s.fabric.engine.input.take 130) = s.entryTaken.committed s.entryFrame s.entryBits := by
    rw [State.commitEntry_commits hcheck (by rwa [hnum]) (by rw [heng]; exact hreg) (by rw [hbank, hnum]; exact hio), hnum]
    rfl
  have hmore' : (s.entryTaken.committed s.entryFrame s.entryBits).hasMore := by
    refine State.hasMore_of hmore ?_ ?_ (fun g _ => State.rd_of_regs ((State.committed_regs _ _).trans hregs) g 0)
    · rw [State.committed_engine, heng]
    · rw [State.committed_engine, heng]
  unfold doFrameEntry
  extract_lets e l s1
  rw [if_neg (by simp [e, hstream, hclear, hleft, hlen])]
  exact (congrArg State.lengthCheck hcommit).trans (State.lengthCheck_of_hasMore hmore')

/-! ## READ (R292) -/

/-- READ of one correct frame returns it on the port. -/
theorem doReadRecord_returns (hr : s.atRecord .read h (v :: rest)) (hsrc : s.fabric.engine.source ≠ 0)
    (hreg : s.fabric.engine.source = 2 → s.fabric.engine.region ≠ 0) (hone : recLen h.toNat = 1) (hv : v.toNat < 4608)
    (hecc : s.ecc clsFrame v.toNat < 2) :
    doReadRecord s = (s.taken .read h (v :: rest)).returnFrame (s.frame v.toNat) := by
  refine State.record_ends hr ?_ (hr.hasMore_of rfl rfl rfl)
  rw [hone]
  refine (if_neg hsrc).trans ((if_neg fun hbad => hreg hbad.1 hbad.2).trans ((if_neg (Nat.not_lt.mpr hv)).trans ?_))
  exact if_pos hecc

/-- Settles O26: each record is taken whole and acts as the lemma of its kind says. -/
theorem recordsConfigure : Obligations.RecordsConfigure := by
  unfold Obligations.RecordsConfigure
  refine ⟨?nop, ?sets, ?region, ?frames, ?entry, ?read⟩
  case nop =>
    intro h rest s hr
    refine ⟨_, rfl, ?_⟩
    rw [doNopRecord_skips hr]
    exact ⟨rfl, rfl, rfl⟩
  case sets =>
    intro h v rest s hreg hsrc
    refine ⟨fun hr hv => ?_, fun hr hok => ?_, fun hr hok => ?_, fun hr => ?_, fun hr hok => ?_, fun hr hok => ?_⟩
    · obtain ⟨-, hin, hregs⟩ := State.record_sets (f := id) doSetDevice rfl (if_pos (congrArg BitVec.toNat hv))
        (fun _ => rfl) rfl hr hreg hsrc
      exact ⟨_, rfl, hin, hregs⟩
    · obtain ⟨hfab, hin, hregs⟩ := State.record_sets (f := fun x => { x with gclkA := v }) doSetGclkA rfl
        (by rw [if_pos hok, ofNat_toNat_word]) (fun _ => rfl) rfl hr hreg hsrc
      exact ⟨_, rfl, congrArg Fabric.gclkA hfab, hin, hregs⟩
    · obtain ⟨hfab, hin, hregs⟩ := State.record_sets (f := fun x => { x with gclkB := v }) doSetGclkB rfl
        (by rw [if_pos hok, ofNat_toNat_word]) (fun _ => rfl) rfl hr hreg hsrc
      exact ⟨_, rfl, congrArg Fabric.gclkB hfab, hin, hregs⟩
    · obtain ⟨hfab, hin, hregs⟩ := State.record_sets (f := fun x => { x with bankv := v }) doSetBankv rfl
        (by rw [ofNat_toNat_word]) (fun _ => rfl) rfl hr hreg hsrc
      exact ⟨_, rfl, congrArg Fabric.bankv hfab, hin, hregs⟩
    · obtain ⟨hfab, hin, hregs⟩ := State.record_sets (f := fun x => { x with fpll0 := v }) doSetFpll0 rfl
        (by rw [if_pos hok, ofNat_toNat_word]) (fun _ => rfl) rfl hr hreg hsrc
      exact ⟨_, rfl, congrArg Fabric.fpll0 hfab, hin, hregs⟩
    · obtain ⟨hfab, hin, hregs⟩ := State.record_sets (f := fun x => { x with fpll1 := v }) doSetFpll1 rfl
        (by rw [if_pos hok, ofNat_toNat_word]) (fun _ => rfl) rfl hr hreg hsrc
      exact ⟨_, rfl, congrArg Fabric.fpll1 hfab, hin, hregs⟩
  case region =>
    intro h v rest s hr hv hok
    refine ⟨_, rfl, ?_⟩
    rw [doSetRegion_names hr hv hok]
    exact ⟨rfl, rfl, rfl, rfl⟩
  case frames =>
    intro h rest s hr hsrc hreg
    refine ⟨_, rfl, ?_⟩
    rw [doFrames_begins hr hsrc hreg]
    exact ⟨rfl, rfl, rfl, rfl⟩
  case entry =>
    intro s hstream hclear hleft hlen hmore hcheck hf hreg hio
    refine ⟨_, rfl, ?_⟩
    obtain ⟨hframes, -, -, c, heng⟩ := State.entryTaken_frame hlen
    obtain ⟨hself, hother⟩ := State.committed_frame (s := s.entryTaken) s.entryFrame s.entryBits
    rw [doFrameEntry_commits hstream hclear hleft hlen hmore hcheck hf hreg hio, State.committed_engine, heng]
    refine ⟨hself, fun g hg => ?_, rfl, rfl, rfl⟩
    rw [hother g hg, State.frame, hframes]
    rfl
  case read =>
    intro h v rest s hr hsrc hreg hone hv hecc
    refine ⟨_, rfl, ?_⟩
    rw [doReadRecord_returns hr hsrc hreg hone hv hecc]
    exact ⟨rfl, rfl, rfl⟩

end Sys2Proof.Machine

/-! The CHECK and the actions of a stream (R294, R296, R297, R308): the statement. -/

namespace Sys2Proof.Machine
open Sys2Proof

variable {s t : State} {k : Nat} {h v : W32} {rest : List W32}

/-! ## The state of a region (R314) -/

/-- A field of a number reads what was put there, in a register wide enough to hold it. -/
theorem bitsOf_setBits {x lo w n v : Nat} (hv : v < 2 ^ w) (hn : lo + w ≤ n) : bitsOf (setBits x lo w v % 2 ^ n) lo w = v := by
  obtain ⟨m, rfl⟩ := Nat.exists_eq_add_of_le hn
  have hlo : 0 < 2 ^ lo := Nat.two_pow_pos lo
  have hx : x = (x / 2 ^ lo / 2 ^ w * 2 ^ w + x / 2 ^ lo % 2 ^ w) * 2 ^ lo + x % 2 ^ lo := by
    rw [Nat.div_add_mod' (x / 2 ^ lo), Nat.div_add_mod']
  have hset : setBits x lo w v = x % 2 ^ lo + (x / 2 ^ lo / 2 ^ w * 2 ^ w + v) * 2 ^ lo := by
    rw [setBits, bitsOf, Nat.mod_eq_of_lt hv]
    rw [Nat.add_mul] at hx ⊢
    omega
  rw [bitsOf, hset, Nat.add_assoc, Nat.pow_add, Nat.mod_mul_right_div_self, Nat.add_mul_div_right _ _ hlo,
    Nat.div_eq_of_lt (Nat.mod_lt _ hlo), Nat.zero_add, Nat.pow_add, Nat.mod_mul_right_mod, Nat.mul_add_mod_self_right,
    Nat.mod_eq_of_lt hv]

theorem State.regionState_setRegionState (h1 : 1 ≤ k) (h16 : k ≤ 16) {x : Nat} (hx : x < 4) :
    (s.setRegionState k x).regionState k = x := by
  rw [State.regionState, State.setRegionState, State.rd_wr_self]
  exact bitsOf_setBits hx (by change 2 * (k - 1) + 2 ≤ 32; omega)

/-- Whether a region runs stands in CFG_REGION_STATUS alone. -/
theorem State.regionState_of (hrd : t.rd R.CFG_REGION_STATUS.STATE 0 = s.rd R.CFG_REGION_STATUS.STATE 0) (k : Nat) :
    t.regionState k = s.regionState k := by
  rw [State.regionState, hrd, State.regionState]

theorem State.setRegionState_rd {g : Fld} (hg : R.CFG_REGION_STATUS.STATE.apart g = true) (x d : Nat) :
    (s.setRegionState k x).rd g d = s.rd g d := State.rd_wr_apart hg 0 d _

theorem imageFields_apart_regionStatus : ∀ g ∈ imageFields, R.CFG_REGION_STATUS.STATE.apart g = true := by decide +kernel

/-! ## CHECK, NONE and CHECK_RESET (R294, R296) -/

/-- A CHECK that matches the words up to its header ends the stream check. -/
theorem doCheckRecord_matches (hr : s.atRecord .check h (v :: rest)) (hon : s.fabric.engine.crcOn = true)
    (hcrc : crcFinal (crcWords s.fabric.engine.crc [h]) = v.toNat) :
    doCheckRecord s = (s.taken .check h (v :: rest)).modEng (fun e => { e with crcOn := false, checkOk := true }) := by
  have htaken : (s.taken .check h (v :: rest)).fabric.engine.crc = crcWords s.fabric.engine.crc [h] := if_pos hon
  have hmatch : (s.taken .check h (v :: rest)).fabric.engine.crcOn = true ∧
      (crcFinal (s.taken .check h (v :: rest)).fabric.engine.crc == v.toNat) = true :=
    ⟨hon, by rw [htaken, hcrc]; exact beq_self_eq_true _⟩
  exact State.record_ends hr (if_pos (Bool.and_eq_true_iff.mpr hmatch)) (hr.hasMore_of rfl rfl rfl)

theorem doActionNone_skips (hr : s.atRecord .none h rest) : doActionNone s = s.taken .none h rest :=
  State.record_ends hr rfl (hr.hasMore_of rfl rfl rfl)

theorem doCheckReset_resets (hr : s.atRecord .checkReset h rest) :
    doCheckReset s = (s.taken .checkReset h rest).modEng (fun e => { e with crcOn := true, crc := crcInit }) :=
  State.record_ends hr rfl (hr.hasMore_of rfl rfl rfl)

/-! ## LAUNCH (R294, R297, R301, R308) -/

/-- A LAUNCH takes the match of the CHECK before it. -/
def State.launching (s : State) (h : W32) (rest : List W32) : State :=
  (s.taken .launch h rest).modEng (fun e => { e with checkOk := false })

/-- The registers that the start-up of the whole fabric writes. -/
def startupFields : List Fld :=
  [R.CFG_STATUS.STATE, R.CFG_STATUS.SU_PHASE, R.FAB_BANK_DECL.LEVEL, R.FAB_GCLK_SRC_A.SRC, R.FAB_GCLK_SRC_B.SRC]

theorem State.beginStartup_rd {g : Fld} (hg : ∀ f ∈ startupFields, f.apart g = true) (d : Nat) :
    s.beginStartup.rd g d = s.rd g d := by
  simp only [startupFields, List.forall_mem_cons] at hg
  obtain ⟨hstate, hphase, hdecl, ha, hb, -⟩ := hg
  rw [State.beginStartup, State.rd_wr_apart hb, State.rd_wr_apart ha, State.rd_wr_apart hdecl, State.rd_wr_apart hphase,
    State.rd_wr_apart hstate]

/-- Start-up of the whole fabric begins at phase 1 with the clocks of the image. -/
theorem State.beginStartup_effect : s.beginStartup.rd R.CFG_STATUS.STATE 0 = 2 ∧ s.beginStartup.rd R.CFG_STATUS.SU_PHASE 0 = 1 ∧
    s.beginStartup.rd R.FAB_GCLK_SRC_A.SRC 0 = s.fabric.gclkA.toNat ∧
    s.beginStartup.rd R.FAB_GCLK_SRC_B.SRC 0 = s.fabric.gclkB.toNat := by
  unfold State.beginStartup
  refine ⟨?_, ?_, ?_, ?_⟩
  · rw [State.rd_wr_apart (by decide), State.rd_wr_apart (by decide), State.rd_wr_apart (by decide),
      State.rd_wr_apart (by decide), State.rd_wr_self]
    rfl
  · rw [State.rd_wr_apart (by decide), State.rd_wr_apart (by decide), State.rd_wr_apart (by decide), State.rd_wr_self]
    rfl
  · rw [State.rd_wr_apart (by decide), State.rd_wr_self]
    exact Nat.mod_eq_of_lt s.fabric.gclkA.isLt
  · rw [State.rd_wr_self]
    exact Nat.mod_eq_of_lt s.fabric.gclkB.isLt

/-- A full image whose frames came in order and whose banks have their voltages starts the whole fabric. -/
theorem doLaunch_starts (hr : s.atRecord .launch h rest) (hok : s.fabric.engine.checkOk = true)
    (hreg : s.fabric.engine.region = 0) (hsrc : s.fabric.engine.source = 0) (hnext : s.fabric.engine.nextFrame = 4608)
    (horder : s.fabric.engine.misordered = false) (hone : s.fabric.engine.oneFrames = true)
    (hvolt : s.wrongVoltage = false) : doLaunch s = (s.launching h rest).beginStartup := by
  have hmore : (s.launching h rest).beginStartup.hasMore := State.hasMore_of hr.hasMore rfl rfl fun g hg =>
    State.beginStartup_rd ((by decide +kernel : ∀ g ∈ imageFields, ∀ f ∈ startupFields, f.apart g = true) g hg) 0
  refine State.record_ends hr ?_ hmore
  have hframes : (s.fabric.engine.nextFrame != 4608 || s.fabric.engine.misordered || !s.fabric.engine.oneFrames) = false := by
    rw [hnext, horder, hone]
    rfl
  extract_lets e s1
  have hwhole : e.source ≠ 2 ∧ e.source ≠ 1 := by
    rw [show e.source = 0 from hsrc]
    decide
  have hvolt1 : s1.wrongVoltage = false := hvolt
  rw [if_neg (by rw [show e.checkOk = true from hok]; decide), if_pos (show e.region = 0 from hreg), if_neg hwhole.1,
    if_neg hwhole.2, if_neg (by rw [show (e.nextFrame != 4608 || e.misordered || !e.oneFrames) = false from hframes]; decide),
    if_neg (by rw [hvolt1]; decide)]
  rfl

/-- The flip-flops of a region hold INIT, and edges of its release lines are ignored for a while (R303, R308). -/
def State.regionReleased (s : State) (k : Nat) : State :=
  let s1 := s.loadInit (fun f => s.regionHolds k (colOf f) (rowOf f))
  { s1 with relBlank := s1.relBlank ||| BitVec.ofNat 32 (s1.linesOf k) }

theorem State.startRegion_eq (k : Nat) : s.startRegion k =
    (((s.regionReleased k).setRegionState k 0).raise .cfg 0 6).modEng
      (fun e => { e with quiesced := e.quiesced.filter (fun i => i != k) }) := rfl

/-- A region starts up: it runs, and the stream has it no longer quiesced. -/
theorem State.startRegion_effect (h1 : 1 ≤ k) (h16 : k ≤ 16) : (s.startRegion k).regionState k = 0 ∧
    (s.startRegion k).rd (intBit .cfg 6) 0 = 1 := by
  rw [State.startRegion_eq]
  refine ⟨(State.regionState_of ?_ k).trans (State.regionState_setRegionState (s := s.regionReleased k) h1 h16 (by decide)), ?_⟩
  · rw [State.modEng_rd, State.raise_rd _ _ _ (by decide)]
  · rw [State.modEng_rd]
    exact State.raise_self _ _ _

theorem State.startRegion_engine (k : Nat) : (s.startRegion k).fabric.engine =
    { s.fabric.engine with quiesced := s.fabric.engine.quiesced.filter (fun i => i != k) } := by
  rw [State.startRegion_eq, State.modEng_engine, State.raise_fabric]
  rfl

theorem State.startRegion_rd {g : Fld} (hg : R.CFG_REGION_STATUS.STATE.apart g = true) (he : errorReg (g.off % 4096) = false)
    (d : Nat) : (s.startRegion k).rd g d = s.rd g d := by
  rw [State.startRegion_eq, State.modEng_rd, State.raise_rd _ _ _ he, State.setRegionState_rd hg]
  rfl

/-- A region that the stream has quiesced starts up. -/
theorem doLaunch_startsRegion (hr : s.atRecord .launch h rest) (hok : s.fabric.engine.checkOk = true)
    (h1 : 1 ≤ s.fabric.engine.region)
    (hquiet : s.fabric.engine.quiesced.contains s.fabric.engine.region = true) :
    doLaunch s = (s.launching h rest).startRegion s.fabric.engine.region := by
  have hmore : ((s.launching h rest).startRegion s.fabric.engine.region).hasMore := by
    refine State.hasMore_of hr.hasMore ?_ ?_ fun g hg => State.startRegion_rd
      (imageFields_apart_regionStatus g hg)
      ((by decide +kernel : ∀ g ∈ imageFields, errorReg (g.off % 4096) = false) g hg) 0
    · rw [State.startRegion_engine]
      rfl
    · rw [State.startRegion_engine]
      rfl
  refine State.record_ends hr ?_ hmore
  extract_lets e s1
  rw [if_neg (by rw [show e.checkOk = true from hok]; decide), if_neg (show ¬e.region = 0 from Nat.ne_of_gt h1),
    if_neg (by rw [show e.quiesced.contains e.region = true from hquiet]; decide)]
  rfl

/-- Without a CHECK that matched, a full load fails. -/
theorem doLaunch_fails (hr : s.atRecord .launch h rest) (hok : s.fabric.engine.checkOk = false)
    (hsrc : s.fabric.engine.source = 0) : doLaunch s = (s.launching h rest).loadFailed 4 := by
  have hfail : (s.launching h rest).failStream 4 = (s.launching h rest).loadFailed 4 := if_pos hsrc
  have hclear : ((s.launching h rest).loadFailed 4).fabric.clearing ≠ 0 := by
    rw [(State.loadFailed_effect 4).2.1]
    decide
  refine (State.record_takes hr _).trans ?_
  extract_lets e s1
  rw [if_pos (by rw [show e.checkOk = false from hok]; rfl)]
  exact (congrArg State.lengthCheck hfail).trans (State.lengthCheck_of_clearing hclear)

/-! ## QUIESCE (R308) -/

/-- The stream's region is held as it is, is Quiesced, and is one of those that the stream has quiesced. -/
def State.quieted (s : State) : State :=
  let k := s.fabric.engine.region
  ((if s.regionState k = 0 then s.holdRegion k else s).setRegionState k 1).modEng
    (fun e => { e with quiesced := e.quiesced.filter (fun i => i != e.region) ++ [e.region] })

theorem State.quieted_engine : s.quieted.fabric.engine =
    { s.fabric.engine with
      quiesced := s.fabric.engine.quiesced.filter (fun i => i != s.fabric.engine.region) ++ [s.fabric.engine.region] } := by
  unfold State.quieted
  extract_lets k
  split <;> rfl

theorem State.quieted_rd {g : Fld} (hg : R.CFG_REGION_STATUS.STATE.apart g = true) (d : Nat) :
    s.quieted.rd g d = s.rd g d := by
  refine (State.setRegionState_rd hg 1 d).trans ?_
  split <;> rfl

theorem doQuiesce_quiets (hr : s.atRecord .quiesce h rest) (h1 : 1 ≤ s.fabric.engine.region)
    (hsrc : s.fabric.engine.source ≠ 0) : doQuiesce s = (s.taken .quiesce h rest).quieted := by
  have hreg : s.fabric.engine.region ≠ 0 := Nat.ne_of_gt h1
  have hmore : (s.taken .quiesce h rest).quieted.hasMore := by
    refine State.hasMore_of hr.hasMore ?_ ?_ fun g hg => State.quieted_rd
      (imageFields_apart_regionStatus g hg) 0
    · rw [State.quieted_engine]
      rfl
    · rw [State.quieted_engine]
      rfl
  exact State.record_ends hr ((if_neg fun hbad => hreg hbad.2).trans
    (if_neg (not_or_intro (a := (s.taken .quiesce h rest).fabric.engine.region = 0) hreg hsrc))) hmore

/-- Settles O27: each record is taken whole and acts as the lemma of its kind says, LAUNCH by what stands before it. -/
theorem actionsTakeEffect : Obligations.ActionsTakeEffect := by
  unfold Obligations.ActionsTakeEffect
  refine ⟨?check, fun h rest s => ⟨?none, ?reset, ?starts, ?region, ?fails, ?quiesce⟩⟩
  case check =>
    intro h v rest s hr hon hcrc
    refine ⟨_, rfl, ?_⟩
    rw [doCheckRecord_matches hr hon hcrc]
    exact ⟨rfl, rfl, rfl, rfl⟩
  case none =>
    intro hr
    refine ⟨_, rfl, ?_⟩
    rw [doActionNone_skips hr]
    exact ⟨rfl, rfl, rfl⟩
  case reset =>
    intro hr
    refine ⟨_, rfl, ?_⟩
    rw [doCheckReset_resets hr]
    exact ⟨rfl, rfl, rfl, rfl, rfl⟩
  case starts =>
    intro hr hok hreg hsrc hnext horder hone hvolt
    refine ⟨_, rfl, ?_⟩
    obtain ⟨hstate, hphase, ha, hb⟩ := State.beginStartup_effect (s := s.launching h rest)
    rw [doLaunch_starts hr hok hreg hsrc hnext horder hone hvolt]
    exact ⟨hstate, hphase, ha, hb, rfl⟩
  case region =>
    intro hr hok h1 h16 hquiet
    refine ⟨_, rfl, ?_⟩
    obtain ⟨hruns, hdone⟩ := State.startRegion_effect (s := s.launching h rest) h1 h16
    rw [doLaunch_startsRegion hr hok h1 hquiet, State.startRegion_engine]
    exact ⟨hruns, rfl, hdone, rfl⟩
  case fails =>
    intro hr hok hsrc
    refine ⟨_, rfl, ?_⟩
    rw [doLaunch_fails hr hok hsrc]
    exact State.loadFailed_effect 4
  case quiesce =>
    intro hr h1 h16 hsrc
    refine ⟨_, rfl, ?_⟩
    rw [doQuiesce_quiets hr h1 hsrc, State.quieted_engine]
    refine ⟨State.regionState_setRegionState h1 h16 (by decide : 1 < 4), ?_, rfl⟩
    exact List.contains_iff_mem.mpr (List.mem_append_right _ (List.mem_singleton.mpr rfl))

end Sys2Proof.Machine

/-! A refused definition of a region (R305, R512): the statement on start-up, the port, the regions, the clocks and the banks. -/

namespace Sys2Proof.Machine
open Sys2Proof

variable {s : State}

theorem exec_regionWrite {a : Accessor} {k : Fin 16} (h : s.accessCode a .cfg 0 (0x100 + 8 * k.val) true = 0) (v : W32) :
    exec (.regionWrite a k v) s = .next (doRegionWrite a k.val v s) :=
  congrArg Host.Outcome.next (State.access_ok h _)

/-- A device after reset whose CFG_ page the host reaches. -/
def hostAtCfg : State :=
  (({ State.reset with awake := [blockKey .cfg 0] } : State).wr (R.NOC_ROUTE.ROUTE (nodeOfPage .cfg 0)) 34 7).wr
    (R.NOC_ROUTE.VALID (nodeOfPage .cfg 0)) 34 1

/-- The register that would define region 484 stands at offset 0x100 + 8 × 483 = 0x1018, whose place on the page is that of
ERR_CAPTURE at 0x18: the CODE recorded for a refused definition is the first column that region 484 reads. -/
theorem refused_region_changes_rect_484 :
    (hostAtCfg.regionRect 484).1 = 0 ∧ ((doRegionWrite .host 0 1 hostAtCfg).regionRect 484).1 = 4 := by decide +kernel

/-- Refutes O28: its clause on a refused REGION_WRITE says for every number i that the rectangle of region i stays, but only 1 to
16 are regions (R305), and the rectangle of number 484 is read at the place of ERR_CAPTURE, where the refusal records CODE 4. -/
theorem not_fabricStartsAndIsWatched : ¬ Obligations.FabricStartsAndIsWatched := by
  intro h
  unfold Obligations.FabricStartsAndIsWatched at h
  obtain ⟨-, -, -, -, -, -, hrefused, -⟩ := h
  have hreached : hostAtCfg.accessCode .host .cfg 0 (0x100 + 8 * (0 : Fin 16).val) true = 0 := by decide +kernel
  have hcolumns : hostAtCfg.regionRefused ((0 : Fin 16).val + 1) (1 : W32).toNat = true := by decide +kernel
  obtain ⟨t, ht, -, hrect⟩ := hrefused .host 0 1 hostAtCfg hreached hcolumns (by decide +kernel)
  rw [exec_regionWrite hreached] at ht
  obtain ⟨hbefore, hafter⟩ := refused_region_changes_rect_484
  have hkept := congrArg Prod.fst (hrect 484)
  rw [← Host.Outcome.next.inj ht, hbefore] at hkept
  exact absurd (hafter.symm.trans hkept) (by decide)

end Sys2Proof.Machine

/-! The configuration scrubber, its refetch, its supervisor, and the frame window (R290, R310 to R313): the statement. -/

namespace Sys2Proof.Machine
open Sys2Proof

variable {s t : State} {f : Nat}

/-! ## The frame to scrub (R310) -/

theorem State.upset_frames (u : List Upset) : (s.upset u).frames = s.frames ∧ (s.upset u).fabric = s.fabric := by
  obtain ⟨h, c, hu⟩ := State.upset_eq (s := s) u
  rw [hu]
  exact ⟨rfl, rfl⟩

theorem State.scrubbing_of (hrd : ∀ (g : Fld) (d : Nat), t.rd g d = s.rd g d) : t.scrubbing = s.scrubbing := by
  simp only [State.scrubbing, State.on, hrd]

theorem State.stoppedRegion_of (hrd : ∀ (g : Fld) (d : Nat), t.rd g d = s.rd g d) (x y : Nat) :
    t.stoppedRegion x y = s.stoppedRegion x y := by
  simp only [State.stoppedRegion, State.regionState, State.regionHolds, State.regionRect, State.on, hrd]

theorem State.noCopy_of (hfab : t.fabric = s.fabric) (f : Nat) : t.noCopy f = s.noCopy f := by
  rw [State.noCopy, State.noCopy, hfab]

/-- A position within the range whose frame is in no stopped region is the next frame. -/
theorem State.nextScrub_here {pos : Nat} (hlast : pos ≤ s.rd R.CFG_SCRUB_LAST.FRAME 0)
    (hruns : s.stoppedRegion (pos / 48) (pos % 48) = none) : s.nextScrub pos = some pos := by
  obtain ⟨n, hn⟩ : ∃ n, s.rd R.CFG_SCRUB_LAST.FRAME 0 + 1 - pos = n + 1 := ⟨s.rd R.CFG_SCRUB_LAST.FRAME 0 - pos, by omega⟩
  rw [State.nextScrub, hn, List.range_succ_eq_map, List.map_cons, List.find?_cons_of_pos (by rw [Nat.add_zero, hruns]; rfl),
    Nat.add_zero]

/-- A frame inside the range is checked, and the position goes on. -/
theorem doScrubFrameRead_checks (u : List Upset) (hon : s.scrubbing = true) (hidle : s.fabric.refetch = none)
    (hfirst : s.rd R.CFG_SCRUB_FIRST.FRAME 0 ≤ s.rd R.CFG_SCRUB_POS.FRAME 0)
    (hlast : s.rd R.CFG_SCRUB_POS.FRAME 0 < s.rd R.CFG_SCRUB_LAST.FRAME 0)
    (hruns : s.stoppedRegion (s.rd R.CFG_SCRUB_POS.FRAME 0 / 48) (s.rd R.CFG_SCRUB_POS.FRAME 0 % 48) = none) :
    doScrubFrameRead u s = ((s.upset u).scrubFrame (s.rd R.CFG_SCRUB_POS.FRAME 0)).wr R.CFG_SCRUB_POS.FRAME 0
      (s.rd R.CFG_SCRUB_POS.FRAME 0 + 1) := by
  have hrd : ∀ (g : Fld) (d : Nat), (s.upset u).rd g d = s.rd g d := State.upset_rd u
  have hscrub : (s.upset u).scrubbing = true := (State.scrubbing_of hrd).trans hon
  have hnext : (s.upset u).nextScrub (s.rd R.CFG_SCRUB_POS.FRAME 0) = some (s.rd R.CFG_SCRUB_POS.FRAME 0) :=
    State.nextScrub_here (by rw [hrd]; omega) ((State.stoppedRegion_of hrd _ _).trans hruns)
  unfold doScrubFrameRead
  extract_lets s0 first last pos from0
  have hguard : (!s0.scrubbing || s0.fabric.refetch.isSome) = false := by
    simp only [s0, hscrub, State.upset_frames u, hidle]
    rfl
  have hfrom : from0 = s.rd R.CFG_SCRUB_POS.FRAME 0 := by
    simp only [from0, pos, first, last, s0, hrd]
    exact if_neg (by omega)
  have hne : ¬(s.rd R.CFG_SCRUB_POS.FRAME 0 = last) := by
    simp only [last, s0, hrd]
    omega
  rw [if_neg (by rw [hguard]; decide), hfrom, hnext]
  exact if_neg hne

/-! ## The check of a frame (R311) -/

theorem State.scrubFrame_frames : (s.scrubFrame f).frames = s.frames := by
  unfold State.scrubFrame
  split
  · rfl
  · rw [State.logEvent_frames, State.raise_frames]
    rfl
  · extract_lets s1
    have h1 : s1.frames = s.frames := by
      rw [State.logEvent_frames, State.wr_frames, State.raise_frames]
      rfl
    split
    · rw [State.logEvent_frames, h1]
    · exact h1

theorem State.scrubFrame_correctable (he : s.ecc clsFrame f = 1) : s.scrubFrame f =
    (((s.setEcc clsFrame f 0).count R.CFG_FRAME_CE_COUNT.COUNT 0 1).raise .cfg 0 3).logEvent 0x0E 0 0 evFabric f 2 := by
  rw [State.scrubFrame, he]
  rfl

/-- A frame with an uncorrectable error is counted and reported. -/
def State.frameSpoilt (s : State) (f : Nat) : State :=
  (((s.count R.CFG_FRAME_UE_COUNT.COUNT 0 1).raise .cfg 0 4).wr R.CFG_ERR_FRAME.FRAME 0 f).logEvent 0x0E 0 1 evFabric f 3

theorem State.scrubFrame_uncorrectable (he : 2 ≤ s.ecc clsFrame f) (hcopy : s.noCopy f = false) : s.scrubFrame f =
    ((s.frameSpoilt f).modFab (fun x => { x with refetch := some f })).emit (.busRead ((s.frameSpoilt f).entryAddr f) 520) := by
  obtain ⟨n, hn⟩ : ∃ n, s.ecc clsFrame f = n + 2 := ⟨s.ecc clsFrame f - 2, by omega⟩
  rw [State.scrubFrame, hn]
  exact if_neg (ne_true_of_eq_false hcopy)

/-- A correctable error is corrected, counted and reported. -/
theorem State.scrubFrame_corrects (he : s.ecc clsFrame f = 1) : (s.scrubFrame f).ecc clsFrame f = 0 ∧
    (s.scrubFrame f).rd (intBit .cfg 3) 0 = 1 ∧
    (s.scrubFrame f).rd R.CFG_FRAME_CE_COUNT.COUNT 0 = satAdd 32 (s.rd R.CFG_FRAME_CE_COUNT.COUNT 0) 1 := by
  rw [State.scrubFrame_correctable he]
  refine ⟨?_, ?_, ?_⟩
  · rw [State.ecc, State.logEvent_health, State.raise_health]
    exact State.ecc_setEcc clsFrame f 0
  · rw [State.logEvent_rd_page (by decide)]
    exact State.raise_self _ _ _
  · rw [State.logEvent_rd_page (by decide), State.raise_rd _ _ _ (by decide)]
    exact State.rd_count_self _ _ _

/-- An uncorrectable frame that the image in force holds is reported and fetched again. -/
theorem State.scrubFrame_refetches (he : 2 ≤ s.ecc clsFrame f) (hcopy : s.noCopy f = false) :
    (s.scrubFrame f).fabric.refetch = some f ∧ (s.scrubFrame f).rd (intBit .cfg 4) 0 = 1 := by
  rw [State.scrubFrame_uncorrectable he hcopy]
  refine ⟨rfl, ?_⟩
  rw [State.emit_rd, State.modFab_rd, State.frameSpoilt, State.logEvent_rd_page (by decide), State.rd_wr_apart (by decide)]
  exact State.raise_self _ _ _

/-! ## The refetch (R311) -/

/-- An entry that is the frame's own and passes its check rewrites the frame. -/
theorem doFrameRefetch_rewrites {words : List W32} (hf : s.fabric.refetch = some f) (hlen : words.length = 130)
    (hfw : s.rd R.HST_MBX_STATUS.FW_STATE 0 ≠ 3) (hnum : (words.getD 0 0).toNat = f) (hcheck : entryCheck words = true) :
    doFrameRefetch words true s = (s.modFab (fun x => { x with refetch := none })).putFrame f (frameOf (words.drop 1)) := by
  unfold doFrameRefetch
  rw [hf]
  split
  · next hnone => exact absurd hnone (Option.some_ne_none f)
  · next h3 => exact absurd h3 hfw
  · next g hsome _ =>
    obtain rfl := Option.some.inj hsome
    exact if_pos (by rw [hlen, hnum, hcheck, beq_self_eq_true, beq_self_eq_true]; rfl)

theorem State.putFrame_effect (b : BitVec 4096) : (s.putFrame f b).frame f = b ∧ (s.putFrame f b).ecc clsFrame f = 0 ∧
    ∀ g, g ≠ f → (s.putFrame f b).frame g = s.frame g :=
  ⟨SMap.get_set_self _ _ _ _, State.ecc_setEcc clsFrame f 0, fun _ hg => SMap.get_set_other hg⟩

/-! ## The supervisor and the window (R290, R313) -/

/-- A restart sends the scrubber to the first frame and is reported. -/
theorem State.scrubRestart_effect :
    s.scrubRestart.rd R.CFG_SCRUB_POS.FRAME 0 = s.rd R.CFG_SCRUB_FIRST.FRAME 0 % 2 ^ 13 ∧
    s.scrubRestart.rd (intBit .cfg 5) 0 = 1 := by
  constructor
  · rw [State.scrubRestart, State.logEvent_rd_page (by decide), State.raise_rd _ _ _ (by decide), State.count,
      State.rd_wr_apart (by decide), State.rd_wr_self]
    rfl
  · rw [State.scrubRestart, State.logEvent_rd_page (by decide)]
    exact State.raise_self _ _ _

theorem doScrubHeartbeatTimeout_restarts (h : s.scrubbing = true) : doScrubHeartbeatTimeout s = s.scrubRestart := if_pos h

/-- Where the shadow is bad too, the settings are those of reset. -/
theorem doScrubSettingsFault_resets : (doScrubSettingsFault true s).rd R.CFG_SCRUB_FIRST.FRAME 0 = 0 ∧
    (doScrubSettingsFault true s).rd R.CFG_SCRUB_LAST.FRAME 0 = 0x11FF ∧
    (doScrubSettingsFault true s).rd R.CFG_SCRUB_INTERVAL.CLOCKS 0 = 0x200 := by
  rw [doScrubSettingsFault, if_pos rfl]
  refine ⟨?_, ?_, ?_⟩
  · rw [State.logEvent_rd_page (by decide), State.rd_wr_apart (by decide), State.rd_wr_apart (by decide), State.rd_wr_self]
    rfl
  · rw [State.logEvent_rd_page (by decide), State.rd_wr_apart (by decide), State.rd_wr_self]
    rfl
  · rw [State.logEvent_rd_page (by decide), State.rd_wr_self]
    rfl

/-- A correct frame's word is read in the window. -/
theorem doFrameWindowRead_reads (src tag i : Nat) (hf : f < 4608) (he : s.ecc clsFrame f < 2) (hq : s.quayIsDead 33 = false) :
    doFrameWindowRead src tag f i s = s.emit (.nocResp src tag 0 [s.frameWord f i]) := by
  unfold doFrameWindowRead
  rw [if_neg (Nat.not_le.mpr hf), if_pos he]
  exact if_neg (by rw [hq]; decide)

/-- Settles O29: the frame at the position is checked and passed, and corrected or fetched again; its refetch rewrites it; the
supervisor restarts the pass or resets the settings; and the window reads a correct frame. -/
theorem framesAreScrubbed : Obligations.FramesAreScrubbed := by
  unfold Obligations.FramesAreScrubbed
  refine ⟨?scrub, ?refetch, ?heartbeat, fun s => ⟨_, rfl, doScrubSettingsFault_resets⟩,
    fun s => ⟨_, rfl, State.scrubRestart_effect⟩, ?window⟩
  case scrub =>
    intro u s hon hidle hfirst hlast hruns
    refine ⟨_, rfl, ?_⟩
    rw [doScrubFrameRead_checks u hon hidle hfirst hlast hruns]
    refine ⟨State.rd_wr_self _ _ _, fun he => ?_, fun he hcopy => ?_, ?_⟩
    · obtain ⟨hecc, hbit, hcount⟩ := State.scrubFrame_corrects he
      rw [State.rd_wr_apart (by decide), State.rd_wr_apart (by decide), hbit, hcount, State.upset_rd]
      exact ⟨hecc, rfl, rfl⟩
    · obtain ⟨hrefetch, hbit⟩ := State.scrubFrame_refetches he ((State.noCopy_of (State.upset_frames u).2 _).trans hcopy)
      rw [State.rd_wr_apart (by decide)]
      exact ⟨hrefetch, hbit⟩
    · rw [State.wr_frames, State.scrubFrame_frames, (State.upset_frames u).1]
  case refetch =>
    intro words f s hf hlen hfw hnum hcheck
    refine ⟨_, rfl, ?_⟩
    obtain ⟨hframe, hecc, hother⟩ :=
      State.putFrame_effect (s := s.modFab (fun x => { x with refetch := none })) (f := f) (frameOf (words.drop 1))
    rw [doFrameRefetch_rewrites hf hlen hfw hnum hcheck]
    exact ⟨rfl, hframe, hecc, hother⟩
  case heartbeat =>
    intro s hon
    refine ⟨_, rfl, ?_⟩
    rw [doScrubHeartbeatTimeout_restarts hon]
    exact State.scrubRestart_effect
  case window =>
    intro src tag f i s he hq
    exact congrArg Host.Outcome.next (doFrameWindowRead_reads src.val tag.val i.val f.isLt he hq)

end Sys2Proof.Machine

/-! The bundles of a model core (R346, R357 to R362): what landing, the sequencer, the trace and the two address units do to a
core's own data, and the issue of a bundle as one equation. -/

namespace Sys2Proof.Machine
open Sys2Proof

variable {s t : State} {m : Nat} {b : W128} {c x y : Core} {rs : List Landing} {l : Landing} {r v n : Nat}

/-! ## Registers and landings (R357, R358) -/

theorem Core.reg_setReg_self : (c.setReg r v).reg r = v := SMap.get_set_self _ _ _ _

theorem Core.reg_setReg_ne {q : Nat} (h : q ≠ r) : (c.setReg r v).reg q = c.reg q := SMap.get_set_other h

theorem Core.pc_setPc : (c.setPc v).pc = v % 2 ^ 32 := Core.reg_setReg_self

theorem Core.reg_setPc (h : r ≠ 64) : (c.setPc v).reg r = c.reg r := Core.reg_setReg_ne h

/-- Landings of a list, in its order. -/
def Core.landAll (c : Core) (ls : List Landing) : Core := ls.foldl Core.land c

/-- Landing changes registers alone. -/
theorem Core.landAll_frame (ls : List Landing) (c : Core) : ∃ g, c.landAll ls = { c with regs := g } := by
  induction ls generalizing c with
  | nil => exact ⟨c.regs, rfl⟩
  | cons l ls ih => exact ih (c.land l)

theorem Core.landAll_reg {ls : List Landing} (h : ∀ l ∈ ls, l.reg ≠ r) (c : Core) : (c.landAll ls).reg r = c.reg r := by
  induction ls generalizing c with
  | nil => rfl
  | cons l ls ih =>
    obtain ⟨hl, hls⟩ := List.forall_mem_cons.mp h
    exact (ih hls (c.land l)).trans (Core.reg_setReg_ne hl.symm)

/-- The one result for a register that lands is what the register holds. -/
theorem Core.landAll_reg_sole {ls : List Landing} (h : ls.filter (fun l => l.reg == r) = [⟨n, r, false, v⟩]) (c : Core) :
    (c.landAll ls).reg r = v := by
  obtain ⟨before, after, rfl, -, -, hafter⟩ := List.filter_eq_cons_iff.mp h
  have hrest : ∀ l ∈ after, l.reg ≠ r := fun l hl e =>
    List.filter_eq_nil_iff.mp hafter l hl (beq_iff_eq.mpr e)
  rw [Core.landAll, List.foldl_append, List.foldl_cons]
  exact (Core.landAll_reg hrest _).trans Core.reg_setReg_self

theorem Core.landDue_eq (n : Nat) : c.landDue n =
    { c.landAll (c.due.filter (fun l => decide (l.due ≤ n))) with due := c.due.filter (fun l => decide (n < l.due)) } := rfl

/-- Landing changes registers and what is still on its way. -/
theorem Core.landDue_frame (c : Core) (n : Nat) : ∃ g, c.landDue n =
    { c with regs := g, due := c.due.filter (fun l => decide (n < l.due)) } := by
  obtain ⟨g, hg⟩ := Core.landAll_frame (c.due.filter (fun l => decide (l.due ≤ n))) c
  exact ⟨g, by rw [Core.landDue_eq, hg]⟩

theorem Core.landDue_reg (h : ∀ l ∈ c.due, l.reg ≠ r) (n : Nat) : (c.landDue n).reg r = c.reg r :=
  Core.landAll_reg (fun l hl => h l (List.mem_of_mem_filter hl)) c

theorem Core.landDue_due (c : Core) (n : Nat) : (c.landDue n).due ⊆ c.due := fun _ => List.mem_of_mem_filter

/-- Draining changes registers and what is on its way. -/
theorem Core.drain_frame (c : Core) : ∃ g d, c.drain = { c with regs := g, due := d } := by
  obtain ⟨g1, h1⟩ := Core.landDue_frame c (c.count + 1)
  obtain ⟨g2, h2⟩ := Core.landDue_frame (c.landDue (c.count + 1)) (c.count + 2)
  obtain ⟨g3, h3⟩ := Core.landDue_frame ((c.landDue (c.count + 1)).landDue (c.count + 2)) (c.count + 3)
  obtain ⟨g4, h4⟩ :=
    Core.landDue_frame (((c.landDue (c.count + 1)).landDue (c.count + 2)).landDue (c.count + 3)) (c.count + 4)
  exact ⟨g4, _, h4.trans (by rw [h3, h2, h1])⟩

/-- A register that no result on its way is for is the same once the core has drained. -/
theorem Core.drain_reg (h : ∀ l ∈ c.due, l.reg ≠ r) : c.drain.reg r = c.reg r := by
  have h1 : ∀ l ∈ (c.landDue (c.count + 1)).due, l.reg ≠ r := fun l hl => h l (Core.landDue_due _ _ hl)
  have h2 : ∀ l ∈ ((c.landDue (c.count + 1)).landDue (c.count + 2)).due, l.reg ≠ r := fun l hl =>
    h1 l (Core.landDue_due _ _ hl)
  have h3 : ∀ l ∈ (((c.landDue (c.count + 1)).landDue (c.count + 2)).landDue (c.count + 3)).due, l.reg ≠ r := fun l hl =>
    h2 l (Core.landDue_due _ _ hl)
  exact ((Core.landDue_reg h3 _).trans (Core.landDue_reg h2 _)).trans ((Core.landDue_reg h1 _).trans (Core.landDue_reg h _))

theorem Core.advance_frame (c : Core) (rs : List Landing) : ∃ g d, c.advance rs =
    { c with regs := g, due := d, count := c.count + 1 } := by
  obtain ⟨g, hg⟩ := Core.landDue_frame { c with due := c.due ++ rs, count := c.count + 1 } (c.count + 1)
  exact ⟨g, _, hg⟩

/-- A result that is not for the next bundle is on its way. -/
theorem Core.mem_advance_due (hl : l ∈ rs) (hd : c.count + 1 < l.due) : l ∈ (c.advance rs).due :=
  List.mem_filter.mpr ⟨List.mem_append_right _ hl, decide_eq_true hd⟩

theorem Core.advance_due (c : Core) (rs : List Landing) : (c.advance rs).due ⊆ c.due ++ rs := fun _ => List.mem_of_mem_filter

theorem Core.advance_reg (h : ∀ l ∈ c.due ++ rs, l.reg ≠ r) : (c.advance rs).reg r = c.reg r :=
  Core.landDue_reg (c := { c with due := c.due ++ rs, count := c.count + 1 }) h _

/-- The one result for a register, if it is for the next bundle, is what that bundle reads. -/
theorem Core.advance_reg_sole (hdue : ∀ l ∈ c.due, l.reg ≠ r)
    (hone : (rs.filter (fun l => l.reg == r)).length = 1) (hl : c.lands 1 r v ∈ rs) : (c.advance rs).reg r = v := by
  have hmem : c.lands 1 r v ∈ rs.filter (fun l => l.reg == r) := List.mem_filter.mpr ⟨hl, beq_self_eq_true r⟩
  have hrs : rs.filter (fun l => l.reg == r) = [c.lands 1 r v] := by
    obtain ⟨z, hz⟩ := List.length_eq_one_iff.mp hone
    rw [hz] at hmem ⊢
    rw [List.mem_singleton.mp hmem]
  have hold : c.due.filter (fun l => l.reg == r) = [] :=
    List.filter_eq_nil_iff.mpr fun l hl e => hdue l hl (beq_iff_eq.mp e)
  refine Core.landAll_reg_sole (n := c.count + 1) (ls := (c.due ++ rs).filter (fun l => decide (l.due ≤ c.count + 1))) ?_
    { c with due := c.due ++ rs, count := c.count + 1 }
  rw [List.filter_comm, List.filter_append, hold, hrs, List.nil_append]
  exact List.filter_eq_self.mpr fun l hl => decide_eq_true (by rw [List.mem_singleton.mp hl]; exact le_refl _)

/-! ## The sequencer (R361, R362, R368, R369) -/

/-- The sequencer changes PC and ESTAT, the transfer and the repeat block in progress. -/
theorem Core.sequence_frame (c before : Core) (b : W128) : ∃ g br rp j, c.sequence before b =
    { c with regs := g, branch := br, rep := rp, justReturned := j } ∧
    ∀ r, r ≠ 64 → r ≠ regESTAT → SMap.get 0 g r = c.reg r := by
  have hpc : ∀ (x : Core) (v r : Nat), r ≠ 64 → (x.setPc v).reg r = x.reg r := fun _ _ _ h => Core.reg_setPc h
  unfold Core.sequence
  extract_lets pc w3
  split
  · split
    · exact ⟨_, _, _, _, rfl, fun r h _ => hpc _ _ _ h⟩
    · exact ⟨_, _, _, _, rfl, fun r h _ => hpc _ _ _ h⟩
  · next br _ _ =>
    split
    · unfold Core.endTransfer
      split
      · exact ⟨_, _, _, _, rfl, fun r h he => (hpc _ _ _ h).trans (Core.reg_setReg_ne he)⟩
      · exact ⟨_, _, _, _, rfl, fun r h he => (hpc _ _ _ h).trans (Core.reg_setReg_ne he)⟩
      · exact ⟨_, _, _, _, rfl, fun r h _ => hpc _ _ _ h⟩
    · exact ⟨_, _, _, _, rfl, fun r h _ => hpc _ _ _ h⟩
  · split
    · exact ⟨_, _, _, _, rfl, fun r h _ => hpc _ _ _ h⟩
    · split
      · unfold opRep
        extract_lets len
        split
        · exact ⟨_, _, _, _, rfl, fun r h _ => hpc _ _ _ h⟩
        · exact ⟨_, _, _, _, rfl, fun r h _ => hpc _ _ _ h⟩
      · exact ⟨_, _, _, _, rfl, fun r h _ => hpc _ _ _ h⟩

theorem Core.sequence_due (c before : Core) (b : W128) : (c.sequence before b).due = c.due := by
  obtain ⟨_, _, _, _, h, _⟩ := Core.sequence_frame c before b
  rw [h]

theorem Core.sequence_reg (hpc : r ≠ 64) (hstat : r ≠ regESTAT) (c before : Core) (b : W128) :
    (c.sequence before b).reg r = c.reg r := by
  obtain ⟨_, _, _, _, h, hreg⟩ := Core.sequence_frame c before b
  rw [h]
  exact hreg r hpc hstat

/-- A transfer begins: its two delay slots follow (R361). -/
theorem Core.sequence_transfer {before : Core} {target : Nat} (hb : before.branch = none) (hr : before.rep = none)
    (ht : before.transfer (slotOf b 3) = some target) (c : Core) : c.sequence before b =
      ({ c with branch := some ⟨target, 2, iOp (slotOf b 3)⟩ } : Core).setPc (before.pc + 16) := by
  unfold Core.sequence
  rw [hb, hr]
  dsimp only
  rw [ht]

/-- A repeat block begins (R362). -/
theorem Core.sequence_repeat {before : Core} (hb : before.branch = none) (hr : before.rep = none)
    (hop : iOp (slotOf b 3) = 0x34) (c : Core) :
    c.sequence before b = opRep (slotOf b 3) c before.pc (before.repCount (slotOf b 3)) := by
  have ht : before.transfer (slotOf b 3) = none := by simp only [Core.transfer, hop]
  unfold Core.sequence
  rw [hb, hr]
  dsimp only
  rw [ht]
  exact if_pos hop

/-- Any other instruction is followed by the next bundle. -/
theorem Core.sequence_next {before : Core} (hb : before.branch = none) (hr : before.rep = none)
    (ht : before.transfer (slotOf b 3) = none) (hop : iOp (slotOf b 3) ≠ 0x34) (c : Core) :
    c.sequence before b = c.setPc (before.pc + 16) := by
  unfold Core.sequence
  rw [hb, hr]
  dsimp only
  rw [ht]
  exact if_neg hop

end Sys2Proof.Machine

/-! What packets of the trace and the two address units leave of a core's own data, and the bundle that takes effect as one
state (R320, R323, R346, R357, R498). -/

namespace Sys2Proof.Machine
open Sys2Proof

variable {s t : State} {m : Nat} {b : W128}

theorem State.core_of_cores (h : t.cores = s.cores) (m : Nat) : t.core m = s.core m := by
  rw [State.core, State.core, h]

/-! ## Latches at the cores are only added (R389) -/

theorem State.irqEvent_latches (n : Nat) : s.irqLatches ⊆ (s.irqEvent n).irqLatches := by
  unfold State.irqEvent
  split
  · exact fun _ h => mem_insertAsc.mpr (.inr h)
  · split
    · exact fun _ h => h
    · split
      · exact fun _ h => h
      · unfold State.sendVector
        split <;> exact fun _ h => h
  · exact fun _ h => h

theorem State.raise_latches (p : Page) (ch i : Nat) : s.irqLatches ⊆ (s.raise p ch i).irqLatches := by
  unfold State.raise
  extract_lets s1
  split
  · split
    · exact State.irqEvent_latches (s := s1) _
    · exact fun _ h => h
  · exact fun _ h => h

theorem State.logEvent_latches (source inst cls kind d1 d2 : Nat) :
    s.irqLatches ⊆ (s.logEvent source inst cls kind d1 d2).irqLatches := by
  unfold State.logEvent State.logQueue
  split
  · exact State.raise_latches (s := s.count R.LOG_DROPPED.COUNT 0 1) _ _ _
  · exact fun _ h => h

theorem State.quayStatus_latches (node status addr : Nat) : s.irqLatches ⊆ (s.quayStatus node status addr).irqLatches := by
  have herror : ∀ i code, s.irqLatches ⊆ (s.quayError node i code addr).irqLatches := fun i code => by
    have h := State.raise_latches (s := s.err .noc node code node addr) .noc node i
    rwa [State.err_irqLatches] at h
  unfold State.quayStatus
  extract_lets s1
  have h1 : s.irqLatches ⊆ s1.irqLatches := by
    simp only [s1]
    split
    · exact herror 1 7
    · exact herror 2 8
    · exact fun _ h => h
  split
  · exact h1
  · exact fun _ h => State.raise_latches _ _ _ (h1 h)

/-! ## Packets of the trace (R498 to R502) -/

/-- A core without its trace. -/
def Core.untraced (c : Core) : Core := { c with trace := {} }

/-- Of core m only its trace has changed, and every latch at a core is still set. -/
structure TraceOnly (m : Nat) (s t : State) : Prop where
  core : (t.core m).untraced = (s.core m).untraced
  latches : s.irqLatches ⊆ t.irqLatches

theorem TraceOnly.refl (m : Nat) (s : State) : TraceOnly m s s := ⟨rfl, fun _ h => h⟩

theorem TraceOnly.trans {u : State} (h : TraceOnly m s t) (k : TraceOnly m t u) : TraceOnly m s u :=
  ⟨k.core.trans h.core, fun _ hl => k.latches (h.latches hl)⟩

theorem State.modTrace_traceOnly (f : CoreTrace → CoreTrace) : TraceOnly m s (s.modTrace m f) :=
  ⟨by rw [State.modTrace, State.core_modCore]; rfl, fun _ h => h⟩

theorem State.traceBytes_traceOnly (l : List Nat) : TraceOnly m s (s.traceBytes m l) := by
  unfold State.traceBytes
  extract_lets x
  split
  · exact TraceOnly.refl m s
  · split
    · refine (State.modTrace_traceOnly _).trans ⟨?_, State.raise_latches _ _ _⟩
      rw [State.core_of_cores (State.raise_cores _ _ _)]
    · exact State.modTrace_traceOnly _

theorem State.traceSync_traceOnly : TraceOnly m s (s.traceSync m) :=
  (State.traceBytes_traceOnly (0x01 :: leBytes (s.core m).pc 4 ++ leBytes s.traceStamp 6)).trans
    (State.modTrace_traceOnly (fun t => { t with ref := (s.core m).pc / 16, since := 0, syncDue := false }))

theorem State.flushOutcomes_traceOnly : TraceOnly m s (s.flushOutcomes m) := by
  unfold State.flushOutcomes
  extract_lets o
  split
  · exact TraceOnly.refl m s
  · exact (State.traceBytes_traceOnly _).trans (State.modTrace_traceOnly _)

theorem State.periodicSync_traceOnly : TraceOnly m s (s.periodicSync m) := by
  unfold State.periodicSync
  extract_lets x
  split
  · exact State.flushOutcomes_traceOnly.trans State.traceSync_traceOnly
  · exact TraceOnly.refl m s

theorem State.firstSync_traceOnly : TraceOnly m s (s.firstSync m) := by
  unfold State.firstSync
  split
  · exact State.periodicSync_traceOnly
  · exact TraceOnly.refl m s

theorem State.packet_traceOnly (l : List Nat) : TraceOnly m s (s.packet m l) := by
  unfold State.packet
  split
  · exact ((State.periodicSync_traceOnly.trans State.flushOutcomes_traceOnly).trans (State.traceBytes_traceOnly l)).trans
      State.periodicSync_traceOnly
  · exact TraceOnly.refl m s

theorem State.traceOutcome_traceOnly (taken : Bool) : TraceOnly m s (s.traceOutcome m taken) := by
  unfold State.traceOutcome
  split
  · exact TraceOnly.refl m s
  · extract_lets s1
    split
    · exact ((State.modTrace_traceOnly _).trans State.flushOutcomes_traceOnly).trans State.periodicSync_traceOnly
    · exact State.modTrace_traceOnly _

theorem State.traceAddr_traceOnly (target : Nat) : TraceOnly m s (s.traceAddr m target) := by
  unfold State.traceAddr
  split
  · exact TraceOnly.refl m s
  · exact (((State.firstSync_traceOnly.trans State.flushOutcomes_traceOnly).trans (State.traceBytes_traceOnly _)).trans
      (State.modTrace_traceOnly _)).trans State.periodicSync_traceOnly

theorem State.traceExc_traceOnly (kind source ret handler : Nat) : TraceOnly m s (s.traceExc m kind source ret handler) := by
  unfold State.traceExc
  split
  · exact TraceOnly.refl m s
  · exact (((State.firstSync_traceOnly.trans State.flushOutcomes_traceOnly).trans (State.traceBytes_traceOnly _)).trans
      (State.modTrace_traceOnly _)).trans State.periodicSync_traceOnly

theorem State.traceResume_traceOnly : TraceOnly m s (s.traceResume m) := by
  unfold State.traceResume
  split
  · exact State.flushOutcomes_traceOnly.trans State.traceSync_traceOnly
  · exact TraceOnly.refl m s

theorem State.traceBundle_traceOnly (before : Core) (b : W128) : TraceOnly m s (s.traceBundle m before b) := by
  unfold State.traceBundle
  extract_lets w3 s1 s2
  have h1 : TraceOnly m s s1 := by
    simp only [s1]
    split
    · exact State.traceOutcome_traceOnly _
    · exact TraceOnly.refl m s
  have h2 : TraceOnly m s s2 := by
    simp only [s2]
    split
    · exact h1.trans (State.packet_traceOnly _)
    · exact h1
  split
  · split
    · exact h2.trans (State.traceAddr_traceOnly _)
    · exact h2
  · exact h2

/-! ## The address units (R320, R323, R337, R338) -/

/-- What of a core its two address units do not touch: all but its reservation and its posted stores, and but its trace and
the hold of a FENCE. -/
def Core.flow (c : Core) : Core := { c with resv := none, stores := [], trace := {}, fenced := false }

theorem Core.flow_of_untraced {x y : Core} (h : x.untraced = y.untraced) : x.flow = y.flow :=
  congrArg (fun c : Core => { c with resv := none, stores := [], fenced := false }) h

/-- Of core m only what its address units touch has changed, and every latch at a core is still set. -/
structure UnitsOnly (m : Nat) (s t : State) : Prop where
  core : (t.core m).flow = (s.core m).flow
  latches : s.irqLatches ⊆ t.irqLatches

theorem UnitsOnly.refl (m : Nat) (s : State) : UnitsOnly m s s := ⟨rfl, fun _ h => h⟩

theorem UnitsOnly.trans {u : State} (h : UnitsOnly m s t) (k : UnitsOnly m t u) : UnitsOnly m s u :=
  ⟨k.core.trans h.core, fun _ hl => k.latches (h.latches hl)⟩

theorem TraceOnly.unitsOnly (h : TraceOnly m s t) : UnitsOnly m s t := ⟨Core.flow_of_untraced h.core, h.latches⟩

theorem UnitsOnly.of_cores (hc : t.cores = s.cores) (hl : s.irqLatches ⊆ t.irqLatches) : UnitsOnly m s t :=
  ⟨by rw [State.core_of_cores hc], hl⟩

theorem State.modCore_unitsOnly {f : Core → Core} (h : ∀ c, (f c).flow = c.flow) : UnitsOnly m s (s.modCore m f) :=
  ⟨by rw [State.core_modCore, h], fun _ h => h⟩

theorem State.dropReservation_core : (s.dropReservation m).core m = { s.core m with resv := none } :=
  State.core_modCore m (fun c => { c with resv := none })

theorem State.dropReservation_unitsOnly : UnitsOnly m s (s.dropReservation m) :=
  ⟨by rw [State.dropReservation_core]; rfl, fun _ h => h⟩

/-- A scratchpad word takes a value, its seal good. -/
def State.scratchPut (s : State) (k : Nat) (v : W128) : State :=
  ({ s with scratch := SMap.set 0 s.scratch k v } : State).setEcc clsScratch k 0

/-- A word whose seal is good is merged. -/
theorem State.writeScratch_stores {a be : Nat} (he : s.ecc clsScratch (scratchKey m a) = 0) (v : W128) (node : Nat) :
    s.writeScratch m a be v node = (true, (s.scratchPut (scratchKey m a)
      (mergeBytes (SMap.get 0 s.scratch (scratchKey m a)) v be 16)).cancelGranule m (a / 16)) :=
  if_neg fun h => h.2 he

theorem State.cancelGranule_unitsOnly (g : Nat) : UnitsOnly m s (s.cancelGranule m g) := by
  unfold State.cancelGranule
  split
  · exact State.modCore_unitsOnly (fun _ => rfl)
  · exact UnitsOnly.refl m s

theorem State.writeScratch_unitsOnly (a be : Nat) (v : W128) (node : Nat) :
    UnitsOnly m s (s.writeScratch m a be v node).2 := by
  unfold State.writeScratch
  extract_lets k
  split
  · refine UnitsOnly.of_cores (by rw [State.logEvent_cores, State.err_cores]) fun x hx => State.logEvent_latches _ _ _ _ _ _ ?_
    rwa [State.err_irqLatches]
  · have hput : UnitsOnly m s (s.scratchPut k (mergeBytes (SMap.get 0 s.scratch k) v be 16)) :=
      UnitsOnly.of_cores rfl fun _ h => h
    exact hput.trans (State.cancelGranule_unitsOnly (a / 16))

theorem State.quayStatus_cores (node status addr : Nat) : (s.quayStatus node status addr).cores = s.cores :=
  (State.quayStatus_keeps (M := 1099847172097) rfl (Keeps.refl _ s)).same .cores rfl

theorem State.storeFailed_unitsOnly (addr status : Nat) : UnitsOnly m s (s.storeFailed m addr status) := by
  refine UnitsOnly.of_cores ((State.storeFailed_keeps (M := 1099847172097) rfl (Keeps.refl _ s)).same .cores rfl) ?_
  unfold State.storeFailed
  split
  next f s1 h =>
    have h1 : s1.irqLatches = s.irqLatches := by
      split at h
      · rw [← (Prod.mk.inj h).2]
      · rw [← (Prod.mk.inj h).2]
    refine fun x hx => State.raise_latches _ _ _ ?_
    rwa [State.err_irqLatches, h1]

theorem State.postStore_unitsOnly (a size v : Nat) : UnitsOnly m s (s.postStore m a size v) := by
  have hrefused : ∀ addr, UnitsOnly m s ((s.quayStatus (12 + m) 1 addr).storeFailed m addr 1) := fun addr =>
    (UnitsOnly.of_cores (State.quayStatus_cores _ _ _) (State.quayStatus_latches _ _ _)).trans
      (State.storeFailed_unitsOnly _ _)
  unfold State.postStore
  extract_lets x
  split
  · exact hrefused x
  · split
    · refine (UnitsOnly.of_cores (t := s.quaySend _ _ _ _ _ _) ?_ ?_).trans (State.modCore_unitsOnly fun _ => rfl)
      · unfold State.quaySend
        split <;> rfl
      · unfold State.quaySend
        split <;> exact fun _ h => h
    · exact hrefused x

theorem State.storeBytes_unitsOnly (a size v : Nat) : UnitsOnly m s (s.storeBytes m a size v) := by
  unfold State.storeBytes
  split
  split
  · exact State.writeScratch_unitsOnly _ _ _ _
  · exact UnitsOnly.of_cores rfl fun _ h => h
  · exact State.postStore_unitsOnly _ _ _
  · exact UnitsOnly.refl m s

theorem opSc_unitsOnly (k w : Nat) (c : Core) : UnitsOnly m s (opSc m k w c s).2 := by
  unfold opSc
  extract_lets a v
  split
  · exact (State.writeScratch_unitsOnly _ _ _ _).trans State.dropReservation_unitsOnly
  · split
    · exact State.dropReservation_unitsOnly
    · exact State.dropReservation_unitsOnly

theorem opLr_unitsOnly (w : Nat) (c : Core) : UnitsOnly m s (opLr m w c s) := by
  unfold opLr
  split
  · exact State.dropReservation_unitsOnly.trans (State.modCore_unitsOnly fun _ => rfl)
  · exact State.modCore_unitsOnly fun _ => rfl

theorem State.memSlot_unitsOnly (s0 : State) (k w : Nat) (c : Core) : UnitsOnly m s (s0.memSlot s m k w c).2 := by
  unfold State.memSlot
  split
  case h_2 => exact State.storeBytes_unitsOnly _ _ _
  case h_4 => exact State.storeBytes_unitsOnly _ _ _
  case h_5 => exact State.storeBytes_unitsOnly _ _ _
  case h_6 => exact opLr_unitsOnly w c
  case h_7 => exact opSc_unitsOnly k w c
  all_goals exact UnitsOnly.refl m s

/-- An instruction that makes no access leaves the state as it is. -/
theorem State.memSlot_of_noAccess {w : Nat} (h : accessKind w = none) (s0 : State) (k : Nat) (c : Core) :
    (s0.memSlot s m k w c).2 = s := by
  unfold State.memSlot
  split
  case h_2 hop => simp only [accessKind, hop, reduceCtorEq] at h
  case h_4 hop => simp only [accessKind, hop, reduceCtorEq] at h
  case h_5 hop => simp only [accessKind, hop, reduceCtorEq] at h
  case h_6 hop => simp only [accessKind, hop, reduceCtorEq] at h
  case h_7 hop => simp only [accessKind, hop, reduceCtorEq] at h
  all_goals rfl

end Sys2Proof.Machine

/-! The issue of a bundle (R346, R357, R359): the command of each of its instructions is one commit, whose results, registers and
sequence are read off the core as the bundle found it. -/

namespace Sys2Proof.Machine
open Sys2Proof

variable {s t : State} {m k : Nat} {b : W128} {l : Landing} {r v : Nat}

/-! ## A bundle as one state -/

/-- The core as the bundle leaves it before its results and its sequence. -/
def Core.issued (c : Core) : Core := { c with wait := [], justReturned := false, noHalt := false, fenced := false }

/-- Both address units have done their part: slot 2 first (R323). -/
def State.memDone (s : State) (m : Nat) (b : W128) : State :=
  (s.memSlot (s.memSlot s m 2 (slotOf b 2) (s.core m)).2 m 3 (slotOf b 3) (s.core m)).2

/-- The same, a bank conflict counted (R323). -/
def State.memCounted (s : State) (m : Nat) (b : W128) : State :=
  if bankConflict (s.core m) b then (s.memDone m b).count R.MDC_BANK_WAIT.COUNT m 1 else s.memDone m b

/-- The bundle has run: its results are on their way, and the sequencer stands at the next bundle. -/
def State.bundleRun (s : State) (m : Nat) (b : W128) : State :=
  (((s.memCounted m b).modCore m (fun c' =>
    (c'.issued.advance (s.bundleResults m b)).sequence (s.core m) b)).wr R.MDC_PC.PC m (s.core m).pc).traceBundle m (s.core m) b

theorem State.commit_eq : s.commit m b =
    ((s.bundleRun m b).seqEffect m (s.core m) (slotOf b 3)).showCore m := rfl

/-- The core that the bundle leaves, but for what its address units touch. -/
def State.afterBundle (s : State) (m : Nat) (b : W128) : Core :=
  ((s.core m).flow.issued.advance (s.bundleResults m b)).sequence (s.core m) b

theorem Core.landAll_flow (ls : List Landing) (c : Core) : (c.landAll ls).flow = c.flow.landAll ls := by
  induction ls generalizing c with
  | nil => rfl
  | cons l ls ih => exact ih (c.land l)

theorem Core.advance_flow (c : Core) (rs : List Landing) : (c.advance rs).flow = c.flow.advance rs :=
  congrArg (fun x : Core => { x with due := (c.due ++ rs).filter (fun l => decide (c.count + 1 < l.due)) })
    (Core.landAll_flow ((c.due ++ rs).filter (fun l => decide (l.due ≤ c.count + 1)))
      { c with due := c.due ++ rs, count := c.count + 1 })

theorem Core.sequence_flow (c before : Core) (b : W128) : (c.sequence before b).flow = c.flow.sequence before b := by
  unfold Core.sequence
  extract_lets pc w3
  split
  · split <;> rfl
  · split
    · unfold Core.endTransfer
      split <;> rfl
    · rfl
  · split
    · rfl
    · split
      · unfold opRep
        extract_lets len
        split <;> rfl
      · rfl

theorem State.memDone_unitsOnly : UnitsOnly m s (s.memDone m b) :=
  (State.memSlot_unitsOnly s 2 (slotOf b 2) (s.core m)).trans (State.memSlot_unitsOnly s 3 (slotOf b 3) (s.core m))

theorem State.memCounted_cores : (s.memCounted m b).cores = (s.memDone m b).cores ∧
    (s.memCounted m b).irqLatches = (s.memDone m b).irqLatches ∧ (s.memCounted m b).scratch = (s.memDone m b).scratch := by
  unfold State.memCounted
  split <;> exact ⟨rfl, rfl, rfl⟩

theorem State.bundleRun_untraced : ((s.bundleRun m b).core m).untraced =
    ((((s.memDone m b).core m).issued.advance (s.bundleResults m b)).sequence (s.core m) b).untraced := by
  have hcore : ∀ f : Core → Core, (((s.memCounted m b).modCore m f).wr R.MDC_PC.PC m (s.core m).pc).core m =
      f ((s.memDone m b).core m) := fun f => by
    rw [State.core_of_cores (State.wr_cores _ _ _), State.core_modCore, State.core_of_cores State.memCounted_cores.1]
  rw [State.bundleRun, (State.traceBundle_traceOnly _ b).core, hcore]

theorem State.bundleRun_flow : ((s.bundleRun m b).core m).flow = s.afterBundle m b := by
  have hissued : ((s.memDone m b).core m).issued.flow = (s.core m).flow.issued :=
    congrArg Core.issued (State.memDone_unitsOnly (s := s) (m := m) (b := b)).core
  rw [Core.flow_of_untraced State.bundleRun_untraced, Core.sequence_flow, Core.advance_flow, hissued]
  rfl

theorem State.bundleRun_resv : ((s.bundleRun m b).core m).resv = ((s.memDone m b).core m).resv := by
  obtain ⟨_, _, _, _, hseq, _⟩ := Core.sequence_frame
    (((s.memDone m b).core m).issued.advance (s.bundleResults m b)) (s.core m) b
  obtain ⟨_, _, hadv⟩ := Core.advance_frame ((s.memDone m b).core m).issued (s.bundleResults m b)
  refine (congrArg Core.resv State.bundleRun_untraced).trans ?_
  rw [hseq, hadv]
  rfl

theorem State.bundleRun_scratch : (s.bundleRun m b).scratch = (s.memDone m b).scratch := by
  obtain ⟨h, _⟩ := (State.traceBundle_keeps (M := 1100920913921) (a1 := m) (a2 := s.core m) (a3 := b) rfl
    (Keeps.refl _ (((s.memCounted m b).modCore m (fun c' =>
      (c'.issued.advance (s.bundleResults m b)).sequence (s.core m) b)).wr R.MDC_PC.PC m (s.core m).pc))).same .scratch rfl
  exact h.trans State.memCounted_cores.2.2

theorem State.bundleRun_latches : s.irqLatches ⊆ (s.bundleRun m b).irqLatches := fun x hx => by
  refine (State.traceBundle_traceOnly (m := m) (s.core m) b).latches ?_
  rw [State.wr_irqLatches, State.modCore_irqLatches, State.memCounted_cores.2.1]
  exact State.memDone_unitsOnly.latches hx

/-- A running bundle changes, of the fields of MDC_ and IRQ_, only the count of waits and the PC that are shown. -/
theorem State.bundleRun_rd {g : Fld} (hp : g.page = .mdc ∨ g.page = .irq) (he : errorReg (g.off % 4096) = false)
    (hwait : R.MDC_BANK_WAIT.COUNT.apart g = true) (hpc : R.MDC_PC.PC.apart g = true) (d : Nat) :
    (s.bundleRun m b).rd g d = s.rd g d := by
  have htrace : (1100920913921 : Nat).testBit (Kind.regs g.page).bit = false := by rcases hp with h | h <;> rw [h] <;> rfl
  have hmem : (2305861704484937745 : Nat).testBit (Kind.regs g.page).bit = false := by rcases hp with h | h <;> rw [h] <;> rfl
  have hdone : (s.memDone m b).rd g d = s.rd g d :=
    (keeps_of2 (State.memSlot_keeps (M := 2305861704484937745) rfl (Keeps.refl _ s)
      (keeps_of2 (State.memSlot_keeps rfl (Keeps.refl _ s) (Keeps.refl _ s))))).rd_plain hmem he d
  rw [State.bundleRun, (State.traceBundle_keeps (M := 1100920913921) rfl (Keeps.refl _ _)).rd_plain htrace he,
    State.rd_wr_apart hpc, State.modCore_rd, State.memCounted]
  split
  · exact (State.rd_wr_apart hwait _ _ _).trans hdone
  · exact hdone

/-! ## What follows of slot 3 (R340, R356) -/

theorem State.showCore_cores : (s.showCore m).cores = s.cores := rfl

theorem State.showCore_rd {g : Fld} (h1 : R.MDC_STATUS.RESV.apart g = true) (h2 : R.MDC_STATUS.HOLDOFF.apart g = true)
    (h3 : R.MDC_STATUS.FAR_BUSY.apart g = true) (d : Nat) : (s.showCore m).rd g d = s.rd g d := by
  rw [State.showCore, State.rd_wr_apart h3, State.rd_wr_apart h2, State.rd_wr_apart h1]

theorem State.napCore_unitsOnly : UnitsOnly m s (s.napCore m) := by
  unfold State.napCore
  split
  · exact UnitsOnly.refl m s
  · exact (State.dropReservation_unitsOnly.trans (State.packet_traceOnly _).unitsOnly).trans
      (UnitsOnly.of_cores rfl fun _ h => h)

/-- A core that naps has no reservation. -/
theorem State.dropReservation_traceNap_resv : (((s.dropReservation m).traceNap m).core m).resv = none := by
  have h := (State.packet_traceOnly (s := s.dropReservation m) (m := m) (0x03 :: leBytes (s.dropReservation m).traceStamp 6)).core
  rw [State.dropReservation_core] at h
  exact congrArg Core.resv h

/-- A NAP that is over at once leaves a reservation that has ended so. -/
theorem State.napCore_resv (h : (s.core m).resv = none) : ((s.napCore m).core m).resv = none := by
  unfold State.napCore
  split
  · exact h
  · exact State.dropReservation_traceNap_resv

theorem State.seqEffect_fence {w : Nat} (h : iOp w = 0x36) (before : Core) :
    s.seqEffect m before w = s.modCore m (fun c => { c with fenced := !c.stores.isEmpty }) := by
  simp only [State.seqEffect, h]

theorem State.seqEffect_nap {w : Nat} (h : iOp w = 0x37) (before : Core) : s.seqEffect m before w = s.napCore m := by
  simp only [State.seqEffect, h]

theorem State.seqEffect_trap {w : Nat} (h : iOp w = 0x3A) (before : Core) :
    s.seqEffect m before w = s.takeException m ⟨10, 0, 0⟩ (before.pc + 16) 1 (some (bitsOf w 0 8)) := by
  simp only [State.seqEffect, h]

theorem State.seqEffect_unitsOnly {w : Nat} (h : iOp w ≠ 0x3A) (before : Core) : UnitsOnly m s (s.seqEffect m before w) := by
  unfold State.seqEffect
  split
  · exact State.modCore_unitsOnly fun _ => rfl
  · exact State.napCore_unitsOnly
  · next htrap => exact absurd htrap h
  · exact UnitsOnly.refl m s

/-- NAP ends the reservation; no other instruction of slot 3 but a TRAP touches it here. -/
theorem State.seqEffect_resv {w : Nat} (htrap : iOp w ≠ 0x3A) (hnap : iOp w ≠ 0x37) (before : Core) :
    ((s.seqEffect m before w).core m).resv = (s.core m).resv := by
  unfold State.seqEffect
  split
  · rw [State.core_modCore]
  · next h => exact absurd h hnap
  · next h => exact absurd h htrap
  · rfl

theorem State.seqEffect_scratch (before : Core) (w : Nat) : (s.seqEffect m before w).scratch = s.scratch :=
  ((State.seqEffect_keeps (M := 2882779855772983297) rfl (Keeps.refl _ s)).same .scratch rfl).1

/-! ## The bundle that has issued -/

/-- A bundle without a TRAP leaves the core as its results and its sequence have it. -/
theorem State.commit_flow (h : iOp (slotOf b 3) ≠ 0x3A) : ((s.commit m b).core m).flow = s.afterBundle m b := by
  rw [State.commit_eq, State.core_of_cores State.showCore_cores, (State.seqEffect_unitsOnly h _).core, State.bundleRun_flow]

theorem State.commit_resv (htrap : iOp (slotOf b 3) ≠ 0x3A) (hnap : iOp (slotOf b 3) ≠ 0x37) :
    ((s.commit m b).core m).resv = ((s.memDone m b).core m).resv := by
  rw [State.commit_eq, State.core_of_cores State.showCore_cores, State.seqEffect_resv htrap hnap, State.bundleRun_resv]

theorem State.commit_scratch : (s.commit m b).scratch = (s.memDone m b).scratch := by
  rw [State.commit_eq]
  exact (State.seqEffect_scratch _ _).trans State.bundleRun_scratch

/-- A result that is not for the next bundle is on its way. -/
theorem State.mem_commit_due (h : iOp (slotOf b 3) ≠ 0x3A) (hl : l ∈ s.bundleResults m b)
    (hd : (s.core m).count + 1 < l.due) : l ∈ ((s.commit m b).core m).due := by
  have hdue : ((s.commit m b).core m).flow.due = (s.afterBundle m b).due := congrArg Core.due (State.commit_flow h)
  change l ∈ ((s.commit m b).core m).flow.due
  rw [hdue, State.afterBundle, Core.sequence_due]
  exact Core.mem_advance_due hl hd

/-- The sole result for a register, for the next bundle, is what that bundle reads (R357, R358). -/
theorem State.commit_reg (h : iOp (slotOf b 3) ≠ 0x3A) (hsole : s.sole m b r)
    (hl : (s.core m).lands 1 r v ∈ s.bundleResults m b) (hpc : r ≠ 64) (hstat : r ≠ regESTAT) :
    ((s.commit m b).core m).reg r = v := by
  have hreg : ((s.commit m b).core m).flow.reg r = (s.afterBundle m b).reg r :=
    congrArg (fun c => Core.reg c r) (State.commit_flow h)
  obtain ⟨hdue, hone⟩ := hsole
  refine hreg.trans ?_
  rw [State.afterBundle, Core.sequence_reg hpc hstat]
  exact Core.advance_reg_sole (c := (s.core m).flow.issued) hdue hone hl

theorem State.mem_bundleResults_arith (hk : k < 2) (hl : l ∈ arithResults (slotOf b k) (s.core m)) : l ∈ s.bundleResults m b := by
  simp only [State.bundleResults, List.mem_append]
  match k, hk with
  | 0, _ => exact .inl (.inl (.inl (.inl hl)))
  | 1, _ => exact .inl (.inl (.inl (.inr hl)))

theorem State.mem_bundleResults_seq (hl : l ∈ seqResults (slotOf b 3) (s.core m)) : l ∈ s.bundleResults m b :=
  List.mem_append_right _ hl

/-- The results of an address unit, whatever the other has done. -/
theorem State.mem_bundleResults_mem (h2 : 2 ≤ k) (h4 : k < 4)
    (hl : ∀ u, l ∈ (s.memSlot u m k (slotOf b k) (s.core m)).1) : l ∈ s.bundleResults m b := by
  simp only [State.bundleResults, List.mem_append]
  obtain rfl | rfl : k = 2 ∨ k = 3 := by omega
  · exact .inl (.inl (.inr (hl s)))
  · exact .inl (.inr (hl _))

/-! ## The command of an instruction (log entry 41) -/

/-- Without a breakpoint at the PC nothing is checked (R487). -/
theorem State.breakCheck_none (h : s.breakpoint m (s.core m).pc = none) : s.breakCheck m = s := by
  unfold State.breakCheck
  extract_lets c
  rw [h]
  exact ite_self s

theorem State.haltsNow_unrequested (h : (s.core m).haltReq = 0) : s.haltsNow m = false := by
  simp [State.haltsNow, h]

theorem State.issues.runs (h : s.issues m b) : s.tryIssue m = (s.firstSync m).commit m b := by
  obtain ⟨hready, hirq, hquay, hhalt, hbreak, -, hfetch, hfault, hfar2, hfar3⟩ := h
  have hissue : s.issue m = (s.firstSync m).commit m b := by
    unfold State.issue
    extract_lets s1 c
    rw [hfault, hfetch]
    dsimp only
    rw [hfar2, hfar3]
    rfl
  unfold State.tryIssue
  rw [hready, hirq, hquay, State.breakCheck_none hbreak]
  exact (if_neg (ne_true_of_eq_false (State.haltsNow_unrequested hhalt))).trans hissue

/-- The command of an instruction is the issue of the bundle that holds it. -/
theorem State.issues.issueAs (h : s.issues m b) {op : Nat} (hop : iOp (slotOf b k) = op) :
    s.issueAs m k op = (s.firstSync m).commit m b := by
  have hholds : s.holds m k op = true := by
    obtain ⟨-, -, -, -, -, hfetch, -⟩ := h
    unfold State.holds
    rw [hfetch]
    exact beq_iff_eq.mpr hop
  rw [State.issueAs, if_pos hholds, h.runs]

/-- The bundle that issues is legal (R347 to R353, R361, R362). -/
theorem State.issues.legal (h : s.issues m b) : ((s.firstSync m).core m).legal b = true := by
  obtain ⟨-, -, -, -, -, -, hfetch, hfault, -, -⟩ := h
  by_contra hne
  rw [State.bundleFault, hfetch] at hfault
  simp [hne] at hfault

theorem State.issues.slotLegal (h : s.issues m b) (hk : k < 4) : slotAllows k (iOp (slotOf b k)) = true ∧
    fieldsLegal (slotOf b k) = true ∧ ((s.firstSync m).core m).stateLegal (slotOf b k) = true := by
  have hall := (Bool.and_eq_true_iff.mp h.legal).1
  have hslot := List.all_eq_true.mp hall k (List.mem_range.mpr hk)
  simp only [Bool.and_eq_true] at hslot
  exact ⟨hslot.1.1, hslot.1.2, hslot.2⟩

/-- A sequencer instruction but MVC and FENCE issues with no transfer and no repeat block in progress (R361, R362). -/
theorem State.issues.idle (h : s.issues m b) (h30 : 0x30 ≤ iOp (slotOf b 3)) (hmvc : iOp (slotOf b 3) ≠ 0x35)
    (hfence : iOp (slotOf b 3) ≠ 0x36) :
    ((s.firstSync m).core m).branch = none ∧ ((s.firstSync m).core m).rep = none := by
  have hlegal := (h.slotLegal (k := 3) (by decide)).2.2
  simp only [Core.stateLegal, Bool.and_eq_true, Bool.or_eq_true, decide_eq_true_eq, beq_iff_eq, Option.isNone_iff_eq_none]
    at hlegal
  rcases hlegal.2 with hlow | ⟨hb, (hr | hop) | hop⟩
  · exact absurd h30 (by omega)
  · exact ⟨hb, hr⟩
  · exact absurd hop hmvc
  · exact absurd hop hfence

end Sys2Proof.Machine

/-! The multiplies and the moves of the accumulators (R330 to R332, R354, R357): the statement. -/

namespace Sys2Proof.Machine
open Sys2Proof

variable {s : State} {m k : Nat} {b : W128}

/-! ## The results of slots 0 and 1 (R330 to R332) -/

theorem regMac_flows (a : Nat) : regMac a ≠ 64 ∧ regMac a ≠ regESTAT := by
  simp only [regMac, regESTAT]
  omega

theorem regAcc_flows (w : Nat) : regAcc (iAcc w) ≠ 64 ∧ regAcc (iAcc w) ≠ regESTAT := by
  have h : iAcc w < 2 ^ 3 := Nat.mod_lt _ (by decide)
  simp only [regAcc, regESTAT]
  omega

theorem Core.lands_mem_toAcc (c : Core) (w : Nat) (f : Nat → Int) :
    c.lands 1 (regMac (iAcc w)) (accOf (iW w) f) ∈ c.toAcc w f ∧ c.lands 3 (regAcc (iAcc w)) (accOf (iW w) f) ∈ c.toAcc w f :=
  ⟨List.mem_append_left _ List.mem_cons_self, List.mem_append_left _ (List.mem_cons_of_mem _ List.mem_cons_self)⟩

/-- A lane that does not fit sets the accumulator's OVF bit (R330). -/
theorem Core.overflow_mem_toAcc {w j : Nat} {f : Nat → Int} (hj : j < laneCount (iW w)) (hfit : accFits (iW w) (f j) = false)
    (c : Core) : c.arsBits (2 ^ iAcc w) ∈ c.toAcc w f := by
  have hall : (List.range (laneCount (iW w))).all (fun j => accFits (iW w) (f j)) = false :=
    List.all_eq_false.mpr ⟨j, List.mem_range.mpr hj, by simp [hfit]⟩
  refine List.mem_append_right _ ?_
  rw [if_neg (ne_true_of_eq_false hall)]
  exact List.mem_singleton_self _

/-- A multiply's accumulator: the MAC units see it one bundle later, every other reader and ARS three bundles later. -/
theorem State.commit_multiply (h3 : iOp (slotOf b 3) ≠ 0x3A) (hk : k < 2) {f : Nat → Int}
    (hop : arithResults (slotOf b k) (s.core m) = (s.core m).toAcc (slotOf b k) f) :
    ⟨(s.core m).count + 3, regAcc (iAcc (slotOf b k)), false, accOf (iW (slotOf b k)) f⟩ ∈ ((s.commit m b).core m).due ∧
    (s.sole m b (regMac (iAcc (slotOf b k))) →
      ((s.commit m b).core m).reg (regMac (iAcc (slotOf b k))) = accOf (iW (slotOf b k)) f) ∧
    (∀ j, j < laneCount (iW (slotOf b k)) → accFits (iW (slotOf b k)) (f j) = false →
      ⟨(s.core m).count + 3, regARS, true, 2 ^ iAcc (slotOf b k)⟩ ∈ ((s.commit m b).core m).due) := by
  have hmem : ∀ l ∈ (s.core m).toAcc (slotOf b k) f, l ∈ s.bundleResults m b := fun l hl =>
    State.mem_bundleResults_arith hk (hop ▸ hl)
  obtain ⟨hmac, hacc⟩ := (s.core m).lands_mem_toAcc (slotOf b k) f
  obtain ⟨hpc, hstat⟩ := regMac_flows (iAcc (slotOf b k))
  refine ⟨?_, fun hsole => ?_, fun j hj hfit => ?_⟩
  · exact State.mem_commit_due h3 (hmem _ hacc) (Nat.lt_succ_of_lt (Nat.lt_succ_self _))
  · exact State.commit_reg h3 hsole (hmem _ hmac) hpc hstat
  · exact State.mem_commit_due h3 (hmem _ (Core.overflow_mem_toAcc hj hfit _)) (Nat.lt_succ_of_lt (Nat.lt_succ_self _))

/-- A result of slot 0 or 1 that is not for the next bundle. -/
theorem State.commit_arith_due (h3 : iOp (slotOf b 3) ≠ 0x3A) (hk : k < 2) {l : Landing}
    (hl : l ∈ arithResults (slotOf b k) (s.core m)) (hd : (s.core m).count + 1 < l.due) : l ∈ ((s.commit m b).core m).due :=
  State.mem_commit_due h3 (State.mem_bundleResults_arith hk hl) hd

theorem Core.satBit_saturates {w32 : Bool} {acc : Nat} {c : Core} (h : moveSaturates w32 (c.reg regASC) acc = true) :
    c.satBit w32 acc = [c.arsBits 256] := if_pos h

/-- Settles O31: each command is the commit of its bundle, in which a multiply leaves its accumulator for the MAC units one bundle
later and for the others three bundles later, the moves leave theirs two bundles later, and ACLR its zeros for the next bundle. -/
theorem accumulatorInstructionsIssue : Obligations.AccumulatorInstructionsIssue := by
  unfold Obligations.AccumulatorInstructionsIssue
  intro m k b s s1 c w hs hc hw hi h3 hk
  subst hs hc hw
  have hfar : ∀ n, n + 1 < n + 2 ∧ n + 1 < n + 3 := fun n => by omega
  refine ⟨fun hop => ⟨_, congrArg Host.Outcome.next (hi.issueAs hop), ?mac⟩,
    fun hop => ⟨_, congrArg Host.Outcome.next (hi.issueAs hop), ?msu⟩,
    fun hop => ⟨_, congrArg Host.Outcome.next (hi.issueAs hop), ?mpy⟩,
    fun hop => ⟨_, congrArg Host.Outcome.next (hi.issueAs hop), ?mova⟩,
    fun hop => ⟨_, congrArg Host.Outcome.next (hi.issueAs hop), ?movd⟩,
    fun hop hacc hmac => ⟨_, congrArg Host.Outcome.next (hi.issueAs hop), ?aclr⟩⟩
  case mac => exact State.commit_multiply h3 hk (by simp only [arithResults, hop]; rfl)
  case msu => exact State.commit_multiply h3 hk (by simp only [arithResults, hop]; rfl)
  case mpy => exact State.commit_multiply h3 hk (by simp only [arithResults, hop]; rfl)
  case mova =>
    have hres : ∀ x : Core, arithResults (slotOf b k.val) x = opMova (slotOf b k.val) x := fun x => by
      simp only [arithResults, hop]
    refine ⟨State.commit_arith_due h3 hk (by rw [hres]; exact List.mem_cons_self) (hfar _).1, fun hsat => ?_⟩
    refine State.commit_arith_due h3 hk ?_ (hfar _).2
    rw [hres]
    exact List.mem_cons_of_mem _ (by rw [Core.satBit_saturates hsat]; exact List.mem_singleton_self _)
  case movd =>
    have hres : ∀ x : Core, arithResults (slotOf b k.val) x = opMovd (slotOf b k.val) x := fun x => by
      simp only [arithResults, hop]
    exact ⟨State.commit_arith_due h3 hk (by rw [hres]; exact List.mem_cons_self) (hfar _).1,
      State.commit_arith_due h3 hk (by rw [hres]; exact List.mem_cons_of_mem _ List.mem_cons_self) (hfar _).1⟩
  case aclr =>
    have hres : ∀ x : Core, arithResults (slotOf b k.val) x = opAclr (slotOf b k.val) x := fun x => by
      simp only [arithResults, hop]
    obtain ⟨haccPc, haccStat⟩ := regAcc_flows (slotOf b k.val)
    obtain ⟨hmacPc, hmacStat⟩ := regMac_flows (iAcc (slotOf b k.val))
    exact ⟨State.commit_reg h3 hacc (State.mem_bundleResults_arith hk
        (by rw [hres]; exact List.mem_cons_of_mem _ List.mem_cons_self)) haccPc haccStat,
      State.commit_reg h3 hmac (State.mem_bundleResults_arith hk (by rw [hres]; exact List.mem_cons_self)) hmacPc hmacStat⟩

end Sys2Proof.Machine

/-! Loads, stores, the pointer instructions and the reserved accesses of the address units (R318, R323, R334, R337, R338, R354,
R357): the statement. -/

namespace Sys2Proof.Machine
open Sys2Proof

variable {s : State} {m k w : Nat} {b : W128} {c : Core}

/-! ## The registers that the address units write -/

theorem regP_flows {p : Nat} (h : p < 24) : regP p ≠ 64 ∧ regP p ≠ regESTAT := by
  simp only [regP, regESTAT]
  omega

theorem regD_flows {d : Nat} (h : d < 32) : regD d ≠ 64 ∧ regD d ≠ regESTAT := by
  simp only [regD, regESTAT]
  omega

/-- The pointer of a format M instruction is one of 16. -/
theorem regP_iP_flows (w : Nat) : regP (iP w) ≠ 64 ∧ regP (iP w) ≠ regESTAT :=
  regP_flows (lt_of_lt_of_le (Nat.mod_lt _ (by decide)) (by decide : 2 ^ 4 ≤ 24))

/-- A legal PADD, PMOV or PMOVI names a pointer or a modifier (R351). -/
theorem iReg_lt_of_legal (h : fieldsLegal w = true) (hop : iOp w = 0x27 ∨ iOp w = 0x28 ∨ iOp w = 0x29) : iReg w < 24 := by
  rcases hop with hop | hop | hop
  · simp only [fieldsLegal, hop, Bool.and_eq_true, decide_eq_true_eq] at h
    exact h.2
  · simp only [fieldsLegal, hop, Bool.and_eq_true, decide_eq_true_eq] at h
    exact h.1.2
  · simp only [fieldsLegal, hop, Bool.and_eq_true, decide_eq_true_eq] at h
    exact h.1.2

/-- A post-modify mode leaves the pointer's new value. -/
theorem Core.postMod_updates (h : iMode w ≠ 0) : c.postMod w = [c.lands 1 (regP (iP w)) (c.modified w)] := if_neg h

/-! ## Results of an address unit in the bundle that has issued -/

theorem State.commit_mem_due (h3 : iOp (slotOf b 3) ≠ 0x3A) (h2 : 2 ≤ k) (h4 : k < 4) {l : Landing}
    (hl : ∀ u, l ∈ (s.memSlot u m k (slotOf b k) (s.core m)).1) (hd : (s.core m).count + 1 < l.due) :
    l ∈ ((s.commit m b).core m).due :=
  State.mem_commit_due h3 (State.mem_bundleResults_mem h2 h4 hl) hd

theorem State.commit_mem_reg (h3 : iOp (slotOf b 3) ≠ 0x3A) (h2 : 2 ≤ k) (h4 : k < 4) {r v : Nat} (hsole : s.sole m b r)
    (hl : ∀ u, (s.core m).lands 1 r v ∈ (s.memSlot u m k (slotOf b k) (s.core m)).1) (hr : r ≠ 64 ∧ r ≠ regESTAT) :
    ((s.commit m b).core m).reg r = v :=
  State.commit_reg h3 hsole (State.mem_bundleResults_mem h2 h4 hl) hr.1 hr.2

/-! ## One address unit makes an access, the other none -/

/-- Where the other address unit makes no access, both have done their part once this one has. -/
theorem State.memDone_alone (h2 : 2 ≤ k) (h4 : k < 4) (hnone : accessKind (slotOf b (5 - k)) = none) :
    s.memDone m b = (s.memSlot s m k (slotOf b k) (s.core m)).2 := by
  unfold State.memDone
  obtain rfl | rfl : k = 2 ∨ k = 3 := by omega
  · exact State.memSlot_of_noAccess hnone s 3 (s.core m)
  · rw [State.memSlot_of_noAccess (s := s) hnone s 2 (s.core m)]

theorem State.mem_bundleResults_alone (h2 : 2 ≤ k) (h4 : k < 4) (hnone : accessKind (slotOf b (5 - k)) = none) {l : Landing}
    (hl : l ∈ (s.memSlot s m k (slotOf b k) (s.core m)).1) : l ∈ s.bundleResults m b := by
  simp only [State.bundleResults, List.mem_append]
  obtain rfl | rfl : k = 2 ∨ k = 3 := by omega
  · exact .inl (.inl (.inr hl))
  · rw [State.memSlot_of_noAccess (s := s) hnone s 2 (s.core m)]
    exact .inl (.inr hl)

/-! ## Stores to the scratchpad (R24, R26, R319) -/

theorem State.scratchPut_scratch (i : Nat) (v : W128) : (s.scratchPut i v).scratch = SMap.set 0 s.scratch i v := rfl

theorem State.cancelGranule_scratch (g : Nat) : (s.cancelGranule m g).scratch = s.scratch := by
  unfold State.cancelGranule
  split <;> rfl

theorem State.firstSync_scratch : (s.firstSync m).scratch = s.scratch :=
  ((State.firstSync_keeps (M := 1100920913921) rfl (Keeps.refl _ s)).same .scratch rfl).1

/-- A store whose word has a good seal merges its bytes into the word. -/
theorem State.storeBytes_scratch {a : Nat} (hr : regionOf a = .scratch) (he : s.ecc clsScratch (scratchKey m a) = 0)
    (size v : Nat) : (s.storeBytes m a size v).scratch = SMap.set 0 s.scratch (scratchKey m a)
      (mergeBytes (SMap.get 0 s.scratch (scratchKey m a)) (placed a v) (enables a size) 16) := by
  unfold State.storeBytes
  split
  rw [hr]
  dsimp only
  rw [State.writeScratch_stores he]
  exact (State.cancelGranule_scratch _).trans (State.scratchPut_scratch _ _)

/-- A bundle whose one store reaches the scratchpad writes that word alone. -/
theorem State.commit_stores (h2 : 2 ≤ k) (h4 : k < 4) (hnone : accessKind (slotOf b (5 - k)) = none) {a size v : Nat}
    (hr : regionOf a = .scratch) (he : (s.firstSync m).ecc clsScratch (scratchKey m a) = 0)
    (hst : ((s.firstSync m).memSlot (s.firstSync m) m k (slotOf b k) ((s.firstSync m).core m)).2 =
      (s.firstSync m).storeBytes m a size v) :
    SMap.get 0 ((s.firstSync m).commit m b).scratch (scratchKey m a) =
      mergeBytes (SMap.get 0 s.scratch (scratchKey m a)) (placed a v) (enables a size) 16 ∧
    ∀ j, j ≠ scratchKey m a → SMap.get 0 ((s.firstSync m).commit m b).scratch j = SMap.get 0 s.scratch j := by
  rw [State.commit_scratch, State.memDone_alone h2 h4 hnone, hst, State.storeBytes_scratch hr he, State.firstSync_scratch]
  exact ⟨SMap.get_set_self _ _ _ _, fun j hj => SMap.get_set_other hj⟩

/-! ## Reserved accesses (R337, R338) -/

theorem State.dropReservation_scratch : (s.dropReservation m).scratch = s.scratch := by
  simp only [State.dropReservation, State.modCore_scratch]

theorem opLr_scratch (hr : regionOf (c.address w) = .scratch) : ((opLr m w c s).core m).resv = some (c.address w / 16) ∧
    (opLr m w c s).scratch = s.scratch := by
  rw [opLr, if_pos hr, State.core_modCore, State.modCore_scratch]
  exact ⟨rfl, State.dropReservation_scratch⟩

/-- SC always ends the reservation. -/
theorem opSc_resv : ((opSc m k w c s).2.core m).resv = none := by
  unfold opSc
  extract_lets a v
  split
  · rw [State.dropReservation_core]
  · split <;> rw [State.dropReservation_core]

/-- SC on the granule that is reserved stores. -/
theorem opSc_stores (hr : regionOf (c.address w) = .scratch) (he : s.ecc clsScratch (scratchKey m (c.address w)) = 0)
    (hres : (s.core m).resv = some (c.address w / 16)) : (opSc m k w c s).1 = true ∧
      (opSc m k w c s).2.scratch = SMap.set 0 s.scratch (scratchKey m (c.address w))
        (mergeBytes (SMap.get 0 s.scratch (scratchKey m (c.address w)))
          (placed (c.address w) (bitsOf (c.reg (regD (iReg w))) 0 (8 * iBytes w))) (enables (c.address w) (iBytes w)) 16) := by
  unfold opSc
  extract_lets a v
  rw [if_pos ⟨hr, hres⟩, State.writeScratch_stores he]
  refine ⟨rfl, ?_⟩
  dsimp only
  rw [State.dropReservation_scratch, State.cancelGranule_scratch, State.scratchPut_scratch]

/-- SC on a granule that is not reserved stores nothing. -/
theorem opSc_fails (hres : (s.core m).resv ≠ some (c.address w / 16)) (hfar : c.farData k = none) :
    (opSc m k w c s).1 = false ∧ (opSc m k w c s).2.scratch = s.scratch := by
  unfold opSc
  extract_lets a v
  rw [if_neg fun h => hres h.2, hfar]
  exact ⟨rfl, rfl⟩

/-- A reservation that has ended stays ended, whatever slot 3 does but a TRAP. -/
theorem State.commit_resv_none (htrap : iOp (slotOf b 3) ≠ 0x3A) (h : ((s.memDone m b).core m).resv = none) :
    ((s.commit m b).core m).resv = none := by
  by_cases hnap : iOp (slotOf b 3) = 0x37
  · rw [State.commit_eq, State.core_of_cores State.showCore_cores, State.seqEffect_nap hnap]
    exact State.napCore_resv (State.bundleRun_resv.trans h)
  · rw [State.commit_resv htrap hnap, h]

/-- An LR on the own scratchpad in a bundle of no other access: its granule is reserved, and no word changes. -/
theorem State.commit_lr (htrap : iOp (slotOf b 3) ≠ 0x3A) (hnap : iOp (slotOf b 3) ≠ 0x37) (h2 : 2 ≤ k) (h4 : k < 4)
    (hnone : accessKind (slotOf b (5 - k)) = none) (hop : iOp (slotOf b k) = 0x25)
    (hr : regionOf ((s.core m).address (slotOf b k)) = .scratch) :
    ((s.commit m b).core m).resv = some ((s.core m).address (slotOf b k) / 16) ∧ (s.commit m b).scratch = s.scratch := by
  have hdone : s.memDone m b = opLr m (slotOf b k) (s.core m) s := by
    rw [State.memDone_alone h2 h4 hnone]
    simp only [State.memSlot, hop]
  rw [State.commit_resv htrap hnap, State.commit_scratch, hdone]
  exact opLr_scratch hr

/-- An SC in a bundle of no other access. -/
theorem State.commit_sc (htrap : iOp (slotOf b 3) ≠ 0x3A) (h2 : 2 ≤ k) (h4 : k < 4)
    (hnone : accessKind (slotOf b (5 - k)) = none) (hop : iOp (slotOf b k) = 0x26) :
    ((s.commit m b).core m).resv = none ∧
    ⟨(s.core m).count + 3, scResult (slotOf b k), false, b2n (!(opSc m k (slotOf b k) (s.core m) s).1)⟩ ∈
      ((s.commit m b).core m).due ∧
    (s.commit m b).scratch = (opSc m k (slotOf b k) (s.core m) s).2.scratch := by
  have hslot : s.memSlot s m k (slotOf b k) (s.core m) =
      ([(s.core m).lands 3 (scResult (slotOf b k)) (b2n (!(opSc m k (slotOf b k) (s.core m) s).1))],
        (opSc m k (slotOf b k) (s.core m) s).2) := by
    simp only [State.memSlot, hop]
  have hdone : s.memDone m b = (opSc m k (slotOf b k) (s.core m) s).2 := by rw [State.memDone_alone h2 h4 hnone, hslot]
  refine ⟨State.commit_resv_none htrap (by rw [hdone, opSc_resv]), ?_, by rw [State.commit_scratch, hdone]⟩
  refine State.mem_commit_due htrap (State.mem_bundleResults_alone h2 h4 hnone ?_)
    (Nat.lt_succ_of_lt (Nat.lt_succ_self _))
  rw [hslot]
  exact List.mem_singleton_self _

/-! ## The statement -/

/-- Settles O32: each command is the commit of its bundle, to which its address unit gives its results, and the one unit that makes
an access gives what the bundle does to the scratchpad and to the reservation. -/
theorem addressInstructionsIssue : Obligations.AddressInstructionsIssue := by
  unfold Obligations.AddressInstructionsIssue
  intro m k b s s1 c w hs hc hw hi h3 h2
  subst hs hc hw
  have h4 : k.val < 4 := k.isLt
  have hlegal : fieldsLegal (slotOf b k.val) = true := (hi.slotLegal h4).2.1
  have hfar : ∀ n, n + 1 < n + 3 ∧ n + 1 < n + 4 := fun n => by omega
  refine ⟨⟨fun hop => ⟨_, congrArg Host.Outcome.next (hi.issueAs hop), ?ld⟩,
    fun hop => ⟨_, congrArg Host.Outcome.next (hi.issueAs hop), ?ldp⟩,
    fun hop hsole => ⟨_, congrArg Host.Outcome.next (hi.issueAs hop), ?padd⟩,
    fun hop => ⟨_, congrArg Host.Outcome.next (hi.issueAs hop), ?pmov⟩,
    fun hop hsole => ⟨_, congrArg Host.Outcome.next (hi.issueAs hop), ?pmovi⟩⟩,
    fun hnone hr he => ⟨fun hop => ⟨_, congrArg Host.Outcome.next (hi.issueAs hop), ?st⟩,
      fun hop => ⟨_, congrArg Host.Outcome.next (hi.issueAs hop), ?stp⟩,
      fun hop => ⟨_, congrArg Host.Outcome.next (hi.issueAs hop), ?sta⟩,
      fun hop hnap => ⟨_, congrArg Host.Outcome.next (hi.issueAs hop), ?lr⟩,
      fun hop => ⟨_, congrArg Host.Outcome.next (hi.issueAs hop), ?sc⟩⟩⟩
  case ld =>
    refine ⟨State.commit_mem_due h3 h2 h4 (fun u => ?_) (hfar _).1, fun hmode hsole =>
      State.commit_mem_reg h3 h2 h4 hsole (fun u => ?_) (regP_iP_flows _)⟩
    · simp only [State.memSlot, hop]
      exact List.mem_cons_self
    · simp only [State.memSlot, hop, opLd, Core.postMod_updates hmode]
      exact List.mem_cons_of_mem _ List.mem_cons_self
  case ldp =>
    refine State.commit_mem_due h3 h2 h4 (fun u => ?_) (hfar _).2
    simp only [State.memSlot, hop]
    exact List.mem_cons_self
  case padd =>
    refine State.commit_mem_reg h3 h2 h4 hsole (fun u => ?_) (regP_flows (iReg_lt_of_legal hlegal (.inl hop)))
    simp only [State.memSlot, hop]
    exact List.mem_cons_self
  case pmov =>
    refine ⟨fun hdir hsole => State.commit_mem_reg h3 h2 h4 hsole (fun u => ?_)
        (regP_flows (iReg_lt_of_legal hlegal (.inr (.inl hop)))),
      fun hdir hsole => State.commit_mem_reg h3 h2 h4 hsole (fun u => ?_) (regD_flows (Nat.mod_lt _ (by decide)))⟩
    · simp only [State.memSlot, hop, opPmov, hdir, if_true]
      exact List.mem_cons_self
    · simp only [State.memSlot, hop, opPmov, hdir, one_ne_zero, if_false]
      exact List.mem_cons_self
  case pmovi =>
    refine State.commit_mem_reg h3 h2 h4 hsole (fun u => ?_) (regP_flows (iReg_lt_of_legal hlegal (.inr (.inr hop))))
    simp only [State.memSlot, hop]
    exact List.mem_cons_self
  case st => exact State.commit_stores h2 h4 hnone hr he (by simp only [State.memSlot, hop, opSt])
  case stp => exact State.commit_stores h2 h4 hnone hr he (by simp only [State.memSlot, hop, opStp])
  case sta => exact State.commit_stores h2 h4 hnone hr he (by simp only [State.memSlot, hop, opSta])
  case lr =>
    obtain ⟨hresv, hscratch⟩ := State.commit_lr h3 hnap h2 h4 hnone hop hr
    refine ⟨hresv, State.commit_mem_due h3 h2 h4 (fun u => ?_) (hfar _).1, hscratch.trans State.firstSync_scratch⟩
    simp only [State.memSlot, hop]
    exact List.mem_cons_self
  case sc =>
    obtain ⟨hresv, hresult, hscratch⟩ := State.commit_sc h3 h2 h4 hnone hop
    rw [hscratch]
    refine ⟨hresv, fun hres => ?_, fun hres hdata => ?_⟩
    · obtain ⟨hok, hword⟩ := opSc_stores (k := k.val) hr he hres
      rw [hok] at hresult
      rw [hword, State.firstSync_scratch]
      exact ⟨hresult, SMap.get_set_self _ _ _ _⟩
    · obtain ⟨hok, hword⟩ := opSc_fails (m := m.val) hres hdata
      rw [hok] at hresult
      exact ⟨hresult, hword.trans State.firstSync_scratch⟩

end Sys2Proof.Machine

/-! Exceptions and the reset of a core (R316, R341, R369 to R373): the handler is entered, or a second exception resets the core. -/

namespace Sys2Proof.Machine
open Sys2Proof

variable {s t : State} {m : Nat} {f : CoreFault}

/-! ## The registers that show an exception (R369) -/

theorem State.excRegisters_cores (cause unit addr : Nat) : (s.excRegisters m cause unit addr).cores = s.cores :=
  (State.excRegisters_keeps (M := 576461852150595585) rfl (Keeps.refl _ s)).same .cores rfl

theorem State.excRegisters_rd (cause unit addr : Nat) :
    (s.excRegisters m cause unit addr).rd R.MDC_EXC_INFO.CAUSE m = cause % 2 ^ 8 ∧
    (s.excRegisters m cause unit addr).rd (intBit .mdc 3) m = 1 := by
  constructor
  · rw [State.excRegisters, State.raise_rd _ _ _ (by decide), State.rd_wr_apart (by decide), State.rd_wr_apart (by decide),
      State.rd_wr_self]
    rfl
  · exact State.raise_self _ _ _

/-! ## The handler -/

/-- A core that stands at its handler (R369). -/
def Core.atHandler (c : Core) (f : CoreFault) (elr resumable : Nat) (trap : Option Nat) : Core :=
  ((((({ c with branch := none, rep := none, wait := [] } : Core).setReg regELR (elr % 2 ^ 32 / 16 * 16)).setReg
    regESTAT (estatAfter (c.reg regESTAT) f.cause f.unit resumable trap)).setReg regEADDR f.addr)).setPc (c.reg regEVB)

theorem Core.atHandler_regs (c : Core) (f : CoreFault) (elr resumable : Nat) (trap : Option Nat) :
    (c.atHandler f elr resumable trap).pc = c.reg regEVB % 2 ^ 32 ∧
    (c.atHandler f elr resumable trap).reg regELR = elr % 2 ^ 32 / 16 * 16 ∧
    (c.atHandler f elr resumable trap).reg regESTAT = estatAfter (c.reg regESTAT) f.cause f.unit resumable trap ∧
    (c.atHandler f elr resumable trap).reg regEADDR = f.addr := by
  refine ⟨Core.pc_setPc, ?_, ?_, ?_⟩
  · rw [Core.atHandler, Core.reg_setPc (by decide), Core.reg_setReg_ne (by decide), Core.reg_setReg_ne (by decide),
      Core.reg_setReg_self]
  · rw [Core.atHandler, Core.reg_setPc (by decide), Core.reg_setReg_ne (by decide), Core.reg_setReg_self]
  · rw [Core.atHandler, Core.reg_setPc (by decide), Core.reg_setReg_self]

/-- Every bundle issued before has completed (R366, R369). -/
def State.drained (s : State) (m : Nat) : State := s.modCore m (fun c => c.drain)

/-- The exception is traced and the reservation has ended. -/
def State.leaving (s : State) (m : Nat) (f : CoreFault) (elr : Nat) : State :=
  ((s.drained m).traceExc m f.cause 0 elr (((s.drained m).core m).reg regEVB)).dropReservation m

theorem State.takeException_eq (elr resumable : Nat) (trap : Option Nat) : s.takeException m f elr resumable trap =
    if ((s.drained m).core m).inExc then (s.drained m).doubleFault m f.unit f.addr elr
    else ((((s.leaving m f elr).modCore m (fun c => c.atHandler f elr resumable trap)).excRegisters m f.cause f.unit
      f.addr).showCore m) := rfl

theorem State.drained_core : (s.drained m).core m = (s.core m).drain := State.core_modCore m _

theorem State.drained_reg {r : Nat} (h : ∀ l ∈ (s.core m).due, l.reg ≠ r) :
    ((s.drained m).core m).reg r = (s.core m).reg r := by
  rw [State.drained_core, Core.drain_reg h]

theorem State.drained_inExc (h : ∀ l ∈ (s.core m).due, l.reg ≠ regESTAT) :
    ((s.drained m).core m).inExc = (s.core m).inExc := by
  rw [Core.inExc, Core.inExc, State.drained_reg h]

theorem State.leaving_core (elr : Nat) : ((s.leaving m f elr).core m).resv = none ∧
    ((s.leaving m f elr).core m).regs = ((s.drained m).core m).regs := by
  have h := (State.traceExc_traceOnly (s := s.drained m) (m := m) f.cause 0 elr (((s.drained m).core m).reg regEVB)).core
  have hregs := congrArg Core.regs h
  rw [State.leaving, State.dropReservation_core]
  exact ⟨rfl, hregs⟩

/-- The handler is next, with what the core's registers and the MDC_ page show of the exception (R369). -/
structure HandlerEntered (s t : State) (m : Nat) (f : CoreFault) (elr resumable : Nat) (trap : Option Nat) : Prop where
  pc : (t.core m).pc = (s.core m).reg regEVB % 2 ^ 32
  elr : (t.core m).reg regELR = elr % 2 ^ 32 / 16 * 16
  estat : (t.core m).reg regESTAT = estatAfter ((s.core m).reg regESTAT) f.cause f.unit resumable trap
  eaddr : (t.core m).reg regEADDR = f.addr
  branch : (t.core m).branch = none
  rep : (t.core m).rep = none
  resv : (t.core m).resv = none
  cause : t.rd R.MDC_EXC_INFO.CAUSE m = f.cause % 2 ^ 8
  shown : t.rd (intBit .mdc 3) m = 1

/-- Outside a handler, and with no result on its way to ESTAT or EVB, an exception enters the handler. -/
theorem State.takeException_enters (hin : (s.core m).inExc = false)
    (hdue : ∀ l ∈ (s.core m).due, l.reg ≠ regESTAT ∧ l.reg ≠ regEVB) (elr resumable : Nat) (trap : Option Nat) :
    HandlerEntered s (s.takeException m f elr resumable trap) m f elr resumable trap := by
  have hestat := State.drained_reg fun l hl => (hdue l hl).1
  have hevb := State.drained_reg fun l hl => (hdue l hl).2
  have hout : ((s.drained m).core m).inExc = false := (State.drained_inExc fun l hl => (hdue l hl).1).trans hin
  obtain ⟨hresv, hregs⟩ := State.leaving_core (s := s) (m := m) (f := f) elr
  have hreg : ∀ r, ((s.leaving m f elr).core m).reg r = ((s.drained m).core m).reg r := fun r =>
    congrArg (fun g => SMap.get 0 g r) hregs
  have hcore : (s.takeException m f elr resumable trap).core m =
      ((s.leaving m f elr).core m).atHandler f elr resumable trap := by
    rw [State.takeException_eq, if_neg (ne_true_of_eq_false hout), State.core_of_cores State.showCore_cores,
      State.core_of_cores (State.excRegisters_cores _ _ _), State.core_modCore]
  obtain ⟨hpc, hELR, hESTAT, hEADDR⟩ := ((s.leaving m f elr).core m).atHandler_regs f elr resumable trap
  rw [hreg, hevb] at hpc
  rw [hreg, hestat] at hESTAT
  obtain ⟨hcause, hshown⟩ := State.excRegisters_rd
    (s := (s.leaving m f elr).modCore m (fun c => c.atHandler f elr resumable trap)) (m := m) f.cause f.unit f.addr
  have hrd : ∀ g : Fld, R.MDC_STATUS.RESV.apart g = true → R.MDC_STATUS.HOLDOFF.apart g = true →
      R.MDC_STATUS.FAR_BUSY.apart g = true → (s.takeException m f elr resumable trap).rd g m =
        (((s.leaving m f elr).modCore m (fun c => c.atHandler f elr resumable trap)).excRegisters m f.cause f.unit
          f.addr).rd g m := fun g h1 h2 h3 => by
    rw [State.takeException_eq, if_neg (ne_true_of_eq_false hout), State.showCore_rd h1 h2 h3]
  exact {
    pc := by rw [hcore, hpc]
    elr := by rw [hcore, hELR]
    estat := by rw [hcore, hESTAT]
    eaddr := by rw [hcore, hEADDR]
    branch := by rw [hcore]; rfl
    rep := by rw [hcore]; rfl
    resv := by rw [hcore]; exact hresv
    cause := by rw [hrd _ (by decide) (by decide) (by decide), hcause]
    shown := by rw [hrd _ (by decide) (by decide) (by decide), hshown] }

/-! ## Reset of a core (R316, R341) -/

/-- A core as its reset leaves it, before the MDC_ page and the harbourmaster are told. -/
def State.coreCleared (s : State) (m : Nat) : State :=
  ((s.dropReservation m).modCore m (fun c =>
    { c with regs := [], due := [], branch := none, rep := none, justReturned := false, fenced := false, wait := []
             warned := false, haltReq := 0, noHalt := false
             trace := { c.trace with outcomes := [], syncDue := true } })).modCore m
    (fun c => c.setPc (s.rd R.MDC_BOOT_ADDR.ADDR m * 16))

theorem State.dropReservation_rd (g : Fld) (d : Nat) : (s.dropReservation m).rd g d = s.rd g d := rfl

theorem State.coreCleared_rd (g : Fld) (d : Nat) : (s.coreCleared m).rd g d = s.rd g d := by
  rw [State.coreCleared, State.modCore_rd, State.modCore_rd, State.dropReservation_rd]

/-- The MDC_ and DBG_ pages show the reset. -/
def State.resetShown (s : State) (m : Nat) : State :=
  ((((((s.coreCleared m).wr R.MDC_CTRL.RESET m 1).wr R.MDC_STATUS.STATE m 0).wr (R.DBG_C_STATUS.HALTED m) 0 0).wr
    (R.DBG_C_STATUS.PENDING m) 0 0).wr R.MDC_WDT_COUNT.US m (s.rd R.MDC_WDT_PERIOD.US m)).showCore m

theorem State.resetCore_eq : s.resetCore m = ((s.resetShown m).itemsFailed m).checkEmuHalted := rfl

/-- What the harbourmaster and the debugger do when a core is reset changes no core and no field of the MDC_ page outside its
error registers. -/
theorem State.resetCore_told : (s.resetCore m).cores = (s.resetShown m).cores ∧
    ∀ g : Fld, g.page = .mdc → errorReg (g.off % 4096) = false → ∀ d, (s.resetCore m).rd g d = (s.resetShown m).rd g d := by
  have hitems := State.itemsFailed_keeps (M := 2306283918023720961) (a1 := m) rfl (Keeps.refl _ (s.resetShown m))
  have hlook := State.checkEmuHalted_keeps (M := 36284219260929) rfl (Keeps.refl _ ((s.resetShown m).itemsFailed m))
  rw [State.resetCore_eq]
  exact ⟨(hlook.same .cores rfl).trans (hitems.same .cores rfl), fun g hg he d =>
    (hlook.rd_plain (by rw [hg]; rfl) he d).trans (hitems.rd_plain (by rw [hg]; rfl) he d)⟩

theorem State.resetShown_rd {g : Fld} (hg : g.page = .mdc) (hwdt : R.MDC_WDT_COUNT.US.apart g = true)
    (h1 : R.MDC_STATUS.RESV.apart g = true) (h2 : R.MDC_STATUS.HOLDOFF.apart g = true)
    (h3 : R.MDC_STATUS.FAR_BUSY.apart g = true) (d : Nat) : (s.resetShown m).rd g d =
      (((s.coreCleared m).wr R.MDC_CTRL.RESET m 1).wr R.MDC_STATUS.STATE m 0).rd g d := by
  have hdbg : ∀ f : Fld, f.page = .dbg → f.apart g = true := fun f hf =>
    Fld.apart_of_page (by rw [hf, hg]; decide)
  rw [State.resetShown, State.showCore_rd h1 h2 h3, State.rd_wr_apart hwdt, State.rd_wr_apart (hdbg _ rfl),
    State.rd_wr_apart (hdbg _ rfl)]

theorem State.resetCore_status : (s.resetCore m).rd R.MDC_CTRL.RESET m = 1 ∧ (s.resetCore m).rd R.MDC_STATUS.STATE m = 0 ∧
    (s.resetCore m).rd R.MDC_EXC_INFO.CAUSE m = s.rd R.MDC_EXC_INFO.CAUSE m := by
  obtain ⟨-, hrd⟩ := State.resetCore_told (s := s) (m := m)
  refine ⟨?_, ?_, ?_⟩
  · rw [hrd _ rfl rfl, State.resetShown_rd rfl (by decide) (by decide) (by decide) (by decide), State.rd_wr_apart (by decide),
      State.rd_wr_self]
    rfl
  · rw [hrd _ rfl rfl, State.resetShown_rd rfl (by decide) (by decide) (by decide) (by decide), State.rd_wr_self]
    rfl
  · rw [hrd _ rfl rfl, State.resetShown_rd rfl (by decide) (by decide) (by decide) (by decide), State.rd_wr_apart (by decide),
      State.rd_wr_apart (by decide), State.coreCleared_rd]

/-- A core in reset waits for no far response. -/
theorem State.resetCore_wait : ((s.resetCore m).core m).wait = [] := by
  have hshown : (s.resetShown m).cores = (s.coreCleared m).cores := rfl
  rw [State.core_of_cores (State.resetCore_told.1.trans hshown), State.coreCleared, State.core_modCore, State.core_modCore]
  rfl

/-! ## A second exception (R373) -/

theorem State.doubleFault_status (unit addr ret : Nat) : (s.doubleFault m unit addr ret).rd R.MDC_CTRL.RESET m = 1 ∧
    (s.doubleFault m unit addr ret).rd R.MDC_STATUS.STATE m = 0 ∧
    (s.doubleFault m unit addr ret).rd R.MDC_EXC_INFO.CAUSE m = 11 := by
  unfold State.doubleFault
  extract_lets s1
  obtain ⟨hreset, hstate, hcause⟩ := State.resetCore_status (s := s1.logEvent 0x13 m 1 evCore 0x0B m) (m := m)
  refine ⟨hreset, hstate, hcause.trans ?_⟩
  rw [State.logEvent_rd_page (by decide)]
  exact (State.excRegisters_rd 0x0B unit addr).1

/-- Within a handler an exception resets the core. -/
theorem State.takeException_doubles (hin : (s.core m).inExc = true) (hdue : ∀ l ∈ (s.core m).due, l.reg ≠ regESTAT)
    (elr resumable : Nat) (trap : Option Nat) :
    (s.takeException m f elr resumable trap).rd R.MDC_CTRL.RESET m = 1 ∧
    (s.takeException m f elr resumable trap).rd R.MDC_STATUS.STATE m = 0 ∧
    (s.takeException m f elr resumable trap).rd R.MDC_EXC_INFO.CAUSE m = 11 := by
  rw [State.takeException_eq, if_pos ((State.drained_inExc hdue).trans hin)]
  exact State.doubleFault_status _ _ _

/-- However an exception ends, the core waits for no far response. -/
theorem State.takeException_wait (elr resumable : Nat) (trap : Option Nat) :
    ((s.takeException m f elr resumable trap).core m).wait = [] := by
  rw [State.takeException_eq]
  split
  · exact State.resetCore_wait
  · rw [State.core_of_cores State.showCore_cores, State.core_of_cores (State.excRegisters_cores _ _ _), State.core_modCore]
    rfl

end Sys2Proof.Machine

/-! The sequencer's instructions (R340, R354 to R356, R361, R362, R368, R369): the statement. -/

namespace Sys2Proof.Machine
open Sys2Proof

variable {s : State} {m : Nat} {b : W128}

/-! ## Where the sequencer stands after the bundle (R361, R362) -/

/-- What the sequencer reads of a core that a bundle without a TRAP has left. -/
theorem State.commit_sequencer (h : iOp (slotOf b 3) ≠ 0x3A) : ((s.commit m b).core m).pc = (s.afterBundle m b).pc ∧
    ((s.commit m b).core m).branch = (s.afterBundle m b).branch ∧ ((s.commit m b).core m).rep = (s.afterBundle m b).rep :=
  have hflow : ∀ {α : Type} (g : Core → α), g ((s.commit m b).core m).flow = g (s.afterBundle m b) := fun g =>
    congrArg g (State.commit_flow h)
  ⟨hflow Core.pc, hflow Core.branch, hflow Core.rep⟩

/-- A transfer takes effect after its two delay slots. -/
theorem State.commit_transfer {target op : Nat} (hidle : (s.core m).branch = none ∧ (s.core m).rep = none)
    (hop : iOp (slotOf b 3) = op) (htrap : op ≠ 0x3A) (ht : (s.core m).transfer (slotOf b 3) = some target) :
    ((s.commit m b).core m).pc = ((s.core m).pc + 16) % 2 ^ 32 ∧
    ((s.commit m b).core m).branch = some ⟨target, 2, op⟩ := by
  obtain ⟨hpc, hbranch, -⟩ := State.commit_sequencer (s := s) (m := m) (hop ▸ htrap)
  rw [hpc, hbranch, State.afterBundle, Core.sequence_transfer hidle.1 hidle.2 ht, hop]
  exact ⟨Core.pc_setPc, rfl⟩

theorem Core.advance_rep (c : Core) (rs : List Landing) : (c.advance rs).rep = c.rep := by
  obtain ⟨_, _, h⟩ := Core.advance_frame c rs
  rw [h]

/-- REP begins its body, or goes past it with a count of 0. -/
theorem State.commit_repeat (hidle : (s.core m).branch = none ∧ (s.core m).rep = none) (hop : iOp (slotOf b 3) = 0x34) :
    ((s.core m).repCount (slotOf b 3) ≠ 0 → ((s.commit m b).core m).pc = ((s.core m).pc + 16) % 2 ^ 32 ∧
      ((s.commit m b).core m).rep = some ⟨(s.core m).pc + 16, bitsOf (slotOf b 3) 13 4 + 1,
        (s.core m).repCount (slotOf b 3) - 1, 0, false, []⟩) ∧
    ((s.core m).repCount (slotOf b 3) = 0 →
      ((s.commit m b).core m).pc = ((s.core m).pc + 16 * (bitsOf (slotOf b 3) 13 4 + 2)) % 2 ^ 32 ∧
      ((s.commit m b).core m).rep = none) := by
  obtain ⟨hpc, -, hrep⟩ := State.commit_sequencer (s := s) (m := m) (b := b) (by rw [hop]; decide)
  rw [hpc, hrep, State.afterBundle, Core.sequence_repeat hidle.1 hidle.2 hop, opRep]
  refine ⟨fun h => ?_, fun h => ?_⟩
  · rw [if_neg h]
    exact ⟨Core.pc_setPc, rfl⟩
  · rw [if_pos h]
    exact ⟨Core.pc_setPc, (Core.advance_rep _ _).trans hidle.2⟩

/-- A result of slot 3 that is not for the next bundle is on its way. -/
theorem State.commit_seq_due (h : iOp (slotOf b 3) ≠ 0x3A) {l : Landing} (hl : l ∈ seqResults (slotOf b 3) (s.core m))
    (hd : (s.core m).count + 1 < l.due) : l ∈ ((s.commit m b).core m).due :=
  State.mem_commit_due h (State.mem_bundleResults_seq hl) hd

/-! ## Targets (R354, R368, R369) -/

section
variable {c : Core} {w : Nat}

theorem Core.transfer_br (h : iOp w = 0x30) : c.transfer w = some (opBr w c) := by simp only [Core.transfer, h]

theorem Core.transfer_brcc (h : iOp w = 0x31) : c.transfer w = some (opBrcc w c) := by simp only [Core.transfer, h]

theorem Core.transfer_call (h : iOp w = 0x32) : c.transfer w = some (branchTarget c.pc w 22) := by
  simp only [Core.transfer, h]

theorem Core.transfer_jmp (h : iOp w = 0x33) : c.transfer w = some (opJmp w c) := by simp only [Core.transfer, h]

theorem Core.transfer_reti (h : iOp w = 0x38) : c.transfer w = some (opReti c) := by simp only [Core.transfer, h]

theorem Core.transfer_eret (h : iOp w = 0x39) : c.transfer w = some (opEret c) := by simp only [Core.transfer, h]

end

/-! ## FENCE, NAP and TRAP (R340, R356, R369) -/

/-- FENCE holds the later accesses while a posted store is out. -/
theorem State.commit_fence (hop : iOp (slotOf b 3) = 0x36) :
    ((s.commit m b).core m).fenced = !((s.commit m b).core m).stores.isEmpty := by
  rw [State.commit_eq, State.core_of_cores State.showCore_cores, State.seqEffect_fence hop, State.core_modCore]

theorem State.commit_nap (hop : iOp (slotOf b 3) = 0x37) : s.commit m b = ((s.bundleRun m b).napCore m).showCore m := by
  rw [State.commit_eq, State.seqEffect_nap hop]

/-- The fields of the IRQ_ and the MDC_ page that say whether a core naps. -/
theorem State.bundleRun_enabled : (s.bundleRun m b).on R.IRQ_CTRL.EN 0 = s.on R.IRQ_CTRL.EN 0 := by
  rw [State.on, State.on, State.bundleRun_rd (.inr rfl) (by decide) (by decide) (by decide)]

theorem State.napCore_naps (h : s.on R.IRQ_CTRL.EN 0 = false) : (s.napCore m).rd R.MDC_STATUS.STATE m = 2 ∧
    ((s.napCore m).core m).resv = none := by
  unfold State.napCore
  rw [h, Bool.false_and, if_neg (by decide)]
  exact ⟨State.rd_wr_self _ _ _, State.dropReservation_traceNap_resv⟩

/-- NAP with interrupts off stops the core and ends its reservation. -/
theorem State.commit_naps (hop : iOp (slotOf b 3) = 0x37) (hen : s.on R.IRQ_CTRL.EN 0 = false) :
    (s.commit m b).rd R.MDC_STATUS.STATE m = 2 ∧ ((s.commit m b).core m).resv = none := by
  obtain ⟨hstate, hresv⟩ := State.napCore_naps (m := m) ((State.bundleRun_enabled (s := s) (m := m) (b := b)).trans hen)
  rw [State.commit_nap hop, State.core_of_cores State.showCore_cores]
  exact ⟨(State.showCore_rd (by decide) (by decide) (by decide) m).trans hstate, hresv⟩

/-- NAP with an enabled interrupt latched goes on. -/
theorem State.commit_nap_goesOn (hop : iOp (slotOf b 3) = 0x37) (hen : s.on R.IRQ_CTRL.EN 0 = true)
    (hlatch : s.irqLatches.any (fun l => l / 256 == m) = true) :
    (s.commit m b).rd R.MDC_STATUS.STATE m = s.rd R.MDC_STATUS.STATE m := by
  obtain ⟨l, hl, hm⟩ := List.any_eq_true.mp hlatch
  have hpending : (s.bundleRun m b).irqLatches.any (fun l => l / 256 == m) = true :=
    List.any_eq_true.mpr ⟨l, State.bundleRun_latches hl, hm⟩
  have hruns : (s.bundleRun m b).napCore m = s.bundleRun m b := by
    unfold State.napCore
    rw [State.bundleRun_enabled, hen, hpending]
    rfl
  rw [State.commit_nap hop, hruns, State.showCore_rd (by decide) (by decide) (by decide),
    State.bundleRun_rd (.inl rfl) (by decide) (by decide) (by decide)]

/-- A register that no result is for is, after a TRAP's bundle, as the bundle found it. -/
theorem State.bundleRun_reg (hidle : (s.core m).branch = none ∧ (s.core m).rep = none) (hop : iOp (slotOf b 3) = 0x3A) {r : Nat}
    (hr : ∀ l ∈ (s.core m).due ++ s.bundleResults m b, l.reg ≠ r) (hpc : r ≠ 64) :
    ((s.bundleRun m b).core m).reg r = (s.core m).reg r := by
  have hreg : ((s.bundleRun m b).core m).flow.reg r = (s.afterBundle m b).reg r :=
    congrArg (fun c => Core.reg c r) State.bundleRun_flow
  have ht : (s.core m).transfer (slotOf b 3) = none := by simp only [Core.transfer, hop]
  refine hreg.trans ?_
  rw [State.afterBundle, Core.sequence_next hidle.1 hidle.2 ht (by rw [hop]; decide), Core.reg_setPc hpc]
  exact Core.advance_reg (c := (s.core m).flow.issued) hr

theorem State.bundleRun_due : ((s.bundleRun m b).core m).due ⊆ (s.core m).due ++ s.bundleResults m b := by
  have hdue : ((s.bundleRun m b).core m).flow.due = (s.afterBundle m b).due := congrArg Core.due State.bundleRun_flow
  intro l hl
  have hl' : l ∈ (s.afterBundle m b).due := hdue ▸ hl
  rw [State.afterBundle, Core.sequence_due] at hl'
  exact Core.advance_due _ _ hl'

/-- TRAP enters the handler, its bundle complete. -/
theorem State.commit_traps (hidle : (s.core m).branch = none ∧ (s.core m).rep = none) (hop : iOp (slotOf b 3) = 0x3A)
    (hin : (s.core m).inExc = false)
    (hdue : ∀ l ∈ (s.core m).due ++ s.bundleResults m b, l.reg ≠ regESTAT ∧ l.reg ≠ regEVB) :
    HandlerEntered s (s.commit m b) m ⟨10, 0, 0⟩ ((s.core m).pc + 16) 1 (some (bitsOf (slotOf b 3) 0 8)) := by
  have hestat := State.bundleRun_reg hidle hop (fun l hl => (hdue l hl).1) (by decide)
  have hevb := State.bundleRun_reg hidle hop (fun l hl => (hdue l hl).2) (by decide)
  have hout : ((s.bundleRun m b).core m).inExc = false := by
    rw [Core.inExc, hestat]
    exact hin
  have hcommit : s.commit m b = ((s.bundleRun m b).takeException m ⟨10, 0, 0⟩ ((s.core m).pc + 16) 1
      (some (bitsOf (slotOf b 3) 0 8))).showCore m := by
    rw [State.commit_eq, State.seqEffect_trap hop]
  have h := State.takeException_enters (f := ⟨10, 0, 0⟩) hout (fun l hl => hdue l (State.bundleRun_due hl))
    ((s.core m).pc + 16) 1 (some (bitsOf (slotOf b 3) 0 8))
  have hcore := fun t : State => State.core_of_cores (State.showCore_cores (s := t) (m := m)) m
  rw [hcommit]
  exact {
    pc := by rw [hcore, h.pc, hevb]
    elr := by rw [hcore, h.elr]
    estat := by rw [hcore, h.estat, hestat]
    eaddr := by rw [hcore, h.eaddr]
    branch := by rw [hcore, h.branch]
    rep := by rw [hcore, h.rep]
    resv := by rw [hcore, h.resv]
    cause := by rw [State.showCore_rd (by decide) (by decide) (by decide), h.cause]
    shown := by rw [State.showCore_rd (by decide) (by decide) (by decide), h.shown] }

/-! ## The statement -/

theorem State.coreReady_runs (h : s.coreReady m = true) : s.rd R.MDC_STATUS.STATE m = 1 := by
  simp only [State.coreReady, Bool.and_eq_true, beq_iff_eq] at h
  exact h.1.1.1.2

/-- A SYNC that is due changes no field outside the error registers. -/
theorem State.firstSync_rd {g : Fld} (he : errorReg (g.off % 4096) = false) (d : Nat) :
    (s.firstSync m).rd g d = s.rd g d := by
  refine (State.firstSync_keeps (M := 1100920913921) rfl (Keeps.refl _ s)).rd_plain ?_ he d
  cases g.page <;> rfl

/-- Settles O33: each command is the commit of its bundle, which issues with no transfer and no repeat block in progress unless it
is MVC or FENCE; slot 3 then says where the sequencer stands, and NAP and TRAP act on the state that the bundle leaves. -/
theorem sequencerInstructionsIssue : Obligations.SequencerInstructionsIssue := by
  unfold Obligations.SequencerInstructionsIssue
  intro m b s s1 c w hs hc hw hi
  subst hs hc hw
  have hidle : ∀ {op}, iOp (slotOf b 3) = op → 0x30 ≤ op ∧ op ≠ 0x35 ∧ op ≠ 0x36 →
      ((s.firstSync m.val).core m.val).branch = none ∧ ((s.firstSync m.val).core m.val).rep = none :=
    fun hop ⟨h30, h35, h36⟩ => hi.idle (hop ▸ h30) (hop ▸ h35) (hop ▸ h36)
  have hfar : ∀ n, n + 1 < n + 2 ∧ n + 1 < n + 3 := fun n => by omega
  refine ⟨fun hop => ⟨_, congrArg Host.Outcome.next (hi.issueAs hop), ?br⟩,
    fun hop => ⟨_, congrArg Host.Outcome.next (hi.issueAs hop), ?brcc⟩,
    fun hop => ⟨_, congrArg Host.Outcome.next (hi.issueAs hop), ?call⟩,
    fun hop => ⟨_, congrArg Host.Outcome.next (hi.issueAs hop), ?jmp⟩,
    fun hop => ⟨_, congrArg Host.Outcome.next (hi.issueAs hop), ?rep⟩,
    fun hop => ⟨_, congrArg Host.Outcome.next (hi.issueAs hop), ?mvc⟩,
    fun hop => ⟨_, congrArg Host.Outcome.next (hi.issueAs hop), ?fence⟩,
    fun hop => ⟨_, congrArg Host.Outcome.next (hi.issueAs hop), ?nap⟩,
    fun hop => ⟨_, congrArg Host.Outcome.next (hi.issueAs hop), ?reti⟩,
    fun hop => ⟨_, congrArg Host.Outcome.next (hi.issueAs hop), ?eret⟩,
    fun hop hin hdue => ⟨_, congrArg Host.Outcome.next (hi.issueAs hop), ?trap⟩⟩
  case br =>
    exact State.commit_transfer (hidle hop (by decide)) hop (by decide) (Core.transfer_br hop)
  case brcc =>
    exact State.commit_transfer (hidle hop (by decide)) hop (by decide) (Core.transfer_brcc hop)
  case call =>
    obtain ⟨hpc, hbranch⟩ := State.commit_transfer (hidle hop (by decide)) hop (by decide) (Core.transfer_call hop)
    refine ⟨hpc, hbranch, State.commit_seq_due (by rw [hop]; decide) ?_ (hfar _).2⟩
    simp only [seqResults, hop]
    exact List.mem_singleton_self _
  case jmp =>
    exact State.commit_transfer (hidle hop (by decide)) hop (by decide) (Core.transfer_jmp hop)
  case rep => exact State.commit_repeat (hidle hop (by decide)) hop
  case mvc =>
    refine ⟨fun hdir => ?_, fun hdir v hv => ?_⟩
    · refine State.commit_seq_due (by rw [hop]; decide) ?_ (hfar _).1
      simp only [seqResults, hop, opMvc, hdir, if_true]
      exact List.mem_singleton_self _
    · refine State.commit_seq_due (by rw [hop]; decide) ?_ (hfar _).1
      simp only [seqResults, hop, opMvc, hdir, zero_ne_one, if_false, hv]
      exact List.mem_singleton_self _
  case fence => exact State.commit_fence hop
  case nap =>
    have hen : (s.firstSync m.val).on R.IRQ_CTRL.EN 0 = s.on R.IRQ_CTRL.EN 0 := by
      rw [State.on, State.on, State.firstSync_rd (by decide)]
    refine ⟨fun hoff => State.commit_naps hop (hen.trans hoff), fun hon hlatch => ?_⟩
    obtain ⟨l, hl, hm⟩ := List.any_eq_true.mp hlatch
    rw [State.commit_nap_goesOn hop (hen.trans hon)
      (List.any_eq_true.mpr ⟨l, State.firstSync_traceOnly.latches hl, hm⟩), State.firstSync_rd (by decide)]
    exact State.coreReady_runs hi.1
  case reti =>
    exact State.commit_transfer (hidle hop (by decide)) hop (by decide) (Core.transfer_reti hop)
  case eret =>
    exact State.commit_transfer (hidle hop (by decide)) hop (by decide) (Core.transfer_eret hop)
  case trap =>
    have h := State.commit_traps (hidle hop (by decide)) hop hin hdue
    exact ⟨h.pc, h.elr, h.estat, h.branch, h.rep, h.cause, h.shown⟩

end Sys2Proof.Machine

/-! O34: exceptions, interrupts, and the end of a nap (R340, R364, R366, R369 to R373). -/

namespace Sys2Proof.Machine
open Sys2Proof

variable {s t : State} {m n : Nat} {f : CoreFault}

/-! ## A fault of the bundle that is next (R364, R369) -/

/-- The packet of a trace leaves what an exception saves and what it takes its handler from. -/
theorem TraceOnly.saved (h : TraceOnly m s t) : (t.core m).regs = (s.core m).regs ∧ (t.core m).due = (s.core m).due ∧
    (t.core m).openBoundary = (s.core m).openBoundary := by
  have hregs := congrArg Core.regs h.core
  have hdue := congrArg Core.due h.core
  have hopen := congrArg Core.openBoundary h.core
  exact ⟨hregs, hdue, hopen⟩

theorem State.faultRecords_cores : (s.faultRecords m f).cores = s.cores :=
  (State.faultRecords_keeps (M := 720594632429273089) rfl (Keeps.refl _ s)).same .cores rfl

/-- The state in which the exception of a faulting bundle is taken. -/
def State.faulted (s : State) (m : Nat) (f : CoreFault) : State := (s.firstSync m).faultRecords m f

theorem State.faulted_saved : ((s.faulted m f).core m).regs = (s.core m).regs ∧
    ((s.faulted m f).core m).due = (s.core m).due := by
  obtain ⟨hregs, hdue, -⟩ := (State.firstSync_traceOnly (s := s) (m := m)).saved
  rw [State.faulted, State.core_of_cores State.faultRecords_cores]
  exact ⟨hregs, hdue⟩

theorem State.faulted_reg (r : Nat) : ((s.faulted m f).core m).reg r = (s.core m).reg r :=
  congrArg (fun g => SMap.get 0 g r) State.faulted_saved.1

theorem State.faulted_due {P : Landing → Prop} (h : ∀ l ∈ (s.core m).due, P l) : ∀ l ∈ ((s.faulted m f).core m).due, P l := by
  rw [State.faulted_saved.2]
  exact h

theorem State.faulted_inExc : ((s.faulted m f).core m).inExc = (s.core m).inExc := by
  rw [Core.inExc, Core.inExc, State.faulted_reg]

theorem State.takeFault_eq : (s.firstSync m).takeFault m f =
    (s.faulted m f).takeException m f (s.core m).pc (b2n (s.core m).openBoundary) none := by
  obtain ⟨hregs, -, hopen⟩ := (State.firstSync_traceOnly (s := s) (m := m)).saved
  have hpc : ((s.firstSync m).core m).pc = (s.core m).pc := congrArg (fun g => SMap.get 0 g 64) hregs
  rw [← hopen, ← hpc]
  rfl

/-- The entry of an exception, where the bundle that is next faults. -/
theorem doExceptionEntry_faults (hready : s.coreReady m = true) (hirq : s.takesIrq m = false) (hhalt : (s.core m).haltReq = 0)
    (hbreak : s.breakpoint m (s.core m).pc = none) (hfault : s.bundleFault m (s.core m) = some f) :
    doExceptionEntry m s = (s.faulted m f).takeException m f (s.core m).pc (b2n (s.core m).openBoundary) none := by
  unfold doExceptionEntry
  extract_lets s1
  have hs1 : s1 = s := State.breakCheck_none hbreak
  rw [hs1, hready, hirq, State.haltsNow_unrequested hhalt, hfault]
  exact State.takeFault_eq

/-! ## An interrupt (R371, R372) -/

theorem bitOf_setBit (x i : Nat) : bitOf (setBit x i 1) i = 1 := by
  have h := bitsOf_setBits (x := x) (lo := i) (w := 1) (n := i + 1) (v := 1) (by decide) le_rfl
  rw [bitsOf, pow_succ, Nat.mod_mul_right_div_self] at h
  exact (Nat.mod_mod _ 2).symm.trans h

/-- A core that stands at the vector of a source it has taken. -/
def Core.atVector (c : Core) (ret vec : Nat) : Core :=
  ((c.setReg regIRA (ret / 16 * 16)).setEstat 11 1).setPc vec

theorem Core.atVector_regs (c : Core) (ret vec : Nat) : (c.atVector ret vec).pc = vec % 2 ^ 32 ∧
    (c.atVector ret vec).inIrq = true ∧ (c.atVector ret vec).reg regIRA = ret / 16 * 16 := by
  refine ⟨Core.pc_setPc, ?_, ?_⟩
  · rw [Core.inIrq, Core.atVector, Core.reg_setPc (by decide), Core.setEstat, Core.reg_setReg_self, bitOf_setBit]
    rfl
  · rw [Core.atVector, Core.reg_setPc (by decide), Core.setEstat, Core.reg_setReg_ne (by decide), Core.reg_setReg_self]

/-- The state in which source n is taken: the bundles issued before have completed and the source's latch is cleared. -/
def State.unlatched (s : State) (m n : Nat) : State :=
  { (s.firstSync m).drained m with irqLatches := s.irqLatches.filter (fun l => l != m * 256 + n) }

/-- The vector of source n. -/
def State.vector (s : State) (m n : Nat) : Nat := (s.rd (R.IRQ_MVBASE.ADDR m) 0 * 16 + 16 * n) % 2 ^ 32

/-- The interrupt is traced and the reservation has ended. -/
def State.interrupting (s : State) (m n : Nat) : State :=
  ((s.unlatched m n).traceExc m 0x80 n ((s.unlatched m n).core m).pc (s.vector m n)).dropReservation m

theorem State.enterIrq_eq : s.enterIrq m n = ((s.interrupting m n).modCore m
    (fun c => c.atVector ((s.unlatched m n).core m).pc (s.vector m n))).showCore m := rfl

theorem State.enterIrq_core : (s.enterIrq m n).core m =
    ((s.interrupting m n).core m).atVector ((s.unlatched m n).core m).pc (s.vector m n) := by
  rw [State.enterIrq_eq, State.core_of_cores State.showCore_cores, State.core_modCore]

/-- Where no result is on its way to PC, the interrupt returns to the bundle that was next. -/
theorem State.unlatched_pc (h : ∀ l ∈ (s.core m).due, l.reg ≠ 64) : ((s.unlatched m n).core m).pc = (s.core m).pc := by
  obtain ⟨hregs, hdue, -⟩ := (State.firstSync_traceOnly (s := s) (m := m)).saved
  have hdrained : ((s.unlatched m n).core m).pc = ((s.firstSync m).core m).pc :=
    State.drained_reg (s := s.firstSync m) (hdue ▸ h)
  exact hdrained.trans (congrArg (fun g => SMap.get 0 g 64) hregs)

theorem State.unlatched_rd (g : Fld) (d : Nat) : (s.unlatched m n).rd g d = (s.firstSync m).rd g d :=
  State.rd_of_regs (by simp only [State.unlatched, State.drained, State.modCore_regs]) g d

/-- A core that is not traced has no packet that could raise an interrupt. -/
theorem State.enterIrq_latches (h : s.traced m = false) :
    (s.enterIrq m n).irqLatches = s.irqLatches.filter (fun l => l != m * 256 + n) := by
  have hfirst : s.firstSync m = s := by rw [State.firstSync, h]; rfl
  have hstill : (s.unlatched m n).traced m = false := by
    simp only [State.traced, State.on, State.unlatched_rd, hfirst] at h ⊢
    exact h
  have hexc : ∀ ret vec, (s.unlatched m n).traceExc m 0x80 n ret vec = s.unlatched m n := fun ret vec => by
    rw [State.traceExc, hstill]
    rfl
  rw [State.enterIrq_eq, State.interrupting, hexc]
  simp only [State.showCore, State.wr_irqLatches, State.modCore_irqLatches, State.dropReservation, State.unlatched]

/-! ## The end of a nap (R340) -/

theorem State.traceExc_rd {g : Fld} (he : errorReg (g.off % 4096) = false) (kind source ret handler d : Nat) :
    (s.traceExc m kind source ret handler).rd g d = s.rd g d := by
  refine (State.traceExc_keeps (M := 1100920913921) rfl (Keeps.refl _ s)).rd_plain ?_ he d
  cases g.page <;> rfl

theorem State.interrupting_rd {g : Fld} (he : errorReg (g.off % 4096) = false) (d : Nat) :
    (s.interrupting m n).rd g d = s.rd g d := by
  rw [State.interrupting, State.dropReservation_rd, State.traceExc_rd he, State.unlatched_rd, State.firstSync_rd he]

/-- Taking an interrupt, or none, leaves whether the core runs. -/
theorem doInterruptEntry_state : (doInterruptEntry m s).rd R.MDC_STATUS.STATE m = s.rd R.MDC_STATUS.STATE m := by
  unfold doInterruptEntry
  split
  · split
    · rw [State.enterIrq_eq, State.showCore_rd (by decide) (by decide) (by decide), State.modCore_rd,
        State.interrupting_rd (by decide)]
    · rfl
  · rfl

theorem State.traceResume_state : (s.traceResume m).rd R.MDC_STATUS.STATE m = s.rd R.MDC_STATUS.STATE m :=
  (State.traceResume_keeps (M := 1100920913921) rfl (Keeps.refl _ s)).rd_plain rfl rfl m

/-- Settles O34: a fault of the next bundle enters the handler or, within one, resets the core; an interrupt sets the vector behind
the bundles that complete; a nap ends in Run, whether or not an interrupt is then taken. -/
theorem coresTakeExceptions : Obligations.CoresTakeExceptions := by
  unfold Obligations.CoresTakeExceptions
  refine ⟨fun m f s hready hirq hhalt hbreak hfault => ?_, fun m n s htakes hlatched => ?_, fun m s hnap hwake => ?_⟩
  · have hexec : exec (.exceptionEntry m) s = .next _ :=
      congrArg Host.Outcome.next (doExceptionEntry_faults hready hirq hhalt hbreak hfault)
    refine ⟨fun hin hdue => ⟨_, hexec, ?_⟩, fun hin hdue => ⟨_, hexec, ?_⟩⟩
    · have h := State.takeException_enters (s := s.faulted m.val f) (f := f) (State.faulted_inExc.trans hin) (State.faulted_due hdue)
        (s.core m.val).pc (b2n (s.core m.val).openBoundary) none
      exact ⟨h.pc.trans (by rw [State.faulted_reg]), h.elr, h.estat.trans (by rw [State.faulted_reg]), h.eaddr, h.branch, h.rep,
        h.resv, h.shown⟩
    · exact State.takeException_doubles (State.faulted_inExc.trans hin) (State.faulted_due hdue) _ _ _
  · have hentry : doInterruptEntry m.val s = s.enterIrq m.val n := by
      rw [doInterruptEntry, htakes, hlatched]
      rfl
    obtain ⟨hpc, hin, hira⟩ := ((s.interrupting m.val n).core m.val).atVector_regs ((s.unlatched m.val n).core m.val).pc
      (s.vector m.val n)
    refine ⟨_, congrArg Host.Outcome.next hentry, ?_, ?_, fun hdue => ?_, ?_, State.enterIrq_latches⟩
    · rw [State.enterIrq_core, hpc, State.vector, Nat.mod_mod]
    · rw [State.enterIrq_core, hin]
    · rw [State.enterIrq_core, hira, State.unlatched_pc hdue]
    · rw [State.enterIrq_core, State.interrupting, State.dropReservation_core]
      rfl
  · refine ⟨_, congrArg Host.Outcome.next (if_pos ⟨hnap, hwake⟩), ?_⟩
    · rw [doInterruptEntry_state, State.traceResume_state, State.rd_wr_self]
      rfl

end Sys2Proof.Machine

/-! O35: the responses to a core's far accesses, and the NoC's accesses to its scratchpad (R320, R324, R356). -/

namespace Sys2Proof.Machine
open Sys2Proof

variable {s t v : State} {m : Nat} {b d : W128} {x : BankAcc} {rest : List BankAcc}

/-! ## A bundle that has waited is complete (R356) -/

theorem State.afterBundle_wait : (s.afterBundle m b).wait = [] := by
  obtain ⟨g, d, hadvance⟩ := (s.core m).flow.issued.advance_frame (s.bundleResults m b)
  obtain ⟨g', br, rp, j, hsequence, -⟩ := ((s.core m).flow.issued.advance (s.bundleResults m b)).sequence_frame (s.core m) b
  rw [State.afterBundle, hsequence, hadvance]
  rfl

/-- A bundle that takes effect waits for no far response, and a TRAP that ends it for none either. -/
theorem State.commit_wait : ((s.commit m b).core m).wait = [] := by
  by_cases htrap : iOp (slotOf b 3) = 0x3A
  · rw [State.commit_eq, State.core_of_cores State.showCore_cores, State.seqEffect_trap htrap]
    exact State.takeException_wait _ _ _
  · have hwait : ((s.commit m b).core m).flow.wait = [] := by rw [State.commit_flow htrap, State.afterBundle_wait]
    exact hwait

theorem State.bundleFault_of_noFetch {c : Core} (h : s.fetchBundle m c = none) : s.bundleFault m c = some ⟨2, c.pc, 0⟩ := by
  rw [State.bundleFault, h]

/-- While a response is missing, the bundle waits on. -/
theorem State.completeFar_waits (h : ∃ r ∈ (s.core m).wait, r.resp = none) : s.completeFar m = s := by
  obtain ⟨r, hr, hnone⟩ := h
  refine if_pos (Bool.or_eq_true_iff.mpr (.inr (List.any_eq_true.mpr ⟨r, hr, ?_⟩)))
  rw [hnone]
  rfl

/-- With every response there, the bundle ends: it takes effect or faults. -/
theorem State.completeFar_ends (h : ∀ r ∈ (s.core m).wait, r.resp.isSome = true) :
    ((s.completeFar m).core m).wait = [] := by
  unfold State.completeFar
  extract_lets c
  split
  next hwaits =>
    have hany : c.wait.any (fun r => r.resp.isNone) = false := by
      refine List.any_eq_false.mpr fun r hr => ?_
      rw [Option.isNone_iff_eq_none]
      exact Option.isSome_iff_ne_none.mp (h r hr)
    rw [hany, Bool.or_false] at hwaits
    exact List.isEmpty_iff.mp hwaits
  next =>
    split
    · exact State.takeException_wait _ _ _
    · exact State.commit_wait
    · next hfault hfetch => simp only [State.bundleFault_of_noFetch hfetch, reduceCtorEq] at hfault

/-! ## Responses (R320, R356) -/

theorem State.quayTake_cores (node status addr : Nat) : (s.quayTake node status addr).cores = s.cores :=
  (State.quayTake_keeps (M := 2305844109060866049) rfl (Keeps.refl _ s)).same .cores rfl

/-- The response to a far load stands at its request. -/
def FarReq.answered (r : FarReq) (tag status : Nat) (w : W128) : FarReq :=
  if r.tag = tag then { r with resp := some (status, w) } else r

/-- A response to a far load is in (R356). -/
def State.farNoted (s : State) (m tag status addr : Nat) (w : W128) : State :=
  (s.quayTake (12 + m) status addr).modCore m (fun c => { c with wait := c.wait.map (fun r => r.answered tag status w) })

theorem State.farNoted_wait (tag status addr : Nat) (w : W128) : ((s.farNoted m tag status addr w).core m).wait =
    (s.core m).wait.map (fun r => r.answered tag status w) := by
  rw [State.farNoted, State.core_modCore, State.core_of_cores (State.quayTake_cores _ _ _)]

theorem FarReq.answered_isSome {r : FarReq} {tag : Nat} (h : r.tag = tag ∨ r.resp.isSome = true) (status : Nat) (w : W128) :
    (r.answered tag status w).resp.isSome = true := by
  unfold FarReq.answered
  split
  · rfl
  · next hother => exact h.resolve_left hother

theorem doFarLoadResponse_answers {tag : Nat} {r : FarReq}
    (h : (s.core m).wait.find? (fun r => r.tag == tag && r.resp.isNone) = some r) (status : Nat) (w : W128) :
    doFarLoadResponse m tag status w s = (s.farNoted m tag status r.addr w).completeFar m := by
  rw [doFarLoadResponse, h]
  rfl

theorem State.storeFailed_raises (addr status : Nat) : (s.storeFailed m addr status).rd (intBit .mdc 5) m = 1 := by
  unfold State.storeFailed
  split
  exact State.raise_self _ _ _

/-- The answer to a posted store is in; a failure is recorded (R320). -/
theorem State.storeAnswered_eq {tag : Nat} {r : Nat × Nat}
    (h : (s.core m).stores.find? (fun r => r.1 == tag) = some r) (status : Nat) :
    ((s.storeAnswered m tag status).core m).stores = (s.core m).stores.filter (fun x => x.1 != tag) ∧
    (status ≠ 0 → (s.storeAnswered m tag status).rd (intBit .mdc 5) m = 1) := by
  have hfailed : ∀ t : State, (t.storeFailed m r.2 status).cores = t.cores := fun t =>
    (State.storeFailed_keeps (M := 1099847172097) rfl (Keeps.refl _ t)).same .cores rfl
  rw [State.storeAnswered, h]
  refine ⟨?_, fun hstatus => ?_⟩
  · dsimp only
    rw [State.core_of_cores State.showCore_cores]
    split
    · rw [State.core_modCore, State.core_of_cores (State.quayTake_cores _ _ _)]
    · rw [State.core_of_cores (hfailed _), State.core_modCore, State.core_of_cores (State.quayTake_cores _ _ _)]
  · dsimp only
    rw [State.showCore_rd (by decide) (by decide) (by decide), if_neg hstatus]
    exact State.storeFailed_raises _ _

/-! ## The NoC at the scratchpad (R324) -/

/-- The NoC's access has its turn at the bank, a forced one after a wait. -/
def State.bankTurn (s : State) (m : Nat) (forced : Bool) (u : List Upset) : State :=
  if forced then (s.upset u).count R.MDC_BANK_WAIT.COUNT m 1 else s.upset u

/-- What the NoC's access finds at its turn is as the upsets left it. -/
theorem State.bankTurn_frame (forced : Bool) (u : List Upset) : (s.bankTurn m forced u).scratch = s.scratch ∧
    (s.bankTurn m forced u).outbox = s.outbox ∧
    (∀ i, (s.bankTurn m forced u).ecc clsScratch i = (s.upset u).ecc clsScratch i) ∧
    (∀ node, (s.bankTurn m forced u).quayIsDead node = s.quayIsDead node) := by
  obtain ⟨health, canary, hupset⟩ := State.upset_eq (s := s) u
  unfold State.bankTurn
  rw [hupset]
  split
  · refine ⟨rfl, rfl, fun _ => rfl, fun node => ?_⟩
    rw [State.quayIsDead, State.quayIsDead, State.on, State.on, State.count, State.rd_wr_apart (by decide)]
    rfl
  · exact ⟨rfl, rfl, fun _ => rfl, fun _ => rfl⟩

/-- The access has left the queue, and its data are on the way to its requester. -/
def State.bankAnswered (v : State) (m : Nat) (x : BankAcc) (rest : List BankAcc) (data : List W128) : State :=
  ((v.modCore m (fun c => { c with queue := rest })).quayAnswer (12 + m) x.who.node x.tag 0 (x.got ++ data)).showCore m

theorem State.bankAnswered_eq (h : v.quayIsDead (12 + m) = false) (data : List W128) :
    ((v.bankAnswered m x rest data).core m).queue = rest ∧
    (v.bankAnswered m x rest data).outbox = v.outbox ++ [.nocResp x.who.node x.tag 0 (x.got ++ data)] ∧
    (v.bankAnswered m x rest data).scratch = v.scratch := by
  have hdead : (v.modCore m (fun c => { c with queue := rest })).quayIsDead (12 + m) = false := h
  have hanswer : v.bankAnswered m x rest data = ((v.modCore m (fun c => { c with queue := rest })).emit
      (.nocResp x.who.node x.tag 0 (x.got ++ data))).showCore m := by
    rw [State.bankAnswered, State.quayAnswer, hdead]
    rfl
  rw [hanswer, State.core_of_cores State.showCore_cores, State.core_of_cores (State.emit_cores _), State.core_modCore]
  exact ⟨rfl, rfl, rfl⟩

/-- The last word of an access without an error, performed with status 0. -/
theorem doScratchpadNocAccess_answers {forced : Bool} {u : List Upset} {data : List W128}
    (hq : (s.core m).queue = x :: rest) (hmore : x.more = 0) (hbad : x.bad = 0)
    (hperform : (s.bankTurn m forced u).scratchPerform m x = (0, data, v)) :
    doScratchpadNocAccess m forced u s = v.bankAnswered m x rest data := by
  have hqueue : ((s.upset u).core m).queue = x :: rest := by
    obtain ⟨health, canary, hupset⟩ := State.upset_eq (s := s) u
    rw [hupset]
    exact hq
  have hturn : (if forced then (s.upset u).count R.MDC_BANK_WAIT.COUNT m 1 else s.upset u) = s.bankTurn m forced u := rfl
  simp only [doScratchpadNocAccess, hqueue, hturn, hperform, hmore, hbad, true_or, if_true]
  rfl

/-- A read takes the word, a write merges its bytes into it; both want the word's seal to be good. -/
theorem State.scratchPerform_read (hop : x.op = 0) (he : s.ecc clsScratch (scratchKey m (x.word * 16)) = 0) :
    s.scratchPerform m x = (0, [SMap.get 0 s.scratch (scratchKey m (x.word * 16))], s) := by
  simp only [State.scratchPerform, hop, he, if_true]

/-- The scratchpad as a write of the NoC leaves it. -/
def State.nocWritten (s : State) (m : Nat) (x : BankAcc) : State :=
  (s.scratchPut (scratchKey m (x.word * 16)) (mergeBytes (SMap.get 0 s.scratch (scratchKey m (x.word * 16))) x.data
    x.be 16)).cancelGranule m (x.word * 16 / 16)

theorem State.scratchPerform_write (hop : x.op = 1) (he : s.ecc clsScratch (scratchKey m (x.word * 16)) = 0) :
    s.scratchPerform m x = (0, [], s.nocWritten m x) := by
  simp only [State.scratchPerform, hop, State.writeScratch_stores he, one_ne_zero, if_true, if_false]
  rfl

theorem State.cancelGranule_frame (g : Nat) : (s.cancelGranule m g).outbox = s.outbox ∧
    ∀ node, (s.cancelGranule m g).quayIsDead node = s.quayIsDead node := by
  unfold State.cancelGranule
  split
  · exact ⟨rfl, fun _ => rfl⟩
  · exact ⟨rfl, fun _ => rfl⟩

/-- Settles O35: a response is noted at its request, and the last one ends the bundle; the answer to a store takes it off the
list; the NoC's access answers with what its turn at the bank read or wrote. -/
theorem coreTransfersComplete : Obligations.CoreTransfersComplete := by
  unfold Obligations.CoreTransfersComplete
  refine ⟨fun m tag status w r s hfind => ?_, fun m tag status r s hfind => ?_,
    fun m forced u x rest s hq hmore hbad hecc hdead => ?_⟩
  · have hexec : exec (.farLoadResponse m tag status w) s = .next _ :=
      congrArg Host.Outcome.next (doFarLoadResponse_answers hfind status.val w)
    have hwait := State.farNoted_wait (s := s) (m := m.val) tag.val status.val r.addr w
    refine ⟨fun hmissing => ⟨_, hexec, ?_⟩, fun hall => ⟨_, hexec, State.completeFar_ends ?_⟩⟩
    · obtain ⟨y, hy, hother, hnone⟩ := hmissing
      have hkept : y.answered tag.val status.val w = y := if_neg hother
      rw [State.completeFar_waits ⟨y, ?_, hnone⟩, hwait]
      · rfl
      · rw [hwait]
        exact List.mem_map.mpr ⟨y, hy, hkept⟩
    · rw [hwait]
      exact List.forall_mem_map.mpr fun y hy => FarReq.answered_isSome (hall y hy) _ _
  · exact ⟨_, rfl, State.storeAnswered_eq hfind status.val⟩
  · obtain ⟨hscratch, houtbox, hseals, hquay⟩ := State.bankTurn_frame (s := s) (m := m.val) forced u
    have hseal := (hseals _).trans hecc
    refine ⟨fun hop => ?_, fun hop => ?_⟩
    · have hperform := State.scratchPerform_read hop hseal
      obtain ⟨hqueue, hsent, hkept⟩ := State.bankAnswered_eq (x := x) (rest := rest) ((hquay _).trans hdead)
        [SMap.get 0 (s.bankTurn m.val forced u).scratch (scratchKey m.val (x.word * 16))]
      rw [houtbox, hscratch] at hsent
      refine ⟨_, congrArg Host.Outcome.next (doScratchpadNocAccess_answers hq hmore hbad hperform), hqueue, ?_,
        hkept.trans hscratch⟩
      rw [hscratch]
      exact hsent
    · have hperform := State.scratchPerform_write hop hseal
      obtain ⟨hsame, halive⟩ := State.cancelGranule_frame (m := m.val) (s := (s.bankTurn m.val forced u).scratchPut
        (scratchKey m.val (x.word * 16)) (mergeBytes (SMap.get 0 (s.bankTurn m.val forced u).scratch
          (scratchKey m.val (x.word * 16))) x.data x.be 16)) (x.word * 16 / 16)
      obtain ⟨hqueue, hsent, hkept⟩ := State.bankAnswered_eq (v := (s.bankTurn m.val forced u).nocWritten m.val x) (x := x)
        (rest := rest) ((halive _).trans ((hquay _).trans hdead)) []
      have hword : ((s.bankTurn m.val forced u).nocWritten m.val x).scratch =
          SMap.set 0 s.scratch (scratchKey m.val (x.word * 16))
            (mergeBytes (SMap.get 0 s.scratch (scratchKey m.val (x.word * 16))) x.data x.be 16) := by
        rw [State.nocWritten, State.cancelGranule_scratch, State.scratchPut_scratch, hscratch]
      rw [hword] at hkept
      refine ⟨_, congrArg Host.Outcome.next (doScratchpadNocAccess_answers hq hmore hbad hperform), hqueue, ?_, ?_, ?_⟩
      · rw [hkept]
        exact SMap.get_set_self _ _ _ _
      · rw [hkept]
        exact fun j hj => SMap.get_set_other hj
      · rw [hsent, List.append_nil]
        exact congrArg (· ++ _) (hsame.trans houtbox)

end Sys2Proof.Machine

/-! A RESET field that holds neither 0 nor 1 (R341, R343): the statement on the reset of a core and its watchdog. -/

namespace Sys2Proof.Machine
open Sys2Proof

/-- The watchdog of core 0 counts, and the RESET field of MDC_CTRL holds 2: one bit wide, it could hold 0 or 1 alone, but a state
is any register store. -/
def resetHoldsTwo : State :=
  let watched := State.reset.wr R.MDC_WDT_CTRL.EN 0 1
  { watched with regs := SMap.put watched.regs (R.MDC_CTRL.RESET.key 0) 2 }

/-- A field is on where it holds 1, so the core is not in reset; the warning leaves the 2 where it stands. -/
theorem resetHoldsTwo_warned : resetHoldsTwo.on R.MDC_CTRL.RESET 0 = false ∧ (resetHoldsTwo.core 0).warned = false ∧
    (doWdtExpiry 0 resetHoldsTwo).rd R.MDC_CTRL.RESET 0 = 2 := by decide +kernel

/-- Refutes O36: its clause on the first expiry concludes that RESET reads 0, from no more than that RESET does not read 1. The
warning does not write RESET, which stays 2 in a state whose register store holds 2 there. -/
theorem not_coresResetAndWatch : ¬ Obligations.CoresResetAndWatch := by
  intro h
  unfold Obligations.CoresResetAndWatch at h
  obtain ⟨-, -, -, hexpiry⟩ := h
  obtain ⟨hreset, hwarned, hstays⟩ := resetHoldsTwo_warned
  have hcounts : resetHoldsTwo.on R.MDC_WDT_CTRL.EN 0 = true := by decide +kernel
  have hruns : resetHoldsTwo.rd R.MDC_STATUS.STATE 0 ≠ 3 := by decide +kernel
  obtain ⟨hfirst, -⟩ := hexpiry 0 resetHoldsTwo hcounts hreset hruns
  obtain ⟨t, ht, -, -, -, hzero⟩ := hfirst hwarned
  have hend : exec (.wdtExpiry 0) resetHoldsTwo = .next (doWdtExpiry 0 resetHoldsTwo) := rfl
  rw [hend] at ht
  rw [← Host.Outcome.next.inj ht] at hzero
  exact absurd (hstays.symm.trans hzero) (by decide)

end Sys2Proof.Machine

/-! NOP and the vector instructions (R346, R353, R354, R357): the statement. -/

namespace Sys2Proof.Machine
open Sys2Proof

variable {s : State} {m k op v : Nat} {b : W128}

/-- RD names one of the 32 D registers, which the sequencer leaves as the results have it (R350). -/
theorem regD_iRD_flows (w : Nat) : regD (iRD w) ≠ 64 ∧ regD (iRD w) ≠ regESTAT :=
  regD_flows (Nat.mod_lt _ (by decide))

theorem State.afterBundle_count : (s.afterBundle m b).count = (s.core m).count + 1 := by
  obtain ⟨_, _, _, _, hseq, _⟩ := Core.sequence_frame
    ((s.core m).flow.issued.advance (s.bundleResults m b)) (s.core m) b
  obtain ⟨_, _, hadv⟩ := Core.advance_frame (s.core m).flow.issued (s.bundleResults m b)
  rw [State.afterBundle, hseq, hadv]
  rfl

/-- Each bundle that issues without a TRAP counts as one (R346). -/
theorem State.commit_count (h3 : iOp (slotOf b 3) ≠ 0x3A) : ((s.commit m b).core m).count = (s.core m).count + 1 :=
  (congrArg Core.count (State.commit_flow h3)).trans State.afterBundle_count

/-- A bundle whose slot 0 or 1 leaves a value for RD, and no other result for that register, lands it for the next bundle. -/
theorem State.commit_toD (h3 : iOp (slotOf b 3) ≠ 0x3A) (hk : k < 2) (hsole : s.sole m b (regD (iRD (slotOf b k))))
    (hres : arithResults (slotOf b k) (s.core m) = (s.core m).toD (slotOf b k) v) :
    ((s.commit m b).core m).reg (regD (iRD (slotOf b k))) = v := by
  obtain ⟨hpc, hstat⟩ := regD_iRD_flows (slotOf b k)
  refine State.commit_reg h3 hsole (State.mem_bundleResults_arith hk ?_) hpc hstat
  rw [hres]
  exact List.mem_singleton_self _

/-- The command of a vector instruction is the issue of its bundle, after which RD holds the instruction's value (R357). -/
theorem State.issues.vector (hi : s.issues m b) (h3 : iOp (slotOf b 3) ≠ 0x3A) (hk : k < 2)
    (hsole : (s.firstSync m).sole m b (regD (iRD (slotOf b k)))) (hop : iOp (slotOf b k) = op)
    (hres : arithResults (slotOf b k) ((s.firstSync m).core m) = ((s.firstSync m).core m).toD (slotOf b k) v) :
    ∃ t, (Host.Outcome.next (s.issueAs m k op) : Host.Outcome State Fault Refusal) = .next t ∧
      (t.core m).reg (regD (iRD (slotOf b k))) = v :=
  ⟨_, congrArg Host.Outcome.next (hi.issueAs hop), State.commit_toD h3 hk hsole hres⟩

/-- Settles O30: each command is the commit of its bundle, which counts as one issued bundle and lands the value of a vector
instruction, the sole result for RD, for the next bundle. -/
theorem vectorInstructionsIssue : Obligations.VectorInstructionsIssue := by
  unfold Obligations.VectorInstructionsIssue
  intro m k b s s1 c w hs hc hw hi h3
  subst hs hc hw
  refine ⟨fun hop => ⟨_, congrArg Host.Outcome.next (hi.issueAs hop), State.commit_count h3⟩, fun hk hsole => ?vectors⟩
  case vectors => exact
   ⟨fun hop => hi.vector h3 hk hsole hop (by simp only [arithResults, hop, opVadd]),
    fun hop => hi.vector h3 hk hsole hop (by simp only [arithResults, hop, opVsub]),
    fun hop => hi.vector h3 hk hsole hop (by simp only [arithResults, hop, opVadds]),
    fun hop => hi.vector h3 hk hsole hop (by simp only [arithResults, hop, opVsubs]),
    fun hop => hi.vector h3 hk hsole hop (by simp only [arithResults, hop, opVand]),
    fun hop => hi.vector h3 hk hsole hop (by simp only [arithResults, hop, opVor]),
    fun hop => hi.vector h3 hk hsole hop (by simp only [arithResults, hop, opVxor]),
    fun hop => hi.vector h3 hk hsole hop (by simp only [arithResults, hop, opVshl]),
    fun hop => hi.vector h3 hk hsole hop (by simp only [arithResults, hop, opVshra]),
    fun hop => hi.vector h3 hk hsole hop (by simp only [arithResults, hop, opVshrl]),
    fun hop => hi.vector h3 hk hsole hop (by simp only [arithResults, hop, opVcmp]),
    fun hop => hi.vector h3 hk hsole hop (by simp only [arithResults, hop, opVmin]),
    fun hop => hi.vector h3 hk hsole hop (by simp only [arithResults, hop, opVmax]),
    fun hop => hi.vector h3 hk hsole hop (by simp only [arithResults, hop, opVbcast]),
    fun hop => hi.vector h3 hk hsole hop (by simp only [arithResults, hop, opMovi])⟩

end Sys2Proof.Machine

/-! What every command shares: it answers a next state (R400), it changes only the kinds of state that are named for it, and the
queue is served from its front. -/

namespace Sys2Proof.Machine
open Sys2Proof

/-! ## The queue -/

/-- Settles O1: by the equation of `step` for each form of the queue. -/
theorem frontOfQueueRuns : Obligations.FrontOfQueueRuns := by
  unfold Obligations.FrontOfQueueRuns
  refine ⟨fun c rest s hq => ?front, fun c s => rfl, fun s hq => ?tick⟩
  case front => simp only [step, hq]
  case tick => simp only [step, hq]

/-- A command leaves the queue it is given, and a tick leaves the empty one, so a step removes the front. -/
theorem pending_of_stepsTo {s t : State} (h : StepsTo s t) : t.pending = s.pending.tail := by
  unfold StepsTo step at h
  split at h
  · next hq =>
    obtain rfl := Host.Outcome.next.inj h
    rw [(State.tick_keeps (M := 4234422693941814277) rfl (Keeps.refl _ s)).pending, hq]
    rfl
  · next c rest hq =>
    rw [(exec_keeps (M := 4611686018427387903) rfl (Keeps.refl _ { s with pending := rest }) t h).pending, hq]
    rfl

/-- Settles O59: the rest of a queue of well-formed commands is one. -/
theorem queueIsServedInOrder : Obligations.QueueIsServedInOrder := by
  unfold Obligations.QueueIsServedInOrder
  refine ⟨fun s t => pending_of_stepsTo, fun s t hok hstep c hc => hok c ?_⟩
  rw [pending_of_stepsTo hstep] at hc
  exact List.mem_of_mem_tail hc

/-! ## Every command completes (R400) -/

/-- Settles O4: the arm of every command is a next state, but for that of NOC_REQUEST, which stops where a block performs a
reserved OP. -/
theorem commandsAlwaysComplete : Obligations.CommandsAlwaysComplete := by
  unfold Obligations.CommandsAlwaysComplete
  intro c s hop
  cases c with
  | nocRequest k =>
    have hgo : ¬(4 ≤ k.op.val ∧ s.performed k = true) := fun ⟨h4, hp⟩ =>
      Bool.noConfusion ((hop k rfl h4).symm.trans hp)
    exact ⟨_, if_neg hgo⟩
  | _ => exact ⟨_, rfl⟩

/-! ## The frame of every command -/

/-- The set of the kinds of a list, as `Keeps` takes it. -/
def kindMask (l : List Kind) : Nat := l.foldr (fun k m => 2 ^ k.bit ||| m) 0

theorem Kind.mem_all (k : Kind) : k ∈ Kind.all := by
  cases k with
  | regs p => cases p <;> decide
  | _ => decide

/-- Two kinds have two bits. -/
theorem Kind.bit_injective : Function.Injective Kind.bit := by
  have hall : ∀ a ∈ Kind.all, ∀ b ∈ Kind.all, a.bit = b.bit → a = b := by decide +kernel
  exact fun a b => hall a a.mem_all b b.mem_all

theorem testBit_kindMask {k : Kind} {l : List Kind} (h : k ∉ l) : (kindMask l).testBit k.bit = false := by
  induction l with
  | nil => exact Nat.zero_testBit _
  | cons x xs ih =>
    obtain ⟨hx, hxs⟩ := not_or.mp (mt List.mem_cons.mpr h)
    have hbit : x.bit ≠ k.bit := fun e => hx (Kind.bit_injective e).symm
    rw [kindMask, List.foldr_cons, Nat.testBit_or, Nat.testBit_two_pow_of_ne hbit, Bool.false_or]
    exact ih hxs

/-- The set that an operation's lemma names, where it is that of a list. -/
theorem and_kindMask {l : List Kind} {W : Nat} (h : kindMask l = W) : W &&& kindMask l = W := by
  rw [h, Nat.and_self]

/-- Each command keeps every kind of state that is not named for it, by the lemma on its own operation. -/
theorem exec_keeps_untouched (c : Instr) (s : State) : KeepsO (kindMask (touches c)) s (exec c s) := by
  have hs := Keeps.refl (kindMask (touches c)) s
  cases c with
  | registerWrite => exact execRegisterWrite_keeps (and_kindMask rfl) hs
  | selectWrite => exact execSelectWrite_keeps (and_kindMask rfl) hs
  | wideWordStage => exact execWideWordStage_keeps (and_kindMask rfl) hs
  | wideWordApply => exact execWideWordApply_keeps (and_kindMask rfl) hs
  | wideWordCapture => exact execWideWordCapture_keeps (and_kindMask rfl) hs
  | pairLoRead => exact execPairLoRead_keeps (and_kindMask rfl) hs
  | clearingRead => exact execClearingRead_keeps (and_kindMask rfl) hs
  | nocRequest => exact execNocRequest_keeps (and_kindMask rfl) hs
  | nocResponse => exact execNocResponse_keeps (and_kindMask rfl) hs
  | quayDead => exact execQuayDead_keeps (and_kindMask rfl) hs
  | revive => exact execRevive_keeps (and_kindMask rfl) hs
  | step => exact execStep_keeps (and_kindMask rfl) hs
  | cycleRelease => exact execCycleRelease_keeps (and_kindMask rfl) hs
  | timerInstant => exact execTimerInstant_keeps (and_kindMask rfl) hs
  | releaseLineEdge => exact execReleaseLineEdge_keeps (and_kindMask rfl) hs
  | cycleBoundary => exact execCycleBoundary_keeps (and_kindMask rfl) hs
  | farTransferComplete => exact execFarTransferComplete_keeps (and_kindMask rfl) hs
  | loadBegin => exact execLoadBegin_keeps (and_kindMask rfl) hs
  | loadEnd => exact execLoadEnd_keeps (and_kindMask rfl) hs
  | start => exact execStart_keeps (and_kindMask rfl) hs
  | stop => exact execStop_keeps (and_kindMask rfl) hs
  | single => exact execSingle_keeps (and_kindMask rfl) hs
  | resume => exact execResume_keeps (and_kindMask rfl) hs
  | unload => exact execUnload_keeps (and_kindMask rfl) hs
  | bunchesWrite => exact execBunchesWrite_keeps (and_kindMask rfl) hs
  | exchWrite => exact execExchWrite_keeps (and_kindMask rfl) hs
  | isolateWrite => exact execIsolateWrite_keeps (and_kindMask rfl) hs
  | bunchUngateDone => exact execBunchUngateDone_keeps (and_kindMask rfl) hs
  | instructionWordWrite => exact execInstructionWordWrite_keeps (and_kindMask rfl) hs
  | berryRemapWrite => exact execBerryRemapWrite_keeps (and_kindMask rfl) hs
  | bunchRemapWrite => exact execBunchRemapWrite_keeps (and_kindMask rfl) hs
  | spareFailure => exact execSpareFailure_keeps (and_kindMask rfl) hs
  | bankNocAccess => exact execBankNocAccess_keeps (and_kindMask rfl) hs
  | eccWriteback => exact execEccWriteback_keeps (and_kindMask rfl) hs
  | berthWrite => exact execBerthWrite_keeps (and_kindMask rfl) hs
  | handoverComplete => exact execHandoverComplete_keeps (and_kindMask rfl) hs
  | testerOperation => exact execTesterOperation_keeps (and_kindMask rfl) hs
  | repairEntryWrite => exact execRepairEntryWrite_keeps (and_kindMask rfl) hs
  | journalWrite => exact execJournalWrite_keeps (and_kindMask rfl) hs
  | journalRestore => exact execJournalRestore_keeps (and_kindMask rfl) hs
  | restoreDone => exact execRestoreDone_keeps (and_kindMask rfl) hs
  | isWriteback => exact execIsWriteback_keeps (and_kindMask rfl) hs
  | isScrubRead => exact execIsScrubRead_keeps (and_kindMask rfl) hs
  | refetchComplete => exact execRefetchComplete_keeps (and_kindMask rfl) hs
  | berryRemapDone => exact execBerryRemapDone_keeps (and_kindMask rfl) hs
  | ssScrubRead => exact execSsScrubRead_keeps (and_kindMask rfl) hs
  | join => exact execJoin_keeps (and_kindMask rfl) hs
  | rejoinPhaseEnd => exact execRejoinPhaseEnd_keeps (and_kindMask rfl) hs
  | check => exact execCheck_keeps (and_kindMask rfl) hs
  | vddCoreWarning => exact execVddCoreWarning_keeps (and_kindMask rfl) hs
  | vddCoreRecovery => exact execVddCoreRecovery_keeps (and_kindMask rfl) hs
  | dipWindowExpiry => exact execDipWindowExpiry_keeps (and_kindMask rfl) hs
  | retentionCheckDone => exact execRetentionCheckDone_keeps (and_kindMask rfl) hs
  | logbookWrite => exact execLogbookWrite_keeps (and_kindMask rfl) hs
  | logbookScanDone => exact execLogbookScanDone_keeps (and_kindMask rfl) hs
  | logUserCmd => exact execLogUserCmd_keeps (and_kindMask rfl) hs
  | portEnable => exact execPortEnable_keeps (and_kindMask rfl) hs
  | portDisable => exact execPortDisable_keeps (and_kindMask rfl) hs
  | bringupStageDone => exact execBringupStageDone_keeps (and_kindMask rfl) hs
  | bringupTimeout => exact execBringupTimeout_keeps (and_kindMask rfl) hs
  | train => exact execTrain_keeps (and_kindMask rfl) hs
  | laneMark => exact execLaneMark_keeps (and_kindMask rfl) hs
  | blockLockLoss => exact execBlockLockLoss_keeps (and_kindMask rfl) hs
  | retrainDone => exact execRetrainDone_keeps (and_kindMask rfl) hs
  | retrainTimeout => exact execRetrainTimeout_keeps (and_kindMask rfl) hs
  | lanePowerRequest => exact execLanePowerRequest_keeps (and_kindMask rfl) hs
  | quiet => exact execQuiet_keeps (and_kindMask rfl) hs
  | cold => exact execCold_keeps (and_kindMask rfl) hs
  | wakeBurst => exact execWakeBurst_keeps (and_kindMask rfl) hs
  | cascadeFrameSend => exact execCascadeFrameSend_keeps (and_kindMask rfl) hs
  | cascadeFrameReceive => exact execCascadeFrameReceive_keeps (and_kindMask rfl) hs
  | linkStatus => exact execLinkStatus_keeps (and_kindMask rfl) hs
  | nak => exact execNak_keeps (and_kindMask rfl) hs
  | replay n seq => exact execReplay_keeps (a1 := seq) (and_kindMask rfl) hs
  | orderArrival => exact execOrderArrival_keeps (and_kindMask rfl) hs
  | startOrder => exact execStartOrder_keeps (and_kindMask rfl) hs
  | releaseOrder => exact execReleaseOrder_keeps (and_kindMask rfl) hs
  | resumeOrder => exact execResumeOrder_keeps (and_kindMask rfl) hs
  | stopOrder => exact execStopOrder_keeps (and_kindMask rfl) hs
  | haltOrder => exact execHaltOrder_keeps (and_kindMask rfl) hs
  | unhaltOrder => exact execUnhaltOrder_keeps (and_kindMask rfl) hs
  | stepfreqOrder => exact execStepfreqOrder_keeps (and_kindMask rfl) hs
  | tagFaultReport => exact execTagFaultReport_keeps (and_kindMask rfl) hs
  | stopReqReport => exact execStopReqReport_keeps (and_kindMask rfl) hs
  | haltReqReport => exact execHaltReqReport_keeps (and_kindMask rfl) hs
  | throttleReqReport => exact execThrottleReqReport_keeps (and_kindMask rfl) hs
  | faultReport => exact execFaultReport_keeps (and_kindMask rfl) hs
  | holdSlotCheck => exact execHoldSlotCheck_keeps (and_kindMask rfl) hs
  | holdBegin => exact execHoldBegin_keeps (and_kindMask rfl) hs
  | startIssue => exact execStartIssue_keeps (and_kindMask rfl) hs
  | periodRelease => exact execPeriodRelease_keeps (and_kindMask rfl) hs
  | casStop => exact execCasStop_keeps (and_kindMask rfl) hs
  | doneFall => exact execDoneFall_keeps (and_kindMask rfl) hs
  | netmapDataWrite => exact execNetmapDataWrite_keeps (and_kindMask rfl) hs
  | netmapDataRead => exact execNetmapDataRead_keeps (and_kindMask rfl) hs
  | load => exact execLoad_keeps (and_kindMask rfl) hs
  | loadGolden => exact execLoadGolden_keeps (and_kindMask rfl) hs
  | clear => exact execClear_keeps (and_kindMask rfl) hs
  | stream => exact execStream_keeps (and_kindMask rfl) hs
  | streamFetch => exact execStreamFetch_keeps (and_kindMask rfl) hs
  | streamMarker => exact execStreamMarker_keeps (and_kindMask rfl) hs
  | nopRecord => exact execNopRecord_keeps (and_kindMask rfl) hs
  | setDevice => exact execSetDevice_keeps (and_kindMask rfl) hs
  | setGclkA => exact execSetGclkA_keeps (and_kindMask rfl) hs
  | setGclkB => exact execSetGclkB_keeps (and_kindMask rfl) hs
  | setBankv => exact execSetBankv_keeps (and_kindMask rfl) hs
  | setRegion => exact execSetRegion_keeps (and_kindMask rfl) hs
  | setFpll0 => exact execSetFpll0_keeps (and_kindMask rfl) hs
  | setFpll1 => exact execSetFpll1_keeps (and_kindMask rfl) hs
  | frames => exact execFrames_keeps (and_kindMask rfl) hs
  | frameEntry => exact execFrameEntry_keeps (and_kindMask rfl) hs
  | readRecord => exact execReadRecord_keeps (and_kindMask rfl) hs
  | checkRecord => exact execCheckRecord_keeps (and_kindMask rfl) hs
  | actionNone => exact execActionNone_keeps (and_kindMask rfl) hs
  | checkReset => exact execCheckReset_keeps (and_kindMask rfl) hs
  | launch => exact execLaunch_keeps (and_kindMask rfl) hs
  | endStream => exact execEndStream_keeps (and_kindMask rfl) hs
  | quiesce => exact execQuiesce_keeps (and_kindMask rfl) hs
  | frameClearDone => exact execFrameClearDone_keeps (and_kindMask rfl) hs
  | startupPhase => exact execStartupPhase_keeps (and_kindMask rfl) hs
  | startupPllTimeout => exact execStartupPllTimeout_keeps (and_kindMask rfl) hs
  | doneTimeout => exact execDoneTimeout_keeps (and_kindMask rfl) hs
  | releaseBlankEnd => exact execReleaseBlankEnd_keeps (and_kindMask rfl) hs
  | cpWord => exact execCpWord_keeps (and_kindMask rfl) hs
  | regionWrite => exact execRegionWrite_keeps (and_kindMask rfl) hs
  | regionStreamTimeout => exact execRegionStreamTimeout_keeps (and_kindMask rfl) hs
  | scrubFrameRead => exact execScrubFrameRead_keeps (and_kindMask rfl) hs
  | frameRefetch => exact execFrameRefetch_keeps (and_kindMask rfl) hs
  | scrubHeartbeatTimeout => exact execScrubHeartbeatTimeout_keeps (and_kindMask rfl) hs
  | scrubSettingsFault => exact execScrubSettingsFault_keeps (and_kindMask rfl) hs
  | frameWindowRead => exact execFrameWindowRead_keeps (and_kindMask rfl) hs
  | gclkLost => exact execGclkLost_keeps (and_kindMask rfl) hs
  | fabricPllUnlock => exact execFabricPllUnlock_keeps (and_kindMask rfl) hs
  | bankVoltageChange => exact execBankVoltageChange_keeps (and_kindMask rfl) hs
  | nop => exact execNop_keeps (and_kindMask rfl) hs
  | vadd => exact execVadd_keeps (and_kindMask rfl) hs
  | vsub => exact execVsub_keeps (and_kindMask rfl) hs
  | vadds => exact execVadds_keeps (and_kindMask rfl) hs
  | vsubs => exact execVsubs_keeps (and_kindMask rfl) hs
  | vand => exact execVand_keeps (and_kindMask rfl) hs
  | vor => exact execVor_keeps (and_kindMask rfl) hs
  | vxor => exact execVxor_keeps (and_kindMask rfl) hs
  | vshl => exact execVshl_keeps (and_kindMask rfl) hs
  | vshra => exact execVshra_keeps (and_kindMask rfl) hs
  | vshrl => exact execVshrl_keeps (and_kindMask rfl) hs
  | vcmp => exact execVcmp_keeps (and_kindMask rfl) hs
  | vmin => exact execVmin_keeps (and_kindMask rfl) hs
  | vmax => exact execVmax_keeps (and_kindMask rfl) hs
  | vbcast => exact execVbcast_keeps (and_kindMask rfl) hs
  | movi => exact execMovi_keeps (and_kindMask rfl) hs
  | mac => exact execMac_keeps (and_kindMask rfl) hs
  | msu => exact execMsu_keeps (and_kindMask rfl) hs
  | mpy => exact execMpy_keeps (and_kindMask rfl) hs
  | mova => exact execMova_keeps (and_kindMask rfl) hs
  | movd => exact execMovd_keeps (and_kindMask rfl) hs
  | aclr => exact execAclr_keeps (and_kindMask rfl) hs
  | ld => exact execLd_keeps (and_kindMask rfl) hs
  | st => exact execSt_keeps (and_kindMask rfl) hs
  | ldp => exact execLdp_keeps (and_kindMask rfl) hs
  | stp => exact execStp_keeps (and_kindMask rfl) hs
  | sta => exact execSta_keeps (and_kindMask rfl) hs
  | lr => exact execLr_keeps (and_kindMask rfl) hs
  | sc => exact execSc_keeps (and_kindMask rfl) hs
  | padd => exact execPadd_keeps (and_kindMask rfl) hs
  | pmov => exact execPmov_keeps (and_kindMask rfl) hs
  | pmovi => exact execPmovi_keeps (and_kindMask rfl) hs
  | br => exact execBr_keeps (and_kindMask rfl) hs
  | brcc => exact execBrcc_keeps (and_kindMask rfl) hs
  | call => exact execCall_keeps (and_kindMask rfl) hs
  | jmp => exact execJmp_keeps (and_kindMask rfl) hs
  | rep => exact execRep_keeps (and_kindMask rfl) hs
  | mvc => exact execMvc_keeps (and_kindMask rfl) hs
  | fence => exact execFence_keeps (and_kindMask rfl) hs
  | nap => exact execNap_keeps (and_kindMask rfl) hs
  | reti => exact execReti_keeps (and_kindMask rfl) hs
  | eret => exact execEret_keeps (and_kindMask rfl) hs
  | trap => exact execTrap_keeps (and_kindMask rfl) hs
  | exceptionEntry => exact execExceptionEntry_keeps (and_kindMask rfl) hs
  | interruptEntry => exact execInterruptEntry_keeps (and_kindMask rfl) hs
  | napWake => exact execNapWake_keeps (and_kindMask rfl) hs
  | farLoadResponse => exact execFarLoadResponse_keeps (and_kindMask rfl) hs
  | farStoreError => exact execFarStoreError_keeps (and_kindMask rfl) hs
  | scratchpadNocAccess => exact execScratchpadNocAccess_keeps (and_kindMask rfl) hs
  | coreReset => exact execCoreReset_keeps (and_kindMask rfl) hs
  | coreResetRelease => exact execCoreResetRelease_keeps (and_kindMask rfl) hs
  | wdtKick => exact execWdtKick_keeps (and_kindMask rfl) hs
  | wdtExpiry => exact execWdtExpiry_keeps (and_kindMask rfl) hs
  | getInfo => exact execGetInfo_keeps (and_kindMask rfl) hs
  | echo => exact execEcho_keeps (and_kindMask rfl) hs
  | loadImage => exact execLoadImage_keeps (and_kindMask rfl) hs
  | imageLine => exact execImageLine_keeps (and_kindMask rfl) hs
  | blockEnable => exact execBlockEnable_keeps (and_kindMask rfl) hs
  | blockDisable => exact execBlockDisable_keeps (and_kindMask rfl) hs
  | fwLoad => exact execFwLoad_keeps (and_kindMask rfl) hs
  | fwStart => exact execFwStart_keeps (and_kindMask rfl) hs
  | fwLoadDbg => exact execFwLoadDbg_keeps (and_kindMask rfl) hs
  | setStepFreq => exact execSetStepFreq_keeps (and_kindMask rfl) hs
  | mailboxCompletion => exact execMailboxCompletion_keeps (and_kindMask rfl) hs
  | heartbeat => exact execHeartbeat_keeps (and_kindMask rfl) hs
  | controlWdtExpiry => exact execControlWdtExpiry_keeps (and_kindMask rfl) hs
  | irqTargetWrite => exact execIrqTargetWrite_keeps (and_kindMask rfl) hs
  | controlIrqTake => exact execControlIrqTake_keeps (and_kindMask rfl) hs
  | irqEoi => exact execIrqEoi_keeps (and_kindMask rfl) hs
  | irqSwset => exact execIrqSwset_keeps (and_kindMask rfl) hs
  | irqSwclr => exact execIrqSwclr_keeps (and_kindMask rfl) hs
  | postWordWrite => exact execPostWordWrite_keeps (and_kindMask rfl) hs
  | postCommit => exact execPostCommit_keeps (and_kindMask rfl) hs
  | backpressureRelease => exact execBackpressureRelease_keeps (and_kindMask rfl) hs
  | backpressureTimeout => exact execBackpressureTimeout_keeps (and_kindMask rfl) hs
  | dispatchScan => exact execDispatchScan_keeps (and_kindMask rfl) hs
  | hmsTake => exact execHmsTake_keeps (and_kindMask rfl) hs
  | takeTimeout => exact execTakeTimeout_keeps (and_kindMask rfl) hs
  | hmsDone => exact execHmsDone_keeps (and_kindMask rfl) hs
  | hmsFail => exact execHmsFail_keeps (and_kindMask rfl) hs
  | completionRecordResponse => exact execCompletionRecordResponse_keeps (and_kindMask rfl) hs
  | hmsCancel => exact execHmsCancel_keeps (and_kindMask rfl) hs
  | arm => exact execArm_keeps (and_kindMask rfl) hs
  | acqStop => exact execAcqStop_keeps (and_kindMask rfl) hs
  | force => exact execForce_keeps (and_kindMask rfl) hs
  | acqSample => exact execAcqSample_keeps (and_kindMask rfl) hs
  | acqBufferWrite => exact execAcqBufferWrite_keeps (and_kindMask rfl) hs
  | acqWriteResponse => exact execAcqWriteResponse_keeps (and_kindMask rfl) hs
  | tdcEdge => exact execTdcEdge_keeps (and_kindMask rfl) hs
  | tdcStampAvailable => exact execTdcStampAvailable_keeps (and_kindMask rfl) hs
  | rdIndexWrite => exact execRdIndexWrite_keeps (and_kindMask rfl) hs
  | rdDataRead => exact execRdDataRead_keeps (and_kindMask rfl) hs
  | offset => exact execOffset_keeps (and_kindMask rfl) hs
  | unlock => exact execUnlock_keeps (and_kindMask rfl) hs
  | set => exact execSet_keeps (and_kindMask rfl) hs
  | rateWrite => exact execRateWrite_keeps (and_kindMask rfl) hs
  | slewComplete => exact execSlewComplete_keeps (and_kindMask rfl) hs
  | holdoverWatchExpiry => exact execHoldoverWatchExpiry_keeps (and_kindMask rfl) hs
  | ethFrameReceive => exact execEthFrameReceive_keeps (and_kindMask rfl) hs
  | ethTxKick => exact execEthTxKick_keeps (and_kindMask rfl) hs
  | ethFrameTransmit => exact execEthFrameTransmit_keeps (and_kindMask rfl) hs
  | ethLinkChange => exact execEthLinkChange_keeps (and_kindMask rfl) hs
  | hostAccess => exact execHostAccess_keeps (and_kindMask rfl) hs
  | msixUnmask => exact execMsixUnmask_keeps (and_kindMask rfl) hs
  | pcieLinkLoss => exact execPcieLinkLoss_keeps (and_kindMask rfl) hs
  | pcieLinkUp => exact execPcieLinkUp_keeps (and_kindMask rfl) hs
  | powerOnReset => exact execPowerOnReset_keeps (and_kindMask rfl) hs
  | vddAonLoss => exact execVddAonLoss_keeps (and_kindMask rfl) hs
  | porstNRise => exact execPorstNRise_keeps (and_kindMask rfl) hs
  | corePllLock => exact execCorePllLock_keeps (and_kindMask rfl) hs
  | systemReset => exact execSystemReset_keeps (and_kindMask rfl) hs
  | controlReset => exact execControlReset_keeps (and_kindMask rfl) hs
  | tempReading => exact execTempReading_keeps (and_kindMask rfl) hs
  | throttleRelease => exact execThrottleRelease_keeps (and_kindMask rfl) hs
  | stepFreqChange => exact execStepFreqChange_keeps (and_kindMask rfl) hs
  | thermalTrip => exact execThermalTrip_keeps (and_kindMask rfl) hs
  | thermalTripClear => exact execThermalTripClear_keeps (and_kindMask rfl) hs
  | tapReset => exact execTapReset_keeps (and_kindMask rfl) hs
  | extest => exact execExtest_keeps (and_kindMask rfl) hs
  | samplePreload => exact execSamplePreload_keeps (and_kindMask rfl) hs
  | idcode => exact execIdcode_keeps (and_kindMask rfl) hs
  | dbgacc => exact execDbgacc_keeps (and_kindMask rfl) hs
  | bypass => exact execBypass_keeps (and_kindMask rfl) hs
  | dbgaccAccess => exact execDbgaccAccess_keeps (and_kindMask rfl) hs
  | grantWrite => exact execGrantWrite_keeps (and_kindMask rfl) hs
  | unlockSubmit => exact execUnlockSubmit_keeps (and_kindMask rfl) hs
  | unlockCheckDone => exact execUnlockCheckDone_keeps (and_kindMask rfl) hs
  | windowRead => exact execWindowRead_keeps (and_kindMask rfl) hs
  | windowWrite => exact execWindowWrite_keeps (and_kindMask rfl) hs
  | stealRead => exact execStealRead_keeps (and_kindMask rfl) hs
  | stealWrite => exact execStealWrite_keeps (and_kindMask rfl) hs
  | windowAccessDone => exact execWindowAccessDone_keeps (and_kindMask rfl) hs
  | fwFifoWrite => exact execFwFifoWrite_keeps (and_kindMask rfl) hs
  | fwFifoTimeout => exact execFwFifoTimeout_keeps (and_kindMask rfl) hs
  | coreHalt => exact execCoreHalt_keeps (and_kindMask rfl) hs
  | coreResume => exact execCoreResume_keeps (and_kindMask rfl) hs
  | coreStep => exact execCoreStep_keeps (and_kindMask rfl) hs
  | coreHaltEntry => exact execCoreHaltEntry_keeps (and_kindMask rfl) hs
  | coreRegisterWrite => exact execCoreRegisterWrite_keeps (and_kindMask rfl) hs
  | emulationHalt => exact execEmulationHalt_keeps (and_kindMask rfl) hs
  | emulationRelease => exact execEmulationRelease_keeps (and_kindMask rfl) hs
  | vtTxWrite => exact execVtTxWrite_keeps (and_kindMask rfl) hs
  | vtTxRead => exact execVtTxRead_keeps (and_kindMask rfl) hs
  | vtRxWrite => exact execVtRxWrite_keeps (and_kindMask rfl) hs
  | vtRxRead => exact execVtRxRead_keeps (and_kindMask rfl) hs
  | noteWrite => exact execNoteWrite_keeps (and_kindMask rfl) hs
  | traceEnable => exact execTraceEnable_keeps (and_kindMask rfl) hs
  | traceFrame => exact execTraceFrame_keeps (and_kindMask rfl) hs
  | traceBufferRead => exact execTraceBufferRead_keeps (and_kindMask rfl) hs
  | vddAonRise => exact execVddAonRise_keeps (and_kindMask rfl) hs
  | pllUnlock => exact execPllUnlock_keeps (and_kindMask rfl) hs
  | configurationRequest => exact execConfigurationRequest_keeps (and_kindMask rfl) hs

/-- Settles O58: the bits of the kinds that a command touches are the set its operation may change. -/
theorem commandsKeepToTheirState : Obligations.CommandsKeepToTheirState := by
  unfold Obligations.CommandsKeepToTheirState
  intro c s t h k hk
  exact (exec_keeps_untouched c s t h).same k (testBit_kindMask hk)

end Sys2Proof.Machine

/-! The interrupt controller (R384 to R390): targets, the stacked mode of the control cores, and the software sources. -/

namespace Sys2Proof.Machine
open Sys2Proof

variable {s : State}

/-! ## Targets (R385) -/

theorem exec_irqTargetWrite {a : Accessor} {n : Fin 256} (h : s.accessCode a .irq 0 (0x400 + 4 * n.val) true = 0) (v : W32) :
    exec (.irqTargetWrite a n v) s = .next (doIrqTargetWrite a n.val v s) :=
  congrArg Host.Outcome.next (State.access_ok h _)

/-- The three fields of a target are set. -/
def State.setTarget (s : State) (n : Nat) (v : W32) : State :=
  ((s.wr (R.IRQ_TARGET.KIND n) 0 (bitsOf v.toNat 0 2)).wr (R.IRQ_TARGET.INDEX n) 0 (bitsOf v.toNat 2 6)).wr
    (R.IRQ_TARGET.PRIO n) 0 (bitsOf v.toNat 8 4)

theorem State.setTarget_rd (n : Nat) (v : W32) : (s.setTarget n v).rd (R.IRQ_TARGET.KIND n) 0 = bitsOf v.toNat 0 2 ∧
    (s.setTarget n v).rd (R.IRQ_TARGET.INDEX n) 0 = bitsOf v.toNat 2 6 ∧
    (s.setTarget n v).rd (R.IRQ_TARGET.PRIO n) 0 = bitsOf v.toNat 8 4 := by
  have hik : (R.IRQ_TARGET.INDEX n).apart (R.IRQ_TARGET.KIND n) = true := Fld.apart_of (.inr (show 2 % 32 ≠ 0 % 32 by decide))
  have hpk : (R.IRQ_TARGET.PRIO n).apart (R.IRQ_TARGET.KIND n) = true := Fld.apart_of (.inr (show 8 % 32 ≠ 0 % 32 by decide))
  have hpi : (R.IRQ_TARGET.PRIO n).apart (R.IRQ_TARGET.INDEX n) = true := Fld.apart_of (.inr (show 8 % 32 ≠ 2 % 32 by decide))
  refine ⟨?_, ?_, ?_⟩
  · rw [State.setTarget, State.rd_wr_apart hpk, State.rd_wr_apart hik, State.rd_wr_self]
    exact Nat.mod_mod _ _
  · rw [State.setTarget, State.rd_wr_apart hpi, State.rd_wr_self]
    exact Nat.mod_mod _ _
  · rw [State.setTarget, State.rd_wr_self]
    exact Nat.mod_mod _ _

/-- KIND 0 is accepted at any time, and what waits for the source is discarded. -/
theorem doIrqTargetWrite_none {n : Nat} {v : W32} (hf : fixedTarget n = false) (hk : bitsOf v.toNat 0 2 = 0) (a : Accessor) :
    doIrqTargetWrite a n v s = (State.setTarget { s with
      irqLatches := s.irqLatches.filter (fun l => l % 256 != n)
      irqHeld := s.irqHeld.filter (fun h => h != n) } n v).respond a true 0 := by
  simp only [doIrqTargetWrite, hf, hk, State.setTarget, Bool.false_eq_true, if_false, if_true]

/-- A target that there is is set while its source is neither pending nor in service. -/
theorem doIrqTargetWrite_set {n : Nat} {v : W32} (hf : fixedTarget n = false) (hk : bitsOf v.toNat 0 2 ≠ 0)
    (ht : targetExists (bitsOf v.toNat 0 2) (bitsOf v.toNat 2 6) = true) (hp : s.irqPending n = false)
    (hs : s.inService n = false) (a : Accessor) : doIrqTargetWrite a n v s = (s.setTarget n v).respond a true 0 := by
  simp only [doIrqTargetWrite, hf, hk, ht, hp, hs, State.setTarget, Bool.false_eq_true, Bool.not_true, Bool.or_self,
    Bool.and_false, if_false]

/-! ## The control cores (R386 to R388) -/

theorem exec_controlIrqTake (k : Fin 4) : exec (.controlIrqTake k) s = .next (doControlIrqTake k.val s) := rfl

theorem exec_irqEoi {a : Accessor} (h : s.accessCode a .irq 0 0x60 true = 0) (v : W32) :
    exec (.irqEoi a v) s = .next (doIrqEoi a v s) := congrArg Host.Outcome.next (State.access_ok h _)

theorem State.setIrqStack_stack (k : Nat) (st : List (Nat × Nat)) : (s.setIrqStack k st).irqStack k = st :=
  SMap.get_set_self _ _ _ _

theorem doControlIrqTake_offered {k n : Nat} (he : s.on R.IRQ_CTRL.EN 0 = true) (hr : s.controlRuns k = true)
    (ho : s.offered k = some n) : doControlIrqTake k s =
      (s.setIrqStack k ((n, s.rd (R.IRQ_TARGET.PRIO n) 0) :: s.irqStack k)).emit
        (.irqVector k ((s.rd (R.IRQ_CVBASE.ADDR k) 0 * 16 + 16 * n) % 2 ^ 32)) := by
  simp only [doControlIrqTake, he, hr, ho, Bool.not_true, Bool.or_self, Bool.false_eq_true, if_false]

theorem doIrqEoi_top {k : Fin 4} {v : W32} {e : Nat × Nat} {rest : List (Nat × Nat)} (hs : s.irqStack k.val = e :: rest)
    (he : e.1 = v.toNat % 256) : doIrqEoi (.fw k) v s = (s.setIrqStack k.val rest).respond (.fw k) true 0 := by
  simp only [doIrqEoi, hs, if_pos he]

theorem doIrqEoi_other {k : Fin 4} {v : W32} {e : Nat × Nat} {rest : List (Nat × Nat)} (hs : s.irqStack k.val = e :: rest)
    (he : e.1 ≠ v.toNat % 256) :
    doIrqEoi (.fw k) v s = ((s.stackFault k.val).enterFault).respond (.fw k) true 0 := by
  simp only [doIrqEoi, hs, if_neg he]

/-- Entry to FW_STATE 3 leaves every register outside the pages HST_ and LOG_ (R382). -/
theorem State.enterFault_rd {g : Fld} (hh : g.page ≠ .hst) (hl : g.page ≠ .log) (d : Nat) :
    s.enterFault.rd g d = s.rd g d := by
  have hw : ∀ f : Fld, f.page = .hst → f.apart g = true := fun f hf => Fld.apart_of_page (hf ▸ hh.symm)
  unfold State.enterFault
  split
  · rfl
  · extract_lets s1 s2
    rw [State.logEvent_rd_page hl, State.irqEvent_rd]
    exact (State.rd_wr_apart (hw R.HST_MBX_STATUS.DONE rfl) 0 d 0).trans
      ((State.rd_wr_apart (hw R.HST_MBX_STATUS.BUSY rfl) 0 d 0).trans (State.rd_wr_apart (hw R.HST_MBX_STATUS.FW_STATE rfl) 0 d 3))

/-- A stack fault that enters FW_STATE 3, or is met there (R382, R388). -/
theorem State.enterFault_fwState : s.enterFault.fwState = 3 := by
  by_cases h : s.fwState = 3
  · rw [State.enterFault, if_pos (by exact h)]
    exact h
  · exact (State.enterFault_effect h).1

theorem State.stackFault_bit {k : Nat} (hk : k < 4) : bitOf ((s.stackFault k).rd R.IRQ_INT_STATUS.STACK_FAULT 0) k = 1 := by
  have hset : bitOf ((s.wr R.IRQ_INT_STATUS.STACK_FAULT 0 (setBit (s.rd R.IRQ_INT_STATUS.STACK_FAULT 0) k 1)).rd
      R.IRQ_INT_STATUS.STACK_FAULT 0) k = 1 := by
    rw [State.rd_wr_self]
    exact bitsOf_setBits (w := 1) (by decide) hk
  unfold State.stackFault
  extract_lets s1
  split
  · rw [State.irqEvent_rd]
    exact hset
  · exact hset

/-! ## Software sources (R384, R390) -/

theorem exec_irqSwset {a : Accessor} {hi : Bool} (h : s.accessCode a .irq 0 (if hi then 0xC4 else 0xC0) true = 0) (v : W32) :
    exec (.irqSwset a hi v) s = .next (doIrqSwset a hi v s) := congrArg Host.Outcome.next (State.access_ok h _)

theorem exec_irqSwclr {a : Accessor} {hi : Bool} (h : s.accessCode a .irq 0 (if hi then 0xCC else 0xC8) true = 0) (v : W32) :
    exec (.irqSwclr a hi v) s = .next (doIrqSwclr a hi v s) := congrArg Host.Outcome.next (State.access_ok h _)

/-- The events of the sources leave every register. -/
theorem doIrqSwset_rd (a : Accessor) (hi : Bool) (v : W32) :
    (doIrqSwset a hi v s).rd (softPend hi) 0 = (s.rd (softPend hi) 0 ||| v.toNat) % 2 ^ 32 := by
  unfold doIrqSwset
  extract_lets f s1
  rw [State.respond_rd]
  refine List.foldlRecOn (motive := fun t : State => t.rd f 0 = (s.rd f 0 ||| v.toNat) % 2 ^ 32) _ _
    (State.rd_wr_self f 0 _) (fun t ht i _ => ?_)
  rw [State.irqEvent_rd]
  exact ht

/-- Rearming the sources leaves every register. -/
theorem doIrqSwclr_rd (a : Accessor) (hi : Bool) (v : W32) :
    (doIrqSwclr a hi v s).rd (softPend hi) 0 = (s.rd (softPend hi) 0 - (s.rd (softPend hi) 0 &&& v.toNat)) % 2 ^ 32 := by
  unfold doIrqSwclr
  extract_lets f s1
  rw [State.respond_rd]
  refine List.foldlRecOn (motive := fun t : State => t.rd f 0 = (s.rd f 0 - (s.rd f 0 &&& v.toNat)) % 2 ^ 32) _ _
    (State.rd_wr_self f 0 _) (fun t ht i _ => ?_)
  rw [State.rearmSource_rd]
  exact ht

/-- Settles O39: a target is set or cleared, the offered source goes on its core's stack, EOI takes the top off it or is a stack
fault, and the software sources are set and cleared bit by bit. -/
theorem interruptControllerActs : Obligations.InterruptControllerActs := by
  unfold Obligations.InterruptControllerActs
  refine ⟨fun a n v s h hf => ⟨fun hk => ?none, fun hk ht hp hs => ?target⟩, fun k n s he hr ho => ?take,
    fun k v e rest s h hs => ⟨fun he => ?eoi, fun he => ?fault⟩, fun a hi v s => ⟨fun h => ?set, fun h => ?clear⟩⟩
  case none =>
    refine ⟨_, exec_irqTargetWrite h v, ?_⟩
    rw [doIrqTargetWrite_none hf hk, State.respond_rd]
    exact ⟨(State.setTarget_rd _ _).1.trans hk, rfl, rfl, rfl⟩
  case target =>
    refine ⟨_, exec_irqTargetWrite h v, ?_⟩
    rw [doIrqTargetWrite_set hf hk ht hp hs]
    simp only [State.respond_rd]
    obtain ⟨hkind, hindex, hprio⟩ := State.setTarget_rd (s := s) n.val v
    exact ⟨hkind, hindex, hprio, rfl, rfl⟩
  case take =>
    refine ⟨_, exec_controlIrqTake k, ?_⟩
    rw [doControlIrqTake_offered he hr ho]
    rw [State.irqStack, State.emit_irqStacks]
    exact ⟨State.setIrqStack_stack _ _, rfl⟩
  case eoi =>
    refine ⟨_, exec_irqEoi h v, ?_⟩
    rw [doIrqEoi_top hs he]
    exact ⟨State.setIrqStack_stack (s := s) _ _, rfl⟩
  case fault =>
    refine ⟨_, exec_irqEoi h v, ?_⟩
    rw [doIrqEoi_other hs he, State.respond_rd, State.enterFault_rd (by decide) (by decide)]
    exact ⟨State.enterFault_fwState, State.stackFault_bit k.isLt⟩
  case set => exact ⟨_, exec_irqSwset h v, doIrqSwset_rd a hi v⟩
  case clear => exact ⟨_, exec_irqSwclr h v, doIrqSwclr_rd a hi v⟩

end Sys2Proof.Machine

/-! The harbourmaster posts and dispatches (R391 to R394): its page's accesses, the pool, and the descriptor that a commit takes. -/

namespace Sys2Proof.Machine
open Sys2Proof

variable {s : State} {a : Accessor}

/-! ## The harbourmaster's own data -/

@[simp] theorem State.modHms_hms (f : Hms → Hms) : (s.modHms f).hms = f s.hms := rfl

@[simp] theorem State.showHms_hms : s.showHms.hms = s.hms := rfl

@[simp] theorem State.showStack_hms (m : Nat) : (s.showStack m).hms = s.hms :=
  (State.showStack_keeps (M := 282574488338432) rfl (Keeps.refl _ s)).same .hms rfl

@[simp] theorem State.setItem_itemState (i st : Nat) : (s.setItem i st).itemState i = st := SMap.get_set_self _ _ _ _

@[simp] theorem State.setQueue_hmsQueue (l : Nat) (q : List Nat) : (s.setQueue l q).hmsQueue l = q := SMap.get_set_self _ _ _ _

@[simp] theorem State.setStack_hmsStack (m : Nat) (l : List HmsItem) : (s.setStack m l).hmsStack m = l :=
  SMap.get_set_self _ _ _ _

@[simp] theorem State.setDispatch_hmsDispatch (m : Nat) (d : Option HmsDispatch) : (s.setDispatch m d).hmsDispatch m = d :=
  SMap.get_set_self _ _ _ _

/-- What the harbourmaster's own data say of its items. -/
theorem State.hms_views {t : State} (h : t.hms = s.hms) : (∀ i, t.itemState i = s.itemState i) ∧
    (∀ l, t.hmsQueue l = s.hmsQueue l) ∧ (∀ m, t.hmsStack m = s.hmsStack m) ∧ (∀ m, t.hmsDispatch m = s.hmsDispatch m) := by
  refine ⟨fun i => ?_, fun l => ?_, fun m => ?_, fun m => ?_⟩
  · rw [State.itemState, State.itemState, h]
  · rw [State.hmsQueue, State.hmsQueue, h]
  · rw [State.hmsStack, State.hmsStack, h]
  · rw [State.hmsDispatch, State.hmsDispatch, h]

theorem State.showHms_rd {g : Fld} (h : g.page ≠ .hms) (d : Nat) : s.showHms.rd g d = s.rd g d := by
  have hw : ∀ f : Fld, f.page = .hms → f.apart g = true := fun f hf => Fld.apart_of_page (hf ▸ h.symm)
  unfold State.showHms
  extract_lets q r t
  rw [State.rd_wr_apart (hw R.HMS_STATUS.BP rfl), State.rd_wr_apart (hw R.HMS_COUNT_HI.RUNNING rfl),
    State.rd_wr_apart (hw R.HMS_COUNT_HI.DISPATCHING rfl), State.rd_wr_apart (hw R.HMS_COUNT_LO.QUEUED rfl),
    State.rd_wr_apart (hw R.HMS_COUNT_LO.FREE rfl)]

/-! ## The page's accesses (R392, R408) -/

/-- No commit of the accessor is held, so its accesses to the page are performed at once. -/
def State.unheld (s : State) (a : Accessor) : Prop := s.hms.held.any (fun h => posterOf h == posterOf a) = false

theorem State.hmsAccess_write (h : s.unheld a) (off : Nat) (v : W32) : s.hmsAccess a off true v = s.hmsWriteNow a off v := by
  rw [State.hmsAccess, if_neg (by rw [h]; decide), if_pos rfl]

theorem State.hmsAccess_read (h : s.unheld a) (off : Nat) (v : W32) : s.hmsAccess a off false v = s.hmsReadNow a off := by
  rw [State.hmsAccess, if_neg (by rw [h]; decide), if_neg (by decide)]

theorem exec_postWordWrite {k : Fin 15} (h : s.accessCode a .hms 0 (0x100 + 4 * k.val) true = 0) (hu : s.unheld a) (v : W32) :
    exec (.postWordWrite a k v) s = .next (s.postWord a k.val v) := by
  refine congrArg Host.Outcome.next ((State.access_ok h _).trans ((State.hmsAccess_write hu _ v).trans ?_))
  have hoff : (0x100 + 4 * k.val - 0x100) / 4 = k.val := by omega
  rw [State.hmsWriteNow, if_neg (by omega), if_pos (by omega), hoff]

theorem exec_postCommit (h : s.accessCode a .hms 0 0x13C true = 0) (hu : s.unheld a) (v : W32) :
    exec (.postCommit a v) s = .next (s.postCommit a v) :=
  congrArg Host.Outcome.next ((State.access_ok h _).trans (State.hmsAccess_write hu _ v))

theorem exec_backpressureRelease : exec .backpressureRelease s = .next (doBackpressureRelease s) := rfl

theorem exec_backpressureTimeout : exec .backpressureTimeout s = .next (doBackpressureTimeout s) := rfl

theorem exec_dispatchScan : exec .dispatchScan s = .next (doDispatchScan s) := rfl

theorem exec_hmsTake {m : Fin 16} (h : s.accessCode (.core m) .hms 0 0x60 false = 0) (hu : s.unheld (.core m)) :
    exec (.hmsTake (.core m)) s = .next (s.takeDispatch (.core m)) :=
  congrArg Host.Outcome.next ((State.access_ok h _).trans (State.hmsAccess_read hu _ 0))

theorem exec_takeTimeout (m : Fin 16) : exec (.takeTimeout m) s = .next (doTakeTimeout m.val s) := rfl

/-! ## The pool (R391) -/

/-- The pool's bank lets the harbourmaster in, and journals none of its words (R137, R158). -/
def State.poolOpen (s : State) : Prop :=
  s.berthCheck (s.rd R.HMS_POOL.BANK 0) hmsRequester = 0 ∧ ∀ w, s.inJournal (s.rd R.HMS_POOL.BANK 0) w = false

/-- Whether the pool is open rests on fields that serving a bank leaves as they are. -/
theorem State.poolOpen_of {t : State} (h : ∀ g, bankFixed g = true → ∀ d, t.rd g d = s.rd g d) (ho : s.poolOpen) : t.poolOpen := by
  obtain ⟨hberth, hjournal⟩ := ho
  have hbank := h R.HMS_POOL.BANK (by decide) 0
  refine ⟨?_, fun w => ?_⟩
  · simp only [State.berthCheck, State.berthNames, State.berthWas, State.berthIs, State.on, hbank,
      h R.DMB_STATUS.HANDOVER (by decide), h R.DMB_BERTH.KIND (by decide), h R.DMB_BERTH.ID (by decide),
      h R.DMB_BERTH_PREV.KIND (by decide), h R.DMB_BERTH_PREV.ID (by decide)]
    exact hberth
  · rw [State.inJournal_of h, hbank]
    exact hjournal w

theorem State.poolWrite_open (ho : s.poolOpen) (w : Nat) (v : W128) : s.poolWrite w v =
    (true, (s.writeBank (s.rd R.HMS_POOL.BANK 0) w v false).clearBankResv (s.rd R.HMS_POOL.BANK 0) w) := by
  obtain ⟨hberth, hjournal⟩ := ho
  simp [State.poolWrite, State.directAccess, hberth, hjournal]

/-- An open pool takes every word, and what was sent stays in front of the outputs. -/
theorem State.poolStore_open (ho : s.poolOpen) (w : Nat) (l : List W128) :
    (s.poolStore w l).1 = true ∧ s.outbox <+: (s.poolStore w l).2.outbox := by
  induction l generalizing s w with
  | nil => exact ⟨rfl, List.prefix_refl _⟩
  | cons v r ih =>
    rw [State.poolStore, State.poolWrite_open ho]
    dsimp only
    have hfixed : ∀ g, bankFixed g = true → ∀ d, ((s.writeBank (s.rd R.HMS_POOL.BANK 0) w v false).clearBankResv
        (s.rd R.HMS_POOL.BANK 0) w).rd g d = s.rd g d := fun g hg d => State.writeBank_fixed hg _ w v false d
    obtain ⟨hok, hsent⟩ := ih (State.poolOpen_of hfixed ho) (w + 1)
    exact ⟨hok, (State.writeBank_sends (List.prefix_refl _) _ _ _ _).trans hsent⟩

theorem State.poolStore_hms (w : Nat) (l : List W128) : (s.poolStore w l).2.hms = s.hms :=
  (keeps_of2 (State.poolStore_keeps (M := 297256267456460817) rfl (Keeps.refl _ s))).same .hms rfl

theorem State.poolLoad_hms (w n : Nat) : (s.poolLoad w n).2.hms = s.hms :=
  (keeps_of2 (State.poolLoad_keeps (M := 297256267456460817) rfl (Keeps.refl _ s))).same .hms rfl

/-! ## Posting (R392) -/

/-- Descriptor i joins the tail of the queue of level l, posted by initiator k. -/
def State.post (s : State) (k i l : Nat) : State :=
  (((s.setItem i 1).setQueue l (s.hmsQueue l ++ [i])).modHms fun h =>
    { h with posted := SMap.set none h.posted k (some i) }).showHms

theorem State.post_hms (k i l : Nat) : (s.post k i l).hms =
    { s.hms with
      state := SMap.set 0 s.hms.state i 1
      queues := SMap.set [] s.hms.queues l (s.hmsQueue l ++ [i])
      posted := SMap.set none s.hms.posted k (some i) } := by
  rw [State.post, State.showHms_hms]
  rfl

@[simp] theorem State.post_held (k i l : Nat) : (s.post k i l).hms.held = s.hms.held := by rw [State.post_hms]

@[simp] theorem State.post_itemState (k i l : Nat) : (s.post k i l).itemState i = 1 := by
  rw [State.itemState, State.post_hms, SMap.get_set_self]

@[simp] theorem State.post_hmsQueue (k i l : Nat) : (s.post k i l).hmsQueue l = s.hmsQueue l ++ [i] := by
  rw [State.hmsQueue, State.post_hms, SMap.get_set_self]

@[simp] theorem State.post_posted (k i l : Nat) : SMap.get none (s.post k i l).hms.posted k = some i := by
  rw [State.post_hms, SMap.get_set_self]

theorem State.showHms_outbox : s.showHms.outbox = s.outbox := by
  unfold State.showHms
  extract_lets q r t
  simp only [State.wr_outbox]

@[simp] theorem State.post_outbox (k i l : Nat) : (s.post k i l).outbox = s.outbox := by
  rw [State.post, State.showHms_outbox]
  rfl

/-- A free choice is used up. -/
def State.useFree (s : State) : State := { s with freeUses := s.freeUses + 1 }

theorem State.mem_freeItems {i : Nat} : i ∈ s.freeItems ↔ i < 4096 ∧ s.itemState i = 0 := by
  rw [State.freeItems, List.mem_filter, List.mem_range, beq_iff_eq]

/-- The level of the descriptor that initiator k has staged. -/
def State.stagedLevel (s : State) (k : Nat) : Nat := descLevel (((s.stagedDesc k)[0]?).getD 0)

/-- A commit that finds a free descriptor and an open pool: the descriptor joins its queue and the commit is answered. -/
theorem State.takeDescriptor_posts (hf : s.freeItems ≠ []) (ho : s.poolOpen) :
    ∃ (i : Nat) (u : State), (i < 4096 ∧ s.itemState i = 0) ∧
      s.takeDescriptor a = (u.post (posterOf a) i (s.stagedLevel (posterOf a))).respond a true 0 ∧
      s.outbox <+: u.outbox ∧ u.hms = s.hms := by
  have hlen : Config.freeChoice s.freeUses % s.freeItems.length < s.freeItems.length :=
    Nat.mod_lt _ (List.length_pos_of_ne_nil hf)
  obtain ⟨i, hi⟩ : ∃ i, s.freeItems[Config.freeChoice s.freeUses % s.freeItems.length]? = some i :=
    ⟨_, List.getElem?_eq_getElem hlen⟩
  obtain ⟨hok, hsent⟩ := State.poolStore_open (s := s.useFree) ho (s.poolWord i 0) (s.stagedDesc (posterOf a))
  have hhms := State.poolStore_hms (s := s.useFree) (s.poolWord i 0) (s.stagedDesc (posterOf a))
  rcases hp : s.useFree.poolStore (s.poolWord i 0) (s.stagedDesc (posterOf a)) with ⟨ok, u⟩
  rw [hp] at hok hsent hhms
  dsimp only at hok hsent hhms
  subst hok
  refine ⟨i, u, State.mem_freeItems.1 (List.mem_of_getElem? hi), ?_, hsent, hhms⟩
  have hgo : s.takeDescriptor a = (match s.useFree.poolStore (s.poolWord i 0) (s.stagedDesc (posterOf a)) with
      | (false, s1) => s1.poolError.respond a false 0
      | (true, s1) => (s1.post (posterOf a) i (s.stagedLevel (posterOf a))).respond a true 0) := by
    unfold State.takeDescriptor
    extract_lets free
    rw [hi]
    rfl
  rw [hgo, hp]

end Sys2Proof.Machine

/-! The harbourmaster's clauses (R391 to R394): what each command leaves in its queues, its stacks and its dispatches. -/

namespace Sys2Proof.Machine
open Sys2Proof

variable {s : State} {a : Accessor}

theorem State.setItem_hms (i st : Nat) : (s.setItem i st).hms = { s.hms with state := SMap.set 0 s.hms.state i st } := rfl

theorem State.setQueue_hms (l : Nat) (q : List Nat) :
    (s.setQueue l q).hms = { s.hms with queues := SMap.set [] s.hms.queues l q } := rfl

theorem State.setStack_hms (m : Nat) (l : List HmsItem) :
    (s.setStack m l).hms = { s.hms with coreStacks := SMap.set [] s.hms.coreStacks m l } := rfl

theorem State.setDispatch_hms (m : Nat) (d : Option HmsDispatch) :
    (s.setDispatch m d).hms = { s.hms with dispatch := SMap.set none s.hms.dispatch m d } := rfl

/-! ## A commit (R392) -/

/-- The last word of a post is staged. -/
def State.stagePost (s : State) (a : Accessor) (v : W32) : State :=
  s.modHms (fun h => { h with staging := SMap.set 0 h.staging (posterOf a * 16 + 15) v })

theorem State.stagedDesc_head (k : Nat) : (s.stagedDesc k)[0]? = some (ofWords (SMap.get 0 s.hms.staging (k * 16 + 0)).toNat
    (SMap.get 0 s.hms.staging (k * 16 + 1)).toNat (SMap.get 0 s.hms.staging (k * 16 + 2)).toNat
    (SMap.get 0 s.hms.staging (k * 16 + 3)).toNat) := rfl

/-- The last word of a post is not one of its descriptor's word 0. -/
theorem State.stagePost_head (v : W32) :
    ((s.stagePost a v).stagedDesc (posterOf a))[0]? = (s.stagedDesc (posterOf a))[0]? := by
  have hword : ∀ j, j < 4 → SMap.get 0 (s.stagePost a v).hms.staging (posterOf a * 16 + j) =
      SMap.get 0 s.hms.staging (posterOf a * 16 + j) := fun j hj => SMap.get_set_other (by omega)
  rw [State.stagedDesc_head, State.stagedDesc_head, hword 0 (by decide), hword 1 (by decide), hword 2 (by decide),
    hword 3 (by decide)]

theorem State.postCommit_staged (v : W32) : s.postCommit a v =
    if !descOk ((((s.stagePost a v).stagedDesc (posterOf a))[0]?).getD 0) then
      ((s.stagePost a v).errReg a .hms 0 0x13C 4).respond a false 0
    else if s.freeItems.isEmpty then ((s.stagePost a v).modHms (fun h => { h with held := h.held ++ [a] })).showHms
    else (s.stagePost a v).takeDescriptor a := rfl

theorem State.postCommit_full {v : W32} (hd : descOk (((s.stagedDesc (posterOf a))[0]?).getD 0) = true)
    (hf : s.freeItems = []) : s.postCommit a v = ((s.stagePost a v).modHms (fun h => { h with held := h.held ++ [a] })).showHms := by
  rw [State.postCommit_staged, State.stagePost_head, hd, hf]
  rfl

theorem State.postCommit_free {v : W32} (hd : descOk (((s.stagedDesc (posterOf a))[0]?).getD 0) = true)
    (hf : s.freeItems ≠ []) : s.postCommit a v = (s.stagePost a v).takeDescriptor a := by
  rw [State.postCommit_staged, State.stagePost_head, hd, if_neg (by decide), if_neg (fun h => hf (List.isEmpty_iff.1 h))]

theorem State.showHms_bp : s.showHms.rd R.HMS_STATUS.BP 0 = b2n (!s.hms.held.isEmpty) := by
  unfold State.showHms
  extract_lets q r t
  rw [State.rd_wr_self]
  cases s.hms.held.isEmpty <;> rfl

theorem State.showStack_outbox (m : Nat) : (s.showStack m).outbox = s.outbox :=
  (State.showStack_keeps (M := 282574488338432) rfl (Keeps.refl _ s)).same .out rfl

theorem State.showHms_dmem : s.showHms.dmem = s.dmem := by
  unfold State.showHms
  extract_lets q r t
  simp only [State.wr_dmem]

/-- The page's interrupt bits are not among what it shows of the items. -/
theorem State.showHms_intBit (b : Nat) : s.showHms.rd (intBit .hms b) 0 = s.rd (intBit .hms b) 0 := by
  have hw : ∀ f : Fld, f.off % 4096 ≠ 0xC → f.apart (intBit .hms b) = true := fun f hf => Fld.apart_of (.inl hf)
  unfold State.showHms
  extract_lets q r t
  rw [State.rd_wr_apart (hw R.HMS_STATUS.BP (by decide)), State.rd_wr_apart (hw R.HMS_COUNT_HI.RUNNING (by decide)),
    State.rd_wr_apart (hw R.HMS_COUNT_HI.DISPATCHING (by decide)), State.rd_wr_apart (hw R.HMS_COUNT_LO.QUEUED (by decide)),
    State.rd_wr_apart (hw R.HMS_COUNT_LO.FREE (by decide))]

/-! ## Held commits (R392) -/

/-- The oldest held commit and the accesses behind it have left. -/
def State.heldRest (s : State) (a : Accessor) (rest : List Accessor) : State :=
  s.modHms (fun h => { h with held := rest, waiting := h.waiting.filter (fun w => posterOf w.who != posterOf a) })

/-- With no access behind it, a held commit leaves alone. -/
theorem State.releaseHeld_alone (hw : s.hms.waiting = []) (rest : List Accessor) (act : State → State) :
    s.releaseHeld a rest act = (act (s.heldRest a rest)).showHms := by
  change ((act (s.heldRest a rest)).showHms).replayAccesses (s.hms.waiting.filter _) = _
  rw [hw, List.filter_nil, State.replayAccesses]

/-! ## Dispatch (R393, R394) -/

/-- The scan passes levels whose queues are empty. -/
theorem State.scanLevels_empty (k : Nat) : ∀ (l n : Nat), (∀ j, l ≤ j → j < l + k → s.hmsQueue j = []) →
    s.scanLevels l (k + n) = s.scanLevels (l + k) n := by
  induction k with
  | zero => exact fun l n _ => by rw [Nat.zero_add, Nat.add_zero]
  | succ k ih =>
    intro l n he
    rw [Nat.succ_add_eq_add_succ, ← Nat.succ_add_eq_add_succ, Nat.succ_add, State.scanLevels, he l le_rfl (by omega)]
    dsimp only
    rw [ih (l + 1) n (fun j hj hlt => he j (by omega) (by omega)), Nat.add_right_comm, Nat.add_assoc]

/-- The head of a level that finds a core is dispatched to it. -/
theorem State.scanLevels_head {l i n m : Nat} {r : List Nat} {ws : List W128} {pre : Bool} {s1 : State} (hq : s.hmsQueue l = i :: r)
    (hp : s.poolLoad (s.poolWord i 0) 4 = (some ws, s1)) (hd : s1.dispatchTo (descCores ((ws[0]?).getD 0)) l = some (m, pre)) :
    s.scanLevels l (n + 1) = s1.dispatch l m pre ⟨i, l, ws⟩ := by
  simp only [State.scanLevels, hq, hp, hd]

/-- What a dispatch leaves of the item, its level and its core. -/
theorem State.dispatch_views (l m : Nat) (pre : Bool) (it : HmsItem) : (s.dispatch l m pre it).itemState it.idx = 2 ∧
    (s.dispatch l m pre it).hmsQueue l = (s.hmsQueue l).tail ∧ (s.dispatch l m pre it).hmsDispatch m = some ⟨it, pre⟩ := by
  have hhms : (s.dispatch l m pre it).hms =
      (((s.setQueue l (s.hmsQueue l).tail).setItem it.idx 2).setDispatch m (some ⟨it, pre⟩)).hms := by
    unfold State.dispatch
    extract_lets s1
    rw [State.irqEvent_hms, State.showHms_hms, State.showStack_hms]
  simp only [State.itemState, State.hmsQueue, State.hmsDispatch, hhms, State.setDispatch_hms, State.setItem_hms,
    State.setQueue_hms, SMap.get_set_self, and_self]

/-- A core's acknowledgement of its dispatch. -/
def State.takeItem (s : State) (m : Nat) (d : HmsDispatch) : State :=
  ((s.setDispatch m none).setItem d.item.idx 3).setStack m (d.item :: s.hmsStack m)

theorem State.takeDispatch_some {m : Fin 16} {d : HmsDispatch} (hd : s.hmsDispatch m.val = some d) :
    s.takeDispatch (.core m) = (((s.takeItem m.val d).showStack m.val).showHms).respond (.core m) true
      (d.item.idx + 2 ^ 12 * d.item.level + 2 ^ 15 * b2n d.preempt + 2 ^ 31) := by
  simp only [State.takeDispatch, hd, State.takeItem]

theorem State.withdraw_some {m : Nat} {d : HmsDispatch} (hd : s.hmsDispatch m = some d) :
    s.withdraw m = ((s.setDispatch m none).setItem d.item.idx 1).setQueue d.item.level (d.item.idx :: s.hmsQueue d.item.level) := by
  simp only [State.withdraw, hd]

theorem doTakeTimeout_some {m : Nat} {d : HmsDispatch} (hd : s.hmsDispatch m = some d) (hs : s.rd R.MDC_STATUS.STATE m ≠ 3) :
    doTakeTimeout m s =
      (((((s.withdraw m).dropCore m).showStack m).showHms).raise .hms 0 1).logEvent 0x08 m 1 evCore 1 m := by
  rw [doTakeTimeout, hd, beq_false_of_ne hs, Option.isNone_some, Bool.or_self, if_neg Bool.false_ne_true]

theorem State.withdraw_views {m : Nat} {d : HmsDispatch} (hd : s.hmsDispatch m = some d) :
    (s.withdraw m).hmsDispatch m = none ∧ (s.withdraw m).itemState d.item.idx = 1 ∧
    (s.withdraw m).hmsQueue d.item.level = d.item.idx :: s.hmsQueue d.item.level := by
  simp only [State.withdraw_some hd, State.itemState, State.hmsQueue, State.hmsDispatch, State.setDispatch_hms,
    State.setItem_hms, State.setQueue_hms, SMap.get_set_self, and_self]

theorem State.takeItem_views (m : Nat) (d : HmsDispatch) : (s.takeItem m d).itemState d.item.idx = 3 ∧
    (s.takeItem m d).hmsDispatch m = none ∧ (s.takeItem m d).hmsStack m = d.item :: s.hmsStack m := by
  simp only [State.takeItem, State.itemState, State.hmsStack, State.hmsDispatch, State.setDispatch_hms,
    State.setItem_hms, State.setStack_hms, SMap.get_set_self, and_self]

theorem doTakeTimeout_hms {m : Nat} {d : HmsDispatch} (hd : s.hmsDispatch m = some d) (hs : s.rd R.MDC_STATUS.STATE m ≠ 3) :
    (doTakeTimeout m s).hms = (s.withdraw m).hms := by
  rw [doTakeTimeout_some hd hs, State.logEvent_hms, State.raise_hms, State.showHms_hms, State.showStack_hms]
  rfl

/-- A refused commit leaves an error response and the page's interrupt. -/
theorem doBackpressureTimeout_held {rest : List Accessor} (hh : s.hms.held = a :: rest) (hw : s.hms.waiting = [])
    (hl : s.rd R.HMS_BP_LIMIT.US 0 ≠ 0) :
    doBackpressureTimeout s = (((s.heldRest a rest).raise .hms 0 2).respond a false 0).showHms := by
  simp only [doBackpressureTimeout, hh]
  rw [if_neg hl, State.releaseHeld_alone hw]

theorem doBackpressureRelease_held {rest : List Accessor} (hh : s.hms.held = a :: rest) (hw : s.hms.waiting = [])
    (hf : s.freeItems ≠ []) : doBackpressureRelease s = ((s.heldRest a rest).takeDescriptor a).showHms := by
  simp only [doBackpressureRelease, hh]
  rw [if_neg (fun h => hf (List.isEmpty_iff.1 h)), State.releaseHeld_alone hw]

/-- Settles O40: a word is staged; a commit is held while no descriptor is free, and otherwise takes one; the oldest held commit
leaves with a descriptor or an error; the first head that finds a core is dispatched, and its core takes it or loses it. -/
theorem harbourmasterPostsAndDispatches : Obligations.HarbourmasterPostsAndDispatches := by
  unfold Obligations.HarbourmasterPostsAndDispatches
  refine ⟨⟨fun a k v s h hu => ?word, fun a v s h hu hd hf => ?full, fun a v s h hu hd hf hb hj => ?free,
    fun a rest s hh hw hf hb hj => ?release, fun a rest s hh hw hl => ?timeout⟩,
    fun l i m r ws pre s s1 he hl hempty hq hp hd => ?scan, fun m d s h hu hd => ?take, fun m d s hd hs => ?withdraw⟩
  case word =>
    exact ⟨_, exec_postWordWrite h hu v, SMap.get_set_self _ _ _ _, fun j hj => SMap.get_set_other hj, rfl, rfl⟩
  case full =>
    refine ⟨_, exec_postCommit h hu v, ?_⟩
    rw [State.postCommit_full hd hf, State.showHms_bp, State.showHms_outbox, State.showHms_dmem, State.showHms_hms]
    refine ⟨rfl, ?_, rfl, rfl⟩
    rw [State.modHms_hms, List.isEmpty_eq_false_iff.2 (List.append_ne_nil_of_right_ne_nil _ (List.cons_ne_nil _ _))]
    rfl
  case free =>
    obtain ⟨i, u, hi, hgo, hsent, hhms⟩ := State.takeDescriptor_posts (s := s.stagePost a v) (a := a) hf ⟨hb, hj⟩
    obtain ⟨l, hl⟩ := hsent
    refine ⟨_, i, exec_postCommit h hu v, hi.1, hi.2, ?_⟩
    rw [State.postCommit_free hd hf, hgo]
    simp only [State.itemState, State.hmsQueue, State.respond_hms, State.post_hms, SMap.get_set_self, State.stagedLevel,
      State.stagePost_head, hhms]
    refine ⟨trivial, rfl, trivial, l, ?_⟩
    rw [State.respond_outbox, State.post_outbox, ← hl]
    rfl
  case release =>
    obtain ⟨i, u, hi, hgo, hsent, hhms⟩ := State.takeDescriptor_posts (s := s.heldRest a rest) (a := a) hf ⟨hb, hj⟩
    obtain ⟨l, hl⟩ := hsent
    refine ⟨_, i, exec_backpressureRelease, ?_⟩
    rw [doBackpressureRelease_held hh hw hf, hgo]
    simp only [State.itemState, State.showHms_hms, State.respond_hms, State.post_hms, SMap.get_set_self, hhms]
    refine ⟨rfl, hi.1, hi.2, trivial, l, ?_⟩
    rw [State.showHms_outbox, State.respond_outbox, State.post_outbox, ← hl]
    rfl
  case timeout =>
    refine ⟨_, exec_backpressureTimeout, ?_⟩
    rw [doBackpressureTimeout_held hh hw hl, State.showHms_hms, State.showHms_outbox]
    obtain ⟨l, hl⟩ := State.raise_sends (List.prefix_refl (s.heldRest a rest).outbox) .hms 0 2
    refine ⟨?_, ?_, l, ?_⟩
    · rw [State.respond_hms, State.raise_hms]
      rfl
    · rw [State.showHms_intBit, State.respond_rd]
      exact State.raise_self .hms 0 2
    · change ((s.heldRest a rest).raise .hms 0 2).outbox ++ [Output.regResp a 4 0] = s.outbox ++ l ++ [Output.regResp a 4 0]
      rw [← hl]
      rfl
  case scan =>
    refine ⟨_, exec_dispatchScan, ?_⟩
    have hhms : s1.hms = s.hms := by rw [← State.poolLoad_hms (s := s) (s.poolWord i 0) 4, hp]
    have hgo : doDispatchScan s = s1.dispatch l m pre ⟨i, l, ws⟩ := by
      obtain ⟨n, hn⟩ : ∃ n, 8 = l + (n + 1) := ⟨7 - l, by omega⟩
      rw [doDispatchScan, if_pos he, hn, State.scanLevels_empty l 0 (n + 1) (fun j _ hj => hempty j (by omega)), Nat.zero_add,
        State.scanLevels_head hq hp hd]
    obtain ⟨hitem, hqueue, hdispatch⟩ := State.dispatch_views (s := s1) l m pre ⟨i, l, ws⟩
    rw [hgo, hqueue, (State.hms_views hhms).2.1, hq]
    exact ⟨hitem, rfl, hdispatch⟩
  case take =>
    refine ⟨_, exec_hmsTake h hu, ?_⟩
    obtain ⟨hitem, hdispatch, hstack⟩ := State.takeItem_views (s := s) m.val d
    rw [State.takeDispatch_some hd, State.respond_outbox, State.showHms_outbox, State.showStack_outbox]
    simp only [State.itemState, State.hmsDispatch, State.hmsStack, State.respond_hms, State.showHms_hms,
      State.showStack_hms] at hitem hdispatch hstack ⊢
    exact ⟨hitem, hdispatch, hstack, rfl⟩
  case withdraw =>
    refine ⟨_, exec_takeTimeout m, ?_⟩
    obtain ⟨hitem, hqueue, -, hdispatch⟩ := State.hms_views (doTakeTimeout_hms hd hs)
    obtain ⟨hdispatch', hitem', hqueue'⟩ := State.withdraw_views hd
    refine ⟨(hdispatch _).trans hdispatch', (hitem _).trans hitem', (hqueue _).trans hqueue', ?_⟩
    rw [doTakeTimeout_some hd hs, State.logEvent_rd_page (by decide)]
    exact State.raise_self .hms 0 1

end Sys2Proof.Machine

/-! The harbourmaster completes (R395, R397): an item that is done, failed or cancelled is freed, or its record is written first. -/

namespace Sys2Proof.Machine
open Sys2Proof

variable {s : State} {a : Accessor}

/-! ## The accesses -/

theorem exec_hmsDone {m : Fin 16} (h : s.accessCode (.core m) .hms 0 0x64 true = 0) (hu : s.unheld (.core m)) (v : W32) :
    exec (.hmsDone (.core m) v) s = .next (s.completeTop (.core m) 0x64 1 v) :=
  congrArg Host.Outcome.next ((State.access_ok h _).trans (State.hmsAccess_write hu _ v))

theorem exec_hmsFail {m : Fin 16} (h : s.accessCode (.core m) .hms 0 0x68 true = 0) (hu : s.unheld (.core m)) (v : W32) :
    exec (.hmsFail (.core m) v) s = .next (s.completeTop (.core m) 0x68 2 v) :=
  congrArg Host.Outcome.next ((State.access_ok h _).trans (State.hmsAccess_write hu _ v))

theorem exec_hmsCancel (h : s.accessCode a .hms 0 0x58 true = 0) (hu : s.unheld a) (v : W32) :
    exec (.hmsCancel a v) s = .next (s.cancelItem a v) :=
  congrArg Host.Outcome.next ((State.access_ok h _).trans (State.hmsAccess_write hu _ v))

theorem exec_completionRecordResponse (tag : Fin 64) (status : Fin 8) : exec (.completionRecordResponse tag status) s =
    .next (doCompletionRecordResponse tag.val status.val s) := rfl

/-! ## An item's completion (R395) -/

/-- The last steps of a completion free the descriptor and leave the rest of the harbourmaster's data. -/
theorem State.finishItem_hms (i : HmsItem) :
    (s.finishItem i).hms = { s.hms with state := SMap.set 0 s.hms.state i.idx 0 } := by
  have hsoft : ∀ n, (s.setSoft n).hms = s.hms := fun n =>
    (State.setSoft_keeps (M := 141837335527425) rfl (Keeps.refl _ s)).same .hms rfl
  unfold State.finishItem
  extract_lets s1
  have hs1 : s1.hms = s.hms := by
    unfold s1
    split
    · exact hsoft _
    · rfl
  rw [State.showHms_hms, State.setItem_hms, hs1]

theorem State.quayStatus_hms (node status addr : Nat) : (s.quayStatus node status addr).hms = s.hms :=
  (State.quayStatus_keeps (M := 1099847172097) rfl (Keeps.refl _ s)).same .hms rfl

theorem State.quaySend_hms (node tag op addr be : Nat) (data : List W128) : (s.quaySend node tag op addr be data).hms = s.hms :=
  (State.quaySend_keeps (M := 2305843009213693953) rfl (Keeps.refl _ s)).same .hms rfl

theorem State.quayTake_hms (node status addr : Nat) : (s.quayTake node status addr).hms = s.hms :=
  (State.quayTake_keeps (M := 2305844109060866049) rfl (Keeps.refl _ s)).same .hms rfl

/-- What a completion may change of the harbourmaster's data: the item's state, and the records on their way. -/
structure Hms.Completes (i : Nat) (h h' : Hms) : Prop where
  coreStacks : h'.coreStacks = h.coreStacks
  queues : h'.queues = h.queues
  state : h'.state = h.state ∨ h'.state = SMap.set 0 h.state i 0

theorem State.finishItem_completes (i : HmsItem) : Hms.Completes i.idx s.hms (s.finishItem i).hms := by
  rw [State.finishItem_hms]
  exact ⟨rfl, rfl, .inr rfl⟩

/-- A record's send: it goes out under a free tag, waits for room, or has no way to go and the item is finished. -/
theorem State.sendRecord_cases (i : HmsItem) (w : W128) :
    (s.sendRecord i w).hms = { s.hms with state := SMap.set 0 s.hms.state i.idx 0 } ∨
    (64 ≤ s.hms.completing.length ∧ (s.sendRecord i w).hms = { s.hms with unsent := s.hms.unsent ++ [(i, w)] }) ∨
    (s.sendRecord i w).hms = { s.hms with
      completing := s.hms.completing ++ [⟨freeTag (s.hms.completing.map (fun c => c.tag)), i⟩] } := by
  unfold State.sendRecord
  extract_lets addr tag
  split
  · rw [State.finishItem_hms, State.quayStatus_hms]
    exact .inl rfl
  · split
    · rw [State.finishItem_hms, State.quayStatus_hms]
      exact .inl rfl
    · split
      next hfull =>
        rw [State.showHms_hms]
        exact .inr (.inl ⟨hfull, rfl⟩)
      · rw [State.showHms_hms, State.modHms_hms, State.quaySend_hms]
        exact .inr (.inr rfl)

theorem State.sendRecord_completes (i : HmsItem) (w : W128) : Hms.Completes i.idx s.hms (s.sendRecord i w).hms := by
  rcases State.sendRecord_cases i w with h | ⟨-, h⟩ | h <;> rw [h]
  · exact ⟨rfl, rfl, .inr rfl⟩
  · exact ⟨rfl, rfl, .inl rfl⟩
  · exact ⟨rfl, rfl, .inl rfl⟩

theorem State.completeItem_completes (i : HmsItem) (core status result : Nat) :
    Hms.Completes i.idx s.hms (s.completeItem i core status result).hms := by
  unfold State.completeItem
  split
  · exact State.finishItem_completes i
  · exact State.sendRecord_completes i _

/-- Without a RESULT_ADDR the descriptor is free at once. -/
theorem State.completeItem_free {i : HmsItem} (h : descResult i.head = 0) (core status result : Nat) :
    (s.completeItem i core status result).itemState i.idx = 0 := by
  rw [State.completeItem, if_pos h, State.itemState, State.finishItem_hms, SMap.get_set_self]

/-- A record whose address has a way to go leaves quay 38 under a free tag. -/
theorem State.completeItem_sent {i : HmsItem} {d : Nat} (h : descResult i.head ≠ 0)
    (hn : s.nodeOfAddress (.fw 0) (descResult i.head) = some d) (hr : s.routeOk 38 d = true) (hq : s.quayIsDead 38 = false)
    (hl : s.hms.completing.length < 64) (core status result : Nat) :
    (s.completeItem i core status result).hms.completing =
      s.hms.completing ++ [⟨freeTag (s.hms.completing.map (fun c => c.tag)), i⟩] ∧
    (s.completeItem i core status result).outbox = s.outbox ++ [.nocReq 38 (freeTag (s.hms.completing.map (fun c => c.tag))) 1
      (descResult i.head) 65535 [completionRecord i core status result]] := by
  rw [State.completeItem, if_neg h]
  simp only [State.sendRecord, hn, hr, Bool.not_true, Bool.false_eq_true, if_false, if_neg (Nat.not_le.2 hl)]
  rw [State.quaySend_alive hq, State.showHms_hms, State.showHms_outbox]
  exact ⟨rfl, rfl⟩

/-! ## DONE and FAIL (R395) -/

/-- A core's top item has left its stack. -/
def State.popItem (s : State) (m : Nat) (rest : List HmsItem) : State := (s.setStack m rest).showStack m

theorem State.completeTop_item {m : Fin 16} {i : HmsItem} {rest : List HmsItem} (h : s.hmsStack m.val = i :: rest)
    (off status : Nat) (v : W32) : s.completeTop (.core m) off status v =
      ((s.popItem m.val rest).completeItem i m.val status v.toNat).respond (.core m) true 0 := by
  simp only [State.completeTop, h, State.popItem]

theorem State.popItem_hms (m : Nat) (rest : List HmsItem) :
    (s.popItem m rest).hms = { s.hms with coreStacks := SMap.set [] s.hms.coreStacks m rest } := by
  rw [State.popItem, State.showStack_hms, State.setStack_hms]

theorem State.popItem_rd {g : Fld} (h : g.page ≠ .hms) (m : Nat) (rest : List HmsItem) (d : Nat) :
    (s.popItem m rest).rd g d = s.rd g d := by
  unfold State.popItem State.showStack
  extract_lets st
  have hw : ∀ f : Fld, f.page = .hms → f.apart g = true := fun f hf => Fld.apart_of_page (hf ▸ h.symm)
  split
  rw [State.rd_wr_apart (hw _ rfl), State.rd_wr_apart (hw _ rfl), State.rd_wr_apart (hw _ rfl), State.rd_wr_apart (hw _ rfl)]
  rfl

theorem State.popItem_frame (m : Nat) (rest : List HmsItem) :
    (s.popItem m rest).outbox = s.outbox ∧ (s.popItem m rest).selects = s.selects := by
  have hk := State.showStack_keeps (M := 282574488338432) (a1 := m) rfl (Keeps.refl _ (s.setStack m rest))
  obtain ⟨hselects, -⟩ := hk.same .access rfl
  exact ⟨hk.same .out rfl, hselects⟩

theorem State.popItem_stack {i : HmsItem} (m : Nat) (rest : List HmsItem) (core status result : Nat) :
    ((s.popItem m rest).completeItem i core status result).hmsStack m = rest := by
  rw [State.hmsStack, (State.completeItem_completes i core status result).coreStacks, State.popItem_hms, SMap.get_set_self]

/-- The way to an address rests on the selects and the routes, which the core's stack leaves. -/
theorem State.popItem_route (m : Nat) (rest : List HmsItem) :
    (∀ b addr, (s.popItem m rest).nodeOfAddress b addr = s.nodeOfAddress b addr) ∧
    (∀ n d, (s.popItem m rest).routeOk n d = s.routeOk n d) ∧ (∀ n, (s.popItem m rest).quayIsDead n = s.quayIsDead n) := by
  have hrd : ∀ g : Fld, g.page = .noc → ∀ d, (s.popItem m rest).rd g d = s.rd g d := fun g hg =>
    State.popItem_rd (hg ▸ by decide) m rest
  refine ⟨fun b addr => ?_, fun n d => ?_, fun n => ?_⟩
  · simp only [State.nodeOfAddress, State.channel, (State.popItem_frame m rest).2]
  · simp only [State.routeOk, State.on, hrd (R.NOC_ROUTE.VALID d) rfl, hrd (R.NOC_ROUTE.ROUTE d) rfl]
  · simp only [State.quayIsDead, State.on, hrd R.NOC_STATUS.DEAD rfl]

/-- The record of the core's top item leaves quay 38. -/
theorem State.popItem_sent {i : HmsItem} {d : Nat} (h : descResult i.head ≠ 0)
    (hn : s.nodeOfAddress (.fw 0) (descResult i.head) = some d) (hr : s.routeOk 38 d = true) (hq : s.quayIsDead 38 = false)
    (hl : s.hms.completing.length < 64) (m : Nat) (rest : List HmsItem) (core status result : Nat) :
    ((s.popItem m rest).completeItem i core status result).hms.completing =
      s.hms.completing ++ [⟨freeTag (s.hms.completing.map (fun c => c.tag)), i⟩] ∧
    ((s.popItem m rest).completeItem i core status result).outbox = s.outbox ++
      [.nocReq 38 (freeTag (s.hms.completing.map (fun c => c.tag))) 1 (descResult i.head) 65535
        [completionRecord i core status result]] := by
  obtain ⟨hnode, hroute, hdead⟩ := State.popItem_route (s := s) m rest
  have hhms := State.popItem_hms (s := s) m rest
  have hsent := State.completeItem_sent (s := s.popItem m rest) h ((hnode _ _).trans hn) ((hroute _ _).trans hr)
    ((hdead _).trans hq) (by rw [hhms]; exact hl) core status result
  rw [(State.popItem_frame m rest).1, hhms] at hsent
  exact hsent

/-! ## The record's response (R395, R400) -/

/-- The answered record has left the outstanding ones. -/
def State.takeRecord (s : State) (tag status : Nat) (c : HmsDone) : State :=
  ((s.modHms (fun h => { h with completing := h.completing.filter (fun x => x.tag != tag) })).quayTake 38 status
    (descResult c.item.head)).finishItem c.item

theorem doCompletionRecordResponse_found {tag : Nat} {c : HmsDone} (h : s.hms.completing.find? (fun c => c.tag == tag) = some c)
    (status : Nat) : doCompletionRecordResponse tag status s = (s.takeRecord tag status c).sendUnsent := by
  simp only [doCompletionRecordResponse, h, State.takeRecord]

theorem State.takeRecord_hms (tag status : Nat) (c : HmsDone) : (s.takeRecord tag status c).hms = { s.hms with
    completing := s.hms.completing.filter (fun x => x.tag != tag)
    state := SMap.set 0 s.hms.state c.item.idx 0 } := by
  rw [State.takeRecord, State.finishItem_hms, State.quayTake_hms, State.modHms_hms]

theorem State.sendUnsent_none (h : s.hms.unsent = []) : s.sendUnsent = s := by
  simp only [State.sendUnsent, h]

theorem State.sendUnsent_cons {i : HmsItem} {w : W128} {r : List (HmsItem × W128)} (h : s.hms.unsent = (i, w) :: r) :
    s.sendUnsent = (s.modHms (fun h => { h with unsent := r })).sendRecord i w := by
  simp only [State.sendUnsent, h]

/-- A free descriptor stays free when the next record goes out. -/
theorem State.sendUnsent_free {j : Nat} (h : s.itemState j = 0) : s.sendUnsent.itemState j = 0 := by
  rcases hu : s.hms.unsent with _ | ⟨⟨i, w⟩, r⟩
  · rw [State.sendUnsent_none hu, h]
  · rw [State.sendUnsent_cons hu, State.itemState]
    rcases (State.sendRecord_completes (s := s.modHms (fun h => { h with unsent := r })) i w).state with hs | hs <;> rw [hs]
    · exact h
    · rw [SMap.get_set]
      split
      · rfl
      · exact h

theorem State.sendUnsent_rest {u : HmsItem × W128} {r : List (HmsItem × W128)} (h : s.hms.unsent = u :: r)
    (hl : s.hms.completing.length < 64) : s.sendUnsent.hms.unsent = r := by
  obtain ⟨i, w⟩ := u
  rw [State.sendUnsent_cons h]
  rcases State.sendRecord_cases (s := s.modHms (fun h => { h with unsent := r })) i w with hs | ⟨hfull, -⟩ | hs
  · rw [hs, State.modHms_hms]
  · exact absurd hfull (Nat.not_le.2 hl)
  · rw [hs, State.modHms_hms]

/-- Taking the answered record makes room in the quay. -/
theorem filter_tag_lt {l : List HmsDone} {tag : Nat} {c : HmsDone} (h : l.find? (fun c => c.tag == tag) = some c) :
    (l.filter (fun x => x.tag != tag)).length < l.length := by
  refine List.length_filter_lt_length_iff_exists.2 ⟨c, List.mem_of_find?_eq_some h, ?_⟩
  have htag := List.find?_some h
  simpa using htag

/-! ## Cancelling (R397) -/

theorem State.cancelItem_queued {v : W32} {l : Nat} {ws : List W128} {s1 : State}
    (hq : (List.range 8).find? (fun l => (s.hmsQueue l).contains (bitsOf v.toNat 0 12)) = some l)
    (hp : s.poolLoad (s.poolWord (bitsOf v.toNat 0 12) 0) 4 = (some ws, s1)) : s.cancelItem a v =
      ((s1.free.2.setQueue l ((s1.free.2.hmsQueue l).filter (fun x => x != bitsOf v.toNat 0 12))).completeItem
        ⟨bitsOf v.toNat 0 12, l, ws⟩ (wordOf s1.free.1 1) 3 (wordOf s1.free.1 0)).respond a true 0 := by
  simp only [State.cancelItem, hq, hp]

/-- Settles O41: DONE and FAIL take the core's top item, whose descriptor is freed or whose record is sent under a free tag; the
record's response frees it and lets the next record out; a cancelled item leaves its queue. -/
theorem harbourmasterCompletes : Obligations.HarbourmasterCompletes := by
  unfold Obligations.HarbourmasterCompletes
  refine ⟨fun m v i rest s hu hst => ⟨fun h => ?done, fun h => ?fail⟩, fun tag status c s hc => ?response,
    fun a v l ws s s1 h hu hq hp => ?cancel⟩
  case done =>
    refine ⟨_, exec_hmsDone h hu v, ?_⟩
    rw [State.completeTop_item hst]
    refine ⟨State.popItem_stack .., fun h0 => State.completeItem_free h0 .., fun h0 d hn hr hq hl => ?_⟩
    obtain ⟨hcompleting, hsent⟩ := State.popItem_sent h0 hn hr hq hl m.val rest m.val 1 v.toNat
    refine ⟨hcompleting, ?_⟩
    rw [State.respond_outbox, hsent, List.append_assoc]
    rfl
  case fail =>
    refine ⟨_, exec_hmsFail h hu v, ?_⟩
    rw [State.completeTop_item hst]
    refine ⟨State.popItem_stack .., fun h0 => State.completeItem_free h0 .., fun h0 d hn hr hq hl => ?_⟩
    rw [State.respond_outbox, (State.popItem_sent h0 hn hr hq hl m.val rest m.val 2 v.toNat).2, List.append_assoc]
    rfl
  case response =>
    refine ⟨_, exec_completionRecordResponse tag status, ?_⟩
    rw [doCompletionRecordResponse_found hc]
    have hhms := State.takeRecord_hms (s := s) tag.val status.val c
    refine ⟨State.sendUnsent_free ?_, fun hu => ?_, fun u r hu hl => State.sendUnsent_rest (u := u) ?_ ?_⟩
    · rw [State.itemState, hhms, SMap.get_set_self]
    · rw [State.sendUnsent_none (by rw [hhms]; exact hu), hhms]
    · rw [hhms]
      exact hu
    · rw [hhms]
      exact (filter_tag_lt hc).trans_le hl
  case cancel =>
    refine ⟨_, exec_hmsCancel h hu v, ?_⟩
    rw [State.cancelItem_queued hq hp]
    refine ⟨?_, fun h0 => State.completeItem_free (i := ⟨bitsOf v.toNat 0 12, l, ws⟩) h0 ..⟩
    have hhms : s1.hms = s.hms := by rw [← State.poolLoad_hms (s := s) (s.poolWord (bitsOf v.toNat 0 12) 0) 4, hp]
    rw [State.hmsQueue, State.respond_hms, (State.completeItem_completes ..).queues, State.setQueue_hms, SMap.get_set_self]
    exact congrArg (List.filter _) ((State.hms_views hhms).2.1 l)

end Sys2Proof.Machine

/-! The acquisition units (R412 to R424): ARM, STOP and FORCE, a taken sample, a buffer write and its response. -/

namespace Sys2Proof.Machine
open Sys2Proof

variable {s : State} {u : Nat}

/-- A unit's own data rest on the units' store alone. -/
theorem State.acq_of {t : State} (h : t.acqs = s.acqs) (u : Nat) : t.acq u = s.acq u := by rw [State.acq, State.acq, h]

@[simp] theorem State.modAcq_acqState (f : Acq → Acq) (v : Nat) : (s.modAcq u f).acqState v = s.acqState v := rfl

theorem State.acqState_wr (v : Nat) : (s.wr R.ACQ_STATUS.STATE u v).acqState u = v % 2 ^ 3 := State.rd_wr_self _ _ _

/-! ## Commands (R421, R424) -/

theorem exec_arm {a : Accessor} {u : Fin 4} (h : s.accessCode a .acq u.val 0x40 true = 0) :
    exec (.arm a u) s = .next (doArm a u.val s) := congrArg Host.Outcome.next (State.access_ok h _)

theorem exec_acqStop {a : Accessor} {u : Fin 4} (h : s.accessCode a .acq u.val 0x40 true = 0) :
    exec (.acqStop a u) s = .next (doAcqStop a u.val s) := congrArg Host.Outcome.next (State.access_ok h _)

theorem exec_force {a : Accessor} {u : Fin 4} (h : s.accessCode a .acq u.val 0x40 true = 0) :
    exec (.force a u) s = .next (doForce a u.val s) := congrArg Host.Outcome.next (State.access_ok h _)

/-- A key that is set to 0 reads 0, whatever its other keys read unlisted. -/
theorem SMap.get_set_zero (e : Nat) (m : SMap Nat) (q : Nat) : SMap.get 0 (SMap.set e m q 0) q = 0 := by
  by_cases he : e = 0
  · rw [he, SMap.get_set_self]
  · rw [SMap.set, if_neg (Ne.symm he), SMap.get_put, if_pos rfl]

/-- Writing 0 to any field leaves a field that is 0 out of reset at 0. -/
theorem State.rd_wr_zero {f g : Fld} {c d : Nat} (hg : g.reset = 0) (h : s.rd g d = 0) : (s.wr f c 0).rd g d = 0 := by
  by_cases hk : g.key d = f.key c
  · rw [State.rd, hg, hk, State.wr, Nat.zero_mod]
    exact SMap.get_set_zero _ _ _
  · rw [State.rd_wr_key hk, h]

/-- Each field of a list that is cleared in turn reads 0. -/
theorem State.rd_foldl_clear {g : Fld} {l : List Fld} (h : g ∈ l) (hg : g.reset = 0) (c : Nat) : (l.foldl (fun t f => t.wr f c 0) s).rd g c = 0 := by
  obtain ⟨l1, l2, rfl⟩ := List.append_of_mem h
  rw [List.foldl_append, List.foldl_cons]
  exact List.foldlRecOn (motive := fun t : State => t.rd g c = 0) _ _ ((State.rd_wr_self _ _ _).trans (Nat.zero_mod _))
    (fun t ht f _ => State.rd_wr_zero hg ht)

/-- The unit's registers and data as ARM clears them. -/
def State.armClear (s : State) (u : Nat) : State :=
  (armCleared.foldl (fun s f => s.wr f u 0) s).modAcq u
    (fun x => { ({} : Acq) with out := x.out.map (fun o => (o.1, o.2.1, false)) })

theorem State.armClear_rd {g : Fld} (h : g ∈ armCleared) (hg : g.reset = 0) : (s.armClear u).rd g u = 0 := by
  rw [State.armClear, State.modAcq_rd, State.rd_foldl_clear h hg]

theorem State.foldl_clear_outbox (l : List Fld) (c : Nat) : (l.foldl (fun t f => t.wr f c 0) s).outbox = s.outbox :=
  List.foldlRecOn (motive := fun t : State => t.outbox = s.outbox) _ _ rfl (fun _ ht _ _ => ht)

theorem State.armClear_outbox : (s.armClear u).outbox = s.outbox := by
  rw [State.armClear, State.modAcq_outbox, State.foldl_clear_outbox]

theorem doArm_cleared {a : Accessor} (hs : s.acqState u = 0 ∨ s.acqState u = 4 ∨ s.acqState u = 5) (hm : s.mayArm u = true) :
    doArm a u s = ((s.armClear u).wr R.ACQ_STATUS.STATE u (if s.rd R.ACQ_MIN_PRE.SAMPLES u = 0 then 2 else 1)).respond a true 0 := by
  have hst : (s.acqState u == 0 || s.acqState u == 4 || s.acqState u == 5) = true := by
    rcases hs with h | h | h <;> rw [h] <;> rfl
  unfold doArm
  extract_lets st s1 x0 s2
  have hgo : (!(st == 0 || st == 4 || st == 5) || !s.mayArm u) = false := by
    rw [hm]
    change (!(s.acqState u == 0 || s.acqState u == 4 || s.acqState u == 5) || !true) = false
    rw [hst]
    rfl
  rw [hgo, if_neg Bool.false_ne_true]
  have h2 : s2 = s.armClear u := by
    unfold State.armClear s2 s1
    with_reducible rfl
  clear_value s2
  rw [h2]

theorem doArm_refused {a : Accessor} (hm : s.mayArm u = false) : doArm a u s = s.refuseAcq a u := by
  unfold doArm
  extract_lets st s1 s2
  rw [hm, Bool.not_false, Bool.or_true, if_pos rfl]

/-- The registers that ARM clears and STATE take no word of the unit's own data. -/
theorem State.armClear_acq : ((s.armClear u).acq u).fifo = [] ∧ ((s.armClear u).acq u).events = 0 ∧
    ((s.armClear u).acq u).ending = false := by
  rw [State.armClear, State.acq_modAcq]
  exact ⟨rfl, rfl, rfl⟩

theorem doAcqStop_ends {a : Accessor} (h : s.acqState u = 1 ∨ s.acqState u = 2) :
    doAcqStop a u s = (s.endCapture u).respond a true 0 := by
  unfold doAcqStop
  extract_lets st
  rw [if_pos h]

theorem doForce_armed {a : Accessor} (h : s.acqState u = 2) :
    doForce a u s = (s.modAcq u (fun x => { x with force := true })).respond a true 0 := by
  rw [doForce, if_pos h]

/-- What the end of a capture leaves of the unit's own data: no sample is due, and it waits for its writes. -/
def State.stopAcq (s : State) (u : Nat) : State := s.modAcq u (fun x => { x with ending := true, due := [] })

theorem State.stopAcq_acq : (s.stopAcq u).acq u = { s.acq u with ending := true, due := [] } := State.acq_modAcq ..

/-- With no block open, the end of a capture waits for the unit's writes alone. -/
theorem State.endCapture_closed (h : (s.acq u).blk = none) : s.endCapture u = (s.stopAcq u).checkDone u := by
  rw [State.endCapture, State.closeBlock, h]
  rfl

/-- An ended capture with nothing left to write is done. -/
theorem State.checkDone_done (he : (s.acq u).ending = true) (hf : (s.acq u).fifo = [])
    (ho : (s.acq u).out.any (fun o => o.2.2) = false) :
    (s.checkDone u).acqState u = 4 ∧ (s.checkDone u).rd (intBit .acq 1) u = 1 := by
  unfold State.checkDone
  extract_lets x
  rw [if_pos (by rw [show x = s.acq u from rfl, he, hf, ho]; rfl)]
  refine ⟨?_, State.raise_self _ _ _⟩
  rw [State.acqState, State.raise_rd_apart (Fld.apart_of (by decide)), State.modAcq_rd, State.rd_wr_self]
  rfl

theorem State.checkDone_waits (h : (s.acq u).fifo ≠ []) : s.checkDone u = s := by
  unfold State.checkDone
  extract_lets x
  rw [if_neg]
  rw [show x.fifo.isEmpty = false from List.isEmpty_eq_false_iff.2 h, Bool.and_false, Bool.false_and]
  exact Bool.false_ne_true

/-! ## A taken sample (R412, R419, R422) -/

theorem exec_acqSample (u : Fin 4) : exec (.acqSample u) s = .next (doAcqSample u.val s) := rfl

/-- The oldest taken sample is not due any more. -/
def State.takeDue (s : State) (u : Nat) (rest : List (Option AcqSample)) : State := s.modAcq u (fun y => { y with due := rest })

theorem doAcqSample_due {x : AcqSample} (hc : s.capturing u = true) (hk : s.rd R.ACQ_CTRL.CLK_SRC u ≠ 2)
    (hd : (s.acq u).due = [some x]) : doAcqSample u s = (s.takeDue u []).takeSample u x := by
  unfold doAcqSample
  rw [hc, if_neg (by decide)]
  extract_lets s1
  have h1 : s1 = s := if_neg (fun h => hk h.1)
  rw [h1, hd]
  rfl

/-- A sample that finds room and an open block goes behind the queue, into the block. -/
def AcqBlock.store (b : AcqBlock) (p : W128) (y : Acq) : Acq :=
  { y with fifo := y.fifo ++ [⟨16 * b.block + 1 + b.count, p, true⟩], blk := some { b with count := b.count + 1 } }

theorem State.storeSample_open {x : AcqSample} {b : AcqBlock} (hl : ((s.acq u).fifo.filter (fun w => w.sample)).length < 1024)
    (hb : (s.acq u).blk = some b) :
    s.storeSample u x = (some (16 * b.block + 1 + b.count), s.modAcq u (b.store x.probe)) := by
  have ho : s.openBlock u x = s := by simp only [State.openBlock, hb]
  rw [State.storeSample, if_neg (Nat.not_le.2 hl)]
  simp only [ho, hb]
  rfl

/-- A sample in Prefill is counted, and the MIN_PRE-th arms the unit (R422). -/
theorem State.sampleState_prefill (h : s.acqState u = 1) (x : AcqSample) (word : Option Nat) :
    (s.sampleState u x word).acqState u = (if s.rd R.ACQ_MIN_PRE.SAMPLES u ≤ (s.acq u).taken + 1 then 2 else 1) ∧
    ∃ n, (s.sampleState u x word).acq u = { s.acq u with taken := (s.acq u).taken + 1, autoNs := n } := by
  simp only [State.sampleState, h, State.acq_modAcq, State.modAcq_rd]
  split
  · rw [State.modAcq_acqState, State.acqState_wr, State.acq_modAcq, State.acq_of (State.wr_acqs ..), State.acq_modAcq]
    exact ⟨rfl, 0, rfl⟩
  · rw [State.modAcq_acqState, State.acq_modAcq]
    exact ⟨h, (s.acq u).autoNs, rfl⟩

/-- A sample taken in Prefill with room in the queue and in the open block is stored and counted. -/
theorem State.takeSample_prefill {x : AcqSample} {b : AcqBlock} (h : s.acqState u = 1)
    (hl : ((s.acq u).fifo.filter (fun w => w.sample)).length < 1024) (hb : (s.acq u).blk = some b) (hc : b.count < 14) :
    (s.takeSample u x).acqState u = (if s.rd R.ACQ_MIN_PRE.SAMPLES u ≤ (s.acq u).taken + 1 then 2 else 1) ∧
    ∃ n, (s.takeSample u x).acq u =
      { b.store x.probe (s.acq u) with taken := (s.acq u).taken + 1, autoNs := n, prev := some x.probe } := by
  obtain ⟨hstate, n, hacq⟩ := State.sampleState_prefill (s := s.modAcq u (b.store x.probe)) h x (some (16 * b.block + 1 + b.count))
  rw [State.modAcq_rd, State.acq_modAcq] at hstate
  rw [State.acq_modAcq] at hacq
  have hgo : s.takeSample u x = ((s.modAcq u (b.store x.probe)).sampleState u x (some (16 * b.block + 1 + b.count))).modAcq u
      (fun y => { y with prev := some x.probe }) := by
    rw [State.takeSample, State.storeSample_open hl hb]
    simp only [State.acq_modAcq, hacq]
    have hblk : (b.store x.probe (s.acq u)).blk = some { b with count := b.count + 1 } := rfl
    simp only [hblk]
    rw [if_neg (show b.count + 1 ≠ 15 by omega), State.modAcq_acqState, hstate, if_neg]
    intro h3
    have hne := h3.1
    split at hne <;> exact absurd hne (by decide)
  rw [hgo, State.modAcq_acqState, State.acq_modAcq, hacq]
  exact ⟨hstate, n, rfl⟩

/-! ## Buffer writes (R417 to R419) -/

theorem exec_acqBufferWrite (u : Fin 4) : exec (.acqBufferWrite u) s = .next (doAcqBufferWrite u.val s) := rfl

theorem exec_acqWriteResponse (u : Fin 4) (tag : Fin 64) (status : Fin 8) :
    exec (.acqWriteResponse u tag status) s = .next (doAcqWriteResponse u.val tag.val status.val s) := rfl

/-- The shown write position leaves everything but registers of the unit's page. -/
theorem State.showWrite_frame (w : Nat) : (s.showWrite u w).acqs = s.acqs ∧ (s.showWrite u w).outbox = s.outbox ∧
    ∀ g : Fld, g.page ≠ .acq → ∀ d, (s.showWrite u w).rd g d = s.rd g d := by
  have hw : ∀ f g : Fld, f.page = .acq → g.page ≠ .acq → f.apart g = true := fun f g hf hg => Fld.apart_of_page (hf ▸ hg.symm)
  unfold State.showWrite
  extract_lets b s1
  have h1 : s1.acqs = s.acqs ∧ s1.outbox = s.outbox ∧ ∀ g : Fld, g.page ≠ .acq → ∀ d, s1.rd g d = s.rd g d := by
    unfold s1
    split
    · exact ⟨rfl, rfl, fun g hg d => State.rd_wr_apart (hw R.ACQ_STATUS.WRAPPED g rfl hg) _ _ _⟩
    · exact ⟨rfl, rfl, fun _ _ _ => rfl⟩
  obtain ⟨hacqs, hout, hrd⟩ := h1
  exact ⟨hacqs, hout, fun g hg d => (State.rd_wr_apart (hw R.ACQ_WR_POS.BLOCK g rfl hg) _ _ _).trans (hrd g hg d)⟩

/-- The oldest queued word, on its way to its bank under a tag. -/
def State.takeWord (s : State) (u : Nat) (rest : List AcqWord) (tag addr : Nat) : State :=
  (s.modAcq u (fun x => { x with fifo := rest })).modAcq u (fun x => { x with out := x.out ++ [(tag, addr, true)] })

theorem doAcqBufferWrite_sends {w : AcqWord} {rest : List AcqWord} {tag : Nat} (hf : (s.acq u).fifo = w :: rest)
    (ht : (List.range 64).find? (fun t => !(s.acq u).out.any (fun o => o.1 == t)) = some tag)
    (hr : s.routeOk (28 + u) ((s.acqPlace u w.word).1 / 8) = true) : doAcqBufferWrite u s =
      ((s.takeWord u rest tag (bankAddress (s.acqPlace u w.word).1 (s.acqPlace u w.word).2)).showWrite u w.word).quaySend (28 + u)
        tag 1 (bankAddress (s.acqPlace u w.word).1 (s.acqPlace u w.word).2) 65535 [w.data] := by
  simp only [doAcqBufferWrite, hf, ht]
  exact if_pos hr

/-- A write's response takes it off the outstanding ones. -/
def State.takeWrite (s : State) (u tag status addr : Nat) : State :=
  (s.quayTake (28 + u) status addr).modAcq u (fun x => { x with out := x.out.filter (fun y => y.1 != tag) })

theorem doAcqWriteResponse_found {tag : Nat} {o : Nat × Nat × Bool} (h : (s.acq u).out.find? (fun o => o.1 == tag) = some o)
    (status : Nat) : doAcqWriteResponse u tag status s =
      if !o.2.2 then s.takeWrite u tag status o.2.1
      else if status ≠ 0 then (s.takeWrite u tag status o.2.1).acqError u status o.2.1
      else (s.takeWrite u tag status o.2.1).checkDone u := by
  simp only [doAcqWriteResponse, h, State.takeWrite]

theorem State.takeWrite_frame (tag status addr : Nat) :
    (s.takeWrite u tag status addr).acq u = { s.acq u with out := (s.acq u).out.filter (fun y => y.1 != tag) } ∧
    (s.takeWrite u tag status addr).acqState u = s.acqState u := by
  have hk := State.quayTake_keeps (M := 2305844109060866049) (a1 := 28 + u) (a2 := status) (a3 := addr) rfl (Keeps.refl _ s)
  obtain ⟨-, -, hacqs, -⟩ := hk.same .acq rfl
  constructor
  · rw [State.takeWrite, State.acq_modAcq, State.acq_of hacqs]
  · rw [State.takeWrite, State.modAcq_acqState]
    exact hk.rd_plain (g := R.ACQ_STATUS.STATE) rfl rfl u

theorem State.checkDone_out : ((s.checkDone u).acq u).out = (s.acq u).out := by
  unfold State.checkDone
  extract_lets x
  split
  · rw [State.acq_of (State.raise_acqs ..), State.acq_modAcq, State.acq_of (State.wr_acqs ..)]
  · rfl

/-- A failed write stops the unit: Error, its queue discarded, and the page's interrupt (R418). -/
theorem State.acqError_effect (h : s.acqState u ≠ 5) (status addr : Nat) : (s.acqError u status addr).acqState u = 5 ∧
    ((s.acqError u status addr).acq u).fifo = [] ∧ (s.acqError u status addr).rd (intBit .acq 3) u = 1 ∧
    ((s.acqError u status addr).acq u).out = (s.acq u).out := by
  unfold State.acqError
  rw [if_neg h]
  extract_lets s1
  refine ⟨?_, ?_, State.raise_self .acq u 3, ?_⟩
  · rw [State.acqState, State.raise_rd_apart (Fld.apart_of (by decide)), State.modAcq_rd, State.err_rd _ _ _ _ _ rfl]
    exact (State.rd_wr_apart (Fld.apart_of (by decide)) _ _ _).trans (State.rd_wr_self ..)
  · rw [State.acq_of (State.raise_acqs ..), State.acq_modAcq]
  · rw [State.acq_of (State.raise_acqs ..), State.acq_modAcq, State.acq_of (State.err_acqs ..)]
    rfl

theorem doAcqWriteResponse_out {tag : Nat} {o : Nat × Nat × Bool} (h : (s.acq u).out.find? (fun o => o.1 == tag) = some o)
    (status : Nat) : ((doAcqWriteResponse u tag status s).acq u).out = (s.acq u).out.filter (fun y => y.1 != tag) := by
  have hout := congrArg Acq.out (State.takeWrite_frame (s := s) (u := u) tag status o.2.1).1
  rw [doAcqWriteResponse_found h]
  split
  · exact hout
  · split
    · by_cases h5 : (s.takeWrite u tag status o.2.1).acqState u = 5
      · rw [State.acqError, if_pos h5]
        exact hout
      · exact (State.acqError_effect h5 _ _).2.2.2.trans hout
    · exact State.checkDone_out.trans hout

/-- Settles O43: ARM clears the unit and starts it or is refused, STOP ends the capture at once or when its words are written,
FORCE is pending; a sample in Prefill is stored and counted; a queued word goes to its bank, and a failed write is an error. -/
theorem acquisitionCaptures : Obligations.AcquisitionCaptures := by
  unfold Obligations.AcquisitionCaptures
  refine ⟨fun a u s h => ⟨fun hs hm => ?arm, fun hm => ?refused, fun hs hb => ⟨fun hf ho => ?stop, fun hf => ?waits⟩,
    fun hs => ?force⟩, fun u x b s hc hk hd hs hl hb hn => ?sample, fun u w rest tag s hf ht hr hq => ?write,
    fun u tag status o s ho => ?response⟩
  case arm =>
    refine ⟨_, exec_arm h, ?_⟩
    rw [doArm_cleared hs hm, State.acq_of (State.respond_acqs ..), State.acq_of (State.wr_acqs ..), State.respond_outbox,
      State.wr_outbox, State.armClear_outbox]
    obtain ⟨hfifo, hevents, hending⟩ := State.armClear_acq (s := s) (u := u.val)
    have hclear : ∀ g ∈ armCleared, g.reset = 0 → R.ACQ_STATUS.STATE.apart g = true → ∀ v,
        ((s.armClear u.val).wr R.ACQ_STATUS.STATE u.val v).rd g u.val = 0 := fun g hg h0 ha v =>
      (State.rd_wr_apart ha _ _ _).trans (State.armClear_rd hg h0)
    rw [State.acqState, State.respond_rd, State.respond_rd, State.respond_rd, State.respond_rd]
    refine ⟨(State.acqState_wr _).trans ?_, hfifo, hevents, hending, hclear R.ACQ_DROPPED.COUNT (by decide) rfl (by decide) _,
      hclear R.ACQ_STATUS.TRIGGERED (by decide) rfl (by decide) _, hclear R.ACQ_STATUS.SEQ_STATE (by decide) rfl (by decide) _, rfl⟩
    split <;> rfl
  case refused =>
    refine ⟨_, exec_arm h, ?_⟩
    rw [doArm_refused hm]
    refine ⟨?_, State.errReg_acqs .., State.err_valid ..⟩
    exact State.errReg_rd (g := R.ACQ_STATUS.STATE) _ _ _ _ _ rfl _
  case stop =>
    refine ⟨_, exec_acqStop h, ?_⟩
    rw [doAcqStop_ends hs, State.endCapture_closed hb]
    have hacq := State.stopAcq_acq (s := s) (u := u.val)
    exact State.checkDone_done (by rw [hacq]) (by rw [hacq]; exact hf) (by rw [hacq]; exact ho)
  case waits =>
    refine ⟨_, exec_acqStop h, ?_⟩
    have hacq := State.stopAcq_acq (s := s) (u := u.val)
    rw [doAcqStop_ends hs, State.endCapture_closed hb, State.checkDone_waits (by rw [hacq]; exact hf),
      State.acq_of (State.respond_acqs ..), hacq]
    exact ⟨rfl, rfl, rfl⟩
  case force =>
    refine ⟨_, exec_force h, ?_⟩
    rw [doForce_armed hs, State.acq_of (State.respond_acqs ..), State.acq_modAcq]
    exact ⟨rfl, rfl, rfl⟩
  case sample =>
    refine ⟨_, exec_acqSample u, ?_⟩
    rw [doAcqSample_due hc hk hd]
    have hacq : (s.takeDue u.val []).acq u.val = { s.acq u.val with due := [] } := State.acq_modAcq ..
    obtain ⟨hstate, n, htaken⟩ := State.takeSample_prefill (s := s.takeDue u.val []) (x := x) hs (by rw [hacq]; exact hl)
      (by rw [hacq]; exact hb) hn
    rw [hacq] at hstate htaken
    rw [htaken]
    exact ⟨rfl, rfl, rfl, rfl, hstate⟩
  case write =>
    refine ⟨_, exec_acqBufferWrite u, ?_⟩
    rw [doAcqBufferWrite_sends hf ht hr]
    obtain ⟨hacqs, hout, hrd⟩ := State.showWrite_frame (s := s.takeWord u.val rest tag
      (bankAddress (s.acqPlace u.val w.word).1 (s.acqPlace u.val w.word).2)) (u := u.val) w.word
    have hdead := (congrArg (· == 1) (hrd R.NOC_STATUS.DEAD (by decide) (28 + u.val))).trans hq
    rw [State.quaySend_alive hdead, State.acq_of (State.emit_acqs ..), State.acq_of (State.wr_acqs ..), State.acq_of hacqs,
      State.takeWord, State.acq_modAcq, State.acq_modAcq]
    exact ⟨rfl, rfl, congrArg (· ++ _) hout⟩
  case response =>
    refine ⟨_, exec_acqWriteResponse u tag status, doAcqWriteResponse_out ho status.val, fun hcount hst h5 => ?_⟩
    obtain ⟨hacq, hstate⟩ := State.takeWrite_frame (s := s) (u := u.val) tag.val status.val o.2.1
    rw [doAcqWriteResponse_found ho, hcount, if_neg (by decide), if_pos hst]
    obtain ⟨h1, h2, h3, -⟩ := State.acqError_effect (by rw [hstate]; exact h5) status.val o.2.1
    exact ⟨h1, h2, h3⟩

end Sys2Proof.Machine

/-! The time base (R434 to R438): OFFSET, UNLOCK, SET and RATE, the end of a slew, and the watch. -/

namespace Sys2Proof.Machine
open Sys2Proof

variable {s : State} {a : Accessor}

theorem exec_offset (h : s.accessCode a .tim 0 0x40 true = 0) : exec (.offset a) s = .next (doOffset a s) :=
  congrArg Host.Outcome.next (State.access_ok h _)

theorem exec_unlock (h : s.accessCode a .tim 0 0x40 true = 0) : exec (.unlock a) s = .next (doUnlock a s) :=
  congrArg Host.Outcome.next (State.access_ok h _)

theorem exec_set (h : s.accessCode a .tim 0 0x40 true = 0) : exec (.set a) s = .next (doSet a s) :=
  congrArg Host.Outcome.next (State.access_ok h _)

theorem exec_rateWrite (h : s.accessCode a .tim 0 0x44 true = 0) (v : W32) :
    exec (.rateWrite a v) s = .next (doRateWrite a v s) := congrArg Host.Outcome.next (State.access_ok h _)

theorem exec_slewComplete : exec .slewComplete s = .next (doSlewComplete s) := rfl

theorem exec_holdoverWatchExpiry : exec .holdoverWatchExpiry s = .next s.watchExpires := rfl

/-! ## What TIM_STATUS shows (R434, R447) -/

/-- The state a reader sees, with the bits that follow it. -/
theorem State.showTime_status (st : Nat) : (s.showTime st).timeState = st % 4 ∧
    (s.showTime st).rd R.TIM_STATUS.LOCKED 0 = b2n (st != 0) ∧
    (s.showTime st).rd R.TIM_STATUS.SLEWING 0 = b2n (s.timeRemain != 0) := by
  have hbit : ∀ b : Bool, b2n b % 2 ^ 1 = b2n b := fun b => by cases b <;> rfl
  have h64 : ∀ (g : Fld) (t : State), R.TIM_REMAIN_LO.OFFSET.apart g = true → R.TIM_REMAIN_HI.OFFSET.apart g = true →
      ∀ v, (t.wr64 R.TIM_REMAIN_LO.OFFSET R.TIM_REMAIN_HI.OFFSET 0 v).rd g 0 = t.rd g 0 := fun g t hlo hhi v => by
    rw [State.wr64, State.rd_wr_apart hhi, State.rd_wr_apart hlo]
  refine ⟨?_, ?_, ?_⟩
  · rw [State.timeState, State.showTime, h64 _ _ (by decide) (by decide), State.rd_wr_apart (by decide),
      State.rd_wr_apart (by decide), State.rd_wr_self]
    rfl
  · rw [State.showTime, h64 _ _ (by decide) (by decide), State.rd_wr_apart (by decide), State.rd_wr_self]
    exact hbit _
  · rw [State.showTime, h64 _ _ (by decide) (by decide), State.rd_wr_self]
    exact hbit _

/-- Showing the time base leaves the rest of the state, and every other register. -/
theorem State.showTime_frame (st : Nat) : (s.showTime st).tb = s.tb ∧ (s.showTime st).timeRemain = s.timeRemain ∧
    (s.showTime st).timeSince = s.timeSince ∧ (s.showTime st).parts = s.parts ∧ (s.showTime st).outbox = s.outbox := by
  have hk := State.showTime_keeps (M := 562949953421312) (a1 := st) rfl (Keeps.refl _ s)
  obtain ⟨htb, -, hremain, hsince, -⟩ := hk.same .time rfl
  exact ⟨htb, hremain, hsince, hk.same .parts rfl, hk.same .out rfl⟩

/-- The fields that show the time base. -/
def timeShown : List Fld :=
  [R.TIM_STATUS.STATE, R.TIM_STATUS.LOCKED, R.TIM_STATUS.SLEWING, R.TIM_REMAIN_LO.OFFSET, R.TIM_REMAIN_HI.OFFSET]

theorem State.showTime_rd {g : Fld} (h : ∀ f ∈ timeShown, f.apart g = true) (st d : Nat) : (s.showTime st).rd g d = s.rd g d := by
  rw [State.showTime, State.wr64, State.rd_wr_apart (h R.TIM_REMAIN_HI.OFFSET (by decide)),
    State.rd_wr_apart (h R.TIM_REMAIN_LO.OFFSET (by decide)), State.rd_wr_apart (h R.TIM_STATUS.SLEWING (by decide)),
    State.rd_wr_apart (h R.TIM_STATUS.LOCKED (by decide)), State.rd_wr_apart (h R.TIM_STATUS.STATE (by decide))]

/-! ## A step from FREE (R435, R439) -/

/-- A slew in progress is dropped. -/
def State.dropSlew (s : State) : State := { s with timeRemain := 0 }

theorem State.shiftGrids_frame (o : Int) : (s.shiftGrids o).tb = s.tb ∧ (s.shiftGrids o).timeRemain = s.timeRemain ∧
    ∀ g d, (s.shiftGrids o).rd g d = s.rd g d := by
  have hk := State.shiftGrids_keeps (M := 1024) (a1 := o) rfl (Keeps.refl _ s)
  obtain ⟨htb, -, hremain, -⟩ := hk.same .time rfl
  exact ⟨htb, hremain, fun g d => hk.rd_any (by cases g.page <;> rfl) rfl d⟩

/-- The time base takes a value inside its format, and keeps what is below 1/65,536 ns. -/
theorem State.setTime_frame {t : Int} (h : 0 ≤ t ∧ t < 2 ^ 64 * 1000000000 * 65536) :
    (s.setTime t).tb = 2 ^ 40 * t.toNat + s.tb % 2 ^ 40 ∧ (s.setTime t).timeRemain = s.timeRemain ∧
    (s.setTime t).regs = s.regs := by
  rw [State.setTime, if_pos h]
  exact ⟨rfl, rfl, rfl⟩

/-- A step: the time base takes the sum, nothing is left to slew, and STATE stands. -/
theorem State.stepTime_frame {o : Int} (h : 0 ≤ (s.now : Int) + o ∧ (s.now : Int) + o < 2 ^ 64 * 1000000000 * 65536) :
    (s.stepTime o).tb = 2 ^ 40 * ((s.now : Int) + o).toNat + s.tb % 2 ^ 40 ∧ (s.stepTime o).timeRemain = 0 ∧
    (s.stepTime o).timeState = s.timeState % 4 ∧
    ∀ g : Fld, g.page ≠ .log → (∀ f ∈ timeShown, f.apart g = true) → ∀ d, (s.stepTime o).rd g d = s.rd g d := by
  obtain ⟨htb, hremain, hregs⟩ := State.setTime_frame (s := s.dropSlew) h
  obtain ⟨htb', hremain', hrd⟩ := State.shiftGrids_frame (s := s.dropSlew.setTime ((s.now : Int) + o)) o
  obtain ⟨htb'', hremain'', -⟩ := State.showTime_frame (s := (s.dropSlew.setTime ((s.now : Int) + o)).shiftGrids o) s.timeState
  have hgo : s.stepTime o = (((s.dropSlew.setTime ((s.now : Int) + o)).shiftGrids o).showTime s.timeState).logEvent 0x09 0 1
      evTime 0 (ofSigned 64 o) := rfl
  rw [hgo]
  refine ⟨?_, ?_, ?_, fun g hg hf d => ?_⟩
  · rw [State.logEvent_tb, htb'', htb', htb]
    rfl
  · rw [State.logEvent_timeRemain, hremain'', hremain', hremain]
    rfl
  · rw [State.timeState, State.logEvent_rd_page (by decide)]
    exact (State.showTime_status _).1
  · rw [State.logEvent_rd_page hg, State.showTime_rd hf, hrd, State.rd_of_regs hregs]
    rfl

/-- One partition waits for lock no more, and its grid follows (R91). -/
def State.lockPartition (s : State) (p : Nat) : State :=
  if s.on R.PRT_STATUS.WAIT_LOCK p then
    (s.wr R.PRT_STATUS.WAIT_LOCK p 0).modPart p (fun x => { x with gridNext := gridFrom x.gridNext (s.timerPeriod p) s.now })
  else s

theorem State.lockPartitions_eq : s.lockPartitions = (List.range 64).foldl State.lockPartition s := rfl

theorem State.lockPartition_self {p : Nat} (h : s.rd R.PRT_STATUS.WAIT_LOCK p = 1) :
    (s.lockPartition p).rd R.PRT_STATUS.WAIT_LOCK p = 0 := by
  rw [State.lockPartition, State.on, h, if_pos (by decide), State.modPart_rd, State.rd_wr_self]
  rfl

theorem State.lockPartition_other {p q : Nat} (h : q % 256 ≠ p % 256) :
    (s.lockPartition q).rd R.PRT_STATUS.WAIT_LOCK p = s.rd R.PRT_STATUS.WAIT_LOCK p := by
  unfold State.lockPartition
  split
  · rw [State.modPart_rd, State.rd_wr_chan h]
  · rfl

/-- The partitions that waited for lock wait no more. -/
theorem State.lockPartitions_wait {p : Nat} (hp : p < 64) (h : s.rd R.PRT_STATUS.WAIT_LOCK p = 1) :
    s.lockPartitions.rd R.PRT_STATUS.WAIT_LOCK p = 0 := by
  have hne : ∀ q ∈ List.range 64, q ≠ p → q % 256 ≠ p % 256 := fun q hq hqp => by
    have hlt := List.mem_range.1 hq
    omega
  rw [State.lockPartitions_eq]
  exact foldl_once (I := fun t => t.rd R.PRT_STATUS.WAIT_LOCK p = 1) (Q := fun t => t.rd R.PRT_STATUS.WAIT_LOCK p = 0)
    List.nodup_range (List.mem_range.2 hp) (fun t ht => State.lockPartition_self ht)
    (fun t q hq hqp ht => (State.lockPartition_other (hne q hq hqp)).trans ht)
    (fun t q hq hqp ht => (State.lockPartition_other (hne q hq hqp)).trans ht) h

theorem State.lockPartitions_frame : s.lockPartitions.tb = s.tb ∧ s.lockPartitions.timeRemain = s.timeRemain ∧
    s.lockPartitions.timeSince = s.timeSince ∧ ∀ g : Fld, g.page = .tim → ∀ d, s.lockPartitions.rd g d = s.rd g d := by
  have hk := State.lockPartitions_keeps (M := 144115188075856896) rfl (Keeps.refl _ s)
  obtain ⟨htb, -, hremain, hsince, -⟩ := hk.same .time rfl
  exact ⟨htb, hremain, hsince, fun g hg d => hk.rd_any (by rw [hg]; rfl) rfl d⟩

/-! ## OFFSET (R435 to R437) -/

/-- The watch counts from zero again. -/
def State.restartWatch (s : State) : State := { s with timeSince := 0 }

theorem State.restartWatch_frame : s.restartWatch.tb = s.tb ∧ s.restartWatch.timeRemain = s.timeRemain ∧
    s.restartWatch.timeSince = 0 ∧ s.restartWatch.regs = s.regs := ⟨rfl, rfl, rfl, rfl⟩

/-- The time base as a lock from FREE leaves it, before the partitions that waited are released. -/
def State.lockShown (s : State) (o : Int) : State :=
  ((((s.stepTime o).restartWatch.showTime 1).wr128 R.TIM_LOCK_TIME.TIME0 R.TIM_LOCK_TIME.TIME1
    R.TIM_LOCK_TIME.TIME2 R.TIM_LOCK_TIME.TIME3 0 (timeWord (s.stepTime o).restartWatch.now)).raise .tim 0 0)

theorem State.lockTime_eq (o : Int) : s.lockTime o = (s.lockShown o).lockPartitions := rfl

theorem State.wr128_frame (w0 w1 w2 w3 : Fld) (ch : Nat) (v : W128) : (s.wr128 w0 w1 w2 w3 ch v).tb = s.tb ∧
    (s.wr128 w0 w1 w2 w3 ch v).timeRemain = s.timeRemain ∧ (s.wr128 w0 w1 w2 w3 ch v).timeSince = s.timeSince :=
  ⟨rfl, rfl, rfl⟩

/-- The lock time's registers stand apart from a field outside 0x80 to 0x8C. -/
theorem State.wr128_rd_apart {g : Fld} {t : State} (h0 : R.TIM_LOCK_TIME.TIME0.apart g = true)
    (h1 : R.TIM_LOCK_TIME.TIME1.apart g = true) (h2 : R.TIM_LOCK_TIME.TIME2.apart g = true)
    (h3 : R.TIM_LOCK_TIME.TIME3.apart g = true) (w : W128) (d : Nat) :
    (t.wr128 R.TIM_LOCK_TIME.TIME0 R.TIM_LOCK_TIME.TIME1 R.TIM_LOCK_TIME.TIME2 R.TIM_LOCK_TIME.TIME3 0 w).rd g d = t.rd g d := by
  rw [State.wr128, State.rd_wr_apart h3, State.rd_wr_apart h2, State.rd_wr_apart h1, State.rd_wr_apart h0]

theorem State.lockShown_frame {o : Int} (h : 0 ≤ (s.now : Int) + o ∧ (s.now : Int) + o < 2 ^ 64 * 1000000000 * 65536) :
    (s.lockShown o).timeState = 1 ∧ (s.lockShown o).rd R.TIM_STATUS.LOCKED 0 = 1 ∧ (s.lockShown o).timeRemain = 0 ∧
    (s.lockShown o).timeSince = 0 ∧ ((s.lockShown o).now : Int) = s.now + o ∧ (s.lockShown o).rd (intBit .tim 0) 0 = 1 ∧
    ∀ p, (s.lockShown o).rd R.PRT_STATUS.WAIT_LOCK p = s.rd R.PRT_STATUS.WAIT_LOCK p := by
  obtain ⟨htb, hremain, -, hrd⟩ := State.stepTime_frame h
  obtain ⟨htb1, hremain1, hsince1, hregs1⟩ := (s.stepTime o).restartWatch_frame
  obtain ⟨hstate, hlocked, -⟩ := State.showTime_status (s := (s.stepTime o).restartWatch) 1
  obtain ⟨htb2, hremain2, hsince2, -⟩ := State.showTime_frame (s := (s.stepTime o).restartWatch) 1
  obtain ⟨htb3, hremain3, hsince3⟩ := State.wr128_frame (s := (s.stepTime o).restartWatch.showTime 1) R.TIM_LOCK_TIME.TIME0
    R.TIM_LOCK_TIME.TIME1 R.TIM_LOCK_TIME.TIME2 R.TIM_LOCK_TIME.TIME3 0 (timeWord (s.stepTime o).restartWatch.now)
  refine ⟨?_, ?_, ?_, ?_, ?_, State.raise_self _ _ _, fun p => ?_⟩
  · rw [State.timeState, State.lockShown, State.raise_rd_apart (by decide),
      State.wr128_rd_apart (by decide) (by decide) (by decide) (by decide)]
    exact hstate
  · rw [State.lockShown, State.raise_rd_apart (by decide),
      State.wr128_rd_apart (by decide) (by decide) (by decide) (by decide)]
    exact hlocked
  · rw [State.lockShown, State.raise_timeRemain, hremain3, hremain2, hremain1, hremain]
  · rw [State.lockShown, State.raise_timeSince, hsince3, hsince2, hsince1]
  · rw [State.now, State.lockShown, State.raise_tb, htb3, htb2, htb1, htb]
    omega
  · rw [State.lockShown, State.raise_rd_apart (Fld.apart_of_page (by decide)),
      State.wr128_rd_apart (by decide) (by decide) (by decide) (by decide), State.showTime_rd (by decide),
      State.rd_of_regs hregs1]
    exact hrd _ (by decide) (by decide) p

theorem State.lockTime_frame {o : Int} (h : 0 ≤ (s.now : Int) + o ∧ (s.now : Int) + o < 2 ^ 64 * 1000000000 * 65536) :
    (s.lockTime o).timeState = 1 ∧ (s.lockTime o).rd R.TIM_STATUS.LOCKED 0 = 1 ∧ (s.lockTime o).timeRemain = 0 ∧
    (s.lockTime o).timeSince = 0 ∧ ((s.lockTime o).now : Int) = s.now + o ∧ (s.lockTime o).rd (intBit .tim 0) 0 = 1 ∧
    ∀ p < 64, s.rd R.PRT_STATUS.WAIT_LOCK p = 1 → (s.lockTime o).rd R.PRT_STATUS.WAIT_LOCK p = 0 := by
  obtain ⟨hstate, hlocked, hremain, hsince, hnow, hint, hwait⟩ := State.lockShown_frame h
  obtain ⟨htb', hremain', hsince', hrd⟩ := State.lockPartitions_frame (s := s.lockShown o)
  rw [State.lockTime_eq]
  refine ⟨(hrd R.TIM_STATUS.STATE rfl 0).trans hstate, (hrd R.TIM_STATUS.LOCKED rfl 0).trans hlocked, hremain'.trans hremain,
    hsince'.trans hsince, ?_, (hrd (intBit .tim 0) rfl 0).trans hint,
    fun p hp hw => State.lockPartitions_wait hp ((hwait p).trans hw)⟩
  rw [State.now, htb']
  exact hnow

/-- An accepted offset is what is left to slew. -/
def State.startSlew (s : State) (o : Int) : State := { s with timeRemain := 2 ^ 40 * o, timeSince := 0 }

theorem State.acceptOffset_eq (o : Int) : s.acceptOffset o =
    if s.timeState = 2 then ((s.startSlew o).showTime 1).raise .tim 0 3 else (s.startSlew o).showTime 1 := rfl

theorem State.acceptOffset_frame (o : Int) : (s.acceptOffset o).timeState = 1 ∧ (s.acceptOffset o).timeRemain = 2 ^ 40 * o ∧
    (s.acceptOffset o).timeSince = 0 ∧ (s.acceptOffset o).tb = s.tb ∧ (s.acceptOffset o).parts = s.parts ∧
    (s.timeState = 2 → (s.acceptOffset o).rd (intBit .tim 3) 0 = 1) := by
  obtain ⟨hstate, -⟩ := State.showTime_status (s := s.startSlew o) 1
  obtain ⟨htb, hremain, hsince, hparts, -⟩ := State.showTime_frame (s := s.startSlew o) 1
  rw [State.acceptOffset_eq]
  split
  · refine ⟨?_, ?_, ?_, ?_, ?_, fun _ => State.raise_self _ _ _⟩
    · rw [State.timeState, State.raise_rd_apart (by decide)]
      exact hstate
    · rw [State.raise_timeRemain, hremain]
      rfl
    · rw [State.raise_timeSince, hsince]
      rfl
    · rw [State.raise_tb, htb]
      rfl
    · rw [State.raise_parts, hparts]
      rfl
  · next h2 => exact ⟨hstate, hremain, hsince, htb, hparts, fun h => absurd h h2⟩

/-- A refused offset is recorded, and nothing is left to slew. -/
def State.recordRefusal (s : State) (o : Int) : State :=
  (s.dropSlew.wr64 R.TIM_REFUSED_LO.OFFSET R.TIM_REFUSED_HI.OFFSET 0 (ofSigned 64 o)).count R.TIM_REFUSALS.COUNT 0 1

theorem State.recordRefusal_frame (o : Int) : (s.recordRefusal o).tb = s.tb ∧ (s.recordRefusal o).timeRemain = 0 ∧
    (s.recordRefusal o).timeSince = s.timeSince ∧
    (s.recordRefusal o).rd64 R.TIM_REFUSED_LO.OFFSET R.TIM_REFUSED_HI.OFFSET 0 = ofSigned 64 o := by
  refine ⟨rfl, rfl, rfl, ?_⟩
  have hlt : ofSigned 64 o < 2 ^ 64 := by
    rw [ofSigned]
    omega
  rw [State.rd64, State.recordRefusal, State.count, State.rd_wr_apart (by decide), State.rd_wr_apart (by decide), ← State.rd64,
    State.rd64_wr64 rfl rfl (by decide), Nat.mod_eq_of_lt hlt]

theorem State.refuseOffset_eq (o : Int) : s.refuseOffset o =
    ((if s.timeState = 1 then (s.recordRefusal o).enterHoldover else (s.recordRefusal o).showTime 2).raise .tim 0 1).logEvent
      0x09 0 1 evTime 1 (ofSigned 64 o) := rfl

/-- HOLDOVER, entered or met: what is shown, and what it leaves. -/
theorem State.holdover_frame (b : Prop) [Decidable b] :
    (if b then s.enterHoldover else s.showTime 2).timeState = 2 ∧
    (if b then s.enterHoldover else s.showTime 2).timeRemain = s.timeRemain ∧
    (if b then s.enterHoldover else s.showTime 2).tb = s.tb ∧
    (if b then s.enterHoldover else s.showTime 2).timeSince = s.timeSince ∧
    (b → (if b then s.enterHoldover else s.showTime 2).rd (intBit .tim 2) 0 = 1) ∧
    ∀ g : Fld, (intBit .tim 2).apart g = true → (∀ f ∈ timeShown, f.apart g = true) →
      (if b then s.enterHoldover else s.showTime 2).rd g 0 = s.rd g 0 := by
  obtain ⟨hstate, -⟩ := State.showTime_status (s := s) 2
  obtain ⟨htb, hremain, hsince, -⟩ := State.showTime_frame (s := s) 2
  split
  · rw [State.enterHoldover]
    refine ⟨?_, ?_, ?_, ?_, fun _ => State.raise_self _ _ _, fun g hg hf => ?_⟩
    · rw [State.timeState, State.raise_rd_apart (by decide)]
      exact hstate
    · rw [State.raise_timeRemain, hremain]
    · rw [State.raise_tb, htb]
    · rw [State.raise_timeSince, hsince]
    · rw [State.raise_rd_apart hg, State.showTime_rd hf]
  · next hb => exact ⟨hstate, hremain, htb, hsince, fun h => absurd h hb, fun g _ hf => State.showTime_rd hf 2 0⟩

theorem State.refuseOffset_frame (o : Int) : (s.refuseOffset o).timeState = 2 ∧ (s.refuseOffset o).timeRemain = 0 ∧
    (s.refuseOffset o).tb = s.tb ∧ (s.refuseOffset o).timeSince = s.timeSince ∧
    (s.refuseOffset o).rd64 R.TIM_REFUSED_LO.OFFSET R.TIM_REFUSED_HI.OFFSET 0 = ofSigned 64 o ∧
    (s.refuseOffset o).rd (intBit .tim 1) 0 = 1 ∧ (s.timeState = 1 → (s.refuseOffset o).rd (intBit .tim 2) 0 = 1) := by
  obtain ⟨htb, hremain, hsince, hrefused⟩ := State.recordRefusal_frame (s := s) o
  obtain ⟨hstate, hremain', htb', hsince', hint, hrd⟩ := State.holdover_frame (s := s.recordRefusal o) (s.timeState = 1)
  rw [State.refuseOffset_eq]
  refine ⟨?_, ?_, ?_, ?_, ?_, ?_, fun h => ?_⟩
  · rw [State.timeState, State.logEvent_rd_page (by decide), State.raise_rd_apart (by decide)]
    exact hstate
  · rw [State.logEvent_timeRemain, State.raise_timeRemain, hremain', hremain]
  · rw [State.logEvent_tb, State.raise_tb, htb', htb]
  · rw [State.logEvent_timeSince, State.raise_timeSince, hsince', hsince]
  · rw [State.rd64, State.logEvent_rd_page (by decide), State.raise_rd_apart (by decide), State.logEvent_rd_page (by decide),
      State.raise_rd_apart (by decide), hrd _ (by decide) (by decide), hrd _ (by decide) (by decide)]
    exact hrefused
  · rw [State.logEvent_rd_page (by decide)]
    exact State.raise_self _ _ _
  · rw [State.logEvent_rd_page (by decide), State.raise_rd_apart (by decide)]
    exact hint h

theorem doOffset_free (h : s.timeState = 0) : doOffset a s = (s.lockTime s.offsetValue).respond a true 0 := by
  rw [doOffset]
  exact congrArg (State.respond · a true 0) (if_pos h)

theorem doOffset_accepted (h : s.timeState = 1 ∨ s.timeState = 2)
    (ho : s.offsetValue.natAbs ≤ 65536 * s.rd R.TIM_STEP_LIMIT.NS 0) :
    doOffset a s = (s.acceptOffset s.offsetValue).respond a true 0 := by
  have h0 : ¬ s.timeState = 0 := by omega
  rw [doOffset]
  exact congrArg (State.respond · a true 0) ((if_neg h0).trans (if_pos ho))

theorem doOffset_refused (h : s.timeState = 1 ∨ s.timeState = 2)
    (ho : 65536 * s.rd R.TIM_STEP_LIMIT.NS 0 < s.offsetValue.natAbs) :
    doOffset a s = (s.refuseOffset s.offsetValue).respond a true 0 := by
  have h0 : ¬ s.timeState = 0 := by omega
  rw [doOffset]
  exact congrArg (State.respond · a true 0) ((if_neg h0).trans (if_neg (Nat.not_le.2 ho)))

/-! ## UNLOCK, SET and RATE (R434, R435, R438) -/

theorem doUnlock_free (h : s.timeHeld = false) :
    doUnlock a s = ((s.dropSlew.showTime 0).logEvent 0x09 0 1 evTime 2 0).respond a true 0 := by
  rw [doUnlock, h, if_neg Bool.false_ne_true]
  rfl

theorem doUnlock_held (h : s.timeHeld = true) : doUnlock a s = s.refuseWrite a .tim 0 0x40 5 := by
  rw [doUnlock, h, if_pos rfl]

/-- A refused command leaves the time base and its registers, and an error. -/
theorem State.refuseWrite_tim (off code : Nat) : (s.refuseWrite a .tim 0 off code).timeState = s.timeState ∧
    (s.refuseWrite a .tim 0 off code).timeRemain = s.timeRemain ∧ (s.refuseWrite a .tim 0 off code).tb = s.tb ∧
    (s.refuseWrite a .tim 0 off code).rd R.TIM_RATE.RATE 0 = s.rd R.TIM_RATE.RATE 0 ∧
    (s.refuseWrite a .tim 0 off code).rd (errValid .tim) 0 = 1 :=
  ⟨State.errReg_rd _ _ _ _ _ rfl _, State.errReg_timeRemain .., State.errReg_tb .., State.errReg_rd _ _ _ _ _ rfl _,
    State.err_valid ..⟩

/-- What is below 1/65,536 ns is dropped before a SET. -/
def State.wholeTime (s : State) : State := { s with tb := 2 ^ 40 * s.now }

theorem timeOf_lt {w : W128} (h : bitsOf w.toNat 32 32 < 1000000000) : timeOf w < 2 ^ 64 * 1000000000 * 65536 := by
  have hsec : bitsOf w.toNat 64 64 < 2 ^ 64 := Nat.mod_lt _ (by decide)
  have hfrac : bitsOf w.toNat 0 16 < 2 ^ 16 := Nat.mod_lt _ (by decide)
  rw [timeOf]
  omega

theorem doSet_valid {w : W128} (hw : s.rd128 R.TIM_SET.TIME0 R.TIM_SET.TIME1 R.TIM_SET.TIME2 R.TIM_SET.TIME3 0 = w)
    (hs : s.timeState = 0) (hn : bitsOf w.toNat 32 32 < 1000000000) :
    doSet a s = (s.wholeTime.stepTime ((timeOf w : Int) - (s.now : Int))).respond a true 0 := by
  subst hw
  simp only [doSet, hs, ne_eq, not_true, if_false, if_pos hn]
  rw [if_pos (Int.natCast_nonneg _)]
  rfl

theorem State.wholeTime_now : s.wholeTime.now = s.now := by
  rw [State.now, State.now]
  exact Nat.mul_div_cancel_left _ (by decide)

/-- A SET to a time inside the format loads it, and FREE stands. -/
theorem State.set_frame {w : W128} (hs : s.timeState = 0) (hn : bitsOf w.toNat 32 32 < 1000000000) :
    (s.wholeTime.stepTime ((timeOf w : Int) - (s.now : Int))).tb = 2 ^ 40 * timeOf w ∧
    (s.wholeTime.stepTime ((timeOf w : Int) - (s.now : Int))).timeState = 0 ∧
    (s.wholeTime.stepTime ((timeOf w : Int) - (s.now : Int))).timeRemain = 0 := by
  have hsum : (s.wholeTime.now : Int) + ((timeOf w : Int) - (s.now : Int)) = timeOf w := by
    rw [State.wholeTime_now]
    omega
  have hlt := timeOf_lt hn
  obtain ⟨htb, hremain, hstate, -⟩ := State.stepTime_frame (s := s.wholeTime) (o := (timeOf w : Int) - (s.now : Int))
    (by rw [hsum]; omega)
  refine ⟨?_, hstate.trans (congrArg (· % 4) hs), hremain⟩
  rw [htb, hsum, Int.toNat_natCast, show s.wholeTime.tb = 2 ^ 40 * s.now from rfl, Nat.mul_mod_right, Nat.add_zero]

theorem doSet_refused (h : s.timeState ≠ 0) : doSet a s = s.refuseWrite a .tim 0 0x40 5 := by
  rw [doSet, if_pos h]

theorem doRateWrite_written {v : W32} (hs : s.timeState ≠ 2) (hv : (signedOf 32 v.toNat).natAbs ≤ 1099511627) :
    doRateWrite a v s = (s.wr R.TIM_RATE.RATE 0 v.toNat).respond a true 0 := by
  rw [doRateWrite, if_neg]
  rintro (h | h)
  · exact hs h
  · exact Nat.not_lt.2 hv h

theorem doRateWrite_refused {v : W32} (h : s.timeState = 2 ∨ 1099511627 < (signedOf 32 v.toNat).natAbs) :
    doRateWrite a v s = s.refuseWrite a .tim 0 0x44 4 := by
  rw [doRateWrite, if_pos]
  exact h

/-! ## The end of a slew, and the watch (R436, R437) -/

/-- The core cycles that the remaining offset takes. -/
def State.slewCycles (s : State) : Nat := (s.timeRemain.natAbs + s.slewStep.natAbs - 1) / s.slewStep.natAbs

/-- The cycles of the slew have passed. -/
def State.slewed (s : State) : State := { s with
  tb := (s.tb + (s.slewCycles * (2 ^ 56 + 65536 * s.rate) + s.timeRemain)).toNat
  timeRemain := 0, timeSince := s.timeSince + s.slewCycles, coreTicks := s.coreTicks + s.slewCycles }

theorem doSlewComplete_done (hr : s.timeRemain ≠ 0) (hd : s.slewStep ≠ 0) :
    doSlewComplete s = s.slewed.showTime s.timeState := by
  rw [doSlewComplete]
  exact if_neg (fun h => h.elim hr hd)

theorem State.watchExpires_on (hs : s.timeState = 1) (hw : s.rd R.TIM_WATCH_MS.MS 0 ≠ 0) : s.watchExpires = s.enterHoldover := by
  rw [State.watchExpires, if_pos ⟨hs, hw⟩]

theorem State.watchExpires_off (hw : s.rd R.TIM_WATCH_MS.MS 0 = 0) : s.watchExpires = s := by
  rw [State.watchExpires, if_neg (fun h => h.2 hw)]

/-- Settles O45: an OFFSET steps and locks from FREE, and later slews or is refused; UNLOCK, SET and RATE act or are refused by
the state; a slew's end adds what was left, and the watch enters HOLDOVER. -/
theorem timeIsKept : Obligations.TimeIsKept := by
  unfold Obligations.TimeIsKept
  refine ⟨fun a s h => ⟨fun hs h0 hlt => ?lock, fun hs ho => ?accept, fun hs ho => ?refuse, fun hh => ?unlock,
    fun hh => ?held, fun w hw hs hn => ?set, fun hs => ?setRefused⟩, fun a v s h => ⟨fun hs hv => ?rate, fun hr => ?rateRefused⟩,
    fun s hr hd hs => ?slew, fun s hs => ⟨fun hw => ?watch, fun hw => ?off⟩⟩
  case lock =>
    refine ⟨_, exec_offset h, ?_⟩
    rw [doOffset_free hs]
    obtain ⟨hstate, hlocked, hremain, hsince, hnow, hint, hwait⟩ := State.lockTime_frame ⟨h0, hlt⟩
    rw [State.timeState, State.respond_rd, State.respond_rd, State.respond_timeRemain, State.respond_timeSince, State.now,
      State.respond_tb, State.respond_rd]
    exact ⟨hstate, hlocked, hremain, hsince, hnow, hint, fun p hp hw => by rw [State.respond_rd]; exact hwait p hp hw⟩
  case accept =>
    refine ⟨_, exec_offset h, ?_⟩
    rw [doOffset_accepted hs ho]
    exact State.acceptOffset_frame s.offsetValue
  case refuse =>
    refine ⟨_, exec_offset h, ?_⟩
    rw [doOffset_refused hs ho]
    exact State.refuseOffset_frame s.offsetValue
  case unlock =>
    refine ⟨_, exec_unlock h, ?_⟩
    rw [doUnlock_free hh]
    obtain ⟨hstate, hlocked, hslewing⟩ := State.showTime_status (s := s.dropSlew) 0
    obtain ⟨htb, hremain, -, hparts, -⟩ := State.showTime_frame (s := s.dropSlew) 0
    rw [State.timeState, State.respond_rd, State.respond_rd, State.respond_rd, State.logEvent_rd_page (by decide),
      State.logEvent_rd_page (by decide), State.logEvent_rd_page (by decide), State.respond_timeRemain, State.logEvent_timeRemain,
      State.respond_tb, State.logEvent_tb, State.respond_parts, State.logEvent_parts]
    exact ⟨hstate, hlocked, hslewing, hremain, htb, hparts⟩
  case held =>
    refine ⟨_, exec_unlock h, ?_⟩
    rw [doUnlock_held hh]
    obtain ⟨hstate, hremain, htb, -, hvalid⟩ := State.refuseWrite_tim (s := s) (a := a) 0x40 5
    exact ⟨hstate, hremain, htb, hvalid⟩
  case set =>
    refine ⟨_, exec_set h, ?_⟩
    rw [doSet_valid hw hs hn, State.timeState, State.respond_rd, State.respond_tb, State.respond_timeRemain]
    exact State.set_frame hs hn
  case setRefused =>
    refine ⟨_, exec_set h, ?_⟩
    rw [doSet_refused hs]
    obtain ⟨hstate, -, htb, -, hvalid⟩ := State.refuseWrite_tim (s := s) (a := a) 0x40 5
    exact ⟨htb, hstate, hvalid⟩
  case rate =>
    refine ⟨_, exec_rateWrite h v, ?_⟩
    rw [doRateWrite_written hs hv, State.respond_rd, State.rd_wr_self]
    exact ⟨Nat.mod_eq_of_lt v.isLt, rfl, rfl⟩
  case rateRefused =>
    refine ⟨_, exec_rateWrite h v, ?_⟩
    rw [doRateWrite_refused hr]
    obtain ⟨-, -, htb, hrate, hvalid⟩ := State.refuseWrite_tim (s := s) (a := a) 0x44 4
    exact ⟨hrate, htb, hvalid⟩
  case slew =>
    refine ⟨_, exec_slewComplete, ?_⟩
    rw [doSlewComplete_done hr hd]
    obtain ⟨hstate, -, hslewing⟩ := State.showTime_status (s := s.slewed) s.timeState
    obtain ⟨htb, hremain, -, -, hout⟩ := State.showTime_frame (s := s.slewed) s.timeState
    exact ⟨hremain, hslewing, hstate.trans (Nat.mod_eq_of_lt hs), htb, hout⟩
  case watch =>
    refine ⟨_, exec_holdoverWatchExpiry, ?_⟩
    rw [State.watchExpires_on hs hw]
    obtain ⟨hstate, hremain, htb, -, hint, -⟩ := State.holdover_frame (s := s) True
    exact ⟨hstate, hremain, htb, hint trivial⟩
  case off => rw [exec_holdoverWatchExpiry, State.watchExpires_off hw]

end Sys2Proof.Machine

/-! The Ethernet ports (R441 to R445): a frame received, a kick, a frame sent, and a link's change. -/

namespace Sys2Proof.Machine
open Sys2Proof

variable {s : State} {n : Nat}

theorem exec_ethFrameReceive (n : Fin 8) (b : List Byte) (fcs : Bool) (us : List Upset) :
    exec (.ethFrameReceive n b fcs us) s = .next (doEthFrameReceive n.val b fcs us s) := rfl

theorem exec_ethTxKick {a : Accessor} {n : Fin 8} (h : s.accessCode a .eth 0 (0x128 + 0x80 * n.val) true = 0) (v : W32) :
    exec (.ethTxKick a n v) s = .next (doEthTxKick a n.val v s) := congrArg Host.Outcome.next (State.access_ok h _)

theorem exec_ethFrameTransmit (n : Fin 8) (us : List Upset) :
    exec (.ethFrameTransmit n us) s = .next (doEthFrameTransmit n.val us s) := rfl

theorem exec_ethLinkChange (n : Fin 8) (up an : Bool) :
    exec (.ethLinkChange n up an) s = .next (doEthLinkChange n.val up an s) := rfl

/-! ## A port's registers (R448) -/

/-- Registers of one port at different places of its block stand apart. -/
theorem ethOff_ne {c d : Nat} (hc : c < 0x180) (hd : d < 0x180) (h : c ≠ d) :
    (c + 0x80 * n) % 4096 ≠ (d + 0x80 * n) % 4096 := by omega

/-- An INT_STATUS bit of a port. -/
def ethBit (n b : Nat) : Fld := ⟨.eth, 0x108 + 0x80 * n, b, 1, .w1c, 0⟩

theorem State.raiseEth_self (b : Nat) : (s.raiseEth n b).rd (ethBit n b) 0 = 1 := by
  unfold State.raiseEth
  extract_lets s1
  have h1 : s1.rd (ethBit n b) 0 = 1 := State.rd_wr_self (ethBit n b) 0 1
  split
  · rw [State.irqEvent_rd, h1]
  · exact h1

theorem State.raiseEth_rd {b : Nat} {g : Fld} (h : (ethBit n b).apart g = true) (d : Nat) :
    (s.raiseEth n b).rd g d = s.rd g d := by
  unfold State.raiseEth
  extract_lets s1
  have h1 : s1.rd g d = s.rd g d := State.rd_wr_apart h 0 d 1
  split
  · rw [State.irqEvent_rd, h1]
  · exact h1

theorem State.raiseEth_dmem (b : Nat) : (s.raiseEth n b).dmem = s.dmem :=
  (State.raiseEth_keeps (M := 1126999754014721) rfl (Keeps.refl _ s)).same .dmem rfl

theorem State.raiseEth_sends {l : List Output} (h : l <+: s.outbox) (b : Nat) : l <+: (s.raiseEth n b).outbox := by
  unfold State.raiseEth
  extract_lets s1
  split
  · exact State.irqEvent_sends (by exact h) _
  · exact h

/-! ## Reception (R442 to R445) -/

/-- Upsets leave the port, the firmware and the design memory as they are. -/
theorem State.upset_eth (us : List Upset) : (s.upset us).ethRuns n = s.ethRuns n ∧ (s.upset us).gptpOn n = s.gptpOn n ∧
    (s.upset us).now = s.now ∧ (s.upset us).dmem = s.dmem ∧ (s.upset us).ethKicked = s.ethKicked := by
  obtain ⟨h, c, hu⟩ := State.upset_eq (s := s) us
  rw [hu]
  exact ⟨rfl, rfl, rfl, rfl, rfl⟩

theorem doEthFrameReceive_badFcs (hr : s.ethRuns n = true) (b : List Byte) (us : List Upset) :
    doEthFrameReceive n b false us s = (s.upset us).count (R.ETH_P_FCS_ERR.COUNT n) 0 1 := by
  simp only [doEthFrameReceive, (State.upset_eth us).1, hr, Bool.not_true, Bool.not_false, Bool.false_eq_true, if_false, if_true]

theorem doEthFrameReceive_long {b : List Byte} (hr : s.ethRuns n = true) (hl : s.rd (R.ETH_P_CTRL.MAX_LEN n) 0 < b.length)
    (us : List Upset) : doEthFrameReceive n b true us s = (s.upset us).ethDrop n := by
  simp only [doEthFrameReceive, (State.upset_eth us).1, State.upset_rd, hr, Bool.not_true, Bool.false_eq_true, if_false, if_pos hl]

/-- A stamp at or above the time base's zero. -/
theorem State.ethStamp_of {ps : Int} (h : 0 ≤ (s.now : Int) + 65536 * ps / 1000) :
    s.ethStamp ps = (timeWord ((s.now : Int) + 65536 * ps / 1000).toNat, s) := if_pos h

/-- The correction of a port's ingress stamps (R444). -/
def State.ingress (s : State) (n : Nat) : Int := -(signedOf 32 (s.rd (R.ETH_P_INGRESS_PS.PS n) 0))

/-- A received frame is counted. -/
def State.countRx (s : State) (n : Nat) (us : List Upset) : State := (s.upset us).count (R.ETH_P_RX_FRAMES.COUNT n) 0 1

theorem State.countRx_eq (us : List Upset) : (s.upset us).count (R.ETH_P_RX_FRAMES.COUNT n) 0 1 = s.countRx n us := rfl

/-- Counting a frame leaves the port's other registers, the time and the firmware. -/
theorem State.countRx_frame (us : List Upset) : (s.countRx n us).ingress n = s.ingress n ∧ (s.countRx n us).now = s.now ∧
    (s.countRx n us).gptpOn n = s.gptpOn n ∧ (s.countRx n us).dmem = s.dmem ∧ (s.countRx n us).outbox = s.outbox := by
  obtain ⟨-, hgptp, hnow, hdmem, -⟩ := State.upset_eth (s := s) (n := n) us
  refine ⟨?_, hnow, ?_, hdmem, (State.upset_frame us).1⟩
  · rw [State.ingress, State.ingress, State.countRx, State.count,
      State.rd_wr_apart (Fld.apart_of (.inl (ethOff_ne (by decide) (by decide) (by decide)))), State.upset_rd]
  · have hrole : (s.countRx n us).rd (R.ETH_P_CTRL.PTP_ROLE n) 0 = (s.upset us).rd (R.ETH_P_CTRL.PTP_ROLE n) 0 := by
      rw [State.countRx, State.count,
        State.rd_wr_apart (Fld.apart_of (.inl (ethOff_ne (by decide) (by decide) (by decide))))]
    have hptp : (s.countRx n us).on R.TIM_CTRL.FW_PTP 0 = (s.upset us).on R.TIM_CTRL.FW_PTP 0 :=
      congrArg (· == 1) (State.rd_wr_apart (Fld.apart_of_page (fun h => Page.noConfusion h)) _ _ _)
    rw [← hgptp, State.gptpOn, hrole, hptp]
    rfl

theorem doEthFrameReceive_gptp {b : List Byte} (hr : s.ethRuns n = true)
    (hl : b.length ≤ s.rd (R.ETH_P_CTRL.MAX_LEN n) 0) (h0 : 0 ≤ (s.now : Int) + 65536 * s.ingress n / 1000)
    (hg : s.gptpOn n = true) (hb : isGptp b = true) (us : List Upset) : doEthFrameReceive n b true us s =
      (s.countRx n us).emit (.gptpFrame n b (timeWord ((s.now : Int) + 65536 * s.ingress n / 1000).toNat)) := by
  obtain ⟨hps, hnow, hgptp, -⟩ := State.countRx_frame (s := s) (n := n) us
  have hstamp : (s.countRx n us).ethStamp ((s.countRx n us).ingress n) =
      (timeWord ((s.now : Int) + 65536 * s.ingress n / 1000).toNat, s.countRx n us) := by
    rw [hps, State.ethStamp_of (by rw [hnow]; exact h0), hnow]
  rw [State.ingress] at hstamp
  simp only [doEthFrameReceive, (State.upset_eth us).1, State.upset_rd, hr, Bool.not_true, Bool.false_eq_true, if_false,
    if_neg (Nat.not_lt.2 hl), State.countRx_eq, hstamp, hgptp, hg, hb, Bool.and_self, if_true]

/-! ## A kick (R443) -/

theorem doEthTxKick_kicks {a : Accessor} {v : W32} (h : bitOf v.toNat 0 = 1) :
    doEthTxKick a n v s = State.respond { s with ethKicked := insertAsc n s.ethKicked } a true 0 := by
  rw [doEthTxKick, if_pos h]

/-! ## Transmission (R442, R443) -/

theorem doEthFrameTransmit_kicked (hr : s.ethRuns n = true) (hk : n ∈ s.ethKicked) (us : List Upset) :
    doEthFrameTransmit n us s = (s.upset us).ethTransmit n := by
  obtain ⟨hruns, -, -, -, hkicked⟩ := State.upset_eth (s := s) (n := n) us
  unfold doEthFrameTransmit
  extract_lets t
  have ht : (t.ethRuns n && t.ethKicked.contains n) = true := by
    rw [show t = s.upset us from rfl, hruns, hkicked, hr, Bool.true_and]
    exact List.contains_iff_mem.2 hk
  rw [if_pos ht]

/-- The address of the descriptor at the transmit ring's position. -/
def State.ethTxSlot (s : State) (n : Nat) : Nat := s.ethSlot (R.ETH_P_TX_BASE.BASE n) (R.ETH_P_TX_CFG.POS n)

theorem State.ethTxSlot_eq : s.ethSlot (R.ETH_P_TX_BASE.BASE n) (R.ETH_P_TX_CFG.POS n) = s.ethTxSlot n := rfl

theorem State.ethTransmit_empty {w : W128} {s1 : State} (hp : s.portRead 35 (s.ethTxSlot n) = (0, w, s1)) (ho : dscOwn w = false) :
    s.ethTransmit n = s1.ethRest n := by
  simp only [State.ethTransmit, State.ethTxSlot_eq, hp, ho, Bool.not_false, if_true]

theorem State.ethTransmit_sends {w : W128} {b : List Byte} {s1 s2 : State} (hp : s.portRead 35 (s.ethTxSlot n) = (0, w, s1))
    (ho : dscOwn w = true) (ha : dscAddr w % 16 = 0) (hz : dscLen w ≠ 0) (hl : dscLen w ≤ s1.rd (R.ETH_P_CTRL.MAX_LEN n) 0)
    (hf : s1.ethFetch n (dscAddr w) (dscLen w) 1024 = (0, b, s2)) (hg : (s2.gptpOn n && isGptp b) = false) :
    s.ethTransmit n = s2.ethSend n (s.ethTxSlot n) w b := by
  have hok : ¬ (dscAddr w % 16 ≠ 0 ∨ dscLen w = 0 ∨ s1.rd (R.ETH_P_CTRL.MAX_LEN n) 0 < dscLen w) := by omega
  simp only [State.ethTransmit, State.ethTxSlot_eq, hp, ho, Bool.not_true, Bool.false_eq_true, if_false, if_neg hok, hf, hg]

/-- The counter of sent frames is no error register. -/
theorem txFrames_plain (hn : n < 8) : errorReg ((R.ETH_P_TX_FRAMES.COUNT n).off % 4096) = false := by
  have hall : ∀ k < 8, errorReg ((R.ETH_P_TX_FRAMES.COUNT k).off % 4096) = false := by decide
  exact hall n hn

/-- A port's read of a descriptor leaves the port's own state. -/
theorem State.portRead_eth (hn : n < 8) {src addr st : Nat} {w : W128} {s1 : State} (h : s.portRead src addr = (st, w, s1)) :
    s1.ethKicked = s.ethKicked ∧ s1.rd (R.ETH_P_TX_FRAMES.COUNT n) 0 = s.rd (R.ETH_P_TX_FRAMES.COUNT n) 0 := by
  have hk := keeps_of3 (State.portRead_keeps (M := 18695271219217) (a1 := src) (a2 := addr) rfl (Keeps.refl _ s))
  rw [h] at hk
  exact ⟨hk.same .ethRing rfl, hk.rd_plain (g := R.ETH_P_TX_FRAMES.COUNT n)
    (show Nat.testBit 18695271219217 (Kind.regs .eth).bit = false by decide) (txFrames_plain hn) 0⟩

theorem State.ethRest_kicked : n ∉ (s.ethRest n).ethKicked := by
  simp [State.ethRest]

/-! ## A sent frame -/

theorem State.quayStatus_sends {l : List Output} (h : l <+: s.outbox) (node st addr : Nat) :
    l <+: (s.quayStatus node st addr).outbox := by
  have herr : ∀ b c : Nat, l <+: (s.quayError node b c addr).outbox := fun b c =>
    State.raise_sends (State.err_sends h ..) _ _ _
  unfold State.quayStatus
  extract_lets s1
  have h1 : l <+: s1.outbox := by
    unfold s1
    split
    · exact herr 1 7
    · exact herr 2 8
    · exact h
  split
  · exact h1
  · exact State.raise_sends h1 _ _ _

theorem State.controlSeal_sends {l : List Output} (h : l <+: s.outbox) (key node : Nat) :
    l <+: (s.controlSeal key node).outbox := State.logEvent_sends (State.err_sends h ..) ..

theorem State.controlWrite_sends {l : List Output} (h : l <+: s.outbox) (key be : Nat) (v : W128) (node : Nat) :
    l <+: (s.controlWrite key be v node).2.outbox := by
  have hword : l <+: (s.controlWord key).2.outbox := by
    unfold State.controlWord
    split <;> exact h
  unfold State.controlWrite
  split
  · exact State.controlSeal_sends h key node
  · by_cases hb : be = 65535
    · simp only [hb, if_true]
      exact h
    · simp only [hb, if_false]
      exact hword

theorem State.writeScratch_sends {l : List Output} (h : l <+: s.outbox) (m a be : Nat) (v : W128) (node : Nat) :
    l <+: (s.writeScratch m a be v node).2.outbox := by
  unfold State.writeScratch
  extract_lets k
  split
  · exact State.logEvent_sends (State.err_sends h ..) ..
  · unfold State.cancelGranule
    split <;> exact h

theorem State.portWrite_sends {l : List Output} (h : l <+: s.outbox) (src addr be : Nat) (v : W128) :
    l <+: (s.portWrite src addr be v).2.outbox := by
  unfold State.portWrite
  split
  · split
    · exact State.controlWrite_sends h ..
    · exact State.quayStatus_sends (State.writeScratch_sends h ..) ..
  · exact State.quayStatus_sends h ..

theorem State.portWrite_txFrames (hn : n < 8) (src addr be : Nat) (v : W128) :
    (s.portWrite src addr be v).2.rd (R.ETH_P_TX_FRAMES.COUNT n) 0 = s.rd (R.ETH_P_TX_FRAMES.COUNT n) 0 :=
  (keeps_of2 (State.portWrite_keeps (M := 18695808090129) (a1 := src) (a2 := addr) (a3 := be) (a4 := v) rfl
    (Keeps.refl _ s))).rd_plain (g := R.ETH_P_TX_FRAMES.COUNT n)
      (show Nat.testBit 18695808090129 (Kind.regs .eth).bit = false by decide) (txFrames_plain hn) 0

/-- A transmit descriptor's return leaves what was sent in front, the counter of sent frames, and raises the port's bit. -/
theorem State.ethReturnTx_frame (hn : n < 8) (slot : Nat) (w : W128) (st : Nat) {l : List Output} (h : l <+: s.outbox) :
    l <+: (s.ethReturnTx n slot w st).outbox ∧ (s.ethReturnTx n slot w st).rd (ethBit n 2) 0 = 1 ∧
    (s.ethReturnTx n slot w st).rd (R.ETH_P_TX_FRAMES.COUNT n) 0 = s.rd (R.ETH_P_TX_FRAMES.COUNT n) 0 := by
  unfold State.ethReturnTx
  dsimp only
  refine ⟨State.raiseEth_sends ?_ _, State.raiseEth_self 2, ?_⟩
  · rw [State.ethNext, State.wr_outbox]
    exact State.portWrite_sends h ..
  rw [State.raiseEth_rd (Fld.apart_of (.inl (ethOff_ne (by decide) (by decide) (by decide)))), State.ethNext,
    State.rd_wr_apart (Fld.apart_of (.inl (ethOff_ne (by decide) (by decide) (by decide)))), State.portWrite_txFrames hn]

/-- The stamp of a sent frame is written where the descriptor asks (R444). -/
def State.ethStampTx (s : State) (n slot : Nat) (w : W128) : State :=
  if dscStamp w then
    let (stamp, t) := s.ethStamp (signedOf 32 (s.rd (R.ETH_P_EGRESS_PS.PS n) 0))
    (t.portWrite 35 (slot + 16) 65535 stamp).2
  else s

theorem State.ethStampTx_frame (hn : n < 8) (slot : Nat) (w : W128) {l : List Output} (h : l <+: s.outbox) :
    l <+: (s.ethStampTx n slot w).outbox ∧
    (s.ethStampTx n slot w).rd (R.ETH_P_TX_FRAMES.COUNT n) 0 = s.rd (R.ETH_P_TX_FRAMES.COUNT n) 0 := by
  unfold State.ethStampTx
  split
  · dsimp only
    have hfree : (s.ethStamp (signedOf 32 (s.rd (R.ETH_P_EGRESS_PS.PS n) 0))).2.outbox = s.outbox ∧
        (s.ethStamp (signedOf 32 (s.rd (R.ETH_P_EGRESS_PS.PS n) 0))).2.regs = s.regs := by
      unfold State.ethStamp
      extract_lets t
      split <;> exact ⟨rfl, rfl⟩
    exact ⟨State.portWrite_sends (by rw [hfree.1]; exact h) .., (State.portWrite_txFrames hn ..).trans (State.rd_of_regs hfree.2 _ _)⟩
  · exact ⟨h, rfl⟩

/-- A frame that is on its way, and counted. -/
def State.ethSent (s : State) (n : Nat) (b : List Byte) : State :=
  (s.emit (.ethFrame n b (max 60 b.length) true)).count (R.ETH_P_TX_FRAMES.COUNT n) 0 1

theorem State.ethSend_eq (slot : Nat) (w : W128) (b : List Byte) :
    s.ethSend n slot w b = ((s.ethSent n b).ethStampTx n slot w).ethReturnTx n slot w 0 := rfl

theorem State.ethSend_frame (hn : n < 8) (slot : Nat) (w : W128) (b : List Byte) :
    s.outbox ++ [.ethFrame n b (max 60 b.length) true] <+: (s.ethSend n slot w b).outbox ∧
    (s.ethSend n slot w b).rd (ethBit n 2) 0 = 1 ∧ (s.ethSend n slot w b).rd (R.ETH_P_TX_FRAMES.COUNT n) 0 =
      satAdd (R.ETH_P_TX_FRAMES.COUNT n).width (s.rd (R.ETH_P_TX_FRAMES.COUNT n) 0) 1 := by
  obtain ⟨hsent, hcount⟩ := State.ethStampTx_frame (s := s.ethSent n b) hn slot w (List.prefix_refl _)
  obtain ⟨hsent', hbit, hcount'⟩ := State.ethReturnTx_frame hn slot w 0 hsent
  rw [State.ethSend_eq]
  exact ⟨hsent', hbit, hcount'.trans (hcount.trans (State.rd_count_self ..))⟩

/-! ## Links (R441) -/

/-- A running port's link and its auto-negotiation are shown. -/
def State.showLink (s : State) (n : Nat) (up an : Bool) : State :=
  (s.wr (R.ETH_P_STATUS.LINK n) 0 (b2n up)).wr (R.ETH_P_STATUS.AN_DONE n) 0
    (b2n (up && an && s.rd (R.ETH_P_CTRL.MODE n) 0 == 0 && s.on (R.ETH_P_CTRL.AN_EN n) 0))

theorem doEthLinkChange_runs (hr : s.ethRuns n = true) (up an : Bool) : doEthLinkChange n up an s =
    if s.on (R.ETH_P_STATUS.LINK n) 0 == up then s.showLink n up an else (s.showLink n up an).raiseEth n 0 := by
  unfold doEthLinkChange
  rw [hr]
  rfl

theorem State.showLink_rd (up an : Bool) : (s.showLink n up an).rd (R.ETH_P_STATUS.LINK n) 0 = b2n up ∧
    (s.showLink n up an).rd (R.ETH_P_STATUS.AN_DONE n) 0 =
      b2n (up && an && s.rd (R.ETH_P_CTRL.MODE n) 0 == 0 && s.on (R.ETH_P_CTRL.AN_EN n) 0) := by
  have hbit : ∀ b : Bool, b2n b % 2 ^ 1 = b2n b := fun b => by cases b <;> rfl
  have hne : (R.ETH_P_STATUS.AN_DONE n).apart (R.ETH_P_STATUS.LINK n) = true :=
    Fld.apart_of (.inr (show 1 % 32 ≠ 0 % 32 by decide))
  refine ⟨?_, ?_⟩
  · rw [State.showLink, State.rd_wr_apart hne, State.rd_wr_self]
    exact hbit _
  · rw [State.showLink, State.rd_wr_self]
    exact hbit _

theorem State.upset_ethTxSlot (us : List Upset) :
    s.ethSlot (R.ETH_P_TX_BASE.BASE n) (R.ETH_P_TX_CFG.POS n) = (s.upset us).ethTxSlot n := by
  simp only [State.ethTxSlot, State.ethSlot, State.upset_rd]

/-- Settles O46: a bad FCS and a long frame are counted and dropped, a frame of gPTP goes to the firmware with its stamp; a kick is
remembered; a descriptor that is not owned ends the kick and one that is owned is sent and returned; a link's change is shown. -/
theorem ethernetPortsRun : Obligations.EthernetPortsRun := by
  unfold Obligations.EthernetPortsRun
  refine ⟨fun n b us s hr => ⟨?badFcs, fun hl => ?long, fun hl h0 hg hb => ?gptp⟩, fun a n v s h hv => ?kick,
    fun n us s hr hk w s1 hp => ⟨fun ho => ?empty, fun b s2 ho ha hz hl hf hg => ?send⟩, fun n up an s hr => ?link⟩
  case badFcs =>
    refine ⟨_, exec_ethFrameReceive n b false us, ?_⟩
    rw [doEthFrameReceive_badFcs hr, State.rd_count_self, State.upset_rd]
    refine ⟨rfl, ?_, (State.upset_frame us).1, (State.upset_eth (n := n.val) us).2.2.2.1⟩
    rw [State.count, State.rd_wr_apart (Fld.apart_of (.inl (ethOff_ne (by decide) (by decide) (by decide)))), State.upset_rd]
  case long =>
    refine ⟨_, exec_ethFrameReceive n b true us, ?_⟩
    rw [doEthFrameReceive_long hr hl, State.ethDrop]
    refine ⟨?_, State.raiseEth_self 3, ?_⟩
    · rw [State.raiseEth_rd (Fld.apart_of (.inl (ethOff_ne (by decide) (by decide) (by decide)))), State.rd_count_self,
        State.upset_rd]
    · rw [State.raiseEth_dmem]
      exact (State.upset_eth (n := n.val) us).2.2.2.1
  case gptp =>
    refine ⟨_, exec_ethFrameReceive n b true us, ?_⟩
    obtain ⟨-, -, -, hdmem, hout⟩ := State.countRx_frame (s := s) (n := n.val) us
    rw [doEthFrameReceive_gptp hr hl h0 hg hb, State.emit_rd, State.emit_outbox, State.emit_dmem, hout, hdmem, State.countRx,
      State.rd_count_self, State.upset_rd]
    exact ⟨rfl, rfl, rfl⟩
  case kick =>
    refine ⟨_, exec_ethTxKick h v, ?_⟩
    rw [doEthTxKick_kicks hv]
    exact ⟨mem_insertAsc.2 (.inl rfl), rfl, rfl⟩
  case empty =>
    rw [State.upset_ethTxSlot us] at hp
    refine ⟨_, exec_ethFrameTransmit n us, ?_⟩
    rw [doEthFrameTransmit_kicked hr hk, State.ethTransmit_empty hp ho]
    exact ⟨State.ethRest_kicked, ((State.portRead_eth n.isLt hp).2).trans (State.upset_rd us _ _)⟩
  case send =>
    rw [State.upset_ethTxSlot us] at hp
    obtain ⟨⟨m, hm⟩, hbit, hcount⟩ := State.ethSend_frame (s := s2) n.isLt ((s.upset us).ethTxSlot n.val) w b
    refine ⟨_, s2.outbox, m, exec_ethFrameTransmit n us, ?_⟩
    rw [doEthFrameTransmit_kicked hr hk, State.ethTransmit_sends hp ho ha hz hl hf hg]
    exact ⟨hm.symm, hbit, hcount⟩
  case link =>
    refine ⟨_, exec_ethLinkChange n up an, ?_⟩
    rw [doEthLinkChange_runs hr]
    obtain ⟨hlink, hdone⟩ := State.showLink_rd (s := s) (n := n.val) up an
    have hbit : ∀ k, (ethBit n.val 0).apart ⟨.eth, 0x104 + 0x80 * n.val, k, 1, .ro, 0⟩ = true := fun k =>
      Fld.apart_of (.inl (ethOff_ne (by decide) (by decide) (by decide)))
    by_cases hu : s.on (R.ETH_P_STATUS.LINK n.val) 0 = up
    · rw [if_pos (beq_iff_eq.2 hu)]
      exact ⟨hlink, hdone, fun h => absurd hu h, fun _ => rfl⟩
    · rw [if_neg (fun h => hu (beq_iff_eq.1 h))]
      exact ⟨(State.raiseEth_rd (hbit 0) 0).trans hlink, (State.raiseEth_rd (hbit 1) 0).trans hdone,
        fun _ => State.raiseEth_self 0, fun h => absurd h hu⟩

end Sys2Proof.Machine

/-! The resets that software commands (R462 to R465, R481, R516): what each clears, keeps and records. -/

namespace Sys2Proof.Machine
open Sys2Proof

variable {s : State} {a : Accessor}

theorem exec_systemReset (h : s.accessCode a .pwr 0 0x40 true = 0) : exec (.systemReset a) s = .next (doResetCommand a 1 s) :=
  congrArg Host.Outcome.next (State.access_ok h _)

theorem exec_controlReset (h : s.accessCode a .pwr 0 0x40 true = 0) : exec (.controlReset a) s = .next (doResetCommand a 2 s) :=
  congrArg Host.Outcome.next (State.access_ok h _)

theorem doResetCommand_system (h : a = .host ∨ viaDebug a = true) :
    doResetCommand a 1 s = (s.respond a true 0).systemReset (commandCause a 1) := by
  rw [doResetCommand, if_pos h]
  rfl

theorem doResetCommand_control (h : a = .host ∨ viaDebug a = true) :
    doResetCommand a 2 s = (s.respond a true 0).controlReset (commandCause a 2) := by
  rw [doResetCommand, if_pos h]
  rfl

theorem doResetCommand_refused (h1 : a ≠ .host) (h2 : viaDebug a = false) (kind : Nat) :
    doResetCommand a kind s = s.refuseWrite a .pwr 0 0x40 5 := by
  rw [doResetCommand, if_neg]
  rintro (h | h)
  · exact h1 h
  · exact Bool.false_ne_true (h2.symm.trans h)

/-- A refused command leaves an error on the page, and the stores. -/
theorem doResetCommand_refused_frame (h1 : a ≠ .host) (h2 : viaDebug a = false) (kind : Nat) :
    (doResetCommand a kind s).rd (errValid .pwr) 0 = 1 ∧ (doResetCommand a kind s).dmem = s.dmem ∧
    (doResetCommand a kind s).parts = s.parts ∧ (doResetCommand a kind s).control = s.control := by
  rw [doResetCommand_refused h1 h2]
  exact ⟨State.err_valid .., State.errReg_dmem .., State.errReg_parts .., State.errReg_control ..⟩

/-! ## System reset (R462) -/

/-- A field's page from the TYPE of its key. -/
theorem page_ne_of_keyType {f : Fld} {ch : Nat} {p : Page} (h : keyType (f.key ch) ≠ p.type) : f.page ≠ p := by
  rw [keyType, Fld.key_page] at h
  exact fun e => h (congrArg Page.type e)

theorem State.systemReset_status (cause : Nat) : (s.systemReset cause).rd R.PWR_STATUS.DEV_STATE 0 = 2 ∧
    (s.systemReset cause).rd R.PWR_RESET_CAUSE.CAUSE 0 = cause % 16 := by
  unfold State.systemReset
  extract_lets base s1
  rw [State.spareCounts_rd (by decide), State.spareCounts_rd (by decide)]
  change s1.rd R.PWR_STATUS.DEV_STATE 0 = 2 ∧ s1.rd R.PWR_RESET_CAUSE.CAUSE 0 = cause % 16
  unfold s1
  rw [State.resetCause, State.rd_wr_self, State.rd_wr_apart (by decide), State.rd_wr_apart (by decide), State.rd_wr_self]
  exact ⟨rfl, rfl⟩

/-- A field outside the PWR_ and RES_ pages reads as kept, or as out of reset. -/
theorem State.systemReset_rd {f : Fld} (hp : f.page ≠ .pwr) (hr : f.page ≠ .res) (cause ch : Nat) :
    (s.systemReset cause).rd f ch = SMap.get f.reset (s.regs.keep keptAtSystem) (f.key ch) := by
  have hap : ∀ g : Fld, g.page = .pwr → g.apart f = true := fun g hg => Fld.apart_of_page (hg ▸ hp.symm)
  unfold State.systemReset
  extract_lets base s1
  rw [State.spareCounts_rd hr]
  change s1.rd f ch = _
  unfold s1
  rw [State.resetCause, State.rd_wr_apart (hap R.PWR_STATUS.DEV_STATE rfl), State.rd_wr_apart (hap R.PWR_RESET_CAUSE.RAIL rfl),
    State.rd_wr_apart (hap R.PWR_RESET_CAUSE.CAUSE rfl)]
  rfl

theorem State.systemReset_frame (cause : Nat) : (s.systemReset cause).dmem = [] ∧ (s.systemReset cause).cores = [] ∧
    (s.systemReset cause).parts = [] ∧ (s.systemReset cause).tb = 0 ∧ (s.systemReset cause).pcie = s.pcie ∧
    (s.systemReset cause).tap = s.tap ∧ (s.systemReset cause).logbook = s.logbook ∧
    (s.systemReset cause).challenges = s.challenges + 1 ∧ (s.systemReset cause).outbox = s.outbox :=
  ⟨rfl, rfl, rfl, rfl, rfl, rfl, rfl, rfl, rfl⟩

/-! ## Control reset (R462, R464) -/

theorem State.rearmSource_sends {l : List Output} (h : l <+: s.outbox) (n : Nat) : l <+: (s.rearmSource n).outbox := by
  unfold State.rearmSource
  extract_lets s1
  split
  · exact State.irqEvent_sends (by exact h) n
  · exact h

theorem State.logQueue_sends {l : List Output} (h : l <+: s.outbox) (e : LogEvent) : l <+: (s.logQueue e).outbox := by
  unfold State.logQueue
  split
  · exact State.raise_sends (by exact h) _ _ _
  · exact h

/-- The stacks of the control cores are emptied. -/
def State.clearStacks (s : State) : State := (List.range 4).foldl (fun (s : State) k => s.setIrqStack k []) s

theorem State.clearStacks_keeps {t : State} (h : Keeps 163827719077889 s t) : Keeps 163827719077889 s t.clearStacks :=
  keeps_foldl h (fun _ _ h => State.setIrqStack_keeps rfl h)

theorem State.clearStacks_outbox : s.clearStacks.outbox = s.outbox :=
  (keeps_foldl (M := 141837134200832) (Keeps.refl _ s) (fun _ _ h => State.setIrqStack_keeps rfl h)).same .out rfl

/-- What a control reset does after it has cleared the control complex: the stacks are emptied, and the cause is recorded and
logged. -/
def State.controlRestart (s : State) (cause : Nat) : State :=
  ((s.clearStacks.rearmSource 185).resetCause cause 0).logQueue ((s.clearStacks.rearmSource 185).resetCause cause 0).causeEvent

theorem State.controlRestart_keeps (cause : Nat) : Keeps 163827719077889 s (s.controlRestart cause) :=
  State.logQueue_keeps rfl (State.resetCause_keeps rfl (State.rearmSource_keeps rfl (State.clearStacks_keeps (Keeps.refl _ s))))

theorem State.controlRestart_cause (cause : Nat) :
    (s.controlRestart cause).rd R.PWR_RESET_CAUSE.CAUSE 0 = cause % 16 := by
  have hk := State.logQueue_keeps (M := 18692049993729) (a1 := ((s.clearStacks.rearmSource 185).resetCause cause 0).causeEvent)
    rfl (Keeps.refl _ ((s.clearStacks.rearmSource 185).resetCause cause 0))
  refine (hk.rd_plain (g := R.PWR_RESET_CAUSE.CAUSE) rfl rfl 0).trans ?_
  rw [State.resetCause, State.rd_wr_apart (by decide), State.rd_wr_self]
  rfl

theorem State.controlRestart_sends (cause : Nat) : s.outbox <+: (s.controlRestart cause).outbox := by
  unfold State.controlRestart
  refine State.logQueue_sends ?_ _
  rw [State.resetCause, State.wr_outbox, State.wr_outbox]
  refine State.rearmSource_sends ?_ 185
  rw [State.clearStacks_outbox]

/-- A field that a control reset clears is on the HST_ or the RES_ page, and no error register. -/
theorem clearedAtControl_page {f : Fld} {ch : Nat} (h : clearedAtControl (f.key ch) = true) :
    (f.page = .hst ∨ f.page = .res) ∧ errorReg (f.off % 4096) = false := by
  have htype : keyType (f.key ch) = f.page.type := Fld.key_page f ch
  have hoff : keyOff (f.key ch) = f.off % 4096 := Fld.key_off f ch
  simp only [clearedAtControl, htype, hoff, Bool.or_eq_true, Bool.and_eq_true, beq_iff_eq, decide_eq_true_eq] at h
  refine ⟨?_, ?_⟩
  · rcases h with ⟨⟨h, -⟩, -⟩ | ⟨⟨h, -⟩, -⟩
    · exact .inl (Page.type_inj h)
    · exact .inr (Page.type_inj h)
  · have hne : ∀ k < 0x40, f.off % 4096 ≠ k := fun k hk e => by omega
    simp only [errorReg, beq_false_of_ne (hne 0xC (by decide)), beq_false_of_ne (hne 0x18 (by decide)),
      beq_false_of_ne (hne 0x1C (by decide)), Bool.or_self]

theorem State.controlReset_effect (cause : Nat) : (s.controlReset cause).rd R.PWR_RESET_CAUSE.CAUSE 0 = cause % 16 ∧
    (∀ (f : Fld) (ch : Nat), clearedAtControl (f.key ch) = true → (s.controlReset cause).rd f ch = f.reset) ∧
    (s.controlReset cause).nocLocked = false ∧ (s.controlReset cause).control.runs = none ∧
    s.outbox <+: (s.controlReset cause).outbox := by
  unfold State.controlReset
  extract_lets s1 s2 s3
  change (s1.controlRestart cause).rd R.PWR_RESET_CAUSE.CAUSE 0 = cause % 16 ∧
    (∀ (f : Fld) (ch : Nat), clearedAtControl (f.key ch) = true → (s1.controlRestart cause).rd f ch = f.reset) ∧
    (s1.controlRestart cause).nocLocked = false ∧ (s1.controlRestart cause).control.runs = none ∧
    s1.outbox <+: (s1.controlRestart cause).outbox
  have hk := State.controlRestart_keeps (s := s1) cause
  refine ⟨State.controlRestart_cause cause, fun f ch hf => ?_, (hk.same .noc rfl).2.2,
    congrArg Control.runs (hk.same .control rfl), State.controlRestart_sends cause⟩
  obtain ⟨hpage, herr⟩ := clearedAtControl_page hf
  have hrd : (s1.controlRestart cause).rd f ch = s1.rd f ch := by
    refine hk.rd_plain ?_ herr ch
    rcases hpage with h | h <;> rw [h] <;> rfl
  rw [hrd]
  exact SMap.get_keep_out (p := fun k => !clearedAtControl k) (by rw [hf]; rfl) _

theorem State.controlReset_stores (cause : Nat) : (s.controlReset cause).dmem = s.dmem ∧
    (s.controlReset cause).parts = s.parts ∧ (s.controlReset cause).cores = s.cores ∧ (s.controlReset cause).tb = s.tb := by
  have hk := State.controlReset_keeps (M := 9180373359525907) (a1 := cause) rfl (Keeps.refl _ s)
  exact ⟨hk.same .dmem rfl, hk.same .parts rfl, hk.same .cores rfl, (hk.same .time rfl).1⟩

theorem commandCause_mod (a : Accessor) : commandCause a 1 % 16 = 5 + b2n (viaDebug a) ∧
    commandCause a 2 % 16 = 7 + b2n (viaDebug a) := by
  cases h : viaDebug a <;> rw [commandCause, commandCause, h] <;> exact ⟨rfl, rfl⟩

/-- Settles O49: from the host or the debug path a system reset clears everything that R462 does not keep and a control reset the
control complex, after their response; any other writer is refused. -/
theorem commandedResets : Obligations.CommandedResets := by
  unfold Obligations.CommandedResets
  refine fun a s h => ⟨fun ha => ⟨?system, ?control⟩, fun h1 h2 => ⟨?refused1, ?refused2⟩⟩
  case system =>
    refine ⟨_, exec_systemReset h, ?_⟩
    rw [doResetCommand_system ha]
    obtain ⟨hstate, hcause⟩ := State.systemReset_status (s := s.respond a true 0) (commandCause a 1)
    refine ⟨hstate, hcause.trans (commandCause_mod a).1, fun f ch hp hr hf => ?_, fun f ch hp hr hf => ?_,
      State.systemReset_frame (s := s.respond a true 0) (commandCause a 1)⟩
    · rw [State.systemReset_rd (page_ne_of_keyType (p := .pwr) hp) (page_ne_of_keyType (p := .res) hr), SMap.get_keep_out hf]
    · rw [State.systemReset_rd (page_ne_of_keyType (p := .pwr) hp) (page_ne_of_keyType (p := .res) hr), SMap.get_keep hf]
      rfl
  case control =>
    obtain ⟨hcause, hclear, hlocked, hruns, l, hl⟩ := State.controlReset_effect (s := s.respond a true 0) (commandCause a 2)
    obtain ⟨hdmem, hparts, hcores, htb⟩ := State.controlReset_stores (s := s.respond a true 0) (commandCause a 2)
    refine ⟨_, l, exec_controlReset h, ?_⟩
    rw [doResetCommand_control ha]
    exact ⟨hcause.trans (commandCause_mod a).2, fun f ch _ hf => hclear f ch hf, hdmem, hparts, hcores, htb, hlocked, hruns, hl.symm⟩
  case refused1 => exact ⟨_, exec_systemReset h, doResetCommand_refused_frame h1 h2 1⟩
  case refused2 => exact ⟨_, exec_controlReset h, doResetCommand_refused_frame h1 h2 2⟩

end Sys2Proof.Machine

/-! Temperature and clocks (R469 to R471, R474): a reading, the throttle and its release, the step frequency, and a lost lock. -/

namespace Sys2Proof.Machine
open Sys2Proof

variable {s : State}

theorem exec_tempReading (l : List (BitVec 16)) : exec (.tempReading l) s = .next (doTempReading l s) := rfl

theorem exec_throttleRelease : exec .throttleRelease s = .next (doThrottleRelease s) := rfl

theorem exec_stepFreqChange : exec .stepFreqChange s = .next (doStepFreqChange s) := rfl

theorem exec_pllUnlock (b : Fin 17) : exec (.pllUnlock b) s = .next (doPllUnlock b.val s) := rfl

/-! ## The request for a frequency (R471, R472) -/

/-- A request for a frequency leaves the registers of the PWR_ page. -/
theorem State.askMHz_rd {g : Fld} (h : g.page = .pwr) (d : Nat) : s.askMHz.rd g d = s.rd g d :=
  (State.askMHz_keeps (M := 2251808404668417) rfl (Keeps.refl _ s)).rd_any (by rw [h]; rfl) rfl d

/-- A request for a frequency leaves what is known of the readings. -/
theorem State.askMHz_readings : s.askMHz.tempFresh = s.tempFresh ∧ s.askMHz.coolFrom = s.coolFrom := by
  unfold State.askMHz
  split
  · exact ⟨rfl, rfl⟩
  · extract_lets f
    split
    · unfold State.takeRequest
      extract_lets s1
      obtain ⟨-, -, -, hcool, hfresh, -⟩ := (State.issueOrder_keeps (M := 1048577) (a1 := .stepfreq)
        (a2 := s1.rd R.CAS_LEAD.TICKS 0) (a3 := s1.orderedMHz) rfl (Keeps.refl _ s1)).same .power rfl
      exact ⟨hfresh, hcool⟩
    · obtain ⟨-, -, -, hcool, hfresh, -⟩ := (State.report_keeps (M := 2251799814733825) (a1 := .throttleReq)
        (a2 := f) rfl (Keeps.refl _ s)).same .power rfl
      exact ⟨hfresh, hcool⟩

/-- Outside a cascade the package decides for itself. -/
theorem State.askMHz_idle (h : s.rd R.CAS_STATUS.UNIT_STATE 0 = 0) : s.askMHz.freqTarget = some s.ownMHz := by
  rw [State.askMHz, if_pos h]
  rfl

/-! ## Readings (R470, R471) -/

/-- The hottest sensor is one of those read. -/
theorem hottest_lt {l : List (BitVec 16)} {i k : Nat} {x : Int} (h : hottest l i = some (x, k)) : k < i + l.length := by
  induction l generalizing i x k with
  | nil => exact absurd h (by simp [hottest])
  | cons t r ih =>
    rw [List.length_cons]
    rcases hr : hottest r (i + 1) with _ | ⟨y, j⟩
    · simp only [hottest, hr, Option.some.injEq, Prod.mk.injEq] at h
      omega
    · have hj := ih hr
      simp only [hottest, hr] at h
      split at h <;> simp only [Option.some.injEq, Prod.mk.injEq] at h <;> omega

/-- A reading is shown, and the highest with it. -/
def State.showReading (s : State) (x : Int) (k : Nat) : State :=
  if s.tempFresh || decide (signedOf 16 (s.rd R.PWR_TEMP_MAX.TJ 0) < x) then
    { ((s.wr R.PWR_TEMP.TJ 0 (ofSigned 16 x)).wr R.PWR_TEMP.SENSOR 0 k).wr R.PWR_TEMP_MAX.TJ 0 (ofSigned 16 x) with
      tempFresh := false }
  else (s.wr R.PWR_TEMP.TJ 0 (ofSigned 16 x)).wr R.PWR_TEMP.SENSOR 0 k

theorem doTempReading_some {l : List (BitVec 16)} {x : Int} {k : Nat} (h : hottest (l.take 8) 0 = some (x, k))
    (hd : 2 ≤ s.rd R.PWR_STATUS.DEV_STATE 0) : doTempReading l s = (s.showReading x k).judgeReading x := by
  simp only [doTempReading, h, if_neg (Nat.not_lt.2 hd)]
  rfl

theorem ofSigned_mod (x : Int) : ofSigned 16 x % 2 ^ 16 = ofSigned 16 x := by
  rw [ofSigned]
  omega

theorem State.showReading_rd {g : Fld} (h0 : R.PWR_TEMP.TJ.apart g = true) (h1 : R.PWR_TEMP.SENSOR.apart g = true)
    (h2 : R.PWR_TEMP_MAX.TJ.apart g = true) (x : Int) (k d : Nat) : (s.showReading x k).rd g d = s.rd g d := by
  unfold State.showReading
  split
  · exact (State.rd_wr_apart h2 _ _ _).trans ((State.rd_wr_apart h1 _ _ _).trans (State.rd_wr_apart h0 _ _ _))
  · exact (State.rd_wr_apart h1 _ _ _).trans (State.rd_wr_apart h0 _ _ _)

theorem State.showReading_frame (x : Int) (k : Nat) :
    (s.showReading x k).freqTarget = s.freqTarget ∧ (s.showReading x k).outbox = s.outbox := by
  unfold State.showReading
  split <;> exact ⟨rfl, rfl⟩

theorem State.showReading_shows {k : Nat} (hk : k < 8) (x : Int) : (s.showReading x k).rd R.PWR_TEMP.TJ 0 = ofSigned 16 x ∧
    (s.showReading x k).rd R.PWR_TEMP.SENSOR 0 = k ∧
    ((s.tempFresh = true ∨ signedOf 16 (s.rd R.PWR_TEMP_MAX.TJ 0) < x) →
      (s.showReading x k).rd R.PWR_TEMP_MAX.TJ 0 = ofSigned 16 x ∧ (s.showReading x k).tempFresh = false) := by
  have htj : ((s.wr R.PWR_TEMP.TJ 0 (ofSigned 16 x)).wr R.PWR_TEMP.SENSOR 0 k).rd R.PWR_TEMP.TJ 0 = ofSigned 16 x :=
    (State.rd_wr_apart (by decide) _ _ _).trans ((State.rd_wr_self _ _ _).trans (ofSigned_mod x))
  have hsensor : ((s.wr R.PWR_TEMP.TJ 0 (ofSigned 16 x)).wr R.PWR_TEMP.SENSOR 0 k).rd R.PWR_TEMP.SENSOR 0 = k :=
    (State.rd_wr_self _ _ _).trans (Nat.mod_eq_of_lt hk)
  unfold State.showReading
  split
  · exact ⟨(State.rd_wr_apart (by decide) _ _ _).trans htj, (State.rd_wr_apart (by decide) _ _ _).trans hsensor,
      fun _ => ⟨(State.rd_wr_self _ _ _).trans (ofSigned_mod x), rfl⟩⟩
  · next hno =>
    refine ⟨htj, hsensor, fun h => absurd ?_ hno⟩
    rcases h with h | h
    · rw [h]
      rfl
    · rw [decide_eq_true h, Bool.or_true]

/-- A throttle engages, before a frequency is asked for. -/
def State.engaged (s : State) : State :=
  (((({ s with coolFrom := none } : State).wr R.PWR_STATUS.THROTTLED 0 1).count R.PWR_THROTTLE_COUNT.COUNT 0 1).raise .pwr 0 0)

theorem State.engage_eq : s.engage = s.engaged.askMHz := rfl

theorem State.engaged_rd {g : Fld} (h0 : R.PWR_STATUS.THROTTLED.apart g = true) (h1 : R.PWR_THROTTLE_COUNT.COUNT.apart g = true)
    (h2 : (intBit .pwr 0).apart g = true) (d : Nat) : s.engaged.rd g d = s.rd g d := by
  rw [State.engaged, State.raise_rd_apart h2, State.count, State.rd_wr_apart h1, State.rd_wr_apart h0]
  rfl

theorem State.engaged_throttled : s.engaged.rd R.PWR_STATUS.THROTTLED 0 = 1 := by
  rw [State.engaged, State.raise_rd_apart (by decide), State.count, State.rd_wr_apart (by decide), State.rd_wr_self]
  rfl

theorem State.engage_frame : s.engage.rd R.PWR_STATUS.THROTTLED 0 = 1 ∧ s.engage.rd (intBit .pwr 0) 0 = 1 ∧
    s.engage.rd R.PWR_THROTTLE_COUNT.COUNT 0 = satAdd 32 (s.rd R.PWR_THROTTLE_COUNT.COUNT 0) 1 ∧
    (s.rd R.CAS_STATUS.UNIT_STATE 0 = 0 → s.engage.freqTarget = some (min (s.rd R.PWR_THROTTLE.FREQ_MHZ 0) s.progMHz)) := by
  rw [State.engage_eq, State.askMHz_rd rfl, State.askMHz_rd rfl, State.askMHz_rd rfl]
  refine ⟨State.engaged_throttled, State.raise_self _ _ _, ?_, fun hu => ?_⟩
  · rw [State.engaged, State.raise_rd_apart (by decide), State.rd_count_self, State.rd_wr_apart (by decide)]
    rfl
  · have hu' : s.engaged.rd R.CAS_STATUS.UNIT_STATE 0 = 0 :=
      (State.engaged_rd (by decide) (by decide) (by decide) 0).trans hu
    rw [State.askMHz_idle hu', State.ownMHz, State.on, State.engaged_throttled, if_pos (by decide), State.progMHz,
      State.engaged_rd (by decide) (by decide) (by decide), State.engaged_rd (by decide) (by decide) (by decide), State.progMHz]

/-- The levels leave what a reading showed. -/
theorem State.judgeReading_keeps_shown {g : Fld} (hp : g.page = .pwr) (h0 : R.PWR_STATUS.THROTTLED.apart g = true)
    (h1 : R.PWR_THROTTLE_COUNT.COUNT.apart g = true) (h2 : (intBit .pwr 0).apart g = true) (x : Int) :
    (s.judgeReading x).rd g 0 = s.rd g 0 ∧ (s.judgeReading x).tempFresh = s.tempFresh := by
  unfold State.judgeReading
  extract_lets on off
  split
  · split <;> exact ⟨rfl, rfl⟩
  · split
    · rw [State.engage_eq, State.askMHz_rd hp, State.engaged_rd h0 h1 h2, State.askMHz_readings.1, State.engaged,
        State.raise_tempFresh]
      exact ⟨rfl, rfl⟩
    · exact ⟨rfl, rfl⟩

theorem State.judgeReading_engages {x : Int} (ht : s.rd R.PWR_STATUS.THROTTLED 0 = 0) (he : s.rd R.PWR_CTRL.THROTTLE_EN 0 = 1)
    (hx : ((16 * s.rd R.PWR_THROTTLE.TEMP_ON 0 : Nat) : Int) ≤ x) : s.judgeReading x = s.engage := by
  rw [Nat.mul_comm] at hx
  unfold State.judgeReading
  extract_lets on off
  rw [State.on, State.on, ht, he, if_neg (by decide), if_pos]
  rw [decide_eq_true (show on ≤ x from hx)]
  rfl

theorem State.judgeReading_cool {x : Int} (ht : s.rd R.PWR_STATUS.THROTTLED 0 = 0)
    (hx : x < ((16 * s.rd R.PWR_THROTTLE.TEMP_ON 0 : Nat) : Int)) : s.judgeReading x = s := by
  rw [Nat.mul_comm] at hx
  unfold State.judgeReading
  extract_lets on off
  rw [State.on, State.on, ht, if_neg (by decide), if_neg]
  rw [decide_eq_false (show ¬ on ≤ x from Int.not_le.2 hx), Bool.and_false]
  exact Bool.false_ne_true

/-! ## Release and the step frequency (R469, R471) -/

/-- A throttle ends, before a frequency is asked for. -/
def State.released (s : State) : State :=
  (({ s with coolFrom := none } : State).wr R.PWR_STATUS.THROTTLED 0 0).raise .pwr 0 1

theorem doThrottleRelease_throttled (ht : s.rd R.PWR_STATUS.THROTTLED 0 = 1) (hc : s.coolFrom ≠ none) :
    doThrottleRelease s = s.released.askMHz := by
  have hgo : (s.on R.PWR_STATUS.THROTTLED 0 && s.coolFrom.isSome) = true := by
    rw [State.on, ht, Option.isSome_iff_ne_none.2 hc]
    rfl
  rw [doThrottleRelease, if_pos hgo]
  rfl

theorem State.released_rd {g : Fld} (h0 : R.PWR_STATUS.THROTTLED.apart g = true) (h1 : (intBit .pwr 1).apart g = true) (d : Nat) :
    s.released.rd g d = s.rd g d := by
  rw [State.released, State.raise_rd_apart h1, State.rd_wr_apart h0]
  rfl

theorem State.released_throttled : s.released.rd R.PWR_STATUS.THROTTLED 0 = 0 := by
  rw [State.released, State.raise_rd_apart (by decide), State.rd_wr_self]
  rfl

/-- The decided frequency is taken up. -/
def State.takeMHz (s : State) (f : Nat) : State := ({ s with freqTarget := none } : State).wr R.PWR_STEP.CUR_MHZ 0 f

theorem doStepFreqChange_takes {f : Nat} (hf : s.freqTarget = some f) (he : s.emuStopped = false)
    (hp : s.rd R.PWR_CLOCKS.STEP_PLL 0 = 1) : doStepFreqChange s = (s.takeMHz f).throttleEdge (decide (f < s.progMHz)) := by
  simp only [doStepFreqChange, hf, he, Bool.false_eq_true, if_false]
  rw [State.setMHz, State.on, hp, if_neg (by decide)]
  rfl

theorem State.throttleEdge_frame (low : Bool) : (s.throttleEdge low).freqTarget = s.freqTarget ∧
    (s.throttleEdge low).rd R.PWR_STEP.CUR_MHZ 0 = s.rd R.PWR_STEP.CUR_MHZ 0 ∧ (s.throttleEdge low).dmem = s.dmem ∧
    (s.throttleEdge low).cores = s.cores := by
  have hk := State.throttleEdge_keeps (M := 144116287923028993) (a1 := low) rfl (Keeps.refl _ s)
  obtain ⟨-, -, hfreq, -⟩ := hk.same .power rfl
  exact ⟨hfreq, hk.rd_plain (g := R.PWR_STEP.CUR_MHZ) rfl rfl 0, hk.same .dmem rfl, hk.same .cores rfl⟩

/-! ## PLLs (R474) -/

/-- The bit of a PLL in `PWR_CLOCKS` clears. -/
def State.dropLock (s : State) (b : Nat) : State :=
  if b = 0 then s.wr R.PWR_CLOCKS.CORE_PLL 0 0
  else if b = 1 then s.wr R.PWR_CLOCKS.STEP_PLL 0 0
  else if b < 8 then s.wr R.PWR_CLOCKS.CAS_LANE_PLL 0 (setBit (s.rd R.PWR_CLOCKS.CAS_LANE_PLL 0) (b - 4) 0)
  else if b < 16 then s.wr R.PWR_CLOCKS.ETH_PLL 0 (setBit (s.rd R.PWR_CLOCKS.ETH_PLL 0) (b - 8) 0)
  else s.wr R.PWR_CLOCKS.PCIE_PLL 0 0

theorem doPllUnlock_locked {b : Nat} (h2 : b ≠ 2) (h3 : b ≠ 3)
    (hb : bitOf (s.readFields ((fieldsAt .pwr 0x5C).getD []) 0) b = 1) : doPllUnlock b s = (s.dropLock b).raise .pwr 0 2 := by
  unfold doPllUnlock
  extract_lets word s1
  rw [if_neg]
  · rfl
  · rintro (h | h | h)
    · exact h2 h
    · exact h3 h
    · exact Nat.zero_ne_one (h.symm.trans hb)

theorem State.dropLock_rd (b : Nat) : (b = 0 → (s.dropLock b).rd R.PWR_CLOCKS.CORE_PLL 0 = 0) ∧
    (b = 1 → (s.dropLock b).rd R.PWR_CLOCKS.STEP_PLL 0 = 0) ∧
    (4 ≤ b → b < 8 → bitOf ((s.dropLock b).rd R.PWR_CLOCKS.CAS_LANE_PLL 0) (b - 4) = 0) ∧
    (8 ≤ b → b < 16 → bitOf ((s.dropLock b).rd R.PWR_CLOCKS.ETH_PLL 0) (b - 8) = 0) ∧
    (b = 16 → (s.dropLock b).rd R.PWR_CLOCKS.PCIE_PLL 0 = 0) := by
  unfold State.dropLock
  refine ⟨fun h => ?_, fun h => ?_, fun h4 h8 => ?_, fun h8 h16 => ?_, fun h => ?_⟩
  · rw [if_pos h, State.rd_wr_self]
    rfl
  · rw [if_neg (by omega), if_pos h, State.rd_wr_self]
    rfl
  · rw [if_neg (by omega), if_neg (by omega), if_pos h8, State.rd_wr_self]
    exact bitsOf_setBits (w := 1) (n := 4) (by decide) (by omega)
  · rw [if_neg (by omega), if_neg (by omega), if_neg (by omega), if_pos h16, State.rd_wr_self]
    exact bitsOf_setBits (w := 1) (n := 8) (by decide) (by omega)
  · rw [if_neg (by omega), if_neg (by omega), if_neg (by omega), if_neg (by omega), State.rd_wr_self]
    rfl

theorem State.dropLock_frame (b : Nat) : (s.dropLock b).dmem = s.dmem ∧ (s.dropLock b).parts = s.parts ∧
    (s.dropLock b).cores = s.cores := by
  unfold State.dropLock
  split
  · exact ⟨rfl, rfl, rfl⟩
  · split
    · exact ⟨rfl, rfl, rfl⟩
    · split
      · exact ⟨rfl, rfl, rfl⟩
      · split <;> exact ⟨rfl, rfl, rfl⟩

/-- Settles O50: a reading is shown and engages a throttle at TEMP_ON; the release ends it; a decided step frequency is taken up;
and a PLL that loses lock clears its bit and raises the page's interrupt. -/
theorem temperatureThrottles : Obligations.TemperatureThrottles := by
  unfold Obligations.TemperatureThrottles
  refine ⟨fun l x k s h hd => ?reading, fun s ht hc => ?release, fun f s hf he hp => ?freq, fun b s h2 h3 hb => ?pll⟩
  case reading =>
    have hk : k < 8 := by
      have hlt := hottest_lt h
      have hlen := List.length_take_le 8 l
      omega
    obtain ⟨htj, hsensor, hmax⟩ := State.showReading_shows (s := s) hk x
    obtain ⟨hfreq, hout⟩ := State.showReading_frame (s := s) x k
    have hrd : ∀ g : Fld, R.PWR_TEMP.TJ.apart g = true → R.PWR_TEMP.SENSOR.apart g = true →
        R.PWR_TEMP_MAX.TJ.apart g = true → (s.showReading x k).rd g 0 = s.rd g 0 := fun g h0 h1 h2 =>
      State.showReading_rd h0 h1 h2 x k 0
    have hthrottled := hrd R.PWR_STATUS.THROTTLED (by decide) (by decide) (by decide)
    have hlevel := hrd R.PWR_THROTTLE.TEMP_ON (by decide) (by decide) (by decide)
    have hkeep : ∀ g : Fld, g.page = .pwr → R.PWR_STATUS.THROTTLED.apart g = true →
        R.PWR_THROTTLE_COUNT.COUNT.apart g = true → (intBit .pwr 0).apart g = true →
        ((s.showReading x k).judgeReading x).rd g 0 = (s.showReading x k).rd g 0 ∧
        ((s.showReading x k).judgeReading x).tempFresh = (s.showReading x k).tempFresh :=
      fun g hp h0 h1 h2 => State.judgeReading_keeps_shown hp h0 h1 h2 x
    refine ⟨_, exec_tempReading l, ?_⟩
    rw [doTempReading_some h hd]
    refine ⟨(hkeep R.PWR_TEMP.TJ rfl (by decide) (by decide) (by decide)).1.trans htj,
      (hkeep R.PWR_TEMP.SENSOR rfl (by decide) (by decide) (by decide)).1.trans hsensor, fun hm => ?_, fun ht he hx hu => ?_,
      fun ht hx => ?_⟩
    · obtain ⟨hshown, hfresh⟩ := hkeep R.PWR_TEMP_MAX.TJ rfl (by decide) (by decide) (by decide)
      exact ⟨hshown.trans (hmax hm).1, hfresh.trans (hmax hm).2⟩
    · rw [State.judgeReading_engages (hthrottled.trans ht)
        ((hrd R.PWR_CTRL.THROTTLE_EN (by decide) (by decide) (by decide)).trans he) (by rw [hlevel]; exact hx)]
      obtain ⟨h1, h2, h3, h4⟩ := State.engage_frame (s := s.showReading x k)
      refine ⟨h1, h2, ?_, ?_⟩
      · rw [h3, hrd R.PWR_THROTTLE_COUNT.COUNT (by decide) (by decide) (by decide)]
      · rw [h4 ((hrd R.CAS_STATUS.UNIT_STATE (by decide) (by decide) (by decide)).trans hu),
          hrd R.PWR_THROTTLE.FREQ_MHZ (by decide) (by decide) (by decide), State.progMHz,
          hrd R.PWR_STEP.PROG_MHZ (by decide) (by decide) (by decide), State.progMHz]
    · rw [State.judgeReading_cool (hthrottled.trans ht) (by rw [hlevel]; exact hx)]
      exact ⟨hthrottled.trans ht, hfreq, hout⟩
  case release =>
    refine ⟨_, exec_throttleRelease, ?_⟩
    rw [doThrottleRelease_throttled ht hc, State.askMHz_rd rfl, State.askMHz_rd rfl, State.askMHz_readings.2]
    refine ⟨State.released_throttled, ?_, State.raise_self _ _ _, fun hu => ?_⟩
    · rw [State.released, State.raise_coolFrom]
      rfl
    · rw [State.askMHz_idle ((State.released_rd (by decide) (by decide) 0).trans hu), State.ownMHz, State.on,
        State.released_throttled, if_neg (by decide), State.progMHz, State.released_rd (by decide) (by decide), State.progMHz]
  case freq =>
    refine ⟨_, exec_stepFreqChange, ?_⟩
    rw [doStepFreqChange_takes hf he hp]
    obtain ⟨hfreq, hcur, hdmem, hcores⟩ := State.throttleEdge_frame (s := s.takeMHz f) (decide (f < s.progMHz))
    exact ⟨hfreq, hcur.trans (State.rd_wr_self _ _ _), hdmem, hcores⟩
  case pll =>
    refine ⟨_, exec_pllUnlock b, ?_⟩
    rw [doPllUnlock_locked h2 h3 hb]
    obtain ⟨hcore, hstep, hlane, heth, hpcie⟩ := State.dropLock_rd (s := s) b.val
    obtain ⟨hdmem, hparts, hcores⟩ := State.dropLock_frame (s := s) b.val
    have hrd : ∀ g : Fld, (intBit .pwr 2).apart g = true →
        ((s.dropLock b.val).raise .pwr 0 2).rd g 0 = (s.dropLock b.val).rd g 0 := fun g hg => State.raise_rd_apart hg 0 0
    rw [hrd R.PWR_CLOCKS.CORE_PLL (by decide), hrd R.PWR_CLOCKS.STEP_PLL (by decide), hrd R.PWR_CLOCKS.CAS_LANE_PLL (by decide),
      hrd R.PWR_CLOCKS.ETH_PLL (by decide), hrd R.PWR_CLOCKS.PCIE_PLL (by decide), State.raise_dmem, State.raise_parts,
      State.raise_cores]
    exact ⟨State.raise_self _ _ _, hcore, hstep, hlane, heth, hpcie, hdmem, hparts, hcores⟩

end Sys2Proof.Machine

/-! The test access port (R477 to R479, R485): its instructions, and its accesses of the DBG_ page. -/

namespace Sys2Proof.Machine
open Sys2Proof

variable {s : State}

/-! ## The data registers (R477) -/

/-- What the captured register holds by the instruction that the port acts on. -/
theorem State.selectDr_acts {c d : Nat} (h : s.tapActs = c)
    (hd : c = 0x02 ∧ d = 0x18640079 ∨ c = 0x10 ∧ d = s.tap.dbgacc ∨ c = 0x3F ∧ d = 0) :
    s.selectDr = { s with tap := { s.tap with dr := d } } := by
  rcases hd with ⟨rfl, rfl⟩ | ⟨rfl, rfl⟩ | ⟨rfl, rfl⟩
  · simp only [State.selectDr, h]
    rfl
  · simp only [State.selectDr, h]
  · simp only [State.selectDr, h]

/-- The cells of the boundary register are a free value. -/
theorem State.selectDr_cells (h : s.tapActs = 0x00 ∨ s.tapActs = 0x01) :
    ∃ d, s.selectDr = { s with tap := { s.tap with dr := d }, freeUses := s.freeUses + 1 } := by
  rcases h with h | h
  · exact ⟨_, by simp only [State.selectDr, h]; rfl⟩
  · exact ⟨_, by simp only [State.selectDr, h]; rfl⟩

theorem State.tapActs_listed {c : Nat} (h : s.tap.instr = c) (hc : c = 0x02 ∨ c = 0x10) : s.tapActs = c := by
  unfold State.tapActs
  extract_lets i
  rw [show i = c from h]
  rw [if_neg (by omega), if_pos hc]

/-- EXTEST and SAMPLE/PRELOAD act from level 2 on. -/
theorem State.tapActs_boundary {c : Nat} (h : s.tap.instr = c) (hc : c = 0x00 ∨ c = 0x01) :
    s.tapActs = if 2 ≤ s.debugLevel then c else 0x3F := by
  unfold State.tapActs
  extract_lets i
  rw [show i = c from h]
  rw [if_pos hc]

theorem State.tapActs_other {c : Nat} (h : s.tap.instr = c) (h0 : c ≠ 0x00) (h1 : c ≠ 0x01) (h2 : c ≠ 0x02)
    (h3 : c ≠ 0x10) :
    s.tapActs = 0x3F := by
  unfold State.tapActs
  extract_lets i
  rw [show i = c from h]
  rw [if_neg (by omega), if_neg (by omega)]

/-- A capture changes the data register alone. -/
theorem State.selectDr_frame : ∃ d k, s.selectDr = { s with tap := { s.tap with dr := d }, freeUses := k } := by
  unfold State.selectDr
  split
  · exact ⟨_, s.freeUses, rfl⟩
  · exact ⟨_, s.freeUses, rfl⟩
  · exact ⟨_, s.freeUses, rfl⟩
  · exact ⟨_, s.freeUses + 1, rfl⟩

/-! ## The instructions -/

/-- The instruction register is loaded. -/
def State.loadInstr (s : State) (code : Nat) : State := { s with tap := { s.tap with instr := code } }

theorem State.setTap_eq (code : Nat) : s.setTap code = (s.loadInstr code).selectDr := rfl

theorem State.setTap_idcode : s.setTap 0x02 = { s with tap := { s.tap with instr := 0x02, dr := 0x18640079 } } := by
  rw [State.setTap_eq, State.selectDr_acts (State.tapActs_listed (c := 0x02) rfl (.inl rfl)) (.inl ⟨rfl, rfl⟩)]
  rfl

theorem State.setTap_dbgacc : s.setTap 0x10 = { s with tap := { s.tap with instr := 0x10, dr := s.tap.dbgacc } } := by
  rw [State.setTap_eq, State.selectDr_acts (State.tapActs_listed (c := 0x10) rfl (.inr rfl)) (.inr (.inl ⟨rfl, rfl⟩))]
  rfl

theorem State.setTap_bypass : s.setTap 0x3F = { s with tap := { s.tap with instr := 0x3F, dr := 0 } } := by
  rw [State.setTap_eq, State.selectDr_acts (State.tapActs_other (c := 0x3F) rfl (by decide) (by decide) (by decide) (by decide))
    (.inr (.inr ⟨rfl, rfl⟩))]
  rfl

/-- Below level 2 the boundary instructions act as BYPASS. -/
theorem State.setTap_boundary_low {code : Nat} (hc : code = 0x00 ∨ code = 0x01) (hl : s.debugLevel < 2) :
    s.setTap code = { s with tap := { s.tap with instr := code, dr := 0 } } := by
  have hacts : (s.loadInstr code).tapActs = 0x3F := (State.tapActs_boundary rfl hc).trans (if_neg (Nat.not_le.2 hl))
  rw [State.setTap_eq, State.selectDr_acts hacts (.inr (.inr ⟨rfl, rfl⟩))]
  rfl

theorem State.setTap_boundary {code : Nat} (hc : code = 0x00 ∨ code = 0x01) (hl : 2 ≤ s.debugLevel) :
    ∃ d, s.setTap code = { s with tap := { s.tap with instr := code, dr := d }, freeUses := s.freeUses + 1 } := by
  have hacts : (s.loadInstr code).tapActs = code := (State.tapActs_boundary rfl hc).trans (if_pos hl)
  obtain ⟨d, hd⟩ := State.selectDr_cells (s := s.loadInstr code) (by rw [hacts]; exact hc)
  exact ⟨d, hd⟩

/-! ## DBGACC (R478, R479, R485) -/

theorem exec_dbgaccAccess (w : BitVec 48) : exec (.dbgaccAccess w) s = .next (doDbgaccAccess w s) := rfl

/-- The register of the DBG_ page that a DBGACC access reaches. -/
def dbgaccReg (w : BitVec 48) : RegAddr := ⟨.dbg, 0, ⟨4 * bitsOf w.toNat 1 10 % 4096, Nat.mod_lt _ (by decide)⟩⟩

/-- The port acts on DBGACC only where that is the instruction. -/
theorem State.tapActs_ne (h : s.tap.instr ≠ 0x10) : s.tapActs ≠ 0x10 := by
  unfold State.tapActs
  extract_lets i
  have hi : i ≠ 0x10 := h
  split
  · split <;> omega
  · split <;> omega

theorem doDbgaccAccess_other (h : s.tap.instr ≠ 0x10) (w : BitVec 48) : doDbgaccAccess w s = s := by
  rw [doDbgaccAccess, if_pos (State.tapActs_ne h)]

/-- Capture records the access: its direction, its register and its STATUS. -/
theorem State.captureDr_frame (write : Bool) (idx st : Nat) (v : Option W32) :
    (s.captureDr write idx st v).tap.write = write ∧ (s.captureDr write idx st v).tap.index = idx ∧
    (s.captureDr write idx st v).tap.status = st ∧ (s.captureDr write idx st v).tap.instr = s.tap.instr ∧
    (s.captureDr write idx st v).control = s.control ∧ (s.captureDr write idx st v).regs = s.regs ∧
    (s.captureDr write idx st v).outbox = s.outbox := by
  cases v <;> exact ⟨rfl, rfl, rfl, rfl, rfl, rfl, rfl⟩

theorem doDbgaccAccess_busy {w : BitVec 48} (hi : s.tap.instr = 0x10) (hw : bitOf w.toNat 0 = 1) (hx : bitsOf w.toNat 1 10 = 0x18)
    (hf : 64 ≤ s.control.fifo.length) (hl : 2 ≤ s.debugLevel) :
    doDbgaccAccess w s = (s.captureDr true 0x18 1 none).selectDr := by
  have hmay : levelMay s.debugLevel .dbg 0x60 true = true := if_pos hl
  unfold doDbgaccAccess
  rw [if_neg (fun h => h (State.tapActs_listed hi (.inr rfl))), hw]
  extract_lets write idx r n s1 o
  have hidx : idx = 0x18 := hx
  rw [hidx, hmay, decide_eq_true hf]
  exact if_pos (by decide)

theorem doDbgaccAccess_write {w : BitVec 48} (hi : s.tap.instr = 0x10) (hw : bitOf w.toNat 0 = 1)
    (hx : bitsOf w.toNat 1 10 ≠ 0x18) :
    ∃ st v, doDbgaccAccess w s = ((((s.regWrite .jtag (dbgaccReg w) (BitVec.ofNat 32 (bitsOf w.toNat 11 32))).muteFrom
      s.outbox.length).captureDr true (bitsOf w.toNat 1 10) st v).selectDr) := by
  unfold doDbgaccAccess
  rw [if_neg (fun h => h (State.tapActs_listed hi (.inr rfl))), hw]
  extract_lets write idx r n s1 o
  have hidx : (idx == 0x60 / 4) = false := beq_false_of_ne hx
  rw [hidx, Bool.and_false, Bool.false_and, Bool.false_and, if_neg Bool.false_ne_true]
  exact ⟨_, _, rfl⟩

theorem doDbgaccAccess_read {w : BitVec 48} {x : W32} (hi : s.tap.instr = 0x10) (hw : bitOf w.toNat 0 = 0)
    (hr : lastResp ((s.regRead .jtag (dbgaccReg w)).outbox.drop s.outbox.length) = some (0, x)) :
    doDbgaccAccess w s = (((s.regRead .jtag (dbgaccReg w)).muteFrom s.outbox.length).captureDr false (bitsOf w.toNat 1 10) 0
      (some x)).selectDr := by
  unfold doDbgaccAccess
  rw [if_neg (fun h => h (State.tapActs_listed hi (.inr rfl))), hw]
  extract_lets write idx r n s1 o
  have ho : o = some (0, x) := hr
  rw [show write = false from rfl, Bool.false_and, Bool.false_and, Bool.false_and, if_neg Bool.false_ne_true, ho]
  rfl

theorem State.selectDr_tap : s.selectDr.tap = { s.tap with dr := s.selectDr.tap.dr } := by
  obtain ⟨d, k, h⟩ := State.selectDr_frame (s := s)
  rw [h]

theorem State.selectDr_rest : s.selectDr.control = s.control ∧ s.selectDr.regs = s.regs ∧ s.selectDr.outbox = s.outbox := by
  obtain ⟨d, k, h⟩ := State.selectDr_frame (s := s)
  rw [h]
  exact ⟨rfl, rfl, rfl⟩

/-- DBGACC captures the access register. -/
theorem State.selectDr_dbgacc (h : s.tap.instr = 0x10) : s.selectDr.tap.dr = s.selectDr.tap.dbgacc := by
  rw [State.selectDr_acts (State.tapActs_listed h (.inr rfl)) (.inr (.inl ⟨rfl, rfl⟩))]
  rfl

theorem doDbgaccAccess_full {w : BitVec 48} (hi : s.tap.instr = 0x10) (hw : bitOf w.toNat 0 = 1) (hx : bitsOf w.toNat 1 10 = 0x18)
    (hf : 64 ≤ s.control.fifo.length) (hl : 2 ≤ s.debugLevel) :
    ∃ t, exec (.dbgaccAccess w) s = .next t ∧ t.tap.status = 1 ∧ t.tap.write = true ∧ t.tap.index = 0x18 ∧
      t.control = s.control ∧ t.regs = s.regs ∧ t.outbox = s.outbox := by
  obtain ⟨hwr, hidx, hst, -, hctl, hregs, hout⟩ := State.captureDr_frame (s := s) true 0x18 1 none
  obtain ⟨hctl', hregs', hout'⟩ := State.selectDr_rest (s := s.captureDr true 0x18 1 none)
  refine ⟨_, exec_dbgaccAccess w, ?_⟩
  rw [doDbgaccAccess_busy hi hw hx hf hl, State.selectDr_tap]
  exact ⟨hst, hwr, hidx, hctl'.trans hctl, hregs'.trans hregs, hout'.trans hout⟩

theorem doDbgaccAccess_writes {w : BitVec 48} (hi : s.tap.instr = 0x10) (hw : bitOf w.toNat 0 = 1)
    (hx : bitsOf w.toNat 1 10 ≠ 0x18) :
    ∃ t, exec (.dbgaccAccess w) s = .next t ∧ t.tap.write = true ∧ t.tap.index = bitsOf w.toNat 1 10 ∧
      t.regs = (s.regWrite .jtag (dbgaccReg w) (BitVec.ofNat 32 (bitsOf w.toNat 11 32))).regs := by
  obtain ⟨st, v, h⟩ := doDbgaccAccess_write hi hw hx
  obtain ⟨hwr, hidx, -, -, -, hregs, -⟩ := State.captureDr_frame (s := (s.regWrite .jtag (dbgaccReg w)
    (BitVec.ofNat 32 (bitsOf w.toNat 11 32))).muteFrom s.outbox.length) true (bitsOf w.toNat 1 10) st v
  refine ⟨_, exec_dbgaccAccess w, ?_⟩
  rw [h, State.selectDr_tap, State.selectDr_rest.2.1]
  exact ⟨hwr, hidx, hregs⟩

/-- A register read leaves the port. -/
theorem State.regRead_tap (a : Accessor) (r : RegAddr) : (s.regRead a r).tap = s.tap :=
  (State.regRead_keeps (M := 4611685208104646675) rfl (Keeps.refl _ s)).same .tap rfl

theorem doDbgaccAccess_reads {w : BitVec 48} {x : W32} (hi : s.tap.instr = 0x10) (hw : bitOf w.toNat 0 = 0)
    (hr : lastResp ((s.regRead .jtag (dbgaccReg w)).outbox.drop s.outbox.length) = some (0, x)) :
    ∃ t, exec (.dbgaccAccess w) s = .next t ∧ t.tap.status = 0 ∧ t.tap.write = false ∧
      t.tap.index = bitsOf w.toNat 1 10 ∧ t.tap.data = x.toNat ∧ t.tap.dr = t.tap.dbgacc := by
  refine ⟨_, exec_dbgaccAccess w, ?_⟩
  rw [doDbgaccAccess_read hi hw hr]
  refine ⟨?_, ?_, ?_, ?_, State.selectDr_dbgacc (Eq.trans ?_ hi)⟩
  · rw [State.selectDr_tap]; rfl
  · rw [State.selectDr_tap]; rfl
  · rw [State.selectDr_tap]; rfl
  · rw [State.selectDr_tap]; rfl
  · show (s.regRead .jtag (dbgaccReg w)).tap.instr = s.tap.instr
    rw [State.regRead_tap]

/-! ## O51 -/

theorem State.tapActs_low (hi : s.tap.instr = 0x00 ∨ s.tap.instr = 0x01) (hl : s.debugLevel < 2) : s.tapActs = 0x3F :=
  (State.tapActs_boundary rfl hi).trans (if_neg (Nat.not_le.2 hl))

/-- Settles O51: an instruction loads the instruction register and captures the data register of what the port acts on;
a DBGACC access is a register access of the JTAG front end, recorded at its capture. -/
theorem testAccessPortActs : Obligations.TestAccessPortActs := by
  refine ⟨fun s => ⟨congrArg _ State.setTap_idcode, fun hl => ⟨congrArg _ (State.setTap_boundary_low (.inl rfl) hl),
      congrArg _ (State.setTap_boundary_low (.inr rfl) hl)⟩, fun hl => ⟨?_, ?_⟩, congrArg _ State.setTap_idcode,
      congrArg _ State.setTap_dbgacc, congrArg _ State.setTap_bypass, State.tapActs_low⟩,
    fun w s => ⟨fun h => congrArg _ (doDbgaccAccess_other h w), doDbgaccAccess_full, doDbgaccAccess_writes,
      fun x => doDbgaccAccess_reads⟩⟩
  · exact (State.setTap_boundary (.inl rfl) hl).imp fun d h => congrArg _ h
  · exact (State.setTap_boundary (.inr rfl) hl).imp fun d h => congrArg _ h

end Sys2Proof.Machine

/-! The debug access level (R480, R481): GRANT_WRITE, UNLOCK_SUBMIT and UNLOCK_CHECK_DONE. -/

namespace Sys2Proof.Machine
open Sys2Proof

variable {a : Accessor} {v : W32} {s : State}

/-! ## A refused write of the DBG_ page -/

theorem State.refuseWrite_rd (p : Page) (ch off code : Nat) {g : Fld} (hg : errorReg (g.off % 4096) = false) (d : Nat) :
    (s.refuseWrite a p ch off code).rd g d = s.rd g d := State.errReg_rd _ _ _ _ _ hg _

theorem State.refuseWrite_valid (p : Page) (ch off code : Nat) : (s.refuseWrite a p ch off code).rd (errValid p) ch = 1 :=
  State.err_valid ..

/-! ## GRANT_WRITE (R480) -/

theorem exec_grantWrite (h : s.accessCode a .dbg 0 0x44 true = 0) : exec (.grantWrite a v) s = .next (doGrantWrite a v s) :=
  congrArg _ (State.access_ok h _)

theorem exec_grantWrite_grants (hc : s.accessCode a .dbg 0 0x44 true = 0) (hd : viaDebug a = false)
    (hl : bitsOf v.toNat 0 2 ≠ 3)
    (hk : s.rd R.DBG_GRANT.LOCK 0 = 0 ∨ bitsOf v.toNat 0 2 = s.debugLevel) :
    ∃ t, exec (.grantWrite a v) s = .next t ∧ t.rd R.DBG_GRANT.LEVEL 0 = bitsOf v.toNat 0 2 ∧
      t.debugLevel = bitsOf v.toNat 0 2 ∧ (bitOf v.toNat 2 = 1 → t.rd R.DBG_GRANT.LOCK 0 = 1) ∧
      t.outbox = s.outbox ++ [.regResp a 0 0] := by
  have hmod : bitsOf v.toNat 0 2 % 2 ^ 2 = bitsOf v.toNat 0 2 := Nat.mod_mod _ _
  have hfree : (s.on R.DBG_GRANT.LOCK 0 && bitsOf v.toNat 0 2 != s.debugLevel) = false := by
    rcases hk with h | h
    · rw [State.on, h]; rfl
    · rw [h, bne_self_eq_false, Bool.and_false]
  refine ⟨_, exec_grantWrite hc, ?_⟩
  rw [doGrantWrite, hd, hfree, beq_false_of_ne hl]
  refine ⟨?_, ?_, fun hb => ?_, rfl⟩
  · change State.rd (State.wr (State.wr (State.wr (State.wr ..) ..) ..) ..) .. = _
    rw [State.rd_wr_apart rfl, State.rd_wr_apart rfl, State.rd_wr_apart rfl, State.rd_wr_self]
    exact hmod
  · change State.rd (State.wr (State.wr (State.wr ..) ..) ..) R.DBG_STATUS.LEVEL 0 = _
    rw [State.rd_wr_apart rfl, State.rd_wr_apart rfl, State.rd_wr_self]
    exact hmod
  · change State.rd (State.wr (State.wr ..) ..) R.DBG_GRANT.LOCK 0 = _
    rw [State.rd_wr_apart rfl, State.rd_wr_self, if_pos hb]
    rfl

theorem exec_grantWrite_refuses (hc : s.accessCode a .dbg 0 0x44 true = 0) (h : viaDebug a = true ∨ bitsOf v.toNat 0 2 = 3 ∨
      (s.rd R.DBG_GRANT.LOCK 0 = 1 ∧ bitsOf v.toNat 0 2 ≠ s.debugLevel)) :
    ∃ t, exec (.grantWrite a v) s = .next t ∧ t.debugLevel = s.debugLevel ∧
      t.rd R.DBG_GRANT.LOCK 0 = s.rd R.DBG_GRANT.LOCK 0 ∧ t.rd (errValid .dbg) 0 = 1 := by
  have hguard : (viaDebug a || bitsOf v.toNat 0 2 == 3 ||
      (s.on R.DBG_GRANT.LOCK 0 && bitsOf v.toNat 0 2 != s.debugLevel)) = true := by
    rcases h with h | h | ⟨hk, hl⟩
    · rw [h, Bool.true_or, Bool.true_or]
    · rw [h, beq_self_eq_true, Bool.or_true, Bool.true_or]
    · rw [State.on, hk, beq_self_eq_true, Bool.true_and, bne_iff_ne.2 hl, Bool.or_true]
  refine ⟨_, exec_grantWrite hc, ?_⟩
  rw [doGrantWrite, if_pos hguard]
  exact ⟨State.refuseWrite_rd _ _ _ _ rfl _, State.refuseWrite_rd _ _ _ _ rfl _, State.refuseWrite_valid ..⟩

/-! ## UNLOCK_SUBMIT (R481) -/

theorem exec_unlockSubmit (h : s.accessCode a .dbg 0 0x5C true = 0) : exec (.unlockSubmit a) s = .next (doUnlockSubmit a s) :=
  congrArg _ (State.access_ok h _)

theorem exec_unlockSubmit_takes (hc : s.accessCode a .dbg 0 0x5C true = 0) (hb : s.rd R.DBG_STATUS.BLOCKED 0 = 0)
    (hk : s.rd R.DBG_GRANT.LOCK 0 = 0) (hu : s.rd R.DBG_STATUS.UNLOCK_BUSY 0 = 0) :
    ∃ t, exec (.unlockSubmit a) s = .next t ∧ t.rd R.DBG_STATUS.UNLOCK_BUSY 0 = 1 ∧ t.debugLevel = s.debugLevel ∧
      t.outbox = s.outbox ++ [.regResp a 0 0] := by
  refine ⟨_, exec_unlockSubmit hc, ?_⟩
  have hguard : (s.on R.DBG_STATUS.BLOCKED 0 || s.on R.DBG_GRANT.LOCK 0 || s.on R.DBG_STATUS.UNLOCK_BUSY 0) = false := by
    rw [State.on, hb, State.on, hk, State.on, hu]
    rfl
  rw [doUnlockSubmit, hguard, if_neg Bool.false_ne_true]
  refine ⟨?_, ?_, rfl⟩
  · exact State.rd_wr_self (s := s) R.DBG_STATUS.UNLOCK_BUSY 0 1
  · exact State.rd_wr_apart (s := s) (f := R.DBG_STATUS.UNLOCK_BUSY) (g := R.DBG_STATUS.LEVEL) rfl 0 0 1

theorem exec_unlockSubmit_refuses (hc : s.accessCode a .dbg 0 0x5C true = 0) (h : s.rd R.DBG_STATUS.BLOCKED 0 = 1 ∨
      s.rd R.DBG_GRANT.LOCK 0 = 1 ∨ s.rd R.DBG_STATUS.UNLOCK_BUSY 0 = 1) :
    ∃ t, exec (.unlockSubmit a) s = .next t ∧ t.rd R.DBG_STATUS.UNLOCK_BUSY 0 = s.rd R.DBG_STATUS.UNLOCK_BUSY 0 ∧
      t.rd (errValid .dbg) 0 = 1 := by
  have hguard : (s.on R.DBG_STATUS.BLOCKED 0 || s.on R.DBG_GRANT.LOCK 0 || s.on R.DBG_STATUS.UNLOCK_BUSY 0) = true := by
    rcases h with h | h | h <;> simp [State.on, h]
  refine ⟨_, exec_unlockSubmit hc, ?_⟩
  rw [doUnlockSubmit, if_pos hguard]
  exact ⟨State.refuseWrite_rd _ _ _ _ rfl _, State.refuseWrite_valid ..⟩

/-! ## UNLOCK_CHECK_DONE (R481) -/

theorem doUnlockCheckDone_waits (h : s.fwState = 3) : doUnlockCheckDone s = s := by
  have hguard : (!s.on R.DBG_STATUS.UNLOCK_BUSY 0 || s.fwState == 3) = true := by
    rw [h, beq_self_eq_true, Bool.or_true]
  exact if_pos hguard

theorem exec_unlockCheckDone_next {t : State} (h : doUnlockCheckDone s = t) : exec .unlockCheckDone s = .next t :=
  congrArg Host.Outcome.next h

/-- The check is over, and the next token answers a new challenge. -/
def State.tokenChecked (s : State) : State :=
  { s.wr R.DBG_STATUS.UNLOCK_BUSY 0 0 with challenges := s.challenges + 1 }

theorem doUnlockCheckDone_done (hu : s.rd R.DBG_STATUS.UNLOCK_BUSY 0 = 1) (hf : s.fwState ≠ 3) :
    doUnlockCheckDone s =
      if s.tokenGood then
        (if s.on R.DBG_GRANT.LOCK 0 then s.tokenChecked
          else s.tokenChecked.wr R.DBG_STATUS.LEVEL 0 (tokenField s.token 4 1)).raise .dbg 0 3
      else
        ((s.tokenChecked.wr R.DBG_STATUS.FAILS 0 (min (s.rd R.DBG_STATUS.FAILS 0 + 1) 3)).wr R.DBG_STATUS.BLOCKED 0
          (b2n (decide (3 ≤ s.rd R.DBG_STATUS.FAILS 0 + 1)))).raise .dbg 0 4 := by
  have hguard : (!s.on R.DBG_STATUS.UNLOCK_BUSY 0 || s.fwState == 3) = false := by
    rw [State.on, hu, beq_false_of_ne hf]
    rfl
  rw [doUnlockCheckDone, hguard, if_neg Bool.false_ne_true]
  rfl

/-- A good token names level 2 or 3. -/
theorem State.tokenGood_level (h : s.tokenGood = true) : tokenField s.token 4 1 % 2 ^ 2 = tokenField s.token 4 1 := by
  unfold State.tokenGood at h
  simp only [Bool.and_eq_true, Bool.or_eq_true, beq_iff_eq] at h
  obtain ⟨⟨⟨⟨⟨⟨-, hl⟩, -⟩, -⟩, -⟩, -⟩, -⟩ := h
  rcases hl with h | h <;> rw [h] <;> rfl

theorem doUnlockCheckDone_good (hu : s.rd R.DBG_STATUS.UNLOCK_BUSY 0 = 1) (hf : s.fwState ≠ 3) (hg : s.tokenGood = true)
    (hk : s.rd R.DBG_GRANT.LOCK 0 = 0) :
    ∃ t, exec .unlockCheckDone s = .next t ∧ t.rd R.DBG_STATUS.UNLOCK_BUSY 0 = 0 ∧
      t.debugLevel = tokenField s.token 4 1 ∧ t.challenges = s.challenges + 1 ∧ t.rd (intBit .dbg 3) 0 = 1 ∧
      t.rd R.DBG_STATUS.FAILS 0 = s.rd R.DBG_STATUS.FAILS 0 := by
  have hdone : doUnlockCheckDone s = (s.tokenChecked.wr R.DBG_STATUS.LEVEL 0 (tokenField s.token 4 1)).raise .dbg 0 3 := by
    rw [doUnlockCheckDone_done hu hf, if_pos hg, State.on, hk]
    rfl
  refine ⟨_, exec_unlockCheckDone_next hdone, ?_, ?_, State.raise_challenges .., State.raise_self .., ?_⟩
  · rw [State.raise_rd_apart rfl, State.rd_wr_apart rfl]
    exact State.rd_wr_self R.DBG_STATUS.UNLOCK_BUSY 0 0
  · change State.rd (State.raise ..) R.DBG_STATUS.LEVEL 0 = _
    rw [State.raise_rd_apart rfl, State.rd_wr_self]
    exact State.tokenGood_level hg
  · rw [State.raise_rd_apart rfl, State.rd_wr_apart rfl]
    exact State.rd_wr_apart (f := R.DBG_STATUS.UNLOCK_BUSY) rfl 0 0 0

theorem doUnlockCheckDone_bad (hu : s.rd R.DBG_STATUS.UNLOCK_BUSY 0 = 1) (hf : s.fwState ≠ 3) (hg : s.tokenGood = false) :
    ∃ t, exec .unlockCheckDone s = .next t ∧ t.rd R.DBG_STATUS.UNLOCK_BUSY 0 = 0 ∧ t.debugLevel = s.debugLevel ∧
      t.challenges = s.challenges + 1 ∧ t.rd (intBit .dbg 4) 0 = 1 ∧
      t.rd R.DBG_STATUS.FAILS 0 = min (s.rd R.DBG_STATUS.FAILS 0 + 1) 3 ∧
      t.rd R.DBG_STATUS.BLOCKED 0 = b2n (decide (2 ≤ s.rd R.DBG_STATUS.FAILS 0)) := by
  have hdone : doUnlockCheckDone s = ((s.tokenChecked.wr R.DBG_STATUS.FAILS 0 (min (s.rd R.DBG_STATUS.FAILS 0 + 1) 3)).wr
      R.DBG_STATUS.BLOCKED 0 (b2n (decide (3 ≤ s.rd R.DBG_STATUS.FAILS 0 + 1)))).raise .dbg 0 4 := by
    rw [doUnlockCheckDone_done hu hf, hg]
    rfl
  refine ⟨_, exec_unlockCheckDone_next hdone, ?_, ?_, State.raise_challenges .., State.raise_self .., ?_, ?_⟩
  · rw [State.raise_rd_apart rfl, State.rd_wr_apart rfl, State.rd_wr_apart rfl]
    exact State.rd_wr_self R.DBG_STATUS.UNLOCK_BUSY 0 0
  · change State.rd (State.raise ..) R.DBG_STATUS.LEVEL 0 = _
    rw [State.raise_rd_apart rfl, State.rd_wr_apart rfl, State.rd_wr_apart rfl]
    exact State.rd_wr_apart (f := R.DBG_STATUS.UNLOCK_BUSY) rfl 0 0 0
  · rw [State.raise_rd_apart rfl, State.rd_wr_apart rfl, State.rd_wr_self]
    exact Nat.mod_eq_of_lt (Nat.lt_of_le_of_lt (Nat.min_le_right ..) (by decide))
  · rw [State.raise_rd_apart rfl, State.rd_wr_self]
    by_cases h2 : 2 ≤ s.rd R.DBG_STATUS.FAILS 0
    · rw [decide_eq_true h2, decide_eq_true (Nat.succ_le_succ h2)]
      rfl
    · rw [decide_eq_false h2, decide_eq_false (fun h => h2 (Nat.le_of_succ_le_succ h))]
      rfl

/-! ## O52 -/

/-- Settles O52: a grant sets the level where it is not locked, and a submitted token, checked, grants its level or counts
a failure. -/
theorem debugLevelIsGranted : Obligations.DebugLevelIsGranted :=
  ⟨fun _ _ _ hc => ⟨exec_grantWrite_grants hc, exec_grantWrite_refuses hc⟩,
    fun _ _ hc => ⟨exec_unlockSubmit_takes hc, exec_unlockSubmit_refuses hc⟩,
    fun _ hu => ⟨fun hf => exec_unlockCheckDone_next (doUnlockCheckDone_waits hf), doUnlockCheckDone_good hu,
      doUnlockCheckDone_bad hu⟩⟩

end Sys2Proof.Machine

/-! The debug window (R479, R482, R483): its accesses as a bus master and by stolen cycles, and their end. -/

namespace Sys2Proof.Machine
open Sys2Proof

variable {a : Accessor} {s : State}

/-! ## Values in registers -/

theorem ofWords_wordOf (w : W128) :
    ofWords (wordOf w 0 % 2 ^ 32) (wordOf w 1 % 2 ^ 32) (wordOf w 2 % 2 ^ 32) (wordOf w 3 % 2 ^ 32) = w := by
  have hlt : w.toNat < 2 ^ 128 := w.isLt
  apply BitVec.eq_of_toNat_eq
  simp only [wordOf, bitsOf, ofWords, BitVec.toNat_ofNat]
  omega

theorem State.xdata_of_rd {t : State} {f : Nat}
    (h : ∀ g : Fld, g.page = .dbg → 0x90 ≤ g.off → g.off < 0xA0 → t.rd g f = s.rd g f) :
    t.xdata f = s.xdata f := by
  unfold State.xdata State.rd128
  rw [h R.DBG_XDATA.DATA0 rfl (by decide) (by decide), h R.DBG_XDATA.DATA1 rfl (by decide) (by decide),
    h R.DBG_XDATA.DATA2 rfl (by decide) (by decide), h R.DBG_XDATA.DATA3 rfl (by decide) (by decide)]

theorem State.xaddr_of_rd {t : State} {f : Nat} (hlo : t.rd R.DBG_XADDR_LO.ADDR f = s.rd R.DBG_XADDR_LO.ADDR f)
    (hhi : t.rd R.DBG_XADDR_HI.ADDR f = s.rd R.DBG_XADDR_HI.ADDR f) : t.xaddr f = s.xaddr f := by
  rw [State.xaddr, State.xaddr, State.rd64, State.rd64, hlo, hhi]

/-- An address has 40 bits. -/
theorem State.xaddr_wr64 (f v : Nat) :
    (s.wr64 R.DBG_XADDR_LO.ADDR R.DBG_XADDR_HI.ADDR f (v % 2 ^ 40)).xaddr f = v % 2 ^ 40 := by
  rw [State.xaddr, State.rd64, State.wr64, State.rd_wr_self, State.rd_wr_apart (by decide), State.rd_wr_self]
  change v % 2 ^ 40 % 2 ^ 32 + 2 ^ 32 * (v % 2 ^ 40 / 2 ^ 32 % 2 ^ 8) = v % 2 ^ 40
  omega

/-! ## An access begins (R482) -/

/-- The access of a front end is in progress, and its command is answered. -/
def State.windowBegun (s : State) (a : Accessor) (x : WindowAcc) : State :=
  ((s.setWindow (frontEnd a) (some x)).wr R.DBG_XSTATUS.BUSY (frontEnd a) 1).respond a true 0

theorem State.windowBegun_shows (x : WindowAcc) : (s.windowBegun a x).rd R.DBG_XSTATUS.BUSY (frontEnd a) = 1 ∧
    (s.windowBegun a x).windowOf (frontEnd a) = some x ∧ (s.windowBegun a x).dmem = s.dmem ∧
    (s.windowBegun a x).outbox = s.outbox ++ [.regResp a 0 0] :=
  ⟨State.rd_wr_self (s := s.setWindow (frontEnd a) (some x)) R.DBG_XSTATUS.BUSY (frontEnd a) 1,
    SMap.get_set_self none s.windows (frontEnd a) (some x), rfl, rfl⟩

/-- An access that the level allows does at once what its command does. -/
theorem State.windowBegin_allowed {write wide inc steal : Bool} {act : State → Nat → Option (Nat × W128) × State}
    {held : Option (Nat × W128)} {s1 : State} (hb : s.rd R.DBG_XSTATUS.BUSY (frontEnd a) = 0)
    (hmay : windowMay s.debugLevel (s.xaddr (frontEnd a)) write = true) (hlevel : steal = true → 2 ≤ s.debugLevel)
    (hact : act s (s.xaddr (frontEnd a)) = (held, s1)) :
    s.windowBegin a write wide inc steal act = s1.windowBegun a ⟨write, wide, inc, s.xaddr (frontEnd a), held⟩ := by
  have hallowed : (windowMay s.debugLevel (s.xaddr (frontEnd a)) write && (!steal || decide (2 ≤ s.debugLevel))) = true := by
    rw [hmay, Bool.true_and]
    cases steal with
    | false => rfl
    | true => exact decide_eq_true (hlevel rfl)
  unfold State.windowBegin
  extract_lets f addr allowed
  have hal : allowed = true := hallowed
  rw [State.on, hb, if_neg (by decide), hal, if_pos rfl, hact]
  rfl

/-- An access beyond the level ends with RESULT 8 and does nothing else. -/
theorem State.windowBegin_forbidden {write wide inc steal : Bool} {act : State → Nat → Option (Nat × W128) × State}
    (hb : s.rd R.DBG_XSTATUS.BUSY (frontEnd a) = 0) (hmay : windowMay s.debugLevel (s.xaddr (frontEnd a)) write = false) :
    s.windowBegin a write wide inc steal act = s.windowBegun a ⟨write, wide, inc, s.xaddr (frontEnd a), some (8, 0)⟩ := by
  unfold State.windowBegin
  extract_lets f addr allowed
  have hal : allowed = false := by rw [show allowed = (false && _) from congrArg (· && _) hmay, Bool.false_and]
  rw [State.on, hb, if_neg (by decide), hal, if_neg Bool.false_ne_true]
  rfl

/-! ## As a bus master -/

/-- The command of a window access. -/
theorem exec_window (h : s.accessCode a .dbg 0 0x88 true = 0) (wide inc write : Bool) :
    exec (if write then .windowWrite a wide inc else .windowRead a wide inc) s =
      .next (s.windowBegin a write wide inc false (fun s addr => s.windowSend (frontEnd a) write wide addr)) := by
  cases write with
  | false => exact congrArg _ (State.access_ok h _)
  | true => exact congrArg _ (State.access_ok h _)

/-- The state in which the request has left the debug quay. -/
def State.windowSent (s : State) (f : Nat) (write wide : Bool) : State :=
  s.quaySend 41 f (b2n write) (s.xaddr f) (s.windowWrite f (s.xaddr f) wide).2
    (if write then [(s.windowWrite f (s.xaddr f) wide).1] else [])

theorem State.windowSend_routed {f d : Nat} (hn : s.nodeOfAddress (windowAccessor f) (s.xaddr f) = some d)
    (hr : d = 41 ∨ s.routeOk 41 d = true) (write wide : Bool) :
    s.windowSend f write wide (s.xaddr f) = (none, s.windowSent f write wide) := by
  have hroute : (d != 41 && !s.routeOk 41 d) = false := by
    rcases hr with rfl | h
    · rfl
    · rw [h]; exact Bool.and_false _
  unfold State.windowSend
  rw [hn]
  simp only [hroute, Bool.false_eq_true, if_false]
  rfl

theorem exec_window_sends (hc : s.accessCode a .dbg 0 0x88 true = 0) (hb : s.rd R.DBG_XSTATUS.BUSY (frontEnd a) = 0)
    (wide inc write : Bool) (hmay : windowMay s.debugLevel (s.xaddr (frontEnd a)) write = true) (hq : s.quayIsDead 41 = false)
    (d : Nat) (hn : s.nodeOfAddress (windowAccessor (frontEnd a)) (s.xaddr (frontEnd a)) = some d)
    (hr : d = 41 ∨ s.routeOk 41 d = true) :
    ∃ t, exec (if write then .windowWrite a wide inc else .windowRead a wide inc) s = .next t ∧
      t.rd R.DBG_XSTATUS.BUSY (frontEnd a) = 1 ∧
      t.windowOf (frontEnd a) = some ⟨write, wide, inc, s.xaddr (frontEnd a), none⟩ ∧ t.dmem = s.dmem ∧
      t.outbox = s.outbox ++ [.nocReq 41 (frontEnd a) (b2n write) (s.xaddr (frontEnd a))
        (s.windowWrite (frontEnd a) (s.xaddr (frontEnd a)) wide).2
        (if write then [(s.windowWrite (frontEnd a) (s.xaddr (frontEnd a)) wide).1] else []), .regResp a 0 0] := by
  obtain ⟨hbusy, hwin, hdmem, hout⟩ := State.windowBegun_shows (a := a) (s := s.windowSent (frontEnd a) write wide)
    ⟨write, wide, inc, s.xaddr (frontEnd a), none⟩
  have hsent : (s.windowSent (frontEnd a) write wide).dmem = s.dmem ∧
      (s.windowSent (frontEnd a) write wide).outbox = s.outbox ++ [.nocReq 41 (frontEnd a) (b2n write) (s.xaddr (frontEnd a))
        (s.windowWrite (frontEnd a) (s.xaddr (frontEnd a)) wide).2
        (if write then [(s.windowWrite (frontEnd a) (s.xaddr (frontEnd a)) wide).1] else [])] := by
    rw [State.windowSent, State.quaySend_alive hq]
    exact ⟨rfl, rfl⟩
  refine ⟨_, exec_window hc wide inc write, ?_⟩
  rw [State.windowBegin_allowed (steal := false) hb hmay Bool.noConfusion (State.windowSend_routed hn hr write wide)]
  refine ⟨hbusy, hwin, hdmem.trans hsent.1, ?_⟩
  rw [hout, hsent.2, List.append_assoc]
  rfl

theorem exec_window_forbidden (hc : s.accessCode a .dbg 0 0x88 true = 0) (hb : s.rd R.DBG_XSTATUS.BUSY (frontEnd a) = 0)
    (wide inc write : Bool) (hmay : windowMay s.debugLevel (s.xaddr (frontEnd a)) write = false) :
    ∃ t, exec (if write then .windowWrite a wide inc else .windowRead a wide inc) s = .next t ∧
      t.rd R.DBG_XSTATUS.BUSY (frontEnd a) = 1 ∧
      t.windowOf (frontEnd a) = some ⟨write, wide, inc, s.xaddr (frontEnd a), some (8, 0)⟩ ∧
      t.outbox = s.outbox ++ [.regResp a 0 0] := by
  obtain ⟨hbusy, hwin, -, hout⟩ := State.windowBegun_shows (a := a) (s := s)
    ⟨write, wide, inc, s.xaddr (frontEnd a), some (8, 0)⟩
  refine ⟨_, exec_window hc wide inc write, ?_⟩
  rw [State.windowBegin_forbidden hb hmay]
  exact ⟨hbusy, hwin, hout⟩

/-! ## By stolen cycles (R483) -/

theorem exec_stealWrite (h : s.accessCode a .dbg 0 0x88 true = 0) (wide inc : Bool) (us : List Upset) :
    exec (.stealWrite a wide inc us) s = .next ((s.upset us).steal a true wide inc) := congrArg _ (State.access_ok h _)

theorem exec_stealRead (h : s.accessCode a .dbg 0 0x88 true = 0) (wide inc : Bool) (us : List Upset) :
    exec (.stealRead a wide inc us) s = .next ((s.upset us).steal a false wide inc) := congrArg _ (State.access_ok h _)

/-- A level of 2 lets the window reach the banks. -/
theorem windowMay_banks {level addr : Nat} (hl : 2 ≤ level) (ha : 0x100000000 ≤ addr) (write : Bool) :
    windowMay level addr write = true := by
  have hgate : (decide (addr < 0x40000) || (decide (0x10000000 ≤ addr) && decide (addr < 0x10200000))) = false := by
    simp only [Bool.or_eq_false_iff, Bool.and_eq_false_iff, decide_eq_false_iff_not]
    omega
  unfold windowMay
  rw [hgate, if_neg Bool.false_ne_true, if_pos hl]

/-- Upsets change neither the registers nor the clocks. -/
theorem State.upset_window (us : List Upset) (f : Nat) : (s.upset us).xaddr f = s.xaddr f ∧
    (s.upset us).xdata f = s.xdata f ∧ (s.upset us).debugLevel = s.debugLevel ∧ (s.upset us).awake = s.awake ∧
    (s.upset us).outbox = s.outbox := by
  obtain ⟨h, c, e⟩ := State.upset_eq (s := s) us
  rw [e]
  exact ⟨rfl, rfl, rfl, rfl, rfl⟩

/-- The bank of an address of the banks' region, and the word in it. -/
def stolenBank (addr : Nat) : Nat := addr % 0x10000000 / 0x400000

def stolenWord (addr : Nat) : Nat := addr % 0x400000 / 16

theorem State.stealAt_bank {f addr : Nat} (hlo : 0x100000000 ≤ addr) (hhi : addr < 0x110000000) (write wide : Bool) :
    s.stealAt f addr write wide =
      s.stealBank (stolenBank addr) (stolenWord addr) write wide (s.windowWrite f addr wide).1 := by
  unfold State.stealAt
  extract_lets
  exact if_pos ⟨hlo, hhi⟩

theorem State.stealBank_write {b w : Nat} (h : s.awake.contains (blockKey .dmb b) = true) (v : W128) :
    s.stealBank b w true true v = ((0, 0), (s.setBankWord b w v 0).clearBankResv b w) := by
  rw [State.stealBank, h]
  rfl

theorem State.stealBank_read {b w : Nat} {d : W128} {s1 : State} (h : s.awake.contains (blockKey .dmb b) = true)
    (hr : s.readBank b w 41 = (some d, s1)) (wide : Bool) (v : W128) : s.stealBank b w false wide v = ((0, d), s1) := by
  rw [State.stealBank, h, hr]
  rfl

/-- A stolen cycle of a bank that the level allows. -/
theorem State.steal_bank {u s1 : State} {r : Nat × W128} {write inc : Bool} (hb : u.rd R.DBG_XSTATUS.BUSY (frontEnd a) = 0)
    (hl : 2 ≤ u.debugLevel) (hlo : 0x100000000 ≤ u.xaddr (frontEnd a)) (hhi : u.xaddr (frontEnd a) < 0x110000000)
    (hr : u.stealBank (stolenBank (u.xaddr (frontEnd a))) (stolenWord (u.xaddr (frontEnd a))) write true
      (u.xdata (frontEnd a)) = (r, s1)) :
    u.steal a write true inc = s1.windowBegun a ⟨write, true, inc, u.xaddr (frontEnd a), some r⟩ := by
  refine State.windowBegin_allowed hb (windowMay_banks hl hlo write) (fun _ => hl) ?_
  have hat : u.stealAt (frontEnd a) (u.xaddr (frontEnd a)) write true = (r, s1) :=
    (State.stealAt_bank hlo hhi write true).trans hr
  simp only [hat]

theorem exec_stealWrite_bank {inc : Bool} {us : List Upset} (hc : s.accessCode a .dbg 0 0x88 true = 0)
    (hb : s.rd R.DBG_XSTATUS.BUSY (frontEnd a) = 0) (hl : 2 ≤ s.debugLevel) (hlo : 0x100000000 ≤ s.xaddr (frontEnd a))
    (hhi : s.xaddr (frontEnd a) < 0x110000000)
    (hw : s.awake.contains (blockKey .dmb (stolenBank (s.xaddr (frontEnd a)))) = true) :
    ∃ t, exec (.stealWrite a true inc us) s = .next t ∧ t.rd R.DBG_XSTATUS.BUSY (frontEnd a) = 1 ∧
      t.windowOf (frontEnd a) = some ⟨true, true, inc, s.xaddr (frontEnd a), some (0, 0)⟩ ∧
      t.dmem = ((s.upset us).setBankWord (stolenBank (s.xaddr (frontEnd a))) (stolenWord (s.xaddr (frontEnd a)))
        (s.xdata (frontEnd a)) 0).dmem ∧
      t.outbox = s.outbox ++ [.regResp a 0 0] := by
  obtain ⟨hxaddr, hxdata, hlevel, hawake, houtbox⟩ := State.upset_window (s := s) us (frontEnd a)
  refine ⟨_, exec_stealWrite hc true inc us, ?_⟩
  rw [State.steal_bank ((State.upset_rd ..).trans hb) (hlevel ▸ hl) (hxaddr ▸ hlo) (hxaddr ▸ hhi)
    (State.stealBank_write (by rw [hawake, hxaddr]; exact hw) _), hxaddr, hxdata]
  obtain ⟨hbusy, hwin, hdmem, hout⟩ := State.windowBegun_shows (a := a)
    (s := ((s.upset us).setBankWord (stolenBank (s.xaddr (frontEnd a))) (stolenWord (s.xaddr (frontEnd a)))
      (s.xdata (frontEnd a)) 0).clearBankResv (stolenBank (s.xaddr (frontEnd a))) (stolenWord (s.xaddr (frontEnd a))))
    ⟨true, true, inc, s.xaddr (frontEnd a), some (0, 0)⟩
  refine ⟨hbusy, hwin, hdmem, hout.trans ?_⟩
  rw [State.clearBankResv_outbox, State.setBankWord_outbox, houtbox]

theorem exec_stealRead_bank {inc : Bool} {us : List Upset} (hc : s.accessCode a .dbg 0 0x88 true = 0)
    (hb : s.rd R.DBG_XSTATUS.BUSY (frontEnd a) = 0) (hl : 2 ≤ s.debugLevel) (hlo : 0x100000000 ≤ s.xaddr (frontEnd a))
    (hhi : s.xaddr (frontEnd a) < 0x110000000)
    (hw : s.awake.contains (blockKey .dmb (stolenBank (s.xaddr (frontEnd a)))) = true)
    (d : W128) (s1 : State)
    (hr : (s.upset us).readBank (stolenBank (s.xaddr (frontEnd a))) (stolenWord (s.xaddr (frontEnd a))) 41 = (some d, s1)) :
    ∃ t, exec (.stealRead a true inc us) s = .next t ∧ t.rd R.DBG_XSTATUS.BUSY (frontEnd a) = 1 ∧
      t.windowOf (frontEnd a) = some ⟨false, true, inc, s.xaddr (frontEnd a), some (0, d)⟩ ∧ t.dmem = s1.dmem := by
  obtain ⟨hxaddr, -, hlevel, hawake, -⟩ := State.upset_window (s := s) us (frontEnd a)
  refine ⟨_, exec_stealRead hc true inc us, ?_⟩
  rw [State.steal_bank ((State.upset_rd ..).trans hb) (hlevel ▸ hl) (hxaddr ▸ hlo) (hxaddr ▸ hhi)
    (State.stealBank_read (by rw [hawake, hxaddr]; exact hw) (by rw [hxaddr]; exact hr) true _), hxaddr]
  obtain ⟨hbusy, hwin, hdmem, -⟩ := State.windowBegun_shows (a := a) (s := s1)
    ⟨false, true, inc, s.xaddr (frontEnd a), some (0, d)⟩
  exact ⟨hbusy, hwin, hdmem⟩

/-! ## An access ends (R482) -/

/-- What an access ends with: what was held for it at its beginning, or what the fabric answers. -/
def WindowAcc.result (x : WindowAcc) (status : Nat) (w : W128) : Nat × W128 := x.held.getD (status, w)

/-- The access is over: the answer leaves the debug quay, BUSY falls, and a store read for it may close its gate again. -/
def State.windowClosed (s : State) (f : Nat) (x : WindowAcc) (status r : Nat) : State :=
  ((((if x.held.isNone then s.quayTake 41 status x.addr else s).setWindow f none).wr R.DBG_XSTATUS.BUSY f 0).wr
    R.DBG_XSTATUS.RESULT f r).regate x.addr

/-- The data register takes the word that a good read answers. -/
def State.windowData (s : State) (f : Nat) (x : WindowAcc) (r : Nat) (d : W128) : State :=
  if !x.write && r == 0 then s.takeXdata f x d else s

/-- The address advances with AUTOINC. -/
def State.windowStep (s : State) (f : Nat) (x : WindowAcc) : State :=
  if x.inc then
    s.wr64 R.DBG_XADDR_LO.ADDR R.DBG_XADDR_HI.ADDR f ((x.addr + (if x.wide then 16 else 4)) % 2 ^ 40)
  else s

theorem State.windowDone_eq {f : Nat} {x : WindowAcc} (h : s.windowOf f = some x) (status : Nat) (w : W128) :
    s.windowDone f status w = ((s.windowClosed f x status (x.result status w).1).windowData f x (x.result status w).1
      (x.result status w).2).windowStep f x := by
  unfold State.windowDone
  rw [h]
  rfl

theorem State.quayAnswered_frame (x : WindowAcc) (status : Nat) :
    Keeps 2305844109060866049 s (if x.held.isNone then s.quayTake 41 status x.addr else s) :=
  keeps_ite (State.quayTake_keeps rfl (Keeps.refl _ s)) (Keeps.refl _ s)

theorem State.windowClosed_shows (f : Nat) (x : WindowAcc) (status r : Nat) :
    (s.windowClosed f x status r).windowOf f = none ∧ (s.windowClosed f x status r).rd R.DBG_XSTATUS.BUSY f = 0 ∧
    (s.windowClosed f x status r).rd R.DBG_XSTATUS.RESULT f = r % 16 ∧ (s.windowClosed f x status r).dmem = s.dmem := by
  have hq := State.quayAnswered_frame (s := s) x status
  have hg : ∀ t : State, Keeps 288234774198222848 t (t.regate x.addr) := fun t => State.regate_keeps rfl (Keeps.refl _ t)
  refine ⟨?_, ?_, ?_, ?_⟩
  · rw [State.windowOf, State.windowClosed, ((hg _).same .debug rfl).1]
    exact SMap.get_set_self none _ f none
  · rw [State.windowClosed, (hg _).rd_plain rfl rfl, State.rd_wr_apart rfl, State.rd_wr_self]
    rfl
  · rw [State.windowClosed, (hg _).rd_plain rfl rfl, State.rd_wr_self]
    rfl
  · rw [State.windowClosed, (hg _).same .dmem rfl]
    exact hq.same .dmem rfl

/-- The closing leaves the address and the data registers. -/
theorem State.windowClosed_rd (f : Nat) (x : WindowAcc) (status r : Nat) {g : Fld} (hp : g.page = .dbg) (hlo : 0x80 ≤ g.off)
    (hhi : g.off < 0xA0) (hs : g.off ≠ 0x8C) (d : Nat) : (s.windowClosed f x status r).rd g d = s.rd g d := by
  have he : errorReg (g.off % 4096) = false := by
    unfold errorReg
    simp only [Bool.or_eq_false_iff, beq_eq_false_iff_ne]
    omega
  have hapart : ∀ {h : Fld}, h.page = .dbg → h.off = 0x8C → h.apart g = true := fun _ ho =>
    Fld.apart_of (.inl (by rw [ho]; omega))
  have hq := State.quayAnswered_frame (s := s) x status
  rw [State.windowClosed, (State.regate_keeps (M := 288234774198222848) rfl (Keeps.refl _ _)).rd_plain (by rw [hp]; rfl) he,
    State.rd_wr_apart (hapart rfl rfl), State.rd_wr_apart (hapart rfl rfl)]
  exact hq.rd_plain (by rw [hp]; rfl) he d

/-- Taking a word reaches the data registers alone. -/
theorem State.takeXdata_frame (f : Nat) (x : WindowAcc) (w : W128) : (s.takeXdata f x w).windows = s.windows ∧
    (s.takeXdata f x w).dmem = s.dmem ∧ ∀ g : Fld, g.off < 0x90 → ∀ d, (s.takeXdata f x w).rd g d = s.rd g d := by
  have hapart : ∀ {g h : Fld}, g.off < 0x90 → 0x90 ≤ h.off → h.off < 0xA0 → h.apart g = true := fun hg hl hh =>
    Fld.apart_of (.inl (by omega))
  unfold State.takeXdata
  split
  · refine ⟨rfl, rfl, fun g hg d => ?_⟩
    rw [State.wr128, State.rd_wr_apart (hapart hg (by decide) (by decide)), State.rd_wr_apart (hapart hg (by decide) (by decide)),
      State.rd_wr_apart (hapart hg (by decide) (by decide)), State.rd_wr_apart (hapart hg (by decide) (by decide))]
  · exact ⟨rfl, rfl, fun g hg d => State.rd_wr_apart (hapart hg (by decide) (by decide)) _ _ _⟩

theorem State.takeXdata_wide {f : Nat} {x : WindowAcc} (h : x.wide = true) (w : W128) : (s.takeXdata f x w).xdata f = w := by
  obtain ⟨h0, h1, h2, h3⟩ := State.wr128_rd (s := s) (f0 := R.DBG_XDATA.DATA0) (f1 := R.DBG_XDATA.DATA1)
    (f2 := R.DBG_XDATA.DATA2) (f3 := R.DBG_XDATA.DATA3) rfl rfl rfl rfl rfl rfl f w
  rw [State.takeXdata, if_pos h, State.xdata, State.rd128, h0, h1, h2, h3]
  exact ofWords_wordOf w

theorem State.windowData_frame (f : Nat) (x : WindowAcc) (r : Nat) (d : W128) :
    (s.windowData f x r d).windows = s.windows ∧ (s.windowData f x r d).dmem = s.dmem ∧
    ∀ g : Fld, g.off < 0x90 → ∀ c, (s.windowData f x r d).rd g c = s.rd g c := by
  unfold State.windowData
  split
  · exact State.takeXdata_frame f x d
  · exact ⟨rfl, rfl, fun _ _ _ => rfl⟩

theorem State.windowData_takes {f : Nat} {x : WindowAcc} {r : Nat} (hw : x.write = false) (hwide : x.wide = true) (hr : r = 0)
    (d : W128) : (s.windowData f x r d).xdata f = d := by
  rw [State.windowData, hw, hr]
  exact State.takeXdata_wide hwide d

/-- A write, and a read that fails, leave the data register. -/
theorem State.windowData_keeps_data {f : Nat} {x : WindowAcc} {r : Nat} (h : x.write = true ∨ r ≠ 0) (d : W128) :
    s.windowData f x r d = s := by
  refine if_neg ?_
  rcases h with h | h
  · rw [h]
    exact Bool.false_ne_true
  · rw [beq_false_of_ne h, Bool.and_false]
    exact Bool.false_ne_true

theorem State.windowStep_frame (f : Nat) (x : WindowAcc) : (s.windowStep f x).windows = s.windows ∧
    (s.windowStep f x).dmem = s.dmem ∧
    ∀ g : Fld, 0x88 ≤ g.off → g.off < 0xA0 → ∀ d, (s.windowStep f x).rd g d = s.rd g d := by
  have hapart : ∀ {g h : Fld}, 0x88 ≤ g.off → g.off < 0xA0 → h.off < 0x88 → h.apart g = true := fun hg hg' hh =>
    Fld.apart_of (.inl (by omega))
  unfold State.windowStep
  split
  · refine ⟨rfl, rfl, fun g hg hg' d => ?_⟩
    rw [State.wr64, State.rd_wr_apart (hapart hg hg' (by decide)), State.rd_wr_apart (hapart hg hg' (by decide))]
  · exact ⟨rfl, rfl, fun _ _ _ _ => rfl⟩

theorem State.windowStep_xdata (f : Nat) (x : WindowAcc) : (s.windowStep f x).xdata f = s.xdata f := by
  obtain ⟨-, -, hrd⟩ := State.windowStep_frame (s := s) f x
  exact State.xdata_of_rd fun g _ hlo hhi => hrd g (by omega) hhi f

theorem State.windowStep_xaddr (f : Nat) (x : WindowAcc) :
    (s.windowStep f x).xaddr f = if x.inc then (x.addr + (if x.wide then 16 else 4)) % 2 ^ 40 else s.xaddr f := by
  unfold State.windowStep
  split
  · exact State.xaddr_wr64 f _
  · rfl

/-- The closing of an access and the taking of its word leave the address. -/
theorem State.windowDone_addr (f : Nat) (x : WindowAcc) (status r : Nat) (d : W128) :
    ((s.windowClosed f x status r).windowData f x r d).xaddr f = s.xaddr f := by
  obtain ⟨-, -, hrd⟩ := State.windowData_frame (s := s.windowClosed f x status r) f x r d
  exact State.xaddr_of_rd
    ((hrd _ (by decide) f).trans (State.windowClosed_rd f x status r rfl (by decide) (by decide) (by decide) f))
    ((hrd _ (by decide) f).trans (State.windowClosed_rd f x status r rfl (by decide) (by decide) (by decide) f))

theorem State.windowClosed_xdata (f : Nat) (x : WindowAcc) (status r : Nat) :
    (s.windowClosed f x status r).xdata f = s.xdata f :=
  State.xdata_of_rd fun _ hp hlo hhi => State.windowClosed_rd f x status r hp (by omega) hhi (by omega) f

theorem State.windowDone_shows {f : Nat} {x : WindowAcc} (h : s.windowOf f = some x) (status : Nat) (w : W128) :
    (s.windowDone f status w).windowOf f = none ∧ (s.windowDone f status w).rd R.DBG_XSTATUS.BUSY f = 0 ∧
    (s.windowDone f status w).rd R.DBG_XSTATUS.RESULT f = (x.result status w).1 % 16 ∧
    (s.windowDone f status w).dmem = s.dmem := by
  rw [State.windowDone_eq h]
  generalize x.result status w = o
  obtain ⟨hwin, hbusy, hres, hdmem⟩ := State.windowClosed_shows (s := s) f x status o.1
  obtain ⟨hwin1, hdmem1, hrd1⟩ := State.windowData_frame (s := s.windowClosed f x status o.1) f x o.1 o.2
  obtain ⟨hwin2, hdmem2, hrd2⟩ :=
    State.windowStep_frame (s := (s.windowClosed f x status o.1).windowData f x o.1 o.2) f x
  refine ⟨?_, ?_, ?_, hdmem2.trans (hdmem1.trans hdmem)⟩
  · rw [State.windowOf, hwin2, hwin1]
    exact hwin
  · rw [hrd2 _ (by decide) (by decide), hrd1 _ (by decide), hbusy]
  · rw [hrd2 _ (by decide) (by decide), hrd1 _ (by decide), hres]

theorem State.windowDone_xdata {f : Nat} {x : WindowAcc} (h : s.windowOf f = some x) (status : Nat) (w : W128) :
    (x.write = false → x.wide = true → (x.result status w).1 = 0 →
      (s.windowDone f status w).xdata f = (x.result status w).2) ∧
    ((x.write = true ∨ (x.result status w).1 ≠ 0) → (s.windowDone f status w).xdata f = s.xdata f) := by
  rw [State.windowDone_eq h, State.windowStep_xdata]
  refine ⟨fun hw hwide hr => State.windowData_takes hw hwide hr _, fun hno => ?_⟩
  rw [State.windowData_keeps_data hno]
  exact State.windowClosed_xdata f x status _

theorem State.windowDone_xaddr {f : Nat} {x : WindowAcc} (h : s.windowOf f = some x) (status : Nat) (w : W128) :
    (s.windowDone f status w).xaddr f = if x.inc then (x.addr + (if x.wide then 16 else 4)) % 2 ^ 40 else s.xaddr f := by
  rw [State.windowDone_eq h, State.windowStep_xaddr, State.windowDone_addr]

theorem exec_windowAccessDone (jtag : Bool) (status : Fin 8) (w : W128) :
    exec (.windowAccessDone jtag status w) s = .next (s.windowDone (b2n jtag) status.val w) := rfl

/-! ## O53 -/

/-- Settles O53: an access begins at once, as a request through the debug quay or as a stolen cycle of a bank, is held until
its end, and its end shows its result, its word and its next address. -/
theorem debugWindowReaches : Obligations.DebugWindowReaches := by
  refine ⟨fun a wide inc write s hc hb =>
      ⟨exec_window_sends hc hb wide inc write, exec_window_forbidden hc hb wide inc write⟩,
    fun a inc us s hc hb hl hlo hhi hw => ⟨exec_stealWrite_bank hc hb hl hlo hhi hw, exec_stealRead_bank hc hb hl hlo hhi hw⟩,
    fun jtag status w x s h => ?_⟩
  obtain ⟨hwin, hbusy, hres, hdmem⟩ := State.windowDone_shows h status.val w
  obtain ⟨htake, hkeep⟩ := State.windowDone_xdata h status.val w
  have haddr := State.windowDone_xaddr h status.val w
  exact ⟨_, exec_windowAccessDone jtag status w, hwin, hbusy, hres, htake, hkeep, fun hi => haddr.trans (if_pos hi),
    fun hi => haddr.trans (if_neg (by rw [hi]; decide)), hdmem⟩

end Sys2Proof.Machine

/-! The debugger at a core (R486 to R489): CORE_HALT, CORE_HALT_ENTRY, CORE_RESUME, CORE_STEP and CORE_REGISTER_WRITE. -/

namespace Sys2Proof.Machine
open Sys2Proof

variable {a : Accessor} {m : Nat} {s : State}

/-! ## The fields of a core on the DBG_ page -/

theorem coreStatus_plain (_ : m < 16) : errorReg ((0x104 + 0x40 * m) % 4096) = false := by
  unfold errorReg
  simp only [Bool.or_eq_false_iff, beq_eq_false_iff_ne]
  omega

/-- A field of another register than a core's DBG_C_STATUS stands apart from each of its fields. -/
theorem coreStatus_apart (_ : m < 16) {f g : Fld} (hg : g.off = 0x104 + 0x40 * m) (hf : f.off < 0x100) : f.apart g = true :=
  Fld.apart_of (.inl (by rw [hg]; omega))

theorem State.raise_coreStatus (hm : m < 16) (p : Page) (ch b : Nat) {g : Fld} (hg : g.off = 0x104 + 0x40 * m) (d : Nat) :
    (s.raise p ch b).rd g d = s.rd g d := State.raise_rd _ _ _ (by rw [hg]; exact coreStatus_plain hm) _

/-! ## Interrupt bits of other pages under a packet (R498, R502) -/

theorem State.modTrace_rd (f : CoreTrace → CoreTrace) (g : Fld) (d : Nat) : (s.modTrace m f).rd g d = s.rd g d := rfl

/-- A packet raises an interrupt of the TRC_ page alone. -/
theorem State.traceBytes_rd {g : Fld} (hg : g.page ≠ .trc) (l : List Nat) (d : Nat) : (s.traceBytes m l).rd g d = s.rd g d := by
  unfold State.traceBytes
  extract_lets x
  split
  · rfl
  · split
    · exact State.raise_rd_apart (Fld.apart_of_page (Ne.symm hg)) 0 d
    · rfl

theorem State.traceSync_rd {g : Fld} (hg : g.page ≠ .trc) (d : Nat) : (s.traceSync m).rd g d = s.rd g d :=
  State.traceBytes_rd hg _ d

theorem State.flushOutcomes_rd {g : Fld} (hg : g.page ≠ .trc) (d : Nat) : (s.flushOutcomes m).rd g d = s.rd g d := by
  unfold State.flushOutcomes
  extract_lets o
  split
  · rfl
  · exact State.traceBytes_rd hg _ d

theorem State.traceResume_rd {g : Fld} (hg : g.page ≠ .trc) (d : Nat) : (s.traceResume m).rd g d = s.rd g d := by
  unfold State.traceResume
  split
  · exact (State.traceSync_rd hg d).trans (State.flushOutcomes_rd hg d)
  · rfl

theorem State.respond_core (v : Nat) : (s.respond a true v).core m = s.core m := rfl

theorem State.wr_core (f : Fld) (c v : Nat) : (s.wr f c v).core m = s.core m := rfl

theorem mdc_ne_dbg : Page.mdc ≠ .dbg := by decide

theorem mdc_ne_trc : Page.mdc ≠ .trc := by decide

theorem dbg_ne_trc : Page.dbg ≠ .trc := by decide

/-! ## CORE_HALT (R486) -/

theorem exec_coreHalt {m : Fin 16} (h : s.accessCode a .dbg 0 (0x100 + 0x40 * m.val) true = 0) :
    exec (.coreHalt a m) s = .next (doCoreHalt a m.val s) := congrArg _ (State.access_ok h _)

/-- A request reaches a core that runs or naps and has none. -/
theorem State.requestHalt_first (hh : s.countsHalted m = false) (hr : (s.core m).haltReq = 0) (cause : Nat) :
    s.requestHalt m cause =
      (s.modCore m (fun c => { c with haltReq := cause })).wr (R.DBG_C_STATUS.PENDING m) 0 1 := by
  rw [State.requestHalt, hh, hr]
  rfl

theorem doCoreHalt_requests (hh : s.countsHalted m = false) (hr : (s.core m).haltReq = 0) :
    ((doCoreHalt a m s).core m).haltReq = 1 ∧ (doCoreHalt a m s).rd (R.DBG_C_STATUS.PENDING m) 0 = 1 ∧
    (doCoreHalt a m s).outbox = s.outbox ++ [.regResp a 0 0] := by
  rw [doCoreHalt, State.requestHalt_first hh hr]
  rw [State.respond_core, State.respond_rd, State.rd_wr_self, State.wr_core, State.core_modCore]
  exact ⟨rfl, rfl, rfl⟩

/-! ## CORE_RESUME and CORE_STEP (R488) -/

theorem exec_coreResume {m : Fin 16} (h : s.accessCode a .dbg 0 (0x100 + 0x40 * m.val) true = 0) :
    exec (.coreResume a m) s = .next (doCoreResume a m.val s) := congrArg _ (State.access_ok h _)

theorem exec_coreStep {m : Fin 16} (h : s.accessCode a .dbg 0 (0x100 + 0x40 * m.val) true = 0) :
    exec (.coreStep a m) s = .next (doCoreStep a m.val s) := congrArg _ (State.access_ok h _)

/-- The core runs again, before its watchdog reloads and its trace resumes. -/
def State.runsAgain (s : State) (m : Nat) : State :=
  ((s.wr R.MDC_STATUS.STATE m 1).wr (R.DBG_C_STATUS.HALTED m) 0 0).modCore m
    (fun c => { c with haltReq := 0, noHalt := true })

theorem State.resumeCore_eq : s.resumeCore m = (((s.runsAgain m).reloadWdt m).raise .mdc m 2).traceResume m := rfl

/-- What two cores that differ in their trace alone have in common for the debugger. -/
theorem Core.halt_of_untraced {x y : Core} (h : x.untraced = y.untraced) :
    x.haltReq = y.haltReq ∧ x.noHalt = y.noHalt ∧ x.resv = y.resv :=
  ⟨(congrArg Core.haltReq h :), (congrArg Core.noHalt h :), (congrArg Core.resv h :)⟩

theorem State.reloadWdt_rd {g : Fld} (h : R.MDC_WDT_COUNT.US.apart g = true) (d : Nat) :
    (s.reloadWdt m).rd g d = s.rd g d := State.rd_wr_apart h _ _ _

theorem State.runsAgain_rd : (s.runsAgain m).rd R.MDC_STATUS.STATE m = 1 ∧
    (s.runsAgain m).rd (R.DBG_C_STATUS.HALTED m) 0 = 0 := by
  rw [State.runsAgain, State.modCore_rd, State.modCore_rd, State.rd_wr_apart (Fld.apart_of_page (Ne.symm mdc_ne_dbg)),
    State.rd_wr_self, State.rd_wr_self]
  exact ⟨rfl, rfl⟩

theorem State.resumeCore_core : ((s.resumeCore m).core m).haltReq = 0 ∧ ((s.resumeCore m).core m).noHalt = true := by
  have htrace := State.traceResume_traceOnly (m := m) (s := ((s.runsAgain m).reloadWdt m).raise .mdc m 2)
  have hcore : (((s.runsAgain m).reloadWdt m).raise .mdc m 2).core m =
      { s.core m with haltReq := 0, noHalt := true, warned := false } := by
    rw [State.core_of_cores (State.raise_cores ..), State.reloadWdt, State.core_modCore]
    change { (s.runsAgain m).core m with warned := false } = _
    rw [State.runsAgain, State.core_modCore]
    rfl
  have hkept : ((s.resumeCore m).core m).untraced =
      ({ s.core m with haltReq := 0, noHalt := true, warned := false } : Core).untraced := by
    rw [State.resumeCore_eq, htrace.core, hcore]
  obtain ⟨hreq, hno, -⟩ := Core.halt_of_untraced hkept
  exact ⟨hreq, hno⟩

theorem State.resumeCore_regs (hm : m < 16) : (s.resumeCore m).rd R.MDC_STATUS.STATE m = 1 ∧
    (s.resumeCore m).rd (R.DBG_C_STATUS.HALTED m) 0 = 0 ∧ (s.resumeCore m).rd (intBit .mdc 2) m = 1 := by
  obtain ⟨hstate, hhalted⟩ := State.runsAgain_rd (s := s) (m := m)
  rw [State.resumeCore_eq, State.traceResume_rd mdc_ne_trc, State.traceResume_rd dbg_ne_trc, State.traceResume_rd mdc_ne_trc]
  refine ⟨?_, ?_, State.raise_self ..⟩
  · rw [State.raise_rd_apart rfl, State.reloadWdt_rd rfl, hstate]
  · rw [State.raise_coreStatus hm .mdc m 2 rfl,
      State.reloadWdt_rd (g := R.DBG_C_STATUS.HALTED m) (Fld.apart_of_page mdc_ne_dbg), hhalted]

theorem doCoreResume_resumes (hm : m < 16) (h : s.resumeRefused m = false) :
    (doCoreResume a m s).rd R.MDC_STATUS.STATE m = 1 ∧ (doCoreResume a m s).rd (R.DBG_C_STATUS.HALTED m) 0 = 0 ∧
    ((doCoreResume a m s).core m).haltReq = 0 ∧ ((doCoreResume a m s).core m).noHalt = true ∧
    (doCoreResume a m s).rd (intBit .mdc 2) m = 1 := by
  obtain ⟨hstate, hhalted, hint⟩ := State.resumeCore_regs (s := s) hm
  obtain ⟨hreq, hno⟩ := State.resumeCore_core (s := s) (m := m)
  rw [doCoreResume, h, if_neg Bool.false_ne_true, State.respond_rd, State.respond_rd, State.respond_rd, State.respond_core]
  exact ⟨hstate, hhalted, hreq, hno, hint⟩

theorem doCoreStep_steps (hm : m < 16) (h : s.resumeRefused m = false) :
    (doCoreStep a m s).rd R.MDC_STATUS.STATE m = 1 ∧ (doCoreStep a m s).rd (R.DBG_C_STATUS.HALTED m) 0 = 0 ∧
    ((doCoreStep a m s).core m).haltReq = 3 ∧ (doCoreStep a m s).rd (R.DBG_C_STATUS.PENDING m) 0 = 1 := by
  obtain ⟨hstate, hhalted, -⟩ := State.resumeCore_regs (s := s) hm
  rw [doCoreStep, h, if_neg Bool.false_ne_true, State.respond_rd, State.respond_rd, State.respond_rd,
    State.respond_core, State.wr_core, State.core_modCore]
  refine ⟨?_, ?_, ?_, ?_⟩
  · rw [State.rd_wr_apart (f := R.DBG_C_STATUS.PENDING m) (g := R.MDC_STATUS.STATE)
      (Fld.apart_of_page (Ne.symm mdc_ne_dbg)), State.modCore_rd]
    exact hstate
  · rw [State.rd_wr_apart (f := R.DBG_C_STATUS.PENDING m) (g := R.DBG_C_STATUS.HALTED m)
      (Fld.apart_of (.inr (show 7 % 32 ≠ 0 % 32 by decide))), State.modCore_rd]
    exact hhalted
  · rfl
  · rw [State.rd_wr_self]
    rfl

theorem doCoreResume_refused (h : s.resumeRefused m = true) : (doCoreResume a m s).cores = s.cores ∧
    (doCoreResume a m s).rd (errValid .dbg) 0 = 1 ∧
    (doCoreResume a m s).rd R.MDC_STATUS.STATE m = s.rd R.MDC_STATUS.STATE m := by
  rw [doCoreResume, if_pos h]
  exact ⟨State.errReg_cores .., State.err_valid .., State.errReg_rd _ _ _ _ _ rfl _⟩

/-! ## CORE_HALT_ENTRY (R486, R487) -/

theorem exec_coreHaltEntry {m : Fin 16} : exec (.coreHaltEntry m) s = .next (doCoreHaltEntry m.val s) := rfl

/-- A core with a request keeps it at a boundary, whatever its breakpoints. -/
theorem State.breakCheck_requested (hr : (s.core m).haltReq ≠ 0) : (s.breakCheck m).core m = s.core m := by
  unfold State.breakCheck
  extract_lets c
  split
  · rfl
  · split
    · rfl
    next k _ =>
      extract_lets s1
      split
      · exact State.core_of_cores ((State.decideHalt_keeps (M := 2287121625776129) rfl (Keeps.refl _ s)).same .cores rfl) m
      · rfl

/-- The core drains and its request is taken. -/
def State.haltDrained (s : State) (m : Nat) : State :=
  (s.dropReservation m).modCore m (fun c => { c.drain with haltReq := 0, noHalt := false })

/-- The core is halted, and its status says so. -/
def State.haltShown (s : State) (m cause : Nat) : State :=
  (((((s.haltDrained m).traceHalt m).wr R.MDC_STATUS.STATE m 3).wr (R.DBG_C_STATUS.HALTED m) 0 1).wr
    (R.DBG_C_STATUS.CAUSE m) 0 cause).wr (R.DBG_C_STATUS.PENDING m) 0 0

/-- The core halts with its request's cause. -/
def State.enterHalt (s : State) (m cause : Nat) : State :=
  ((((s.haltShown m cause).raise .dbg 0 2).showCore m).checkEmuHalted)

theorem doCoreHaltEntry_halts (hready : s.coreReady m = true) (ho : (s.core m).openBoundary = true)
    (hr : (s.core m).haltReq ≠ 0) (hn : (s.core m).noHalt = false) :
    doCoreHaltEntry m s = (s.breakCheck m).enterHalt m (s.core m).haltReq := by
  have hcore := State.breakCheck_requested hr
  have hhalts : (s.breakCheck m).haltsNow m = true := by
    rw [State.haltsNow, hcore, ho, hn, decide_eq_true hr]
    rfl
  unfold doCoreHaltEntry
  rw [hready, ho, if_neg (by decide), if_pos rfl]
  extract_lets s1 cause s2 s3
  have hc : cause = (s.core m).haltReq := congrArg Core.haltReq hcore
  rw [show s1.haltsNow m = true from hhalts, if_neg (by decide), ← hc]
  rfl

theorem State.haltDrained_core : ∃ g d, (s.haltDrained m).core m =
    { s.core m with regs := g, due := d, resv := none, haltReq := 0, noHalt := false } := by
  obtain ⟨g, d, h⟩ := Core.drain_frame ((s.dropReservation m).core m)
  refine ⟨g, d, ?_⟩
  rw [State.haltDrained, State.core_modCore, h, State.dropReservation_core]

theorem State.checkEmuHalted_rd {g : Fld} (h1 : R.DBG_STATUS.EMU.apart g = true) (h2 : (intBit .dbg 0).apart g = true) (d : Nat) :
    s.checkEmuHalted.rd g d = s.rd g d := by
  unfold State.checkEmuHalted
  split
  · rw [State.raise_rd_apart h2, State.rd_wr_apart h1]
  · rfl

theorem State.checkEmuHalted_cores : s.checkEmuHalted.cores = s.cores :=
  (State.checkEmuHalted_keeps (M := 36284219260929) rfl (Keeps.refl _ s)).same .cores rfl

theorem State.enterHalt_core (cause : Nat) : ((s.enterHalt m cause).core m).haltReq = 0 ∧
    ((s.enterHalt m cause).core m).resv = none := by
  obtain ⟨g, d, hdrained⟩ := State.haltDrained_core (s := s) (m := m)
  have htrace := (State.packet_traceOnly (m := m) (s := s.haltDrained m)
    (0x04 :: leBytes (s.haltDrained m).traceStamp 6)).core
  have hcores : (s.enterHalt m cause).cores = ((s.haltDrained m).traceHalt m).cores := by
    rw [State.enterHalt, State.checkEmuHalted_cores, State.showCore_cores, State.raise_cores]
    rfl
  rw [State.core_of_cores hcores]
  have hkept : (((s.haltDrained m).traceHalt m).core m).untraced = ((s.haltDrained m).core m).untraced := htrace
  rw [hdrained] at hkept
  obtain ⟨hreq, -, hresv⟩ := Core.halt_of_untraced hkept
  exact ⟨hreq, hresv⟩

theorem State.enterHalt_status (hm : m < 16) (cause : Nat) {g : Fld} (hp : g.page = .dbg) (hg : g.off = 0x104 + 0x40 * m) :
    (s.enterHalt m cause).rd g 0 = (s.haltShown m cause).rd g 0 := by
  have hmdc : ∀ {f : Fld}, f.page = .mdc → f.apart g = true := fun hf =>
    Fld.apart_of_page (by rw [hf, hp]; decide)
  rw [State.enterHalt, State.checkEmuHalted_rd (coreStatus_apart hm hg (by decide)) (coreStatus_apart hm hg (by decide)),
    State.showCore_rd (hmdc rfl) (hmdc rfl) (hmdc rfl), State.raise_coreStatus hm _ _ _ hg]

theorem State.haltShown_status (cause : Nat) : (s.haltShown m cause).rd (R.DBG_C_STATUS.HALTED m) 0 = 1 ∧
    (s.haltShown m cause).rd (R.DBG_C_STATUS.PENDING m) 0 = 0 ∧
    (s.haltShown m cause).rd (R.DBG_C_STATUS.CAUSE m) 0 = cause % 8 ∧ (s.haltShown m cause).rd R.MDC_STATUS.STATE m = 3 := by
  have hlo : ∀ {f g : Fld}, f.lo % 32 ≠ g.lo % 32 → f.apart g = true := fun h => Fld.apart_of (.inr h)
  have hmdc : ∀ {f : Fld}, f.page = .dbg → f.apart R.MDC_STATUS.STATE = true := fun hf =>
    Fld.apart_of_page (by rw [hf]; decide)
  unfold State.haltShown
  refine ⟨?_, State.rd_wr_self .., ?_, ?_⟩
  · rw [State.rd_wr_apart (hlo (show 7 % 32 ≠ 0 % 32 by decide)), State.rd_wr_apart (hlo (show 1 % 32 ≠ 0 % 32 by decide)),
      State.rd_wr_self]
    rfl
  · rw [State.rd_wr_apart (hlo (show 7 % 32 ≠ 1 % 32 by decide)), State.rd_wr_self]
    rfl
  · rw [State.rd_wr_apart (hmdc rfl), State.rd_wr_apart (hmdc rfl), State.rd_wr_apart (hmdc rfl), State.rd_wr_self]
    rfl

theorem State.enterHalt_mdc (cause : Nat) : (s.enterHalt m cause).rd R.MDC_STATUS.STATE m = 3 ∧
    (s.enterHalt m cause).rd (intBit .dbg 2) 0 = 1 := by
  obtain ⟨-, -, -, hstate⟩ := State.haltShown_status (s := s) (m := m) cause
  rw [State.enterHalt]
  refine ⟨?_, ?_⟩
  · rw [State.checkEmuHalted_rd rfl rfl, State.showCore_rd rfl rfl rfl, State.raise_rd_apart rfl, hstate]
  · rw [State.checkEmuHalted_rd rfl rfl, State.showCore_rd rfl rfl rfl, State.raise_self]

/-! ## CORE_REGISTER_WRITE (R489) -/

theorem exec_coreRegisterWrite {m : Fin 16} {v : W32} (h : s.accessCode a .dbg 0 (0x11C + 0x40 * m.val) true = 0) :
    exec (.coreRegisterWrite a m v) s = .next (doCoreRegisterWrite a m.val v s) := congrArg _ (State.access_ok h _)

/-- The selected register of a halted core takes the value. -/
theorem doCoreRegisterWrite_writes {v : W32} (hh : s.on (R.DBG_C_STATUS.HALTED m) 0 = true)
    (hl : debugListed (s.rd (R.DBG_C_REGSEL.REG m) 0) (s.rd (R.DBG_C_REGSEL.PART m) 0) = true) :
    (doCoreRegisterWrite a m v s).core m = (s.core m).debugWrite (s.rd (R.DBG_C_REGSEL.REG m) 0)
      (s.rd (R.DBG_C_REGSEL.PART m) 0) ((s.staged a .dbg 0 (0x110 + 0x40 * m)).apply (s.debugRegister m) v) ∧
    (doCoreRegisterWrite a m v s).outbox = s.outbox ++ [.regResp a 0 0] := by
  unfold doCoreRegisterWrite
  extract_lets off r part x
  rw [hh, show debugListed r part = true from hl, if_neg (by decide)]
  exact ⟨State.core_modCore m (fun c => c.debugWrite r part x), rfl⟩

theorem Core.reg_setReg (c : Core) (r v : Nat) : (c.setReg r v).reg r = v := SMap.get_set_self _ _ _ _

theorem Core.debugWrite_data (c : Core) {r : Nat} (h : r < 32) (part : Nat) (v : W128) :
    (c.debugWrite r part v).reg r = v.toNat := by
  unfold Core.debugWrite
  extract_lets w
  rw [if_pos h, Core.reg_setReg]

/-- A write of PC drops a pending branch and a repeat. -/
theorem Core.debugWrite_pc (c : Core) (part : Nat) (v : W128) : (c.debugWrite 64 part v).branch = none ∧
    (c.debugWrite 64 part v).rep = none ∧ (c.debugWrite 64 part v).pc = bitsOf v.toNat 0 32 := by
  refine ⟨rfl, rfl, ?_⟩
  change (Core.setReg _ 64 (bitsOf v.toNat 0 32 % 2 ^ 32)).reg 64 = _
  rw [Core.reg_setReg]
  exact Nat.mod_mod _ _

/-! ## O54 -/

/-- Settles O54: a halt request waits at the core and is taken at an open boundary, RESUME and STEP let a halted core run,
and a write of REGDATA3 reaches the selected register. -/
theorem coresAreDebugged : Obligations.CoresAreDebugged := by
  refine ⟨fun a m s hc => ⟨fun hh hr => ⟨_, exec_coreHalt hc, doCoreHalt_requests hh hr⟩,
      fun h => ⟨_, exec_coreResume hc, doCoreResume_resumes m.isLt h⟩,
      fun h => ⟨_, exec_coreStep hc, doCoreStep_steps m.isLt h⟩,
      fun h => ⟨_, exec_coreResume hc, doCoreResume_refused h⟩⟩,
    fun m s hready ho hr hn => ⟨_, exec_coreHaltEntry, ?_⟩, fun a m v s hc hh hl => ⟨_, exec_coreRegisterWrite hc, ?_⟩⟩
  · rw [doCoreHaltEntry_halts hready ho hr hn]
    obtain ⟨hstate, hint⟩ := State.enterHalt_mdc (s := s.breakCheck m.val) (m := m.val) (s.core m.val).haltReq
    obtain ⟨hhalted, hpending, hcause, -⟩ :=
      State.haltShown_status (s := s.breakCheck m.val) (m := m.val) (s.core m.val).haltReq
    obtain ⟨hreq, hresv⟩ := State.enterHalt_core (s := s.breakCheck m.val) (m := m.val) (s.core m.val).haltReq
    exact ⟨hstate, (State.enterHalt_status m.isLt _ rfl rfl).trans hhalted,
      (State.enterHalt_status m.isLt _ rfl rfl).trans hpending, (State.enterHalt_status m.isLt _ rfl rfl).trans hcause,
      hreq, hresv, hint⟩
  · obtain ⟨hcore, hout⟩ := doCoreRegisterWrite_writes (a := a) (v := v) hh hl
    rw [hcore]
    refine ⟨fun hr => Core.debugWrite_data _ hr _ _, fun hr => ?_, hout⟩
    rw [hr]
    exact Core.debugWrite_pc _ _ _

end Sys2Proof.Machine

/-! The virtual terminals and the notes of the model cores (R495 to R497). -/

namespace Sys2Proof.Machine
open Sys2Proof

variable {a : Accessor} {m : Nat} {v : W32} {s : State}

/-! ## The counts of a terminal (R495) -/

theorem txCount_plain (_ : m < 16) : errorReg ((0x138 + 0x40 * m) % 4096) = false := by
  unfold errorReg
  simp only [Bool.or_eq_false_iff, beq_eq_false_iff_ne]
  omega

/-- The two counts show how many bytes the FIFOs hold. -/
theorem State.showVt_rd : (s.showVt m).rd (R.DBG_VT_STATUS.TX_COUNT m) 0 = (s.core m).vtTx.length % 128 ∧
    (s.showVt m).rd (R.DBG_VT_STATUS.RX_COUNT m) 0 = (s.core m).vtRx.length % 128 := by
  unfold State.showVt
  rw [State.rd_wr_apart (f := R.DBG_VT_STATUS.RX_COUNT m) (g := R.DBG_VT_STATUS.TX_COUNT m)
    (Fld.apart_of (.inr (show 8 % 32 ≠ 0 % 32 by decide))), State.rd_wr_self, State.rd_wr_self]
  exact ⟨rfl, rfl⟩

theorem State.showVt_core : (s.showVt m).core m = s.core m := rfl

/-- A FIFO of fewer than 64 bytes that takes one more shows it. -/
theorem length_push {l : List Nat} (h : l.length < 64) (b : Nat) : (l ++ [b]).length % 128 = l.length + 1 := by
  rw [List.length_append, List.length_singleton]
  exact Nat.mod_eq_of_lt (by omega)

theorem bitsOf_byte (n : Nat) : bitsOf n 0 8 = n % 256 :=
  congrArg (· % 256) (Nat.div_one n)

/-! ## TX (R495, R496) -/

theorem exec_vtTxWrite {m : Fin 16} (h : s.accessCode (.core m) .dbg 0 (0x130 + 0x40 * m.val) true = 0) :
    exec (.vtTxWrite m v) s = .next ((doVtTxWrite m.val v s).respond (.core m) true 0) := congrArg _ (State.access_ok h _)

theorem exec_vtTxRead {m : Fin 16} (h : s.accessCode a .dbg 0 (0x130 + 0x40 * m.val) false = 0) :
    exec (.vtTxRead a m) s = .next (doVtTxRead a m.val s) := congrArg _ (State.access_ok h _)

/-- The byte is in TX, and the counts show it. -/
def State.txTaken (s : State) (m b : Nat) : State := (s.modCore m (fun c => { c with vtTx := c.vtTx ++ [b] })).showVt m

theorem State.txTaken_shows (h : (s.core m).vtTx.length < 64) (b : Nat) :
    ((s.txTaken m b).core m).vtTx = (s.core m).vtTx ++ [b] ∧
    (s.txTaken m b).rd (R.DBG_VT_STATUS.TX_COUNT m) 0 = (s.core m).vtTx.length + 1 := by
  rw [State.txTaken, State.showVt_core, State.showVt_rd.1, State.core_modCore]
  exact ⟨rfl, length_push h b⟩

theorem doVtTxWrite_room (h : (s.core m).vtTx.length < 64) : doVtTxWrite m v s =
    if (s.core m).vtTx.isEmpty then (s.txTaken m (v.toNat % 256)).raise .dbg 0 5 else s.txTaken m (v.toNat % 256) := by
  rw [doVtTxWrite, if_pos h, bitsOf_byte]
  rfl

theorem doVtTxWrite_takes (hm : m < 16) (h : (s.core m).vtTx.length < 64) :
    ((doVtTxWrite m v s).core m).vtTx = (s.core m).vtTx ++ [v.toNat % 256] ∧
    (doVtTxWrite m v s).rd (R.DBG_VT_STATUS.TX_COUNT m) 0 = (s.core m).vtTx.length + 1 ∧
    ((s.core m).vtTx = [] → (doVtTxWrite m v s).rd (intBit .dbg 5) 0 = 1) := by
  obtain ⟨htx, hcount⟩ := State.txTaken_shows h (v.toNat % 256)
  rw [doVtTxWrite_room h]
  split
  · refine ⟨?_, ?_, fun _ => State.raise_self ..⟩
    · rw [State.core_of_cores (State.raise_cores ..), htx]
    · rw [State.raise_rd _ _ _ (g := R.DBG_VT_STATUS.TX_COUNT m) (txCount_plain hm), hcount]
  next hne => exact ⟨htx, hcount, fun he => absurd (List.isEmpty_iff.2 he) hne⟩

theorem doVtTxWrite_drops (h : 64 ≤ (s.core m).vtTx.length) (hf : s.rd (R.DBG_VT_STATUS.FALLBACK m) 0 = 0) :
    (doVtTxWrite m v s).cores = s.cores ∧ (doVtTxWrite m v s).rd (R.DBG_VT_STATUS.DROPPED m) 0 =
      satAdd 8 (s.rd (R.DBG_VT_STATUS.DROPPED m) 0) 1 := by
  have hdrop : doVtTxWrite m v s = s.count (R.DBG_VT_STATUS.DROPPED m) 0 1 := by
    rw [doVtTxWrite, if_neg (Nat.not_lt.2 h), State.on, hf]
    rfl
  rw [hdrop]
  refine ⟨rfl, ?_⟩
  rw [State.count, State.rd_wr_self]
  exact Nat.mod_eq_of_lt (Nat.lt_of_le_of_lt (Nat.min_le_right ..) (show 2 ^ 8 - 1 < 2 ^ 8 by decide))

theorem doVtTxRead_removes (hq : s.quiet a = false) : ((doVtTxRead a m s).core m).vtTx = (s.core m).vtTx.tail ∧
    (doVtTxRead a m s).rd (R.DBG_VT_STATUS.TX_COUNT m) 0 = (s.core m).vtTx.tail.length % 128 ∧
    (doVtTxRead a m s).outbox = s.outbox ++ [.regResp a 0 (BitVec.ofNat 32 (vtHead (s.core m).vtTx))] := by
  rw [doVtTxRead, hq, if_neg Bool.false_ne_true, State.respond_core, State.respond_rd, State.showVt_core, State.showVt_rd.1,
    State.core_modCore]
  exact ⟨rfl, rfl, rfl⟩

/-! ## RX (R495) -/

/-- The host and the debug path write RX. -/
theorem exec_vtRxWrite {m : Fin 16} (h : s.accessCode a .dbg 0 (0x134 + 0x40 * m.val) true = 0)
    (ha : a = .host ∨ viaDebug a = true) : exec (.vtRxWrite a m v) s = .next (doVtRxWrite a m.val v s) := by
  refine congrArg _ ((State.access_ok h _).trans ?_)
  cases a with
  | host => rfl
  | pcieDbg => rfl
  | jtag => rfl
  | core k => rcases ha with ha | ha <;> cases ha
  | fw k => rcases ha with ha | ha <;> cases ha

theorem doVtRxWrite_takes (h : (s.core m).vtRx.length < 64) :
    ((doVtRxWrite a m v s).core m).vtRx = (s.core m).vtRx ++ [v.toNat % 256] ∧
    (doVtRxWrite a m v s).rd (R.DBG_VT_STATUS.RX_COUNT m) 0 = (s.core m).vtRx.length + 1 ∧
    (doVtRxWrite a m v s).outbox = s.outbox ++ [.regResp a 0 0] := by
  rw [doVtRxWrite, if_neg (Nat.not_le.2 h), bitsOf_byte, State.respond_core, State.respond_rd, State.showVt_core,
    State.showVt_rd.2, State.core_modCore]
  exact ⟨rfl, length_push h _, rfl⟩

theorem doVtRxWrite_refuses (h : 64 ≤ (s.core m).vtRx.length) : (doVtRxWrite a m v s).cores = s.cores ∧
    (doVtRxWrite a m v s).rd (errValid .dbg) 0 = 1 := by
  rw [doVtRxWrite, if_pos h, State.refuseAccess, State.respond_cores, State.respond_rd]
  split
  · rw [State.raise_cores, State.errReg_cores, State.raise_rd_apart (Fld.apart_of_page (by decide))]
    exact ⟨rfl, State.err_valid ..⟩
  · exact ⟨State.errReg_cores .., State.err_valid ..⟩

theorem exec_vtRxRead {m : Fin 16} (h : s.accessCode (.core m) .dbg 0 (0x134 + 0x40 * m.val) false = 0) :
    exec (.vtRxRead m) s = .next (s.vtRxRead (.core m) m.val) := congrArg _ (State.access_ok h _)

theorem State.vtRxRead_removes (k : Fin 16) : ((s.vtRxRead (.core k) m).core m).vtRx = (s.core m).vtRx.tail ∧
    (s.vtRxRead (.core k) m).outbox = s.outbox ++ [.regResp (.core k) 0 (BitVec.ofNat 32 (vtHead (s.core m).vtRx))] := by
  refine ⟨?_, rfl⟩
  change ((State.respond ..).core m).vtRx = _
  rw [State.respond_core, State.showVt_core, State.core_modCore]

/-! ## Notes (R497) -/

theorem exec_noteWrite {m c : Fin 16} (h : s.accessCode (.core m) .dbg 0 (0x800 + 0x40 * m.val + 4 * c.val) true = 0) :
    exec (.noteWrite m c v) s = .next ((doNoteWrite m.val c.val v s).respond (.core m) true 0) :=
  congrArg _ (State.access_ok h _)

theorem doNoteWrite_untraced (h : s.traced m = false) (c : Nat) : doNoteWrite m c v s = s := by
  rw [doNoteWrite, State.traceNote, State.packet, h]
  rfl

/-! ## O56 -/

/-- Settles O56: a byte enters a FIFO that has room and leaves it at its head, and a note of a traced core is a packet. -/
theorem terminalsAndNotes : Obligations.TerminalsAndNotes := by
  refine ⟨fun m v s hc => ⟨fun h => ⟨_, exec_vtTxWrite hc, ?_⟩, fun h hf => ⟨_, exec_vtTxWrite hc, ?_⟩⟩,
    fun a m s hc hq => ⟨_, exec_vtTxRead hc, doVtTxRead_removes hq⟩,
    fun a m v s hc ha => ⟨fun h => ⟨_, exec_vtRxWrite hc ha, doVtRxWrite_takes h⟩,
      fun h => ⟨_, exec_vtRxWrite hc ha, doVtRxWrite_refuses h⟩⟩,
    fun m s hc => ⟨_, exec_vtRxRead hc, State.vtRxRead_removes m⟩,
    fun m c v s hc => ⟨fun h => ⟨_, exec_noteWrite hc, ?_⟩,
      fun _ => ⟨_, exec_noteWrite hc, State.respond_cores ..⟩⟩⟩
  · rw [State.respond_core, State.respond_rd, State.respond_rd]
    exact doVtTxWrite_takes m.isLt h
  · rw [State.respond_cores, State.respond_rd]
    exact doVtTxWrite_drops h hf
  · rw [doNoteWrite_untraced h]
    exact ⟨rfl, rfl⟩

end Sys2Proof.Machine

/-! Trace (R484, R498, R503, R504, R506): it is enabled, its frames go to the sink, and the internal buffer is read. -/

namespace Sys2Proof.Machine
open Sys2Proof

variable {a : Accessor} {m : Nat} {v : W32} {s : State}

/-! ## TRACE_ENABLE (R498, R504, R506) -/

theorem exec_traceEnable (h : s.accessCode a .trc 0 0x04 true = 0) :
    exec (.traceEnable a v) s = .next (doTraceControl a (setBit v.toNat 0 1) s) := congrArg _ (State.access_ok h _)

/-- Setting bit 0 leaves the bits above it. -/
theorem bitsOf_setBit_zero (x : Nat) : bitsOf (setBit x 0 1) 1 2 = bitsOf x 1 2 := by
  simp only [bitsOf, setBit, setBits]
  omega

/-- The fields of TRC_CTRL as a write with EN = 1 leaves them. -/
def State.traceSet (s : State) (v : Nat) : State :=
  ((s.wr R.TRC_CTRL.EN 0 1).wr R.TRC_CTRL.SINK 0 (bitsOf v 1 2)).wr R.TRC_CTRL.STOP_ON_FULL 0 (bitOf (setBit v 0 1) 3)

theorem doTraceControl_starts {v : Nat} (he : s.rd R.TRC_CTRL.EN 0 = 0) (hs : bitsOf v 1 2 ≠ 3)
    (hd : leastDiv (bitsOf v 1 2) ≤ s.rd R.TRC_PORT.DIV 0) :
    doTraceControl a (setBit v 0 1) s = (s.traceSet v).traceStart.respond a true 0 := by
  unfold doTraceControl
  rw [bitsOf_setBit_zero, bitOf_setBit, State.on, he]
  extract_lets on sink s1 s2
  have hon : on = false := rfl
  have hok : ¬(sink = 3 ∨ (on ∧ sink ≠ s.rd R.TRC_CTRL.SINK 0) ∨ s.rd R.TRC_PORT.DIV 0 < leastDiv sink) := by
    rintro (h | ⟨h, -⟩ | h)
    · exact hs h
    · exact Bool.false_ne_true (hon ▸ h)
    · exact Nat.not_lt.2 hd h
  rw [if_neg hok]
  rfl

/-- The packets of every core start anew. -/
theorem tracesCleared (l : List Nat) :
    ∃ c, l.foldl (fun (s : State) m => s.modTrace m (fun _ => {})) s = { s with cores := c } := by
  refine List.foldlRecOn (motive := fun t : State => ∃ c, t = { s with cores := c }) l _ ⟨s.cores, rfl⟩ (fun t ht m _ => ?_)
  obtain ⟨c, rfl⟩ := ht
  exact ⟨_, rfl⟩

theorem State.traceStart_shows : s.traceStart.rd R.TRC_STATUS.ACTIVE 0 = 1 ∧ s.traceStart.rd R.TRC_STATUS.BUF_FULL 0 = 0 ∧
    s.traceStart.traceFrom = s.coreTicks ∧ s.traceStart.trace = {} ∧ s.traceStart.outbox = s.outbox ∧
    ∀ g : Fld, g.off = 4 → ∀ d, s.traceStart.rd g d = s.rd g d := by
  unfold State.traceStart
  extract_lets s1 s2
  obtain ⟨c, hc⟩ := tracesCleared (s := s1) (List.range 16)
  have h2 : s2 = { s1 with cores := c } := hc
  have hapart : ∀ {f g : Fld}, g.off = 4 → f.off % 4096 ≠ 4 → f.apart g = true := fun hg hf =>
    Fld.apart_of (.inl (by rw [hg]; exact hf))
  rw [h2]
  refine ⟨?_, ?_, rfl, rfl, rfl, fun g hg d => ?_⟩
  · rw [State.rd_wr_apart rfl, State.rd_wr_apart rfl, State.rd_wr_self]
    rfl
  · rw [State.rd_wr_apart rfl, State.rd_wr_self]
    rfl
  · rw [State.rd_wr_apart (hapart hg (by decide)), State.rd_wr_apart (hapart hg (by decide)),
      State.rd_wr_apart (hapart hg (by decide))]
    rfl

theorem doTraceControl_enabled {v : Nat} (he : s.rd R.TRC_CTRL.EN 0 = 0) (hs : bitsOf v 1 2 ≠ 3)
    (hd : leastDiv (bitsOf v 1 2) ≤ s.rd R.TRC_PORT.DIV 0) :
    (doTraceControl a (setBit v 0 1) s).rd R.TRC_CTRL.EN 0 = 1 ∧
    (doTraceControl a (setBit v 0 1) s).rd R.TRC_CTRL.SINK 0 = bitsOf v 1 2 ∧
    (doTraceControl a (setBit v 0 1) s).rd R.TRC_STATUS.ACTIVE 0 = 1 ∧
    (doTraceControl a (setBit v 0 1) s).rd R.TRC_STATUS.BUF_FULL 0 = 0 ∧
    (doTraceControl a (setBit v 0 1) s).traceFrom = s.coreTicks ∧ (doTraceControl a (setBit v 0 1) s).trace = {} ∧
    (doTraceControl a (setBit v 0 1) s).outbox = s.outbox ++ [.regResp a 0 0] := by
  obtain ⟨hactive, hfull, hfrom, htrace, hout, hrd⟩ := State.traceStart_shows (s := s.traceSet v)
  rw [doTraceControl_starts he hs hd, State.respond_rd, State.respond_rd, State.respond_rd, State.respond_rd,
    State.respond_traceFrom, State.respond_trace, State.respond_outbox, hrd _ rfl, hrd _ rfl, hactive, hfull, hfrom, htrace, hout]
  refine ⟨?_, ?_, rfl, rfl, rfl, rfl, rfl⟩
  · rw [State.traceSet, State.rd_wr_apart rfl, State.rd_wr_apart rfl, State.rd_wr_self]
    rfl
  · rw [State.traceSet, State.rd_wr_apart rfl, State.rd_wr_self]
    exact Nat.mod_mod _ _

/-- There is no sink 3. -/
theorem doTraceControl_refuses {v : Nat} (hs : bitsOf v 1 2 = 3) :
    (doTraceControl a (setBit v 0 1) s).rd R.TRC_CTRL.EN 0 = s.rd R.TRC_CTRL.EN 0 ∧
    (doTraceControl a (setBit v 0 1) s).trace = s.trace ∧ (doTraceControl a (setBit v 0 1) s).rd (errValid .trc) 0 = 1 := by
  have hrefused : doTraceControl a (setBit v 0 1) s = s.refuseWrite a .trc 0 0x04 4 := by
    unfold doTraceControl
    rw [bitsOf_setBit_zero]
    exact if_pos (.inl hs)
  rw [hrefused]
  exact ⟨State.refuseWrite_rd _ _ _ _ rfl _, State.errReg_trace .., State.refuseWrite_valid ..⟩

/-! ## Frames (R503, R504) -/

/-- A sync frame is due at first and then once in 4,096 frames. -/
def State.syncFrameDue (s : State) : Bool :=
  match s.trace.since with
  | none => true
  | some n => decide (4095 ≤ n)

/-- The framer counts a data frame and passes the turn. -/
def State.frameCounted (s : State) (turn : Nat) : State :=
  s.modFramer (fun t => { t with fseq := (t.fseq + 1) % 128, since := t.since.map (· + 1), turn := turn })

/-- A core's bytes leave its FIFO. -/
def State.bytesFramed (s : State) (m : Nat) : State :=
  (s.frameCounted ((m + 1) % 16)).modTrace m (fun t => { t with fifo := t.fifo.drop 18 })

theorem doTraceFrame_eq (he : s.rd R.TRC_CTRL.EN 0 = 1) (hs : s.trace.stopped = false) : doTraceFrame s =
    if s.syncFrameDue then (s.modFramer (fun t => { t with since := some 0 })).traceOut syncFrame
    else
      match s.nextTraced with
      | none => (s.frameCounted s.trace.turn).traceOut (dataFrame 0 s.trace.fseq [])
      | some m => ((s.bytesFramed m).traceRecover m).traceOut (dataFrame m s.trace.fseq ((s.core m).trace.fifo.take 18)) := by
  rw [doTraceFrame, State.on, he, hs]
  rfl

theorem State.traceOut_emits {f : List Nat} (h : s.rd R.TRC_CTRL.SINK 0 ≠ 2) :
    s.traceOut f = s.emit (.trace (s.rd R.TRC_CTRL.SINK 0) f) := if_neg h

theorem State.ringFrame_room {f : List Nat} (hl : s.trace.ring.length < 1024) (hp : s.rd R.TRC_BUF_POS.FRAME 0 < 1023) :
    s.ringFrame f = (s.modFramer (fun t => { t with ring := t.ring ++ [f] })).wr R.TRC_BUF_POS.FRAME 0
      ((s.rd R.TRC_BUF_POS.FRAME 0 + 1) % 1024) := by
  unfold State.ringFrame
  extract_lets pos s1
  rw [if_neg (fun h => absurd h.1 (Nat.ne_of_lt hp))]
  simp only [s1, State.modFramer, hl, if_true]
  rfl

theorem doTraceFrame_sync (he : s.rd R.TRC_CTRL.EN 0 = 1) (hs : s.trace.stopped = false) (hn : s.trace.since = none)
    (hk : s.rd R.TRC_CTRL.SINK 0 ≠ 2) : (doTraceFrame s).trace.since = some 0 ∧ (doTraceFrame s).trace.fseq = s.trace.fseq ∧
    (doTraceFrame s).outbox = s.outbox ++ [.trace (s.rd R.TRC_CTRL.SINK 0) syncFrame] := by
  have hdue : s.syncFrameDue = true := by rw [State.syncFrameDue, hn]
  have hframe : doTraceFrame s = (s.modFramer (fun t => { t with since := some 0 })).emit
      (.trace (s.rd R.TRC_CTRL.SINK 0) syncFrame) := by
    rw [doTraceFrame_eq he hs, if_pos hdue]
    exact State.traceOut_emits (s := s.modFramer (fun t => { t with since := some 0 })) hk
  rw [hframe]
  exact ⟨rfl, rfl, rfl⟩

theorem doTraceFrame_ring (he : s.rd R.TRC_CTRL.EN 0 = 1) (hs : s.trace.stopped = false) (hn : s.trace.since = none)
    (hk : s.rd R.TRC_CTRL.SINK 0 = 2) (hl : s.trace.ring.length < 1024) (hp : s.rd R.TRC_BUF_POS.FRAME 0 < 1023) :
    (doTraceFrame s).trace.ring = s.trace.ring ++ [syncFrame] ∧
    (doTraceFrame s).rd R.TRC_BUF_POS.FRAME 0 = s.rd R.TRC_BUF_POS.FRAME 0 + 1 ∧ (doTraceFrame s).outbox = s.outbox := by
  have hdue : s.syncFrameDue = true := by rw [State.syncFrameDue, hn]
  have hframe : doTraceFrame s = (s.modFramer (fun t => { t with since := some 0 })).ringFrame syncFrame := by
    rw [doTraceFrame_eq he hs, if_pos hdue]
    exact if_pos hk
  rw [hframe, State.ringFrame_room (s := s.modFramer (fun t => { t with since := some 0 })) hl hp]
  refine ⟨rfl, ?_, rfl⟩
  rw [State.rd_wr_self]
  change (s.rd R.TRC_BUF_POS.FRAME 0 + 1) % 1024 % 2 ^ 10 = _
  omega

/-! ## The bytes of a core -/

theorem State.modTrace_core (f : CoreTrace → CoreTrace) :
    (s.modTrace m f).core m = { s.core m with trace := f (s.core m).trace } :=
  State.core_modCore m (fun c => { c with trace := f c.trace })

theorem State.traceBytes_room {l : List Nat} (hd : (s.core m).trace.dropping = false)
    (hl : (s.core m).trace.fifo.length + l.length ≤ 256) :
    s.traceBytes m l = s.modTrace m (fun t => { t with fifo := t.fifo ++ l, since := t.since + l.length }) := by
  unfold State.traceBytes
  extract_lets t
  rw [show t.dropping = false from hd, if_neg Bool.false_ne_true, if_neg (Nat.not_lt.2 hl)]

theorem leBytes_length (x n : Nat) : (leBytes x n).length = n := by
  induction n generalizing x with
  | zero => rfl
  | succ n ih => rw [leBytes, List.length_cons, ih]

/-- A SYNC of 11 bytes that fits changes the core's trace alone. -/
theorem State.traceSync_room (hd : (s.core m).trace.dropping = false) (hl : (s.core m).trace.fifo.length ≤ 245) :
    ∃ c, s.traceSync m = { s with cores := c } := by
  have hbytes : (0x01 :: leBytes (s.core m).pc 4 ++ leBytes s.traceStamp 6).length = 11 := by
    rw [List.length_append, List.length_cons, leBytes_length, leBytes_length]
  unfold State.traceSync
  extract_lets pc
  rw [State.traceBytes_room hd (Nat.add_le_add hl hbytes.le)]
  exact ⟨_, rfl⟩

/-- A core's packets begin again, with LOSS. -/
def State.lossSent (s : State) (m : Nat) : State :=
  (s.modTrace m (fun t => { t with dropping := false })).modTrace m
    (fun t => { t with fifo := t.fifo ++ [0x02], since := t.since + 1 })

theorem State.lossSent_trace : ((s.lossSent m).core m).trace.dropping = false ∧
    ((s.lossSent m).core m).trace.fifo = (s.core m).trace.fifo ++ [0x02] := by
  rw [State.lossSent, State.modTrace_core, State.modTrace_core]
  exact ⟨rfl, rfl⟩

theorem State.lossSent_cores : ∃ c, s.lossSent m = { s with cores := c } := ⟨_, rfl⟩

/-- LOSS and SYNC fit into the 64 bytes that are free again. -/
theorem State.lossSent_sync (h : (s.core m).trace.fifo.length ≤ 192) :
    ∃ c, ((s.modTrace m (fun t => { t with dropping := false })).traceBytes m [0x02]).traceSync m = { s with cores := c } := by
  have hcore : (s.modTrace m (fun t => { t with dropping := false })).core m =
      { s.core m with trace := { (s.core m).trace with dropping := false } } := State.modTrace_core _
  have hloss : (s.modTrace m (fun t => { t with dropping := false })).traceBytes m [0x02] = s.lossSent m :=
    State.traceBytes_room (by rw [hcore]) (by rw [hcore]; exact Nat.add_le_add h (by decide : 1 ≤ 64))
  obtain ⟨hdropping, hfifo⟩ := State.lossSent_trace (s := s) (m := m)
  have hlen : ((s.lossSent m).core m).trace.fifo.length ≤ 245 := by
    rw [hfifo, List.length_append, List.length_singleton]
    omega
  obtain ⟨c, hsync⟩ := State.traceSync_room hdropping hlen
  obtain ⟨c', hcores⟩ := State.lossSent_cores (s := s) (m := m)
  rw [hloss, hsync, hcores]
  exact ⟨c, rfl⟩

theorem State.traceRecover_frame (m : Nat) : ∃ c, s.traceRecover m = { s with cores := c } ∨
    s.traceRecover m = ({ s with cores := c } : State).count R.TRC_OVERFLOWS.COUNT 0 1 := by
  unfold State.traceRecover
  extract_lets t
  split
  next h =>
    rw [Bool.and_eq_true, decide_eq_true_eq] at h
    obtain ⟨c, hc⟩ := State.lossSent_sync h.2
    exact ⟨c, .inr (congrArg (fun t => t.count R.TRC_OVERFLOWS.COUNT 0 1) hc)⟩
  · exact ⟨s.cores, .inl rfl⟩

/-- A core whose packets begin again leaves the framer and the sink. -/
theorem State.traceRecover_shows (m : Nat) : (s.traceRecover m).trace = s.trace ∧ (s.traceRecover m).outbox = s.outbox ∧
    (s.traceRecover m).rd R.TRC_CTRL.SINK 0 = s.rd R.TRC_CTRL.SINK 0 := by
  obtain ⟨c, h | h⟩ := State.traceRecover_frame (s := s) m
  · rw [h]
    exact ⟨rfl, rfl, rfl⟩
  · rw [h]
    exact ⟨rfl, rfl, State.rd_wr_apart (s := { s with cores := c }) rfl _ _ _⟩

/-! ## Data frames (R503) -/

theorem State.syncFrameDue_within {n : Nat} (hn : s.trace.since = some n) (hl : n < 4095) : s.syncFrameDue = false := by
  rw [State.syncFrameDue, hn]
  exact decide_eq_false (Nat.not_le.2 hl)

theorem State.frameCounted_trace {n : Nat} (hn : s.trace.since = some n) (turn : Nat) :
    (s.frameCounted turn).trace.fseq = (s.trace.fseq + 1) % 128 ∧ (s.frameCounted turn).trace.since = some (n + 1) ∧
    (s.frameCounted turn).trace.turn = turn :=
  ⟨rfl, congrArg (Option.map (· + 1)) hn, rfl⟩

theorem doTraceFrame_idle {n : Nat} (he : s.rd R.TRC_CTRL.EN 0 = 1) (hs : s.trace.stopped = false) (hn : s.trace.since = some n)
    (hl : n < 4095) (hk : s.rd R.TRC_CTRL.SINK 0 ≠ 2) (hm : s.nextTraced = none) :
    (doTraceFrame s).trace.fseq = (s.trace.fseq + 1) % 128 ∧ (doTraceFrame s).trace.since = some (n + 1) ∧
    (doTraceFrame s).outbox = s.outbox ++ [.trace (s.rd R.TRC_CTRL.SINK 0) (dataFrame 0 s.trace.fseq [])] := by
  obtain ⟨hfseq, hsince, -⟩ := State.frameCounted_trace hn s.trace.turn
  have hframe : doTraceFrame s =
      (s.frameCounted s.trace.turn).emit (.trace (s.rd R.TRC_CTRL.SINK 0) (dataFrame 0 s.trace.fseq [])) := by
    rw [doTraceFrame_eq he hs, State.syncFrameDue_within hn hl, if_neg Bool.false_ne_true, hm]
    exact State.traceOut_emits (s := s.frameCounted s.trace.turn) hk
  rw [hframe]
  exact ⟨hfseq, hsince, rfl⟩

theorem doTraceFrame_data {n : Nat} (he : s.rd R.TRC_CTRL.EN 0 = 1) (hs : s.trace.stopped = false) (hn : s.trace.since = some n)
    (hl : n < 4095) (hk : s.rd R.TRC_CTRL.SINK 0 ≠ 2) (m : Nat) (hm : s.nextTraced = some m) :
    (doTraceFrame s).trace.fseq = (s.trace.fseq + 1) % 128 ∧ (doTraceFrame s).trace.since = some (n + 1) ∧
    (doTraceFrame s).trace.turn = (m + 1) % 16 ∧ (doTraceFrame s).outbox = s.outbox ++
      [.trace (s.rd R.TRC_CTRL.SINK 0) (dataFrame m s.trace.fseq ((s.core m).trace.fifo.take 18))] := by
  obtain ⟨hfseq, hsince, hturn⟩ := State.frameCounted_trace hn ((m + 1) % 16)
  obtain ⟨htrace, hout, hsink⟩ := State.traceRecover_shows (s := s.bytesFramed m) m
  have htrace' : ((s.bytesFramed m).traceRecover m).trace = (s.frameCounted ((m + 1) % 16)).trace := htrace
  have hout' : ((s.bytesFramed m).traceRecover m).outbox = s.outbox := hout
  have hsink' : ((s.bytesFramed m).traceRecover m).rd R.TRC_CTRL.SINK 0 = s.rd R.TRC_CTRL.SINK 0 := hsink
  have hframe : doTraceFrame s = ((s.bytesFramed m).traceRecover m).emit (.trace (s.rd R.TRC_CTRL.SINK 0)
      (dataFrame m s.trace.fseq ((s.core m).trace.fifo.take 18))) := by
    rw [doTraceFrame_eq he hs, State.syncFrameDue_within hn hl, if_neg Bool.false_ne_true, hm]
    dsimp only
    rw [State.traceOut_emits (hsink'.trans_ne hk), hsink']
  rw [hframe, State.emit_trace, State.emit_outbox, htrace', hout']
  exact ⟨hfseq, hsince, hturn, rfl⟩

/-! ## The internal buffer (R484, R504) -/

theorem exec_traceBufferRead (h : s.accessCode a .trc 0 0x5C false = 0) :
    exec (.traceBufferRead a) s = .next (doTraceBufferRead a s) := congrArg _ (State.access_ok h _)

theorem doTraceBufferRead_shows : (doTraceBufferRead a s).trace = (if s.quiet a then s.trace else s.trace.takeWord) ∧
    (doTraceBufferRead a s).outbox = s.outbox ++ [.regResp a 0 (BitVec.ofNat 32 s.traceWord)] := by
  unfold doTraceBufferRead
  split <;> exact ⟨rfl, rfl⟩

/-! ## O57 -/

/-- Settles O57: a write of TRC_CTRL with EN = 1 starts the trace, its frames go to the sink in turn, and a read of the
internal buffer removes a word. -/
theorem traceFramesFlow : Obligations.TraceFramesFlow :=
  ⟨fun _ _ _ hc => ⟨fun he hs hd => ⟨_, exec_traceEnable hc, doTraceControl_enabled he hs hd⟩,
      fun hs => ⟨_, exec_traceEnable hc, doTraceControl_refuses hs⟩⟩,
    fun _ he hs => ⟨fun hn hk => ⟨_, rfl, doTraceFrame_sync he hs hn hk⟩,
      fun hn hk hl hp => ⟨_, rfl, doTraceFrame_ring he hs hn hk hl hp⟩,
      fun _ hn hl hk => ⟨fun hm => ⟨_, rfl, doTraceFrame_idle he hs hn hl hk hm⟩,
        fun m hm => ⟨_, rfl, doTraceFrame_data he hs hn hl hk m hm⟩⟩⟩,
    fun _ _ hc => ⟨_, exec_traceBufferRead hc, doTraceBufferRead_shows⟩⟩

end Sys2Proof.Machine
